-- ==== Sys2Proof/Word.lean ====
section
/-! DEFINITION. The word types of the block: a byte, a 32-bit register word (R10) and the Store's 18-bit word index. -/

namespace Sys2Proof

/-- A byte of the Store, of the fold map or of a message. -/
abbrev Byte := BitVec 8

/-- A register word (R10). -/
abbrev Word := BitVec 32

end Sys2Proof
end

