-- ==== Sys2Proof/Config.lean ====
section
/-! DEFINITION. What an implementation fixes and the spec leaves open: the free values (opaque, with no body), and the
fixed resource counts of R4 and R27. -/

namespace Sys2Proof

/-- DESIGN CHOICE, assumption 3: whether an inexact quotient whose rounding the spec does not state is rounded up. -/
opaque Config.roundUp : Nat → Nat → Bool

/-- DESIGN CHOICE, assumption 2: a value the spec calls undefined or does not state, drawn once for each use of the
state's free counter. -/
opaque Config.freeWord : Nat → BitVec 64

/-- DESIGN CHOICE, assumption 30: the Store rows that the ROM itself uses (R502). -/
opaque Config.romRow : Nat → Bool

/-- The feature bits of ATTACH that the firmware image offers; the spec leaves them to the image: assumption 31 (R603). -/
opaque Config.features : Nat

end Sys2Proof
end

