-- ==== Sys2Proof/Machine/Arith.lean ====
section
/-! DEFINITION. Arithmetic helpers: bit fields, two's complement, saturation, the roundings of R166 and R185,
serial comparison (R23, R24) and CRC-32C (R115). -/

namespace Sys2Proof.Machine

/-- Bits `hi..lo` of `v`. -/
def bitsOf (v hi lo : Nat) : Nat := (v >>> lo) % 2 ^ (hi + 1 - lo)

/-- Bit `i` of `v`. -/
def bitOf (v i : Nat) : Bool := v.testBit i

/-- A Boolean as a one-bit field value. -/
def b2n (b : Bool) : Nat := if b then 1 else 0

/-- `v` with bit `i` set to `b`. -/
def setBit (v i : Nat) (b : Bool) : Nat :=
  if v.testBit i then (if b then v else v - 2 ^ i) else (if b then v + 2 ^ i else v)

/-- Number of bits set among the low `n` bits of `v`. -/
def popCount : Nat → Nat → Nat
  | 0, _ => 0
  | n + 1, v => v % 2 + popCount n (v / 2)

/-- Indices below `n` of the set bits of `v`, rising. -/
def setBits (n v : Nat) : List Nat := (List.range n).filter (fun i => v.testBit i)

/-- The `w`-bit two's complement value of a field. -/
def toS (w v : Nat) : Int :=
  let m := v % 2 ^ w
  if m < 2 ^ (w - 1) then (m : Int) else (m : Int) - (2 ^ w : Nat)

/-- A signed value as a `w`-bit field. -/
def ofS (w : Nat) (x : Int) : Nat := (x % ((2 ^ w : Nat) : Int)).toNat

/-- A counter of `w` bits that saturates (R25). -/
def satAdd (w a b : Nat) : Nat := min (2 ^ w - 1) (a + b)

/-- Clamp of an integer to `lo..hi`. -/
def clampI (lo hi x : Int) : Int := max lo (min hi x)

/-- Quotient to nearest, ties away from zero (R166, R185), for a positive divisor. -/
def rndDiv (a : Int) (b : Nat) : Int :=
  if b = 0 then 0
  else if 0 ≤ a then (((2 * a.toNat + b) / (2 * b) : Nat) : Int)
  else - (((2 * (-a).toNat + b) / (2 * b) : Nat) : Int)

/-- Quotient to nearest, ties away from zero, for any divisor; 0 for a zero divisor. -/
def rndDivI (a b : Int) : Int :=
  if 0 ≤ b then rndDiv a b.toNat else rndDiv (-a) (-b).toNat

/-- A shift by `s` places: right (with the rounding of R166) for `s > 0`, left for `s < 0`. -/
def rndShift (a : Int) (s : Int) : Int :=
  if 0 < s then (if 40 ≤ s then 0 else rndDiv a (2 ^ s.toNat)) else a * ((2 ^ (-s).toNat : Nat) : Int)

/-- Right shift with rounding and no bound on the distance; used where a product is shifted by KEXP (R167). -/
def scaleBy (a : Int) (e : Int) : Int :=
  if 0 ≤ e then a * ((2 ^ e.toNat : Nat) : Int) else rndDiv a (2 ^ (-e).toNat)

/-- Serial-number comparison: `b` is newer than `a` (R23, R24). -/
def newer (n a b : Nat) : Bool :=
  let d := (b + 2 ^ n - a % 2 ^ n) % 2 ^ n
  decide (1 ≤ d) && decide (d ≤ 2 ^ (n - 1) - 1)

/-- A quotient whose rounding the spec leaves open: the floor, or one more where the division is inexact and the open
choice says so. -/
def openDiv (a b : Nat) : Nat :=
  if b = 0 then 0 else if a % b = 0 then a / b else if Config.roundUp a b then a / b + 1 else a / b

/-- The same for a signed dividend. -/
def openDivI (a : Int) (b : Nat) : Int :=
  if b = 0 then 0
  else if a % (b : Int) = 0 then a / (b : Int)
  else if Config.roundUp (2 * a.natAbs + (if a < 0 then 1 else 0)) b then a / (b : Int) + 1 else a / (b : Int)

/-- Base-2 logarithm, for powers of two. -/
def log2 (n : Nat) : Nat := Nat.log2 n

/-- One bit step of the reflected CRC-32C register (R115). -/
def crcBit (c : Nat) : Nat :=
  if c % 2 = 1 then (c / 2) ^^^ 0x82F63B78 else c / 2

/-- One byte of CRC-32C. -/
def crcByte (c b : Nat) : Nat :=
  let x := c ^^^ b
  crcBit (crcBit (crcBit (crcBit (crcBit (crcBit (crcBit (crcBit x)))))))

/-- CRC-32C of a byte string (R115). -/
def crc32c (bs : List Byte) : Nat :=
  (bs.foldl (fun c b => crcByte c b.toNat) 0xFFFFFFFF) ^^^ 0xFFFFFFFF

/-- Little-endian value of a byte list (R88). -/
def leBytes : List Byte → Nat
  | [] => 0
  | b :: t => b.toNat + 256 * leBytes t

/-- `n` little-endian bytes of `v`. -/
def toLeBytes : Nat → Nat → List Byte
  | 0, _ => []
  | n + 1, v => BitVec.ofNat 8 v :: toLeBytes n (v / 256)

/-- Median of a list of integers by sorting; for an even count the mean is taken by the caller. -/
def insertSorted (x : Int) : List Int → List Int
  | [] => [x]
  | y :: t => if x ≤ y then x :: y :: t else y :: insertSorted x t

/-- A list sorted to rising order. -/
def sortInts : List Int → List Int
  | [] => []
  | x :: t => insertSorted x (sortInts t)

/-- Insertion into a list sorted by a key, after equal keys. -/
def insertBy {α : Type} (k : α → Nat) (x : α) : List α → List α
  | [] => [x]
  | y :: t => if k x < k y then x :: y :: t else y :: insertBy k x t

/-- A stable sort by a key. -/
def sortBy {α : Type} (k : α → Nat) (l : List α) : List α :=
  l.foldl (fun acc x => insertBy k x acc) []

/-- The least element of a list of naturals, or a default. -/
def minOf (d : Nat) : List Nat → Nat
  | [] => d
  | x :: t => t.foldl min x

/-- Sum of a list of naturals. -/
def sumN (l : List Nat) : Nat := l.foldl (· + ·) 0

/-- Sum of a list of integers. -/
def sumI (l : List Int) : Int := l.foldl (· + ·) 0

end Sys2Proof.Machine
end

