-- ==== Sys2Proof/Machine/MapCodec.lean ====
section
/-! DEFINITION. The fold map as bytes: records, their keys and fields (R88–R157), and the records in force in a profile
(R149, R150). -/

namespace Sys2Proof.Machine

/-- A record of the fold map: its index over all sections (R110) and its bytes, head included (R105). -/
structure Rec where
  idx : Nat
  bytes : List Byte
deriving DecidableEq, Repr

/-- A decoded fold map: the header, the base records and each profile's override records (R147, R149). -/
structure MapImg where
  header : List Byte
  base : List Rec
  overrides : List (List Rec)
deriving DecidableEq, Repr

/-- A byte of a byte string, 0 past its end. -/
def byteAt (bs : List Byte) (o : Nat) : Nat := (bs.getD o 0).toNat

/-- A little-endian 16-bit field. -/
def u16At (bs : List Byte) (o : Nat) : Nat := byteAt bs o + 256 * byteAt bs (o + 1)

/-- A little-endian 32-bit field. -/
def u32At (bs : List Byte) (o : Nat) : Nat := u16At bs o + 65536 * u16At bs (o + 2)

/-- Byte `o` of a record, counted from its head as the tables of the spec count. -/
def Rec.u8 (r : Rec) (o : Nat) : Nat := byteAt r.bytes o

/-- 16-bit field of a record. -/
def Rec.u16 (r : Rec) (o : Nat) : Nat := u16At r.bytes o

/-- 32-bit field of a record. -/
def Rec.u32 (r : Rec) (o : Nat) : Nat := u32At r.bytes o

/-- Signed 8-bit field. -/
def Rec.s8 (r : Rec) (o : Nat) : Int := toS 8 (r.u8 o)

/-- The record's type without its SKIP bit (R105). -/
def Rec.typ (r : Rec) : Nat := r.u16 0 % 0x8000

/-- The SKIP bit (R105, R107). -/
def Rec.skip (r : Rec) : Bool := decide (0x8000 ≤ r.u16 0)

/-- The stated length of the record (R105). -/
def Rec.len (r : Rec) : Nat := r.u16 2

/-- The next multiple of 4. -/
def pad4 (n : Nat) : Nat := (n + 3) / 4 * 4

/-- The next multiple of 16. -/
def align16 (n : Nat) : Nat := (n + 15) / 16 * 16

/-- The key of a record within its type (the key columns of the section tables). -/
def Rec.key (r : Rec) : Nat :=
  match r.typ with
  | 0x0104 => r.u16 4
  | 0x0402 => r.u8 4 * 256 + r.u8 5
  | 0x0403 => 0
  | 0x0501 => 0
  | 0x0801 => 0
  | 0x0803 => r.u16 4
  | 0x0804 => 0
  | 0x0A01 => 0
  | _ => r.u8 4

/-- Unpadded length that the record's type and its own counts need; none for an undefined type. -/
def Rec.need (r : Rec) : Option Nat :=
  match r.typ with
  | 0x0101 => some 32
  | 0x0102 => some 12
  | 0x0103 => some (8 + 2 * r.u8 5)
  | 0x0104 => some (8 + 2 * r.u8 6)
  | 0x0105 => some 8
  | 0x0201 => some 72
  | 0x0202 => some 8
  | 0x0301 => some (20 + 4 * r.u8 11 + 8 * r.u8 10)
  | 0x0302 => some 20
  | 0x0401 => some 520
  | 0x0402 => some (12 + r.u16 8 * r.u16 10 + 2 * r.u16 10)
  | 0x0403 => some 68
  | 0x0501 => some 24
  | 0x0502 => some 12
  | 0x0503 => some 16
  | 0x0504 => some 12
  | 0x0601 => some 8
  | 0x0602 => some 8
  | 0x0603 => some 16
  | 0x0701 => some 24
  | 0x0801 => some 68
  | 0x0802 => some 12
  | 0x0803 => some (8 + (r.u16 6 + 1) / 2)
  | 0x0804 => some 8
  | 0x0901 => some 16
  | 0x0A01 => some 104
  | _ => none

/-- The fixed part of a record whose length depends on its own counts: the bytes that must be there before the counts
can be read. -/
def Rec.minLen (r : Rec) : Nat :=
  match r.typ with
  | 0x0103 => 8
  | 0x0104 => 8
  | 0x0301 => 20
  | 0x0402 => 12
  | 0x0803 => 8
  | _ => r.need.getD 4

/-- Types that a profile may override (R149). -/
def overridable (t : Nat) : Bool :=
  [0x0201, 0x0202, 0x0301, 0x0302, 0x0401, 0x0402, 0x0403, 0x0501, 0x0502, 0x0503, 0x0504, 0x0601, 0x0602, 0x0603,
   0x0801, 0x0802, 0x0803, 0x0804].contains t

/-- A SLOT override that removes its slot (R149). -/
def Rec.removesSlot (r : Rec) : Bool := r.typ == 0x0301 && r.u8 10 == 0

/-- The records in force under a list of overrides (R149). -/
def applyOverrides (base ovr : List Rec) : List Rec :=
  let gone := (ovr.filter Rec.removesSlot).map Rec.key
  let keep := base.filter (fun b => !(ovr.any (fun o => o.typ == b.typ && o.key == b.key)))
  (keep ++ ovr.filter (fun o => !o.removesSlot)).filter
    (fun r => !(r.typ == 0x0302 && gone.contains r.key))

/-- The records in force in profile `p` of a map. -/
def MapImg.recsOf (m : MapImg) (p : Nat) : List Rec := applyOverrides m.base (m.overrides.getD p [])

/-- Header fields (R95). -/
def MapImg.bootProfile (m : MapImg) : Nat := byteAt m.header 0x20
def MapImg.profileCount (m : MapImg) : Nat := byteAt m.header 0x21
def MapImg.mapId (m : MapImg) : Nat := u32At m.header 0x10
def MapImg.mapRev (m : MapImg) : Nat := u32At m.header 0x14

/-- The records of one type. -/
def ofType (l : List Rec) (t : Nat) : List Rec := l.filter (fun r => r.typ == t)

/-- The record of a type and key. -/
def findRec (l : List Rec) (t k : Nat) : Option Rec := l.find? (fun r => r.typ == t && r.key == k)

/-- Whether a type and key is declared. -/
def hasRec (l : List Rec) (t k : Nat) : Bool := l.any (fun r => r.typ == t && r.key == k)

/-! Fields of the records, named as the spec's tables name them. -/

/-- PHASE_MASK of a TOPOLOGY RAIL record (R120). -/
def Rec.phaseMask (r : Rec) : Nat := leBytes ((r.bytes.drop 8).take 16)
/-- Phase count n of a RAIL record (R121). -/
def Rec.phaseCount (r : Rec) : Nat := popCount 128 r.phaseMask
/-- CODE[k] of a SETPOINT_TABLE record, k = 1–31 (R127). -/
def Rec.code (r : Rec) (k : Nat) : Nat := r.u16 (8 + 2 * (k - 1)) % 512
/-- Sites of a PADDOCK record (R123). -/
def Rec.sites (r : Rec) : List Nat := (List.range (r.u8 5)).map (fun k => r.u16 (8 + 2 * k))
/-- LIST of a NEIGHBOURS record (R124). -/
def Rec.neighbours (r : Rec) : List Nat := (List.range (r.u8 6)).map (fun k => r.u16 (8 + 2 * k))
/-- Inputs of a SLOT record as (kind, index) pairs (R132). -/
def Rec.inputs (r : Rec) : List (Nat × Nat) :=
  (List.range (r.u8 11)).map (fun k => (r.u8 (20 + 4 * k), r.u16 (22 + 4 * k)))
/-- A stage word of the Loop Engine, as its fields (R175). -/
structure Stage where
  op : Nat
  exp : Nat
  a : Nat
  b : Nat
  km : Nat
  kexp : Nat
  rsv : Nat := 0
deriving DecidableEq, Repr
/-- The fields of a stage word given as two 32-bit words (R175). -/
def stageOf (w0 w1 : Nat) : Stage :=
  { op := w0 % 256, exp := w0 / 0x100 % 256, a := w0 / 0x10000 % 256, b := w0 / 0x1000000 % 256,
    km := w1 % 0x40000, kexp := w1 / 0x40000 % 64, rsv := w1 / 0x1000000 % 256 }
/-- Stages of a SLOT record in execution order (R132). -/
def Rec.stages (r : Rec) : List Stage :=
  (List.range (r.u8 10)).map (fun k =>
    let o := 20 + 4 * r.u8 11 + 8 * k
    stageOf (r.u32 o) (r.u32 (o + 4)))
/-- The stated normal divider (R132). -/
def Rec.divNormal (r : Rec) : Nat := 2 ^ (r.u8 6 % 16)
/-- The near-band divider, or none (R132). -/
def Rec.divNear (r : Rec) : Option Nat := if r.u8 6 / 16 = 15 then none else some (2 ^ (r.u8 6 / 16))
/-- The divider that counts for the lane budget: the smaller of the two (R77). -/
def Rec.divMin (r : Rec) : Nat := match r.divNear with | some d => min d r.divNormal | none => r.divNormal
/-- Breakpoint X[s] and gain G[s] of a GAIN_TABLE record (R139). -/
def Rec.gx (r : Rec) (s : Nat) : Int := toS 32 (r.u32 (8 + 8 * s))
def Rec.gg (r : Rec) (s : Nat) : Int := toS 32 (r.u32 (12 + 8 * s))
/-- CLASS of queue FIRST + k in a QUEUE_HEFT record (R151). -/
def Rec.heftClass (r : Rec) (k : Nat) : Nat := if k % 2 = 0 then r.u8 (8 + k / 2) % 16 else r.u8 (8 + k / 2) / 16

/-- Cost of a stage in lane-cycles (R176). -/
def stageCost (plaus : Bool) (s : Stage) : Nat :=
  match s.op with
  | 0x01 => 2
  | 0x02 => 2
  | 0x05 => 10
  | 0x06 => 2
  | 0x07 => 2
  | 0x08 => 2
  | 0x0E => 2
  | 0x0F => 2
  | 0x10 => if plaus then 7 else 4
  | _ => 1

/-- Cost of a slot (R77, R176). -/
def slotCost (l : List Rec) (r : Rec) : Nat := sumN (r.stages.map (stageCost (hasRec l 0x0302 r.key)))

/-- A lane's next free cycle after placing one slot: the lanes' list with the earliest lane's entry advanced (R160). The
result gives the lane taken, the cycle after the slot's last and the new list. -/
def placeOne (lanes : List Nat) (start cost : Nat) : Nat × Nat × List Nat :=
  let m := minOf 482 lanes
  let k := (lanes.findIdx? (· == m)).getD 0
  let e := max start m + cost
  (k, e, lanes.set k e)

/-- Placement of due slots, given as (slot, START, cost) (R160): each slot with its lane and the cycle after its last,
and the lanes' free cycles at the end. -/
def placeAll (l : List (Nat × Nat × Nat)) : List (Nat × Nat × Nat) × List Nat :=
  let ordered := sortBy (fun x => x.2.1 * 1024 + x.1) l
  ordered.foldl (fun (acc : List (Nat × Nat × Nat) × List Nat) x =>
    let p := placeOne acc.2 x.2.1 x.2.2
    (acc.1 ++ [(x.1, p.1, p.2.1)], p.2.2)) ([], List.replicate 16 32)

/-- The slots of a profile that can run in frames of residue r, as (record, cost), in record order (R77). -/
def residueSlots (costs : List (Rec × Nat)) (r : Nat) : List (Rec × Nat) :=
  costs.filter (fun x => r % x.1.divMin == x.1.u8 7 % x.1.divMin)

/-- Each SLOT record in force with its cost, in record order. -/
def slotCosts (l : List Rec) : List (Rec × Nat) :=
  (sortBy Rec.idx (ofType l 0x0301)).map (fun r => (r, slotCost l r))

/-- The highest residue cost of a profile (R77, R87). -/
def laneLoad (l : List Rec) : Nat :=
  let cs := slotCosts l
  (List.range 256).foldl (fun m r => max m (sumN ((residueSlots cs r).map (·.2)))) 0

end Sys2Proof.Machine
end

