-- ==== Sys2Proof/Machine/Topology.lean ====
section
/-! DEFINITION. What each package holds (R4, R21, R22, R27, R31, R41, R50, R266, R315, R316, R662). The argument is true
for ZK-4 in the OX4 and false for ZK-2 in the OX2. -/

namespace Sys2Proof.Machine

/-- Folds the package uses (R21, R22). -/
def foldCount (zk4 : Bool) : Nat := if zk4 then 38 else 20
/-- Compute folds, equal to the number of dispatchers (R41). -/
def computeFolds (zk4 : Bool) : Nat := if zk4 then 32 else 16
/-- A fold of the package. -/
def foldPresent (zk4 : Bool) (f : Nat) : Bool := decide (f < foldCount zk4)
/-- KIND of a fold: 1 compute, 2 cache, 3 I/O bulk (R21, R22, R122). -/
def foldKind (zk4 : Bool) (f : Nat) : Nat :=
  let c := computeFolds zk4
  let m := if zk4 then 4 else 2
  if f < c then 1 else if f < c + m then 2 else 3
/-- The rail that supplies a fold (R31). -/
def foldRail (zk4 : Bool) (f : Nat) : Nat :=
  let c := computeFolds zk4
  let m := if zk4 then 4 else 2
  if f < c then f / 4 else if f < c + m then 8 + (f - c) else 12 + (f - c - m)
/-- A rail of the package (R31, R32). -/
def railPresent (zk4 : Bool) (r : Nat) : Bool :=
  if zk4 then decide (r < 14) else [0, 1, 2, 3, 8, 9, 12, 13].contains r
/-- The rails of the package. -/
def railList (zk4 : Bool) : List Nat := (List.range 14).filter (railPresent zk4)
/-- Phase outputs (R4). -/
def phaseCount (zk4 : Bool) : Nat := if zk4 then 128 else 64
/-- Queues behind each dispatcher (R41). -/
def queuesPerDispatcher (zk4 : Bool) : Nat := if zk4 then 128 else 256
/-- HBM stacks of the package (R27, R546). -/
def hbmStacks (zk4 : Bool) : Nat := if zk4 then 8 else 4
/-- A memory controller of the package: 0–7 HBM stacks, 8–11 cache dies (R146). -/
def ctrlPresent (zk4 : Bool) (k : Nat) : Bool :=
  if zk4 then decide (k < 12) else decide (k < 4) || k == 8 || k == 9
/-- A populated digital thermal site (R315). -/
def sitePresent (zk4 : Bool) (s : Nat) : Bool :=
  if zk4 then decide (s < 1088)
  else decide (s < 480) || (decide (960 ≤ s) && decide (s < 1008)) || (decide (1056 ≤ s) && decide (s < 1088))
/-- A wired diode channel (R316, R663). -/
def diodePresent (zk4 : Bool) (d : Nat) : Bool :=
  if zk4 then decide (d < 56)
  else decide (d < 16) || (decide (32 ≤ d) && decide (d < 40)) || (decide (48 ≤ d) && decide (d < 56))
/-- Diode channels that instance A serves; B serves the other present ones (R50, R663). -/
def diodeOfA (zk4 : Bool) (d : Nat) : Bool :=
  if zk4 then decide (d < 16) || (decide (32 ≤ d) && decide (d < 40)) || (decide (48 ≤ d) && decide (d < 52))
  else decide (d < 8) || (decide (32 ≤ d) && decide (d < 36)) || (decide (48 ≤ d) && decide (d < 52))
/-- A Crook cell of the package (R266). -/
def cellPresent (zk4 : Bool) (c : Nat) : Bool :=
  if zk4 then decide (c < 832) else decide (c < 384) || (decide (768 ≤ c) && decide (c < 800))
/-- The fold that holds a Crook cell (R21, R22, R266). -/
def cellFold (zk4 : Bool) (c : Nat) : Nat :=
  if c < 768 then 8 * (c / 192) + (c % 192) / 24 else computeFolds zk4 + (c - 768) / 16
/-- Bit of its fold's TILE_MASK that a tile cell has (R122). -/
def cellTileBit (c : Nat) : Nat := c % 24
/-- The cells of a fold (R266). -/
def foldCells (zk4 : Bool) (f : Nat) : List Nat :=
  let c := computeFolds zk4
  if foldKind zk4 f = 1 then (List.range 24).map (fun k => 192 * (f / 8) + 24 * (f % 8) + k)
  else if foldKind zk4 f = 2 then (List.range 16).map (fun k => 768 + 16 * (f - c) + k)
  else []
/-- The compute fold of a flock (R21): flock number 16 × die + flock. -/
def flockFold (fl : Nat) : Nat := 8 * (fl / 16) + (fl % 16) / 2
/-- Flocks of the package (R40). -/
def flockCount (zk4 : Bool) : Nat := if zk4 then 64 else 32

end Sys2Proof.Machine
end

