-- ==== Sys2Proof/Machine/MapCheck.lean ====
section
/-! DEFINITION. The check of a fold map: stages B to H of R528 with the codes of R533, in the spec's order. Stage A is in
Run.lean, where the registers it looks at are. -/

namespace Sys2Proof.Machine

/-! Refusal codes (R533). -/
def refSize : Nat := 0x01
def refFormat : Nat := 0x02
def refVersion : Nat := 0x03
def refConfig : Nat := 0x04
def refHeaderCrc : Nat := 0x05
def refSectionCrc : Nat := 0x06
def refSignature : Nat := 0x07
def refRollback : Nat := 0x08
def refReserved : Nat := 0x09
def refUnknown : Nat := 0x0A
def refRange : Nat := 0x11
def refOrder : Nat := 0x12
def refAbsent : Nat := 0x13
def refCeiling : Nat := 0x14
def refCapacity : Nat := 0x15
def refOwner : Nat := 0x21
def refUnbound : Nat := 0x22
def refMissing : Nat := 0x23
def refProfileRecord : Nat := 0x24
def refProgram : Nat := 0x25
def refLiveTopology : Nat := 0x26
def refLaneBudget : Nat := 0x31
def refLateStage : Nat := 0x32
def refForecastEarly : Nat := 0x33
def refStagePool : Nat := 0x34
def refNetSize : Nat := 0x35
def refNetTime : Nat := 0x36
def refTestRoom : Nat := 0x37
def refBusy : Nat := 0x41
def refClockOff : Nat := 0x42
def refPeer : Nat := 0x43
def refAborted : Nat := 0x44
def refStalled : Nat := 0x45

/-- A refusal: its code, its WHERE (R110, R532), and for stage G the profile that failed (R533). -/
structure Refuse where
  code : Nat
  loc : Nat
  prof : Option Nat := none
deriving DecidableEq, Repr

/-- WHERE of the header, padding or map length (R110). -/
def locMap : Nat := 0xFFFFFF
/-- WHERE of section-table entry k or section k + 1 as a whole (R110). -/
def locSection (k : Nat) : Nat := 0xFFFF00 + k

/-- The code of the first condition that holds. -/
def firstCode : List (Bool × Nat) → Option Nat
  | [] => none
  | (c, code) :: t => if c then some code else firstCode t

/-- The first refusal among several checks. -/
def firstSome {α : Type} : List (Option α) → Option α
  | [] => none
  | some x :: _ => some x
  | none :: t => firstSome t

/-- What the PSC answers about a map: whether the signature verifies with an enrolled key (R117, R118), and the revision
floor it holds (R100). -/
structure PscAnswer where
  sigOk : Bool
  floor : Nat
deriving DecidableEq, Repr

/-! ## Stage B: the header -/

/-- Stage B of R528 over the first 64 bytes. -/
def checkHeader (zk4 : Bool) (h : List Byte) : Option Refuse :=
  let cfg := if zk4 then 4 else 2
  let total := u32At h 8
  (firstCode
    [ (u32At h 0x3C != crc32c (h.take 0x3C), refHeaderCrc),
      (u32At h 0 != 0x50414D46 || u16At h 0x0E != 10, refFormat),
      (u16At h 4 != 1, refVersion),
      (byteAt h 0x0C != cfg || byteAt h 0x0D != cfg, refConfig),
      (decide (2097152 < total), refSize),
      (total % 4 != 0 || decide (total < 0x148), refFormat),
      (byteAt h 0x21 == 0 || decide (8 < byteAt h 0x21) || decide (byteAt h 0x21 ≤ byteAt h 0x20), refRange),
      ((h.drop 0x22).take 26 |>.any (fun b => b != 0), refReserved) ]).map (fun c => ⟨c, locMap, none⟩)

/-! ## Stage C: the section table -/

/-- A section-table entry (R102). -/
structure SecEnt where
  typ : Nat
  flags : Nat
  off : Nat
  len : Nat
  crc : Nat
deriving DecidableEq, Repr

/-- The ten entries of the table. -/
def secTable (bs : List Byte) : List SecEnt :=
  (List.range 10).map (fun k =>
    let o := 0x40 + 16 * k
    ⟨u16At bs o, u16At bs (o + 2), u32At bs (o + 4), u32At bs (o + 8), u32At bs (o + 12)⟩)

/-- End of the section before entry k: the section table for the first (R89, R91). -/
def prevEnd (t : List SecEnt) (k : Nat) : Nat :=
  if k = 0 then 0xE0 else match t[k - 1]? with | some e => e.off + e.len | none => 0

/-- The faults of one entry (R91, R102, R103). -/
def checkEntry (t : List SecEnt) (k : Nat) (e : SecEnt) : Option Nat :=
  firstCode
    [ (e.typ != k + 1 || e.len % 4 != 0 || (e.len == 0 && k != 3) || (k == 9 && (e.len != 104 || e.crc != 0))
        || e.off % 16 != 0 || e.off != align16 (prevEnd t k), refFormat),
      (e.flags != 0, refReserved) ]

/-- Stage C of R528. -/
def checkTable (bs : List Byte) : Option Refuse :=
  let t := secTable bs
  match firstSome ((List.range 10).map (fun k =>
      (t[k]?).bind (fun e => (checkEntry t k e).map (fun c => (⟨c, locSection k, none⟩ : Refuse))))) with
  | some r => some r
  | none =>
    match t[9]? with
    | some e => if u32At bs 8 != e.off + e.len then some ⟨refFormat, locMap, none⟩ else none
    | none => none

/-! ## Stage D: the records -/

/-- The bytes of a section cut into records from a first index (R105, R106); the flag says that the cut failed, and the
last record is then the broken one. The fuel is a bound on the number of records. -/
def cutRecords : Nat → Nat → List Byte → List Rec × Bool
  | 0, _, bs => ([], !bs.isEmpty)
  | fuel + 1, idx, bs =>
    if bs.isEmpty then ([], false)
    else
      let len := u16At bs 2
      if bs.length < 4 || len < 4 || len % 4 != 0 || bs.length < len then ([⟨idx, bs⟩], true)
      else
        let rest := cutRecords fuel (idx + 1) (bs.drop len)
        (⟨idx, bs.take len⟩ :: rest.1, rest.2)

/-- A section's place in stage D: its entry, its number k and its records. -/
structure Section where
  k : Nat
  ent : SecEnt
  recs : List Rec
  broken : Bool
deriving DecidableEq, Repr

/-- The sections cut in order, record indices running over all of them (R110). -/
def cutSections (bs : List Byte) (t : List SecEnt) : List Section :=
  ((List.range 10).foldl (fun (acc : List Section × Nat) k =>
    match t[k]? with
    | some e =>
      let body := (bs.drop e.off).take e.len
      let r := cutRecords (e.len / 4 + 1) acc.2 body
      (acc.1 ++ [⟨k, e, r.1, r.2⟩], acc.2 + r.1.length)
    | none => acc) ([], 0)).1

/-- What stage D knows when it meets a record. -/
structure DCtx where
  zk4 : Bool
  profCount : Nat
  /-- TOPOLOGY records of the map -/
  topo : List Rec
  /-- the section the record stands in -/
  k : Nat
  /-- records before it in the same section and the same profile -/
  before : List Rec
  /-- PROFILE records met so far -/
  profs : Nat
deriving DecidableEq, Repr

/-- An 18-bit signed value held in 32 bits and not sign-extended (R114). -/
def badSign18 (v : Nat) : Bool := v % 2 ^ 32 != ofS 32 (toS 18 v)

/-- Signed 8-bit exponent outside −32 to 31. -/
def badExp (b : Nat) : Bool := decide (toS 8 b < -32) || decide (31 < toS 8 b)

/-- Bytes `lo..hi` of a record all zero. -/
def zeroBytes (r : Rec) (lo hi : Nat) : Bool := ((r.bytes.drop lo).take (hi + 1 - lo)).all (fun b => b == 0)

/-- Setpoint codes as stored (R127). -/
def rawCode (r : Rec) (k : Nat) : Nat := r.u16 (8 + 2 * (k - 1))

/-- No two equal elements. -/
def noDup : List Nat → Bool
  | [] => true
  | x :: t => !t.contains x && noDup t

/-- Strictly rising. -/
def risingI : List Int → Bool
  | x :: y :: t => decide (x < y) && risingI (y :: t)
  | _ => true

/-- Not decreasing. -/
def monoN : List Nat → Bool
  | x :: y :: t => decide (x ≤ y) && monoN (y :: t)
  | _ => true

/-- Phase count of a rail as TOPOLOGY declares it. -/
def topoPhases (topo : List Rec) (r : Nat) : Option Nat := (findRec topo 0x0101 r).map Rec.phaseCount

/-- Stage operands whose field the opcode table marks 0 (R176): (A must be 0, B must be 0, K must be 0). -/
def stageZero (s : Stage) : Bool × Bool × Bool :=
  let refK := s.b % 16 != 0
  match s.op with
  | 0x01 => (false, true, true)
  | 0x02 => (false, true, false)
  | 0x03 => (true, true, false)
  | 0x04 => (true, false, refK)
  | 0x05 => (true, false, true)
  | 0x06 => (true, false, false)
  | 0x07 => (true, true, false)
  | 0x08 => (true, true, false)
  | 0x09 => (true, false, refK)
  | 0x0A => (true, false, refK)
  | 0x0B => (false, true, true)
  | 0x0C => (false, true, true)
  | 0x0D => (false, true, true)
  | 0x0E => (false, true, false)
  | 0x0F => (false, true, false)
  | 0x10 => (true, true, false)
  | _ => (false, false, false)

/-- REFUSE_RESERVED of a stage word (R133, R171, R173, R175, R176). -/
def stageReserved (s : Stage) : Bool :=
  let z := stageZero s
  s.op == 0 || decide (0x10 < s.op) || s.rsv != 0
    || !(decide (s.a ≤ 7) || (decide (0x10 ≤ s.a) && decide (s.a ≤ 0x13)))
    || (z.1 && s.a != 0) || (z.2.1 && s.b != 0) || (z.2.2 && (s.km != 0 || s.kexp != 0))
    || ((s.op == 4 || s.op == 9 || s.op == 0x0A) && (decide (8 ≤ s.b % 16) || s.b / 16 % 8 != 0))
    || ((s.op == 9 || s.op == 0x0A) && decide (0x80 ≤ s.b))
    || (s.op == 6 && decide (4 ≤ s.b))

/-- REFUSE_RANGE of a stage word: its exponent, or an input the slot does not have (R171, R175). -/
def stageRange (inputs : Nat) (s : Stage) : Bool :=
  badExp s.exp || ([0x01, 0x02, 0x0B, 0x0C, 0x0D, 0x0E, 0x0F].contains s.op && decide (s.a ≤ 7) && decide (inputs ≤ s.a))

/-- An input's index out of its stated range (R134, R172). -/
def inputRange (ki : Nat × Nat) : Bool :=
  match ki.1 with
  | 0x01 => decide (127 < ki.2)
  | 0x02 => decide (13 < ki.2)
  | 0x03 => decide (13 < ki.2)
  | 0x04 => decide (127 < ki.2)
  | 0x05 => decide (7 < ki.2)
  | 0x06 => decide (63 < ki.2)
  | 0x07 => decide (63 < ki.2)
  | 0x08 => ki.2 != 0
  | 0x09 => decide (255 < ki.2)
  | 0x0A => decide (15 < ki.2)
  | 0x0B => decide (13 < ki.2)
  | _ => false

/-- An input that names a resource the package lacks (R112). -/
def inputAbsent (zk4 : Bool) (ki : Nat × Nat) : Bool :=
  match ki.1 with
  | 0x01 => !decide (ki.2 < phaseCount zk4)
  | 0x02 => !railPresent zk4 ki.2
  | 0x03 => !railPresent zk4 ki.2
  | 0x05 => !decide (ki.2 < hbmStacks zk4)
  | 0x06 => !foldPresent zk4 ki.2
  | 0x07 => !foldPresent zk4 ki.2
  | 0x0B => !railPresent zk4 ki.2
  | _ => false

/-- An output index out of its stated range (R134). -/
def outRange (kind ix : Nat) : Bool :=
  match kind with
  | 0x00 => ix != 0
  | 0x01 => decide (13 < ix)
  | 0x02 => decide (13 < ix)
  | 0x03 => decide (63 < ix)
  | 0x04 => decide (127 < ix)
  | 0x05 => decide (63 < ix)
  | 0x06 => ix != 0
  | 0x07 => decide (7 < ix)
  | _ => false

/-- An output that names a resource the package lacks. -/
def outAbsent (zk4 : Bool) (kind ix : Nat) : Bool :=
  match kind with
  | 0x01 => !railPresent zk4 ix
  | 0x02 => !railPresent zk4 ix
  | 0x03 => !foldPresent zk4 ix
  | 0x05 => !foldPresent zk4 ix
  | _ => false

/-- A divider nibble that the SLOT record reserves (R132). -/
def divReserved (b : Nat) : Bool :=
  decide (9 ≤ b % 16) || (decide (9 ≤ b / 16) && b / 16 != 15)

/-- REFUSE_RESERVED of a record's own fields (R113 and the record tables). -/
def recReserved (r : Rec) : Bool :=
  match r.typ with
  | 0x0101 => !zeroBytes r 26 31 || decide (2 ≤ r.u8 25)
  | 0x0102 => r.u8 7 != 0 || r.u8 6 == 0 || decide (4 ≤ r.u8 6) || (r.u8 6 == 1 && decide (0x1000000 ≤ r.u32 8))
  | 0x0104 => r.u8 7 != 0
  | 0x0105 => r.u8 7 != 0
  | 0x0201 => !zeroBytes r 5 7 || !zeroBytes r 70 71
      || (List.range 31).any (fun k => decide (512 ≤ rawCode r (k + 1)))
  | 0x0301 => decide (4 ≤ r.u8 5) || divReserved (r.u8 6) || decide (8 ≤ r.u8 12) || r.u8 13 != 0
      || r.inputs.any (fun ki => ki.1 == 0 || decide (0x0C ≤ ki.1))
      || (List.range (r.u8 11)).any (fun k => r.u8 (21 + 4 * k) != 0)
      || r.stages.any stageReserved
  | 0x0302 => r.u8 7 != 0 || decide (0x20000 ≤ r.u32 16)
  | 0x0401 => !zeroBytes r 6 7
  | 0x0402 => r.u8 7 != 0 || decide (2 ≤ r.u8 5)
  | 0x0503 => !zeroBytes r 5 7
  | 0x0504 => r.u8 5 != 0 || !zeroBytes r 10 11
  | 0x0601 => r.u8 7 != 0
  | 0x0602 => decide (2 ≤ r.u8 5)
  | 0x0603 => !zeroBytes r 5 7
  | 0x0701 => !zeroBytes r 5 7
  | 0x0801 => (List.range 16).any (fun k => r.u16 (6 + 4 * k) != 0)
  | 0x0802 => !zeroBytes r 5 7
  | 0x0804 => decide (2 ≤ r.u8 5) || decide (2 ≤ r.u8 6) || r.u8 7 != 0
  | 0x0901 => !zeroBytes r 14 15
  | 0x0A01 => !zeroBytes r 5 7
  | _ => false

/-- REFUSE_RANGE of a record's own fields, and of the comparisons stage D can make (R113 and the record tables). -/
def recRange (c : DCtx) (r : Rec) : Bool :=
  match r.typ with
  | 0x0101 =>
    let n := r.phaseCount
    decide (13 < r.u8 4) || decide (13 < r.u8 5) || decide (r.u16 6 < 600) || decide (1500 < r.u16 6)
      || n == 0 || decide (16 < n) || r.u8 24 == 0 || decide (n < r.u8 24)
  | 0x0102 =>
    let f := r.u8 4
    decide (63 < f) || decide (13 < r.u8 5)
      || (foldPresent c.zk4 f && (r.u8 5 != foldRail c.zk4 f || r.u8 6 != foldKind c.zk4 f))
      || (r.u8 6 != 1 && r.u32 8 != 0)
  | 0x0103 =>
    decide (127 < r.u8 4) || r.u8 5 == 0 || decide (64 < r.u8 5) || decide (63 < r.u8 6)
      || (decide (63 < r.u8 7) && r.u8 7 != 0xFF) || (r.u8 5 == 1 && r.u8 7 == 0xFF)
  | 0x0104 =>
    decide (r.u8 6 < 2) || decide (6 < r.u8 6) || r.neighbours.contains (r.u16 4) || !noDup r.neighbours
  | 0x0105 =>
    decide (7 < r.u8 4) || decide (63 < r.u8 5) || decide (127 < r.u8 6)
      || (match findRec c.topo 0x0102 (r.u8 5) with | some f => f.u8 6 != 3 | none => false)
  | 0x0201 => decide (13 < r.u8 4) || (List.range 31).any (fun k => decide (260 < r.code (k + 1)))
  | 0x0202 =>
    decide (63 < r.u8 4) || r.u8 5 == 0 || decide (20 < r.u8 5) || decide (10 < r.u8 6) || r.u8 7 == 0
      || decide (50 < r.u8 7) || (foldPresent c.zk4 (r.u8 4) && foldKind c.zk4 (r.u8 4) == 3)
  | 0x0301 =>
    decide (r.u16 8 < 32) || decide (481 < r.u16 8) || decide (32 < r.u8 10) || (r.u8 10 == 0 && c.k != 6)
      || decide (8 < r.u8 11) || outRange (r.u8 12) (r.u16 14) || r.u16 16 == 0
      || r.inputs.any inputRange || r.stages.any (stageRange (r.u8 11))
  | 0x0302 => r.u8 5 == 0 || badExp (r.u8 6) || badSign18 (r.u32 8) || badSign18 (r.u32 12)
  | 0x0401 =>
    badExp (r.u8 5) || (List.range 64).any (fun s => badSign18 (r.u32 (8 + 8 * s)) || badSign18 (r.u32 (12 + 8 * s)))
  | 0x0402 =>
    decide (3 < r.u8 4) || badExp (r.u8 6)
      || (if r.u8 5 = 0 then r.u16 8 != 64 || r.u16 10 == 0 || decide (256 < r.u16 10)
          else r.u16 10 != 8 || r.u16 8 == 0 || decide (256 < r.u16 8))
  | 0x0403 => (List.range 64).any (fun f => decide (3 < r.u8 (4 + f)) && r.u8 (4 + f) != 0xFF)
  | 0x0501 => r.u16 12 == 0
  | 0x0502 => decide (13 < r.u8 4) || decide (r.u8 5 < 10) || decide (60 < r.u8 5) || decide (r.u16 10 < 500)
  | 0x0503 => decide (63 < r.u8 4)
  | 0x0504 => decide (127 < r.u8 4) || r.u16 8 == 0 || decide (4095 < r.u16 8)
  | 0x0601 => decide (127 < r.u8 4) || r.u8 5 == 0 || decide (30 < r.u8 5) || r.u8 6 == 0 || decide (10 < r.u8 6)
  | 0x0602 =>
    decide (11 < r.u8 4) || (r.u8 5 == 0 && r.u8 6 != 0) || (r.u8 5 == 1 && decide (127 < r.u8 6))
      || r.u8 7 == 0 || decide (5 < r.u8 7)
  | 0x0603 => decide (7 < r.u8 4)
  | 0x0701 => decide (7 < r.u8 4)
  | 0x0801 => (List.range 16).any (fun k => r.u16 (4 + 4 * k) == 0)
  | 0x0802 => decide (63 < r.u8 4) || (foldPresent c.zk4 (r.u8 4) && foldKind c.zk4 (r.u8 4) != 1)
  | 0x0803 => r.u16 6 % 2 == 1 || decide (r.u16 6 < 2) || decide (4096 < r.u16 6)
  | 0x0804 => decide (7 < r.u8 4) || decide (c.profCount ≤ r.u8 4)
  | 0x0901 =>
    decide (13 < r.u8 4) || decide (13 < r.u8 5) || decide (260 < r.u16 6) || decide (r.u16 8 < 10)
      || decide (500 < r.u16 8) || decide (10000 < r.u16 10)
  | 0x0A01 => decide (3 < r.u8 4)
  | _ => false

/-- A CONT or OVERLOAD above its phase bound (R36, R145). -/
def recCapacity (c : DCtx) (r : Rec) : Bool :=
  r.typ == 0x0502 &&
    match topoPhases c.topo (r.u8 4) with
    | some n => decide ((n - 1) * 700 < r.u16 6) || decide (n * 700 < r.u16 8)
    | none => false

/-- REFUSE_ORDER of a record's own fields (R129, R130, R140, R145). A bound that R145 answers with
REFUSE_RAIL_CAPACITY is not also an ordering. -/
def recOrder (c : DCtx) (r : Rec) : Bool :=
  match r.typ with
  | 0x0201 => !monoN ((List.range 31).map (fun k => r.code (k + 1)))
  | 0x0202 => decide (r.u8 5 ≤ r.u8 6)
  | 0x0401 => !risingI ((List.range 64).map r.gx)
  | 0x0501 => decide (r.u32 8 < r.u32 4)
  | 0x0502 => !recCapacity c r && decide (r.u16 8 < r.u16 6)
  | 0x0503 => decide (r.u32 8 < r.u32 12)
  | _ => false

/-- REFUSE_ABSENT_RESOURCE (R6, R112, R123, R153). -/
def recAbsent (c : DCtx) (r : Rec) : Bool :=
  match r.typ with
  | 0x0101 => !railPresent c.zk4 (r.u8 4) || decide (2 ^ phaseCount c.zk4 ≤ r.phaseMask)
  | 0x0102 => !foldPresent c.zk4 (r.u8 4) || !railPresent c.zk4 (r.u8 5)
  | 0x0103 =>
    r.sites.any (fun x => !sitePresent c.zk4 x) || !foldPresent c.zk4 (r.u8 6)
      || (r.u8 7 != 0xFF && !diodePresent c.zk4 (r.u8 7))
  | 0x0104 => !sitePresent c.zk4 (r.u16 4) || r.neighbours.any (fun x => !sitePresent c.zk4 x)
  | 0x0105 => !foldPresent c.zk4 (r.u8 5)
  | 0x0201 => !railPresent c.zk4 (r.u8 4)
  | 0x0202 => !foldPresent c.zk4 (r.u8 4)
  | 0x0301 => r.inputs.any (inputAbsent c.zk4) || outAbsent c.zk4 (r.u8 12) (r.u16 14)
  | 0x0403 => (List.range 64).any (fun f => r.u8 (4 + f) != 0xFF && !foldPresent c.zk4 f)
  | 0x0502 => !railPresent c.zk4 (r.u8 4)
  | 0x0503 => !foldPresent c.zk4 (r.u8 4)
  | 0x0602 => !ctrlPresent c.zk4 (r.u8 4)
  | 0x0802 => !foldPresent c.zk4 (r.u8 4)
  | 0x0803 => decide (4096 < r.u16 4 + r.u16 6)
  | 0x0901 => !railPresent c.zk4 (r.u8 4)
  | _ => false

/-- Fused ceilings in mW (R54). -/
def fusedSustained (zk4 : Bool) : Nat := if zk4 then 2000000 else 1000000
def fusedExcursion (zk4 : Bool) : Nat := if zk4 then 3000000 else 1500000

/-- REFUSE_ABOVE_CEILING (R145, R544). -/
def recCeiling (c : DCtx) (r : Rec) : Bool :=
  match r.typ with
  | 0x0501 =>
    decide (fusedSustained c.zk4 < r.u32 4) || decide (fusedExcursion c.zk4 < r.u32 8) || decide (40 < r.u16 12)
      || decide (r.u16 14 < 40)
  | 0x0502 => decide (1100 < r.u16 10)
  | 0x0504 => decide (1760 < toS 16 (r.u16 6))
  | _ => false

/-- A claim that an earlier record of the same section and profile has made already (R109, R121, R123, R153). -/
def recTaken (c : DCtx) (r : Rec) : Bool :=
  c.before.any (fun b => b.typ == r.typ && r.typ != 0x0701 &&
    (b.key == r.key
      || (r.typ == 0x0101 && (b.phaseMask &&& r.phaseMask != 0 || b.u8 5 == r.u8 5))
      || (r.typ == 0x0103 && b.sites.any (fun x => r.sites.contains x))
      || (r.typ == 0x0803 && decide (b.u16 4 < r.u16 4 + r.u16 6) && decide (r.u16 4 < b.u16 4 + b.u16 6))))
  || (r.typ == 0x0103 && !noDup r.sites)

/-- REFUSE_FORMAT of a record that has been cut from its section (R106, R108, R148). -/
def recFormat (c : DCtx) (r : Rec) : Bool :=
  match r.need with
  | none => false
  | some n =>
    (if r.typ / 256 % 128 = c.k + 1 || c.k = 6 then
      decide (r.len < r.minLen) || r.len != pad4 n || !zeroBytes r n (r.len - 1)
     else false)
    || (r.typ == 0x0701 && c.k == 6 && (r.u8 4 != c.profs || decide (c.profCount ≤ r.u8 4)))
    || (c.k == 6 && r.typ != 0x0701 && c.profs == 0)

/-- A record whose type is not defined, or that stands in the wrong section (R107). -/
def recForeign (c : DCtx) (r : Rec) : Bool :=
  match r.need with
  | none => true
  | some _ => r.typ / 256 != c.k + 1 && c.k != 6

/-- A defined type that R149 does not admit as an override. -/
def recNotOverride (c : DCtx) (r : Rec) : Bool :=
  c.k == 6 && r.typ != 0x0701 && r.need.isSome && !overridable r.typ

/-- The first fault of a record, in the order R528 lists the codes. -/
def recFault (c : DCtx) (r : Rec) : Option Nat :=
  if recForeign c r then
    if c.k == 6 && c.profs == 0 then some refFormat
    else if r.skip then none else some refUnknown
  else firstCode
    [ (recFormat c r, refFormat),
      (recReserved r, refReserved),
      (recRange c r, refRange),
      (recOrder c r, refOrder),
      (recAbsent c r, refAbsent),
      (recCapacity c r, refCapacity),
      (recCeiling c r, refCeiling),
      (recNotOverride c r, refProfileRecord),
      (recTaken c r, refOwner) ]

/-- A record that stage D skips (R107). -/
def recSkipped (c : DCtx) (r : Rec) : Bool := recForeign c r && r.skip

/-- State of the walk over a section: records seen in the present profile, PROFILE records met, first fault. -/
structure DWalk where
  before : List Rec := []
  profs : Nat := 0
  fault : Option Refuse := none
deriving DecidableEq, Repr

/-- One record of stage D. -/
def walkRec (zk4 : Bool) (profCount : Nat) (topo : List Rec) (k : Nat) (w : DWalk) (r : Rec) : DWalk :=
  if w.fault.isSome then w
  else
    let c : DCtx := ⟨zk4, profCount, topo, k, w.before, w.profs⟩
    match recFault c r with
    | some code => { w with fault := some ⟨code, r.idx, none⟩ }
    | none =>
      if recSkipped c r then w
      else if r.typ = 0x0701 then { before := [], profs := w.profs + 1, fault := none }
      else { w with before := w.before ++ [r] }

/-- Padding bytes before a section that are not zero (R91). -/
def paddingBad (bs : List Byte) (t : List SecEnt) (k : Nat) : Bool :=
  match t[k]? with
  | some e => ((bs.drop (prevEnd t k)).take (e.off - prevEnd t k)).any (fun b => b != 0)
  | none => false

/-- Stage D over one section: padding before it, its records, then its CRC (R104, R528). A SIGNATURE section that holds no
SIG_P384 record (R116) has a broken layout, reported for the section as a whole: DESIGN CHOICE, assumption 56. -/
def checkSection (zk4 : Bool) (profCount : Nat) (bs : List Byte) (t : List SecEnt) (topo : List Rec) (s : Section) :
    Option Refuse :=
  if paddingBad bs t s.k then some ⟨refFormat, locMap, none⟩
  else
    let good := if s.broken then s.recs.dropLast else s.recs
    let w := good.foldl (walkRec zk4 profCount topo s.k) {}
    match w.fault with
    | some f => some f
    | none =>
      if s.broken then s.recs.getLast?.map (fun r => ⟨refFormat, r.idx, none⟩)
      else if s.k = 6 && w.profs != profCount then some ⟨refFormat, locSection 6, none⟩
      else if s.k = 9 && !(w.before.any (fun r => r.typ == 0x0A01)) then some ⟨refFormat, locSection 9, none⟩
      else if s.k != 9 && crc32c ((bs.drop s.ent.off).take s.ent.len) != s.ent.crc then
        some ⟨refSectionCrc, locSection s.k, none⟩
      else none

/-- Stage D of R528: the first held fault. -/
def checkStream (zk4 : Bool) (bs : List Byte) : Option Refuse :=
  let t := secTable bs
  let secs := cutSections bs t
  let topo := match secs with | s :: _ => s.recs | [] => []
  firstSome (secs.map (checkSection zk4 (byteAt bs 0x21) bs t topo))

/-- The decoded map: header, base, and each profile's overrides, skipped records left out (R94, R147). -/
def decodeMap (bs : List Byte) : MapImg :=
  let secs := cutSections bs (secTable bs)
  let known := fun (k : Nat) (r : Rec) =>
    !(match r.need with | none => true | some _ => r.typ / 256 != k + 1 && k != 6)
  let base := (secs.filter (fun s => s.k != 6)).flatMap (fun s => s.recs.filter (known s.k))
  let prof := (secs.filter (fun s => s.k == 6)).flatMap (fun s => s.recs.filter (known 6))
  let ovr := prof.foldl (fun (acc : List (List Rec)) r =>
    if r.typ = 0x0701 then acc ++ [[]]
    else match acc.getLast? with
      | some l => acc.dropLast ++ [l ++ [r]]
      | none => acc) []
  { header := bs.take 64, base := base, overrides := ovr }

/-! ## Stage F: references and needed records -/

/-- A reference of a record to a resource, as the type and key that must be declared in force (R111). -/
def recRefs (l : List Rec) (r : Rec) : List Bool :=
  match r.typ with
  | 0x0102 => [hasRec l 0x0101 (r.u8 5)]
  | 0x0103 => [hasRec l 0x0102 (r.u8 6)]
  | 0x0104 =>
    [(ofType l 0x0103).any (fun p => p.sites.contains (r.u16 4) && r.neighbours.all (fun x => p.sites.contains x))]
  | 0x0105 => [hasRec l 0x0102 (r.u8 5), hasRec l 0x0103 (r.u8 6)]
  | 0x0201 => [hasRec l 0x0101 (r.u8 4)]
  | 0x0202 => [hasRec l 0x0102 (r.u8 4)]
  | 0x0301 =>
    r.inputs.map (fun ki =>
      match ki.1 with
      | 0x01 => (ofType l 0x0101).any (fun x => x.phaseMask.testBit ki.2)
      | 0x02 => hasRec l 0x0101 ki.2
      | 0x03 => hasRec l 0x0101 ki.2
      | 0x04 => hasRec l 0x0103 ki.2
      | 0x06 => hasRec l 0x0102 ki.2
      | 0x07 => hasRec l 0x0102 ki.2
      | 0x09 => hasRec l 0x0301 ki.2
      | 0x0B => hasRec l 0x0101 ki.2
      | _ => true)
    ++ [match r.u8 12 with
        | 0x01 => hasRec l 0x0101 (r.u16 14)
        | 0x02 => hasRec l 0x0101 (r.u16 14)
        | 0x03 => hasRec l 0x0102 (r.u16 14)
        | 0x04 => hasRec l 0x0103 (r.u16 14)
        | 0x05 => hasRec l 0x0102 (r.u16 14)
        | 0x07 => hasRec l 0x0105 (r.u16 14)
        | _ => true]
    ++ r.stages.map (fun s => s.op != 5 || hasRec l 0x0401 s.b)
  | 0x0302 => [hasRec l 0x0301 (r.u8 4)]
  | 0x0402 => [hasRec l 0x0402 (r.u8 4 * 256), hasRec l 0x0402 (r.u8 4 * 256 + 1)]
  | 0x0403 =>
    (List.range 64).map (fun f =>
      r.u8 (4 + f) == 0xFF || (hasRec l 0x0402 (r.u8 (4 + f) * 256) && hasRec l 0x0102 f))
  | 0x0502 => [hasRec l 0x0101 (r.u8 4)]
  | 0x0503 => [hasRec l 0x0102 (r.u8 4)]
  | 0x0504 => [hasRec l 0x0103 (r.u8 4)]
  | 0x0601 => [hasRec l 0x0103 (r.u8 4)]
  | 0x0602 => [r.u8 5 != 1 || hasRec l 0x0103 (r.u8 6)]
  | 0x0603 => [hasRec l 0x0105 (r.u8 4)]
  | 0x0802 => [hasRec l 0x0102 (r.u8 4)]
  | 0x0901 => [hasRec l 0x0101 (r.u8 4)]
  | _ => []

/-- Unresolved references of the records in force. -/
def unbound (l : List Rec) : List Rec := (sortBy Rec.idx l).filter (fun r => (recRefs l r).any (fun b => !b))

/-- The override that removed the slot a record reads (R149, R150). -/
def removingOverride (base ovr : List Rec) (r : Rec) : Option Rec :=
  ovr.find? (fun o => o.removesSlot && hasRec base 0x0301 (o.u8 4) && r.inputs.any (fun ki => ki.1 == 9 && ki.2 == o.u8 4))

/-- REFUSE_UNBOUND over the records in force in each profile (R111, R150). -/
def checkUnbound (m : MapImg) : Option Refuse :=
  firstSome (m.overrides.map (fun o =>
    match unbound (applyOverrides m.base o) with
    | r :: _ => some ⟨refUnbound, ((removingOverride m.base o r).getD r).idx, none⟩
    | [] => none))

/-- The first declared record of a TOPOLOGY type without a partner. -/
def lacking (l : List Rec) (decl : Nat) (has : Rec → Bool) : Option Refuse :=
  ((ofType l decl).find? (fun r => !has r)).map (fun r => ⟨refMissing, r.idx, none⟩)

/-- REFUSE_MISSING (R126, R131, R144, R154, R155, R190). A map without a PADDOCK record has fewer than the 1 to 128 of R119, for
which the spec gives no refusal code: it is accepted, DESIGN CHOICE, assumption 56. -/
def checkMissing (m : MapImg) : Option Refuse :=
  let b := m.base
  firstSome
    ([ lacking b 0x0101 (fun r => hasRec b 0x0201 (r.u8 4)),
       (if (ofType b 0x0301).isEmpty then some ⟨refMissing, locSection 2, none⟩ else none),
       (if (ofType b 0x0501).isEmpty then some ⟨refMissing, locSection 4, none⟩ else none),
       lacking b 0x0101 (fun r => hasRec b 0x0502 (r.u8 4)),
       lacking b 0x0102 (fun r => hasRec b 0x0503 (r.u8 4)),
       lacking b 0x0103 (fun r => hasRec b 0x0504 (r.u8 4)),
       (if (ofType b 0x0801).isEmpty then some ⟨refMissing, locSection 7, none⟩ else none),
       lacking b 0x0102 (fun r => r.u8 6 != 1 || hasRec b 0x0802 (r.u8 4)),
       lacking b 0x0101 (fun r => hasRec b 0x0901 (r.u8 4)) ]
     ++ m.overrides.map (fun o =>
          let l := applyOverrides b o
          lacking l 0x0101 (fun r => r.u8 25 % 2 != 1
            || (ofType l 0x0301).any (fun s => s.u8 12 == 1 && s.u16 14 == r.u8 4))))

/-! ## Stage G: each profile -/

/-- Output kinds with one owner (R134). -/
def oneOwner (k : Nat) : Bool := [0x01, 0x02, 0x04, 0x05, 0x06, 0x07].contains k

/-- The second owner of a one-owner output, in record order. -/
def secondOwner : List Rec → List Rec → Option Rec
  | _, [] => none
  | seen, r :: t =>
    if oneOwner (r.u8 12) && seen.any (fun x => x.u8 12 == r.u8 12 && x.u16 14 == r.u16 14) then some r
    else secondOwner (seen ++ [r]) t

/-- A reference that the output kind does not admit (R173). -/
def refNotAdmitted (kind ref : Nat) : Bool :=
  match ref with
  | 0x1 => kind != 4
  | 0x2 => kind != 4
  | 0x3 => !([3, 4, 5].contains kind)
  | 0x4 => !([3, 4, 5].contains kind)
  | 0x5 => kind != 6
  | 0x6 => kind != 6
  | 0x7 => !([1, 2].contains kind)
  | _ => false

/-- Stages that may stand after INTEG (R177). -/
def afterInteg (s : Stage) : Bool :=
  [0x02, 0x04, 0x09, 0x0A, 0x10].contains s.op || (s.op == 3 && s.km != 0)

/-- The stages after the first INTEG stage. -/
def stagesAfterInteg : List Stage → List Stage
  | [] => []
  | s :: t => if s.op = 6 then t else stagesAfterInteg t

/-- REFUSE_PROGRAM (R173, R176, R177). -/
def badProgram (kind : Nat) (st : List Stage) : Bool :=
  st.any (fun s => ([4, 9, 0x0A].contains s.op && refNotAdmitted kind (s.b % 16))
    || ([0x0B, 0x0C, 0x0D].contains s.op && decide (s.a ≤ 7))
    || ([0x0E, 0x0F].contains s.op && decide (0x10 ≤ s.a)))
  || (st.filter (fun s => s.op == 0x10)).length != 1
  || (match st.getLast? with | some s => s.op != 0x10 | none => true)
  || decide (1 < (st.filter (fun s => s.op == 6)).length)
  || (stagesAfterInteg st).any (fun s => !afterInteg s)
  || decide (4 < (st.filter (fun s => s.op == 7 || s.op == 8)).length)

/-- The record to report for a fault between records (R150): the override that causes it, which is one without which the profile
does not have the fault, and otherwise the base record. Where more than one override is such, or only all of them together, the
spec names none, and the one of the lowest index is reported: DESIGN CHOICE, assumption 56. -/
def blame (base ovr : List Rec) (l : List Rec) (dflt : Nat) (bad : List Rec → Bool) : Nat :=
  let os := (sortBy Rec.idx l).filter (fun r => ovr.contains r)
  match os.find? (fun o => !bad (applyOverrides base (ovr.filter (fun x => x != o)))) with
  | some r => r.idx
  | none => match os with | r :: _ => r.idx | [] => dflt

/-- The ranges of two QUEUE_HEFT records meet (R153). -/
def heftMeets (a b : Rec) : Bool := decide (a.u16 4 < b.u16 4 + b.u16 6) && decide (b.u16 4 < a.u16 4 + a.u16 6)

/-- Of the first two QUEUE_HEFT records in force whose ranges overlap, the second, or the first where it alone is an override
(R150, R153). -/
def heftOverlap (ovr : List Rec) : List Rec → List Rec → Option Rec
  | _, [] => none
  | seen, r :: t =>
    match seen.find? (fun b => heftMeets b r) with
    | some b => some (if ovr.contains b && !ovr.contains r then b else r)
    | none => heftOverlap ovr (seen ++ [r]) t

/-- A layer 1 whose IN is not the OUT of its network's layer 0 (R141). -/
def layerMismatch (l : List Rec) (k : Nat) : Bool :=
  match findRec l 0x0402 (k * 256), findRec l 0x0402 (k * 256 + 1) with
  | some z, some r => z.u16 10 != r.u16 8
  | _, _ => false

/-- A fold whose flat share spends more than its POWER (R152). -/
def shareTooHigh (zk4 : Bool) (l : List Rec) (f : Nat) : Bool :=
  match findRec l 0x0802 f, findRec l 0x0503 f with
  | some r, some h => decide (h.u32 8 * 4 < r.u32 8 * queuesPerDispatcher zk4)
  | _, _ => false

/-- REFUSE_RANGE and REFUSE_ORDER across records (R136, R141, R152, R155, R156, R669). -/
def checkAcross (zk4 : Bool) (base ovr l : List Rec) : Option Refuse :=
  firstSome
    [ ((sortBy Rec.idx (ofType l 0x0301)).find? (fun r => r.divNear.isSome && r.u8 12 != 4)).map
        (fun r => ⟨refRange, r.idx, none⟩),
      ((ofType l 0x0402).find? (fun r => r.u8 5 == 1 && layerMismatch l (r.u8 4))).map
        (fun r => ⟨refRange, blame base ovr ([r] ++ (findRec l 0x0402 (r.u8 4 * 256)).toList) r.idx
          (fun x => layerMismatch x (r.u8 4)), none⟩),
      ((ofType l 0x0802).find? (fun r => shareTooHigh zk4 l (r.u8 4))).map
        (fun r => ⟨refRange, blame base ovr ([r] ++ (findRec l 0x0503 (r.u8 4)).toList) r.idx
          (fun x => shareTooHigh zk4 x (r.u8 4)), none⟩),
      ((ofType l 0x0502).find? (fun r =>
          match findRec l 0x0901 (r.u8 4) with | some s => decide (r.u16 6 < s.u16 12) | none => false)).map
        (fun r => ⟨refOrder, r.idx, none⟩),
      ((ofType l 0x0201).find? (fun r =>
          match findRec l 0x0901 (r.u8 4) with | some s => decide (r.code 1 < s.u16 6) | none => false)).map
        (fun r => ⟨refOrder, r.idx, none⟩),
      ((ofType l 0x0503).find? (fun h => foldKind zk4 (h.u8 4) == 3 &&
          decide (h.u32 8 < sumN ((ofType l 0x0603).map (fun a =>
            match findRec l 0x0105 (a.u8 4) with
            | some o => if o.u8 5 = h.u8 4 then a.u32 8 + a.u32 12 else 0
            | none => 0))))).map
        (fun h => ⟨refRange, h.idx, none⟩) ]

/-- The first slot that does not fit in the stage pool (R180). -/
def poolOverflow : Nat → List Rec → Option Rec
  | _, [] => none
  | used, r :: t => if 4096 < used + r.u8 10 then some r else poolOverflow (used + r.u8 10) t

/-- The layer record with which the weights pass 65,536 (R142). -/
def netOverflow : Nat → List Rec → Option Rec
  | _, [] => none
  | used, r :: t =>
    let u := used + r.u16 8 * r.u16 10
    if 65536 < u then some r else netOverflow u t

/-- Cost in cycles of network k (R294). -/
def netCost (l : List Rec) (k : Nat) : Nat :=
  match findRec l 0x0403 0, findRec l 0x0402 (k * 256) with
  | some nm, some z =>
    let n := ((List.range 64).filter (fun f => nm.u8 (4 + f) == k)).length
    let h := z.u16 10
    if n = 0 then 0 else 16 * ((n * h + 63) / 64) + ((h + 3) / 4) * ((8 * n + 63) / 64) + 8
  | _, _ => 0

/-- The record of the first residue with the highest cost above the budget (R78). -/
def laneOver (cs : List (Rec × Nat)) : Option Rec :=
  let best := (List.range 256).foldl (fun (acc : Nat × Nat) r =>
    let c := sumN ((residueSlots cs r).map (·.2))
    if acc.1 < c then (c, r) else acc) (0, 0)
  if 7200 < best.1 then (residueSlots cs best.2).head?.map (·.1) else none

/-- The first slot of the first residue that runs past cycle 481 (R161). -/
def lateStage (cs : List (Rec × Nat)) : Option Rec :=
  firstSome ((List.range 256).map (fun r =>
    let due := residueSlots cs r
    let placed := (placeAll (due.map (fun x => (x.1.u8 4, x.1.u16 8, x.2)))).1
    (placed.find? (fun p => decide (482 < p.2.2))).bind (fun p =>
      (due.find? (fun x => x.1.u8 4 == p.1)).map (·.1))))

/-- The first slot of the residue with the least room for a golden vector, when some residue lacks the room (R447). -/
def testRoom (cs : List (Rec × Nat)) : Option Rec :=
  let cmax := cs.foldl (fun m x => max m x.2) 0
  let best := (List.range 256).foldl (fun (acc : Nat × Nat) r =>
    let lanes := (placeAll ((residueSlots cs r).map (fun x => (x.1.u8 4, x.1.u16 8, x.2)))).2
    let room := lanes.foldl (fun m e => max m (482 - e)) 0
    if room < acc.1 then (room, r) else acc) (451, 0)
  if best.1 < cmax + 4 then (residueSlots cs best.2).head?.map (·.1) else none

/-- Stage G of R528 for one profile. -/
def checkProfile (zk4 : Bool) (base ovr : List Rec) : Option Refuse :=
  let l := applyOverrides base ovr
  let slots := sortBy Rec.idx (ofType l 0x0301)
  let cs := slotCosts l
  firstSome
    [ (secondOwner [] slots).map (fun r => ⟨refOwner, r.idx, none⟩),
      (heftOverlap ovr [] (sortBy Rec.idx (ofType l 0x0803))).map (fun r => ⟨refOwner, r.idx, none⟩),
      (slots.find? (fun r => badProgram (r.u8 12) r.stages)).map (fun r => ⟨refProgram, r.idx, none⟩),
      (slots.find? (fun r => r.inputs.any (fun ki => ki.1 == 7) && decide (r.u16 8 < 232))).map
        (fun r => ⟨refForecastEarly, r.idx, none⟩),
      checkAcross zk4 base ovr l,
      (poolOverflow 0 slots).map (fun r => ⟨refStagePool, r.idx, none⟩),
      (netOverflow 0 (sortBy Rec.idx (ofType l 0x0402))).map (fun r => ⟨refNetSize, r.idx, none⟩),
      (if 200 < sumN ((List.range 4).map (netCost l)) then
        (findRec l 0x0403 0).map (fun r => ⟨refNetTime, r.idx, none⟩) else none),
      (laneOver cs).map (fun r => ⟨refLaneBudget, r.idx, none⟩),
      (lateStage cs).map (fun r => ⟨refLateStage, r.idx, none⟩),
      (testRoom cs).map (fun r => ⟨refTestRoom, r.idx, none⟩) ]

/-- Stage G over every profile, in order; the refusal names the profile. -/
def checkProfiles (zk4 : Bool) (m : MapImg) : Option Refuse :=
  firstSome ((List.range m.overrides.length).map (fun p =>
    (checkProfile zk4 m.base (m.overrides.getD p [])).map (fun r => { r with prof := some p })))

/-! ## Stage H: live reload -/

/-- REFUSE_LIVE_TOPOLOGY (R535). -/
def checkLive (old new : MapImg) : Option Refuse :=
  let tf := fun (m : MapImg) => m.base.filter (fun r => r.typ == 0x0101 || r.typ == 0x0102)
  match (tf new).find? (fun r => !((tf old).any (fun o => o.bytes == r.bytes))) with
  | some r => some ⟨refLiveTopology, r.idx, none⟩
  | none =>
    if (tf old).any (fun o => !((tf new).any (fun r => r.typ == o.typ && r.key == o.key))) then
      some ⟨refLiveTopology, locSection 0, none⟩
    else none

/-- Stages B and C: the faults that end the reading at once (R529). -/
def checkFront (zk4 : Bool) (bs : List Byte) : Option Refuse :=
  match checkHeader zk4 (bs.take 64) with
  | some r => some r
  | none => checkTable bs

/-- Stages B to E over the bytes of a map in flash (R528, R602). -/
def checkStored (zk4 : Bool) (psc : PscAnswer) (bs : List Byte) : Option Refuse :=
  match checkFront zk4 bs with
  | some r => some r
  | none =>
    let held := checkStream zk4 bs
    if !psc.sigOk then some ⟨refSignature, locSection 9, none⟩
    else match held with
      | some r => some r
      | none => if (decodeMap bs).mapRev < psc.floor then some ⟨refRollback, locMap, none⟩ else none

/-- Stages B to H of the check over the whole map: a refusal, or the decoded map (R528, R529). The argument `live` is the
running map of a live reload. -/
def checkMap (zk4 : Bool) (psc : PscAnswer) (live : Option MapImg) (bs : List Byte) : Option Refuse :=
  match checkFront zk4 bs with
  | some r => some r
  | none =>
    let held := checkStream zk4 bs
    if !psc.sigOk then some ⟨refSignature, locSection 9, none⟩
    else match held with
      | some r => some r
      | none =>
        let m := decodeMap bs
        firstSome
          [ (if m.mapRev < psc.floor then some ⟨refRollback, locMap, none⟩ else none),
            checkUnbound m,
            checkMissing m,
            checkProfiles zk4 m,
            live.bind (fun o => checkLive o m) ]

end Sys2Proof.Machine
end

