-- ==== Sys2Proof/Syntax.lean ====
section
/-! DEFINITION. The commands and events of the block, one constructor per row of the table of operations and events, with
the operands each carries: the values that the sender, the sensor or the pin supplies. -/

namespace Sys2Proof

/-- The requesters of R26 and R655. -/
inductive Requester where
  /-- the package security controller, always the Warden -/
  | psc
  /-- Drover firmware on hart k; hart 0 is the Warden while its window is open -/
  | hart (k : Nat)
  /-- the host driver -/
  | host
  /-- the BMC, through H3 and the platform interface -/
  | bmc
deriving DecidableEq, Repr

/-- Who makes a register access, and in which of the frame's 200 bus cycles it reaches the register bus (R80). -/
structure WCtx where
  req : Requester
  cyc : Nat := 0
deriving DecidableEq, Repr

/-- The SECDED outcome of a Store or weight word (R296, R558, R559). -/
inductive EccErr where
  | clean
  /-- a single-bit error -/
  | single
  /-- an uncorrectable error -/
  | double
deriving DecidableEq, Repr

/-- A SECDED error met in a word of the Bellwether weight memory (R296). -/
structure WeightErr where
  word : Nat
  double : Bool
deriving DecidableEq, Repr

/-- Phase Driver snapshot carried by OUTPUT packets and catch-up (R399): per phase STATE and c_p, per rail the compensator
integrator and V_ref. -/
structure PdSnap where
  phases : List (Nat × Nat × Nat)
  rails : List (Nat × Nat × Nat)
deriving DecidableEq, Repr

/-- STATUS packet (R399). -/
structure StatusPkt where
  crcOk : Bool
  frame : Nat
  role : Nat
  ready : Bool
  mapDigest : Nat
  profile : Nat
  imageVer : Nat
  thermtripN : Bool
deriving DecidableEq, Repr

/-- INPUT packet (R399): for every phase its latest conversion, and whether the frame before has made it; for every rail the last
two conversions; PMBus readings by supply, the holder's own diode conversions, and the digest of the intents, which reach both
instances. -/
structure InputPkt where
  crcOk : Bool
  phases : List (Nat × Nat × Bool)
  rails : List (Nat × Nat × Nat)
  pmbus : List (Nat × Nat)
  diodes : List (Nat × Nat)
  digest : Nat
deriving DecidableEq, Repr

/-- OUTPUT packet (R399): (slot, CALC, output) for every due slot, (fold, throttle) levels, the diode trip state, and the
holder's Phase Driver snapshot. -/
structure OutputPkt where
  crcOk : Bool
  slots : List (Nat × Nat × Nat)
  throttle : List (Nat × Nat)
  tripped : Bool
  snap : Option PdSnap
deriving DecidableEq, Repr

/-- What a MIRROR packet asks for (R399, R427, R536). -/
inductive MirrorOp where
  /-- a register write under R205 -/
  | write (off v : Nat)
  /-- a profile request -/
  | profile (p : Nat)
  /-- the holder names the boundary at which its prepared profile commits -/
  | profileAt (frame : Nat)
  /-- the holder refuses a profile that the standby asked for -/
  | profileRefuse
  /-- the standby passed, or refused, a mirrored reload -/
  | reloadPass
  | reloadRefuse
  /-- the holder names the commit boundary of a staged reload -/
  | commitAt (frame : Nat)
deriving DecidableEq, Repr

/-- MIRROR packet: a request tagged with the boundary at which it commits. -/
structure MirrorPkt where
  crcOk : Bool
  boundary : Nat
  op : MirrorOp
deriving DecidableEq, Repr

/-- Verdict of a targeted test (R435, R468). -/
inductive TestVerdict where
  | pass
  | fail
  | notRun
deriving DecidableEq, Repr

/-- INTENT message (R285): `msg` is byte 0, which a CANCEL row never has, and `rsv` bytes 10–11. -/
structure IntentMsg where
  seq : Nat
  fold : Nat
  start : Nat
  tileKind : Nat
  format : Nat
  opclass : Nat
  tiles : Nat
  duration : Nat
  tag : Nat
  rsv : Nat := 0
  msg : Nat := 1
deriving DecidableEq, Repr

/-- What a BULK packet carries (R399, R371, R404, R414, R446). -/
inductive BulkOp where
  /-- catch-up: a slot's I, FILTER and DERIV states, and the percentage copied -/
  | slotState (slot integ : Nat) (states : List Nat)
  | pdSnap (p : PdSnap)
  /-- a fold's last accepted SEQ, whether it has one, and its schedule entries: absolute start, latch boundary, intent -/
  | schedule (fold lastSeq : Nat) (valid : Bool) (entries : List (Int × Nat × IntentMsg))
  | siteStates (l : List (Nat × Nat))
  /-- bytes of the grant and ledger region or of the golden records, at a Store address -/
  | storeBytes (addr : Nat) (bytes : List Byte)
  | progress (pct : Nat)
  /-- the epoch (R371) -/
  | epoch (e : Nat)
  /-- digest of a grant round or of a processed bank (R414) -/
  | roundDigest (crc : Nat)
  | bankDigest (bank crc : Nat)
  /-- the holder's published values for a round or bank whose digests differ (R414) -/
  | takeRound (rates : List (Nat × Nat))
  /-- the peer's golden-test result of a slot (R446) -/
  | golden (slot : Nat) (pass : Bool)
  /-- the peer's verdict of a source's test (R417, R433) -/
  | verdict (source : Nat) (v : TestVerdict)
  /-- the start of a channel's loopback test on both instances (R417) -/
  | loopback (source : Nat)
  /-- a conversion of a diode channel that the sender serves (R316) -/
  | diode (ch : Nat) (temp : Int)
deriving DecidableEq, Repr

/-- BULK packet. -/
structure BulkPkt where
  crcOk : Bool
  op : BulkOp
deriving DecidableEq, Repr

/-- Mesh copy of twin status (R40). -/
structure MeshStatus where
  role : Nat
  ready : Bool
  frame : Nat
deriving DecidableEq, Repr

/-- The causes for which the keeper drops the gate (R408). -/
inductive KeeperCause where
  | lostFrames
  | reset
  | noBoundary
  | timeBase
deriving DecidableEq, Repr

/-- REPORT of a Crook cell (R282). -/
structure CellReport where
  stuck : Bool
  orphan : Bool
  stretching : Bool
  frame : Nat
  trips : Nat
  edges : Nat
deriving DecidableEq, Repr

/-- FENCE_ACK (R347); `rsv` is its reserved bits. -/
structure FenceAckMsg where
  tile : Nat
  fenced : Bool
  forced : Bool
  stileOn : Bool
  rsv : Nat := 0
deriving DecidableEq, Repr

/-- ROUTE_STATE (R347); `rsv` is its reserved bits. -/
structure RouteMsg where
  inUse : Bool
  demand : Bool
  demanded : Nat
  rsv : Nat := 0
deriving DecidableEq, Repr

/-- ROUND_ACK (R362); STATUS 0 APPLIED, 1 MISMATCH, 2 STALE. -/
structure RoundAckMsg where
  status : Nat
  source : Nat
  epoch : Nat
  grantSeq : Nat
deriving DecidableEq, Repr

/-- USAGE (R362); `held` is how many adds the DMA port's queue then holds beside those of the model (R554). -/
structure UsageMsg where
  queue : Nat
  period : Nat
  units : Nat
  waiting : Bool
  held : Nat := 0
deriving DecidableEq, Repr

/-- What a rising edge of the frame clock finds: the LE cycles since the one before, and whether the proof test of a planned
hand-over at it fails (R58, R464). -/
structure FrameEdge where
  leCycles : Nat
  gateFail : Bool
deriving DecidableEq, Repr

/-- What a cell's trip finds: the edges of its clock since they were last counted, and the voltage code (R271, R272). -/
structure TripEdge where
  edges : Nat
  code : Nat
deriving DecidableEq, Repr

/-- The last field of a message of the mesh, with the message's reserved bits (R285, R347). -/
structure LastField where
  val : Nat
  rsv : Nat
deriving DecidableEq, Repr

/-- What H3's test of a row says, with the requesters whose accesses to the row wait for its end (R449). -/
structure RowVerdict where
  ok : Bool
  waits : List Requester
deriving DecidableEq, Repr

/-- Bytes written to the Store, with the requester, if any, whose read of one of the words comes in the same cycle (R555). -/
structure StoreData where
  bytes : List Byte
  reader : Option Requester
deriving DecidableEq, Repr

/-- What a read of the Store meets: the SECDED outcome of its words, or a write that stores the same words in the same cycle, with
what it stores (R555, R558, R559). -/
inductive ReadMeets where
  | ecc (e : EccErr)
  | write (v : Nat)
deriving DecidableEq, Repr

/-- What self-calibration finds (R500): domains whose loop has not locked, domains whose monitor fails its proof test, whether
a delay-line tap lies outside its limit, and the phase, rail and diode channels that fail. -/
structure CalibResult where
  loops : List Nat
  monitors : List Nat
  delayLine : Bool
  phases : List Nat
  rails : List Nat
  diodes : List Nat
deriving DecidableEq, Repr

/-- What a poll of a supply has read: the words of READ_POUT, READ_IOUT and READ_VOUT, the byte of VOUT_MODE, STATUS_WORD, each
where the cycle reads it, and the length of the port's cycle where this poll ends it (R642, R643). -/
structure PollData where
  pout : Option Nat
  iout : Option Nat
  vout : Option Nat
  mode : Option Nat
  status : Option Nat
  cycleUs : Option Nat
deriving DecidableEq, Repr

/-- The commands: one constructor per row of the table of operations and events, in the table's order. Each docstring names
the rule that the row cites. -/
inductive Instr where
  /-- Rising edge of the frame clock: staged commits apply, the previous frame's loop outputs apply and the input set is latched (R62). -/
  | frameBoundary (edge : FrameEdge)
  /-- At LE cycle 32 the due slots are placed on lanes and their programs run (R160). -/
  | loopWindow
  /-- A residual above BOUND for FRAMES runs sets PLAUS, raises the slot fault and holds the slot (R208). -/
  | plausFault (slot : Nat)
  /-- From LE cycle 32 Bellwether forms features and evaluates every mapped fold's network (R294). -/
  | bellwetherEval (errs : List WeightErr)
  /-- At LE cycle 240 Bellwether sends each rail an early-add request when the forecast needs more phases (R299). -/
  | earlyAddCheck
  /-- At LE cycle 482 the outputs are sent in an OUTPUT packet and staged for the next boundary (R62). -/
  | outputStage
  /-- The peer's OUTPUT packet arrives and the frame's slot outputs are compared (R411). -/
  | twinOutputPacket (p : OutputPkt)
  /-- A STATUS packet from the peer arrives and aligns the frame, role and PEER_READY (R401). -/
  | twinStatusPacket (p : StatusPkt)
  /-- The holder's INPUT packet arrives; the standby computes on it and compares its own inputs (R405). -/
  | twinInputPacket (p : InputPkt)
  /-- An INPUT packet not whole by cycle 31 makes the frame UNCOMPARED (R405). -/
  | inputNotWhole
  /-- A channel differing beyond tolerance for 8 frames sets INDIFF and starts its loopback test (R412). -/
  | inputDisagreement (rail : Bool) (ch : Nat)
  /-- A mirrored register write or reconfiguration arrives to commit at the tagged boundary (R205). -/
  | twinMirrorPacket (p : MirrorPkt)
  /-- A BULK packet carries catch-up state, the epoch or grant and ledger digests for comparison (R414). -/
  | twinBulkPacket (p : BulkPkt)
  /-- The catch-up copy completes and the joining instance moves to SHADOW (R404). -/
  | catchUpComplete
  /-- CLEAN reaches CLEAN_FRAMES and the SHADOW instance moves to STANDBY (R403). -/
  | cleanFramesReached
  /-- Two frames without a ready STATUS return PEER_READY to 0 (R408). -/
  | peerReadyLapse
  /-- A standby without twin-link STATUS for 2 frames, but with mesh status, raises LINK_DOWN (R422). -/
  | linkDown
  /-- A standby with both status paths silent for 2 frames and gate_peer high raises PEER_SILENT (R422). -/
  | peerSilent
  /-- The keeper drops the holder's gate on lost frames, a reset, lost boundaries or lost PWM base (R408). -/
  | keeperGateDrop (cause : KeeperCause)
  /-- gate_peer of a STANDBY instance falls and the takeover starts (R420). -/
  | gatePeerFall
  /-- After gate_peer has read low for 40 or 60 ns the instance raises its gate (R407). -/
  | gateRaise
  /-- 20 ns after raising gate, gate_peer is sampled again and the drivers are enabled or Zoskare B backs off (R407). -/
  | gateResample
  /-- The golden-vector verdict reaches both instances and acts by the holder and standby results (R416). -/
  | goldenVerdict (slot : Nat) (holderPass : Bool) (standbyPass : Bool)
  /-- A Warden SWAP write stages a planned hand-over to the standby (R423). -/
  | swap (w : WCtx)
  /-- A Warden ATTACH write moves a DETACHED instance to JOINING (R403). -/
  | twinAttach (w : WCtx)
  /-- A Warden DETACH write takes the instance out of service, via SWAP if it governs (R425). -/
  | twinDetach (w : WCtx)
  /-- A remote-sense conversion completes and the rail compensator runs once (R231). -/
  | railSenseConversion (rail : Nat) (code : Nat)
  /-- 32 consecutive conversions above V_ref + 60 mV switch the rail off and raise a FATAL fault (R249). -/
  | sg2Shutdown (rail : Nat)
  /-- Every 250 ns V_ref moves one code toward the target, or at RAMP_RATE during a ramp (R223). -/
  | vrefStep
  /-- A phase-current sample arrives, is checked for integrity and updates the share correction (R233). -/
  | phaseCurrentSample (phase : Nat) (code : Nat) (refOff : Bool)
  /-- A phase failing to conduct in JUDGE samples is fenced with cause NO_CONDUCT (R253). -/
  | phaseFenceVerdict (phase : Nat)
  /-- A phase with sense-invalid samples or a clamped share in JUDGE samples is derated (R255). -/
  | phaseDerate (phase : Nat)
  /-- The phase current crosses SC and the pulse is ended within 20 ns (R246). -/
  | shortCircuitTrip (phase : Nat)
  /-- A phase that trips in 16 consecutive periods is fenced with cause SC_REPEAT (R246). -/
  | scRepeatFence (phase : Nat)
  /-- A phase's period starts at its ranked start and the pending state changes take effect (R228). -/
  | switchingPeriodStart (phase : Nat)
  /-- After DWELL frames of low current the rail sheds its highest-numbered ACTIVE phase (R242). -/
  | shedDecision (rail : Nat)
  /-- At MIN_ACTIVE and low current for SKIP_FRAMES frames pulse skipping engages (R245). -/
  | pulseSkipEngage (rail : Nat)
  /-- A Warden RESTART write clears OFF_LATCH and ramps an OFF rail at the next boundary (R263). -/
  | restart (w : WCtx) (rail : Nat)
  /-- A Warden CLEAR_SAFE write ends RAIL_SAFE at the next boundary (R258). -/
  | clearSafe (w : WCtx) (rail : Nat)
  /-- A Warden write of FENCE fences a phase, or releases a Warden fence, at the next boundary (R265). -/
  | phaseFenceWrite (w : WCtx) (phase : Nat) (on : Bool)
  /-- A Crook cell's local voltage falls below its threshold and it starts stretching its clock (R271). -/
  | cellTrip (cell : Nat) (m : TripEdge)
  /-- A tripped cell releases when the voltage has recovered by HYST and MIN_HOLD edges have passed (R273). -/
  | cellRelease (cell : Nat) (edges : Nat) (code : Nat)
  /-- A cell's accounting frame closes 420 ns before the boundary and it sends its REPORT (R279). -/
  | accountingFrameEnd (cell : Nat) (edges : Nat)
  /-- A cell tripped through STUCK_FRAMES accounting frames sets STUCK and a CONTAINED fault is raised (R275). -/
  | cellStuck (cell : Nat)
  /-- A cell without FRAME_SYNC for 128 frames enters ORPHAN and uses its FALLBACK code (R284). -/
  | cellOrphan (cell : Nat)
  /-- A cell receives THRESH and applies the new threshold code (R269). -/
  | thresh (fold : Nat) (code : Nat)
  /-- A cell receives CONFIG with HYST, MAX_STRETCH, FALLBACK, MIN_HOLD and STUCK_FRAMES (R283). -/
  | config (fold : Nat) (hyst : Nat) (maxStretch : Nat) (fallback : Nat) (minHold : Nat) (stuckFrames : Nat)
  /-- A cell receives CELL_EN and takes the enable it carries (R270). -/
  | cellEn (cell : Nat) (en : Bool)
  /-- A cell receives FRAME_SYNC, aligns its accounting frames and leaves ORPHAN (R278). -/
  | frameSync (frame : Nat)
  /-- A cell receives TEST and trips at 50 % for 16 suppressed edges (R282). -/
  | test (cell : Nat)
  /-- A cell receives ECHO and answers with ECHO_REPLY (R278). -/
  | echo (cell : Nat)
  /-- A cell receives DELAY and applies the compensation from the next FRAME_SYNC (R282). -/
  | delay (cell : Nat) (comp : Nat)
  /-- A TRIP message from a cell arrives and counts as a step on the rail and for shed deferral (R303). -/
  | trip (cell : Nat)
  /-- A cell's REPORT arrives and is added to its fold's Crook summary, late ones counted (R281). -/
  | report (cell : Nat) (r : CellReport)
  /-- An ECHO_REPLY arrives and the Gate holder sends the cell DELAY with half the round trip (R278). -/
  | echoReply (cell : Nat) (rtt : Nat)
  /-- A cell without ECHO_REPLY after 16 frames is sent DELAY with the fold's largest compensation (R278). -/
  | echoTimeout (cell : Nat)
  /-- Every 64 frames the Gate holder sends FRAME_SYNC to every enabled cell (R278). -/
  | frameSyncPeriod
  /-- A Warden write of ZK_CROOK_TEST.CELL sends one TEST command to that cell (R306). -/
  | crookTestWrite (w : WCtx) (cell : Nat)
  /-- An INTENT arrives, is checked and sequenced, and is entered in the fold's schedule or dropped (R288). -/
  | intent (dispatcher : Nat) (m : IntentMsg)
  /-- A CANCEL arrives and removes every schedule entry of the fold with its TAG (R289). -/
  | cancel (dispatcher : Nat) (fold : Nat) (tag : Nat) (seq : LastField)
  /-- A write of ZK_BW_CLEAR.RAILS sets every rail's MISSES to 0 (R310). -/
  | bwClearRails (w : WCtx)
  /-- A write of ZK_BW_CLEAR.FOLDS sets every fold's intent counters to 0 (R310). -/
  | bwClearFolds (w : WCtx)
  /-- A site's READING for an open sweep arrives and is written to the sample FIFO (R319). -/
  | reading (site : Nat) (tag : Nat) (valid : Bool) (temp : LastField)
  /-- A READING with REF = 1 delivers the site reference check result to the faults block (R442). -/
  | siteRefReading (site : Nat) (tag : Nat) (temp : LastField)
  /-- 1,250 ns after the request the sweep is closed, missing sites entered invalid, sites judged (R319). -/
  | sweepClose (paddock : Nat)
  /-- A site SUSPECT in two consecutive sweeps becomes FAILED and raises a CONTAINED fault (R326). -/
  | siteFailed (site : Nat)
  /-- A site HIGH in two consecutive sweeps raises a CONTAINED fault and stays HIGH (R326). -/
  | siteHighFault (site : Nat)
  /-- A diode out of range or off its paddock's median in two sweeps fails and lowers the clamp (R329). -/
  | diodeFailed (ch : Nat)
  /-- A tile site at or above TILE_FENCE_T in two sweeps fences the tile (R338). -/
  | hotFence (tile : Nat)
  /-- An instance converts an own diode channel every 8 frames and forwards it over the twin link (R316). -/
  | diodeConversion (ch : Nat) (temp : Int)
  /-- A diode at or above 115.0 °C for 2 µs sets the trip latch and drives thermtrip_n low (R343). -/
  | diodeTrip (ch : Nat) (temp : Int)
  /-- The joined thermtrip_n net falls and the Gate holder takes every rail OFF with a FATAL fault (R344). -/
  | thermtripNetLow
  /-- A memory controller's HBM_TEMP reading arrives (R317). -/
  | hbmTemp (ctrl : Nat) (temp : Int)
  /-- A controller without a reading for 256 frames becomes stale (R317). -/
  | memctrlStale (ctrl : Nat)
  /-- An optical engine's OPT_REPORT arrives with its draw and lock state (R337). -/
  | optReport (engine : Nat) (locked : Bool) (heater : Nat) (laser : LastField)
  /-- Draw above the allowance in 4 consecutive reports sets OVER and raises a CONTAINED fault (R337). -/
  | opticalOver (engine : Nat)
  /-- A router's FENCE_ACK arrives for a tile fence, unfence or stile change (R339). -/
  | fenceAck (flock : Nat) (m : FenceAckMsg)
  /-- A router's ROUTE_STATE arrives and may demand a PARKED stile ON (R342). -/
  | routeState (flock : Nat) (m : RouteMsg)
  /-- A fully fenced flock unused for 64 frames has its stile parked by STILE_OFF (R342). -/
  | stilePark (flock : Nat)
  /-- A Warden write to ZK_TH_FENCEk requests or withdraws tile fences (R338). -/
  | tileFenceWrite (w : WCtx) (tile : Nat) (on : Bool)
  /-- Every GRANT_PERIOD frames H1 increments the epoch and computes and publishes a round (R355). -/
  | grantRound
  /-- A ROUND_ACK arrives; on MISMATCH SENT is reset and the round resent once (R365). -/
  | roundAck (fold : Nat) (m : RoundAckMsg)
  /-- At the first boundary of a ledger period banks rotate and PERIOD is sent (R384). -/
  | ledgerPeriodStart
  /-- A USAGE arrives and its units enter the matching bank by a bank atomic add (R384). -/
  | usage (m : UsageMsg)
  /-- A USAGE_END arrives with the count of USAGE messages sent for the period (R388). -/
  | usageEnd (fold : Nat) (period : Nat) (count : Nat)
  /-- A CLOSING bank becomes READY 64 frames after it stopped being OPEN (R384). -/
  | bankReady (bank : Nat)
  /-- H1 books a READY bank's energy to queues and shared accounts and releases it (R386). -/
  | bankBooking (bank : Nat)
  /-- A write of RELEASE on a READY bank makes it FREE and zeroes its UNITS (R394). -/
  | release (w : WCtx) (bank : Nat)
  /-- The mesh port returns a completion mask with DONE or NOBUF per target (R377). -/
  | meshCompletion (msg : Nat) (mask : Nat)
  /-- RETRY_GAP frames later the message is resent to its NOBUF targets, or the target abandoned (R378). -/
  | meshRetry (msg : Nat)
  /-- An endpoint consumes a reserved-class message and the instance regains a credit (R375). -/
  | creditReturn (endpoint : Nat)
  /-- A PROBE_REPLY arrives for a probe test of a mesh path (R444). -/
  | probeReply (token : Nat) (source : Nat)
  /-- A targeted test ends PASS or FAIL and the source moves to QUIET or LASTING (R435). -/
  | testVerdict (source : Nat) (verdict : TestVerdict)
  /-- A test without a result by its time limit gives NOT_RUN (R442). -/
  | testTimeLimit (source : Nat)
  /-- QUIET_LEFT reaches 0: a QUIET source clears, a LASTING source is retested (R436). -/
  | quietExpiry (source : Nat)
  /-- EVENTS reaching N within the window takes the source to SEVERE (R450). -/
  | escalationSevere (source : Nat)
  /-- A source's event window ends and EVENTS returns to 0 (R450). -/
  | windowExpiry (source : Nat)
  /-- H3 locks a Store row, tests it with four patterns, restores and unlocks it (R449). -/
  | rowPatternTest (row : Nat) (verdict : RowVerdict)
  /-- ZK_FLT_CMD ACTION 0b01 clears a source at the commit boundary (R435). -/
  | clearSource (w : WCtx) (source : Nat)
  /-- ZK_FLT_CMD ACTION 0b10 runs a source's targeted test without an event (R668). -/
  | runSourceTest (w : WCtx) (source : Nat)
  /-- A write of REJECT_CLR sets the access-rejection counter to 0 (R465). -/
  | rejectClr (w : WCtx)
  /-- An accepted ARM of ZK_FLT_INJ starts COUNT injections at the target checker (R458). -/
  | faultInjectArm (w : WCtx) (arm : Bool) (target : Nat) (index : Nat) (count : Nat)
  /-- Every 10 s the short-circuit comparator of each FALLOW or FENCED phase is proof-tested (R464). -/
  | proofTestScPeriodic (phase : Nat) (ok : Bool)
  /-- Every 60 s each diode comparator is proof-tested with a test current (R464). -/
  | proofTestDiodePeriodic (ch : Nat) (ok : Bool)
  /-- Every 600 s a paddock's sites get the site reference check (R464). -/
  | proofTestSitePeriodic (paddock : Nat)
  /-- The selected clock reference loses eligibility and the mux switches under holdover (R472). -/
  | referenceLost (src : Nat)
  /-- The loops relock to the new reference and HOLDOVER clears (R472). -/
  | relockDone
  /-- A crystal's amplitude stays above threshold for 1 ms and its detector passes (R471). -/
  | crystalAmplitudePass (x : Nat)
  /-- A crystal not passing within 20 ms sets START_FAIL (R471). -/
  | crystalStartTimeout (x : Nat)
  /-- A failed crystal is restarted every 100 ms (R471). -/
  | crystalRestart (x : Nat)
  /-- A higher-priority source eligible for RET_MS ms becomes the reference again (R473). -/
  | autoReturn (src : Nat)
  /-- A loop output without edges for 8 reference cycles switches its domain to the fast RC (R478). -/
  | clockEdgeLost (dom : Nat)
  /-- A count outside TOL in 2 windows switches the domain to the fast RC (R478). -/
  | frequencyFailure (dom : Nat)
  /-- The fast RC disagrees with the reference and slow RC for 4 windows and FRC_BAD is set (R477). -/
  | frcBad
  /-- A domain on the fast RC returns to its locked loop after its re-count passes (R482). -/
  | domainReturn (dom : Nat)
  /-- A domain switch restarts the domain 3 cycles after the new source and records lost time (R485). -/
  | domainSwitchDone (dom : Nat) (lostNs : Nat)
  /-- No edge of the old source for 8 cycles forces the stop and the switch proceeds (R486). -/
  | forcedStop (dom : Nat)
  /-- A write of ZK_CLK_SWITCH.GO returns DOMAIN to its loop when R482 holds (R494). -/
  | go (w : WCtx) (dom : Nat)
  /-- A write to ZK_CLK_EN gates or ungates blocks 4 bus cycles later (R489). -/
  | clkEnWrite (w : WCtx) (v : Nat)
  /-- A write of HART_DIV or BUS_DIV acts by a stop-switch-restart within 1 µs (R485). -/
  | clkDivWrite (w : WCtx) (v : Nat)
  /-- The keep-domain power-up detector resets everything, including the trip latch (R491). -/
  | keepPowerUp
  /-- por_n goes low and resets everything except the trip latch and THERMTRIP source (R491). -/
  | porAssert
  /-- hold_n low for more than the 20 ns filter asserts the BLOCK scope (R492). -/
  | holdNLow (ns : Nat)
  /-- A write of ZK_RST_CMD.LE resets the LE datapath and slot state (R495). -/
  | rstLe (w : WCtx)
  /-- A write of ZK_RST_CMD.TWIN resets the twin block to DETACHED (R495). -/
  | rstTwin (w : WCtx)
  /-- A write of ZK_RST_CMD.BLOCK asserts the BLOCK scope for 32 bus cycles (R495). -/
  | rstBlock (w : WCtx)
  /-- A write of ZK_RST_CMD.HART bit k resets hart k (R495). -/
  | rstHart (w : WCtx) (hart : Nat)
  /-- A reset releases 3 cycles of each domain's clock after its trigger ends (R492). -/
  | resetRelease
  /-- A hart's 8 ms watchdog expires, its HART scope asserts and its source is raised (R586). -/
  | watchdogExpiry (hart : Nat)
  /-- The full sequence starts on por_n rising, or the block sequence at the end of a BLOCK scope (R496). -/
  | sequenceStart
  /-- Fuse read and PSC handshake complete and CALIB starts (R497). -/
  | romStepDone (ok : Bool) (factory : Bool)
  /-- Self-calibration of clocks, delay lines, ADCs, diodes and zero current completes or stops (R500). -/
  | calibDone (c : CalibResult)
  /-- The Store pattern fill and check completes and failed rows are retired (R502). -/
  | storeInitDone (failedRows : List Nat)
  /-- The Drover image load and verification ends; harts start or the safe governor starts (R583). -/
  | imageVerified (answers : Bool) (psc : Machine.PscAnswer)
  /-- On map admission the instance reads the peer's STATUS and takes its twin role (R506). -/
  | roleDecision (peerStarting : Bool) (gateFail : Bool)
  /-- Zoskare B's 10 ms wait for A ends and B governs (R506). -/
  | bWaitExpiry (gateFail : Bool)
  /-- A ramp group's proof tests run and its rails ramp from OFF at RAMP_RATE (R508). -/
  | rampGroupStart (scFails : List Nat) (sg2Fails : List Nat)
  /-- A rail's conversions stay within 20 mV of V_ref for 100 µs and it reaches power-good (R508). -/
  | railPowerGood (rail : Nat)
  /-- A rail not at power-good 1 ms after its ramp time goes OFF with a FATAL source (R509). -/
  | powerGoodTimeout (rail : Nat)
  /-- RAMP_GAP after a group's power-good, the next group's proof tests start (R508). -/
  | rampGapExpiry
  /-- Site calibration and Crook alignment complete (R513). -/
  | sitesDone (bad : List Nat)
  /-- A write of ZK_RUN.EN = 1 from IDLE or REFUSED starts the loader and check (R526). -/
  | enSet (w : WCtx) (keep : Bool) (src : Bool) (ring : Nat)
  /-- A write of ZK_RUN.EN = 0 aborts the check or stops the running map (R526). -/
  | enClear (w : WCtx)
  /-- A write of ZK_RUN.RELOAD while RUNNING starts a live reload into hidden banks (R534). -/
  | reload (w : WCtx) (keep : Bool) (src : Bool) (ring : Nat)
  /-- The map check ends: the map is staged to commit, or refused with ZK_REFUSE written (R528). -/
  | mapCheckDone (psc : Machine.PscAnswer)
  /-- No ring byte for 10 ms refuses the map with REFUSE_STALLED (R531). -/
  | loaderStall
  /-- A standby silent 4,096 frames after the holder's pass is treated as refusing (R536). -/
  | standbyReloadTimeout
  /-- A write of ZK_PROFILE.REQ starts, retargets, holds or refuses a profile switch (R539). -/
  | profileReq (w : WCtx) (p : Nat)
  /-- Profile preparation into the hidden banks ends and the switch is staged (R538). -/
  | profilePrepDone (frames : Nat)
  /-- A write of ZK_CAP_BMC.CAP stages a package cap applied at step 3 (R546). -/
  | capBmcWrite (w : WCtx) (v : Nat)
  /-- REMAIN reaches 0 and H0's Warden window closes (R542). -/
  | wardenWindowExpiry
  /-- A write of MODE_REQ requests a slot mode, held during holds (R192). -/
  | modeReq (w : WCtx) (slot : Nat) (mode : Nat)
  /-- A write of a slot's MANUAL output commits at the next boundary (R194). -/
  | manual (w : WCtx) (slot : Nat) (v : Nat)
  /-- A stage, gain-table, slew, integrator or injector write is held and commits with step 6 (R195). -/
  | heldWrite (w : WCtx) (off : Nat) (v : Nat)
  /-- A write of ZK_LE_SLOT_CAP.ARM starts capture into the slot's buffer (R213). -/
  | captureArm (w : WCtx) (slot : Nat) (v : Nat)
  /-- A write of ZK_STORE_AMO_DATAk starts a bank atomic on the addressed word (R565). -/
  | amoStart (w : WCtx) (set : Nat) (v : Nat)
  /-- A write of ZK_STORE_RET puts banks into retention (R566). -/
  | retWrite (w : WCtx) (v : Nat)
  /-- An access to a bank in retention completes 2 µs after it arrived (R566). -/
  | bankWakeDone (bank : Nat)
  /-- A write reaches the Store through a port and its window (R568). -/
  | storeWrite (w : WCtx) (off : Nat) (data : StoreData)
  /-- The scrubber reads a word on a free DMA cycle and corrects single-bit errors (R560). -/
  | scrubRead (addr : Nat) (err : EccErr)
  /-- A read of ZK_FIFO_POP pops the head word when SW_CONSUME = 1 (R574). -/
  | fifoPop (w : WCtx)
  /-- A write of ZK_FIFO_WM.ACK clears HIT and CROSSINGS and reloads PEAK (R576). -/
  | ack (w : WCtx)
  /-- A read of a 64-bit pair's low word latches the high word into a shadow (R11). -/
  | readPairLow (w : WCtx) (off : Nat) (size : Nat)
  /-- A write to a register without a row of its own is judged and acts field by field (R660). -/
  | registerWrite (w : WCtx) (off : Nat) (size : Nat) (v : Nat)
  /-- A hart writes KICK to restart its own watchdog (R586). -/
  | kick (w : WCtx) (hart : Nat)
  /-- A hart writes SELF_RESET and its HART scope asserts at once (R586). -/
  | selfReset (w : WCtx) (hart : Nat)
  /-- The ROM's CRC check of a restarting hart's code ends and the hart starts or stays held (R587). -/
  | restartCheckDone (hart : Nat) (ok : Bool)
  /-- A hart executing WFI with SLEEP_OK has its clock gated (R590). -/
  | hartSleep (hart : Nat)
  /-- A doorbell, interrupt or non-maskable event wakes a sleeping hart within 2 µs (R590). -/
  | hartWake (hart : Nat)
  /-- At the end of each 1 ms window a hart's LOAD moves its shed level (R613). -/
  | shedWindowEnd (hart : Nat) (load : Nat)
  /-- A host write to ZK_HOST_HB is a heartbeat and resets HB_AGE (R597). -/
  | hb (w : WCtx)
  /-- HB_AGE reaches 2,000 ms while attached: ATTACHED clears and UNATTENDED is set (R597). -/
  | heartbeatLapse
  /-- A host write of ZK_RING_DB posts commands, returns completions and is a heartbeat (R595). -/
  | ringDoorbell (w : WCtx) (ring : Nat) (v : Nat)
  /-- Ring command ATTACH negotiates features and ends the unattended state (R603). -/
  | attach (ring : Nat)
  /-- Ring command DETACH ends the attachment as a lapsed heartbeat does (R598). -/
  | detach (ring : Nat)
  /-- Ring command GET_STATUS returns ZK_STATUS and ZK_REFUSE (R600). -/
  | getStatus (ring : Nat)
  /-- Ring command RING_CREATE allocates and enables a ring 1–63 (R600). -/
  | ringCreate (ring : Nat)
  /-- Ring command RING_RESET resets a ring and clears its ERR (R600). -/
  | ringReset (ring : Nat)
  /-- Ring command RING_DESTROY removes a ring 1–63 (R600). -/
  | ringDestroy (ring : Nat)
  /-- Ring command LOAD_MAP starts the loader on the ring by EN or RELOAD (R601). -/
  | loadMap (ring : Nat)
  /-- Ring command MAP_DATA feeds map bytes to the loader; LAST returns the result (R601). -/
  | mapData (ring : Nat)
  /-- Ring command FLASH_MAP, with a Warden token, writes and checks the flash map region (R602). -/
  | flashMap (ring : Nat)
  /-- Ring command FLASH_IMAGE, with a Warden token, writes and checks the flash image region (R602). -/
  | flashImage (ring : Nat)
  /-- Ring command FLASH_DATA carries bytes for a flash write or image load (R602). -/
  | flashData (ring : Nat)
  /-- Under the safe governor LOAD_IMAGE verifies a received image and resumes at MAP (R518). -/
  | loadImage (ring : Nat)
  /-- Ring command PROFILE requests a profile switch (R600). -/
  | profile (ring : Nat)
  /-- Ring command LEDGER_SNAP copies a consistent range of ledger values to the buffer (R600). -/
  | ledgerSnap (ring : Nat)
  /-- Ring command LOG_CTRL sets the minimum log level (R609). -/
  | logCtrl (ring : Nat)
  /-- Ring command TRACE_CTRL sets the trace point enable mask (R610). -/
  | traceCtrl (ring : Nat)
  /-- Ring command TALLY_READ copies held Tally records from FIRST_SEQ into the buffer (R636). -/
  | tallyRead (ring : Nat)
  /-- A command with an undefined opcode completes with UNKNOWN (R600). -/
  | unknownOpcode (ring : Nat)
  /-- A sender writes DOORBELL.CMD: PENDING set, timer started, receiver woken (R606). -/
  | doorbell (w : WCtx) (mbox : Nat) (cmd : Nat)
  /-- A sender writes CANCEL and PENDING clears (R606). -/
  | cancelMailbox (w : WCtx) (mbox : Nat)
  /-- The receiver writes ACK: PENDING clears, ACKED set, sender interrupted (R606). -/
  | mailboxAck (w : WCtx) (mbox : Nat) (code : Nat) (result : Nat)
  /-- TIMEOUT µs pass with PENDING set: TIMED_OUT set and sender interrupted (R606). -/
  | mailboxTimeout (mbox : Nat)
  /-- The writer takes a queued record and places it in an empty or eligible slot, or drops it (R624). -/
  | tallyRecordPlace
  /-- A write of ZK_TALLY_SUBMIT queues a record on channels 8–31 (R622). -/
  | submit (w : WCtx) (v : Nat)
  /-- A write of ZK_TALLY_CTRL.FLUSH requests a mirror flush (R630). -/
  | flush (w : WCtx)
  /-- 60 s after the previous flush started, a new flush starts (R630). -/
  | tallyFlushPeriodic
  /-- A flush writes its slot and COMMIT, or fails with MIRROR_ERR (R629). -/
  | tallyFlushDone (ok : Bool)
  /-- The operating-seconds counter advances once per second (R626). -/
  | operatingSecondTick
  /-- A supply poll completes and its reading enters the next input set (R643). -/
  | pmbusPollDone (supply : Nat) (p : PollData)
  /-- A NACKed, PEC-failed or over-stretched poll fails; three in a row make the supply STALE (R644). -/
  | pmbusPollFail (supply : Nat)
  /-- pmbN_alert_n low: the poller reads the Alert Response Address and the supply's STATUS_WORD (R645). -/
  | pmbusAlert (port : Nat) (addr : Nat) (status : Nat)
  /-- An alert line low for 100 ms marks every supply on the port STALE (R645). -/
  | alertStuck (port : Nat)
  /-- The new PMBus master waits for idle buses, recovers them if needed and starts a full cycle (R646). -/
  | pmbusMasterChange (unfinished : Option Nat)
  /-- I3C CCC SETDASA assigns the dynamic address (R647). -/
  | setdasa (addr : Nat)
  /-- I3C CCC SETAASA assigns the static address as dynamic (R647). -/
  | setaasa
  /-- I3C CCC ENTDAA runs dynamic address assignment (R647). -/
  | entdaa (addr : Nat)
  /-- MCTP control Set Endpoint ID sets the EID (R647). -/
  | setEndpointId (eid : Nat)
  /-- MCTP control Get Endpoint ID returns the EID (R647). -/
  | getEndpointId
  /-- MCTP control Get MCTP Version Support returns the supported versions (R647). -/
  | getMctpVersionSupport
  /-- MCTP control Get Message Type Support returns the accepted types (R647). -/
  | getMessageTypeSupport
  /-- An MCTP message of another type is discarded and MCTP_DROP counted (R647). -/
  | mctpUnknownType (typ : Nat)
  /-- PLDM GetTID returns the terminus ID (R648). -/
  | gettid
  /-- PLDM SetTID sets the terminus ID (R648). -/
  | settid (tid : Nat)
  /-- PLDM GetPLDMVersion returns the supported version (R648). -/
  | getpldmversion
  /-- PLDM GetPLDMTypes returns the supported PLDM types (R648). -/
  | getpldmtypes
  /-- PLDM GetPLDMCommands returns the supported commands (R648). -/
  | getpldmcommands (typ : Nat)
  /-- PLDM SetEventReceiver sets the receiver of PlatformEventMessages (R650). -/
  | seteventreceiver (eid : Nat)
  /-- PLDM GetPDRRepositoryInfo returns the PDR repository summary (R649). -/
  | getpdrrepositoryinfo
  /-- PLDM GetPDR returns a PDR of the repository (R649). -/
  | getpdr (handle : Nat)
  /-- PLDM GetSensorReading returns a numeric sensor value (R649). -/
  | getsensorreading (id : Nat)
  /-- PLDM GetStateSensorReadings returns the READY, fault_n and trip states (R649). -/
  | getstatesensorreadings (id : Nat)
  /-- PLDM SetNumericEffecterValue writes the board power cap to ZK_CAP_BMC, mirrored to the peer (R650). -/
  | setnumericeffectervalue (id : Nat) (v : Nat)
  /-- PLDM GetNumericEffecterValue returns the board power cap (R649). -/
  | getnumericeffectervalue (id : Nat)
  /-- Any other PLDM command is answered ERROR_UNSUPPORTED_PLDM_CMD (R648). -/
  | pldmUnsupported (typ : Nat) (cmd : Nat)
  /-- Halduno vendor command 0x01 returns Tally records as TALLY_READ does (R651). -/
  | vendorTallyRead (first : Nat) (count : Nat)
  /-- Halduno vendor command 0x02 returns ZK_FLT_OPEN0–127 (R651). -/
  | faultOpen
  /-- Any other vendor command returns UNKNOWN (R651). -/
  | vendorUnknown (cmd : Nat)
  /-- The PSC verifies a token presented by H0 and opens H0's Warden window, setting ZK_WARDEN.OPEN and REMAIN (R542). -/
  | wardenWindowOpen (tokenOk : Bool) (frames : Nat)
  /-- The mesh copy of twin status from the other instance arrives and refreshes MESH_UP (R422). -/
  | meshTwinStatus (p : MeshStatus)
  /-- The slow RC differs from the fast RC by more than 10 % and SLOW_BAD is set, so lost-time estimates use the fast RC alone (R477). -/
  | slowBad
  /-- A crystal's amplitude detector fails; the crystal loses eligibility and is restarted (R471). -/
  | crystalDetectorFail (x : Nat)
  /-- The host link trains and REC starts, so REC can become eligible as a loop reference (R470). -/
  | hostLinkTrained
  /-- A hart, DMA or host-window read of a Store word returns data, corrected with write-back on a single-bit error or answered per reader on an uncorrectable one (R559). -/
  | storeRead (w : WCtx) (off : Nat) (size : Nat) (meets : ReadMeets)
  /-- The erase, write and read-back check of a FLASH_MAP or FLASH_IMAGE region ends and its completion carries the check result (R602). -/
  | flashWriteDone (ring : Nat) (answers : Bool) (psc : Machine.PscAnswer)
deriving DecidableEq, Repr

end Sys2Proof
end

