-- ==== Sys2Proof/Decode.lean ====
section
/-! DEFINITION. Table words: the rows of this hardware's table are operations and events, and none of them gives bits. -/

namespace Sys2Proof

/-- The command that a table word spells: none, since no row of the table has an encoding. -/
def decodeTableWord (_nbits _w : Nat) : Option Instr := none

end Sys2Proof
end

