-- ==== Sys2Proof/Machine/Fields.lean ====
section
/-! DEFINITION. The register fields of the window (R665 and the owner chapters' register tables), and the block's state that
no register shows, both as field descriptors over one sparse register file. A register field's address is its bit address
in the window: eight times the byte offset, plus its low bit. State without a register is given addresses above the window. -/

namespace Sys2Proof.Machine

/-- Access codes (R12). -/
inductive Acc where
  | ro | rw | w1c | wo | rww | rwo
deriving DecidableEq, Repr

/-- How a field's reset value depends on its index. -/
inductive Init where
  /-- every element resets to `v` -/
  | all (v : Nat)
  /-- elements below `n` reset to `a`, the others to `b` (R663) -/
  | upTo (n a b : Nat)
  /-- the reset bytes of ZK_BW_WEIGHT (R311) -/
  | table (l : List Nat)
deriving DecidableEq, Repr

/-- A field: its first element's bit address, the distance of the next element in bits, how many elements, the width, the
access code, the reset value, and whether a read is formed from other state instead of being stored. -/
structure Fld where
  base : Nat
  stride : Nat
  cnt : Nat
  wid : Nat
  acc : Acc
  init : Init
  derived : Bool := false
deriving DecidableEq, Repr

/-- Bit address of element `i`. -/
def Fld.key (f : Fld) (i : Nat) : Nat := f.base + f.stride * i

/-- Reset value of element `i`. -/
def Fld.resetAt (f : Fld) (i : Nat) : Nat :=
  match f.init with
  | .all v => v
  | .upTo n a b => if i < n then a else b
  | .table l => l.getD i 0

/-- ID_FAMILY (R0). -/
def R.ID_FAMILY : Fld := ⟨0x100000 * 8 + 16, 32, 1, 16, .ro, .all 0, true⟩
/-- ID_CONFIG (R0). -/
def R.ID_CONFIG : Fld := ⟨0x100000 * 8 + 0, 32, 1, 8, .ro, .all 0, true⟩
/-- RUN_EN (R524). -/
def R.RUN_EN : Fld := ⟨0x100004 * 8 + 31, 32, 1, 1, .rw, .all 0, false⟩
/-- RUN_RELOAD (R524). -/
def R.RUN_RELOAD : Fld := ⟨0x100004 * 8 + 30, 32, 1, 1, .wo, .all 0, false⟩
/-- RUN_STATE (R524). -/
def R.RUN_STATE : Fld := ⟨0x100004 * 8 + 28, 32, 1, 2, .ro, .all 0, false⟩
/-- RUN_LIVE (R524). -/
def R.RUN_LIVE : Fld := ⟨0x100004 * 8 + 26, 32, 1, 2, .ro, .all 0, false⟩
/-- RUN_KEEP_PROFILE (R524). -/
def R.RUN_KEEP_PROFILE : Fld := ⟨0x100004 * 8 + 25, 32, 1, 1, .rw, .all 0, false⟩
/-- RUN_SRC (R524). -/
def R.RUN_SRC : Fld := ⟨0x100004 * 8 + 24, 32, 1, 1, .rw, .all 0, false⟩
/-- RUN_RING (R524). -/
def R.RUN_RING : Fld := ⟨0x100004 * 8 + 16, 32, 1, 6, .rw, .all 0, false⟩
/-- RUN_COMMIT (R524). -/
def R.RUN_COMMIT : Fld := ⟨0x100004 * 8 + 0, 32, 1, 16, .ro, .all 0, false⟩
/-- STATUS_READY (R521). -/
def R.STATUS_READY : Fld := ⟨0x100008 * 8 + 31, 32, 1, 1, .ro, .all 0, false⟩
/-- STATUS_RUNNING (R521). -/
def R.STATUS_RUNNING : Fld := ⟨0x100008 * 8 + 30, 32, 1, 1, .ro, .all 0, false⟩
/-- STATUS_SAFE_GOV (R521). -/
def R.STATUS_SAFE_GOV : Fld := ⟨0x100008 * 8 + 29, 32, 1, 1, .ro, .all 0, false⟩
/-- STATUS_RAIL_DOWN (R521). -/
def R.STATUS_RAIL_DOWN : Fld := ⟨0x100008 * 8 + 28, 32, 1, 1, .ro, .all 0, false⟩
/-- REFUSE_CODE (R527). -/
def R.REFUSE_CODE : Fld := ⟨0x10000C * 8 + 24, 32, 1, 8, .ro, .all 0, false⟩
/-- REFUSE_WHERE (R527). -/
def R.REFUSE_WHERE : Fld := ⟨0x10000C * 8 + 0, 32, 1, 24, .ro, .all 0, false⟩
/-- BOOT_STEP (R522). -/
def R.BOOT_STEP : Fld := ⟨0x100010 * 8 + 28, 32, 1, 4, .ro, .all 0, false⟩
/-- BOOT_ERR (R522). -/
def R.BOOT_ERR : Fld := ⟨0x100010 * 8 + 24, 32, 1, 4, .ro, .all 0, false⟩
/-- BOOT_BLOCK_START (R522). -/
def R.BOOT_BLOCK_START : Fld := ⟨0x100010 * 8 + 23, 32, 1, 1, .ro, .all 0, false⟩
/-- BOOT_FROM_RING (R522). -/
def R.BOOT_FROM_RING : Fld := ⟨0x100010 * 8 + 22, 32, 1, 1, .ro, .all 0, false⟩
/-- BOOT_ROWS_RETIRED (R522). -/
def R.BOOT_ROWS_RETIRED : Fld := ⟨0x100010 * 8 + 14, 32, 1, 8, .ro, .all 0, false⟩
/-- BOOT_GROUP (R522). -/
def R.BOOT_GROUP : Fld := ⟨0x100010 * 8 + 0, 32, 1, 4, .ro, .all 15, false⟩
/-- BOOT_TIME_READY_T (R523). -/
def R.BOOT_TIME_READY_T : Fld := ⟨0x100014 * 8 + 16, 32, 1, 16, .ro, .all 65535, false⟩
/-- BOOT_TIME_STEP_T (R523). -/
def R.BOOT_TIME_STEP_T : Fld := ⟨0x100014 * 8 + 0, 32, 1, 16, .ro, .all 0, false⟩
/-- ID_INFO_STEP_MAJOR (R664). -/
def R.ID_INFO_STEP_MAJOR : Fld := ⟨0x100018 * 8 + 28, 32, 1, 4, .ro, .all 0, true⟩
/-- ID_INFO_STEP_MINOR (R664). -/
def R.ID_INFO_STEP_MINOR : Fld := ⟨0x100018 * 8 + 24, 32, 1, 4, .ro, .all 0, true⟩
/-- ID_INFO_INSTANCE (R664). -/
def R.ID_INFO_INSTANCE : Fld := ⟨0x100018 * 8 + 16, 32, 1, 1, .ro, .all 0, true⟩
/-- ID_INFO_PACKAGE (R664). -/
def R.ID_INFO_PACKAGE : Fld := ⟨0x100018 * 8 + 8, 32, 1, 8, .ro, .all 0, true⟩
/-- FRAME_COUNT (R86). -/
def R.FRAME_COUNT : Fld := ⟨0x100020 * 8 + 0, 32, 1, 64, .ro, .all 0, false⟩
/-- FRAME_STAT_DEFER_CNT (R87). -/
def R.FRAME_STAT_DEFER_CNT : Fld := ⟨0x100028 * 8 + 16, 32, 1, 16, .ro, .all 0, false⟩
/-- FRAME_STAT_LANE_LOAD (R87). -/
def R.FRAME_STAT_LANE_LOAD : Fld := ⟨0x100028 * 8 + 0, 32, 1, 13, .ro, .all 0, false⟩
/-- PROFILE_PENDING (R547). -/
def R.PROFILE_PENDING : Fld := ⟨0x100030 * 8 + 31, 32, 1, 1, .ro, .all 0, false⟩
/-- PROFILE_REQ_ERR (R547). -/
def R.PROFILE_REQ_ERR : Fld := ⟨0x100030 * 8 + 30, 32, 1, 1, .w1c, .all 0, false⟩
/-- PROFILE_REQ (R547). -/
def R.PROFILE_REQ : Fld := ⟨0x100030 * 8 + 24, 32, 1, 3, .rw, .all 0, false⟩
/-- PROFILE_IN_FORCE (R547). -/
def R.PROFILE_IN_FORCE : Fld := ⟨0x100030 * 8 + 16, 32, 1, 3, .ro, .all 0, false⟩
/-- PROFILE_REFUSE_PROF (R547). -/
def R.PROFILE_REFUSE_PROF : Fld := ⟨0x100030 * 8 + 12, 32, 1, 4, .ro, .all 15, false⟩
/-- PROFILE_PREP_FRAMES (R547). -/
def R.PROFILE_PREP_FRAMES : Fld := ⟨0x100030 * 8 + 0, 32, 1, 11, .ro, .all 0, false⟩
/-- CAP_BMC_CAP_LOW (R548). -/
def R.CAP_BMC_CAP_LOW : Fld := ⟨0x100034 * 8 + 31, 32, 1, 1, .ro, .all 0, false⟩
/-- CAP_BMC_CAP (R548). -/
def R.CAP_BMC_CAP : Fld := ⟨0x100034 * 8 + 0, 32, 1, 24, .rw, .all 0, false⟩
/-- WARDEN_OPEN (R548). -/
def R.WARDEN_OPEN : Fld := ⟨0x100038 * 8 + 31, 32, 1, 1, .ro, .all 0, false⟩
/-- WARDEN_REMAIN (R548). -/
def R.WARDEN_REMAIN : Fld := ⟨0x100038 * 8 + 0, 32, 1, 24, .ro, .all 0, false⟩
/-- FW_IMAGE_REASON (R614). -/
def R.FW_IMAGE_REASON : Fld := ⟨0x100040 * 8 + 28, 32, 1, 4, .ro, .all 0, false⟩
/-- FW_IMAGE_VERIFIED (R614). -/
def R.FW_IMAGE_VERIFIED : Fld := ⟨0x100040 * 8 + 27, 32, 1, 1, .ro, .all 0, false⟩
/-- FW_IMAGE_KEY_SLOT (R614). -/
def R.FW_IMAGE_KEY_SLOT : Fld := ⟨0x100040 * 8 + 22, 32, 1, 2, .ro, .all 0, false⟩
/-- FW_VERSION_VERSION (R614). -/
def R.FW_VERSION_VERSION : Fld := ⟨0x100044 * 8 + 0, 32, 1, 32, .ro, .all 0, false⟩
/-- STORE_STAT_CE (R577). -/
def R.STORE_STAT_CE : Fld := ⟨0x100100 * 8 + 16, 32, 1, 16, .ro, .all 0, false⟩
/-- STORE_STAT_UE (R577). -/
def R.STORE_STAT_UE : Fld := ⟨0x100100 * 8 + 8, 32, 1, 8, .ro, .all 0, false⟩
/-- STORE_STAT_RETIRED (R577). -/
def R.STORE_STAT_RETIRED : Fld := ⟨0x100100 * 8 + 0, 32, 1, 5, .ro, .all 0, false⟩
/-- STORE_BUSY_HART (R577). -/
def R.STORE_BUSY_HART : Fld := ⟨0x100104 * 8 + 28, 1, 4, 1, .w1c, .all 0, false⟩
/-- STORE_BUSY_HOST (R577). -/
def R.STORE_BUSY_HOST : Fld := ⟨0x100104 * 8 + 0, 32, 1, 16, .ro, .all 0, false⟩
/-- STORE_RET_RET (R577). -/
def R.STORE_RET_RET : Fld := ⟨0x100108 * 8 + 0, 1, 16, 1, .rw, .all 0, false⟩
/-- STORE_UE_VALID (R577). -/
def R.STORE_UE_VALID : Fld := ⟨0x10010C * 8 + 31, 32, 1, 1, .w1c, .all 0, false⟩
/-- STORE_UE_ADDR (R577). -/
def R.STORE_UE_ADDR : Fld := ⟨0x10010C * 8 + 2, 32, 1, 18, .ro, .all 0, false⟩
/-- STORE_AMO_ADDR_UE (R577). -/
def R.STORE_AMO_ADDR_UE : Fld := ⟨0x100120 * 8 + 31, 64, 5, 1, .ro, .all 0, false⟩
/-- STORE_AMO_ADDR_ADDR (R577). -/
def R.STORE_AMO_ADDR_ADDR : Fld := ⟨0x100120 * 8 + 2, 64, 5, 18, .rw, .all 0, false⟩
/-- STORE_AMO_ADDR_OP (R577). -/
def R.STORE_AMO_ADDR_OP : Fld := ⟨0x100120 * 8 + 0, 64, 5, 2, .rw, .all 0, false⟩
/-- STORE_AMO_DATA_DATA (R577). -/
def R.STORE_AMO_DATA_DATA : Fld := ⟨0x100124 * 8 + 0, 64, 5, 32, .rw, .all 0, false⟩
/-- FIFO_STAT_OVERRUN (R578). -/
def R.FIFO_STAT_OVERRUN : Fld := ⟨0x100180 * 8 + 31, 32, 1, 1, .w1c, .all 0, false⟩
/-- FIFO_STAT_DROPPED (R578). -/
def R.FIFO_STAT_DROPPED : Fld := ⟨0x100180 * 8 + 23, 32, 1, 8, .ro, .all 0, false⟩
/-- FIFO_STAT_PAR_ERR (R578). -/
def R.FIFO_STAT_PAR_ERR : Fld := ⟨0x100180 * 8 + 15, 32, 1, 8, .ro, .all 0, false⟩
/-- FIFO_STAT_PACKETS (R578). -/
def R.FIFO_STAT_PACKETS : Fld := ⟨0x100180 * 8 + 7, 32, 1, 7, .ro, .all 0, false⟩
/-- FIFO_STAT_LEVEL (R578). -/
def R.FIFO_STAT_LEVEL : Fld := ⟨0x100180 * 8 + 0, 32, 1, 7, .ro, .all 0, true⟩
/-- FIFO_CTRL_SW_CONSUME (R578). -/
def R.FIFO_CTRL_SW_CONSUME : Fld := ⟨0x100184 * 8 + 0, 32, 1, 1, .rww, .all 0, false⟩
/-- FIFO_WM_HIT (R578). -/
def R.FIFO_WM_HIT : Fld := ⟨0x100188 * 8 + 31, 32, 1, 1, .ro, .all 0, false⟩
/-- FIFO_WM_ACK (R578). -/
def R.FIFO_WM_ACK : Fld := ⟨0x100188 * 8 + 30, 32, 1, 1, .wo, .all 0, false⟩
/-- FIFO_WM_PEAK (R578). -/
def R.FIFO_WM_PEAK : Fld := ⟨0x100188 * 8 + 23, 32, 1, 7, .ro, .all 0, false⟩
/-- FIFO_WM_CROSSINGS (R578). -/
def R.FIFO_WM_CROSSINGS : Fld := ⟨0x100188 * 8 + 7, 32, 1, 16, .ro, .all 0, false⟩
/-- FIFO_WM_WM (R578). -/
def R.FIFO_WM_WM : Fld := ⟨0x100188 * 8 + 0, 32, 1, 7, .rw, .all 48, false⟩
/-- FIFO_POP_PAYLOAD (R578). -/
def R.FIFO_POP_PAYLOAD : Fld := ⟨0x10018C * 8 + 0, 32, 1, 32, .ro, .all 0, true⟩
/-- FIFO_LAST_POISON (R578). -/
def R.FIFO_LAST_POISON : Fld := ⟨0x100190 * 8 + 10, 32, 1, 1, .ro, .all 0, false⟩
/-- FIFO_LAST_END (R578). -/
def R.FIFO_LAST_END : Fld := ⟨0x100190 * 8 + 9, 32, 1, 1, .ro, .all 0, false⟩
/-- FIFO_LAST_ID (R578). -/
def R.FIFO_LAST_ID : Fld := ⟨0x100190 * 8 + 0, 32, 1, 8, .ro, .all 255, false⟩
/-- LE_STATUS_RUNNING (R215). -/
def R.LE_STATUS_RUNNING : Fld := ⟨0x110000 * 8 + 31, 32, 1, 1, .ro, .all 0, false⟩
/-- LE_STATUS_PROFILE (R215). -/
def R.LE_STATUS_PROFILE : Fld := ⟨0x110000 * 8 + 28, 32, 1, 3, .ro, .all 0, false⟩
/-- LE_STATUS_LAST_END (R215). -/
def R.LE_STATUS_LAST_END : Fld := ⟨0x110000 * 8 + 17, 32, 1, 9, .ro, .all 0, false⟩
/-- LE_STATUS_DUE (R215). -/
def R.LE_STATUS_DUE : Fld := ⟨0x110000 * 8 + 0, 32, 1, 9, .ro, .all 0, false⟩
/-- LE_CAP_PAGE_PAGE (R216). -/
def R.LE_CAP_PAGE_PAGE : Fld := ⟨0x110004 * 8 + 0, 32, 1, 2, .rw, .all 0, false⟩
/-- LE_FLAG_SUM_FLAGGED (R216). -/
def R.LE_FLAG_SUM_FLAGGED : Fld := ⟨0x110010 * 8 + 0, 32, 8, 32, .ro, .all 0, true⟩
/-- LE_PLAUS_SUM_HELD (R216). -/
def R.LE_PLAUS_SUM_HELD : Fld := ⟨0x110030 * 8 + 0, 32, 8, 32, .ro, .all 0, true⟩
/-- LE_PKG_SUSTAINED_SUSTAINED (R217). -/
def R.LE_PKG_SUSTAINED_SUSTAINED : Fld := ⟨0x110100 * 8 + 0, 32, 1, 32, .rww, .all 0, false⟩
/-- LE_PKG_EXCURSION_EXCURSION (R217). -/
def R.LE_PKG_EXCURSION_EXCURSION : Fld := ⟨0x110104 * 8 + 0, 32, 1, 32, .rww, .all 0, false⟩
/-- LE_PKG_LIMITS_GAP_FRAMES (R217). -/
def R.LE_PKG_LIMITS_GAP_FRAMES : Fld := ⟨0x110108 * 8 + 16, 32, 1, 16, .rww, .all 40, false⟩
/-- LE_PKG_LIMITS_EXC_FRAMES (R217). -/
def R.LE_PKG_LIMITS_EXC_FRAMES : Fld := ⟨0x110108 * 8 + 0, 32, 1, 6, .rww, .all 40, false⟩
/-- LE_PKG_KEEP_EST_KEEP_EST (R217). -/
def R.LE_PKG_KEEP_EST_KEEP_EST : Fld := ⟨0x11010C * 8 + 0, 32, 1, 32, .rww, .all 0, false⟩
/-- LE_PKG_HBM_EST_HBM_EST (R217). -/
def R.LE_PKG_HBM_EST_HBM_EST : Fld := ⟨0x110110 * 8 + 0, 32, 1, 32, .rww, .all 0, false⟩
/-- LE_PKG_POWER_POWER (R217). -/
def R.LE_PKG_POWER_POWER : Fld := ⟨0x110114 * 8 + 0, 32, 1, 32, .ro, .all 0, false⟩
/-- LE_PKG_MEAN_MEAN (R217). -/
def R.LE_PKG_MEAN_MEAN : Fld := ⟨0x110118 * 8 + 0, 32, 1, 32, .ro, .all 0, false⟩
/-- LE_PKG_RUN_GAP (R217). -/
def R.LE_PKG_RUN_GAP : Fld := ⟨0x11011C * 8 + 16, 32, 1, 16, .ro, .all 0, false⟩
/-- LE_PKG_RUN_RUN (R217). -/
def R.LE_PKG_RUN_RUN : Fld := ⟨0x11011C * 8 + 0, 32, 1, 16, .ro, .all 0, false⟩
/-- LE_FOLD_POWER_POWER (R218). -/
def R.LE_FOLD_POWER_POWER : Fld := ⟨0x110200 * 8 + 0, 128, 64, 32, .rww, .all 0, false⟩
/-- LE_FOLD_FLOOR_FLOOR (R218). -/
def R.LE_FOLD_FLOOR_FLOOR : Fld := ⟨0x110204 * 8 + 0, 128, 64, 32, .rww, .all 0, false⟩
/-- LE_FOLD_HOSTCAP_HOSTCAP (R218). -/
def R.LE_FOLD_HOSTCAP_HOSTCAP : Fld := ⟨0x110208 * 8 + 0, 128, 64, 32, .rw, .all 0, false⟩
/-- LE_FOLD_EFFECTIVE_EFFECTIVE (R218). -/
def R.LE_FOLD_EFFECTIVE_EFFECTIVE : Fld := ⟨0x11020C * 8 + 0, 128, 64, 32, .ro, .all 0, false⟩
/-- LE_SLOT_MODE_PRESETS (R219). -/
def R.LE_SLOT_MODE_PRESETS : Fld := ⟨0x114000 * 8 + 24, 512, 256, 8, .ro, .all 0, false⟩
/-- LE_SLOT_MODE_PLAUS_HOLD (R219). -/
def R.LE_SLOT_MODE_PLAUS_HOLD : Fld := ⟨0x114000 * 8 + 8, 512, 256, 1, .ro, .all 0, false⟩
/-- LE_SLOT_MODE_MODE (R219). -/
def R.LE_SLOT_MODE_MODE : Fld := ⟨0x114000 * 8 + 4, 512, 256, 2, .ro, .all 0, false⟩
/-- LE_SLOT_MODE_MODE_REQ (R219). -/
def R.LE_SLOT_MODE_MODE_REQ : Fld := ⟨0x114000 * 8 + 0, 512, 256, 2, .rw, .all 0, false⟩
/-- LE_SLOT_MANUAL_MANUAL (R219). -/
def R.LE_SLOT_MANUAL_MANUAL : Fld := ⟨0x114004 * 8 + 0, 512, 256, 16, .rw, .all 0, false⟩
/-- LE_SLOT_OUT_CALC (R219). -/
def R.LE_SLOT_OUT_CALC : Fld := ⟨0x114008 * 8 + 16, 512, 256, 16, .ro, .all 0, false⟩
/-- LE_SLOT_OUT_OUT (R219). -/
def R.LE_SLOT_OUT_OUT : Fld := ⟨0x114008 * 8 + 0, 512, 256, 16, .ro, .all 0, false⟩
/-- LE_SLOT_FLAGS_CLIP_LO (R219). -/
def R.LE_SLOT_FLAGS_CLIP_LO : Fld := ⟨0x11400C * 8 + 10, 512, 256, 1, .ro, .all 0, false⟩
/-- LE_SLOT_FLAGS_CLIP_HI (R219). -/
def R.LE_SLOT_FLAGS_CLIP_HI : Fld := ⟨0x11400C * 8 + 9, 512, 256, 1, .ro, .all 0, false⟩
/-- LE_SLOT_FLAGS_SLEWING (R219). -/
def R.LE_SLOT_FLAGS_SLEWING : Fld := ⟨0x11400C * 8 + 8, 512, 256, 1, .ro, .all 0, false⟩
/-- LE_SLOT_FLAGS_PLAUS (R219). -/
def R.LE_SLOT_FLAGS_PLAUS : Fld := ⟨0x11400C * 8 + 4, 512, 256, 1, .w1c, .all 0, false⟩
/-- LE_SLOT_FLAGS_LUT_CLAMP (R219). -/
def R.LE_SLOT_FLAGS_LUT_CLAMP : Fld := ⟨0x11400C * 8 + 3, 512, 256, 1, .w1c, .all 0, false⟩
/-- LE_SLOT_FLAGS_EXP_OVF (R219). -/
def R.LE_SLOT_FLAGS_EXP_OVF : Fld := ⟨0x11400C * 8 + 2, 512, 256, 1, .w1c, .all 0, false⟩
/-- LE_SLOT_FLAGS_SAT_N (R219). -/
def R.LE_SLOT_FLAGS_SAT_N : Fld := ⟨0x11400C * 8 + 1, 512, 256, 1, .w1c, .all 0, false⟩
/-- LE_SLOT_FLAGS_SAT_P (R219). -/
def R.LE_SLOT_FLAGS_SAT_P : Fld := ⟨0x11400C * 8 + 0, 512, 256, 1, .w1c, .all 0, false⟩
/-- LE_SLOT_INTEG_INTEG (R219). -/
def R.LE_SLOT_INTEG_INTEG : Fld := ⟨0x114010 * 8 + 0, 512, 256, 40, .rwo, .all 0, false⟩
/-- LE_SLOT_CFG_NEAR (R219). -/
def R.LE_SLOT_CFG_NEAR : Fld := ⟨0x114018 * 8 + 28, 512, 256, 1, .ro, .all 0, false⟩
/-- LE_SLOT_CFG_START (R219). -/
def R.LE_SLOT_CFG_START : Fld := ⟨0x114018 * 8 + 16, 512, 256, 9, .ro, .all 0, false⟩
/-- LE_SLOT_CFG_OFFSET (R219). -/
def R.LE_SLOT_CFG_OFFSET : Fld := ⟨0x114018 * 8 + 8, 512, 256, 8, .ro, .all 0, false⟩
/-- LE_SLOT_CFG_DIV (R219). -/
def R.LE_SLOT_CFG_DIV : Fld := ⟨0x114018 * 8 + 0, 512, 256, 8, .ro, .all 0, false⟩
/-- LE_SLOT_OUTSEL_OUT_KIND (R219). -/
def R.LE_SLOT_OUTSEL_OUT_KIND : Fld := ⟨0x11401C * 8 + 24, 512, 256, 8, .ro, .all 0, false⟩
/-- LE_SLOT_OUTSEL_OUT_INDEX (R219). -/
def R.LE_SLOT_OUTSEL_OUT_INDEX : Fld := ⟨0x11401C * 8 + 0, 512, 256, 16, .ro, .all 0, false⟩
/-- LE_SLOT_PROG_STAGE_COUNT (R219). -/
def R.LE_SLOT_PROG_STAGE_COUNT : Fld := ⟨0x114020 * 8 + 16, 512, 256, 6, .ro, .all 0, false⟩
/-- LE_SLOT_PROG_STAGE_BASE (R219). -/
def R.LE_SLOT_PROG_STAGE_BASE : Fld := ⟨0x114020 * 8 + 0, 512, 256, 12, .ro, .all 0, false⟩
/-- LE_SLOT_SLEW_SLEW (R219). -/
def R.LE_SLOT_SLEW_SLEW : Fld := ⟨0x114024 * 8 + 0, 512, 256, 16, .rwo, .all 0, false⟩
/-- LE_SLOT_INJ_PERIOD (R219). -/
def R.LE_SLOT_INJ_PERIOD : Fld := ⟨0x114028 * 8 + 16, 512, 256, 16, .rwo, .all 0, false⟩
/-- LE_SLOT_INJ_POINT (R219). -/
def R.LE_SLOT_INJ_POINT : Fld := ⟨0x114028 * 8 + 3, 512, 256, 1, .rwo, .all 0, false⟩
/-- LE_SLOT_INJ_SHAPE (R219). -/
def R.LE_SLOT_INJ_SHAPE : Fld := ⟨0x114028 * 8 + 1, 512, 256, 2, .rwo, .all 0, false⟩
/-- LE_SLOT_INJ_EN (R219). -/
def R.LE_SLOT_INJ_EN : Fld := ⟨0x114028 * 8 + 0, 512, 256, 1, .rwo, .all 0, false⟩
/-- LE_SLOT_INJ_AMPL_AMPL (R219). -/
def R.LE_SLOT_INJ_AMPL_AMPL : Fld := ⟨0x11402C * 8 + 0, 512, 256, 18, .rwo, .all 0, false⟩
/-- LE_SLOT_CAP_PRE (R219). -/
def R.LE_SLOT_CAP_PRE : Fld := ⟨0x114030 * 8 + 12, 512, 256, 12, .rw, .all 0, false⟩
/-- LE_SLOT_CAP_TRIG (R219). -/
def R.LE_SLOT_CAP_TRIG : Fld := ⟨0x114030 * 8 + 8, 512, 256, 2, .rw, .all 0, false⟩
/-- LE_SLOT_CAP_STAGE (R219). -/
def R.LE_SLOT_CAP_STAGE : Fld := ⟨0x114030 * 8 + 3, 512, 256, 5, .rw, .all 0, false⟩
/-- LE_SLOT_CAP_SRC (R219). -/
def R.LE_SLOT_CAP_SRC : Fld := ⟨0x114030 * 8 + 1, 512, 256, 2, .rw, .all 0, false⟩
/-- LE_SLOT_CAP_ARM (R219). -/
def R.LE_SLOT_CAP_ARM : Fld := ⟨0x114030 * 8 + 0, 512, 256, 1, .rw, .all 0, false⟩
/-- LE_SLOT_CAP_STAT_TRIGGERED (R219). -/
def R.LE_SLOT_CAP_STAT_TRIGGERED : Fld := ⟨0x114034 * 8 + 31, 512, 256, 1, .ro, .all 0, false⟩
/-- LE_SLOT_CAP_STAT_DONE (R219). -/
def R.LE_SLOT_CAP_STAT_DONE : Fld := ⟨0x114034 * 8 + 30, 512, 256, 1, .ro, .all 0, false⟩
/-- LE_SLOT_CAP_STAT_TRIG_IDX (R219). -/
def R.LE_SLOT_CAP_STAT_TRIG_IDX : Fld := ⟨0x114034 * 8 + 16, 512, 256, 12, .ro, .all 0, false⟩
/-- LE_SLOT_CAP_STAT_FULL (R219). -/
def R.LE_SLOT_CAP_STAT_FULL : Fld := ⟨0x114034 * 8 + 12, 512, 256, 1, .ro, .all 0, false⟩
/-- LE_SLOT_CAP_STAT_WPTR (R219). -/
def R.LE_SLOT_CAP_STAT_WPTR : Fld := ⟨0x114034 * 8 + 0, 512, 256, 12, .ro, .all 0, false⟩
/-- LE_SLOT_PLAUS_RUN_CNT (R219). -/
def R.LE_SLOT_PLAUS_RUN_CNT : Fld := ⟨0x114038 * 8 + 24, 512, 256, 8, .ro, .all 0, false⟩
/-- LE_SLOT_PLAUS_RESID (R219). -/
def R.LE_SLOT_PLAUS_RESID : Fld := ⟨0x114038 * 8 + 0, 512, 256, 18, .ro, .all 0, false⟩
/-- LE_STAGE_OP (R220). -/
def R.LE_STAGE_OP : Fld := ⟨0x118000 * 8 + 0, 64, 4096, 8, .rwo, .all 0, false⟩
/-- LE_STAGE_EXP (R220). -/
def R.LE_STAGE_EXP : Fld := ⟨0x118000 * 8 + 8, 64, 4096, 8, .rwo, .all 0, false⟩
/-- LE_STAGE_A (R220). -/
def R.LE_STAGE_A : Fld := ⟨0x118000 * 8 + 16, 64, 4096, 8, .rwo, .all 0, false⟩
/-- LE_STAGE_B (R220). -/
def R.LE_STAGE_B : Fld := ⟨0x118000 * 8 + 24, 64, 4096, 8, .rwo, .all 0, false⟩
/-- LE_STAGE_KM (R220). -/
def R.LE_STAGE_KM : Fld := ⟨0x118000 * 8 + 32, 64, 4096, 18, .rwo, .all 0, false⟩
/-- LE_STAGE_KEXP (R220). -/
def R.LE_STAGE_KEXP : Fld := ⟨0x118000 * 8 + 50, 64, 4096, 6, .rwo, .all 0, false⟩
/-- LE_LUT_EXP (R183). -/
def R.LE_LUT_EXP : Fld := ⟨0x120000 * 8 + 18, 4096, 256, 6, .rwo, .all 0, false⟩
/-- LE_LUT_X (R183). -/
def R.LE_LUT_X : Fld := ⟨0x120000 * 8 + 0, 64, 16384, 18, .rwo, .all 0, false⟩
/-- LE_LUT_G (R183). -/
def R.LE_LUT_G : Fld := ⟨0x120000 * 8 + 32, 64, 16384, 18, .rwo, .all 0, false⟩
/-- PD_STATUS_UNDRIVEN (R262). -/
def R.PD_STATUS_UNDRIVEN : Fld := ⟨0x140000 * 8 + 31, 32, 1, 1, .ro, .all 1, false⟩
/-- PD_STATUS_DRIVING (R262). -/
def R.PD_STATUS_DRIVING : Fld := ⟨0x140000 * 8 + 30, 32, 1, 1, .ro, .all 0, false⟩
/-- PD_STATUS_RAIL_ON (R262). -/
def R.PD_STATUS_RAIL_ON : Fld := ⟨0x140000 * 8 + 0, 32, 1, 14, .ro, .all 0, true⟩
/-- PD_FENCED_FENCED (R262). -/
def R.PD_FENCED_FENCED : Fld := ⟨0x140010 * 8 + 0, 32, 4, 32, .ro, .all 0, true⟩
/-- PD_DERATED_DERATED (R262). -/
def R.PD_DERATED_DERATED : Fld := ⟨0x140020 * 8 + 0, 32, 4, 32, .ro, .all 0, true⟩
/-- PD_RAIL_CFG_ENABLE (R263). -/
def R.PD_RAIL_CFG_ENABLE : Fld := ⟨0x141000 * 8 + 31, 1024, 14, 1, .ro, .all 0, false⟩
/-- PD_RAIL_CFG_SENSE_CH (R263). -/
def R.PD_RAIL_CFG_SENSE_CH : Fld := ⟨0x141000 * 8 + 27, 1024, 14, 4, .ro, .all 0, false⟩
/-- PD_RAIL_CFG_COUNT (R263). -/
def R.PD_RAIL_CFG_COUNT : Fld := ⟨0x141000 * 8 + 22, 1024, 14, 5, .ro, .all 0, false⟩
/-- PD_RAIL_CFG_MIN_ACTIVE (R263). -/
def R.PD_RAIL_CFG_MIN_ACTIVE : Fld := ⟨0x141000 * 8 + 17, 1024, 14, 5, .ro, .all 0, false⟩
/-- PD_RAIL_CFG_FSW (R263). -/
def R.PD_RAIL_CFG_FSW : Fld := ⟨0x141000 * 8 + 0, 1024, 14, 11, .ro, .all 0, false⟩
/-- PD_RAIL_MASK_MASK (R263). -/
def R.PD_RAIL_MASK_MASK : Fld := ⟨0x141004 * 8 + 0, 1024, 14, 128, .ro, .all 0, false⟩
/-- PD_RAIL_STAT_OFF_LATCH (R263). -/
def R.PD_RAIL_STAT_OFF_LATCH : Fld := ⟨0x141014 * 8 + 31, 1024, 14, 1, .ro, .all 0, false⟩
/-- PD_RAIL_STAT_SAFE_LATCH (R263). -/
def R.PD_RAIL_STAT_SAFE_LATCH : Fld := ⟨0x141014 * 8 + 30, 1024, 14, 1, .ro, .all 0, false⟩
/-- PD_RAIL_STAT_OVERLOAD (R263). -/
def R.PD_RAIL_STAT_OVERLOAD : Fld := ⟨0x141014 * 8 + 29, 1024, 14, 1, .ro, .all 0, false⟩
/-- PD_RAIL_STAT_TRUNCATING (R263). -/
def R.PD_RAIL_STAT_TRUNCATING : Fld := ⟨0x141014 * 8 + 28, 1024, 14, 1, .ro, .all 0, false⟩
/-- PD_RAIL_STAT_SKIPPING (R263). -/
def R.PD_RAIL_STAT_SKIPPING : Fld := ⟨0x141014 * 8 + 27, 1024, 14, 1, .ro, .all 0, false⟩
/-- PD_RAIL_STAT_RAMPING (R263). -/
def R.PD_RAIL_STAT_RAMPING : Fld := ⟨0x141014 * 8 + 26, 1024, 14, 1, .ro, .all 0, false⟩
/-- PD_RAIL_STAT_SHED_DEFER (R263). -/
def R.PD_RAIL_STAT_SHED_DEFER : Fld := ⟨0x141014 * 8 + 25, 1024, 14, 1, .ro, .all 0, false⟩
/-- PD_RAIL_STAT_PULSING (R263). -/
def R.PD_RAIL_STAT_PULSING : Fld := ⟨0x141014 * 8 + 16, 1024, 14, 5, .ro, .all 0, true⟩
/-- PD_RAIL_STAT_FENCED (R263). -/
def R.PD_RAIL_STAT_FENCED : Fld := ⟨0x141014 * 8 + 11, 1024, 14, 5, .ro, .all 0, true⟩
/-- PD_RAIL_STAT_DERATED (R263). -/
def R.PD_RAIL_STAT_DERATED : Fld := ⟨0x141014 * 8 + 6, 1024, 14, 5, .ro, .all 0, true⟩
/-- PD_RAIL_STAT_SELECT (R263). -/
def R.PD_RAIL_STAT_SELECT : Fld := ⟨0x141014 * 8 + 0, 1024, 14, 5, .ro, .all 0, false⟩
/-- PD_RAIL_VREF_TARGET (R263). -/
def R.PD_RAIL_VREF_TARGET : Fld := ⟨0x141018 * 8 + 16, 1024, 14, 9, .ro, .all 0, false⟩
/-- PD_RAIL_VREF_VREF (R263). -/
def R.PD_RAIL_VREF_VREF : Fld := ⟨0x141018 * 8 + 0, 1024, 14, 9, .ro, .all 0, false⟩
/-- PD_RAIL_LIMITS_TRUNC (R263). -/
def R.PD_RAIL_LIMITS_TRUNC : Fld := ⟨0x14101C * 8 + 16, 1024, 14, 6, .rww, .all 40, false⟩
/-- PD_RAIL_LIMITS_SC (R263). -/
def R.PD_RAIL_LIMITS_SC : Fld := ⟨0x14101C * 8 + 0, 1024, 14, 11, .rww, .all 1100, false⟩
/-- PD_RAIL_CONT_CONT_EFF (R263). -/
def R.PD_RAIL_CONT_CONT_EFF : Fld := ⟨0x141020 * 8 + 16, 1024, 14, 16, .ro, .all 0, false⟩
/-- PD_RAIL_CONT_CONT (R263). -/
def R.PD_RAIL_CONT_CONT : Fld := ⟨0x141020 * 8 + 0, 1024, 14, 16, .rww, .all 0, false⟩
/-- PD_RAIL_OVERLOAD_MEAN (R263). -/
def R.PD_RAIL_OVERLOAD_MEAN : Fld := ⟨0x141024 * 8 + 16, 1024, 14, 16, .ro, .all 0, false⟩
/-- PD_RAIL_OVERLOAD_OVERLOAD (R263). -/
def R.PD_RAIL_OVERLOAD_OVERLOAD : Fld := ⟨0x141024 * 8 + 0, 1024, 14, 16, .rww, .all 0, false⟩
/-- PD_RAIL_CUT_C_SAFE (R263). -/
def R.PD_RAIL_CUT_C_SAFE : Fld := ⟨0x141028 * 8 + 19, 1024, 14, 1, .ro, .all 0, false⟩
/-- PD_RAIL_CUT_C_OVERLOAD (R263). -/
def R.PD_RAIL_CUT_C_OVERLOAD : Fld := ⟨0x141028 * 8 + 18, 1024, 14, 1, .ro, .all 0, false⟩
/-- PD_RAIL_CUT_C_DERATED (R263). -/
def R.PD_RAIL_CUT_C_DERATED : Fld := ⟨0x141028 * 8 + 17, 1024, 14, 1, .ro, .all 0, false⟩
/-- PD_RAIL_CUT_C_FENCED (R263). -/
def R.PD_RAIL_CUT_C_FENCED : Fld := ⟨0x141028 * 8 + 16, 1024, 14, 1, .ro, .all 0, false⟩
/-- PD_RAIL_CUT_CUT (R263). -/
def R.PD_RAIL_CUT_CUT : Fld := ⟨0x141028 * 8 + 0, 1024, 14, 16, .ro, .all 32768, false⟩
/-- PD_RAIL_COMP0_KPS (R263). -/
def R.PD_RAIL_COMP0_KPS : Fld := ⟨0x14102C * 8 + 27, 1024, 14, 5, .rwo, .all 0, false⟩
/-- PD_RAIL_COMP0_KPM (R263). -/
def R.PD_RAIL_COMP0_KPM : Fld := ⟨0x14102C * 8 + 16, 1024, 14, 11, .rwo, .all 2, false⟩
/-- PD_RAIL_COMP0_KIS (R263). -/
def R.PD_RAIL_COMP0_KIS : Fld := ⟨0x14102C * 8 + 11, 1024, 14, 5, .rwo, .all 6, false⟩
/-- PD_RAIL_COMP0_KIM (R263). -/
def R.PD_RAIL_COMP0_KIM : Fld := ⟨0x14102C * 8 + 0, 1024, 14, 11, .rwo, .all 1, false⟩
/-- PD_RAIL_COMP1_KDS (R263). -/
def R.PD_RAIL_COMP1_KDS : Fld := ⟨0x141030 * 8 + 27, 1024, 14, 5, .rwo, .all 0, false⟩
/-- PD_RAIL_COMP1_KDM (R263). -/
def R.PD_RAIL_COMP1_KDM : Fld := ⟨0x141030 * 8 + 16, 1024, 14, 11, .rwo, .all 4, false⟩
/-- PD_RAIL_COMP1_RLL (R263). -/
def R.PD_RAIL_COMP1_RLL : Fld := ⟨0x141030 * 8 + 0, 1024, 14, 12, .rwo, .upTo 8 100 400, false⟩
/-- PD_RAIL_COMP2_DMAX (R263). -/
def R.PD_RAIL_COMP2_DMAX : Fld := ⟨0x141034 * 8 + 16, 1024, 14, 16, .rwo, .all 8192, false⟩
/-- PD_RAIL_COMP2_SHARE_MAX (R263). -/
def R.PD_RAIL_COMP2_SHARE_MAX : Fld := ⟨0x141034 * 8 + 0, 1024, 14, 16, .rwo, .all 512, false⟩
/-- PD_RAIL_SHED_DWELL (R263). -/
def R.PD_RAIL_SHED_DWELL : Fld := ⟨0x141038 * 8 + 24, 1024, 14, 8, .rw, .all 64, false⟩
/-- PD_RAIL_SHED_ADD_CUR (R263). -/
def R.PD_RAIL_SHED_ADD_CUR : Fld := ⟨0x141038 * 8 + 12, 1024, 14, 12, .rw, .all 400, false⟩
/-- PD_RAIL_SHED_SHED_CUR (R263). -/
def R.PD_RAIL_SHED_SHED_CUR : Fld := ⟨0x141038 * 8 + 0, 1024, 14, 12, .rw, .all 200, false⟩
/-- PD_RAIL_HEALTH_SAFE_THR (R263). -/
def R.PD_RAIL_HEALTH_SAFE_THR : Fld := ⟨0x14103C * 8 + 24, 1024, 14, 8, .rww, .all 128, false⟩
/-- PD_RAIL_HEALTH_JUDGE (R263). -/
def R.PD_RAIL_HEALTH_JUDGE : Fld := ⟨0x14103C * 8 + 20, 1024, 14, 2, .rww, .all 2, false⟩
/-- PD_RAIL_HEALTH_DEV (R263). -/
def R.PD_RAIL_HEALTH_DEV : Fld := ⟨0x14103C * 8 + 7, 1024, 14, 7, .rww, .all 50, false⟩
/-- PD_RAIL_HEALTH_MIN_MEAN (R263). -/
def R.PD_RAIL_HEALTH_MIN_MEAN : Fld := ⟨0x14103C * 8 + 0, 1024, 14, 7, .rww, .all 10, false⟩
/-- PD_RAIL_SKIP_SKIP_FRAMES (R263). -/
def R.PD_RAIL_SKIP_SKIP_FRAMES : Fld := ⟨0x141040 * 8 + 8, 1024, 14, 8, .rw, .all 16, false⟩
/-- PD_RAIL_SKIP_SKIP_CUR (R263). -/
def R.PD_RAIL_SKIP_SKIP_CUR : Fld := ⟨0x141040 * 8 + 0, 1024, 14, 8, .rw, .all 20, false⟩
/-- PD_RAIL_CMD_RESTART (R263). -/
def R.PD_RAIL_CMD_RESTART : Fld := ⟨0x141044 * 8 + 1, 1024, 14, 1, .rww, .all 0, false⟩
/-- PD_RAIL_CMD_CLEAR_SAFE (R263). -/
def R.PD_RAIL_CMD_CLEAR_SAFE : Fld := ⟨0x141044 * 8 + 0, 1024, 14, 1, .rww, .all 0, false⟩
/-- PD_SETPOINT_CODE (R264). -/
def R.PD_SETPOINT_CODE : Fld := ⟨0x142000 * 8 + 0, 32, 448, 9, .ro, .all 0, false⟩
/-- PD_PH_STAT_STATE (R265). -/
def R.PD_PH_STAT_STATE : Fld := ⟨0x144000 * 8 + 29, 128, 128, 3, .ro, .all 7, false⟩
/-- PD_PH_STAT_DERATED (R265). -/
def R.PD_PH_STAT_DERATED : Fld := ⟨0x144000 * 8 + 28, 128, 128, 1, .ro, .all 0, false⟩
/-- PD_PH_STAT_SENSE_OK (R265). -/
def R.PD_PH_STAT_SENSE_OK : Fld := ⟨0x144000 * 8 + 27, 128, 128, 1, .ro, .all 0, false⟩
/-- PD_PH_STAT_CAUSE (R265). -/
def R.PD_PH_STAT_CAUSE : Fld := ⟨0x144000 * 8 + 24, 128, 128, 3, .ro, .all 0, false⟩
/-- PD_PH_STAT_RAIL (R265). -/
def R.PD_PH_STAT_RAIL : Fld := ⟨0x144000 * 8 + 16, 128, 128, 4, .ro, .all 15, false⟩
/-- PD_PH_STAT_SC_FRAME (R265). -/
def R.PD_PH_STAT_SC_FRAME : Fld := ⟨0x144000 * 8 + 8, 128, 128, 8, .ro, .all 0, false⟩
/-- PD_PH_STAT_RANK (R265). -/
def R.PD_PH_STAT_RANK : Fld := ⟨0x144000 * 8 + 0, 128, 128, 8, .ro, .all 0, false⟩
/-- PD_PH_CURRENT_USED (R265). -/
def R.PD_PH_CURRENT_USED : Fld := ⟨0x144004 * 8 + 16, 128, 128, 16, .ro, .all 0, false⟩
/-- PD_PH_CURRENT_MEAS (R265). -/
def R.PD_PH_CURRENT_MEAS : Fld := ⟨0x144004 * 8 + 0, 128, 128, 16, .ro, .all 0, false⟩
/-- PD_PH_DUTY_DUTY (R265). -/
def R.PD_PH_DUTY_DUTY : Fld := ⟨0x144008 * 8 + 16, 128, 128, 16, .ro, .all 0, false⟩
/-- PD_PH_DUTY_SHARE (R265). -/
def R.PD_PH_DUTY_SHARE : Fld := ⟨0x144008 * 8 + 0, 128, 128, 16, .ro, .all 0, false⟩
/-- PD_PH_CTRL_SC_TOTAL (R265). -/
def R.PD_PH_CTRL_SC_TOTAL : Fld := ⟨0x14400C * 8 + 16, 128, 128, 16, .ro, .all 0, false⟩
/-- PD_PH_CTRL_FENCE (R265). -/
def R.PD_PH_CTRL_FENCE : Fld := ⟨0x14400C * 8 + 0, 128, 128, 1, .rww, .all 0, false⟩
/-- CROOK_STATUS_SYNCED (R306). -/
def R.CROOK_STATUS_SYNCED : Fld := ⟨0x150000 * 8 + 31, 32, 1, 1, .ro, .all 0, false⟩
/-- CROOK_STATUS_ORPHANS (R306). -/
def R.CROOK_STATUS_ORPHANS : Fld := ⟨0x150000 * 8 + 10, 32, 1, 10, .ro, .all 0, true⟩
/-- CROOK_STATUS_STRETCHING (R306). -/
def R.CROOK_STATUS_STRETCHING : Fld := ⟨0x150000 * 8 + 0, 32, 1, 10, .ro, .all 0, true⟩
/-- CROOK_CTRL_STUCK_FRAMES (R306). -/
def R.CROOK_CTRL_STUCK_FRAMES : Fld := ⟨0x150004 * 8 + 8, 32, 1, 8, .rww, .all 64, false⟩
/-- CROOK_CTRL_MIN_HOLD (R306). -/
def R.CROOK_CTRL_MIN_HOLD : Fld := ⟨0x150004 * 8 + 0, 32, 1, 8, .rww, .all 16, false⟩
/-- CROOK_LATE_LATE (R306). -/
def R.CROOK_LATE_LATE : Fld := ⟨0x150008 * 8 + 0, 32, 1, 32, .ro, .all 0, false⟩
/-- CROOK_TEST_BUSY (R306). -/
def R.CROOK_TEST_BUSY : Fld := ⟨0x15000C * 8 + 31, 32, 1, 1, .ro, .all 0, false⟩
/-- CROOK_TEST_CELL (R306). -/
def R.CROOK_TEST_CELL : Fld := ⟨0x15000C * 8 + 0, 32, 1, 10, .rww, .all 0, false⟩
/-- CROOK_FOLD_CFG_MAX_STRETCH (R307). -/
def R.CROOK_FOLD_CFG_MAX_STRETCH : Fld := ⟨0x150100 * 8 + 11, 128, 64, 6, .rww, .all 0, false⟩
/-- CROOK_FOLD_CFG_HYST (R307). -/
def R.CROOK_FOLD_CFG_HYST : Fld := ⟨0x150100 * 8 + 7, 128, 64, 4, .rww, .all 0, false⟩
/-- CROOK_FOLD_CFG_THRESH (R307). -/
def R.CROOK_FOLD_CFG_THRESH : Fld := ⟨0x150100 * 8 + 0, 128, 64, 5, .rww, .all 0, false⟩
/-- CROOK_FOLD_SUM_TRIPS (R307). -/
def R.CROOK_FOLD_SUM_TRIPS : Fld := ⟨0x150104 * 8 + 24, 128, 64, 8, .ro, .all 0, false⟩
/-- CROOK_FOLD_SUM_EDGES (R307). -/
def R.CROOK_FOLD_SUM_EDGES : Fld := ⟨0x150104 * 8 + 0, 128, 64, 17, .ro, .all 0, false⟩
/-- CROOK_FOLD_TOTAL_TOTAL (R307). -/
def R.CROOK_FOLD_TOTAL_TOTAL : Fld := ⟨0x150108 * 8 + 0, 128, 64, 32, .ro, .all 0, false⟩
/-- CROOK_FOLD_THR_FALLBACK (R307). -/
def R.CROOK_FOLD_THR_FALLBACK : Fld := ⟨0x15010C * 8 + 16, 128, 64, 9, .ro, .all 0, false⟩
/-- CROOK_FOLD_THR_CODE (R307). -/
def R.CROOK_FOLD_THR_CODE : Fld := ⟨0x15010C * 8 + 0, 128, 64, 9, .ro, .all 0, false⟩
/-- CROOK_RAIL_CFG_STEP_ADD (R308). -/
def R.CROOK_RAIL_CFG_STEP_ADD : Fld := ⟨0x150500 * 8 + 6, 64, 14, 4, .rw, .all 2, false⟩
/-- CROOK_RAIL_CFG_STEP_V (R308). -/
def R.CROOK_RAIL_CFG_STEP_V : Fld := ⟨0x150500 * 8 + 0, 64, 14, 6, .rw, .all 20, false⟩
/-- CROOK_RAIL_STAT_ABORTS (R308). -/
def R.CROOK_RAIL_STAT_ABORTS : Fld := ⟨0x150504 * 8 + 16, 64, 14, 16, .ro, .all 0, false⟩
/-- CROOK_RAIL_STAT_ALARM (R308). -/
def R.CROOK_RAIL_STAT_ALARM : Fld := ⟨0x150504 * 8 + 0, 64, 14, 1, .ro, .all 0, false⟩
/-- CROOK_CELL_ENABLE (R309). -/
def R.CROOK_CELL_ENABLE : Fld := ⟨0x151000 * 8 + 31, 32, 832, 1, .rww, .all 1, false⟩
/-- CROOK_CELL_PRESENT (R309). -/
def R.CROOK_CELL_PRESENT : Fld := ⟨0x151000 * 8 + 30, 32, 832, 1, .ro, .all 0, true⟩
/-- CROOK_CELL_STUCK (R309). -/
def R.CROOK_CELL_STUCK : Fld := ⟨0x151000 * 8 + 29, 32, 832, 1, .ro, .all 0, false⟩
/-- CROOK_CELL_ORPHAN (R309). -/
def R.CROOK_CELL_ORPHAN : Fld := ⟨0x151000 * 8 + 28, 32, 832, 1, .ro, .all 0, false⟩
/-- CROOK_CELL_STRETCHING (R309). -/
def R.CROOK_CELL_STRETCHING : Fld := ⟨0x151000 * 8 + 27, 32, 832, 1, .ro, .all 0, false⟩
/-- CROOK_CELL_TRIPS (R309). -/
def R.CROOK_CELL_TRIPS : Fld := ⟨0x151000 * 8 + 0, 32, 832, 16, .ro, .all 0, false⟩
/-- BW_STATUS_RUNNING (R310). -/
def R.BW_STATUS_RUNNING : Fld := ⟨0x160000 * 8 + 31, 32, 1, 1, .ro, .all 0, false⟩
/-- BW_STATUS_WEIGHT_ERR (R310). -/
def R.BW_STATUS_WEIGHT_ERR : Fld := ⟨0x160000 * 8 + 30, 32, 1, 1, .ro, .all 0, false⟩
/-- BW_STATUS_NET_VALID (R310). -/
def R.BW_STATUS_NET_VALID : Fld := ⟨0x160000 * 8 + 26, 32, 1, 4, .ro, .all 0, false⟩
/-- BW_STATUS_CYCLES (R310). -/
def R.BW_STATUS_CYCLES : Fld := ⟨0x160000 * 8 + 0, 32, 1, 8, .ro, .all 0, false⟩
/-- BW_CLEAR_RAILS (R310). -/
def R.BW_CLEAR_RAILS : Fld := ⟨0x160004 * 8 + 1, 32, 1, 1, .wo, .all 0, false⟩
/-- BW_CLEAR_FOLDS (R310). -/
def R.BW_CLEAR_FOLDS : Fld := ⟨0x160004 * 8 + 0, 32, 1, 1, .wo, .all 0, false⟩
/-- BW_NETMAP_NET (R310). -/
def R.BW_NETMAP_NET : Fld := ⟨0x160040 * 8 + 0, 8, 64, 8, .ro, .all 255, false⟩
/-- BW_LAYER_WBASE (R310). -/
def R.BW_LAYER_WBASE : Fld := ⟨0x160080 * 8 + 16, 64, 8, 16, .ro, .all 0, false⟩
/-- BW_LAYER_EXP (R310). -/
def R.BW_LAYER_EXP : Fld := ⟨0x160080 * 8 + 0, 64, 8, 8, .ro, .all 0, false⟩
/-- BW_LAYER_BBASE (R310). -/
def R.BW_LAYER_BBASE : Fld := ⟨0x160080 * 8 + 53, 64, 8, 11, .ro, .all 0, false⟩
/-- BW_LAYER_OUT (R310). -/
def R.BW_LAYER_OUT : Fld := ⟨0x160080 * 8 + 41, 64, 8, 9, .ro, .all 0, false⟩
/-- BW_LAYER_IN (R310). -/
def R.BW_LAYER_IN : Fld := ⟨0x160080 * 8 + 32, 64, 8, 9, .ro, .all 0, false⟩
/-- BW_WEIGHT_BYTE (R311). -/
def R.BW_WEIGHT_BYTE : Fld := ⟨0x160100 * 8 + 0, 8, 30, 8, .rwo, .table [24, 20, 20, 16, 16, 12, 10, 14, 10, 8, 10, 8, 8, 8, 8, 8, 8, 8, 8, 8, 4, 4, 4, 4, 4, 4, 4, 4, 4, 4], false⟩
/-- BW_FOLD_STAT_VALID (R312). -/
def R.BW_FOLD_STAT_VALID : Fld := ⟨0x161000 * 8 + 31, 256, 64, 1, .ro, .all 0, false⟩
/-- BW_FOLD_STAT_ENTRIES (R312). -/
def R.BW_FOLD_STAT_ENTRIES : Fld := ⟨0x161000 * 8 + 8, 256, 64, 6, .ro, .all 0, true⟩
/-- BW_FOLD_STAT_LAST_SEQ (R312). -/
def R.BW_FOLD_STAT_LAST_SEQ : Fld := ⟨0x161000 * 8 + 0, 256, 64, 8, .ro, .all 0, false⟩
/-- BW_FOLD_FCAST0_H2 (R312). -/
def R.BW_FOLD_FCAST0_H2 : Fld := ⟨0x161004 * 8 + 16, 256, 64, 16, .ro, .all 0, false⟩
/-- BW_FOLD_FCAST0_H1 (R312). -/
def R.BW_FOLD_FCAST0_H1 : Fld := ⟨0x161004 * 8 + 0, 256, 64, 16, .ro, .all 0, false⟩
/-- BW_FOLD_FCAST1_H4 (R312). -/
def R.BW_FOLD_FCAST1_H4 : Fld := ⟨0x161008 * 8 + 16, 256, 64, 16, .ro, .all 0, false⟩
/-- BW_FOLD_FCAST1_H3 (R312). -/
def R.BW_FOLD_FCAST1_H3 : Fld := ⟨0x161008 * 8 + 0, 256, 64, 16, .ro, .all 0, false⟩
/-- BW_FOLD_FCAST2_H6 (R312). -/
def R.BW_FOLD_FCAST2_H6 : Fld := ⟨0x16100C * 8 + 16, 256, 64, 16, .ro, .all 0, false⟩
/-- BW_FOLD_FCAST2_H5 (R312). -/
def R.BW_FOLD_FCAST2_H5 : Fld := ⟨0x16100C * 8 + 0, 256, 64, 16, .ro, .all 0, false⟩
/-- BW_FOLD_FCAST3_H8 (R312). -/
def R.BW_FOLD_FCAST3_H8 : Fld := ⟨0x161010 * 8 + 16, 256, 64, 16, .ro, .all 0, false⟩
/-- BW_FOLD_FCAST3_H7 (R312). -/
def R.BW_FOLD_FCAST3_H7 : Fld := ⟨0x161010 * 8 + 0, 256, 64, 16, .ro, .all 0, false⟩
/-- BW_FOLD_CNT0_LATE (R312). -/
def R.BW_FOLD_CNT0_LATE : Fld := ⟨0x161014 * 8 + 24, 256, 64, 8, .ro, .all 0, false⟩
/-- BW_FOLD_CNT0_STALE (R312). -/
def R.BW_FOLD_CNT0_STALE : Fld := ⟨0x161014 * 8 + 16, 256, 64, 8, .ro, .all 0, false⟩
/-- BW_FOLD_CNT0_GAP (R312). -/
def R.BW_FOLD_CNT0_GAP : Fld := ⟨0x161014 * 8 + 8, 256, 64, 8, .ro, .all 0, false⟩
/-- BW_FOLD_CNT0_BAD (R312). -/
def R.BW_FOLD_CNT0_BAD : Fld := ⟨0x161014 * 8 + 0, 256, 64, 8, .ro, .all 0, false⟩
/-- BW_FOLD_CNT1_NOMAP (R312). -/
def R.BW_FOLD_CNT1_NOMAP : Fld := ⟨0x161018 * 8 + 24, 256, 64, 8, .ro, .all 0, false⟩
/-- BW_FOLD_CNT1_DUP_TAG (R312). -/
def R.BW_FOLD_CNT1_DUP_TAG : Fld := ⟨0x161018 * 8 + 16, 256, 64, 8, .ro, .all 0, false⟩
/-- BW_FOLD_CNT1_FAR (R312). -/
def R.BW_FOLD_CNT1_FAR : Fld := ⟨0x161018 * 8 + 8, 256, 64, 8, .ro, .all 0, false⟩
/-- BW_FOLD_CNT1_DROP (R312). -/
def R.BW_FOLD_CNT1_DROP : Fld := ⟨0x161018 * 8 + 0, 256, 64, 8, .ro, .all 0, false⟩
/-- BW_RAIL_FCAST_MAX (R313). -/
def R.BW_RAIL_FCAST_MAX : Fld := ⟨0x162000 * 8 + 16, 128, 14, 16, .ro, .all 0, false⟩
/-- BW_RAIL_FCAST_NOW (R313). -/
def R.BW_RAIL_FCAST_NOW : Fld := ⟨0x162000 * 8 + 0, 128, 14, 16, .ro, .all 0, false⟩
/-- BW_RAIL_CTRL_RISE_MIN (R313). -/
def R.BW_RAIL_CTRL_RISE_MIN : Fld := ⟨0x162004 * 8 + 24, 128, 14, 8, .rw, .all 16, false⟩
/-- BW_RAIL_CTRL_MISS_MIN (R313). -/
def R.BW_RAIL_CTRL_MISS_MIN : Fld := ⟨0x162004 * 8 + 16, 128, 14, 8, .rw, .all 20, false⟩
/-- BW_RAIL_CTRL_MET_PCT (R313). -/
def R.BW_RAIL_CTRL_MET_PCT : Fld := ⟨0x162004 * 8 + 9, 128, 14, 7, .rw, .all 50, false⟩
/-- BW_RAIL_CTRL_EA_H (R313). -/
def R.BW_RAIL_CTRL_EA_H : Fld := ⟨0x162004 * 8 + 0, 128, 14, 4, .rw, .all 2, false⟩
/-- BW_RAIL_STAT_MISSES (R313). -/
def R.BW_RAIL_STAT_MISSES : Fld := ⟨0x162008 * 8 + 16, 128, 14, 16, .ro, .all 0, false⟩
/-- BW_RAIL_STAT_DEFER (R313). -/
def R.BW_RAIL_STAT_DEFER : Fld := ⟨0x162008 * 8 + 8, 128, 14, 1, .ro, .all 0, false⟩
/-- BW_RAIL_STAT_EA_LAST (R313). -/
def R.BW_RAIL_STAT_EA_LAST : Fld := ⟨0x162008 * 8 + 0, 128, 14, 5, .ro, .all 0, false⟩
/-- BW_BIAS_BIAS (R314). -/
def R.BW_BIAS_BIAS : Fld := ⟨0x164000 * 8 + 0, 16, 2048, 16, .rwo, .all 0, false⟩
/-- BW_WMEM_W (R314). -/
def R.BW_WMEM_W : Fld := ⟨0x180000 * 8 + 0, 8, 65536, 8, .rwo, .all 0, false⟩
/-- TH_STATUS_RUNNING (R348). -/
def R.TH_STATUS_RUNNING : Fld := ⟨0x1A0000 * 8 + 31, 32, 1, 1, .ro, .all 0, false⟩
/-- TH_STATUS_TRIPPED (R348). -/
def R.TH_STATUS_TRIPPED : Fld := ⟨0x1A0000 * 8 + 30, 32, 1, 1, .ro, .all 0, true⟩
/-- TH_STATUS_NEAR_CNT (R348). -/
def R.TH_STATUS_NEAR_CNT : Fld := ⟨0x1A0000 * 8 + 16, 32, 1, 8, .ro, .all 0, true⟩
/-- TH_STATUS_BLIND_CNT (R348). -/
def R.TH_STATUS_BLIND_CNT : Fld := ⟨0x1A0000 * 8 + 8, 32, 1, 8, .ro, .all 0, true⟩
/-- TH_STATUS_CLAMP_CNT (R348). -/
def R.TH_STATUS_CLAMP_CNT : Fld := ⟨0x1A0000 * 8 + 0, 32, 1, 8, .ro, .all 0, true⟩
/-- TH_CTRL_BLIND_ADD (R348). -/
def R.TH_CTRL_BLIND_ADD : Fld := ⟨0x1A0004 * 8 + 8, 32, 1, 8, .rww, .all 2, false⟩
/-- TH_CTRL_XCHK_DEV (R348). -/
def R.TH_CTRL_XCHK_DEV : Fld := ⟨0x1A0004 * 8 + 0, 32, 1, 8, .rww, .all 8, false⟩
/-- TH_LIMITS_HOT_CLAMP (R348). -/
def R.TH_LIMITS_HOT_CLAMP : Fld := ⟨0x1A0008 * 8 + 16, 32, 1, 16, .rww, .all 1760, false⟩
/-- TH_LIMITS_TILE_FENCE_T (R348). -/
def R.TH_LIMITS_TILE_FENCE_T : Fld := ⟨0x1A0008 * 8 + 0, 32, 1, 16, .rww, .all 1728, false⟩
/-- TH_TRIP_LATCHED (R348). -/
def R.TH_TRIP_LATCHED : Fld := ⟨0x1A000C * 8 + 31, 32, 1, 1, .ro, .all 0, true⟩
/-- TH_TRIP_NET_LOW (R348). -/
def R.TH_TRIP_NET_LOW : Fld := ⟨0x1A000C * 8 + 30, 32, 1, 1, .ro, .all 0, true⟩
/-- TH_TRIP_DIODE (R348). -/
def R.TH_TRIP_DIODE : Fld := ⟨0x1A000C * 8 + 16, 32, 1, 6, .ro, .all 0, true⟩
/-- TH_TRIP_TEMP (R348). -/
def R.TH_TRIP_TEMP : Fld := ⟨0x1A000C * 8 + 0, 32, 1, 16, .ro, .all 0, true⟩
/-- TH_FENCE_REQ (R348). -/
def R.TH_FENCE_REQ : Fld := ⟨0x1A0040 * 8 + 0, 1, 768, 1, .rww, .all 0, false⟩
/-- TH_FENCED_FENCED (R348). -/
def R.TH_FENCED_FENCED : Fld := ⟨0x1A00A0 * 8 + 0, 1, 768, 1, .ro, .all 0, false⟩
/-- TH_STILE_PARKED (R348). -/
def R.TH_STILE_PARKED : Fld := ⟨0x1A0100 * 8 + 0, 1, 64, 1, .ro, .all 0, false⟩
/-- TH_ROUTE_IN_USE (R348). -/
def R.TH_ROUTE_IN_USE : Fld := ⟨0x1A0108 * 8 + 0, 1, 64, 1, .ro, .all 0, false⟩
/-- TH_BAND_CFG_KIND (R349). -/
def R.TH_BAND_CFG_KIND : Fld := ⟨0x1A0200 * 8 + 16, 64, 12, 2, .ro, .all 0, false⟩
/-- TH_BAND_CFG_SOURCE (R349). -/
def R.TH_BAND_CFG_SOURCE : Fld := ⟨0x1A0200 * 8 + 8, 64, 12, 8, .ro, .all 0, false⟩
/-- TH_BAND_CFG_HYST (R349). -/
def R.TH_BAND_CFG_HYST : Fld := ⟨0x1A0200 * 8 + 0, 64, 12, 8, .ro, .all 2, false⟩
/-- TH_BAND_STAT_STALE (R349). -/
def R.TH_BAND_STAT_STALE : Fld := ⟨0x1A0204 * 8 + 31, 64, 12, 1, .ro, .all 0, false⟩
/-- TH_BAND_STAT_BAND (R349). -/
def R.TH_BAND_STAT_BAND : Fld := ⟨0x1A0204 * 8 + 16, 64, 12, 2, .ro, .all 3, false⟩
/-- TH_BAND_STAT_TEMP (R349). -/
def R.TH_BAND_STAT_TEMP : Fld := ⟨0x1A0204 * 8 + 0, 64, 12, 16, .ro, .all 0, false⟩
/-- TH_OPT_HEATER_HEATER (R350). -/
def R.TH_OPT_HEATER_HEATER : Fld := ⟨0x1A0300 * 8 + 0, 128, 8, 32, .rww, .all 0, false⟩
/-- TH_OPT_LASER_LASER (R350). -/
def R.TH_OPT_LASER_LASER : Fld := ⟨0x1A0304 * 8 + 0, 128, 8, 32, .rww, .all 0, false⟩
/-- TH_OPT_STAT_OVER (R350). -/
def R.TH_OPT_STAT_OVER : Fld := ⟨0x1A0308 * 8 + 31, 128, 8, 1, .ro, .all 0, false⟩
/-- TH_OPT_STAT_LOCKED (R350). -/
def R.TH_OPT_STAT_LOCKED : Fld := ⟨0x1A0308 * 8 + 30, 128, 8, 1, .ro, .all 0, false⟩
/-- TH_OPT_STAT_FF (R350). -/
def R.TH_OPT_STAT_FF : Fld := ⟨0x1A0308 * 8 + 0, 128, 8, 16, .ro, .all 0, false⟩
/-- TH_OPT_DRAW_HEATER_RPT (R350). -/
def R.TH_OPT_DRAW_HEATER_RPT : Fld := ⟨0x1A030C * 8 + 16, 128, 8, 16, .ro, .all 0, false⟩
/-- TH_OPT_DRAW_LASER_RPT (R350). -/
def R.TH_OPT_DRAW_LASER_RPT : Fld := ⟨0x1A030C * 8 + 0, 128, 8, 16, .ro, .all 0, false⟩
/-- TH_PAD_TEMP_DIODE_T (R351). -/
def R.TH_PAD_TEMP_DIODE_T : Fld := ⟨0x1A1000 * 8 + 16, 256, 128, 16, .ro, .all 32768, false⟩
/-- TH_PAD_TEMP_TEMP (R351). -/
def R.TH_PAD_TEMP_TEMP : Fld := ⟨0x1A1000 * 8 + 0, 256, 128, 16, .ro, .all 0, false⟩
/-- TH_PAD_STAT_NEAR (R351). -/
def R.TH_PAD_STAT_NEAR : Fld := ⟨0x1A1004 * 8 + 31, 256, 128, 1, .ro, .all 0, false⟩
/-- TH_PAD_STAT_BLIND (R351). -/
def R.TH_PAD_STAT_BLIND : Fld := ⟨0x1A1004 * 8 + 30, 256, 128, 1, .ro, .all 0, false⟩
/-- TH_PAD_STAT_CLAMP (R351). -/
def R.TH_PAD_STAT_CLAMP : Fld := ⟨0x1A1004 * 8 + 29, 256, 128, 1, .ro, .all 0, false⟩
/-- TH_PAD_STAT_DIODE_FAIL (R351). -/
def R.TH_PAD_STAT_DIODE_FAIL : Fld := ⟨0x1A1004 * 8 + 28, 256, 128, 1, .ro, .all 0, false⟩
/-- TH_PAD_STAT_SUSPECT (R351). -/
def R.TH_PAD_STAT_SUSPECT : Fld := ⟨0x1A1004 * 8 + 16, 256, 128, 8, .ro, .all 0, false⟩
/-- TH_PAD_STAT_FAILED (R351). -/
def R.TH_PAD_STAT_FAILED : Fld := ⟨0x1A1004 * 8 + 8, 256, 128, 8, .ro, .all 0, false⟩
/-- TH_PAD_STAT_EXCLUDED (R351). -/
def R.TH_PAD_STAT_EXCLUDED : Fld := ⟨0x1A1004 * 8 + 0, 256, 128, 8, .ro, .all 0, false⟩
/-- TH_PAD_HURDLE_LEVEL (R351). -/
def R.TH_PAD_HURDLE_LEVEL : Fld := ⟨0x1A1008 * 8 + 16, 256, 128, 16, .rww, .all 1600, false⟩
/-- TH_PAD_HURDLE_RATE (R351). -/
def R.TH_PAD_HURDLE_RATE : Fld := ⟨0x1A1008 * 8 + 0, 256, 128, 12, .rww, .all 32, false⟩
/-- TH_PAD_CFG_FOLD (R351). -/
def R.TH_PAD_CFG_FOLD : Fld := ⟨0x1A100C * 8 + 24, 256, 128, 8, .ro, .all 255, false⟩
/-- TH_PAD_CFG_DIODE (R351). -/
def R.TH_PAD_CFG_DIODE : Fld := ⟨0x1A100C * 8 + 16, 256, 128, 8, .ro, .all 255, false⟩
/-- TH_PAD_CFG_NEAR (R351). -/
def R.TH_PAD_CFG_NEAR : Fld := ⟨0x1A100C * 8 + 11, 256, 128, 5, .ro, .all 0, false⟩
/-- TH_PAD_CFG_HYST (R351). -/
def R.TH_PAD_CFG_HYST : Fld := ⟨0x1A100C * 8 + 7, 256, 128, 4, .ro, .all 0, false⟩
/-- TH_PAD_CFG_SITES (R351). -/
def R.TH_PAD_CFG_SITES : Fld := ⟨0x1A100C * 8 + 0, 256, 128, 7, .ro, .all 0, false⟩
/-- TH_PAD_CNT_LATE_SWEEP (R351). -/
def R.TH_PAD_CNT_LATE_SWEEP : Fld := ⟨0x1A1010 * 8 + 16, 256, 128, 16, .ro, .all 0, false⟩
/-- TH_PAD_CNT_LATE_READ (R351). -/
def R.TH_PAD_CNT_LATE_READ : Fld := ⟨0x1A1010 * 8 + 0, 256, 128, 16, .ro, .all 0, false⟩
/-- TH_DIODE_OWN (R352). -/
def R.TH_DIODE_OWN : Fld := ⟨0x1A2000 * 8 + 31, 32, 64, 1, .ro, .all 0, true⟩
/-- TH_DIODE_PRESENT (R352). -/
def R.TH_DIODE_PRESENT : Fld := ⟨0x1A2000 * 8 + 30, 32, 64, 1, .ro, .all 0, true⟩
/-- TH_DIODE_FAILED (R352). -/
def R.TH_DIODE_FAILED : Fld := ⟨0x1A2000 * 8 + 29, 32, 64, 1, .ro, .all 0, false⟩
/-- TH_DIODE_ABOVE (R352). -/
def R.TH_DIODE_ABOVE : Fld := ⟨0x1A2000 * 8 + 28, 32, 64, 1, .ro, .all 0, false⟩
/-- TH_DIODE_READING (R352). -/
def R.TH_DIODE_READING : Fld := ⟨0x1A2000 * 8 + 0, 32, 64, 16, .ro, .all 32768, false⟩
/-- TH_SITE_STATE (R353). -/
def R.TH_SITE_STATE : Fld := ⟨0x1A4000 * 8 + 29, 32, 1536, 3, .ro, .all 0, false⟩
/-- TH_SITE_SUBST (R353). -/
def R.TH_SITE_SUBST : Fld := ⟨0x1A4000 * 8 + 28, 32, 1536, 1, .ro, .all 0, false⟩
/-- TH_SITE_PADDOCK (R353). -/
def R.TH_SITE_PADDOCK : Fld := ⟨0x1A4000 * 8 + 16, 32, 1536, 8, .ro, .all 255, false⟩
/-- TH_SITE_READING (R353). -/
def R.TH_SITE_READING : Fld := ⟨0x1A4000 * 8 + 0, 32, 1536, 16, .ro, .all 32768, false⟩
/-- GL_STATUS_ROUNDS (R393). -/
def R.GL_STATUS_ROUNDS : Fld := ⟨0x1B0000 * 8 + 31, 32, 1, 1, .ro, .all 0, false⟩
/-- GL_STATUS_UNATTENDED (R393). -/
def R.GL_STATUS_UNATTENDED : Fld := ⟨0x1B0000 * 8 + 30, 32, 1, 1, .ro, .all 0, false⟩
/-- GL_STATUS_FLAT_ALL (R393). -/
def R.GL_STATUS_FLAT_ALL : Fld := ⟨0x1B0000 * 8 + 29, 32, 1, 1, .ro, .all 0, false⟩
/-- GL_STATUS_READY (R393). -/
def R.GL_STATUS_READY : Fld := ⟨0x1B0000 * 8 + 8, 32, 1, 4, .ro, .all 0, true⟩
/-- GL_STATUS_OPEN (R393). -/
def R.GL_STATUS_OPEN : Fld := ⟨0x1B0000 * 8 + 4, 32, 1, 2, .ro, .all 0, true⟩
/-- GL_STATUS_CLOSING_V (R393). -/
def R.GL_STATUS_CLOSING_V : Fld := ⟨0x1B0000 * 8 + 3, 32, 1, 1, .ro, .all 0, true⟩
/-- GL_STATUS_CLOSING (R393). -/
def R.GL_STATUS_CLOSING : Fld := ⟨0x1B0000 * 8 + 0, 32, 1, 2, .ro, .all 0, true⟩
/-- GL_EPOCH_EPOCH (R393). -/
def R.GL_EPOCH_EPOCH : Fld := ⟨0x1B0004 * 8 + 0, 32, 1, 32, .ro, .all 0, false⟩
/-- GL_CTRL_GRANT_PERIOD (R393). -/
def R.GL_CTRL_GRANT_PERIOD : Fld := ⟨0x1B0008 * 8 + 16, 32, 1, 16, .rw, .all 2000, false⟩
/-- GL_CTRL_RESERVE_PCT (R393). -/
def R.GL_CTRL_RESERVE_PCT : Fld := ⟨0x1B0008 * 8 + 0, 32, 1, 8, .rw, .all 10, false⟩
/-- GL_HEFT_LEARN (R393). -/
def R.GL_HEFT_LEARN : Fld := ⟨0x1B000C * 8 + 31, 32, 1, 1, .rw, .all 1, false⟩
/-- GL_HEFT_HEFT_UNIT (R393). -/
def R.GL_HEFT_HEFT_UNIT : Fld := ⟨0x1B000C * 8 + 0, 32, 1, 16, .rw, .all 64, false⟩
/-- GL_MESH_RETRY_MAX (R393). -/
def R.GL_MESH_RETRY_MAX : Fld := ⟨0x1B0010 * 8 + 8, 32, 1, 8, .rw, .all 8, false⟩
/-- GL_MESH_RETRY_GAP (R393). -/
def R.GL_MESH_RETRY_GAP : Fld := ⟨0x1B0010 * 8 + 0, 32, 1, 8, .rw, .all 2, false⟩
/-- GL_MESH_STAT_RETRIES (R393). -/
def R.GL_MESH_STAT_RETRIES : Fld := ⟨0x1B0014 * 8 + 16, 32, 1, 16, .ro, .all 0, false⟩
/-- GL_MESH_STAT_FAILED (R393). -/
def R.GL_MESH_STAT_FAILED : Fld := ⟨0x1B0014 * 8 + 0, 32, 1, 16, .ro, .all 0, false⟩
/-- GL_BASE_BASE (R393). -/
def R.GL_BASE_BASE : Fld := ⟨0x1B0018 * 8 + 12, 32, 1, 8, .rwo, .all 128, false⟩
/-- GL_BANK_STAT_STATE (R394). -/
def R.GL_BANK_STAT_STATE : Fld := ⟨0x1B0100 * 8 + 30, 128, 4, 2, .ro, .all 0, false⟩
/-- GL_BANK_STAT_INEXACT (R394). -/
def R.GL_BANK_STAT_INEXACT : Fld := ⟨0x1B0100 * 8 + 29, 128, 4, 1, .ro, .all 0, false⟩
/-- GL_BANK_STAT_LATE (R394). -/
def R.GL_BANK_STAT_LATE : Fld := ⟨0x1B0100 * 8 + 28, 128, 4, 1, .ro, .all 0, false⟩
/-- GL_BANK_STAT_MERGED (R394). -/
def R.GL_BANK_STAT_MERGED : Fld := ⟨0x1B0100 * 8 + 16, 128, 4, 8, .ro, .all 0, false⟩
/-- GL_BANK_STAT_RELEASE (R394). -/
def R.GL_BANK_STAT_RELEASE : Fld := ⟨0x1B0100 * 8 + 0, 128, 4, 1, .wo, .all 0, false⟩
/-- GL_BANK_FIRST_FIRST (R394). -/
def R.GL_BANK_FIRST_FIRST : Fld := ⟨0x1B0104 * 8 + 0, 128, 4, 64, .ro, .all 0, false⟩
/-- GL_BANK_FRAMES_FRAMES (R394). -/
def R.GL_BANK_FRAMES_FRAMES : Fld := ⟨0x1B010C * 8 + 0, 128, 4, 32, .ro, .all 0, false⟩
/-- GL_DISP_SENT_SENT (R395). -/
def R.GL_DISP_SENT_SENT : Fld := ⟨0x1B1000 * 8 + 0, 128, 32, 32, .ro, .all 0, false⟩
/-- GL_DISP_ACK_ACK_SEQ (R395). -/
def R.GL_DISP_ACK_ACK_SEQ : Fld := ⟨0x1B1004 * 8 + 0, 128, 32, 32, .ro, .all 0, false⟩
/-- GL_DISP_EPOCH_ACK_EPOCH (R395). -/
def R.GL_DISP_EPOCH_ACK_EPOCH : Fld := ⟨0x1B1008 * 8 + 0, 128, 32, 32, .ro, .all 0, false⟩
/-- GL_DISP_STAT_STATUS (R395). -/
def R.GL_DISP_STAT_STATUS : Fld := ⟨0x1B100C * 8 + 30, 128, 32, 2, .ro, .all 3, false⟩
/-- GL_DISP_STAT_ROUND_FAIL (R395). -/
def R.GL_DISP_STAT_ROUND_FAIL : Fld := ⟨0x1B100C * 8 + 8, 128, 32, 8, .ro, .all 0, false⟩
/-- GL_DISP_STAT_NOBUF (R395). -/
def R.GL_DISP_STAT_NOBUF : Fld := ⟨0x1B100C * 8 + 0, 128, 32, 8, .ro, .all 0, false⟩
/-- GL_RAIL_ENERGY_ENERGY (R396). -/
def R.GL_RAIL_ENERGY_ENERGY : Fld := ⟨0x1B2000 * 8 + 0, 128, 14, 64, .ro, .all 0, true⟩
/-- GL_RAIL_IDLE_IDLE (R396). -/
def R.GL_RAIL_IDLE_IDLE : Fld := ⟨0x1B2008 * 8 + 0, 128, 14, 32, .rw, .all 0, false⟩
/-- GL_RAIL_COST_COST (R396). -/
def R.GL_RAIL_COST_COST : Fld := ⟨0x1B200C * 8 + 0, 128, 14, 32, .ro, .all 100000, false⟩
/-- GL_THROTTLE_LEVEL (R397). -/
def R.GL_THROTTLE_LEVEL : Fld := ⟨0x1B3000 * 8 + 24, 32, 64, 8, .ro, .all 0, false⟩
/-- GL_THROTTLE_LOOP (R397). -/
def R.GL_THROTTLE_LOOP : Fld := ⟨0x1B3000 * 8 + 16, 32, 64, 8, .ro, .all 0, false⟩
/-- GL_THROTTLE_SAFE (R397). -/
def R.GL_THROTTLE_SAFE : Fld := ⟨0x1B3000 * 8 + 8, 32, 64, 8, .ro, .all 0, false⟩
/-- GL_THROTTLE_PKG (R397). -/
def R.GL_THROTTLE_PKG : Fld := ⟨0x1B3000 * 8 + 0, 32, 64, 8, .ro, .all 0, false⟩
/-- TWIN_STATUS_ROLE (R428). -/
def R.TWIN_STATUS_ROLE : Fld := ⟨0x1C0000 * 8 + 29, 32, 1, 3, .ro, .all 0, false⟩
/-- TWIN_STATUS_PEER_ROLE (R428). -/
def R.TWIN_STATUS_PEER_ROLE : Fld := ⟨0x1C0000 * 8 + 26, 32, 1, 3, .ro, .all 7, false⟩
/-- TWIN_STATUS_GATE_OWN (R428). -/
def R.TWIN_STATUS_GATE_OWN : Fld := ⟨0x1C0000 * 8 + 25, 32, 1, 1, .ro, .all 0, false⟩
/-- TWIN_STATUS_GATE_PEER (R428). -/
def R.TWIN_STATUS_GATE_PEER : Fld := ⟨0x1C0000 * 8 + 24, 32, 1, 1, .ro, .all 0, false⟩
/-- TWIN_STATUS_PEER_READY (R428). -/
def R.TWIN_STATUS_PEER_READY : Fld := ⟨0x1C0000 * 8 + 23, 32, 1, 1, .ro, .all 0, false⟩
/-- TWIN_STATUS_LINK_UP (R428). -/
def R.TWIN_STATUS_LINK_UP : Fld := ⟨0x1C0000 * 8 + 22, 32, 1, 1, .ro, .all 0, false⟩
/-- TWIN_STATUS_MESH_UP (R428). -/
def R.TWIN_STATUS_MESH_UP : Fld := ⟨0x1C0000 * 8 + 21, 32, 1, 1, .ro, .all 0, false⟩
/-- TWIN_STATUS_TEST_PENDING (R428). -/
def R.TWIN_STATUS_TEST_PENDING : Fld := ⟨0x1C0000 * 8 + 20, 32, 1, 1, .ro, .all 0, false⟩
/-- TWIN_STATUS_VERSION_SKEW (R428). -/
def R.TWIN_STATUS_VERSION_SKEW : Fld := ⟨0x1C0000 * 8 + 19, 32, 1, 1, .ro, .all 0, false⟩
/-- TWIN_STATUS_INSTANCE (R428). -/
def R.TWIN_STATUS_INSTANCE : Fld := ⟨0x1C0000 * 8 + 18, 32, 1, 1, .ro, .all 0, true⟩
/-- TWIN_CMD_SWAP (R428). -/
def R.TWIN_CMD_SWAP : Fld := ⟨0x1C0004 * 8 + 2, 32, 1, 1, .rww, .all 0, false⟩
/-- TWIN_CMD_ATTACH (R428). -/
def R.TWIN_CMD_ATTACH : Fld := ⟨0x1C0004 * 8 + 1, 32, 1, 1, .rww, .all 0, false⟩
/-- TWIN_CMD_DETACH (R428). -/
def R.TWIN_CMD_DETACH : Fld := ⟨0x1C0004 * 8 + 0, 32, 1, 1, .rww, .all 0, false⟩
/-- TWIN_CTRL_AUTO_REJOIN (R428). -/
def R.TWIN_CTRL_AUTO_REJOIN : Fld := ⟨0x1C0008 * 8 + 31, 32, 1, 1, .rww, .all 1, false⟩
/-- TWIN_CTRL_CLEAN_FRAMES (R428). -/
def R.TWIN_CTRL_CLEAN_FRAMES : Fld := ⟨0x1C0008 * 8 + 0, 32, 1, 16, .rww, .all 2048, false⟩
/-- TWIN_CNT_MISMATCHES (R428). -/
def R.TWIN_CNT_MISMATCHES : Fld := ⟨0x1C000C * 8 + 16, 32, 1, 16, .ro, .all 0, false⟩
/-- TWIN_CNT_TAKEOVERS (R428). -/
def R.TWIN_CNT_TAKEOVERS : Fld := ⟨0x1C000C * 8 + 0, 32, 1, 16, .ro, .all 0, false⟩
/-- TWIN_LINK_CRC_ERR (R428). -/
def R.TWIN_LINK_CRC_ERR : Fld := ⟨0x1C0010 * 8 + 16, 32, 1, 16, .ro, .all 0, false⟩
/-- TWIN_LINK_UNCOMPARED (R428). -/
def R.TWIN_LINK_UNCOMPARED : Fld := ⟨0x1C0010 * 8 + 0, 32, 1, 16, .ro, .all 0, false⟩
/-- TWIN_LAST_KIND (R428). -/
def R.TWIN_LAST_KIND : Fld := ⟨0x1C0014 * 8 + 24, 32, 1, 8, .ro, .all 0, false⟩
/-- TWIN_LAST_INDEX (R428). -/
def R.TWIN_LAST_INDEX : Fld := ⟨0x1C0014 * 8 + 0, 32, 1, 16, .ro, .all 0, false⟩
/-- TWIN_SYNC_CLEAN (R428). -/
def R.TWIN_SYNC_CLEAN : Fld := ⟨0x1C0018 * 8 + 16, 32, 1, 16, .ro, .all 0, false⟩
/-- TWIN_SYNC_PD_RESYNC (R428). -/
def R.TWIN_SYNC_PD_RESYNC : Fld := ⟨0x1C0018 * 8 + 8, 32, 1, 8, .ro, .all 0, false⟩
/-- TWIN_SYNC_COPY_PCT (R428). -/
def R.TWIN_SYNC_COPY_PCT : Fld := ⟨0x1C0018 * 8 + 0, 32, 1, 8, .ro, .all 0, false⟩
/-- TWIN_TOL_TOL_V (R428). -/
def R.TWIN_TOL_TOL_V : Fld := ⟨0x1C001C * 8 + 8, 32, 1, 8, .rw, .all 5, false⟩
/-- TWIN_TOL_TOL_I (R428). -/
def R.TWIN_TOL_TOL_I : Fld := ⟨0x1C001C * 8 + 0, 32, 1, 8, .rw, .all 20, false⟩
/-- TWIN_LAST_FRAME_FRAME (R428). -/
def R.TWIN_LAST_FRAME_FRAME : Fld := ⟨0x1C0020 * 8 + 0, 32, 1, 32, .ro, .all 0, false⟩
/-- TWIN_DIGEST_PEER_MAP (R428). -/
def R.TWIN_DIGEST_PEER_MAP : Fld := ⟨0x1C0024 * 8 + 0, 32, 1, 32, .ro, .all 0, false⟩
/-- TWIN_DIFF_SLOT (R429). -/
def R.TWIN_DIFF_SLOT : Fld := ⟨0x1C0040 * 8 + 0, 1, 256, 1, .w1c, .all 0, false⟩
/-- TWIN_INDIFF_CH (R429). -/
def R.TWIN_INDIFF_CH : Fld := ⟨0x1C0080 * 8 + 0, 1, 142, 1, .w1c, .all 0, false⟩
/-- FLT_STATUS_FAULTN (R465). -/
def R.FLT_STATUS_FAULTN : Fld := ⟨0x1D0000 * 8 + 31, 32, 1, 1, .ro, .all 0, true⟩
/-- FLT_STATUS_FATAL_ANY (R465). -/
def R.FLT_STATUS_FATAL_ANY : Fld := ⟨0x1D0000 * 8 + 30, 32, 1, 1, .ro, .all 0, true⟩
/-- FLT_STATUS_SEVERE_ANY (R465). -/
def R.FLT_STATUS_SEVERE_ANY : Fld := ⟨0x1D0000 * 8 + 29, 32, 1, 1, .ro, .all 0, true⟩
/-- FLT_STATUS_FACTORY (R465). -/
def R.FLT_STATUS_FACTORY : Fld := ⟨0x1D0000 * 8 + 28, 32, 1, 1, .ro, .all 0, true⟩
/-- FLT_STATUS_UNCLEARED (R465). -/
def R.FLT_STATUS_UNCLEARED : Fld := ⟨0x1D0000 * 8 + 16, 32, 1, 12, .ro, .all 0, true⟩
/-- FLT_STATUS_QLOST (R465). -/
def R.FLT_STATUS_QLOST : Fld := ⟨0x1D0000 * 8 + 0, 32, 1, 8, .ro, .all 0, false⟩
/-- FLT_CTRL_FN_MIN (R465). -/
def R.FLT_CTRL_FN_MIN : Fld := ⟨0x1D0004 * 8 + 0, 32, 1, 2, .rww, .all 0, false⟩
/-- FLT_REJECT_COUNT (R465). -/
def R.FLT_REJECT_COUNT : Fld := ⟨0x1D0008 * 8 + 0, 32, 1, 32, .ro, .all 0, false⟩
/-- FLT_REJECT_INFO_CAUSE (R465). -/
def R.FLT_REJECT_INFO_CAUSE : Fld := ⟨0x1D000C * 8 + 27, 32, 1, 3, .ro, .all 0, false⟩
/-- FLT_REJECT_INFO_REQ (R465). -/
def R.FLT_REJECT_INFO_REQ : Fld := ⟨0x1D000C * 8 + 24, 32, 1, 3, .ro, .all 0, false⟩
/-- FLT_REJECT_INFO_OFFSET (R465). -/
def R.FLT_REJECT_INFO_OFFSET : Fld := ⟨0x1D000C * 8 + 0, 32, 1, 24, .ro, .all 0, false⟩
/-- FLT_CMD_REJECT_CLR (R465). -/
def R.FLT_CMD_REJECT_CLR : Fld := ⟨0x1D0010 * 8 + 31, 32, 1, 1, .wo, .all 0, false⟩
/-- FLT_CMD_ACTION (R465). -/
def R.FLT_CMD_ACTION : Fld := ⟨0x1D0010 * 8 + 12, 32, 1, 2, .rww, .all 0, false⟩
/-- FLT_CMD_SOURCE (R465). -/
def R.FLT_CMD_SOURCE : Fld := ⟨0x1D0010 * 8 + 0, 32, 1, 12, .rww, .all 0, false⟩
/-- FLT_LAST_STATE (R465). -/
def R.FLT_LAST_STATE : Fld := ⟨0x1D0014 * 8 + 29, 32, 1, 3, .ro, .all 0, false⟩
/-- FLT_LAST_CLASS (R465). -/
def R.FLT_LAST_CLASS : Fld := ⟨0x1D0014 * 8 + 27, 32, 1, 2, .ro, .all 0, false⟩
/-- FLT_LAST_KIND (R465). -/
def R.FLT_LAST_KIND : Fld := ⟨0x1D0014 * 8 + 12, 32, 1, 5, .ro, .all 0, false⟩
/-- FLT_LAST_SOURCE (R465). -/
def R.FLT_LAST_SOURCE : Fld := ⟨0x1D0014 * 8 + 0, 32, 1, 12, .ro, .all 0, false⟩
/-- FLT_LAST_FRAME_FRAME (R465). -/
def R.FLT_LAST_FRAME_FRAME : Fld := ⟨0x1D0018 * 8 + 0, 32, 1, 32, .ro, .all 0, false⟩
/-- FLT_GOLD_BASE_BASE (R465). -/
def R.FLT_GOLD_BASE_BASE : Fld := ⟨0x1D001C * 8 + 12, 32, 1, 8, .rwo, .all 176, false⟩
/-- FLT_INJ_COUNT (R465). -/
def R.FLT_INJ_COUNT : Fld := ⟨0x1D0020 * 8 + 24, 32, 1, 8, .rww, .all 0, false⟩
/-- FLT_INJ_INDEX (R465). -/
def R.FLT_INJ_INDEX : Fld := ⟨0x1D0020 * 8 + 12, 32, 1, 12, .rww, .all 0, false⟩
/-- FLT_INJ_TARGET (R465). -/
def R.FLT_INJ_TARGET : Fld := ⟨0x1D0020 * 8 + 1, 32, 1, 4, .rww, .all 0, false⟩
/-- FLT_INJ_ARM (R465). -/
def R.FLT_INJ_ARM : Fld := ⟨0x1D0020 * 8 + 0, 32, 1, 1, .rww, .all 0, false⟩
/-- FLT_INJ_ADDR_ADDR (R465). -/
def R.FLT_INJ_ADDR_ADDR : Fld := ⟨0x1D0024 * 8 + 2, 32, 1, 18, .rww, .all 0, false⟩
/-- FLT_INJ_STAT_DONE (R465). -/
def R.FLT_INJ_STAT_DONE : Fld := ⟨0x1D0028 * 8 + 0, 32, 1, 8, .ro, .all 0, false⟩
/-- FLT_OPEN_OPEN (R466). -/
def R.FLT_OPEN_OPEN : Fld := ⟨0x1D0100 * 8 + 0, 32, 128, 32, .ro, .all 0, true⟩
/-- FLT_KIND_ESC_N (R467). -/
def R.FLT_KIND_ESC_N : Fld := ⟨0x1D0400 * 8 + 24, 64, 21, 8, .rww, .all 8, false⟩
/-- FLT_KIND_ESC_W (R467). -/
def R.FLT_KIND_ESC_W : Fld := ⟨0x1D0400 * 8 + 0, 64, 21, 16, .rww, .all 1000, false⟩
/-- FLT_KIND_QUIET_RAISED (R467). -/
def R.FLT_KIND_QUIET_RAISED : Fld := ⟨0x1D0404 * 8 + 16, 64, 21, 16, .ro, .all 0, false⟩
/-- FLT_KIND_QUIET_QUIET (R467). -/
def R.FLT_KIND_QUIET_QUIET : Fld := ⟨0x1D0404 * 8 + 0, 64, 21, 16, .rww, .all 4096, false⟩
/-- FLT_SRC_STATE_STATE (R468). -/
def R.FLT_SRC_STATE_STATE : Fld := ⟨0x1D8000 * 8 + 29, 64, 4096, 3, .ro, .all 0, false⟩
/-- FLT_SRC_STATE_CLASS (R468). -/
def R.FLT_SRC_STATE_CLASS : Fld := ⟨0x1D8000 * 8 + 27, 64, 4096, 2, .ro, .all 0, false⟩
/-- FLT_SRC_STATE_VERDICT (R468). -/
def R.FLT_SRC_STATE_VERDICT : Fld := ⟨0x1D8000 * 8 + 25, 64, 4096, 2, .ro, .all 0, false⟩
/-- FLT_SRC_STATE_INJECTED (R468). -/
def R.FLT_SRC_STATE_INJECTED : Fld := ⟨0x1D8000 * 8 + 24, 64, 4096, 1, .ro, .all 0, false⟩
/-- FLT_SRC_STATE_EVENTS (R468). -/
def R.FLT_SRC_STATE_EVENTS : Fld := ⟨0x1D8000 * 8 + 16, 64, 4096, 8, .ro, .all 0, false⟩
/-- FLT_SRC_STATE_QUIET_LEFT (R468). -/
def R.FLT_SRC_STATE_QUIET_LEFT : Fld := ⟨0x1D8000 * 8 + 0, 64, 4096, 16, .ro, .all 0, false⟩
/-- FLT_SRC_COUNT_RECOVERIES (R468). -/
def R.FLT_SRC_COUNT_RECOVERIES : Fld := ⟨0x1D8004 * 8 + 16, 64, 4096, 16, .ro, .all 0, false⟩
/-- FLT_SRC_COUNT_WIN_LEFT (R468). -/
def R.FLT_SRC_COUNT_WIN_LEFT : Fld := ⟨0x1D8004 * 8 + 0, 64, 4096, 16, .ro, .all 0, false⟩
/-- CLK_STATUS_REF (R494). -/
def R.CLK_STATUS_REF : Fld := ⟨0x1E0000 * 8 + 29, 32, 1, 3, .ro, .all 3, false⟩
/-- CLK_STATUS_HOLDOVER (R494). -/
def R.CLK_STATUS_HOLDOVER : Fld := ⟨0x1E0000 * 8 + 28, 32, 1, 1, .ro, .all 0, false⟩
/-- CLK_STATUS_FRC_BAD (R494). -/
def R.CLK_STATUS_FRC_BAD : Fld := ⟨0x1E0000 * 8 + 27, 32, 1, 1, .ro, .all 0, false⟩
/-- CLK_STATUS_SLOW_BAD (R494). -/
def R.CLK_STATUS_SLOW_BAD : Fld := ⟨0x1E0000 * 8 + 26, 32, 1, 1, .ro, .all 0, false⟩
/-- CLK_STATUS_REC_OK (R494). -/
def R.CLK_STATUS_REC_OK : Fld := ⟨0x1E0000 * 8 + 25, 32, 1, 1, .ro, .all 0, false⟩
/-- CLK_STATUS_XB_AMP_OK (R494). -/
def R.CLK_STATUS_XB_AMP_OK : Fld := ⟨0x1E0000 * 8 + 24, 32, 1, 1, .ro, .all 0, false⟩
/-- CLK_STATUS_XA_AMP_OK (R494). -/
def R.CLK_STATUS_XA_AMP_OK : Fld := ⟨0x1E0000 * 8 + 23, 32, 1, 1, .ro, .all 0, false⟩
/-- CLK_STATUS_XB_START_FAIL (R494). -/
def R.CLK_STATUS_XB_START_FAIL : Fld := ⟨0x1E0000 * 8 + 22, 32, 1, 1, .ro, .all 0, false⟩
/-- CLK_STATUS_XA_START_FAIL (R494). -/
def R.CLK_STATUS_XA_START_FAIL : Fld := ⟨0x1E0000 * 8 + 21, 32, 1, 1, .ro, .all 0, false⟩
/-- CLK_STATUS_LOCK (R494). -/
def R.CLK_STATUS_LOCK : Fld := ⟨0x1E0000 * 8 + 12, 1, 4, 1, .ro, .all 0, false⟩
/-- CLK_STATUS_MON_BAD (R494). -/
def R.CLK_STATUS_MON_BAD : Fld := ⟨0x1E0000 * 8 + 6, 1, 6, 1, .ro, .all 0, false⟩
/-- CLK_STATUS_ON_FRC (R494). -/
def R.CLK_STATUS_ON_FRC : Fld := ⟨0x1E0000 * 8 + 0, 1, 6, 1, .ro, .all 1, false⟩
/-- CLK_CTRL_REC_EN (R494). -/
def R.CLK_CTRL_REC_EN : Fld := ⟨0x1E0004 * 8 + 31, 32, 1, 1, .rw, .all 1, false⟩
/-- CLK_CTRL_XB_EN (R494). -/
def R.CLK_CTRL_XB_EN : Fld := ⟨0x1E0004 * 8 + 30, 32, 1, 1, .rw, .all 1, false⟩
/-- CLK_CTRL_XA_EN (R494). -/
def R.CLK_CTRL_XA_EN : Fld := ⟨0x1E0004 * 8 + 29, 32, 1, 1, .rw, .all 1, false⟩
/-- CLK_CTRL_AUTO_RET (R494). -/
def R.CLK_CTRL_AUTO_RET : Fld := ⟨0x1E0004 * 8 + 28, 32, 1, 1, .rw, .all 1, false⟩
/-- CLK_CTRL_RETURN_AUTO (R494). -/
def R.CLK_CTRL_RETURN_AUTO : Fld := ⟨0x1E0004 * 8 + 27, 32, 1, 1, .rw, .all 1, false⟩
/-- CLK_CTRL_RET_MS (R494). -/
def R.CLK_CTRL_RET_MS : Fld := ⟨0x1E0004 * 8 + 16, 32, 1, 8, .rw, .all 10, false⟩
/-- CLK_CTRL_TOL (R494). -/
def R.CLK_CTRL_TOL : Fld := ⟨0x1E0004 * 8 + 0, 32, 1, 8, .rw, .all 5, false⟩
/-- CLK_DIV_BUS_DIV (R494). -/
def R.CLK_DIV_BUS_DIV : Fld := ⟨0x1E0008 * 8 + 2, 32, 1, 2, .rw, .all 0, false⟩
/-- CLK_DIV_HART_DIV (R494). -/
def R.CLK_DIV_HART_DIV : Fld := ⟨0x1E0008 * 8 + 0, 32, 1, 2, .rw, .all 0, false⟩
/-- CLK_LOST_FORCED (R494). -/
def R.CLK_LOST_FORCED : Fld := ⟨0x1E000C * 8 + 31, 32, 1, 1, .ro, .all 0, false⟩
/-- CLK_LOST_DOMAIN (R494). -/
def R.CLK_LOST_DOMAIN : Fld := ⟨0x1E000C * 8 + 28, 32, 1, 3, .ro, .all 7, false⟩
/-- CLK_LOST_COARSE (R494). -/
def R.CLK_LOST_COARSE : Fld := ⟨0x1E000C * 8 + 27, 32, 1, 1, .ro, .all 0, false⟩
/-- CLK_LOST_NS (R494). -/
def R.CLK_LOST_NS : Fld := ⟨0x1E000C * 8 + 0, 32, 1, 27, .ro, .all 0, false⟩
/-- CLK_NMI_FALLBACK (R494). -/
def R.CLK_NMI_FALLBACK : Fld := ⟨0x1E0010 * 8 + 0, 1, 6, 1, .w1c, .all 0, false⟩
/-- CLK_CNT_FALLBACKS (R494). -/
def R.CLK_CNT_FALLBACKS : Fld := ⟨0x1E0014 * 8 + 16, 32, 1, 16, .ro, .all 0, false⟩
/-- CLK_CNT_REF_SWITCHES (R494). -/
def R.CLK_CNT_REF_SWITCHES : Fld := ⟨0x1E0014 * 8 + 0, 32, 1, 16, .ro, .all 0, false⟩
/-- CLK_EN_EN (R494). -/
def R.CLK_EN_EN : Fld := ⟨0x1E0018 * 8 + 0, 32, 1, 11, .rw, .all 0, false⟩
/-- CLK_SWITCH_DOMAIN (R494). -/
def R.CLK_SWITCH_DOMAIN : Fld := ⟨0x1E001C * 8 + 1, 32, 1, 3, .rw, .all 0, false⟩
/-- CLK_SWITCH_GO (R494). -/
def R.CLK_SWITCH_GO : Fld := ⟨0x1E001C * 8 + 0, 32, 1, 1, .rw, .all 0, false⟩
/-- RST_CAUSE_KEEP_PWR (R495). -/
def R.RST_CAUSE_KEEP_PWR : Fld := ⟨0x1E0100 * 8 + 31, 32, 1, 1, .w1c, .all 1, false⟩
/-- RST_CAUSE_POR_PIN (R495). -/
def R.RST_CAUSE_POR_PIN : Fld := ⟨0x1E0100 * 8 + 30, 32, 1, 1, .w1c, .all 0, false⟩
/-- RST_CAUSE_HOLD (R495). -/
def R.RST_CAUSE_HOLD : Fld := ⟨0x1E0100 * 8 + 29, 32, 1, 1, .w1c, .all 0, false⟩
/-- RST_CAUSE_BLOCK_CMD (R495). -/
def R.RST_CAUSE_BLOCK_CMD : Fld := ⟨0x1E0100 * 8 + 28, 32, 1, 1, .w1c, .all 0, false⟩
/-- RST_CAUSE_LE_CMD (R495). -/
def R.RST_CAUSE_LE_CMD : Fld := ⟨0x1E0100 * 8 + 27, 32, 1, 1, .w1c, .all 0, false⟩
/-- RST_CAUSE_TWIN_CMD (R495). -/
def R.RST_CAUSE_TWIN_CMD : Fld := ⟨0x1E0100 * 8 + 26, 32, 1, 1, .w1c, .all 0, false⟩
/-- RST_CAUSE_HART_WDT (R495). -/
def R.RST_CAUSE_HART_WDT : Fld := ⟨0x1E0100 * 8 + 18, 1, 4, 1, .w1c, .all 0, false⟩
/-- RST_CAUSE_HART_CMD (R495). -/
def R.RST_CAUSE_HART_CMD : Fld := ⟨0x1E0100 * 8 + 14, 1, 4, 1, .w1c, .all 0, false⟩
/-- RST_CMD_HART (R495). -/
def R.RST_CMD_HART : Fld := ⟨0x1E0104 * 8 + 4, 1, 4, 1, .rww, .all 0, false⟩
/-- RST_CMD_BLOCK (R495). -/
def R.RST_CMD_BLOCK : Fld := ⟨0x1E0104 * 8 + 2, 32, 1, 1, .rww, .all 0, false⟩
/-- RST_CMD_TWIN (R495). -/
def R.RST_CMD_TWIN : Fld := ⟨0x1E0104 * 8 + 1, 32, 1, 1, .rww, .all 0, false⟩
/-- RST_CMD_LE (R495). -/
def R.RST_CMD_LE : Fld := ⟨0x1E0104 * 8 + 0, 32, 1, 1, .rww, .all 0, false⟩
/-- RST_STAT_HART (R495). -/
def R.RST_STAT_HART : Fld := ⟨0x1E0108 * 8 + 3, 1, 4, 1, .ro, .all 0, false⟩
/-- RST_STAT_BLOCK (R495). -/
def R.RST_STAT_BLOCK : Fld := ⟨0x1E0108 * 8 + 2, 32, 1, 1, .ro, .all 0, false⟩
/-- RST_STAT_TWIN (R495). -/
def R.RST_STAT_TWIN : Fld := ⟨0x1E0108 * 8 + 1, 32, 1, 1, .ro, .all 0, false⟩
/-- RST_STAT_LE (R495). -/
def R.RST_STAT_LE : Fld := ⟨0x1E0108 * 8 + 0, 32, 1, 1, .ro, .all 0, false⟩
/-- FW_HART_STAT_STATE (R614). -/
def R.FW_HART_STAT_STATE : Fld := ⟨0x1F0000 * 8 + 30, 32, 4, 2, .ro, .all 3, false⟩
/-- FW_HART_STAT_LEVEL (R614). -/
def R.FW_HART_STAT_LEVEL : Fld := ⟨0x1F0000 * 8 + 27, 32, 4, 3, .ro, .all 0, false⟩
/-- FW_HART_STAT_LOAD (R614). -/
def R.FW_HART_STAT_LOAD : Fld := ⟨0x1F0000 * 8 + 16, 32, 4, 8, .ro, .all 0, false⟩
/-- FW_HART_STAT_RESTARTS (R614). -/
def R.FW_HART_STAT_RESTARTS : Fld := ⟨0x1F0000 * 8 + 0, 32, 4, 16, .ro, .all 0, false⟩
/-- FW_HART_CTRL_SLEEP_OK (R614). -/
def R.FW_HART_CTRL_SLEEP_OK : Fld := ⟨0x1F0010 * 8 + 2, 32, 4, 1, .rw, .all 0, false⟩
/-- FW_HART_CTRL_SELF_RESET (R614). -/
def R.FW_HART_CTRL_SELF_RESET : Fld := ⟨0x1F0010 * 8 + 1, 32, 4, 1, .wo, .all 0, false⟩
/-- FW_HART_CTRL_KICK (R614). -/
def R.FW_HART_CTRL_KICK : Fld := ⟨0x1F0010 * 8 + 0, 32, 4, 1, .wo, .all 0, false⟩
/-- FW_SHED_SHED_HI (R614). -/
def R.FW_SHED_SHED_HI : Fld := ⟨0x1F0020 * 8 + 8, 32, 1, 8, .rw, .all 90, false⟩
/-- FW_SHED_SHED_LO (R614). -/
def R.FW_SHED_SHED_LO : Fld := ⟨0x1F0020 * 8 + 0, 32, 1, 8, .rw, .all 75, false⟩
/-- HOST_HB_HB (R614). -/
def R.HOST_HB_HB : Fld := ⟨0x1F0024 * 8 + 0, 32, 1, 32, .wo, .all 0, false⟩
/-- HOST_STAT_ATTACHED (R614). -/
def R.HOST_STAT_ATTACHED : Fld := ⟨0x1F0028 * 8 + 31, 32, 1, 1, .ro, .all 0, false⟩
/-- HOST_STAT_UNATTENDED (R614). -/
def R.HOST_STAT_UNATTENDED : Fld := ⟨0x1F0028 * 8 + 30, 32, 1, 1, .ro, .all 1, false⟩
/-- HOST_STAT_EV_LOST (R614). -/
def R.HOST_STAT_EV_LOST : Fld := ⟨0x1F0028 * 8 + 22, 32, 1, 8, .ro, .all 0, false⟩
/-- HOST_STAT_NOTIFY_RING (R614). -/
def R.HOST_STAT_NOTIFY_RING : Fld := ⟨0x1F0028 * 8 + 16, 32, 1, 6, .ro, .all 0, false⟩
/-- HOST_STAT_HB_AGE (R614). -/
def R.HOST_STAT_HB_AGE : Fld := ⟨0x1F0028 * 8 + 0, 32, 1, 16, .ro, .all 65535, false⟩
/-- HOST_IRQ_UNATT (R614). -/
def R.HOST_IRQ_UNATT : Fld := ⟨0x1F002C * 8 + 5, 32, 1, 1, .w1c, .all 0, false⟩
/-- HOST_IRQ_LOG (R614). -/
def R.HOST_IRQ_LOG : Fld := ⟨0x1F002C * 8 + 4, 32, 1, 1, .w1c, .all 0, false⟩
/-- HOST_IRQ_MBOX_ACK (R614). -/
def R.HOST_IRQ_MBOX_ACK : Fld := ⟨0x1F002C * 8 + 3, 32, 1, 1, .w1c, .all 0, false⟩
/-- HOST_IRQ_MBOX (R614). -/
def R.HOST_IRQ_MBOX : Fld := ⟨0x1F002C * 8 + 2, 32, 1, 1, .w1c, .all 0, false⟩
/-- HOST_IRQ_EVENT (R614). -/
def R.HOST_IRQ_EVENT : Fld := ⟨0x1F002C * 8 + 1, 32, 1, 1, .w1c, .all 0, false⟩
/-- HOST_IRQ_CPL (R614). -/
def R.HOST_IRQ_CPL : Fld := ⟨0x1F002C * 8 + 0, 32, 1, 1, .w1c, .all 0, false⟩
/-- HOST_IRQ_MASK_MASK (R614). -/
def R.HOST_IRQ_MASK_MASK : Fld := ⟨0x1F0030 * 8 + 0, 32, 1, 6, .rw, .all 0, false⟩
/-- FW_LOG_WPTR (R614). -/
def R.FW_LOG_WPTR : Fld := ⟨0x1F0040 * 8 + 16, 32, 1, 16, .ro, .all 0, false⟩
/-- FW_LOG_DROPPED (R614). -/
def R.FW_LOG_DROPPED : Fld := ⟨0x1F0040 * 8 + 8, 32, 1, 8, .ro, .all 0, false⟩
/-- FW_LOG_LEVEL_MIN (R614). -/
def R.FW_LOG_LEVEL_MIN : Fld := ⟨0x1F0040 * 8 + 0, 32, 1, 8, .rw, .all 1, false⟩
/-- FW_TRACE_WPTR (R614). -/
def R.FW_TRACE_WPTR : Fld := ⟨0x1F0044 * 8 + 16, 32, 1, 16, .ro, .all 0, false⟩
/-- FW_TRACE_TRACE_SHED (R614). -/
def R.FW_TRACE_TRACE_SHED : Fld := ⟨0x1F0044 * 8 + 0, 32, 1, 16, .ro, .all 0, false⟩
/-- FW_TRACE_EN_EN (R614). -/
def R.FW_TRACE_EN_EN : Fld := ⟨0x1F0050 * 8 + 0, 32, 8, 32, .rw, .all 0, false⟩
/-- RING_CFG_EN (R615). -/
def R.RING_CFG_EN : Fld := ⟨0x1F1000 * 8 + 31, 256, 64, 1, .rw, .all 0, false⟩
/-- RING_CFG_ERR (R615). -/
def R.RING_CFG_ERR : Fld := ⟨0x1F1000 * 8 + 30, 256, 64, 1, .ro, .all 0, false⟩
/-- RING_CFG_CMD_LOG2 (R615). -/
def R.RING_CFG_CMD_LOG2 : Fld := ⟨0x1F1000 * 8 + 24, 256, 64, 4, .rw, .upTo 1 4 0, false⟩
/-- RING_CFG_CPL_LOG2 (R615). -/
def R.RING_CFG_CPL_LOG2 : Fld := ⟨0x1F1000 * 8 + 20, 256, 64, 4, .rw, .upTo 1 4 0, false⟩
/-- RING_CMD_BASE_BASE (R615). -/
def R.RING_CMD_BASE_BASE : Fld := ⟨0x1F1004 * 8 + 8, 256, 64, 12, .rw, .upTo 1 2032 0, false⟩
/-- RING_CPL_BASE_BASE (R615). -/
def R.RING_CPL_BASE_BASE : Fld := ⟨0x1F1008 * 8 + 4, 256, 64, 16, .rw, .upTo 1 32576 0, false⟩
/-- RING_DATA_PAGES (R615). -/
def R.RING_DATA_PAGES : Fld := ⟨0x1F100C * 8 + 20, 256, 64, 8, .rw, .upTo 1 16 0, false⟩
/-- RING_DATA_BASE (R615). -/
def R.RING_DATA_BASE : Fld := ⟨0x1F100C * 8 + 12, 256, 64, 8, .rw, .upTo 1 96 0, false⟩
/-- RING_DB_CMD_TAIL (R615). -/
def R.RING_DB_CMD_TAIL : Fld := ⟨0x1F1010 * 8 + 16, 256, 64, 16, .rw, .all 0, false⟩
/-- RING_DB_CPL_HEAD (R615). -/
def R.RING_DB_CPL_HEAD : Fld := ⟨0x1F1010 * 8 + 0, 256, 64, 16, .rw, .all 0, false⟩
/-- RING_POS_CPL_TAIL (R615). -/
def R.RING_POS_CPL_TAIL : Fld := ⟨0x1F1014 * 8 + 16, 256, 64, 16, .ro, .all 0, false⟩
/-- RING_POS_CMD_HEAD (R615). -/
def R.RING_POS_CMD_HEAD : Fld := ⟨0x1F1014 * 8 + 0, 256, 64, 16, .ro, .all 0, false⟩
/-- MBOX_DATA0_DATA (R616). -/
def R.MBOX_DATA0_DATA : Fld := ⟨0x1F2000 * 8 + 0, 256, 16, 32, .rw, .all 0, false⟩
/-- MBOX_DATA1_DATA (R616). -/
def R.MBOX_DATA1_DATA : Fld := ⟨0x1F2004 * 8 + 0, 256, 16, 32, .rw, .all 0, false⟩
/-- MBOX_DATA2_DATA (R616). -/
def R.MBOX_DATA2_DATA : Fld := ⟨0x1F2008 * 8 + 0, 256, 16, 32, .rw, .all 0, false⟩
/-- MBOX_DATA3_DATA (R616). -/
def R.MBOX_DATA3_DATA : Fld := ⟨0x1F200C * 8 + 0, 256, 16, 32, .rw, .all 0, false⟩
/-- MBOX_DOORBELL_CMD (R616). -/
def R.MBOX_DOORBELL_CMD : Fld := ⟨0x1F2010 * 8 + 24, 256, 16, 8, .rw, .all 0, false⟩
/-- MBOX_DOORBELL_CANCEL (R616). -/
def R.MBOX_DOORBELL_CANCEL : Fld := ⟨0x1F2010 * 8 + 0, 256, 16, 1, .wo, .all 0, false⟩
/-- MBOX_ACK_CODE (R616). -/
def R.MBOX_ACK_CODE : Fld := ⟨0x1F2014 * 8 + 24, 256, 16, 8, .rw, .all 0, false⟩
/-- MBOX_ACK_RESULT (R616). -/
def R.MBOX_ACK_RESULT : Fld := ⟨0x1F2014 * 8 + 0, 256, 16, 24, .rw, .all 0, false⟩
/-- MBOX_CTRL_RECEIVER (R616). -/
def R.MBOX_CTRL_RECEIVER : Fld := ⟨0x1F2018 * 8 + 20, 256, 16, 3, .rw, .all 0, false⟩
/-- MBOX_CTRL_SENDER (R616). -/
def R.MBOX_CTRL_SENDER : Fld := ⟨0x1F2018 * 8 + 16, 256, 16, 3, .rw, .all 0, false⟩
/-- MBOX_CTRL_TIMEOUT (R616). -/
def R.MBOX_CTRL_TIMEOUT : Fld := ⟨0x1F2018 * 8 + 0, 256, 16, 8, .rw, .all 10, false⟩
/-- MBOX_STAT_PENDING (R616). -/
def R.MBOX_STAT_PENDING : Fld := ⟨0x1F201C * 8 + 31, 256, 16, 1, .ro, .all 0, false⟩
/-- MBOX_STAT_ACKED (R616). -/
def R.MBOX_STAT_ACKED : Fld := ⟨0x1F201C * 8 + 30, 256, 16, 1, .w1c, .all 0, false⟩
/-- MBOX_STAT_TIMED_OUT (R616). -/
def R.MBOX_STAT_TIMED_OUT : Fld := ⟨0x1F201C * 8 + 29, 256, 16, 1, .w1c, .all 0, false⟩
/-- MBOX_STAT_REJECTS (R616). -/
def R.MBOX_STAT_REJECTS : Fld := ⟨0x1F201C * 8 + 0, 256, 16, 8, .ro, .all 0, false⟩
/-- TALLY_STAT_RESTORED (R637). -/
def R.TALLY_STAT_RESTORED : Fld := ⟨0x200000 * 8 + 31, 32, 1, 1, .ro, .all 0, false⟩
/-- TALLY_STAT_FLUSHING (R637). -/
def R.TALLY_STAT_FLUSHING : Fld := ⟨0x200000 * 8 + 30, 32, 1, 1, .ro, .all 0, false⟩
/-- TALLY_STAT_MIRROR_ERR (R637). -/
def R.TALLY_STAT_MIRROR_ERR : Fld := ⟨0x200000 * 8 + 29, 32, 1, 1, .w1c, .all 0, false⟩
/-- TALLY_STAT_NO_MIRROR (R637). -/
def R.TALLY_STAT_NO_MIRROR : Fld := ⟨0x200000 * 8 + 28, 32, 1, 1, .ro, .all 0, false⟩
/-- TALLY_STAT_FILL (R637). -/
def R.TALLY_STAT_FILL : Fld := ⟨0x200000 * 8 + 0, 32, 1, 13, .ro, .all 0, true⟩
/-- TALLY_SECONDS_SECONDS (R637). -/
def R.TALLY_SECONDS_SECONDS : Fld := ⟨0x200004 * 8 + 0, 32, 1, 40, .ro, .all 0, false⟩
/-- TALLY_CYCLES_CYCLES (R637). -/
def R.TALLY_CYCLES_CYCLES : Fld := ⟨0x20000C * 8 + 0, 32, 1, 32, .ro, .all 0, false⟩
/-- TALLY_DROPPED_DROPPED (R637). -/
def R.TALLY_DROPPED_DROPPED : Fld := ⟨0x200010 * 8 + 0, 32, 1, 32, .ro, .all 0, false⟩
/-- TALLY_SEQ_NEXT_SEQ (R637). -/
def R.TALLY_SEQ_NEXT_SEQ : Fld := ⟨0x200014 * 8 + 0, 32, 1, 32, .ro, .all 0, false⟩
/-- TALLY_CTRL_FLUSH (R637). -/
def R.TALLY_CTRL_FLUSH : Fld := ⟨0x200018 * 8 + 0, 32, 1, 1, .wo, .all 0, false⟩
/-- TALLY_MIRROR_GEN (R637). -/
def R.TALLY_MIRROR_GEN : Fld := ⟨0x20001C * 8 + 7, 32, 1, 25, .ro, .all 0, false⟩
/-- TALLY_MIRROR_SLOT (R637). -/
def R.TALLY_MIRROR_SLOT : Fld := ⟨0x20001C * 8 + 0, 32, 1, 7, .ro, .all 127, false⟩
/-- TALLY_SUB_DATA_DATA (R637). -/
def R.TALLY_SUB_DATA_DATA : Fld := ⟨0x200020 * 8 + 0, 32, 2, 32, .rw, .all 0, false⟩
/-- TALLY_SUBMIT_CODE (R637). -/
def R.TALLY_SUBMIT_CODE : Fld := ⟨0x200028 * 8 + 16, 32, 1, 16, .wo, .all 0, false⟩
/-- TALLY_SUBMIT_SEVERITY (R637). -/
def R.TALLY_SUBMIT_SEVERITY : Fld := ⟨0x200028 * 8 + 6, 32, 1, 2, .wo, .all 0, false⟩
/-- TALLY_SUBMIT_CHANNEL (R637). -/
def R.TALLY_SUBMIT_CHANNEL : Fld := ⟨0x200028 * 8 + 0, 32, 1, 5, .wo, .all 0, false⟩
/-- PLAT_PINS_POR_N (R652). -/
def R.PLAT_PINS_POR_N : Fld := ⟨0x210000 * 8 + 31, 32, 1, 1, .ro, .all 0, true⟩
/-- PLAT_PINS_HOLD_N (R652). -/
def R.PLAT_PINS_HOLD_N : Fld := ⟨0x210000 * 8 + 30, 32, 1, 1, .ro, .all 0, true⟩
/-- PLAT_PINS_THERMTRIP_N (R652). -/
def R.PLAT_PINS_THERMTRIP_N : Fld := ⟨0x210000 * 8 + 29, 32, 1, 1, .ro, .all 0, true⟩
/-- PLAT_PINS_FAULT_N (R652). -/
def R.PLAT_PINS_FAULT_N : Fld := ⟨0x210000 * 8 + 28, 32, 1, 1, .ro, .all 0, true⟩
/-- PLAT_PINS_GATE (R652). -/
def R.PLAT_PINS_GATE : Fld := ⟨0x210000 * 8 + 27, 32, 1, 1, .ro, .all 0, true⟩
/-- PLAT_PINS_GATE_PEER (R652). -/
def R.PLAT_PINS_GATE_PEER : Fld := ⟨0x210000 * 8 + 26, 32, 1, 1, .ro, .all 0, true⟩
/-- PLAT_PINS_PMB_MASTER (R652). -/
def R.PLAT_PINS_PMB_MASTER : Fld := ⟨0x210000 * 8 + 25, 32, 1, 1, .ro, .all 0, true⟩
/-- PLAT_PMB_SPEED (R652). -/
def R.PLAT_PMB_SPEED : Fld := ⟨0x210004 * 8 + 30, 32, 2, 2, .rwo, .all 1, false⟩
/-- PLAT_PMB_POLL (R652). -/
def R.PLAT_PMB_POLL : Fld := ⟨0x210004 * 8 + 29, 32, 2, 1, .rwo, .all 0, false⟩
/-- PLAT_PMB_ALERT_UNK (R652). -/
def R.PLAT_PMB_ALERT_UNK : Fld := ⟨0x210004 * 8 + 16, 32, 2, 8, .ro, .all 0, false⟩
/-- PLAT_PMB_CYCLE_US (R652). -/
def R.PLAT_PMB_CYCLE_US : Fld := ⟨0x210004 * 8 + 0, 32, 2, 16, .ro, .all 0, false⟩
/-- PLAT_MCTP_STATIC (R652). -/
def R.PLAT_MCTP_STATIC : Fld := ⟨0x21000C * 8 + 24, 32, 1, 8, .ro, .all 0, true⟩
/-- PLAT_MCTP_DYN (R652). -/
def R.PLAT_MCTP_DYN : Fld := ⟨0x21000C * 8 + 16, 32, 1, 8, .ro, .all 0, false⟩
/-- PLAT_MCTP_EID (R652). -/
def R.PLAT_MCTP_EID : Fld := ⟨0x21000C * 8 + 8, 32, 1, 8, .ro, .all 0, false⟩
/-- PLAT_MCTP_MCTP_DROP (R652). -/
def R.PLAT_MCTP_MCTP_DROP : Fld := ⟨0x21000C * 8 + 0, 32, 1, 8, .ro, .all 0, false⟩
/-- PLAT_SUP_CFG_EN (R653). -/
def R.PLAT_SUP_CFG_EN : Fld := ⟨0x210100 * 8 + 31, 128, 16, 1, .rwo, .all 0, false⟩
/-- PLAT_SUP_CFG_PEC (R653). -/
def R.PLAT_SUP_CFG_PEC : Fld := ⟨0x210100 * 8 + 30, 128, 16, 1, .rwo, .all 1, false⟩
/-- PLAT_SUP_CFG_PORT (R653). -/
def R.PLAT_SUP_CFG_PORT : Fld := ⟨0x210100 * 8 + 29, 128, 16, 1, .rwo, .all 0, false⟩
/-- PLAT_SUP_CFG_FMT_ERR (R653). -/
def R.PLAT_SUP_CFG_FMT_ERR : Fld := ⟨0x210100 * 8 + 28, 128, 16, 1, .ro, .all 0, false⟩
/-- PLAT_SUP_CFG_KIND (R653). -/
def R.PLAT_SUP_CFG_KIND : Fld := ⟨0x210100 * 8 + 24, 128, 16, 4, .rwo, .all 3, false⟩
/-- PLAT_SUP_CFG_STACK (R653). -/
def R.PLAT_SUP_CFG_STACK : Fld := ⟨0x210100 * 8 + 20, 128, 16, 4, .rwo, .all 0, false⟩
/-- PLAT_SUP_CFG_PAGE (R653). -/
def R.PLAT_SUP_CFG_PAGE : Fld := ⟨0x210100 * 8 + 8, 128, 16, 8, .rwo, .all 255, false⟩
/-- PLAT_SUP_CFG_VI (R653). -/
def R.PLAT_SUP_CFG_VI : Fld := ⟨0x210100 * 8 + 7, 128, 16, 1, .rwo, .all 0, false⟩
/-- PLAT_SUP_CFG_ADDR (R653). -/
def R.PLAT_SUP_CFG_ADDR : Fld := ⟨0x210100 * 8 + 0, 128, 16, 7, .rwo, .all 0, false⟩
/-- PLAT_SUP_LIMIT_POUT_MAX (R653). -/
def R.PLAT_SUP_LIMIT_POUT_MAX : Fld := ⟨0x210104 * 8 + 16, 128, 16, 16, .rwo, .all 65535, false⟩
/-- PLAT_SUP_LIMIT_SW_MASK (R653). -/
def R.PLAT_SUP_LIMIT_SW_MASK : Fld := ⟨0x210104 * 8 + 0, 128, 16, 16, .rwo, .all 2108, false⟩
/-- PLAT_SUP_READ_POUT (R653). -/
def R.PLAT_SUP_READ_POUT : Fld := ⟨0x210108 * 8 + 16, 128, 16, 16, .ro, .all 0, false⟩
/-- PLAT_SUP_READ_VOUT (R653). -/
def R.PLAT_SUP_READ_VOUT : Fld := ⟨0x210108 * 8 + 0, 128, 16, 16, .ro, .all 0, false⟩
/-- PLAT_SUP_STAT_STALE (R653). -/
def R.PLAT_SUP_STAT_STALE : Fld := ⟨0x21010C * 8 + 31, 128, 16, 1, .ro, .all 0, false⟩
/-- PLAT_SUP_STAT_ALERT (R653). -/
def R.PLAT_SUP_STAT_ALERT : Fld := ⟨0x21010C * 8 + 30, 128, 16, 1, .w1c, .all 0, false⟩
/-- PLAT_SUP_STAT_AGE (R653). -/
def R.PLAT_SUP_STAT_AGE : Fld := ⟨0x21010C * 8 + 16, 128, 16, 14, .ro, .all 16383, false⟩
/-- PLAT_SUP_STAT_STATUS_WORD (R653). -/
def R.PLAT_SUP_STAT_STATUS_WORD : Fld := ⟨0x21010C * 8 + 0, 128, 16, 16, .ro, .all 0, false⟩

/-- The fields of one block of the window. -/
def fieldsOf_top : List Fld :=
  [R.ID_FAMILY, R.ID_CONFIG, R.RUN_EN, R.RUN_RELOAD, R.RUN_STATE, R.RUN_LIVE, R.RUN_KEEP_PROFILE, R.RUN_SRC] ++
  [R.RUN_RING, R.RUN_COMMIT, R.STATUS_READY, R.STATUS_RUNNING, R.STATUS_SAFE_GOV, R.STATUS_RAIL_DOWN, R.REFUSE_CODE, R.REFUSE_WHERE] ++
  [R.BOOT_STEP, R.BOOT_ERR, R.BOOT_BLOCK_START, R.BOOT_FROM_RING, R.BOOT_ROWS_RETIRED, R.BOOT_GROUP, R.BOOT_TIME_READY_T, R.BOOT_TIME_STEP_T] ++
  [R.ID_INFO_STEP_MAJOR, R.ID_INFO_STEP_MINOR, R.ID_INFO_INSTANCE, R.ID_INFO_PACKAGE, R.FRAME_COUNT, R.FRAME_STAT_DEFER_CNT, R.FRAME_STAT_LANE_LOAD, R.PROFILE_PENDING] ++
  [R.PROFILE_REQ_ERR, R.PROFILE_REQ, R.PROFILE_IN_FORCE, R.PROFILE_REFUSE_PROF, R.PROFILE_PREP_FRAMES, R.CAP_BMC_CAP_LOW, R.CAP_BMC_CAP, R.WARDEN_OPEN] ++
  [R.WARDEN_REMAIN, R.FW_IMAGE_REASON, R.FW_IMAGE_VERIFIED, R.FW_IMAGE_KEY_SLOT, R.FW_VERSION_VERSION, R.STORE_STAT_CE, R.STORE_STAT_UE, R.STORE_STAT_RETIRED] ++
  [R.STORE_BUSY_HART, R.STORE_BUSY_HOST, R.STORE_RET_RET, R.STORE_UE_VALID, R.STORE_UE_ADDR, R.STORE_AMO_ADDR_UE, R.STORE_AMO_ADDR_ADDR, R.STORE_AMO_ADDR_OP] ++
  [R.STORE_AMO_DATA_DATA, R.FIFO_STAT_OVERRUN, R.FIFO_STAT_DROPPED, R.FIFO_STAT_PAR_ERR, R.FIFO_STAT_PACKETS, R.FIFO_STAT_LEVEL, R.FIFO_CTRL_SW_CONSUME, R.FIFO_WM_HIT] ++
  [R.FIFO_WM_ACK, R.FIFO_WM_PEAK, R.FIFO_WM_CROSSINGS, R.FIFO_WM_WM, R.FIFO_POP_PAYLOAD, R.FIFO_LAST_POISON, R.FIFO_LAST_END, R.FIFO_LAST_ID]

/-- The fields of one block of the window. -/
def fieldsOf_le : List Fld :=
  [R.LE_STATUS_RUNNING, R.LE_STATUS_PROFILE, R.LE_STATUS_LAST_END, R.LE_STATUS_DUE, R.LE_CAP_PAGE_PAGE, R.LE_FLAG_SUM_FLAGGED, R.LE_PLAUS_SUM_HELD, R.LE_PKG_SUSTAINED_SUSTAINED] ++
  [R.LE_PKG_EXCURSION_EXCURSION, R.LE_PKG_LIMITS_GAP_FRAMES, R.LE_PKG_LIMITS_EXC_FRAMES, R.LE_PKG_KEEP_EST_KEEP_EST, R.LE_PKG_HBM_EST_HBM_EST, R.LE_PKG_POWER_POWER, R.LE_PKG_MEAN_MEAN, R.LE_PKG_RUN_GAP] ++
  [R.LE_PKG_RUN_RUN, R.LE_FOLD_POWER_POWER, R.LE_FOLD_FLOOR_FLOOR, R.LE_FOLD_HOSTCAP_HOSTCAP, R.LE_FOLD_EFFECTIVE_EFFECTIVE, R.LE_SLOT_MODE_PRESETS, R.LE_SLOT_MODE_PLAUS_HOLD, R.LE_SLOT_MODE_MODE] ++
  [R.LE_SLOT_MODE_MODE_REQ, R.LE_SLOT_MANUAL_MANUAL, R.LE_SLOT_OUT_CALC, R.LE_SLOT_OUT_OUT, R.LE_SLOT_FLAGS_CLIP_LO, R.LE_SLOT_FLAGS_CLIP_HI, R.LE_SLOT_FLAGS_SLEWING, R.LE_SLOT_FLAGS_PLAUS] ++
  [R.LE_SLOT_FLAGS_LUT_CLAMP, R.LE_SLOT_FLAGS_EXP_OVF, R.LE_SLOT_FLAGS_SAT_N, R.LE_SLOT_FLAGS_SAT_P, R.LE_SLOT_INTEG_INTEG, R.LE_SLOT_CFG_NEAR, R.LE_SLOT_CFG_START, R.LE_SLOT_CFG_OFFSET] ++
  [R.LE_SLOT_CFG_DIV, R.LE_SLOT_OUTSEL_OUT_KIND, R.LE_SLOT_OUTSEL_OUT_INDEX, R.LE_SLOT_PROG_STAGE_COUNT, R.LE_SLOT_PROG_STAGE_BASE, R.LE_SLOT_SLEW_SLEW, R.LE_SLOT_INJ_PERIOD, R.LE_SLOT_INJ_POINT] ++
  [R.LE_SLOT_INJ_SHAPE, R.LE_SLOT_INJ_EN, R.LE_SLOT_INJ_AMPL_AMPL, R.LE_SLOT_CAP_PRE, R.LE_SLOT_CAP_TRIG, R.LE_SLOT_CAP_STAGE, R.LE_SLOT_CAP_SRC, R.LE_SLOT_CAP_ARM] ++
  [R.LE_SLOT_CAP_STAT_TRIGGERED, R.LE_SLOT_CAP_STAT_DONE, R.LE_SLOT_CAP_STAT_TRIG_IDX, R.LE_SLOT_CAP_STAT_FULL, R.LE_SLOT_CAP_STAT_WPTR, R.LE_SLOT_PLAUS_RUN_CNT, R.LE_SLOT_PLAUS_RESID, R.LE_STAGE_OP] ++
  [R.LE_STAGE_EXP, R.LE_STAGE_A, R.LE_STAGE_B, R.LE_STAGE_KM, R.LE_STAGE_KEXP]

/-- The fields of one block of the window. -/
def fieldsOf_lut : List Fld :=
  [R.LE_LUT_EXP, R.LE_LUT_X, R.LE_LUT_G]

/-- The fields of one block of the window. -/
def fieldsOf_pd : List Fld :=
  [R.PD_STATUS_UNDRIVEN, R.PD_STATUS_DRIVING, R.PD_STATUS_RAIL_ON, R.PD_FENCED_FENCED, R.PD_DERATED_DERATED, R.PD_RAIL_CFG_ENABLE, R.PD_RAIL_CFG_SENSE_CH, R.PD_RAIL_CFG_COUNT] ++
  [R.PD_RAIL_CFG_MIN_ACTIVE, R.PD_RAIL_CFG_FSW, R.PD_RAIL_MASK_MASK, R.PD_RAIL_STAT_OFF_LATCH, R.PD_RAIL_STAT_SAFE_LATCH, R.PD_RAIL_STAT_OVERLOAD, R.PD_RAIL_STAT_TRUNCATING, R.PD_RAIL_STAT_SKIPPING] ++
  [R.PD_RAIL_STAT_RAMPING, R.PD_RAIL_STAT_SHED_DEFER, R.PD_RAIL_STAT_PULSING, R.PD_RAIL_STAT_FENCED, R.PD_RAIL_STAT_DERATED, R.PD_RAIL_STAT_SELECT, R.PD_RAIL_VREF_TARGET, R.PD_RAIL_VREF_VREF] ++
  [R.PD_RAIL_LIMITS_TRUNC, R.PD_RAIL_LIMITS_SC, R.PD_RAIL_CONT_CONT_EFF, R.PD_RAIL_CONT_CONT, R.PD_RAIL_OVERLOAD_MEAN, R.PD_RAIL_OVERLOAD_OVERLOAD, R.PD_RAIL_CUT_C_SAFE, R.PD_RAIL_CUT_C_OVERLOAD] ++
  [R.PD_RAIL_CUT_C_DERATED, R.PD_RAIL_CUT_C_FENCED, R.PD_RAIL_CUT_CUT, R.PD_RAIL_COMP0_KPS, R.PD_RAIL_COMP0_KPM, R.PD_RAIL_COMP0_KIS, R.PD_RAIL_COMP0_KIM, R.PD_RAIL_COMP1_KDS] ++
  [R.PD_RAIL_COMP1_KDM, R.PD_RAIL_COMP1_RLL, R.PD_RAIL_COMP2_DMAX, R.PD_RAIL_COMP2_SHARE_MAX, R.PD_RAIL_SHED_DWELL, R.PD_RAIL_SHED_ADD_CUR, R.PD_RAIL_SHED_SHED_CUR, R.PD_RAIL_HEALTH_SAFE_THR] ++
  [R.PD_RAIL_HEALTH_JUDGE, R.PD_RAIL_HEALTH_DEV, R.PD_RAIL_HEALTH_MIN_MEAN, R.PD_RAIL_SKIP_SKIP_FRAMES, R.PD_RAIL_SKIP_SKIP_CUR, R.PD_RAIL_CMD_RESTART, R.PD_RAIL_CMD_CLEAR_SAFE, R.PD_SETPOINT_CODE] ++
  [R.PD_PH_STAT_STATE, R.PD_PH_STAT_DERATED, R.PD_PH_STAT_SENSE_OK, R.PD_PH_STAT_CAUSE, R.PD_PH_STAT_RAIL, R.PD_PH_STAT_SC_FRAME, R.PD_PH_STAT_RANK, R.PD_PH_CURRENT_USED] ++
  [R.PD_PH_CURRENT_MEAS, R.PD_PH_DUTY_DUTY, R.PD_PH_DUTY_SHARE, R.PD_PH_CTRL_SC_TOTAL, R.PD_PH_CTRL_FENCE]

/-- The fields of one block of the window. -/
def fieldsOf_crook : List Fld :=
  [R.CROOK_STATUS_SYNCED, R.CROOK_STATUS_ORPHANS, R.CROOK_STATUS_STRETCHING, R.CROOK_CTRL_STUCK_FRAMES, R.CROOK_CTRL_MIN_HOLD, R.CROOK_LATE_LATE, R.CROOK_TEST_BUSY, R.CROOK_TEST_CELL] ++
  [R.CROOK_FOLD_CFG_MAX_STRETCH, R.CROOK_FOLD_CFG_HYST, R.CROOK_FOLD_CFG_THRESH, R.CROOK_FOLD_SUM_TRIPS, R.CROOK_FOLD_SUM_EDGES, R.CROOK_FOLD_TOTAL_TOTAL, R.CROOK_FOLD_THR_FALLBACK, R.CROOK_FOLD_THR_CODE] ++
  [R.CROOK_RAIL_CFG_STEP_ADD, R.CROOK_RAIL_CFG_STEP_V, R.CROOK_RAIL_STAT_ABORTS, R.CROOK_RAIL_STAT_ALARM, R.CROOK_CELL_ENABLE, R.CROOK_CELL_PRESENT, R.CROOK_CELL_STUCK, R.CROOK_CELL_ORPHAN] ++
  [R.CROOK_CELL_STRETCHING, R.CROOK_CELL_TRIPS]

/-- The fields of one block of the window. -/
def fieldsOf_bw : List Fld :=
  [R.BW_STATUS_RUNNING, R.BW_STATUS_WEIGHT_ERR, R.BW_STATUS_NET_VALID, R.BW_STATUS_CYCLES, R.BW_CLEAR_RAILS, R.BW_CLEAR_FOLDS, R.BW_NETMAP_NET, R.BW_LAYER_WBASE] ++
  [R.BW_LAYER_EXP, R.BW_LAYER_BBASE, R.BW_LAYER_OUT, R.BW_LAYER_IN, R.BW_WEIGHT_BYTE, R.BW_FOLD_STAT_VALID, R.BW_FOLD_STAT_ENTRIES, R.BW_FOLD_STAT_LAST_SEQ] ++
  [R.BW_FOLD_FCAST0_H2, R.BW_FOLD_FCAST0_H1, R.BW_FOLD_FCAST1_H4, R.BW_FOLD_FCAST1_H3, R.BW_FOLD_FCAST2_H6, R.BW_FOLD_FCAST2_H5, R.BW_FOLD_FCAST3_H8, R.BW_FOLD_FCAST3_H7] ++
  [R.BW_FOLD_CNT0_LATE, R.BW_FOLD_CNT0_STALE, R.BW_FOLD_CNT0_GAP, R.BW_FOLD_CNT0_BAD, R.BW_FOLD_CNT1_NOMAP, R.BW_FOLD_CNT1_DUP_TAG, R.BW_FOLD_CNT1_FAR, R.BW_FOLD_CNT1_DROP] ++
  [R.BW_RAIL_FCAST_MAX, R.BW_RAIL_FCAST_NOW, R.BW_RAIL_CTRL_RISE_MIN, R.BW_RAIL_CTRL_MISS_MIN, R.BW_RAIL_CTRL_MET_PCT, R.BW_RAIL_CTRL_EA_H, R.BW_RAIL_STAT_MISSES, R.BW_RAIL_STAT_DEFER] ++
  [R.BW_RAIL_STAT_EA_LAST, R.BW_BIAS_BIAS]

/-- The fields of one block of the window. -/
def fieldsOf_bww : List Fld :=
  [R.BW_WMEM_W]

/-- The fields of one block of the window. -/
def fieldsOf_th : List Fld :=
  [R.TH_STATUS_RUNNING, R.TH_STATUS_TRIPPED, R.TH_STATUS_NEAR_CNT, R.TH_STATUS_BLIND_CNT, R.TH_STATUS_CLAMP_CNT, R.TH_CTRL_BLIND_ADD, R.TH_CTRL_XCHK_DEV, R.TH_LIMITS_HOT_CLAMP] ++
  [R.TH_LIMITS_TILE_FENCE_T, R.TH_TRIP_LATCHED, R.TH_TRIP_NET_LOW, R.TH_TRIP_DIODE, R.TH_TRIP_TEMP, R.TH_FENCE_REQ, R.TH_FENCED_FENCED, R.TH_STILE_PARKED] ++
  [R.TH_ROUTE_IN_USE, R.TH_BAND_CFG_KIND, R.TH_BAND_CFG_SOURCE, R.TH_BAND_CFG_HYST, R.TH_BAND_STAT_STALE, R.TH_BAND_STAT_BAND, R.TH_BAND_STAT_TEMP, R.TH_OPT_HEATER_HEATER] ++
  [R.TH_OPT_LASER_LASER, R.TH_OPT_STAT_OVER, R.TH_OPT_STAT_LOCKED, R.TH_OPT_STAT_FF, R.TH_OPT_DRAW_HEATER_RPT, R.TH_OPT_DRAW_LASER_RPT, R.TH_PAD_TEMP_DIODE_T, R.TH_PAD_TEMP_TEMP] ++
  [R.TH_PAD_STAT_NEAR, R.TH_PAD_STAT_BLIND, R.TH_PAD_STAT_CLAMP, R.TH_PAD_STAT_DIODE_FAIL, R.TH_PAD_STAT_SUSPECT, R.TH_PAD_STAT_FAILED, R.TH_PAD_STAT_EXCLUDED, R.TH_PAD_HURDLE_LEVEL] ++
  [R.TH_PAD_HURDLE_RATE, R.TH_PAD_CFG_FOLD, R.TH_PAD_CFG_DIODE, R.TH_PAD_CFG_NEAR, R.TH_PAD_CFG_HYST, R.TH_PAD_CFG_SITES, R.TH_PAD_CNT_LATE_SWEEP, R.TH_PAD_CNT_LATE_READ] ++
  [R.TH_DIODE_OWN, R.TH_DIODE_PRESENT, R.TH_DIODE_FAILED, R.TH_DIODE_ABOVE, R.TH_DIODE_READING, R.TH_SITE_STATE, R.TH_SITE_SUBST, R.TH_SITE_PADDOCK] ++
  [R.TH_SITE_READING]

/-- The fields of one block of the window. -/
def fieldsOf_gl : List Fld :=
  [R.GL_STATUS_ROUNDS, R.GL_STATUS_UNATTENDED, R.GL_STATUS_FLAT_ALL, R.GL_STATUS_READY, R.GL_STATUS_OPEN, R.GL_STATUS_CLOSING_V, R.GL_STATUS_CLOSING, R.GL_EPOCH_EPOCH] ++
  [R.GL_CTRL_GRANT_PERIOD, R.GL_CTRL_RESERVE_PCT, R.GL_HEFT_LEARN, R.GL_HEFT_HEFT_UNIT, R.GL_MESH_RETRY_MAX, R.GL_MESH_RETRY_GAP, R.GL_MESH_STAT_RETRIES, R.GL_MESH_STAT_FAILED] ++
  [R.GL_BASE_BASE, R.GL_BANK_STAT_STATE, R.GL_BANK_STAT_INEXACT, R.GL_BANK_STAT_LATE, R.GL_BANK_STAT_MERGED, R.GL_BANK_STAT_RELEASE, R.GL_BANK_FIRST_FIRST, R.GL_BANK_FRAMES_FRAMES] ++
  [R.GL_DISP_SENT_SENT, R.GL_DISP_ACK_ACK_SEQ, R.GL_DISP_EPOCH_ACK_EPOCH, R.GL_DISP_STAT_STATUS, R.GL_DISP_STAT_ROUND_FAIL, R.GL_DISP_STAT_NOBUF, R.GL_RAIL_ENERGY_ENERGY, R.GL_RAIL_IDLE_IDLE] ++
  [R.GL_RAIL_COST_COST, R.GL_THROTTLE_LEVEL, R.GL_THROTTLE_LOOP, R.GL_THROTTLE_SAFE, R.GL_THROTTLE_PKG]

/-- The fields of one block of the window. -/
def fieldsOf_twin : List Fld :=
  [R.TWIN_STATUS_ROLE, R.TWIN_STATUS_PEER_ROLE, R.TWIN_STATUS_GATE_OWN, R.TWIN_STATUS_GATE_PEER, R.TWIN_STATUS_PEER_READY, R.TWIN_STATUS_LINK_UP, R.TWIN_STATUS_MESH_UP, R.TWIN_STATUS_TEST_PENDING] ++
  [R.TWIN_STATUS_VERSION_SKEW, R.TWIN_STATUS_INSTANCE, R.TWIN_CMD_SWAP, R.TWIN_CMD_ATTACH, R.TWIN_CMD_DETACH, R.TWIN_CTRL_AUTO_REJOIN, R.TWIN_CTRL_CLEAN_FRAMES, R.TWIN_CNT_MISMATCHES] ++
  [R.TWIN_CNT_TAKEOVERS, R.TWIN_LINK_CRC_ERR, R.TWIN_LINK_UNCOMPARED, R.TWIN_LAST_KIND, R.TWIN_LAST_INDEX, R.TWIN_SYNC_CLEAN, R.TWIN_SYNC_PD_RESYNC, R.TWIN_SYNC_COPY_PCT] ++
  [R.TWIN_TOL_TOL_V, R.TWIN_TOL_TOL_I, R.TWIN_LAST_FRAME_FRAME, R.TWIN_DIGEST_PEER_MAP, R.TWIN_DIFF_SLOT, R.TWIN_INDIFF_CH]

/-- The fields of one block of the window. -/
def fieldsOf_flt : List Fld :=
  [R.FLT_STATUS_FAULTN, R.FLT_STATUS_FATAL_ANY, R.FLT_STATUS_SEVERE_ANY, R.FLT_STATUS_FACTORY, R.FLT_STATUS_UNCLEARED, R.FLT_STATUS_QLOST, R.FLT_CTRL_FN_MIN, R.FLT_REJECT_COUNT] ++
  [R.FLT_REJECT_INFO_CAUSE, R.FLT_REJECT_INFO_REQ, R.FLT_REJECT_INFO_OFFSET, R.FLT_CMD_REJECT_CLR, R.FLT_CMD_ACTION, R.FLT_CMD_SOURCE, R.FLT_LAST_STATE, R.FLT_LAST_CLASS] ++
  [R.FLT_LAST_KIND, R.FLT_LAST_SOURCE, R.FLT_LAST_FRAME_FRAME, R.FLT_GOLD_BASE_BASE, R.FLT_INJ_COUNT, R.FLT_INJ_INDEX, R.FLT_INJ_TARGET, R.FLT_INJ_ARM] ++
  [R.FLT_INJ_ADDR_ADDR, R.FLT_INJ_STAT_DONE, R.FLT_OPEN_OPEN, R.FLT_KIND_ESC_N, R.FLT_KIND_ESC_W, R.FLT_KIND_QUIET_RAISED, R.FLT_KIND_QUIET_QUIET, R.FLT_SRC_STATE_STATE] ++
  [R.FLT_SRC_STATE_CLASS, R.FLT_SRC_STATE_VERDICT, R.FLT_SRC_STATE_INJECTED, R.FLT_SRC_STATE_EVENTS, R.FLT_SRC_STATE_QUIET_LEFT, R.FLT_SRC_COUNT_RECOVERIES, R.FLT_SRC_COUNT_WIN_LEFT]

/-- The fields of one block of the window. -/
def fieldsOf_clk : List Fld :=
  [R.CLK_STATUS_REF, R.CLK_STATUS_HOLDOVER, R.CLK_STATUS_FRC_BAD, R.CLK_STATUS_SLOW_BAD, R.CLK_STATUS_REC_OK, R.CLK_STATUS_XB_AMP_OK, R.CLK_STATUS_XA_AMP_OK, R.CLK_STATUS_XB_START_FAIL] ++
  [R.CLK_STATUS_XA_START_FAIL, R.CLK_STATUS_LOCK, R.CLK_STATUS_MON_BAD, R.CLK_STATUS_ON_FRC, R.CLK_CTRL_REC_EN, R.CLK_CTRL_XB_EN, R.CLK_CTRL_XA_EN, R.CLK_CTRL_AUTO_RET] ++
  [R.CLK_CTRL_RETURN_AUTO, R.CLK_CTRL_RET_MS, R.CLK_CTRL_TOL, R.CLK_DIV_BUS_DIV, R.CLK_DIV_HART_DIV, R.CLK_LOST_FORCED, R.CLK_LOST_DOMAIN, R.CLK_LOST_COARSE] ++
  [R.CLK_LOST_NS, R.CLK_NMI_FALLBACK, R.CLK_CNT_FALLBACKS, R.CLK_CNT_REF_SWITCHES, R.CLK_EN_EN, R.CLK_SWITCH_DOMAIN, R.CLK_SWITCH_GO, R.RST_CAUSE_KEEP_PWR] ++
  [R.RST_CAUSE_POR_PIN, R.RST_CAUSE_HOLD, R.RST_CAUSE_BLOCK_CMD, R.RST_CAUSE_LE_CMD, R.RST_CAUSE_TWIN_CMD, R.RST_CAUSE_HART_WDT, R.RST_CAUSE_HART_CMD, R.RST_CMD_HART] ++
  [R.RST_CMD_BLOCK, R.RST_CMD_TWIN, R.RST_CMD_LE, R.RST_STAT_HART, R.RST_STAT_BLOCK, R.RST_STAT_TWIN, R.RST_STAT_LE]

/-- The fields of one block of the window. -/
def fieldsOf_fw : List Fld :=
  [R.FW_HART_STAT_STATE, R.FW_HART_STAT_LEVEL, R.FW_HART_STAT_LOAD, R.FW_HART_STAT_RESTARTS, R.FW_HART_CTRL_SLEEP_OK, R.FW_HART_CTRL_SELF_RESET, R.FW_HART_CTRL_KICK, R.FW_SHED_SHED_HI] ++
  [R.FW_SHED_SHED_LO, R.HOST_HB_HB, R.HOST_STAT_ATTACHED, R.HOST_STAT_UNATTENDED, R.HOST_STAT_EV_LOST, R.HOST_STAT_NOTIFY_RING, R.HOST_STAT_HB_AGE, R.HOST_IRQ_UNATT] ++
  [R.HOST_IRQ_LOG, R.HOST_IRQ_MBOX_ACK, R.HOST_IRQ_MBOX, R.HOST_IRQ_EVENT, R.HOST_IRQ_CPL, R.HOST_IRQ_MASK_MASK, R.FW_LOG_WPTR, R.FW_LOG_DROPPED] ++
  [R.FW_LOG_LEVEL_MIN, R.FW_TRACE_WPTR, R.FW_TRACE_TRACE_SHED, R.FW_TRACE_EN_EN, R.RING_CFG_EN, R.RING_CFG_ERR, R.RING_CFG_CMD_LOG2, R.RING_CFG_CPL_LOG2] ++
  [R.RING_CMD_BASE_BASE, R.RING_CPL_BASE_BASE, R.RING_DATA_PAGES, R.RING_DATA_BASE, R.RING_DB_CMD_TAIL, R.RING_DB_CPL_HEAD, R.RING_POS_CPL_TAIL, R.RING_POS_CMD_HEAD] ++
  [R.MBOX_DATA0_DATA, R.MBOX_DATA1_DATA, R.MBOX_DATA2_DATA, R.MBOX_DATA3_DATA, R.MBOX_DOORBELL_CMD, R.MBOX_DOORBELL_CANCEL, R.MBOX_ACK_CODE, R.MBOX_ACK_RESULT] ++
  [R.MBOX_CTRL_RECEIVER, R.MBOX_CTRL_SENDER, R.MBOX_CTRL_TIMEOUT, R.MBOX_STAT_PENDING, R.MBOX_STAT_ACKED, R.MBOX_STAT_TIMED_OUT, R.MBOX_STAT_REJECTS]

/-- The fields of one block of the window. -/
def fieldsOf_tally : List Fld :=
  [R.TALLY_STAT_RESTORED, R.TALLY_STAT_FLUSHING, R.TALLY_STAT_MIRROR_ERR, R.TALLY_STAT_NO_MIRROR, R.TALLY_STAT_FILL, R.TALLY_SECONDS_SECONDS, R.TALLY_CYCLES_CYCLES, R.TALLY_DROPPED_DROPPED] ++
  [R.TALLY_SEQ_NEXT_SEQ, R.TALLY_CTRL_FLUSH, R.TALLY_MIRROR_GEN, R.TALLY_MIRROR_SLOT, R.TALLY_SUB_DATA_DATA, R.TALLY_SUBMIT_CODE, R.TALLY_SUBMIT_SEVERITY, R.TALLY_SUBMIT_CHANNEL]

/-- The fields of one block of the window. -/
def fieldsOf_plat : List Fld :=
  [R.PLAT_PINS_POR_N, R.PLAT_PINS_HOLD_N, R.PLAT_PINS_THERMTRIP_N, R.PLAT_PINS_FAULT_N, R.PLAT_PINS_GATE, R.PLAT_PINS_GATE_PEER, R.PLAT_PINS_PMB_MASTER, R.PLAT_PMB_SPEED] ++
  [R.PLAT_PMB_POLL, R.PLAT_PMB_ALERT_UNK, R.PLAT_PMB_CYCLE_US, R.PLAT_MCTP_STATIC, R.PLAT_MCTP_DYN, R.PLAT_MCTP_EID, R.PLAT_MCTP_MCTP_DROP, R.PLAT_SUP_CFG_EN] ++
  [R.PLAT_SUP_CFG_PEC, R.PLAT_SUP_CFG_PORT, R.PLAT_SUP_CFG_FMT_ERR, R.PLAT_SUP_CFG_KIND, R.PLAT_SUP_CFG_STACK, R.PLAT_SUP_CFG_PAGE, R.PLAT_SUP_CFG_VI, R.PLAT_SUP_CFG_ADDR] ++
  [R.PLAT_SUP_LIMIT_POUT_MAX, R.PLAT_SUP_LIMIT_SW_MASK, R.PLAT_SUP_READ_POUT, R.PLAT_SUP_READ_VOUT, R.PLAT_SUP_STAT_STALE, R.PLAT_SUP_STAT_ALERT, R.PLAT_SUP_STAT_AGE, R.PLAT_SUP_STAT_STATUS_WORD]

/-- The fields of the register block that holds a byte offset (R654). -/
def fieldsAt (off : Nat) : List Fld :=
  match off / 0x10000 with
  | 0x10 => fieldsOf_top
  | 0x11 => fieldsOf_le
  | 0x14 => fieldsOf_pd
  | 0x15 => fieldsOf_crook
  | 0x16 => fieldsOf_bw
  | 0x18 => fieldsOf_bww
  | 0x1A => fieldsOf_th
  | 0x1B => fieldsOf_gl
  | 0x1C => fieldsOf_twin
  | 0x1D => fieldsOf_flt
  | 0x1E => fieldsOf_clk
  | 0x1F => fieldsOf_fw
  | 0x20 => fieldsOf_tally
  | 0x21 => fieldsOf_plat
  | 0x12 => fieldsOf_lut
  | 0x13 => fieldsOf_lut
  | _ => []

/-! State that no register shows. -/

/-- the frame domain has passed its first boundary (R58). -/
def H.TOP_FRAME_STARTED : Fld := ⟨0x100000000, 1, 1, 1, .ro, .all 0, false⟩
/-- frames since the last whole millisecond (R25). -/
def H.TOP_MS_DIV : Fld := ⟨0x100000001, 11, 1, 11, .ro, .all 0, false⟩
/-- output of the slot's last run, to be applied at the next boundary (R67). -/
def H.LE_NEXT_OUT : Fld := ⟨0x140000000, 16, 256, 16, .ro, .all 0, false⟩
/-- the slot ran in the frame now ending (R67). -/
def H.LE_NEXT_VALID : Fld := ⟨0x140001000, 1, 256, 1, .ro, .all 0, false⟩
/-- FILTER and DERIV states, four to a slot in program order (R169). -/
def H.LE_STATE : Fld := ⟨0x140001100, 40, 1024, 40, .ro, .all 0, false⟩
/-- the slot's first run after a commit or preset is still to come (R179). -/
def H.LE_FRESH : Fld := ⟨0x14000B100, 1, 256, 1, .ro, .all 0, false⟩
/-- a preset is due at the slot's next run (R198). -/
def H.LE_PRESET_DUE : Fld := ⟨0x14000B200, 1, 256, 1, .ro, .all 0, false⟩
/-- target of the preset (R198). -/
def H.LE_PRESET_T : Fld := ⟨0x14000B300, 16, 256, 16, .ro, .all 0, false⟩
/-- the target applies to the output, R205 otherwise (R198). -/
def H.LE_PRESET_REG : Fld := ⟨0x14000C300, 1, 256, 1, .ro, .all 0, false⟩
/-- mode before a hold (R209). -/
def H.LE_MODE_BEFORE : Fld := ⟨0x14000C400, 2, 256, 2, .ro, .all 0, false⟩
/-- HOLD placed by a golden verdict (R416). -/
def H.LE_HOLD_GOLD : Fld := ⟨0x14000C600, 1, 256, 1, .ro, .all 0, false⟩
/-- HOLD of a SEVERE slot source (R441). -/
def H.LE_HOLD_SEV : Fld := ⟨0x14000C700, 1, 256, 1, .ro, .all 0, false⟩
/-- start-up TRACK (R510). -/
def H.LE_HOLD_START : Fld := ⟨0x14000C800, 1, 256, 1, .ro, .all 0, false⟩
/-- the held mode request, raised by one; 0 where none is held (R667). -/
def H.LE_HELD_REQ : Fld := ⟨0x14000C900, 3, 256, 3, .ro, .all 0, false⟩
/-- the slot has been taken to HOLD by a fault hold (R667). -/
def H.LE_HOLD_IN : Fld := ⟨0x14000CC00, 1, 256, 1, .ro, .all 0, false⟩
/-- y of the previous run (R206). -/
def H.LE_PL_Y1 : Fld := ⟨0x14000CD00, 18, 256, 18, .ro, .all 0, false⟩
/-- y of the run before it (R206). -/
def H.LE_PL_Y2 : Fld := ⟨0x14000DF00, 18, 256, 18, .ro, .all 0, false⟩
/-- u of the previous run (R206). -/
def H.LE_PL_U1 : Fld := ⟨0x14000F100, 18, 256, 18, .ro, .all 0, false⟩
/-- u of the run before it (R206). -/
def H.LE_PL_U2 : Fld := ⟨0x140010300, 18, 256, 18, .ro, .all 0, false⟩
/-- runs still to fill y and u (R207). -/
def H.LE_PL_FILL : Fld := ⟨0x140011500, 2, 256, 2, .ro, .all 0, false⟩
/-- the residual bound has been passed FRAMES times; HOLD is due at the next boundary (R208). -/
def H.LE_PL_TRIP : Fld := ⟨0x140011700, 1, 256, 1, .ro, .all 0, false⟩
/-- the injector has started (R210). -/
def H.LE_INJ_ON : Fld := ⟨0x140011800, 1, 256, 1, .ro, .all 0, false⟩
/-- runs in the present half-period or bit (R210). -/
def H.LE_INJ_CNT : Fld := ⟨0x140011900, 16, 256, 16, .ro, .all 0, false⟩
/-- square wave in its negative half (R210). -/
def H.LE_INJ_NEG : Fld := ⟨0x140012900, 1, 256, 1, .ro, .all 0, false⟩
/-- PRBS-15 shift register (R210). -/
def H.LE_INJ_LFSR : Fld := ⟨0x140012A00, 15, 256, 15, .ro, .all 32767, false⟩
/-- a capture is running (R213). -/
def H.LE_CAP_ON : Fld := ⟨0x140013900, 1, 256, 1, .ro, .all 0, false⟩
/-- samples still to write after the trigger (R213). -/
def H.LE_CAP_LEFT : Fld := ⟨0x140013A00, 13, 256, 13, .ro, .all 0, false⟩
/-- capture buffers; bit 32 marks a written sample (R214). -/
def H.LE_CAP_SAMPLE : Fld := ⟨0x140014700, 33, 1048576, 33, .ro, .all 0, false⟩
/-- a mode committed at the last boundary (capture trigger) (R219). -/
def H.LE_MODE_COMMIT : Fld := ⟨0x142114700, 1, 256, 1, .ro, .all 0, false⟩
/-- near-band divider asked for by the thermal section (R76). -/
def H.LE_NEAR_REQ : Fld := ⟨0x142114800, 1, 256, 1, .ro, .all 0, false⟩
/-- latched phase current, 1/32 A (R65). -/
def H.LE_IN_PHASE : Fld := ⟨0x142114900, 16, 128, 16, .ro, .all 0, false⟩
/-- latched remote-sense mean, 2^-16 V (R65). -/
def H.LE_IN_RAILV : Fld := ⟨0x142115100, 18, 14, 18, .ro, .all 0, false⟩
/-- latched rail current, 1/32 A (R65). -/
def H.LE_IN_RAILI : Fld := ⟨0x1421151FC, 24, 14, 24, .ro, .all 0, false⟩
/-- truncation flag of the last frame (R71). -/
def H.LE_IN_TRUNC : Fld := ⟨0x14211534C, 1, 14, 1, .ro, .all 0, false⟩
/-- package power of the last 2,048 frames, by frame number (R56). -/
def H.LE_PKG_HIST : Fld := ⟨0x14211535A, 32, 2048, 32, .ro, .all 0, false⟩
/-- sum of the window (R56). -/
def H.LE_PKG_SUM : Fld := ⟨0x14212535A, 48, 1, 48, .ro, .all 0, false⟩
/-- cut of the package limiter (R56). -/
def H.LE_HW_CUT : Fld := ⟨0x14212538A, 16, 1, 16, .ro, .all 32768, false⟩
/-- part of the latched figure drawn from the board supplies (R56). -/
def H.LE_PKG_BOARD : Fld := ⟨0x14212539A, 32, 1, 32, .ro, .all 0, false⟩
/-- reserved-class credits spent, by endpoint number (R375). -/
def H.GL_SPENT : Fld := ⟨0x280000000, 2, 4096, 2, .ro, .all 0, false⟩
/-- next golden vector to replay in the test under way (R446). -/
def H.LE_GOLD_J : Fld := ⟨0x1421253BA, 3, 256, 3, .ro, .all 0, false⟩
/-- golden vectors captured, 0-4 (R445). -/
def H.LE_GOLD_N : Fld := ⟨0x1421256BA, 3, 256, 3, .ro, .all 0, false⟩
/-- golden capture is under way (R445). -/
def H.LE_GOLD_CAP : Fld := ⟨0x1421259BA, 1, 256, 1, .ro, .all 0, false⟩
/-- every vector replayed so far equals its record (R446). -/
def H.LE_GOLD_OK : Fld := ⟨0x142125ABA, 1, 256, 1, .ro, .all 0, false⟩
/-- a fault hold has ended; the mode commits at the next boundary (R209). -/
def H.LE_REL_FAULT : Fld := ⟨0x142125BBA, 1, 256, 1, .ro, .all 0, false⟩
/-- pulses still to give in the pulse test (R442). -/
def H.PD_TEST_PULSE : Fld := ⟨0x180000000, 3, 128, 3, .ro, .all 0, false⟩
/-- phase channel in loopback (R443). -/
def H.PD_LOOP_PH : Fld := ⟨0x180000180, 1, 128, 1, .ro, .all 0, false⟩
/-- rail channel in loopback (R443). -/
def H.PD_LOOP_RAIL : Fld := ⟨0x180000200, 1, 14, 1, .ro, .all 0, false⟩
/-- the cell's latest REPORT carries STUCK (R430). -/
def H.CROOK_REP_STUCK : Fld := ⟨0x1C0000000, 1, 832, 1, .ro, .all 0, false⟩
/-- an extra sweep is due in the next frame (R442). -/
def H.TH_RESWEEP : Fld := ⟨0x240000000, 1, 128, 1, .ro, .all 0, false⟩
/-- site reference check asked for in the next sweep of its paddock (R442). -/
def H.TH_REF_DUE : Fld := ⟨0x240000080, 1, 1536, 1, .ro, .all 0, false⟩
/-- hot fence of the tile (R338). -/
def H.TH_HOT : Fld := ⟨0x240000680, 1, 768, 1, .ro, .all 0, false⟩
/-- index of the free values that stand for the sites' self-calibration (R513). -/
def H.TH_CAL_BASE : Fld := ⟨0x240000980, 32, 1, 32, .ro, .all 0, false⟩
/-- EVENTS has reached N; SEVERE at the next boundary (R435). -/
def H.FLT_SEV_DUE : Fld := ⟨0x300000000, 1, 4096, 1, .ro, .all 0, false⟩
/-- the targeted test is pending or running (R442). -/
def H.FLT_TEST_PEND : Fld := ⟨0x300001000, 1, 4096, 1, .ro, .all 0, false⟩
/-- frames left of the test's time limit (R442). -/
def H.FLT_TEST_LEFT : Fld := ⟨0x300002000, 24, 4096, 24, .ro, .all 0, false⟩
/-- PROBE messages sent in the test (R442). -/
def H.FLT_PROBES : Fld := ⟨0x30001A000, 3, 4096, 3, .ro, .all 0, false⟩
/-- PROBE messages answered in time (R442). -/
def H.FLT_PROBE_GOT : Fld := ⟨0x30001D000, 4, 4096, 4, .ro, .all 0, false⟩
/-- a factory token was presented at por_n (R458). -/
def H.FLT_PSC_ANSWER : Fld := ⟨0x300021000, 1, 1, 1, .ro, .all 0, false⟩
/-- agreed features (R603). -/
def H.FW_FEATURES : Fld := ⟨0x380000000, 11, 1, 11, .ro, .all 0, false⟩
/-- latched HBM stack temperature, 1/16 °C (R65). -/
def H.LE_IN_HBM : Fld := ⟨0x142125CBA, 16, 8, 16, .ro, .all 1680, false⟩
/-- latched PMBus output power of the supply (R65). -/
def H.LE_IN_PMB : Fld := ⟨0x142125D3A, 18, 16, 18, .ro, .all 0, false⟩
/-- LE cycle after the last stage of the frame now running (R215). -/
def H.LE_RUN_END : Fld := ⟨0x142125E5A, 9, 1, 9, .ro, .all 0, false⟩
/-- slots due in the frame now running (R215). -/
def H.LE_RUN_DUE : Fld := ⟨0x142125E63, 9, 1, 9, .ro, .all 0, false⟩
/-- the outputs of the frame now running have been staged (R62). -/
def H.LE_OUT_STAGED : Fld := ⟨0x142125E6C, 1, 1, 1, .ro, .all 0, false⟩
/-- a MANUAL write commits at this boundary (R193). -/
def H.LE_MAN_NOW : Fld := ⟨0x142125E6D, 1, 256, 1, .ro, .all 0, false⟩
/-- golden vector of the slot's last run, until its frame is compared (R445). -/
def H.LE_GOLD_VEC : Fld := ⟨0x142125F6D, 1024, 256, 1024, .ro, .all 0, false⟩
/-- GOLD_VEC holds a vector not yet compared (R445). -/
def H.LE_GOLD_NEW : Fld := ⟨0x142165F6D, 1, 256, 1, .ro, .all 0, false⟩
/-- the networks have been evaluated in this frame (R294). -/
def H.BW_DONE : Fld := ⟨0x200000000, 1, 1, 1, .ro, .all 0, false⟩
/-- MAC cycles of the frame now running (R310). -/
def H.BW_CYC_NOW : Fld := ⟨0x200000001, 8, 1, 8, .ro, .all 0, false⟩
/-- F_rail(h) made in this frame, element 8r + h - 1 (R298). -/
def H.BW_FRAIL : Fld := ⟨0x200000009, 24, 112, 24, .ro, .all 0, false⟩
/-- F_now of the present frame and of the four before, element 5r + k (R298). -/
def H.BW_FNOW : Fld := ⟨0x200000A89, 24, 70, 24, .ro, .all 0, false⟩
/-- rail current latched at the last four boundaries, 1/8 A, element 4r + k (R301). -/
def H.BW_RI_HIST : Fld := ⟨0x200001119, 24, 56, 24, .ro, .all 0, false⟩
/-- the forecast rise of this frame reaches RISE_MIN (R302). -/
def H.BW_RISE : Fld := ⟨0x200001659, 1, 14, 1, .ro, .all 0, false⟩
/-- boundaries for which a TRIP still sets SHED_DEFER (R302). -/
def H.BW_TRIPC : Fld := ⟨0x200001667, 5, 14, 5, .ro, .all 0, false⟩
/-- an intent of the dispatcher has been accepted since the map commit (R287). -/
def H.BW_SEEN : Fld := ⟨0x2000016AD, 1, 32, 1, .ro, .all 0, false⟩
/-- compensator integrator, duty in units of 2^-32 (R231). -/
def H.PD_INTEG : Fld := ⟨0x18000020E, 33, 14, 33, .ro, .all 0, false⟩
/-- e of the previous run, signed, 2^-16 V (R231). -/
def H.PD_EPREV : Fld := ⟨0x1800003DC, 24, 14, 24, .ro, .all 0, false⟩
/-- d_rail, Q0.16 (R231). -/
def H.PD_DRAIL : Fld := ⟨0x18000052C, 16, 14, 16, .ro, .all 0, false⟩
/-- conversion on which the rail's control last ran, 2^-16 V (R231). -/
def H.PD_VSENSE : Fld := ⟨0x18000060C, 18, 14, 18, .ro, .all 0, false⟩
/-- last remote-sense conversion of the own channel, 2^-16 V (R65). -/
def H.PD_VOWN : Fld := ⟨0x180000708, 18, 14, 18, .ro, .all 0, false⟩
/-- own conversion before it (R65). -/
def H.PD_VS_PREV : Fld := ⟨0x180000804, 18, 14, 18, .ro, .all 0, false⟩
/-- consecutive conversions above V_ref + 60 mV (R249). -/
def H.PD_SG2 : Fld := ⟨0x180000900, 6, 14, 6, .ro, .all 0, false⟩
/-- consecutive conversions at or above V_ref - 20 mV (R508). -/
def H.PD_PG_CNT : Fld := ⟨0x180000954, 9, 14, 9, .ro, .all 0, false⟩
/-- the rail is at power-good (R508). -/
def H.PD_PG : Fld := ⟨0x1800009D2, 1, 14, 1, .ro, .all 0, false⟩
/-- consecutive samples that fail to conduct (R253). -/
def H.PD_DEVC : Fld := ⟨0x1800009E0, 2, 128, 2, .ro, .all 0, false⟩
/-- consecutive sense-invalid samples (R253). -/
def H.PD_INVC : Fld := ⟨0x180000AE0, 2, 128, 2, .ro, .all 0, false⟩
/-- consecutive samples with c_p at its clamp (R253). -/
def H.PD_CLAMPC : Fld := ⟨0x180000BE0, 2, 128, 2, .ro, .all 0, false⟩
/-- consecutive periods with a short-circuit trip (R246). -/
def H.PD_SCRUN : Fld := ⟨0x180000CE0, 5, 128, 5, .ro, .all 0, false⟩
/-- a trip in the present period (R246). -/
def H.PD_SC_THIS : Fld := ⟨0x180000F60, 1, 128, 1, .ro, .all 0, false⟩
/-- trips in the frame now running (R246). -/
def H.PD_SC_CNT : Fld := ⟨0x180000FE0, 8, 128, 8, .ro, .all 0, false⟩
/-- truncation acted in the frame now running (R71). -/
def H.PD_TRUNC_NOW : Fld := ⟨0x1800013E0, 1, 14, 1, .ro, .all 0, false⟩
/-- rail current of the last 256 frames, element 256r + frame mod 256 (R250). -/
def H.PD_HIST : Fld := ⟨0x1800013EE, 24, 3584, 24, .ro, .all 0, false⟩
/-- sum of the 256 entries, signed (R250). -/
def H.PD_SUM256 : Fld := ⟨0x1800163EE, 32, 14, 32, .ro, .all 0, false⟩
/-- consecutive frames below the shed level (R242). -/
def H.PD_DWELL_CNT : Fld := ⟨0x1800165AE, 8, 14, 8, .ro, .all 0, false⟩
/-- phase + 1 of a shed decided and not begun (R242). -/
def H.PD_SHED_PEND : Fld := ⟨0x18001661E, 8, 14, 8, .ro, .all 0, false⟩
/-- duty steps made in SHEDDING (R241). -/
def H.PD_SHED_STEP : Fld := ⟨0x18001668E, 3, 128, 3, .ro, .all 0, false⟩
/-- one duty step, signed Q0.16 (R241). -/
def H.PD_SHED_DELTA : Fld := ⟨0x18001680E, 18, 128, 18, .ro, .all 0, false⟩
/-- the SHEDDING phase returns to ACTIVE at its next period start (R239). -/
def H.PD_RET_ACT : Fld := ⟨0x18001710E, 1, 128, 1, .ro, .all 0, false⟩
/-- periods in ADDING (R239). -/
def H.PD_ADD_PER : Fld := ⟨0x18001718E, 4, 128, 4, .ro, .all 0, false⟩
/-- periods in FALLOW since the last refresh (R230). -/
def H.PD_FALLOW_PER : Fld := ⟨0x18001738E, 4, 128, 4, .ro, .all 0, false⟩
/-- frames that meet the skip condition (R245). -/
def H.PD_SKIP_CNT : Fld := ⟨0x18001758E, 8, 14, 8, .ro, .all 0, false⟩
/-- skipping disengages at the next period start (R245). -/
def H.PD_SKIP_END : Fld := ⟨0x1800175FE, 1, 14, 1, .ro, .all 0, false⟩
/-- start of the present period after the period reference, counts (R228). -/
def H.PD_POS : Fld := ⟨0x18001760C, 15, 128, 15, .ro, .all 0, false⟩
/-- width of the present period's pulse, counts (R229). -/
def H.PD_WID : Fld := ⟨0x180017D8C, 14, 128, 14, .ro, .all 0, false⟩
/-- the present period was displaced (R228). -/
def H.PD_DISPL : Fld := ⟨0x18001848C, 1, 128, 1, .ro, .all 0, false⟩
/-- V_ref of a ramp, units of 0.25 uV (R223). -/
def H.PD_RAMP_V : Fld := ⟨0x18001850C, 24, 14, 24, .ro, .all 0, false⟩
/-- overload cut (R250). -/
def H.PD_OV_CUT : Fld := ⟨0x18001865C, 16, 14, 16, .ro, .all 32768, false⟩
/-- the overload cut is rising (R250). -/
def H.PD_OV_RISING : Fld := ⟨0x18001873C, 1, 14, 1, .ro, .all 0, false⟩
/-- a phase of the rail was fenced or derated since the last boundary (R257). -/
def H.PD_NEWFAIL : Fld := ⟨0x18001874A, 1, 14, 1, .ro, .all 0, false⟩
/-- a step was detected in the frame now running (R308). -/
def H.PD_ALARM_NOW : Fld := ⟨0x180018758, 1, 14, 1, .ro, .all 0, false⟩
/-- the rail is OFF under R509 (R509). -/
def H.PD_OFF_FAIL : Fld := ⟨0x180018766, 1, 14, 1, .ro, .all 0, false⟩
/-- OVERLOAD_EFF, 0.1 A (R251). -/
def H.PD_OVL_EFF : Fld := ⟨0x180018774, 16, 14, 16, .ro, .all 0, false⟩
/-- cell side: enabled (R270). -/
def H.CROOK_C_EN : Fld := ⟨0x1C0000340, 1, 832, 1, .ro, .all 0, false⟩
/-- cell side: threshold code (R269). -/
def H.CROOK_C_THR : Fld := ⟨0x1C0000680, 9, 832, 9, .ro, .all 0, false⟩
/-- cell side: HYST (R283). -/
def H.CROOK_C_HYST : Fld := ⟨0x1C00023C0, 4, 832, 4, .ro, .all 0, false⟩
/-- cell side: MAX_STRETCH (R283). -/
def H.CROOK_C_MAXS : Fld := ⟨0x1C00030C0, 6, 832, 6, .ro, .all 0, false⟩
/-- cell side: FALLBACK code (R283). -/
def H.CROOK_C_FALLB : Fld := ⟨0x1C0004440, 9, 832, 9, .ro, .all 0, false⟩
/-- cell side: MIN_HOLD (R283). -/
def H.CROOK_C_HOLD : Fld := ⟨0x1C0006180, 8, 832, 8, .ro, .all 0, false⟩
/-- cell side: STUCK_FRAMES (R283). -/
def H.CROOK_C_STUCKF : Fld := ⟨0x1C0007B80, 8, 832, 8, .ro, .all 0, false⟩
/-- cell side: tripped (R271). -/
def H.CROOK_C_TRIPPED : Fld := ⟨0x1C0009580, 1, 832, 1, .ro, .all 0, false⟩
/-- cell side: tripped at the start of the accounting frame (R275). -/
def H.CROOK_C_TSTART : Fld := ⟨0x1C00098C0, 1, 832, 1, .ro, .all 0, false⟩
/-- cell side: acc of the stretch (R272). -/
def H.CROOK_C_ACC : Fld := ⟨0x1C0009C00, 8, 832, 8, .ro, .all 0, false⟩
/-- cell side: clock edges since the trip (R273). -/
def H.CROOK_C_KEDGE : Fld := ⟨0x1C000B600, 16, 832, 16, .ro, .all 0, false⟩
/-- cell side: trips in the accounting frame (R279). -/
def H.CROOK_C_TRIPS : Fld := ⟨0x1C000EA00, 8, 832, 8, .ro, .all 0, false⟩
/-- cell side: edges suppressed in the accounting frame (R279). -/
def H.CROOK_C_EDGES : Fld := ⟨0x1C0010400, 16, 832, 16, .ro, .all 0, false⟩
/-- cell side: consecutive accounting frames tripped through (R275). -/
def H.CROOK_C_SFR : Fld := ⟨0x1C0013800, 8, 832, 8, .ro, .all 0, false⟩
/-- cell side: STUCK (R275). -/
def H.CROOK_C_STUCK : Fld := ⟨0x1C0015200, 1, 832, 1, .ro, .all 0, false⟩
/-- cell side: ORPHAN (R284). -/
def H.CROOK_C_ORPH : Fld := ⟨0x1C0015540, 1, 832, 1, .ro, .all 0, false⟩
/-- cell side: FRAME_SYNC met in ORPHAN (R284). -/
def H.CROOK_C_OSYNC : Fld := ⟨0x1C0015880, 1, 832, 1, .ro, .all 0, false⟩
/-- cell side: THRESH met in ORPHAN (R284). -/
def H.CROOK_C_OTHR : Fld := ⟨0x1C0015BC0, 1, 832, 1, .ro, .all 0, false⟩
/-- cell side: accounting frames since FRAME_SYNC (R284). -/
def H.CROOK_C_NOSYNC : Fld := ⟨0x1C0015F00, 8, 832, 8, .ro, .all 0, false⟩
/-- cell side: delay compensation in force, 2 ns (R278). -/
def H.CROOK_C_DELAY : Fld := ⟨0x1C0017900, 8, 832, 8, .ro, .all 0, false⟩
/-- cell side: compensation from the next FRAME_SYNC (R282). -/
def H.CROOK_C_DELAY_NEXT : Fld := ⟨0x1C0019300, 8, 832, 8, .ro, .all 0, false⟩
/-- cell side: number of the accounting frame (R277). -/
def H.CROOK_C_FRAME : Fld := ⟨0x1C001AD00, 16, 832, 16, .ro, .all 0, false⟩
/-- enable last sent to the cell (R270). -/
def H.CROOK_EN_SENT : Fld := ⟨0x1C001E100, 1, 832, 1, .ro, .all 0, false⟩
/-- ECHO sent, no DELAY yet (R278). -/
def H.CROOK_ECHO_PEND : Fld := ⟨0x1C001E440, 1, 832, 1, .ro, .all 0, false⟩
/-- frames since the ECHO (R278). -/
def H.CROOK_ECHO_AGE : Fld := ⟨0x1C001E780, 5, 832, 5, .ro, .all 0, false⟩
/-- DELAY sent since the last map commit (R306). -/
def H.CROOK_DELAYED : Fld := ⟨0x1C001F7C0, 1, 832, 1, .ro, .all 0, false⟩
/-- largest compensation measured in the fold (R278). -/
def H.CROOK_FOLD_MAXC : Fld := ⟨0x1C001FB00, 8, 64, 8, .ro, .all 0, false⟩
/-- trips reported for the next input set (R281). -/
def H.CROOK_PTRIPS : Fld := ⟨0x1C001FD00, 16, 64, 16, .ro, .all 0, false⟩
/-- edges reported for the next input set (R281). -/
def H.CROOK_PEDGES : Fld := ⟨0x1C0020100, 24, 64, 24, .ro, .all 0, false⟩
/-- CONFIG is to be sent at the coming boundary (R283). -/
def H.CROOK_CFG_DUE : Fld := ⟨0x1C0020700, 1, 64, 1, .ro, .all 0, false⟩
/-- ECHOs of the fold are due after this boundary's CELL_EN (R278). -/
def H.CROOK_ECHO_DUE : Fld := ⟨0x1C0020740, 1, 64, 1, .ro, .all 0, false⟩
/-- frames since the last FRAME_SYNC (R278). -/
def H.CROOK_SYNC_AGE : Fld := ⟨0x1C0020780, 7, 1, 7, .ro, .all 0, false⟩
/-- last stack temperature received; 105.0 °C until the first (R317). -/
def H.TH_HBM_T : Fld := ⟨0x2400009A0, 16, 12, 16, .ro, .all 1680, false⟩
/-- a reading has arrived since the thermal section's last reset (R317). -/
def H.TH_HBM_SEEN : Fld := ⟨0x240000A60, 1, 12, 1, .ro, .all 0, false⟩
/-- frames since the last reading, or since READY while none has come (R317). -/
def H.TH_HBM_AGE : Fld := ⟨0x240000A6C, 9, 12, 9, .ro, .all 0, false⟩
/-- consecutive sweeps in which the site was SUSPECT (R326). -/
def H.TH_SUSC : Fld := ⟨0x240000AD8, 2, 1536, 2, .ro, .all 0, false⟩
/-- consecutive sweeps in which the site was HIGH; 3 once its fault is raised (R326). -/
def H.TH_HIGHC : Fld := ⟨0x2400016D8, 2, 1536, 2, .ro, .all 0, false⟩
/-- consecutive sweeps in which the site was at or above TILE_FENCE_T (R338). -/
def H.TH_HOTC : Fld := ⟨0x2400022D8, 2, 1536, 2, .ro, .all 0, false⟩
/-- the site is FAILED, also while EXCLUDED hides it (R326). -/
def H.TH_SFAIL : Fld := ⟨0x240002ED8, 1, 1536, 1, .ro, .all 0, false⟩
/-- a whole sweep of the paddock waits to be latched (R65). -/
def H.TH_NEW : Fld := ⟨0x2400034D8, 1, 128, 1, .ro, .all 0, false⟩
/-- its temperature (R327). -/
def H.TH_NEW_T : Fld := ⟨0x240003558, 16, 128, 16, .ro, .all 0, false⟩
/-- diode reading used in it (R351). -/
def H.TH_NEW_DT : Fld := ⟨0x240003D58, 16, 128, 16, .ro, .all 32768, false⟩
/-- it had no reading (R327). -/
def H.TH_NEW_BLIND : Fld := ⟨0x240004558, 1, 128, 1, .ro, .all 0, false⟩
/-- near band at the last latch (R322). -/
def H.TH_NEAR_WANT : Fld := ⟨0x2400045D8, 1, 128, 1, .ro, .all 0, false⟩
/-- hot clamp at the last latch (R331). -/
def H.TH_CLAMP_WANT : Fld := ⟨0x240004658, 1, 128, 1, .ro, .all 0, false⟩
/-- consecutive sweeps of the paddock in which its diode failed the judgement (R329). -/
def H.TH_DIODEC : Fld := ⟨0x2400046D8, 2, 128, 2, .ro, .all 0, false⟩
/-- frames since the channel's last conversion (R352). -/
def H.TH_DIODE_AGE : Fld := ⟨0x2400047D8, 5, 64, 5, .ro, .all 0, false⟩
/-- the channel's last conversion, however old (R348). -/
def H.TH_DIODE_LAST : Fld := ⟨0x240004918, 16, 64, 16, .ro, .all 32768, false⟩
/-- converted in the frame now running (R316). -/
def H.TH_DIODE_NEW : Fld := ⟨0x240004D18, 1, 64, 1, .ro, .all 0, false⟩
/-- consecutive reports above the allowance (R337). -/
def H.TH_OVERC : Fld := ⟨0x240004D58, 3, 8, 3, .ro, .all 0, false⟩
/-- TILE_UNFENCE is under way (R341). -/
def H.TH_UNF_SENT : Fld := ⟨0x240004D70, 1, 768, 1, .ro, .all 0, false⟩
/-- its acknowledgement has come (R340). -/
def H.TH_UNF_ACK : Fld := ⟨0x240005070, 1, 768, 1, .ro, .all 0, false⟩
/-- frame in which IN_USE last fell to 0 (R342). -/
def H.TH_USE_END : Fld := ⟨0x240005370, 64, 64, 64, .ro, .all 0, false⟩
/-- STILE_OFF is under way (R342). -/
def H.TH_OFF_SENT : Fld := ⟨0x240006370, 1, 64, 1, .ro, .all 0, false⟩
/-- STILE_ON is under way (R342). -/
def H.TH_ON_SENT : Fld := ⟨0x2400063B0, 1, 64, 1, .ro, .all 0, false⟩
/-- boundaries since STILE_ON was sent (R342). -/
def H.TH_ON_AGE : Fld := ⟨0x2400063F0, 3, 64, 3, .ro, .all 0, false⟩
/-- the stile is asked for (R342). -/
def H.TH_DEMAND : Fld := ⟨0x2400064B0, 1, 64, 1, .ro, .all 0, false⟩
/-- result of a test that the block itself finds, or the holder's verdict: 1 PASS, 2 FAIL, 3 NOT_RUN (R442). -/
def H.FLT_RESULT : Fld := ⟨0x300021001, 2, 4096, 2, .ro, .all 0, false⟩
/-- the sites have been calibrated; their offsets apply (R513). -/
def H.TH_CAL_ON : Fld := ⟨0x2400064F0, 1, 1, 1, .ro, .all 0, false⟩
/-- SUSTAINED as it applies, under the BMC cap and the ceiling (R546). -/
def H.LE_PKG_SUS : Fld := ⟨0x14216606D, 32, 1, 32, .ro, .all 0, false⟩
/-- EXCURSION as it applies (R546). -/
def H.LE_PKG_EXC : Fld := ⟨0x14216608D, 32, 1, 32, .ro, .all 0, false⟩
/-- an excursion has been met since the map started (R56). -/
def H.LE_PKG_SEEN : Fld := ⟨0x1421660AD, 1, 1, 1, .ro, .all 0, false⟩
/-- gap before the present excursion (R56). -/
def H.LE_PKG_GAPB : Fld := ⟨0x1421660AE, 16, 1, 16, .ro, .all 0, false⟩
/-- an excursion went before the present one (R56). -/
def H.LE_PKG_SEENB : Fld := ⟨0x1421660BE, 1, 1, 1, .ro, .all 0, false⟩
/-- every compute fold is held at THROTTLE 255 (R511). -/
def H.GL_START_HOLD : Fld := ⟨0x280002000, 1, 1, 1, .ro, .all 0, false⟩
/-- FLAT_EFF of the fold (R368). -/
def H.GL_FLAT_EFF : Fld := ⟨0x280002001, 32, 32, 32, .ro, .all 0, false⟩
/-- FLAT last sent (R368). -/
def H.GL_FLAT_SENT : Fld := ⟨0x280002401, 32, 32, 32, .ro, .all 0, false⟩
/-- COST last sent (R368). -/
def H.GL_COST_SENT : Fld := ⟨0x280002801, 32, 32, 32, .ro, .all 0, false⟩
/-- frames before a rise may be sent again (R368). -/
def H.GL_RISE_LEFT : Fld := ⟨0x280002C01, 7, 32, 7, .ro, .all 0, false⟩
/-- frames since the last round (R355). -/
def H.GL_ROUND_AGE : Fld := ⟨0x280002CE1, 13, 1, 13, .ro, .all 0, false⟩
/-- a round is due within 16 frames (R369). -/
def H.GL_ROUND_SOON : Fld := ⟨0x280002CEE, 1, 1, 1, .ro, .all 0, false⟩
/-- effective hurdle that the last round computed was made on (R369). -/
def H.GL_ROUND_E : Fld := ⟨0x280002CEF, 32, 32, 32, .ro, .all 0, false⟩
/-- effective hurdle of the last applied round (R369). -/
def H.GL_APPLIED_E : Fld := ⟨0x2800030EF, 32, 32, 32, .ro, .all 0, false⟩
/-- REVERT sent since the last applied round (R369). -/
def H.GL_REVERTED : Fld := ⟨0x2800034EF, 1, 32, 1, .ro, .all 0, false⟩
/-- the round of the present epoch has met one MISMATCH (R365). -/
def H.GL_MISM : Fld := ⟨0x28000350F, 1, 32, 1, .ro, .all 0, false⟩
/-- activity of the queue in the last four processed banks (R357). -/
def H.GL_ACT : Fld := ⟨0x28000352F, 4, 4096, 4, .ro, .all 0, false⟩
/-- a bank has been processed since the last round (R357). -/
def H.GL_BANK_SINCE : Fld := ⟨0x28000752F, 1, 1, 1, .ro, .all 0, false⟩
/-- WAITING reported for the queue, by bank (R357). -/
def H.GL_WAIT : Fld := ⟨0x280007530, 4, 4096, 4, .ro, .all 0, false⟩
/-- ledger period begun, plus 1 (R384). -/
def H.GL_PERIOD_DONE : Fld := ⟨0x28000B530, 64, 1, 64, .ro, .all 0, false⟩
/-- low byte of the bank's first period (R384). -/
def H.GL_PER0 : Fld := ⟨0x28000B570, 8, 4, 8, .ro, .all 0, false⟩
/-- frames since the bank stopped being OPEN (R384). -/
def H.GL_CLOSE_AGE : Fld := ⟨0x28000B590, 7, 4, 7, .ro, .all 0, false⟩
/-- USAGE messages entered, element 32 x bank + dispatcher (R388). -/
def H.GL_UCNT : Fld := ⟨0x28000B5AC, 16, 128, 16, .ro, .all 0, false⟩
/-- COUNT of the USAGE_END messages (R388). -/
def H.GL_UEND : Fld := ⟨0x28000BDAC, 16, 128, 16, .ro, .all 0, false⟩
/-- rails for which the bank is INEXACT (R388). -/
def H.GL_INEX_R : Fld := ⟨0x28000C5AC, 14, 4, 14, .ro, .all 0, false⟩
/-- rails with a fold throttled while the bank was OPEN (R387). -/
def H.GL_THR_SEEN : Fld := ⟨0x28000C5E4, 14, 4, 14, .ro, .all 0, false⟩
/-- rail energy since por_n, µJ with 10 fraction bits (R385). -/
def H.GL_ETOT : Fld := ⟨0x28000C61C, 74, 14, 74, .ro, .all 0, false⟩
/-- a poll of the supply has succeeded since reset (R55). -/
def H.PLAT_GOT : Fld := ⟨0x400000000, 1, 16, 1, .ro, .all 0, false⟩
/-- fraction of a µJ in the rail's shared account (R386). -/
def H.GL_SHARED_RES : Fld := ⟨0x28000CA28, 10, 14, 10, .ro, .all 0, false⟩
/-- boundaries since the last valid STATUS on the twin link, to 3 (R428). -/
def H.TWIN_ST_AGE : Fld := ⟨0x2C0000000, 2, 1, 2, .ro, .all 3, false⟩
/-- boundaries since the last valid STATUS with READY, to 3 (R408). -/
def H.TWIN_RDY_AGE : Fld := ⟨0x2C0000002, 2, 1, 2, .ro, .all 3, false⟩
/-- boundaries since the last mesh copy of twin status, to 3 (R428). -/
def H.TWIN_MESH_AGE : Fld := ⟨0x2C0000004, 2, 1, 2, .ro, .all 3, false⟩
/-- consecutive frames ended without staged outputs (R408). -/
def H.TWIN_LOST : Fld := ⟨0x2C0000006, 2, 1, 2, .ro, .all 0, false⟩
/-- the frame now running is UNCOMPARED (R405). -/
def H.TWIN_UNC : Fld := ⟨0x2C0000008, 1, 1, 1, .ro, .all 0, false⟩
/-- the frame now running has been compared (R411). -/
def H.TWIN_CMP : Fld := ⟨0x2C0000009, 1, 1, 1, .ro, .all 0, false⟩
/-- role plus 1 to be taken at the next boundary (R403). -/
def H.TWIN_NEXT_ROLE : Fld := ⟨0x2C000000A, 3, 1, 3, .ro, .all 0, false⟩
/-- DETACHED follows the hand-over one boundary later (R416). -/
def H.TWIN_DET_AFTER : Fld := ⟨0x2C000000D, 1, 1, 1, .ro, .all 0, false⟩
/-- a planned hand-over is due at the next boundary (R423). -/
def H.TWIN_SWAP_DUE : Fld := ⟨0x2C000000E, 1, 1, 1, .ro, .all 0, false⟩
/-- ATTACH written and not yet taken (R403). -/
def H.TWIN_ATTACH_REQ : Fld := ⟨0x2C000000F, 1, 1, 1, .ro, .all 0, false⟩
/-- the instance left GOVERNING by a loss (R421). -/
def H.TWIN_LOSS : Fld := ⟨0x2C0000010, 1, 1, 1, .ro, .all 0, false⟩
/-- the twin link has been without STATUS for more than 2 frames (R403). -/
def H.TWIN_LONG_GAP : Fld := ⟨0x2C0000011, 1, 1, 1, .ro, .all 0, false⟩
/-- LINK_DOWN raised for the present silence (R422). -/
def H.TWIN_LD_RAISED : Fld := ⟨0x2C0000012, 1, 1, 1, .ro, .all 0, false⟩
/-- PEER_SILENT raised for the present silence (R422). -/
def H.TWIN_PS_RAISED : Fld := ⟨0x2C0000013, 1, 1, 1, .ro, .all 0, false⟩
/-- the frame count of the last STATUS equals the own one (R401). -/
def H.TWIN_FR_EQ : Fld := ⟨0x2C0000014, 1, 1, 1, .ro, .all 0, false⟩
/-- the last STATUS names the own map digest and profile (R403). -/
def H.TWIN_PROF_EQ : Fld := ⟨0x2C0000015, 1, 1, 1, .ro, .all 0, false⟩
/-- consecutive frames of an input difference (R412). -/
def H.TWIN_IDC : Fld := ⟨0x2C0000016, 4, 142, 4, .ro, .all 0, false⟩
/-- the channel's loopback test follows an input disagreement (R417). -/
def H.TWIN_ID_TEST : Fld := ⟨0x2C000024E, 1, 142, 1, .ro, .all 0, false⟩
/-- the peer's verdict of the channel's test, its code in VERDICT (R417). -/
def H.TWIN_PEERV : Fld := ⟨0x2C00002DC, 2, 142, 2, .ro, .all 0, false⟩
/-- the channel failed on this instance (R417). -/
def H.TWIN_MARKED : Fld := ⟨0x2C00003F8, 1, 142, 1, .ro, .all 0, false⟩
/-- the peer's golden result: 1 PASS, 2 FAIL (R416). -/
def H.TWIN_PEER_GOLD : Fld := ⟨0x2C0000486, 2, 256, 2, .ro, .all 0, false⟩
/-- a snapshot waits for the next boundary (R413). -/
def H.TWIN_SN_DUE : Fld := ⟨0x2C0000686, 1, 1, 1, .ro, .all 0, false⟩
/-- its phase states (R413). -/
def H.TWIN_SN_ST : Fld := ⟨0x2C0000687, 3, 128, 3, .ro, .all 0, false⟩
/-- its c_p values (R413). -/
def H.TWIN_SN_CP : Fld := ⟨0x2C0000807, 16, 128, 16, .ro, .all 0, false⟩
/-- its compensator integrators (R413). -/
def H.TWIN_SN_INT : Fld := ⟨0x2C0001007, 33, 14, 33, .ro, .all 0, false⟩
/-- its V_ref codes (R413). -/
def H.TWIN_SN_VREF : Fld := ⟨0x2C00011D5, 9, 14, 9, .ro, .all 0, false⟩
/-- a snapshot has been loaded (R420). -/
def H.TWIN_LD_HAVE : Fld := ⟨0x2C0001253, 1, 1, 1, .ro, .all 0, false⟩
/-- phase states of the last snapshot loaded (R420). -/
def H.TWIN_LD_ST : Fld := ⟨0x2C0001254, 3, 128, 3, .ro, .all 0, false⟩
/-- c_p values of the last snapshot loaded (R420). -/
def H.TWIN_LD_CP : Fld := ⟨0x2C00013D4, 16, 128, 16, .ro, .all 0, false⟩
/-- next piece of the catch-up copy to send (R404). -/
def H.TWIN_COPY_N : Fld := ⟨0x2C0001BD4, 9, 1, 9, .ro, .all 0, false⟩
/-- image version in the peer's last STATUS (R414). -/
def H.TWIN_PEER_VER : Fld := ⟨0x2C0001BDD, 32, 1, 32, .ro, .all 0, false⟩
/-- the golden test under way was started by a mismatch (R446). -/
def H.LE_GOLD_TWIN : Fld := ⟨0x1421660BF, 1, 256, 1, .ro, .all 0, false⟩
/-- digest of the own last grant round; bit 32 marks one not yet compared (R414). -/
def H.GL_RDIG : Fld := ⟨0x28000CAB4, 33, 1, 33, .ro, .all 0, false⟩
/-- the peer's (R414). -/
def H.GL_PRDIG : Fld := ⟨0x28000CAD5, 33, 1, 33, .ro, .all 0, false⟩
/-- digest of the own processed bank; bit 32 marks one not yet compared (R414). -/
def H.GL_BDIG : Fld := ⟨0x28000CAF6, 33, 4, 33, .ro, .all 0, false⟩
/-- the peer's (R414). -/
def H.GL_PBDIG : Fld := ⟨0x28000CB7A, 33, 4, 33, .ro, .all 0, false⟩
/-- the old holder has entered JOINING since the takeover's test began (R442). -/
def H.TWIN_REJOIN : Fld := ⟨0x2C0001BFD, 1, 1, 1, .ro, .all 0, false⟩
/-- slot plus 1 whose CALC is inverted in this frame's OUTPUT packet (R459). -/
def H.FLT_INJ_SLOT : Fld := ⟨0x300023001, 9, 1, 9, .ro, .all 0, false⟩
/-- the latest word of the site was poisoned by an injection (R460). -/
def H.TH_INJ : Fld := ⟨0x2400064F1, 1, 1536, 1, .ro, .all 0, false⟩
/-- the site's reference check is a proof test (R464). -/
def H.TH_PROOF : Fld := ⟨0x240006AF1, 1, 1536, 1, .ro, .all 0, false⟩
/-- the host link is trained and REC counts within TOL (R470). -/
def H.CLK_TRAINED : Fld := ⟨0x340000000, 1, 1, 1, .ro, .all 0, false⟩
/-- the source's count windows are outside TOL (R470). -/
def H.CLK_CNT_BAD : Fld := ⟨0x340000001, 1, 5, 1, .ro, .all 0, false⟩
/-- crystal (0 A, 1 B) timed out and waiting for its restart (R471). -/
def H.CLK_XIDLE : Fld := ⟨0x340000006, 1, 2, 1, .ro, .all 0, false⟩
/-- a switch of the domain is under way (R485). -/
def H.CLK_SW : Fld := ⟨0x340000008, 1, 6, 1, .ro, .all 0, false⟩
/-- it is forced (R486). -/
def H.CLK_SW_FORCED : Fld := ⟨0x34000000E, 1, 6, 1, .ro, .all 0, false⟩
/-- its old source is the fast RC (R487). -/
def H.CLK_SW_COARSE : Fld := ⟨0x340000014, 1, 6, 1, .ro, .all 0, false⟩
/-- scopes commanded whose boundary has come, a bit each (R495). -/
def H.RST_DUE : Fld := ⟨0x480000000, 8, 1, 8, .ro, .all 0, false⟩
/-- sequence due: 1 full, por_n being low; 2 block (R496). -/
def H.RST_SEQ : Fld := ⟨0x480000008, 2, 1, 2, .ro, .all 1, false⟩
/-- SAFE_CONT of the rail (R155). -/
def H.PD_SAFE_CONT : Fld := ⟨0x180018854, 16, 14, 16, .ro, .all 0, false⟩
/-- RAMP_RATE of the rail (R155). -/
def H.PD_RAMP_RATE : Fld := ⟨0x180018934, 16, 14, 16, .ro, .all 0, false⟩
/-- a start-up sequence runs (R497). -/
def H.TOP_BOOT_ON : Fld := ⟨0x10000000C, 1, 1, 1, .ro, .all 0, false⟩
/-- time since its start, 0.1 ms (R523). -/
def H.TOP_BOOT_T : Fld := ⟨0x10000000D, 16, 1, 16, .ro, .all 0, false⟩
/-- frames of the present 0.1 ms (R523). -/
def H.TOP_BOOT_SUB : Fld := ⟨0x10000001D, 8, 1, 8, .ro, .all 0, false⟩
/-- SITES has ended (R513). -/
def H.TOP_SITES_END : Fld := ⟨0x100000025, 1, 1, 1, .ro, .all 0, false⟩
/-- Zoskare B waits for A (R506). -/
def H.TOP_WAIT_B : Fld := ⟨0x100000026, 1, 1, 1, .ro, .all 0, false⟩
/-- consecutive windows with LOAD below SHED_LO (R613). -/
def H.FW_LOW_WIN : Fld := ⟨0x38000000B, 3, 4, 3, .ro, .all 0, false⟩
/-- the restart check matched and the first KICK is awaited (R587). -/
def H.FW_CRC_OK : Fld := ⟨0x380000017, 1, 4, 1, .ro, .all 0, false⟩
/-- the image is read again for the hart (R588). -/
def H.FW_REREAD : Fld := ⟨0x38000001B, 1, 4, 1, .ro, .all 0, false⟩
/-- opcode of a command of the ring that has begun and not completed (R596). -/
def H.FW_RING_OP : Fld := ⟨0x38000001F, 8, 64, 8, .ro, .all 0, false⟩
/-- its TAG (R596). -/
def H.FW_RING_TAG : Fld := ⟨0x38000021F, 16, 64, 16, .ro, .all 0, false⟩
/-- boundary named for the commit of a live reload, plus 1; 0 none (R536). -/
def H.TOP_COMMIT_AT : Fld := ⟨0x100000027, 64, 1, 64, .ro, .all 0, false⟩
/-- the standby has passed or refused the mirrored reload (R536). -/
def H.TOP_PEER_PASS : Fld := ⟨0x100000067, 1, 1, 1, .ro, .all 0, false⟩
/-- frames since the own pass of a live reload (R536). -/
def H.TOP_OWN_AGE : Fld := ⟨0x100000068, 13, 1, 13, .ro, .all 0, false⟩
/-- the live reload began while this instance governed (R541). -/
def H.TOP_RUN_HOLD : Fld := ⟨0x100000075, 1, 1, 1, .ro, .all 0, false⟩
/-- this instance has refused the mirrored reload (R427). -/
def H.TOP_REL_REFUSED : Fld := ⟨0x100000076, 1, 1, 1, .ro, .all 0, false⟩
/-- a profile request is held until the live reload has committed (R539). -/
def H.TOP_REQ_HELD : Fld := ⟨0x100000077, 1, 1, 1, .ro, .all 0, false⟩
/-- profile preparation: 1 under way, 2 ended, 3 committed at the last boundary (R538). -/
def H.TOP_PREP_ST : Fld := ⟨0x100000078, 2, 1, 2, .ro, .all 0, false⟩
/-- SRC as the load under way took it (R526). -/
def H.TOP_LOAD_SRC : Fld := ⟨0x10000007A, 1, 1, 1, .ro, .all 0, false⟩
/-- RING as the load under way took it (R526). -/
def H.TOP_LOAD_RING : Fld := ⟨0x10000007B, 6, 1, 6, .ro, .all 0, false⟩
/-- SECDED state of the stored word: 0 clean, 1 single-bit error, 2 uncorrectable, plus 4 where injected (R558). -/
def H.STORE_ECC : Fld := ⟨0x440000000, 3, 262144, 3, .ro, .all 0, false⟩
/-- row plus 1 that holds the failing word of the bank (R449). -/
def H.STORE_FROW : Fld := ⟨0x4400C0000, 12, 16, 12, .ro, .all 0, false⟩
/-- row replaced by a spare row (R561). -/
def H.STORE_RETIRED : Fld := ⟨0x4400C00C0, 1, 4096, 1, .ro, .all 0, false⟩
/-- an access waits for the bank's wake (R566). -/
def H.STORE_BUSYW : Fld := ⟨0x4400C10C0, 1, 16, 1, .ro, .all 0, false⟩
/-- interface version of the image that runs (R600). -/
def H.FW_IF_VER : Fld := ⟨0x38000061F, 16, 1, 16, .ro, .all 0, false⟩
/-- 0 a group is to start, 1 it ramps, 2 RAMP_GAP runs (R508). -/
def H.TOP_RAMP_ST : Fld := ⟨0x100000081, 2, 1, 2, .ro, .all 0, false⟩
/-- power-good reached since the last boundary (R508). -/
def H.PD_PG_NEW : Fld := ⟨0x180018A14, 1, 14, 1, .ro, .all 0, false⟩
/-- the phase channel failed self-calibration; derated from the first ramp (R500). -/
def H.PD_CAL_BAD : Fld := ⟨0x180018A22, 1, 128, 1, .ro, .all 0, false⟩
/-- the rail channel failed self-calibration; the rail stays off (R500). -/
def H.PD_CAL_RBAD : Fld := ⟨0x180018AA2, 1, 14, 1, .ro, .all 0, false⟩
/-- the bank is in retention (R566). -/
def H.STORE_ASLEEP : Fld := ⟨0x4400C10D0, 1, 16, 1, .ro, .all 0, false⟩
/-- slot that the last flush chose, or the newest committed one at the restore (R629). -/
def H.TALLY_LAST_SLOT : Fld := ⟨0x3C0000000, 7, 1, 7, .ro, .all 127, false⟩
/-- a flush has been asked for and not started (R630). -/
def H.TALLY_PEND : Fld := ⟨0x3C0000007, 1, 1, 1, .ro, .all 0, false⟩
/-- the entry at the consumer index is not yet written; the next doorbell is waited for (R592). -/
def H.FW_RING_WAIT : Fld := ⟨0x38000062F, 1, 64, 1, .ro, .all 0, false⟩
/-- flash stream under way: 1 map, 2 image, 3 image to run (R602). -/
def H.FW_FLASH_OP : Fld := ⟨0x38000066F, 2, 1, 2, .ro, .all 0, false⟩
/-- its ring (R602). -/
def H.FW_FLASH_RING : Fld := ⟨0x380000671, 6, 1, 6, .ro, .all 0, false⟩
/-- the mailbox timer runs (R606). -/
def H.FW_MB_TIMER : Fld := ⟨0x380000677, 1, 16, 1, .ro, .all 0, false⟩
/-- VOUT_MODE as read when the supply was enabled (R642). -/
def H.PLAT_VMODE : Fld := ⟨0x400000010, 8, 16, 8, .ro, .all 0, false⟩
/-- consecutive failed polls, at most 3 (R644). -/
def H.PLAT_FAILS : Fld := ⟨0x400000090, 2, 16, 2, .ro, .all 0, false⟩
/-- POUT exceeded POUT_MAX in the last cycle (R644). -/
def H.PLAT_OVERP : Fld := ⟨0x4000000B0, 1, 16, 1, .ro, .all 0, false⟩
/-- PLDM terminus ID (R648). -/
def H.PLAT_TID : Fld := ⟨0x4000000C0, 8, 1, 8, .ro, .all 0, false⟩
/-- endpoint that takes PlatformEventMessages; 0 none (R650). -/
def H.PLAT_RECEIVER : Fld := ⟨0x4000000C8, 8, 1, 8, .ro, .all 0, false⟩
/-- READY, fault_n high, trip, CAP_LOW as H3 last saw them (R650). -/
def H.PLAT_EV_STATE : Fld := ⟨0x4000000D0, 4, 1, 4, .ro, .all 0, false⟩
/-- a cap has come into force and H3 has not yet told of it (R650). -/
def H.PLAT_CAP_EV : Fld := ⟨0x4000000D4, 1, 1, 1, .ro, .all 0, false⟩
/-- H1 has restarted and has not yet published a round (R612). -/
def H.GL_RESTARTED : Fld := ⟨0x28000CBFE, 1, 1, 1, .ro, .all 0, false⟩
/-- intents and cancels that have arrived for the coming boundary (R290). -/
def H.BW_ARRIVED : Fld := ⟨0x2000016CD, 9, 1, 9, .ro, .all 0, false⟩
/-- switched off with a fence due in the same period: bit 0 by its judgement, bit 1 by repeated short circuit (R240). -/
def H.PD_OFF_DUE : Fld := ⟨0x180018AB0, 2, 128, 2, .ro, .all 0, false⟩
/-- the present period carries a pulse of the pulse test (R442). -/
def H.PD_TEST_ON : Fld := ⟨0x180018BB0, 1, 128, 1, .ro, .all 0, false⟩
/-- the frame's input set has not been taken into what the boundary forms from it (R405). -/
def H.TWIN_FORM_DUE : Fld := ⟨0x2C0001BFE, 1, 1, 1, .ro, .all 0, false⟩
/-- the holder's output of the slot is known for the next boundary (R261). -/
def H.LE_FWD : Fld := ⟨0x1421661BF, 1, 256, 1, .ro, .all 0, false⟩
/-- that output (R261). -/
def H.LE_FWD_OUT : Fld := ⟨0x1421662BF, 16, 256, 16, .ro, .all 0, false⟩
/-- a sample of the phase was converted in the frame now running (R65). -/
def H.PD_SAMP : Fld := ⟨0x180018C30, 1, 128, 1, .ro, .all 0, false⟩
/-- the same in the frame whose set is latched (R399). -/
def H.PD_SAMPL : Fld := ⟨0x180018CB0, 1, 128, 1, .ro, .all 0, false⟩
/-- latched set: the earlier of the rail's last two conversions (R399). -/
def H.PD_LAT0 : Fld := ⟨0x180018D30, 18, 14, 18, .ro, .all 0, false⟩
/-- latched set: the later one (R399). -/
def H.PD_LAT1 : Fld := ⟨0x180018E2C, 18, 14, 18, .ro, .all 0, false⟩
/-- the frame's input set is the own latched one (R405). -/
def H.TWIN_OWN_SET : Fld := ⟨0x2C0001BFF, 1, 1, 1, .ro, .all 0, false⟩
/-- digest in the last INPUT packet (R399). -/
def H.TWIN_IN_DIG : Fld := ⟨0x2C0001C00, 32, 1, 32, .ro, .all 0, false⟩
/-- the inputs of the frame now running have been compared (R412). -/
def H.TWIN_ID_SEEN : Fld := ⟨0x2C0001C20, 1, 1, 1, .ro, .all 0, false⟩
/-- the first piece of a catch-up copy has come in this JOINING (R404). -/
def H.TWIN_COPY_SEEN : Fld := ⟨0x2C0001C21, 1, 1, 1, .ro, .all 0, false⟩
/-- a hand-over that a verdict orders is due at the next boundary (R416). -/
def H.TWIN_VSWAP : Fld := ⟨0x2C0001C22, 1, 1, 1, .ro, .all 0, false⟩
/-- boundary at which the holder commits the profile, 0 while it has not named one (R427). -/
def H.TOP_PROF_AT : Fld := ⟨0x100000083, 64, 1, 64, .ro, .all 0, false⟩
/-- CRC-32C register over the messages that arrive for the coming boundary (R399). -/
def H.BW_CRC : Fld := ⟨0x2000016D6, 32, 1, 32, .ro, .all 4294967295, false⟩
/-- CRC-32C of the messages latched at the last boundary (R399). -/
def H.BW_DIGEST : Fld := ⟨0x2000016F6, 32, 1, 32, .ro, .all 0, false⟩
/-- FOLD_PARAM is due to every dispatcher, a map or profile having committed (R367). -/
def H.GL_PARAM_DUE : Fld := ⟨0x28000CBFF, 1, 1, 1, .ro, .all 0, false⟩
/-- REVERT sent to the fold since the last round (R393). -/
def H.GL_REV_SINCE : Fld := ⟨0x28000CC00, 1, 32, 1, .ro, .all 0, false⟩
/-- ledger adds that wait in the DMA port for the bank's wake (R554). -/
def H.STORE_DMAQ : Fld := ⟨0x4400C10E0, 7, 16, 7, .ro, .all 0, false⟩
/-- THRESH is due to a fold's cells, a map having committed (R537). -/
def H.CROOK_THR_DUE : Fld := ⟨0x1C0020787, 1, 64, 1, .ro, .all 0, false⟩
/-- level of pin xspi_rst_n: low for the first 10 µs after por_n falls (R639). -/
def H.RST_XSPI_RST_N : Fld := ⟨0x48000000A, 1, 1, 1, .ro, .all 0, false⟩
/-- the ring's command has ended, and its completion waits for a slot or for its hart (R595). -/
def H.FW_CPL_DUE : Fld := ⟨0x380000687, 1, 64, 1, .ro, .all 0, false⟩
/-- STATUS of that completion (R595). -/
def H.FW_CPL_STATUS : Fld := ⟨0x3800006C7, 8, 64, 8, .ro, .all 0, false⟩
/-- RESULT0 of that completion (R595). -/
def H.FW_CPL_R0 : Fld := ⟨0x3800008C7, 32, 64, 32, .ro, .all 0, false⟩
/-- RESULT1 of that completion (R595). -/
def H.FW_CPL_R1 : Fld := ⟨0x3800010C7, 32, 64, 32, .ro, .all 0, false⟩

/-- First address of the hidden state of block number `b` in the order top, LE, PD, Crook, Bellwether, thermal, grants, twin,
faults, clocks, firmware, Tally, platform, Store, resets. -/
def hiddenLo (b : Nat) : Nat := 0x100000000 + b * 0x40000000

end Sys2Proof.Machine
end

