-- ==== Sys2Proof/Machine/State.lean ====
section
/-! DEFINITION. The state of one Zoskare instance, as plain data, its value after reset, and the reasons a step can stop. -/

namespace Sys2Proof.Machine

/-- What is fused or strapped, and never changes in service (R1, R4, R458, R664). -/
structure Ident where
  /-- ZK-4 in the OX4, or ZK-2 in the OX2 -/
  zk4 : Bool
  /-- Zoskare B on I/O die 1, or A on I/O die 0 -/
  instB : Bool
  /-- silicon stepping (R664) -/
  stepMajor : Nat
  stepMinor : Nat
  /-- FIELD_LOCK is blown (R458) -/
  fieldLock : Bool
deriving DecidableEq, Repr

/-- Messages on the sideband mesh that this instance sends (R282, R347, R362, R444, R40). -/
inductive MeshMsg where
  | frameSync (frame : Nat)
  | thresh (fold code : Nat)
  | config (fold hyst maxStretch fallback minHold stuckFrames : Nat)
  | cellEn (cell : Nat) (en : Bool)
  | crookTest (cell : Nat)
  | echo (cell : Nat)
  | delay (cell comp : Nat)
  | sweep (paddock tag : Nat) (testSite : Option Nat)
  | band (ctrl b : Nat)
  | optFf (engine v : Nat)
  | optAllow (engine heater laser : Nat)
  | tileFence (flock tile : Nat)
  | tileUnfence (flock tile : Nat)
  | stileOff (flock : Nat)
  | stileOn (flock : Nat)
  | grant (queue epoch rate : Nat) (active : Bool)
  | round (fold epoch count : Nat)
  | foldParam (fold flat cost : Nat)
  | throttle (fold level cause : Nat)
  | revert (fold epoch : Nat)
  | weights (bytes : List Nat)
  | period (p : Nat)
  | probe (token source : Nat)
  | twinStatus (role : Nat) (ready : Bool)
  /-- sent by a Crook cell to both instances -/
  | cellTrip (cell : Nat)
  | cellReport (cell : Nat) (r : CellReport)
  | echoReply (cell : Nat)
deriving DecidableEq, Repr

/-- An agent that takes mesh messages (R40). -/
inductive Endpoint where
  | dispatcher (f : Nat)
  | router (fl : Nat)
  | cell (c : Nat)
  | site (k : Nat)
  | ctrl (k : Nat)
  | engine (e : Nat)
  | zoskare
deriving DecidableEq, Repr

/-- Levels of a pwm net (R227). -/
inductive PwmLevel where
  | low
  | high
  | mid
deriving DecidableEq, Repr

/-- What leaves the block: mesh messages, twin packets, pulses, pins, interrupts, answers on the board interfaces. -/
inductive Msg where
  | mesh (dest : List Endpoint) (m : MeshMsg)
  | twinStatus (p : StatusPkt)
  | twinInput (p : InputPkt)
  | twinOutput (p : OutputPkt)
  | mirror (p : MirrorPkt)
  | bulk (p : BulkPkt)
  /-- one switching period of a phase: level, start after the rail's period reference, width of the high part -/
  | pwm (phase : Nat) (level : PwmLevel) (start width : Nat)
  | nmi (hart : Nat)
  | hartEvent (hart code : Nat)
  | hostIrq (bits : Nat)
  | flashOp (code addr : Nat) (bytes : List Byte)
  | pmbus (port addr cmd : Nat)
  /-- an answer on I3C: a direct CCC answer or an MCTP or PLDM response (R647–R651) -/
  | i3c (bytes : List Nat)
  | ibi (byte : Nat)
  | psc (what : Nat)
deriving DecidableEq, Repr

/-- The answer to the latest access: its outcome, and data where it returns any (R659, R666). -/
inductive Resp where
  | none
  | ok
  | data (v : Nat)
  | bytes (b : List Byte)
  /-- a write refused and counted, with its CAUSE code (R465) -/
  | refused (cause : Nat)
  | busError
  | poison
deriving DecidableEq, Repr

/-- What a staged change does when it commits (R81). The step number is the row of the commit table. -/
inductive StagedAct where
  /-- an RWW field, with R15's clamps (step 2) -/
  | field (f : Fld) (i v : Nat)
  | hostCap (fold v : Nat)
  /-- ZK_CAP_BMC.CAP, own or mirrored from the peer (R546, R650) -/
  | capBmc (v : Nat) (peer : Bool)
  | modeReq (slot mode : Nat)
  | manual (slot v : Nat)
  /-- a held write of R195: byte offset of the word, value, mask of the bits addressed -/
  | held (off v mask : Nat)
  | restart (rail : Nat)
  | clearSafe (rail : Nat)
  | phaseFence (phase : Nat) (on : Bool)
  | crookTest (cell : Nat)
  | tileFence (tile : Nat) (on : Bool)
  | cellEnable (cell : Nat) (on : Bool)
  | clearSource (src : Nat)
  | runTest (src : Nat)
  /-- a reset commanded by ZK_RST_CMD: 0 LE, 1 TWIN, 2 BLOCK, 4 to 7 HART k (R495) -/
  | reset (scope : Nat)
  | swap
  | attach
  | detach
  | enClear
deriving DecidableEq, Repr

/-- A staged change and the number of boundaries still to pass before the one at which it commits (R80). -/
structure Staged where
  skip : Nat
  act : StagedAct
deriving DecidableEq, Repr

/-- An ordinary-class mesh message not yet complete at every target (R377, R378). -/
structure Outstanding where
  id : Nat
  msg : MeshMsg
  targets : List Endpoint
  tries : Nat
  /-- NOBUF was met and a resend is due -/
  retry : Bool
  /-- frames still to pass before the resend (R378) -/
  gap : Nat
deriving DecidableEq, Repr

/-- Mesh port: the number for the next message, the ordinary messages not complete, the reserved-class messages waiting
for a credit (R375–R378). -/
structure MeshPort where
  nextId : Nat
  outstanding : List Outstanding
  waiting : List (Endpoint × MeshMsg)
deriving DecidableEq, Repr

/-- An entry of Bellwether's schedule (R285, R289). `start` is the absolute start frame; `latched` the boundary at which the
intent was latched; a cancelled entry leaves at the next boundary. -/
structure SchedEntry where
  fold : Nat
  start : Int
  tileKind : Nat
  format : Nat
  opclass : Nat
  tiles : Nat
  duration : Nat
  tag : Nat
  latched : Nat
  cancelled : Bool := false
deriving DecidableEq, Repr

/-- A word of the sample FIFO (R569, R570): source id, END mark, poison tag, payload. -/
structure FifoWord where
  id : Nat
  fin : Bool
  poison : Bool
  payload : Nat
deriving DecidableEq, Repr

/-- A sweep of a paddock (R319): its run frame, the readings that have arrived (site, VALID, TEMP), and whether it is
closed. -/
structure Sweep where
  paddock : Nat
  tag : Nat
  frame : Nat
  readings : List (Nat × Bool × Nat)
  closed : Bool
deriving DecidableEq, Repr

/-- The loader and the maps (R94, R524–R541). -/
structure MapState where
  /-- bytes of the flash map region (R504); what follows them is erased -/
  flash : List Byte
  /-- bytes of the flash image region (R504); what follows them is erased -/
  image : List Byte
  /-- bytes of an image received over ring 0 under the safe governor (R518) -/
  upload : List Byte
  /-- bytes of the map being read, from a ring or the flash -/
  stream : List Byte
  /-- a LAST chunk has come, or a ring fault of R93 has ended the reading -/
  last : Bool
  ringFault : Bool
  /-- a map that has passed and waits for its commit boundary, with the profile it starts in -/
  shadow : Option MapImg
  /-- the map in force -/
  live : Option MapImg
  /-- records of the profile in force, decoded -/
  recs : List Rec
deriving DecidableEq, Repr

/-- An event in the faults block's queue to H3 (R457). -/
structure FltEvent where
  source : Nat
  state : Nat
  cls : Nat
deriving DecidableEq, Repr

/-- A record waiting for the Tally's writer (R623): channel, severity, code, two data words, whether by injection. -/
structure TallyReq where
  channel : Nat
  severity : Nat
  code : Nat
  data : List Nat
  injected : Bool := false
deriving DecidableEq, Repr

/-- A mirror slot of the Tally in flash (R628): its number, the trailer's GEN, SECONDS, CYCLES, DROPPED and NEXT_SEQ, and its
image of the Tally region, as the Store's cells. -/
structure MirrorSlot where
  slot : Nat
  gen : Nat
  seconds : Nat
  cycles : Nat
  dropped : Nat
  nextSeq : Nat
  image : List Host.Cell
deriving DecidableEq, Repr

/-- A Zoskare instance. -/
structure State where
  ident : Ident
  /-- registers, and fields that no register shows, that differ from their reset values, by rising address -/
  regs : List (Nat × Nat)
  /-- the Store's bytes that are not 0 (R549) -/
  store : List Host.Cell
  map : MapState
  staged : List Staged
  mesh : MeshPort
  sched : List SchedEntry
  sweeps : List Sweep
  /-- words of the sample FIFO, oldest first -/
  fifo : List FifoWord
  fltQueue : List FltEvent
  tallyQueue : List TallyReq
  /-- requests staged before the Tally is restored (R634) -/
  tallyStage : List TallyReq
  /-- mirror slots in flash that carry COMMIT (R628, R631) -/
  mirror : List MirrorSlot
  /-- the flush under way, with the region as it stood at its start (R629) -/
  flush : Option MirrorSlot
  /-- shadows of R11: port and register pair with the latched high word -/
  shadows : List (Requester × Nat × Nat)
  /-- what the block has sent, newest first -/
  out : List Msg
  resp : Resp
  /-- uses of free values so far (Config.freeWord) -/
  free : Nat
  /-- commands waiting, first in first out -/
  pending : List Instr
deriving DecidableEq, Repr

/-- Why a step stops. No command of the table stops the machine: the type has one constructor, which nothing raises, and
is safe. -/
inductive Fault where
  /-- raised by nothing; safe -/
  | unreachable
deriving DecidableEq, Repr

/-- Why a command has no next state. -/
inductive Refusal where
  /-- raised by an arm of exec whose command has no meaning yet; safe -/
  | notModelled (mnemonic : String)
deriving DecidableEq, Repr

/-- The state right after reset: every register at the word of R665, the Store reading 0, nothing in progress. The
configuration and the instance are straps: DESIGN CHOICE, assumption 4. -/
def State.reset : State :=
  { ident := { zk4 := true, instB := false, stepMajor := 1, stepMinor := 0, fieldLock := true }
    regs := []
    store := []
    map := { flash := [], image := [], upload := [], stream := [], last := false, ringFault := false, shadow := none, live := none, recs := [] }
    staged := []
    mesh := { nextId := 0, outstanding := [], waiting := [] }
    sched := []
    sweeps := []
    fifo := []
    fltQueue := []
    tallyQueue := []
    tallyStage := []
    mirror := []
    flush := none
    shadows := []
    out := []
    resp := .none
    free := 0
    pending := [] }

end Sys2Proof.Machine
end

