-- ==== Sys2Proof/Machine/Ops.lean ====
section
/-! DEFINITION. The named operations over the state: register fields, the Store's bytes and words, the frame counter, the
requesters, what the block sends, free values. -/

namespace Sys2Proof.Machine

/-! ## Sparse maps by rising key -/

/-- The value at a key. -/
def amGet {α : Type} (k : Nat) : List (Nat × α) → Option α
  | [] => none
  | (k', v) :: t => if k = k' then some v else amGet k t

/-- The map without a key. -/
def amErase {α : Type} (k : Nat) : List (Nat × α) → List (Nat × α)
  | [] => []
  | (k', v) :: t => if k = k' then amErase k t else (k', v) :: amErase k t

/-- The map with a key set. -/
def amPut {α : Type} (k : Nat) (v : α) : List (Nat × α) → List (Nat × α)
  | [] => [(k, v)]
  | (k', v') :: t =>
    if k < k' then (k, v) :: (k', v') :: t
    else if k = k' then (k, v) :: t
    else (k', v') :: amPut k v t

/-- Keys strictly rising. -/
def amSorted {α : Type} : List (Nat × α) → Bool
  | [] => true
  | [_] => true
  | (k, _) :: (k', v') :: t => decide (k < k') && amSorted ((k', v') :: t)

/-! ## Register fields -/

/-- The places of two fields never meet: their address ranges are apart, or they lie at different places of one stride. -/
def Fld.apart (f g : Fld) : Bool :=
  decide (0 < f.stride) && decide (0 < g.stride)
    && (decide (f.base + f.stride * f.cnt ≤ g.base) || decide (g.base + g.stride * g.cnt ≤ f.base)
      || (decide (f.stride = g.stride) && decide (f.base % f.stride ≠ g.base % f.stride)))

/-- Field `f`, element `i` in a register file: a value of the field's width. An element that the field does not have reads
as reset. -/
def regsRd (regs : List (Nat × Nat)) (f : Fld) (i : Nat) : Nat :=
  if i < f.cnt then (amGet (f.key i) regs).getD (f.resetAt i) % 2 ^ f.wid else f.resetAt i % 2 ^ f.wid

/-- Field `f`, element `i`. -/
def State.rd (s : State) (f : Fld) (i : Nat) : Nat := regsRd s.regs f i

/-- The register file with field `f`, element `i` set to `v` cut to the field's width; an element that the field does not
have takes nothing. -/
def regsWr (regs : List (Nat × Nat)) (f : Fld) (i v : Nat) : List (Nat × Nat) :=
  if i < f.cnt then
    (if v % 2 ^ f.wid = f.resetAt i then amErase (f.key i) regs else amPut (f.key i) (v % 2 ^ f.wid) regs)
  else regs

/-- Field `f`, element `i` written. -/
def State.wr (s : State) (f : Fld) (i v : Nat) : State := { s with regs := regsWr s.regs f i v }

/-- A one-bit field as a Boolean. -/
def State.bit (s : State) (f : Fld) (i : Nat) : Bool := s.rd f i == 1

/-- A one-bit field written from a Boolean. -/
def State.wrB (s : State) (f : Fld) (i : Nat) (b : Bool) : State := s.wr f i (b2n b)

/-- A field read as two's complement. -/
def State.rdS (s : State) (f : Fld) (i : Nat) : Int := toS f.wid (s.rd f i)

/-- A signed value written to a field, cut to its width. -/
def State.wrS (s : State) (f : Fld) (i : Nat) (x : Int) : State := s.wr f i (ofS f.wid x)

/-- A counter raised by `n`, saturating at its width (R25). -/
def State.inc (s : State) (f : Fld) (i n : Nat) : State := s.wr f i (satAdd f.wid (s.rd f i) n)

/-- Field `f` written for every element of a list, by a function of the element. -/
def State.wrAll (s : State) (f : Fld) (l : List Nat) (v : Nat → Nat) : State :=
  l.foldl (fun t i => t.wr f i (v i)) s

/-- A function of the state run over a list of indices. -/
def State.each (s : State) (l : List Nat) (g : State → Nat → State) : State := l.foldl g s

/-- The elements of a field that differ from their reset value, rising. -/
def State.touched (s : State) (f : Fld) : List Nat :=
  s.regs.filterMap (fun e =>
    if f.base ≤ e.1 && e.1 < f.base + f.stride * f.cnt && (e.1 - f.base) % f.stride = 0 then
      some ((e.1 - f.base) / f.stride) else none)

/-- Every field element of an address range back at its reset value. -/
def State.clearRange (s : State) (lo hi : Nat) : State :=
  { s with regs := s.regs.filter (fun e => !(decide (lo ≤ e.1) && decide (e.1 < hi))) }

/-- Every element of a field back at its reset value. -/
def State.clearFld (s : State) (f : Fld) : State :=
  { s with regs := s.regs.filter (fun e =>
      !(decide (f.base ≤ e.1) && decide (e.1 < f.base + f.stride * f.cnt) && (e.1 - f.base) % f.stride == 0)) }

/-- A list of fields back at their reset values. -/
def State.clearFlds (s : State) (fs : List Fld) : State := fs.foldl State.clearFld s

/-- One element of each of a list of fields back at its reset value. -/
def State.clearElems (s : State) (fs : List Fld) (i : Nat) : State := fs.foldl (fun t f => t.wr f i (f.resetAt i)) s

/-- A function applied when a condition holds. -/
def State.when (s : State) (c : Bool) (g : State → State) : State := if c then g s else s

/-! ## The Store's memory -/

/-- Bytes of the Store (R549). -/
def storeSize : Nat := 0x100000

/-- The canonical form of a memory: addresses inside the Store and strictly rising, and no byte listed that equals what an
unlisted address reads as. -/
abbrev Memory.wf (m : List Host.Cell) : Prop :=
  (amSorted m && m.all (fun c => decide (c.1 < storeSize) && c.2 != 0)) = true

/-- A byte of the Store; an unlisted one reads 0. -/
def memGet (m : List Host.Cell) (a : Nat) : Byte := (amGet a m).getD 0

/-- A byte of the Store written; an address outside the Store changes nothing. -/
def memPut (m : List Host.Cell) (a : Nat) (v : Byte) : List Host.Cell :=
  if a < storeSize then (if v = 0 then amErase a m else amPut a v m) else m

/-- Bytes written from an address on. -/
def memPutBytes (m : List Host.Cell) (a : Nat) : List Byte → List Host.Cell
  | [] => m
  | b :: t => memPutBytes (memPut m a b) (a + 1) t

/-- `n` bytes from an address on. -/
def memGetBytes (m : List Host.Cell) (a : Nat) : Nat → List Byte
  | 0 => []
  | n + 1 => memGet m a :: memGetBytes m (a + 1) n

/-- The little-endian value of `n` bytes of the Store. -/
def State.ld (s : State) (a n : Nat) : Nat := leBytes (memGetBytes s.store a n)

/-- The SECDED marks of the words that a write from `a` covers whole are gone: the write stores fresh check bits (R558). -/
def State.clearEcc (s : State) (a n : Nat) : State :=
  { s with regs := s.regs.filter (fun e =>
      !(decide (H.STORE_ECC.key ((a + 3) / 4) ≤ e.1) && decide (e.1 < H.STORE_ECC.key (min ((a + n) / 4) (storeSize / 4)))
        && (e.1 - H.STORE_ECC.base) % H.STORE_ECC.stride == 0)) }

/-- `n` little-endian bytes written to the Store. -/
def State.st (s : State) (a n v : Nat) : State :=
  ({ s with store := memPutBytes s.store a (toLeBytes n v) } : State).clearEcc a n

/-- Bytes written to the Store. -/
def State.stBytes (s : State) (a : Nat) (b : List Byte) : State :=
  ({ s with store := memPutBytes s.store a b } : State).clearEcc a b.length

/-! ## What the block sends and answers -/

/-- A message sent. -/
def State.send (s : State) (m : Msg) : State := { s with out := m :: s.out }

/-- The answer to the latest access. -/
def State.answer (s : State) (r : Resp) : State := { s with resp := r }

/-- A free value of `w` bits (assumption 2), and the state with the counter moved on. -/
def State.freeVal (s : State) (w : Nat) : Nat := (Config.freeWord s.free).toNat % 2 ^ w

/-- The counter of free values moved on. -/
def State.freeStep (s : State) : State := { s with free := s.free + 1 }

/-! ## Common readings -/

/-- The number of the present frame (R58). -/
def State.frame (s : State) : Nat := s.rd R.FRAME_COUNT 0

/-- ZK-4 in the OX4, or ZK-2 in the OX2. -/
def State.zk4 (s : State) : Bool := s.ident.zk4

/-- ZK_RUN.EN. -/
def State.runEn (s : State) : Bool := s.bit R.RUN_EN 0

/-- ZK_RUN.STATE is RUNNING (R524). -/
def State.running (s : State) : Bool := s.rd R.RUN_STATE 0 == 2

/-- Roles (R402). -/
def State.role (s : State) : Nat := s.rd R.TWIN_STATUS_ROLE 0

/-- This instance holds the Gate and drives (R53, R402). -/
def State.holder (s : State) : Bool := s.role == 4

/-- A record in force. -/
def State.rec? (s : State) (t k : Nat) : Option Rec := findRec s.map.recs t k

/-- The records in force of a type. -/
def State.recsOf (s : State) (t : Nat) : List Rec := ofType s.map.recs t

/-- Folds that the map in force declares, in record order (R122). -/
def State.folds (s : State) : List Nat := (s.recsOf 0x0102).map (fun r => r.u8 4)

/-- Compute folds that the map declares, in fold order (R355). -/
def State.cfolds (s : State) : List Nat := sortBy id (s.folds.filter (fun f => foldKind s.zk4 f == 1))

/-- Rails that the Phase Driver has phases for: those of the latest map, which its registers keep (R259, R263). -/
def State.rails (s : State) : List Nat := (List.range 14).filter (fun r => s.rd R.PD_RAIL_CFG_COUNT r != 0)

/-- Folds that a rail supplies, among those declared (R31). -/
def State.foldsOf (s : State) (r : Nat) : List Nat := s.folds.filter (fun f => foldRail s.zk4 f == r)

/-- Slots in force, rising. -/
def State.slots (s : State) : List Nat := sortBy id ((s.recsOf 0x0301).map (fun r => r.u8 4))

/-- Paddocks that the map declares. -/
def State.paddocks (s : State) : List Nat := (s.recsOf 0x0103).map (fun r => r.u8 4)

/-- Phases of a rail as RAIL_MASK has them, rising. -/
def State.phasesOf (s : State) (r : Nat) : List Nat := setBits 128 (s.rd R.PD_RAIL_MASK_MASK r)

/-! ## Requesters -/

/-- The requester is the Warden (R26, R542). -/
def State.warden (s : State) (q : Requester) : Bool :=
  match q with
  | .psc => true
  | .hart k => k == 0 && s.bit R.WARDEN_OPEN 0
  | .host => false
  | .bmc => false

/-- Requester code (R465, R655). -/
def State.reqCode (s : State) (q : Requester) : Nat :=
  match q with
  | .psc => 0
  | .hart k => if k == 0 && s.bit R.WARDEN_OPEN 0 then 1 else 2
  | .host => 3
  | .bmc => 4

/-- Drover firmware makes the access (R545). -/
def Requester.isHart (q : Requester) : Bool :=
  match q with
  | .hart _ => true
  | _ => false

/-! ## The mesh port (R375–R378) -/

/-- Number of an endpoint, for the credit counters. -/
def Endpoint.num : Endpoint → Nat
  | .dispatcher f => f
  | .router fl => 32 + fl
  | .cell c => 96 + c
  | .ctrl k => 928 + k
  | .engine e => 940 + e
  | .zoskare => 948
  | .site k => 1024 + k

/-- The endpoint of a number. -/
def endpointOf (n : Nat) : Endpoint :=
  if n < 32 then .dispatcher n
  else if n < 96 then .router (n - 32)
  else if n < 928 then .cell (n - 96)
  else if n < 940 then .ctrl (n - 928)
  else if n < 948 then .engine (n - 940)
  else if n < 1024 then .zoskare
  else .site (n - 1024)

/-- A waiting state command that a newer one of the same MSG and key replaces (R376). -/
def replaces (new old : MeshMsg) : Bool :=
  match new, old with
  | .throttle f _ _, .throttle g _ _ => f == g
  | .thresh f _, .thresh g _ => f == g
  | .config f _ _ _ _ _, .config g _ _ _ _ _ => f == g
  | .band c _, .band d _ => c == d
  | _, _ => false

/-- A reserved-class message to one endpoint: sent on a credit, or kept waiting for one (R375, R376). -/
def State.sendRes1 (s : State) (m : MeshMsg) (e : Endpoint) : State :=
  if s.rd H.GL_SPENT e.num < 2 then
    (s.wr H.GL_SPENT e.num (s.rd H.GL_SPENT e.num + 1)).send (.mesh [e] m)
  else
    let w := s.mesh.waiting
    let w' := if w.any (fun x => x.1 == e && replaces m x.2)
      then w.map (fun x => if x.1 == e && replaces m x.2 then (e, m) else x)
      else w ++ [(e, m)]
    { s with mesh := { s.mesh with waiting := w' } }

/-- A reserved-class message to each of several endpoints. -/
def State.sendRes (s : State) (m : MeshMsg) (es : List Endpoint) : State := es.foldl (fun t e => t.sendRes1 m e) s

/-- An ordinary-class message, complete for each target separately (R377). -/
def State.sendOrd (s : State) (m : MeshMsg) (es : List Endpoint) : State :=
  if es.isEmpty then s
  else
    { s with
      mesh := { s.mesh with
        nextId := s.mesh.nextId + 1
        outstanding := s.mesh.outstanding ++ [⟨s.mesh.nextId, m, es, 0, false, 0⟩] }
      out := .mesh es m :: s.out }

/-- The outcome of a meaning that always goes on. -/
def State.go (s : State) : Host.Outcome State Fault Refusal := .next s

/-- The frame group runs on the fast RC, with frames of 1,250 ns (R479). -/
def State.slowFrames (s : State) : Bool := s.bit R.CLK_STATUS_ON_FRC 0

/-- Frames in a millisecond: 2,000, or 800 on the fast RC (R479). -/
def State.msFrames (s : State) : Nat := if s.slowFrames then 800 else 2000

/-- Bank of a Store address (R549). -/
def bankOf (a : Nat) : Nat := a / 65536 % 16

/-- An instance that lets go of the Gate sends no reserved-class command that still waits for a credit (R53, R362). -/
def State.stopSending (s : State) : State := { s with mesh := { s.mesh with waiting := [] } }

/-- A block's clock is on (R489). -/
def State.clocked (s : State) (b : Nat) : Bool := bitOf (s.rd R.CLK_EN_EN 0) b

end Sys2Proof.Machine
end

