-- ==== Sys2Proof/Machine/Flags.lean ====
section
/-! DEFINITION. Faults and notices: host interrupts and ring completions (R592–R604), records queued to the Tally's writer
(R623, R634), the sources of R430 with their states, counts, tests and verdicts (R431–R457), and what a source releases on
reaching CLEAR (R439). -/

namespace Sys2Proof.Machine

/-! ## Host interrupts and completions -/

/-- A bit of ZK_HOST_IRQ (R614). -/
def irqFld : Nat → Fld
  | 0 => R.HOST_IRQ_CPL
  | 1 => R.HOST_IRQ_EVENT
  | 2 => R.HOST_IRQ_MBOX
  | 3 => R.HOST_IRQ_MBOX_ACK
  | 4 => R.HOST_IRQ_LOG
  | _ => R.HOST_IRQ_UNATT

/-- Set bit `b` of ZK_HOST_IRQ; where it becomes 1 and the mask has it, MSI-X vector `b` is sent (R614). -/
def State.hostIrq (s : State) (b : Nat) : State :=
  let s1 := s.wr (irqFld b) 0 1
  if !s.bit (irqFld b) 0 && bitOf (s.rd R.HOST_IRQ_MASK_MASK 0) b then s1.send (.hostIrq b) else s1

/-- Hart `k` runs or sleeps, so it takes work (R614). -/
def State.hartUp (s : State) (k : Nat) : Bool := decide (s.rd R.FW_HART_STAT_STATE k < 2)

/-- Entries of the completion queue that the host has not returned (R595). -/
def State.cplHeld (s : State) (r : Nat) : Nat :=
  (s.rd R.RING_POS_CPL_TAIL r + 65536 - s.rd R.RING_DB_CPL_HEAD r) % 65536

/-- The completion queue holds SIZE entries not returned (R595). -/
def State.cplFull (s : State) (r : Nat) : Bool := decide (2 ^ s.rd R.RING_CFG_CPL_LOG2 r ≤ s.cplHeld r)

/-- Write a completion entry and move CPL_TAIL on (R592, R594). -/
def State.postCpl (s : State) (r tag status op r0 r1 : Nat) : State :=
  let i := s.rd R.RING_POS_CPL_TAIL r
  let a := 16 * s.rd R.RING_CPL_BASE_BASE r + 16 * (i % 2 ^ s.rd R.RING_CFG_CPL_LOG2 r)
  let e := toLeBytes 2 i ++ toLeBytes 2 tag ++ toLeBytes 1 status ++ toLeBytes 1 op ++ toLeBytes 2 0
    ++ toLeBytes 4 r0 ++ toLeBytes 4 r1
  ((s.stBytes a e).wr R.RING_POS_CPL_TAIL r ((i + 1) % 65536)).hostIrq 0

/-! ## Records for the Tally's writer -/

/-- Queue a record to the writer (R623), or to the staging buffer before the restore ends (R634). -/
def State.tally (s : State) (ch sev code d0 d1 : Nat) (inj : Bool := false) : State :=
  let q : TallyReq := ⟨ch, sev, code, [d0, d1], inj⟩
  if s.bit R.TALLY_STAT_RESTORED 0 then
    if s.tallyQueue.length < 16 then { s with tallyQueue := s.tallyQueue ++ [q] }
    else s.inc R.TALLY_DROPPED_DROPPED 0 1
  else if s.tallyStage.length < 64 then { s with tallyStage := s.tallyStage ++ [q] }
  else s.inc R.TALLY_DROPPED_DROPPED 0 1

/-- The records queued after the first `n` go to the writer in rising channel order, those of one channel as they were queued. -/
def inChannelOrder (n : Nat) (l : List TallyReq) : List TallyReq := l.take n ++ sortBy (·.channel) (l.drop n)

/-- The records that `t` has queued since `s` reach the writer together (R625; that those of one boundary do is DEDUCED, assumption 38). -/
def State.recordsTogether (s t : State) : State :=
  { t with
    tallyQueue := inChannelOrder s.tallyQueue.length t.tallyQueue
    tallyStage := inChannelOrder s.tallyStage.length t.tallyStage }

/-! ## Fault sources -/

/-- Kind and index of a source number (R430). -/
def srcKind (n : Nat) : Option (Nat × Nat) :=
  if n < 0x100 then some (0x00, n)
  else if n < 0x180 then some (0x01, n - 0x100)
  else if n < 0x18E then some (0x02, n - 0x180)
  else if n < 0x19C then some (0x03, n - 0x18E)
  else if n < 0x21C then some (0x04, n - 0x19C)
  else if n < 0x25C then some (0x05, n - 0x21C)
  else if n < 0x2DC then some (0x06, n - 0x25C)
  else if n < 0x2E4 then some (0x07, n - 0x2DC)
  else if n < 0x2E8 then some (0x08, n - 0x2E4)
  else if n < 0x2EC then some (0x09, n - 0x2E8)
  else if n < 0x2FC then some (0x0A, n - 0x2EC)
  else if n < 0x31C then some (0x0B, n - 0x2FC)
  else if n < 0x35C then some (0x0C, n - 0x31C)
  else if n < 0x368 then some (0x0D, n - 0x35C)
  else if n < 0x36C then some (0x0E, n - 0x368)
  else if n < 0x372 then some (0x0F, n - 0x36C)
  else if n < 0x382 then some (0x10, n - 0x372)
  else if n = 0x382 then some (0x11, 0)
  else if n < 0x400 then none
  else if n < 0x700 then some (0x12, n - 0x400)
  else if n < 0xA40 then some (0x13, n - 0x700)
  else if n < 0xE80 then some (0x14, n - 0xA40)
  else none

/-- First source number of a kind (R430). -/
def srcBase : Nat → Nat
  | 0x00 => 0
  | 0x01 => 0x100
  | 0x02 => 0x180
  | 0x03 => 0x18E
  | 0x04 => 0x19C
  | 0x05 => 0x21C
  | 0x06 => 0x25C
  | 0x07 => 0x2DC
  | 0x08 => 0x2E4
  | 0x09 => 0x2E8
  | 0x0A => 0x2EC
  | 0x0B => 0x2FC
  | 0x0C => 0x31C
  | 0x0D => 0x35C
  | 0x0E => 0x368
  | 0x0F => 0x36C
  | 0x10 => 0x372
  | 0x11 => 0x382
  | 0x12 => 0x400
  | 0x13 => 0x700
  | _ => 0xA40

/-- A source whose element the package has (R5, R430). -/
def srcPresent (zk4 : Bool) (n : Nat) : Bool :=
  match srcKind n with
  | none => false
  | some (k, i) =>
    if k = 0x01 ∨ k = 0x04 then decide (i < Machine.phaseCount zk4)
    else if k = 0x02 then railPresent zk4 i
    else if k = 0x05 then diodePresent zk4 i
    else if k = 0x0B then decide (i < computeFolds zk4)
    else if k = 0x0C then decide (i < flockCount zk4)
    else if k = 0x0D then ctrlPresent zk4 i
    else if k = 0x12 then decide (i < if zk4 then 768 else 384)
    else if k = 0x13 then cellPresent zk4 i
    else if k = 0x14 then sitePresent zk4 i
    else true

/-- Site of a tile (R315, R338). -/
def tileSite (t : Nat) : Nat := 240 * (t / 192) + 15 * (t % 192 / 12) + t % 12

/-- Tile of a site, for the sites that lie in tiles (R315). -/
def siteTile (k : Nat) : Option Nat :=
  if k < 960 ∧ k % 15 < 12 then some (192 * (k / 240) + 12 * (k % 240 / 15) + k % 15) else none

/-- Slot in force that owns an output kind and index (R134). -/
def State.owner (s : State) (kind ix : Nat) : Option Nat :=
  s.slots.find? (fun l => s.rd R.LE_SLOT_OUTSEL_OUT_KIND l == kind && s.rd R.LE_SLOT_OUTSEL_OUT_INDEX l == ix)

/-- Divider in force of a slot (R73, R76, R219). -/
def State.divider (s : State) (l : Nat) : Nat :=
  let d := s.rd R.LE_SLOT_CFG_DIV l
  if s.bit R.LE_SLOT_CFG_NEAR l then 2 ^ (d / 16) else 2 ^ (d % 16)

/-- Sweep period and offset of a paddock (R318). -/
def State.sweepPlan (s : State) (p : Nat) : Nat × Nat :=
  match s.owner 0x04 p with
  | some l => (s.divider l, s.rd R.LE_SLOT_CFG_OFFSET l)
  | none => (128, p)

/-- The latched temperature of a paddock is at or above LEVEL; 0xFF names no paddock (R327, R330). -/
def State.atLevel (s : State) (p : Nat) : Bool :=
  decide (p < 128) && decide (s.rdS R.TH_PAD_HURDLE_LEVEL p ≤ s.rdS R.TH_PAD_TEMP_TEMP p)

/-- The kind's holding condition (R430, R436). -/
def State.holding (s : State) (n : Nat) : Bool :=
  match srcKind n with
  | none => false
  | some (k, i) =>
    match k with
    | 0x00 => s.bit R.LE_SLOT_MODE_PLAUS_HOLD i
    | 0x02 => s.bit R.PD_RAIL_STAT_OVERLOAD i || s.bit R.PD_RAIL_STAT_SAFE_LATCH i
    | 0x06 => s.bit R.TH_PAD_STAT_BLIND i
    | 0x07 => s.bit R.TH_OPT_STAT_OVER i
    | 0x0D => s.bit R.TH_BAND_STAT_STALE i
    | 0x0E =>
      if i = 0 then !s.bit R.TWIN_STATUS_LINK_UP 0 && s.bit R.TWIN_STATUS_MESH_UP 0
      else if i = 1 then
        !s.bit R.TWIN_STATUS_LINK_UP 0 && !s.bit R.TWIN_STATUS_MESH_UP 0 && s.bit R.TWIN_STATUS_GATE_PEER 0
      else false
    | 0x0F => s.bit R.CLK_STATUS_ON_FRC i
    | 0x11 => s.bit R.TH_TRIP_LATCHED 0
    | 0x12 => s.atLevel (s.rd R.TH_SITE_PADDOCK (tileSite i))
    | 0x13 => s.bit H.CROOK_REP_STUCK i
    | 0x14 => s.rd R.TH_SITE_STATE i == 5
    | _ => false

/-- Time limit of a kind's test, in frames; of the restart check from the release of the hart's reset, of the re-count until the loop
has locked (R442). -/
def State.testLimit (s : State) (k i : Nat) : Nat :=
  match k with
  | 0x00 => 16
  | 0x01 => if s.rd R.PD_PH_STAT_STATE i = 5 then 32 else 8
  | 0x02 => 8
  | 0x03 => 8
  | 0x04 => 8
  | 0x05 => 24
  | 0x06 => 4
  | 0x07 => 8
  | 0x08 => 4096
  | 0x09 => 16 * s.msFrames
  | 0x0A => 4096
  | 0x0B => 8
  | 0x0C => 8
  | 0x0D => 8
  | 0x0E =>
    if i = 2 then s.rd R.FLT_KIND_QUIET_QUIET 0x0E
    else if i = 3 then 2 * s.rd R.GL_CTRL_GRANT_PERIOD 0
    else 8
  | 0x0F => 2 * s.msFrames
  | 0x10 => 100 * s.msFrames
  | 0x11 => 24
  | 0x12 => 2 * (s.sweepPlan (s.rd R.TH_SITE_PADDOCK (tileSite i))).1 + 3
  | 0x13 => 8
  | _ => 2 * (s.sweepPlan (s.rd R.TH_SITE_PADDOCK i)).1 + 3

/-- Rail whose SENSE_CH is a channel (R263), among the declared ones. -/
def State.senseRail (s : State) (c : Nat) : Option Nat :=
  s.rails.find? (fun r => s.rd R.PD_RAIL_CFG_SENSE_CH r == c)

/-- What the start of a kind's test does (R442, R443, R446). -/
def State.testAction (s : State) (k i : Nat) : State :=
  match k with
  | 0x00 => ((s.wr H.LE_GOLD_J i 0).wr H.LE_GOLD_OK i 1).wr H.LE_GOLD_TWIN i 0
  | 0x01 =>
    if s.rd R.PD_PH_STAT_STATE i = 5 then s.when s.holder (fun t => t.wr H.PD_TEST_PULSE i 4)
    else s.wr H.PD_LOOP_PH i 1
  | 0x02 => s.wr H.PD_LOOP_RAIL i 1
  | 0x03 => match s.senseRail i with | some r => s.wr H.PD_LOOP_RAIL r 1 | none => s
  | 0x04 => s.wr H.PD_LOOP_PH i 1
  | 0x06 => s.when s.holder (fun t => t.wr H.TH_RESWEEP i 1)
  | 0x12 => s.wr H.TH_REF_DUE (tileSite i) 1
  | 0x13 => s.when s.holder (fun t => t.sendRes1 (.crookTest i) (.cell i))
  | 0x14 => s.wr H.TH_REF_DUE i 1
  | _ => s

/-- Start a source's targeted test, unless one is pending (R442). -/
def State.startTest (s : State) (n : Nat) : State :=
  match srcKind n with
  | none => s
  | some (k, i) =>
    if s.bit H.FLT_TEST_PEND n then s
    else (((((s.wr H.FLT_TEST_PEND n 1).wr H.FLT_TEST_LEFT n (s.testLimit k i)).wr H.FLT_PROBES n 0).wr
      H.FLT_PROBE_GOT n 0).wr H.FLT_RESULT n 0).testAction k i

/-- End a source's test (R442). -/
def State.endTest (s : State) (n : Nat) : State :=
  let s1 := (s.wr H.FLT_TEST_PEND n 0).wr H.FLT_TEST_LEFT n 0
  match srcKind n with
  | some (0x01, i) => (s1.wr H.PD_TEST_PULSE i 0).wr H.PD_LOOP_PH i 0
  | some (0x02, i) => s1.wr H.PD_LOOP_RAIL i 0
  | some (0x03, i) => match s.senseRail i with | some r => s1.wr H.PD_LOOP_RAIL r 0 | none => s1
  | some (0x04, i) => s1.wr H.PD_LOOP_PH i 0
  | some (0x06, i) => s1.wr H.TH_RESWEEP i 0
  | some (0x12, i) => s1.wr H.TH_REF_DUE (tileSite i) 0
  | some (0x14, i) => s1.wr H.TH_REF_DUE i 0
  | _ => s1

/-- Source word 0 (R468). -/
def State.srcWord (s : State) (n : Nat) : Nat :=
  s.rd R.FLT_SRC_STATE_STATE n * 2 ^ 29 + s.rd R.FLT_SRC_STATE_CLASS n * 2 ^ 27
    + s.rd R.FLT_SRC_STATE_VERDICT n * 2 ^ 25 + s.rd R.FLT_SRC_STATE_INJECTED n * 2 ^ 24
    + s.rd R.FLT_SRC_STATE_EVENTS n * 2 ^ 16 + s.rd R.FLT_SRC_STATE_QUIET_LEFT n

/-- Severity of a channel-4 record: CORRECTED 0, CONTAINED 1, SEVERE 2, FATAL 3 (R456). -/
def State.srcSeverity (s : State) (n : Nat) : Nat :=
  let st := s.rd R.FLT_SRC_STATE_STATE n
  if st = 5 then 3 else if st = 4 then 2 else min 1 (s.rd R.FLT_SRC_STATE_CLASS n)

/-- Channel-4 record of a source (R456, R621). -/
def State.srcRecord (s : State) (n : Nat) : State :=
  s.tally 4 (s.srcSeverity n)
    (s.rd R.FLT_SRC_STATE_STATE n + 8 * s.rd R.FLT_SRC_STATE_CLASS n + 32 * s.rd R.FLT_SRC_STATE_VERDICT n)
    n (65536 * s.rd R.FLT_SRC_STATE_EVENTS n + s.rd R.FLT_SRC_STATE_QUIET_LEFT n) (s.bit R.FLT_SRC_STATE_INJECTED n)

/-- H3 posts one event as an EVENT completion, or counts it lost (R604). -/
def State.postEvent (s : State) (e : FltEvent) : State :=
  let r := s.rd R.HOST_STAT_NOTIFY_RING 0
  if s.bit R.HOST_STAT_ATTACHED 0 && s.rd H.FW_FEATURES 0 % 2 == 1 && s.bit R.RING_CFG_EN r then
    if s.cplFull r then s.inc R.HOST_STAT_EV_LOST 0 1
    else (s.postCpl r 0xFFFF 0 0xE0 (s.srcWord e.source) (e.source * 2 ^ 20 + s.frame % 2 ^ 20)).hostIrq 1
  else s

/-- H3, while it runs, takes every queued event (R457, R604). -/
def State.drainEvents (s : State) : State :=
  if s.hartUp 3 then (s.fltQueue.foldl State.postEvent { s with fltQueue := [] }) else s

/-- Queue a state change to H3; a full queue loses its oldest event (R457). -/
def State.pushEvent (s : State) (e : FltEvent) : State :=
  let q := s.fltQueue ++ [e]
  let s1 := if 64 < q.length then ({ s with fltQueue := q.tail }).inc R.FLT_STATUS_QLOST 0 1
    else { s with fltQueue := q }
  s1.drainEvents

/-- The last change registers, and the event to H3, after a source changed its state (R457, R465). -/
def State.noteChange (s : State) (n : Nat) : State :=
  let st := s.rd R.FLT_SRC_STATE_STATE n
  let c := s.rd R.FLT_SRC_STATE_CLASS n
  let k := match srcKind n with | some (k, _) => k | none => 0
  (((((s.wr R.FLT_LAST_STATE 0 st).wr R.FLT_LAST_CLASS 0 c).wr R.FLT_LAST_KIND 0 k).wr R.FLT_LAST_SOURCE 0 n).wr
    R.FLT_LAST_FRAME_FRAME 0 s.frame).pushEvent ⟨n, st, c⟩

/-- A source's state set and the change noted. -/
def State.enterState (s : State) (n st : Nat) : State := (s.wr R.FLT_SRC_STATE_STATE n st).noteChange n

/-- The non-maskable event to all four harts (R457). -/
def State.nmiAll (s : State) : State := (List.range 4).foldl (fun t k => t.send (.nmi k)) s

/-- Count one event of a source: RAISED of its kind, EVENTS and the window (R450, R467). -/
def State.countEvent (s : State) (n k : Nat) : State :=
  let s1 := s.inc R.FLT_KIND_QUIET_RAISED k 1
  if s.rd R.FLT_SRC_COUNT_WIN_LEFT n = 0 then
    (s1.wr R.FLT_SRC_COUNT_WIN_LEFT n (max 1 (s.rd R.FLT_KIND_ESC_W k))).wr R.FLT_SRC_STATE_EVENTS n 1
  else s1.inc R.FLT_SRC_STATE_EVENTS n 1

/-- An event of class `cls` (0 CORRECTED, 1 CONTAINED, 2 FATAL) of source `n` (R432, R435, R437, R450, R456). -/
def State.raise (s : State) (n cls : Nat) (inj : Bool := false) : State :=
  match srcKind n with
  | none => s
  | some (k, _) =>
    if !srcPresent s.zk4 n then s
    else
      let st := s.rd R.FLT_SRC_STATE_STATE n
      let old := s.rd R.FLT_SRC_STATE_CLASS n
      let c := if st = 0 then cls else max old cls
      let s1 := ((s.countEvent n k).wrB R.FLT_SRC_STATE_INJECTED n inj).wr R.FLT_SRC_STATE_CLASS n c
      let nlim := s.rd R.FLT_KIND_ESC_N k
      let s2 := s1.when (nlim != 0 && decide (nlim ≤ s1.rd R.FLT_SRC_STATE_EVENTS n) && decide (st < 4) && cls != 2)
        (fun t => t.wr H.FLT_SEV_DUE n 1)
      let s3 :=
        if cls = 2 then
          if st = 5 then s2.startTest n
          else (((s2.wr H.FLT_SEV_DUE n 0).startTest n).enterState n 5).nmiAll
        else if st = 1 then s2
        else if st = 4 ∨ st = 5 then s2.startTest n
        else (s2.startTest n).enterState n 1
      s3.when (decide (st = 0) || decide (old < c)) (fun t => t.srcRecord n)

/-- One injection has been made (R459, R465). -/
def State.injected (s : State) : State :=
  let n := s.rd R.FLT_INJ_STAT_DONE 0 + 1
  (s.wr R.FLT_INJ_STAT_DONE 0 n).when (decide (s.rd R.FLT_INJ_COUNT 0 ≤ n)) (fun t => t.wr R.FLT_INJ_ARM 0 0)

/-- An injection at a target is armed (R459). -/
def State.injecting (s : State) (target : Nat) : Bool := s.bit R.FLT_INJ_ARM 0 && s.rd R.FLT_INJ_TARGET 0 == target

/-- An event of a kind's element. -/
def State.fault (s : State) (k i cls : Nat) (inj : Bool := false) : State := s.raise (srcBase k + i) cls inj

/-- A word of the Store read with a SECDED error, 1 single-bit or 2 uncorrectable, plus 4 where an injection made it: a single
one is corrected and written back, an uncorrectable one is recorded (R449, R558, R559, R577). -/
def State.eccEvent (s : State) (word e : Nat) : State :=
  let b := word / 16384 % 16
  let inj := decide (4 ≤ e)
  if e % 4 = 1 then
    (((s.wr H.STORE_ECC word 0).inc R.STORE_STAT_CE 0 1).wr H.STORE_FROW b (word / 64 + 1)).fault 0x0A b 0 inj
  else if e % 4 = 2 then
    (((((s.wr H.STORE_ECC word e).inc R.STORE_STAT_UE 0 1).wr R.STORE_UE_VALID 0 1).wr R.STORE_UE_ADDR 0 word).wr H.STORE_FROW b
      (word / 64 + 1)).fault 0x0A b 1 inj
  else s

/-- The word at a Store address holds an uncorrectable error. -/
def State.poisoned (s : State) (a : Nat) : Bool := s.rd H.STORE_ECC (a / 4) % 4 == 2

/-- A client of the DMA port reads the words of a range: the errors it meets act (R558, R559). -/
def State.dmaRead (s : State) (a n : Nat) : State :=
  (s.touched H.STORE_ECC).foldl (fun (t : State) (k : Nat) =>
    t.when (decide (a / 4 ≤ k) && decide (4 * k < a + n)) (fun u => u.eccEvent k (s.rd H.STORE_ECC k))) s

/-- Some word of a range holds an uncorrectable error. -/
def State.poisonedIn (s : State) (a n : Nat) : Bool :=
  (s.touched H.STORE_ECC).any (fun k => decide (a / 4 ≤ k) && decide (4 * k < a + n) && s.rd H.STORE_ECC k % 4 == 2)

/-- Re-rank the pulsing phases of a rail (R228, R265). -/
def State.rerank (s : State) (r : Nat) : State :=
  let ph := s.phasesOf r
  let on := ph.filter (fun p => let st := s.rd R.PD_PH_STAT_STATE p; st == 1 || st == 2 || st == 4)
  ph.foldl (fun t p => t.wr R.PD_PH_STAT_RANK p
    (match on.findIdx? (· == p) with | some i => i | none => 0xFF)) s

/-- Some phase of the rail is neither OFF, FENCED nor UNALLOCATED (R262). -/
def State.railOn (s : State) (r : Nat) : Bool :=
  (s.phasesOf r).any (fun p => let st := s.rd R.PD_PH_STAT_STATE p; st == 1 || st == 2 || st == 3 || st == 4)

/-- A FENCED phase released to FALLOW, or to OFF while its rail is OFF (R239). -/
def State.unfence (s : State) (p : Nat) : State :=
  if s.rd R.PD_PH_STAT_STATE p = 5 then
    (((s.wr R.PD_PH_STAT_STATE p (if s.railOn (s.rd R.PD_PH_STAT_RAIL p) then 3 else 0)).wr R.PD_PH_STAT_CAUSE p 0).rerank
      (s.rd R.PD_PH_STAT_RAIL p))
  else s

/-- A derated phase back in the share loop, with c_p = 0 (R258). -/
def State.underate (s : State) (p : Nat) : State :=
  if s.bit R.PD_PH_STAT_DERATED p then (s.wr R.PD_PH_STAT_DERATED p 0).wr R.PD_PH_DUTY_SHARE p 0 else s

/-- Sites of a paddock in force (R123). -/
def State.padSites (s : State) (p : Nat) : List Nat :=
  match s.rec? 0x0103 p with
  | some r => r.sites
  | none => []

/-- Counts of a paddock's sites in ZK_TH_PAD_STAT (R351). -/
def State.recount (s : State) (p : Nat) : State :=
  let st := (s.padSites p).map (fun k => s.rd R.TH_SITE_STATE k)
  ((s.wr R.TH_PAD_STAT_SUSPECT p (st.count 2)).wr R.TH_PAD_STAT_FAILED p (st.count 3)).wr R.TH_PAD_STAT_EXCLUDED p (st.count 4)

/-- Paddocks that name a diode channel (R329). -/
def State.diodePads (s : State) (d : Nat) : List Nat := s.paddocks.filter (fun p => s.rd R.TH_PAD_CFG_DIODE p == d)

/-- What ends at the boundary at which a source reaches CLEAR (R439). -/
def State.release (s : State) (n : Nat) : State :=
  match srcKind n with
  | some (0x00, i) =>
    if s.bit R.LE_SLOT_MODE_PLAUS_HOLD i || s.bit H.LE_HOLD_GOLD i || s.bit H.LE_HOLD_SEV i then
      ((((s.when (s.bit R.LE_SLOT_MODE_PLAUS_HOLD i) (fun t => t.wr R.LE_SLOT_PLAUS_RUN_CNT i 0)).wr R.LE_SLOT_MODE_PLAUS_HOLD i 0).wr
        H.LE_HOLD_GOLD i 0).wr H.LE_HOLD_SEV i 0).wr H.LE_REL_FAULT i 1
    else s
  | some (0x01, i) =>
    let s1 := s.underate i
    if s.rd R.PD_PH_STAT_CAUSE i = 3 then s1
    else if s.bit R.PD_PH_CTRL_FENCE i then
      s1.when (s.rd R.PD_PH_STAT_STATE i == 5) (fun t => t.wr R.PD_PH_STAT_CAUSE i 3)
    else s1.unfence i
  | some (0x05, i) =>
    (s.wr R.TH_DIODE_FAILED i 0).wrAll R.TH_PAD_STAT_DIODE_FAIL (s.diodePads i) (fun _ => 0)
  | some (0x12, i) => s.wr H.TH_HOT i (if s.atLevel (s.rd R.TH_SITE_PADDOCK (tileSite i)) then s.rd H.TH_HOT i else 0)
  | some (0x13, i) => s.wr R.CROOK_CELL_STUCK i 0
  | some (0x14, i) => (s.clearElems [H.TH_SFAIL, H.TH_SUSC, H.TH_HIGHC] i).when (s.rd R.TH_SITE_STATE i == 3)
      (fun t => (t.wr R.TH_SITE_STATE i 1).recount (s.rd R.TH_SITE_PADDOCK i))
  | _ => s

/-- A source to CLEAR: RECOVERIES counts, its reactions end, a record and an event are written (R435, R439, R452, R456). -/
def State.toClear (s : State) (n : Nat) : State :=
  let s1 := (((s.wr R.FLT_SRC_STATE_STATE n 0).wr R.FLT_SRC_STATE_CLASS n 0).wr R.FLT_SRC_STATE_QUIET_LEFT n 0).inc
    R.FLT_SRC_COUNT_RECOVERIES n 1
  (((s1.wr H.FLT_SEV_DUE n 0).release n).srcRecord n).noteChange n

/-- QUIET of a source's kind, at least 64 (R467). -/
def State.quietOf (s : State) (n : Nat) : Nat :=
  match srcKind n with
  | some (k, _) => max 64 (s.rd R.FLT_KIND_QUIET_QUIET k)
  | none => 64

/-- Code of a verdict in VERDICT (R468). -/
def verdictCode : TestVerdict → Nat
  | .pass => 1
  | .fail => 2
  | .notRun => 3

/-- Hart that a kind's test needs, if any (R442). -/
def testHart : Nat → Nat → Option Nat
  | 0x08, _ => some 3
  | 0x0A, _ => some 3
  | 0x0E, 3 => some 1
  | _, _ => none

/-- Tests whose result the block finds itself: golden vector, resweep, probe, restart check, row pattern, site reference check, cell test,
peer rejoin, next digest (R442). -/
def ownTest (k i : Nat) : Bool :=
  [0x00, 0x06, 0x07, 0x09, 0x0A, 0x0B, 0x0C, 0x0D, 0x12, 0x13, 0x14].contains k || (k == 0x0E && (i == 2 || i == 3))

/-- por_n has risen and self-calibration is over, or a block sequence skips it (R496, R500, R519). -/
def State.calibOver (s : State) : Bool :=
  !(s.rd H.RST_SEQ 0 == 1
    || (!s.bit R.BOOT_BLOCK_START 0 && decide (s.rd R.BOOT_STEP 0 < 2))
    || (s.rd R.BOOT_STEP 0 == 9 && (s.rd R.BOOT_ERR 0 == 1 || s.rd R.BOOT_ERR 0 == 2)))

/-- This instance masters both ports, once the platform block has its clock (R646, R652). -/
def State.pmbMaster (s : State) : Bool :=
  s.calibOver && (s.holder
    || (s.rd R.TWIN_STATUS_PEER_ROLE 0 != 4 && (!s.ident.instB || s.rd R.TWIN_STATUS_PEER_ROLE 0 == 7)))

/-- The verdict of a source's test: what the block found where it finds it itself, else what the tester gives; NOT_RUN while
the hart it needs is restarting, and of a re-poll while this instance does not master the port (R442). A test that only the Gate holder carries out gives the standby the holder's verdict
(R433). None: the test has no result yet. -/
def State.heldVerdict (s : State) (n : Nat) (v : TestVerdict) : Option TestVerdict :=
  match srcKind n with
  | some (k, i) =>
    if s.rd H.FLT_RESULT n = 1 then some .pass
    else if s.rd H.FLT_RESULT n = 2 then some .fail
    else if s.rd H.FLT_RESULT n = 3 then some .notRun
    else if (match testHart k i with | some h => !s.hartUp h | none => false) then some .notRun
    else if k = 0x10 ∧ s.pmbMaster = false then some .notRun
    else if ownTest k i || (k == 0x01 && s.rd R.PD_PH_STAT_STATE i == 5 && !s.holder) then
      (if v = .notRun then some .notRun else none)
    else some v
  | none => none

/-- A verdict acts on its source (R432, R435, R437, R438, R456, R668). -/
def State.applyVerdict (s : State) (n : Nat) (v : TestVerdict) : State :=
  let st := s.rd R.FLT_SRC_STATE_STATE n
  let s1 := (s.endTest n).wr R.FLT_SRC_STATE_VERDICT n (verdictCode v)
  let s2 := s1.when (v == .fail) (fun t => t.wr R.FLT_SRC_STATE_CLASS n (max 1 (s.rd R.FLT_SRC_STATE_CLASS n)))
  if st = 1 then
    if s.bit H.FLT_SEV_DUE n then s2.srcRecord n
    else
      (((s2.wr R.FLT_SRC_STATE_STATE n (if v = .pass then 3 else 2)).wr R.FLT_SRC_STATE_QUIET_LEFT n (s.quietOf n)).srcRecord
        n).noteChange n
  else if st = 0 then
    if v = .fail then
      (((s2.wr R.FLT_SRC_STATE_STATE n 2).wr R.FLT_SRC_STATE_QUIET_LEFT n (s.quietOf n)).srcRecord n).noteChange n
    else s1
  else s2.srcRecord n

/-- fault_n is driven low (R455, R465): por_n low or self-calibration, or a source of the selected classes. -/
def State.faultN (s : State) : Bool :=
  let m := s.rd R.FLT_CTRL_FN_MIN 0
  (s.touched R.FLT_SRC_STATE_STATE).any (fun n =>
    let st := s.rd R.FLT_SRC_STATE_STATE n
    st != 0 && (if m = 1 then decide (1 ≤ s.rd R.FLT_SRC_STATE_CLASS n) || decide (4 ≤ st)
      else if m = 2 then decide (4 ≤ st) else true))

/-- The faults block holds a fence on tile `t`: TILE or CELL source LASTING or SEVERE (R440). -/
def State.fltFence (s : State) (t : Nat) : Bool :=
  let a := s.rd R.FLT_SRC_STATE_STATE (0x400 + t)
  let b := s.rd R.FLT_SRC_STATE_STATE (0x700 + t)
  a == 2 || a == 4 || b == 2 || b == 4

end Sys2Proof.Machine
end

