-- ==== Sys2Proof/Machine/Operands.lean ====
section
/-! DEFINITION. How an access is judged: clock gates, reserved space, access codes, rights (R12–R19, R490, R545, R660–R662,
R666), refusal and its account (R14, R465), and staging for a boundary (R15, R80). -/

namespace Sys2Proof.Machine

/-- Enable bit of the block whose span holds an offset (R654). -/
def enableBit (off : Nat) : Option Nat :=
  match off / 0x10000 with
  | 0x11 => some 0
  | 0x12 => some 0
  | 0x13 => some 0
  | 0x14 => some 1
  | 0x15 => some 2
  | 0x16 => some 3
  | 0x18 => some 3
  | 0x1A => some 4
  | 0x1B => some 5
  | 0x1C => some 6
  | 0x1F => some 7
  | 0x20 => some 8
  | 0x21 => some 9
  | k => if 0x30 ≤ k ∧ k < 0x40 then some 10 else none

/-- The offset lies in a block whose clock is gated (R19, R489, R661). -/
def State.gated (s : State) (off : Nat) : Bool :=
  match enableBit off with
  | some b => !bitOf (s.rd R.CLK_EN_EN 0) b
  | none => false

/-- Ranges that ZK-2 reserves (R662). -/
def zk2Reserved (off : Nat) : Bool :=
  let inR (a b : Nat) : Bool := decide (a ≤ off) && decide (off ≤ b)
  inR 0x110400 0x1105FF || inR 0x140018 0x14001F || inR 0x140028 0x14002F || inR 0x144400 0x1447FF
    || inR 0x150300 0x1504FF || inR 0x151600 0x151BFF || inR 0x151C80 0x151CFF || inR 0x160060 0x16007F
    || inR 0x161400 0x1617FF || inR 0x1A0070 0x1A009F || inR 0x1A00D0 0x1A00FF || inR 0x1A0104 0x1A0107
    || inR 0x1A010C 0x1A010F || inR 0x1A4780 0x1A4EFF || inR 0x1A4FC0 0x1A507F || inR 0x1A5100 0x1A57FF
    || inR 0x1B1100 0x1B11FF || inR 0x1B3080 0x1B30FF || inR 0x1C0088 0x1C008F

/-- Words of a source number that is reserved, or whose element the package lacks (R430, R662). -/
def sourceReserved (zk4 : Bool) (off : Nat) : Bool :=
  decide (0x1D8000 ≤ off) && decide (off < 0x1E0000) && !srcPresent zk4 ((off - 0x1D8000) / 8)

/-- The fields of the block that holds an offset, in the order of the register tables. -/
def fieldsNear (off : Nat) : List Fld := fieldsAt off

/-- Fields of the word at an offset, each with its element (R10, R665). -/
def wordFields (off : Nat) : List (Fld × Nat) :=
  let lo := 8 * (off / 4 * 4)
  (fieldsNear off).flatMap (fun f =>
    let k0 := (lo - f.base) / f.stride - 1
    ((List.range (32 / f.stride + 3)).map (fun d => k0 + d)).filterMap (fun i =>
      if i < f.cnt ∧ f.key i < lo + 32 ∧ lo < f.key i + f.wid then some (f, i) else none))

/-- The registers of the reserved fault kinds: words without a field, which ignore writes and are not reserved space (R467,
R665). -/
def blankWord (off : Nat) : Bool := decide (0x1D04A8 ≤ off) && decide (off < 0x1D0500)

/-- The word at an offset is reserved space (R5, R18, R430, R654, R662). -/
def State.reservedWord (s : State) (off : Nat) : Bool :=
  ((wordFields off).isEmpty && !blankWord off) || (!s.zk4 && zk2Reserved off) || sourceReserved s.zk4 off

/-- A refused write: counted, with its cause (R14, R465). -/
def State.refuse (s : State) (w : WCtx) (off cause : Nat) : State :=
  ((((s.inc R.FLT_REJECT_COUNT 0 1).wr R.FLT_REJECT_INFO_CAUSE 0 cause).wr R.FLT_REJECT_INFO_REQ 0 (s.reqCode w.req)).wr
    R.FLT_REJECT_INFO_OFFSET 0 off).answer (.refused cause)

/-- Mode of a slot: 0 OPEN, 1 CLOSED, 2 TRACK, 3 HOLD (R219). -/
def State.mode (s : State) (l : Nat) : Nat := s.rd R.LE_SLOT_MODE_MODE l

/-- Slot in force whose program covers a stage pool word (R219, R220). -/
def State.slotOfStage (s : State) (k : Nat) : Option Nat :=
  s.slots.find? (fun l => decide (s.rd R.LE_SLOT_PROG_STAGE_BASE l ≤ k)
    && decide (k < s.rd R.LE_SLOT_PROG_STAGE_BASE l + s.rd R.LE_SLOT_PROG_STAGE_COUNT l))

/-- Stages of a slot in the pool in force. -/
def State.progOf (s : State) (l : Nat) : List Nat :=
  (List.range (s.rd R.LE_SLOT_PROG_STAGE_COUNT l)).map (fun k => s.rd R.LE_SLOT_PROG_STAGE_BASE l + k)

/-- Slots in force that name a gain table (R176, R184): LUTGAIN stages with the table in B. -/
def State.slotsOfLut (s : State) (t : Nat) : List Nat :=
  s.slots.filter (fun l => (s.progOf l).any (fun k => s.rd R.LE_STAGE_OP k == 0x05 && s.rd R.LE_STAGE_B k == t))

/-- The RWO field may be stored now: EN is 0, or it belongs to a loop slot in OPEN (R12, R184). -/
def State.rwoOpen (s : State) (f : Fld) (i : Nat) : Bool :=
  !s.runEn ||
    (let off := f.key i / 8
     if 0x114000 ≤ off ∧ off < 0x118000 then s.mode ((off - 0x114000) / 64) == 0
     else if 0x118000 ≤ off ∧ off < 0x120000 then
       match s.slotOfStage ((off - 0x118000) / 8) with
       | some l => s.mode l == 0
       | none => false
     else if 0x120000 ≤ off ∧ off < 0x140000 then
       (s.slotsOfLut ((off - 0x120000) / 512)).all (fun l => s.mode l == 0)
     else false)

/-- Endpoint code of a requester on a mailbox (R605). -/
def Requester.endpointCode : Requester → Nat
  | .hart k => k
  | .host => 4
  | .psc => 5
  | .bmc => 6

/-- What the host driver may write (R545, R614). -/
def State.hostMay (s : State) (f : Fld) (i : Nat) : Bool :=
  let off := f.key i / 8
  f == R.LE_FOLD_HOSTCAP_HOSTCAP || f == R.LE_CAP_PAGE_PAGE || f == R.PROFILE_REQ || f == R.HOST_HB_HB
    || (decide (0x1F002C ≤ off) && decide (off < 0x1F0034)) || f == R.RING_DB_CMD_TAIL || f == R.RING_DB_CPL_HEAD
    || (decide (0x1F2000 ≤ off) && decide (off < 0x1F2200)
        && (let m := (off - 0x1F2000) / 32
            let o := off % 32
            if o < 0x14 then s.rd R.MBOX_CTRL_SENDER m == 4
            else if o < 0x18 then s.rd R.MBOX_CTRL_RECEIVER m == 4
            else decide (0x1C ≤ o) && (s.rd R.MBOX_CTRL_SENDER m == 4 || s.rd R.MBOX_CTRL_RECEIVER m == 4)))
    || ((f == R.STORE_AMO_ADDR_ADDR || f == R.STORE_AMO_ADDR_OP || f == R.STORE_AMO_DATA_DATA) && i == 4)
    || f == R.FLT_CMD_REJECT_CLR

/-- The requester has the right to write a field (R545). -/
def State.right (s : State) (q : Requester) (f : Fld) (i : Nat) : Bool :=
  s.warden q || f == R.FLT_CMD_REJECT_CLR ||
    (match q with
     | .psc => true
     | .hart _ => !(f == R.CAP_BMC_CAP)
     | .host => s.hostMay f i
     | .bmc => f == R.CAP_BMC_CAP)

/-- Value a field would take on a write of `v` (R12, R666). -/
def wouldBe (a : Acc) (cur v : Nat) : Nat :=
  match a with
  | .ro => cur
  | .w1c => cur - (cur &&& v)
  | _ => v

/-- The value a read of a writable field returns (R12). -/
def State.readBack (s : State) (f : Fld) (i : Nat) : Nat := if f.acc = .wo then 0 else s.rd f i

/-- Why a field is protected against a requester's write: its access code, or the requester's rights (R660, R666). -/
def State.protected? (s : State) (q : Requester) (f : Fld) (i : Nat) : Option Nat :=
  if f.acc = .ro then none
  else if f.acc = .rww ∧ !s.warden q then some 0
  else if f.acc = .rwo ∧ !s.rwoOpen f i then some 1
  else if !s.right q f i then some 4
  else none

/-- Offset of the word that holds element `i` of a field. -/
def Fld.word (f : Fld) (i : Nat) : Nat := f.key i / 32 * 4

/-- A register word formed from the value of each of its fields. -/
def wordFrom (off : Nat) (val : Fld → Nat → Nat) : Nat :=
  let lo := 8 * (off / 4 * 4)
  (wordFields off).foldl (fun acc x =>
    let k := x.1.key x.2
    let v := val x.1 x.2
    acc + (if lo ≤ k then (v * 2 ^ (k - lo)) % 2 ^ 32 else (v / 2 ^ (lo - k)) % 2 ^ 32)) 0

/-- Present value of a register word, from its fields. -/
def State.rawWord (s : State) (off : Nat) : Nat := wordFrom off s.rd

/-- The bits of a register word that belong to a field. -/
def fieldBits (off : Nat) : Nat := wordFrom off (fun f _ => 2 ^ f.wid - 1)

/-- A write of `v` to a word carries into each of its fields the value that a read returns (R666). -/
def State.carries (s : State) (off v : Nat) : Bool := (s.rawWord off ^^^ v) &&& fieldBits off == 0

/-- A write of its own row to the word at `off`, whose fields have one access code and one owner, as field `f` of element `i`
has: judged in the order of R660 over all the fields it addresses, then acted on (R14, R666). `same` says that it changes none of
them, `rule` is what the owner chapter requires of it. -/
def State.judgedAt (s : State) (w : WCtx) (off : Nat) (f : Fld) (i : Nat) (same rule : Bool) (act : State → State) : State :=
  if s.gated off then s.answer .busError
  else if f.cnt ≤ i ∨ s.reservedWord off then s.refuse w off 2
  else
    match s.protected? w.req f i with
    | some c => if same then s.answer .ok else s.refuse w off c
    | none => if rule then (act s).answer .ok else s.refuse w off 3

/-- One field written by a command of its own row. -/
def State.judged (s : State) (w : WCtx) (f : Fld) (i v : Nat) (rule : Bool) (act : State → State) : State :=
  s.judgedAt w (f.word i) f i (wouldBe f.acc (s.readBack f i) v == s.readBack f i) rule act

/-- Stage a change for the coming boundary, or for the one after it in the last 20 ns of a frame (R15, R80). -/
def State.stage (s : State) (w : WCtx) (a : StagedAct) : State :=
  if 192 ≤ w.cyc then
    ({ s with staged := s.staged ++ [(⟨1, a⟩ : Staged)] } : State).inc R.FRAME_STAT_DEFER_CNT 0 1
  else { s with staged := s.staged ++ [(⟨0, a⟩ : Staged)] }

/-- The staged changes of one write: a write that is deferred is counted once, whatever fields it has (R80, R87). -/
def State.stageAll (s : State) (w : WCtx) (l : List StagedAct) : State :=
  let d := if 192 ≤ w.cyc then 1 else 0
  ({ s with staged := s.staged ++ l.map (fun a => (⟨d, a⟩ : Staged)) } : State).when (d == 1 && !l.isEmpty) (fun t =>
    t.inc R.FRAME_STAT_DEFER_CNT 0 1)

/-- A command bit is accepted: it reads 1 until the boundary acts on it (R263, R428). -/
def State.stageCmd (s : State) (w : WCtx) (f : Fld) (i : Nat) (a : StagedAct) : State := (s.wr f i 1).stage w a

end Sys2Proof.Machine
end

