-- ==== Sys2Proof/Machine/Bellwether.lean ====
section
/-! DEFINITION. Bellwether: intents and the fold schedules (R285–R290), the features and networks (R291–R297), rail
forecasts (R298), the miss test (R301) and shed deferral (R302). -/

namespace Sys2Proof.Machine

/-! ## Intents -/

/-- A message that is BAD: a reserved value, its MSG byte among them, a value out of its range, or another fold than the
sender's (R41, R286). -/
def intentBad (zk4 : Bool) (d : Nat) (m : IntentMsg) : Bool :=
  let top := match m.tileKind with
    | 0 => 16
    | 1 => 6
    | 2 => 2
    | _ => 0
  decide (m.msg ≠ 1) || decide (2 < m.tileKind) || decide (9 < m.format) || decide (7 < m.opclass) || decide (m.tiles = 0)
    || decide (top < m.tiles) || decide (m.duration = 0) || decide (255 < m.duration) || decide (m.rsv ≠ 0)
    || decide (m.fold ≠ d) || !(decide (d < computeFolds zk4))

/-- The coming boundary latches no more intents (R290). -/
def State.latchFull (s : State) : Bool := decide (256 ≤ s.rd H.BW_ARRIVED 0)

/-- Entries of a fold's schedule that stand at boundary `k` (R289). -/
def State.schedAt (s : State) (f k : Nat) : List SchedEntry :=
  s.sched.filter (fun e => e.fold == f && !e.cancelled
    && (e.duration == 255 || decide ((k : Int) < e.start + (e.duration : Int))))

/-- An accepted SEQ becomes the last accepted (R287). -/
def State.acceptSeq (s : State) (f seq : Nat) : State :=
  let last := s.rd R.BW_FOLD_STAT_LAST_SEQ f
  let gap := (seq + 256 - last - 1) % 256
  let s1 := if s.bit H.BW_SEEN f then s.inc R.BW_FOLD_CNT0_GAP f gap else s
  (s1.wr R.BW_FOLD_STAT_LAST_SEQ f (seq % 256)).wr H.BW_SEEN f 1

/-- An entry added to its fold's schedule (R289). -/
def State.enterIntent (s : State) (f k : Nat) (start : Int) (m : IntentMsg) : State :=
  let mine := s.schedAt f k
  if 32 ≤ mine.length then s.inc R.BW_FOLD_CNT1_DROP f 1
  else
    let s1 := s.when (mine.any (fun e => e.tag == m.tag)) (fun t => t.inc R.BW_FOLD_CNT1_DUP_TAG f 1)
    let e : SchedEntry := ⟨f, start, m.tileKind, m.format, m.opclass, m.tiles, m.duration, m.tag, k, false⟩
    { s1 with sched := s1.sched ++ [e] }

/-- An INTENT of dispatcher `d`, latched at the coming boundary (R143, R286–R289). -/
def State.takeIntent (s : State) (d : Nat) (m : IntentMsg) : State :=
  let k := s.frame + 1
  if intentBad s.zk4 d m then s.inc R.BW_FOLD_CNT0_BAD d 1
  else if s.rd R.BW_NETMAP_NET d = 0xFF then s.inc R.BW_FOLD_CNT1_NOMAP d 1
  else if s.bit H.BW_SEEN d && !newer 8 (s.rd R.BW_FOLD_STAT_LAST_SEQ d) m.seq then s.inc R.BW_FOLD_CNT0_STALE d 1
  else
    let s1 := s.acceptSeq d m.seq
    let o := (m.start + 256 - k % 256) % 256
    if 1 ≤ o ∧ o ≤ 64 then s1.enterIntent d k ((k + o : Nat) : Int) m
    else if 65 ≤ o ∧ o ≤ 127 then s1.inc R.BW_FOLD_CNT1_FAR d 1
    else
      let back := (256 - o) % 256
      let start : Int := (k : Int) - (back : Int)
      if m.duration ≠ 255 ∧ start + (m.duration : Int) ≤ (k : Int) then s1
      else (s1.inc R.BW_FOLD_CNT0_LATE d 1).enterIntent d k start m

/-- The 12 bytes of an INTENT (R285). -/
def intentBytes (m : IntentMsg) : List Nat :=
  [m.msg, m.seq, m.fold, m.start, m.tileKind, m.format, m.opclass, m.tiles, m.duration, m.tag, m.rsv, m.rsv / 256]

/-- The 12 bytes of a CANCEL: bytes 3–8, 10 and 11 are `rsv` (R285). -/
def cancelBytes (fold tag seq rsv : Nat) : List Nat :=
  [2, seq, fold] ++ ((List.range 6).map (fun k => rsv / 256 ^ k)) ++ [tag, rsv / 256 ^ 6, rsv / 256 ^ 7]

/-- A message that arrives enters the digest of those that the coming boundary latches (R399). -/
def State.digest (s : State) (bs : List Nat) : State := s.wr H.BW_CRC 0 (bs.foldl (fun c b => crcByte c (b % 256)) (s.rd H.BW_CRC 0))

/-- An intent that arrives: dropped while EN = 0, and beyond the 256 that one boundary latches (R286, R290). -/
def State.arrive (s : State) (d : Nat) (bs : List Nat) (take : State → State) : State :=
  if !s.runEn || decide (32 ≤ d) then s
  else if s.latchFull then s.inc R.BW_FOLD_CNT1_DROP d 1
  else take ((s.digest bs).wr H.BW_ARRIVED 0 (s.rd H.BW_ARRIVED 0 + 1))

/-- Effect of INTENT. -/
def execIntent (dispatcher : Nat) (m : IntentMsg) (s : State) : Host.Outcome State Fault Refusal :=
  (s.arrive dispatcher (intentBytes m) (fun t => t.takeIntent dispatcher m)).go

/-- A CANCEL of dispatcher `d`, whose bytes 3–8, 10 and 11 are `rsv`: checked and sequenced as an intent, then every entry of
the fold with its TAG is removed (R285–R289). -/
def State.takeCancel (s : State) (d fold tag seq rsv : Nat) : State :=
  if fold ≠ d ∨ computeFolds s.zk4 ≤ d ∨ rsv ≠ 0 then s.inc R.BW_FOLD_CNT0_BAD d 1
  else if s.rd R.BW_NETMAP_NET d = 0xFF then s.inc R.BW_FOLD_CNT1_NOMAP d 1
  else if s.bit H.BW_SEEN d && !newer 8 (s.rd R.BW_FOLD_STAT_LAST_SEQ d) seq then s.inc R.BW_FOLD_CNT0_STALE d 1
  else
    let s1 := s.acceptSeq d seq
    { s1 with sched := s1.sched.map (fun e => if e.fold == d && e.tag == tag then { e with cancelled := true } else e) }

/-- Effect of CANCEL. -/
def execCancel (dispatcher fold tag : Nat) (seq : LastField) (s : State) : Host.Outcome State Fault Refusal :=
  (s.arrive dispatcher (cancelBytes fold tag seq.val seq.rsv) (fun t => t.takeCancel dispatcher fold tag seq.val seq.rsv)).go

/-- Entries that a forecast of the present frame uses: latched, and not removed. -/
def State.liveSched (s : State) : List SchedEntry := s.sched.filter (fun e => decide (e.latched ≤ s.frame))

/-- At a boundary, entries leave whose work has ended or that a CANCEL named (R289). `k` is the boundary. -/
def State.expireSched (s : State) (k : Nat) : State :=
  { s with sched := s.sched.filter (fun e =>
      !e.cancelled && (e.duration == 255 || decide ((k : Int) < e.start + (e.duration : Int)))) }

/-! ## Features and networks -/

/-- The entry is active at frame `t` (R291). -/
def SchedEntry.active (e : SchedEntry) (t : Nat) : Bool :=
  decide (e.start ≤ (t : Int)) && (e.duration == 255 || decide ((t : Int) < e.start + (e.duration : Int)))

/-- Lane `lane` selects the entry at frame `t` (R291). -/
def SchedEntry.inLane (e : SchedEntry) (lane t : Nat) : Bool :=
  match lane with
  | 0 => e.active t && e.tileKind == 0 && decide (e.opclass ≤ 5) && decide (e.format ≤ 2)
  | 1 => e.active t && e.tileKind == 0 && decide (e.opclass ≤ 5) && (e.format == 3 || e.format == 4)
  | 2 => e.active t && e.tileKind == 0 && decide (e.opclass ≤ 5) && decide (5 ≤ e.format)
  | 3 => e.active t && e.tileKind == 1 && decide (e.opclass ≤ 5)
  | 4 => e.active t && e.tileKind == 2 && decide (e.opclass ≤ 5)
  | 5 => e.active t && decide (6 ≤ e.opclass)
  | 6 => e.start == (t : Int)
  | _ => e.duration != 255 && e.start + (e.duration : Int) == (t : Int)

/-- Feature 8(h − 1) + lane of a fold (R292). -/
def State.feature (s : State) (es : List SchedEntry) (h lane : Nat) : Nat :=
  let sel := es.filter (fun e => e.inLane lane (s.frame + h))
  min 255 ((sumN (sel.map (fun e => e.tiles * s.rd R.BW_WEIGHT_BYTE (10 * e.tileKind + e.format))) + 8) / 16)

/-- The 64 features of a fold. -/
def State.features (s : State) (f : Nat) : List Nat :=
  let es := s.liveSched.filter (fun e => e.fold == f)
  (List.range 64).map (fun k => s.feature es (k / 8 + 1) (k % 8))

/-- One output of a layer before its shift (R293). -/
def State.dotOut (s : State) (d o : Nat) (xs : List Nat) : Int :=
  let w0 := s.rd R.BW_LAYER_WBASE d + s.rd R.BW_LAYER_IN d * o
  let b := s.rdS R.BW_BIAS_BIAS (s.rd R.BW_LAYER_BBASE d + o)
  b + sumI ((xs.zip (List.range xs.length)).map (fun p => s.rdS R.BW_WMEM_W (w0 + p.2) * (p.1 : Int)))

/-- The eight horizons of a fold under network `k`, in 1/8 A (R293). -/
def State.network (s : State) (k f : Nat) : List Nat :=
  let d := 2 * k
  let hid := (List.range (s.rd R.BW_LAYER_OUT d)).map (fun j =>
    (clampI 0 255 (scaleBy (s.dotOut d j (s.features f)) (s.rdS R.BW_LAYER_EXP d))).toNat)
  (List.range 8).map (fun t =>
    (clampI 0 65535 (scaleBy (s.dotOut (d + 1) t hid) (s.rdS R.BW_LAYER_EXP (d + 1) + 3))).toNat)

/-- Network of a fold whose forecast is valid (R297). -/
def State.validNet (s : State) (f : Nat) : Option Nat :=
  let k := s.rd R.BW_NETMAP_NET f
  if s.runEn && decide (k < 4) && bitOf (s.rd R.BW_STATUS_NET_VALID 0) k then some k else none

/-- The forecast fields of a fold, horizon 1 first. -/
def fcastFlds : List Fld :=
  [R.BW_FOLD_FCAST0_H1, R.BW_FOLD_FCAST0_H2, R.BW_FOLD_FCAST1_H3, R.BW_FOLD_FCAST1_H4,
   R.BW_FOLD_FCAST2_H5, R.BW_FOLD_FCAST2_H6, R.BW_FOLD_FCAST3_H7, R.BW_FOLD_FCAST3_H8]

/-- The forecast of a fold for horizon `h`, 1–8. -/
def State.fcast (s : State) (f h : Nat) : Nat :=
  match fcastFlds[h - 1]? with
  | some x => s.rd x f
  | none => 0

/-- The greatest forecast of a fold over the horizons (input kind 0x07). -/
def State.fcastMax (s : State) (f : Nat) : Nat := (fcastFlds.map (fun x => s.rd x f)).foldl max 0

/-- A fold's eight horizons written. -/
def State.setFcast (s : State) (f : Nat) (v : List Nat) : State :=
  (fcastFlds.zip v).foldl (fun t p => t.wr p.1 f p.2) s

/-- One fold evaluated (R293, R297). -/
def State.evalFold (s : State) (f : Nat) : State :=
  match s.validNet f with
  | some k => (s.setFcast f (s.network k f)).wr R.BW_FOLD_STAT_VALID f 1
  | none => (s.setFcast f (List.replicate 8 0)).wr R.BW_FOLD_STAT_VALID f 0

/-- MAC cycles of a frame (R294). -/
def State.macCycles (s : State) : Nat :=
  sumN ((List.range 4).map (fun k =>
    let n := ((List.range 64).filter (fun f => s.rd R.BW_NETMAP_NET f == k)).length
    let h := s.rd R.BW_LAYER_OUT (2 * k)
    if n = 0 then 0 else 16 * ((n * h + 63) / 64) + (h + 3) / 4 * ((8 * n + 63) / 64) + 8))

/-- A value shown in a 16-bit field: itself, or, where it does not fit and the spec states no result, a free value. -/
def State.show16 (s : State) (f : Fld) (i v : Nat) : State :=
  if v < 65536 then s.wr f i v else (s.wr f i (s.freeVal 16)).freeStep

/-- A rail's forecast for the eight horizons (R298). -/
def State.railSums (s : State) (r : Nat) : List Nat :=
  (List.range 8).map (fun h => sumN ((s.foldsOf r).map (fun f => s.fcast f (h + 1))))

/-- MAX of a rail (R313). -/
def State.showMax (s : State) (r : Nat) : State := s.show16 R.BW_RAIL_FCAST_MAX r ((s.railSums r).foldl max 0)

/-- A rail's forecast sums, MAX and the rise test (R298, R302, R313). -/
def State.evalRail (s : State) (r : Nat) : State :=
  let sums := s.railSums r
  let s1 := (sums.zip (List.range 8)).foldl (fun t p => t.wr H.BW_FRAIL (8 * r + p.2) p.1) s
  let top := sums.foldl max 0
  (s1.showMax r).wrB H.BW_RISE r (decide (s.rd H.BW_FNOW (5 * r) + 8 * max 1 (s.rd R.BW_RAIL_CTRL_RISE_MIN r) ≤ top))

/-! ## Misses -/

/-- The miss test of a rail in the present frame, for start frame s = frame − 3 (R301). -/
def State.missed (s : State) (r : Nat) : Bool :=
  let rf : Int := (s.rd H.BW_FNOW (5 * r + 3) : Int) - (s.rd H.BW_FNOW (5 * r + 4) : Int)
  let i (k : Nat) : Int := s.rdS H.BW_RI_HIST (4 * r + k)
  let rm : Int := max (i 0) (max (i 1) (i 2)) - i 3
  decide ((8 * max 1 (s.rd R.BW_RAIL_CTRL_MISS_MIN r) : Nat) ≤ rf)
    && decide (rm * 100 < (s.rd R.BW_RAIL_CTRL_MET_PCT r : Int) * rf)

/-- A miss removes the entries that start in frame − 3 in the rail's folds, and counts (R301). -/
def State.missTest (s : State) (r : Nat) : State :=
  if s.missed r then
    let fs := s.foldsOf r
    ({ s with sched := s.sched.filter (fun e =>
      !(fs.contains e.fold && e.start + 3 == (s.frame : Int) && decide (e.latched ≤ s.frame))) } : State).inc
      R.BW_RAIL_STAT_MISSES r 1
  else s

/-- Bellwether's work in a frame, done once (R294, R301, R302). -/
def State.bwOnce (s : State) : State :=
  if s.bit H.BW_DONE 0 || !s.running then s
  else
    let s1 := s.rails.foldl State.missTest s
    let s2 := s1.folds.foldl State.evalFold s1
    let s3 := s2.rails.foldl State.evalRail s2
    (s3.wr H.BW_DONE 0 1).wr H.BW_CYC_NOW 0 s3.macCycles

/-- Network whose weights hold a word of the weight memory (R310, R314). -/
def State.netOfWord (s : State) (w : Nat) : Option Nat :=
  ((List.range 8).find? (fun d =>
    let b := s.rd R.BW_LAYER_WBASE d
    let n := s.rd R.BW_LAYER_IN d * s.rd R.BW_LAYER_OUT d
    decide (0 < n) && decide (b ≤ 4 * w) && decide (4 * w < b + n))).map (· / 2)

/-- A SECDED error met in the weight memory (R296). -/
def State.weightErr (inj : Bool) (s : State) (e : WeightErr) : State :=
  match s.netOfWord e.word with
  | none => s
  | some k =>
    if e.double then
      ((s.wr R.BW_STATUS_NET_VALID 0 (setBit (s.rd R.BW_STATUS_NET_VALID 0) k false)).wr R.BW_STATUS_WEIGHT_ERR 0 1).fault
        0x08 k 1 inj
    else s.fault 0x08 k 0 inj

/-- Folds whose forecast is no longer valid lose it (R297, R312). -/
def State.dropFolds (s : State) : State :=
  ((s.touched R.BW_FOLD_STAT_VALID).filter (fun f => (s.validNet f).isNone)).foldl State.evalFold s

/-- The same where the rails' sums of this frame are formed: they follow (R297). -/
def State.dropInvalid (s : State) : State := let s1 := s.dropFolds; s1.rails.foldl State.evalRail s1

/-- The weight word that an injection names is read in this frame: it lies in a network that some fold's evaluation uses (R459). -/
def State.readsWeight (s : State) (w : Nat) : Bool :=
  !s.bit H.BW_DONE 0 && (match s.netOfWord w with
    | some k => (List.range 64).any (fun f => s.validNet f == some k && s.folds.contains f)
    | none => false)

/-- The networks of the frame, with the SECDED errors that reading their weights meets (R294–R297, R459). -/
def State.evalNets (s : State) (errs : List WeightErr) : State :=
  if s.running then
    let s1 := errs.foldl (State.weightErr false) s
    let hit := (s.injecting 3 || s.injecting 4) && s.readsWeight (s.rd R.FLT_INJ_INDEX 0)
    let s2 := s1.when hit (fun t => (t.weightErr true ⟨s.rd R.FLT_INJ_INDEX 0, s.injecting 4⟩).injected)
    let s3 := s2.bwOnce
    if errs.any (fun e => e.double) || (hit && s.injecting 4) then s3.dropInvalid else s3
  else s

/-- What Bellwether does at boundary `k`: the histories move on, SHED_DEFER is formed, STATUS shows the frame that has ended:
RUNNING where a mapped network was evaluated in it (R289, R301, R302, R310, R313); the digest of the messages latched (R399). -/
def State.bwBoundary (s : State) (k : Nat) : State :=
  let s0 := s.expireSched k
  let s1 := (List.range 14).foldl (fun t r =>
    let t1 := (List.range 4).foldl (fun u j =>
      u.wr H.BW_FNOW (5 * r + (4 - j)) (s.rd H.BW_FNOW (5 * r + (3 - j)))) t
    let t2 := (t1.wr H.BW_FNOW (5 * r) (s.rd H.BW_FRAIL (8 * r))).show16 R.BW_RAIL_FCAST_NOW r (s.rd H.BW_FRAIL (8 * r))
    let t3 := t2.wrB R.BW_RAIL_STAT_DEFER r (s.bit H.BW_RISE r || decide (0 < s.rd H.BW_TRIPC r))
    (t3.wr H.BW_TRIPC r (s.rd H.BW_TRIPC r - 1)).wr H.BW_RISE r 0) s0
  let s2 := (((s1.wrB R.BW_STATUS_RUNNING 0 (decide (0 < s.rd H.BW_CYC_NOW 0))).wr R.BW_STATUS_CYCLES 0
    (s.rd H.BW_CYC_NOW 0)).wr H.BW_DIGEST 0 (s.rd H.BW_CRC 0 ^^^ 0xFFFFFFFF)).clearElems
      [H.BW_DONE, H.BW_CYC_NOW, H.BW_ARRIVED, H.BW_CRC] 0
  s2.clearFld H.BW_FRAIL

/-- Every rail's rail current enters the miss test's history (R301). -/
def State.bwCurrents (s : State) : State :=
  (List.range 14).foldl (fun t r =>
    let t1 := (List.range 3).foldl (fun u j =>
      u.wr H.BW_RI_HIST (4 * r + (3 - j)) (s.rd H.BW_RI_HIST (4 * r + (2 - j)))) t
    t1.wrS H.BW_RI_HIST (4 * r) (rndDiv (s.rdS H.LE_IN_RAILI r) 4)) s

/-- The counters of a fold that ZK_BW_CLEAR.FOLDS and an enable set to 0 (R310, R312). -/
def bwFoldCounters : List Fld :=
  [R.BW_FOLD_CNT0_LATE, R.BW_FOLD_CNT0_STALE, R.BW_FOLD_CNT0_GAP, R.BW_FOLD_CNT0_BAD, R.BW_FOLD_CNT1_NOMAP,
   R.BW_FOLD_CNT1_DUP_TAG, R.BW_FOLD_CNT1_FAR, R.BW_FOLD_CNT1_DROP]

/-- Effect of BW_CLEAR_RAILS: a write of 1 to ZK_BW_CLEAR.RAILS. -/
def execBwClearRails (w : WCtx) (s : State) : Host.Outcome State Fault Refusal :=
  (s.judged w R.BW_CLEAR_RAILS 0 1 true (fun t => t.clearFld R.BW_RAIL_STAT_MISSES)).go

/-- Effect of BW_CLEAR_FOLDS: a write of 1 to ZK_BW_CLEAR.FOLDS. -/
def execBwClearFolds (w : WCtx) (s : State) : Host.Outcome State Fault Refusal :=
  (s.judged w R.BW_CLEAR_FOLDS 0 1 true (fun t => t.clearFlds bwFoldCounters)).go

end Sys2Proof.Machine
end

