-- ==== Sys2Proof/Machine/Image.lean ====
section
/-! DEFINITION. The Drover image: its header, segment table and signature block (R579–R582) and its verification (R583). -/

namespace Sys2Proof.Machine

/-! ## Layout -/

def imgLen (bs : List Byte) : Nat := u32At bs 0x08
def imgConfigs (bs : List Byte) : Nat := byteAt bs 0x0C
def imgVersion (bs : List Byte) : Nat := u32At bs 0x10
def imgRev (bs : List Byte) : Nat := u32At bs 0x14
def imgEntry (bs : List Byte) (k : Nat) : Nat := u32At bs (0x18 + 4 * k)
def imgSegCount (bs : List Byte) : Nat := u16At bs 0x28
def imgIfVer (bs : List Byte) : Nat := u16At bs 0x2A
def imgSigOff (bs : List Byte) : Nat := u32At bs 0x30
def imgKeySlot (bs : List Byte) : Nat := byteAt bs (imgSigOff bs) % 4

/-- An entry of the segment table (R580). -/
structure Segment where
  off : Nat
  addr : Nat
  len : Nat
  flags : Nat
deriving DecidableEq, Repr

/-- The segment table at 0x80. -/
def segTable (bs : List Byte) : List Segment :=
  (List.range (imgSegCount bs)).map (fun k =>
    ⟨u32At bs (0x80 + 16 * k), u32At bs (0x84 + 16 * k), u32At bs (0x88 + 16 * k), u32At bs (0x8C + 16 * k)⟩)

/-- ZERO and CODE of a segment, and whether a hart executes from it (R580). -/
def segZero (g : Segment) : Bool := bitOf g.flags 4
def segCode (g : Segment) : Bool := bitOf g.flags 5
def segHart (g : Segment) (k : Nat) : Bool := bitOf g.flags k

/-- Bytes that a segment puts into the Store. -/
def segBytes (bs : List Byte) (g : Segment) : List Byte :=
  if segZero g then List.replicate g.len 0 else (bs.drop g.off).take g.len

/-! ## Verification -/

/-- Check 3: MAGIC, FMT_MAJOR, SEG_COUNT, IMAGE_LEN and SIG_OFF, reserved fields. -/
def imgFormat (bs : List Byte) : Bool :=
  u32At bs 0 == 0x52565244 && u16At bs 4 == 1 && decide (1 ≤ imgSegCount bs) && decide (imgSegCount bs ≤ 16)
    && imgLen bs == imgSigOff bs + 100 && imgLen bs % 4 == 0 && decide (imgLen bs ≤ 33554432) && imgSigOff bs % 4 == 0
    && decide (imgConfigs bs < 4) && ((bs.drop 0x0D).take 3).all (fun b => b == 0)
    && ((bs.drop 0x34).take 72).all (fun b => b == 0) && (segTable bs).all (fun g => decide (g.flags < 64))

/-- Check 6 for one segment: inside the image and inside the Store's first 256 KiB. -/
def segInside (len : Nat) (g : Segment) : Bool :=
  (segZero g || decide (g.off + g.len ≤ len)) && decide (g.addr + g.len ≤ 0x40000) && g.len % 4 == 0

/-- Two segments share a byte of the Store. -/
def segOverlap (a b : Segment) : Bool :=
  decide (a.addr < b.addr + b.len) && decide (b.addr < a.addr + a.len) && decide (0 < a.len) && decide (0 < b.len)

/-- No two segments of a table overlap. -/
def segApart : List Segment → Bool
  | [] => true
  | g :: t => t.all (fun h => !segOverlap g h) && segApart t

/-- Check 6. -/
def imgSegments (bs : List Byte) : Bool :=
  let t := segTable bs
  t.all (segInside (imgLen bs)) && segApart t
    && (List.range 4).all (fun k => t.any (fun g => segCode g && segHart g k && decide (g.addr ≤ imgEntry bs k)
        && decide (imgEntry bs k < g.addr + g.len)))

/-- REASON of an image, 0 when every check passes. `answers`: the flash answers and reads without ECC error; `psc`: the
signature's verdict and the PSC's image floor (R583). -/
def imageReason (zk4 : Bool) (answers : Bool) (psc : PscAnswer) (bs : List Byte) : Nat :=
  if !answers then 7
  else if u32At bs 0x7C != crc32c (bs.take 0x7C) then 1
  else if !imgFormat bs then 2
  else if !bitOf (imgConfigs bs) (if zk4 then 1 else 0) then 3
  else if imgRev bs < psc.floor then 4
  else if !imgSegments bs then 5
  else if !psc.sigOk then 6
  else 0

end Sys2Proof.Machine
end

