-- ==== Sys2Proof/Machine/LoopEngine.lean ====
section
/-! DEFINITION. The Loop Engine: values and stages (R163–R185), a slot's run (R159, R178–R182, R186–R200), plausibility
(R206–R208), the injector (R210, R211), capture (R212, R213), golden vectors (R445, R446), modes and their holds (R191–R196,
R209, R667), and the writes of its registers that have rows of their own. -/

namespace Sys2Proof.Machine

/-! ## Values -/

/-- A mantissa and its exponent (R163). -/
abbrev Val := Int × Int

/-- Sticky conditions met in a run (R170). -/
structure Sticky where
  satP : Bool := false
  satN : Bool := false
  ovf : Bool := false
  lut : Bool := false
deriving DecidableEq, Repr

/-- Both sets of conditions. -/
def Sticky.or (a b : Sticky) : Sticky := ⟨a.satP || b.satP, a.satN || b.satN, a.ovf || b.ovf, a.lut || b.lut⟩

/-- A value held to bounds, with the saturation it meets. -/
def satTo (lo hi x : Int) : Int × Sticky :=
  if hi < x then (hi, { satP := true }) else if x < lo then (lo, { satN := true }) else (x, {})

/-- Narrowing to 18 bits (R168). -/
def narrow18 (x : Int) : Int × Sticky := satTo (-131072) 131071 x

/-- The 40-bit accumulator's clamp (R167). -/
def acc40 (x : Int) : Int × Sticky := satTo (-(2 ^ 39)) (2 ^ 39 - 1) x

/-- Alignment to exponent `e` (R166). -/
def alignTo (v : Val) (e : Int) : Int × Sticky := narrow18 (rndShift v.1 (e - v.2))

/-- A reference `raw ÷ den`, in its unit, aligned to exponent `e` (R173, R174). It is rounded once, to nearest: DESIGN CHOICE,
assumption 52. -/
def refTo (raw : Int) (den : Nat) (e : Int) : Int × Sticky :=
  narrow18 (if e < 0 then rndDiv (raw * ((2 ^ (-e).toNat : Nat) : Int)) den else rndDiv raw (den * 2 ^ e.toNat))

/-- A product with a coefficient, in the accumulator (R167). -/
def mulK (x : Int) (km kexp : Int) : Int × Sticky := acc40 (scaleBy (x * km) kexp)

/-- An effective coefficient exponent (R181). -/
def effExp (kexp d : Int) : Int × Sticky :=
  let x := kexp + d
  if x < -32 then (-32, { ovf := true }) else if 31 < x then (31, { ovf := true }) else (x, {})

/-- Range of an output kind (R187). -/
def outMax : Nat → Int
  | 0x01 => 31
  | 0x02 => 31
  | 0x05 => 255
  | 0x06 => 32768
  | _ => 65535

/-- Denominator of a reference's unit: raw value ÷ denominator in the unit of R173. -/
def refDen : Nat → Nat
  | 1 => 16
  | 2 => 16
  | 7 => 10
  | _ => 1000

/-- Native exponent of an input kind (R172). -/
def nativeExp : Nat → Int
  | 0x01 => -5
  | 0x02 => -16
  | 0x03 => -3
  | 0x04 => -4
  | 0x05 => -4
  | 0x07 => -3
  | 0x08 => -4
  | 0x0A => -4
  | _ => 0

/-! ## A run -/

/-- What a run reads: the program, the inputs, the raw references by REF, the divider's log, the mode, I and the FILTER and
DERIV states before the run, whether the states restart (R179), the bounds met by the previous run (R197), the target of a
preset, and the injector's values at POINT 0 and POINT 1. -/
structure RunIn where
  stages : List Stage
  kind : Nat
  inputs : List Val
  refs : List Int
  logD : Int
  mode : Nat
  integ : Int
  states : List Int
  fresh : Bool
  clipHi : Bool
  clipLo : Bool
  preset : Option Int
  inj0 : Int
  inj1 : Int
  gain : Nat → Int × List (Int × Int)

/-- The registers of a run in progress. `path` says that the stages reached lie on the path to the output (R197), `erred`
that an ERROR stage has run; `after` lists W after each stage, latest first. -/
structure RunSt where
  w : Val := (0, 0)
  sc : List Val := [(0, 0), (0, 0), (0, 0), (0, 0)]
  integ : Int
  states : List Int
  next : Nat := 0
  flags : Sticky := {}
  hi : Bool := false
  lo : Bool := false
  path : Bool
  erred : Bool := false
  calcOut : Int := 0
  after : List Val := []

/-- W set at a stage's exponent, with the flags met. -/
def RunSt.put (r : RunSt) (e : Int) (x : Int × Sticky) : RunSt := { r with w := (x.1, e), flags := r.flags.or x.2 }

/-- Flags met. -/
def RunSt.flag (r : RunSt) (f : Sticky) : RunSt := { r with flags := r.flags.or f }

/-- A stage's exponent, coefficient mantissa and coefficient exponent, signed (R175). -/
def Stage.E (g : Stage) : Int := toS 8 g.exp
def Stage.K (g : Stage) : Int := toS 18 g.km
def Stage.X (g : Stage) : Int := toS 6 g.kexp
/-- REVERSE of an ERROR stage (R173). -/
def Stage.reverse (g : Stage) : Bool := decide (128 ≤ g.b)

/-- The stage's source (R171). -/
def RunSt.source (r : RunSt) (i : RunIn) (a : Nat) : Val :=
  if a < 8 then i.inputs.getD a (0, 0) else r.sc.getD (a - 0x10) (0, 0)

/-- The stage's reference r at its exponent, without the injector (R173). -/
def refOf (i : RunIn) (g : Stage) : Int × Sticky :=
  let n := g.b % 16
  if n = 0 then alignTo (g.K, g.X) g.E else refTo (i.refs.getD n 0) (refDen n) g.E

/-- The gain at operand `x` from the segments of a table, and whether it clamps (R185). -/
def lutGain (t : List (Int × Int)) (x : Int) : Int × Bool :=
  let at' (k : Nat) : Int × Int := t.getD k (0, 0)
  if x < (at' 0).1 then ((at' 0).2, true)
  else if (at' 63).1 < x then ((at' 63).2, true)
  else if x = (at' 63).1 then ((at' 63).2, false)
  else
    let k := ((List.range 63).filter (fun k => decide ((at' k).1 ≤ x))).getLastD 0
    let a := at' k
    let b := at' (k + 1)
    (a.2 + rndDivI ((b.2 - a.2) * (x - a.1)) (b.1 - a.1), false)

/-- An exact quotient of integers, as numerator and positive denominator (R198). -/
abbrev Frac := Int × Nat

/-- Multiply by 2^e. -/
def Frac.shift (q : Frac) (e : Int) : Frac :=
  if 0 ≤ e then (q.1 * ((2 ^ e.toNat : Nat) : Int), q.2) else (q.1, q.2 * 2 ^ (-e).toNat)

/-- Divide by an integer; a zero divisor carries back 0 (R198). -/
def Frac.quot (q : Frac) (k : Int) : Frac :=
  if k = 0 then (0, 1) else if 0 < k then (q.1, q.2 * k.toNat) else (-q.1, q.2 * (-k).toNat)

/-- Add `m` × 2^e. -/
def Frac.plus (q : Frac) (m e : Int) : Frac :=
  if 0 ≤ e then (q.1 + m * ((2 ^ e.toNat : Nat) : Int) * (q.2 : Int), q.2)
  else (q.1 * ((2 ^ (-e).toNat : Nat) : Int) + m * (q.2 : Int), q.2 * 2 ^ (-e).toNat)

/-- One stage carried backward (R198). -/
def backStage (r : RunSt) (i : RunIn) (y : Frac) (g : Stage) : Frac :=
  match g.op with
  | 0x02 => y.plus (-(g.K * (alignTo (r.source i g.a) g.E).1)) (g.E + g.X)
  | 0x03 => (y.quot g.K).shift (-g.X)
  | 0x04 =>
    let m := (refOf i g).1
    if g.reverse then y.plus m g.E else Frac.plus (-y.1, y.2) m g.E
  | 0x10 => (y.quot g.K).shift (-g.X)
  | _ => y

/-- I that makes the output `t`, with the incoming W when ADD_I (R198, R199). -/
def presetI (r : RunSt) (i : RunIn) (g : Stage) (rest : List Stage) (t : Int) : Int × Sticky :=
  let y := (rest.reverse).foldl (backStage r i) (t, 1)
  let y1 := if g.b % 2 = 1 then y.plus (-(alignTo r.w g.E).1) g.E else y
  let q := y1.shift (22 - g.E)
  acc40 (rndDiv q.1 q.2)

/-- Whether an increment carries the output up: the signs met after INTEG (R197). -/
def pathSign (rest : List Stage) : Int :=
  rest.foldl (fun s g =>
    if (g.op = 0x03 ∨ g.op = 0x10) ∧ g.K < 0 then -s else if g.op = 0x04 ∧ !g.reverse then -s else s) 1

/-- The INTEG stage (R169, R176, R181, R191, R197, R198). The increment is not clamped by itself, its sum with I is: DESIGN
CHOICE, assumption 52. -/
def stepInteg (i : RunIn) (g : Stage) (rest : List Stage) (r : RunSt) : RunSt :=
  let x := alignTo r.w g.E
  let r0 := r.flag x.2
  let ke := effExp g.X i.logD
  let r1 : RunSt :=
    match i.preset with
    | some t =>
      let p := presetI r i g rest t
      { (r0.flag p.2) with integ := p.1 }
    | none =>
      let inc := scaleBy (x.1 * g.K) (ke.1 + 22)
      let dir := inc * pathSign rest
      let held := decide (2 ≤ g.b % 4) && ((i.clipHi && decide (0 < dir)) || (i.clipLo && decide (dir < 0)))
      let n := acc40 (r0.integ + inc)
      if i.mode = 1 then (if held then r0.flag ke.2 else { ((r0.flag ke.2).flag n.2) with integ := n.1 }) else r0.flag ke.2
  let a := acc40 (r1.integ + (if g.b % 2 = 1 then x.1 * 2 ^ 22 else 0))
  { ((r1.flag a.2).put g.E (narrow18 (rndDiv a.1 (2 ^ 22)))) with path := true }

/-- A LIMIT stage's result, with the bound met (R197). -/
def stepLimit (i : RunIn) (g : Stage) (up : Bool) (r : RunSt) : RunSt :=
  let x := alignTo r.w g.E
  let b := refOf i g
  let hit := if up then decide (b.1 < x.1) else decide (x.1 < b.1)
  let r1 := (r.flag b.2).put g.E (if hit then (b.1, x.2) else x)
  { r1 with hi := r1.hi || (hit && up && r.path), lo := r1.lo || (hit && !up && r.path) }

/-- One stage of a run (R176). `rest` is what follows it. The product of a FILTER stage is not clamped by itself, its sum with
F is: DESIGN CHOICE, assumption 52. -/
def stepStage (i : RunIn) (g : Stage) (rest : List Stage) (r : RunSt) : RunSt :=
  let x := alignTo r.w g.E
  let src := alignTo (r.source i g.a) g.E
  match g.op with
  | 0x01 => r.put g.E src
  | 0x02 =>
    let p := mulK src.1 g.K g.X
    let a := acc40 (x.1 + p.1)
    ((((r.flag x.2).flag src.2).flag p.2).flag a.2).put g.E (narrow18 a.1)
  | 0x03 =>
    let p := mulK x.1 g.K g.X
    ((r.flag x.2).flag p.2).put g.E (narrow18 p.1)
  | 0x04 =>
    let b := refOf i g
    let m := b.1 + (if r.erred then 0 else i.inj1)
    { (((r.flag x.2).flag b.2).put g.E (narrow18 (if g.reverse then x.1 - m else m - x.1))) with erred := true }
  | 0x05 =>
    let t := i.gain g.b
    let k := lutGain t.2 x.1
    let p := mulK x.1 k.1 t.1
    (((r.flag x.2).flag { lut := k.2 }).flag p.2).put g.E (narrow18 p.1)
  | 0x06 => stepInteg i g rest r
  | 0x07 =>
    let old := if i.fresh then x.1 else r.states.getD r.next 0
    let ke := effExp g.X (-i.logD)
    let p := mulK (x.1 - old) g.K ke.1
    { ((((r.flag x.2).flag ke.2).flag p.2).put g.E (narrow18 p.1)) with
      states := r.states.set r.next x.1, next := r.next + 1 }
  | 0x08 =>
    let old := if i.fresh then x.1 * 2 ^ 22 else r.states.getD r.next 0
    let n := acc40 (old + scaleBy ((x.1 * 2 ^ 22 - old) * g.K) g.X)
    { (((r.flag x.2).flag n.2).put g.E (narrow18 (rndDiv n.1 (2 ^ 22)))) with
      states := r.states.set r.next n.1, next := r.next + 1 }
  | 0x09 => stepLimit i g true r
  | 0x0A => stepLimit i g false r
  | 0x0B => { (r.flag x.2) with sc := r.sc.set (g.a - 0x10) (x.1, g.E) }
  | 0x0C => ((r.flag x.2).flag src.2).put g.E (max x.1 src.1, {})
  | 0x0D => ((r.flag x.2).flag src.2).put g.E (min x.1 src.1, {})
  | 0x0E =>
    let p := mulK src.1 g.K g.X
    (((r.flag x.2).flag src.2).flag p.2).put g.E (narrow18 (max x.1 p.1))
  | 0x0F =>
    let p := mulK src.1 g.K g.X
    (((r.flag x.2).flag src.2).flag p.2).put g.E (narrow18 (min x.1 p.1))
  | 0x10 =>
    let p := mulK x.1 g.K g.X
    let v := scaleBy p.1 g.E + i.inj0
    let c := satTo 0 (outMax i.kind) v
    { (((r.flag x.2).flag p.2).flag c.2) with
      calcOut := c.1, hi := r.hi || decide (outMax i.kind < v), lo := r.lo || decide (v < 0) }
  | _ => r

/-- The stages in program order (R158). -/
def runStages (i : RunIn) : List Stage → RunSt → RunSt
  | [], r => r
  | g :: rest, r =>
    let r1 := stepStage i g rest r
    runStages i rest { r1 with after := r1.w :: r1.after }

/-- The program has an INTEG stage. -/
def hasInteg (p : List Stage) : Bool := p.any (fun g => g.op == 0x06)

/-- A slot's run on what it reads (R178). -/
def runSlot (i : RunIn) : RunSt :=
  runStages i i.stages { integ := i.integ, states := i.states, path := !hasInteg i.stages }

/-! ## What a slot reads from the state -/

/-- Stage pool word `k` (R175, R220). -/
def State.stageAt (s : State) (k : Nat) : Stage :=
  { op := s.rd R.LE_STAGE_OP k, exp := s.rd R.LE_STAGE_EXP k, a := s.rd R.LE_STAGE_A k, b := s.rd R.LE_STAGE_B k,
    km := s.rd R.LE_STAGE_KM k, kexp := s.rd R.LE_STAGE_KEXP k }

/-- Program of a slot. -/
def State.slotProg (s : State) (l : Nat) : List Stage := (s.progOf l).map s.stageAt

/-- Gain table `t`: its exponent and its segments (R183). -/
def State.gainTable (s : State) (t : Nat) : Int × List (Int × Int) :=
  (s.rdS R.LE_LUT_EXP t, (List.range 64).map (fun k => (s.rdS R.LE_LUT_X (64 * t + k), s.rdS R.LE_LUT_G (64 * t + k))))

/-- A supply's output power, 0.1 W, as the mantissa of input kind 0x0A (R172), to nearest: DESIGN CHOICE, assumption 52. -/
def pmbInput (pout : Nat) : Nat := (16 * pout + 5) / 10

/-- Input of a kind and index, as a mantissa at its native exponent (R65, R172). A conversion to that exponent rounds to
nearest: DESIGN CHOICE, assumption 52. -/
def State.inputVal (s : State) (kind ix : Nat) : Val :=
  (match kind with
   | 0x01 => s.rdS H.LE_IN_PHASE ix
   | 0x02 => s.rdS H.LE_IN_RAILV ix
   | 0x03 => (narrow18 (rndDiv (s.rdS H.LE_IN_RAILI ix) 4)).1
   | 0x04 => s.rdS R.TH_PAD_TEMP_TEMP ix
   | 0x05 => s.rdS H.LE_IN_HBM ix
   | 0x06 => (s.rd R.CROOK_FOLD_SUM_EDGES ix : Int)
   | 0x07 => (s.fcastMax ix : Int)
   | 0x08 => (narrow18 (rndDiv (16 * (s.rd R.LE_PKG_POWER_POWER 0 : Int)) 1000)).1
   | 0x09 => (s.rd R.LE_SLOT_OUT_OUT ix : Int)
   | 0x0A => (s.rd H.LE_IN_PMB ix : Int)
   | 0x0B => ((min 4095 (sumN ((s.phasesOf ix).map (fun p => s.rd R.PD_PH_STAT_SC_FRAME p)))
       + 4096 * s.rd H.LE_IN_TRUNC ix : Nat) : Int)
   | _ => 0,
   nativeExp kind)

/-- Fold whose POWER and FLOOR a slot's references read (R173). -/
def State.refFold (s : State) (l : Nat) : Nat :=
  let ix := s.rd R.LE_SLOT_OUTSEL_OUT_INDEX l
  if s.rd R.LE_SLOT_OUTSEL_OUT_KIND l = 0x04 then s.rd R.TH_PAD_CFG_FOLD ix else ix

/-- Raw values of the references REF 0–7 of a slot (R173, R174). -/
def State.refsOf (s : State) (l : Nat) : List Int :=
  let ix := s.rd R.LE_SLOT_OUTSEL_OUT_INDEX l
  [0, s.rdS R.TH_PAD_HURDLE_LEVEL ix, (s.rd R.TH_PAD_HURDLE_RATE ix : Int),
   (s.rd R.LE_FOLD_POWER_POWER (s.refFold l) : Int), (s.rd R.LE_FOLD_FLOOR_FLOOR (s.refFold l) : Int),
   (s.rd R.LE_PKG_SUSTAINED_SUSTAINED 0 : Int), (s.rd R.LE_PKG_EXCURSION_EXCURSION 0 : Int),
   (s.rd R.PD_RAIL_CONT_CONT ix : Int)]

/-- Inputs of a slot in force, as (kind, index) pairs (R132). -/
def State.slotInputs (s : State) (l : Nat) : List (Nat × Nat) :=
  match s.rec? 0x0301 l with
  | some r => r.inputs
  | none => []

/-- Applied output of a slot. -/
def State.outOf (s : State) (l : Nat) : Int := (s.rd R.LE_SLOT_OUT_OUT l : Int)

/-! ## The injector -/

/-- An ERROR stage is in the program (R211). -/
def State.hasError (s : State) (l : Nat) : Bool := (s.slotProg l).any (fun g => g.op == 0x04)

/-- The injector's value for this run, whether it starts in it, and the state after it (R210, R211). The PRBS register shifts
left and gives bit 14: DESIGN CHOICE, assumption 52. -/
def State.inject (s : State) (l : Nat) : Int × Bool × State :=
  if !s.bit R.LE_SLOT_INJ_EN l || s.rd R.LE_SLOT_INJ_SHAPE l = 3 then (0, false, s.wr H.LE_INJ_ON l 0)
  else
    let start := !s.bit H.LE_INJ_ON l
    let cnt := if start then 0 else s.rd H.LE_INJ_CNT l
    let neg := if start then false else s.bit H.LE_INJ_NEG l
    let reg := if start then 0x7FFF else s.rd H.LE_INJ_LFSR l
    let a := s.rdS R.LE_SLOT_INJ_AMPL_AMPL l
    let per := max 1 (s.rd R.LE_SLOT_INJ_PERIOD l)
    let v := match s.rd R.LE_SLOT_INJ_SHAPE l with
      | 0 => a
      | 1 => if neg then -a else a
      | _ => if reg.testBit 14 then a else -a
    let turn := decide (per ≤ cnt + 1)
    let fb := b2n (reg.testBit 14 != reg.testBit 13)
    (v, start, (((s.wr H.LE_INJ_ON l 1).wr H.LE_INJ_CNT l (if turn then 0 else cnt + 1)).wrB H.LE_INJ_NEG l
      (if turn then !neg else neg)).wr H.LE_INJ_LFSR l (if turn then (2 * reg + fb) % 32768 else reg))

/-! ## Plausibility -/

/-- u of the residual: the output applied in the run, or the setpoint code of the select driven (R206). -/
def State.plausU (s : State) (l : Nat) (out : Int) : Int :=
  if s.rd R.LE_SLOT_OUTSEL_OUT_KIND l = 0x01 then
    let r := s.rd R.LE_SLOT_OUTSEL_OUT_INDEX l
    let lift := match s.owner 0x02 r with | some k => s.rd R.LE_SLOT_OUT_OUT k | none => 0
    (s.rd R.PD_SETPOINT_CODE (32 * r + min 31 (out.toNat + lift)) : Int)
  else out

/-- The residual of a run, and its count (R206–R208). A run that only fills y and u has no residual above BOUND, so the count
starts again: DEDUCED, assumption 53. -/
def State.plausRun (s : State) (l : Nat) (y0 : Val) (out : Int) (preset : Bool) : Sticky × State :=
  match s.rec? 0x0302 l with
  | none => ({}, s)
  | some p =>
    let e := p.s8 6
    let y := alignTo y0 e
    let u := s.plausU l out
    let y1 := s.rdS H.LE_PL_Y1 l
    let y2 := s.rdS H.LE_PL_Y2 l
    let u1 := s.rdS H.LE_PL_U1 l
    let u2 := s.rdS H.LE_PL_U2 l
    let fill := if preset then 2 else s.rd H.LE_PL_FILL l
    let moved := (((s.wrS H.LE_PL_Y1 l y.1).wrS H.LE_PL_Y2 l y1).wrS H.LE_PL_U1 l u).wrS H.LE_PL_U2 l u1
    if 0 < fill then (y.2, (moved.wr H.LE_PL_FILL l (fill - 1)).wr R.LE_SLOT_PLAUS_RUN_CNT l 0)
    else
      let a := mulK (y1 - y2) (toS 18 (p.u32 8)) e
      let b := acc40 (toS 18 (p.u32 12) * (u1 - u2))
      let r := narrow18 (acc40 ((y.1 - y1) - a.1 - b.1)).1
      let fl := ((y.2.or a.2).or b.2).or r.2
      let past := decide ((p.u32 16 % 2 ^ 17 : Nat) < r.1.natAbs)
      let cnt := if past then min 255 (s.rd R.LE_SLOT_PLAUS_RUN_CNT l + 1) else 0
      let s1 := (moved.wrS R.LE_SLOT_PLAUS_RESID l r.1).wr R.LE_SLOT_PLAUS_RUN_CNT l cnt
      (fl, s1.when (past && decide (p.u8 5 ≤ cnt) && !s.bit R.LE_SLOT_MODE_PLAUS_HOLD l) (fun t => t.wr H.LE_PL_TRIP l 1))

/-! ## Capture -/

/-- The value a capture takes in a run: exponent and mantissa; none where the spec names no stage (R212, R219). -/
def capValue (s : State) (l : Nat) (i : RunIn) (r : RunSt) (out : Int) : Option Val :=
  match s.rd R.LE_SLOT_CAP_SRC l with
  | 0 => some (out, 0)
  | 1 => some (i.inputs.getD 0 (0, 0))
  | 2 => r.after.reverse[s.rd R.LE_SLOT_CAP_STAGE l]?
  | _ => (i.stages.find? (fun g => g.op == 0x06)).map (fun g => ((narrow18 (rndDiv r.integ (2 ^ 22))).1, g.E))

/-- One capture sample (R212, R213). `low` is the sample's bits 31:24, `start` the injector's start in the run, `sticky`
whether a sticky flag was set in it. -/
def State.capture (s : State) (l low : Nat) (v : Option Val) (start sticky : Bool) : State :=
  if !s.bit R.LE_SLOT_CAP_ARM l then s
  else
    let s0 := if v.isNone then s.freeStep else s
    let body := match v with
      | some x => ofS 6 x.2 * 2 ^ 18 + ofS 18 x.1
      | none => s.freeVal 24
    let ix := s.rd R.LE_SLOT_CAP_STAT_WPTR l
    let s1 := (s0.wr H.LE_CAP_SAMPLE (4096 * l + ix) (2 ^ 32 + low * 2 ^ 24 + body)).wr R.LE_SLOT_CAP_STAT_WPTR l
      ((ix + 1) % 4096)
    let s2 := s1.when (ix == 4095) (fun t => t.wr R.LE_SLOT_CAP_STAT_FULL l 1)
    let trig := s.rd R.LE_SLOT_CAP_TRIG l
    let met := match trig with
      | 0 => true
      | 1 => start
      | 2 => sticky
      | _ => s.bit H.LE_MODE_COMMIT l
    let fire := !s.bit R.LE_SLOT_CAP_STAT_TRIGGERED l && met
    let s3 := if fire then
        ((s2.wr R.LE_SLOT_CAP_STAT_TRIGGERED l 1).wr R.LE_SLOT_CAP_STAT_TRIG_IDX l ix).wr H.LE_CAP_LEFT l
          (4096 - (if trig = 0 then 0 else s.rd R.LE_SLOT_CAP_PRE l))
      else s2
    if s3.bit R.LE_SLOT_CAP_STAT_TRIGGERED l then
      let left := s3.rd H.LE_CAP_LEFT l - 1
      let s4 := s3.wr H.LE_CAP_LEFT l left
      if left = 0 then (s4.wr R.LE_SLOT_CAP_STAT_DONE l 1).wr R.LE_SLOT_CAP_ARM l 0 else s4
    else s3

/-! ## Golden vectors -/

/-- The 128 bytes of a golden vector: inputs, I, the states, then the run's context and results (R445; the layout is
assumption 20's). -/
def goldBytes (i : RunIn) (r : RunSt) : List Byte :=
  (List.range 8).flatMap (fun k => toLeBytes 4 (ofS 32 (i.inputs.getD k (0, 0)).1)) ++ toLeBytes 8 (ofS 64 i.integ)
    ++ (List.range 4).flatMap (fun k => toLeBytes 8 (ofS 64 (i.states.getD k 0))) ++ toLeBytes 2 (ofS 16 r.calcOut)
    ++ toLeBytes 1 i.mode ++ toLeBytes 1 (ofS 8 i.logD)
    ++ toLeBytes 1 (b2n i.fresh + 2 * b2n i.clipHi + 4 * b2n i.clipLo + 8 * b2n i.preset.isSome) ++ toLeBytes 1 0
    ++ toLeBytes 2 (ofS 16 (i.preset.getD 0)) ++ toLeBytes 8 (ofS 64 r.integ) ++ toLeBytes 4 (ofS 32 i.inj1)
    ++ toLeBytes 4 (ofS 32 i.inj0) ++ (List.range 8).flatMap (fun k => toLeBytes 4 (ofS 32 (i.refs.getD k 0)))

/-- Store address of golden vector `j` of a slot (R445). -/
def State.goldAddr (s : State) (l j : Nat) : Nat := 4096 * s.rd R.FLT_GOLD_BASE_BASE 0 + 512 * l + 128 * j

/-- What a replay of vector `j` reads, from the vector and the slot's program (R446). -/
def State.goldIn (s : State) (l j : Nat) : RunIn :=
  let a := s.goldAddr l j
  let bits := s.ld (a + 76) 1
  { stages := s.slotProg l, kind := s.rd R.LE_SLOT_OUTSEL_OUT_KIND l,
    inputs := ((s.slotInputs l).zip (List.range 8)).map (fun p => (toS 32 (s.ld (a + 4 * p.2) 4), nativeExp p.1.1)),
    refs := (List.range 8).map (fun k => toS 32 (s.ld (a + 96 + 4 * k) 4)), logD := toS 8 (s.ld (a + 75) 1),
    mode := s.ld (a + 74) 1, integ := toS 64 (s.ld (a + 32) 8),
    states := (List.range 4).map (fun k => toS 64 (s.ld (a + 40 + 8 * k) 8)), fresh := bits.testBit 0,
    clipHi := bits.testBit 1, clipLo := bits.testBit 2,
    preset := if bits.testBit 3 then some (s.ld (a + 78) 2 : Int) else none,
    inj0 := toS 32 (s.ld (a + 92) 4), inj1 := toS 32 (s.ld (a + 88) 4), gain := s.gainTable }

/-- The replay of vector `j` reproduces CALC and I (R446). -/
def State.goldReplay (s : State) (l j : Nat) : Bool :=
  let r := runSlot (s.goldIn l j)
  let a := s.goldAddr l j
  r.calcOut == (s.ld (a + 72) 2 : Int) && r.integ == toS 64 (s.ld (a + 80) 8)

/-- A frame of a pending golden test: the next vector is replayed, and after the fourth the result is sent to the peer, or
taken by a test of this instance alone (R446). A vector not captured is skipped. -/
def State.goldStep (s : State) (l : Nat) : State :=
  let j := s.rd H.LE_GOLD_J l
  if !s.bit H.FLT_TEST_PEND l then s
  else if j < 4 then
    (s.wr H.LE_GOLD_J l (j + 1)).when (decide (j < s.rd H.LE_GOLD_N l) && !s.goldReplay l j) (fun t => t.wr H.LE_GOLD_OK l 0)
  else if j = 4 then
    let s1 := s.wr H.LE_GOLD_J l 5
    if s.bit H.LE_GOLD_TWIN l then s1.send (.bulk ⟨true, .golden l (s.bit H.LE_GOLD_OK l)⟩)
    else s1.wr H.FLT_RESULT l (if s.bit H.LE_GOLD_OK l then 1 else 2)
  else s

/-- A peer compares frames (R411). -/
def State.peerCompares (s : State) : Bool :=
  let p := s.rd R.TWIN_STATUS_PEER_ROLE 0
  if s.holder then p == 2 || p == 3 else s.role == 2 || s.role == 3

/-- A golden vector whose run counts is written to the Store (R445). -/
def State.goldCommit (s : State) (l : Nat) : State :=
  if s.bit H.LE_GOLD_NEW l then
    let n := s.rd H.LE_GOLD_N l
    let s1 := (s.stBytes (s.goldAddr l n) (toLeBytes 128 (s.rd H.LE_GOLD_VEC l))).wr H.LE_GOLD_N l (n + 1)
    ((s1.wr H.LE_GOLD_NEW l 0).wr H.LE_GOLD_VEC l 0).when (n == 3) (fun t => t.wr H.LE_GOLD_CAP l 0)
  else s

/-- A run's golden vector held, and written at once while no peer compares (R445). -/
def State.goldTake (s : State) (l : Nat) (i : RunIn) (r : RunSt) : State :=
  if s.bit H.LE_GOLD_CAP l then
    let s1 := (s.wr H.LE_GOLD_VEC l (leBytes (goldBytes i r))).wr H.LE_GOLD_NEW l 1
    if s.peerCompares then s1 else s1.goldCommit l
  else s

/-! ## The loop window -/

/-- A slot is due in the present frame (R73). -/
def State.due (s : State) (l : Nat) : Bool := s.frame % s.divider l == s.rd R.LE_SLOT_CFG_OFFSET l % s.divider l

/-- Target of a preset in this run: in CLOSED after a transfer, and in every run in TRACK (R191, R198, R200). -/
def State.presetOf (s : State) (l : Nat) : Option Int :=
  if !hasInteg (s.slotProg l) then none
  else if s.mode l = 2 then some (s.outOf l)
  else if s.mode l = 1 ∧ s.bit H.LE_PRESET_DUE l then
    some (if s.bit H.LE_PRESET_REG l then (s.rd H.LE_PRESET_T l : Int) else s.outOf l)
  else none

/-- What a slot's run reads in the present frame. -/
def State.runIn (s : State) (l : Nat) (inj : Int) : RunIn :=
  let m := s.mode l
  let live := m == 0 || m == 1
  let p1 := s.bit R.LE_SLOT_INJ_POINT l
  { stages := s.slotProg l, kind := s.rd R.LE_SLOT_OUTSEL_OUT_KIND l,
    inputs := (s.slotInputs l).map (fun k => s.inputVal k.1 k.2), refs := s.refsOf l,
    logD := (log2 (s.divider l) : Int), mode := m, integ := s.rdS R.LE_SLOT_INTEG_INTEG l,
    states := (List.range 4).map (fun k => s.rdS H.LE_STATE (4 * l + k)), fresh := s.bit H.LE_FRESH l,
    clipHi := s.bit R.LE_SLOT_FLAGS_CLIP_HI l, clipLo := s.bit R.LE_SLOT_FLAGS_CLIP_LO l, preset := s.presetOf l,
    inj0 := if m == 1 && !p1 then inj else 0, inj1 := if live && p1 then inj else 0, gain := s.gainTable }

/-- The output that the mode selects, before slewing, and the flags its range clamp sets (R186, R191, R211). -/
def State.modeOut (s : State) (l : Nat) (i : RunIn) (r : RunSt) (inj : Int) : Int × Sticky :=
  satTo 0 (outMax i.kind)
    (match s.mode l with
     | 1 => i.preset.getD r.calcOut
     | 3 => s.outOf l
     | m => (s.rd R.LE_SLOT_MANUAL_MANUAL l : Int) + (if m = 0 ∧ !s.bit R.LE_SLOT_INJ_POINT l then inj else 0))

/-- Sticky flags written (R170). -/
def State.stick (s : State) (l : Nat) (f : Sticky) : State :=
  (((s.when f.satP (fun t => t.wr R.LE_SLOT_FLAGS_SAT_P l 1)).when f.satN (fun t => t.wr R.LE_SLOT_FLAGS_SAT_N l 1)).when
    f.ovf (fun t => t.wr R.LE_SLOT_FLAGS_EXP_OVF l 1)).when f.lut (fun t => t.wr R.LE_SLOT_FLAGS_LUT_CLAMP l 1)

/-- One due slot runs (R159, R186–R200, R206, R210, R212, R445). A run that makes a preset in CLOSED leaves the injector where
it stands: DESIGN CHOICE, assumption 52. LIMIT stages and the range of CALC hold the output only where it follows CALC
(R197). -/
def State.runOne (s : State) (l : Nat) : State :=
  let transfer := s.mode l == 1 && (s.presetOf l).isSome
  let (inj, start, s1) := if transfer then (0, false, s) else s.inject l
  let i := s1.runIn l inj
  let r := runSlot i
  let (want, f1) := s1.modeOut l i r inj
  let auto := s.mode l == 1 && i.preset.isNone
  let was := s1.outOf l
  let slew : Int := (s1.rd R.LE_SLOT_SLEW_SLEW l : Int)
  let out := was + clampI (-slew) slew (want - was)
  let (f2, s2) := s1.plausRun l (i.inputs.getD 0 (0, 0)) out i.preset.isSome
  let fl := (r.flags.or f1).or f2
  let s3 := (s2.stick l fl).wrS R.LE_SLOT_INTEG_INTEG l r.integ
  let s4 := (List.range 4).foldl (fun t k => t.wrS H.LE_STATE (4 * l + k) (r.states.getD k 0)) s3
  let s5 := ((s4.wrS R.LE_SLOT_OUT_CALC l r.calcOut).wrS H.LE_NEXT_OUT l out).wr H.LE_NEXT_VALID l 1
  let s6 := ((s5.wrB R.LE_SLOT_FLAGS_SLEWING l (decide (out ≠ want))).wrB R.LE_SLOT_FLAGS_CLIP_HI l
    ((auto && r.hi) || f1.satP || decide (out < want))).wrB R.LE_SLOT_FLAGS_CLIP_LO l
      ((auto && r.lo) || f1.satN || decide (want < out))
  let s7 := ((s6.wr H.LE_FRESH l 0).wr H.LE_PRESET_DUE l 0).wr H.LE_PRESET_REG l 0
  let s8 := s7.when i.preset.isSome (fun t => t.inc R.LE_SLOT_MODE_PRESETS l 1)
  let plaus := s8.bit H.LE_PL_TRIP l && !s.bit H.LE_PL_TRIP l
  let low := 128 * b2n plaus + 64 * b2n fl.lut + 32 * b2n fl.ovf + 16 * b2n fl.satN + 8 * b2n fl.satP
    + 4 * b2n (decide (out ≠ want)) + s.mode l
  let s9 := s8.capture l low (capValue s8 l i r out) start (plaus || fl.lut || fl.ovf || fl.satN || fl.satP)
  (s9.wr H.LE_MODE_COMMIT l 0).goldTake l i r

/-- Cost of a slot (R77, R176). -/
def State.costOf (s : State) (l : Nat) : Nat :=
  sumN ((s.slotProg l).map (stageCost (s.rec? 0x0302 l).isSome))

/-- Due slots with START and cost, in slot order. -/
def State.dueSlots (s : State) : List (Nat × Nat × Nat) :=
  (s.slots.filter (fun l => s.due l)).map (fun l => (l, s.rd R.LE_SLOT_CFG_START l, s.costOf l))

/-- The frame's loop programs: Bellwether's forecast is formed, the due slots run in the order of their placement, then
golden tests replay (R62, R158–R160, R446). -/
def State.loopWindow (s : State) : State :=
  if s.running then
    let s0 := s.bwOnce
    let placed := (placeAll s0.dueSlots).1
    let s1 := placed.foldl (fun t x => t.runOne x.1) s0
    let s2 := s1.slots.foldl State.goldStep s1
    (s2.wr H.LE_RUN_END 0 ((placed.map (fun x => x.2.2)).foldl max 0)).wr H.LE_RUN_DUE 0 placed.length
  else s

/-- Effect of PLAUS_FAULT: the slot's residual has passed its bound FRAMES times (R208). -/
def execPlausFault (slot : Nat) (s : State) : Host.Outcome State Fault Refusal :=
  (if s.bit H.LE_PL_TRIP slot && decide (slot < 256) then
    (((s.wr H.LE_PL_TRIP slot 0).wr R.LE_SLOT_FLAGS_PLAUS slot 1).wr R.LE_SLOT_MODE_PLAUS_HOLD slot 1).fault 0x00 slot 1
  else s).go

/-! ## Modes -/

/-- A slot enters a mode at a boundary (R84, R192, R193, R198, R201). -/
def State.setMode (s : State) (l m : Nat) : State :=
  if s.mode l = m then s
  else
    let s1 := (((s.wr R.LE_SLOT_MODE_MODE l m).wr H.LE_NEXT_VALID l 0).wr H.LE_FWD l 0).wr H.LE_MODE_COMMIT l 1
    let s2 := s1.when (m == 0 && !s.bit H.LE_MAN_NOW l) (fun t => t.wr R.LE_SLOT_MANUAL_MANUAL l (s.rd R.LE_SLOT_OUT_OUT l))
    s2.when (m == 1 && hasInteg (s.slotProg l)) (fun t =>
      ((t.wr H.LE_PRESET_DUE l 1).wr H.LE_PRESET_REG l 0).wr H.LE_FRESH l 1)

/-- A fault hold is on the slot (R667). -/
def State.faultHold (s : State) (l : Nat) : Bool :=
  s.bit R.LE_SLOT_MODE_PLAUS_HOLD l || s.bit H.LE_HOLD_GOLD l || s.bit H.LE_HOLD_SEV l

/-- A fault hold and what it keeps for its end are gone; after a plausibility hold the count of runs above BOUND starts again
(R208; assumption 53). -/
def State.endHold (s : State) (l : Nat) : State :=
  (s.when (s.bit R.LE_SLOT_MODE_PLAUS_HOLD l) (fun t => t.wr R.LE_SLOT_PLAUS_RUN_CNT l 0)).clearElems
    [R.LE_SLOT_MODE_PLAUS_HOLD, H.LE_HOLD_GOLD, H.LE_HOLD_SEV, H.LE_REL_FAULT, H.LE_HOLD_IN, H.LE_HELD_REQ] l

/-- A mode request for the slot waits for a later boundary, so MODE_REQ shows that one (R80, R192). -/
def State.requestWaits (s : State) (l : Nat) : Bool :=
  s.staged.any (fun (x : Staged) => match x.act with | .modeReq k _ => k == l | _ => false)

/-- A mode request reaches its boundary, after the record of a profile that begins there has been loaded (R192, R204, R209,
R667). -/
def State.commitMode (s : State) (l m : Nat) : State :=
  if !s.slots.contains l then s
  else
    let s0 := s.when (!s.requestWaits l) (fun t => t.wr R.LE_SLOT_MODE_MODE_REQ l m)
    if s.bit H.LE_HOLD_START l then s0.wr H.LE_HELD_REQ l (m + 1)
    else if s.faultHold l then (if m = 0 then (s0.endHold l).setMode l 0 else s0.wr H.LE_HELD_REQ l (m + 1))
    else (s0.wr H.LE_REL_FAULT l 0).setMode l m

/-- Mode that commits when a hold ends: the held request, or the mode before the hold (R209, R667). -/
def State.modeAfterHold (s : State) (l before : Nat) : Nat :=
  if s.rd H.LE_HELD_REQ l = 0 then before else s.rd H.LE_HELD_REQ l - 1

/-- A slot's holds at a boundary: a new fault hold takes the slot to HOLD; an ended one commits the held request, or the
mode before the hold, which may be HOLD itself. The start-up TRACK goes on after a fault hold that ends within it (R208, R209,
R416, R441, R667). -/
def State.holdStep (s : State) (l : Nat) : State :=
  if s.faultHold l then
    if s.bit H.LE_HOLD_IN l then s
    else ((s.wr H.LE_HOLD_IN l 1).wr H.LE_MODE_BEFORE l (s.mode l)).setMode l 3
  else if s.bit H.LE_REL_FAULT l then
    if s.bit H.LE_HOLD_START l then ((s.endHold l).wr H.LE_HELD_REQ l (s.rd H.LE_HELD_REQ l)).setMode l 2
    else
      let m := s.modeAfterHold l (s.rd H.LE_MODE_BEFORE l)
      if s.bit H.LE_HOLD_IN l then (s.endHold l).setMode l m else s.endHold l
  else s

/-- The start-up TRACK of a slot ends: the held request, or the record's MODE, commits (R510, R667). -/
def State.endStartTrack (s : State) (l : Nat) : State :=
  if s.bit H.LE_HOLD_START l then
    let recMode := match s.rec? 0x0301 l with | some r => r.u8 5 | none => 0
    let s1 := s.wr H.LE_HOLD_START l 0
    if s.faultHold l then s1.wr H.LE_MODE_BEFORE l recMode
    else (s1.wr H.LE_HELD_REQ l 0).setMode l (s.modeAfterHold l recMode)
  else s

/-- The twin takes its outputs from the Gate holder: it joins, shadows or stands by (R52, R261, R402). -/
def State.forwarded (s : State) : Bool := s.role == 1 || s.role == 2 || s.role == 3

/-- Output applied to a slot at the coming step 7: the holder's where it has forwarded one, what stands on a twin to which it has
forwarded none, else what the frame that ends staged (R67, R261, R411, R420). -/
def State.nextApplied (s : State) (l : Nat) : Nat :=
  if s.bit H.LE_FWD l then s.rd H.LE_FWD_OUT l
  else if !s.forwarded && s.bit H.LE_OUT_STAGED 0 && s.bit H.LE_NEXT_VALID l then s.rd H.LE_NEXT_OUT l
  else s.rd R.LE_SLOT_OUT_OUT l

/-- Outputs of the previous frame apply (R67, R74, R81). -/
def State.applyOutputs (s : State) : State :=
  (s.slots.foldl (fun t l => t.wr R.LE_SLOT_OUT_OUT l (s.nextApplied l)) s).clearFlds
    [H.LE_NEXT_VALID, H.LE_FWD, H.LE_OUT_STAGED, H.LE_MAN_NOW]

/-- Divider of a paddock slot asked for by the thermal section (R76, R207). -/
def State.commitDivider (s : State) (l : Nat) : State :=
  if s.bit R.LE_SLOT_CFG_NEAR l == s.bit H.LE_NEAR_REQ l then s
  else
    let s1 := s.wr R.LE_SLOT_CFG_NEAR l (s.rd H.LE_NEAR_REQ l)
    if s1.divider l = s.divider l then s1 else s1.wr H.LE_PL_FILL l 2

/-! ## Registers with rows of their own -/

/-- A write that both instances make at one boundary is sent to the peer (R205, R427). -/
def State.mirrorOut (s : State) (w : WCtx) (op : MirrorOp) : State :=
  if s.peerCompares then s.send (.mirror ⟨true, s.frame + (if 192 ≤ w.cyc then 2 else 1), op⟩) else s

/-- Effect of MODE_REQ. -/
def execModeReq (w : WCtx) (slot mode : Nat) (s : State) : Host.Outcome State Fault Refusal :=
  (s.judged w R.LE_SLOT_MODE_MODE_REQ slot mode true (fun t =>
    ((t.wr R.LE_SLOT_MODE_MODE_REQ slot mode).stage w (.modeReq slot (mode % 4))).mirrorOut w
      (.write (R.LE_SLOT_MODE_MODE_REQ.word slot) (mode % 4)))).go

/-- Effect of MANUAL. -/
def execManual (w : WCtx) (slot v : Nat) (s : State) : Host.Outcome State Fault Refusal :=
  (s.judged w R.LE_SLOT_MANUAL_MANUAL slot v true (fun t =>
    (t.stage w (.manual slot (v % 65536))).mirrorOut w (.write (R.LE_SLOT_MANUAL_MANUAL.word slot) (v % 65536)))).go

/-- The register word is one that R195 holds. -/
def heldOff (off : Nat) : Bool :=
  if 0x114000 ≤ off ∧ off < 0x118000 then
    (let o := off % 64
     o == 0x10 || o == 0x14 || o == 0x24 || o == 0x28 || o == 0x2C)
  else decide (0x118000 ≤ off) && decide (off < 0x140000)

/-- Fields of a word that a held write stores, with their bits of the value. -/
def heldFields (off : Nat) : List (Fld × Nat) := (wordFields off).filter (fun x => x.1.acc == .rwo)

/-- The value of element `i` of a field with the bits of one word written. -/
def Fld.merge (f : Fld) (i old off v : Nat) : Nat :=
  let lo := 8 * (off / 4 * 4)
  (List.range f.wid).foldl (fun acc k =>
    let b := f.key i + k
    if lo ≤ b ∧ b < lo + 32 then setBit acc k (v.testBit (b - lo)) else acc) old

/-- Slots that own the register word of a held write (R184, R219, R220). -/
def State.heldOwners (s : State) (off : Nat) : List Nat :=
  if off < 0x118000 then [(off - 0x114000) / 64]
  else if off < 0x120000 then (s.slotOfStage ((off - 0x118000) / 8)).toList
  else s.slotsOfLut ((off - 0x120000) / 512)

/-- The injector word asks for POINT 1 with its enable, in a slot without an ERROR stage (R211). -/
def State.badInject (s : State) (off v : Nat) : Bool :=
  decide (0x114000 ≤ off) && decide (off < 0x118000) && off % 64 == 0x28 && v.testBit 0 && v.testBit 3
    && !s.hasError ((off - 0x114000) / 64)

/-- A committed injector word that leaves the enable off, or sets it anew, makes the injector start at the next run (R210). -/
def State.injectorSet (s old : State) (off : Nat) : State :=
  let l := (off - 0x114000) / 64
  s.when (decide (0x114000 ≤ off) && decide (off < 0x118000) && off % 64 == 0x28
    && !(s.bit R.LE_SLOT_INJ_EN l && old.bit R.LE_SLOT_INJ_EN l)) (fun t => t.wr H.LE_INJ_ON l 0)

/-- A held write reaches its boundary: it is stored, or discarded and counted where an owner is no longer OPEN or the
injector enable cannot commit (R195, R196, R211). A write that R80 did not defer is discarded so too, where a commit of the
boundary has taken its owner out of OPEN: DESIGN CHOICE, assumption 52. -/
def State.commitHeld (s : State) (off v mask : Nat) : State :=
  let whole := (s.rawWord off &&& (0xFFFFFFFF - mask)) ||| (v &&& mask)
  if (s.runEn && !(s.heldOwners off).all (fun l => s.mode l == 0)) || s.badInject off whole then
    s.inc R.FLT_REJECT_COUNT 0 1
  else ((heldFields off).foldl (fun t x => t.wr x.1 x.2 (x.1.merge x.2 (t.rd x.1 x.2) off whole)) s).injectorSet s off

/-- A held word as it will stand: the last value written, byte lanes of several writes laid one on another (R195), and 0 in
reserved bits (R16). -/
def State.heldWord (s : State) (off : Nat) : Nat :=
  (s.staged.foldl (fun (acc : Nat) (x : Staged) =>
    match x.act with
    | .held o v m => if o = off then (acc &&& (0xFFFFFFFF - m)) ||| (v &&& m) else acc
    | _ => acc) (s.rawWord off)) &&& fieldBits off

/-- A stage word that no slot in force covers (R220). -/
def State.uncovered (s : State) (off : Nat) : Bool :=
  decide (0x118000 ≤ off) && decide (off < 0x120000) && (s.slotOfStage ((off - 0x118000) / 8)).isNone

/-- A held word as a read returns it, but for the sign copies of INTEG_HI (R195, R220). -/
def State.heldRead (s : State) (off : Nat) : Nat := if s.uncovered off then 0 else s.heldWord off

/-- A held write is accepted: kept for the boundary, and sent to the peer as the whole word it makes (R195, R205). -/
def State.holdWrite (s : State) (w : WCtx) (off v mask : Nat) : State :=
  (s.stage w (.held off v mask)).mirrorOut w (.write off ((s.heldWord off &&& (0xFFFFFFFF - mask)) ||| (v &&& mask)))

/-- Effect of HELD_WRITE: a whole word written. -/
def execHeldWrite (w : WCtx) (off v : Nat) (s : State) : Host.Outcome State Fault Refusal :=
  (if !heldOff off || off % 4 ≠ 0 then s.answer .busError
   else
     match (heldFields off).head? with
     | some x => s.judgedAt w off x.1 x.2 ((s.heldRead off ^^^ v) &&& fieldBits off == 0) true (fun t =>
         t.holdWrite w off v 0xFFFFFFFF)
     | none => s.refuse w off 2).go

/-- Capture starts when ARM is written as 1 (R213). -/
def State.armCapture (s : State) (l : Nat) : State :=
  ((((s.wr R.LE_SLOT_CAP_STAT_WPTR l 0).wr R.LE_SLOT_CAP_STAT_FULL l 0).wr R.LE_SLOT_CAP_STAT_TRIGGERED l 0).wr
    R.LE_SLOT_CAP_STAT_TRIG_IDX l 0).wr R.LE_SLOT_CAP_STAT_DONE l 0

/-- The fields of ZK_LE_SLOT_CAP written from a word; capture starts where the write addresses ARM and carries a 1 (R10,
R213). -/
def State.writeCap (s : State) (l v : Nat) (arm : Bool) : State :=
  (((((s.wr R.LE_SLOT_CAP_PRE l (bitsOf v 23 12)).wr R.LE_SLOT_CAP_TRIG l (bitsOf v 9 8)).wr R.LE_SLOT_CAP_STAGE l
    (bitsOf v 7 3)).wr R.LE_SLOT_CAP_SRC l (bitsOf v 2 1)).wr R.LE_SLOT_CAP_ARM l (v % 2)).when (arm && v.testBit 0)
      (fun t => t.armCapture l)

/-- Effect of CAPTURE_ARM: ZK_LE_SLOT_CAP written. -/
def execCaptureArm (w : WCtx) (slot v : Nat) (s : State) : Host.Outcome State Fault Refusal :=
  (let off := R.LE_SLOT_CAP_ARM.word slot
   s.judgedAt w off R.LE_SLOT_CAP_ARM slot (s.carries off v) true (fun t => t.writeCap slot v true)).go

end Sys2Proof.Machine
end

