-- ==== Sys2Proof/Machine/PhaseDriver.lean ====
section
/-! DEFINITION. The Phase Driver: reference and load line (R221–R225), pulses (R226–R230), compensator and share (R231–R233),
phase states (R238–R245), protection (R246–R251), phase health (R252–R258) and its commands. -/

namespace Sys2Proof.Machine

/-! ## Rails and phases -/

/-- STATE of a phase (R238). -/
def State.ph (s : State) (p : Nat) : Nat := s.rd R.PD_PH_STAT_STATE p

/-- The phase pulses (R228). -/
def State.pulsing (s : State) (p : Nat) : Bool := s.ph p == 1 || s.ph p == 2 || s.ph p == 4

/-- N, the pulsing count of a rail. -/
def State.nPulse (s : State) (r : Nat) : Nat := ((s.phasesOf r).filter s.pulsing).length

/-- f, the FENCED phases of a rail (R251). -/
def State.nFenced (s : State) (r : Nat) : Nat := ((s.phasesOf r).filter (fun p => s.ph p == 5)).length

/-- g, the derated phases of a rail (R251). A derated phase that is fenced counts once, as FENCED. -/
def State.nDerated (s : State) (r : Nat) : Nat :=
  ((s.phasesOf r).filter (fun p => s.bit R.PD_PH_STAT_DERATED p && s.ph p != 5)).length

/-- Phases of a rail in a state, rising. -/
def State.inState (s : State) (r st : Nat) : List Nat := (s.phasesOf r).filter (fun p => s.ph p == st)

/-- USED current of a phase, 1/32 A (R265). -/
def State.used (s : State) (p : Nat) : Int := s.rdS R.PD_PH_CURRENT_USED p

/-- I_rail: the sum of the USED currents, 1/32 A (R224). -/
def State.iRail (s : State) (r : Nat) : Int := sumI ((s.phasesOf r).map s.used)

/-- The Phase Driver follows the Gate holder's input set: a twin that does not drive and takes INPUT packets (R52, R261). -/
def State.follows (s : State) : Bool := s.forwarded && !s.bit R.PD_STATUS_DRIVING 0

/-- Present sample of a phase, 1/32 A: the own one, or that of the frame's input set (R233, R261). -/
def State.cur (s : State) (p : Nat) : Int :=
  if s.follows then s.rdS H.LE_IN_PHASE p else s.rdS R.PD_PH_CURRENT_MEAS p

/-- The present sample is sense-valid (R252). A forwarded one shows its code alone. -/
def State.curOk (s : State) (p : Nat) : Bool :=
  if s.follows && !s.bit H.TWIN_OWN_SET 0 then s.cur p != -1024 && s.cur p != 3071 else s.bit R.PD_PH_STAT_SENSE_OK p

/-- Siblings whose samples form Ī for a phase (R233). -/
def State.siblings (s : State) (p : Nat) : List Nat :=
  (s.phasesOf (s.rd R.PD_PH_STAT_RAIL p)).filter (fun q =>
    q != p && s.ph q == 1 && !s.bit R.PD_PH_STAT_DERATED q && !s.bit H.PD_LOOP_PH q && s.curOk q)

/-- Ī of a phase as a sum and a count; none when no sibling qualifies (R233). -/
def State.ibar (s : State) (p : Nat) : Option (Int × Nat) :=
  let q := s.siblings p
  if q.isEmpty then none else some (sumI (q.map s.cur), q.length)

/-- V_ref of a rail, in units of 0.25 µV (R128, R223). -/
def State.vref (s : State) (r : Nat) : Nat :=
  if s.bit R.PD_RAIL_STAT_RAMPING r then s.rd H.PD_RAMP_V r else 1800000 + 10000 * s.rd R.PD_RAIL_VREF_VREF r

/-- V_tgt × 10^6, in units of 2^-16 V (R224). -/
def State.vtgtM (s : State) (r : Nat) : Int :=
  (s.vref r : Int) * 16384 - (s.rd R.PD_RAIL_COMP1_RLL r : Int) * s.iRail r * 1024

/-- A conversion lies above V_ref + `mv` millivolts (R225). -/
def State.above (s : State) (r : Nat) (mv : Int) : Bool :=
  decide (((s.vref r : Int) + 4000 * mv) * 256 < (s.rd H.PD_VSENSE r : Int) * 15625)

/-- A pwm command, while this instance drives (R227, R261). -/
def State.pwm (s : State) (p : Nat) (l : PwmLevel) (start width : Nat) : State :=
  if s.bit R.PD_STATUS_DRIVING 0 then s.send (.pwm p l start width) else s

/-- DMAX of a rail as it is applied: never above its ceiling of 0.5. The register keeps what was written, for the check of R235
(R15, R544; assumption 55). -/
def State.dmax (s : State) (r : Nat) : Int := (min 0x8000 (s.rd R.PD_RAIL_COMP2_DMAX r) : Int)

/-- d_p of every pulsing phase of a rail (R233, R255). -/
def State.refreshDuty (s : State) (r : Nat) : State :=
  let d : Int := (s.rd H.PD_DRAIL r : Int)
  ((s.phasesOf r).filter s.pulsing).foldl (fun t p =>
    let c := if s.bit R.PD_PH_STAT_DERATED p && s.ph p != 2 then 0 else s.rdS R.PD_PH_DUTY_SHARE p
    t.wr R.PD_PH_DUTY_DUTY p (clampI 0 (s.dmax r) (d + c)).toNat) s

/-! ## Adding and shedding -/

/-- A FALLOW phase enters ADDING (R233, R239). -/
def State.toAdding (s : State) (p : Nat) : State :=
  ((s.wr R.PD_PH_STAT_STATE p 4).wr R.PD_PH_DUTY_SHARE p 0).clearElems [H.PD_ADD_PER, H.PD_POS, H.PD_WID] p

/-- Pulse skipping is to disengage at the next period start (R245, R305). -/
def State.endSkip (s : State) (r : Nat) : State := s.when (s.bit R.PD_RAIL_STAT_SKIPPING r) (fun t => t.wr H.PD_SKIP_END r 1)

/-- The lowest-numbered FALLOW phases of a rail enter ADDING; any add restarts DWELL and ends pulse skipping (R242, R243,
R245). -/
def State.addFallow (s : State) (r k : Nat) : State :=
  let new := (s.inState r 3).take k
  if new.isEmpty then s
  else ((((new.foldl State.toAdding s).wr H.PD_DWELL_CNT r 0).endSkip r).rerank r).refreshDuty r

/-- Phases in SHEDDING whose shed has not been ended (R242, R243, R304). -/
def State.shedding (s : State) (r : Nat) : List Nat := (s.inState r 2).filter (fun p => !s.bit H.PD_RET_ACT p)

/-- A shed begun or decided ends: a SHEDDING phase is to return to ACTIVE, a pending one stays ACTIVE (R242, R243). -/
def State.dropShed (s : State) (r : Nat) : State :=
  if (s.shedding r).isEmpty && s.rd H.PD_SHED_PEND r == 0 then s
  else (((s.shedding r).foldl (fun t p => t.wr H.PD_RET_ACT p 1) s).wr H.PD_SHED_PEND r 0).wr H.PD_DWELL_CNT r 0

/-- An add of `k` phases (R243). -/
def State.addPhases (s : State) (r k : Nat) : State := (s.dropShed r).addFallow r k

/-- The add decision of a frame on the rail's latest current (R243). -/
def State.addDecision (s : State) (r : Nat) : State :=
  let n := s.nPulse r
  let a := s.rd R.PD_RAIL_SHED_ADD_CUR r
  let i := (s.rdS H.LE_IN_RAILI r).toNat
  if a * n * 32 < i * 10 ∧ s.railOn r then
    s.addPhases r (if a = 0 then 16 else (i * 10 + 32 * a - 1) / (32 * a) - n)
  else s

/-- A step during a shed (R303, R304); a shed decided and not begun is abandoned (R242). -/
def State.stepDetected (s : State) (r : Nat) : State :=
  if !(s.shedding r).isEmpty then
    (((s.dropShed r).addFallow r (s.rd R.CROOK_RAIL_CFG_STEP_ADD r)).inc R.CROOK_RAIL_STAT_ABORTS r 1).wr H.PD_ALARM_NOW r 1
  else if s.rd H.PD_SHED_PEND r ≠ 0 then s.dropShed r
  else s

/-- A TRIP on a rail, or SHED_DEFER set: a step, and the end of pulse skipping (R303, R305). -/
def State.stepAndSkip (s : State) (r : Nat) : State := (s.stepDetected r).endSkip r

/-! ## Fence, derate, switch-off -/

/-- A fence (R239, R244, R254). Causes: 1 NO_CONDUCT, 2 SC_REPEAT, 3 Warden. A derate outlasts it (R258). -/
def State.fencePhase (s : State) (p cause : Nat) : State :=
  let r := s.rd R.PD_PH_STAT_RAIL p
  let on := s.railOn r
  let s1 := (((s.wr R.PD_PH_STAT_STATE p 5).wr R.PD_PH_STAT_CAUSE p cause).wr R.PD_PH_DUTY_DUTY p 0).pwm p .mid 0 0
  let s2 := (((s1.clearElems [H.PD_RET_ACT, H.PD_SHED_STEP, H.PD_DEVC, H.PD_INVC, H.PD_CLAMPC, H.PD_SCRUN, H.PD_SC_THIS,
    H.PD_OFF_DUE] p).wr
    H.PD_NEWFAIL r (if s.bit R.PD_PH_STAT_DERATED p then s.rd H.PD_NEWFAIL r else 1)).when (s1.rd H.PD_SHED_PEND r == p + 1)
    (fun t => t.wr H.PD_SHED_PEND r 0)).rerank r
  let m := s2.rd R.PD_RAIL_CFG_MIN_ACTIVE r
  let s3 := if on ∧ s2.nPulse r < m then s2.addPhases r (m - s2.nPulse r) else s2.refreshDuty r
  s3.fault 0x01 p 1

/-- A derate (R255). -/
def State.deratePhase (s : State) (p : Nat) : State :=
  let r := s.rd R.PD_PH_STAT_RAIL p
  let u := match s.ibar p with
    | some (a, n) => openDivI a n
    | none => s.used p
  ((((((s.wr R.PD_PH_STAT_DERATED p 1).wr R.PD_PH_DUTY_SHARE p 0).wrS R.PD_PH_CURRENT_USED p u).wr H.PD_NEWFAIL r 1).clearElems
    [H.PD_DEVC, H.PD_INVC, H.PD_CLAMPC] p).refreshDuty r).fault 0x01 p 1

/-- JUDGE of a rail; 0 acts as 2 (R263). -/
def State.judgeN (s : State) (r : Nat) : Nat :=
  if s.rd R.PD_RAIL_HEALTH_JUDGE r = 0 then 2 else s.rd R.PD_RAIL_HEALTH_JUDGE r

/-- Fences due for a pulsing phase: bit 0 by its judgement, bit 1 by repeated short circuit (R240, R246, R253). -/
def State.fenceDue (s : State) (p : Nat) : Nat :=
  if s.pulsing p then
    b2n (decide (s.judgeN (s.rd R.PD_PH_STAT_RAIL p) ≤ s.rd H.PD_DEVC p)) + 2 * b2n (decide (16 ≤ s.rd H.PD_SCRUN p))
  else 0

/-- A rail is switched off: its phases go to OFF, or stay FENCED; a fence that is due in the same period stays due (R239, R240,
R249). -/
def State.railOff (s : State) (r : Nat) : State :=
  let ph := (s.phasesOf r).filter (fun p => s.ph p != 5 && s.ph p != 7)
  let s1 := ph.foldl (fun t p =>
    ((((t.wr H.PD_OFF_DUE p (t.fenceDue p)).wr R.PD_PH_STAT_STATE p 0).wr R.PD_PH_DUTY_DUTY p 0).pwm p .mid 0 0).clearElems
      [H.PD_RET_ACT, H.PD_SHED_STEP, H.PD_DEVC, H.PD_INVC, H.PD_CLAMPC, H.PD_SCRUN, H.PD_SC_THIS] p) s
  (s1.clearElems [R.PD_RAIL_STAT_SKIPPING, R.PD_RAIL_STAT_RAMPING, H.PD_SHED_PEND, H.PD_DWELL_CNT, H.PD_SKIP_CNT, H.PD_SKIP_END,
    H.PD_PG_CNT, H.PD_PG] r).rerank r

/-- The tiles and sites that a rail supplies power up: their Crook cells come up disabled, and not tripped (R270). -/
def State.cellsUp (s : State) (r : Nat) : State :=
  ((List.range 832).filter (fun c => cellPresent s.zk4 c && foldRail s.zk4 (cellFold s.zk4 c) == r)).foldl (fun (t : State) (c : Nat) =>
    t.clearElems [H.CROOK_C_EN, H.CROOK_C_TRIPPED, H.CROOK_C_STUCK, H.CROOK_C_SFR] c) s

/-- A rail's ramp from OFF starts (R223, R239, R270, R508). -/
def State.startRamp (s0 : State) (r : Nat) : State :=
  let s := s0.cellsUp r
  let s1 := (s.inState r 0).foldl (fun t p => ((t.wr R.PD_PH_STAT_STATE p 1).wr R.PD_PH_DUTY_SHARE p 0).clearElems [H.PD_POS, H.PD_WID] p) s
  ((((((s1.wr R.PD_RAIL_STAT_RAMPING r 1).wr H.PD_RAMP_V r 0).wr R.PD_RAIL_VREF_VREF r 0).wr R.PD_RAIL_VREF_TARGET r
    (s.rd R.PD_SETPOINT_CODE (32 * r))).clearElems
    [H.PD_PG_CNT, H.PD_PG, H.PD_OFF_FAIL] r).rerank r).refreshDuty r

/-! ## Conversions -/

/-- Truncation starts and ends (R248). -/
def State.truncate (s : State) (r : Nat) : State :=
  let t : Int := (s.rd R.PD_RAIL_LIMITS_TRUNC r : Int)
  if s.above r t then
    if s.bit R.PD_RAIL_STAT_TRUNCATING r then s
    else
      ((s.phasesOf r).filter (fun p => s.pulsing p || s.bit H.PD_TEST_ON p)).foldl (fun u p => u.pwm p .low 0 0)
        ((s.wr R.PD_RAIL_STAT_TRUNCATING r 1).wr H.PD_TRUNC_NOW r 1)
  else if (s.rd H.PD_VSENSE r : Int) * 15625 < ((s.vref r : Int) + 4000 * (t - 5)) * 256 then s.wr R.PD_RAIL_STAT_TRUNCATING r 0
  else s

/-- One run of the compensator (R231, R232). -/
def State.compensate (s : State) (r : Nat) : State :=
  let e := openDivI (s.vtgtM r) 1000000 - (s.rd H.PD_VSENSE r : Int)
  let top := s.dmax r * 65536
  let k (m sh : Fld) (x : Int) : Int := scaleBy (x * (s.rd m r : Int)) (16 - (s.rd sh r : Int))
  let pt := k R.PD_RAIL_COMP0_KPM R.PD_RAIL_COMP0_KPS e
  let dt := k R.PD_RAIL_COMP1_KDM R.PD_RAIL_COMP1_KDS (e - s.rdS H.PD_EPREV r)
  let i0 : Int := (s.rd H.PD_INTEG r : Int)
  let d0 := pt + i0 + dt
  let frozen := (decide (d0 ≤ 0) && decide (e < 0)) || (decide (top ≤ d0) && decide (0 < e))
    || s.bit R.PD_RAIL_STAT_TRUNCATING r || s.bit R.PD_RAIL_STAT_SKIPPING r || s.nPulse r == 0
  let i1 := if frozen then i0 else clampI 0 top (i0 + k R.PD_RAIL_COMP0_KIM R.PD_RAIL_COMP0_KIS e)
  let d := clampI 0 top (pt + i1 + dt)
  (((s.wr H.PD_INTEG r i1.toNat).wrS H.PD_EPREV r e).wr H.PD_DRAIL r (d / 65536).toNat).refreshDuty r

/-- A conversion lies below V_tgt − STEP_V (R303, R305). -/
def State.lowStep (s : State) (r : Nat) : Bool :=
  decide ((s.rd H.PD_VSENSE r : Int) * 1000000 < s.vtgtM r - 65536000 * (s.rd R.CROOK_RAIL_CFG_STEP_V r : Int))

/-- The SG-2 count and truncation on the latest conversion (R248, R249). -/
def State.overshoot (s : State) (r : Nat) : State :=
  (s.wr H.PD_SG2 r (if s.above r 60 then min 63 (s.rd H.PD_SG2 r + 1) else 0)).truncate r

/-- One run of a rail's control on a conversion: overshoot, power-good, compensator, step (R225, R231, R248, R249, R303, R305,
R508). -/
def State.runRail (s : State) (r code : Nat) : State :=
  let s1 := (s.wr H.PD_VSENSE r code).overshoot r
  let low := decide ((s1.rd H.PD_VSENSE r : Int) * 15625 < ((s1.vref r : Int) - 80000) * 256)
  let s2 := s1.wr H.PD_PG_CNT r (if low || s1.bit R.PD_RAIL_STAT_RAMPING r || !s1.railOn r then 0
    else min 511 (s1.rd H.PD_PG_CNT r + 1))
  let s3 := s2.compensate r
  s3.when (s3.lowStep r) (fun t => t.stepAndSkip r)

/-- A remote-sense conversion of a rail's own channel. In loopback the overshoot comparisons use the last one before it (R443);
a twin that follows runs on the forwarded ones (R261). -/
def State.convert (s : State) (r code : Nat) : State :=
  if s.bit H.PD_LOOP_RAIL r then s.overshoot r
  else
    let s1 := (s.wr H.PD_VS_PREV r (s.rd H.PD_VOWN r)).wr H.PD_VOWN r code
    if s1.follows then s1 else s1.runRail r (s1.rd H.PD_VOWN r)

/-- Effect of RAIL_SENSE_CONVERSION. -/
def execRailSenseConversion (rail code : Nat) (s : State) : Host.Outcome State Fault Refusal :=
  (if s.rails.contains rail then s.convert rail code else s).go

/-- Effect of SG2_SHUTDOWN: 32 consecutive conversions above V_ref + 60 mV (R249, R621). -/
def execSg2Shutdown (rail : Nat) (s : State) : Host.Outcome State Fault Refusal :=
  (if 32 ≤ s.rd H.PD_SG2 rail ∧ s.railOn rail then
    (((s.railOff rail).wr R.PD_RAIL_STAT_OFF_LATCH rail 1).tally 0 3 1 rail
      (65536 * s.rd R.PD_RAIL_VREF_VREF rail + min 65535 (openDiv (s.rd H.PD_VSENSE rail * 125) 512))).fault 0x02 rail 2
  else s).go

/-- One rail's V_ref moves: a ramp from OFF to SAFE_CODE, and from there as every move to the target (R223, R508). -/
def State.stepVref (s : State) (r : Nat) : State :=
  let goal := if s.bit R.PD_RAIL_STAT_RAMPING r then s.rd R.PD_SETPOINT_CODE (32 * r) else s.rd R.PD_RAIL_VREF_TARGET r
  if !s.railOn r then s
  else if s.bit R.PD_RAIL_STAT_RAMPING r then
    let rate := s.rd H.PD_RAMP_RATE r
    let v := s.rd H.PD_RAMP_V r + rate
    if 1800000 + 10000 * goal ≤ v then
      (s.wr R.PD_RAIL_STAT_RAMPING r 0).wr R.PD_RAIL_VREF_VREF r goal
    else (s.wr H.PD_RAMP_V r v).wr R.PD_RAIL_VREF_VREF r (if v < 1800000 then 0 else openDiv (v - 1800000) 10000)
  else
    let c := s.rd R.PD_RAIL_VREF_VREF r
    if c < goal then s.wr R.PD_RAIL_VREF_VREF r (c + 1)
    else if goal < c then (s.wr R.PD_RAIL_VREF_VREF r (c - 1)).endSkip r
    else s

/-- Effect of VREF_STEP: every rail's V_ref makes its 250 ns move. -/
def execVrefStep (s : State) : Host.Outcome State Fault Refusal := (s.rails.foldl State.stepVref s).go

/-! ## Phase currents -/

/-- One of a phase's judgement counts (R253). -/
def State.judgeCount (s : State) (f : Fld) (p : Nat) (c : Bool) : State :=
  s.wr f p (if c then min 3 (s.rd f p + 1) else 0)

/-- One run of a phase's share, judgement and the rail's current limits on its present sample (R233, R245, R252, R253, R255, R303).
A derated phase for which Ī has no value keeps its USED current: DESIGN CHOICE, assumption 48. -/
def State.runPhase (s : State) (p : Nat) : State :=
  let r := s.rd R.PD_PH_STAT_RAIL p
  let i := s.cur p
  let ok := s.curOk p
  let der := s.bit R.PD_PH_STAT_DERATED p
  let bar := s.ibar p
  let s2 := s.wrS R.PD_PH_CURRENT_USED p (if der then (match bar with | some (a, n) => openDivI a n | none => s.used p) else i)
  let c := s.rdS R.PD_PH_DUTY_SHARE p
  let m : Int := (s.rd R.PD_RAIL_COMP2_SHARE_MAX r : Int)
  let s3 := match bar with
    | none => ((s2.judgeCount H.PD_DEVC p false).judgeCount H.PD_INVC p false).judgeCount H.PD_CLAMPC p false
    | some (a, n) =>
      let judged := s.ph p == 1 && decide (2 ≤ s.nPulse r)
        && decide (((32 * max 1 (s.rd R.PD_RAIL_HEALTH_MIN_MEAN r) * n : Nat) : Int) ≤ a)
      let dev := judged && ok && decide (i * 100 * (n : Int) < (100 - (s.rd R.PD_RAIL_HEALTH_DEV r : Int)) * a)
      let inv := judged && !ok
      let clp := judged && ok && !der && (decide (m ≤ c) || decide (c ≤ -m))
      let t := ((s2.judgeCount H.PD_DEVC p dev).judgeCount H.PD_INVC p inv).judgeCount H.PD_CLAMPC p clp
      if (s.ph p == 1 || s.ph p == 4) && !der && ok && !(dev || inv || clp) then
        t.wrS R.PD_PH_DUTY_SHARE p (clampI (-m) m (c + openDivI (a - i * (n : Int)) (32 * n)))
      else t
  let s4 := s3.refreshDuty r
  let big := decide (((s4.rd R.PD_RAIL_SHED_ADD_CUR r * s4.nPulse r * 32 : Nat) : Int) < s4.iRail r * 10)
  let high := decide (((2 * s4.rd R.PD_RAIL_SKIP_SKIP_CUR r * s4.nPulse r * 32 : Nat) : Int) < s4.iRail r * 10)
  (s4.when big (fun t => t.stepDetected r)).when high (fun t => t.endSkip r)

/-- In loopback a phase's USED current is Ī (R443). -/
def State.loopUsed (s : State) (p : Nat) : State :=
  match s.ibar p with
  | some (a, n) => s.wrS R.PD_PH_CURRENT_USED p (openDivI a n)
  | none => s

/-- A phase-current sample of an allocated phase's own channel: the measurement and its integrity; a twin that follows runs on the
forwarded samples (R252, R261). -/
def State.sample (s : State) (p code : Nat) (refOff : Bool) : State :=
  if s.bit H.PD_LOOP_PH p then s.loopUsed p
  else
    let i : Int := ((code % 4096 : Nat) : Int) - 1024
    let s1 := ((s.wrS R.PD_PH_CURRENT_MEAS p i).wrB R.PD_PH_STAT_SENSE_OK p
      (code % 4096 != 0 && code % 4096 != 4095 && !refOff)).wr H.PD_SAMP p 1
    if s1.follows then s1 else s1.runPhase p

/-- The phase is allocated to a rail (R33). -/
def State.allocated (s : State) (p : Nat) : Bool := decide (p < 128) && s.ph p != 7

/-- Effect of PHASE_CURRENT_SAMPLE. -/
def execPhaseCurrentSample (phase code : Nat) (refOff : Bool) (s : State) : Host.Outcome State Fault Refusal :=
  (if s.allocated phase then s.sample phase code refOff else s).go

/-- Effect of PHASE_FENCE_VERDICT: JUDGE consecutive samples failed to conduct (R253, R254). The fence wins over a shed or a
switch-off of the same period (R240). -/
def execPhaseFenceVerdict (phase : Nat) (s : State) : Host.Outcome State Fault Refusal :=
  (if s.allocated phase && bitOf (s.rd H.PD_OFF_DUE phase ||| s.fenceDue phase) 0 then s.fencePhase phase 1 else s).go

/-- Effect of PHASE_DERATE: JUDGE consecutive samples were sense-invalid, or had c_p at its clamp, and a failure to conduct,
the first verdict of the table, does not apply (R253, R255). -/
def execPhaseDerate (phase : Nat) (s : State) : Host.Outcome State Fault Refusal :=
  (let j := s.judgeN (s.rd R.PD_PH_STAT_RAIL phase)
   if s.allocated phase && s.pulsing phase && !s.bit R.PD_PH_STAT_DERATED phase && decide (s.rd H.PD_DEVC phase < j)
      && (decide (j ≤ s.rd H.PD_INVC phase) || decide (j ≤ s.rd H.PD_CLAMPC phase)) then
    s.deratePhase phase else s).go

/-- The short-circuit comparator of a phase acts: every phase has one, in a test pulse too (R246, R255). -/
def State.scArmed (s : State) (p : Nat) : Bool :=
  s.allocated p && !(s.bit R.PD_PH_STAT_DERATED p && !s.bit R.PD_PH_STAT_SENSE_OK p)

/-- Effect of SHORT_CIRCUIT_TRIP (R246). -/
def execShortCircuitTrip (phase : Nat) (s : State) : Host.Outcome State Fault Refusal :=
  (if s.scArmed phase then
    let s1 := ((s.inc H.PD_SC_CNT phase 1).inc R.PD_PH_CTRL_SC_TOTAL phase 1).pwm phase .low 0 0
    if s.bit H.PD_SC_THIS phase then s1
    else (s1.wr H.PD_SC_THIS phase 1).wr H.PD_SCRUN phase (min 31 (s.rd H.PD_SCRUN phase + 1))
  else s).go

/-- Effect of SC_REPEAT_FENCE: trips in 16 consecutive periods (R246, R254, R621). -/
def execScRepeatFence (phase : Nat) (s : State) : Host.Outcome State Fault Refusal :=
  (if s.allocated phase && bitOf (s.rd H.PD_OFF_DUE phase ||| s.fenceDue phase) 1 then
    (s.tally 2 3 1 phase (s.rd R.PD_PH_CTRL_SC_TOTAL phase)).fencePhase phase 2
  else s).go

/-! ## Switching periods -/

/-- P of a rail: the switching period in counts (R226). -/
def State.periodP (s : State) (r : Nat) : Nat := (rndDiv 6400000 (s.rd R.PD_RAIL_CFG_FSW r)).toNat

/-- Ranked start of a phase (R228). -/
def State.ranked (s : State) (p : Nat) : Nat :=
  let r := s.rd R.PD_PH_STAT_RAIL p
  (rndDiv ((s.rd R.PD_PH_STAT_RANK p * s.periodP r : Nat) : Int) (s.nPulse r)).toNat

/-- Pending state changes that take effect at a phase's period start (R239, R241, R242, R304). -/
def State.periodChanges (s : State) (p : Nat) : State :=
  let r := s.rd R.PD_PH_STAT_RAIL p
  let d : Int := (s.rd H.PD_DRAIL r : Int)
  match s.ph p with
  | 1 =>
    if s.rd H.PD_SHED_PEND r = p + 1 then
      ((((s.wr R.PD_PH_STAT_STATE p 2).wr H.PD_SHED_PEND r 0).wr H.PD_SHED_STEP p 0).wrS H.PD_SHED_DELTA p
        (openDivI (d + s.rdS R.PD_PH_DUTY_SHARE p) 4)).rerank r
    else s
  | 2 =>
    if s.bit H.PD_RET_ACT p then
      ((((s.wr R.PD_PH_STAT_STATE p 1).wr R.PD_PH_DUTY_SHARE p 0).wr H.PD_RET_ACT p 0).wr H.PD_SHED_STEP p 0).refreshDuty r
    else if s.rd H.PD_SHED_STEP p < 4 then
      ((s.wr H.PD_SHED_STEP p (s.rd H.PD_SHED_STEP p + 1)).wrS R.PD_PH_DUTY_SHARE p
        (s.rdS R.PD_PH_DUTY_SHARE p - s.rdS H.PD_SHED_DELTA p)).refreshDuty r
    else
      (((((s.wr R.PD_PH_STAT_STATE p 3).wr H.PD_SHED_STEP p 0).wr R.PD_PH_DUTY_DUTY p 0).wr H.PD_FALLOW_PER p 0).rerank
        r).refreshDuty r
  | 4 =>
    let k := s.rd H.PD_ADD_PER p
    let carries := match s.ibar p with
      | some (a, n) => decide (3 * a ≤ 4 * (n : Int) * s.cur p)
      | none => false
    if 8 ≤ k ∨ (1 ≤ k ∧ carries = true) then (s.wr R.PD_PH_STAT_STATE p 1).wr H.PD_ADD_PER p 0
    else s.wr H.PD_ADD_PER p (k + 1)
  | _ => s

/-- The period's pulse of a pulsing phase: its start and width (R228, R229, R245, R248). -/
def State.pulse (s : State) (p : Nat) : State :=
  let r := s.rd R.PD_PH_STAT_RAIL p
  let per := s.periodP r
  let want := s.ranked p
  let lastEnd := s.rd H.PD_POS p + s.rd H.PD_WID p
  let displ := decide (per + want < lastEnd + 256)
  let pos := if displ then lastEnd + 256 - per else want
  let w0 := max 128 (openDiv (s.rd R.PD_PH_DUTY_DUTY p * per) 65536)
  let room := (if displ then per + want - pos else per) - 256
  let w := min w0 room
  let stop := s.bit R.PD_RAIL_STAT_TRUNCATING r
  let skip := s.bit R.PD_RAIL_STAT_SKIPPING r
    && decide (s.vtgtM r ≤ (s.rd H.PD_VSENSE r : Int) * 1000000)
  let s1 := (s.wr H.PD_POS p pos).wrB H.PD_DISPL p displ
  if stop then (s1.wr H.PD_WID p 0).pwm p .low pos 0
  else if skip then (s1.wr H.PD_WID p 0).pwm p .mid pos 0
  else if w < 128 then (s1.wr H.PD_WID p 0).pwm p .low pos 0
  else (s1.wr H.PD_WID p w).pwm p .high pos w

/-- A phase's switching period starts (R228–R230, R239–R241, R245, R246, R305, R442). -/
def State.periodStart (s : State) (p : Nat) : State :=
  let r := s.rd R.PD_PH_STAT_RAIL p
  let s1 := (s.when (!s.bit H.PD_SC_THIS p) (fun t => t.wr H.PD_SCRUN p 0)).wr H.PD_SC_THIS p 0
  let s2 := s1.when (s1.bit H.PD_SKIP_END r) (fun t =>
    ((t.wr R.PD_RAIL_STAT_SKIPPING r 0).wr H.PD_SKIP_END r 0).wr H.PD_SKIP_CNT r 0)
  let s3 := (s2.periodChanges p).clearElems [H.PD_OFF_DUE, H.PD_TEST_ON] p
  match s3.ph p with
  | 0 => s3.pwm p .mid 0 0
  | 3 =>
    if s3.rd H.PD_FALLOW_PER p = 15 then (s3.wr H.PD_FALLOW_PER p 0).pwm p .low 0 256
    else (s3.wr H.PD_FALLOW_PER p (s3.rd H.PD_FALLOW_PER p + 1)).pwm p .mid 0 0
  | 5 =>
    if 0 < s3.rd H.PD_TEST_PULSE p && !s3.bit R.PD_RAIL_STAT_TRUNCATING r then
      ((s3.wr H.PD_TEST_PULSE p (s3.rd H.PD_TEST_PULSE p - 1)).wr H.PD_TEST_ON p 1).pwm p .high 0 128
    else s3.pwm p .mid 0 0
  | _ => s3.pulse p

/-- Effect of SWITCHING_PERIOD_START. -/
def execSwitchingPeriodStart (phase : Nat) (s : State) : Host.Outcome State Fault Refusal :=
  (if s.allocated phase then s.periodStart phase else s).go

/-- The conditions of a shed hold (R242, R263). -/
def State.mayShed (s : State) (r : Nat) : Bool :=
  decide (max 1 (s.rd R.PD_RAIL_SHED_DWELL r) ≤ s.rd H.PD_DWELL_CNT r)
    && decide (s.rd R.PD_RAIL_CFG_MIN_ACTIVE r < s.nPulse r) && (s.inState r 2).isEmpty && (s.inState r 4).isEmpty
    && !s.bit R.PD_RAIL_STAT_SHED_DEFER r && s.rd H.PD_SHED_PEND r == 0
    && decide (s.rd R.PD_RAIL_SHED_SHED_CUR r ≤ s.rd R.PD_RAIL_SHED_ADD_CUR r)

/-- Effect of SHED_DECISION: the highest-numbered ACTIVE phase is to shed (R242). -/
def execShedDecision (rail : Nat) (s : State) : Host.Outcome State Fault Refusal :=
  (match (s.inState rail 1).getLast? with
   | some p => if s.mayShed rail then (s.wr H.PD_SHED_PEND rail (p + 1)).wr H.PD_DWELL_CNT rail 0 else s
   | none => s).go

/-- Effect of PULSE_SKIP_ENGAGE (R245). -/
def execPulseSkipEngage (rail : Nat) (s : State) : Host.Outcome State Fault Refusal :=
  (if s.rd R.PD_RAIL_SKIP_SKIP_FRAMES rail ≠ 0 ∧ s.rd R.PD_RAIL_SKIP_SKIP_FRAMES rail ≤ s.rd H.PD_SKIP_CNT rail
      ∧ s.nPulse rail = s.rd R.PD_RAIL_CFG_MIN_ACTIVE rail ∧ 0 < s.nPulse rail
      ∧ s.rd R.PD_RAIL_VREF_VREF rail ≤ s.rd R.PD_RAIL_VREF_TARGET rail then
    (s.wr R.PD_RAIL_STAT_SKIPPING rail 1).wr H.PD_SKIP_END rail 0
  else s).go

/-! ## Early adds -/

/-- The early-add request of one rail (R243, R299, R305, R313). -/
def State.earlyAdd (s : State) (r : Nat) : State :=
  let h := min 8 (s.rd R.BW_RAIL_CTRL_EA_H r)
  let f := ((List.range h).map (fun k => s.rd H.BW_FRAIL (8 * r + k))).foldl max 0
  let a := s.rd R.PD_RAIL_SHED_ADD_CUR r
  let n := s.nPulse r
  if h = 0 then s
  else if a = 0 then
    if f = 0 then s
    else (((s.wr R.BW_RAIL_STAT_EA_LAST r (s.freeVal 5)).freeStep).addPhases r 16).endSkip r
  else
    let need := (f * 10 + 8 * a - 1) / (8 * a)
    if n < need then
      let k := need - n
      let s1 := if k < 32 then s.wr R.BW_RAIL_STAT_EA_LAST r k else (s.wr R.BW_RAIL_STAT_EA_LAST r (s.freeVal 5)).freeStep
      (s1.addPhases r k).endSkip r
    else s

/-- Effect of EARLY_ADD_CHECK. -/
def execEarlyAddCheck (s : State) : Host.Outcome State Fault Refusal :=
  (if s.running then s.rails.foldl State.earlyAdd s else s).go

/-! ## At the boundary -/

/-- A rail's two conversions in the input set, and the voltage that they give: their mean (R65). -/
def State.latchRail (s : State) (r c0 c1 : Nat) : State :=
  ((s.wr H.PD_LAT0 r c0).wr H.PD_LAT1 r c1).wr H.LE_IN_RAILV r (openDiv (c0 + c1) 2)

/-- The set latched at a boundary takes the phase and rail senses (R65, R71). -/
def State.latchSense (s : State) : State :=
  let ph := (List.range 128).filter s.allocated
  let s1 := ph.foldl (fun t p => ((((t.wr H.LE_IN_PHASE p (s.rd R.PD_PH_CURRENT_MEAS p)).wr R.PD_PH_STAT_SC_FRAME p
    (s.rd H.PD_SC_CNT p)).wr H.PD_SC_CNT p 0).wr H.PD_SAMPL p (s.rd H.PD_SAMP p)).wr H.PD_SAMP p 0) s
  (s.rails.foldl (fun t r => (((t.latchRail r (s.rd H.PD_VS_PREV r) (s.rd H.PD_VOWN r)).wrS
    H.LE_IN_RAILI r (s.iRail r)).wr H.LE_IN_TRUNC r (s.rd H.PD_TRUNC_NOW r)).wr H.PD_TRUNC_NOW r
    (s.rd R.PD_RAIL_STAT_TRUNCATING r)) s1).wr H.TWIN_OWN_SET 0 1

/-- A twin that follows runs its Phase Driver on the frame's set: the phases converted in the frame before, in rising order, then
each rail on its two conversions; the rail currents are formed from what it used (R65, R233, R261). -/
def State.runSet (s : State) : State :=
  let s1 := ((List.range 128).filter (fun p => s.allocated p && s.bit H.PD_SAMPL p && !s.bit H.PD_LOOP_PH p)).foldl State.runPhase s
  let s2 := s1.rails.foldl (fun (t : State) (r : Nat) => (t.runRail r (s.rd H.PD_LAT0 r)).runRail r (s.rd H.PD_LAT1 r)) s1
  s2.rails.foldl (fun (t : State) (r : Nat) => t.wrS H.LE_IN_RAILI r (s2.iRail r)) s2

/-- The running sums of a rail's current (R242, R250). -/
def State.pushHist (s : State) (r : Nat) : State :=
  let k := 256 * r + s.frame % 256
  let i := s.rdS H.LE_IN_RAILI r
  let sum := s.rdS H.PD_SUM256 r - s.rdS H.PD_HIST k + i
  ((s.wrS H.PD_HIST k i).wrS H.PD_SUM256 r sum).wr R.PD_RAIL_OVERLOAD_MEAN r (min 65535 (openDiv (sum * 10).toNat 8192))

/-- Sum of a rail's current over the last 16 frames, 1/32 A (R242). -/
def State.sum16 (s : State) (r : Nat) : Int :=
  sumI ((List.range 16).map (fun k => s.rdS H.PD_HIST (256 * r + (s.frame + 256 - k) % 256)))

/-- The overload limit (R250). -/
def State.overload (s : State) (r : Nat) : State :=
  let mean := s.rd R.PD_RAIL_OVERLOAD_MEAN r
  let ce := s.rd R.PD_RAIL_CONT_CONT_EFF r
  let new := if mean = 0 then 32768 else 32768 * ce / mean
  let cut := if s.bit H.PD_OV_RISING r ∧ s.rd H.PD_OV_CUT r ≤ new then s else (s.wr H.PD_OV_CUT r new).wr H.PD_OV_RISING r 0
  if s.rd H.PD_OVL_EFF r < mean then
    if s.bit R.PD_RAIL_STAT_OVERLOAD r then cut else (cut.wr R.PD_RAIL_STAT_OVERLOAD r 1).fault 0x02 r 1
  else if !s.bit R.PD_RAIL_STAT_OVERLOAD r then s
  else if ce < mean then cut
  else
    let up := s.rd H.PD_OV_CUT r + 512
    if 32768 ≤ up then ((s.wr H.PD_OV_CUT r 32768).wr H.PD_OV_RISING r 0).wr R.PD_RAIL_STAT_OVERLOAD r 0
    else (s.wr H.PD_OV_CUT r up).wr H.PD_OV_RISING r 1

/-- SAFE_CONT of a rail (R155). -/
def State.safeCont (s : State) (r : Nat) : Nat := s.rd H.PD_SAFE_CONT r

/-- RAIL_SAFE begins and ends (R257, R258). -/
def State.railSafe (s : State) (r : Nat) : State :=
  let bad := s.nFenced r + s.nDerated r
  let s1 := s.wr H.PD_NEWFAIL r 0
  if s.bit R.PD_RAIL_STAT_SAFE_LATCH r then (if bad < 2 then s1.wr R.PD_RAIL_STAT_SAFE_LATCH r 0 else s1)
  else if s.bit H.PD_NEWFAIL r ∧ 2 ≤ bad then (s1.wr R.PD_RAIL_STAT_SAFE_LATCH r 1).fault 0x02 r 1
  else s1

/-- Effective limits and the rail cut (R250, R251, R256). -/
def State.railCut (s : State) (r : Nat) : State :=
  let n := s.rd R.PD_RAIL_CFG_COUNT r
  let f := s.nFenced r
  let g := s.nDerated r
  let ok2 := 2 * n - 2 * f - g
  let cont := s.rd R.PD_RAIL_CONT_CONT r
  let safe := s.bit R.PD_RAIL_STAT_SAFE_LATCH r
  let ce0 := openDiv (cont * ok2) (2 * n)
  let s1 := ((s.wr R.PD_RAIL_CONT_CONT_EFF r (if safe then min ce0 (s.safeCont r) else ce0)).wr H.PD_OVL_EFF r
    (openDiv (s.rd R.PD_RAIL_OVERLOAD_OVERLOAD r * ok2) (2 * n))).overload r
  let a := if n = 0 then 32768 else 32768 * ok2 / (2 * n)
  let b := s1.rd H.PD_OV_CUT r
  let c := if safe then (if cont = 0 then 32768 else min 32768 (32768 * s.safeCont r / cont)) else 32768
  let cut := min a (min b c)
  ((((s1.wr R.PD_RAIL_CUT_CUT r cut).wrB R.PD_RAIL_CUT_C_SAFE r (safe && c == cut)).wrB R.PD_RAIL_CUT_C_OVERLOAD r
    (s1.bit R.PD_RAIL_STAT_OVERLOAD r && b == cut)).wrB R.PD_RAIL_CUT_C_DERATED r (decide (0 < g))).wrB R.PD_RAIL_CUT_C_FENCED r
    (decide (0 < f))

/-- The select of a rail is latched (R189, R222, R257, R260). -/
def State.latchSelect (s : State) (r : Nat) : State :=
  let out (k : Nat) : Nat := match s.owner k r with | some l => s.rd R.LE_SLOT_OUT_OUT l | none => 0
  let sel := if s.bit R.PD_RAIL_STAT_SAFE_LATCH r || s.bit R.PD_STATUS_UNDRIVEN 0 then 0 else min 31 (out 1 + out 2)
  let code := s.rd R.PD_SETPOINT_CODE (32 * r + sel)
  ((s.wr R.PD_RAIL_STAT_SELECT r sel).wr R.PD_RAIL_VREF_TARGET r code).when
    (decide (code < s.rd R.PD_RAIL_VREF_VREF r) && !s.bit R.PD_RAIL_STAT_RAMPING r) (fun t => t.endSkip r)

/-- The frame's shed and skip counts, ALARM of the frame that has ended, and deferral, whose step belongs to the frame that
begins (R242, R245, R303, R305, R308). -/
def State.shedCounts (s : State) (r : Nat) : State :=
  let n := s.nPulse r
  let i := s.sum16 r * 10
  let lowShed := s.railOn r && decide (i < ((s.rd R.PD_RAIL_SHED_SHED_CUR r * (n - 1) * 512 : Nat) : Int))
  let lowSkip := s.railOn r && n == s.rd R.PD_RAIL_CFG_MIN_ACTIVE r
    && decide (i < ((s.rd R.PD_RAIL_SKIP_SKIP_CUR r * n * 512 : Nat) : Int))
    && decide (s.rd R.PD_RAIL_VREF_VREF r ≤ s.rd R.PD_RAIL_VREF_TARGET r)
  let s1 := (s.wr H.PD_DWELL_CNT r (if lowShed then min 255 (s.rd H.PD_DWELL_CNT r + 1) else 0)).wr H.PD_SKIP_CNT r
    (if lowSkip then min 255 (s.rd H.PD_SKIP_CNT r + 1) else 0)
  let s2 := s1.when (decide (((2 * s.rd R.PD_RAIL_SKIP_SKIP_CUR r * n * 32 : Nat) : Int) < s.rdS H.LE_IN_RAILI r * 10))
    (fun t => t.endSkip r)
  let defer := s.bit R.BW_RAIL_STAT_DEFER r
  let s3 := (s2.wr R.CROOK_RAIL_STAT_ALARM r (s2.rd H.PD_ALARM_NOW r)).wr H.PD_ALARM_NOW r 0
  (s3.when (defer && !s.bit R.PD_RAIL_STAT_SHED_DEFER r) (fun t => t.stepAndSkip r)).wrB R.PD_RAIL_STAT_SHED_DEFER r defer

/-- One rail's work at a boundary after the input set is latched. -/
def State.railBoundary (s : State) (r : Nat) : State :=
  ((((((s.pushHist r).railSafe r).railCut r).latchSelect r).addDecision r).shedCounts r)

/-! ## Warden commands -/

/-- RESTART may be written (R263, R345). -/
def State.mayRestart (s : State) (r : Nat) : Bool :=
  s.bit R.PD_RAIL_CFG_ENABLE r && !s.railOn r && (s.bit R.PD_RAIL_STAT_OFF_LATCH r || s.bit H.PD_OFF_FAIL r)
    && !s.bit R.TH_TRIP_LATCHED 0

/-- A committed RESTART (R263, R435). -/
def State.doRestart (s : State) (r : Nat) : State :=
  let s1 := (s.wr R.PD_RAIL_STAT_OFF_LATCH r 0).startRamp r
  s1.when (s1.rd R.FLT_SRC_STATE_STATE (0x180 + r) == 5) (fun t => t.toClear (0x180 + r))

/-- A committed write of FENCE (R239, R265). -/
def State.wardenFence (s : State) (p : Nat) (on : Bool) : State :=
  let s1 := s.wrB R.PD_PH_CTRL_FENCE p on
  if on then (if s.ph p = 5 ∨ s.ph p = 7 then s1 else s1.fencePhase p 3)
  else if s.ph p = 5 ∧ s.rd R.PD_PH_STAT_CAUSE p = 3 then s1.unfence p
  else s1

/-- Effect of RESTART: 1 written to ZK_PD_RAIL_CMD.RESTART. -/
def execRestart (w : WCtx) (rail : Nat) (s : State) : Host.Outcome State Fault Refusal :=
  (s.judged w R.PD_RAIL_CMD_RESTART rail 1 (s.mayRestart rail) (fun t => t.stageCmd w R.PD_RAIL_CMD_RESTART rail (.restart rail))).go

/-- Effect of CLEAR_SAFE: 1 written to ZK_PD_RAIL_CMD.CLEAR_SAFE. -/
def execClearSafe (w : WCtx) (rail : Nat) (s : State) : Host.Outcome State Fault Refusal :=
  (s.judged w R.PD_RAIL_CMD_CLEAR_SAFE rail 1 true (fun t => t.stageCmd w R.PD_RAIL_CMD_CLEAR_SAFE rail (.clearSafe rail))).go

/-- Effect of PHASE_FENCE_WRITE: ZK_PD_PH_CTRL.FENCE written. -/
def execPhaseFenceWrite (w : WCtx) (phase : Nat) (on : Bool) (s : State) : Host.Outcome State Fault Refusal :=
  (s.judged w R.PD_PH_CTRL_FENCE phase (b2n on) (!(on && s.ph phase == 7)) (fun t => t.stage w (.phaseFence phase on))).go

end Sys2Proof.Machine
end

