-- ==== Sys2Proof/Machine/Crook.lean ====
section
/-! DEFINITION. Crook: the cells (R266–R280, R282, R284) and the central part (R268–R270, R278, R281, R283, R303–R309). -/

namespace Sys2Proof.Machine

/-! ## The cells -/

/-- A cell of this package. -/
def State.cellIn (s : State) (c : Nat) : Bool := cellPresent s.zk4 c

/-- Cells whose clock a cell stretches: its cache fold's, or itself (R274). -/
def clockCells (c : Nat) : List Nat :=
  if c < 768 then [c] else (List.range 16).map (fun k => 768 + (c - 768) / 16 * 16 + k)

/-- The cell in whose reports a clock's suppressed edges are counted (R274). -/
def State.edgeCell (s : State) (c : Nat) : Nat := ((clockCells c).find? (fun k => s.bit H.CROOK_C_EN k)).getD c

/-- Threshold in use (R284). -/
def State.cellThr (s : State) (c : Nat) : Nat :=
  if s.bit H.CROOK_C_ORPH c then s.rd H.CROOK_C_FALLB c else s.rd H.CROOK_C_THR c

/-- Edges suppressed over `k` clock edges, and acc after them (R272). -/
def stretch (p acc k : Nat) : Nat × Nat := ((acc + k * p) / 100, (acc + k * p) % 100)

/-- A message of a cell to both instances (R45). -/
def State.cellSend (s : State) (m : MeshMsg) : State := s.send (.mesh [.zoskare] m)

/-- A trip counted; the first of an accounting frame is sent (R280). -/
def State.countTrip (s : State) (c : Nat) : State :=
  let s1 := s.inc H.CROOK_C_TRIPS c 1
  if s.rd H.CROOK_C_TRIPS c = 0 then s1.cellSend (.cellTrip c) else s1

/-- The clock of a cell is stretched: some cell of it is tripped (R274). -/
def State.stretched (s : State) (c : Nat) : Bool := (clockCells c).any (fun k => s.bit H.CROOK_C_TRIPPED k)

/-- `edges` edges of a cell's clock have passed since it was last counted: where it is stretched, some are suppressed, and every
tripped cell of it counts them all (R272–R274). -/
def State.countEdges (s : State) (c edges : Nat) : State :=
  if s.stretched c then
    let l := s.edgeCell c
    let x := stretch (s.rd H.CROOK_C_MAXS c) (s.rd H.CROOK_C_ACC l) edges
    ((clockCells c).filter (fun k => s.bit H.CROOK_C_TRIPPED k)).foldl (fun (t : State) (k : Nat) =>
      t.inc H.CROOK_C_KEDGE k edges) ((s.wr H.CROOK_C_ACC l x.2).inc H.CROOK_C_EDGES l x.1)
  else s

/-- Effect of CELL_TRIP: the voltage code is below the threshold (R271, R272, R274). -/
def execCellTrip (cell : Nat) (m : TripEdge) (s : State) : Host.Outcome State Fault Refusal :=
  (if s.cellIn cell && s.bit H.CROOK_C_EN cell && !s.bit H.CROOK_C_TRIPPED cell && decide (m.code < s.cellThr cell) then
    let s1 := if s.stretched cell then s.countEdges cell m.edges
      else s.wr H.CROOK_C_ACC (s.edgeCell cell) (100 - s.rd H.CROOK_C_MAXS cell)
    ((s1.wr H.CROOK_C_TRIPPED cell 1).wr H.CROOK_C_KEDGE cell 0).countTrip cell
  else s).go

/-- Effect of CELL_RELEASE: `edges` clock edges since the clock was last counted, and the voltage code (R273). -/
def execCellRelease (cell edges code : Nat) (s : State) : Host.Outcome State Fault Refusal :=
  (let s1 := s.countEdges cell edges
   if s.cellIn cell && s.bit H.CROOK_C_TRIPPED cell && decide (s.cellThr cell + 2 * s.rd H.CROOK_C_HYST cell ≤ code)
      && decide (max 1 (s.rd H.CROOK_C_HOLD cell) ≤ s1.rd H.CROOK_C_KEDGE cell) then
    (s1.wr H.CROOK_C_TRIPPED cell 0).wr H.CROOK_C_STUCK cell 0
  else s).go

/-- The report of an accounting frame (R279, R282). -/
def State.cellReportOf (s : State) (c : Nat) : CellReport :=
  { stuck := s.bit H.CROOK_C_STUCK c, orphan := s.bit H.CROOK_C_ORPH c, stretching := s.bit H.CROOK_C_TRIPPED c,
    frame := s.rd H.CROOK_C_FRAME c % 256, trips := s.rd H.CROOK_C_TRIPS c, edges := s.rd H.CROOK_C_EDGES c }

/-- Effect of ACCOUNTING_FRAME_END: `edges` edges of the cell's clock since it was last counted (R275, R277, R279). -/
def execAccountingFrameEnd (cell edges : Nat) (s : State) : Host.Outcome State Fault Refusal :=
  (if !s.cellIn cell then s
  else
    let on := s.bit H.CROOK_C_TRIPPED cell
    let s1 := s.countEdges cell edges
    let through := on && s.bit H.CROOK_C_TSTART cell && s.rd H.CROOK_C_TRIPS cell == 0
    let s2 := s1.wr H.CROOK_C_SFR cell (if through then min 255 (s.rd H.CROOK_C_SFR cell + 1) else 0)
    let told := decide (0 < s2.rd H.CROOK_C_TRIPS cell) || decide (0 < s2.rd H.CROOK_C_EDGES cell)
    let s3 := s2.when (told && s.bit H.CROOK_C_EN cell) (fun t => t.cellSend (.cellReport cell (t.cellReportOf cell)))
    ((((s3.wr H.CROOK_C_TRIPS cell 0).wr H.CROOK_C_EDGES cell 0).wrB H.CROOK_C_TSTART cell on).wr H.CROOK_C_FRAME cell
      (s.rd H.CROOK_C_FRAME cell + 1)).wr H.CROOK_C_NOSYNC cell (min 255 (s.rd H.CROOK_C_NOSYNC cell + 1))).go

/-- STUCK of a cell: the register bit is set and the fault raised, where they are not yet (R275, R309). -/
def State.noteStuck (s : State) (cell : Nat) (stuck : Bool) : State :=
  if stuck && !s.bit R.CROOK_CELL_STUCK cell then (s.wr R.CROOK_CELL_STUCK cell 1).fault 0x13 cell 1 else s

/-- Effect of CELL_STUCK: STUCK is set, and the central part raises the fault (R275, R309). -/
def execCellStuck (cell : Nat) (s : State) : Host.Outcome State Fault Refusal :=
  (if s.cellIn cell && s.bit H.CROOK_C_TRIPPED cell && !s.bit H.CROOK_C_STUCK cell
      && decide (max 1 (s.rd H.CROOK_C_STUCKF cell) ≤ s.rd H.CROOK_C_SFR cell) then
    (s.wr H.CROOK_C_STUCK cell 1).noteStuck cell true
  else s).go

/-- Effect of CELL_ORPHAN: 128 frames without FRAME_SYNC (R284). -/
def execCellOrphan (cell : Nat) (s : State) : Host.Outcome State Fault Refusal :=
  (if s.cellIn cell && decide (128 ≤ s.rd H.CROOK_C_NOSYNC cell) then
    ((s.wr H.CROOK_C_ORPH cell 1).wr H.CROOK_C_OSYNC cell 0).wr H.CROOK_C_OTHR cell 0
  else s).go

/-- An orphan that has met both FRAME_SYNC and THRESH leaves ORPHAN (R284). -/
def State.unorphan (s : State) (c : Nat) : State :=
  s.when (s.bit H.CROOK_C_OSYNC c && s.bit H.CROOK_C_OTHR c) (fun t => t.wr H.CROOK_C_ORPH c 0)

/-- Cells of a fold in this package. -/
def State.cellsOf (s : State) (f : Nat) : List Nat := (foldCells s.zk4 f).filter s.cellIn

/-- Effect of THRESH: the cells of a fold apply the code (R269). -/
def execThresh (fold code : Nat) (s : State) : Host.Outcome State Fault Refusal :=
  ((s.cellsOf fold).foldl (fun t c => ((t.wr H.CROOK_C_THR c code).wr H.CROOK_C_OTHR c 1).unorphan c) s).go

/-- Effect of CONFIG: the cells of a fold take the fields (R283). -/
def execConfig (fold hyst maxStretch fallback minHold stuckFrames : Nat) (s : State) : Host.Outcome State Fault Refusal :=
  ((s.cellsOf fold).foldl (fun t c =>
    ((((t.wr H.CROOK_C_HYST c hyst).wr H.CROOK_C_MAXS c maxStretch).wr H.CROOK_C_FALLB c fallback).wr H.CROOK_C_HOLD c
      minHold).wr H.CROOK_C_STUCKF c stuckFrames) s).go

/-- Effect of CELL_EN: the cell takes the enable; a disabled cell does not stretch (R270). -/
def execCellEn (cell : Nat) (en : Bool) (s : State) : Host.Outcome State Fault Refusal :=
  (if s.cellIn cell then
    (s.wrB H.CROOK_C_EN cell en).when (!en) (fun t => t.clearElems [H.CROOK_C_TRIPPED, H.CROOK_C_STUCK, H.CROOK_C_SFR] cell)
  else s).go

/-- Number of the accounting frame in which a cell meets the FRAME_SYNC that names boundary `b`: it was sent at the boundary
before, `comp` units of 2 ns ago by the cell's delay compensation, and accounting frame b starts 420 ns before boundary b
(R277, R278). -/
def State.syncFrame (s : State) (b comp : Nat) : Nat :=
  if (if s.slowFrames then 1250 else 500) ≤ 2 * comp + 420 then b else b + 65535

/-- Effect of FRAME_SYNC: every enabled cell takes its new compensation and aligns its accounting frames to the boundary number
it carries (R278, R282, R284). -/
def execFrameSync (frame : Nat) (s : State) : Host.Outcome State Fault Refusal :=
  (((List.range 832).filter (fun c => s.cellIn c && s.bit H.CROOK_C_EN c)).foldl (fun t c =>
    let comp := s.rd H.CROOK_C_DELAY_NEXT c
    ((((t.wr H.CROOK_C_FRAME c (s.syncFrame frame comp)).wr H.CROOK_C_NOSYNC c 0).wr H.CROOK_C_DELAY c comp).wr
      H.CROOK_C_OSYNC c 1).unorphan c) s).go

/-- Effect of TEST: the cell trips at 50 % for 16 suppressed edges (R282). -/
def execTest (cell : Nat) (s : State) : Host.Outcome State Fault Refusal :=
  (if s.cellIn cell && s.bit H.CROOK_C_EN cell && !s.bit H.CROOK_C_TRIPPED cell then
    (s.countTrip cell).inc H.CROOK_C_EDGES (s.edgeCell cell) 16
  else s).go

/-- Effect of ECHO: an enabled cell answers (R270, R278). -/
def execEcho (cell : Nat) (s : State) : Host.Outcome State Fault Refusal :=
  (if s.cellIn cell && s.bit H.CROOK_C_EN cell then s.cellSend (.echoReply cell) else s).go

/-- Effect of DELAY: the compensation applies from the next FRAME_SYNC (R282). -/
def execDelay (cell comp : Nat) (s : State) : Host.Outcome State Fault Refusal :=
  (if s.cellIn cell then s.wr H.CROOK_C_DELAY_NEXT cell comp else s).go

/-! ## The central part -/

/-- A guard command, sent by the Gate holder alone (R53, R282). -/
def State.guard (s : State) (m : MeshMsg) (es : List Endpoint) : State := if s.holder then s.sendRes m es else s

/-- A cell is enabled (R270). -/
def State.cellEnabled (s : State) (c : Nat) : Bool :=
  let f := cellFold s.zk4 c
  s.running && s.cellIn c && s.bit R.CROOK_CELL_ENABLE c && (s.rec? 0x0202 f).isSome
    && (if c < 768 then
      (match s.rec? 0x0102 f with | some r => bitOf (r.u32 8) (cellTileBit c) | none => false)
        && !s.bit R.TH_FENCED_FENCED c
    else true)

/-- Cells now enabled. -/
def State.enabledCells (s : State) : List Nat := (List.range 832).filter s.cellEnabled

/-- Effect of TRIP: a TRIP message is a step on the cell's rail (R302, R303, R305). -/
def execTrip (cell : Nat) (s : State) : Host.Outcome State Fault Refusal :=
  (let r := foldRail s.zk4 (cellFold s.zk4 cell)
   if s.cellIn cell && s.rails.contains r then (s.wr H.BW_TRIPC r 16).stepAndSkip r else s).go

/-- A REPORT in a pending cell test, which is the Gate holder's: TRIPS 1 and EDGES 16, then a REPORT that does not show
stretching (R433, R442). -/
def State.cellTest (s : State) (cell : Nat) (r : CellReport) : State :=
  let n := srcBase 0x13 + cell
  if !s.holder || !s.bit H.FLT_TEST_PEND n || s.rd H.FLT_RESULT n != 0 then s
  else if s.rd H.FLT_PROBE_GOT n = 0 then s.when (r.trips == 1 && r.edges == 16) (fun t => t.wr H.FLT_PROBE_GOT n 1)
  else s.wr H.FLT_RESULT n (if r.stretching then 2 else 1)

/-- Effect of REPORT: the counts enter the next input set (R275, R281, R306, R307, R309). -/
def execReport (cell : Nat) (r : CellReport) (s : State) : Host.Outcome State Fault Refusal :=
  (if !s.cellIn cell then s
  else
    let f := cellFold s.zk4 cell
    let late := decide (r.frame % 256 ≠ s.frame % 256)
    let s1 := ((s.inc H.CROOK_PTRIPS f r.trips).inc H.CROOK_PEDGES f r.edges).inc R.CROOK_FOLD_TOTAL_TOTAL f r.trips
    let s2 := ((((s1.inc R.CROOK_CELL_TRIPS cell r.trips).wrB R.CROOK_CELL_ORPHAN cell r.orphan).wrB R.CROOK_CELL_STRETCHING
      cell r.stretching).wrB H.CROOK_REP_STUCK cell r.stuck).when late (fun t => t.inc R.CROOK_LATE_LATE 0 1)
    ((s2.when (s.rd R.CROOK_TEST_CELL 0 == cell) (fun t => t.wr R.CROOK_TEST_BUSY 0 0)).cellTest cell r).noteStuck cell
      r.stuck).go

/-- ZK_CROOK_STATUS.SYNCED (R306). -/
def State.updateSynced (s : State) : State :=
  s.when s.running (fun t => t.wrB R.CROOK_STATUS_SYNCED 0
    (s.enabledCells.all (fun c => !s.bit H.PD_PG (foldRail s.zk4 (cellFold s.zk4 c)) || s.bit H.CROOK_DELAYED c)))

/-- DELAY sent to a cell (R278). -/
def State.sendDelay (s : State) (c comp : Nat) : State :=
  (((s.guard (.delay c comp) [.cell c]).wr H.CROOK_ECHO_PEND c 0).wr H.CROOK_DELAYED c 1).updateSynced

/-- Effect of ECHO_REPLY: `rtt` is the round trip in ns; half of it, in units of 2 ns, is the compensation (R278, R282). -/
def execEchoReply (cell rtt : Nat) (s : State) : Host.Outcome State Fault Refusal :=
  (if s.cellIn cell && s.bit H.CROOK_ECHO_PEND cell then
    let f := cellFold s.zk4 cell
    let comp := min 255 (openDiv rtt 4)
    (s.wr H.CROOK_FOLD_MAXC f (max comp (s.rd H.CROOK_FOLD_MAXC f))).sendDelay cell comp
  else s).go

/-- Effect of ECHO_TIMEOUT: 16 frames after the ECHO (R278). -/
def execEchoTimeout (cell : Nat) (s : State) : Host.Outcome State Fault Refusal :=
  (if s.cellIn cell && s.bit H.CROOK_ECHO_PEND cell && decide (16 ≤ s.rd H.CROOK_ECHO_AGE cell) then
    s.sendDelay cell (s.rd H.CROOK_FOLD_MAXC (cellFold s.zk4 cell))
  else s).go

/-- FRAME_SYNC to every enabled cell (R278, R421). -/
def State.sendFrameSync (s : State) : State :=
  (s.guard (.frameSync ((s.frame + 1) % 65536)) (s.enabledCells.map Endpoint.cell)).wr H.CROOK_SYNC_AGE 0 0

/-- Effect of FRAME_SYNC_PERIOD: 64 frames after the last FRAME_SYNC (R270, R278). -/
def execFrameSyncPeriod (s : State) : Host.Outcome State Fault Refusal :=
  (if s.running && s.holder && decide (64 ≤ s.rd H.CROOK_SYNC_AGE 0) then s.sendFrameSync else s).go

/-- Effect of CROOK_TEST_WRITE: ZK_CROOK_TEST.CELL written (R306). -/
def execCrookTestWrite (w : WCtx) (cell : Nat) (s : State) : Host.Outcome State Fault Refusal :=
  (s.judged w R.CROOK_TEST_CELL 0 cell true (fun t => t.stage w (.crookTest (cell % 1024)))).go

/-- A committed write of ZK_CROOK_TEST (R282, R306). -/
def State.doCrookTest (s : State) (c : Nat) : State :=
  let s1 := s.wr R.CROOK_TEST_CELL 0 c
  if s.cellIn c && s.holder then (s1.wr R.CROOK_TEST_BUSY 0 1).guard (.crookTest c) [.cell c] else s1

/-- ECHO exchange for the enabled cells of a fold, with their CELL_EN where asked (R270, R278). -/
def State.startEcho (s : State) (f : Nat) (en : Bool) : State :=
  ((s.cellsOf f).filter s.cellEnabled).foldl (fun t c =>
    let t1 := t.when en (fun u => (u.guard (.cellEn c true) [.cell c]).wr H.CROOK_EN_SENT c 1)
    ((t1.guard (.echo c) [.cell c]).wr H.CROOK_ECHO_PEND c 1).wr H.CROOK_ECHO_AGE c 0) s

/-- The fold's FALLBACK code (R283). -/
def State.foldFallback (s : State) (f : Nat) : Nat :=
  s.rd R.PD_SETPOINT_CODE (32 * foldRail s.zk4 f) - 2 * s.rd R.CROOK_FOLD_CFG_THRESH f

/-- CONFIG of a fold as its registers stand (R283). -/
def State.sendConfig (s : State) (f : Nat) : State :=
  let fb := s.foldFallback f
  ((s.wr R.CROOK_FOLD_THR_FALLBACK f fb).wr H.CROOK_CFG_DUE f 0).guard
    (.config f (s.rd R.CROOK_FOLD_CFG_HYST f) (s.rd R.CROOK_FOLD_CFG_MAX_STRETCH f) fb (s.rd R.CROOK_CTRL_MIN_HOLD 0)
      (s.rd R.CROOK_CTRL_STUCK_FRAMES 0)) ((s.cellsOf f).map Endpoint.cell)

/-- The threshold code of a fold at a boundary (R268). -/
def State.threshCode (s : State) (f : Nat) : Nat :=
  let r := foldRail s.zk4 f
  let sel := if s.bit R.PD_RAIL_STAT_SAFE_LATCH r || s.bit R.PD_STATUS_UNDRIVEN 0 then 0
    else match s.owner 1 r with | some l => min 31 (s.rd R.LE_SLOT_OUT_OUT l) | none => 0
  min (s.rd R.PD_SETPOINT_CODE (32 * r + sel)) (s.rd R.PD_RAIL_VREF_VREF r) - 2 * s.rd R.CROOK_FOLD_CFG_THRESH f

/-- THRESH is sent when a fold's code changes, or when a map commit or a takeover asks for it (R269, R421, R537). -/
def State.threshStep (s : State) (force : Bool) (f : Nat) : State :=
  if (s.rec? 0x0202 f).isNone then s
  else
    let c := s.threshCode f
    if force || c != s.rd R.CROOK_FOLD_THR_CODE f then
      (s.wr R.CROOK_FOLD_THR_CODE f c).guard (.thresh f c) ((s.cellsOf f).map Endpoint.cell)
    else s

/-- CELL_EN is sent to a cell whose enable has changed (R270). -/
def State.cellEnStep (s : State) (c : Nat) : State :=
  let en := s.cellEnabled c
  if en == s.bit H.CROOK_EN_SENT c then s else (s.guard (.cellEn c en) [.cell c]).wrB H.CROOK_EN_SENT c en

/-- The Crook summaries latched at a boundary (R65, R281, R307). -/
def State.latchCrook (s : State) : State :=
  (List.range 64).foldl (fun t f =>
    (((t.wr R.CROOK_FOLD_SUM_TRIPS f (min 255 (s.rd H.CROOK_PTRIPS f))).wr R.CROOK_FOLD_SUM_EDGES f
      (min 131071 (s.rd H.CROOK_PEDGES f))).wr H.CROOK_PTRIPS f 0).wr H.CROOK_PEDGES f 0) s

/-- Crook's central part at a boundary: CONFIG where it is due, and while a map runs THRESH, CELL_EN and, after them, the ECHOs of
a map commit (R268–R270, R278, R283). -/
def State.crookBoundary (s : State) : State :=
  let s1 := (s.touched H.CROOK_ECHO_PEND).foldl (fun t c => t.inc H.CROOK_ECHO_AGE c 1) s
  let s2 := s1.wr H.CROOK_SYNC_AGE 0 (min 127 (s.rd H.CROOK_SYNC_AGE 0 + 1))
  let s3 := (s2.touched H.CROOK_CFG_DUE).foldl State.sendConfig s2
  if !s.running then s3
  else
    let s4 := s3.folds.foldl (fun (t : State) (f : Nat) => (t.threshStep (t.bit H.CROOK_THR_DUE f) f).wr H.CROOK_THR_DUE f 0) s3
    let s5 := (List.range 832).foldl State.cellEnStep s4
    ((s5.touched H.CROOK_ECHO_DUE).foldl (fun (t : State) (f : Nat) => (t.startEcho f false).wr H.CROOK_ECHO_DUE f 0) s5).updateSynced

end Sys2Proof.Machine
end

