-- ==== Sys2Proof/Machine/Thermal.lean ====
section
/-! DEFINITION. The thermal section: sweeps and the sample FIFO (R318–R321, R569–R576), judging of sites and diodes
(R323–R329), near band and hot clamp (R322, R331), bands (R332–R334), optical engines (R335–R337), tile fences and stiles
(R338–R342), and the thermal trip (R343–R346). -/

namespace Sys2Proof.Machine

/-! ## The sample FIFO -/

/-- ZK_FIFO_WM.WM as it acts (R578). -/
def State.fifoWm (s : State) : Nat := max 1 (min 64 (s.rd R.FIFO_WM_WM 0))

/-- One word written by the scanner (R570, R571, R576). -/
def State.fifoPush (s : State) (x : FifoWord) : State :=
  let n := s.fifo.length
  if 64 ≤ n then (s.wr R.FIFO_STAT_OVERRUN 0 1).inc R.FIFO_STAT_DROPPED 0 1
  else
    let s1 : State := { s with fifo := s.fifo ++ [x] }
    let s2 := s1.wr R.FIFO_WM_PEAK 0 (max (n + 1) (s.rd R.FIFO_WM_PEAK 0))
    s2.when (n + 1 == s.fifoWm) (fun t =>
      ((t.wr R.FIFO_WM_HIT 0 1).inc R.FIFO_WM_CROSSINGS 0 1).send (.hartEvent 3 0x12))

/-- ZK_FIFO_LAST takes the fields of a popped word (R575, R578). -/
def State.fifoLast (s : State) (x : FifoWord) : State :=
  ((s.wrB R.FIFO_LAST_POISON 0 x.poison).wrB R.FIFO_LAST_END 0 x.fin).wr R.FIFO_LAST_ID 0 x.id

/-- The idle item (R575). -/
def idleItem : FifoWord := ⟨0xFF, false, false, 0⟩

/-- The head popped, by the latch or by software (R572, R575). -/
def State.fifoPop1 (s : State) : FifoWord × State :=
  match s.fifo with
  | [] => (idleItem, s.fifoLast idleItem)
  | x :: t => (x, ((({ s with fifo := t } : State).fifoLast x).when x.poison (fun u => u.inc R.FIFO_STAT_PAR_ERR 0 1)))

/-- The sweeps that a run of words holds: those words up to an END or a change of ID (R573). The flag says that the last
word had END. -/
def sweepsIn : List FifoWord → List FifoWord → List (List FifoWord × Bool)
  | [], cur => if cur.isEmpty then [] else [(cur, false)]
  | x :: t, cur =>
    if cur.any (fun y => y.id != x.id) then
      (cur, false) :: (if x.fin then ([x], true) :: sweepsIn t [] else sweepsIn t [x])
    else if x.fin then (cur ++ [x], true) :: sweepsIn t []
    else sweepsIn t (cur ++ [x])

/-- Site, VALID and reading of a word (R320, R321). -/
def FifoWord.site (x : FifoWord) : Nat := x.payload / 2 ^ 21 % 2048
def FifoWord.valid (x : FifoWord) : Bool := bitOf x.payload 20 && !x.poison
def FifoWord.temp (x : FifoWord) : Int := toS 16 x.payload

/-! ## Judging a whole sweep -/

/-- Flock id of a site in a compute flock (R315). -/
def siteFlock (k : Nat) : Nat := 16 * (k / 240) + k % 240 / 15

/-- The site lies in a fenced tile or a parked stile (R323, R340, R342). -/
def State.excluded (s : State) (k : Nat) : Bool :=
  match siteTile k with
  | some t => s.bit R.TH_FENCED_FENCED t
  | none => decide (k < 960) && s.bit R.TH_STILE_PARKED (siteFlock k)

/-- State of a site before it is judged: EXCLUDED, FAILED or neither (R323, R326). -/
def State.siteHeld (s : State) (k : Nat) : Nat :=
  if s.excluded k then 4 else if s.bit H.TH_SFAIL k then 3 else 1

/-- Twice the median of a list (R324); 0 for an empty one. -/
def median2 (l : List Int) : Int :=
  let v := sortInts l
  let n := v.length
  if n % 2 = 1 then 2 * v.getD (n / 2) 0 else v.getD (n / 2 - 1) 0 + v.getD (n / 2) 0

/-- The neighbours of a site (R124, R324). -/
def State.neighboursOf (s : State) (p k : Nat) : List Nat :=
  match s.rec? 0x0104 k with
  | some r => r.neighbours
  | none => (s.padSites p).filter (· != k)

/-- A reading of a sweep is usable (R324). -/
def State.usable (s : State) (x : FifoWord) : Bool :=
  x.valid && decide (-640 ≤ x.temp) && decide (x.temp ≤ 2400) && s.siteHeld x.site == 1

/-- Usable readings of a site's neighbours in the same sweep. -/
def State.neighbourTemps (s : State) (p : Nat) (sweep : List FifoWord) (k : Nat) : List Int :=
  let nb := s.neighboursOf p k
  (sweep.filter (fun x => nb.contains x.site && s.usable x)).map FifoWord.temp

/-- XCHK_DEV in 1/16 °C; 0 acts as 1 (R348). -/
def State.xchk (s : State) : Int := 16 * ((max 1 (s.rd R.TH_CTRL_XCHK_DEV 0) : Nat) : Int)

/-- Verdict on a site: ACCEPTED 1, SUSPECT 2, FAILED 3, EXCLUDED 4, HIGH 5 (R323, R325). -/
def State.siteVerdict (s : State) (p : Nat) (sweep : List FifoWord) (x : FifoWord) : Nat :=
  if s.siteHeld x.site ≠ 1 then s.siteHeld x.site
  else
    let v := s.neighbourTemps p sweep x.site
    if !s.usable x then 2
    else if v.length < 2 then 1
    else if 2 * x.temp < median2 v - 2 * s.xchk then 2
    else if median2 v + 2 * s.xchk < 2 * x.temp then 5
    else 1

/-- The highest of a list, if any. -/
def maxI? : List Int → Option Int
  | [] => none
  | x :: t => some (t.foldl max x)

/-- What a site adds to the paddock temperature, and whether the substitute stood (R325, R327). -/
def State.siteAdds (s : State) (p : Nat) (sweep : List FifoWord) (x : FifoWord) : Option Int × Bool :=
  let v := s.siteVerdict p sweep x
  if v = 1 ∨ v = 5 then (some x.temp, false)
  else if v = 4 then (none, false)
  else
    let m := maxI? (s.neighbourTemps p sweep x.site)
    (m, m.isSome)

/-- A site's registers and counts after its verdict (R326, R338, R353). -/
def State.putSite (s : State) (p : Nat) (sweep : List FifoWord) (x : FifoWord) (t : State) : State :=
  let v := s.siteVerdict p sweep x
  let k := x.site
  let hot := (v == 1 || v == 5) && decide (s.rdS R.TH_LIMITS_TILE_FENCE_T 0 ≤ x.temp) && (siteTile k).isSome
  let hc := s.rd H.TH_HIGHC k
  ((((((t.wr R.TH_SITE_STATE k v).wrB R.TH_SITE_SUBST k (s.siteAdds p sweep x).2).wr R.TH_SITE_READING k x.payload).wr
    H.TH_SUSC k (if v = 2 then min 2 (s.rd H.TH_SUSC k + 1) else 0)).wr
    H.TH_HIGHC k (if v = 5 then (if hc = 3 then 3 else min 2 (hc + 1)) else 0)).wr
    H.TH_HOTC k (if hot then min 2 (s.rd H.TH_HOTC k + 1) else 0))

/-- A diode's reading as a signed value, while it has a current one (R352). -/
def State.diodeTemp (s : State) (d : Nat) : Option Int :=
  if s.rd R.TH_DIODE_READING d = 0x8000 then none else some (s.rdS R.TH_DIODE_READING d)

/-- The diode of a paddock fails the judgement in this sweep (R329). -/
def State.diodeBad (s : State) (sweep : List FifoWord) (t : Int) : Bool :=
  let v := (sweep.filter s.usable).map FifoWord.temp
  decide (t < -640) || decide (2400 < t)
    || (!v.isEmpty && decide (4 * s.xchk < ((2 * t - median2 v).natAbs : Int)))

/-- A whole sweep judged, its sites' registers written, and the paddock temperature formed (R323–R329). -/
def State.judgeSweep (s : State) (p : Nat) (sweep : List FifoWord) : State :=
  let d := s.rd R.TH_PAD_CFG_DIODE p
  let dt := if d = 0xFF ∨ s.bit R.TH_DIODE_FAILED d then none else s.diodeTemp d
  let dc := match dt with
    | some t => if s.diodeBad sweep t then min 2 (s.rd H.TH_DIODEC p + 1) else 0
    | none => 0
  let used := if dc = 2 then none else dt
  let temps := sweep.filterMap (fun x => (s.siteAdds p sweep x).1) ++ used.toList
  let s1 := sweep.foldl (fun t x => s.putSite p sweep x t) s
  let blindT := s.rdS R.TH_PAD_HURDLE_LEVEL p + 16 * ((s.rd R.TH_CTRL_BLIND_ADD 0 : Nat) : Int)
  let s2 := (((((s1.wr H.TH_DIODEC p dc).wr H.TH_NEW p 1).wrS H.TH_NEW_T p ((maxI? temps).getD blindT)).wr H.TH_NEW_DT p
    (match used with | some t => ofS 16 t | none => 0x8000)).wrB H.TH_NEW_BLIND p temps.isEmpty).recount p
  s2.when (s.holder && s.bit H.FLT_TEST_PEND (srcBase 0x06 + p)) (fun t =>
    t.wr H.FLT_RESULT (srcBase 0x06 + p) (if temps.isEmpty then 2 else 1))

/-- The latch takes what the FIFO holds: whole sweeps are judged, part sweeps dropped (R321, R573, R574). -/
def State.fifoDrain (s : State) : State :=
  if s.bit R.FIFO_CTRL_SW_CONSUME 0 then s
  else
    let s1 := s.fifo.foldl (fun t _ => t.fifoPop1.2) s
    (sweepsIn s.fifo []).foldl (fun t x =>
      match x.1 with
      | [] => t
      | y :: _ => if x.2 && x.1.length == (t.padSites y.id).length then t.judgeSweep y.id x.1 else t) s1

/-! ## Readings and the close of a sweep -/

/-- Offset of a site that its self-calibration found and the scanner takes off each reading, within ±3.0 °C (R513): a free
value (assumption 2); 0 before the calibration. -/
def State.siteOffset (s : State) (k : Nat) : Int :=
  if s.bit H.TH_CAL_ON 0 then
    (((Config.freeWord (s.rd H.TH_CAL_BASE 0 + 1536 + k)).toNat % 97 : Nat) : Int) - 48
  else 0

/-- Effect of READING: the scanner takes the reading of an open sweep, or discards and counts it; one whose reserved bits
are not 0 is ignored (R319, R347). -/
def execReading (site tag : Nat) (valid : Bool) (temp : LastField) (s : State) : Host.Outcome State Fault Refusal :=
  (let p := s.rd R.TH_SITE_PADDOCK site
   if temp.rsv ≠ 0 ∨ 1536 ≤ site ∨ p = 0xFF then s
   else if s.sweeps.any (fun w => w.paddock == p && w.tag == tag && !w.closed) then
     { s with sweeps := s.sweeps.map (fun w =>
         if w.paddock == p && w.tag == tag && !w.closed then
           { w with readings := w.readings.filter (fun r => r.1 != site) ++ [(site, valid, ofS 16 (toS 16 temp.val - s.siteOffset site))] }
         else w) }
   else s.inc R.TH_PAD_CNT_LATE_READ p 1).go

/-- Payload of a site's word (R320). A site whose READING has not come has VALID 0 and the TEMP of a missing reading. -/
def sitePayload (k : Nat) (r : Option (Nat × Bool × Nat)) : Nat :=
  match r with
  | some (_, v, t) => k * 2 ^ 21 + b2n v * 2 ^ 20 + t % 65536
  | none => k * 2 ^ 21 + 0x8000

/-- Words of a sweep: the readings in the order they came, then the missing sites; END on the last (R319, R320, R570). -/
def State.sweepWords (s : State) (w : Sweep) : List FifoWord :=
  let sites := s.padSites w.paddock
  let got := w.readings.filter (fun r => sites.contains r.1)
  let miss := sites.filter (fun k => !got.any (fun r => r.1 == k))
  let pl := got.map (fun r => sitePayload r.1 (some r)) ++ miss.map (fun k => sitePayload k none)
  (pl.zipIdx).map (fun x => ⟨w.paddock, x.2 + 1 == pl.length, false, x.1⟩)

/-- The scanner's word enters the FIFO; an injection at target 0x7 inverts the parity of the paddock's next words, one each (R459). -/
def State.scanWord (s : State) (x : FifoWord) : State :=
  if s.injecting 7 && s.rd R.FLT_INJ_INDEX 0 == x.id then
    ((s.fifoPush { x with poison := true }).wr H.TH_INJ x.site 1).injected
  else s.fifoPush x

/-- Effect of SWEEP_CLOSE: the paddock's oldest open sweep closes; its words go to the FIFO and are latched from it
(R319–R321). -/
def execSweepClose (paddock : Nat) (s : State) : Host.Outcome State Fault Refusal :=
  (match s.sweeps.find? (fun (w : Sweep) => w.paddock == paddock && !w.closed) with
   | none => s
   | some w =>
     let s1 : State := { s with sweeps := s.sweeps.map (fun x => if x = w then { x with closed := true } else x) }
     let ws := s.sweepWords w
     let s2 := ws.foldl (fun (t : State) (x : FifoWord) => t.wr H.TH_INJ x.site 0) s1
     (ws.foldl State.scanWord s2).fifoDrain).go

/-- Effect of SITE_REF_READING: a READING with REF = 1 is the result of the site reference check, which is the Gate holder's
(R347, R433, R442), or of the proof test of R464. The self-calibration value of a site is a free value (assumption 2). -/
def execSiteRefReading (site _tag : Nat) (temp : LastField) (s : State) : Host.Outcome State Fault Refusal :=
  (let cal := toS 16 (Config.freeWord (s.rd H.TH_CAL_BASE 0 + site)).toNat
   let ok := decide ((toS 16 temp.val - cal).natAbs ≤ 16)
   let srcs := (srcBase 0x14 + site) :: (match siteTile site with | some t => [srcBase 0x12 + t] | none => [])
   if temp.rsv ≠ 0 ∨ 1536 ≤ site then s
   else if s.bit H.TH_PROOF site then
     let s1 := s.wr H.TH_PROOF site 0
     if ok then s1
     else (((s1.wr R.TH_SITE_STATE site 3).wr H.TH_SFAIL site 1).recount (s.rd R.TH_SITE_PADDOCK site)).fault 0x14 site 1
   else (srcs.filter (fun n => s.holder && s.bit H.FLT_TEST_PEND n)).foldl (fun t n =>
     t.wr H.FLT_RESULT n (if ok then 1 else 2)) s).go

/-- Effect of SITE_FAILED: a site SUSPECT in 2 consecutive sweeps (R326). -/
def execSiteFailed (site : Nat) (s : State) : Host.Outcome State Fault Refusal :=
  (if s.rd H.TH_SUSC site == 2 && s.rd R.TH_SITE_STATE site == 2 then
    ((((s.wr R.TH_SITE_STATE site 3).wr H.TH_SFAIL site 1).wr H.TH_SUSC site 0).recount (s.rd R.TH_SITE_PADDOCK site)).fault
      0x14 site 1 (s.bit H.TH_INJ site)
  else s).go

/-- Effect of SITE_HIGH_FAULT: a site HIGH in 2 consecutive sweeps (R326). -/
def execSiteHighFault (site : Nat) (s : State) : Host.Outcome State Fault Refusal :=
  (if s.rd H.TH_HIGHC site == 2 then (s.wr H.TH_HIGHC site 3).fault 0x14 site 1 else s).go

/-- Effect of DIODE_FAILED: a diode out of range, or off the median of a paddock that names it, in 2 consecutive sweeps
(R329). -/
def execDiodeFailed (ch : Nat) (s : State) : Host.Outcome State Fault Refusal :=
  (let ps := s.diodePads ch
   if !s.bit R.TH_DIODE_FAILED ch && ps.any (fun p => s.rd H.TH_DIODEC p == 2) then
     (((s.wr R.TH_DIODE_FAILED ch 1).wrAll R.TH_PAD_STAT_DIODE_FAIL ps (fun _ => 1)).wrAll H.TH_DIODEC ps (fun _ => 0)).fault
       0x05 ch 1
   else s).go

/-- Effect of HOT_FENCE: the tile's site at or above TILE_FENCE_T in 2 consecutive sweeps (R338). -/
def execHotFence (tile : Nat) (s : State) : Host.Outcome State Fault Refusal :=
  (if decide (tile < 768) && s.rd H.TH_HOTC (tileSite tile) == 2 && !s.bit H.TH_HOT tile then
    (s.wr H.TH_HOT tile 1).fault 0x12 tile 1
  else s).go

/-! ## Diodes and the trip -/

/-- Channel that this instance serves (R50, R316). -/
def State.diodeOwn (s : State) (d : Nat) : Bool :=
  diodePresent s.zk4 d && (diodeOfA s.zk4 d != s.ident.instB)

/-- A conversion of a diode channel, own or forwarded (R316, R352). -/
def State.diodeReading (s : State) (d v : Nat) : State :=
  if diodePresent s.zk4 d then
    ((s.wr R.TH_DIODE_READING d v).wr H.TH_DIODE_LAST d v).wr H.TH_DIODE_AGE d 0
  else s

/-- Effect of DIODE_CONVERSION: a conversion of one of the instance's own channels, in 1/16 °C. -/
def execDiodeConversion (ch : Nat) (temp : Int) (s : State) : Host.Outcome State Fault Refusal :=
  (if s.diodeOwn ch then
    let s1 := ((s.diodeReading ch (ofS 16 temp)).wr H.TH_DIODE_NEW ch 1).wrB R.TH_DIODE_ABOVE ch (decide (1840 ≤ temp))
    if s.holder then s1 else s1.send (.bulk ⟨true, .diode ch temp⟩)
  else s).go

/-- Effect of DIODE_TRIP: the junction has been at or above 115.0 °C for 2 µs (R343, R348). -/
def execDiodeTrip (ch : Nat) (temp : Int) (s : State) : Host.Outcome State Fault Refusal :=
  (if s.diodeOwn ch && decide (1840 ≤ temp) then
    let s1 := s.wr R.TH_DIODE_ABOVE ch 1
    if s.bit R.TH_TRIP_LATCHED 0 then s1
    else ((s1.wr R.TH_TRIP_LATCHED 0 1).wr R.TH_TRIP_DIODE 0 ch).wr R.TH_TRIP_TEMP 0 (s.rd H.TH_DIODE_LAST ch)
  else s).go

/-- Effect of THERMTRIP_NET_LOW: the joined net is seen low. The instance that holds the gate takes the rails to OFF, also where
a reset has taken its role (R344, R346, R409, R410). -/
def execThermtripNetLow (s : State) : Host.Outcome State Fault Refusal :=
  (if s.bit R.TH_TRIP_NET_LOW 0 then s
  else
    let s1 := s.wr R.TH_TRIP_NET_LOW 0 1
    let s2 := s1.when (s.holder || s.bit R.TWIN_STATUS_GATE_OWN 0) (fun t => (railList t.zk4).foldl State.railOff t)
    (s2.tally 1 3 1 (s.rd R.TH_TRIP_DIODE 0) (s.rd R.TH_TRIP_TEMP 0)).fault 0x11 0 2).go

/-! ## HBM readings, bands, optical engines -/

/-- Effect of HBM_TEMP (R317). -/
def execHbmTemp (ctrl : Nat) (temp : Int) (s : State) : Host.Outcome State Fault Refusal :=
  (if ctrl < hbmStacks s.zk4 then
    (((s.wrS H.TH_HBM_T ctrl temp).wr H.TH_HBM_SEEN ctrl 1).wr H.TH_HBM_AGE ctrl 0).wr R.TH_BAND_STAT_STALE ctrl 0
  else s).go

/-- Effect of MEMCTRL_STALE: no reading of the controller for 256 frames (R317). -/
def execMemctrlStale (ctrl : Nat) (s : State) : Host.Outcome State Fault Refusal :=
  (if decide (ctrl < hbmStacks s.zk4) && decide (256 ≤ s.rd H.TH_HBM_AGE ctrl) && !s.bit R.TH_BAND_STAT_STALE ctrl then
    (s.wr R.TH_BAND_STAT_STALE ctrl 1).fault 0x0D ctrl 1
  else s).go

/-- Effect of OPT_REPORT (R337, R347, R350). -/
def execOptReport (engine : Nat) (locked : Bool) (heater : Nat) (laser : LastField) (s : State) :
    Host.Outcome State Fault Refusal :=
  (if laser.rsv ≠ 0 ∨ 8 ≤ engine then s
  else
    let excess := decide (s.rd R.TH_OPT_HEATER_HEATER engine + s.rd R.TH_OPT_LASER_LASER engine < heater + laser.val)
    let s1 := ((s.wrB R.TH_OPT_STAT_LOCKED engine locked).wr R.TH_OPT_DRAW_HEATER_RPT engine (min 65535 heater)).wr
      R.TH_OPT_DRAW_LASER_RPT engine (min 65535 laser.val)
    if excess then s1.wr H.TH_OVERC engine (min 4 (s.rd H.TH_OVERC engine + 1))
    else (s1.wr H.TH_OVERC engine 0).wr R.TH_OPT_STAT_OVER engine 0).go

/-- Effect of OPTICAL_OVER: 4 consecutive reports above the allowance (R337). -/
def execOpticalOver (engine : Nat) (s : State) : Host.Outcome State Fault Refusal :=
  (if s.rd H.TH_OVERC engine == 4 && !s.bit R.TH_OPT_STAT_OVER engine then
    (s.wr R.TH_OPT_STAT_OVER engine 1).fault 0x07 engine 1
  else s).go

/-- Band of a temperature (R333). -/
def bandOf (t : Int) : Nat := if t < 1360 then 0 else if t < 1520 then 1 else if t < 1680 then 2 else 3

/-- Lower edge of a band (R333). -/
def bandEdge (b : Nat) : Int := if b = 1 then 1360 else if b = 2 then 1520 else 1680

/-- The band that follows `b` at a source temperature (R333). -/
def nextBand (b : Nat) (hyst : Nat) (t : Int) : Nat :=
  let n := bandOf t
  if b ≤ n then n else if t < bandEdge b - 16 * (hyst : Int) then n else b

/-- Cache fold of a cache-die controller (R21, R22, R332). -/
def ctrlFold (zk4 : Bool) (m : Nat) : Nat := computeFolds zk4 + (m - 8)

/-- Source temperature of a controller, and whether its source forces B3 (R332, R333). None: no paddock of the cache fold
is in force, so the spec gives no temperature. -/
def State.bandSource (s : State) (m : Nat) : Option Int × Bool :=
  if s.rd R.TH_BAND_CFG_KIND m = 1 then
    let p := s.rd R.TH_BAND_CFG_SOURCE m
    (some (s.rdS R.TH_PAD_TEMP_TEMP p), s.bit R.TH_PAD_STAT_BLIND p)
  else if s.rd R.TH_BAND_CFG_KIND m = 2 then
    let ps := s.paddocks.filter (fun p => s.rd R.TH_PAD_CFG_FOLD p == ctrlFold s.zk4 m)
    (maxI? (ps.map (fun p => s.rdS R.TH_PAD_TEMP_TEMP p)), ps.any (fun p => s.bit R.TH_PAD_STAT_BLIND p))
  else (some (s.rdS H.TH_HBM_T m), !s.bit H.TH_HBM_SEEN m || s.bit R.TH_BAND_STAT_STALE m)

/-- A controller's band at a boundary (R332–R334). -/
def State.bandStep (s : State) (m : Nat) : State :=
  if !ctrlPresent s.zk4 m then s
  else
    let x := s.bandSource m
    let t := x.1.getD (toS 16 (s.freeVal 16))
    let s0 := s.when x.1.isNone State.freeStep
    let b := s.rd R.TH_BAND_STAT_BAND m
    let b' := if x.2 then 3 else nextBand b (s.rd R.TH_BAND_CFG_HYST m) t
    let s1 := (s0.wrS R.TH_BAND_STAT_TEMP m t).wr R.TH_BAND_STAT_BAND m b'
    if b' != b || s.frame % 64 == m then s1.guard (.band m b') [.ctrl m] else s1

/-- OPT_FF to an engine that an OPTICAL record declares (R335). -/
def State.optFfStep (s : State) (r : Rec) : State :=
  let e := r.u8 4
  let v := match s.owner 0x07 e with
    | some l => s.rd R.LE_SLOT_OUT_OUT l
    | none => ofS 16 (s.rdS R.TH_PAD_TEMP_TEMP (r.u8 6) + 640)
  if s.holder then (s.wr R.TH_OPT_STAT_FF e v).sendOrd (.optFf e v) [.engine e] else s

/-- OPT_ALLOW with an engine's allowances (R336). -/
def State.sendOptAllow (s : State) (e : Nat) : State :=
  if s.holder then
    s.sendOrd (.optAllow e (s.rd R.TH_OPT_HEATER_HEATER e) (s.rd R.TH_OPT_LASER_LASER e)) [.engine e]
  else s

/-! ## Tile fences and stiles -/

/-- Some cause fences the tile (R338). -/
def State.fenceWant (s : State) (t : Nat) : Bool :=
  s.bit R.TH_FENCE_REQ t || s.fltFence t || s.bit H.TH_HOT t

/-- Tiles that a fence concerns. -/
def State.fenceTiles (s : State) : List Nat :=
  let l := s.touched R.TH_FENCED_FENCED ++ s.touched R.TH_FENCE_REQ ++ s.touched H.TH_HOT
    ++ (s.touched R.FLT_SRC_STATE_STATE).filterMap (fun n =>
      match srcKind n with
      | some (0x12, i) => some i
      | some (0x13, i) => if i < 768 then some i else none
      | _ => none)
  (List.range (if s.zk4 then 768 else 384)).filter l.contains

/-- The paddock's registers of a site that begins or ceases to be EXCLUDED (R340, R342). -/
def State.siteExclude (s : State) (k : Nat) : State :=
  let p := s.rd R.TH_SITE_PADDOCK k
  if p = 0xFF then s else (s.wr R.TH_SITE_STATE k (s.siteHeld k)).recount p

/-- Flock id of a tile (R338). -/
def tileFlock (t : Nat) : Nat := 16 * (t / 192) + t % 192 / 12

/-- A hot fence whose source is CLEAR and whose paddock is below LEVEL ends (R341). -/
def State.hotStep (s : State) (t : Nat) : State :=
  s.when (s.bit H.TH_HOT t && s.rd R.FLT_SRC_STATE_STATE (srcBase 0x12 + t) == 0
    && !s.atLevel (s.rd R.TH_SITE_PADDOCK (tileSite t))) (fun u => u.wr H.TH_HOT t 0)

/-- A tile's fence at a boundary (R339–R342). -/
def State.fenceStep (s0 : State) (t : Nat) : State :=
  let s := s0.hotStep t
  let fl := tileFlock t
  if s.fenceWant t then
    if s.bit R.TH_FENCED_FENCED t && !s.bit H.TH_UNF_SENT t then s
    else
      (((s.wr R.TH_FENCED_FENCED t 1).clearElems [H.TH_UNF_SENT, H.TH_UNF_ACK] t).guard (.tileFence fl (t % 12))
        [.router fl]).siteExclude (tileSite t)
  else if !s.bit R.TH_FENCED_FENCED t then s
  else if s.bit H.TH_UNF_ACK t then
    (((s.wr R.TH_FENCED_FENCED t 0).clearElems [H.TH_UNF_SENT, H.TH_UNF_ACK] t)).siteExclude (tileSite t)
  else if s.bit H.TH_UNF_SENT t then s
  else if s.bit R.TH_STILE_PARKED fl || s.bit H.TH_OFF_SENT fl then s.wr H.TH_DEMAND fl 1
  else (s.wr H.TH_UNF_SENT t 1).guard (.tileUnfence fl (t % 12)) [.router fl]

/-- The stile's sites take their state (R342). -/
def State.stileSites (s : State) (fl : Nat) : State :=
  [12, 13, 14].foldl (fun t j => t.siteExclude (240 * (fl / 16) + 15 * (fl % 16) + j)) s

/-- STILE_ON to a stile asked for (R342). -/
def State.demandStep (s : State) (fl : Nat) : State :=
  let s1 := s.wr H.TH_DEMAND fl 0
  if (s.bit R.TH_STILE_PARKED fl || s.bit H.TH_OFF_SENT fl) && !s.bit H.TH_ON_SENT fl then
    (((s1.wr H.TH_OFF_SENT fl 0).wr H.TH_ON_SENT fl 1).wr H.TH_ON_AGE fl 0).guard (.stileOn fl) [.router fl]
  else s1

/-- A stile to which STILE_ON went is ON at the first boundary 2 µs after its receipt, which takes up to 150 ns (R42, R342). -/
def State.stileWake (s : State) (fl : Nat) : State :=
  let n := s.rd H.TH_ON_AGE fl + 1
  if (if s.slowFrames then 2 else 5) ≤ n then
    ((s.clearElems [H.TH_ON_SENT, H.TH_ON_AGE] fl).wr R.TH_STILE_PARKED fl 0).stileSites fl
  else s.wr H.TH_ON_AGE fl n

/-- A stile whose fold's rail is OFF is off, and returns to ON with the rail (R342). -/
def State.stileRail (s : State) (fl : Nat) : State :=
  if s.railOn (foldRail s.zk4 (flockFold fl)) then s
  else (s.clearElems [R.TH_STILE_PARKED, H.TH_OFF_SENT, H.TH_ON_SENT, H.TH_ON_AGE] fl).stileSites fl

/-- Effect of FENCE_ACK; a stile that a route uses is not PARKED, and one with reserved bits set is ignored (R339–R342, R347). -/
def execFenceAck (flock : Nat) (m : FenceAckMsg) (s : State) : Host.Outcome State Fault Refusal :=
  (let t := 192 * (flock / 16) + 12 * (flock % 16) + m.tile
   if m.rsv ≠ 0 ∨ flockCount s.zk4 ≤ flock ∨ 12 ≤ m.tile then s
   else
     let s1 := s.when (m.fenced && m.forced) (fun u => u.fault 0x0C flock 1)
     let s2 := s1.when (!m.fenced && m.stileOn && s.bit H.TH_UNF_SENT t) (fun u => u.wr H.TH_UNF_ACK t 1)
     if !m.stileOn && s.bit H.TH_OFF_SENT flock && !s.bit R.TH_ROUTE_IN_USE flock then
       ((s2.wr H.TH_OFF_SENT flock 0).wr R.TH_STILE_PARKED flock 1).stileSites flock
     else s2).go

/-- Effect of ROUTE_STATE (R342, R347). -/
def execRouteState (flock : Nat) (m : RouteMsg) (s : State) : Host.Outcome State Fault Refusal :=
  (if m.rsv ≠ 0 ∨ flockCount s.zk4 ≤ flock then s
  else
    let s1 := s.when (s.bit R.TH_ROUTE_IN_USE flock && !m.inUse) (fun t => t.wr H.TH_USE_END flock s.frame)
    let s2 := (s1.wrB R.TH_ROUTE_IN_USE flock m.inUse).when m.inUse (fun t => t.wr H.TH_DEMAND flock 1)
    s2.when (m.demand && decide (m.demanded < flockCount s.zk4)) (fun t => t.wr H.TH_DEMAND m.demanded 1)).go

/-- Effect of STILE_PARK: all 12 tiles fenced, and no route in 64 consecutive frames (R342). -/
def execStilePark (flock : Nat) (s : State) : Host.Outcome State Fault Refusal :=
  (if decide (flock < flockCount s.zk4)
      && (List.range 12).all (fun j => s.bit R.TH_FENCED_FENCED (192 * (flock / 16) + 12 * (flock % 16) + j))
      && !s.bit R.TH_ROUTE_IN_USE flock && decide (64 ≤ s.frame - s.rd H.TH_USE_END flock)
      && !s.bit R.TH_STILE_PARKED flock && !s.bit H.TH_OFF_SENT flock && !s.bit H.TH_DEMAND flock then
    (s.wr H.TH_OFF_SENT flock 1).guard (.stileOff flock) [.router flock]
  else s).go

/-- Effect of TILE_FENCE_WRITE: a bit of ZK_TH_FENCE written by the Warden (R338). -/
def execTileFenceWrite (w : WCtx) (tile : Nat) (on : Bool) (s : State) : Host.Outcome State Fault Refusal :=
  (s.judged w R.TH_FENCE_REQ tile (b2n on) true (fun t => t.stage w (.tileFence tile on))).go

/-! ## The boundary -/

/-- Near band, dividers and hot clamp as the last latch left them (R322, R331; step 5 of R81). -/
def State.thermalDividers (s : State) : State :=
  let s1 := (s.touched R.TH_PAD_STAT_CLAMP ++ s.touched H.TH_CLAMP_WANT).foldl (fun t p =>
    t.wr R.TH_PAD_STAT_CLAMP p (s.rd H.TH_CLAMP_WANT p)) s
  (s.touched R.TH_PAD_STAT_NEAR ++ s.touched H.TH_NEAR_WANT).foldl (fun t p =>
    let t1 := t.wr R.TH_PAD_STAT_NEAR p (s.rd H.TH_NEAR_WANT p)
    match s.owner 0x04 p with
    | some l => (t1.wr H.LE_NEAR_REQ l (s.rd H.TH_NEAR_WANT p)).commitDivider l
    | none => t1) s1

/-- Clamp level of a paddock (R331). -/
def State.clampLevel (s : State) (p : Nat) : Int :=
  min 1792 (max (s.rdS R.TH_LIMITS_HOT_CLAMP 0) (s.rdS R.TH_PAD_HURDLE_LEVEL p + 16)
    - (if s.bit R.TH_PAD_STAT_DIODE_FAIL p then 80 else 0))

/-- A paddock is in the near band after a latch (R322, R328). -/
def State.nearAfter (s : State) (p : Nat) (t : Int) (blind : Bool) : Bool :=
  let n := s.rd R.TH_PAD_CFG_NEAR p
  let lim := s.rdS R.TH_PAD_HURDLE_LEVEL p - 16 * (n : Int)
  if blind then true
  else if n = 0 then false
  else if lim ≤ t then true
  else if t < lim - 16 * ((s.rd R.TH_PAD_CFG_HYST p : Nat) : Int) then false
  else s.bit H.TH_NEAR_WANT p

/-- The paddock's last whole sweep is latched; a BLIND paddock raises its fault when it becomes BLIND, and again where its source
has been cleared (R65, R322, R327, R328, R331, R454). -/
def State.latchPaddock (s : State) (p : Nat) : State :=
  let t := s.rdS H.TH_NEW_T p
  let blind := s.bit H.TH_NEW_BLIND p
  let cl := s.clampLevel p
  let clamp := if cl ≤ t then true else if t < cl - 32 then false else s.bit H.TH_CLAMP_WANT p
  let s1 := ((((s.wrS R.TH_PAD_TEMP_TEMP p t).wr R.TH_PAD_TEMP_DIODE_T p (s.rd H.TH_NEW_DT p)).wrB R.TH_PAD_STAT_BLIND p
    blind).wrB H.TH_NEAR_WANT p (s.nearAfter p t blind)).wrB H.TH_CLAMP_WANT p clamp
  (s1.wr H.TH_NEW p 0).when (blind && (!s.bit R.TH_PAD_STAT_BLIND p || s.rd R.FLT_SRC_STATE_STATE (srcBase 0x06 + p) == 0))
    (fun u => u.fault 0x06 p 1)

/-- Sweeps whose run frame has come leave; those that gave nothing whole are late (R70, R321). -/
def State.endSweeps (s : State) : State :=
  let due := s.sweeps.filter (fun w => decide (w.frame ≤ s.frame))
  let s1 : State := { s with sweeps := s.sweeps.filter (fun w => !decide (w.frame ≤ s.frame)) }
  due.foldl (fun t w => if s.bit H.TH_NEW w.paddock then t else t.inc R.TH_PAD_CNT_LATE_SWEEP w.paddock 1) s1

/-- The thermal part of the input set (R65). -/
def State.latchThermal (s : State) : State :=
  let s1 := s.endSweeps
  let s2 := (s1.touched H.TH_NEW).foldl State.latchPaddock s1
  (List.range (hbmStacks s.zk4)).foldl (fun t m => t.wr H.LE_IN_HBM m (s.rd H.TH_HBM_T m)) s2

/-- SWEEP for a paddock, requested for the run of frame `f` (R318, R319, R442). -/
def State.requestSweep (s : State) (p f : Nat) : State :=
  let due := (s.padSites p).find? (fun k => s.bit H.TH_REF_DUE k)
  let s1 := match due with | some k => s.wr H.TH_REF_DUE k 0 | none => s
  let s2 : State := { s1 with sweeps := s1.sweeps ++ [⟨p, f % 256, f, [], false⟩] }
  if s.holder then s2.sendOrd (.sweep p (f % 256) due) ((s.padSites p).map Endpoint.site) else s2

/-- The sweeps of a boundary (R318, R319): those that serve the run three frames on, and resweeps (R442). -/
def State.requestSweeps (s : State) : State :=
  let f := s.frame + 3
  s.paddocks.foldl (fun t p =>
    let pl := t.sweepPlan p
    if f % pl.1 == pl.2 % pl.1 || t.bit H.TH_RESWEEP p then (t.wr H.TH_RESWEEP p 0).requestSweep p f else t) s

/-- Ages of diode channels and memory controllers (R317, R352). -/
def State.thermalAges (s : State) : State :=
  let s1 := (List.range 64).foldl (fun t d =>
    if t.rd R.TH_DIODE_READING d = 0x8000 then t
    else if 15 ≤ t.rd H.TH_DIODE_AGE d then (t.wr R.TH_DIODE_READING d 0x8000).wr H.TH_DIODE_AGE d 0
    else t.wr H.TH_DIODE_AGE d (t.rd H.TH_DIODE_AGE d + 1)) s
  (List.range (hbmStacks s.zk4)).foldl (fun t m =>
    if t.bit H.TH_HBM_SEEN m || t.bit R.STATUS_READY 0 then t.inc H.TH_HBM_AGE m 1 else t) s1

/-- The thermal section after the commits and the latch of a boundary (R317, R318, R332–R335, R339–R342, R352). -/
def State.thermalBoundary (s : State) : State :=
  let s1 := s.thermalAges
  let s2 := (List.range 12).foldl State.bandStep s1
  let s2 := (s2.touched H.TH_ON_SENT).foldl State.stileWake s2
  let s3 := s2.fenceTiles.foldl State.fenceStep s2
  let s4 := (s3.touched H.TH_DEMAND).foldl State.demandStep s3
  let s5 := (s4.touched R.TH_STILE_PARKED ++ s4.touched H.TH_OFF_SENT ++ s4.touched H.TH_ON_SENT).foldl State.stileRail s4
  if s5.running then
    let s6 := (s5.recsOf 0x0105).foldl State.optFfStep s5
    s6.requestSweeps.wrB R.TH_STATUS_RUNNING 0 (!s6.paddocks.isEmpty)
  else s5.wr R.TH_STATUS_RUNNING 0 0

end Sys2Proof.Machine
end

