-- ==== Sys2Proof/Machine/Hurdles.lean ====
section
/-! DEFINITION. Limits and commands to the folds: the BMC cap and ceilings (R54, R217, R546), the package power figure and the
package limiter (R55, R56, R480), the effective fold hurdles (R83, R218), and the throttle levels (R379, R380, R511). -/

namespace Sys2Proof.Machine

/-! ## Caps and ceilings -/

/-- CAP_MIN of the BMC cap (R546). -/
def State.capMin (s : State) : Nat :=
  sumN (s.folds.map (fun f => s.rd R.LE_FOLD_FLOOR_FLOOR f)) + s.rd R.LE_PKG_KEEP_EST_KEEP_EST 0
    + hbmStacks s.zk4 * s.rd R.LE_PKG_HBM_EST_HBM_EST 0

/-- The package registers clamped to the fused ceilings (R15, R217, R544; step 4 of R81). -/
def State.clampPackage (s : State) : State :=
  let su := min (s.rd R.LE_PKG_SUSTAINED_SUSTAINED 0) (fusedSustained s.zk4)
  let ex := max su (min (s.rd R.LE_PKG_EXCURSION_EXCURSION 0) (fusedExcursion s.zk4))
  (((s.wr R.LE_PKG_SUSTAINED_SUSTAINED 0 su).wr R.LE_PKG_EXCURSION_EXCURSION 0 ex).wr R.LE_PKG_LIMITS_GAP_FRAMES 0
    (max 40 (s.rd R.LE_PKG_LIMITS_GAP_FRAMES 0))).wr R.LE_PKG_LIMITS_EXC_FRAMES 0
    (max 1 (min 40 (s.rd R.LE_PKG_LIMITS_EXC_FRAMES 0)))

/-- SUSTAINED and EXCURSION as they apply under the BMC cap (R83, R546; step 3 of R81). -/
def State.applyCap (s : State) : State :=
  let su := s.rd R.LE_PKG_SUSTAINED_SUSTAINED 0
  let ex := s.rd R.LE_PKG_EXCURSION_EXCURSION 0
  let cap := s.rd R.CAP_BMC_CAP 0
  if cap = 0 then ((s.wr H.LE_PKG_SUS 0 su).wr H.LE_PKG_EXC 0 ex).wr R.CAP_BMC_CAP_LOW 0 0
  else
    let c := max cap s.capMin
    let s1 := s.wrB R.CAP_BMC_CAP_LOW 0 (decide (cap < s.capMin))
    if c < su then (s1.wr H.LE_PKG_SUS 0 c).wr H.LE_PKG_EXC 0 (openDiv (ex * c) su)
    else (s1.wr H.LE_PKG_SUS 0 su).wr H.LE_PKG_EXC 0 ex

/-! ## The package power figure and limiter -/

/-- Power of a rail at the last latch, in units of 2^-21 W (R55). -/
def State.railVI (s : State) (r : Nat) : Int := (s.rd H.LE_IN_RAILV r : Int) * s.rdS H.LE_IN_RAILI r

/-- A supply's part of the package figure, mW, its estimate while it is stale or has given no reading (R39, R55, R644). -/
def State.supplyMw (s : State) (k est : Nat) : Nat :=
  if s.bit R.PLAT_SUP_STAT_STALE k || !s.bit H.PLAT_GOT k then est else 100 * s.rd R.PLAT_SUP_READ_POUT k

/-- Enabled supplies of a kind (R653). -/
def State.suppliesOf (s : State) (kind : Nat) : List Nat :=
  (List.range 16).filter (fun k => s.bit R.PLAT_SUP_CFG_EN k && s.rd R.PLAT_SUP_CFG_KIND k == kind)

/-- Part of the figure drawn from the board supplies, mW (R39, R55–R57). -/
def State.boardMw (s : State) : Nat :=
  let ke := s.rd R.LE_PKG_KEEP_EST_KEEP_EST 0
  let he := s.rd R.LE_PKG_HBM_EST_HBM_EST 0
  let keep := s.suppliesOf 0
  let hbm := s.suppliesOf 1
  (if keep.isEmpty then ke else sumN (keep.map (fun k => s.supplyMw k ke)))
    + sumN ((List.range (hbmStacks s.zk4)).map (fun c =>
        let l := hbm.filter (fun k => s.rd R.PLAT_SUP_CFG_STACK k == c)
        if l.isEmpty then he else sumN (l.map (fun k => s.supplyMw k he))))

/-- The package power figure, mW (R55). -/
def State.figureMw (s : State) : Nat :=
  (max 0 ((s.boardMw : Int) + openDivI (1000 * sumI (s.rails.map s.railVI)) (2 ^ 21))).toNat

/-- Frames of the mean's window (R54, R480). -/
def State.window (s : State) : Nat := if s.slowFrames then 819 else 2048

/-- Sum of the package power of the last `n` frames. -/
def State.pkgSum (s : State) (n : Nat) : Nat :=
  if n = 2048 then s.rd H.LE_PKG_SUM 0
  else sumN ((List.range n).map (fun i => s.rd H.LE_PKG_HIST ((s.frame + 2047 - i) % 2048)))

/-- Longest excursion and shortest gap as they apply (R480). -/
def State.excFrames (s : State) : Nat :=
  if s.slowFrames then s.rd R.LE_PKG_LIMITS_EXC_FRAMES 0 * 2 / 5 else s.rd R.LE_PKG_LIMITS_EXC_FRAMES 0
def State.gapFrames (s : State) : Nat :=
  if s.slowFrames then (s.rd R.LE_PKG_LIMITS_GAP_FRAMES 0 * 2 + 4) / 5 else s.rd R.LE_PKG_LIMITS_GAP_FRAMES 0

/-- The figure of the frame that has ended is latched and counted: POWER, MEAN, RUN, GAP and the history (R56, R217). -/
def State.latchPower (s : State) : State :=
  let p := s.figureMw
  let i := (s.frame + 2047) % 2048
  let s1 := (((s.wr R.LE_PKG_POWER_POWER 0 p).wr H.LE_PKG_BOARD 0 s.boardMw).wr H.LE_PKG_SUM 0
    (s.rd H.LE_PKG_SUM 0 + p - s.rd H.LE_PKG_HIST i)).wr H.LE_PKG_HIST i p
  let s2 := s1.wr R.LE_PKG_MEAN_MEAN 0 (openDiv (s1.pkgSum s1.window) s1.window)
  if !s.running then s2.clearElems [R.LE_PKG_RUN_RUN, R.LE_PKG_RUN_GAP, H.LE_PKG_SEEN] 0
  else if s.rd H.LE_PKG_SUS 0 < p then
    let s3 := s2.when (s.rd R.LE_PKG_RUN_RUN 0 == 0) (fun t =>
      (t.wr H.LE_PKG_GAPB 0 (s.rd R.LE_PKG_RUN_GAP 0)).wr H.LE_PKG_SEENB 0 (s.rd H.LE_PKG_SEEN 0))
    ((s3.inc R.LE_PKG_RUN_RUN 0 1).wr R.LE_PKG_RUN_GAP 0 0).wr H.LE_PKG_SEEN 0 1
  else (s2.inc R.LE_PKG_RUN_GAP 0 1).wr R.LE_PKG_RUN_RUN 0 0

/-- P_allow: the highest power at which the coming frame meets every limit (R56). The mean takes the coming frame with the
window's frames before it. An excursion that began before the gap was long enough may not go on. -/
def State.powerAllow (s : State) : Nat :=
  let su := s.rd H.LE_PKG_SUS 0
  let w := s.window
  let mean := su * w + s.rd H.LE_PKG_HIST ((s.frame + 2048 - w) % 2048) - s.pkgSum w
  let a := min mean (s.rd H.LE_PKG_EXC 0)
  let long := decide (s.excFrames < s.rd R.LE_PKG_RUN_RUN 0 + 1)
  let early := decide (1 ≤ s.rd R.LE_PKG_RUN_RUN 0) && s.bit H.LE_PKG_SEENB 0 && decide (s.rd H.LE_PKG_GAPB 0 < s.gapFrames)
  if long || early then min a su else a

/-- The package limiter's cut for the coming frame (R56). -/
def State.limiter (s : State) : State :=
  let p := s.rd R.LE_PKG_POWER_POWER 0
  let b := s.rd H.LE_PKG_BOARD 0
  let a := s.powerAllow
  s.wr H.LE_HW_CUT 0
    (if !s.running ∨ p ≤ a then 32768 else if p ≤ b then 0 else min 32768 (32768 * (a - b) / (p - b)))

/-- The package cut c (R56, R187). -/
def State.packageCut (s : State) : Nat :=
  match s.owner 0x06 0 with
  | some l => min (s.rd H.LE_HW_CUT 0) (s.rd R.LE_SLOT_OUT_OUT l)
  | none => s.rd H.LE_HW_CUT 0

/-! ## Effective hurdles -/

/-- A cut in the form of PACKAGE_CUT (R187). The quotient is its floor: DESIGN CHOICE, assumption 52. -/
def cutTerm (power floor c : Nat) : Nat := max floor (power * c / 32768)

/-- Slots in force with an output kind and index. -/
def State.outsOf (s : State) (kind ix : Nat) : List Nat :=
  s.slots.filter (fun l => s.rd R.LE_SLOT_OUTSEL_OUT_KIND l == kind && s.rd R.LE_SLOT_OUTSEL_OUT_INDEX l == ix)

/-- Terms of a fold's effective hurdle, mW (R83, R134, R187, R218, R256, R331). -/
def State.foldTerms (s : State) (f : Nat) : List Nat :=
  let p := s.rd R.LE_FOLD_POWER_POWER f
  let fl := s.rd R.LE_FOLD_FLOOR_FLOOR f
  let hc := s.rd R.LE_FOLD_HOSTCAP_HOSTCAP f
  let pads := s.paddocks.filter (fun q => s.rd R.TH_PAD_CFG_FOLD q == f)
  let slots := s.outsOf 0x03 f ++ pads.flatMap (s.outsOf 0x04)
  let cut := s.rd R.PD_RAIL_CUT_CUT (foldRail s.zk4 f)
  let c := s.packageCut
  [p] ++ (if hc = 0 then [] else [hc]) ++ slots.map (fun l => 10 * s.rd R.LE_SLOT_OUT_OUT l)
    ++ (if cut < 32768 then [cutTerm p fl cut] else []) ++ (if c < 32768 then [cutTerm p fl c] else [])
    ++ (if pads.any (fun q => s.bit R.TH_PAD_STAT_CLAMP q) then [fl] else [])

/-- ZK_LE_FOLD_EFFECTIVE of every fold of the running map (R218). -/
def State.effectives (s : State) : State :=
  if s.running then
    s.folds.foldl (fun t f => t.wr R.LE_FOLD_EFFECTIVE_EFFECTIVE f (minOf 0 (s.foldTerms f))) s
  else s

/-! ## Throttle -/

/-- Terms of a fold's throttle: loop, rail safe, package (R379). -/
def State.throttleTerms (s : State) (f : Nat) : Nat × Nat × Nat :=
  let loop := match s.owner 0x05 f with
    | some l => min 255 (s.rd R.LE_SLOT_OUT_OUT l)
    | none => 0
  let r := foldRail s.zk4 f
  let safe := if s.bit R.PD_RAIL_STAT_SAFE_LATCH r then s.rd R.PD_RAIL_HEALTH_SAFE_THR r else 0
  (loop, safe, min 255 ((256 * (32768 - s.packageCut) + 32767) / 32768))

/-- A fold's throttle formed and, where it changes or is due, sent to its dispatcher (R379, R380, R511). -/
def State.throttleStep (s : State) (force : Bool) (f : Nat) : State :=
  let (loop, safe, pkg) := s.throttleTerms f
  let compute := foldKind s.zk4 f == 1
  let hold := s.bit H.GL_START_HOLD 0 && compute
  let top := max loop (max safe pkg)
  let level := if hold then 255 else top
  let cause := if hold || top == 0 then 0
    else b2n (loop == top) + 2 * b2n (safe == top) + 4 * b2n (pkg == top)
  let s1 := (((s.wr R.GL_THROTTLE_LEVEL f level).wr R.GL_THROTTLE_LOOP f loop).wr R.GL_THROTTLE_SAFE f safe).wr
    R.GL_THROTTLE_PKG f pkg
  if compute && (force || level != s.rd R.GL_THROTTLE_LEVEL f || s.frame % 256 == (64 + f) % 256) then
    s1.guard (.throttle f level cause) [.dispatcher f]
  else s1

/-- Folds whose throttle is formed: those the map declares, and with no map in force every fold of the package, for the rail-safe
term (R257, R260, R379). -/
def State.throttleFolds (s : State) : List Nat := if s.running then s.folds else (List.range 64).filter (foldPresent s.zk4)

/-- The throttle levels of a boundary (R379, R380). -/
def State.throttles (s : State) (force : Bool) : State := s.throttleFolds.foldl (State.throttleStep · force) s

end Sys2Proof.Machine
end

