-- ==== Sys2Proof/Machine/Grants.lean ====
section
/-! DEFINITION. Power grants and the energy ledger: rounds (R354–R361, R370–R372), grant messages (R362–R369), mesh delivery
(R375–R378), ledger periods and banks (R381–R385, R388), attribution (R386, R387, R389, R391), and the region in the Store
(R392). -/

namespace Sys2Proof.Machine

/-! ## The region in the Store (R392) -/

/-- Start of the grant and ledger region. -/
def State.glBase (s : State) : Nat := 4096 * s.rd R.GL_BASE_BASE 0
def State.ledgerAt (s : State) (q : Nat) : Nat := s.glBase + 8 * q
def State.heftAt (s : State) (q : Nat) : Nat := s.glBase + 0x8000 + 4 * q
def State.ewmaAt (s : State) (q : Nat) : Nat := s.glBase + 0xC000 + 4 * q
def State.grantAt (s : State) (q : Nat) : Nat := s.glBase + 0x10000 + 4 * q
def State.qcapAt (s : State) (q : Nat) : Nat := s.glBase + 0x14000 + 4 * q
def State.unitsAt (s : State) (k q : Nat) : Nat := s.glBase + 0x18000 + 0x4000 * k + 4 * q
def State.headerAt (s : State) (k : Nat) : Nat := s.glBase + 0x28000 + 0x200 * k
def State.sharedAt (s : State) (r : Nat) : Nat := s.glBase + 0x28800 + 8 * r
def State.grantGenAt (s : State) : Nat := s.glBase + 0x28900
def State.ledgerGenAt (s : State) : Nat := s.glBase + 0x28904

/-- Queues of a compute fold's dispatcher (R41, R354). -/
def State.queuesOf (s : State) (f : Nat) : List Nat :=
  (List.range (queuesPerDispatcher s.zk4)).map (fun k => queuesPerDispatcher s.zk4 * f + k)

/-- The fold of a queue. -/
def State.queueFold (s : State) (q : Nat) : Nat := q / queuesPerDispatcher s.zk4

/-- A generation word moved to its next even value (R372). -/
def State.nextGen (s : State) (a : Nat) : State := s.st a 4 ((s.ld a 4 / 2 * 2 + 2) % 2 ^ 32)

/-! ## A round -/

/-- POLICY and CAPS of the map's UNATTENDED record, or R598's defaults. -/
def State.unattPolicy (s : State) : Nat := match s.rec? 0x0804 0 with | some r => r.u8 5 | none => 0
def State.unattCaps (s : State) : Nat := match s.rec? 0x0804 0 with | some r => r.u8 6 | none => 1

/-- A queue is active in a round (R357). -/
def State.queueActive (s : State) (q : Nat) : Bool :=
  s.rd H.GL_ACT q != 0 || (!s.bit H.GL_BANK_SINCE 0 && decide (2 ^ 31 ≤ s.ld (s.grantAt q) 4))

/-- WEIGHT of a heft class in the profile in force (R151, R358). -/
def State.heftWeight (s : State) (c : Nat) : Nat :=
  match s.recsOf 0x0801 with | r :: _ => r.u16 (4 + 4 * c) | [] => 0

/-- Heft class of a queue (R392). -/
def State.heftOf (s : State) (q : Nat) : Nat := s.ld (s.heftAt q) 4 % 16

/-- QCAP of a queue as it applies (R359, R370). -/
def State.qcapOf (s : State) (q : Nat) : Nat :=
  if s.bit R.GL_STATUS_UNATTENDED 0 && s.unattCaps == 0 then 0 else s.ld (s.qcapAt q) 4

/-- Rates of a compute fold's queues: queue, rate, active (R358). -/
def State.foldRates (s : State) (f : Nat) : List (Nat × Nat × Bool) :=
  let qs := (s.queuesOf f).map (fun q => (q, s.queueActive q))
  let idle := (qs.filter (fun x => !x.2)).length
  let budget := 4 * s.rd R.LE_FOLD_EFFECTIVE_EFFECTIVE f
  let reserve := if 0 < idle then budget * min 50 (s.rd R.GL_CTRL_RESERVE_PCT 0) / 100 else 0
  let spend := budget - reserve
  let wsum := sumN ((qs.filter (fun x => x.2)).map (fun x => s.heftWeight (s.heftOf x.1)))
  qs.map (fun x =>
    let rate := if x.2 then spend * s.heftWeight (s.heftOf x.1) / wsum else reserve / idle
    let cap := s.qcapOf x.1
    (x.1, if cap = 0 then rate else min rate cap, x.2))

/-- FOLD_PARAM to a fold's dispatcher (R362, R367, R368). -/
def State.sendFoldParam (s : State) (f flat cost : Nat) : State :=
  let s1 := (s.wr H.GL_FLAT_SENT f flat).wr H.GL_COST_SENT f cost
  if s.holder then s1.sendOrd (.foldParam f flat cost) [.dispatcher f] else s1

/-- COST of a fold (R389). -/
def State.costOfFold (s : State) (f : Nat) : Nat := s.rd R.GL_RAIL_COST_COST (foldRail s.zk4 f)

/-- FOLD_PARAM with the present FLAT_EFF and COST. -/
def State.foldParamNow (s : State) (f : Nat) : State := s.sendFoldParam f (s.rd H.GL_FLAT_EFF f) (s.costOfFold f)

/-- Ordinary-class packets under way to a dispatcher. -/
def State.underWay (s : State) (f : Nat) : Nat :=
  (s.mesh.outstanding.filter (fun o => o.targets.contains (.dispatcher f))).length

/-- A fold's round goes to its dispatcher: every GRANT, then the ROUND with its COUNT (R362, R364). -/
def State.sendRound (s : State) (f : Nat) : State :=
  let ep := s.rd R.GL_EPOCH_EPOCH 0
  if s.holder then
    let s1 := (s.queuesOf f).foldl (fun t q =>
      let w := t.ld (t.grantAt q) 4
      t.sendOrd (.grant q ep (w % 2 ^ 31) (decide (2 ^ 31 ≤ w))) [.dispatcher f]) s
    s1.sendOrd (.round f ep ((s1.rd R.GL_DISP_SENT_SENT f + s1.underWay f + 1) % 2 ^ 32)) [.dispatcher f]
  else s

/-- One fold's rates computed and written to the grant table (R355, R358). -/
def State.computeFold (s : State) (f : Nat) : State :=
  ((s.foldRates f).foldl (fun t x => t.st (t.grantAt x.1) 4 (min x.2.1 (2 ^ 31 - 1) + 2 ^ 31 * b2n x.2.2)) s).wr
    H.GL_ROUND_E f (s.rd R.LE_FOLD_EFFECTIVE_EFFECTIVE f)

/-- GRANT_PERIOD as it acts (R393). -/
def State.grantPeriod (s : State) : Nat := max 500 (min 4000 (s.rd R.GL_CTRL_GRANT_PERIOD 0))

/-- Rounds are withheld by the unattended policy (R370). -/
def State.roundsOff (s : State) : Bool := s.bit R.GL_STATUS_UNATTENDED 0 && s.unattPolicy == 1

/-- The next digest test: PASS when a round digest and a bank digest have been equal, FAIL on a difference (R442). -/
def State.digestTest (s : State) (kind : Nat) (eq : Bool) : State :=
  if !s.bit H.FLT_TEST_PEND 0x36B || s.rd H.FLT_RESULT 0x36B != 0 then s
  else if !eq then s.wr H.FLT_RESULT 0x36B 2
  else
    let got := setBit (s.rd H.FLT_PROBE_GOT 0x36B) (kind - 2) true
    (s.wr H.FLT_PROBE_GOT 0x36B got).when (got == 3) (fun t => t.wr H.FLT_RESULT 0x36B 1)

/-- A digest of a round or bank and the peer's are compared once both are held: a difference is a CORRECTED fault, and the
holder sends its values (R414). `kind` is KIND of ZK_TWIN_LAST. -/
def State.compareDigests (s : State) (own peer : Fld) (i kind : Nat) (values : State → List Msg) : State :=
  let a := s.rd own i
  let b := s.rd peer i
  if a < 2 ^ 32 ∨ b < 2 ^ 32 then s
  else
    let s1 := ((s.wr own i 0).wr peer i 0).digestTest kind (a == b)
    if a = b ∨ s.bit R.TWIN_STATUS_VERSION_SKEW 0 = true then s1
    else
      let s2 := if kind = 2 then (s1.wr R.TWIN_LAST_INDEX 0 (s1.freeVal 16)).freeStep else s1.wr R.TWIN_LAST_INDEX 0 i
      let s3 := ((s2.wr R.TWIN_LAST_KIND 0 kind).wr R.TWIN_LAST_FRAME_FRAME 0 s.frame).fault 0x0E 3 0
      if s.holder then (values s).foldl State.send s3 else s3

/-- The published rates of a round, as the holder sends them on a difference (R414). -/
def State.roundValues (s : State) : List Msg :=
  [.bulk ⟨true, .takeRound ((s.cfolds.flatMap s.queuesOf).map (fun q => (q, s.ld (s.grantAt q) 4)))⟩]

/-- The ledger and the shared accounts, as the holder sends them on a difference (R414). -/
def State.bankValues (s : State) : List Msg :=
  [.bulk ⟨true, .storeBytes s.glBase (memGetBytes s.store s.glBase 0x8000)⟩,
   .bulk ⟨true, .storeBytes (s.sharedAt 0) (memGetBytes s.store (s.sharedAt 0) 112)⟩]

/-- The own digest of a round or bank is taken and sent to a peer that compares (R414). -/
def State.ownDigest (s : State) (own peer : Fld) (i kind crc : Nat) (op : BulkOp) (values : State → List Msg) : State :=
  if s.peerCompares && !s.bit R.TWIN_STATUS_VERSION_SKEW 0 then
    (((s.wr own i (2 ^ 32 + crc)).send (.bulk ⟨true, op⟩)).compareDigests own peer i kind values)
  else s

/-- CRC-32C of the rates of a round, queue by queue (R414). -/
def State.roundCrc (s : State) : Nat :=
  crc32c ((s.cfolds.flatMap s.queuesOf).flatMap (fun q => memGetBytes s.store (s.grantAt q) 4))

/-- CRC-32C of the ledger words that a bank changed, in rising order, then SHARED (R414). -/
def bankCrc (s t : State) : Nat :=
  crc32c (((List.range 4096).flatMap (fun q =>
    let a := memGetBytes s.store (s.ledgerAt q) 8
    let b := memGetBytes t.store (s.ledgerAt q) 8
    if a = b then [] else b)) ++ memGetBytes t.store (s.sharedAt 0) 112)

/-- A round is due: its period has passed, or one is asked for, or H1 has restarted (R355, R369, R612). -/
def State.roundDue (s : State) : Bool :=
  decide (s.grantPeriod ≤ s.rd H.GL_ROUND_AGE 0) || s.bit H.GL_ROUND_SOON 0 || s.bit H.GL_RESTARTED 0

/-- H1 sheds the work of a level (R613). -/
def State.shedAt (s : State) (level : Nat) : Bool := decide (level ≤ s.rd R.FW_HART_STAT_LEVEL 1)

/-- Effect of GRANT_ROUND: H1 computes, publishes and hands over a round (R355–R361, R367, R370–R372, R612, R613). -/
def execGrantRound (s : State) : Host.Outcome State Fault Refusal :=
  (if s.running && s.hartUp 1 && !s.shedAt 4 && !s.roundsOff && s.roundDue then
    let ep := (s.rd R.GL_EPOCH_EPOCH 0 + 1) % 2 ^ 32
    let s1 := ((((s.wr R.GL_EPOCH_EPOCH 0 ep).wr H.GL_ROUND_AGE 0 0).wr H.GL_ROUND_SOON 0 0).wr H.GL_RESTARTED 0 0).clearFlds
      [H.GL_MISM, H.GL_REV_SINCE]
    let s2 := ((s.cfolds.foldl State.computeFold s1).wr H.GL_BANK_SINCE 0 0).nextGen s.grantGenAt
    let s3 := s.cfolds.foldl (fun t f =>
      (t.when (t.rd H.GL_FLAT_SENT f != t.rd H.GL_FLAT_EFF f || t.rd H.GL_COST_SENT f != t.costOfFold f)
        (fun u => u.foldParamNow f)).sendRound f) s2
    let s4 := (s3.when s.holder (fun t => t.wr R.GL_STATUS_ROUNDS 0 1)).wr R.GL_STATUS_FLAT_ALL 0 0
    let s5 := s4.when s.holder (fun t => t.send (.bulk ⟨true, .epoch ep⟩))
    s5.ownDigest H.GL_RDIG H.GL_PRDIG 0 2 s5.roundCrc (.roundDigest s5.roundCrc) State.roundValues
  else s).go

/-- A round of the present epoch applied by a dispatcher, whichever instance has sent it: both know what it was computed on (R362,
R369, R371). -/
def State.noteApplied (s : State) (fold : Nat) (m : RoundAckMsg) : State :=
  s.when (m.status == 0 && m.epoch == s.rd R.GL_EPOCH_EPOCH 0) (fun t =>
    (t.wr H.GL_APPLIED_E fold (s.rd H.GL_ROUND_E fold)).wr H.GL_REVERTED fold 0)

/-- Effect of ROUND_ACK: the reading of an acknowledgement, in full where it is for this instance (R362, R365, R369, R395). -/
def execRoundAck (fold : Nat) (m : RoundAckMsg) (s : State) : Host.Outcome State Fault Refusal :=
  (if computeFolds s.zk4 ≤ fold ∨ 2 < m.status then s
  else if m.source ≠ b2n s.ident.instB then s.noteApplied fold m
  else
    let s1 := (((s.noteApplied fold m).wr R.GL_DISP_ACK_ACK_SEQ fold m.grantSeq).wr R.GL_DISP_EPOCH_ACK_EPOCH fold m.epoch).wr
      R.GL_DISP_STAT_STATUS fold m.status
    let own := m.epoch == s.rd R.GL_EPOCH_EPOCH 0
    if m.status = 1 then
      let s2 := s1.wr R.GL_DISP_SENT_SENT fold m.grantSeq
      if !own then s2.foldParamNow fold
      else if s.bit H.GL_MISM fold then ((s2.inc R.GL_DISP_STAT_ROUND_FAIL fold 1).foldParamNow fold).fault 0x0B fold 1
      else ((s2.wr H.GL_MISM fold 1).foldParamNow fold).sendRound fold
    else s1).go

/-! ## FLAT_EFF, REVERT and WEIGHTS -/

/-- SHARE of a fold's FLAT_SHARE record (R151). -/
def State.shareOf (s : State) (f : Nat) : Nat := match s.rec? 0x0802 f with | some r => r.u32 8 | none => 0

/-- FLAT_EFF of a fold at a boundary, and the FOLD_PARAM it asks for, or the commit of a map or profile at it (R367, R368). -/
def State.flatStep (due : Bool) (s : State) (f : Nat) : State :=
  let fe := min (s.shareOf f) (4 * s.rd R.LE_FOLD_EFFECTIVE_EFFECTIVE f / queuesPerDispatcher s.zk4)
  let old := s.rd H.GL_FLAT_SENT f
  let s1 := (s.wr H.GL_FLAT_EFF f fe).wr H.GL_RISE_LEFT f (s.rd H.GL_RISE_LEFT f - 1)
  if due then s1.foldParamNow f
  else if fe < old then s1.sendFoldParam f fe (s.rd H.GL_COST_SENT f)
  else if old < 16 * (fe - old) && s1.rd H.GL_RISE_LEFT f == 0 then
    (s1.sendFoldParam f fe (s.rd H.GL_COST_SENT f)).wr H.GL_RISE_LEFT f 64
  else s1

/-- REVERT to a fold, and FLAT_ALL once it has gone to every one (R369, R393). -/
def State.sendRevert (s : State) (f : Nat) : State :=
  let s1 := s.wr H.GL_REVERTED f 1
  if s.holder then
    let s2 := (s1.wr H.GL_REV_SINCE f 1).sendOrd (.revert f (s.rd R.GL_EPOCH_EPOCH 0)) [.dispatcher f]
    s2.when (s2.cfolds.all (fun k => s2.bit H.GL_REV_SINCE k)) (fun t => t.wr R.GL_STATUS_FLAT_ALL 0 1)
  else s1

/-- REVERT where the effective hurdle has fallen below half of what the last applied round was made on (R369). -/
def State.revertStep (s : State) (f : Nat) : State :=
  if !s.bit H.GL_REVERTED f && decide (2 * s.rd R.LE_FOLD_EFFECTIVE_EFFECTIVE f < s.rd H.GL_APPLIED_E f) then
    (s.sendRevert f).wr H.GL_ROUND_SOON 0 1
  else s

/-- WEIGHTS to every dispatcher (R362, R367). -/
def State.sendWeights (s : State) : State :=
  if s.holder then
    s.sendOrd (.weights ((List.range 30).map (fun k => s.rd R.BW_WEIGHT_BYTE k)))
      ((List.range (computeFolds s.zk4)).map Endpoint.dispatcher)
  else s

/-- WEIGHTS at a commit; FOLD_PARAM goes to every dispatcher once the boundary has formed FLAT_EFF (R367, R368). -/
def State.commitGrants (s : State) : State := (s.wr H.GL_PARAM_DUE 0 1).sendWeights

/-! ## Ledger periods and banks -/

/-- State of a bank: 0 FREE, 1 OPEN, 2 CLOSING, 3 READY (R394). -/
def State.bank (s : State) (k : Nat) : Nat := s.rd R.GL_BANK_STAT_STATE k

/-- The first bank in a state. -/
def State.bankIn (s : State) (st : Nat) : Option Nat := (List.range 4).find? (fun k => s.bank k == st)

/-- A FREE bank opens for period `p` (R384, R385). -/
def State.openBank (s : State) (k p : Nat) : State :=
  let s1 := (((s.wr R.GL_BANK_STAT_STATE k 1).wr H.GL_PER0 k p).wr R.GL_BANK_FIRST_FIRST k s.frame).clearElems
    [R.GL_BANK_STAT_INEXACT, R.GL_BANK_STAT_LATE, R.GL_BANK_STAT_MERGED, R.GL_BANK_FRAMES_FRAMES, H.GL_INEX_R, H.GL_THR_SEEN] k
  let s2 := ((List.range 32).foldl (fun t d => t.clearElems [H.GL_UCNT, H.GL_UEND] (32 * k + d)) s1)
  ((s.touched H.GL_WAIT).foldl (fun t q => t.wr H.GL_WAIT q (setBit (t.rd H.GL_WAIT q) k false)) s2).stBytes (s.headerAt k)
    (toLeBytes 8 s.frame ++ List.replicate 0x178 0)

/-- Effect of LEDGER_PERIOD_START: the first boundary of a period rotates the banks and sends PERIOD (R381, R384). -/
def execLedgerPeriodStart (s : State) : Host.Outcome State Fault Refusal :=
  (let p := s.frame / 2048
   if s.frame % 2048 == 0 && s.rd H.GL_PERIOD_DONE 0 != p + 1 then
     let s1 := s.wr H.GL_PERIOD_DONE 0 (p + 1)
     let s2 := match s.bankIn 0, s.bankIn 1 with
       | some k, some o => ((s1.wr R.GL_BANK_STAT_STATE o 2).wr H.GL_CLOSE_AGE o 0).openBank k p
       | some k, none => s1.openBank k p
       | none, some o => s1.inc R.GL_BANK_STAT_MERGED o 1
       | none, none => s1
     if s.holder then s2.sendOrd (.period (p % 256)) ((List.range (computeFolds s.zk4)).map Endpoint.dispatcher) else s2
   else s).go

/-- A period's low byte names a bank (R384). -/
def State.names (s : State) (k per : Nat) : Bool :=
  decide ((per + 256 - s.rd H.GL_PER0 k % 256) % 256 ≤ s.rd R.GL_BANK_STAT_MERGED k)

/-- The bank that a USAGE or USAGE_END enters, and whether it is late (R384). -/
def State.usageBank (s : State) (per : Nat) : Option (Nat × Bool) :=
  match (List.range 4).find? (fun k => s.bank k == 2 && s.names k per) with
  | some k => some (k, false)
  | none => match s.bankIn 1 with
    | some k => some (k, !s.names k per)
    | none => none

/-- A bank is INEXACT for a rail (R388). -/
def State.inexact (s : State) (k r : Nat) : State :=
  ((s.wr R.GL_BANK_STAT_INEXACT k 1).wr H.GL_INEX_R k (setBit (s.rd H.GL_INEX_R k) r true)).st (s.headerAt k + 12) 4
    (s.ld (s.headerAt k + 12) 4 ||| 1)

/-- Requests that wait in the DMA port's queue: `held` of them kept waiting by the other ports' accesses, and the adds that wait for
a bank's wake (R552, R554, R566). -/
def State.dmaQueued (s : State) (held : Nat) : Nat := held + sumN ((List.range 16).map (s.rd H.STORE_DMAQ))

/-- A ledger add reaches its bank: one in retention wakes, and the add waits in the queue for it (R554, R566, R567). -/
def State.dmaAdd (s : State) (a : Nat) : State :=
  let b := bankOf a
  s.when (s.bit H.STORE_ASLEEP b) (fun t => (t.wr H.STORE_BUSYW b 1).inc H.STORE_DMAQ b 1)

/-- Effect of USAGE: the units enter their bank by an atomic ADDS; an uncorrectable word skips it and makes the bank INEXACT. One
that finds the DMA port's queue full is discarded and counts as not received (R382–R384, R388, R554, R559). -/
def execUsage (m : UsageMsg) (s : State) : Host.Outcome State Fault Refusal :=
  (if 4096 ≤ m.queue ∨ 64 ≤ s.dmaQueued m.held then s
  else match s.usageBank m.period with
    | none => s
    | some (k, late) =>
      let f := s.queueFold m.queue
      let a := s.unitsAt k m.queue
      let ft := s.headerAt k + 0x80 + 4 * f
      let bad := s.poisoned a || s.poisoned ft
      let s0 := ((s.dmaAdd a).dmaRead a 4).dmaRead ft 4
      let v := s.ld a 4 + m.units
      let s1 := if bad then s0.inexact k (foldRail s.zk4 f)
        else (s0.st a 4 (min v (2 ^ 32 - 1))).st ft 4 (min (s.ld ft 4 + m.units) (2 ^ 32 - 1))
      let s2 := s1.when (!bad && decide (2 ^ 32 ≤ v)) (fun t => t.inexact k (foldRail s.zk4 f))
      let s3 := s2.when m.waiting (fun t => t.wr H.GL_WAIT m.queue (setBit (s.rd H.GL_WAIT m.queue) k true))
      if late then
        (s3.wr R.GL_BANK_STAT_LATE k 1).st (s.headerAt k + 12) 4 (s3.ld (s.headerAt k + 12) 4 ||| 2)
      else s3.inc H.GL_UCNT (32 * k + f) 1).go

/-- Effect of USAGE_END (R382, R388). -/
def execUsageEnd (fold period count : Nat) (s : State) : Host.Outcome State Fault Refusal :=
  (if computeFolds s.zk4 ≤ fold then s
  else match s.usageBank period with
    | some (k, false) => s.inc H.GL_UEND (32 * k + fold) count
    | _ => s).go

/-- Effect of BANK_READY: 64 frames after the bank stopped being OPEN (R384, R388). -/
def execBankReady (bank : Nat) (s : State) : Host.Outcome State Fault Refusal :=
  (if decide (bank < 4) && s.bank bank == 2 && decide (64 ≤ s.rd H.GL_CLOSE_AGE bank) then
    let bad := (List.range (computeFolds s.zk4)).filter (fun d =>
      s.rd H.GL_UCNT (32 * bank + d) != s.rd H.GL_UEND (32 * bank + d))
    bad.foldl (fun t d => t.inexact bank (foldRail s.zk4 d)) (s.wr R.GL_BANK_STAT_STATE bank 3)
  else s).go

/-- A READY bank becomes FREE and its UNITS words 0 (R384, R394). -/
def State.releaseBank (s : State) (k : Nat) : State :=
  if s.bank k = 3 then
    (s.wr R.GL_BANK_STAT_STATE k 0).stBytes (s.unitsAt k 0) (List.replicate 0x4000 0)
  else s

/-- Effect of RELEASE (R394). -/
def execRelease (w : WCtx) (bank : Nat) (s : State) : Host.Outcome State Fault Refusal :=
  (s.judged w R.GL_BANK_STAT_RELEASE bank 1 true (fun t => t.releaseBank bank)).go

/-! ## Attribution -/

/-- Queues of the compute folds of a rail, whatever the map in force declares: a bank may outlive its map (R360, R386, R388). -/
def State.railQueues (s : State) (r : Nat) : List Nat :=
  ((List.range (computeFolds s.zk4)).filter (fun f => foldRail s.zk4 f == r)).flatMap s.queuesOf

/-- Bits of a number. -/
def bitLen (n : Nat) : Nat := if n = 0 then 0 else Nat.log2 n + 1

/-- EWMA after a bank: a signed step, truncated toward zero (R360). -/
def ewmaStep (e c : Nat) : Nat := if e ≤ c then e + (c - e) / 8 else e - (e - c) / 8

/-- A queue's heft learned from a bank's charge (R360, R361). -/
def State.learnHeft (s : State) (q charge : Nat) : State :=
  let h := s.ld (s.heftAt q) 4
  if s.bit R.GL_HEFT_LEARN 0 && !bitOf h 4 then
    let e := min (ewmaStep (s.ld (s.ewmaAt q) 4) charge) (2 ^ 32 - 1)
    (s.st (s.ewmaAt q) 4 e).st (s.heftAt q) 4
      (h / 16 * 16 + min 15 (bitLen (e / max 1 (s.rd R.GL_HEFT_HEFT_UNIT 0))))
  else s

/-- One queue booked: its share `c` with 10 fraction bits (R360, R386, R388, R393). -/
def State.bookQueue (s : State) (k q c : Nat) (inexact : Bool) : State :=
  let h := s.ld (s.heftAt q) 4
  let res := h / 65536 + c % 1024
  let adv := c / 1024 + res / 1024
  let h' := res % 1024 * 65536 + (if inexact then h % 65536 ||| 32 else h % 65536)
  let act := s.ld (s.unitsAt k q) 4 != 0 || bitOf (s.rd H.GL_WAIT q) k
  ((((s.st (s.ledgerAt q) 8 ((s.ld (s.ledgerAt q) 8 + adv) % 2 ^ 64)).st (s.heftAt q) 4 h').learnHeft q adv).wr H.GL_ACT q
    (s.rd H.GL_ACT q * 2 + b2n act))

/-- Energy of a rail in a bank's header, µJ with 10 fraction bits (R385, R392). -/
def State.bankEnergy (s : State) (k r : Nat) : Nat := s.ld (s.headerAt k + 0x10 + 8 * r) 8

/-- IDLE of a rail learned from an idle bank (R387). -/
def State.learnIdle (s : State) (k r e frames : Nat) : State :=
  if frames = 0 ∨ s.bit R.GL_BANK_STAT_LATE k ∨ s.bit R.GL_BANK_STAT_INEXACT k ∨ bitOf (s.rd H.GL_THR_SEEN k) r then s
  else
    let p := openDiv (e * 2000) (1024 * frames)
    let i := s.rd R.GL_RAIL_IDLE_IDLE r
    s.wr R.GL_RAIL_IDLE_IDLE r ((i : Int) + openDivI ((p : Int) - i) 8).toNat

/-- A rail's shared account (R386). -/
def State.addShared (s : State) (r e : Nat) : State :=
  s.st (s.sharedAt r) 8 ((s.ld (s.sharedAt r) 8 + e) % 2 ^ 64)

/-- A rail's fraction of its shared account that does not make a whole µJ. -/
def State.shareEnergy (s : State) (r e : Nat) : State :=
  let v := s.rd H.GL_SHARED_RES r + e
  (s.addShared r (v / 1024)).wr H.GL_SHARED_RES r (v % 1024)

/-- A bank booked for one rail (R386). -/
def State.bookRail (s : State) (k r : Nat) : State :=
  let e := s.bankEnergy k r
  let frames := s.rd R.GL_BANK_FRAMES_FRAMES k
  let qs := s.railQueues r
  let u := sumN (qs.map (fun q => s.ld (s.unitsAt k q) 4))
  let inx := bitOf (s.rd H.GL_INEX_R k) r
  let idle := min e (s.rd R.GL_RAIL_IDLE_IDLE r * frames * 1024 / 2000)
  if u = 0 then
    qs.foldl (fun t q => t.bookQueue k q 0 inx) ((s.shareEnergy r e).learnIdle k r e frames)
  else
    let dyn := e - idle
    let c (q : Nat) : Nat := dyn * s.ld (s.unitsAt k q) 4 / u
    let s1 := qs.foldl (fun t q => t.bookQueue k q (c q) inx) s
    (s1.shareEnergy r (idle + (dyn - sumN (qs.map c)))).wr R.GL_RAIL_COST_COST r (min (2 ^ 32 - 1) (dyn * 1000000 / (u * 1024)))

/-- The READY bank that closed first (R384). -/
def State.oldestReady (s : State) : Option Nat :=
  (sortBy (fun k => s.rd R.GL_BANK_FIRST_FIRST k) ((List.range 4).filter (fun k => s.bank k == 3))).head?

/-- After a restart of H1 the banks wait for its new round, where rounds are sent (R612). -/
def State.bookingWaits (s : State) : Bool := s.bit H.GL_RESTARTED 0 && s.running && !s.roundsOff

/-- Effect of BANK_BOOKING: H1 books the oldest READY bank and releases it (R372, R384, R386, R612, R613). -/
def execBankBooking (bank : Nat) (s : State) : Host.Outcome State Fault Refusal :=
  (if s.oldestReady == some bank && s.hartUp 1 && !s.shedAt 3 && !s.bookingWaits then
    let s1 := (railList s.zk4).foldl (fun t r => t.bookRail bank r) s
    let c := bankCrc s s1
    ((((s1.wr H.GL_BANK_SINCE 0 1).nextGen s.ledgerGenAt).ownDigest H.GL_BDIG H.GL_PBDIG bank 3 c (.bankDigest bank c)
      State.bankValues).releaseBank bank)
  else s).go

/-! ## Mesh delivery -/

/-- A message that is never sent again (R378, R444). -/
def neverResent : MeshMsg → Bool
  | .sweep _ _ _ => true
  | .optFf _ _ => true
  | .period _ => true
  | .probe _ _ => true
  | _ => false

/-- A delivery counts in SENT of its dispatcher (R363). -/
def State.countSent (s : State) (e : Endpoint) : State :=
  match e with
  | .dispatcher f => s.wr R.GL_DISP_SENT_SENT f (s.rd R.GL_DISP_SENT_SENT f + 1)
  | _ => s

/-- NOBUF at a dispatcher counts (R395). -/
def State.countNobuf (s : State) (e : Endpoint) : State :=
  match e with
  | .dispatcher f => s.inc R.GL_DISP_STAT_NOBUF f 1
  | _ => s

/-- A target abandoned after the last attempt (R378). -/
def State.abandon (s : State) (e : Endpoint) : State :=
  let s1 := s.inc R.GL_MESH_STAT_FAILED 0 1
  match e with
  | .dispatcher f => s1.fault 0x0B f 1
  | .router f => s1.fault 0x0C f 1
  | .ctrl c => s1.fault 0x0D c 1
  | .engine k => s1.fault 0x07 k 1
  | _ => s1

/-- Effect of MESH_COMPLETION: bit i of the mask is 1 for DONE at target i of the message, 0 for NOBUF (R377, R378). -/
def execMeshCompletion (msg mask : Nat) (s : State) : Host.Outcome State Fault Refusal :=
  (match s.mesh.outstanding.find? (fun (o : Outstanding) => o.id == msg && !o.retry) with
   | none => s
   | some o =>
     let done := (o.targets.zipIdx.filter (fun (x : Endpoint × Nat) => bitOf mask x.2)).map Prod.fst
     let nob := (o.targets.zipIdx.filter (fun (x : Endpoint × Nat) => !bitOf mask x.2)).map Prod.fst
     let s1 := nob.foldl State.countNobuf (done.foldl State.countSent s)
     let last := decide (s.rd R.GL_MESH_RETRY_MAX 0 ≤ o.tries)
     let drop := nob.isEmpty || neverResent o.msg || last
     let l := if drop then s.mesh.outstanding.filter (fun (x : Outstanding) => x.id != msg)
       else s.mesh.outstanding.map (fun (x : Outstanding) => if x.id == msg then
         { x with targets := nob, retry := true, gap := max 1 (s.rd R.GL_MESH_RETRY_GAP 0) } else x)
     let s2 : State := { s1 with mesh := { s1.mesh with outstanding := l } }
     if last && !neverResent o.msg then nob.foldl State.abandon s2 else s2).go

/-- Effect of MESH_RETRY: RETRY_GAP frames after NOBUF the message goes again to the targets that refused it; an instance that has
lost the Gate sends it no more (R53, R362, R371, R378). -/
def execMeshRetry (msg : Nat) (s : State) : Host.Outcome State Fault Refusal :=
  (match s.mesh.outstanding.find? (fun (o : Outstanding) => o.id == msg && o.retry && o.gap == 0) with
   | none => s
   | some o =>
     if !s.holder then { s with mesh := { s.mesh with outstanding := s.mesh.outstanding.filter (fun (x : Outstanding) => x.id != msg) } }
     else
     let l := s.mesh.outstanding.map (fun (x : Outstanding) => if x.id == msg then { x with tries := x.tries + 1, retry := false } else x)
     (({ s with mesh := { s.mesh with outstanding := l } } : State).inc R.GL_MESH_STAT_RETRIES 0 1).send (.mesh o.targets o.msg)).go

/-- Effect of CREDIT_RETURN: an endpoint consumes a reserved-class message; one that waits for the credit goes, while this instance
holds the Gate (R53, R375, R376). -/
def execCreditReturn (endpoint : Nat) (s : State) : Host.Outcome State Fault Refusal :=
  (if s.rd H.GL_SPENT endpoint = 0 then s
  else
    let s1 := s.wr H.GL_SPENT endpoint (s.rd H.GL_SPENT endpoint - 1)
    match s.mesh.waiting.find? (fun (x : Endpoint × MeshMsg) => x.1 == endpointOf endpoint) with
    | none => s1
    | some x =>
      let s2 : State := { s1 with mesh := { s1.mesh with waiting := s.mesh.waiting.erase x } }
      if s.holder then s2.sendRes1 x.2 x.1 else s2).go

/-! ## The boundary -/

/-- Energy of a rail's frame, µJ with 10 fraction bits: 500 ns, or 1,250 ns on the fast RC; below 0 while the rail's current is
(R385, R480). -/
def State.frameEnergy (s : State) (r : Nat) : Int :=
  if s.slowFrames then openDivI (5 * s.railVI r) (2 ^ 13) else openDivI (s.railVI r) (2 ^ 12)

/-- A 64-bit accumulator, or one of `w` bits, moved by a frame's energy. -/
def addEnergy (w acc : Nat) (e : Int) : Nat := ofS w ((acc : Int) + e)

/-- The rails with a fold that is throttled in the frame that ends are marked in the OPEN bank, before the coming frame's levels are
formed (R387). -/
def State.markThrottles (s : State) : State :=
  match s.bankIn 1 with
  | none => s
  | some k =>
    let thr := (railList s.zk4).filter (fun r => (List.range 64).any (fun f => foldPresent s.zk4 f && foldRail s.zk4 f == r
      && s.rd R.GL_THROTTLE_LEVEL f != 0))
    s.wr H.GL_THR_SEEN k (thr.foldl (fun v r => setBit v r true) (s.rd H.GL_THR_SEEN k))

/-- The ledger block at a boundary, a map running or not: energies, FRAMES and the ages (R384, R385, R391). -/
def State.ledgerBoundary (s : State) : State :=
  let s1 := s.rails.foldl (fun t r => t.wr H.GL_ETOT r (addEnergy 74 (t.rd H.GL_ETOT r) (s.frameEnergy r))) s
  let s2 := match s.bankIn 1 with
    | none => s1
    | some k =>
      let n := s1.rd R.GL_BANK_FRAMES_FRAMES k + 1
      let s3 := s.rails.foldl (fun (t : State) r =>
        t.st (s.headerAt k + 0x10 + 8 * r) 8 (addEnergy 64 (s.bankEnergy k r) (s.frameEnergy r))) s1
      (s3.wr R.GL_BANK_FRAMES_FRAMES k n).st (s.headerAt k + 8) 4 n
  (List.range 4).foldl (fun t k => if t.bank k = 2 then t.inc H.GL_CLOSE_AGE k 1 else t) s2

/-- The age of the round in force; a whole grant period without one clears ROUNDS (R393). -/
def State.roundBoundary (s : State) : State :=
  let age := min 8191 (s.rd H.GL_ROUND_AGE 0 + 1)
  (s.wr H.GL_ROUND_AGE 0 age).when (decide (s.grantPeriod ≤ age)) (fun t => t.wr R.GL_STATUS_ROUNDS 0 0)

/-- FLAT_EFF, FOLD_PARAM and REVERT at a boundary (R367–R369). -/
def State.foldParams (s : State) : State :=
  let due := s.bit H.GL_PARAM_DUE 0
  let s1 := (if due then List.range (computeFolds s.zk4) else s.cfolds).foldl (State.flatStep due) s
  (s1.cfolds.foldl State.revertStep s1).wr H.GL_PARAM_DUE 0 0

/-- The grants block at a boundary, after the effective hurdles are known (R368, R369). -/
def State.grantsBoundary (s : State) : State :=
  let s0 : State := { s with mesh := { s.mesh with
    outstanding := s.mesh.outstanding.map (fun (o : Outstanding) => if o.retry then { o with gap := o.gap - 1 } else o) } }
  (if !s.running then s0 else s0.foldParams).roundBoundary.ledgerBoundary

end Sys2Proof.Machine
end

