-- ==== Sys2Proof/Machine/Twin.lean ====
section
/-! DEFINITION. Twin operation: the packets of the twin link (R398–R400), roles and catch-up (R401–R405), the Gate and its
keeper (R406–R410), comparison (R411–R414), verdicts (R415–R418), takeover and hand-over (R419–R426), and the twin's part of a
boundary. -/

namespace Sys2Proof.Machine

/-! ## What the packets carry -/

/-- MAP_DIGEST of a map: CRC-32C of its SIG_R and SIG_S (R400). -/
def digestOf (m : MapImg) : Nat :=
  match m.base.find? (fun r => r.typ == 0x0A01) with
  | some r => crc32c ((r.bytes.drop 8).take 96)
  | none => 0

/-- MAP_DIGEST of the map in force; 0 with none (R400). -/
def State.mapDigest (s : State) : Nat :=
  match s.map.live with
  | none => 0
  | some m => digestOf m

/-- The role is one that may raise the gate (R407). -/
def State.twinReady (s : State) : Bool := s.role == 3 || s.role == 4

/-- STATUS of the present frame (R399). -/
def State.statusPkt (s : State) : StatusPkt :=
  { crcOk := true, frame := s.frame % 2 ^ 32, role := s.role, ready := s.bit R.STATUS_READY 0, mapDigest := s.mapDigest,
    profile := s.rd R.PROFILE_IN_FORCE 0, imageVer := s.rd R.FW_VERSION_VERSION 0,
    thermtripN := !s.bit R.TH_TRIP_NET_LOW 0 }

/-- Phase Driver snapshot: STATE and c_p of the allocated phases, integrator and V_ref of the rails (R399). -/
def State.pdSnapshot (s : State) : PdSnap :=
  { phases := ((List.range 128).filter s.allocated).map (fun p => (p, s.ph p, s.rd R.PD_PH_DUTY_SHARE p)),
    rails := s.rails.map (fun r => (r, s.rd H.PD_INTEG r, s.rd R.PD_RAIL_VREF_VREF r)) }

/-- INPUT of the present frame: the latched phase and rail senses, PMBus readings, own diode conversions, and the digest of the
intents latched at this boundary (R399). -/
def State.inputPkt (s : State) : InputPkt :=
  { crcOk := true,
    phases := ((List.range 128).filter s.allocated).map (fun p => (p, s.rd H.LE_IN_PHASE p, s.bit H.PD_SAMPL p)),
    rails := s.rails.map (fun r => (r, s.rd H.PD_LAT0 r, s.rd H.PD_LAT1 r)),
    pmbus := ((List.range 16).filter (fun k => s.bit R.PLAT_SUP_CFG_EN k && !s.bit R.PLAT_SUP_STAT_STALE k
      && s.bit H.PLAT_GOT k)).map
      (fun k => (k, s.rd R.PLAT_SUP_READ_POUT k)),
    diodes := (s.touched H.TH_DIODE_NEW).map (fun d => (d, s.rd R.TH_DIODE_READING d)),
    digest := s.rd H.BW_DIGEST 0 }

/-- CALC of a slot as the OUTPUT packet carries it: bit 0 inverted by an injection at target 0x6 (R459). -/
def State.sentCalc (s : State) (l : Nat) : Nat :=
  let c := s.rd R.LE_SLOT_OUT_CALC l
  if s.rd H.FLT_INJ_SLOT 0 = l + 1 then setBit c 0 (!bitOf c 0) else c

/-- OUTPUT of the present frame, its CRC inverted by an injection at target 0x5 (R399, R459). -/
def State.outputPkt (s : State) : OutputPkt :=
  { crcOk := !s.injecting 5,
    slots := (s.slots.filter (fun l => s.bit H.LE_NEXT_VALID l)).map (fun l => (l, s.sentCalc l, s.rd H.LE_NEXT_OUT l)),
    throttle := s.folds.map (fun f => (f, s.rd R.GL_THROTTLE_LEVEL f)), tripped := s.bit R.TH_TRIP_LATCHED 0,
    snap := if s.holder then some s.pdSnapshot else none }

/-! ## Catch-up -/

/-- Bytes of the grant and ledger region (R392). -/
def glRegion : Nat := 0x28908

/-- Piece `k` of the catch-up copy (R404): slot `k`, and for its share of the pieces a fold's schedule, parts of the grant and
ledger region and of the golden records, site states, and the percentage copied. -/
def State.copyPiece (s : State) (k : Nat) : List BulkOp :=
  [.slotState k (s.rd R.LE_SLOT_INTEG_INTEG k) (((List.range 4).map (fun j => s.rd H.LE_STATE (4 * k + j))) ++ [s.rd H.LE_GOLD_N k]),
   .storeBytes (s.glBase + 650 * k) (memGetBytes s.store (s.glBase + 650 * k) (min 650 (glRegion - 650 * k))),
   .storeBytes (s.goldAddr k 0) (memGetBytes s.store (s.goldAddr k 0) 512),
   .siteStates (((List.range 6).map (fun j => 6 * k + j)).map (fun x => (x, s.rd R.TH_SITE_STATE x))),
   .progress (100 * (k + 1) / 256)]
  ++ (if k < 64 then
      [.schedule k (s.rd R.BW_FOLD_STAT_LAST_SEQ k) (s.bit H.BW_SEEN k)
        ((s.sched.filter (fun e => e.fold == k && !e.cancelled)).map (fun (e : SchedEntry) =>
          (e.start, e.latched, (⟨0, k, 0, e.tileKind, e.format, e.opclass, e.tiles, e.duration, e.tag, 0, 1⟩ : IntentMsg)))),
       .epoch (s.rd R.GL_EPOCH_EPOCH 0)]
    else [])
  ++ (if k = 255 then [.pdSnap s.pdSnapshot] else [])

/-- The Store bytes that piece `k` of the copy reads. -/
def State.copyReads (s : State) (k : Nat) : List (Nat × Nat) :=
  [(s.glBase + 650 * k, min 650 (glRegion - 650 * k)), (s.goldAddr k 0, 512)]

/-- One piece of the catch-up copy a frame goes to a peer that is JOINING, from the first piece again after the last. An
uncorrectable word starts the copy again (R404, R559). -/
def State.copyStep (s : State) : State :=
  if s.holder && s.rd R.TWIN_STATUS_PEER_ROLE 0 == 1 then
    let k := s.rd H.TWIN_COPY_N 0 % 256
    let s1 := (s.copyReads k).foldl (fun (t : State) (x : Nat × Nat) => t.dmaRead x.1 x.2) s
    if (s.copyReads k).any (fun x => s.poisonedIn x.1 x.2) then s1.wr H.TWIN_COPY_N 0 0
    else ((s.copyPiece k).foldl (fun t o => t.send (.bulk ⟨true, o⟩)) s1).wr H.TWIN_COPY_N 0 ((k + 1) % 256)
  else s.wr H.TWIN_COPY_N 0 0

/-- A copied slot's I, F and P values, and after them how many golden vectors of it are copied (R404, R445). -/
def State.takeSlot (s : State) (slot integ : Nat) (states : List Nat) : State :=
  let s1 := (List.range 4).foldl (fun t j => t.wr H.LE_STATE (4 * slot + j) (states.getD j 0)) (s.wr R.LE_SLOT_INTEG_INTEG slot integ)
  match states[4]? with
  | some n => (s1.wr H.LE_GOLD_N slot (min 4 n)).wrB H.LE_GOLD_CAP slot (decide (n < 4))
  | none => s1

/-- A copied fold schedule (R404). -/
def State.takeSchedule (s : State) (f lastSeq : Nat) (valid : Bool) (es : List (Int × Nat × IntentMsg)) : State :=
  let s1 := { s with sched := s.sched.filter (fun (e : SchedEntry) => e.fold != f) ++ es.map (fun (x : Int × Nat × IntentMsg) =>
    (⟨f, x.1, x.2.2.tileKind, x.2.2.format, x.2.2.opclass, x.2.2.tiles, x.2.2.duration, x.2.2.tag, x.2.1, false⟩ : SchedEntry)) }
  (s1.wr R.BW_FOLD_STAT_LAST_SEQ f lastSeq).wrB H.BW_SEEN f valid

/-- A copied site state (R323, R404). -/
def State.takeSiteState (s : State) (k st : Nat) : State := (s.wr R.TH_SITE_STATE k st).wrB H.TH_SFAIL k (st == 3)

/-- A Store range that BULK may write: the grant and ledger region or the golden region (R404). -/
def State.copyRange (s : State) (a n : Nat) : Bool :=
  (decide (s.glBase ≤ a) && decide (a + n ≤ s.glBase + glRegion))
    || (decide (4096 * s.rd R.FLT_GOLD_BASE_BASE 0 ≤ a) && decide (a + n ≤ 4096 * s.rd R.FLT_GOLD_BASE_BASE 0 + 0x20000))

/-! ## Phase Driver snapshot -/

/-- A snapshot kept for the next boundary (R413). -/
def State.keepSnap (s : State) (p : PdSnap) : State :=
  let s1 := p.phases.foldl (fun t x => (t.wr H.TWIN_SN_ST x.1 x.2.1).wr H.TWIN_SN_CP x.1 x.2.2) s
  (p.rails.foldl (fun t x => (t.wr H.TWIN_SN_INT x.1 x.2.1).wr H.TWIN_SN_VREF x.1 x.2.2) s1).wr H.TWIN_SN_DUE 0 1

/-- CAUSE of a phase that takes a forwarded state: none unless it is FENCED; the own cause where there is one; else that of the
own FENCE bit or trips, or NO_CONDUCT. The snapshot carries no cause: DESIGN CHOICE, assumption 48. -/
def State.causeFor (s : State) (p st : Nat) : Nat :=
  if st ≠ 5 then 0
  else if s.rd R.PD_PH_STAT_CAUSE p ≠ 0 then s.rd R.PD_PH_STAT_CAUSE p
  else if s.bit R.PD_PH_CTRL_FENCE p then 3
  else if 16 ≤ s.rd H.PD_SCRUN p then 2
  else 1

/-- Phase states and c_p values set, and the ranks and duties formed again (R413, R420). -/
def State.setPhases (s : State) (st cp : Nat → Nat) : State :=
  let s1 := ((List.range 128).filter s.allocated).foldl (fun t p =>
    ((t.wr R.PD_PH_STAT_STATE p (st p)).wr R.PD_PH_STAT_CAUSE p (s.causeFor p (st p))).wr R.PD_PH_DUTY_SHARE p (cp p)) s
  s1.rails.foldl (fun t r => (t.rerank r).refreshDuty r) s1

/-- The kept snapshot is loaded at a boundary (R413, R420). -/
def State.loadSnap (s : State) : State :=
  if s.bit H.TWIN_SN_DUE 0 && !s.bit R.PD_STATUS_DRIVING 0 then
    let s1 := s.setPhases (fun p => s.rd H.TWIN_SN_ST p) (fun p => s.rd H.TWIN_SN_CP p)
    let s2 := s1.rails.foldl (fun t r => (t.wr H.PD_INTEG r (s.rd H.TWIN_SN_INT r)).wr R.PD_RAIL_VREF_VREF r
      (s.rd H.TWIN_SN_VREF r)) s1
    let s3 := (List.range 128).foldl (fun t p => (t.wr H.TWIN_LD_ST p (s.rd H.TWIN_SN_ST p)).wr H.TWIN_LD_CP p
      (s.rd H.TWIN_SN_CP p)) s2
    (s3.wr H.TWIN_LD_HAVE 0 1).wr H.TWIN_SN_DUE 0 0
  else s

/-! ## OUTPUT -/

/-- At LE cycle 482 the frame's outputs are staged and sent, with a piece of catch-up behind them. A twin sends none in a frame
that it has marked UNCOMPARED, so that neither instance compares it (R62, R399, R404, R411: DEDUCED, assumption 59). -/
def execOutputStage (s : State) : Host.Outcome State Fault Refusal :=
  (if s.running then
    let l := s.rd R.FLT_INJ_INDEX 0
    let flip := s.injecting 6 && decide (l < 256) && s.bit H.LE_NEXT_VALID l
    let s1 := s.when flip (fun t => (t.wr H.FLT_INJ_SLOT 0 (l + 1)).injected)
    let s2 := s1.wr H.LE_OUT_STAGED 0 1
    (s2.when (!s.bit H.TWIN_UNC 0) (fun t =>
      (t.send (.twinOutput s1.outputPkt)).when (s1.injecting 5) State.injected)).copyStep
  else s.copyStep).go

/-- A slot's own staged result in this frame: CALC and the output. -/
def State.ownOut (s : State) (l : Nat) : Option (Nat × Nat) :=
  if s.bit H.LE_NEXT_VALID l then some (s.sentCalc l, s.rd H.LE_NEXT_OUT l) else none

/-- The result of a slot in a packet. -/
def outSlot (p : OutputPkt) (l : Nat) : Option (Nat × Nat) := (p.slots.find? (fun x => x.1 == l)).map (fun x => x.2)

/-- A mismatch of a slot (R415). -/
def State.mismatch (s : State) (p : OutputPkt) (l : Nat) : State :=
  let target := match outSlot p l with | some x => x.2 | none => s.rd R.LE_SLOT_OUT_OUT l
  let s1 := s.when (!s.holder && s.mode l == 1 && hasInteg (s.slotProg l)) (fun t =>
    (((t.wr H.LE_PRESET_DUE l 1).wr H.LE_PRESET_REG l 1).wr H.LE_PRESET_T l target).wr H.LE_FRESH l 1)
  let s2 := ((((s1.wr R.TWIN_DIFF_SLOT l 1).inc R.TWIN_CNT_MISMATCHES 0 1).wr R.TWIN_LAST_KIND 0 1).wr R.TWIN_LAST_INDEX 0 l).wr
    R.TWIN_LAST_FRAME_FRAME 0 s.frame
  let s3 := (s2.wr H.LE_GOLD_NEW l 0).wr H.LE_GOLD_VEC l 0
  let fresh := !s.bit H.FLT_TEST_PEND l
  (s3.fault 0x00 l 0 (s.rd H.FLT_INJ_SLOT 0 == l + 1)).when fresh (fun t => (t.wr H.LE_GOLD_TWIN l 1).wr H.TWIN_PEER_GOLD l 0)

/-- The slots of one frame are compared (R411, R415, R445). -/
def State.compareSlots (s : State) (p : OutputPkt) : State :=
  let ls := s.slots.filter (fun l => (s.ownOut l).isSome || (outSlot p l).isSome)
  let bad := ls.filter (fun l => s.ownOut l != outSlot p l)
  let s1 := bad.foldl (fun t l => t.mismatch p l) s
  let s2 := ls.foldl State.goldCommit s1
  if bad.isEmpty then s2.inc R.TWIN_SYNC_CLEAN 0 1 else s2.wr R.TWIN_SYNC_CLEAN 0 0

/-- The holder's values apply at the next boundary; its packet is the one with a snapshot (R261, R399, R411). -/
def State.takeHolderOut (s : State) (p : OutputPkt) : State :=
  if s.forwarded && p.snap.isSome then
    p.slots.foldl (fun t x => t.when (s.slots.contains x.1) (fun u => (u.wr H.LE_FWD_OUT x.1 x.2.2).wr H.LE_FWD x.1 1)) s
  else s

/-- The holder's snapshot beside the own Phase Driver state (R413). -/
def State.compareSnap (s : State) (p : OutputPkt) : State :=
  match p.snap with
  | some x =>
    if s.holder ∨ s.role = 0 then s
    else
      let own := s.pdSnapshot
      let s1 := s.keepSnap x
      if own = x ∨ s.role = 1 then s1 else s1.inc R.TWIN_SYNC_PD_RESYNC 0 1
  | none => s

/-- Effect of TWIN_OUTPUT_PACKET (R398, R411, R413, R415). -/
def execTwinOutputPacket (p : OutputPkt) (s : State) : Host.Outcome State Fault Refusal :=
  (if !p.crcOk then s.inc R.TWIN_LINK_CRC_ERR 0 1
  else
    let compared := s.peerCompares && !s.bit H.TWIN_UNC 0 && s.bit H.LE_OUT_STAGED 0 && !s.bit H.TWIN_CMP 0
    let s1 := if compared then (s.compareSlots p).wr H.TWIN_CMP 0 1 else s
    (s1.takeHolderOut p).compareSnap p).go

/-! ## STATUS and the other paths -/

/-- Role to be taken at the next boundary; DETACHED wins over JOINING. -/
def State.nextRole (s : State) (r : Nat) : State :=
  if s.rd H.TWIN_NEXT_ROLE 0 = 1 then s else s.wr H.TWIN_NEXT_ROLE 0 (r + 1)

/-- The peer rejoin test of a lost holder: PASS when it reaches STANDBY (R442). -/
def State.rejoinTest (s : State) (role : Nat) : State :=
  if s.bit H.FLT_TEST_PEND 0x36A then
    (s.when (role == 1) (fun t => t.wr H.TWIN_REJOIN 0 1)).when (role == 3) (fun t => t.wr H.FLT_RESULT 0x36A 1)
  else s

/-- Effect of TWIN_STATUS_PACKET (R399–R403, R408, R414, R428). -/
def execTwinStatusPacket (p : StatusPkt) (s : State) : Host.Outcome State Fault Refusal :=
  (if !p.crcOk then s.inc R.TWIN_LINK_CRC_ERR 0 1
  else
    let gap := s.bit H.TWIN_LONG_GAP 0
    let eqF := s.frame % 2 ^ 32 == p.frame % 2 ^ 32
    let eqP := p.mapDigest == s.mapDigest && p.profile == s.rd R.PROFILE_IN_FORCE 0
    let s2 := (((((s.wr H.TWIN_ST_AGE 0 0).wr R.TWIN_STATUS_LINK_UP 0 1).wr R.TWIN_STATUS_PEER_ROLE 0 p.role).wr
      R.TWIN_DIGEST_PEER_MAP 0 p.mapDigest).wr H.TWIN_PEER_VER 0 p.imageVer).wrB R.TWIN_STATUS_VERSION_SKEW 0
        (p.imageVer % 2 ^ 32 != s.rd R.FW_VERSION_VERSION 0)
    let s3 := (s2.clearElems [H.TWIN_LONG_GAP, H.TWIN_LD_RAISED, H.TWIN_PS_RAISED] 0).wrB H.TWIN_FR_EQ 0 eqF
    let s4 := (s3.wrB H.TWIN_PROF_EQ 0 eqP).when p.ready (fun t =>
      (t.wr H.TWIN_RDY_AGE 0 0).wr R.TWIN_STATUS_PEER_READY 0 1)
    let s5 := s4.when (p.role == 4) (fun t => t.wr R.TWIN_STATUS_GATE_PEER 0 1)
    let mid := s.role == 1 || s.role == 2 || s.role == 3
    let s6 := s5.when (mid && (gap || (s.role != 1 && !eqF) || (s.bit H.TWIN_PROF_EQ 0 && !eqP))) (fun t => t.nextRole 1)
    (s6.when (mid && p.role == 0) (fun t => t.nextRole 0)).rejoinTest p.role).go

/-- Effect of MESH_TWIN_STATUS: the mesh copy of the peer's status (R40, R422). -/
def execMeshTwinStatus (_p : MeshStatus) (s : State) : Host.Outcome State Fault Refusal :=
  (((s.wr H.TWIN_MESH_AGE 0 0).wr R.TWIN_STATUS_MESH_UP 0 1).wr H.TWIN_PS_RAISED 0 0).go

/-- Effect of PEER_READY_LAPSE (R408). -/
def execPeerReadyLapse (s : State) : Host.Outcome State Fault Refusal :=
  (if s.rd H.TWIN_RDY_AGE 0 = 3 then s.wr R.TWIN_STATUS_PEER_READY 0 0 else s).go

/-- Effect of LINK_DOWN (R422). -/
def execLinkDown (s : State) : Host.Outcome State Fault Refusal :=
  (if s.role == 3 && s.rd H.TWIN_ST_AGE 0 == 3 && s.rd H.TWIN_MESH_AGE 0 != 3 && !s.bit H.TWIN_LD_RAISED 0 then
    (s.wr H.TWIN_LD_RAISED 0 1).fault 0x0E 0 1
  else s).go

/-- Effect of PEER_SILENT (R422). -/
def execPeerSilent (s : State) : Host.Outcome State Fault Refusal :=
  (if s.role == 3 && s.rd H.TWIN_ST_AGE 0 == 3 && s.rd H.TWIN_MESH_AGE 0 == 3 && s.bit R.TWIN_STATUS_GATE_PEER 0
      && !s.bit H.TWIN_PS_RAISED 0 then (s.wr H.TWIN_PS_RAISED 0 1).fault 0x0E 1 1
  else s).go

/-! ## INPUT -/

/-- TOL_I and TOL_V as they act (R428). -/
def State.tolI (s : State) : Nat := max 1 (s.rd R.TWIN_TOL_TOL_I 0)
def State.tolV (s : State) : Nat := max 1 (min 50 (s.rd R.TWIN_TOL_TOL_V 0))

/-- The consecutive count of a channel's differences (R412). -/
def State.idCount (s : State) (ch : Nat) (differs : Bool) : State :=
  s.wr H.TWIN_IDC ch (if differs then min 8 (s.rd H.TWIN_IDC ch + 1) else 0)

/-- The own latched set is compared with the packet; a rail channel by the mean of its two conversions (R65, R412). -/
def State.compareInputs (s : State) (p : InputPkt) : State :=
  let s1 := (p.phases.filter (fun x => s.allocated x.1)).foldl (fun t x =>
    t.idCount x.1 (decide (32 * s.tolI < 10 * (s.rdS H.LE_IN_PHASE x.1 - toS 16 x.2.1).natAbs))) (s.wr H.TWIN_ID_SEEN 0 1)
  (p.rails.filter (fun x => decide (x.1 < 14))).foldl (fun t x =>
    t.idCount (128 + s.rd R.PD_RAIL_CFG_SENSE_CH x.1)
      (decide (65536 * s.tolV < 1000 * ((s.rd H.LE_IN_RAILV x.1 : Int) - (openDiv (x.2.1 + x.2.2) 2 : Int)).natAbs))) s1

/-- At a boundary the counts of input differences end where the frame that ends was not compared (R412). -/
def State.idStep (s : State) : State :=
  if s.bit H.TWIN_ID_SEEN 0 then s.wr H.TWIN_ID_SEEN 0 0 else s.clearFld H.TWIN_IDC

/-- What the blocks form from the frame's input set (R56, R62, R218, R222, R243, R260, R268, R368, R380). -/
def State.formStep (s : State) : State :=
  let s1 := s.when (s.clocked 3) State.bwCurrents
  let s2 := s1.when (s.clocked 0) (fun t => t.latchPower.limiter)
  let s3 := s2.when (s.clocked 1) (fun t => t.rails.foldl State.railBoundary (t.wrB R.PD_STATUS_UNDRIVEN 0 (!t.running)))
  let s4 := (s3.when (s.clocked 4) State.thermalBoundary).when (s.clocked 2) State.crookBoundary
  s4.effectives.when (s.clocked 5) (fun t => (t.markThrottles.throttles false).grantsBoundary)

/-- A twin that follows forms the frame from the set that it has: its own latched one, or the holder's (R52, R405). -/
def State.formLate (s : State) : State := (s.when s.follows State.runSet).formStep.wr H.TWIN_FORM_DUE 0 0

/-- The packet's set replaces the own latched one for this frame (R52, R405, R646). -/
def State.takeInputs (s : State) (p : InputPkt) : State :=
  let s1 := (p.phases.filter (fun x => s.allocated x.1)).foldl (fun t x => (t.wr H.LE_IN_PHASE x.1 x.2.1).wrB H.PD_SAMPL x.1 x.2.2)
    ((s.wr H.TWIN_OWN_SET 0 0).wr H.TWIN_IN_DIG 0 p.digest)
  let s2 := (p.rails.filter (fun x => s.rails.contains x.1)).foldl (fun t x => t.latchRail x.1 x.2.1 x.2.2) s1
  let s3 := (p.pmbus.filter (fun x => decide (x.1 < 16))).foldl (fun t x =>
    (((t.wr R.PLAT_SUP_READ_POUT x.1 x.2).wr R.PLAT_SUP_STAT_STALE x.1 0).wr H.PLAT_GOT x.1 1).wr H.LE_IN_PMB x.1 (pmbInput x.2))
    (s2.wrAll H.PLAT_GOT (List.range 16) (fun _ => 0))
  (p.diodes.filter (fun x => decide (x.1 < 64) && !s.diodeOwn x.1)).foldl (fun t x => t.diodeReading x.1 x.2) s3

/-- Effect of TWIN_INPUT_PACKET: a twin that follows and has not yet formed the frame computes it on the packet; in SHADOW and STANDBY
it compares its own set (R52, R398, R402, R405, R412). -/
def execTwinInputPacket (p : InputPkt) (s : State) : Host.Outcome State Fault Refusal :=
  (if !p.crcOk then s.inc R.TWIN_LINK_CRC_ERR 0 1
  else if s.follows && s.bit H.TWIN_FORM_DUE 0 then
    ((s.when (s.role != 1) (fun t => t.compareInputs p)).takeInputs p).formLate
  else s).go

/-- A frame that is still to be formed is formed on the own set, and marked UNCOMPARED in SHADOW and STANDBY (R405). -/
def State.settleForm (s : State) : State :=
  if s.bit H.TWIN_FORM_DUE 0 then
    (s.when (s.role == 2 || s.role == 3) (fun t =>
      ((t.wr H.TWIN_UNC 0 1).inc R.TWIN_LINK_UNCOMPARED 0 1).wr R.TWIN_SYNC_CLEAN 0 0)).formLate
  else s

/-- Effect of INPUT_NOT_WHOLE (R405). -/
def execInputNotWhole (s : State) : Host.Outcome State Fault Refusal := s.settleForm.go

/-- Effect of LOOP_WINDOW, at LE cycle 32: a frame without an INPUT packet by then runs on the own set (R160, R405). -/
def execLoopWindow (s : State) : Host.Outcome State Fault Refusal := s.settleForm.loopWindow.go

/-- Effect of BELLWETHER_EVAL, from LE cycle 32 (R294, R405). -/
def execBellwetherEval (errs : List WeightErr) (s : State) : Host.Outcome State Fault Refusal := (s.settleForm.evalNets errs).go

/-- Fault source of a channel, by its INDIFF index: PHASE_SENSE below 128, RAIL_SENSE from there (R430). -/
def channelSource (ch : Nat) : Nat := if ch < 128 then srcBase 0x04 + ch else srcBase 0x03 + (ch - 128)

/-- INDIFF index of a sense source. -/
def sourceChannel (n : Nat) : Option Nat :=
  match srcKind n with
  | some (0x04, c) => some c
  | some (0x03, c) => some (128 + c)
  | _ => none

/-- Effect of INPUT_DISAGREEMENT: a channel has differed in 8 consecutive frames (R412, R417). -/
def execInputDisagreement (rail : Bool) (ch : Nat) (s : State) : Host.Outcome State Fault Refusal :=
  (let i := if rail then 128 + ch else ch
   if decide (ch < if rail then 14 else 128) && s.rd H.TWIN_IDC i == 8 then
    let s1 := (((s.wr H.TWIN_IDC i 0).wr R.TWIN_INDIFF_CH i 1).wr R.TWIN_LAST_KIND 0 4).wr R.TWIN_LAST_INDEX 0 ch
    let s2 := (s1.wr R.TWIN_LAST_FRAME_FRAME 0 s.frame).raise (channelSource i) 1
    ((s2.wr H.TWIN_ID_TEST i 1).wr H.TWIN_PEERV i 0).send (.bulk ⟨true, .loopback (channelSource i)⟩)
  else s).go

/-- Both verdicts of a disagreeing channel are known: its failure is marked, and a failed holder channel hands over to a
standby whose channel passes (R417). -/
def State.channelVerdicts (s : State) (i : Nat) (own : Nat) : State :=
  let peer := s.rd H.TWIN_PEERV i
  if !s.bit H.TWIN_ID_TEST i || own == 0 || peer == 0 then s
  else
    let s1 := s.wr H.TWIN_ID_TEST i 0
    if own = 2 then
      (s1.wr H.TWIN_MARKED i 1).when (s.holder && peer == 1 && s.rd R.TWIN_STATUS_PEER_ROLE 0 == 3)
        (fun t => t.wr H.TWIN_VSWAP 0 1)
    else s1

/-- Own verdict of a source's latest test, while none is pending (R468). -/
def State.ownVerdict (s : State) (n : Nat) : Nat := if s.bit H.FLT_TEST_PEND n then 0 else s.rd R.FLT_SRC_STATE_VERDICT n

/-! ## BULK -/

/-- The test of a source is one that only the Gate holder carries out: of the phases the pulse test, which a FENCED one has, and not
the loopback of a derated one (R430, R433). -/
def State.holderTest (s : State) (n : Nat) : Bool :=
  match srcKind n with
  | some (k, i) => [0x06, 0x07, 0x0B, 0x0C, 0x0D, 0x12, 0x13, 0x14].contains k || (k == 0x01 && s.ph i == 5)
  | none => false

/-- The peer's verdict of a source (R417, R433). -/
def State.peerVerdict (s : State) (n : Nat) (v : TestVerdict) : State :=
  match sourceChannel n with
  | some i => (s.wr H.TWIN_PEERV i (verdictCode v)).channelVerdicts i (s.ownVerdict n)
  | none => if s.holderTest n && !s.holder && s.bit H.FLT_TEST_PEND n then s.wr H.FLT_RESULT n (verdictCode v) else s

/-- What one BULK packet does. -/
def State.takeBulk (s : State) (op : BulkOp) : State :=
  let joining := s.role == 1
  let follows := s.role == 1 || s.role == 2 || s.role == 3
  match op with
  | .slotState l i st => if joining && decide (l < 256) then (s.takeSlot l i st).when (l == 0) (fun t => t.wr H.TWIN_COPY_SEEN 0 1) else s
  | .pdSnap p => if follows then s.keepSnap p else s
  | .schedule f q v es => if joining && decide (f < 64) then s.takeSchedule f q v es else s
  | .siteStates l => if joining then l.foldl (fun t x => t.takeSiteState x.1 x.2) s else s
  | .storeBytes a b => if follows && s.copyRange a b.length then s.stBytes a b else s
  | .progress n => if joining && s.bit H.TWIN_COPY_SEEN 0 then s.wr R.TWIN_SYNC_COPY_PCT 0 (min 100 n) else s
  | .epoch e => if follows then s.wr R.GL_EPOCH_EPOCH 0 e else s
  | .roundDigest c => if s.bit R.TWIN_STATUS_VERSION_SKEW 0 then s
      else (s.wr H.GL_PRDIG 0 (2 ^ 32 + c % 2 ^ 32)).compareDigests H.GL_RDIG H.GL_PRDIG 0 2 State.roundValues
  | .bankDigest k c => if s.bit R.TWIN_STATUS_VERSION_SKEW 0 || decide (4 ≤ k) then s
      else (s.wr H.GL_PBDIG k (2 ^ 32 + c % 2 ^ 32)).compareDigests H.GL_BDIG H.GL_PBDIG k 3 State.bankValues
  | .takeRound l => if follows then l.foldl (fun t x => t.when (decide (x.1 < 4096)) (fun u => u.st (u.grantAt x.1) 4 x.2)) s
      else s
  | .golden l b => if s.bit H.LE_GOLD_TWIN l then s.wr H.TWIN_PEER_GOLD l (if b then 1 else 2) else s
  | .verdict n v => s.peerVerdict n v
  | .loopback n => match sourceChannel n with
      | some i => ((s.startTest n).wr H.TWIN_ID_TEST i 1).wr H.TWIN_PEERV i 0
      | none => s
  | .diode d t => if decide (d < 64) && !s.diodeOwn d then s.diodeReading d (ofS 16 t) else s

/-- Effect of TWIN_BULK_PACKET (R398, R404, R414, R417, R433, R446). -/
def execTwinBulkPacket (p : BulkPkt) (s : State) : Host.Outcome State Fault Refusal :=
  (if !p.crcOk then s.inc R.TWIN_LINK_CRC_ERR 0 1 else s.takeBulk p.op).go

/-- Effect of CATCH_UP_COMPLETE (R401, R403, R404). -/
def execCatchUpComplete (s : State) : Host.Outcome State Fault Refusal :=
  (if s.role == 1 && s.rd R.TWIN_SYNC_COPY_PCT 0 == 100 && s.bit H.TWIN_FR_EQ 0 then s.nextRole 2 else s).go

/-- Effect of CLEAN_FRAMES_REACHED (R403, R428). -/
def execCleanFramesReached (s : State) : Host.Outcome State Fault Refusal :=
  (if s.role == 2 && decide (max 64 (s.rd R.TWIN_CTRL_CLEAN_FRAMES 0) ≤ s.rd R.TWIN_SYNC_CLEAN 0) then s.nextRole 3
  else s).go

/-! ## The Gate -/

/-- The drivers are disabled and every net floats to mid, those of unallocated phases too (R33, R407, R410). -/
def State.driversOff (s : State) : State :=
  ((List.range (phaseCount s.zk4)).foldl (fun t p => t.pwm p .mid 0 0) s).wr R.PD_STATUS_DRIVING 0 0

/-- The drivers are enabled: unallocated outputs are held low from then on (R33, R227, R238, R407). -/
def State.driversOn (s : State) : State :=
  ((List.range (phaseCount s.zk4)).filter (fun p => s.ph p == 7)).foldl (fun t p => t.pwm p .low 0 0)
    (s.wr R.PD_STATUS_DRIVING 0 1)

/-- The keeper drops the gate for a cause that is no hand-over: DETACHED at the drop (R403, R408). -/
def State.dropGate (s : State) : State :=
  let s1 := ((s.driversOff.stopSending.wr R.TWIN_STATUS_GATE_OWN 0 0).wr R.TWIN_STATUS_ROLE 0 0).wr R.STATUS_READY 0 0
  (s1.wr H.TWIN_LOSS 0 1).clearElems [H.TWIN_NEXT_ROLE, H.TWIN_SWAP_DUE, H.TWIN_VSWAP, H.TWIN_DET_AFTER, H.TWIN_LOST, R.TWIN_SYNC_CLEAN,
    R.TWIN_CMD_SWAP, R.TWIN_CMD_DETACH] 0

/-- A reset of the Loop Engine, the twin block or the block above the Phase Driver is asserted (R408). -/
def State.upperReset (s : State) : Bool :=
  s.bit R.RST_STAT_LE 0 || s.bit R.RST_STAT_TWIN 0 || s.bit R.RST_STAT_BLOCK 0

/-- Effect of KEEPER_GATE_DROP. The loss of boundaries or of the PWM time base is met outside the state (R408, R409). -/
def execKeeperGateDrop (cause : KeeperCause) (s : State) : Host.Outcome State Fault Refusal :=
  (if s.holder && s.bit R.TWIN_STATUS_PEER_READY 0 then
    (match cause with
     | .lostFrames => if 2 ≤ s.rd H.TWIN_LOST 0 then s.dropGate else s
     | .reset => if s.upperReset then s.dropGate else s
     | .noBoundary => s.dropGate
     | .timeBase => s.dropGate)
  else s).go

/-- Effect of GATE_PEER_FALL (R420). -/
def execGatePeerFall (s : State) : Host.Outcome State Fault Refusal := (s.wr R.TWIN_STATUS_GATE_PEER 0 0).go

/-- Effect of GATE_RAISE (R407, R410). -/
def execGateRaise (s : State) : Host.Outcome State Fault Refusal :=
  (if s.twinReady && !s.bit R.TWIN_STATUS_GATE_PEER 0 && !s.bit R.TH_TRIP_NET_LOW 0 then s.wr R.TWIN_STATUS_GATE_OWN 0 1
  else s).go

/-- Effect of GATE_RESAMPLE: Zoskare B backs off from a high gate_peer; otherwise the drivers are enabled, and in a takeover
the phases take the state of the last snapshot loaded (R407, R420). -/
def execGateResample (s : State) : Host.Outcome State Fault Refusal :=
  (if !s.bit R.TWIN_STATUS_GATE_OWN 0 || s.bit R.PD_STATUS_DRIVING 0 || !s.twinReady then s
  else if s.ident.instB && s.bit R.TWIN_STATUS_GATE_PEER 0 then s.wr R.TWIN_STATUS_GATE_OWN 0 0
  else
    (if s.role == 3 && s.bit H.TWIN_LD_HAVE 0 then
      s.setPhases (fun p => s.rd H.TWIN_LD_ST p) (fun p => s.rd H.TWIN_LD_CP p)
    else s).driversOn).go

/-! ## Verdicts and commands -/

/-- The golden verdict of a slot acts (R416). -/
def State.goldAct (s : State) (l : Nat) (holderPass standbyPass : Bool) : State :=
  let hold (t : State) : State := (t.wr H.LE_HOLD_GOLD l 1).wr H.LE_REL_FAULT l 0
  let s1 := (s.wr H.LE_GOLD_TWIN l 0).wr H.FLT_RESULT l (if holderPass && standbyPass then 1 else 2)
  match holderPass, standbyPass with
  | true, true => s1
  | true, false => if s.holder then s1 else s1.nextRole 0
  | false, true =>
    let peer := if s.holder then s.rd R.TWIN_STATUS_PEER_ROLE 0 else s.role
    if peer = 3 then (if s.holder then (s1.wr H.TWIN_VSWAP 0 1).wr H.TWIN_DET_AFTER 0 1 else s1)
    else hold s1
  | false, false => hold s1

/-- Effect of GOLDEN_VERDICT: the results of both instances are known (R416, R446). -/
def execGoldenVerdict (slot : Nat) (holderPass standbyPass : Bool) (s : State) : Host.Outcome State Fault Refusal :=
  (let own := if s.holder then holderPass else standbyPass
   let peer := if s.holder then standbyPass else holderPass
   if s.bit H.LE_GOLD_TWIN slot && s.bit H.FLT_TEST_PEND slot && s.rd H.LE_GOLD_J slot == 5
      && s.bit H.LE_GOLD_OK slot == own && s.rd H.TWIN_PEER_GOLD slot == (if peer then 1 else 2) then
    s.goldAct slot holderPass standbyPass
  else s).go

/-- A golden verdict is pending (R415, R418, R428). -/
def State.verdictPending (s : State) : Bool := (s.touched H.FLT_TEST_PEND).any (fun n => decide (n < 0x100))

/-- The peer can take the Gate: it is in STANDBY (R423). -/
def State.peerStandby (s : State) : Bool := s.holder && s.rd R.TWIN_STATUS_PEER_ROLE 0 == 3

/-- Effect of SWAP (R423, R428). -/
def execSwap (w : WCtx) (s : State) : Host.Outcome State Fault Refusal :=
  (s.judged w R.TWIN_CMD_SWAP 0 1 s.peerStandby (fun t => t.stageCmd w R.TWIN_CMD_SWAP 0 .swap)).go

/-- Effect of TWIN_ATTACH (R403, R428). -/
def execTwinAttach (w : WCtx) (s : State) : Host.Outcome State Fault Refusal :=
  (s.judged w R.TWIN_CMD_ATTACH 0 1 (s.role == 0) (fun t => t.stageCmd w R.TWIN_CMD_ATTACH 0 .attach)).go

/-- DETACH may be written (R425). -/
def State.mayDetach (s : State) : Bool := s.role == 1 || s.role == 2 || s.role == 3 || s.peerStandby

/-- Effect of TWIN_DETACH (R425, R428). -/
def execTwinDetach (w : WCtx) (s : State) : Host.Outcome State Fault Refusal :=
  (s.judged w R.TWIN_CMD_DETACH 0 1 s.mayDetach (fun t => t.stageCmd w R.TWIN_CMD_DETACH 0 .detach)).go

/-! ## At the boundary -/

/-- Frames ended without staged outputs (R408). -/
def State.keeperCount (s : State) : State :=
  if s.holder && !s.bit H.LE_OUT_STAGED 0 then s.wr H.TWIN_LOST 0 (min 3 (s.rd H.TWIN_LOST 0 + 1))
  else s.wr H.TWIN_LOST 0 0

/-- A role taken: below STANDBY the gate is held low, and the instance is not READY (R402, R403). -/
def State.setRole (s : State) (r : Nat) : State :=
  let s1 := (s.wr R.TWIN_STATUS_ROLE 0 r).wr R.TWIN_SYNC_CLEAN 0 0
  let s2 := s1.when (r == 1) (fun t => t.clearElems [R.TWIN_SYNC_COPY_PCT, H.TWIN_ATTACH_REQ, H.TWIN_LOSS,
    R.TWIN_CMD_ATTACH, H.TWIN_COPY_SEEN] 0)
  s2.when (decide (r < 3)) (fun t => (t.driversOff.wr R.TWIN_STATUS_GATE_OWN 0 0).wr R.STATUS_READY 0 0)

/-- A committed DETACH (R425). -/
def State.commitDetach (s : State) : State :=
  if s.peerStandby then (s.wr H.TWIN_SWAP_DUE 0 1).wr H.TWIN_DET_AFTER 0 1
  else (s.when (s.role == 1 || s.role == 2 || s.role == 3) (fun t => t.setRole 0)).wr R.TWIN_CMD_DETACH 0 0

/-- A DETACHED instance that is asked to, or that rejoins after a loss, joins a governing peer whose map is its own (R403,
R421). -/
def State.joinStep (s : State) : State :=
  s.when (s.role == 0 && (s.bit H.TWIN_ATTACH_REQ 0 || (s.bit R.TWIN_CTRL_AUTO_REJOIN 0 && s.bit H.TWIN_LOSS 0))
      && s.rd R.TWIN_STATUS_PEER_ROLE 0 == 4 && s.rd R.TWIN_DIGEST_PEER_MAP 0 == s.mapDigest && s.map.live.isSome
      && !s.upperReset) (fun t => t.setRole 1)

/-- A due role change takes effect (R403). -/
def State.roleStep (s : State) : State :=
  let n := s.rd H.TWIN_NEXT_ROLE 0
  let s1 := s.wr H.TWIN_NEXT_ROLE 0 0
  if n ≠ 0 ∧ s.role ≠ 4 then s1.setRole (n - 1) else s1.joinStep

/-- The keeper and gate-interlock proof test of a planned hand-over has failed: the TWIN source is raised, the holder keeps the Gate, and
the standby is DETACHED (R464, R507: which instance stays DETACHED is DEDUCED, assumption 61). -/
def State.gateTestFailed (s : State) : State :=
  if s.holder then
    (((s.clearElems [H.TWIN_VSWAP, H.TWIN_SWAP_DUE, R.TWIN_CMD_SWAP, R.TWIN_CMD_DETACH] 0).wr H.TWIN_DET_AFTER 0 0).fault 0x0E 2 1)
  else if s.role = 3 then (s.fault 0x0E 2 1).setRole 0
  else s

/-- A planned hand-over commits at step 8, unless the peer has left STANDBY; one that SWAP or DETACH asks for waits while a verdict
is pending, one that a verdict orders does not. A peer that is not READY leaves the gate with its holder. `gateFail`: the proof test
of a planned hand-over at this boundary has failed (R408, R409, R416–R418, R423, R464). -/
def State.handOver (s : State) (gateFail : Bool) : State :=
  let due := s.bit H.TWIN_VSWAP 0 || (s.bit H.TWIN_SWAP_DUE 0 && !s.verdictPending)
  if gateFail && (due || s.role == 3) then s.gateTestFailed
  else if !due then s
  else
    let s1 := s.clearElems [H.TWIN_VSWAP, H.TWIN_SWAP_DUE, R.TWIN_CMD_SWAP, R.TWIN_CMD_DETACH] 0
    if s.peerStandby && s.bit R.TWIN_STATUS_PEER_READY 0 then
      let s2 := ((s1.driversOff.stopSending.wr R.TWIN_STATUS_GATE_OWN 0 0).wr R.TWIN_STATUS_ROLE 0 3).wr R.TWIN_SYNC_CLEAN 0 0
      (s2.when (s.bit H.TWIN_DET_AFTER 0) (fun t => t.wr H.TWIN_NEXT_ROLE 0 1)).wr H.TWIN_DET_AFTER 0 0
    else s1.wr H.TWIN_DET_AFTER 0 0

/-- A driving standby governs from this boundary; what it has staged itself is dropped, so that the presets start from the old
holder's last forwarded outputs (R201, R417, R420, R421). -/
def State.takeover (s : State) : State :=
  if s.role == 3 && s.bit R.TWIN_STATUS_GATE_OWN 0 && s.bit R.PD_STATUS_DRIVING 0 then
    let old := s.rd R.TWIN_STATUS_PEER_ROLE 0
    let s1 := ((s.clearFld H.LE_NEXT_VALID).clearElems [H.TWIN_NEXT_ROLE, H.TWIN_SN_DUE] 0).wr R.TWIN_STATUS_ROLE 0 4
    let s2 := s1.slots.foldl (fun t l => t.when (s.mode l == 1 && hasInteg (s.slotProg l)) (fun u =>
      ((u.wr H.LE_PRESET_DUE l 1).wr H.LE_PRESET_REG l 0).wr H.LE_FRESH l 1)) s1
    let s3 := (s2.inc R.TWIN_CNT_TAKEOVERS 0 1).wr R.GL_EPOCH_EPOCH 0 ((s.rd R.GL_EPOCH_EPOCH 0 + 1) % 2 ^ 32)
    let s4 := (s3.touched H.TWIN_MARKED).foldl (fun t i => t.when (decide (i < 128)) (fun u => u.deratePhase i)) s3
    let s5 := s4.throttles true
    let s6 := s5.folds.foldl (State.threshStep · true) s5
    let s7 := (List.range 12).foldl (fun t m => t.when (ctrlPresent s.zk4 m) (fun u =>
      u.guard (.band m (u.rd R.TH_BAND_STAT_BAND m)) [.ctrl m])) s6
    let s8 := s7.sendFrameSync.when (old != 3) (fun t =>
      (t.wr H.TWIN_REJOIN 0 0).fault 0x0E 2 1)
    s8.tally 3 3 1 (b2n s.ident.instB + 256 * old) (s8.rd R.TWIN_CNT_TAKEOVERS 0)
  else s

/-- The ages of the peer's paths at a boundary, and what a silence of 2 frames shows (R403, R408, R428). -/
def State.twinAges (s : State) : State :=
  let up (f : Fld) (t : State) : State := t.wr f 0 (min 3 (s.rd f 0 + 1))
  let s1 := up H.TWIN_MESH_AGE (up H.TWIN_RDY_AGE (up H.TWIN_ST_AGE s))
  let s2 := s1.when (s1.rd H.TWIN_ST_AGE 0 == 3) (fun t =>
    ((t.wr R.TWIN_STATUS_LINK_UP 0 0).wr R.TWIN_STATUS_PEER_ROLE 0 7).wr H.TWIN_LONG_GAP 0 1)
  s2.when (s1.rd H.TWIN_MESH_AGE 0 == 3) (fun t => t.wr R.TWIN_STATUS_MESH_UP 0 0)

/-- What an instance sends at LE cycles 0–31, and over the mesh (R40, R399). -/
def State.twinSend (s : State) : State :=
  let s1 := (s.send (.twinStatus s.statusPkt)).send (.mesh [.zoskare] (.twinStatus s.role (s.bit R.STATUS_READY 0)))
  let s2 := if s.holder then s1.send (.twinInput s1.inputPkt) else s1
  (s2.clearFld H.TH_DIODE_NEW).clearElems [H.TWIN_UNC, H.TWIN_CMP, H.FLT_INJ_SLOT] 0

end Sys2Proof.Machine
end

