-- ==== Sys2Proof/Machine/Faults.lean ====
section
/-! DEFINITION. The faults block: probes (R444), verdicts and the life of a source (R435–R441), targeted tests (R442–R446),
escalation (R450), Warden commands (R465, R668), injection (R458, R459) and the proof tests of R464. -/

namespace Sys2Proof.Machine

/-! ## Probes -/

/-- Endpoint that a probe test of a source reaches (R430, R444). -/
def probeTarget (n : Nat) : Option Endpoint :=
  match srcKind n with
  | some (0x07, i) => some (.engine i)
  | some (0x0B, i) => some (.dispatcher i)
  | some (0x0C, i) => some (.router i)
  | some (0x0D, i) => some (.ctrl i)
  | _ => none

/-- Frames since the start of a pending probe test (R442). -/
def State.probeAge (s : State) (n : Nat) : Nat := 8 - s.rd H.FLT_TEST_LEFT n

/-- Effect of PROBE_REPLY: the reply to probe `token` of the test of `source`, within 2 frames of its PROBE (R442, R444). -/
def execProbeReply (token source : Nat) (s : State) : Host.Outcome State Fault Refusal :=
  (if s.bit H.FLT_TEST_PEND source && (probeTarget source).isSome && decide (token < s.rd H.FLT_PROBES source)
      && decide (s.probeAge source ≤ token + 2) then
    let got := setBit (s.rd H.FLT_PROBE_GOT source) token true
    (s.wr H.FLT_PROBE_GOT source got).when (got == 15 && s.rd H.FLT_RESULT source == 0)
      (fun t => t.wr H.FLT_RESULT source 1)
  else s).go

/-- A boundary of a pending probe test: the next PROBE goes out, an ordinary-class message that the mesh completes, and a PROBE without its reply for 2 frames fails the test
(R442, R444). -/
def State.probeStep (s : State) (n : Nat) : State :=
  match probeTarget n with
  | none => s
  | some e =>
    if !s.holder then s
    else
      let age := s.probeAge n
      let s1 := if 1 ≤ age ∧ age ≤ 4 then
          (s.sendOrd (.probe (age - 1) n) [e]).wr H.FLT_PROBES n age
        else s
      let lost := (List.range 4).any (fun j => decide (j + 3 ≤ age) && !bitOf (s.rd H.FLT_PROBE_GOT n) j)
      s1.when (lost && s.rd H.FLT_RESULT n == 0) (fun t => t.wr H.FLT_RESULT n 2)

/-! ## Verdicts -/

/-- A verdict acts, and goes to the peer where the test is the holder's alone or a channel's (R417, R433, R435). -/
def State.giveVerdict (s : State) (n : Nat) (v : TestVerdict) : State :=
  let s1 := s.applyVerdict n v
  let tell := s.peerCompares && ((s.holder && s.holderTest n) || (sourceChannel n).isSome)
  let s2 := if tell then s1.send (.bulk ⟨true, .verdict n v⟩) else s1
  match sourceChannel n with
  | some i => s2.channelVerdicts i (verdictCode v)
  | none => s2

/-- Effect of TEST_VERDICT (R435, R442). -/
def execTestVerdict (source : Nat) (verdict : TestVerdict) (s : State) : Host.Outcome State Fault Refusal :=
  (if s.bit H.FLT_TEST_PEND source then
    (match s.heldVerdict source verdict with
     | some v => s.giveVerdict source v
     | none => s)
  else s).go

/-- Effect of TEST_TIME_LIMIT: NOT_RUN; for the peer rejoin test FAIL where the old holder has entered JOINING (R442). -/
def execTestTimeLimit (source : Nat) (s : State) : Host.Outcome State Fault Refusal :=
  (if s.bit H.FLT_TEST_PEND source && s.rd H.FLT_TEST_LEFT source == 0 then
    (s.when (decide (source < 256)) (fun t => t.wr H.LE_GOLD_TWIN source 0)).giveVerdict source
      (if source = 0x36A ∧ s.bit H.TWIN_REJOIN 0 = true then .fail else .notRun)
  else s).go

/-- Effect of QUIET_EXPIRY: a QUIET source clears, a LASTING one is tested again (R435, R436, R453). -/
def execQuietExpiry (source : Nat) (s : State) : Host.Outcome State Fault Refusal :=
  (if s.rd R.FLT_SRC_STATE_QUIET_LEFT source ≠ 0 then s
  else if s.rd R.FLT_SRC_STATE_STATE source = 3 ∧ !s.holding source then s.toClear source
  else if s.rd R.FLT_SRC_STATE_STATE source = 2 then (s.startTest source).enterState source 1
  else s).go

/-- What a source's reaching SEVERE adds (R441). -/
def State.severeAct (s : State) (n : Nat) : State :=
  match srcKind n with
  | some (0x00, i) => (s.wr H.LE_HOLD_SEV i 1).wr H.LE_REL_FAULT i 0
  | some (0x01, i) => if s.bit R.PD_PH_STAT_DERATED i then s.fencePhase i 1 else s
  | some (0x14, i) => if s.bit H.TH_SFAIL i then s.wr R.TH_SITE_STATE i 3 else s
  | _ => s

/-- Effect of ESCALATION_SEVERE (R435, R441, R450, R451). -/
def execEscalationSevere (source : Nat) (s : State) : Host.Outcome State Fault Refusal :=
  (if s.bit H.FLT_SEV_DUE source && decide (s.rd R.FLT_SRC_STATE_STATE source < 4) then
    ((((s.wr H.FLT_SEV_DUE source 0).wr R.FLT_SRC_STATE_QUIET_LEFT source 0).enterState source 4).srcRecord source).severeAct
      source
  else s).go

/-- Effect of WINDOW_EXPIRY (R450). -/
def execWindowExpiry (source : Nat) (s : State) : Host.Outcome State Fault Refusal :=
  (if s.rd R.FLT_SRC_COUNT_WIN_LEFT source = 0 then s.wr R.FLT_SRC_STATE_EVENTS source 0 else s).go

/-! ## Warden commands -/

/-- A source that ZK_FLT_CMD may name (R430, R465). -/
def State.mayCommand (s : State) (n : Nat) : Bool :=
  srcPresent s.zk4 n && s.rd R.FLT_SRC_STATE_STATE n != 5

/-- ZK_FLT_CMD stored until it has acted (R465). -/
def State.putCommand (s : State) (action n : Nat) : State := (s.wr R.FLT_CMD_ACTION 0 action).wr R.FLT_CMD_SOURCE 0 n

/-- Effect of CLEAR_SOURCE: ACTION 0b01 written (R435, R465). -/
def execClearSource (w : WCtx) (source : Nat) (s : State) : Host.Outcome State Fault Refusal :=
  (s.judgedAt w (R.FLT_CMD_ACTION.word 0) R.FLT_CMD_ACTION 0 (s.rd R.FLT_CMD_ACTION 0 == 1 && s.rd R.FLT_CMD_SOURCE 0 == source)
    (s.mayCommand source) (fun t => (t.putCommand 1 source).stage w (.clearSource source))).go

/-- Effect of RUN_SOURCE_TEST: ACTION 0b10 written (R465, R668). -/
def execRunSourceTest (w : WCtx) (source : Nat) (s : State) : Host.Outcome State Fault Refusal :=
  (s.judgedAt w (R.FLT_CMD_ACTION.word 0) R.FLT_CMD_ACTION 0 (s.rd R.FLT_CMD_ACTION 0 == 2 && s.rd R.FLT_CMD_SOURCE 0 == source)
    (s.mayCommand source) (fun t => (t.putCommand 2 source).stage w (.runTest source))).go

/-- A committed CLEAR SOURCE: its test ends, its window closes (R435, R451, R454). -/
def State.commitClear (s : State) (n : Nat) : State :=
  let s1 := s.wr R.FLT_CMD_ACTION 0 0
  let st := s.rd R.FLT_SRC_STATE_STATE n
  if 1 ≤ st ∧ st ≤ 4 then
    (((s1.endTest n).toClear n).wr R.FLT_SRC_STATE_EVENTS n 0).wr R.FLT_SRC_COUNT_WIN_LEFT n 0
  else s1

/-- A committed run of a source's test (R668). -/
def State.commitRun (s : State) (n : Nat) : State :=
  let s1 := s.wr R.FLT_CMD_ACTION 0 0
  match s.rd R.FLT_SRC_STATE_STATE n with
  | 0 => s1.startTest n
  | 2 => (s1.startTest n).enterState n 1
  | 3 => (s1.startTest n).enterState n 1
  | 4 => s1.startTest n
  | _ => s1

/-- Effect of REJECT_CLR (R465). -/
def execRejectClr (w : WCtx) (s : State) : Host.Outcome State Fault Refusal :=
  (s.judged w R.FLT_CMD_REJECT_CLR 0 1 true (fun t => t.wr R.FLT_REJECT_COUNT 0 0)).go

/-! ## Injection -/

/-- Factory test mode (R458). -/
def State.factory (s : State) : Bool := s.bit H.FLT_PSC_ANSWER 0 && !s.ident.fieldLock

/-- First byte of the injection area, after the golden region (R445). -/
def State.injArea (s : State) : Nat := 4096 * s.rd R.FLT_GOLD_BASE_BASE 0 + 0x20000

/-- A Store address lies in the injection area of 4 KiB (R459). -/
def State.inInjArea (s : State) (a : Nat) : Bool := decide (s.injArea ≤ a) && decide (a < s.injArea + 4096)

/-- ZK_FLT_INJ may be written with a target (R458, R459). -/
def State.mayInject (s : State) (q : Requester) (target : Nat) : Bool :=
  s.warden q && (!s.zk4 || s.factory) && decide (1 ≤ target) && decide (target ≤ 7)
    && (decide (3 ≤ target) || s.inInjArea (4 * s.rd R.FLT_INJ_ADDR_ADDR 0))

/-- Effect of FAULT_INJECT_ARM: ZK_FLT_INJ written (R458, R459). -/
def execFaultInjectArm (w : WCtx) (arm : Bool) (target index count : Nat) (s : State) : Host.Outcome State Fault Refusal :=
  (s.judgedAt w (R.FLT_INJ_ARM.word 0) R.FLT_INJ_ARM 0
    (s.rd R.FLT_INJ_COUNT 0 == count && s.rd R.FLT_INJ_INDEX 0 == index && s.rd R.FLT_INJ_TARGET 0 == target
      && s.rd R.FLT_INJ_ARM 0 == b2n arm)
    (s.mayInject w.req target) (fun t =>
      t.stageAll w ([(R.FLT_INJ_COUNT, count), (R.FLT_INJ_INDEX, index), (R.FLT_INJ_TARGET, target),
        (R.FLT_INJ_ARM, b2n arm)].map (fun x => .field x.1 0 x.2)))).go

/-! ## Proof tests -/

/-- Effect of PROOF_TEST_SC_PERIODIC: the comparator of a FALLOW or FENCED phase is tested (R464). -/
def execProofTestScPeriodic (phase : Nat) (ok : Bool) (s : State) : Host.Outcome State Fault Refusal :=
  (if !ok && decide (phase < 128) && (s.ph phase == 3 || s.ph phase == 5) then
    (if s.ph phase = 3 then s.fencePhase phase 1 else (s.wr R.PD_PH_STAT_CAUSE phase 1).fault 0x01 phase 1)
  else s).go

/-- A diode fails its proof test: the clamp offset of R329 applies (R464). -/
def State.diodeProofFail (s : State) (ch : Nat) : State :=
  ((s.wr R.TH_DIODE_FAILED ch 1).wrAll R.TH_PAD_STAT_DIODE_FAIL (s.diodePads ch) (fun _ => 1)).fault 0x05 ch 1

/-- Effect of PROOF_TEST_DIODE_PERIODIC (R464). -/
def execProofTestDiodePeriodic (ch : Nat) (ok : Bool) (s : State) : Host.Outcome State Fault Refusal :=
  (if !ok && s.diodeOwn ch then s.diodeProofFail ch else s).go

/-- Effect of PROOF_TEST_SITE_PERIODIC: the sites of a paddock that are in judgement get the site reference check, each on one
of its next sweeps (R347, R464). -/
def execProofTestSitePeriodic (paddock : Nat) (s : State) : Host.Outcome State Fault Refusal :=
  (((s.padSites paddock).filter (fun k => s.rd R.TH_SITE_STATE k == 1)).foldl (fun t k =>
    (t.wr H.TH_REF_DUE k 1).wr H.TH_PROOF k 1) s).go

/-! ## At the boundary -/

/-- Loop of a domain (R475). -/
def loopOf (d : Nat) : Nat := match d with | 0 => 1 | 1 => 1 | 2 => 2 | 3 => 2 | 4 => 0 | _ => 3

/-- A source is eligible as the loops' reference: 0 REC, 1 XB, 2 XA, 3 FRC, 4 TWIN (R470, R474). -/
def State.eligible (s : State) (src : Nat) : Bool :=
  match src with
  | 0 => s.bit R.CLK_CTRL_REC_EN 0 && s.bit H.CLK_TRAINED 0
  | 1 => s.bit R.CLK_CTRL_XB_EN 0 && s.bit R.CLK_STATUS_XB_AMP_OK 0 && !s.bit H.CLK_CNT_BAD 1
  | 2 => s.bit R.CLK_CTRL_XA_EN 0 && s.bit R.CLK_STATUS_XA_AMP_OK 0 && !s.bit H.CLK_CNT_BAD 2
  | 3 => !s.bit R.CLK_STATUS_FRC_BAD 0
  | 4 => s.bit R.TWIN_STATUS_LINK_UP 0 && !s.bit H.CLK_CNT_BAD 4
  | _ => false

/-- The loop of a domain has locked to an eligible reference (R442, R472). -/
def State.loopLocked (s : State) (d : Nat) : Bool :=
  s.bit R.CLK_STATUS_LOCK (loopOf d) && !s.bit R.CLK_STATUS_HOLDOVER 0 && s.eligible (s.rd R.CLK_STATUS_REF 0)

/-- Frames left of a pending test: a re-count that sees its loop locked, which FLT_PROBES notes, has 16 frames from then on; the limit
of a restart check stands while the hart's reset is held (R442). -/
def State.testTick (s : State) (n : Nat) : State :=
  let left := s.rd H.FLT_TEST_LEFT n
  match srcKind n with
  | some (0x0F, d) =>
    if s.rd H.FLT_PROBES n = 0 ∧ s.loopLocked d = true then (s.wr H.FLT_PROBES n 1).wr H.FLT_TEST_LEFT n 16
    else s.wr H.FLT_TEST_LEFT n (left - 1)
  | some (0x09, k) => s.wr H.FLT_TEST_LEFT n (if s.bit R.RST_STAT_HART k then s.testLimit 0x09 k else left - 1)
  | _ => (s.wr H.FLT_TEST_LEFT n (left - 1)).probeStep n

/-- QUIET_LEFT of a source at a boundary (R436). -/
def State.quietTick (s : State) (n : Nat) : State :=
  match s.rd R.FLT_SRC_STATE_STATE n with
  | 2 => s.wr R.FLT_SRC_STATE_QUIET_LEFT n (s.rd R.FLT_SRC_STATE_QUIET_LEFT n - 1)
  | 3 => s.wr R.FLT_SRC_STATE_QUIET_LEFT n
      (if s.holding n then s.quietOf n else s.rd R.FLT_SRC_STATE_QUIET_LEFT n - 1)
  | _ => s

/-- The faults block's counters at a boundary; `ms` when a millisecond has passed (R436, R442, R450). -/
def State.faultTicks (s : State) (ms : Bool) : State :=
  let s1 := (s.touched R.FLT_SRC_STATE_STATE).foldl State.quietTick s
  let s2 := (s1.touched H.FLT_TEST_PEND).foldl State.testTick s1
  if ms then (s2.touched R.FLT_SRC_COUNT_WIN_LEFT).foldl (fun t n =>
    t.wr R.FLT_SRC_COUNT_WIN_LEFT n (t.rd R.FLT_SRC_COUNT_WIN_LEFT n - 1)) s2
  else s2

end Sys2Proof.Machine
end

