-- ==== Sys2Proof/Machine/Clocks.lean ====
section
/-! DEFINITION. Clock sources and references (R469–R474), domains and fallback (R475–R483), switches (R485–R488), the clock
registers with rows of their own (R489, R490, R494). -/

namespace Sys2Proof.Machine

/-! ## References -/

/-- REC_OK shows whether REC is eligible (R494). -/
def State.showRec (s : State) : State := s.wrB R.CLK_STATUS_REC_OK 0 (s.eligible 0)

/-- The mux takes a reference, under holdover (R472). -/
def State.switchRef (s : State) (r : Nat) : State :=
  if s.rd R.CLK_STATUS_REF 0 = r then s
  else
    (((s.wr R.CLK_STATUS_REF 0 r).wr R.CLK_STATUS_HOLDOVER 0 1).inc R.CLK_CNT_REF_SWITCHES 0 1).tally 5 1 2 r 0

/-- The mux takes the highest eligible source; with none it stays (R470, R472). -/
def State.takeHighest (s : State) : State :=
  match [0, 1, 2, 3].find? (fun k => s.eligible k) with
  | some k => s.switchRef k
  | none => s

/-- The instance follows the peer's clock (R474). -/
def State.onTwinClock (s : State) : Bool := s.role == 2 || s.role == 3

/-- Effect of REFERENCE_LOST: a source loses eligibility; where it is the reference, the mux switches (R470, R472, R474). -/
def execReferenceLost (src : Nat) (s : State) : Host.Outcome State Fault Refusal :=
  (if 4 < src ∨ src = 3 then s
  else
    let s1 := (match src with
      | 0 => s.wr H.CLK_TRAINED 0 0
      | k => s.wr H.CLK_CNT_BAD k 1).showRec
    if s.rd R.CLK_STATUS_REF 0 = src then s1.takeHighest else s1).go

/-- Effect of RELOCK_DONE: the loops have relocked to the reference (R472). -/
def execRelockDone (s : State) : Host.Outcome State Fault Refusal := (s.wr R.CLK_STATUS_HOLDOVER 0 0).go

/-- Fields of a crystal: 0 A, 1 B. -/
def xEn (x : Nat) : Fld := if x = 0 then R.CLK_CTRL_XA_EN else R.CLK_CTRL_XB_EN
def xAmp (x : Nat) : Fld := if x = 0 then R.CLK_STATUS_XA_AMP_OK else R.CLK_STATUS_XB_AMP_OK
def xFail (x : Nat) : Fld := if x = 0 then R.CLK_STATUS_XA_START_FAIL else R.CLK_STATUS_XB_START_FAIL
/-- Source code of a crystal (R469). -/
def xSrc (x : Nat) : Nat := if x = 0 then 2 else 1

/-- Effect of CRYSTAL_AMPLITUDE_PASS (R471). -/
def execCrystalAmplitudePass (x : Nat) (s : State) : Host.Outcome State Fault Refusal :=
  (if x < 2 ∧ s.bit (xEn x) 0 = true ∧ s.bit H.CLK_XIDLE x = false then
    ((s.wr (xAmp x) 0 1).wr (xFail x) 0 0).wr H.CLK_CNT_BAD (xSrc x) 0
  else s).go

/-- Effect of CRYSTAL_START_TIMEOUT (R471). -/
def execCrystalStartTimeout (x : Nat) (s : State) : Host.Outcome State Fault Refusal :=
  (if x < 2 ∧ s.bit (xEn x) 0 = true ∧ s.bit (xAmp x) 0 = false then (s.wr (xFail x) 0 1).wr H.CLK_XIDLE x 1 else s).go

/-- Effect of CRYSTAL_RESTART (R471). -/
def execCrystalRestart (x : Nat) (s : State) : Host.Outcome State Fault Refusal :=
  (if x < 2 ∧ s.bit (xEn x) 0 = true then s.wr H.CLK_XIDLE x 0 else s).go

/-- Effect of CRYSTAL_DETECTOR_FAIL: the crystal is restarted, and its loss as the reference acts (R471, R472). -/
def execCrystalDetectorFail (x : Nat) (s : State) : Host.Outcome State Fault Refusal :=
  (if x < 2 then
    let s1 := (s.wr (xAmp x) 0 0).wr H.CLK_XIDLE x 0
    if s.rd R.CLK_STATUS_REF 0 = xSrc x then s1.takeHighest else s1
  else s).go

/-- The last count windows of a crystal that have been within TOL end its count mark (R470; that AUTO_RETURN tells of them is
DEDUCED, assumption 43). -/
def State.countedGood (s : State) (src : Nat) : State := s.when (src == 1 || src == 2) (fun t => t.wr H.CLK_CNT_BAD src 0)

/-- Effect of AUTO_RETURN: a source eligible for RET_MS ms, above the reference in the order, is taken (R473). -/
def execAutoReturn (src : Nat) (s : State) : Host.Outcome State Fault Refusal :=
  (let s1 := s.countedGood src
   if s.bit R.CLK_CTRL_AUTO_RET 0 && !s.onTwinClock && s1.eligible src && decide (src < s.rd R.CLK_STATUS_REF 0) then s1.switchRef src
   else s).go

/-- Effect of HOST_LINK_TRAINED (R469, R470). -/
def execHostLinkTrained (s : State) : Host.Outcome State Fault Refusal := ((s.wr H.CLK_TRAINED 0 1).showRec).go

/-- The reference follows the role at a boundary: TWIN in SHADOW and STANDBY, else the instance's own (R474). -/
def State.refStep (s : State) : State :=
  let s1 := s.when (!s.bit R.TWIN_STATUS_LINK_UP 0) (fun t => t.wr H.CLK_CNT_BAD 4 0)
  if s.onTwinClock && s.eligible 4 then s1.switchRef 4
  else if s.rd R.CLK_STATUS_REF 0 = 4 then s1.takeHighest
  else s1

/-! ## Fallback -/

/-- Domains that switch with a domain: the frame group together (R475). -/
def clockGroup (d : Nat) : List Nat := if d < 2 then [0, 1] else [d]

/-- Domains of a group begin a switch (R485, R486). -/
def State.beginSwitch (s : State) (ds : List Nat) (forced coarse : Bool) : State :=
  ds.foldl (fun t d => ((t.wr H.CLK_SW d 1).wrB H.CLK_SW_FORCED d forced).wrB H.CLK_SW_COARSE d coarse) s

/-- The affected domain, with its group, switches to the fast RC (R478, R488). While FRC_BAD is 1 the fault alone is raised
(R477), and so it is where the other member of the frame group has begun the group's switch (R488). -/
def State.fallBack (s : State) (d : Nat) (forced : Bool) : State :=
  if 6 ≤ d ∨ s.bit R.CLK_STATUS_MON_BAD d = true then s
  else if s.bit R.CLK_STATUS_ON_FRC d then
    s.when (decide (d < 2) && s.bit H.CLK_SW d && !s.bit H.FLT_TEST_PEND (0x36C + d)) (fun t => t.fault 0x0F d 1)
  else if s.bit R.CLK_STATUS_FRC_BAD 0 then s.fault 0x0F d 1
  else
    let ds := clockGroup d
    let s1 := ds.foldl (fun t k => (t.wr R.CLK_STATUS_ON_FRC k 1).wr R.CLK_NMI_FALLBACK k 1) s
    ((((s1.beginSwitch ds forced false).nmiAll).inc R.CLK_CNT_FALLBACKS 0 1).fault 0x0F d 1)

/-- Effect of CLOCK_EDGE_LOST (R476, R478). -/
def execClockEdgeLost (dom : Nat) (s : State) : Host.Outcome State Fault Refusal := (s.fallBack dom true).go

/-- Effect of FREQUENCY_FAILURE (R476, R478). -/
def execFrequencyFailure (dom : Nat) (s : State) : Host.Outcome State Fault Refusal := (s.fallBack dom false).go

/-- Effect of FRC_BAD (R470, R477). -/
def execFrcBad (s : State) : Host.Outcome State Fault Refusal :=
  (let s1 := (s.wr R.CLK_STATUS_FRC_BAD 0 1).fault 0x0F 0 1
   if s.rd R.CLK_STATUS_REF 0 = 3 then s1.takeHighest else s1).go

/-- Effect of SLOW_BAD (R477). -/
def execSlowBad (s : State) : Host.Outcome State Fault Refusal := (s.wr R.CLK_STATUS_SLOW_BAD 0 1).go

/-- The re-count of a domain's group has passed: no source of the group is without a PASS since it left CLEAR (R482). -/
def State.recounted (s : State) (d : Nat) : Bool :=
  (clockGroup d).all (fun k =>
    s.rd R.FLT_SRC_STATE_STATE (0x36C + k) == 0
      || (!s.bit H.FLT_TEST_PEND (0x36C + k) && s.rd R.FLT_SRC_STATE_VERDICT (0x36C + k) == 1))

/-- The domain may return to its loop, RETURN_AUTO apart; a frame group with a failed monitor waits for CLEAR (R482, R483). -/
def State.mayReturn (s : State) (d : Nat) : Bool :=
  decide (d < 6) && s.bit R.CLK_STATUS_ON_FRC d && s.bit R.CLK_STATUS_LOCK (loopOf d)
    && s.eligible (s.rd R.CLK_STATUS_REF 0) && s.recounted d
    && (decide (2 ≤ d) || ([0, 1].all (fun k => !s.bit R.CLK_STATUS_MON_BAD k
        || s.rd R.FLT_SRC_STATE_STATE (0x36C + k) == 0)))

/-- The domain, with its group, returns to its loop (R482, R485). The fast RC is then the stopped source, so the slow RC alone gives
the lost time, unless SLOW_BAD leaves it to the fast RC (R477, R487). -/
def State.doReturn (s : State) (d : Nat) : State :=
  let ds := clockGroup d
  (ds.foldl (fun t k => t.wr R.CLK_STATUS_ON_FRC k 0) s).beginSwitch ds false (!s.bit R.CLK_STATUS_SLOW_BAD 0)

/-- Effect of DOMAIN_RETURN (R482). -/
def execDomainReturn (dom : Nat) (s : State) : Host.Outcome State Fault Refusal :=
  (if s.bit R.CLK_CTRL_RETURN_AUTO 0 && s.mayReturn dom then s.doReturn dom else s).go

/-- Effect of DOMAIN_SWITCH_DONE: the domain, with its group, runs again; the lost time is recorded (R485, R487). -/
def execDomainSwitchDone (dom lostNs : Nat) (s : State) : Host.Outcome State Fault Refusal :=
  (if decide (dom < 6) && s.bit H.CLK_SW dom then
    let forced := s.bit H.CLK_SW_FORCED dom
    let coarse := s.bit H.CLK_SW_COARSE dom
    let ns := min 0x7FFFFFF lostNs
    let s1 := (clockGroup dom).foldl (fun t d => t.clearElems [H.CLK_SW, H.CLK_SW_FORCED, H.CLK_SW_COARSE] d) s
    ((((s1.wrB R.CLK_LOST_FORCED 0 forced).wr R.CLK_LOST_DOMAIN 0 dom).wrB R.CLK_LOST_COARSE 0 coarse).wr R.CLK_LOST_NS 0
      ns).tally 5 1 1 (dom + 8 * b2n forced + 16 * b2n coarse) lostNs
  else s).go

/-- Effect of FORCED_STOP: the stop of a switch under way is forced (R486). -/
def execForcedStop (dom : Nat) (s : State) : Host.Outcome State Fault Refusal :=
  (if decide (dom < 6) && s.bit H.CLK_SW dom then
    ((clockGroup dom).foldl (fun t d => t.wr H.CLK_SW_FORCED d 1) s).wr R.CLK_LOST_FORCED 0 1
  else s).go

/-! ## Registers -/

/-- Effect of GO: ZK_CLK_SWITCH written with GO = 1 and a DOMAIN (R482, R494). -/
def execGo (w : WCtx) (dom : Nat) (s : State) : Host.Outcome State Fault Refusal :=
  (s.judged w R.CLK_SWITCH_GO 0 1 (s.mayReturn dom) (fun t => (t.wr R.CLK_SWITCH_DOMAIN 0 dom).doReturn dom)).go

/-- Bits of ZK_CLK_EN that may be cleared (R490). -/
def State.mayGate (s : State) (v : Nat) : Bool :=
  let old := s.rd R.CLK_EN_EN 0
  let cleared := old - (old &&& v)
  !((s.runEn && cleared != 0) || bitOf cleared 1)

/-- Effect of CLK_EN_WRITE (R489, R490, R494). -/
def execClkEnWrite (w : WCtx) (v : Nat) (s : State) : Host.Outcome State Fault Refusal :=
  (s.judged w R.CLK_EN_EN 0 (v % 2048) (s.mayGate v) (fun t => t.wr R.CLK_EN_EN 0 v)).go

/-- Divider codes as they act: 0b11 acts as 0b00 (R494). -/
def divCode (c : Nat) : Nat := if c % 4 = 3 then 0 else c % 4

/-- HART_DIV and BUS_DIV stored; a domain whose divider moves on its loop switches (R485, R494). -/
def State.putDiv (s : State) (v : Nat) : State :=
  let moved (f : Fld) (c d : Nat) (t : State) : State :=
    t.when (divCode (s.rd f 0) != divCode c && !s.bit R.CLK_STATUS_ON_FRC d) (fun u => u.beginSwitch [d] false false)
  ((moved R.CLK_DIV_BUS_DIV (v / 4) 3 (moved R.CLK_DIV_HART_DIV v 2 s)).wr R.CLK_DIV_BUS_DIV 0 (v / 4)).wr
    R.CLK_DIV_HART_DIV 0 v

/-- Effect of CLK_DIV_WRITE: ZK_CLK_DIV written (R484, R485, R494). -/
def execClkDivWrite (w : WCtx) (v : Nat) (s : State) : Host.Outcome State Fault Refusal :=
  (s.judgedAt w (R.CLK_DIV_HART_DIV.word 0) R.CLK_DIV_HART_DIV 0 (s.carries (R.CLK_DIV_HART_DIV.word 0) v) true (fun t =>
    t.putDiv (v % 16))).go

end Sys2Proof.Machine
end

