-- ==== Sys2Proof/Machine/Resets.lean ====
section
/-! DEFINITION. The reset scopes and their triggers (R491–R495), what stops when ZK_RUN.EN falls (R526), and the restart of
one hart (R586–R590). -/

namespace Sys2Proof.Machine

/-! ## What a scope takes back to reset -/

/-- The state of a block that no register shows, back at its reset values: block `k` in the order of Fields.lean. -/
def State.clearHidden (s : State) (k : Nat) : State := s.clearRange (2 ^ 32 + k * 2 ^ 30) (2 ^ 32 + (k + 1) * 2 ^ 30)

/-- Registers at byte offsets `lo` to `hi - 1`, back at their reset values. -/
def State.clearRegs (s : State) (lo hi : Nat) : State := s.clearRange (8 * lo) (8 * hi)

/-- Fields kept through a change of state: their elements as they stood in `old`. -/
def State.keep (s old : State) (fs : List (Fld × Nat)) : State := fs.foldl (fun t x => t.wr x.1 x.2 (old.rd x.1 x.2)) s

/-- No forecast is valid, and none contributes to a rail's (R297). -/
def State.dropForecasts (s : State) : State :=
  s.clearFlds [R.BW_FOLD_STAT_VALID, R.BW_FOLD_FCAST0_H1, R.BW_FOLD_FCAST0_H2, R.BW_FOLD_FCAST1_H3, R.BW_FOLD_FCAST1_H4,
    R.BW_FOLD_FCAST2_H5, R.BW_FOLD_FCAST2_H6, R.BW_FOLD_FCAST3_H7, R.BW_FOLD_FCAST3_H8, R.BW_RAIL_FCAST_MAX, H.BW_FRAIL,
    H.BW_RISE]

/-- The map no longer runs: EN 0, state IDLE, no slot in force, select ports undriven from now on, no forecast (R162, R260,
R297, R526). -/
def State.stopMap (s : State) : State :=
  let s1 := ((s.clearElems [R.RUN_EN, R.RUN_STATE, R.RUN_LIVE, R.STATUS_RUNNING, R.STATUS_READY, R.PROFILE_PENDING,
    R.LE_STATUS_RUNNING, R.FRAME_STAT_LANE_LOAD, H.GL_START_HOLD, H.TOP_COMMIT_AT, H.TOP_PEER_PASS, H.TOP_OWN_AGE,
    H.TOP_RUN_HOLD, H.TOP_REL_REFUSED, H.TOP_REQ_HELD, H.TOP_PREP_ST] 0).clearFld R.LE_SLOT_PROG_STAGE_COUNT).dropForecasts
  { s1 with
    map := { s1.map with stream := [], last := false, ringFault := false, shadow := none, live := none, recs := [] }
    sched := [], sweeps := [] }

/-- H0's Warden window closes (R542). -/
def State.closeWindow (s : State) : State := s.clearElems [R.WARDEN_OPEN, R.WARDEN_REMAIN] 0

/-- The twin block is reset: role DETACHED. The keeper lets go of the gate first if a peer is ready; the pins stay (R408, R409,
R491). -/
def State.resetTwin (s : State) : State :=
  let s1 := if s.holder && s.bit R.TWIN_STATUS_PEER_READY 0 then s.dropGate else s
  ((((s1.stopSending.clearRegs 0x1C0000 0x1D0000).clearHidden 7).keep s1
    [(R.TWIN_STATUS_GATE_OWN, 0), (R.TWIN_STATUS_GATE_PEER, 0)]).wrB H.TWIN_LOSS 0 (s.holder || s.bit H.TWIN_LOSS 0)).wr
    R.STATUS_READY 0 0

/-- The LE scope: datapath, slot state, sticky flags and capture status (R491). -/
def State.resetLe (s : State) : State :=
  let s1 := if s.holder && s.bit R.TWIN_STATUS_PEER_READY 0 then s.dropGate else s
  (((s1.clearFlds [R.LE_SLOT_MODE_MODE, R.LE_SLOT_MODE_MODE_REQ, R.LE_SLOT_MODE_PLAUS_HOLD, R.LE_SLOT_MODE_PRESETS,
    R.LE_SLOT_OUT_CALC, R.LE_SLOT_OUT_OUT, R.LE_SLOT_INTEG_INTEG, R.LE_SLOT_PLAUS_RUN_CNT, R.LE_SLOT_PLAUS_RESID,
    R.LE_SLOT_CAP_ARM]).clearFlds [R.LE_SLOT_FLAGS_CLIP_LO, R.LE_SLOT_FLAGS_CLIP_HI, R.LE_SLOT_FLAGS_SLEWING, R.LE_SLOT_FLAGS_PLAUS,
    R.LE_SLOT_FLAGS_LUT_CLAMP, R.LE_SLOT_FLAGS_EXP_OVF, R.LE_SLOT_FLAGS_SAT_N, R.LE_SLOT_FLAGS_SAT_P,
    R.LE_SLOT_CAP_STAT_TRIGGERED, R.LE_SLOT_CAP_STAT_DONE, R.LE_SLOT_CAP_STAT_TRIG_IDX, R.LE_SLOT_CAP_STAT_FULL,
    R.LE_SLOT_CAP_STAT_WPTR]).clearHidden 1).stopMap

/-- What a staged change acts on survives a BLOCK reset: the Phase Driver and the faults block keep theirs (R491). -/
def keptAct (a : StagedAct) : Bool :=
  match a with
  | .field f i _ =>
    let o := f.key i / 8
    (decide (0x140000 ≤ o) && decide (o < 0x150000)) || (decide (0x1D0000 ≤ o) && decide (o < 0x1F0000))
  | .reset _ => true
  | .restart _ => true
  | .clearSafe _ => true
  | .phaseFence _ _ => true
  | .clearSource _ => true
  | .runTest _ => true
  | _ => false

/-- The central part of Crook back at reset; the cells, on the dies, go on (R284, R491). -/
def State.resetCrook (s : State) : State :=
  (s.clearRegs 0x150000 0x160000).clearFlds [H.CROOK_REP_STUCK, H.CROOK_EN_SENT, H.CROOK_ECHO_PEND, H.CROOK_ECHO_AGE,
    H.CROOK_DELAYED, H.CROOK_FOLD_MAXC, H.CROOK_PTRIPS, H.CROOK_PEDGES, H.CROOK_CFG_DUE, H.CROOK_THR_DUE, H.CROOK_ECHO_DUE, H.CROOK_SYNC_AGE]

/-- The thermal section back at reset, but for the trip path and the site calibration (R346, R491, R519). -/
def State.resetThermal (s : State) : State :=
  ((s.clearRegs 0x1A0000 0x1B0000).clearHidden 5).keep s [(R.TH_TRIP_LATCHED, 0), (R.TH_TRIP_NET_LOW, 0),
    (R.TH_TRIP_DIODE, 0), (R.TH_TRIP_TEMP, 0), (H.TH_CAL_BASE, 0), (H.TH_CAL_ON, 0)]

/-- What a BLOCK reset leaves in a block that it resets: counts since por_n, the fractions of the shared
accounts, and what holds until a fault source clears: STUCK of a cell, a failed site or diode (R309, R326, R329, R391, R396, R491,
R614). -/
def keptByBlock : List Fld :=
  [R.CROOK_CELL_TRIPS, R.CROOK_CELL_STUCK, R.FW_HART_STAT_RESTARTS, H.GL_ETOT, H.GL_SHARED_RES, H.TH_SFAIL, R.TH_DIODE_FAILED]

/-- The BLOCK scope (R491, R519, R542, R575, R635). -/
def State.resetBlock (s : State) : State :=
  let s1 := (((s.resetTwin.clearRegs 0x110000 0x140000).clearHidden 1).resetCrook.clearRegs 0x160000 0x1A0000).clearHidden 4
  let s2 := ((s1.resetThermal.clearRegs 0x1B0000 0x1C0000).clearHidden 6).clearRegs 0x1F0000 0x200000
  let s3 := ((((s2.clearHidden 10).clearRegs 0x210000 0x220000).clearHidden 12).stopMap.closeWindow.clearElems
    [H.TOP_BOOT_ON, R.STATUS_SAFE_GOV, R.TALLY_STAT_FLUSHING] 0)
  { (s3.keep s (keptByBlock.flatMap (fun f => (s.touched f).map (fun i => (f, i))))) with
    staged := s3.staged.filter (fun x => keptAct x.act)
    mesh := { s3.mesh with outstanding := [], waiting := [] }
    fifo := [], shadows := [], flush := none }

/-- What no reset takes away: the straps, what flash holds, what has been sent, the uses of free values, the commands
waiting. -/
def State.bare (s : State) : State :=
  { State.reset with
    ident := s.ident
    map := { State.reset.map with flash := s.map.flash, image := s.map.image }
    mirror := s.mirror, out := s.out, free := s.free, pending := s.pending }

/-- The fields of a fault source, shown and not. -/
def sourceFields : List Fld :=
  [R.FLT_SRC_STATE_STATE, R.FLT_SRC_STATE_CLASS, R.FLT_SRC_STATE_VERDICT, R.FLT_SRC_STATE_INJECTED, R.FLT_SRC_STATE_EVENTS,
   R.FLT_SRC_STATE_QUIET_LEFT, R.FLT_SRC_COUNT_RECOVERIES, R.FLT_SRC_COUNT_WIN_LEFT, H.FLT_TEST_PEND, H.FLT_TEST_LEFT,
   H.FLT_RESULT]

/-- The POR scope (R345, R468, R491). -/
def State.resetPor (s : State) : State :=
  ((s.bare.keep s [(R.TH_TRIP_LATCHED, 0), (R.TH_TRIP_NET_LOW, 0), (R.TH_TRIP_DIODE, 0), (R.TH_TRIP_TEMP, 0),
    (R.RST_CAUSE_KEEP_PWR, 0)]).keep s (sourceFields.map (fun f => (f, 0x382)))).wr R.RST_CAUSE_POR_PIN 0 1

/-! ## Triggers -/

/-- Effect of KEEP_POWER_UP: everything at reset; a THERMTRIP source that was FATAL comes to CLEAR by it, and RECOVERIES counts that
from its reset value (R435, R491; assumption 28). -/
def execKeepPowerUp (s : State) : Host.Outcome State Fault Refusal :=
  (s.bare.when (s.rd R.FLT_SRC_STATE_STATE 0x382 == 5) (fun t => t.inc R.FLT_SRC_COUNT_RECOVERIES 0x382 1)).go

/-- Effect of POR_ASSERT (R491). -/
def execPorAssert (s : State) : Host.Outcome State Fault Refusal := s.resetPor.go

/-- The BLOCK scope asserts, for a trigger's cause bit. -/
def State.assertBlock (s : State) (cause : Fld) : State := (s.resetBlock.wr R.RST_STAT_BLOCK 0 1).wr cause 0 1

/-- Effect of HOLD_N_LOW, low for `ns` ns: below 20 ns filtered, from 100 ns sure, between them open (R492). -/
def execHoldNLow (ns : Nat) (s : State) : Host.Outcome State Fault Refusal :=
  (if ns < 20 then s
  else if ns < 100 then (if s.freeVal 1 = 1 then s.freeStep.assertBlock R.RST_CAUSE_HOLD else s.freeStep)
  else s.assertBlock R.RST_CAUSE_HOLD).go

/-- The LE, TWIN and HART scopes assert by command (R491, R495). -/
def State.commandLe (s : State) : State := (s.resetLe.wr R.RST_STAT_LE 0 1).wr R.RST_CAUSE_LE_CMD 0 1
def State.commandTwin (s : State) : State := (s.resetTwin.wr R.RST_STAT_TWIN 0 1).wr R.RST_CAUSE_TWIN_CMD 0 1

/-- Effect of RST_LE (R491, R495). -/
def execRstLe (w : WCtx) (s : State) : Host.Outcome State Fault Refusal :=
  (s.judged w R.RST_CMD_LE 0 1 true (fun t => t.stageCmd w R.RST_CMD_LE 0 (.reset 0))).go

/-- Effect of RST_TWIN (R491, R495). -/
def execRstTwin (w : WCtx) (s : State) : Host.Outcome State Fault Refusal :=
  (s.judged w R.RST_CMD_TWIN 0 1 true (fun t => t.stageCmd w R.RST_CMD_TWIN 0 (.reset 1))).go

/-- Effect of RST_BLOCK (R491, R495). -/
def execRstBlock (w : WCtx) (s : State) : Host.Outcome State Fault Refusal :=
  (s.judged w R.RST_CMD_BLOCK 0 1 true (fun t => t.stageCmd w R.RST_CMD_BLOCK 0 (.reset 2))).go

/-! ## Harts -/

/-- HART scope of hart `k`: held until its reset releases (R491, R542). -/
def State.resetHart (s : State) (k : Nat) : State :=
  ((((s.wr R.FW_HART_STAT_STATE k 3).wr R.RST_STAT_HART k 1).inc R.FW_HART_STAT_RESTARTS k 1).clearElems
    [R.FW_HART_STAT_LEVEL, R.FW_HART_STAT_LOAD, R.FW_HART_CTRL_SLEEP_OK, H.FW_LOW_WIN] k).when (k == 0) State.closeWindow

/-- A hart's reset by command, or by the hart itself (R491, R586). -/
def State.commandHart (s : State) (k : Nat) : State := (s.resetHart k).wr R.RST_CAUSE_HART_CMD k 1

/-- Effect of RST_HART (R491, R495). -/
def execRstHart (w : WCtx) (hart : Nat) (s : State) : Host.Outcome State Fault Refusal :=
  (s.judged w R.RST_CMD_HART hart 1 true (fun t => t.stageCmd w R.RST_CMD_HART hart (.reset (4 + hart)))).go

/-- The commanded resets that take effect at a boundary assert once its commits are done, and each bit reads 0 (R15, R495). The
order, the BLOCK scope last: DEDUCED, assumption 55. -/
def State.resetsDue (s : State) : State :=
  let due := s.rd H.RST_DUE 0
  let s1 := s.when (bitOf due 0) (fun t => (t.wr R.RST_CMD_LE 0 0).commandLe)
  let s2 := s1.when (bitOf due 1) (fun t => (t.wr R.RST_CMD_TWIN 0 0).commandTwin)
  let s3 := (List.range 4).foldl (fun (t : State) (k : Nat) =>
    t.when (bitOf due (4 + k)) (fun u => (u.wr R.RST_CMD_HART k 0).commandHart k)) s2
  (s3.when (bitOf due 2) (fun t => (t.wr R.RST_CMD_BLOCK 0 0).assertBlock R.RST_CAUSE_BLOCK_CMD)).wr H.RST_DUE 0 0

/-- The restart check of a hart fails: its test gives FAIL, and the ROM reads the image again (R587, R588). -/
def State.checkFails (s : State) (k : Nat) : State :=
  (((s.wr H.FW_REREAD k 1).wr R.FW_IMAGE_VERIFIED 0 0).wr R.FW_IMAGE_REASON 0 0).when (s.bit H.FLT_TEST_PEND (0x2E8 + k))
    (fun t => t.wr H.FLT_RESULT (0x2E8 + k) 2)

/-- A restart check that still waits for the hart's first KICK fails (R587). -/
def State.noKick (s : State) (k : Nat) : State :=
  (s.when (s.bit H.FW_CRC_OK k) (fun t => t.checkFails k)).wr H.FW_CRC_OK k 0

/-- Effect of WATCHDOG_EXPIRY; the watchdog does not count while the hart sleeps or is held (R586, R587, R590). -/
def execWatchdogExpiry (hart : Nat) (s : State) : Host.Outcome State Fault Refusal :=
  (if decide (hart < 4) && s.rd R.FW_HART_STAT_STATE hart == 0 then
    (((s.noKick hart).resetHart hart).wr R.RST_CAUSE_HART_WDT hart 1).fault 0x09 hart 1
  else s).go

/-- The write comes from hart `k` itself (R586). -/
def isHartK (q : Requester) (k : Nat) : Bool :=
  match q with
  | .hart j => j == k
  | _ => false

/-- The watchdog is kicked; the first kick after a restart check that matched passes the check (R586, R587). -/
def State.kick (s : State) (k : Nat) : State :=
  (s.when (s.bit H.FW_CRC_OK k && s.bit H.FLT_TEST_PEND (0x2E8 + k)) (fun t => t.wr H.FLT_RESULT (0x2E8 + k) 1)).wr H.FW_CRC_OK k 0

/-- Effect of KICK (R586, R587). -/
def execKick (w : WCtx) (hart : Nat) (s : State) : Host.Outcome State Fault Refusal :=
  (s.judged w R.FW_HART_CTRL_KICK hart 1 (isHartK w.req hart) (fun t => t.kick hart)).go

/-- Effect of SELF_RESET (R586). -/
def execSelfReset (w : WCtx) (hart : Nat) (s : State) : Host.Outcome State Fault Refusal :=
  (s.judged w R.FW_HART_CTRL_SELF_RESET hart 1 (isHartK w.req hart) (fun t => t.commandHart hart)).go

/-- The hart that serves a ring runs: H2, or for ring 0 H0 under the safe governor (R517, R518, R589). -/
def State.ringHart (s : State) (r : Nat) : Bool := if s.bit R.STATUS_SAFE_GOV 0 then r == 0 && s.hartUp 0 else s.hartUp 2

/-- Firmware may write a completion to the ring now (R589, R595). -/
def State.mayPost (s : State) (r : Nat) : Bool := !s.cplFull r && s.ringHart r

/-- The ring command that has begun completes: its entry is written and the consumer index moves on (R594, R596). -/
def State.answerCmd (s : State) (r status r0 r1 : Nat) : State :=
  ((s.postCpl r (s.rd H.FW_RING_TAG r) status (s.rd H.FW_RING_OP r) r0 r1).wr R.RING_POS_CMD_HEAD r
    ((s.rd R.RING_POS_CMD_HEAD r + 1) % 65536)).wr H.FW_RING_OP r 0

/-- The ring command that has begun has ended. Its completion waits where the queue is full or the ring's hart is down (R589, R595). -/
def State.finishCmd (s : State) (r status r0 r1 : Nat) : State :=
  if s.mayPost r then s.answerCmd r status r0 r1
  else (((s.wr H.FW_CPL_DUE r 1).wr H.FW_CPL_STATUS r status).wr H.FW_CPL_R0 r r0).wr H.FW_CPL_R1 r r1

/-- A completion that waits is written once it may be (R595). -/
def State.postDue (s : State) (r : Nat) : State :=
  if s.bit H.FW_CPL_DUE r && s.mayPost r then
    (s.wr H.FW_CPL_DUE r 0).answerCmd r (s.rd H.FW_CPL_STATUS r) (s.rd H.FW_CPL_R0 r) (s.rd H.FW_CPL_R1 r)
  else s

/-- The ring's command with this opcode has begun, and has not ended. -/
def State.ringUnderWay (s : State) (r op : Nat) : Bool := s.rd H.FW_RING_OP r == op && !s.bit H.FW_CPL_DUE r

/-- Profile requests of rings complete (R600). -/
def State.profileEnd (s : State) (status : Nat) : State :=
  (s.touched H.FW_RING_OP).foldl (fun (t : State) (r : Nat) =>
    t.when (s.ringUnderWay r 0x20) (fun u => u.finishCmd r status (u.rawWord 0x100030) 0)) s

/-- After a restart of H2, the command at a ring's consumer index completes with ABORTED if it had begun (R596). -/
def State.abortRings (s : State) : State :=
  (s.touched H.FW_RING_OP).foldl (fun (t : State) (r : Nat) =>
    t.when (s.rd H.FW_RING_OP r != 0) (fun u => (u.wr H.FW_CPL_DUE r 0).finishCmd r 8 0 0)) s

/-- A hart starts at ENTRY (R583, R588). -/
def State.startHart (s : State) (k : Nat) : State :=
  (s.wr R.FW_HART_STAT_STATE k 0).when (k == 3) State.drainEvents

/-- A hart starts again after a reset of its own: H1 owes a round before it books a bank, H2 answers what it had begun
(R596, R612). -/
def State.restartHart (s : State) (k : Nat) : State :=
  ((s.startHart k).when (k == 1) (fun t => t.wr H.GL_RESTARTED 0 1)).when (k == 2) State.abortRings

/-- Effect of RESTART_CHECK_DONE: on a match the hart starts. Otherwise the test fails and the image is read again
(R587, R588). -/
def execRestartCheckDone (hart : Nat) (ok : Bool) (s : State) : Host.Outcome State Fault Refusal :=
  (if hart < 4 ∧ s.rd R.FW_HART_STAT_STATE hart = 2 then
    if ok then (s.wr H.FW_CRC_OK hart 1).restartHart hart
    else
      (s.wr R.FW_HART_STAT_STATE hart 3).checkFails hart
  else s).go

/-- Effect of HART_SLEEP (R590). -/
def execHartSleep (hart : Nat) (s : State) : Host.Outcome State Fault Refusal :=
  (if hart < 4 ∧ s.rd R.FW_HART_STAT_STATE hart = 0 ∧ s.bit R.FW_HART_CTRL_SLEEP_OK hart = true then
    s.wr R.FW_HART_STAT_STATE hart 1 else s).go

/-- A sleeping hart wakes (R590). -/
def State.wakeHart (s : State) (k : Nat) : State :=
  if s.rd R.FW_HART_STAT_STATE k = 1 then s.wr R.FW_HART_STAT_STATE k 0 else s

/-- Effect of HART_WAKE (R590). -/
def execHartWake (hart : Nat) (s : State) : Host.Outcome State Fault Refusal :=
  (if hart < 4 then s.wakeHart hart else s).go

/-- Effect of SHED_WINDOW_END: LOAD of the ended window moves the shed level (R613, R614). -/
def execShedWindowEnd (hart load : Nat) (s : State) : Host.Outcome State Fault Refusal :=
  (if 4 ≤ hart then s
  else
    let hi := s.rd R.FW_SHED_SHED_HI 0
    let lo := s.rd R.FW_SHED_SHED_LO 0
    let s1 := s.wr R.FW_HART_STAT_LOAD hart (min 100 load)
    let lev := s.rd R.FW_HART_STAT_LEVEL hart
    if hi ≤ load then (s1.wr R.FW_HART_STAT_LEVEL hart (min 4 (lev + 1))).wr H.FW_LOW_WIN hart 0
    else if load < lo then
      let n := s.rd H.FW_LOW_WIN hart + 1
      if n = 4 then (s1.wr R.FW_HART_STAT_LEVEL hart (lev - 1)).wr H.FW_LOW_WIN hart 0
      else s1.wr H.FW_LOW_WIN hart n
    else s1.wr H.FW_LOW_WIN hart 0).go

/-! ## Release -/

/-- The clock of a domain is stopped by a switch under way (R485, R488). -/
def State.stopped (s : State) (d : Nat) : Bool := s.bit H.CLK_SW d

/-- Effect of RESET_RELEASE: the asserted scopes end, each once the clocks of the domains it affects run: the harts' for a hart, the
LE's for the LE and TWIN scopes, every one for BLOCK. A BLOCK scope makes the block sequence due; a hart whose image is verified goes to
its restart check, also while the image is read again for another (R488, R492, R496, R587, R588). -/
def execResetRelease (s : State) : Host.Outcome State Fault Refusal :=
  (let block := s.bit R.RST_STAT_BLOCK 0 && !(List.range 6).any s.stopped
   let s1 := s.when block (fun t => (t.wr R.RST_STAT_BLOCK 0 0).wr H.RST_SEQ 0 2)
   let s2 := ((List.range 4).filter (fun k => s.bit R.RST_STAT_HART k && !s.stopped 2)).foldl (fun t k =>
     (t.wr R.RST_STAT_HART k 0).when ((s.bit R.FW_IMAGE_VERIFIED 0
         || (!(s.touched H.FW_REREAD).isEmpty && !s.bit H.FW_REREAD k)) && !s.bit R.RST_STAT_BLOCK 0) (fun u => u.wr R.FW_HART_STAT_STATE k 2)) s1
   s2.when (!s.stopped 1) (fun t => t.clearElems [R.RST_STAT_LE, R.RST_STAT_TWIN] 0)).go

end Sys2Proof.Machine
end

