-- ==== Sys2Proof/Machine/Commit.lean ====
section
/-! DEFINITION. What a commit of a fold map or of a profile loads at its boundary: the destinations of R157, the open, apply,
preset and close of R540, and what R178, R201–R204, R445, R448, R510 and R537 add. -/

namespace Sys2Proof.Machine

/-- The three kinds of commit: a map after IDLE or REFUSED, a live reload, a profile switch (R526, R534, R538). -/
inductive CommitKind where
  | first
  | live
  | profile
deriving DecidableEq, Repr

/-! ## Phase Driver -/

/-- CFG and MASK of a rail from its RAIL record (R120, R263). -/
def State.commitRailCfg (s : State) (r : Rec) : State :=
  let k := r.u8 4
  (((((s.wr R.PD_RAIL_CFG_ENABLE k (r.u8 25)).wr R.PD_RAIL_CFG_SENSE_CH k (r.u8 5)).wr R.PD_RAIL_CFG_COUNT k r.phaseCount).wr
    R.PD_RAIL_CFG_MIN_ACTIVE k (r.u8 24)).wr R.PD_RAIL_CFG_FSW k (r.u16 6)).wr R.PD_RAIL_MASK_MASK k r.phaseMask

/-- What the records load in a rail: the fields that a rail without records has at reset (R157). -/
def railDests : List Fld :=
  [R.PD_RAIL_CFG_ENABLE, R.PD_RAIL_CFG_SENSE_CH, R.PD_RAIL_CFG_COUNT, R.PD_RAIL_CFG_MIN_ACTIVE, R.PD_RAIL_CFG_FSW,
   R.PD_RAIL_MASK_MASK, R.PD_RAIL_LIMITS_TRUNC, R.PD_RAIL_LIMITS_SC, R.PD_RAIL_CONT_CONT, R.PD_RAIL_OVERLOAD_OVERLOAD,
   H.PD_SAFE_CONT, H.PD_RAMP_RATE]

/-- What the Phase Driver forms for a rail from its phases, limits and select: all at reset for a rail that has none (R250, R251,
R256, R257, R263). -/
def railForms : List Fld :=
  [R.PD_RAIL_STAT_SAFE_LATCH, R.PD_RAIL_STAT_OVERLOAD, R.PD_RAIL_STAT_TRUNCATING, R.PD_RAIL_STAT_SHED_DEFER, R.PD_RAIL_STAT_SELECT,
   R.PD_RAIL_VREF_TARGET, R.PD_RAIL_CONT_CONT_EFF, R.PD_RAIL_OVERLOAD_MEAN, R.PD_RAIL_CUT_C_SAFE, R.PD_RAIL_CUT_C_OVERLOAD,
   R.PD_RAIL_CUT_C_DERATED, R.PD_RAIL_CUT_C_FENCED, R.PD_RAIL_CUT_CUT, H.PD_OV_CUT, H.PD_OV_RISING, H.PD_OVL_EFF, H.PD_NEWFAIL,
   H.PD_SUM256, H.PD_SG2, H.PD_TRUNC_NOW, H.PD_ALARM_NOW, H.LE_IN_RAILI, H.LE_IN_RAILV, H.LE_IN_TRUNC]

/-- A rail that the new map does not declare: off, and its destinations at reset (R157), with all that is formed from them. -/
def State.dropRail (s : State) (r : Nat) : State :=
  ((((s.when (s.railOn r) (fun t => t.railOff r)).clearElems railDests r).clearElems railForms r).wrAll H.PD_HIST
    ((List.range 256).map (fun k => 256 * r + k)) (fun _ => 0)).wrAll R.PD_SETPOINT_CODE
    ((List.range 32).map (fun k => 32 * r + k)) (fun _ => 0)

/-- A phase under the new RAIL records: allocated to its rail, OFF, or FALLOW on a rail that is up; UNALLOCATED where no
record names it; unchanged where its rail stays (R33, R238, R239). -/
def State.commitPhase (old : State) (rs : List Rec) (s : State) (p : Nat) : State :=
  match rs.find? (fun r => bitOf r.phaseMask p) with
  | some r =>
    let k := r.u8 4
    if old.ph p = 7 ∨ old.rd R.PD_PH_STAT_RAIL p ≠ k then
      (((s.wr R.PD_PH_STAT_RAIL p k).wr R.PD_PH_STAT_STATE p
        (if old.ph p = 5 then 5 else if old.railOn k then 3 else 0)).wr R.PD_PH_DUTY_SHARE p 0).wr R.PD_PH_DUTY_DUTY p 0
    else s
  | none =>
    if old.ph p = 7 then s
    else (s.pwm p .low 0 0).clearElems [R.PD_PH_STAT_STATE, R.PD_PH_STAT_RAIL, R.PD_PH_STAT_RANK, R.PD_PH_STAT_CAUSE,
      R.PD_PH_STAT_DERATED, R.PD_PH_STAT_SC_FRAME, H.PD_SC_CNT, R.PD_PH_DUTY_DUTY, R.PD_PH_DUTY_SHARE] p

/-- RAIL records of a map that starts from IDLE or REFUSED: the rails' configuration and the allocation of the phases
(R33, R239, R263). A rail with ENABLE 0 is switched off. -/
def State.commitTopology (s : State) (l : List Rec) : State :=
  let rs := ofType l 0x0101
  let gone := s.rails.filter (fun r => !hasRec l 0x0101 r)
  let s1 := rs.foldl State.commitRailCfg (gone.foldl State.dropRail s)
  let s2 := (List.range 128).foldl (State.commitPhase s rs) s1
  rs.foldl (fun (t : State) (r : Rec) =>
    let k := r.u8 4
    let t1 := t.when (!t.bit R.PD_RAIL_CFG_ENABLE k && t.railOn k) (fun u => u.railOff k)
    (t1.rerank k).refreshDuty k) s2

/-- Setpoint entries 1–31 of a rail (R127, R221). -/
def State.commitSetpoints (s : State) (r : Rec) : State :=
  s.wrAll R.PD_SETPOINT_CODE ((List.range 31).map (fun k => 32 * r.u8 4 + (k + 1))) (fun i => r.code (i % 32))

/-- Setpoint entry 0 and the ramp and safe values of a rail (R155, R221). -/
def State.commitSafe (s : State) (r : Rec) : State :=
  let k := r.u8 4
  ((s.wr R.PD_SETPOINT_CODE (32 * k) (r.u16 6)).wr H.PD_SAFE_CONT k (r.u16 12)).wr H.PD_RAMP_RATE k (r.u16 8)

/-- Limits of a rail from its HURDLES RAIL record (R144, R263). -/
def State.commitLimits (s : State) (r : Rec) : State :=
  let k := r.u8 4
  (((s.wr R.PD_RAIL_LIMITS_TRUNC k (r.u8 5)).wr R.PD_RAIL_CONT_CONT k (r.u16 6)).wr R.PD_RAIL_OVERLOAD_OVERLOAD k
    (r.u16 8)).wr R.PD_RAIL_LIMITS_SC k (r.u16 10)

/-- The Phase Driver's destinations. -/
def State.commitPd (s : State) (kind : CommitKind) (l : List Rec) : State :=
  let s1 := s.when (kind == .first) (fun t => t.commitTopology l)
  let s2 := (ofType l 0x0201).foldl State.commitSetpoints s1
  let s3 := s2.when (kind != .profile) (fun t => (ofType l 0x0901).foldl State.commitSafe t)
  (ofType l 0x0502).foldl State.commitLimits s3

/-! ## Loop Engine -/

/-- One stage word in the pool (R175). -/
def State.putStage (s : State) (k : Nat) (g : Stage) : State :=
  (((((s.wr R.LE_STAGE_OP k g.op).wr R.LE_STAGE_EXP k g.exp).wr R.LE_STAGE_A k g.a).wr R.LE_STAGE_B k g.b).wr R.LE_STAGE_KM k
    g.km).wr R.LE_STAGE_KEXP k g.kexp

/-- A slot's program from pool word `base` on (R180, R219). -/
def State.putProgram (s : State) (base : Nat) (r : Rec) : State :=
  let g := r.stages
  let s1 := (g.zip (List.range g.length)).foldl (fun (t : State) (x : Stage × Nat) => t.putStage (base + x.2) x.1) s
  (s1.wr R.LE_SLOT_PROG_STAGE_BASE (r.u8 4) base).wr R.LE_SLOT_PROG_STAGE_COUNT (r.u8 4) g.length

/-- Fields of a slot that its record loads, and what it holds while it is in force; at reset in a slot that is not in force
(R157, R219). -/
def slotDests : List Fld :=
  [R.LE_SLOT_MODE_MODE, R.LE_SLOT_MODE_MODE_REQ, R.LE_SLOT_MODE_PLAUS_HOLD, R.LE_SLOT_MANUAL_MANUAL, R.LE_SLOT_OUT_CALC,
   R.LE_SLOT_OUT_OUT, R.LE_SLOT_INTEG_INTEG, R.LE_SLOT_CFG_NEAR, R.LE_SLOT_CFG_START, R.LE_SLOT_CFG_OFFSET,
   R.LE_SLOT_CFG_DIV, R.LE_SLOT_OUTSEL_OUT_KIND, R.LE_SLOT_OUTSEL_OUT_INDEX, R.LE_SLOT_PROG_STAGE_COUNT,
   R.LE_SLOT_PROG_STAGE_BASE, R.LE_SLOT_SLEW_SLEW, R.LE_SLOT_PLAUS_RUN_CNT, R.LE_SLOT_PLAUS_RESID, H.LE_NEXT_OUT,
   H.LE_NEXT_VALID, H.LE_FWD, H.LE_FWD_OUT, H.LE_FRESH, H.LE_PRESET_DUE, H.LE_PRESET_T, H.LE_PRESET_REG, H.LE_MODE_BEFORE, H.LE_HOLD_GOLD,
   H.LE_HOLD_SEV, H.LE_HOLD_START, H.LE_HELD_REQ, H.LE_HOLD_IN, H.LE_PL_FILL, H.LE_PL_TRIP, H.LE_INJ_ON, H.LE_MODE_COMMIT,
   H.LE_NEAR_REQ, H.LE_REL_FAULT]

/-- A preset is due in the slot's next run (R198, R201). -/
def State.presetDue (s : State) (l : Nat) : State := (s.wr H.LE_PRESET_DUE l 1).wr H.LE_PRESET_REG l 0

/-- The slot drives a rail that has not reached power-good since its map committed, so its record's mode waits; a profile switch
on the way leaves it waiting (R510). -/
def State.startHeld (s : State) (kind : CommitKind) (r : Rec) : Bool :=
  (r.u8 12 == 1 || r.u8 12 == 2)
    && (if kind = .profile then s.slots.any (fun k => s.bit H.LE_HOLD_START k && s.rd R.LE_SLOT_OUTSEL_OUT_INDEX k == r.u16 14)
        else !s.bit H.PD_PG (r.u16 14))

/-- Slots of the old profile that owned an output: the slot itself where it stays on it (R201). -/
def State.ownersOf (old : State) (l ok ix : Nat) (stays : Bool) : List Nat :=
  if stays then [l]
  else if ok = 0 then []
  else old.slots.filter (fun k => old.rd R.LE_SLOT_OUTSEL_OUT_KIND k == ok && old.rd R.LE_SLOT_OUTSEL_OUT_INDEX k == ix)

/-- A slot under the new state (R84, R179, R193, R201, R202, R204, R207, R219, R510, R540, R667). `old` is the state before the
commit. Of several slots that owned a fold's hurdle the least output is carried over, and a MANUAL from which a slot starts is held
to its output's range: DESIGN CHOICE, assumption 52. -/
def State.commitSlot (old : State) (kind : CommitKind) (s : State) (r : Rec) : State :=
  let l := r.u8 4
  let ok := r.u8 12
  let ix := r.u16 14
  let stays := old.slots.contains l && old.rd R.LE_SLOT_OUTSEL_OUT_KIND l == ok && old.rd R.LE_SLOT_OUTSEL_OUT_INDEX l == ix
  let from' := old.ownersOf l ok ix stays
  let held : Nat := minOf (min (r.u16 18) (outMax ok).toNat) (from'.map old.nextApplied)
  let m := r.u8 5
  let man := if m = 0 ∧ kind ≠ .first ∧ from' ≠ [] then held else r.u16 18
  let s1 := (((((((s.wr R.LE_SLOT_CFG_DIV l (r.u8 6)).wr R.LE_SLOT_CFG_OFFSET l (r.u8 7)).wr R.LE_SLOT_CFG_START l
    (r.u16 8)).wr R.LE_SLOT_OUTSEL_OUT_KIND l ok).wr R.LE_SLOT_OUTSEL_OUT_INDEX l ix).wr R.LE_SLOT_SLEW_SLEW l
    (r.u16 16)).wr R.LE_SLOT_MANUAL_MANUAL l man).when (kind == .first || !stays || r.u8 6 / 16 == 15) (fun t =>
      t.wr R.LE_SLOT_CFG_NEAR l 0)
  let s2 := (((s1.wr R.LE_SLOT_INTEG_INTEG l 0).wr H.LE_FRESH l 1).wr H.LE_PL_FILL l 2).clearElems
    [R.LE_SLOT_PLAUS_RUN_CNT, H.LE_PL_TRIP, H.LE_PRESET_DUE] l
  let s3 := if stays then s2 else ((s2.wr R.LE_SLOT_OUT_OUT l held).wr H.LE_NEXT_VALID l 0).wr H.LE_FWD l 0
  let req := old.rd H.LE_HELD_REQ l
  let s4 := (s3.wr H.LE_MODE_BEFORE l m).wr R.LE_SLOT_MODE_MODE_REQ l (if req = 0 then m else req - 1)
  let start := old.startHeld kind r
  let s5 := s4.when start (fun t => ((t.wr H.LE_HOLD_START l 1).wr R.LE_SLOT_MANUAL_MANUAL l 0).when (!stays) (fun u =>
    u.wr R.LE_SLOT_OUT_OUT l 0))
  if old.faultHold l then (s5.wr H.LE_HOLD_IN l 1).wr R.LE_SLOT_MODE_MODE l 3
  else if start then s5.wr R.LE_SLOT_MODE_MODE l 2
  else
    ((s5.wr R.LE_SLOT_MODE_MODE l m).when (m != old.mode l) (fun t => t.wr H.LE_MODE_COMMIT l 1)).when
      (m == 1 && !from'.isEmpty && hasInteg r.stages) (fun t => t.presetDue l)

/-- The golden record of a slot whose SLOT record a commit changed is discarded and captured anew (R445). -/
def State.commitGolden (old new : List Rec) (s : State) (l : Nat) : State :=
  let b (rs : List Rec) : Option (List Byte) := (findRec rs 0x0301 l).map Rec.bytes
  if b old = b new then s
  else ((s.wr H.LE_GOLD_N l 0).wr H.LE_GOLD_NEW l 0).wrB H.LE_GOLD_CAP l (b new).isSome

/-- A golden test pending at a commit ends with PASS (R448). -/
def State.endGolden (s : State) (l : Nat) : State :=
  if s.bit H.FLT_TEST_PEND l && decide (l < 256) then ((s.applyVerdict l .pass).wr H.LE_GOLD_TWIN l 0).wr H.TWIN_PEER_GOLD l 0
  else s

/-- One gain table (R139, R183). -/
def State.commitTable (s : State) (r : Rec) : State :=
  let t := r.u8 4
  (List.range 64).foldl (fun (u : State) (k : Nat) =>
    (u.wr R.LE_LUT_X (64 * t + k) (r.u32 (8 + 8 * k))).wr R.LE_LUT_G (64 * t + k) (r.u32 (12 + 8 * k)))
    (s.wr R.LE_LUT_EXP t (r.u8 5))

/-- Package limits and estimates (R144, R217). -/
def State.commitPackage (s : State) (r : Rec) : State :=
  (((((s.wr R.LE_PKG_SUSTAINED_SUSTAINED 0 (r.u32 4)).wr R.LE_PKG_EXCURSION_EXCURSION 0 (r.u32 8)).wr R.LE_PKG_LIMITS_EXC_FRAMES 0
    (r.u16 12)).wr R.LE_PKG_LIMITS_GAP_FRAMES 0 (r.u16 14)).wr R.LE_PKG_KEEP_EST_KEEP_EST 0 (r.u32 16)).wr
    R.LE_PKG_HBM_EST_HBM_EST 0 (r.u32 20)

/-- A fold's hurdle and floor (R144, R218). -/
def State.commitFold (s : State) (r : Rec) : State :=
  (s.wr R.LE_FOLD_POWER_POWER (r.u8 4) (r.u32 8)).wr R.LE_FOLD_FLOOR_FLOOR (r.u8 4) (r.u32 12)

/-- The Loop Engine's destinations. The SLOT records lie in the pool in record order (R180). -/
def State.commitLe (s : State) (kind : CommitKind) (l : List Rec) : State :=
  let recs := sortBy Rec.idx (ofType l 0x0301)
  let now := recs.map (fun r => r.u8 4)
  let gone := (List.range 256).filter (fun k => !now.contains k)
  let s0 := (List.range 256).foldl State.endGolden s
  let s1 := gone.foldl (fun t k => t.clearElems slotDests k) s0
  let s2 := s1.clearFlds [R.LE_STAGE_OP, R.LE_STAGE_EXP, R.LE_STAGE_A, R.LE_STAGE_B, R.LE_STAGE_KM, R.LE_STAGE_KEXP,
    R.LE_LUT_EXP, R.LE_LUT_X, R.LE_LUT_G, R.LE_FOLD_POWER_POWER, R.LE_FOLD_FLOOR_FLOOR]
  let s3 := (recs.foldl (fun (x : State × Nat) (r : Rec) => (x.1.putProgram x.2 r, x.2 + r.u8 10)) (s2, 0)).1
  let s4 := recs.foldl (State.commitSlot s0 kind) s3
  let s5 := (ofType l 0x0401).foldl State.commitTable s4
  let s6 := (ofType l 0x0503).foldl State.commitFold ((ofType l 0x0501).foldl State.commitPackage s5)
  (List.range 256).foldl (State.commitGolden s.map.recs l) s6

/-! ## Crook and Bellwether -/

/-- The values CONFIG carries for a fold: HYST, MAX_STRETCH and FALLBACK (R283). -/
def State.configOf (s : State) (f : Nat) : Nat × Nat × Nat :=
  (s.rd R.CROOK_FOLD_CFG_HYST f, s.rd R.CROOK_FOLD_CFG_MAX_STRETCH f, s.foldFallback f)

/-- DROOP records (R130, R157, R307). CONFIG is due for a fold whose CONFIG fields the commit changes; at a map commit CONFIG and
THRESH are due for every one (R269, R283, R537). -/
def State.commitCrook (s : State) (old : State) (kind : CommitKind) (l : List Rec) : State :=
  let s1 := s.clearFlds [R.CROOK_FOLD_CFG_THRESH, R.CROOK_FOLD_CFG_HYST, R.CROOK_FOLD_CFG_MAX_STRETCH]
  let s2 := (ofType l 0x0202).foldl (fun (t : State) (r : Rec) =>
    ((t.wr R.CROOK_FOLD_CFG_THRESH (r.u8 4) (r.u8 5)).wr R.CROOK_FOLD_CFG_HYST (r.u8 4) (r.u8 6)).wr
      R.CROOK_FOLD_CFG_MAX_STRETCH (r.u8 4) (r.u8 7)) s1
  (ofType l 0x0202).foldl (fun (t : State) (r : Rec) =>
    t.when (kind != .profile || t.configOf (r.u8 4) != old.configOf (r.u8 4)) (fun u =>
      (u.wr H.CROOK_CFG_DUE (r.u8 4) 1).when (kind != .profile) (fun v => v.wr H.CROOK_THR_DUE (r.u8 4) 1))) s2

/-- A network layer, its weights from byte `wb` and its biases from word `bb` of their memories (R141, R293, R310, R314). -/
def State.commitLayer (s : State) (wb bb : Nat) (r : Rec) : State :=
  let d := 2 * r.u8 4 + r.u8 5
  let i := r.u16 8
  let o := r.u16 10
  let s1 := ((((s.wr R.BW_LAYER_WBASE d wb).wr R.BW_LAYER_EXP d (r.u8 6)).wr R.BW_LAYER_BBASE d bb).wr R.BW_LAYER_OUT d o).wr
    R.BW_LAYER_IN d i
  let s2 := (List.range (i * o)).foldl (fun (t : State) (k : Nat) => t.wr R.BW_WMEM_W (wb + k) (r.u8 (12 + k))) s1
  (List.range o).foldl (fun (t : State) (k : Nat) => t.wr R.BW_BIAS_BIAS (bb + k) (r.u16 (12 + i * o + 2 * k))) s2

/-- Bellwether's memories and map: the layers in rising order of network and layer, each at the next word of the weight memory
and the next even entry of the bias memory; a fold left without a network has no forecast (R142, R143, R296, R297, R310). -/
def State.commitBw (s : State) (l : List Rec) : State :=
  let layers := sortBy (fun (r : Rec) => 2 * r.u8 4 + r.u8 5) (ofType l 0x0402)
  let s1 := s.clearFlds [R.BW_WMEM_W, R.BW_BIAS_BIAS, R.BW_NETMAP_NET, R.BW_LAYER_WBASE, R.BW_LAYER_EXP, R.BW_LAYER_BBASE,
    R.BW_LAYER_OUT, R.BW_LAYER_IN]
  let s2 := (layers.foldl (fun (x : State × Nat × Nat) (r : Rec) =>
    (x.1.commitLayer x.2.1 x.2.2 r, pad4 (x.2.1 + r.u16 8 * r.u16 10), (x.2.2 + r.u16 10 + 1) / 2 * 2)) (s1, 0, 0)).1
  let s3 := (ofType l 0x0403).foldl (fun (t : State) (r : Rec) =>
    t.wrAll R.BW_NETMAP_NET (List.range 64) (fun f => r.u8 (4 + f))) s2
  let valid := (List.range 4).foldl (fun v k => setBit v k (hasRec l 0x0402 (256 * k))) 0
  ((s3.wr R.BW_STATUS_NET_VALID 0 valid).wr R.BW_STATUS_WEIGHT_ERR 0 0).dropFolds

/-! ## Thermal section -/

/-- A paddock's configuration from its PADDOCK record, with the band of its PADDOCK_BAND record (R123, R146, R351). -/
def State.commitPaddock (l : List Rec) (s : State) (r : Rec) : State :=
  let p := r.u8 4
  let s1 := (((s.wr R.TH_PAD_CFG_FOLD p (r.u8 6)).wr R.TH_PAD_CFG_DIODE p (r.u8 7)).wr R.TH_PAD_CFG_SITES p (r.u8 5)).wr
    R.TH_PAD_STAT_DIODE_FAIL p (s.rd R.TH_DIODE_FAILED (r.u8 7))
  let s2 := match findRec l 0x0601 p with
    | some b => (s1.wr R.TH_PAD_CFG_NEAR p (b.u8 5)).wr R.TH_PAD_CFG_HYST p (b.u8 6)
    | none => s1
  r.sites.foldl (fun (t : State) (k : Nat) =>
    let was := s.rd R.TH_SITE_PADDOCK k == p
    (t.wr R.TH_SITE_PADDOCK k p).when (!was) (fun u => u.wr R.TH_SITE_STATE k (s.siteHeld k))) s2

/-- Thermal destinations: paddocks and their hurdles, bands, optical allowances (R144, R146, R157, R348–R353). -/
def State.commitThermal (s : State) (l : List Rec) : State :=
  let s1 := s.clearFlds [R.TH_PAD_CFG_FOLD, R.TH_PAD_CFG_DIODE, R.TH_PAD_CFG_NEAR, R.TH_PAD_CFG_HYST, R.TH_PAD_CFG_SITES,
    R.TH_PAD_HURDLE_LEVEL, R.TH_PAD_HURDLE_RATE, R.TH_BAND_CFG_KIND, R.TH_BAND_CFG_SOURCE, R.TH_BAND_CFG_HYST,
    R.TH_OPT_HEATER_HEATER, R.TH_OPT_LASER_LASER]
  let pads := ofType l 0x0103
  let sites := pads.flatMap Rec.sites
  let gone := ((List.range 128).filter (fun p => !(pads.map (fun (r : Rec) => r.u8 4)).contains p))
  let s1 := gone.foldl (fun (t : State) (p : Nat) => t.clearElems
    [R.TH_PAD_STAT_NEAR, R.TH_PAD_STAT_BLIND, R.TH_PAD_STAT_CLAMP, R.TH_PAD_STAT_DIODE_FAIL, R.TH_PAD_STAT_SUSPECT,
     R.TH_PAD_STAT_FAILED, R.TH_PAD_STAT_EXCLUDED, H.TH_NEAR_WANT, H.TH_CLAMP_WANT, H.TH_NEW, H.TH_RESWEEP, H.TH_DIODEC] p) s1
  let s2 := (s1.touched R.TH_SITE_PADDOCK).foldl (fun (t : State) (k : Nat) =>
    t.when (!sites.contains k) (fun u => (u.wr R.TH_SITE_PADDOCK k 0xFF).clearElems
      [R.TH_SITE_STATE, R.TH_SITE_SUBST, H.TH_SUSC, H.TH_HIGHC] k)) s1
  let s3 := pads.foldl (State.commitPaddock l) s2
  let s4 := (ofType l 0x0504).foldl (fun (t : State) (r : Rec) =>
    (t.wr R.TH_PAD_HURDLE_LEVEL (r.u8 4) (r.u16 6)).wr R.TH_PAD_HURDLE_RATE (r.u8 4) (r.u16 8)) s3
  let s5 := s4.wrAll R.TH_BAND_CFG_KIND [8, 9, 10, 11] (fun _ => 2)
  let s6 := (ofType l 0x0602).foldl (fun (t : State) (r : Rec) =>
    ((t.wr R.TH_BAND_CFG_KIND (r.u8 4) (r.u8 5)).wr R.TH_BAND_CFG_SOURCE (r.u8 4) (r.u8 6)).wr R.TH_BAND_CFG_HYST (r.u8 4)
      (r.u8 7)) s5
  let s7 := (ofType l 0x0603).foldl (fun (t : State) (r : Rec) =>
    (t.wr R.TH_OPT_HEATER_HEATER (r.u8 4) (r.u32 8)).wr R.TH_OPT_LASER_LASER (r.u8 4) (r.u32 12)) s6
  let s8 := ((ofType l 0x0105).map (fun (r : Rec) => r.u8 4)).foldl State.sendOptAllow s7
  (pads.map (fun r => r.u8 4)).foldl State.recount s8

/-! ## Grants -/

/-- The heft class of a queue in a list of QUEUE_HEFT records (R151). -/
def queueClass (l : List Rec) (q : Nat) : Option Nat :=
  ((ofType l 0x0803).find? (fun (r : Rec) => decide (r.u16 4 ≤ q) && decide (q < r.u16 4 + r.u16 6))).map (fun (r : Rec) =>
    r.heftClass (q - r.u16 4))

/-- A queue's heft class in the Store: at a map commit the record's class, 0 where none covers it; at a profile
switch the class of an override that covers it, unless it is pinned (R153, R157, R361). -/
def State.commitHeft (kind : CommitKind) (l ovr : List Rec) (s : State) (q : Nat) : State :=
  let h := s.ld (s.heftAt q) 4
  match kind with
  | .profile =>
    match queueClass ovr q with
    | some c => if bitOf h 4 then s else s.st (s.heftAt q) 4 (h / 16 * 16 + c)
    | none => s
  | _ => s.st (s.heftAt q) 4 (h / 16 * 16 + (queueClass l q).getD 0)

/-- The grant tables (R151–R154, R367, R389). -/
def State.commitTables (s : State) (kind : CommitKind) (m : MapImg) (p : Nat) : State :=
  let l := m.recsOf p
  let s1 := (List.range (computeFolds s.zk4 * queuesPerDispatcher s.zk4)).foldl
    (State.commitHeft kind l (m.overrides.getD p [])) s
  (s1.when (kind != .profile) (fun t => t.clearFld R.GL_RAIL_COST_COST)).commitGrants

/-! ## Profile shadows -/

/-- Register cells gathered into words: the offset of each word and its value. -/
def packWords : List (Nat × Nat) → List (Nat × Nat)
  | [] => []
  | (k, v) :: t =>
    let x := v * 2 ^ (k % 32)
    match packWords t with
    | (w, y) :: r => if w = k / 32 * 4 then (w, x + y) :: r else (k / 32 * 4, x) :: (w, y) :: r
    | [] => [(k / 32 * 4, x)]

/-- The decoded overrides of a profile: each register word that they load, as its offset and its value, then the values of its
GRANTS records and the slots it removes. The spec gives the shadows' contents and no layout: DESIGN CHOICE, assumption 57. -/
def shadowOf (ident : Ident) (ovr : List Rec) : List Byte :=
  let t0 : State := { State.reset with ident := ident }
  let t := ((((t0.commitPd .profile ovr).commitLe .profile ovr).commitBw ovr).commitThermal ovr).commitCrook t0 .profile ovr
  let words := packWords (t.regs.filter (fun c => decide (c.1 < 0x100000000)))
  let grants := (ovr.filter (fun r => r.typ / 256 == 8)).flatMap (fun r => r.bytes.drop 4)
  let gone := (ovr.filter Rec.removesSlot).map (fun r => BitVec.ofNat 8 (r.u8 4))
  words.flatMap (fun w => toLeBytes 4 w.1 ++ toLeBytes 4 w.2) ++ grants ++ gone

/-- The regions of the Store that hold the profile shadows (R591), each with its size. -/
def shadowRegions : List (Nat × Nat) := [(0x70000, 0xF000), (0xA9000, 0x7000), (0xD1000, 0xF000)]

/-- Bytes laid over a list of regions. -/
def State.stRegions (s : State) (b : List Byte) : List (Nat × Nat) → State
  | [] => s
  | (a, n) :: t => (s.stBytes a (b.take n)).stRegions (b.drop n) t

/-- The decoded overrides of the profiles that do not run, in the Store (R157). -/
def State.putShadows (s : State) (m : MapImg) (p : Nat) : State :=
  let idle := (List.range m.overrides.length).filter (fun q => q != p)
  s.stRegions (idle.flatMap (fun q => shadowOf s.ident (m.overrides.getD q []))) shadowRegions

/-! ## The commit -/

/-- What a commit does besides loading: COMMIT, the profile in force, the status bits, the unattended state that holds until an
ATTACH, a catch-up copy that starts again, the Tally record (R219, R404, R524, R526, R598, R621). -/
def State.commitMark (s : State) (kind : CommitKind) (l : List Rec) (p : Nat) : State :=
  let c := s.frame % 65536
  let s1 := (((s.wr R.RUN_COMMIT 0 c).wr R.PROFILE_IN_FORCE 0 p).wr R.LE_STATUS_PROFILE 0 p).wr R.FRAME_STAT_LANE_LOAD 0
    (laneLoad l)
  let s1 := s1.wr H.TWIN_COPY_N 0 0
  let s2 := match kind with
    | .first => (((s1.wr R.RUN_STATE 0 2).wr R.STATUS_RUNNING 0 1).wrB H.GL_START_HOLD 0 (s1.holder && !s1.bit R.STATUS_READY 0)).wrB
      R.GL_STATUS_UNATTENDED 0 (s1.bit R.HOST_STAT_UNATTENDED 0)
    | .live => s1.clearElems [R.RUN_LIVE, H.TOP_COMMIT_AT, H.TOP_PEER_PASS, H.TOP_OWN_AGE, H.TOP_RUN_HOLD] 0
    | .profile => s1.wr H.TOP_PREP_ST 0 3
  s2.tally 6 0 (if kind = .profile then 2 else 1) c p

/-- ECHO exchanges are due at a map commit, for the folds whose rail is at power-good (R270, R278). -/
def State.commitEcho (s : State) : State :=
  ((s.recsOf 0x0202).map (fun r => r.u8 4)).foldl (fun (t : State) (f : Nat) =>
    t.when (t.bit H.PD_PG (foldRail t.zk4 f)) (fun u => u.wr H.CROOK_ECHO_DUE f 1))
    ((s.clearFlds [H.CROOK_DELAYED, H.CROOK_FOLD_MAXC]).wr R.CROOK_STATUS_SYNCED 0 0)

/-- The commit of map `m` in profile `p` at the boundary whose number the frame counter holds (R157, R537, R540). -/
def State.commitMap (s : State) (kind : CommitKind) (m : MapImg) (p : Nat) : State :=
  let l := m.recsOf p
  let s1 := (((s.commitPd kind l).commitLe kind l).commitBw l).commitThermal l
  let s2 : State := { s1 with map := { s1.map with live := some m, recs := l, stream := [], last := false, shadow := none } }
  let s3 := ((List.range 14).foldl State.showMax (s2.commitMark kind l p)).commitCrook s kind l
  let s4 := (s3.commitTables kind m p).putShadows m p
  let s5 : State := if kind = .live then { s4 with sched := s4.sched.filter (fun e => e.latched == s4.frame) } else s4
  s5.when (kind != .profile) (fun t => (t.clearFld H.BW_SEEN).commitEcho)

end Sys2Proof.Machine
end

