-- ==== Sys2Proof/Machine/Boot.lean ====
section
/-! DEFINITION. What ZK_BOOT shows of a start-up sequence (R497, R522, R523), the stop in STEP 0x9 (R501) and the ROM safe
governor (R517). -/

namespace Sys2Proof.Machine

/-- ZK_BOOT.STEP changes (R497, R523). -/
def State.setStep (s : State) (n : Nat) : State :=
  (s.wr R.BOOT_STEP 0 n).wr R.BOOT_TIME_STEP_T 0 (s.rd H.TOP_BOOT_T 0)

/-- The record of Tally channel 7 (R621). -/
def State.bootRecord (s : State) (sev : Nat) : State :=
  let b := s.rawWord 0x100010
  s.tally 7 sev (b / 2 ^ 24) b (s.rawWord 0x100014)

/-- The sequence stops with STEP 0x9 (R500–R502). -/
def State.stopBoot (s : State) (err : Nat) : State :=
  ((((s.wr R.BOOT_ERR 0 err).setStep 9).wr H.TOP_BOOT_ON 0 0).wr R.TWIN_STATUS_ROLE 0 0).bootRecord 2

/-- The ROM safe governor starts, or goes on waiting with another ERR: H0 runs it and serves ring 0, H1–H3 are held, the
role is DETACHED, a flush of the Tally is asked for (R517, R518, R591, R630). -/
def State.safeGovernor (s : State) (err : Nat) : State :=
  if s.bit R.STATUS_SAFE_GOV 0 then s.wr R.BOOT_ERR 0 err
  else
    let s1 := (((s.wr R.BOOT_ERR 0 err).setStep 8).wr R.STATUS_SAFE_GOV 0 1).wr R.TWIN_STATUS_ROLE 0 0
    (((s1.wr R.RING_CFG_EN 0 1).wr H.TALLY_PEND 0 1).wrAll R.FW_HART_STAT_STATE [0, 1, 2, 3] (fun k =>
      if k = 0 then 0 else 3)).bootRecord 2

/-- The sequence is at the MAP step, in service of the image or of the safe governor (R505, R518). -/
def State.atMapStep (s : State) : Bool := s.bit H.TOP_BOOT_ON 0 && s.rd R.BOOT_STEP 0 == 4

end Sys2Proof.Machine
end

