-- ==== Sys2Proof/Machine/Run.lean ====
section
/-! DEFINITION. Enabling and live reconfiguration: ZK_RUN and the loader (R524–R533), live reload and its agreement with the
peer (R427, R534–R537, R541), profile switches (R538, R539, R547), the Warden's window (R542), the BMC's cap (R546), and the
MIRROR packet (R205, R399, R427). -/

namespace Sys2Proof.Machine

/-! ## The loader -/

/-- A load is under way: CHECKING without a map that has passed, or LIVE = LOADING (R524, R526). -/
def State.loading (s : State) : Bool := (s.rd R.RUN_STATE 0 == 1 && s.map.shadow.isNone) || s.rd R.RUN_LIVE 0 == 1

/-- Bytes `0` to `n − 1` of the flash map region; erased flash reads 0xFF. -/
def State.flashBytes (s : State) (n : Nat) : List Byte :=
  s.map.flash.take n ++ List.replicate (n - s.map.flash.length) (255 : Byte)

/-- The loader empty: no shadow, no byte of a stream (R526). -/
def State.clearLoader (s : State) : State :=
  { s with map := { s.map with stream := [], last := false, ringFault := false, shadow := none } }

/-- The load that a ring carried has ended, and its LAST chunk completes where it waits (R600, R601). -/
def State.loadEnd (s : State) (status r0 : Nat) : State :=
  let r := s.rd H.TOP_LOAD_RING 0
  if s.bit H.TOP_LOAD_SRC 0 && s.ringUnderWay r 0x11 then s.finishCmd r status r0 (s.rd R.RUN_COMMIT 0) else s

/-- ZK_REFUSE written, with the profile of a stage G refusal, and the Tally record (R527, R533, R621). -/
def State.recordRefusal (s : State) (r : Refuse) : State :=
  let s1 := (s.wr R.REFUSE_CODE 0 r.code).wr R.REFUSE_WHERE 0 r.loc
  let s2 := match r.prof with | some p => s1.wr R.PROFILE_REFUSE_PROF 0 p | none => s1
  s2.tally 6 1 3 (s2.rawWord 0x10000C) (s2.rd R.PROFILE_IN_FORCE 0)

/-- Profile preparation starts or starts again (R538, R539). -/
def State.startPrep (s : State) : State := ((s.wr R.PROFILE_PENDING 0 1).wr H.TOP_PREP_ST 0 1).wr H.TOP_PROF_AT 0 0

/-- PROFILE_COUNT of the map in force. -/
def State.profileCount (s : State) : Nat := match s.map.live with | some m => m.profileCount | none => 0

/-- A profile request held during a live reload is prepared, or answered with REQ_ERR, once the reload has ended (R539). -/
def State.heldProfile (s : State) : State :=
  if s.bit H.TOP_REQ_HELD 0 then
    let s1 := s.wr H.TOP_REQ_HELD 0 0
    let p := s.rd R.PROFILE_REQ 0
    if s.profileCount ≤ p then (s1.wr R.PROFILE_REQ_ERR 0 1).profileEnd 3
    else if p = s.rd R.PROFILE_IN_FORCE 0 then s1.profileEnd 0
    else s1.startPrep
  else s

/-- A packet of the MIRROR kind for the peer (R399). -/
def State.sendMirror (s : State) (op : MirrorOp) : State := s.send (.mirror ⟨true, s.frame + 1, op⟩)

/-- The refusal of the map being loaded or staged. A first enable falls back to REFUSED; a live reload leaves the running map
as it is, and the peer that mirrors it is told (R427, R505, R518, R526, R527, R534). -/
def State.refuseMap (s : State) (r : Refuse) : State :=
  let s1 := s.recordRefusal r
  let s2 := s1.clearLoader.loadEnd 6 (s1.rawWord 0x10000C)
  if s.rd R.RUN_LIVE 0 ≠ 0 then
    let own := r.code != refPeer && r.code != refAborted
    let s3 := s2.clearElems [R.RUN_LIVE, H.TOP_COMMIT_AT, H.TOP_PEER_PASS, H.TOP_OWN_AGE, H.TOP_RUN_HOLD] 0
    let s4 := s3.when (own && s.peerCompares) (fun t => t.sendMirror .reloadRefuse)
    (s4.when (own && (s.role == 2 || s.role == 3)) (fun t => t.wr H.TOP_REL_REFUSED 0 1)).heldProfile
  else
    let s3 := (s2.wr R.RUN_STATE 0 3).wr R.RUN_EN 0 0
    if s.bit R.STATUS_SAFE_GOV 0 then s3.wr R.BOOT_ERR 0 7
    else if s.atMapStep then
      s3.safeGovernor (if !s.bit H.TOP_LOAD_SRC 0 && u32At (s.flashBytes 4) 0 != 0x50414D46 then 6 else 7)
    else s3

/-- Stage A of the check: the first clock enable that is off, then the first rail whose DMAX lies above 0x8000 (R235, R528,
R532). -/
def State.stageA (s : State) : Option Refuse :=
  match [0, 1, 2, 3, 4, 5, 6, 8].find? (fun b => !bitOf (s.rd R.CLK_EN_EN 0) b) with
  | some b => some ⟨refClockOff, 0xFFFD00 + b, none⟩
  | none =>
    ((railList s.zk4).find? (fun r => decide (0x8000 < s.rd R.PD_RAIL_COMP2_DMAX r))).map (fun r =>
      (⟨refRange, 0xFFFE00 + r, none⟩ : Refuse))

/-- The loader starts on the source that ZK_RUN names; a fault of stage A refuses at once (R526, R528). -/
def State.startLoader (s : State) : State :=
  let s1 := ((((s.clearLoader.wr R.REFUSE_CODE 0 0).wr R.REFUSE_WHERE 0 0).wr H.TOP_LOAD_SRC 0 (s.rd R.RUN_SRC 0)).wr
    H.TOP_LOAD_RING 0 (s.rd R.RUN_RING 0))
  match s.stageA with
  | some r => s1.refuseMap r
  | none => s1

/-- Fields of ZK_RUN that say what a load reads (R524). -/
def State.runWord (s : State) (keep src : Bool) (ring : Nat) : State :=
  ((s.wrB R.RUN_KEEP_PROFILE 0 keep).wrB R.RUN_SRC 0 src).wr R.RUN_RING 0 ring

/-- EN written 1: from IDLE or REFUSED the check starts; EN changes from 0 to 1 (R87, R219, R307, R312, R526). -/
def State.enable (s : State) : State :=
  if s.rd R.RUN_STATE 0 = 0 ∨ s.rd R.RUN_STATE 0 = 3 then
    ((((s.wr R.RUN_EN 0 1).wr R.RUN_STATE 0 1).clearFlds
      ([R.LE_SLOT_MODE_PRESETS, R.CROOK_FOLD_TOTAL_TOTAL] ++ bwFoldCounters)).wr R.FRAME_STAT_DEFER_CNT 0 0).startLoader
  else s

/-- EN written 0: a check ends with REFUSE_ABORTED, a running map stops at the boundary, and its forecasts are invalid from now
on (R297, R526). -/
def State.disable (s : State) (w : WCtx) : State :=
  if s.rd R.RUN_STATE 0 = 1 then s.refuseMap ⟨refAborted, 0xFFFFFE, none⟩
  else if s.rd R.RUN_STATE 0 = 2 ∧ s.runEn = true then (s.wr R.RUN_EN 0 0).dropForecasts.stage w .enClear
  else s

/-- The word of ZK_RUN that the peer's instance is sent for a RELOAD. -/
def State.runMirror (s : State) : Nat :=
  0xC0000000 + s.rd R.RUN_KEEP_PROFILE 0 * 2 ^ 25 + s.rd R.RUN_SRC 0 * 2 ^ 24 + s.rd R.RUN_RING 0 * 2 ^ 16

/-- A live reload or a profile preparation is in progress (R85, R534). -/
def State.reloadBusy (s : State) : Bool := s.rd R.RUN_LIVE 0 != 0 || s.bit R.PROFILE_PENDING 0

/-- A live reload asked for while a map runs: refused with REFUSE_BUSY, or begun (R85, R534). -/
def State.beginReload (s : State) : State :=
  if s.reloadBusy = true then s.recordRefusal ⟨refBusy, 0xFFFFFE, none⟩
  else
    (((s.clearElems [H.TOP_COMMIT_AT, H.TOP_PEER_PASS, H.TOP_OWN_AGE, H.TOP_REL_REFUSED] 0).wr R.RUN_LIVE 0 1).wrB
      H.TOP_RUN_HOLD 0 s.holder).startLoader

/-- RELOAD written 1 while RUNNING: refused as busy, or begun here and at the peer (R427, R534). -/
def State.askReload (s : State) (w : WCtx) : State :=
  if s.reloadBusy then s.beginReload else (s.mirrorOut w (.write 0x100004 s.runMirror)).beginReload

/-- A mirrored RELOAD: begun, or refused as busy, which the other instance is told (R427, R534). -/
def State.mirroredReload (s : State) (v : Nat) : State :=
  if s.reloadBusy then (s.beginReload.wrB H.TOP_REL_REFUSED 0 (s.role == 2 || s.role == 3)).sendMirror .reloadRefuse
  else (s.runWord (v.testBit 25) (v.testBit 24) (bitsOf v 21 16)).beginReload

/-- Effect of EN_SET: ZK_RUN written with EN = 1. -/
def execEnSet (w : WCtx) (keep src : Bool) (ring : Nat) (s : State) : Host.Outcome State Fault Refusal :=
  (s.judged w R.RUN_EN 0 1 true (fun t => (t.runWord keep src ring).enable)).go

/-- Effect of EN_CLEAR: ZK_RUN written with EN = 0. -/
def execEnClear (w : WCtx) (s : State) : Host.Outcome State Fault Refusal :=
  (s.judged w R.RUN_EN 0 0 true (fun t => t.disable w)).go

/-- Effect of RELOAD: ZK_RUN written with RELOAD = 1. The other fields of the word are stored whatever becomes of RELOAD
(R666). -/
def execReload (w : WCtx) (keep src : Bool) (ring : Nat) (s : State) : Host.Outcome State Fault Refusal :=
  (let s1 := s.when (s.right w.req R.RUN_RELOAD 0) (fun t => t.runWord keep src ring)
   s1.judged w R.RUN_RELOAD 0 1 s.running (fun t => t.askReload w)).go

/-! ## The end of the check -/

/-- The boundary of a live commit named, and the peer told where it compares (R536). -/
def State.nameCommit (s : State) (k : Nat) : State :=
  (s.wr H.TOP_COMMIT_AT 0 (k + 1)).when s.peerCompares (fun t => t.sendMirror (.commitAt k))

/-- A live map that has passed gets its boundary where nothing more is waited for: the Gate holder waits for a peer in STANDBY,
and a follower waits for the Gate holder (R536). -/
def State.tryName (s : State) (k : Nat) : State :=
  if s.rd R.RUN_LIVE 0 ≠ 2 ∨ s.rd H.TOP_COMMIT_AT 0 ≠ 0 then s
  else if s.role == 2 || s.role == 3 then s
  else if s.holder && s.rd R.TWIN_STATUS_PEER_ROLE 0 == 3 && !s.bit H.TOP_PEER_PASS 0 then s
  else s.nameCommit k

/-- The map has passed every check: it is staged to commit. Under the safe governor the sequence resumes at the role decision
(R518, R526, R528, R536). -/
def State.admitMap (s : State) (m : MapImg) : State :=
  let s1 : State := { s with map := { s.map with shadow := some m, stream := [], last := false } }
  if s.rd R.RUN_LIVE 0 = 1 then
    let s2 := (s1.wr R.RUN_LIVE 0 2).wr H.TOP_OWN_AGE 0 0
    (s2.when (s.role == 2 || s.role == 3) (fun t => t.sendMirror .reloadPass)).tryName (s.frame + 5)
  else if s.bit R.STATUS_SAFE_GOV 0 then
    ((List.range 4).foldl State.startHart ((s1.clearElems [R.STATUS_SAFE_GOV, R.BOOT_ERR] 0).wr R.BOOT_FROM_RING 0 1)).setStep 4
  else s1

/-- The stream from the ring has reached its end, which TOTAL_LEN alone gives (R93). -/
def State.streamWhole (s : State) : Bool :=
  s.map.last || (decide (64 ≤ s.map.stream.length) && decide (u32At s.map.stream 8 ≤ s.map.stream.length))

/-- What the loader has found in the bytes it has: a refusal, a map that passes, or nothing yet (R93, R528, R529). -/
def State.judgeMap (s : State) (psc : PscAnswer) : Option (Except Refuse MapImg) :=
  let live := if s.rd R.RUN_LIVE 0 = 1 then s.map.live else none
  let whole (bs : List Byte) : Except Refuse MapImg :=
    match checkMap s.zk4 psc live bs with
    | some r => .error r
    | none => .ok (decodeMap bs)
  if s.bit H.TOP_LOAD_SRC 0 then
    let bs := s.map.stream
    let n := bs.length
    match (if 64 ≤ n then checkHeader s.zk4 (bs.take 64) else none) with
    | some r => some (.error r)
    | none =>
      match (if 0xE0 ≤ n then checkFront s.zk4 bs else none) with
      | some r => some (.error r)
      | none =>
        if s.map.ringFault then some (.error ⟨refFormat, locMap, none⟩)
        else if s.streamWhole then some (whole bs)
        else none
  else
    let h := s.flashBytes 64
    match checkHeader s.zk4 h with
    | some r => some (.error r)
    | none => some (whole (s.flashBytes (u32At h 8)))

/-- Effect of MAP_CHECK_DONE (R526–R530, R534). -/
def execMapCheckDone (psc : PscAnswer) (s : State) : Host.Outcome State Fault Refusal :=
  (if s.loading then
    match s.judgeMap psc with
    | some (.error r) => s.refuseMap r
    | some (.ok m) => s.admitMap m
    | none => s
  else s).go

/-- Effect of LOADER_STALL: 10 ms without a byte from the ring (R531). -/
def execLoaderStall (s : State) : Host.Outcome State Fault Refusal :=
  (if s.loading && s.bit H.TOP_LOAD_SRC 0 && !s.streamWhole then s.refuseMap ⟨refStalled, 0xFFFFFE, none⟩ else s).go

/-- Effect of STANDBY_RELOAD_TIMEOUT: the standby has reported nothing 4,096 frames after the own pass (R536). -/
def execStandbyReloadTimeout (s : State) : Host.Outcome State Fault Refusal :=
  (if s.holder && s.rd R.RUN_LIVE 0 == 2 && s.rd H.TOP_COMMIT_AT 0 == 0 && decide (4096 ≤ s.rd H.TOP_OWN_AGE 0) then
    s.nameCommit (s.frame + 5)
  else s).go

/-! ## Profiles -/

/-- An accepted profile request (R538, R539). -/
def State.requestProfile (s : State) (p : Nat) : State :=
  let s1 := s.wr R.PROFILE_REQ 0 p
  if s.rd R.RUN_LIVE 0 ≠ 0 then s1.wr H.TOP_REQ_HELD 0 1
  else if p = s.rd R.PROFILE_IN_FORCE 0 ∧ s.bit R.PROFILE_PENDING 0 = false then s1
  else s1.startPrep

/-- The request names a profile that the map in force lacks, with no live reload under way (R539). -/
def State.badProfile (s : State) (p : Nat) : Bool :=
  s.running && s.rd R.RUN_LIVE 0 == 0 && decide (s.profileCount ≤ p)

/-- ZK_PROFILE.REQ written (R538, R539). -/
def State.writeProfile (s : State) (w : WCtx) (p : Nat) : State :=
  let t := s.judged w R.PROFILE_REQ 0 p (s.running && !s.badProfile p) (fun u =>
    (u.requestProfile p).mirrorOut w (.profile p))
  t.when (s.badProfile p && t.resp == .refused 3) (fun u => u.wr R.PROFILE_REQ_ERR 0 1)

/-- Effect of PROFILE_REQ. -/
def execProfileReq (w : WCtx) (p : Nat) (s : State) : Host.Outcome State Fault Refusal := (s.writeProfile w (p % 8)).go

/-- Effect of PROFILE_PREP_DONE: the preparation under way has ended after `frames` frames. The switch commits at the next boundary,
which a holder names to a comparing peer (R427, R538). -/
def execProfilePrepDone (frames : Nat) (s : State) : Host.Outcome State Fault Refusal :=
  (if s.running && s.rd H.TOP_PREP_ST 0 == 1 && decide (frames ≤ 1024) then
    ((s.wr R.PROFILE_PREP_FRAMES 0 frames).wr H.TOP_PREP_ST 0 2).when (s.holder && s.peerCompares) (fun t =>
      t.sendMirror (.profileAt (s.frame + 1)))
  else s).go

/-! ## The Warden's window and the BMC's cap -/

/-- Effect of WARDEN_WINDOW_OPEN: the PSC has verified H0's token (R542, R548). -/
def execWardenWindowOpen (tokenOk : Bool) (frames : Nat) (s : State) : Host.Outcome State Fault Refusal :=
  (if tokenOk && s.hartUp 0 then (s.wr R.WARDEN_OPEN 0 1).wr R.WARDEN_REMAIN 0 frames else s).go

/-- Effect of WARDEN_WINDOW_EXPIRY (R542). -/
def execWardenWindowExpiry (s : State) : Host.Outcome State Fault Refusal :=
  (if s.bit R.WARDEN_OPEN 0 && s.rd R.WARDEN_REMAIN 0 == 0 then s.closeWindow else s).go

/-- ZK_CAP_BMC.CAP written: staged, and mirrored to the peer (R545, R546, R548, R650). -/
def State.writeCapBmc (s : State) (w : WCtx) (v : Nat) : State :=
  s.judged w R.CAP_BMC_CAP 0 v true (fun t => (t.stage w (.capBmc v false)).mirrorOut w (.write 0x100034 v))

/-- Effect of CAP_BMC_WRITE. -/
def execCapBmcWrite (w : WCtx) (v : Nat) (s : State) : Host.Outcome State Fault Refusal := (s.writeCapBmc w (v % 2 ^ 24)).go

/-! ## MIRROR -/

/-- A change staged for the boundary that a MIRROR packet names. -/
def State.stageFor (s : State) (boundary : Nat) (a : StagedAct) : State :=
  { s with staged := s.staged ++ [(⟨boundary - (s.frame + 1), a⟩ : Staged)] }

/-- A mirrored register write (R205, R427, R650). -/
def State.mirrorWrite (s : State) (k off v : Nat) : State :=
  if off = 0x100004 then
    s.when (s.running && v.testBit 30) (fun t => t.mirroredReload v)
  else if off = 0x100034 then s.stageFor k (.capBmc v true)
  else if 0x114000 ≤ off ∧ off < 0x118000 ∧ off % 64 = 0 then
    let l := (off - 0x114000) / 64
    (s.wr R.LE_SLOT_MODE_MODE_REQ l v).stageFor k (.modeReq l (v % 4))
  else if 0x114000 ≤ off ∧ off < 0x118000 ∧ off % 64 = 4 then s.stageFor k (.manual ((off - 0x114000) / 64) (v % 65536))
  else if heldOff off then s.stageFor k (.held off v 0xFFFFFFFF)
  else if 0x110100 ≤ off ∧ off < 0x110600 then
    (wordFields off).foldl (fun (t : State) (x : Fld × Nat) =>
      let val := x.1.merge x.2 (t.rd x.1 x.2) off v
      if x.1 == R.LE_FOLD_HOSTCAP_HOSTCAP then t.stageFor k (.hostCap x.2 val)
      else if x.1.acc == .rww then t.stageFor k (.field x.1 x.2 val)
      else t) s
  else s

/-- The Gate holder names the boundary of a reload. An instance in SHADOW or STANDBY that has passed commits there too; one
that has refused, or a standby that has not passed, goes to DETACHED (R427, R536). -/
def State.takeCommitAt (s : State) (k : Nat) : State :=
  if s.holder then s
  else if s.bit H.TOP_REL_REFUSED 0 || (s.role == 3 && s.rd R.RUN_LIVE 0 != 2) then
    ((s.clearLoader.clearElems [R.RUN_LIVE, H.TOP_REL_REFUSED] 0).nextRole 0)
  else if s.rd R.RUN_LIVE 0 = 2 then s.wr H.TOP_COMMIT_AT 0 (k + 1)
  else s

/-- A mirrored profile request: prepared here too, or refused: a standby that refuses leaves service, a holder that refuses says so
(R427, R539). -/
def State.mirroredProfile (s : State) (q : Nat) : State :=
  if s.running && !s.badProfile q then s.requestProfile q
  else if s.holder then s.sendMirror .profileRefuse
  else s.nextRole 0

/-- The holder has refused the profile: neither instance commits it (R427). -/
def State.dropProfile (s : State) : State :=
  if s.holder then s
  else (s.clearElems [H.TOP_PREP_ST, H.TOP_PROF_AT, H.TOP_REQ_HELD, R.PROFILE_PENDING] 0).wr R.PROFILE_REQ_ERR 0 1

/-- What a MIRROR packet asks for. -/
def State.takeMirror (s : State) (p : MirrorPkt) : State :=
  match p.op with
  | .write off v => s.mirrorWrite p.boundary off v
  | .profile q => s.mirroredProfile q
  | .profileAt k => if s.holder then s else s.wr H.TOP_PROF_AT 0 k
  | .profileRefuse => s.dropProfile
  | .reloadPass => if s.holder then (s.wr H.TOP_PEER_PASS 0 1).tryName (s.frame + 5) else s
  | .reloadRefuse =>
    if s.holder then (s.wr H.TOP_PEER_PASS 0 1).tryName (s.frame + 5)
    else if s.rd R.RUN_LIVE 0 ≠ 0 then s.refuseMap ⟨refPeer, 0xFFFFFE, none⟩
    else s.wr H.TOP_REL_REFUSED 0 0
  | .commitAt k => s.takeCommitAt k

/-- Effect of TWIN_MIRROR_PACKET (R205, R399, R427, R536). -/
def execTwinMirrorPacket (p : MirrorPkt) (s : State) : Host.Outcome State Fault Refusal :=
  (if !p.crcOk then s.inc R.TWIN_LINK_CRC_ERR 0 1
  else if s.peerCompares then s.takeMirror p
  else s).go

/-! ## Step 1 of a boundary -/

/-- The profile in which a live reload starts (R536). -/
def State.liveProfile (s : State) (m : MapImg) : Nat :=
  if s.bit R.RUN_KEEP_PROFILE 0 && decide (s.rd R.PROFILE_IN_FORCE 0 < m.profileCount) then s.rd R.PROFILE_IN_FORCE 0
  else m.bootProfile

/-- A prepared profile commits at this boundary: in SHADOW and STANDBY, the one that the holder names (R427, R538). -/
def State.profileDue (s : State) : Bool :=
  s.rd H.TOP_PREP_ST 0 == 2
    && (!(s.role == 2 || s.role == 3) || (s.rd H.TOP_PROF_AT 0 != 0 && decide (s.rd H.TOP_PROF_AT 0 ≤ s.frame)))

/-- The reload or profile switch that is due at this boundary commits (R526, R536, R538, R540; step 1 of R81). -/
def State.commitDue (s : State) : State :=
  let s0 := s.when (s.rd H.TOP_PREP_ST 0 == 3) (fun t => t.clearElems [H.TOP_PREP_ST, R.PROFILE_PENDING] 0)
  match s.map.shadow with
  | some m =>
    if s.rd R.RUN_STATE 0 = 1 then (s0.commitMap .first m m.bootProfile).loadEnd 0 0
    else if s.rd R.RUN_LIVE 0 = 2 ∧ s.rd H.TOP_COMMIT_AT 0 ≠ 0 ∧ s.rd H.TOP_COMMIT_AT 0 ≤ s.frame + 1 then
      ((s0.commitMap .live m (s.liveProfile m)).loadEnd 0 0).heldProfile
    else s0
  | none =>
    match s.map.live with
    | some m => if s.profileDue then (s0.commitMap .profile m (s.rd R.PROFILE_REQ 0)).profileEnd 0 else s0
    | none => s0

/-- At the end of a boundary: a live reload whose instance has gained or lost the Gate is aborted, but a TWIN reset that leaves
the gate up lets it go on; a staged one grows older, and gets its boundary once nobody is waited for (R536, R541). -/
def State.reloadStep (s : State) : State :=
  if s.rd R.RUN_LIVE 0 = 0 then s
  else if (if s.bit H.TOP_RUN_HOLD 0 then !s.holder && !s.bit R.TWIN_STATUS_GATE_OWN 0 else s.holder) then s.refuseMap ⟨refAborted, 0xFFFFFE, none⟩
  else if s.rd R.RUN_LIVE 0 = 2 then (s.wr H.TOP_OWN_AGE 0 (min 8191 (s.rd H.TOP_OWN_AGE 0 + 1))).tryName (s.frame + 4)
  else s

end Sys2Proof.Machine
end

