-- ==== Sys2Proof/Machine/TallyOps.lean ====
section
/-! DEFINITION. The Tally: its record slots and the writer (R617–R625), the counters (R626, R627), the mirror in flash
(R628–R631) and the restore (R633–R635). -/

namespace Sys2Proof.Machine

/-! ## Records -/

/-- Store address of a record slot (R617). -/
def tallyAt (i : Nat) : Nat := 0xE0000 + 32 * i

/-- The valid mark of channels 4–31 (R618). -/
def validMark : Nat := 0x54414C59

/-- CHECK of the bytes of a record (R618). -/
def recordCheck (ch : Nat) (bs : List Byte) : Nat := if ch < 4 then crc32c bs else validMark

/-- Bytes 0–27 of slot `i`. -/
def State.recordBytes (s : State) (i : Nat) : List Byte := memGetBytes s.store (tallyAt i) 28

/-- Channel, severity, SECONDS and SEQ of slot `i`. -/
def State.recCh (s : State) (i : Nat) : Nat := s.ld (tallyAt i + 5) 1 % 32
def State.recSev (s : State) (i : Nat) : Nat := s.ld (tallyAt i + 5) 1 / 64
def State.recSec (s : State) (i : Nat) : Nat := s.ld (tallyAt i) 5
def State.recSeq (s : State) (i : Nat) : Nat := s.ld (tallyAt i + 12) 4

/-- The slot holds a record: its CHECK matches (R619). -/
def State.recHeld (s : State) (i : Nat) : Bool :=
  s.ld (tallyAt i + 28) 4 == recordCheck (s.recCh i) (s.recordBytes i)

/-- `b` is newer than `a` as 32-bit sequence values (R23). -/
def newer32 (a b : Nat) : Bool :=
  let d := (b + 2 ^ 32 - a) % 2 ^ 32
  decide (1 ≤ d) && decide (d < 2 ^ 31)

/-- The record of slot `i` is older than that of slot `j` (R620). -/
def State.recOlder (s : State) (i j : Nat) : Bool :=
  decide (s.recSec i < s.recSec j) || (s.recSec i == s.recSec j && newer32 (s.recSeq i) (s.recSeq j))

/-- First slot from `i` on that holds no record, among `n` slots. -/
def State.firstEmpty (s : State) (i : Nat) : Nat → Option Nat
  | 0 => none
  | n + 1 => if s.recHeld i then s.firstEmpty (i + 1) n else some i

/-- Slots that hold a record, rising. -/
def State.heldSlots (s : State) : List Nat := (List.range 4096).filter s.recHeld

/-- The held record with the oldest SEQ among those of a severity up to `sev` (R624). -/
def State.oldestUpTo (s : State) (sev : Nat) : Option Nat :=
  (s.heldSlots.filter (fun i => decide (s.recSev i ≤ sev))).foldl (fun (b : Option Nat) (i : Nat) =>
    match b with
    | none => some i
    | some j => if s.recOlder i j then some i else some j) none

/-- Slot that a record of severity `sev` takes (R624). -/
def State.slotFor (s : State) (sev : Nat) : Option Nat :=
  match s.firstEmpty 0 4096 with
  | some i => some i
  | none => s.oldestUpTo sev

/-- Bytes 0–27 of a record placed now (R618). -/
def State.formRecord (s : State) (q : TallyReq) : List Byte :=
  toLeBytes 5 (s.rd R.TALLY_SECONDS_SECONDS 0)
    ++ toLeBytes 1 (q.channel % 32 + 32 * b2n q.injected + 64 * (q.severity % 4)) ++ toLeBytes 2 q.code
    ++ toLeBytes 4 (s.rd R.TALLY_CYCLES_CYCLES 0) ++ toLeBytes 4 (s.rd R.TALLY_SEQ_NEXT_SEQ 0) ++ toLeBytes 4 s.frame
    ++ toLeBytes 4 (q.data.getD 0 0) ++ toLeBytes 4 (q.data.getD 1 0)

/-- One record placed or dropped (R559, R619, R620, R624, R630). -/
def State.placeRecord (s : State) (q : TallyReq) : State :=
  match s.slotFor q.severity with
  | none => s.inc R.TALLY_DROPPED_DROPPED 0 1
  | some i =>
    if s.poisonedIn (tallyAt i) 32 then (s.dmaRead (tallyAt i) 32).inc R.TALLY_DROPPED_DROPPED 0 1
    else
      let b := s.formRecord q
      (((s.stBytes (tallyAt i) b).st (tallyAt i + 28) 4 (recordCheck (q.channel % 32) b)).wr R.TALLY_SEQ_NEXT_SEQ 0
        ((s.rd R.TALLY_SEQ_NEXT_SEQ 0 + 1) % 2 ^ 32)).when (decide (q.channel < 4)) (fun t => t.wr H.TALLY_PEND 0 1)

/-! ## Flushes -/

/-- The region as it stands in the Store. -/
def State.tallyImage (s : State) : List Host.Cell :=
  s.store.filter (fun (c : Host.Cell) => decide (0xE0000 ≤ c.1) && decide (c.1 < 0x100000))

/-- Newest committed mirror slot: that of the highest GEN (R633). -/
def newestMirror (l : List MirrorSlot) : Option MirrorSlot :=
  l.foldl (fun (b : Option MirrorSlot) (m : MirrorSlot) =>
    match b with
    | none => some m
    | some x => if x.gen < m.gen then some m else some x) none

/-- Slot that a flush chooses (R629). -/
def State.chosenSlot (s : State) : Nat :=
  if s.rd R.TALLY_MIRROR_SLOT 0 = 0x7F then 0
  else
    let k := (s.rd H.TALLY_LAST_SLOT 0 + 1) % 124
    if k = s.rd R.TALLY_MIRROR_SLOT 0 then (k + 1) % 124 else k

/-- Hart that runs a flush: H3, or H0 while the ROM safe governor runs (R629). -/
def State.flushHart (s : State) : Nat := if s.bit R.STATUS_SAFE_GOV 0 then 0 else 3

/-- A flush that has been asked for starts, once none runs and its hart is up: the chosen slot is erased (R629, R630). -/
def State.flushStep (s : State) : State :=
  if s.bit H.TALLY_PEND 0 && !s.bit R.TALLY_STAT_FLUSHING 0 && s.hartUp s.flushHart && s.bit R.TALLY_STAT_RESTORED 0 then
    let k := s.chosenSlot
    let g := match newestMirror s.mirror with | some m => m.gen + 1 | none => 1
    let s1 : State := { s with
      mirror := s.mirror.filter (fun (m : MirrorSlot) => m.slot != k)
      flush := some ⟨k, g, s.rd R.TALLY_SECONDS_SECONDS 0, s.rd R.TALLY_CYCLES_CYCLES 0, s.rd R.TALLY_DROPPED_DROPPED 0,
        s.rd R.TALLY_SEQ_NEXT_SEQ 0, s.tallyImage⟩ }
    ((s1.wr R.TALLY_STAT_FLUSHING 0 1).wr H.TALLY_PEND 0 0).wr H.TALLY_LAST_SLOT 0 k
  else s

/-- A flush is asked for (R630). -/
def State.askFlush (s : State) : State := (s.wr H.TALLY_PEND 0 1).flushStep

/-- Bytes of record slot `i` in an image of the region. -/
def imageSlot (l : List Host.Cell) (i : Nat) : List Host.Cell :=
  l.filter (fun (c : Host.Cell) => decide (tallyAt i ≤ c.1) && decide (c.1 < tallyAt i + 32))

/-- Record slots in which two images differ, rising. -/
def changedSlots (a b : List Host.Cell) : List Nat :=
  let near (x y : List Host.Cell) : List Nat := (x.filter (fun (c : Host.Cell) => !y.contains c)).map (fun c => (c.1 - 0xE0000) / 32)
  sortBy id ((near a b ++ near b a).dedup)

/-- The image that a flush writes: for a record placed while it copies, a free value says whether it enters (R629). -/
def State.flushedImage (s : State) (start : List Host.Cell) : List Host.Cell :=
  let now := s.tallyImage
  let ch := changedSlots start now
  let late := (ch.zipIdx).filter (fun x => (Config.freeWord (s.free + x.2)).toNat % 2 == 1)
  let kept := ch.filter (fun i => !(late.map Prod.fst).contains i)
  sortBy (fun (c : Host.Cell) => c.1) ((now.filter (fun (c : Host.Cell) => !kept.contains ((c.1 - 0xE0000) / 32)))
    ++ kept.flatMap (imageSlot start))

/-- Effect of TALLY_FLUSH_DONE: COMMIT is written, or flash has failed (R629–R631). -/
def execTallyFlushDone (ok : Bool) (s : State) : Host.Outcome State Fault Refusal :=
  (match s.flush with
   | none => s
   | some m =>
     if !s.hartUp s.flushHart then s
     else
       let s1 : State := { s with flush := none }
       let s2 := s1.wr R.TALLY_STAT_FLUSHING 0 0
       (if ok then
         let img := s.flushedImage m.image
         let s3 : State := { s2 with
           mirror := s2.mirror ++ [{ m with image := img }], free := s.free + (changedSlots m.image s.tallyImage).length }
         (s3.wr R.TALLY_MIRROR_SLOT 0 m.slot).wr R.TALLY_MIRROR_GEN 0 m.gen
       else (s2.wr R.TALLY_STAT_MIRROR_ERR 0 1).fault 0x09 s.flushHart 1).flushStep).go

/-- Effect of TALLY_FLUSH_PERIODIC: 60 s after the start of the previous flush (R630). -/
def execTallyFlushPeriodic (s : State) : Host.Outcome State Fault Refusal := s.askFlush.go

/-- Effect of FLUSH: ZK_TALLY_CTRL written with FLUSH = 1 (R630, R637). -/
def execFlush (w : WCtx) (s : State) : Host.Outcome State Fault Refusal :=
  (s.judged w R.TALLY_CTRL_FLUSH 0 1 true State.askFlush).go

/-- Effect of TALLY_RECORD_PLACE: the writer takes the oldest record of its queue (R623, R624). -/
def execTallyRecordPlace (s : State) : Host.Outcome State Fault Refusal :=
  (match s.tallyQueue with
   | [] => s
   | q :: l => (({ s with tallyQueue := l } : State).placeRecord q).flushStep).go

/-- The record that ZK_TALLY_SUBMIT queues (R622). -/
def State.submitRecord (s : State) (v : Nat) : State :=
  s.tally (v % 32) (bitsOf v 7 6) (bitsOf v 31 16) (s.rd R.TALLY_SUB_DATA_DATA 0) (s.rd R.TALLY_SUB_DATA_DATA 1)

/-- Effect of SUBMIT: ZK_TALLY_SUBMIT written (R622, R637). -/
def execSubmit (w : WCtx) (v : Nat) (s : State) : Host.Outcome State Fault Refusal :=
  (s.judgedAt w (R.TALLY_SUBMIT_CHANNEL.word 0) R.TALLY_SUBMIT_CHANNEL 0 (v &&& fieldBits (R.TALLY_SUBMIT_CHANNEL.word 0) == 0)
    (decide (8 ≤ v % 32)) (fun t => t.submitRecord v)).go

/-- Effect of OPERATING_SECOND_TICK (R626). -/
def execOperatingSecondTick (s : State) : Host.Outcome State Fault Refusal := (s.inc R.TALLY_SECONDS_SECONDS 0 1).go

/-! ## Restore -/

/-- SEQ values of the records of the region, and their highest SECONDS. -/
def State.heldSeqs (s : State) : List Nat := s.heldSlots.map s.recSeq

/-- The next SEQ, past every restored record that is equal or newer (R633). -/
def nextAfter (n : Nat) (l : List Nat) : Nat :=
  (n + (l.map (fun q => if q = n then 1 else if newer32 n q then (q + 2 ^ 32 - n) % 2 ^ 32 + 1 else 0)).foldl max 0) % 2 ^ 32

/-- The restore of a full sequence; `flash`: the device answers (R627, R633, R634). -/
def State.restoreTally (s : State) (flash : Bool) : State :=
  let s1 := match (if flash then newestMirror s.mirror else none) with
    | some m =>
      let cells := m.image.foldl (fun (l : List Host.Cell) (c : Host.Cell) => memPut l c.1 c.2)
        (s.store.filter (fun (c : Host.Cell) => decide (c.1 < 0xE0000)))
      let a : State := { s with store := cells }
      let sec := (a.heldSlots.map a.recSec).foldl max m.seconds
      (((((((a.wr R.TALLY_SECONDS_SECONDS 0 sec).wr R.TALLY_CYCLES_CYCLES 0 m.cycles).inc R.TALLY_CYCLES_CYCLES 0
        (s.rd R.RST_CAUSE_KEEP_PWR 0)).wr R.TALLY_DROPPED_DROPPED 0 (satAdd 32 m.dropped (s.rd R.TALLY_DROPPED_DROPPED 0))).wr
        R.TALLY_SEQ_NEXT_SEQ 0 (nextAfter m.nextSeq a.heldSeqs)).wr R.TALLY_MIRROR_SLOT 0 m.slot).wr R.TALLY_MIRROR_GEN 0 m.gen).wr
        H.TALLY_LAST_SLOT 0 m.slot
    | none => (s.wr R.TALLY_CYCLES_CYCLES 0 1).wr R.TALLY_STAT_NO_MIRROR 0 1
  let s2 := s.tallyStage.foldl (fun (t : State) (q : TallyReq) => t.placeRecord q) (s1.wr R.TALLY_STAT_RESTORED 0 1)
  { s2 with tallyStage := [] }

end Sys2Proof.Machine
end

