-- ==== Sys2Proof/Machine/Startup.lean ====
section
/-! DEFINITION. The start-up sequences (R496–R520): self-calibration, the Store's initialisation, the image, the twin role, the
ramp, the sites and READY. -/

namespace Sys2Proof.Machine

/-! ## Start, ROM and CALIB -/

/-- A sequence runs and stands at a step (R497). -/
def State.atStep (s : State) (n : Nat) : Bool := s.bit H.TOP_BOOT_ON 0 && s.rd R.BOOT_STEP 0 == n

/-- The ROM sets an enable bit of ZK_CLK_EN (R489). -/
def State.enableClock (s : State) (b : Nat) : State := s.wr R.CLK_EN_EN 0 (setBit (s.rd R.CLK_EN_EN 0) b true)

/-- A sequence starts, and the Tally's clock with it: what ZK_BOOT, ZK_BOOT_TIME and SAFE_GOV show (R496, R522, R523). -/
def State.startSequence (s : State) (block : Bool) : State :=
  (((s.clearElems [R.BOOT_STEP, R.BOOT_ERR, R.BOOT_FROM_RING, R.BOOT_GROUP, R.BOOT_TIME_READY_T, R.BOOT_TIME_STEP_T,
    R.STATUS_SAFE_GOV, H.TOP_BOOT_T, H.TOP_BOOT_SUB, H.TOP_SITES_END, H.TOP_WAIT_B, H.TOP_RAMP_ST] 0).wrB R.BOOT_BLOCK_START 0
    block).wr H.RST_SEQ 0 0).wr H.TOP_BOOT_ON 0 1 |>.enableClock 8

/-- Effect of SEQUENCE_START: por_n rises, or the BLOCK scope has ended (R496, R519, R520). When por_n rises it has been low for
100 µs (R498), so xspi_rst_n stands high from there on (R639). -/
def execSequenceStart (s : State) : Host.Outcome State Fault Refusal :=
  (if s.rd H.RST_SEQ 0 = 1 then (s.startSequence false).wr H.RST_XSPI_RST_N 0 1
  else if s.rd H.RST_SEQ 0 = 2 then s.startSequence true
  else s).go

/-- Effect of ROM_STEP_DONE: the full sequence goes on with CALIB, at whose start the platform block gets its clock, the block
sequence with STORE (R458, R489, R497, R519, R652). -/
def execRomStepDone (ok factory : Bool) (s : State) : Host.Outcome State Fault Refusal :=
  (if s.atStep 0 && ok then
    if s.bit R.BOOT_BLOCK_START 0 then s.setStep 2
    else ((s.wrB H.FLT_PSC_ANSWER 0 factory).enableClock 9).setStep 1
  else s).go

/-- The clocks step: domains whose loop locks switch to it, the others stay on the fast RC; monitors that fail their proof
test are marked (R470, R475, R483, R485, R500). -/
def State.calibClocks (s : State) (loops monitors : List Nat) : State :=
  let stay (d : Nat) : Bool := loops.contains d || (decide (d < 2) && (monitors.contains 0 || monitors.contains 1))
  let s1 := s.wr R.CLK_STATUS_REF 0 (([0, 1, 2].find? (fun k => s.eligible k)).getD 3)
  let s2 := (List.range 6).foldl (fun (t : State) (d : Nat) =>
    let t1 := t.when (!loops.contains d) (fun u => u.wr R.CLK_STATUS_LOCK (loopOf d) 1)
    let t2 := t1.when (monitors.contains d) (fun u => u.wr R.CLK_STATUS_MON_BAD d 1)
    if stay d then t2 else (t2.wr R.CLK_STATUS_ON_FRC d 0).beginSwitch [d] false (!s.bit R.CLK_STATUS_SLOW_BAD 0)) s1
  ((List.range 6).filter (fun d => loops.contains d || monitors.contains d)).foldl (fun t d => t.fault 0x0F d 1) s2

/-- The converters, diodes and zero currents that fail (R329, R464, R500). -/
def State.calibSense (s : State) (c : CalibResult) : State :=
  let s1 := (c.phases.filter (fun p => decide (p < 128))).foldl (fun (t : State) (p : Nat) =>
    (t.wr H.PD_CAL_BAD p 1).fault 0x04 p 1) s
  let s2 := (c.rails.filter (fun r => decide (r < 14))).foldl (fun (t : State) (r : Nat) =>
    (t.wr H.PD_CAL_RBAD r 1).fault 0x03 r 1) s1
  (c.diodes.filter s.diodeOwn).foldl State.diodeProofFail s2

/-- Effect of CALIB_DONE (R500, R501). -/
def execCalibDone (c : CalibResult) (s : State) : Host.Outcome State Fault Refusal :=
  (if s.atStep 1 then
    if c.loops.contains 0 || c.loops.contains 1 then s.stopBoot 1
    else
      let s1 := s.calibClocks c.loops c.monitors
      if c.delayLine then s1.stopBoot 2 else (s1.calibSense c).setStep 2
  else s).go

/-! ## STORE and IMAGE -/

/-- A row of the Store is replaced by a spare row (R449, R561). -/
def State.retireRow (s : State) (row : Nat) : State :=
  if s.bit H.STORE_RETIRED row then s
  else (s.wr H.STORE_RETIRED row 1).wr R.STORE_STAT_RETIRED 0 (s.rd R.STORE_STAT_RETIRED 0 + 1)

/-- The IMAGE step starts; the host block gets its clock (R519, R614). -/
def State.startImage (s : State) : State :=
  ((s.clearElems [R.FW_IMAGE_VERIFIED, R.FW_IMAGE_REASON] 0).enableClock 7).setStep 3

/-- Effect of STORE_INIT_DONE: in the full sequence the Store reads 0 and the failed rows are retired; in the block sequence it
keeps its contents (R502, R519, R522). -/
def execStoreInitDone (failedRows : List Nat) (s : State) : Host.Outcome State Fault Refusal :=
  (if s.atStep 2 then
    if s.bit R.BOOT_BLOCK_START 0 then s.startImage
    else
      let bad := (failedRows.filter (fun r => decide (r < 4096))).dedup
      let s1 := ({ s with store := [] } : State).clearFlds [H.STORE_ECC, H.STORE_FROW, H.GL_SHARED_RES]
      let s2 := (bad.take 16).foldl State.retireRow s1
      let s3 := s2.wr R.BOOT_ROWS_RETIRED 0 (min 255 bad.length)
      if decide (16 < bad.length) || bad.any Config.romRow then s3.stopBoot 3 else s3.startImage
  else s).go

/-- Bytes `0` to `n − 1` of the flash image region; erased flash reads 0xFF. -/
def State.imageBytes (s : State) (n : Nat) : List Byte :=
  s.map.image.take n ++ List.replicate (n - s.map.image.length) (255 : Byte)

/-- The image in flash: as many bytes as its header names, within the region (R504, R583). -/
def State.flashImage (s : State) : List Byte :=
  let h := s.imageBytes 128
  if u32At h 0x7C = crc32c (h.take 0x7C) then s.imageBytes (max 384 (min 33554432 (imgLen h))) else h

/-- Segments of an image in the Store, and the CRC-32C of its `k`-th CODE segment in word `k` of the ROM's part of the hart data
region (R583); a re-read of R588 writes the CODE segments only. -/
def State.loadSegments (s : State) (bs : List Byte) (codeOnly : Bool) : State :=
  let g := (segTable bs).filter (fun x => segCode x || !codeOnly)
  let s1 := g.foldl (fun (t : State) (x : Segment) => t.stBytes x.addr (segBytes bs x)) s
  (((segTable bs).filter segCode).zipIdx).foldl (fun (t : State) (x : Segment × Nat) =>
    t.st (0x4FF00 + 4 * (x.2 % 64)) 4 (crc32c (segBytes bs x.1))) s1

/-- A verified image: what ZK_FW_IMAGE and ZK_FW_VERSION show (R614). -/
def State.showImage (s : State) (bs : List Byte) : State :=
  ((((s.wr R.FW_IMAGE_REASON 0 0).wr R.FW_IMAGE_VERIFIED 0 1).wr R.FW_IMAGE_KEY_SLOT 0 (imgKeySlot bs)).wr R.FW_VERSION_VERSION 0
    (imgVersion bs)).wr H.FW_IF_VER 0 (imgIfVer bs)

/-- Entries of an image's board block: the rail, and the words of its three compensator registers (R581). -/
def boardEntries (bs : List Byte) : List (Nat × List Nat) :=
  let o := u32At bs 0x2C
  if o = 0 then []
  else (List.range (min 14 (byteAt bs o))).map (fun k =>
    (byteAt bs (o + 4 + 16 * k), (List.range 3).map (fun j => u32At bs (o + 8 + 16 * k + 4 * j))))

/-- A compensator word of a rail written; 0 leaves the register as it is (R581). -/
def State.putComp (s : State) (r : Nat) (x : Nat × Nat) : State :=
  let off := R.PD_RAIL_COMP0_KPM.word r + 4 * x.2
  if x.1 = 0 then s
  else (wordFields off).foldl (fun (t : State) (y : Fld × Nat) => t.wr y.1 y.2 (y.1.merge y.2 (t.rd y.1 y.2) off x.1)) s

/-- H0 writes the board block's values into the compensator registers before it first sets EN (R581, R584). An entry of a rail that
the package has not is passed over: DESIGN CHOICE, assumption 60. -/
def State.boardValues (s : State) (bs : List Byte) : State :=
  ((boardEntries bs).filter (fun e => railPresent s.zk4 e.1)).foldl (fun (t : State) (e : Nat × List Nat) =>
    e.2.zipIdx.foldl (fun (u : State) (x : Nat × Nat) => u.putComp e.1 x) t) s

/-- The image runs from the Store and serves ring 0, and the sequence is at MAP (R505, R583, R588, R591). -/
def State.runImage (s : State) : State :=
  ((List.range 4).foldl State.startHart ((s.wr R.STATUS_SAFE_GOV 0 0).wr R.RING_CFG_EN 0 1)).setStep 4

/-- A refused image: REASON, and where only the signature fails the segments that no hart executes (R583). -/
def State.refuseImage (s : State) (bs : List Byte) (reason : Nat) (codeOnly : Bool) : State :=
  (s.when (reason == 6) (fun t => t.loadSegments bs codeOnly)).wr R.FW_IMAGE_REASON 0 reason

/-- The image received over ring 0 is verified as in IMAGE; the sequence resumes at MAP where it passes (R518). -/
def State.runUpload (s : State) (psc : PscAnswer) : State :=
  let bs := s.map.upload
  let reason := imageReason s.zk4 true psc bs
  let s1 : State := { s.wr H.FW_FLASH_OP 0 0 with map := { s.map with upload := [] } }
  if reason = 0 then ((((s1.finishCmd 0 0 0 0).loadSegments bs false).showImage bs).wr R.BOOT_ERR 0 0).boardValues bs |>.runImage
  else ((s1.refuseImage bs reason false).wr R.BOOT_ERR 0 5).finishCmd 0 6 reason 0

/-- Effect of IMAGE_VERIFIED: the ROM has read and verified the image of the sequence, in which the Tally is restored first, or
has read it again for harts whose restart check failed; or an image received over ring 0 is verified (R505, R518, R583, R588,
R633). -/
def execImageVerified (answers : Bool) (psc : PscAnswer) (s : State) : Host.Outcome State Fault Refusal :=
  (let bs := s.flashImage
   let reason := imageReason s.zk4 answers psc bs
   if s.atStep 3 then
     let s1 := s.when (!s.bit R.BOOT_BLOCK_START 0) (fun t => t.restoreTally answers)
     if reason = 0 then ((s1.loadSegments bs false).showImage bs).boardValues bs |>.runImage
     else (s1.refuseImage bs reason false).safeGovernor (if reason = 7 then 4 else 5)
   else if s.bit R.STATUS_SAFE_GOV 0 && s.rd H.FW_FLASH_OP 0 == 3 && s.ringUnderWay 0 0x14 then
     s.runUpload psc
   else
     let ks := s.touched H.FW_REREAD
     if ks.isEmpty then s
     else
       let s1 := s.clearFld H.FW_REREAD
       if reason = 0 then ks.foldl State.restartHart ((s1.loadSegments bs true).showImage bs)
       else s1.refuseImage bs reason true).go

/-! ## The role -/

/-- Digest of the map that has been admitted, staged or in force. -/
def State.admitted (s : State) : Option Nat :=
  match s.map.shadow with
  | some m => some (digestOf m)
  | none => s.map.live.map digestOf

/-- The sequence ends for an instance that does not govern (R497, R506). -/
def State.endSequence (s : State) : State :=
  (((s.setStep 7).wr H.TOP_BOOT_ON 0 0).wr H.TOP_SITES_END 0 1).wr H.TOP_WAIT_B 0 0

/-- The instance governs from the ramp start: its commands to the dies start afresh, and every compute fold is held (R506,
R511). -/
def State.governStart (s : State) : State :=
  let s1 := (((s.wr R.TWIN_STATUS_ROLE 0 4).setStep 5).clearElems [H.TOP_WAIT_B, H.TOP_RAMP_ST, H.TWIN_NEXT_ROLE,
    R.BOOT_GROUP] 0).wrB H.GL_START_HOLD 0 (!s.bit R.STATUS_READY 0)
  if s.running then
    let s2 := ((s1.recsOf 0x0202).map (fun (r : Rec) => r.u8 4)).foldl (fun (t : State) (f : Nat) =>
      (t.wr H.CROOK_CFG_DUE f 1).threshStep true f) (s1.clearFld H.CROOK_EN_SENT)
    (((s2.recsOf 0x0105).map (fun (r : Rec) => r.u8 4)).foldl State.sendOptAllow s2.commitGrants).throttles true
  else s1

/-- The role that R506 gives, from the peer's last STATUS; the proof test of R507 runs where neither governs and the peer is
there (R506, R507). -/
def State.decideRole (s : State) (digest : Nat) (peerStarting gateFail : Bool) : State :=
  let peer := s.rd R.TWIN_STATUS_PEER_ROLE 0
  let there := peer != 7
  if peer = 4 then
    if s.rd R.TWIN_DIGEST_PEER_MAP 0 = digest then (s.nextRole 1).endSequence
    else ((s.wr R.BOOT_ERR 0 0xA).endSequence).bootRecord 2
  else if there && gateFail && s.ident.instB then
    (((s.fault 0x0E 2 1).wr R.BOOT_ERR 0 0xB).endSequence).bootRecord 2
  else if s.ident.instB && there && peerStarting then s.wr H.TOP_WAIT_B 0 1
  else (s.when (there && gateFail) (fun t => t.fault 0x0E 2 1)).governStart

/-- Effect of ROLE_DECISION: the instance's map is admitted. `peerStarting`: the peer shows STEP 0x0–0x4 with ERR 0x0;
`gateFail`: the proof test of R507 has failed (R506, R507). -/
def execRoleDecision (peerStarting gateFail : Bool) (s : State) : Host.Outcome State Fault Refusal :=
  (if s.atStep 4 then
    (match s.admitted with
     | some d => s.decideRole d peerStarting gateFail
     | none => s)
  else s).go

/-- Effect of B_WAIT_EXPIRY: Zoskare B has waited 10 ms (R506). -/
def execBWaitExpiry (gateFail : Bool) (s : State) : Host.Outcome State Fault Refusal :=
  (if s.atStep 4 && s.bit H.TOP_WAIT_B 0 then
    (match s.admitted with
     | some d => s.decideRole d false gateFail
     | none => s)
  else s).go

/-! ## The ramp -/

/-- SAFE record of a rail. -/
def State.safeRec (s : State) (r : Nat) : Option Rec := s.rec? 0x0901 r

/-- Rails with ENABLE = 1 of a ramp group (R155, R508). -/
def State.groupRails (s : State) (g : Nat) : List Nat :=
  s.rails.filter (fun r => s.bit R.PD_RAIL_CFG_ENABLE r &&
    (match s.safeRec r with | some x => x.u8 5 == g | none => false))

/-- Next ramp group after the one that ZK_BOOT.GROUP shows (R508, R522). -/
def State.nextGroup (s : State) : Option Nat :=
  let g := s.rd R.BOOT_GROUP 0
  (List.range 14).find? (fun k => (decide (g < k) || g == 0xF) && !(s.groupRails k).isEmpty)

/-- No later group has a rail to ramp. -/
def State.lastGroup (s : State) : Bool := s.nextGroup.isNone

/-- The rail has ended its part of the ramp: at power-good, or OFF (R508, R509). -/
def State.rampOver (s : State) (r : Nat) : Bool := s.bit H.PD_PG r || !s.railOn r

/-- A group whose rails have ended their ramp is done: its gap runs, or the ramp has ended (R508, R512). -/
def State.groupDone (s : State) : State :=
  let g := s.rd R.BOOT_GROUP 0
  if s.atStep 5 && s.rd H.TOP_RAMP_ST 0 == 1 && (s.groupRails g).all s.rampOver then
    if s.lastGroup then ((s.wr H.TOP_RAMP_ST 0 0).wr R.BOOT_GROUP 0 0xF).setStep 6 else s.wr H.TOP_RAMP_ST 0 2
  else s

/-- A rail of the group ramps, is adopted where it is found ON, or stays off (R249, R464, R500, R508, R519). -/
def State.rampRail (s : State) (scFails sg2Fails : List Nat) (r : Nat) : State :=
  let s1 := ((s.phasesOf r).filter (fun p => scFails.contains p && s.ph p != 5)).foldl (fun (t : State) (p : Nat) =>
    t.fencePhase p 1) s
  if s.railOn r then (s1.wr H.PD_PG r 1).wr H.PD_PG_NEW r 1
  else if sg2Fails.contains r then (s1.wr R.PD_RAIL_STAT_OFF_LATCH r 1).fault 0x02 r 2
  else if s.bit H.PD_CAL_RBAD (s.rd R.PD_RAIL_CFG_SENSE_CH r) then (s1.wr H.PD_OFF_FAIL r 1).wr R.BOOT_ERR 0 8
  else if s.bit R.PD_RAIL_STAT_OFF_LATCH r then s1
  else
    let s2 := s1.startRamp r
    ((s2.phasesOf r).filter (fun p => s2.bit H.PD_CAL_BAD p && s2.ph p == 1)).foldl State.deratePhase s2

/-- The trip latch stops the ramp (R516). -/
def State.rampTrip (s : State) : State := ((s.wr R.BOOT_ERR 0 9).wr H.TOP_BOOT_ON 0 0).bootRecord 2

/-- Effect of RAMP_GROUP_START: the proof tests of the group's rails have ended, with the phases and the rails that failed them
(R464, R508, R516). -/
def execRampGroupStart (scFails sg2Fails : List Nat) (s : State) : Host.Outcome State Fault Refusal :=
  (if s.atStep 5 && s.holder && s.running && s.rd H.TOP_RAMP_ST 0 == 0 then
    if s.bit R.TH_TRIP_LATCHED 0 then s.rampTrip
    else
      (match s.nextGroup with
       | none => (s.wr R.BOOT_GROUP 0 0xF).setStep 6
       | some g =>
         let s1 := (s.wr R.BOOT_GROUP 0 g).wr H.TOP_RAMP_ST 0 1
         ((s1.groupRails g).foldl (fun (t : State) (r : Nat) => t.rampRail scFails sg2Fails r) s1).groupDone)
  else s).go

/-- Effect of RAIL_POWER_GOOD: 100 µs of conversions at or above V_ref − 20 mV after the ramp (R508). -/
def execRailPowerGood (rail : Nat) (s : State) : Host.Outcome State Fault Refusal :=
  (if s.rails.contains rail && s.railOn rail && !s.bit R.PD_RAIL_STAT_RAMPING rail && !s.bit H.PD_PG rail
      && decide (400 ≤ s.rd H.PD_PG_CNT rail) then
    ((s.wr H.PD_PG rail 1).wr H.PD_PG_NEW rail 1).groupDone
  else s).go

/-- Effect of POWER_GOOD_TIMEOUT: 1 ms after its ramp time the rail is not at power-good (R509). -/
def execPowerGoodTimeout (rail : Nat) (s : State) : Host.Outcome State Fault Refusal :=
  (if s.rails.contains rail && s.railOn rail && !s.bit H.PD_PG rail then
    ((((((s.railOff rail).wr R.PD_RAIL_STAT_OFF_LATCH rail 1).wr H.PD_OFF_FAIL rail 1).wr R.STATUS_RAIL_DOWN 0 1).wr
      R.BOOT_ERR 0 8).fault 0x02 rail 2).groupDone
  else s).go

/-- Effect of RAMP_GAP_EXPIRY (R508). -/
def execRampGapExpiry (s : State) : Host.Outcome State Fault Refusal :=
  (if s.atStep 5 && s.rd H.TOP_RAMP_ST 0 == 2 then s.wr H.TOP_RAMP_ST 0 0 else s).go

/-! ## SITES and READY -/

/-- Site calibration: the values it records are free; a site beyond ±3.0 °C is FAILED (R513). -/
def State.calibrateSites (s : State) (bad : List Nat) : State :=
  let s1 : State := { ((s.wr H.TH_CAL_BASE 0 s.free).wr H.TH_CAL_ON 0 1) with free := s.free + 3072 }
  (bad.filter (fun k => sitePresent s.zk4 k)).foldl (fun (t : State) (k : Nat) =>
    ((t.wr H.TH_SFAIL k 1).wr R.TH_SITE_STATE k 3).fault 0x14 k 1) s1

/-- Effect of SITES_DONE (R513, R519). -/
def execSitesDone (bad : List Nat) (s : State) : Host.Outcome State Fault Refusal :=
  (if s.atStep 6 && s.bit R.CROOK_STATUS_SYNCED 0 then
    (s.when (!s.bit R.BOOT_BLOCK_START 0) (fun t => t.calibrateSites bad)).endSequence
  else s).go

/-- A rail's power-good boundary: the start-up TRACK of its slots ends and its folds' ECHO exchange runs (R510, R511). -/
def State.powerGoodAt (s : State) (r : Nat) : State :=
  let ls := s.slots.filter (fun l => (s.rd R.LE_SLOT_OUTSEL_OUT_KIND l == 1 || s.rd R.LE_SLOT_OUTSEL_OUT_KIND l == 2)
    && s.rd R.LE_SLOT_OUTSEL_OUT_INDEX l == r)
  let fs := (s.foldsOf r).filter (fun f => (s.rec? 0x0202 f).isSome)
  fs.foldl (fun (t : State) (f : Nat) => t.when s.holder (fun u => u.startEcho f true)) (ls.foldl State.endStartTrack
    (s.wr H.PD_PG_NEW r 0))

/-- Every power-good boundary that is due. -/
def State.powerGoods (s : State) : State := (s.touched H.PD_PG_NEW).foldl State.powerGoodAt s

/-- A rail with ENABLE = 1 is OFF by its latch or under R509 (R509, R521). -/
def State.railDown (s : State) (r : Nat) : Bool :=
  s.bit R.PD_RAIL_CFG_ENABLE r && !s.railOn r && (s.bit R.PD_RAIL_STAT_OFF_LATCH r || s.bit H.PD_OFF_FAIL r)

/-- The conditions of READY of a governing instance (R514). -/
def State.mayReady (s : State) : Bool :=
  s.running && !s.bit R.CLK_STATUS_ON_FRC 0 && !s.bit R.TH_TRIP_LATCHED 0
    && (s.bit R.STATUS_READY 0
      || (s.bit H.TOP_SITES_END 0 && s.rails.all (fun r => !s.bit R.PD_RAIL_CFG_ENABLE r || s.bit H.PD_PG r || s.railDown r)))

/-- The holder's latest STATUS carried READY, and the peer counts as ready (R408, R515). -/
def State.holderReady (s : State) : Bool :=
  s.bit R.TWIN_STATUS_PEER_READY 0 && decide (s.rd H.TWIN_RDY_AGE 0 ≤ s.rd H.TWIN_ST_AGE 0)

/-- READY at a boundary; where it is set, the 256 frames of a controller that has sent no reading start (R317, R511, R514, R515,
R523). -/
def State.readyStep (s : State) : State :=
  let want := if s.holder then s.mayReady else s.role == 3 && s.holderReady
  let s1 := (s.wrB R.STATUS_READY 0 want).wrB R.STATUS_RAIL_DOWN 0 (s.rails.any s.railDown)
  if want && !s.bit R.STATUS_READY 0 then
    (((s1.wrAll H.TH_HBM_AGE ((List.range 12).filter (fun m => !s1.bit H.TH_HBM_SEEN m)) (fun _ => 0)).wr
      R.BOOT_TIME_READY_T 0 (s.rd H.TOP_BOOT_T 0)).wr H.GL_START_HOLD 0 0).bootRecord 0
  else s1

/-- Time since the start of the sequence, in 0.1 ms: 200 frames, or 80 while the frame domain runs on the fast RC (R479,
R523). -/
def State.bootTime (s : State) : State :=
  let n := s.rd H.TOP_BOOT_SUB 0 + 1
  if (if s.bit R.CLK_STATUS_ON_FRC 0 then 80 else 200) ≤ n then (s.wr H.TOP_BOOT_SUB 0 0).inc H.TOP_BOOT_T 0 1
  else s.wr H.TOP_BOOT_SUB 0 n

/-- The sequence at a boundary: a trip latch set in RAMP or SITES stops it (R516). -/
def State.bootBoundary (s : State) : State :=
  let s1 := s.bootTime
  if (s1.atStep 5 || s1.atStep 6) && s1.bit R.TH_TRIP_LATCHED 0 then s1.rampTrip else s1

end Sys2Proof.Machine
end

