-- ==== Sys2Proof/Machine/StoreOps.lean ====
section
/-! DEFINITION. The Store through its ports (R503, R549–R568), bank atomics (R563–R565), retention (R566), rows under test
(R449, R561, R562), and the sample FIFO's registers (R574–R576). -/

namespace Sys2Proof.Machine

/-! ## Ports -/

/-- STORE of a full sequence has not ended, so nothing may be stored through the DMA and host window ports (R503). -/
def State.storeShut (s : State) : Bool :=
  !s.bit R.BOOT_BLOCK_START 0 && (decide (s.rd R.BOOT_STEP 0 < 3) || s.rd R.BOOT_STEP 0 == 9)

/-- store_busy at a requester's port (R556). -/
def State.storeBusy (s : State) (q : Requester) : State :=
  match q with
  | .hart k => (s.wr R.STORE_BUSY_HART k 1).send (.hartEvent k 0x10)
  | _ => s.wr R.STORE_BUSY_HOST 0 ((s.rd R.STORE_BUSY_HOST 0 + 1) % 65536)

/-- An access to a bank: one in retention wakes, and the port is told that it waits (R556, R566). -/
def State.reachBank (s : State) (q : Requester) (a : Nat) : State :=
  let b := bankOf a
  if s.bit H.STORE_ASLEEP b then (s.wr H.STORE_BUSYW b 1).storeBusy q else s

/-- Effect of BANK_WAKE_DONE: the bank is awake until its bit is written 0 and then 1 (R566). -/
def execBankWakeDone (bank : Nat) (s : State) : Host.Outcome State Fault Refusal :=
  (if s.bit H.STORE_BUSYW bank && decide (bank < 16) then s.clearElems [H.STORE_BUSYW, H.STORE_ASLEEP, H.STORE_DMAQ] bank else s).go

/-- RET stored: a bit that rises takes its bank into retention, a bit that is 0 keeps it awake (R566). -/
def State.putRet (s : State) (v : Nat) : State :=
  (List.range 16).foldl (fun (t : State) (b : Nat) =>
    let on := bitOf v b
    let was := s.bit R.STORE_RET_RET b
    (t.wrB R.STORE_RET_RET b on).when (on != was) (fun u =>
      (u.wrB H.STORE_ASLEEP b on).clearElems [H.STORE_BUSYW, H.STORE_DMAQ] b)) s

/-- Effect of RET_WRITE. -/
def execRetWrite (w : WCtx) (v : Nat) (s : State) : Host.Outcome State Fault Refusal :=
  (let now := (List.range 16).foldl (fun n b => setBit n b (s.bit R.STORE_RET_RET b)) 0
   let bit0 := s.rd R.STORE_RET_RET 0
   s.judged w R.STORE_RET_RET 0 (if v % 65536 = now then bit0 else 1 - bit0) true (fun t => t.putRet v)).go

/-- An injection at a write of the armed address inverts check bits of the word stored (R459). -/
def State.injectStore (s : State) (a n : Nat) : State :=
  let k := s.rd R.FLT_INJ_ADDR_ADDR 0
  let hit := decide (a < 4 * k + 4) && decide (4 * k < a + n)
  if hit && s.injecting 1 then (s.wr H.STORE_ECC k 5).injected
  else if hit && s.injecting 2 then (s.wr H.STORE_ECC k 6).injected
  else s

/-- Numbers of the words that an access of `n` bytes reaches. -/
def wordsAt (a n : Nat) : List Nat := (List.range ((a + n + 3) / 4 - a / 4)).map (fun k => a / 4 + k)

/-- The words that a write covers in part only. -/
def wordsInPart (a n : Nat) : List Nat := (wordsAt a n).filter (fun k => decide (4 * k < a) || decide (a + n < 4 * k + 4))

/-- Bytes stored through a port. A word that the write covers in part is read first, and the errors of that read act
(R550, R558, R559). -/
def State.portWrite (s : State) (q : Requester) (a : Nat) (b : List Byte) : State :=
  let s1 := (wordsInPart a b.length).foldl (fun (t : State) (k : Nat) => t.eccEvent k (s.rd H.STORE_ECC k)) (s.reachBank q a)
  (s1.stBytes a b).injectStore a b.length

/-- A hart writes a log record into the next slot of the log ring (R609, R613). -/
def State.logRecord (s : State) (k off : Nat) (b : List Byte) : State :=
  let lev := byteAt b 5
  if lev < s.rd R.FW_LOG_LEVEL_MIN 0 then s
  else if 2 ≤ s.rd R.FW_HART_STAT_LEVEL k ∧ lev < 3 then s.inc R.FW_LOG_DROPPED 0 1
  else
    ((s.portWrite (.hart k) off b).wr R.FW_LOG_WPTR 0 ((s.rd R.FW_LOG_WPTR 0 + 1) % 65536)).when (lev == 3) (fun t => t.hostIrq 4)

/-- A hart writes a trace record into the next slot of the trace buffer (R610, R613). -/
def State.traceRecord (s : State) (k off : Nat) (b : List Byte) : State :=
  let point := byteAt b 6
  if !bitOf (s.rd R.FW_TRACE_EN_EN (point / 32)) (point % 32) then s
  else if 1 ≤ s.rd R.FW_HART_STAT_LEVEL k then s.inc R.FW_TRACE_TRACE_SHED 0 1
  else (s.portWrite (.hart k) off b).wr R.FW_TRACE_WPTR 0 ((s.rd R.FW_TRACE_WPTR 0 + 1) % 65536)

/-- Store address of the next log record and of the next trace record (R591, R609, R610). -/
def State.logAt (s : State) : Nat := 0x5C000 + 32 * (s.rd R.FW_LOG_WPTR 0 % 256)
def State.traceAt (s : State) : Nat := 0x5E000 + 16 * (s.rd R.FW_TRACE_WPTR 0 % 512)

/-- A write that reaches the Store; a hart's write of a whole record into the next slot of the log or the trace is such a
record. -/
def State.storeIn (s : State) (q : Requester) (off : Nat) (b : List Byte) : State :=
  match q with
  | .hart k =>
    if off = s.logAt ∧ b.length = 32 then s.logRecord k off b
    else if off = s.traceAt ∧ b.length = 16 then s.traceRecord k off b
    else s.portWrite q off b
  | _ => s.portWrite q off b

/-- The Store serves the access: 1 to 64 bytes of the Store, within one block of 64 (R658). -/
def storeServed (off n : Nat) : Bool :=
  decide (1 ≤ n) && decide (off % 64 + n ≤ 64) && decide (off < storeSize)

/-! ## Rights in the Store -/

/-- Slots of a ring's command queue. -/
def State.cmdSize (s : State) (r : Nat) : Nat := 2 ^ s.rd R.RING_CFG_CMD_LOG2 r

/-- First byte and size of a ring's data buffer (R615). -/
def State.bufAt (s : State) (r : Nat) : Nat := 4096 * s.rd R.RING_DATA_BASE r
def State.bufSize (s : State) (r : Nat) : Nat := 4096 * s.rd R.RING_DATA_PAGES r

/-- The byte lies in the command entries or in the data buffer of a ring that is served (R593, R615). -/
def State.ringByte (s : State) (a : Nat) : Bool :=
  (List.range 64).any (fun r => s.bit R.RING_CFG_EN r &&
    ((decide (256 * s.rd R.RING_CMD_BASE_BASE r ≤ a) && decide (a < 256 * s.rd R.RING_CMD_BASE_BASE r + 64 * s.cmdSize r))
      || (decide (s.bufAt r ≤ a) && decide (a < s.bufAt r + s.bufSize r))))

/-- What the host driver's write of a byte leaves there: the new value in its rings and in QCAP; in a heft word CLASS and PIN, and
INEXACT cleared where a 0 is written; else the old value (R359, R361, R392, R545). -/
def State.hostByte (s : State) (a : Nat) (old new : Byte) : Byte :=
  if s.ringByte a || (decide (s.qcapAt 0 ≤ a) && decide (a < s.qcapAt 4096)) then new
  else if s.heftAt 0 ≤ a ∧ a < s.heftAt 4096 ∧ (a - s.heftAt 0) % 4 = 0 then (old &&& 0xC0) ||| (new &&& 0x1F) ||| (old &&& new &&& 0x20)
  else old

/-- The reserved bits of a heft word, which a write leaves as they are without being refused (R16, R392). -/
def State.heftReserved (s : State) (a : Nat) : Byte :=
  if s.heftAt 0 ≤ a ∧ a < s.heftAt 4096 then
    (if (a - s.heftAt 0) % 4 = 0 then 0xC0 else if (a - s.heftAt 0) % 4 = 1 then 0xFF else 0)
  else 0

/-- The bytes that a requester's write leaves from an address on, and whether it would change what it has no right to: the PSC and the
harts may write the whole Store, the host and the agents that share its path what R545 names (R545, R655, R666). -/
def State.allowedBytes (s : State) (q : Requester) (a : Nat) : List Byte → List Byte × Bool
  | [] => ([], false)
  | b :: t =>
    let x := s.allowedBytes q (a + 1) t
    let old := memGet s.store a
    let new := (match q with | .psc => b | .hart _ => b | .host => s.hostByte a old b | .bmc => old)
    (new :: x.1, x.2 || (new ^^^ b) &&& ~~~(s.heftReserved a) != 0)

/-- Of two ports the one of lower priority: the hart port goes before the host window port; accesses of one port never meet (R551,
R552, R555). -/
def laterPort (a b : Requester) : Option Requester :=
  if Requester.isHart a && !Requester.isHart b then some b
  else if !Requester.isHart a && Requester.isHart b then some a
  else none

/-- A write meets a read of the same word through another port: store_busy goes to the later of the two (R555, R556). -/
def State.meet (s : State) (q : Requester) (reader : Option Requester) : State :=
  match reader.bind (laterPort q) with
  | some p => s.storeBusy p
  | none => s

/-- A write that reaches the Store's span: the bytes that the requester may write are stored, the others keep their values and the write
is counted as refused where it would change them; before STORE has ended all are ignored and counted (R503, R545, R568, R658,
R666). -/
def State.storeWrite (s : State) (w : WCtx) (off : Nat) (b : List Byte) : State :=
  if !storeServed off b.length then s.answer .busError
  else if s.storeShut && !Requester.isHart w.req then s.refuse w off 3
  else
    let x := s.allowedBytes w.req off b
    let t := if x.2 && x.1 == memGetBytes s.store off b.length then s else s.storeIn w.req off x.1
    if x.2 then t.refuse w off 4 else t.answer .ok

/-- Effect of STORE_WRITE (R555). -/
def execStoreWrite (w : WCtx) (off : Nat) (data : StoreData) (s : State) : Host.Outcome State Fault Refusal :=
  (let t := s.storeWrite w off data.bytes
   if t.resp == .ok then t.meet w.req data.reader else t).go

/-- SECDED state of a word as a read finds it: what is stored in it, or what the read meets now. -/
def State.eccAt (s : State) (word : Nat) (e : EccErr) : Nat :=
  match e with
  | .clean => s.rd H.STORE_ECC word
  | .single => if s.rd H.STORE_ECC word = 0 then 1 else s.rd H.STORE_ECC word
  | .double => if s.rd H.STORE_ECC word % 4 = 2 then s.rd H.STORE_ECC word else 2

/-- What a reader gets for an uncorrectable word: a load access fault and its HART source, which tells of an injection, or data 0
returned poisoned (R460, R559). -/
def State.poisonTo (s : State) (q : Requester) (inj : Bool) : State :=
  match q with
  | .hart k => ((s.fault 0x09 k 1 inj).send (.hartEvent k 0x11)).answer .poison
  | _ => s.answer .poison

/-- A read of the Store's span (R503, R558, R559, R566, R658). -/
def State.storeRead (s : State) (w : WCtx) (off size : Nat) (err : EccErr) : State :=
  if !storeServed off size then s.answer .busError
  else if s.storeShut && !Requester.isHart w.req then s.answer (.data 0)
  else
    let s1 := (wordsAt off size).foldl (fun (t : State) (k : Nat) => t.eccEvent k (s.eccAt k err)) (s.reachBank w.req off)
    if (wordsAt off size).any (fun k => s.eccAt k err % 4 == 2) then
      s1.poisonTo w.req ((wordsAt off size).any (fun k => s.eccAt k err == 6))
    else s1.answer (.data (s.ld off size))

/-- A mix of `n` bits of two values, which bits of each being open: free values, 32 bits at a time (R555; assumption 2). -/
def State.mixBits (s : State) (a b : Nat) : Nat → Nat × State
  | 0 => (0, s)
  | n + 1 =>
    let x := s.mixBits a b n
    let m := x.2.freeVal 32 * 2 ^ (32 * n)
    (x.1 + ((a &&& (m ^^^ (0xFFFFFFFF * 2 ^ (32 * n)))) ||| (b &&& m)), x.2.freeStep)

/-- A read that meets a write of the same word: any mix of the old and the new bits, no SECDED check and no error (R555). `other` is
the other value of the bytes, the one before the write or after it. -/
def State.tornRead (s : State) (w : WCtx) (off size other : Nat) : State :=
  if !storeServed off size || (s.storeShut && !Requester.isHart w.req) then s.storeRead w off size .clean
  else
    let x := (s.reachBank w.req off).mixBits (s.ld off size) (other % 2 ^ (8 * size)) ((size + 3) / 4)
    x.2.answer (.data x.1)

/-- Effect of STORE_READ. -/
def execStoreRead (w : WCtx) (off size : Nat) (meets : ReadMeets) (s : State) : Host.Outcome State Fault Refusal :=
  (match meets with
   | .write v => s.tornRead w off size v
   | .ecc e => s.storeRead w off size e).go

/-- Effect of SCRUB_READ, of a word in a bank that is not in retention (R560). -/
def execScrubRead (addr : Nat) (err : EccErr) (s : State) : Host.Outcome State Fault Refusal :=
  (if addr < storeSize ∧ s.bit H.STORE_ASLEEP (bankOf addr) = false then s.eccEvent (addr / 4) (s.eccAt (addr / 4) err) else s).go

/-! ## Atomics -/

/-- Register set of a requester: its number k, or 4 for the host driver (R565). -/
def amoSet (q : Requester) : Option Nat :=
  match q with
  | .hart k => some k
  | .host => some 4
  | _ => none

/-- New value of an atomic (R563). -/
def amoNew (op old v : Nat) : Nat :=
  if op = 0 then (old + v) % 2 ^ 32 else if op = 1 then min (2 ^ 32 - 1) (old + v) else v

/-- The atomic of set `k` with an operand: performed on its word, or not performed on an uncorrectable one (R559, R563,
R577). -/
def State.atomic (s : State) (q : Requester) (k v : Nat) : State :=
  let word := s.rd R.STORE_AMO_ADDR_ADDR k
  let a := 4 * word
  let s1 := s.reachBank q a
  let e := s.rd H.STORE_ECC word
  let s2 := s1.eccEvent word e
  if e % 4 = 2 then (s2.wr R.STORE_AMO_ADDR_UE k 1).wr R.STORE_AMO_DATA_DATA k 0
  else
    let old := s.ld a 4
    (((s2.st a 4 (amoNew (s.rd R.STORE_AMO_ADDR_OP k) old v)).injectStore a 4).wr R.STORE_AMO_ADDR_UE k 0).wr
      R.STORE_AMO_DATA_DATA k old

/-- Effect of AMO_START: a set's DATA written by its own requester, with an OP that exists (R563, R565). -/
def execAmoStart (w : WCtx) (set v : Nat) (s : State) : Host.Outcome State Fault Refusal :=
  (s.judged w R.STORE_AMO_DATA_DATA set v
    (amoSet w.req == some set && s.rd R.STORE_AMO_ADDR_OP set != 3 && !(s.storeShut && !Requester.isHart w.req))
    (fun t => t.atomic w.req set (v % 2 ^ 32))).go

/-! ## Rows -/

/-- A row tested: its words are written back, an uncorrectable one as 0 (R449). -/
def State.restoreRow (s : State) (row : Nat) : State :=
  (s.touched H.STORE_ECC).foldl (fun (t : State) (k : Nat) =>
    if k / 64 = row then (if s.rd H.STORE_ECC k % 4 = 2 then t.st (4 * k) 4 0 else t.wr H.STORE_ECC k 0) else t) s

/-- H3 tests a row of a bank: the one that holds the latest failing word; where a commanded test finds none noted, any row: DESIGN
CHOICE, assumption 60 (R449). -/
def State.testsRow (s : State) (row : Nat) : Bool :=
  let f := s.rd H.STORE_FROW (row / 256)
  decide (row < 4096) && (f == row + 1 || f == 0)

/-- Effect of ROW_PATTERN_TEST: H3 locks and tests the row that holds the failing word; the accesses to it that wait meanwhile are what
store_busy tells. A row that fails is retired while a spare is free (R449, R556, R561, R562). -/
def execRowPatternTest (row : Nat) (verdict : RowVerdict) (s : State) : Host.Outcome State Fault Refusal :=
  (let n := 0x2EC + row / 256
   if s.testsRow row && s.bit H.FLT_TEST_PEND n && s.hartUp 3 then
    let s1 := (verdict.waits.foldl State.storeBusy (s.restoreRow row)).wr H.FLT_RESULT n (if verdict.ok then 1 else 2)
    if !verdict.ok && decide (s.rd R.STORE_STAT_RETIRED 0 < 16) then s1.retireRow row else s1
  else s).go

/-! ## The sample FIFO -/

/-- A read of ZK_FIFO_POP: the word popped and the state after it (R574, R575). -/
def State.popRead (s : State) : Nat × State :=
  if s.bit R.FIFO_CTRL_SW_CONSUME 0 then (s.fifoPop1.1.payload, s.fifoPop1.2) else (0, s)

/-- Effect of FIFO_POP. -/
def execFifoPop (_ : WCtx) (s : State) : Host.Outcome State Fault Refusal := (s.popRead.2.answer (.data s.popRead.1)).go

/-- ZK_FIFO_WM acknowledged (R576). -/
def State.ackFifo (s : State) : State :=
  (s.clearElems [R.FIFO_WM_HIT, R.FIFO_WM_CROSSINGS] 0).wr R.FIFO_WM_PEAK 0 s.fifo.length

/-- Effect of ACK: ZK_FIFO_WM written with ACK = 1. -/
def execAck (w : WCtx) (s : State) : Host.Outcome State Fault Refusal :=
  (s.judged w R.FIFO_WM_ACK 0 1 true State.ackFifo).go

end Sys2Proof.Machine
end

