-- ==== Sys2Proof/Machine/Rings.lean ====
section
/-! DEFINITION. The host rings (R592–R596), the heartbeat and the unattended state (R597, R598), the ring commands
(R518, R599–R603, R636). -/

namespace Sys2Proof.Machine

/-! ## Entries -/

/-- Store address of the command at a ring's consumer index (R592, R593). -/
def State.cmdAt (s : State) (r : Nat) : Nat :=
  256 * s.rd R.RING_CMD_BASE_BASE r + 64 * (s.rd R.RING_POS_CMD_HEAD r % s.cmdSize r)

def State.cmdGen (s : State) (r : Nat) : Nat := s.ld (s.cmdAt r) 2
def State.cmdOp (s : State) (r : Nat) : Nat := s.ld (s.cmdAt r + 2) 1
def State.cmdFlags (s : State) (r : Nat) : Nat := s.ld (s.cmdAt r + 3) 1
def State.cmdTag (s : State) (r : Nat) : Nat := s.ld (s.cmdAt r + 4) 2
def State.cmdLen (s : State) (r : Nat) : Nat := s.ld (s.cmdAt r + 6) 2

/-- DATA and LAST of the command (R593). -/
def State.cmdData (s : State) (r : Nat) : Bool := bitOf (s.cmdFlags r) 0
def State.cmdLast (s : State) (r : Nat) : Bool := bitOf (s.cmdFlags r) 1

/-- Offset in the data buffer that a command with DATA gives. -/
def State.cmdOff (s : State) (r : Nat) : Nat := s.ld (s.cmdAt r + 8) 4

/-- Payload of the command at the consumer index: LEN bytes, inline or in the data buffer (R593). -/
def State.payload (s : State) (r : Nat) : List Byte :=
  if s.cmdData r then memGetBytes s.store (s.bufAt r + s.cmdOff r) (s.cmdLen r)
  else memGetBytes s.store (s.cmdAt r + 8) (s.cmdLen r)

/-- The entry is malformed: reserved bits, the reserved tag, or a payload that lies outside its place (R593, R599). -/
def State.badEntry (s : State) (r : Nat) : Bool :=
  decide (4 ≤ s.cmdFlags r) || s.cmdTag r == 0xFFFF
    || (if s.cmdData r then
        decide (s.bufSize r < s.cmdOff r + s.cmdLen r) || (memGetBytes s.store (s.cmdAt r + 12) 52).any (fun b => b != 0)
      else decide (56 < s.cmdLen r))

/-! ## Service -/

/-- A ring is served: its hart runs, a completion may be written, and no command of it is under way (R589, R595). -/
def State.served (s : State) (r : Nat) : Bool :=
  decide (r < 64) && s.bit R.RING_CFG_EN r && s.mayPost r && s.rd H.FW_RING_OP r == 0

/-- The host has posted a command at the consumer index. -/
def State.posted (s : State) (r : Nat) : Bool := s.rd R.RING_DB_CMD_TAIL r != s.rd R.RING_POS_CMD_HEAD r

/-- The consumer compares the generation of the next entry: a newer one breaks the ring, an older one waits for a doorbell
(R592). -/
def State.ringCheck (s : State) (r : Nat) : State :=
  if s.served r && s.posted r && !s.bit R.RING_CFG_ERR r then
    let h := s.rd R.RING_POS_CMD_HEAD r
    if s.cmdGen r = h then s
    else if newer 16 h (s.cmdGen r) then
      (s.wr R.RING_CFG_ERR r 1).postCpl r (s.cmdTag r) 9 (s.cmdOp r) 0 0
    else s.wr H.FW_RING_WAIT r 1
  else s

/-- A map load fed by the ring goes on, so its other commands wait (R601). -/
def State.ringLoading (s : State) (r : Nat) : Bool :=
  s.loading && s.bit H.TOP_LOAD_SRC 0 && s.rd H.TOP_LOAD_RING 0 == r && !s.map.last

/-- The command at the consumer index may be taken. A broken ring takes only RING_RESET. -/
def State.takes (s : State) (r : Nat) : Bool :=
  s.served r && s.posted r && !s.bit H.FW_RING_WAIT r && s.cmdGen r == s.rd R.RING_POS_CMD_HEAD r
    && (!s.bit R.RING_CFG_ERR r || s.cmdOp r == 5) && (!s.ringLoading r || s.cmdOp r == 0x11)

/-- The command has begun: its completion will follow (R596). -/
def State.beginCmd (s : State) (r : Nat) : State := (s.wr H.FW_RING_TAG r (s.cmdTag r)).wr H.FW_RING_OP r (s.cmdOp r)

/-- The command completes (R594, R596). -/
def State.complete (s : State) (r status r0 r1 : Nat) : State := ((s.beginCmd r).finishCmd r status r0 r1).ringCheck r

/-- Who may send a command: on ring 0 only, under the safe governor too, without ATTACH, and the feature bit it needs
(R518, R600, R603). -/
structure CmdRule where
  ring0 : Bool := false
  governor : Bool := false
  free : Bool := false
  feature : Option Nat := none
deriving DecidableEq, Repr

/-- Status with which a command is turned away, if any (R599, R600). -/
def State.turnAway (s : State) (r : Nat) (c : CmdRule) : Option Nat :=
  if s.bit R.STATUS_SAFE_GOV 0 then (if !c.governor then some 2 else if s.badEntry r then some 3 else none)
  else if c.ring0 && r != 0 then some 3
  else if !c.free && !s.bit R.HOST_STAT_ATTACHED 0 then some 5
  else if (match c.feature with | some f => !bitOf (s.rd H.FW_FEATURES 0) f | none => false) then some 4
  else if s.badEntry r then some 3
  else none

/-- The command with an opcode, at a ring's consumer index, is taken and acted on or turned away. -/
def State.serve (s : State) (r op : Nat) (c : CmdRule) (act : State → State) : State :=
  if s.takes r && s.cmdOp r == op then
    match s.turnAway r c with
    | some st => s.complete r st 0 0
    | none => act s
  else s.ringCheck r

/-! ## Heartbeat and the unattended state -/

/-- A heartbeat (R597). -/
def State.heartbeat (s : State) : State := s.wr R.HOST_STAT_HB_AGE 0 0

/-- Effect of HB: any host write to ZK_HOST_HB (R597). -/
def execHb (w : WCtx) (s : State) : Host.Outcome State Fault Refusal :=
  (s.judged w R.HOST_HB_HB 0 0 true (fun t => t.when (w.req == .host) State.heartbeat)).go

/-- Every host cap of the folds is written 0 (R598). -/
def State.dropCaps (s : State) : State :=
  (List.range 64).foldl (fun (t : State) (f : Nat) =>
    (t.stage ⟨.hart 1, 0⟩ (.hostCap f 0)).mirrorOut ⟨.hart 1, 0⟩ (.write (R.LE_FOLD_HOSTCAP_HOSTCAP.word f) 0)) s

/-- Entry to the unattended state: the map's UNATTENDED record acts (R598). -/
def State.unattend (s : State) : State :=
  let s1 := ((((s.wr R.HOST_STAT_ATTACHED 0 0).wr R.HOST_STAT_UNATTENDED 0 1).hostIrq 5).send (.hartEvent 2 0x13)).send
    (.hartEvent 1 0x13)
  let s2 := s1.wr R.GL_STATUS_UNATTENDED 0 1
  let s3 := s2.when (s2.unattCaps == 0) State.dropCaps
  let s4 := s3.when (s3.running && s3.unattPolicy == 1) (fun t => t.cfolds.foldl State.sendRevert t)
  match s4.rec? 0x0804 0 with
  | some x =>
    s4.when (s4.running && decide (x.u8 4 < 8) && x.u8 4 != s4.rd R.PROFILE_IN_FORCE 0) (fun t =>
      (t.writeProfile ⟨.hart 2, 0⟩ (x.u8 4)).answer s.resp)
  | none => s4

/-- Effect of HEARTBEAT_LAPSE (R597). -/
def execHeartbeatLapse (s : State) : Host.Outcome State Fault Refusal :=
  (if s.bit R.HOST_STAT_ATTACHED 0 && decide (2000 ≤ s.rd R.HOST_STAT_HB_AGE 0) then s.unattend else s).go

/-- ZK_RING_DB stored: a doorbell, and from the host a heartbeat (R590, R592, R595, R597). -/
def State.ringBell (s : State) (q : Requester) (r tail head : Nat) : State :=
  let s1 := ((s.wr R.RING_DB_CMD_TAIL r tail).wr R.RING_DB_CPL_HEAD r head).wr H.FW_RING_WAIT r 0
  (((s1.when (q == .host) State.heartbeat).wakeHart 2).postDue r).ringCheck r

/-- Effect of RING_DOORBELL. -/
def execRingDoorbell (w : WCtx) (ring v : Nat) (s : State) : Host.Outcome State Fault Refusal :=
  (let off := R.RING_DB_CMD_TAIL.word ring
   s.judgedAt w off R.RING_DB_CMD_TAIL ring (s.carries off v) true (fun t =>
     t.ringBell w.req ring (bitsOf v 31 16) (v % 65536))).go

/-! ## Attachment and status -/

/-- ATTACH with its payload (R598, R600, R603). -/
def State.doAttach (s : State) (r : Nat) : State :=
  let p := s.payload r
  let ver := s.rd H.FW_IF_VER 0
  if p.length ≠ 16 ∨ u16At p 2 ≠ 0 ∨ 64 ≤ byteAt p 12 ∨ u16At p 13 ≠ 0 ∨ byteAt p 15 ≠ 0 then s.complete r 3 0 0
  else if u16At p 0 / 256 ≠ ver / 256 then s.complete r 10 (ver * 65536 + s.rd R.FW_VERSION_VERSION 0 % 65536) 0
  else
    let feat := (u32At p 4 &&& Config.features) % 2048
    let s1 := ((((s.wr R.HOST_STAT_ATTACHED 0 1).wr R.HOST_STAT_UNATTENDED 0 0).wr R.GL_STATUS_UNATTENDED 0 0).wr
      H.FW_FEATURES 0 feat).wr R.HOST_STAT_NOTIFY_RING 0 (byteAt p 12)
    s1.complete r 0 (ver * 65536 + s.rd R.FW_VERSION_VERSION 0 % 65536) feat

/-- Effect of ATTACH. -/
def execAttach (ring : Nat) (s : State) : Host.Outcome State Fault Refusal :=
  (s.serve ring 0x01 { ring0 := true, free := true } (fun t => t.doAttach ring)).go

/-- Effect of DETACH (R598). -/
def execDetach (ring : Nat) (s : State) : Host.Outcome State Fault Refusal :=
  (s.serve ring 0x02 { ring0 := true, free := true } (fun t =>
    (t.when (t.bit R.HOST_STAT_ATTACHED 0) State.unattend).complete ring 0 0 0)).go

/-- Effect of GET_STATUS; under the safe governor ZK_BOOT is written to the data buffer too (R518, R600). -/
def execGetStatus (ring : Nat) (s : State) : Host.Outcome State Fault Refusal :=
  (s.serve ring 0x03 { governor := true, free := true } (fun t =>
    (t.when (t.bit R.STATUS_SAFE_GOV 0) (fun u => u.st (u.bufAt ring) 4 (u.rawWord 0x100010))).complete ring 0
      (t.rawWord 0x100008) (t.rawWord 0x10000C))).go

/-! ## Rings 1–63 -/

/-- Store ranges that rings 1–63 hold (R591, R615). -/
def State.poolUsed (s : State) : List (Nat × Nat) :=
  ((List.range 64).filter (fun r => r != 0 && s.bit R.RING_CFG_EN r)).flatMap (fun r =>
    [(256 * s.rd R.RING_CMD_BASE_BASE r, 64 * s.cmdSize r), (16 * s.rd R.RING_CPL_BASE_BASE r, 16 * 2 ^ s.rd R.RING_CFG_CPL_LOG2 r),
     (s.bufAt r, s.bufSize r)])

/-- The lowest free place for `n` bytes in the ring pool, at a multiple of `al` (R591). -/
def fitPool (used : List (Nat × Nat)) (al n : Nat) : Option Nat :=
  let cand := (0x50000 :: used.map (fun x => x.1 + x.2)).map (fun a => (a + al - 1) / al * al)
  let ok (a : Nat) : Bool := decide (a + n ≤ 0x5C000) && used.all (fun x => decide (a + n ≤ x.1) || decide (x.1 + x.2 ≤ a))
  (sortBy id (cand.filter ok)).head?

/-- Registers of a ring, but for its number, back at reset. -/
def State.clearRing (s : State) (r : Nat) : State :=
  s.clearElems [R.RING_CFG_EN, R.RING_CFG_ERR, R.RING_CFG_CMD_LOG2, R.RING_CFG_CPL_LOG2, R.RING_CMD_BASE_BASE,
    R.RING_CPL_BASE_BASE, R.RING_DATA_PAGES, R.RING_DATA_BASE, R.RING_DB_CMD_TAIL, R.RING_DB_CPL_HEAD, R.RING_POS_CPL_TAIL,
    R.RING_POS_CMD_HEAD, H.FW_RING_OP, H.FW_RING_TAG, H.FW_RING_WAIT, H.FW_CPL_DUE, H.FW_CPL_STATUS, H.FW_CPL_R0, H.FW_CPL_R1] r

/-- RING_CREATE with its payload: the command queue, the completion queue and the data buffer each take the lowest free place
of the pool (R600). -/
def State.doCreate (s : State) (r : Nat) : State :=
  let p := s.payload r
  let k := byteAt p 0
  let cl := byteAt p 1
  let pl := byteAt p 2
  let pages := byteAt p 3
  if p.length ≠ 4 ∨ k = 0 ∨ 64 ≤ k ∨ cl < 4 ∨ 12 < cl ∨ pl < 4 ∨ 12 < pl ∨ 8 < pages then s.complete r 3 0 0
  else if s.bit R.RING_CFG_EN k then s.complete r 1 0 0
  else
    let u0 := s.poolUsed
    match fitPool u0 256 (64 * 2 ^ cl) with
    | none => s.complete r 7 0 0
    | some a =>
      let u1 := u0 ++ [(a, 64 * 2 ^ cl)]
      match fitPool u1 16 (16 * 2 ^ pl) with
      | none => s.complete r 7 0 0
      | some b =>
        match fitPool (u1 ++ [(b, 16 * 2 ^ pl)]) 4096 (4096 * pages) with
        | none => s.complete r 7 0 0
        | some d =>
          let s1 := (((((((s.clearRing k).wr R.RING_CFG_EN k 1).wr R.RING_CFG_CMD_LOG2 k cl).wr R.RING_CFG_CPL_LOG2 k pl).wr
            R.RING_CMD_BASE_BASE k (a / 256)).wr R.RING_CPL_BASE_BASE k (b / 16)).wr R.RING_DATA_PAGES k pages).wr
            R.RING_DATA_BASE k (d / 4096)
          s1.complete r 0 a (b + d / 4096 % 256 * 2 ^ 20)

/-- Effect of RING_CREATE. -/
def execRingCreate (ring : Nat) (s : State) : Host.Outcome State Fault Refusal :=
  (s.serve ring 0x04 { ring0 := true, feature := some 10 } (fun t => t.doCreate ring)).go

/-- A ring's indices start afresh and its ERR clears (R592, R600). -/
def State.resetRing (s : State) (r : Nat) : State :=
  s.clearElems [R.RING_CFG_ERR, R.RING_DB_CMD_TAIL, R.RING_DB_CPL_HEAD, R.RING_POS_CPL_TAIL, R.RING_POS_CMD_HEAD, H.FW_RING_OP,
    H.FW_RING_TAG, H.FW_RING_WAIT, H.FW_CPL_DUE, H.FW_CPL_STATUS, H.FW_CPL_R0, H.FW_CPL_R1] r

/-- RING_RESET with its payload; ring 0 completes the command and is then reset (R600). -/
def State.doReset (s : State) (r : Nat) : State :=
  let p := s.payload r
  let k := byteAt p 0
  if p.length ≠ 1 ∨ 64 ≤ k ∨ s.bit R.RING_CFG_EN k = false then s.complete r 3 0 0
  else if k = 0 then ((s.beginCmd r).finishCmd r 0 0 0).resetRing 0
  else if !bitOf (s.rd H.FW_FEATURES 0) 10 then s.complete r 4 0 0
  else (s.resetRing k).complete r 0 0 0

/-- Effect of RING_RESET. -/
def execRingReset (ring : Nat) (s : State) : Host.Outcome State Fault Refusal :=
  (s.serve ring 0x05 { ring0 := true } (fun t => t.doReset ring)).go

/-- RING_DESTROY with its payload (R600). -/
def State.doDestroy (s : State) (r : Nat) : State :=
  let p := s.payload r
  let k := byteAt p 0
  if p.length ≠ 1 ∨ k = 0 ∨ 64 ≤ k ∨ s.bit R.RING_CFG_EN k = false then s.complete r 3 0 0
  else (s.clearRing k).complete r 0 0 0

/-- Effect of RING_DESTROY. -/
def execRingDestroy (ring : Nat) (s : State) : Host.Outcome State Fault Refusal :=
  (s.serve ring 0x06 { ring0 := true, feature := some 10 } (fun t => t.doDestroy ring)).go

/-! ## Maps -/

/-- LOAD_MAP: ZK_RUN is written with SRC = 1 and this ring (R518, R534, R601). -/
def State.doLoadMap (s : State) (r : Nat) : State :=
  let s1 := (s.wr R.RUN_SRC 0 1).wr R.RUN_RING 0 r
  let refused (t : State) : State := t.complete r 6 (t.rawWord 0x10000C) 0
  if s.bit R.STATUS_SAFE_GOV 0 ∧ s.bit R.FW_IMAGE_VERIFIED 0 = false then s.complete r 5 0 0
  else if s.rd R.RUN_STATE 0 = 1 then s.complete r 1 0 0
  else if s.running then
    if s.runEn = false then s.complete r 5 0 0
    else if s.rd R.RUN_LIVE 0 ≠ 0 ∨ s.bit R.PROFILE_PENDING 0 = true then
      (s1.recordRefusal ⟨refBusy, 0xFFFFFE, none⟩).complete r 1 0 0
    else
      let t := s1.askReload ⟨.hart 0, 0⟩
      if t.rd R.RUN_LIVE 0 = 0 then refused t else t.complete r 0 0 0
  else
    let t := s1.enable
    if t.rd R.RUN_STATE 0 = 3 then refused t else t.complete r 0 0 0

/-- Effect of LOAD_MAP; while H0 restarts, ZK_RUN is not written and the command waits (R589, R601). -/
def execLoadMap (ring : Nat) (s : State) : Host.Outcome State Fault Refusal :=
  (if s.hartUp 0 then s.serve ring 0x10 { governor := true, feature := some 3 } (fun t => t.doLoadMap ring) else s).go

/-- A chunk of map bytes consumed; a ring fault is bytes beyond TOTAL_LEN, or a LAST chunk short of it (R93, R601). -/
def State.takeMapBytes (s : State) (bs : List Byte) (last : Bool) : State :=
  let all := s.map.stream ++ bs
  let total := u32At all 8
  let past := decide (64 ≤ all.length) && decide (total < all.length)
  let short := last && (decide (all.length < 64) || decide (all.length < total))
  { s with map := { s.map with stream := all, last := last, ringFault := s.map.ringFault || past || short } }

/-- MAP_DATA with its bytes (R600, R601). -/
def State.doMapData (s : State) (r : Nat) : State :=
  if s.cmdData r = false then s.complete r 3 0 0
  else if s.ringLoading r then
    let t := s.takeMapBytes (s.payload r) (s.cmdLast r)
    if s.cmdLast r then t.beginCmd r else t.complete r 0 0 0
  else if s.bit H.TOP_LOAD_SRC 0 ∧ s.rd H.TOP_LOAD_RING 0 = r ∧ s.rd R.REFUSE_CODE 0 ≠ 0 then
    s.complete r 6 (s.rawWord 0x10000C) (s.rd R.RUN_COMMIT 0)
  else s.complete r 5 0 0

/-- Effect of MAP_DATA. -/
def execMapData (ring : Nat) (s : State) : Host.Outcome State Fault Refusal :=
  (s.serve ring 0x11 { governor := true, feature := some 3 } (fun t => t.doMapData ring)).go

/-! ## Flash -/

/-- The opening of a flash stream: its region is erased (R602). -/
def State.openFlash (s : State) (r op : Nat) : State :=
  if s.rd H.FW_FLASH_OP 0 ≠ 0 ∧ s.rd H.FW_FLASH_RING 0 ≠ r then s.complete r 1 0 0
  else
    let s1 := (s.wr H.FW_FLASH_OP 0 op).wr H.FW_FLASH_RING 0 r
    let s2 : State := match op with
      | 1 => { s1 with map := { s1.map with flash := [] } }
      | 2 => { s1 with map := { s1.map with image := [] } }
      | _ => { s1 with map := { s1.map with upload := [] } }
    s2.complete r 0 0 0

/-- Effect of FLASH_MAP (R542, R602). -/
def execFlashMap (ring : Nat) (s : State) : Host.Outcome State Fault Refusal :=
  (s.serve ring 0x12 { governor := true, feature := some 4 } (fun t =>
    if t.bit R.WARDEN_OPEN 0 then t.openFlash ring 1 else t.complete ring 4 0 0)).go

/-- Effect of FLASH_IMAGE: accepted only in role DETACHED or under the safe governor (R542, R602). -/
def execFlashImage (ring : Nat) (s : State) : Host.Outcome State Fault Refusal :=
  (s.serve ring 0x13 { governor := true, feature := some 4 } (fun t =>
    if !t.bit R.WARDEN_OPEN 0 then t.complete ring 4 0 0
    else if t.role == 0 || t.bit R.STATUS_SAFE_GOV 0 then t.openFlash ring 2
    else t.complete ring 5 0 0)).go

/-- Effect of LOAD_IMAGE: served under the safe governor only (R518). -/
def execLoadImage (ring : Nat) (s : State) : Host.Outcome State Fault Refusal :=
  (s.serve ring 0x15 { governor := true, free := true } (fun t =>
    if t.bit R.STATUS_SAFE_GOV 0 then t.openFlash ring 3 else t.complete ring 2 0 0)).go

/-- Bytes of a flash stream written to their region, in order from offset 0 (R504, R602). -/
def State.putFlash (s : State) (bs : List Byte) : State :=
  match s.rd H.FW_FLASH_OP 0 with
  | 1 => ({ s with map := { s.map with flash := s.map.flash ++ bs } } : State).send (.flashOp 2 (0x2000000 + s.map.flash.length) bs)
  | 2 => ({ s with map := { s.map with image := s.map.image ++ bs } } : State).send (.flashOp 2 s.map.image.length bs)
  | _ => { s with map := { s.map with upload := s.map.upload ++ bs } }

/-- Bytes that the stream under way has and may have. -/
def State.flashRoom (s : State) : Nat × Nat :=
  match s.rd H.FW_FLASH_OP 0 with
  | 1 => (s.map.flash.length, 0x200000)
  | 2 => (s.map.image.length, 0x2000000)
  | _ => (s.map.upload.length, 0x2000000)

/-- FLASH_DATA with its bytes (R600, R602). -/
def State.doFlashData (s : State) (r : Nat) : State :=
  let op := s.rd H.FW_FLASH_OP 0
  if s.cmdData r = false then s.complete r 3 0 0
  else if op = 0 ∨ s.rd H.FW_FLASH_RING 0 ≠ r then s.complete r 5 0 0
  else if op ≠ 3 ∧ s.bit R.WARDEN_OPEN 0 = false then (s.wr H.FW_FLASH_OP 0 0).complete r 4 0 0
  else if s.flashRoom.2 < s.flashRoom.1 + s.cmdLen r then (s.wr H.FW_FLASH_OP 0 0).complete r 3 0 0
  else if s.cmdLast r then (s.putFlash (s.payload r)).beginCmd r
  else (s.putFlash (s.payload r)).complete r 0 0 0

/-- Effect of FLASH_DATA. -/
def execFlashData (ring : Nat) (s : State) : Host.Outcome State Fault Refusal :=
  (s.serve ring 0x14 { governor := true, feature := some 4 } (fun t => t.doFlashData ring)).go

/-- Check result over a written region: stages B to E for the map, R583 for the image; what a map region that does not read
back gives is not stated (R602). -/
def State.flashResult (s : State) (answers : Bool) (psc : PscAnswer) : Nat :=
  if s.rd H.FW_FLASH_OP 0 = 1 then
    if !answers then s.freeVal 32
    else
      let h := s.flashBytes 64
      match checkHeader s.zk4 h with
      | some r => r.code * 2 ^ 24 + r.loc
      | none =>
        match checkStored s.zk4 psc (s.flashBytes (u32At h 8)) with
        | some r => r.code * 2 ^ 24 + r.loc
        | none => 0
  else imageReason s.zk4 answers psc s.flashImage

/-- Effect of FLASH_WRITE_DONE (R602). -/
def execFlashWriteDone (ring : Nat) (answers : Bool) (psc : PscAnswer) (s : State) : Host.Outcome State Fault Refusal :=
  (let op := s.rd H.FW_FLASH_OP 0
   if decide (ring < 64) && s.ringUnderWay ring 0x14 && s.rd H.FW_FLASH_RING 0 == ring && (op == 1 || op == 2) then
    let v := s.flashResult answers psc
    let s1 : State := if op = 1 ∧ answers = false then s.freeStep else s
    ((s1.wr H.FW_FLASH_OP 0 0).finishCmd ring (if v = 0 ∧ answers = true then 0 else 6) v 0).ringCheck ring
  else s).go

/-! ## The other commands -/

/-- PROFILE with its payload; the completion follows the commit (R538, R539, R600). -/
def State.doProfile (s : State) (r : Nat) : State :=
  let p := s.payload r
  let q := byteAt p 0
  if p.length ≠ 1 ∨ 8 ≤ q then s.complete r 3 0 0
  else if !s.running then s.complete r 5 0 0
  else if s.badProfile q then ((s.writeProfile ⟨.hart 2, 0⟩ q).answer s.resp).complete r 3 0 0
  else
    let t := (s.writeProfile ⟨.hart 2, 0⟩ q).answer s.resp
    if t.bit R.PROFILE_PENDING 0 || t.bit H.TOP_REQ_HELD 0 then t.beginCmd r else t.complete r 0 (t.rawWord 0x100030) 0

/-- Effect of PROFILE. -/
def execProfile (ring : Nat) (s : State) : Host.Outcome State Fault Refusal :=
  (s.serve ring 0x20 { feature := some 5 } (fun t => t.doProfile ring)).go

/-- A result of `n` bytes fits the ring's data buffer from an offset on. -/
def State.fits (s : State) (r off n : Nat) : Bool := decide (off + n ≤ s.bufSize r)

/-- LEDGER_SNAP with its payload (R372, R600). -/
def State.doSnap (s : State) (r : Nat) : State :=
  let p := s.payload r
  let first := u16At p 0
  let n := u16At p 2
  let off := u32At p 4
  if p.length ≠ 8 ∨ n = 0 ∨ 1024 < n ∨ 4096 < first + n ∨ s.fits r off (8 * n) = false then s.complete r 3 0 0
  else
    (s.stBytes (s.bufAt r + off) (memGetBytes s.store (s.ledgerAt first) (8 * n))).complete r 0 (s.ld s.ledgerGenAt 4) 0

/-- Effect of LEDGER_SNAP. -/
def execLedgerSnap (ring : Nat) (s : State) : Host.Outcome State Fault Refusal :=
  (s.serve ring 0x30 { feature := some 8 } (fun t => t.doSnap ring)).go

/-- Effect of LOG_CTRL (R600, R609). -/
def execLogCtrl (ring : Nat) (s : State) : Host.Outcome State Fault Refusal :=
  (s.serve ring 0x40 { feature := some 1 } (fun t =>
    let p := t.payload ring
    if p.length ≠ 1 ∨ 4 ≤ byteAt p 0 then t.complete ring 3 0 0
    else (t.wr R.FW_LOG_LEVEL_MIN 0 (byteAt p 0)).complete ring 0 0 0)).go

/-- Effect of TRACE_CTRL (R600, R610). -/
def execTraceCtrl (ring : Nat) (s : State) : Host.Outcome State Fault Refusal :=
  (s.serve ring 0x41 { feature := some 2 } (fun t =>
    let p := t.payload ring
    if p.length ≠ 32 then t.complete ring 3 0 0
    else (t.wrAll R.FW_TRACE_EN_EN (List.range 8) (fun k => u32At p (4 * k))).complete ring 0 0 0)).go

/-- Slots of the held records in the order of R620. -/
def State.orderedSlots (s : State) : List Nat :=
  s.heldSlots.foldl (fun (l : List Nat) (i : Nat) =>
    (l.takeWhile (fun j => !s.recOlder i j)) ++ [i] ++ l.dropWhile (fun j => !s.recOlder i j)) []

/-- Slots that TALLY_READ copies for FIRST_SEQ and COUNT (R636). -/
def State.tallyRange (s : State) (first n : Nat) : List Nat :=
  let l := s.orderedSlots
  if first = s.rd R.TALLY_SEQ_NEXT_SEQ 0 then []
  else
    let from? := l.dropWhile (fun i => s.recSeq i != first)
    (if from?.isEmpty then l else from?).take n

/-- The SEQ after the last record copied, or NEXT_SEQ (R636). -/
def State.seqAfter (s : State) (l : List Nat) : Nat :=
  match l.getLast? with
  | some i => (s.recSeq i + 1) % 2 ^ 32
  | none => s.rd R.TALLY_SEQ_NEXT_SEQ 0

/-- TALLY_READ with its payload (R636). -/
def State.doTallyRead (s : State) (r : Nat) : State :=
  let p := s.payload r
  let n := u16At p 4
  let off := u32At p 8
  if p.length ≠ 12 ∨ n = 0 ∨ 1024 < n ∨ u16At p 6 ≠ 0 ∨ s.fits r off (32 * n) = false then s.complete r 3 0 0
  else
    let l := s.tallyRange (u32At p 0) n
    (s.stBytes (s.bufAt r + off) (l.flatMap (fun i => memGetBytes s.store (tallyAt i) 32))).complete r 0 l.length (s.seqAfter l)

/-- Effect of TALLY_READ. -/
def execTallyRead (ring : Nat) (s : State) : Host.Outcome State Fault Refusal :=
  (s.serve ring 0x50 { feature := some 9 } (fun t => t.doTallyRead ring)).go

/-- Opcodes that R600 defines as commands. -/
def knownOps : List Nat :=
  [0x01, 0x02, 0x03, 0x04, 0x05, 0x06, 0x10, 0x11, 0x12, 0x13, 0x14, 0x15, 0x20, 0x30, 0x40, 0x41, 0x50]

/-- Effect of UNKNOWN_OPCODE (R600). -/
def execUnknownOpcode (ring : Nat) (s : State) : Host.Outcome State Fault Refusal :=
  (if s.takes ring && !knownOps.contains (s.cmdOp ring) then s.complete ring 2 0 0 else s.ringCheck ring).go

end Sys2Proof.Machine
end

