-- ==== Sys2Proof/Machine/Mailbox.lean ====
section
/-! DEFINITION. Mailboxes (R605–R608). -/

namespace Sys2Proof.Machine

/-- An endpoint of a mailbox is told: a hart, the host by an interrupt bit, or the PSC (R605, R606). -/
def State.tellEndpoint (s : State) (code irq : Nat) : State :=
  if code < 4 then (s.wakeHart code).send (.hartEvent code (0x20 + irq))
  else if code = 4 then s.hostIrq irq
  else if code = 5 then s.send (.psc irq)
  else s

/-- A write that R607 bounds: refused ones count in REJECTS. -/
def State.mboxWrite (s : State) (w : WCtx) (f : Fld) (m : Nat) (same rule : Bool) (act : State → State) : State :=
  let t := s.judgedAt w (f.word m) f m same rule act
  match t.resp with
  | .refused _ => t.when (decide (m < 16)) (fun u => u.inc R.MBOX_STAT_REJECTS m 1)
  | _ => t

/-- The requester is the SENDER of the mailbox. -/
def State.isSender (s : State) (q : Requester) (m : Nat) : Bool := Requester.endpointCode q == s.rd R.MBOX_CTRL_SENDER m

/-- The requester is the RECEIVER of the mailbox. -/
def State.isReceiver (s : State) (q : Requester) (m : Nat) : Bool := Requester.endpointCode q == s.rd R.MBOX_CTRL_RECEIVER m

/-- DOORBELL.CMD written by the SENDER while PENDING is 0 (R606, R607). -/
def State.ringMbox (s : State) (w : WCtx) (m cmd : Nat) : State :=
  s.mboxWrite w R.MBOX_DOORBELL_CMD m (cmd == s.rd R.MBOX_DOORBELL_CMD m) (s.isSender w.req m && !s.bit R.MBOX_STAT_PENDING m) (fun t =>
    (((t.wr R.MBOX_DOORBELL_CMD m cmd).wr R.MBOX_STAT_PENDING m 1).wr H.FW_MB_TIMER m 1).tellEndpoint
      (t.rd R.MBOX_CTRL_RECEIVER m) 2)

/-- Effect of DOORBELL. -/
def execDoorbell (w : WCtx) (mbox cmd : Nat) (s : State) : Host.Outcome State Fault Refusal :=
  (s.ringMbox w mbox (cmd % 256)).go

/-- CANCEL written by the SENDER (R606, R607). -/
def State.cancelMbox (s : State) (w : WCtx) (m : Nat) : State :=
  s.mboxWrite w R.MBOX_DOORBELL_CANCEL m false (s.isSender w.req m) (fun t =>
    (t.wr R.MBOX_STAT_PENDING m 0).wr H.FW_MB_TIMER m 0)

/-- Effect of CANCEL_MAILBOX. -/
def execCancelMailbox (w : WCtx) (mbox : Nat) (s : State) : Host.Outcome State Fault Refusal := (s.cancelMbox w mbox).go

/-- ACK written by the RECEIVER while PENDING is 1 (R606, R607). -/
def State.ackMbox (s : State) (w : WCtx) (m code result : Nat) : State :=
  s.mboxWrite w R.MBOX_ACK_CODE m (code == s.rd R.MBOX_ACK_CODE m && result == s.rd R.MBOX_ACK_RESULT m) (s.isReceiver w.req m && s.bit R.MBOX_STAT_PENDING m) (fun t =>
    (((((t.wr R.MBOX_ACK_CODE m code).wr R.MBOX_ACK_RESULT m result).wr R.MBOX_STAT_PENDING m 0).wr R.MBOX_STAT_ACKED m 1).wr
      H.FW_MB_TIMER m 0).tellEndpoint (t.rd R.MBOX_CTRL_SENDER m) 3)

/-- Effect of MAILBOX_ACK. -/
def execMailboxAck (w : WCtx) (mbox code result : Nat) (s : State) : Host.Outcome State Fault Refusal :=
  (s.ackMbox w mbox (code % 256) (result % 2 ^ 24)).go

/-- Effect of MAILBOX_TIMEOUT: TIMEOUT µs have passed with PENDING set (R606). -/
def execMailboxTimeout (mbox : Nat) (s : State) : Host.Outcome State Fault Refusal :=
  (if decide (mbox < 16) && s.bit R.MBOX_STAT_PENDING mbox && s.bit H.FW_MB_TIMER mbox then
    ((s.wr R.MBOX_STAT_TIMED_OUT mbox 1).wr H.FW_MB_TIMER mbox 0).tellEndpoint (s.rd R.MBOX_CTRL_SENDER mbox) 3
  else s).go

end Sys2Proof.Machine
end

