-- ==== Sys2Proof/Machine/Platform.lean ====
section
/-! DEFINITION. The board and platform interfaces: the PMBus poller (R642–R646), and I3C, MCTP and PLDM toward the BMC
(R647–R651). -/

namespace Sys2Proof.Machine

/-! ## What the pins show -/

/-- fault_n is driven low (R455, R499, R517). -/
def State.faultLow (s : State) : Bool := s.faultN || !s.calibOver || s.bit R.STATUS_SAFE_GOV 0

/-- The platform block has its clock (R489, R652). -/
def State.platOn (s : State) : Bool := bitOf (s.rd R.CLK_EN_EN 0) 9

/-! ## PMBus -/

/-- Port of a supply. -/
def State.supPort (s : State) (k : Nat) : Nat := s.rd R.PLAT_SUP_CFG_PORT k

/-- The poller of a port runs on this instance. -/
def State.polls (s : State) (port : Nat) : Bool :=
  s.platOn && s.pmbMaster && decide (port < 2) && s.bit R.PLAT_PMB_POLL port

/-- The poller reads a supply (R643, R653). -/
def State.polled (s : State) (k : Nat) : Bool :=
  decide (k < 16) && s.bit R.PLAT_SUP_CFG_EN k && !s.bit R.PLAT_SUP_CFG_FMT_ERR k && s.polls (s.supPort k)

/-- `m · 2^e` units, in tenths or thousandths as `u` says, saturating at 16 bits; a negative value reads 0. -/
def satScaled (u : Nat) (m : Int) (e : Int) : Nat :=
  let x := u * m
  (clampI 0 65535 (if 0 ≤ e then x * ((2 ^ e.toNat : Nat) : Int) else openDivI x (2 ^ (-e).toNat))).toNat

/-- Mantissa and exponent of a LINEAR11 word (PRESUMED from PMBus 1.4, assumption 33). -/
def linear11 (w : Nat) : Int × Int := (toS 11 w, toS 5 (w / 2048))

/-- POUT of a supply after a poll, in 0.1 W (R642, R653). -/
def State.poutOf (s : State) (k : Nat) (p : PollData) : Option Nat :=
  let ve := toS 5 (s.rd H.PLAT_VMODE k)
  if s.bit R.PLAT_SUP_CFG_VI k then
    match p.vout, p.iout with
    | some v, some i => some (satScaled 10 ((linear11 i).1 * ((v % 65536 : Nat) : Int)) ((linear11 i).2 + ve))
    | _, _ => none
  else p.pout.map (fun w => satScaled 10 (linear11 w).1 (linear11 w).2)

/-- The SUPPLY source of a supply is raised as CONTAINED (R430, R644). -/
def State.supplyFault (s : State) (k : Nat) : State := s.fault 0x10 k 1

/-- STATUS_WORD read: a bit that SW_MASK selects raises the source (R644). -/
def State.takeStatus (s : State) (k w : Nat) : State :=
  (s.wr R.PLAT_SUP_STAT_STATUS_WORD k w).when ((w &&& s.rd R.PLAT_SUP_LIMIT_SW_MASK k) != 0) (fun t => t.supplyFault k)

/-- POUT read: above POUT_MAX in two cycles running, it raises the source (R644). -/
def State.takePout (s : State) (k x : Nat) : State :=
  let o := decide (s.rd R.PLAT_SUP_LIMIT_POUT_MAX k < x)
  ((s.wr R.PLAT_SUP_READ_POUT k x).wrB H.PLAT_OVERP k o).when (o && s.bit H.PLAT_OVERP k) (fun t => t.supplyFault k)

/-- A good poll's readings (R642–R644). -/
def State.goodPoll (s : State) (k : Nat) (p : PollData) : State :=
  let s1 := (((s.wr R.PLAT_SUP_STAT_STALE k 0).wr R.PLAT_SUP_STAT_AGE k 0).wr H.PLAT_GOT k 1).wr H.PLAT_FAILS k 0
  let s2 := match p.vout with
    | some v => s1.wr R.PLAT_SUP_READ_VOUT k (satScaled 1000 ((v % 65536 : Nat) : Int) (toS 5 (s.rd H.PLAT_VMODE k)))
    | none => s1
  let s3 := match s.poutOf k p with
    | some x => s2.takePout k x
    | none => s2
  let s4 := match p.status with
    | some w => s3.takeStatus k (w % 65536)
    | none => s3
  match p.cycleUs with
  | some c => s4.wr R.PLAT_PMB_CYCLE_US (s.supPort k) (min 65535 c)
  | none => s4

/-- PAGE goes to a supply that has one, before it is read (R642). -/
def State.sendPage (s : State) (k : Nat) : State :=
  s.when (s.rd R.PLAT_SUP_CFG_PAGE k != 0xFF) (fun t => t.send (.pmbus (s.supPort k) (s.rd R.PLAT_SUP_CFG_ADDR k) 0x00))

/-- Effect of PMBUS_POLL_DONE: a mode other than LINEAR16 ends the polling of the supply (R642, R643). -/
def execPmbusPollDone (supply : Nat) (p : PollData) (s : State) : Host.Outcome State Fault Refusal :=
  (if s.polled supply then
    match p.mode with
    | some m =>
      if m / 32 % 8 = 0 then ((s.sendPage supply).wr H.PLAT_VMODE supply m).goodPoll supply p
      else (s.sendPage supply).wr R.PLAT_SUP_CFG_FMT_ERR supply 1
    | none => (s.sendPage supply).goodPoll supply p
  else s).go

/-- A failed poll: from the third in a row the supply is stale, and raised wherever its source stands CLEAR (R644). -/
def State.failPoll (s : State) (k : Nat) : State :=
  let n := s.rd H.PLAT_FAILS k
  (s.wr H.PLAT_FAILS k (min 3 (n + 1))).when
    (n == 2 || (decide (2 < n) && s.rd R.FLT_SRC_STATE_STATE (srcBase 0x10 + k) == 0))
    (fun t => (t.wr R.PLAT_SUP_STAT_STALE k 1).supplyFault k)

/-- Effect of PMBUS_POLL_FAIL (R644). -/
def execPmbusPollFail (supply : Nat) (s : State) : Host.Outcome State Fault Refusal :=
  (if s.polled supply then (s.sendPage supply).failPoll supply else s).go

/-- Effect of PMBUS_ALERT: `addr` has answered the Alert Response Address, and `status` is its STATUS_WORD (R645). -/
def execPmbusAlert (port addr status : Nat) (s : State) : Host.Outcome State Fault Refusal :=
  (if s.polls port then
    match (List.range 16).find? (fun k => s.bit R.PLAT_SUP_CFG_EN k && s.supPort k == port && s.rd R.PLAT_SUP_CFG_ADDR k == addr) with
    | some k => (s.wr R.PLAT_SUP_STAT_ALERT k 1).takeStatus k (status % 65536)
    | none => s.inc R.PLAT_PMB_ALERT_UNK port 1
  else s).go

/-- Effect of ALERT_STUCK: the alert line has been low for 100 ms (R645). -/
def execAlertStuck (port : Nat) (s : State) : Host.Outcome State Fault Refusal :=
  (if s.polls port then
    s.wrAll R.PLAT_SUP_STAT_STALE ((List.range 16).filter (fun k => s.bit R.PLAT_SUP_CFG_EN k && s.supPort k == port)) (fun _ => 1)
  else s).go

/-- Effect of PMBUS_MASTER_CHANGE: this instance is the new master, the buses are idle or recovered, and PAGE goes to every supply
that has one; a transaction that the old master left counts as a failed poll (R646). -/
def execPmbusMasterChange (unfinished : Option Nat) (s : State) : Host.Outcome State Fault Refusal :=
  (if s.platOn && s.pmbMaster then
    let s1 := match unfinished with
      | some k => s.when (s.polled k) (fun t => t.failPoll k)
      | none => s
    ((List.range 16).filter s.polled).foldl (fun (t : State) (k : Nat) => t.sendPage k) s1
  else s).go

/-! ## I3C and MCTP control -/

/-- The I3C target answers (R639, R648). -/
def State.i3cUp (s : State) : Bool := s.calibOver && s.platOn

/-- The static address (R647). -/
def State.i3cStatic (s : State) : Nat := if s.ident.instB then 0x51 else 0x50

/-- A dynamic address assigned. -/
def State.setDyn (s : State) (a : Nat) : State := s.when s.i3cUp (fun t => t.wr R.PLAT_MCTP_DYN 0 a)

/-- Effect of SETDASA (R647). -/
def execSetdasa (addr : Nat) (s : State) : Host.Outcome State Fault Refusal := (s.setDyn (addr % 128)).go

/-- Effect of SETAASA: the static address becomes the dynamic one (R647). -/
def execSetaasa (s : State) : Host.Outcome State Fault Refusal := (s.setDyn s.i3cStatic).go

/-- Effect of ENTDAA (R647). -/
def execEntdaa (addr : Nat) (s : State) : Host.Outcome State Fault Refusal := (s.setDyn (addr % 128)).go

/-- An answer of the hardware: completion code, then fields (assumption 34). -/
def State.control (s : State) (g : State → State) : State := s.when s.i3cUp g

/-- An identifier that MCTP and PLDM keep reserved (PRESUMED, assumption 34). -/
def reservedId (n : Nat) : Bool := n % 256 == 0 || n % 256 == 255

/-- Effect of SET_ENDPOINT_ID (R647). -/
def execSetEndpointId (eid : Nat) (s : State) : Host.Outcome State Fault Refusal :=
  (s.control (fun t =>
    if reservedId eid then t.send (.i3c [2])
    else (t.wr R.PLAT_MCTP_EID 0 eid).send (.i3c [0, eid % 256]))).go

/-- Effect of GET_ENDPOINT_ID (R647). -/
def execGetEndpointId (s : State) : Host.Outcome State Fault Refusal :=
  (s.control (fun t => t.send (.i3c [0, t.rd R.PLAT_MCTP_EID 0]))).go

/-- Effect of GET_MCTP_VERSION_SUPPORT: the spec names no version, so the one answered is a free value (R647). -/
def execGetMctpVersionSupport (s : State) : Host.Outcome State Fault Refusal :=
  (s.control (fun t => t.freeStep.send (.i3c [0, 1, t.freeVal 32]))).go

/-- Effect of GET_MESSAGE_TYPE_SUPPORT (R647). -/
def execGetMessageTypeSupport (s : State) : Host.Outcome State Fault Refusal :=
  (s.control (fun t => t.send (.i3c [0, 3, 0x00, 0x01, 0x7F]))).go

/-- Effect of MCTP_UNKNOWN_TYPE (R647). -/
def execMctpUnknownType (typ : Nat) (s : State) : Host.Outcome State Fault Refusal :=
  (if typ = 0x00 ∨ typ = 0x01 ∨ typ = 0x7F then s else s.control (fun t => t.inc R.PLAT_MCTP_MCTP_DROP 0 1)).go

/-! ## PLDM -/

/-- H3 answers, or gives no answer while it restarts and under the safe governor (R648). -/
def State.pldm (s : State) (g : State → State) : State :=
  s.when (s.i3cUp && s.hartUp 3 && !s.bit R.STATUS_SAFE_GOV 0) g

/-- Effect of GETTID (R648). -/
def execGettid (s : State) : Host.Outcome State Fault Refusal :=
  (s.pldm (fun t => t.send (.i3c [0, t.rd H.PLAT_TID 0]))).go

/-- Effect of SETTID (R648). -/
def execSettid (tid : Nat) (s : State) : Host.Outcome State Fault Refusal :=
  (s.pldm (fun t =>
    if reservedId tid then t.send (.i3c [2]) else (t.wr H.PLAT_TID 0 tid).send (.i3c [0]))).go

/-- Effect of GETPLDMVERSION: the spec names no version, so the one answered is a free value (R648). -/
def execGetpldmversion (s : State) : Host.Outcome State Fault Refusal :=
  (s.pldm (fun t => t.freeStep.send (.i3c [0, t.freeVal 32]))).go

/-- Effect of GETPLDMTYPES: types 0 and 2, one bit each (R648). -/
def execGetpldmtypes (s : State) : Host.Outcome State Fault Refusal :=
  (s.pldm (fun t => t.send (.i3c [0, 2 ^ 0 + 2 ^ 2]))).go

/-- Command codes of a PLDM type that R648 lists (PRESUMED from DSP0240 and DSP0248, assumption 34). -/
def pldmCommands (typ : Nat) : Option (List Nat) :=
  if typ = 0 then some [0x01, 0x02, 0x03, 0x04, 0x05]
  else if typ = 2 then some [0x04, 0x0A, 0x11, 0x21, 0x31, 0x32, 0x50, 0x51]
  else none

/-- Effect of GETPLDMCOMMANDS: the commands of a type, one bit each (R648). -/
def execGetpldmcommands (typ : Nat) (s : State) : Host.Outcome State Fault Refusal :=
  (s.pldm (fun t =>
    match pldmCommands typ with
    | some l => t.send (.i3c [0, sumN (l.map (fun c => 2 ^ c))])
    | none => t.send (.i3c [0x83]))).go

/-- Effect of PLDM_UNSUPPORTED: ERROR_UNSUPPORTED_PLDM_CMD (R648). -/
def execPldmUnsupported (typ cmd : Nat) (s : State) : Host.Outcome State Fault Refusal :=
  (match pldmCommands typ with
   | some l => if l.contains cmd then s else s.pldm (fun t => t.send (.i3c [5]))
   | none => s.pldm (fun t => t.send (.i3c [5]))).go

/-- Effect of SETEVENTRECEIVER (R650). -/
def execSeteventreceiver (eid : Nat) (s : State) : Host.Outcome State Fault Refusal :=
  (s.pldm (fun t => (t.wr H.PLAT_RECEIVER 0 eid).send (.i3c [0]))).go

/-- Kind of a PDR: 0 numeric sensor, 1 state sensor, 2 numeric effecter; with its ID, in the order of R649. -/
def pdrTable : List (Nat × Nat) :=
  [(0, 1), (0, 2)] ++ (List.range 14).map (fun r => (0, 16 + r)) ++ (List.range 8).map (fun c => (0, 32 + c))
    ++ (List.range 128).map (fun p => (0, 64 + p)) ++ [(1, 200), (1, 201), (1, 202), (2, 1)]

/-- Effect of GETPDRREPOSITORYINFO (R649). -/
def execGetpdrrepositoryinfo (s : State) : Host.Outcome State Fault Refusal :=
  (s.pldm (fun t => t.send (.i3c [0, 0, pdrTable.length]))).go

/-- Effect of GETPDR: record handles count from 1, and 0 asks for the first record; the answer names the next handle, 0 after the
last (R649, assumption 34). -/
def execGetpdr (handle : Nat) (s : State) : Host.Outcome State Fault Refusal :=
  (s.pldm (fun t =>
    let h := max 1 handle
    match pdrTable[h - 1]? with
    | some (k, id) => t.send (.i3c [0, (if h < pdrTable.length then h + 1 else 0), k, id])
    | none => t.send (.i3c [0x82]))).go

/-- A signed value as a 32-bit word of an answer. -/
def word32 (x : Int) : Nat := ofS 32 x

/-- Value of a numeric sensor, where it has that ID: none inside while what it reads is disabled or unused (R649). -/
def State.sensor (s : State) (id : Nat) : Option (Option Nat) :=
  if id = 1 then some (some (openDiv (s.rd R.LE_PKG_POWER_POWER 0) 1000))
  else if id = 2 then some (some (openDiv (s.rd R.LE_PKG_MEAN_MEAN 0) 1000))
  else if 16 ≤ id ∧ id < 30 then
    some (if s.rails.contains (id - 16) && s.bit R.PD_RAIL_CFG_ENABLE (id - 16)
      then some (word32 (openDivI (s.railVI (id - 16)) (2 ^ 21))) else none)
  else if 32 ≤ id ∧ id < 40 then
    some (if id - 32 < hbmStacks s.zk4 then some (word32 (openDivI (s.rdS H.LE_IN_HBM (id - 32)) 16)) else none)
  else if 64 ≤ id ∧ id < 192 then
    some (if s.paddocks.contains (id - 64) then some (word32 (openDivI (s.rdS R.TH_PAD_TEMP_TEMP (id - 64)) 16)) else none)
  else none

/-- Effect of GETSENSORREADING: operational state 0 enabled with the reading, 2 unavailable (R649, assumption 34). -/
def execGetsensorreading (id : Nat) (s : State) : Host.Outcome State Fault Refusal :=
  (s.pldm (fun t =>
    match t.sensor id with
    | some (some v) => t.send (.i3c [0, 0, v])
    | some none => t.send (.i3c [0, 2])
    | none => t.send (.i3c [0x80]))).go

/-- State of a state sensor (R649). -/
def State.stateSensor (s : State) (id : Nat) : Option Nat :=
  if id = 200 then some (if s.bit R.STATUS_READY 0 then 1 else 2)
  else if id = 201 then some (if s.faultLow then 2 else 1)
  else if id = 202 then some (if s.bit R.TH_TRIP_LATCHED 0 then 2 else 1)
  else none

/-- Effect of GETSTATESENSORREADINGS (R649). -/
def execGetstatesensorreadings (id : Nat) (s : State) : Host.Outcome State Fault Refusal :=
  (s.pldm (fun t =>
    match t.stateSensor id with
    | some v => t.send (.i3c [0, 1, 0, v])
    | none => t.send (.i3c [0x80]))).go

/-- Effect of SETNUMERICEFFECTERVALUE: H3 writes the cap for the BMC (R650). -/
def execSetnumericeffectervalue (id v : Nat) (s : State) : Host.Outcome State Fault Refusal :=
  (s.pldm (fun t =>
    if id ≠ 1 then t.send (.i3c [0x80])
    else if 16777 < v then t.send (.i3c [2])
    else (t.writeCapBmc ⟨.bmc, 0⟩ (1000 * v)).send (.i3c [0]))).go

/-- Effect of GETNUMERICEFFECTERVALUE: the cap in W (R649). -/
def execGetnumericeffectervalue (id : Nat) (s : State) : Host.Outcome State Fault Refusal :=
  (s.pldm (fun t =>
    if id = 1 then t.send (.i3c [0, 0, openDiv (t.rd R.CAP_BMC_CAP 0) 1000]) else t.send (.i3c [0x80]))).go

/-! ## Vendor-defined messages -/

/-- Effect of VENDOR_TALLY_READ: number of records, the SEQ after the last, and the records' bytes (R636, R651). -/
def execVendorTallyRead (first count : Nat) (s : State) : Host.Outcome State Fault Refusal :=
  (s.pldm (fun t =>
    if count = 0 ∨ 1024 < count then t.send (.i3c [3])
    else
      let l := t.tallyRange first count
      t.send (.i3c ([0, l.length, t.seqAfter l]
        ++ (l.flatMap (fun i => memGetBytes t.store (tallyAt i) 32)).map (fun (b : Byte) => b.toNat))))).go

/-- Word `k` of ZK_FLT_OPEN: one bit for each source that is not CLEAR (R466). -/
def State.openWord (s : State) (k : Nat) : Nat :=
  sumN (((s.touched R.FLT_SRC_STATE_STATE).filter (fun n => n / 32 == k && s.rd R.FLT_SRC_STATE_STATE n != 0)).map
    (fun n => 2 ^ (n % 32)))

/-- Effect of FAULT_OPEN (R651). -/
def execFaultOpen (s : State) : Host.Outcome State Fault Refusal :=
  (s.pldm (fun t => t.send (.i3c (0 :: (List.range 128).map t.openWord)))).go

/-- Effect of VENDOR_UNKNOWN: completion code UNKNOWN (R599, R651). -/
def execVendorUnknown (cmd : Nat) (s : State) : Host.Outcome State Fault Refusal :=
  (if cmd = 0x01 ∨ cmd = 0x02 then s else s.pldm (fun t => t.send (.i3c [2]))).go

/-! ## Events to the BMC -/

/-- A PlatformEventMessage to the receiver, with an in-band interrupt: class 0 sensorEvent or 1 effecterEvent, the ID and the
value (R650). -/
def State.platformEvent (s : State) (cls id v : Nat) : State :=
  s.when (s.rd H.PLAT_RECEIVER 0 != 0) (fun t => (t.send (.i3c [0x0A, cls, id, v])).send (.ibi 0xAE))

/-- The BMC's cap as it applies, in W (R546, R650). -/
def State.appliedCap (s : State) : Nat :=
  let c := s.rd R.CAP_BMC_CAP 0
  if c = 0 then 0 else openDiv (max c s.capMin) 1000

/-- READY, fault_n high, trip and CAP_LOW, as one word. -/
def State.eventState (s : State) : Nat :=
  b2n (s.bit R.STATUS_READY 0) + 2 * b2n (!s.faultLow) + 4 * b2n (s.bit R.TH_TRIP_LATCHED 0) + 8 * b2n (s.bit R.CAP_BMC_CAP_LOW 0)

/-- H3 tells the BMC what has changed (R650). -/
def State.platformEvents (s : State) : State :=
  s.pldm (fun t =>
    let old := t.rd H.PLAT_EV_STATE 0
    let new := t.eventState
    let moved (k : Nat) : Bool := old.testBit k != new.testBit k
    let t1 := (t.wr H.PLAT_EV_STATE 0 new).wr H.PLAT_CAP_EV 0 0
    let t2 := t1.when (t.bit H.PLAT_CAP_EV 0 || moved 3) (fun u => u.platformEvent 1 1 u.appliedCap)
    [200, 201, 202].foldl (fun (u : State) (id : Nat) =>
      u.when (moved (id - 200)) (fun x => x.platformEvent 0 id ((x.stateSensor id).getD 0))) t2)

/-- The supplies at a boundary: the readings enter the input set, and their ages grow (R55, R643, R653). DESIGN CHOICE (assumption
52): kind 0x0A of a STALE supply keeps the last reading; only the sums of R55 take the estimate (R66, R644). -/
def State.supplyBoundary (s : State) : State :=
  (List.range 16).foldl (fun (t : State) (k : Nat) =>
    (t.wr H.LE_IN_PMB k (pmbInput (t.rd R.PLAT_SUP_READ_POUT k))).when t.platOn (fun u => u.inc R.PLAT_SUP_STAT_AGE k 1)) s

end Sys2Proof.Machine
end

