-- ==== Sys2Proof/Machine/RegBus.lean ====
section
/-! DEFINITION. Register accesses in general (R10–R20, R654–R663, R666): what a read of a word returns, the shadows of the 64-bit
pairs, and a write to any register, judged and acted on field by field. -/

namespace Sys2Proof.Machine

/-! ## What a read shows -/

/-- 1 for each of `n` indices that satisfies a condition. -/
def bitsWhere (n : Nat) (c : Nat → Bool) : Nat := sumN (((List.range n).filter c).map (fun j => 2 ^ j))

/-- Number of indices below `n` that satisfy a condition. -/
def countWhere (n : Nat) (c : Nat → Bool) : Nat := ((List.range n).filter c).length

/-- A slot holds a sticky flag (R216). -/
def State.flagged (s : State) (l : Nat) : Bool :=
  [R.LE_SLOT_FLAGS_PLAUS, R.LE_SLOT_FLAGS_LUT_CLAMP, R.LE_SLOT_FLAGS_EXP_OVF, R.LE_SLOT_FLAGS_SAT_N, R.LE_SLOT_FLAGS_SAT_P].any
    (fun f => s.bit f l)

/-- Some source is in a state (R465). -/
def State.anySource (s : State) (st : Nat) : Bool :=
  (s.touched R.FLT_SRC_STATE_STATE).any (fun n => s.rd R.FLT_SRC_STATE_STATE n == st)

/-- Fields whose value is formed from other state when they are read, with what forms it: the top block, the Loop Engine and the
Phase Driver. -/
def viewsA : List (Fld × (State → Nat → Nat)) :=
  [(R.ID_FAMILY, fun _ _ => 0x5A4B),
   (R.ID_CONFIG, fun s _ => if s.zk4 then 4 else 2),
   (R.ID_INFO_STEP_MAJOR, fun s _ => s.ident.stepMajor),
   (R.ID_INFO_STEP_MINOR, fun s _ => s.ident.stepMinor),
   (R.ID_INFO_INSTANCE, fun s _ => b2n s.ident.instB),
   (R.ID_INFO_PACKAGE, fun s _ => if s.zk4 then 4 else 2),
   (R.FIFO_STAT_LEVEL, fun s _ => s.fifo.length),
   (R.FIFO_STAT_PACKETS, fun s _ => (s.fifo.filter (fun x => x.fin)).length),
   (R.LE_FLAG_SUM_FLAGGED, fun s k => bitsWhere 32 (fun j => s.flagged (32 * k + j))),
   (R.LE_PLAUS_SUM_HELD, fun s k => bitsWhere 32 (fun j => s.bit R.LE_SLOT_MODE_PLAUS_HOLD (32 * k + j))),
   (R.PD_STATUS_RAIL_ON, fun s _ => bitsWhere 14 s.railOn),
   (R.PD_FENCED_FENCED, fun s k => bitsWhere 32 (fun j => s.ph (32 * k + j) == 5)),
   (R.PD_DERATED_DERATED, fun s k => bitsWhere 32 (fun j => s.bit R.PD_PH_STAT_DERATED (32 * k + j))),
   (R.PD_RAIL_STAT_PULSING, fun s r => s.nPulse r),
   (R.PD_RAIL_STAT_FENCED, fun s r => s.nFenced r),
   (R.PD_RAIL_STAT_DERATED, fun s r => s.nDerated r)]

/-- The same: Crook, Bellwether, the thermal section, grants. -/
def viewsB : List (Fld × (State → Nat → Nat)) :=
  [(R.CROOK_STATUS_ORPHANS, fun s _ => countWhere 832 (s.bit R.CROOK_CELL_ORPHAN)),
   (R.CROOK_STATUS_STRETCHING, fun s _ => countWhere 832 (s.bit R.CROOK_CELL_STRETCHING)),
   (R.CROOK_CELL_PRESENT, fun s c => b2n (cellPresent s.zk4 c)),
   (R.CROOK_CELL_ENABLE, fun s c => if cellPresent s.zk4 c then s.rd R.CROOK_CELL_ENABLE c else 0),
   (R.BW_FOLD_STAT_ENTRIES, fun s f => (s.liveSched.filter (fun e => e.fold == f)).length),
   (R.TH_STATUS_TRIPPED, fun s _ => s.rd R.TH_TRIP_LATCHED 0),
   (R.TH_STATUS_NEAR_CNT, fun s _ => countWhere 128 (s.bit R.TH_PAD_STAT_NEAR)),
   (R.TH_STATUS_BLIND_CNT, fun s _ => countWhere 128 (s.bit R.TH_PAD_STAT_BLIND)),
   (R.TH_STATUS_CLAMP_CNT, fun s _ => countWhere 128 (s.bit R.TH_PAD_STAT_CLAMP)),
   (R.TH_DIODE_OWN, fun s d => b2n (s.diodeOwn d)),
   (R.TH_DIODE_PRESENT, fun s d => b2n (diodePresent s.zk4 d)),
   (R.GL_STATUS_READY, fun s _ => bitsWhere 4 (fun k => s.bank k == 3)),
   (R.GL_STATUS_OPEN, fun s _ => (s.bankIn 1).getD 0),
   (R.GL_STATUS_CLOSING_V, fun s _ => b2n (s.bankIn 2).isSome),
   (R.GL_STATUS_CLOSING, fun s _ => (s.bankIn 2).getD 0),
   (R.GL_RAIL_ENERGY_ENERGY, fun s r => s.rd H.GL_ETOT r / 1024 % 2 ^ 64)]

/-- The same: twin, faults, Tally, platform. -/
def viewsC : List (Fld × (State → Nat → Nat)) :=
  [(R.TWIN_STATUS_INSTANCE, fun s _ => b2n s.ident.instB),
   (R.TWIN_STATUS_TEST_PENDING, fun s _ => b2n s.verdictPending),
   (R.FLT_STATUS_FAULTN, fun s _ => b2n s.faultLow),
   (R.FLT_STATUS_FATAL_ANY, fun s _ => b2n (s.anySource 5)),
   (R.FLT_STATUS_SEVERE_ANY, fun s _ => b2n (s.anySource 4)),
   (R.FLT_STATUS_FACTORY, fun s _ => b2n s.factory),
   (R.FLT_STATUS_UNCLEARED, fun s _ => ((s.touched R.FLT_SRC_STATE_STATE).filter (fun n => s.rd R.FLT_SRC_STATE_STATE n != 0)).length),
   (R.FLT_OPEN_OPEN, fun s k => s.openWord k),
   (R.TALLY_STAT_FILL, fun s _ => s.heldSlots.length),
   (R.PLAT_PINS_POR_N, fun _ _ => 1),
   (R.PLAT_PINS_HOLD_N, fun _ _ => 1),
   (R.PLAT_PINS_THERMTRIP_N, fun s _ => b2n (!s.bit R.TH_TRIP_NET_LOW 0)),
   (R.PLAT_PINS_FAULT_N, fun s _ => b2n (!s.faultLow)),
   (R.PLAT_PINS_GATE, fun s _ => s.rd R.TWIN_STATUS_GATE_OWN 0),
   (R.PLAT_PINS_GATE_PEER, fun s _ => s.rd R.TWIN_STATUS_GATE_PEER 0),
   (R.PLAT_PINS_PMB_MASTER, fun s _ => b2n s.pmbMaster),
   (R.PLAT_MCTP_STATIC, fun s _ => s.i3cStatic)]

/-- Element `i` of a field as a read of its register shows it. -/
def State.shown (s : State) (f : Fld) (i : Nat) : Nat :=
  match (viewsA ++ viewsB ++ viewsC).find? (fun x => x.1 == f) with
  | some x => x.2 s i % 2 ^ f.wid
  | none => s.readBack f i

/-- INTEG_HI reads copies of I bit 39 above its own byte (R219). -/
def signHigh (off v : Nat) : Nat :=
  if 0x114000 ≤ off ∧ off < 0x118000 ∧ off % 64 = 0x14 ∧ v.testBit 7 then v % 256 + 0xFFFFFF00 else v

/-- A register word as a read returns it: held writes show at once, reserved space reads 0 (R16, R18, R195, R220). -/
def State.liveWord (s : State) (off : Nat) : Nat :=
  if s.reservedWord off then 0
  else if heldOff off then signHigh off (s.heldRead off)
  else wordFrom off s.shown

/-! ## Reads -/

/-- Low word of a 64-bit pair (R11, R665). -/
def pairLow (off : Nat) : Bool :=
  off == 0x100020 || off == 0x200004
    || (decide (0x114000 ≤ off) && decide (off < 0x118000) && off % 64 == 0x10)
    || (decide (0x1B0100 ≤ off) && decide (off < 0x1B0140) && off % 16 == 4)
    || (decide (0x1B2000 ≤ off) && decide (off < 0x1B20E0) && off % 16 == 0)

/-- A sample of a capture buffer: undefined until it is written, so a free value (R214, R665). -/
def State.captureRead (s : State) (off : Nat) : Nat × State :=
  let l := 64 * s.rd R.LE_CAP_PAGE_PAGE 0 + (off - 0x300000) / 0x4000
  let v := s.rd H.LE_CAP_SAMPLE (4096 * l + off % 0x4000 / 4)
  if v.testBit 32 then (v % 2 ^ 32, s) else (s.freeVal 32, s.freeStep)

/-- The word that a read of register space returns, and the state after it: a low word latches its pair's high word, a high word
takes the shadow of its port, a read of ZK_FIFO_POP pops (R11, R574). There is one shadow for each port and pair, and each hart, the
host, the PSC and the BMC is a port of its own: DESIGN CHOICE, assumption 54. -/
def State.readWord (s : State) (q : Requester) (off : Nat) : Nat × State :=
  if 0x300000 ≤ off ∧ off < 0x400000 then s.captureRead off
  else if off = 0x10018C then s.popRead
  else if pairLow off then
    (s.liveWord off, { s with
      shadows := (s.shadows.filter (fun x => !(x.1 == q && x.2.1 == off))) ++ [(q, off, s.liveWord (off + 4))] })
  else if pairLow (off - 4) then
    match s.shadows.find? (fun x => x.1 == q && x.2.1 == off - 4) with
    | some x => (x.2.2, { s with shadows := s.shadows.filter (fun y => !(y.1 == q && y.2.1 == off - 4)) })
    | none => (s.liveWord off, s)
  else (s.liveWord off, s)

/-- An access of register space or a capture buffer that R658 serves. -/
def regServed (write : Bool) (off size : Nat) : Bool :=
  if 0x300000 ≤ off ∧ off < 0x400000 ∧ write = false then (size == 4 && off % 4 == 0) || (size == 8 && off % 8 == 0)
  else if size = 8 then off % 8 == 0
  else (size == 1 || size == 2 || size == 4) && decide (off % 4 + size ≤ 4)

/-- A read by a requester of `size` bytes at an offset of the window (R10, R658–R660). -/
def State.busRead (s : State) (w : WCtx) (off size : Nat) : State :=
  if off < storeSize then s.storeRead w off size .clean
  else if s.gated off || !regServed false off size then s.answer .busError
  else if size = 8 then
    let a := s.readWord w.req off
    let b := a.2.readWord w.req (off + 4)
    b.2.answer (.data (a.1 + 2 ^ 32 * b.1))
  else
    let a := s.readWord w.req (off / 4 * 4)
    a.2.answer (.data (a.1 / 2 ^ (8 * (off % 4)) % 2 ^ (8 * size)))

/-- Effect of READ_PAIR_LOW: a read, of a pair's low word or of any other register (R11). -/
def execReadPairLow (w : WCtx) (off size : Nat) (s : State) : Host.Outcome State Fault Refusal :=
  (s.busRead w (off % 2 ^ 24) size).go

/-! ## Writes: the value of each field -/

/-- A field addressed by a write: the field, its element, and the value it would take. -/
structure Put where
  fld : Fld
  ix : Nat
  val : Nat
deriving DecidableEq, Repr

/-- The latest value staged for a field, or the present one: what the bytes that a write does not address keep (R10). -/
def State.stagedVal (s : State) (f : Fld) (i : Nat) : Nat :=
  s.staged.foldl (fun (acc : Nat) (x : Staged) =>
    match x.act with
    | .field g j v => if g = f ∧ j = i then v else acc
    | .hostCap j v => if f = R.LE_FOLD_HOSTCAP_HOSTCAP ∧ j = i then v else acc
    | .manual j v => if f = R.LE_SLOT_MANUAL_MANUAL ∧ j = i then v else acc
    | .capBmc v false => if f = R.CAP_BMC_CAP then v else acc
    | .tileFence t on => if f = R.TH_FENCE_REQ ∧ t = i then b2n on else acc
    | _ => acc) (s.rd f i)

/-- Value of element `i` of a field with the bits of a mask over its word written. -/
def Fld.lay (f : Fld) (i old word v mask : Nat) : Nat :=
  (List.range f.wid).foldl (fun acc k =>
    let b := f.key i + k
    if 8 * word ≤ b ∧ b < 8 * word + 32 ∧ mask.testBit (b - 8 * word) = true then setBit acc k (v.testBit (b - 8 * word)) else acc) old

/-- The write addresses some bit of the field. -/
def Fld.addressed (f : Fld) (i word mask : Nat) : Bool :=
  (List.range f.wid).any (fun k =>
    let b := f.key i + k
    decide (8 * word ≤ b) && decide (b < 8 * word + 32) && mask.testBit (b - 8 * word))

/-- What unaddressed bytes of a field count as: nothing for a field whose written ones act, else the value that stands. -/
def State.baseVal (s : State) (f : Fld) (i : Nat) : Nat :=
  match f.acc with
  | .wo => 0
  | .w1c => 0
  | _ => s.stagedVal f i

/-- The fields a write addresses. -/
def State.puts (s : State) (word v mask : Nat) : List Put :=
  ((wordFields word).filter (fun x => x.1.acc != .ro && x.1.addressed x.2 word mask)).map (fun x =>
    ⟨x.1, x.2, x.1.lay x.2 (s.baseVal x.1 x.2) word v mask⟩)

/-- Value written to a field, 0 where the write does not address it. -/
def putVal (ps : List Put) (f : Fld) (i : Nat) : Nat :=
  match ps.find? (fun p => p.fld == f && p.ix == i) with
  | some p => p.val
  | none => 0

/-- The write addresses the field. -/
def putHas (ps : List Put) (f : Fld) (i : Nat) : Bool := ps.any (fun p => p.fld == f && p.ix == i)

/-- The write sets a one-bit field. -/
def putSet (ps : List Put) (f : Fld) (i : Nat) : Bool := putVal ps f i == 1

/-- The bits of a word at `off` that belong to one element of a field. -/
def Fld.bitsIn (f : Fld) (i off : Nat) : Nat :=
  let lo := 8 * (off / 4 * 4)
  let k := f.key i
  let m := 2 ^ f.wid - 1
  if lo ≤ k then (m * 2 ^ (k - lo)) % 2 ^ 32 else (m / 2 ^ (lo - k)) % 2 ^ 32

/-- Why a protected field makes the write count as refused: it would take another value than a read of it returns, a held word
or an uncovered stage word included (R195, R220, R666). -/
def State.putRefused (s : State) (q : Requester) (word v mask : Nat) (p : Put) : Option Nat :=
  match s.protected? q p.fld p.ix with
  | none => none
  | some c =>
    let now := s.liveWord word
    let moved := if p.fld.acc = .w1c then now &&& v else now ^^^ v
    if moved &&& mask &&& p.fld.bitsIn p.ix word = 0 then none else some c

/-! ## Writes that a rule of the owner chapter refuses as a whole -/

/-- Two regions of the Store, in pages of 4 KiB, overlap. -/
def pagesMeet (a n b m : Nat) : Bool := decide (a < b + m) && decide (b < a + n)

/-- Pages of the grant and ledger region, and of the golden region with the injection area (R392, R445). -/
def glPages : Nat := 0x29
def goldPages : Nat := 0x21

/-- SOURCE of a write of ZK_FLT_CMD. -/
def State.sourceOf (s : State) (ps : List Put) : Nat :=
  if putHas ps R.FLT_CMD_SOURCE 0 then putVal ps R.FLT_CMD_SOURCE 0 else s.rd R.FLT_CMD_SOURCE 0

/-- DOMAIN of a write of ZK_CLK_SWITCH. -/
def State.domainOf (s : State) (ps : List Put) : Nat :=
  if putHas ps R.CLK_SWITCH_DOMAIN 0 then putVal ps R.CLK_SWITCH_DOMAIN 0 else s.rd R.CLK_SWITCH_DOMAIN 0

/-- The rule refuses the write (R228, R239, R345, R393, R425, R458, R459, R465, R482, R490, R494, R495, R539, R565, R586, R606,
R607, R616, R622, R653). -/
def State.ruleRefuses (s : State) (q : Requester) (word : Nat) (ps : List Put) : Bool :=
  ps.any (fun p =>
    let f := p.fld
    let i := p.ix
    let v := p.val
    if f == R.PROFILE_REQ then !s.running || s.badProfile v
    else if f == R.STORE_AMO_ADDR_ADDR then amoSet q != some i
    else if f == R.STORE_AMO_ADDR_OP then amoSet q != some i || v == 3
    else if f == R.STORE_AMO_DATA_DATA then
      !(amoSet q == some i && s.rd R.STORE_AMO_ADDR_OP i != 3 && !(s.storeShut && !Requester.isHart q))
    else if f == R.PD_RAIL_CMD_RESTART then v == 1 && !s.mayRestart i
    else if f == R.PD_PH_CTRL_FENCE then v == 1 && s.ph i == 7
    else if f == R.GL_BASE_BASE then decide (0xD7 < v)
    else if f == R.FLT_GOLD_BASE_BASE then decide (0xDF < v) || pagesMeet v goldPages (s.rd R.GL_BASE_BASE 0) glPages
    else if f == R.FLT_INJ_ADDR_ADDR then !s.inInjArea (4 * v)
    else if f == R.TWIN_CMD_SWAP then v == 1 && !s.peerStandby
    else if f == R.TWIN_CMD_ATTACH then v == 1 && s.role != 0
    else if f == R.TWIN_CMD_DETACH then v == 1 && !s.mayDetach
    else if f == R.FLT_CMD_ACTION then (v == 1 || v == 2) && !s.mayCommand (s.sourceOf ps)
    else if word == 0x1D0020 then
      !s.mayInject q (if putHas ps R.FLT_INJ_TARGET 0 then putVal ps R.FLT_INJ_TARGET 0 else s.rd R.FLT_INJ_TARGET 0)
    else if f == R.CLK_EN_EN then !s.mayGate v
    else if f == R.CLK_SWITCH_DOMAIN then decide (5 < v)
    else if f == R.CLK_SWITCH_GO then v == 1 && !s.mayReturn (s.domainOf ps)
    else if f == R.FW_HART_CTRL_KICK || f == R.FW_HART_CTRL_SELF_RESET then v == 1 && !isHartK q i
    else if f == R.MBOX_DOORBELL_CMD then
      !putSet ps R.MBOX_DOORBELL_CANCEL i && (!(s.isSender q i) || s.bit R.MBOX_STAT_PENDING i)
    else if f == R.MBOX_DOORBELL_CANCEL then v == 1 && !s.isSender q i
    else if f == R.MBOX_ACK_CODE || f == R.MBOX_ACK_RESULT then !(s.isReceiver q i && s.bit R.MBOX_STAT_PENDING i)
    else if f == R.MBOX_CTRL_RECEIVER || f == R.MBOX_CTRL_SENDER then decide (5 < v)
    else if f == R.TALLY_SUBMIT_CHANNEL then decide (v < 8)
    else if f == R.PLAT_SUP_CFG_KIND then decide (3 < v)
    else false)
    || (word == 0x1C0004 && decide (1 < (ps.filter (fun p => p.val == 1)).length))
    || (word == 0x1E0104 && decide (1 < (ps.filter (fun p => p.val == 1)).length))

/-! ## Writes: what they do -/

/-- Clamps of fields that are stored at once (R15, R308, R313, R393, R428, R494, R576, R614). -/
def rwStored (f : Fld) (v : Nat) : Nat :=
  if f == R.FIFO_WM_WM then min 64 v
  else if f == R.GL_CTRL_GRANT_PERIOD then max 500 (min 4000 v)
  else if f == R.GL_CTRL_RESERVE_PCT then min 50 v
  else if f == R.TWIN_TOL_TOL_V then max 1 (min 50 v)
  else if f == R.CLK_CTRL_TOL then max 3 (min 20 v)
  else if f == R.CROOK_RAIL_CFG_STEP_V then max 5 (min 60 v)
  else if f == R.BW_RAIL_CTRL_MET_PCT then max 1 (min 100 v)
  else if f == R.FW_SHED_SHED_HI then max 50 (min 100 v)
  else if f == R.FW_LOG_LEVEL_MIN then min 3 v
  else v

/-- Word of the Loop Engine whose writes both instances make (R205, R427). -/
def mirroredWord (word : Nat) : Bool := decide (0x110100 ≤ word) && decide (word < 0x110600)

/-- A field of the common kind: stored, cleared, or staged for a boundary (R12, R15). -/
def State.putField (s : State) (w : WCtx) (p : Put) : State :=
  match p.fld.acc with
  | .ro => s
  | .rw => s.wr p.fld p.ix (rwStored p.fld p.val)
  | .rwo => s.wr p.fld p.ix p.val
  | .w1c => s.wr p.fld p.ix (s.rd p.fld p.ix - (s.rd p.fld p.ix &&& p.val))
  | .wo => s
  | .rww => s.stage w (.field p.fld p.ix p.val)

/-- Fields of a word that the common kind covers. -/
def State.putFields (s : State) (w : WCtx) (ps : List Put) : State := ps.foldl (fun (t : State) (p : Put) => t.putField w p) s

/-- ZK_RUN: RELOAD, then EN, on the other fields of the word (R524–R526, R534). -/
def State.putRun (s : State) (w : WCtx) (ps : List Put) : State :=
  let s1 := (ps.filter (fun p => p.fld == R.RUN_KEEP_PROFILE || p.fld == R.RUN_SRC || p.fld == R.RUN_RING)).foldl
    (fun (t : State) (p : Put) => t.wr p.fld p.ix p.val) s
  let s2 := s1.when (putSet ps R.RUN_RELOAD 0 && s.running) (fun t => t.askReload w)
  if putHas ps R.RUN_EN 0 then (if putSet ps R.RUN_EN 0 then s2.enable else s2.disable w) else s2

/-- ZK_PROFILE (R538, R539, R547). -/
def State.putProfile (s : State) (w : WCtx) (ps : List Put) : State :=
  let s1 := s.when (putSet ps R.PROFILE_REQ_ERR 0) (fun t => t.wr R.PROFILE_REQ_ERR 0 0)
  s1.when (putHas ps R.PROFILE_REQ 0) (fun t =>
    (t.requestProfile (putVal ps R.PROFILE_REQ 0)).mirrorOut w (.profile (putVal ps R.PROFILE_REQ 0)))

/-- Package and fold registers of the Loop Engine: staged, and the whole words sent to the peer (R205, R217, R218). -/
def State.putLimits (s : State) (w : WCtx) (word : Nat) (ps : List Put) : State :=
  let s1 := ps.foldl (fun (t : State) (p : Put) =>
    if p.fld == R.LE_FOLD_HOSTCAP_HOSTCAP then t.stage w (.hostCap p.ix p.val) else t.putField w p) s
  s1.mirrorOut w (.write word (wordFrom word s1.stagedVal))

/-- Slot registers that have an action of their own (R192–R195, R213). -/
def State.putSlot (s : State) (w : WCtx) (word v mask : Nat) (ps : List Put) : State :=
  let l := (word - 0x114000) / 64
  if putHas ps R.LE_SLOT_MODE_MODE_REQ l then
    let m := putVal ps R.LE_SLOT_MODE_MODE_REQ l
    ((s.wr R.LE_SLOT_MODE_MODE_REQ l m).stage w (.modeReq l m)).mirrorOut w (.write word m)
  else if putHas ps R.LE_SLOT_MANUAL_MANUAL l then
    let m := putVal ps R.LE_SLOT_MANUAL_MANUAL l
    (s.stage w (.manual l m)).mirrorOut w (.write word m)
  else if word % 64 = 0x30 then s.writeCap l ((s.rawWord word &&& (0xFFFFFFFF - mask)) ||| (v &&& mask)) (mask.testBit 0)
  else s.putFields w ps

/-- ZK_PD_RAIL_CMD (R258, R263). -/
def State.putRailCmd (s : State) (w : WCtx) (ps : List Put) : State :=
  ps.foldl (fun (t : State) (p : Put) =>
    if p.val = 0 then t
    else if p.fld == R.PD_RAIL_CMD_RESTART then t.stageCmd w R.PD_RAIL_CMD_RESTART p.ix (.restart p.ix)
    else t.stageCmd w R.PD_RAIL_CMD_CLEAR_SAFE p.ix (.clearSafe p.ix)) s

/-- ZK_TH_FENCE: each tile whose request the write changes (R338). -/
def State.putFence (s : State) (w : WCtx) (ps : List Put) : State :=
  (ps.filter (fun p => s.stagedVal p.fld p.ix != p.val)).foldl (fun (t : State) (p : Put) =>
    t.stage w (.tileFence p.ix (p.val == 1))) s

/-- ZK_TWIN_CMD (R403, R423, R425). -/
def State.putTwinCmd (s : State) (w : WCtx) (ps : List Put) : State :=
  if putSet ps R.TWIN_CMD_SWAP 0 then s.stageCmd w R.TWIN_CMD_SWAP 0 .swap
  else if putSet ps R.TWIN_CMD_ATTACH 0 then s.stageCmd w R.TWIN_CMD_ATTACH 0 .attach
  else if putSet ps R.TWIN_CMD_DETACH 0 then s.stageCmd w R.TWIN_CMD_DETACH 0 .detach
  else s

/-- ZK_FLT_CMD (R435, R465, R668). -/
def State.putFltCmd (s : State) (w : WCtx) (ps : List Put) : State :=
  let s1 := s.when (putSet ps R.FLT_CMD_REJECT_CLR 0) (fun t => t.wr R.FLT_REJECT_COUNT 0 0)
  let n := s.sourceOf ps
  let rest := ps.filter (fun p => p.fld != R.FLT_CMD_REJECT_CLR)
  if putVal ps R.FLT_CMD_ACTION 0 = 1 then (s1.putCommand 1 n).stage w (.clearSource n)
  else if putVal ps R.FLT_CMD_ACTION 0 = 2 then (s1.putCommand 2 n).stage w (.runTest n)
  else s1.putFields w rest

/-- ZK_CLK_CTRL: a crystal that is no longer enabled stops, and a reference that is no longer eligible is left (R469–R472,
R494, R640). -/
def State.putClkCtrl (s : State) (w : WCtx) (ps : List Put) : State :=
  let s1 := s.putFields w ps
  let s2 := [0, 1].foldl (fun (t : State) (x : Nat) =>
    t.when (s.bit (xEn x) 0 && !t.bit (xEn x) 0) (fun u => ((u.wr (xAmp x) 0 0).wr (xFail x) 0 0).wr H.CLK_XIDLE x 0)) s1
  let s3 := s2.showRec
  s3.when (!s3.eligible (s3.rd R.CLK_STATUS_REF 0) && decide (s3.rd R.CLK_STATUS_REF 0 < 3)) State.takeHighest

/-- ZK_RST_CMD: the scope asserts at the boundary at which the write takes effect (R15, R491, R495). -/
def State.putRstCmd (s : State) (w : WCtx) (ps : List Put) : State :=
  if putSet ps R.RST_CMD_LE 0 then s.stageCmd w R.RST_CMD_LE 0 (.reset 0)
  else if putSet ps R.RST_CMD_TWIN 0 then s.stageCmd w R.RST_CMD_TWIN 0 (.reset 1)
  else if putSet ps R.RST_CMD_BLOCK 0 then s.stageCmd w R.RST_CMD_BLOCK 0 (.reset 2)
  else match [0, 1, 2, 3].find? (fun k => putSet ps R.RST_CMD_HART k) with
    | some k => s.stageCmd w R.RST_CMD_HART k (.reset (4 + k))
    | none => s

/-- ZK_FW_HART_CTRL (R586, R590, R614). -/
def State.putHartCtrl (s : State) (k : Nat) (ps : List Put) : State :=
  let s1 := s.when (putHas ps R.FW_HART_CTRL_SLEEP_OK k) (fun t =>
    t.wr R.FW_HART_CTRL_SLEEP_OK k (putVal ps R.FW_HART_CTRL_SLEEP_OK k))
  let s2 := s1.when (putSet ps R.FW_HART_CTRL_KICK k) (fun t => t.kick k)
  s2.when (putSet ps R.FW_HART_CTRL_SELF_RESET k) (fun t => t.commandHart k)

/-- ZK_FW_SHED: SHED_LO at most SHED_HI − 5 (R614). -/
def State.putShed (s : State) (w : WCtx) (ps : List Put) : State :=
  let s1 := s.putFields w ps
  s1.wr R.FW_SHED_SHED_LO 0 (min (s1.rd R.FW_SHED_SHED_LO 0) (s1.rd R.FW_SHED_SHED_HI 0 - 5))

/-- Mailbox registers (R606, R607, R616). -/
def State.putMbox (s : State) (w : WCtx) (m : Nat) (ps : List Put) : State :=
  if putSet ps R.MBOX_DOORBELL_CANCEL m then s.cancelMbox w m
  else if putHas ps R.MBOX_DOORBELL_CMD m then s.ringMbox w m (putVal ps R.MBOX_DOORBELL_CMD m)
  else if putHas ps R.MBOX_ACK_CODE m then
    s.ackMbox w m (putVal ps R.MBOX_ACK_CODE m)
      (if putHas ps R.MBOX_ACK_RESULT m then putVal ps R.MBOX_ACK_RESULT m else s.rd R.MBOX_ACK_RESULT m)
  else s.putFields w ps

/-- ZK_PLAT_SUP_CFG: a supply newly enabled has its VOUT_MODE read again (R642, R653). -/
def State.putSupply (s : State) (w : WCtx) (k : Nat) (ps : List Put) : State :=
  (s.putFields w ps).when (putSet ps R.PLAT_SUP_CFG_EN k && !s.bit R.PLAT_SUP_CFG_EN k) (fun t =>
    t.clearElems [R.PLAT_SUP_CFG_FMT_ERR, H.PLAT_FAILS, H.PLAT_OVERP] k)

/-- A register of the top block. -/
def State.putTop (s : State) (w : WCtx) (word : Nat) (ps : List Put) : State :=
  if word = 0x100004 then s.putRun w ps
  else if word = 0x100030 then s.putProfile w ps
  else if word = 0x100034 then
    s.when (putHas ps R.CAP_BMC_CAP 0) (fun t =>
      (t.stage w (.capBmc (putVal ps R.CAP_BMC_CAP 0) false)).mirrorOut w (.write 0x100034 (putVal ps R.CAP_BMC_CAP 0)))
  else if word = 0x100108 then
    s.putRet ((List.range 16).foldl (fun n b =>
      setBit n b (if putHas ps R.STORE_RET_RET b then putSet ps R.STORE_RET_RET b else s.bit R.STORE_RET_RET b)) 0)
  else if 0x100120 ≤ word ∧ word < 0x100148 ∧ word % 8 = 4 then
    s.when (!ps.isEmpty) (fun t => t.atomic w.req ((word - 0x100120) / 8) (putVal ps R.STORE_AMO_DATA_DATA ((word - 0x100120) / 8)))
  else if word = 0x100188 then (s.putFields w ps).when (putSet ps R.FIFO_WM_ACK 0) State.ackFifo
  else s.putFields w ps

/-- A register of the Loop Engine or of the LUT memory. -/
def State.putLe (s : State) (w : WCtx) (word v mask : Nat) (ps : List Put) : State :=
  if ps.isEmpty then s
  else if heldOff word then s.holdWrite w word v mask
  else if mirroredWord word then s.putLimits w word ps
  else if 0x114000 ≤ word ∧ word < 0x118000 then s.putSlot w word v mask ps
  else s.putFields w ps

/-- A register of the Phase Driver, of Crook or of Bellwether. -/
def State.putPower (s : State) (w : WCtx) (word : Nat) (ps : List Put) : State :=
  if 0x141000 ≤ word ∧ word < 0x141700 ∧ word % 128 = 0x44 then s.putRailCmd w ps
  else if 0x144000 ≤ word ∧ word < 0x144800 then
    ps.foldl (fun (t : State) (p : Put) => t.stage w (.phaseFence p.ix (p.val == 1))) s
  else if word = 0x15000C then
    s.when (!ps.isEmpty) (fun t => t.stage w (.crookTest (putVal ps R.CROOK_TEST_CELL 0)))
  else if 0x151000 ≤ word ∧ word < 0x151D00 then
    ps.foldl (fun (t : State) (p : Put) => t.stage w (.cellEnable p.ix (p.val == 1))) s
  else if word = 0x160004 then
    (s.when (putSet ps R.BW_CLEAR_RAILS 0) (fun t => t.clearFld R.BW_RAIL_STAT_MISSES)).when (putSet ps R.BW_CLEAR_FOLDS 0)
      (fun t => t.clearFlds bwFoldCounters)
  else s.putFields w ps

/-- A register of the thermal section, of grants or of the twin block. -/
def State.putMid (s : State) (w : WCtx) (word : Nat) (ps : List Put) : State :=
  if 0x1A0040 ≤ word ∧ word < 0x1A00A0 then s.putFence w ps
  else if 0x1B0100 ≤ word ∧ word < 0x1B0140 ∧ word % 16 = 0 then
    s.when (putSet ps R.GL_BANK_STAT_RELEASE ((word - 0x1B0100) / 16)) (fun t => t.releaseBank ((word - 0x1B0100) / 16))
  else if word = 0x1C0004 then s.putTwinCmd w ps
  else s.putFields w ps

/-- A register of the faults block, or of clocks and resets. -/
def State.putKeep (s : State) (w : WCtx) (word : Nat) (ps : List Put) : State :=
  if word = 0x1D0010 then s.putFltCmd w ps
  else if word = 0x1E0004 then s.putClkCtrl w ps
  else if word = 0x1E0008 then
    s.when (!ps.isEmpty) (fun t => t.putDiv (4 * putVal ps R.CLK_DIV_BUS_DIV 0 + putVal ps R.CLK_DIV_HART_DIV 0))
  else if word = 0x1E001C then
    (s.when (putHas ps R.CLK_SWITCH_DOMAIN 0) (fun t => t.wr R.CLK_SWITCH_DOMAIN 0 (putVal ps R.CLK_SWITCH_DOMAIN 0))).when
      (putSet ps R.CLK_SWITCH_GO 0) (fun t => t.doReturn (s.domainOf ps))
  else if word = 0x1E0104 then s.putRstCmd w ps
  else s.putFields w ps

/-- A register of the harts, the host, the rings, the mailboxes, the Tally or the platform. A write of ZK_TALLY_SUBMIT that does
not address CHANNEL submits on channel 0, as what it does not address counts as 0 in fields whose written values act: DESIGN
CHOICE, assumption 54. -/
def State.putFw (s : State) (w : WCtx) (word : Nat) (ps : List Put) : State :=
  if 0x1F0010 ≤ word ∧ word < 0x1F0020 then s.putHartCtrl ((word - 0x1F0010) / 4) ps
  else if word = 0x1F0020 then s.putShed w ps
  else if word = 0x1F0024 then s.when (!ps.isEmpty && w.req == .host) State.heartbeat
  else if 0x1F1000 ≤ word ∧ word < 0x1F1800 ∧ word % 32 = 0x10 then
    let r := (word - 0x1F1000) / 32
    let at? (f : Fld) : Nat := if putHas ps f r then putVal ps f r else s.rd f r
    s.when (!ps.isEmpty) (fun t => t.ringBell w.req r (at? R.RING_DB_CMD_TAIL) (at? R.RING_DB_CPL_HEAD))
  else if 0x1F2000 ≤ word ∧ word < 0x1F2200 then s.putMbox w ((word - 0x1F2000) / 32) ps
  else if word = 0x200018 then s.when (putSet ps R.TALLY_CTRL_FLUSH 0) State.askFlush
  else if word = 0x200028 then
    s.when (!ps.isEmpty) (fun t => t.submitRecord (65536 * putVal ps R.TALLY_SUBMIT_CODE 0 + 64 * putVal ps R.TALLY_SUBMIT_SEVERITY 0
      + putVal ps R.TALLY_SUBMIT_CHANNEL 0))
  else if 0x210100 ≤ word ∧ word < 0x210200 ∧ word % 16 = 0 then s.putSupply w ((word - 0x210100) / 16) ps
  else s.putFields w ps

/-- What the fields that a write may reach do. -/
def State.putWord (s : State) (w : WCtx) (word v mask : Nat) (ps : List Put) : State :=
  let k := word / 0x10000
  if k = 0x10 then s.putTop w word ps
  else if k < 0x14 then s.putLe w word v mask ps
  else if k < 0x1A then s.putPower w word ps
  else if k < 0x1D then s.putMid w word ps
  else if k < 0x1F then s.putKeep w word ps
  else s.putFw w word ps

/-- RELOAD written while no map runs: refused, whatever the other fields do (R534). -/
def State.reloadRefused (s : State) (ps : List Put) : Bool := putSet ps R.RUN_RELOAD 0 && !s.running

/-- What a refused write leaves besides its count: REQ_ERR of a profile that is not there, REJECTS of a mailbox (R539, R607). -/
def State.refusedNote (s : State) (word : Nat) (ps : List Put) : State :=
  let s1 := s.when (putHas ps R.PROFILE_REQ 0 && s.badProfile (putVal ps R.PROFILE_REQ 0)) (fun t => t.wr R.PROFILE_REQ_ERR 0 1)
  s1.when (decide (0x1F2000 ≤ word) && decide (word < 0x1F2200) && (word % 32 == 0x10 || word % 32 == 0x14)) (fun t =>
    t.inc R.MBOX_STAT_REJECTS ((word - 0x1F2000) / 32) 1)

/-- A write that is deferred counts once, however many fields of it are staged (R80, R87). -/
def State.deferredOnce (t s : State) : State :=
  t.when (decide (s.rd R.FRAME_STAT_DEFER_CNT 0 < t.rd R.FRAME_STAT_DEFER_CNT 0)) (fun u =>
    u.wr R.FRAME_STAT_DEFER_CNT 0 (s.rd R.FRAME_STAT_DEFER_CNT 0 + 1))

/-- A write to one register word, with a mask of the bits it addresses: judged in the order of R660 and field by field under
R666. -/
def State.writeWord (s : State) (w : WCtx) (word v mask : Nat) : State :=
  if 0x300000 ≤ word ∧ word < 0x400000 then s.refuse w word 3
  else if s.reservedWord word then s.refuse w word 2
  else
    let all := s.puts word v mask
    let causes := all.filterMap (s.putRefused w.req word v mask)
    let free := all.filter (fun p => (s.protected? w.req p.fld p.ix).isNone)
    let cause := match causes.find? (fun c => c != 4) with
      | some c => some c
      | none => causes.head?
    if s.ruleRefuses w.req word free then (s.refuse w word (cause.getD 3)).refusedNote word free
    else
      let t := ((s.putWord w word v mask free).deferredOnce s).answer .ok
      match cause with
      | some c => t.refuse w word c
      | none => if s.reloadRefused free then t.refuse w word 3 else t

/-- A write by a requester of `size` bytes at an offset of the window (R10, R658, R660, R661). -/
def State.busWrite (s : State) (w : WCtx) (off size v : Nat) : State :=
  if off < storeSize then s.storeWrite w off (toLeBytes size v)
  else if s.gated off || !regServed true off size then s.answer .busError
  else if size = 8 then
    (s.writeWord w off (v % 2 ^ 32) 0xFFFFFFFF).writeWord w (off + 4) (v / 2 ^ 32 % 2 ^ 32) 0xFFFFFFFF
  else
    let lo := 8 * (off % 4)
    s.writeWord w (off / 4 * 4) (v % 2 ^ (8 * size) * 2 ^ lo) ((2 ^ (8 * size) - 1) * 2 ^ lo)

/-- Effect of REGISTER_WRITE (R10, R20, R660, R666). -/
def execRegisterWrite (w : WCtx) (off size v : Nat) (s : State) : Host.Outcome State Fault Refusal :=
  (s.busWrite w (off % 2 ^ 24) size v).go

end Sys2Proof.Machine
end

