-- ==== Sys2Proof/Machine/Boundary.lean ====
section
/-! DEFINITION. The frame boundary: the frame counter (R58), the commits in their order (R80, R81), the outputs of the frame
that has ended, the input set and what each block forms from it (R62, R65). -/

namespace Sys2Proof.Machine

/-! ## Step 2: protection settings -/

/-- A two's-complement value of `w` bits held to a greatest value. -/
def capS (w : Nat) (top : Int) (v : Nat) : Nat := ofS w (min top (toS w v))

/-- A protection setting as it is stored: clamped to its range (R15, R217, R307, R325, R327, R330, R331, R336, R338, R428,
R467; the rails' bounds are R144's, R246's and R263's). -/
def State.clampField (s : State) (f : Fld) (i v : Nat) : Nat :=
  let n := s.rd R.PD_RAIL_CFG_COUNT i
  if f == R.PD_RAIL_LIMITS_TRUNC then max 10 (min 60 v)
  else if f == R.PD_RAIL_LIMITS_SC then max 500 (min 1100 v)
  else if f == R.PD_RAIL_CONT_CONT then min v ((n - 1) * 700)
  else if f == R.PD_RAIL_OVERLOAD_OVERLOAD then min v (n * 700)
  else if f == R.PD_RAIL_HEALTH_DEV then max 10 (min 90 v)
  else if f == R.CROOK_FOLD_CFG_THRESH then max 1 (min 20 v)
  else if f == R.CROOK_FOLD_CFG_HYST then min 10 v
  else if f == R.CROOK_FOLD_CFG_MAX_STRETCH then max 1 (min 50 v)
  else if f == R.TH_CTRL_BLIND_ADD then min 15 v
  else if f == R.TH_CTRL_XCHK_DEV then min 30 v
  else if f == R.TH_LIMITS_HOT_CLAMP || f == R.TH_LIMITS_TILE_FENCE_T then capS 16 1792 v
  else if f == R.TH_PAD_HURDLE_LEVEL then capS 16 1760 v
  else if f == R.TH_PAD_HURDLE_RATE then max 1 v
  else if f == R.TH_OPT_HEATER_HEATER then (match s.rec? 0x0603 i with | some r => min v (r.u32 8) | none => v)
  else if f == R.TH_OPT_LASER_LASER then (match s.rec? 0x0603 i with | some r => min v (r.u32 12) | none => v)
  else if f == R.TWIN_CTRL_CLEAN_FRAMES || f == R.FLT_KIND_QUIET_QUIET then max 64 v
  else v

/-- What the commit of a protection setting does beside storing it (R263, R307, R336, R459, R465). -/
def State.afterField (s : State) (f : Fld) (i : Nat) : State :=
  if f == R.PD_RAIL_OVERLOAD_OVERLOAD then
    s.wr R.PD_RAIL_CONT_CONT i (min (s.rd R.PD_RAIL_CONT_CONT i) (s.rd R.PD_RAIL_OVERLOAD_OVERLOAD i))
  else if f == R.PD_RAIL_CONT_CONT then
    s.wr R.PD_RAIL_OVERLOAD_OVERLOAD i (max (s.rd R.PD_RAIL_CONT_CONT i) (s.rd R.PD_RAIL_OVERLOAD_OVERLOAD i))
  else if f == R.TH_OPT_HEATER_HEATER || f == R.TH_OPT_LASER_LASER then
    s.when (s.rec? 0x0105 i).isSome (fun t => t.sendOptAllow i)
  else if f == R.FLT_INJ_ARM && s.bit R.FLT_INJ_ARM 0 then
    (s.wr R.FLT_INJ_STAT_DONE 0 0).when (s.rd R.FLT_INJ_COUNT 0 == 0) (fun t => t.wr R.FLT_INJ_ARM 0 0)
  else s

/-- ZK_CROOK_FOLD_CFG of a fold that the last commit gave no DROOP record reads 0: a record's THRESH is at least 1, so a THRESH of
0 tells of none (R130, R307: DEDUCED, assumption 58). -/
def State.noDroop (s : State) (f : Fld) (i : Nat) : Bool :=
  (f == R.CROOK_FOLD_CFG_THRESH || f == R.CROOK_FOLD_CFG_HYST || f == R.CROOK_FOLD_CFG_MAX_STRETCH)
    && s.rd R.CROOK_FOLD_CFG_THRESH i == 0

/-- A staged protection setting commits (R15, R543). -/
def State.commitField (s : State) (f : Fld) (i v : Nat) : State :=
  if s.noDroop f i then s else (s.wr f i (s.clampField f i v)).afterField f i

/-- One staged change at step 2. -/
def State.step2 (s : State) (a : StagedAct) : State :=
  match a with
  | .field f i v => s.commitField f i v
  | .restart r => (if s.mayRestart r then s.doRestart r else s).wr R.PD_RAIL_CMD_RESTART r 0
  | .clearSafe r => (s.wr R.PD_RAIL_STAT_SAFE_LATCH r 0).wr R.PD_RAIL_CMD_CLEAR_SAFE r 0
  | .phaseFence p on => s.wardenFence p on
  | .crookTest c => s.doCrookTest c
  | .tileFence t on => s.wrB R.TH_FENCE_REQ t on
  | .cellEnable c on => s.wrB R.CROOK_CELL_ENABLE c on
  | .clearSource n => s.commitClear n
  | .runTest n => s.commitRun n
  | .reset k => s.wr H.RST_DUE 0 (setBit (s.rd H.RST_DUE 0) k true)
  | .swap => if s.peerStandby then s.wr H.TWIN_SWAP_DUE 0 1 else s.wr R.TWIN_CMD_SWAP 0 0
  | .attach => (s.wr H.TWIN_ATTACH_REQ 0 1).joinStep
  | .detach => s.commitDetach
  | _ => s

/-- A tile for which a fence and an unfence commit at one boundary stays fenced (R341). -/
def State.fencesStand (s : State) (acts : List StagedAct) : State :=
  acts.foldl (fun (t : State) (a : StagedAct) => match a with | .tileFence k true => t.wr R.TH_FENCE_REQ k 1 | _ => t) s

/-- HYST of every fold below its THRESH, once every change of the boundary is in (R307). -/
def State.fitHyst (s : State) : State :=
  (s.touched R.CROOK_FOLD_CFG_HYST).foldl (fun (t : State) (f : Nat) =>
    t.wr R.CROOK_FOLD_CFG_HYST f (min (t.rd R.CROOK_FOLD_CFG_HYST f) (t.rd R.CROOK_FOLD_CFG_THRESH f - 1))) s

/-- CONFIG is due: to every fold with cells where ZK_CROOK_CTRL has changed, else to a fold whose values of CONFIG have
(R283). -/
def State.configStep (s old : State) : State :=
  let all := s.rd R.CROOK_CTRL_MIN_HOLD 0 != old.rd R.CROOK_CTRL_MIN_HOLD 0
    || s.rd R.CROOK_CTRL_STUCK_FRAMES 0 != old.rd R.CROOK_CTRL_STUCK_FRAMES 0
  ((List.range 64).filter (fun f => !(s.cellsOf f).isEmpty)).foldl (fun (t : State) (f : Nat) =>
    t.when (all || s.configOf f != old.configOf f) (fun u => u.wr H.CROOK_CFG_DUE f 1)) s

/-- Step 2 of the commit order (R15, R81, R543). -/
def State.wardenStep (s : State) (acts : List StagedAct) : State :=
  let s1 := ((acts.foldl State.step2 s).fencesStand acts).fitHyst
  (s1.configStep s).clampPackage

/-! ## Steps 3 to 6 -/

/-- The BMC's cap among the changes of a boundary: the last of the own and the last of the mirrored writes, the lower of the
two (R546, R650). -/
def stagedCap (acts : List StagedAct) : Option Nat :=
  let last (peer : Bool) : Option Nat := (acts.filterMap (fun (a : StagedAct) =>
    match a with | .capBmc v p => if p == peer then some v else none | _ => none)).getLast?
  match last false, last true with
  | some a, some b => some (min a b)
  | some a, none => some a
  | none, some b => some b
  | none, none => none

/-- Step 3: the host's caps and the BMC's (R81, R218, R546). -/
def State.capStep (s : State) (acts : List StagedAct) : State :=
  let s1 := acts.foldl (fun (t : State) (a : StagedAct) =>
    match a with | .hostCap f v => t.wr R.LE_FOLD_HOSTCAP_HOSTCAP f v | _ => t) s
  (match stagedCap acts with
   | some v => (s1.wr R.CAP_BMC_CAP 0 v).wr H.PLAT_CAP_EV 0 1
   | none => s1).applyCap

/-- One staged change at step 6: MANUAL and the held writes go before the modes (R192–R195). -/
def State.step6 (modes : Bool) (s : State) (a : StagedAct) : State :=
  match a with
  | .manual l v => if modes then s else (s.wr R.LE_SLOT_MANUAL_MANUAL l v).wr H.LE_MAN_NOW l 1
  | .held off v mask => if modes then s else s.commitHeld off v mask
  | .modeReq l m => if modes then s.commitMode l m else s
  | _ => s

/-- Step 6: mode requests, holds and the power-good boundaries. `ended` are the slots whose fault hold had ended before this
boundary; one that ends at this boundary commits its mode at the next (R192, R209, R510, R667). -/
def State.modeStep (s : State) (acts : List StagedAct) (ended : List Nat) : State :=
  let s1 := acts.foldl (State.step6 true) (acts.foldl (State.step6 false) s)
  (s1.slots.foldl (fun (t : State) (l : Nat) => t.when (t.faultHold l || ended.contains l) (fun u => u.holdStep l)) s1).powerGoods

/-- EN written 0 has reached its boundary: no map runs, and what waited for one completes (R526, R600). -/
def State.enClearStep (s : State) (acts : List StagedAct) : State :=
  if acts.contains .enClear && s.running then ((s.loadEnd 5 0).profileEnd 5).stopMap else s

/-- The changes due at this boundary leave the list; the others wait one boundary less (R80). -/
def State.takeStaged (s : State) : List StagedAct × State :=
  (((s.staged.filter (fun (x : Staged) => x.skip == 0)).map (fun (x : Staged) => x.act)),
    { s with staged := (s.staged.filter (fun (x : Staged) => x.skip != 0)).map (fun (x : Staged) => { x with skip := x.skip - 1 }) })

/-- Every commit of a boundary, in the order of R81. -/
def State.commits (s : State) (gateFail : Bool) : State :=
  let ended := s.touched H.LE_REL_FAULT
  let x := s.takeStaged
  let acts := x.1
  let s1 := (x.2.enClearStep acts).commitDue
  let s2 := (s1.wardenStep acts).capStep acts
  let s3 := s2.clampPackage.thermalDividers
  ((s3.modeStep acts ended).applyOutputs).handOver gateFail

/-! ## Before the commits -/

/-- The counter at a boundary: the first begins frame 0, each later one raises it by 1 (R58). -/
def State.nextFrame (s : State) : State :=
  if s.bit H.TOP_FRAME_STARTED 0 then s.wr R.FRAME_COUNT 0 (s.frame + 1) else s.wr H.TOP_FRAME_STARTED 0 1

/-- A millisecond ends at this boundary. -/
def State.msEnds (s : State) : Bool := decide (s.msFrames ≤ s.rd H.TOP_MS_DIV 0 + 1)

/-- The counts of time: the milliseconds, the heartbeat's age, H0's window, the faults block's counters (R436, R442, R450,
R542, R597). -/
def State.timeStep (s : State) : State :=
  let ms := s.msEnds
  let s1 := s.wr H.TOP_MS_DIV 0 (if ms then 0 else s.rd H.TOP_MS_DIV 0 + 1)
  let s2 := s1.when ms (fun t => t.inc R.HOST_STAT_HB_AGE 0 1)
  (s2.when (s.bit R.WARDEN_OPEN 0) (fun t => t.wr R.WARDEN_REMAIN 0 (s.rd R.WARDEN_REMAIN 0 - 1))).faultTicks ms

/-- The keeper's count, in the keep domain, and the twin block before the commits: a takeover, the peer's age, a role that is due
(R403, R408, R412, R420, R428). -/
def State.twinStep (s : State) : State :=
  s.keeperCount.when (s.clocked 6) (fun t => t.idStep.takeover.twinAges.roleStep)

/-! ## The input set and what is formed from it -/

/-- ZK_LE_STATUS of the frame that has ended (R215). -/
def State.showRun (s : State) : State :=
  (((s.wrB R.LE_STATUS_RUNNING 0 s.running).wr R.LE_STATUS_LAST_END 0 (s.rd H.LE_RUN_END 0)).wr R.LE_STATUS_DUE 0
    (s.rd H.LE_RUN_DUE 0)).clearElems [H.LE_RUN_END, H.LE_RUN_DUE] 0

/-- The input set is latched (R65, R413). -/
def State.latchInputs (s : State) : State :=
  let s1 := s.when (s.clocked 1) (fun t => t.latchSense.loadSnap)
  let s2 := s1.when (s.clocked 4) State.latchThermal
  (s2.when (s.clocked 2) State.latchCrook).supplyBoundary

/-- The frame opens on the set just latched; a twin that follows waits for the holder's (R52, R405). -/
def State.openFrame (s : State) : State := if s.follows then s.wr H.TWIN_FORM_DUE 0 1 else s.formStep

/-- The end of a boundary: the start-up sequence and READY, the Tally's flush, the platform, a live reload, the reference, and
what goes to the peer. -/
def State.endStep (s : State) : State :=
  let s1 := s.bootBoundary.readyStep.flushStep.platformEvents.reloadStep.refStep
  s1.when (s.clocked 6) State.twinSend

/-- One boundary. A frame of other than 500 LE cycles is a failure of the frame domain (R476). -/
def State.boundary (s : State) (leCycles : Nat) (gateFail : Bool) : State :=
  let s1 := s.settleForm.nextFrame.when (s.bit H.TOP_FRAME_STARTED 0 && leCycles != 500) (fun t => t.fallBack 0 false)
  let s2 := s1.timeStep.twinStep
  let s3 := s2.when (s2.clocked 3) (fun t => t.bwBoundary t.frame)
  (s3.commits gateFail).resetsDue.showRun.latchInputs.openFrame.endStep

/-- Effect of FRAME_BOUNDARY: a rising edge of the frame clock. No frame domain runs while por_n is low (R58, R464). The records it
gives rise to reach the Tally's writer in rising channel order (R625). -/
def execFrameBoundary (edge : FrameEdge) (s : State) : Host.Outcome State Fault Refusal :=
  (if s.rd H.RST_SEQ 0 = 1 then s else s.recordsTogether (s.boundary edge.leCycles edge.gateFail)).go

end Sys2Proof.Machine
end

