-- ==== Sys2Proof/Machine/Dispatch.lean ====
section
/-! DEFINITION. One arm per command: the direct call of its meaning. -/

namespace Sys2Proof.Machine

/-- The effect of a command on the state, by its own meaning. -/
def exec (i : Instr) (s : State) : Host.Outcome State Fault Refusal :=
  match i with
  | .frameBoundary edge => Sys2Proof.Machine.execFrameBoundary edge s
  | .loopWindow => Sys2Proof.Machine.execLoopWindow s
  | .plausFault slot => Sys2Proof.Machine.execPlausFault slot s
  | .bellwetherEval errs => Sys2Proof.Machine.execBellwetherEval errs s
  | .earlyAddCheck => Sys2Proof.Machine.execEarlyAddCheck s
  | .outputStage => Sys2Proof.Machine.execOutputStage s
  | .twinOutputPacket p => Sys2Proof.Machine.execTwinOutputPacket p s
  | .twinStatusPacket p => Sys2Proof.Machine.execTwinStatusPacket p s
  | .twinInputPacket p => Sys2Proof.Machine.execTwinInputPacket p s
  | .inputNotWhole => Sys2Proof.Machine.execInputNotWhole s
  | .inputDisagreement rail ch => Sys2Proof.Machine.execInputDisagreement rail ch s
  | .twinMirrorPacket p => Sys2Proof.Machine.execTwinMirrorPacket p s
  | .twinBulkPacket p => Sys2Proof.Machine.execTwinBulkPacket p s
  | .catchUpComplete => Sys2Proof.Machine.execCatchUpComplete s
  | .cleanFramesReached => Sys2Proof.Machine.execCleanFramesReached s
  | .peerReadyLapse => Sys2Proof.Machine.execPeerReadyLapse s
  | .linkDown => Sys2Proof.Machine.execLinkDown s
  | .peerSilent => Sys2Proof.Machine.execPeerSilent s
  | .keeperGateDrop cause => Sys2Proof.Machine.execKeeperGateDrop cause s
  | .gatePeerFall => Sys2Proof.Machine.execGatePeerFall s
  | .gateRaise => Sys2Proof.Machine.execGateRaise s
  | .gateResample => Sys2Proof.Machine.execGateResample s
  | .goldenVerdict slot holderPass standbyPass => Sys2Proof.Machine.execGoldenVerdict slot holderPass standbyPass s
  | .swap w => Sys2Proof.Machine.execSwap w s
  | .twinAttach w => Sys2Proof.Machine.execTwinAttach w s
  | .twinDetach w => Sys2Proof.Machine.execTwinDetach w s
  | .railSenseConversion rail code => Sys2Proof.Machine.execRailSenseConversion rail code s
  | .sg2Shutdown rail => Sys2Proof.Machine.execSg2Shutdown rail s
  | .vrefStep => Sys2Proof.Machine.execVrefStep s
  | .phaseCurrentSample phase code refOff => Sys2Proof.Machine.execPhaseCurrentSample phase code refOff s
  | .phaseFenceVerdict phase => Sys2Proof.Machine.execPhaseFenceVerdict phase s
  | .phaseDerate phase => Sys2Proof.Machine.execPhaseDerate phase s
  | .shortCircuitTrip phase => Sys2Proof.Machine.execShortCircuitTrip phase s
  | .scRepeatFence phase => Sys2Proof.Machine.execScRepeatFence phase s
  | .switchingPeriodStart phase => Sys2Proof.Machine.execSwitchingPeriodStart phase s
  | .shedDecision rail => Sys2Proof.Machine.execShedDecision rail s
  | .pulseSkipEngage rail => Sys2Proof.Machine.execPulseSkipEngage rail s
  | .restart w rail => Sys2Proof.Machine.execRestart w rail s
  | .clearSafe w rail => Sys2Proof.Machine.execClearSafe w rail s
  | .phaseFenceWrite w phase on => Sys2Proof.Machine.execPhaseFenceWrite w phase on s
  | .cellTrip cell m => Sys2Proof.Machine.execCellTrip cell m s
  | .cellRelease cell edges code => Sys2Proof.Machine.execCellRelease cell edges code s
  | .accountingFrameEnd cell edges => Sys2Proof.Machine.execAccountingFrameEnd cell edges s
  | .cellStuck cell => Sys2Proof.Machine.execCellStuck cell s
  | .cellOrphan cell => Sys2Proof.Machine.execCellOrphan cell s
  | .thresh fold code => Sys2Proof.Machine.execThresh fold code s
  | .config fold hyst maxStretch fallback minHold stuckFrames => Sys2Proof.Machine.execConfig fold hyst maxStretch fallback minHold stuckFrames s
  | .cellEn cell en => Sys2Proof.Machine.execCellEn cell en s
  | .frameSync frame => Sys2Proof.Machine.execFrameSync frame s
  | .test cell => Sys2Proof.Machine.execTest cell s
  | .echo cell => Sys2Proof.Machine.execEcho cell s
  | .delay cell comp => Sys2Proof.Machine.execDelay cell comp s
  | .trip cell => Sys2Proof.Machine.execTrip cell s
  | .report cell r => Sys2Proof.Machine.execReport cell r s
  | .echoReply cell rtt => Sys2Proof.Machine.execEchoReply cell rtt s
  | .echoTimeout cell => Sys2Proof.Machine.execEchoTimeout cell s
  | .frameSyncPeriod => Sys2Proof.Machine.execFrameSyncPeriod s
  | .crookTestWrite w cell => Sys2Proof.Machine.execCrookTestWrite w cell s
  | .intent dispatcher m => Sys2Proof.Machine.execIntent dispatcher m s
  | .cancel dispatcher fold tag seq => Sys2Proof.Machine.execCancel dispatcher fold tag seq s
  | .bwClearRails w => Sys2Proof.Machine.execBwClearRails w s
  | .bwClearFolds w => Sys2Proof.Machine.execBwClearFolds w s
  | .reading site tag valid temp => Sys2Proof.Machine.execReading site tag valid temp s
  | .siteRefReading site tag temp => Sys2Proof.Machine.execSiteRefReading site tag temp s
  | .sweepClose paddock => Sys2Proof.Machine.execSweepClose paddock s
  | .siteFailed site => Sys2Proof.Machine.execSiteFailed site s
  | .siteHighFault site => Sys2Proof.Machine.execSiteHighFault site s
  | .diodeFailed ch => Sys2Proof.Machine.execDiodeFailed ch s
  | .hotFence tile => Sys2Proof.Machine.execHotFence tile s
  | .diodeConversion ch temp => Sys2Proof.Machine.execDiodeConversion ch temp s
  | .diodeTrip ch temp => Sys2Proof.Machine.execDiodeTrip ch temp s
  | .thermtripNetLow => Sys2Proof.Machine.execThermtripNetLow s
  | .hbmTemp ctrl temp => Sys2Proof.Machine.execHbmTemp ctrl temp s
  | .memctrlStale ctrl => Sys2Proof.Machine.execMemctrlStale ctrl s
  | .optReport engine locked heater laser => Sys2Proof.Machine.execOptReport engine locked heater laser s
  | .opticalOver engine => Sys2Proof.Machine.execOpticalOver engine s
  | .fenceAck flock m => Sys2Proof.Machine.execFenceAck flock m s
  | .routeState flock m => Sys2Proof.Machine.execRouteState flock m s
  | .stilePark flock => Sys2Proof.Machine.execStilePark flock s
  | .tileFenceWrite w tile on => Sys2Proof.Machine.execTileFenceWrite w tile on s
  | .grantRound => Sys2Proof.Machine.execGrantRound s
  | .roundAck fold m => Sys2Proof.Machine.execRoundAck fold m s
  | .ledgerPeriodStart => Sys2Proof.Machine.execLedgerPeriodStart s
  | .usage m => Sys2Proof.Machine.execUsage m s
  | .usageEnd fold period count => Sys2Proof.Machine.execUsageEnd fold period count s
  | .bankReady bank => Sys2Proof.Machine.execBankReady bank s
  | .bankBooking bank => Sys2Proof.Machine.execBankBooking bank s
  | .release w bank => Sys2Proof.Machine.execRelease w bank s
  | .meshCompletion msg mask => Sys2Proof.Machine.execMeshCompletion msg mask s
  | .meshRetry msg => Sys2Proof.Machine.execMeshRetry msg s
  | .creditReturn endpoint => Sys2Proof.Machine.execCreditReturn endpoint s
  | .probeReply token source => Sys2Proof.Machine.execProbeReply token source s
  | .testVerdict source verdict => Sys2Proof.Machine.execTestVerdict source verdict s
  | .testTimeLimit source => Sys2Proof.Machine.execTestTimeLimit source s
  | .quietExpiry source => Sys2Proof.Machine.execQuietExpiry source s
  | .escalationSevere source => Sys2Proof.Machine.execEscalationSevere source s
  | .windowExpiry source => Sys2Proof.Machine.execWindowExpiry source s
  | .rowPatternTest row verdict => Sys2Proof.Machine.execRowPatternTest row verdict s
  | .clearSource w source => Sys2Proof.Machine.execClearSource w source s
  | .runSourceTest w source => Sys2Proof.Machine.execRunSourceTest w source s
  | .rejectClr w => Sys2Proof.Machine.execRejectClr w s
  | .faultInjectArm w arm target index count => Sys2Proof.Machine.execFaultInjectArm w arm target index count s
  | .proofTestScPeriodic phase ok => Sys2Proof.Machine.execProofTestScPeriodic phase ok s
  | .proofTestDiodePeriodic ch ok => Sys2Proof.Machine.execProofTestDiodePeriodic ch ok s
  | .proofTestSitePeriodic paddock => Sys2Proof.Machine.execProofTestSitePeriodic paddock s
  | .referenceLost src => Sys2Proof.Machine.execReferenceLost src s
  | .relockDone => Sys2Proof.Machine.execRelockDone s
  | .crystalAmplitudePass x => Sys2Proof.Machine.execCrystalAmplitudePass x s
  | .crystalStartTimeout x => Sys2Proof.Machine.execCrystalStartTimeout x s
  | .crystalRestart x => Sys2Proof.Machine.execCrystalRestart x s
  | .autoReturn src => Sys2Proof.Machine.execAutoReturn src s
  | .clockEdgeLost dom => Sys2Proof.Machine.execClockEdgeLost dom s
  | .frequencyFailure dom => Sys2Proof.Machine.execFrequencyFailure dom s
  | .frcBad => Sys2Proof.Machine.execFrcBad s
  | .domainReturn dom => Sys2Proof.Machine.execDomainReturn dom s
  | .domainSwitchDone dom lostNs => Sys2Proof.Machine.execDomainSwitchDone dom lostNs s
  | .forcedStop dom => Sys2Proof.Machine.execForcedStop dom s
  | .go w dom => Sys2Proof.Machine.execGo w dom s
  | .clkEnWrite w v => Sys2Proof.Machine.execClkEnWrite w v s
  | .clkDivWrite w v => Sys2Proof.Machine.execClkDivWrite w v s
  | .keepPowerUp => Sys2Proof.Machine.execKeepPowerUp s
  | .porAssert => Sys2Proof.Machine.execPorAssert s
  | .holdNLow ns => Sys2Proof.Machine.execHoldNLow ns s
  | .rstLe w => Sys2Proof.Machine.execRstLe w s
  | .rstTwin w => Sys2Proof.Machine.execRstTwin w s
  | .rstBlock w => Sys2Proof.Machine.execRstBlock w s
  | .rstHart w hart => Sys2Proof.Machine.execRstHart w hart s
  | .resetRelease => Sys2Proof.Machine.execResetRelease s
  | .watchdogExpiry hart => Sys2Proof.Machine.execWatchdogExpiry hart s
  | .sequenceStart => Sys2Proof.Machine.execSequenceStart s
  | .romStepDone ok factory => Sys2Proof.Machine.execRomStepDone ok factory s
  | .calibDone c => Sys2Proof.Machine.execCalibDone c s
  | .storeInitDone failedRows => Sys2Proof.Machine.execStoreInitDone failedRows s
  | .imageVerified answers psc => Sys2Proof.Machine.execImageVerified answers psc s
  | .roleDecision peerStarting gateFail => Sys2Proof.Machine.execRoleDecision peerStarting gateFail s
  | .bWaitExpiry gateFail => Sys2Proof.Machine.execBWaitExpiry gateFail s
  | .rampGroupStart scFails sg2Fails => Sys2Proof.Machine.execRampGroupStart scFails sg2Fails s
  | .railPowerGood rail => Sys2Proof.Machine.execRailPowerGood rail s
  | .powerGoodTimeout rail => Sys2Proof.Machine.execPowerGoodTimeout rail s
  | .rampGapExpiry => Sys2Proof.Machine.execRampGapExpiry s
  | .sitesDone bad => Sys2Proof.Machine.execSitesDone bad s
  | .enSet w keep src ring => Sys2Proof.Machine.execEnSet w keep src ring s
  | .enClear w => Sys2Proof.Machine.execEnClear w s
  | .reload w keep src ring => Sys2Proof.Machine.execReload w keep src ring s
  | .mapCheckDone psc => Sys2Proof.Machine.execMapCheckDone psc s
  | .loaderStall => Sys2Proof.Machine.execLoaderStall s
  | .standbyReloadTimeout => Sys2Proof.Machine.execStandbyReloadTimeout s
  | .profileReq w p => Sys2Proof.Machine.execProfileReq w p s
  | .profilePrepDone frames => Sys2Proof.Machine.execProfilePrepDone frames s
  | .capBmcWrite w v => Sys2Proof.Machine.execCapBmcWrite w v s
  | .wardenWindowExpiry => Sys2Proof.Machine.execWardenWindowExpiry s
  | .modeReq w slot mode => Sys2Proof.Machine.execModeReq w slot mode s
  | .manual w slot v => Sys2Proof.Machine.execManual w slot v s
  | .heldWrite w off v => Sys2Proof.Machine.execHeldWrite w off v s
  | .captureArm w slot v => Sys2Proof.Machine.execCaptureArm w slot v s
  | .amoStart w set v => Sys2Proof.Machine.execAmoStart w set v s
  | .retWrite w v => Sys2Proof.Machine.execRetWrite w v s
  | .bankWakeDone bank => Sys2Proof.Machine.execBankWakeDone bank s
  | .storeWrite w off data => Sys2Proof.Machine.execStoreWrite w off data s
  | .scrubRead addr err => Sys2Proof.Machine.execScrubRead addr err s
  | .fifoPop w => Sys2Proof.Machine.execFifoPop w s
  | .ack w => Sys2Proof.Machine.execAck w s
  | .readPairLow w off size => Sys2Proof.Machine.execReadPairLow w off size s
  | .registerWrite w off size v => Sys2Proof.Machine.execRegisterWrite w off size v s
  | .kick w hart => Sys2Proof.Machine.execKick w hart s
  | .selfReset w hart => Sys2Proof.Machine.execSelfReset w hart s
  | .restartCheckDone hart ok => Sys2Proof.Machine.execRestartCheckDone hart ok s
  | .hartSleep hart => Sys2Proof.Machine.execHartSleep hart s
  | .hartWake hart => Sys2Proof.Machine.execHartWake hart s
  | .shedWindowEnd hart load => Sys2Proof.Machine.execShedWindowEnd hart load s
  | .hb w => Sys2Proof.Machine.execHb w s
  | .heartbeatLapse => Sys2Proof.Machine.execHeartbeatLapse s
  | .ringDoorbell w ring v => Sys2Proof.Machine.execRingDoorbell w ring v s
  | .attach ring => Sys2Proof.Machine.execAttach ring s
  | .detach ring => Sys2Proof.Machine.execDetach ring s
  | .getStatus ring => Sys2Proof.Machine.execGetStatus ring s
  | .ringCreate ring => Sys2Proof.Machine.execRingCreate ring s
  | .ringReset ring => Sys2Proof.Machine.execRingReset ring s
  | .ringDestroy ring => Sys2Proof.Machine.execRingDestroy ring s
  | .loadMap ring => Sys2Proof.Machine.execLoadMap ring s
  | .mapData ring => Sys2Proof.Machine.execMapData ring s
  | .flashMap ring => Sys2Proof.Machine.execFlashMap ring s
  | .flashImage ring => Sys2Proof.Machine.execFlashImage ring s
  | .flashData ring => Sys2Proof.Machine.execFlashData ring s
  | .loadImage ring => Sys2Proof.Machine.execLoadImage ring s
  | .profile ring => Sys2Proof.Machine.execProfile ring s
  | .ledgerSnap ring => Sys2Proof.Machine.execLedgerSnap ring s
  | .logCtrl ring => Sys2Proof.Machine.execLogCtrl ring s
  | .traceCtrl ring => Sys2Proof.Machine.execTraceCtrl ring s
  | .tallyRead ring => Sys2Proof.Machine.execTallyRead ring s
  | .unknownOpcode ring => Sys2Proof.Machine.execUnknownOpcode ring s
  | .doorbell w mbox cmd => Sys2Proof.Machine.execDoorbell w mbox cmd s
  | .cancelMailbox w mbox => Sys2Proof.Machine.execCancelMailbox w mbox s
  | .mailboxAck w mbox code result => Sys2Proof.Machine.execMailboxAck w mbox code result s
  | .mailboxTimeout mbox => Sys2Proof.Machine.execMailboxTimeout mbox s
  | .tallyRecordPlace => Sys2Proof.Machine.execTallyRecordPlace s
  | .submit w v => Sys2Proof.Machine.execSubmit w v s
  | .flush w => Sys2Proof.Machine.execFlush w s
  | .tallyFlushPeriodic => Sys2Proof.Machine.execTallyFlushPeriodic s
  | .tallyFlushDone ok => Sys2Proof.Machine.execTallyFlushDone ok s
  | .operatingSecondTick => Sys2Proof.Machine.execOperatingSecondTick s
  | .pmbusPollDone supply p => Sys2Proof.Machine.execPmbusPollDone supply p s
  | .pmbusPollFail supply => Sys2Proof.Machine.execPmbusPollFail supply s
  | .pmbusAlert port addr status => Sys2Proof.Machine.execPmbusAlert port addr status s
  | .alertStuck port => Sys2Proof.Machine.execAlertStuck port s
  | .pmbusMasterChange unfinished => Sys2Proof.Machine.execPmbusMasterChange unfinished s
  | .setdasa addr => Sys2Proof.Machine.execSetdasa addr s
  | .setaasa => Sys2Proof.Machine.execSetaasa s
  | .entdaa addr => Sys2Proof.Machine.execEntdaa addr s
  | .setEndpointId eid => Sys2Proof.Machine.execSetEndpointId eid s
  | .getEndpointId => Sys2Proof.Machine.execGetEndpointId s
  | .getMctpVersionSupport => Sys2Proof.Machine.execGetMctpVersionSupport s
  | .getMessageTypeSupport => Sys2Proof.Machine.execGetMessageTypeSupport s
  | .mctpUnknownType typ => Sys2Proof.Machine.execMctpUnknownType typ s
  | .gettid => Sys2Proof.Machine.execGettid s
  | .settid tid => Sys2Proof.Machine.execSettid tid s
  | .getpldmversion => Sys2Proof.Machine.execGetpldmversion s
  | .getpldmtypes => Sys2Proof.Machine.execGetpldmtypes s
  | .getpldmcommands typ => Sys2Proof.Machine.execGetpldmcommands typ s
  | .seteventreceiver eid => Sys2Proof.Machine.execSeteventreceiver eid s
  | .getpdrrepositoryinfo => Sys2Proof.Machine.execGetpdrrepositoryinfo s
  | .getpdr handle => Sys2Proof.Machine.execGetpdr handle s
  | .getsensorreading id => Sys2Proof.Machine.execGetsensorreading id s
  | .getstatesensorreadings id => Sys2Proof.Machine.execGetstatesensorreadings id s
  | .setnumericeffectervalue id v => Sys2Proof.Machine.execSetnumericeffectervalue id v s
  | .getnumericeffectervalue id => Sys2Proof.Machine.execGetnumericeffectervalue id s
  | .pldmUnsupported typ cmd => Sys2Proof.Machine.execPldmUnsupported typ cmd s
  | .vendorTallyRead first count => Sys2Proof.Machine.execVendorTallyRead first count s
  | .faultOpen => Sys2Proof.Machine.execFaultOpen s
  | .vendorUnknown cmd => Sys2Proof.Machine.execVendorUnknown cmd s
  | .wardenWindowOpen tokenOk frames => Sys2Proof.Machine.execWardenWindowOpen tokenOk frames s
  | .meshTwinStatus p => Sys2Proof.Machine.execMeshTwinStatus p s
  | .slowBad => Sys2Proof.Machine.execSlowBad s
  | .crystalDetectorFail x => Sys2Proof.Machine.execCrystalDetectorFail x s
  | .hostLinkTrained => Sys2Proof.Machine.execHostLinkTrained s
  | .storeRead w off size meets => Sys2Proof.Machine.execStoreRead w off size meets s
  | .flashWriteDone ring answers psc => Sys2Proof.Machine.execFlashWriteDone ring answers psc s

end Sys2Proof.Machine
end

