-- ==== Sys2Proof/Safety.lean ====
section
/-! DEFINITION. The terms in which statements speak: a command that completes, what a command leaves alone, and the
invariant of the block's plain data. -/

namespace Sys2Proof.Machine

/-- Command `c` goes on from `s`, to a state of which `P` holds. -/
def Completes (c : Instr) (s : State) (P : State → Prop) : Prop := ∃ t, exec c s = .next t ∧ P t

/-- Every byte of the Store reads in `t` as in `s`. -/
def SameStore (s t : State) : Prop := ∀ a, memGet t.store a = memGet s.store a

/-- Every byte of the Store outside `n` bytes from `a` on reads in `t` as in `s`. -/
def SameStoreBut (a n : Nat) (s t : State) : Prop := ∀ b, b < a ∨ a + n ≤ b → memGet t.store b = memGet s.store b

/-- Every register field element reads in `t` as in `s`, but those listed. -/
def OnlyFields (l : List (Fld × Nat)) (s t : State) : Prop :=
  ∀ g j, (∀ e ∈ l, e.1.key e.2 ≠ g.key j) → t.rd g j = s.rd g j

/-- Every register field that is apart from those listed reads in `t` as in `s`, at every element. -/
def OnlyKinds (l : List Fld) (s t : State) : Prop := ∀ g j, (∀ f ∈ l, f.apart g = true) → t.rd g j = s.rd g j

/-- Nothing but registers has changed. -/
def OnlyRegs (s t : State) : Prop := t = { s with regs := t.regs }

/-- Nothing but registers, messages sent and the answer has changed. -/
def OnlyRegsOut (s t : State) : Prop := t = { s with regs := t.regs, out := t.out, resp := t.resp }

/-- Nothing but registers, messages sent, the answer and the mesh port has changed. -/
def OnlyRegsMesh (s t : State) : Prop := t = { s with regs := t.regs, out := t.out, resp := t.resp, mesh := t.mesh }

/-- What raising a fault reaches: registers, the queues of events and records, the mesh port, messages, and the completion
that H3 posts in the Store. -/
def OnlyFault (s t : State) : Prop :=
  t =
    { s with
      regs := t.regs
      store := t.store
      mesh := t.mesh
      fltQueue := t.fltQueue
      tallyQueue := t.tallyQueue
      tallyStage := t.tallyStage
      out := t.out }

/-- Nothing but registers, the answer and the staged changes has changed. -/
def OnlyStaged (s t : State) : Prop := t = { s with regs := t.regs, staged := t.staged, resp := t.resp }

/-- The requester may write the field element now: its block is clocked, the element exists and is not reserved, and
neither the access code nor the requester's rights protect it (R14, R660, R666). -/
abbrev Writable (s : State) (w : WCtx) (f : Fld) (i : Nat) : Prop :=
  s.gated (f.word i) = false ∧ i < f.cnt ∧ s.reservedWord (f.word i) = false ∧ s.protected? w.req f i = none

/-- A change has been staged behind those that wait: for the coming boundary, or for the one after it where the write
reached the bus in the last 20 ns of the frame, which counts (R15, R80). -/
def Stages (w : WCtx) (a : StagedAct) (s t : State) : Prop :=
  t.staged = s.staged ++ [(⟨if 192 ≤ w.cyc then 1 else 0, a⟩ : Staged)] ∧ t.resp = .ok
    ∧ t.rd R.FRAME_STAT_DEFER_CNT 0
      = (if 192 ≤ w.cyc then satAdd R.FRAME_STAT_DEFER_CNT.wid (s.rd R.FRAME_STAT_DEFER_CNT 0) 1
         else s.rd R.FRAME_STAT_DEFER_CNT 0)
    ∧ OnlyKinds [R.FRAME_STAT_DEFER_CNT] s t ∧ OnlyStaged s t

/-- The change that a command bit asks for is kept, and the bit reads 1 until a boundary acts on it (R15, R80, R263, R428). -/
def StagesCmd (w : WCtx) (f : Fld) (i : Nat) (a : StagedAct) (s t : State) : Prop :=
  t.staged = s.staged ++ [(⟨if 192 ≤ w.cyc then 1 else 0, a⟩ : Staged)] ∧ t.resp = .ok ∧ t.rd f i = 1
    ∧ OnlyFields [(f, i), (R.FRAME_STAT_DEFER_CNT, 0)] s t ∧ OnlyStaged s t

/-- A write refused with CAUSE `c`: the answer says so, the count of refusals rises, the account names the cause, the requester
and the offset, and nothing else happens (R14, R465, R666). -/
def Refuses (w : WCtx) (off c : Nat) (s t : State) : Prop :=
  t.resp = .refused c
    ∧ t.rd R.FLT_REJECT_COUNT 0 = satAdd R.FLT_REJECT_COUNT.wid (s.rd R.FLT_REJECT_COUNT 0) 1
    ∧ t.rd R.FLT_REJECT_INFO_CAUSE 0 = c ∧ t.rd R.FLT_REJECT_INFO_REQ 0 = s.reqCode w.req
    ∧ t.rd R.FLT_REJECT_INFO_OFFSET 0 = off
    ∧ OnlyKinds [R.FLT_REJECT_COUNT, R.FLT_REJECT_INFO_CAUSE, R.FLT_REJECT_INFO_REQ, R.FLT_REJECT_INFO_OFFSET] s t
    ∧ OnlyRegsOut s t

/-- An answer gives some mix of the low `n` bits of two values, and nothing above them (R555). -/
def IsMix (n a b : Nat) (r : Resp) : Prop :=
  ∃ v, r = .data v ∧ v < 2 ^ n ∧ ∀ i < n, bitOf v i = bitOf a i ∨ bitOf v i = bitOf b i

/-- Source `n` has met an event of class `cls`: its class rises to it, a CLEAR, LASTING or QUIET one goes to TESTING, and
a FATAL event makes it FATAL (R432, R435). -/
def Raised (n cls : Nat) (s t : State) : Prop :=
  t.rd R.FLT_SRC_STATE_CLASS n
      = (if s.rd R.FLT_SRC_STATE_STATE n = 0 then cls else max (s.rd R.FLT_SRC_STATE_CLASS n) cls)
    ∧ t.rd R.FLT_SRC_STATE_STATE n
      = (if cls = 2 then 5
         else if s.rd R.FLT_SRC_STATE_STATE n = 4 ∨ s.rd R.FLT_SRC_STATE_STATE n = 5 then s.rd R.FLT_SRC_STATE_STATE n
         else 1)

/-- What telling of a change may write: the last-change registers, the completion to the host, and counts of what is lost
(R456, R457, R604, R623). -/
def tellFields : List Fld :=
  [R.FLT_LAST_STATE, R.FLT_LAST_CLASS, R.FLT_LAST_KIND, R.FLT_LAST_SOURCE, R.FLT_LAST_FRAME_FRAME, R.FLT_STATUS_QLOST,
   R.HOST_STAT_EV_LOST, R.RING_POS_CPL_TAIL, R.HOST_IRQ_CPL, R.HOST_IRQ_EVENT, H.STORE_ECC, R.TALLY_DROPPED_DROPPED]

/-- What the start of a targeted test may write (R442, R443, R446). -/
def testFields : List Fld :=
  [H.FLT_TEST_PEND, H.FLT_TEST_LEFT, H.FLT_PROBES, H.FLT_PROBE_GOT, H.FLT_RESULT, H.LE_GOLD_J, H.LE_GOLD_OK,
   H.LE_GOLD_TWIN, H.PD_TEST_PULSE, H.PD_LOOP_PH, H.PD_LOOP_RAIL, H.TH_RESWEEP, H.TH_REF_DUE, H.GL_SPENT]

/-- What an event of a fault source may write (R432–R437, R442, R450, R456, R457, R465, R604). -/
def faultFields : List Fld :=
  [R.FLT_KIND_QUIET_RAISED, R.FLT_SRC_COUNT_WIN_LEFT, R.FLT_SRC_STATE_EVENTS, R.FLT_SRC_STATE_INJECTED,
   R.FLT_SRC_STATE_CLASS, R.FLT_SRC_STATE_STATE, H.FLT_SEV_DUE] ++ testFields ++ tellFields

/-- Store address of a ring's next completion entry (R594). -/
def State.cplAt (s : State) (r : Nat) : Nat :=
  16 * s.rd R.RING_CPL_BASE_BASE r + 16 * (s.rd R.RING_POS_CPL_TAIL r % 2 ^ s.rd R.RING_CFG_CPL_LOG2 r)

/-- The one command that the host has posted to ring `r` has opcode `op`, may be taken, and no rule turns it away; the place
of its completion lies in the Store (R592, R599, R600). -/
abbrev Asks (s : State) (r op : Nat) (c : CmdRule) : Prop :=
  s.takes r = true ∧ s.cmdOp r = op ∧ s.turnAway r c = none
    ∧ s.rd R.RING_DB_CMD_TAIL r = (s.rd R.RING_POS_CMD_HEAD r + 1) % 65536 ∧ s.cplAt r + 16 ≤ storeSize

/-- A completion has been posted to ring `r` and its consumer index has moved on: generation, TAG, STATUS, OPCODE, RESULT0 and
RESULT1 (R594, R596). -/
def Posts (s : State) (r tag op st r0 r1 : Nat) (t : State) : Prop :=
  t.ld (s.cplAt r) 2 = s.rd R.RING_POS_CPL_TAIL r ∧ t.ld (s.cplAt r + 2) 2 = tag ∧ t.ld (s.cplAt r + 4) 1 = st
    ∧ t.ld (s.cplAt r + 5) 1 = op ∧ t.ld (s.cplAt r + 8) 4 = r0 % 2 ^ 32 ∧ t.ld (s.cplAt r + 12) 4 = r1 % 2 ^ 32
    ∧ t.rd R.RING_POS_CPL_TAIL r = (s.rd R.RING_POS_CPL_TAIL r + 1) % 65536
    ∧ t.rd R.RING_POS_CMD_HEAD r = (s.rd R.RING_POS_CMD_HEAD r + 1) % 65536 ∧ t.bit R.HOST_IRQ_CPL 0 = true

/-- The command at the consumer index of ring `r` has been answered. -/
def Answers (s : State) (r st r0 r1 : Nat) (t : State) : Prop := Posts s r (s.cmdTag r) (s.cmdOp r) st r0 r1 t

/-- What answering a ring's command may write. -/
def answerFields : List Fld :=
  [H.FW_RING_TAG, H.FW_RING_OP, R.RING_POS_CPL_TAIL, R.RING_POS_CMD_HEAD, R.HOST_IRQ_CPL, H.STORE_ECC]

/-- The invariant of the block's plain data: registers by strictly rising address, the Store in its canonical form, and no
queue longer than the hardware has places for (R457, R569, R623, R634). -/
abbrev State.Inv (s : State) : Prop :=
  amSorted s.regs = true ∧ Memory.wf s.store ∧ s.fifo.length ≤ 64 ∧ s.fltQueue.length ≤ 64 ∧ s.tallyQueue.length ≤ 16
    ∧ s.tallyStage.length ≤ 64

end Sys2Proof.Machine
end

