-- ==== Sys2Proof/Certificates/Slice0/Obligations.lean ====
section
/-! DEFINITION. The statements for the provers. -/

open Sys2Proof Sys2Proof.Machine

/-- One step takes the command at the front of the queue and runs it on the state with the queue's rest. -/
def Obligations.StepRunsTheFrontCommand : Prop :=
  ∀ (s : State) (c : Instr) (rest : List Instr), s.pending = c :: rest → step s = exec c { s with pending := rest }

/-- With nothing waiting the block idles: the model's choice (assumption 1). -/
def Obligations.EmptyQueueIdles : Prop := ∀ (s : State), s.pending = [] → step s = .next s

/-- Every command of the table goes on from every state, and none of them touches the queue, what is fused, or what has been
sent before: each adds to it. The model's own choices on which it rests are those of assumptions 6 and 8. -/
def Obligations.NoCommandStopsTheBlock : Prop :=
  ∀ (c : Instr) (s : State), Completes c s fun t => t.pending = s.pending ∧ t.ident = s.ident ∧ s.out <:+ t.out

/-- R457, R549, R569, R623, R634: every step keeps the registers by rising address, the Store in its canonical form, and the
queues within the places that the hardware has for them. The model's own choices on which it rests are those of assumptions 5
and 7. -/
def Obligations.EveryStepKeepsTheInvariant : Prop := ∀ (s t : State), s.Inv → step s = .next t → t.Inv

/-- The state after reset meets the invariant. -/
def Obligations.ResetMeetsTheInvariant : Prop := State.reset.Inv

/-- R491, R665: thirty register words after reset, of every block of the index whose reset words are not all 0. A power-up of
the keep domain comes back to them from any state. The model's own choices on which it rests are those of assumptions 4, 7 and
39. -/
def Obligations.ResetWordsAreTheIndexes : Prop :=
  (∀ p ∈ [(0x100010, 0x0000000F), (0x100014, 0xFFFF0000), (0x100030, 0x0000F000), (0x100188, 0x00000030),
      (0x110108, 0x00280028), (0x140000, 0x80000000), (0x14101C, 0x0028044C), (0x141038, 0x401900C8), (0x144000, 0xE00F0000),
      (0x150004, 0x00004010), (0x160100, 0x10141418), (0x1A0008, 0x06E006C0), (0x1A1008, 0x06400020), (0x1A4000, 0x00FF8000),
      (0x1B0008, 0x07D0000A), (0x1B200C, 0x000186A0), (0x1C0008, 0x80000800), (0x1D0400, 0x080003E8), (0x1D0404, 0x00001000),
      (0x1E0000, 0x6000003F), (0x1E0004, 0xF80A0005), (0x1E0100, 0x80000000), (0x1F0000, 0xC0000000), (0x1F0028, 0x4000FFFF),
      (0x1F1000, 0x04400000), (0x1F2018, 0x0000000A), (0x20001C, 0x0000007F), (0x210000, 0xE0000000), (0x210100, 0x4300FF00),
      (0x21010C, 0x3FFF0000)], State.reset.liveWord p.1 = p.2)
  ∧ (∀ (s : State), Completes .keepPowerUp s fun t =>
      t.regs = [] ∧ t.store = [] ∧ t.staged = [] ∧ t.fifo = [] ∧ t.map.live = none ∧ t.map.flash = s.map.flash
        ∧ t.map.image = s.map.image ∧ t.mirror = s.mirror ∧ t.ident = s.ident ∧ t.pending = s.pending)

/-- R345: while the trip latch is set, no command but a power-up of the keep domain clears it or lets the net that the block
holds low go, and RESTART of a rail is refused and counted. -/
def Obligations.TripLatchIsHeld : Prop :=
  (∀ (c : Instr) (s : State), c ≠ .keepPowerUp → Completes c s fun t =>
      (s.bit R.TH_TRIP_LATCHED 0 = true → t.bit R.TH_TRIP_LATCHED 0 = true)
        ∧ (s.bit R.TH_TRIP_NET_LOW 0 = true → t.bit R.TH_TRIP_NET_LOW 0 = true))
  ∧ (∀ (s : State), Completes .keepPowerUp s fun t =>
      t.bit R.TH_TRIP_LATCHED 0 = false ∧ t.bit R.TH_TRIP_NET_LOW 0 = false)
  ∧ (∀ (s : State) (w : WCtx) (r : Nat), s.bit R.TH_TRIP_LATCHED 0 = true → Writable s w R.PD_RAIL_CMD_RESTART r →
    Completes (.restart w r) s fun t => Refuses w (R.PD_RAIL_CMD_RESTART.word r) 3 s t)

/-- R12, R14, R15, R465, R491: the protection settings of the faults block change at a frame boundary or under a reset of the
POR scope, and at no other command, whoever sends it. The model's own choices on which it rests are those of assumptions 11
and 12. -/
def Obligations.SettingsMoveOnlyAtBoundaries : Prop :=
  ∀ (c : Instr) (s : State), (∀ n b, c ≠ .frameBoundary ⟨n, b⟩) → c ≠ .keepPowerUp → c ≠ .porAssert →
    Completes c s fun t =>
      t.rd R.FLT_CTRL_FN_MIN 0 = s.rd R.FLT_CTRL_FN_MIN 0
        ∧ (∀ k, t.rd R.FLT_KIND_ESC_N k = s.rd R.FLT_KIND_ESC_N k ∧ t.rd R.FLT_KIND_ESC_W k = s.rd R.FLT_KIND_ESC_W k
            ∧ t.rd R.FLT_KIND_QUIET_QUIET k = s.rd R.FLT_KIND_QUIET_QUIET k)

/-- R18: a read of reserved space returns 0 and changes nothing else; a write to it is refused, counted, and does nothing
else; an access of eight bytes reaches both words. -/
def Obligations.ReservedSpaceReadsZero : Prop :=
  (∀ (s : State) (w : WCtx) (off size : Nat), storeSize ≤ off → off < 2 ^ 24 → (off < 0x300000 ∨ 0x400000 ≤ off) →
    s.gated off = false → regServed false off size = true → size ≤ 4 → s.reservedWord (off / 4 * 4) = true →
    exec (.readPairLow w off size) s = .next (s.answer (.data 0)))
  ∧ (∀ (s : State) (w : WCtx) (off : Nat), storeSize ≤ off → off < 2 ^ 24 → (off < 0x300000 ∨ 0x400000 ≤ off) → off % 8 = 0 →
    s.gated off = false → s.reservedWord off = true → s.reservedWord (off + 4) = true →
    exec (.readPairLow w off 8) s = .next (s.answer (.data 0)))
  ∧ (∀ (s : State) (w : WCtx) (off size v : Nat), storeSize ≤ off → off < 2 ^ 24 → (off < 0x300000 ∨ 0x400000 ≤ off) →
    s.gated off = false → regServed true off size = true → size ≤ 4 → s.reservedWord (off / 4 * 4) = true →
    Completes (.registerWrite w off size v) s fun t => Refuses w (off / 4 * 4) 2 s t)
  ∧ (∀ (s : State) (w : WCtx) (off v : Nat), storeSize ≤ off → off < 2 ^ 24 → (off < 0x300000 ∨ 0x400000 ≤ off) → off % 8 = 0 →
    s.gated off = false → s.reservedWord off = true → s.reservedWord (off + 4) = true →
    Completes (.registerWrite w off 8 v) s fun t =>
      t.resp = .refused 2 ∧ t.rd R.FLT_REJECT_COUNT 0 = min (2 ^ 32 - 1) (s.rd R.FLT_REJECT_COUNT 0 + 2)
        ∧ OnlyKinds [R.FLT_REJECT_COUNT, R.FLT_REJECT_INFO_CAUSE, R.FLT_REJECT_INFO_REQ, R.FLT_REJECT_INFO_OFFSET] s t
        ∧ OnlyRegsOut s t)

/-- R11: a read of a pair's low word latches the high word into a shadow of the port; the port's next read of the high word
returns that shadow, whatever the register has become; a read of the high word with no shadow returns the live word. -/
def Obligations.PairReadsTakeTheShadow : Prop :=
  (∀ (s : State) (w : WCtx) (off : Nat), storeSize ≤ off → off < 0x300000 → pairLow off = true → s.gated off = false →
    Completes (.readPairLow w off 4) s fun t =>
      t.resp = .data (s.liveWord off)
        ∧ (∀ (u : State) (x : WCtx), u.shadows = t.shadows → x.req = w.req → u.gated (off + 4) = false →
            Completes (.readPairLow x (off + 4) 4) u fun v =>
              v.resp = .data (s.liveWord (off + 4))
                ∧ (∀ (y : WCtx), y.req = w.req → v.gated (off + 4) = false →
                    Completes (.readPairLow y (off + 4) 4) v fun z => z.resp = .data (v.liveWord (off + 4)))))
  ∧ (∀ (s : State) (w : WCtx) (off : Nat), storeSize ≤ off → off < 0x300000 → pairLow off = true → s.gated (off + 4) = false →
    (∀ x ∈ s.shadows, x.1 ≠ w.req ∨ x.2.1 ≠ off) →
    exec (.readPairLow w (off + 4) 4) s = .next (s.answer (.data (s.liveWord (off + 4)))))

/-- R270–R274, R280: an enabled cell whose voltage is below its threshold trips: its count of edges starts, the first edge is
suppressed unless its clock is stretched already, the trip is counted, and the first one of an accounting frame is sent. It
releases once the voltage has recovered by the hysteresis and MIN_HOLD edges have passed since the trip; the edges that its clock
lost are added by the stretch accumulator, and every tripped cell of the clock counts the edges passed. At any other time neither
a trip nor a release changes anything. The model's own choices on which it rests are those of assumptions 6 and 7. -/
def Obligations.CellTripsAndReleases : Prop :=
  (∀ (s : State) (cell edges code : Nat), s.cellIn cell = true → s.bit H.CROOK_C_EN cell = true →
    s.bit H.CROOK_C_TRIPPED cell = false → code < s.cellThr cell → s.stretched cell = false →
    Completes (.cellTrip cell ⟨edges, code⟩) s fun t =>
      t.bit H.CROOK_C_TRIPPED cell = true ∧ t.rd H.CROOK_C_KEDGE cell = 0
        ∧ t.rd H.CROOK_C_ACC (s.edgeCell cell) = 100 - s.rd H.CROOK_C_MAXS cell
        ∧ t.rd H.CROOK_C_TRIPS cell = min 255 (s.rd H.CROOK_C_TRIPS cell + 1)
        ∧ t.out = (if s.rd H.CROOK_C_TRIPS cell = 0 then .mesh [.zoskare] (.cellTrip cell) :: s.out else s.out)
        ∧ OnlyFields [(H.CROOK_C_TRIPPED, cell), (H.CROOK_C_KEDGE, cell), (H.CROOK_C_ACC, s.edgeCell cell),
            (H.CROOK_C_TRIPS, cell)] s t
        ∧ OnlyRegsOut s t)
  ∧ (∀ (s : State) (cell edges code : Nat), s.cellIn cell = true → s.bit H.CROOK_C_TRIPPED cell = true →
    s.cellThr cell + 2 * s.rd H.CROOK_C_HYST cell ≤ code →
    max 1 (s.rd H.CROOK_C_HOLD cell) ≤ s.rd H.CROOK_C_KEDGE cell + edges →
    Completes (.cellRelease cell edges code) s fun t =>
      t.bit H.CROOK_C_TRIPPED cell = false ∧ t.bit H.CROOK_C_STUCK cell = false
        ∧ t.rd H.CROOK_C_ACC (s.edgeCell cell)
          = (s.rd H.CROOK_C_ACC (s.edgeCell cell) + edges * s.rd H.CROOK_C_MAXS cell) % 100
        ∧ t.rd H.CROOK_C_EDGES (s.edgeCell cell)
          = min 65535 (s.rd H.CROOK_C_EDGES (s.edgeCell cell)
            + (s.rd H.CROOK_C_ACC (s.edgeCell cell) + edges * s.rd H.CROOK_C_MAXS cell) / 100)
        ∧ (∀ k ∈ clockCells cell, t.rd H.CROOK_C_KEDGE k
            = (if s.bit H.CROOK_C_TRIPPED k = true then min 65535 (s.rd H.CROOK_C_KEDGE k + edges)
               else s.rd H.CROOK_C_KEDGE k))
        ∧ (∀ k < 832, k ≠ cell → t.bit H.CROOK_C_TRIPPED k = s.bit H.CROOK_C_TRIPPED k
            ∧ t.bit H.CROOK_C_STUCK k = s.bit H.CROOK_C_STUCK k)
        ∧ OnlyKinds [H.CROOK_C_TRIPPED, H.CROOK_C_STUCK, H.CROOK_C_ACC, H.CROOK_C_EDGES, H.CROOK_C_KEDGE] s t ∧ OnlyRegs s t)
  ∧ (∀ (s : State) (cell edges code : Nat), code < s.cellThr cell + 2 * s.rd H.CROOK_C_HYST cell →
    exec (.cellRelease cell edges code) s = .next s)
  ∧ (∀ (s : State) (cell edges code : Nat),
    s.cellIn cell = false ∨ s.bit H.CROOK_C_TRIPPED cell = false
      ∨ s.rd H.CROOK_C_KEDGE cell + edges < max 1 (s.rd H.CROOK_C_HOLD cell) →
    exec (.cellRelease cell edges code) s = .next s)
  ∧ (∀ (s : State) (cell edges code : Nat), s.cellIn cell = true → s.bit H.CROOK_C_EN cell = true →
    s.bit H.CROOK_C_TRIPPED cell = false → code < s.cellThr cell → s.stretched cell = true →
    Completes (.cellTrip cell ⟨edges, code⟩) s fun t =>
      t.bit H.CROOK_C_TRIPPED cell = true ∧ t.rd H.CROOK_C_KEDGE cell = 0
        ∧ t.rd H.CROOK_C_ACC (s.edgeCell cell)
          = (s.rd H.CROOK_C_ACC (s.edgeCell cell) + edges * s.rd H.CROOK_C_MAXS cell) % 100
        ∧ t.rd H.CROOK_C_TRIPS cell = min 255 (s.rd H.CROOK_C_TRIPS cell + 1)
        ∧ t.out = (if s.rd H.CROOK_C_TRIPS cell = 0 then .mesh [.zoskare] (.cellTrip cell) :: s.out else s.out)
        ∧ OnlyKinds [H.CROOK_C_TRIPPED, H.CROOK_C_KEDGE, H.CROOK_C_ACC, H.CROOK_C_EDGES, H.CROOK_C_TRIPS] s t
        ∧ OnlyRegsOut s t)
  ∧ (∀ (s : State) (cell edges code : Nat),
    s.cellIn cell = false ∨ s.bit H.CROOK_C_EN cell = false ∨ s.bit H.CROOK_C_TRIPPED cell = true ∨ s.cellThr cell ≤ code →
    exec (.cellTrip cell ⟨edges, code⟩) s = .next s)

/-- R275, R277, R279, R282, R284: at the end of an accounting frame an enabled cell that has tripped in it sends its REPORT, one
that has neither tripped nor suppressed an edge sends none, and every cell starts its counts anew and numbers the next frame; a
cell tripped through STUCK_FRAMES frames is STUCK and its source is raised CONTAINED; 128 frames without FRAME_SYNC make a cell an
orphan, whose threshold is its FALLBACK code. The model's own choices on which it rests are those of assumptions 6 and 7. -/
def Obligations.CellFrameEndStuckOrphan : Prop :=
  (∀ (s : State) (cell edges : Nat), s.cellIn cell = true →
    Completes (.accountingFrameEnd cell edges) s fun t =>
      t.rd H.CROOK_C_TRIPS cell = 0 ∧ t.rd H.CROOK_C_EDGES cell = 0
        ∧ t.bit H.CROOK_C_TSTART cell = s.bit H.CROOK_C_TRIPPED cell
        ∧ t.rd H.CROOK_C_FRAME cell = (s.rd H.CROOK_C_FRAME cell + 1) % 65536
        ∧ t.rd H.CROOK_C_NOSYNC cell = min 255 (s.rd H.CROOK_C_NOSYNC cell + 1)
        ∧ t.rd H.CROOK_C_SFR cell
          = (if s.bit H.CROOK_C_TRIPPED cell = true ∧ s.bit H.CROOK_C_TSTART cell = true ∧ s.rd H.CROOK_C_TRIPS cell = 0
             then min 255 (s.rd H.CROOK_C_SFR cell + 1) else 0)
        ∧ (s.bit H.CROOK_C_EN cell = true → 0 < s.rd H.CROOK_C_TRIPS cell →
            ∃ n, t.out = .mesh [.zoskare] (.cellReport cell
              ⟨s.bit H.CROOK_C_STUCK cell, s.bit H.CROOK_C_ORPH cell, s.bit H.CROOK_C_TRIPPED cell,
                s.rd H.CROOK_C_FRAME cell % 256, s.rd H.CROOK_C_TRIPS cell, n⟩) :: s.out
              ∧ s.rd H.CROOK_C_EDGES cell ≤ n ∧ n < 65536)
        ∧ (s.rd H.CROOK_C_TRIPS cell = 0 → s.rd H.CROOK_C_EDGES cell = 0 → s.stretched cell = false → t.out = s.out)
        ∧ OnlyKinds [H.CROOK_C_ACC, H.CROOK_C_EDGES, H.CROOK_C_KEDGE, H.CROOK_C_SFR, H.CROOK_C_TRIPS, H.CROOK_C_TSTART,
            H.CROOK_C_FRAME, H.CROOK_C_NOSYNC] s t ∧ OnlyRegsOut s t)
  ∧ (∀ (s : State) (cell : Nat), s.cellIn cell = true → s.bit H.CROOK_C_TRIPPED cell = true →
    s.bit H.CROOK_C_STUCK cell = false → max 1 (s.rd H.CROOK_C_STUCKF cell) ≤ s.rd H.CROOK_C_SFR cell →
    s.bit R.CROOK_CELL_STUCK cell = false →
    Completes (.cellStuck cell) s fun t =>
      t.bit H.CROOK_C_STUCK cell = true ∧ t.bit R.CROOK_CELL_STUCK cell = true ∧ Raised (0x700 + cell) 1 s t
        ∧ OnlyKinds (faultFields ++ [H.CROOK_C_STUCK, R.CROOK_CELL_STUCK]) s t ∧ OnlyFault s t)
  ∧ (∀ (s : State) (cell : Nat), s.cellIn cell = true → 128 ≤ s.rd H.CROOK_C_NOSYNC cell →
    Completes (.cellOrphan cell) s fun t =>
      t.bit H.CROOK_C_ORPH cell = true ∧ t.cellThr cell = s.rd H.CROOK_C_FALLB cell
        ∧ OnlyKinds [H.CROOK_C_ORPH, H.CROOK_C_OSYNC, H.CROOK_C_OTHR] s t ∧ OnlyRegs s t)
  ∧ (∀ (s : State) (cell : Nat), s.cellIn cell = true → s.bit H.CROOK_C_TRIPPED cell = true →
    s.bit H.CROOK_C_STUCK cell = false → max 1 (s.rd H.CROOK_C_STUCKF cell) ≤ s.rd H.CROOK_C_SFR cell →
    s.bit R.CROOK_CELL_STUCK cell = true →
    Completes (.cellStuck cell) s fun t =>
      t.bit H.CROOK_C_STUCK cell = true ∧ OnlyFields [(H.CROOK_C_STUCK, cell)] s t ∧ OnlyRegs s t)
  ∧ (∀ (s : State) (cell : Nat),
    s.bit H.CROOK_C_TRIPPED cell = false ∨ s.rd H.CROOK_C_SFR cell < max 1 (s.rd H.CROOK_C_STUCKF cell) →
    exec (.cellStuck cell) s = .next s)
  ∧ (∀ (s : State) (cell : Nat), s.rd H.CROOK_C_NOSYNC cell < 128 → exec (.cellOrphan cell) s = .next s)

/-- R269, R270, R278, R280, R282–R284: what a cell takes from each message. THRESH and CONFIG reach every cell of the fold and no
other, FRAME_SYNC every enabled cell, which takes the compensation that waits and numbers its accounting frame by it; an orphan
leaves ORPHAN once it has met both FRAME_SYNC and THRESH; a disabled cell does not stretch and neither trips nor answers; ECHO is
answered; TEST trips the cell for 16 suppressed edges, with a TRIP message where it is the first trip of the frame; DELAY waits for
the next FRAME_SYNC. The model's own choices on which it rests are those of assumptions 6, 8 and 58. -/
def Obligations.CellTakesMessages : Prop :=
  (∀ (s : State) (fold code cell : Nat), cell ∈ s.cellsOf fold →
    Completes (.thresh fold code) s fun t =>
      t.rd H.CROOK_C_THR cell = code % 512 ∧ t.bit H.CROOK_C_OTHR cell = true
        ∧ (s.bit H.CROOK_C_OSYNC cell = true → t.bit H.CROOK_C_ORPH cell = false)
        ∧ (∀ c < 832, c ∉ s.cellsOf fold → t.rd H.CROOK_C_THR c = s.rd H.CROOK_C_THR c)
        ∧ OnlyKinds [H.CROOK_C_THR, H.CROOK_C_OTHR, H.CROOK_C_ORPH] s t ∧ OnlyRegs s t)
  ∧ (∀ (s : State) (fold hyst maxs fallb hold stuckf cell : Nat), cell ∈ s.cellsOf fold →
    Completes (.config fold hyst maxs fallb hold stuckf) s fun t =>
      t.rd H.CROOK_C_HYST cell = hyst % 16 ∧ t.rd H.CROOK_C_MAXS cell = maxs % 64 ∧ t.rd H.CROOK_C_FALLB cell = fallb % 512
        ∧ t.rd H.CROOK_C_HOLD cell = hold % 256 ∧ t.rd H.CROOK_C_STUCKF cell = stuckf % 256
        ∧ (∀ c < 832, c ∉ s.cellsOf fold → t.rd H.CROOK_C_HYST c = s.rd H.CROOK_C_HYST c ∧ t.rd H.CROOK_C_MAXS c = s.rd H.CROOK_C_MAXS c
            ∧ t.rd H.CROOK_C_FALLB c = s.rd H.CROOK_C_FALLB c)
        ∧ OnlyKinds [H.CROOK_C_HYST, H.CROOK_C_MAXS, H.CROOK_C_FALLB, H.CROOK_C_HOLD, H.CROOK_C_STUCKF] s t ∧ OnlyRegs s t)
  ∧ (∀ (s : State) (cell : Nat) (en : Bool), s.cellIn cell = true →
    Completes (.cellEn cell en) s fun t =>
      t.bit H.CROOK_C_EN cell = en ∧ (en = false → t.bit H.CROOK_C_TRIPPED cell = false)
        ∧ (en = true → OnlyFields [(H.CROOK_C_EN, cell)] s t)
        ∧ OnlyKinds [H.CROOK_C_EN, H.CROOK_C_TRIPPED, H.CROOK_C_STUCK, H.CROOK_C_SFR] s t ∧ OnlyRegs s t)
  ∧ (∀ (s : State) (frame cell : Nat), s.cellIn cell = true → s.bit H.CROOK_C_EN cell = true →
    Completes (.frameSync frame) s fun t =>
      t.rd H.CROOK_C_FRAME cell
          = (if (if s.slowFrames = true then 1250 else 500) ≤ 2 * s.rd H.CROOK_C_DELAY_NEXT cell + 420 then frame % 65536
             else (frame + 65535) % 65536)
        ∧ t.rd H.CROOK_C_NOSYNC cell = 0
        ∧ t.rd H.CROOK_C_DELAY cell = s.rd H.CROOK_C_DELAY_NEXT cell ∧ t.bit H.CROOK_C_OSYNC cell = true
        ∧ (s.bit H.CROOK_C_OTHR cell = true → t.bit H.CROOK_C_ORPH cell = false)
        ∧ (∀ c < 832, s.bit H.CROOK_C_EN c = false → t.rd H.CROOK_C_FRAME c = s.rd H.CROOK_C_FRAME c
            ∧ t.rd H.CROOK_C_NOSYNC c = s.rd H.CROOK_C_NOSYNC c)
        ∧ OnlyKinds [H.CROOK_C_FRAME, H.CROOK_C_NOSYNC, H.CROOK_C_DELAY, H.CROOK_C_OSYNC, H.CROOK_C_ORPH] s t ∧ OnlyRegs s t)
  ∧ (∀ (s : State) (cell : Nat), s.cellIn cell = true → s.bit H.CROOK_C_EN cell = true →
    s.bit H.CROOK_C_TRIPPED cell = false →
    Completes (.test cell) s fun t =>
      t.rd H.CROOK_C_TRIPS cell = min 255 (s.rd H.CROOK_C_TRIPS cell + 1)
        ∧ t.rd H.CROOK_C_EDGES (s.edgeCell cell) = min 65535 (s.rd H.CROOK_C_EDGES (s.edgeCell cell) + 16)
        ∧ t.out = (if s.rd H.CROOK_C_TRIPS cell = 0 then .mesh [.zoskare] (.cellTrip cell) :: s.out else s.out)
        ∧ OnlyFields [(H.CROOK_C_TRIPS, cell), (H.CROOK_C_EDGES, s.edgeCell cell)] s t ∧ OnlyRegsOut s t)
  ∧ (∀ (s : State) (cell : Nat), s.cellIn cell = true → s.bit H.CROOK_C_EN cell = true →
    exec (.echo cell) s = .next { s with out := .mesh [.zoskare] (.echoReply cell) :: s.out })
  ∧ (∀ (s : State) (cell comp : Nat), s.cellIn cell = true →
    Completes (.delay cell comp) s fun t =>
      t.rd H.CROOK_C_DELAY_NEXT cell = comp % 256 ∧ t.rd H.CROOK_C_DELAY cell = s.rd H.CROOK_C_DELAY cell
        ∧ OnlyFields [(H.CROOK_C_DELAY_NEXT, cell)] s t ∧ OnlyRegs s t)
  ∧ (∀ (s : State) (cell : Nat), s.bit H.CROOK_C_EN cell = false →
    exec (.echo cell) s = .next s ∧ exec (.test cell) s = .next s)

/-- R278, R281, R302–R307, R309: what the central part does on a cell's messages. A TRIP is a step on the cell's rail: a shed that
is under way there is aborted and counted, one that has not begun is dropped, pulse skipping is to end, and where there is none of
these nothing else changes; a REPORT is counted into its fold and its cell, a late one as late, and one that tells STUCK marks the
cell and raises its source; an ECHO_REPLY is answered with a DELAY of half the round trip in units of 2 ns (an inexact quotient
rounds as assumption 3 leaves open), an ECHO without reply with the fold's largest compensation; FRAME_SYNC goes out every 64
frames. The model's own choices on which it rests are those of assumptions 3, 6 and 8. -/
def Obligations.CrookCentralCounts : Prop :=
  (∀ (s : State) (cell : Nat), s.cellIn cell = true → foldRail s.zk4 (cellFold s.zk4 cell) ∈ s.rails →
    Completes (.trip cell) s fun t =>
      t.rd H.BW_TRIPC (foldRail s.zk4 (cellFold s.zk4 cell)) = 16
        ∧ (s.bit R.PD_RAIL_STAT_SKIPPING (foldRail s.zk4 (cellFold s.zk4 cell)) = true →
            t.bit H.PD_SKIP_END (foldRail s.zk4 (cellFold s.zk4 cell)) = true)
        ∧ t.map = s.map ∧ SameStore s t)
  ∧ (∀ (s : State) (cell : Nat) (r : CellReport), s.cellIn cell = true →
    (r.stuck = true → s.bit R.CROOK_CELL_STUCK cell = true) →
    Completes (.report cell r) s fun t =>
      t.rd H.CROOK_PTRIPS (cellFold s.zk4 cell) = min 65535 (s.rd H.CROOK_PTRIPS (cellFold s.zk4 cell) + r.trips)
        ∧ t.rd H.CROOK_PEDGES (cellFold s.zk4 cell)
          = satAdd H.CROOK_PEDGES.wid (s.rd H.CROOK_PEDGES (cellFold s.zk4 cell)) r.edges
        ∧ t.rd R.CROOK_FOLD_TOTAL_TOTAL (cellFold s.zk4 cell)
          = satAdd R.CROOK_FOLD_TOTAL_TOTAL.wid (s.rd R.CROOK_FOLD_TOTAL_TOTAL (cellFold s.zk4 cell)) r.trips
        ∧ t.rd R.CROOK_CELL_TRIPS cell = satAdd R.CROOK_CELL_TRIPS.wid (s.rd R.CROOK_CELL_TRIPS cell) r.trips
        ∧ t.bit R.CROOK_CELL_ORPHAN cell = r.orphan ∧ t.bit R.CROOK_CELL_STRETCHING cell = r.stretching
        ∧ t.bit H.CROOK_REP_STUCK cell = r.stuck
        ∧ t.rd R.CROOK_LATE_LATE 0
          = (if r.frame % 256 = s.frame % 256 then s.rd R.CROOK_LATE_LATE 0
             else satAdd R.CROOK_LATE_LATE.wid (s.rd R.CROOK_LATE_LATE 0) 1)
        ∧ t.rd R.CROOK_TEST_BUSY 0 = (if s.rd R.CROOK_TEST_CELL 0 = cell then 0 else s.rd R.CROOK_TEST_BUSY 0)
        ∧ OnlyKinds [H.CROOK_PTRIPS, H.CROOK_PEDGES, R.CROOK_FOLD_TOTAL_TOTAL, R.CROOK_CELL_TRIPS, R.CROOK_CELL_ORPHAN,
            R.CROOK_CELL_STRETCHING, H.CROOK_REP_STUCK, R.CROOK_LATE_LATE, R.CROOK_TEST_BUSY, H.FLT_PROBE_GOT,
            H.FLT_RESULT] s t ∧ OnlyRegs s t)
  ∧ (∀ (s : State) (cell rtt : Nat), s.cellIn cell = true → s.bit H.CROOK_ECHO_PEND cell = true → s.holder = true →
    s.rd H.GL_SPENT (96 + cell) < 2 →
    Completes (.echoReply cell rtt) s fun t =>
      .mesh [.cell cell] (.delay cell (min 255 (openDiv rtt 4))) ∈ t.out
        ∧ t.bit H.CROOK_ECHO_PEND cell = false ∧ t.bit H.CROOK_DELAYED cell = true
        ∧ t.rd H.CROOK_FOLD_MAXC (cellFold s.zk4 cell)
          = max (min 255 (openDiv rtt 4)) (s.rd H.CROOK_FOLD_MAXC (cellFold s.zk4 cell))
        ∧ OnlyKinds [H.CROOK_FOLD_MAXC, H.GL_SPENT, H.CROOK_ECHO_PEND, H.CROOK_DELAYED, R.CROOK_STATUS_SYNCED] s t
        ∧ OnlyRegsMesh s t)
  ∧ (∀ (s : State) (cell : Nat), s.cellIn cell = true → s.bit H.CROOK_ECHO_PEND cell = true → s.holder = true →
    16 ≤ s.rd H.CROOK_ECHO_AGE cell → s.rd H.GL_SPENT (96 + cell) < 2 →
    Completes (.echoTimeout cell) s fun t =>
      .mesh [.cell cell] (.delay cell (s.rd H.CROOK_FOLD_MAXC (cellFold s.zk4 cell))) ∈ t.out
        ∧ t.bit H.CROOK_ECHO_PEND cell = false ∧ t.bit H.CROOK_DELAYED cell = true
        ∧ OnlyKinds [H.GL_SPENT, H.CROOK_ECHO_PEND, H.CROOK_DELAYED, R.CROOK_STATUS_SYNCED] s t ∧ OnlyRegsMesh s t)
  ∧ (∀ (s : State), s.running = true → s.holder = true → 64 ≤ s.rd H.CROOK_SYNC_AGE 0 →
    Completes .frameSyncPeriod s fun t =>
      t.rd H.CROOK_SYNC_AGE 0 = 0
        ∧ (∀ cell, s.cellEnabled cell = true → cell < 832 → s.rd H.GL_SPENT (96 + cell) < 2 →
            .mesh [.cell cell] (.frameSync ((s.frame + 1) % 65536)) ∈ t.out)
        ∧ OnlyKinds [H.GL_SPENT, H.CROOK_SYNC_AGE] s t ∧ OnlyRegsMesh s t)
  ∧ (∀ (s : State) (cell : Nat) (r : CellReport), s.cellIn cell = true → r.stuck = true →
    s.bit R.CROOK_CELL_STUCK cell = false →
    Completes (.report cell r) s fun t =>
      t.bit R.CROOK_CELL_STUCK cell = true ∧ t.bit H.CROOK_REP_STUCK cell = true ∧ Raised (0x700 + cell) 1 s t
        ∧ t.rd R.CROOK_CELL_TRIPS cell = satAdd R.CROOK_CELL_TRIPS.wid (s.rd R.CROOK_CELL_TRIPS cell) r.trips)
  ∧ (∀ (s : State) (cell r : Nat), s.cellIn cell = true → r = foldRail s.zk4 (cellFold s.zk4 cell) → r ∈ s.rails →
    s.shedding r ≠ [] →
    Completes (.trip cell) s fun t =>
      t.rd R.CROOK_RAIL_STAT_ABORTS r = satAdd R.CROOK_RAIL_STAT_ABORTS.wid (s.rd R.CROOK_RAIL_STAT_ABORTS r) 1
        ∧ (∀ p ∈ s.shedding r, t.bit H.PD_RET_ACT p = true) ∧ t.rd H.PD_DWELL_CNT r = 0
        ∧ (∀ p ∈ (s.inState r 3).take (s.rd R.CROOK_RAIL_CFG_STEP_ADD r), p < 128 → t.ph p = 4))
  ∧ (∀ (s : State) (cell r : Nat), s.cellIn cell = true → r = foldRail s.zk4 (cellFold s.zk4 cell) → r ∈ s.rails →
    s.shedding r = [] → 0 < s.rd H.PD_SHED_PEND r →
    Completes (.trip cell) s fun t =>
      t.rd H.PD_SHED_PEND r = 0 ∧ t.rd H.PD_DWELL_CNT r = 0
        ∧ OnlyFields [(H.BW_TRIPC, r), (H.PD_SHED_PEND, r), (H.PD_DWELL_CNT, r), (H.PD_SKIP_END, r)] s t ∧ OnlyRegs s t)
  ∧ (∀ (s : State) (cell r : Nat), s.cellIn cell = true → r = foldRail s.zk4 (cellFold s.zk4 cell) → r ∈ s.rails →
    s.shedding r = [] → s.rd H.PD_SHED_PEND r = 0 → s.bit R.PD_RAIL_STAT_SKIPPING r = false →
    exec (.trip cell) s = .next (s.wr H.BW_TRIPC r 16))

/-- R319–R321, R347, R433, R442, R464, R570–R574: the scanner takes a READING of an open sweep, replacing one of the same site,
counts one that comes without an open sweep as late, and ignores one with reserved bits set or of a site in no paddock; the close
of a sweep writes its words, where they have room, to the sample FIFO, where they stay while software consumes, and from which
the latch takes them otherwise; a READING with REF = 1 is the result of the site's pending reference check on the Gate holder: PASS
within 1.0 °C of the site's calibration, which is a value that the spec leaves open; in the proof test of a site it fails the site
and raises its source, or changes nothing else. The model's own choices on which it rests are those of assumptions 2 and 6. -/
def Obligations.SweepReadingsAreCollected : Prop :=
  (∀ (s : State) (site tag temp : Nat) (valid : Bool), site < 1536 → s.rd R.TH_SITE_PADDOCK site ≠ 0xFF →
    (s.sweeps.any fun w => w.paddock == s.rd R.TH_SITE_PADDOCK site && w.tag == tag && !w.closed) = true →
    Completes (.reading site tag valid ⟨temp, 0⟩) s fun t =>
      (∃ w ∈ t.sweeps, w.paddock = s.rd R.TH_SITE_PADDOCK site ∧ w.tag = tag ∧ w.closed = false
        ∧ (site, valid, ofS 16 (toS 16 temp - s.siteOffset site)) ∈ w.readings)
        ∧ t.sweeps.length = s.sweeps.length
        ∧ t = { s with sweeps := t.sweeps })
  ∧ (∀ (s : State) (site tag temp : Nat) (valid : Bool), site < 1536 → s.rd R.TH_SITE_PADDOCK site ≠ 0xFF →
    (s.sweeps.any fun w => w.paddock == s.rd R.TH_SITE_PADDOCK site && w.tag == tag && !w.closed) = false →
    exec (.reading site tag valid ⟨temp, 0⟩) s = .next (s.inc R.TH_PAD_CNT_LATE_READ (s.rd R.TH_SITE_PADDOCK site) 1))
  ∧ (∀ (s : State) (paddock : Nat) (w : Sweep), s.sweeps.find? (fun x => x.paddock == paddock && !x.closed) = some w →
    s.bit R.FIFO_CTRL_SW_CONSUME 0 = true → s.bit R.FLT_INJ_ARM 0 = false →
    s.fifo.length + (s.sweepWords w).length ≤ 64 →
    Completes (.sweepClose paddock) s fun t =>
      t.fifo = s.fifo ++ s.sweepWords w
        ∧ t.sweeps = s.sweeps.map (fun x => if x = w then { x with closed := true } else x)
        ∧ OnlyKinds [H.TH_INJ, R.FIFO_WM_PEAK, R.FIFO_WM_HIT, R.FIFO_WM_CROSSINGS] s t ∧ SameStore s t)
  ∧ (∀ (s : State) (site tag temp : Nat), site < 1536 → s.bit H.TH_PROOF site = false → s.holder = true →
    s.bit H.FLT_TEST_PEND (0xA40 + site) = true →
    Completes (.siteRefReading site tag ⟨temp, 0⟩) s fun t =>
      (t.rd H.FLT_RESULT (0xA40 + site) = 1 ∨ t.rd H.FLT_RESULT (0xA40 + site) = 2)
        ∧ OnlyKinds [H.FLT_RESULT] s t ∧ OnlyRegs s t)
  ∧ (∀ (s : State) (paddock : Nat) (w : Sweep), s.sweeps.find? (fun x => x.paddock == paddock && !x.closed) = some w →
    s.bit R.FIFO_CTRL_SW_CONSUME 0 = false → s.bit R.FLT_INJ_ARM 0 = false → s.fifo = [] → w.paddock < 128 →
    0 < (s.sweepWords w).length → (s.sweepWords w).length ≤ 64 → (s.sweepWords w).length = (s.padSites w.paddock).length →
    Completes (.sweepClose paddock) s fun t =>
      t.fifo = [] ∧ t.bit H.TH_NEW w.paddock = true
        ∧ t.sweeps = s.sweeps.map (fun x => if x = w then { x with closed := true } else x) ∧ SameStore s t)
  ∧ (∀ (s : State) (paddock : Nat), s.sweeps.find? (fun x => x.paddock == paddock && !x.closed) = none →
    exec (.sweepClose paddock) s = .next s)
  ∧ (∀ (s : State) (site tag temp rsv : Nat) (valid : Bool),
    rsv ≠ 0 ∨ 1536 ≤ site ∨ s.rd R.TH_SITE_PADDOCK site = 0xFF → exec (.reading site tag valid ⟨temp, rsv⟩) s = .next s)
  ∧ (∀ (s : State) (site tag : Nat), site < 1536 → s.bit H.TH_PROOF site = false → s.holder = true →
    s.bit H.FLT_TEST_PEND (0xA40 + site) = true →
    ∃ cal : Int, ∀ temp, Completes (.siteRefReading site tag ⟨temp, 0⟩) s fun t =>
      t.rd H.FLT_RESULT (0xA40 + site) = (if (toS 16 temp - cal).natAbs ≤ 16 then 1 else 2))
  ∧ (∀ (s : State) (site tag temp : Nat), site < 1536 → s.bit H.TH_PROOF site = true → srcPresent s.zk4 (0xA40 + site) = true →
    Completes (.siteRefReading site tag ⟨temp, 0⟩) s fun t =>
      t.bit H.TH_PROOF site = false
        ∧ (OnlyFields [(H.TH_PROOF, site)] s t
          ∨ (t.rd R.TH_SITE_STATE site = 3 ∧ t.bit H.TH_SFAIL site = true ∧ Raised (0xA40 + site) 1 s t))
        ∧ OnlyKinds (faultFields ++ [H.TH_PROOF, R.TH_SITE_STATE, H.TH_SFAIL, R.TH_PAD_STAT_SUSPECT, R.TH_PAD_STAT_FAILED,
            R.TH_PAD_STAT_EXCLUDED]) s t ∧ OnlyFault s t)
  ∧ (∀ (s : State) (site tag temp rsv : Nat), rsv ≠ 0 ∨ 1536 ≤ site → exec (.siteRefReading site tag ⟨temp, rsv⟩) s = .next s)

/-- R326, R329, R338: a site SUSPECT in two consecutive sweeps becomes FAILED and its source is raised CONTAINED; one
HIGH in two raises the source; a diode that fails its judgement twice fails, marks the paddocks that name it, and is raised; a
tile whose site reaches TILE_FENCE_T twice is wanted fenced as hot and its source raised. Before the second sweep none of these
does anything. The model's own choices on which it rests are those of assumptions 6 and 8. -/
def Obligations.ThermalElementsFail : Prop :=
  (∀ (s : State) (site : Nat), s.rd H.TH_SUSC site = 2 → s.rd R.TH_SITE_STATE site = 2 →
    srcPresent s.zk4 (0xA40 + site) = true →
    Completes (.siteFailed site) s fun t =>
      t.rd R.TH_SITE_STATE site = 3 ∧ t.bit H.TH_SFAIL site = true ∧ t.rd H.TH_SUSC site = 0 ∧ Raised (0xA40 + site) 1 s t
        ∧ OnlyKinds (faultFields ++ [R.TH_SITE_STATE, H.TH_SFAIL, H.TH_SUSC, R.TH_PAD_STAT_SUSPECT, R.TH_PAD_STAT_FAILED,
            R.TH_PAD_STAT_EXCLUDED]) s t ∧ OnlyFault s t)
  ∧ (∀ (s : State) (site : Nat), s.rd H.TH_HIGHC site = 2 → srcPresent s.zk4 (0xA40 + site) = true →
    Completes (.siteHighFault site) s fun t =>
      t.rd H.TH_HIGHC site = 3 ∧ Raised (0xA40 + site) 1 s t
        ∧ OnlyKinds (faultFields ++ [H.TH_HIGHC]) s t ∧ OnlyFault s t)
  ∧ (∀ (s : State) (ch : Nat), srcPresent s.zk4 (0x21C + ch) = true → ch < 64 → s.bit R.TH_DIODE_FAILED ch = false →
    (∃ p ∈ s.diodePads ch, s.rd H.TH_DIODEC p = 2) →
    Completes (.diodeFailed ch) s fun t =>
      t.bit R.TH_DIODE_FAILED ch = true ∧ (∀ p ∈ s.diodePads ch, p < 128 → t.bit R.TH_PAD_STAT_DIODE_FAIL p = true)
        ∧ Raised (0x21C + ch) 1 s t
        ∧ OnlyKinds (faultFields ++ [R.TH_DIODE_FAILED, R.TH_PAD_STAT_DIODE_FAIL, H.TH_DIODEC]) s t ∧ OnlyFault s t)
  ∧ (∀ (s : State) (tile : Nat), tile < 768 → srcPresent s.zk4 (0x400 + tile) = true →
    s.rd H.TH_HOTC (tileSite tile) = 2 → s.bit H.TH_HOT tile = false →
    Completes (.hotFence tile) s fun t =>
      t.bit H.TH_HOT tile = true ∧ t.fenceWant tile = true ∧ Raised (0x400 + tile) 1 s t
        ∧ OnlyKinds (faultFields ++ [H.TH_HOT]) s t ∧ OnlyFault s t)
  ∧ (∀ (s : State) (k : Nat), s.rd H.TH_SUSC k ≠ 2 → exec (.siteFailed k) s = .next s)
  ∧ (∀ (s : State) (k : Nat), s.rd H.TH_HIGHC k ≠ 2 → exec (.siteHighFault k) s = .next s)
  ∧ (∀ (s : State) (ch : Nat), s.bit R.TH_DIODE_FAILED ch = true ∨ (∀ p ∈ s.diodePads ch, s.rd H.TH_DIODEC p ≠ 2) →
    exec (.diodeFailed ch) s = .next s)
  ∧ (∀ (s : State) (tile : Nat), s.rd H.TH_HOTC (tileSite tile) ≠ 2 ∨ s.bit H.TH_HOT tile = true →
    exec (.hotFence tile) s = .next s)

/-- R316, R343, R344, R352: a conversion of an own diode channel stands in its register and goes to the peer while this
instance does not govern; a junction at 115.0 °C or above latches the trip with its channel and last reading, once; the joined
net seen low raises FATAL, records the trip, and on the instance that governs or holds the gate takes every rail OFF; a channel
of the peer and a junction below 115.0 °C do nothing. The model's own choices on which it rests are those of assumptions 6, 8
and 26. -/
def Obligations.DiodesAndThermalTrip : Prop :=
  (∀ (s : State) (ch : Nat) (temp : Int), s.diodeOwn ch = true → -32768 ≤ temp → temp < 32768 →
    Completes (.diodeConversion ch temp) s fun t =>
      t.rdS R.TH_DIODE_READING ch = temp ∧ t.rd H.TH_DIODE_AGE ch = 0
        ∧ t.bit R.TH_DIODE_ABOVE ch = decide (1840 ≤ temp)
        ∧ t.out = (if s.holder then s.out else .bulk ⟨true, .diode ch temp⟩ :: s.out)
        ∧ OnlyKinds [R.TH_DIODE_READING, H.TH_DIODE_LAST, H.TH_DIODE_AGE, H.TH_DIODE_NEW, R.TH_DIODE_ABOVE] s t
        ∧ OnlyRegsOut s t)
  ∧ (∀ (s : State) (ch : Nat) (temp : Int), s.diodeOwn ch = true → 1840 ≤ temp → s.bit R.TH_TRIP_LATCHED 0 = false →
    Completes (.diodeTrip ch temp) s fun t =>
      t.bit R.TH_TRIP_LATCHED 0 = true ∧ t.rd R.TH_TRIP_DIODE 0 = ch ∧ t.rd R.TH_TRIP_TEMP 0 = s.rd H.TH_DIODE_LAST ch
        ∧ t.bit R.TH_DIODE_ABOVE ch = true
        ∧ OnlyKinds [R.TH_DIODE_ABOVE, R.TH_TRIP_LATCHED, R.TH_TRIP_DIODE, R.TH_TRIP_TEMP] s t ∧ OnlyRegs s t)
  ∧ (∀ (s : State) (ch : Nat) (temp : Int), s.bit R.TH_TRIP_LATCHED 0 = true →
    Completes (.diodeTrip ch temp) s fun t =>
      t.rd R.TH_TRIP_DIODE 0 = s.rd R.TH_TRIP_DIODE 0 ∧ t.rd R.TH_TRIP_TEMP 0 = s.rd R.TH_TRIP_TEMP 0
        ∧ OnlyKinds [R.TH_DIODE_ABOVE] s t ∧ OnlyRegs s t)
  ∧ (∀ (s : State), s.bit R.TH_TRIP_NET_LOW 0 = false → s.holder = false → s.bit R.TWIN_STATUS_GATE_OWN 0 = false →
    Completes .thermtripNetLow s fun t =>
      t.bit R.TH_TRIP_NET_LOW 0 = true ∧ Raised 0x382 2 s t
        ∧ OnlyKinds (faultFields ++ [R.TH_TRIP_NET_LOW]) s t ∧ OnlyFault s t)
  ∧ (∀ (s : State), s.bit R.TH_TRIP_NET_LOW 0 = false → s.holder = true ∨ s.bit R.TWIN_STATUS_GATE_OWN 0 = true →
    Completes .thermtripNetLow s fun t =>
      t.bit R.TH_TRIP_NET_LOW 0 = true ∧ Raised 0x382 2 s t ∧ (∀ r ∈ railList s.zk4, t.railOn r = false))
  ∧ (∀ (s : State), s.bit R.TH_TRIP_NET_LOW 0 = false → s.bit R.TALLY_STAT_RESTORED 0 = true → s.tallyQueue.length < 14 →
    Completes .thermtripNetLow s fun t =>
      t.tallyQueue[s.tallyQueue.length]? = some ⟨1, 3, 1, [s.rd R.TH_TRIP_DIODE 0, s.rd R.TH_TRIP_TEMP 0], false⟩)
  ∧ (∀ (s : State), s.bit R.TH_TRIP_NET_LOW 0 = true → exec .thermtripNetLow s = .next s)
  ∧ (∀ (s : State) (ch : Nat) (temp : Int), s.diodeOwn ch = false →
    exec (.diodeConversion ch temp) s = .next s ∧ exec (.diodeTrip ch temp) s = .next s)
  ∧ (∀ (s : State) (ch : Nat) (temp : Int), temp < 1840 → exec (.diodeTrip ch temp) s = .next s)

/-- R317, R337, R347, R350: an HBM reading stands and makes its controller fresh; 256 frames without one make it stale and raise
its source; a report of an optical engine shows its draw and lock state and counts the reports above the allowance; the fourth
in a row sets OVER and raises the engine's source, and one within the allowance ends OVER. Reserved bits set, a controller that
the package lacks, or a count not reached: nothing happens. The model's own choices on which it rests are those of assumptions 6
and 7. -/
def Obligations.HbmAndOpticalReports : Prop :=
  (∀ (s : State) (ctrl : Nat) (temp : Int), ctrl < hbmStacks s.zk4 → -32768 ≤ temp → temp < 32768 →
    Completes (.hbmTemp ctrl temp) s fun t =>
      t.rdS H.TH_HBM_T ctrl = temp ∧ t.bit H.TH_HBM_SEEN ctrl = true ∧ t.rd H.TH_HBM_AGE ctrl = 0
        ∧ t.bit R.TH_BAND_STAT_STALE ctrl = false
        ∧ OnlyKinds [H.TH_HBM_T, H.TH_HBM_SEEN, H.TH_HBM_AGE, R.TH_BAND_STAT_STALE] s t ∧ OnlyRegs s t)
  ∧ (∀ (s : State) (ctrl : Nat), ctrl < hbmStacks s.zk4 → 256 ≤ s.rd H.TH_HBM_AGE ctrl →
    s.bit R.TH_BAND_STAT_STALE ctrl = false →
    Completes (.memctrlStale ctrl) s fun t =>
      t.bit R.TH_BAND_STAT_STALE ctrl = true ∧ Raised (0x35C + ctrl) 1 s t
        ∧ OnlyKinds (faultFields ++ [R.TH_BAND_STAT_STALE]) s t ∧ OnlyFault s t)
  ∧ (∀ (s : State) (engine heater laser : Nat) (locked : Bool), engine < 8 →
    Completes (.optReport engine locked heater ⟨laser, 0⟩) s fun t =>
      t.bit R.TH_OPT_STAT_LOCKED engine = locked
        ∧ t.rd R.TH_OPT_DRAW_HEATER_RPT engine = min 65535 heater ∧ t.rd R.TH_OPT_DRAW_LASER_RPT engine = min 65535 laser
        ∧ t.rd H.TH_OVERC engine
          = (if s.rd R.TH_OPT_HEATER_HEATER engine + s.rd R.TH_OPT_LASER_LASER engine < heater + laser
             then min 4 (s.rd H.TH_OVERC engine + 1) else 0)
        ∧ (heater + laser ≤ s.rd R.TH_OPT_HEATER_HEATER engine + s.rd R.TH_OPT_LASER_LASER engine →
            t.bit R.TH_OPT_STAT_OVER engine = false)
        ∧ OnlyKinds [R.TH_OPT_STAT_LOCKED, R.TH_OPT_DRAW_HEATER_RPT, R.TH_OPT_DRAW_LASER_RPT, H.TH_OVERC,
            R.TH_OPT_STAT_OVER] s t ∧ OnlyRegs s t)
  ∧ (∀ (s : State) (engine : Nat), engine < 8 → s.rd H.TH_OVERC engine = 4 → s.bit R.TH_OPT_STAT_OVER engine = false →
    Completes (.opticalOver engine) s fun t =>
      t.bit R.TH_OPT_STAT_OVER engine = true ∧ Raised (0x2DC + engine) 1 s t
        ∧ OnlyKinds (faultFields ++ [R.TH_OPT_STAT_OVER]) s t ∧ OnlyFault s t)
  ∧ (∀ (s : State) (ctrl : Nat) (temp : Int), hbmStacks s.zk4 ≤ ctrl →
    exec (.hbmTemp ctrl temp) s = .next s ∧ exec (.memctrlStale ctrl) s = .next s)
  ∧ (∀ (s : State) (ctrl : Nat), s.rd H.TH_HBM_AGE ctrl < 256 ∨ s.bit R.TH_BAND_STAT_STALE ctrl = true →
    exec (.memctrlStale ctrl) s = .next s)
  ∧ (∀ (s : State) (e heater laser rsv : Nat) (locked : Bool), rsv ≠ 0 ∨ 8 ≤ e →
    exec (.optReport e locked heater ⟨laser, rsv⟩) s = .next s)
  ∧ (∀ (s : State) (e : Nat), s.rd H.TH_OVERC e ≠ 4 ∨ s.bit R.TH_OPT_STAT_OVER e = true → exec (.opticalOver e) s = .next s)

/-- R339–R342, R347, R430: FENCE_ACK of a fence that was forced raises the flock's source; it answers the unfence of a tile whose
stile is on; with STILE_ON = 0 it parks a stile to which STILE_OFF went, unless a route uses it. ROUTE_STATE tells of use, of its
end, and of demand; a stile whose 12 tiles are fenced and which no route has used for 64 frames is sent STILE_OFF. Messages with
reserved bits set, or from a flock that the package lacks, do nothing. The model's own choices on which it rests are those of
assumptions 6, 8 and 58. -/
def Obligations.FencesAndStiles : Prop :=
  (∀ (s : State) (flock : Nat) (m : FenceAckMsg), flock < flockCount s.zk4 → m.tile < 12 → m.rsv = 0 → m.fenced = true →
    m.forced = true → m.stileOn = true →
    Completes (.fenceAck flock m) s fun t =>
      Raised (0x31C + flock) 1 s t ∧ OnlyKinds faultFields s t ∧ OnlyFault s t)
  ∧ (∀ (s : State) (flock : Nat) (m : FenceAckMsg), flock < flockCount s.zk4 → m.tile < 12 → m.rsv = 0 → m.fenced = false →
    m.stileOn = true → s.bit H.TH_UNF_SENT (192 * (flock / 16) + 12 * (flock % 16) + m.tile) = true →
    exec (.fenceAck flock m) s = .next (s.wr H.TH_UNF_ACK (192 * (flock / 16) + 12 * (flock % 16) + m.tile) 1))
  ∧ (∀ (s : State) (flock : Nat) (m : FenceAckMsg), flock < flockCount s.zk4 → m.tile < 12 → m.rsv = 0 →
    (m.fenced && m.forced) = false → m.stileOn = false → s.bit H.TH_OFF_SENT flock = true →
    s.bit R.TH_ROUTE_IN_USE flock = false →
    Completes (.fenceAck flock m) s fun t =>
      t.bit R.TH_STILE_PARKED flock = true ∧ t.bit H.TH_OFF_SENT flock = false
        ∧ (∀ j ∈ [12, 13, 14], s.rd R.TH_SITE_PADDOCK (240 * (flock / 16) + 15 * (flock % 16) + j) ≠ 0xFF →
            t.rd R.TH_SITE_STATE (240 * (flock / 16) + 15 * (flock % 16) + j) = 4)
        ∧ OnlyKinds [H.TH_OFF_SENT, R.TH_STILE_PARKED, R.TH_SITE_STATE, R.TH_PAD_STAT_SUSPECT, R.TH_PAD_STAT_FAILED,
            R.TH_PAD_STAT_EXCLUDED] s t ∧ OnlyRegs s t)
  ∧ (∀ (s : State) (flock : Nat) (m : RouteMsg), flock < flockCount s.zk4 → m.rsv = 0 →
    Completes (.routeState flock m) s fun t =>
      t.bit R.TH_ROUTE_IN_USE flock = m.inUse
        ∧ (m.inUse = true → t.bit H.TH_DEMAND flock = true)
        ∧ (m.demand = true → m.demanded < flockCount s.zk4 → t.bit H.TH_DEMAND m.demanded = true)
        ∧ (s.bit R.TH_ROUTE_IN_USE flock = true → m.inUse = false → t.rd H.TH_USE_END flock = s.frame)
        ∧ OnlyKinds [H.TH_USE_END, R.TH_ROUTE_IN_USE, H.TH_DEMAND] s t ∧ OnlyRegs s t)
  ∧ (∀ (s : State) (flock : Nat), flock < flockCount s.zk4 →
    (∀ j < 12, s.bit R.TH_FENCED_FENCED (192 * (flock / 16) + 12 * (flock % 16) + j) = true) →
    s.bit R.TH_ROUTE_IN_USE flock = false → 64 ≤ s.frame - s.rd H.TH_USE_END flock →
    s.bit R.TH_STILE_PARKED flock = false → s.bit H.TH_OFF_SENT flock = false → s.bit H.TH_DEMAND flock = false →
    s.holder = true → s.rd H.GL_SPENT (32 + flock) < 2 →
    Completes (.stilePark flock) s fun t =>
      t.bit H.TH_OFF_SENT flock = true ∧ t.out = .mesh [.router flock] (.stileOff flock) :: s.out
        ∧ OnlyKinds [H.TH_OFF_SENT, H.GL_SPENT] s t ∧ OnlyRegsMesh s t)
  ∧ (∀ (s : State) (flock : Nat) (m : FenceAckMsg), m.rsv ≠ 0 ∨ flockCount s.zk4 ≤ flock ∨ 12 ≤ m.tile →
    exec (.fenceAck flock m) s = .next s)
  ∧ (∀ (s : State) (flock : Nat) (m : FenceAckMsg), (m.fenced && m.forced) = false →
    (m.fenced = true ∨ s.bit H.TH_UNF_SENT (192 * (flock / 16) + 12 * (flock % 16) + m.tile) = false) →
    (m.stileOn = true ∨ s.bit R.TH_ROUTE_IN_USE flock = true) → exec (.fenceAck flock m) s = .next s)
  ∧ (∀ (s : State) (flock : Nat) (m : RouteMsg), m.rsv ≠ 0 ∨ flockCount s.zk4 ≤ flock → exec (.routeState flock m) s = .next s)
  ∧ (∀ (s : State) (flock : Nat), s.bit R.TH_ROUTE_IN_USE flock = true ∨ s.frame - s.rd H.TH_USE_END flock < 64
      ∨ s.bit R.TH_STILE_PARKED flock = true →
    exec (.stilePark flock) s = .next s)

/-- R225, R231, R232, R233, R248, R249, R252, R261, R443: a remote-sense conversion of a declared rail, on or OFF, stands as the
rail's voltage, counts towards the SG-2 shutdown, starts and ends truncation, and runs the compensator, which keeps its error and
whose integrator stays while no phase pulses; a phase-current sample stands as the measurement, with its integrity, and is the
USED current of a phase that is not derated; where no sibling qualifies the share stays and the phase is not judged. On a twin that
follows the Gate holder an own conversion and an own sample stand and run nothing. In loopback a rail's comparisons run on its last
conversion, and a phase's USED current is the mean of its siblings. A rail that is not declared and a phase that is not allocated
take nothing. The model's own choices on which it rests are those of assumptions 6, 21 and 48. -/
def Obligations.ConversionsAndSamples : Prop :=
  (∀ (s : State) (rail code : Nat), rail ∈ s.rails → s.bit H.PD_LOOP_RAIL rail = false → s.follows = false →
    Completes (.railSenseConversion rail code) s fun t =>
      t.rd H.PD_VSENSE rail = code % 2 ^ H.PD_VSENSE.wid ∧ t.rd H.PD_VOWN rail = code % 2 ^ H.PD_VOWN.wid
        ∧ t.rd H.PD_VS_PREV rail = s.rd H.PD_VOWN rail
        ∧ t.rd H.PD_SG2 rail
          = (if (s.wr H.PD_VSENSE rail code).above rail 60 then min 63 (s.rd H.PD_SG2 rail + 1) else 0)
        ∧ t.rd H.PD_EPREV rail
          = ofS H.PD_EPREV.wid (openDivI (s.vtgtM rail) 1000000 - ((code % 2 ^ H.PD_VSENSE.wid : Nat) : Int))
        ∧ (s.nPulse rail = 0 → t.rd H.PD_INTEG rail = s.rd H.PD_INTEG rail)
        ∧ OnlyKinds [H.PD_VSENSE, H.PD_VOWN, H.PD_VS_PREV, H.PD_SG2, H.PD_EPREV, H.PD_INTEG, H.PD_DRAIL, H.PD_PG_CNT,
            H.PD_TRUNC_NOW, R.PD_RAIL_STAT_TRUNCATING, R.PD_PH_DUTY_DUTY, H.PD_RET_ACT, H.PD_SHED_PEND, H.PD_DWELL_CNT,
            H.PD_SKIP_END, R.PD_PH_STAT_STATE, R.PD_PH_DUTY_SHARE, H.PD_ADD_PER, H.PD_POS, H.PD_WID, R.PD_PH_STAT_RANK,
            R.CROOK_RAIL_STAT_ABORTS, H.PD_ALARM_NOW] s t
        ∧ OnlyRegsOut s t)
  ∧ (∀ (s : State) (rail code : Nat), rail ∈ s.rails → s.bit H.PD_LOOP_RAIL rail = false → s.follows = true →
    exec (.railSenseConversion rail code) s = .next ((s.wr H.PD_VS_PREV rail (s.rd H.PD_VOWN rail)).wr H.PD_VOWN rail code))
  ∧ (∀ (s : State) (phase code : Nat) (refOff : Bool), s.allocated phase = true → s.bit H.PD_LOOP_PH phase = false →
    Completes (.phaseCurrentSample phase code refOff) s fun t =>
      t.rd R.PD_PH_CURRENT_MEAS phase = ofS R.PD_PH_CURRENT_MEAS.wid (((code % 4096 : Nat) : Int) - 1024)
        ∧ t.bit R.PD_PH_STAT_SENSE_OK phase = (code % 4096 != 0 && code % 4096 != 4095 && !refOff)
        ∧ OnlyKinds [R.PD_PH_CURRENT_MEAS, R.PD_PH_STAT_SENSE_OK, R.PD_PH_CURRENT_USED, H.PD_SAMP, H.PD_DEVC, H.PD_INVC,
            H.PD_CLAMPC, R.PD_PH_DUTY_DUTY, H.PD_RET_ACT, H.PD_SHED_PEND, H.PD_DWELL_CNT, H.PD_SKIP_END, R.PD_PH_STAT_STATE,
            R.PD_PH_DUTY_SHARE, H.PD_ADD_PER, H.PD_POS, H.PD_WID, R.PD_PH_STAT_RANK, R.CROOK_RAIL_STAT_ABORTS,
            H.PD_ALARM_NOW] s t
        ∧ OnlyRegs s t)
  ∧ (∀ (s : State) (rail code : Nat), rail ∉ s.rails → exec (.railSenseConversion rail code) s = .next s)
  ∧ (∀ (s : State) (rail code : Nat), rail ∈ s.rails → s.bit H.PD_LOOP_RAIL rail = true →
    Completes (.railSenseConversion rail code) s fun t =>
      t.rd H.PD_SG2 rail = (if s.above rail 60 then min 63 (s.rd H.PD_SG2 rail + 1) else 0)
        ∧ OnlyKinds [H.PD_SG2, R.PD_RAIL_STAT_TRUNCATING, H.PD_TRUNC_NOW] s t ∧ OnlyRegsOut s t)
  ∧ (∀ (s : State) (phase code : Nat) (refOff : Bool), s.allocated phase = false →
    exec (.phaseCurrentSample phase code refOff) s = .next s)
  ∧ (∀ (s : State) (phase code : Nat) (refOff : Bool), s.allocated phase = true → s.bit H.PD_LOOP_PH phase = false →
    s.follows = true →
    Completes (.phaseCurrentSample phase code refOff) s fun t =>
      OnlyFields [(R.PD_PH_CURRENT_MEAS, phase), (R.PD_PH_STAT_SENSE_OK, phase), (H.PD_SAMP, phase)] s t ∧ OnlyRegs s t)
  ∧ (∀ (s : State) (phase code : Nat) (refOff : Bool), s.allocated phase = true → s.bit H.PD_LOOP_PH phase = false →
    s.follows = false → s.bit R.PD_PH_STAT_DERATED phase = false →
    Completes (.phaseCurrentSample phase code refOff) s fun t =>
      t.rd R.PD_PH_CURRENT_USED phase = ofS R.PD_PH_CURRENT_USED.wid (((code % 4096 : Nat) : Int) - 1024))
  ∧ (∀ (s : State) (phase code : Nat) (refOff : Bool), s.allocated phase = true → s.bit H.PD_LOOP_PH phase = false →
    s.follows = false → s.ibar phase = none → s.ph phase = 1 →
    Completes (.phaseCurrentSample phase code refOff) s fun t =>
      t.rd R.PD_PH_DUTY_SHARE phase = s.rd R.PD_PH_DUTY_SHARE phase ∧ t.rd H.PD_DEVC phase = 0 ∧ t.rd H.PD_INVC phase = 0
        ∧ t.rd H.PD_CLAMPC phase = 0)
  ∧ (∀ (s : State) (phase code : Nat) (refOff : Bool), s.allocated phase = true → s.bit H.PD_LOOP_PH phase = true →
    exec (.phaseCurrentSample phase code refOff) s
      = .next (match s.ibar phase with
          | some (a, n) => s.wrS R.PD_PH_CURRENT_USED phase (openDivI a n)
          | none => s))

/-- R223, R249, R508: every 250 ns the V_ref of each rail that is on moves one code towards its target; a ramp from OFF rises by
RAMP_RATE until it reaches SAFE_CODE, where it ends; the V_ref of a rail that is OFF stays. The model's own choices on which it
rests are those of assumptions 6 and 9. -/
def Obligations.VrefMovesOneCode : Prop :=
  (∀ (s : State) (rail : Nat), rail ∈ s.rails → s.railOn rail = true → s.bit R.PD_RAIL_STAT_RAMPING rail = false →
    Completes .vrefStep s fun t =>
      t.rd R.PD_RAIL_VREF_VREF rail
          = (if s.rd R.PD_RAIL_VREF_VREF rail < s.rd R.PD_RAIL_VREF_TARGET rail then s.rd R.PD_RAIL_VREF_VREF rail + 1
             else if s.rd R.PD_RAIL_VREF_TARGET rail < s.rd R.PD_RAIL_VREF_VREF rail then s.rd R.PD_RAIL_VREF_VREF rail - 1
             else s.rd R.PD_RAIL_VREF_VREF rail)
        ∧ OnlyKinds [R.PD_RAIL_VREF_VREF, R.PD_RAIL_STAT_RAMPING, H.PD_RAMP_V, H.PD_SKIP_END] s t ∧ OnlyRegs s t)
  ∧ (∀ (s : State) (rail : Nat), rail ∈ s.rails → s.railOn rail = true → s.bit R.PD_RAIL_STAT_RAMPING rail = true →
    1800000 + 10000 * s.rd R.PD_SETPOINT_CODE (32 * rail) ≤ s.rd H.PD_RAMP_V rail + s.rd H.PD_RAMP_RATE rail →
    Completes .vrefStep s fun t =>
      t.rd R.PD_RAIL_VREF_VREF rail = s.rd R.PD_SETPOINT_CODE (32 * rail) ∧ t.bit R.PD_RAIL_STAT_RAMPING rail = false
        ∧ OnlyKinds [R.PD_RAIL_VREF_VREF, R.PD_RAIL_STAT_RAMPING, H.PD_RAMP_V, H.PD_SKIP_END] s t ∧ OnlyRegs s t)
  ∧ (∀ (s : State), Completes .vrefStep s fun t => ∀ rail, s.railOn rail = false →
      t.rd R.PD_RAIL_VREF_VREF rail = s.rd R.PD_RAIL_VREF_VREF rail)
  ∧ (∀ (s : State) (rail : Nat), rail ∈ s.rails → s.railOn rail = true → s.bit R.PD_RAIL_STAT_RAMPING rail = true →
    s.rd H.PD_RAMP_V rail + s.rd H.PD_RAMP_RATE rail < 1800000 + 10000 * s.rd R.PD_SETPOINT_CODE (32 * rail) →
    Completes .vrefStep s fun t =>
      t.rd H.PD_RAMP_V rail = s.rd H.PD_RAMP_V rail + s.rd H.PD_RAMP_RATE rail ∧ t.bit R.PD_RAIL_STAT_RAMPING rail = true
        ∧ t.rd R.PD_RAIL_VREF_TARGET rail = s.rd R.PD_RAIL_VREF_TARGET rail)

/-- R239, R240, R244, R246, R249, R253–R255, R621: a phase that fails to conduct, or trips in 16 periods running, is fenced with
its cause, also where its rail was switched off in the same period; one whose samples are invalid, or whose share stands at its
clamp, is derated; a rail 32 conversions above the SG-2 limit goes OFF, latched; each raises its source, and repeated trips and the
shutdown are recorded. A trip of the short-circuit comparator drives the phase low and counts, once a period towards the 16. Short
of these counts, and for a comparator that a derate has disabled, nothing happens. The model's own choices on which it rests are
those of assumptions 6 and 22. -/
def Obligations.PhasesAreFencedDeratedAndShutDown : Prop :=
  (∀ (s : State) (phase : Nat), s.allocated phase = true → s.pulsing phase = true →
    srcPresent s.zk4 (0x100 + phase) = true → s.judgeN (s.rd R.PD_PH_STAT_RAIL phase) ≤ s.rd H.PD_DEVC phase →
    Completes (.phaseFenceVerdict phase) s fun t =>
      t.ph phase = 5 ∧ t.rd R.PD_PH_STAT_CAUSE phase = 1 ∧ t.rd R.PD_PH_DUTY_DUTY phase = 0 ∧ Raised (0x100 + phase) 1 s t
        ∧ OnlyFault s t)
  ∧ (∀ (s : State) (phase : Nat), s.allocated phase = true → s.pulsing phase = true →
    srcPresent s.zk4 (0x100 + phase) = true → 16 ≤ s.rd H.PD_SCRUN phase →
    Completes (.scRepeatFence phase) s fun t =>
      t.ph phase = 5 ∧ t.rd R.PD_PH_STAT_CAUSE phase = 2 ∧ Raised (0x100 + phase) 1 s t ∧ OnlyFault s t)
  ∧ (∀ (s : State) (phase : Nat), s.allocated phase = true → s.ph phase = 1 → s.bit R.PD_PH_STAT_DERATED phase = false →
    srcPresent s.zk4 (0x100 + phase) = true → s.rd H.PD_DEVC phase < s.judgeN (s.rd R.PD_PH_STAT_RAIL phase) →
    (s.judgeN (s.rd R.PD_PH_STAT_RAIL phase) ≤ s.rd H.PD_INVC phase
      ∨ s.judgeN (s.rd R.PD_PH_STAT_RAIL phase) ≤ s.rd H.PD_CLAMPC phase) →
    Completes (.phaseDerate phase) s fun t =>
      t.bit R.PD_PH_STAT_DERATED phase = true ∧ t.rd R.PD_PH_DUTY_SHARE phase = 0 ∧ t.ph phase = 1
        ∧ Raised (0x100 + phase) 1 s t ∧ OnlyFault s t)
  ∧ (∀ (s : State) (rail : Nat), srcPresent s.zk4 (0x180 + rail) = true → rail < 14 → 32 ≤ s.rd H.PD_SG2 rail →
    s.railOn rail = true →
    Completes (.sg2Shutdown rail) s fun t =>
      t.bit R.PD_RAIL_STAT_OFF_LATCH rail = true ∧ (∀ p ∈ s.phasesOf rail, t.ph p = 0 ∨ t.ph p = 5 ∨ t.ph p = 7)
        ∧ t.railOn rail = false ∧ Raised (0x180 + rail) 2 s t ∧ OnlyFault s t)
  ∧ (∀ (s : State) (phase : Nat), s.scArmed phase = true → s.bit H.PD_SC_THIS phase = false →
    Completes (.shortCircuitTrip phase) s fun t =>
      t.rd H.PD_SC_CNT phase = min 255 (s.rd H.PD_SC_CNT phase + 1)
        ∧ t.rd R.PD_PH_CTRL_SC_TOTAL phase = satAdd R.PD_PH_CTRL_SC_TOTAL.wid (s.rd R.PD_PH_CTRL_SC_TOTAL phase) 1
        ∧ t.bit H.PD_SC_THIS phase = true ∧ t.rd H.PD_SCRUN phase = min 31 (s.rd H.PD_SCRUN phase + 1)
        ∧ t.out = (if s.bit R.PD_STATUS_DRIVING 0 then .pwm phase .low 0 0 :: s.out else s.out)
        ∧ OnlyKinds [H.PD_SC_CNT, R.PD_PH_CTRL_SC_TOTAL, H.PD_SC_THIS, H.PD_SCRUN] s t ∧ OnlyRegsOut s t)
  ∧ (∀ (s : State) (phase : Nat), s.scArmed phase = true → s.bit H.PD_SC_THIS phase = true →
    Completes (.shortCircuitTrip phase) s fun t =>
      t.rd H.PD_SC_CNT phase = min 255 (s.rd H.PD_SC_CNT phase + 1)
        ∧ t.rd R.PD_PH_CTRL_SC_TOTAL phase = satAdd R.PD_PH_CTRL_SC_TOTAL.wid (s.rd R.PD_PH_CTRL_SC_TOTAL phase) 1
        ∧ t.out = (if s.bit R.PD_STATUS_DRIVING 0 then .pwm phase .low 0 0 :: s.out else s.out)
        ∧ OnlyKinds [H.PD_SC_CNT, R.PD_PH_CTRL_SC_TOTAL] s t ∧ OnlyRegsOut s t)
  ∧ (∀ (s : State) (phase : Nat), s.scArmed phase = false → exec (.shortCircuitTrip phase) s = .next s)
  ∧ (∀ (s : State) (phase : Nat), s.allocated phase = true → s.pulsing phase = false → s.rd H.PD_OFF_DUE phase % 2 = 1 →
    srcPresent s.zk4 (0x100 + phase) = true →
    Completes (.phaseFenceVerdict phase) s fun t =>
      t.ph phase = 5 ∧ t.rd R.PD_PH_STAT_CAUSE phase = 1 ∧ Raised (0x100 + phase) 1 s t ∧ OnlyFault s t)
  ∧ (∀ (s : State) (phase : Nat), s.rd H.PD_OFF_DUE phase % 2 = 0 →
    s.pulsing phase = false ∨ s.rd H.PD_DEVC phase < s.judgeN (s.rd R.PD_PH_STAT_RAIL phase) →
    exec (.phaseFenceVerdict phase) s = .next s)
  ∧ (∀ (s : State) (phase : Nat), s.rd H.PD_OFF_DUE phase < 2 → s.pulsing phase = false ∨ s.rd H.PD_SCRUN phase < 16 →
    exec (.scRepeatFence phase) s = .next s)
  ∧ (∀ (s : State) (phase : Nat), s.pulsing phase = false ∨ s.bit R.PD_PH_STAT_DERATED phase = true
      ∨ s.judgeN (s.rd R.PD_PH_STAT_RAIL phase) ≤ s.rd H.PD_DEVC phase
      ∨ (s.rd H.PD_INVC phase < s.judgeN (s.rd R.PD_PH_STAT_RAIL phase)
        ∧ s.rd H.PD_CLAMPC phase < s.judgeN (s.rd R.PD_PH_STAT_RAIL phase)) →
    exec (.phaseDerate phase) s = .next s)
  ∧ (∀ (s : State) (rail : Nat), s.rd H.PD_SG2 rail < 32 ∨ s.railOn rail = false → exec (.sg2Shutdown rail) s = .next s)
  ∧ (∀ (s : State) (phase : Nat), s.allocated phase = true → s.pulsing phase = true → 16 ≤ s.rd H.PD_SCRUN phase →
    s.bit R.TALLY_STAT_RESTORED 0 = true → s.tallyQueue.length < 14 →
    Completes (.scRepeatFence phase) s fun t =>
      t.tallyQueue[s.tallyQueue.length]? = some ⟨2, 3, 1, [phase, s.rd R.PD_PH_CTRL_SC_TOTAL phase], false⟩)
  ∧ (∀ (s : State) (rail : Nat), 32 ≤ s.rd H.PD_SG2 rail → s.railOn rail = true →
    s.bit R.TALLY_STAT_RESTORED 0 = true → s.tallyQueue.length < 14 →
    Completes (.sg2Shutdown rail) s fun t =>
      t.tallyQueue[s.tallyQueue.length]? = some ⟨0, 3, 1, [rail,
        65536 * s.rd R.PD_RAIL_VREF_VREF rail + min 65535 (openDiv (s.rd H.PD_VSENSE rail * 125) 512)], false⟩)

/-- R228–R230, R239–R242, R245, R246, R248, R442: at the start of its switching period a phase sends one pwm command while the
instance drives, and a pulse of an ACTIVE phase is at least 128 counts high and leaves 256 counts low; a phase that truncation holds
is low, one OFF or FENCED is at mid, one in FALLOW too, but low for 256 counts in every sixteenth period; a FENCED phase under test
pulses 128 counts. A period without a trip ends the run of trips, a phase picked to shed begins to shed, each step takes a quarter
of its duty at entry, one that has stepped down leaves for FALLOW, one whose shed is ended is ACTIVE again, one ADDING for eight
periods is ACTIVE, and skipping that is to end ends; a phase that is not allocated does nothing. The shed decision picks the
highest-numbered ACTIVE phase; pulse skipping engages after SKIP_FRAMES; where their conditions do not hold they do nothing. The
model's own choices on which it rests are those of assumptions 6 and 8. -/
def Obligations.PeriodsShedsAndSkips : Prop :=
  (∀ (s : State) (phase : Nat), s.allocated phase = true → s.bit R.PD_STATUS_DRIVING 0 = true →
    Completes (.switchingPeriodStart phase) s fun t =>
      (∃ l a b, t.out = .pwm phase l a b :: s.out) ∧ t.bit H.PD_SC_THIS phase = false
        ∧ (s.bit H.PD_SC_THIS phase = false → t.rd H.PD_SCRUN phase = 0) ∧ OnlyRegsOut s t)
  ∧ (∀ (s : State) (phase : Nat), s.allocated phase = true → s.ph phase = 1 →
    s.rd H.PD_SHED_PEND (s.rd R.PD_PH_STAT_RAIL phase) = phase + 1 → s.rd R.PD_PH_STAT_RAIL phase < 14 →
    Completes (.switchingPeriodStart phase) s fun t =>
      t.ph phase = 2 ∧ t.rd H.PD_SHED_PEND (s.rd R.PD_PH_STAT_RAIL phase) = 0)
  ∧ (∀ (s : State) (phase : Nat), s.allocated phase = true → s.ph phase = 2 → s.bit H.PD_RET_ACT phase = false →
    4 ≤ s.rd H.PD_SHED_STEP phase → Completes (.switchingPeriodStart phase) s fun t => t.ph phase = 3)
  ∧ (∀ (s : State) (phase : Nat), s.allocated phase = true → s.ph phase = 2 → s.bit H.PD_RET_ACT phase = true →
    Completes (.switchingPeriodStart phase) s fun t => t.ph phase = 1)
  ∧ (∀ (s : State) (phase : Nat), s.allocated phase = true → s.ph phase = 4 → 8 ≤ s.rd H.PD_ADD_PER phase →
    Completes (.switchingPeriodStart phase) s fun t => t.ph phase = 1)
  ∧ (∀ (s : State) (rail phase : Nat), rail < 14 → (s.inState rail 1).getLast? = some phase → s.mayShed rail = true →
    Completes (.shedDecision rail) s fun t =>
      t.rd H.PD_SHED_PEND rail = phase + 1 ∧ t.rd H.PD_DWELL_CNT rail = 0
        ∧ OnlyKinds [H.PD_SHED_PEND, H.PD_DWELL_CNT] s t ∧ OnlyRegs s t)
  ∧ (∀ (s : State) (rail : Nat), rail < 14 → s.rd R.PD_RAIL_SKIP_SKIP_FRAMES rail ≠ 0 →
    s.rd R.PD_RAIL_SKIP_SKIP_FRAMES rail ≤ s.rd H.PD_SKIP_CNT rail → s.nPulse rail = s.rd R.PD_RAIL_CFG_MIN_ACTIVE rail →
    0 < s.nPulse rail → s.rd R.PD_RAIL_VREF_VREF rail ≤ s.rd R.PD_RAIL_VREF_TARGET rail →
    Completes (.pulseSkipEngage rail) s fun t =>
      t.bit R.PD_RAIL_STAT_SKIPPING rail = true ∧ t.bit H.PD_SKIP_END rail = false
        ∧ OnlyKinds [R.PD_RAIL_STAT_SKIPPING, H.PD_SKIP_END] s t ∧ OnlyRegs s t)
  ∧ (∀ (s : State) (phase : Nat), s.allocated phase = false → exec (.switchingPeriodStart phase) s = .next s)
  ∧ (∀ (s : State) (phase : Nat), s.allocated phase = true → s.ph phase = 0 ∨ (s.ph phase = 5 ∧ s.rd H.PD_TEST_PULSE phase = 0) →
    Completes (.switchingPeriodStart phase) s fun t =>
      t.ph phase = s.ph phase ∧ t.out = (if s.bit R.PD_STATUS_DRIVING 0 then .pwm phase .mid 0 0 :: s.out else s.out))
  ∧ (∀ (s : State) (phase : Nat), s.allocated phase = true → s.ph phase = 3 →
    Completes (.switchingPeriodStart phase) s fun t =>
      t.ph phase = 3 ∧ t.rd H.PD_FALLOW_PER phase = (s.rd H.PD_FALLOW_PER phase + 1) % 16
        ∧ (s.bit R.PD_STATUS_DRIVING 0 = true → t.out
          = (if s.rd H.PD_FALLOW_PER phase = 15 then .pwm phase .low 0 256 :: s.out else .pwm phase .mid 0 0 :: s.out)))
  ∧ (∀ (s : State) (phase : Nat), s.allocated phase = true → s.ph phase = 5 → 0 < s.rd H.PD_TEST_PULSE phase →
    s.bit R.PD_RAIL_STAT_TRUNCATING (s.rd R.PD_PH_STAT_RAIL phase) = false →
    Completes (.switchingPeriodStart phase) s fun t =>
      t.ph phase = 5 ∧ t.rd H.PD_TEST_PULSE phase = s.rd H.PD_TEST_PULSE phase - 1
        ∧ t.out = (if s.bit R.PD_STATUS_DRIVING 0 then .pwm phase .high 0 128 :: s.out else s.out))
  ∧ (∀ (s : State) (phase : Nat), s.allocated phase = true → s.ph phase = 1 → s.bit R.PD_STATUS_DRIVING 0 = true →
    Completes (.switchingPeriodStart phase) s fun t =>
      ∃ l a b, t.out = .pwm phase l a b :: s.out
        ∧ (l = .high → 128 ≤ b ∧ b + 256 ≤ s.periodP (s.rd R.PD_PH_STAT_RAIL phase))
        ∧ (s.bit R.PD_RAIL_STAT_TRUNCATING (s.rd R.PD_PH_STAT_RAIL phase) = true → l = .low))
  ∧ (∀ (s : State) (phase : Nat), s.allocated phase = true → s.ph phase = 2 → s.bit H.PD_RET_ACT phase = false →
    s.rd H.PD_SHED_STEP phase < 4 →
    Completes (.switchingPeriodStart phase) s fun t =>
      t.ph phase = 2 ∧ t.rd H.PD_SHED_STEP phase = s.rd H.PD_SHED_STEP phase + 1
        ∧ t.rd R.PD_PH_DUTY_SHARE phase
          = ofS R.PD_PH_DUTY_SHARE.wid (s.rdS R.PD_PH_DUTY_SHARE phase - s.rdS H.PD_SHED_DELTA phase))
  ∧ (∀ (s : State) (phase : Nat), s.allocated phase = true → s.rd R.PD_PH_STAT_RAIL phase < 14 →
    s.bit H.PD_SKIP_END (s.rd R.PD_PH_STAT_RAIL phase) = true →
    Completes (.switchingPeriodStart phase) s fun t =>
      t.bit R.PD_RAIL_STAT_SKIPPING (s.rd R.PD_PH_STAT_RAIL phase) = false
        ∧ t.bit H.PD_SKIP_END (s.rd R.PD_PH_STAT_RAIL phase) = false)
  ∧ (∀ (s : State) (rail : Nat), s.mayShed rail = false ∨ s.inState rail 1 = [] → exec (.shedDecision rail) s = .next s)
  ∧ (∀ (s : State) (rail : Nat), s.rd R.PD_RAIL_SKIP_SKIP_FRAMES rail = 0
      ∨ s.rd H.PD_SKIP_CNT rail < s.rd R.PD_RAIL_SKIP_SKIP_FRAMES rail
      ∨ s.nPulse rail ≠ s.rd R.PD_RAIL_CFG_MIN_ACTIVE rail ∨ s.nPulse rail = 0
      ∨ s.rd R.PD_RAIL_VREF_TARGET rail < s.rd R.PD_RAIL_VREF_VREF rail →
    exec (.pulseSkipEngage rail) s = .next s)

/-- R10, R62, R67, R73, R159, R193, R208, R213, R405, R446: the loop window, with the frame's input set settled, counts the slots it
places, gives each placed slot a result for the next boundary, keeps the output of a slot in HOLD, and moves no output in force; a
frame still waiting for the holder's set is formed on the own set, and counted as not compared; with no map running nothing runs.
Outputs are staged and sent to the peer at LE cycle 482, or staged alone in a frame marked UNCOMPARED. A plausibility trip holds
the slot and raises its source; with no trip nothing happens. A write of ZK_LE_SLOT_CAP sets its fields, and with ARM 1 starts the
capture. The model's own choices on which it rests are those of assumptions 6, 8, 9 and 59. -/
def Obligations.LoopWindowStagesOutputs : Prop :=
  (∀ (s : State), s.running = true → s.bit H.TWIN_FORM_DUE 0 = false →
    Completes .loopWindow s fun t =>
      t.rd H.LE_RUN_DUE 0 = (placeAll s.dueSlots).1.length % 512
        ∧ (∀ x ∈ (placeAll s.dueSlots).1, x.1 < 256 → t.bit H.LE_NEXT_VALID x.1 = true)
        ∧ (∀ x ∈ (placeAll s.dueSlots).1, x.1 < 256 → s.mode x.1 = 3 →
            t.rd H.LE_NEXT_OUT x.1 = s.rd R.LE_SLOT_OUT_OUT x.1)
        ∧ (∀ l, t.rd R.LE_SLOT_OUT_OUT l = s.rd R.LE_SLOT_OUT_OUT l)
        ∧ t.map = s.map)
  ∧ (∀ (s : State), s.running = true → s.bit R.FLT_INJ_ARM 0 = false → s.bit H.TWIN_UNC 0 = false →
    Completes .outputStage s fun t =>
      t.bit H.LE_OUT_STAGED 0 = true ∧ .twinOutput s.outputPkt ∈ t.out
        ∧ (∀ l, t.rd R.LE_SLOT_OUT_OUT l = s.rd R.LE_SLOT_OUT_OUT l)
        ∧ (s.rd R.TWIN_STATUS_PEER_ROLE 0 ≠ 1 →
            t.out = .twinOutput s.outputPkt :: s.out ∧ OnlyKinds [H.LE_OUT_STAGED, H.TWIN_COPY_N] s t ∧ OnlyRegsOut s t)
        ∧ t.map = s.map)
  ∧ (∀ (s : State) (slot : Nat), slot < 256 → s.bit H.LE_PL_TRIP slot = true →
    Completes (.plausFault slot) s fun t =>
      t.bit R.LE_SLOT_FLAGS_PLAUS slot = true ∧ t.bit R.LE_SLOT_MODE_PLAUS_HOLD slot = true
        ∧ t.bit H.LE_PL_TRIP slot = false ∧ Raised slot 1 s t
        ∧ OnlyKinds (faultFields ++ [H.LE_PL_TRIP, R.LE_SLOT_FLAGS_PLAUS, R.LE_SLOT_MODE_PLAUS_HOLD]) s t ∧ OnlyFault s t)
  ∧ (∀ (s : State) (w : WCtx) (slot v : Nat), Writable s w R.LE_SLOT_CAP_ARM slot →
    Completes (.captureArm w slot v) s fun t =>
      t.rd R.LE_SLOT_CAP_ARM slot = v % 2 ∧ t.rd R.LE_SLOT_CAP_PRE slot = v / 2 ^ 12 % 2 ^ 12
        ∧ t.rd R.LE_SLOT_CAP_TRIG slot = v / 2 ^ 8 % 4 ∧ t.rd R.LE_SLOT_CAP_STAGE slot = v / 2 ^ 3 % 2 ^ 5
        ∧ t.rd R.LE_SLOT_CAP_SRC slot = v / 2 % 4
        ∧ (v % 2 = 1 → t.rd R.LE_SLOT_CAP_STAT_WPTR slot = 0 ∧ t.bit R.LE_SLOT_CAP_STAT_FULL slot = false
            ∧ t.bit R.LE_SLOT_CAP_STAT_TRIGGERED slot = false ∧ t.bit R.LE_SLOT_CAP_STAT_DONE slot = false)
        ∧ (v % 2 = 0 → OnlyKinds [R.LE_SLOT_CAP_ARM, R.LE_SLOT_CAP_PRE, R.LE_SLOT_CAP_TRIG, R.LE_SLOT_CAP_STAGE,
            R.LE_SLOT_CAP_SRC] s t)
        ∧ t.resp = .ok
        ∧ OnlyKinds [R.LE_SLOT_CAP_ARM, R.LE_SLOT_CAP_PRE, R.LE_SLOT_CAP_TRIG, R.LE_SLOT_CAP_STAGE, R.LE_SLOT_CAP_SRC,
            R.LE_SLOT_CAP_STAT_WPTR, R.LE_SLOT_CAP_STAT_FULL, R.LE_SLOT_CAP_STAT_TRIGGERED, R.LE_SLOT_CAP_STAT_TRIG_IDX,
            R.LE_SLOT_CAP_STAT_DONE] s t ∧ OnlyRegsOut s t)
  ∧ (∀ (s : State), s.running = false → s.bit H.TWIN_FORM_DUE 0 = false → exec .loopWindow s = .next s)
  ∧ (∀ (s : State), s.bit H.TWIN_FORM_DUE 0 = true → s.role = 2 ∨ s.role = 3 →
    Completes .loopWindow s fun t =>
      t.bit H.TWIN_FORM_DUE 0 = false ∧ t.bit H.TWIN_UNC 0 = true ∧ t.rd R.TWIN_SYNC_CLEAN 0 = 0
        ∧ t.rd R.TWIN_LINK_UNCOMPARED 0 = satAdd R.TWIN_LINK_UNCOMPARED.wid (s.rd R.TWIN_LINK_UNCOMPARED 0) 1)
  ∧ (∀ (s : State), s.running = true → s.bit R.FLT_INJ_ARM 0 = false → s.bit H.TWIN_UNC 0 = true →
    s.rd R.TWIN_STATUS_PEER_ROLE 0 ≠ 1 →
    exec .outputStage s = .next ((s.wr H.LE_OUT_STAGED 0 1).wr H.TWIN_COPY_N 0 0))
  ∧ (∀ (s : State), s.running = false → s.rd R.TWIN_STATUS_PEER_ROLE 0 ≠ 1 →
    exec .outputStage s = .next (s.wr H.TWIN_COPY_N 0 0))
  ∧ (∀ (s : State) (slot : Nat), 256 ≤ slot ∨ s.bit H.LE_PL_TRIP slot = false → exec (.plausFault slot) s = .next s)

/-- R41, R143, R285–R290, R399: an intent that is well formed, newer and mapped becomes its dispatcher's last accepted; with START 1
to 64 frames ahead of the coming boundary it enters its fold's schedule with the absolute start frame that its 8 bits name, later
than that it is FAR, and with work begun it enters as LATE unless the work has ended; a full schedule drops it. One that is
malformed, unmapped or stale is counted as such and enters nothing; while EN = 0 nothing is counted, and beyond 256 in a frame
they are dropped. A CANCEL is judged in the same way, and marks the fold's entries of its tag. The model's own choices on which it
rests are those of assumption 6. -/
def Obligations.IntentsEnterTheSchedule : Prop :=
  (∀ (s : State) (d o : Nat) (m : IntentMsg), d < 32 → s.runEn = true → s.latchFull = false →
    intentBad s.zk4 d m = false → s.rd R.BW_NETMAP_NET d ≠ 0xFF →
    (s.bit H.BW_SEEN d = true → newer 8 (s.rd R.BW_FOLD_STAT_LAST_SEQ d) m.seq = true) → 1 ≤ o → o ≤ 64 → m.start < 256 →
    m.start = (s.frame + 1 + o) % 256 → (s.schedAt d (s.frame + 1)).length < 32 →
    Completes (.intent d m) s fun t =>
      t.sched = s.sched ++ [⟨d, ((s.frame + 1 + o : Nat) : Int), m.tileKind, m.format, m.opclass, m.tiles, m.duration, m.tag,
          s.frame + 1, false⟩]
        ∧ t.rd R.BW_FOLD_STAT_LAST_SEQ d = m.seq % 256 ∧ t.bit H.BW_SEEN d = true
        ∧ OnlyKinds [R.BW_FOLD_STAT_LAST_SEQ, H.BW_SEEN, H.BW_ARRIVED, H.BW_CRC, R.BW_FOLD_CNT0_GAP, R.BW_FOLD_CNT1_DUP_TAG] s t
        ∧ t = { s with regs := t.regs, sched := t.sched })
  ∧ (∀ (s : State) (d : Nat) (m : IntentMsg), d < 32 → s.runEn = true → s.latchFull = false → intentBad s.zk4 d m = true →
    exec (.intent d m) s
      = .next (((s.digest (intentBytes m)).wr H.BW_ARRIVED 0 (s.rd H.BW_ARRIVED 0 + 1)).inc R.BW_FOLD_CNT0_BAD d 1))
  ∧ (∀ (s : State) (d : Nat) (m : IntentMsg), d < 32 → s.runEn = true → s.latchFull = false → intentBad s.zk4 d m = false →
    s.rd R.BW_NETMAP_NET d ≠ 0xFF → s.bit H.BW_SEEN d = true →
    newer 8 (s.rd R.BW_FOLD_STAT_LAST_SEQ d) m.seq = false →
    exec (.intent d m) s
      = .next (((s.digest (intentBytes m)).wr H.BW_ARRIVED 0 (s.rd H.BW_ARRIVED 0 + 1)).inc R.BW_FOLD_CNT0_STALE d 1))
  ∧ (∀ (s : State) (d tag seq : Nat), d < computeFolds s.zk4 → s.runEn = true → s.latchFull = false → s.rd R.BW_NETMAP_NET d ≠ 0xFF →
    (s.bit H.BW_SEEN d = true → newer 8 (s.rd R.BW_FOLD_STAT_LAST_SEQ d) seq = true) →
    Completes (.cancel d d tag ⟨seq, 0⟩) s fun t =>
      (∀ e ∈ t.sched, e.fold = d → e.tag = tag → e.cancelled = true) ∧ t.sched.length = s.sched.length
        ∧ t.sched.filter (fun e => !(e.fold == d && e.tag == tag)) = s.sched.filter (fun e => !(e.fold == d && e.tag == tag))
        ∧ t.rd R.BW_FOLD_STAT_LAST_SEQ d = seq % 256
        ∧ OnlyKinds [R.BW_FOLD_STAT_LAST_SEQ, H.BW_SEEN, H.BW_ARRIVED, H.BW_CRC, R.BW_FOLD_CNT0_GAP] s t
        ∧ t = { s with regs := t.regs, sched := t.sched })
  ∧ (∀ (s : State) (d : Nat) (m : IntentMsg), s.runEn = false ∨ 32 ≤ d → exec (.intent d m) s = .next s)
  ∧ (∀ (s : State) (d : Nat) (m : IntentMsg), d < 32 → s.runEn = true → s.latchFull = true →
    exec (.intent d m) s = .next (s.inc R.BW_FOLD_CNT1_DROP d 1))
  ∧ (∀ (s : State) (d : Nat) (m : IntentMsg), d < 32 → s.runEn = true → s.latchFull = false → intentBad s.zk4 d m = false →
    s.rd R.BW_NETMAP_NET d = 0xFF →
    exec (.intent d m) s
      = .next (((s.digest (intentBytes m)).wr H.BW_ARRIVED 0 (s.rd H.BW_ARRIVED 0 + 1)).inc R.BW_FOLD_CNT1_NOMAP d 1))
  ∧ (∀ (s : State) (d o : Nat) (m : IntentMsg), d < 32 → s.runEn = true → s.latchFull = false →
    intentBad s.zk4 d m = false → s.rd R.BW_NETMAP_NET d ≠ 0xFF →
    (s.bit H.BW_SEEN d = true → newer 8 (s.rd R.BW_FOLD_STAT_LAST_SEQ d) m.seq = true) → 65 ≤ o → o ≤ 127 → m.start < 256 →
    m.start = (s.frame + 1 + o) % 256 →
    Completes (.intent d m) s fun t =>
      t.rd R.BW_FOLD_CNT1_FAR d = satAdd R.BW_FOLD_CNT1_FAR.wid (s.rd R.BW_FOLD_CNT1_FAR d) 1
        ∧ t.rd R.BW_FOLD_STAT_LAST_SEQ d = m.seq % 256
        ∧ OnlyKinds [R.BW_FOLD_STAT_LAST_SEQ, H.BW_SEEN, H.BW_ARRIVED, H.BW_CRC, R.BW_FOLD_CNT0_GAP, R.BW_FOLD_CNT1_FAR] s t
        ∧ OnlyRegs s t)
  ∧ (∀ (s : State) (d b : Nat) (m : IntentMsg), d < 32 → s.runEn = true → s.latchFull = false →
    intentBad s.zk4 d m = false → s.rd R.BW_NETMAP_NET d ≠ 0xFF →
    (s.bit H.BW_SEEN d = true → newer 8 (s.rd R.BW_FOLD_STAT_LAST_SEQ d) m.seq = true) → b ≤ 128 → m.start < 256 →
    m.start = (s.frame + 1 + 256 - b) % 256 → m.duration = 255 ∨ b < m.duration → (s.schedAt d (s.frame + 1)).length < 32 →
    Completes (.intent d m) s fun t =>
      t.sched = s.sched ++ [⟨d, ((s.frame + 1 : Nat) : Int) - (b : Int), m.tileKind, m.format, m.opclass, m.tiles, m.duration,
          m.tag, s.frame + 1, false⟩]
        ∧ t.rd R.BW_FOLD_CNT0_LATE d = satAdd R.BW_FOLD_CNT0_LATE.wid (s.rd R.BW_FOLD_CNT0_LATE d) 1
        ∧ t.rd R.BW_FOLD_STAT_LAST_SEQ d = m.seq % 256)
  ∧ (∀ (s : State) (d b : Nat) (m : IntentMsg), d < 32 → s.runEn = true → s.latchFull = false →
    intentBad s.zk4 d m = false → s.rd R.BW_NETMAP_NET d ≠ 0xFF →
    (s.bit H.BW_SEEN d = true → newer 8 (s.rd R.BW_FOLD_STAT_LAST_SEQ d) m.seq = true) → b ≤ 128 → m.start < 256 →
    m.start = (s.frame + 1 + 256 - b) % 256 → m.duration ≠ 255 → m.duration ≤ b →
    Completes (.intent d m) s fun t =>
      t.rd R.BW_FOLD_STAT_LAST_SEQ d = m.seq % 256
        ∧ OnlyKinds [R.BW_FOLD_STAT_LAST_SEQ, H.BW_SEEN, H.BW_ARRIVED, H.BW_CRC, R.BW_FOLD_CNT0_GAP] s t ∧ OnlyRegs s t)
  ∧ (∀ (s : State) (d o : Nat) (m : IntentMsg), d < 32 → s.runEn = true → s.latchFull = false →
    intentBad s.zk4 d m = false → s.rd R.BW_NETMAP_NET d ≠ 0xFF →
    (s.bit H.BW_SEEN d = true → newer 8 (s.rd R.BW_FOLD_STAT_LAST_SEQ d) m.seq = true) → 1 ≤ o → o ≤ 64 → m.start < 256 →
    m.start = (s.frame + 1 + o) % 256 → 32 ≤ (s.schedAt d (s.frame + 1)).length →
    Completes (.intent d m) s fun t =>
      t.rd R.BW_FOLD_CNT1_DROP d = satAdd R.BW_FOLD_CNT1_DROP.wid (s.rd R.BW_FOLD_CNT1_DROP d) 1
        ∧ t.rd R.BW_FOLD_STAT_LAST_SEQ d = m.seq % 256 ∧ OnlyRegs s t)
  ∧ (∀ (s : State) (d fold tag seq rsv : Nat), s.runEn = false ∨ 32 ≤ d → exec (.cancel d fold tag ⟨seq, rsv⟩) s = .next s)
  ∧ (∀ (s : State) (d fold tag seq rsv : Nat), d < 32 → s.runEn = true → s.latchFull = true →
    exec (.cancel d fold tag ⟨seq, rsv⟩) s = .next (s.inc R.BW_FOLD_CNT1_DROP d 1))
  ∧ (∀ (s : State) (d fold tag seq rsv : Nat), d < 32 → s.runEn = true → s.latchFull = false →
    fold ≠ d ∨ computeFolds s.zk4 ≤ d ∨ rsv ≠ 0 →
    exec (.cancel d fold tag ⟨seq, rsv⟩) s
      = .next (((s.digest (cancelBytes fold tag seq rsv)).wr H.BW_ARRIVED 0 (s.rd H.BW_ARRIVED 0 + 1)).inc R.BW_FOLD_CNT0_BAD d 1))
  ∧ (∀ (s : State) (d tag seq : Nat), d < computeFolds s.zk4 → s.runEn = true → s.latchFull = false → s.rd R.BW_NETMAP_NET d = 0xFF →
    exec (.cancel d d tag ⟨seq, 0⟩) s
      = .next (((s.digest (cancelBytes d tag seq 0)).wr H.BW_ARRIVED 0 (s.rd H.BW_ARRIVED 0 + 1)).inc R.BW_FOLD_CNT1_NOMAP d 1))
  ∧ (∀ (s : State) (d tag seq : Nat), d < computeFolds s.zk4 → s.runEn = true → s.latchFull = false → s.rd R.BW_NETMAP_NET d ≠ 0xFF →
    s.bit H.BW_SEEN d = true → newer 8 (s.rd R.BW_FOLD_STAT_LAST_SEQ d) seq = false →
    exec (.cancel d d tag ⟨seq, 0⟩) s
      = .next (((s.digest (cancelBytes d tag seq 0)).wr H.BW_ARRIVED 0 (s.rd H.BW_ARRIVED 0 + 1)).inc R.BW_FOLD_CNT0_STALE d 1))

/-- R243, R293, R294, R296–R299, R310, R312, R313, R405: a frame's evaluation is done once, with its input set settled, and leaves
each declared fold of a valid network with a valid forecast, and a fold of a network in whose weights an uncorrectable error is met
without one; the forecast is the eight outputs of its network, where no rail has a miss; with no
map running nothing is evaluated. An uncorrectable weight error makes the network invalid, sets WEIGHT_ERR and raises the
network's source CONTAINED, a corrected one raises it CORRECTED. The early-add check asks for the phases that the forecast needs
beyond those that pulse, ends a shed, and the lowest FALLOW phases enter ADDING; where no rail needs more, or with no map running,
it does nothing. ZK_BW_CLEAR zeroes MISSES and the intent counters. The model's own choices on which it rests are those of
assumptions 6 and 22. -/
def Obligations.BellwetherForecastsAndAdds : Prop :=
  (∀ (s : State) (fold : Nat), s.running = true → s.bit R.FLT_INJ_ARM 0 = false → s.bit H.BW_DONE 0 = false →
    s.bit H.TWIN_FORM_DUE 0 = false → fold ∈ s.folds → fold < 64 → (s.validNet fold).isSome = true →
    Completes (.bellwetherEval []) s fun t =>
      t.bit R.BW_FOLD_STAT_VALID fold = true ∧ t.bit H.BW_DONE 0 = true ∧ t.map = s.map ∧ SameStore s t)
  ∧ (∀ (s : State) (word k : Nat), s.running = true → s.bit R.FLT_INJ_ARM 0 = false → s.netOfWord word = some k → k < 4 →
    s.bit H.BW_DONE 0 = true → s.bit H.TWIN_FORM_DUE 0 = false →
    Completes (.bellwetherEval [⟨word, true⟩]) s fun t =>
      bitOf (t.rd R.BW_STATUS_NET_VALID 0) k = false ∧ t.bit R.BW_STATUS_WEIGHT_ERR 0 = true ∧ Raised (0x2E4 + k) 1 s t)
  ∧ (∀ (s : State) (rail h need : Nat), s.running = true → rail ∈ s.rails →
    (∀ r ∈ s.rails, r ≠ rail → ∀ p ∈ s.phasesOf r, p ∉ s.phasesOf rail) →
    h = min 8 (s.rd R.BW_RAIL_CTRL_EA_H rail) → 0 < h → s.rd R.PD_RAIL_SHED_ADD_CUR rail ≠ 0 →
    need = (((List.range h).map (fun k => s.rd H.BW_FRAIL (8 * rail + k))).foldl max 0 * 10
      + 8 * s.rd R.PD_RAIL_SHED_ADD_CUR rail - 1) / (8 * s.rd R.PD_RAIL_SHED_ADD_CUR rail) →
    s.nPulse rail < need → need - s.nPulse rail < 32 →
    Completes .earlyAddCheck s fun t =>
      t.rd R.BW_RAIL_STAT_EA_LAST rail = need - s.nPulse rail
        ∧ (∀ p ∈ (s.inState rail 3).take (need - s.nPulse rail), t.ph p = 4)
        ∧ (∀ p ∈ s.inState rail 2, t.bit H.PD_RET_ACT p = true) ∧ t.rd H.PD_SHED_PEND rail = 0
        ∧ OnlyKinds [R.BW_RAIL_STAT_EA_LAST, H.PD_RET_ACT, H.PD_SHED_PEND, H.PD_DWELL_CNT, H.PD_SKIP_END, R.PD_PH_STAT_STATE,
            R.PD_PH_DUTY_SHARE, R.PD_PH_DUTY_DUTY, H.PD_ADD_PER, H.PD_POS, H.PD_WID, R.PD_PH_STAT_RANK] s t
        ∧ t = { s with regs := t.regs, free := t.free })
  ∧ (∀ (s : State) (w : WCtx), Writable s w R.BW_CLEAR_RAILS 0 →
    Completes (.bwClearRails w) s fun t =>
      (∀ r < 14, t.rd R.BW_RAIL_STAT_MISSES r = 0) ∧ t.resp = .ok
        ∧ OnlyKinds [R.BW_RAIL_STAT_MISSES] s t ∧ OnlyRegsOut s t)
  ∧ (∀ (s : State) (w : WCtx), Writable s w R.BW_CLEAR_FOLDS 0 →
    Completes (.bwClearFolds w) s fun t =>
      (∀ c ∈ bwFoldCounters, ∀ f < 32, t.rd c f = 0)
        ∧ t.resp = .ok ∧ OnlyKinds bwFoldCounters s t ∧ OnlyRegsOut s t)
  ∧ (∀ (s : State) (fold k : Nat), s.running = true → s.bit R.FLT_INJ_ARM 0 = false → s.bit H.BW_DONE 0 = false →
    s.bit H.TWIN_FORM_DUE 0 = false → fold ∈ s.folds → fold < 64 → s.validNet fold = some k →
    (∀ r ∈ s.rails, s.missed r = false) →
    Completes (.bellwetherEval []) s fun t => ∀ h < 8, t.fcast fold (h + 1) = (s.network k fold).getD h 0)
  ∧ (∀ (s : State), s.running = true → s.bit R.FLT_INJ_ARM 0 = false → s.bit H.BW_DONE 0 = true →
    s.bit H.TWIN_FORM_DUE 0 = false → exec (.bellwetherEval []) s = .next s)
  ∧ (∀ (s : State) (errs : List WeightErr), s.running = false → s.bit H.TWIN_FORM_DUE 0 = false →
    exec (.bellwetherEval errs) s = .next s)
  ∧ (∀ (s : State) (word k : Nat), s.running = true → s.bit R.FLT_INJ_ARM 0 = false → s.netOfWord word = some k → k < 4 →
    s.bit H.BW_DONE 0 = true → s.bit H.TWIN_FORM_DUE 0 = false →
    Completes (.bellwetherEval [⟨word, false⟩]) s fun t =>
      Raised (0x2E4 + k) 0 s t ∧ OnlyKinds faultFields s t ∧ OnlyFault s t)
  ∧ (∀ (s : State), s.running = false → exec .earlyAddCheck s = .next s)
  ∧ (∀ (s : State), (∀ r ∈ s.rails, s.rd R.BW_RAIL_CTRL_EA_H r = 0 ∨ (s.rd R.PD_RAIL_SHED_ADD_CUR r ≠ 0
      ∧ ∀ k < 8, s.rd H.BW_FRAIL (8 * r + k) * 10 ≤ 8 * s.rd R.PD_RAIL_SHED_ADD_CUR r * s.nPulse r)) →
    exec .earlyAddCheck s = .next s)
  ∧ (∀ (s : State) (errs : List WeightErr) (fold k : Nat), s.running = true → s.bit R.FLT_INJ_ARM 0 = false →
    s.bit H.BW_DONE 0 = false → s.bit H.TWIN_FORM_DUE 0 = false → fold ∈ s.folds → fold < 64 → s.validNet fold = some k →
    (∀ e ∈ errs, e.double = true → s.netOfWord e.word ≠ some k) →
    Completes (.bellwetherEval errs) s fun t => t.bit R.BW_FOLD_STAT_VALID fold = true ∧ t.bit H.BW_DONE 0 = true)
  ∧ (∀ (s : State) (errs : List WeightErr) (e : WeightErr) (fold k : Nat), s.running = true → s.bit R.FLT_INJ_ARM 0 = false →
    s.bit H.BW_DONE 0 = false → s.bit H.TWIN_FORM_DUE 0 = false → fold ∈ s.folds → fold < 64 → s.validNet fold = some k → k < 4 →
    e ∈ errs → e.double = true → s.netOfWord e.word = some k →
    Completes (.bellwetherEval errs) s fun t => t.bit R.BW_FOLD_STAT_VALID fold = false ∧ t.bit H.BW_DONE 0 = true)

/-- R398–R401, R404, R413, R414, R416, R417, R422, R428, R446: a packet of the link that fails its CRC, of whatever kind, is
counted and does nothing else; STATUS brings the link up and shows the peer's role, map digest, readiness and version, and in
SHADOW or STANDBY another frame count brings JOINING, a DETACHED peer DETACHED; the mesh copy refreshes MESH_UP. BULK carries,
to an instance that follows, Store bytes, a Phase Driver snapshot and the epoch, to one that joins the slots, schedules, site
states and progress of the copy, and to either the peer's diodes, golden results and verdicts; an instance that neither joins
nor follows takes no copy. The model's own choices on which it rests are those of assumptions 6, 24 and 26. -/
def Obligations.TwinLinkPacketsAreTaken : Prop :=
  (∀ (s : State) (p : OutputPkt), p.crcOk = false →
    exec (.twinOutputPacket p) s = .next (s.inc R.TWIN_LINK_CRC_ERR 0 1))
  ∧ (∀ (s : State) (p : StatusPkt), p.crcOk = true →
    Completes (.twinStatusPacket p) s fun t =>
      t.bit R.TWIN_STATUS_LINK_UP 0 = true ∧ t.rd R.TWIN_STATUS_PEER_ROLE 0 = p.role % 8
        ∧ t.rd R.TWIN_DIGEST_PEER_MAP 0 = p.mapDigest % 2 ^ 32
        ∧ (p.ready = true → t.bit R.TWIN_STATUS_PEER_READY 0 = true)
        ∧ (p.role = 4 → t.bit R.TWIN_STATUS_GATE_PEER 0 = true)
        ∧ t.bit R.TWIN_STATUS_VERSION_SKEW 0 = (p.imageVer % 2 ^ 32 != s.rd R.FW_VERSION_VERSION 0)
        ∧ t.frame = s.frame
        ∧ OnlyKinds [H.TWIN_ST_AGE, R.TWIN_STATUS_LINK_UP, R.TWIN_STATUS_PEER_ROLE, R.TWIN_DIGEST_PEER_MAP,
            H.TWIN_PEER_VER, R.TWIN_STATUS_VERSION_SKEW, H.TWIN_LONG_GAP, H.TWIN_LD_RAISED, H.TWIN_PS_RAISED,
            H.TWIN_FR_EQ, H.TWIN_PROF_EQ, H.TWIN_RDY_AGE, R.TWIN_STATUS_PEER_READY, R.TWIN_STATUS_GATE_PEER,
            H.TWIN_NEXT_ROLE, H.TWIN_REJOIN, H.FLT_RESULT] s t ∧ OnlyRegs s t)
  ∧ (∀ (s : State) (a : Nat) (b : List Byte), s.role = 1 ∨ s.role = 2 ∨ s.role = 3 → s.copyRange a b.length = true →
    Completes (.twinBulkPacket ⟨true, .storeBytes a b⟩) s fun t =>
      t.store = memPutBytes s.store a b ∧ SameStoreBut a b.length s t ∧ OnlyKinds [H.STORE_ECC] s t
        ∧ t = { s with regs := t.regs, store := t.store })
  ∧ (∀ (s : State) (n : Nat), s.role = 1 → s.bit H.TWIN_COPY_SEEN 0 = true →
    exec (.twinBulkPacket ⟨true, .progress n⟩) s = .next (s.wr R.TWIN_SYNC_COPY_PCT 0 (min 100 n)))
  ∧ (∀ (s : State) (p : MeshStatus),
    Completes (.meshTwinStatus p) s fun t =>
      t.bit R.TWIN_STATUS_MESH_UP 0 = true ∧ t.rd H.TWIN_MESH_AGE 0 = 0
        ∧ OnlyKinds [H.TWIN_MESH_AGE, R.TWIN_STATUS_MESH_UP, H.TWIN_PS_RAISED] s t ∧ OnlyRegs s t)
  ∧ (∀ (s : State) (p : StatusPkt), p.crcOk = false →
    exec (.twinStatusPacket p) s = .next (s.inc R.TWIN_LINK_CRC_ERR 0 1))
  ∧ (∀ (s : State) (p : InputPkt), p.crcOk = false → exec (.twinInputPacket p) s = .next (s.inc R.TWIN_LINK_CRC_ERR 0 1))
  ∧ (∀ (s : State) (p : MirrorPkt), p.crcOk = false → exec (.twinMirrorPacket p) s = .next (s.inc R.TWIN_LINK_CRC_ERR 0 1))
  ∧ (∀ (s : State) (p : BulkPkt), p.crcOk = false → exec (.twinBulkPacket p) s = .next (s.inc R.TWIN_LINK_CRC_ERR 0 1))
  ∧ (∀ (s : State) (p : StatusPkt), p.crcOk = true → s.role = 2 ∨ s.role = 3 → s.rd H.TWIN_NEXT_ROLE 0 ≠ 1 → p.role ≠ 0 →
    p.frame % 2 ^ 32 ≠ s.frame % 2 ^ 32 →
    Completes (.twinStatusPacket p) s fun t => t.rd H.TWIN_NEXT_ROLE 0 = 2 ∧ t.role = s.role)
  ∧ (∀ (s : State) (p : StatusPkt), p.crcOk = true → s.role = 1 ∨ s.role = 2 ∨ s.role = 3 → p.role = 0 →
    Completes (.twinStatusPacket p) s fun t => t.rd H.TWIN_NEXT_ROLE 0 = 1 ∧ t.role = s.role)
  ∧ (∀ (s : State) (n : Nat), s.role = 1 → s.bit H.TWIN_COPY_SEEN 0 = false →
    exec (.twinBulkPacket ⟨true, .progress n⟩) s = .next s)
  ∧ (∀ (s : State) (slot integ : Nat) (st : List Nat), s.role = 1 → slot < 256 → st.length = 5 →
    Completes (.twinBulkPacket ⟨true, .slotState slot integ st⟩) s fun t =>
      t.rd R.LE_SLOT_INTEG_INTEG slot = integ % 2 ^ R.LE_SLOT_INTEG_INTEG.wid
        ∧ (∀ j < 4, t.rd H.LE_STATE (4 * slot + j) = st.getD j 0 % 2 ^ H.LE_STATE.wid)
        ∧ t.rd H.LE_GOLD_N slot = min 4 (st.getD 4 0)
        ∧ OnlyKinds [R.LE_SLOT_INTEG_INTEG, H.LE_STATE, H.LE_GOLD_N, H.LE_GOLD_CAP, H.TWIN_COPY_SEEN] s t ∧ OnlyRegs s t)
  ∧ (∀ (s : State) (l : List (Nat × Nat)) (k st : Nat), s.role = 1 → l = [(k, st)] → k < 1536 →
    Completes (.twinBulkPacket ⟨true, .siteStates l⟩) s fun t =>
      t.rd R.TH_SITE_STATE k = st % 2 ^ R.TH_SITE_STATE.wid ∧ OnlyFields [(R.TH_SITE_STATE, k), (H.TH_SFAIL, k)] s t ∧ OnlyRegs s t)
  ∧ (∀ (s : State) (f q : Nat) (v : Bool) (es : List (Int × Nat × IntentMsg)), s.role = 1 → f < 64 →
    Completes (.twinBulkPacket ⟨true, .schedule f q v es⟩) s fun t =>
      t.sched.filter (fun e => e.fold != f) = s.sched.filter (fun e => e.fold != f)
        ∧ (t.sched.filter (fun e => e.fold == f)).map (fun e => (e.start, e.latched, e.tag)) = es.map (fun x => (x.1, x.2.1, x.2.2.tag))
        ∧ t.rd R.BW_FOLD_STAT_LAST_SEQ f = q % 256 ∧ t.bit H.BW_SEEN f = v
        ∧ OnlyKinds [R.BW_FOLD_STAT_LAST_SEQ, H.BW_SEEN] s t ∧ t = { s with regs := t.regs, sched := t.sched })
  ∧ (∀ (s : State) (e : Nat), s.role = 1 ∨ s.role = 2 ∨ s.role = 3 →
    exec (.twinBulkPacket ⟨true, .epoch e⟩) s = .next (s.wr R.GL_EPOCH_EPOCH 0 e))
  ∧ (∀ (s : State) (p : PdSnap), s.role = 1 ∨ s.role = 2 ∨ s.role = 3 →
    Completes (.twinBulkPacket ⟨true, .pdSnap p⟩) s fun t =>
      t.bit H.TWIN_SN_DUE 0 = true
        ∧ OnlyKinds [H.TWIN_SN_ST, H.TWIN_SN_CP, H.TWIN_SN_INT, H.TWIN_SN_VREF, H.TWIN_SN_DUE] s t ∧ OnlyRegs s t)
  ∧ (∀ (s : State) (l : Nat) (b : Bool),
    exec (.twinBulkPacket ⟨true, .golden l b⟩) s
      = .next (if s.bit H.LE_GOLD_TWIN l then s.wr H.TWIN_PEER_GOLD l (if b then 1 else 2) else s))
  ∧ (∀ (s : State) (d : Nat) (v : Int), d < 64 → diodePresent s.zk4 d = true → s.diodeOwn d = false → -32768 ≤ v → v < 32768 →
    Completes (.twinBulkPacket ⟨true, .diode d v⟩) s fun t =>
      t.rdS R.TH_DIODE_READING d = v ∧ t.rd H.TH_DIODE_AGE d = 0
        ∧ OnlyKinds [R.TH_DIODE_READING, H.TH_DIODE_LAST, H.TH_DIODE_AGE] s t ∧ OnlyRegs s t)
  ∧ (∀ (s : State) (n i : Nat) (v : TestVerdict), sourceChannel n = some i → s.bit H.TWIN_ID_TEST i = false →
    exec (.twinBulkPacket ⟨true, .verdict n v⟩) s = .next (s.wr H.TWIN_PEERV i (verdictCode v)))
  ∧ (∀ (s : State) (op : BulkOp), s.role = 0 ∨ s.role = 4 →
    (match op with
      | .slotState _ _ _ | .pdSnap _ | .schedule _ _ _ _ | .siteStates _ | .storeBytes _ _ | .progress _ | .epoch _
      | .takeRound _ => True
      | _ => False) →
    exec (.twinBulkPacket ⟨true, op⟩) s = .next s)

/-- R52, R65, R205, R405, R411, R412, R415, R427, R536: the outputs of one frame are compared slot by slot, CLEAN counting the
frames whose every slot agrees and a differing slot showing in DIFF, LAST and the count of mismatches; a frame that is
UNCOMPARED, not staged or compared before is not compared. A following instance that has not yet formed the frame takes the
holder's input set in place of its own; one whose packet is not whole by the end of its window forms it on its own, UNCOMPARED;
after either a further one changes nothing. A mirrored request is kept for the boundary it names, and is taken only between
instances that compare; a channel that has differed 8 frames is marked, raised and tested, no other. The model's own choices on
which it rests are those of assumptions 6 and 26. -/
def Obligations.TwinFramesAreCompared : Prop :=
  (∀ (s : State) (p : OutputPkt), p.crcOk = true → s.peerCompares = true → s.bit H.TWIN_UNC 0 = false →
    s.bit H.LE_OUT_STAGED 0 = true → s.bit H.TWIN_CMP 0 = false → (∀ l ∈ s.slots, s.ownOut l = outSlot p l) →
    Completes (.twinOutputPacket p) s fun t =>
      t.rd R.TWIN_SYNC_CLEAN 0 = satAdd R.TWIN_SYNC_CLEAN.wid (s.rd R.TWIN_SYNC_CLEAN 0) 1 ∧ t.bit H.TWIN_CMP 0 = true
        ∧ t.rd R.TWIN_CNT_MISMATCHES 0 = s.rd R.TWIN_CNT_MISMATCHES 0 ∧ t.map = s.map)
  ∧ (∀ (s : State) (p : OutputPkt) (l : Nat), p.crcOk = true → s.peerCompares = true → s.bit H.TWIN_UNC 0 = false →
    s.bit H.LE_OUT_STAGED 0 = true → s.bit H.TWIN_CMP 0 = false → l ∈ s.slots → l < 256 → s.ownOut l ≠ outSlot p l →
    Completes (.twinOutputPacket p) s fun t =>
      t.rd R.TWIN_SYNC_CLEAN 0 = 0 ∧ t.bit R.TWIN_DIFF_SLOT l = true ∧ t.bit H.TWIN_CMP 0 = true ∧ t.map = s.map)
  ∧ (∀ (s : State) (p : InputPkt) (rail c0 c1 : Nat), p.crcOk = true → s.follows = true → s.bit H.TWIN_FORM_DUE 0 = true →
    rail ∈ s.rails → p.rails.filter (fun x => x.1 == rail) = [(rail, c0, c1)] →
    Completes (.twinInputPacket p) s fun t =>
      t.bit H.TWIN_FORM_DUE 0 = false ∧ t.bit H.TWIN_OWN_SET 0 = false ∧ t.bit H.TWIN_UNC 0 = s.bit H.TWIN_UNC 0
        ∧ t.rd H.LE_IN_RAILV rail = openDiv (c0 + c1) 2 % 2 ^ H.LE_IN_RAILV.wid ∧ t.map = s.map)
  ∧ (∀ (s : State), s.role = 2 ∨ s.role = 3 → s.bit H.TWIN_FORM_DUE 0 = true →
    Completes .inputNotWhole s fun t =>
      t.bit H.TWIN_FORM_DUE 0 = false ∧ t.bit H.TWIN_UNC 0 = true ∧ t.rd R.TWIN_SYNC_CLEAN 0 = 0
        ∧ t.rd R.TWIN_LINK_UNCOMPARED 0 = satAdd R.TWIN_LINK_UNCOMPARED.wid (s.rd R.TWIN_LINK_UNCOMPARED 0) 1 ∧ t.map = s.map)
  ∧ (∀ (s : State) (ch : Nat), ch < 128 → srcPresent s.zk4 (0x19C + ch) = true → s.rd H.TWIN_IDC ch = 8 →
    Completes (.inputDisagreement false ch) s fun t =>
      t.bit R.TWIN_INDIFF_CH ch = true ∧ t.rd H.TWIN_IDC ch = 0 ∧ Raised (0x19C + ch) 1 s t
        ∧ .bulk ⟨true, .loopback (0x19C + ch)⟩ ∈ t.out ∧ OnlyFault s t)
  ∧ (∀ (s : State) (k : Nat), s.peerCompares = true → s.holder = false → s.rd R.RUN_LIVE 0 = 2 →
    exec (.twinMirrorPacket ⟨true, k, .commitAt k⟩) s = .next (s.wr H.TOP_COMMIT_AT 0 (k + 1)))
  ∧ (∀ (s : State) (p : OutputPkt) (l : Nat), p.crcOk = true → s.peerCompares = true → s.bit H.TWIN_UNC 0 = false →
    s.bit H.LE_OUT_STAGED 0 = true → s.bit H.TWIN_CMP 0 = false → s.slots.filter (fun x => s.ownOut x != outSlot p x) = [l] →
    l < 256 →
    Completes (.twinOutputPacket p) s fun t =>
      t.rd R.TWIN_CNT_MISMATCHES 0 = satAdd R.TWIN_CNT_MISMATCHES.wid (s.rd R.TWIN_CNT_MISMATCHES 0) 1
        ∧ t.rd R.TWIN_LAST_KIND 0 = 1 ∧ t.rd R.TWIN_LAST_INDEX 0 = l ∧ t.rd R.TWIN_LAST_FRAME_FRAME 0 = s.frame % 2 ^ 32
        ∧ Raised l 0 s t)
  ∧ (∀ (s : State) (p : OutputPkt), p.crcOk = true → s.peerCompares = false ∨ s.bit H.TWIN_UNC 0 = true
      ∨ s.bit H.LE_OUT_STAGED 0 = false ∨ s.bit H.TWIN_CMP 0 = true →
    Completes (.twinOutputPacket p) s fun t =>
      t.rd R.TWIN_SYNC_CLEAN 0 = s.rd R.TWIN_SYNC_CLEAN 0 ∧ t.rd R.TWIN_CNT_MISMATCHES 0 = s.rd R.TWIN_CNT_MISMATCHES 0
        ∧ OnlyKinds [H.LE_FWD_OUT, H.LE_FWD, H.TWIN_SN_ST, H.TWIN_SN_CP, H.TWIN_SN_INT, H.TWIN_SN_VREF, H.TWIN_SN_DUE,
            R.TWIN_SYNC_PD_RESYNC] s t ∧ OnlyRegs s t)
  ∧ (∀ (s : State) (p : InputPkt), p.crcOk = true → s.follows = false ∨ s.bit H.TWIN_FORM_DUE 0 = false →
    exec (.twinInputPacket p) s = .next s)
  ∧ (∀ (s : State), s.bit H.TWIN_FORM_DUE 0 = false → exec .inputNotWhole s = .next s)
  ∧ (∀ (s : State), s.role ≠ 2 → s.role ≠ 3 → s.bit H.TWIN_FORM_DUE 0 = true →
    Completes .inputNotWhole s fun t =>
      t.bit H.TWIN_FORM_DUE 0 = false ∧ t.bit H.TWIN_UNC 0 = s.bit H.TWIN_UNC 0
        ∧ t.rd R.TWIN_LINK_UNCOMPARED 0 = s.rd R.TWIN_LINK_UNCOMPARED 0)
  ∧ (∀ (s : State) (ch : Nat), ch < 14 → srcPresent s.zk4 (0x18E + ch) = true → s.rd H.TWIN_IDC (128 + ch) = 8 →
    Completes (.inputDisagreement true ch) s fun t =>
      t.bit R.TWIN_INDIFF_CH (128 + ch) = true ∧ t.rd H.TWIN_IDC (128 + ch) = 0 ∧ Raised (0x18E + ch) 1 s t
        ∧ .bulk ⟨true, .loopback (0x18E + ch)⟩ ∈ t.out ∧ OnlyFault s t)
  ∧ (∀ (s : State) (rail : Bool) (ch : Nat), (if rail then 14 else 128) ≤ ch ∨ s.rd H.TWIN_IDC (if rail then 128 + ch else ch) ≠ 8 →
    exec (.inputDisagreement rail ch) s = .next s)
  ∧ (∀ (s : State) (p : MirrorPkt), p.crcOk = true → s.peerCompares = false → exec (.twinMirrorPacket p) s = .next s)

/-- R401, R403, R404, R408, R422: the copy's end and CLEAN_FRAMES bring the next role at the coming boundary; two frames
without a ready STATUS end PEER_READY; a standby whose link is silent raises LINK_DOWN or, with both paths silent and
gate_peer high, PEER_SILENT, once for a silence. A role that is to end in DETACHED is not overtaken. Short of these conditions
nothing happens. The model's own choices on which it rests are those of assumptions 6 and 24. -/
def Obligations.TwinRolesAndSilence : Prop :=
  (∀ (s : State), s.role = 1 → s.rd R.TWIN_SYNC_COPY_PCT 0 = 100 → s.bit H.TWIN_FR_EQ 0 = true →
    s.rd H.TWIN_NEXT_ROLE 0 ≠ 1 → exec .catchUpComplete s = .next (s.wr H.TWIN_NEXT_ROLE 0 3))
  ∧ (∀ (s : State), s.role = 2 → max 64 (s.rd R.TWIN_CTRL_CLEAN_FRAMES 0) ≤ s.rd R.TWIN_SYNC_CLEAN 0 →
    s.rd H.TWIN_NEXT_ROLE 0 ≠ 1 → exec .cleanFramesReached s = .next (s.wr H.TWIN_NEXT_ROLE 0 4))
  ∧ (∀ (s : State), s.rd H.TWIN_RDY_AGE 0 = 3 →
    Completes .peerReadyLapse s fun t =>
      t.bit R.TWIN_STATUS_PEER_READY 0 = false ∧ OnlyKinds [R.TWIN_STATUS_PEER_READY] s t ∧ OnlyRegs s t)
  ∧ (∀ (s : State), s.role = 3 → s.rd H.TWIN_ST_AGE 0 = 3 → s.rd H.TWIN_MESH_AGE 0 ≠ 3 → s.bit H.TWIN_LD_RAISED 0 = false →
    Completes .linkDown s fun t =>
      t.bit H.TWIN_LD_RAISED 0 = true ∧ Raised 0x368 1 s t ∧ OnlyKinds (faultFields ++ [H.TWIN_LD_RAISED]) s t ∧ OnlyFault s t)
  ∧ (∀ (s : State), s.role = 3 → s.rd H.TWIN_ST_AGE 0 = 3 → s.rd H.TWIN_MESH_AGE 0 = 3 →
    s.bit R.TWIN_STATUS_GATE_PEER 0 = true → s.bit H.TWIN_PS_RAISED 0 = false →
    Completes .peerSilent s fun t =>
      t.bit H.TWIN_PS_RAISED 0 = true ∧ Raised 0x369 1 s t ∧ OnlyKinds (faultFields ++ [H.TWIN_PS_RAISED]) s t ∧ OnlyFault s t)
  ∧ (∀ (s : State), s.role ≠ 1 ∨ s.rd R.TWIN_SYNC_COPY_PCT 0 ≠ 100 ∨ s.bit H.TWIN_FR_EQ 0 = false ∨ s.rd H.TWIN_NEXT_ROLE 0 = 1 →
    exec .catchUpComplete s = .next s)
  ∧ (∀ (s : State), s.role ≠ 2 ∨ s.rd R.TWIN_SYNC_CLEAN 0 < max 64 (s.rd R.TWIN_CTRL_CLEAN_FRAMES 0)
      ∨ s.rd H.TWIN_NEXT_ROLE 0 = 1 →
    exec .cleanFramesReached s = .next s)
  ∧ (∀ (s : State), s.rd H.TWIN_RDY_AGE 0 ≠ 3 → exec .peerReadyLapse s = .next s)
  ∧ (∀ (s : State), s.role ≠ 3 ∨ s.rd H.TWIN_ST_AGE 0 ≠ 3 ∨ s.rd H.TWIN_MESH_AGE 0 = 3 ∨ s.bit H.TWIN_LD_RAISED 0 = true →
    exec .linkDown s = .next s)
  ∧ (∀ (s : State), s.role ≠ 3 ∨ s.rd H.TWIN_ST_AGE 0 ≠ 3 ∨ s.rd H.TWIN_MESH_AGE 0 ≠ 3
      ∨ s.bit R.TWIN_STATUS_GATE_PEER 0 = false ∨ s.bit H.TWIN_PS_RAISED 0 = true →
    exec .peerSilent s = .next s)

/-- R33, R403, R406–R410, R416, R420: the keeper drops the gate of a governing instance, with a ready peer, when boundaries or its
time base are lost, two frames have ended unstaged or a reset above it is asserted: its drivers stop, every net floats to mid, it
sends nothing more, and it is DETACHED and not READY; otherwise it keeps the gate. gate_peer's fall is seen; the gate rises only in
STANDBY or GOVERNING, while gate_peer is low and no trip is joined; after the second sample the drivers are enabled, and the outputs
of unallocated phases held low, unless Zoskare B finds gate_peer high and backs off. A golden verdict of two passes clears the test,
one of a failing standby detaches it, one of a failing holder hands over to a standby or holds the slot; one that does not match
the results known does nothing. The model's own choices on which it rests are those of assumptions 6, 24 and 26. -/
def Obligations.GateAndGoldenVerdicts : Prop :=
  (∀ (s : State), s.holder = true → s.bit R.TWIN_STATUS_PEER_READY 0 = true →
    Completes (.keeperGateDrop .noBoundary) s fun t =>
      t.bit R.TWIN_STATUS_GATE_OWN 0 = false ∧ t.role = 0 ∧ t.bit R.PD_STATUS_DRIVING 0 = false
        ∧ t.bit R.STATUS_READY 0 = false
        ∧ (s.bit R.PD_STATUS_DRIVING 0 = true → ∀ p < phaseCount s.zk4, .pwm p .mid 0 0 ∈ t.out)
        ∧ OnlyKinds [R.PD_STATUS_DRIVING, R.TWIN_STATUS_GATE_OWN, R.TWIN_STATUS_ROLE, R.STATUS_READY, H.TWIN_LOSS, H.TWIN_NEXT_ROLE,
            H.TWIN_SWAP_DUE, H.TWIN_VSWAP, H.TWIN_DET_AFTER, H.TWIN_LOST, R.TWIN_SYNC_CLEAN, R.TWIN_CMD_SWAP,
            R.TWIN_CMD_DETACH] s t
        ∧ t = { s with regs := t.regs, out := t.out, mesh := { s.mesh with waiting := [] } })
  ∧ (∀ (s : State) (c : KeeperCause), s.bit R.TWIN_STATUS_PEER_READY 0 = false → exec (.keeperGateDrop c) s = .next s)
  ∧ (∀ (s : State), exec .gatePeerFall s = .next (s.wr R.TWIN_STATUS_GATE_PEER 0 0))
  ∧ (∀ (s : State), s.role = 3 ∨ s.role = 4 → s.bit R.TWIN_STATUS_GATE_PEER 0 = false → s.bit R.TH_TRIP_NET_LOW 0 = false →
    Completes .gateRaise s fun t =>
      t.bit R.TWIN_STATUS_GATE_OWN 0 = true ∧ OnlyKinds [R.TWIN_STATUS_GATE_OWN] s t ∧ OnlyRegs s t)
  ∧ (∀ (s : State), s.bit R.TWIN_STATUS_GATE_PEER 0 = true ∨ s.bit R.TH_TRIP_NET_LOW 0 = true → exec .gateRaise s = .next s)
  ∧ (∀ (s : State), s.bit R.TWIN_STATUS_GATE_OWN 0 = true → s.bit R.PD_STATUS_DRIVING 0 = false →
    s.role = 3 ∨ s.role = 4 → ¬(s.ident.instB = true ∧ s.bit R.TWIN_STATUS_GATE_PEER 0 = true) →
    Completes .gateResample s fun t =>
      t.bit R.PD_STATUS_DRIVING 0 = true ∧ t.bit R.TWIN_STATUS_GATE_OWN 0 = true
        ∧ (s.role = 3 → s.bit H.TWIN_LD_HAVE 0 = true → ∀ p, s.allocated p = true →
            t.ph p = s.rd H.TWIN_LD_ST p ∧ t.rd R.PD_PH_DUTY_SHARE p = s.rd H.TWIN_LD_CP p)
        ∧ (∀ p < phaseCount s.zk4, s.ph p = 7 → .pwm p .low 0 0 ∈ t.out)
        ∧ OnlyKinds [R.PD_STATUS_DRIVING, R.PD_PH_STAT_STATE, R.PD_PH_STAT_CAUSE, R.PD_PH_DUTY_SHARE, R.PD_PH_STAT_RANK,
            R.PD_PH_DUTY_DUTY] s t
        ∧ OnlyRegsOut s t)
  ∧ (∀ (s : State), s.bit R.TWIN_STATUS_GATE_OWN 0 = true → s.bit R.PD_STATUS_DRIVING 0 = false → s.ident.instB = true →
    s.role = 3 ∨ s.role = 4 → s.bit R.TWIN_STATUS_GATE_PEER 0 = true → exec .gateResample s = .next (s.wr R.TWIN_STATUS_GATE_OWN 0 0))
  ∧ (∀ (s : State) (l : Nat) (hp sp : Bool), l < 256 → s.bit H.LE_GOLD_TWIN l = true → s.bit H.FLT_TEST_PEND l = true →
    s.rd H.LE_GOLD_J l = 5 → s.bit H.LE_GOLD_OK l = (if s.holder then hp else sp) →
    s.rd H.TWIN_PEER_GOLD l = (if (if s.holder then sp else hp) then 1 else 2) →
    Completes (.goldenVerdict l hp sp) s fun t =>
      t.rd H.FLT_RESULT l = (if hp && sp then 1 else 2) ∧ t.bit H.LE_GOLD_TWIN l = false
        ∧ (hp = false → sp = false → t.bit H.LE_HOLD_GOLD l = true)
        ∧ (hp = true → sp = false → s.holder = false → t.rd H.TWIN_NEXT_ROLE 0 = 1)
        ∧ (hp = false → sp = true → s.holder = true → s.rd R.TWIN_STATUS_PEER_ROLE 0 = 3 →
            t.bit H.TWIN_VSWAP 0 = true ∧ t.bit H.TWIN_DET_AFTER 0 = true)
        ∧ (hp = false → sp = true → s.holder = true → s.rd R.TWIN_STATUS_PEER_ROLE 0 ≠ 3 → t.bit H.LE_HOLD_GOLD l = true)
        ∧ OnlyKinds [H.LE_GOLD_TWIN, H.FLT_RESULT, H.LE_HOLD_GOLD, H.LE_REL_FAULT, H.TWIN_NEXT_ROLE, H.TWIN_VSWAP,
            H.TWIN_DET_AFTER] s t ∧ OnlyRegs s t)
  ∧ (∀ (s : State) (c : KeeperCause), s.holder = true → s.bit R.TWIN_STATUS_PEER_READY 0 = true →
    c = .timeBase ∨ (c = .lostFrames ∧ 2 ≤ s.rd H.TWIN_LOST 0) ∨ (c = .reset ∧ s.upperReset = true) →
    Completes (.keeperGateDrop c) s fun t =>
      t.bit R.TWIN_STATUS_GATE_OWN 0 = false ∧ t.role = 0 ∧ t.bit R.PD_STATUS_DRIVING 0 = false
        ∧ t.bit R.STATUS_READY 0 = false ∧ t = { s with regs := t.regs, out := t.out, mesh := { s.mesh with waiting := [] } })
  ∧ (∀ (s : State) (c : KeeperCause), s.holder = false ∨ (c = .lostFrames ∧ s.rd H.TWIN_LOST 0 < 2)
      ∨ (c = .reset ∧ s.upperReset = false) →
    exec (.keeperGateDrop c) s = .next s)
  ∧ (∀ (s : State), s.role ≠ 3 → s.role ≠ 4 → exec .gateRaise s = .next s)
  ∧ (∀ (s : State), s.bit R.TWIN_STATUS_GATE_OWN 0 = false ∨ s.bit R.PD_STATUS_DRIVING 0 = true ∨ (s.role ≠ 3 ∧ s.role ≠ 4) →
    exec .gateResample s = .next s)
  ∧ (∀ (s : State) (l : Nat) (hp sp : Bool), s.bit H.LE_GOLD_TWIN l = false ∨ s.bit H.FLT_TEST_PEND l = false
      ∨ s.rd H.LE_GOLD_J l ≠ 5 ∨ s.bit H.LE_GOLD_OK l ≠ (if s.holder then hp else sp)
      ∨ s.rd H.TWIN_PEER_GOLD l ≠ (if (if s.holder then sp else hp) then 1 else 2) →
    exec (.goldenVerdict l hp sp) s = .next s)

/-- R470–R474: a source that is lost is no longer eligible, and where it is the reference the mux takes the highest eligible
one, under holdover until the loops relock; the fast RC is not lost in this way. A crystal that is enabled passes its amplitude
check, fails to start, or is restarted, and one fails its detector; a source that is eligible and above the reference is
returned to where AUTO_RET allows it, and not on the twin clock; the host link's training makes REC eligible. The model's own
choices on which it rests are those of assumptions 6 and 43. -/
def Obligations.ReferencesAndCrystals : Prop :=
  (∀ (s : State) (src k : Nat), src < 5 → src ≠ 3 → s.rd R.CLK_STATUS_REF 0 = src → k < 4 → k ≠ src → s.eligible k = true →
    (∀ j < k, j ≠ src → s.eligible j = false) →
    Completes (.referenceLost src) s fun t =>
      t.rd R.CLK_STATUS_REF 0 = k ∧ t.bit R.CLK_STATUS_HOLDOVER 0 = true ∧ t.eligible src = false
        ∧ t.rd R.CLK_CNT_REF_SWITCHES 0 = satAdd R.CLK_CNT_REF_SWITCHES.wid (s.rd R.CLK_CNT_REF_SWITCHES 0) 1
        ∧ OnlyKinds [H.CLK_TRAINED, H.CLK_CNT_BAD, R.CLK_STATUS_REC_OK, R.CLK_STATUS_REF, R.CLK_STATUS_HOLDOVER,
            R.CLK_CNT_REF_SWITCHES, R.TALLY_DROPPED_DROPPED] s t ∧ OnlyFault s t)
  ∧ (∀ (s : State) (src : Nat), src < 5 → src ≠ 3 → s.rd R.CLK_STATUS_REF 0 ≠ src →
    Completes (.referenceLost src) s fun t =>
      t.eligible src = false ∧ t.bit R.CLK_STATUS_REC_OK 0 = t.eligible 0
        ∧ OnlyKinds [H.CLK_TRAINED, H.CLK_CNT_BAD, R.CLK_STATUS_REC_OK] s t ∧ OnlyRegs s t)
  ∧ (∀ (s : State), Completes .relockDone s fun t =>
      t.bit R.CLK_STATUS_HOLDOVER 0 = false ∧ OnlyKinds [R.CLK_STATUS_HOLDOVER] s t ∧ OnlyRegs s t)
  ∧ (∀ (s : State) (x : Nat), x < 2 → s.bit (xEn x) 0 = true → s.bit H.CLK_XIDLE x = false →
    Completes (.crystalAmplitudePass x) s fun t =>
      t.bit (xAmp x) 0 = true ∧ t.bit (xFail x) 0 = false ∧ t.eligible (xSrc x) = true
        ∧ OnlyKinds [xAmp x, xFail x, H.CLK_CNT_BAD] s t ∧ OnlyRegs s t)
  ∧ (∀ (s : State) (x : Nat), x < 2 → s.bit (xEn x) 0 = true → s.bit (xAmp x) 0 = false →
    Completes (.crystalStartTimeout x) s fun t =>
      t.bit (xFail x) 0 = true ∧ t.bit H.CLK_XIDLE x = true ∧ OnlyKinds [xFail x, H.CLK_XIDLE] s t ∧ OnlyRegs s t)
  ∧ (∀ (s : State) (x : Nat), x < 2 → s.bit (xEn x) 0 = true →
    Completes (.crystalRestart x) s fun t =>
      t.bit H.CLK_XIDLE x = false ∧ OnlyKinds [H.CLK_XIDLE] s t ∧ OnlyRegs s t)
  ∧ (∀ (s : State) (x : Nat), x < 2 → s.rd R.CLK_STATUS_REF 0 ≠ xSrc x →
    Completes (.crystalDetectorFail x) s fun t =>
      t.bit (xAmp x) 0 = false ∧ t.eligible (xSrc x) = false ∧ t.bit H.CLK_XIDLE x = false
        ∧ OnlyKinds [xAmp x, H.CLK_XIDLE] s t ∧ OnlyRegs s t)
  ∧ (∀ (s : State) (x : Nat), x < 2 → s.rd R.CLK_STATUS_REF 0 = xSrc x → s.bit R.CLK_STATUS_FRC_BAD 0 = false →
    Completes (.crystalDetectorFail x) s fun t =>
      t.rd R.CLK_STATUS_REF 0 < 4 ∧ t.eligible (t.rd R.CLK_STATUS_REF 0) = true ∧ t.rd R.CLK_STATUS_REF 0 ≠ xSrc x
        ∧ t.bit R.CLK_STATUS_HOLDOVER 0 = true)
  ∧ (∀ (s : State) (src : Nat), s.bit R.CLK_CTRL_AUTO_RET 0 = true → s.onTwinClock = false →
    (s.countedGood src).eligible src = true → src < s.rd R.CLK_STATUS_REF 0 →
    Completes (.autoReturn src) s fun t =>
      t.rd R.CLK_STATUS_REF 0 = src ∧ t.bit R.CLK_STATUS_HOLDOVER 0 = true
        ∧ t.rd R.CLK_CNT_REF_SWITCHES 0 = satAdd R.CLK_CNT_REF_SWITCHES.wid (s.rd R.CLK_CNT_REF_SWITCHES 0) 1
        ∧ OnlyKinds [R.CLK_STATUS_REF, R.CLK_STATUS_HOLDOVER, R.CLK_CNT_REF_SWITCHES, R.TALLY_DROPPED_DROPPED, H.CLK_CNT_BAD] s t
        ∧ t.eligible src = true ∧ OnlyFault s t)
  ∧ (∀ (s : State), Completes .hostLinkTrained s fun t =>
      t.bit H.CLK_TRAINED 0 = true ∧ t.bit R.CLK_STATUS_REC_OK 0 = s.bit R.CLK_CTRL_REC_EN 0
        ∧ OnlyKinds [H.CLK_TRAINED, R.CLK_STATUS_REC_OK] s t ∧ OnlyRegs s t)
  ∧ (∀ (s : State) (src : Nat), src = 3 ∨ 4 < src → exec (.referenceLost src) s = .next s)
  ∧ (∀ (s : State) (src : Nat), src < 3 ∨ src = 4 → s.rd R.CLK_STATUS_REF 0 = src → (∀ k < 4, k ≠ src → s.eligible k = false) →
    Completes (.referenceLost src) s fun t =>
      t.rd R.CLK_STATUS_REF 0 = src ∧ t.eligible src = false
        ∧ OnlyKinds [H.CLK_TRAINED, H.CLK_CNT_BAD, R.CLK_STATUS_REC_OK] s t ∧ OnlyRegs s t)
  ∧ (∀ (s : State) (x : Nat), 2 ≤ x ∨ s.bit (xEn x) 0 = false →
    exec (.crystalAmplitudePass x) s = .next s ∧ exec (.crystalStartTimeout x) s = .next s ∧ exec (.crystalRestart x) s = .next s)
  ∧ (∀ (s : State) (x : Nat), s.bit H.CLK_XIDLE x = true → exec (.crystalAmplitudePass x) s = .next s)
  ∧ (∀ (s : State) (x : Nat), s.bit (xAmp x) 0 = true → exec (.crystalStartTimeout x) s = .next s)
  ∧ (∀ (s : State) (x : Nat), 2 ≤ x → exec (.crystalDetectorFail x) s = .next s)
  ∧ (∀ (s : State) (src : Nat), s.bit R.CLK_CTRL_AUTO_RET 0 = false ∨ s.onTwinClock = true ∨ (s.countedGood src).eligible src = false
      ∨ s.rd R.CLK_STATUS_REF 0 ≤ src →
    exec (.autoReturn src) s = .next s)

/-- R470, R475–R478, R482, R483, R485–R488: a domain that loses its clock or its frequency goes to the fast RC with its group,
under a switch, with a non-maskable event to every hart, a count and its source raised; with FRC_BAD the source alone is raised;
a domain whose monitor is bad, or that runs on the fast RC already, stays. FRC_BAD raises the source of the frame domain, and
where the fast RC is the reference the highest eligible source takes its place. Domains return to their loop where RETURN_AUTO
and the conditions of a return allow it, under a switch whose lost time is coarse unless SLOW_BAD; a switch that ends is
recorded; a stop under way may be forced; without one neither does anything. The model's own choices on which it rests are those
of assumptions 6 and 9. -/
def Obligations.DomainsFallBackAndReturn : Prop :=
  (∀ (s : State) (d : Nat), d < 6 → s.bit R.CLK_STATUS_ON_FRC d = false → s.bit R.CLK_STATUS_MON_BAD d = false →
    s.bit R.CLK_STATUS_FRC_BAD 0 = false →
    Completes (.clockEdgeLost d) s fun t =>
      (∀ k ∈ clockGroup d, t.bit R.CLK_STATUS_ON_FRC k = true ∧ t.bit R.CLK_NMI_FALLBACK k = true ∧ t.bit H.CLK_SW k = true
          ∧ t.bit H.CLK_SW_FORCED k = true)
        ∧ (∀ k < 4, .nmi k ∈ t.out)
        ∧ t.rd R.CLK_CNT_FALLBACKS 0 = satAdd R.CLK_CNT_FALLBACKS.wid (s.rd R.CLK_CNT_FALLBACKS 0) 1
        ∧ Raised (0x36C + d) 1 s t
        ∧ OnlyKinds (faultFields ++ [R.CLK_STATUS_ON_FRC, R.CLK_NMI_FALLBACK, H.CLK_SW, H.CLK_SW_FORCED, H.CLK_SW_COARSE,
            R.CLK_CNT_FALLBACKS]) s t ∧ OnlyFault s t)
  ∧ (∀ (s : State) (d : Nat), d < 6 → s.bit R.CLK_STATUS_ON_FRC d = false → s.bit R.CLK_STATUS_MON_BAD d = false →
    s.bit R.CLK_STATUS_FRC_BAD 0 = false →
    Completes (.frequencyFailure d) s fun t =>
      (∀ k ∈ clockGroup d, t.bit R.CLK_STATUS_ON_FRC k = true ∧ t.bit H.CLK_SW k = true ∧ t.bit H.CLK_SW_FORCED k = false)
        ∧ Raised (0x36C + d) 1 s t
        ∧ OnlyKinds (faultFields ++ [R.CLK_STATUS_ON_FRC, R.CLK_NMI_FALLBACK, H.CLK_SW, H.CLK_SW_FORCED, H.CLK_SW_COARSE,
            R.CLK_CNT_FALLBACKS]) s t ∧ OnlyFault s t)
  ∧ (∀ (s : State) (d : Nat), d < 6 → s.bit R.CLK_STATUS_ON_FRC d = false → s.bit R.CLK_STATUS_MON_BAD d = false →
    s.bit R.CLK_STATUS_FRC_BAD 0 = true →
    Completes (.clockEdgeLost d) s fun t => Raised (0x36C + d) 1 s t ∧ OnlyKinds faultFields s t ∧ OnlyFault s t)
  ∧ (∀ (s : State), s.rd R.CLK_STATUS_REF 0 ≠ 3 →
    Completes .frcBad s fun t =>
      t.bit R.CLK_STATUS_FRC_BAD 0 = true ∧ t.eligible 3 = false ∧ Raised 0x36C 1 s t
        ∧ OnlyKinds (faultFields ++ [R.CLK_STATUS_FRC_BAD]) s t ∧ OnlyFault s t)
  ∧ (∀ (s : State), Completes .slowBad s fun t =>
      t.bit R.CLK_STATUS_SLOW_BAD 0 = true ∧ OnlyKinds [R.CLK_STATUS_SLOW_BAD] s t ∧ OnlyRegs s t)
  ∧ (∀ (s : State) (d : Nat), s.bit R.CLK_CTRL_RETURN_AUTO 0 = true → s.mayReturn d = true →
    Completes (.domainReturn d) s fun t =>
      (∀ k ∈ clockGroup d, t.bit R.CLK_STATUS_ON_FRC k = false ∧ t.bit H.CLK_SW k = true ∧ t.bit H.CLK_SW_FORCED k = false
          ∧ t.bit H.CLK_SW_COARSE k = !s.bit R.CLK_STATUS_SLOW_BAD 0)
        ∧ (∀ k, k ∉ clockGroup d → t.rd R.CLK_STATUS_ON_FRC k = s.rd R.CLK_STATUS_ON_FRC k)
        ∧ OnlyKinds [R.CLK_STATUS_ON_FRC, H.CLK_SW, H.CLK_SW_FORCED, H.CLK_SW_COARSE] s t ∧ OnlyRegs s t)
  ∧ (∀ (s : State) (d ns : Nat), d < 6 → s.bit H.CLK_SW d = true →
    Completes (.domainSwitchDone d ns) s fun t =>
      (∀ k ∈ clockGroup d, t.bit H.CLK_SW k = false) ∧ t.bit R.CLK_LOST_FORCED 0 = s.bit H.CLK_SW_FORCED d
        ∧ t.rd R.CLK_LOST_DOMAIN 0 = d ∧ t.bit R.CLK_LOST_COARSE 0 = s.bit H.CLK_SW_COARSE d
        ∧ t.rd R.CLK_LOST_NS 0 = min 0x7FFFFFF ns
        ∧ OnlyKinds [H.CLK_SW, H.CLK_SW_FORCED, H.CLK_SW_COARSE, R.CLK_LOST_FORCED, R.CLK_LOST_DOMAIN, R.CLK_LOST_COARSE,
            R.CLK_LOST_NS, R.TALLY_DROPPED_DROPPED] s t ∧ OnlyFault s t)
  ∧ (∀ (s : State) (d : Nat), d < 6 → s.bit H.CLK_SW d = true →
    Completes (.forcedStop d) s fun t =>
      (∀ k ∈ clockGroup d, t.bit H.CLK_SW_FORCED k = true) ∧ t.bit R.CLK_LOST_FORCED 0 = true
        ∧ OnlyKinds [H.CLK_SW_FORCED, R.CLK_LOST_FORCED] s t ∧ OnlyRegs s t)
  ∧ (∀ (s : State) (d : Nat), 6 ≤ d ∨ s.bit R.CLK_STATUS_MON_BAD d = true ∨ (2 ≤ d ∧ s.bit R.CLK_STATUS_ON_FRC d = true) →
    exec (.clockEdgeLost d) s = .next s ∧ exec (.frequencyFailure d) s = .next s)
  ∧ (∀ (s : State) (d : Nat), d < 6 → s.bit R.CLK_STATUS_ON_FRC d = false → s.bit R.CLK_STATUS_MON_BAD d = false →
    s.bit R.CLK_STATUS_FRC_BAD 0 = true →
    Completes (.frequencyFailure d) s fun t => Raised (0x36C + d) 1 s t ∧ OnlyKinds faultFields s t ∧ OnlyFault s t)
  ∧ (∀ (s : State) (k : Nat), s.rd R.CLK_STATUS_REF 0 = 3 → k < 3 → s.eligible k = true → (∀ j < k, s.eligible j = false) →
    Completes .frcBad s fun t =>
      t.bit R.CLK_STATUS_FRC_BAD 0 = true ∧ t.rd R.CLK_STATUS_REF 0 = k ∧ t.bit R.CLK_STATUS_HOLDOVER 0 = true
        ∧ Raised 0x36C 1 s t)
  ∧ (∀ (s : State) (d : Nat), s.bit R.CLK_CTRL_RETURN_AUTO 0 = false ∨ s.mayReturn d = false → exec (.domainReturn d) s = .next s)
  ∧ (∀ (s : State) (d ns : Nat), 6 ≤ d ∨ s.bit H.CLK_SW d = false →
    exec (.domainSwitchDone d ns) s = .next s ∧ exec (.forcedStop d) s = .next s)

/-- R482, R484, R485, R489, R490, R494: GO returns a domain that may return; ZK_CLK_EN takes a value that clears no bit while
EN is 1 and never the Drover's; ZK_CLK_DIV takes both dividers, with a switch of a domain whose divider moves on its loop. A
write that a rule forbids is refused and counted. The model's own choices on which it rests are those of assumptions 13 and
40. -/
def Obligations.ClockRegistersAreWritten : Prop :=
  (∀ (s : State) (w : WCtx) (d : Nat), Writable s w R.CLK_SWITCH_GO 0 → s.mayReturn d = true → d < 6 →
    Completes (.go w d) s fun t =>
      t.rd R.CLK_SWITCH_DOMAIN 0 = d ∧ t.resp = .ok
        ∧ (∀ k ∈ clockGroup d, t.bit R.CLK_STATUS_ON_FRC k = false ∧ t.bit H.CLK_SW k = true)
        ∧ OnlyKinds [R.CLK_SWITCH_DOMAIN, R.CLK_STATUS_ON_FRC, H.CLK_SW, H.CLK_SW_FORCED, H.CLK_SW_COARSE] s t
        ∧ OnlyRegsOut s t)
  ∧ (∀ (s : State) (w : WCtx) (d : Nat), Writable s w R.CLK_SWITCH_GO 0 → s.mayReturn d = false →
    Completes (.go w d) s fun t => Refuses w (R.CLK_SWITCH_GO.word 0) 3 s t)
  ∧ (∀ (s : State) (w : WCtx) (v : Nat), Writable s w R.CLK_EN_EN 0 → v < 2048 → bitOf v 1 = true →
    (s.runEn = true → s.rd R.CLK_EN_EN 0 &&& v = s.rd R.CLK_EN_EN 0) →
    Completes (.clkEnWrite w v) s fun t =>
      t.rd R.CLK_EN_EN 0 = v ∧ t.resp = .ok ∧ OnlyKinds [R.CLK_EN_EN] s t ∧ OnlyRegsOut s t)
  ∧ (∀ (s : State) (w : WCtx) (v : Nat), Writable s w R.CLK_EN_EN 0 → v < 2048 → bitOf v 1 = false →
    bitOf (s.rd R.CLK_EN_EN 0) 1 = true →
    Completes (.clkEnWrite w v) s fun t => Refuses w (R.CLK_EN_EN.word 0) 3 s t)
  ∧ (∀ (s : State) (w : WCtx) (v : Nat), Writable s w R.CLK_DIV_HART_DIV 0 → v < 16 →
    Completes (.clkDivWrite w v) s fun t =>
      t.rd R.CLK_DIV_HART_DIV 0 = v % 4 ∧ t.rd R.CLK_DIV_BUS_DIV 0 = v / 4 ∧ t.resp = .ok
        ∧ (divCode (s.rd R.CLK_DIV_HART_DIV 0) ≠ divCode v → s.bit R.CLK_STATUS_ON_FRC 2 = false → t.bit H.CLK_SW 2 = true)
        ∧ (divCode (s.rd R.CLK_DIV_HART_DIV 0) = divCode v → divCode (s.rd R.CLK_DIV_BUS_DIV 0) = divCode (v / 4) →
            ∀ d, t.rd H.CLK_SW d = s.rd H.CLK_SW d)
        ∧ OnlyKinds [R.CLK_DIV_HART_DIV, R.CLK_DIV_BUS_DIV, H.CLK_SW, H.CLK_SW_FORCED, H.CLK_SW_COARSE] s t
        ∧ OnlyRegsOut s t)
  ∧ (∀ (s : State) (w : WCtx) (v : Nat), Writable s w R.CLK_EN_EN 0 → v < 2048 → s.runEn = true →
    s.rd R.CLK_EN_EN 0 &&& v ≠ s.rd R.CLK_EN_EN 0 →
    Completes (.clkEnWrite w v) s fun t => Refuses w (R.CLK_EN_EN.word 0) 3 s t)

/-- R15, R408, R435, R468, R488, R491, R492, R495, R496, R587: what each reset scope leaves. Power-up of the keep domain: the reset
state but for straps, flash, what is outside, and a recovery counted where THERMTRIP was FATAL; por_n: the same but for the trip
latch, the THERMTRIP source and the keep-power cause; BLOCK, by hold_n: EN 0, IDLE, role DETACHED, the frame counter, the fault
sources and the Store as they were, and the Phase Driver's registers unless the keeper drops the gate. A low of hold_n below 20 ns
does nothing, one below 100 ns may reset. A commanded reset waits for the boundary, and asserts there: LE leaves slots OPEN and EN 0
with the stage pool as it was, TWIN the role DETACHED, BLOCK both, HART the hart held. Release ends a scope once the clocks that it
affects run, makes the block sequence due and frees the harts. The model's own choices on which it rests are those of assumptions
7, 27, 28 and 55. -/
def Obligations.ResetScopesLeaveWhatTheyName : Prop :=
  (∀ (s : State), s.rd R.FLT_SRC_STATE_STATE 0x382 ≠ 5 → exec .keepPowerUp s = .next
    { State.reset with
      ident := s.ident
      map := { State.reset.map with flash := s.map.flash, image := s.map.image }
      mirror := s.mirror
      out := s.out
      free := s.free
      pending := s.pending })
  ∧ (∀ (s : State), Completes .porAssert s fun t =>
      t.bit R.RST_CAUSE_POR_PIN 0 = true ∧ t.rd R.TH_TRIP_LATCHED 0 = s.rd R.TH_TRIP_LATCHED 0
        ∧ t.rd R.FLT_SRC_STATE_STATE 0x382 = s.rd R.FLT_SRC_STATE_STATE 0x382
        ∧ (∀ n, n ≠ 0x382 → t.rd R.FLT_SRC_STATE_STATE n = 0) ∧ t.frame = 0
        ∧ OnlyKinds ([R.RST_CAUSE_POR_PIN, R.RST_CAUSE_KEEP_PWR, R.TH_TRIP_LATCHED, R.TH_TRIP_NET_LOW, R.TH_TRIP_DIODE,
            R.TH_TRIP_TEMP] ++ sourceFields) State.reset t
        ∧ t.store = [] ∧ t.staged = [] ∧ t.ident = s.ident ∧ t.map.flash = s.map.flash ∧ t.mirror = s.mirror)
  ∧ (∀ (s : State) (ns : Nat), ns < 20 → exec (.holdNLow ns) s = .next s)
  ∧ (∀ (s : State) (ns : Nat), 100 ≤ ns →
    Completes (.holdNLow ns) s fun t =>
      t.bit R.RST_STAT_BLOCK 0 = true ∧ t.bit R.RST_CAUSE_HOLD 0 = true ∧ t.runEn = false ∧ t.rd R.RUN_STATE 0 = 0
        ∧ t.role = 0 ∧ t.frame = s.frame ∧ (∀ n, t.rd R.FLT_SRC_STATE_STATE n = s.rd R.FLT_SRC_STATE_STATE n)
        ∧ (∀ n, t.rd R.FLT_SRC_STATE_CLASS n = s.rd R.FLT_SRC_STATE_CLASS n) ∧ t.store = s.store
        ∧ (∀ m, t.mode m = 0) ∧ t.rd R.TH_TRIP_LATCHED 0 = s.rd R.TH_TRIP_LATCHED 0 ∧ t.map.live = none ∧ t.fifo = [])
  ∧ (∀ (s : State) (ns : Nat), 100 ≤ ns → s.holder = false →
    Completes (.holdNLow ns) s fun t =>
      ∀ g j, 8 * 0x140000 ≤ g.key j → g.key j < 8 * 0x150000 → t.rd g j = s.rd g j)
  ∧ (∀ (s : State) (w : WCtx), Writable s w R.RST_CMD_BLOCK 0 →
    Completes (.rstBlock w) s fun t => StagesCmd w R.RST_CMD_BLOCK 0 (.reset 2) s t)
  ∧ (∀ (s : State) (w : WCtx), Writable s w R.RST_CMD_LE 0 →
    Completes (.rstLe w) s fun t => StagesCmd w R.RST_CMD_LE 0 (.reset 0) s t)
  ∧ (∀ (s : State) (w : WCtx), Writable s w R.RST_CMD_TWIN 0 →
    Completes (.rstTwin w) s fun t => StagesCmd w R.RST_CMD_TWIN 0 (.reset 1) s t)
  ∧ (∀ (s : State), (∀ d < 6, s.bit H.CLK_SW d = false) → Completes .resetRelease s fun t =>
      t.bit R.RST_STAT_BLOCK 0 = false ∧ t.bit R.RST_STAT_LE 0 = false ∧ t.bit R.RST_STAT_TWIN 0 = false
        ∧ (∀ k < 4, t.bit R.RST_STAT_HART k = false) ∧ (s.bit R.RST_STAT_BLOCK 0 = true → t.rd H.RST_SEQ 0 = 2)
        ∧ (∀ k < 4, s.bit R.RST_STAT_HART k = true → s.bit R.FW_IMAGE_VERIFIED 0 = true → s.bit R.RST_STAT_BLOCK 0 = false →
            t.rd R.FW_HART_STAT_STATE k = 2)
        ∧ OnlyKinds [R.RST_STAT_BLOCK, R.RST_STAT_LE, R.RST_STAT_TWIN, R.RST_STAT_HART, H.RST_SEQ, R.FW_HART_STAT_STATE] s t
        ∧ OnlyRegs s t)
  ∧ (∀ (s : State), s.rd R.FLT_SRC_STATE_STATE 0x382 = 5 →
    Completes .keepPowerUp s fun t =>
      t.rd R.FLT_SRC_COUNT_RECOVERIES 0x382 = 1 ∧ t.rd R.FLT_SRC_STATE_STATE 0x382 = 0
        ∧ OnlyFields [(R.FLT_SRC_COUNT_RECOVERIES, 0x382)] State.reset t ∧ t.ident = s.ident ∧ t.map.flash = s.map.flash
        ∧ t.mirror = s.mirror ∧ t.out = s.out ∧ t.store = [])
  ∧ (∀ (s : State) (ns : Nat), 20 ≤ ns → ns < 100 →
    Completes (.holdNLow ns) s fun t =>
      t = { s with free := s.free + 1 }
        ∨ (t.bit R.RST_STAT_BLOCK 0 = true ∧ t.bit R.RST_CAUSE_HOLD 0 = true ∧ t.runEn = false ∧ t.role = 0
          ∧ t.frame = s.frame ∧ t.store = s.store))
  ∧ (∀ (s : State), (∀ d < 6, s.bit H.CLK_SW d = true) → exec .resetRelease s = .next s)
  ∧ (∀ (s : State) (n : Nat) (gf : Bool), s.rd H.RST_SEQ 0 ≠ 1 → s.rd H.RST_DUE 0 = 0 → s.staged = [⟨0, .reset 0⟩] →
    Completes (.frameBoundary ⟨n, gf⟩) s fun t =>
      t.bit R.RST_STAT_LE 0 = true ∧ t.bit R.RST_CAUSE_LE_CMD 0 = true ∧ t.bit R.RST_CMD_LE 0 = false ∧ t.runEn = false
        ∧ t.rd R.RUN_STATE 0 = 0
        ∧ (∀ l, t.mode l = 0 ∧ t.rd R.LE_SLOT_INTEG_INTEG l = 0 ∧ t.bit R.LE_SLOT_FLAGS_PLAUS l = false)
        ∧ (s.map.shadow = none → s.rd H.TOP_PREP_ST 0 ≠ 2 → (∀ k, t.rd R.LE_STAGE_OP k = s.rd R.LE_STAGE_OP k)
            ∧ (∀ l, t.rd R.LE_SLOT_CFG_DIV l = s.rd R.LE_SLOT_CFG_DIV l))
        ∧ t.staged = [])
  ∧ (∀ (s : State) (n : Nat) (gf : Bool), s.rd H.RST_SEQ 0 ≠ 1 → s.rd H.RST_DUE 0 = 0 → s.staged = [⟨0, .reset 1⟩] →
    Completes (.frameBoundary ⟨n, gf⟩) s fun t =>
      t.bit R.RST_STAT_TWIN 0 = true ∧ t.bit R.RST_CAUSE_TWIN_CMD 0 = true ∧ t.bit R.RST_CMD_TWIN 0 = false ∧ t.role = 0
        ∧ t.bit R.STATUS_READY 0 = false ∧ t.staged = [])
  ∧ (∀ (s : State) (n : Nat) (gf : Bool), s.rd H.RST_SEQ 0 ≠ 1 → s.rd H.RST_DUE 0 = 0 → s.staged = [⟨0, .reset 2⟩] →
    Completes (.frameBoundary ⟨n, gf⟩) s fun t =>
      t.bit R.RST_STAT_BLOCK 0 = true ∧ t.bit R.RST_CAUSE_BLOCK_CMD 0 = true ∧ t.bit R.RST_CMD_BLOCK 0 = false
        ∧ t.runEn = false ∧ t.role = 0 ∧ t.map.live = none ∧ (∀ m, t.mode m = 0) ∧ t.staged = [])
  ∧ (∀ (s : State) (n k : Nat) (gf : Bool), s.rd H.RST_SEQ 0 ≠ 1 → s.rd H.RST_DUE 0 = 0 → k < 4 → s.staged = [⟨0, .reset (4 + k)⟩] →
    Completes (.frameBoundary ⟨n, gf⟩) s fun t =>
      t.bit R.RST_STAT_HART k = true ∧ t.bit R.RST_CAUSE_HART_CMD k = true ∧ t.bit R.RST_CMD_HART k = false
        ∧ t.rd R.FW_HART_STAT_STATE k = 3
        ∧ t.rd R.FW_HART_STAT_RESTARTS k = satAdd R.FW_HART_STAT_RESTARTS.wid (s.rd R.FW_HART_STAT_RESTARTS k) 1
        ∧ (∀ j < 4, j ≠ k → t.rd R.FW_HART_STAT_STATE j = s.rd R.FW_HART_STAT_STATE j) ∧ t.staged = [])

/-- R15, R491, R542, R586–R588, R590, R613: a hart is reset by its watchdog while it runs, by command at the next boundary, or
by itself; its kick must be its own; a matching restart check starts it, and one that fails leaves it held with its image to be
read again, as does one without a first kick; it sleeps only where it may, and wakes; the load of a window sheds work a level up
or, after four low windows, a level down. A hart in another state, or that does not exist, is not touched. The model's own
choices on which it rests are those of assumptions 6 and 40. -/
def Obligations.HartsAreResetRestartedAndShed : Prop :=
  (∀ (s : State) (k : Nat), k < 4 → s.rd R.FW_HART_STAT_STATE k = 0 →
    Completes (.watchdogExpiry k) s fun t =>
      t.rd R.FW_HART_STAT_STATE k = 3 ∧ t.bit R.RST_STAT_HART k = true ∧ t.bit R.RST_CAUSE_HART_WDT k = true
        ∧ t.rd R.FW_HART_STAT_RESTARTS k = satAdd R.FW_HART_STAT_RESTARTS.wid (s.rd R.FW_HART_STAT_RESTARTS k) 1
        ∧ Raised (0x2E8 + k) 1 s t ∧ (k = 0 → t.bit R.WARDEN_OPEN 0 = false)
        ∧ (∀ j, j ≠ k → t.rd R.FW_HART_STAT_STATE j = s.rd R.FW_HART_STAT_STATE j) ∧ OnlyFault s t)
  ∧ (∀ (s : State) (w : WCtx) (k : Nat), Writable s w R.RST_CMD_HART k → k < 4 →
    Completes (.rstHart w k) s fun t => StagesCmd w R.RST_CMD_HART k (.reset (4 + k)) s t)
  ∧ (∀ (s : State) (c k : Nat), k < 4 → Writable s ⟨.hart k, c⟩ R.FW_HART_CTRL_SELF_RESET k →
    Completes (.selfReset ⟨.hart k, c⟩ k) s fun t =>
      t.rd R.FW_HART_STAT_STATE k = 3 ∧ t.bit R.RST_STAT_HART k = true ∧ t.bit R.RST_CAUSE_HART_CMD k = true ∧ t.resp = .ok
        ∧ t.rd R.FW_HART_STAT_RESTARTS k = satAdd R.FW_HART_STAT_RESTARTS.wid (s.rd R.FW_HART_STAT_RESTARTS k) 1
        ∧ (∀ j, j ≠ k → t.rd R.FW_HART_STAT_STATE j = s.rd R.FW_HART_STAT_STATE j) ∧ OnlyRegsOut s t)
  ∧ (∀ (s : State) (c k : Nat), k < 4 → Writable s ⟨.hart k, c⟩ R.FW_HART_CTRL_KICK k →
    Completes (.kick ⟨.hart k, c⟩ k) s fun t =>
      t.bit H.FW_CRC_OK k = false ∧ t.resp = .ok
        ∧ (s.bit H.FW_CRC_OK k = true → s.bit H.FLT_TEST_PEND (0x2E8 + k) = true → t.rd H.FLT_RESULT (0x2E8 + k) = 1)
        ∧ OnlyKinds [H.FW_CRC_OK, H.FLT_RESULT] s t ∧ OnlyRegsOut s t)
  ∧ (∀ (s : State) (c j k : Nat), j ≠ k → Writable s ⟨.hart j, c⟩ R.FW_HART_CTRL_KICK k →
    Completes (.kick ⟨.hart j, c⟩ k) s fun t => Refuses ⟨.hart j, c⟩ (R.FW_HART_CTRL_KICK.word k) 3 s t)
  ∧ (∀ (s : State) (k : Nat), k < 2 → s.rd R.FW_HART_STAT_STATE k = 2 →
    Completes (.restartCheckDone k true) s fun t =>
      t.rd R.FW_HART_STAT_STATE k = 0 ∧ t.bit H.FW_CRC_OK k = true ∧ (k = 1 → t.bit H.GL_RESTARTED 0 = true)
        ∧ OnlyKinds [H.FW_CRC_OK, R.FW_HART_STAT_STATE, H.GL_RESTARTED] s t ∧ OnlyRegs s t)
  ∧ (∀ (s : State) (k : Nat), k < 4 → s.rd R.FW_HART_STAT_STATE k = 2 →
    Completes (.restartCheckDone k false) s fun t =>
      t.rd R.FW_HART_STAT_STATE k = 3 ∧ t.bit H.FW_REREAD k = true ∧ t.bit R.FW_IMAGE_VERIFIED 0 = false
        ∧ (s.bit H.FLT_TEST_PEND (0x2E8 + k) = true → t.rd H.FLT_RESULT (0x2E8 + k) = 2)
        ∧ OnlyKinds [R.FW_HART_STAT_STATE, H.FW_REREAD, R.FW_IMAGE_VERIFIED, R.FW_IMAGE_REASON, H.FLT_RESULT] s t
        ∧ OnlyRegs s t)
  ∧ (∀ (s : State) (k : Nat), k < 4 → s.rd R.FW_HART_STAT_STATE k = 0 → s.bit R.FW_HART_CTRL_SLEEP_OK k = true →
    Completes (.hartSleep k) s fun t =>
      t.rd R.FW_HART_STAT_STATE k = 1 ∧ OnlyFields [(R.FW_HART_STAT_STATE, k)] s t ∧ OnlyRegs s t)
  ∧ (∀ (s : State) (k : Nat), k < 4 → s.rd R.FW_HART_STAT_STATE k = 1 →
    Completes (.hartWake k) s fun t =>
      t.rd R.FW_HART_STAT_STATE k = 0 ∧ OnlyFields [(R.FW_HART_STAT_STATE, k)] s t ∧ OnlyRegs s t)
  ∧ (∀ (s : State) (k load : Nat), k < 4 → s.rd R.FW_SHED_SHED_HI 0 ≤ load →
    Completes (.shedWindowEnd k load) s fun t =>
      t.rd R.FW_HART_STAT_LOAD k = min 100 load ∧ t.rd R.FW_HART_STAT_LEVEL k = min 4 (s.rd R.FW_HART_STAT_LEVEL k + 1)
        ∧ t.rd H.FW_LOW_WIN k = 0
        ∧ OnlyKinds [R.FW_HART_STAT_LOAD, R.FW_HART_STAT_LEVEL, H.FW_LOW_WIN] s t ∧ OnlyRegs s t)
  ∧ (∀ (s : State) (k load : Nat), k < 4 → load < s.rd R.FW_SHED_SHED_HI 0 → load < s.rd R.FW_SHED_SHED_LO 0 →
    s.rd H.FW_LOW_WIN k = 3 →
    Completes (.shedWindowEnd k load) s fun t =>
      t.rd R.FW_HART_STAT_LEVEL k = s.rd R.FW_HART_STAT_LEVEL k - 1 ∧ t.rd H.FW_LOW_WIN k = 0)
  ∧ (∀ (s : State) (k load : Nat), k < 4 → load < s.rd R.FW_SHED_SHED_HI 0 → s.rd R.FW_SHED_SHED_LO 0 ≤ load →
    Completes (.shedWindowEnd k load) s fun t =>
      t.rd R.FW_HART_STAT_LEVEL k = s.rd R.FW_HART_STAT_LEVEL k ∧ t.rd H.FW_LOW_WIN k = 0)
  ∧ (∀ (s : State) (k : Nat), 4 ≤ k ∨ s.rd R.FW_HART_STAT_STATE k ≠ 0 →
    exec (.watchdogExpiry k) s = .next s ∧ exec (.hartSleep k) s = .next s)
  ∧ (∀ (s : State) (k : Nat), s.bit R.FW_HART_CTRL_SLEEP_OK k = false → exec (.hartSleep k) s = .next s)
  ∧ (∀ (s : State) (k : Nat), 4 ≤ k ∨ s.rd R.FW_HART_STAT_STATE k ≠ 1 → exec (.hartWake k) s = .next s)
  ∧ (∀ (s : State) (k : Nat) (ok : Bool), 4 ≤ k ∨ s.rd R.FW_HART_STAT_STATE k ≠ 2 → exec (.restartCheckDone k ok) s = .next s)
  ∧ (∀ (s : State) (k : Nat), 2 ≤ k → k < 4 → s.rd R.FW_HART_STAT_STATE k = 2 →
    Completes (.restartCheckDone k true) s fun t => t.rd R.FW_HART_STAT_STATE k = 0 ∧ t.bit H.FW_CRC_OK k = true)
  ∧ (∀ (s : State) (k load : Nat), 4 ≤ k → exec (.shedWindowEnd k load) s = .next s)
  ∧ (∀ (s : State) (k load : Nat), k < 4 → load < s.rd R.FW_SHED_SHED_HI 0 → load < s.rd R.FW_SHED_SHED_LO 0 →
    s.rd H.FW_LOW_WIN k ≠ 3 →
    Completes (.shedWindowEnd k load) s fun t =>
      t.rd R.FW_HART_STAT_LEVEL k = s.rd R.FW_HART_STAT_LEVEL k
        ∧ t.rd H.FW_LOW_WIN k = (s.rd H.FW_LOW_WIN k + 1) % 2 ^ H.FW_LOW_WIN.wid)
  ∧ (∀ (s : State) (c j k : Nat), j ≠ k → Writable s ⟨.hart j, c⟩ R.FW_HART_CTRL_SELF_RESET k →
    Completes (.selfReset ⟨.hart j, c⟩ k) s fun t => Refuses ⟨.hart j, c⟩ (R.FW_HART_CTRL_SELF_RESET.word k) 3 s t)
  ∧ (∀ (s : State) (k : Nat), k < 4 → s.rd R.FW_HART_STAT_STATE k = 0 → s.bit H.FW_CRC_OK k = true →
    Completes (.watchdogExpiry k) s fun t =>
      t.rd R.FW_HART_STAT_STATE k = 3 ∧ t.bit H.FW_CRC_OK k = false ∧ t.bit H.FW_REREAD k = true
        ∧ t.bit R.FW_IMAGE_VERIFIED 0 = false ∧ t.rd R.FW_IMAGE_REASON 0 = 0
        ∧ (s.bit H.FLT_TEST_PEND (0x2E8 + k) = true → t.rd H.FLT_RESULT (0x2E8 + k) = 2))

/-- R435, R436, R441, R442, R450–R453: the verdict of a pending test takes a TESTING source to QUIET on PASS and to LASTING
otherwise, with QUIET frames to run; a test at its time limit is NOT_RUN, but the rejoin test of a lost holder that has entered
JOINING FAILs; a QUIET source whose frames have run out, and which nothing holds, is CLEAR, and a LASTING one is tested again; a
source that is due for it becomes SEVERE, which holds a slot and fences a derated phase; a window that ends takes its events away.
Where no test is pending, no limit reached, no frames run out, none due or no window ended, nothing happens. The model's own
choices on which it rests are those of assumptions 6 and 42. -/
def Obligations.SourcesAreJudgedAndCleared : Prop :=
  (∀ (s : State) (n : Nat) (v u : TestVerdict), (srcKind n).isSome = true → s.bit H.FLT_TEST_PEND n = true →
    s.rd R.FLT_SRC_STATE_STATE n = 1 → s.bit H.FLT_SEV_DUE n = false → s.heldVerdict n v = some u →
    Completes (.testVerdict n v) s fun t =>
      t.rd R.FLT_SRC_STATE_STATE n = (if u = .pass then 3 else 2) ∧ t.rd R.FLT_SRC_STATE_VERDICT n = verdictCode u
        ∧ t.rd R.FLT_SRC_STATE_QUIET_LEFT n = s.quietOf n ∧ t.bit H.FLT_TEST_PEND n = false
        ∧ t.rd R.FLT_SRC_STATE_CLASS n
            = (if u = .fail then max 1 (s.rd R.FLT_SRC_STATE_CLASS n) else s.rd R.FLT_SRC_STATE_CLASS n)
        ∧ (∀ m, m ≠ n → t.rd R.FLT_SRC_STATE_STATE m = s.rd R.FLT_SRC_STATE_STATE m))
  ∧ (∀ (s : State) (n : Nat) (v : TestVerdict), s.bit H.FLT_TEST_PEND n = false → exec (.testVerdict n v) s = .next s)
  ∧ (∀ (s : State) (n : Nat), (srcKind n).isSome = true → n ≠ 0x36A → s.bit H.FLT_TEST_PEND n = true →
    s.rd H.FLT_TEST_LEFT n = 0 → s.rd R.FLT_SRC_STATE_STATE n = 1 → s.bit H.FLT_SEV_DUE n = false →
    Completes (.testTimeLimit n) s fun t =>
      t.rd R.FLT_SRC_STATE_STATE n = 2 ∧ t.rd R.FLT_SRC_STATE_VERDICT n = 3 ∧ t.bit H.FLT_TEST_PEND n = false
        ∧ t.rd R.FLT_SRC_STATE_CLASS n = s.rd R.FLT_SRC_STATE_CLASS n)
  ∧ (∀ (s : State) (n : Nat), n < 4096 → s.rd R.FLT_SRC_STATE_QUIET_LEFT n = 0 → s.rd R.FLT_SRC_STATE_STATE n = 3 →
    s.holding n = false →
    Completes (.quietExpiry n) s fun t =>
      t.rd R.FLT_SRC_STATE_STATE n = 0 ∧ t.rd R.FLT_SRC_STATE_CLASS n = 0
        ∧ t.rd R.FLT_SRC_COUNT_RECOVERIES n = satAdd R.FLT_SRC_COUNT_RECOVERIES.wid (s.rd R.FLT_SRC_COUNT_RECOVERIES n) 1
        ∧ t.rd R.FLT_LAST_SOURCE 0 = n ∧ t.rd R.FLT_LAST_STATE 0 = 0 ∧ t.rd R.FLT_LAST_FRAME_FRAME 0 = s.frame % 2 ^ 32)
  ∧ (∀ (s : State) (n : Nat), (srcKind n).isSome = true → s.rd R.FLT_SRC_STATE_QUIET_LEFT n = 0 →
    s.rd R.FLT_SRC_STATE_STATE n = 2 →
    Completes (.quietExpiry n) s fun t =>
      t.rd R.FLT_SRC_STATE_STATE n = 1 ∧ t.bit H.FLT_TEST_PEND n = true
        ∧ t.rd R.FLT_SRC_STATE_CLASS n = s.rd R.FLT_SRC_STATE_CLASS n)
  ∧ (∀ (s : State) (n : Nat), s.rd R.FLT_SRC_STATE_QUIET_LEFT n ≠ 0 → exec (.quietExpiry n) s = .next s)
  ∧ (∀ (s : State) (n : Nat), (srcKind n).isSome = true → s.bit H.FLT_SEV_DUE n = true → s.rd R.FLT_SRC_STATE_STATE n < 4 →
    Completes (.escalationSevere n) s fun t =>
      t.rd R.FLT_SRC_STATE_STATE n = 4 ∧ t.bit H.FLT_SEV_DUE n = false
        ∧ (n < 256 → t.bit H.LE_HOLD_SEV n = true))
  ∧ (∀ (s : State) (n : Nat), n < 4096 → s.rd R.FLT_SRC_COUNT_WIN_LEFT n = 0 →
    Completes (.windowExpiry n) s fun t =>
      t.rd R.FLT_SRC_STATE_EVENTS n = 0 ∧ OnlyFields [(R.FLT_SRC_STATE_EVENTS, n)] s t ∧ OnlyRegs s t)
  ∧ (∀ (s : State) (n : Nat) (v : TestVerdict), s.bit H.FLT_TEST_PEND n = true → s.heldVerdict n v = none →
    exec (.testVerdict n v) s = .next s)
  ∧ (∀ (s : State) (n : Nat), s.bit H.FLT_TEST_PEND n = false ∨ s.rd H.FLT_TEST_LEFT n ≠ 0 → exec (.testTimeLimit n) s = .next s)
  ∧ (∀ (s : State), s.bit H.FLT_TEST_PEND 0x36A = true → s.rd H.FLT_TEST_LEFT 0x36A = 0 → s.bit H.TWIN_REJOIN 0 = true →
    s.rd R.FLT_SRC_STATE_STATE 0x36A = 1 → s.bit H.FLT_SEV_DUE 0x36A = false →
    Completes (.testTimeLimit 0x36A) s fun t =>
      t.rd R.FLT_SRC_STATE_STATE 0x36A = 2 ∧ t.rd R.FLT_SRC_STATE_VERDICT 0x36A = 2 ∧ t.bit H.FLT_TEST_PEND 0x36A = false)
  ∧ (∀ (s : State) (n : Nat), s.rd R.FLT_SRC_STATE_STATE n ≠ 2 → s.rd R.FLT_SRC_STATE_STATE n ≠ 3 ∨ s.holding n = true →
    exec (.quietExpiry n) s = .next s)
  ∧ (∀ (s : State) (n : Nat), s.bit H.FLT_SEV_DUE n = false ∨ 4 ≤ s.rd R.FLT_SRC_STATE_STATE n →
    exec (.escalationSevere n) s = .next s)
  ∧ (∀ (s : State) (p : Nat), p < 128 → s.bit H.FLT_SEV_DUE (0x100 + p) = true → s.rd R.FLT_SRC_STATE_STATE (0x100 + p) < 4 →
    s.bit R.PD_PH_STAT_DERATED p = true → srcPresent s.zk4 (0x100 + p) = true →
    Completes (.escalationSevere (0x100 + p)) s fun t => t.rd R.FLT_SRC_STATE_STATE (0x100 + p) = 4 ∧ t.ph p = 5)
  ∧ (∀ (s : State) (n : Nat), s.rd R.FLT_SRC_COUNT_WIN_LEFT n ≠ 0 → exec (.windowExpiry n) s = .next s)

/-- R329, R347, R442, R444, R458, R459, R464, R465: the fourth timely reply passes a probe test, and a reply after 2 frames, to no
pending test or to a PROBE not sent does nothing; REJECT_CLR zeroes the count of refused writes; an armed injection stages its four
fields, where the fuse, the target and the address allow it, and is refused elsewhere; a comparator that fails its proof test
fences its FALLOW phase, gives a FENCED one its cause, and raises its source; a diode of this instance that fails clamps its
paddocks; a test that passes does nothing; a paddock's sites in judgement become due for the site reference check. The model's own
choices on which it rests are those of assumptions 6, 12 and 42. -/
def Obligations.ProbesInjectionsAndProofTests : Prop :=
  (∀ (s : State) (token n : Nat), s.bit H.FLT_TEST_PEND n = true → (probeTarget n).isSome = true →
    token < s.rd H.FLT_PROBES n → s.probeAge n ≤ token + 2 → token < 4 →
    Completes (.probeReply token n) s fun t =>
      bitOf (t.rd H.FLT_PROBE_GOT n) token = true
        ∧ (t.rd H.FLT_PROBE_GOT n = 15 → s.rd H.FLT_RESULT n = 0 → t.rd H.FLT_RESULT n = 1)
        ∧ (t.rd H.FLT_PROBE_GOT n ≠ 15 → t.rd H.FLT_RESULT n = s.rd H.FLT_RESULT n)
        ∧ OnlyFields [(H.FLT_PROBE_GOT, n), (H.FLT_RESULT, n)] s t ∧ OnlyRegs s t)
  ∧ (∀ (s : State) (token n : Nat), token + 2 < s.probeAge n ∨ s.bit H.FLT_TEST_PEND n = false ∨ probeTarget n = none
      ∨ s.rd H.FLT_PROBES n ≤ token →
    exec (.probeReply token n) s = .next s)
  ∧ (∀ (s : State) (w : WCtx), Writable s w R.FLT_CMD_REJECT_CLR 0 →
    Completes (.rejectClr w) s fun t =>
      t.rd R.FLT_REJECT_COUNT 0 = 0 ∧ t.resp = .ok ∧ OnlyKinds [R.FLT_REJECT_COUNT] s t ∧ OnlyRegsOut s t)
  ∧ (∀ (s : State) (w : WCtx) (arm : Bool) (target index count : Nat), Writable s w R.FLT_INJ_ARM 0 →
    s.mayInject w.req target = true →
    Completes (.faultInjectArm w arm target index count) s fun t =>
      t.staged = s.staged ++ [(R.FLT_INJ_COUNT, count), (R.FLT_INJ_INDEX, index), (R.FLT_INJ_TARGET, target),
          (R.FLT_INJ_ARM, b2n arm)].map (fun x => (⟨if 192 ≤ w.cyc then 1 else 0, .field x.1 0 x.2⟩ : Staged))
        ∧ t.resp = .ok ∧ (w.cyc < 192 → OnlyKinds [] s t) ∧ OnlyKinds [R.FRAME_STAT_DEFER_CNT] s t ∧ OnlyStaged s t)
  ∧ (∀ (s : State) (w : WCtx) (arm : Bool) (target index count : Nat), Writable s w R.FLT_INJ_ARM 0 →
    (target = 0 ∨ 7 < target ∨ (s.zk4 = true ∧ s.ident.fieldLock = true)) →
    Completes (.faultInjectArm w arm target index count) s fun t => Refuses w (R.FLT_INJ_ARM.word 0) 3 s t)
  ∧ (∀ (s : State) (p : Nat), p < phaseCount s.zk4 → s.ph p = 3 →
    Completes (.proofTestScPeriodic p false) s fun t =>
      t.ph p = 5 ∧ t.rd R.PD_PH_STAT_CAUSE p = 1 ∧ Raised (0x100 + p) 1 s t)
  ∧ (∀ (s : State) (p : Nat), exec (.proofTestScPeriodic p true) s = .next s)
  ∧ (∀ (s : State) (d : Nat), s.diodeOwn d = true →
    Completes (.proofTestDiodePeriodic d false) s fun t =>
      t.bit R.TH_DIODE_FAILED d = true ∧ (∀ p ∈ s.diodePads d, p < 128 → t.bit R.TH_PAD_STAT_DIODE_FAIL p = true)
        ∧ Raised (0x21C + d) 1 s t ∧ OnlyKinds (faultFields ++ [R.TH_DIODE_FAILED, R.TH_PAD_STAT_DIODE_FAIL]) s t
        ∧ OnlyFault s t)
  ∧ (∀ (s : State) (p : Nat), Completes (.proofTestSitePeriodic p) s fun t =>
      (∀ k ∈ s.padSites p, k < 1536 → s.rd R.TH_SITE_STATE k = 1 → t.bit H.TH_REF_DUE k = true ∧ t.bit H.TH_PROOF k = true)
        ∧ (∀ k, s.rd R.TH_SITE_STATE k ≠ 1 → t.rd H.TH_REF_DUE k = s.rd H.TH_REF_DUE k)
        ∧ OnlyKinds [H.TH_REF_DUE, H.TH_PROOF] s t ∧ OnlyRegs s t)
  ∧ (∀ (s : State) (p : Nat), p < 128 → s.ph p = 5 → srcPresent s.zk4 (0x100 + p) = true →
    Completes (.proofTestScPeriodic p false) s fun t =>
      t.ph p = 5 ∧ t.rd R.PD_PH_STAT_CAUSE p = 1 ∧ Raised (0x100 + p) 1 s t
        ∧ OnlyKinds (faultFields ++ [R.PD_PH_STAT_CAUSE]) s t ∧ OnlyFault s t)
  ∧ (∀ (s : State) (p : Nat), 128 ≤ p ∨ (s.ph p ≠ 3 ∧ s.ph p ≠ 5) → exec (.proofTestScPeriodic p false) s = .next s)
  ∧ (∀ (s : State) (d : Nat), exec (.proofTestDiodePeriodic d true) s = .next s)
  ∧ (∀ (s : State) (d : Nat), s.diodeOwn d = false → exec (.proofTestDiodePeriodic d false) s = .next s)

/-- R359, R361, R392, R449, R503, R545, R549, R555, R556, R558–R560, R562, R568, R609, R610, R613, R655, R658, R666: a write
that the Store serves, and whose requester may write its bytes, stores them and nothing else, and clears the marks of the words
it covers whole; one that covers a word in part reads it, so that a single-bit error in it is corrected and counted; of a write
that reaches bytes which its requester may not change, the others alone are stored and the write is refused and counted. A
hart's write of a record into the log's next slot moves the log on; one below the least level is ignored, one shed is counted; a
trace record moves the trace on where its point is enabled, and a shed one is counted. An access that crosses a block of 64
bytes is a bus error; before the STORE step has ended a write from outside is refused and a read returns 0. A read of clean
words returns the little-endian value and leaves the Store; one that meets a write of the same word returns some mix of the old
and the new bits and raises nothing; an uncorrectable word gives a hart an access fault and its source, and anyone else a
poisoned answer. A scrub corrects a single-bit error and counts it, records an uncorrectable one, and leaves a bank in retention
alone. H3's test of the failing row takes its marks away and gives the verdict, and a row that fails is retired while a spare is
free. The model's own choices on which it rests are those of assumptions 2, 5, 35, 36 and 60. -/
def Obligations.StoreReadsWritesAndScrubs : Prop :=
  (∀ (s : State) (w : WCtx) (a : Nat) (b : List Byte) (q : Option Requester), storeServed a b.length = true →
    (s.storeShut = false ∨ Requester.isHart w.req = true) →
    (Requester.isHart w.req = true ∨ w.req = .psc ∨ s.allowedBytes w.req a b = (b, false)) →
    (Requester.isHart w.req = true → (a ≠ s.logAt ∨ b.length ≠ 32) ∧ (a ≠ s.traceAt ∨ b.length ≠ 16)) →
    (∀ k ∈ wordsInPart a b.length, s.rd H.STORE_ECC k = 0) →
    Completes (.storeWrite w a ⟨b, q⟩) s fun t =>
      memGetBytes t.store a b.length = b ∧ SameStoreBut a b.length s t ∧ t.resp = .ok
        ∧ (s.bit R.FLT_INJ_ARM 0 = false → ∀ k, a ≤ 4 * k → 4 * k + 4 ≤ a + b.length → t.rd H.STORE_ECC k = 0)
        ∧ OnlyKinds [H.STORE_ECC, H.STORE_BUSYW, R.STORE_BUSY_HART, R.STORE_BUSY_HOST, R.FLT_INJ_STAT_DONE, R.FLT_INJ_ARM] s t
        ∧ t = { s with regs := t.regs, store := t.store, out := t.out, resp := t.resp })
  ∧ (∀ (s : State) (k c : Nat) (b : List Byte) (q : Option Requester), b.length = 32 → s.rd R.FW_LOG_LEVEL_MIN 0 ≤ byteAt b 5 →
    (s.rd R.FW_HART_STAT_LEVEL k < 2 ∨ 3 ≤ byteAt b 5) →
    Completes (.storeWrite ⟨.hart k, c⟩ s.logAt ⟨b, q⟩) s fun t =>
      memGetBytes t.store s.logAt 32 = b ∧ SameStoreBut s.logAt 32 s t
        ∧ t.rd R.FW_LOG_WPTR 0 = (s.rd R.FW_LOG_WPTR 0 + 1) % 65536 ∧ t.resp = .ok
        ∧ (byteAt b 5 = 3 → t.bit R.HOST_IRQ_LOG 0 = true))
  ∧ (∀ (s : State) (w : WCtx) (a : Nat) (b : List Byte) (q : Option Requester), storeServed a b.length = false →
    exec (.storeWrite w a ⟨b, q⟩) s = .next (s.answer .busError))
  ∧ (∀ (s : State) (w : WCtx) (a : Nat) (b : List Byte) (q : Option Requester), storeServed a b.length = true → s.storeShut = true →
    Requester.isHart w.req = false →
    Completes (.storeWrite w a ⟨b, q⟩) s fun t => Refuses w a 3 s t)
  ∧ (∀ (s : State) (w : WCtx) (a n : Nat), storeServed a n = true →
    (s.storeShut = false ∨ Requester.isHart w.req = true) → (∀ k ∈ wordsAt a n, s.rd H.STORE_ECC k = 0) →
    Completes (.storeRead w a n (.ecc .clean)) s fun t =>
      t.resp = .data (s.ld a n) ∧ SameStore s t
        ∧ OnlyKinds [H.STORE_BUSYW, R.STORE_BUSY_HART, R.STORE_BUSY_HOST] s t ∧ OnlyRegsOut s t)
  ∧ (∀ (s : State) (k c a : Nat), k < 4 → storeServed a 4 = true → a % 4 = 0 → s.rd H.STORE_ECC (a / 4) = 0 →
    Completes (.storeRead ⟨.hart k, c⟩ a 4 (.ecc .double)) s fun t =>
      t.resp = .poison ∧ t.bit R.STORE_UE_VALID 0 = true ∧ t.rd R.STORE_UE_ADDR 0 = a / 4
        ∧ t.rd R.STORE_STAT_UE 0 = satAdd R.STORE_STAT_UE.wid (s.rd R.STORE_STAT_UE 0) 1 ∧ .hartEvent k 0x11 ∈ t.out
        ∧ Raised (0x2E8 + k) 1 s t)
  ∧ (∀ (s : State) (a : Nat), a < storeSize → s.bit H.STORE_ASLEEP (bankOf a) = false → s.rd H.STORE_ECC (a / 4) = 0 →
    Completes (.scrubRead a .single) s fun t =>
      t.rd R.STORE_STAT_CE 0 = satAdd R.STORE_STAT_CE.wid (s.rd R.STORE_STAT_CE 0) 1 ∧ t.rd H.STORE_ECC (a / 4) = 0
        ∧ Raised (0x2EC + bankOf a) 0 s t)
  ∧ (∀ (s : State) (row : Nat) (l : List Requester), row < 4096 → s.bit H.FLT_TEST_PEND (0x2EC + row / 256) = true →
    s.hartUp 3 = true → (s.rd H.STORE_FROW (row / 256) = row + 1 ∨ s.rd H.STORE_FROW (row / 256) = 0) →
    Completes (.rowPatternTest row ⟨true, l⟩) s fun t =>
      t.rd H.FLT_RESULT (0x2EC + row / 256) = 1 ∧ t.rd R.STORE_STAT_RETIRED 0 = s.rd R.STORE_STAT_RETIRED 0
        ∧ (∀ k, k / 64 = row → t.rd H.STORE_ECC k = 0) ∧ SameStoreBut (256 * row) 256 s t
        ∧ (∀ k, k / 64 = row → s.rd H.STORE_ECC k % 4 ≠ 2 → t.ld (4 * k) 4 = s.ld (4 * k) 4)
        ∧ (∀ k, .hart k ∈ l → k < 4 → t.bit R.STORE_BUSY_HART k = true)
        ∧ OnlyKinds [H.STORE_ECC, H.FLT_RESULT, R.STORE_BUSY_HART, R.STORE_BUSY_HOST] s t
        ∧ t = { s with regs := t.regs, store := t.store, out := t.out })
  ∧ (∀ (s : State) (row : Nat) (l : List Requester), row < 4096 → s.bit H.FLT_TEST_PEND (0x2EC + row / 256) = true →
    s.hartUp 3 = true → (s.rd H.STORE_FROW (row / 256) = row + 1 ∨ s.rd H.STORE_FROW (row / 256) = 0) →
    s.rd R.STORE_STAT_RETIRED 0 < 16 → s.bit H.STORE_RETIRED row = false →
    Completes (.rowPatternTest row ⟨false, l⟩) s fun t =>
      t.rd H.FLT_RESULT (0x2EC + row / 256) = 2 ∧ t.rd R.STORE_STAT_RETIRED 0 = s.rd R.STORE_STAT_RETIRED 0 + 1
        ∧ t.bit H.STORE_RETIRED row = true)
  ∧ (∀ (s : State) (w : WCtx) (a : Nat) (b : List Byte) (q : Option Requester), storeServed a b.length = true → s.storeShut = false →
    Requester.isHart w.req = false → (s.allowedBytes w.req a b).2 = true →
    (∀ k ∈ wordsInPart a b.length, s.rd H.STORE_ECC k = 0) →
    Completes (.storeWrite w a ⟨b, q⟩) s fun t =>
      t.resp = .refused 4 ∧ t.rd R.FLT_REJECT_COUNT 0 = satAdd R.FLT_REJECT_COUNT.wid (s.rd R.FLT_REJECT_COUNT 0) 1
        ∧ t.rd R.FLT_REJECT_INFO_CAUSE 0 = 4 ∧ t.rd R.FLT_REJECT_INFO_OFFSET 0 = a
        ∧ memGetBytes t.store a b.length = (s.allowedBytes w.req a b).1 ∧ SameStoreBut a b.length s t)
  ∧ (∀ (s : State) (w : WCtx) (a : Nat) (b : List Byte) (q : Option Requester), storeServed a b.length = true → s.storeShut = false →
    w.req = .bmc → b ≠ memGetBytes s.store a b.length → (∀ k < b.length, s.heftReserved (a + k) = 0) →
    Completes (.storeWrite w a ⟨b, q⟩) s fun t => Refuses w a 4 s t)
  ∧ (∀ (s : State) (k c : Nat) (b : List Byte), b.length = 32 → byteAt b 5 < s.rd R.FW_LOG_LEVEL_MIN 0 →
    exec (.storeWrite ⟨.hart k, c⟩ s.logAt ⟨b, none⟩) s = .next (s.answer .ok))
  ∧ (∀ (s : State) (k c : Nat) (b : List Byte), b.length = 32 → s.rd R.FW_LOG_LEVEL_MIN 0 ≤ byteAt b 5 → byteAt b 5 < 3 →
    2 ≤ s.rd R.FW_HART_STAT_LEVEL k →
    Completes (.storeWrite ⟨.hart k, c⟩ s.logAt ⟨b, none⟩) s fun t =>
      t.rd R.FW_LOG_DROPPED 0 = satAdd R.FW_LOG_DROPPED.wid (s.rd R.FW_LOG_DROPPED 0) 1 ∧ t.resp = .ok ∧ SameStore s t
        ∧ OnlyKinds [R.FW_LOG_DROPPED] s t ∧ OnlyRegsOut s t)
  ∧ (∀ (s : State) (k c : Nat) (b : List Byte), b.length = 16 →
    bitOf (s.rd R.FW_TRACE_EN_EN (byteAt b 6 / 32)) (byteAt b 6 % 32) = false →
    exec (.storeWrite ⟨.hart k, c⟩ s.traceAt ⟨b, none⟩) s = .next (s.answer .ok))
  ∧ (∀ (s : State) (k c : Nat) (b : List Byte), b.length = 16 →
    bitOf (s.rd R.FW_TRACE_EN_EN (byteAt b 6 / 32)) (byteAt b 6 % 32) = true → 1 ≤ s.rd R.FW_HART_STAT_LEVEL k →
    Completes (.storeWrite ⟨.hart k, c⟩ s.traceAt ⟨b, none⟩) s fun t =>
      t.rd R.FW_TRACE_TRACE_SHED 0 = satAdd R.FW_TRACE_TRACE_SHED.wid (s.rd R.FW_TRACE_TRACE_SHED 0) 1 ∧ t.resp = .ok
        ∧ SameStore s t ∧ OnlyKinds [R.FW_TRACE_TRACE_SHED] s t ∧ OnlyRegsOut s t)
  ∧ (∀ (s : State) (k c : Nat) (b : List Byte) (q : Option Requester), b.length = 16 →
    bitOf (s.rd R.FW_TRACE_EN_EN (byteAt b 6 / 32)) (byteAt b 6 % 32) = true → s.rd R.FW_HART_STAT_LEVEL k = 0 →
    Completes (.storeWrite ⟨.hart k, c⟩ s.traceAt ⟨b, q⟩) s fun t =>
      memGetBytes t.store s.traceAt 16 = b ∧ SameStoreBut s.traceAt 16 s t ∧ t.resp = .ok
        ∧ t.rd R.FW_TRACE_WPTR 0 = (s.rd R.FW_TRACE_WPTR 0 + 1) % 65536)
  ∧ (∀ (s : State) (w : WCtx) (a n : Nat) (x : ReadMeets), storeServed a n = false →
    exec (.storeRead w a n x) s = .next (s.answer .busError))
  ∧ (∀ (s : State) (w : WCtx) (a n : Nat) (x : ReadMeets), storeServed a n = true → s.storeShut = true →
    Requester.isHart w.req = false → exec (.storeRead w a n x) s = .next (s.answer (.data 0)))
  ∧ (∀ (s : State) (w : WCtx) (a n v : Nat), storeServed a n = true →
    (s.storeShut = false ∨ Requester.isHart w.req = true) →
    Completes (.storeRead w a n (.write v)) s fun t =>
      IsMix (8 * n) (s.ld a n) v t.resp ∧ SameStore s t ∧ OnlyKinds [H.STORE_BUSYW, R.STORE_BUSY_HART, R.STORE_BUSY_HOST] s t
        ∧ t = { s with regs := t.regs, out := t.out, free := t.free, resp := t.resp })
  ∧ (∀ (s : State) (w : WCtx) (a : Nat), Requester.isHart w.req = false → s.storeShut = false → storeServed a 4 = true → a % 4 = 0 →
    s.rd H.STORE_ECC (a / 4) = 0 →
    Completes (.storeRead w a 4 (.ecc .double)) s fun t =>
      t.resp = .poison ∧ t.bit R.STORE_UE_VALID 0 = true ∧ t.rd R.STORE_UE_ADDR 0 = a / 4
        ∧ t.rd R.STORE_STAT_UE 0 = satAdd R.STORE_STAT_UE.wid (s.rd R.STORE_STAT_UE 0) 1 ∧ Raised (0x2EC + bankOf a) 1 s t)
  ∧ (∀ (s : State) (a : Nat), a < storeSize → s.bit H.STORE_ASLEEP (bankOf a) = false → s.rd H.STORE_ECC (a / 4) = 0 →
    Completes (.scrubRead a .double) s fun t =>
      t.rd R.STORE_STAT_UE 0 = satAdd R.STORE_STAT_UE.wid (s.rd R.STORE_STAT_UE 0) 1 ∧ t.rd R.STORE_UE_ADDR 0 = a / 4
        ∧ t.bit R.STORE_UE_VALID 0 = true ∧ Raised (0x2EC + bankOf a) 1 s t)
  ∧ (∀ (s : State) (a : Nat) (e : EccErr), storeSize ≤ a ∨ s.bit H.STORE_ASLEEP (bankOf a) = true
      ∨ (e = .clean ∧ s.rd H.STORE_ECC (a / 4) = 0) →
    exec (.scrubRead a e) s = .next s)
  ∧ (∀ (s : State) (row : Nat) (ok : Bool) (l : List Requester), s.testsRow row = false ∨ s.hartUp 3 = false
      ∨ s.bit H.FLT_TEST_PEND (0x2EC + row / 256) = false →
    exec (.rowPatternTest row ⟨ok, l⟩) s = .next s)
  ∧ (∀ (s : State) (row : Nat), s.testsRow row = true → s.bit H.FLT_TEST_PEND (0x2EC + row / 256) = true → s.hartUp 3 = true →
    16 ≤ s.rd R.STORE_STAT_RETIRED 0 →
    Completes (.rowPatternTest row ⟨false, []⟩) s fun t =>
      t.rd H.FLT_RESULT (0x2EC + row / 256) = 2 ∧ t.rd R.STORE_STAT_RETIRED 0 = s.rd R.STORE_STAT_RETIRED 0
        ∧ t.bit H.STORE_RETIRED row = s.bit H.STORE_RETIRED row)
  ∧ (∀ (s : State) (c a : Nat) (v : Byte), storeServed a 1 = true → s.storeShut = false → s.rd H.STORE_ECC (a / 4) = 1 →
    s.bit R.FLT_INJ_ARM 0 = false →
    Completes (.storeWrite ⟨.psc, c⟩ a ⟨[v], none⟩) s fun t =>
      memGetBytes t.store a 1 = [v] ∧ t.resp = .ok ∧ t.rd H.STORE_ECC (a / 4) = 0
        ∧ t.rd R.STORE_STAT_CE 0 = satAdd R.STORE_STAT_CE.wid (s.rd R.STORE_STAT_CE 0) 1 ∧ Raised (0x2EC + bankOf a) 0 s t)

/-- R556, R559, R563, R565, R566, R572, R574–R577: a requester's atomic adds, adds with saturation or exchanges the word its set
names, hands back the old value and stores to that word alone, and one on an uncorrectable word stores nothing, hands back 0 and
says so; another requester's set and an OP that does not exist are refused; retention bits take banks to sleep and awake, and a
bank that wakes stays awake; a pop by software takes the FIFO's head, or the idle item from an empty FIFO, and ACK starts the
watermark anew. The model's own choices on which it rests are those of assumptions 6 and 35. -/
def Obligations.AtomicsRetentionAndFifo : Prop :=
  (∀ (s : State) (w : WCtx) (k v a : Nat), amoSet w.req = some k → Writable s w R.STORE_AMO_DATA_DATA k →
    s.rd R.STORE_AMO_ADDR_OP k ≠ 3 → (s.storeShut = false ∨ Requester.isHart w.req = true) →
    s.rd H.STORE_ECC (s.rd R.STORE_AMO_ADDR_ADDR k) = 0 → a = 4 * s.rd R.STORE_AMO_ADDR_ADDR k →
    Completes (.amoStart w k v) s fun t =>
      t.ld a 4 = (if s.rd R.STORE_AMO_ADDR_OP k = 0 then (s.ld a 4 + v % 2 ^ 32) % 2 ^ 32
          else if s.rd R.STORE_AMO_ADDR_OP k = 1 then min (2 ^ 32 - 1) (s.ld a 4 + v % 2 ^ 32) else v % 2 ^ 32)
        ∧ t.rd R.STORE_AMO_DATA_DATA k = s.ld a 4 ∧ t.bit R.STORE_AMO_ADDR_UE k = false ∧ SameStoreBut a 4 s t ∧ t.resp = .ok
        ∧ OnlyKinds [R.STORE_AMO_DATA_DATA, R.STORE_AMO_ADDR_UE, H.STORE_ECC, H.STORE_BUSYW, R.STORE_BUSY_HART,
            R.STORE_BUSY_HOST, R.FLT_INJ_STAT_DONE, R.FLT_INJ_ARM] s t)
  ∧ (∀ (s : State) (w : WCtx) (k v : Nat), amoSet w.req ≠ some k → Writable s w R.STORE_AMO_DATA_DATA k →
    Completes (.amoStart w k v) s fun t => Refuses w (R.STORE_AMO_DATA_DATA.word k) 3 s t)
  ∧ (∀ (s : State) (w : WCtx) (v : Nat), Writable s w R.STORE_RET_RET 0 →
    Completes (.retWrite w v) s fun t =>
      (∀ b < 16, t.bit R.STORE_RET_RET b = bitOf v b)
        ∧ (∀ b < 16, t.bit H.STORE_ASLEEP b
            = (if bitOf v b = s.bit R.STORE_RET_RET b then s.bit H.STORE_ASLEEP b else bitOf v b))
        ∧ t.resp = .ok ∧ OnlyKinds [R.STORE_RET_RET, H.STORE_ASLEEP, H.STORE_BUSYW, H.STORE_DMAQ] s t ∧ OnlyRegsOut s t)
  ∧ (∀ (s : State) (bank : Nat), bank < 16 → s.bit H.STORE_BUSYW bank = true →
    Completes (.bankWakeDone bank) s fun t =>
      t.bit H.STORE_BUSYW bank = false ∧ t.bit H.STORE_ASLEEP bank = false
        ∧ OnlyFields [(H.STORE_BUSYW, bank), (H.STORE_ASLEEP, bank), (H.STORE_DMAQ, bank)] s t ∧ OnlyRegs s t)
  ∧ (∀ (s : State) (w : WCtx) (x : FifoWord) (l : List FifoWord), s.bit R.FIFO_CTRL_SW_CONSUME 0 = true → s.fifo = x :: l →
    Completes (.fifoPop w) s fun t =>
      t.fifo = l ∧ t.resp = .data x.payload ∧ t.rd R.FIFO_LAST_ID 0 = x.id % 256 ∧ t.bit R.FIFO_LAST_END 0 = x.fin
        ∧ t.bit R.FIFO_LAST_POISON 0 = x.poison
        ∧ (x.poison = true → t.rd R.FIFO_STAT_PAR_ERR 0 = satAdd R.FIFO_STAT_PAR_ERR.wid (s.rd R.FIFO_STAT_PAR_ERR 0) 1)
        ∧ OnlyKinds [R.FIFO_LAST_ID, R.FIFO_LAST_END, R.FIFO_LAST_POISON, R.FIFO_STAT_PAR_ERR] s t ∧ SameStore s t)
  ∧ (∀ (s : State) (w : WCtx), s.bit R.FIFO_CTRL_SW_CONSUME 0 = false →
    exec (.fifoPop w) s = .next (s.answer (.data 0)))
  ∧ (∀ (s : State) (w : WCtx), Writable s w R.FIFO_WM_ACK 0 →
    Completes (.ack w) s fun t =>
      t.bit R.FIFO_WM_HIT 0 = false ∧ t.rd R.FIFO_WM_CROSSINGS 0 = 0 ∧ t.rd R.FIFO_WM_PEAK 0 = s.fifo.length % 128
        ∧ t.resp = .ok ∧ OnlyKinds [R.FIFO_WM_HIT, R.FIFO_WM_CROSSINGS, R.FIFO_WM_PEAK] s t ∧ OnlyRegsOut s t)
  ∧ (∀ (s : State) (w : WCtx) (k v : Nat), s.rd R.STORE_AMO_ADDR_OP k = 3 → Writable s w R.STORE_AMO_DATA_DATA k →
    Completes (.amoStart w k v) s fun t => Refuses w (R.STORE_AMO_DATA_DATA.word k) 3 s t)
  ∧ (∀ (s : State) (w : WCtx) (k v : Nat), amoSet w.req = some k → Writable s w R.STORE_AMO_DATA_DATA k →
    s.rd R.STORE_AMO_ADDR_OP k ≠ 3 → (s.storeShut = false ∨ Requester.isHart w.req = true) →
    s.rd H.STORE_ECC (s.rd R.STORE_AMO_ADDR_ADDR k) % 4 = 2 →
    Completes (.amoStart w k v) s fun t =>
      t.rd R.STORE_AMO_DATA_DATA k = 0 ∧ t.bit R.STORE_AMO_ADDR_UE k = true ∧ t.resp = .ok
        ∧ t.ld (4 * s.rd R.STORE_AMO_ADDR_ADDR k) 4 = s.ld (4 * s.rd R.STORE_AMO_ADDR_ADDR k) 4
        ∧ t.rd R.STORE_UE_ADDR 0 = s.rd R.STORE_AMO_ADDR_ADDR k)
  ∧ (∀ (s : State) (bank : Nat), 16 ≤ bank ∨ s.bit H.STORE_BUSYW bank = false → exec (.bankWakeDone bank) s = .next s)
  ∧ (∀ (s : State) (w : WCtx), s.bit R.FIFO_CTRL_SW_CONSUME 0 = true → s.fifo = [] →
    Completes (.fifoPop w) s fun t =>
      t.fifo = [] ∧ t.resp = .data 0 ∧ t.rd R.FIFO_LAST_ID 0 = 0xFF ∧ t.bit R.FIFO_LAST_END 0 = false
        ∧ t.bit R.FIFO_LAST_POISON 0 = false ∧ OnlyKinds [R.FIFO_LAST_ID, R.FIFO_LAST_END, R.FIFO_LAST_POISON] s t ∧ OnlyRegsOut s t)

/-- R559, R618–R626, R629–R631, R634: the writer puts the oldest queued record, with its check word, into the slot that R624
gives it and into no other, under the next sequence number, and drops and counts one that finds no slot; a submit queues its
record on a channel from 8 on, before the restore in the staging buffer, drops and counts one that finds no room, and is refused
on a channel below 8; a flush starts with the region as it stands where none runs, is kept where one does, and its end commits
the mirror slot, with the region as it was at the start but for records placed meanwhile, or counts a mirror error; SECONDS
counts. The records of one boundary reach the writer in rising channel order. The model's own choices on which it rests are
those of assumptions 2, 6 and 38. -/
def Obligations.TallyPlacesAndFlushes : Prop :=
  (∀ (s : State) (q : TallyReq) (l : List TallyReq) (i : Nat), s.tallyQueue = q :: l → s.slotFor q.severity = some i →
    s.poisonedIn (tallyAt i) 32 = false →
    Completes .tallyRecordPlace s fun t =>
      t.tallyQueue = l ∧ memGetBytes t.store (tallyAt i) 28 = s.formRecord q
        ∧ t.ld (tallyAt i + 28) 4 = recordCheck (q.channel % 32) (s.formRecord q) % 2 ^ 32
        ∧ t.rd R.TALLY_SEQ_NEXT_SEQ 0 = (s.rd R.TALLY_SEQ_NEXT_SEQ 0 + 1) % 2 ^ 32 ∧ SameStoreBut (tallyAt i) 32 s t
        ∧ OnlyKinds [R.TALLY_SEQ_NEXT_SEQ, H.STORE_ECC, H.TALLY_PEND, R.TALLY_STAT_FLUSHING, H.TALLY_LAST_SLOT] s t
        ∧ t = { s with regs := t.regs, store := t.store, tallyQueue := l, mirror := t.mirror, flush := t.flush })
  ∧ (∀ (s : State), s.tallyQueue = [] → s.bit H.TALLY_PEND 0 = false → exec .tallyRecordPlace s = .next s)
  ∧ (∀ (s : State) (w : WCtx) (v : Nat), Writable s w R.TALLY_SUBMIT_CHANNEL 0 → 8 ≤ v % 32 →
    s.bit R.TALLY_STAT_RESTORED 0 = true → s.tallyQueue.length < 16 →
    Completes (.submit w v) s fun t =>
      t.tallyQueue = s.tallyQueue ++ [⟨v % 32, v / 64 % 4, v / 65536 % 65536,
          [s.rd R.TALLY_SUB_DATA_DATA 0, s.rd R.TALLY_SUB_DATA_DATA 1], false⟩]
        ∧ t.resp = .ok ∧ OnlyKinds [] s t ∧ SameStore s t)
  ∧ (∀ (s : State) (w : WCtx) (v : Nat), Writable s w R.TALLY_SUBMIT_CHANNEL 0 → v % 32 < 8 →
    Completes (.submit w v) s fun t => Refuses w (R.TALLY_SUBMIT_CHANNEL.word 0) 3 s t)
  ∧ (∀ (s : State) (w : WCtx), Writable s w R.TALLY_CTRL_FLUSH 0 → s.bit R.TALLY_STAT_FLUSHING 0 = false →
    s.hartUp s.flushHart = true → s.bit R.TALLY_STAT_RESTORED 0 = true →
    Completes (.flush w) s fun t =>
      t.flush = some ⟨s.chosenSlot, (match newestMirror s.mirror with | some m => m.gen + 1 | none => 1),
          s.rd R.TALLY_SECONDS_SECONDS 0, s.rd R.TALLY_CYCLES_CYCLES 0, s.rd R.TALLY_DROPPED_DROPPED 0,
          s.rd R.TALLY_SEQ_NEXT_SEQ 0, s.tallyImage⟩
        ∧ t.bit R.TALLY_STAT_FLUSHING 0 = true ∧ t.bit H.TALLY_PEND 0 = false
        ∧ t.mirror = s.mirror.filter (fun m => m.slot != s.chosenSlot) ∧ t.resp = .ok
        ∧ OnlyKinds [R.TALLY_STAT_FLUSHING, H.TALLY_PEND, H.TALLY_LAST_SLOT] s t ∧ SameStore s t)
  ∧ (∀ (s : State), s.bit R.TALLY_STAT_FLUSHING 0 = true →
    Completes .tallyFlushPeriodic s fun t =>
      t.bit H.TALLY_PEND 0 = true ∧ OnlyKinds [H.TALLY_PEND] s t ∧ OnlyRegs s t)
  ∧ (∀ (s : State), s.bit R.TALLY_STAT_FLUSHING 0 = false → s.hartUp s.flushHart = true →
    s.bit R.TALLY_STAT_RESTORED 0 = true →
    Completes .tallyFlushPeriodic s fun t =>
      t.bit R.TALLY_STAT_FLUSHING 0 = true ∧ (∃ m, t.flush = some m ∧ m.slot = s.chosenSlot ∧ m.image = s.tallyImage)
        ∧ SameStore s t)
  ∧ (∀ (s : State) (m : MirrorSlot), s.flush = some m → s.hartUp s.flushHart = true → s.bit H.TALLY_PEND 0 = false →
    Completes (.tallyFlushDone true) s fun t =>
      t.flush = none ∧ t.bit R.TALLY_STAT_FLUSHING 0 = false ∧ t.rd R.TALLY_MIRROR_SLOT 0 = m.slot % 2 ^ R.TALLY_MIRROR_SLOT.wid
        ∧ t.rd R.TALLY_MIRROR_GEN 0 = m.gen % 2 ^ R.TALLY_MIRROR_GEN.wid
        ∧ t.mirror = s.mirror ++ [{ m with image := s.flushedImage m.image }]
        ∧ (∀ x ∈ s.flushedImage m.image, x ∈ m.image ∨ x ∈ s.tallyImage)
        ∧ OnlyKinds [R.TALLY_STAT_FLUSHING, R.TALLY_MIRROR_SLOT, R.TALLY_MIRROR_GEN] s t ∧ SameStore s t)
  ∧ (∀ (s : State) (m : MirrorSlot), s.flush = some m → s.hartUp s.flushHart = true → s.bit H.TALLY_PEND 0 = false →
    Completes (.tallyFlushDone false) s fun t =>
      t.flush = none ∧ t.bit R.TALLY_STAT_MIRROR_ERR 0 = true ∧ t.mirror = s.mirror ∧ Raised (0x2E8 + s.flushHart) 1 s t)
  ∧ (∀ (s : State), Completes .operatingSecondTick s fun t =>
      t.rd R.TALLY_SECONDS_SECONDS 0 = min (2 ^ 40 - 1) (s.rd R.TALLY_SECONDS_SECONDS 0 + 1)
        ∧ OnlyKinds [R.TALLY_SECONDS_SECONDS] s t ∧ OnlyRegs s t)
  ∧ (∀ (s : State) (q : TallyReq) (l : List TallyReq), s.tallyQueue = q :: l → (∀ i < 4096, s.poisonedIn (tallyAt i) 32 = false) →
    s.bit H.TALLY_PEND 0 = false →
    Completes .tallyRecordPlace s fun t =>
      t.tallyQueue = l
        ∧ t.rd R.TALLY_DROPPED_DROPPED 0
          = (if s.slotFor q.severity = none then satAdd R.TALLY_DROPPED_DROPPED.wid (s.rd R.TALLY_DROPPED_DROPPED 0) 1
             else s.rd R.TALLY_DROPPED_DROPPED 0)
        ∧ (s.slotFor q.severity = none → OnlyKinds [R.TALLY_DROPPED_DROPPED] s t ∧ t = { s with regs := t.regs, tallyQueue := l }))
  ∧ (∀ (s : State) (q : TallyReq) (l : List TallyReq) (i : Nat), s.tallyQueue = q :: l → s.slotFor q.severity = some i →
    s.poisonedIn (tallyAt i) 32 = true → s.tallyQueue.length ≤ 8 → s.rd R.TALLY_DROPPED_DROPPED 0 < 2 ^ 31 →
    Completes .tallyRecordPlace s fun t =>
      s.rd R.TALLY_DROPPED_DROPPED 0 < t.rd R.TALLY_DROPPED_DROPPED 0 ∧ t.rd R.TALLY_SEQ_NEXT_SEQ 0 = s.rd R.TALLY_SEQ_NEXT_SEQ 0
        ∧ t.bit R.STORE_UE_VALID 0 = true)
  ∧ (∀ (s : State) (w : WCtx) (v : Nat), Writable s w R.TALLY_SUBMIT_CHANNEL 0 → 8 ≤ v % 32 →
    s.bit R.TALLY_STAT_RESTORED 0 = false → s.tallyStage.length < 64 →
    Completes (.submit w v) s fun t =>
      t.tallyStage = s.tallyStage ++ [⟨v % 32, v / 64 % 4, v / 65536 % 65536,
          [s.rd R.TALLY_SUB_DATA_DATA 0, s.rd R.TALLY_SUB_DATA_DATA 1], false⟩]
        ∧ t.tallyQueue = s.tallyQueue ∧ t.resp = .ok ∧ OnlyKinds [] s t ∧ SameStore s t)
  ∧ (∀ (s : State) (w : WCtx) (v : Nat), Writable s w R.TALLY_SUBMIT_CHANNEL 0 → 8 ≤ v % 32 →
    (if s.bit R.TALLY_STAT_RESTORED 0 = true then 16 ≤ s.tallyQueue.length else 64 ≤ s.tallyStage.length) →
    Completes (.submit w v) s fun t =>
      t.rd R.TALLY_DROPPED_DROPPED 0 = satAdd R.TALLY_DROPPED_DROPPED.wid (s.rd R.TALLY_DROPPED_DROPPED 0) 1 ∧ t.resp = .ok
        ∧ OnlyKinds [R.TALLY_DROPPED_DROPPED] s t ∧ OnlyRegsOut s t)
  ∧ (∀ (s : State) (w : WCtx), Writable s w R.TALLY_CTRL_FLUSH 0 →
    s.bit R.TALLY_STAT_FLUSHING 0 = true ∨ s.hartUp s.flushHart = false ∨ s.bit R.TALLY_STAT_RESTORED 0 = false →
    Completes (.flush w) s fun t =>
      t.bit H.TALLY_PEND 0 = true ∧ t.resp = .ok ∧ OnlyKinds [H.TALLY_PEND] s t ∧ OnlyRegsOut s t)
  ∧ (∀ (s : State), s.hartUp s.flushHart = false ∨ s.bit R.TALLY_STAT_RESTORED 0 = false →
    Completes .tallyFlushPeriodic s fun t =>
      t.bit H.TALLY_PEND 0 = true ∧ OnlyKinds [H.TALLY_PEND] s t ∧ OnlyRegs s t)
  ∧ (∀ (s : State) (ok : Bool), s.flush = none ∨ s.hartUp s.flushHart = false → exec (.tallyFlushDone ok) s = .next s)
  ∧ (∀ (s : State) (m : MirrorSlot), s.flush = some m → s.hartUp s.flushHart = true → s.bit H.TALLY_PEND 0 = true →
    s.bit R.TALLY_STAT_RESTORED 0 = true →
    Completes (.tallyFlushDone true) s fun t =>
      t.bit R.TALLY_STAT_FLUSHING 0 = true ∧ t.bit H.TALLY_PEND 0 = false
        ∧ t.rd R.TALLY_MIRROR_SLOT 0 = m.slot % 2 ^ R.TALLY_MIRROR_SLOT.wid
        ∧ (∃ n, t.flush = some n ∧ n.image = s.tallyImage ∧ n.seconds = s.rd R.TALLY_SECONDS_SECONDS 0))
  ∧ (∀ (s : State) (n : Nat) (gf : Bool), s.rd H.RST_SEQ 0 ≠ 1 → Completes (.frameBoundary ⟨n, gf⟩) s fun t =>
      (t.tallyQueue.drop s.tallyQueue.length).Pairwise (fun x y => x.channel ≤ y.channel)
        ∧ (t.tallyStage.drop s.tallyStage.length).Pairwise (fun x y => x.channel ≤ y.channel))

/-- R355–R358, R362, R365, R367, R369, R371, R372, R381, R384, R385, R393, R612, R613: a round that is due takes the next epoch
(it is due at once when H1 has restarted), publishes each queue's rate and nothing else in the Store but its generation, and the
Gate holder sends it; none is sent while no map runs, H1 is down or sheds the work, the unattended policy withholds it, or none
is due. An acknowledgement for this instance is kept, an applied one ends a revert, a first mismatch has FOLD_PARAM and the
round sent again, and a second in a row is a fault; one that is reserved, or for the other instance and of no round applied,
leaves everything. A period opens a free bank and closes the open one, or is merged, once at its first boundary. The model's own
choices on which it rests are those of assumptions 6, 8 and 47. -/
def Obligations.RoundsAcksAndPeriods : Prop :=
  (∀ (s : State), s.running = true → s.hartUp 1 = true → s.shedAt 4 = false → s.roundsOff = false → s.roundDue = true →
    Completes .grantRound s fun t =>
      t.rd R.GL_EPOCH_EPOCH 0 = (s.rd R.GL_EPOCH_EPOCH 0 + 1) % 2 ^ 32 ∧ t.rd H.GL_ROUND_AGE 0 = 0
        ∧ (s.holder = true → t.bit R.GL_STATUS_ROUNDS 0 = true) ∧ t.bit H.GL_ROUND_SOON 0 = false
        ∧ t.bit H.GL_RESTARTED 0 = false ∧ t.bit R.GL_STATUS_FLAT_ALL 0 = false ∧ t.map = s.map)
  ∧ (∀ (s : State), s.running = true → s.hartUp 1 = true → s.shedAt 4 = false → s.roundsOff = false → s.roundDue = true →
    s.glBase + 0x28A00 ≤ storeSize → s.peerCompares = false →
    Completes .grantRound s fun t =>
      (∀ f ∈ s.cfolds, ∀ x ∈ s.foldRates f, t.ld (s.grantAt x.1) 4 = min x.2.1 (2 ^ 31 - 1) + 2 ^ 31 * b2n x.2.2)
        ∧ (∀ a, (∀ f ∈ s.cfolds, ∀ x ∈ s.foldRates f, a < s.grantAt x.1 ∨ s.grantAt x.1 + 4 ≤ a) →
            a < s.grantGenAt ∨ s.grantGenAt + 4 ≤ a → memGet t.store a = memGet s.store a)
        ∧ t.ld s.grantGenAt 4 = (s.ld s.grantGenAt 4 / 2 * 2 + 2) % 2 ^ 32
        ∧ (∀ f ∈ s.cfolds, t.rd H.GL_ROUND_E f = s.rd R.LE_FOLD_EFFECTIVE_EFFECTIVE f)
        ∧ (s.holder = true → ∀ f ∈ s.cfolds, ∀ x ∈ s.foldRates f,
            .mesh [.dispatcher f] (.grant x.1 ((s.rd R.GL_EPOCH_EPOCH 0 + 1) % 2 ^ 32) (min x.2.1 (2 ^ 31 - 1)) x.2.2) ∈ t.out))
  ∧ (∀ (s : State) (f : Nat) (m : RoundAckMsg), f < computeFolds s.zk4 → m.status = 0 → m.source = b2n s.ident.instB →
    m.epoch = s.rd R.GL_EPOCH_EPOCH 0 →
    Completes (.roundAck f m) s fun t =>
      t.rd R.GL_DISP_ACK_ACK_SEQ f = m.grantSeq % 2 ^ 32 ∧ t.rd R.GL_DISP_EPOCH_ACK_EPOCH f = m.epoch
        ∧ t.rd R.GL_DISP_STAT_STATUS f = 0 ∧ t.rd H.GL_APPLIED_E f = s.rd H.GL_ROUND_E f ∧ t.bit H.GL_REVERTED f = false
        ∧ OnlyFields [(R.GL_DISP_ACK_ACK_SEQ, f), (R.GL_DISP_EPOCH_ACK_EPOCH, f), (R.GL_DISP_STAT_STATUS, f),
            (H.GL_APPLIED_E, f), (H.GL_REVERTED, f)] s t ∧ OnlyRegs s t)
  ∧ (∀ (s : State) (f : Nat) (m : RoundAckMsg), f < computeFolds s.zk4 → m.status = 1 → m.source = b2n s.ident.instB →
    m.epoch = s.rd R.GL_EPOCH_EPOCH 0 → s.bit H.GL_MISM f = true →
    Completes (.roundAck f m) s fun t =>
      t.rd R.GL_DISP_STAT_ROUND_FAIL f = satAdd R.GL_DISP_STAT_ROUND_FAIL.wid (s.rd R.GL_DISP_STAT_ROUND_FAIL f) 1
        ∧ t.rd R.GL_DISP_SENT_SENT f = m.grantSeq % 2 ^ 32 ∧ t.rd R.GL_DISP_STAT_STATUS f = 1 ∧ Raised (0x2FC + f) 1 s t)
  ∧ (∀ (s : State) (f : Nat) (m : RoundAckMsg), computeFolds s.zk4 ≤ f ∨ 2 < m.status ∨ (m.source ≠ b2n s.ident.instB
      ∧ (m.status ≠ 0 ∨ m.epoch ≠ s.rd R.GL_EPOCH_EPOCH 0)) →
    exec (.roundAck f m) s = .next s)
  ∧ (∀ (s : State) (k o : Nat), s.frame % 2048 = 0 → s.rd H.GL_PERIOD_DONE 0 ≠ s.frame / 2048 + 1 →
    s.bankIn 0 = some k → s.bankIn 1 = some o → s.glBase + 0x28A00 ≤ storeSize →
    Completes .ledgerPeriodStart s fun t =>
      t.bank k = 1 ∧ t.bank o = 2 ∧ t.rd H.GL_CLOSE_AGE o = 0 ∧ t.rd R.GL_BANK_FIRST_FIRST k = s.frame
        ∧ t.rd R.GL_BANK_FRAMES_FRAMES k = 0 ∧ t.bit R.GL_BANK_STAT_INEXACT k = false ∧ t.bit R.GL_BANK_STAT_LATE k = false
        ∧ t.ld (s.headerAt k) 8 = s.frame ∧ t.ld (s.headerAt k + 0x10) 8 = 0 ∧ SameStoreBut (s.headerAt k) 0x180 s t
        ∧ (s.holder = true → .mesh ((List.range (computeFolds s.zk4)).map Endpoint.dispatcher) (.period (s.frame / 2048 % 256)) ∈ t.out))
  ∧ (∀ (s : State) (o : Nat), s.frame % 2048 = 0 → s.rd H.GL_PERIOD_DONE 0 ≠ s.frame / 2048 + 1 →
    s.bankIn 0 = none → s.bankIn 1 = some o →
    Completes .ledgerPeriodStart s fun t =>
      t.rd R.GL_BANK_STAT_MERGED o = satAdd R.GL_BANK_STAT_MERGED.wid (s.rd R.GL_BANK_STAT_MERGED o) 1 ∧ t.bank o = 1
        ∧ SameStore s t)
  ∧ (∀ (s : State), s.running = true → s.hartUp 1 = true → s.shedAt 4 = false → s.roundsOff = false → s.bit H.GL_RESTARTED 0 = true →
    Completes .grantRound s fun t =>
      t.rd R.GL_EPOCH_EPOCH 0 = (s.rd R.GL_EPOCH_EPOCH 0 + 1) % 2 ^ 32 ∧ t.bit H.GL_RESTARTED 0 = false)
  ∧ (∀ (s : State), s.running = false ∨ s.hartUp 1 = false ∨ s.shedAt 4 = true ∨ s.roundsOff = true ∨ s.roundDue = false →
    exec .grantRound s = .next s)
  ∧ (∀ (s : State) (f : Nat) (m : RoundAckMsg), f < computeFolds s.zk4 → m.status = 0 → m.source ≠ b2n s.ident.instB →
    m.epoch = s.rd R.GL_EPOCH_EPOCH 0 →
    Completes (.roundAck f m) s fun t =>
      t.rd H.GL_APPLIED_E f = s.rd H.GL_ROUND_E f ∧ t.bit H.GL_REVERTED f = false
        ∧ OnlyFields [(H.GL_APPLIED_E, f), (H.GL_REVERTED, f)] s t ∧ OnlyRegs s t)
  ∧ (∀ (s : State) (f : Nat) (m : RoundAckMsg), f < computeFolds s.zk4 → m.status = 2 → m.source = b2n s.ident.instB →
    Completes (.roundAck f m) s fun t =>
      t.rd R.GL_DISP_ACK_ACK_SEQ f = m.grantSeq % 2 ^ 32 ∧ t.rd R.GL_DISP_EPOCH_ACK_EPOCH f = m.epoch % 2 ^ 32
        ∧ t.rd R.GL_DISP_STAT_STATUS f = 2
        ∧ OnlyFields [(R.GL_DISP_ACK_ACK_SEQ, f), (R.GL_DISP_EPOCH_ACK_EPOCH, f), (R.GL_DISP_STAT_STATUS, f)] s t ∧ OnlyRegs s t)
  ∧ (∀ (s : State) (f : Nat) (m : RoundAckMsg), f < computeFolds s.zk4 → m.status = 1 → m.source = b2n s.ident.instB →
    m.epoch = s.rd R.GL_EPOCH_EPOCH 0 → s.bit H.GL_MISM f = false → s.holder = true →
    Completes (.roundAck f m) s fun t =>
      t.rd R.GL_DISP_SENT_SENT f = m.grantSeq % 2 ^ 32 ∧ t.bit H.GL_MISM f = true
        ∧ t.rd R.GL_DISP_STAT_ROUND_FAIL f = s.rd R.GL_DISP_STAT_ROUND_FAIL f
        ∧ .mesh [.dispatcher f] (.foldParam f (s.rd H.GL_FLAT_EFF f) (s.costOfFold f)) ∈ t.out
        ∧ (∀ q ∈ s.queuesOf f, .mesh [.dispatcher f] (.grant q (s.rd R.GL_EPOCH_EPOCH 0) (s.ld (s.grantAt q) 4 % 2 ^ 31)
            (decide (2 ^ 31 ≤ s.ld (s.grantAt q) 4))) ∈ t.out)
        ∧ OnlyFields [(R.GL_DISP_ACK_ACK_SEQ, f), (R.GL_DISP_EPOCH_ACK_EPOCH, f), (R.GL_DISP_STAT_STATUS, f),
            (R.GL_DISP_SENT_SENT, f), (H.GL_MISM, f), (H.GL_FLAT_SENT, f), (H.GL_COST_SENT, f)] s t ∧ OnlyRegsMesh s t)
  ∧ (∀ (s : State), s.frame % 2048 ≠ 0 ∨ s.rd H.GL_PERIOD_DONE 0 = s.frame / 2048 + 1 →
    exec .ledgerPeriodStart s = .next s)
  ∧ (∀ (s : State) (k : Nat), s.frame % 2048 = 0 → s.rd H.GL_PERIOD_DONE 0 ≠ s.frame / 2048 + 1 →
    s.bankIn 0 = some k → s.bankIn 1 = none → s.glBase + 0x28A00 ≤ storeSize →
    Completes .ledgerPeriodStart s fun t =>
      t.bank k = 1 ∧ t.rd R.GL_BANK_FIRST_FIRST k = s.frame ∧ t.rd R.GL_BANK_FRAMES_FRAMES k = 0
        ∧ SameStoreBut (s.headerAt k) 0x180 s t)

/-- R360, R382–R384, R386, R388, R389, R392, R394, R554, R559, R613: the units of a message enter the queue's word and the
fold's total of the bank its period names, a late one marking its bank; a word that would pass its end stays there and makes the
bank INEXACT, as does an uncorrectable one, which takes nothing; a message that finds the DMA port's queue full, or no bank, is
discarded. USAGE_END counts; a bank closed for 64 frames is READY, INEXACT where counts differ; the oldest READY bank is booked,
unless H1 is down, sheds the work or waits for its round, and becomes FREE with its units 0: an idle rail's energy goes to its
shared account, another's beyond its idle power to its queues by their units, and its COST is set. RELEASE frees a READY bank
and no other. The model's own choices on which it rests are those of assumptions 6 and 47. -/
def Obligations.BanksTakeUsageAndAreBooked : Prop :=
  (∀ (s : State) (m : UsageMsg) (k a f : Nat), m.queue < 4096 → s.dmaQueued m.held < 64 → s.usageBank m.period = some (k, false) →
    a = s.unitsAt k m.queue → f = s.headerAt k + 0x80 + 4 * s.queueFold m.queue → s.glBase + 0x28A00 ≤ storeSize →
    s.rd H.STORE_ECC (a / 4) = 0 → s.rd H.STORE_ECC (f / 4) = 0 → s.ld a 4 + m.units < 2 ^ 32 →
    Completes (.usage m) s fun t =>
      t.ld a 4 = s.ld a 4 + m.units ∧ t.ld f 4 = min (s.ld f 4 + m.units) (2 ^ 32 - 1)
        ∧ (∀ b, b < a ∨ a + 4 ≤ b → b < f ∨ f + 4 ≤ b → memGet t.store b = memGet s.store b)
        ∧ t.rd H.GL_UCNT (32 * k + s.queueFold m.queue) = satAdd H.GL_UCNT.wid (s.rd H.GL_UCNT (32 * k + s.queueFold m.queue)) 1
        ∧ (m.waiting = true → bitOf (t.rd H.GL_WAIT m.queue) k = true)
        ∧ OnlyKinds [H.GL_UCNT, H.GL_WAIT, H.STORE_ECC, H.STORE_BUSYW, H.STORE_DMAQ] s t ∧ t = { s with regs := t.regs, store := t.store })
  ∧ (∀ (s : State) (f p k n : Nat), f < computeFolds s.zk4 → s.usageBank p = some (k, false) →
    Completes (.usageEnd f p n) s fun t =>
      t.rd H.GL_UEND (32 * k + f) = satAdd H.GL_UEND.wid (s.rd H.GL_UEND (32 * k + f)) n
        ∧ OnlyFields [(H.GL_UEND, 32 * k + f)] s t ∧ OnlyRegs s t)
  ∧ (∀ (s : State) (k : Nat), k < 4 → s.bank k = 2 → 64 ≤ s.rd H.GL_CLOSE_AGE k →
    (∀ d < computeFolds s.zk4, s.rd H.GL_UCNT (32 * k + d) = s.rd H.GL_UEND (32 * k + d)) →
    Completes (.bankReady k) s fun t =>
      t.bank k = 3 ∧ OnlyFields [(R.GL_BANK_STAT_STATE, k)] s t ∧ OnlyRegs s t)
  ∧ (∀ (s : State) (k d : Nat), k < 4 → s.bank k = 2 → 64 ≤ s.rd H.GL_CLOSE_AGE k → d < computeFolds s.zk4 →
    s.rd H.GL_UCNT (32 * k + d) ≠ s.rd H.GL_UEND (32 * k + d) →
    Completes (.bankReady k) s fun t =>
      t.bank k = 3 ∧ t.bit R.GL_BANK_STAT_INEXACT k = true ∧ bitOf (t.rd H.GL_INEX_R k) (foldRail s.zk4 d) = true
        ∧ SameStoreBut (s.headerAt k + 12) 4 s t)
  ∧ (∀ (s : State) (k : Nat), s.oldestReady = some k → s.hartUp 1 = true → s.shedAt 3 = false → s.bookingWaits = false →
    s.glBase + 0x28A00 ≤ storeSize →
    Completes (.bankBooking k) s fun t =>
      t.bank k = 0 ∧ t.bit H.GL_BANK_SINCE 0 = true ∧ (∀ q < 4096, t.ld (s.unitsAt k q) 4 = 0))
  ∧ (∀ (s : State) (k r : Nat), s.oldestReady = some k → s.hartUp 1 = true → s.shedAt 3 = false → s.bookingWaits = false →
    s.glBase + 0x28A00 ≤ storeSize → s.peerCompares = false → r ∈ railList s.zk4 → (∀ q ∈ s.railQueues r, s.ld (s.unitsAt k q) 4 = 0) →
    Completes (.bankBooking k) s fun t =>
      t.ld (s.sharedAt r) 8
        = (s.ld (s.sharedAt r) 8 + (s.rd H.GL_SHARED_RES r + s.bankEnergy k r) / 1024) % 2 ^ 64
        ∧ t.rd H.GL_SHARED_RES r = (s.rd H.GL_SHARED_RES r + s.bankEnergy k r) % 1024)
  ∧ (∀ (s : State) (w : WCtx) (k : Nat), Writable s w R.GL_BANK_STAT_RELEASE k → s.bank k = 3 →
    s.glBase + 0x28A00 ≤ storeSize →
    Completes (.release w k) s fun t =>
      t.bank k = 0 ∧ (∀ q < 4096, t.ld (s.unitsAt k q) 4 = 0) ∧ SameStoreBut (s.unitsAt k 0) 0x4000 s t ∧ t.resp = .ok
        ∧ OnlyKinds [R.GL_BANK_STAT_STATE, H.STORE_ECC] s t)
  ∧ (∀ (s : State) (m : UsageMsg), 4096 ≤ m.queue ∨ 64 ≤ s.dmaQueued m.held ∨ s.usageBank m.period = none →
    exec (.usage m) s = .next s)
  ∧ (∀ (s : State) (m : UsageMsg) (k a : Nat), m.queue < 4096 → s.dmaQueued m.held < 64 → s.usageBank m.period = some (k, true) →
    a = s.unitsAt k m.queue → s.glBase + 0x28A00 ≤ storeSize → s.rd H.STORE_ECC (a / 4) = 0 →
    s.rd H.STORE_ECC ((s.headerAt k + 0x80 + 4 * s.queueFold m.queue) / 4) = 0 → s.ld a 4 + m.units < 2 ^ 32 →
    Completes (.usage m) s fun t =>
      t.ld a 4 = s.ld a 4 + m.units ∧ t.bit R.GL_BANK_STAT_LATE k = true ∧ bitOf (t.ld (s.headerAt k + 12) 4) 1 = true
        ∧ (m.waiting = true → bitOf (t.rd H.GL_WAIT m.queue) k = true))
  ∧ (∀ (s : State) (m : UsageMsg) (k a : Nat), m.queue < 4096 → s.dmaQueued m.held < 64 → s.usageBank m.period = some (k, false) →
    a = s.unitsAt k m.queue → s.glBase + 0x28A00 ≤ storeSize → s.rd H.STORE_ECC (a / 4) = 0 →
    s.rd H.STORE_ECC ((s.headerAt k + 0x80 + 4 * s.queueFold m.queue) / 4) = 0 → 2 ^ 32 ≤ s.ld a 4 + m.units →
    Completes (.usage m) s fun t =>
      t.ld a 4 = 2 ^ 32 - 1 ∧ t.bit R.GL_BANK_STAT_INEXACT k = true
        ∧ bitOf (t.rd H.GL_INEX_R k) (foldRail s.zk4 (s.queueFold m.queue)) = true ∧ bitOf (t.ld (s.headerAt k + 12) 4) 0 = true)
  ∧ (∀ (s : State) (m : UsageMsg) (k a : Nat), m.queue < 4096 → s.dmaQueued m.held < 64 → s.usageBank m.period = some (k, false) →
    a = s.unitsAt k m.queue → s.rd H.STORE_ECC (a / 4) % 4 = 2 →
    Completes (.usage m) s fun t =>
      t.bit R.GL_BANK_STAT_INEXACT k = true ∧ bitOf (t.rd H.GL_INEX_R k) (foldRail s.zk4 (s.queueFold m.queue)) = true
        ∧ t.bit R.STORE_UE_VALID 0 = true)
  ∧ (∀ (s : State) (f p n : Nat), computeFolds s.zk4 ≤ f ∨ s.usageBank p = none ∨ (∃ k < 4, s.usageBank p = some (k, true)) →
    exec (.usageEnd f p n) s = .next s)
  ∧ (∀ (s : State) (k : Nat), 4 ≤ k ∨ s.bank k ≠ 2 ∨ s.rd H.GL_CLOSE_AGE k < 64 → exec (.bankReady k) s = .next s)
  ∧ (∀ (s : State) (k : Nat), s.oldestReady ≠ some k ∨ s.hartUp 1 = false ∨ s.shedAt 3 = true ∨ s.bookingWaits = true →
    exec (.bankBooking k) s = .next s)
  ∧ (∀ (s : State) (w : WCtx) (k : Nat), Writable s w R.GL_BANK_STAT_RELEASE k → s.bank k ≠ 3 →
    exec (.release w k) s = .next (s.answer .ok))
  ∧ (∀ (s : State) (k r q u e idle c : Nat), s.oldestReady = some k → s.hartUp 1 = true → s.shedAt 3 = false →
    s.bookingWaits = false → s.glBase + 0x28A00 ≤ storeSize → s.peerCompares = false → r ∈ railList s.zk4 →
    u = sumN ((s.railQueues r).map (fun x => s.ld (s.unitsAt k x) 4)) → u ≠ 0 → e = s.bankEnergy k r →
    idle = min e (s.rd R.GL_RAIL_IDLE_IDLE r * s.rd R.GL_BANK_FRAMES_FRAMES k * 1024 / 2000) → q ∈ s.railQueues r →
    c = (e - idle) * s.ld (s.unitsAt k q) 4 / u →
    Completes (.bankBooking k) s fun t =>
      t.ld (s.ledgerAt q) 8 = (s.ld (s.ledgerAt q) 8 + c / 1024 + (s.ld (s.heftAt q) 4 / 65536 + c % 1024) / 1024) % 2 ^ 64
        ∧ t.ld (s.heftAt q) 4 / 65536 = (s.ld (s.heftAt q) 4 / 65536 + c % 1024) % 1024
        ∧ t.rd R.GL_RAIL_COST_COST r = min (2 ^ 32 - 1) ((e - idle) * 1000000 / (u * 1024))
        ∧ (bitOf (s.rd H.GL_INEX_R k) r = true → bitOf (t.ld (s.heftAt q) 4) 5 = true))

/-- R53, R362, R363, R371, R375–R378, R395, R444: a message done at its target counts as sent and leaves the port; one refused
for want of a buffer waits RETRY_GAP frames and goes again, from the Gate holder, to the targets that refused it; after the last
attempt it is given up and its target's source raised; one whose use is bound to its frame is not kept; a credit that returns
frees a place, or sends the first message that waits for it. An instance that has lost the Gate drops what it would send. The
model's own choices on which it rests are those of assumptions 6, 8 and 9. -/
def Obligations.MeshDeliversAndRetries : Prop :=
  (∀ (s : State) (m f mask : Nat) (o : Outstanding), f < 32 → o.targets = [.dispatcher f] → bitOf mask 0 = true →
    s.mesh.outstanding.find? (fun x => x.id == m && !x.retry) = some o →
    Completes (.meshCompletion m mask) s fun t =>
      t.rd R.GL_DISP_SENT_SENT f = (s.rd R.GL_DISP_SENT_SENT f + 1) % 2 ^ 32
        ∧ t.mesh = { s.mesh with outstanding := s.mesh.outstanding.filter (fun x => x.id != m) }
        ∧ OnlyFields [(R.GL_DISP_SENT_SENT, f)] s t ∧ OnlyRegsMesh s t)
  ∧ (∀ (s : State) (m f mask : Nat) (o : Outstanding), f < 32 → o.targets = [.dispatcher f] → bitOf mask 0 = false →
    s.mesh.outstanding.find? (fun x => x.id == m && !x.retry) = some o → o.tries < s.rd R.GL_MESH_RETRY_MAX 0 →
    neverResent o.msg = false →
    Completes (.meshCompletion m mask) s fun t =>
      t.rd R.GL_DISP_STAT_NOBUF f = satAdd R.GL_DISP_STAT_NOBUF.wid (s.rd R.GL_DISP_STAT_NOBUF f) 1
        ∧ { o with retry := true, gap := max 1 (s.rd R.GL_MESH_RETRY_GAP 0) } ∈ t.mesh.outstanding
        ∧ t.mesh.outstanding.length = s.mesh.outstanding.length
        ∧ OnlyFields [(R.GL_DISP_STAT_NOBUF, f)] s t ∧ OnlyRegsMesh s t)
  ∧ (∀ (s : State) (m f mask : Nat) (o : Outstanding), f < computeFolds s.zk4 → o.targets = [.dispatcher f] →
    bitOf mask 0 = false → s.mesh.outstanding.find? (fun x => x.id == m && !x.retry) = some o →
    s.rd R.GL_MESH_RETRY_MAX 0 ≤ o.tries → neverResent o.msg = false →
    Completes (.meshCompletion m mask) s fun t =>
      t.rd R.GL_MESH_STAT_FAILED 0 = satAdd R.GL_MESH_STAT_FAILED.wid (s.rd R.GL_MESH_STAT_FAILED 0) 1
        ∧ Raised (0x2FC + f) 1 s t ∧ OnlyFault s t)
  ∧ (∀ (s : State) (m : Nat) (o : Outstanding), s.holder = true →
    s.mesh.outstanding.find? (fun x => x.id == m && x.retry && x.gap == 0) = some o →
    Completes (.meshRetry m) s fun t =>
      .mesh o.targets o.msg ∈ t.out ∧ { o with tries := o.tries + 1, retry := false } ∈ t.mesh.outstanding
        ∧ t.rd R.GL_MESH_STAT_RETRIES 0 = satAdd R.GL_MESH_STAT_RETRIES.wid (s.rd R.GL_MESH_STAT_RETRIES 0) 1
        ∧ OnlyKinds [R.GL_MESH_STAT_RETRIES] s t ∧ OnlyRegsMesh s t)
  ∧ (∀ (s : State) (e : Nat), e < 4096 → s.rd H.GL_SPENT e ≠ 0 → (∀ x ∈ s.mesh.waiting, x.1 ≠ endpointOf e) →
    Completes (.creditReturn e) s fun t =>
      t.rd H.GL_SPENT e = s.rd H.GL_SPENT e - 1 ∧ OnlyFields [(H.GL_SPENT, e)] s t ∧ OnlyRegs s t)
  ∧ (∀ (s : State) (e : Nat) (x : Endpoint × MeshMsg), e < 4096 → (endpointOf e).num = e → s.rd H.GL_SPENT e ≠ 0 →
    s.rd H.GL_SPENT e ≤ 2 → s.holder = true → s.mesh.waiting.find? (fun y => y.1 == endpointOf e) = some x →
    Completes (.creditReturn e) s fun t =>
      .mesh [x.1] x.2 ∈ t.out ∧ t.mesh.waiting = s.mesh.waiting.erase x ∧ OnlyKinds [] s t ∧ OnlyRegsMesh s t)
  ∧ (∀ (s : State) (m mask : Nat), s.mesh.outstanding.find? (fun x => x.id == m && !x.retry) = none →
    exec (.meshCompletion m mask) s = .next s)
  ∧ (∀ (s : State) (m mask i f : Nat) (o : Outstanding) (l : List Endpoint), f < computeFolds s.zk4 →
    s.mesh.outstanding.find? (fun x => x.id == m && !x.retry) = some o → o.targets.Nodup → o.targets[i]? = some (.dispatcher f) →
    l = (o.targets.zipIdx.filter (fun x => !bitOf mask x.2)).map Prod.fst → o.tries < s.rd R.GL_MESH_RETRY_MAX 0 →
    neverResent o.msg = false →
    Completes (.meshCompletion m mask) s fun t =>
      t.rd R.GL_DISP_SENT_SENT f
          = (if bitOf mask i = true then (s.rd R.GL_DISP_SENT_SENT f + 1) % 2 ^ 32 else s.rd R.GL_DISP_SENT_SENT f)
        ∧ t.rd R.GL_DISP_STAT_NOBUF f
          = (if bitOf mask i = true then s.rd R.GL_DISP_STAT_NOBUF f
             else satAdd R.GL_DISP_STAT_NOBUF.wid (s.rd R.GL_DISP_STAT_NOBUF f) 1)
        ∧ (l ≠ [] → { o with targets := l, retry := true, gap := max 1 (s.rd R.GL_MESH_RETRY_GAP 0) } ∈ t.mesh.outstanding)
        ∧ OnlyKinds [R.GL_DISP_SENT_SENT, R.GL_DISP_STAT_NOBUF] s t ∧ OnlyRegsMesh s t)
  ∧ (∀ (s : State) (m f mask : Nat) (o : Outstanding), f < 32 → o.targets = [.dispatcher f] → bitOf mask 0 = false →
    s.mesh.outstanding.find? (fun x => x.id == m && !x.retry) = some o → neverResent o.msg = true →
    Completes (.meshCompletion m mask) s fun t =>
      t.rd R.GL_DISP_STAT_NOBUF f = satAdd R.GL_DISP_STAT_NOBUF.wid (s.rd R.GL_DISP_STAT_NOBUF f) 1
        ∧ t.mesh = { s.mesh with outstanding := s.mesh.outstanding.filter (fun x => x.id != m) }
        ∧ OnlyFields [(R.GL_DISP_STAT_NOBUF, f)] s t ∧ OnlyRegsMesh s t)
  ∧ (∀ (s : State) (m : Nat), s.mesh.outstanding.find? (fun x => x.id == m && x.retry && x.gap == 0) = none →
    exec (.meshRetry m) s = .next s)
  ∧ (∀ (s : State) (m : Nat) (o : Outstanding), s.holder = false →
    s.mesh.outstanding.find? (fun x => x.id == m && x.retry && x.gap == 0) = some o →
    Completes (.meshRetry m) s fun t =>
      t = { s with mesh := { s.mesh with outstanding := s.mesh.outstanding.filter (fun x => x.id != m) } })
  ∧ (∀ (s : State) (e : Nat), s.rd H.GL_SPENT e = 0 → exec (.creditReturn e) s = .next s)
  ∧ (∀ (s : State) (e : Nat) (x : Endpoint × MeshMsg), e < 4096 → s.rd H.GL_SPENT e ≠ 0 → s.holder = false →
    s.mesh.waiting.find? (fun y => y.1 == endpointOf e) = some x →
    Completes (.creditReturn e) s fun t =>
      t.rd H.GL_SPENT e = s.rd H.GL_SPENT e - 1 ∧ t.mesh = { s.mesh with waiting := s.mesh.waiting.erase x } ∧ t.out = s.out
        ∧ OnlyFields [(H.GL_SPENT, e)] s t ∧ OnlyRegsMesh s t)

/-- R592–R600, R603, R614: ATTACH with a well-formed payload of the same major version attaches the host and names the features,
of another major version it is answered VERSION; DETACH and a heartbeat that lapses leave it unattended, and the map's record
acts; GET_STATUS answers the status words; RING_CREATE opens the ring where the pool has room, RING_RESET and RING_DESTROY take
it back, and each is answered BAD_ARG, BUSY or NO_SPACE where it cannot; an opcode outside the table is answered UNKNOWN; a
command that R600 turns away is answered with its status and does nothing else, and none is taken where none is posted or the
ring is not served. An entry of a newer generation breaks the ring, one of an older waits for the doorbell, which moves the
host's indices and is a heartbeat; a completion that has found the queue full is written once slots are returned. The model's
own choices on which it rests are those of assumptions 31 and 37. -/
def Obligations.HostAttachesAndManagesRings : Prop :=
  (∀ (s : State) (p : List Byte), Asks s 0 0x01 { ring0 := true, free := true } → p = s.payload 0 → p.length = 16 →
    u16At p 2 = 0 → byteAt p 12 < 64 → u16At p 13 = 0 → byteAt p 15 = 0 → u16At p 0 / 256 = s.rd H.FW_IF_VER 0 / 256 →
    Completes (.attach 0) s fun t =>
      t.bit R.HOST_STAT_ATTACHED 0 = true ∧ t.bit R.HOST_STAT_UNATTENDED 0 = false ∧ t.bit R.GL_STATUS_UNATTENDED 0 = false
        ∧ t.rd R.HOST_STAT_NOTIFY_RING 0 = byteAt p 12 ∧ t.rd H.FW_FEATURES 0 = (u32At p 4 &&& Config.features) % 2048
        ∧ Answers s 0 0 (s.rd H.FW_IF_VER 0 * 65536 + s.rd R.FW_VERSION_VERSION 0 % 65536)
            ((u32At p 4 &&& Config.features) % 2048) t
        ∧ SameStoreBut (s.cplAt 0) 16 s t)
  ∧ (∀ (s : State), Asks s 0 0x02 { ring0 := true, free := true } →
    Completes (.detach 0) s fun t =>
      t.bit R.HOST_STAT_ATTACHED 0 = false ∧ Answers s 0 0 0 0 t
        ∧ (s.bit R.HOST_STAT_ATTACHED 0 = true → t.bit R.HOST_STAT_UNATTENDED 0 = true ∧ t.bit R.GL_STATUS_UNATTENDED 0 = true
            ∧ .hartEvent 1 0x13 ∈ t.out ∧ .hartEvent 2 0x13 ∈ t.out))
  ∧ (∀ (s : State) (r : Nat), Asks s r 0x03 { governor := true, free := true } → s.bit R.STATUS_SAFE_GOV 0 = false →
    Completes (.getStatus r) s fun t =>
      Answers s r 0 (s.rawWord 0x100008) (s.rawWord 0x10000C) t ∧ SameStoreBut (s.cplAt r) 16 s t
        ∧ OnlyKinds answerFields s t)
  ∧ (∀ (s : State) (p : List Byte) (k a b d : Nat), Asks s 0 0x04 { ring0 := true, feature := some 10 } → p = s.payload 0 →
    p.length = 4 → k = byteAt p 0 → 0 < k → k < 64 → 4 ≤ byteAt p 1 → byteAt p 1 ≤ 12 → 4 ≤ byteAt p 2 → byteAt p 2 ≤ 12 →
    byteAt p 3 ≤ 8 → s.bit R.RING_CFG_EN k = false → fitPool s.poolUsed 256 (64 * 2 ^ byteAt p 1) = some a →
    fitPool (s.poolUsed ++ [(a, 64 * 2 ^ byteAt p 1)]) 16 (16 * 2 ^ byteAt p 2) = some b →
    fitPool (s.poolUsed ++ [(a, 64 * 2 ^ byteAt p 1)] ++ [(b, 16 * 2 ^ byteAt p 2)]) 4096 (4096 * byteAt p 3) = some d →
    Completes (.ringCreate 0) s fun t =>
      t.bit R.RING_CFG_EN k = true ∧ t.rd R.RING_CFG_CMD_LOG2 k = byteAt p 1 ∧ t.rd R.RING_CFG_CPL_LOG2 k = byteAt p 2
        ∧ 256 * t.rd R.RING_CMD_BASE_BASE k = a ∧ 16 * t.rd R.RING_CPL_BASE_BASE k = b ∧ t.rd R.RING_DATA_PAGES k = byteAt p 3
        ∧ 4096 * t.rd R.RING_DATA_BASE k = d ∧ t.rd R.RING_POS_CMD_HEAD k = 0 ∧ t.rd R.RING_POS_CPL_TAIL k = 0
        ∧ t.bit R.RING_CFG_ERR k = false ∧ Answers s 0 0 a (b + d / 4096 % 256 * 2 ^ 20) t)
  ∧ (∀ (s : State) (k : Nat), Asks s 0 0x05 { ring0 := true } → (s.payload 0).length = 1 → k = byteAt (s.payload 0) 0 →
    0 < k → k < 64 → s.bit R.RING_CFG_EN k = true → bitOf (s.rd H.FW_FEATURES 0) 10 = true →
    Completes (.ringReset 0) s fun t =>
      t.bit R.RING_CFG_ERR k = false ∧ t.rd R.RING_DB_CMD_TAIL k = 0 ∧ t.rd R.RING_DB_CPL_HEAD k = 0
        ∧ t.rd R.RING_POS_CPL_TAIL k = 0 ∧ t.rd R.RING_POS_CMD_HEAD k = 0 ∧ t.bit R.RING_CFG_EN k = true ∧ Answers s 0 0 0 0 t)
  ∧ (∀ (s : State) (k : Nat), Asks s 0 0x06 { ring0 := true, feature := some 10 } → (s.payload 0).length = 1 →
    k = byteAt (s.payload 0) 0 → 0 < k → k < 64 → s.bit R.RING_CFG_EN k = true →
    Completes (.ringDestroy 0) s fun t => t.bit R.RING_CFG_EN k = false ∧ Answers s 0 0 0 0 t)
  ∧ (∀ (s : State) (r : Nat), s.takes r = true → knownOps.contains (s.cmdOp r) = false →
    s.rd R.RING_DB_CMD_TAIL r = (s.rd R.RING_POS_CMD_HEAD r + 1) % 65536 → s.cplAt r + 16 ≤ storeSize →
    Completes (.unknownOpcode r) s fun t =>
      Answers s r 2 0 0 t ∧ SameStoreBut (s.cplAt r) 16 s t ∧ OnlyKinds answerFields s t)
  ∧ (∀ (s : State) (w : WCtx) (r v : Nat), Writable s w R.RING_DB_CMD_TAIL r →
    Completes (.ringDoorbell w r v) s fun t =>
      t.rd R.RING_DB_CMD_TAIL r = v / 65536 % 65536 ∧ t.rd R.RING_DB_CPL_HEAD r = v % 65536 ∧ t.resp = .ok
        ∧ (w.req = .host → t.rd R.HOST_STAT_HB_AGE 0 = 0)
        ∧ (s.rd R.FW_HART_STAT_STATE 2 = 1 → t.rd R.FW_HART_STAT_STATE 2 = 0))
  ∧ (∀ (s : State) (c : Nat), Writable s ⟨.host, c⟩ R.HOST_HB_HB 0 →
    Completes (.hb ⟨.host, c⟩) s fun t =>
      t.rd R.HOST_STAT_HB_AGE 0 = 0 ∧ t.resp = .ok ∧ OnlyKinds [R.HOST_STAT_HB_AGE] s t ∧ OnlyRegsOut s t)
  ∧ (∀ (s : State), s.bit R.HOST_STAT_ATTACHED 0 = true → 2000 ≤ s.rd R.HOST_STAT_HB_AGE 0 →
    Completes .heartbeatLapse s fun t =>
      t.bit R.HOST_STAT_ATTACHED 0 = false ∧ t.bit R.HOST_STAT_UNATTENDED 0 = true ∧ t.bit R.GL_STATUS_UNATTENDED 0 = true
        ∧ t.bit R.HOST_IRQ_UNATT 0 = true ∧ .hartEvent 1 0x13 ∈ t.out ∧ .hartEvent 2 0x13 ∈ t.out ∧ SameStore s t)
  ∧ (∀ (s : State) (r st : Nat), ∀ x ∈ ([(.attach r, 0x01, { ring0 := true, free := true }), (.detach r, 0x02, { ring0 := true, free := true }),
      (.getStatus r, 0x03, { governor := true, free := true }), (.ringCreate r, 0x04, { ring0 := true, feature := some 10 }),
      (.ringReset r, 0x05, { ring0 := true }), (.ringDestroy r, 0x06, { ring0 := true, feature := some 10 })] : List (Instr × Nat × CmdRule)), s.takes r = true → s.cmdOp r = x.2.1 →
    s.turnAway r x.2.2 = some st → s.rd R.RING_DB_CMD_TAIL r = (s.rd R.RING_POS_CMD_HEAD r + 1) % 65536 → s.cplAt r + 16 ≤ storeSize →
    Completes x.1 s fun t => Answers s r st 0 0 t ∧ SameStoreBut (s.cplAt r) 16 s t ∧ OnlyKinds answerFields s t)
  ∧ (∀ (s : State) (r : Nat), ∀ x ∈ ([(.attach r, 0x01, { ring0 := true, free := true }), (.detach r, 0x02, { ring0 := true, free := true }),
      (.getStatus r, 0x03, { governor := true, free := true }), (.ringCreate r, 0x04, { ring0 := true, feature := some 10 }),
      (.ringReset r, 0x05, { ring0 := true }), (.ringDestroy r, 0x06, { ring0 := true, feature := some 10 })] : List (Instr × Nat × CmdRule)), s.served r = false ∨ s.posted r = false
      ∨ s.bit R.RING_CFG_ERR r = true → s.takes r = false ∨ s.cmdOp r ≠ x.2.1 → exec x.1 s = .next s)
  ∧ (∀ (s : State) (p : List Byte), Asks s 0 0x01 { ring0 := true, free := true } → p = s.payload 0 →
    (p.length ≠ 16 ∨ u16At p 2 ≠ 0 ∨ 64 ≤ byteAt p 12 ∨ u16At p 13 ≠ 0 ∨ byteAt p 15 ≠ 0) →
    Completes (.attach 0) s fun t => Answers s 0 3 0 0 t ∧ OnlyKinds answerFields s t)
  ∧ (∀ (s : State) (p : List Byte), Asks s 0 0x01 { ring0 := true, free := true } → p = s.payload 0 → p.length = 16 →
    u16At p 2 = 0 → byteAt p 12 < 64 → u16At p 13 = 0 → byteAt p 15 = 0 → u16At p 0 / 256 ≠ s.rd H.FW_IF_VER 0 / 256 →
    Completes (.attach 0) s fun t =>
      Answers s 0 10 (s.rd H.FW_IF_VER 0 * 65536 + s.rd R.FW_VERSION_VERSION 0 % 65536) 0 t ∧ OnlyKinds answerFields s t)
  ∧ (∀ (s : State), Asks s 0 0x03 { governor := true, free := true } → s.bit R.STATUS_SAFE_GOV 0 = true → s.bufAt 0 + 4 ≤ storeSize →
    (s.cplAt 0 + 16 ≤ s.bufAt 0 ∨ s.bufAt 0 + 4 ≤ s.cplAt 0) → (s.cmdAt 0 + 64 ≤ s.bufAt 0 ∨ s.bufAt 0 + 4 ≤ s.cmdAt 0) →
    Completes (.getStatus 0) s fun t =>
      t.ld (s.bufAt 0) 4 = s.rawWord 0x100010 % 2 ^ 32 ∧ Answers s 0 0 (s.rawWord 0x100008) (s.rawWord 0x10000C) t)
  ∧ (∀ (s : State) (p : List Byte) (k st : Nat), Asks s 0 0x04 { ring0 := true, feature := some 10 } → p = s.payload 0 → k = byteAt p 0 →
    (((p.length ≠ 4 ∨ k = 0 ∨ 64 ≤ k ∨ byteAt p 1 < 4 ∨ 12 < byteAt p 1 ∨ byteAt p 2 < 4 ∨ 12 < byteAt p 2 ∨ 8 < byteAt p 3) ∧ st = 3)
      ∨ (p.length = 4 ∧ 0 < k ∧ k < 64 ∧ 4 ≤ byteAt p 1 ∧ byteAt p 1 ≤ 12 ∧ 4 ≤ byteAt p 2 ∧ byteAt p 2 ≤ 12 ∧ byteAt p 3 ≤ 8
        ∧ ((s.bit R.RING_CFG_EN k = true ∧ st = 1)
          ∨ (s.bit R.RING_CFG_EN k = false ∧ fitPool s.poolUsed 256 (64 * 2 ^ byteAt p 1) = none ∧ st = 7)))) →
    Completes (.ringCreate 0) s fun t =>
      Answers s 0 st 0 0 t ∧ SameStoreBut (s.cplAt 0) 16 s t ∧ OnlyKinds answerFields s t)
  ∧ (∀ (s : State) (p : List Byte) (k st : Nat), Asks s 0 0x05 { ring0 := true } → p = s.payload 0 → k = byteAt p 0 →
    (((p.length ≠ 1 ∨ 64 ≤ k ∨ s.bit R.RING_CFG_EN k = false) ∧ st = 3)
      ∨ (p.length = 1 ∧ 0 < k ∧ k < 64 ∧ s.bit R.RING_CFG_EN k = true ∧ bitOf (s.rd H.FW_FEATURES 0) 10 = false ∧ st = 4)) →
    Completes (.ringReset 0) s fun t => Answers s 0 st 0 0 t ∧ OnlyKinds answerFields s t)
  ∧ (∀ (s : State), Asks s 0 0x05 { ring0 := true } → (s.payload 0).length = 1 → byteAt (s.payload 0) 0 = 0 →
    Completes (.ringReset 0) s fun t =>
      t.rd R.RING_POS_CMD_HEAD 0 = 0 ∧ t.rd R.RING_POS_CPL_TAIL 0 = 0 ∧ t.rd R.RING_DB_CMD_TAIL 0 = 0
        ∧ t.rd R.RING_DB_CPL_HEAD 0 = 0 ∧ t.bit R.RING_CFG_ERR 0 = false ∧ t.ld (s.cplAt 0 + 2) 2 = s.cmdTag 0
        ∧ t.ld (s.cplAt 0 + 4) 1 = 0 ∧ SameStoreBut (s.cplAt 0) 16 s t)
  ∧ (∀ (s : State) (p : List Byte) (k : Nat), Asks s 0 0x06 { ring0 := true, feature := some 10 } → p = s.payload 0 → k = byteAt p 0 →
    (p.length ≠ 1 ∨ k = 0 ∨ 64 ≤ k ∨ s.bit R.RING_CFG_EN k = false) →
    Completes (.ringDestroy 0) s fun t => Answers s 0 3 0 0 t ∧ OnlyKinds answerFields s t)
  ∧ (∀ (s : State) (r : Nat), s.served r = true → s.posted r = true → s.bit R.RING_CFG_ERR r = false →
    newer 16 (s.rd R.RING_POS_CMD_HEAD r) (s.cmdGen r) = true → s.cplAt r + 16 ≤ storeSize →
    Completes (.unknownOpcode r) s fun t =>
      t.bit R.RING_CFG_ERR r = true ∧ t.ld (s.cplAt r + 4) 1 = 9 ∧ t.ld (s.cplAt r + 2) 2 = s.cmdTag r
        ∧ t.rd R.RING_POS_CMD_HEAD r = s.rd R.RING_POS_CMD_HEAD r ∧ SameStoreBut (s.cplAt r) 16 s t)
  ∧ (∀ (s : State) (r : Nat), s.served r = true → s.posted r = true → s.bit R.RING_CFG_ERR r = false →
    s.cmdGen r ≠ s.rd R.RING_POS_CMD_HEAD r → newer 16 (s.rd R.RING_POS_CMD_HEAD r) (s.cmdGen r) = false →
    Completes (.unknownOpcode r) s fun t =>
      t.bit H.FW_RING_WAIT r = true ∧ OnlyFields [(H.FW_RING_WAIT, r)] s t ∧ OnlyRegs s t)
  ∧ (∀ (s : State), s.bit R.HOST_STAT_ATTACHED 0 = false ∨ s.rd R.HOST_STAT_HB_AGE 0 < 2000 → exec .heartbeatLapse s = .next s)
  ∧ (∀ (s : State) (w : WCtx) (r v : Nat), r < 64 → Writable s w R.RING_DB_CMD_TAIL r → s.bit H.FW_CPL_DUE r = true →
    s.bit R.STATUS_SAFE_GOV 0 = false → s.hartUp 2 = true →
    (s.rd R.RING_POS_CPL_TAIL r + 65536 - v % 65536) % 65536 < 2 ^ s.rd R.RING_CFG_CPL_LOG2 r →
    v / 65536 % 65536 = (s.rd R.RING_POS_CMD_HEAD r + 1) % 65536 → s.cplAt r + 16 ≤ storeSize →
    Completes (.ringDoorbell w r v) s fun t =>
      Posts s r (s.rd H.FW_RING_TAG r) (s.rd H.FW_RING_OP r) (s.rd H.FW_CPL_STATUS r) (s.rd H.FW_CPL_R0 r) (s.rd H.FW_CPL_R1 r) t
        ∧ t.bit H.FW_CPL_DUE r = false ∧ t.rd H.FW_RING_OP r = 0 ∧ SameStoreBut (s.cplAt r) 16 s t)

/-- R504, R518, R526, R534, R542, R583, R589, R599–R602: LOAD_MAP starts the check from this ring, waits while H0 is down, and
is answered BUSY, NOT_READY or REFUSED where it cannot; a MAP_DATA chunk is consumed and answered, the last one waits for the
check, and one that no load takes is answered REFUSED or NOT_READY; a flash stream opens on an erased region with the Warden's
window, an image only in role DETACHED or under the safe governor, and not while another ring's runs; its data is written in
order and is turned away where its window has closed or its region is full; its end is answered with the check of what was
written, once the completion queue has a place. A command that R600 turns away is answered with its status and does nothing
else. The model's own choices on which it rests are those of assumptions 18 and 37. -/
def Obligations.RingsCarryMapsAndImages : Prop :=
  (∀ (s : State) (r : Nat), Asks s r 0x10 { governor := true, feature := some 3 } → s.hartUp 0 = true →
    s.bit R.STATUS_SAFE_GOV 0 = false → s.rd R.RUN_STATE 0 = 0 → s.stageA = none →
    Completes (.loadMap r) s fun t =>
      t.rd R.RUN_STATE 0 = 1 ∧ t.runEn = true ∧ t.bit H.TOP_LOAD_SRC 0 = true ∧ t.rd H.TOP_LOAD_RING 0 = r
        ∧ t.map.stream = [] ∧ t.map.shadow = none ∧ t.rd R.REFUSE_CODE 0 = 0 ∧ Answers s r 0 0 0 t
        ∧ SameStoreBut (s.cplAt r) 16 s t)
  ∧ (∀ (s : State) (r : Nat), Asks s r 0x11 { governor := true, feature := some 3 } → s.cmdData r = true →
    s.ringLoading r = true → s.cmdLast r = false →
    Completes (.mapData r) s fun t =>
      t.map.stream = s.map.stream ++ s.payload r ∧ t.map.last = false ∧ Answers s r 0 0 0 t
        ∧ SameStoreBut (s.cplAt r) 16 s t ∧ OnlyKinds answerFields s t)
  ∧ (∀ (s : State) (r : Nat), Asks s r 0x11 { governor := true, feature := some 3 } → s.cmdData r = true →
    s.ringLoading r = true → s.cmdLast r = true →
    Completes (.mapData r) s fun t =>
      t.map.stream = s.map.stream ++ s.payload r ∧ t.map.last = true ∧ t.rd H.FW_RING_OP r = 0x11
        ∧ t.rd R.RING_POS_CMD_HEAD r = s.rd R.RING_POS_CMD_HEAD r ∧ SameStore s t
        ∧ OnlyKinds [H.FW_RING_TAG, H.FW_RING_OP] s t)
  ∧ (∀ (s : State) (r : Nat), Asks s r 0x12 { governor := true, feature := some 4 } → s.bit R.WARDEN_OPEN 0 = true →
    s.rd H.FW_FLASH_OP 0 = 0 →
    Completes (.flashMap r) s fun t =>
      t.rd H.FW_FLASH_OP 0 = 1 ∧ t.rd H.FW_FLASH_RING 0 = r ∧ t.map = { s.map with flash := [] } ∧ Answers s r 0 0 0 t)
  ∧ (∀ (s : State) (r : Nat), Asks s r 0x12 { governor := true, feature := some 4 } → s.bit R.WARDEN_OPEN 0 = false →
    Completes (.flashMap r) s fun t => t.map = s.map ∧ Answers s r 4 0 0 t ∧ OnlyKinds answerFields s t)
  ∧ (∀ (s : State) (r : Nat), Asks s r 0x13 { governor := true, feature := some 4 } → s.bit R.WARDEN_OPEN 0 = true →
    s.role = 0 → s.rd H.FW_FLASH_OP 0 = 0 →
    Completes (.flashImage r) s fun t =>
      t.rd H.FW_FLASH_OP 0 = 2 ∧ t.rd H.FW_FLASH_RING 0 = r ∧ t.map = { s.map with image := [] } ∧ Answers s r 0 0 0 t)
  ∧ (∀ (s : State) (r : Nat), Asks s r 0x15 { governor := true, free := true } → s.bit R.STATUS_SAFE_GOV 0 = true →
    s.rd H.FW_FLASH_OP 0 = 0 →
    Completes (.loadImage r) s fun t =>
      t.rd H.FW_FLASH_OP 0 = 3 ∧ t.map = { s.map with upload := [] } ∧ Answers s r 0 0 0 t)
  ∧ (∀ (s : State) (r : Nat), Asks s r 0x14 { governor := true, feature := some 4 } → s.cmdData r = true →
    s.rd H.FW_FLASH_OP 0 = 1 → s.rd H.FW_FLASH_RING 0 = r → s.bit R.WARDEN_OPEN 0 = true →
    s.map.flash.length + s.cmdLen r ≤ 0x200000 → s.cmdLast r = false →
    Completes (.flashData r) s fun t =>
      t.map = { s.map with flash := s.map.flash ++ s.payload r } ∧ Answers s r 0 0 0 t
        ∧ .flashOp 2 (0x2000000 + s.map.flash.length) (s.payload r) ∈ t.out ∧ t.rd H.FW_FLASH_OP 0 = 1)
  ∧ (∀ (s : State) (r v : Nat) (psc : PscAnswer), r < 64 → s.rd H.FW_RING_OP r = 0x14 → s.rd H.FW_FLASH_RING 0 = r →
    s.rd H.FW_FLASH_OP 0 = 2 → v = imageReason s.zk4 true psc s.flashImage →
    s.bit H.FW_CPL_DUE r = false → s.mayPost r = true →
    s.rd R.RING_DB_CMD_TAIL r = (s.rd R.RING_POS_CMD_HEAD r + 1) % 65536 → s.cplAt r + 16 ≤ storeSize →
    Completes (.flashWriteDone r true psc) s fun t =>
      t.rd H.FW_FLASH_OP 0 = 0 ∧ Posts s r (s.rd H.FW_RING_TAG r) 0x14 (if v = 0 then 0 else 6) v 0 t
        ∧ SameStoreBut (s.cplAt r) 16 s t)
  ∧ (∀ (s : State) (r st : Nat), ∀ x ∈ ([(.mapData r, 0x11, { governor := true, feature := some 3 }), (.flashMap r, 0x12, { governor := true, feature := some 4 }),
      (.flashImage r, 0x13, { governor := true, feature := some 4 }), (.flashData r, 0x14, { governor := true, feature := some 4 }),
      (.loadImage r, 0x15, { governor := true, free := true })] : List (Instr × Nat × CmdRule)), s.takes r = true → s.cmdOp r = x.2.1 →
    s.turnAway r x.2.2 = some st → s.rd R.RING_DB_CMD_TAIL r = (s.rd R.RING_POS_CMD_HEAD r + 1) % 65536 → s.cplAt r + 16 ≤ storeSize →
    Completes x.1 s fun t => Answers s r st 0 0 t ∧ SameStoreBut (s.cplAt r) 16 s t ∧ OnlyKinds answerFields s t)
  ∧ (∀ (s : State) (r : Nat), ∀ x ∈ ([(.mapData r, 0x11, { governor := true, feature := some 3 }), (.flashMap r, 0x12, { governor := true, feature := some 4 }),
      (.flashImage r, 0x13, { governor := true, feature := some 4 }), (.flashData r, 0x14, { governor := true, feature := some 4 }),
      (.loadImage r, 0x15, { governor := true, free := true })] : List (Instr × Nat × CmdRule)), s.served r = false ∨ s.posted r = false
      ∨ s.bit R.RING_CFG_ERR r = true → s.takes r = false ∨ s.cmdOp r ≠ x.2.1 → exec x.1 s = .next s)
  ∧ (∀ (s : State) (r st : Nat), s.takes r = true → s.cmdOp r = 0x10 → s.hartUp 0 = true →
    s.turnAway r { governor := true, feature := some 3 } = some st →
    s.rd R.RING_DB_CMD_TAIL r = (s.rd R.RING_POS_CMD_HEAD r + 1) % 65536 → s.cplAt r + 16 ≤ storeSize →
    Completes (.loadMap r) s fun t => Answers s r st 0 0 t ∧ SameStoreBut (s.cplAt r) 16 s t ∧ OnlyKinds answerFields s t)
  ∧ (∀ (s : State) (r : Nat), s.hartUp 0 = false → exec (.loadMap r) s = .next s)
  ∧ (∀ (s : State) (r st : Nat), Asks s r 0x10 { governor := true, feature := some 3 } → s.hartUp 0 = true →
    s.bit R.STATUS_SAFE_GOV 0 = false →
    ((s.rd R.RUN_STATE 0 = 1 ∧ st = 1) ∨ (s.rd R.RUN_STATE 0 = 2 ∧ s.runEn = false ∧ st = 5)) →
    Completes (.loadMap r) s fun t =>
      Answers s r st 0 0 t ∧ t.rd R.RUN_STATE 0 = s.rd R.RUN_STATE 0 ∧ t.map = s.map ∧ SameStoreBut (s.cplAt r) 16 s t)
  ∧ (∀ (s : State) (r : Nat), Asks s r 0x10 { governor := true, feature := some 3 } → s.hartUp 0 = true →
    s.bit R.STATUS_SAFE_GOV 0 = false → s.rd R.RUN_STATE 0 = 2 → s.runEn = true → s.reloadBusy = true →
    Completes (.loadMap r) s fun t =>
      Answers s r 1 0 0 t ∧ t.rd R.REFUSE_CODE 0 = refBusy ∧ t.rd R.RUN_LIVE 0 = s.rd R.RUN_LIVE 0 ∧ t.map = s.map)
  ∧ (∀ (s : State) (r : Nat), Asks s r 0x10 { governor := true, feature := some 3 } → s.hartUp 0 = true →
    s.bit R.STATUS_SAFE_GOV 0 = false → s.rd R.RUN_STATE 0 = 2 → s.runEn = true → s.reloadBusy = false → s.stageA = none →
    Completes (.loadMap r) s fun t =>
      Answers s r 0 0 0 t ∧ t.rd R.RUN_LIVE 0 = 1 ∧ t.rd R.RUN_STATE 0 = 2 ∧ t.bit H.TOP_LOAD_SRC 0 = true
        ∧ t.rd H.TOP_LOAD_RING 0 = r ∧ t.map.live = s.map.live)
  ∧ (∀ (s : State) (r st r0 r1 : Nat), Asks s r 0x11 { governor := true, feature := some 3 } →
    ((s.cmdData r = false ∧ st = 3 ∧ r0 = 0 ∧ r1 = 0)
      ∨ (s.cmdData r = true ∧ s.ringLoading r = false ∧ s.bit H.TOP_LOAD_SRC 0 = true ∧ s.rd H.TOP_LOAD_RING 0 = r
        ∧ s.rd R.REFUSE_CODE 0 ≠ 0 ∧ st = 6 ∧ r0 = s.rawWord 0x10000C ∧ r1 = s.rd R.RUN_COMMIT 0)
      ∨ (s.cmdData r = true ∧ s.ringLoading r = false ∧ s.rd R.REFUSE_CODE 0 = 0 ∧ st = 5 ∧ r0 = 0 ∧ r1 = 0)) →
    Completes (.mapData r) s fun t => t.map = s.map ∧ Answers s r st r0 r1 t ∧ OnlyKinds answerFields s t)
  ∧ (∀ (s : State) (r : Nat), Asks s r 0x12 { governor := true, feature := some 4 } → s.bit R.WARDEN_OPEN 0 = true →
    s.rd H.FW_FLASH_OP 0 ≠ 0 → s.rd H.FW_FLASH_RING 0 ≠ r →
    Completes (.flashMap r) s fun t => t.map = s.map ∧ Answers s r 1 0 0 t ∧ OnlyKinds answerFields s t)
  ∧ (∀ (s : State) (r st : Nat), Asks s r 0x13 { governor := true, feature := some 4 } →
    ((s.bit R.WARDEN_OPEN 0 = false ∧ st = 4)
      ∨ (s.bit R.WARDEN_OPEN 0 = true ∧ s.role ≠ 0 ∧ s.bit R.STATUS_SAFE_GOV 0 = false ∧ st = 5)) →
    Completes (.flashImage r) s fun t => t.map = s.map ∧ Answers s r st 0 0 t ∧ OnlyKinds answerFields s t)
  ∧ (∀ (s : State) (r : Nat), Asks s r 0x15 { governor := true, free := true } → s.bit R.STATUS_SAFE_GOV 0 = false →
    Completes (.loadImage r) s fun t => t.map = s.map ∧ Answers s r 2 0 0 t ∧ OnlyKinds answerFields s t)
  ∧ (∀ (s : State) (r : Nat), Asks s r 0x14 { governor := true, feature := some 4 } → s.cmdData r = true →
    s.rd H.FW_FLASH_OP 0 = 2 → s.rd H.FW_FLASH_RING 0 = r → s.bit R.WARDEN_OPEN 0 = true →
    s.map.image.length + s.cmdLen r ≤ 0x2000000 → s.cmdLast r = true →
    Completes (.flashData r) s fun t =>
      t.map = { s.map with image := s.map.image ++ s.payload r } ∧ t.rd H.FW_RING_OP r = 0x14
        ∧ t.rd R.RING_POS_CMD_HEAD r = s.rd R.RING_POS_CMD_HEAD r ∧ SameStore s t ∧ OnlyKinds [H.FW_RING_TAG, H.FW_RING_OP] s t)
  ∧ (∀ (s : State) (r : Nat), Asks s r 0x14 { governor := true, feature := some 4 } → s.cmdData r = true →
    s.rd H.FW_FLASH_OP 0 = 3 → s.rd H.FW_FLASH_RING 0 = r → s.map.upload.length + s.cmdLen r ≤ 0x2000000 → s.cmdLast r = false →
    Completes (.flashData r) s fun t =>
      t.map = { s.map with upload := s.map.upload ++ s.payload r } ∧ Answers s r 0 0 0 t ∧ t.rd H.FW_FLASH_OP 0 = 3)
  ∧ (∀ (s : State) (r st : Nat), Asks s r 0x14 { governor := true, feature := some 4 } →
    ((s.cmdData r = false ∧ st = 3)
      ∨ (s.cmdData r = true ∧ (s.rd H.FW_FLASH_OP 0 = 0 ∨ s.rd H.FW_FLASH_RING 0 ≠ r) ∧ st = 5)) →
    Completes (.flashData r) s fun t => t.map = s.map ∧ Answers s r st 0 0 t ∧ OnlyKinds answerFields s t)
  ∧ (∀ (s : State) (r st : Nat), Asks s r 0x14 { governor := true, feature := some 4 } → s.cmdData r = true →
    s.rd H.FW_FLASH_OP 0 = 1 → s.rd H.FW_FLASH_RING 0 = r →
    ((s.bit R.WARDEN_OPEN 0 = false ∧ st = 4)
      ∨ (s.bit R.WARDEN_OPEN 0 = true ∧ 0x200000 < s.map.flash.length + s.cmdLen r ∧ st = 3)) →
    Completes (.flashData r) s fun t => t.map = s.map ∧ Answers s r st 0 0 t ∧ t.rd H.FW_FLASH_OP 0 = 0)
  ∧ (∀ (s : State) (r : Nat) (a : Bool) (psc : PscAnswer), 64 ≤ r ∨ s.rd H.FW_RING_OP r ≠ 0x14 ∨ s.rd H.FW_FLASH_RING 0 ≠ r
      ∨ s.rd H.FW_FLASH_OP 0 = 0 ∨ s.rd H.FW_FLASH_OP 0 = 3 ∨ s.bit H.FW_CPL_DUE r = true →
    exec (.flashWriteDone r a psc) s = .next s)
  ∧ (∀ (s : State) (r v : Nat) (psc : PscAnswer), r < 64 → s.rd H.FW_RING_OP r = 0x14 → s.rd H.FW_FLASH_RING 0 = r →
    s.rd H.FW_FLASH_OP 0 = 1 → v = s.flashResult true psc →
    s.bit H.FW_CPL_DUE r = false → s.mayPost r = true →
    s.rd R.RING_DB_CMD_TAIL r = (s.rd R.RING_POS_CMD_HEAD r + 1) % 65536 → s.cplAt r + 16 ≤ storeSize →
    Completes (.flashWriteDone r true psc) s fun t =>
      t.rd H.FW_FLASH_OP 0 = 0 ∧ Posts s r (s.rd H.FW_RING_TAG r) 0x14 (if v = 0 then 0 else 6) v 0 t
        ∧ SameStoreBut (s.cplAt r) 16 s t)
  ∧ (∀ (s : State) (r v : Nat) (psc : PscAnswer), r < 64 → s.rd H.FW_RING_OP r = 0x14 → s.rd H.FW_FLASH_RING 0 = r →
    s.rd H.FW_FLASH_OP 0 = 2 → v = imageReason s.zk4 true psc s.flashImage → s.bit H.FW_CPL_DUE r = false → s.mayPost r = false →
    Completes (.flashWriteDone r true psc) s fun t =>
      t.rd H.FW_FLASH_OP 0 = 0 ∧ t.bit H.FW_CPL_DUE r = true ∧ t.rd H.FW_CPL_STATUS r = (if v = 0 then 0 else 6)
        ∧ t.rd H.FW_CPL_R0 r = v % 2 ^ 32 ∧ t.rd H.FW_CPL_R1 r = 0
        ∧ t.rd R.RING_POS_CPL_TAIL r = s.rd R.RING_POS_CPL_TAIL r ∧ t.rd R.RING_POS_CMD_HEAD r = s.rd R.RING_POS_CMD_HEAD r
        ∧ SameStore s t)

/-- R372, R538, R539, R599, R600, R609, R610, R636: PROFILE asks for a switch and is answered once it commits; LEDGER_SNAP and
TALLY_READ copy words of the ledger and records of the Tally, in their order, into the data buffer; LOG_CTRL and TRACE_CTRL
set the log's level and the trace's points. A payload out of range is answered BAD_ARG, PROFILE while no map runs NOT_READY, and a
command that R600 turns away with its status, and none of these does anything else. The model's own choices on which it rests are
those of assumption 37. -/
def Obligations.RingsServeFirmwareCommands : Prop :=
  (∀ (s : State) (r q : Nat), Asks s r 0x20 { feature := some 5 } → (s.payload r).length = 1 → q = byteAt (s.payload r) 0 →
    q < 8 → s.running = true → s.badProfile q = false → s.rd R.RUN_LIVE 0 = 0 → q ≠ s.rd R.PROFILE_IN_FORCE 0 →
    Writable s ⟨.hart 2, 0⟩ R.PROFILE_REQ 0 → s.peerCompares = false →
    Completes (.profile r) s fun t =>
      t.rd R.PROFILE_REQ 0 = q ∧ t.bit R.PROFILE_PENDING 0 = true ∧ t.rd H.TOP_PREP_ST 0 = 1 ∧ t.rd H.FW_RING_OP r = 0x20
        ∧ t.rd R.RING_POS_CMD_HEAD r = s.rd R.RING_POS_CMD_HEAD r ∧ SameStore s t
        ∧ OnlyKinds [R.PROFILE_REQ, R.PROFILE_PENDING, H.TOP_PREP_ST, H.FW_RING_TAG, H.FW_RING_OP] s t)
  ∧ (∀ (s : State) (r : Nat) (p : List Byte) (a n : Nat), Asks s r 0x30 { feature := some 8 } → p = s.payload r →
    p.length = 8 → n = u16At p 2 → n ≠ 0 → n ≤ 1024 → u16At p 0 + n ≤ 4096 → u32At p 4 + 8 * n ≤ s.bufSize r →
    a = s.bufAt r + u32At p 4 → a + 8 * n ≤ storeSize → (s.cplAt r + 16 ≤ a ∨ a + 8 * n ≤ s.cplAt r) →
    (s.cmdAt r + 64 ≤ a ∨ a + 8 * n ≤ s.cmdAt r) →
    Completes (.ledgerSnap r) s fun t =>
      memGetBytes t.store a (8 * n) = memGetBytes s.store (s.ledgerAt (u16At p 0)) (8 * n)
        ∧ Answers s r 0 (s.ld s.ledgerGenAt 4) 0 t
        ∧ (∀ b, (b < a ∨ a + 8 * n ≤ b) → (b < s.cplAt r ∨ s.cplAt r + 16 ≤ b) → memGet t.store b = memGet s.store b)
        ∧ OnlyKinds answerFields s t)
  ∧ (∀ (s : State) (r : Nat), Asks s r 0x40 { feature := some 1 } → (s.payload r).length = 1 → byteAt (s.payload r) 0 < 4 →
    Completes (.logCtrl r) s fun t =>
      t.rd R.FW_LOG_LEVEL_MIN 0 = byteAt (s.payload r) 0 ∧ Answers s r 0 0 0 t ∧ SameStoreBut (s.cplAt r) 16 s t
        ∧ OnlyKinds (R.FW_LOG_LEVEL_MIN :: answerFields) s t)
  ∧ (∀ (s : State) (r : Nat), Asks s r 0x41 { feature := some 2 } → (s.payload r).length = 32 →
    Completes (.traceCtrl r) s fun t =>
      (∀ k < 8, t.rd R.FW_TRACE_EN_EN k = u32At (s.payload r) (4 * k)) ∧ Answers s r 0 0 0 t
        ∧ SameStoreBut (s.cplAt r) 16 s t ∧ OnlyKinds (R.FW_TRACE_EN_EN :: answerFields) s t)
  ∧ (∀ (s : State) (r : Nat) (p : List Byte) (a n : Nat) (l : List Nat), Asks s r 0x50 { feature := some 9 } →
    p = s.payload r → p.length = 12 → n = u16At p 4 → n ≠ 0 → n ≤ 1024 → u16At p 6 = 0 → u32At p 8 + 32 * n ≤ s.bufSize r →
    a = s.bufAt r + u32At p 8 → a + 32 * n ≤ storeSize → (s.cplAt r + 16 ≤ a ∨ a + 32 * n ≤ s.cplAt r) →
    (s.cmdAt r + 64 ≤ a ∨ a + 32 * n ≤ s.cmdAt r) →
    l = s.tallyRange (u32At p 0) n →
    Completes (.tallyRead r) s fun t =>
      l.length ≤ n ∧ memGetBytes t.store a (32 * l.length) = l.flatMap (fun i => memGetBytes s.store (tallyAt i) 32)
        ∧ Answers s r 0 l.length (s.seqAfter l) t ∧ OnlyKinds answerFields s t)
  ∧ (∀ (s : State) (r st : Nat), ∀ x ∈ ([(.profile r, 0x20, { feature := some 5 }), (.ledgerSnap r, 0x30, { feature := some 8 }), (.logCtrl r, 0x40, { feature := some 1 }),
      (.traceCtrl r, 0x41, { feature := some 2 }), (.tallyRead r, 0x50, { feature := some 9 })] : List (Instr × Nat × CmdRule)), s.takes r = true → s.cmdOp r = x.2.1 →
    s.turnAway r x.2.2 = some st → s.rd R.RING_DB_CMD_TAIL r = (s.rd R.RING_POS_CMD_HEAD r + 1) % 65536 → s.cplAt r + 16 ≤ storeSize →
    Completes x.1 s fun t => Answers s r st 0 0 t ∧ SameStoreBut (s.cplAt r) 16 s t ∧ OnlyKinds answerFields s t)
  ∧ (∀ (s : State) (r : Nat), ∀ x ∈ ([(.profile r, 0x20, { feature := some 5 }), (.ledgerSnap r, 0x30, { feature := some 8 }), (.logCtrl r, 0x40, { feature := some 1 }),
      (.traceCtrl r, 0x41, { feature := some 2 }), (.tallyRead r, 0x50, { feature := some 9 })] : List (Instr × Nat × CmdRule)), s.served r = false ∨ s.posted r = false
      ∨ s.bit R.RING_CFG_ERR r = true → s.takes r = false ∨ s.cmdOp r ≠ x.2.1 → exec x.1 s = .next s)
  ∧ (∀ (s : State) (r : Nat) (p : List Byte), Asks s r 0x20 { feature := some 5 } → p = s.payload r →
    (p.length ≠ 1 ∨ 8 ≤ byteAt p 0) →
    Completes (.profile r) s fun t => Answers s r 3 0 0 t ∧ SameStoreBut (s.cplAt r) 16 s t ∧ OnlyKinds answerFields s t)
  ∧ (∀ (s : State) (r : Nat) (p : List Byte), Asks s r 0x20 { feature := some 5 } → p = s.payload r → p.length = 1 →
    byteAt p 0 < 8 → s.running = false →
    Completes (.profile r) s fun t => Answers s r 5 0 0 t ∧ SameStoreBut (s.cplAt r) 16 s t ∧ OnlyKinds answerFields s t)
  ∧ (∀ (s : State) (r : Nat) (p : List Byte), Asks s r 0x20 { feature := some 5 } → p = s.payload r → p.length = 1 →
    byteAt p 0 < 8 → s.running = true → s.badProfile (byteAt p 0) = true → Writable s ⟨.hart 2, 0⟩ R.PROFILE_REQ 0 →
    Completes (.profile r) s fun t =>
      Answers s r 3 0 0 t ∧ t.bit R.PROFILE_REQ_ERR 0 = true ∧ t.rd R.PROFILE_REQ 0 = s.rd R.PROFILE_REQ 0)
  ∧ (∀ (s : State) (r : Nat) (p : List Byte), Asks s r 0x30 { feature := some 8 } → p = s.payload r →
    (p.length ≠ 8 ∨ u16At p 2 = 0 ∨ 1024 < u16At p 2 ∨ 4096 < u16At p 0 + u16At p 2 ∨ s.bufSize r < u32At p 4 + 8 * u16At p 2) →
    Completes (.ledgerSnap r) s fun t => Answers s r 3 0 0 t ∧ SameStoreBut (s.cplAt r) 16 s t ∧ OnlyKinds answerFields s t)
  ∧ (∀ (s : State) (r : Nat) (p : List Byte), Asks s r 0x40 { feature := some 1 } → p = s.payload r →
    (p.length ≠ 1 ∨ 4 ≤ byteAt p 0) →
    Completes (.logCtrl r) s fun t => Answers s r 3 0 0 t ∧ SameStoreBut (s.cplAt r) 16 s t ∧ OnlyKinds answerFields s t)
  ∧ (∀ (s : State) (r : Nat), Asks s r 0x41 { feature := some 2 } → (s.payload r).length ≠ 32 →
    Completes (.traceCtrl r) s fun t => Answers s r 3 0 0 t ∧ SameStoreBut (s.cplAt r) 16 s t ∧ OnlyKinds answerFields s t)
  ∧ (∀ (s : State) (r : Nat) (p : List Byte), Asks s r 0x50 { feature := some 9 } → p = s.payload r →
    (p.length ≠ 12 ∨ u16At p 4 = 0 ∨ 1024 < u16At p 4 ∨ u16At p 6 ≠ 0 ∨ s.bufSize r < u32At p 8 + 32 * u16At p 4) →
    Completes (.tallyRead r) s fun t => Answers s r 3 0 0 t ∧ SameStoreBut (s.cplAt r) 16 s t ∧ OnlyKinds answerFields s t)

/-- R605–R607: the SENDER of a mailbox rings it while nothing is pending, and its RECEIVER is told; the receiver's ACK ends it
and tells the sender; the sender may cancel; TIMEOUT without an answer is marked once and tells the sender; a DOORBELL, CANCEL
or ACK that R607 does not allow is refused and counted in REJECTS. The model's own choices on which it rests are those of
assumptions 6 and 40. -/
def Obligations.MailboxesRingAndAnswer : Prop :=
  (∀ (s : State) (w : WCtx) (m cmd : Nat), Writable s w R.MBOX_DOORBELL_CMD m → s.isSender w.req m = true →
    s.bit R.MBOX_STAT_PENDING m = false →
    Completes (.doorbell w m cmd) s fun t =>
      t.rd R.MBOX_DOORBELL_CMD m = cmd % 256 ∧ t.bit R.MBOX_STAT_PENDING m = true ∧ t.resp = .ok
        ∧ (∀ k < 4, s.rd R.MBOX_CTRL_RECEIVER m = k → .hartEvent k 0x22 ∈ t.out ∧ (s.rd R.FW_HART_STAT_STATE k = 1 →
            t.rd R.FW_HART_STAT_STATE k = 0))
        ∧ (s.rd R.MBOX_CTRL_RECEIVER m = 4 → t.bit R.HOST_IRQ_MBOX 0 = true)
        ∧ (s.rd R.MBOX_CTRL_RECEIVER m = 5 → .psc 2 ∈ t.out)
        ∧ OnlyKinds [R.MBOX_DOORBELL_CMD, R.MBOX_STAT_PENDING, H.FW_MB_TIMER, R.FW_HART_STAT_STATE, R.HOST_IRQ_MBOX] s t
        ∧ OnlyRegsOut s t)
  ∧ (∀ (s : State) (w : WCtx) (m cmd : Nat), Writable s w R.MBOX_DOORBELL_CMD m →
    (s.isSender w.req m = false ∨ s.bit R.MBOX_STAT_PENDING m = true) →
    Completes (.doorbell w m cmd) s fun t =>
      t.resp = .refused 3 ∧ t.rd R.MBOX_STAT_REJECTS m = satAdd R.MBOX_STAT_REJECTS.wid (s.rd R.MBOX_STAT_REJECTS m) 1
        ∧ t.rd R.FLT_REJECT_COUNT 0 = satAdd R.FLT_REJECT_COUNT.wid (s.rd R.FLT_REJECT_COUNT 0) 1
        ∧ t.rd R.FLT_REJECT_INFO_CAUSE 0 = 3 ∧ t.rd R.FLT_REJECT_INFO_OFFSET 0 = R.MBOX_DOORBELL_CMD.word m
        ∧ OnlyKinds [R.MBOX_STAT_REJECTS, R.FLT_REJECT_COUNT, R.FLT_REJECT_INFO_CAUSE, R.FLT_REJECT_INFO_REQ,
            R.FLT_REJECT_INFO_OFFSET] s t ∧ OnlyRegsOut s t)
  ∧ (∀ (s : State) (w : WCtx) (m : Nat), Writable s w R.MBOX_DOORBELL_CANCEL m → s.isSender w.req m = true →
    Completes (.cancelMailbox w m) s fun t =>
      t.bit R.MBOX_STAT_PENDING m = false ∧ t.resp = .ok
        ∧ OnlyFields [(R.MBOX_STAT_PENDING, m), (H.FW_MB_TIMER, m)] s t ∧ OnlyRegsOut s t)
  ∧ (∀ (s : State) (w : WCtx) (m code result : Nat), Writable s w R.MBOX_ACK_CODE m → s.isReceiver w.req m = true →
    s.bit R.MBOX_STAT_PENDING m = true →
    Completes (.mailboxAck w m code result) s fun t =>
      t.rd R.MBOX_ACK_CODE m = code % 256 ∧ t.rd R.MBOX_ACK_RESULT m = result % 2 ^ 24
        ∧ t.bit R.MBOX_STAT_PENDING m = false ∧ t.bit R.MBOX_STAT_ACKED m = true ∧ t.resp = .ok
        ∧ (∀ k < 4, s.rd R.MBOX_CTRL_SENDER m = k → .hartEvent k 0x23 ∈ t.out)
        ∧ (s.rd R.MBOX_CTRL_SENDER m = 5 → .psc 3 ∈ t.out)
        ∧ (s.rd R.MBOX_CTRL_SENDER m = 4 → t.bit R.HOST_IRQ_MBOX_ACK 0 = true)
        ∧ OnlyKinds [R.MBOX_ACK_CODE, R.MBOX_ACK_RESULT, R.MBOX_STAT_PENDING, R.MBOX_STAT_ACKED, H.FW_MB_TIMER,
            R.FW_HART_STAT_STATE, R.HOST_IRQ_MBOX_ACK] s t
        ∧ OnlyRegsOut s t)
  ∧ (∀ (s : State) (m : Nat), m < 16 → s.bit R.MBOX_STAT_PENDING m = true → s.bit H.FW_MB_TIMER m = true →
    Completes (.mailboxTimeout m) s fun t =>
      t.bit R.MBOX_STAT_TIMED_OUT m = true ∧ t.bit H.FW_MB_TIMER m = false ∧ t.bit R.MBOX_STAT_PENDING m = true
        ∧ (∀ k < 4, s.rd R.MBOX_CTRL_SENDER m = k → .hartEvent k 0x23 ∈ t.out ∧ (s.rd R.FW_HART_STAT_STATE k = 1 →
            t.rd R.FW_HART_STAT_STATE k = 0))
        ∧ (s.rd R.MBOX_CTRL_SENDER m = 4 → t.bit R.HOST_IRQ_MBOX_ACK 0 = true)
        ∧ (s.rd R.MBOX_CTRL_SENDER m = 5 → .psc 3 ∈ t.out)
        ∧ OnlyKinds [R.MBOX_STAT_TIMED_OUT, H.FW_MB_TIMER, R.FW_HART_STAT_STATE, R.HOST_IRQ_MBOX_ACK] s t ∧ OnlyRegsOut s t)
  ∧ (∀ (s : State) (w : WCtx) (m : Nat), Writable s w R.MBOX_DOORBELL_CANCEL m → s.isSender w.req m = false →
    Completes (.cancelMailbox w m) s fun t =>
      t.resp = .refused 3 ∧ t.rd R.MBOX_STAT_REJECTS m = satAdd R.MBOX_STAT_REJECTS.wid (s.rd R.MBOX_STAT_REJECTS m) 1
        ∧ t.rd R.FLT_REJECT_COUNT 0 = satAdd R.FLT_REJECT_COUNT.wid (s.rd R.FLT_REJECT_COUNT 0) 1
        ∧ t.rd R.FLT_REJECT_INFO_CAUSE 0 = 3 ∧ t.rd R.FLT_REJECT_INFO_OFFSET 0 = R.MBOX_DOORBELL_CANCEL.word m
        ∧ OnlyKinds [R.MBOX_STAT_REJECTS, R.FLT_REJECT_COUNT, R.FLT_REJECT_INFO_CAUSE, R.FLT_REJECT_INFO_REQ,
            R.FLT_REJECT_INFO_OFFSET] s t ∧ OnlyRegsOut s t)
  ∧ (∀ (s : State) (w : WCtx) (m code result : Nat), Writable s w R.MBOX_ACK_CODE m →
    (s.isReceiver w.req m = false ∨ s.bit R.MBOX_STAT_PENDING m = false) →
    Completes (.mailboxAck w m code result) s fun t =>
      t.resp = .refused 3 ∧ t.rd R.MBOX_STAT_REJECTS m = satAdd R.MBOX_STAT_REJECTS.wid (s.rd R.MBOX_STAT_REJECTS m) 1
        ∧ t.rd R.FLT_REJECT_COUNT 0 = satAdd R.FLT_REJECT_COUNT.wid (s.rd R.FLT_REJECT_COUNT 0) 1
        ∧ t.rd R.FLT_REJECT_INFO_CAUSE 0 = 3 ∧ t.rd R.FLT_REJECT_INFO_OFFSET 0 = R.MBOX_ACK_CODE.word m
        ∧ OnlyKinds [R.MBOX_STAT_REJECTS, R.FLT_REJECT_COUNT, R.FLT_REJECT_INFO_CAUSE, R.FLT_REJECT_INFO_REQ,
            R.FLT_REJECT_INFO_OFFSET] s t ∧ OnlyRegsOut s t)
  ∧ (∀ (s : State) (m : Nat), 16 ≤ m ∨ s.bit R.MBOX_STAT_PENDING m = false ∨ s.bit H.FW_MB_TIMER m = false →
    exec (.mailboxTimeout m) s = .next s)

/-- R85, R93, R297, R427, R518, R524–R534, R536, R666: EN = 1 starts the check of the named source, or is refused at once where
stage A fails; EN = 0 ends a check with ABORTED and stops a running map at its boundary, its forecasts at once; where there is
nothing to start or to stop, the word is stored and no more. RELOAD begins a live reload, is recorded as BUSY, or is refused
while no map runs; a check that has passed stages the map, one that fails refuses it, and one whose stream has not ended waits;
a stalled ring refuses; the standby's silence names the commit boundary. The model's own choices on which it rests are those of
assumptions 6, 18 and 40. -/
def Obligations.MapsAreEnabledCheckedAndReloaded : Prop :=
  (∀ (s : State) (w : WCtx) (keep src : Bool) (ring : Nat), Writable s w R.RUN_EN 0 →
    (s.rd R.RUN_STATE 0 = 0 ∨ s.rd R.RUN_STATE 0 = 3) → s.stageA = none →
    Completes (.enSet w keep src ring) s fun t =>
      t.rd R.RUN_STATE 0 = 1 ∧ t.runEn = true ∧ t.bit R.RUN_KEEP_PROFILE 0 = keep ∧ t.bit R.RUN_SRC 0 = src
        ∧ t.rd R.RUN_RING 0 = ring % 64 ∧ t.bit H.TOP_LOAD_SRC 0 = src ∧ t.rd H.TOP_LOAD_RING 0 = ring % 64
        ∧ t.rd R.REFUSE_CODE 0 = 0 ∧ t.rd R.FRAME_STAT_DEFER_CNT 0 = 0 ∧ t.map.stream = [] ∧ t.map.shadow = none
        ∧ t.resp = .ok ∧ SameStore s t)
  ∧ (∀ (s : State) (w : WCtx) (keep src : Bool) (ring : Nat) (r : Refuse), Writable s w R.RUN_EN 0 →
    s.rd R.RUN_STATE 0 = 0 → s.rd R.RUN_LIVE 0 = 0 → s.stageA = some r → s.bit R.STATUS_SAFE_GOV 0 = false →
    s.atMapStep = false →
    Completes (.enSet w keep src ring) s fun t =>
      t.rd R.RUN_STATE 0 = 3 ∧ t.runEn = false ∧ t.rd R.REFUSE_CODE 0 = r.code % 256 ∧ t.rd R.REFUSE_WHERE 0 = r.loc % 2 ^ 24)
  ∧ (∀ (s : State) (w : WCtx), Writable s w R.RUN_EN 0 → s.rd R.RUN_STATE 0 = 2 → s.runEn = true →
    Completes (.enClear w) s fun t =>
      t.runEn = false ∧ t.rd R.RUN_STATE 0 = 2 ∧ t.resp = .ok
        ∧ t.staged = s.staged ++ [(⟨if 192 ≤ w.cyc then 1 else 0, .enClear⟩ : Staged)]
        ∧ (∀ f < 64, t.bit R.BW_FOLD_STAT_VALID f = false) ∧ (∀ r < 14, t.rd R.BW_RAIL_FCAST_MAX r = 0)
        ∧ OnlyKinds [R.RUN_EN, R.FRAME_STAT_DEFER_CNT, R.BW_FOLD_STAT_VALID, R.BW_FOLD_FCAST0_H1, R.BW_FOLD_FCAST0_H2,
            R.BW_FOLD_FCAST1_H3, R.BW_FOLD_FCAST1_H4, R.BW_FOLD_FCAST2_H5, R.BW_FOLD_FCAST2_H6, R.BW_FOLD_FCAST3_H7,
            R.BW_FOLD_FCAST3_H8, R.BW_RAIL_FCAST_MAX, H.BW_FRAIL, H.BW_RISE] s t
        ∧ OnlyStaged s t)
  ∧ (∀ (s : State) (w : WCtx), Writable s w R.RUN_EN 0 → s.rd R.RUN_STATE 0 = 1 → s.rd R.RUN_LIVE 0 = 0 →
    s.bit R.STATUS_SAFE_GOV 0 = false → s.atMapStep = false →
    Completes (.enClear w) s fun t =>
      t.rd R.RUN_STATE 0 = 3 ∧ t.runEn = false ∧ t.rd R.REFUSE_CODE 0 = refAborted ∧ t.map.shadow = none ∧ t.map.stream = [])
  ∧ (∀ (s : State) (w : WCtx) (keep src : Bool) (ring : Nat), Writable s w R.RUN_RELOAD 0 → s.running = true →
    s.rd R.RUN_LIVE 0 = 0 → s.bit R.PROFILE_PENDING 0 = false → s.stageA = none →
    Completes (.reload w keep src ring) s fun t =>
      t.rd R.RUN_LIVE 0 = 1 ∧ t.rd R.RUN_STATE 0 = 2 ∧ t.bit H.TOP_LOAD_SRC 0 = src ∧ t.rd H.TOP_LOAD_RING 0 = ring % 64
        ∧ t.map.live = s.map.live ∧ t.map.recs = s.map.recs ∧ t.map.shadow = none ∧ t.resp = .ok ∧ SameStore s t)
  ∧ (∀ (s : State) (w : WCtx) (keep src : Bool) (ring : Nat), Writable s w R.RUN_RELOAD 0 → s.running = true →
    s.reloadBusy = true →
    Completes (.reload w keep src ring) s fun t =>
      t.rd R.REFUSE_CODE 0 = refBusy ∧ t.rd R.RUN_LIVE 0 = s.rd R.RUN_LIVE 0 ∧ t.map = s.map)
  ∧ (∀ (s : State) (psc : PscAnswer) (m : MapImg), s.loading = true → s.judgeMap psc = some (.ok m) → s.rd R.RUN_LIVE 0 ≠ 1 →
    s.bit R.STATUS_SAFE_GOV 0 = false →
    exec (.mapCheckDone psc) s = .next
      { s with map := { s.map with shadow := some m, stream := [], last := false } })
  ∧ (∀ (s : State) (psc : PscAnswer) (r : Refuse), s.loading = true → s.judgeMap psc = some (.error r) →
    s.rd R.RUN_LIVE 0 = 0 → s.bit R.STATUS_SAFE_GOV 0 = false → s.atMapStep = false →
    Completes (.mapCheckDone psc) s fun t =>
      t.rd R.RUN_STATE 0 = 3 ∧ t.runEn = false ∧ t.rd R.REFUSE_CODE 0 = r.code % 256 ∧ t.rd R.REFUSE_WHERE 0 = r.loc % 2 ^ 24
        ∧ t.map.shadow = none)
  ∧ (∀ (s : State), s.loading = true → s.bit H.TOP_LOAD_SRC 0 = true → s.streamWhole = false → s.rd R.RUN_LIVE 0 = 0 →
    s.bit R.STATUS_SAFE_GOV 0 = false → s.atMapStep = false →
    Completes .loaderStall s fun t =>
      t.rd R.RUN_STATE 0 = 3 ∧ t.rd R.REFUSE_CODE 0 = refStalled ∧ t.map.stream = [])
  ∧ (∀ (s : State), s.holder = true → s.rd R.RUN_LIVE 0 = 2 → s.rd H.TOP_COMMIT_AT 0 = 0 → 4096 ≤ s.rd H.TOP_OWN_AGE 0 →
    Completes .standbyReloadTimeout s fun t =>
      t.rd H.TOP_COMMIT_AT 0 = (s.frame + 6) % 2 ^ 64
        ∧ (s.peerCompares = true → .mirror ⟨true, s.frame + 1, .commitAt (s.frame + 5)⟩ ∈ t.out)
        ∧ OnlyKinds [H.TOP_COMMIT_AT] s t ∧ OnlyRegsOut s t)
  ∧ (∀ (s : State) (w : WCtx) (keep src : Bool) (ring : Nat), Writable s w R.RUN_EN 0 →
    (s.rd R.RUN_STATE 0 = 1 ∨ s.rd R.RUN_STATE 0 = 2) →
    Completes (.enSet w keep src ring) s fun t =>
      t.bit R.RUN_KEEP_PROFILE 0 = keep ∧ t.bit R.RUN_SRC 0 = src ∧ t.rd R.RUN_RING 0 = ring % 64 ∧ t.resp = .ok
        ∧ OnlyKinds [R.RUN_KEEP_PROFILE, R.RUN_SRC, R.RUN_RING] s t ∧ OnlyRegsOut s t)
  ∧ (∀ (s : State) (w : WCtx), Writable s w R.RUN_EN 0 →
    (s.rd R.RUN_STATE 0 = 0 ∨ s.rd R.RUN_STATE 0 = 3 ∨ (s.rd R.RUN_STATE 0 = 2 ∧ s.runEn = false)) →
    exec (.enClear w) s = .next (s.answer .ok))
  ∧ (∀ (s : State) (w : WCtx) (keep src : Bool) (ring : Nat), Writable s w R.RUN_RELOAD 0 → s.running = false →
    s.right w.req R.RUN_RELOAD 0 = true →
    Completes (.reload w keep src ring) s fun t =>
      t.resp = .refused 3 ∧ t.rd R.FLT_REJECT_COUNT 0 = satAdd R.FLT_REJECT_COUNT.wid (s.rd R.FLT_REJECT_COUNT 0) 1
        ∧ t.rd R.RUN_LIVE 0 = s.rd R.RUN_LIVE 0 ∧ t.rd R.RUN_STATE 0 = s.rd R.RUN_STATE 0 ∧ t.map = s.map ∧ SameStore s t)
  ∧ (∀ (s : State) (psc : PscAnswer), s.loading = false ∨ s.judgeMap psc = none → exec (.mapCheckDone psc) s = .next s)
  ∧ (∀ (s : State) (psc : PscAnswer) (m : MapImg), s.loading = true → s.judgeMap psc = some (.ok m) → s.rd R.RUN_LIVE 0 = 1 →
    Completes (.mapCheckDone psc) s fun t =>
      t.rd R.RUN_LIVE 0 = 2 ∧ t.map = { s.map with shadow := some m, stream := [], last := false }
        ∧ t.rd R.RUN_STATE 0 = s.rd R.RUN_STATE 0
        ∧ ((s.role = 2 ∨ s.role = 3) → .mirror ⟨true, s.frame + 1, .reloadPass⟩ ∈ t.out ∧ t.rd H.TOP_COMMIT_AT 0 = s.rd H.TOP_COMMIT_AT 0)
        ∧ (s.role ≠ 2 → s.role ≠ 3 → s.rd H.TOP_COMMIT_AT 0 = 0 → s.rd R.TWIN_STATUS_PEER_ROLE 0 ≠ 3 →
            t.rd H.TOP_COMMIT_AT 0 = (s.frame + 6) % 2 ^ 64))
  ∧ (∀ (s : State) (psc : PscAnswer) (r : Refuse), s.loading = true → s.judgeMap psc = some (.error r) → s.rd R.RUN_LIVE 0 = 1 →
    Completes (.mapCheckDone psc) s fun t =>
      t.rd R.RUN_LIVE 0 = 0 ∧ t.rd R.RUN_STATE 0 = s.rd R.RUN_STATE 0 ∧ t.rd R.REFUSE_CODE 0 = r.code % 256
        ∧ t.map.live = s.map.live ∧ t.map.recs = s.map.recs ∧ t.map.shadow = none)
  ∧ (∀ (s : State) (psc : PscAnswer) (m : MapImg), s.loading = true → s.judgeMap psc = some (.ok m) → s.rd R.RUN_LIVE 0 ≠ 1 →
    s.bit R.STATUS_SAFE_GOV 0 = true →
    Completes (.mapCheckDone psc) s fun t =>
      t.bit R.STATUS_SAFE_GOV 0 = false ∧ t.rd R.BOOT_STEP 0 = 4 ∧ t.bit R.BOOT_FROM_RING 0 = true ∧ t.map.shadow = some m)
  ∧ (∀ (s : State), s.loading = false ∨ s.bit H.TOP_LOAD_SRC 0 = false ∨ s.streamWhole = true → exec .loaderStall s = .next s)
  ∧ (∀ (s : State), s.holder = false ∨ s.rd R.RUN_LIVE 0 ≠ 2 ∨ s.rd H.TOP_COMMIT_AT 0 ≠ 0 ∨ s.rd H.TOP_OWN_AGE 0 < 4096 →
    exec .standbyReloadTimeout s = .next s)

/-- R427, R538, R539, R542, R545, R546, R548, R650: a request for another profile of the map starts its preparation, whose end
records its length; one for the profile in force has no effect, one during a live reload is held, one for a profile that the map
lacks is refused with REQ_ERR, and one while no map runs is refused; the PSC opens H0's Warden window where the token holds, and
it closes when its frames have run out; the BMC's cap is staged for the boundary and sent to the peer. The model's own choices
on which it rests are those of assumptions 6 and 8. -/
def Obligations.ProfilesWindowAndCap : Prop :=
  (∀ (s : State) (w : WCtx) (p : Nat), Writable s w R.PROFILE_REQ 0 → s.running = true → s.badProfile (p % 8) = false →
    s.rd R.RUN_LIVE 0 = 0 → p % 8 ≠ s.rd R.PROFILE_IN_FORCE 0 →
    Completes (.profileReq w p) s fun t =>
      t.rd R.PROFILE_REQ 0 = p % 8 ∧ t.bit R.PROFILE_PENDING 0 = true ∧ t.rd H.TOP_PREP_ST 0 = 1 ∧ t.resp = .ok
        ∧ (s.peerCompares = true → .mirror ⟨true, s.frame + (if 192 ≤ w.cyc then 2 else 1), .profile (p % 8)⟩ ∈ t.out)
        ∧ OnlyKinds [R.PROFILE_REQ, R.PROFILE_PENDING, H.TOP_PREP_ST, H.TOP_PROF_AT] s t ∧ OnlyRegsOut s t)
  ∧ (∀ (s : State) (w : WCtx) (p : Nat), Writable s w R.PROFILE_REQ 0 → s.badProfile (p % 8) = true →
    Completes (.profileReq w p) s fun t =>
      t.resp = .refused 3 ∧ t.bit R.PROFILE_REQ_ERR 0 = true
        ∧ t.rd R.FLT_REJECT_COUNT 0 = satAdd R.FLT_REJECT_COUNT.wid (s.rd R.FLT_REJECT_COUNT 0) 1
        ∧ OnlyKinds [R.PROFILE_REQ_ERR, R.FLT_REJECT_COUNT, R.FLT_REJECT_INFO_CAUSE, R.FLT_REJECT_INFO_REQ,
            R.FLT_REJECT_INFO_OFFSET] s t ∧ OnlyRegsOut s t)
  ∧ (∀ (s : State) (frames : Nat), s.running = true → s.rd H.TOP_PREP_ST 0 = 1 → frames ≤ 1024 →
    Completes (.profilePrepDone frames) s fun t =>
      t.rd R.PROFILE_PREP_FRAMES 0 = frames ∧ t.rd H.TOP_PREP_ST 0 = 2
        ∧ (s.holder = true → s.peerCompares = true → .mirror ⟨true, s.frame + 1, .profileAt (s.frame + 1)⟩ ∈ t.out)
        ∧ OnlyKinds [R.PROFILE_PREP_FRAMES, H.TOP_PREP_ST] s t ∧ OnlyRegsOut s t ∧ t.resp = s.resp)
  ∧ (∀ (s : State) (frames : Nat), s.hartUp 0 = true →
    Completes (.wardenWindowOpen true frames) s fun t =>
      t.bit R.WARDEN_OPEN 0 = true ∧ t.rd R.WARDEN_REMAIN 0 = frames % 2 ^ 24 ∧ t.warden (.hart 0) = true
        ∧ OnlyKinds [R.WARDEN_OPEN, R.WARDEN_REMAIN] s t ∧ OnlyRegs s t)
  ∧ (∀ (s : State) (ok : Bool) (frames : Nat), ok = false ∨ s.hartUp 0 = false → exec (.wardenWindowOpen ok frames) s = .next s)
  ∧ (∀ (s : State), s.bit R.WARDEN_OPEN 0 = true → s.rd R.WARDEN_REMAIN 0 = 0 →
    Completes .wardenWindowExpiry s fun t =>
      t.bit R.WARDEN_OPEN 0 = false ∧ t.warden (.hart 0) = false
        ∧ OnlyKinds [R.WARDEN_OPEN, R.WARDEN_REMAIN] s t ∧ OnlyRegs s t)
  ∧ (∀ (s : State) (w : WCtx) (v : Nat), Writable s w R.CAP_BMC_CAP 0 →
    Completes (.capBmcWrite w v) s fun t =>
      t.staged = s.staged ++ [(⟨if 192 ≤ w.cyc then 1 else 0, .capBmc (v % 2 ^ 24) false⟩ : Staged)] ∧ t.resp = .ok
        ∧ (s.peerCompares = true → .mirror ⟨true, s.frame + (if 192 ≤ w.cyc then 2 else 1), .write 0x100034 (v % 2 ^ 24)⟩ ∈ t.out)
        ∧ OnlyKinds [R.FRAME_STAT_DEFER_CNT] s t
        ∧ t = { s with regs := t.regs, staged := t.staged, out := t.out, resp := t.resp })
  ∧ (∀ (s : State) (c k v : Nat), k ≠ 0 → s.gated 0x100034 = false → s.rd R.CAP_BMC_CAP 0 = 0 → v % 2 ^ 24 ≠ 0 →
    Completes (.capBmcWrite ⟨.hart k, c⟩ v) s fun t => Refuses ⟨.hart k, c⟩ 0x100034 4 s t)
  ∧ (∀ (s : State) (w : WCtx) (p : Nat), Writable s w R.PROFILE_REQ 0 → s.running = false →
    Completes (.profileReq w p) s fun t => Refuses w (R.PROFILE_REQ.word 0) 3 s t)
  ∧ (∀ (s : State) (w : WCtx) (p : Nat), Writable s w R.PROFILE_REQ 0 → s.running = true → s.rd R.RUN_LIVE 0 ≠ 0 →
    Completes (.profileReq w p) s fun t =>
      t.rd R.PROFILE_REQ 0 = p % 8 ∧ t.bit H.TOP_REQ_HELD 0 = true ∧ t.resp = .ok
        ∧ OnlyKinds [R.PROFILE_REQ, H.TOP_REQ_HELD] s t ∧ OnlyRegsOut s t)
  ∧ (∀ (s : State) (w : WCtx) (p : Nat), Writable s w R.PROFILE_REQ 0 → s.running = true → s.badProfile (p % 8) = false →
    s.rd R.RUN_LIVE 0 = 0 → p % 8 = s.rd R.PROFILE_IN_FORCE 0 → s.bit R.PROFILE_PENDING 0 = false →
    Completes (.profileReq w p) s fun t =>
      t.rd R.PROFILE_REQ 0 = p % 8 ∧ t.resp = .ok ∧ OnlyKinds [R.PROFILE_REQ] s t ∧ OnlyRegsOut s t)
  ∧ (∀ (s : State) (frames : Nat), s.running = false ∨ s.rd H.TOP_PREP_ST 0 ≠ 1 ∨ 1024 < frames →
    exec (.profilePrepDone frames) s = .next s)
  ∧ (∀ (s : State), s.bit R.WARDEN_OPEN 0 = false ∨ s.rd R.WARDEN_REMAIN 0 ≠ 0 → exec .wardenWindowExpiry s = .next s)

/-- R458, R489, R496, R497, R500–R502, R505, R517–R520, R522, R561, R583, R588, R614, R639: a sequence starts with the Tally's
clock, where one is due; ROM leads to CALIB, or in a block sequence to STORE; calibration takes the domains to their loops,
leaves those whose loop does not lock where they are, marks the channels that fail, and stops where a frame loop or the delay
line fails; the Store's initialisation clears it and retires failed rows, and stops where they are too many or the ROM's own; a
verified image runs from the Store, in the sequence, from ring 0 or for harts that restart, and one that is refused leaves the
safe governor, waits with it, or leaves the harts held. A report that no step awaits does nothing. The model's own choices on
which it rests are those of assumptions 6, 29, 30 and 38. -/
def Obligations.SequenceReachesTheImage : Prop :=
  (∀ (s : State), s.rd H.RST_SEQ 0 = 1 →
    Completes .sequenceStart s fun t =>
      t.atStep 0 = true ∧ t.bit R.BOOT_BLOCK_START 0 = false ∧ t.rd R.BOOT_ERR 0 = 0 ∧ t.rd H.RST_SEQ 0 = 0
        ∧ bitOf (t.rd R.CLK_EN_EN 0) 8 = true ∧ t.bit R.STATUS_SAFE_GOV 0 = false ∧ t.bit H.RST_XSPI_RST_N 0 = true
        ∧ OnlyRegs s t)
  ∧ (∀ (s : State), s.rd H.RST_SEQ 0 = 2 →
    Completes .sequenceStart s fun t =>
      t.atStep 0 = true ∧ t.bit R.BOOT_BLOCK_START 0 = true ∧ t.rd H.RST_SEQ 0 = 0 ∧ OnlyRegs s t)
  ∧ (∀ (s : State) (factory : Bool), s.atStep 0 = true → s.bit R.BOOT_BLOCK_START 0 = false →
    Completes (.romStepDone true factory) s fun t =>
      t.atStep 1 = true ∧ t.bit H.FLT_PSC_ANSWER 0 = factory ∧ bitOf (t.rd R.CLK_EN_EN 0) 9 = true
        ∧ t.rd R.BOOT_TIME_STEP_T 0 = s.rd H.TOP_BOOT_T 0 ∧ OnlyRegs s t)
  ∧ (∀ (s : State) (factory : Bool), s.atStep 0 = true → s.bit R.BOOT_BLOCK_START 0 = true →
    Completes (.romStepDone true factory) s fun t => t.atStep 2 = true ∧ OnlyRegs s t)
  ∧ (∀ (s : State), s.atStep 1 = true →
    Completes (.calibDone { loops := [], monitors := [], delayLine := false, phases := [], rails := [], diodes := [] }) s fun t =>
      t.atStep 2 = true ∧ (∀ d < 6, t.bit R.CLK_STATUS_ON_FRC d = false ∧ t.bit H.CLK_SW d = true
          ∧ t.bit R.CLK_STATUS_LOCK (loopOf d) = true) ∧ OnlyRegs s t)
  ∧ (∀ (s : State) (c : CalibResult), s.atStep 1 = true → 0 ∈ c.loops →
    Completes (.calibDone c) s fun t =>
      t.rd R.BOOT_STEP 0 = 9 ∧ t.rd R.BOOT_ERR 0 = 1 ∧ t.bit H.TOP_BOOT_ON 0 = false ∧ t.role = 0)
  ∧ (∀ (s : State) (c : CalibResult), s.atStep 1 = true → 0 ∉ c.loops → 1 ∉ c.loops → c.delayLine = true →
    Completes (.calibDone c) s fun t => t.rd R.BOOT_STEP 0 = 9 ∧ t.rd R.BOOT_ERR 0 = 2)
  ∧ (∀ (s : State), s.atStep 2 = true → s.bit R.BOOT_BLOCK_START 0 = false →
    Completes (.storeInitDone []) s fun t =>
      t.atStep 3 = true ∧ t.store = [] ∧ (∀ k, t.rd H.STORE_ECC k = 0) ∧ t.rd R.BOOT_ROWS_RETIRED 0 = 0
        ∧ bitOf (t.rd R.CLK_EN_EN 0) 7 = true)
  ∧ (∀ (s : State) (l : List Nat), s.atStep 2 = true → s.bit R.BOOT_BLOCK_START 0 = true →
    Completes (.storeInitDone l) s fun t => t.atStep 3 = true ∧ t.store = s.store ∧ OnlyRegs s t)
  ∧ (∀ (s : State) (psc : PscAnswer), s.atStep 3 = true → imageReason s.zk4 true psc s.flashImage = 0 →
    Completes (.imageVerified true psc) s fun t =>
      t.rd R.BOOT_STEP 0 = 4 ∧ t.bit R.FW_IMAGE_VERIFIED 0 = true ∧ t.rd R.FW_IMAGE_REASON 0 = 0
        ∧ t.rd R.FW_VERSION_VERSION 0 = imgVersion s.flashImage ∧ (∀ k < 4, t.rd R.FW_HART_STAT_STATE k = 0)
        ∧ t.bit R.RING_CFG_EN 0 = true ∧ t.bit R.STATUS_SAFE_GOV 0 = false)
  ∧ (∀ (s : State) (psc : PscAnswer), s.atStep 3 = true → s.bit R.STATUS_SAFE_GOV 0 = false →
    Completes (.imageVerified false psc) s fun t =>
      t.rd R.BOOT_STEP 0 = 8 ∧ t.rd R.BOOT_ERR 0 = 4 ∧ t.rd R.FW_IMAGE_REASON 0 = 7 ∧ t.bit R.STATUS_SAFE_GOV 0 = true
        ∧ t.role = 0 ∧ t.rd R.FW_HART_STAT_STATE 0 = 0 ∧ t.rd R.FW_HART_STAT_STATE 1 = 3 ∧ t.bit R.RING_CFG_EN 0 = true)
  ∧ (∀ (s : State), s.rd H.RST_SEQ 0 ≠ 1 → s.rd H.RST_SEQ 0 ≠ 2 → exec .sequenceStart s = .next s)
  ∧ (∀ (s : State) (ok factory : Bool), s.atStep 0 = false ∨ ok = false → exec (.romStepDone ok factory) s = .next s)
  ∧ (∀ (s : State) (c : CalibResult), s.atStep 1 = false → exec (.calibDone c) s = .next s)
  ∧ (∀ (s : State) (c : CalibResult), s.atStep 1 = true → 0 ∉ c.loops → 1 ∉ c.loops → c.delayLine = false →
    Completes (.calibDone c) s fun t =>
      t.atStep 2 = true
        ∧ (∀ d ∈ c.loops, d < 6 → t.bit R.CLK_STATUS_ON_FRC d = s.bit R.CLK_STATUS_ON_FRC d
            ∧ t.rd R.FLT_SRC_STATE_STATE (0x36C + d) ≠ 0)
        ∧ (∀ d < 6, d ∉ c.loops → 2 ≤ d → t.bit R.CLK_STATUS_ON_FRC d = false ∧ t.bit R.CLK_STATUS_LOCK (loopOf d) = true)
        ∧ (∀ d ∈ c.monitors, d < 6 → t.bit R.CLK_STATUS_MON_BAD d = true ∧ t.rd R.FLT_SRC_STATE_STATE (0x36C + d) ≠ 0)
        ∧ (∀ p ∈ c.phases, p < 128 → t.bit H.PD_CAL_BAD p = true ∧ (srcPresent s.zk4 (0x19C + p) = true →
            t.rd R.FLT_SRC_STATE_STATE (0x19C + p) ≠ 0))
        ∧ (∀ r ∈ c.rails, r < 14 → t.bit H.PD_CAL_RBAD r = true ∧ (srcPresent s.zk4 (0x18E + r) = true →
            t.rd R.FLT_SRC_STATE_STATE (0x18E + r) ≠ 0)))
  ∧ (∀ (s : State) (l : List Nat), s.atStep 2 = false → exec (.storeInitDone l) s = .next s)
  ∧ (∀ (s : State) (l : List Nat), s.atStep 2 = true → s.bit R.BOOT_BLOCK_START 0 = false → l.Nodup → (∀ r ∈ l, r < 4096) →
    l.length < 256 →
    Completes (.storeInitDone l) s fun t =>
      t.store = [] ∧ t.rd R.BOOT_ROWS_RETIRED 0 = l.length ∧ (l.length ≤ 16 → ∀ r ∈ l, t.bit H.STORE_RETIRED r = true)
        ∧ ((16 < l.length ∨ ∃ r ∈ l, Config.romRow r = true) → t.rd R.BOOT_STEP 0 = 9 ∧ t.rd R.BOOT_ERR 0 = 3 ∧ t.role = 0)
        ∧ (l.length ≤ 16 → (∀ r ∈ l, Config.romRow r = false) → t.atStep 3 = true))
  ∧ (∀ (s : State) (psc : PscAnswer) (v : Nat), s.atStep 3 = true → s.bit R.STATUS_SAFE_GOV 0 = false →
    v = imageReason s.zk4 true psc s.flashImage → v ≠ 0 → v ≠ 7 →
    Completes (.imageVerified true psc) s fun t =>
      t.rd R.BOOT_STEP 0 = 8 ∧ t.rd R.BOOT_ERR 0 = 5 ∧ t.rd R.FW_IMAGE_REASON 0 = v % 16 ∧ t.bit R.STATUS_SAFE_GOV 0 = true
        ∧ t.role = 0)
  ∧ (∀ (s : State) (a : Bool) (psc : PscAnswer), s.atStep 3 = false → s.bit R.STATUS_SAFE_GOV 0 = true →
    s.rd H.FW_FLASH_OP 0 = 3 → s.rd H.FW_RING_OP 0 = 0x14 → s.bit H.FW_CPL_DUE 0 = false → imageReason s.zk4 true psc s.map.upload = 0 →
    Completes (.imageVerified a psc) s fun t =>
      t.rd R.BOOT_STEP 0 = 4 ∧ t.bit R.STATUS_SAFE_GOV 0 = false ∧ t.rd R.BOOT_ERR 0 = 0 ∧ t.bit R.FW_IMAGE_VERIFIED 0 = true
        ∧ t.rd R.FW_VERSION_VERSION 0 = imgVersion s.map.upload ∧ (∀ k < 4, t.rd R.FW_HART_STAT_STATE k = 0)
        ∧ t.map = { s.map with upload := [] } ∧ t.rd H.FW_FLASH_OP 0 = 0)
  ∧ (∀ (s : State) (a : Bool) (psc : PscAnswer) (v : Nat), s.atStep 3 = false → s.bit R.STATUS_SAFE_GOV 0 = true →
    s.rd H.FW_FLASH_OP 0 = 3 → s.rd H.FW_RING_OP 0 = 0x14 → s.bit H.FW_CPL_DUE 0 = false → v = imageReason s.zk4 true psc s.map.upload → v ≠ 0 →
    Completes (.imageVerified a psc) s fun t =>
      t.rd R.BOOT_STEP 0 = s.rd R.BOOT_STEP 0 ∧ t.bit R.STATUS_SAFE_GOV 0 = true ∧ t.rd R.BOOT_ERR 0 = 5
        ∧ t.rd R.FW_IMAGE_REASON 0 = v % 16 ∧ t.rd H.FW_FLASH_OP 0 = 0)
  ∧ (∀ (s : State) (psc : PscAnswer) (k : Nat), s.atStep 3 = false → s.bit R.STATUS_SAFE_GOV 0 = false → k < 4 →
    s.bit H.FW_REREAD k = true → imageReason s.zk4 true psc s.flashImage = 0 →
    Completes (.imageVerified true psc) s fun t =>
      t.rd R.FW_HART_STAT_STATE k = 0 ∧ t.bit H.FW_REREAD k = false ∧ t.bit R.FW_IMAGE_VERIFIED 0 = true
        ∧ (k = 1 → t.bit H.GL_RESTARTED 0 = true))
  ∧ (∀ (s : State) (a : Bool) (psc : PscAnswer), s.atStep 3 = false → s.bit R.STATUS_SAFE_GOV 0 = false →
    (∀ k < 4, s.rd H.FW_REREAD k = 0) → exec (.imageVerified a psc) s = .next s)

/-- R249, R406, R464, R500, R506–R514, R516, R519: with an admitted map, an instance whose peer governs the same map joins it
and its sequence ends, one whose peer governs another map stops with an error, B waits for a starting A, B stops where the gate
test has failed and A then governs alone, and else the instance governs and ramps; the rails of the next group ramp, rails found
on are adopted, a rail whose proof test or sense channel failed stays off, and with no group left the sites follow; a trip latch
stops the ramp; power-good, its time limit and the gap move it on; SITES ends the sequence. A report that no step awaits does
nothing. The model's own choices on which it rests are those of assumptions 6, 24 and 29. -/
def Obligations.SequenceTakesItsRoleAndRamps : Prop :=
  (∀ (s : State) (d : Nat) (ps gf : Bool), s.atStep 4 = true → s.admitted = some d → s.rd R.TWIN_STATUS_PEER_ROLE 0 = 4 →
    s.rd R.TWIN_DIGEST_PEER_MAP 0 = d →
    Completes (.roleDecision ps gf) s fun t =>
      t.rd R.BOOT_STEP 0 = 7 ∧ t.bit H.TOP_BOOT_ON 0 = false ∧ t.bit H.TOP_SITES_END 0 = true ∧ t.rd R.BOOT_ERR 0 = s.rd R.BOOT_ERR 0)
  ∧ (∀ (s : State) (d : Nat) (ps gf : Bool), s.atStep 4 = true → s.admitted = some d → s.rd R.TWIN_STATUS_PEER_ROLE 0 = 4 →
    s.rd R.TWIN_DIGEST_PEER_MAP 0 ≠ d →
    Completes (.roleDecision ps gf) s fun t => t.rd R.BOOT_STEP 0 = 7 ∧ t.rd R.BOOT_ERR 0 = 0xA ∧ t.role = s.role)
  ∧ (∀ (s : State) (d : Nat), s.atStep 4 = true → s.admitted = some d → s.rd R.TWIN_STATUS_PEER_ROLE 0 = 7 → s.running = false →
    Completes (.roleDecision false false) s fun t =>
      t.role = 4 ∧ t.atStep 5 = true ∧ t.rd H.TOP_RAMP_ST 0 = 0 ∧ t.rd R.BOOT_GROUP 0 = 15
        ∧ t.bit H.GL_START_HOLD 0 = !s.bit R.STATUS_READY 0 ∧ OnlyRegs s t)
  ∧ (∀ (s : State) (d : Nat), s.atStep 4 = true → s.admitted = some d → s.ident.instB = true →
    s.rd R.TWIN_STATUS_PEER_ROLE 0 = 0 →
    Completes (.roleDecision true false) s fun t =>
      t.bit H.TOP_WAIT_B 0 = true ∧ t.atStep 4 = true ∧ OnlyKinds [H.TOP_WAIT_B] s t ∧ OnlyRegs s t)
  ∧ (∀ (s : State) (d : Nat), s.atStep 4 = true → s.bit H.TOP_WAIT_B 0 = true → s.admitted = some d →
    s.rd R.TWIN_STATUS_PEER_ROLE 0 ≠ 4 → s.running = false →
    Completes (.bWaitExpiry false) s fun t =>
      t.role = 4 ∧ t.atStep 5 = true ∧ t.bit H.TOP_WAIT_B 0 = false ∧ OnlyRegs s t)
  ∧ (∀ (s : State) (r g : Nat), s.atStep 5 = true → s.holder = true → s.running = true → s.rd H.TOP_RAMP_ST 0 = 0 →
    s.bit R.TH_TRIP_LATCHED 0 = false → s.nextGroup = some g → r ∈ s.groupRails g → s.railOn r = false →
    s.bit H.PD_CAL_RBAD (s.rd R.PD_RAIL_CFG_SENSE_CH r) = false → s.bit R.PD_RAIL_STAT_OFF_LATCH r = false → s.inState r 0 ≠ [] →
    (∀ p ∈ s.phasesOf r, s.bit H.PD_CAL_BAD p = false) →
    Completes (.rampGroupStart [] []) s fun t =>
      t.rd R.BOOT_GROUP 0 = g ∧ t.bit R.PD_RAIL_STAT_RAMPING r = true ∧ t.rd R.PD_RAIL_VREF_VREF r = 0
        ∧ (∀ p ∈ s.inState r 0, t.ph p = 1) ∧ t.bit H.PD_PG r = false)
  ∧ (∀ (s : State) (a b : List Nat), s.atStep 5 = true → s.holder = true → s.running = true → s.rd H.TOP_RAMP_ST 0 = 0 →
    s.bit R.TH_TRIP_LATCHED 0 = true →
    Completes (.rampGroupStart a b) s fun t =>
      t.rd R.BOOT_ERR 0 = 9 ∧ t.bit H.TOP_BOOT_ON 0 = false
        ∧ OnlyKinds [R.BOOT_ERR, H.TOP_BOOT_ON, R.TALLY_DROPPED_DROPPED] s t ∧ OnlyFault s t)
  ∧ (∀ (s : State) (r : Nat), r ∈ s.rails → s.railOn r = true → s.bit R.PD_RAIL_STAT_RAMPING r = false →
    s.bit H.PD_PG r = false → 400 ≤ s.rd H.PD_PG_CNT r →
    Completes (.railPowerGood r) s fun t =>
      t.bit H.PD_PG r = true ∧ t.bit H.PD_PG_NEW r = true
        ∧ OnlyKinds [H.PD_PG, H.PD_PG_NEW, H.TOP_RAMP_ST, R.BOOT_GROUP, R.BOOT_STEP, R.BOOT_TIME_STEP_T] s t ∧ OnlyRegs s t)
  ∧ (∀ (s : State) (r : Nat), r ∈ s.rails → railPresent s.zk4 r = true → s.railOn r = true → s.bit H.PD_PG r = false →
    Completes (.powerGoodTimeout r) s fun t =>
      t.bit R.PD_RAIL_STAT_OFF_LATCH r = true ∧ t.railOn r = false ∧ t.bit R.STATUS_RAIL_DOWN 0 = true ∧ t.rd R.BOOT_ERR 0 = 8
        ∧ Raised (0x180 + r) 2 s t)
  ∧ (∀ (s : State), s.atStep 5 = true → s.rd H.TOP_RAMP_ST 0 = 2 →
    Completes .rampGapExpiry s fun t => t.rd H.TOP_RAMP_ST 0 = 0 ∧ OnlyKinds [H.TOP_RAMP_ST] s t ∧ OnlyRegs s t)
  ∧ (∀ (s : State) (bad : List Nat) (k : Nat), s.atStep 6 = true → s.bit R.CROOK_STATUS_SYNCED 0 = true →
    s.bit R.BOOT_BLOCK_START 0 = false → k ∈ bad → sitePresent s.zk4 k = true →
    Completes (.sitesDone bad) s fun t =>
      t.rd R.BOOT_STEP 0 = 7 ∧ t.bit H.TOP_BOOT_ON 0 = false ∧ t.bit H.TOP_SITES_END 0 = true ∧ t.bit H.TH_CAL_ON 0 = true
        ∧ t.rd R.TH_SITE_STATE k = 3 ∧ t.rd R.FLT_SRC_STATE_STATE (0xA40 + k) ≠ 0)
  ∧ (∀ (s : State) (ps gf : Bool), s.atStep 4 = false ∨ s.admitted = none → exec (.roleDecision ps gf) s = .next s)
  ∧ (∀ (s : State) (d : Nat), s.atStep 4 = true → s.admitted = some d → s.rd R.TWIN_STATUS_PEER_ROLE 0 ≠ 4 →
    s.rd R.TWIN_STATUS_PEER_ROLE 0 ≠ 7 → s.ident.instB = true →
    Completes (.roleDecision true true) s fun t =>
      t.rd R.BOOT_STEP 0 = 7 ∧ t.rd R.BOOT_ERR 0 = 0xB ∧ t.role = s.role ∧ t.bit H.TOP_BOOT_ON 0 = false ∧ Raised 0x36A 1 s t)
  ∧ (∀ (s : State) (d : Nat) (ps gf : Bool), s.atStep 4 = true → s.admitted = some d → s.rd R.TWIN_STATUS_PEER_ROLE 0 ≠ 4 →
    s.rd R.TWIN_STATUS_PEER_ROLE 0 ≠ 7 → s.ident.instB = false →
    Completes (.roleDecision ps gf) s fun t =>
      t.role = 4 ∧ t.atStep 5 = true ∧ t.rd H.TOP_RAMP_ST 0 = 0 ∧ t.bit H.GL_START_HOLD 0 = !s.bit R.STATUS_READY 0
        ∧ (gf = true → Raised 0x36A 1 s t))
  ∧ (∀ (s : State) (gf : Bool), s.atStep 4 = false ∨ s.bit H.TOP_WAIT_B 0 = false ∨ s.admitted = none →
    exec (.bWaitExpiry gf) s = .next s)
  ∧ (∀ (s : State) (d : Nat), s.atStep 4 = true → s.bit H.TOP_WAIT_B 0 = true → s.admitted = some d → s.ident.instB = true →
    s.rd R.TWIN_STATUS_PEER_ROLE 0 ≠ 4 → s.rd R.TWIN_STATUS_PEER_ROLE 0 ≠ 7 →
    Completes (.bWaitExpiry true) s fun t =>
      t.rd R.BOOT_STEP 0 = 7 ∧ t.rd R.BOOT_ERR 0 = 0xB ∧ t.role = s.role ∧ t.bit H.TOP_WAIT_B 0 = false)
  ∧ (∀ (s : State) (a b : List Nat), s.atStep 5 = false ∨ s.holder = false ∨ s.running = false ∨ s.rd H.TOP_RAMP_ST 0 ≠ 0 →
    exec (.rampGroupStart a b) s = .next s)
  ∧ (∀ (s : State) (a b : List Nat), s.atStep 5 = true → s.holder = true → s.running = true → s.rd H.TOP_RAMP_ST 0 = 0 →
    s.bit R.TH_TRIP_LATCHED 0 = false → s.nextGroup = none →
    Completes (.rampGroupStart a b) s fun t =>
      t.rd R.BOOT_STEP 0 = 6 ∧ t.rd R.BOOT_GROUP 0 = 15
        ∧ OnlyKinds [R.BOOT_GROUP, R.BOOT_STEP, R.BOOT_TIME_STEP_T] s t ∧ OnlyRegs s t)
  ∧ (∀ (s : State) (r g : Nat), s.atStep 5 = true → s.holder = true → s.running = true → s.rd H.TOP_RAMP_ST 0 = 0 →
    s.bit R.TH_TRIP_LATCHED 0 = false → s.nextGroup = some g → r ∈ s.groupRails g → s.railOn r = true →
    Completes (.rampGroupStart [] []) s fun t =>
      t.bit H.PD_PG r = true ∧ t.bit H.PD_PG_NEW r = true ∧ t.rd R.PD_RAIL_VREF_VREF r = s.rd R.PD_RAIL_VREF_VREF r
        ∧ t.bit R.PD_RAIL_STAT_RAMPING r = s.bit R.PD_RAIL_STAT_RAMPING r)
  ∧ (∀ (s : State) (r g : Nat) (a b : List Nat), s.atStep 5 = true → s.holder = true → s.running = true → s.rd H.TOP_RAMP_ST 0 = 0 →
    s.bit R.TH_TRIP_LATCHED 0 = false → s.nextGroup = some g → r ∈ s.groupRails g → s.railOn r = false → r ∈ b →
    railPresent s.zk4 r = true →
    Completes (.rampGroupStart a b) s fun t =>
      t.bit R.PD_RAIL_STAT_OFF_LATCH r = true ∧ t.railOn r = false ∧ t.rd R.FLT_SRC_STATE_STATE (0x180 + r) = 5)
  ∧ (∀ (s : State) (r g : Nat), s.atStep 5 = true → s.holder = true → s.running = true → s.rd H.TOP_RAMP_ST 0 = 0 →
    s.bit R.TH_TRIP_LATCHED 0 = false → s.nextGroup = some g → r ∈ s.groupRails g → s.railOn r = false →
    s.bit H.PD_CAL_RBAD (s.rd R.PD_RAIL_CFG_SENSE_CH r) = true →
    Completes (.rampGroupStart [] []) s fun t => t.railOn r = false ∧ t.bit H.PD_OFF_FAIL r = true ∧ t.rd R.BOOT_ERR 0 = 8)
  ∧ (∀ (s : State) (r g p : Nat), s.atStep 5 = true → s.holder = true → s.running = true → s.rd H.TOP_RAMP_ST 0 = 0 →
    s.bit R.TH_TRIP_LATCHED 0 = false → s.nextGroup = some g → r ∈ s.groupRails g → p ∈ s.phasesOf r → s.ph p ≠ 5 →
    Completes (.rampGroupStart [p] []) s fun t => t.ph p = 5 ∧ t.rd R.PD_PH_STAT_CAUSE p = 1)
  ∧ (∀ (s : State) (r : Nat), r ∉ s.rails ∨ s.railOn r = false ∨ s.bit R.PD_RAIL_STAT_RAMPING r = true ∨ s.bit H.PD_PG r = true
      ∨ s.rd H.PD_PG_CNT r < 400 → exec (.railPowerGood r) s = .next s)
  ∧ (∀ (s : State) (r : Nat), r ∉ s.rails ∨ s.railOn r = false ∨ s.bit H.PD_PG r = true → exec (.powerGoodTimeout r) s = .next s)
  ∧ (∀ (s : State), s.atStep 5 = false ∨ s.rd H.TOP_RAMP_ST 0 ≠ 2 → exec .rampGapExpiry s = .next s)
  ∧ (∀ (s : State) (l : List Nat), s.atStep 6 = false ∨ s.bit R.CROOK_STATUS_SYNCED 0 = false → exec (.sitesDone l) s = .next s)
  ∧ (∀ (s : State) (l : List Nat), s.atStep 6 = true → s.bit R.CROOK_STATUS_SYNCED 0 = true → s.bit R.BOOT_BLOCK_START 0 = true →
    Completes (.sitesDone l) s fun t =>
      t.rd R.BOOT_STEP 0 = 7 ∧ t.bit H.TOP_BOOT_ON 0 = false ∧ t.bit H.TOP_SITES_END 0 = true
        ∧ OnlyKinds [R.BOOT_STEP, R.BOOT_TIME_STEP_T, H.TOP_BOOT_ON, H.TOP_SITES_END, H.TOP_WAIT_B] s t ∧ OnlyRegs s t)

/-- R10, R12, R14–R19, R465, R549, R563, R658–R661, R666: a write whose block is gated, or whose size is not served, is a bus
error and no more; reserved space and the capture buffers refuse it, and so does an atomic OP that does not exist; a word of an
RW field takes the value at once, a part of it its bytes alone; a W1C register clears the ones written; a protected field
refuses another requester's change and accepts what changes nothing; a Warden's write is kept for the boundary; eight bytes are
two words; the Store's span stores the bytes of a requester that may write them, and an access that it does not serve is a bus
error. The model's own choices on which it rests are those of assumptions 12, 35, 39, 40 and 56. -/
def Obligations.RegisterWritesFollowTheirAccessCodes : Prop :=
  (∀ (s : State) (w : WCtx) (off size v : Nat), storeSize ≤ off → off < 2 ^ 24 →
    (s.gated off = true ∨ regServed true off size = false) →
    exec (.registerWrite w off size v) s = .next (s.answer .busError))
  ∧ (∀ (s : State) (w : WCtx) (off v : Nat), storeSize ≤ off → off < 0x300000 → off % 4 = 0 → s.gated off = false →
    s.reservedWord off = true →
    Completes (.registerWrite w off 4 v) s fun t => Refuses w off 2 s t)
  ∧ (∀ (s : State) (w : WCtx) (off v : Nat), 0x300000 ≤ off → off < 0x400000 → off % 4 = 0 → s.gated off = false →
    Completes (.registerWrite w off 4 v) s fun t => Refuses w off 3 s t)
  ∧ (∀ (s : State) (w : WCtx) (k v : Nat), Writable s w R.TALLY_SUB_DATA_DATA k →
    Completes (.registerWrite w (0x200020 + 4 * k) 4 v) s fun t =>
      t.rd R.TALLY_SUB_DATA_DATA k = v % 2 ^ 32 ∧ t.resp = .ok ∧ OnlyFields [(R.TALLY_SUB_DATA_DATA, k)] s t
        ∧ OnlyRegsOut s t ∧ t.out = s.out)
  ∧ (∀ (s : State) (w : WCtx) (k b v : Nat), Writable s w R.TALLY_SUB_DATA_DATA k → b < 4 →
    Completes (.registerWrite w (0x200020 + 4 * k + b) 1 v) s fun t =>
      t.rd R.TALLY_SUB_DATA_DATA k / 2 ^ (8 * b) % 256 = v % 256
        ∧ (∀ c < 4, c ≠ b → t.rd R.TALLY_SUB_DATA_DATA k / 2 ^ (8 * c) % 256
            = s.rd R.TALLY_SUB_DATA_DATA k / 2 ^ (8 * c) % 256)
        ∧ t.resp = .ok ∧ OnlyFields [(R.TALLY_SUB_DATA_DATA, k)] s t ∧ OnlyRegsOut s t ∧ t.out = s.out)
  ∧ (∀ (s : State) (w : WCtx) (v : Nat), Writable s w R.HOST_IRQ_CPL 0 → v < 64 →
    Completes (.registerWrite w 0x1F002C 4 v) s fun t =>
      (∀ b < 6, t.bit (irqFld b) 0 = (s.bit (irqFld b) 0 && !v.testBit b)) ∧ t.resp = .ok
        ∧ OnlyKinds [R.HOST_IRQ_CPL, R.HOST_IRQ_EVENT, R.HOST_IRQ_MBOX, R.HOST_IRQ_MBOX_ACK, R.HOST_IRQ_LOG, R.HOST_IRQ_UNATT] s t
        ∧ OnlyRegsOut s t ∧ t.out = s.out)
  ∧ (∀ (s : State) (w : WCtx) (v : Nat), s.warden w.req = true →
    Completes (.registerWrite w 0x1D0004 4 v) s fun t => Stages w (.field R.FLT_CTRL_FN_MIN 0 (v % 4)) s t)
  ∧ (∀ (s : State) (w : WCtx) (v : Nat), s.warden w.req = false → v % 4 ≠ s.rd R.FLT_CTRL_FN_MIN 0 →
    Completes (.registerWrite w 0x1D0004 4 v) s fun t => Refuses w 0x1D0004 0 s t)
  ∧ (∀ (s : State) (w : WCtx) (v : Nat), s.warden w.req = false → v % 4 = s.rd R.FLT_CTRL_FN_MIN 0 →
    exec (.registerWrite w 0x1D0004 4 v) s = .next (s.answer .ok))
  ∧ (∀ (s : State) (w : WCtx) (off size v : Nat), storeServed off size = true →
    (s.storeShut = false ∨ Requester.isHart w.req = true) →
    (Requester.isHart w.req = true ∨ w.req = .psc
      ∨ s.allowedBytes w.req off (toLeBytes size v) = (toLeBytes size v, false)) →
    (Requester.isHart w.req = true → (off ≠ s.logAt ∨ size ≠ 32) ∧ (off ≠ s.traceAt ∨ size ≠ 16)) →
    Completes (.registerWrite w off size v) s fun t =>
      t.ld off size = v % 2 ^ (8 * size) ∧ SameStoreBut off size s t ∧ t.resp = .ok)
  ∧ (∀ (s : State) (w : WCtx) (j v : Nat), Writable s w R.TALLY_SUB_DATA_DATA (2 * j) →
    Writable s w R.TALLY_SUB_DATA_DATA (2 * j + 1) →
    Completes (.registerWrite w (0x200020 + 8 * j) 8 v) s fun t =>
      t.rd R.TALLY_SUB_DATA_DATA (2 * j) = v % 2 ^ 32 ∧ t.rd R.TALLY_SUB_DATA_DATA (2 * j + 1) = v / 2 ^ 32 % 2 ^ 32
        ∧ t.resp = .ok ∧ OnlyFields [(R.TALLY_SUB_DATA_DATA, 2 * j), (R.TALLY_SUB_DATA_DATA, 2 * j + 1)] s t
        ∧ OnlyRegsOut s t ∧ t.out = s.out)
  ∧ (∀ (s : State) (w : WCtx) (off size v : Nat), off < storeSize → storeServed off size = false →
    exec (.registerWrite w off size v) s = .next (s.answer .busError))
  ∧ (∀ (s : State) (w : WCtx) (k v : Nat), amoSet w.req = some k → k < 5 → Writable s w R.STORE_AMO_ADDR_OP k → v % 4 = 3 →
    Completes (.registerWrite w (0x100120 + 8 * k) 4 v) s fun t => Refuses w (0x100120 + 8 * k) 3 s t)

/-- R10, R11, R18, R214, R489, R568, R658–R661, R665: a read of the low word of a 64-bit pair returns it and keeps the high
word for the requester's port, whose next read of the high word takes it; eight bytes return both; reserved space reads 0; a
gated block answers with a bus error; a capture sample that nothing has written is a free value; the Store's span reads bytes.
The model's own choices on which it rests are those of assumptions 35, 39 and 41. -/
def Obligations.ReadsReturnWordsAndPairs : Prop :=
  (∀ (s : State) (w : WCtx), Completes (.readPairLow w 0x100020 4) s fun t =>
      t.resp = .data (s.frame % 2 ^ 32) ∧ (w.req, 0x100020, s.frame / 2 ^ 32) ∈ t.shadows
        ∧ (∀ x ∈ s.shadows, (x.1 ≠ w.req ∨ x.2.1 ≠ 0x100020) → x ∈ t.shadows)
        ∧ t = { s with shadows := t.shadows, resp := t.resp })
  ∧ (∀ (s : State) (w : WCtx) (h : Nat), s.shadows.find? (fun x => x.1 == w.req && x.2.1 == 0x100020) = some (w.req, 0x100020, h) →
    h < 2 ^ 32 →
    Completes (.readPairLow w 0x100024 4) s fun t =>
      t.resp = .data h ∧ (∀ x ∈ t.shadows, x.1 ≠ w.req ∨ x.2.1 ≠ 0x100020)
        ∧ (∀ x ∈ s.shadows, (x.1 ≠ w.req ∨ x.2.1 ≠ 0x100020) → x ∈ t.shadows)
        ∧ t = { s with shadows := t.shadows, resp := t.resp })
  ∧ (∀ (s : State) (w : WCtx), (∀ x ∈ s.shadows, x.1 ≠ w.req ∨ x.2.1 ≠ 0x100020) →
    exec (.readPairLow w 0x100024 4) s = .next (s.answer (.data (s.frame / 2 ^ 32))))
  ∧ (∀ (s : State) (w : WCtx) (b : Nat), b < 4 →
    exec (.readPairLow w (0x200020 + b) 1) s
      = .next (s.answer (if s.gated 0x200020 = true then .busError
          else .data (s.rd R.TALLY_SUB_DATA_DATA 0 / 2 ^ (8 * b) % 256))))
  ∧ (∀ (s : State) (w : WCtx) (off size : Nat), storeSize ≤ off → off < 2 ^ 24 →
    (s.gated off = true ∨ regServed false off size = false) →
    exec (.readPairLow w off size) s = .next (s.answer .busError))
  ∧ (∀ (s : State) (w : WCtx), exec (.readPairLow w 0x1D04A8 4) s = .next (s.answer (.data 0)))
  ∧ (∀ (s : State) (w : WCtx) (l k : Nat), l < 64 → k < 4096 → s.gated 0x300000 = false →
    s.rd R.LE_CAP_PAGE_PAGE 0 = 0 → (s.rd H.LE_CAP_SAMPLE (4096 * l + k)).testBit 32 = true →
    exec (.readPairLow w (0x300000 + 0x4000 * l + 4 * k) 4) s
      = .next (s.answer (.data (s.rd H.LE_CAP_SAMPLE (4096 * l + k) % 2 ^ 32))))
  ∧ (∀ (s : State) (w : WCtx) (l k : Nat), l < 64 → k < 4096 → s.gated 0x300000 = false →
    s.rd R.LE_CAP_PAGE_PAGE 0 = 0 → (s.rd H.LE_CAP_SAMPLE (4096 * l + k)).testBit 32 = false →
    exec (.readPairLow w (0x300000 + 0x4000 * l + 4 * k) 4) s
      = .next (s.freeStep.answer (.data (s.freeVal 32))))
  ∧ (∀ (s : State) (w : WCtx) (off size : Nat), storeServed off size = true →
    (s.storeShut = false ∨ Requester.isHart w.req = true) → (∀ k ∈ wordsAt off size, s.rd H.STORE_ECC k = 0) →
    Completes (.readPairLow w off size) s fun t =>
      t.resp = .data (s.ld off size) ∧ SameStore s t ∧ OnlyRegsOut s t)
  ∧ (∀ (s : State) (w : WCtx), Completes (.readPairLow w 0x100020 8) s fun t =>
      t.resp = .data s.frame ∧ (∀ x ∈ t.shadows, x.1 ≠ w.req ∨ x.2.1 ≠ 0x100020)
        ∧ (∀ x ∈ s.shadows, (x.1 ≠ w.req ∨ x.2.1 ≠ 0x100020) → x ∈ t.shadows)
        ∧ t = { s with shadows := t.shadows, resp := t.resp })

/-- R12, R14, R58, R80, R81, R428, R464, R465, R542, R597: a rising edge of the frame clock begins frame 0 or raises the counter
by one, which wraps at 64 bits; the Warden window loses a frame; the heartbeat ages by the millisecond; a staged change whose
boundary this is takes force, clamped, and one for the boundary after it waits; the queue and what is fused stay. While por_n is
low no frame domain runs. The first clauses are about a boundary at which no staged change is due. The model's own choices on
which it rests are those of assumptions 10, 11 and 55. -/
def Obligations.BoundaryCountsFramesAndCommits : Prop :=
  (∀ (s : State) (n : Nat) (gf : Bool), s.rd H.RST_SEQ 0 = 1 → exec (.frameBoundary ⟨n, gf⟩) s = .next s)
  ∧ (∀ (s : State) (n : Nat) (gf : Bool), s.rd H.RST_SEQ 0 ≠ 1 → s.bit H.TOP_FRAME_STARTED 0 = true → s.rd H.RST_DUE 0 = 0 →
    (∀ x ∈ s.staged, x.skip ≠ 0) →
    Completes (.frameBoundary ⟨n, gf⟩) s fun t =>
      t.frame = (s.frame + 1) % 2 ^ 64 ∧ t.bit H.TOP_FRAME_STARTED 0 = true
        ∧ t.rd R.WARDEN_REMAIN 0 = (if s.bit R.WARDEN_OPEN 0 = true then s.rd R.WARDEN_REMAIN 0 - 1 else s.rd R.WARDEN_REMAIN 0)
        ∧ t.ident = s.ident ∧ t.pending = s.pending)
  ∧ (∀ (s : State) (n : Nat) (gf : Bool), s.rd H.RST_SEQ 0 ≠ 1 → s.bit H.TOP_FRAME_STARTED 0 = false → s.rd H.RST_DUE 0 = 0 →
    (∀ x ∈ s.staged, x.skip ≠ 0) →
    Completes (.frameBoundary ⟨n, gf⟩) s fun t => t.frame = s.frame ∧ t.bit H.TOP_FRAME_STARTED 0 = true)
  ∧ (∀ (s : State) (gf : Bool), s.rd H.RST_SEQ 0 ≠ 1 → s.bit H.TOP_FRAME_STARTED 0 = true → s.rd H.RST_DUE 0 = 0 →
    (∀ x ∈ s.staged, x.skip ≠ 0) →
    Completes (.frameBoundary ⟨500, gf⟩) s fun t =>
      t.rd R.HOST_STAT_HB_AGE 0 = (if s.msEnds = true then satAdd R.HOST_STAT_HB_AGE.wid (s.rd R.HOST_STAT_HB_AGE 0) 1
        else s.rd R.HOST_STAT_HB_AGE 0))
  ∧ (∀ (s : State) (n v : Nat) (gf : Bool), s.rd H.RST_SEQ 0 ≠ 1 → s.rd H.RST_DUE 0 = 0 →
    s.staged = [⟨0, .field R.TWIN_CTRL_CLEAN_FRAMES 0 v⟩] → v < 2 ^ 16 →
    Completes (.frameBoundary ⟨n, gf⟩) s fun t => t.rd R.TWIN_CTRL_CLEAN_FRAMES 0 = max 64 v)
  ∧ (∀ (s : State) (n v : Nat) (gf : Bool), s.rd H.RST_SEQ 0 ≠ 1 → s.rd H.RST_DUE 0 = 0 →
    s.staged = [⟨0, .field R.TH_CTRL_XCHK_DEV 0 v⟩] → v < 256 →
    Completes (.frameBoundary ⟨n, gf⟩) s fun t => t.rd R.TH_CTRL_XCHK_DEV 0 = min 30 v)
  ∧ (∀ (s : State) (n v : Nat) (gf : Bool), s.rd H.RST_SEQ 0 ≠ 1 → s.rd H.RST_DUE 0 = 0 →
    s.staged = [⟨1, .field R.FLT_CTRL_FN_MIN 0 v⟩] →
    Completes (.frameBoundary ⟨n, gf⟩) s fun t =>
      t.rd R.FLT_CTRL_FN_MIN 0 = s.rd R.FLT_CTRL_FN_MIN 0 ∧ (⟨0, .field R.FLT_CTRL_FN_MIN 0 v⟩ : Staged) ∈ t.staged)

/-- R642–R646, R653: PAGE goes before its reads to a supply that has one; a poll of a supply in LINEAR16 mode makes it fresh,
another mode ends its polling, a power above its limit twice running raises it, the third failed poll in a row makes it stale and
raises it; an alert marks the supply that answers, or counts as unknown; a stuck alert line makes the port's supplies stale; a new
master sends PAGE to the supplies that have one, and the transaction it finds unfinished counts as a failed poll. A port that does
not poll does nothing. The model's own choices on which it rests are those of assumptions 6, 32 and 33. -/
def Obligations.SuppliesArePolled : Prop :=
  (∀ (s : State) (k : Nat) (p : PollData), s.polled k = true → p.mode = none →
    Completes (.pmbusPollDone k p) s fun t =>
      t.bit R.PLAT_SUP_STAT_STALE k = false ∧ t.rd R.PLAT_SUP_STAT_AGE k = 0 ∧ t.bit H.PLAT_GOT k = true
        ∧ t.rd H.PLAT_FAILS k = 0 ∧ (∀ x, s.poutOf k p = some x → t.rd R.PLAT_SUP_READ_POUT k = x % 2 ^ 16)
        ∧ (∀ w, p.status = some w → t.rd R.PLAT_SUP_STAT_STATUS_WORD k = w % 65536)
        ∧ (∀ x, s.poutOf k p = some x → s.rd R.PLAT_SUP_LIMIT_POUT_MAX k < x → s.bit H.PLAT_OVERP k = true →
            t.rd R.FLT_SRC_STATE_STATE (0x372 + k) ≠ 0))
  ∧ (∀ (s : State) (k m : Nat) (p : PollData), s.polled k = true → p.mode = some m → m / 32 % 8 ≠ 0 →
    Completes (.pmbusPollDone k p) s fun t =>
      t.bit R.PLAT_SUP_CFG_FMT_ERR k = true ∧ OnlyFields [(R.PLAT_SUP_CFG_FMT_ERR, k)] s t
        ∧ t.out = (s.sendPage k).out ∧ t = { s with regs := t.regs, out := t.out })
  ∧ (∀ (s : State) (k : Nat), s.polled k = true → s.rd H.PLAT_FAILS k < 2 →
    Completes (.pmbusPollFail k) s fun t =>
      t.rd H.PLAT_FAILS k = s.rd H.PLAT_FAILS k + 1 ∧ OnlyFields [(H.PLAT_FAILS, k)] s t
        ∧ t.out = (s.sendPage k).out ∧ t = { s with regs := t.regs, out := t.out })
  ∧ (∀ (s : State) (k : Nat), s.polled k = true → s.rd H.PLAT_FAILS k = 2 →
    Completes (.pmbusPollFail k) s fun t =>
      t.bit R.PLAT_SUP_STAT_STALE k = true ∧ t.rd H.PLAT_FAILS k = 3 ∧ Raised (0x372 + k) 1 s t
        ∧ OnlyKinds (faultFields ++ [H.PLAT_FAILS, R.PLAT_SUP_STAT_STALE]) s t ∧ OnlyFault s t)
  ∧ (∀ (s : State) (port addr k st : Nat), s.polls port = true → st < 65536 →
    (List.range 16).find? (fun j => s.bit R.PLAT_SUP_CFG_EN j && s.supPort j == port && s.rd R.PLAT_SUP_CFG_ADDR j == addr)
      = some k →
    Completes (.pmbusAlert port addr st) s fun t =>
      t.bit R.PLAT_SUP_STAT_ALERT k = true ∧ t.rd R.PLAT_SUP_STAT_STATUS_WORD k = st
        ∧ (st &&& s.rd R.PLAT_SUP_LIMIT_SW_MASK k ≠ 0 → Raised (0x372 + k) 1 s t)
        ∧ (st &&& s.rd R.PLAT_SUP_LIMIT_SW_MASK k = 0 → OnlyKinds [R.PLAT_SUP_STAT_ALERT, R.PLAT_SUP_STAT_STATUS_WORD] s t))
  ∧ (∀ (s : State) (port addr st : Nat), s.polls port = true →
    (∀ j < 16, s.bit R.PLAT_SUP_CFG_EN j = true → s.supPort j = port → s.rd R.PLAT_SUP_CFG_ADDR j ≠ addr) →
    Completes (.pmbusAlert port addr st) s fun t =>
      t.rd R.PLAT_PMB_ALERT_UNK port = satAdd R.PLAT_PMB_ALERT_UNK.wid (s.rd R.PLAT_PMB_ALERT_UNK port) 1
        ∧ OnlyFields [(R.PLAT_PMB_ALERT_UNK, port)] s t ∧ OnlyRegs s t)
  ∧ (∀ (s : State) (port : Nat), s.polls port = true →
    Completes (.alertStuck port) s fun t =>
      (∀ k < 16, s.bit R.PLAT_SUP_CFG_EN k = true → s.supPort k = port → t.bit R.PLAT_SUP_STAT_STALE k = true)
        ∧ (∀ k, s.supPort k ≠ port → t.rd R.PLAT_SUP_STAT_STALE k = s.rd R.PLAT_SUP_STAT_STALE k)
        ∧ OnlyKinds [R.PLAT_SUP_STAT_STALE] s t ∧ OnlyRegs s t)
  ∧ (∀ (s : State), s.platOn = true → s.pmbMaster = true →
    Completes (.pmbusMasterChange none) s fun t =>
      (∀ k < 16, s.polled k = true → s.rd R.PLAT_SUP_CFG_PAGE k ≠ 0xFF →
          .pmbus (s.supPort k) (s.rd R.PLAT_SUP_CFG_ADDR k) 0 ∈ t.out)
        ∧ OnlyKinds [] s t ∧ t = { s with out := t.out })
  ∧ (∀ (s : State) (k : Nat) (p : PollData), s.polled k = false →
    exec (.pmbusPollDone k p) s = .next s ∧ exec (.pmbusPollFail k) s = .next s)
  ∧ (∀ (s : State) (port addr st : Nat), s.polls port = false →
    exec (.pmbusAlert port addr st) s = .next s ∧ exec (.alertStuck port) s = .next s)
  ∧ (∀ (s : State) (u : Option Nat), (s.platOn = false ∨ s.pmbMaster = false) → exec (.pmbusMasterChange u) s = .next s)
  ∧ (∀ (s : State) (k : Nat), s.pmbMaster = true → s.polled k = true → s.rd H.PLAT_FAILS k < 2 →
    Completes (.pmbusMasterChange (some k)) s fun t =>
      t.rd H.PLAT_FAILS k = s.rd H.PLAT_FAILS k + 1 ∧ OnlyFields [(H.PLAT_FAILS, k)] s t
        ∧ t = { s with regs := t.regs, out := t.out })
  ∧ (∀ (s : State) (k : Nat), s.polled k = true → s.rd R.PLAT_SUP_CFG_PAGE k ≠ 0xFF →
    (s.sendPage k).out = .pmbus (s.supPort k) (s.rd R.PLAT_SUP_CFG_ADDR k) 0 :: s.out)
  ∧ (∀ (s : State) (k v : Nat) (p : PollData), s.polled k = true → p.mode = none → p.vout = some v →
    s.rd H.PLAT_VMODE k = 0 → v < 65 →
    Completes (.pmbusPollDone k p) s fun t => t.rd R.PLAT_SUP_READ_VOUT k = 1000 * v)

/-- R636, R647, R648, R651: the addresses that I3C and MCTP assign are kept, and a reserved endpoint or terminus ID is refused;
the endpoint ID and the supported message types are answered; a message of another type is counted; PLDM keeps a terminus ID and
an event receiver and lists its types, and answers that it does not know another; the vendor messages read the Tally, 1024
records at the most, and the open sources. Nothing answers before I3C is up, and no PLDM message is answered while H3 is down.
The numeric codes of the answers are the model's (assumption 34). The model's own choices on which it rests are those of
assumptions 34 and 44. -/
def Obligations.BmcAddressesAndTerminus : Prop :=
  (∀ (s : State) (a : Nat), s.i3cUp = true →
    exec (.setdasa a) s = .next (s.wr R.PLAT_MCTP_DYN 0 (a % 128)) ∧ exec (.entdaa a) s = .next (s.wr R.PLAT_MCTP_DYN 0 (a % 128))
      ∧ exec .setaasa s = .next (s.wr R.PLAT_MCTP_DYN 0 (if s.ident.instB then 0x51 else 0x50)))
  ∧ (∀ (s : State) (e : Nat), s.i3cUp = true → e % 256 ≠ 0 → e % 256 ≠ 255 →
    exec (.setEndpointId e) s = .next ((s.wr R.PLAT_MCTP_EID 0 e).send (.i3c [0, e % 256])))
  ∧ (∀ (s : State), s.i3cUp = true →
    exec .getEndpointId s = .next (s.send (.i3c [0, s.rd R.PLAT_MCTP_EID 0]))
      ∧ (∃ v < 2 ^ 32, exec .getMctpVersionSupport s = .next (s.freeStep.send (.i3c [0, 1, v])))
      ∧ exec .getMessageTypeSupport s = .next (s.send (.i3c [0, 3, 0x00, 0x01, 0x7F])))
  ∧ (∀ (s : State) (typ : Nat), s.i3cUp = true → typ ≠ 0x00 → typ ≠ 0x01 → typ ≠ 0x7F →
    Completes (.mctpUnknownType typ) s fun t =>
      t.rd R.PLAT_MCTP_MCTP_DROP 0 = satAdd R.PLAT_MCTP_MCTP_DROP.wid (s.rd R.PLAT_MCTP_MCTP_DROP 0) 1
        ∧ OnlyKinds [R.PLAT_MCTP_MCTP_DROP] s t ∧ OnlyRegs s t)
  ∧ (∀ (s : State) (n : Nat), s.i3cUp = true → s.hartUp 3 = true → s.bit R.STATUS_SAFE_GOV 0 = false → n % 256 ≠ 0 →
    n % 256 ≠ 255 →
    Completes (.settid n) s fun t =>
      t.rd H.PLAT_TID 0 = n % 256 ∧ exec .gettid t = .next (t.send (.i3c [0, n % 256]))
        ∧ OnlyKinds [H.PLAT_TID] s t ∧ t = { s with regs := t.regs, out := .i3c [0] :: s.out })
  ∧ (∀ (s : State), s.i3cUp = true → s.hartUp 3 = true → s.bit R.STATUS_SAFE_GOV 0 = false →
    exec .gettid s = .next (s.send (.i3c [0, s.rd H.PLAT_TID 0]))
      ∧ (∃ v < 2 ^ 32, exec .getpldmversion s = .next (s.freeStep.send (.i3c [0, v])))
      ∧ exec .getpldmtypes s = .next (s.send (.i3c [0, 5])))
  ∧ (∀ (s : State) (typ : Nat) (l : List Nat), s.i3cUp = true → s.hartUp 3 = true → s.bit R.STATUS_SAFE_GOV 0 = false →
    pldmCommands typ = some l →
    Completes (.getpldmcommands typ) s fun t =>
      (∃ v, t.out = .i3c [0, v] :: s.out ∧ ∀ c < 256, v.testBit c = l.contains c) ∧ OnlyKinds [] s t)
  ∧ (∀ (s : State) (typ cmd : Nat), s.i3cUp = true → s.hartUp 3 = true → s.bit R.STATUS_SAFE_GOV 0 = false →
    (∀ l, pldmCommands typ = some l → l.contains cmd = false) →
    exec (.pldmUnsupported typ cmd) s = .next (s.send (.i3c [5])))
  ∧ (∀ (s : State) (e : Nat), s.i3cUp = true → s.hartUp 3 = true → s.bit R.STATUS_SAFE_GOV 0 = false →
    Completes (.seteventreceiver e) s fun t =>
      t.rd H.PLAT_RECEIVER 0 = e % 256 ∧ .i3c [0] ∈ t.out ∧ OnlyKinds [H.PLAT_RECEIVER] s t)
  ∧ (∀ (s : State) (first n : Nat), s.i3cUp = true → s.hartUp 3 = true → s.bit R.STATUS_SAFE_GOV 0 = false → 0 < n → n ≤ 1024 →
    Completes (.vendorTallyRead first n) s fun t =>
      (∃ l, t.out = .i3c ([0, (s.tallyRange first n).length, s.seqAfter (s.tallyRange first n)] ++ l) :: s.out
          ∧ l.length = 32 * (s.tallyRange first n).length)
        ∧ OnlyKinds [] s t ∧ SameStore s t)
  ∧ (∀ (s : State), s.i3cUp = true → s.hartUp 3 = true → s.bit R.STATUS_SAFE_GOV 0 = false →
    Completes .faultOpen s fun t =>
      (∃ l, t.out = .i3c (0 :: l) :: s.out ∧ l.length = 128 ∧ ∀ k < 128, l[k]? = some (s.openWord k)) ∧ OnlyKinds [] s t)
  ∧ (∀ (s : State) (cmd : Nat), s.i3cUp = true → s.hartUp 3 = true → s.bit R.STATUS_SAFE_GOV 0 = false → cmd ≠ 1 → cmd ≠ 2 →
    exec (.vendorUnknown cmd) s = .next (s.send (.i3c [2])))
  ∧ (∀ (s : State), s.hartUp 3 = false → exec .gettid s = .next s ∧ exec .faultOpen s = .next s)
  ∧ (∀ (s : State) (e : Nat), s.i3cUp = true → e % 256 = 0 ∨ e % 256 = 255 →
    exec (.setEndpointId e) s = .next (s.send (.i3c [2])))
  ∧ (∀ (s : State) (n : Nat), s.i3cUp = true → s.hartUp 3 = true → s.bit R.STATUS_SAFE_GOV 0 = false →
    n % 256 = 0 ∨ n % 256 = 255 → exec (.settid n) s = .next (s.send (.i3c [2])))
  ∧ (∀ (s : State) (typ : Nat), s.i3cUp = true → s.hartUp 3 = true → s.bit R.STATUS_SAFE_GOV 0 = false →
    pldmCommands typ = none → exec (.getpldmcommands typ) s = .next (s.send (.i3c [0x83])))
  ∧ (∀ (s : State) (first n : Nat), s.i3cUp = true → s.hartUp 3 = true → s.bit R.STATUS_SAFE_GOV 0 = false →
    n = 0 ∨ 1024 < n → exec (.vendorTallyRead first n) s = .next (s.send (.i3c [3])))
  ∧ (∀ (s : State) (a : Nat), s.i3cUp = false → exec (.setdasa a) s = .next s ∧ exec (.entdaa a) s = .next s
      ∧ exec .setaasa s = .next s ∧ exec (.setEndpointId a) s = .next s ∧ exec .getEndpointId s = .next s
      ∧ exec (.mctpUnknownType a) s = .next s ∧ exec (.settid a) s = .next s ∧ exec .getpldmtypes s = .next s)

/-- R546, R648–R650: the repository answers its 156 records one by one; a sensor gives its reading where what it reads is in
use, and a state sensor its state; the effecter writes the cap of the BMC, which it also reads back, in W. An ID that is not
there is answered so, and while H3 is down nothing is. The numeric codes of the answers are the model's (assumption 34). The
model's own choices on which it rests are those of assumptions 34 and 44. -/
def Obligations.BmcSensorsAndEffecter : Prop :=
  (∀ (s : State), s.i3cUp = true → s.hartUp 3 = true → s.bit R.STATUS_SAFE_GOV 0 = false →
    exec .getpdrrepositoryinfo s = .next (s.send (.i3c [0, 0, pdrTable.length])))
  ∧ (∀ (s : State) (h k id : Nat), s.i3cUp = true → s.hartUp 3 = true → s.bit R.STATUS_SAFE_GOV 0 = false → 1 ≤ h →
    pdrTable[h - 1]? = some (k, id) →
    exec (.getpdr h) s = .next (s.send (.i3c [0, if h < pdrTable.length then h + 1 else 0, k, id])))
  ∧ (∀ (s : State) (id v : Nat), s.i3cUp = true → s.hartUp 3 = true → s.bit R.STATUS_SAFE_GOV 0 = false →
    s.sensor id = some (some v) → exec (.getsensorreading id) s = .next (s.send (.i3c [0, 0, v])))
  ∧ (∀ (s : State) (id : Nat), s.i3cUp = true → s.hartUp 3 = true → s.bit R.STATUS_SAFE_GOV 0 = false →
    s.sensor id = some none → exec (.getsensorreading id) s = .next (s.send (.i3c [0, 2])))
  ∧ (∀ (s : State), s.i3cUp = true → s.hartUp 3 = true → s.bit R.STATUS_SAFE_GOV 0 = false →
    exec (.getstatesensorreadings 200) s = .next (s.send (.i3c [0, 1, 0, if s.bit R.STATUS_READY 0 then 1 else 2]))
      ∧ exec (.getstatesensorreadings 202) s = .next (s.send (.i3c [0, 1, 0, if s.bit R.TH_TRIP_LATCHED 0 then 2 else 1])))
  ∧ (∀ (s : State) (v : Nat), s.i3cUp = true → s.hartUp 3 = true → s.bit R.STATUS_SAFE_GOV 0 = false → v ≤ 16777 →
    Completes (.setnumericeffectervalue 1 v) s fun t =>
      t.staged = s.staged ++ [(⟨0, .capBmc (1000 * v) false⟩ : Staged)] ∧ .i3c [0] ∈ t.out ∧ OnlyKinds [] s t)
  ∧ (∀ (s : State), s.i3cUp = true → s.hartUp 3 = true → s.bit R.STATUS_SAFE_GOV 0 = false →
    Completes (.getnumericeffectervalue 1) s fun t =>
      (∃ w, t.out = .i3c [0, 0, w] :: s.out ∧ 1000 * w ≤ s.rd R.CAP_BMC_CAP 0 + 999 ∧ s.rd R.CAP_BMC_CAP 0 < 1000 * (w + 1))
        ∧ OnlyKinds [] s t)
  ∧ (∀ (s : State), s.i3cUp = true → s.hartUp 3 = true → s.bit R.STATUS_SAFE_GOV 0 = false →
    exec (.getstatesensorreadings 201) s = .next (s.send (.i3c [0, 1, 0, if s.faultLow then 2 else 1])))
  ∧ (∀ (s : State) (id v : Nat), s.i3cUp = true → s.hartUp 3 = true → s.bit R.STATUS_SAFE_GOV 0 = false →
    id ≠ 1 → exec (.setnumericeffectervalue id v) s = .next (s.send (.i3c [0x80]))
      ∧ exec (.getnumericeffectervalue id) s = .next (s.send (.i3c [0x80])))
  ∧ (∀ (s : State) (v : Nat), s.i3cUp = true → s.hartUp 3 = true → s.bit R.STATUS_SAFE_GOV 0 = false → 16777 < v →
    exec (.setnumericeffectervalue 1 v) s = .next (s.send (.i3c [2])))
  ∧ (∀ (s : State) (id : Nat), s.i3cUp = true → s.hartUp 3 = true → s.bit R.STATUS_SAFE_GOV 0 = false →
    s.sensor id = none → exec (.getsensorreading id) s = .next (s.send (.i3c [0x80])))
  ∧ (∀ (s : State) (h : Nat), s.i3cUp = true → s.hartUp 3 = true → s.bit R.STATUS_SAFE_GOV 0 = false → pdrTable.length < h →
    exec (.getpdr h) s = .next (s.send (.i3c [0x82])))
  ∧ (∀ (s : State) (k : Nat), s.paddocks.contains k = true → k < 128 →
    s.sensor (64 + k) = some (some (word32 (openDivI (s.rdS R.TH_PAD_TEMP_TEMP k) 16))))
  ∧ (∀ (s : State) (h id v : Nat), s.hartUp 3 = false →
    exec .getpdrrepositoryinfo s = .next s ∧ exec (.getpdr h) s = .next s ∧ exec (.getsensorreading id) s = .next s
      ∧ exec (.getstatesensorreadings id) s = .next s ∧ exec (.setnumericeffectervalue id v) s = .next s
      ∧ exec (.getnumericeffectervalue id) s = .next s)

/-- R15, R80, R258, R263, R338, R403, R425, R435, R465, R666, R668: a Warden's command whose field may be written, and which
no rule of its owner forbids, is kept for the boundary; one that a rule forbids, or that another requester sends, is refused
and counted, and has no other effect. The model's own choices on which it rests are those of assumptions 12, 24, 39 and 51. -/
def Obligations.WardenCommandsAreStaged : Prop :=
  (∀ (s : State) (w : WCtx) (r : Nat), Writable s w R.PD_RAIL_CMD_RESTART r → s.mayRestart r = true →
    Completes (.restart w r) s fun t => StagesCmd w R.PD_RAIL_CMD_RESTART r (.restart r) s t)
  ∧ (∀ (s : State) (w : WCtx) (r : Nat), Writable s w R.PD_RAIL_CMD_RESTART r → s.mayRestart r = false →
    Completes (.restart w r) s fun t => Refuses w (R.PD_RAIL_CMD_RESTART.word r) 3 s t)
  ∧ (∀ (s : State) (w : WCtx) (r : Nat), Writable s w R.PD_RAIL_CMD_CLEAR_SAFE r →
    Completes (.clearSafe w r) s fun t => StagesCmd w R.PD_RAIL_CMD_CLEAR_SAFE r (.clearSafe r) s t)
  ∧ (∀ (s : State) (w : WCtx) (p : Nat) (on : Bool), Writable s w R.PD_PH_CTRL_FENCE p → (on = false ∨ s.ph p ≠ 7) →
    Completes (.phaseFenceWrite w p on) s fun t => Stages w (.phaseFence p on) s t)
  ∧ (∀ (s : State) (w : WCtx) (p : Nat), Writable s w R.PD_PH_CTRL_FENCE p → s.ph p = 7 →
    Completes (.phaseFenceWrite w p true) s fun t => Refuses w (R.PD_PH_CTRL_FENCE.word p) 3 s t)
  ∧ (∀ (s : State) (w : WCtx) (c : Nat), Writable s w R.CROOK_TEST_CELL 0 → c < 1024 →
    Completes (.crookTestWrite w c) s fun t => Stages w (.crookTest c) s t)
  ∧ (∀ (s : State) (w : WCtx) (k : Nat) (on : Bool), Writable s w R.TH_FENCE_REQ k →
    Completes (.tileFenceWrite w k on) s fun t => Stages w (.tileFence k on) s t)
  ∧ (∀ (s : State) (w : WCtx), Writable s w R.TWIN_CMD_SWAP 0 → s.peerStandby = true →
    Completes (.swap w) s fun t => StagesCmd w R.TWIN_CMD_SWAP 0 .swap s t)
  ∧ (∀ (s : State) (w : WCtx), Writable s w R.TWIN_CMD_SWAP 0 → s.peerStandby = false →
    Completes (.swap w) s fun t => Refuses w 0x1C0004 3 s t)
  ∧ (∀ (s : State) (w : WCtx), Writable s w R.TWIN_CMD_ATTACH 0 → s.role = 0 →
    Completes (.twinAttach w) s fun t => StagesCmd w R.TWIN_CMD_ATTACH 0 .attach s t)
  ∧ (∀ (s : State) (w : WCtx), Writable s w R.TWIN_CMD_ATTACH 0 → s.role ≠ 0 →
    Completes (.twinAttach w) s fun t => Refuses w 0x1C0004 3 s t)
  ∧ (∀ (s : State) (w : WCtx), Writable s w R.TWIN_CMD_DETACH 0 →
    (s.role = 1 ∨ s.role = 2 ∨ s.role = 3 ∨ s.peerStandby = true) →
    Completes (.twinDetach w) s fun t => StagesCmd w R.TWIN_CMD_DETACH 0 .detach s t)
  ∧ (∀ (s : State) (w : WCtx), Writable s w R.TWIN_CMD_DETACH 0 → (s.role = 0 ∨ s.role = 4) → s.peerStandby = false →
    Completes (.twinDetach w) s fun t => Refuses w 0x1C0004 3 s t)
  ∧ (∀ (s : State) (w : WCtx) (n : Nat), Writable s w R.FLT_CMD_ACTION 0 → srcPresent s.zk4 n = true →
    s.rd R.FLT_SRC_STATE_STATE n ≠ 5 →
    Completes (.clearSource w n) s fun t =>
      t.rd R.FLT_CMD_ACTION 0 = 1 ∧ t.rd R.FLT_CMD_SOURCE 0 = n ∧ t.resp = .ok
        ∧ t.staged = s.staged ++ [(⟨if 192 ≤ w.cyc then 1 else 0, .clearSource n⟩ : Staged)]
        ∧ OnlyKinds [R.FLT_CMD_ACTION, R.FLT_CMD_SOURCE, R.FRAME_STAT_DEFER_CNT] s t ∧ OnlyStaged s t)
  ∧ (∀ (s : State) (w : WCtx) (n : Nat), Writable s w R.FLT_CMD_ACTION 0 → srcPresent s.zk4 n = true →
    s.rd R.FLT_SRC_STATE_STATE n ≠ 5 →
    Completes (.runSourceTest w n) s fun t =>
      t.rd R.FLT_CMD_ACTION 0 = 2 ∧ t.rd R.FLT_CMD_SOURCE 0 = n ∧ t.resp = .ok
        ∧ t.staged = s.staged ++ [(⟨if 192 ≤ w.cyc then 1 else 0, .runTest n⟩ : Staged)]
        ∧ OnlyKinds [R.FLT_CMD_ACTION, R.FLT_CMD_SOURCE, R.FRAME_STAT_DEFER_CNT] s t ∧ OnlyStaged s t)
  ∧ (∀ (s : State) (w : WCtx) (n : Nat), Writable s w R.FLT_CMD_ACTION 0 →
    (srcPresent s.zk4 n = false ∨ s.rd R.FLT_SRC_STATE_STATE n = 5) →
    Completes (.clearSource w n) s (fun t => Refuses w 0x1D0010 3 s t)
      ∧ Completes (.runSourceTest w n) s (fun t => Refuses w 0x1D0010 3 s t))
  ∧ (∀ (s : State) (w : WCtx), s.warden w.req = false → s.gated 0x1C0004 = false →
    s.rd R.TWIN_CMD_SWAP 0 = 0 → s.rd R.TWIN_CMD_ATTACH 0 = 0 → s.rd R.TWIN_CMD_DETACH 0 = 0 →
    Completes (.swap w) s (fun t => Refuses w 0x1C0004 0 s t) ∧ Completes (.twinAttach w) s (fun t => Refuses w 0x1C0004 0 s t)
      ∧ Completes (.twinDetach w) s (fun t => Refuses w 0x1C0004 0 s t))
  ∧ (∀ (s : State) (w : WCtx) (r : Nat), s.warden w.req = false → s.gated (R.PD_RAIL_CMD_RESTART.word r) = false →
    r < R.PD_RAIL_CMD_RESTART.cnt → s.reservedWord (R.PD_RAIL_CMD_RESTART.word r) = false → s.rd R.PD_RAIL_CMD_RESTART r = 0 →
    s.rd R.PD_RAIL_CMD_CLEAR_SAFE r = 0 →
    Completes (.restart w r) s (fun t => Refuses w (R.PD_RAIL_CMD_RESTART.word r) 0 s t)
      ∧ Completes (.clearSafe w r) s (fun t => Refuses w (R.PD_RAIL_CMD_RESTART.word r) 0 s t))
  ∧ (∀ (s : State) (w : WCtx) (p : Nat) (on : Bool), s.warden w.req = false → s.gated (R.PD_PH_CTRL_FENCE.word p) = false →
    p < R.PD_PH_CTRL_FENCE.cnt → s.reservedWord (R.PD_PH_CTRL_FENCE.word p) = false → s.bit R.PD_PH_CTRL_FENCE p = !on →
    Completes (.phaseFenceWrite w p on) s fun t => Refuses w (R.PD_PH_CTRL_FENCE.word p) 0 s t)
  ∧ (∀ (s : State) (w : WCtx) (k : Nat) (on : Bool), s.warden w.req = false → s.gated (R.TH_FENCE_REQ.word k) = false →
    k < R.TH_FENCE_REQ.cnt → s.reservedWord (R.TH_FENCE_REQ.word k) = false → s.bit R.TH_FENCE_REQ k = !on →
    Completes (.tileFenceWrite w k on) s fun t => Refuses w (R.TH_FENCE_REQ.word k) 0 s t)
  ∧ (∀ (s : State) (w : WCtx) (c : Nat), s.warden w.req = false → s.gated 0x15000C = false → c < 1024 →
    s.rd R.CROOK_TEST_CELL 0 ≠ c →
    Completes (.crookTestWrite w c) s fun t => Refuses w 0x15000C 0 s t)

/-- R192–R195, R205: a mode request is stored and kept for the boundary, a MANUAL code and a held word are kept for it; each
goes to a peer that compares, with the frame it is meant for; a held word reads back at once, but for its reserved bits. A slot that
is not OPEN while the map runs refuses one, and a requester without the right is refused. A word that no rule holds is not one of
these. The model's own
choices on which it rests are those of assumptions 8 and 39. -/
def Obligations.LoopWritesAreStagedAndMirrored : Prop :=
  (∀ (s : State) (w : WCtx) (l m : Nat), Writable s w R.LE_SLOT_MODE_MODE_REQ l → m < 4 →
    Completes (.modeReq w l m) s fun t =>
      t.rd R.LE_SLOT_MODE_MODE_REQ l = m ∧ t.resp = .ok
        ∧ t.staged = s.staged ++ [(⟨if 192 ≤ w.cyc then 1 else 0, .modeReq l m⟩ : Staged)]
        ∧ t.out = (if s.peerCompares = true
            then .mirror ⟨true, s.frame + (if 192 ≤ w.cyc then 2 else 1), .write (0x114000 + 64 * l) m⟩ :: s.out else s.out)
        ∧ OnlyKinds [R.LE_SLOT_MODE_MODE_REQ, R.FRAME_STAT_DEFER_CNT] s t
        ∧ t = { s with regs := t.regs, staged := t.staged, out := t.out, resp := t.resp })
  ∧ (∀ (s : State) (w : WCtx) (l v : Nat), Writable s w R.LE_SLOT_MANUAL_MANUAL l → v < 65536 →
    Completes (.manual w l v) s fun t =>
      t.rd R.LE_SLOT_MANUAL_MANUAL l = s.rd R.LE_SLOT_MANUAL_MANUAL l ∧ t.resp = .ok
        ∧ t.staged = s.staged ++ [(⟨if 192 ≤ w.cyc then 1 else 0, .manual l v⟩ : Staged)]
        ∧ t.out = (if s.peerCompares = true
            then .mirror ⟨true, s.frame + (if 192 ≤ w.cyc then 2 else 1), .write (0x114004 + 64 * l) v⟩ :: s.out else s.out)
        ∧ OnlyKinds [R.FRAME_STAT_DEFER_CNT] s t
        ∧ t = { s with regs := t.regs, staged := t.staged, out := t.out, resp := t.resp })
  ∧ (∀ (s : State) (w : WCtx) (off v : Nat) (x : Fld × Nat), heldOff off = true → off % 4 = 0 →
    (heldFields off).head? = some x → Writable s w x.1 x.2 → v < 2 ^ 32 →
    Completes (.heldWrite w off v) s fun t =>
      t.resp = .ok ∧ t.heldWord off = v &&& fieldBits off
        ∧ t.staged = s.staged ++ [(⟨if 192 ≤ w.cyc then 1 else 0, .held off v 0xFFFFFFFF⟩ : Staged)]
        ∧ t.out = (if s.peerCompares = true
            then .mirror ⟨true, s.frame + (if 192 ≤ w.cyc then 2 else 1), .write off v⟩ :: s.out else s.out)
        ∧ OnlyKinds [R.FRAME_STAT_DEFER_CNT] s t
        ∧ t = { s with regs := t.regs, staged := t.staged, out := t.out, resp := t.resp })
  ∧ (∀ (s : State) (w : WCtx) (l v : Nat), l < 256 → s.gated 0x114000 = false → s.right w.req R.LE_SLOT_SLEW_SLEW l = true →
    s.runEn = true → s.mode l ≠ 0 → s.rd R.LE_SLOT_SLEW_SLEW l ≠ v → v < 65536 →
    Completes (.heldWrite w (0x114024 + 64 * l) v) s fun t => Refuses w (0x114024 + 64 * l) 1 s t)
  ∧ (∀ (s : State) (w : WCtx) (off v : Nat), heldOff off = false ∨ off % 4 ≠ 0 →
    exec (.heldWrite w off v) s = .next (s.answer .busError))
  ∧ (∀ (s : State) (w : WCtx) (l m : Nat), l < 256 → s.gated 0x114000 = false → s.right w.req R.LE_SLOT_MODE_MODE_REQ l = false →
    m < 4 → s.rd R.LE_SLOT_MODE_MODE_REQ l ≠ m →
    Completes (.modeReq w l m) s fun t => Refuses w (0x114000 + 64 * l) 4 s t)
end

