-- ==== Sys2Proof/Laws/State.lean ====
section
/-! SUPPORT. The small laws of the state: sparse maps, the register file's read after write, and what each named update
leaves alone. -/

namespace Sys2Proof.Machine

/-! ## Sparse maps -/

theorem amGet_amErase_self {α : Type} (k : Nat) (m : List (Nat × α)) : amGet k (amErase k m) = none := by
  induction m with
  | nil => rfl
  | cons e t ih =>
    obtain ⟨k', v⟩ := e
    by_cases h : k = k'
    · simp only [amErase, h, if_true]; rw [← h]; exact ih
    · simp only [amErase, h, if_false, amGet]; exact ih

theorem amGet_amErase_ne {α : Type} {j k : Nat} (h : j ≠ k) (m : List (Nat × α)) : amGet j (amErase k m) = amGet j m := by
  induction m with
  | nil => rfl
  | cons e t ih =>
    obtain ⟨k', v⟩ := e
    by_cases hk : k = k'
    · simp only [amErase, if_pos hk, amGet, if_neg (hk ▸ h), ih]
    · simp only [amErase, if_neg hk, amGet, ih]

theorem amGet_amPut_self {α : Type} (k : Nat) (v : α) (m : List (Nat × α)) : amGet k (amPut k v m) = some v := by
  induction m with
  | nil => simp [amPut, amGet]
  | cons e t ih =>
    obtain ⟨k', v'⟩ := e
    simp only [amPut]
    split
    · simp [amGet]
    · split
      · simp [amGet]
      · next h => simp [amGet, h, ih]

theorem amGet_amPut_ne {α : Type} {j k : Nat} (h : j ≠ k) (v : α) (m : List (Nat × α)) :
    amGet j (amPut k v m) = amGet j m := by
  induction m with
  | nil => simp [amPut, amGet, h]
  | cons e t ih =>
    obtain ⟨k', v'⟩ := e
    simp only [amPut]
    split
    · simp [amGet, h]
    · split
      · next h2 => simp [amGet, h, ← h2]
      · simp [amGet, ih]

/-! ## The register file -/

theorem Fld.key_ne {f g : Fld} (h : f.apart g = true) {i j : Nat} (hi : i < f.cnt) (hj : j < g.cnt) : f.key i ≠ g.key j := by
  simp only [Fld.apart, Bool.or_eq_true, Bool.and_eq_true, decide_eq_true_eq] at h
  obtain ⟨⟨hf, hg⟩, h⟩ := h
  have hi' := (Nat.mul_lt_mul_left hf).2 hi
  have hj' := (Nat.mul_lt_mul_left hg).2 hj
  simp only [Fld.key]
  rcases h with (h | h) | ⟨hs, hm⟩
  · omega
  · omega
  · intro e
    apply hm
    have := congrArg (· % f.stride) e
    simpa [hs] using this

/-- Different elements of one field have different addresses. -/
theorem Fld.key_inj {f : Fld} (h : 0 < f.stride) {i j : Nat} (hij : i ≠ j) : f.key i ≠ f.key j := by
  simp only [Fld.key]
  intro e
  exact hij (Nat.eq_of_mul_eq_mul_left h (by omega))

theorem regsRd_lt (r : List (Nat × Nat)) (f : Fld) (i : Nat) : regsRd r f i < 2 ^ f.wid := by
  unfold regsRd; split <;> exact Nat.mod_lt _ (Nat.two_pow_pos _)

theorem regsRd_regsWr_self (r : List (Nat × Nat)) (f : Fld) {i : Nat} (h : i < f.cnt) (v : Nat) :
    regsRd (regsWr r f i v) f i = v % 2 ^ f.wid := by
  simp only [regsRd, regsWr, if_pos h]
  split
  · next e => rw [amGet_amErase_self, Option.getD_none, ← e, Nat.mod_mod]
  · rw [amGet_amPut_self, Option.getD_some, Nat.mod_mod]

theorem regsRd_regsWr_key {f g : Fld} {i j : Nat} (h : j < g.cnt → i < f.cnt → f.key i ≠ g.key j) (r : List (Nat × Nat))
    (v : Nat) : regsRd (regsWr r f i v) g j = regsRd r g j := by
  simp only [regsRd, regsWr]
  by_cases hj : j < g.cnt
  · by_cases hi : i < f.cnt
    · simp only [if_pos hj, if_pos hi]
      split
      · rw [amGet_amErase_ne (h hj hi).symm]
      · rw [amGet_amPut_ne (h hj hi).symm]
    · simp only [if_neg hi]
  · simp only [if_neg hj]

theorem regsRd_regsWr_apart {f g : Fld} (h : f.apart g = true) (r : List (Nat × Nat)) (i j v : Nat) :
    regsRd (regsWr r f i v) g j = regsRd r g j :=
  regsRd_regsWr_key (fun hj hi => Fld.key_ne h hi hj) r v

theorem regsRd_regsWr_idx {f : Fld} {i j : Nat} (h : i ≠ j) (hs : 0 < f.stride) (r : List (Nat × Nat)) (v : Nat) :
    regsRd (regsWr r f i v) f j = regsRd r f j :=
  regsRd_regsWr_key (fun _ _ => Fld.key_inj hs h) r v

namespace State

@[simp] theorem rd_lt (s : State) (f : Fld) (i : Nat) : s.rd f i < 2 ^ f.wid := regsRd_lt _ _ _

/-- A field reads back what was written to it, cut to its width. -/
theorem rd_wr_self (s : State) (f : Fld) {i : Nat} (h : i < f.cnt) (v : Nat) : (s.wr f i v).rd f i = v % 2 ^ f.wid :=
  regsRd_regsWr_self _ _ h _

/-- A write leaves every field that lies elsewhere. -/
theorem rd_wr_apart (s : State) {f g : Fld} (h : f.apart g = true) (i j v : Nat) : (s.wr f i v).rd g j = s.rd g j :=
  regsRd_regsWr_apart h _ _ _ _

/-- A write leaves the other elements of its field. -/
theorem rd_wr_idx (s : State) {f : Fld} {i j : Nat} (h : i ≠ j) (hs : 0 < f.stride) (v : Nat) :
    (s.wr f i v).rd f j = s.rd f j :=
  regsRd_regsWr_idx h hs _ _

/-- A read sees the register file alone. -/
theorem rd_congr {s t : State} (h : t.regs = s.regs) (f : Fld) (i : Nat) : t.rd f i = s.rd f i := by
  simp only [State.rd, h]

/-! ### A field written -/

@[simp] theorem wr_ident (s : State) (f : Fld) (i v : Nat) : (s.wr f i v).ident = s.ident := rfl
@[simp] theorem wr_store (s : State) (f : Fld) (i v : Nat) : (s.wr f i v).store = s.store := rfl
@[simp] theorem wr_map (s : State) (f : Fld) (i v : Nat) : (s.wr f i v).map = s.map := rfl
@[simp] theorem wr_staged (s : State) (f : Fld) (i v : Nat) : (s.wr f i v).staged = s.staged := rfl
@[simp] theorem wr_mesh (s : State) (f : Fld) (i v : Nat) : (s.wr f i v).mesh = s.mesh := rfl
@[simp] theorem wr_sched (s : State) (f : Fld) (i v : Nat) : (s.wr f i v).sched = s.sched := rfl
@[simp] theorem wr_sweeps (s : State) (f : Fld) (i v : Nat) : (s.wr f i v).sweeps = s.sweeps := rfl
@[simp] theorem wr_fifo (s : State) (f : Fld) (i v : Nat) : (s.wr f i v).fifo = s.fifo := rfl
@[simp] theorem wr_fltQueue (s : State) (f : Fld) (i v : Nat) : (s.wr f i v).fltQueue = s.fltQueue := rfl
@[simp] theorem wr_tallyQueue (s : State) (f : Fld) (i v : Nat) : (s.wr f i v).tallyQueue = s.tallyQueue := rfl
@[simp] theorem wr_tallyStage (s : State) (f : Fld) (i v : Nat) : (s.wr f i v).tallyStage = s.tallyStage := rfl
@[simp] theorem wr_mirror (s : State) (f : Fld) (i v : Nat) : (s.wr f i v).mirror = s.mirror := rfl
@[simp] theorem wr_flush (s : State) (f : Fld) (i v : Nat) : (s.wr f i v).flush = s.flush := rfl
@[simp] theorem wr_shadows (s : State) (f : Fld) (i v : Nat) : (s.wr f i v).shadows = s.shadows := rfl
@[simp] theorem wr_out (s : State) (f : Fld) (i v : Nat) : (s.wr f i v).out = s.out := rfl
@[simp] theorem wr_resp (s : State) (f : Fld) (i v : Nat) : (s.wr f i v).resp = s.resp := rfl
@[simp] theorem wr_free (s : State) (f : Fld) (i v : Nat) : (s.wr f i v).free = s.free := rfl
@[simp] theorem wr_pending (s : State) (f : Fld) (i v : Nat) : (s.wr f i v).pending = s.pending := rfl

/-! ### A one-bit field written -/

@[simp] theorem wrB_ident (s : State) (f : Fld) (i : Nat) (b : Bool) : (s.wrB f i b).ident = s.ident := rfl
@[simp] theorem wrB_store (s : State) (f : Fld) (i : Nat) (b : Bool) : (s.wrB f i b).store = s.store := rfl
@[simp] theorem wrB_map (s : State) (f : Fld) (i : Nat) (b : Bool) : (s.wrB f i b).map = s.map := rfl
@[simp] theorem wrB_staged (s : State) (f : Fld) (i : Nat) (b : Bool) : (s.wrB f i b).staged = s.staged := rfl
@[simp] theorem wrB_mesh (s : State) (f : Fld) (i : Nat) (b : Bool) : (s.wrB f i b).mesh = s.mesh := rfl
@[simp] theorem wrB_sched (s : State) (f : Fld) (i : Nat) (b : Bool) : (s.wrB f i b).sched = s.sched := rfl
@[simp] theorem wrB_sweeps (s : State) (f : Fld) (i : Nat) (b : Bool) : (s.wrB f i b).sweeps = s.sweeps := rfl
@[simp] theorem wrB_fifo (s : State) (f : Fld) (i : Nat) (b : Bool) : (s.wrB f i b).fifo = s.fifo := rfl
@[simp] theorem wrB_fltQueue (s : State) (f : Fld) (i : Nat) (b : Bool) : (s.wrB f i b).fltQueue = s.fltQueue := rfl
@[simp] theorem wrB_tallyQueue (s : State) (f : Fld) (i : Nat) (b : Bool) : (s.wrB f i b).tallyQueue = s.tallyQueue := rfl
@[simp] theorem wrB_tallyStage (s : State) (f : Fld) (i : Nat) (b : Bool) : (s.wrB f i b).tallyStage = s.tallyStage := rfl
@[simp] theorem wrB_mirror (s : State) (f : Fld) (i : Nat) (b : Bool) : (s.wrB f i b).mirror = s.mirror := rfl
@[simp] theorem wrB_flush (s : State) (f : Fld) (i : Nat) (b : Bool) : (s.wrB f i b).flush = s.flush := rfl
@[simp] theorem wrB_shadows (s : State) (f : Fld) (i : Nat) (b : Bool) : (s.wrB f i b).shadows = s.shadows := rfl
@[simp] theorem wrB_out (s : State) (f : Fld) (i : Nat) (b : Bool) : (s.wrB f i b).out = s.out := rfl
@[simp] theorem wrB_resp (s : State) (f : Fld) (i : Nat) (b : Bool) : (s.wrB f i b).resp = s.resp := rfl
@[simp] theorem wrB_free (s : State) (f : Fld) (i : Nat) (b : Bool) : (s.wrB f i b).free = s.free := rfl
@[simp] theorem wrB_pending (s : State) (f : Fld) (i : Nat) (b : Bool) : (s.wrB f i b).pending = s.pending := rfl

/-! ### A signed field written -/

@[simp] theorem wrS_ident (s : State) (f : Fld) (i : Nat) (x : Int) : (s.wrS f i x).ident = s.ident := rfl
@[simp] theorem wrS_store (s : State) (f : Fld) (i : Nat) (x : Int) : (s.wrS f i x).store = s.store := rfl
@[simp] theorem wrS_map (s : State) (f : Fld) (i : Nat) (x : Int) : (s.wrS f i x).map = s.map := rfl
@[simp] theorem wrS_staged (s : State) (f : Fld) (i : Nat) (x : Int) : (s.wrS f i x).staged = s.staged := rfl
@[simp] theorem wrS_mesh (s : State) (f : Fld) (i : Nat) (x : Int) : (s.wrS f i x).mesh = s.mesh := rfl
@[simp] theorem wrS_sched (s : State) (f : Fld) (i : Nat) (x : Int) : (s.wrS f i x).sched = s.sched := rfl
@[simp] theorem wrS_sweeps (s : State) (f : Fld) (i : Nat) (x : Int) : (s.wrS f i x).sweeps = s.sweeps := rfl
@[simp] theorem wrS_fifo (s : State) (f : Fld) (i : Nat) (x : Int) : (s.wrS f i x).fifo = s.fifo := rfl
@[simp] theorem wrS_fltQueue (s : State) (f : Fld) (i : Nat) (x : Int) : (s.wrS f i x).fltQueue = s.fltQueue := rfl
@[simp] theorem wrS_tallyQueue (s : State) (f : Fld) (i : Nat) (x : Int) : (s.wrS f i x).tallyQueue = s.tallyQueue := rfl
@[simp] theorem wrS_tallyStage (s : State) (f : Fld) (i : Nat) (x : Int) : (s.wrS f i x).tallyStage = s.tallyStage := rfl
@[simp] theorem wrS_mirror (s : State) (f : Fld) (i : Nat) (x : Int) : (s.wrS f i x).mirror = s.mirror := rfl
@[simp] theorem wrS_flush (s : State) (f : Fld) (i : Nat) (x : Int) : (s.wrS f i x).flush = s.flush := rfl
@[simp] theorem wrS_shadows (s : State) (f : Fld) (i : Nat) (x : Int) : (s.wrS f i x).shadows = s.shadows := rfl
@[simp] theorem wrS_out (s : State) (f : Fld) (i : Nat) (x : Int) : (s.wrS f i x).out = s.out := rfl
@[simp] theorem wrS_resp (s : State) (f : Fld) (i : Nat) (x : Int) : (s.wrS f i x).resp = s.resp := rfl
@[simp] theorem wrS_free (s : State) (f : Fld) (i : Nat) (x : Int) : (s.wrS f i x).free = s.free := rfl
@[simp] theorem wrS_pending (s : State) (f : Fld) (i : Nat) (x : Int) : (s.wrS f i x).pending = s.pending := rfl

/-! ### A counter raised -/

@[simp] theorem inc_ident (s : State) (f : Fld) (i n : Nat) : (s.inc f i n).ident = s.ident := rfl
@[simp] theorem inc_store (s : State) (f : Fld) (i n : Nat) : (s.inc f i n).store = s.store := rfl
@[simp] theorem inc_map (s : State) (f : Fld) (i n : Nat) : (s.inc f i n).map = s.map := rfl
@[simp] theorem inc_staged (s : State) (f : Fld) (i n : Nat) : (s.inc f i n).staged = s.staged := rfl
@[simp] theorem inc_mesh (s : State) (f : Fld) (i n : Nat) : (s.inc f i n).mesh = s.mesh := rfl
@[simp] theorem inc_sched (s : State) (f : Fld) (i n : Nat) : (s.inc f i n).sched = s.sched := rfl
@[simp] theorem inc_sweeps (s : State) (f : Fld) (i n : Nat) : (s.inc f i n).sweeps = s.sweeps := rfl
@[simp] theorem inc_fifo (s : State) (f : Fld) (i n : Nat) : (s.inc f i n).fifo = s.fifo := rfl
@[simp] theorem inc_fltQueue (s : State) (f : Fld) (i n : Nat) : (s.inc f i n).fltQueue = s.fltQueue := rfl
@[simp] theorem inc_tallyQueue (s : State) (f : Fld) (i n : Nat) : (s.inc f i n).tallyQueue = s.tallyQueue := rfl
@[simp] theorem inc_tallyStage (s : State) (f : Fld) (i n : Nat) : (s.inc f i n).tallyStage = s.tallyStage := rfl
@[simp] theorem inc_mirror (s : State) (f : Fld) (i n : Nat) : (s.inc f i n).mirror = s.mirror := rfl
@[simp] theorem inc_flush (s : State) (f : Fld) (i n : Nat) : (s.inc f i n).flush = s.flush := rfl
@[simp] theorem inc_shadows (s : State) (f : Fld) (i n : Nat) : (s.inc f i n).shadows = s.shadows := rfl
@[simp] theorem inc_out (s : State) (f : Fld) (i n : Nat) : (s.inc f i n).out = s.out := rfl
@[simp] theorem inc_resp (s : State) (f : Fld) (i n : Nat) : (s.inc f i n).resp = s.resp := rfl
@[simp] theorem inc_free (s : State) (f : Fld) (i n : Nat) : (s.inc f i n).free = s.free := rfl
@[simp] theorem inc_pending (s : State) (f : Fld) (i n : Nat) : (s.inc f i n).pending = s.pending := rfl

/-! ### A range back at reset -/

@[simp] theorem clearRange_ident (s : State) (lo hi : Nat) : (s.clearRange lo hi).ident = s.ident := rfl
@[simp] theorem clearRange_store (s : State) (lo hi : Nat) : (s.clearRange lo hi).store = s.store := rfl
@[simp] theorem clearRange_map (s : State) (lo hi : Nat) : (s.clearRange lo hi).map = s.map := rfl
@[simp] theorem clearRange_staged (s : State) (lo hi : Nat) : (s.clearRange lo hi).staged = s.staged := rfl
@[simp] theorem clearRange_mesh (s : State) (lo hi : Nat) : (s.clearRange lo hi).mesh = s.mesh := rfl
@[simp] theorem clearRange_sched (s : State) (lo hi : Nat) : (s.clearRange lo hi).sched = s.sched := rfl
@[simp] theorem clearRange_sweeps (s : State) (lo hi : Nat) : (s.clearRange lo hi).sweeps = s.sweeps := rfl
@[simp] theorem clearRange_fifo (s : State) (lo hi : Nat) : (s.clearRange lo hi).fifo = s.fifo := rfl
@[simp] theorem clearRange_fltQueue (s : State) (lo hi : Nat) : (s.clearRange lo hi).fltQueue = s.fltQueue := rfl
@[simp] theorem clearRange_tallyQueue (s : State) (lo hi : Nat) : (s.clearRange lo hi).tallyQueue = s.tallyQueue := rfl
@[simp] theorem clearRange_tallyStage (s : State) (lo hi : Nat) : (s.clearRange lo hi).tallyStage = s.tallyStage := rfl
@[simp] theorem clearRange_mirror (s : State) (lo hi : Nat) : (s.clearRange lo hi).mirror = s.mirror := rfl
@[simp] theorem clearRange_flush (s : State) (lo hi : Nat) : (s.clearRange lo hi).flush = s.flush := rfl
@[simp] theorem clearRange_shadows (s : State) (lo hi : Nat) : (s.clearRange lo hi).shadows = s.shadows := rfl
@[simp] theorem clearRange_out (s : State) (lo hi : Nat) : (s.clearRange lo hi).out = s.out := rfl
@[simp] theorem clearRange_resp (s : State) (lo hi : Nat) : (s.clearRange lo hi).resp = s.resp := rfl
@[simp] theorem clearRange_free (s : State) (lo hi : Nat) : (s.clearRange lo hi).free = s.free := rfl
@[simp] theorem clearRange_pending (s : State) (lo hi : Nat) : (s.clearRange lo hi).pending = s.pending := rfl

/-! ### A field back at reset -/

@[simp] theorem clearFld_ident (s : State) (f : Fld) : (s.clearFld f).ident = s.ident := rfl
@[simp] theorem clearFld_store (s : State) (f : Fld) : (s.clearFld f).store = s.store := rfl
@[simp] theorem clearFld_map (s : State) (f : Fld) : (s.clearFld f).map = s.map := rfl
@[simp] theorem clearFld_staged (s : State) (f : Fld) : (s.clearFld f).staged = s.staged := rfl
@[simp] theorem clearFld_mesh (s : State) (f : Fld) : (s.clearFld f).mesh = s.mesh := rfl
@[simp] theorem clearFld_sched (s : State) (f : Fld) : (s.clearFld f).sched = s.sched := rfl
@[simp] theorem clearFld_sweeps (s : State) (f : Fld) : (s.clearFld f).sweeps = s.sweeps := rfl
@[simp] theorem clearFld_fifo (s : State) (f : Fld) : (s.clearFld f).fifo = s.fifo := rfl
@[simp] theorem clearFld_fltQueue (s : State) (f : Fld) : (s.clearFld f).fltQueue = s.fltQueue := rfl
@[simp] theorem clearFld_tallyQueue (s : State) (f : Fld) : (s.clearFld f).tallyQueue = s.tallyQueue := rfl
@[simp] theorem clearFld_tallyStage (s : State) (f : Fld) : (s.clearFld f).tallyStage = s.tallyStage := rfl
@[simp] theorem clearFld_mirror (s : State) (f : Fld) : (s.clearFld f).mirror = s.mirror := rfl
@[simp] theorem clearFld_flush (s : State) (f : Fld) : (s.clearFld f).flush = s.flush := rfl
@[simp] theorem clearFld_shadows (s : State) (f : Fld) : (s.clearFld f).shadows = s.shadows := rfl
@[simp] theorem clearFld_out (s : State) (f : Fld) : (s.clearFld f).out = s.out := rfl
@[simp] theorem clearFld_resp (s : State) (f : Fld) : (s.clearFld f).resp = s.resp := rfl
@[simp] theorem clearFld_free (s : State) (f : Fld) : (s.clearFld f).free = s.free := rfl
@[simp] theorem clearFld_pending (s : State) (f : Fld) : (s.clearFld f).pending = s.pending := rfl

/-! ### Check bits stored afresh -/

@[simp] theorem clearEcc_ident (s : State) (a n : Nat) : (s.clearEcc a n).ident = s.ident := rfl
@[simp] theorem clearEcc_store (s : State) (a n : Nat) : (s.clearEcc a n).store = s.store := rfl
@[simp] theorem clearEcc_map (s : State) (a n : Nat) : (s.clearEcc a n).map = s.map := rfl
@[simp] theorem clearEcc_staged (s : State) (a n : Nat) : (s.clearEcc a n).staged = s.staged := rfl
@[simp] theorem clearEcc_mesh (s : State) (a n : Nat) : (s.clearEcc a n).mesh = s.mesh := rfl
@[simp] theorem clearEcc_sched (s : State) (a n : Nat) : (s.clearEcc a n).sched = s.sched := rfl
@[simp] theorem clearEcc_sweeps (s : State) (a n : Nat) : (s.clearEcc a n).sweeps = s.sweeps := rfl
@[simp] theorem clearEcc_fifo (s : State) (a n : Nat) : (s.clearEcc a n).fifo = s.fifo := rfl
@[simp] theorem clearEcc_fltQueue (s : State) (a n : Nat) : (s.clearEcc a n).fltQueue = s.fltQueue := rfl
@[simp] theorem clearEcc_tallyQueue (s : State) (a n : Nat) : (s.clearEcc a n).tallyQueue = s.tallyQueue := rfl
@[simp] theorem clearEcc_tallyStage (s : State) (a n : Nat) : (s.clearEcc a n).tallyStage = s.tallyStage := rfl
@[simp] theorem clearEcc_mirror (s : State) (a n : Nat) : (s.clearEcc a n).mirror = s.mirror := rfl
@[simp] theorem clearEcc_flush (s : State) (a n : Nat) : (s.clearEcc a n).flush = s.flush := rfl
@[simp] theorem clearEcc_shadows (s : State) (a n : Nat) : (s.clearEcc a n).shadows = s.shadows := rfl
@[simp] theorem clearEcc_out (s : State) (a n : Nat) : (s.clearEcc a n).out = s.out := rfl
@[simp] theorem clearEcc_resp (s : State) (a n : Nat) : (s.clearEcc a n).resp = s.resp := rfl
@[simp] theorem clearEcc_free (s : State) (a n : Nat) : (s.clearEcc a n).free = s.free := rfl
@[simp] theorem clearEcc_pending (s : State) (a n : Nat) : (s.clearEcc a n).pending = s.pending := rfl

/-! ### A value written to the Store -/

@[simp] theorem st_ident (s : State) (a n v : Nat) : (s.st a n v).ident = s.ident := rfl
@[simp] theorem st_map (s : State) (a n v : Nat) : (s.st a n v).map = s.map := rfl
@[simp] theorem st_staged (s : State) (a n v : Nat) : (s.st a n v).staged = s.staged := rfl
@[simp] theorem st_mesh (s : State) (a n v : Nat) : (s.st a n v).mesh = s.mesh := rfl
@[simp] theorem st_sched (s : State) (a n v : Nat) : (s.st a n v).sched = s.sched := rfl
@[simp] theorem st_sweeps (s : State) (a n v : Nat) : (s.st a n v).sweeps = s.sweeps := rfl
@[simp] theorem st_fifo (s : State) (a n v : Nat) : (s.st a n v).fifo = s.fifo := rfl
@[simp] theorem st_fltQueue (s : State) (a n v : Nat) : (s.st a n v).fltQueue = s.fltQueue := rfl
@[simp] theorem st_tallyQueue (s : State) (a n v : Nat) : (s.st a n v).tallyQueue = s.tallyQueue := rfl
@[simp] theorem st_tallyStage (s : State) (a n v : Nat) : (s.st a n v).tallyStage = s.tallyStage := rfl
@[simp] theorem st_mirror (s : State) (a n v : Nat) : (s.st a n v).mirror = s.mirror := rfl
@[simp] theorem st_flush (s : State) (a n v : Nat) : (s.st a n v).flush = s.flush := rfl
@[simp] theorem st_shadows (s : State) (a n v : Nat) : (s.st a n v).shadows = s.shadows := rfl
@[simp] theorem st_out (s : State) (a n v : Nat) : (s.st a n v).out = s.out := rfl
@[simp] theorem st_resp (s : State) (a n v : Nat) : (s.st a n v).resp = s.resp := rfl
@[simp] theorem st_free (s : State) (a n v : Nat) : (s.st a n v).free = s.free := rfl
@[simp] theorem st_pending (s : State) (a n v : Nat) : (s.st a n v).pending = s.pending := rfl

/-! ### Bytes written to the Store -/

@[simp] theorem stBytes_ident (s : State) (a : Nat) (b : List Byte) : (s.stBytes a b).ident = s.ident := rfl
@[simp] theorem stBytes_map (s : State) (a : Nat) (b : List Byte) : (s.stBytes a b).map = s.map := rfl
@[simp] theorem stBytes_staged (s : State) (a : Nat) (b : List Byte) : (s.stBytes a b).staged = s.staged := rfl
@[simp] theorem stBytes_mesh (s : State) (a : Nat) (b : List Byte) : (s.stBytes a b).mesh = s.mesh := rfl
@[simp] theorem stBytes_sched (s : State) (a : Nat) (b : List Byte) : (s.stBytes a b).sched = s.sched := rfl
@[simp] theorem stBytes_sweeps (s : State) (a : Nat) (b : List Byte) : (s.stBytes a b).sweeps = s.sweeps := rfl
@[simp] theorem stBytes_fifo (s : State) (a : Nat) (b : List Byte) : (s.stBytes a b).fifo = s.fifo := rfl
@[simp] theorem stBytes_fltQueue (s : State) (a : Nat) (b : List Byte) : (s.stBytes a b).fltQueue = s.fltQueue := rfl
@[simp] theorem stBytes_tallyQueue (s : State) (a : Nat) (b : List Byte) : (s.stBytes a b).tallyQueue = s.tallyQueue := rfl
@[simp] theorem stBytes_tallyStage (s : State) (a : Nat) (b : List Byte) : (s.stBytes a b).tallyStage = s.tallyStage := rfl
@[simp] theorem stBytes_mirror (s : State) (a : Nat) (b : List Byte) : (s.stBytes a b).mirror = s.mirror := rfl
@[simp] theorem stBytes_flush (s : State) (a : Nat) (b : List Byte) : (s.stBytes a b).flush = s.flush := rfl
@[simp] theorem stBytes_shadows (s : State) (a : Nat) (b : List Byte) : (s.stBytes a b).shadows = s.shadows := rfl
@[simp] theorem stBytes_out (s : State) (a : Nat) (b : List Byte) : (s.stBytes a b).out = s.out := rfl
@[simp] theorem stBytes_resp (s : State) (a : Nat) (b : List Byte) : (s.stBytes a b).resp = s.resp := rfl
@[simp] theorem stBytes_free (s : State) (a : Nat) (b : List Byte) : (s.stBytes a b).free = s.free := rfl
@[simp] theorem stBytes_pending (s : State) (a : Nat) (b : List Byte) : (s.stBytes a b).pending = s.pending := rfl

/-! ### A message sent -/

@[simp] theorem send_ident (s : State) (m : Msg) : (s.send m).ident = s.ident := rfl
@[simp] theorem send_regs (s : State) (m : Msg) : (s.send m).regs = s.regs := rfl
@[simp] theorem send_store (s : State) (m : Msg) : (s.send m).store = s.store := rfl
@[simp] theorem send_map (s : State) (m : Msg) : (s.send m).map = s.map := rfl
@[simp] theorem send_staged (s : State) (m : Msg) : (s.send m).staged = s.staged := rfl
@[simp] theorem send_mesh (s : State) (m : Msg) : (s.send m).mesh = s.mesh := rfl
@[simp] theorem send_sched (s : State) (m : Msg) : (s.send m).sched = s.sched := rfl
@[simp] theorem send_sweeps (s : State) (m : Msg) : (s.send m).sweeps = s.sweeps := rfl
@[simp] theorem send_fifo (s : State) (m : Msg) : (s.send m).fifo = s.fifo := rfl
@[simp] theorem send_fltQueue (s : State) (m : Msg) : (s.send m).fltQueue = s.fltQueue := rfl
@[simp] theorem send_tallyQueue (s : State) (m : Msg) : (s.send m).tallyQueue = s.tallyQueue := rfl
@[simp] theorem send_tallyStage (s : State) (m : Msg) : (s.send m).tallyStage = s.tallyStage := rfl
@[simp] theorem send_mirror (s : State) (m : Msg) : (s.send m).mirror = s.mirror := rfl
@[simp] theorem send_flush (s : State) (m : Msg) : (s.send m).flush = s.flush := rfl
@[simp] theorem send_shadows (s : State) (m : Msg) : (s.send m).shadows = s.shadows := rfl
@[simp] theorem send_resp (s : State) (m : Msg) : (s.send m).resp = s.resp := rfl
@[simp] theorem send_free (s : State) (m : Msg) : (s.send m).free = s.free := rfl
@[simp] theorem send_pending (s : State) (m : Msg) : (s.send m).pending = s.pending := rfl
@[simp] theorem rd_send (s : State) (m : Msg) (g : Fld) (j : Nat) : (s.send m).rd g j = s.rd g j := rfl

/-! ### An access answered -/

@[simp] theorem answer_ident (s : State) (r : Resp) : (s.answer r).ident = s.ident := rfl
@[simp] theorem answer_regs (s : State) (r : Resp) : (s.answer r).regs = s.regs := rfl
@[simp] theorem answer_store (s : State) (r : Resp) : (s.answer r).store = s.store := rfl
@[simp] theorem answer_map (s : State) (r : Resp) : (s.answer r).map = s.map := rfl
@[simp] theorem answer_staged (s : State) (r : Resp) : (s.answer r).staged = s.staged := rfl
@[simp] theorem answer_mesh (s : State) (r : Resp) : (s.answer r).mesh = s.mesh := rfl
@[simp] theorem answer_sched (s : State) (r : Resp) : (s.answer r).sched = s.sched := rfl
@[simp] theorem answer_sweeps (s : State) (r : Resp) : (s.answer r).sweeps = s.sweeps := rfl
@[simp] theorem answer_fifo (s : State) (r : Resp) : (s.answer r).fifo = s.fifo := rfl
@[simp] theorem answer_fltQueue (s : State) (r : Resp) : (s.answer r).fltQueue = s.fltQueue := rfl
@[simp] theorem answer_tallyQueue (s : State) (r : Resp) : (s.answer r).tallyQueue = s.tallyQueue := rfl
@[simp] theorem answer_tallyStage (s : State) (r : Resp) : (s.answer r).tallyStage = s.tallyStage := rfl
@[simp] theorem answer_mirror (s : State) (r : Resp) : (s.answer r).mirror = s.mirror := rfl
@[simp] theorem answer_flush (s : State) (r : Resp) : (s.answer r).flush = s.flush := rfl
@[simp] theorem answer_shadows (s : State) (r : Resp) : (s.answer r).shadows = s.shadows := rfl
@[simp] theorem answer_out (s : State) (r : Resp) : (s.answer r).out = s.out := rfl
@[simp] theorem answer_free (s : State) (r : Resp) : (s.answer r).free = s.free := rfl
@[simp] theorem answer_pending (s : State) (r : Resp) : (s.answer r).pending = s.pending := rfl
@[simp] theorem rd_answer (s : State) (r : Resp) (g : Fld) (j : Nat) : (s.answer r).rd g j = s.rd g j := rfl

/-! ### A free value used -/

@[simp] theorem freeStep_ident (s : State)  : (s.freeStep).ident = s.ident := rfl
@[simp] theorem freeStep_regs (s : State)  : (s.freeStep).regs = s.regs := rfl
@[simp] theorem freeStep_store (s : State)  : (s.freeStep).store = s.store := rfl
@[simp] theorem freeStep_map (s : State)  : (s.freeStep).map = s.map := rfl
@[simp] theorem freeStep_staged (s : State)  : (s.freeStep).staged = s.staged := rfl
@[simp] theorem freeStep_mesh (s : State)  : (s.freeStep).mesh = s.mesh := rfl
@[simp] theorem freeStep_sched (s : State)  : (s.freeStep).sched = s.sched := rfl
@[simp] theorem freeStep_sweeps (s : State)  : (s.freeStep).sweeps = s.sweeps := rfl
@[simp] theorem freeStep_fifo (s : State)  : (s.freeStep).fifo = s.fifo := rfl
@[simp] theorem freeStep_fltQueue (s : State)  : (s.freeStep).fltQueue = s.fltQueue := rfl
@[simp] theorem freeStep_tallyQueue (s : State)  : (s.freeStep).tallyQueue = s.tallyQueue := rfl
@[simp] theorem freeStep_tallyStage (s : State)  : (s.freeStep).tallyStage = s.tallyStage := rfl
@[simp] theorem freeStep_mirror (s : State)  : (s.freeStep).mirror = s.mirror := rfl
@[simp] theorem freeStep_flush (s : State)  : (s.freeStep).flush = s.flush := rfl
@[simp] theorem freeStep_shadows (s : State)  : (s.freeStep).shadows = s.shadows := rfl
@[simp] theorem freeStep_out (s : State)  : (s.freeStep).out = s.out := rfl
@[simp] theorem freeStep_resp (s : State)  : (s.freeStep).resp = s.resp := rfl
@[simp] theorem freeStep_pending (s : State)  : (s.freeStep).pending = s.pending := rfl
@[simp] theorem rd_freeStep (s : State)  (g : Fld) (j : Nat) : (s.freeStep).rd g j = s.rd g j := rfl

/-! ### A write refused -/

@[simp] theorem refuse_ident (s : State) (w : WCtx) (off cause : Nat) : (s.refuse w off cause).ident = s.ident := rfl
@[simp] theorem refuse_store (s : State) (w : WCtx) (off cause : Nat) : (s.refuse w off cause).store = s.store := rfl
@[simp] theorem refuse_map (s : State) (w : WCtx) (off cause : Nat) : (s.refuse w off cause).map = s.map := rfl
@[simp] theorem refuse_staged (s : State) (w : WCtx) (off cause : Nat) : (s.refuse w off cause).staged = s.staged := rfl
@[simp] theorem refuse_mesh (s : State) (w : WCtx) (off cause : Nat) : (s.refuse w off cause).mesh = s.mesh := rfl
@[simp] theorem refuse_sched (s : State) (w : WCtx) (off cause : Nat) : (s.refuse w off cause).sched = s.sched := rfl
@[simp] theorem refuse_sweeps (s : State) (w : WCtx) (off cause : Nat) : (s.refuse w off cause).sweeps = s.sweeps := rfl
@[simp] theorem refuse_fifo (s : State) (w : WCtx) (off cause : Nat) : (s.refuse w off cause).fifo = s.fifo := rfl
@[simp] theorem refuse_fltQueue (s : State) (w : WCtx) (off cause : Nat) : (s.refuse w off cause).fltQueue = s.fltQueue := rfl
@[simp] theorem refuse_tallyQueue (s : State) (w : WCtx) (off cause : Nat) : (s.refuse w off cause).tallyQueue = s.tallyQueue := rfl
@[simp] theorem refuse_tallyStage (s : State) (w : WCtx) (off cause : Nat) : (s.refuse w off cause).tallyStage = s.tallyStage := rfl
@[simp] theorem refuse_mirror (s : State) (w : WCtx) (off cause : Nat) : (s.refuse w off cause).mirror = s.mirror := rfl
@[simp] theorem refuse_flush (s : State) (w : WCtx) (off cause : Nat) : (s.refuse w off cause).flush = s.flush := rfl
@[simp] theorem refuse_shadows (s : State) (w : WCtx) (off cause : Nat) : (s.refuse w off cause).shadows = s.shadows := rfl
@[simp] theorem refuse_out (s : State) (w : WCtx) (off cause : Nat) : (s.refuse w off cause).out = s.out := rfl
@[simp] theorem refuse_free (s : State) (w : WCtx) (off cause : Nat) : (s.refuse w off cause).free = s.free := rfl
@[simp] theorem refuse_pending (s : State) (w : WCtx) (off cause : Nat) : (s.refuse w off cause).pending = s.pending := rfl

@[simp] theorem answer_resp_self (s : State) (r : Resp) : (s.answer r).resp = r := rfl
@[simp] theorem send_out_self (s : State) (m : Msg) : (s.send m).out = m :: s.out := rfl
@[simp] theorem freeStep_free_self (s : State) : s.freeStep.free = s.free + 1 := rfl

end State

end Sys2Proof.Machine
end

