-- ==== Sys2Proof/Laws/Frames.lean ====
section
/-! SUPPORT. How frames compose: what each named update and each combinator leaves alone. -/

set_option Elab.async false

namespace Sys2Proof.Machine

/-! ## Registers by kind -/

namespace OnlyKinds

theorem refl (l : List Fld) (s : State) : OnlyKinds l s s := fun _ _ _ => rfl

theorem trans {l : List Fld} {s t u : State} (h : OnlyKinds l s t) (h' : OnlyKinds l t u) : OnlyKinds l s u :=
  fun g j hg => (h' g j hg).trans (h g j hg)

theorem mono {l m : List Fld} {s t : State} (h : OnlyKinds l s t) (hl : ∀ f ∈ l, f ∈ m) : OnlyKinds m s t :=
  fun g j hg => h g j (fun f hf => hg f (hl f hf))

theorem symm {l : List Fld} {s t : State} (h : OnlyKinds l s t) : OnlyKinds l t s := fun g j hg => (h g j hg).symm

/-- An update of anything but the registers. -/
theorem of_regs (l : List Fld) {s t : State} (e : t.regs = s.regs) : OnlyKinds l s t := fun g j _ => State.rd_congr e g j

/-- What concerns the listed fields alone may be left out of a chain of updates. -/
theorem chain {l : List Fld} {t u : State} (h : OnlyKinds l t u) (s : State) : OnlyKinds l s u ↔ OnlyKinds l s t :=
  ⟨fun h' => h'.trans h.symm, fun h' => h'.trans h⟩

theorem foldl {α : Type} {l : List Fld} (t : State) (xs : List α) {g : State → α → State}
    (hg : ∀ u x, OnlyKinds l u (g u x)) : OnlyKinds l t (xs.foldl g t) := by
  induction xs generalizing t with
  | nil => exact refl l t
  | cons x xs ih => exact (hg t x).trans (ih _)

@[simp] theorem self (l : List Fld) (s : State) : OnlyKinds l s s ↔ True := iff_true_intro (refl l s)

@[simp] theorem chain_wr {l : List Fld} {f : Fld} (hf : f ∈ l) (s t : State) (i v : Nat) :
    OnlyKinds l s (t.wr f i v) ↔ OnlyKinds l s t :=
  chain (fun _ j hg => State.rd_wr_apart t (hg f hf) i j v) s

@[simp] theorem chain_wrB {l : List Fld} {f : Fld} (hf : f ∈ l) (s t : State) (i : Nat) (b : Bool) :
    OnlyKinds l s (t.wrB f i b) ↔ OnlyKinds l s t := chain_wr hf s t i _

@[simp] theorem chain_wrS {l : List Fld} {f : Fld} (hf : f ∈ l) (s t : State) (i : Nat) (x : Int) :
    OnlyKinds l s (t.wrS f i x) ↔ OnlyKinds l s t := chain_wr hf s t i _

@[simp] theorem chain_inc {l : List Fld} {f : Fld} (hf : f ∈ l) (s t : State) (i n : Nat) :
    OnlyKinds l s (t.inc f i n) ↔ OnlyKinds l s t := chain_wr hf s t i _

@[simp] theorem chain_send (l : List Fld) (s t : State) (m : Msg) : OnlyKinds l s (t.send m) ↔ OnlyKinds l s t :=
  chain (of_regs l rfl) s

@[simp] theorem chain_answer (l : List Fld) (s t : State) (r : Resp) : OnlyKinds l s (t.answer r) ↔ OnlyKinds l s t :=
  chain (of_regs l rfl) s

@[simp] theorem chain_freeStep (l : List Fld) (s t : State) : OnlyKinds l s t.freeStep ↔ OnlyKinds l s t :=
  chain (of_regs l rfl) s

@[simp] theorem chain_ite (l : List Fld) (s t u : State) (c : Prop) [Decidable c] :
    OnlyKinds l s (if c then t else u) ↔ (c → OnlyKinds l s t) ∧ (¬c → OnlyKinds l s u) := by split <;> simp [*]

@[simp] theorem chain_when {l : List Fld} {g : State → State} (hg : ∀ u, OnlyKinds l u (g u)) (s t : State) (c : Bool) :
    OnlyKinds l s (t.when c g) ↔ OnlyKinds l s t := by
  unfold State.when; split
  · exact chain (hg t) s
  · rfl

@[simp] theorem chain_foldl {α : Type} {l : List Fld} {g : State → α → State} (hg : ∀ u x, OnlyKinds l u (g u x))
    (s t : State) (xs : List α) : OnlyKinds l s (xs.foldl g t) ↔ OnlyKinds l s t := chain (foldl t xs hg) s

@[simp] theorem chain_wrAll {l : List Fld} {f : Fld} (hf : f ∈ l) (s t : State) (xs : List Nat) (v : Nat → Nat) :
    OnlyKinds l s (t.wrAll f xs v) ↔ OnlyKinds l s t :=
  chain (foldl t xs (fun u x => (chain_wr hf u u x _).2 (refl l u))) s

theorem clearElems {l : List Fld} (t : State) {fs : List Fld} (hf : ∀ f ∈ fs, f ∈ l) (i : Nat) :
    OnlyKinds l t (t.clearElems fs i) := by
  unfold State.clearElems
  induction fs generalizing t with
  | nil => exact refl l t
  | cons f fs ih =>
    exact trans ((chain_wr (hf f (by simp)) t t i _).2 (refl l t)) (ih _ (fun g hg => hf g (by simp [hg])))

@[simp] theorem chain_clearElems {l : List Fld} {fs : List Fld} (hf : ∀ f ∈ fs, f ∈ l) (s t : State) (i : Nat) :
    OnlyKinds l s (t.clearElems fs i) ↔ OnlyKinds l s t := chain (clearElems t hf i) s

end OnlyKinds

/-- Removing keys from a map leaves what a kept key reads. -/
theorem amGet_filter {α : Type} (p : Nat → Bool) (k : Nat) (hk : p k = true) (m : List (Nat × α)) :
    amGet k (m.filter (fun e => p e.1)) = amGet k m := by
  induction m with
  | nil => rfl
  | cons e t ih =>
    obtain ⟨k', v⟩ := e
    by_cases h : p k' = true
    · simp only [List.filter_cons, h, if_true, amGet, ih]
    · have hne : k ≠ k' := fun e => h (e ▸ hk)
      simp only [List.filter_cons, h, amGet, if_neg hne]; simpa using ih

/-- A range of addresses cleared leaves every element outside it. -/
theorem State.rd_clearRange (s : State) {lo hi : Nat} {g : Fld} {j : Nat} (h : g.key j < lo ∨ hi ≤ g.key j) :
    (s.clearRange lo hi).rd g j = s.rd g j := by
  simp only [State.rd, regsRd, State.clearRange]
  split
  · rw [amGet_filter (fun k => !(decide (lo ≤ k) && decide (k < hi))) (g.key j)]
    rcases h with h | h <;> simp <;> omega
  · rfl

/-- The address of an element of one field does not stand at a place of another, within the other's range. -/
theorem Fld.not_place {f g : Fld} (h : f.apart g = true) {j : Nat} (hj : j < g.cnt) (h1 : f.base ≤ g.key j)
    (h2 : g.key j < f.base + f.stride * f.cnt) : (g.key j - f.base) % f.stride ≠ 0 := by
  simp only [Fld.apart, Bool.or_eq_true, Bool.and_eq_true, decide_eq_true_eq] at h
  obtain ⟨⟨hf, hg⟩, h⟩ := h
  have hj' := (Nat.mul_lt_mul_left hg).2 hj
  simp only [Fld.key] at *
  rcases h with (h | h) | ⟨hs, hm⟩
  · omega
  · omega
  · intro e
    apply hm
    rw [hs] at e hm ⊢
    have e1 := Nat.div_add_mod (g.base + g.stride * j - f.base) g.stride
    rw [e, Nat.add_zero] at e1
    have e2 : g.base + g.stride * j = f.base + g.stride * ((g.base + g.stride * j - f.base) / g.stride) := by omega
    have e3 := congrArg (· % g.stride) e2
    simpa using e3.symm

/-- Storing check bits afresh concerns the ECC marks alone. -/
theorem OnlyKinds.clearEcc {l : List Fld} (hf : H.STORE_ECC ∈ l) (t : State) (a n : Nat) :
    OnlyKinds l t (t.clearEcc a n) := by
  intro g j hg
  by_cases hj : j < g.cnt
  · simp only [State.rd, regsRd, State.clearEcc, if_pos hj]
    rw [amGet_filter (fun k => !(decide (H.STORE_ECC.key ((a + 3) / 4) ≤ k)
      && decide (k < H.STORE_ECC.key (min ((a + n) / 4) (storeSize / 4)))
      && (k - H.STORE_ECC.base) % H.STORE_ECC.stride == 0)) (g.key j)]
    simp only [Bool.not_eq_true', Bool.and_eq_false_iff, decide_eq_false_iff_not, beq_eq_false_iff_ne]
    by_contra hc
    push Not at hc
    obtain ⟨⟨h1, h2⟩, h3⟩ := hc
    refine Fld.not_place (hg _ hf) hj ?_ ?_ h3
    · exact le_trans (by simp [Fld.key]) h1
    · refine lt_of_lt_of_le h2 ?_
      simp only [Fld.key]
      exact Nat.add_le_add_left (Nat.mul_le_mul_left _ (Nat.min_le_right _ _)) _
  · simp only [State.rd, regsRd, if_neg hj]

/-- A field back at reset concerns that field alone. -/
theorem OnlyKinds.clearFld {l : List Fld} {f : Fld} (hf : f ∈ l) (t : State) : OnlyKinds l t (t.clearFld f) := by
  intro g j hg
  by_cases hj : j < g.cnt
  · simp only [State.rd, regsRd, State.clearFld, if_pos hj]
    rw [amGet_filter (fun k => !(decide (f.base ≤ k) && decide (k < f.base + f.stride * f.cnt)
      && (k - f.base) % f.stride == 0)) (g.key j)]
    simp only [Bool.not_eq_true', Bool.and_eq_false_iff, decide_eq_false_iff_not, beq_eq_false_iff_ne]
    by_contra hc
    push Not at hc
    obtain ⟨⟨h1, h2⟩, h3⟩ := hc
    exact Fld.not_place (hg _ hf) hj h1 h2 h3
  · simp only [State.rd, regsRd, if_neg hj]

namespace OnlyKinds

@[simp] theorem chain_clearEcc {l : List Fld} (hf : H.STORE_ECC ∈ l) (s t : State) (a n : Nat) :
    OnlyKinds l s (t.clearEcc a n) ↔ OnlyKinds l s t := chain (clearEcc hf t a n) s

@[simp] theorem chain_clearFld {l : List Fld} {f : Fld} (hf : f ∈ l) (s t : State) :
    OnlyKinds l s (t.clearFld f) ↔ OnlyKinds l s t := chain (clearFld hf t) s

@[simp] theorem chain_st {l : List Fld} (hf : H.STORE_ECC ∈ l) (s t : State) (a n v : Nat) :
    OnlyKinds l s (t.st a n v) ↔ OnlyKinds l s t :=
  chain ((of_regs l rfl).trans (clearEcc hf { t with store := memPutBytes t.store a (toLeBytes n v) } a n)) s

@[simp] theorem chain_stBytes {l : List Fld} (hf : H.STORE_ECC ∈ l) (s t : State) (a : Nat) (b : List Byte) :
    OnlyKinds l s (t.stBytes a b) ↔ OnlyKinds l s t :=
  chain ((of_regs l rfl).trans (clearEcc hf { t with store := memPutBytes t.store a b } a b.length)) s

end OnlyKinds

/-! ## Parts of the state -/

namespace OnlyRegs

/-- The parts that the frame names, one by one. -/
theorem iff {s t : State} : OnlyRegs s t ↔
    t.ident = s.ident ∧ t.store = s.store ∧ t.map = s.map ∧ t.staged = s.staged ∧ t.mesh = s.mesh
     ∧ t.sched = s.sched ∧ t.sweeps = s.sweeps ∧ t.fifo = s.fifo ∧ t.fltQueue = s.fltQueue
     ∧ t.tallyQueue = s.tallyQueue ∧ t.tallyStage = s.tallyStage ∧ t.mirror = s.mirror ∧ t.flush = s.flush
     ∧ t.shadows = s.shadows ∧ t.out = s.out ∧ t.resp = s.resp ∧ t.free = s.free ∧ t.pending = s.pending := by
  cases s; cases t; simp [OnlyRegs]

@[simp] theorem self (s : State) : OnlyRegs s s ↔ True := iff_true_intro rfl

theorem symm {s t : State} (h : OnlyRegs s t) : OnlyRegs t s := by rw [iff] at *; simp_all

theorem trans {s t u : State} (h : OnlyRegs s t) (h' : OnlyRegs t u) : OnlyRegs s u := by rw [iff] at *; simp_all

theorem chain {t u : State} (h : OnlyRegs t u) (s : State) : OnlyRegs s u ↔ OnlyRegs s t :=
  ⟨fun h' => h'.trans h.symm, fun h' => h'.trans h⟩

@[simp] theorem chain_wr (s t : State) (f : Fld) (i v : Nat) : OnlyRegs s (t.wr f i v) ↔ OnlyRegs s t :=
  chain (show OnlyRegs t (t.wr f i v) from rfl) s

@[simp] theorem chain_wrB (s t : State) (f : Fld) (i : Nat) (b : Bool) : OnlyRegs s (t.wrB f i b) ↔ OnlyRegs s t :=
  chain (show OnlyRegs t (t.wrB f i b) from rfl) s

@[simp] theorem chain_wrS (s t : State) (f : Fld) (i : Nat) (x : Int) : OnlyRegs s (t.wrS f i x) ↔ OnlyRegs s t :=
  chain (show OnlyRegs t (t.wrS f i x) from rfl) s

@[simp] theorem chain_inc (s t : State) (f : Fld) (i n : Nat) : OnlyRegs s (t.inc f i n) ↔ OnlyRegs s t :=
  chain (show OnlyRegs t (t.inc f i n) from rfl) s

@[simp] theorem chain_clearEcc (s t : State) (a n : Nat) : OnlyRegs s (t.clearEcc a n) ↔ OnlyRegs s t :=
  chain (show OnlyRegs t (t.clearEcc a n) from rfl) s

@[simp] theorem chain_clearFld (s t : State) (f : Fld) : OnlyRegs s (t.clearFld f) ↔ OnlyRegs s t :=
  chain (show OnlyRegs t (t.clearFld f) from rfl) s

@[simp] theorem chain_ite (s t u : State) (c : Prop) [Decidable c] :
    OnlyRegs s (if c then t else u) ↔ (c → OnlyRegs s t) ∧ (¬c → OnlyRegs s u) := by split <;> simp [*]

@[simp] theorem chain_when {g : State → State} (hg : ∀ u, OnlyRegs u (g u)) (s t : State) (c : Bool) :
    OnlyRegs s (t.when c g) ↔ OnlyRegs s t := by
  unfold State.when; split
  · exact chain (hg t) s
  · rfl

theorem foldl {α : Type} (t : State) (xs : List α) {g : State → α → State} (hg : ∀ u x, OnlyRegs u (g u x)) :
    OnlyRegs t (xs.foldl g t) := by
  induction xs generalizing t with
  | nil => exact (self t).2 trivial
  | cons x xs ih => exact (hg t x).trans (ih _)

@[simp] theorem chain_foldl {α : Type} {g : State → α → State} (hg : ∀ u x, OnlyRegs u (g u x)) (s t : State) (xs : List α) :
    OnlyRegs s (xs.foldl g t) ↔ OnlyRegs s t := chain (foldl t xs hg) s

@[simp] theorem chain_wrAll (s t : State) (f : Fld) (xs : List Nat) (v : Nat → Nat) : OnlyRegs s (t.wrAll f xs v) ↔ OnlyRegs s t :=
  chain (foldl t xs (fun u x => (chain_wr u u f x _).2 ((self u).2 trivial))) s

@[simp] theorem chain_clearElems (s t : State) (fs : List Fld) (i : Nat) : OnlyRegs s (t.clearElems fs i) ↔ OnlyRegs s t :=
  chain (foldl t fs (fun u f => (chain_wr u u f i _).2 ((self u).2 trivial))) s

end OnlyRegs

namespace OnlyRegsOut

/-- The parts that the frame names, one by one. -/
theorem iff {s t : State} : OnlyRegsOut s t ↔
    t.ident = s.ident ∧ t.store = s.store ∧ t.map = s.map ∧ t.staged = s.staged ∧ t.mesh = s.mesh
     ∧ t.sched = s.sched ∧ t.sweeps = s.sweeps ∧ t.fifo = s.fifo ∧ t.fltQueue = s.fltQueue
     ∧ t.tallyQueue = s.tallyQueue ∧ t.tallyStage = s.tallyStage ∧ t.mirror = s.mirror ∧ t.flush = s.flush
     ∧ t.shadows = s.shadows ∧ t.free = s.free ∧ t.pending = s.pending := by
  cases s; cases t; simp [OnlyRegsOut]

@[simp] theorem self (s : State) : OnlyRegsOut s s ↔ True := iff_true_intro rfl

theorem symm {s t : State} (h : OnlyRegsOut s t) : OnlyRegsOut t s := by rw [iff] at *; simp_all

theorem trans {s t u : State} (h : OnlyRegsOut s t) (h' : OnlyRegsOut t u) : OnlyRegsOut s u := by rw [iff] at *; simp_all

theorem chain {t u : State} (h : OnlyRegsOut t u) (s : State) : OnlyRegsOut s u ↔ OnlyRegsOut s t :=
  ⟨fun h' => h'.trans h.symm, fun h' => h'.trans h⟩

@[simp] theorem chain_wr (s t : State) (f : Fld) (i v : Nat) : OnlyRegsOut s (t.wr f i v) ↔ OnlyRegsOut s t :=
  chain (show OnlyRegsOut t (t.wr f i v) from rfl) s

@[simp] theorem chain_wrB (s t : State) (f : Fld) (i : Nat) (b : Bool) : OnlyRegsOut s (t.wrB f i b) ↔ OnlyRegsOut s t :=
  chain (show OnlyRegsOut t (t.wrB f i b) from rfl) s

@[simp] theorem chain_wrS (s t : State) (f : Fld) (i : Nat) (x : Int) : OnlyRegsOut s (t.wrS f i x) ↔ OnlyRegsOut s t :=
  chain (show OnlyRegsOut t (t.wrS f i x) from rfl) s

@[simp] theorem chain_inc (s t : State) (f : Fld) (i n : Nat) : OnlyRegsOut s (t.inc f i n) ↔ OnlyRegsOut s t :=
  chain (show OnlyRegsOut t (t.inc f i n) from rfl) s

@[simp] theorem chain_clearEcc (s t : State) (a n : Nat) : OnlyRegsOut s (t.clearEcc a n) ↔ OnlyRegsOut s t :=
  chain (show OnlyRegsOut t (t.clearEcc a n) from rfl) s

@[simp] theorem chain_clearFld (s t : State) (f : Fld) : OnlyRegsOut s (t.clearFld f) ↔ OnlyRegsOut s t :=
  chain (show OnlyRegsOut t (t.clearFld f) from rfl) s

@[simp] theorem chain_send (s t : State) (m : Msg) : OnlyRegsOut s (t.send m) ↔ OnlyRegsOut s t :=
  chain (show OnlyRegsOut t (t.send m) from rfl) s

@[simp] theorem chain_answer (s t : State) (r : Resp) : OnlyRegsOut s (t.answer r) ↔ OnlyRegsOut s t :=
  chain (show OnlyRegsOut t (t.answer r) from rfl) s

@[simp] theorem chain_ite (s t u : State) (c : Prop) [Decidable c] :
    OnlyRegsOut s (if c then t else u) ↔ (c → OnlyRegsOut s t) ∧ (¬c → OnlyRegsOut s u) := by split <;> simp [*]

@[simp] theorem chain_when {g : State → State} (hg : ∀ u, OnlyRegsOut u (g u)) (s t : State) (c : Bool) :
    OnlyRegsOut s (t.when c g) ↔ OnlyRegsOut s t := by
  unfold State.when; split
  · exact chain (hg t) s
  · rfl

theorem foldl {α : Type} (t : State) (xs : List α) {g : State → α → State} (hg : ∀ u x, OnlyRegsOut u (g u x)) :
    OnlyRegsOut t (xs.foldl g t) := by
  induction xs generalizing t with
  | nil => exact (self t).2 trivial
  | cons x xs ih => exact (hg t x).trans (ih _)

@[simp] theorem chain_foldl {α : Type} {g : State → α → State} (hg : ∀ u x, OnlyRegsOut u (g u x)) (s t : State) (xs : List α) :
    OnlyRegsOut s (xs.foldl g t) ↔ OnlyRegsOut s t := chain (foldl t xs hg) s

@[simp] theorem chain_wrAll (s t : State) (f : Fld) (xs : List Nat) (v : Nat → Nat) : OnlyRegsOut s (t.wrAll f xs v) ↔ OnlyRegsOut s t :=
  chain (foldl t xs (fun u x => (chain_wr u u f x _).2 ((self u).2 trivial))) s

@[simp] theorem chain_clearElems (s t : State) (fs : List Fld) (i : Nat) : OnlyRegsOut s (t.clearElems fs i) ↔ OnlyRegsOut s t :=
  chain (foldl t fs (fun u f => (chain_wr u u f i _).2 ((self u).2 trivial))) s

end OnlyRegsOut

namespace OnlyRegsMesh

/-- The parts that the frame names, one by one. -/
theorem iff {s t : State} : OnlyRegsMesh s t ↔
    t.ident = s.ident ∧ t.store = s.store ∧ t.map = s.map ∧ t.staged = s.staged ∧ t.sched = s.sched
     ∧ t.sweeps = s.sweeps ∧ t.fifo = s.fifo ∧ t.fltQueue = s.fltQueue ∧ t.tallyQueue = s.tallyQueue
     ∧ t.tallyStage = s.tallyStage ∧ t.mirror = s.mirror ∧ t.flush = s.flush ∧ t.shadows = s.shadows
     ∧ t.free = s.free ∧ t.pending = s.pending := by
  cases s; cases t; simp [OnlyRegsMesh]

@[simp] theorem self (s : State) : OnlyRegsMesh s s ↔ True := iff_true_intro rfl

theorem symm {s t : State} (h : OnlyRegsMesh s t) : OnlyRegsMesh t s := by rw [iff] at *; simp_all

theorem trans {s t u : State} (h : OnlyRegsMesh s t) (h' : OnlyRegsMesh t u) : OnlyRegsMesh s u := by rw [iff] at *; simp_all

theorem chain {t u : State} (h : OnlyRegsMesh t u) (s : State) : OnlyRegsMesh s u ↔ OnlyRegsMesh s t :=
  ⟨fun h' => h'.trans h.symm, fun h' => h'.trans h⟩

@[simp] theorem chain_wr (s t : State) (f : Fld) (i v : Nat) : OnlyRegsMesh s (t.wr f i v) ↔ OnlyRegsMesh s t :=
  chain (show OnlyRegsMesh t (t.wr f i v) from rfl) s

@[simp] theorem chain_wrB (s t : State) (f : Fld) (i : Nat) (b : Bool) : OnlyRegsMesh s (t.wrB f i b) ↔ OnlyRegsMesh s t :=
  chain (show OnlyRegsMesh t (t.wrB f i b) from rfl) s

@[simp] theorem chain_wrS (s t : State) (f : Fld) (i : Nat) (x : Int) : OnlyRegsMesh s (t.wrS f i x) ↔ OnlyRegsMesh s t :=
  chain (show OnlyRegsMesh t (t.wrS f i x) from rfl) s

@[simp] theorem chain_inc (s t : State) (f : Fld) (i n : Nat) : OnlyRegsMesh s (t.inc f i n) ↔ OnlyRegsMesh s t :=
  chain (show OnlyRegsMesh t (t.inc f i n) from rfl) s

@[simp] theorem chain_clearEcc (s t : State) (a n : Nat) : OnlyRegsMesh s (t.clearEcc a n) ↔ OnlyRegsMesh s t :=
  chain (show OnlyRegsMesh t (t.clearEcc a n) from rfl) s

@[simp] theorem chain_clearFld (s t : State) (f : Fld) : OnlyRegsMesh s (t.clearFld f) ↔ OnlyRegsMesh s t :=
  chain (show OnlyRegsMesh t (t.clearFld f) from rfl) s

@[simp] theorem chain_send (s t : State) (m : Msg) : OnlyRegsMesh s (t.send m) ↔ OnlyRegsMesh s t :=
  chain (show OnlyRegsMesh t (t.send m) from rfl) s

@[simp] theorem chain_answer (s t : State) (r : Resp) : OnlyRegsMesh s (t.answer r) ↔ OnlyRegsMesh s t :=
  chain (show OnlyRegsMesh t (t.answer r) from rfl) s

@[simp] theorem chain_ite (s t u : State) (c : Prop) [Decidable c] :
    OnlyRegsMesh s (if c then t else u) ↔ (c → OnlyRegsMesh s t) ∧ (¬c → OnlyRegsMesh s u) := by split <;> simp [*]

@[simp] theorem chain_when {g : State → State} (hg : ∀ u, OnlyRegsMesh u (g u)) (s t : State) (c : Bool) :
    OnlyRegsMesh s (t.when c g) ↔ OnlyRegsMesh s t := by
  unfold State.when; split
  · exact chain (hg t) s
  · rfl

theorem foldl {α : Type} (t : State) (xs : List α) {g : State → α → State} (hg : ∀ u x, OnlyRegsMesh u (g u x)) :
    OnlyRegsMesh t (xs.foldl g t) := by
  induction xs generalizing t with
  | nil => exact (self t).2 trivial
  | cons x xs ih => exact (hg t x).trans (ih _)

@[simp] theorem chain_foldl {α : Type} {g : State → α → State} (hg : ∀ u x, OnlyRegsMesh u (g u x)) (s t : State) (xs : List α) :
    OnlyRegsMesh s (xs.foldl g t) ↔ OnlyRegsMesh s t := chain (foldl t xs hg) s

@[simp] theorem chain_wrAll (s t : State) (f : Fld) (xs : List Nat) (v : Nat → Nat) : OnlyRegsMesh s (t.wrAll f xs v) ↔ OnlyRegsMesh s t :=
  chain (foldl t xs (fun u x => (chain_wr u u f x _).2 ((self u).2 trivial))) s

@[simp] theorem chain_clearElems (s t : State) (fs : List Fld) (i : Nat) : OnlyRegsMesh s (t.clearElems fs i) ↔ OnlyRegsMesh s t :=
  chain (foldl t fs (fun u f => (chain_wr u u f i _).2 ((self u).2 trivial))) s

end OnlyRegsMesh

namespace OnlyFault

/-- The parts that the frame names, one by one. -/
theorem iff {s t : State} : OnlyFault s t ↔
    t.ident = s.ident ∧ t.map = s.map ∧ t.staged = s.staged ∧ t.sched = s.sched ∧ t.sweeps = s.sweeps
     ∧ t.fifo = s.fifo ∧ t.mirror = s.mirror ∧ t.flush = s.flush ∧ t.shadows = s.shadows ∧ t.resp = s.resp
     ∧ t.free = s.free ∧ t.pending = s.pending := by
  cases s; cases t; simp [OnlyFault]

@[simp] theorem self (s : State) : OnlyFault s s ↔ True := iff_true_intro rfl

theorem symm {s t : State} (h : OnlyFault s t) : OnlyFault t s := by rw [iff] at *; simp_all

theorem trans {s t u : State} (h : OnlyFault s t) (h' : OnlyFault t u) : OnlyFault s u := by rw [iff] at *; simp_all

theorem chain {t u : State} (h : OnlyFault t u) (s : State) : OnlyFault s u ↔ OnlyFault s t :=
  ⟨fun h' => h'.trans h.symm, fun h' => h'.trans h⟩

@[simp] theorem chain_wr (s t : State) (f : Fld) (i v : Nat) : OnlyFault s (t.wr f i v) ↔ OnlyFault s t :=
  chain (show OnlyFault t (t.wr f i v) from rfl) s

@[simp] theorem chain_wrB (s t : State) (f : Fld) (i : Nat) (b : Bool) : OnlyFault s (t.wrB f i b) ↔ OnlyFault s t :=
  chain (show OnlyFault t (t.wrB f i b) from rfl) s

@[simp] theorem chain_wrS (s t : State) (f : Fld) (i : Nat) (x : Int) : OnlyFault s (t.wrS f i x) ↔ OnlyFault s t :=
  chain (show OnlyFault t (t.wrS f i x) from rfl) s

@[simp] theorem chain_inc (s t : State) (f : Fld) (i n : Nat) : OnlyFault s (t.inc f i n) ↔ OnlyFault s t :=
  chain (show OnlyFault t (t.inc f i n) from rfl) s

@[simp] theorem chain_clearEcc (s t : State) (a n : Nat) : OnlyFault s (t.clearEcc a n) ↔ OnlyFault s t :=
  chain (show OnlyFault t (t.clearEcc a n) from rfl) s

@[simp] theorem chain_clearFld (s t : State) (f : Fld) : OnlyFault s (t.clearFld f) ↔ OnlyFault s t :=
  chain (show OnlyFault t (t.clearFld f) from rfl) s

@[simp] theorem chain_st (s t : State) (a n v : Nat) : OnlyFault s (t.st a n v) ↔ OnlyFault s t :=
  chain (show OnlyFault t (t.st a n v) from rfl) s

@[simp] theorem chain_stBytes (s t : State) (a : Nat) (b : List Byte) : OnlyFault s (t.stBytes a b) ↔ OnlyFault s t :=
  chain (show OnlyFault t (t.stBytes a b) from rfl) s

@[simp] theorem chain_send (s t : State) (m : Msg) : OnlyFault s (t.send m) ↔ OnlyFault s t :=
  chain (show OnlyFault t (t.send m) from rfl) s

@[simp] theorem chain_ite (s t u : State) (c : Prop) [Decidable c] :
    OnlyFault s (if c then t else u) ↔ (c → OnlyFault s t) ∧ (¬c → OnlyFault s u) := by split <;> simp [*]

@[simp] theorem chain_when {g : State → State} (hg : ∀ u, OnlyFault u (g u)) (s t : State) (c : Bool) :
    OnlyFault s (t.when c g) ↔ OnlyFault s t := by
  unfold State.when; split
  · exact chain (hg t) s
  · rfl

theorem foldl {α : Type} (t : State) (xs : List α) {g : State → α → State} (hg : ∀ u x, OnlyFault u (g u x)) :
    OnlyFault t (xs.foldl g t) := by
  induction xs generalizing t with
  | nil => exact (self t).2 trivial
  | cons x xs ih => exact (hg t x).trans (ih _)

@[simp] theorem chain_foldl {α : Type} {g : State → α → State} (hg : ∀ u x, OnlyFault u (g u x)) (s t : State) (xs : List α) :
    OnlyFault s (xs.foldl g t) ↔ OnlyFault s t := chain (foldl t xs hg) s

@[simp] theorem chain_wrAll (s t : State) (f : Fld) (xs : List Nat) (v : Nat → Nat) : OnlyFault s (t.wrAll f xs v) ↔ OnlyFault s t :=
  chain (foldl t xs (fun u x => (chain_wr u u f x _).2 ((self u).2 trivial))) s

@[simp] theorem chain_clearElems (s t : State) (fs : List Fld) (i : Nat) : OnlyFault s (t.clearElems fs i) ↔ OnlyFault s t :=
  chain (foldl t fs (fun u f => (chain_wr u u f i _).2 ((self u).2 trivial))) s

end OnlyFault

end Sys2Proof.Machine
end

