-- ==== Sys2Proof/Laws/Access.lean ====
section
/-! SUPPORT. What the shared operations of an access can do: a write judged, refused, or kept for a boundary. -/

set_option Elab.async false

namespace Sys2Proof.Machine

theorem satAdd_lt (w a b : Nat) : satAdd w a b < 2 ^ w :=
  lt_of_le_of_lt (Nat.min_le_left _ _) (Nat.sub_lt (Nat.two_pow_pos w) Nat.one_pos)

/-- A refused write is counted, named and answered, and does nothing else (R14, R465). -/
theorem State.refuses_refuse (s : State) (w : WCtx) {off c : Nat} (hc : c < 2 ^ R.FLT_REJECT_INFO_CAUSE.wid)
    (ho : off < 2 ^ R.FLT_REJECT_INFO_OFFSET.wid) (hq : s.reqCode w.req < 2 ^ R.FLT_REJECT_INFO_REQ.wid) :
    Refuses w off c s (s.refuse w off c) := by
  refine ⟨rfl, ?_, ?_, ?_, ?_, ?_, ?_⟩
  all_goals
    simp (disch := decide) only [State.refuse, State.inc, State.rd_answer, State.rd_wr_apart]
  · rw [State.rd_wr_self _ _ (by decide)]
    exact Nat.mod_eq_of_lt (satAdd_lt _ _ _)
  · rw [State.rd_wr_self _ _ (by decide), Nat.mod_eq_of_lt hc]
  · rw [State.rd_wr_self _ _ (by decide), Nat.mod_eq_of_lt hq]
  · rw [State.rd_wr_self _ _ (by decide), Nat.mod_eq_of_lt ho]
  · simp
  · simp

/-- The four ends of a judged write: a bus error, a refusal with its cause, an answer without effect, or the effect. -/
theorem State.judgedAt_cases (s : State) (w : WCtx) (off : Nat) (f : Fld) (i : Nat) (same rule : Bool) (act : State → State) :
    (s.gated off = true ∧ s.judgedAt w off f i same rule act = s.answer .busError)
      ∨ (s.gated off = false ∧ ∃ c, s.judgedAt w off f i same rule act = s.refuse w off c)
      ∨ (s.gated off = false ∧ same = true ∧ s.judgedAt w off f i same rule act = s.answer .ok)
      ∨ (s.gated off = false ∧ s.protected? w.req f i = none ∧ rule = true
          ∧ s.judgedAt w off f i same rule act = (act s).answer .ok) := by
  unfold State.judgedAt
  cases hg : s.gated off with
  | true => exact .inl ⟨rfl, rfl⟩
  | false =>
    by_cases h : f.cnt ≤ i ∨ s.reservedWord off = true
    · exact .inr (.inl ⟨rfl, 2, by simp [h]⟩)
    · simp only [Bool.false_eq_true, if_false, if_neg h]
      cases hp : s.protected? w.req f i <;> cases same <;> cases rule <;> simp

/-- A field that may be written, under a rule that allows it, takes the effect. -/
theorem State.judged_of_writable {s : State} {w : WCtx} {f : Fld} {i : Nat} (h : Writable s w f i) (v : Nat)
    (act : State → State) : s.judged w f i v true act = (act s).answer .ok := by
  obtain ⟨hg, hi, hr, hp⟩ := h
  simp [State.judged, State.judgedAt, hg, hr, hp, Nat.not_le.2 hi]

/-- One that the rule forbids is refused with CAUSE 3. -/
theorem State.judged_of_forbidden {s : State} {w : WCtx} {f : Fld} {i : Nat} (h : Writable s w f i) (v : Nat)
    (act : State → State) : s.judged w f i v false act = s.refuse w (f.word i) 3 := by
  obtain ⟨hg, hi, hr, hp⟩ := h
  simp [State.judged, State.judgedAt, hg, hr, hp, Nat.not_le.2 hi]

/-- A staged change waits for its boundary (R15, R80). -/
theorem State.stages_stage (s : State) (w : WCtx) (a : StagedAct) : Stages w a s ((s.stage w a).answer .ok) := by
  unfold Stages State.stage
  by_cases h : 192 ≤ w.cyc
  · simp only [if_pos h]
    refine ⟨rfl, rfl, ?_, ?_, rfl⟩
    · exact (State.rd_wr_self _ _ (by decide) _).trans (Nat.mod_eq_of_lt (satAdd_lt _ _ _))
    · rw [OnlyKinds.chain_answer, OnlyKinds.chain_inc (by simp)]
      exact OnlyKinds.of_regs _ rfl
  · simp only [if_neg h]
    exact ⟨rfl, rfl, rfl, OnlyKinds.of_regs _ rfl, rfl⟩

end Sys2Proof.Machine
end

