-- ==== Sys2Proof/Laws/Faults.lean ====
section
/-! SUPPORT. What raising a fault reaches, once: the fields of `faultFields`, and the parts that `OnlyFault` names. -/

namespace Sys2Proof.Machine

/-- A field apart from all that may be written reads as before. -/
theorem OnlyKinds.rd {l : List Fld} {s t : State} (h : OnlyKinds l s t) {g : Fld} (hg : (l.all fun f => f.apart g) = true)
    (j : Nat) : t.rd g j = s.rd g j := h g j (by simpa using hg)

@[simp] theorem R_FLT_LAST_STATE_mem_tellFields : R.FLT_LAST_STATE ∈ tellFields := by simp [tellFields]
@[simp] theorem R_FLT_LAST_CLASS_mem_tellFields : R.FLT_LAST_CLASS ∈ tellFields := by simp [tellFields]
@[simp] theorem R_FLT_LAST_KIND_mem_tellFields : R.FLT_LAST_KIND ∈ tellFields := by simp [tellFields]
@[simp] theorem R_FLT_LAST_SOURCE_mem_tellFields : R.FLT_LAST_SOURCE ∈ tellFields := by simp [tellFields]
@[simp] theorem R_FLT_LAST_FRAME_FRAME_mem_tellFields : R.FLT_LAST_FRAME_FRAME ∈ tellFields := by simp [tellFields]
@[simp] theorem R_FLT_STATUS_QLOST_mem_tellFields : R.FLT_STATUS_QLOST ∈ tellFields := by simp [tellFields]
@[simp] theorem R_HOST_STAT_EV_LOST_mem_tellFields : R.HOST_STAT_EV_LOST ∈ tellFields := by simp [tellFields]
@[simp] theorem R_RING_POS_CPL_TAIL_mem_tellFields : R.RING_POS_CPL_TAIL ∈ tellFields := by simp [tellFields]
@[simp] theorem R_HOST_IRQ_CPL_mem_tellFields : R.HOST_IRQ_CPL ∈ tellFields := by simp [tellFields]
@[simp] theorem R_HOST_IRQ_EVENT_mem_tellFields : R.HOST_IRQ_EVENT ∈ tellFields := by simp [tellFields]
@[simp] theorem H_STORE_ECC_mem_tellFields : H.STORE_ECC ∈ tellFields := by simp [tellFields]
@[simp] theorem R_TALLY_DROPPED_DROPPED_mem_tellFields : R.TALLY_DROPPED_DROPPED ∈ tellFields := by simp [tellFields]
@[simp] theorem tellFields_faultFields : tellFields ⊆ faultFields := fun _ h => by simp [faultFields, h]
@[simp] theorem H_FLT_TEST_PEND_mem_testFields : H.FLT_TEST_PEND ∈ testFields := by simp [testFields]
@[simp] theorem H_FLT_TEST_LEFT_mem_testFields : H.FLT_TEST_LEFT ∈ testFields := by simp [testFields]
@[simp] theorem H_FLT_PROBES_mem_testFields : H.FLT_PROBES ∈ testFields := by simp [testFields]
@[simp] theorem H_FLT_PROBE_GOT_mem_testFields : H.FLT_PROBE_GOT ∈ testFields := by simp [testFields]
@[simp] theorem H_FLT_RESULT_mem_testFields : H.FLT_RESULT ∈ testFields := by simp [testFields]
@[simp] theorem H_LE_GOLD_J_mem_testFields : H.LE_GOLD_J ∈ testFields := by simp [testFields]
@[simp] theorem H_LE_GOLD_OK_mem_testFields : H.LE_GOLD_OK ∈ testFields := by simp [testFields]
@[simp] theorem H_LE_GOLD_TWIN_mem_testFields : H.LE_GOLD_TWIN ∈ testFields := by simp [testFields]
@[simp] theorem H_PD_TEST_PULSE_mem_testFields : H.PD_TEST_PULSE ∈ testFields := by simp [testFields]
@[simp] theorem H_PD_LOOP_PH_mem_testFields : H.PD_LOOP_PH ∈ testFields := by simp [testFields]
@[simp] theorem H_PD_LOOP_RAIL_mem_testFields : H.PD_LOOP_RAIL ∈ testFields := by simp [testFields]
@[simp] theorem H_TH_RESWEEP_mem_testFields : H.TH_RESWEEP ∈ testFields := by simp [testFields]
@[simp] theorem H_TH_REF_DUE_mem_testFields : H.TH_REF_DUE ∈ testFields := by simp [testFields]
@[simp] theorem H_GL_SPENT_mem_testFields : H.GL_SPENT ∈ testFields := by simp [testFields]
@[simp] theorem testFields_faultFields : testFields ⊆ faultFields := fun _ h => by simp [faultFields, h]
@[simp] theorem R_FLT_KIND_QUIET_RAISED_mem_faultFields : R.FLT_KIND_QUIET_RAISED ∈ faultFields := by simp [faultFields]
@[simp] theorem R_FLT_SRC_COUNT_WIN_LEFT_mem_faultFields : R.FLT_SRC_COUNT_WIN_LEFT ∈ faultFields := by simp [faultFields]
@[simp] theorem R_FLT_SRC_STATE_EVENTS_mem_faultFields : R.FLT_SRC_STATE_EVENTS ∈ faultFields := by simp [faultFields]
@[simp] theorem R_FLT_SRC_STATE_INJECTED_mem_faultFields : R.FLT_SRC_STATE_INJECTED ∈ faultFields := by simp [faultFields]
@[simp] theorem R_FLT_SRC_STATE_CLASS_mem_faultFields : R.FLT_SRC_STATE_CLASS ∈ faultFields := by simp [faultFields]
@[simp] theorem R_FLT_SRC_STATE_STATE_mem_faultFields : R.FLT_SRC_STATE_STATE ∈ faultFields := by simp [faultFields]
@[simp] theorem H_FLT_SEV_DUE_mem_faultFields : H.FLT_SEV_DUE ∈ faultFields := by simp [faultFields]

namespace State

theorem hostIrq_fault (s : State) (b : Nat) : OnlyFault s (s.hostIrq b) := by simp [State.hostIrq]
@[simp] theorem chain_hostIrq_fault (s t : State) (b : Nat) : OnlyFault s (t.hostIrq b) ↔ OnlyFault s t :=
  OnlyFault.chain (hostIrq_fault t b) s
@[simp] theorem chain_hostIrq_kinds {l : List Fld} (s t : State) (b : Nat) (hf : irqFld b ∈ l) :
    OnlyKinds l s (t.hostIrq b) ↔ OnlyKinds l s t := OnlyKinds.chain (by simp [State.hostIrq, hf]) s

/-- A reserved-class message to one endpoint. -/
theorem sendRes1_kinds (m : MeshMsg) (e : Endpoint) (s : State) : OnlyKinds [H.GL_SPENT] s (s.sendRes1 m e) := by
  simp [State.sendRes1, OnlyKinds.of_regs]

theorem sendRes1_regsmesh (m : MeshMsg) (e : Endpoint) (s : State) : OnlyRegsMesh s (s.sendRes1 m e) := by
  unfold State.sendRes1; dsimp only; split <;> rfl

@[simp] theorem chain_sendRes1_kinds {l : List Fld} (hl : H.GL_SPENT ∈ l) (s t : State) (m : MeshMsg) (e : Endpoint) :
    OnlyKinds l s (t.sendRes1 m e) ↔ OnlyKinds l s t := OnlyKinds.chain ((sendRes1_kinds m e t).mono (by simpa using hl)) s

@[simp] theorem chain_sendRes1_regsmesh (s t : State) (m : MeshMsg) (e : Endpoint) : OnlyRegsMesh s (t.sendRes1 m e) ↔ OnlyRegsMesh s t :=
  OnlyRegsMesh.chain (sendRes1_regsmesh m e t) s

theorem sendRes1_fault (m : MeshMsg) (e : Endpoint) (s : State) : OnlyFault s (s.sendRes1 m e) := by
  unfold State.sendRes1; dsimp only; split <;> rfl

@[simp] theorem chain_sendRes1_fault (s t : State) (m : MeshMsg) (e : Endpoint) : OnlyFault s (t.sendRes1 m e) ↔ OnlyFault s t :=
  OnlyFault.chain (sendRes1_fault m e t) s

@[simp] theorem rd_sendRes1 {g : Fld} (hg : (([H.GL_SPENT] : List Fld).all fun f => f.apart g) = true) (s : State) (m : MeshMsg) (e : Endpoint) (j : Nat) :
    (s.sendRes1 m e).rd g j = s.rd g j := (sendRes1_kinds m e s).rd hg j

/-- A reserved-class message to several endpoints. -/
theorem sendRes_kinds (m : MeshMsg) (es : List Endpoint) (s : State) : OnlyKinds [H.GL_SPENT] s (s.sendRes m es) := by
  simp [State.sendRes]

theorem sendRes_regsmesh (m : MeshMsg) (es : List Endpoint) (s : State) : OnlyRegsMesh s (s.sendRes m es) := by
  simp [State.sendRes]

@[simp] theorem chain_sendRes_kinds {l : List Fld} (hl : H.GL_SPENT ∈ l) (s t : State) (m : MeshMsg) (es : List Endpoint) :
    OnlyKinds l s (t.sendRes m es) ↔ OnlyKinds l s t := OnlyKinds.chain ((sendRes_kinds m es t).mono (by simpa using hl)) s

@[simp] theorem chain_sendRes_regsmesh (s t : State) (m : MeshMsg) (es : List Endpoint) : OnlyRegsMesh s (t.sendRes m es) ↔ OnlyRegsMesh s t :=
  OnlyRegsMesh.chain (sendRes_regsmesh m es t) s

theorem sendRes_fault (m : MeshMsg) (es : List Endpoint) (s : State) : OnlyFault s (s.sendRes m es) := by
  simp [State.sendRes]

@[simp] theorem chain_sendRes_fault (s t : State) (m : MeshMsg) (es : List Endpoint) : OnlyFault s (t.sendRes m es) ↔ OnlyFault s t :=
  OnlyFault.chain (sendRes_fault m es t) s

@[simp] theorem rd_sendRes {g : Fld} (hg : (([H.GL_SPENT] : List Fld).all fun f => f.apart g) = true) (s : State) (m : MeshMsg) (es : List Endpoint) (j : Nat) :
    (s.sendRes m es).rd g j = s.rd g j := (sendRes_kinds m es s).rd hg j

/-- A guard command. -/
theorem guard_kinds (m : MeshMsg) (es : List Endpoint) (s : State) : OnlyKinds [H.GL_SPENT] s (s.guard m es) := by
  simp [State.guard]

theorem guard_regsmesh (m : MeshMsg) (es : List Endpoint) (s : State) : OnlyRegsMesh s (s.guard m es) := by
  simp [State.guard]

@[simp] theorem chain_guard_kinds {l : List Fld} (hl : H.GL_SPENT ∈ l) (s t : State) (m : MeshMsg) (es : List Endpoint) :
    OnlyKinds l s (t.guard m es) ↔ OnlyKinds l s t := OnlyKinds.chain ((guard_kinds m es t).mono (by simpa using hl)) s

@[simp] theorem chain_guard_regsmesh (s t : State) (m : MeshMsg) (es : List Endpoint) : OnlyRegsMesh s (t.guard m es) ↔ OnlyRegsMesh s t :=
  OnlyRegsMesh.chain (guard_regsmesh m es t) s

theorem guard_fault (m : MeshMsg) (es : List Endpoint) (s : State) : OnlyFault s (s.guard m es) := by
  simp [State.guard]

@[simp] theorem chain_guard_fault (s t : State) (m : MeshMsg) (es : List Endpoint) : OnlyFault s (t.guard m es) ↔ OnlyFault s t :=
  OnlyFault.chain (guard_fault m es t) s

@[simp] theorem rd_guard {g : Fld} (hg : (([H.GL_SPENT] : List Fld).all fun f => f.apart g) = true) (s : State) (m : MeshMsg) (es : List Endpoint) (j : Nat) :
    (s.guard m es).rd g j = s.rd g j := (guard_kinds m es s).rd hg j

/-- An ordinary-class message. -/
theorem sendOrd_kinds (m : MeshMsg) (es : List Endpoint) (s : State) : OnlyKinds [] s (s.sendOrd m es) := by
  simp [State.sendOrd, OnlyKinds.of_regs]

theorem sendOrd_regsmesh (m : MeshMsg) (es : List Endpoint) (s : State) : OnlyRegsMesh s (s.sendOrd m es) := by
  unfold State.sendOrd; split <;> rfl

@[simp] theorem chain_sendOrd_kinds {l : List Fld} (s t : State) (m : MeshMsg) (es : List Endpoint) :
    OnlyKinds l s (t.sendOrd m es) ↔ OnlyKinds l s t := OnlyKinds.chain ((sendOrd_kinds m es t).mono (by simp)) s

@[simp] theorem chain_sendOrd_regsmesh (s t : State) (m : MeshMsg) (es : List Endpoint) : OnlyRegsMesh s (t.sendOrd m es) ↔ OnlyRegsMesh s t :=
  OnlyRegsMesh.chain (sendOrd_regsmesh m es t) s

theorem sendOrd_fault (m : MeshMsg) (es : List Endpoint) (s : State) : OnlyFault s (s.sendOrd m es) := by
  unfold State.sendOrd; split <;> rfl

@[simp] theorem chain_sendOrd_fault (s t : State) (m : MeshMsg) (es : List Endpoint) : OnlyFault s (t.sendOrd m es) ↔ OnlyFault s t :=
  OnlyFault.chain (sendOrd_fault m es t) s

@[simp] theorem rd_sendOrd {g : Fld} (hg : (([] : List Fld).all fun f => f.apart g) = true) (s : State) (m : MeshMsg) (es : List Endpoint) (j : Nat) :
    (s.sendOrd m es).rd g j = s.rd g j := (sendOrd_kinds m es s).rd hg j

/-- A completion. -/
theorem postCpl_kinds (r tag status op r0 r1 : Nat) (s : State) : OnlyKinds tellFields s (s.postCpl r tag status op r0 r1) := by
  simp [State.postCpl, irqFld]

theorem postCpl_fault (r tag status op r0 r1 : Nat) (s : State) : OnlyFault s (s.postCpl r tag status op r0 r1) := by
  simp [State.postCpl]

@[simp] theorem chain_postCpl_kinds {l : List Fld} (hl : tellFields ⊆ l) (s t : State) (r tag status op r0 r1 : Nat) :
    OnlyKinds l s (t.postCpl r tag status op r0 r1) ↔ OnlyKinds l s t := OnlyKinds.chain ((postCpl_kinds r tag status op r0 r1 t).mono (fun _ h => hl h)) s

@[simp] theorem chain_postCpl_fault (s t : State) (r tag status op r0 r1 : Nat) : OnlyFault s (t.postCpl r tag status op r0 r1) ↔ OnlyFault s t :=
  OnlyFault.chain (postCpl_fault r tag status op r0 r1 t) s

@[simp] theorem rd_postCpl {g : Fld} (hg : ((tellFields : List Fld).all fun f => f.apart g) = true) (s : State) (r tag status op r0 r1 : Nat) (j : Nat) :
    (s.postCpl r tag status op r0 r1).rd g j = s.rd g j := (postCpl_kinds r tag status op r0 r1 s).rd hg j

/-- A record queued. -/
theorem tally_kinds (ch sev code d0 d1 : Nat) (inj : Bool) (s : State) : OnlyKinds tellFields s (s.tally ch sev code d0 d1 inj) := by
  simp [State.tally, OnlyKinds.of_regs]

theorem tally_fault (ch sev code d0 d1 : Nat) (inj : Bool) (s : State) : OnlyFault s (s.tally ch sev code d0 d1 inj) := by
  unfold State.tally; dsimp only; split <;> split <;> rfl

@[simp] theorem chain_tally_kinds {l : List Fld} (hl : tellFields ⊆ l) (s t : State) (ch sev code d0 d1 : Nat) (inj : Bool) :
    OnlyKinds l s (t.tally ch sev code d0 d1 inj) ↔ OnlyKinds l s t := OnlyKinds.chain ((tally_kinds ch sev code d0 d1 inj t).mono (fun _ h => hl h)) s

@[simp] theorem chain_tally_fault (s t : State) (ch sev code d0 d1 : Nat) (inj : Bool) : OnlyFault s (t.tally ch sev code d0 d1 inj) ↔ OnlyFault s t :=
  OnlyFault.chain (tally_fault ch sev code d0 d1 inj t) s

@[simp] theorem rd_tally {g : Fld} (hg : ((tellFields : List Fld).all fun f => f.apart g) = true) (s : State) (ch sev code d0 d1 : Nat) (inj : Bool) (j : Nat) :
    (s.tally ch sev code d0 d1 inj).rd g j = s.rd g j := (tally_kinds ch sev code d0 d1 inj s).rd hg j

/-- What a test sets at its start. -/
theorem testAction_kinds (k i : Nat) (s : State) : OnlyKinds testFields s (s.testAction k i) := by
  unfold State.testAction
  split <;> first
    | simp
    | (split <;> simp)

theorem testAction_fault (k i : Nat) (s : State) : OnlyFault s (s.testAction k i) := by
  unfold State.testAction
  split <;> first
    | simp
    | (split <;> simp)

@[simp] theorem chain_testAction_kinds {l : List Fld} (hl : testFields ⊆ l) (s t : State) (k i : Nat) :
    OnlyKinds l s (t.testAction k i) ↔ OnlyKinds l s t := OnlyKinds.chain ((testAction_kinds k i t).mono (fun _ h => hl h)) s

@[simp] theorem chain_testAction_fault (s t : State) (k i : Nat) : OnlyFault s (t.testAction k i) ↔ OnlyFault s t :=
  OnlyFault.chain (testAction_fault k i t) s

@[simp] theorem rd_testAction {g : Fld} (hg : ((testFields : List Fld).all fun f => f.apart g) = true) (s : State) (k i : Nat) (j : Nat) :
    (s.testAction k i).rd g j = s.rd g j := (testAction_kinds k i s).rd hg j

/-- A test started. -/
theorem startTest_kinds (n : Nat) (s : State) : OnlyKinds testFields s (s.startTest n) := by
  unfold State.startTest
  split
  · simp
  · split <;> simp

theorem startTest_fault (n : Nat) (s : State) : OnlyFault s (s.startTest n) := by
  unfold State.startTest
  split
  · simp
  · split <;> simp

@[simp] theorem chain_startTest_kinds {l : List Fld} (hl : testFields ⊆ l) (s t : State) (n : Nat) :
    OnlyKinds l s (t.startTest n) ↔ OnlyKinds l s t := OnlyKinds.chain ((startTest_kinds n t).mono (fun _ h => hl h)) s

@[simp] theorem chain_startTest_fault (s t : State) (n : Nat) : OnlyFault s (t.startTest n) ↔ OnlyFault s t :=
  OnlyFault.chain (startTest_fault n t) s

@[simp] theorem rd_startTest {g : Fld} (hg : ((testFields : List Fld).all fun f => f.apart g) = true) (s : State) (n : Nat) (j : Nat) :
    (s.startTest n).rd g j = s.rd g j := (startTest_kinds n s).rd hg j

/-- A record of a source. -/
theorem srcRecord_kinds (n : Nat) (s : State) : OnlyKinds tellFields s (s.srcRecord n) := by
  simp [State.srcRecord]

theorem srcRecord_fault (n : Nat) (s : State) : OnlyFault s (s.srcRecord n) := by
  simp [State.srcRecord]

@[simp] theorem chain_srcRecord_kinds {l : List Fld} (hl : tellFields ⊆ l) (s t : State) (n : Nat) :
    OnlyKinds l s (t.srcRecord n) ↔ OnlyKinds l s t := OnlyKinds.chain ((srcRecord_kinds n t).mono (fun _ h => hl h)) s

@[simp] theorem chain_srcRecord_fault (s t : State) (n : Nat) : OnlyFault s (t.srcRecord n) ↔ OnlyFault s t :=
  OnlyFault.chain (srcRecord_fault n t) s

@[simp] theorem rd_srcRecord {g : Fld} (hg : ((tellFields : List Fld).all fun f => f.apart g) = true) (s : State) (n : Nat) (j : Nat) :
    (s.srcRecord n).rd g j = s.rd g j := (srcRecord_kinds n s).rd hg j

/-- An event told to the host. -/
theorem postEvent_kinds (e : FltEvent) (s : State) : OnlyKinds tellFields s (s.postEvent e) := by
  simp [State.postEvent, irqFld]

theorem postEvent_fault (e : FltEvent) (s : State) : OnlyFault s (s.postEvent e) := by
  simp [State.postEvent]

@[simp] theorem chain_postEvent_kinds {l : List Fld} (hl : tellFields ⊆ l) (s t : State) (e : FltEvent) :
    OnlyKinds l s (t.postEvent e) ↔ OnlyKinds l s t := OnlyKinds.chain ((postEvent_kinds e t).mono (fun _ h => hl h)) s

@[simp] theorem chain_postEvent_fault (s t : State) (e : FltEvent) : OnlyFault s (t.postEvent e) ↔ OnlyFault s t :=
  OnlyFault.chain (postEvent_fault e t) s

@[simp] theorem rd_postEvent {g : Fld} (hg : ((tellFields : List Fld).all fun f => f.apart g) = true) (s : State) (e : FltEvent) (j : Nat) :
    (s.postEvent e).rd g j = s.rd g j := (postEvent_kinds e s).rd hg j

/-- The queued events told to the host. -/
theorem drainEvents_kinds (s : State) : OnlyKinds tellFields s (s.drainEvents ) := by
  unfold State.drainEvents
  split
  · exact (OnlyKinds.of_regs _ rfl).trans (OnlyKinds.foldl _ _ (fun u x => postEvent_kinds x u))
  · simp

theorem drainEvents_fault (s : State) : OnlyFault s (s.drainEvents ) := by
  unfold State.drainEvents
  split
  · exact OnlyFault.trans (t := { s with fltQueue := [] }) rfl (OnlyFault.foldl _ _ (fun u x => postEvent_fault x u))
  · simp

@[simp] theorem chain_drainEvents_kinds {l : List Fld} (hl : tellFields ⊆ l) (s t : State) :
    OnlyKinds l s (t.drainEvents ) ↔ OnlyKinds l s t := OnlyKinds.chain ((drainEvents_kinds  t).mono (fun _ h => hl h)) s

@[simp] theorem chain_drainEvents_fault (s t : State) : OnlyFault s (t.drainEvents ) ↔ OnlyFault s t :=
  OnlyFault.chain (drainEvents_fault  t) s

@[simp] theorem rd_drainEvents {g : Fld} (hg : ((tellFields : List Fld).all fun f => f.apart g) = true) (s : State) (j : Nat) :
    (s.drainEvents ).rd g j = s.rd g j := (drainEvents_kinds  s).rd hg j

/-- An event queued. -/
theorem pushEvent_kinds (e : FltEvent) (s : State) : OnlyKinds tellFields s (s.pushEvent e) := by
  unfold State.pushEvent; dsimp only
  rw [chain_drainEvents_kinds (by simp)]
  split
  · exact OnlyKinds.trans (OnlyKinds.of_regs _ rfl) ((OnlyKinds.chain_inc (by simp) _ _ _ _).2 (OnlyKinds.refl _ _))
  · exact OnlyKinds.of_regs _ rfl

theorem pushEvent_fault (e : FltEvent) (s : State) : OnlyFault s (s.pushEvent e) := by
  unfold State.pushEvent; dsimp only
  rw [chain_drainEvents_fault]
  split <;> rfl

@[simp] theorem chain_pushEvent_kinds {l : List Fld} (hl : tellFields ⊆ l) (s t : State) (e : FltEvent) :
    OnlyKinds l s (t.pushEvent e) ↔ OnlyKinds l s t := OnlyKinds.chain ((pushEvent_kinds e t).mono (fun _ h => hl h)) s

@[simp] theorem chain_pushEvent_fault (s t : State) (e : FltEvent) : OnlyFault s (t.pushEvent e) ↔ OnlyFault s t :=
  OnlyFault.chain (pushEvent_fault e t) s

@[simp] theorem rd_pushEvent {g : Fld} (hg : ((tellFields : List Fld).all fun f => f.apart g) = true) (s : State) (e : FltEvent) (j : Nat) :
    (s.pushEvent e).rd g j = s.rd g j := (pushEvent_kinds e s).rd hg j

/-- A change of state noted. -/
theorem noteChange_kinds (n : Nat) (s : State) : OnlyKinds tellFields s (s.noteChange n) := by
  unfold State.noteChange; simp

theorem noteChange_fault (n : Nat) (s : State) : OnlyFault s (s.noteChange n) := by
  unfold State.noteChange; simp

@[simp] theorem chain_noteChange_kinds {l : List Fld} (hl : tellFields ⊆ l) (s t : State) (n : Nat) :
    OnlyKinds l s (t.noteChange n) ↔ OnlyKinds l s t := OnlyKinds.chain ((noteChange_kinds n t).mono (fun _ h => hl h)) s

@[simp] theorem chain_noteChange_fault (s t : State) (n : Nat) : OnlyFault s (t.noteChange n) ↔ OnlyFault s t :=
  OnlyFault.chain (noteChange_fault n t) s

@[simp] theorem rd_noteChange {g : Fld} (hg : ((tellFields : List Fld).all fun f => f.apart g) = true) (s : State) (n : Nat) (j : Nat) :
    (s.noteChange n).rd g j = s.rd g j := (noteChange_kinds n s).rd hg j

/-- A state entered. -/
theorem enterState_kinds (n st : Nat) (s : State) : OnlyKinds faultFields s (s.enterState n st) := by
  simp [State.enterState]

theorem enterState_fault (n st : Nat) (s : State) : OnlyFault s (s.enterState n st) := by
  simp [State.enterState]

@[simp] theorem chain_enterState_kinds {l : List Fld} (hl : faultFields ⊆ l) (s t : State) (n st : Nat) :
    OnlyKinds l s (t.enterState n st) ↔ OnlyKinds l s t := OnlyKinds.chain ((enterState_kinds n st t).mono (fun _ h => hl h)) s

@[simp] theorem chain_enterState_fault (s t : State) (n st : Nat) : OnlyFault s (t.enterState n st) ↔ OnlyFault s t :=
  OnlyFault.chain (enterState_fault n st t) s

@[simp] theorem rd_enterState {g : Fld} (hg : ((faultFields : List Fld).all fun f => f.apart g) = true) (s : State) (n st : Nat) (j : Nat) :
    (s.enterState n st).rd g j = s.rd g j := (enterState_kinds n st s).rd hg j

/-- The non-maskable event. -/
theorem nmiAll_kinds (s : State) : OnlyKinds [] s (s.nmiAll ) := by
  simp [State.nmiAll]

theorem nmiAll_fault (s : State) : OnlyFault s (s.nmiAll ) := by
  simp [State.nmiAll]

@[simp] theorem chain_nmiAll_kinds {l : List Fld} (s t : State) :
    OnlyKinds l s (t.nmiAll ) ↔ OnlyKinds l s t := OnlyKinds.chain ((nmiAll_kinds  t).mono (by simp)) s

@[simp] theorem chain_nmiAll_fault (s t : State) : OnlyFault s (t.nmiAll ) ↔ OnlyFault s t :=
  OnlyFault.chain (nmiAll_fault  t) s

@[simp] theorem rd_nmiAll {g : Fld} (hg : (([] : List Fld).all fun f => f.apart g) = true) (s : State) (j : Nat) :
    (s.nmiAll ).rd g j = s.rd g j := (nmiAll_kinds  s).rd hg j

/-- An event counted. -/
theorem countEvent_kinds (n k : Nat) (s : State) : OnlyKinds faultFields s (s.countEvent n k) := by
  simp [State.countEvent]

theorem countEvent_fault (n k : Nat) (s : State) : OnlyFault s (s.countEvent n k) := by
  simp [State.countEvent]

@[simp] theorem chain_countEvent_kinds {l : List Fld} (hl : faultFields ⊆ l) (s t : State) (n k : Nat) :
    OnlyKinds l s (t.countEvent n k) ↔ OnlyKinds l s t := OnlyKinds.chain ((countEvent_kinds n k t).mono (fun _ h => hl h)) s

@[simp] theorem chain_countEvent_fault (s t : State) (n k : Nat) : OnlyFault s (t.countEvent n k) ↔ OnlyFault s t :=
  OnlyFault.chain (countEvent_fault n k t) s

@[simp] theorem rd_countEvent {g : Fld} (hg : ((faultFields : List Fld).all fun f => f.apart g) = true) (s : State) (n k : Nat) (j : Nat) :
    (s.countEvent n k).rd g j = s.rd g j := (countEvent_kinds n k s).rd hg j

/-- An event of a source writes the fields of `faultFields` alone, and reaches nothing but what `OnlyFault` names. -/
theorem raise_kinds (n cls : Nat) (inj : Bool) (s : State) : OnlyKinds faultFields s (s.raise n cls inj) := by
  unfold State.raise
  split
  · simp
  · split
    · simp
    · simp

theorem raise_fault (n cls : Nat) (inj : Bool) (s : State) : OnlyFault s (s.raise n cls inj) := by
  unfold State.raise
  split
  · simp
  · split
    · simp
    · simp

@[simp] theorem chain_raise_kinds {l : List Fld} (hl : faultFields ⊆ l) (s t : State) (n cls : Nat) (inj : Bool) :
    OnlyKinds l s (t.raise n cls inj) ↔ OnlyKinds l s t := OnlyKinds.chain ((raise_kinds n cls inj t).mono (fun _ h => hl h)) s

@[simp] theorem chain_raise_fault (s t : State) (n cls : Nat) (inj : Bool) : OnlyFault s (t.raise n cls inj) ↔ OnlyFault s t :=
  OnlyFault.chain (raise_fault n cls inj t) s

@[simp] theorem rd_raise {g : Fld} (hg : ((faultFields : List Fld).all fun f => f.apart g) = true) (s : State) (n cls : Nat) (inj : Bool) (j : Nat) :
    (s.raise n cls inj).rd g j = s.rd g j := (raise_kinds n cls inj s).rd hg j

/-- An event of a kind's element. -/
theorem fault_kinds (k i cls : Nat) (inj : Bool) (s : State) : OnlyKinds faultFields s (s.fault k i cls inj) := by
  simp [State.fault]

theorem fault_fault (k i cls : Nat) (inj : Bool) (s : State) : OnlyFault s (s.fault k i cls inj) := by
  simp [State.fault]

@[simp] theorem chain_fault_kinds {l : List Fld} (hl : faultFields ⊆ l) (s t : State) (k i cls : Nat) (inj : Bool) :
    OnlyKinds l s (t.fault k i cls inj) ↔ OnlyKinds l s t := OnlyKinds.chain ((fault_kinds k i cls inj t).mono (fun _ h => hl h)) s

@[simp] theorem chain_fault_fault (s t : State) (k i cls : Nat) (inj : Bool) : OnlyFault s (t.fault k i cls inj) ↔ OnlyFault s t :=
  OnlyFault.chain (fault_fault k i cls inj t) s

@[simp] theorem rd_fault {g : Fld} (hg : ((faultFields : List Fld).all fun f => f.apart g) = true) (s : State) (k i cls : Nat) (inj : Bool) (j : Nat) :
    (s.fault k i cls inj).rd g j = s.rd g j := (fault_kinds k i cls inj s).rd hg j

theorem srcKind_of_present {z : Bool} {n : Nat} (h : srcPresent z n = true) : ∃ k i, srcKind n = some (k, i) := by
  unfold srcPresent at h
  split at h
  · exact absurd h (by simp)
  · next k i e => exact ⟨k, i, e⟩

theorem srcKind_lt {n : Nat} {x : Nat × Nat} (h : srcKind n = some x) : n < 4096 := by
  by_contra hn
  have : srcKind n = none := by
    unfold srcKind
    repeat (rw [if_neg (by omega)])
  simp [this] at h

/-- The class and the state of a source after an event. -/
theorem raise_raised (s : State) (n cls : Nat) (inj : Bool) (hp : srcPresent s.zk4 n = true) (hc : cls ≤ 2) :
    Raised n cls s (s.raise n cls inj) := by
  obtain ⟨k, i, hk⟩ := srcKind_of_present hp
  have hn := srcKind_lt hk
  have h1 : n < R.FLT_SRC_STATE_CLASS.cnt := hn
  have h2 : n < R.FLT_SRC_STATE_STATE.cnt := hn
  have hcl := s.rd_lt R.FLT_SRC_STATE_CLASS n
  have hw : R.FLT_SRC_STATE_CLASS.wid = 2 := rfl
  have hw2 : R.FLT_SRC_STATE_STATE.wid = 3 := rfl
  rw [hw] at hcl
  unfold State.raise Raised
  simp only [hk, hp, Bool.not_true, Bool.false_eq_true, if_false]
  have e0 : ∀ t : State, (t.countEvent n k).rd R.FLT_SRC_STATE_STATE n = t.rd R.FLT_SRC_STATE_STATE n := by
    intro t; unfold State.countEvent; dsimp only; split <;> simp (disch := decide) [State.inc, rd_wr_apart]
  constructor
  · simp only [State.when]
    repeat' split
    all_goals simp (disch := first | assumption | decide) [rd_wr_self, rd_wr_apart, State.enterState, *]
    all_goals omega
  · simp only [State.when]
    repeat' split
    all_goals simp (disch := first | assumption | decide) [rd_wr_self, rd_wr_apart, State.enterState, State.wrB, *] at *

end State

end Sys2Proof.Machine
end

