-- ==== Sys2Proof/Laws/Bounds.lean ====
section
/-! SUPPORT. Bounds of the package's numbers, what a run over a list does to one element, and records in channel order. -/

set_option Elab.async false

namespace Sys2Proof.Machine

/-- A property of one element that its own turn gives and every turn keeps holds after the run. -/
theorem foldl_at {α β : Type} {l : List α} {c : α} (hc : c ∈ l) {g : β → α → β} {I Q : β → Prop}
    (hI : ∀ u x, I u → I (g u x)) (hQ : ∀ u, I u → Q (g u c)) (hk : ∀ u x, I u → Q u → Q (g u x)) (s : β) (hs : I s) :
    Q (l.foldl g s) := by
  have keep : ∀ (l : List α) (u : β), I u → Q u → Q (l.foldl g u) := by
    intro l
    induction l with
    | nil => intro u _ hq; exact hq
    | cons x t ih => intro u hi hq; exact ih _ (hI u x hi) (hk u x hi hq)
  induction l generalizing s with
  | nil => cases hc
  | cons x t ih =>
    rcases List.mem_cons.1 hc with h | h
    · subst h; exact keep t _ (hI s c hs) (hQ s hs)
    · exact ih h _ (hI s x hs)

theorem cellPresent_lt {z : Bool} {c : Nat} (h : cellPresent z c = true) : c < 832 := by
  unfold cellPresent at h
  split at h <;> simp at h <;> omega

theorem State.cellIn_lt {s : State} {c : Nat} (h : s.cellIn c = true) : c < 832 := cellPresent_lt h

theorem State.edgeCell_lt (s : State) {c : Nat} (h : c < 832) : s.edgeCell c < 832 := by
  unfold State.edgeCell
  cases hf : (clockCells c).find? (fun k => s.bit H.CROOK_C_EN k) with
  | none => simpa using h
  | some x =>
    have := List.mem_of_find?_eq_some hf
    unfold clockCells at this
    split at this
    · simp only [List.mem_singleton] at this; simp only [Option.getD_some]; omega
    · simp only [List.mem_map, List.mem_range] at this
      obtain ⟨k, hk, rfl⟩ := this
      simp only [Option.getD_some]; omega

theorem cellFold_lt (z : Bool) {c : Nat} (h : c < 832) : cellFold z c < 64 := by
  unfold cellFold computeFolds
  split
  · omega
  · split <;> omega

/-! ## Records in channel order -/

theorem insertBy_length {α : Type} (k : α → Nat) (x : α) (l : List α) : (insertBy k x l).length = l.length + 1 := by
  induction l with
  | nil => rfl
  | cons y t ih => unfold insertBy; split <;> simp [ih]

theorem insertBy_mem {α : Type} (k : α → Nat) (x z : α) (l : List α) : z ∈ insertBy k x l ↔ z = x ∨ z ∈ l := by
  induction l with
  | nil => simp [insertBy]
  | cons y t ih => unfold insertBy; split <;> simp [ih]; tauto

theorem insertBy_sorted {α : Type} (k : α → Nat) (x : α) (l : List α) (h : l.Pairwise (fun a b => k a ≤ k b)) :
    (insertBy k x l).Pairwise (fun a b => k a ≤ k b) := by
  induction l with
  | nil => simp [insertBy]
  | cons y t ih =>
    have ht := List.pairwise_cons.1 h
    unfold insertBy
    split
    · rename_i hx
      exact List.pairwise_cons.2 ⟨fun z hz => by rcases List.mem_cons.1 hz with rfl | hz'; omega; have := ht.1 z hz'; omega, h⟩
    · rename_i hx
      refine List.pairwise_cons.2 ⟨fun z hz => ?_, ih ht.2⟩
      rcases (insertBy_mem k x z t).1 hz with rfl | hz'
      · omega
      · exact ht.1 z hz'

/-- A sort by a key keeps the length and rises by the key. -/
theorem sortBy_spec {α : Type} (k : α → Nat) (l : List α) :
    (sortBy k l).length = l.length ∧ (sortBy k l).Pairwise (fun a b => k a ≤ k b) := by
  have go : ∀ (l acc : List α), acc.Pairwise (fun a b => k a ≤ k b) →
      (l.foldl (fun acc x => insertBy k x acc) acc).length = acc.length + l.length
        ∧ (l.foldl (fun acc x => insertBy k x acc) acc).Pairwise (fun a b => k a ≤ k b) := by
    intro l
    induction l with
    | nil => intro acc h; exact ⟨rfl, h⟩
    | cons x t ih =>
      intro acc h
      have := ih _ (insertBy_sorted k x acc h)
      refine ⟨?_, this.2⟩
      simp only [List.foldl_cons, this.1, insertBy_length, List.length_cons]
      omega
  simpa [sortBy] using go l [] List.Pairwise.nil

@[simp] theorem inChannelOrder_length (n : Nat) (l : List TallyReq) : (inChannelOrder n l).length = l.length := by
  simp only [inChannelOrder, List.length_append, (sortBy_spec _ _).1, List.length_take, List.length_drop]
  omega

/-- What has joined the queue stands in channel order. -/
theorem inChannelOrder_sorted (n : Nat) (l : List TallyReq) :
    ((inChannelOrder n l).drop n).Pairwise (fun x y => x.channel ≤ y.channel) := by
  by_cases h : n ≤ l.length
  · have : (l.take n).length = n := by simp [h]
    rw [inChannelOrder, List.drop_append_of_le_length (by omega), List.drop_eq_nil_of_le (by omega), List.nil_append]
    exact (sortBy_spec _ _).2
  · rw [List.drop_eq_nil_of_le (by rw [inChannelOrder_length]; omega)]
    exact List.Pairwise.nil

@[simp] theorem State.recordsTogether_regs (s t : State) : (s.recordsTogether t).regs = t.regs := rfl
@[simp] theorem State.recordsTogether_rd (s t : State) (f : Fld) (i : Nat) : (s.recordsTogether t).rd f i = t.rd f i := rfl
@[simp] theorem State.recordsTogether_store (s t : State) : (s.recordsTogether t).store = t.store := rfl
@[simp] theorem State.recordsTogether_out (s t : State) : (s.recordsTogether t).out = t.out := rfl

end Sys2Proof.Machine
end

