-- ==== Sys2Proof/Laws/Memory.lean ====
section
/-! SUPPORT. The sparse maps keep their order, the Store's memory keeps its canonical form under every operation on it, and a
byte reads as it was written last. -/

set_option Elab.async false

namespace Sys2Proof.Machine

/-! ## Order of keys -/

/-- A map is sorted exactly if its keys rise pairwise. -/
theorem amSorted_iff {α : Type} (m : List (Nat × α)) : amSorted m = true ↔ m.Pairwise (fun x y => x.1 < y.1) := by
  induction m with
  | nil => simp [amSorted]
  | cons x t ih =>
    cases t with
    | nil => simp [amSorted]
    | cons y r =>
      obtain ⟨k, v⟩ := x
      obtain ⟨k', v'⟩ := y
      simp only [amSorted, Bool.and_eq_true, decide_eq_true_eq, ih, List.pairwise_cons]
      constructor
      · rintro ⟨h, h1, h2⟩
        refine ⟨?_, h1, h2⟩
        intro z hz
        rcases List.mem_cons.1 hz with rfl | hz
        · exact h
        · exact lt_trans h (h1 z hz)
      · rintro ⟨h, h1, h2⟩
        exact ⟨h (k', v') (by simp), h1, h2⟩

theorem amErase_eq_filter {α : Type} (k : Nat) (m : List (Nat × α)) : amErase k m = m.filter (fun x => k != x.1) := by
  induction m with
  | nil => rfl
  | cons x t ih =>
    obtain ⟨k', v⟩ := x
    by_cases h : k = k'
    · subst h; simp [amErase, ih]
    · simp [amErase, h, ih]

/-- A key taken out leaves the order. -/
theorem amSorted_filter {α : Type} {m : List (Nat × α)} (p : Nat × α → Bool) (h : amSorted m = true) :
    amSorted (m.filter p) = true :=
  (amSorted_iff _).2 (((amSorted_iff m).1 h).filter p)

theorem amSorted_amErase {α : Type} {m : List (Nat × α)} (k : Nat) (h : amSorted m = true) : amSorted (amErase k m) = true := by
  rw [amErase_eq_filter]
  exact amSorted_filter _ h

/-- What a map holds after a key is set. -/
theorem mem_amPut {α : Type} {k : Nat} {v : α} {m : List (Nat × α)} {x : Nat × α} (h : x ∈ amPut k v m) :
    x = (k, v) ∨ x ∈ m := by
  induction m with
  | nil => simpa [amPut] using h
  | cons y t ih =>
    obtain ⟨k', v'⟩ := y
    unfold amPut at h
    split_ifs at h <;> simp only [List.mem_cons] at h ⊢ <;> tauto

/-- A key set leaves the order. -/
theorem amSorted_amPut {α : Type} {m : List (Nat × α)} (k : Nat) (v : α) (h : amSorted m = true) :
    amSorted (amPut k v m) = true := by
  rw [amSorted_iff] at *
  induction m with
  | nil => simp [amPut]
  | cons y t ih =>
    obtain ⟨k', v'⟩ := y
    rw [List.pairwise_cons] at h
    unfold amPut
    split_ifs with hk he
    · exact List.pairwise_cons.2 ⟨fun z hz => (List.mem_cons.1 hz).elim (fun e => e ▸ hk) (fun hz => hk.trans (h.1 z hz)),
        List.pairwise_cons.2 h⟩
    · exact List.pairwise_cons.2 ⟨fun z hz => he ▸ h.1 z hz, h.2⟩
    · refine List.pairwise_cons.2 ⟨fun z hz => ?_, ih h.2⟩
      rcases mem_amPut hz with rfl | hz
      · exact lt_of_le_of_ne (not_lt.1 hk) (Ne.symm he)
      · exact h.1 z hz

/-- A register field written leaves the registers by rising address. -/
theorem amSorted_regsWr {regs : List (Nat × Nat)} (f : Fld) (i v : Nat) (h : amSorted regs = true) :
    amSorted (regsWr regs f i v) = true := by
  unfold regsWr
  split
  · split
    · exact amSorted_amErase _ h
    · exact amSorted_amPut _ _ h
  · exact h

/-! ## The Store's canonical form -/

theorem Memory.wf_nil : Memory.wf [] := by decide

/-- A memory is in its form exactly if its addresses rise and each entry lies in the Store and is not 0. -/
theorem Memory.wf_iff (m : List Host.Cell) :
    Memory.wf m ↔ amSorted m = true ∧ ∀ c ∈ m, c.1 < storeSize ∧ c.2 ≠ 0 := by
  simp [Memory.wf]

/-- Entries taken out leave the form. -/
theorem Memory.wf_filter {m : List Host.Cell} (p : Host.Cell → Bool) (h : Memory.wf m) : Memory.wf (m.filter p) := by
  rw [Memory.wf_iff] at *
  exact ⟨amSorted_filter p h.1, fun c hc => h.2 c (List.mem_of_mem_filter hc)⟩

/-- A byte written keeps the form. -/
theorem memPut_wf {m : List Host.Cell} (a : Nat) (v : Byte) (h : Memory.wf m) : Memory.wf (memPut m a v) := by
  unfold memPut
  split
  · next ha =>
    split
    · rw [amErase_eq_filter]
      exact Memory.wf_filter _ h
    · next hv =>
      rw [Memory.wf_iff] at *
      refine ⟨amSorted_amPut a v h.1, fun c hc => ?_⟩
      rcases mem_amPut hc with rfl | hc
      · exact ⟨ha, hv⟩
      · exact h.2 c hc
  · exact h

/-- Bytes written keep the form. -/
theorem memPutBytes_wf {m : List Host.Cell} (a : Nat) (b : List Byte) (h : Memory.wf m) : Memory.wf (memPutBytes m a b) := by
  induction b generalizing m a with
  | nil => exact h
  | cons x t ih => exact ih (a + 1) (memPut_wf a x h)

theorem State.stBytes_store_wf {s : State} (a : Nat) (b : List Byte) (h : Memory.wf s.store) :
    Memory.wf (s.stBytes a b).store := memPutBytes_wf a b h

theorem State.st_store_wf {s : State} (a n v : Nat) (h : Memory.wf s.store) : Memory.wf (s.st a n v).store :=
  memPutBytes_wf a _ h

/-! ## A byte reads as it was written last -/

/-- A byte of the Store reads as the value written. -/
theorem memGet_memPut_self {a : Nat} (ha : a < storeSize) (v : Byte) (m : List Host.Cell) : memGet (memPut m a v) a = v := by
  unfold memGet memPut
  rw [if_pos ha]
  split
  · next h => rw [amGet_amErase_self, h]; rfl
  · rw [amGet_amPut_self]; rfl

/-- Every other byte reads as before. -/
theorem memGet_memPut_ne {a b : Nat} (h : b ≠ a) (v : Byte) (m : List Host.Cell) : memGet (memPut m a v) b = memGet m b := by
  unfold memGet memPut
  split
  · split
    · rw [amGet_amErase_ne h]
    · rw [amGet_amPut_ne h]
  · rfl

/-- Bytes outside those written read as before. -/
theorem memGet_memPutBytes_outside {a c : Nat} (b : List Byte) (m : List Host.Cell) (h : c < a ∨ a + b.length ≤ c) :
    memGet (memPutBytes m a b) c = memGet m c := by
  induction b generalizing m a with
  | nil => rfl
  | cons x t ih =>
    simp only [List.length_cons] at h
    rw [memPutBytes, ih _ (by omega), memGet_memPut_ne (by omega)]

/-- The bytes written read back, inside the Store. -/
theorem memGetBytes_memPutBytes (a : Nat) (b : List Byte) (m : List Host.Cell) (h : a + b.length ≤ storeSize) :
    memGetBytes (memPutBytes m a b) a b.length = b := by
  induction b generalizing m a with
  | nil => rfl
  | cons x t ih =>
    simp only [List.length_cons] at h
    simp only [List.length_cons, memGetBytes, memPutBytes]
    rw [ih (a + 1) _ (by omega), memGet_memPutBytes_outside t _ (by omega), memGet_memPut_self (by omega)]

/-- What a store of bytes leaves: every byte of the Store outside them. -/
theorem State.sameStoreBut_stBytes (s : State) (a : Nat) (b : List Byte) : SameStoreBut a b.length s (s.stBytes a b) :=
  fun _ hc => memGet_memPutBytes_outside b s.store hc

/-! ## The invariant under the shared operations -/

theorem State.inv_wr {s : State} (f : Fld) (i v : Nat) (h : s.Inv) : (s.wr f i v).Inv :=
  ⟨amSorted_regsWr f i v h.1, h.2⟩

theorem State.inv_stBytes {s : State} (a : Nat) (b : List Byte) (h : s.Inv) : (s.stBytes a b).Inv :=
  ⟨amSorted_filter _ h.1, State.stBytes_store_wf a b h.2.1, h.2.2⟩

theorem State.inv_st {s : State} (a n v : Nat) (h : s.Inv) : (s.st a n v).Inv :=
  ⟨amSorted_filter _ h.1, State.st_store_wf a n v h.2.1, h.2.2⟩

theorem State.inv_answer {s : State} (r : Resp) (h : s.Inv) : (s.answer r).Inv := h

theorem State.inv_send {s : State} (m : Msg) (h : s.Inv) : (s.send m).Inv := h

end Sys2Proof.Machine
end

