-- ==== Sys2Proof/WellFormed.lean ====
section
/-! DEFINITION. Well-formed commands: every operand lies in the range that the spec gives it. The meanings are total and do
not ask for it; statements and tests may. -/

namespace Sys2Proof

/-- One of the four harts, the host, the PSC or the BMC (R26). -/
def Requester.wf (q : Requester) : Bool :=
  match q with
  | .hart k => decide (k < 4)
  | _ => true

/-- An access comes from a requester in one of a frame's 200 bus cycles (R80). -/
def WCtx.wf (w : WCtx) : Bool := decide (w.cyc < 200) && w.req.wf

/-- A temperature of 16 bits in two's complement, in units of 1/16 degree (R316, R317). -/
def tempWf (t : Int) : Bool := decide (-32768 ≤ t) && decide (t < 32768)

/-- Per phase STATE of 3 bits and c_p, per rail the integrator and V_ref (R399). -/
def PdSnap.wf (p : PdSnap) : Bool :=
  p.phases.all (fun x => decide (x.1 < 128) && decide (x.2.1 < 8)) && p.rails.all (fun x => decide (x.1 < 14))

/-- STATUS (R399, R402). -/
def StatusPkt.wf (p : StatusPkt) : Bool :=
  decide (p.frame < 2 ^ 32) && decide (p.role < 8) && decide (p.mapDigest < 2 ^ 32) && decide (p.profile < 8)

/-- INPUT (R399). -/
def InputPkt.wf (p : InputPkt) : Bool :=
  p.phases.all (fun x => decide (x.1 < 128) && decide (x.2.1 < 65536)) && p.rails.all (fun x => decide (x.1 < 14))
    && p.pmbus.all (fun x => decide (x.1 < 16)) && p.diodes.all (fun x => decide (x.1 < 64)) && decide (p.digest < 2 ^ 32)

/-- OUTPUT (R399). -/
def OutputPkt.wf (p : OutputPkt) : Bool :=
  p.slots.all (fun x => decide (x.1 < 256)) && p.throttle.all (fun x => decide (x.1 < 64) && decide (x.2 < 256))
    && p.snap.all PdSnap.wf

/-- What MIRROR asks for (R205, R399). -/
def MirrorOp.wf (o : MirrorOp) : Bool :=
  match o with
  | .write off v => decide (off < 2 ^ 24) && decide (v < 2 ^ 32)
  | .profile p => decide (p < 8)
  | .profileAt f => decide (f < 2 ^ 64)
  | .profileRefuse => true
  | .reloadPass => true
  | .reloadRefuse => true
  | .commitAt f => decide (f < 2 ^ 64)

/-- MIRROR (R399). -/
def MirrorPkt.wf (p : MirrorPkt) : Bool := decide (p.boundary < 2 ^ 64) && p.op.wf

/-- INTENT: bytes, and two reserved bytes (R285). -/
def IntentMsg.wf (m : IntentMsg) : Bool :=
  [m.seq, m.fold, m.start, m.tileKind, m.format, m.opclass, m.tiles, m.duration, m.tag, m.msg].all (fun b => decide (b < 256))
    && decide (m.rsv < 65536)

/-- What BULK carries (R399). -/
def BulkOp.wf (o : BulkOp) : Bool :=
  match o with
  | .slotState l i st => decide (l < 256) && decide (i < 2 ^ 40) && decide (st.length ≤ 5)
  | .pdSnap p => p.wf
  | .schedule f n _ l => decide (f < 64) && decide (n < 256) && l.all (fun x => x.2.2.wf)
  | .siteStates l => l.all (fun x => decide (x.1 < 1536))
  | .storeBytes a b => decide (a + b.length ≤ 2 ^ 20)
  | .progress p => decide (p ≤ 100)
  | .epoch e => decide (e < 2 ^ 32)
  | .roundDigest c => decide (c < 2 ^ 32)
  | .bankDigest b c => decide (b < 4) && decide (c < 2 ^ 32)
  | .takeRound l => l.all (fun x => decide (x.2 < 2 ^ 32))
  | .golden l _ => decide (l < 256)
  | .verdict n _ => decide (n < 4096)
  | .loopback n => decide (n < 4096)
  | .diode c t => decide (c < 64) && tempWf t

/-- BULK (R399). -/
def BulkPkt.wf (p : BulkPkt) : Bool := p.op.wf

/-- The mesh copy of twin status (R40). -/
def MeshStatus.wf (p : MeshStatus) : Bool := decide (p.role < 8) && decide (p.frame < 2 ^ 32)

/-- REPORT: bytes 4 to 7 (R282). -/
def CellReport.wf (r : CellReport) : Bool := decide (r.frame < 256) && decide (r.trips < 256) && decide (r.edges < 65536)

/-- FENCE_ACK names one of a flock's 12 tiles (R347). -/
def FenceAckMsg.wf (m : FenceAckMsg) : Bool := decide (m.tile < 12) && decide (m.rsv < 2 ^ 32)

/-- ROUTE_STATE (R347). -/
def RouteMsg.wf (m : RouteMsg) : Bool := decide (m.demanded < 64) && decide (m.rsv < 2 ^ 32)

/-- ROUND_ACK (R362). -/
def RoundAckMsg.wf (m : RoundAckMsg) : Bool :=
  decide (m.status < 3) && decide (m.source < 2) && decide (m.epoch < 2 ^ 32) && decide (m.grantSeq < 2 ^ 32)

/-- USAGE (R362). -/
def UsageMsg.wf (m : UsageMsg) : Bool := decide (m.queue < 65536) && decide (m.period < 256) && decide (m.units < 2 ^ 32)
  && decide (m.held < 256)

/-- The edges of a frame and a voltage code of 9 bits (R271, R272). -/
def TripEdge.wf (m : TripEdge) : Bool := decide (m.edges < 2 ^ 16) && decide (m.code < 2 ^ 9)

/-- A last field of `a` bits, with `b` reserved bits. -/
def LastField.wf (f : LastField) (a b : Nat) : Bool := decide (f.val < 2 ^ a) && decide (f.rsv < 2 ^ b)

/-- An access of at most 64 bytes (R658), and a requester. -/
def StoreData.wf (d : StoreData) : Bool := decide (d.bytes.length ≤ 64) && d.reader.all Requester.wf

/-- A write stores as many bytes as the read reads. -/
def ReadMeets.wf (m : ReadMeets) (size : Nat) : Bool :=
  match m with
  | .ecc _ => true
  | .write v => decide (v < 2 ^ (8 * size))

/-- The domains and channels that self-calibration may name (R500). -/
def CalibResult.wf (c : CalibResult) : Bool :=
  c.loops.all (fun k => decide (k < 6)) && c.monitors.all (fun k => decide (k < 6)) && c.phases.all (fun k => decide (k < 128))
    && c.rails.all (fun k => decide (k < 14)) && c.diodes.all (fun k => decide (k < 64))

/-- Words of 16 bits, the byte of VOUT_MODE, and a time of 16 bits (R642, R643). -/
def PollData.wf (p : PollData) : Bool :=
  p.pout.all (fun v => decide (v < 65536)) && p.iout.all (fun v => decide (v < 65536)) && p.vout.all (fun v => decide (v < 65536))
    && p.mode.all (fun v => decide (v < 256)) && p.status.all (fun v => decide (v < 65536))
    && p.cycleUs.all (fun v => decide (v < 65536))

/-- Every operand of the command lies in its range. -/
def Instr.wf (i : Instr) : Bool :=
  match i with
  | .frameBoundary _ => true
  | .loopWindow => true
  | .plausFault slot => decide (slot < 256)
  | .bellwetherEval errs => errs.all (fun e => e.word < 2 ^ 20)
  | .earlyAddCheck => true
  | .outputStage => true
  | .twinOutputPacket p => p.wf
  | .twinStatusPacket p => p.wf
  | .twinInputPacket p => p.wf
  | .inputNotWhole => true
  | .inputDisagreement rail ch => decide (ch < (if rail = true then 14 else 128))
  | .twinMirrorPacket p => p.wf
  | .twinBulkPacket p => p.wf
  | .catchUpComplete => true
  | .cleanFramesReached => true
  | .peerReadyLapse => true
  | .linkDown => true
  | .peerSilent => true
  | .keeperGateDrop _ => true
  | .gatePeerFall => true
  | .gateRaise => true
  | .gateResample => true
  | .goldenVerdict slot _ _ => decide (slot < 256)
  | .swap w => w.wf
  | .twinAttach w => w.wf
  | .twinDetach w => w.wf
  | .railSenseConversion rail code => decide (rail < 14) && decide (code < 2 ^ 18)
  | .sg2Shutdown rail => decide (rail < 14)
  | .vrefStep => true
  | .phaseCurrentSample phase code _ => decide (phase < 128) && decide (code < 2 ^ 12)
  | .phaseFenceVerdict phase => decide (phase < 128)
  | .phaseDerate phase => decide (phase < 128)
  | .shortCircuitTrip phase => decide (phase < 128)
  | .scRepeatFence phase => decide (phase < 128)
  | .switchingPeriodStart phase => decide (phase < 128)
  | .shedDecision rail => decide (rail < 14)
  | .pulseSkipEngage rail => decide (rail < 14)
  | .restart w rail => w.wf && decide (rail < 14)
  | .clearSafe w rail => w.wf && decide (rail < 14)
  | .phaseFenceWrite w phase _ => w.wf && decide (phase < 128)
  | .cellTrip cell m => decide (cell < 832) && m.wf
  | .cellRelease cell edges code => decide (cell < 832) && decide (edges < 2 ^ 16) && decide (code < 2 ^ 9)
  | .accountingFrameEnd cell edges => decide (cell < 832) && decide (edges < 2 ^ 16)
  | .cellStuck cell => decide (cell < 832)
  | .cellOrphan cell => decide (cell < 832)
  | .thresh fold code => decide (fold < 64) && decide (code < 2 ^ 9)
  | .config fold hyst maxStretch fallback minHold stuckFrames =>
    decide (fold < 64) && decide (hyst < 16) && decide (maxStretch < 64) && decide (fallback < 2 ^ 9)
      && decide (minHold < 256) && decide (stuckFrames < 256)
  | .cellEn cell _ => decide (cell < 832)
  | .frameSync frame => decide (frame < 2 ^ 16)
  | .test cell => decide (cell < 832)
  | .echo cell => decide (cell < 832)
  | .delay cell comp => decide (cell < 832) && decide (comp < 256)
  | .trip cell => decide (cell < 832)
  | .report cell r => decide (cell < 832) && r.wf
  | .echoReply cell rtt => decide (cell < 832) && decide (rtt < 2 ^ 16)
  | .echoTimeout cell => decide (cell < 832)
  | .frameSyncPeriod => true
  | .crookTestWrite w cell => w.wf && decide (cell < 1024)
  | .intent dispatcher m => decide (dispatcher < 64) && m.wf
  | .cancel dispatcher fold tag seq => decide (dispatcher < 64) && decide (fold < 256) && decide (tag < 256) && seq.wf 8 64
  | .bwClearRails w => w.wf
  | .bwClearFolds w => w.wf
  | .reading site tag _ temp => decide (site < 1536) && decide (tag < 256) && temp.wf 16 32
  | .siteRefReading site tag temp => decide (site < 1536) && decide (tag < 256) && temp.wf 16 32
  | .sweepClose paddock => decide (paddock < 128)
  | .siteFailed site => decide (site < 1536)
  | .siteHighFault site => decide (site < 1536)
  | .diodeFailed ch => decide (ch < 64)
  | .hotFence tile => decide (tile < 768)
  | .diodeConversion ch temp => decide (ch < 64) && tempWf temp
  | .diodeTrip ch temp => decide (ch < 64) && tempWf temp
  | .thermtripNetLow => true
  | .hbmTemp ctrl temp => decide (ctrl < 12) && tempWf temp
  | .memctrlStale ctrl => decide (ctrl < 12)
  | .optReport engine _ heater laser => decide (engine < 8) && decide (heater < 2 ^ 32) && laser.wf 32 32
  | .opticalOver engine => decide (engine < 8)
  | .fenceAck flock m => decide (flock < 64) && m.wf
  | .routeState flock m => decide (flock < 64) && m.wf
  | .stilePark flock => decide (flock < 64)
  | .tileFenceWrite w tile _ => w.wf && decide (tile < 768)
  | .grantRound => true
  | .roundAck fold m => decide (fold < 64) && m.wf
  | .ledgerPeriodStart => true
  | .usage m => m.wf
  | .usageEnd fold period count => decide (fold < 64) && decide (period < 256) && decide (count < 2 ^ 32)
  | .bankReady bank => decide (bank < 4)
  | .bankBooking bank => decide (bank < 4)
  | .release w bank => w.wf && decide (bank < 4)
  | .meshCompletion msg _ => decide (msg < 2 ^ 16)
  | .meshRetry msg => decide (msg < 2 ^ 16)
  | .creditReturn _ => true
  | .probeReply token source => decide (token < 256) && decide (source < 4096)
  | .testVerdict source _ => decide (source < 4096)
  | .testTimeLimit source => decide (source < 4096)
  | .quietExpiry source => decide (source < 4096)
  | .escalationSevere source => decide (source < 4096)
  | .windowExpiry source => decide (source < 4096)
  | .rowPatternTest row verdict => decide (row < 4096) && verdict.waits.all Requester.wf
  | .clearSource w source => w.wf && decide (source < 4096)
  | .runSourceTest w source => w.wf && decide (source < 4096)
  | .rejectClr w => w.wf
  | .faultInjectArm w _ target index count => w.wf && decide (target < 16) && decide (index < 4096) && decide (count < 256)
  | .proofTestScPeriodic phase _ => decide (phase < 128)
  | .proofTestDiodePeriodic ch _ => decide (ch < 64)
  | .proofTestSitePeriodic paddock => decide (paddock < 128)
  | .referenceLost src => decide (src < 4)
  | .relockDone => true
  | .crystalAmplitudePass x => decide (x < 2)
  | .crystalStartTimeout x => decide (x < 2)
  | .crystalRestart x => decide (x < 2)
  | .autoReturn src => decide (src < 4)
  | .clockEdgeLost dom => decide (dom < 6)
  | .frequencyFailure dom => decide (dom < 6)
  | .frcBad => true
  | .domainReturn dom => decide (dom < 6)
  | .domainSwitchDone dom _ => decide (dom < 6)
  | .forcedStop dom => decide (dom < 6)
  | .go w dom => w.wf && decide (dom < 8)
  | .clkEnWrite w v => w.wf && decide (v < 2 ^ 32)
  | .clkDivWrite w v => w.wf && decide (v < 2 ^ 32)
  | .keepPowerUp => true
  | .porAssert => true
  | .holdNLow _ => true
  | .rstLe w => w.wf
  | .rstTwin w => w.wf
  | .rstBlock w => w.wf
  | .rstHart w hart => w.wf && decide (hart < 4)
  | .resetRelease => true
  | .watchdogExpiry hart => decide (hart < 4)
  | .sequenceStart => true
  | .romStepDone _ _ => true
  | .calibDone c => c.wf
  | .storeInitDone failedRows => failedRows.all (fun k => decide (k < 4096))
  | .imageVerified _ _ => true
  | .roleDecision _ _ => true
  | .bWaitExpiry _ => true
  | .rampGroupStart scFails sg2Fails => scFails.all (fun k => decide (k < 128)) && sg2Fails.all (fun k => decide (k < 14))
  | .railPowerGood rail => decide (rail < 14)
  | .powerGoodTimeout rail => decide (rail < 14)
  | .rampGapExpiry => true
  | .sitesDone bad => bad.all (fun k => decide (k < 1536))
  | .enSet w _ _ ring => w.wf && decide (ring < 64)
  | .enClear w => w.wf
  | .reload w _ _ ring => w.wf && decide (ring < 64)
  | .mapCheckDone _ => true
  | .loaderStall => true
  | .standbyReloadTimeout => true
  | .profileReq w p => w.wf && decide (p < 8)
  | .profilePrepDone frames => decide (frames < 2 ^ 24)
  | .capBmcWrite w v => w.wf && decide (v < 2 ^ 24)
  | .wardenWindowExpiry => true
  | .modeReq w slot mode => w.wf && decide (slot < 256) && decide (mode < 4)
  | .manual w slot v => w.wf && decide (slot < 256) && decide (v < 2 ^ 16)
  | .heldWrite w off v => w.wf && decide (off < 2 ^ 24) && decide (v < 2 ^ 32)
  | .captureArm w slot v => w.wf && decide (slot < 256) && decide (v < 2 ^ 32)
  | .amoStart w set v => w.wf && decide (set < 5) && decide (v < 2 ^ 32)
  | .retWrite w v => w.wf && decide (v < 2 ^ 32)
  | .bankWakeDone bank => decide (bank < 16)
  | .storeWrite w off data => w.wf && decide (off < 2 ^ 24) && data.wf
  | .scrubRead addr _ => decide (addr < 2 ^ 20)
  | .fifoPop w => w.wf
  | .ack w => w.wf
  | .readPairLow w off size => w.wf && decide (off < 2 ^ 24) && decide (size ≤ 64)
  | .registerWrite w off size v => w.wf && decide (off < 2 ^ 24) && decide (size ≤ 64) && decide (v < 2 ^ (8 * size))
  | .kick w hart => w.wf && decide (hart < 4)
  | .selfReset w hart => w.wf && decide (hart < 4)
  | .restartCheckDone hart _ => decide (hart < 4)
  | .hartSleep hart => decide (hart < 4)
  | .hartWake hart => decide (hart < 4)
  | .shedWindowEnd hart load => decide (hart < 4) && decide (load < 101)
  | .hb w => w.wf
  | .heartbeatLapse => true
  | .ringDoorbell w ring v => w.wf && decide (ring < 64) && decide (v < 2 ^ 32)
  | .attach ring => decide (ring < 64)
  | .detach ring => decide (ring < 64)
  | .getStatus ring => decide (ring < 64)
  | .ringCreate ring => decide (ring < 64)
  | .ringReset ring => decide (ring < 64)
  | .ringDestroy ring => decide (ring < 64)
  | .loadMap ring => decide (ring < 64)
  | .mapData ring => decide (ring < 64)
  | .flashMap ring => decide (ring < 64)
  | .flashImage ring => decide (ring < 64)
  | .flashData ring => decide (ring < 64)
  | .loadImage ring => decide (ring < 64)
  | .profile ring => decide (ring < 64)
  | .ledgerSnap ring => decide (ring < 64)
  | .logCtrl ring => decide (ring < 64)
  | .traceCtrl ring => decide (ring < 64)
  | .tallyRead ring => decide (ring < 64)
  | .unknownOpcode ring => decide (ring < 64)
  | .doorbell w mbox cmd => w.wf && decide (mbox < 16) && decide (cmd < 256)
  | .cancelMailbox w mbox => w.wf && decide (mbox < 16)
  | .mailboxAck w mbox code result => w.wf && decide (mbox < 16) && decide (code < 256) && decide (result < 2 ^ 24)
  | .mailboxTimeout mbox => decide (mbox < 16)
  | .tallyRecordPlace => true
  | .submit w v => w.wf && decide (v < 2 ^ 32)
  | .flush w => w.wf
  | .tallyFlushPeriodic => true
  | .tallyFlushDone _ => true
  | .operatingSecondTick => true
  | .pmbusPollDone supply p => decide (supply < 16) && p.wf
  | .pmbusPollFail supply => decide (supply < 16)
  | .pmbusAlert port addr status => decide (port < 2) && decide (addr < 128) && decide (status < 2 ^ 16)
  | .alertStuck port => decide (port < 2)
  | .pmbusMasterChange unfinished => unfinished.all (fun k => decide (k < 16))
  | .setdasa addr => decide (addr < 128)
  | .setaasa => true
  | .entdaa addr => decide (addr < 128)
  | .setEndpointId eid => decide (eid < 256)
  | .getEndpointId => true
  | .getMctpVersionSupport => true
  | .getMessageTypeSupport => true
  | .mctpUnknownType typ => decide (typ < 128)
  | .gettid => true
  | .settid tid => decide (tid < 256)
  | .getpldmversion => true
  | .getpldmtypes => true
  | .getpldmcommands typ => decide (typ < 64)
  | .seteventreceiver eid => decide (eid < 256)
  | .getpdrrepositoryinfo => true
  | .getpdr handle => decide (handle < 2 ^ 32)
  | .getsensorreading id => decide (id < 2 ^ 16)
  | .getstatesensorreadings id => decide (id < 2 ^ 16)
  | .setnumericeffectervalue id v => decide (id < 2 ^ 16) && decide (v < 2 ^ 32)
  | .getnumericeffectervalue id => decide (id < 2 ^ 16)
  | .pldmUnsupported typ cmd => decide (typ < 64) && decide (cmd < 256)
  | .vendorTallyRead first count => decide (first < 2 ^ 64) && decide (count < 2 ^ 16)
  | .faultOpen => true
  | .vendorUnknown cmd => decide (cmd < 256)
  | .wardenWindowOpen _ frames => decide (frames < 2 ^ 24)
  | .meshTwinStatus p => p.wf
  | .slowBad => true
  | .crystalDetectorFail x => decide (x < 2)
  | .hostLinkTrained => true
  | .storeRead w off size meets => w.wf && decide (off < 2 ^ 24) && decide (size ≤ 64) && meets.wf size
  | .flashWriteDone ring _ _ => decide (ring < 64)

end Sys2Proof
end

