-- ==== Sys2Proof/Laws/PerInstr.lean ====
section
/-! SUPPORT. Statements made of every command as syntax, one lemma per constructor. -/

namespace Sys2Proof.Laws.Operands

/-- The requester of a command that is an access of a register or of the Store. -/
def requester (i : Instr) : Option WCtx :=
  match i with
  | .frameBoundary _ => none
  | .loopWindow => none
  | .plausFault _ => none
  | .bellwetherEval _ => none
  | .earlyAddCheck => none
  | .outputStage => none
  | .twinOutputPacket _ => none
  | .twinStatusPacket _ => none
  | .twinInputPacket _ => none
  | .inputNotWhole => none
  | .inputDisagreement _ _ => none
  | .twinMirrorPacket _ => none
  | .twinBulkPacket _ => none
  | .catchUpComplete => none
  | .cleanFramesReached => none
  | .peerReadyLapse => none
  | .linkDown => none
  | .peerSilent => none
  | .keeperGateDrop _ => none
  | .gatePeerFall => none
  | .gateRaise => none
  | .gateResample => none
  | .goldenVerdict _ _ _ => none
  | .swap w => some w
  | .twinAttach w => some w
  | .twinDetach w => some w
  | .railSenseConversion _ _ => none
  | .sg2Shutdown _ => none
  | .vrefStep => none
  | .phaseCurrentSample _ _ _ => none
  | .phaseFenceVerdict _ => none
  | .phaseDerate _ => none
  | .shortCircuitTrip _ => none
  | .scRepeatFence _ => none
  | .switchingPeriodStart _ => none
  | .shedDecision _ => none
  | .pulseSkipEngage _ => none
  | .restart w _ => some w
  | .clearSafe w _ => some w
  | .phaseFenceWrite w _ _ => some w
  | .cellTrip _ _ => none
  | .cellRelease _ _ _ => none
  | .accountingFrameEnd _ _ => none
  | .cellStuck _ => none
  | .cellOrphan _ => none
  | .thresh _ _ => none
  | .config _ _ _ _ _ _ => none
  | .cellEn _ _ => none
  | .frameSync _ => none
  | .test _ => none
  | .echo _ => none
  | .delay _ _ => none
  | .trip _ => none
  | .report _ _ => none
  | .echoReply _ _ => none
  | .echoTimeout _ => none
  | .frameSyncPeriod => none
  | .crookTestWrite w _ => some w
  | .intent _ _ => none
  | .cancel _ _ _ _ => none
  | .bwClearRails w => some w
  | .bwClearFolds w => some w
  | .reading _ _ _ _ => none
  | .siteRefReading _ _ _ => none
  | .sweepClose _ => none
  | .siteFailed _ => none
  | .siteHighFault _ => none
  | .diodeFailed _ => none
  | .hotFence _ => none
  | .diodeConversion _ _ => none
  | .diodeTrip _ _ => none
  | .thermtripNetLow => none
  | .hbmTemp _ _ => none
  | .memctrlStale _ => none
  | .optReport _ _ _ _ => none
  | .opticalOver _ => none
  | .fenceAck _ _ => none
  | .routeState _ _ => none
  | .stilePark _ => none
  | .tileFenceWrite w _ _ => some w
  | .grantRound => none
  | .roundAck _ _ => none
  | .ledgerPeriodStart => none
  | .usage _ => none
  | .usageEnd _ _ _ => none
  | .bankReady _ => none
  | .bankBooking _ => none
  | .release w _ => some w
  | .meshCompletion _ _ => none
  | .meshRetry _ => none
  | .creditReturn _ => none
  | .probeReply _ _ => none
  | .testVerdict _ _ => none
  | .testTimeLimit _ => none
  | .quietExpiry _ => none
  | .escalationSevere _ => none
  | .windowExpiry _ => none
  | .rowPatternTest _ _ => none
  | .clearSource w _ => some w
  | .runSourceTest w _ => some w
  | .rejectClr w => some w
  | .faultInjectArm w _ _ _ _ => some w
  | .proofTestScPeriodic _ _ => none
  | .proofTestDiodePeriodic _ _ => none
  | .proofTestSitePeriodic _ => none
  | .referenceLost _ => none
  | .relockDone => none
  | .crystalAmplitudePass _ => none
  | .crystalStartTimeout _ => none
  | .crystalRestart _ => none
  | .autoReturn _ => none
  | .clockEdgeLost _ => none
  | .frequencyFailure _ => none
  | .frcBad => none
  | .domainReturn _ => none
  | .domainSwitchDone _ _ => none
  | .forcedStop _ => none
  | .go w _ => some w
  | .clkEnWrite w _ => some w
  | .clkDivWrite w _ => some w
  | .keepPowerUp => none
  | .porAssert => none
  | .holdNLow _ => none
  | .rstLe w => some w
  | .rstTwin w => some w
  | .rstBlock w => some w
  | .rstHart w _ => some w
  | .resetRelease => none
  | .watchdogExpiry _ => none
  | .sequenceStart => none
  | .romStepDone _ _ => none
  | .calibDone _ => none
  | .storeInitDone _ => none
  | .imageVerified _ _ => none
  | .roleDecision _ _ => none
  | .bWaitExpiry _ => none
  | .rampGroupStart _ _ => none
  | .railPowerGood _ => none
  | .powerGoodTimeout _ => none
  | .rampGapExpiry => none
  | .sitesDone _ => none
  | .enSet w _ _ _ => some w
  | .enClear w => some w
  | .reload w _ _ _ => some w
  | .mapCheckDone _ => none
  | .loaderStall => none
  | .standbyReloadTimeout => none
  | .profileReq w _ => some w
  | .profilePrepDone _ => none
  | .capBmcWrite w _ => some w
  | .wardenWindowExpiry => none
  | .modeReq w _ _ => some w
  | .manual w _ _ => some w
  | .heldWrite w _ _ => some w
  | .captureArm w _ _ => some w
  | .amoStart w _ _ => some w
  | .retWrite w _ => some w
  | .bankWakeDone _ => none
  | .storeWrite w _ _ => some w
  | .scrubRead _ _ => none
  | .fifoPop w => some w
  | .ack w => some w
  | .readPairLow w _ _ => some w
  | .registerWrite w _ _ _ => some w
  | .kick w _ => some w
  | .selfReset w _ => some w
  | .restartCheckDone _ _ => none
  | .hartSleep _ => none
  | .hartWake _ => none
  | .shedWindowEnd _ _ => none
  | .hb w => some w
  | .heartbeatLapse => none
  | .ringDoorbell w _ _ => some w
  | .attach _ => none
  | .detach _ => none
  | .getStatus _ => none
  | .ringCreate _ => none
  | .ringReset _ => none
  | .ringDestroy _ => none
  | .loadMap _ => none
  | .mapData _ => none
  | .flashMap _ => none
  | .flashImage _ => none
  | .flashData _ => none
  | .loadImage _ => none
  | .profile _ => none
  | .ledgerSnap _ => none
  | .logCtrl _ => none
  | .traceCtrl _ => none
  | .tallyRead _ => none
  | .unknownOpcode _ => none
  | .doorbell w _ _ => some w
  | .cancelMailbox w _ => some w
  | .mailboxAck w _ _ _ => some w
  | .mailboxTimeout _ => none
  | .tallyRecordPlace => none
  | .submit w _ => some w
  | .flush w => some w
  | .tallyFlushPeriodic => none
  | .tallyFlushDone _ => none
  | .operatingSecondTick => none
  | .pmbusPollDone _ _ => none
  | .pmbusPollFail _ => none
  | .pmbusAlert _ _ _ => none
  | .alertStuck _ => none
  | .pmbusMasterChange _ => none
  | .setdasa _ => none
  | .setaasa => none
  | .entdaa _ => none
  | .setEndpointId _ => none
  | .getEndpointId => none
  | .getMctpVersionSupport => none
  | .getMessageTypeSupport => none
  | .mctpUnknownType _ => none
  | .gettid => none
  | .settid _ => none
  | .getpldmversion => none
  | .getpldmtypes => none
  | .getpldmcommands _ => none
  | .seteventreceiver _ => none
  | .getpdrrepositoryinfo => none
  | .getpdr _ => none
  | .getsensorreading _ => none
  | .getstatesensorreadings _ => none
  | .setnumericeffectervalue _ _ => none
  | .getnumericeffectervalue _ => none
  | .pldmUnsupported _ _ => none
  | .vendorTallyRead _ _ => none
  | .faultOpen => none
  | .vendorUnknown _ => none
  | .wardenWindowOpen _ _ => none
  | .meshTwinStatus _ => none
  | .slowBad => none
  | .crystalDetectorFail _ => none
  | .hostLinkTrained => none
  | .storeRead w _ _ _ => some w
  | .flashWriteDone _ _ _ => none

/-- A well-formed command's access, where it is one, comes from a requester of the block and in a cycle of the frame
(R26, R80). -/
def Statement (i : Instr) : Prop := i.wf = true → ∀ w, requester i = some w → w.wf = true

theorem left {a b : Bool} (h : (a && b) = true) : a = true := (Bool.and_eq_true_iff.1 h).1

theorem of_event {i : Instr} (h : requester i = none) : Statement i := fun _ _ e => nomatch h.symm.trans e

theorem of_access {i : Instr} {w : WCtx} (h : requester i = some w) (k : i.wf = true → w.wf = true) : Statement i :=
  fun a _ e => Option.some.inj (h.symm.trans e) ▸ k a

theorem frameBoundary (edge : FrameEdge) : Statement (.frameBoundary edge) := of_event rfl

theorem loopWindow : Statement .loopWindow := of_event rfl

theorem plausFault (slot : Nat) : Statement (.plausFault slot) := of_event rfl

theorem bellwetherEval (errs : List WeightErr) : Statement (.bellwetherEval errs) := of_event rfl

theorem earlyAddCheck : Statement .earlyAddCheck := of_event rfl

theorem outputStage : Statement .outputStage := of_event rfl

theorem twinOutputPacket (p : OutputPkt) : Statement (.twinOutputPacket p) := of_event rfl

theorem twinStatusPacket (p : StatusPkt) : Statement (.twinStatusPacket p) := of_event rfl

theorem twinInputPacket (p : InputPkt) : Statement (.twinInputPacket p) := of_event rfl

theorem inputNotWhole : Statement .inputNotWhole := of_event rfl

theorem inputDisagreement (rail : Bool) (ch : Nat) : Statement (.inputDisagreement rail ch) := of_event rfl

theorem twinMirrorPacket (p : MirrorPkt) : Statement (.twinMirrorPacket p) := of_event rfl

theorem twinBulkPacket (p : BulkPkt) : Statement (.twinBulkPacket p) := of_event rfl

theorem catchUpComplete : Statement .catchUpComplete := of_event rfl

theorem cleanFramesReached : Statement .cleanFramesReached := of_event rfl

theorem peerReadyLapse : Statement .peerReadyLapse := of_event rfl

theorem linkDown : Statement .linkDown := of_event rfl

theorem peerSilent : Statement .peerSilent := of_event rfl

theorem keeperGateDrop (cause : KeeperCause) : Statement (.keeperGateDrop cause) := of_event rfl

theorem gatePeerFall : Statement .gatePeerFall := of_event rfl

theorem gateRaise : Statement .gateRaise := of_event rfl

theorem gateResample : Statement .gateResample := of_event rfl

theorem goldenVerdict (slot : Nat) (holderPass : Bool) (standbyPass : Bool) :
    Statement (.goldenVerdict slot holderPass standbyPass) := of_event rfl

theorem swap (w : WCtx) : Statement (.swap w) := of_access rfl (fun h => h)

theorem twinAttach (w : WCtx) : Statement (.twinAttach w) := of_access rfl (fun h => h)

theorem twinDetach (w : WCtx) : Statement (.twinDetach w) := of_access rfl (fun h => h)

theorem railSenseConversion (rail : Nat) (code : Nat) : Statement (.railSenseConversion rail code) := of_event rfl

theorem sg2Shutdown (rail : Nat) : Statement (.sg2Shutdown rail) := of_event rfl

theorem vrefStep : Statement .vrefStep := of_event rfl

theorem phaseCurrentSample (phase : Nat) (code : Nat) (refOff : Bool) :
    Statement (.phaseCurrentSample phase code refOff) := of_event rfl

theorem phaseFenceVerdict (phase : Nat) : Statement (.phaseFenceVerdict phase) := of_event rfl

theorem phaseDerate (phase : Nat) : Statement (.phaseDerate phase) := of_event rfl

theorem shortCircuitTrip (phase : Nat) : Statement (.shortCircuitTrip phase) := of_event rfl

theorem scRepeatFence (phase : Nat) : Statement (.scRepeatFence phase) := of_event rfl

theorem switchingPeriodStart (phase : Nat) : Statement (.switchingPeriodStart phase) := of_event rfl

theorem shedDecision (rail : Nat) : Statement (.shedDecision rail) := of_event rfl

theorem pulseSkipEngage (rail : Nat) : Statement (.pulseSkipEngage rail) := of_event rfl

theorem restart (w : WCtx) (rail : Nat) : Statement (.restart w rail) := of_access rfl (fun h => left h)

theorem clearSafe (w : WCtx) (rail : Nat) : Statement (.clearSafe w rail) := of_access rfl (fun h => left h)

theorem phaseFenceWrite (w : WCtx) (phase : Nat) (on : Bool) :
    Statement (.phaseFenceWrite w phase on) := of_access rfl (fun h => left h)

theorem cellTrip (cell : Nat) (m : TripEdge) : Statement (.cellTrip cell m) := of_event rfl

theorem cellRelease (cell : Nat) (edges : Nat) (code : Nat) : Statement (.cellRelease cell edges code) := of_event rfl

theorem accountingFrameEnd (cell : Nat) (edges : Nat) : Statement (.accountingFrameEnd cell edges) := of_event rfl

theorem cellStuck (cell : Nat) : Statement (.cellStuck cell) := of_event rfl

theorem cellOrphan (cell : Nat) : Statement (.cellOrphan cell) := of_event rfl

theorem thresh (fold : Nat) (code : Nat) : Statement (.thresh fold code) := of_event rfl

theorem config (fold : Nat) (hyst : Nat) (maxStretch : Nat) (fallback : Nat) (minHold : Nat) (stuckFrames : Nat) :
    Statement (.config fold hyst maxStretch fallback minHold stuckFrames) := of_event rfl

theorem cellEn (cell : Nat) (en : Bool) : Statement (.cellEn cell en) := of_event rfl

theorem frameSync (frame : Nat) : Statement (.frameSync frame) := of_event rfl

theorem test (cell : Nat) : Statement (.test cell) := of_event rfl

theorem echo (cell : Nat) : Statement (.echo cell) := of_event rfl

theorem delay (cell : Nat) (comp : Nat) : Statement (.delay cell comp) := of_event rfl

theorem trip (cell : Nat) : Statement (.trip cell) := of_event rfl

theorem report (cell : Nat) (r : CellReport) : Statement (.report cell r) := of_event rfl

theorem echoReply (cell : Nat) (rtt : Nat) : Statement (.echoReply cell rtt) := of_event rfl

theorem echoTimeout (cell : Nat) : Statement (.echoTimeout cell) := of_event rfl

theorem frameSyncPeriod : Statement .frameSyncPeriod := of_event rfl

theorem crookTestWrite (w : WCtx) (cell : Nat) : Statement (.crookTestWrite w cell) := of_access rfl (fun h => left h)

theorem intent (dispatcher : Nat) (m : IntentMsg) : Statement (.intent dispatcher m) := of_event rfl

theorem cancel (dispatcher : Nat) (fold : Nat) (tag : Nat) (seq : LastField) :
    Statement (.cancel dispatcher fold tag seq) := of_event rfl

theorem bwClearRails (w : WCtx) : Statement (.bwClearRails w) := of_access rfl (fun h => h)

theorem bwClearFolds (w : WCtx) : Statement (.bwClearFolds w) := of_access rfl (fun h => h)

theorem reading (site : Nat) (tag : Nat) (valid : Bool) (temp : LastField) :
    Statement (.reading site tag valid temp) := of_event rfl

theorem siteRefReading (site : Nat) (tag : Nat) (temp : LastField) :
    Statement (.siteRefReading site tag temp) := of_event rfl

theorem sweepClose (paddock : Nat) : Statement (.sweepClose paddock) := of_event rfl

theorem siteFailed (site : Nat) : Statement (.siteFailed site) := of_event rfl

theorem siteHighFault (site : Nat) : Statement (.siteHighFault site) := of_event rfl

theorem diodeFailed (ch : Nat) : Statement (.diodeFailed ch) := of_event rfl

theorem hotFence (tile : Nat) : Statement (.hotFence tile) := of_event rfl

theorem diodeConversion (ch : Nat) (temp : Int) : Statement (.diodeConversion ch temp) := of_event rfl

theorem diodeTrip (ch : Nat) (temp : Int) : Statement (.diodeTrip ch temp) := of_event rfl

theorem thermtripNetLow : Statement .thermtripNetLow := of_event rfl

theorem hbmTemp (ctrl : Nat) (temp : Int) : Statement (.hbmTemp ctrl temp) := of_event rfl

theorem memctrlStale (ctrl : Nat) : Statement (.memctrlStale ctrl) := of_event rfl

theorem optReport (engine : Nat) (locked : Bool) (heater : Nat) (laser : LastField) :
    Statement (.optReport engine locked heater laser) := of_event rfl

theorem opticalOver (engine : Nat) : Statement (.opticalOver engine) := of_event rfl

theorem fenceAck (flock : Nat) (m : FenceAckMsg) : Statement (.fenceAck flock m) := of_event rfl

theorem routeState (flock : Nat) (m : RouteMsg) : Statement (.routeState flock m) := of_event rfl

theorem stilePark (flock : Nat) : Statement (.stilePark flock) := of_event rfl

theorem tileFenceWrite (w : WCtx) (tile : Nat) (on : Bool) :
    Statement (.tileFenceWrite w tile on) := of_access rfl (fun h => left h)

theorem grantRound : Statement .grantRound := of_event rfl

theorem roundAck (fold : Nat) (m : RoundAckMsg) : Statement (.roundAck fold m) := of_event rfl

theorem ledgerPeriodStart : Statement .ledgerPeriodStart := of_event rfl

theorem usage (m : UsageMsg) : Statement (.usage m) := of_event rfl

theorem usageEnd (fold : Nat) (period : Nat) (count : Nat) : Statement (.usageEnd fold period count) := of_event rfl

theorem bankReady (bank : Nat) : Statement (.bankReady bank) := of_event rfl

theorem bankBooking (bank : Nat) : Statement (.bankBooking bank) := of_event rfl

theorem release (w : WCtx) (bank : Nat) : Statement (.release w bank) := of_access rfl (fun h => left h)

theorem meshCompletion (msg : Nat) (mask : Nat) : Statement (.meshCompletion msg mask) := of_event rfl

theorem meshRetry (msg : Nat) : Statement (.meshRetry msg) := of_event rfl

theorem creditReturn (endpoint : Nat) : Statement (.creditReturn endpoint) := of_event rfl

theorem probeReply (token : Nat) (source : Nat) : Statement (.probeReply token source) := of_event rfl

theorem testVerdict (source : Nat) (verdict : TestVerdict) : Statement (.testVerdict source verdict) := of_event rfl

theorem testTimeLimit (source : Nat) : Statement (.testTimeLimit source) := of_event rfl

theorem quietExpiry (source : Nat) : Statement (.quietExpiry source) := of_event rfl

theorem escalationSevere (source : Nat) : Statement (.escalationSevere source) := of_event rfl

theorem windowExpiry (source : Nat) : Statement (.windowExpiry source) := of_event rfl

theorem rowPatternTest (row : Nat) (verdict : RowVerdict) : Statement (.rowPatternTest row verdict) := of_event rfl

theorem clearSource (w : WCtx) (source : Nat) : Statement (.clearSource w source) := of_access rfl (fun h => left h)

theorem runSourceTest (w : WCtx) (source : Nat) : Statement (.runSourceTest w source) := of_access rfl (fun h => left h)

theorem rejectClr (w : WCtx) : Statement (.rejectClr w) := of_access rfl (fun h => h)

theorem faultInjectArm (w : WCtx) (arm : Bool) (target : Nat) (index : Nat) (count : Nat) :
    Statement (.faultInjectArm w arm target index count) := of_access rfl (fun h => left (left (left h)))

theorem proofTestScPeriodic (phase : Nat) (ok : Bool) : Statement (.proofTestScPeriodic phase ok) := of_event rfl

theorem proofTestDiodePeriodic (ch : Nat) (ok : Bool) : Statement (.proofTestDiodePeriodic ch ok) := of_event rfl

theorem proofTestSitePeriodic (paddock : Nat) : Statement (.proofTestSitePeriodic paddock) := of_event rfl

theorem referenceLost (src : Nat) : Statement (.referenceLost src) := of_event rfl

theorem relockDone : Statement .relockDone := of_event rfl

theorem crystalAmplitudePass (x : Nat) : Statement (.crystalAmplitudePass x) := of_event rfl

theorem crystalStartTimeout (x : Nat) : Statement (.crystalStartTimeout x) := of_event rfl

theorem crystalRestart (x : Nat) : Statement (.crystalRestart x) := of_event rfl

theorem autoReturn (src : Nat) : Statement (.autoReturn src) := of_event rfl

theorem clockEdgeLost (dom : Nat) : Statement (.clockEdgeLost dom) := of_event rfl

theorem frequencyFailure (dom : Nat) : Statement (.frequencyFailure dom) := of_event rfl

theorem frcBad : Statement .frcBad := of_event rfl

theorem domainReturn (dom : Nat) : Statement (.domainReturn dom) := of_event rfl

theorem domainSwitchDone (dom : Nat) (lostNs : Nat) : Statement (.domainSwitchDone dom lostNs) := of_event rfl

theorem forcedStop (dom : Nat) : Statement (.forcedStop dom) := of_event rfl

theorem go (w : WCtx) (dom : Nat) : Statement (.go w dom) := of_access rfl (fun h => left h)

theorem clkEnWrite (w : WCtx) (v : Nat) : Statement (.clkEnWrite w v) := of_access rfl (fun h => left h)

theorem clkDivWrite (w : WCtx) (v : Nat) : Statement (.clkDivWrite w v) := of_access rfl (fun h => left h)

theorem keepPowerUp : Statement .keepPowerUp := of_event rfl

theorem porAssert : Statement .porAssert := of_event rfl

theorem holdNLow (ns : Nat) : Statement (.holdNLow ns) := of_event rfl

theorem rstLe (w : WCtx) : Statement (.rstLe w) := of_access rfl (fun h => h)

theorem rstTwin (w : WCtx) : Statement (.rstTwin w) := of_access rfl (fun h => h)

theorem rstBlock (w : WCtx) : Statement (.rstBlock w) := of_access rfl (fun h => h)

theorem rstHart (w : WCtx) (hart : Nat) : Statement (.rstHart w hart) := of_access rfl (fun h => left h)

theorem resetRelease : Statement .resetRelease := of_event rfl

theorem watchdogExpiry (hart : Nat) : Statement (.watchdogExpiry hart) := of_event rfl

theorem sequenceStart : Statement .sequenceStart := of_event rfl

theorem romStepDone (ok : Bool) (factory : Bool) : Statement (.romStepDone ok factory) := of_event rfl

theorem calibDone (c : CalibResult) : Statement (.calibDone c) := of_event rfl

theorem storeInitDone (failedRows : List Nat) : Statement (.storeInitDone failedRows) := of_event rfl

theorem imageVerified (answers : Bool) (psc : Machine.PscAnswer) : Statement (.imageVerified answers psc) := of_event rfl

theorem roleDecision (peerStarting : Bool) (gateFail : Bool) :
    Statement (.roleDecision peerStarting gateFail) := of_event rfl

theorem bWaitExpiry (gateFail : Bool) : Statement (.bWaitExpiry gateFail) := of_event rfl

theorem rampGroupStart (scFails : List Nat) (sg2Fails : List Nat) :
    Statement (.rampGroupStart scFails sg2Fails) := of_event rfl

theorem railPowerGood (rail : Nat) : Statement (.railPowerGood rail) := of_event rfl

theorem powerGoodTimeout (rail : Nat) : Statement (.powerGoodTimeout rail) := of_event rfl

theorem rampGapExpiry : Statement .rampGapExpiry := of_event rfl

theorem sitesDone (bad : List Nat) : Statement (.sitesDone bad) := of_event rfl

theorem enSet (w : WCtx) (keep : Bool) (src : Bool) (ring : Nat) :
    Statement (.enSet w keep src ring) := of_access rfl (fun h => left h)

theorem enClear (w : WCtx) : Statement (.enClear w) := of_access rfl (fun h => h)

theorem reload (w : WCtx) (keep : Bool) (src : Bool) (ring : Nat) :
    Statement (.reload w keep src ring) := of_access rfl (fun h => left h)

theorem mapCheckDone (psc : Machine.PscAnswer) : Statement (.mapCheckDone psc) := of_event rfl

theorem loaderStall : Statement .loaderStall := of_event rfl

theorem standbyReloadTimeout : Statement .standbyReloadTimeout := of_event rfl

theorem profileReq (w : WCtx) (p : Nat) : Statement (.profileReq w p) := of_access rfl (fun h => left h)

theorem profilePrepDone (frames : Nat) : Statement (.profilePrepDone frames) := of_event rfl

theorem capBmcWrite (w : WCtx) (v : Nat) : Statement (.capBmcWrite w v) := of_access rfl (fun h => left h)

theorem wardenWindowExpiry : Statement .wardenWindowExpiry := of_event rfl

theorem modeReq (w : WCtx) (slot : Nat) (mode : Nat) :
    Statement (.modeReq w slot mode) := of_access rfl (fun h => left (left h))

theorem manual (w : WCtx) (slot : Nat) (v : Nat) : Statement (.manual w slot v) := of_access rfl (fun h => left (left h))

theorem heldWrite (w : WCtx) (off : Nat) (v : Nat) : Statement (.heldWrite w off v) := of_access rfl (fun h => left (left h))

theorem captureArm (w : WCtx) (slot : Nat) (v : Nat) :
    Statement (.captureArm w slot v) := of_access rfl (fun h => left (left h))

theorem amoStart (w : WCtx) (set : Nat) (v : Nat) : Statement (.amoStart w set v) := of_access rfl (fun h => left (left h))

theorem retWrite (w : WCtx) (v : Nat) : Statement (.retWrite w v) := of_access rfl (fun h => left h)

theorem bankWakeDone (bank : Nat) : Statement (.bankWakeDone bank) := of_event rfl

theorem storeWrite (w : WCtx) (off : Nat) (data : StoreData) :
    Statement (.storeWrite w off data) := of_access rfl (fun h => left (left h))

theorem scrubRead (addr : Nat) (err : EccErr) : Statement (.scrubRead addr err) := of_event rfl

theorem fifoPop (w : WCtx) : Statement (.fifoPop w) := of_access rfl (fun h => h)

theorem ack (w : WCtx) : Statement (.ack w) := of_access rfl (fun h => h)

theorem readPairLow (w : WCtx) (off : Nat) (size : Nat) :
    Statement (.readPairLow w off size) := of_access rfl (fun h => left (left h))

theorem registerWrite (w : WCtx) (off : Nat) (size : Nat) (v : Nat) :
    Statement (.registerWrite w off size v) := of_access rfl (fun h => left (left (left h)))

theorem kick (w : WCtx) (hart : Nat) : Statement (.kick w hart) := of_access rfl (fun h => left h)

theorem selfReset (w : WCtx) (hart : Nat) : Statement (.selfReset w hart) := of_access rfl (fun h => left h)

theorem restartCheckDone (hart : Nat) (ok : Bool) : Statement (.restartCheckDone hart ok) := of_event rfl

theorem hartSleep (hart : Nat) : Statement (.hartSleep hart) := of_event rfl

theorem hartWake (hart : Nat) : Statement (.hartWake hart) := of_event rfl

theorem shedWindowEnd (hart : Nat) (load : Nat) : Statement (.shedWindowEnd hart load) := of_event rfl

theorem hb (w : WCtx) : Statement (.hb w) := of_access rfl (fun h => h)

theorem heartbeatLapse : Statement .heartbeatLapse := of_event rfl

theorem ringDoorbell (w : WCtx) (ring : Nat) (v : Nat) :
    Statement (.ringDoorbell w ring v) := of_access rfl (fun h => left (left h))

theorem attach (ring : Nat) : Statement (.attach ring) := of_event rfl

theorem detach (ring : Nat) : Statement (.detach ring) := of_event rfl

theorem getStatus (ring : Nat) : Statement (.getStatus ring) := of_event rfl

theorem ringCreate (ring : Nat) : Statement (.ringCreate ring) := of_event rfl

theorem ringReset (ring : Nat) : Statement (.ringReset ring) := of_event rfl

theorem ringDestroy (ring : Nat) : Statement (.ringDestroy ring) := of_event rfl

theorem loadMap (ring : Nat) : Statement (.loadMap ring) := of_event rfl

theorem mapData (ring : Nat) : Statement (.mapData ring) := of_event rfl

theorem flashMap (ring : Nat) : Statement (.flashMap ring) := of_event rfl

theorem flashImage (ring : Nat) : Statement (.flashImage ring) := of_event rfl

theorem flashData (ring : Nat) : Statement (.flashData ring) := of_event rfl

theorem loadImage (ring : Nat) : Statement (.loadImage ring) := of_event rfl

theorem profile (ring : Nat) : Statement (.profile ring) := of_event rfl

theorem ledgerSnap (ring : Nat) : Statement (.ledgerSnap ring) := of_event rfl

theorem logCtrl (ring : Nat) : Statement (.logCtrl ring) := of_event rfl

theorem traceCtrl (ring : Nat) : Statement (.traceCtrl ring) := of_event rfl

theorem tallyRead (ring : Nat) : Statement (.tallyRead ring) := of_event rfl

theorem unknownOpcode (ring : Nat) : Statement (.unknownOpcode ring) := of_event rfl

theorem doorbell (w : WCtx) (mbox : Nat) (cmd : Nat) :
    Statement (.doorbell w mbox cmd) := of_access rfl (fun h => left (left h))

theorem cancelMailbox (w : WCtx) (mbox : Nat) : Statement (.cancelMailbox w mbox) := of_access rfl (fun h => left h)

theorem mailboxAck (w : WCtx) (mbox : Nat) (code : Nat) (result : Nat) :
    Statement (.mailboxAck w mbox code result) := of_access rfl (fun h => left (left (left h)))

theorem mailboxTimeout (mbox : Nat) : Statement (.mailboxTimeout mbox) := of_event rfl

theorem tallyRecordPlace : Statement .tallyRecordPlace := of_event rfl

theorem submit (w : WCtx) (v : Nat) : Statement (.submit w v) := of_access rfl (fun h => left h)

theorem flush (w : WCtx) : Statement (.flush w) := of_access rfl (fun h => h)

theorem tallyFlushPeriodic : Statement .tallyFlushPeriodic := of_event rfl

theorem tallyFlushDone (ok : Bool) : Statement (.tallyFlushDone ok) := of_event rfl

theorem operatingSecondTick : Statement .operatingSecondTick := of_event rfl

theorem pmbusPollDone (supply : Nat) (p : PollData) : Statement (.pmbusPollDone supply p) := of_event rfl

theorem pmbusPollFail (supply : Nat) : Statement (.pmbusPollFail supply) := of_event rfl

theorem pmbusAlert (port : Nat) (addr : Nat) (status : Nat) : Statement (.pmbusAlert port addr status) := of_event rfl

theorem alertStuck (port : Nat) : Statement (.alertStuck port) := of_event rfl

theorem pmbusMasterChange (unfinished : Option Nat) : Statement (.pmbusMasterChange unfinished) := of_event rfl

theorem setdasa (addr : Nat) : Statement (.setdasa addr) := of_event rfl

theorem setaasa : Statement .setaasa := of_event rfl

theorem entdaa (addr : Nat) : Statement (.entdaa addr) := of_event rfl

theorem setEndpointId (eid : Nat) : Statement (.setEndpointId eid) := of_event rfl

theorem getEndpointId : Statement .getEndpointId := of_event rfl

theorem getMctpVersionSupport : Statement .getMctpVersionSupport := of_event rfl

theorem getMessageTypeSupport : Statement .getMessageTypeSupport := of_event rfl

theorem mctpUnknownType (typ : Nat) : Statement (.mctpUnknownType typ) := of_event rfl

theorem gettid : Statement .gettid := of_event rfl

theorem settid (tid : Nat) : Statement (.settid tid) := of_event rfl

theorem getpldmversion : Statement .getpldmversion := of_event rfl

theorem getpldmtypes : Statement .getpldmtypes := of_event rfl

theorem getpldmcommands (typ : Nat) : Statement (.getpldmcommands typ) := of_event rfl

theorem seteventreceiver (eid : Nat) : Statement (.seteventreceiver eid) := of_event rfl

theorem getpdrrepositoryinfo : Statement .getpdrrepositoryinfo := of_event rfl

theorem getpdr (handle : Nat) : Statement (.getpdr handle) := of_event rfl

theorem getsensorreading (id : Nat) : Statement (.getsensorreading id) := of_event rfl

theorem getstatesensorreadings (id : Nat) : Statement (.getstatesensorreadings id) := of_event rfl

theorem setnumericeffectervalue (id : Nat) (v : Nat) : Statement (.setnumericeffectervalue id v) := of_event rfl

theorem getnumericeffectervalue (id : Nat) : Statement (.getnumericeffectervalue id) := of_event rfl

theorem pldmUnsupported (typ : Nat) (cmd : Nat) : Statement (.pldmUnsupported typ cmd) := of_event rfl

theorem vendorTallyRead (first : Nat) (count : Nat) : Statement (.vendorTallyRead first count) := of_event rfl

theorem faultOpen : Statement .faultOpen := of_event rfl

theorem vendorUnknown (cmd : Nat) : Statement (.vendorUnknown cmd) := of_event rfl

theorem wardenWindowOpen (tokenOk : Bool) (frames : Nat) : Statement (.wardenWindowOpen tokenOk frames) := of_event rfl

theorem meshTwinStatus (p : MeshStatus) : Statement (.meshTwinStatus p) := of_event rfl

theorem slowBad : Statement .slowBad := of_event rfl

theorem crystalDetectorFail (x : Nat) : Statement (.crystalDetectorFail x) := of_event rfl

theorem hostLinkTrained : Statement .hostLinkTrained := of_event rfl

theorem storeRead (w : WCtx) (off : Nat) (size : Nat) (meets : ReadMeets) :
    Statement (.storeRead w off size meets) := of_access rfl (fun h => left (left (left h)))

theorem flashWriteDone (ring : Nat) (answers : Bool) (psc : Machine.PscAnswer) :
    Statement (.flashWriteDone ring answers psc) := of_event rfl

end Sys2Proof.Laws.Operands
end

