-- ==== Sys2Proof/Tests/Slice0.lean ====
section
/-! SUPPORT. The model's own tests: ill-formed commands are refused, the hypotheses of the statements can be met, and single
steps do what the spec's rules and examples say. -/

set_option Elab.async false

open Sys2Proof Sys2Proof.Machine

namespace Sys2Proof.Tests

/-! ## Well-formedness -/

def wf_refuses0 : List Instr :=
  [.plausFault 256,
   .bellwetherEval [⟨2 ^ 20, true⟩],
   .twinOutputPacket ⟨true, [(256, 0, 0)], [], false, none⟩,
   .twinOutputPacket ⟨true, [], [(64, 0)], false, none⟩,
   .twinOutputPacket ⟨true, [], [(0, 256)], false, none⟩,
   .twinOutputPacket ⟨true, [], [], false, some ⟨[(128, 0, 0)], []⟩⟩,
   .twinOutputPacket ⟨true, [], [], false, some ⟨[(0, 8, 0)], []⟩⟩,
   .twinOutputPacket ⟨true, [], [], false, some ⟨[], [(14, 0, 0)]⟩⟩,
   .twinStatusPacket ⟨true, 2 ^ 32, 0, false, 0, 0, 0, true⟩,
   .twinStatusPacket ⟨true, 0, 8, false, 0, 0, 0, true⟩,
   .twinStatusPacket ⟨true, 0, 0, false, 2 ^ 32, 0, 0, true⟩,
   .twinStatusPacket ⟨true, 0, 0, false, 0, 8, 0, true⟩,
   .twinInputPacket ⟨true, [(128, 0, true)], [], [], [], 0⟩,
   .twinInputPacket ⟨true, [(0, 65536, true)], [], [], [], 0⟩,
   .twinInputPacket ⟨true, [], [(14, 0, 0)], [], [], 0⟩,
   .twinInputPacket ⟨true, [], [], [(16, 0)], [], 0⟩,
   .twinInputPacket ⟨true, [], [], [], [(64, 0)], 0⟩,
   .twinInputPacket ⟨true, [], [], [], [], 2 ^ 32⟩,
   .inputDisagreement false 128,
   .twinMirrorPacket ⟨true, 2 ^ 64, .reloadPass⟩,
   .twinMirrorPacket ⟨true, 0, .write (2 ^ 24) 0⟩,
   .twinMirrorPacket ⟨true, 0, .write 0 (2 ^ 32)⟩,
   .twinMirrorPacket ⟨true, 0, .profile 8⟩,
   .twinMirrorPacket ⟨true, 0, .commitAt (2 ^ 64)⟩,
   .twinMirrorPacket ⟨true, 0, .profileAt (2 ^ 64)⟩,
   .twinBulkPacket ⟨true, .slotState 256 0 []⟩,
   .twinBulkPacket ⟨true, .slotState 0 (2 ^ 40) []⟩,
   .twinBulkPacket ⟨true, .slotState 0 0 [0, 0, 0, 0, 0, 0]⟩,
   .twinBulkPacket ⟨true, .pdSnap ⟨[(128, 0, 0)], []⟩⟩,
   .twinBulkPacket ⟨true, .schedule 64 0 true []⟩,
   .twinBulkPacket ⟨true, .schedule 0 256 true []⟩,
   .twinBulkPacket ⟨true, .siteStates [(1536, 0)]⟩,
   .twinBulkPacket ⟨true, .storeBytes (2 ^ 20) [0]⟩,
   .twinBulkPacket ⟨true, .progress 101⟩,
   .twinBulkPacket ⟨true, .epoch (2 ^ 32)⟩,
   .twinBulkPacket ⟨true, .roundDigest (2 ^ 32)⟩,
   .twinBulkPacket ⟨true, .bankDigest 4 0⟩,
   .twinBulkPacket ⟨true, .bankDigest 0 (2 ^ 32)⟩,
   .twinBulkPacket ⟨true, .takeRound [(0, 2 ^ 32)]⟩,
   .twinBulkPacket ⟨true, .golden 256 true⟩]

def wf_refuses1 : List Instr :=
  [.twinBulkPacket ⟨true, .verdict 4096 .pass⟩,
   .twinBulkPacket ⟨true, .loopback 4096⟩,
   .twinBulkPacket ⟨true, .diode 64 0⟩,
   .twinBulkPacket ⟨true, .diode 0 32768⟩,
   .goldenVerdict 256 false false,
   .swap ⟨.psc, 200⟩,
   .swap ⟨.hart 4, 0⟩,
   .twinAttach ⟨.psc, 200⟩,
   .twinDetach ⟨.psc, 200⟩,
   .railSenseConversion 14 0,
   .railSenseConversion 0 (2 ^ 18),
   .sg2Shutdown 14,
   .phaseCurrentSample 128 0 false,
   .phaseCurrentSample 0 (2 ^ 12) false,
   .phaseFenceVerdict 128,
   .phaseDerate 128,
   .shortCircuitTrip 128,
   .scRepeatFence 128,
   .switchingPeriodStart 128,
   .shedDecision 14,
   .pulseSkipEngage 14,
   .restart ⟨.psc, 200⟩ 0,
   .restart ⟨.psc, 0⟩ 14,
   .clearSafe ⟨.psc, 200⟩ 0,
   .clearSafe ⟨.psc, 0⟩ 14,
   .phaseFenceWrite ⟨.psc, 200⟩ 0 false,
   .phaseFenceWrite ⟨.psc, 0⟩ 128 false,
   .cellTrip 832 ⟨0, 0⟩,
   .cellTrip 0 ⟨2 ^ 16, 0⟩,
   .cellTrip 0 ⟨0, 2 ^ 9⟩,
   .cellRelease 832 0 0,
   .cellRelease 0 (2 ^ 16) 0,
   .cellRelease 0 0 (2 ^ 9),
   .accountingFrameEnd 832 0,
   .accountingFrameEnd 0 (2 ^ 16),
   .cellStuck 832,
   .cellOrphan 832,
   .thresh 64 0,
   .thresh 0 (2 ^ 9),
   .config 64 0 0 0 0 0]

def wf_refuses2 : List Instr :=
  [.config 0 16 0 0 0 0,
   .config 0 0 64 0 0 0,
   .config 0 0 0 (2 ^ 9) 0 0,
   .config 0 0 0 0 256 0,
   .config 0 0 0 0 0 256,
   .cellEn 832 false,
   .frameSync (2 ^ 16),
   .test 832,
   .echo 832,
   .delay 832 0,
   .delay 0 256,
   .trip 832,
   .report 832 ⟨false, false, false, 0, 0, 0⟩,
   .report 0 ⟨false, false, false, 256, 0, 0⟩,
   .report 0 ⟨false, false, false, 0, 256, 0⟩,
   .report 0 ⟨false, false, false, 0, 0, 65536⟩,
   .echoReply 832 0,
   .echoReply 0 (2 ^ 16),
   .echoTimeout 832,
   .crookTestWrite ⟨.psc, 200⟩ 0,
   .crookTestWrite ⟨.psc, 0⟩ 1024,
   .intent 64 { seq := 0, fold := 0, start := 0, tileKind := 0, format := 0, opclass := 0, tiles := 0, duration := 0, tag := 0 },
   .intent 0 { seq := 256, fold := 0, start := 0, tileKind := 0, format := 0, opclass := 0, tiles := 0, duration := 0, tag := 0 },
   .intent 0 { seq := 0, fold := 0, start := 0, tileKind := 0, format := 0, opclass := 0, tiles := 0, duration := 0, tag := 0, rsv := 65536 },
   .intent 0 { seq := 0, fold := 0, start := 0, tileKind := 0, format := 0, opclass := 0, tiles := 0, duration := 0, tag := 0, msg := 256 },
   .cancel 64 0 0 ⟨0, 0⟩,
   .cancel 0 256 0 ⟨0, 0⟩,
   .cancel 0 0 256 ⟨0, 0⟩,
   .cancel 0 0 0 ⟨2 ^ 32, 0⟩,
   .cancel 0 0 0 ⟨0, 2 ^ 64⟩,
   .bwClearRails ⟨.psc, 200⟩,
   .bwClearFolds ⟨.psc, 200⟩,
   .reading 1536 0 false ⟨0, 0⟩,
   .reading 0 256 false ⟨0, 0⟩,
   .reading 0 0 false ⟨2 ^ 32, 0⟩,
   .reading 0 0 false ⟨0, 2 ^ 64⟩,
   .siteRefReading 1536 0 ⟨0, 0⟩,
   .siteRefReading 0 256 ⟨0, 0⟩,
   .siteRefReading 0 0 ⟨2 ^ 32, 0⟩,
   .siteRefReading 0 0 ⟨0, 2 ^ 64⟩]

def wf_refuses3 : List Instr :=
  [.sweepClose 128,
   .siteFailed 1536,
   .siteHighFault 1536,
   .diodeFailed 64,
   .hotFence 768,
   .diodeConversion 64 0,
   .diodeConversion 0 32768,
   .diodeConversion 0 (-32769),
   .diodeTrip 64 0,
   .diodeTrip 0 32768,
   .diodeTrip 0 (-32769),
   .hbmTemp 12 0,
   .hbmTemp 0 32768,
   .hbmTemp 0 (-32769),
   .memctrlStale 12,
   .optReport 8 false 0 ⟨0, 0⟩,
   .optReport 0 false (2 ^ 32) ⟨0, 0⟩,
   .optReport 0 false 0 ⟨2 ^ 32, 0⟩,
   .optReport 0 false 0 ⟨0, 2 ^ 64⟩,
   .opticalOver 8,
   .fenceAck 64 { tile := 0, fenced := false, forced := false, stileOn := false },
   .fenceAck 0 { tile := 12, fenced := false, forced := false, stileOn := false },
   .fenceAck 0 { tile := 0, fenced := false, forced := false, stileOn := false, rsv := 2 ^ 32 },
   .routeState 64 { inUse := false, demand := false, demanded := 0 },
   .routeState 0 { inUse := false, demand := false, demanded := 64 },
   .routeState 0 { inUse := false, demand := false, demanded := 0, rsv := 2 ^ 32 },
   .stilePark 64,
   .tileFenceWrite ⟨.psc, 200⟩ 0 false,
   .tileFenceWrite ⟨.psc, 0⟩ 768 false,
   .roundAck 64 ⟨0, 0, 0, 0⟩,
   .roundAck 0 ⟨3, 0, 0, 0⟩,
   .roundAck 0 ⟨0, 2, 0, 0⟩,
   .roundAck 0 ⟨0, 0, 2 ^ 32, 0⟩,
   .roundAck 0 ⟨0, 0, 0, 2 ^ 32⟩,
   .usage ⟨65536, 0, 0, false, 0⟩,
   .usage ⟨0, 256, 0, false, 0⟩,
   .usage ⟨0, 0, 2 ^ 32, false, 0⟩,
   .usage ⟨0, 0, 0, false, 256⟩,
   .usageEnd 64 0 0,
   .usageEnd 0 256 0]

def wf_refuses4 : List Instr :=
  [.usageEnd 0 0 (2 ^ 32),
   .bankReady 4,
   .bankBooking 4,
   .release ⟨.psc, 200⟩ 0,
   .release ⟨.psc, 0⟩ 4,
   .meshCompletion (2 ^ 16) 0,
   .meshRetry (2 ^ 16),
   .probeReply 256 0,
   .probeReply 0 4096,
   .testVerdict 4096 .pass,
   .testTimeLimit 4096,
   .quietExpiry 4096,
   .escalationSevere 4096,
   .windowExpiry 4096,
   .rowPatternTest 4096 ⟨false, []⟩,
   .rowPatternTest 0 ⟨false, [.hart 4]⟩,
   .clearSource ⟨.psc, 200⟩ 0,
   .clearSource ⟨.psc, 0⟩ 4096,
   .runSourceTest ⟨.psc, 200⟩ 0,
   .runSourceTest ⟨.psc, 0⟩ 4096,
   .rejectClr ⟨.psc, 200⟩,
   .faultInjectArm ⟨.psc, 200⟩ false 0 0 0,
   .faultInjectArm ⟨.psc, 0⟩ false 16 0 0,
   .faultInjectArm ⟨.psc, 0⟩ false 0 4096 0,
   .faultInjectArm ⟨.psc, 0⟩ false 0 0 256,
   .proofTestScPeriodic 128 false,
   .proofTestDiodePeriodic 64 false,
   .proofTestSitePeriodic 128,
   .referenceLost 4,
   .crystalAmplitudePass 2,
   .crystalStartTimeout 2,
   .crystalRestart 2,
   .autoReturn 4,
   .clockEdgeLost 6,
   .frequencyFailure 6,
   .domainReturn 6,
   .domainSwitchDone 6 0,
   .forcedStop 6,
   .go ⟨.psc, 200⟩ 0,
   .go ⟨.psc, 0⟩ 8]

def wf_refuses5 : List Instr :=
  [.clkEnWrite ⟨.psc, 200⟩ 0,
   .clkEnWrite ⟨.psc, 0⟩ (2 ^ 32),
   .clkDivWrite ⟨.psc, 200⟩ 0,
   .clkDivWrite ⟨.psc, 0⟩ (2 ^ 32),
   .rstLe ⟨.psc, 200⟩,
   .rstTwin ⟨.psc, 200⟩,
   .rstBlock ⟨.psc, 200⟩,
   .rstHart ⟨.psc, 200⟩ 0,
   .rstHart ⟨.psc, 0⟩ 4,
   .watchdogExpiry 4,
   .calibDone ⟨[6], [], false, [], [], []⟩,
   .calibDone ⟨[], [6], false, [], [], []⟩,
   .calibDone ⟨[], [], false, [128], [], []⟩,
   .calibDone ⟨[], [], false, [], [14], []⟩,
   .calibDone ⟨[], [], false, [], [], [64]⟩,
   .storeInitDone [4096],
   .rampGroupStart [128] [],
   .rampGroupStart [] [14],
   .railPowerGood 14,
   .powerGoodTimeout 14,
   .sitesDone [1536],
   .enSet ⟨.psc, 200⟩ false false 0,
   .enSet ⟨.psc, 0⟩ false false 64,
   .enClear ⟨.psc, 200⟩,
   .reload ⟨.psc, 200⟩ false false 0,
   .reload ⟨.psc, 0⟩ false false 64,
   .profileReq ⟨.psc, 200⟩ 0,
   .profileReq ⟨.psc, 0⟩ 8,
   .profilePrepDone (2 ^ 24),
   .capBmcWrite ⟨.psc, 200⟩ 0,
   .capBmcWrite ⟨.psc, 0⟩ (2 ^ 24),
   .modeReq ⟨.psc, 200⟩ 0 0,
   .modeReq ⟨.psc, 0⟩ 256 0,
   .modeReq ⟨.psc, 0⟩ 0 4,
   .manual ⟨.psc, 200⟩ 0 0,
   .manual ⟨.psc, 0⟩ 256 0,
   .manual ⟨.psc, 0⟩ 0 (2 ^ 16),
   .heldWrite ⟨.psc, 200⟩ 0 0,
   .heldWrite ⟨.psc, 0⟩ (2 ^ 24) 0,
   .heldWrite ⟨.psc, 0⟩ 0 (2 ^ 32)]

def wf_refuses6 : List Instr :=
  [.captureArm ⟨.psc, 200⟩ 0 0,
   .captureArm ⟨.psc, 0⟩ 256 0,
   .captureArm ⟨.psc, 0⟩ 0 (2 ^ 32),
   .amoStart ⟨.psc, 200⟩ 0 0,
   .amoStart ⟨.psc, 0⟩ 5 0,
   .amoStart ⟨.psc, 0⟩ 0 (2 ^ 32),
   .retWrite ⟨.psc, 200⟩ 0,
   .retWrite ⟨.psc, 0⟩ (2 ^ 32),
   .bankWakeDone 16,
   .storeWrite ⟨.psc, 200⟩ 0 ⟨[], none⟩,
   .storeWrite ⟨.psc, 0⟩ (2 ^ 24) ⟨[], none⟩,
   .storeWrite ⟨.psc, 0⟩ 0 ⟨List.replicate 65 0, none⟩,
   .storeWrite ⟨.psc, 0⟩ 0 ⟨[], some (.hart 4)⟩,
   .scrubRead (2 ^ 20) .clean,
   .fifoPop ⟨.psc, 200⟩,
   .ack ⟨.psc, 200⟩,
   .readPairLow ⟨.psc, 200⟩ 0 0,
   .readPairLow ⟨.psc, 0⟩ (2 ^ 24) 0,
   .readPairLow ⟨.psc, 0⟩ 0 65,
   .registerWrite ⟨.psc, 200⟩ 0 0 0,
   .registerWrite ⟨.psc, 0⟩ (2 ^ 24) 0 0,
   .registerWrite ⟨.psc, 0⟩ 0 65 0,
   .registerWrite ⟨.psc, 0⟩ 0 0 1,
   .kick ⟨.psc, 200⟩ 0,
   .kick ⟨.psc, 0⟩ 4,
   .selfReset ⟨.psc, 200⟩ 0,
   .selfReset ⟨.psc, 0⟩ 4,
   .restartCheckDone 4 false,
   .hartSleep 4,
   .hartWake 4,
   .shedWindowEnd 4 0,
   .shedWindowEnd 0 101,
   .hb ⟨.psc, 200⟩,
   .ringDoorbell ⟨.psc, 200⟩ 0 0,
   .ringDoorbell ⟨.psc, 0⟩ 64 0,
   .ringDoorbell ⟨.psc, 0⟩ 0 (2 ^ 32),
   .attach 64,
   .detach 64,
   .getStatus 64,
   .ringCreate 64]

def wf_refuses7 : List Instr :=
  [.ringReset 64,
   .ringDestroy 64,
   .loadMap 64,
   .mapData 64,
   .flashMap 64,
   .flashImage 64,
   .flashData 64,
   .loadImage 64,
   .profile 64,
   .ledgerSnap 64,
   .logCtrl 64,
   .traceCtrl 64,
   .tallyRead 64,
   .unknownOpcode 64,
   .doorbell ⟨.psc, 200⟩ 0 0,
   .doorbell ⟨.psc, 0⟩ 16 0,
   .doorbell ⟨.psc, 0⟩ 0 256,
   .cancelMailbox ⟨.psc, 200⟩ 0,
   .cancelMailbox ⟨.psc, 0⟩ 16,
   .mailboxAck ⟨.psc, 200⟩ 0 0 0,
   .mailboxAck ⟨.psc, 0⟩ 16 0 0,
   .mailboxAck ⟨.psc, 0⟩ 0 256 0,
   .mailboxAck ⟨.psc, 0⟩ 0 0 (2 ^ 24),
   .mailboxTimeout 16,
   .submit ⟨.psc, 200⟩ 0,
   .submit ⟨.psc, 0⟩ (2 ^ 32),
   .flush ⟨.psc, 200⟩,
   .pmbusPollDone 16 ⟨none, none, none, none, none, none⟩,
   .pmbusPollDone 0 ⟨some 65536, none, none, none, none, none⟩,
   .pmbusPollDone 0 ⟨none, some 65536, none, none, none, none⟩,
   .pmbusPollDone 0 ⟨none, none, some 65536, none, none, none⟩,
   .pmbusPollDone 0 ⟨none, none, none, some 256, none, none⟩,
   .pmbusPollDone 0 ⟨none, none, none, none, some 65536, none⟩,
   .pmbusPollDone 0 ⟨none, none, none, none, none, some 65536⟩,
   .pmbusPollFail 16,
   .pmbusAlert 2 0 0,
   .pmbusAlert 0 128 0,
   .pmbusAlert 0 0 (2 ^ 16),
   .alertStuck 2,
   .pmbusMasterChange (some 16)]

def wf_refuses8 : List Instr :=
  [.setdasa 128,
   .entdaa 128,
   .setEndpointId 256,
   .mctpUnknownType 128,
   .settid 256,
   .getpldmcommands 64,
   .seteventreceiver 256,
   .getpdr (2 ^ 32),
   .getsensorreading (2 ^ 16),
   .getstatesensorreadings (2 ^ 16),
   .setnumericeffectervalue (2 ^ 16) 0,
   .setnumericeffectervalue 0 (2 ^ 32),
   .getnumericeffectervalue (2 ^ 16),
   .pldmUnsupported 64 0,
   .pldmUnsupported 0 256,
   .vendorTallyRead (2 ^ 64) 0,
   .vendorTallyRead 0 (2 ^ 16),
   .vendorUnknown 256,
   .wardenWindowOpen false (2 ^ 24),
   .meshTwinStatus ⟨8, false, 0⟩,
   .meshTwinStatus ⟨0, false, 2 ^ 32⟩,
   .crystalDetectorFail 2,
   .storeRead ⟨.psc, 200⟩ 0 0 (.ecc .clean),
   .storeRead ⟨.psc, 0⟩ (2 ^ 24) 0 (.ecc .clean),
   .storeRead ⟨.psc, 0⟩ 0 65 (.ecc .clean),
   .storeRead ⟨.psc, 0⟩ 0 0 (.write 1),
   .flashWriteDone 64 false ⟨true, 0⟩,
   .inputDisagreement true 14]

/-- One ill-formed command for each check of an operand: each is refused. -/
theorem test_wf_refuses :
    (wf_refuses0 ++ wf_refuses1 ++ wf_refuses2 ++ wf_refuses3 ++ wf_refuses4 ++ wf_refuses5 ++ wf_refuses6 ++ wf_refuses7 ++ wf_refuses8).all (fun i => i.wf == false) = true := by decide +kernel

def wf_takes0 : List Instr :=
  [.frameBoundary ⟨0, false⟩,
   .loopWindow,
   .plausFault 0,
   .bellwetherEval [],
   .earlyAddCheck,
   .outputStage,
   .twinOutputPacket ⟨true, [], [], false, none⟩,
   .twinStatusPacket ⟨true, 0, 0, false, 0, 0, 0, true⟩,
   .twinInputPacket ⟨true, [], [], [], [], 0⟩,
   .inputNotWhole,
   .inputDisagreement false 0,
   .twinMirrorPacket ⟨true, 0, .reloadPass⟩,
   .twinBulkPacket ⟨true, .progress 0⟩,
   .catchUpComplete,
   .cleanFramesReached,
   .peerReadyLapse,
   .linkDown,
   .peerSilent,
   .keeperGateDrop .reset,
   .gatePeerFall,
   .gateRaise,
   .gateResample,
   .goldenVerdict 0 false false,
   .swap ⟨.psc, 0⟩,
   .twinAttach ⟨.psc, 0⟩,
   .twinDetach ⟨.psc, 0⟩,
   .railSenseConversion 0 0,
   .sg2Shutdown 0,
   .vrefStep,
   .phaseCurrentSample 0 0 false,
   .phaseFenceVerdict 0,
   .phaseDerate 0,
   .shortCircuitTrip 0,
   .scRepeatFence 0,
   .switchingPeriodStart 0,
   .shedDecision 0,
   .pulseSkipEngage 0,
   .restart ⟨.psc, 0⟩ 0,
   .clearSafe ⟨.psc, 0⟩ 0,
   .phaseFenceWrite ⟨.psc, 0⟩ 0 false]

def wf_takes1 : List Instr :=
  [.cellTrip 0 ⟨0, 0⟩,
   .cellRelease 0 0 0,
   .accountingFrameEnd 0 0,
   .cellStuck 0,
   .cellOrphan 0,
   .thresh 0 0,
   .config 0 0 0 0 0 0,
   .cellEn 0 false,
   .frameSync 0,
   .test 0,
   .echo 0,
   .delay 0 0,
   .trip 0,
   .report 0 ⟨false, false, false, 0, 0, 0⟩,
   .echoReply 0 0,
   .echoTimeout 0,
   .frameSyncPeriod,
   .crookTestWrite ⟨.psc, 0⟩ 0,
   .intent 0 { seq := 0, fold := 0, start := 0, tileKind := 0, format := 0, opclass := 0, tiles := 0, duration := 0, tag := 0 },
   .cancel 0 0 0 ⟨0, 0⟩,
   .bwClearRails ⟨.psc, 0⟩,
   .bwClearFolds ⟨.psc, 0⟩,
   .reading 0 0 false ⟨0, 0⟩,
   .siteRefReading 0 0 ⟨0, 0⟩,
   .sweepClose 0,
   .siteFailed 0,
   .siteHighFault 0,
   .diodeFailed 0,
   .hotFence 0,
   .diodeConversion 0 0,
   .diodeTrip 0 0,
   .thermtripNetLow,
   .hbmTemp 0 0,
   .memctrlStale 0,
   .optReport 0 false 0 ⟨0, 0⟩,
   .opticalOver 0,
   .fenceAck 0 { tile := 0, fenced := false, forced := false, stileOn := false },
   .routeState 0 { inUse := false, demand := false, demanded := 0 },
   .stilePark 0,
   .tileFenceWrite ⟨.psc, 0⟩ 0 false]

def wf_takes2 : List Instr :=
  [.grantRound,
   .roundAck 0 ⟨0, 0, 0, 0⟩,
   .ledgerPeriodStart,
   .usage ⟨0, 0, 0, false, 0⟩,
   .usageEnd 0 0 0,
   .bankReady 0,
   .bankBooking 0,
   .release ⟨.psc, 0⟩ 0,
   .meshCompletion 0 0,
   .meshRetry 0,
   .creditReturn 0,
   .probeReply 0 0,
   .testVerdict 0 .pass,
   .testTimeLimit 0,
   .quietExpiry 0,
   .escalationSevere 0,
   .windowExpiry 0,
   .rowPatternTest 0 ⟨false, []⟩,
   .clearSource ⟨.psc, 0⟩ 0,
   .runSourceTest ⟨.psc, 0⟩ 0,
   .rejectClr ⟨.psc, 0⟩,
   .faultInjectArm ⟨.psc, 0⟩ false 0 0 0,
   .proofTestScPeriodic 0 false,
   .proofTestDiodePeriodic 0 false,
   .proofTestSitePeriodic 0,
   .referenceLost 0,
   .relockDone,
   .crystalAmplitudePass 0,
   .crystalStartTimeout 0,
   .crystalRestart 0,
   .autoReturn 0,
   .clockEdgeLost 0,
   .frequencyFailure 0,
   .frcBad,
   .domainReturn 0,
   .domainSwitchDone 0 0,
   .forcedStop 0,
   .go ⟨.psc, 0⟩ 0,
   .clkEnWrite ⟨.psc, 0⟩ 0,
   .clkDivWrite ⟨.psc, 0⟩ 0]

def wf_takes3 : List Instr :=
  [.keepPowerUp,
   .porAssert,
   .holdNLow 0,
   .rstLe ⟨.psc, 0⟩,
   .rstTwin ⟨.psc, 0⟩,
   .rstBlock ⟨.psc, 0⟩,
   .rstHart ⟨.psc, 0⟩ 0,
   .resetRelease,
   .watchdogExpiry 0,
   .sequenceStart,
   .romStepDone false false,
   .calibDone ⟨[], [], false, [], [], []⟩,
   .storeInitDone [],
   .imageVerified false ⟨true, 0⟩,
   .roleDecision false false,
   .bWaitExpiry false,
   .rampGroupStart [] [],
   .railPowerGood 0,
   .powerGoodTimeout 0,
   .rampGapExpiry,
   .sitesDone [],
   .enSet ⟨.psc, 0⟩ false false 0,
   .enClear ⟨.psc, 0⟩,
   .reload ⟨.psc, 0⟩ false false 0,
   .mapCheckDone ⟨true, 0⟩,
   .loaderStall,
   .standbyReloadTimeout,
   .profileReq ⟨.psc, 0⟩ 0,
   .profilePrepDone 0,
   .capBmcWrite ⟨.psc, 0⟩ 0,
   .wardenWindowExpiry,
   .modeReq ⟨.psc, 0⟩ 0 0,
   .manual ⟨.psc, 0⟩ 0 0,
   .heldWrite ⟨.psc, 0⟩ 0 0,
   .captureArm ⟨.psc, 0⟩ 0 0,
   .amoStart ⟨.psc, 0⟩ 0 0,
   .retWrite ⟨.psc, 0⟩ 0,
   .bankWakeDone 0,
   .storeWrite ⟨.psc, 0⟩ 0 ⟨[], none⟩,
   .scrubRead 0 .clean]

def wf_takes4 : List Instr :=
  [.fifoPop ⟨.psc, 0⟩,
   .ack ⟨.psc, 0⟩,
   .readPairLow ⟨.psc, 0⟩ 0 0,
   .registerWrite ⟨.psc, 0⟩ 0 0 0,
   .kick ⟨.psc, 0⟩ 0,
   .selfReset ⟨.psc, 0⟩ 0,
   .restartCheckDone 0 false,
   .hartSleep 0,
   .hartWake 0,
   .shedWindowEnd 0 0,
   .hb ⟨.psc, 0⟩,
   .heartbeatLapse,
   .ringDoorbell ⟨.psc, 0⟩ 0 0,
   .attach 0,
   .detach 0,
   .getStatus 0,
   .ringCreate 0,
   .ringReset 0,
   .ringDestroy 0,
   .loadMap 0,
   .mapData 0,
   .flashMap 0,
   .flashImage 0,
   .flashData 0,
   .loadImage 0,
   .profile 0,
   .ledgerSnap 0,
   .logCtrl 0,
   .traceCtrl 0,
   .tallyRead 0,
   .unknownOpcode 0,
   .doorbell ⟨.psc, 0⟩ 0 0,
   .cancelMailbox ⟨.psc, 0⟩ 0,
   .mailboxAck ⟨.psc, 0⟩ 0 0 0,
   .mailboxTimeout 0,
   .tallyRecordPlace,
   .submit ⟨.psc, 0⟩ 0,
   .flush ⟨.psc, 0⟩,
   .tallyFlushPeriodic,
   .tallyFlushDone false]

def wf_takes5 : List Instr :=
  [.operatingSecondTick,
   .pmbusPollDone 0 ⟨none, none, none, none, none, none⟩,
   .pmbusPollFail 0,
   .pmbusAlert 0 0 0,
   .alertStuck 0,
   .pmbusMasterChange none,
   .setdasa 0,
   .setaasa,
   .entdaa 0,
   .setEndpointId 0,
   .getEndpointId,
   .getMctpVersionSupport,
   .getMessageTypeSupport,
   .mctpUnknownType 0,
   .gettid,
   .settid 0,
   .getpldmversion,
   .getpldmtypes,
   .getpldmcommands 0,
   .seteventreceiver 0,
   .getpdrrepositoryinfo,
   .getpdr 0,
   .getsensorreading 0,
   .getstatesensorreadings 0,
   .setnumericeffectervalue 0 0,
   .getnumericeffectervalue 0,
   .pldmUnsupported 0 0,
   .vendorTallyRead 0 0,
   .faultOpen,
   .vendorUnknown 0,
   .wardenWindowOpen false 0,
   .meshTwinStatus ⟨0, false, 0⟩,
   .slowBad,
   .crystalDetectorFail 0,
   .hostLinkTrained,
   .storeRead ⟨.psc, 0⟩ 0 0 (.ecc .clean),
   .flashWriteDone 0 false ⟨true, 0⟩]

/-- A well-formed command of every row is taken. -/
theorem test_wf_takes :
    (wf_takes0 ++ wf_takes1 ++ wf_takes2 ++ wf_takes3 ++ wf_takes4 ++ wf_takes5).all (fun i => i.wf == true) = true := by decide +kernel


/-- a state with some fields set -/
def mk (l : List (Fld × Nat × Nat)) (s : State := State.reset) : State := l.foldl (fun t x => t.wr x.1 x.2.1 x.2.2) s

/-! ## A small fold map, written out from the tables of chapter 3 -/

/-- Bytes from numbers. -/
def bytes (l : List Nat) : List Byte := l.map (BitVec.ofNat 8)

/-- A 16-bit and a 32-bit little-endian field. -/
def h16 (v : Nat) : List Byte := toLeBytes 2 v
def h32 (v : Nat) : List Byte := toLeBytes 4 v

/-- TOPOLOGY: rail 8 (m0), SENSE_CH 8, 1,000 kHz, phase 64, MIN_ACTIVE 1, held off (R120). -/
def mapTopology : List Byte :=
  h16 0x0101 ++ h16 32 ++ bytes [8, 8] ++ h16 1000 ++ toLeBytes 16 (2 ^ 64) ++ bytes [1, 0, 0, 0, 0, 0, 0, 0]

/-- SETPOINTS: every code of rail 8 is 180, 0.900 V (R127, R128). -/
def mapSetpoints : List Byte :=
  h16 0x0201 ++ h16 72 ++ bytes [8, 0, 0, 0] ++ ((List.range 31).flatMap (fun _ => h16 180)) ++ h16 0

/-- LOOPS: slot 0, OPEN, divider 1, START 100, one OUTPUT stage, captured only (R132, R175, R176). -/
def mapLoops : List Byte :=
  h16 0x0301 ++ h16 28 ++ bytes [0, 0, 0xF0, 0] ++ h16 100 ++ bytes [1, 0, 0, 0] ++ h16 0 ++ h16 1 ++ h16 7
    ++ bytes [0x10, 0, 0, 0] ++ h32 1

/-- HURDLES: the package and rail 8 (R144). -/
def mapHurdles : List Byte :=
  (h16 0x0501 ++ h16 24 ++ h32 1000000 ++ h32 1500000 ++ h16 20 ++ h16 60 ++ h32 5000 ++ h32 4000)
    ++ (h16 0x0502 ++ h16 12 ++ bytes [8, 40] ++ h16 0 ++ h16 600 ++ h16 800)

/-- BANDS: controller 0 on its own stack's reading (R146). -/
def mapBands : List Byte := h16 0x0602 ++ h16 8 ++ bytes [0, 0, 0, 2]

/-- PROFILES: profile 0 (R147). -/
def mapProfiles : List Byte := h16 0x0701 ++ h16 24 ++ bytes [0, 0, 0, 0] ++ bytes (List.replicate 16 0)

/-- GRANTS: sixteen classes of weight 1 (R151). -/
def mapGrants : List Byte := h16 0x0801 ++ h16 68 ++ (List.range 16).flatMap (fun _ => bytes [1, 0, 0, 0])

/-- SAFE: rail 8, group 0, code 160, 100 mV per ms (R155). -/
def mapSafe : List Byte :=
  h16 0x0901 ++ h16 16 ++ bytes [8, 0] ++ h16 160 ++ h16 100 ++ h16 0 ++ h16 0 ++ h16 0

/-- SIGNATURE: key slot 0 (R116). -/
def mapSign : List Byte := h16 0x0A01 ++ h16 104 ++ bytes (List.replicate 100 0)

/-- The sections of the map, in the order of R103. -/
def mapSections : List (List Byte) :=
  [mapTopology, mapSetpoints, mapLoops, [], mapHurdles, mapBands, mapProfiles, mapGrants, mapSafe, mapSign]

/-- A section with the padding up to the next one (R91). -/
def padded (b : List Byte) : List Byte := b ++ bytes (List.replicate ((16 - b.length % 16) % 16) 0)

/-- The section table (R102): offsets, lengths, CRCs; the SIGNATURE entry carries CRC 0. -/
def mapTable : Nat → Nat → List (List Byte) → List Byte
  | _, _, [] => []
  | k, off, b :: t =>
    h16 k ++ h16 0 ++ h32 off ++ h32 b.length ++ h32 (if k = 10 then 0 else crc32c b) ++ mapTable (k + 1) (off + (padded b).length) t

/-- The header up to its CRC (R95): ZK-4 in the OX4, MAP_ID 7, MAP_REV 3, one profile. -/
def mapHead : List Byte :=
  bytes [0x46, 0x4D, 0x41, 0x50] ++ h16 1 ++ h16 0 ++ h32 (0xE0 + ((mapSections.take 9).flatMap padded).length + 104)
    ++ bytes [4, 4] ++ h16 10 ++ h32 7 ++ h32 3 ++ h32 0 ++ h32 0 ++ bytes [0, 1] ++ bytes (List.replicate 26 0)

/-- The whole map. -/
def mapBytes : List Byte :=
  mapHead ++ h32 (crc32c mapHead) ++ mapTable 1 0xE0 mapSections ++ (mapSections.take 9).flatMap padded ++ mapSign

/-! ## A small Drover image, written out from the tables of chapter 15 -/

/-- The header up to its CRC: 308 bytes, both configurations, version 1.0.5, every hart at address 16, one segment, interface
1.0, signature at 0xD0 (R579). -/
def imageHead : List Byte :=
  bytes [0x44, 0x52, 0x56, 0x52] ++ h16 1 ++ h16 0 ++ h32 308 ++ bytes [3, 0, 0, 0] ++ h32 0x01000005 ++ h32 9
    ++ h32 16 ++ h32 16 ++ h32 16 ++ h32 16 ++ h16 1 ++ h16 0x0100 ++ h32 0 ++ h32 0xD0 ++ bytes (List.replicate 72 0)

/-- The image: one CODE segment of 64 bytes for all four harts, at Store address 0 (R580). -/
def imageBytes : List Byte :=
  imageHead ++ h32 (crc32c imageHead) ++ h32 0x90 ++ h32 0 ++ h32 64 ++ h32 0x2F ++ bytes (List.replicate 64 0x13)
    ++ bytes (List.replicate 100 0)

/-! ## Single steps -/

/-- A map is accepted as it stands; with a byte of its header changed its CRC no longer matches (R95, R97). -/
theorem test_map_is_accepted : checkMap true ⟨true, 0⟩ none mapBytes = none := by decide +kernel

theorem test_map_crc_is_checked : (checkMap true ⟨true, 0⟩ none (mapBytes.set 40 1)).isSome = true := by decide +kernel

/-- What holds after a command that goes on. -/
def after (c : Instr) (s : State) (p : State → Bool) : Bool :=
  match exec c s with
  | .next t => p t
  | _ => false

/-- A block that is clocked, out of reset, at frame 900. -/
def up : State := mk [(R.CLK_EN_EN, 0, 0x7FF), (R.BOOT_STEP, 0, 8), (H.RST_SEQ, 0, 0), (H.TOP_FRAME_STARTED, 0, 1),
  (R.FRAME_COUNT, 0, 900)]

/-- 115.0 degrees are 1,840 sixteenths: at that level the latch is set, one below it is not (R343). -/
theorem test_diode_trips_at_115 : after (.diodeTrip 3 1840) up (fun t => t.bit R.TH_TRIP_LATCHED 0) = true := by decide +kernel

theorem test_diode_below_115 : after (.diodeTrip 3 1839) up (fun t => t.bit R.TH_TRIP_LATCHED 0) = false := by decide +kernel

/-- The frame counter is 64 bits wide and wraps (R86). -/
theorem test_frame_counter_wraps :
    after (.frameBoundary ⟨500, false⟩) (mk [(R.FRAME_COUNT, 0, 2 ^ 64 - 1)] up) (fun t => t.frame == 0) = true := by decide +kernel

/-- por_n low stops every frame domain (R491). -/
theorem test_no_frames_in_reset : after (.frameBoundary ⟨500, false⟩) (mk [(H.RST_SEQ, 0, 1)] up) (fun t => t.frame == 900) = true := by
  decide +kernel

/-- A high word read after its low word is the one latched, although the counter has moved since (R11). -/
theorem test_shadow_is_read :
    after (.readPairLow ⟨.host, 0⟩ 0x100024 4) { up with shadows := [(.host, 0x100020, 5)] } (fun t => t.resp == .data 5) = true := by
  decide +kernel

/-- Another port's read takes the live word (R11). -/
theorem test_shadow_is_per_port :
    after (.readPairLow ⟨.psc, 0⟩ 0x100024 4) { up with shadows := [(.host, 0x100020, 5)] } (fun t => t.resp == .data 0) = true := by
  decide +kernel

/-- The host is no Warden: a SWAP of its is refused with CAUSE 0 and counted (R465, R542). -/
theorem test_host_may_not_swap :
    after (.swap ⟨.host, 0⟩) up (fun t => t.resp == .refused 0 && t.rd R.FLT_REJECT_COUNT 0 == 1) = true := by decide +kernel

/-- A change that reaches the bus in the last 20 ns of a frame waits for the boundary after the next (R80). -/
theorem test_late_write_is_deferred :
    after (.clearSafe ⟨.psc, 192⟩ 3) up (fun t => t.staged == [⟨1, .clearSafe 3⟩] && t.rd R.FRAME_STAT_DEFER_CNT 0 == 1) = true := by
  decide +kernel

/-- A LE reset asserts at the boundary, and not before: it opens the slots and leaves the counter going (R15, R491, R495). -/
theorem test_le_reset :
    after (.frameBoundary ⟨500, false⟩) (mk [(R.LE_SLOT_MODE_MODE, 7, 1)] { up with staged := [⟨0, .reset 0⟩] }) (fun t =>
      t.rd R.LE_SLOT_MODE_MODE 7 == 0 && t.rd R.RST_CAUSE_LE_CMD 0 == 1 && t.frame == 901) = true := by
  decide +kernel

/-- A store of four bytes reads back little-endian (R549). -/
theorem test_store_is_little_endian :
    after (.storeWrite ⟨.hart 0, 0⟩ 0x40 ⟨(bytes [1, 2, 3, 4]), none⟩) up (fun t => t.ld 0x40 4 == 0x04030201) = true := by decide +kernel

/-- A capture sample that nothing has written is a free value, one use of which is counted (R214). -/
theorem test_unwritten_sample_is_free :
    after (.readPairLow ⟨.host, 0⟩ 0x300000 4) up (fun t => t.free == 1) = true := by decide +kernel

end Sys2Proof.Tests

/-! ## The hypotheses of the statements are met -/

namespace Sys2Proof.Tests.P05

def wc : WCtx := ⟨.psc, 0⟩
def g0 := mk [(R.CLK_EN_EN,0,0x7ff),(R.TH_TRIP_LATCHED,0,1),(R.TH_TRIP_NET_LOW,0,1),(R.PD_RAIL_STAT_OFF_LATCH,3,1),(R.PD_RAIL_CFG_ENABLE,3,1),(R.FLT_REJECT_COUNT,0,2^32-2)]

/-- The hypotheses of StepRunsTheFrontCommand are met. -/
theorem witness_StepRunsTheFrontCommand :
    ∃ (s : State) (c : Instr) (rest : List Instr), s.pending = c :: rest :=
  ⟨({State.reset with pending := [.relockDone, .slowBad]}), .relockDone, [.slowBad], rfl⟩

/-- The hypotheses of EmptyQueueIdles are met. -/
theorem witness_EmptyQueueIdles :
    ∃ (s : State), s.pending = [] :=
  ⟨State.reset, by decide +kernel⟩

/-- The hypotheses of EveryStepKeepsTheInvariant are met. -/
theorem witness_EveryStepKeepsTheInvariant :
    ∃ (s : State) (t : State), s.Inv ∧ step s = .next t :=
  ⟨State.reset, State.reset, ⟨by decide, rfl⟩⟩

/-- The hypotheses of TripLatchIsHeld are met, clause by clause. -/
theorem witness_TripLatchIsHeld :
    (∃ (c : Instr), c ≠ .keepPowerUp)
    ∧ (∃ (s : State) (w : WCtx) (r : Nat), s.bit R.TH_TRIP_LATCHED 0 = true ∧ Writable s w R.PD_RAIL_CMD_RESTART r) :=
  ⟨⟨.porAssert, by decide +kernel⟩,
    ⟨g0, wc, 3, by decide +kernel⟩⟩

/-- The hypotheses of SettingsMoveOnlyAtBoundaries are met. -/
theorem witness_SettingsMoveOnlyAtBoundaries :
    ∃ (c : Instr), ((∀ n b, c ≠ .frameBoundary ⟨n, b⟩)) ∧ c ≠ .keepPowerUp ∧ c ≠ .porAssert :=
  ⟨(.registerWrite wc 0x1D0004 4 3), ⟨fun _ _ h => (by cases h), by decide, by decide⟩⟩

/-- The hypotheses of ReservedSpaceReadsZero are met, clause by clause. -/
theorem witness_ReservedSpaceReadsZero :
    (∃ (s : State) (off : Nat) (size : Nat), storeSize ≤ off ∧ off < 2 ^ 24 ∧ ((off < 0x300000 ∨ 0x400000 ≤ off)) ∧ s.gated off = false ∧ regServed false off size = true ∧ size ≤ 4 ∧ s.reservedWord (off / 4 * 4) = true)
    ∧ (∃ (s : State) (off : Nat), storeSize ≤ off ∧ off < 2 ^ 24 ∧ ((off < 0x300000 ∨ 0x400000 ≤ off)) ∧ off % 8 = 0 ∧ s.gated off = false ∧ s.reservedWord off = true ∧ s.reservedWord (off + 4) = true)
    ∧ (∃ (s : State) (off : Nat) (size : Nat), storeSize ≤ off ∧ off < 2 ^ 24 ∧ ((off < 0x300000 ∨ 0x400000 ≤ off)) ∧ s.gated off = false ∧ regServed true off size = true ∧ size ≤ 4 ∧ s.reservedWord (off / 4 * 4) = true)
    ∧ (∃ (s : State) (off : Nat), storeSize ≤ off ∧ off < 2 ^ 24 ∧ ((off < 0x300000 ∨ 0x400000 ≤ off)) ∧ off % 8 = 0 ∧ s.gated off = false ∧ s.reservedWord off = true ∧ s.reservedWord (off + 4) = true) :=
  ⟨⟨g0, 0x1000FE, 2, by decide +kernel⟩,
    ⟨g0, 0xFFFFF8, by decide +kernel⟩,
    ⟨g0, 0xFFFFFE, 2, by decide +kernel⟩,
    ⟨g0, 0xFFFFF8, by decide +kernel⟩⟩

/-- The hypotheses of PairReadsTakeTheShadow are met, clause by clause. -/
theorem witness_PairReadsTakeTheShadow :
    (∃ (s : State) (off : Nat), storeSize ≤ off ∧ off < 0x300000 ∧ pairLow off = true ∧ s.gated off = false)
    ∧ (∃ (s : State) (w : WCtx) (off : Nat), storeSize ≤ off ∧ off < 0x300000 ∧ pairLow off = true ∧ s.gated (off + 4) = false ∧ ((∀ x ∈ s.shadows, x.1 ≠ w.req ∨ x.2.1 ≠ off))) :=
  ⟨⟨g0, 0x100020, by decide +kernel⟩,
    ⟨g0, wc, 0x1B2010, by decide +kernel⟩⟩

end Sys2Proof.Tests.P05

namespace Sys2Proof.Tests.P10

def w1 : State := mk [(H.CROOK_C_EN, 5, 1), (H.CROOK_C_THR, 5, 100), (H.CROOK_C_MAXS, 5, 30), (H.CROOK_C_HYST, 5, 2)]
def w2 : State := mk [(H.CROOK_C_EN, 5, 1), (H.CROOK_C_TRIPPED, 5, 1), (H.CROOK_C_TSTART, 5, 1), (H.CROOK_C_THR, 5, 100), (H.CROOK_C_MAXS, 5, 30), (H.CROOK_C_HYST, 5, 2), (H.CROOK_C_ACC, 5, 70), (H.CROOK_C_HOLD,5,9),(H.CROOK_C_STUCKF,5,3),(H.CROOK_C_SFR,5,3)]
def w3 : State := mk [(H.CROOK_C_TRIPS, 5, 1), (H.CROOK_C_NOSYNC, 5, 128), (H.CROOK_C_FALLB, 5, 44), (H.CROOK_C_THR, 5, 100), (H.CROOK_C_OTHR,5,1),(H.CROOK_C_OSYNC,5,1),(H.CROOK_C_ORPH,5,1)] w1
def w4 : State := mk [(R.PD_RAIL_CFG_COUNT, 0, 4), (R.TWIN_STATUS_ROLE, 0, 4), (R.RUN_STATE, 0, 2), (H.CROOK_ECHO_PEND, 5, 1), (H.CROOK_ECHO_AGE, 5, 16), (H.CROOK_SYNC_AGE, 0, 64), (H.CROOK_FOLD_MAXC, 0, 7)] w1
def w5 : State := mk [(R.PD_PH_STAT_STATE, 0, 2), (R.PD_PH_STAT_STATE, 1, 3), (R.PD_RAIL_MASK_MASK, 0, 3)] w4

/-- The hypotheses of CellTripsAndReleases are met, clause by clause. -/
theorem witness_CellTripsAndReleases :
    (∃ (s : State) (cell : Nat) (code : Nat), s.cellIn cell = true ∧ s.bit H.CROOK_C_EN cell = true ∧ s.bit H.CROOK_C_TRIPPED cell = false ∧ code < s.cellThr cell ∧ s.stretched cell = false)
    ∧ (∃ (s : State) (cell : Nat) (edges : Nat) (code : Nat), s.cellIn cell = true ∧ s.bit H.CROOK_C_TRIPPED cell = true ∧ s.cellThr cell + 2 * s.rd H.CROOK_C_HYST cell ≤ code ∧ max 1 (s.rd H.CROOK_C_HOLD cell) ≤ s.rd H.CROOK_C_KEDGE cell + edges)
    ∧ (∃ (s : State) (cell : Nat) (code : Nat), code < s.cellThr cell + 2 * s.rd H.CROOK_C_HYST cell)
    ∧ (∃ (s : State) (cell : Nat) (edges : Nat), (s.cellIn cell = false ∨ s.bit H.CROOK_C_TRIPPED cell = false
      ∨ s.rd H.CROOK_C_KEDGE cell + edges < max 1 (s.rd H.CROOK_C_HOLD cell)))
    ∧ (∃ (s : State) (cell : Nat) (code : Nat), s.cellIn cell = true ∧ s.bit H.CROOK_C_EN cell = true ∧ s.bit H.CROOK_C_TRIPPED cell = false ∧ code < s.cellThr cell ∧ s.stretched cell = true)
    ∧ (∃ (s : State) (cell : Nat) (code : Nat), (s.cellIn cell = false ∨ s.bit H.CROOK_C_EN cell = false ∨ s.bit H.CROOK_C_TRIPPED cell = true ∨ s.cellThr cell ≤ code)) :=
  ⟨⟨w1, 5, 90, by decide +kernel⟩,
    ⟨w2, 5, 13, 104, by decide +kernel⟩,
    ⟨w2, 5, 103, by decide +kernel⟩,
    ⟨w2, 5, 8, by decide +kernel⟩,
    ⟨(mk [(H.CROOK_C_EN,770,1),(H.CROOK_C_TRIPPED,771,1),(H.CROOK_C_THR,770,100),(H.CROOK_C_MAXS,770,50),(H.CROOK_C_ACC,770,60)]), 770, 90, by decide +kernel⟩,
    ⟨w1, 5, 100, by decide +kernel⟩⟩

/-- The hypotheses of CellFrameEndStuckOrphan are met, clause by clause. -/
theorem witness_CellFrameEndStuckOrphan :
    (∃ (s : State) (cell : Nat), s.cellIn cell = true)
    ∧ (∃ (s : State) (cell : Nat), s.cellIn cell = true ∧ s.bit H.CROOK_C_TRIPPED cell = true ∧ s.bit H.CROOK_C_STUCK cell = false ∧ max 1 (s.rd H.CROOK_C_STUCKF cell) ≤ s.rd H.CROOK_C_SFR cell ∧ s.bit R.CROOK_CELL_STUCK cell = false)
    ∧ (∃ (s : State) (cell : Nat), s.cellIn cell = true ∧ 128 ≤ s.rd H.CROOK_C_NOSYNC cell)
    ∧ (∃ (s : State) (cell : Nat), s.cellIn cell = true ∧ s.bit H.CROOK_C_TRIPPED cell = true ∧ s.bit H.CROOK_C_STUCK cell = false ∧ max 1 (s.rd H.CROOK_C_STUCKF cell) ≤ s.rd H.CROOK_C_SFR cell ∧ s.bit R.CROOK_CELL_STUCK cell = true)
    ∧ (∃ (s : State) (cell : Nat), (s.bit H.CROOK_C_TRIPPED cell = false ∨ s.rd H.CROOK_C_SFR cell < max 1 (s.rd H.CROOK_C_STUCKF cell)))
    ∧ (∃ (s : State) (cell : Nat), s.rd H.CROOK_C_NOSYNC cell < 128) :=
  ⟨⟨w2, 5, by decide +kernel⟩,
    ⟨w2, 5, by decide +kernel⟩,
    ⟨w3, 5, by decide +kernel⟩,
    ⟨(mk [(R.CROOK_CELL_STUCK,5,1)] w2), 5, by decide +kernel⟩,
    ⟨w1, 5, by decide +kernel⟩,
    ⟨w1, 5, by decide +kernel⟩⟩

/-- The hypotheses of CellTakesMessages are met, clause by clause. -/
theorem witness_CellTakesMessages :
    (∃ (s : State) (fold : Nat) (cell : Nat), cell ∈ s.cellsOf fold)
    ∧ (∃ (s : State) (fold : Nat) (cell : Nat), cell ∈ s.cellsOf fold)
    ∧ (∃ (s : State) (cell : Nat), s.cellIn cell = true)
    ∧ (∃ (s : State) (cell : Nat), s.cellIn cell = true ∧ s.bit H.CROOK_C_EN cell = true)
    ∧ (∃ (s : State) (cell : Nat), s.cellIn cell = true ∧ s.bit H.CROOK_C_EN cell = true ∧ s.bit H.CROOK_C_TRIPPED cell = false)
    ∧ (∃ (s : State) (cell : Nat), s.cellIn cell = true ∧ s.bit H.CROOK_C_EN cell = true)
    ∧ (∃ (s : State) (cell : Nat), s.cellIn cell = true)
    ∧ (∃ (s : State) (cell : Nat), s.bit H.CROOK_C_EN cell = false) :=
  ⟨⟨w3, 0, 5, by decide +kernel⟩,
    ⟨w3, 0, 5, by decide +kernel⟩,
    ⟨w2, 5, by decide +kernel⟩,
    ⟨w3, 5, by decide +kernel⟩,
    ⟨w1, 5, by decide +kernel⟩,
    ⟨w1, 5, by decide +kernel⟩,
    ⟨w1, 5, by decide +kernel⟩,
    ⟨State.reset, 5, by decide +kernel⟩⟩

/-- The hypotheses of CrookCentralCounts are met, clause by clause. -/
theorem witness_CrookCentralCounts :
    (∃ (s : State) (cell : Nat), s.cellIn cell = true ∧ foldRail s.zk4 (cellFold s.zk4 cell) ∈ s.rails)
    ∧ (∃ (s : State) (cell : Nat) (r : CellReport), s.cellIn cell = true ∧ ((r.stuck = true → s.bit R.CROOK_CELL_STUCK cell = true)))
    ∧ (∃ (s : State) (cell : Nat), s.cellIn cell = true ∧ s.bit H.CROOK_ECHO_PEND cell = true ∧ s.holder = true ∧ s.rd H.GL_SPENT (96 + cell) < 2)
    ∧ (∃ (s : State) (cell : Nat), s.cellIn cell = true ∧ s.bit H.CROOK_ECHO_PEND cell = true ∧ s.holder = true ∧ 16 ≤ s.rd H.CROOK_ECHO_AGE cell ∧ s.rd H.GL_SPENT (96 + cell) < 2)
    ∧ (∃ (s : State), s.running = true ∧ s.holder = true ∧ 64 ≤ s.rd H.CROOK_SYNC_AGE 0)
    ∧ (∃ (s : State) (cell : Nat) (r : CellReport), s.cellIn cell = true ∧ r.stuck = true ∧ s.bit R.CROOK_CELL_STUCK cell = false)
    ∧ (∃ (s : State) (cell : Nat) (r : Nat), s.cellIn cell = true ∧ r = foldRail s.zk4 (cellFold s.zk4 cell) ∧ r ∈ s.rails ∧ s.shedding r ≠ [])
    ∧ (∃ (s : State) (cell : Nat) (r : Nat), s.cellIn cell = true ∧ r = foldRail s.zk4 (cellFold s.zk4 cell) ∧ r ∈ s.rails ∧ s.shedding r = [] ∧ 0 < s.rd H.PD_SHED_PEND r)
    ∧ (∃ (s : State) (cell : Nat) (r : Nat), s.cellIn cell = true ∧ r = foldRail s.zk4 (cellFold s.zk4 cell) ∧ r ∈ s.rails ∧ s.shedding r = [] ∧ s.rd H.PD_SHED_PEND r = 0 ∧ s.bit R.PD_RAIL_STAT_SKIPPING r = false) :=
  ⟨⟨w4, 5, by decide +kernel⟩,
    ⟨w4, 5, ⟨false,true,true,9,3,40⟩, by decide +kernel⟩,
    ⟨w4, 5, by decide +kernel⟩,
    ⟨w4, 5, by decide +kernel⟩,
    ⟨w4, by decide +kernel⟩,
    ⟨w4, 5, ⟨true,false,true,9,3,40⟩, by decide +kernel⟩,
    ⟨w5, 5, 0, by decide +kernel⟩,
    ⟨(mk [(H.PD_SHED_PEND,0,1)] w4), 5, 0, by decide +kernel⟩,
    ⟨w4, 5, 0, by decide +kernel⟩⟩

end Sys2Proof.Tests.P10

namespace Sys2Proof.Tests.P20

def rPad : Rec := ⟨0, [3,1,16,0, 7,3,255,0, 10,0, 11,0, 12,0, 0,0].map (BitVec.ofNat 8)⟩
def sw : Sweep := ⟨7, 9, 9, [(11,true,320)], false⟩
def w0 : State := mk [(R.TH_SITE_PADDOCK, 10, 7), (R.TH_SITE_PADDOCK, 11, 7), (R.TH_SITE_PADDOCK, 12, 7), (R.FIFO_CTRL_SW_CONSUME,0,1), (R.FIFO_WM_WM, 0, 2),(H.FLT_TEST_PEND, 0xA40+10, 1)] { State.reset with sweeps := [sw], map := {State.reset.map with recs := [rPad]} }
def w1 : State := mk [(H.TH_SUSC, 10, 2), (R.TH_SITE_STATE, 10, 2), (H.TH_HIGHC,10,2), (R.TH_PAD_CFG_DIODE,7,3), (H.TH_DIODEC,7,2), (H.TH_HOTC, 20,2),(H.TH_DIODE_LAST,3,1850),(H.TH_HBM_AGE,2,256),(R.TH_OPT_HEATER_HEATER,1,50),(H.TH_OVERC,1,4)] w0
def w1t : State := mk [(R.TH_TRIP_LATCHED,0,1),(R.TH_TRIP_DIODE,0,7)] w1
def w2 : State := mk ((List.range 12).map (fun j => (R.TH_FENCED_FENCED, 192+12+j, 1)) ++ [(H.TH_UNF_SENT, 192+12+3, 1),(R.FRAME_COUNT,0,100),(R.TWIN_STATUS_ROLE,0,4),(R.TH_ROUTE_IN_USE,18,1)]) w0
def w2o : State := mk [(H.TH_OFF_SENT,17,1)] w2
def w3 : State := mk [(R.TH_TRIP_LATCHED,0,1),(R.TWIN_STATUS_ROLE,0,4),(R.TALLY_STAT_RESTORED,0,1),(R.PD_RAIL_MASK_MASK,0,3),(R.PD_PH_STAT_STATE,0,1),(H.TH_PROOF,10,1)] w0

/-- The hypotheses of SweepReadingsAreCollected are met, clause by clause. -/
theorem witness_SweepReadingsAreCollected :
    (∃ (s : State) (site : Nat) (tag : Nat), site < 1536 ∧ s.rd R.TH_SITE_PADDOCK site ≠ 0xFF ∧ (s.sweeps.any fun w => w.paddock == s.rd R.TH_SITE_PADDOCK site && w.tag == tag && !w.closed) = true)
    ∧ (∃ (s : State) (site : Nat) (tag : Nat), site < 1536 ∧ s.rd R.TH_SITE_PADDOCK site ≠ 0xFF ∧ (s.sweeps.any fun w => w.paddock == s.rd R.TH_SITE_PADDOCK site && w.tag == tag && !w.closed) = false)
    ∧ (∃ (s : State) (paddock : Nat) (w : Sweep), s.sweeps.find? (fun x => x.paddock == paddock && !x.closed) = some w ∧ s.bit R.FIFO_CTRL_SW_CONSUME 0 = true ∧ s.bit R.FLT_INJ_ARM 0 = false ∧ s.fifo.length + (s.sweepWords w).length ≤ 64)
    ∧ (∃ (s : State) (site : Nat), site < 1536 ∧ s.bit H.TH_PROOF site = false ∧ s.holder = true ∧ s.bit H.FLT_TEST_PEND (0xA40 + site) = true)
    ∧ (∃ (s : State) (paddock : Nat) (w : Sweep), s.sweeps.find? (fun x => x.paddock == paddock && !x.closed) = some w ∧ s.bit R.FIFO_CTRL_SW_CONSUME 0 = false ∧ s.bit R.FLT_INJ_ARM 0 = false ∧ s.fifo = [] ∧ w.paddock < 128 ∧ 0 < (s.sweepWords w).length ∧ (s.sweepWords w).length ≤ 64 ∧ (s.sweepWords w).length = (s.padSites w.paddock).length)
    ∧ (∃ (s : State) (paddock : Nat), s.sweeps.find? (fun x => x.paddock == paddock && !x.closed) = none)
    ∧ (∃ (s : State) (site : Nat) (rsv : Nat), (rsv ≠ 0 ∨ 1536 ≤ site ∨ s.rd R.TH_SITE_PADDOCK site = 0xFF))
    ∧ (∃ (s : State) (site : Nat), site < 1536 ∧ s.bit H.TH_PROOF site = false ∧ s.holder = true ∧ s.bit H.FLT_TEST_PEND (0xA40 + site) = true)
    ∧ (∃ (s : State) (site : Nat), site < 1536 ∧ s.bit H.TH_PROOF site = true ∧ srcPresent s.zk4 (0xA40 + site) = true)
    ∧ (∃ (site : Nat) (rsv : Nat), (rsv ≠ 0 ∨ 1536 ≤ site)) :=
  ⟨⟨w0, 10, 9, by decide +kernel⟩,
    ⟨w0, 10, 8, by decide +kernel⟩,
    ⟨w0, 7, sw, by decide +kernel⟩,
    ⟨(mk [(R.TWIN_STATUS_ROLE,0,4)] w0), 10, by decide +kernel⟩,
    ⟨(mk [(R.FIFO_CTRL_SW_CONSUME,0,0)] w0), 7, sw, by decide +kernel⟩,
    ⟨w0, 8, by decide +kernel⟩,
    ⟨w0, 10, 1, by decide +kernel⟩,
    ⟨(mk [(R.TWIN_STATUS_ROLE,0,4)] w0), 10, by decide +kernel⟩,
    ⟨w3, 10, by decide +kernel⟩,
    ⟨10, 1, by decide +kernel⟩⟩

/-- The hypotheses of ThermalElementsFail are met, clause by clause. -/
theorem witness_ThermalElementsFail :
    (∃ (s : State) (site : Nat), s.rd H.TH_SUSC site = 2 ∧ s.rd R.TH_SITE_STATE site = 2 ∧ srcPresent s.zk4 (0xA40 + site) = true)
    ∧ (∃ (s : State) (site : Nat), s.rd H.TH_HIGHC site = 2 ∧ srcPresent s.zk4 (0xA40 + site) = true)
    ∧ (∃ (s : State) (ch : Nat), srcPresent s.zk4 (0x21C + ch) = true ∧ ch < 64 ∧ s.bit R.TH_DIODE_FAILED ch = false ∧ ((∃ p ∈ s.diodePads ch, s.rd H.TH_DIODEC p = 2)))
    ∧ (∃ (s : State) (tile : Nat), tile < 768 ∧ srcPresent s.zk4 (0x400 + tile) = true ∧ s.rd H.TH_HOTC (tileSite tile) = 2 ∧ s.bit H.TH_HOT tile = false)
    ∧ (∃ (s : State) (k : Nat), s.rd H.TH_SUSC k ≠ 2)
    ∧ (∃ (s : State) (k : Nat), s.rd H.TH_HIGHC k ≠ 2)
    ∧ (∃ (s : State) (ch : Nat), (s.bit R.TH_DIODE_FAILED ch = true ∨ (∀ p ∈ s.diodePads ch, s.rd H.TH_DIODEC p ≠ 2)))
    ∧ (∃ (s : State) (tile : Nat), (s.rd H.TH_HOTC (tileSite tile) ≠ 2 ∨ s.bit H.TH_HOT tile = true)) :=
  ⟨⟨w1, 10, by decide +kernel⟩,
    ⟨w1, 10, by decide +kernel⟩,
    ⟨w1, 3, by decide +kernel⟩,
    ⟨w1, 17, by decide +kernel⟩,
    ⟨w1, 11, by decide +kernel⟩,
    ⟨w1, 11, by decide +kernel⟩,
    ⟨w1, 4, by decide +kernel⟩,
    ⟨w1, 18, by decide +kernel⟩⟩

/-- The hypotheses of DiodesAndThermalTrip are met, clause by clause. -/
theorem witness_DiodesAndThermalTrip :
    (∃ (s : State) (ch : Nat) (temp : Int), s.diodeOwn ch = true ∧ -32768 ≤ temp ∧ temp < 32768)
    ∧ (∃ (s : State) (ch : Nat) (temp : Int), s.diodeOwn ch = true ∧ 1840 ≤ temp ∧ s.bit R.TH_TRIP_LATCHED 0 = false)
    ∧ (∃ (s : State), s.bit R.TH_TRIP_LATCHED 0 = true)
    ∧ (∃ (s : State), s.bit R.TH_TRIP_NET_LOW 0 = false ∧ s.holder = false ∧ s.bit R.TWIN_STATUS_GATE_OWN 0 = false)
    ∧ (∃ (s : State), s.bit R.TH_TRIP_NET_LOW 0 = false ∧ (s.holder = true ∨ s.bit R.TWIN_STATUS_GATE_OWN 0 = true))
    ∧ (∃ (s : State), s.bit R.TH_TRIP_NET_LOW 0 = false ∧ s.bit R.TALLY_STAT_RESTORED 0 = true ∧ s.tallyQueue.length < 14)
    ∧ (∃ (s : State), s.bit R.TH_TRIP_NET_LOW 0 = true)
    ∧ (∃ (s : State) (ch : Nat), s.diodeOwn ch = false)
    ∧ (∃ (temp : Int), temp < 1840) :=
  ⟨⟨w1, 3, (-100), by decide +kernel⟩,
    ⟨w1, 3, 1841, by decide +kernel⟩,
    ⟨w1t, by decide +kernel⟩,
    ⟨w1, by decide +kernel⟩,
    ⟨w3, by decide +kernel⟩,
    ⟨w3, by decide +kernel⟩,
    ⟨(mk [(R.TH_TRIP_NET_LOW,0,1)] w3), by decide +kernel⟩,
    ⟨w1, 20, by decide +kernel⟩,
    ⟨1839, by decide +kernel⟩⟩

/-- The hypotheses of HbmAndOpticalReports are met, clause by clause. -/
theorem witness_HbmAndOpticalReports :
    (∃ (s : State) (ctrl : Nat) (temp : Int), ctrl < hbmStacks s.zk4 ∧ -32768 ≤ temp ∧ temp < 32768)
    ∧ (∃ (s : State) (ctrl : Nat), ctrl < hbmStacks s.zk4 ∧ 256 ≤ s.rd H.TH_HBM_AGE ctrl ∧ s.bit R.TH_BAND_STAT_STALE ctrl = false)
    ∧ (∃ (engine : Nat), engine < 8)
    ∧ (∃ (s : State) (engine : Nat), engine < 8 ∧ s.rd H.TH_OVERC engine = 4 ∧ s.bit R.TH_OPT_STAT_OVER engine = false)
    ∧ (∃ (s : State) (ctrl : Nat), hbmStacks s.zk4 ≤ ctrl)
    ∧ (∃ (s : State) (ctrl : Nat), (s.rd H.TH_HBM_AGE ctrl < 256 ∨ s.bit R.TH_BAND_STAT_STALE ctrl = true))
    ∧ (∃ (e : Nat) (rsv : Nat), (rsv ≠ 0 ∨ 8 ≤ e))
    ∧ (∃ (s : State) (e : Nat), (s.rd H.TH_OVERC e ≠ 4 ∨ s.bit R.TH_OPT_STAT_OVER e = true)) :=
  ⟨⟨w1, 2, (-5), by decide +kernel⟩,
    ⟨w1, 2, by decide +kernel⟩,
    ⟨1, by decide +kernel⟩,
    ⟨w1, 1, by decide +kernel⟩,
    ⟨w1, 8, by decide +kernel⟩,
    ⟨w1, 3, by decide +kernel⟩,
    ⟨1, 4, by decide +kernel⟩,
    ⟨w1, 2, by decide +kernel⟩⟩

/-- The hypotheses of FencesAndStiles are met, clause by clause. -/
theorem witness_FencesAndStiles :
    (∃ (s : State) (flock : Nat) (m : FenceAckMsg), flock < flockCount s.zk4 ∧ m.tile < 12 ∧ m.rsv = 0 ∧ m.fenced = true ∧ m.forced = true ∧ m.stileOn = true)
    ∧ (∃ (s : State) (flock : Nat) (m : FenceAckMsg), flock < flockCount s.zk4 ∧ m.tile < 12 ∧ m.rsv = 0 ∧ m.fenced = false ∧ m.stileOn = true ∧ s.bit H.TH_UNF_SENT (192 * (flock / 16) + 12 * (flock % 16) + m.tile) = true)
    ∧ (∃ (s : State) (flock : Nat) (m : FenceAckMsg), flock < flockCount s.zk4 ∧ m.tile < 12 ∧ m.rsv = 0 ∧ (m.fenced && m.forced) = false ∧ m.stileOn = false ∧ s.bit H.TH_OFF_SENT flock = true ∧ s.bit R.TH_ROUTE_IN_USE flock = false)
    ∧ (∃ (s : State) (flock : Nat) (m : RouteMsg), flock < flockCount s.zk4 ∧ m.rsv = 0)
    ∧ (∃ (s : State) (flock : Nat), flock < flockCount s.zk4 ∧ ((∀ j < 12, s.bit R.TH_FENCED_FENCED (192 * (flock / 16) + 12 * (flock % 16) + j) = true)) ∧ s.bit R.TH_ROUTE_IN_USE flock = false ∧ 64 ≤ s.frame - s.rd H.TH_USE_END flock ∧ s.bit R.TH_STILE_PARKED flock = false ∧ s.bit H.TH_OFF_SENT flock = false ∧ s.bit H.TH_DEMAND flock = false ∧ s.holder = true ∧ s.rd H.GL_SPENT (32 + flock) < 2)
    ∧ (∃ (s : State) (flock : Nat) (m : FenceAckMsg), (m.rsv ≠ 0 ∨ flockCount s.zk4 ≤ flock ∨ 12 ≤ m.tile))
    ∧ (∃ (s : State) (flock : Nat) (m : FenceAckMsg), (m.fenced && m.forced) = false ∧ ((m.fenced = true ∨ s.bit H.TH_UNF_SENT (192 * (flock / 16) + 12 * (flock % 16) + m.tile) = false)) ∧ ((m.stileOn = true ∨ s.bit R.TH_ROUTE_IN_USE flock = true)))
    ∧ (∃ (s : State) (flock : Nat) (m : RouteMsg), (m.rsv ≠ 0 ∨ flockCount s.zk4 ≤ flock))
    ∧ (∃ (s : State) (flock : Nat), (s.bit R.TH_ROUTE_IN_USE flock = true ∨ s.frame - s.rd H.TH_USE_END flock < 64
      ∨ s.bit R.TH_STILE_PARKED flock = true)) :=
  ⟨⟨w2, 17, ⟨3,true,true,true,0⟩, by decide +kernel⟩,
    ⟨w2, 17, ⟨3,false,false,true,0⟩, by decide +kernel⟩,
    ⟨w2o, 17, ⟨3,true,false,false,0⟩, by decide +kernel⟩,
    ⟨w2, 18, ⟨false,true,5,0⟩, by decide +kernel⟩,
    ⟨w2, 17, by decide +kernel⟩,
    ⟨w2, 17, ⟨3,true,true,true,2⟩, by decide +kernel⟩,
    ⟨w2, 17, ⟨3,true,false,true,0⟩, by decide +kernel⟩,
    ⟨w2, 18, ⟨false,true,5,1⟩, by decide +kernel⟩,
    ⟨w2, 18, by decide +kernel⟩⟩

end Sys2Proof.Tests.P20

namespace Sys2Proof.Tests.P30

def p0 : State := mk ([(R.PD_RAIL_CFG_COUNT, 2, 6),(R.PD_RAIL_CFG_FSW,2,1000), (R.PD_RAIL_MASK_MASK, 2, 63), (R.PD_RAIL_CFG_MIN_ACTIVE,2,2), (R.PD_STATUS_DRIVING,0,1),(R.PD_RAIL_VREF_VREF,2,100),(R.PD_RAIL_VREF_TARGET,2,105),(H.PD_DRAIL,2,9000),(R.PD_RAIL_COMP2_DMAX,2,60000),(R.PD_RAIL_COMP2_SHARE_MAX,2,300),
 (R.PD_RAIL_COMP0_KPM,2,900),(R.PD_RAIL_COMP0_KPS,2,10),(R.PD_RAIL_COMP0_KIM,2,900),(R.PD_RAIL_COMP0_KIS,2,12),(H.PD_INTEG,2,123456),(H.PD_SG2,2,32)] ++ (List.range 6).map (fun p => (R.PD_PH_STAT_RAIL, p, 2)) ++ [(R.PD_PH_STAT_STATE,0,1),(R.PD_PH_STAT_STATE,1,1),(R.PD_PH_STAT_STATE,2,2),(R.PD_PH_STAT_STATE,3,3),(R.PD_PH_STAT_STATE,4,4),(R.PD_PH_STAT_STATE,5,5),(R.PD_PH_STAT_RANK,1,1),(H.PD_DEVC,1,2),(H.PD_SCRUN,1,16),(H.PD_INVC,1,2),(H.PD_SHED_STEP,2,4),(H.PD_ADD_PER,4,8),(R.PD_PH_CURRENT_USED,0,300),(R.PD_PH_CURRENT_USED,1,320)])
def p00 : State := mk [(R.PD_PH_STAT_STATE,0,3),(R.PD_PH_STAT_STATE,1,3),(R.PD_PH_STAT_STATE,2,3),(R.PD_PH_STAT_STATE,4,3)] p0
def poff : State := mk [(R.PD_PH_STAT_STATE,0,0),(R.PD_PH_STAT_STATE,1,0),(R.PD_PH_STAT_STATE,2,0),(R.PD_PH_STAT_STATE,3,0),(R.PD_PH_STAT_STATE,4,0)] p0
def pf : State := mk [(R.TWIN_STATUS_ROLE,0,3),(R.PD_STATUS_DRIVING,0,0)] p0
def pr : State := mk [(R.PD_RAIL_STAT_RAMPING,2,1),(H.PD_RAMP_V,2,2849000),(H.PD_RAMP_RATE,2,1000),(R.PD_SETPOINT_CODE,64,105)] p0
def pt : State := mk [(R.TALLY_STAT_RESTORED,0,1)] p0
def lst (s : State) (p : Nat) : List Msg := match exec (.switchingPeriodStart p) s with | .next t => t.out | _ => []
def ps : State := mk [(H.PD_DWELL_CNT,2,9),(R.PD_RAIL_SHED_DWELL,2,9),(R.PD_PH_STAT_STATE,2,1),(R.PD_PH_STAT_STATE,4,3),(R.PD_RAIL_SKIP_SKIP_FRAMES,2,4),(H.PD_SKIP_CNT,2,4)] p0

/-- The hypotheses of ConversionsAndSamples are met, clause by clause. -/
theorem witness_ConversionsAndSamples :
    (∃ (s : State) (rail : Nat), rail ∈ s.rails ∧ s.bit H.PD_LOOP_RAIL rail = false ∧ s.follows = false)
    ∧ (∃ (s : State) (rail : Nat), rail ∈ s.rails ∧ s.bit H.PD_LOOP_RAIL rail = false ∧ s.follows = true)
    ∧ (∃ (s : State) (phase : Nat), s.allocated phase = true ∧ s.bit H.PD_LOOP_PH phase = false)
    ∧ (∃ (s : State) (rail : Nat), rail ∉ s.rails)
    ∧ (∃ (s : State) (rail : Nat), rail ∈ s.rails ∧ s.bit H.PD_LOOP_RAIL rail = true)
    ∧ (∃ (s : State) (phase : Nat), s.allocated phase = false)
    ∧ (∃ (s : State) (phase : Nat), s.allocated phase = true ∧ s.bit H.PD_LOOP_PH phase = false ∧ s.follows = true)
    ∧ (∃ (s : State) (phase : Nat), s.allocated phase = true ∧ s.bit H.PD_LOOP_PH phase = false ∧ s.follows = false ∧ s.bit R.PD_PH_STAT_DERATED phase = false)
    ∧ (∃ (s : State) (phase : Nat), s.allocated phase = true ∧ s.bit H.PD_LOOP_PH phase = false ∧ s.follows = false ∧ s.ibar phase = none ∧ s.ph phase = 1)
    ∧ (∃ (s : State) (phase : Nat), s.allocated phase = true ∧ s.bit H.PD_LOOP_PH phase = true) :=
  ⟨⟨p0, 2, by decide +kernel⟩,
    ⟨pf, 2, by decide +kernel⟩,
    ⟨p0, 1, by decide +kernel⟩,
    ⟨p0, 3, by decide +kernel⟩,
    ⟨(mk [(H.PD_LOOP_RAIL,2,1),(H.PD_VSENSE,2,90000)] p0), 2, by decide +kernel⟩,
    ⟨p0, 9, by decide +kernel⟩,
    ⟨pf, 1, by decide +kernel⟩,
    ⟨p0, 1, by decide +kernel⟩,
    ⟨p0, 0, by decide +kernel⟩,
    ⟨(mk [(H.PD_LOOP_PH,0,1),(R.PD_PH_STAT_SENSE_OK,1,1),(R.PD_PH_CURRENT_MEAS,1,200)] p0), 0, by decide +kernel⟩⟩

/-- The hypotheses of VrefMovesOneCode are met, clause by clause. -/
theorem witness_VrefMovesOneCode :
    (∃ (s : State) (rail : Nat), rail ∈ s.rails ∧ s.railOn rail = true ∧ s.bit R.PD_RAIL_STAT_RAMPING rail = false)
    ∧ (∃ (s : State) (rail : Nat), rail ∈ s.rails ∧ s.railOn rail = true ∧ s.bit R.PD_RAIL_STAT_RAMPING rail = true ∧ 1800000 + 10000 * s.rd R.PD_SETPOINT_CODE (32 * rail) ≤ s.rd H.PD_RAMP_V rail + s.rd H.PD_RAMP_RATE rail)
    ∧ (∃ (s : State) (rail : Nat), rail ∈ s.rails ∧ s.railOn rail = true ∧ s.bit R.PD_RAIL_STAT_RAMPING rail = true ∧ s.rd H.PD_RAMP_V rail + s.rd H.PD_RAMP_RATE rail < 1800000 + 10000 * s.rd R.PD_SETPOINT_CODE (32 * rail)) :=
  ⟨⟨p0, 2, by decide +kernel⟩,
    ⟨pr, 2, by decide +kernel⟩,
    ⟨(mk [(R.PD_SETPOINT_CODE,64,205)] pr), 2, by decide +kernel⟩⟩

/-- The hypotheses of PhasesAreFencedDeratedAndShutDown are met, clause by clause. -/
theorem witness_PhasesAreFencedDeratedAndShutDown :
    (∃ (s : State) (phase : Nat), s.allocated phase = true ∧ s.pulsing phase = true ∧ srcPresent s.zk4 (0x100 + phase) = true ∧ s.judgeN (s.rd R.PD_PH_STAT_RAIL phase) ≤ s.rd H.PD_DEVC phase)
    ∧ (∃ (s : State) (phase : Nat), s.allocated phase = true ∧ s.pulsing phase = true ∧ srcPresent s.zk4 (0x100 + phase) = true ∧ 16 ≤ s.rd H.PD_SCRUN phase)
    ∧ (∃ (s : State) (phase : Nat), s.allocated phase = true ∧ s.ph phase = 1 ∧ s.bit R.PD_PH_STAT_DERATED phase = false ∧ srcPresent s.zk4 (0x100 + phase) = true ∧ s.rd H.PD_DEVC phase < s.judgeN (s.rd R.PD_PH_STAT_RAIL phase) ∧ ((s.judgeN (s.rd R.PD_PH_STAT_RAIL phase) ≤ s.rd H.PD_INVC phase
      ∨ s.judgeN (s.rd R.PD_PH_STAT_RAIL phase) ≤ s.rd H.PD_CLAMPC phase)))
    ∧ (∃ (s : State) (rail : Nat), srcPresent s.zk4 (0x180 + rail) = true ∧ rail < 14 ∧ 32 ≤ s.rd H.PD_SG2 rail ∧ s.railOn rail = true)
    ∧ (∃ (s : State) (phase : Nat), s.scArmed phase = true ∧ s.bit H.PD_SC_THIS phase = false)
    ∧ (∃ (s : State) (phase : Nat), s.scArmed phase = true ∧ s.bit H.PD_SC_THIS phase = true)
    ∧ (∃ (s : State) (phase : Nat), s.scArmed phase = false)
    ∧ (∃ (s : State) (phase : Nat), s.allocated phase = true ∧ s.pulsing phase = false ∧ s.rd H.PD_OFF_DUE phase % 2 = 1 ∧ srcPresent s.zk4 (0x100 + phase) = true)
    ∧ (∃ (s : State) (phase : Nat), s.rd H.PD_OFF_DUE phase % 2 = 0 ∧ (s.pulsing phase = false ∨ s.rd H.PD_DEVC phase < s.judgeN (s.rd R.PD_PH_STAT_RAIL phase)))
    ∧ (∃ (s : State) (phase : Nat), s.rd H.PD_OFF_DUE phase < 2 ∧ (s.pulsing phase = false ∨ s.rd H.PD_SCRUN phase < 16))
    ∧ (∃ (s : State) (phase : Nat), (s.pulsing phase = false ∨ s.bit R.PD_PH_STAT_DERATED phase = true
      ∨ s.judgeN (s.rd R.PD_PH_STAT_RAIL phase) ≤ s.rd H.PD_DEVC phase
      ∨ (s.rd H.PD_INVC phase < s.judgeN (s.rd R.PD_PH_STAT_RAIL phase)
        ∧ s.rd H.PD_CLAMPC phase < s.judgeN (s.rd R.PD_PH_STAT_RAIL phase))))
    ∧ (∃ (s : State) (rail : Nat), (s.rd H.PD_SG2 rail < 32 ∨ s.railOn rail = false))
    ∧ (∃ (s : State) (phase : Nat), s.allocated phase = true ∧ s.pulsing phase = true ∧ 16 ≤ s.rd H.PD_SCRUN phase ∧ s.bit R.TALLY_STAT_RESTORED 0 = true ∧ s.tallyQueue.length < 14)
    ∧ (∃ (s : State) (rail : Nat), 32 ≤ s.rd H.PD_SG2 rail ∧ s.railOn rail = true ∧ s.bit R.TALLY_STAT_RESTORED 0 = true ∧ s.tallyQueue.length < 14) :=
  ⟨⟨p0, 1, by decide +kernel⟩,
    ⟨p0, 1, by decide +kernel⟩,
    ⟨(mk [(H.PD_DEVC,1,0)] p0), 1, by decide +kernel⟩,
    ⟨p0, 2, by decide +kernel⟩,
    ⟨p0, 1, by decide +kernel⟩,
    ⟨(mk [(H.PD_SC_THIS,5,1)] p0), 5, by decide +kernel⟩,
    ⟨(mk [(R.PD_PH_STAT_DERATED,1,1)] p0), 1, by decide +kernel⟩,
    ⟨(mk [(H.PD_OFF_DUE,1,3)] poff), 1, by decide +kernel⟩,
    ⟨p0, 0, by decide +kernel⟩,
    ⟨p0, 0, by decide +kernel⟩,
    ⟨p0, 1, by decide +kernel⟩,
    ⟨poff, 2, by decide +kernel⟩,
    ⟨pt, 1, by decide +kernel⟩,
    ⟨pt, 2, by decide +kernel⟩⟩

/-- The hypotheses of PeriodsShedsAndSkips are met, clause by clause. -/
theorem witness_PeriodsShedsAndSkips :
    (∃ (s : State) (phase : Nat), s.allocated phase = true ∧ s.bit R.PD_STATUS_DRIVING 0 = true)
    ∧ (∃ (s : State) (phase : Nat), s.allocated phase = true ∧ s.ph phase = 1 ∧ s.rd H.PD_SHED_PEND (s.rd R.PD_PH_STAT_RAIL phase) = phase + 1 ∧ s.rd R.PD_PH_STAT_RAIL phase < 14)
    ∧ (∃ (s : State) (phase : Nat), s.allocated phase = true ∧ s.ph phase = 2 ∧ s.bit H.PD_RET_ACT phase = false ∧ 4 ≤ s.rd H.PD_SHED_STEP phase)
    ∧ (∃ (s : State) (phase : Nat), s.allocated phase = true ∧ s.ph phase = 2 ∧ s.bit H.PD_RET_ACT phase = true)
    ∧ (∃ (s : State) (phase : Nat), s.allocated phase = true ∧ s.ph phase = 4 ∧ 8 ≤ s.rd H.PD_ADD_PER phase)
    ∧ (∃ (s : State) (rail : Nat) (phase : Nat), rail < 14 ∧ (s.inState rail 1).getLast? = some phase ∧ s.mayShed rail = true)
    ∧ (∃ (s : State) (rail : Nat), rail < 14 ∧ s.rd R.PD_RAIL_SKIP_SKIP_FRAMES rail ≠ 0 ∧ s.rd R.PD_RAIL_SKIP_SKIP_FRAMES rail ≤ s.rd H.PD_SKIP_CNT rail ∧ s.nPulse rail = s.rd R.PD_RAIL_CFG_MIN_ACTIVE rail ∧ 0 < s.nPulse rail ∧ s.rd R.PD_RAIL_VREF_VREF rail ≤ s.rd R.PD_RAIL_VREF_TARGET rail)
    ∧ (∃ (s : State) (phase : Nat), s.allocated phase = false)
    ∧ (∃ (s : State) (phase : Nat), s.allocated phase = true ∧ (s.ph phase = 0 ∨ (s.ph phase = 5 ∧ s.rd H.PD_TEST_PULSE phase = 0)))
    ∧ (∃ (s : State) (phase : Nat), s.allocated phase = true ∧ s.ph phase = 3)
    ∧ (∃ (s : State) (phase : Nat), s.allocated phase = true ∧ s.ph phase = 5 ∧ 0 < s.rd H.PD_TEST_PULSE phase ∧ s.bit R.PD_RAIL_STAT_TRUNCATING (s.rd R.PD_PH_STAT_RAIL phase) = false)
    ∧ (∃ (s : State) (phase : Nat), s.allocated phase = true ∧ s.ph phase = 1 ∧ s.bit R.PD_STATUS_DRIVING 0 = true)
    ∧ (∃ (s : State) (phase : Nat), s.allocated phase = true ∧ s.ph phase = 2 ∧ s.bit H.PD_RET_ACT phase = false ∧ s.rd H.PD_SHED_STEP phase < 4)
    ∧ (∃ (s : State) (phase : Nat), s.allocated phase = true ∧ s.rd R.PD_PH_STAT_RAIL phase < 14 ∧ s.bit H.PD_SKIP_END (s.rd R.PD_PH_STAT_RAIL phase) = true)
    ∧ (∃ (s : State) (rail : Nat), (s.mayShed rail = false ∨ s.inState rail 1 = []))
    ∧ (∃ (s : State) (rail : Nat), (s.rd R.PD_RAIL_SKIP_SKIP_FRAMES rail = 0
      ∨ s.rd H.PD_SKIP_CNT rail < s.rd R.PD_RAIL_SKIP_SKIP_FRAMES rail
      ∨ s.nPulse rail ≠ s.rd R.PD_RAIL_CFG_MIN_ACTIVE rail ∨ s.nPulse rail = 0
      ∨ s.rd R.PD_RAIL_VREF_TARGET rail < s.rd R.PD_RAIL_VREF_VREF rail)) :=
  ⟨⟨p0, 1, by decide +kernel⟩,
    ⟨(mk [(H.PD_SHED_PEND,2,2)] p0), 1, by decide +kernel⟩,
    ⟨p0, 2, by decide +kernel⟩,
    ⟨(mk [(H.PD_RET_ACT,2,1)] p0), 2, by decide +kernel⟩,
    ⟨p0, 4, by decide +kernel⟩,
    ⟨ps, 2, 2, by decide +kernel⟩,
    ⟨(mk [(R.PD_RAIL_CFG_MIN_ACTIVE,2,3)] ps), 2, by decide +kernel⟩,
    ⟨p0, 77, by decide +kernel⟩,
    ⟨p0, 5, by decide +kernel⟩,
    ⟨(mk [(H.PD_FALLOW_PER,3,15)] p0), 3, by decide +kernel⟩,
    ⟨(mk [(H.PD_TEST_PULSE,5,4)] p0), 5, by decide +kernel⟩,
    ⟨p0, 0, by decide +kernel⟩,
    ⟨(mk [(H.PD_SHED_STEP,2,1),(H.PD_SHED_DELTA,2,700)] p0), 2, by decide +kernel⟩,
    ⟨(mk [(H.PD_SKIP_END,2,1),(R.PD_RAIL_STAT_SKIPPING,2,1)] p0), 1, by decide +kernel⟩,
    ⟨p0, 2, by decide +kernel⟩,
    ⟨p0, 2, by decide +kernel⟩⟩

end Sys2Proof.Tests.P30

namespace Sys2Proof.Tests.P35

def rSlot (n out : Nat) : Rec := ⟨n, ([1,3,48,0, n,3,0xF0,0,100,0,3,1,5,out,3,0,0,0,0,0,8,0,0,0] ++ [1,0,0,0,0,0,0,0, 7,0,0,0,1,0,0,0, 0x10,0,0,0,1,0,0,0]).map (BitVec.ofNat 8)⟩
def rFold (f : Nat) : Rec := ⟨f, [2,1,32,0, f,0,1,0, 255,255,255,0, 0,0,0,0].map (BitVec.ofNat 8)⟩
def l0 : State := mk [(R.RUN_STATE,0,2),(R.RUN_EN,0,1),(R.LE_SLOT_MODE_MODE,7,3),(R.LE_SLOT_OUT_OUT,7,500),(R.LE_SLOT_SLEW_SLEW,7,3),(R.LE_SLOT_MODE_MODE,9,0),(R.LE_SLOT_MANUAL_MANUAL,9,40),(R.LE_SLOT_SLEW_SLEW,9,50),(H.LE_PL_TRIP,7,1)] { State.reset with map := {State.reset.map with recs := [rSlot 7 21, rSlot 9 22] } }
def m0 : IntentMsg := ⟨5, 3, 108, 0, 4, 2, 10, 20, 33, 0, 1⟩
def b0 : State := mk [(R.FRAME_COUNT,0,99),(R.BW_NETMAP_NET,3,1),(R.BW_STATUS_NET_VALID,0,2),(R.CLK_EN_EN,0,0x7ff),(R.BW_FOLD_STAT_LAST_SEQ,3,4),(H.BW_SEEN,3,1),(R.BW_RAIL_STAT_MISSES,3,9),(R.BW_FOLD_CNT0_LATE,3,1),(R.BW_LAYER_IN,2,64),(R.BW_LAYER_OUT,2,8),(R.BW_LAYER_OUT,3,8),(R.BW_LAYER_IN,3,8)] { l0 with map := {State.reset.map with recs := [rFold 3] }}
def b1 : State := {b0 with sched := [⟨3,100,0,0,0,1,5,33,90,false⟩,⟨4,100,0,0,0,1,5,33,90,false⟩]}
def e0 : State := mk ([(R.PD_RAIL_CFG_COUNT, 2, 6), (R.PD_RAIL_MASK_MASK, 2, 63),(R.PD_RAIL_SHED_ADD_CUR,2,300),(R.BW_RAIL_CTRL_EA_H,2,4),(H.BW_FRAIL,17,900)] ++ (List.range 6).map (fun p => (R.PD_PH_STAT_RAIL, p, 2)) ++ [(R.PD_PH_STAT_STATE,0,1),(R.PD_PH_STAT_STATE,1,3),(R.PD_PH_STAT_STATE,2,3),(R.PD_PH_STAT_STATE,3,3),(R.PD_PH_STAT_STATE,4,3)]) b0

/-- The hypotheses of LoopWindowStagesOutputs are met, clause by clause. -/
theorem witness_LoopWindowStagesOutputs :
    (∃ (s : State), s.running = true ∧ s.bit H.TWIN_FORM_DUE 0 = false)
    ∧ (∃ (s : State), s.running = true ∧ s.bit R.FLT_INJ_ARM 0 = false ∧ s.bit H.TWIN_UNC 0 = false)
    ∧ (∃ (s : State) (slot : Nat), slot < 256 ∧ s.bit H.LE_PL_TRIP slot = true)
    ∧ (∃ (s : State) (w : WCtx) (slot : Nat), Writable s w R.LE_SLOT_CAP_ARM slot)
    ∧ (∃ (s : State), s.running = false ∧ s.bit H.TWIN_FORM_DUE 0 = false)
    ∧ (∃ (s : State), s.bit H.TWIN_FORM_DUE 0 = true ∧ (s.role = 2 ∨ s.role = 3))
    ∧ (∃ (s : State), s.running = true ∧ s.bit R.FLT_INJ_ARM 0 = false ∧ s.bit H.TWIN_UNC 0 = true ∧ s.rd R.TWIN_STATUS_PEER_ROLE 0 ≠ 1)
    ∧ (∃ (s : State), s.running = false ∧ s.rd R.TWIN_STATUS_PEER_ROLE 0 ≠ 1)
    ∧ (∃ (s : State) (slot : Nat), (256 ≤ slot ∨ s.bit H.LE_PL_TRIP slot = false)) :=
  ⟨⟨l0, by decide +kernel⟩,
    ⟨l0, by decide +kernel⟩,
    ⟨l0, 7, by decide +kernel⟩,
    ⟨(mk [(R.CLK_EN_EN,0,0x7ff)] l0), ⟨.hart 1, 0⟩, 7, by decide +kernel⟩,
    ⟨State.reset, by decide +kernel⟩,
    ⟨(mk [(H.TWIN_FORM_DUE,0,1),(R.TWIN_STATUS_ROLE,0,3)] l0), by decide +kernel⟩,
    ⟨(mk [(H.TWIN_UNC,0,1)] l0), by decide +kernel⟩,
    ⟨State.reset, by decide +kernel⟩,
    ⟨l0, 9, by decide +kernel⟩⟩

/-- The hypotheses of IntentsEnterTheSchedule are met, clause by clause. -/
theorem witness_IntentsEnterTheSchedule :
    (∃ (s : State) (d : Nat) (o : Nat) (m : IntentMsg), d < 32 ∧ s.runEn = true ∧ s.latchFull = false ∧ intentBad s.zk4 d m = false ∧ s.rd R.BW_NETMAP_NET d ≠ 0xFF ∧ ((s.bit H.BW_SEEN d = true → newer 8 (s.rd R.BW_FOLD_STAT_LAST_SEQ d) m.seq = true)) ∧ 1 ≤ o ∧ o ≤ 64 ∧ m.start < 256 ∧ m.start = (s.frame + 1 + o) % 256 ∧ (s.schedAt d (s.frame + 1)).length < 32)
    ∧ (∃ (s : State) (d : Nat) (m : IntentMsg), d < 32 ∧ s.runEn = true ∧ s.latchFull = false ∧ intentBad s.zk4 d m = true)
    ∧ (∃ (s : State) (d : Nat) (m : IntentMsg), d < 32 ∧ s.runEn = true ∧ s.latchFull = false ∧ intentBad s.zk4 d m = false ∧ s.rd R.BW_NETMAP_NET d ≠ 0xFF ∧ s.bit H.BW_SEEN d = true ∧ newer 8 (s.rd R.BW_FOLD_STAT_LAST_SEQ d) m.seq = false)
    ∧ (∃ (s : State) (d : Nat) (seq : Nat), d < computeFolds s.zk4 ∧ s.runEn = true ∧ s.latchFull = false ∧ s.rd R.BW_NETMAP_NET d ≠ 0xFF ∧ ((s.bit H.BW_SEEN d = true → newer 8 (s.rd R.BW_FOLD_STAT_LAST_SEQ d) seq = true)))
    ∧ (∃ (s : State) (d : Nat), (s.runEn = false ∨ 32 ≤ d))
    ∧ (∃ (s : State) (d : Nat), d < 32 ∧ s.runEn = true ∧ s.latchFull = true)
    ∧ (∃ (s : State) (d : Nat) (m : IntentMsg), d < 32 ∧ s.runEn = true ∧ s.latchFull = false ∧ intentBad s.zk4 d m = false ∧ s.rd R.BW_NETMAP_NET d = 0xFF)
    ∧ (∃ (s : State) (d : Nat) (o : Nat) (m : IntentMsg), d < 32 ∧ s.runEn = true ∧ s.latchFull = false ∧ intentBad s.zk4 d m = false ∧ s.rd R.BW_NETMAP_NET d ≠ 0xFF ∧ ((s.bit H.BW_SEEN d = true → newer 8 (s.rd R.BW_FOLD_STAT_LAST_SEQ d) m.seq = true)) ∧ 65 ≤ o ∧ o ≤ 127 ∧ m.start < 256 ∧ m.start = (s.frame + 1 + o) % 256)
    ∧ (∃ (s : State) (d : Nat) (b : Nat) (m : IntentMsg), d < 32 ∧ s.runEn = true ∧ s.latchFull = false ∧ intentBad s.zk4 d m = false ∧ s.rd R.BW_NETMAP_NET d ≠ 0xFF ∧ ((s.bit H.BW_SEEN d = true → newer 8 (s.rd R.BW_FOLD_STAT_LAST_SEQ d) m.seq = true)) ∧ b ≤ 128 ∧ m.start < 256 ∧ m.start = (s.frame + 1 + 256 - b) % 256 ∧ (m.duration = 255 ∨ b < m.duration) ∧ (s.schedAt d (s.frame + 1)).length < 32)
    ∧ (∃ (s : State) (d : Nat) (b : Nat) (m : IntentMsg), d < 32 ∧ s.runEn = true ∧ s.latchFull = false ∧ intentBad s.zk4 d m = false ∧ s.rd R.BW_NETMAP_NET d ≠ 0xFF ∧ ((s.bit H.BW_SEEN d = true → newer 8 (s.rd R.BW_FOLD_STAT_LAST_SEQ d) m.seq = true)) ∧ b ≤ 128 ∧ m.start < 256 ∧ m.start = (s.frame + 1 + 256 - b) % 256 ∧ m.duration ≠ 255 ∧ m.duration ≤ b)
    ∧ (∃ (s : State) (d : Nat) (o : Nat) (m : IntentMsg), d < 32 ∧ s.runEn = true ∧ s.latchFull = false ∧ intentBad s.zk4 d m = false ∧ s.rd R.BW_NETMAP_NET d ≠ 0xFF ∧ ((s.bit H.BW_SEEN d = true → newer 8 (s.rd R.BW_FOLD_STAT_LAST_SEQ d) m.seq = true)) ∧ 1 ≤ o ∧ o ≤ 64 ∧ m.start < 256 ∧ m.start = (s.frame + 1 + o) % 256 ∧ 32 ≤ (s.schedAt d (s.frame + 1)).length)
    ∧ (∃ (s : State) (d : Nat), (s.runEn = false ∨ 32 ≤ d))
    ∧ (∃ (s : State) (d : Nat), d < 32 ∧ s.runEn = true ∧ s.latchFull = true)
    ∧ (∃ (s : State) (d : Nat) (fold : Nat) (rsv : Nat), d < 32 ∧ s.runEn = true ∧ s.latchFull = false ∧ (fold ≠ d ∨ computeFolds s.zk4 ≤ d ∨ rsv ≠ 0))
    ∧ (∃ (s : State) (d : Nat), d < computeFolds s.zk4 ∧ s.runEn = true ∧ s.latchFull = false ∧ s.rd R.BW_NETMAP_NET d = 0xFF)
    ∧ (∃ (s : State) (d : Nat) (seq : Nat), d < computeFolds s.zk4 ∧ s.runEn = true ∧ s.latchFull = false ∧ s.rd R.BW_NETMAP_NET d ≠ 0xFF ∧ s.bit H.BW_SEEN d = true ∧ newer 8 (s.rd R.BW_FOLD_STAT_LAST_SEQ d) seq = false) :=
  ⟨⟨b0, 3, 8, m0, by decide +kernel⟩,
    ⟨b0, 3, { m0 with tiles := 17}, by decide +kernel⟩,
    ⟨b0, 3, { m0 with seq := 4}, by decide +kernel⟩,
    ⟨b1, 3, 5, by decide +kernel⟩,
    ⟨b1, 32, by decide +kernel⟩,
    ⟨(mk [(H.BW_ARRIVED,0,256)] b1), 3, by decide +kernel⟩,
    ⟨(mk [(R.BW_NETMAP_NET,3,255)] b1), 3, m0, by decide +kernel⟩,
    ⟨b1, 3, 100, { m0 with start := 200 }, by decide +kernel⟩,
    ⟨b1, 3, 2, { m0 with start := 98 }, by decide +kernel⟩,
    ⟨b1, 3, 20, { m0 with start := 80 }, by decide +kernel⟩,
    ⟨{b0 with sched := List.replicate 32 ⟨3,100,0,0,0,1,5,33,90,false⟩}, 3, 8, m0, by decide +kernel⟩,
    ⟨State.reset, 3, by decide +kernel⟩,
    ⟨(mk [(H.BW_ARRIVED,0,256)] b1), 3, by decide +kernel⟩,
    ⟨b1, 3, 4, 0, by decide +kernel⟩,
    ⟨(mk [(R.BW_NETMAP_NET,3,255)] b1), 3, by decide +kernel⟩,
    ⟨b1, 3, 4, by decide +kernel⟩⟩

/-- The hypotheses of BellwetherForecastsAndAdds are met, clause by clause. -/
theorem witness_BellwetherForecastsAndAdds :
    (∃ (s : State) (fold : Nat), s.running = true ∧ s.bit R.FLT_INJ_ARM 0 = false ∧ s.bit H.BW_DONE 0 = false ∧ s.bit H.TWIN_FORM_DUE 0 = false ∧ fold ∈ s.folds ∧ fold < 64 ∧ (s.validNet fold).isSome = true)
    ∧ (∃ (s : State) (word : Nat) (k : Nat), s.running = true ∧ s.bit R.FLT_INJ_ARM 0 = false ∧ s.netOfWord word = some k ∧ k < 4 ∧ s.bit H.BW_DONE 0 = true ∧ s.bit H.TWIN_FORM_DUE 0 = false)
    ∧ (∃ (s : State) (rail : Nat) (h : Nat) (need : Nat), s.running = true ∧ rail ∈ s.rails ∧ ((∀ r ∈ s.rails, r ≠ rail → ∀ p ∈ s.phasesOf r, p ∉ s.phasesOf rail)) ∧ h = min 8 (s.rd R.BW_RAIL_CTRL_EA_H rail) ∧ 0 < h ∧ s.rd R.PD_RAIL_SHED_ADD_CUR rail ≠ 0 ∧ need = (((List.range h).map (fun k => s.rd H.BW_FRAIL (8 * rail + k))).foldl max 0 * 10
      + 8 * s.rd R.PD_RAIL_SHED_ADD_CUR rail - 1) / (8 * s.rd R.PD_RAIL_SHED_ADD_CUR rail) ∧ s.nPulse rail < need ∧ need - s.nPulse rail < 32)
    ∧ (∃ (s : State) (w : WCtx), Writable s w R.BW_CLEAR_RAILS 0)
    ∧ (∃ (s : State) (w : WCtx), Writable s w R.BW_CLEAR_FOLDS 0)
    ∧ (∃ (s : State) (fold : Nat) (k : Nat), s.running = true ∧ s.bit R.FLT_INJ_ARM 0 = false ∧ s.bit H.BW_DONE 0 = false ∧ s.bit H.TWIN_FORM_DUE 0 = false ∧ fold ∈ s.folds ∧ fold < 64 ∧ s.validNet fold = some k ∧ ((∀ r ∈ s.rails, s.missed r = false)))
    ∧ (∃ (s : State), s.running = true ∧ s.bit R.FLT_INJ_ARM 0 = false ∧ s.bit H.BW_DONE 0 = true ∧ s.bit H.TWIN_FORM_DUE 0 = false)
    ∧ (∃ (s : State), s.running = false ∧ s.bit H.TWIN_FORM_DUE 0 = false)
    ∧ (∃ (s : State) (word : Nat) (k : Nat), s.running = true ∧ s.bit R.FLT_INJ_ARM 0 = false ∧ s.netOfWord word = some k ∧ k < 4 ∧ s.bit H.BW_DONE 0 = true ∧ s.bit H.TWIN_FORM_DUE 0 = false)
    ∧ (∃ (s : State), s.running = false)
    ∧ (∃ (s : State), ((∀ r ∈ s.rails, s.rd R.BW_RAIL_CTRL_EA_H r = 0 ∨ (s.rd R.PD_RAIL_SHED_ADD_CUR r ≠ 0
      ∧ ∀ k < 8, s.rd H.BW_FRAIL (8 * r + k) * 10 ≤ 8 * s.rd R.PD_RAIL_SHED_ADD_CUR r * s.nPulse r))))
    ∧ (∃ (s : State) (errs : List WeightErr) (fold : Nat) (k : Nat), s.running = true ∧ s.bit R.FLT_INJ_ARM 0 = false ∧ s.bit H.BW_DONE 0 = false ∧ s.bit H.TWIN_FORM_DUE 0 = false ∧ fold ∈ s.folds ∧ fold < 64 ∧ s.validNet fold = some k ∧ ((∀ e ∈ errs, e.double = true → s.netOfWord e.word ≠ some k)))
    ∧ (∃ (s : State) (errs : List WeightErr) (e : WeightErr) (fold : Nat) (k : Nat), s.running = true ∧ s.bit R.FLT_INJ_ARM 0 = false ∧ s.bit H.BW_DONE 0 = false ∧ s.bit H.TWIN_FORM_DUE 0 = false ∧ fold ∈ s.folds ∧ fold < 64 ∧ s.validNet fold = some k ∧ k < 4 ∧ e ∈ errs ∧ e.double = true ∧ s.netOfWord e.word = some k) :=
  ⟨⟨b0, 3, by decide +kernel⟩,
    ⟨(mk [(H.BW_DONE,0,1)] b0), 0, 1, by decide +kernel⟩,
    ⟨e0, 2, 4, 4, by decide +kernel⟩,
    ⟨b0, ⟨.hart 1, 0⟩, by decide +kernel⟩,
    ⟨b0, ⟨.hart 1, 0⟩, by decide +kernel⟩,
    ⟨b0, 3, 1, by decide +kernel⟩,
    ⟨(mk [(H.BW_DONE,0,1)] b0), by decide +kernel⟩,
    ⟨State.reset, by decide +kernel⟩,
    ⟨(mk [(H.BW_DONE,0,1)] b0), 0, 1, by decide +kernel⟩,
    ⟨State.reset, by decide +kernel⟩,
    ⟨(mk [(H.BW_FRAIL,17,2)] e0), by decide +kernel⟩,
    ⟨b0, [⟨70000, true⟩, ⟨0, false⟩], 3, 1, by decide +kernel⟩,
    ⟨b0, [⟨0, false⟩, ⟨0, true⟩], ⟨0, true⟩, 3, 1, by decide +kernel⟩⟩

end Sys2Proof.Tests.P35

namespace Sys2Proof.Tests.P40

def rSlot (n out : Nat) : Rec := ⟨n, ([1,3,48,0, n,3,0xF0,0,100,0,3,1,5,out,3,0,0,0,0,0,8,0,0,0] ++ [1,0,0,0,0,0,0,0, 7,0,0,0,1,0,0,0, 0x10,0,0,0,1,0,0,0]).map (BitVec.ofNat 8)⟩
def t0 (role : Nat) : State := mk [(R.TWIN_STATUS_ROLE,0,role),(R.FRAME_COUNT,0,2^32+77),(H.LE_OUT_STAGED,0,1),(R.TWIN_STATUS_PEER_ROLE,0,3),(H.LE_NEXT_VALID,7,1),(H.LE_NEXT_OUT,7,55),(R.LE_SLOT_OUT_CALC,7,66),(H.TWIN_IDC,9,8),(R.PD_RAIL_CFG_COUNT, 2, 6),(R.PD_RAIL_MASK_MASK, 2, 63),(R.PD_STATUS_DRIVING,0,1),(R.TWIN_STATUS_PEER_READY,0,1)] { State.reset with map := {State.reset.map with recs := [rSlot 7 21, rSlot 9 22] } }
def tf (r : Nat) : State := mk [(R.PD_STATUS_DRIVING,0,0),(H.TWIN_FORM_DUE,0,1)] (t0 r)
def g0 (r ok pg : Nat) : State := mk [(H.LE_GOLD_TWIN,7,1),(H.FLT_TEST_PEND,7,1),(H.LE_GOLD_J,7,5),(H.LE_GOLD_OK,7,ok),(H.TWIN_PEER_GOLD,7,pg)] (t0 r)

/-- The hypotheses of TwinLinkPacketsAreTaken are met, clause by clause. -/
theorem witness_TwinLinkPacketsAreTaken :
    (∃ (p : OutputPkt), p.crcOk = false)
    ∧ (∃ (p : StatusPkt), p.crcOk = true)
    ∧ (∃ (s : State) (a : Nat) (b : List Byte), (s.role = 1 ∨ s.role = 2 ∨ s.role = 3) ∧ s.copyRange a b.length = true)
    ∧ (∃ (s : State), s.role = 1 ∧ s.bit H.TWIN_COPY_SEEN 0 = true)
    ∧ (∃ (p : StatusPkt), p.crcOk = false)
    ∧ (∃ (p : InputPkt), p.crcOk = false)
    ∧ (∃ (p : MirrorPkt), p.crcOk = false)
    ∧ (∃ (p : BulkPkt), p.crcOk = false)
    ∧ (∃ (s : State) (p : StatusPkt), p.crcOk = true ∧ (s.role = 2 ∨ s.role = 3) ∧ s.rd H.TWIN_NEXT_ROLE 0 ≠ 1 ∧ p.role ≠ 0 ∧ p.frame % 2 ^ 32 ≠ s.frame % 2 ^ 32)
    ∧ (∃ (s : State) (p : StatusPkt), p.crcOk = true ∧ (s.role = 1 ∨ s.role = 2 ∨ s.role = 3) ∧ p.role = 0)
    ∧ (∃ (s : State), s.role = 1 ∧ s.bit H.TWIN_COPY_SEEN 0 = false)
    ∧ (∃ (s : State) (slot : Nat) (st : List Nat), s.role = 1 ∧ slot < 256 ∧ st.length = 5)
    ∧ (∃ (s : State) (l : List (Nat × Nat)) (k : Nat) (st : Nat), s.role = 1 ∧ l = [(k, st)] ∧ k < 1536)
    ∧ (∃ (s : State) (f : Nat), s.role = 1 ∧ f < 64)
    ∧ (∃ (s : State), (s.role = 1 ∨ s.role = 2 ∨ s.role = 3))
    ∧ (∃ (s : State), (s.role = 1 ∨ s.role = 2 ∨ s.role = 3))
    ∧ (∃ (s : State) (d : Nat) (v : Int), d < 64 ∧ diodePresent s.zk4 d = true ∧ s.diodeOwn d = false ∧ -32768 ≤ v ∧ v < 32768)
    ∧ (∃ (s : State) (n : Nat) (i : Nat), sourceChannel n = some i ∧ s.bit H.TWIN_ID_TEST i = false)
    ∧ (∃ (s : State) (op : BulkOp), (s.role = 0 ∨ s.role = 4) ∧ (match op with
      | .slotState _ _ _ | .pdSnap _ | .schedule _ _ _ _ | .siteStates _ | .storeBytes _ _ | .progress _ | .epoch _
      | .takeRound _ => True
      | _ => False)) :=
  ⟨⟨⟨false, [], [], false, none⟩, by decide +kernel⟩,
    ⟨⟨true, 99, 4, true, 5, 1, 7, true⟩, by decide +kernel⟩,
    ⟨(t0 1), ((t0 1).glBase + 3), [1,2,0,5], by decide +kernel⟩,
    ⟨(mk [(H.TWIN_COPY_SEEN,0,1)] (t0 1)), by decide +kernel⟩,
    ⟨⟨false, 99, 0, false, 5, 1, 7, true⟩, by decide +kernel⟩,
    ⟨⟨false, [], [(2,70000,70001)], [], [], 5⟩, by decide +kernel⟩,
    ⟨⟨false, 90, .commitAt 90⟩, by decide +kernel⟩,
    ⟨⟨false, .progress 5⟩, by decide +kernel⟩,
    ⟨(t0 3), ⟨true, 99, 4, false, 5, 1, 7, true⟩, by decide +kernel⟩,
    ⟨(t0 3), ⟨true, 99, 0, false, 5, 1, 7, true⟩, by decide +kernel⟩,
    ⟨(t0 1), by decide +kernel⟩,
    ⟨(t0 1), 255, [1,2,3,4,3], by decide +kernel⟩,
    ⟨(t0 1), [(1535,3)], 1535, 3, by decide +kernel⟩,
    ⟨(t0 1), 5, by decide +kernel⟩,
    ⟨(t0 2), by decide +kernel⟩,
    ⟨(t0 2), by decide +kernel⟩,
    ⟨(t0 2), 16, (-5), by decide +kernel⟩,
    ⟨(t0 2), 0x19D, 1, by decide +kernel⟩,
    ⟨(t0 4), (.epoch 5), by decide +kernel⟩⟩

/-- The hypotheses of TwinFramesAreCompared are met, clause by clause. -/
theorem witness_TwinFramesAreCompared :
    (∃ (s : State) (p : OutputPkt), p.crcOk = true ∧ s.peerCompares = true ∧ s.bit H.TWIN_UNC 0 = false ∧ s.bit H.LE_OUT_STAGED 0 = true ∧ s.bit H.TWIN_CMP 0 = false ∧ ((∀ l ∈ s.slots, s.ownOut l = outSlot p l)))
    ∧ (∃ (s : State) (p : OutputPkt) (l : Nat), p.crcOk = true ∧ s.peerCompares = true ∧ s.bit H.TWIN_UNC 0 = false ∧ s.bit H.LE_OUT_STAGED 0 = true ∧ s.bit H.TWIN_CMP 0 = false ∧ l ∈ s.slots ∧ l < 256 ∧ s.ownOut l ≠ outSlot p l)
    ∧ (∃ (s : State) (p : InputPkt) (rail : Nat) (c0 : Nat) (c1 : Nat), p.crcOk = true ∧ s.follows = true ∧ s.bit H.TWIN_FORM_DUE 0 = true ∧ rail ∈ s.rails ∧ p.rails.filter (fun x => x.1 == rail) = [(rail, c0, c1)])
    ∧ (∃ (s : State), (s.role = 2 ∨ s.role = 3) ∧ s.bit H.TWIN_FORM_DUE 0 = true)
    ∧ (∃ (s : State) (ch : Nat), ch < 128 ∧ srcPresent s.zk4 (0x19C + ch) = true ∧ s.rd H.TWIN_IDC ch = 8)
    ∧ (∃ (s : State), s.peerCompares = true ∧ s.holder = false ∧ s.rd R.RUN_LIVE 0 = 2)
    ∧ (∃ (s : State) (p : OutputPkt) (l : Nat), p.crcOk = true ∧ s.peerCompares = true ∧ s.bit H.TWIN_UNC 0 = false ∧ s.bit H.LE_OUT_STAGED 0 = true ∧ s.bit H.TWIN_CMP 0 = false ∧ s.slots.filter (fun x => s.ownOut x != outSlot p x) = [l] ∧ l < 256)
    ∧ (∃ (s : State) (p : OutputPkt), p.crcOk = true ∧ (s.peerCompares = false ∨ s.bit H.TWIN_UNC 0 = true
      ∨ s.bit H.LE_OUT_STAGED 0 = false ∨ s.bit H.TWIN_CMP 0 = true))
    ∧ (∃ (s : State) (p : InputPkt), p.crcOk = true ∧ (s.follows = false ∨ s.bit H.TWIN_FORM_DUE 0 = false))
    ∧ (∃ (s : State), s.bit H.TWIN_FORM_DUE 0 = false)
    ∧ (∃ (s : State), s.role ≠ 2 ∧ s.role ≠ 3 ∧ s.bit H.TWIN_FORM_DUE 0 = true)
    ∧ (∃ (s : State) (ch : Nat), ch < 14 ∧ srcPresent s.zk4 (0x18E + ch) = true ∧ s.rd H.TWIN_IDC (128 + ch) = 8)
    ∧ (∃ (s : State) (rail : Bool) (ch : Nat), ((if rail then 14 else 128) ≤ ch ∨ s.rd H.TWIN_IDC (if rail then 128 + ch else ch) ≠ 8))
    ∧ (∃ (s : State) (p : MirrorPkt), p.crcOk = true ∧ s.peerCompares = false) :=
  ⟨⟨(t0 4), ⟨true, [(7,66,55)], [], false, none⟩, by decide +kernel⟩,
    ⟨(t0 3), ⟨true, [(7,66,54)], [], false, none⟩, 7, by decide +kernel⟩,
    ⟨(tf 3), ⟨true, [], [(2,70000,70002)], [], [], 5⟩, 2, 70000, 70002, by decide +kernel⟩,
    ⟨(tf 3), by decide +kernel⟩,
    ⟨(t0 3), 9, by decide +kernel⟩,
    ⟨(mk [(R.RUN_LIVE,0,2)] (t0 3)), by decide +kernel⟩,
    ⟨(t0 3), ⟨true, [(7,66,54)], [], false, none⟩, 7, by decide +kernel⟩,
    ⟨(mk [(H.TWIN_UNC,0,1)] (t0 3)), ⟨true, [(7,66,54)], [], false, some ⟨[(1,2,3)],[(2,5,6)]⟩⟩, by decide +kernel⟩,
    ⟨(t0 3), ⟨true, [], [(2,70000,70002)], [], [], 5⟩, by decide +kernel⟩,
    ⟨(t0 3), by decide +kernel⟩,
    ⟨(tf 1), by decide +kernel⟩,
    ⟨(mk [(H.TWIN_IDC,130,8)] (t0 3)), 2, by decide +kernel⟩,
    ⟨(t0 3), true, 9, by decide +kernel⟩,
    ⟨(t0 1), ⟨true, 90, .commitAt 90⟩, by decide +kernel⟩⟩

/-- The hypotheses of TwinRolesAndSilence are met, clause by clause. -/
theorem witness_TwinRolesAndSilence :
    (∃ (s : State), s.role = 1 ∧ s.rd R.TWIN_SYNC_COPY_PCT 0 = 100 ∧ s.bit H.TWIN_FR_EQ 0 = true ∧ s.rd H.TWIN_NEXT_ROLE 0 ≠ 1)
    ∧ (∃ (s : State), s.role = 2 ∧ max 64 (s.rd R.TWIN_CTRL_CLEAN_FRAMES 0) ≤ s.rd R.TWIN_SYNC_CLEAN 0 ∧ s.rd H.TWIN_NEXT_ROLE 0 ≠ 1)
    ∧ (∃ (s : State), s.rd H.TWIN_RDY_AGE 0 = 3)
    ∧ (∃ (s : State), s.role = 3 ∧ s.rd H.TWIN_ST_AGE 0 = 3 ∧ s.rd H.TWIN_MESH_AGE 0 ≠ 3 ∧ s.bit H.TWIN_LD_RAISED 0 = false)
    ∧ (∃ (s : State), s.role = 3 ∧ s.rd H.TWIN_ST_AGE 0 = 3 ∧ s.rd H.TWIN_MESH_AGE 0 = 3 ∧ s.bit R.TWIN_STATUS_GATE_PEER 0 = true ∧ s.bit H.TWIN_PS_RAISED 0 = false)
    ∧ (∃ (s : State), (s.role ≠ 1 ∨ s.rd R.TWIN_SYNC_COPY_PCT 0 ≠ 100 ∨ s.bit H.TWIN_FR_EQ 0 = false ∨ s.rd H.TWIN_NEXT_ROLE 0 = 1))
    ∧ (∃ (s : State), (s.role ≠ 2 ∨ s.rd R.TWIN_SYNC_CLEAN 0 < max 64 (s.rd R.TWIN_CTRL_CLEAN_FRAMES 0)
      ∨ s.rd H.TWIN_NEXT_ROLE 0 = 1))
    ∧ (∃ (s : State), s.rd H.TWIN_RDY_AGE 0 ≠ 3)
    ∧ (∃ (s : State), (s.role ≠ 3 ∨ s.rd H.TWIN_ST_AGE 0 ≠ 3 ∨ s.rd H.TWIN_MESH_AGE 0 = 3 ∨ s.bit H.TWIN_LD_RAISED 0 = true))
    ∧ (∃ (s : State), (s.role ≠ 3 ∨ s.rd H.TWIN_ST_AGE 0 ≠ 3 ∨ s.rd H.TWIN_MESH_AGE 0 ≠ 3
      ∨ s.bit R.TWIN_STATUS_GATE_PEER 0 = false ∨ s.bit H.TWIN_PS_RAISED 0 = true)) :=
  ⟨⟨(mk [(R.TWIN_SYNC_COPY_PCT,0,100),(H.TWIN_FR_EQ,0,1)] (t0 1)), by decide +kernel⟩,
    ⟨(mk [(R.TWIN_SYNC_CLEAN,0,6400),(R.TWIN_CTRL_CLEAN_FRAMES,0,100)] (t0 2)), by decide +kernel⟩,
    ⟨(t0 3), by decide +kernel⟩,
    ⟨(mk [(H.TWIN_MESH_AGE,0,1)] (t0 3)), by decide +kernel⟩,
    ⟨(mk [(R.TWIN_STATUS_GATE_PEER,0,1)] (t0 3)), by decide +kernel⟩,
    ⟨(t0 3), by decide +kernel⟩,
    ⟨(t0 2), by decide +kernel⟩,
    ⟨(mk [(H.TWIN_RDY_AGE,0,1)] (t0 3)), by decide +kernel⟩,
    ⟨(t0 3), by decide +kernel⟩,
    ⟨(t0 3), by decide +kernel⟩⟩

/-- The hypotheses of GateAndGoldenVerdicts are met, clause by clause. -/
theorem witness_GateAndGoldenVerdicts :
    (∃ (s : State), s.holder = true ∧ s.bit R.TWIN_STATUS_PEER_READY 0 = true)
    ∧ (∃ (s : State), s.bit R.TWIN_STATUS_PEER_READY 0 = false)
    ∧ (∃ (s : State), (s.role = 3 ∨ s.role = 4) ∧ s.bit R.TWIN_STATUS_GATE_PEER 0 = false ∧ s.bit R.TH_TRIP_NET_LOW 0 = false)
    ∧ (∃ (s : State), (s.bit R.TWIN_STATUS_GATE_PEER 0 = true ∨ s.bit R.TH_TRIP_NET_LOW 0 = true))
    ∧ (∃ (s : State), s.bit R.TWIN_STATUS_GATE_OWN 0 = true ∧ s.bit R.PD_STATUS_DRIVING 0 = false ∧ (s.role = 3 ∨ s.role = 4) ∧ ¬(s.ident.instB = true ∧ s.bit R.TWIN_STATUS_GATE_PEER 0 = true))
    ∧ (∃ (s : State), s.bit R.TWIN_STATUS_GATE_OWN 0 = true ∧ s.bit R.PD_STATUS_DRIVING 0 = false ∧ s.ident.instB = true ∧ (s.role = 3 ∨ s.role = 4) ∧ s.bit R.TWIN_STATUS_GATE_PEER 0 = true)
    ∧ (∃ (s : State) (l : Nat) (hp : Bool) (sp : Bool), l < 256 ∧ s.bit H.LE_GOLD_TWIN l = true ∧ s.bit H.FLT_TEST_PEND l = true ∧ s.rd H.LE_GOLD_J l = 5 ∧ s.bit H.LE_GOLD_OK l = (if s.holder then hp else sp) ∧ s.rd H.TWIN_PEER_GOLD l = (if (if s.holder then sp else hp) then 1 else 2))
    ∧ (∃ (s : State) (c : KeeperCause), s.holder = true ∧ s.bit R.TWIN_STATUS_PEER_READY 0 = true ∧ (c = .timeBase ∨ (c = .lostFrames ∧ 2 ≤ s.rd H.TWIN_LOST 0) ∨ (c = .reset ∧ s.upperReset = true)))
    ∧ (∃ (s : State) (c : KeeperCause), (s.holder = false ∨ (c = .lostFrames ∧ s.rd H.TWIN_LOST 0 < 2)
      ∨ (c = .reset ∧ s.upperReset = false)))
    ∧ (∃ (s : State), s.role ≠ 3 ∧ s.role ≠ 4)
    ∧ (∃ (s : State), (s.bit R.TWIN_STATUS_GATE_OWN 0 = false ∨ s.bit R.PD_STATUS_DRIVING 0 = true ∨ (s.role ≠ 3 ∧ s.role ≠ 4)))
    ∧ (∃ (s : State) (l : Nat) (hp : Bool) (sp : Bool), (s.bit H.LE_GOLD_TWIN l = false ∨ s.bit H.FLT_TEST_PEND l = false
      ∨ s.rd H.LE_GOLD_J l ≠ 5 ∨ s.bit H.LE_GOLD_OK l ≠ (if s.holder then hp else sp)
      ∨ s.rd H.TWIN_PEER_GOLD l ≠ (if (if s.holder then sp else hp) then 1 else 2))) :=
  ⟨⟨(t0 4), by decide +kernel⟩,
    ⟨(mk [(R.TWIN_STATUS_PEER_READY,0,0)] (t0 4)), by decide +kernel⟩,
    ⟨(t0 3), by decide +kernel⟩,
    ⟨(mk [(R.TWIN_STATUS_GATE_PEER,0,1)] (t0 3)), by decide +kernel⟩,
    ⟨(mk [(R.TWIN_STATUS_GATE_OWN,0,1),(R.PD_STATUS_DRIVING,0,0),(H.TWIN_LD_HAVE,0,1),(H.TWIN_LD_ST,3,1)] (t0 3)), by decide +kernel⟩,
    ⟨{mk [(R.TWIN_STATUS_GATE_OWN,0,1),(R.PD_STATUS_DRIVING,0,0),(R.TWIN_STATUS_GATE_PEER,0,1)] (t0 3) with ident := {State.reset.ident with instB := true}}, by decide +kernel⟩,
    ⟨(g0 4 1 1), 7, true, true, by decide +kernel⟩,
    ⟨(mk [(H.TWIN_LOST,0,2)] (t0 4)), .lostFrames, by decide +kernel⟩,
    ⟨(t0 4), .reset, by decide +kernel⟩,
    ⟨(t0 2), by decide +kernel⟩,
    ⟨(t0 3), by decide +kernel⟩,
    ⟨(t0 3), 7, true, false, by decide +kernel⟩⟩

end Sys2Proof.Tests.P40

namespace Sys2Proof.Tests.P45

def ck : State := mk [(R.CLK_STATUS_REF,0,1),(R.CLK_CTRL_XB_EN,0,1),(R.CLK_CTRL_XA_EN,0,1),(R.CLK_STATUS_XB_AMP_OK,0,1),(R.CLK_STATUS_XA_AMP_OK,0,1),(R.CLK_EN_EN,0,0x7ff),(R.TALLY_STAT_RESTORED,0,1),(R.CLK_CTRL_REC_EN,0,1),(R.CLK_STATUS_LOCK,0,1),(R.CLK_STATUS_LOCK,1,1),(R.CLK_STATUS_LOCK,2,1)] State.reset
def wc : WCtx := ⟨.psc, 0⟩
def cd : State := mk [(R.CLK_STATUS_ON_FRC,0,0),(R.CLK_STATUS_ON_FRC,1,0),(R.CLK_STATUS_ON_FRC,2,0),(R.CLK_STATUS_ON_FRC,3,0)] ck
def ce : State := mk [(R.CLK_STATUS_ON_FRC,0,1),(R.CLK_STATUS_ON_FRC,1,1),(R.CLK_STATUS_ON_FRC,2,1),(R.CLK_CTRL_RETURN_AUTO,0,1)] ck
def cf : State := mk [(H.CLK_SW,2,1),(H.CLK_SW_COARSE,2,1)] ck

/-- The hypotheses of ReferencesAndCrystals are met, clause by clause. -/
theorem witness_ReferencesAndCrystals :
    (∃ (s : State) (src : Nat) (k : Nat), src < 5 ∧ src ≠ 3 ∧ s.rd R.CLK_STATUS_REF 0 = src ∧ k < 4 ∧ k ≠ src ∧ s.eligible k = true ∧ ((∀ j < k, j ≠ src → s.eligible j = false)))
    ∧ (∃ (s : State) (src : Nat), src < 5 ∧ src ≠ 3 ∧ s.rd R.CLK_STATUS_REF 0 ≠ src)
    ∧ (∃ (s : State) (x : Nat), x < 2 ∧ s.bit (xEn x) 0 = true ∧ s.bit H.CLK_XIDLE x = false)
    ∧ (∃ (s : State) (x : Nat), x < 2 ∧ s.bit (xEn x) 0 = true ∧ s.bit (xAmp x) 0 = false)
    ∧ (∃ (s : State) (x : Nat), x < 2 ∧ s.bit (xEn x) 0 = true)
    ∧ (∃ (s : State) (x : Nat), x < 2 ∧ s.rd R.CLK_STATUS_REF 0 ≠ xSrc x)
    ∧ (∃ (s : State) (x : Nat), x < 2 ∧ s.rd R.CLK_STATUS_REF 0 = xSrc x ∧ s.bit R.CLK_STATUS_FRC_BAD 0 = false)
    ∧ (∃ (s : State) (src : Nat), s.bit R.CLK_CTRL_AUTO_RET 0 = true ∧ s.onTwinClock = false ∧ (s.countedGood src).eligible src = true ∧ src < s.rd R.CLK_STATUS_REF 0)
    ∧ (∃ (src : Nat), (src = 3 ∨ 4 < src))
    ∧ (∃ (s : State) (src : Nat), (src < 3 ∨ src = 4) ∧ s.rd R.CLK_STATUS_REF 0 = src ∧ ((∀ k < 4, k ≠ src → s.eligible k = false)))
    ∧ (∃ (s : State) (x : Nat), (2 ≤ x ∨ s.bit (xEn x) 0 = false))
    ∧ (∃ (s : State) (x : Nat), s.bit H.CLK_XIDLE x = true)
    ∧ (∃ (s : State) (x : Nat), s.bit (xAmp x) 0 = true)
    ∧ (∃ (x : Nat), 2 ≤ x)
    ∧ (∃ (s : State) (src : Nat), (s.bit R.CLK_CTRL_AUTO_RET 0 = false ∨ s.onTwinClock = true ∨ (s.countedGood src).eligible src = false
      ∨ s.rd R.CLK_STATUS_REF 0 ≤ src)) :=
  ⟨⟨ck, 1, 2, by decide +kernel⟩,
    ⟨ck, 2, by decide +kernel⟩,
    ⟨(mk [(R.CLK_STATUS_XA_AMP_OK,0,0),(R.CLK_STATUS_XA_START_FAIL,0,1)] ck), 0, by decide +kernel⟩,
    ⟨(mk [(R.CLK_STATUS_XA_AMP_OK,0,0)] ck), 0, by decide +kernel⟩,
    ⟨(mk [(R.CLK_STATUS_XA_AMP_OK,0,0),(H.CLK_XIDLE,0,1)] ck), 0, by decide +kernel⟩,
    ⟨ck, 0, by decide +kernel⟩,
    ⟨ck, 1, by decide +kernel⟩,
    ⟨(mk [(R.CLK_STATUS_REF,0,2),(R.CLK_CTRL_AUTO_RET,0,1)] ck), 1, by decide +kernel⟩,
    ⟨3, by decide +kernel⟩,
    ⟨(mk [(R.CLK_CTRL_XA_EN,0,0),(R.CLK_STATUS_FRC_BAD,0,1)] ck), 1, by decide +kernel⟩,
    ⟨(mk [(R.CLK_CTRL_XA_EN,0,0)] ck), 0, by decide +kernel⟩,
    ⟨(mk [(H.CLK_XIDLE,1,1)] ck), 1, by decide +kernel⟩,
    ⟨ck, 0, by decide +kernel⟩,
    ⟨2, by decide +kernel⟩,
    ⟨(mk [(R.CLK_CTRL_AUTO_RET,0,1)] ck), 1, by decide +kernel⟩⟩

/-- The hypotheses of DomainsFallBackAndReturn are met, clause by clause. -/
theorem witness_DomainsFallBackAndReturn :
    (∃ (s : State) (d : Nat), d < 6 ∧ s.bit R.CLK_STATUS_ON_FRC d = false ∧ s.bit R.CLK_STATUS_MON_BAD d = false ∧ s.bit R.CLK_STATUS_FRC_BAD 0 = false)
    ∧ (∃ (s : State) (d : Nat), d < 6 ∧ s.bit R.CLK_STATUS_ON_FRC d = false ∧ s.bit R.CLK_STATUS_MON_BAD d = false ∧ s.bit R.CLK_STATUS_FRC_BAD 0 = false)
    ∧ (∃ (s : State) (d : Nat), d < 6 ∧ s.bit R.CLK_STATUS_ON_FRC d = false ∧ s.bit R.CLK_STATUS_MON_BAD d = false ∧ s.bit R.CLK_STATUS_FRC_BAD 0 = true)
    ∧ (∃ (s : State), s.rd R.CLK_STATUS_REF 0 ≠ 3)
    ∧ (∃ (s : State) (d : Nat), s.bit R.CLK_CTRL_RETURN_AUTO 0 = true ∧ s.mayReturn d = true)
    ∧ (∃ (s : State) (d : Nat), d < 6 ∧ s.bit H.CLK_SW d = true)
    ∧ (∃ (s : State) (d : Nat), d < 6 ∧ s.bit H.CLK_SW d = true)
    ∧ (∃ (s : State) (d : Nat), (6 ≤ d ∨ s.bit R.CLK_STATUS_MON_BAD d = true ∨ (2 ≤ d ∧ s.bit R.CLK_STATUS_ON_FRC d = true)))
    ∧ (∃ (s : State) (d : Nat), d < 6 ∧ s.bit R.CLK_STATUS_ON_FRC d = false ∧ s.bit R.CLK_STATUS_MON_BAD d = false ∧ s.bit R.CLK_STATUS_FRC_BAD 0 = true)
    ∧ (∃ (s : State) (k : Nat), s.rd R.CLK_STATUS_REF 0 = 3 ∧ k < 3 ∧ s.eligible k = true ∧ ((∀ j < k, s.eligible j = false)))
    ∧ (∃ (s : State) (d : Nat), (s.bit R.CLK_CTRL_RETURN_AUTO 0 = false ∨ s.mayReturn d = false))
    ∧ (∃ (s : State) (d : Nat), (6 ≤ d ∨ s.bit H.CLK_SW d = false)) :=
  ⟨⟨cd, 0, by decide +kernel⟩,
    ⟨cd, 2, by decide +kernel⟩,
    ⟨(mk [(R.CLK_STATUS_FRC_BAD,0,1)] cd), 2, by decide +kernel⟩,
    ⟨cd, by decide +kernel⟩,
    ⟨ce, 0, by decide +kernel⟩,
    ⟨cf, 2, by decide +kernel⟩,
    ⟨cf, 2, by decide +kernel⟩,
    ⟨ce, 2, by decide +kernel⟩,
    ⟨(mk [(R.CLK_STATUS_FRC_BAD,0,1)] cd), 2, by decide +kernel⟩,
    ⟨(mk [(R.CLK_STATUS_REF,0,3)] cd), 1, by decide +kernel⟩,
    ⟨(mk [(R.CLK_CTRL_RETURN_AUTO,0,0)] ck), 2, by decide +kernel⟩,
    ⟨ck, 2, by decide +kernel⟩⟩

/-- The hypotheses of ClockRegistersAreWritten are met, clause by clause. -/
theorem witness_ClockRegistersAreWritten :
    (∃ (s : State) (w : WCtx) (d : Nat), Writable s w R.CLK_SWITCH_GO 0 ∧ s.mayReturn d = true ∧ d < 6)
    ∧ (∃ (s : State) (w : WCtx) (d : Nat), Writable s w R.CLK_SWITCH_GO 0 ∧ s.mayReturn d = false)
    ∧ (∃ (s : State) (w : WCtx) (v : Nat), Writable s w R.CLK_EN_EN 0 ∧ v < 2048 ∧ bitOf v 1 = true ∧ ((s.runEn = true → s.rd R.CLK_EN_EN 0 &&& v = s.rd R.CLK_EN_EN 0)))
    ∧ (∃ (s : State) (w : WCtx) (v : Nat), Writable s w R.CLK_EN_EN 0 ∧ v < 2048 ∧ bitOf v 1 = false ∧ bitOf (s.rd R.CLK_EN_EN 0) 1 = true)
    ∧ (∃ (s : State) (w : WCtx) (v : Nat), Writable s w R.CLK_DIV_HART_DIV 0 ∧ v < 16)
    ∧ (∃ (s : State) (w : WCtx) (v : Nat), Writable s w R.CLK_EN_EN 0 ∧ v < 2048 ∧ s.runEn = true ∧ s.rd R.CLK_EN_EN 0 &&& v ≠ s.rd R.CLK_EN_EN 0) :=
  ⟨⟨ce, wc, 0, by decide +kernel⟩,
    ⟨cd, wc, 2, by decide +kernel⟩,
    ⟨ce, wc, 0x3, by decide +kernel⟩,
    ⟨ce, wc, 0x7fd, by decide +kernel⟩,
    ⟨cd, wc, 0x6, by decide +kernel⟩,
    ⟨(mk [(R.RUN_EN,0,1)] ce), wc, 0x3ff, by decide +kernel⟩⟩

end Sys2Proof.Tests.P45

namespace Sys2Proof.Tests.P46

def ra : State := mk [(H.RST_SEQ,0,0),(R.CLK_EN_EN,0,0x7ff),(R.RUN_EN,0,1),(R.RUN_STATE,0,2),(R.TH_TRIP_LATCHED,0,1),(R.FLT_SRC_STATE_STATE,0x382,5),(R.FLT_SRC_STATE_STATE,7,2),(R.FLT_SRC_STATE_CLASS,7,1),(R.FRAME_COUNT,0,77),(R.TWIN_STATUS_ROLE,0,3),(R.LE_SLOT_MODE_MODE,7,3),(R.PD_PH_STAT_STATE,4,2),(R.LE_STAGE_OP,4,3),(R.RST_STAT_HART,2,1),(R.FW_IMAGE_VERIFIED,0,1),(R.FW_HART_STAT_STATE,0,0),(R.FW_HART_STAT_STATE,1,0),(R.LE_SLOT_INTEG_INTEG,7,4),(R.LE_SLOT_CFG_DIV,7,3)] {State.reset with store := [(5,3)], fifo := [⟨1,false,false,3⟩]}
def wc : WCtx := ⟨.psc, 0⟩
def sameAll (l : List Fld) (a b : State) : Bool := l.all fun f => (List.range f.cnt).all fun i => a.rd f i == b.rd f i
def nx (o : Host.Outcome State Fault Refusal) : State := match o with | .next t => t | _ => State.reset
def tb := nx (exec (.holdNLow 100) ra)
def tl := nx (exec (.frameBoundary ⟨500, false⟩) {ra with staged := [⟨0,.reset 0⟩]})
def sh : State := mk [(R.FW_SHED_SHED_HI,0,80),(R.FW_SHED_SHED_LO,0,40),(R.FW_HART_STAT_LEVEL,1,2),(H.FW_LOW_WIN,1,3)] ra

/-- The hypotheses of ResetScopesLeaveWhatTheyName are met, clause by clause. -/
theorem witness_ResetScopesLeaveWhatTheyName :
    (∃ (s : State), s.rd R.FLT_SRC_STATE_STATE 0x382 ≠ 5)
    ∧ (∃ (ns : Nat), ns < 20)
    ∧ (∃ (ns : Nat), 100 ≤ ns)
    ∧ (∃ (s : State) (ns : Nat), 100 ≤ ns ∧ s.holder = false)
    ∧ (∃ (s : State) (w : WCtx), Writable s w R.RST_CMD_BLOCK 0)
    ∧ (∃ (s : State) (w : WCtx), Writable s w R.RST_CMD_LE 0)
    ∧ (∃ (s : State) (w : WCtx), Writable s w R.RST_CMD_TWIN 0)
    ∧ (∃ (s : State), ((∀ d < 6, s.bit H.CLK_SW d = false)))
    ∧ (∃ (s : State), s.rd R.FLT_SRC_STATE_STATE 0x382 = 5)
    ∧ (∃ (ns : Nat), 20 ≤ ns ∧ ns < 100)
    ∧ (∃ (s : State), ((∀ d < 6, s.bit H.CLK_SW d = true)))
    ∧ (∃ (s : State), s.rd H.RST_SEQ 0 ≠ 1 ∧ s.rd H.RST_DUE 0 = 0 ∧ s.staged = [⟨0, .reset 0⟩])
    ∧ (∃ (s : State), s.rd H.RST_SEQ 0 ≠ 1 ∧ s.rd H.RST_DUE 0 = 0 ∧ s.staged = [⟨0, .reset 1⟩])
    ∧ (∃ (s : State), s.rd H.RST_SEQ 0 ≠ 1 ∧ s.rd H.RST_DUE 0 = 0 ∧ s.staged = [⟨0, .reset 2⟩])
    ∧ (∃ (s : State) (k : Nat), s.rd H.RST_SEQ 0 ≠ 1 ∧ s.rd H.RST_DUE 0 = 0 ∧ k < 4 ∧ s.staged = [⟨0, .reset (4 + k)⟩]) :=
  ⟨⟨(mk [(R.FLT_SRC_STATE_STATE,0x382,0)] ra), by decide +kernel⟩,
    ⟨19, by decide +kernel⟩,
    ⟨100, by decide +kernel⟩,
    ⟨ra, 100, by decide +kernel⟩,
    ⟨ra, wc, by decide +kernel⟩,
    ⟨ra, wc, by decide +kernel⟩,
    ⟨ra, wc, by decide +kernel⟩,
    ⟨ra, by decide +kernel⟩,
    ⟨ra, by decide +kernel⟩,
    ⟨50, by decide +kernel⟩,
    ⟨(mk [(H.CLK_SW,0,1),(H.CLK_SW,1,1),(H.CLK_SW,2,1),(H.CLK_SW,3,1),(H.CLK_SW,4,1),(H.CLK_SW,5,1)] ra), by decide +kernel⟩,
    ⟨{ra with staged := [⟨0,.reset 0⟩]}, by decide +kernel⟩,
    ⟨{ra with staged := [⟨0,.reset 1⟩]}, by decide +kernel⟩,
    ⟨{ra with staged := [⟨0,.reset 2⟩]}, by decide +kernel⟩,
    ⟨{ra with staged := [⟨0,.reset 5⟩]}, 1, by decide +kernel⟩⟩

/-- The hypotheses of HartsAreResetRestartedAndShed are met, clause by clause. -/
theorem witness_HartsAreResetRestartedAndShed :
    (∃ (s : State) (k : Nat), k < 4 ∧ s.rd R.FW_HART_STAT_STATE k = 0)
    ∧ (∃ (s : State) (w : WCtx) (k : Nat), Writable s w R.RST_CMD_HART k ∧ k < 4)
    ∧ (∃ (s : State) (c : Nat) (k : Nat), k < 4 ∧ Writable s ⟨.hart k, c⟩ R.FW_HART_CTRL_SELF_RESET k)
    ∧ (∃ (s : State) (c : Nat) (k : Nat), k < 4 ∧ Writable s ⟨.hart k, c⟩ R.FW_HART_CTRL_KICK k)
    ∧ (∃ (s : State) (c : Nat) (j : Nat) (k : Nat), j ≠ k ∧ Writable s ⟨.hart j, c⟩ R.FW_HART_CTRL_KICK k)
    ∧ (∃ (s : State) (k : Nat), k < 2 ∧ s.rd R.FW_HART_STAT_STATE k = 2)
    ∧ (∃ (s : State) (k : Nat), k < 4 ∧ s.rd R.FW_HART_STAT_STATE k = 2)
    ∧ (∃ (s : State) (k : Nat), k < 4 ∧ s.rd R.FW_HART_STAT_STATE k = 0 ∧ s.bit R.FW_HART_CTRL_SLEEP_OK k = true)
    ∧ (∃ (s : State) (k : Nat), k < 4 ∧ s.rd R.FW_HART_STAT_STATE k = 1)
    ∧ (∃ (s : State) (k : Nat) (load : Nat), k < 4 ∧ s.rd R.FW_SHED_SHED_HI 0 ≤ load)
    ∧ (∃ (s : State) (k : Nat) (load : Nat), k < 4 ∧ load < s.rd R.FW_SHED_SHED_HI 0 ∧ load < s.rd R.FW_SHED_SHED_LO 0 ∧ s.rd H.FW_LOW_WIN k = 3)
    ∧ (∃ (s : State) (k : Nat) (load : Nat), k < 4 ∧ load < s.rd R.FW_SHED_SHED_HI 0 ∧ s.rd R.FW_SHED_SHED_LO 0 ≤ load)
    ∧ (∃ (s : State) (k : Nat), (4 ≤ k ∨ s.rd R.FW_HART_STAT_STATE k ≠ 0))
    ∧ (∃ (s : State) (k : Nat), s.bit R.FW_HART_CTRL_SLEEP_OK k = false)
    ∧ (∃ (s : State) (k : Nat), (4 ≤ k ∨ s.rd R.FW_HART_STAT_STATE k ≠ 1))
    ∧ (∃ (s : State) (k : Nat), (4 ≤ k ∨ s.rd R.FW_HART_STAT_STATE k ≠ 2))
    ∧ (∃ (s : State) (k : Nat), 2 ≤ k ∧ k < 4 ∧ s.rd R.FW_HART_STAT_STATE k = 2)
    ∧ (∃ (k : Nat), 4 ≤ k)
    ∧ (∃ (s : State) (k : Nat) (load : Nat), k < 4 ∧ load < s.rd R.FW_SHED_SHED_HI 0 ∧ load < s.rd R.FW_SHED_SHED_LO 0 ∧ s.rd H.FW_LOW_WIN k ≠ 3)
    ∧ (∃ (s : State) (c : Nat) (j : Nat) (k : Nat), j ≠ k ∧ Writable s ⟨.hart j, c⟩ R.FW_HART_CTRL_SELF_RESET k)
    ∧ (∃ (s : State) (k : Nat), k < 4 ∧ s.rd R.FW_HART_STAT_STATE k = 0 ∧ s.bit H.FW_CRC_OK k = true) :=
  ⟨⟨ra, 0, by decide +kernel⟩,
    ⟨ra, wc, 2, by decide +kernel⟩,
    ⟨ra, 0, 1, by decide +kernel⟩,
    ⟨(mk [(H.FW_CRC_OK,1,1),(H.FLT_TEST_PEND,0x2E9,1)] ra), 0, 1, by decide +kernel⟩,
    ⟨ra, 0, 1, 2, by decide +kernel⟩,
    ⟨(mk [(R.FW_HART_STAT_STATE,1,2)] ra), 1, by decide +kernel⟩,
    ⟨(mk [(R.FW_HART_STAT_STATE,2,2)] ra), 2, by decide +kernel⟩,
    ⟨(mk [(R.FW_HART_CTRL_SLEEP_OK,1,1)] ra), 1, by decide +kernel⟩,
    ⟨(mk [(R.FW_HART_STAT_STATE,1,1)] ra), 1, by decide +kernel⟩,
    ⟨sh, 1, 101, by decide +kernel⟩,
    ⟨sh, 1, 39, by decide +kernel⟩,
    ⟨sh, 1, 50, by decide +kernel⟩,
    ⟨(mk [(R.FW_HART_STAT_STATE,1,1)] ra), 1, by decide +kernel⟩,
    ⟨ra, 1, by decide +kernel⟩,
    ⟨ra, 1, by decide +kernel⟩,
    ⟨ra, 1, by decide +kernel⟩,
    ⟨(mk [(R.FW_HART_STAT_STATE,2,2)] ra), 2, by decide +kernel⟩,
    ⟨4, by decide +kernel⟩,
    ⟨(mk [(H.FW_LOW_WIN,1,1)] sh), 1, 30, by decide +kernel⟩,
    ⟨ra, 0, 1, 2, by decide +kernel⟩,
    ⟨(mk [(H.FW_CRC_OK,1,1),(H.FLT_TEST_PEND,0x2E9,1),(R.FW_IMAGE_VERIFIED,0,1)] ra), 1, by decide +kernel⟩⟩

end Sys2Proof.Tests.P46

namespace Sys2Proof.Tests.P50

def f0 : State := mk [(R.CLK_EN_EN,0,0x7ff),(R.FRAME_COUNT,0,900),(R.FLT_SRC_STATE_STATE,0x105,1),(H.FLT_TEST_PEND,0x105,1),(R.TALLY_STAT_RESTORED,0,1)] State.reset
def wc : WCtx := ⟨.psc, 0⟩
def f1 : State := mk [(R.FLT_SRC_STATE_STATE,0x19D,1),(H.FLT_TEST_PEND,0x19D,1)] f0
def f2 : State := mk [(R.FLT_SRC_STATE_STATE,7,1),(H.FLT_TEST_PEND,7,1),(H.FLT_RESULT,7,2)] f0
def f3 : State := mk [(R.FLT_SRC_STATE_STATE,7,3),(R.FLT_SRC_STATE_CLASS,7,1),(R.FLT_SRC_STATE_STATE,0x105,2)] State.reset
def f4 : State := mk [(H.FLT_TEST_PEND,0x31C,1),(H.FLT_TEST_LEFT,0x31C,4),(H.FLT_PROBES,0x31C,4),(H.FLT_PROBE_GOT,0x31C,7)] f0
def f5 : State := { f0 with ident := { f0.ident with zk4 := false}}
def f6 : State := mk ([(R.PD_RAIL_CFG_COUNT, 2, 6), (R.PD_RAIL_MASK_MASK, 2, 63)] ++ (List.range 6).map (fun p => (R.PD_PH_STAT_RAIL, p, 2)) ++ [(R.PD_PH_STAT_STATE,0,1),(R.PD_PH_STAT_STATE,1,3),(R.PD_PH_STAT_STATE,2,3),(R.PD_PH_STAT_STATE,3,3),(R.PD_PH_STAT_STATE,4,3)]) f0

/-- The hypotheses of SourcesAreJudgedAndCleared are met, clause by clause. -/
theorem witness_SourcesAreJudgedAndCleared :
    (∃ (s : State) (n : Nat) (v : TestVerdict) (u : TestVerdict), (srcKind n).isSome = true ∧ s.bit H.FLT_TEST_PEND n = true ∧ s.rd R.FLT_SRC_STATE_STATE n = 1 ∧ s.bit H.FLT_SEV_DUE n = false ∧ s.heldVerdict n v = some u)
    ∧ (∃ (s : State) (n : Nat), s.bit H.FLT_TEST_PEND n = false)
    ∧ (∃ (s : State) (n : Nat), (srcKind n).isSome = true ∧ n ≠ 0x36A ∧ s.bit H.FLT_TEST_PEND n = true ∧ s.rd H.FLT_TEST_LEFT n = 0 ∧ s.rd R.FLT_SRC_STATE_STATE n = 1 ∧ s.bit H.FLT_SEV_DUE n = false)
    ∧ (∃ (s : State) (n : Nat), n < 4096 ∧ s.rd R.FLT_SRC_STATE_QUIET_LEFT n = 0 ∧ s.rd R.FLT_SRC_STATE_STATE n = 3 ∧ s.holding n = false)
    ∧ (∃ (s : State) (n : Nat), (srcKind n).isSome = true ∧ s.rd R.FLT_SRC_STATE_QUIET_LEFT n = 0 ∧ s.rd R.FLT_SRC_STATE_STATE n = 2)
    ∧ (∃ (s : State) (n : Nat), s.rd R.FLT_SRC_STATE_QUIET_LEFT n ≠ 0)
    ∧ (∃ (s : State) (n : Nat), (srcKind n).isSome = true ∧ s.bit H.FLT_SEV_DUE n = true ∧ s.rd R.FLT_SRC_STATE_STATE n < 4)
    ∧ (∃ (s : State) (n : Nat), n < 4096 ∧ s.rd R.FLT_SRC_COUNT_WIN_LEFT n = 0)
    ∧ (∃ (s : State) (n : Nat) (v : TestVerdict), s.bit H.FLT_TEST_PEND n = true ∧ s.heldVerdict n v = none)
    ∧ (∃ (s : State) (n : Nat), (s.bit H.FLT_TEST_PEND n = false ∨ s.rd H.FLT_TEST_LEFT n ≠ 0))
    ∧ (∃ (s : State), s.bit H.FLT_TEST_PEND 0x36A = true ∧ s.rd H.FLT_TEST_LEFT 0x36A = 0 ∧ s.bit H.TWIN_REJOIN 0 = true ∧ s.rd R.FLT_SRC_STATE_STATE 0x36A = 1 ∧ s.bit H.FLT_SEV_DUE 0x36A = false)
    ∧ (∃ (s : State) (n : Nat), s.rd R.FLT_SRC_STATE_STATE n ≠ 2 ∧ (s.rd R.FLT_SRC_STATE_STATE n ≠ 3 ∨ s.holding n = true))
    ∧ (∃ (s : State) (n : Nat), (s.bit H.FLT_SEV_DUE n = false ∨ 4 ≤ s.rd R.FLT_SRC_STATE_STATE n))
    ∧ (∃ (s : State) (p : Nat), p < 128 ∧ s.bit H.FLT_SEV_DUE (0x100 + p) = true ∧ s.rd R.FLT_SRC_STATE_STATE (0x100 + p) < 4 ∧ s.bit R.PD_PH_STAT_DERATED p = true ∧ srcPresent s.zk4 (0x100 + p) = true)
    ∧ (∃ (s : State) (n : Nat), s.rd R.FLT_SRC_COUNT_WIN_LEFT n ≠ 0) :=
  ⟨⟨f0, 0x105, .fail, .fail, by decide +kernel⟩,
    ⟨f0, 7, by decide +kernel⟩,
    ⟨f0, 0x105, by decide +kernel⟩,
    ⟨f3, 7, by decide +kernel⟩,
    ⟨f3, 0x105, by decide +kernel⟩,
    ⟨(mk [(R.FLT_SRC_STATE_QUIET_LEFT,7,9)] f3), 7, by decide +kernel⟩,
    ⟨(mk [(H.FLT_SEV_DUE,7,1)] f3), 7, by decide +kernel⟩,
    ⟨(mk [(R.FLT_SRC_STATE_EVENTS,7,9)] f3), 7, by decide +kernel⟩,
    ⟨(mk [(H.FLT_TEST_PEND,0x36A,1)] f0), 0x36A, .pass, by decide +kernel⟩,
    ⟨f3, 7, by decide +kernel⟩,
    ⟨(mk [(H.FLT_TEST_PEND,0x36A,1),(H.TWIN_REJOIN,0,1),(R.FLT_SRC_STATE_STATE,0x36A,1)] f0), by decide +kernel⟩,
    ⟨f3, 9, by decide +kernel⟩,
    ⟨f3, 9, by decide +kernel⟩,
    ⟨(mk [(H.FLT_SEV_DUE,0x105,1),(R.PD_PH_STAT_DERATED,5,1),(R.PD_PH_STAT_STATE,5,1),(R.PD_PH_STAT_RAIL,5,2)] f3), 5, by decide +kernel⟩,
    ⟨(mk [(R.FLT_SRC_COUNT_WIN_LEFT,7,9)] f3), 7, by decide +kernel⟩⟩

/-- The hypotheses of ProbesInjectionsAndProofTests are met, clause by clause. -/
theorem witness_ProbesInjectionsAndProofTests :
    (∃ (s : State) (token : Nat) (n : Nat), s.bit H.FLT_TEST_PEND n = true ∧ (probeTarget n).isSome = true ∧ token < s.rd H.FLT_PROBES n ∧ s.probeAge n ≤ token + 2 ∧ token < 4)
    ∧ (∃ (s : State) (token : Nat) (n : Nat), (token + 2 < s.probeAge n ∨ s.bit H.FLT_TEST_PEND n = false ∨ probeTarget n = none
      ∨ s.rd H.FLT_PROBES n ≤ token))
    ∧ (∃ (s : State) (w : WCtx), Writable s w R.FLT_CMD_REJECT_CLR 0)
    ∧ (∃ (s : State) (w : WCtx) (target : Nat), Writable s w R.FLT_INJ_ARM 0 ∧ s.mayInject w.req target = true)
    ∧ (∃ (s : State) (w : WCtx) (target : Nat), Writable s w R.FLT_INJ_ARM 0 ∧ ((target = 0 ∨ 7 < target ∨ (s.zk4 = true ∧ s.ident.fieldLock = true))))
    ∧ (∃ (s : State) (p : Nat), p < phaseCount s.zk4 ∧ s.ph p = 3)
    ∧ (∃ (s : State) (d : Nat), s.diodeOwn d = true)
    ∧ (∃ (s : State) (p : Nat), p < 128 ∧ s.ph p = 5 ∧ srcPresent s.zk4 (0x100 + p) = true)
    ∧ (∃ (s : State) (p : Nat), (128 ≤ p ∨ (s.ph p ≠ 3 ∧ s.ph p ≠ 5)))
    ∧ (∃ (s : State) (d : Nat), s.diodeOwn d = false) :=
  ⟨⟨f4, 3, 0x31C, by decide +kernel⟩,
    ⟨f4, 0, 0x31C, by decide +kernel⟩,
    ⟨(mk [(R.FLT_REJECT_COUNT,0,5)] f4), ⟨.host, 0⟩, by decide +kernel⟩,
    ⟨f5, wc, 3, by decide +kernel⟩,
    ⟨f5, wc, 8, by decide +kernel⟩,
    ⟨f6, 2, by decide +kernel⟩,
    ⟨f6, 0, by decide +kernel⟩,
    ⟨(mk [(R.PD_PH_STAT_STATE,2,5)] f6), 2, by decide +kernel⟩,
    ⟨f6, 0, by decide +kernel⟩,
    ⟨f6, 63, by decide +kernel⟩⟩

end Sys2Proof.Tests.P50

namespace Sys2Proof.Tests.P55

def bs (l : List Nat) : List Byte := l.map (BitVec.ofNat 8)
def q0 : State := mk [(R.CLK_EN_EN,0,0x7ff),(R.BOOT_BLOCK_START,0,1),(H.STORE_ECC,0x401,2),(R.TALLY_STAT_RESTORED,0,1)] { State.reset with store := [(0x1000, 7), (0x1001, 9), (0x1005, 5),(0xFFFFF,4)] }
def wc : WCtx := ⟨.psc, 0⟩
def q1 : State := mk [(H.FLT_TEST_PEND,0x2EC,1),(R.FW_HART_STAT_STATE,3,0)] q0
def qh : State := { q0 with store := [(0x1000, 7), (0x1001, 9), (0x1005, 5),(0x80000,0x20),(0xFFFFF,4)] }
def q2 : State := mk [(R.STORE_AMO_ADDR_ADDR,2,0x400),(R.STORE_AMO_ADDR_OP,2,1)] q0
def q3 : State := mk [(R.FIFO_CTRL_SW_CONSUME,0,1)] { q0 with fifo := [⟨7,false,true,99⟩,⟨7,true,false,9⟩] }

/-- The hypotheses of StoreReadsWritesAndScrubs are met, clause by clause. -/
theorem witness_StoreReadsWritesAndScrubs :
    (∃ (s : State) (w : WCtx) (a : Nat) (b : List Byte), storeServed a b.length = true ∧ ((s.storeShut = false ∨ Requester.isHart w.req = true)) ∧ ((Requester.isHart w.req = true ∨ w.req = .psc ∨ s.allowedBytes w.req a b = (b, false))) ∧ ((Requester.isHart w.req = true → (a ≠ s.logAt ∨ b.length ≠ 32) ∧ (a ≠ s.traceAt ∨ b.length ≠ 16))) ∧ ((∀ k ∈ wordsInPart a b.length, s.rd H.STORE_ECC k = 0)))
    ∧ (∃ (s : State) (k : Nat) (b : List Byte), b.length = 32 ∧ s.rd R.FW_LOG_LEVEL_MIN 0 ≤ byteAt b 5 ∧ ((s.rd R.FW_HART_STAT_LEVEL k < 2 ∨ 3 ≤ byteAt b 5)))
    ∧ (∃ (a : Nat) (b : List Byte), storeServed a b.length = false)
    ∧ (∃ (s : State) (w : WCtx) (a : Nat) (b : List Byte), storeServed a b.length = true ∧ s.storeShut = true ∧ Requester.isHart w.req = false)
    ∧ (∃ (s : State) (w : WCtx) (a : Nat) (n : Nat), storeServed a n = true ∧ ((s.storeShut = false ∨ Requester.isHart w.req = true)) ∧ ((∀ k ∈ wordsAt a n, s.rd H.STORE_ECC k = 0)))
    ∧ (∃ (s : State) (k : Nat) (a : Nat), k < 4 ∧ storeServed a 4 = true ∧ a % 4 = 0 ∧ s.rd H.STORE_ECC (a / 4) = 0)
    ∧ (∃ (s : State) (a : Nat), a < storeSize ∧ s.bit H.STORE_ASLEEP (bankOf a) = false ∧ s.rd H.STORE_ECC (a / 4) = 0)
    ∧ (∃ (s : State) (row : Nat), row < 4096 ∧ s.bit H.FLT_TEST_PEND (0x2EC + row / 256) = true ∧ s.hartUp 3 = true ∧ ((s.rd H.STORE_FROW (row / 256) = row + 1 ∨ s.rd H.STORE_FROW (row / 256) = 0)))
    ∧ (∃ (s : State) (row : Nat), row < 4096 ∧ s.bit H.FLT_TEST_PEND (0x2EC + row / 256) = true ∧ s.hartUp 3 = true ∧ ((s.rd H.STORE_FROW (row / 256) = row + 1 ∨ s.rd H.STORE_FROW (row / 256) = 0)) ∧ s.rd R.STORE_STAT_RETIRED 0 < 16 ∧ s.bit H.STORE_RETIRED row = false)
    ∧ (∃ (s : State) (w : WCtx) (a : Nat) (b : List Byte), storeServed a b.length = true ∧ s.storeShut = false ∧ Requester.isHart w.req = false ∧ (s.allowedBytes w.req a b).2 = true ∧ ((∀ k ∈ wordsInPart a b.length, s.rd H.STORE_ECC k = 0)))
    ∧ (∃ (s : State) (w : WCtx) (a : Nat) (b : List Byte), storeServed a b.length = true ∧ s.storeShut = false ∧ w.req = .bmc ∧ b ≠ memGetBytes s.store a b.length ∧ ((∀ k < b.length, s.heftReserved (a + k) = 0)))
    ∧ (∃ (s : State) (b : List Byte), b.length = 32 ∧ byteAt b 5 < s.rd R.FW_LOG_LEVEL_MIN 0)
    ∧ (∃ (s : State) (k : Nat) (b : List Byte), b.length = 32 ∧ s.rd R.FW_LOG_LEVEL_MIN 0 ≤ byteAt b 5 ∧ byteAt b 5 < 3 ∧ 2 ≤ s.rd R.FW_HART_STAT_LEVEL k)
    ∧ (∃ (s : State) (b : List Byte), b.length = 16 ∧ bitOf (s.rd R.FW_TRACE_EN_EN (byteAt b 6 / 32)) (byteAt b 6 % 32) = false)
    ∧ (∃ (s : State) (k : Nat) (b : List Byte), b.length = 16 ∧ bitOf (s.rd R.FW_TRACE_EN_EN (byteAt b 6 / 32)) (byteAt b 6 % 32) = true ∧ 1 ≤ s.rd R.FW_HART_STAT_LEVEL k)
    ∧ (∃ (s : State) (k : Nat) (b : List Byte), b.length = 16 ∧ bitOf (s.rd R.FW_TRACE_EN_EN (byteAt b 6 / 32)) (byteAt b 6 % 32) = true ∧ s.rd R.FW_HART_STAT_LEVEL k = 0)
    ∧ (∃ (a : Nat) (n : Nat), storeServed a n = false)
    ∧ (∃ (s : State) (w : WCtx) (a : Nat) (n : Nat), storeServed a n = true ∧ s.storeShut = true ∧ Requester.isHart w.req = false)
    ∧ (∃ (s : State) (w : WCtx) (a : Nat) (n : Nat), storeServed a n = true ∧ ((s.storeShut = false ∨ Requester.isHart w.req = true)))
    ∧ (∃ (s : State) (w : WCtx) (a : Nat), Requester.isHart w.req = false ∧ s.storeShut = false ∧ storeServed a 4 = true ∧ a % 4 = 0 ∧ s.rd H.STORE_ECC (a / 4) = 0)
    ∧ (∃ (s : State) (a : Nat), a < storeSize ∧ s.bit H.STORE_ASLEEP (bankOf a) = false ∧ s.rd H.STORE_ECC (a / 4) = 0)
    ∧ (∃ (s : State) (a : Nat) (e : EccErr), (storeSize ≤ a ∨ s.bit H.STORE_ASLEEP (bankOf a) = true
      ∨ (e = .clean ∧ s.rd H.STORE_ECC (a / 4) = 0)))
    ∧ (∃ (s : State) (row : Nat), (s.testsRow row = false ∨ s.hartUp 3 = false
      ∨ s.bit H.FLT_TEST_PEND (0x2EC + row / 256) = false))
    ∧ (∃ (s : State) (row : Nat), s.testsRow row = true ∧ s.bit H.FLT_TEST_PEND (0x2EC + row / 256) = true ∧ s.hartUp 3 = true ∧ 16 ≤ s.rd R.STORE_STAT_RETIRED 0)
    ∧ (∃ (s : State) (a : Nat), storeServed a 1 = true ∧ s.storeShut = false ∧ s.rd H.STORE_ECC (a / 4) = 1 ∧ s.bit R.FLT_INJ_ARM 0 = false) :=
  ⟨⟨q0, wc, 0x1003, (bs [1,2,3,4,5,0,0]), by decide +kernel⟩,
    ⟨q0, 2, (bs [1,2,3,4,5,3,7,8,9,10,11,12,13,14,15,16,17,18,19,20,21,22,23,24,25,26,27,28,29,30,31,32]), by decide +kernel⟩,
    ⟨0x103F, (bs [1,2,3,4,5,0,0]), by decide +kernel⟩,
    ⟨(mk [(R.BOOT_BLOCK_START,0,0)] q0), wc, 0x1003, (bs [1,2,3,4,5,0,0]), by decide +kernel⟩,
    ⟨q0, wc, 0x0FFD, 3, by decide +kernel⟩,
    ⟨q0, 2, 0x1000, by decide +kernel⟩,
    ⟨q0, 0x1000, by decide +kernel⟩,
    ⟨q1, 0x10, by decide +kernel⟩,
    ⟨q1, 0x10, by decide +kernel⟩,
    ⟨qh, ⟨.host, 0⟩, 0x1000, (bs [1,2,3,4]), by decide +kernel⟩,
    ⟨qh, ⟨.bmc, 0⟩, 0x1000, (bs [1,2,3,4]), by decide +kernel⟩,
    ⟨(mk [(R.FW_LOG_LEVEL_MIN,0,3)] q0), (bs [1,2,3,4,5,2,7,8,9,10,11,12,13,14,15,16,17,18,19,20,21,22,23,24,25,26,27,28,29,30,31,32]), by decide +kernel⟩,
    ⟨(mk [(R.FW_HART_STAT_LEVEL,2,3)] q0), 2, (bs [1,2,3,4,5,2,7,8,9,10,11,12,13,14,15,16,17,18,19,20,21,22,23,24,25,26,27,28,29,30,31,32]), by decide +kernel⟩,
    ⟨(mk [(R.FW_LOG_LEVEL_MIN,0,3)] q0), (bs [1,2,3,4,5,2,7,8,9,10,11,12,13,14,15,16]), by decide +kernel⟩,
    ⟨(mk [(R.FW_HART_STAT_LEVEL,2,1),(R.FW_TRACE_EN_EN,1,8)] q0), 2, (bs [1,2,3,4,5,2,35,8,9,10,11,12,13,14,15,16]), by decide +kernel⟩,
    ⟨(mk [(R.FW_TRACE_EN_EN,1,8)] q0), 2, (bs [1,2,3,4,5,2,35,8,9,10,11,12,13,14,15,16]), by decide +kernel⟩,
    ⟨62, 4, by decide +kernel⟩,
    ⟨(mk [(R.BOOT_BLOCK_START,0,0)] q0), wc, 60, 4, by decide +kernel⟩,
    ⟨q0, wc, 0x1000, 7, by decide +kernel⟩,
    ⟨q0, wc, 0x1000, by decide +kernel⟩,
    ⟨q0, 0x2005, by decide +kernel⟩,
    ⟨q0, 0x2005, .clean, by decide +kernel⟩,
    ⟨q0, 16, by decide +kernel⟩,
    ⟨(mk [(R.STORE_STAT_RETIRED,0,16)] q1), 16, by decide +kernel⟩,
    ⟨(mk [(H.STORE_ECC,0x400,1)] q0), 0x1002, by decide +kernel⟩⟩

/-- The hypotheses of AtomicsRetentionAndFifo are met, clause by clause. -/
theorem witness_AtomicsRetentionAndFifo :
    (∃ (s : State) (w : WCtx) (k : Nat) (a : Nat), amoSet w.req = some k ∧ Writable s w R.STORE_AMO_DATA_DATA k ∧ s.rd R.STORE_AMO_ADDR_OP k ≠ 3 ∧ ((s.storeShut = false ∨ Requester.isHart w.req = true)) ∧ s.rd H.STORE_ECC (s.rd R.STORE_AMO_ADDR_ADDR k) = 0 ∧ a = 4 * s.rd R.STORE_AMO_ADDR_ADDR k)
    ∧ (∃ (s : State) (w : WCtx) (k : Nat), amoSet w.req ≠ some k ∧ Writable s w R.STORE_AMO_DATA_DATA k)
    ∧ (∃ (s : State) (w : WCtx), Writable s w R.STORE_RET_RET 0)
    ∧ (∃ (s : State) (bank : Nat), bank < 16 ∧ s.bit H.STORE_BUSYW bank = true)
    ∧ (∃ (s : State) (x : FifoWord) (l : List FifoWord), s.bit R.FIFO_CTRL_SW_CONSUME 0 = true ∧ s.fifo = x :: l)
    ∧ (∃ (s : State), s.bit R.FIFO_CTRL_SW_CONSUME 0 = false)
    ∧ (∃ (s : State) (w : WCtx), Writable s w R.FIFO_WM_ACK 0)
    ∧ (∃ (s : State) (w : WCtx) (k : Nat), s.rd R.STORE_AMO_ADDR_OP k = 3 ∧ Writable s w R.STORE_AMO_DATA_DATA k)
    ∧ (∃ (s : State) (w : WCtx) (k : Nat), amoSet w.req = some k ∧ Writable s w R.STORE_AMO_DATA_DATA k ∧ s.rd R.STORE_AMO_ADDR_OP k ≠ 3 ∧ ((s.storeShut = false ∨ Requester.isHart w.req = true)) ∧ s.rd H.STORE_ECC (s.rd R.STORE_AMO_ADDR_ADDR k) % 4 = 2)
    ∧ (∃ (s : State) (bank : Nat), (16 ≤ bank ∨ s.bit H.STORE_BUSYW bank = false))
    ∧ (∃ (s : State), s.bit R.FIFO_CTRL_SW_CONSUME 0 = true ∧ s.fifo = []) :=
  ⟨⟨q2, ⟨.hart 2, 0⟩, 2, 0x1000, by decide +kernel⟩,
    ⟨q2, ⟨.hart 1, 0⟩, 2, by decide +kernel⟩,
    ⟨(mk [(R.STORE_RET_RET,3,1),(H.STORE_ASLEEP,3,1)] q2), ⟨.hart 1, 0⟩, by decide +kernel⟩,
    ⟨(mk [(H.STORE_BUSYW,3,1),(H.STORE_ASLEEP,3,1)] q2), 3, by decide +kernel⟩,
    ⟨q3, ⟨7,false,true,99⟩, [⟨7,true,false,9⟩], by decide +kernel⟩,
    ⟨q0, by decide +kernel⟩,
    ⟨(mk [(R.FIFO_WM_HIT,0,1)] q3), ⟨.hart 1, 0⟩, by decide +kernel⟩,
    ⟨(mk [(R.STORE_AMO_ADDR_OP,2,3)] q2), ⟨.hart 2, 0⟩, 2, by decide +kernel⟩,
    ⟨(mk [(H.STORE_ECC,0x400,2)] q2), ⟨.hart 2, 0⟩, 2, by decide +kernel⟩,
    ⟨q2, 3, by decide +kernel⟩,
    ⟨(mk [(R.FIFO_CTRL_SW_CONSUME,0,1)] q0), by decide +kernel⟩⟩

end Sys2Proof.Tests.P55

namespace Sys2Proof.Tests.P56

def wc : WCtx := ⟨.psc, 0⟩
def y0 : State := mk [(R.CLK_EN_EN,0,0x7ff),(R.TALLY_STAT_RESTORED,0,1),(R.FW_HART_STAT_STATE,3,0),(R.TALLY_SEQ_NEXT_SEQ,0,0xFFFFFFFF),(R.TALLY_SECONDS_SECONDS,0,77)] { State.reset with tallyQueue := [⟨4,1,35,[9,10],false⟩,⟨9,0,35,[9,10],false⟩] }
def y1 : State := mk [(R.TALLY_STAT_FLUSHING,0,1)] y0
def y2 : State := { y1 with flush := some ⟨3,9,1,2,3,4,[(0xE0001,3)]⟩ }

/-- The hypotheses of TallyPlacesAndFlushes are met, clause by clause. -/
theorem witness_TallyPlacesAndFlushes :
    (∃ (s : State) (q : TallyReq) (l : List TallyReq) (i : Nat), s.tallyQueue = q :: l ∧ s.slotFor q.severity = some i ∧ s.poisonedIn (tallyAt i) 32 = false)
    ∧ (∃ (s : State), s.tallyQueue = [] ∧ s.bit H.TALLY_PEND 0 = false)
    ∧ (∃ (s : State) (w : WCtx) (v : Nat), Writable s w R.TALLY_SUBMIT_CHANNEL 0 ∧ 8 ≤ v % 32 ∧ s.bit R.TALLY_STAT_RESTORED 0 = true ∧ s.tallyQueue.length < 16)
    ∧ (∃ (s : State) (w : WCtx) (v : Nat), Writable s w R.TALLY_SUBMIT_CHANNEL 0 ∧ v % 32 < 8)
    ∧ (∃ (s : State) (w : WCtx), Writable s w R.TALLY_CTRL_FLUSH 0 ∧ s.bit R.TALLY_STAT_FLUSHING 0 = false ∧ s.hartUp s.flushHart = true ∧ s.bit R.TALLY_STAT_RESTORED 0 = true)
    ∧ (∃ (s : State), s.bit R.TALLY_STAT_FLUSHING 0 = true)
    ∧ (∃ (s : State), s.bit R.TALLY_STAT_FLUSHING 0 = false ∧ s.hartUp s.flushHart = true ∧ s.bit R.TALLY_STAT_RESTORED 0 = true)
    ∧ (∃ (s : State) (m : MirrorSlot), s.flush = some m ∧ s.hartUp s.flushHart = true ∧ s.bit H.TALLY_PEND 0 = false)
    ∧ (∃ (s : State) (m : MirrorSlot), s.flush = some m ∧ s.hartUp s.flushHart = true ∧ s.bit H.TALLY_PEND 0 = false)
    ∧ (∃ (s : State) (q : TallyReq) (l : List TallyReq), s.tallyQueue = q :: l ∧ ((∀ i < 4096, s.poisonedIn (tallyAt i) 32 = false)) ∧ s.bit H.TALLY_PEND 0 = false)
    ∧ (∃ (s : State) (q : TallyReq) (l : List TallyReq) (i : Nat), s.tallyQueue = q :: l ∧ s.slotFor q.severity = some i ∧ s.poisonedIn (tallyAt i) 32 = true ∧ s.tallyQueue.length ≤ 8 ∧ s.rd R.TALLY_DROPPED_DROPPED 0 < 2 ^ 31)
    ∧ (∃ (s : State) (w : WCtx) (v : Nat), Writable s w R.TALLY_SUBMIT_CHANNEL 0 ∧ 8 ≤ v % 32 ∧ s.bit R.TALLY_STAT_RESTORED 0 = false ∧ s.tallyStage.length < 64)
    ∧ (∃ (s : State) (w : WCtx) (v : Nat), Writable s w R.TALLY_SUBMIT_CHANNEL 0 ∧ 8 ≤ v % 32 ∧ (if s.bit R.TALLY_STAT_RESTORED 0 = true then 16 ≤ s.tallyQueue.length else 64 ≤ s.tallyStage.length))
    ∧ (∃ (s : State) (w : WCtx), Writable s w R.TALLY_CTRL_FLUSH 0 ∧ (s.bit R.TALLY_STAT_FLUSHING 0 = true ∨ s.hartUp s.flushHart = false ∨ s.bit R.TALLY_STAT_RESTORED 0 = false))
    ∧ (∃ (s : State), (s.hartUp s.flushHart = false ∨ s.bit R.TALLY_STAT_RESTORED 0 = false))
    ∧ (∃ (s : State), (s.flush = none ∨ s.hartUp s.flushHart = false))
    ∧ (∃ (s : State) (m : MirrorSlot), s.flush = some m ∧ s.hartUp s.flushHart = true ∧ s.bit H.TALLY_PEND 0 = true ∧ s.bit R.TALLY_STAT_RESTORED 0 = true)
    ∧ (∃ (s : State), s.rd H.RST_SEQ 0 ≠ 1) :=
  ⟨⟨y0, ⟨4,1,35,[9,10],false⟩, [⟨9,0,35,[9,10],false⟩], 0, by decide +kernel⟩,
    ⟨{ y0 with tallyQueue := [] }, by decide +kernel⟩,
    ⟨y0, wc, 0x1234568, by decide +kernel⟩,
    ⟨y0, wc, 0x1234567, by decide +kernel⟩,
    ⟨y0, wc, by decide +kernel⟩,
    ⟨y1, by decide +kernel⟩,
    ⟨y0, by decide +kernel⟩,
    ⟨y2, ⟨3,9,1,2,3,4,[(0xE0001,3)]⟩, by decide +kernel⟩,
    ⟨y2, ⟨3,9,1,2,3,4,[(0xE0001,3)]⟩, by decide +kernel⟩,
    ⟨y0, ⟨4,1,35,[9,10],false⟩, [⟨9,0,35,[9,10],false⟩], by decide +kernel, (fun i _ => by simp [State.poisonedIn, (by decide +kernel : y0.touched H.STORE_ECC = [])]), by decide +kernel⟩,
    ⟨(mk [(H.STORE_ECC,0xE0000/4+2,2)] y0), ⟨4,1,35,[9,10],false⟩, [⟨9,0,35,[9,10],false⟩], 0, by decide +kernel⟩,
    ⟨(mk [(R.TALLY_STAT_RESTORED,0,0)] y0), wc, 0x1234568, by decide +kernel⟩,
    ⟨{ y0 with tallyQueue := List.replicate 16 ⟨9,0,35,[9,10],false⟩ }, wc, 0x1234568, by decide +kernel⟩,
    ⟨y1, wc, by decide +kernel⟩,
    ⟨(mk [(R.FW_HART_STAT_STATE,3,2)] y0), by decide +kernel⟩,
    ⟨y1, by decide +kernel⟩,
    ⟨(mk [(H.TALLY_PEND,0,1)] y2), ⟨3,9,1,2,3,4,[(0xE0001,3)]⟩, by decide +kernel⟩,
    ⟨(mk [(H.RST_SEQ,0,0)] y0), by decide +kernel⟩⟩

end Sys2Proof.Tests.P56

namespace Sys2Proof.Tests.P57

def rFold (f : Nat) : Rec := ⟨f, [2,1,32,0, f,0,1,0, 255,255,255,0, 0,0,0,0].map (BitVec.ofNat 8)⟩
def rHeft : Rec := ⟨0, ([1,8,36,0] ++ (List.range 16).flatMap (fun c => [c+1,0])).map (BitVec.ofNat 8)⟩
def g0 : State := mk [(R.CLK_EN_EN,0,0x7ff),(R.FRAME_COUNT,0,4096),(R.RUN_STATE,0,2),(H.GL_ROUND_SOON,0,1),(R.LE_FOLD_EFFECTIVE_EFFECTIVE,3,1000),(R.FW_HART_STAT_STATE,1,0),(R.GL_CTRL_RESERVE_PCT,0,10),(H.GL_ACT,0x183,1),(R.TWIN_STATUS_ROLE,0,4),(R.GL_BANK_STAT_STATE,0,1),(R.TALLY_STAT_RESTORED,0,1)] { State.reset with map := {State.reset.map with recs := [rFold 3, rHeft]}, store := [(0x80005,9)]}

def g1 : State := mk [(R.GL_BANK_STAT_STATE,1,2),(H.GL_PER0,1,1),(H.GL_PER0,0,2)] g0
def g2 : State := mk [(R.GL_BANK_STAT_STATE,2,3),(R.PD_RAIL_CFG_COUNT,0,4)] { g1 with store := [(0x80000+0x28000+0x400+0x11,9),(0x80000+0x18000+0x8000+7,3)] }
def g3 : State := mk [(R.GL_BANK_FRAMES_FRAMES,2,2048)] { g2 with store := ((g2.st (g2.unitsAt 2 5) 4 300).st (g2.unitsAt 2 6) 4 70).st (g2.headerAt 2 + 0x10) 8 123456789 |>.store }
def h0 : State := { g0 with mesh := ⟨9, [⟨4, .frameSync 3, [.dispatcher 3], 1, false, 0⟩, ⟨5, .frameSync 4, [.dispatcher 3], 9, false, 0⟩, ⟨6, .frameSync 4, [.dispatcher 3], 2, true, 0⟩], [(.dispatcher 5, .frameSync 8)]⟩ }
def h1 : State := { h0 with mesh := ⟨9, [⟨4, .frameSync 3, [.dispatcher 3, .dispatcher 5, .dispatcher 7], 1, false, 0⟩, ⟨6, .period 4, [.dispatcher 3], 2, false, 0⟩],[]⟩ }

/-- The hypotheses of RoundsAcksAndPeriods are met, clause by clause. -/
theorem witness_RoundsAcksAndPeriods :
    (∃ (s : State), s.running = true ∧ s.hartUp 1 = true ∧ s.shedAt 4 = false ∧ s.roundsOff = false ∧ s.roundDue = true)
    ∧ (∃ (s : State), s.running = true ∧ s.hartUp 1 = true ∧ s.shedAt 4 = false ∧ s.roundsOff = false ∧ s.roundDue = true ∧ s.glBase + 0x28A00 ≤ storeSize ∧ s.peerCompares = false)
    ∧ (∃ (s : State) (f : Nat) (m : RoundAckMsg), f < computeFolds s.zk4 ∧ m.status = 0 ∧ m.source = b2n s.ident.instB ∧ m.epoch = s.rd R.GL_EPOCH_EPOCH 0)
    ∧ (∃ (s : State) (f : Nat) (m : RoundAckMsg), f < computeFolds s.zk4 ∧ m.status = 1 ∧ m.source = b2n s.ident.instB ∧ m.epoch = s.rd R.GL_EPOCH_EPOCH 0 ∧ s.bit H.GL_MISM f = true)
    ∧ (∃ (s : State) (f : Nat) (m : RoundAckMsg), (computeFolds s.zk4 ≤ f ∨ 2 < m.status ∨ (m.source ≠ b2n s.ident.instB
      ∧ (m.status ≠ 0 ∨ m.epoch ≠ s.rd R.GL_EPOCH_EPOCH 0))))
    ∧ (∃ (s : State) (k : Nat) (o : Nat), s.frame % 2048 = 0 ∧ s.rd H.GL_PERIOD_DONE 0 ≠ s.frame / 2048 + 1 ∧ s.bankIn 0 = some k ∧ s.bankIn 1 = some o ∧ s.glBase + 0x28A00 ≤ storeSize)
    ∧ (∃ (s : State) (o : Nat), s.frame % 2048 = 0 ∧ s.rd H.GL_PERIOD_DONE 0 ≠ s.frame / 2048 + 1 ∧ s.bankIn 0 = none ∧ s.bankIn 1 = some o)
    ∧ (∃ (s : State), s.running = true ∧ s.hartUp 1 = true ∧ s.shedAt 4 = false ∧ s.roundsOff = false ∧ s.bit H.GL_RESTARTED 0 = true)
    ∧ (∃ (s : State), (s.running = false ∨ s.hartUp 1 = false ∨ s.shedAt 4 = true ∨ s.roundsOff = true ∨ s.roundDue = false))
    ∧ (∃ (s : State) (f : Nat) (m : RoundAckMsg), f < computeFolds s.zk4 ∧ m.status = 0 ∧ m.source ≠ b2n s.ident.instB ∧ m.epoch = s.rd R.GL_EPOCH_EPOCH 0)
    ∧ (∃ (s : State) (f : Nat) (m : RoundAckMsg), f < computeFolds s.zk4 ∧ m.status = 2 ∧ m.source = b2n s.ident.instB)
    ∧ (∃ (s : State) (f : Nat) (m : RoundAckMsg), f < computeFolds s.zk4 ∧ m.status = 1 ∧ m.source = b2n s.ident.instB ∧ m.epoch = s.rd R.GL_EPOCH_EPOCH 0 ∧ s.bit H.GL_MISM f = false ∧ s.holder = true)
    ∧ (∃ (s : State), (s.frame % 2048 ≠ 0 ∨ s.rd H.GL_PERIOD_DONE 0 = s.frame / 2048 + 1))
    ∧ (∃ (s : State) (k : Nat), s.frame % 2048 = 0 ∧ s.rd H.GL_PERIOD_DONE 0 ≠ s.frame / 2048 + 1 ∧ s.bankIn 0 = some k ∧ s.bankIn 1 = none ∧ s.glBase + 0x28A00 ≤ storeSize) :=
  ⟨⟨g0, by decide +kernel⟩,
    ⟨g0, by decide +kernel⟩,
    ⟨g0, 3, ⟨0, 0, 0, 77⟩, by decide +kernel⟩,
    ⟨(mk [(H.GL_MISM,3,1)] g0), 3, ⟨1, 0, 0, 77⟩, by decide +kernel⟩,
    ⟨g0, 3, ⟨1, 1, 0, 77⟩, by decide +kernel⟩,
    ⟨g0, 1, 0, by decide +kernel⟩,
    ⟨(mk [(R.GL_BANK_STAT_STATE,1,2),(R.GL_BANK_STAT_STATE,2,3),(R.GL_BANK_STAT_STATE,3,3)] g0), 0, by decide +kernel⟩,
    ⟨(mk [(H.GL_RESTARTED,0,1)] g0), by decide +kernel⟩,
    ⟨(mk [(H.GL_ROUND_SOON,0,0)] g0), by decide +kernel⟩,
    ⟨g0, 3, ⟨0, 1, 0, 77⟩, by decide +kernel⟩,
    ⟨g0, 3, ⟨2, 0, 4, 77⟩, by decide +kernel⟩,
    ⟨g0, 3, ⟨1, 0, 0, 77⟩, by decide +kernel⟩,
    ⟨(mk [(R.FRAME_COUNT,0,4097)] g0), by decide +kernel⟩,
    ⟨(mk [(R.GL_BANK_STAT_STATE,0,0)] g0), 0, by decide +kernel⟩⟩

/-- The hypotheses of BanksTakeUsageAndAreBooked are met, clause by clause. -/
theorem witness_BanksTakeUsageAndAreBooked :
    (∃ (s : State) (m : UsageMsg) (k : Nat) (a : Nat) (f : Nat), m.queue < 4096 ∧ s.dmaQueued m.held < 64 ∧ s.usageBank m.period = some (k, false) ∧ a = s.unitsAt k m.queue ∧ f = s.headerAt k + 0x80 + 4 * s.queueFold m.queue ∧ s.glBase + 0x28A00 ≤ storeSize ∧ s.rd H.STORE_ECC (a / 4) = 0 ∧ s.rd H.STORE_ECC (f / 4) = 0 ∧ s.ld a 4 + m.units < 2 ^ 32)
    ∧ (∃ (s : State) (f : Nat) (p : Nat) (k : Nat), f < computeFolds s.zk4 ∧ s.usageBank p = some (k, false))
    ∧ (∃ (s : State) (k : Nat), k < 4 ∧ s.bank k = 2 ∧ 64 ≤ s.rd H.GL_CLOSE_AGE k ∧ ((∀ d < computeFolds s.zk4, s.rd H.GL_UCNT (32 * k + d) = s.rd H.GL_UEND (32 * k + d))))
    ∧ (∃ (s : State) (k : Nat) (d : Nat), k < 4 ∧ s.bank k = 2 ∧ 64 ≤ s.rd H.GL_CLOSE_AGE k ∧ d < computeFolds s.zk4 ∧ s.rd H.GL_UCNT (32 * k + d) ≠ s.rd H.GL_UEND (32 * k + d))
    ∧ (∃ (s : State) (k : Nat), s.oldestReady = some k ∧ s.hartUp 1 = true ∧ s.shedAt 3 = false ∧ s.bookingWaits = false ∧ s.glBase + 0x28A00 ≤ storeSize)
    ∧ (∃ (s : State) (k : Nat) (r : Nat), s.oldestReady = some k ∧ s.hartUp 1 = true ∧ s.shedAt 3 = false ∧ s.bookingWaits = false ∧ s.glBase + 0x28A00 ≤ storeSize ∧ s.peerCompares = false ∧ r ∈ railList s.zk4 ∧ ((∀ q ∈ s.railQueues r, s.ld (s.unitsAt k q) 4 = 0)))
    ∧ (∃ (s : State) (w : WCtx) (k : Nat), Writable s w R.GL_BANK_STAT_RELEASE k ∧ s.bank k = 3 ∧ s.glBase + 0x28A00 ≤ storeSize)
    ∧ (∃ (s : State) (m : UsageMsg), (4096 ≤ m.queue ∨ 64 ≤ s.dmaQueued m.held ∨ s.usageBank m.period = none))
    ∧ (∃ (s : State) (m : UsageMsg) (k : Nat) (a : Nat), m.queue < 4096 ∧ s.dmaQueued m.held < 64 ∧ s.usageBank m.period = some (k, true) ∧ a = s.unitsAt k m.queue ∧ s.glBase + 0x28A00 ≤ storeSize ∧ s.rd H.STORE_ECC (a / 4) = 0 ∧ s.rd H.STORE_ECC ((s.headerAt k + 0x80 + 4 * s.queueFold m.queue) / 4) = 0 ∧ s.ld a 4 + m.units < 2 ^ 32)
    ∧ (∃ (s : State) (m : UsageMsg) (k : Nat) (a : Nat), m.queue < 4096 ∧ s.dmaQueued m.held < 64 ∧ s.usageBank m.period = some (k, false) ∧ a = s.unitsAt k m.queue ∧ s.glBase + 0x28A00 ≤ storeSize ∧ s.rd H.STORE_ECC (a / 4) = 0 ∧ s.rd H.STORE_ECC ((s.headerAt k + 0x80 + 4 * s.queueFold m.queue) / 4) = 0 ∧ 2 ^ 32 ≤ s.ld a 4 + m.units)
    ∧ (∃ (s : State) (m : UsageMsg) (k : Nat) (a : Nat), m.queue < 4096 ∧ s.dmaQueued m.held < 64 ∧ s.usageBank m.period = some (k, false) ∧ a = s.unitsAt k m.queue ∧ s.rd H.STORE_ECC (a / 4) % 4 = 2)
    ∧ (∃ (s : State) (f : Nat) (p : Nat), (computeFolds s.zk4 ≤ f ∨ s.usageBank p = none ∨ (∃ k < 4, s.usageBank p = some (k, true))))
    ∧ (∃ (s : State) (k : Nat), (4 ≤ k ∨ s.bank k ≠ 2 ∨ s.rd H.GL_CLOSE_AGE k < 64))
    ∧ (∃ (s : State) (k : Nat), (s.oldestReady ≠ some k ∨ s.hartUp 1 = false ∨ s.shedAt 3 = true ∨ s.bookingWaits = true))
    ∧ (∃ (s : State) (w : WCtx) (k : Nat), Writable s w R.GL_BANK_STAT_RELEASE k ∧ s.bank k ≠ 3)
    ∧ (∃ (s : State) (k : Nat) (r : Nat) (q : Nat) (u : Nat) (e : Nat) (idle : Nat) (c : Nat), s.oldestReady = some k ∧ s.hartUp 1 = true ∧ s.shedAt 3 = false ∧ s.bookingWaits = false ∧ s.glBase + 0x28A00 ≤ storeSize ∧ s.peerCompares = false ∧ r ∈ railList s.zk4 ∧ u = sumN ((s.railQueues r).map (fun x => s.ld (s.unitsAt k x) 4)) ∧ u ≠ 0 ∧ e = s.bankEnergy k r ∧ idle = min e (s.rd R.GL_RAIL_IDLE_IDLE r * s.rd R.GL_BANK_FRAMES_FRAMES k * 1024 / 2000) ∧ q ∈ s.railQueues r ∧ c = (e - idle) * s.ld (s.unitsAt k q) 4 / u) :=
  ⟨⟨g1, ⟨0x183, 1, 1000, true, 5⟩, 1, (g1.unitsAt 1 0x183), (g1.headerAt 1 + 0x80 + 12), by decide +kernel⟩,
    ⟨g1, 3, 1, 1, by decide +kernel⟩,
    ⟨(mk [(H.GL_CLOSE_AGE,1,64)] g1), 1, by decide +kernel⟩,
    ⟨(mk [(H.GL_CLOSE_AGE,1,64),(H.GL_UCNT,35,1)] g1), 1, 3, by decide +kernel⟩,
    ⟨g2, 2, by decide +kernel⟩,
    ⟨{ g2 with store := [(0x80000+0x28000+0x400+0x11,9)] }, 2, 0, by decide +kernel⟩,
    ⟨g2, ⟨.psc, 0⟩, 2, by decide +kernel⟩,
    ⟨g1, ⟨0x183, 1, 1000, true, 64⟩, by decide +kernel⟩,
    ⟨g1, ⟨0x183, 9, 1000, true, 5⟩, 0, (g1.unitsAt 0 0x183), by decide +kernel⟩,
    ⟨g1, ⟨0x183, 1, 0x100000000, true, 5⟩, 1, (g1.unitsAt 1 0x183), by decide +kernel⟩,
    ⟨(mk [(H.STORE_ECC,g1.unitsAt 1 0x183 / 4,2)] g1), ⟨0x183, 1, 10, true, 5⟩, 1, (g1.unitsAt 1 0x183), by decide +kernel⟩,
    ⟨g1, 3, 9, by decide +kernel⟩,
    ⟨g1, 1, by decide +kernel⟩,
    ⟨g1, 2, by decide +kernel⟩,
    ⟨g2, ⟨.psc, 0⟩, 1, by decide +kernel⟩,
    ⟨g3, 2, 0, 5, 50332018, 123456789, 0, (123456789*300/50332018), by decide +kernel⟩⟩

/-- The hypotheses of MeshDeliversAndRetries are met, clause by clause. -/
theorem witness_MeshDeliversAndRetries :
    (∃ (s : State) (m : Nat) (f : Nat) (mask : Nat) (o : Outstanding), f < 32 ∧ o.targets = [.dispatcher f] ∧ bitOf mask 0 = true ∧ s.mesh.outstanding.find? (fun x => x.id == m && !x.retry) = some o)
    ∧ (∃ (s : State) (m : Nat) (f : Nat) (mask : Nat) (o : Outstanding), f < 32 ∧ o.targets = [.dispatcher f] ∧ bitOf mask 0 = false ∧ s.mesh.outstanding.find? (fun x => x.id == m && !x.retry) = some o ∧ o.tries < s.rd R.GL_MESH_RETRY_MAX 0 ∧ neverResent o.msg = false)
    ∧ (∃ (s : State) (m : Nat) (f : Nat) (mask : Nat) (o : Outstanding), f < computeFolds s.zk4 ∧ o.targets = [.dispatcher f] ∧ bitOf mask 0 = false ∧ s.mesh.outstanding.find? (fun x => x.id == m && !x.retry) = some o ∧ s.rd R.GL_MESH_RETRY_MAX 0 ≤ o.tries ∧ neverResent o.msg = false)
    ∧ (∃ (s : State) (m : Nat) (o : Outstanding), s.holder = true ∧ s.mesh.outstanding.find? (fun x => x.id == m && x.retry && x.gap == 0) = some o)
    ∧ (∃ (s : State) (e : Nat), e < 4096 ∧ s.rd H.GL_SPENT e ≠ 0 ∧ ((∀ x ∈ s.mesh.waiting, x.1 ≠ endpointOf e)))
    ∧ (∃ (s : State) (e : Nat) (x : Endpoint × MeshMsg), e < 4096 ∧ (endpointOf e).num = e ∧ s.rd H.GL_SPENT e ≠ 0 ∧ s.rd H.GL_SPENT e ≤ 2 ∧ s.holder = true ∧ s.mesh.waiting.find? (fun y => y.1 == endpointOf e) = some x)
    ∧ (∃ (s : State) (m : Nat), s.mesh.outstanding.find? (fun x => x.id == m && !x.retry) = none)
    ∧ (∃ (s : State) (m : Nat) (mask : Nat) (i : Nat) (f : Nat) (o : Outstanding) (l : List Endpoint), f < computeFolds s.zk4 ∧ s.mesh.outstanding.find? (fun x => x.id == m && !x.retry) = some o ∧ o.targets.Nodup ∧ o.targets[i]? = some (.dispatcher f) ∧ l = (o.targets.zipIdx.filter (fun x => !bitOf mask x.2)).map Prod.fst ∧ o.tries < s.rd R.GL_MESH_RETRY_MAX 0 ∧ neverResent o.msg = false)
    ∧ (∃ (s : State) (m : Nat) (f : Nat) (mask : Nat) (o : Outstanding), f < 32 ∧ o.targets = [.dispatcher f] ∧ bitOf mask 0 = false ∧ s.mesh.outstanding.find? (fun x => x.id == m && !x.retry) = some o ∧ neverResent o.msg = true)
    ∧ (∃ (s : State) (m : Nat), s.mesh.outstanding.find? (fun x => x.id == m && x.retry && x.gap == 0) = none)
    ∧ (∃ (s : State) (m : Nat) (o : Outstanding), s.holder = false ∧ s.mesh.outstanding.find? (fun x => x.id == m && x.retry && x.gap == 0) = some o)
    ∧ (∃ (s : State) (e : Nat), s.rd H.GL_SPENT e = 0)
    ∧ (∃ (s : State) (e : Nat) (x : Endpoint × MeshMsg), e < 4096 ∧ s.rd H.GL_SPENT e ≠ 0 ∧ s.holder = false ∧ s.mesh.waiting.find? (fun y => y.1 == endpointOf e) = some x) :=
  ⟨⟨h0, 4, 3, 1, ⟨4, .frameSync 3, [.dispatcher 3], 1, false, 0⟩, by decide +kernel⟩,
    ⟨h0, 4, 3, 0, ⟨4, .frameSync 3, [.dispatcher 3], 1, false, 0⟩, by decide +kernel⟩,
    ⟨h0, 5, 3, 0, ⟨5, .frameSync 4, [.dispatcher 3], 9, false, 0⟩, by decide +kernel⟩,
    ⟨h0, 6, ⟨6, .frameSync 4, [.dispatcher 3], 2, true, 0⟩, by decide +kernel⟩,
    ⟨(mk [(H.GL_SPENT,3,2)] h0), 3, by decide +kernel⟩,
    ⟨(mk [(H.GL_SPENT,5,2)] h0), 5, (.dispatcher 5, .frameSync 8), by decide +kernel⟩,
    ⟨h0, 77, by decide +kernel⟩,
    ⟨h1, 4, 5, 1, 5, ⟨4, .frameSync 3, [.dispatcher 3, .dispatcher 5, .dispatcher 7], 1, false, 0⟩, [.dispatcher 5], by decide +kernel⟩,
    ⟨h1, 6, 3, 0, ⟨6, .period 4, [.dispatcher 3], 2, false, 0⟩, by decide +kernel⟩,
    ⟨h0, 5, by decide +kernel⟩,
    ⟨(mk [(R.TWIN_STATUS_ROLE,0,3)] h0), 6, ⟨6, .frameSync 4, [.dispatcher 3], 2, true, 0⟩, by decide +kernel⟩,
    ⟨h0, 6, by decide +kernel⟩,
    ⟨(mk [(H.GL_SPENT,5,2),(R.TWIN_STATUS_ROLE,0,3)] h0), 5, (.dispatcher 5, .frameSync 8), by decide +kernel⟩⟩

end Sys2Proof.Tests.P57

namespace Sys2Proof.Tests.P60

def bs (l : List Nat) : List Byte := l.map (BitVec.ofNat 8)
def cmd (op flags tag len : Nat) (pl : List Nat) : List Byte := bs ([0,0,op,flags,tag,0,len,0] ++ pl)
def base : State := mk [(R.CLK_EN_EN,0,0x7ff),(R.RING_CFG_EN,0,1),(R.RING_DB_CMD_TAIL,0,1),(R.FW_HART_STAT_STATE,0,0),(R.FW_HART_STAT_STATE,2,0),(H.FW_IF_VER,0,0x203),(R.FW_VERSION_VERSION,0,0x12345),(R.TALLY_STAT_RESTORED,0,1)] State.reset
def att (s : State) : State := mk [(R.HOST_STAT_ATTACHED,0,1),(H.FW_FEATURES,0,0x7ff)] s
def put (s : State) (b : List Byte) : State := s.stBytes (s.cmdAt 0) b
def a0 := put base (cmd 1 0 9 16 [5,2,0,0, 255,255,0,0, 0,0,0,0, 0,0,0,0])
def a3 := att (put base (cmd 4 0 9 4 [5, 4, 5, 2]))
def a4 := mk [(R.RING_CFG_EN,5,1),(R.RING_CFG_ERR,5,1),(R.RING_POS_CMD_HEAD,5,7)] (att (put base (cmd 5 0 9 1 [5])))
def a13 := put base (cmd 1 0 9 16 [5,3,0,0, 255,255,0,0, 0,0,0,0, 0,0,0,0])
def a15 := att (put base (cmd 4 0 9 4 [5, 3, 5, 2]))
def a18 := att (put base (cmd 6 0 9 1 [5]))
def a19 := put base (bs [5,0,3,0,9,0,0,0])
def a20 := put base (bs [0xF5,0xFF,3,0,9,0,0,0])
def m0 := att (put base (cmd 0x10 0 9 0 []))
def m1 := mk [(R.RUN_STATE,0,1),(H.TOP_LOAD_SRC,0,1)] (att (put base (cmd 0x11 1 9 5 [7,0,0,0])))
def w (s : State) := mk [(R.WARDEN_OPEN,0,1)] s
def pa : PscAnswer := { sigOk := true, floor := 0 }
def m8 := (mk [(H.FW_FLASH_OP,0,2),(H.FW_RING_OP,0,0x14),(H.FW_RING_TAG,0,9)] (w (att base)))
def m16 := att (put base (cmd 0x11 1 9 5 [7,0,0,0]))
def m25 := mk [(H.FW_FLASH_OP,0,1)] m8
def p0 := mk [(R.RUN_STATE,0,2)] (att (put base (cmd 0x20 0 9 1 [3])))
def lm : MapImg := ⟨bs (List.replicate 0x40 4), [], []⟩
def p1 := att (put base (cmd 0x30 0 9 8 [2,0, 3,0, 8,0,0,0]))
def p1' : State := p1.stBytes (p1.ledgerAt 2) (bs [9,8,7])
def p4 := att (put base (cmd 0x50 0 9 12 [0,0,0,0, 3,0,0,0, 8,0,0,0]))
def p4' : State := mk [(R.TALLY_SEQ_NEXT_SEQ,0,10)] (p4.stBytes (tallyAt 7) (bs [1,0,0,0,0, 4, 0,0, 0,0,0,0, 9,0,0,0, 0,0,0,0, 0,0,0,0,0,0,0,0, 0x59,0x4C,0x41,0x54]))
def p7 := att (put base (cmd 0x20 0 9 1 [9]))
def p8 := att (put base (cmd 0x20 0 9 1 [3]))
def p10 := att (put base (cmd 0x30 0 9 8 [2,0, 0,0, 8,0,0,0]))
def p11 := att (put base (cmd 0x40 0 9 1 [4]))
def p13 := att (put base (cmd 0x50 0 9 12 [0,0,0,0, 3,0,1,0, 8,0,0,0]))

/-- The hypotheses of HostAttachesAndManagesRings are met, clause by clause. -/
theorem witness_HostAttachesAndManagesRings :
    (∃ (s : State) (p : List Byte), Asks s 0 0x01 { ring0 := true, free := true } ∧ p = s.payload 0 ∧ p.length = 16 ∧ u16At p 2 = 0 ∧ byteAt p 12 < 64 ∧ u16At p 13 = 0 ∧ byteAt p 15 = 0 ∧ u16At p 0 / 256 = s.rd H.FW_IF_VER 0 / 256)
    ∧ (∃ (s : State), Asks s 0 0x02 { ring0 := true, free := true })
    ∧ (∃ (s : State) (r : Nat), Asks s r 0x03 { governor := true, free := true } ∧ s.bit R.STATUS_SAFE_GOV 0 = false)
    ∧ (∃ (s : State) (p : List Byte) (k : Nat) (a : Nat) (b : Nat) (d : Nat), Asks s 0 0x04 { ring0 := true, feature := some 10 } ∧ p = s.payload 0 ∧ p.length = 4 ∧ k = byteAt p 0 ∧ 0 < k ∧ k < 64 ∧ 4 ≤ byteAt p 1 ∧ byteAt p 1 ≤ 12 ∧ 4 ≤ byteAt p 2 ∧ byteAt p 2 ≤ 12 ∧ byteAt p 3 ≤ 8 ∧ s.bit R.RING_CFG_EN k = false ∧ fitPool s.poolUsed 256 (64 * 2 ^ byteAt p 1) = some a ∧ fitPool (s.poolUsed ++ [(a, 64 * 2 ^ byteAt p 1)]) 16 (16 * 2 ^ byteAt p 2) = some b ∧ fitPool (s.poolUsed ++ [(a, 64 * 2 ^ byteAt p 1)] ++ [(b, 16 * 2 ^ byteAt p 2)]) 4096 (4096 * byteAt p 3) = some d)
    ∧ (∃ (s : State) (k : Nat), Asks s 0 0x05 { ring0 := true } ∧ (s.payload 0).length = 1 ∧ k = byteAt (s.payload 0) 0 ∧ 0 < k ∧ k < 64 ∧ s.bit R.RING_CFG_EN k = true ∧ bitOf (s.rd H.FW_FEATURES 0) 10 = true)
    ∧ (∃ (s : State) (k : Nat), Asks s 0 0x06 { ring0 := true, feature := some 10 } ∧ (s.payload 0).length = 1 ∧ k = byteAt (s.payload 0) 0 ∧ 0 < k ∧ k < 64 ∧ s.bit R.RING_CFG_EN k = true)
    ∧ (∃ (s : State) (r : Nat), s.takes r = true ∧ knownOps.contains (s.cmdOp r) = false ∧ s.rd R.RING_DB_CMD_TAIL r = (s.rd R.RING_POS_CMD_HEAD r + 1) % 65536 ∧ s.cplAt r + 16 ≤ storeSize)
    ∧ (∃ (s : State) (w : WCtx) (r : Nat), Writable s w R.RING_DB_CMD_TAIL r)
    ∧ (∃ (s : State) (c : Nat), Writable s ⟨.host, c⟩ R.HOST_HB_HB 0)
    ∧ (∃ (s : State), s.bit R.HOST_STAT_ATTACHED 0 = true ∧ 2000 ≤ s.rd R.HOST_STAT_HB_AGE 0)
    ∧ (∃ (s : State) (r : Nat) (st : Nat) (x : Instr × Nat × CmdRule), x ∈ ([(.attach r, 0x01, { ring0 := true, free := true }), (.detach r, 0x02, { ring0 := true, free := true }),
      (.getStatus r, 0x03, { governor := true, free := true }), (.ringCreate r, 0x04, { ring0 := true, feature := some 10 }),
      (.ringReset r, 0x05, { ring0 := true }), (.ringDestroy r, 0x06, { ring0 := true, feature := some 10 })] : List (Instr × Nat × CmdRule)) ∧ s.takes r = true ∧ s.cmdOp r = x.2.1 ∧ s.turnAway r x.2.2 = some st ∧ s.rd R.RING_DB_CMD_TAIL r = (s.rd R.RING_POS_CMD_HEAD r + 1) % 65536 ∧ s.cplAt r + 16 ≤ storeSize)
    ∧ (∃ (s : State) (r : Nat) (x : Instr × Nat × CmdRule), x ∈ ([(.attach r, 0x01, { ring0 := true, free := true }), (.detach r, 0x02, { ring0 := true, free := true }),
      (.getStatus r, 0x03, { governor := true, free := true }), (.ringCreate r, 0x04, { ring0 := true, feature := some 10 }),
      (.ringReset r, 0x05, { ring0 := true }), (.ringDestroy r, 0x06, { ring0 := true, feature := some 10 })] : List (Instr × Nat × CmdRule)) ∧ (s.served r = false ∨ s.posted r = false
      ∨ s.bit R.RING_CFG_ERR r = true) ∧ (s.takes r = false ∨ s.cmdOp r ≠ x.2.1))
    ∧ (∃ (s : State) (p : List Byte), Asks s 0 0x01 { ring0 := true, free := true } ∧ p = s.payload 0 ∧ ((p.length ≠ 16 ∨ u16At p 2 ≠ 0 ∨ 64 ≤ byteAt p 12 ∨ u16At p 13 ≠ 0 ∨ byteAt p 15 ≠ 0)))
    ∧ (∃ (s : State) (p : List Byte), Asks s 0 0x01 { ring0 := true, free := true } ∧ p = s.payload 0 ∧ p.length = 16 ∧ u16At p 2 = 0 ∧ byteAt p 12 < 64 ∧ u16At p 13 = 0 ∧ byteAt p 15 = 0 ∧ u16At p 0 / 256 ≠ s.rd H.FW_IF_VER 0 / 256)
    ∧ (∃ (s : State), Asks s 0 0x03 { governor := true, free := true } ∧ s.bit R.STATUS_SAFE_GOV 0 = true ∧ s.bufAt 0 + 4 ≤ storeSize ∧ ((s.cplAt 0 + 16 ≤ s.bufAt 0 ∨ s.bufAt 0 + 4 ≤ s.cplAt 0)) ∧ ((s.cmdAt 0 + 64 ≤ s.bufAt 0 ∨ s.bufAt 0 + 4 ≤ s.cmdAt 0)))
    ∧ (∃ (s : State) (p : List Byte) (k : Nat) (st : Nat), Asks s 0 0x04 { ring0 := true, feature := some 10 } ∧ p = s.payload 0 ∧ k = byteAt p 0 ∧ ((((p.length ≠ 4 ∨ k = 0 ∨ 64 ≤ k ∨ byteAt p 1 < 4 ∨ 12 < byteAt p 1 ∨ byteAt p 2 < 4 ∨ 12 < byteAt p 2 ∨ 8 < byteAt p 3) ∧ st = 3)
      ∨ (p.length = 4 ∧ 0 < k ∧ k < 64 ∧ 4 ≤ byteAt p 1 ∧ byteAt p 1 ≤ 12 ∧ 4 ≤ byteAt p 2 ∧ byteAt p 2 ≤ 12 ∧ byteAt p 3 ≤ 8
        ∧ ((s.bit R.RING_CFG_EN k = true ∧ st = 1)
          ∨ (s.bit R.RING_CFG_EN k = false ∧ fitPool s.poolUsed 256 (64 * 2 ^ byteAt p 1) = none ∧ st = 7))))))
    ∧ (∃ (s : State) (p : List Byte) (k : Nat) (st : Nat), Asks s 0 0x05 { ring0 := true } ∧ p = s.payload 0 ∧ k = byteAt p 0 ∧ ((((p.length ≠ 1 ∨ 64 ≤ k ∨ s.bit R.RING_CFG_EN k = false) ∧ st = 3)
      ∨ (p.length = 1 ∧ 0 < k ∧ k < 64 ∧ s.bit R.RING_CFG_EN k = true ∧ bitOf (s.rd H.FW_FEATURES 0) 10 = false ∧ st = 4))))
    ∧ (∃ (s : State), Asks s 0 0x05 { ring0 := true } ∧ (s.payload 0).length = 1 ∧ byteAt (s.payload 0) 0 = 0)
    ∧ (∃ (s : State) (p : List Byte) (k : Nat), Asks s 0 0x06 { ring0 := true, feature := some 10 } ∧ p = s.payload 0 ∧ k = byteAt p 0 ∧ ((p.length ≠ 1 ∨ k = 0 ∨ 64 ≤ k ∨ s.bit R.RING_CFG_EN k = false)))
    ∧ (∃ (s : State) (r : Nat), s.served r = true ∧ s.posted r = true ∧ s.bit R.RING_CFG_ERR r = false ∧ newer 16 (s.rd R.RING_POS_CMD_HEAD r) (s.cmdGen r) = true ∧ s.cplAt r + 16 ≤ storeSize)
    ∧ (∃ (s : State) (r : Nat), s.served r = true ∧ s.posted r = true ∧ s.bit R.RING_CFG_ERR r = false ∧ s.cmdGen r ≠ s.rd R.RING_POS_CMD_HEAD r ∧ newer 16 (s.rd R.RING_POS_CMD_HEAD r) (s.cmdGen r) = false)
    ∧ (∃ (s : State), (s.bit R.HOST_STAT_ATTACHED 0 = false ∨ s.rd R.HOST_STAT_HB_AGE 0 < 2000))
    ∧ (∃ (s : State) (w : WCtx) (r : Nat) (v : Nat), r < 64 ∧ Writable s w R.RING_DB_CMD_TAIL r ∧ s.bit H.FW_CPL_DUE r = true ∧ s.bit R.STATUS_SAFE_GOV 0 = false ∧ s.hartUp 2 = true ∧ (s.rd R.RING_POS_CPL_TAIL r + 65536 - v % 65536) % 65536 < 2 ^ s.rd R.RING_CFG_CPL_LOG2 r ∧ v / 65536 % 65536 = (s.rd R.RING_POS_CMD_HEAD r + 1) % 65536 ∧ s.cplAt r + 16 ≤ storeSize) :=
  ⟨⟨a0, (a0.payload 0), by decide +kernel⟩,
    ⟨(att (put base (cmd 2 0 9 0 []))), by decide +kernel⟩,
    ⟨(att (put base (cmd 3 0 9 0 []))), 0, by decide +kernel⟩,
    ⟨a3, (a3.payload 0), 5, 0x50000, 0x50400, 0x51000, by decide +kernel⟩,
    ⟨a4, 5, by decide +kernel⟩,
    ⟨(mk [(R.RING_CFG_EN,5,1)] (att (put base (cmd 6 0 9 1 [5])))), 5, by decide +kernel⟩,
    ⟨(put base (cmd 0x77 0 9 1 [5])), 0, by decide +kernel⟩,
    ⟨(mk [(R.FW_HART_STAT_STATE,2,1),(R.HOST_STAT_HB_AGE,0,3)] base), ⟨.host,0⟩, 3, by decide +kernel⟩,
    ⟨(mk [(R.FW_HART_STAT_STATE,2,1),(R.HOST_STAT_HB_AGE,0,3)] base), 0, by decide +kernel⟩,
    ⟨(mk [(R.HOST_STAT_HB_AGE,0,2000)] (att base)), by decide +kernel⟩,
    ⟨(put base (cmd 4 0 9 4 [5, 4, 5, 2])), 0, 5, (Instr.ringCreate 0, 0x04, { ring0 := true, feature := some 10 }), by decide +kernel⟩,
    ⟨base, 3, (Instr.detach 3, 0x02, { ring0 := true, free := true }), by decide +kernel⟩,
    ⟨(put base (cmd 1 0 9 16 [5,2,1,0, 255,255,0,0, 0,0,0,0, 0,0,0,0])), ((put base (cmd 1 0 9 16 [5,2,1,0, 255,255,0,0, 0,0,0,0, 0,0,0,0])).payload 0), by decide +kernel⟩,
    ⟨a13, (a13.payload 0), by decide +kernel⟩,
    ⟨(mk [(R.STATUS_SAFE_GOV,0,1),(R.BOOT_STEP,0,9)] (put base (cmd 3 0 9 0 []))), by decide +kernel⟩,
    ⟨a15, (a15.payload 0), 5, 3, by decide +kernel⟩,
    ⟨(att (put base (cmd 5 0 9 1 [5]))), ((att (put base (cmd 5 0 9 1 [5]))).payload 0), 5, 3, by decide +kernel⟩,
    ⟨(att (put base (cmd 5 0 9 1 [0]))), by decide +kernel⟩,
    ⟨a18, (a18.payload 0), 5, by decide +kernel⟩,
    ⟨a19, 0, by decide +kernel⟩,
    ⟨a20, 0, by decide +kernel⟩,
    ⟨base, by decide +kernel⟩,
    ⟨(mk [(H.FW_CPL_DUE,0,1),(H.FW_CPL_STATUS,0,6),(H.FW_CPL_R0,0,0x1234567),(H.FW_RING_OP,0,0x14),(H.FW_RING_TAG,0,9),(R.RING_POS_CPL_TAIL,0,16),(R.RING_CFG_CPL_LOG2,0,4)] (att base)), ⟨.host,0⟩, 0, 0x10001, by decide +kernel⟩⟩

/-- The hypotheses of RingsCarryMapsAndImages are met, clause by clause. -/
theorem witness_RingsCarryMapsAndImages :
    (∃ (s : State) (r : Nat), Asks s r 0x10 { governor := true, feature := some 3 } ∧ s.hartUp 0 = true ∧ s.bit R.STATUS_SAFE_GOV 0 = false ∧ s.rd R.RUN_STATE 0 = 0 ∧ s.stageA = none)
    ∧ (∃ (s : State) (r : Nat), Asks s r 0x11 { governor := true, feature := some 3 } ∧ s.cmdData r = true ∧ s.ringLoading r = true ∧ s.cmdLast r = false)
    ∧ (∃ (s : State) (r : Nat), Asks s r 0x11 { governor := true, feature := some 3 } ∧ s.cmdData r = true ∧ s.ringLoading r = true ∧ s.cmdLast r = true)
    ∧ (∃ (s : State) (r : Nat), Asks s r 0x12 { governor := true, feature := some 4 } ∧ s.bit R.WARDEN_OPEN 0 = true ∧ s.rd H.FW_FLASH_OP 0 = 0)
    ∧ (∃ (s : State) (r : Nat), Asks s r 0x12 { governor := true, feature := some 4 } ∧ s.bit R.WARDEN_OPEN 0 = false)
    ∧ (∃ (s : State) (r : Nat), Asks s r 0x13 { governor := true, feature := some 4 } ∧ s.bit R.WARDEN_OPEN 0 = true ∧ s.role = 0 ∧ s.rd H.FW_FLASH_OP 0 = 0)
    ∧ (∃ (s : State) (r : Nat), Asks s r 0x15 { governor := true, free := true } ∧ s.bit R.STATUS_SAFE_GOV 0 = true ∧ s.rd H.FW_FLASH_OP 0 = 0)
    ∧ (∃ (s : State) (r : Nat), Asks s r 0x14 { governor := true, feature := some 4 } ∧ s.cmdData r = true ∧ s.rd H.FW_FLASH_OP 0 = 1 ∧ s.rd H.FW_FLASH_RING 0 = r ∧ s.bit R.WARDEN_OPEN 0 = true ∧ s.map.flash.length + s.cmdLen r ≤ 0x200000 ∧ s.cmdLast r = false)
    ∧ (∃ (s : State) (r : Nat) (v : Nat) (psc : PscAnswer), r < 64 ∧ s.rd H.FW_RING_OP r = 0x14 ∧ s.rd H.FW_FLASH_RING 0 = r ∧ s.rd H.FW_FLASH_OP 0 = 2 ∧ v = imageReason s.zk4 true psc s.flashImage ∧ s.bit H.FW_CPL_DUE r = false ∧ s.mayPost r = true ∧ s.rd R.RING_DB_CMD_TAIL r = (s.rd R.RING_POS_CMD_HEAD r + 1) % 65536 ∧ s.cplAt r + 16 ≤ storeSize)
    ∧ (∃ (s : State) (r : Nat) (st : Nat) (x : Instr × Nat × CmdRule), x ∈ ([(.mapData r, 0x11, { governor := true, feature := some 3 }), (.flashMap r, 0x12, { governor := true, feature := some 4 }),
      (.flashImage r, 0x13, { governor := true, feature := some 4 }), (.flashData r, 0x14, { governor := true, feature := some 4 }),
      (.loadImage r, 0x15, { governor := true, free := true })] : List (Instr × Nat × CmdRule)) ∧ s.takes r = true ∧ s.cmdOp r = x.2.1 ∧ s.turnAway r x.2.2 = some st ∧ s.rd R.RING_DB_CMD_TAIL r = (s.rd R.RING_POS_CMD_HEAD r + 1) % 65536 ∧ s.cplAt r + 16 ≤ storeSize)
    ∧ (∃ (s : State) (r : Nat) (x : Instr × Nat × CmdRule), x ∈ ([(.mapData r, 0x11, { governor := true, feature := some 3 }), (.flashMap r, 0x12, { governor := true, feature := some 4 }),
      (.flashImage r, 0x13, { governor := true, feature := some 4 }), (.flashData r, 0x14, { governor := true, feature := some 4 }),
      (.loadImage r, 0x15, { governor := true, free := true })] : List (Instr × Nat × CmdRule)) ∧ (s.served r = false ∨ s.posted r = false
      ∨ s.bit R.RING_CFG_ERR r = true) ∧ (s.takes r = false ∨ s.cmdOp r ≠ x.2.1))
    ∧ (∃ (s : State) (r : Nat) (st : Nat), s.takes r = true ∧ s.cmdOp r = 0x10 ∧ s.hartUp 0 = true ∧ s.turnAway r { governor := true, feature := some 3 } = some st ∧ s.rd R.RING_DB_CMD_TAIL r = (s.rd R.RING_POS_CMD_HEAD r + 1) % 65536 ∧ s.cplAt r + 16 ≤ storeSize)
    ∧ (∃ (s : State), s.hartUp 0 = false)
    ∧ (∃ (s : State) (r : Nat) (st : Nat), Asks s r 0x10 { governor := true, feature := some 3 } ∧ s.hartUp 0 = true ∧ s.bit R.STATUS_SAFE_GOV 0 = false ∧ (((s.rd R.RUN_STATE 0 = 1 ∧ st = 1) ∨ (s.rd R.RUN_STATE 0 = 2 ∧ s.runEn = false ∧ st = 5))))
    ∧ (∃ (s : State) (r : Nat), Asks s r 0x10 { governor := true, feature := some 3 } ∧ s.hartUp 0 = true ∧ s.bit R.STATUS_SAFE_GOV 0 = false ∧ s.rd R.RUN_STATE 0 = 2 ∧ s.runEn = true ∧ s.reloadBusy = true)
    ∧ (∃ (s : State) (r : Nat), Asks s r 0x10 { governor := true, feature := some 3 } ∧ s.hartUp 0 = true ∧ s.bit R.STATUS_SAFE_GOV 0 = false ∧ s.rd R.RUN_STATE 0 = 2 ∧ s.runEn = true ∧ s.reloadBusy = false ∧ s.stageA = none)
    ∧ (∃ (s : State) (r : Nat) (st : Nat) (r0 : Nat) (r1 : Nat), Asks s r 0x11 { governor := true, feature := some 3 } ∧ (((s.cmdData r = false ∧ st = 3 ∧ r0 = 0 ∧ r1 = 0)
      ∨ (s.cmdData r = true ∧ s.ringLoading r = false ∧ s.bit H.TOP_LOAD_SRC 0 = true ∧ s.rd H.TOP_LOAD_RING 0 = r
        ∧ s.rd R.REFUSE_CODE 0 ≠ 0 ∧ st = 6 ∧ r0 = s.rawWord 0x10000C ∧ r1 = s.rd R.RUN_COMMIT 0)
      ∨ (s.cmdData r = true ∧ s.ringLoading r = false ∧ s.rd R.REFUSE_CODE 0 = 0 ∧ st = 5 ∧ r0 = 0 ∧ r1 = 0))))
    ∧ (∃ (s : State) (r : Nat), Asks s r 0x12 { governor := true, feature := some 4 } ∧ s.bit R.WARDEN_OPEN 0 = true ∧ s.rd H.FW_FLASH_OP 0 ≠ 0 ∧ s.rd H.FW_FLASH_RING 0 ≠ r)
    ∧ (∃ (s : State) (r : Nat) (st : Nat), Asks s r 0x13 { governor := true, feature := some 4 } ∧ (((s.bit R.WARDEN_OPEN 0 = false ∧ st = 4)
      ∨ (s.bit R.WARDEN_OPEN 0 = true ∧ s.role ≠ 0 ∧ s.bit R.STATUS_SAFE_GOV 0 = false ∧ st = 5))))
    ∧ (∃ (s : State) (r : Nat), Asks s r 0x15 { governor := true, free := true } ∧ s.bit R.STATUS_SAFE_GOV 0 = false)
    ∧ (∃ (s : State) (r : Nat), Asks s r 0x14 { governor := true, feature := some 4 } ∧ s.cmdData r = true ∧ s.rd H.FW_FLASH_OP 0 = 2 ∧ s.rd H.FW_FLASH_RING 0 = r ∧ s.bit R.WARDEN_OPEN 0 = true ∧ s.map.image.length + s.cmdLen r ≤ 0x2000000 ∧ s.cmdLast r = true)
    ∧ (∃ (s : State) (r : Nat), Asks s r 0x14 { governor := true, feature := some 4 } ∧ s.cmdData r = true ∧ s.rd H.FW_FLASH_OP 0 = 3 ∧ s.rd H.FW_FLASH_RING 0 = r ∧ s.map.upload.length + s.cmdLen r ≤ 0x2000000 ∧ s.cmdLast r = false)
    ∧ (∃ (s : State) (r : Nat) (st : Nat), Asks s r 0x14 { governor := true, feature := some 4 } ∧ (((s.cmdData r = false ∧ st = 3)
      ∨ (s.cmdData r = true ∧ (s.rd H.FW_FLASH_OP 0 = 0 ∨ s.rd H.FW_FLASH_RING 0 ≠ r) ∧ st = 5))))
    ∧ (∃ (s : State) (r : Nat) (st : Nat), Asks s r 0x14 { governor := true, feature := some 4 } ∧ s.cmdData r = true ∧ s.rd H.FW_FLASH_OP 0 = 1 ∧ s.rd H.FW_FLASH_RING 0 = r ∧ (((s.bit R.WARDEN_OPEN 0 = false ∧ st = 4)
      ∨ (s.bit R.WARDEN_OPEN 0 = true ∧ 0x200000 < s.map.flash.length + s.cmdLen r ∧ st = 3))))
    ∧ (∃ (s : State) (r : Nat), (64 ≤ r ∨ s.rd H.FW_RING_OP r ≠ 0x14 ∨ s.rd H.FW_FLASH_RING 0 ≠ r
      ∨ s.rd H.FW_FLASH_OP 0 = 0 ∨ s.rd H.FW_FLASH_OP 0 = 3 ∨ s.bit H.FW_CPL_DUE r = true))
    ∧ (∃ (s : State) (r : Nat) (v : Nat) (psc : PscAnswer), r < 64 ∧ s.rd H.FW_RING_OP r = 0x14 ∧ s.rd H.FW_FLASH_RING 0 = r ∧ s.rd H.FW_FLASH_OP 0 = 1 ∧ v = s.flashResult true psc ∧ s.bit H.FW_CPL_DUE r = false ∧ s.mayPost r = true ∧ s.rd R.RING_DB_CMD_TAIL r = (s.rd R.RING_POS_CMD_HEAD r + 1) % 65536 ∧ s.cplAt r + 16 ≤ storeSize)
    ∧ (∃ (s : State) (r : Nat) (v : Nat) (psc : PscAnswer), r < 64 ∧ s.rd H.FW_RING_OP r = 0x14 ∧ s.rd H.FW_FLASH_RING 0 = r ∧ s.rd H.FW_FLASH_OP 0 = 2 ∧ v = imageReason s.zk4 true psc s.flashImage ∧ s.bit H.FW_CPL_DUE r = false ∧ s.mayPost r = false) :=
  ⟨⟨m0, 0, by decide +kernel⟩,
    ⟨m1, 0, by decide +kernel⟩,
    ⟨(mk [(R.RUN_STATE,0,1),(H.TOP_LOAD_SRC,0,1)] (att (put base (cmd 0x11 3 9 5 [7,0,0,0])))), 0, by decide +kernel⟩,
    ⟨(w (att (put base (cmd 0x12 0 9 0 [])))), 0, by decide +kernel⟩,
    ⟨(att (put base (cmd 0x12 0 9 0 []))), 0, by decide +kernel⟩,
    ⟨(w (att (put base (cmd 0x13 0 9 0 [])))), 0, by decide +kernel⟩,
    ⟨(mk [(R.STATUS_SAFE_GOV,0,1)] (put base (cmd 0x15 0 9 0 []))), 0, by decide +kernel⟩,
    ⟨(mk [(H.FW_FLASH_OP,0,1)] (w (att (put base (cmd 0x14 1 9 4 [1,0,0,0]))))), 0, by decide +kernel⟩,
    ⟨m8, 0, 1, pa, by decide +kernel⟩,
    ⟨(put base (cmd 0x12 0 9 0 [])), 0, 5, (Instr.flashMap 0, 0x12, { governor := true, feature := some 4 }), by decide +kernel⟩,
    ⟨base, 3, (Instr.flashData 3, 0x14, { governor := true, feature := some 4 }), by decide +kernel⟩,
    ⟨(put base (cmd 0x10 0 9 0 [])), 0, 5, by decide +kernel⟩,
    ⟨(mk [(R.FW_HART_STAT_STATE,0,2)] m0), by decide +kernel⟩,
    ⟨(mk [(R.RUN_STATE,0,1)] m0), 0, 1, by decide +kernel⟩,
    ⟨(mk [(R.RUN_STATE,0,2),(R.RUN_EN,0,1),(R.PROFILE_PENDING,0,1)] m0), 0, by decide +kernel⟩,
    ⟨(mk [(R.RUN_STATE,0,2),(R.RUN_EN,0,1)] m0), 0, by decide +kernel⟩,
    ⟨m16, 0, 5, 0, 0, by decide +kernel⟩,
    ⟨(mk [(H.FW_FLASH_OP,0,1),(H.FW_FLASH_RING,0,4)] (w (att (put base (cmd 0x12 0 9 0 []))))), 0, by decide +kernel⟩,
    ⟨(mk [(R.TWIN_STATUS_ROLE,0,4)] (w (att (put base (cmd 0x13 0 9 0 []))))), 0, 5, by decide +kernel⟩,
    ⟨(put base (cmd 0x15 0 9 0 [])), 0, by decide +kernel⟩,
    ⟨(mk [(H.FW_FLASH_OP,0,2)] (w (att (put base (cmd 0x14 3 9 4 [1,0,0,0]))))), 0, by decide +kernel⟩,
    ⟨(mk [(H.FW_FLASH_OP,0,3)] (w (att (put base (cmd 0x14 1 9 4 [1,0,0,0]))))), 0, by decide +kernel⟩,
    ⟨(w (att (put base (cmd 0x14 1 9 4 [1,0,0,0])))), 0, 5, by decide +kernel⟩,
    ⟨(mk [(H.FW_FLASH_OP,0,1)] (att (put base (cmd 0x14 1 9 4 [1,0,0,0])))), 0, 4, by decide +kernel⟩,
    ⟨m8, 5, by decide +kernel⟩,
    ⟨m25, 0, (m25.flashResult true pa), pa, by decide +kernel⟩,
    ⟨(mk [(R.RING_POS_CPL_TAIL,0,16),(R.RING_CFG_CPL_LOG2,0,4)] m8), 0, 1, pa, by decide +kernel⟩⟩

/-- The hypotheses of RingsServeFirmwareCommands are met, clause by clause. -/
theorem witness_RingsServeFirmwareCommands :
    (∃ (s : State) (r : Nat) (q : Nat), Asks s r 0x20 { feature := some 5 } ∧ (s.payload r).length = 1 ∧ q = byteAt (s.payload r) 0 ∧ q < 8 ∧ s.running = true ∧ s.badProfile q = false ∧ s.rd R.RUN_LIVE 0 = 0 ∧ q ≠ s.rd R.PROFILE_IN_FORCE 0 ∧ Writable s ⟨.hart 2, 0⟩ R.PROFILE_REQ 0 ∧ s.peerCompares = false)
    ∧ (∃ (s : State) (r : Nat) (p : List Byte) (a : Nat) (n : Nat), Asks s r 0x30 { feature := some 8 } ∧ p = s.payload r ∧ p.length = 8 ∧ n = u16At p 2 ∧ n ≠ 0 ∧ n ≤ 1024 ∧ u16At p 0 + n ≤ 4096 ∧ u32At p 4 + 8 * n ≤ s.bufSize r ∧ a = s.bufAt r + u32At p 4 ∧ a + 8 * n ≤ storeSize ∧ ((s.cplAt r + 16 ≤ a ∨ a + 8 * n ≤ s.cplAt r)) ∧ ((s.cmdAt r + 64 ≤ a ∨ a + 8 * n ≤ s.cmdAt r)))
    ∧ (∃ (s : State) (r : Nat), Asks s r 0x40 { feature := some 1 } ∧ (s.payload r).length = 1 ∧ byteAt (s.payload r) 0 < 4)
    ∧ (∃ (s : State) (r : Nat), Asks s r 0x41 { feature := some 2 } ∧ (s.payload r).length = 32)
    ∧ (∃ (s : State) (r : Nat) (p : List Byte) (a : Nat) (n : Nat) (l : List Nat), Asks s r 0x50 { feature := some 9 } ∧ p = s.payload r ∧ p.length = 12 ∧ n = u16At p 4 ∧ n ≠ 0 ∧ n ≤ 1024 ∧ u16At p 6 = 0 ∧ u32At p 8 + 32 * n ≤ s.bufSize r ∧ a = s.bufAt r + u32At p 8 ∧ a + 32 * n ≤ storeSize ∧ ((s.cplAt r + 16 ≤ a ∨ a + 32 * n ≤ s.cplAt r)) ∧ ((s.cmdAt r + 64 ≤ a ∨ a + 32 * n ≤ s.cmdAt r)) ∧ l = s.tallyRange (u32At p 0) n)
    ∧ (∃ (s : State) (r : Nat) (st : Nat) (x : Instr × Nat × CmdRule), x ∈ ([(.profile r, 0x20, { feature := some 5 }), (.ledgerSnap r, 0x30, { feature := some 8 }), (.logCtrl r, 0x40, { feature := some 1 }),
      (.traceCtrl r, 0x41, { feature := some 2 }), (.tallyRead r, 0x50, { feature := some 9 })] : List (Instr × Nat × CmdRule)) ∧ s.takes r = true ∧ s.cmdOp r = x.2.1 ∧ s.turnAway r x.2.2 = some st ∧ s.rd R.RING_DB_CMD_TAIL r = (s.rd R.RING_POS_CMD_HEAD r + 1) % 65536 ∧ s.cplAt r + 16 ≤ storeSize)
    ∧ (∃ (s : State) (r : Nat) (x : Instr × Nat × CmdRule), x ∈ ([(.profile r, 0x20, { feature := some 5 }), (.ledgerSnap r, 0x30, { feature := some 8 }), (.logCtrl r, 0x40, { feature := some 1 }),
      (.traceCtrl r, 0x41, { feature := some 2 }), (.tallyRead r, 0x50, { feature := some 9 })] : List (Instr × Nat × CmdRule)) ∧ (s.served r = false ∨ s.posted r = false
      ∨ s.bit R.RING_CFG_ERR r = true) ∧ (s.takes r = false ∨ s.cmdOp r ≠ x.2.1))
    ∧ (∃ (s : State) (r : Nat) (p : List Byte), Asks s r 0x20 { feature := some 5 } ∧ p = s.payload r ∧ ((p.length ≠ 1 ∨ 8 ≤ byteAt p 0)))
    ∧ (∃ (s : State) (r : Nat) (p : List Byte), Asks s r 0x20 { feature := some 5 } ∧ p = s.payload r ∧ p.length = 1 ∧ byteAt p 0 < 8 ∧ s.running = false)
    ∧ (∃ (s : State) (r : Nat) (p : List Byte), Asks s r 0x20 { feature := some 5 } ∧ p = s.payload r ∧ p.length = 1 ∧ byteAt p 0 < 8 ∧ s.running = true ∧ s.badProfile (byteAt p 0) = true ∧ Writable s ⟨.hart 2, 0⟩ R.PROFILE_REQ 0)
    ∧ (∃ (s : State) (r : Nat) (p : List Byte), Asks s r 0x30 { feature := some 8 } ∧ p = s.payload r ∧ ((p.length ≠ 8 ∨ u16At p 2 = 0 ∨ 1024 < u16At p 2 ∨ 4096 < u16At p 0 + u16At p 2 ∨ s.bufSize r < u32At p 4 + 8 * u16At p 2)))
    ∧ (∃ (s : State) (r : Nat) (p : List Byte), Asks s r 0x40 { feature := some 1 } ∧ p = s.payload r ∧ ((p.length ≠ 1 ∨ 4 ≤ byteAt p 0)))
    ∧ (∃ (s : State) (r : Nat), Asks s r 0x41 { feature := some 2 } ∧ (s.payload r).length ≠ 32)
    ∧ (∃ (s : State) (r : Nat) (p : List Byte), Asks s r 0x50 { feature := some 9 } ∧ p = s.payload r ∧ ((p.length ≠ 12 ∨ u16At p 4 = 0 ∨ 1024 < u16At p 4 ∨ u16At p 6 ≠ 0 ∨ s.bufSize r < u32At p 8 + 32 * u16At p 4))) :=
  ⟨⟨{ p0 with map := { p0.map with live := some lm }}, 0, 3, by decide +kernel⟩,
    ⟨p1', 0, (p1.payload 0), (p1.bufAt 0 + 8), 3, by decide +kernel⟩,
    ⟨(att (put base (cmd 0x40 0 9 1 [3]))), 0, by decide +kernel⟩,
    ⟨(att (put base (cmd 0x41 0 9 32 (List.range 32)))), 0, by decide +kernel⟩,
    ⟨p4', 0, (p4'.payload 0), (p4.bufAt 0 + 8), 3, (p4'.tallyRange (u32At (p4'.payload 0) 0) 3), by refine ⟨?_, ?_, ?_, ?_, ?_, ?_, ?_, ?_, ?_, ?_, ?_, ?_, rfl⟩ <;> decide +kernel⟩,
    ⟨(put base (cmd 0x20 0 9 1 [3])), 0, 5, (Instr.profile 0, 0x20, { feature := some 5 }), by decide +kernel⟩,
    ⟨base, 3, (Instr.tallyRead 3, 0x50, { feature := some 9 }), by decide +kernel⟩,
    ⟨p7, 0, (p7.payload 0), by decide +kernel⟩,
    ⟨p8, 0, (p8.payload 0), by decide +kernel⟩,
    ⟨p0, 0, (p0.payload 0), by decide +kernel⟩,
    ⟨p10, 0, (p10.payload 0), by decide +kernel⟩,
    ⟨p11, 0, (p11.payload 0), by decide +kernel⟩,
    ⟨(att (put base (cmd 0x41 0 9 1 [4]))), 0, by decide +kernel⟩,
    ⟨p13, 0, (p13.payload 0), by decide +kernel⟩⟩

end Sys2Proof.Tests.P60

namespace Sys2Proof.Tests.P62

def mb : State := mk [(R.CLK_EN_EN,0,0x7ff),(R.MBOX_CTRL_SENDER,3,4),(R.MBOX_CTRL_RECEIVER,3,1),(R.FW_HART_STAT_STATE,1,1),(R.HOST_IRQ_MASK_MASK,0,63),(R.MBOX_CTRL_SENDER,4,5),(R.MBOX_CTRL_RECEIVER,4,4)] State.reset

/-- The hypotheses of MailboxesRingAndAnswer are met, clause by clause. -/
theorem witness_MailboxesRingAndAnswer :
    (∃ (s : State) (w : WCtx) (m : Nat), Writable s w R.MBOX_DOORBELL_CMD m ∧ s.isSender w.req m = true ∧ s.bit R.MBOX_STAT_PENDING m = false)
    ∧ (∃ (s : State) (w : WCtx) (m : Nat), Writable s w R.MBOX_DOORBELL_CMD m ∧ ((s.isSender w.req m = false ∨ s.bit R.MBOX_STAT_PENDING m = true)))
    ∧ (∃ (s : State) (w : WCtx) (m : Nat), Writable s w R.MBOX_DOORBELL_CANCEL m ∧ s.isSender w.req m = true)
    ∧ (∃ (s : State) (w : WCtx) (m : Nat), Writable s w R.MBOX_ACK_CODE m ∧ s.isReceiver w.req m = true ∧ s.bit R.MBOX_STAT_PENDING m = true)
    ∧ (∃ (s : State) (m : Nat), m < 16 ∧ s.bit R.MBOX_STAT_PENDING m = true ∧ s.bit H.FW_MB_TIMER m = true)
    ∧ (∃ (s : State) (w : WCtx) (m : Nat), Writable s w R.MBOX_DOORBELL_CANCEL m ∧ s.isSender w.req m = false)
    ∧ (∃ (s : State) (w : WCtx) (m : Nat), Writable s w R.MBOX_ACK_CODE m ∧ ((s.isReceiver w.req m = false ∨ s.bit R.MBOX_STAT_PENDING m = false)))
    ∧ (∃ (s : State) (m : Nat), (16 ≤ m ∨ s.bit R.MBOX_STAT_PENDING m = false ∨ s.bit H.FW_MB_TIMER m = false)) :=
  ⟨⟨mb, ⟨.host,0⟩, 3, by decide +kernel⟩,
    ⟨mb, ⟨.psc,0⟩, 3, by decide +kernel⟩,
    ⟨(mk [(R.MBOX_STAT_PENDING,3,1)] mb), ⟨.host,0⟩, 3, by decide +kernel⟩,
    ⟨(mk [(R.MBOX_STAT_PENDING,3,1)] mb), ⟨.hart 1,0⟩, 3, by decide +kernel⟩,
    ⟨(mk [(R.MBOX_STAT_PENDING,3,1),(H.FW_MB_TIMER,3,1)] mb), 3, by decide +kernel⟩,
    ⟨mb, ⟨.psc,0⟩, 3, by decide +kernel⟩,
    ⟨mb, ⟨.hart 1,0⟩, 3, by decide +kernel⟩,
    ⟨mb, 3, by decide +kernel⟩⟩

end Sys2Proof.Tests.P62

namespace Sys2Proof.Tests.P64

def bs (l : List Nat) : List Byte := l.map (BitVec.ofNat 8)
def wc : WCtx := ⟨.psc, 0⟩
def v0 : State := mk [(R.CLK_EN_EN,0,0x7ff),(R.TALLY_STAT_RESTORED,0,1),(R.FW_HART_STAT_STATE,0,0)] State.reset
def v1 := (mk [(R.RUN_STATE,0,2),(R.RUN_EN,0,1)] v0)
def v2 := (mk [(R.RUN_STATE,0,1),(R.RUN_EN,0,1)] v0)
def pa : PscAnswer := { sigOk := true, floor := 0 }
def lm : MapImg := ⟨bs (List.replicate 0x40 4), [], []⟩
def v3 : State := { v1 with map := { v1.map with live := some lm }}
def v6 : State := { v2 with map := { v2.map with flash := mapBytes } }
def vl : State := { mk [(R.RUN_STATE,0,2),(R.RUN_LIVE,0,1)] v0 with map := { v0.map with flash := mapBytes, live := some (decodeMap mapBytes) } }

/-- The hypotheses of MapsAreEnabledCheckedAndReloaded are met, clause by clause. -/
theorem witness_MapsAreEnabledCheckedAndReloaded :
    (∃ (s : State) (w : WCtx), Writable s w R.RUN_EN 0 ∧ ((s.rd R.RUN_STATE 0 = 0 ∨ s.rd R.RUN_STATE 0 = 3)) ∧ s.stageA = none)
    ∧ (∃ (s : State) (w : WCtx) (r : Refuse), Writable s w R.RUN_EN 0 ∧ s.rd R.RUN_STATE 0 = 0 ∧ s.rd R.RUN_LIVE 0 = 0 ∧ s.stageA = some r ∧ s.bit R.STATUS_SAFE_GOV 0 = false ∧ s.atMapStep = false)
    ∧ (∃ (s : State) (w : WCtx), Writable s w R.RUN_EN 0 ∧ s.rd R.RUN_STATE 0 = 2 ∧ s.runEn = true)
    ∧ (∃ (s : State) (w : WCtx), Writable s w R.RUN_EN 0 ∧ s.rd R.RUN_STATE 0 = 1 ∧ s.rd R.RUN_LIVE 0 = 0 ∧ s.bit R.STATUS_SAFE_GOV 0 = false ∧ s.atMapStep = false)
    ∧ (∃ (s : State) (w : WCtx), Writable s w R.RUN_RELOAD 0 ∧ s.running = true ∧ s.rd R.RUN_LIVE 0 = 0 ∧ s.bit R.PROFILE_PENDING 0 = false ∧ s.stageA = none)
    ∧ (∃ (s : State) (w : WCtx), Writable s w R.RUN_RELOAD 0 ∧ s.running = true ∧ s.reloadBusy = true)
    ∧ (∃ (s : State) (psc : PscAnswer) (m : MapImg), s.loading = true ∧ s.judgeMap psc = some (.ok m) ∧ s.rd R.RUN_LIVE 0 ≠ 1 ∧ s.bit R.STATUS_SAFE_GOV 0 = false)
    ∧ (∃ (s : State) (psc : PscAnswer) (r : Refuse), s.loading = true ∧ s.judgeMap psc = some (.error r) ∧ s.rd R.RUN_LIVE 0 = 0 ∧ s.bit R.STATUS_SAFE_GOV 0 = false ∧ s.atMapStep = false)
    ∧ (∃ (s : State), s.loading = true ∧ s.bit H.TOP_LOAD_SRC 0 = true ∧ s.streamWhole = false ∧ s.rd R.RUN_LIVE 0 = 0 ∧ s.bit R.STATUS_SAFE_GOV 0 = false ∧ s.atMapStep = false)
    ∧ (∃ (s : State), s.holder = true ∧ s.rd R.RUN_LIVE 0 = 2 ∧ s.rd H.TOP_COMMIT_AT 0 = 0 ∧ 4096 ≤ s.rd H.TOP_OWN_AGE 0)
    ∧ (∃ (s : State) (w : WCtx), Writable s w R.RUN_EN 0 ∧ ((s.rd R.RUN_STATE 0 = 1 ∨ s.rd R.RUN_STATE 0 = 2)))
    ∧ (∃ (s : State) (w : WCtx), Writable s w R.RUN_EN 0 ∧ ((s.rd R.RUN_STATE 0 = 0 ∨ s.rd R.RUN_STATE 0 = 3 ∨ (s.rd R.RUN_STATE 0 = 2 ∧ s.runEn = false))))
    ∧ (∃ (s : State) (w : WCtx), Writable s w R.RUN_RELOAD 0 ∧ s.running = false ∧ s.right w.req R.RUN_RELOAD 0 = true)
    ∧ (∃ (s : State) (psc : PscAnswer), (s.loading = false ∨ s.judgeMap psc = none))
    ∧ (∃ (s : State) (psc : PscAnswer) (m : MapImg), s.loading = true ∧ s.judgeMap psc = some (.ok m) ∧ s.rd R.RUN_LIVE 0 = 1)
    ∧ (∃ (s : State) (psc : PscAnswer) (r : Refuse), s.loading = true ∧ s.judgeMap psc = some (.error r) ∧ s.rd R.RUN_LIVE 0 = 1)
    ∧ (∃ (s : State) (psc : PscAnswer) (m : MapImg), s.loading = true ∧ s.judgeMap psc = some (.ok m) ∧ s.rd R.RUN_LIVE 0 ≠ 1 ∧ s.bit R.STATUS_SAFE_GOV 0 = true)
    ∧ (∃ (s : State), (s.loading = false ∨ s.bit H.TOP_LOAD_SRC 0 = false ∨ s.streamWhole = true))
    ∧ (∃ (s : State), (s.holder = false ∨ s.rd R.RUN_LIVE 0 ≠ 2 ∨ s.rd H.TOP_COMMIT_AT 0 ≠ 0 ∨ s.rd H.TOP_OWN_AGE 0 < 4096)) :=
  ⟨⟨v0, wc, by decide +kernel⟩,
    ⟨(mk [(R.CLK_EN_EN,0,0x6ff)] v0), wc, ⟨0x42, 0xFFFD08, none⟩, by decide +kernel⟩,
    ⟨(mk [(R.RUN_STATE,0,2),(R.RUN_EN,0,1)] v0), wc, by decide +kernel⟩,
    ⟨(mk [(R.RUN_STATE,0,1),(R.RUN_EN,0,1)] v0), wc, by decide +kernel⟩,
    ⟨v1, wc, by decide +kernel⟩,
    ⟨(mk [(R.RUN_LIVE,0,1)] v1), wc, by decide +kernel⟩,
    ⟨v6, pa, (decodeMap mapBytes), by decide +kernel⟩,
    ⟨v2, pa, ⟨5, 0xFFFFFF, none⟩, by decide +kernel⟩,
    ⟨(mk [(H.TOP_LOAD_SRC,0,1)] v2), by decide +kernel⟩,
    ⟨(mk [(R.TWIN_STATUS_ROLE,0,4),(R.RUN_LIVE,0,2),(H.TOP_OWN_AGE,0,4096)] v0), by decide +kernel⟩,
    ⟨v1, wc, by decide +kernel⟩,
    ⟨v0, wc, by decide +kernel⟩,
    ⟨v0, wc, by decide +kernel⟩,
    ⟨v0, pa, by decide +kernel⟩,
    ⟨vl, pa, (decodeMap mapBytes), by decide +kernel⟩,
    ⟨(mk [(R.RUN_STATE,0,2),(R.RUN_LIVE,0,1)] v0), pa, ⟨5, 0xFFFFFF, none⟩, by decide +kernel⟩,
    ⟨(mk [(R.STATUS_SAFE_GOV,0,1)] v6), pa, (decodeMap mapBytes), by decide +kernel⟩,
    ⟨v0, by decide +kernel⟩,
    ⟨v0, by decide +kernel⟩⟩

/-- The hypotheses of ProfilesWindowAndCap are met, clause by clause. -/
theorem witness_ProfilesWindowAndCap :
    (∃ (s : State) (w : WCtx) (p : Nat), Writable s w R.PROFILE_REQ 0 ∧ s.running = true ∧ s.badProfile (p % 8) = false ∧ s.rd R.RUN_LIVE 0 = 0 ∧ p % 8 ≠ s.rd R.PROFILE_IN_FORCE 0)
    ∧ (∃ (s : State) (w : WCtx) (p : Nat), Writable s w R.PROFILE_REQ 0 ∧ s.badProfile (p % 8) = true)
    ∧ (∃ (s : State) (frames : Nat), s.running = true ∧ s.rd H.TOP_PREP_ST 0 = 1 ∧ frames ≤ 1024)
    ∧ (∃ (s : State), s.hartUp 0 = true)
    ∧ (∃ (s : State) (ok : Bool), (ok = false ∨ s.hartUp 0 = false))
    ∧ (∃ (s : State), s.bit R.WARDEN_OPEN 0 = true ∧ s.rd R.WARDEN_REMAIN 0 = 0)
    ∧ (∃ (s : State) (w : WCtx), Writable s w R.CAP_BMC_CAP 0)
    ∧ (∃ (s : State) (k : Nat) (v : Nat), k ≠ 0 ∧ s.gated 0x100034 = false ∧ s.rd R.CAP_BMC_CAP 0 = 0 ∧ v % 2 ^ 24 ≠ 0)
    ∧ (∃ (s : State) (w : WCtx), Writable s w R.PROFILE_REQ 0 ∧ s.running = false)
    ∧ (∃ (s : State) (w : WCtx), Writable s w R.PROFILE_REQ 0 ∧ s.running = true ∧ s.rd R.RUN_LIVE 0 ≠ 0)
    ∧ (∃ (s : State) (w : WCtx) (p : Nat), Writable s w R.PROFILE_REQ 0 ∧ s.running = true ∧ s.badProfile (p % 8) = false ∧ s.rd R.RUN_LIVE 0 = 0 ∧ p % 8 = s.rd R.PROFILE_IN_FORCE 0 ∧ s.bit R.PROFILE_PENDING 0 = false)
    ∧ (∃ (s : State) (frames : Nat), (s.running = false ∨ s.rd H.TOP_PREP_ST 0 ≠ 1 ∨ 1024 < frames))
    ∧ (∃ (s : State), (s.bit R.WARDEN_OPEN 0 = false ∨ s.rd R.WARDEN_REMAIN 0 ≠ 0)) :=
  ⟨⟨v3, wc, 11, by decide +kernel⟩,
    ⟨v3, wc, 5, by decide +kernel⟩,
    ⟨(mk [(H.TOP_PREP_ST,0,1)] v3), 1024, by decide +kernel⟩,
    ⟨v3, by decide +kernel⟩,
    ⟨v3, false, by decide +kernel⟩,
    ⟨(mk [(R.WARDEN_OPEN,0,1)] v3), by decide +kernel⟩,
    ⟨v3, ⟨.bmc, 195⟩, by decide +kernel⟩,
    ⟨v3, 1, 0x123, by decide +kernel⟩,
    ⟨v0, wc, by decide +kernel⟩,
    ⟨(mk [(R.RUN_LIVE,0,1)] v3), wc, by decide +kernel⟩,
    ⟨v3, wc, 0, by decide +kernel⟩,
    ⟨v3, 3, by decide +kernel⟩,
    ⟨v3, by decide +kernel⟩⟩

end Sys2Proof.Tests.P64

namespace Sys2Proof.Tests.P66

def bs (l : List Nat) : List Byte := l.map (BitVec.ofNat 8)
def u0 : State := mk [(H.RST_SEQ,0,1)] State.reset
def st (n : Nat) (b : Nat) : State := mk [(H.RST_SEQ,0,0),(H.TOP_BOOT_ON,0,1),(R.BOOT_STEP,0,n),(R.BOOT_BLOCK_START,0,b),(H.TOP_BOOT_T,0,7)] State.reset
def pa : PscAnswer := { sigOk := true, floor := 0 }
def lm : MapImg := ⟨bs (List.replicate 0x40 4), [], []⟩
def s4 : State := { (st 4 0) with map := {State.reset.map with shadow := some lm}}
def dg := s4.admitted.getD 0
def s4b : State := { s4 with ident := { s4.ident with instB := true }}
def rSafe (r g : Nat) : Rec := ⟨r, bs [1,9,16,0, r,g,0,0, 0,0,0,0, 0,0,0,0]⟩
def r0 : State := mk ([(R.RUN_STATE,0,2),(R.TWIN_STATUS_ROLE,0,4),(R.PD_RAIL_CFG_COUNT, 2, 6), (R.PD_RAIL_MASK_MASK, 2, 63),(R.PD_RAIL_CFG_ENABLE,2,1)] ++ (List.range 6).map (fun p => (R.PD_PH_STAT_RAIL, p, 2)) ++ (List.range 6).map (fun p => (R.PD_PH_STAT_STATE, p, 0))) { (st 5 0) with map := {State.reset.map with recs := [rSafe 2 3]}}
def si : State := { (st 3 0) with map := { State.reset.map with image := imageBytes } }
def cr : CalibResult := { loops := [3], monitors := [4], delayLine := false, phases := [5], rails := [6], diodes := [] }
def sg : State := mk [(R.STATUS_SAFE_GOV,0,1),(H.FW_FLASH_OP,0,3),(H.FW_RING_OP,0,0x14),(R.BOOT_STEP,0,8)] { (st 8 0) with map := { State.reset.map with upload := imageBytes } }
def r1 : State := mk ([(R.PD_RAIL_CFG_COUNT, 4, 2), (R.PD_RAIL_MASK_MASK, 4, 0x300),(R.PD_RAIL_CFG_ENABLE,4,1),(R.PD_PH_STAT_RAIL,8,4),(R.PD_PH_STAT_RAIL,9,4),(R.PD_PH_STAT_STATE,8,0),(R.PD_PH_STAT_STATE,9,1)]) { r0 with map := {State.reset.map with recs := [rSafe 2 3, rSafe 4 3]}}

/-- The hypotheses of SequenceReachesTheImage are met, clause by clause. -/
theorem witness_SequenceReachesTheImage :
    (∃ (s : State), s.rd H.RST_SEQ 0 = 1)
    ∧ (∃ (s : State), s.rd H.RST_SEQ 0 = 2)
    ∧ (∃ (s : State), s.atStep 0 = true ∧ s.bit R.BOOT_BLOCK_START 0 = false)
    ∧ (∃ (s : State), s.atStep 0 = true ∧ s.bit R.BOOT_BLOCK_START 0 = true)
    ∧ (∃ (s : State), s.atStep 1 = true)
    ∧ (∃ (s : State) (c : CalibResult), s.atStep 1 = true ∧ 0 ∈ c.loops)
    ∧ (∃ (s : State) (c : CalibResult), s.atStep 1 = true ∧ 0 ∉ c.loops ∧ 1 ∉ c.loops ∧ c.delayLine = true)
    ∧ (∃ (s : State), s.atStep 2 = true ∧ s.bit R.BOOT_BLOCK_START 0 = false)
    ∧ (∃ (s : State), s.atStep 2 = true ∧ s.bit R.BOOT_BLOCK_START 0 = true)
    ∧ (∃ (s : State) (psc : PscAnswer), s.atStep 3 = true ∧ imageReason s.zk4 true psc s.flashImage = 0)
    ∧ (∃ (s : State), s.atStep 3 = true ∧ s.bit R.STATUS_SAFE_GOV 0 = false)
    ∧ (∃ (s : State), s.rd H.RST_SEQ 0 ≠ 1 ∧ s.rd H.RST_SEQ 0 ≠ 2)
    ∧ (∃ (s : State) (ok : Bool), (s.atStep 0 = false ∨ ok = false))
    ∧ (∃ (s : State), s.atStep 1 = false)
    ∧ (∃ (s : State) (c : CalibResult), s.atStep 1 = true ∧ 0 ∉ c.loops ∧ 1 ∉ c.loops ∧ c.delayLine = false)
    ∧ (∃ (s : State), s.atStep 2 = false)
    ∧ (∃ (s : State) (l : List Nat), s.atStep 2 = true ∧ s.bit R.BOOT_BLOCK_START 0 = false ∧ l.Nodup ∧ ((∀ r ∈ l, r < 4096)) ∧ l.length < 256)
    ∧ (∃ (s : State) (psc : PscAnswer) (v : Nat), s.atStep 3 = true ∧ s.bit R.STATUS_SAFE_GOV 0 = false ∧ v = imageReason s.zk4 true psc s.flashImage ∧ v ≠ 0 ∧ v ≠ 7)
    ∧ (∃ (s : State) (psc : PscAnswer), s.atStep 3 = false ∧ s.bit R.STATUS_SAFE_GOV 0 = true ∧ s.rd H.FW_FLASH_OP 0 = 3 ∧ s.rd H.FW_RING_OP 0 = 0x14 ∧ s.bit H.FW_CPL_DUE 0 = false ∧ imageReason s.zk4 true psc s.map.upload = 0)
    ∧ (∃ (s : State) (psc : PscAnswer) (v : Nat), s.atStep 3 = false ∧ s.bit R.STATUS_SAFE_GOV 0 = true ∧ s.rd H.FW_FLASH_OP 0 = 3 ∧ s.rd H.FW_RING_OP 0 = 0x14 ∧ s.bit H.FW_CPL_DUE 0 = false ∧ v = imageReason s.zk4 true psc s.map.upload ∧ v ≠ 0)
    ∧ (∃ (s : State) (psc : PscAnswer) (k : Nat), s.atStep 3 = false ∧ s.bit R.STATUS_SAFE_GOV 0 = false ∧ k < 4 ∧ s.bit H.FW_REREAD k = true ∧ imageReason s.zk4 true psc s.flashImage = 0)
    ∧ (∃ (s : State), s.atStep 3 = false ∧ s.bit R.STATUS_SAFE_GOV 0 = false ∧ ((∀ k < 4, s.rd H.FW_REREAD k = 0))) :=
  ⟨⟨u0, by decide +kernel⟩,
    ⟨(mk [(H.RST_SEQ,0,2)] u0), by decide +kernel⟩,
    ⟨(st 0 0), by decide +kernel⟩,
    ⟨(st 0 1), by decide +kernel⟩,
    ⟨(st 1 0), by decide +kernel⟩,
    ⟨(st 1 0), { loops := [0], monitors := [], delayLine := false, phases := [], rails := [], diodes := [] }, by decide +kernel⟩,
    ⟨(st 1 0), { loops := [], monitors := [2], delayLine := true, phases := [], rails := [], diodes := [] }, by decide +kernel⟩,
    ⟨{ (st 2 0) with store := [(4,4)] }, by decide +kernel⟩,
    ⟨{ (st 2 1) with store := [(4,4)] }, by decide +kernel⟩,
    ⟨si, pa, by decide +kernel⟩,
    ⟨(st 3 0), by decide +kernel⟩,
    ⟨(mk [(H.RST_SEQ,0,0)] u0), by decide +kernel⟩,
    ⟨(st 0 0), false, by decide +kernel⟩,
    ⟨(st 0 0), by decide +kernel⟩,
    ⟨(st 1 0), cr, by decide +kernel⟩,
    ⟨(st 1 0), by decide +kernel⟩,
    ⟨(st 2 0), [3,77], by decide +kernel⟩,
    ⟨(st 3 0), pa, (imageReason true true pa (st 3 0).flashImage), by decide +kernel⟩,
    ⟨sg, pa, by decide +kernel⟩,
    ⟨{ sg with map := { State.reset.map with upload := bs [1,2] } }, pa, (imageReason true true pa (bs [1,2])), by decide +kernel⟩,
    ⟨(mk [(R.BOOT_STEP,0,7),(H.FW_REREAD,1,1),(R.FW_HART_STAT_STATE,1,2)] si), pa, 1, by decide +kernel⟩,
    ⟨(st 7 0), by decide +kernel⟩⟩

/-- The hypotheses of SequenceTakesItsRoleAndRamps are met, clause by clause. -/
theorem witness_SequenceTakesItsRoleAndRamps :
    (∃ (s : State) (d : Nat), s.atStep 4 = true ∧ s.admitted = some d ∧ s.rd R.TWIN_STATUS_PEER_ROLE 0 = 4 ∧ s.rd R.TWIN_DIGEST_PEER_MAP 0 = d)
    ∧ (∃ (s : State) (d : Nat), s.atStep 4 = true ∧ s.admitted = some d ∧ s.rd R.TWIN_STATUS_PEER_ROLE 0 = 4 ∧ s.rd R.TWIN_DIGEST_PEER_MAP 0 ≠ d)
    ∧ (∃ (s : State) (d : Nat), s.atStep 4 = true ∧ s.admitted = some d ∧ s.rd R.TWIN_STATUS_PEER_ROLE 0 = 7 ∧ s.running = false)
    ∧ (∃ (s : State) (d : Nat), s.atStep 4 = true ∧ s.admitted = some d ∧ s.ident.instB = true ∧ s.rd R.TWIN_STATUS_PEER_ROLE 0 = 0)
    ∧ (∃ (s : State) (d : Nat), s.atStep 4 = true ∧ s.bit H.TOP_WAIT_B 0 = true ∧ s.admitted = some d ∧ s.rd R.TWIN_STATUS_PEER_ROLE 0 ≠ 4 ∧ s.running = false)
    ∧ (∃ (s : State) (r : Nat) (g : Nat), s.atStep 5 = true ∧ s.holder = true ∧ s.running = true ∧ s.rd H.TOP_RAMP_ST 0 = 0 ∧ s.bit R.TH_TRIP_LATCHED 0 = false ∧ s.nextGroup = some g ∧ r ∈ s.groupRails g ∧ s.railOn r = false ∧ s.bit H.PD_CAL_RBAD (s.rd R.PD_RAIL_CFG_SENSE_CH r) = false ∧ s.bit R.PD_RAIL_STAT_OFF_LATCH r = false ∧ s.inState r 0 ≠ [] ∧ ((∀ p ∈ s.phasesOf r, s.bit H.PD_CAL_BAD p = false)))
    ∧ (∃ (s : State), s.atStep 5 = true ∧ s.holder = true ∧ s.running = true ∧ s.rd H.TOP_RAMP_ST 0 = 0 ∧ s.bit R.TH_TRIP_LATCHED 0 = true)
    ∧ (∃ (s : State) (r : Nat), r ∈ s.rails ∧ s.railOn r = true ∧ s.bit R.PD_RAIL_STAT_RAMPING r = false ∧ s.bit H.PD_PG r = false ∧ 400 ≤ s.rd H.PD_PG_CNT r)
    ∧ (∃ (s : State) (r : Nat), r ∈ s.rails ∧ railPresent s.zk4 r = true ∧ s.railOn r = true ∧ s.bit H.PD_PG r = false)
    ∧ (∃ (s : State), s.atStep 5 = true ∧ s.rd H.TOP_RAMP_ST 0 = 2)
    ∧ (∃ (s : State) (bad : List Nat) (k : Nat), s.atStep 6 = true ∧ s.bit R.CROOK_STATUS_SYNCED 0 = true ∧ s.bit R.BOOT_BLOCK_START 0 = false ∧ k ∈ bad ∧ sitePresent s.zk4 k = true)
    ∧ (∃ (s : State), (s.atStep 4 = false ∨ s.admitted = none))
    ∧ (∃ (s : State) (d : Nat), s.atStep 4 = true ∧ s.admitted = some d ∧ s.rd R.TWIN_STATUS_PEER_ROLE 0 ≠ 4 ∧ s.rd R.TWIN_STATUS_PEER_ROLE 0 ≠ 7 ∧ s.ident.instB = true)
    ∧ (∃ (s : State) (d : Nat), s.atStep 4 = true ∧ s.admitted = some d ∧ s.rd R.TWIN_STATUS_PEER_ROLE 0 ≠ 4 ∧ s.rd R.TWIN_STATUS_PEER_ROLE 0 ≠ 7 ∧ s.ident.instB = false)
    ∧ (∃ (s : State), (s.atStep 4 = false ∨ s.bit H.TOP_WAIT_B 0 = false ∨ s.admitted = none))
    ∧ (∃ (s : State) (d : Nat), s.atStep 4 = true ∧ s.bit H.TOP_WAIT_B 0 = true ∧ s.admitted = some d ∧ s.ident.instB = true ∧ s.rd R.TWIN_STATUS_PEER_ROLE 0 ≠ 4 ∧ s.rd R.TWIN_STATUS_PEER_ROLE 0 ≠ 7)
    ∧ (∃ (s : State), (s.atStep 5 = false ∨ s.holder = false ∨ s.running = false ∨ s.rd H.TOP_RAMP_ST 0 ≠ 0))
    ∧ (∃ (s : State), s.atStep 5 = true ∧ s.holder = true ∧ s.running = true ∧ s.rd H.TOP_RAMP_ST 0 = 0 ∧ s.bit R.TH_TRIP_LATCHED 0 = false ∧ s.nextGroup = none)
    ∧ (∃ (s : State) (r : Nat) (g : Nat), s.atStep 5 = true ∧ s.holder = true ∧ s.running = true ∧ s.rd H.TOP_RAMP_ST 0 = 0 ∧ s.bit R.TH_TRIP_LATCHED 0 = false ∧ s.nextGroup = some g ∧ r ∈ s.groupRails g ∧ s.railOn r = true)
    ∧ (∃ (s : State) (r : Nat) (g : Nat) (b : List Nat), s.atStep 5 = true ∧ s.holder = true ∧ s.running = true ∧ s.rd H.TOP_RAMP_ST 0 = 0 ∧ s.bit R.TH_TRIP_LATCHED 0 = false ∧ s.nextGroup = some g ∧ r ∈ s.groupRails g ∧ s.railOn r = false ∧ r ∈ b ∧ railPresent s.zk4 r = true)
    ∧ (∃ (s : State) (r : Nat) (g : Nat), s.atStep 5 = true ∧ s.holder = true ∧ s.running = true ∧ s.rd H.TOP_RAMP_ST 0 = 0 ∧ s.bit R.TH_TRIP_LATCHED 0 = false ∧ s.nextGroup = some g ∧ r ∈ s.groupRails g ∧ s.railOn r = false ∧ s.bit H.PD_CAL_RBAD (s.rd R.PD_RAIL_CFG_SENSE_CH r) = true)
    ∧ (∃ (s : State) (r : Nat) (g : Nat) (p : Nat), s.atStep 5 = true ∧ s.holder = true ∧ s.running = true ∧ s.rd H.TOP_RAMP_ST 0 = 0 ∧ s.bit R.TH_TRIP_LATCHED 0 = false ∧ s.nextGroup = some g ∧ r ∈ s.groupRails g ∧ p ∈ s.phasesOf r ∧ s.ph p ≠ 5)
    ∧ (∃ (s : State) (r : Nat), (r ∉ s.rails ∨ s.railOn r = false ∨ s.bit R.PD_RAIL_STAT_RAMPING r = true ∨ s.bit H.PD_PG r = true
      ∨ s.rd H.PD_PG_CNT r < 400))
    ∧ (∃ (s : State) (r : Nat), (r ∉ s.rails ∨ s.railOn r = false ∨ s.bit H.PD_PG r = true))
    ∧ (∃ (s : State), (s.atStep 5 = false ∨ s.rd H.TOP_RAMP_ST 0 ≠ 2))
    ∧ (∃ (s : State), (s.atStep 6 = false ∨ s.bit R.CROOK_STATUS_SYNCED 0 = false))
    ∧ (∃ (s : State), s.atStep 6 = true ∧ s.bit R.CROOK_STATUS_SYNCED 0 = true ∧ s.bit R.BOOT_BLOCK_START 0 = true) :=
  ⟨⟨(mk [(R.TWIN_STATUS_PEER_ROLE,0,4),(R.TWIN_DIGEST_PEER_MAP,0,dg)] s4), dg, by decide +kernel⟩,
    ⟨(mk [(R.TWIN_STATUS_PEER_ROLE,0,4),(R.TWIN_DIGEST_PEER_MAP,0,1)] s4), dg, by decide +kernel⟩,
    ⟨(mk [(R.TWIN_STATUS_PEER_ROLE,0,7)] s4), dg, by decide +kernel⟩,
    ⟨(mk [(R.TWIN_STATUS_PEER_ROLE,0,0)] s4b), dg, by decide +kernel⟩,
    ⟨(mk [(R.TWIN_STATUS_PEER_ROLE,0,0),(H.TOP_WAIT_B,0,1)] s4b), dg, by decide +kernel⟩,
    ⟨r0, 2, 3, by decide +kernel⟩,
    ⟨(mk [(R.TH_TRIP_LATCHED,0,1)] r0), by decide +kernel⟩,
    ⟨(mk [(R.PD_PH_STAT_STATE,0,1),(H.PD_PG_CNT,2,400)] r0), 2, by decide +kernel⟩,
    ⟨(mk [(R.PD_PH_STAT_STATE,0,1),(H.PD_PG_CNT,2,400)] r0), 2, by decide +kernel⟩,
    ⟨(mk [(H.TOP_RAMP_ST,0,2)] r0), by decide +kernel⟩,
    ⟨(mk [(R.CROOK_STATUS_SYNCED,0,1)] (st 6 0)), [5,9], 9, by decide +kernel⟩,
    ⟨(st 4 0), by decide +kernel⟩,
    ⟨(mk [(R.TWIN_STATUS_PEER_ROLE,0,0)] s4b), dg, by decide +kernel⟩,
    ⟨(mk [(R.TWIN_STATUS_PEER_ROLE,0,0)] s4), dg, by decide +kernel⟩,
    ⟨s4b, by decide +kernel⟩,
    ⟨(mk [(R.TWIN_STATUS_PEER_ROLE,0,0),(H.TOP_WAIT_B,0,1)] s4b), dg, by decide +kernel⟩,
    ⟨(st 5 0), by decide +kernel⟩,
    ⟨(mk [(R.BOOT_GROUP,0,3)] r0), by decide +kernel⟩,
    ⟨r1, 4, 3, by decide +kernel⟩,
    ⟨r1, 2, 3, [2], by decide +kernel⟩,
    ⟨(mk [(R.PD_RAIL_CFG_SENSE_CH,2,7),(H.PD_CAL_RBAD,7,1)] r1), 2, 3, by decide +kernel⟩,
    ⟨r1, 2, 3, 4, by decide +kernel⟩,
    ⟨r1, 2, by decide +kernel⟩,
    ⟨r1, 2, by decide +kernel⟩,
    ⟨r1, by decide +kernel⟩,
    ⟨r1, by decide +kernel⟩,
    ⟨(mk [(R.CROOK_STATUS_SYNCED,0,1)] (st 6 1)), by decide +kernel⟩⟩

end Sys2Proof.Tests.P66

namespace Sys2Proof.Tests.P68

def w0 : State := mk [(R.CLK_EN_EN,0,0x7ff),(R.FRAME_COUNT,0,0x123456789abc),(R.BOOT_STEP,0,8),(H.RST_SEQ,0,0),(H.TOP_FRAME_STARTED,0,1)] State.reset
def wc : WCtx := ⟨.psc, 0⟩
def wd : WCtx := ⟨.psc, 199⟩
def wh : WCtx := ⟨.host, 0⟩
def wk : WCtx := ⟨.hart 1, 0⟩
def wb : WCtx := ⟨.bmc, 0⟩
def w1 := mk [(R.TALLY_SUB_DATA_DATA,1,0x12345678),(R.HOST_IRQ_CPL,0,1),(R.HOST_IRQ_UNATT,0,1),(R.HOST_IRQ_LOG,0,1)] w0
def w2 : State := { w1 with shadows := [(.host, 0x100020, 5), (.psc, 0x100020, 6)] }
def w3 := mk [(R.FRAME_COUNT,0,2^64-1),(R.WARDEN_OPEN,0,1),(R.WARDEN_REMAIN,0,7),(H.TOP_MS_DIV,0,1999),(R.HOST_STAT_HB_AGE,0,7),(R.CLK_STATUS_ON_FRC,0,0),(R.TALLY_STAT_RESTORED,0,1)] w1

/-- The hypotheses of RegisterWritesFollowTheirAccessCodes are met, clause by clause. -/
theorem witness_RegisterWritesFollowTheirAccessCodes :
    (∃ (s : State) (off : Nat) (size : Nat), storeSize ≤ off ∧ off < 2 ^ 24 ∧ ((s.gated off = true ∨ regServed true off size = false)))
    ∧ (∃ (s : State) (off : Nat), storeSize ≤ off ∧ off < 0x300000 ∧ off % 4 = 0 ∧ s.gated off = false ∧ s.reservedWord off = true)
    ∧ (∃ (s : State) (off : Nat), 0x300000 ≤ off ∧ off < 0x400000 ∧ off % 4 = 0 ∧ s.gated off = false)
    ∧ (∃ (s : State) (w : WCtx) (k : Nat), Writable s w R.TALLY_SUB_DATA_DATA k)
    ∧ (∃ (s : State) (w : WCtx) (k : Nat) (b : Nat), Writable s w R.TALLY_SUB_DATA_DATA k ∧ b < 4)
    ∧ (∃ (s : State) (w : WCtx) (v : Nat), Writable s w R.HOST_IRQ_CPL 0 ∧ v < 64)
    ∧ (∃ (s : State) (w : WCtx), s.warden w.req = true)
    ∧ (∃ (s : State) (w : WCtx) (v : Nat), s.warden w.req = false ∧ v % 4 ≠ s.rd R.FLT_CTRL_FN_MIN 0)
    ∧ (∃ (s : State) (w : WCtx) (v : Nat), s.warden w.req = false ∧ v % 4 = s.rd R.FLT_CTRL_FN_MIN 0)
    ∧ (∃ (s : State) (w : WCtx) (off : Nat) (size : Nat) (v : Nat), storeServed off size = true ∧ ((s.storeShut = false ∨ Requester.isHart w.req = true)) ∧ ((Requester.isHart w.req = true ∨ w.req = .psc
      ∨ s.allowedBytes w.req off (toLeBytes size v) = (toLeBytes size v, false))) ∧ ((Requester.isHart w.req = true → (off ≠ s.logAt ∨ size ≠ 32) ∧ (off ≠ s.traceAt ∨ size ≠ 16))))
    ∧ (∃ (s : State) (w : WCtx) (j : Nat), Writable s w R.TALLY_SUB_DATA_DATA (2 * j) ∧ Writable s w R.TALLY_SUB_DATA_DATA (2 * j + 1))
    ∧ (∃ (off : Nat) (size : Nat), off < storeSize ∧ storeServed off size = false)
    ∧ (∃ (s : State) (w : WCtx) (k : Nat) (v : Nat), amoSet w.req = some k ∧ k < 5 ∧ Writable s w R.STORE_AMO_ADDR_OP k ∧ v % 4 = 3) :=
  ⟨⟨State.reset, 0x110000, 4, by decide +kernel⟩,
    ⟨w0, 0x1EFFFC, by decide +kernel⟩,
    ⟨w0, 0x3FFFFC, by decide +kernel⟩,
    ⟨w0, wk, 1, by decide +kernel⟩,
    ⟨w1, wk, 1, 2, by decide +kernel⟩,
    ⟨w1, wh, 0x21, by decide +kernel⟩,
    ⟨w1, wd, by decide +kernel⟩,
    ⟨w1, wh, 0x22, by decide +kernel⟩,
    ⟨w1, wk, 0x20, by decide +kernel⟩,
    ⟨w1, wk, 0x20, 4, 0x1234567890, by decide +kernel⟩,
    ⟨w1, wk, 0, by decide +kernel⟩,
    ⟨0x3e, 4, by decide +kernel⟩,
    ⟨w1, wk, 1, 0x1003, by decide +kernel⟩⟩

/-- The hypotheses of ReadsReturnWordsAndPairs are met, clause by clause. -/
theorem witness_ReadsReturnWordsAndPairs :
    (∃ (s : State) (w : WCtx) (h : Nat), s.shadows.find? (fun x => x.1 == w.req && x.2.1 == 0x100020) = some (w.req, 0x100020, h) ∧ h < 2 ^ 32)
    ∧ (∃ (s : State) (w : WCtx), ((∀ x ∈ s.shadows, x.1 ≠ w.req ∨ x.2.1 ≠ 0x100020)))
    ∧ (∃ (b : Nat), b < 4)
    ∧ (∃ (s : State) (off : Nat) (size : Nat), storeSize ≤ off ∧ off < 2 ^ 24 ∧ ((s.gated off = true ∨ regServed false off size = false)))
    ∧ (∃ (s : State) (l : Nat) (k : Nat), l < 64 ∧ k < 4096 ∧ s.gated 0x300000 = false ∧ s.rd R.LE_CAP_PAGE_PAGE 0 = 0 ∧ (s.rd H.LE_CAP_SAMPLE (4096 * l + k)).testBit 32 = true)
    ∧ (∃ (s : State) (l : Nat) (k : Nat), l < 64 ∧ k < 4096 ∧ s.gated 0x300000 = false ∧ s.rd R.LE_CAP_PAGE_PAGE 0 = 0 ∧ (s.rd H.LE_CAP_SAMPLE (4096 * l + k)).testBit 32 = false)
    ∧ (∃ (s : State) (w : WCtx) (off : Nat) (size : Nat), storeServed off size = true ∧ ((s.storeShut = false ∨ Requester.isHart w.req = true)) ∧ ((∀ k ∈ wordsAt off size, s.rd H.STORE_ECC k = 0))) :=
  ⟨⟨w2, wc, 6, by decide +kernel⟩,
    ⟨w2, wk, by decide +kernel⟩,
    ⟨1, by decide +kernel⟩,
    ⟨State.reset, 0x110000, 4, by decide +kernel⟩,
    ⟨(mk [(H.LE_CAP_SAMPLE,4096*63+4095,2^32+7)] w1), 63, 4095, by decide +kernel⟩,
    ⟨w1, 63, 4095, by decide +kernel⟩,
    ⟨w1, wh, 0x40, 8, by decide +kernel⟩⟩

/-- The hypotheses of BoundaryCountsFramesAndCommits are met, clause by clause. -/
theorem witness_BoundaryCountsFramesAndCommits :
    (∃ (s : State), s.rd H.RST_SEQ 0 = 1)
    ∧ (∃ (s : State), s.rd H.RST_SEQ 0 ≠ 1 ∧ s.bit H.TOP_FRAME_STARTED 0 = true ∧ s.rd H.RST_DUE 0 = 0 ∧ ((∀ x ∈ s.staged, x.skip ≠ 0)))
    ∧ (∃ (s : State), s.rd H.RST_SEQ 0 ≠ 1 ∧ s.bit H.TOP_FRAME_STARTED 0 = false ∧ s.rd H.RST_DUE 0 = 0 ∧ ((∀ x ∈ s.staged, x.skip ≠ 0)))
    ∧ (∃ (s : State), s.rd H.RST_SEQ 0 ≠ 1 ∧ s.bit H.TOP_FRAME_STARTED 0 = true ∧ s.rd H.RST_DUE 0 = 0 ∧ ((∀ x ∈ s.staged, x.skip ≠ 0)))
    ∧ (∃ (s : State) (v : Nat), s.rd H.RST_SEQ 0 ≠ 1 ∧ s.rd H.RST_DUE 0 = 0 ∧ s.staged = [⟨0, .field R.TWIN_CTRL_CLEAN_FRAMES 0 v⟩] ∧ v < 2 ^ 16)
    ∧ (∃ (s : State) (v : Nat), s.rd H.RST_SEQ 0 ≠ 1 ∧ s.rd H.RST_DUE 0 = 0 ∧ s.staged = [⟨0, .field R.TH_CTRL_XCHK_DEV 0 v⟩] ∧ v < 256)
    ∧ (∃ (s : State) (v : Nat), s.rd H.RST_SEQ 0 ≠ 1 ∧ s.rd H.RST_DUE 0 = 0 ∧ s.staged = [⟨1, .field R.FLT_CTRL_FN_MIN 0 v⟩]) :=
  ⟨⟨(mk [(H.RST_SEQ,0,1)] w1), by decide +kernel⟩,
    ⟨w1, by decide +kernel⟩,
    ⟨(mk [(H.TOP_FRAME_STARTED,0,0)] w3), by decide +kernel⟩,
    ⟨w3, by decide +kernel⟩,
    ⟨{w3 with staged := [⟨0, .field R.TWIN_CTRL_CLEAN_FRAMES 0 9⟩]}, 9, by decide +kernel⟩,
    ⟨{w3 with staged := [⟨0, .field R.TH_CTRL_XCHK_DEV 0 0xFF⟩]}, 0xFF, by decide +kernel⟩,
    ⟨{w3 with staged := [⟨1, .field R.FLT_CTRL_FN_MIN 0 2⟩]}, 2, by decide +kernel⟩⟩

end Sys2Proof.Tests.P68

namespace Sys2Proof.Tests.P70

def n0 : State := mk [(R.CLK_EN_EN,0,0x7ff),(R.BOOT_BLOCK_START,0,1),(H.RST_SEQ,0,0),(R.TWIN_STATUS_ROLE,0,4),(R.PLAT_PMB_POLL,0,1),(R.PLAT_PMB_POLL,1,1),(R.PLAT_SUP_CFG_EN,2,1),(R.PLAT_SUP_CFG_ADDR,2,0x31),(R.FW_HART_STAT_STATE,3,0),(R.PLAT_SUP_LIMIT_SW_MASK,2,4),(R.PLAT_SUP_CFG_PAGE,2,3),(R.TALLY_STAT_RESTORED,0,1),(R.CAP_BMC_CAP,0,123456)] State.reset
def pd : PollData := { mode := none, vout := none, iout := none, pout := some 0x0300, status := some 4, cycleUs := some 9 }
def n1 : State := mk [(R.PLAT_PMB_POLL,0,0)] n0
def rPad : Rec := ⟨0, [3,1,16,0, 7,3,255,0, 10,0, 11,0, 12,0, 0,0].map (BitVec.ofNat 8)⟩
def n2 : State := { n0 with map := { n0.map with recs := [rPad] } }
def un (s : State) : Nat := match exec (.getnumericeffectervalue 1) s with | .next t => (match t.out with | .i3c [_,_,w] :: _ => w | _ => 0) | _ => 0

/-- The hypotheses of SuppliesArePolled are met, clause by clause. -/
theorem witness_SuppliesArePolled :
    (∃ (s : State) (k : Nat) (p : PollData), s.polled k = true ∧ p.mode = none)
    ∧ (∃ (s : State) (k : Nat) (m : Nat) (p : PollData), s.polled k = true ∧ p.mode = some m ∧ m / 32 % 8 ≠ 0)
    ∧ (∃ (s : State) (k : Nat), s.polled k = true ∧ s.rd H.PLAT_FAILS k < 2)
    ∧ (∃ (s : State) (k : Nat), s.polled k = true ∧ s.rd H.PLAT_FAILS k = 2)
    ∧ (∃ (s : State) (port : Nat) (addr : Nat) (k : Nat) (st : Nat), s.polls port = true ∧ st < 65536 ∧ (List.range 16).find? (fun j => s.bit R.PLAT_SUP_CFG_EN j && s.supPort j == port && s.rd R.PLAT_SUP_CFG_ADDR j == addr)
      = some k)
    ∧ (∃ (s : State) (port : Nat) (addr : Nat), s.polls port = true ∧ ((∀ j < 16, s.bit R.PLAT_SUP_CFG_EN j = true → s.supPort j = port → s.rd R.PLAT_SUP_CFG_ADDR j ≠ addr)))
    ∧ (∃ (s : State) (port : Nat), s.polls port = true)
    ∧ (∃ (s : State), s.platOn = true ∧ s.pmbMaster = true)
    ∧ (∃ (s : State) (k : Nat), s.polled k = false)
    ∧ (∃ (s : State) (port : Nat), s.polls port = false)
    ∧ (∃ (s : State), ((s.platOn = false ∨ s.pmbMaster = false)))
    ∧ (∃ (s : State) (k : Nat), s.pmbMaster = true ∧ s.polled k = true ∧ s.rd H.PLAT_FAILS k < 2)
    ∧ (∃ (s : State) (k : Nat), s.polled k = true ∧ s.rd R.PLAT_SUP_CFG_PAGE k ≠ 0xFF)
    ∧ (∃ (s : State) (k : Nat) (v : Nat) (p : PollData), s.polled k = true ∧ p.mode = none ∧ p.vout = some v ∧ s.rd H.PLAT_VMODE k = 0 ∧ v < 65) :=
  ⟨⟨n0, 2, pd, by decide +kernel⟩,
    ⟨n0, 2, 0x40, { pd with mode := some 0x40 }, by decide +kernel⟩,
    ⟨n0, 2, by decide +kernel⟩,
    ⟨(mk [(H.PLAT_FAILS,2,2)] n0), 2, by decide +kernel⟩,
    ⟨n0, 0, 0x31, 2, 4, by decide +kernel⟩,
    ⟨n0, 0, 0x32, by decide +kernel⟩,
    ⟨n0, 0, by decide +kernel⟩,
    ⟨n0, by decide +kernel⟩,
    ⟨n1, 2, by decide +kernel⟩,
    ⟨n1, 0, by decide +kernel⟩,
    ⟨(mk [(R.CLK_EN_EN,0,0)] n0), by decide +kernel⟩,
    ⟨n0, 2, by decide +kernel⟩,
    ⟨n0, 2, by decide +kernel⟩,
    ⟨n0, 2, 64, { pd with vout := some 64 }, by decide +kernel⟩⟩

/-- The hypotheses of BmcAddressesAndTerminus are met, clause by clause. -/
theorem witness_BmcAddressesAndTerminus :
    (∃ (s : State), s.i3cUp = true)
    ∧ (∃ (s : State) (e : Nat), s.i3cUp = true ∧ e % 256 ≠ 0 ∧ e % 256 ≠ 255)
    ∧ (∃ (s : State), s.i3cUp = true)
    ∧ (∃ (s : State) (typ : Nat), s.i3cUp = true ∧ typ ≠ 0x00 ∧ typ ≠ 0x01 ∧ typ ≠ 0x7F)
    ∧ (∃ (s : State) (n : Nat), s.i3cUp = true ∧ s.hartUp 3 = true ∧ s.bit R.STATUS_SAFE_GOV 0 = false ∧ n % 256 ≠ 0 ∧ n % 256 ≠ 255)
    ∧ (∃ (s : State), s.i3cUp = true ∧ s.hartUp 3 = true ∧ s.bit R.STATUS_SAFE_GOV 0 = false)
    ∧ (∃ (s : State) (typ : Nat) (l : List Nat), s.i3cUp = true ∧ s.hartUp 3 = true ∧ s.bit R.STATUS_SAFE_GOV 0 = false ∧ pldmCommands typ = some l)
    ∧ (∃ (s : State) (typ : Nat) (cmd : Nat), s.i3cUp = true ∧ s.hartUp 3 = true ∧ s.bit R.STATUS_SAFE_GOV 0 = false ∧ ((∀ l, pldmCommands typ = some l → l.contains cmd = false)))
    ∧ (∃ (s : State), s.i3cUp = true ∧ s.hartUp 3 = true ∧ s.bit R.STATUS_SAFE_GOV 0 = false)
    ∧ (∃ (s : State) (n : Nat), s.i3cUp = true ∧ s.hartUp 3 = true ∧ s.bit R.STATUS_SAFE_GOV 0 = false ∧ 0 < n ∧ n ≤ 1024)
    ∧ (∃ (s : State), s.i3cUp = true ∧ s.hartUp 3 = true ∧ s.bit R.STATUS_SAFE_GOV 0 = false)
    ∧ (∃ (s : State) (cmd : Nat), s.i3cUp = true ∧ s.hartUp 3 = true ∧ s.bit R.STATUS_SAFE_GOV 0 = false ∧ cmd ≠ 1 ∧ cmd ≠ 2)
    ∧ (∃ (s : State), s.hartUp 3 = false)
    ∧ (∃ (s : State) (e : Nat), s.i3cUp = true ∧ (e % 256 = 0 ∨ e % 256 = 255))
    ∧ (∃ (s : State) (n : Nat), s.i3cUp = true ∧ s.hartUp 3 = true ∧ s.bit R.STATUS_SAFE_GOV 0 = false ∧ (n % 256 = 0 ∨ n % 256 = 255))
    ∧ (∃ (s : State) (typ : Nat), s.i3cUp = true ∧ s.hartUp 3 = true ∧ s.bit R.STATUS_SAFE_GOV 0 = false ∧ pldmCommands typ = none)
    ∧ (∃ (s : State) (n : Nat), s.i3cUp = true ∧ s.hartUp 3 = true ∧ s.bit R.STATUS_SAFE_GOV 0 = false ∧ (n = 0 ∨ 1024 < n))
    ∧ (∃ (s : State), s.i3cUp = false) :=
  ⟨⟨n0, by decide +kernel⟩,
    ⟨n0, 0x123, by decide +kernel⟩,
    ⟨n0, by decide +kernel⟩,
    ⟨n0, 5, by decide +kernel⟩,
    ⟨n0, 5, by decide +kernel⟩,
    ⟨n0, by decide +kernel⟩,
    ⟨n0, 0, [1,2,3,4,5], by decide +kernel⟩,
    ⟨n0, 0, 9, by decide +kernel⟩,
    ⟨n0, by decide +kernel⟩,
    ⟨n0, 9, by decide +kernel⟩,
    ⟨n0, by decide +kernel⟩,
    ⟨n0, 7, by decide +kernel⟩,
    ⟨(mk [(R.FW_HART_STAT_STATE,3,3)] n0), by decide +kernel⟩,
    ⟨n0, 255, by decide +kernel⟩,
    ⟨n0, 256, by decide +kernel⟩,
    ⟨n0, 4, by decide +kernel⟩,
    ⟨n0, 1025, by decide +kernel⟩,
    ⟨(mk [(R.CLK_EN_EN,0,0)] n0), by decide +kernel⟩⟩

/-- The hypotheses of BmcSensorsAndEffecter are met, clause by clause. -/
theorem witness_BmcSensorsAndEffecter :
    (∃ (s : State), s.i3cUp = true ∧ s.hartUp 3 = true ∧ s.bit R.STATUS_SAFE_GOV 0 = false)
    ∧ (∃ (s : State) (h : Nat) (k : Nat) (id : Nat), s.i3cUp = true ∧ s.hartUp 3 = true ∧ s.bit R.STATUS_SAFE_GOV 0 = false ∧ 1 ≤ h ∧ pdrTable[h - 1]? = some (k, id))
    ∧ (∃ (s : State) (id : Nat) (v : Nat), s.i3cUp = true ∧ s.hartUp 3 = true ∧ s.bit R.STATUS_SAFE_GOV 0 = false ∧ s.sensor id = some (some v))
    ∧ (∃ (s : State) (id : Nat), s.i3cUp = true ∧ s.hartUp 3 = true ∧ s.bit R.STATUS_SAFE_GOV 0 = false ∧ s.sensor id = some none)
    ∧ (∃ (s : State), s.i3cUp = true ∧ s.hartUp 3 = true ∧ s.bit R.STATUS_SAFE_GOV 0 = false)
    ∧ (∃ (s : State) (v : Nat), s.i3cUp = true ∧ s.hartUp 3 = true ∧ s.bit R.STATUS_SAFE_GOV 0 = false ∧ v ≤ 16777)
    ∧ (∃ (s : State), s.i3cUp = true ∧ s.hartUp 3 = true ∧ s.bit R.STATUS_SAFE_GOV 0 = false)
    ∧ (∃ (s : State), s.i3cUp = true ∧ s.hartUp 3 = true ∧ s.bit R.STATUS_SAFE_GOV 0 = false)
    ∧ (∃ (s : State) (id : Nat), s.i3cUp = true ∧ s.hartUp 3 = true ∧ s.bit R.STATUS_SAFE_GOV 0 = false ∧ id ≠ 1)
    ∧ (∃ (s : State) (v : Nat), s.i3cUp = true ∧ s.hartUp 3 = true ∧ s.bit R.STATUS_SAFE_GOV 0 = false ∧ 16777 < v)
    ∧ (∃ (s : State) (id : Nat), s.i3cUp = true ∧ s.hartUp 3 = true ∧ s.bit R.STATUS_SAFE_GOV 0 = false ∧ s.sensor id = none)
    ∧ (∃ (s : State) (h : Nat), s.i3cUp = true ∧ s.hartUp 3 = true ∧ s.bit R.STATUS_SAFE_GOV 0 = false ∧ pdrTable.length < h)
    ∧ (∃ (s : State) (k : Nat), s.paddocks.contains k = true ∧ k < 128)
    ∧ (∃ (s : State), s.hartUp 3 = false) :=
  ⟨⟨n0, by decide +kernel⟩,
    ⟨n0, 156, 2, 1, by decide +kernel⟩,
    ⟨n0, 1, 0, by decide +kernel⟩,
    ⟨n0, 16, by decide +kernel⟩,
    ⟨n0, by decide +kernel⟩,
    ⟨n0, 16777, by decide +kernel⟩,
    ⟨n0, by decide +kernel⟩,
    ⟨n0, by decide +kernel⟩,
    ⟨n0, 2, by decide +kernel⟩,
    ⟨n0, 16778, by decide +kernel⟩,
    ⟨n0, 31, by decide +kernel⟩,
    ⟨n0, 157, by decide +kernel⟩,
    ⟨n2, 7, by decide +kernel⟩,
    ⟨(mk [(R.FW_HART_STAT_STATE,3,3)] n0), by decide +kernel⟩⟩

end Sys2Proof.Tests.P70

namespace Sys2Proof.Tests.P72

def w0 : State := mk [(R.CLK_EN_EN,0,0x7ff),(R.FRAME_COUNT,0,900)] State.reset
def wc : WCtx := ⟨.psc, 0⟩
def wd : WCtx := ⟨.psc, 199⟩
def wh : WCtx := ⟨.host, 0⟩
def w1 : State := mk [(R.PD_RAIL_CFG_ENABLE,2,1),(R.PD_RAIL_STAT_OFF_LATCH, 2, 1)] w0
def w2 : State := mk [(R.TWIN_STATUS_ROLE,0,4),(R.TWIN_STATUS_PEER_ROLE,0,3),(R.TWIN_STATUS_LINK_UP,0,1)] w0
def w3 := mk [(R.RUN_EN,0,1),(R.LE_SLOT_MODE_MODE,255,1)] w0

/-- The hypotheses of WardenCommandsAreStaged are met, clause by clause. -/
theorem witness_WardenCommandsAreStaged :
    (∃ (s : State) (w : WCtx) (r : Nat), Writable s w R.PD_RAIL_CMD_RESTART r ∧ s.mayRestart r = true)
    ∧ (∃ (s : State) (w : WCtx) (r : Nat), Writable s w R.PD_RAIL_CMD_RESTART r ∧ s.mayRestart r = false)
    ∧ (∃ (s : State) (w : WCtx) (r : Nat), Writable s w R.PD_RAIL_CMD_CLEAR_SAFE r)
    ∧ (∃ (s : State) (w : WCtx) (p : Nat) (on : Bool), Writable s w R.PD_PH_CTRL_FENCE p ∧ ((on = false ∨ s.ph p ≠ 7)))
    ∧ (∃ (s : State) (w : WCtx) (p : Nat), Writable s w R.PD_PH_CTRL_FENCE p ∧ s.ph p = 7)
    ∧ (∃ (s : State) (w : WCtx) (c : Nat), Writable s w R.CROOK_TEST_CELL 0 ∧ c < 1024)
    ∧ (∃ (s : State) (w : WCtx) (k : Nat), Writable s w R.TH_FENCE_REQ k)
    ∧ (∃ (s : State) (w : WCtx), Writable s w R.TWIN_CMD_SWAP 0 ∧ s.peerStandby = true)
    ∧ (∃ (s : State) (w : WCtx), Writable s w R.TWIN_CMD_SWAP 0 ∧ s.peerStandby = false)
    ∧ (∃ (s : State) (w : WCtx), Writable s w R.TWIN_CMD_ATTACH 0 ∧ s.role = 0)
    ∧ (∃ (s : State) (w : WCtx), Writable s w R.TWIN_CMD_ATTACH 0 ∧ s.role ≠ 0)
    ∧ (∃ (s : State) (w : WCtx), Writable s w R.TWIN_CMD_DETACH 0 ∧ ((s.role = 1 ∨ s.role = 2 ∨ s.role = 3 ∨ s.peerStandby = true)))
    ∧ (∃ (s : State) (w : WCtx), Writable s w R.TWIN_CMD_DETACH 0 ∧ ((s.role = 0 ∨ s.role = 4)) ∧ s.peerStandby = false)
    ∧ (∃ (s : State) (w : WCtx) (n : Nat), Writable s w R.FLT_CMD_ACTION 0 ∧ srcPresent s.zk4 n = true ∧ s.rd R.FLT_SRC_STATE_STATE n ≠ 5)
    ∧ (∃ (s : State) (w : WCtx) (n : Nat), Writable s w R.FLT_CMD_ACTION 0 ∧ srcPresent s.zk4 n = true ∧ s.rd R.FLT_SRC_STATE_STATE n ≠ 5)
    ∧ (∃ (s : State) (w : WCtx) (n : Nat), Writable s w R.FLT_CMD_ACTION 0 ∧ ((srcPresent s.zk4 n = false ∨ s.rd R.FLT_SRC_STATE_STATE n = 5)))
    ∧ (∃ (s : State) (w : WCtx), s.warden w.req = false ∧ s.gated 0x1C0004 = false ∧ s.rd R.TWIN_CMD_SWAP 0 = 0 ∧ s.rd R.TWIN_CMD_ATTACH 0 = 0 ∧ s.rd R.TWIN_CMD_DETACH 0 = 0)
    ∧ (∃ (s : State) (w : WCtx) (r : Nat), s.warden w.req = false ∧ s.gated (R.PD_RAIL_CMD_RESTART.word r) = false ∧ r < R.PD_RAIL_CMD_RESTART.cnt ∧ s.reservedWord (R.PD_RAIL_CMD_RESTART.word r) = false ∧ s.rd R.PD_RAIL_CMD_RESTART r = 0 ∧ s.rd R.PD_RAIL_CMD_CLEAR_SAFE r = 0)
    ∧ (∃ (s : State) (w : WCtx) (p : Nat) (on : Bool), s.warden w.req = false ∧ s.gated (R.PD_PH_CTRL_FENCE.word p) = false ∧ p < R.PD_PH_CTRL_FENCE.cnt ∧ s.reservedWord (R.PD_PH_CTRL_FENCE.word p) = false ∧ s.bit R.PD_PH_CTRL_FENCE p = !on)
    ∧ (∃ (s : State) (w : WCtx) (k : Nat) (on : Bool), s.warden w.req = false ∧ s.gated (R.TH_FENCE_REQ.word k) = false ∧ k < R.TH_FENCE_REQ.cnt ∧ s.reservedWord (R.TH_FENCE_REQ.word k) = false ∧ s.bit R.TH_FENCE_REQ k = !on)
    ∧ (∃ (s : State) (w : WCtx) (c : Nat), s.warden w.req = false ∧ s.gated 0x15000C = false ∧ c < 1024 ∧ s.rd R.CROOK_TEST_CELL 0 ≠ c) :=
  ⟨⟨w1, wd, 2, by decide +kernel⟩,
    ⟨w0, wd, 2, by decide +kernel⟩,
    ⟨w0, wd, 13, by decide +kernel⟩,
    ⟨(mk [(R.PD_PH_STAT_STATE,127,1)] w0), wc, 127, true, by decide +kernel⟩,
    ⟨(mk [(R.PD_PH_STAT_STATE,9,7)] w0), wc, 9, by decide +kernel⟩,
    ⟨w0, wc, 1023, by decide +kernel⟩,
    ⟨w0, wc, 767, by decide +kernel⟩,
    ⟨w2, wc, by decide +kernel⟩,
    ⟨w0, wc, by decide +kernel⟩,
    ⟨w0, wc, by decide +kernel⟩,
    ⟨w2, wc, by decide +kernel⟩,
    ⟨w2, wc, by decide +kernel⟩,
    ⟨w0, wc, by decide +kernel⟩,
    ⟨w0, wc, 0x105, by decide +kernel⟩,
    ⟨w0, wc, 0x105, by decide +kernel⟩,
    ⟨w0, wc, 0x383, by decide +kernel⟩,
    ⟨w0, wh, by decide +kernel⟩,
    ⟨w0, wh, 13, by decide +kernel⟩,
    ⟨w0, wh, 127, true, by decide +kernel⟩,
    ⟨w0, ⟨.hart 1, 0⟩, 767, true, by decide +kernel⟩,
    ⟨w0, ⟨.bmc, 0⟩, 1023, by decide +kernel⟩⟩

/-- The hypotheses of LoopWritesAreStagedAndMirrored are met, clause by clause. -/
theorem witness_LoopWritesAreStagedAndMirrored :
    (∃ (s : State) (w : WCtx) (l : Nat) (m : Nat), Writable s w R.LE_SLOT_MODE_MODE_REQ l ∧ m < 4)
    ∧ (∃ (s : State) (w : WCtx) (l : Nat) (v : Nat), Writable s w R.LE_SLOT_MANUAL_MANUAL l ∧ v < 65536)
    ∧ (∃ (s : State) (w : WCtx) (off : Nat) (v : Nat) (x : Fld × Nat), heldOff off = true ∧ off % 4 = 0 ∧ (heldFields off).head? = some x ∧ Writable s w x.1 x.2 ∧ v < 2 ^ 32)
    ∧ (∃ (s : State) (w : WCtx) (l : Nat) (v : Nat), l < 256 ∧ s.gated 0x114000 = false ∧ s.right w.req R.LE_SLOT_SLEW_SLEW l = true ∧ s.runEn = true ∧ s.mode l ≠ 0 ∧ s.rd R.LE_SLOT_SLEW_SLEW l ≠ v ∧ v < 65536)
    ∧ (∃ (off : Nat), (heldOff off = false ∨ off % 4 ≠ 0))
    ∧ (∃ (s : State) (w : WCtx) (l : Nat) (m : Nat), l < 256 ∧ s.gated 0x114000 = false ∧ s.right w.req R.LE_SLOT_MODE_MODE_REQ l = false ∧ m < 4 ∧ s.rd R.LE_SLOT_MODE_MODE_REQ l ≠ m) :=
  ⟨⟨w2, wd, 255, 3, by decide +kernel⟩,
    ⟨w2, ⟨.hart 2,0⟩, 255, 0xFFFF, by decide +kernel⟩,
    ⟨w2, wc, 0x114024, 0x1234ABCD, (R.LE_SLOT_SLEW_SLEW, 0), by decide +kernel⟩,
    ⟨w3, wc, 255, 7, by decide +kernel⟩,
    ⟨0x100000, by decide +kernel⟩,
    ⟨w0, wh, 255, 2, by decide +kernel⟩⟩

end Sys2Proof.Tests.P72
end

section
/-! Reads and writes of reserved space, and of the 64-bit pairs (R10, R11, R18, R658). -/

namespace Sys2Proof.Machine

/-! ## The bus rules by the size of an access -/

/-- A register read always goes on, to the state that the bus leaves. -/
theorem exec_readPairLow (s : State) (w : WCtx) {off : Nat} (size : Nat) (h : off < 2 ^ 24) :
    exec (.readPairLow w off size) s = .next (s.busRead w off size) := by
  change execReadPairLow w off size s = _
  rw [execReadPairLow, Nat.mod_eq_of_lt h, State.go]

/-- A register write always goes on, to the state that the bus leaves. -/
theorem exec_registerWrite (s : State) (w : WCtx) {off : Nat} (size v : Nat) (h : off < 2 ^ 24) :
    exec (.registerWrite w off size v) s = .next (s.busWrite w off size v) := by
  change execRegisterWrite w off size v s = _
  rw [execRegisterWrite, Nat.mod_eq_of_lt h, State.go]

/-- A served read of at most a word takes its bytes from the word it lies in. -/
theorem State.busRead_of_le_four {s : State} {off size : Nat} (w : WCtx) (hs : storeSize ≤ off) (hg : s.gated off = false)
    (hv : regServed false off size = true) (h4 : size ≤ 4) :
    s.busRead w off size = (s.readWord w.req (off / 4 * 4)).2.answer
      (.data ((s.readWord w.req (off / 4 * 4)).1 / 2 ^ (8 * (off % 4)) % 2 ^ (8 * size))) := by
  simp [State.busRead, Nat.not_lt.2 hs, hg, hv, show size ≠ 8 by omega]

/-- A served read of eight bytes reads its low word, then its high word. -/
theorem State.busRead_eight {s : State} {off : Nat} (w : WCtx) (hs : storeSize ≤ off) (hg : s.gated off = false)
    (h8 : off % 8 = 0) :
    s.busRead w off 8 = ((s.readWord w.req off).2.readWord w.req (off + 4)).2.answer
      (.data ((s.readWord w.req off).1 + 2 ^ 32 * ((s.readWord w.req off).2.readWord w.req (off + 4)).1)) := by
  simp [State.busRead, Nat.not_lt.2 hs, hg, regServed, h8]

/-- A served write of at most a word writes bytes of the word it lies in. -/
theorem State.busWrite_of_le_four {s : State} {off size : Nat} (w : WCtx) (v : Nat) (hs : storeSize ≤ off)
    (hg : s.gated off = false) (hv : regServed true off size = true) (h4 : size ≤ 4) :
    s.busWrite w off size v = s.writeWord w (off / 4 * 4) (v % 2 ^ (8 * size) * 2 ^ (8 * (off % 4)))
      ((2 ^ (8 * size) - 1) * 2 ^ (8 * (off % 4))) := by
  simp [State.busWrite, Nat.not_lt.2 hs, hg, hv, show size ≠ 8 by omega]

/-- A served write of eight bytes writes its low word, then its high word. -/
theorem State.busWrite_eight {s : State} {off : Nat} (w : WCtx) (v : Nat) (hs : storeSize ≤ off)
    (hg : s.gated off = false) (h8 : off % 8 = 0) :
    s.busWrite w off 8 v = (s.writeWord w off (v % 2 ^ 32) 0xFFFFFFFF).writeWord w (off + 4) (v / 2 ^ 32 % 2 ^ 32) 0xFFFFFFFF := by
  simp [State.busWrite, Nat.not_lt.2 hs, hg, regServed, h8]

/-! ## The words of a pair hold one field element -/

/-- The fields that a pair shows (R11, R665). -/
def pairFields : List Fld :=
  [R.FRAME_COUNT, R.TALLY_SECONDS_SECONDS, R.LE_SLOT_INTEG_INTEG, R.GL_BANK_FIRST_FIRST, R.GL_RAIL_ENERGY_ENERGY]

/-- The register word at `off` is one of the two words that element `i` of a pair's field starts. -/
structure PairWord (f : Fld) (i off : Nat) : Prop where
  mem : f ∈ pairFields
  lt : i < f.cnt
  aligned : off % 4 = 0
  block : off / 0x10000 = f.base / 8 / 0x10000
  place : 8 * off = f.key i ∨ 8 * off = f.key i + 32

theorem pairLow_iff (off : Nat) : pairLow off = true ↔
    off = 0x100020 ∨ off = 0x200004 ∨ (0x114000 ≤ off ∧ off < 0x118000 ∧ off % 64 = 0x10)
      ∨ (0x1B0100 ≤ off ∧ off < 0x1B0140 ∧ off % 16 = 4) ∨ (0x1B2000 ≤ off ∧ off < 0x1B20E0 ∧ off % 16 = 0) := by
  simp only [pairLow, Bool.or_eq_true, Bool.and_eq_true, beq_iff_eq, decide_eq_true_eq, or_assoc, and_assoc]

/-- A pair's low word and the word above it are the words of one field element. -/
theorem pairWords_of_pairLow {off : Nat} (h : pairLow off = true) : ∃ f i, PairWord f i off ∧ PairWord f i (off + 4) := by
  rw [pairLow_iff] at h
  have h4 : off % 4 = 0 := by omega
  have hnext : (off + 4) / 0x10000 = off / 0x10000 := by omega
  have words (f : Fld) (i : Nat) (hf : f ∈ pairFields) (hi : i < f.cnt) (hb : off / 0x10000 = f.base / 8 / 0x10000)
      (hp : 8 * off = f.base + f.stride * i) : ∃ f i, PairWord f i off ∧ PairWord f i (off + 4) :=
    ⟨f, i, ⟨hf, hi, h4, hb, .inl hp⟩, ⟨hf, hi, by omega, hnext.trans hb, .inr (by unfold Fld.key; omega)⟩⟩
  rcases h with rfl | rfl | ⟨h1, h2, h3⟩ | ⟨h1, h2, h3⟩ | ⟨h1, h2, h3⟩
  · exact words R.FRAME_COUNT 0 (by decide) (by decide) (by decide) (by decide)
  · exact words R.TALLY_SECONDS_SECONDS 0 (by decide) (by decide) (by decide) (by decide)
  · refine words R.LE_SLOT_INTEG_INTEG ((off - 0x114010) / 64) (by decide) ?_ ?_ ?_ <;>
      simp only [R.LE_SLOT_INTEG_INTEG] <;> omega
  · refine words R.GL_BANK_FIRST_FIRST ((off - 0x1B0104) / 16) (by decide) ?_ ?_ ?_ <;>
      simp only [R.GL_BANK_FIRST_FIRST] <;> omega
  · refine words R.GL_RAIL_ENERGY_ENERGY ((off - 0x1B2000) / 16) (by decide) ?_ ?_ ?_ <;>
      simp only [R.GL_RAIL_ENERGY_ENERGY] <;> omega

/-- Places of one stride with different numbers lie at least the stride apart. -/
theorem stride_mul_add_le {a b : Nat} (n : Nat) (h : a < b) : n * a + n ≤ n * b := Nat.mul_le_mul_left n h

/-- No element of `g` has a bit in the two words that an element of `f` starts: their ranges are apart, or they lie at different
places of one stride. -/
def Fld.clearOf (g f : Fld) : Bool :=
  decide (g.key (g.cnt - 1) + g.wid ≤ f.base) || decide (f.key (f.cnt - 1) + 64 ≤ g.base)
    || (g.stride == f.stride
      && (let a := g.base % f.stride
          let b := f.base % f.stride
          (decide (a + g.wid ≤ b) && decide (b + 64 ≤ a + f.stride)) || (decide (b + 64 ≤ a) && decide (a + g.wid ≤ b + f.stride))))

theorem Fld.clearOf_spec {f g : Fld} (h : g.clearOf f = true) {i j : Nat} (hi : i < f.cnt) (hj : j < g.cnt) :
    g.key j + g.wid ≤ f.key i ∨ f.key i + 64 ≤ g.key j := by
  simp only [Fld.clearOf, Bool.or_eq_true, Bool.and_eq_true, beq_iff_eq, decide_eq_true_eq] at h
  have hi' := Nat.mul_le_mul_left f.stride (Nat.le_sub_one_of_lt hi)
  have hj' := Nat.mul_le_mul_left g.stride (Nat.le_sub_one_of_lt hj)
  simp only [Fld.key] at *
  rcases h with (h | h) | ⟨hs, h⟩
  · omega
  · omega
  · rw [hs] at *
    have hf := Nat.div_add_mod f.base f.stride
    have hg := Nat.div_add_mod g.base f.stride
    generalize f.base % f.stride = b at *
    generalize g.base % f.stride = a at *
    generalize f.base / f.stride = q at *
    generalize g.base / f.stride = p at *
    have hfi : f.stride * (q + i) = f.stride * q + f.stride * i := Nat.mul_add ..
    have hgj : f.stride * (p + j) = f.stride * p + f.stride * j := Nat.mul_add ..
    rcases Nat.lt_trichotomy (p + j) (q + i) with hlt | heq | hgt
    · have := stride_mul_add_le f.stride hlt
      omega
    · rw [heq] at hgj
      omega
    · have := stride_mul_add_le f.stride hgt
      omega

/-- What the register tables say of a pair's field: it is wider than a word and fits in two, its elements do not meet, and every
other field of its block is clear of it. -/
theorem pairFields_alone : ∀ f ∈ pairFields, 32 < f.wid ∧ f.wid ≤ 64 ∧ 32 ≤ f.stride ∧ (f.cnt = 1 ∨ 64 ≤ f.stride)
    ∧ (fieldsNear (f.base / 8)).filter (fun g => !g.clearOf f) = [f] := by decide +kernel

theorem fieldsAt_congr {a b : Nat} (h : a / 0x10000 = b / 0x10000) : fieldsAt a = fieldsAt b := by
  simp only [fieldsAt, h]

/-- Of the elements of a pair's field, its own alone has a bit in a word of the pair. -/
theorem PairWord.meets_iff {f : Fld} {i off : Nat} (h : PairWord f i off) (j : Nat) :
    (j < f.cnt ∧ f.key j < 8 * off + 32 ∧ 8 * off < f.key j + f.wid) ↔ j = i := by
  obtain ⟨h32, h64, hst, hone, -⟩ := pairFields_alone f h.mem
  have hi := h.lt
  have hp := h.place
  constructor
  · rintro ⟨hj, hlo, hhi⟩
    rcases hone with hone | hone
    · omega
    · simp only [Fld.key] at *
      rcases Nat.lt_trichotomy j i with hlt | heq | hgt
      · have := stride_mul_add_le f.stride hlt
        omega
      · exact heq
      · have := stride_mul_add_le f.stride hgt
        omega
  · rintro rfl
    omega

/-- A search of a range that one number alone meets finds that number. -/
theorem filterMap_range_single {α : Type} {c : Nat → Prop} [DecidablePred c] {i k n : Nat} (hc : ∀ j, c j ↔ j = i)
    (hk : k ≤ i) (hn : i < k + n) (x : Nat → α) :
    ((List.range n).map (fun d => k + d)).filterMap (fun j => if c j then some (x j) else none) = [x i] := by
  have hcount : (List.range' k n).count i = 1 :=
    List.count_eq_one_of_mem List.nodup_range' (List.mem_range'_1.2 ⟨hk, hn⟩)
  have hguard : (fun j => if c j then some (x j) else none) = fun j => (Option.guard (fun m => m == i) j).map x := by
    funext j
    by_cases h : j = i <;> simp [hc, Option.guard, h]
  rw [hguard, ← List.range'_eq_map_range, ← List.map_filterMap, List.filterMap_eq_filter, List.filter_beq, hcount]
  rfl

/-- What gives nothing may be left out of a list before its pieces are joined. -/
theorem flatMap_filter_of_nil {α β : Type} {p : α → Bool} {h : α → List β} {l : List α}
    (hp : ∀ x ∈ l, p x = false → h x = []) : (l.filter p).flatMap h = l.flatMap h := by
  induction l with
  | nil => rfl
  | cons x t ih =>
    have iht := ih (fun y hy => hp y (List.mem_cons_of_mem x hy))
    cases hx : p x with
    | true => simp [hx, iht]
    | false => simp [hx, iht, hp x List.mem_cons_self hx]

/-- A word of a pair holds the pair's field element, and nothing else. -/
theorem PairWord.wordFields_eq {f : Fld} {i off : Nat} (h : PairWord f i off) : wordFields off = [(f, i)] := by
  obtain ⟨-, -, hst, -, halone⟩ := pairFields_alone f h.mem
  have ha : off / 4 * 4 = off := by have := h.aligned; omega
  have hnear : fieldsNear off = fieldsNear (f.base / 8) := fieldsAt_congr h.block
  have hp : 8 * off = f.base + f.stride * i ∨ 8 * off = f.base + f.stride * i + 32 := h.place
  unfold wordFields
  simp only [ha, hnear]
  rw [← flatMap_filter_of_nil (p := fun g => !g.clearOf f), halone, List.flatMap_singleton]
  · have hk : i ≤ (8 * off - f.base) / f.stride ∧ (8 * off - f.base) / f.stride ≤ i + 1 := by
      constructor
      · rw [Nat.le_div_iff_mul_le (by omega), Nat.mul_comm]
        omega
      · refine Nat.div_le_of_le_mul ?_
        rw [Nat.mul_add]
        omega
    have := Nat.zero_le (32 / f.stride)
    exact filterMap_range_single h.meets_iff (by omega) (by omega) (fun j => (f, j))
  · intro g _ hc
    have hclear : g.clearOf f = true := by simpa using hc
    simp only [List.filterMap_eq_nil_iff, ite_eq_right_iff]
    rintro j - ⟨hj, h1, h2⟩
    have := Fld.clearOf_spec hclear h.lt hj
    have := h.place
    omega

/-- A pair's word formed from any values fits in a word. -/
theorem PairWord.wordFrom_lt {f : Fld} {i off : Nat} (h : PairWord f i off) (val : Fld → Nat → Nat) :
    wordFrom off val < 2 ^ 32 := by
  simp only [wordFrom, h.wordFields_eq, List.foldl_cons, List.foldl_nil, Nat.zero_add]
  split <;> exact Nat.mod_lt _ (by decide)

theorem State.heldRead_le_fieldBits (s : State) (off : Nat) : s.heldRead off ≤ fieldBits off := by
  unfold State.heldRead State.heldWord
  split
  · exact Nat.zero_le _
  · exact Nat.and_le_right

theorem signHigh_lt {off v : Nat} (h : v < 2 ^ 32) : signHigh off v < 2 ^ 32 := by
  unfold signHigh
  split <;> omega

/-- A read of a pair's word, live or held, gives 32 bits. -/
theorem PairWord.liveWord_lt {f : Fld} {i off : Nat} (h : PairWord f i off) (s : State) : s.liveWord off < 2 ^ 32 := by
  unfold State.liveWord
  split
  · decide
  · split
    · exact signHigh_lt (lt_of_le_of_lt (s.heldRead_le_fieldBits off) (h.wordFrom_lt _))
    · exact h.wordFrom_lt _

/-! ## Reads of a word -/

theorem pairLow_bounds {off : Nat} (h : pairLow off = true) : storeSize < off ∧ off + 4 < 0x300000 ∧ off % 4 = 0 := by
  rw [pairLow_iff] at h
  simp only [storeSize]
  omega

theorem pairLow_add_four {off : Nat} (h : pairLow off = true) : pairLow (off + 4) = false := by
  rw [pairLow_iff] at h
  rw [Bool.eq_false_iff, Ne, pairLow_iff]
  omega

/-- No range that R430 or R662 reserves meets a pair. -/
theorem not_reservedRange_of_pairLow {off a : Nat} (h : pairLow off = true) (ha : a = off ∨ a = off + 4) (z : Bool) :
    zk2Reserved a = false ∧ sourceReserved z a = false := by
  rw [pairLow_iff] at h
  simp only [zk2Reserved, sourceReserved, Bool.or_eq_false_iff, Bool.and_eq_false_iff, decide_eq_false_iff_not]
  omega

/-- Neither word of a pair is reserved space. -/
theorem State.reservedWord_of_pairLow (s : State) {off a : Nat} (h : pairLow off = true) (ha : a = off ∨ a = off + 4) :
    s.reservedWord a = false := by
  obtain ⟨hz, hsrc⟩ := not_reservedRange_of_pairLow h ha s.zk4
  obtain ⟨f, i, hlow, hhigh⟩ := pairWords_of_pairLow h
  have hw : wordFields a = [(f, i)] := by
    rcases ha with rfl | rfl
    · exact hlow.wordFields_eq
    · exact hhigh.wordFields_eq
  simp [State.reservedWord, hw, hz, hsrc]

/-- ZK_FIFO_POP is not reserved space. -/
theorem State.reservedWord_fifoPop (s : State) : s.reservedWord 0x10018C = false := by
  have hw : (wordFields 0x10018C).isEmpty = false := by decide +kernel
  have hz : zk2Reserved 0x10018C = false := by decide
  simp [State.reservedWord, hw, hz, sourceReserved]

/-- Reserved space outside the capture window reads 0, and the read has no side effect (R18). -/
theorem State.readWord_of_reserved {s : State} {off : Nat} (q : Requester) (hs : storeSize ≤ off)
    (hc : off < 0x300000 ∨ 0x400000 ≤ off) (hr : s.reservedWord off = true) : s.readWord q off = (0, s) := by
  have hcap : ¬(0x300000 ≤ off ∧ off < 0x400000) := by omega
  have hpop : off ≠ 0x10018C := by
    rintro rfl
    simp [s.reservedWord_fifoPop] at hr
  have hlow : ¬pairLow off = true := fun h => by simp [s.reservedWord_of_pairLow h (.inl rfl)] at hr
  have hhigh : ¬pairLow (off - 4) = true := fun h => by
    have h4 : 4 ≤ off := le_trans (by decide) hs
    simp [s.reservedWord_of_pairLow h (a := off) (by omega)] at hr
  simp only [State.readWord, if_neg hcap, if_neg hpop, if_neg hlow, if_neg hhigh, State.liveWord, if_pos hr]

/-! ## The shadows of the ports -/

/-- An entry is the shadow of the pair at `off` for port `q` (R11). -/
def isShadow (q : Requester) (off : Nat) (x : Requester × Nat × Nat) : Bool := x.1 == q && x.2.1 == off

/-- The shadows of a state after port `q` has read the low word of the pair at `off` (R11). -/
def State.latch (s : State) (q : Requester) (off : Nat) : List (Requester × Nat × Nat) :=
  s.shadows.filter (fun x => !isShadow q off x) ++ [(q, off, s.liveWord (off + 4))]

theorem find_isShadow_dropped (q : Requester) (off : Nat) (l : List (Requester × Nat × Nat)) :
    (l.filter (fun x => !isShadow q off x)).find? (isShadow q off) = none := by
  simp [List.find?_eq_none]

/-- The shadow that a latch has set is the one found. -/
theorem State.find_latch (s : State) (q : Requester) (off : Nat) :
    (s.latch q off).find? (isShadow q off) = some (q, off, s.liveWord (off + 4)) := by
  rw [State.latch, List.find?_append, find_isShadow_dropped]
  simp [isShadow]

/-- A read of a pair's low word latches the high word for the port that reads (R11). -/
theorem State.readWord_pairLow (s : State) (q : Requester) {off : Nat} (h : pairLow off = true) :
    s.readWord q off = (s.liveWord off, { s with shadows := s.latch q off }) := by
  obtain ⟨-, hc, -⟩ := pairLow_bounds h
  have hcap : ¬(0x300000 ≤ off ∧ off < 0x400000) := by omega
  have hpop : off ≠ 0x10018C := by
    rintro rfl
    simp [pairLow] at h
  simp only [State.readWord, if_neg hcap, if_neg hpop, if_pos h]
  rfl

/-- A read of a pair's high word takes the shadow of the port that reads, or the live word where the port has none (R11). -/
theorem State.readWord_pairHigh (s : State) (q : Requester) {off : Nat} (h : pairLow off = true) :
    s.readWord q (off + 4) = (s.shadows.find? (isShadow q off)).elim (s.liveWord (off + 4), s)
      (fun x => (x.2.2, { s with shadows := s.shadows.filter (fun y => !isShadow q off y) })) := by
  obtain ⟨-, hc, -⟩ := pairLow_bounds h
  have hcap : ¬(0x300000 ≤ off + 4 ∧ off + 4 < 0x400000) := by omega
  have hpop : off + 4 ≠ 0x10018C := by
    intro e
    obtain rfl : off = 0x100188 := by omega
    simp [pairLow] at h
  have hlow : ¬pairLow (off + 4) = true := by simp [pairLow_add_four h]
  have hview : isShadow q off = fun x => x.1 == q && x.2.1 == off := rfl
  simp only [State.readWord, if_neg hcap, if_neg hpop, if_neg hlow, Nat.add_sub_cancel, if_pos h, hview]
  cases s.shadows.find? (fun x => x.1 == q && x.2.1 == off) <;> rfl

/-- A served read of an aligned word outside the capture window answers the word, when that has 32 bits. -/
theorem State.busRead_word {s u : State} {w : WCtx} {off v : Nat} (hs : storeSize ≤ off) (hc : off < 0x300000)
    (h4 : off % 4 = 0) (hg : s.gated off = false) (hr : s.readWord w.req off = (v, u)) (hv : v < 2 ^ 32) :
    s.busRead w off 4 = u.answer (.data v) := by
  have ha : off / 4 * 4 = off := by omega
  have hsv : regServed false off 4 = true := by simp [regServed, h4, Nat.not_le.2 hc]
  rw [State.busRead_of_le_four w hs hg hsv le_rfl, ha, hr, h4, Nat.mul_zero, Nat.pow_zero, Nat.div_one, Nat.mod_eq_of_lt hv]

/-- The command that reads a pair's low word answers it, and latches the high word. -/
theorem exec_read_pairLow {s : State} {off : Nat} (w : WCtx) (h : pairLow off = true) (hg : s.gated off = false) :
    exec (.readPairLow w off 4) s = .next (({ s with shadows := s.latch w.req off } : State).answer (.data (s.liveWord off))) := by
  obtain ⟨hs, hc, h4⟩ := pairLow_bounds h
  obtain ⟨f, i, hlow, -⟩ := pairWords_of_pairLow h
  rw [exec_readPairLow s w 4 (by omega), State.busRead_word hs.le (by omega) h4 hg (s.readWord_pairLow w.req h) (hlow.liveWord_lt s)]

/-- The command that reads a pair's high word answers the live word to a port without a shadow. -/
theorem exec_read_pairHigh_of_none {s : State} {w : WCtx} {off : Nat} (h : pairLow off = true) (hg : s.gated (off + 4) = false)
    (hx : s.shadows.find? (isShadow w.req off) = none) :
    exec (.readPairLow w (off + 4) 4) s = .next (s.answer (.data (s.liveWord (off + 4)))) := by
  obtain ⟨hs, hc, h4⟩ := pairLow_bounds h
  obtain ⟨f, i, -, hhigh⟩ := pairWords_of_pairLow h
  have hr : s.readWord w.req (off + 4) = (s.liveWord (off + 4), s) := by rw [s.readWord_pairHigh w.req h, hx]; rfl
  rw [exec_readPairLow s w 4 (by omega), State.busRead_word (by omega) hc (by omega) hg hr (hhigh.liveWord_lt s)]

/-- The command that reads a pair's high word answers the shadow of the port, which is then gone. -/
theorem exec_read_pairHigh_of_shadow {s : State} {w : WCtx} {off : Nat} {x : Requester × Nat × Nat} (h : pairLow off = true)
    (hg : s.gated (off + 4) = false) (hx : s.shadows.find? (isShadow w.req off) = some x) (hv : x.2.2 < 2 ^ 32) :
    exec (.readPairLow w (off + 4) 4) s
      = .next (({ s with shadows := s.shadows.filter (fun y => !isShadow w.req off y) } : State).answer (.data x.2.2)) := by
  obtain ⟨hs, hc, h4⟩ := pairLow_bounds h
  have hr := s.readWord_pairHigh w.req h
  rw [hx] at hr
  rw [exec_readPairLow s w 4 (by omega), State.busRead_word (by omega) hc (by omega) hg hr hv]

/-- Settles O10: the high word that the low word's read latched is the shadow found, and its read drops it. -/
theorem pairReadsTakeTheShadow : Obligations.PairReadsTakeTheShadow := by
  unfold Obligations.PairReadsTakeTheShadow
  refine ⟨fun s w off _ _ h hg => ⟨_, exec_read_pairLow w h hg, rfl, ?_⟩, fun s w off _ _ h hg hno => ?_⟩
  · intro u x hu hx hgu
    obtain ⟨f, i, -, hhigh⟩ := pairWords_of_pairLow h
    have hfind : u.shadows.find? (isShadow x.req off) = some (w.req, off, s.liveWord (off + 4)) := by
      rw [hu, hx]
      exact s.find_latch w.req off
    refine ⟨_, exec_read_pairHigh_of_shadow h hgu hfind (hhigh.liveWord_lt s), rfl, ?_⟩
    intro y hy hgv
    have hnone : (u.shadows.filter (fun z => !isShadow x.req off z)).find? (isShadow y.req off) = none := by
      rw [hy, ← hx]
      exact find_isShadow_dropped x.req off u.shadows
    exact ⟨_, exec_read_pairHigh_of_none h hgv hnone, rfl⟩
  · refine exec_read_pairHigh_of_none h hg (List.find?_eq_none.2 fun x hx hs => ?_)
    obtain ⟨hq, ho⟩ : x.1 = w.req ∧ x.2.1 = off := by simpa [isShadow] using hs
    exact (hno x hx).elim (· hq) (· ho)

/-! ## Reserved space -/

theorem State.reqCode_lt (s : State) (q : Requester) : s.reqCode q < 2 ^ R.FLT_REJECT_INFO_REQ.wid := by
  have hw : 2 ^ R.FLT_REJECT_INFO_REQ.wid = 8 := rfl
  rw [hw]
  cases q <;> simp only [State.reqCode]
  case hart k => split <;> decide
  all_goals decide

/-- Reserved space is judged by the package alone. -/
theorem State.reservedWord_congr {s t : State} (h : t.ident = s.ident) (off : Nat) : t.reservedWord off = s.reservedWord off := by
  simp only [State.reservedWord, State.zk4, h]

/-- A write to reserved space outside the capture window is refused with CAUSE 2 (R18). -/
theorem State.writeWord_of_reserved {s : State} {off : Nat} (w : WCtx) (v mask : Nat) (hc : off < 0x300000 ∨ 0x400000 ≤ off)
    (hr : s.reservedWord off = true) : s.writeWord w off v mask = s.refuse w off 2 := by
  have hcap : ¬(0x300000 ≤ off ∧ off < 0x400000) := by omega
  simp only [State.writeWord, if_neg hcap, if_pos hr]

/-- A refusal for reserved space has the outcome that R465 gives. -/
theorem State.refuses_reserved (s : State) (w : WCtx) {off : Nat} (h : off < 2 ^ 24) : Refuses w off 2 s (s.refuse w off 2) :=
  s.refuses_refuse w (by decide) h (s.reqCode_lt w.req)

/-- Settles O9: reserved words read 0 without side effect, and each word written is refused on its own. -/
theorem reservedSpaceReadsZero : Obligations.ReservedSpaceReadsZero := by
  unfold Obligations.ReservedSpaceReadsZero
  refine ⟨?_, ?_, ?_, ?_⟩
  · intro s w off size hs hlt hc hg hv h4 hr
    have hs' : storeSize ≤ off / 4 * 4 := by unfold storeSize at *; omega
    rw [exec_readPairLow s w size hlt, State.busRead_of_le_four w hs hg hv h4,
      State.readWord_of_reserved w.req hs' (by omega) hr, Nat.zero_div, Nat.zero_mod]
  · intro s w off hs hlt hc h8 hg hr hr'
    rw [exec_readPairLow s w 8 hlt, State.busRead_eight w hs hg h8, State.readWord_of_reserved w.req hs hc hr,
      State.readWord_of_reserved w.req (by omega) (by omega) hr']
    rfl
  · intro s w off size v hs hlt hc hg hv h4 hr
    refine ⟨_, exec_registerWrite s w size v hlt, ?_⟩
    rw [State.busWrite_of_le_four w v hs hg hv h4, State.writeWord_of_reserved w _ _ (by omega) hr]
    exact s.refuses_reserved w (by omega)
  · intro s w off v hs hlt hc h8 hg hr hr'
    refine ⟨_, exec_registerWrite s w 8 v hlt, ?_⟩
    have hr'' : (s.refuse w off 2).reservedWord (off + 4) = true := by
      rw [State.reservedWord_congr (State.refuse_ident ..), hr']
    rw [State.busWrite_eight w v hs hg h8, State.writeWord_of_reserved w _ _ hc hr,
      State.writeWord_of_reserved w _ _ (by omega) hr'']
    obtain ⟨-, hcount, -, -, -, hkinds, hregs⟩ := s.refuses_reserved w (off := off) hlt
    obtain ⟨hresp, hcount', -, -, -, hkinds', hregs'⟩ := (s.refuse w off 2).refuses_reserved w (off := off + 4) (by omega)
    have htwice : satAdd 32 (satAdd 32 (s.rd R.FLT_REJECT_COUNT 0) 1) 1 = min (2 ^ 32 - 1) (s.rd R.FLT_REJECT_COUNT 0 + 2) := by
      unfold satAdd; omega
    exact ⟨hresp, hcount'.trans (hcount ▸ htwice), hkinds.trans hkinds', hregs.trans hregs'⟩

end Sys2Proof.Machine
end

section
/-! The trip latch under a staged change that names it (R15, R345). -/

namespace Sys2Proof.Machine

/-- A block out of reset whose trip latch is set, with a change of the latch to 0 staged for the coming boundary. -/
def trippedWithRelease : State :=
  { (State.reset.wr H.RST_SEQ 0 0).wr R.TH_TRIP_LATCHED 0 1 with staged := [⟨0, .field R.TH_TRIP_LATCHED 0 0⟩] }

/-- A boundary out of reset goes on, to the state that the boundary leaves with its records placed. -/
theorem exec_frameBoundary {s : State} (edge : FrameEdge) (h : s.rd H.RST_SEQ 0 ≠ 1) :
    exec (.frameBoundary edge) s = .next (s.recordsTogether (s.boundary edge.leCycles edge.gateFail)) := by
  change execFrameBoundary edge s = _
  rw [execFrameBoundary, if_neg h, State.go]

/-- Step 2 of the boundary stores a staged field whatever its access code is, so the change reaches the read-only latch. -/
theorem boundary_clears_trippedWithRelease :
    (trippedWithRelease.recordsTogether (trippedWithRelease.boundary 500 false)).bit R.TH_TRIP_LATCHED 0 = false := by
  decide +kernel

/-- Refutes O7: its first clause speaks of every state, with no premise on the staged changes. No access stages a change of the
latch, whose access code is read-only; in a state that holds one all the same, the boundary commits it and the latch is lost. -/
theorem not_tripLatchIsHeld : ¬ Obligations.TripLatchIsHeld := by
  unfold Obligations.TripLatchIsHeld
  rintro ⟨held, -, -⟩
  obtain ⟨t, hexec, hlatch, -⟩ := held (.frameBoundary ⟨500, false⟩) trippedWithRelease (by decide)
  rw [exec_frameBoundary _ (by decide)] at hexec
  injection hexec with ht
  have hset : t.bit R.TH_TRIP_LATCHED 0 = true := hlatch (by decide)
  rw [← ht, boundary_clears_trippedWithRelease] at hset
  exact Bool.false_ne_true hset

end Sys2Proof.Machine
end

section
/-! What every command keeps (R457, R465, R549, R569, R623, R634): the commands that wait, the straps, what has been sent, the
invariant of the plain data, and, outside a boundary's commits and a reset of the POR scope, the protection settings. -/

set_option Elab.async false

namespace Sys2Proof.Machine

/-- The protection settings of the faults block, which a boundary or a reset of the POR scope alone moves (R15, R465, R467). -/
def settingFields : List Fld := [R.FLT_CTRL_FN_MIN, R.FLT_KIND_ESC_N, R.FLT_KIND_ESC_W, R.FLT_KIND_QUIET_QUIET]

/-- A field that meets no protection setting. -/
def Fld.calm (f : Fld) : Bool := settingFields.all f.apart

/-- `t` may follow `s`: what waits and what is strapped is as it was, what has been sent stays, and the invariant is kept;
`strict` says that no protection setting has moved either. -/
structure Tame (strict : Bool) (s t : State) : Prop where
  pending : t.pending = s.pending
  ident : t.ident = s.ident
  out : s.out <:+ t.out
  inv : s.Inv → t.Inv
  settings : strict = true → ∀ f ∈ settingFields, ∀ i, t.rd f i = s.rd f i

/-- The command's meaning goes on, to a state that may follow. -/
def Tame.Goes (strict : Bool) (s : State) (o : Host.Outcome State Fault Refusal) : Prop := ∃ t, o = .next t ∧ Tame strict s t

/-- A field reached by a write meets no protection setting, unless the write stages it (R12, R15). -/
def Put.Calm (p : Put) : Prop := p.fld.acc ≠ .rww → p.fld.calm = true

namespace Tame

variable {strict : Bool} {s t u : State}

theorem refl (strict : Bool) (s : State) : Tame strict s s := ⟨rfl, rfl, List.suffix_rfl, id, fun _ _ _ _ => rfl⟩

theorem trans (h : Tame strict s t) (h' : Tame strict t u) : Tame strict s u :=
  ⟨h'.pending.trans h.pending, h'.ident.trans h.ident, h.out.trans h'.out, fun hi => h'.inv (h.inv hi),
    fun hs f hf i => (h'.settings hs f hf i).trans (h.settings hs f hf i)⟩

theorem loosen (h : Tame true s t) : Tame strict s t :=
  ⟨h.pending, h.ident, h.out, h.inv, fun _ => h.settings rfl⟩

/-! ## Updates of the parts -/

/-- An update of the parts of which `Tame` does not speak. -/
theorem other (h : Tame strict s t) {m : MapState} {g : List Staged} {p : MeshPort} {c : List SchedEntry} {w : List Sweep}
    {i : List MirrorSlot} {f : Option MirrorSlot} {q : List (Requester × Nat × Nat)} {r : Resp} {n : Nat} :
    Tame strict s { t with
      map := m, staged := g, mesh := p, sched := c, sweeps := w, mirror := i, flush := f, shadows := q, resp := r, free := n } :=
  h.trans ⟨rfl, rfl, List.suffix_rfl, id, fun _ _ _ _ => rfl⟩

/-- An update of the registers that leaves their order. -/
theorem ofRegs (h : Tame strict s t) {r : List (Nat × Nat)} (ho : amSorted t.regs = true → amSorted r = true)
    (hs : strict = true → ∀ f ∈ settingFields, ∀ i, ({ t with regs := r } : State).rd f i = t.rd f i) :
    Tame strict s { t with regs := r } :=
  h.trans ⟨rfl, rfl, List.suffix_rfl, fun hi => ⟨ho hi.1, hi.2⟩, hs⟩

theorem wr (h : Tame strict s t) {f : Fld} {i v : Nat} (hf : strict = true → f.calm = true := by exact fun _ => rfl) :
    Tame strict s (t.wr f i v) :=
  h.ofRegs (amSorted_regsWr f i v) fun hs g hg j => State.rd_wr_apart t (List.all_eq_true.1 (hf hs) g hg) i j v

theorem wrB (h : Tame strict s t) {f : Fld} {i : Nat} {v : Bool} (hf : strict = true → f.calm = true := by exact fun _ => rfl) :
    Tame strict s (t.wrB f i v) := h.wr hf

theorem wrS (h : Tame strict s t) {f : Fld} {i : Nat} {v : Int} (hf : strict = true → f.calm = true := by exact fun _ => rfl) :
    Tame strict s (t.wrS f i v) := h.wr hf

theorem inc (h : Tame strict s t) {f : Fld} {i n : Nat} (hf : strict = true → f.calm = true := by exact fun _ => rfl) :
    Tame strict s (t.inc f i n) := h.wr hf

theorem foldl {α : Type} (h : Tame strict s t) {xs : List α} {g : State → α → State}
    (hg : ∀ u x, Tame strict s u → Tame strict s (g u x)) : Tame strict s (xs.foldl g t) := by
  induction xs generalizing t with
  | nil => exact h
  | cons x xs ih => exact ih (hg t x h)

/-- A run over a list where what follows needs to know the element. -/
theorem foldlMem {α : Type} (h : Tame strict s t) {xs : List α} {g : State → α → State}
    (hg : ∀ u, ∀ x ∈ xs, Tame strict s u → Tame strict s (g u x)) : Tame strict s (xs.foldl g t) := by
  induction xs generalizing t with
  | nil => exact h
  | cons x xs ih =>
    exact ih (hg t x List.mem_cons_self h) fun u y hy => hg u y (List.mem_cons_of_mem x hy)

theorem each (h : Tame strict s t) {l : List Nat} {g : State → Nat → State}
    (hg : ∀ u x, Tame strict s u → Tame strict s (g u x)) : Tame strict s (t.each l g) := h.foldl hg

theorem wrAll (h : Tame strict s t) {f : Fld} {l : List Nat} {v : Nat → Nat}
    (hf : strict = true → f.calm = true := by exact fun _ => rfl) : Tame strict s (t.wrAll f l v) :=
  h.foldl fun _ _ hu => hu.wr hf

theorem when (h : Tame strict s t) {c : Bool} {g : State → State} (hg : ∀ u, Tame strict s u → Tame strict s (g u)) :
    Tame strict s (t.when c g) := by
  unfold State.when
  split
  · exact hg t h
  · exact h

theorem ite {c : Prop} [Decidable c] (ht : Tame strict s t) (hu : Tame strict s u) : Tame strict s (if c then t else u) := by
  split
  · exact ht
  · exact hu

theorem clearFld (h : Tame strict s t) {f : Fld} (hf : strict = true → f.calm = true := by exact fun _ => rfl) :
    Tame strict s (t.clearFld f) :=
  h.ofRegs (amSorted_filter _) fun hs g hg j =>
    OnlyKinds.clearFld (List.mem_singleton.2 rfl) t g j (by simpa using List.all_eq_true.1 (hf hs) g hg)

theorem clearFlds (h : Tame strict s t) {fs : List Fld}
    (hf : strict = true → fs.all Fld.calm = true := by exact fun _ => rfl) : Tame strict s (t.clearFlds fs) :=
  h.foldlMem fun _ f hm hu => hu.clearFld fun hs => List.all_eq_true.1 (hf hs) f hm

theorem clearElems (h : Tame strict s t) {fs : List Fld} {i : Nat}
    (hf : strict = true → fs.all Fld.calm = true := by exact fun _ => rfl) : Tame strict s (t.clearElems fs i) :=
  h.foldlMem fun _ f hm hu => hu.wr fun hs => List.all_eq_true.1 (hf hs) f hm

/-- The addresses of the protection settings lie in the page of the faults block's control and kinds. -/
theorem setting_key {f : Fld} (hf : f ∈ settingFields) {i : Nat} (hi : i < f.cnt) :
    0x1D0000 * 8 ≤ f.key i ∧ f.key i < 0x1D1000 * 8 := by
  simp only [settingFields, List.mem_cons, List.not_mem_nil, or_false] at hf
  rcases hf with rfl | rfl | rfl | rfl <;>
    simp only [Fld.key, R.FLT_CTRL_FN_MIN, R.FLT_KIND_ESC_N, R.FLT_KIND_ESC_W, R.FLT_KIND_QUIET_QUIET] at * <;> omega

theorem clearRange (h : Tame strict s t) {lo hi : Nat}
    (hf : strict = true → decide (hi ≤ 0x1D0000 * 8) || decide (0x1D1000 * 8 ≤ lo) := by exact fun _ => rfl) :
    Tame strict s (t.clearRange lo hi) :=
  h.ofRegs (amSorted_filter _) fun hs g hg j => by
    by_cases hj : j < g.cnt
    · have hk := setting_key hg hj
      have hr := hf hs
      simp only [Bool.or_eq_true, decide_eq_true_eq] at hr
      exact t.rd_clearRange (by omega)
    · simp only [State.rd, regsRd, if_neg hj]

theorem clearEcc (h : Tame strict s t) {a n : Nat} : Tame strict s (t.clearEcc a n) :=
  h.ofRegs (amSorted_filter _) fun _ g hg j => OnlyKinds.clearEcc (List.mem_singleton.2 rfl) t a n g j
    (by simpa using List.all_eq_true.1 (show H.STORE_ECC.calm = true from rfl) g hg)

/-- The Store's bytes changed within its canonical form. -/
theorem ofStore (h : Tame strict s t) {m : List Host.Cell} (hm : Memory.wf t.store → Memory.wf m) :
    Tame strict s { t with store := m } :=
  h.trans ⟨rfl, rfl, List.suffix_rfl, fun ⟨hr, hw, hq⟩ => ⟨hr, hm hw, hq⟩, fun _ _ _ _ => rfl⟩

theorem st (h : Tame strict s t) {a n v : Nat} : Tame strict s (t.st a n v) :=
  (h.ofStore fun hw => memPutBytes_wf a (toLeBytes n v) hw).clearEcc

theorem stBytes (h : Tame strict s t) {a : Nat} {b : List Byte} : Tame strict s (t.stBytes a b) :=
  (h.ofStore fun hw => memPutBytes_wf a b hw).clearEcc

theorem send (h : Tame strict s t) {m : Msg} : Tame strict s (t.send m) :=
  h.trans ⟨rfl, rfl, List.suffix_cons m t.out, id, fun _ _ _ _ => rfl⟩

theorem answer (h : Tame strict s t) {r : Resp} : Tame strict s (t.answer r) := h.other

theorem freeStep (h : Tame strict s t) : Tame strict s t.freeStep := h.other

theorem go (h : Tame strict s t) : Goes strict s t.go := ⟨t, rfl, h⟩

end Tame

end Sys2Proof.Machine
end

section
/-! Each meaning is built of updates that `Tame` allows: a lemma for each operation of the model, in the order of its files, whose
proof follows the operation as it is defined. -/

set_option Elab.async false

namespace Sys2Proof.Machine.Tame

variable {strict : Bool} {s t : State}

/-! ## The named operations of the state -/

theorem sendRes1 (h : Tame strict s t) {m : MeshMsg} {e : Endpoint} : Tame strict s (t.sendRes1 m e) :=
  ite h.wr.send h.other

theorem sendRes (h : Tame strict s t) {m : MeshMsg} {es : List Endpoint} : Tame strict s (t.sendRes m es) :=
  h.foldl (fun _ _ hu => hu.sendRes1)

theorem sendOrd (h : Tame strict s t) {m : MeshMsg} {es : List Endpoint} : Tame strict s (t.sendOrd m es) := by
  unfold State.sendOrd
  split
  · exact h
  · exact (h.send (m := .mesh es m)).other

theorem stopSending (h : Tame strict s t) : Tame strict s t.stopSending :=
  h.other

/-! ## Records, fault sources and their tests -/

theorem irqFld_calm (b : Nat) : (irqFld b).calm = true := by
  unfold irqFld
  split <;> rfl

theorem hostIrq (h : Tame strict s t) {b : Nat} : Tame strict s (t.hostIrq b) :=
  ite (h.wr fun _ => irqFld_calm b).send (h.wr fun _ => irqFld_calm b)

theorem postCpl (h : Tame strict s t) {r tag status op r0 r1 : Nat} : Tame strict s (t.postCpl r tag status op r0 r1) :=
  h.stBytes.wr.hostIrq

/-- A queue of records within its places; what is queued never exceeds them. -/
theorem ofQueues (h : Tame strict s t) {q q' : List TallyReq} (hq : t.tallyQueue.length ≤ 16 → q.length ≤ 16)
    (hq' : t.tallyStage.length ≤ 64 → q'.length ≤ 64) : Tame strict s { t with tallyQueue := q, tallyStage := q' } :=
  h.trans ⟨rfl, rfl, List.suffix_rfl, fun ⟨hr, hs, hf, he, ht, hg⟩ => ⟨hr, hs, hf, he, hq ht, hq' hg⟩, fun _ _ _ _ => rfl⟩

theorem tally (h : Tame strict s t) {ch sev code d0 d1 : Nat} {inj : Bool} : Tame strict s (t.tally ch sev code d0 d1 inj) := by
  unfold State.tally
  split <;> split
  · next hl => exact h.ofQueues (fun _ => by simpa using hl) id
  · exact h.inc
  · next hl => exact h.ofQueues id (fun _ => by simpa using hl)
  · exact h.inc

theorem recordsTogether (h : Tame strict s t) {s' : State} : Tame strict s (s'.recordsTogether t) :=
  h.ofQueues (by simp) (by simp)

theorem testAction (h : Tame strict s t) {k i : Nat} : Tame strict s (t.testAction k i) := by
  unfold State.testAction
  split
  · exact h.wr.wr.wr
  · exact ite (h.when (fun _ hu => hu.wr)) h.wr
  · exact h.wr
  · split
    · exact h.wr
    · exact h
  · exact h.wr
  · exact h.when (fun _ hu => hu.wr)
  · exact h.wr
  · exact h.when (fun _ hu => hu.sendRes1)
  · exact h.wr
  · exact h

theorem startTest (h : Tame strict s t) {n : Nat} : Tame strict s (t.startTest n) := by
  unfold State.startTest
  split
  · exact h
  · exact ite h h.wr.wr.wr.wr.wr.testAction

theorem endTest (h : Tame strict s t) {n : Nat} : Tame strict s (t.endTest n) := by
  unfold State.endTest
  split
  · exact h.wr.wr.wr.wr
  · exact h.wr.wr.wr
  · split
    · exact h.wr.wr.wr
    · exact h.wr.wr
  · exact h.wr.wr.wr
  · exact h.wr.wr.wr
  · exact h.wr.wr.wr
  · exact h.wr.wr.wr
  · exact h.wr.wr

theorem srcRecord (h : Tame strict s t) {n : Nat} : Tame strict s (t.srcRecord n) :=
  h.tally

theorem postEvent (h : Tame strict s t) {e : FltEvent} : Tame strict s (t.postEvent e) :=
  ite (ite h.inc h.postCpl.hostIrq) h

/-- The queue of events within its places. -/
theorem ofFltQueue (h : Tame strict s t) {q : List FltEvent} (hq : t.fltQueue.length ≤ 64 → q.length ≤ 64) :
    Tame strict s { t with fltQueue := q } :=
  h.trans ⟨rfl, rfl, List.suffix_rfl, fun ⟨hr, hs, hf, he, ht⟩ => ⟨hr, hs, hf, hq he, ht⟩, fun _ _ _ _ => rfl⟩

theorem drainEvents (h : Tame strict s t) : Tame strict s t.drainEvents := by
  unfold State.drainEvents
  split
  · exact (h.ofFltQueue (q := []) fun _ => Nat.zero_le 64).foldl fun _ _ hu => hu.postEvent
  · exact h

/-- An event joins the queue; where that is full, the oldest one leaves it. -/
theorem pushEvent (h : Tame strict s t) {e : FltEvent} : Tame strict s (t.pushEvent e) := by
  unfold State.pushEvent
  dsimp only
  split
  · exact (h.ofFltQueue fun hl => by simp; omega).inc.drainEvents
  · next hl => exact (h.ofFltQueue fun _ => Nat.not_lt.1 hl).drainEvents

theorem noteChange (h : Tame strict s t) {n : Nat} : Tame strict s (t.noteChange n) :=
  h.wr.wr.wr.wr.wr.pushEvent

theorem enterState (h : Tame strict s t) {n st : Nat} : Tame strict s (t.enterState n st) :=
  h.wr.noteChange

theorem nmiAll (h : Tame strict s t) : Tame strict s t.nmiAll :=
  h.foldl (fun _ _ hu => hu.send)

theorem countEvent (h : Tame strict s t) {n k : Nat} : Tame strict s (t.countEvent n k) :=
  ite h.inc.wr.wr h.inc.inc

theorem raise (h : Tame strict s t) {n cls : Nat} {inj : Bool} : Tame strict s (t.raise n cls inj) := by
  unfold State.raise
  split
  · exact h
  · exact ite h ((ite (ite (h.countEvent.wrB.wr.when (fun _ hu => hu.wr)).startTest (h.countEvent.wrB.wr.when
      (fun _ hu => hu.wr)).wr.startTest.enterState.nmiAll) (ite (h.countEvent.wrB.wr.when (fun _ hu => hu.wr)) (ite
      (h.countEvent.wrB.wr.when (fun _ hu => hu.wr)).startTest (h.countEvent.wrB.wr.when
      (fun _ hu => hu.wr)).startTest.enterState))).when (fun _ hu => hu.srcRecord))

theorem injected (h : Tame strict s t) : Tame strict s t.injected :=
  h.wr.when (fun _ hu => hu.wr)

theorem fault (h : Tame strict s t) {k i cls : Nat} {inj : Bool} : Tame strict s (t.fault k i cls inj) :=
  h.raise

theorem eccEvent (h : Tame strict s t) {word e : Nat} : Tame strict s (t.eccEvent word e) :=
  ite h.wr.inc.wr.fault (ite h.wr.inc.wr.wr.wr.fault h)

theorem dmaRead (h : Tame strict s t) {a n : Nat} : Tame strict s (t.dmaRead a n) :=
  h.foldl (fun _ _ hu => hu.when (fun _ hu1 => hu1.eccEvent))

theorem rerank (h : Tame strict s t) {r : Nat} : Tame strict s (t.rerank r) :=
  h.foldl (fun _ _ hu => hu.wr)

theorem unfence (h : Tame strict s t) {p : Nat} : Tame strict s (t.unfence p) :=
  ite h.wr.wr.rerank h

theorem underate (h : Tame strict s t) {p : Nat} : Tame strict s (t.underate p) :=
  ite h.wr.wr h

theorem recount (h : Tame strict s t) {p : Nat} : Tame strict s (t.recount p) :=
  h.wr.wr.wr

theorem release (h : Tame strict s t) {n : Nat} : Tame strict s (t.release n) := by
  unfold State.release
  split
  · exact ite (h.when (fun _ hu => hu.wr)).wr.wr.wr.wr h
  · exact ite h.underate (ite (h.underate.when (fun _ hu => hu.wr)) h.underate.unfence)
  · exact h.wr.wrAll
  · exact h.wr
  · exact h.wr
  · exact h.clearElems.when (fun _ hu => hu.wr.recount)
  · exact h

theorem toClear (h : Tame strict s t) {n : Nat} : Tame strict s (t.toClear n) :=
  h.wr.wr.wr.inc.wr.release.srcRecord.noteChange

theorem applyVerdict (h : Tame strict s t) {n : Nat} {v : TestVerdict} : Tame strict s (t.applyVerdict n v) :=
  ite (ite (h.endTest.wr.when (fun _ hu => hu.wr)).srcRecord (h.endTest.wr.when
    (fun _ hu => hu.wr)).wr.wr.srcRecord.noteChange) (ite (ite (h.endTest.wr.when
    (fun _ hu => hu.wr)).wr.wr.srcRecord.noteChange h.endTest.wr) (h.endTest.wr.when (fun _ hu => hu.wr)).srcRecord)

/-! ## Writes judged and staged -/

theorem refuse (h : Tame strict s t) {w : WCtx} {off cause : Nat} : Tame strict s (t.refuse w off cause) :=
  h.inc.wr.wr.wr.answer

theorem judgedAt (h : Tame strict s t) {w : WCtx} {off : Nat} {f : Fld} {i : Nat} {same rule : Bool} {act : State → State}
    (ha : ∀ u, Tame strict s u → Tame strict s (act u)) : Tame strict s (t.judgedAt w off f i same rule act) := by
  rcases t.judgedAt_cases w off f i same rule act with ⟨-, e⟩ | ⟨-, c, e⟩ | ⟨-, -, e⟩ | ⟨-, -, -, e⟩ <;> rw [e]
  · exact h.answer
  · exact h.refuse
  · exact h.answer
  · exact (ha t h).answer

theorem judged (h : Tame strict s t) {w : WCtx} {f : Fld} {i v : Nat} {rule : Bool} {act : State → State}
    (ha : ∀ u, Tame strict s u → Tame strict s (act u)) : Tame strict s (t.judged w f i v rule act) :=
  h.judgedAt ha

theorem stage (h : Tame strict s t) {w : WCtx} {a : StagedAct} : Tame strict s (t.stage w a) :=
  ite h.other.inc h.other

theorem stageAll (h : Tame strict s t) {w : WCtx} {l : List StagedAct} : Tame strict s (t.stageAll w l) :=
  h.other.when (fun _ hu => hu.inc)

theorem stageCmd (h : Tame strict s t) {w : WCtx} {f : Fld} {i : Nat} {a : StagedAct}
    (hf : strict = true → f.calm = true := by exact fun _ => rfl) : Tame strict s (t.stageCmd w f i a) :=
  (h.wr hf).stage

/-! ## Bellwether -/

theorem acceptSeq (h : Tame strict s t) {f seq : Nat} : Tame strict s (t.acceptSeq f seq) :=
  (ite h.inc h).wr.wr

theorem enterIntent (h : Tame strict s t) {f k : Nat} {start : Int} {m : IntentMsg} : Tame strict s
    (t.enterIntent f k start m) :=
  ite h.inc (h.when (fun _ hu => hu.inc)).other

theorem takeIntent (h : Tame strict s t) {d : Nat} {m : IntentMsg} : Tame strict s (t.takeIntent d m) :=
  ite h.inc (ite h.inc (ite h.inc (ite h.acceptSeq.enterIntent (ite h.acceptSeq.inc
    (ite h.acceptSeq h.acceptSeq.inc.enterIntent)))))

theorem digest (h : Tame strict s t) {bs : List Nat} : Tame strict s (t.digest bs) :=
  h.wr

theorem arrive (h : Tame strict s t) {d : Nat} {bs : List Nat} {take : State → State}
    (ha : ∀ u, Tame strict s u → Tame strict s (take u)) : Tame strict s (t.arrive d bs take) :=
  ite h (ite h.inc (ha _ h.digest.wr))

theorem execIntent {dispatcher : Nat} {m : IntentMsg} : Goes strict s (execIntent dispatcher m s) :=
  ((refl strict s).arrive (fun _ hu => hu.takeIntent)).go

theorem takeCancel (h : Tame strict s t) {d fold tag seq rsv : Nat} : Tame strict s (t.takeCancel d fold tag seq rsv) :=
  ite h.inc (ite h.inc (ite h.inc h.acceptSeq.other))

theorem execCancel {dispatcher fold tag : Nat} {seq : LastField} : Goes strict s (execCancel dispatcher fold tag seq s) :=
  ((refl strict s).arrive (fun _ hu => hu.takeCancel)).go

theorem expireSched (h : Tame strict s t) {k : Nat} : Tame strict s (t.expireSched k) :=
  h.other

theorem setFcast (h : Tame strict s t) {f : Nat} {v : List Nat} : Tame strict s (t.setFcast f v) :=
  h.foldlMem fun _ _ hp hu => hu.wr fun _ =>
    List.all_eq_true.1 (show fcastFlds.all Fld.calm = true from rfl) _ (List.of_mem_zip hp).1

theorem evalFold (h : Tame strict s t) {f : Nat} : Tame strict s (t.evalFold f) := by
  unfold State.evalFold
  split
  · exact h.setFcast.wr
  · exact h.setFcast.wr

theorem show16 (h : Tame strict s t) {f : Fld} {i v : Nat} (hf : strict = true → f.calm = true := by exact fun _ => rfl) :
    Tame strict s (t.show16 f i v) :=
  ite (h.wr hf) (h.wr hf).freeStep

theorem showMax (h : Tame strict s t) {r : Nat} : Tame strict s (t.showMax r) :=
  h.show16

theorem evalRail (h : Tame strict s t) {r : Nat} : Tame strict s (t.evalRail r) :=
  (h.foldl (fun _ _ hu => hu.wr)).showMax.wrB

theorem missTest (h : Tame strict s t) {r : Nat} : Tame strict s (t.missTest r) :=
  ite h.other.inc h

theorem bwOnce (h : Tame strict s t) : Tame strict s t.bwOnce :=
  ite h (((h.foldl (fun _ _ hu => hu.missTest)).foldl (fun _ _ hu => hu.evalFold)).foldl (fun _ _ hu => hu.evalRail)).wr.wr

theorem weightErr (h : Tame strict s t) {inj : Bool} {e : WeightErr} : Tame strict s (State.weightErr inj t e) := by
  unfold State.weightErr
  split
  · exact h
  · exact ite h.wr.wr.fault h.fault

theorem dropFolds (h : Tame strict s t) : Tame strict s t.dropFolds :=
  h.foldl (fun _ _ hu => hu.evalFold)

theorem dropInvalid (h : Tame strict s t) : Tame strict s t.dropInvalid :=
  h.dropFolds.foldl (fun _ _ hu => hu.evalRail)

theorem evalNets (h : Tame strict s t) {errs : List WeightErr} : Tame strict s (t.evalNets errs) :=
  ite (ite ((h.foldl (fun _ _ hu => hu.weightErr)).when (fun _ hu => hu.weightErr.injected)).bwOnce.dropInvalid ((h.foldl
    (fun _ _ hu => hu.weightErr)).when (fun _ hu => hu.weightErr.injected)).bwOnce) h

theorem bwBoundary (h : Tame strict s t) {k : Nat} : Tame strict s (t.bwBoundary k) :=
  (h.expireSched.foldl (fun _ _ hu => (hu.foldl (fun _ _ hu1 => hu1.wr)).wr.show16.wrB.wr.wr)).wrB.wr.wr.clearElems.clearFld

theorem bwCurrents (h : Tame strict s t) : Tame strict s t.bwCurrents :=
  h.foldl (fun _ _ hu => (hu.foldl (fun _ _ hu1 => hu1.wr)).wrS)

theorem execBwClearRails {w : WCtx} : Goes strict s (execBwClearRails w s) :=
  ((refl strict s).judged (fun _ hu => hu.clearFld)).go

theorem execBwClearFolds {w : WCtx} : Goes strict s (execBwClearFolds w s) :=
  ((refl strict s).judged (fun _ hu => hu.clearFlds)).go

/-! ## The Loop Engine -/

theorem inject (h : Tame strict s t) {l : Nat} : Tame strict s (t.inject l).2.2 := by
  unfold State.inject
  split
  · exact h.wr
  · exact h.wr.wr.wrB.wr

theorem plausRun (h : Tame strict s t) {l : Nat} {y0 : Val} {out : Int} {preset : Bool} :
    Tame strict s (t.plausRun l y0 out preset).2 := by
  unfold State.plausRun
  split
  · exact h
  · dsimp only
    rw [apply_ite Prod.snd]
    exact ite h.wrS.wrS.wrS.wrS.wr.wr (h.wrS.wrS.wrS.wrS.wrS.wr.when fun _ hu => hu.wr)

theorem capture (h : Tame strict s t) {l low : Nat} {v : Option Val} {start sticky : Bool} : Tame strict s
    (t.capture l low v start sticky) :=
  ite h (ite (ite (ite ((ite h.freeStep h).wr.wr.when (fun _ hu => hu.wr)).wr.wr.wr ((ite h.freeStep h).wr.wr.when
    (fun _ hu => hu.wr))).wr.wr.wr (ite ((ite h.freeStep h).wr.wr.when (fun _ hu => hu.wr)).wr.wr.wr
    ((ite h.freeStep h).wr.wr.when (fun _ hu => hu.wr))).wr) (ite ((ite h.freeStep h).wr.wr.when (fun _ hu => hu.wr)).wr.wr.wr
    ((ite h.freeStep h).wr.wr.when (fun _ hu => hu.wr))))

theorem goldStep (h : Tame strict s t) {l : Nat} : Tame strict s (t.goldStep l) :=
  ite h (ite (h.wr.when (fun _ hu => hu.wr)) (ite (ite h.wr.send h.wr.wr) h))

theorem goldCommit (h : Tame strict s t) {l : Nat} : Tame strict s (t.goldCommit l) :=
  ite (h.stBytes.wr.wr.wr.when (fun _ hu => hu.wr)) h

theorem goldTake (h : Tame strict s t) {l : Nat} {i : RunIn} {r : RunSt} : Tame strict s (t.goldTake l i r) :=
  ite (ite h.wr.wr h.wr.wr.goldCommit) h

theorem stick (h : Tame strict s t) {l : Nat} {f : Sticky} : Tame strict s (t.stick l f) :=
  (((h.when (fun _ hu => hu.wr)).when (fun _ hu => hu.wr)).when (fun _ hu => hu.wr)).when (fun _ hu => hu.wr)

theorem runOne (h : Tame strict s t) {l : Nat} : Tame strict s (t.runOne l) := by
  unfold State.runOne
  dsimp only
  have hinj : Tame strict s (if (t.mode l == 1 && (t.presetOf l).isSome) = true then
    ((0 : Int), false, t) else t.inject l).2.2 := by
    split
    · exact h
    · exact h.inject
  exact (((((((hinj.plausRun.stick.wrS.foldl fun _ _ hu => hu.wrS).wrS.wrS.wr).wrB.wrB.wrB).wr.wr.wr).when fun _ hu =>
    hu.inc).capture).wr).goldTake

theorem loopWindow (h : Tame strict s t) : Tame strict s t.loopWindow :=
  ite ((h.bwOnce.foldl (fun _ _ hu => hu.runOne)).foldl (fun _ _ hu => hu.goldStep)).wr.wr h

theorem execPlausFault {slot : Nat} : Goes strict s (execPlausFault slot s) :=
  (ite (refl strict s).wr.wr.wr.fault (refl strict s)).go

theorem setMode (h : Tame strict s t) {l m : Nat} : Tame strict s (t.setMode l m) :=
  ite h ((h.wr.wr.wr.wr.when (fun _ hu => hu.wr)).when (fun _ hu => hu.wr.wr.wr))

theorem endHold (h : Tame strict s t) {l : Nat} : Tame strict s (t.endHold l) :=
  (h.when (fun _ hu => hu.wr)).clearElems

theorem commitMode (h : Tame strict s t) {l m : Nat} : Tame strict s (t.commitMode l m) :=
  ite h (ite (h.when (fun _ hu => hu.wr)).wr (ite (ite (h.when (fun _ hu => hu.wr)).endHold.setMode (h.when
    (fun _ hu => hu.wr)).wr) (h.when (fun _ hu => hu.wr)).wr.setMode))

theorem holdStep (h : Tame strict s t) {l : Nat} : Tame strict s (t.holdStep l) :=
  ite (ite h h.wr.wr.setMode) (ite (ite h.endHold.wr.setMode (ite h.endHold.setMode h.endHold)) h)

theorem endStartTrack (h : Tame strict s t) {l : Nat} : Tame strict s (t.endStartTrack l) :=
  ite (ite h.wr.wr h.wr.wr.setMode) h

theorem applyOutputs (h : Tame strict s t) : Tame strict s t.applyOutputs :=
  (h.foldl (fun _ _ hu => hu.wr)).clearFlds

theorem commitDivider (h : Tame strict s t) {l : Nat} : Tame strict s (t.commitDivider l) :=
  ite h (ite h.wr h.wr.wr)

theorem mirrorOut (h : Tame strict s t) {w : WCtx} {op : MirrorOp} : Tame strict s (t.mirrorOut w op) :=
  ite h.send h

theorem execModeReq {w : WCtx} {slot mode : Nat} : Goes strict s (execModeReq w slot mode s) :=
  ((refl strict s).judged (fun _ hu => hu.wr.stage.mirrorOut)).go

theorem execManual {w : WCtx} {slot v : Nat} : Goes strict s (execManual w slot v s) :=
  ((refl strict s).judged (fun _ hu => hu.stage.mirrorOut)).go

theorem injectorSet (h : Tame strict s t) {old : Machine.State} {off : Nat} : Tame strict s (t.injectorSet old off) :=
  h.when (fun _ hu => hu.wr)

/-- The fields of the index are no protection settings, but for those that a boundary writes (R12, R15). -/
theorem fieldsAt_calm {off : Nat} {f : Fld} (hf : f ∈ fieldsAt off) (ha : f.acc ≠ .rww) : f.calm = true := by
  have hall : (fieldsAt off).all (fun f => f.acc == .rww || f.calm) = true := by
    unfold fieldsAt
    split <;> rfl
  have h := List.all_eq_true.1 hall f hf
  simp only [Bool.or_eq_true, beq_iff_eq] at h
  exact h.resolve_left ha

theorem wordFields_calm {off : Nat} {x : Fld × Nat} (hx : x ∈ wordFields off) (ha : x.1.acc ≠ .rww) : x.1.calm = true := by
  simp only [wordFields, List.mem_flatMap, List.mem_filterMap, Option.ite_none_right_eq_some, Option.some.injEq] at hx
  obtain ⟨f, hf, i, -, -, rfl⟩ := hx
  exact fieldsAt_calm hf ha

theorem heldFields_calm {off : Nat} {x : Fld × Nat} (hx : x ∈ heldFields off) : x.1.calm = true := by
  obtain ⟨hw, ha⟩ := List.mem_filter.1 hx
  exact wordFields_calm hw (by rw [beq_iff_eq.1 ha]; decide)

theorem commitHeld (h : Tame strict s t) {off v mask : Nat} : Tame strict s (t.commitHeld off v mask) :=
  ite h.inc (h.foldlMem fun _ _ hx hu => hu.wr fun _ => heldFields_calm hx).injectorSet

theorem holdWrite (h : Tame strict s t) {w : WCtx} {off v mask : Nat} : Tame strict s (t.holdWrite w off v mask) :=
  h.stage.mirrorOut

theorem execHeldWrite {w : WCtx} {off v : Nat} : Goes strict s (execHeldWrite w off v s) := by
  unfold Machine.execHeldWrite
  exact (ite (refl strict s).answer (show Tame strict s _ from by
    split
    · exact (refl strict s).judgedAt (fun _ hu => hu.holdWrite)
    · exact (refl strict s).refuse)).go

theorem armCapture (h : Tame strict s t) {l : Nat} : Tame strict s (t.armCapture l) :=
  h.wr.wr.wr.wr.wr

theorem writeCap (h : Tame strict s t) {l v : Nat} {arm : Bool} : Tame strict s (t.writeCap l v arm) :=
  h.wr.wr.wr.wr.wr.when (fun _ hu => hu.armCapture)

theorem execCaptureArm {w : WCtx} {slot v : Nat} : Goes strict s (execCaptureArm w slot v s) :=
  ((refl strict s).judgedAt (fun _ hu => hu.writeCap)).go

/-! ## The Phase Driver -/

theorem pwm (h : Tame strict s t) {p : Nat} {l : PwmLevel} {start width : Nat} : Tame strict s (t.pwm p l start width) :=
  ite h.send h

theorem refreshDuty (h : Tame strict s t) {r : Nat} : Tame strict s (t.refreshDuty r) :=
  h.foldl (fun _ _ hu => hu.wr)

theorem toAdding (h : Tame strict s t) {p : Nat} : Tame strict s (t.toAdding p) :=
  h.wr.wr.clearElems

theorem endSkip (h : Tame strict s t) {r : Nat} : Tame strict s (t.endSkip r) :=
  h.when (fun _ hu => hu.wr)

theorem addFallow (h : Tame strict s t) {r k : Nat} : Tame strict s (t.addFallow r k) :=
  ite h (h.foldl (fun _ _ hu => hu.toAdding)).wr.endSkip.rerank.refreshDuty

theorem dropShed (h : Tame strict s t) {r : Nat} : Tame strict s (t.dropShed r) :=
  ite h (h.foldl (fun _ _ hu => hu.wr)).wr.wr

theorem addPhases (h : Tame strict s t) {r k : Nat} : Tame strict s (t.addPhases r k) :=
  h.dropShed.addFallow

theorem addDecision (h : Tame strict s t) {r : Nat} : Tame strict s (t.addDecision r) :=
  ite h.addPhases h

theorem stepDetected (h : Tame strict s t) {r : Nat} : Tame strict s (t.stepDetected r) :=
  ite h.dropShed.addFallow.inc.wr (ite h.dropShed h)

theorem stepAndSkip (h : Tame strict s t) {r : Nat} : Tame strict s (t.stepAndSkip r) :=
  h.stepDetected.endSkip

theorem fencePhase (h : Tame strict s t) {p cause : Nat} : Tame strict s (t.fencePhase p cause) :=
  (ite (h.wr.wr.wr.pwm.clearElems.wr.when (fun _ hu => hu.wr)).rerank.addPhases (h.wr.wr.wr.pwm.clearElems.wr.when
    (fun _ hu => hu.wr)).rerank.refreshDuty).fault

theorem deratePhase (h : Tame strict s t) {p : Nat} : Tame strict s (t.deratePhase p) :=
  h.wr.wr.wrS.wr.clearElems.refreshDuty.fault

theorem railOff (h : Tame strict s t) {r : Nat} : Tame strict s (t.railOff r) :=
  (h.foldl (fun _ _ hu => hu.wr.wr.wr.pwm.clearElems)).clearElems.rerank

theorem cellsUp (h : Tame strict s t) {r : Nat} : Tame strict s (t.cellsUp r) :=
  h.foldl (fun _ _ hu => hu.clearElems)

theorem startRamp (h : Tame strict s t) {r : Nat} : Tame strict s (t.startRamp r) :=
  (h.cellsUp.foldl (fun _ _ hu => hu.wr.wr.clearElems)).wr.wr.wr.wr.clearElems.rerank.refreshDuty

theorem truncate (h : Tame strict s t) {r : Nat} : Tame strict s (t.truncate r) :=
  ite (ite h (h.wr.wr.foldl (fun _ _ hu => hu.pwm))) (ite h.wr h)

theorem compensate (h : Tame strict s t) {r : Nat} : Tame strict s (t.compensate r) :=
  h.wr.wrS.wr.refreshDuty

theorem overshoot (h : Tame strict s t) {r : Nat} : Tame strict s (t.overshoot r) :=
  h.wr.truncate

theorem runRail (h : Tame strict s t) {r code : Nat} : Tame strict s (t.runRail r code) :=
  h.wr.overshoot.wr.compensate.when (fun _ hu => hu.stepAndSkip)

theorem convert (h : Tame strict s t) {r code : Nat} : Tame strict s (t.convert r code) :=
  ite h.overshoot (ite h.wr.wr h.wr.wr.runRail)

theorem execRailSenseConversion {rail code : Nat} : Goes strict s (execRailSenseConversion rail code s) :=
  (ite (refl strict s).convert (refl strict s)).go

theorem execSg2Shutdown {rail : Nat} : Goes strict s (execSg2Shutdown rail s) :=
  (ite (refl strict s).railOff.wr.tally.fault (refl strict s)).go

theorem stepVref (h : Tame strict s t) {r : Nat} : Tame strict s (t.stepVref r) :=
  ite h (ite (ite h.wr.wr h.wr.wr) (ite h.wr (ite h.wr.endSkip h)))

theorem execVrefStep : Goes strict s (execVrefStep s) :=
  ((refl strict s).foldl (fun _ _ hu => hu.stepVref)).go

theorem judgeCount (h : Tame strict s t) {f : Fld} {p : Nat} {c : Bool}
    (hf : strict = true → f.calm = true := by exact fun _ => rfl) :
    Tame strict s (t.judgeCount f p c) :=
  h.wr hf

theorem runPhase (h : Tame strict s t) {p : Nat} : Tame strict s (t.runPhase p) := by
  unfold State.runPhase
  exact ((show Tame strict s _ from by
    split
    · exact h.wrS.judgeCount.judgeCount.judgeCount
    · exact ite h.wrS.judgeCount.judgeCount.judgeCount.wrS h.wrS.judgeCount.judgeCount.judgeCount).refreshDuty.when
        (fun _ hu => hu.stepDetected)).when (fun _ hu => hu.endSkip)

theorem loopUsed (h : Tame strict s t) {p : Nat} : Tame strict s (t.loopUsed p) := by
  unfold State.loopUsed
  split
  · exact h.wrS
  · exact h

theorem sample (h : Tame strict s t) {p code : Nat} {refOff : Bool} : Tame strict s (t.sample p code refOff) :=
  ite h.loopUsed (ite h.wrS.wrB.wr h.wrS.wrB.wr.runPhase)

theorem execPhaseCurrentSample {phase code : Nat} {refOff : Bool} : Goes strict s
    (execPhaseCurrentSample phase code refOff s) :=
  (ite (refl strict s).sample (refl strict s)).go

theorem execPhaseFenceVerdict {phase : Nat} : Goes strict s (execPhaseFenceVerdict phase s) :=
  (ite (refl strict s).fencePhase (refl strict s)).go

theorem execPhaseDerate {phase : Nat} : Goes strict s (execPhaseDerate phase s) :=
  (ite (refl strict s).deratePhase (refl strict s)).go

theorem execShortCircuitTrip {phase : Nat} : Goes strict s (execShortCircuitTrip phase s) :=
  (ite (ite (refl strict s).inc.inc.pwm (refl strict s).inc.inc.pwm.wr.wr) (refl strict s)).go

theorem execScRepeatFence {phase : Nat} : Goes strict s (execScRepeatFence phase s) :=
  (ite (refl strict s).tally.fencePhase (refl strict s)).go

theorem periodChanges (h : Tame strict s t) {p : Nat} : Tame strict s (t.periodChanges p) := by
  unfold State.periodChanges
  split
  · exact ite h.wr.wr.wr.wrS.rerank h
  · exact ite h.wr.wr.wr.wr.refreshDuty (ite h.wr.wrS.refreshDuty h.wr.wr.wr.wr.rerank.refreshDuty)
  · exact ite h.wr.wr h.wr
  · exact h

theorem pulse (h : Tame strict s t) {p : Nat} : Tame strict s (t.pulse p) :=
  ite h.wr.wrB.wr.pwm (ite h.wr.wrB.wr.pwm (ite h.wr.wrB.wr.pwm h.wr.wrB.wr.pwm))

theorem periodStart (h : Tame strict s t) {p : Nat} : Tame strict s (t.periodStart p) := by
  unfold State.periodStart
  extract_lets r s1 s2 s3
  have h1 : Tame strict s s1 := (h.when fun _ hu => hu.wr).wr
  have h2 : Tame strict s s2 := h1.when fun _ hu => hu.wr.wr.wr
  have h3 : Tame strict s s3 := h2.periodChanges.clearElems
  split
  · exact h3.pwm
  · exact ite h3.wr.pwm h3.wr.pwm
  · exact ite h3.wr.wr.pwm h3.pwm
  · exact h3.pulse

theorem execSwitchingPeriodStart {phase : Nat} : Goes strict s (execSwitchingPeriodStart phase s) :=
  (ite (refl strict s).periodStart (refl strict s)).go

theorem execShedDecision {rail : Nat} : Goes strict s (execShedDecision rail s) := by
  unfold Machine.execShedDecision
  exact (show Tame strict s _ from by
    split
    · exact ite (refl strict s).wr.wr (refl strict s)
    · exact (refl strict s)).go

theorem execPulseSkipEngage {rail : Nat} : Goes strict s (execPulseSkipEngage rail s) :=
  (ite (refl strict s).wr.wr (refl strict s)).go

theorem earlyAdd (h : Tame strict s t) {r : Nat} : Tame strict s (t.earlyAdd r) :=
  ite h (ite (ite h h.wr.freeStep.addPhases.endSkip) (ite (ite h.wr h.wr.freeStep).addPhases.endSkip h))

theorem execEarlyAddCheck : Goes strict s (execEarlyAddCheck s) :=
  (ite ((refl strict s).foldl (fun _ _ hu => hu.earlyAdd)) (refl strict s)).go

theorem latchRail (h : Tame strict s t) {r c0 c1 : Nat} : Tame strict s (t.latchRail r c0 c1) :=
  h.wr.wr.wr

theorem latchSense (h : Tame strict s t) : Tame strict s t.latchSense :=
  ((h.foldl (fun _ _ hu => hu.wr.wr.wr.wr.wr)).foldl (fun _ _ hu => hu.latchRail.wrS.wr.wr)).wr

theorem runSet (h : Tame strict s t) : Tame strict s t.runSet :=
  ((h.foldl (fun _ _ hu => hu.runPhase)).foldl (fun _ _ hu => hu.runRail.runRail)).foldl (fun _ _ hu => hu.wrS)

theorem pushHist (h : Tame strict s t) {r : Nat} : Tame strict s (t.pushHist r) :=
  h.wrS.wrS.wr

theorem overload (h : Tame strict s t) {r : Nat} : Tame strict s (t.overload r) :=
  ite (ite (ite h h.wr.wr) (ite h h.wr.wr).wr.fault) (ite h (ite (ite h h.wr.wr) (ite h.wr.wr.wr h.wr.wr)))

theorem railSafe (h : Tame strict s t) {r : Nat} : Tame strict s (t.railSafe r) :=
  ite (ite h.wr.wr h.wr) (ite h.wr.wr.fault h.wr)

theorem railCut (h : Tame strict s t) {r : Nat} : Tame strict s (t.railCut r) :=
  h.wr.wr.overload.wr.wrB.wrB.wrB.wrB

theorem latchSelect (h : Tame strict s t) {r : Nat} : Tame strict s (t.latchSelect r) := by
  unfold State.latchSelect
  exact h.wr.wr.when fun _ hu => hu.endSkip

theorem shedCounts (h : Tame strict s t) {r : Nat} : Tame strict s (t.shedCounts r) :=
  ((h.wr.wr.when (fun _ hu => hu.endSkip)).wr.wr.when (fun _ hu => hu.stepAndSkip)).wrB

theorem railBoundary (h : Tame strict s t) {r : Nat} : Tame strict s (t.railBoundary r) :=
  h.pushHist.railSafe.railCut.latchSelect.addDecision.shedCounts

theorem doRestart (h : Tame strict s t) {r : Nat} : Tame strict s (t.doRestart r) :=
  h.wr.startRamp.when (fun _ hu => hu.toClear)

theorem wardenFence (h : Tame strict s t) {p : Nat} {on : Bool} : Tame strict s (t.wardenFence p on) :=
  ite (ite h.wrB h.wrB.fencePhase) (ite h.wrB.unfence h.wrB)

theorem execRestart {w : WCtx} {rail : Nat} : Goes strict s (execRestart w rail s) :=
  ((refl strict s).judged (fun _ hu => hu.stageCmd)).go

theorem execClearSafe {w : WCtx} {rail : Nat} : Goes strict s (execClearSafe w rail s) :=
  ((refl strict s).judged (fun _ hu => hu.stageCmd)).go

theorem execPhaseFenceWrite {w : WCtx} {phase : Nat} {on : Bool} : Goes strict s (execPhaseFenceWrite w phase on s) :=
  ((refl strict s).judged (fun _ hu => hu.stage)).go

/-! ## Crook -/

theorem cellSend (h : Tame strict s t) {m : MeshMsg} : Tame strict s (t.cellSend m) :=
  h.send

theorem countTrip (h : Tame strict s t) {c : Nat} : Tame strict s (t.countTrip c) :=
  ite h.inc.cellSend h.inc

theorem countEdges (h : Tame strict s t) {c edges : Nat} : Tame strict s (t.countEdges c edges) :=
  ite (h.wr.inc.foldl (fun _ _ hu => hu.inc)) h

theorem execCellTrip {cell : Nat} {m : TripEdge} : Goes strict s (execCellTrip cell m s) :=
  (ite (ite (refl strict s).countEdges (refl strict s).wr).wr.wr.countTrip (refl strict s)).go

theorem execCellRelease {cell edges code : Nat} : Goes strict s (execCellRelease cell edges code s) :=
  (ite (refl strict s).countEdges.wr.wr (refl strict s)).go

theorem execAccountingFrameEnd {cell edges : Nat} : Goes strict s (execAccountingFrameEnd cell edges s) :=
  (ite (refl strict s) ((refl strict s).countEdges.wr.when (fun _ hu => hu.cellSend)).wr.wr.wrB.wr.wr).go

theorem noteStuck (h : Tame strict s t) {cell : Nat} {stuck : Bool} : Tame strict s (t.noteStuck cell stuck) :=
  ite h.wr.fault h

theorem execCellStuck {cell : Nat} : Goes strict s (execCellStuck cell s) :=
  (ite (refl strict s).wr.noteStuck (refl strict s)).go

theorem execCellOrphan {cell : Nat} : Goes strict s (execCellOrphan cell s) :=
  (ite (refl strict s).wr.wr.wr (refl strict s)).go

theorem unorphan (h : Tame strict s t) {c : Nat} : Tame strict s (t.unorphan c) :=
  h.when (fun _ hu => hu.wr)

theorem execThresh {fold code : Nat} : Goes strict s (execThresh fold code s) :=
  ((refl strict s).foldl (fun _ _ hu => hu.wr.wr.unorphan)).go

theorem execConfig {fold hyst maxStretch fallback minHold stuckFrames : Nat} : Goes strict s
    (execConfig fold hyst maxStretch fallback minHold stuckFrames s) :=
  ((refl strict s).foldl (fun _ _ hu => hu.wr.wr.wr.wr.wr)).go

theorem execCellEn {cell : Nat} {en : Bool} : Goes strict s (execCellEn cell en s) :=
  (ite ((refl strict s).wrB.when (fun _ hu => hu.clearElems)) (refl strict s)).go

theorem execFrameSync {frame : Nat} : Goes strict s (execFrameSync frame s) :=
  ((refl strict s).foldl (fun _ _ hu => hu.wr.wr.wr.wr.unorphan)).go

theorem execTest {cell : Nat} : Goes strict s (execTest cell s) :=
  (ite (refl strict s).countTrip.inc (refl strict s)).go

theorem execEcho {cell : Nat} : Goes strict s (execEcho cell s) :=
  (ite (refl strict s).cellSend (refl strict s)).go

theorem execDelay {cell comp : Nat} : Goes strict s (execDelay cell comp s) :=
  (ite (refl strict s).wr (refl strict s)).go

theorem guard (h : Tame strict s t) {m : MeshMsg} {es : List Endpoint} : Tame strict s (t.guard m es) :=
  ite h.sendRes h

theorem execTrip {cell : Nat} : Goes strict s (execTrip cell s) :=
  (ite (refl strict s).wr.stepAndSkip (refl strict s)).go

theorem cellTest (h : Tame strict s t) {cell : Nat} {r : CellReport} : Tame strict s (t.cellTest cell r) :=
  ite h (ite (h.when (fun _ hu => hu.wr)) h.wr)

theorem execReport {cell : Nat} {r : CellReport} : Goes strict s (execReport cell r s) :=
  (ite (refl strict s) (((refl strict s).inc.inc.inc.inc.wrB.wrB.wrB.when (fun _ hu => hu.inc)).when
    (fun _ hu => hu.wr)).cellTest.noteStuck).go

theorem updateSynced (h : Tame strict s t) : Tame strict s t.updateSynced :=
  h.when (fun _ hu => hu.wrB)

theorem sendDelay (h : Tame strict s t) {c comp : Nat} : Tame strict s (t.sendDelay c comp) :=
  h.guard.wr.wr.updateSynced

theorem execEchoReply {cell rtt : Nat} : Goes strict s (execEchoReply cell rtt s) :=
  (ite (refl strict s).wr.sendDelay (refl strict s)).go

theorem execEchoTimeout {cell : Nat} : Goes strict s (execEchoTimeout cell s) :=
  (ite (refl strict s).sendDelay (refl strict s)).go

theorem sendFrameSync (h : Tame strict s t) : Tame strict s t.sendFrameSync :=
  h.guard.wr

theorem execFrameSyncPeriod : Goes strict s (execFrameSyncPeriod s) :=
  (ite (refl strict s).sendFrameSync (refl strict s)).go

theorem execCrookTestWrite {w : WCtx} {cell : Nat} : Goes strict s (execCrookTestWrite w cell s) :=
  ((refl strict s).judged (fun _ hu => hu.stage)).go

theorem doCrookTest (h : Tame strict s t) {c : Nat} : Tame strict s (t.doCrookTest c) :=
  ite h.wr.wr.guard h.wr

theorem startEcho (h : Tame strict s t) {f : Nat} {en : Bool} : Tame strict s (t.startEcho f en) :=
  h.foldl (fun _ _ hu => (hu.when (fun _ hu1 => hu1.guard.wr)).guard.wr.wr)

theorem sendConfig (h : Tame strict s t) {f : Nat} : Tame strict s (t.sendConfig f) :=
  h.wr.wr.guard

theorem threshStep (h : Tame strict s t) {force : Bool} {f : Nat} : Tame strict s (t.threshStep force f) :=
  ite h (ite h.wr.guard h)

theorem cellEnStep (h : Tame strict s t) {c : Nat} : Tame strict s (t.cellEnStep c) :=
  ite h h.guard.wrB

theorem latchCrook (h : Tame strict s t) : Tame strict s t.latchCrook :=
  h.foldl (fun _ _ hu => hu.wr.wr.wr.wr)

theorem crookBoundary (h : Tame strict s t) : Tame strict s t.crookBoundary :=
  ite ((h.foldl (fun _ _ hu => hu.inc)).wr.foldl (fun _ _ hu => hu.sendConfig)) (((((h.foldl (fun _ _ hu => hu.inc)).wr.foldl
    (fun _ _ hu => hu.sendConfig)).foldl (fun _ _ hu => hu.threshStep.wr)).foldl (fun _ _ hu => hu.cellEnStep)).foldl
    (fun _ _ hu => hu.startEcho.wr)).updateSynced

/-! ## The thermal section and the sample FIFO -/

/-- The sample FIFO within its places. -/
theorem ofFifo (h : Tame strict s t) {q : List FifoWord} (hq : t.fifo.length ≤ 64 → q.length ≤ 64) :
    Tame strict s { t with fifo := q } :=
  h.trans ⟨rfl, rfl, List.suffix_rfl, fun ⟨hr, hs, hf, he⟩ => ⟨hr, hs, hq hf, he⟩, fun _ _ _ _ => rfl⟩

theorem fifoPush (h : Tame strict s t) {x : FifoWord} : Tame strict s (t.fifoPush x) := by
  unfold State.fifoPush
  dsimp only
  split
  · exact h.wr.inc
  · next hl => exact (h.ofFifo fun _ => by simp; omega).wr.when fun _ hu => hu.wr.inc.send

theorem fifoLast (h : Tame strict s t) {x : FifoWord} : Tame strict s (t.fifoLast x) :=
  h.wrB.wrB.wr

theorem fifoPop1 (h : Tame strict s t) : Tame strict s t.fifoPop1.2 := by
  unfold State.fifoPop1
  split
  · exact h.fifoLast
  · next hf => exact (h.ofFifo fun hl => by rw [hf] at hl; exact Nat.le_of_succ_le hl).fifoLast.when fun _ hu => hu.inc

theorem putSite (h : Tame strict s t) {s' : Machine.State} {p : Nat} {sweep : List FifoWord} {x : FifoWord} : Tame strict s
    (s'.putSite p sweep x t) :=
  h.wr.wrB.wr.wr.wr.wr

theorem judgeSweep (h : Tame strict s t) {p : Nat} {sweep : List FifoWord} : Tame strict s (t.judgeSweep p sweep) :=
  (h.foldl (fun _ _ hu => hu.putSite)).wr.wr.wrS.wr.wrB.recount.when (fun _ hu => hu.wr)

theorem fifoDrain (h : Tame strict s t) : Tame strict s t.fifoDrain := by
  unfold State.fifoDrain
  split
  · exact h
  · exact (h.foldl (fun _ _ hu => hu.fifoPop1)).foldl (fun _ _ hu => (show Tame strict s _ from by
      split
      · exact hu
      · exact ite hu.judgeSweep hu))

theorem execReading {site tag : Nat} {valid : Bool} {temp : LastField} : Goes strict s (execReading site tag valid temp s) :=
  (ite (refl strict s) (ite (refl strict s).other (refl strict s).inc)).go

theorem scanWord (h : Tame strict s t) {x : FifoWord} : Tame strict s (t.scanWord x) :=
  ite h.fifoPush.wr.injected h.fifoPush

theorem execSweepClose {paddock : Nat} : Goes strict s (execSweepClose paddock s) := by
  unfold Machine.execSweepClose
  exact (show Tame strict s _ from by
    split
    · exact (refl strict s)
    · exact (((refl strict s).other.foldl (fun _ _ hu => hu.wr)).foldl (fun _ _ hu => hu.scanWord)).fifoDrain).go

theorem execSiteRefReading {site _tag : Nat} {temp : LastField} : Goes strict s (execSiteRefReading site _tag temp s) :=
  (ite (refl strict s) (ite (ite (refl strict s).wr (refl strict s).wr.wr.wr.recount.fault) ((refl strict s).foldl
    (fun _ _ hu => hu.wr)))).go

theorem execSiteFailed {site : Nat} : Goes strict s (execSiteFailed site s) :=
  (ite (refl strict s).wr.wr.wr.recount.fault (refl strict s)).go

theorem execSiteHighFault {site : Nat} : Goes strict s (execSiteHighFault site s) :=
  (ite (refl strict s).wr.fault (refl strict s)).go

theorem execDiodeFailed {ch : Nat} : Goes strict s (execDiodeFailed ch s) :=
  (ite (refl strict s).wr.wrAll.wrAll.fault (refl strict s)).go

theorem execHotFence {tile : Nat} : Goes strict s (execHotFence tile s) :=
  (ite (refl strict s).wr.fault (refl strict s)).go

theorem diodeReading (h : Tame strict s t) {d v : Nat} : Tame strict s (t.diodeReading d v) :=
  ite h.wr.wr.wr h

theorem execDiodeConversion {ch : Nat} {temp : Int} : Goes strict s (execDiodeConversion ch temp s) :=
  (ite (ite (refl strict s).diodeReading.wr.wrB (refl strict s).diodeReading.wr.wrB.send) (refl strict s)).go

theorem execDiodeTrip {ch : Nat} {temp : Int} : Goes strict s (execDiodeTrip ch temp s) :=
  (ite (ite (refl strict s).wr (refl strict s).wr.wr.wr.wr) (refl strict s)).go

theorem execThermtripNetLow : Goes strict s (execThermtripNetLow s) :=
  (ite (refl strict s) ((refl strict s).wr.when (fun _ hu => hu.foldl (fun _ _ hu1 => hu1.railOff))).tally.fault).go

theorem execHbmTemp {ctrl : Nat} {temp : Int} : Goes strict s (execHbmTemp ctrl temp s) :=
  (ite (refl strict s).wrS.wr.wr.wr (refl strict s)).go

theorem execMemctrlStale {ctrl : Nat} : Goes strict s (execMemctrlStale ctrl s) :=
  (ite (refl strict s).wr.fault (refl strict s)).go

theorem execOptReport {engine : Nat} {locked : Bool} {heater : Nat} {laser : LastField} : Goes strict s
    (execOptReport engine locked heater laser s) :=
  (ite (refl strict s) (ite (refl strict s).wrB.wr.wr.wr (refl strict s).wrB.wr.wr.wr.wr)).go

theorem execOpticalOver {engine : Nat} : Goes strict s (execOpticalOver engine s) :=
  (ite (refl strict s).wr.fault (refl strict s)).go

theorem bandStep (h : Tame strict s t) {m : Nat} : Tame strict s (t.bandStep m) :=
  ite h (ite (h.when (fun _ hu => hu.freeStep)).wrS.wr.guard (h.when (fun _ hu => hu.freeStep)).wrS.wr)

theorem optFfStep (h : Tame strict s t) {r : Rec} : Tame strict s (t.optFfStep r) :=
  ite h.wr.sendOrd h

theorem sendOptAllow (h : Tame strict s t) {e : Nat} : Tame strict s (t.sendOptAllow e) :=
  ite h.sendOrd h

theorem siteExclude (h : Tame strict s t) {k : Nat} : Tame strict s (t.siteExclude k) :=
  ite h h.wr.recount

theorem hotStep (h : Tame strict s t) {t' : Nat} : Tame strict s (t.hotStep t') :=
  h.when (fun _ hu => hu.wr)

theorem fenceStep (h : Tame strict s t) {t' : Nat} : Tame strict s (t.fenceStep t') :=
  ite (ite h.hotStep h.hotStep.wr.clearElems.guard.siteExclude) (ite h.hotStep (ite h.hotStep.wr.clearElems.siteExclude
    (ite h.hotStep (ite h.hotStep.wr h.hotStep.wr.guard))))

theorem stileSites (h : Tame strict s t) {fl : Nat} : Tame strict s (t.stileSites fl) :=
  h.foldl (fun _ _ hu => hu.siteExclude)

theorem demandStep (h : Tame strict s t) {fl : Nat} : Tame strict s (t.demandStep fl) :=
  ite h.wr.wr.wr.wr.guard h.wr

theorem stileWake (h : Tame strict s t) {fl : Nat} : Tame strict s (t.stileWake fl) :=
  ite h.clearElems.wr.stileSites h.wr

theorem stileRail (h : Tame strict s t) {fl : Nat} : Tame strict s (t.stileRail fl) :=
  ite h h.clearElems.stileSites

theorem execFenceAck {flock : Nat} {m : FenceAckMsg} : Goes strict s (execFenceAck flock m s) :=
  (ite (refl strict s) (ite (((refl strict s).when (fun _ hu => hu.fault)).when (fun _ hu => hu.wr)).wr.wr.stileSites
    (((refl strict s).when (fun _ hu => hu.fault)).when (fun _ hu => hu.wr)))).go

theorem execRouteState {flock : Nat} {m : RouteMsg} : Goes strict s (execRouteState flock m s) :=
  (ite (refl strict s) ((((refl strict s).when (fun _ hu => hu.wr)).wrB.when (fun _ hu => hu.wr)).when (fun _ hu => hu.wr))).go

theorem execStilePark {flock : Nat} : Goes strict s (execStilePark flock s) :=
  (ite (refl strict s).wr.guard (refl strict s)).go

theorem execTileFenceWrite {w : WCtx} {tile : Nat} {on : Bool} : Goes strict s (execTileFenceWrite w tile on s) :=
  ((refl strict s).judged (fun _ hu => hu.stage)).go

theorem thermalDividers (h : Tame strict s t) : Tame strict s t.thermalDividers := by
  unfold State.thermalDividers
  exact (h.foldl (fun _ _ hu => hu.wr)).foldl (fun _ _ hu => (show Tame strict s _ from by
    split
    · exact hu.wr.wr.commitDivider
    · exact hu.wr))

theorem latchPaddock (h : Tame strict s t) {p : Nat} : Tame strict s (t.latchPaddock p) :=
  h.wrS.wr.wrB.wrB.wrB.wr.when (fun _ hu => hu.fault)

theorem endSweeps (h : Tame strict s t) : Tame strict s t.endSweeps :=
  h.other.foldl (fun _ _ hu => ite hu hu.inc)

theorem latchThermal (h : Tame strict s t) : Tame strict s t.latchThermal :=
  (h.endSweeps.foldl (fun _ _ hu => hu.latchPaddock)).foldl (fun _ _ hu => hu.wr)

theorem requestSweep (h : Tame strict s t) {p f : Nat} : Tame strict s (t.requestSweep p f) := by
  unfold State.requestSweep
  dsimp only
  split
  · refine sendOrd (other ?_)
    split
    · exact h.wr
    · exact h
  · refine other ?_
    split
    · exact h.wr
    · exact h

theorem requestSweeps (h : Tame strict s t) : Tame strict s t.requestSweeps :=
  h.foldl (fun _ _ hu => ite hu.wr.requestSweep hu)

theorem thermalAges (h : Tame strict s t) : Tame strict s t.thermalAges :=
  (h.foldl (fun _ _ hu => ite hu (ite hu.wr.wr hu.wr))).foldl (fun _ _ hu => ite hu.inc hu)

theorem thermalBoundary (h : Tame strict s t) : Tame strict s t.thermalBoundary := by
  unfold State.thermalBoundary
  extract_lets s1 s2 s2' s3 s4 s5 s6
  have h2 : Tame strict s s2' := (h.thermalAges.foldl fun _ _ hu => hu.bandStep).foldl fun _ _ hu => hu.stileWake
  have h4 : Tame strict s s4 := (h2.foldl fun _ _ hu => hu.fenceStep).foldl fun _ _ hu => hu.demandStep
  have h5 : Tame strict s s5 := h4.foldl fun _ _ hu => hu.stileRail
  exact ite (h5.foldl fun _ _ hu => hu.optFfStep).requestSweeps.wrB h5.wr

/-! ## Hurdles -/

theorem clampPackage (h : Tame strict s t) : Tame strict s t.clampPackage :=
  h.wr.wr.wr.wr

theorem applyCap (h : Tame strict s t) : Tame strict s t.applyCap :=
  ite h.wr.wr.wr (ite h.wrB.wr.wr h.wrB.wr.wr)

theorem latchPower (h : Tame strict s t) : Tame strict s t.latchPower :=
  ite h.wr.wr.wr.wr.wr.clearElems (ite (h.wr.wr.wr.wr.wr.when (fun _ hu => hu.wr.wr)).inc.wr.wr h.wr.wr.wr.wr.wr.inc.wr)

theorem limiter (h : Tame strict s t) : Tame strict s t.limiter :=
  h.wr

theorem effectives (h : Tame strict s t) : Tame strict s t.effectives :=
  ite (h.foldl (fun _ _ hu => hu.wr)) h

theorem throttleStep (h : Tame strict s t) {force : Bool} {f : Nat} : Tame strict s (t.throttleStep force f) := by
  unfold State.throttleStep
  split
  · exact ite h.wr.wr.wr.wr.guard h.wr.wr.wr.wr

theorem throttles (h : Tame strict s t) {force : Bool} : Tame strict s (t.throttles force) :=
  h.foldl (fun _ _ hu => hu.throttleStep)

/-! ## Grants and the ledger -/

theorem nextGen (h : Tame strict s t) {a : Nat} : Tame strict s (t.nextGen a) :=
  h.st

theorem sendFoldParam (h : Tame strict s t) {f flat cost : Nat} : Tame strict s (t.sendFoldParam f flat cost) :=
  ite h.wr.wr.sendOrd h.wr.wr

theorem foldParamNow (h : Tame strict s t) {f : Nat} : Tame strict s (t.foldParamNow f) :=
  h.sendFoldParam

theorem sendRound (h : Tame strict s t) {f : Nat} : Tame strict s (t.sendRound f) :=
  ite (h.foldl (fun _ _ hu => hu.sendOrd)).sendOrd h

theorem computeFold (h : Tame strict s t) {f : Nat} : Tame strict s (t.computeFold f) :=
  (h.foldl (fun _ _ hu => hu.st)).wr

theorem digestTest (h : Tame strict s t) {kind : Nat} {eq : Bool} : Tame strict s (t.digestTest kind eq) :=
  ite h (ite h.wr (h.wr.when (fun _ hu => hu.wr)))

theorem compareDigests (h : Tame strict s t) {own peer : Fld} {i kind : Nat} {values : State → List Msg}
    (ho : strict = true → own.calm = true := by exact fun _ => rfl)
    (hp : strict = true → peer.calm = true := by exact fun _ => rfl) :
    Tame strict s (t.compareDigests own peer i kind values) := by
  unfold State.compareDigests
  extract_lets a b s1 s2 s3
  have h1 : Tame strict s s1 := ((h.wr ho).wr hp).digestTest
  have h2 : Tame strict s s2 := ite h1.wr.freeStep h1.wr
  have h3 : Tame strict s s3 := h2.wr.wr.fault
  exact ite h (ite h1 (ite (h3.foldl fun _ _ hu => hu.send) h3))

theorem ownDigest (h : Tame strict s t) {own peer : Fld} {i kind crc : Nat} {op : BulkOp} {values : State → List Msg}
    (ho : strict = true → own.calm = true := by exact fun _ => rfl)
    (hp : strict = true → peer.calm = true := by exact fun _ => rfl) :
    Tame strict s (t.ownDigest own peer i kind crc op values) :=
  ite ((h.wr ho).send.compareDigests ho hp) h

theorem execGrantRound : Goes strict s (execGrantRound s) :=
  (ite (((((refl strict s).wr.wr.wr.wr.clearFlds.foldl (fun _ _ hu => hu.computeFold)).wr.nextGen.foldl (fun _ _ hu =>
    (hu.when (fun _ hu1 => hu1.foldParamNow)).sendRound)).when (fun _ hu => hu.wr)).wr.when (fun _ hu => hu.send)).ownDigest
    (refl strict s)).go

theorem noteApplied (h : Tame strict s t) {fold : Nat} {m : RoundAckMsg} : Tame strict s (t.noteApplied fold m) :=
  h.when (fun _ hu => hu.wr.wr)

theorem execRoundAck {fold : Nat} {m : RoundAckMsg} : Goes strict s (execRoundAck fold m s) :=
  (ite (refl strict s) (ite (refl strict s).noteApplied (ite (ite (refl strict s).noteApplied.wr.wr.wr.wr.foldParamNow (ite
    (refl strict s).noteApplied.wr.wr.wr.wr.inc.foldParamNow.fault
    (refl strict s).noteApplied.wr.wr.wr.wr.wr.foldParamNow.sendRound)) (refl strict s).noteApplied.wr.wr.wr))).go

theorem flatStep (h : Tame strict s t) {due : Bool} {f : Nat} : Tame strict s (State.flatStep due t f) :=
  ite h.wr.wr.foldParamNow (ite h.wr.wr.sendFoldParam (ite h.wr.wr.sendFoldParam.wr h.wr.wr))

theorem sendRevert (h : Tame strict s t) {f : Nat} : Tame strict s (t.sendRevert f) :=
  ite (h.wr.wr.sendOrd.when (fun _ hu => hu.wr)) h.wr

theorem revertStep (h : Tame strict s t) {f : Nat} : Tame strict s (t.revertStep f) :=
  ite h.sendRevert.wr h

theorem sendWeights (h : Tame strict s t) : Tame strict s t.sendWeights :=
  ite h.sendOrd h

theorem commitGrants (h : Tame strict s t) : Tame strict s t.commitGrants :=
  h.wr.sendWeights

theorem openBank (h : Tame strict s t) {k p : Nat} : Tame strict s (t.openBank k p) :=
  ((h.wr.wr.wr.clearElems.foldl (fun _ _ hu => hu.clearElems)).foldl (fun _ _ hu => hu.wr)).stBytes

theorem execLedgerPeriodStart : Goes strict s (execLedgerPeriodStart s) := by
  unfold Machine.execLedgerPeriodStart
  exact (ite (ite (show Tame strict s _ from by
    split
    · exact (refl strict s).wr.wr.wr.openBank
    · exact (refl strict s).wr.openBank
    · exact (refl strict s).wr.inc
    · exact (refl strict s).wr).sendOrd (show Tame strict s _ from by
    split
    · exact (refl strict s).wr.wr.wr.openBank
    · exact (refl strict s).wr.openBank
    · exact (refl strict s).wr.inc
    · exact (refl strict s).wr)) (refl strict s)).go

theorem inexact (h : Tame strict s t) {k r : Nat} : Tame strict s (t.inexact k r) :=
  h.wr.wr.st

theorem dmaAdd (h : Tame strict s t) {a : Nat} : Tame strict s (t.dmaAdd a) :=
  h.when (fun _ hu => hu.wr.inc)

theorem execUsage {m : UsageMsg} : Goes strict s (execUsage m s) := by
  unfold Machine.execUsage
  exact (ite (refl strict s) (show Tame strict s _ from by
    split
    · exact (refl strict s)
    · exact ite (((ite (refl strict s).dmaAdd.dmaRead.dmaRead.inexact (refl strict s).dmaAdd.dmaRead.dmaRead.st.st).when
        (fun _ hu => hu.inexact)).when (fun _ hu => hu.wr)).wr.st (((ite (refl strict s).dmaAdd.dmaRead.dmaRead.inexact
        (refl strict s).dmaAdd.dmaRead.dmaRead.st.st).when (fun _ hu => hu.inexact)).when (fun _ hu => hu.wr)).inc)).go

theorem execUsageEnd {fold period count : Nat} : Goes strict s (execUsageEnd fold period count s) := by
  unfold Machine.execUsageEnd
  exact (ite (refl strict s) (show Tame strict s _ from by
    split
    · exact (refl strict s).inc
    · exact (refl strict s))).go

theorem execBankReady {bank : Nat} : Goes strict s (execBankReady bank s) :=
  (ite ((refl strict s).wr.foldl (fun _ _ hu => hu.inexact)) (refl strict s)).go

theorem releaseBank (h : Tame strict s t) {k : Nat} : Tame strict s (t.releaseBank k) :=
  ite h.wr.stBytes h

theorem execRelease {w : WCtx} {bank : Nat} : Goes strict s (execRelease w bank s) :=
  ((refl strict s).judged (fun _ hu => hu.releaseBank)).go

theorem learnHeft (h : Tame strict s t) {q charge : Nat} : Tame strict s (t.learnHeft q charge) :=
  ite h.st.st h

theorem bookQueue (h : Tame strict s t) {k q c : Nat} {inexact : Bool} : Tame strict s (t.bookQueue k q c inexact) :=
  h.st.st.learnHeft.wr

theorem learnIdle (h : Tame strict s t) {k r e frames : Nat} : Tame strict s (t.learnIdle k r e frames) :=
  ite h h.wr

theorem addShared (h : Tame strict s t) {r e : Nat} : Tame strict s (t.addShared r e) :=
  h.st

theorem shareEnergy (h : Tame strict s t) {r e : Nat} : Tame strict s (t.shareEnergy r e) :=
  h.addShared.wr

theorem bookRail (h : Tame strict s t) {k r : Nat} : Tame strict s (t.bookRail k r) :=
  ite (h.shareEnergy.learnIdle.foldl (fun _ _ hu => hu.bookQueue)) (h.foldl (fun _ _ hu => hu.bookQueue)).shareEnergy.wr

theorem execBankBooking {bank : Nat} : Goes strict s (execBankBooking bank s) :=
  (ite ((refl strict s).foldl (fun _ _ hu => hu.bookRail)).wr.nextGen.ownDigest.releaseBank (refl strict s)).go

theorem countSent (h : Tame strict s t) {e : Endpoint} : Tame strict s (t.countSent e) := by
  unfold State.countSent
  split
  · exact h.wr
  · exact h

theorem countNobuf (h : Tame strict s t) {e : Endpoint} : Tame strict s (t.countNobuf e) := by
  unfold State.countNobuf
  split
  · exact h.inc
  · exact h

theorem abandon (h : Tame strict s t) {e : Endpoint} : Tame strict s (t.abandon e) := by
  unfold State.abandon
  split
  · exact h.inc.fault
  · exact h.inc.fault
  · exact h.inc.fault
  · exact h.inc.fault
  · exact h.inc

theorem execMeshCompletion {msg mask : Nat} : Goes strict s (execMeshCompletion msg mask s) := by
  unfold Machine.execMeshCompletion
  exact (show Tame strict s _ from by
    split
    · exact (refl strict s)
    · exact ite ((((refl strict s).foldl (fun _ _ hu => hu.countSent)).foldl (fun _ _ hu => hu.countNobuf)).other.foldl
        (fun _ _ hu => hu.abandon)) (((refl strict s).foldl (fun _ _ hu => hu.countSent)).foldl
        (fun _ _ hu => hu.countNobuf)).other).go

theorem execMeshRetry {msg : Nat} : Goes strict s (execMeshRetry msg s) := by
  unfold Machine.execMeshRetry
  exact (show Tame strict s _ from by
    split
    · exact (refl strict s)
    · exact ite (refl strict s).other (refl strict s).other.inc.send).go

theorem execCreditReturn {endpoint : Nat} : Goes strict s (execCreditReturn endpoint s) := by
  unfold Machine.execCreditReturn
  exact (ite (refl strict s) (show Tame strict s _ from by
    split
    · exact (refl strict s).wr
    · exact ite (refl strict s).wr.other.sendRes1 (refl strict s).wr.other)).go

theorem markThrottles (h : Tame strict s t) : Tame strict s t.markThrottles := by
  unfold State.markThrottles
  split
  · exact h
  · exact h.wr

theorem ledgerBoundary (h : Tame strict s t) : Tame strict s t.ledgerBoundary := by
  unfold State.ledgerBoundary
  exact (show Tame strict s _ from by
    split
    · exact h.foldl (fun _ _ hu => hu.wr)
    · exact ((h.foldl (fun _ _ hu => hu.wr)).foldl (fun _ _ hu => hu.st)).wr.st).foldl (fun _ _ hu => ite hu.inc hu)

theorem roundBoundary (h : Tame strict s t) : Tame strict s t.roundBoundary :=
  h.wr.when (fun _ hu => hu.wr)

theorem foldParams (h : Tame strict s t) : Tame strict s t.foldParams :=
  ((h.foldl (fun _ _ hu => hu.flatStep)).foldl (fun _ _ hu => hu.revertStep)).wr

theorem grantsBoundary (h : Tame strict s t) : Tame strict s t.grantsBoundary := by
  unfold State.grantsBoundary
  extract_lets m s0
  have h0 : Tame strict s s0 := h.other
  exact (ite h0 h0.foldParams).roundBoundary.ledgerBoundary

/-! ## The twin -/

theorem copyStep (h : Tame strict s t) : Tame strict s t.copyStep :=
  ite (ite (h.foldl (fun _ _ hu => hu.dmaRead)).wr ((h.foldl (fun _ _ hu => hu.dmaRead)).foldl (fun _ _ hu => hu.send)).wr) h.wr

theorem takeSlot (h : Tame strict s t) {slot integ : Nat} {states : List Nat} : Tame strict s
    (t.takeSlot slot integ states) := by
  unfold State.takeSlot
  split
  · exact (h.wr.foldl (fun _ _ hu => hu.wr)).wr.wrB
  · exact h.wr.foldl (fun _ _ hu => hu.wr)

theorem takeSchedule (h : Tame strict s t) {f lastSeq : Nat} {valid : Bool} {es : List
    (Int × Nat × IntentMsg)} : Tame strict s (t.takeSchedule f lastSeq valid es) :=
  h.other.wr.wrB

theorem takeSiteState (h : Tame strict s t) {k st : Nat} : Tame strict s (t.takeSiteState k st) :=
  h.wr.wrB

theorem keepSnap (h : Tame strict s t) {p : PdSnap} : Tame strict s (t.keepSnap p) :=
  ((h.foldl (fun _ _ hu => hu.wr.wr)).foldl (fun _ _ hu => hu.wr.wr)).wr

theorem setPhases (h : Tame strict s t) {st cp : Nat → Nat} : Tame strict s (t.setPhases st cp) :=
  (h.foldl (fun _ _ hu => hu.wr.wr.wr)).foldl (fun _ _ hu => hu.rerank.refreshDuty)

theorem loadSnap (h : Tame strict s t) : Tame strict s t.loadSnap :=
  ite ((h.setPhases.foldl (fun _ _ hu => hu.wr.wr)).foldl (fun _ _ hu => hu.wr.wr)).wr.wr h

theorem execOutputStage : Goes strict s (execOutputStage s) :=
  (ite (((refl strict s).when (fun _ hu => hu.wr.injected)).wr.when (fun _ hu => hu.send.when
    (fun _ hu1 => hu1.injected))).copyStep (refl strict s).copyStep).go

theorem mismatch (h : Tame strict s t) {p : OutputPkt} {l : Nat} : Tame strict s (t.mismatch p l) :=
  (h.when (fun _ hu => hu.wr.wr.wr.wr)).wr.inc.wr.wr.wr.wr.wr.fault.when (fun _ hu => hu.wr.wr)

theorem compareSlots (h : Tame strict s t) {p : OutputPkt} : Tame strict s (t.compareSlots p) :=
  ite ((h.foldl (fun _ _ hu => hu.mismatch)).foldl (fun _ _ hu => hu.goldCommit)).inc ((h.foldl
    (fun _ _ hu => hu.mismatch)).foldl (fun _ _ hu => hu.goldCommit)).wr

theorem takeHolderOut (h : Tame strict s t) {p : OutputPkt} : Tame strict s (t.takeHolderOut p) :=
  ite (h.foldl (fun _ _ hu => hu.when (fun _ hu1 => hu1.wr.wr))) h

theorem compareSnap (h : Tame strict s t) {p : OutputPkt} : Tame strict s (t.compareSnap p) := by
  unfold State.compareSnap
  split
  · exact ite h (ite h.keepSnap h.keepSnap.inc)
  · exact h

theorem execTwinOutputPacket {p : OutputPkt} : Goes strict s (execTwinOutputPacket p s) :=
  (ite (refl strict s).inc (ite (refl strict s).compareSlots.wr (refl strict s)).takeHolderOut.compareSnap).go

theorem nextRole (h : Tame strict s t) {r : Nat} : Tame strict s (t.nextRole r) :=
  ite h h.wr

theorem rejoinTest (h : Tame strict s t) {role : Nat} : Tame strict s (t.rejoinTest role) :=
  ite ((h.when (fun _ hu => hu.wr)).when (fun _ hu => hu.wr)) h

theorem execTwinStatusPacket {p : StatusPkt} : Goes strict s (execTwinStatusPacket p s) :=
  (ite (refl strict s).inc (((((refl strict s).wr.wr.wr.wr.wr.wrB.clearElems.wrB.wrB.when (fun _ hu => hu.wr.wr)).when
    (fun _ hu => hu.wr)).when (fun _ hu => hu.nextRole)).when (fun _ hu => hu.nextRole)).rejoinTest).go

theorem execMeshTwinStatus {_p : MeshStatus} : Goes strict s (execMeshTwinStatus _p s) :=
  (refl strict s).wr.wr.wr.go

theorem execPeerReadyLapse : Goes strict s (execPeerReadyLapse s) :=
  (ite (refl strict s).wr (refl strict s)).go

theorem execLinkDown : Goes strict s (execLinkDown s) :=
  (ite (refl strict s).wr.fault (refl strict s)).go

theorem execPeerSilent : Goes strict s (execPeerSilent s) :=
  (ite (refl strict s).wr.fault (refl strict s)).go

theorem idCount (h : Tame strict s t) {ch : Nat} {differs : Bool} : Tame strict s (t.idCount ch differs) :=
  h.wr

theorem compareInputs (h : Tame strict s t) {p : InputPkt} : Tame strict s (t.compareInputs p) :=
  (h.wr.foldl (fun _ _ hu => hu.idCount)).foldl (fun _ _ hu => hu.idCount)

theorem idStep (h : Tame strict s t) : Tame strict s t.idStep :=
  ite h.wr h.clearFld

theorem formStep (h : Tame strict s t) : Tame strict s t.formStep := by
  unfold State.formStep
  extract_lets s1 s2 s3 s4
  have h1 : Tame strict s s1 := h.when fun _ hu => hu.bwCurrents
  have h2 : Tame strict s s2 := h1.when fun _ hu => hu.latchPower.limiter
  have h3 : Tame strict s s3 := h2.when fun _ hu => hu.wrB.foldl fun _ _ hv => hv.railBoundary
  have h4 : Tame strict s s4 := (h3.when fun _ hu => hu.thermalBoundary).when fun _ hu => hu.crookBoundary
  exact h4.effectives.when fun _ hu => hu.markThrottles.throttles.grantsBoundary

theorem formLate (h : Tame strict s t) : Tame strict s t.formLate :=
  (h.when (fun _ hu => hu.runSet)).formStep.wr

theorem takeInputs (h : Tame strict s t) {p : InputPkt} : Tame strict s (t.takeInputs p) :=
  (((h.wr.wr.foldl (fun _ _ hu => hu.wr.wrB)).foldl (fun _ _ hu => hu.latchRail)).wrAll.foldl
    (fun _ _ hu => hu.wr.wr.wr.wr)).foldl (fun _ _ hu => hu.diodeReading)

theorem execTwinInputPacket {p : InputPkt} : Goes strict s (execTwinInputPacket p s) :=
  (ite (refl strict s).inc (ite ((refl strict s).when (fun _ hu => hu.compareInputs)).takeInputs.formLate (refl strict s))).go

theorem settleForm (h : Tame strict s t) : Tame strict s t.settleForm :=
  ite (h.when (fun _ hu => hu.wr.inc.wr)).formLate h

theorem execInputNotWhole : Goes strict s (execInputNotWhole s) :=
  (refl strict s).settleForm.go

theorem execLoopWindow : Goes strict s (execLoopWindow s) :=
  (refl strict s).settleForm.loopWindow.go

theorem execBellwetherEval {errs : List WeightErr} : Goes strict s (execBellwetherEval errs s) :=
  (refl strict s).settleForm.evalNets.go

theorem execInputDisagreement {rail : Bool} {ch : Nat} : Goes strict s (execInputDisagreement rail ch s) :=
  (ite (refl strict s).wr.wr.wr.wr.wr.raise.wr.wr.send (refl strict s)).go

theorem channelVerdicts (h : Tame strict s t) {i own : Nat} : Tame strict s (t.channelVerdicts i own) :=
  ite h (ite (h.wr.wr.when (fun _ hu => hu.wr)) h.wr)

theorem peerVerdict (h : Tame strict s t) {n : Nat} {v : TestVerdict} : Tame strict s (t.peerVerdict n v) := by
  unfold State.peerVerdict
  split
  · exact h.wr.channelVerdicts
  · exact ite h.wr h

theorem takeBulk (h : Tame strict s t) {op : BulkOp} : Tame strict s (t.takeBulk op) := by
  unfold State.takeBulk
  split
  · exact ite (h.takeSlot.when (fun _ hu => hu.wr)) h
  · exact ite h.keepSnap h
  · exact ite h.takeSchedule h
  · exact ite (h.foldl (fun _ _ hu => hu.takeSiteState)) h
  · exact ite h.stBytes h
  · exact ite h.wr h
  · exact ite h.wr h
  · exact ite h h.wr.compareDigests
  · exact ite h h.wr.compareDigests
  · exact ite (h.foldl (fun _ _ hu => hu.when (fun _ hu1 => hu1.st))) h
  · exact ite h.wr h
  · exact h.peerVerdict
  · split
    · exact h.startTest.wr.wr
    · exact h
  · exact ite h.diodeReading h

theorem execTwinBulkPacket {p : BulkPkt} : Goes strict s (execTwinBulkPacket p s) :=
  (ite (refl strict s).inc (refl strict s).takeBulk).go

theorem execCatchUpComplete : Goes strict s (execCatchUpComplete s) :=
  (ite (refl strict s).nextRole (refl strict s)).go

theorem execCleanFramesReached : Goes strict s (execCleanFramesReached s) :=
  (ite (refl strict s).nextRole (refl strict s)).go

theorem driversOff (h : Tame strict s t) : Tame strict s t.driversOff :=
  (h.foldl (fun _ _ hu => hu.pwm)).wr

theorem driversOn (h : Tame strict s t) : Tame strict s t.driversOn :=
  h.wr.foldl (fun _ _ hu => hu.pwm)

theorem dropGate (h : Tame strict s t) : Tame strict s t.dropGate :=
  h.driversOff.stopSending.wr.wr.wr.wr.clearElems

theorem execKeeperGateDrop {cause : KeeperCause} : Goes strict s (execKeeperGateDrop cause s) := by
  unfold Machine.execKeeperGateDrop
  exact (ite (show Tame strict s _ from by
    split
    · exact ite (refl strict s).dropGate (refl strict s)
    · exact ite (refl strict s).dropGate (refl strict s)
    · exact (refl strict s).dropGate
    · exact (refl strict s).dropGate) (refl strict s)).go

theorem execGatePeerFall : Goes strict s (execGatePeerFall s) :=
  (refl strict s).wr.go

theorem execGateRaise : Goes strict s (execGateRaise s) :=
  (ite (refl strict s).wr (refl strict s)).go

theorem execGateResample : Goes strict s (execGateResample s) :=
  (ite (refl strict s) (ite (refl strict s).wr (ite (refl strict s).setPhases (refl strict s)).driversOn)).go

theorem goldAct (h : Tame strict s t) {l : Nat} {holderPass standbyPass : Bool} :
    Tame strict s (t.goldAct l holderPass standbyPass) := by
  unfold State.goldAct
  extract_lets hold s1
  have h1 : Tame strict s s1 := h.wr.wr
  have hhold : Tame strict s (hold s1) := h1.wr.wr
  split
  · exact h1
  · exact ite h1 h1.nextRole
  · exact ite (ite h1.wr.wr h1) hhold
  · exact hhold

theorem execGoldenVerdict {slot : Nat} {holderPass standbyPass : Bool} : Goes strict s
    (execGoldenVerdict slot holderPass standbyPass s) :=
  (ite (refl strict s).goldAct (refl strict s)).go

theorem execSwap {w : WCtx} : Goes strict s (execSwap w s) :=
  ((refl strict s).judged (fun _ hu => hu.stageCmd)).go

theorem execTwinAttach {w : WCtx} : Goes strict s (execTwinAttach w s) :=
  ((refl strict s).judged (fun _ hu => hu.stageCmd)).go

theorem execTwinDetach {w : WCtx} : Goes strict s (execTwinDetach w s) :=
  ((refl strict s).judged (fun _ hu => hu.stageCmd)).go

theorem keeperCount (h : Tame strict s t) : Tame strict s t.keeperCount :=
  ite h.wr h.wr

theorem setRole (h : Tame strict s t) {r : Nat} : Tame strict s (t.setRole r) :=
  (h.wr.wr.when (fun _ hu => hu.clearElems)).when (fun _ hu => hu.driversOff.wr.wr)

theorem commitDetach (h : Tame strict s t) : Tame strict s t.commitDetach :=
  ite h.wr.wr (h.when (fun _ hu => hu.setRole)).wr

theorem joinStep (h : Tame strict s t) : Tame strict s t.joinStep :=
  h.when (fun _ hu => hu.setRole)

theorem roleStep (h : Tame strict s t) : Tame strict s t.roleStep :=
  ite h.wr.setRole h.wr.joinStep

theorem gateTestFailed (h : Tame strict s t) : Tame strict s t.gateTestFailed :=
  ite h.clearElems.wr.fault (ite h.fault.setRole h)

theorem handOver (h : Tame strict s t) {gateFail : Bool} : Tame strict s (t.handOver gateFail) :=
  ite h.gateTestFailed (ite h (ite (h.clearElems.driversOff.stopSending.wr.wr.wr.when (fun _ hu => hu.wr)).wr h.clearElems.wr))

theorem takeover (h : Tame strict s t) : Tame strict s t.takeover :=
  ite (((((h.clearFld.clearElems.wr.foldl (fun _ _ hu => hu.when (fun _ hu1 => hu1.wr.wr.wr))).inc.wr.foldl
    (fun _ _ hu => hu.when (fun _ hu1 => hu1.deratePhase))).throttles.foldl (fun _ _ hu => hu.threshStep)).foldl
    (fun _ _ hu => hu.when (fun _ hu1 => hu1.guard))).sendFrameSync.when (fun _ hu => hu.wr.fault)).tally h

theorem twinAges (h : Tame strict s t) : Tame strict s t.twinAges :=
  (h.wr.wr.wr.when (fun _ hu => hu.wr.wr.wr)).when (fun _ hu => hu.wr)

theorem twinSend (h : Tame strict s t) : Tame strict s t.twinSend :=
  (ite h.send.send.send h.send.send).clearFld.clearElems

/-! ## The faults block -/

theorem execProbeReply {token source : Nat} : Goes strict s (execProbeReply token source s) :=
  (ite ((refl strict s).wr.when (fun _ hu => hu.wr)) (refl strict s)).go

theorem probeStep (h : Tame strict s t) {n : Nat} : Tame strict s (t.probeStep n) := by
  unfold State.probeStep
  split
  · exact h
  · exact ite h ((ite h.sendOrd.wr h).when (fun _ hu => hu.wr))

theorem giveVerdict (h : Tame strict s t) {n : Nat} {v : TestVerdict} : Tame strict s (t.giveVerdict n v) := by
  unfold State.giveVerdict
  split
  · exact (ite h.applyVerdict.send h.applyVerdict).channelVerdicts
  · exact ite h.applyVerdict.send h.applyVerdict

theorem execTestVerdict {source : Nat} {verdict : TestVerdict} : Goes strict s (execTestVerdict source verdict s) := by
  unfold Machine.execTestVerdict
  exact (ite (show Tame strict s _ from by
    split
    · exact (refl strict s).giveVerdict
    · exact (refl strict s)) (refl strict s)).go

theorem execTestTimeLimit {source : Nat} : Goes strict s (execTestTimeLimit source s) :=
  (ite ((refl strict s).when (fun _ hu => hu.wr)).giveVerdict (refl strict s)).go

theorem execQuietExpiry {source : Nat} : Goes strict s (execQuietExpiry source s) :=
  (ite (refl strict s) (ite (refl strict s).toClear (ite (refl strict s).startTest.enterState (refl strict s)))).go

theorem severeAct (h : Tame strict s t) {n : Nat} : Tame strict s (t.severeAct n) := by
  unfold State.severeAct
  split
  · exact h.wr.wr
  · exact ite h.fencePhase h
  · exact ite h.wr h
  · exact h

theorem execEscalationSevere {source : Nat} : Goes strict s (execEscalationSevere source s) :=
  (ite (refl strict s).wr.wr.enterState.srcRecord.severeAct (refl strict s)).go

theorem execWindowExpiry {source : Nat} : Goes strict s (execWindowExpiry source s) :=
  (ite (refl strict s).wr (refl strict s)).go

theorem putCommand (h : Tame strict s t) {action n : Nat} : Tame strict s (t.putCommand action n) :=
  h.wr.wr

theorem execClearSource {w : WCtx} {source : Nat} : Goes strict s (execClearSource w source s) :=
  ((refl strict s).judgedAt (fun _ hu => hu.putCommand.stage)).go

theorem execRunSourceTest {w : WCtx} {source : Nat} : Goes strict s (execRunSourceTest w source s) :=
  ((refl strict s).judgedAt (fun _ hu => hu.putCommand.stage)).go

theorem commitClear (h : Tame strict s t) {n : Nat} : Tame strict s (t.commitClear n) :=
  ite h.wr.endTest.toClear.wr.wr h.wr

theorem commitRun (h : Tame strict s t) {n : Nat} : Tame strict s (t.commitRun n) := by
  unfold State.commitRun
  split
  · exact h.wr.startTest
  · exact h.wr.startTest.enterState
  · exact h.wr.startTest.enterState
  · exact h.wr.startTest
  · exact h.wr

theorem execRejectClr {w : WCtx} : Goes strict s (execRejectClr w s) :=
  ((refl strict s).judged (fun _ hu => hu.wr)).go

theorem execFaultInjectArm {w : WCtx} {arm : Bool} {target index count : Nat} : Goes strict s
    (execFaultInjectArm w arm target index count s) :=
  ((refl strict s).judgedAt (fun _ hu => hu.stageAll)).go

theorem execProofTestScPeriodic {phase : Nat} {ok : Bool} : Goes strict s (execProofTestScPeriodic phase ok s) :=
  (ite (ite (refl strict s).fencePhase (refl strict s).wr.fault) (refl strict s)).go

theorem diodeProofFail (h : Tame strict s t) {ch : Nat} : Tame strict s (t.diodeProofFail ch) :=
  h.wr.wrAll.fault

theorem execProofTestDiodePeriodic {ch : Nat} {ok : Bool} : Goes strict s (execProofTestDiodePeriodic ch ok s) :=
  (ite (refl strict s).diodeProofFail (refl strict s)).go

theorem execProofTestSitePeriodic {paddock : Nat} : Goes strict s (execProofTestSitePeriodic paddock s) :=
  ((refl strict s).foldl (fun _ _ hu => hu.wr.wr)).go

theorem testTick (h : Tame strict s t) {n : Nat} : Tame strict s (t.testTick n) := by
  unfold State.testTick
  split
  · exact ite h.wr.wr h.wr
  · exact h.wr
  · exact h.wr.probeStep

theorem quietTick (h : Tame strict s t) {n : Nat} : Tame strict s (t.quietTick n) := by
  unfold State.quietTick
  split
  · exact h.wr
  · exact h.wr
  · exact h

theorem faultTicks (h : Tame strict s t) {ms : Bool} : Tame strict s (t.faultTicks ms) :=
  ite (((h.foldl (fun _ _ hu => hu.quietTick)).foldl (fun _ _ hu => hu.testTick)).foldl (fun _ _ hu => hu.wr)) ((h.foldl
    (fun _ _ hu => hu.quietTick)).foldl (fun _ _ hu => hu.testTick))

/-! ## Clocks -/

theorem showRec (h : Tame strict s t) : Tame strict s t.showRec :=
  h.wrB

theorem switchRef (h : Tame strict s t) {r : Nat} : Tame strict s (t.switchRef r) :=
  ite h h.wr.wr.inc.tally

theorem takeHighest (h : Tame strict s t) : Tame strict s t.takeHighest := by
  unfold State.takeHighest
  split
  · exact h.switchRef
  · exact h

theorem execReferenceLost {src : Nat} : Goes strict s (execReferenceLost src s) := by
  unfold Machine.execReferenceLost
  exact (ite (refl strict s) (ite (show Tame strict s _ from by
    split
    · exact (refl strict s).wr
    · exact (refl strict s).wr).showRec.takeHighest (show Tame strict s _ from by
    split
    · exact (refl strict s).wr
    · exact (refl strict s).wr).showRec)).go

theorem execRelockDone : Goes strict s (execRelockDone s) :=
  (refl strict s).wr.go

theorem xAmp_calm (x : Nat) : (xAmp x).calm = true := by unfold xAmp; split <;> rfl

theorem xFail_calm (x : Nat) : (xFail x).calm = true := by unfold xFail; split <;> rfl

theorem execCrystalAmplitudePass {x : Nat} : Goes strict s (execCrystalAmplitudePass x s) :=
  go (ite (((refl strict s).wr fun _ => xAmp_calm x).wr fun _ => xFail_calm x).wr (refl strict s))

theorem execCrystalStartTimeout {x : Nat} : Goes strict s (execCrystalStartTimeout x s) :=
  go (ite ((refl strict s).wr fun _ => xFail_calm x).wr (refl strict s))

theorem execCrystalRestart {x : Nat} : Goes strict s (execCrystalRestart x s) :=
  (ite (refl strict s).wr (refl strict s)).go

theorem execCrystalDetectorFail {x : Nat} : Goes strict s (execCrystalDetectorFail x s) := by
  have hidle := ((refl strict s).wr (f := xAmp x) (i := 0) (v := 0) fun _ => xAmp_calm x).wr (f := H.CLK_XIDLE) (i := x)
    (v := 0)
  exact go (ite (ite hidle.takeHighest hidle) (refl strict s))

theorem countedGood (h : Tame strict s t) {src : Nat} : Tame strict s (t.countedGood src) :=
  h.when (fun _ hu => hu.wr)

theorem execAutoReturn {src : Nat} : Goes strict s (execAutoReturn src s) :=
  (ite (refl strict s).countedGood.switchRef (refl strict s)).go

theorem execHostLinkTrained : Goes strict s (execHostLinkTrained s) :=
  (refl strict s).wr.showRec.go

theorem refStep (h : Tame strict s t) : Tame strict s t.refStep :=
  ite (h.when (fun _ hu => hu.wr)).switchRef (ite (h.when (fun _ hu => hu.wr)).takeHighest (h.when (fun _ hu => hu.wr)))

theorem beginSwitch (h : Tame strict s t) {ds : List Nat} {forced coarse : Bool} : Tame strict s
    (t.beginSwitch ds forced coarse) :=
  h.foldl (fun _ _ hu => hu.wr.wrB.wrB)

theorem fallBack (h : Tame strict s t) {d : Nat} {forced : Bool} : Tame strict s (t.fallBack d forced) :=
  ite h (ite (h.when (fun _ hu => hu.fault)) (ite h.fault (h.foldl (fun _ _ hu => hu.wr.wr)).beginSwitch.nmiAll.inc.fault))

theorem execClockEdgeLost {dom : Nat} : Goes strict s (execClockEdgeLost dom s) :=
  (refl strict s).fallBack.go

theorem execFrequencyFailure {dom : Nat} : Goes strict s (execFrequencyFailure dom s) :=
  (refl strict s).fallBack.go

theorem execFrcBad : Goes strict s (execFrcBad s) :=
  (ite (refl strict s).wr.fault.takeHighest (refl strict s).wr.fault).go

theorem execSlowBad : Goes strict s (execSlowBad s) :=
  (refl strict s).wr.go

theorem doReturn (h : Tame strict s t) {d : Nat} : Tame strict s (t.doReturn d) :=
  (h.foldl (fun _ _ hu => hu.wr)).beginSwitch

theorem execDomainReturn {dom : Nat} : Goes strict s (execDomainReturn dom s) :=
  (ite (refl strict s).doReturn (refl strict s)).go

theorem execDomainSwitchDone {dom lostNs : Nat} : Goes strict s (execDomainSwitchDone dom lostNs s) :=
  (ite ((refl strict s).foldl (fun _ _ hu => hu.clearElems)).wrB.wr.wrB.wr.tally (refl strict s)).go

theorem execForcedStop {dom : Nat} : Goes strict s (execForcedStop dom s) :=
  (ite ((refl strict s).foldl (fun _ _ hu => hu.wr)).wr (refl strict s)).go

theorem execGo {w : WCtx} {dom : Nat} : Goes strict s (execGo w dom s) :=
  ((refl strict s).judged (fun _ hu => hu.wr.doReturn)).go

theorem execClkEnWrite {w : WCtx} {v : Nat} : Goes strict s (execClkEnWrite w v s) :=
  ((refl strict s).judged (fun _ hu => hu.wr)).go

theorem putDiv (h : Tame strict s t) {v : Nat} : Tame strict s (t.putDiv v) :=
  ((h.when (fun _ hu => hu.beginSwitch)).when (fun _ hu => hu.beginSwitch)).wr.wr

theorem execClkDivWrite {w : WCtx} {v : Nat} : Goes strict s (execClkDivWrite w v s) :=
  ((refl strict s).judgedAt (fun _ hu => hu.putDiv)).go

/-! ## Resets -/

theorem clearHidden (h : Tame strict s t) {k : Nat} : Tame strict s (t.clearHidden k) :=
  h.clearRange fun _ => by simp; omega

theorem clearRegs (h : Tame strict s t) {lo hi : Nat}
    (hr : strict = true → (decide (hi ≤ 0x1D0000) || decide (0x1D1000 ≤ lo)) = true := by exact fun _ => rfl) :
    Tame strict s (t.clearRegs lo hi) :=
  h.clearRange fun hs => by have := hr hs; simp at this ⊢; omega

theorem keep (h : Tame strict s t) {s' : State} {fs : List (Fld × Nat)}
    (hf : strict = true → ∀ x ∈ fs, x.1.calm = true := by exact fun _ => by decide) : Tame strict s (t.keep s' fs) :=
  h.foldlMem fun _ x hx hu => hu.wr fun hs => hf hs x hx

theorem dropForecasts (h : Tame strict s t) : Tame strict s t.dropForecasts :=
  h.clearFlds

theorem stopMap (h : Tame strict s t) : Tame strict s t.stopMap :=
  h.clearElems.clearFld.dropForecasts.other

theorem closeWindow (h : Tame strict s t) : Tame strict s t.closeWindow :=
  h.clearElems

theorem resetTwin (h : Tame strict s t) : Tame strict s t.resetTwin :=
  (ite h.dropGate h).stopSending.clearRegs.clearHidden.keep.wrB.wr

theorem resetLe (h : Tame strict s t) : Tame strict s t.resetLe :=
  (ite h.dropGate h).clearFlds.clearFlds.clearHidden.stopMap

theorem resetCrook (h : Tame strict s t) : Tame strict s t.resetCrook :=
  h.clearRegs.clearFlds

theorem resetThermal (h : Tame strict s t) : Tame strict s t.resetThermal :=
  h.clearRegs.clearHidden.keep

theorem resetBlock (h : Tame strict s t) : Tame strict s t.resetBlock := by
  have hkept : ∀ x ∈ keptByBlock.flatMap (fun f => (t.touched f).map (fun i => (f, i))), x.1.calm = true := by
    intro x hx
    simp only [List.mem_flatMap, List.mem_map] at hx
    obtain ⟨f, hf, i, -, rfl⟩ := hx
    exact List.all_eq_true.1 (show keptByBlock.all Fld.calm = true from rfl) f hf
  unfold State.resetBlock
  have hwipe := (((((h.resetTwin.clearRegs (lo := 0x110000) (hi := 0x140000)).clearHidden (k := 1)).resetCrook.clearRegs
    (lo := 0x160000) (hi := 0x1A0000)).clearHidden (k := 4)).resetThermal.clearRegs (lo := 0x1B0000)
      (hi := 0x1C0000)).clearHidden (k := 6)
  have hrest := ((((hwipe.clearRegs (lo := 0x1F0000) (hi := 0x200000)).clearHidden (k := 10)).clearRegs (lo := 0x210000)
    (hi := 0x220000)).clearHidden (k := 12)).stopMap.closeWindow.clearElems
      (fs := [H.TOP_BOOT_ON, R.STATUS_SAFE_GOV, R.TALLY_STAT_FLUSHING]) (i := 0)
  exact ((hrest.keep fun _ => hkept).ofFifo (q := []) fun _ => Nat.zero_le 64).other

/-- A state at reset, but for what no reset takes away, meets the invariant whatever came before. -/
theorem bare (h : Tame false s t) : Tame false s t.bare :=
  h.trans ⟨rfl, rfl, List.suffix_rfl, fun _ => ⟨rfl, Memory.wf_nil, Nat.zero_le _, Nat.zero_le _, Nat.zero_le _, Nat.zero_le
    _⟩, fun hs => by cases hs⟩

theorem resetPor (h : Tame false s t) : Tame false s t.resetPor :=
  h.bare.keep.keep.wr

theorem execKeepPowerUp : Goes false s (execKeepPowerUp s) :=
  ((refl false s).bare.when (fun _ hu => hu.inc)).go

theorem execPorAssert : Goes false s (execPorAssert s) :=
  (refl false s).resetPor.go

theorem assertBlock (h : Tame strict s t) {cause : Fld} (hc : strict = true → cause.calm = true := by exact fun _ => rfl) :
    Tame strict s (t.assertBlock cause) :=
  h.resetBlock.wr.wr hc

theorem execHoldNLow {ns : Nat} : Goes strict s (execHoldNLow ns s) :=
  (ite (refl strict s) (ite (ite (refl strict s).freeStep.assertBlock (refl strict s).freeStep) (refl strict s).assertBlock)).go

theorem commandLe (h : Tame strict s t) : Tame strict s t.commandLe :=
  h.resetLe.wr.wr

theorem commandTwin (h : Tame strict s t) : Tame strict s t.commandTwin :=
  h.resetTwin.wr.wr

theorem execRstLe {w : WCtx} : Goes strict s (execRstLe w s) :=
  ((refl strict s).judged (fun _ hu => hu.stageCmd)).go

theorem execRstTwin {w : WCtx} : Goes strict s (execRstTwin w s) :=
  ((refl strict s).judged (fun _ hu => hu.stageCmd)).go

theorem execRstBlock {w : WCtx} : Goes strict s (execRstBlock w s) :=
  ((refl strict s).judged (fun _ hu => hu.stageCmd)).go

theorem resetHart (h : Tame strict s t) {k : Nat} : Tame strict s (t.resetHart k) :=
  h.wr.wr.inc.clearElems.when (fun _ hu => hu.closeWindow)

theorem commandHart (h : Tame strict s t) {k : Nat} : Tame strict s (t.commandHart k) :=
  h.resetHart.wr

theorem execRstHart {w : WCtx} {hart : Nat} : Goes strict s (execRstHart w hart s) :=
  ((refl strict s).judged (fun _ hu => hu.stageCmd)).go

theorem resetsDue (h : Tame strict s t) : Tame strict s t.resetsDue :=
  ((((h.when (fun _ hu => hu.wr.commandLe)).when (fun _ hu => hu.wr.commandTwin)).foldl (fun _ _ hu => hu.when
    (fun _ hu1 => hu1.wr.commandHart))).when (fun _ hu => hu.wr.assertBlock)).wr

theorem checkFails (h : Tame strict s t) {k : Nat} : Tame strict s (t.checkFails k) :=
  h.wr.wr.wr.when (fun _ hu => hu.wr)

theorem noKick (h : Tame strict s t) {k : Nat} : Tame strict s (t.noKick k) :=
  (h.when (fun _ hu => hu.checkFails)).wr

theorem execWatchdogExpiry {hart : Nat} : Goes strict s (execWatchdogExpiry hart s) :=
  (ite (refl strict s).noKick.resetHart.wr.fault (refl strict s)).go

theorem kick (h : Tame strict s t) {k : Nat} : Tame strict s (t.kick k) :=
  (h.when (fun _ hu => hu.wr)).wr

theorem execKick {w : WCtx} {hart : Nat} : Goes strict s (execKick w hart s) :=
  ((refl strict s).judged (fun _ hu => hu.kick)).go

theorem execSelfReset {w : WCtx} {hart : Nat} : Goes strict s (execSelfReset w hart s) :=
  ((refl strict s).judged (fun _ hu => hu.commandHart)).go

theorem answerCmd (h : Tame strict s t) {r status r0 r1 : Nat} : Tame strict s (t.answerCmd r status r0 r1) :=
  h.postCpl.wr.wr

theorem finishCmd (h : Tame strict s t) {r status r0 r1 : Nat} : Tame strict s (t.finishCmd r status r0 r1) :=
  ite h.answerCmd h.wr.wr.wr.wr

theorem postDue (h : Tame strict s t) {r : Nat} : Tame strict s (t.postDue r) :=
  ite h.wr.answerCmd h

theorem profileEnd (h : Tame strict s t) {status : Nat} : Tame strict s (t.profileEnd status) :=
  h.foldl (fun _ _ hu => hu.when (fun _ hu1 => hu1.finishCmd))

theorem abortRings (h : Tame strict s t) : Tame strict s t.abortRings :=
  h.foldl (fun _ _ hu => hu.when (fun _ hu1 => hu1.wr.finishCmd))

theorem startHart (h : Tame strict s t) {k : Nat} : Tame strict s (t.startHart k) :=
  h.wr.when (fun _ hu => hu.drainEvents)

theorem restartHart (h : Tame strict s t) {k : Nat} : Tame strict s (t.restartHart k) :=
  (h.startHart.when (fun _ hu => hu.wr)).when (fun _ hu => hu.abortRings)

theorem execRestartCheckDone {hart : Nat} {ok : Bool} : Goes strict s (execRestartCheckDone hart ok s) :=
  (ite (ite (refl strict s).wr.restartHart (refl strict s).wr.checkFails) (refl strict s)).go

theorem execHartSleep {hart : Nat} : Goes strict s (execHartSleep hart s) :=
  (ite (refl strict s).wr (refl strict s)).go

theorem wakeHart (h : Tame strict s t) {k : Nat} : Tame strict s (t.wakeHart k) :=
  ite h.wr h

theorem execHartWake {hart : Nat} : Goes strict s (execHartWake hart s) :=
  (ite (refl strict s).wakeHart (refl strict s)).go

theorem execShedWindowEnd {hart load : Nat} : Goes strict s (execShedWindowEnd hart load s) :=
  (ite (refl strict s) (ite (refl strict s).wr.wr.wr (ite (ite (refl strict s).wr.wr.wr (refl strict s).wr.wr)
    (refl strict s).wr.wr))).go

theorem execResetRelease : Goes strict s (execResetRelease s) :=
  ((((refl strict s).when (fun _ hu => hu.wr.wr)).foldl (fun _ _ hu => hu.wr.when (fun _ hu1 => hu1.wr))).when
    (fun _ hu => hu.clearElems)).go

/-! ## The commit of a map or a profile -/

theorem commitRailCfg (h : Tame strict s t) {r : Rec} : Tame strict s (t.commitRailCfg r) :=
  h.wr.wr.wr.wr.wr.wr

theorem dropRail (h : Tame strict s t) {r : Nat} : Tame strict s (t.dropRail r) :=
  (h.when (fun _ hu => hu.railOff)).clearElems.clearElems.wrAll.wrAll

theorem commitPhase (h : Tame strict s t) {old : Machine.State} {rs : List Rec} {p : Nat} : Tame strict s
    (old.commitPhase rs t p) := by
  unfold State.commitPhase
  split
  · exact ite h.wr.wr.wr.wr h
  · exact ite h h.pwm.clearElems

theorem commitTopology (h : Tame strict s t) {l : List Rec} : Tame strict s (t.commitTopology l) :=
  (((h.foldl (fun _ _ hu => hu.dropRail)).foldl (fun _ _ hu => hu.commitRailCfg)).foldl (fun _ _ hu => hu.commitPhase)).foldl
    (fun _ _ hu => (hu.when (fun _ hu1 => hu1.railOff)).rerank.refreshDuty)

theorem commitSetpoints (h : Tame strict s t) {r : Rec} : Tame strict s (t.commitSetpoints r) :=
  h.wrAll

theorem commitSafe (h : Tame strict s t) {r : Rec} : Tame strict s (t.commitSafe r) :=
  h.wr.wr.wr

theorem commitLimits (h : Tame strict s t) {r : Rec} : Tame strict s (t.commitLimits r) :=
  h.wr.wr.wr.wr

theorem commitPd (h : Tame strict s t) {kind : CommitKind} {l : List Rec} : Tame strict s (t.commitPd kind l) :=
  (((h.when (fun _ hu => hu.commitTopology)).foldl (fun _ _ hu => hu.commitSetpoints)).when (fun _ hu => hu.foldl
    (fun _ _ hu1 => hu1.commitSafe))).foldl (fun _ _ hu => hu.commitLimits)

theorem putStage (h : Tame strict s t) {k : Nat} {g : Stage} : Tame strict s (t.putStage k g) :=
  h.wr.wr.wr.wr.wr.wr

theorem putProgram (h : Tame strict s t) {base : Nat} {r : Rec} : Tame strict s (t.putProgram base r) :=
  (h.foldl (fun _ _ hu => hu.putStage)).wr.wr

theorem presetDue (h : Tame strict s t) {l : Nat} : Tame strict s (t.presetDue l) :=
  h.wr.wr

theorem commitSlot (h : Tame strict s t) {old : Machine.State} {kind : CommitKind} {r : Rec} : Tame strict s
    (old.commitSlot kind t r) :=
  ite ((ite (h.wr.wr.wr.wr.wr.wr.wr.when (fun _ hu => hu.wr)).wr.wr.wr.clearElems (h.wr.wr.wr.wr.wr.wr.wr.when
    (fun _ hu => hu.wr)).wr.wr.wr.clearElems.wr.wr.wr).wr.wr.when (fun _ hu => hu.wr.wr.when (fun _ hu1 => hu1.wr))).wr.wr
    (ite ((ite (h.wr.wr.wr.wr.wr.wr.wr.when (fun _ hu => hu.wr)).wr.wr.wr.clearElems (h.wr.wr.wr.wr.wr.wr.wr.when
    (fun _ hu => hu.wr)).wr.wr.wr.clearElems.wr.wr.wr).wr.wr.when (fun _ hu => hu.wr.wr.when (fun _ hu1 => hu1.wr))).wr
    ((((ite (h.wr.wr.wr.wr.wr.wr.wr.when (fun _ hu => hu.wr)).wr.wr.wr.clearElems (h.wr.wr.wr.wr.wr.wr.wr.when
    (fun _ hu => hu.wr)).wr.wr.wr.clearElems.wr.wr.wr).wr.wr.when (fun _ hu => hu.wr.wr.when (fun _ hu1 => hu1.wr))).wr.when
    (fun _ hu => hu.wr)).when (fun _ hu => hu.presetDue)))

theorem commitGolden (h : Tame strict s t) {old new : List Rec} {l : Nat} : Tame strict s (State.commitGolden old new t l) :=
  ite h h.wr.wr.wrB

theorem endGolden (h : Tame strict s t) {l : Nat} : Tame strict s (t.endGolden l) :=
  ite h.applyVerdict.wr.wr h

theorem commitTable (h : Tame strict s t) {r : Rec} : Tame strict s (t.commitTable r) :=
  h.wr.foldl (fun _ _ hu => hu.wr.wr)

theorem commitPackage (h : Tame strict s t) {r : Rec} : Tame strict s (t.commitPackage r) :=
  h.wr.wr.wr.wr.wr.wr

theorem commitFold (h : Tame strict s t) {r : Rec} : Tame strict s (t.commitFold r) :=
  h.wr.wr

theorem commitLe (h : Tame strict s t) {kind : CommitKind} {l : List Rec} : Tame strict s (t.commitLe kind l) := by
  have hpool {v : State} (hv : Tame strict s v) (k : Nat) (rs : List Rec) :
      Tame strict s (rs.foldl (fun (x : State × Nat) (r : Rec) => (x.1.putProgram x.2 r, x.2 + r.u8 10)) (v, k)).1 := by
    induction rs generalizing v k with
    | nil => exact hv
    | cons r rs ih => exact ih hv.putProgram _
  have hgold := h.foldl (xs := List.range 256) (g := State.endGolden) fun _ _ hu => hu.endGolden
  unfold State.commitLe
  exact (((((hpool ((hgold.foldl fun _ _ hu => hu.clearElems).clearFlds) 0 _).foldl fun _ _ hu => hu.commitSlot).foldl
    fun _ _ hu => hu.commitTable).foldl fun _ _ hu => hu.commitPackage).foldl fun _ _ hu => hu.commitFold).foldl
      fun _ _ hu => hu.commitGolden

theorem commitCrook (h : Tame strict s t) {old : Machine.State} {kind : CommitKind} {l : List Rec} : Tame strict s
    (t.commitCrook old kind l) :=
  (h.clearFlds.foldl (fun _ _ hu => hu.wr.wr.wr)).foldl (fun _ _ hu => hu.when (fun _ hu1 => hu1.wr.when (fun _ hu2 => hu2.wr)))

theorem commitLayer (h : Tame strict s t) {wb bb : Nat} {r : Rec} : Tame strict s (t.commitLayer wb bb r) :=
  (h.wr.wr.wr.wr.wr.foldl (fun _ _ hu => hu.wr)).foldl (fun _ _ hu => hu.wr)

theorem commitBw (h : Tame strict s t) {l : List Rec} : Tame strict s (t.commitBw l) := by
  have hlayers {v : State} (hv : Tame strict s v) (a b : Nat) (rs : List Rec) :
      Tame strict s (rs.foldl (fun (x : State × Nat × Nat) (r : Rec) => (x.1.commitLayer x.2.1 x.2.2 r,
        pad4 (x.2.1 + r.u16 8 * r.u16 10), (x.2.2 + r.u16 10 + 1) / 2 * 2)) (v, a, b)).1 := by
    induction rs generalizing v a b with
    | nil => exact hv
    | cons r rs ih => exact ih hv.commitLayer _ _
  unfold State.commitBw
  exact ((hlayers h.clearFlds 0 0 _).foldl fun _ _ hu => hu.wrAll).wr.wr.dropFolds

theorem commitPaddock (h : Tame strict s t) {l : List Rec} {r : Rec} : Tame strict s (State.commitPaddock l t r) := by
  unfold State.commitPaddock
  exact (show Tame strict s _ from by
    split
    · exact h.wr.wr.wr.wr.wr.wr
    · exact h.wr.wr.wr.wr).foldl (fun _ _ hu => hu.wr.when (fun _ hu1 => hu1.wr))

theorem commitThermal (h : Tame strict s t) {l : List Rec} : Tame strict s (t.commitThermal l) :=
  (((((((h.clearFlds.foldl (fun _ _ hu => hu.clearElems)).foldl (fun _ _ hu => hu.when
    (fun _ hu1 => hu1.wr.clearElems))).foldl (fun _ _ hu => hu.commitPaddock)).foldl (fun _ _ hu => hu.wr.wr)).wrAll.foldl
    (fun _ _ hu => hu.wr.wr.wr)).foldl (fun _ _ hu => hu.wr.wr)).foldl (fun _ _ hu => hu.sendOptAllow)).foldl
    (fun _ _ hu => hu.recount)

theorem commitHeft (h : Tame strict s t) {kind : CommitKind} {l ovr : List Rec} {q : Nat} : Tame strict s
    (State.commitHeft kind l ovr t q) := by
  unfold State.commitHeft
  split
  · split
    · exact ite h h.st
    · exact h
  · exact h.st

theorem commitTables (h : Tame strict s t) {kind : CommitKind} {m : MapImg} {p : Nat} : Tame strict s
    (t.commitTables kind m p) :=
  ((h.foldl (fun _ _ hu => hu.commitHeft)).when (fun _ hu => hu.clearFld)).commitGrants

theorem stRegions (h : Tame strict s t) {b : List Byte} {l : List (Nat × Nat)} : Tame strict s (t.stRegions b l) := by
  induction l generalizing t b with
  | nil => exact h
  | cons x l ih => exact ih h.stBytes

theorem putShadows (h : Tame strict s t) {m : MapImg} {p : Nat} : Tame strict s (t.putShadows m p) :=
  h.stRegions

theorem commitMark (h : Tame strict s t) {kind : CommitKind} {l : List Rec} {p : Nat} : Tame strict s
    (t.commitMark kind l p) := by
  unfold State.commitMark
  exact (show Tame strict s _ from by
    split
    · exact h.wr.wr.wr.wr.wr.wr.wr.wrB.wrB
    · exact h.wr.wr.wr.wr.wr.clearElems
    · exact h.wr.wr.wr.wr.wr.wr).tally

theorem commitEcho (h : Tame strict s t) : Tame strict s t.commitEcho :=
  h.clearFlds.wr.foldl (fun _ _ hu => hu.when (fun _ hu1 => hu1.wr))

theorem commitMap (h : Tame strict s t) {kind : CommitKind} {m : MapImg} {p : Nat} : Tame strict s (t.commitMap kind m p) :=
  (ite (h.commitPd.commitLe.commitBw.commitThermal.other.commitMark.foldl
    (fun _ _ hu => hu.showMax)).commitCrook.commitTables.putShadows.other
    (h.commitPd.commitLe.commitBw.commitThermal.other.commitMark.foldl
    (fun _ _ hu => hu.showMax)).commitCrook.commitTables.putShadows).when (fun _ hu => hu.clearFld.commitEcho)

/-! ## Harts -/

theorem setStep (h : Tame strict s t) {n : Nat} : Tame strict s (t.setStep n) :=
  h.wr.wr

theorem bootRecord (h : Tame strict s t) {sev : Nat} : Tame strict s (t.bootRecord sev) :=
  h.tally

theorem stopBoot (h : Tame strict s t) {err : Nat} : Tame strict s (t.stopBoot err) :=
  h.wr.setStep.wr.wr.bootRecord

theorem safeGovernor (h : Tame strict s t) {err : Nat} : Tame strict s (t.safeGovernor err) :=
  ite h.wr h.wr.setStep.wr.wr.wr.wr.wrAll.bootRecord

/-! ## Enabling and reconfiguration -/

theorem clearLoader (h : Tame strict s t) : Tame strict s t.clearLoader :=
  h.other

theorem loadEnd (h : Tame strict s t) {status r0 : Nat} : Tame strict s (t.loadEnd status r0) :=
  ite h.finishCmd h

theorem recordRefusal (h : Tame strict s t) {r : Refuse} : Tame strict s (t.recordRefusal r) := by
  unfold State.recordRefusal
  exact (show Tame strict s _ from by
    split
    · exact h.wr.wr.wr
    · exact h.wr.wr).tally

theorem startPrep (h : Tame strict s t) : Tame strict s t.startPrep :=
  h.wr.wr.wr

theorem heldProfile (h : Tame strict s t) : Tame strict s t.heldProfile :=
  ite (ite h.wr.wr.profileEnd (ite h.wr.profileEnd h.wr.startPrep)) h

theorem sendMirror (h : Tame strict s t) {op : MirrorOp} : Tame strict s (t.sendMirror op) :=
  h.send

theorem refuseMap (h : Tame strict s t) {r : Refuse} : Tame strict s (t.refuseMap r) :=
  ite ((h.recordRefusal.clearLoader.loadEnd.clearElems.when (fun _ hu => hu.sendMirror)).when (fun _ hu => hu.wr)).heldProfile
    (ite h.recordRefusal.clearLoader.loadEnd.wr.wr.wr (ite h.recordRefusal.clearLoader.loadEnd.wr.wr.safeGovernor
    h.recordRefusal.clearLoader.loadEnd.wr.wr))

theorem startLoader (h : Tame strict s t) : Tame strict s t.startLoader := by
  unfold State.startLoader
  split
  · exact h.clearLoader.wr.wr.wr.wr.refuseMap
  · exact h.clearLoader.wr.wr.wr.wr

theorem runWord (h : Tame strict s t) {keep src : Bool} {ring : Nat} : Tame strict s (t.runWord keep src ring) :=
  h.wrB.wrB.wr

theorem enable (h : Tame strict s t) : Tame strict s t.enable :=
  ite h.wr.wr.clearFlds.wr.startLoader h

theorem disable (h : Tame strict s t) {w : WCtx} : Tame strict s (t.disable w) :=
  ite h.refuseMap (ite h.wr.dropForecasts.stage h)

theorem beginReload (h : Tame strict s t) : Tame strict s t.beginReload :=
  ite h.recordRefusal h.clearElems.wr.wrB.startLoader

theorem askReload (h : Tame strict s t) {w : WCtx} : Tame strict s (t.askReload w) :=
  ite h.beginReload h.mirrorOut.beginReload

theorem mirroredReload (h : Tame strict s t) {v : Nat} : Tame strict s (t.mirroredReload v) :=
  ite h.beginReload.wrB.sendMirror h.runWord.beginReload

theorem execEnSet {w : WCtx} {keep src : Bool} {ring : Nat} : Goes strict s (execEnSet w keep src ring s) :=
  ((refl strict s).judged (fun _ hu => hu.runWord.enable)).go

theorem execEnClear {w : WCtx} : Goes strict s (execEnClear w s) :=
  ((refl strict s).judged (fun _ hu => hu.disable)).go

theorem execReload {w : WCtx} {keep src : Bool} {ring : Nat} : Goes strict s (execReload w keep src ring s) :=
  (((refl strict s).when (fun _ hu => hu.runWord)).judged (fun _ hu => hu.askReload)).go

theorem nameCommit (h : Tame strict s t) {k : Nat} : Tame strict s (t.nameCommit k) :=
  h.wr.when (fun _ hu => hu.sendMirror)

theorem tryName (h : Tame strict s t) {k : Nat} : Tame strict s (t.tryName k) :=
  ite h (ite h (ite h h.nameCommit))

theorem admitMap (h : Tame strict s t) {m : MapImg} : Tame strict s (t.admitMap m) :=
  ite (h.other.wr.wr.when (fun _ hu => hu.sendMirror)).tryName (ite (h.other.clearElems.wr.foldl
    (fun _ _ hu => hu.startHart)).setStep h.other)

theorem execMapCheckDone {psc : PscAnswer} : Goes strict s (execMapCheckDone psc s) := by
  unfold Machine.execMapCheckDone
  exact (ite (show Tame strict s _ from by
    split
    · exact (refl strict s).refuseMap
    · exact (refl strict s).admitMap
    · exact (refl strict s)) (refl strict s)).go

theorem execLoaderStall : Goes strict s (execLoaderStall s) :=
  (ite (refl strict s).refuseMap (refl strict s)).go

theorem execStandbyReloadTimeout : Goes strict s (execStandbyReloadTimeout s) :=
  (ite (refl strict s).nameCommit (refl strict s)).go

theorem requestProfile (h : Tame strict s t) {p : Nat} : Tame strict s (t.requestProfile p) :=
  ite h.wr.wr (ite h.wr h.wr.startPrep)

theorem writeProfile (h : Tame strict s t) {w : WCtx} {p : Nat} : Tame strict s (t.writeProfile w p) :=
  (h.judged (fun _ hu => hu.requestProfile.mirrorOut)).when (fun _ hu => hu.wr)

theorem execProfileReq {w : WCtx} {p : Nat} : Goes strict s (execProfileReq w p s) :=
  (refl strict s).writeProfile.go

theorem execProfilePrepDone {frames : Nat} : Goes strict s (execProfilePrepDone frames s) :=
  (ite ((refl strict s).wr.wr.when (fun _ hu => hu.sendMirror)) (refl strict s)).go

theorem execWardenWindowOpen {tokenOk : Bool} {frames : Nat} : Goes strict s (execWardenWindowOpen tokenOk frames s) :=
  (ite (refl strict s).wr.wr (refl strict s)).go

theorem execWardenWindowExpiry : Goes strict s (execWardenWindowExpiry s) :=
  (ite (refl strict s).closeWindow (refl strict s)).go

theorem writeCapBmc (h : Tame strict s t) {w : WCtx} {v : Nat} : Tame strict s (t.writeCapBmc w v) :=
  h.judged (fun _ hu => hu.stage.mirrorOut)

theorem execCapBmcWrite {w : WCtx} {v : Nat} : Goes strict s (execCapBmcWrite w v s) :=
  (refl strict s).writeCapBmc.go

theorem stageFor (h : Tame strict s t) {boundary : Nat} {a : StagedAct} : Tame strict s (t.stageFor boundary a) :=
  h.other

theorem mirrorWrite (h : Tame strict s t) {k off v : Nat} : Tame strict s (t.mirrorWrite k off v) :=
  ite (h.when (fun _ hu => hu.mirroredReload)) (ite h.stageFor (ite h.wr.stageFor (ite h.stageFor (ite h.stageFor (ite
    (h.foldl (fun _ _ hu => ite hu.stageFor (ite hu.stageFor hu))) h)))))

theorem takeCommitAt (h : Tame strict s t) {k : Nat} : Tame strict s (t.takeCommitAt k) :=
  ite h (ite h.clearLoader.clearElems.nextRole (ite h.wr h))

theorem mirroredProfile (h : Tame strict s t) {q : Nat} : Tame strict s (t.mirroredProfile q) :=
  ite h.requestProfile (ite h.sendMirror h.nextRole)

theorem dropProfile (h : Tame strict s t) : Tame strict s t.dropProfile :=
  ite h h.clearElems.wr

theorem takeMirror (h : Tame strict s t) {p : MirrorPkt} : Tame strict s (t.takeMirror p) := by
  unfold State.takeMirror
  split
  · exact h.mirrorWrite
  · exact h.mirroredProfile
  · exact ite h h.wr
  · exact h.dropProfile
  · exact ite h.wr.tryName h
  · exact ite h.wr.tryName (ite h.refuseMap h.wr)
  · exact h.takeCommitAt

theorem execTwinMirrorPacket {p : MirrorPkt} : Goes strict s (execTwinMirrorPacket p s) :=
  (ite (refl strict s).inc (ite (refl strict s).takeMirror (refl strict s))).go

theorem commitDue (h : Tame strict s t) : Tame strict s t.commitDue := by
  unfold State.commitDue
  split
  · exact ite (h.when (fun _ hu => hu.clearElems)).commitMap.loadEnd (ite (h.when
      (fun _ hu => hu.clearElems)).commitMap.loadEnd.heldProfile (h.when (fun _ hu => hu.clearElems)))
  · split
    · exact ite (h.when (fun _ hu => hu.clearElems)).commitMap.profileEnd (h.when (fun _ hu => hu.clearElems))
    · exact h.when (fun _ hu => hu.clearElems)

theorem reloadStep (h : Tame strict s t) : Tame strict s t.reloadStep :=
  ite h (ite h.refuseMap (ite h.wr.tryName h))

/-! ## The Tally -/

theorem placeRecord (h : Tame strict s t) {q : TallyReq} : Tame strict s (t.placeRecord q) := by
  unfold State.placeRecord
  split
  · exact h.inc
  · exact ite h.dmaRead.inc (h.stBytes.st.wr.when (fun _ hu => hu.wr))

theorem flushStep (h : Tame strict s t) : Tame strict s t.flushStep :=
  ite h.other.wr.wr.wr h

theorem askFlush (h : Tame strict s t) : Tame strict s t.askFlush :=
  h.wr.flushStep

theorem execTallyFlushDone {ok : Bool} : Goes strict s (execTallyFlushDone ok s) := by
  unfold Machine.execTallyFlushDone
  exact (show Tame strict s _ from by
    split
    · exact (refl strict s)
    · exact ite (refl strict s) (ite (refl strict s).other.wr.other.wr.wr (refl strict s).other.wr.wr.fault).flushStep).go

theorem execTallyFlushPeriodic : Goes strict s (execTallyFlushPeriodic s) :=
  (refl strict s).askFlush.go

theorem execFlush {w : WCtx} : Goes strict s (execFlush w s) :=
  ((refl strict s).judged (fun _ hu => hu.askFlush)).go

theorem execTallyRecordPlace : Goes strict s (execTallyRecordPlace s) := by
  unfold Machine.execTallyRecordPlace
  refine go ?_
  split
  · exact refl strict s
  · next hq =>
    exact ((refl strict s).ofQueues (fun hl => by rw [hq] at hl; exact Nat.le_of_succ_le hl) id).placeRecord.flushStep

theorem submitRecord (h : Tame strict s t) {v : Nat} : Tame strict s (t.submitRecord v) :=
  h.tally

theorem execSubmit {w : WCtx} {v : Nat} : Goes strict s (execSubmit w v s) :=
  ((refl strict s).judgedAt (fun _ hu => hu.submitRecord)).go

theorem execOperatingSecondTick : Goes strict s (execOperatingSecondTick s) :=
  (refl strict s).inc.go

theorem restoreTally (h : Tame strict s t) {flash : Bool} : Tame strict s (t.restoreTally flash) := by
  have hcells (l : List Host.Cell) (m : List Host.Cell) (hm : Memory.wf m) :
      Memory.wf (l.foldl (fun (m : List Host.Cell) (c : Host.Cell) => memPut m c.1 c.2) m) := by
    induction l generalizing m with
    | nil => exact hm
    | cons c l ih => exact ih _ (memPut_wf c.1 c.2 hm)
  have hstaged {v : State} (hv : Tame strict s v) : Tame strict s
      { t.tallyStage.foldl (fun (t : State) (q : TallyReq) => t.placeRecord q) (v.wr R.TALLY_STAT_RESTORED 0 1) with
        tallyStage := [] } :=
    (hv.wr.foldl fun _ _ hu => hu.placeRecord).ofQueues id fun _ => Nat.zero_le 64
  unfold State.restoreTally
  refine hstaged ?_
  split
  · exact (h.ofStore fun hw => hcells _ _ (Memory.wf_filter _ hw)).wr.wr.inc.wr.wr.wr.wr.wr
  · exact h.wr.wr

/-! ## The start-up sequence -/

theorem enableClock (h : Tame strict s t) {b : Nat} : Tame strict s (t.enableClock b) :=
  h.wr

theorem startSequence (h : Tame strict s t) {block : Bool} : Tame strict s (t.startSequence block) :=
  h.clearElems.wrB.wr.wr.enableClock

theorem execSequenceStart : Goes strict s (execSequenceStart s) :=
  (ite (refl strict s).startSequence.wr (ite (refl strict s).startSequence (refl strict s))).go

theorem execRomStepDone {ok factory : Bool} : Goes strict s (execRomStepDone ok factory s) :=
  (ite (ite (refl strict s).setStep (refl strict s).wrB.enableClock.setStep) (refl strict s)).go

theorem calibClocks (h : Tame strict s t) {loops monitors : List Nat} : Tame strict s (t.calibClocks loops monitors) :=
  (h.wr.foldl (fun _ _ hu => ite ((hu.when (fun _ hu1 => hu1.wr)).when (fun _ hu1 => hu1.wr)) ((hu.when
    (fun _ hu1 => hu1.wr)).when (fun _ hu1 => hu1.wr)).wr.beginSwitch)).foldl (fun _ _ hu => hu.fault)

theorem calibSense (h : Tame strict s t) {c : CalibResult} : Tame strict s (t.calibSense c) :=
  ((h.foldl (fun _ _ hu => hu.wr.fault)).foldl (fun _ _ hu => hu.wr.fault)).foldl (fun _ _ hu => hu.diodeProofFail)

theorem execCalibDone {c : CalibResult} : Goes strict s (execCalibDone c s) :=
  (ite (ite (refl strict s).stopBoot (ite (refl strict s).calibClocks.stopBoot
    (refl strict s).calibClocks.calibSense.setStep)) (refl strict s)).go

theorem retireRow (h : Tame strict s t) {row : Nat} : Tame strict s (t.retireRow row) :=
  ite h h.wr.wr

theorem startImage (h : Tame strict s t) : Tame strict s t.startImage :=
  h.clearElems.enableClock.setStep

theorem execStoreInitDone {failedRows : List Nat} : Goes strict s (execStoreInitDone failedRows s) := by
  have h := refl strict s
  have hrows := (((h.ofStore (m := []) fun _ => Memory.wf_nil).clearFlds
    (fs := [H.STORE_ECC, H.STORE_FROW, H.GL_SHARED_RES])).foldl
    (xs := (failedRows.filter (fun r => decide (r < 4096))).dedup.take 16) (g := State.retireRow) fun _ _ hu => hu.retireRow).wr
      (f := R.BOOT_ROWS_RETIRED) (i := 0) (v := min 255 (failedRows.filter (fun r => decide (r < 4096))).dedup.length)
  exact go (ite (ite h.startImage (ite hrows.stopBoot hrows.startImage)) h)

theorem loadSegments (h : Tame strict s t) {bs : List Byte} {codeOnly : Bool} : Tame strict s (t.loadSegments bs codeOnly) :=
  (h.foldl (fun _ _ hu => hu.stBytes)).foldl (fun _ _ hu => hu.st)

theorem showImage (h : Tame strict s t) {bs : List Byte} : Tame strict s (t.showImage bs) :=
  h.wr.wr.wr.wr.wr

/-- The compensator words of a rail lie in the Phase Driver's block. -/
theorem compFields_calm {r k : Nat} (hr : r < 14) (hk : k < 3) {x : Fld × Nat}
    (hx : x ∈ wordFields (R.PD_RAIL_COMP0_KPM.word r + 4 * k)) : x.1.calm = true := by
  have hoff : (R.PD_RAIL_COMP0_KPM.word r + 4 * k) / 0x10000 = 0x14 := by
    simp only [Fld.word, Fld.key, R.PD_RAIL_COMP0_KPM]
    omega
  simp only [wordFields, List.mem_flatMap, List.mem_filterMap, Option.ite_none_right_eq_some, Option.some.injEq] at hx
  obtain ⟨f, hf, i, -, -, rfl⟩ := hx
  simp only [fieldsNear, fieldsAt, hoff] at hf
  exact List.all_eq_true.1 (show fieldsOf_pd.all Fld.calm = true from rfl) f hf

theorem putComp (h : Tame strict s t) {r : Nat} {x : Nat × Nat} (hr : r < 14) (hk : x.2 < 3) : Tame strict s (t.putComp r x) :=
  ite h (h.foldlMem fun _ _ hy hu => hu.wr fun _ => compFields_calm hr hk hy)

theorem boardEntries_length {bs : List Byte} {e : Nat × List Nat} (he : e ∈ boardEntries bs) : e.2.length = 3 := by
  unfold boardEntries at he
  dsimp only at he
  split at he
  · cases he
  · obtain ⟨k, -, rfl⟩ := List.mem_map.1 he
    simp

theorem railPresent_lt {z : Bool} {r : Nat} (h : railPresent z r = true) : r < 14 := by
  unfold railPresent at h
  cases z <;> simp at h <;> omega

theorem boardValues (h : Tame strict s t) {bs : List Byte} : Tame strict s (t.boardValues bs) := by
  refine h.foldlMem fun u e he hu => hu.foldlMem fun v x hx hv => ?_
  obtain ⟨hmem, hrail⟩ := List.mem_filter.1 he
  refine hv.putComp (railPresent_lt hrail) ?_
  have := List.snd_lt_of_mem_zipIdx hx
  rwa [boardEntries_length hmem] at this

theorem runImage (h : Tame strict s t) : Tame strict s t.runImage :=
  (h.wr.wr.foldl (fun _ _ hu => hu.startHart)).setStep

theorem refuseImage (h : Tame strict s t) {bs : List Byte} {reason : Nat} {codeOnly : Bool} : Tame strict s
    (t.refuseImage bs reason codeOnly) :=
  (h.when (fun _ hu => hu.loadSegments)).wr

theorem runUpload (h : Tame strict s t) {psc : PscAnswer} : Tame strict s (t.runUpload psc) :=
  ite h.wr.other.finishCmd.loadSegments.showImage.wr.boardValues.runImage h.wr.other.refuseImage.wr.finishCmd

theorem execImageVerified {answers : Bool} {psc : PscAnswer} : Goes strict s (execImageVerified answers psc s) :=
  (ite (ite ((refl strict s).when (fun _ hu => hu.restoreTally)).loadSegments.showImage.boardValues.runImage
    ((refl strict s).when (fun _ hu => hu.restoreTally)).refuseImage.safeGovernor) (ite (refl strict s).runUpload (ite
    (refl strict s) (ite ((refl strict s).clearFld.loadSegments.showImage.foldl (fun _ _ hu => hu.restartHart))
    (refl strict s).clearFld.refuseImage)))).go

theorem endSequence (h : Tame strict s t) : Tame strict s t.endSequence :=
  h.setStep.wr.wr.wr

theorem governStart (h : Tame strict s t) : Tame strict s t.governStart :=
  ite ((h.wr.setStep.clearElems.wrB.clearFld.foldl (fun _ _ hu => hu.wr.threshStep)).commitGrants.foldl
    (fun _ _ hu => hu.sendOptAllow)).throttles h.wr.setStep.clearElems.wrB

theorem decideRole (h : Tame strict s t) {digest : Nat} {peerStarting gateFail : Bool} : Tame strict s
    (t.decideRole digest peerStarting gateFail) :=
  ite (ite h.nextRole.endSequence h.wr.endSequence.bootRecord) (ite h.fault.wr.endSequence.bootRecord (ite h.wr (h.when
    (fun _ hu => hu.fault)).governStart))

theorem execRoleDecision {peerStarting gateFail : Bool} : Goes strict s (execRoleDecision peerStarting gateFail s) := by
  unfold Machine.execRoleDecision
  exact (ite (show Tame strict s _ from by
    split
    · exact (refl strict s).decideRole
    · exact (refl strict s)) (refl strict s)).go

theorem execBWaitExpiry {gateFail : Bool} : Goes strict s (execBWaitExpiry gateFail s) := by
  unfold Machine.execBWaitExpiry
  exact (ite (show Tame strict s _ from by
    split
    · exact (refl strict s).decideRole
    · exact (refl strict s)) (refl strict s)).go

theorem groupDone (h : Tame strict s t) : Tame strict s t.groupDone :=
  ite (ite h.wr.wr.setStep h.wr) h

theorem rampRail (h : Tame strict s t) {scFails sg2Fails : List Nat} {r : Nat} : Tame strict s
    (t.rampRail scFails sg2Fails r) :=
  ite (h.foldl (fun _ _ hu => hu.fencePhase)).wr.wr (ite (h.foldl (fun _ _ hu => hu.fencePhase)).wr.fault (ite (h.foldl
    (fun _ _ hu => hu.fencePhase)).wr.wr (ite (h.foldl (fun _ _ hu => hu.fencePhase)) ((h.foldl
    (fun _ _ hu => hu.fencePhase)).startRamp.foldl (fun _ _ hu => hu.deratePhase)))))

theorem rampTrip (h : Tame strict s t) : Tame strict s t.rampTrip :=
  h.wr.wr.bootRecord

theorem execRampGroupStart {scFails sg2Fails : List Nat} : Goes strict s (execRampGroupStart scFails sg2Fails s) := by
  unfold Machine.execRampGroupStart
  exact (ite (ite (refl strict s).rampTrip (show Tame strict s _ from by
    split
    · exact (refl strict s).wr.setStep
    · exact ((refl strict s).wr.wr.foldl (fun _ _ hu => hu.rampRail)).groupDone)) (refl strict s)).go

theorem execRailPowerGood {rail : Nat} : Goes strict s (execRailPowerGood rail s) :=
  (ite (refl strict s).wr.wr.groupDone (refl strict s)).go

theorem execPowerGoodTimeout {rail : Nat} : Goes strict s (execPowerGoodTimeout rail s) :=
  (ite (refl strict s).railOff.wr.wr.wr.wr.fault.groupDone (refl strict s)).go

theorem execRampGapExpiry : Goes strict s (execRampGapExpiry s) :=
  (ite (refl strict s).wr (refl strict s)).go

theorem calibrateSites (h : Tame strict s t) {bad : List Nat} : Tame strict s (t.calibrateSites bad) :=
  h.wr.wr.other.foldl (fun _ _ hu => hu.wr.wr.fault)

theorem execSitesDone {bad : List Nat} : Goes strict s (execSitesDone bad s) :=
  (ite ((refl strict s).when (fun _ hu => hu.calibrateSites)).endSequence (refl strict s)).go

theorem powerGoodAt (h : Tame strict s t) {r : Nat} : Tame strict s (t.powerGoodAt r) :=
  (h.wr.foldl (fun _ _ hu => hu.endStartTrack)).foldl (fun _ _ hu => hu.when (fun _ hu1 => hu1.startEcho))

theorem powerGoods (h : Tame strict s t) : Tame strict s t.powerGoods :=
  h.foldl (fun _ _ hu => hu.powerGoodAt)

theorem readyStep (h : Tame strict s t) : Tame strict s t.readyStep :=
  ite h.wrB.wrB.wrAll.wr.wr.bootRecord h.wrB.wrB

theorem bootTime (h : Tame strict s t) : Tame strict s t.bootTime :=
  ite h.wr.inc h.wr

theorem bootBoundary (h : Tame strict s t) : Tame strict s t.bootBoundary :=
  ite h.bootTime.rampTrip h.bootTime

/-! ## The Store -/

theorem storeBusy (h : Tame strict s t) {q : Requester} : Tame strict s (t.storeBusy q) := by
  unfold State.storeBusy
  split
  · exact h.wr.send
  · exact h.wr

theorem reachBank (h : Tame strict s t) {q : Requester} {a : Nat} : Tame strict s (t.reachBank q a) :=
  ite h.wr.storeBusy h

theorem execBankWakeDone {bank : Nat} : Goes strict s (execBankWakeDone bank s) :=
  (ite (refl strict s).clearElems (refl strict s)).go

theorem putRet (h : Tame strict s t) {v : Nat} : Tame strict s (t.putRet v) :=
  h.foldl (fun _ _ hu => hu.wrB.when (fun _ hu1 => hu1.wrB.clearElems))

theorem execRetWrite {w : WCtx} {v : Nat} : Goes strict s (execRetWrite w v s) :=
  ((refl strict s).judged (fun _ hu => hu.putRet)).go

theorem injectStore (h : Tame strict s t) {a n : Nat} : Tame strict s (t.injectStore a n) :=
  ite h.wr.injected (ite h.wr.injected h)

theorem portWrite (h : Tame strict s t) {q : Requester} {a : Nat} {b : List Byte} : Tame strict s (t.portWrite q a b) :=
  (h.reachBank.foldl (fun _ _ hu => hu.eccEvent)).stBytes.injectStore

theorem logRecord (h : Tame strict s t) {k off : Nat} {b : List Byte} : Tame strict s (t.logRecord k off b) :=
  ite h (ite h.inc (h.portWrite.wr.when (fun _ hu => hu.hostIrq)))

theorem traceRecord (h : Tame strict s t) {k off : Nat} {b : List Byte} : Tame strict s (t.traceRecord k off b) :=
  ite h (ite h.inc h.portWrite.wr)

theorem storeIn (h : Tame strict s t) {q : Requester} {off : Nat} {b : List Byte} : Tame strict s (t.storeIn q off b) := by
  unfold State.storeIn
  split
  · exact ite h.logRecord (ite h.traceRecord h.portWrite)
  · exact h.portWrite

theorem meet (h : Tame strict s t) {q : Requester} {reader : Option Requester} : Tame strict s (t.meet q reader) := by
  unfold State.meet
  split
  · exact h.storeBusy
  · exact h

theorem storeWrite (h : Tame strict s t) {w : WCtx} {off : Nat} {b : List Byte} : Tame strict s (t.storeWrite w off b) :=
  ite h.answer (ite h.refuse (ite (ite h h.storeIn).refuse (ite h h.storeIn).answer))

theorem execStoreWrite {w : WCtx} {off : Nat} {data : StoreData} : Goes strict s (execStoreWrite w off data s) :=
  (ite (refl strict s).storeWrite.meet (refl strict s).storeWrite).go

theorem poisonTo (h : Tame strict s t) {q : Requester} {inj : Bool} : Tame strict s (t.poisonTo q inj) := by
  unfold State.poisonTo
  split
  · exact h.fault.send.answer
  · exact h.answer

theorem storeRead (h : Tame strict s t) {w : WCtx} {off size : Nat} {err : EccErr} : Tame strict s
    (t.storeRead w off size err) :=
  ite h.answer (ite h.answer (ite (h.reachBank.foldl (fun _ _ hu => hu.eccEvent)).poisonTo (h.reachBank.foldl
    (fun _ _ hu => hu.eccEvent)).answer))

theorem mixBits (h : Tame strict s t) {a b n : Nat} : Tame strict s (t.mixBits a b n).2 := by
  induction n with
  | zero => exact h
  | succ n ih => exact ih.freeStep

theorem tornRead (h : Tame strict s t) {w : WCtx} {off size other : Nat} : Tame strict s (t.tornRead w off size other) :=
  ite h.storeRead h.reachBank.mixBits.answer

theorem execStoreRead {w : WCtx} {off size : Nat} {meets : ReadMeets} : Goes strict s (execStoreRead w off size meets s) := by
  unfold Machine.execStoreRead
  exact (show Tame strict s _ from by
    split
    · exact (refl strict s).tornRead
    · exact (refl strict s).storeRead).go

theorem execScrubRead {addr : Nat} {err : EccErr} : Goes strict s (execScrubRead addr err s) :=
  (ite (refl strict s).eccEvent (refl strict s)).go

theorem atomic (h : Tame strict s t) {q : Requester} {k v : Nat} : Tame strict s (t.atomic q k v) :=
  ite h.reachBank.eccEvent.wr.wr h.reachBank.eccEvent.st.injectStore.wr.wr

theorem execAmoStart {w : WCtx} {set v : Nat} : Goes strict s (execAmoStart w set v s) :=
  ((refl strict s).judged (fun _ hu => hu.atomic)).go

theorem restoreRow (h : Tame strict s t) {row : Nat} : Tame strict s (t.restoreRow row) :=
  h.foldl (fun _ _ hu => ite (ite hu.st hu.wr) hu)

theorem execRowPatternTest {row : Nat} {verdict : RowVerdict} : Goes strict s (execRowPatternTest row verdict s) :=
  (ite (ite ((refl strict s).restoreRow.foldl (fun _ _ hu => hu.storeBusy)).wr.retireRow ((refl strict s).restoreRow.foldl
    (fun _ _ hu => hu.storeBusy)).wr) (refl strict s)).go

theorem popRead (h : Tame strict s t) : Tame strict s t.popRead.2 := by
  unfold State.popRead
  split
  · exact h.fifoPop1
  · exact h

theorem execFifoPop {w : WCtx} : Goes strict s (execFifoPop w s) :=
  (refl strict s).popRead.answer.go

theorem ackFifo (h : Tame strict s t) : Tame strict s t.ackFifo :=
  h.clearElems.wr

theorem execAck {w : WCtx} : Goes strict s (execAck w s) :=
  ((refl strict s).judged (fun _ hu => hu.ackFifo)).go

/-! ## Rings -/

theorem ringCheck (h : Tame strict s t) {r : Nat} : Tame strict s (t.ringCheck r) :=
  ite (ite h (ite h.wr.postCpl h.wr)) h

theorem beginCmd (h : Tame strict s t) {r : Nat} : Tame strict s (t.beginCmd r) :=
  h.wr.wr

theorem complete (h : Tame strict s t) {r status r0 r1 : Nat} : Tame strict s (t.complete r status r0 r1) :=
  h.beginCmd.finishCmd.ringCheck

theorem serve (h : Tame strict s t) {r op : Nat} {c : CmdRule} {act : State → State}
    (ha : ∀ u, Tame strict s u → Tame strict s (act u)) : Tame strict s (t.serve r op c act) := by
  unfold State.serve
  split
  · split
    · exact h.complete
    · exact ha t h
  · exact h.ringCheck

theorem heartbeat (h : Tame strict s t) : Tame strict s t.heartbeat :=
  h.wr

theorem execHb {w : WCtx} : Goes strict s (execHb w s) :=
  ((refl strict s).judged (fun _ hu => hu.when (fun _ hu1 => hu1.heartbeat))).go

theorem dropCaps (h : Tame strict s t) : Tame strict s t.dropCaps :=
  h.foldl (fun _ _ hu => hu.stage.mirrorOut)

theorem unattend (h : Tame strict s t) : Tame strict s t.unattend := by
  unfold State.unattend
  extract_lets s1 s2 s3 s4
  have h2 : Tame strict s s2 := h.wr.wr.hostIrq.send.send.wr
  have h4 : Tame strict s s4 := (h2.when fun _ hu => hu.dropCaps).when fun _ hu => hu.foldl fun _ _ hv => hv.sendRevert
  split
  · exact h4.when fun _ hu => hu.writeProfile.answer
  · exact h4

theorem execHeartbeatLapse : Goes strict s (execHeartbeatLapse s) :=
  (ite (refl strict s).unattend (refl strict s)).go

theorem ringBell (h : Tame strict s t) {q : Requester} {r tail head : Nat} : Tame strict s (t.ringBell q r tail head) :=
  (h.wr.wr.wr.when (fun _ hu => hu.heartbeat)).wakeHart.postDue.ringCheck

theorem execRingDoorbell {w : WCtx} {ring v : Nat} : Goes strict s (execRingDoorbell w ring v s) :=
  ((refl strict s).judgedAt (fun _ hu => hu.ringBell)).go

theorem doAttach (h : Tame strict s t) {r : Nat} : Tame strict s (t.doAttach r) :=
  ite h.complete (ite h.complete h.wr.wr.wr.wr.wr.complete)

theorem execAttach {ring : Nat} : Goes strict s (execAttach ring s) :=
  ((refl strict s).serve (fun _ hu => hu.doAttach)).go

theorem execDetach {ring : Nat} : Goes strict s (execDetach ring s) :=
  ((refl strict s).serve (fun _ hu => (hu.when (fun _ hu1 => hu1.unattend)).complete)).go

theorem execGetStatus {ring : Nat} : Goes strict s (execGetStatus ring s) :=
  ((refl strict s).serve (fun _ hu => (hu.when (fun _ hu1 => hu1.st)).complete)).go

theorem clearRing (h : Tame strict s t) {r : Nat} : Tame strict s (t.clearRing r) :=
  h.clearElems

theorem doCreate (h : Tame strict s t) {r : Nat} : Tame strict s (t.doCreate r) := by
  unfold State.doCreate
  dsimp only
  split
  · exact h.complete
  split
  · exact h.complete
  split
  · exact h.complete
  split
  · exact h.complete
  split
  · exact h.complete
  · exact h.clearRing.wr.wr.wr.wr.wr.wr.wr.complete

theorem execRingCreate {ring : Nat} : Goes strict s (execRingCreate ring s) :=
  ((refl strict s).serve (fun _ hu => hu.doCreate)).go

theorem resetRing (h : Tame strict s t) {r : Nat} : Tame strict s (t.resetRing r) :=
  h.clearElems

theorem doReset (h : Tame strict s t) {r : Nat} : Tame strict s (t.doReset r) :=
  ite h.complete (ite h.beginCmd.finishCmd.resetRing (ite h.complete h.resetRing.complete))

theorem execRingReset {ring : Nat} : Goes strict s (execRingReset ring s) :=
  ((refl strict s).serve (fun _ hu => hu.doReset)).go

theorem doDestroy (h : Tame strict s t) {r : Nat} : Tame strict s (t.doDestroy r) :=
  ite h.complete h.clearRing.complete

theorem execRingDestroy {ring : Nat} : Goes strict s (execRingDestroy ring s) :=
  ((refl strict s).serve (fun _ hu => hu.doDestroy)).go

theorem doLoadMap (h : Tame strict s t) {r : Nat} : Tame strict s (t.doLoadMap r) :=
  ite h.complete (ite h.complete (ite (ite h.complete (ite h.wr.wr.recordRefusal.complete
    (ite h.wr.wr.askReload.complete h.wr.wr.askReload.complete))) (ite h.wr.wr.enable.complete h.wr.wr.enable.complete)))

theorem execLoadMap {ring : Nat} : Goes strict s (execLoadMap ring s) :=
  (ite ((refl strict s).serve (fun _ hu => hu.doLoadMap)) (refl strict s)).go

theorem takeMapBytes (h : Tame strict s t) {bs : List Byte} {last : Bool} : Tame strict s (t.takeMapBytes bs last) :=
  h.other

theorem doMapData (h : Tame strict s t) {r : Nat} : Tame strict s (t.doMapData r) :=
  ite h.complete (ite (ite h.takeMapBytes.beginCmd h.takeMapBytes.complete) (ite h.complete h.complete))

theorem execMapData {ring : Nat} : Goes strict s (execMapData ring s) :=
  ((refl strict s).serve (fun _ hu => hu.doMapData)).go

theorem openFlash (h : Tame strict s t) {r op : Nat} : Tame strict s (t.openFlash r op) := by
  unfold State.openFlash
  split
  · exact h.complete
  · exact (show Tame strict s _ from by
      split
      · exact h.wr.wr.other
      · exact h.wr.wr.other
      · exact h.wr.wr.other).complete

theorem execFlashMap {ring : Nat} : Goes strict s (execFlashMap ring s) :=
  ((refl strict s).serve (fun _ hu => ite hu.openFlash hu.complete)).go

theorem execFlashImage {ring : Nat} : Goes strict s (execFlashImage ring s) :=
  ((refl strict s).serve (fun _ hu => ite hu.complete (ite hu.openFlash hu.complete))).go

theorem execLoadImage {ring : Nat} : Goes strict s (execLoadImage ring s) :=
  ((refl strict s).serve (fun _ hu => ite hu.openFlash hu.complete)).go

theorem putFlash (h : Tame strict s t) {bs : List Byte} : Tame strict s (t.putFlash bs) := by
  unfold State.putFlash
  split
  · exact h.other.send
  · exact h.other.send
  · exact h.other

theorem doFlashData (h : Tame strict s t) {r : Nat} : Tame strict s (t.doFlashData r) :=
  ite h.complete (ite h.complete (ite h.wr.complete (ite h.wr.complete (ite h.putFlash.beginCmd h.putFlash.complete))))

theorem execFlashData {ring : Nat} : Goes strict s (execFlashData ring s) :=
  ((refl strict s).serve (fun _ hu => hu.doFlashData)).go

theorem execFlashWriteDone {ring : Nat} {answers : Bool} {psc : PscAnswer} : Goes strict s
    (execFlashWriteDone ring answers psc s) :=
  (ite (ite (refl strict s).freeStep (refl strict s)).wr.finishCmd.ringCheck (refl strict s)).go

theorem doProfile (h : Tame strict s t) {r : Nat} : Tame strict s (t.doProfile r) :=
  ite h.complete (ite h.complete (ite h.writeProfile.answer.complete
    (ite h.writeProfile.answer.beginCmd h.writeProfile.answer.complete)))

theorem execProfile {ring : Nat} : Goes strict s (execProfile ring s) :=
  ((refl strict s).serve (fun _ hu => hu.doProfile)).go

theorem doSnap (h : Tame strict s t) {r : Nat} : Tame strict s (t.doSnap r) :=
  ite h.complete h.stBytes.complete

theorem execLedgerSnap {ring : Nat} : Goes strict s (execLedgerSnap ring s) :=
  ((refl strict s).serve (fun _ hu => hu.doSnap)).go

theorem execLogCtrl {ring : Nat} : Goes strict s (execLogCtrl ring s) :=
  ((refl strict s).serve (fun _ hu => ite hu.complete hu.wr.complete)).go

theorem execTraceCtrl {ring : Nat} : Goes strict s (execTraceCtrl ring s) :=
  ((refl strict s).serve (fun _ hu => ite hu.complete hu.wrAll.complete)).go

theorem doTallyRead (h : Tame strict s t) {r : Nat} : Tame strict s (t.doTallyRead r) :=
  ite h.complete h.stBytes.complete

theorem execTallyRead {ring : Nat} : Goes strict s (execTallyRead ring s) :=
  ((refl strict s).serve (fun _ hu => hu.doTallyRead)).go

theorem execUnknownOpcode {ring : Nat} : Goes strict s (execUnknownOpcode ring s) :=
  (ite (refl strict s).complete (refl strict s).ringCheck).go

/-! ## Mailboxes -/

theorem tellEndpoint (h : Tame strict s t) {code irq : Nat} : Tame strict s (t.tellEndpoint code irq) :=
  ite h.wakeHart.send (ite h.hostIrq (ite h.send h))

theorem mboxWrite (h : Tame strict s t) {w : WCtx} {f : Fld} {m : Nat} {same rule : Bool} {act : State → State}
    (ha : ∀ u, Tame strict s u → Tame strict s (act u)) : Tame strict s (t.mboxWrite w f m same rule act) := by
  unfold State.mboxWrite
  dsimp only
  split
  · exact (h.judgedAt ha).when fun _ hu => hu.inc
  · exact h.judgedAt ha

theorem ringMbox (h : Tame strict s t) {w : WCtx} {m cmd : Nat} : Tame strict s (t.ringMbox w m cmd) :=
  h.mboxWrite (fun _ hu => hu.wr.wr.wr.tellEndpoint)

theorem execDoorbell {w : WCtx} {mbox cmd : Nat} : Goes strict s (execDoorbell w mbox cmd s) :=
  (refl strict s).ringMbox.go

theorem cancelMbox (h : Tame strict s t) {w : WCtx} {m : Nat} : Tame strict s (t.cancelMbox w m) :=
  h.mboxWrite (fun _ hu => hu.wr.wr)

theorem execCancelMailbox {w : WCtx} {mbox : Nat} : Goes strict s (execCancelMailbox w mbox s) :=
  (refl strict s).cancelMbox.go

theorem ackMbox (h : Tame strict s t) {w : WCtx} {m code result : Nat} : Tame strict s (t.ackMbox w m code result) :=
  h.mboxWrite (fun _ hu => hu.wr.wr.wr.wr.wr.tellEndpoint)

theorem execMailboxAck {w : WCtx} {mbox code result : Nat} : Goes strict s (execMailboxAck w mbox code result s) :=
  (refl strict s).ackMbox.go

theorem execMailboxTimeout {mbox : Nat} : Goes strict s (execMailboxTimeout mbox s) :=
  (ite (refl strict s).wr.wr.tellEndpoint (refl strict s)).go

/-! ## The platform interfaces -/

theorem supplyFault (h : Tame strict s t) {k : Nat} : Tame strict s (t.supplyFault k) :=
  h.fault

theorem takeStatus (h : Tame strict s t) {k w : Nat} : Tame strict s (t.takeStatus k w) :=
  h.wr.when (fun _ hu => hu.supplyFault)

theorem takePout (h : Tame strict s t) {k x : Nat} : Tame strict s (t.takePout k x) :=
  h.wr.wrB.when (fun _ hu => hu.supplyFault)

theorem goodPoll (h : Tame strict s t) {k : Nat} {p : PollData} : Tame strict s (t.goodPoll k p) := by
  unfold State.goodPoll
  extract_lets s1 s2 s3 s4
  have h1 : Tame strict s s1 := h.wr.wr.wr.wr
  have h2 : Tame strict s s2 := by
    unfold s2
    split
    · exact h1.wr
    · exact h1
  have h3 : Tame strict s s3 := by
    unfold s3
    split
    · exact h2.takePout
    · exact h2
  have h4 : Tame strict s s4 := by
    unfold s4
    split
    · exact h3.takeStatus
    · exact h3
  split
  · exact h4.wr
  · exact h4

theorem sendPage (h : Tame strict s t) {k : Nat} : Tame strict s (t.sendPage k) :=
  h.when (fun _ hu => hu.send)

theorem execPmbusPollDone {supply : Nat} {p : PollData} : Goes strict s (execPmbusPollDone supply p s) := by
  unfold Machine.execPmbusPollDone
  exact (ite (show Tame strict s _ from by
    split
    · exact ite (refl strict s).sendPage.wr.goodPoll (refl strict s).sendPage.wr
    · exact (refl strict s).sendPage.goodPoll) (refl strict s)).go

theorem failPoll (h : Tame strict s t) {k : Nat} : Tame strict s (t.failPoll k) :=
  h.wr.when (fun _ hu => hu.wr.supplyFault)

theorem execPmbusPollFail {supply : Nat} : Goes strict s (execPmbusPollFail supply s) :=
  (ite (refl strict s).sendPage.failPoll (refl strict s)).go

theorem execPmbusAlert {port addr status : Nat} : Goes strict s (execPmbusAlert port addr status s) := by
  unfold Machine.execPmbusAlert
  exact (ite (show Tame strict s _ from by
    split
    · exact (refl strict s).wr.takeStatus
    · exact (refl strict s).inc) (refl strict s)).go

theorem execAlertStuck {port : Nat} : Goes strict s (execAlertStuck port s) :=
  (ite (refl strict s).wrAll (refl strict s)).go

theorem execPmbusMasterChange {unfinished : Option Nat} : Goes strict s (execPmbusMasterChange unfinished s) := by
  unfold Machine.execPmbusMasterChange
  exact (ite ((show Tame strict s _ from by
    split
    · exact (refl strict s).when (fun _ hu => hu.failPoll)
    · exact (refl strict s)).foldl (fun _ _ hu => hu.sendPage)) (refl strict s)).go

theorem setDyn (h : Tame strict s t) {a : Nat} : Tame strict s (t.setDyn a) :=
  h.when (fun _ hu => hu.wr)

theorem execSetdasa {addr : Nat} : Goes strict s (execSetdasa addr s) :=
  (refl strict s).setDyn.go

theorem execSetaasa : Goes strict s (execSetaasa s) :=
  (refl strict s).setDyn.go

theorem execEntdaa {addr : Nat} : Goes strict s (execEntdaa addr s) :=
  (refl strict s).setDyn.go

theorem control (h : Tame strict s t) {g : State → State} (hg : ∀ u, Tame strict s u → Tame strict s (g u)) :
    Tame strict s (t.control g) := h.when hg

theorem execSetEndpointId {eid : Nat} : Goes strict s (execSetEndpointId eid s) :=
  ((refl strict s).control (fun _ hu => ite hu.send hu.wr.send)).go

theorem execGetEndpointId : Goes strict s (execGetEndpointId s) :=
  ((refl strict s).control (fun _ hu => hu.send)).go

theorem execGetMctpVersionSupport : Goes strict s (execGetMctpVersionSupport s) :=
  ((refl strict s).control (fun _ hu => hu.freeStep.send)).go

theorem execGetMessageTypeSupport : Goes strict s (execGetMessageTypeSupport s) :=
  ((refl strict s).control (fun _ hu => hu.send)).go

theorem execMctpUnknownType {typ : Nat} : Goes strict s (execMctpUnknownType typ s) :=
  (ite (refl strict s) ((refl strict s).control (fun _ hu => hu.inc))).go

theorem pldm (h : Tame strict s t) {g : State → State} (hg : ∀ u, Tame strict s u → Tame strict s (g u)) :
    Tame strict s (t.pldm g) := h.when hg

theorem execGettid : Goes strict s (execGettid s) :=
  ((refl strict s).pldm (fun _ hu => hu.send)).go

theorem execSettid {tid : Nat} : Goes strict s (execSettid tid s) :=
  ((refl strict s).pldm (fun _ hu => ite hu.send hu.wr.send)).go

theorem execGetpldmversion : Goes strict s (execGetpldmversion s) :=
  ((refl strict s).pldm (fun _ hu => hu.freeStep.send)).go

theorem execGetpldmtypes : Goes strict s (execGetpldmtypes s) :=
  ((refl strict s).pldm (fun _ hu => hu.send)).go

theorem execGetpldmcommands {typ : Nat} : Goes strict s (execGetpldmcommands typ s) := by
  unfold Machine.execGetpldmcommands
  exact ((refl strict s).pldm (fun _ hu => (show Tame strict s _ from by
    split
    · exact hu.send
    · exact hu.send))).go

theorem execPldmUnsupported {typ cmd : Nat} : Goes strict s (execPldmUnsupported typ cmd s) := by
  unfold Machine.execPldmUnsupported
  exact (show Tame strict s _ from by
    split
    · exact ite (refl strict s) ((refl strict s).pldm (fun _ hu => hu.send))
    · exact (refl strict s).pldm (fun _ hu => hu.send)).go

theorem execSeteventreceiver {eid : Nat} : Goes strict s (execSeteventreceiver eid s) :=
  ((refl strict s).pldm (fun _ hu => hu.wr.send)).go

theorem execGetpdrrepositoryinfo : Goes strict s (execGetpdrrepositoryinfo s) :=
  ((refl strict s).pldm (fun _ hu => hu.send)).go

theorem execGetpdr {handle : Nat} : Goes strict s (execGetpdr handle s) :=
  go ((refl strict s).pldm fun _ hu => by
    dsimp only
    split
    · exact hu.send
    · exact hu.send)

theorem execGetsensorreading {id : Nat} : Goes strict s (execGetsensorreading id s) := by
  unfold Machine.execGetsensorreading
  exact ((refl strict s).pldm (fun _ hu => (show Tame strict s _ from by
    split
    · exact hu.send
    · exact hu.send
    · exact hu.send))).go

theorem execGetstatesensorreadings {id : Nat} : Goes strict s (execGetstatesensorreadings id s) := by
  unfold Machine.execGetstatesensorreadings
  exact ((refl strict s).pldm (fun _ hu => (show Tame strict s _ from by
    split
    · exact hu.send
    · exact hu.send))).go

theorem execSetnumericeffectervalue {id v : Nat} : Goes strict s (execSetnumericeffectervalue id v s) :=
  ((refl strict s).pldm (fun _ hu => ite hu.send (ite hu.send hu.writeCapBmc.send))).go

theorem execGetnumericeffectervalue {id : Nat} : Goes strict s (execGetnumericeffectervalue id s) :=
  ((refl strict s).pldm (fun _ hu => ite hu.send hu.send)).go

theorem execVendorTallyRead {first count : Nat} : Goes strict s (execVendorTallyRead first count s) :=
  ((refl strict s).pldm (fun _ hu => ite hu.send hu.send)).go

theorem execFaultOpen : Goes strict s (execFaultOpen s) :=
  ((refl strict s).pldm (fun _ hu => hu.send)).go

theorem execVendorUnknown {cmd : Nat} : Goes strict s (execVendorUnknown cmd s) :=
  (ite (refl strict s) ((refl strict s).pldm (fun _ hu => hu.send))).go

theorem platformEvent (h : Tame strict s t) {cls id v : Nat} : Tame strict s (t.platformEvent cls id v) :=
  h.when (fun _ hu => hu.send.send)

theorem platformEvents (h : Tame strict s t) : Tame strict s t.platformEvents :=
  h.pldm (fun _ hu => (hu.wr.wr.when (fun _ hu1 => hu1.platformEvent)).foldl (fun _ _ hu1 => hu1.when
    (fun _ hu2 => hu2.platformEvent)))

theorem supplyBoundary (h : Tame strict s t) : Tame strict s t.supplyBoundary :=
  h.foldl (fun _ _ hu => hu.wr.when (fun _ hu1 => hu1.inc))

/-! ## Accesses of the register space -/

theorem captureRead (h : Tame strict s t) {off : Nat} : Tame strict s (t.captureRead off).2 := by
  simp only [State.captureRead, apply_ite Prod.snd]
  exact ite h h.freeStep

theorem readWord (h : Tame strict s t) {q : Requester} {off : Nat} : Tame strict s (t.readWord q off).2 := by
  unfold State.readWord
  split
  · exact h.captureRead
  split
  · exact h.popRead
  split
  · exact h.other
  split
  · split
    · exact h.other
    · exact h
  · exact h

theorem busRead (h : Tame strict s t) {w : WCtx} {off size : Nat} : Tame strict s (t.busRead w off size) :=
  ite h.storeRead (ite h.answer (ite h.readWord.readWord.answer h.readWord.answer))

theorem execReadPairLow {w : WCtx} {off size : Nat} : Goes strict s (execReadPairLow w off size s) :=
  (refl strict s).busRead.go

theorem putField (h : Tame strict s t) {w : WCtx} {p : Put} (hp : p.Calm) : Tame strict s (t.putField w p) := by
  unfold State.putField
  split
  · exact h
  · next ha => exact h.wr fun _ => hp (by rw [ha]; decide)
  · next ha => exact h.wr fun _ => hp (by rw [ha]; decide)
  · next ha => exact h.wr fun _ => hp (by rw [ha]; decide)
  · exact h
  · exact h.stage

theorem putFields (h : Tame strict s t) {w : WCtx} {ps : List Put} (hp : ∀ p ∈ ps, p.Calm := by assumption) :
    Tame strict s (t.putFields w ps) :=
  h.foldlMem fun _ p hm hu => hu.putField (hp p hm)

theorem putRun (h : Tame strict s t) {w : WCtx} {ps : List Put} : Tame strict s (t.putRun w ps) := by
  have hkeep (u : State) (p : Put)
      (hm : p ∈ ps.filter (fun p => p.fld == R.RUN_KEEP_PROFILE || p.fld == R.RUN_SRC || p.fld == R.RUN_RING))
      (hu : Tame strict s u) : Tame strict s (u.wr p.fld p.ix p.val) := by
    have hf := (List.mem_filter.1 hm).2
    simp only [Bool.or_eq_true, beq_iff_eq] at hf
    exact hu.wr fun _ => by rcases hf with (hf | hf) | hf <;> rw [hf] <;> rfl
  have hasked := (h.foldlMem hkeep).when (c := putSet ps R.RUN_RELOAD 0 && t.running) fun _ hu => hu.askReload (w := w)
  unfold State.putRun
  exact ite (ite hasked.enable hasked.disable) hasked

theorem putProfile (h : Tame strict s t) {w : WCtx} {ps : List Put} (hp : ∀ p ∈ ps, p.Calm := by assumption) : Tame strict s
    (t.putProfile w ps) :=
  (h.when (fun _ hu => hu.wr)).when (fun _ hu => hu.requestProfile.mirrorOut)

theorem putLimits (h : Tame strict s t) {w : WCtx} {word : Nat} {ps : List Put} (hp : ∀ p ∈ ps, p.Calm := by assumption) :
    Tame strict s (t.putLimits w word ps) :=
  (h.foldlMem fun _ p hm hu => ite hu.stage (hu.putField (hp p hm))).mirrorOut

theorem putSlot (h : Tame strict s t) {w : WCtx} {word v mask : Nat} {ps : List Put}
    (hp : ∀ p ∈ ps, p.Calm := by assumption) : Tame strict s (t.putSlot w word v mask ps) :=
  ite h.wr.stage.mirrorOut (ite h.stage.mirrorOut (ite h.writeCap h.putFields))

theorem putRailCmd (h : Tame strict s t) {w : WCtx} {ps : List Put} (hp : ∀ p ∈ ps, p.Calm := by assumption) : Tame strict s
    (t.putRailCmd w ps) :=
  h.foldl (fun _ _ hu => ite hu (ite hu.stageCmd hu.stageCmd))

theorem putFence (h : Tame strict s t) {w : WCtx} {ps : List Put} (hp : ∀ p ∈ ps, p.Calm := by assumption) : Tame strict s
    (t.putFence w ps) :=
  h.foldl (fun _ _ hu => hu.stage)

theorem putTwinCmd (h : Tame strict s t) {w : WCtx} {ps : List Put} (hp : ∀ p ∈ ps, p.Calm := by assumption) : Tame strict s
    (t.putTwinCmd w ps) :=
  ite h.stageCmd (ite h.stageCmd (ite h.stageCmd h))

theorem putFltCmd (h : Tame strict s t) {w : WCtx} {ps : List Put} (hp : ∀ p ∈ ps, p.Calm := by assumption) :
    Tame strict s (t.putFltCmd w ps) :=
  have hclr := h.when (c := putSet ps R.FLT_CMD_REJECT_CLR 0) (g := fun t => t.wr R.FLT_REJECT_COUNT 0 0) fun _ hu => hu.wr
  ite hclr.putCommand.stage (ite hclr.putCommand.stage (hclr.putFields fun p hm => hp p (List.mem_filter.1 hm).1))

theorem putClkCtrl (h : Tame strict s t) {w : WCtx} {ps : List Put} (hp : ∀ p ∈ ps, p.Calm := by assumption) :
    Tame strict s (t.putClkCtrl w ps) := by
  unfold State.putClkCtrl
  exact ((h.putFields.foldl fun _ x hu => hu.when fun _ hv =>
    ((hv.wr fun _ => xAmp_calm x).wr fun _ => xFail_calm x).wr).showRec).when
    fun _ hu => hu.takeHighest

theorem putRstCmd (h : Tame strict s t) {w : WCtx} {ps : List Put} (hp : ∀ p ∈ ps, p.Calm := by assumption) : Tame strict s
    (t.putRstCmd w ps) := by
  unfold State.putRstCmd
  split
  · exact h.stageCmd
  · split
    · exact h.stageCmd
    · split
      · exact h.stageCmd
      · split
        · exact h.stageCmd
        · exact h

theorem putHartCtrl (h : Tame strict s t) {k : Nat} {ps : List Put} (hp : ∀ p ∈ ps, p.Calm := by assumption) : Tame strict s
    (t.putHartCtrl k ps) :=
  ((h.when (fun _ hu => hu.wr)).when (fun _ hu => hu.kick)).when (fun _ hu => hu.commandHart)

theorem putShed (h : Tame strict s t) {w : WCtx} {ps : List Put} (hp : ∀ p ∈ ps, p.Calm := by assumption) : Tame strict s
    (t.putShed w ps) :=
  h.putFields.wr

theorem putMbox (h : Tame strict s t) {w : WCtx} {m : Nat} {ps : List Put}
    (hp : ∀ p ∈ ps, p.Calm := by assumption) : Tame strict s (t.putMbox w m ps) :=
  ite h.cancelMbox (ite h.ringMbox (ite h.ackMbox h.putFields))

theorem putSupply (h : Tame strict s t) {w : WCtx} {k : Nat} {ps : List Put}
    (hp : ∀ p ∈ ps, p.Calm := by assumption) : Tame strict s (t.putSupply w k ps) :=
  h.putFields.when (fun _ hu => hu.clearElems)

theorem putTop (h : Tame strict s t) {w : WCtx} {word : Nat} {ps : List Put}
    (hp : ∀ p ∈ ps, p.Calm := by assumption) : Tame strict s (t.putTop w word ps) :=
  ite h.putRun (ite h.putProfile (ite (h.when (fun _ hu => hu.stage.mirrorOut)) (ite h.putRet (ite (h.when
    (fun _ hu => hu.atomic)) (ite (h.putFields.when (fun _ hu => hu.ackFifo)) h.putFields)))))

theorem putLe (h : Tame strict s t) {w : WCtx} {word v mask : Nat} {ps : List Put}
    (hp : ∀ p ∈ ps, p.Calm := by assumption) : Tame strict s (t.putLe w word v mask ps) :=
  ite h (ite h.holdWrite (ite h.putLimits (ite h.putSlot h.putFields)))

theorem putPower (h : Tame strict s t) {w : WCtx} {word : Nat} {ps : List Put}
    (hp : ∀ p ∈ ps, p.Calm := by assumption) : Tame strict s (t.putPower w word ps) :=
  ite h.putRailCmd (ite (h.foldl (fun _ _ hu => hu.stage)) (ite (h.when (fun _ hu => hu.stage)) (ite (h.foldl
    (fun _ _ hu => hu.stage)) (ite ((h.when (fun _ hu => hu.clearFld)).when (fun _ hu => hu.clearFlds)) h.putFields))))

theorem putMid (h : Tame strict s t) {w : WCtx} {word : Nat} {ps : List Put}
    (hp : ∀ p ∈ ps, p.Calm := by assumption) : Tame strict s (t.putMid w word ps) :=
  ite h.putFence (ite (h.when (fun _ hu => hu.releaseBank)) (ite h.putTwinCmd h.putFields))

theorem putKeep (h : Tame strict s t) {w : WCtx} {word : Nat} {ps : List Put}
    (hp : ∀ p ∈ ps, p.Calm := by assumption) : Tame strict s (t.putKeep w word ps) :=
  ite h.putFltCmd (ite h.putClkCtrl (ite (h.when (fun _ hu => hu.putDiv)) (ite ((h.when (fun _ hu => hu.wr)).when
    (fun _ hu => hu.doReturn)) (ite h.putRstCmd h.putFields))))

theorem putFw (h : Tame strict s t) {w : WCtx} {word : Nat} {ps : List Put}
    (hp : ∀ p ∈ ps, p.Calm := by assumption) : Tame strict s (t.putFw w word ps) :=
  ite h.putHartCtrl (ite h.putShed (ite (h.when (fun _ hu => hu.heartbeat)) (ite (h.when (fun _ hu => hu.ringBell))
    (ite h.putMbox (ite (h.when (fun _ hu => hu.askFlush)) (ite (h.when (fun _ hu => hu.submitRecord))
    (ite h.putSupply h.putFields)))))))

theorem putWord (h : Tame strict s t) {w : WCtx} {word v mask : Nat} {ps : List Put}
    (hp : ∀ p ∈ ps, p.Calm := by assumption) : Tame strict s (t.putWord w word v mask ps) :=
  ite h.putTop (ite h.putLe (ite h.putPower (ite h.putMid (ite h.putKeep h.putFw))))

theorem refusedNote (h : Tame strict s t) {word : Nat} {ps : List Put}
    (hp : ∀ p ∈ ps, p.Calm := by assumption) : Tame strict s (t.refusedNote word ps) :=
  (h.when (fun _ hu => hu.wr)).when (fun _ hu => hu.inc)

theorem deferredOnce (h : Tame strict s t) {s' : Machine.State} : Tame strict s (t.deferredOnce s') :=
  h.when (fun _ hu => hu.wr)

theorem puts_calm (t : State) (word v mask : Nat) : ∀ p ∈ t.puts word v mask, p.Calm := by
  intro p hp ha
  simp only [State.puts, List.mem_map, List.mem_filter] at hp
  obtain ⟨x, ⟨hx, -⟩, rfl⟩ := hp
  exact wordFields_calm hx ha

theorem writeWord (h : Tame strict s t) {w : WCtx} {word v mask : Nat} : Tame strict s (t.writeWord w word v mask) := by
  have hp : ∀ p ∈ (t.puts word v mask).filter (fun p => (t.protected? w.req p.fld p.ix).isNone), p.Calm :=
    fun p hm => puts_calm t word v mask p (List.mem_filter.1 hm).1
  have hput := ((h.putWord (w := w) (word := word) (v := v) (mask := mask) (hp := hp)).deferredOnce (s' := t)).answer (r := .ok)
  unfold State.writeWord
  dsimp only
  split
  · exact h.refuse
  split
  · exact h.refuse
  split
  · exact h.refuse.refusedNote
  split
  · exact hput.refuse
  · exact ite hput.refuse hput

theorem busWrite (h : Tame strict s t) {w : WCtx} {off size v : Nat} : Tame strict s (t.busWrite w off size v) :=
  ite h.storeWrite (ite h.answer (ite h.writeWord.writeWord h.writeWord))

theorem execRegisterWrite {w : WCtx} {off size v : Nat} : Goes strict s (execRegisterWrite w off size v s) :=
  (refl strict s).busWrite.go

/-! ## The frame boundary -/

theorem afterField (h : Tame strict s t) {f : Fld} {i : Nat} : Tame strict s (t.afterField f i) :=
  ite h.wr (ite h.wr (ite (h.when (fun _ hu => hu.sendOptAllow)) (ite (h.wr.when (fun _ hu => hu.wr)) h)))

theorem commitField (h : Tame false s t) {f : Fld} {i v : Nat} : Tame false s (t.commitField f i v) :=
  ite h (h.wr nofun).afterField

theorem step2 (h : Tame false s t) {a : StagedAct} : Tame false s (t.step2 a) := by
  unfold State.step2
  split
  · exact h.commitField
  · exact (ite h.doRestart h).wr
  · exact h.wr.wr
  · exact h.wardenFence
  · exact h.doCrookTest
  · exact h.wrB
  · exact h.wrB
  · exact h.commitClear
  · exact h.commitRun
  · exact h.wr
  · exact ite h.wr h.wr
  · exact h.wr.joinStep
  · exact h.commitDetach
  · exact h

theorem fencesStand (h : Tame strict s t) {acts : List StagedAct} : Tame strict s (t.fencesStand acts) := by
  unfold State.fencesStand
  exact h.foldl (fun _ _ hu => (show Tame strict s _ from by
    split
    · exact hu.wr
    · exact hu))

theorem fitHyst (h : Tame strict s t) : Tame strict s t.fitHyst :=
  h.foldl (fun _ _ hu => hu.wr)

theorem configStep (h : Tame strict s t) {old : Machine.State} : Tame strict s (t.configStep old) :=
  h.foldl (fun _ _ hu => hu.when (fun _ hu1 => hu1.wr))

theorem wardenStep (h : Tame false s t) {acts : List StagedAct} : Tame false s (t.wardenStep acts) :=
  (h.foldl (fun _ _ hu => hu.step2)).fencesStand.fitHyst.configStep.clampPackage

theorem capStep (h : Tame strict s t) {acts : List StagedAct} : Tame strict s (t.capStep acts) := by
  unfold State.capStep
  exact (show Tame strict s _ from by
    split
    · exact (h.foldl (fun _ _ hu => (show Tame strict s _ from by
        split
        · exact hu.wr
        · exact hu))).wr.wr
    · exact h.foldl (fun _ _ hu => (show Tame strict s _ from by
        split
        · exact hu.wr
        · exact hu))).applyCap

theorem step6 (h : Tame strict s t) {modes : Bool} {a : StagedAct} : Tame strict s (State.step6 modes t a) := by
  unfold State.step6
  split
  · exact ite h h.wr.wr
  · exact ite h h.commitHeld
  · exact ite h.commitMode h
  · exact h

theorem modeStep (h : Tame strict s t) {acts : List StagedAct} {ended : List Nat} : Tame strict s (t.modeStep acts ended) :=
  (((h.foldl (fun _ _ hu => hu.step6)).foldl (fun _ _ hu => hu.step6)).foldl (fun _ _ hu => hu.when
    (fun _ hu1 => hu1.holdStep))).powerGoods

theorem enClearStep (h : Tame strict s t) {acts : List StagedAct} : Tame strict s (t.enClearStep acts) :=
  ite h.loadEnd.profileEnd.stopMap h

theorem takeStaged (h : Tame strict s t) : Tame strict s t.takeStaged.2 :=
  h.other

theorem commits (h : Tame false s t) {gateFail : Bool} : Tame false s (t.commits gateFail) :=
  h.takeStaged.enClearStep.commitDue.wardenStep.capStep.clampPackage.thermalDividers.modeStep.applyOutputs.handOver

theorem nextFrame (h : Tame strict s t) : Tame strict s t.nextFrame :=
  ite h.wr h.wr

theorem timeStep (h : Tame strict s t) : Tame strict s t.timeStep :=
  ((h.wr.when (fun _ hu => hu.inc)).when (fun _ hu => hu.wr)).faultTicks

theorem twinStep (h : Tame strict s t) : Tame strict s t.twinStep :=
  h.keeperCount.when (fun _ hu => hu.idStep.takeover.twinAges.roleStep)

theorem showRun (h : Tame strict s t) : Tame strict s t.showRun :=
  h.wrB.wr.wr.clearElems

theorem latchInputs (h : Tame strict s t) : Tame strict s t.latchInputs :=
  (((h.when (fun _ hu => hu.latchSense.loadSnap)).when (fun _ hu => hu.latchThermal)).when
    (fun _ hu => hu.latchCrook)).supplyBoundary

theorem openFrame (h : Tame strict s t) : Tame strict s t.openFrame :=
  ite h.wr h.formStep

theorem endStep (h : Tame strict s t) : Tame strict s t.endStep :=
  h.bootBoundary.readyStep.flushStep.platformEvents.reloadStep.refStep.when (fun _ hu => hu.twinSend)

theorem boundary (h : Tame false s t) {leCycles : Nat} {gateFail : Bool} : Tame false s (t.boundary leCycles gateFail) :=
  ((h.settleForm.nextFrame.when (fun _ hu => hu.fallBack)).timeStep.twinStep.when
    (fun _ hu => hu.bwBoundary)).commits.resetsDue.showRun.latchInputs.openFrame.endStep

theorem execFrameBoundary {edge : FrameEdge} : Goes false s (execFrameBoundary edge s) :=
  (ite (refl false s) (refl false s).boundary.recordsTogether).go

/-! ## Every command -/

/-- The commands at which a protection setting may move (R15, R465, R491). -/
def movesSettings : Instr → Bool
  | .frameBoundary _ | .keepPowerUp | .porAssert => true
  | _ => false

/-- Every command goes on, to a state that may follow; the protection settings move at the commands named alone. -/
theorem exec {i : Instr} (hi : strict = true → movesSettings i = false) : Goes strict s (exec i s) := by
  cases i with
  | frameBoundary _ => cases strict with
    | false => exact execFrameBoundary
    | true => cases hi rfl
  | loopWindow => exact execLoopWindow
  | plausFault => exact execPlausFault
  | bellwetherEval => exact execBellwetherEval
  | earlyAddCheck => exact execEarlyAddCheck
  | outputStage => exact execOutputStage
  | twinOutputPacket => exact execTwinOutputPacket
  | twinStatusPacket => exact execTwinStatusPacket
  | twinInputPacket => exact execTwinInputPacket
  | inputNotWhole => exact execInputNotWhole
  | inputDisagreement => exact execInputDisagreement
  | twinMirrorPacket => exact execTwinMirrorPacket
  | twinBulkPacket => exact execTwinBulkPacket
  | catchUpComplete => exact execCatchUpComplete
  | cleanFramesReached => exact execCleanFramesReached
  | peerReadyLapse => exact execPeerReadyLapse
  | linkDown => exact execLinkDown
  | peerSilent => exact execPeerSilent
  | keeperGateDrop => exact execKeeperGateDrop
  | gatePeerFall => exact execGatePeerFall
  | gateRaise => exact execGateRaise
  | gateResample => exact execGateResample
  | goldenVerdict => exact execGoldenVerdict
  | swap => exact execSwap
  | twinAttach => exact execTwinAttach
  | twinDetach => exact execTwinDetach
  | railSenseConversion => exact execRailSenseConversion
  | sg2Shutdown => exact execSg2Shutdown
  | vrefStep => exact execVrefStep
  | phaseCurrentSample => exact execPhaseCurrentSample
  | phaseFenceVerdict => exact execPhaseFenceVerdict
  | phaseDerate => exact execPhaseDerate
  | shortCircuitTrip => exact execShortCircuitTrip
  | scRepeatFence => exact execScRepeatFence
  | switchingPeriodStart => exact execSwitchingPeriodStart
  | shedDecision => exact execShedDecision
  | pulseSkipEngage => exact execPulseSkipEngage
  | restart => exact execRestart
  | clearSafe => exact execClearSafe
  | phaseFenceWrite => exact execPhaseFenceWrite
  | cellTrip => exact execCellTrip
  | cellRelease => exact execCellRelease
  | accountingFrameEnd => exact execAccountingFrameEnd
  | cellStuck => exact execCellStuck
  | cellOrphan => exact execCellOrphan
  | thresh => exact execThresh
  | config => exact execConfig
  | cellEn => exact execCellEn
  | frameSync => exact execFrameSync
  | test => exact execTest
  | echo => exact execEcho
  | delay => exact execDelay
  | trip => exact execTrip
  | report => exact execReport
  | echoReply => exact execEchoReply
  | echoTimeout => exact execEchoTimeout
  | frameSyncPeriod => exact execFrameSyncPeriod
  | crookTestWrite => exact execCrookTestWrite
  | intent => exact execIntent
  | cancel => exact execCancel
  | bwClearRails => exact execBwClearRails
  | bwClearFolds => exact execBwClearFolds
  | reading => exact execReading
  | siteRefReading _ tag _ => exact execSiteRefReading (_tag := tag)
  | sweepClose => exact execSweepClose
  | siteFailed => exact execSiteFailed
  | siteHighFault => exact execSiteHighFault
  | diodeFailed => exact execDiodeFailed
  | hotFence => exact execHotFence
  | diodeConversion => exact execDiodeConversion
  | diodeTrip => exact execDiodeTrip
  | thermtripNetLow => exact execThermtripNetLow
  | hbmTemp => exact execHbmTemp
  | memctrlStale => exact execMemctrlStale
  | optReport => exact execOptReport
  | opticalOver => exact execOpticalOver
  | fenceAck => exact execFenceAck
  | routeState => exact execRouteState
  | stilePark => exact execStilePark
  | tileFenceWrite => exact execTileFenceWrite
  | grantRound => exact execGrantRound
  | roundAck => exact execRoundAck
  | ledgerPeriodStart => exact execLedgerPeriodStart
  | usage => exact execUsage
  | usageEnd => exact execUsageEnd
  | bankReady => exact execBankReady
  | bankBooking => exact execBankBooking
  | release => exact execRelease
  | meshCompletion => exact execMeshCompletion
  | meshRetry => exact execMeshRetry
  | creditReturn => exact execCreditReturn
  | probeReply => exact execProbeReply
  | testVerdict => exact execTestVerdict
  | testTimeLimit => exact execTestTimeLimit
  | quietExpiry => exact execQuietExpiry
  | escalationSevere => exact execEscalationSevere
  | windowExpiry => exact execWindowExpiry
  | rowPatternTest => exact execRowPatternTest
  | clearSource => exact execClearSource
  | runSourceTest => exact execRunSourceTest
  | rejectClr => exact execRejectClr
  | faultInjectArm => exact execFaultInjectArm
  | proofTestScPeriodic => exact execProofTestScPeriodic
  | proofTestDiodePeriodic => exact execProofTestDiodePeriodic
  | proofTestSitePeriodic => exact execProofTestSitePeriodic
  | referenceLost => exact execReferenceLost
  | relockDone => exact execRelockDone
  | crystalAmplitudePass => exact execCrystalAmplitudePass
  | crystalStartTimeout => exact execCrystalStartTimeout
  | crystalRestart => exact execCrystalRestart
  | autoReturn => exact execAutoReturn
  | clockEdgeLost => exact execClockEdgeLost
  | frequencyFailure => exact execFrequencyFailure
  | frcBad => exact execFrcBad
  | domainReturn => exact execDomainReturn
  | domainSwitchDone => exact execDomainSwitchDone
  | forcedStop => exact execForcedStop
  | go => exact execGo
  | clkEnWrite => exact execClkEnWrite
  | clkDivWrite => exact execClkDivWrite
  | keepPowerUp => cases strict with
    | false => exact execKeepPowerUp
    | true => cases hi rfl
  | porAssert => cases strict with
    | false => exact execPorAssert
    | true => cases hi rfl
  | holdNLow => exact execHoldNLow
  | rstLe => exact execRstLe
  | rstTwin => exact execRstTwin
  | rstBlock => exact execRstBlock
  | rstHart => exact execRstHart
  | resetRelease => exact execResetRelease
  | watchdogExpiry => exact execWatchdogExpiry
  | sequenceStart => exact execSequenceStart
  | romStepDone => exact execRomStepDone
  | calibDone => exact execCalibDone
  | storeInitDone => exact execStoreInitDone
  | imageVerified => exact execImageVerified
  | roleDecision => exact execRoleDecision
  | bWaitExpiry => exact execBWaitExpiry
  | rampGroupStart => exact execRampGroupStart
  | railPowerGood => exact execRailPowerGood
  | powerGoodTimeout => exact execPowerGoodTimeout
  | rampGapExpiry => exact execRampGapExpiry
  | sitesDone => exact execSitesDone
  | enSet => exact execEnSet
  | enClear => exact execEnClear
  | reload => exact execReload
  | mapCheckDone => exact execMapCheckDone
  | loaderStall => exact execLoaderStall
  | standbyReloadTimeout => exact execStandbyReloadTimeout
  | profileReq => exact execProfileReq
  | profilePrepDone => exact execProfilePrepDone
  | capBmcWrite => exact execCapBmcWrite
  | wardenWindowExpiry => exact execWardenWindowExpiry
  | modeReq => exact execModeReq
  | manual => exact execManual
  | heldWrite => exact execHeldWrite
  | captureArm => exact execCaptureArm
  | amoStart => exact execAmoStart
  | retWrite => exact execRetWrite
  | bankWakeDone => exact execBankWakeDone
  | storeWrite => exact execStoreWrite
  | scrubRead => exact execScrubRead
  | fifoPop w => exact execFifoPop (w := w)
  | ack => exact execAck
  | readPairLow => exact execReadPairLow
  | registerWrite => exact execRegisterWrite
  | kick => exact execKick
  | selfReset => exact execSelfReset
  | restartCheckDone => exact execRestartCheckDone
  | hartSleep => exact execHartSleep
  | hartWake => exact execHartWake
  | shedWindowEnd => exact execShedWindowEnd
  | hb => exact execHb
  | heartbeatLapse => exact execHeartbeatLapse
  | ringDoorbell => exact execRingDoorbell
  | attach => exact execAttach
  | detach => exact execDetach
  | getStatus => exact execGetStatus
  | ringCreate => exact execRingCreate
  | ringReset => exact execRingReset
  | ringDestroy => exact execRingDestroy
  | loadMap => exact execLoadMap
  | mapData => exact execMapData
  | flashMap => exact execFlashMap
  | flashImage => exact execFlashImage
  | flashData => exact execFlashData
  | loadImage => exact execLoadImage
  | profile => exact execProfile
  | ledgerSnap => exact execLedgerSnap
  | logCtrl => exact execLogCtrl
  | traceCtrl => exact execTraceCtrl
  | tallyRead => exact execTallyRead
  | unknownOpcode => exact execUnknownOpcode
  | doorbell => exact execDoorbell
  | cancelMailbox => exact execCancelMailbox
  | mailboxAck => exact execMailboxAck
  | mailboxTimeout => exact execMailboxTimeout
  | tallyRecordPlace => exact execTallyRecordPlace
  | submit => exact execSubmit
  | flush => exact execFlush
  | tallyFlushPeriodic => exact execTallyFlushPeriodic
  | tallyFlushDone => exact execTallyFlushDone
  | operatingSecondTick => exact execOperatingSecondTick
  | pmbusPollDone => exact execPmbusPollDone
  | pmbusPollFail => exact execPmbusPollFail
  | pmbusAlert => exact execPmbusAlert
  | alertStuck => exact execAlertStuck
  | pmbusMasterChange => exact execPmbusMasterChange
  | setdasa => exact execSetdasa
  | setaasa => exact execSetaasa
  | entdaa => exact execEntdaa
  | setEndpointId => exact execSetEndpointId
  | getEndpointId => exact execGetEndpointId
  | getMctpVersionSupport => exact execGetMctpVersionSupport
  | getMessageTypeSupport => exact execGetMessageTypeSupport
  | mctpUnknownType => exact execMctpUnknownType
  | gettid => exact execGettid
  | settid => exact execSettid
  | getpldmversion => exact execGetpldmversion
  | getpldmtypes => exact execGetpldmtypes
  | getpldmcommands => exact execGetpldmcommands
  | seteventreceiver => exact execSeteventreceiver
  | getpdrrepositoryinfo => exact execGetpdrrepositoryinfo
  | getpdr => exact execGetpdr
  | getsensorreading => exact execGetsensorreading
  | getstatesensorreadings => exact execGetstatesensorreadings
  | setnumericeffectervalue => exact execSetnumericeffectervalue
  | getnumericeffectervalue => exact execGetnumericeffectervalue
  | pldmUnsupported => exact execPldmUnsupported
  | vendorTallyRead => exact execVendorTallyRead
  | faultOpen => exact execFaultOpen
  | vendorUnknown => exact execVendorUnknown
  | wardenWindowOpen => exact execWardenWindowOpen
  | meshTwinStatus p => exact execMeshTwinStatus (_p := p)
  | slowBad => exact execSlowBad
  | crystalDetectorFail => exact execCrystalDetectorFail
  | hostLinkTrained => exact execHostLinkTrained
  | storeRead => exact execStoreRead
  | flashWriteDone => exact execFlashWriteDone

end Sys2Proof.Machine.Tame
end

section
/-! The statements about every command and every step. -/

set_option Elab.async false

namespace Sys2Proof.Machine

theorem Tame.completes {strict : Bool} {c : Instr} {s : State} {P : State → Prop} (hc : strict = true → Tame.movesSettings c = false)
    (hP : ∀ t, Tame strict s t → P t) : Completes c s P := by
  obtain ⟨t, he, ht⟩ := Tame.exec (s := s) hc
  exact ⟨t, he, hP t ht⟩

/-- Settles O3: every meaning goes on, to a state that may follow. -/
theorem noCommandStopsTheBlock : Obligations.NoCommandStopsTheBlock := by
  unfold Obligations.NoCommandStopsTheBlock
  exact fun c s => Tame.completes (strict := false) nofun fun t ht => ⟨ht.pending, ht.ident, ht.out⟩

/-- Settles O4: a step runs the front command, which keeps the invariant; the queue of commands is no part of that. -/
theorem everyStepKeepsTheInvariant : Obligations.EveryStepKeepsTheInvariant := by
  unfold Obligations.EveryStepKeepsTheInvariant
  intro s t hs hstep
  unfold step at hstep
  split at hstep
  · injection hstep with ht
    exact ht ▸ hs
  · next c rest _ =>
    obtain ⟨u, hu, htame⟩ := Tame.exec (strict := false) (i := c) (s := { s with pending := rest }) nofun
    rw [hu] at hstep
    injection hstep with ht
    exact ht ▸ htame.inv hs

/-- Settles O8: outside a boundary and a reset of the POR scope, what a command writes lies apart from the protection settings. -/
theorem settingsMoveOnlyAtBoundaries : Obligations.SettingsMoveOnlyAtBoundaries := by
  unfold Obligations.SettingsMoveOnlyAtBoundaries
  intro c s hb hk hp
  have hc : Tame.movesSettings c = false := by
    cases c with
    | frameBoundary edge => exact absurd rfl (hb edge.leCycles edge.gateFail)
    | keepPowerUp => exact absurd rfl hk
    | porAssert => exact absurd rfl hp
    | _ => rfl
  refine Tame.completes (strict := true) (fun _ => hc) fun t ht => ?_
  have hset := ht.settings rfl
  exact ⟨hset _ (by simp [settingFields]) 0, fun k =>
    ⟨hset _ (by simp [settingFields]) k, hset _ (by simp [settingFields]) k, hset _ (by simp [settingFields]) k⟩⟩

/-- Settles O1, by the definition of a step. -/
theorem stepRunsTheFrontCommand : Obligations.StepRunsTheFrontCommand := by
  unfold Obligations.StepRunsTheFrontCommand
  intro s c rest h
  rw [step, h]

/-- Settles O2, by the definition of a step. -/
theorem emptyQueueIdles : Obligations.EmptyQueueIdles := by
  unfold Obligations.EmptyQueueIdles
  intro s h
  rw [step, h]

/-- Settles O5: every list of the reset state is empty. -/
theorem resetMeetsTheInvariant : Obligations.ResetMeetsTheInvariant := by
  unfold Obligations.ResetMeetsTheInvariant
  exact ⟨rfl, Memory.wf_nil, Nat.zero_le _, Nat.zero_le _, Nat.zero_le _, Nat.zero_le _⟩

end Sys2Proof.Machine
end

section
/-! Reading what has been written: one element of a field, counters, and frames by element. -/

set_option Elab.async false

namespace Sys2Proof.Machine

namespace State

/-- A field element reads what was written to it, the others as before. -/
theorem rd_wr_below {i n : Nat} (hi : i < n) (s : State) (f : Fld) (hs : 0 < f.stride) (hn : n ≤ f.cnt) (j v : Nat) :
    (s.wr f i v).rd f j = if j = i then v % 2 ^ f.wid else s.rd f j := by
  split
  · next h => rw [h, s.rd_wr_self f (lt_of_lt_of_le hi hn)]
  · next h => exact s.rd_wr_idx (Ne.symm h) hs v

/-- The first element of a field. -/
theorem rd_wr_zero (s : State) (f : Fld) (hs : 0 < f.stride) (hn : 1 ≤ f.cnt) (j v : Nat) :
    (s.wr f 0 v).rd f j = if j = 0 then v % 2 ^ f.wid else s.rd f j :=
  rd_wr_below Nat.zero_lt_one s f hs hn j v

theorem rd_inc_apart (s : State) {f g : Fld} (h : f.apart g = true) (i j n : Nat) : (s.inc f i n).rd g j = s.rd g j :=
  s.rd_wr_apart h i j _

theorem rd_inc_below {i n : Nat} (hi : i < n) (s : State) (f : Fld) (hs : 0 < f.stride) (hn : n ≤ f.cnt) (j k : Nat) :
    (s.inc f i k).rd f j = if j = i then satAdd f.wid (s.rd f i) k else s.rd f j := by
  rw [inc, rd_wr_below hi s f hs hn, Nat.mod_eq_of_lt (satAdd_lt _ _ _)]

theorem rd_inc_zero (s : State) (f : Fld) (hs : 0 < f.stride) (hn : 1 ≤ f.cnt) (j k : Nat) :
    (s.inc f 0 k).rd f j = if j = 0 then satAdd f.wid (s.rd f 0) k else s.rd f j :=
  rd_inc_below Nat.zero_lt_one s f hs hn j k

theorem rd_wrB_apart (s : State) {f g : Fld} (h : f.apart g = true) (i j : Nat) (b : Bool) : (s.wrB f i b).rd g j = s.rd g j :=
  s.rd_wr_apart h i j _

/-- A flag field reads what was written to it. -/
theorem bit_wrB_below {i n : Nat} (hi : i < n) (s : State) (f : Fld) (hs : 0 < f.stride) (hn : n ≤ f.cnt) (hw : f.wid = 1)
    (j : Nat) (b : Bool) : (s.wrB f i b).bit f j = if j = i then b else s.bit f j := by
  simp only [bit, wrB, rd_wr_below hi s f hs hn, hw]
  split
  · cases b <;> rfl
  · rfl

theorem bit_wr_below {i n : Nat} (hi : i < n) (s : State) (f : Fld) (hs : 0 < f.stride) (hn : n ≤ f.cnt) (hw : f.wid = 1)
    (j v : Nat) : (s.wr f i v).bit f j = if j = i then v % 2 == 1 else s.bit f j := by
  simp only [bit, rd_wr_below hi s f hs hn, hw]
  split <;> rfl

theorem bit_wr_apart (s : State) {f g : Fld} (h : f.apart g = true) (i j v : Nat) : (s.wr f i v).bit g j = s.bit g j := by
  rw [bit, s.rd_wr_apart h, bit]

theorem bit_wrB_apart (s : State) {f g : Fld} (h : f.apart g = true) (i j : Nat) (b : Bool) :
    (s.wrB f i b).bit g j = s.bit g j := s.bit_wr_apart h i j _

theorem bit_inc_apart (s : State) {f g : Fld} (h : f.apart g = true) (i j n : Nat) : (s.inc f i n).bit g j = s.bit g j :=
  s.bit_wr_apart h i j _

@[simp] theorem bit_send (s : State) (m : Msg) (g : Fld) (j : Nat) : (s.send m).bit g j = s.bit g j := rfl

@[simp] theorem bit_answer (s : State) (r : Resp) (g : Fld) (j : Nat) : (s.answer r).bit g j = s.bit g j := rfl

theorem bit_congr {s t : State} (h : t.regs = s.regs) (f : Fld) (i : Nat) : t.bit f i = s.bit f i := by
  rw [bit, rd_congr h, bit]

/-- A run over different elements, each of which is raised once. -/
theorem rd_foldl_inc {f : Fld} (hs : 0 < f.stride) {l : List Nat} (hl : l.Nodup) (hn : ∀ k ∈ l, k < f.cnt) (s : State) (n j : Nat) :
    (l.foldl (fun (t : State) (k : Nat) => t.inc f k n) s).rd f j = if j ∈ l then satAdd f.wid (s.rd f j) n else s.rd f j := by
  induction l generalizing s with
  | nil => rfl
  | cons k l ih =>
    obtain ⟨hk, hl⟩ := List.nodup_cons.1 hl
    rw [List.foldl_cons, ih hl (fun x hx => hn x (List.mem_cons_of_mem k hx)),
      rd_inc_below (hn k List.mem_cons_self) s f hs le_rfl]
    by_cases hj : j = k
    · simp [hj, hk]
    · simp [hj]

end State

theorem OnlyKinds.bit {l : List Fld} {s t : State} (h : OnlyKinds l s t) {g : Fld} (hg : (l.all fun f => f.apart g) = true)
    (j : Nat) : t.bit g j = s.bit g j := by
  rw [State.bit, h.rd hg, State.bit]

@[simp] theorem SameStore.self (s : State) : SameStore s s ↔ True := iff_true_intro fun _ => rfl

@[simp] theorem satAdd_mod (w a b : Nat) : satAdd w a b % 2 ^ w = satAdd w a b := Nat.mod_eq_of_lt (satAdd_lt w a b)

@[simp] theorem b2n_eq_one (b : Bool) : b2n b = 1 ↔ b = true := by cases b <;> decide

namespace OnlyFields

variable {l : List (Fld × Nat)} {s t u : State}

theorem refl (l : List (Fld × Nat)) (s : State) : OnlyFields l s s := fun _ _ _ => rfl

@[simp] theorem self (l : List (Fld × Nat)) (s : State) : OnlyFields l s s ↔ True := iff_true_intro (refl l s)

theorem trans (h : OnlyFields l s t) (h' : OnlyFields l t u) : OnlyFields l s u :=
  fun g j hg => (h' g j hg).trans (h g j hg)

theorem chain (h : OnlyFields l t u) (s : State) : OnlyFields l s u ↔ OnlyFields l s t :=
  ⟨fun h' g j hg => (h g j hg).symm.trans (h' g j hg), fun h' => h'.trans h⟩

theorem mono {m : List (Fld × Nat)} (h : OnlyFields l s t) (hl : ∀ e ∈ l, e ∈ m) : OnlyFields m s t :=
  fun g j hg => h g j fun e he => hg e (hl e he)

/-- What concerns single elements concerns their fields, where the fields have them. -/
theorem kinds {m : List Fld} (h : OnlyFields l s t) (hl : ∀ e ∈ l, e.1 ∈ m ∧ e.2 < e.1.cnt) : OnlyKinds m s t := by
  intro g j hg
  by_cases hj : j < g.cnt
  · exact h g j fun e he => Fld.key_ne (hg e.1 (hl e he).1) (hl e he).2 hj
  · simp only [State.rd, regsRd, if_neg hj]

theorem of_regs (l : List (Fld × Nat)) (e : t.regs = s.regs) : OnlyFields l s t := fun g j _ => State.rd_congr e g j

@[simp] theorem chain_wr {f : Fld} {i : Nat} (hf : (f, i) ∈ l) (s t : State) (v : Nat) :
    OnlyFields l s (t.wr f i v) ↔ OnlyFields l s t :=
  chain (show OnlyFields l t (t.wr f i v) from fun _ _ hg => regsRd_regsWr_key (fun _ _ => hg (f, i) hf) t.regs v) s

@[simp] theorem chain_wrB {f : Fld} {i : Nat} (hf : (f, i) ∈ l) (s t : State) (b : Bool) :
    OnlyFields l s (t.wrB f i b) ↔ OnlyFields l s t := chain_wr hf s t _

@[simp] theorem chain_inc {f : Fld} {i : Nat} (hf : (f, i) ∈ l) (s t : State) (n : Nat) :
    OnlyFields l s (t.inc f i n) ↔ OnlyFields l s t := chain_wr hf s t _

@[simp] theorem chain_send (s t : State) (m : Msg) : OnlyFields l s (t.send m) ↔ OnlyFields l s t :=
  chain (of_regs l rfl) s

@[simp] theorem chain_answer (s t : State) (r : Resp) : OnlyFields l s (t.answer r) ↔ OnlyFields l s t :=
  chain (of_regs l rfl) s

@[simp] theorem chain_ite (s t u : State) (c : Prop) [Decidable c] :
    OnlyFields l s (if c then t else u) ↔ (c → OnlyFields l s t) ∧ (¬c → OnlyFields l s u) := by split <;> simp [*]

end OnlyFields

theorem OnlyRegs.out {s t : State} (h : OnlyRegs s t) : t.out = s.out := by rw [h]

theorem OnlyRegs.store {s t : State} (h : OnlyRegs s t) : t.store = s.store := by rw [h]

theorem OnlyRegs.ident {s t : State} (h : OnlyRegs s t) : t.ident = s.ident := by rw [h]

theorem OnlyRegs.map {s t : State} (h : OnlyRegs s t) : t.map = s.map := by rw [h]

theorem OnlyRegs.regsOut {s t : State} (h : OnlyRegs s t) : OnlyRegsOut s t := by
  rw [OnlyRegs.iff] at h
  rw [OnlyRegsOut.iff]
  simp_all

theorem SameStore.of_store {s t : State} (h : t.store = s.store) : SameStore s t := fun a => by rw [h]

/-- A command whose meaning goes on completes with what holds of its next state. -/
theorem Completes.of_go {c : Instr} {s t : State} {P : State → Prop} (h : exec c s = t.go) (hP : P t) : Completes c s P :=
  ⟨t, h, hP⟩

end Sys2Proof.Machine
end

section
/-! The Crook cells: trips, releases, accounting frames and what a cell takes from each message (R266–R284). -/

set_option Elab.async false

namespace Sys2Proof.Machine

/-! ## A cell's trip and release -/

/-- What a cell does at a trip: it is tripped, its count of edges starts, and the trip is counted. -/
def State.tripCell (s : State) (c : Nat) : State := ((s.wr H.CROOK_C_TRIPPED c 1).wr H.CROOK_C_KEDGE c 0).countTrip c

theorem exec_cellTrip_of_stretched {s : State} {cell edges code : Nat} (hin : s.cellIn cell = true)
    (hen : s.bit H.CROOK_C_EN cell = true) (hno : s.bit H.CROOK_C_TRIPPED cell = false) (hlow : code < s.cellThr cell)
    (hst : s.stretched cell = true) :
    exec (.cellTrip cell ⟨edges, code⟩) s = ((s.countEdges cell edges).tripCell cell).go := by
  change execCellTrip _ _ _ = _
  simp [execCellTrip, hin, hen, hno, hlow, hst, State.tripCell]

theorem exec_cellTrip_of_not_stretched {s : State} {cell edges code : Nat} (hin : s.cellIn cell = true)
    (hen : s.bit H.CROOK_C_EN cell = true) (hno : s.bit H.CROOK_C_TRIPPED cell = false) (hlow : code < s.cellThr cell)
    (hst : s.stretched cell = false) :
    exec (.cellTrip cell ⟨edges, code⟩) s
      = ((s.wr H.CROOK_C_ACC (s.edgeCell cell) (100 - s.rd H.CROOK_C_MAXS cell)).tripCell cell).go := by
  change execCellTrip _ _ _ = _
  simp [execCellTrip, hin, hen, hno, hlow, hst, State.tripCell]

theorem countTrip_fields {l : List (Fld × Nat)} {c : Nat} (hl : (H.CROOK_C_TRIPS, c) ∈ l) (s : State) :
    OnlyFields l s (s.countTrip c) ∧ OnlyRegsOut s (s.countTrip c) := by
  simp [State.countTrip, State.cellSend, hl]

theorem countTrip_spec (s : State) {c : Nat} (hc : c < 832) :
    (s.countTrip c).rd H.CROOK_C_TRIPS c = min 255 (s.rd H.CROOK_C_TRIPS c + 1)
      ∧ (s.countTrip c).out = (if s.rd H.CROOK_C_TRIPS c = 0 then .mesh [.zoskare] (.cellTrip c) :: s.out else s.out)
      ∧ OnlyFields [(H.CROOK_C_TRIPS, c)] s (s.countTrip c) ∧ OnlyRegsOut s (s.countTrip c) := by
  have hinc : (s.inc H.CROOK_C_TRIPS c 1).rd H.CROOK_C_TRIPS c = min 255 (s.rd H.CROOK_C_TRIPS c + 1) := by
    simp (disch := decide) only [State.rd_inc_below hc, if_true]; rfl
  unfold State.countTrip State.cellSend
  split <;> simp [hinc]

theorem rd_countTrip_apart (s : State) {g : Fld} (hg : H.CROOK_C_TRIPS.apart g = true) (c j : Nat) :
    (s.countTrip c).rd g j = s.rd g j := by
  unfold State.countTrip State.cellSend
  split <;> simp [State.rd_inc_apart, hg]

theorem tripCell_spec (s : State) {c : Nat} (hc : c < 832) :
    (s.tripCell c).bit H.CROOK_C_TRIPPED c = true ∧ (s.tripCell c).rd H.CROOK_C_KEDGE c = 0
      ∧ (s.tripCell c).rd H.CROOK_C_TRIPS c = min 255 (s.rd H.CROOK_C_TRIPS c + 1)
      ∧ (s.tripCell c).out = (if s.rd H.CROOK_C_TRIPS c = 0 then .mesh [.zoskare] (.cellTrip c) :: s.out else s.out)
      ∧ OnlyFields [(H.CROOK_C_TRIPPED, c), (H.CROOK_C_KEDGE, c), (H.CROOK_C_TRIPS, c)] s (s.tripCell c)
      ∧ OnlyRegsOut s (s.tripCell c) := by
  obtain ⟨htrips, hout, hfields, hregs⟩ := countTrip_spec ((s.wr H.CROOK_C_TRIPPED c 1).wr H.CROOK_C_KEDGE c 0) hc
  simp (disch := decide) only [State.rd_wr_apart, State.wr_out] at htrips hout
  refine ⟨?_, ?_, htrips, hout, ?_, ?_⟩
  · simp (disch := decide) only [State.tripCell, State.bit, rd_countTrip_apart, State.rd_wr_apart, State.rd_wr_below hc, if_true]
    rfl
  · simp (disch := decide) only [State.tripCell, rd_countTrip_apart, State.rd_wr_below hc, if_true, Nat.zero_mod]
  · exact (OnlyFields.chain (hfields.mono (by simp)) s).2 (by simp)
  · exact (OnlyRegsOut.chain hregs s).2 (by simp)

theorem tripCell_apart (s : State) {g : Fld}
    (hg : ([H.CROOK_C_TRIPPED, H.CROOK_C_KEDGE, H.CROOK_C_TRIPS].all fun f => f.apart g) = true) (c j : Nat) :
    (s.tripCell c).rd g j = s.rd g j := by
  simp only [List.all_cons, List.all_nil, Bool.and_true, Bool.and_eq_true] at hg
  obtain ⟨htripped, hkedge, htrips⟩ := hg
  rw [State.tripCell, rd_countTrip_apart _ htrips, State.rd_wr_apart _ hkedge, State.rd_wr_apart _ htripped]

theorem clockCells_nodup (c : Nat) : (clockCells c).Nodup := by
  unfold clockCells
  split
  · exact List.nodup_singleton c
  · exact List.nodup_range.map fun a b h => by simpa using h

theorem clockCells_lt {c k : Nat} (hc : c < 832) (hk : k ∈ clockCells c) : k < 832 := by
  unfold clockCells at hk
  split at hk
  · rwa [List.mem_singleton.1 hk]
  · obtain ⟨i, hi, rfl⟩ := List.mem_map.1 hk
    have := List.mem_range.1 hi
    omega

/-- What the passing of a stretched clock's edges counts (R272–R274). -/
theorem countEdges_spec (s : State) {c : Nat} (hc : c < 832) (hst : s.stretched c = true) (edges : Nat) :
    (s.countEdges c edges).rd H.CROOK_C_ACC (s.edgeCell c)
        = (s.rd H.CROOK_C_ACC (s.edgeCell c) + edges * s.rd H.CROOK_C_MAXS c) % 100
      ∧ (s.countEdges c edges).rd H.CROOK_C_EDGES (s.edgeCell c)
        = min 65535 (s.rd H.CROOK_C_EDGES (s.edgeCell c)
          + (s.rd H.CROOK_C_ACC (s.edgeCell c) + edges * s.rd H.CROOK_C_MAXS c) / 100)
      ∧ (∀ k ∈ clockCells c, (s.countEdges c edges).rd H.CROOK_C_KEDGE k
          = if s.bit H.CROOK_C_TRIPPED k = true then min 65535 (s.rd H.CROOK_C_KEDGE k + edges) else s.rd H.CROOK_C_KEDGE k) := by
  have hl := s.edgeCell_lt hc
  have hkept (t : State) (l : List Nat) :
      OnlyKinds [H.CROOK_C_KEDGE] t (l.foldl (fun (t : State) (k : Nat) => t.inc H.CROOK_C_KEDGE k edges) t) := by simp
  rw [State.countEdges, if_pos hst]
  refine ⟨?_, ?_, fun k hk => ?_⟩
  · rw [(hkept _ _).rd (by decide), State.rd_inc_apart _ (by decide), State.rd_wr_self _ _ hl]
    exact Nat.mod_eq_of_lt (lt_trans (Nat.mod_lt _ (by decide)) (by decide))
  · rw [(hkept _ _).rd (by decide), State.rd_inc_below hl _ _ (by decide) le_rfl, if_pos rfl, State.rd_wr_apart _ (by decide)]
    rfl
  · rw [State.rd_foldl_inc (by decide) (List.Nodup.filter _ (clockCells_nodup c))
      (fun x hx => clockCells_lt hc (List.mem_of_mem_filter hx)), State.rd_inc_apart _ (by decide), State.rd_wr_apart _ (by decide)]
    simp only [List.mem_filter, hk, true_and]
    rfl

theorem countEdges_frame (s : State) (c edges : Nat) :
    OnlyKinds [H.CROOK_C_ACC, H.CROOK_C_EDGES, H.CROOK_C_KEDGE] s (s.countEdges c edges) ∧ OnlyRegs s (s.countEdges c edges) := by
  simp [State.countEdges]

theorem mem_clockCells (c : Nat) : c ∈ clockCells c := by
  unfold clockCells
  split
  · simp
  · exact List.mem_map.2 ⟨(c - 768) % 16, by simp; omega, by omega⟩

/-- A clock is stretched while one of its cells is tripped. -/
theorem stretched_of_tripped {s : State} {c : Nat} (h : s.bit H.CROOK_C_TRIPPED c = true) : s.stretched c = true :=
  List.any_eq_true.2 ⟨c, mem_clockCells c, h⟩

/-- A cell releases, or nothing happens (R273). -/
theorem exec_cellRelease (s : State) (cell edges code : Nat) :
    exec (.cellRelease cell edges code) s
      = (if s.cellIn cell && s.bit H.CROOK_C_TRIPPED cell && decide (s.cellThr cell + 2 * s.rd H.CROOK_C_HYST cell ≤ code)
          && decide (max 1 (s.rd H.CROOK_C_HOLD cell) ≤ (s.countEdges cell edges).rd H.CROOK_C_KEDGE cell) then
        ((s.countEdges cell edges).wr H.CROOK_C_TRIPPED cell 0).wr H.CROOK_C_STUCK cell 0
      else s).go := rfl

/-- The hold of a released cell ends by its count of edges, which saturates above every hold. -/
theorem hold_le_countEdges {s : State} {cell : Nat} (hc : cell < 832) (ht : s.bit H.CROOK_C_TRIPPED cell = true) (edges : Nat) :
    max 1 (s.rd H.CROOK_C_HOLD cell) ≤ (s.countEdges cell edges).rd H.CROOK_C_KEDGE cell
      ↔ max 1 (s.rd H.CROOK_C_HOLD cell) ≤ s.rd H.CROOK_C_KEDGE cell + edges := by
  obtain ⟨-, -, hkedge⟩ := countEdges_spec s hc (stretched_of_tripped ht) edges
  have hhold : s.rd H.CROOK_C_HOLD cell < 256 := s.rd_lt H.CROOK_C_HOLD cell
  rw [hkedge cell (mem_clockCells cell), if_pos ht]
  omega

/-- Settles O11, by what a trip and the passing of edges do. -/
theorem cellTripsAndReleases : Obligations.CellTripsAndReleases := by
  unfold Obligations.CellTripsAndReleases
  refine ⟨?_, ?_, ?_, ?_, ?_, ?_⟩
  · intro s cell edges code hin hen hno hlow hst
    have hc := State.cellIn_lt hin
    have hl := s.edgeCell_lt hc
    refine .of_go (exec_cellTrip_of_not_stretched hin hen hno hlow hst) ?_
    obtain ⟨htripped, hkedge, htrips, hout, hfields, hregs⟩ :=
      tripCell_spec (s.wr H.CROOK_C_ACC (s.edgeCell cell) (100 - s.rd H.CROOK_C_MAXS cell)) hc
    simp (disch := decide) only [State.rd_wr_apart, State.wr_out] at htrips hout
    refine ⟨htripped, hkedge, ?_, htrips, hout, ?_, ?_⟩
    · rw [tripCell_apart _ (by decide), State.rd_wr_self _ _ hl]
      exact Nat.mod_eq_of_lt (lt_of_le_of_lt (Nat.sub_le _ _) (by decide))
    · exact (OnlyFields.chain (hfields.mono (by simp)) s).2 (by simp)
    · exact (OnlyRegsOut.chain hregs s).2 (by simp)
  · intro s cell edges code hin ht hcode hhold
    have hc := State.cellIn_lt hin
    obtain ⟨hacc, hedges, hkedge⟩ := countEdges_spec s hc (stretched_of_tripped ht) edges
    obtain ⟨hkinds, hregs⟩ := countEdges_frame s cell edges
    refine .of_go ((exec_cellRelease s cell edges code).trans
      (by rw [if_pos (by simp [hin, ht, hcode, (hold_le_countEdges hc ht edges).2 hhold])])) ⟨?_, ?_, ?_, ?_, ?_, ?_, ?_, ?_⟩
    · simp (disch := decide) only [State.bit_wr_apart, State.bit_wr_below hc, if_true]; rfl
    · simp (disch := decide) only [State.bit_wr_below hc, if_true]; rfl
    · simpa (disch := decide) only [State.rd_wr_apart] using hacc
    · simpa (disch := decide) only [State.rd_wr_apart] using hedges
    · simpa (disch := decide) only [State.rd_wr_apart] using hkedge
    · intro k _ hne
      simp (disch := decide) only [State.bit_wr_apart, State.bit_wr_below hc, if_neg hne]
      exact ⟨hkinds.bit (by decide) k, hkinds.bit (by decide) k⟩
    · simpa using hkinds.mono (by simp)
    · simpa using hregs
  · intro s cell edges code hcode
    rw [exec_cellRelease, if_neg (by simp [hcode]), State.go]
  · intro s cell edges code hno
    rw [exec_cellRelease, if_neg ?_, State.go]
    simp only [Bool.and_eq_true, decide_eq_true_eq, not_and, and_imp]
    intro hin ht _
    rw [hold_le_countEdges (State.cellIn_lt hin) ht]
    rcases hno with h | h | h
    · simp [hin] at h
    · simp [ht] at h
    · omega
  · intro s cell edges code hin hen hno hlow hst
    have hc := State.cellIn_lt hin
    refine .of_go (exec_cellTrip_of_stretched hin hen hno hlow hst) ?_
    obtain ⟨hacc, -, -⟩ := countEdges_spec s hc hst edges
    obtain ⟨hkinds, hregs⟩ := countEdges_frame s cell edges
    obtain ⟨htripped, hkedge, htrips, hout, hfields, hregs'⟩ := tripCell_spec (s.countEdges cell edges) hc
    rw [hkinds.rd (by decide)] at htrips hout
    rw [hregs.out] at hout
    refine ⟨htripped, hkedge, (tripCell_apart _ (by decide) _ _).trans hacc, htrips, hout, ?_, ?_⟩
    · exact (OnlyKinds.chain (hfields.kinds (by simp [hc, H.CROOK_C_TRIPPED, H.CROOK_C_KEDGE, H.CROOK_C_TRIPS])) s).2
        (hkinds.mono (by simp))
    · exact hregs.regsOut.trans hregs'
  · intro s cell edges code hno
    change execCellTrip _ _ _ = _
    have hcond : (s.cellIn cell && s.bit H.CROOK_C_EN cell && !s.bit H.CROOK_C_TRIPPED cell && decide (code < s.cellThr cell))
        = false := by
      rcases hno with h | h | h | h <;> simp [h]
    rw [execCellTrip, hcond, if_neg Bool.false_ne_true, State.go]

end Sys2Proof.Machine
end

section
/-! Conditional steps, and fault sources that a package has. -/

set_option Elab.async false

namespace Sys2Proof.Machine

namespace State

theorem rd_when (s : State) (c : Bool) (f : State → State) (g : Fld) (j : Nat) :
    (s.when c f).rd g j = if c = true then (f s).rd g j else s.rd g j := by unfold when; split <;> rfl

theorem bit_when (s : State) (c : Bool) (f : State → State) (g : Fld) (j : Nat) :
    (s.when c f).bit g j = if c = true then (f s).bit g j else s.bit g j := by unfold when; split <;> rfl

theorem when_out (s : State) (c : Bool) (f : State → State) : (s.when c f).out = if c = true then (f s).out else s.out := by
  unfold when; split <;> rfl

theorem when_true (s : State) (f : State → State) : s.when true f = f s := rfl

theorem when_false (s : State) (f : State → State) : s.when false f = s := rfl

theorem wr_kinds (s : State) (f : Fld) (i v : Nat) : OnlyKinds [f] s (s.wr f i v) := by simp

end State

/-- What happened before to other fields leaves the account of a raised source. -/
theorem Raised.after {l : List Fld} {s u t : State} {n cls : Nat} (h : OnlyKinds l s u)
    (hl : (l.all fun f => f.apart R.FLT_SRC_STATE_CLASS && f.apart R.FLT_SRC_STATE_STATE) = true) (r : Raised n cls u t) :
    Raised n cls s t := by
  simp only [List.all_eq_true, Bool.and_eq_true] at hl
  have hclass := h R.FLT_SRC_STATE_CLASS n fun f hf => (hl f hf).1
  have hstate := h R.FLT_SRC_STATE_STATE n fun f hf => (hl f hf).2
  simpa only [Raised, hclass, hstate] using r

/-- What happens afterwards to other fields leaves the account of a raised source. -/
theorem Raised.before {l : List Fld} {s t u : State} {n cls : Nat} (r : Raised n cls s t) (h : OnlyKinds l t u)
    (hl : (l.all fun f => f.apart R.FLT_SRC_STATE_CLASS && f.apart R.FLT_SRC_STATE_STATE) = true) : Raised n cls s u := by
  simp only [List.all_eq_true, Bool.and_eq_true] at hl
  have hclass := h R.FLT_SRC_STATE_CLASS n fun f hf => (hl f hf).1
  have hstate := h R.FLT_SRC_STATE_STATE n fun f hf => (hl f hf).2
  simpa only [Raised, hclass, hstate] using r

/-- A fault of a source that the package has raises it. -/
theorem State.fault_raised (s : State) {k i n cls : Nat} {inj : Bool} (hn : srcBase k + i = n) (hp : srcPresent s.zk4 n = true)
    (hc : cls ≤ 2) : Raised n cls s (s.fault k i cls inj) := by
  rw [State.fault, hn]
  exact s.raise_raised n cls inj hp hc

/-- The source of a Crook cell. -/
theorem srcPresent_cell {z : Bool} {c : Nat} (h : cellPresent z c = true) : srcPresent z (0x700 + c) = true := by
  have hc := cellPresent_lt h
  have hk : srcKind (0x700 + c) = some (0x13, c) := by
    simp (disch := omega) only [srcKind, if_neg, if_pos, Nat.add_sub_cancel_left]
  simp [srcPresent, hk, h]

end Sys2Proof.Machine
end

section
/-! The end of a Crook cell's accounting frame; stuck cells and orphans (R275, R277, R279, R284, R309). -/

set_option Elab.async false

namespace Sys2Proof.Machine

theorem le_satAdd {w a : Nat} (n : Nat) (ha : a < 2 ^ w) : a ≤ satAdd w a n := by
  unfold satAdd; omega

/-- The edges that a cell reports are at least those counted before. -/
theorem rd_edges_le_countEdges (s : State) {c : Nat} (hc : c < 832) (edges : Nat) :
    s.rd H.CROOK_C_EDGES c ≤ (s.countEdges c edges).rd H.CROOK_C_EDGES c := by
  unfold State.countEdges
  split
  · have hkept (t : State) (l : List Nat) :
        OnlyKinds [H.CROOK_C_KEDGE] t (l.foldl (fun (t : State) (k : Nat) => t.inc H.CROOK_C_KEDGE k edges) t) := by simp
    rw [(hkept _ _).rd (by decide), State.rd_inc_below (s.edgeCell_lt hc) _ _ (by decide) le_rfl, State.rd_wr_apart _ (by decide),
      State.rd_wr_apart _ (by decide)]
    split
    · next h => exact (congrArg _ h).trans_le (le_satAdd _ (s.rd_lt _ _))
    · exact le_rfl
  · exact le_rfl

/-- The cell's counts as they stand when its accounting frame ends. -/
def State.endFrame (s : State) (cell edges : Nat) : State :=
  (s.countEdges cell edges).wr H.CROOK_C_SFR cell
    (if s.bit H.CROOK_C_TRIPPED cell && s.bit H.CROOK_C_TSTART cell && s.rd H.CROOK_C_TRIPS cell == 0 then
      min 255 (s.rd H.CROOK_C_SFR cell + 1) else 0)

/-- The report of an ended frame is sent where there is something to tell. -/
def State.tellFrame (s : State) (cell : Nat) (en : Bool) : State :=
  s.when ((decide (0 < s.rd H.CROOK_C_TRIPS cell) || decide (0 < s.rd H.CROOK_C_EDGES cell)) && en)
    fun t => t.cellSend (.cellReport cell (t.cellReportOf cell))

theorem exec_accountingFrameEnd {s : State} {cell : Nat} (hin : s.cellIn cell = true) (edges : Nat) :
    exec (.accountingFrameEnd cell edges) s
      = ((((((((s.endFrame cell edges).tellFrame cell (s.bit H.CROOK_C_EN cell)).wr H.CROOK_C_TRIPS cell 0).wr H.CROOK_C_EDGES cell 0).wrB H.CROOK_C_TSTART cell
          (s.bit H.CROOK_C_TRIPPED cell)).wr H.CROOK_C_FRAME cell (s.rd H.CROOK_C_FRAME cell + 1)).wr H.CROOK_C_NOSYNC cell
          (min 255 (s.rd H.CROOK_C_NOSYNC cell + 1)))).go := by
  change execAccountingFrameEnd _ _ _ = _
  rw [execAccountingFrameEnd, if_neg (by simp [hin])]
  rfl

theorem endFrame_frame (s : State) (cell edges : Nat) :
    OnlyKinds [H.CROOK_C_ACC, H.CROOK_C_EDGES, H.CROOK_C_KEDGE, H.CROOK_C_SFR] s (s.endFrame cell edges)
      ∧ OnlyRegs s (s.endFrame cell edges) := by
  obtain ⟨hkinds, hregs⟩ := countEdges_frame s cell edges
  exact ⟨(OnlyKinds.chain (by simp [State.endFrame]) s).2 (hkinds.mono (by simp)),
    (OnlyRegs.chain (by simp [State.endFrame]) s).2 hregs⟩

theorem tellFrame_frame (s : State) (cell : Nat) (en : Bool) :
    OnlyKinds [] s (s.tellFrame cell en) ∧ OnlyRegsOut s (s.tellFrame cell en) := by
  unfold State.tellFrame State.when State.cellSend
  split <;> simp

theorem rd_tellFrame (s : State) (cell : Nat) (en : Bool) (g : Fld) (j : Nat) : (s.tellFrame cell en).rd g j = s.rd g j :=
  (tellFrame_frame s cell en).1.rd rfl j

theorem rd_endFrame_sfr (s : State) {cell : Nat} (hc : cell < 832) (edges : Nat) :
    (s.endFrame cell edges).rd H.CROOK_C_SFR cell
      = if s.bit H.CROOK_C_TRIPPED cell = true ∧ s.bit H.CROOK_C_TSTART cell = true ∧ s.rd H.CROOK_C_TRIPS cell = 0 then
          min 255 (s.rd H.CROOK_C_SFR cell + 1) else 0 := by
  have hmin : min 255 (s.rd H.CROOK_C_SFR cell + 1) < 256 := by omega
  rw [State.endFrame, State.rd_wr_self _ _ (show cell < H.CROOK_C_SFR.cnt from hc)]
  simp only [Bool.and_eq_true, beq_iff_eq, and_assoc]
  split
  · exact Nat.mod_eq_of_lt hmin
  · rfl

theorem rd_endFrame_edges (s : State) {cell : Nat} (edges : Nat) :
    (s.endFrame cell edges).rd H.CROOK_C_EDGES cell = (s.countEdges cell edges).rd H.CROOK_C_EDGES cell :=
  State.rd_wr_apart _ (by decide) _ _ _

/-- The report that an enabled cell which has tripped in the frame sends. -/
theorem tellFrame_out_of_trips {s : State} {cell edges : Nat} (hen : s.bit H.CROOK_C_EN cell = true)
    (htrips : 0 < s.rd H.CROOK_C_TRIPS cell) :
    ((s.endFrame cell edges).tellFrame cell (s.bit H.CROOK_C_EN cell)).out = .mesh [.zoskare] (.cellReport cell
      ⟨s.bit H.CROOK_C_STUCK cell, s.bit H.CROOK_C_ORPH cell, s.bit H.CROOK_C_TRIPPED cell, s.rd H.CROOK_C_FRAME cell % 256,
        s.rd H.CROOK_C_TRIPS cell, (s.endFrame cell edges).rd H.CROOK_C_EDGES cell⟩) :: s.out := by
  obtain ⟨hkinds, hregs⟩ := endFrame_frame s cell edges
  have hrd {g : Fld} (hg : ([H.CROOK_C_ACC, H.CROOK_C_EDGES, H.CROOK_C_KEDGE, H.CROOK_C_SFR].all fun f => f.apart g) = true) :
      (s.endFrame cell edges).rd g cell = s.rd g cell := hkinds.rd hg cell
  rw [hen]
  simp (disch := decide) only [State.tellFrame, State.when_out, htrips, State.cellSend, State.send, State.cellReportOf,
    State.bit, hrd, decide_true, Bool.true_or, Bool.and_self, if_true, hregs.out]

theorem tellFrame_out_of_quiet {s : State} {cell edges : Nat} (htrips : s.rd H.CROOK_C_TRIPS cell = 0)
    (hedges : s.rd H.CROOK_C_EDGES cell = 0) (hst : s.stretched cell = false) :
    ((s.endFrame cell edges).tellFrame cell (s.bit H.CROOK_C_EN cell)).out = s.out := by
  obtain ⟨hkinds, hregs⟩ := endFrame_frame s cell edges
  have htrips' : (s.endFrame cell edges).rd H.CROOK_C_TRIPS cell = 0 := (hkinds.rd (by decide) cell).trans htrips
  have hedges' : (s.endFrame cell edges).rd H.CROOK_C_EDGES cell = 0 := by
    rw [rd_endFrame_edges, State.countEdges, if_neg (by simp [hst]), hedges]
  simp [State.tellFrame, State.when_out, htrips', hedges', hregs.out]

/-- The fault of a stuck cell is raised once (R309). -/
theorem noteStuck_raised {s : State} {cell : Nat} (hin : s.cellIn cell = true) (hno : s.bit R.CROOK_CELL_STUCK cell = false) :
    (s.noteStuck cell true).bit R.CROOK_CELL_STUCK cell = true ∧ Raised (0x700 + cell) 1 s (s.noteStuck cell true)
      ∧ OnlyKinds (faultFields ++ [R.CROOK_CELL_STUCK]) s (s.noteStuck cell true) ∧ OnlyFault s (s.noteStuck cell true) := by
  have hc := State.cellIn_lt hin
  rw [State.noteStuck, if_pos (by simp [hno])]
  refine ⟨?_, ?_, by simp, by simp⟩
  · rw [(State.fault_kinds _ _ _ _ _).bit (by decide), State.bit_wr_below hc _ _ (by decide) le_rfl rfl, if_pos rfl]
    rfl
  · exact Raised.after (State.wr_kinds _ _ _ _) (by decide) (State.fault_raised _ rfl (srcPresent_cell hin) (by decide))

theorem noteStuck_of_known {s : State} {cell : Nat} {stuck : Bool} (h : stuck = true → s.bit R.CROOK_CELL_STUCK cell = true) :
    s.noteStuck cell stuck = s := by
  rw [State.noteStuck, if_neg]
  simpa using h

theorem exec_cellStuck_of_stuck {s : State} {cell : Nat} (hin : s.cellIn cell = true) (ht : s.bit H.CROOK_C_TRIPPED cell = true)
    (hno : s.bit H.CROOK_C_STUCK cell = false) (hlong : max 1 (s.rd H.CROOK_C_STUCKF cell) ≤ s.rd H.CROOK_C_SFR cell) :
    exec (.cellStuck cell) s = ((s.wr H.CROOK_C_STUCK cell 1).noteStuck cell true).go := by
  change execCellStuck _ _ = _
  rw [execCellStuck, if_pos (by simp only [hin, ht, hno, hlong]; rfl)]

/-- Settles O12. -/
theorem cellFrameEndStuckOrphan : Obligations.CellFrameEndStuckOrphan := by
  unfold Obligations.CellFrameEndStuckOrphan
  refine ⟨?_, ?_, ?_, ?_, ?_, ?_⟩
  · intro s cell edges hin
    have hc := State.cellIn_lt hin
    obtain ⟨hkinds, hregs⟩ := endFrame_frame s cell edges
    obtain ⟨htold, hout⟩ := tellFrame_frame (s.endFrame cell edges) cell (s.bit H.CROOK_C_EN cell)
    refine .of_go (exec_accountingFrameEnd hin edges) ⟨?_, ?_, ?_, ?_, ?_, ?_, ?_, ?_, ?_, ?_⟩
    · simp (disch := decide) only [State.rd_wr_apart, State.rd_wrB_apart, State.rd_wr_below hc, if_true, Nat.zero_mod]
    · simp (disch := decide) only [State.rd_wr_apart, State.rd_wrB_apart, State.rd_wr_below hc, if_true, Nat.zero_mod]
    · simp (disch := decide) only [State.bit_wr_apart, State.bit_wrB_below hc, if_true]
    · simp (disch := decide) only [State.rd_wr_apart, State.rd_wr_below hc, if_true]
      rfl
    · simp (disch := decide) only [State.rd_wr_below hc, if_true]
      exact Nat.mod_eq_of_lt (lt_of_le_of_lt (Nat.min_le_left _ _) (by decide))
    · simp (disch := decide) only [State.rd_wr_apart, State.rd_wrB_apart, rd_tellFrame]
      exact rd_endFrame_sfr s hc edges
    · intro hen htrips
      refine ⟨_, tellFrame_out_of_trips hen htrips, ?_, (s.endFrame cell edges).rd_lt H.CROOK_C_EDGES cell⟩
      rw [rd_endFrame_edges]
      exact rd_edges_le_countEdges s hc edges
    · exact fun htrips hedges hst => tellFrame_out_of_quiet htrips hedges hst
    · simpa using (hkinds.mono (by simp)).trans (htold.mono (by simp))
    · simpa using hregs.regsOut.trans hout
  · intro s cell hin ht hno hlong hreg
    have hc := State.cellIn_lt hin
    have hreg' : (s.wr H.CROOK_C_STUCK cell 1).bit R.CROOK_CELL_STUCK cell = false := by
      rwa [State.bit_wr_apart _ (by decide)]
    obtain ⟨hset, hraised, hkinds, hfault⟩ := noteStuck_raised (s := s.wr H.CROOK_C_STUCK cell 1) hin hreg'
    refine .of_go (exec_cellStuck_of_stuck hin ht hno hlong)
      ⟨?_, hset, hraised.after (State.wr_kinds _ _ _ _) (by decide), ?_, ?_⟩
    · rw [hkinds.bit (by decide), State.bit_wr_below hc _ _ (by decide) le_rfl rfl, if_pos rfl]
      rfl
    · exact (OnlyKinds.chain (hkinds.mono (by simp; tauto)) s).2 (by simp)
    · exact (OnlyFault.chain hfault s).2 (by simp)
  · intro s cell hin hlong
    have hc := State.cellIn_lt hin
    refine .of_go (show execCellOrphan _ _ = _ by rw [execCellOrphan, if_pos (by simp [hin, hlong])]) ⟨?_, ?_, by simp, by simp⟩
    · simp (disch := decide) only [State.bit_wr_apart, State.bit_wr_below hc, if_true]
      rfl
    · simp (disch := decide) only [State.cellThr, State.bit_wr_apart, State.bit_wr_below hc, State.rd_wr_apart]
      rfl
  · intro s cell hin ht hno hlong hreg
    have hc := State.cellIn_lt hin
    refine .of_go (exec_cellStuck_of_stuck hin ht hno hlong) ?_
    rw [noteStuck_of_known fun _ => by rwa [State.bit_wr_apart _ (by decide)]]
    refine ⟨?_, by simp, by simp⟩
    rw [State.bit_wr_below hc _ _ (by decide) le_rfl rfl, if_pos rfl]
    rfl
  · intro s cell hno
    change execCellStuck _ _ = _
    have hcond : (s.cellIn cell && s.bit H.CROOK_C_TRIPPED cell && !s.bit H.CROOK_C_STUCK cell
        && decide (max 1 (s.rd H.CROOK_C_STUCKF cell) ≤ s.rd H.CROOK_C_SFR cell)) = false := by
      rcases hno with h | h
      · simp [h]
      · rw [decide_eq_false (by omega), Bool.and_false]
    rw [execCellStuck, hcond, if_neg Bool.false_ne_true, State.go]
  · intro s cell hfresh
    change execCellOrphan _ _ = _
    rw [execCellOrphan, if_neg (by simp [hfresh]), State.go]

end Sys2Proof.Machine
end

section
/-! What a Crook cell takes from each message (R269, R270, R278, R280, R282–R284). -/

set_option Elab.async false

namespace Sys2Proof.Machine

/-- A run whose turns for others leave an element leaves it where it has no turn. -/
theorem rd_foldl_of_notMem {f : Fld} {c : Nat} {g : State → Nat → State}
    (hother : ∀ u x, x ≠ c → (g u x).rd f c = u.rd f c) {l : List Nat} (hc : c ∉ l) (s : State) :
    (l.foldl g s).rd f c = s.rd f c :=
  List.foldlRecOn l g (motive := fun u => u.rd f c = s.rd f c) rfl fun u hu x hx =>
    (hother u x fun h => hc (h ▸ hx)).trans hu

/-- A cell takes a threshold code. -/
def State.takeThresh (s : State) (code c : Nat) : State := ((s.wr H.CROOK_C_THR c code).wr H.CROOK_C_OTHR c 1).unorphan c

theorem takeThresh_self (s : State) (code : Nat) {c : Nat} (hc : c < 832) :
    (s.takeThresh code c).rd H.CROOK_C_THR c = code % 512 ∧ (s.takeThresh code c).bit H.CROOK_C_OTHR c = true
      ∧ (s.bit H.CROOK_C_OSYNC c = true → (s.takeThresh code c).bit H.CROOK_C_ORPH c = false) := by
  simp (disch := decide) only [State.takeThresh, State.unorphan, State.rd_when, State.bit_when, State.rd_wr_apart,
    State.bit_wr_apart, State.rd_wr_below hc, State.bit_wr_below hc, if_true, ite_self]
  refine ⟨rfl, rfl, fun h => ?_⟩
  rw [h]
  rfl

theorem takeThresh_other (s : State) (code : Nat) {x c : Nat} (h : x ≠ c) :
    (s.takeThresh code x).rd H.CROOK_C_THR c = s.rd H.CROOK_C_THR c ∧ (s.takeThresh code x).bit H.CROOK_C_OTHR c = s.bit H.CROOK_C_OTHR c
      ∧ (s.takeThresh code x).bit H.CROOK_C_ORPH c = s.bit H.CROOK_C_ORPH c := by
  simp (disch := decide) only [State.takeThresh, State.unorphan, State.rd_when, State.bit, State.rd_wr_apart, State.rd_wr_idx _ h,
    ite_self, and_self]

theorem takeThresh_frame (s : State) (code c : Nat) :
    OnlyKinds [H.CROOK_C_THR, H.CROOK_C_OTHR, H.CROOK_C_ORPH] s (s.takeThresh code c) ∧ OnlyRegs s (s.takeThresh code c) := by
  unfold State.takeThresh State.unorphan State.when
  split <;> simp

/-- A cell takes its configuration. -/
def State.takeConfig (s : State) (hyst maxs fallb hold stuckf c : Nat) : State :=
  ((((s.wr H.CROOK_C_HYST c hyst).wr H.CROOK_C_MAXS c maxs).wr H.CROOK_C_FALLB c fallb).wr H.CROOK_C_HOLD c
    hold).wr H.CROOK_C_STUCKF c stuckf

section
variable (s : State) (hyst maxs fallb hold stuckf : Nat) {x c : Nat}

theorem takeConfig_self (hc : c < 832) :
    (s.takeConfig hyst maxs fallb hold stuckf c).rd H.CROOK_C_HYST c = hyst % 16
      ∧ (s.takeConfig hyst maxs fallb hold stuckf c).rd H.CROOK_C_MAXS c = maxs % 64
      ∧ (s.takeConfig hyst maxs fallb hold stuckf c).rd H.CROOK_C_FALLB c = fallb % 512
      ∧ (s.takeConfig hyst maxs fallb hold stuckf c).rd H.CROOK_C_HOLD c = hold % 256
      ∧ (s.takeConfig hyst maxs fallb hold stuckf c).rd H.CROOK_C_STUCKF c = stuckf % 256 := by
  simp (disch := decide) only [State.takeConfig, State.rd_wr_apart, State.rd_wr_below hc, if_true]
  exact ⟨rfl, rfl, rfl, rfl, rfl⟩

theorem takeConfig_other (h : x ≠ c) :
    (s.takeConfig hyst maxs fallb hold stuckf x).rd H.CROOK_C_HYST c = s.rd H.CROOK_C_HYST c
      ∧ (s.takeConfig hyst maxs fallb hold stuckf x).rd H.CROOK_C_MAXS c = s.rd H.CROOK_C_MAXS c
      ∧ (s.takeConfig hyst maxs fallb hold stuckf x).rd H.CROOK_C_FALLB c = s.rd H.CROOK_C_FALLB c
      ∧ (s.takeConfig hyst maxs fallb hold stuckf x).rd H.CROOK_C_HOLD c = s.rd H.CROOK_C_HOLD c
      ∧ (s.takeConfig hyst maxs fallb hold stuckf x).rd H.CROOK_C_STUCKF c = s.rd H.CROOK_C_STUCKF c := by
  simp (disch := decide) only [State.takeConfig, State.rd_wr_apart, State.rd_wr_idx _ h, and_self]

theorem takeConfig_frame (c : Nat) :
    OnlyKinds [H.CROOK_C_HYST, H.CROOK_C_MAXS, H.CROOK_C_FALLB, H.CROOK_C_HOLD, H.CROOK_C_STUCKF] s
        (s.takeConfig hyst maxs fallb hold stuckf c)
      ∧ OnlyRegs s (s.takeConfig hyst maxs fallb hold stuckf c) := by simp [State.takeConfig]

end

/-- An enabled cell takes the compensation that waits in `s` and aligns its accounting frames. -/
def State.takeSync (s : State) (frame : Nat) (t : State) (c : Nat) : State :=
  ((((t.wr H.CROOK_C_FRAME c (s.syncFrame frame (s.rd H.CROOK_C_DELAY_NEXT c))).wr H.CROOK_C_NOSYNC c 0).wr H.CROOK_C_DELAY c
    (s.rd H.CROOK_C_DELAY_NEXT c)).wr H.CROOK_C_OSYNC c 1).unorphan c

section
variable (s : State) (frame : Nat) (t : State) {x c : Nat}

theorem takeSync_self (hc : c < 832) :
    (s.takeSync frame t c).rd H.CROOK_C_FRAME c = s.syncFrame frame (s.rd H.CROOK_C_DELAY_NEXT c) % 65536
      ∧ (s.takeSync frame t c).rd H.CROOK_C_NOSYNC c = 0
      ∧ (s.takeSync frame t c).rd H.CROOK_C_DELAY c = s.rd H.CROOK_C_DELAY_NEXT c
      ∧ (s.takeSync frame t c).bit H.CROOK_C_OSYNC c = true
      ∧ (t.bit H.CROOK_C_OTHR c = true → (s.takeSync frame t c).bit H.CROOK_C_ORPH c = false) := by
  simp (disch := decide) only [State.takeSync, State.unorphan, State.rd_when, State.bit_when, State.rd_wr_apart, State.bit_wr_apart,
    State.rd_wr_below hc, State.bit_wr_below hc, if_true, ite_self]
  refine ⟨rfl, rfl, Nat.mod_eq_of_lt (s.rd_lt H.CROOK_C_DELAY_NEXT c), rfl, fun h => ?_⟩
  rw [h]
  rfl

theorem takeSync_other (h : x ≠ c) :
    (s.takeSync frame t x).rd H.CROOK_C_FRAME c = t.rd H.CROOK_C_FRAME c
      ∧ (s.takeSync frame t x).rd H.CROOK_C_NOSYNC c = t.rd H.CROOK_C_NOSYNC c
      ∧ (s.takeSync frame t x).rd H.CROOK_C_DELAY c = t.rd H.CROOK_C_DELAY c
      ∧ (s.takeSync frame t x).bit H.CROOK_C_OSYNC c = t.bit H.CROOK_C_OSYNC c
      ∧ (s.takeSync frame t x).bit H.CROOK_C_ORPH c = t.bit H.CROOK_C_ORPH c := by
  simp (disch := decide) only [State.takeSync, State.unorphan, State.rd_when, State.bit, State.rd_wr_apart, State.rd_wr_idx _ h,
    ite_self, and_self]

theorem takeSync_frame (c : Nat) :
    OnlyKinds [H.CROOK_C_FRAME, H.CROOK_C_NOSYNC, H.CROOK_C_DELAY, H.CROOK_C_OSYNC, H.CROOK_C_ORPH] t (s.takeSync frame t c)
      ∧ OnlyRegs t (s.takeSync frame t c) := by
  unfold State.takeSync State.unorphan State.when
  split <;> simp

end

theorem exec_thresh (s : State) (fold code : Nat) :
    exec (.thresh fold code) s = ((s.cellsOf fold).foldl (fun t c => t.takeThresh code c) s).go := rfl

theorem exec_config (s : State) (fold hyst maxs fallb hold stuckf : Nat) :
    exec (.config fold hyst maxs fallb hold stuckf) s
      = ((s.cellsOf fold).foldl (fun t c => t.takeConfig hyst maxs fallb hold stuckf c) s).go := rfl

theorem exec_frameSync (s : State) (frame : Nat) :
    exec (.frameSync frame) s
      = (((List.range 832).filter fun c => s.cellIn c && s.bit H.CROOK_C_EN c).foldl (s.takeSync frame) s).go := rfl

theorem cellsOf_lt {s : State} {fold c : Nat} (h : c ∈ s.cellsOf fold) : c < 832 :=
  State.cellIn_lt (List.mem_filter.1 h).2

/-- Settles O13. -/
theorem cellTakesMessages : Obligations.CellTakesMessages := by
  unfold Obligations.CellTakesMessages
  refine ⟨?_, ?_, ?_, ?_, ?_, ?_, ?_, ?_⟩
  · intro s fold code cell hin
    have hc := cellsOf_lt hin
    have hcell : ((s.cellsOf fold).foldl (fun t c => t.takeThresh code c) s).rd H.CROOK_C_THR cell = code % 512
        ∧ ((s.cellsOf fold).foldl (fun t c => t.takeThresh code c) s).bit H.CROOK_C_OTHR cell = true
        ∧ (s.bit H.CROOK_C_OSYNC cell = true
          → ((s.cellsOf fold).foldl (fun t c => t.takeThresh code c) s).bit H.CROOK_C_ORPH cell = false) := by
      refine foldl_at (I := fun u => u.bit H.CROOK_C_OSYNC cell = s.bit H.CROOK_C_OSYNC cell)
        (Q := fun u => u.rd H.CROOK_C_THR cell = code % 512 ∧ u.bit H.CROOK_C_OTHR cell = true
          ∧ (s.bit H.CROOK_C_OSYNC cell = true → u.bit H.CROOK_C_ORPH cell = false)) hin ?_ ?_ ?_ s rfl
      · exact fun u x hu => ((takeThresh_frame u code x).1.bit (by decide) cell).trans hu
      · exact fun u hu => hu ▸ takeThresh_self u code hc
      · intro u x hu hq
        by_cases hx : x = cell
        · subst hx
          exact hu ▸ takeThresh_self u code hc
        · obtain ⟨hthr, hothr, horph⟩ := takeThresh_other u code hx
          rwa [hthr, hothr, horph]
    refine .of_go (exec_thresh s fold code) ⟨hcell.1, hcell.2.1, hcell.2.2, fun c _ hno => ?_, ?_, ?_⟩
    · exact rd_foldl_of_notMem (fun u x hx => (takeThresh_other u code hx).1) hno s
    · exact (OnlyKinds.chain_foldl (fun u x => (takeThresh_frame u code x).1) s s _).2 (OnlyKinds.refl _ _)
    · exact (OnlyRegs.chain_foldl (fun u x => (takeThresh_frame u code x).2) s s _).2 (by simp)
  · intro s fold hyst maxs fallb hold stuckf cell hin
    have hc := cellsOf_lt hin
    refine .of_go (exec_config s fold hyst maxs fallb hold stuckf) ?_
    obtain ⟨hhyst, hmaxs, hfallb, hhold, hstuckf⟩ := foldl_at (g := fun t c => t.takeConfig hyst maxs fallb hold stuckf c)
      (I := fun _ => True) (Q := fun u => u.rd H.CROOK_C_HYST cell = hyst % 16 ∧ u.rd H.CROOK_C_MAXS cell = maxs % 64
        ∧ u.rd H.CROOK_C_FALLB cell = fallb % 512 ∧ u.rd H.CROOK_C_HOLD cell = hold % 256 ∧ u.rd H.CROOK_C_STUCKF cell = stuckf % 256)
      hin (fun _ _ _ => trivial) (fun u _ => takeConfig_self u hyst maxs fallb hold stuckf hc) (fun u x _ hq => by
        by_cases hx : x = cell
        · subst hx
          exact takeConfig_self u hyst maxs fallb hold stuckf hc
        · obtain ⟨h1, h2, h3, h4, h5⟩ := takeConfig_other u hyst maxs fallb hold stuckf hx
          rwa [h1, h2, h3, h4, h5]) s trivial
    refine ⟨hhyst, hmaxs, hfallb, hhold, hstuckf, fun c _ hno => ⟨?_, ?_, ?_⟩, ?_, ?_⟩
    · exact rd_foldl_of_notMem (fun u x hx => (takeConfig_other u hyst maxs fallb hold stuckf hx).1) hno s
    · exact rd_foldl_of_notMem (fun u x hx => (takeConfig_other u hyst maxs fallb hold stuckf hx).2.1) hno s
    · exact rd_foldl_of_notMem (fun u x hx => (takeConfig_other u hyst maxs fallb hold stuckf hx).2.2.1) hno s
    · exact (OnlyKinds.chain_foldl (fun u x => (takeConfig_frame u hyst maxs fallb hold stuckf x).1) s s _).2 (OnlyKinds.refl _ _)
    · exact (OnlyRegs.chain_foldl (fun u x => (takeConfig_frame u hyst maxs fallb hold stuckf x).2) s s _).2 (by simp)
  · intro s cell en hin
    have hc := State.cellIn_lt hin
    have hen : exec (.cellEn cell en) s
        = ((s.wrB H.CROOK_C_EN cell en).when (!en) fun t => t.clearElems [H.CROOK_C_TRIPPED, H.CROOK_C_STUCK, H.CROOK_C_SFR] cell).go := by
      change execCellEn _ _ _ = _
      rw [execCellEn, if_pos hin]
    refine .of_go hen ?_
    cases en with
    | true =>
      rw [Bool.not_true, State.when_false]
      refine ⟨?_, nofun, fun _ => by simp, by simp, by simp⟩
      rw [State.bit_wrB_below hc _ _ (by decide) le_rfl rfl, if_pos rfl]
    | false =>
      rw [Bool.not_false, State.when_true]
      refine ⟨?_, fun _ => ?_, nofun, by simp, by simp⟩
      · simp (disch := decide) only [State.clearElems, List.foldl_cons, List.foldl_nil, State.bit_wr_apart,
          State.bit_wrB_below hc, if_true]
      · simp (disch := decide) only [State.clearElems, List.foldl_cons, List.foldl_nil, State.bit_wr_apart,
          State.bit_wr_below hc, if_true]
        rfl
  · intro s frame cell hin hen
    have hc := State.cellIn_lt hin
    refine .of_go (exec_frameSync s frame) ?_
    obtain ⟨hframe, hnosync, hdelay, hosync, horph⟩ := foldl_at (g := s.takeSync frame)
      (l := (List.range 832).filter fun c => s.cellIn c && s.bit H.CROOK_C_EN c) (c := cell)
      (I := fun u => u.bit H.CROOK_C_OTHR cell = s.bit H.CROOK_C_OTHR cell)
      (Q := fun u => u.rd H.CROOK_C_FRAME cell = s.syncFrame frame (s.rd H.CROOK_C_DELAY_NEXT cell) % 65536
        ∧ u.rd H.CROOK_C_NOSYNC cell = 0 ∧ u.rd H.CROOK_C_DELAY cell = s.rd H.CROOK_C_DELAY_NEXT cell
        ∧ u.bit H.CROOK_C_OSYNC cell = true ∧ (s.bit H.CROOK_C_OTHR cell = true → u.bit H.CROOK_C_ORPH cell = false))
      (by simp [hc, hin, hen]) (fun u x hu => ((takeSync_frame s frame u x).1.bit (by decide) cell).trans hu)
      (fun u hu => hu ▸ takeSync_self s frame u hc) (fun u x hu hq => by
        by_cases hx : x = cell
        · subst hx
          exact hu ▸ takeSync_self s frame u hc
        · obtain ⟨h1, h2, h3, h4, h5⟩ := takeSync_other s frame u hx
          rwa [h1, h2, h3, h4, h5]) s rfl
    refine ⟨?_, hnosync, hdelay, hosync, horph, fun c _ hno => ⟨?_, ?_⟩, ?_, ?_⟩
    · rw [hframe, State.syncFrame]
      exact apply_ite (· % 65536) _ _ _
    · exact rd_foldl_of_notMem (fun u x hx => (takeSync_other s frame u hx).1) (by simp [hno]) s
    · exact rd_foldl_of_notMem (fun u x hx => (takeSync_other s frame u hx).2.1) (by simp [hno]) s
    · exact (OnlyKinds.chain_foldl (fun u x => (takeSync_frame s frame u x).1) s s _).2 (OnlyKinds.refl _ _)
    · exact (OnlyRegs.chain_foldl (fun u x => (takeSync_frame s frame u x).2) s s _).2 (by simp)
  · intro s cell hin hen hno
    have hc := State.cellIn_lt hin
    obtain ⟨htrips, hout, hfields, hregs⟩ := countTrip_spec s hc
    refine .of_go (t := (s.countTrip cell).inc H.CROOK_C_EDGES (s.edgeCell cell) 16)
      (show execTest _ _ = _ by rw [execTest, if_pos (by simp [hin, hen, hno])]) ⟨?_, ?_, hout, ?_, ?_⟩
    · rw [State.rd_inc_apart _ (by decide), htrips]
    · rw [State.rd_inc_below (s.edgeCell_lt hc) _ _ (by decide) le_rfl, if_pos rfl, rd_countTrip_apart _ (by decide)]
      rfl
    · exact (OnlyFields.chain_inc (by simp) s _ _).2 (hfields.mono (by simp))
    · simpa using hregs
  · intro s cell hin hen
    change execEcho _ _ = _
    rw [execEcho, if_pos (by simp [hin, hen])]
    rfl
  · intro s cell comp hin
    have hc := State.cellIn_lt hin
    refine .of_go (show execDelay _ _ _ = _ by rw [execDelay, if_pos hin]) ⟨?_, ?_, by simp, by simp⟩
    · rw [State.rd_wr_below hc _ _ (by decide) le_rfl, if_pos rfl]
      rfl
    · rw [State.rd_wr_apart _ (by decide)]
  · intro s cell hno
    change execEcho _ _ = _ ∧ execTest _ _ = _
    rw [execEcho, execTest, if_neg (by simp [hno]), if_neg (by simp [hno])]
    exact ⟨rfl, rfl⟩

end Sys2Proof.Machine
end

section
/-! Frames: which register fields and which other parts of the state an operation may change. -/

set_option Elab.async false

namespace Sys2Proof.Machine

/-- The parts of the state beside the registers. -/
inductive Part where
  | ident | store | map | staged | mesh | sched | sweeps | fifo | fltQueue | tallyQueue | tallyStage | mirror | flush
  | shadows | out | resp | free | pending
deriving DecidableEq

/-- A part of the state is as it was. -/
def Part.Same : Part → State → State → Prop
  | .ident, s, t => t.ident = s.ident
  | .store, s, t => t.store = s.store
  | .map, s, t => t.map = s.map
  | .staged, s, t => t.staged = s.staged
  | .mesh, s, t => t.mesh = s.mesh
  | .sched, s, t => t.sched = s.sched
  | .sweeps, s, t => t.sweeps = s.sweeps
  | .fifo, s, t => t.fifo = s.fifo
  | .fltQueue, s, t => t.fltQueue = s.fltQueue
  | .tallyQueue, s, t => t.tallyQueue = s.tallyQueue
  | .tallyStage, s, t => t.tallyStage = s.tallyStage
  | .mirror, s, t => t.mirror = s.mirror
  | .flush, s, t => t.flush = s.flush
  | .shadows, s, t => t.shadows = s.shadows
  | .out, s, t => t.out = s.out
  | .resp, s, t => t.resp = s.resp
  | .free, s, t => t.free = s.free
  | .pending, s, t => t.pending = s.pending

theorem Part.Same.refl (p : Part) (s : State) : p.Same s s := by cases p <;> rfl

theorem Part.Same.trans {p : Part} {s t u : State} (h : p.Same s t) (h' : p.Same t u) : p.Same s u := by
  cases p <;> exact Eq.trans h' h

theorem Part.Same.of_regs (p : Part) (s : State) (r : List (Nat × Nat)) : p.Same s { s with regs := r } := by cases p <;> rfl

/-- What an operation may reach: parts of the state, and register fields. -/
structure Reach where
  parts : List Part
  flds : List Fld

namespace Reach

/-- The fields have the same places. -/
def samePlace (f g : Fld) : Bool := f.base == g.base && f.stride == g.stride && f.cnt == g.cnt

/-- A field is reached. -/
def has (r : Reach) (f : Fld) : Bool := r.flds.any (samePlace f)

/-- A part is reached. -/
def hasPart (r : Reach) (p : Part) : Bool := r.parts.elem p

/-- Whatever is reached by one reach is reached by another. -/
def within (a b : Reach) : Bool := a.parts.all b.hasPart && a.flds.all b.has

/-- What either of two reaches. -/
def and (a b : Reach) : Reach := ⟨a.parts ++ b.parts, a.flds ++ b.flds⟩

end Reach

theorem apart_of_samePlace {f g k : Fld} (h : Reach.samePlace f g = true) (hg : g.apart k = true) : f.apart k = true := by
  simp only [Reach.samePlace, Bool.and_eq_true, beq_iff_eq] at h
  obtain ⟨⟨hbase, hstride⟩, hcnt⟩ := h
  simpa only [Fld.apart, hbase, hstride, hcnt] using hg

/-- Nothing but what `r` reaches has changed. -/
structure Frame (r : Reach) (s t : State) : Prop where
  kinds : OnlyKinds r.flds s t
  parts : ∀ p, r.hasPart p = false → p.Same s t

namespace Frame

variable {r : Reach} {s t u : State}

theorem refl (s : State) : Frame r s s := ⟨OnlyKinds.refl _ _, fun p _ => .refl p s⟩

theorem trans (h : Frame r s t) (h' : Frame r t u) : Frame r s u :=
  ⟨h.kinds.trans h'.kinds, fun p hp => (h.parts p hp).trans (h'.parts p hp)⟩

theorem mono {q : Reach} (h : Frame q s t) (hq : q.within r = true) : Frame r s t := by
  simp only [Reach.within, Bool.and_eq_true, List.all_eq_true] at hq
  obtain ⟨hparts, hflds⟩ := hq
  refine ⟨fun g j hg => h.kinds g j fun f hf => ?_, fun p hp => h.parts p ?_⟩
  · obtain ⟨k, hk, hfk⟩ := List.any_eq_true.1 (hflds f hf)
    exact apart_of_samePlace hfk (hg k hk)
  · by_contra hc
    have := hparts p (List.elem_iff.1 (by simpa [Reach.hasPart] using hc))
    simp [hp] at this

/-- A step with a frame of its own, within that of the whole. -/
theorem lift {q : Reach} (h : Frame r s t) (hq : q.within r = true) (hu : Frame q t t → Frame q t u) : Frame r s u :=
  h.trans ((hu (.refl t)).mono hq)

theorem andThen {q : Reach} (h : Frame r s t) (h' : Frame q t u) (hq : q.within r = true := by decide +kernel) : Frame r s u :=
  h.trans (h'.mono hq)

/-! ## What a frame says -/

theorem rd (h : Frame r s t) {g : Fld} (hg : (r.flds.all fun f => f.apart g) = true) (j : Nat) : t.rd g j = s.rd g j :=
  h.kinds.rd hg j

theorem bit (h : Frame r s t) {g : Fld} (hg : (r.flds.all fun f => f.apart g) = true) (j : Nat) : t.bit g j = s.bit g j :=
  h.kinds.bit hg j

theorem ident (h : Frame r s t) (hp : r.hasPart .ident = false := by rfl) : t.ident = s.ident := h.parts .ident hp

theorem store (h : Frame r s t) (hp : r.hasPart .store = false := by rfl) : t.store = s.store := h.parts .store hp

theorem map (h : Frame r s t) (hp : r.hasPart .map = false := by rfl) : t.map = s.map := h.parts .map hp

theorem staged (h : Frame r s t) (hp : r.hasPart .staged = false := by rfl) : t.staged = s.staged := h.parts .staged hp

theorem mesh (h : Frame r s t) (hp : r.hasPart .mesh = false := by rfl) : t.mesh = s.mesh := h.parts .mesh hp

theorem out (h : Frame r s t) (hp : r.hasPart .out = false := by rfl) : t.out = s.out := h.parts .out hp

theorem resp (h : Frame r s t) (hp : r.hasPart .resp = false := by rfl) : t.resp = s.resp := h.parts .resp hp

theorem sameStore (h : Frame r s t) (hp : r.hasPart .store = false := by rfl) : SameStore s t := .of_store (h.store hp)

end Frame

namespace Reach

/-- Registers alone. -/
abbrev regs (l : List Fld) : Reach := ⟨[], l⟩

/-- Registers, messages sent and the answer. -/
abbrev regsOut (l : List Fld) : Reach := ⟨[.out, .resp], l⟩

/-- Registers, messages sent, the answer and the mesh port. -/
abbrev regsMesh (l : List Fld) : Reach := ⟨[.out, .resp, .mesh], l⟩

/-- What raising a fault reaches. -/
abbrev fault (l : List Fld) : Reach := ⟨[.store, .mesh, .fltQueue, .tallyQueue, .tallyStage, .out], l⟩

/-- Registers, the answer and the staged changes. -/
abbrev staging (l : List Fld) : Reach := ⟨[.staged, .resp], l⟩

end Reach

namespace Frame

variable {r : Reach} {l : List Fld} {s t u : State}

theorem onlyRegs (h : Frame (.regs l) s t) : OnlyRegs s t := by
  have hp (p : Part) : p.Same s t := h.parts p rfl
  exact OnlyRegs.iff.2 ⟨hp .ident, hp .store, hp .map, hp .staged, hp .mesh, hp .sched, hp .sweeps, hp .fifo, hp .fltQueue,
    hp .tallyQueue, hp .tallyStage, hp .mirror, hp .flush, hp .shadows, hp .out, hp .resp, hp .free, hp .pending⟩

theorem onlyRegsOut (h : Frame (.regsOut l) s t) : OnlyRegsOut s t := by
  rw [OnlyRegsOut.iff]
  exact ⟨h.parts .ident rfl, h.parts .store rfl, h.parts .map rfl, h.parts .staged rfl, h.parts .mesh rfl, h.parts .sched rfl,
    h.parts .sweeps rfl, h.parts .fifo rfl, h.parts .fltQueue rfl, h.parts .tallyQueue rfl, h.parts .tallyStage rfl,
    h.parts .mirror rfl, h.parts .flush rfl, h.parts .shadows rfl, h.parts .free rfl, h.parts .pending rfl⟩

theorem onlyRegsMesh (h : Frame (.regsMesh l) s t) : OnlyRegsMesh s t := by
  rw [OnlyRegsMesh.iff]
  exact ⟨h.parts .ident rfl, h.parts .store rfl, h.parts .map rfl, h.parts .staged rfl, h.parts .sched rfl, h.parts .sweeps rfl,
    h.parts .fifo rfl, h.parts .fltQueue rfl, h.parts .tallyQueue rfl, h.parts .tallyStage rfl, h.parts .mirror rfl,
    h.parts .flush rfl, h.parts .shadows rfl, h.parts .free rfl, h.parts .pending rfl⟩

theorem onlyFault (h : Frame (.fault l) s t) : OnlyFault s t := by
  rw [OnlyFault.iff]
  exact ⟨h.parts .ident rfl, h.parts .map rfl, h.parts .staged rfl, h.parts .sched rfl, h.parts .sweeps rfl, h.parts .fifo rfl,
    h.parts .mirror rfl, h.parts .flush rfl, h.parts .shadows rfl, h.parts .resp rfl, h.parts .free rfl, h.parts .pending rfl⟩

theorem onlyStagedOut (h : Frame ⟨[.staged, .out, .resp], l⟩ s t) :
    t = { s with regs := t.regs, staged := t.staged, out := t.out, resp := t.resp } := by
  have h1 := h.parts .ident rfl
  have h2 := h.parts .store rfl
  have h3 := h.parts .map rfl
  have h4 := h.parts .mesh rfl
  have h5 := h.parts .sched rfl
  have h6 := h.parts .sweeps rfl
  have h7 := h.parts .fifo rfl
  have h8 := h.parts .fltQueue rfl
  have h9 := h.parts .tallyQueue rfl
  have h10 := h.parts .tallyStage rfl
  have h11 := h.parts .mirror rfl
  have h12 := h.parts .flush rfl
  have h13 := h.parts .shadows rfl
  have h14 := h.parts .free rfl
  have h15 := h.parts .pending rfl
  cases s
  cases t
  simp_all [Part.Same]

theorem of_onlyFault (hk : OnlyKinds l s t) (h : OnlyFault s t) : Frame (.fault l) s t := by
  obtain ⟨h1, h2, h3, h4, h5, h6, h7, h8, h9, h10, h11, h12⟩ := OnlyFault.iff.1 h
  exact ⟨hk, fun p hp => by cases p <;> simp_all [Part.Same, Reach.hasPart]⟩

theorem of_onlyRegsMesh (hk : OnlyKinds l s t) (h : OnlyRegsMesh s t) : Frame (.regsMesh l) s t := by
  obtain ⟨h1, h2, h3, h4, h5, h6, h7, h8, h9, h10, h11, h12, h13, h14, h15⟩ := OnlyRegsMesh.iff.1 h
  exact ⟨hk, fun p hp => by cases p <;> simp_all [Part.Same, Reach.hasPart]⟩

/-! ## Updates -/

theorem of_regs {x : List (Nat × Nat)} (h : Frame r s t) (hk : OnlyKinds r.flds t { t with regs := x }) :
    Frame r s { t with regs := x } :=
  h.trans ⟨hk, fun p _ => .of_regs p t x⟩

theorem wr (h : Frame r s t) {f : Fld} {i v : Nat} (hf : r.has f = true := by decide +kernel) : Frame r s (t.wr f i v) := by
  obtain ⟨k, hk, hfk⟩ := List.any_eq_true.1 hf
  exact h.of_regs fun g j hg => State.rd_wr_apart t (apart_of_samePlace hfk (hg k hk)) i j v

theorem wrB (h : Frame r s t) {f : Fld} {i : Nat} {v : Bool} (hf : r.has f = true := by decide +kernel) : Frame r s (t.wrB f i v) :=
  h.wr hf

theorem wrS (h : Frame r s t) {f : Fld} {i : Nat} {v : Int} (hf : r.has f = true := by decide +kernel) : Frame r s (t.wrS f i v) :=
  h.wr hf

theorem inc (h : Frame r s t) {f : Fld} {i n : Nat} (hf : r.has f = true := by decide +kernel) : Frame r s (t.inc f i n) :=
  h.wr hf

theorem foldl {α : Type} (h : Frame r s t) {xs : List α} {g : State → α → State} (hg : ∀ u x, Frame r s u → Frame r s (g u x)) :
    Frame r s (xs.foldl g t) := by
  induction xs generalizing t with
  | nil => exact h
  | cons x xs ih => exact ih (hg t x h)

theorem foldlMem {α : Type} (h : Frame r s t) {xs : List α} {g : State → α → State}
    (hg : ∀ u, ∀ x ∈ xs, Frame r s u → Frame r s (g u x)) : Frame r s (xs.foldl g t) := by
  induction xs generalizing t with
  | nil => exact h
  | cons x xs ih => exact ih (hg t x List.mem_cons_self h) fun u y hy => hg u y (List.mem_cons_of_mem x hy)

theorem each (h : Frame r s t) {l : List Nat} {g : State → Nat → State} (hg : ∀ u x, Frame r s u → Frame r s (g u x)) :
    Frame r s (t.each l g) := h.foldl hg

theorem wrAll (h : Frame r s t) {f : Fld} {l : List Nat} {v : Nat → Nat} (hf : r.has f = true := by decide +kernel) :
    Frame r s (t.wrAll f l v) := h.foldl fun _ _ hu => hu.wr hf

theorem when (h : Frame r s t) {c : Bool} {g : State → State} (hg : ∀ u, Frame r s u → Frame r s (g u)) : Frame r s (t.when c g) := by
  unfold State.when
  split
  · exact hg t h
  · exact h

theorem ite {c : Prop} [Decidable c] (ht : Frame r s t) (hu : Frame r s u) : Frame r s (if c then t else u) := by
  split
  · exact ht
  · exact hu

theorem clearFld (h : Frame r s t) {f : Fld} (hf : r.has f = true := by decide +kernel) : Frame r s (t.clearFld f) := by
  obtain ⟨k, hk, hfk⟩ := List.any_eq_true.1 hf
  exact h.of_regs fun g j hg => OnlyKinds.clearFld (List.mem_singleton.2 rfl) t g j
    (by simpa using apart_of_samePlace hfk (hg k hk))

theorem clearFlds (h : Frame r s t) {fs : List Fld} (hf : fs.all r.has = true := by decide +kernel) : Frame r s (t.clearFlds fs) :=
  h.foldlMem fun _ f hm hu => hu.clearFld (List.all_eq_true.1 hf f hm)

theorem clearElems (h : Frame r s t) {fs : List Fld} {i : Nat} (hf : fs.all r.has = true := by decide +kernel) :
    Frame r s (t.clearElems fs i) := h.foldlMem fun _ f hm hu => hu.wr (List.all_eq_true.1 hf f hm)

theorem clearEcc (h : Frame r s t) {a n : Nat} (hf : r.has H.STORE_ECC = true := by decide +kernel) : Frame r s (t.clearEcc a n) := by
  obtain ⟨k, hk, hfk⟩ := List.any_eq_true.1 hf
  exact h.of_regs fun g j hg => OnlyKinds.clearEcc (List.mem_singleton.2 rfl) t a n g j
    (by simpa using apart_of_samePlace hfk (hg k hk))

/-- A change of one part of the state. -/
theorem of_part (h : Frame r s t) {p : Part} (hr : u.regs = t.regs) (hq : ∀ q, q ≠ p → q.Same t u) (hp : r.hasPart p = true) :
    Frame r s u :=
  h.trans ⟨OnlyKinds.of_regs _ hr, fun q hn => hq q fun e => by rw [e, hp] at hn; cases hn⟩

theorem setStore (h : Frame r s t) {x : List Host.Cell} (hp : r.hasPart .store = true := by rfl) :
    Frame r s { t with store := x } :=
  h.of_part rfl (fun q hq => by cases q <;> simp_all [Part.Same]) hp

theorem setMap (h : Frame r s t) {x : MapState} (hp : r.hasPart .map = true := by rfl) :
    Frame r s { t with map := x } :=
  h.of_part rfl (fun q hq => by cases q <;> simp_all [Part.Same]) hp

theorem setStaged (h : Frame r s t) {x : List Staged} (hp : r.hasPart .staged = true := by rfl) :
    Frame r s { t with staged := x } :=
  h.of_part rfl (fun q hq => by cases q <;> simp_all [Part.Same]) hp

theorem setMesh (h : Frame r s t) {x : MeshPort} (hp : r.hasPart .mesh = true := by rfl) :
    Frame r s { t with mesh := x } :=
  h.of_part rfl (fun q hq => by cases q <;> simp_all [Part.Same]) hp

theorem setSched (h : Frame r s t) {x : List SchedEntry} (hp : r.hasPart .sched = true := by rfl) :
    Frame r s { t with sched := x } :=
  h.of_part rfl (fun q hq => by cases q <;> simp_all [Part.Same]) hp

theorem setSweeps (h : Frame r s t) {x : List Sweep} (hp : r.hasPart .sweeps = true := by rfl) :
    Frame r s { t with sweeps := x } :=
  h.of_part rfl (fun q hq => by cases q <;> simp_all [Part.Same]) hp

theorem setFifo (h : Frame r s t) {x : List FifoWord} (hp : r.hasPart .fifo = true := by rfl) :
    Frame r s { t with fifo := x } :=
  h.of_part rfl (fun q hq => by cases q <;> simp_all [Part.Same]) hp

theorem setFltQueue (h : Frame r s t) {x : List FltEvent} (hp : r.hasPart .fltQueue = true := by rfl) :
    Frame r s { t with fltQueue := x } :=
  h.of_part rfl (fun q hq => by cases q <;> simp_all [Part.Same]) hp

theorem setTallyQueue (h : Frame r s t) {x : List TallyReq} (hp : r.hasPart .tallyQueue = true := by rfl) :
    Frame r s { t with tallyQueue := x } :=
  h.of_part rfl (fun q hq => by cases q <;> simp_all [Part.Same]) hp

theorem setTallyStage (h : Frame r s t) {x : List TallyReq} (hp : r.hasPart .tallyStage = true := by rfl) :
    Frame r s { t with tallyStage := x } :=
  h.of_part rfl (fun q hq => by cases q <;> simp_all [Part.Same]) hp

theorem setMirror (h : Frame r s t) {x : List MirrorSlot} (hp : r.hasPart .mirror = true := by rfl) :
    Frame r s { t with mirror := x } :=
  h.of_part rfl (fun q hq => by cases q <;> simp_all [Part.Same]) hp

theorem setFlush (h : Frame r s t) {x : Option MirrorSlot} (hp : r.hasPart .flush = true := by rfl) :
    Frame r s { t with flush := x } :=
  h.of_part rfl (fun q hq => by cases q <;> simp_all [Part.Same]) hp

theorem setShadows (h : Frame r s t) {x : List (Requester × Nat × Nat)} (hp : r.hasPart .shadows = true := by rfl) :
    Frame r s { t with shadows := x } :=
  h.of_part rfl (fun q hq => by cases q <;> simp_all [Part.Same]) hp

theorem setOut (h : Frame r s t) {x : List Msg} (hp : r.hasPart .out = true := by rfl) :
    Frame r s { t with out := x } :=
  h.of_part rfl (fun q hq => by cases q <;> simp_all [Part.Same]) hp

theorem setResp (h : Frame r s t) {x : Resp} (hp : r.hasPart .resp = true := by rfl) :
    Frame r s { t with resp := x } :=
  h.of_part rfl (fun q hq => by cases q <;> simp_all [Part.Same]) hp

theorem setFree (h : Frame r s t) {x : Nat} (hp : r.hasPart .free = true := by rfl) :
    Frame r s { t with free := x } :=
  h.of_part rfl (fun q hq => by cases q <;> simp_all [Part.Same]) hp

theorem st (h : Frame r s t) {a n v : Nat} (hp : r.hasPart .store = true := by rfl)
    (hf : r.has H.STORE_ECC = true := by decide +kernel) : Frame r s (t.st a n v) := (h.setStore hp).clearEcc hf

theorem stBytes (h : Frame r s t) {a : Nat} {b : List Byte} (hp : r.hasPart .store = true := by rfl)
    (hf : r.has H.STORE_ECC = true := by decide +kernel) : Frame r s (t.stBytes a b) := (h.setStore hp).clearEcc hf

theorem send (h : Frame r s t) {m : Msg} (hp : r.hasPart .out = true := by rfl) : Frame r s (t.send m) := h.setOut hp

theorem answer (h : Frame r s t) {x : Resp} (hp : r.hasPart .resp = true := by rfl) : Frame r s (t.answer x) :=
  h.setResp hp

theorem freeStep (h : Frame r s t) (hp : r.hasPart .free = true := by rfl) : Frame r s t.freeStep := h.setFree hp

end Frame

end Sys2Proof.Machine
end

section
/-! What each operation of the model may change, in the order of the model's files: its reach, and its frame, which follows the
operation as it is defined. -/

set_option Elab.async false

namespace Sys2Proof.Machine.Frame

variable {ρ : Reach} {s t : State}

/-! ## The named operations of the state -/

def sendRes1Reach : Reach := ⟨[.out, .mesh], [H.GL_SPENT]⟩

theorem sendRes1 (h : Frame ρ s t) {m : MeshMsg} {e : Endpoint} (hr : sendRes1Reach.within ρ = true := by decide +kernel) :
    Frame ρ s (t.sendRes1 m e) :=
  h.lift hr fun h => ite h.wr.send h.setMesh

def sendResReach : Reach := sendRes1Reach

theorem sendRes (h : Frame ρ s t) {m : MeshMsg} {es : List Endpoint} (hr : sendResReach.within ρ = true := by decide +kernel) :
    Frame ρ s (t.sendRes m es) :=
  h.lift hr fun h => h.foldl (fun _ _ hu => hu.sendRes1)

def sendOrdReach : Reach := ⟨[.out, .mesh], []⟩

theorem sendOrd (h : Frame ρ s t) {m : MeshMsg} {es : List Endpoint} (hr : sendOrdReach.within ρ = true := by decide +kernel) :
    Frame ρ s (t.sendOrd m es) :=
  h.lift hr fun h => by
    unfold State.sendOrd
    split
    · exact h
    · exact (h.send (m := .mesh es m)).setMesh

def stopSendingReach : Reach := ⟨[.mesh], []⟩

theorem stopSending (h : Frame ρ s t) (hr : stopSendingReach.within ρ = true := by decide +kernel) :
    Frame ρ s (t.stopSending) :=
  h.lift hr fun h => h.setMesh

/-! ## Records, fault sources and their tests -/

def hostIrqReach : Reach := ⟨[.out], [R.HOST_IRQ_CPL, R.HOST_IRQ_EVENT, R.HOST_IRQ_MBOX, R.HOST_IRQ_MBOX_ACK, R.HOST_IRQ_LOG,
  R.HOST_IRQ_UNATT]⟩

theorem hostIrq (h : Frame ρ s t) {b : Nat} (hr : hostIrqReach.within ρ = true := by decide +kernel) : Frame ρ s
    (t.hostIrq b) :=
  h.lift hr fun h => by
    have hf : hostIrqReach.has (irqFld b) = true := by unfold irqFld; split <;> rfl
    exact ite (h.wr hf).send (h.wr hf)

def postCplReach : Reach := .fault tellFields

theorem postCpl (h : Frame ρ s t) {n tag status op r0 r1 : Nat} (hr : postCplReach.within ρ = true := by decide +kernel) :
    Frame ρ s (t.postCpl n tag status op r0 r1) :=
  h.andThen (.of_onlyFault (State.postCpl_kinds n tag status op r0 r1 t) (State.postCpl_fault n tag status op r0 r1 t)) hr

def tallyReach : Reach := ⟨[.tallyQueue, .tallyStage], [R.TALLY_DROPPED_DROPPED]⟩

theorem tally (h : Frame ρ s t) {ch sev code d0 d1 : Nat} {inj : Bool} (hr : tallyReach.within ρ = true := by decide +kernel) :
    Frame ρ s (t.tally ch sev code d0 d1 inj) :=
  h.lift hr fun h => ite (ite h.setTallyQueue h.inc) (ite h.setTallyStage h.inc)

def recordsTogetherReach : Reach := ⟨[.tallyQueue, .tallyStage], []⟩

theorem recordsTogether (h : Frame ρ s t) {s' : Machine.State}
    (hr : recordsTogetherReach.within ρ = true := by decide +kernel) :
    Frame ρ s (s'.recordsTogether t) :=
  h.lift hr fun h => h.trans ⟨OnlyKinds.of_regs _ rfl, fun p hp => by cases p <;> simp_all [Part.Same, Reach.hasPart,
    recordsTogetherReach, State.recordsTogether]⟩

def testActionReach : Reach := .fault testFields

theorem testAction (h : Frame ρ s t) {k i : Nat} (hr : testActionReach.within ρ = true := by decide +kernel) :
    Frame ρ s (t.testAction k i) :=
  h.andThen (.of_onlyFault (State.testAction_kinds k i t) (State.testAction_fault k i t)) hr

def startTestReach : Reach := .fault testFields

theorem startTest (h : Frame ρ s t) {n : Nat} (hr : startTestReach.within ρ = true := by decide +kernel) :
    Frame ρ s (t.startTest n) :=
  h.andThen (.of_onlyFault (State.startTest_kinds n t) (State.startTest_fault n t)) hr

def endTestReach : Reach := ⟨[], [H.PD_LOOP_PH, H.PD_TEST_PULSE, H.FLT_TEST_LEFT, H.FLT_TEST_PEND, H.PD_LOOP_RAIL,
  H.TH_RESWEEP, H.TH_REF_DUE]⟩

theorem endTest (h : Frame ρ s t) {n : Nat} (hr : endTestReach.within ρ = true := by decide +kernel) :
    Frame ρ s (t.endTest n) :=
  h.lift hr fun h => by
    unfold State.endTest
    split
    · exact h.wr.wr.wr.wr
    · exact h.wr.wr.wr
    · split
      · exact h.wr.wr.wr
      · exact h.wr.wr
    · exact h.wr.wr.wr
    · exact h.wr.wr.wr
    · exact h.wr.wr.wr
    · exact h.wr.wr.wr
    · exact h.wr.wr

def srcRecordReach : Reach := .fault tellFields

theorem srcRecord (h : Frame ρ s t) {n : Nat} (hr : srcRecordReach.within ρ = true := by decide +kernel) :
    Frame ρ s (t.srcRecord n) :=
  h.andThen (.of_onlyFault (State.srcRecord_kinds n t) (State.srcRecord_fault n t)) hr

def postEventReach : Reach := .fault tellFields

theorem postEvent (h : Frame ρ s t) {e : FltEvent} (hr : postEventReach.within ρ = true := by decide +kernel) :
    Frame ρ s (t.postEvent e) :=
  h.andThen (.of_onlyFault (State.postEvent_kinds e t) (State.postEvent_fault e t)) hr

def drainEventsReach : Reach := .fault tellFields

theorem drainEvents (h : Frame ρ s t) (hr : drainEventsReach.within ρ = true := by decide +kernel) :
    Frame ρ s (t.drainEvents) :=
  h.andThen (.of_onlyFault (State.drainEvents_kinds t) (State.drainEvents_fault t)) hr

def pushEventReach : Reach := .fault tellFields

theorem pushEvent (h : Frame ρ s t) {e : FltEvent} (hr : pushEventReach.within ρ = true := by decide +kernel) :
    Frame ρ s (t.pushEvent e) :=
  h.andThen (.of_onlyFault (State.pushEvent_kinds e t) (State.pushEvent_fault e t)) hr

def noteChangeReach : Reach := .fault tellFields

theorem noteChange (h : Frame ρ s t) {n : Nat} (hr : noteChangeReach.within ρ = true := by decide +kernel) :
    Frame ρ s (t.noteChange n) :=
  h.andThen (.of_onlyFault (State.noteChange_kinds n t) (State.noteChange_fault n t)) hr

def enterStateReach : Reach := .fault faultFields

theorem enterState (h : Frame ρ s t) {n st : Nat} (hr : enterStateReach.within ρ = true := by decide +kernel) :
    Frame ρ s (t.enterState n st) :=
  h.andThen (.of_onlyFault (State.enterState_kinds n st t) (State.enterState_fault n st t)) hr

def nmiAllReach : Reach := ⟨[.out], []⟩

theorem nmiAll (h : Frame ρ s t) (hr : nmiAllReach.within ρ = true := by decide +kernel) : Frame ρ s t.nmiAll :=
  h.lift hr fun h => h.foldl fun _ _ hu => hu.send

def countEventReach : Reach := .fault faultFields

theorem countEvent (h : Frame ρ s t) {n k : Nat} (hr : countEventReach.within ρ = true := by decide +kernel) :
    Frame ρ s (t.countEvent n k) :=
  h.andThen (.of_onlyFault (State.countEvent_kinds n k t) (State.countEvent_fault n k t)) hr

def raiseReach : Reach := .fault faultFields

theorem raise (h : Frame ρ s t) {n cls : Nat} {inj : Bool} (hr : raiseReach.within ρ = true := by decide +kernel) :
    Frame ρ s (t.raise n cls inj) :=
  h.andThen (.of_onlyFault (State.raise_kinds n cls inj t) (State.raise_fault n cls inj t)) hr

def injectedReach : Reach := ⟨[], [R.FLT_INJ_STAT_DONE, R.FLT_INJ_ARM]⟩

theorem injected (h : Frame ρ s t) (hr : injectedReach.within ρ = true := by decide +kernel) :
    Frame ρ s (t.injected) :=
  h.lift hr fun h => h.wr.when (fun _ hu => hu.wr)

def faultReach : Reach := .fault faultFields

theorem fault (h : Frame ρ s t) {k i cls : Nat} {inj : Bool} (hr : faultReach.within ρ = true := by decide +kernel) :
    Frame ρ s (t.fault k i cls inj) :=
  h.andThen (.of_onlyFault (State.fault_kinds k i cls inj t) (State.fault_fault k i cls inj t)) hr

def eccEventReach : Reach := faultReach.and <| ⟨[], [H.STORE_FROW, R.STORE_STAT_CE, R.STORE_UE_ADDR, R.STORE_UE_VALID,
  R.STORE_STAT_UE]⟩

theorem eccEvent (h : Frame ρ s t) {word e : Nat} (hr : eccEventReach.within ρ = true := by decide +kernel) :
    Frame ρ s (t.eccEvent word e) :=
  h.lift hr fun h => ite h.wr.inc.wr.fault (ite h.wr.inc.wr.wr.wr.fault h)

def dmaReadReach : Reach := eccEventReach

theorem dmaRead (h : Frame ρ s t) {a n : Nat} (hr : dmaReadReach.within ρ = true := by decide +kernel) :
    Frame ρ s (t.dmaRead a n) :=
  h.lift hr fun h => h.foldl (fun _ _ hu => hu.when (fun _ hu1 => hu1.eccEvent))

def rerankReach : Reach := ⟨[], [R.PD_PH_STAT_RANK]⟩

theorem rerank (h : Frame ρ s t) {r : Nat} (hr : rerankReach.within ρ = true := by decide +kernel) :
    Frame ρ s (t.rerank r) :=
  h.lift hr fun h => h.foldl (fun _ _ hu => hu.wr)

def unfenceReach : Reach := rerankReach.and <| ⟨[], [R.PD_PH_STAT_CAUSE, R.PD_PH_STAT_STATE]⟩

theorem unfence (h : Frame ρ s t) {p : Nat} (hr : unfenceReach.within ρ = true := by decide +kernel) :
    Frame ρ s (t.unfence p) :=
  h.lift hr fun h => ite h.wr.wr.rerank h

def underateReach : Reach := ⟨[], [R.PD_PH_DUTY_SHARE, R.PD_PH_STAT_DERATED]⟩

theorem underate (h : Frame ρ s t) {p : Nat} (hr : underateReach.within ρ = true := by decide +kernel) :
    Frame ρ s (t.underate p) :=
  h.lift hr fun h => ite h.wr.wr h

def recountReach : Reach := ⟨[], [R.TH_PAD_STAT_EXCLUDED, R.TH_PAD_STAT_FAILED, R.TH_PAD_STAT_SUSPECT]⟩

theorem recount (h : Frame ρ s t) {p : Nat} (hr : recountReach.within ρ = true := by decide +kernel) :
    Frame ρ s (t.recount p) :=
  h.lift hr fun h => h.wr.wr.wr

def releaseReach : Reach := recountReach.and <| unfenceReach.and <| underateReach.and <| ⟨[], [H.LE_REL_FAULT, H.LE_HOLD_SEV,
  H.LE_HOLD_GOLD, R.LE_SLOT_MODE_PLAUS_HOLD, R.LE_SLOT_PLAUS_RUN_CNT, R.TH_PAD_STAT_DIODE_FAIL, R.TH_DIODE_FAILED, H.TH_HOT,
  R.CROOK_CELL_STUCK, H.TH_SFAIL, H.TH_SUSC, H.TH_HIGHC, R.TH_SITE_STATE]⟩

theorem release (h : Frame ρ s t) {n : Nat} (hr : releaseReach.within ρ = true := by decide +kernel) :
    Frame ρ s (t.release n) :=
  h.lift hr fun h => by
    unfold State.release
    split
    · exact ite (h.when (fun _ hu => hu.wr)).wr.wr.wr.wr h
    · exact ite h.underate (ite (h.underate.when (fun _ hu => hu.wr)) h.underate.unfence)
    · exact h.wr.wrAll
    · exact h.wr
    · exact h.wr
    · exact h.clearElems.when (fun _ hu => hu.wr.recount)
    · exact h

def toClearReach : Reach := releaseReach.and <| noteChangeReach.and <| ⟨[], [H.FLT_SEV_DUE, R.FLT_SRC_COUNT_RECOVERIES,
  R.FLT_SRC_STATE_QUIET_LEFT, R.FLT_SRC_STATE_CLASS, R.FLT_SRC_STATE_STATE]⟩

theorem toClear (h : Frame ρ s t) {n : Nat} (hr : toClearReach.within ρ = true := by decide +kernel) :
    Frame ρ s (t.toClear n) :=
  h.lift hr fun h => h.wr.wr.wr.inc.wr.release.srcRecord.noteChange

def applyVerdictReach : Reach := noteChangeReach.and <| endTestReach.and <| ⟨[], [R.FLT_SRC_STATE_VERDICT,
  R.FLT_SRC_STATE_CLASS, R.FLT_SRC_STATE_QUIET_LEFT, R.FLT_SRC_STATE_STATE]⟩

theorem applyVerdict (h : Frame ρ s t) {n : Nat} {v : TestVerdict}
    (hr : applyVerdictReach.within ρ = true := by decide +kernel) :
    Frame ρ s (t.applyVerdict n v) :=
  h.lift hr fun h => ite (ite (h.endTest.wr.when (fun _ hu => hu.wr)).srcRecord (h.endTest.wr.when
    (fun _ hu => hu.wr)).wr.wr.srcRecord.noteChange) (ite (ite (h.endTest.wr.when
    (fun _ hu => hu.wr)).wr.wr.srcRecord.noteChange h.endTest.wr) (h.endTest.wr.when (fun _ hu => hu.wr)).srcRecord)

/-! ## Writes judged and staged -/

def refuseReach : Reach := ⟨[.resp], [R.FLT_REJECT_INFO_OFFSET, R.FLT_REJECT_INFO_REQ, R.FLT_REJECT_INFO_CAUSE,
  R.FLT_REJECT_COUNT]⟩

theorem refuse (h : Frame ρ s t) {w : WCtx} {off cause : Nat} (hr : refuseReach.within ρ = true := by decide +kernel) :
    Frame ρ s (t.refuse w off cause) :=
  h.lift hr fun h => h.inc.wr.wr.wr.answer

theorem judgedAt (h : Frame ρ s t) {w : WCtx} {off : Nat} {f : Fld} {i : Nat} {same rule : Bool} {act : State → State}
    (hact : ∀ u, Frame ρ s u → Frame ρ s (act u)) (hr : refuseReach.within ρ = true := by decide +kernel)
    (hp : ρ.hasPart .resp = true := by rfl) : Frame ρ s (t.judgedAt w off f i same rule act) := by
  unfold State.judgedAt
  refine ite (h.answer hp) (ite (h.refuse hr) ?_)
  split
  · exact ite (h.answer hp) (h.refuse hr)
  · exact ite ((hact _ h).answer hp) (h.refuse hr)

theorem judged (h : Frame ρ s t) {w : WCtx} {f : Fld} {i v : Nat} {rule : Bool} {act : State → State}
    (hact : ∀ u, Frame ρ s u → Frame ρ s (act u)) (hr : refuseReach.within ρ = true := by decide +kernel)
    (hp : ρ.hasPart .resp = true := by rfl) : Frame ρ s (t.judged w f i v rule act) := h.judgedAt hact hr hp

def stageReach : Reach := ⟨[.staged], [R.FRAME_STAT_DEFER_CNT]⟩

theorem stage (h : Frame ρ s t) {w : WCtx} {a : StagedAct} (hr : stageReach.within ρ = true := by decide +kernel) :
    Frame ρ s (t.stage w a) :=
  h.lift hr fun h => ite h.setStaged.inc h.setStaged

def stageAllReach : Reach := ⟨[.staged], [R.FRAME_STAT_DEFER_CNT]⟩

theorem stageAll (h : Frame ρ s t) {w : WCtx} {l : List StagedAct} (hr : stageAllReach.within ρ = true := by decide +kernel) :
    Frame ρ s (t.stageAll w l) :=
  h.lift hr fun h => h.setStaged.when (fun _ hu => hu.inc)

theorem stageCmd (h : Frame ρ s t) {w : WCtx} {f : Fld} {i : Nat} {a : StagedAct} (hf : ρ.has f = true := by decide +kernel)
    (hr : stageReach.within ρ = true := by decide +kernel) : Frame ρ s (t.stageCmd w f i a) := (h.wr hf).stage hr

/-! ## Bellwether -/

def acceptSeqReach : Reach := ⟨[], [H.BW_SEEN, R.BW_FOLD_STAT_LAST_SEQ, R.BW_FOLD_CNT0_GAP]⟩

theorem acceptSeq (h : Frame ρ s t) {f seq : Nat} (hr : acceptSeqReach.within ρ = true := by decide +kernel) :
    Frame ρ s (t.acceptSeq f seq) :=
  h.lift hr fun h => (ite h.inc h).wr.wr

def enterIntentReach : Reach := ⟨[.sched], [R.BW_FOLD_CNT1_DROP, R.BW_FOLD_CNT1_DUP_TAG]⟩

theorem enterIntent (h : Frame ρ s t) {f k : Nat} {start : Int} {m : IntentMsg}
    (hr : enterIntentReach.within ρ = true := by decide +kernel) :
    Frame ρ s (t.enterIntent f k start m) :=
  h.lift hr fun h => ite h.inc (h.when (fun _ hu => hu.inc)).setSched

def takeIntentReach : Reach := acceptSeqReach.and <| enterIntentReach.and <| ⟨[], [R.BW_FOLD_CNT0_BAD, R.BW_FOLD_CNT1_NOMAP,
  R.BW_FOLD_CNT0_STALE, R.BW_FOLD_CNT1_FAR, R.BW_FOLD_CNT0_LATE]⟩

theorem takeIntent (h : Frame ρ s t) {d : Nat} {m : IntentMsg} (hr : takeIntentReach.within ρ = true := by decide +kernel) :
    Frame ρ s (t.takeIntent d m) :=
  h.lift hr fun h => ite h.inc (ite h.inc (ite h.inc (ite h.acceptSeq.enterIntent (ite h.acceptSeq.inc
    (ite h.acceptSeq h.acceptSeq.inc.enterIntent)))))

def digestReach : Reach := ⟨[], [H.BW_CRC]⟩

theorem digest (h : Frame ρ s t) {bs : List Nat} (hr : digestReach.within ρ = true := by decide +kernel) :
    Frame ρ s (t.digest bs) :=
  h.lift hr fun h => h.wr

theorem arrive (h : Frame ρ s t) {d : Nat} {bs : List Nat} {take : State → State} (htake : ∀ u, Frame ρ s u → Frame ρ s
    (take u))
    (hr : digestReach.within ρ = true := by decide +kernel) (hf : ρ.has H.BW_ARRIVED = true := by decide +kernel)
    (hd : ρ.has R.BW_FOLD_CNT1_DROP = true := by decide +kernel) : Frame ρ s (t.arrive d bs take) :=
  ite h (ite (h.inc hd) (htake _ ((h.digest hr).wr hf)))

def takeCancelReach : Reach := acceptSeqReach.and <| ⟨[.sched], [R.BW_FOLD_CNT0_BAD, R.BW_FOLD_CNT1_NOMAP,
  R.BW_FOLD_CNT0_STALE]⟩

theorem takeCancel (h : Frame ρ s t) {d fold tag seq rsv : Nat} (hr : takeCancelReach.within ρ = true := by decide +kernel) :
    Frame ρ s (t.takeCancel d fold tag seq rsv) :=
  h.lift hr fun h => ite h.inc (ite h.inc (ite h.inc h.acceptSeq.setSched))

def expireSchedReach : Reach := ⟨[.sched], []⟩

theorem expireSched (h : Frame ρ s t) {k : Nat} (hr : expireSchedReach.within ρ = true := by decide +kernel) :
    Frame ρ s (t.expireSched k) :=
  h.lift hr fun h => h.setSched

def setFcastReach : Reach := .regs fcastFlds

theorem setFcast (h : Frame ρ s t) {f : Nat} {v : List Nat} (hr : setFcastReach.within ρ = true := by decide +kernel) :
    Frame ρ s (t.setFcast f v) :=
  h.lift hr fun h => h.foldlMem fun _ _ hp hu => hu.wr
    (List.all_eq_true.1 (show fcastFlds.all setFcastReach.has = true by decide +kernel) _ (List.of_mem_zip hp).1)

def evalFoldReach : Reach := setFcastReach.and <| ⟨[], [R.BW_FOLD_STAT_VALID]⟩

theorem evalFold (h : Frame ρ s t) {f : Nat} (hr : evalFoldReach.within ρ = true := by decide +kernel) :
    Frame ρ s (t.evalFold f) :=
  h.lift hr fun h => by
    unfold State.evalFold
    split
    · exact h.setFcast.wr
    · exact h.setFcast.wr

theorem show16 (h : Frame ρ s t) {f : Fld} {i v : Nat} (hf : ρ.has f = true := by decide +kernel)
    (hp : ρ.hasPart .free = true := by rfl) : Frame ρ s (t.show16 f i v) := ite (h.wr hf) ((h.wr hf).freeStep hp)

def showMaxReach : Reach := ⟨[.free], [R.BW_RAIL_FCAST_MAX]⟩

theorem showMax (h : Frame ρ s t) {r : Nat} (hr : showMaxReach.within ρ = true := by decide +kernel) :
    Frame ρ s (t.showMax r) :=
  h.lift hr fun h => h.show16

def evalRailReach : Reach := showMaxReach.and <| ⟨[], [H.BW_RISE, H.BW_FRAIL]⟩

theorem evalRail (h : Frame ρ s t) {r : Nat} (hr : evalRailReach.within ρ = true := by decide +kernel) :
    Frame ρ s (t.evalRail r) :=
  h.lift hr fun h => (h.foldl (fun _ _ hu => hu.wr)).showMax.wrB

def missTestReach : Reach := ⟨[.sched], [R.BW_RAIL_STAT_MISSES]⟩

theorem missTest (h : Frame ρ s t) {r : Nat} (hr : missTestReach.within ρ = true := by decide +kernel) :
    Frame ρ s (t.missTest r) :=
  h.lift hr fun h => ite h.setSched.inc h

def bwOnceReach : Reach := evalFoldReach.and <| evalRailReach.and <| missTestReach.and <| ⟨[], [H.BW_CYC_NOW, H.BW_DONE]⟩

theorem bwOnce (h : Frame ρ s t) (hr : bwOnceReach.within ρ = true := by decide +kernel) :
    Frame ρ s (t.bwOnce) :=
  h.lift hr fun h => ite h (((h.foldl (fun _ _ hu => hu.missTest)).foldl (fun _ _ hu => hu.evalFold)).foldl
    (fun _ _ hu => hu.evalRail)).wr.wr

def weightErrReach : Reach := faultReach.and <| ⟨[], [R.BW_STATUS_WEIGHT_ERR, R.BW_STATUS_NET_VALID]⟩

theorem weightErr (h : Frame ρ s t) {inj : Bool} {e : WeightErr} (hr : weightErrReach.within ρ = true := by decide +kernel) :
    Frame ρ s (State.weightErr inj t e) :=
  h.lift hr fun h => by
    unfold State.weightErr
    split
    · exact h
    · exact ite h.wr.wr.fault h.fault

def dropFoldsReach : Reach := evalFoldReach

theorem dropFolds (h : Frame ρ s t) (hr : dropFoldsReach.within ρ = true := by decide +kernel) :
    Frame ρ s (t.dropFolds) :=
  h.lift hr fun h => h.foldl (fun _ _ hu => hu.evalFold)

def dropInvalidReach : Reach := dropFoldsReach.and <| evalRailReach

theorem dropInvalid (h : Frame ρ s t) (hr : dropInvalidReach.within ρ = true := by decide +kernel) :
    Frame ρ s (t.dropInvalid) :=
  h.lift hr fun h => h.dropFolds.foldl (fun _ _ hu => hu.evalRail)

def evalNetsReach : Reach := weightErrReach.and <| bwOnceReach.and <| injectedReach

theorem evalNets (h : Frame ρ s t) {errs : List WeightErr} (hr : evalNetsReach.within ρ = true := by decide +kernel) :
    Frame ρ s (t.evalNets errs) :=
  h.lift hr fun h => ite (ite ((h.foldl (fun _ _ hu => hu.weightErr)).when
    (fun _ hu => hu.weightErr.injected)).bwOnce.dropInvalid ((h.foldl (fun _ _ hu => hu.weightErr)).when
    (fun _ hu => hu.weightErr.injected)).bwOnce) h

def bwBoundaryReach : Reach := expireSchedReach.and <| ⟨[.free], [H.BW_FRAIL, H.BW_DONE, H.BW_CYC_NOW, H.BW_ARRIVED, H.BW_CRC,
  H.BW_DIGEST, R.BW_STATUS_CYCLES, R.BW_STATUS_RUNNING, H.BW_RISE, H.BW_TRIPC, R.BW_RAIL_STAT_DEFER, R.BW_RAIL_FCAST_NOW,
  H.BW_FNOW]⟩

theorem bwBoundary (h : Frame ρ s t) {k : Nat} (hr : bwBoundaryReach.within ρ = true := by decide +kernel) :
    Frame ρ s (t.bwBoundary k) :=
  h.lift hr fun h => (h.expireSched.foldl (fun _ _ hu => (hu.foldl
    (fun _ _ hu1 => hu1.wr)).wr.show16.wrB.wr.wr)).wrB.wr.wr.clearElems.clearFld

def bwCurrentsReach : Reach := ⟨[], [H.BW_RI_HIST]⟩

theorem bwCurrents (h : Frame ρ s t) (hr : bwCurrentsReach.within ρ = true := by decide +kernel) :
    Frame ρ s (t.bwCurrents) :=
  h.lift hr fun h => h.foldl (fun _ _ hu => (hu.foldl (fun _ _ hu1 => hu1.wr)).wrS)

/-! ## The Loop Engine -/

def injectReach : Reach := ⟨[], [H.LE_INJ_ON, H.LE_INJ_CNT, H.LE_INJ_NEG, H.LE_INJ_LFSR]⟩

theorem inject (h : Frame ρ s t) {l : Nat} (hr : injectReach.within ρ = true := by decide +kernel) : Frame ρ s
    (t.inject l).2.2 :=
  h.lift hr fun h => by
    unfold State.inject
    split
    · exact h.wr
    · exact h.wr.wr.wrB.wr

def plausRunReach : Reach := ⟨[], [H.LE_PL_Y1, H.LE_PL_Y2, H.LE_PL_U1, H.LE_PL_U2, H.LE_PL_FILL, R.LE_SLOT_PLAUS_RUN_CNT,
  R.LE_SLOT_PLAUS_RESID, H.LE_PL_TRIP]⟩

theorem plausRun (h : Frame ρ s t) {l : Nat} {y0 : Val} {o : Int} {preset : Bool}
    (hr : plausRunReach.within ρ = true := by decide +kernel) :
    Frame ρ s (t.plausRun l y0 o preset).2 :=
  h.lift hr fun h => by
    unfold State.plausRun
    split
    · exact h
    · extract_lets _ _ _ _ _ _ _ _ moved
      have hmoved : Frame plausRunReach t moved := h.wrS.wrS.wrS.wrS
      split
      · exact hmoved.wr.wr
      · exact (hmoved.wrS.wr).when fun _ hu => hu.wr

def captureReach : Reach := ⟨[.free], [R.LE_SLOT_CAP_ARM, R.LE_SLOT_CAP_STAT_DONE, H.LE_CAP_LEFT, R.LE_SLOT_CAP_STAT_TRIG_IDX,
  R.LE_SLOT_CAP_STAT_TRIGGERED, R.LE_SLOT_CAP_STAT_WPTR, H.LE_CAP_SAMPLE, R.LE_SLOT_CAP_STAT_FULL]⟩

theorem capture (h : Frame ρ s t) {l low : Nat} {v : Option Val} {start sticky : Bool}
    (hr : captureReach.within ρ = true := by decide +kernel) :
    Frame ρ s (t.capture l low v start sticky) :=
  h.lift hr fun h => ite h (ite (ite (ite ((ite h.freeStep h).wr.wr.when (fun _ hu => hu.wr)).wr.wr.wr
    ((ite h.freeStep h).wr.wr.when (fun _ hu => hu.wr))).wr.wr.wr (ite ((ite h.freeStep h).wr.wr.when
    (fun _ hu => hu.wr)).wr.wr.wr ((ite h.freeStep h).wr.wr.when (fun _ hu => hu.wr))).wr) (ite ((ite h.freeStep h).wr.wr.when
    (fun _ hu => hu.wr)).wr.wr.wr ((ite h.freeStep h).wr.wr.when (fun _ hu => hu.wr))))

def goldStepReach : Reach := ⟨[.out], [H.LE_GOLD_J, H.LE_GOLD_OK, H.FLT_RESULT]⟩

theorem goldStep (h : Frame ρ s t) {l : Nat} (hr : goldStepReach.within ρ = true := by decide +kernel) :
    Frame ρ s (t.goldStep l) :=
  h.lift hr fun h => ite h (ite (h.wr.when (fun _ hu => hu.wr)) (ite (ite h.wr.send h.wr.wr) h))

def goldCommitReach : Reach := ⟨[.store], [H.LE_GOLD_VEC, H.LE_GOLD_NEW, H.LE_GOLD_N, H.STORE_ECC, H.LE_GOLD_CAP]⟩

theorem goldCommit (h : Frame ρ s t) {l : Nat} (hr : goldCommitReach.within ρ = true := by decide +kernel) :
    Frame ρ s (t.goldCommit l) :=
  h.lift hr fun h => ite (h.stBytes.wr.wr.wr.when (fun _ hu => hu.wr)) h

def goldTakeReach : Reach := goldCommitReach

theorem goldTake (h : Frame ρ s t) {l : Nat} {i : RunIn} {r : RunSt} (hr : goldTakeReach.within ρ = true := by decide +kernel) :
    Frame ρ s (t.goldTake l i r) :=
  h.lift hr fun h => ite (ite h.wr.wr h.wr.wr.goldCommit) h

def stickReach : Reach := ⟨[], [R.LE_SLOT_FLAGS_SAT_P, R.LE_SLOT_FLAGS_SAT_N, R.LE_SLOT_FLAGS_EXP_OVF,
  R.LE_SLOT_FLAGS_LUT_CLAMP]⟩

theorem stick (h : Frame ρ s t) {l : Nat} {f : Sticky} (hr : stickReach.within ρ = true := by decide +kernel) :
    Frame ρ s (t.stick l f) :=
  h.lift hr fun h => (((h.when (fun _ hu => hu.wr)).when (fun _ hu => hu.wr)).when (fun _ hu => hu.wr)).when (fun _ hu => hu.wr)

def runOneReach : Reach := injectReach.and <| plausRunReach.and <| stickReach.and <| captureReach.and <| goldTakeReach.and ⟨[],
  [R.LE_SLOT_INTEG_INTEG, H.LE_STATE, R.LE_SLOT_OUT_CALC, H.LE_NEXT_OUT, H.LE_NEXT_VALID, R.LE_SLOT_FLAGS_SLEWING,
  R.LE_SLOT_FLAGS_CLIP_HI, R.LE_SLOT_FLAGS_CLIP_LO, H.LE_FRESH, H.LE_PRESET_DUE, H.LE_PRESET_REG, R.LE_SLOT_MODE_PRESETS,
  H.LE_MODE_COMMIT]⟩

theorem runOne (h : Frame ρ s t) {l : Nat} (hr : runOneReach.within ρ = true := by decide +kernel) : Frame ρ s (t.runOne l) :=
  h.lift hr fun h => by
    unfold State.runOne
    extract_lets transfer
    have hinj : Frame runOneReach t (if transfer = true then (0, false, t) else t.inject l).2.2 := by
      split
      · exact h
      · exact h.inject
    generalize (if transfer = true then (0, false, t) else t.inject l) = x at hinj ⊢
    obtain ⟨inj, start, s1⟩ := x
    dsimp -zeta only at hinj ⊢
    extract_lets i r auto was slew o fl s3 s4 s5 s6 s7 s8 plaus low s9
    have hpl : Frame runOneReach t (s1.plausRun l (i.inputs.getD 0 (0, 0)) o i.preset.isSome).2 := Frame.plausRun hinj
    have h3 : Frame runOneReach t s3 := (Frame.stick hpl).wrS
    have h4 : Frame runOneReach t s4 := h3.foldl fun _ _ hu => hu.wrS
    have h6 : Frame runOneReach t s6 := h4.wrS.wrS.wr.wrB.wrB.wrB
    have h8 : Frame runOneReach t s8 := (h6.wr.wr.wr).when fun _ hu => hu.inc
    exact h8.capture.wr.goldTake

def loopWindowReach : Reach := runOneReach.and <| bwOnceReach.and <| goldStepReach.and <| ⟨[], [H.LE_RUN_DUE, H.LE_RUN_END]⟩

theorem loopWindow (h : Frame ρ s t) (hr : loopWindowReach.within ρ = true := by decide +kernel) :
    Frame ρ s (t.loopWindow) :=
  h.lift hr fun h => ite ((h.bwOnce.foldl (fun _ _ hu => hu.runOne)).foldl (fun _ _ hu => hu.goldStep)).wr.wr h

def setModeReach : Reach := ⟨[], [H.LE_MODE_COMMIT, H.LE_FWD, H.LE_NEXT_VALID, R.LE_SLOT_MODE_MODE, R.LE_SLOT_MANUAL_MANUAL,
  H.LE_FRESH, H.LE_PRESET_REG, H.LE_PRESET_DUE]⟩

theorem setMode (h : Frame ρ s t) {l m : Nat} (hr : setModeReach.within ρ = true := by decide +kernel) :
    Frame ρ s (t.setMode l m) :=
  h.lift hr fun h => ite h ((h.wr.wr.wr.wr.when (fun _ hu => hu.wr)).when (fun _ hu => hu.wr.wr.wr))

def endHoldReach : Reach := ⟨[], [R.LE_SLOT_MODE_PLAUS_HOLD, H.LE_HOLD_GOLD, H.LE_HOLD_SEV, H.LE_REL_FAULT, H.LE_HOLD_IN,
  H.LE_HELD_REQ, R.LE_SLOT_PLAUS_RUN_CNT]⟩

theorem endHold (h : Frame ρ s t) {l : Nat} (hr : endHoldReach.within ρ = true := by decide +kernel) :
    Frame ρ s (t.endHold l) :=
  h.lift hr fun h => (h.when (fun _ hu => hu.wr)).clearElems

def holdStepReach : Reach := setModeReach.and <| endHoldReach.and <| ⟨[], [H.LE_MODE_BEFORE]⟩

theorem holdStep (h : Frame ρ s t) {l : Nat} (hr : holdStepReach.within ρ = true := by decide +kernel) :
    Frame ρ s (t.holdStep l) :=
  h.lift hr fun h => ite (ite h h.wr.wr.setMode) (ite (ite h.endHold.wr.setMode (ite h.endHold.setMode h.endHold)) h)

def endStartTrackReach : Reach := setModeReach.and <| ⟨[], [H.LE_MODE_BEFORE, H.LE_HOLD_START, H.LE_HELD_REQ]⟩

theorem endStartTrack (h : Frame ρ s t) {l : Nat} (hr : endStartTrackReach.within ρ = true := by decide +kernel) :
    Frame ρ s (t.endStartTrack l) :=
  h.lift hr fun h => ite (ite h.wr.wr h.wr.wr.setMode) h

def applyOutputsReach : Reach := ⟨[], [H.LE_NEXT_VALID, H.LE_FWD, H.LE_OUT_STAGED, H.LE_MAN_NOW, R.LE_SLOT_OUT_OUT]⟩

theorem applyOutputs (h : Frame ρ s t) (hr : applyOutputsReach.within ρ = true := by decide +kernel) :
    Frame ρ s (t.applyOutputs) :=
  h.lift hr fun h => (h.foldl (fun _ _ hu => hu.wr)).clearFlds

def commitDividerReach : Reach := ⟨[], [R.LE_SLOT_CFG_NEAR, H.LE_PL_FILL]⟩

theorem commitDivider (h : Frame ρ s t) {l : Nat} (hr : commitDividerReach.within ρ = true := by decide +kernel) :
    Frame ρ s (t.commitDivider l) :=
  h.lift hr fun h => ite h (ite h.wr h.wr.wr)

def mirrorOutReach : Reach := ⟨[.out], []⟩

theorem mirrorOut (h : Frame ρ s t) {w : WCtx} {op : MirrorOp} (hr : mirrorOutReach.within ρ = true := by decide +kernel) :
    Frame ρ s (t.mirrorOut w op) :=
  h.lift hr fun h => ite h.send h

/-! ## The Phase Driver -/

def pwmReach : Reach := ⟨[.out], []⟩

theorem pwm (h : Frame ρ s t) {p : Nat} {l : PwmLevel} {start width : Nat}
    (hr : pwmReach.within ρ = true := by decide +kernel) :
    Frame ρ s (t.pwm p l start width) :=
  h.lift hr fun h => ite h.send h

def refreshDutyReach : Reach := ⟨[], [R.PD_PH_DUTY_DUTY]⟩

theorem refreshDuty (h : Frame ρ s t) {r : Nat} (hr : refreshDutyReach.within ρ = true := by decide +kernel) :
    Frame ρ s (t.refreshDuty r) :=
  h.lift hr fun h => h.foldl (fun _ _ hu => hu.wr)

def toAddingReach : Reach := ⟨[], [H.PD_ADD_PER, H.PD_POS, H.PD_WID, R.PD_PH_DUTY_SHARE, R.PD_PH_STAT_STATE]⟩

theorem toAdding (h : Frame ρ s t) {p : Nat} (hr : toAddingReach.within ρ = true := by decide +kernel) :
    Frame ρ s (t.toAdding p) :=
  h.lift hr fun h => h.wr.wr.clearElems

def endSkipReach : Reach := ⟨[], [H.PD_SKIP_END]⟩

theorem endSkip (h : Frame ρ s t) {r : Nat} (hr : endSkipReach.within ρ = true := by decide +kernel) :
    Frame ρ s (t.endSkip r) :=
  h.lift hr fun h => h.when (fun _ hu => hu.wr)

def addFallowReach : Reach := toAddingReach.and <| refreshDutyReach.and <| rerankReach.and <| endSkipReach.and <| ⟨[],
  [H.PD_DWELL_CNT]⟩

theorem addFallow (h : Frame ρ s t) {r k : Nat} (hr : addFallowReach.within ρ = true := by decide +kernel) :
    Frame ρ s (t.addFallow r k) :=
  h.lift hr fun h => ite h (h.foldl (fun _ _ hu => hu.toAdding)).wr.endSkip.rerank.refreshDuty

def dropShedReach : Reach := ⟨[], [H.PD_DWELL_CNT, H.PD_SHED_PEND, H.PD_RET_ACT]⟩

theorem dropShed (h : Frame ρ s t) {r : Nat} (hr : dropShedReach.within ρ = true := by decide +kernel) :
    Frame ρ s (t.dropShed r) :=
  h.lift hr fun h => ite h (h.foldl (fun _ _ hu => hu.wr)).wr.wr

def addPhasesReach : Reach := addFallowReach.and <| dropShedReach

theorem addPhases (h : Frame ρ s t) {r k : Nat} (hr : addPhasesReach.within ρ = true := by decide +kernel) :
    Frame ρ s (t.addPhases r k) :=
  h.lift hr fun h => h.dropShed.addFallow

def addDecisionReach : Reach := addPhasesReach

theorem addDecision (h : Frame ρ s t) {r : Nat} (hr : addDecisionReach.within ρ = true := by decide +kernel) :
    Frame ρ s (t.addDecision r) :=
  h.lift hr fun h => ite h.addPhases h

def stepDetectedReach : Reach := addFallowReach.and <| dropShedReach.and <| ⟨[], [H.PD_ALARM_NOW, R.CROOK_RAIL_STAT_ABORTS]⟩

theorem stepDetected (h : Frame ρ s t) {r : Nat} (hr : stepDetectedReach.within ρ = true := by decide +kernel) :
    Frame ρ s (t.stepDetected r) :=
  h.lift hr fun h => ite h.dropShed.addFallow.inc.wr (ite h.dropShed h)

def stepAndSkipReach : Reach := stepDetectedReach

theorem stepAndSkip (h : Frame ρ s t) {r : Nat} (hr : stepAndSkipReach.within ρ = true := by decide +kernel) :
    Frame ρ s (t.stepAndSkip r) :=
  h.lift hr fun h => h.stepDetected.endSkip

def fencePhaseReach : Reach := faultReach.and <| addPhasesReach.and <| ⟨[], [H.PD_NEWFAIL, H.PD_SHED_STEP, H.PD_DEVC,
  H.PD_INVC, H.PD_CLAMPC, H.PD_SCRUN, H.PD_SC_THIS, H.PD_OFF_DUE, R.PD_PH_STAT_CAUSE]⟩

theorem fencePhase (h : Frame ρ s t) {p cause : Nat} (hr : fencePhaseReach.within ρ = true := by decide +kernel) :
    Frame ρ s (t.fencePhase p cause) :=
  h.lift hr fun h => (ite (h.wr.wr.wr.pwm.clearElems.wr.when (fun _ hu => hu.wr)).rerank.addPhases
    (h.wr.wr.wr.pwm.clearElems.wr.when (fun _ hu => hu.wr)).rerank.refreshDuty).fault

def deratePhaseReach : Reach := faultReach.and <| refreshDutyReach.and <| ⟨[], [H.PD_DEVC, H.PD_INVC, H.PD_CLAMPC,
  H.PD_NEWFAIL, R.PD_PH_CURRENT_USED, R.PD_PH_DUTY_SHARE, R.PD_PH_STAT_DERATED]⟩

theorem deratePhase (h : Frame ρ s t) {p : Nat} (hr : deratePhaseReach.within ρ = true := by decide +kernel) :
    Frame ρ s (t.deratePhase p) :=
  h.lift hr fun h => h.wr.wr.wrS.wr.clearElems.refreshDuty.fault

def railOffReach : Reach := pwmReach.and <| rerankReach.and <| ⟨[], [R.PD_RAIL_STAT_SKIPPING, R.PD_RAIL_STAT_RAMPING,
  H.PD_SHED_PEND, H.PD_DWELL_CNT, H.PD_SKIP_CNT, H.PD_SKIP_END, H.PD_PG_CNT, H.PD_PG, H.PD_RET_ACT, H.PD_SHED_STEP, H.PD_DEVC,
  H.PD_INVC, H.PD_CLAMPC, H.PD_SCRUN, H.PD_SC_THIS, R.PD_PH_DUTY_DUTY, R.PD_PH_STAT_STATE, H.PD_OFF_DUE]⟩

theorem railOff (h : Frame ρ s t) {r : Nat} (hr : railOffReach.within ρ = true := by decide +kernel) :
    Frame ρ s (t.railOff r) :=
  h.lift hr fun h => (h.foldl (fun _ _ hu => hu.wr.wr.wr.pwm.clearElems)).clearElems.rerank

def truncateReach : Reach := pwmReach.and <| ⟨[], [H.PD_TRUNC_NOW, R.PD_RAIL_STAT_TRUNCATING]⟩

theorem truncate (h : Frame ρ s t) {r : Nat} (hr : truncateReach.within ρ = true := by decide +kernel) :
    Frame ρ s (t.truncate r) :=
  h.lift hr fun h => ite (ite h (h.wr.wr.foldl (fun _ _ hu => hu.pwm))) (ite h.wr h)

def compensateReach : Reach := refreshDutyReach.and <| ⟨[], [H.PD_DRAIL, H.PD_EPREV, H.PD_INTEG]⟩

theorem compensate (h : Frame ρ s t) {r : Nat} (hr : compensateReach.within ρ = true := by decide +kernel) :
    Frame ρ s (t.compensate r) :=
  h.lift hr fun h => h.wr.wrS.wr.refreshDuty

def overshootReach : Reach := truncateReach.and <| ⟨[], [H.PD_SG2]⟩

theorem overshoot (h : Frame ρ s t) {r : Nat} (hr : overshootReach.within ρ = true := by decide +kernel) :
    Frame ρ s (t.overshoot r) :=
  h.lift hr fun h => h.wr.truncate

def runRailReach : Reach := stepAndSkipReach.and <| compensateReach.and <| overshootReach.and <| ⟨[], [H.PD_PG_CNT,
  H.PD_VSENSE]⟩

theorem runRail (h : Frame ρ s t) {r code : Nat} (hr : runRailReach.within ρ = true := by decide +kernel) :
    Frame ρ s (t.runRail r code) :=
  h.lift hr fun h => h.wr.overshoot.wr.compensate.when (fun _ hu => hu.stepAndSkip)

def convertReach : Reach := runRailReach.and <| ⟨[], [H.PD_VOWN, H.PD_VS_PREV]⟩

theorem convert (h : Frame ρ s t) {r code : Nat} (hr : convertReach.within ρ = true := by decide +kernel) :
    Frame ρ s (t.convert r code) :=
  h.lift hr fun h => ite h.overshoot (ite h.wr.wr h.wr.wr.runRail)

def stepVrefReach : Reach := endSkipReach.and <| ⟨[], [R.PD_RAIL_VREF_VREF, R.PD_RAIL_STAT_RAMPING, H.PD_RAMP_V]⟩

theorem stepVref (h : Frame ρ s t) {r : Nat} (hr : stepVrefReach.within ρ = true := by decide +kernel) :
    Frame ρ s (t.stepVref r) :=
  h.lift hr fun h => ite h (ite (ite h.wr.wr h.wr.wr) (ite h.wr (ite h.wr.endSkip h)))

theorem judgeCount (h : Frame ρ s t) {f : Fld} {p : Nat} {c : Bool} (hf : ρ.has f = true := by decide +kernel) :
    Frame ρ s (t.judgeCount f p c) := h.wr hf

def runPhaseReach : Reach := stepDetectedReach.and <| ⟨[], [H.PD_CLAMPC, H.PD_INVC, H.PD_DEVC, R.PD_PH_CURRENT_USED]⟩

theorem runPhase (h : Frame ρ s t) {p : Nat} (hr : runPhaseReach.within ρ = true := by decide +kernel) :
    Frame ρ s (t.runPhase p) :=
  h.lift hr fun h => by
    unfold State.runPhase
    exact ((show Frame _ _ _ from by
      split
      · exact h.wrS.judgeCount.judgeCount.judgeCount
      · exact ite h.wrS.judgeCount.judgeCount.judgeCount.wrS h.wrS.judgeCount.judgeCount.judgeCount).refreshDuty.when
          (fun _ hu => hu.stepDetected)).when (fun _ hu => hu.endSkip)

def loopUsedReach : Reach := ⟨[], [R.PD_PH_CURRENT_USED]⟩

theorem loopUsed (h : Frame ρ s t) {p : Nat} (hr : loopUsedReach.within ρ = true := by decide +kernel) :
    Frame ρ s (t.loopUsed p) :=
  h.lift hr fun h => by
    unfold State.loopUsed
    split
    · exact h.wrS
    · exact h

def sampleReach : Reach := runPhaseReach.and <| ⟨[], [H.PD_SAMP, R.PD_PH_STAT_SENSE_OK, R.PD_PH_CURRENT_MEAS]⟩

theorem sample (h : Frame ρ s t) {p code : Nat} {refOff : Bool} (hr : sampleReach.within ρ = true := by decide +kernel) :
    Frame ρ s (t.sample p code refOff) :=
  h.lift hr fun h => ite h.loopUsed (ite h.wrS.wrB.wr h.wrS.wrB.wr.runPhase)

def periodChangesReach : Reach := rerankReach.and <| ⟨[], [H.PD_SHED_DELTA, H.PD_SHED_STEP, H.PD_SHED_PEND, R.PD_PH_STAT_STATE,
  H.PD_RET_ACT, R.PD_PH_DUTY_SHARE, H.PD_FALLOW_PER, R.PD_PH_DUTY_DUTY, H.PD_ADD_PER]⟩

theorem periodChanges (h : Frame ρ s t) {p : Nat} (hr : periodChangesReach.within ρ = true := by decide +kernel) :
    Frame ρ s (t.periodChanges p) :=
  h.lift hr fun h => by
    unfold State.periodChanges
    split
    · exact ite h.wr.wr.wr.wrS.rerank h
    · exact ite h.wr.wr.wr.wr.refreshDuty (ite h.wr.wrS.refreshDuty h.wr.wr.wr.wr.rerank.refreshDuty)
    · exact ite h.wr.wr h.wr
    · exact h

def pulseReach : Reach := pwmReach.and <| ⟨[], [H.PD_WID, H.PD_DISPL, H.PD_POS]⟩

theorem pulse (h : Frame ρ s t) {p : Nat} (hr : pulseReach.within ρ = true := by decide +kernel) :
    Frame ρ s (t.pulse p) :=
  h.lift hr fun h => ite h.wr.wrB.wr.pwm (ite h.wr.wrB.wr.pwm (ite h.wr.wrB.wr.pwm h.wr.wrB.wr.pwm))

def periodStartReach : Reach := periodChangesReach.and <| pulseReach.and <| ⟨[], [H.PD_OFF_DUE, H.PD_TEST_ON, H.PD_SC_THIS,
  H.PD_SCRUN, H.PD_SKIP_CNT, H.PD_SKIP_END, R.PD_RAIL_STAT_SKIPPING, H.PD_TEST_PULSE]⟩

theorem periodStart (h : Frame ρ s t) {p : Nat} (hr : periodStartReach.within ρ = true := by decide +kernel) :
    Frame ρ s (t.periodStart p) :=
  h.lift hr fun h => by
    unfold State.periodStart
    extract_lets r s1 s2 s3
    have h1 : Frame periodStartReach t s1 := (h.when fun _ hu => hu.wr).wr
    have h2 : Frame periodStartReach t s2 := h1.when fun _ hu => hu.wr.wr.wr
    have h3 : Frame periodStartReach t s3 := h2.periodChanges.clearElems
    split
    · exact h3.pwm
    · exact ite h3.wr.pwm h3.wr.pwm
    · exact ite h3.wr.wr.pwm h3.pwm
    · exact h3.pulse

def earlyAddReach : Reach := addPhasesReach.and <| ⟨[.free], [R.BW_RAIL_STAT_EA_LAST]⟩

theorem earlyAdd (h : Frame ρ s t) {r : Nat} (hr : earlyAddReach.within ρ = true := by decide +kernel) :
    Frame ρ s (t.earlyAdd r) :=
  h.lift hr fun h => ite h (ite (ite h h.wr.freeStep.addPhases.endSkip) (ite (ite h.wr h.wr.freeStep).addPhases.endSkip h))

def latchRailReach : Reach := ⟨[], [H.LE_IN_RAILV, H.PD_LAT1, H.PD_LAT0]⟩

theorem latchRail (h : Frame ρ s t) {r c0 c1 : Nat} (hr : latchRailReach.within ρ = true := by decide +kernel) :
    Frame ρ s (t.latchRail r c0 c1) :=
  h.lift hr fun h => h.wr.wr.wr

def latchSenseReach : Reach := latchRailReach.and <| ⟨[], [H.TWIN_OWN_SET, H.PD_SAMP, H.PD_SAMPL, H.PD_SC_CNT,
  R.PD_PH_STAT_SC_FRAME, H.LE_IN_PHASE, H.PD_TRUNC_NOW, H.LE_IN_TRUNC, H.LE_IN_RAILI]⟩

theorem latchSense (h : Frame ρ s t) (hr : latchSenseReach.within ρ = true := by decide +kernel) :
    Frame ρ s (t.latchSense) :=
  h.lift hr fun h => ((h.foldl (fun _ _ hu => hu.wr.wr.wr.wr.wr)).foldl (fun _ _ hu => hu.latchRail.wrS.wr.wr)).wr

def runSetReach : Reach := runRailReach.and <| runPhaseReach.and <| ⟨[], [H.LE_IN_RAILI]⟩

theorem runSet (h : Frame ρ s t) (hr : runSetReach.within ρ = true := by decide +kernel) :
    Frame ρ s (t.runSet) :=
  h.lift hr fun h => ((h.foldl (fun _ _ hu => hu.runPhase)).foldl (fun _ _ hu => hu.runRail.runRail)).foldl
    (fun _ _ hu => hu.wrS)

def pushHistReach : Reach := ⟨[], [R.PD_RAIL_OVERLOAD_MEAN, H.PD_SUM256, H.PD_HIST]⟩

theorem pushHist (h : Frame ρ s t) {r : Nat} (hr : pushHistReach.within ρ = true := by decide +kernel) :
    Frame ρ s (t.pushHist r) :=
  h.lift hr fun h => h.wrS.wrS.wr

def overloadReach : Reach := faultReach.and <| ⟨[], [H.PD_OV_RISING, H.PD_OV_CUT, R.PD_RAIL_STAT_OVERLOAD]⟩

theorem overload (h : Frame ρ s t) {r : Nat} (hr : overloadReach.within ρ = true := by decide +kernel) :
    Frame ρ s (t.overload r) :=
  h.lift hr fun h => ite (ite (ite h h.wr.wr) (ite h h.wr.wr).wr.fault) (ite h (ite (ite h h.wr.wr) (ite h.wr.wr.wr h.wr.wr)))

def railSafeReach : Reach := faultReach.and <| ⟨[], [R.PD_RAIL_STAT_SAFE_LATCH, H.PD_NEWFAIL]⟩

theorem railSafe (h : Frame ρ s t) {r : Nat} (hr : railSafeReach.within ρ = true := by decide +kernel) :
    Frame ρ s (t.railSafe r) :=
  h.lift hr fun h => ite (ite h.wr.wr h.wr) (ite h.wr.wr.fault h.wr)

def railCutReach : Reach := overloadReach.and <| ⟨[], [R.PD_RAIL_CUT_C_FENCED, R.PD_RAIL_CUT_C_DERATED,
  R.PD_RAIL_CUT_C_OVERLOAD, R.PD_RAIL_CUT_C_SAFE, R.PD_RAIL_CUT_CUT, H.PD_OVL_EFF, R.PD_RAIL_CONT_CONT_EFF]⟩

theorem railCut (h : Frame ρ s t) {r : Nat} (hr : railCutReach.within ρ = true := by decide +kernel) :
    Frame ρ s (t.railCut r) :=
  h.lift hr fun h => h.wr.wr.overload.wr.wrB.wrB.wrB.wrB

def latchSelectReach : Reach := endSkipReach.and <| ⟨[], [R.PD_RAIL_VREF_TARGET, R.PD_RAIL_STAT_SELECT]⟩

theorem latchSelect (h : Frame ρ s t) {r : Nat} (hr : latchSelectReach.within ρ = true := by decide +kernel) :
    Frame ρ s (t.latchSelect r) :=
  h.lift hr fun h => by
    unfold State.latchSelect
    exact h.wr.wr.when fun _ hu => hu.endSkip

def shedCountsReach : Reach := stepAndSkipReach.and <| ⟨[], [R.PD_RAIL_STAT_SHED_DEFER, R.CROOK_RAIL_STAT_ALARM, H.PD_SKIP_CNT]⟩

theorem shedCounts (h : Frame ρ s t) {r : Nat} (hr : shedCountsReach.within ρ = true := by decide +kernel) :
    Frame ρ s (t.shedCounts r) :=
  h.lift hr fun h => ((h.wr.wr.when (fun _ hu => hu.endSkip)).wr.wr.when (fun _ hu => hu.stepAndSkip)).wrB

def railBoundaryReach : Reach := railCutReach.and <| railSafeReach.and <| shedCountsReach.and <| pushHistReach.and <|
  latchSelectReach

theorem railBoundary (h : Frame ρ s t) {r : Nat} (hr : railBoundaryReach.within ρ = true := by decide +kernel) :
    Frame ρ s (t.railBoundary r) :=
  h.lift hr fun h => h.pushHist.railSafe.railCut.latchSelect.addDecision.shedCounts

/-! ## Crook -/

def noteStuckReach : Reach := faultReach.and <| ⟨[], [R.CROOK_CELL_STUCK]⟩

theorem noteStuck (h : Frame ρ s t) {cell : Nat} {stuck : Bool} (hr : noteStuckReach.within ρ = true := by decide +kernel) :
    Frame ρ s (t.noteStuck cell stuck) :=
  h.lift hr fun h => ite h.wr.fault h

def guardReach : Reach := sendResReach

theorem guard (h : Frame ρ s t) {m : MeshMsg} {es : List Endpoint} (hr : guardReach.within ρ = true := by decide +kernel) :
    Frame ρ s (t.guard m es) :=
  h.lift hr fun h => ite h.sendRes h

def cellTestReach : Reach := ⟨[], [H.FLT_PROBE_GOT, H.FLT_RESULT]⟩

theorem cellTest (h : Frame ρ s t) {cell : Nat} {r : CellReport} (hr : cellTestReach.within ρ = true := by decide +kernel) :
    Frame ρ s (t.cellTest cell r) :=
  h.lift hr fun h => ite h (ite (h.when (fun _ hu => hu.wr)) h.wr)

def updateSyncedReach : Reach := ⟨[], [R.CROOK_STATUS_SYNCED]⟩

theorem updateSynced (h : Frame ρ s t) (hr : updateSyncedReach.within ρ = true := by decide +kernel) :
    Frame ρ s (t.updateSynced) :=
  h.lift hr fun h => h.when (fun _ hu => hu.wrB)

def sendDelayReach : Reach := guardReach.and <| updateSyncedReach.and <| ⟨[], [H.CROOK_DELAYED, H.CROOK_ECHO_PEND]⟩

theorem sendDelay (h : Frame ρ s t) {c comp : Nat} (hr : sendDelayReach.within ρ = true := by decide +kernel) :
    Frame ρ s (t.sendDelay c comp) :=
  h.lift hr fun h => h.guard.wr.wr.updateSynced

def sendFrameSyncReach : Reach := guardReach.and <| ⟨[], [H.CROOK_SYNC_AGE]⟩

theorem sendFrameSync (h : Frame ρ s t) (hr : sendFrameSyncReach.within ρ = true := by decide +kernel) :
    Frame ρ s (t.sendFrameSync) :=
  h.lift hr fun h => h.guard.wr

def startEchoReach : Reach := guardReach.and <| ⟨[], [H.CROOK_ECHO_AGE, H.CROOK_ECHO_PEND, H.CROOK_EN_SENT]⟩

theorem startEcho (h : Frame ρ s t) {f : Nat} {en : Bool} (hr : startEchoReach.within ρ = true := by decide +kernel) :
    Frame ρ s (t.startEcho f en) :=
  h.lift hr fun h => h.foldl (fun _ _ hu => (hu.when (fun _ hu1 => hu1.guard.wr)).guard.wr.wr)

def sendConfigReach : Reach := guardReach.and <| ⟨[], [H.CROOK_CFG_DUE, R.CROOK_FOLD_THR_FALLBACK]⟩

theorem sendConfig (h : Frame ρ s t) {f : Nat} (hr : sendConfigReach.within ρ = true := by decide +kernel) :
    Frame ρ s (t.sendConfig f) :=
  h.lift hr fun h => h.wr.wr.guard

def threshStepReach : Reach := guardReach.and <| ⟨[], [R.CROOK_FOLD_THR_CODE]⟩

theorem threshStep (h : Frame ρ s t) {force : Bool} {f : Nat} (hr : threshStepReach.within ρ = true := by decide +kernel) :
    Frame ρ s (t.threshStep force f) :=
  h.lift hr fun h => ite h (ite h.wr.guard h)

def cellEnStepReach : Reach := guardReach.and <| ⟨[], [H.CROOK_EN_SENT]⟩

theorem cellEnStep (h : Frame ρ s t) {c : Nat} (hr : cellEnStepReach.within ρ = true := by decide +kernel) :
    Frame ρ s (t.cellEnStep c) :=
  h.lift hr fun h => ite h h.guard.wrB

def latchCrookReach : Reach := ⟨[], [H.CROOK_PEDGES, H.CROOK_PTRIPS, R.CROOK_FOLD_SUM_EDGES, R.CROOK_FOLD_SUM_TRIPS]⟩

theorem latchCrook (h : Frame ρ s t) (hr : latchCrookReach.within ρ = true := by decide +kernel) :
    Frame ρ s (t.latchCrook) :=
  h.lift hr fun h => h.foldl (fun _ _ hu => hu.wr.wr.wr.wr)

def crookBoundaryReach : Reach := startEchoReach.and <| sendConfigReach.and <| threshStepReach.and <| updateSyncedReach.and <|
  ⟨[], [H.CROOK_SYNC_AGE, H.CROOK_THR_DUE, H.CROOK_ECHO_DUE]⟩

theorem crookBoundary (h : Frame ρ s t) (hr : crookBoundaryReach.within ρ = true := by decide +kernel) :
    Frame ρ s (t.crookBoundary) :=
  h.lift hr fun h => ite ((h.foldl (fun _ _ hu => hu.inc)).wr.foldl (fun _ _ hu => hu.sendConfig)) (((((h.foldl
    (fun _ _ hu => hu.inc)).wr.foldl (fun _ _ hu => hu.sendConfig)).foldl (fun _ _ hu => hu.threshStep.wr)).foldl
    (fun _ _ hu => hu.cellEnStep)).foldl (fun _ _ hu => hu.startEcho.wr)).updateSynced

/-! ## The thermal section and the sample FIFO -/

def fifoPushReach : Reach := ⟨[.fifo, .out], [R.FIFO_STAT_DROPPED, R.FIFO_STAT_OVERRUN, R.FIFO_WM_PEAK, R.FIFO_WM_CROSSINGS,
  R.FIFO_WM_HIT]⟩

theorem fifoPush (h : Frame ρ s t) {x : FifoWord} (hr : fifoPushReach.within ρ = true := by decide +kernel) :
    Frame ρ s (t.fifoPush x) :=
  h.lift hr fun h => ite h.wr.inc (h.setFifo.wr.when (fun _ hu => hu.wr.inc.send))

def fifoLastReach : Reach := ⟨[], [R.FIFO_LAST_ID, R.FIFO_LAST_END, R.FIFO_LAST_POISON]⟩

theorem fifoLast (h : Frame ρ s t) {x : FifoWord} (hr : fifoLastReach.within ρ = true := by decide +kernel) :
    Frame ρ s (t.fifoLast x) :=
  h.lift hr fun h => h.wrB.wrB.wr

def fifoPop1Reach : Reach := fifoLastReach.and ⟨[.fifo], [R.FIFO_STAT_PAR_ERR]⟩

theorem fifoPop1 (h : Frame ρ s t) (hr : fifoPop1Reach.within ρ = true := by decide +kernel) : Frame ρ s t.fifoPop1.2 :=
  h.lift hr fun h => by
    unfold State.fifoPop1
    split
    · exact h.fifoLast
    · exact (h.setFifo.fifoLast).when fun _ hu => hu.inc

def putSiteReach : Reach := ⟨[], [H.TH_HOTC, H.TH_HIGHC, H.TH_SUSC, R.TH_SITE_READING, R.TH_SITE_SUBST, R.TH_SITE_STATE]⟩

theorem putSite (h : Frame ρ s t) {s' : Machine.State} {p : Nat} {sweep : List FifoWord} {x : FifoWord}
    (hr : putSiteReach.within ρ = true := by decide +kernel) :
    Frame ρ s (s'.putSite p sweep x t) :=
  h.lift hr fun h => h.wr.wrB.wr.wr.wr.wr

def judgeSweepReach : Reach := putSiteReach.and <| recountReach.and <| ⟨[], [H.TH_NEW_BLIND, H.TH_NEW_DT, H.TH_NEW_T, H.TH_NEW,
  H.TH_DIODEC, H.FLT_RESULT]⟩

theorem judgeSweep (h : Frame ρ s t) {p : Nat} {sweep : List FifoWord}
    (hr : judgeSweepReach.within ρ = true := by decide +kernel) :
    Frame ρ s (t.judgeSweep p sweep) :=
  h.lift hr fun h => (h.foldl (fun _ _ hu => hu.putSite)).wr.wr.wrS.wr.wrB.recount.when (fun _ hu => hu.wr)

def fifoDrainReach : Reach := judgeSweepReach.and <| fifoPop1Reach

theorem fifoDrain (h : Frame ρ s t) (hr : fifoDrainReach.within ρ = true := by decide +kernel) :
    Frame ρ s (t.fifoDrain) :=
  h.lift hr fun h => by
    unfold State.fifoDrain
    split
    · exact h
    · exact (h.foldl (fun _ _ hu => hu.fifoPop1)).foldl (fun _ _ hu => (show Frame _ _ _ from by
        split
        · exact hu
        · exact ite hu.judgeSweep hu))

def scanWordReach : Reach := fifoPushReach.and <| injectedReach.and <| ⟨[], [H.TH_INJ]⟩

theorem scanWord (h : Frame ρ s t) {x : FifoWord} (hr : scanWordReach.within ρ = true := by decide +kernel) :
    Frame ρ s (t.scanWord x) :=
  h.lift hr fun h => ite h.fifoPush.wr.injected h.fifoPush

def diodeReadingReach : Reach := ⟨[], [H.TH_DIODE_AGE, H.TH_DIODE_LAST, R.TH_DIODE_READING]⟩

theorem diodeReading (h : Frame ρ s t) {d v : Nat} (hr : diodeReadingReach.within ρ = true := by decide +kernel) :
    Frame ρ s (t.diodeReading d v) :=
  h.lift hr fun h => ite h.wr.wr.wr h

def bandStepReach : Reach := guardReach.and <| ⟨[.free], [R.TH_BAND_STAT_BAND, R.TH_BAND_STAT_TEMP]⟩

theorem bandStep (h : Frame ρ s t) {m : Nat} (hr : bandStepReach.within ρ = true := by decide +kernel) :
    Frame ρ s (t.bandStep m) :=
  h.lift hr fun h => ite h (ite (h.when (fun _ hu => hu.freeStep)).wrS.wr.guard (h.when (fun _ hu => hu.freeStep)).wrS.wr)

def optFfStepReach : Reach := sendOrdReach.and <| ⟨[], [R.TH_OPT_STAT_FF]⟩

theorem optFfStep (h : Frame ρ s t) {r : Rec} (hr : optFfStepReach.within ρ = true := by decide +kernel) :
    Frame ρ s (t.optFfStep r) :=
  h.lift hr fun h => ite h.wr.sendOrd h

def sendOptAllowReach : Reach := sendOrdReach

theorem sendOptAllow (h : Frame ρ s t) {e : Nat} (hr : sendOptAllowReach.within ρ = true := by decide +kernel) :
    Frame ρ s (t.sendOptAllow e) :=
  h.lift hr fun h => ite h.sendOrd h

def siteExcludeReach : Reach := recountReach.and <| ⟨[], [R.TH_SITE_STATE]⟩

theorem siteExclude (h : Frame ρ s t) {k : Nat} (hr : siteExcludeReach.within ρ = true := by decide +kernel) :
    Frame ρ s (t.siteExclude k) :=
  h.lift hr fun h => ite h h.wr.recount

def hotStepReach : Reach := ⟨[], [H.TH_HOT]⟩

theorem hotStep (h : Frame ρ s t) {t' : Nat} (hr : hotStepReach.within ρ = true := by decide +kernel) :
    Frame ρ s (t.hotStep t') :=
  h.lift hr fun h => h.when (fun _ hu => hu.wr)

def fenceStepReach : Reach := siteExcludeReach.and <| guardReach.and <| hotStepReach.and <| ⟨[], [H.TH_UNF_SENT, H.TH_UNF_ACK,
  R.TH_FENCED_FENCED, H.TH_DEMAND]⟩

theorem fenceStep (h : Frame ρ s t) {t' : Nat} (hr : fenceStepReach.within ρ = true := by decide +kernel) :
    Frame ρ s (t.fenceStep t') :=
  h.lift hr fun h => ite (ite h.hotStep h.hotStep.wr.clearElems.guard.siteExclude) (ite h.hotStep
    (ite h.hotStep.wr.clearElems.siteExclude (ite h.hotStep (ite h.hotStep.wr h.hotStep.wr.guard))))

def stileSitesReach : Reach := siteExcludeReach

theorem stileSites (h : Frame ρ s t) {fl : Nat} (hr : stileSitesReach.within ρ = true := by decide +kernel) :
    Frame ρ s (t.stileSites fl) :=
  h.lift hr fun h => h.foldl (fun _ _ hu => hu.siteExclude)

def demandStepReach : Reach := guardReach.and <| ⟨[], [H.TH_ON_AGE, H.TH_ON_SENT, H.TH_OFF_SENT, H.TH_DEMAND]⟩

theorem demandStep (h : Frame ρ s t) {fl : Nat} (hr : demandStepReach.within ρ = true := by decide +kernel) :
    Frame ρ s (t.demandStep fl) :=
  h.lift hr fun h => ite h.wr.wr.wr.wr.guard h.wr

def stileWakeReach : Reach := stileSitesReach.and <| ⟨[], [R.TH_STILE_PARKED, H.TH_ON_SENT, H.TH_ON_AGE]⟩

theorem stileWake (h : Frame ρ s t) {fl : Nat} (hr : stileWakeReach.within ρ = true := by decide +kernel) :
    Frame ρ s (t.stileWake fl) :=
  h.lift hr fun h => ite h.clearElems.wr.stileSites h.wr

def stileRailReach : Reach := stileSitesReach.and <| ⟨[], [R.TH_STILE_PARKED, H.TH_OFF_SENT, H.TH_ON_SENT, H.TH_ON_AGE]⟩

theorem stileRail (h : Frame ρ s t) {fl : Nat} (hr : stileRailReach.within ρ = true := by decide +kernel) :
    Frame ρ s (t.stileRail fl) :=
  h.lift hr fun h => ite h h.clearElems.stileSites

def thermalDividersReach : Reach := commitDividerReach.and <| ⟨[], [R.TH_PAD_STAT_CLAMP, H.LE_NEAR_REQ, R.TH_PAD_STAT_NEAR]⟩

theorem thermalDividers (h : Frame ρ s t) (hr : thermalDividersReach.within ρ = true := by decide +kernel) :
    Frame ρ s (t.thermalDividers) :=
  h.lift hr fun h => by
    unfold State.thermalDividers
    exact (h.foldl (fun _ _ hu => hu.wr)).foldl (fun _ _ hu => (show Frame _ _ _ from by
      split
      · exact hu.wr.wr.commitDivider
      · exact hu.wr))

def latchPaddockReach : Reach := faultReach.and <| ⟨[], [H.TH_NEW, H.TH_CLAMP_WANT, H.TH_NEAR_WANT, R.TH_PAD_STAT_BLIND,
  R.TH_PAD_TEMP_DIODE_T, R.TH_PAD_TEMP_TEMP]⟩

theorem latchPaddock (h : Frame ρ s t) {p : Nat} (hr : latchPaddockReach.within ρ = true := by decide +kernel) :
    Frame ρ s (t.latchPaddock p) :=
  h.lift hr fun h => h.wrS.wr.wrB.wrB.wrB.wr.when (fun _ hu => hu.fault)

def endSweepsReach : Reach := ⟨[.sweeps], [R.TH_PAD_CNT_LATE_SWEEP]⟩

theorem endSweeps (h : Frame ρ s t) (hr : endSweepsReach.within ρ = true := by decide +kernel) :
    Frame ρ s (t.endSweeps) :=
  h.lift hr fun h => h.setSweeps.foldl (fun _ _ hu => ite hu hu.inc)

def latchThermalReach : Reach := latchPaddockReach.and <| endSweepsReach.and <| ⟨[], [H.LE_IN_HBM]⟩

theorem latchThermal (h : Frame ρ s t) (hr : latchThermalReach.within ρ = true := by decide +kernel) :
    Frame ρ s (t.latchThermal) :=
  h.lift hr fun h => (h.endSweeps.foldl (fun _ _ hu => hu.latchPaddock)).foldl (fun _ _ hu => hu.wr)

def requestSweepReach : Reach := sendOrdReach.and <| ⟨[.sweeps], [H.TH_REF_DUE]⟩

theorem requestSweep (h : Frame ρ s t) {p f : Nat} (hr : requestSweepReach.within ρ = true := by decide +kernel) :
    Frame ρ s (t.requestSweep p f) :=
  h.lift hr fun h => by
    unfold State.requestSweep
    split
    · exact (show Frame _ _ _ from by
        split
        · exact h.wr
        · exact h).setSweeps.sendOrd
    · exact (show Frame _ _ _ from by
        split
        · exact h.wr
        · exact h).setSweeps

def requestSweepsReach : Reach := requestSweepReach.and <| ⟨[], [H.TH_RESWEEP]⟩

theorem requestSweeps (h : Frame ρ s t) (hr : requestSweepsReach.within ρ = true := by decide +kernel) :
    Frame ρ s (t.requestSweeps) :=
  h.lift hr fun h => h.foldl (fun _ _ hu => ite hu.wr.requestSweep hu)

def thermalAgesReach : Reach := ⟨[], [H.TH_DIODE_AGE, R.TH_DIODE_READING, H.TH_HBM_AGE]⟩

theorem thermalAges (h : Frame ρ s t) (hr : thermalAgesReach.within ρ = true := by decide +kernel) :
    Frame ρ s (t.thermalAges) :=
  h.lift hr fun h => (h.foldl (fun _ _ hu => ite hu (ite hu.wr.wr hu.wr))).foldl (fun _ _ hu => ite hu.inc hu)

def thermalBoundaryReach : Reach := fenceStepReach.and <| stileRailReach.and <| bandStepReach.and <| requestSweepsReach.and <|
  optFfStepReach.and <| thermalAgesReach.and <| ⟨[], [R.TH_STATUS_RUNNING]⟩

theorem thermalBoundary (h : Frame ρ s t) (hr : thermalBoundaryReach.within ρ = true := by decide +kernel) :
    Frame ρ s (t.thermalBoundary) :=
  h.lift hr fun h => by
    unfold State.thermalBoundary
    extract_lets s1 s2 s2' s3 s4 s5 s6
    have h2 : Frame thermalBoundaryReach t s2' := (h.thermalAges.foldl fun _ _ hu => hu.bandStep).foldl fun _ _ hu =>
      hu.stileWake
    have h4 : Frame thermalBoundaryReach t s4 := (h2.foldl fun _ _ hu => hu.fenceStep).foldl fun _ _ hu => hu.demandStep
    have h5 : Frame thermalBoundaryReach t s5 := h4.foldl fun _ _ hu => hu.stileRail
    exact ite (h5.foldl fun _ _ hu => hu.optFfStep).requestSweeps.wrB h5.wr

/-! ## Hurdles -/

def clampPackageReach : Reach := ⟨[], [R.LE_PKG_LIMITS_EXC_FRAMES, R.LE_PKG_LIMITS_GAP_FRAMES, R.LE_PKG_EXCURSION_EXCURSION,
  R.LE_PKG_SUSTAINED_SUSTAINED]⟩

theorem clampPackage (h : Frame ρ s t) (hr : clampPackageReach.within ρ = true := by decide +kernel) :
    Frame ρ s (t.clampPackage) :=
  h.lift hr fun h => h.wr.wr.wr.wr

def applyCapReach : Reach := ⟨[], [R.CAP_BMC_CAP_LOW, H.LE_PKG_EXC, H.LE_PKG_SUS]⟩

theorem applyCap (h : Frame ρ s t) (hr : applyCapReach.within ρ = true := by decide +kernel) :
    Frame ρ s (t.applyCap) :=
  h.lift hr fun h => ite h.wr.wr.wr (ite h.wrB.wr.wr h.wrB.wr.wr)

def latchPowerReach : Reach := ⟨[], [R.LE_PKG_RUN_RUN, R.LE_PKG_RUN_GAP, H.LE_PKG_SEEN, R.LE_PKG_MEAN_MEAN, H.LE_PKG_HIST,
  H.LE_PKG_SUM, H.LE_PKG_BOARD, R.LE_PKG_POWER_POWER, H.LE_PKG_SEENB, H.LE_PKG_GAPB]⟩

theorem latchPower (h : Frame ρ s t) (hr : latchPowerReach.within ρ = true := by decide +kernel) :
    Frame ρ s (t.latchPower) :=
  h.lift hr fun h => ite h.wr.wr.wr.wr.wr.clearElems (ite (h.wr.wr.wr.wr.wr.when
    (fun _ hu => hu.wr.wr)).inc.wr.wr h.wr.wr.wr.wr.wr.inc.wr)

def limiterReach : Reach := ⟨[], [H.LE_HW_CUT]⟩

theorem limiter (h : Frame ρ s t) (hr : limiterReach.within ρ = true := by decide +kernel) :
    Frame ρ s (t.limiter) :=
  h.lift hr fun h => h.wr

def effectivesReach : Reach := ⟨[], [R.LE_FOLD_EFFECTIVE_EFFECTIVE]⟩

theorem effectives (h : Frame ρ s t) (hr : effectivesReach.within ρ = true := by decide +kernel) :
    Frame ρ s (t.effectives) :=
  h.lift hr fun h => ite (h.foldl (fun _ _ hu => hu.wr)) h

def throttleStepReach : Reach := guardReach.and <| ⟨[], [R.GL_THROTTLE_PKG, R.GL_THROTTLE_SAFE, R.GL_THROTTLE_LOOP,
  R.GL_THROTTLE_LEVEL]⟩

theorem throttleStep (h : Frame ρ s t) {force : Bool} {f : Nat} (hr : throttleStepReach.within ρ = true := by decide +kernel) :
    Frame ρ s (t.throttleStep force f) :=
  h.lift hr fun h => by
    unfold State.throttleStep
    split
    · exact ite h.wr.wr.wr.wr.guard h.wr.wr.wr.wr

def throttlesReach : Reach := throttleStepReach

theorem throttles (h : Frame ρ s t) {force : Bool} (hr : throttlesReach.within ρ = true := by decide +kernel) :
    Frame ρ s (t.throttles force) :=
  h.lift hr fun h => h.foldl (fun _ _ hu => hu.throttleStep)

/-! ## Grants and the ledger -/

def nextGenReach : Reach := ⟨[.store], [H.STORE_ECC]⟩

theorem nextGen (h : Frame ρ s t) {a : Nat} (hr : nextGenReach.within ρ = true := by decide +kernel) :
    Frame ρ s (t.nextGen a) :=
  h.lift hr fun h => h.st

def sendFoldParamReach : Reach := sendOrdReach.and <| ⟨[], [H.GL_COST_SENT, H.GL_FLAT_SENT]⟩

theorem sendFoldParam (h : Frame ρ s t) {f flat cost : Nat} (hr : sendFoldParamReach.within ρ = true := by decide +kernel) :
    Frame ρ s (t.sendFoldParam f flat cost) :=
  h.lift hr fun h => ite h.wr.wr.sendOrd h.wr.wr

def foldParamNowReach : Reach := sendFoldParamReach

theorem foldParamNow (h : Frame ρ s t) {f : Nat} (hr : foldParamNowReach.within ρ = true := by decide +kernel) :
    Frame ρ s (t.foldParamNow f) :=
  h.lift hr fun h => h.sendFoldParam

def sendRoundReach : Reach := sendOrdReach

theorem sendRound (h : Frame ρ s t) {f : Nat} (hr : sendRoundReach.within ρ = true := by decide +kernel) :
    Frame ρ s (t.sendRound f) :=
  h.lift hr fun h => ite (h.foldl (fun _ _ hu => hu.sendOrd)).sendOrd h

def computeFoldReach : Reach := ⟨[.store], [H.GL_ROUND_E, H.STORE_ECC]⟩

theorem computeFold (h : Frame ρ s t) {f : Nat} (hr : computeFoldReach.within ρ = true := by decide +kernel) :
    Frame ρ s (t.computeFold f) :=
  h.lift hr fun h => (h.foldl (fun _ _ hu => hu.st)).wr

def digestTestReach : Reach := ⟨[], [H.FLT_RESULT, H.FLT_PROBE_GOT]⟩

theorem digestTest (h : Frame ρ s t) {kind : Nat} {eq : Bool} (hr : digestTestReach.within ρ = true := by decide +kernel) :
    Frame ρ s (t.digestTest kind eq) :=
  h.lift hr fun h => ite h (ite h.wr (h.wr.when (fun _ hu => hu.wr)))

def compareDigestsReach : Reach := digestTestReach.and <| faultReach.and ⟨[.free, .out], [R.TWIN_LAST_INDEX, R.TWIN_LAST_KIND,
  R.TWIN_LAST_FRAME_FRAME]⟩

theorem compareDigests (h : Frame ρ s t) {own peer : Fld} {i kind : Nat} {values : State → List Msg}
    (ho : ρ.has own = true := by decide +kernel) (hpe : ρ.has peer = true := by decide +kernel)
    (hr : compareDigestsReach.within ρ = true := by decide +kernel) : Frame ρ s (t.compareDigests own peer i kind values) := by
  unfold State.compareDigests
  extract_lets a b s1 s2 s3
  have h1 : Frame ρ s s1 := ((h.wr ho).wr hpe).lift (q := compareDigestsReach) hr fun hu => hu.digestTest
  have h3 : Frame ρ s s3 := h1.lift (q := compareDigestsReach) hr fun hu => by
    have h2 : Frame compareDigestsReach s1 s2 := ite hu.wr.freeStep hu.wr
    exact h2.wr.wr.fault
  exact ite h (ite h1 (ite (h3.lift (q := compareDigestsReach) hr fun hu => hu.foldl fun _ _ hv => hv.send) h3))

def ownDigestReach : Reach := compareDigestsReach

theorem ownDigest (h : Frame ρ s t) {own peer : Fld} {i kind crc : Nat} {op : BulkOp} {values : State → List Msg}
    (ho : ρ.has own = true := by decide +kernel) (hpe : ρ.has peer = true := by decide +kernel)
    (hr : ownDigestReach.within ρ = true := by decide +kernel) : Frame ρ s (t.ownDigest own peer i kind crc op values) :=
  ite (((h.wr ho).lift (q := compareDigestsReach) hr fun hu => hu.send).compareDigests ho hpe hr) h

def noteAppliedReach : Reach := ⟨[], [H.GL_REVERTED, H.GL_APPLIED_E]⟩

theorem noteApplied (h : Frame ρ s t) {fold : Nat} {m : RoundAckMsg}
    (hr : noteAppliedReach.within ρ = true := by decide +kernel) :
    Frame ρ s (t.noteApplied fold m) :=
  h.lift hr fun h => h.when (fun _ hu => hu.wr.wr)

def flatStepReach : Reach := sendFoldParamReach.and <| ⟨[], [H.GL_RISE_LEFT, H.GL_FLAT_EFF]⟩

theorem flatStep (h : Frame ρ s t) {due : Bool} {f : Nat} (hr : flatStepReach.within ρ = true := by decide +kernel) :
    Frame ρ s (State.flatStep due t f) :=
  h.lift hr fun h => ite h.wr.wr.foldParamNow (ite h.wr.wr.sendFoldParam (ite h.wr.wr.sendFoldParam.wr h.wr.wr))

def sendRevertReach : Reach := sendOrdReach.and <| ⟨[], [H.GL_REV_SINCE, H.GL_REVERTED, R.GL_STATUS_FLAT_ALL]⟩

theorem sendRevert (h : Frame ρ s t) {f : Nat} (hr : sendRevertReach.within ρ = true := by decide +kernel) :
    Frame ρ s (t.sendRevert f) :=
  h.lift hr fun h => ite (h.wr.wr.sendOrd.when (fun _ hu => hu.wr)) h.wr

def revertStepReach : Reach := sendRevertReach.and <| ⟨[], [H.GL_ROUND_SOON]⟩

theorem revertStep (h : Frame ρ s t) {f : Nat} (hr : revertStepReach.within ρ = true := by decide +kernel) :
    Frame ρ s (t.revertStep f) :=
  h.lift hr fun h => ite h.sendRevert.wr h

def sendWeightsReach : Reach := sendOrdReach

theorem sendWeights (h : Frame ρ s t) (hr : sendWeightsReach.within ρ = true := by decide +kernel) :
    Frame ρ s (t.sendWeights) :=
  h.lift hr fun h => ite h.sendOrd h

def commitGrantsReach : Reach := sendWeightsReach.and <| ⟨[], [H.GL_PARAM_DUE]⟩

theorem commitGrants (h : Frame ρ s t) (hr : commitGrantsReach.within ρ = true := by decide +kernel) :
    Frame ρ s (t.commitGrants) :=
  h.lift hr fun h => h.wr.sendWeights

def openBankReach : Reach := ⟨[.store], [H.STORE_ECC, R.GL_BANK_STAT_INEXACT, R.GL_BANK_STAT_LATE, R.GL_BANK_STAT_MERGED,
  R.GL_BANK_FRAMES_FRAMES, H.GL_INEX_R, H.GL_THR_SEEN, R.GL_BANK_FIRST_FIRST, H.GL_PER0, R.GL_BANK_STAT_STATE, H.GL_UCNT,
  H.GL_UEND, H.GL_WAIT]⟩

theorem openBank (h : Frame ρ s t) {k p : Nat} (hr : openBankReach.within ρ = true := by decide +kernel) :
    Frame ρ s (t.openBank k p) :=
  h.lift hr fun h => ((h.wr.wr.wr.clearElems.foldl (fun _ _ hu => hu.clearElems)).foldl (fun _ _ hu => hu.wr)).stBytes

def inexactReach : Reach := ⟨[.store], [H.STORE_ECC, H.GL_INEX_R, R.GL_BANK_STAT_INEXACT]⟩

theorem inexact (h : Frame ρ s t) {k r : Nat} (hr : inexactReach.within ρ = true := by decide +kernel) :
    Frame ρ s (t.inexact k r) :=
  h.lift hr fun h => h.wr.wr.st

def dmaAddReach : Reach := ⟨[], [H.STORE_DMAQ, H.STORE_BUSYW]⟩

theorem dmaAdd (h : Frame ρ s t) {a : Nat} (hr : dmaAddReach.within ρ = true := by decide +kernel) :
    Frame ρ s (t.dmaAdd a) :=
  h.lift hr fun h => h.when (fun _ hu => hu.wr.inc)

def releaseBankReach : Reach := ⟨[.store], [H.STORE_ECC, R.GL_BANK_STAT_STATE]⟩

theorem releaseBank (h : Frame ρ s t) {k : Nat} (hr : releaseBankReach.within ρ = true := by decide +kernel) :
    Frame ρ s (t.releaseBank k) :=
  h.lift hr fun h => ite h.wr.stBytes h

def learnHeftReach : Reach := ⟨[.store], [H.STORE_ECC]⟩

theorem learnHeft (h : Frame ρ s t) {q charge : Nat} (hr : learnHeftReach.within ρ = true := by decide +kernel) :
    Frame ρ s (t.learnHeft q charge) :=
  h.lift hr fun h => ite h.st.st h

def bookQueueReach : Reach := ⟨[.store], [H.GL_ACT, H.STORE_ECC]⟩

theorem bookQueue (h : Frame ρ s t) {k q c : Nat} {inexact : Bool} (hr : bookQueueReach.within ρ = true := by decide +kernel) :
    Frame ρ s (t.bookQueue k q c inexact) :=
  h.lift hr fun h => h.st.st.learnHeft.wr

def learnIdleReach : Reach := ⟨[], [R.GL_RAIL_IDLE_IDLE]⟩

theorem learnIdle (h : Frame ρ s t) {k r e frames : Nat} (hr : learnIdleReach.within ρ = true := by decide +kernel) :
    Frame ρ s (t.learnIdle k r e frames) :=
  h.lift hr fun h => ite h h.wr

def addSharedReach : Reach := ⟨[.store], [H.STORE_ECC]⟩

theorem addShared (h : Frame ρ s t) {r e : Nat} (hr : addSharedReach.within ρ = true := by decide +kernel) :
    Frame ρ s (t.addShared r e) :=
  h.lift hr fun h => h.st

def shareEnergyReach : Reach := addSharedReach.and <| ⟨[], [H.GL_SHARED_RES]⟩

theorem shareEnergy (h : Frame ρ s t) {r e : Nat} (hr : shareEnergyReach.within ρ = true := by decide +kernel) :
    Frame ρ s (t.shareEnergy r e) :=
  h.lift hr fun h => h.addShared.wr

def bookRailReach : Reach := bookQueueReach.and <| shareEnergyReach.and <| learnIdleReach.and <| ⟨[], [R.GL_RAIL_COST_COST]⟩

theorem bookRail (h : Frame ρ s t) {k r : Nat} (hr : bookRailReach.within ρ = true := by decide +kernel) :
    Frame ρ s (t.bookRail k r) :=
  h.lift hr fun h => ite (h.shareEnergy.learnIdle.foldl (fun _ _ hu => hu.bookQueue)) (h.foldl
    (fun _ _ hu => hu.bookQueue)).shareEnergy.wr

def markThrottlesReach : Reach := ⟨[], [H.GL_THR_SEEN]⟩

theorem markThrottles (h : Frame ρ s t) (hr : markThrottlesReach.within ρ = true := by decide +kernel) :
    Frame ρ s (t.markThrottles) :=
  h.lift hr fun h => by
    unfold State.markThrottles
    split
    · exact h
    · exact h.wr

def ledgerBoundaryReach : Reach := ⟨[.store], [H.GL_ETOT, H.STORE_ECC, R.GL_BANK_FRAMES_FRAMES, H.GL_CLOSE_AGE]⟩

theorem ledgerBoundary (h : Frame ρ s t) (hr : ledgerBoundaryReach.within ρ = true := by decide +kernel) :
    Frame ρ s (t.ledgerBoundary) :=
  h.lift hr fun h => by
    unfold State.ledgerBoundary
    exact (show Frame _ _ _ from by
      split
      · exact h.foldl (fun _ _ hu => hu.wr)
      · exact ((h.foldl (fun _ _ hu => hu.wr)).foldl (fun _ _ hu => hu.st)).wr.st).foldl (fun _ _ hu => ite hu.inc hu)

def roundBoundaryReach : Reach := ⟨[], [H.GL_ROUND_AGE, R.GL_STATUS_ROUNDS]⟩

theorem roundBoundary (h : Frame ρ s t) (hr : roundBoundaryReach.within ρ = true := by decide +kernel) :
    Frame ρ s (t.roundBoundary) :=
  h.lift hr fun h => h.wr.when (fun _ hu => hu.wr)

def foldParamsReach : Reach := revertStepReach.and <| flatStepReach.and <| ⟨[], [H.GL_PARAM_DUE]⟩

theorem foldParams (h : Frame ρ s t) (hr : foldParamsReach.within ρ = true := by decide +kernel) :
    Frame ρ s (t.foldParams) :=
  h.lift hr fun h => ((h.foldl (fun _ _ hu => hu.flatStep)).foldl (fun _ _ hu => hu.revertStep)).wr

def grantsBoundaryReach : Reach := foldParamsReach.and <| ledgerBoundaryReach.and <| roundBoundaryReach

theorem grantsBoundary (h : Frame ρ s t) (hr : grantsBoundaryReach.within ρ = true := by decide +kernel) :
    Frame ρ s (t.grantsBoundary) :=
  h.lift hr fun h => by
    unfold State.grantsBoundary
    extract_lets m s0
    have h0 : Frame grantsBoundaryReach t s0 := h.setMesh
    exact (ite h0 h0.foldParams).roundBoundary.ledgerBoundary

/-! ## The twin -/

def setPhasesReach : Reach := rerankReach.and <| refreshDutyReach.and <| ⟨[], [R.PD_PH_DUTY_SHARE, R.PD_PH_STAT_CAUSE,
  R.PD_PH_STAT_STATE]⟩

theorem setPhases (h : Frame ρ s t) {st cp : Nat → Nat} (hr : setPhasesReach.within ρ = true := by decide +kernel) :
    Frame ρ s (t.setPhases st cp) :=
  h.lift hr fun h => (h.foldl (fun _ _ hu => hu.wr.wr.wr)).foldl (fun _ _ hu => hu.rerank.refreshDuty)

def loadSnapReach : Reach := setPhasesReach.and <| ⟨[], [H.TWIN_SN_DUE, H.TWIN_LD_HAVE, R.PD_RAIL_VREF_VREF, H.PD_INTEG,
  H.TWIN_LD_CP, H.TWIN_LD_ST]⟩

theorem loadSnap (h : Frame ρ s t) (hr : loadSnapReach.within ρ = true := by decide +kernel) :
    Frame ρ s (t.loadSnap) :=
  h.lift hr fun h => ite ((h.setPhases.foldl (fun _ _ hu => hu.wr.wr)).foldl (fun _ _ hu => hu.wr.wr)).wr.wr h

def nextRoleReach : Reach := ⟨[], [H.TWIN_NEXT_ROLE]⟩

theorem nextRole (h : Frame ρ s t) {r : Nat} (hr : nextRoleReach.within ρ = true := by decide +kernel) :
    Frame ρ s (t.nextRole r) :=
  h.lift hr fun h => ite h h.wr

def idStepReach : Reach := ⟨[], [H.TWIN_ID_SEEN, H.TWIN_IDC]⟩

theorem idStep (h : Frame ρ s t) (hr : idStepReach.within ρ = true := by decide +kernel) :
    Frame ρ s (t.idStep) :=
  h.lift hr fun h => ite h.wr h.clearFld

def formStepReach : Reach := railBoundaryReach.and <| thermalBoundaryReach.and <| grantsBoundaryReach.and <|
  crookBoundaryReach.and <| latchPowerReach.and <| throttlesReach.and <| markThrottlesReach.and <| bwCurrentsReach.and <|
  effectivesReach.and <| limiterReach.and <| ⟨[], [R.PD_STATUS_UNDRIVEN]⟩

theorem formStep (h : Frame ρ s t) (hr : formStepReach.within ρ = true := by decide +kernel) :
    Frame ρ s (t.formStep) :=
  h.lift hr fun h => by
    unfold State.formStep
    extract_lets s1 s2 s3 s4
    have h1 : Frame formStepReach t s1 := h.when fun _ hu => hu.bwCurrents
    have h2 : Frame formStepReach t s2 := h1.when fun _ hu => hu.latchPower.limiter
    have h3 : Frame formStepReach t s3 := h2.when fun _ hu => hu.wrB.foldl fun _ _ hv => hv.railBoundary
    have h4 : Frame formStepReach t s4 := (h3.when fun _ hu => hu.thermalBoundary).when fun _ hu => hu.crookBoundary
    exact h4.effectives.when fun _ hu => hu.markThrottles.throttles.grantsBoundary

def formLateReach : Reach := formStepReach.and <| runSetReach.and <| ⟨[], [H.TWIN_FORM_DUE]⟩

theorem formLate (h : Frame ρ s t) (hr : formLateReach.within ρ = true := by decide +kernel) :
    Frame ρ s (t.formLate) :=
  h.lift hr fun h => (h.when (fun _ hu => hu.runSet)).formStep.wr

def settleFormReach : Reach := formLateReach.and <| ⟨[], [R.TWIN_SYNC_CLEAN, R.TWIN_LINK_UNCOMPARED, H.TWIN_UNC]⟩

theorem settleForm (h : Frame ρ s t) (hr : settleFormReach.within ρ = true := by decide +kernel) :
    Frame ρ s (t.settleForm) :=
  h.lift hr fun h => ite (h.when (fun _ hu => hu.wr.inc.wr)).formLate h

def channelVerdictsReach : Reach := ⟨[], [H.TWIN_MARKED, H.TWIN_ID_TEST, H.TWIN_VSWAP]⟩

theorem channelVerdicts (h : Frame ρ s t) {i own : Nat} (hr : channelVerdictsReach.within ρ = true := by decide +kernel) :
    Frame ρ s (t.channelVerdicts i own) :=
  h.lift hr fun h => ite h (ite (h.wr.wr.when (fun _ hu => hu.wr)) h.wr)

def driversOffReach : Reach := pwmReach.and <| ⟨[], [R.PD_STATUS_DRIVING]⟩

theorem driversOff (h : Frame ρ s t) (hr : driversOffReach.within ρ = true := by decide +kernel) :
    Frame ρ s (t.driversOff) :=
  h.lift hr fun h => (h.foldl (fun _ _ hu => hu.pwm)).wr

def driversOnReach : Reach := pwmReach.and <| ⟨[], [R.PD_STATUS_DRIVING]⟩

theorem driversOn (h : Frame ρ s t) (hr : driversOnReach.within ρ = true := by decide +kernel) :
    Frame ρ s (t.driversOn) :=
  h.lift hr fun h => h.wr.foldl (fun _ _ hu => hu.pwm)

def dropGateReach : Reach := driversOffReach.and <| stopSendingReach.and <| ⟨[], [H.TWIN_NEXT_ROLE, H.TWIN_SWAP_DUE,
  H.TWIN_VSWAP, H.TWIN_DET_AFTER, H.TWIN_LOST, R.TWIN_SYNC_CLEAN, R.TWIN_CMD_SWAP, R.TWIN_CMD_DETACH, H.TWIN_LOSS,
  R.STATUS_READY, R.TWIN_STATUS_ROLE, R.TWIN_STATUS_GATE_OWN]⟩

theorem dropGate (h : Frame ρ s t) (hr : dropGateReach.within ρ = true := by decide +kernel) :
    Frame ρ s (t.dropGate) :=
  h.lift hr fun h => h.driversOff.stopSending.wr.wr.wr.wr.clearElems

def goldActReach : Reach := nextRoleReach.and <| ⟨[], [H.FLT_RESULT, H.LE_GOLD_TWIN, H.TWIN_DET_AFTER, H.TWIN_VSWAP,
  H.LE_REL_FAULT, H.LE_HOLD_GOLD]⟩

theorem goldAct (h : Frame ρ s t) {l : Nat} {holderPass standbyPass : Bool}
    (hr : goldActReach.within ρ = true := by decide +kernel) :
    Frame ρ s (t.goldAct l holderPass standbyPass) :=
  h.lift hr fun h => by
    unfold State.goldAct
    extract_lets hold s1
    have h1 : Frame goldActReach t s1 := h.wr.wr
    have hhold : Frame goldActReach t (hold s1) := h1.wr.wr
    split
    · exact h1
    · exact ite h1 h1.nextRole
    · exact ite (ite h1.wr.wr h1) hhold
    · exact hhold

def keeperCountReach : Reach := ⟨[], [H.TWIN_LOST]⟩

theorem keeperCount (h : Frame ρ s t) (hr : keeperCountReach.within ρ = true := by decide +kernel) :
    Frame ρ s (t.keeperCount) :=
  h.lift hr fun h => ite h.wr h.wr

def setRoleReach : Reach := driversOffReach.and <| ⟨[], [R.TWIN_SYNC_CLEAN, R.TWIN_STATUS_ROLE, R.TWIN_SYNC_COPY_PCT,
  H.TWIN_ATTACH_REQ, H.TWIN_LOSS, R.TWIN_CMD_ATTACH, H.TWIN_COPY_SEEN, R.STATUS_READY, R.TWIN_STATUS_GATE_OWN]⟩

theorem setRole (h : Frame ρ s t) {r : Nat} (hr : setRoleReach.within ρ = true := by decide +kernel) :
    Frame ρ s (t.setRole r) :=
  h.lift hr fun h => (h.wr.wr.when (fun _ hu => hu.clearElems)).when (fun _ hu => hu.driversOff.wr.wr)

def joinStepReach : Reach := setRoleReach

theorem joinStep (h : Frame ρ s t) (hr : joinStepReach.within ρ = true := by decide +kernel) :
    Frame ρ s (t.joinStep) :=
  h.lift hr fun h => h.when (fun _ hu => hu.setRole)

def roleStepReach : Reach := joinStepReach.and <| ⟨[], [H.TWIN_NEXT_ROLE]⟩

theorem roleStep (h : Frame ρ s t) (hr : roleStepReach.within ρ = true := by decide +kernel) :
    Frame ρ s (t.roleStep) :=
  h.lift hr fun h => ite h.wr.setRole h.wr.joinStep

def gateTestFailedReach : Reach := faultReach.and <| setRoleReach.and <| ⟨[], [H.TWIN_DET_AFTER, H.TWIN_VSWAP, H.TWIN_SWAP_DUE,
  R.TWIN_CMD_SWAP, R.TWIN_CMD_DETACH]⟩

theorem gateTestFailed (h : Frame ρ s t) (hr : gateTestFailedReach.within ρ = true := by decide +kernel) :
    Frame ρ s (t.gateTestFailed) :=
  h.lift hr fun h => ite h.clearElems.wr.fault (ite h.fault.setRole h)

def handOverReach : Reach := gateTestFailedReach.and <| ⟨[], [H.TWIN_NEXT_ROLE]⟩

theorem handOver (h : Frame ρ s t) {gateFail : Bool} (hr : handOverReach.within ρ = true := by decide +kernel) :
    Frame ρ s (t.handOver gateFail) :=
  h.lift hr fun h => ite h.gateTestFailed (ite h (ite (h.clearElems.driversOff.stopSending.wr.wr.wr.when
    (fun _ hu => hu.wr)).wr h.clearElems.wr))

def takeoverReach : Reach := deratePhaseReach.and <| throttlesReach.and <| sendFrameSyncReach.and <| threshStepReach.and <|
  ⟨[], [R.GL_EPOCH_EPOCH, R.TWIN_CNT_TAKEOVERS, R.TWIN_STATUS_ROLE, H.TWIN_NEXT_ROLE, H.TWIN_SN_DUE, H.LE_NEXT_VALID,
  H.LE_FRESH, H.LE_PRESET_REG, H.LE_PRESET_DUE, H.TWIN_REJOIN]⟩

theorem takeover (h : Frame ρ s t) (hr : takeoverReach.within ρ = true := by decide +kernel) :
    Frame ρ s (t.takeover) :=
  h.lift hr fun h => ite (((((h.clearFld.clearElems.wr.foldl (fun _ _ hu => hu.when (fun _ hu1 => hu1.wr.wr.wr))).inc.wr.foldl
    (fun _ _ hu => hu.when (fun _ hu1 => hu1.deratePhase))).throttles.foldl (fun _ _ hu => hu.threshStep)).foldl
    (fun _ _ hu => hu.when (fun _ hu1 => hu1.guard))).sendFrameSync.when (fun _ hu => hu.wr.fault)).tally h

def twinAgesReach : Reach := ⟨[], [H.TWIN_MESH_AGE, H.TWIN_RDY_AGE, H.TWIN_ST_AGE, H.TWIN_LONG_GAP, R.TWIN_STATUS_PEER_ROLE,
  R.TWIN_STATUS_LINK_UP, R.TWIN_STATUS_MESH_UP]⟩

theorem twinAges (h : Frame ρ s t) (hr : twinAgesReach.within ρ = true := by decide +kernel) :
    Frame ρ s (t.twinAges) :=
  h.lift hr fun h => (h.wr.wr.wr.when (fun _ hu => hu.wr.wr.wr)).when (fun _ hu => hu.wr)

def twinSendReach : Reach := ⟨[.out], [H.TWIN_UNC, H.TWIN_CMP, H.FLT_INJ_SLOT, H.TH_DIODE_NEW]⟩

theorem twinSend (h : Frame ρ s t) (hr : twinSendReach.within ρ = true := by decide +kernel) :
    Frame ρ s (t.twinSend) :=
  h.lift hr fun h => (ite h.send.send.send h.send.send).clearFld.clearElems

/-! ## The faults block -/

def probeStepReach : Reach := sendOrdReach.and <| ⟨[], [H.FLT_PROBES, H.FLT_RESULT]⟩

theorem probeStep (h : Frame ρ s t) {n : Nat} (hr : probeStepReach.within ρ = true := by decide +kernel) :
    Frame ρ s (t.probeStep n) :=
  h.lift hr fun h => by
    unfold State.probeStep
    split
    · exact h
    · exact ite h ((ite h.sendOrd.wr h).when (fun _ hu => hu.wr))

def giveVerdictReach : Reach := applyVerdictReach.and <| channelVerdictsReach

theorem giveVerdict (h : Frame ρ s t) {n : Nat} {v : TestVerdict} (hr : giveVerdictReach.within ρ = true := by decide +kernel) :
    Frame ρ s (t.giveVerdict n v) :=
  h.lift hr fun h => by
    unfold State.giveVerdict
    split
    · exact (ite h.applyVerdict.send h.applyVerdict).channelVerdicts
    · exact ite h.applyVerdict.send h.applyVerdict

def severeActReach : Reach := fencePhaseReach.and <| ⟨[], [H.LE_REL_FAULT, H.LE_HOLD_SEV, R.TH_SITE_STATE]⟩

theorem severeAct (h : Frame ρ s t) {n : Nat} (hr : severeActReach.within ρ = true := by decide +kernel) :
    Frame ρ s (t.severeAct n) :=
  h.lift hr fun h => by
    unfold State.severeAct
    split
    · exact h.wr.wr
    · exact ite h.fencePhase h
    · exact ite h.wr h
    · exact h

def putCommandReach : Reach := ⟨[], [R.FLT_CMD_SOURCE, R.FLT_CMD_ACTION]⟩

theorem putCommand (h : Frame ρ s t) {action n : Nat} (hr : putCommandReach.within ρ = true := by decide +kernel) :
    Frame ρ s (t.putCommand action n) :=
  h.lift hr fun h => h.wr.wr

def diodeProofFailReach : Reach := faultReach.and <| ⟨[], [R.TH_PAD_STAT_DIODE_FAIL, R.TH_DIODE_FAILED]⟩

theorem diodeProofFail (h : Frame ρ s t) {ch : Nat} (hr : diodeProofFailReach.within ρ = true := by decide +kernel) :
    Frame ρ s (t.diodeProofFail ch) :=
  h.lift hr fun h => h.wr.wrAll.fault

def testTickReach : Reach := probeStepReach.and <| ⟨[], [H.FLT_TEST_LEFT]⟩

theorem testTick (h : Frame ρ s t) {n : Nat} (hr : testTickReach.within ρ = true := by decide +kernel) :
    Frame ρ s (t.testTick n) :=
  h.lift hr fun h => by
    unfold State.testTick
    split
    · exact ite h.wr.wr h.wr
    · exact h.wr
    · exact h.wr.probeStep

def quietTickReach : Reach := ⟨[], [R.FLT_SRC_STATE_QUIET_LEFT]⟩

theorem quietTick (h : Frame ρ s t) {n : Nat} (hr : quietTickReach.within ρ = true := by decide +kernel) :
    Frame ρ s (t.quietTick n) :=
  h.lift hr fun h => by
    unfold State.quietTick
    split
    · exact h.wr
    · exact h.wr
    · exact h

def faultTicksReach : Reach := testTickReach.and <| quietTickReach.and <| ⟨[], [R.FLT_SRC_COUNT_WIN_LEFT]⟩

theorem faultTicks (h : Frame ρ s t) {ms : Bool} (hr : faultTicksReach.within ρ = true := by decide +kernel) :
    Frame ρ s (t.faultTicks ms) :=
  h.lift hr fun h => ite (((h.foldl (fun _ _ hu => hu.quietTick)).foldl (fun _ _ hu => hu.testTick)).foldl
    (fun _ _ hu => hu.wr)) ((h.foldl (fun _ _ hu => hu.quietTick)).foldl (fun _ _ hu => hu.testTick))

/-! ## Clocks -/

def showRecReach : Reach := ⟨[], [R.CLK_STATUS_REC_OK]⟩

theorem showRec (h : Frame ρ s t) (hr : showRecReach.within ρ = true := by decide +kernel) :
    Frame ρ s (t.showRec) :=
  h.lift hr fun h => h.wrB

def switchRefReach : Reach := tallyReach.and <| ⟨[], [R.CLK_CNT_REF_SWITCHES, R.CLK_STATUS_HOLDOVER, R.CLK_STATUS_REF]⟩

theorem switchRef (h : Frame ρ s t) {r : Nat} (hr : switchRefReach.within ρ = true := by decide +kernel) :
    Frame ρ s (t.switchRef r) :=
  h.lift hr fun h => ite h h.wr.wr.inc.tally

def takeHighestReach : Reach := switchRefReach

theorem takeHighest (h : Frame ρ s t) (hr : takeHighestReach.within ρ = true := by decide +kernel) :
    Frame ρ s (t.takeHighest) :=
  h.lift hr fun h => by
    unfold State.takeHighest
    split
    · exact h.switchRef
    · exact h

def countedGoodReach : Reach := ⟨[], [H.CLK_CNT_BAD]⟩

theorem countedGood (h : Frame ρ s t) {src : Nat} (hr : countedGoodReach.within ρ = true := by decide +kernel) :
    Frame ρ s (t.countedGood src) :=
  h.lift hr fun h => h.when (fun _ hu => hu.wr)

def refStepReach : Reach := takeHighestReach.and <| ⟨[], [H.CLK_CNT_BAD]⟩

theorem refStep (h : Frame ρ s t) (hr : refStepReach.within ρ = true := by decide +kernel) :
    Frame ρ s (t.refStep) :=
  h.lift hr fun h => ite (h.when (fun _ hu => hu.wr)).switchRef (ite (h.when (fun _ hu => hu.wr)).takeHighest (h.when
    (fun _ hu => hu.wr)))

def beginSwitchReach : Reach := ⟨[], [H.CLK_SW_COARSE, H.CLK_SW_FORCED, H.CLK_SW]⟩

theorem beginSwitch (h : Frame ρ s t) {ds : List Nat} {forced coarse : Bool}
    (hr : beginSwitchReach.within ρ = true := by decide +kernel) :
    Frame ρ s (t.beginSwitch ds forced coarse) :=
  h.lift hr fun h => h.foldl (fun _ _ hu => hu.wr.wrB.wrB)

def fallBackReach : Reach := faultReach.and <| beginSwitchReach.and <| ⟨[], [R.CLK_CNT_FALLBACKS, R.CLK_NMI_FALLBACK,
  R.CLK_STATUS_ON_FRC]⟩

theorem fallBack (h : Frame ρ s t) {d : Nat} {forced : Bool} (hr : fallBackReach.within ρ = true := by decide +kernel) :
    Frame ρ s (t.fallBack d forced) :=
  h.lift hr fun h => ite h (ite (h.when (fun _ hu => hu.fault)) (ite h.fault (h.foldl
    (fun _ _ hu => hu.wr.wr)).beginSwitch.nmiAll.inc.fault))

def doReturnReach : Reach := beginSwitchReach.and <| ⟨[], [R.CLK_STATUS_ON_FRC]⟩

theorem doReturn (h : Frame ρ s t) {d : Nat} (hr : doReturnReach.within ρ = true := by decide +kernel) :
    Frame ρ s (t.doReturn d) :=
  h.lift hr fun h => (h.foldl (fun _ _ hu => hu.wr)).beginSwitch

def putDivReach : Reach := beginSwitchReach.and <| ⟨[], [R.CLK_DIV_HART_DIV, R.CLK_DIV_BUS_DIV]⟩

theorem putDiv (h : Frame ρ s t) {v : Nat} (hr : putDivReach.within ρ = true := by decide +kernel) :
    Frame ρ s (t.putDiv v) :=
  h.lift hr fun h => ((h.when (fun _ hu => hu.beginSwitch)).when (fun _ hu => hu.beginSwitch)).wr.wr

/-! ## Resets -/

def dropForecastsReach : Reach := ⟨[], [R.BW_FOLD_STAT_VALID, R.BW_FOLD_FCAST0_H1, R.BW_FOLD_FCAST0_H2, R.BW_FOLD_FCAST1_H3,
  R.BW_FOLD_FCAST1_H4, R.BW_FOLD_FCAST2_H5, R.BW_FOLD_FCAST2_H6, R.BW_FOLD_FCAST3_H7, R.BW_FOLD_FCAST3_H8, R.BW_RAIL_FCAST_MAX,
  H.BW_FRAIL, H.BW_RISE]⟩

theorem dropForecasts (h : Frame ρ s t) (hr : dropForecastsReach.within ρ = true := by decide +kernel) :
    Frame ρ s (t.dropForecasts) :=
  h.lift hr fun h => h.clearFlds

def stopMapReach : Reach := dropForecastsReach.and <| ⟨[.map, .sched, .sweeps], [R.LE_SLOT_PROG_STAGE_COUNT, R.RUN_EN,
  R.RUN_STATE, R.RUN_LIVE, R.STATUS_RUNNING, R.STATUS_READY, R.PROFILE_PENDING, R.LE_STATUS_RUNNING, R.FRAME_STAT_LANE_LOAD,
  H.GL_START_HOLD, H.TOP_COMMIT_AT, H.TOP_PEER_PASS, H.TOP_OWN_AGE, H.TOP_RUN_HOLD, H.TOP_REL_REFUSED, H.TOP_REQ_HELD,
  H.TOP_PREP_ST]⟩

theorem stopMap (h : Frame ρ s t) (hr : stopMapReach.within ρ = true := by decide +kernel) :
    Frame ρ s (t.stopMap) :=
  h.lift hr fun h => by
    unfold State.stopMap
    extract_lets s1
    have h1 : Frame stopMapReach t s1 := h.clearElems.clearFld.dropForecasts
    clear_value s1
    exact ((h1.setMap (x := ⟨s1.map.flash, s1.map.image, s1.map.upload, [], false, false, none, none, []⟩)).setSched
      (x := [])).setSweeps

def closeWindowReach : Reach := ⟨[], [R.WARDEN_OPEN, R.WARDEN_REMAIN]⟩

theorem closeWindow (h : Frame ρ s t) (hr : closeWindowReach.within ρ = true := by decide +kernel) :
    Frame ρ s (t.closeWindow) :=
  h.lift hr fun h => h.clearElems

def resetHartReach : Reach := closeWindowReach.and <| ⟨[], [R.FW_HART_STAT_LEVEL, R.FW_HART_STAT_LOAD, R.FW_HART_CTRL_SLEEP_OK,
  H.FW_LOW_WIN, R.FW_HART_STAT_RESTARTS, R.RST_STAT_HART, R.FW_HART_STAT_STATE]⟩

theorem resetHart (h : Frame ρ s t) {k : Nat} (hr : resetHartReach.within ρ = true := by decide +kernel) :
    Frame ρ s (t.resetHart k) :=
  h.lift hr fun h => h.wr.wr.inc.clearElems.when (fun _ hu => hu.closeWindow)

def commandHartReach : Reach := resetHartReach.and <| ⟨[], [R.RST_CAUSE_HART_CMD]⟩

theorem commandHart (h : Frame ρ s t) {k : Nat} (hr : commandHartReach.within ρ = true := by decide +kernel) :
    Frame ρ s (t.commandHart k) :=
  h.lift hr fun h => h.resetHart.wr

def checkFailsReach : Reach := ⟨[], [R.FW_IMAGE_REASON, R.FW_IMAGE_VERIFIED, H.FW_REREAD, H.FLT_RESULT]⟩

theorem checkFails (h : Frame ρ s t) {k : Nat} (hr : checkFailsReach.within ρ = true := by decide +kernel) :
    Frame ρ s (t.checkFails k) :=
  h.lift hr fun h => h.wr.wr.wr.when (fun _ hu => hu.wr)

def noKickReach : Reach := checkFailsReach.and <| ⟨[], [H.FW_CRC_OK]⟩

theorem noKick (h : Frame ρ s t) {k : Nat} (hr : noKickReach.within ρ = true := by decide +kernel) :
    Frame ρ s (t.noKick k) :=
  h.lift hr fun h => (h.when (fun _ hu => hu.checkFails)).wr

def kickReach : Reach := ⟨[], [H.FW_CRC_OK, H.FLT_RESULT]⟩

theorem kick (h : Frame ρ s t) {k : Nat} (hr : kickReach.within ρ = true := by decide +kernel) :
    Frame ρ s (t.kick k) :=
  h.lift hr fun h => (h.when (fun _ hu => hu.wr)).wr

def answerCmdReach : Reach := postCplReach.and <| ⟨[], [H.FW_RING_OP, R.RING_POS_CMD_HEAD]⟩

theorem answerCmd (h : Frame ρ s t) {r status r0 r1 : Nat} (hr : answerCmdReach.within ρ = true := by decide +kernel) :
    Frame ρ s (t.answerCmd r status r0 r1) :=
  h.lift hr fun h => h.postCpl.wr.wr

def finishCmdReach : Reach := answerCmdReach.and <| ⟨[], [H.FW_CPL_R1, H.FW_CPL_R0, H.FW_CPL_STATUS, H.FW_CPL_DUE]⟩

theorem finishCmd (h : Frame ρ s t) {r status r0 r1 : Nat} (hr : finishCmdReach.within ρ = true := by decide +kernel) :
    Frame ρ s (t.finishCmd r status r0 r1) :=
  h.lift hr fun h => ite h.answerCmd h.wr.wr.wr.wr

def postDueReach : Reach := answerCmdReach.and <| ⟨[], [H.FW_CPL_DUE]⟩

theorem postDue (h : Frame ρ s t) {r : Nat} (hr : postDueReach.within ρ = true := by decide +kernel) :
    Frame ρ s (t.postDue r) :=
  h.lift hr fun h => ite h.wr.answerCmd h

def profileEndReach : Reach := finishCmdReach

theorem profileEnd (h : Frame ρ s t) {status : Nat} (hr : profileEndReach.within ρ = true := by decide +kernel) :
    Frame ρ s (t.profileEnd status) :=
  h.lift hr fun h => h.foldl (fun _ _ hu => hu.when (fun _ hu1 => hu1.finishCmd))

def abortRingsReach : Reach := finishCmdReach

theorem abortRings (h : Frame ρ s t) (hr : abortRingsReach.within ρ = true := by decide +kernel) :
    Frame ρ s (t.abortRings) :=
  h.lift hr fun h => h.foldl (fun _ _ hu => hu.when (fun _ hu1 => hu1.wr.finishCmd))

def startHartReach : Reach := drainEventsReach.and <| ⟨[], [R.FW_HART_STAT_STATE]⟩

theorem startHart (h : Frame ρ s t) {k : Nat} (hr : startHartReach.within ρ = true := by decide +kernel) :
    Frame ρ s (t.startHart k) :=
  h.lift hr fun h => h.wr.when (fun _ hu => hu.drainEvents)

def restartHartReach : Reach := abortRingsReach.and <| startHartReach.and <| ⟨[], [H.GL_RESTARTED]⟩

theorem restartHart (h : Frame ρ s t) {k : Nat} (hr : restartHartReach.within ρ = true := by decide +kernel) :
    Frame ρ s (t.restartHart k) :=
  h.lift hr fun h => (h.startHart.when (fun _ hu => hu.wr)).when (fun _ hu => hu.abortRings)

def wakeHartReach : Reach := ⟨[], [R.FW_HART_STAT_STATE]⟩

theorem wakeHart (h : Frame ρ s t) {k : Nat} (hr : wakeHartReach.within ρ = true := by decide +kernel) :
    Frame ρ s (t.wakeHart k) :=
  h.lift hr fun h => ite h.wr h

/-! ## The commit of a map or a profile -/

def commitRailCfgReach : Reach := ⟨[], [R.PD_RAIL_MASK_MASK, R.PD_RAIL_CFG_FSW, R.PD_RAIL_CFG_MIN_ACTIVE, R.PD_RAIL_CFG_COUNT,
  R.PD_RAIL_CFG_SENSE_CH, R.PD_RAIL_CFG_ENABLE]⟩

theorem commitRailCfg (h : Frame ρ s t) {r : Rec} (hr : commitRailCfgReach.within ρ = true := by decide +kernel) :
    Frame ρ s (t.commitRailCfg r) :=
  h.lift hr fun h => h.wr.wr.wr.wr.wr.wr

def dropRailReach : Reach := railOffReach.and <| ⟨[], [R.PD_SETPOINT_CODE, H.PD_HIST, R.PD_RAIL_STAT_SAFE_LATCH,
  R.PD_RAIL_STAT_OVERLOAD, R.PD_RAIL_STAT_TRUNCATING, R.PD_RAIL_STAT_SHED_DEFER, R.PD_RAIL_STAT_SELECT, R.PD_RAIL_VREF_TARGET,
  R.PD_RAIL_CONT_CONT_EFF, R.PD_RAIL_OVERLOAD_MEAN, R.PD_RAIL_CUT_C_SAFE, R.PD_RAIL_CUT_C_OVERLOAD, R.PD_RAIL_CUT_C_DERATED,
  R.PD_RAIL_CUT_C_FENCED, R.PD_RAIL_CUT_CUT, H.PD_OV_CUT, H.PD_OV_RISING, H.PD_OVL_EFF, H.PD_NEWFAIL, H.PD_SUM256, H.PD_SG2,
  H.PD_TRUNC_NOW, H.PD_ALARM_NOW, H.LE_IN_RAILI, H.LE_IN_RAILV, H.LE_IN_TRUNC, R.PD_RAIL_CFG_ENABLE, R.PD_RAIL_CFG_SENSE_CH,
  R.PD_RAIL_CFG_COUNT, R.PD_RAIL_CFG_MIN_ACTIVE, R.PD_RAIL_CFG_FSW, R.PD_RAIL_MASK_MASK, R.PD_RAIL_LIMITS_TRUNC,
  R.PD_RAIL_LIMITS_SC, R.PD_RAIL_CONT_CONT, R.PD_RAIL_OVERLOAD_OVERLOAD, H.PD_SAFE_CONT, H.PD_RAMP_RATE]⟩

theorem dropRail (h : Frame ρ s t) {r : Nat} (hr : dropRailReach.within ρ = true := by decide +kernel) :
    Frame ρ s (t.dropRail r) :=
  h.lift hr fun h => (h.when (fun _ hu => hu.railOff)).clearElems.clearElems.wrAll.wrAll

def commitPhaseReach : Reach := pwmReach.and <| ⟨[], [R.PD_PH_DUTY_DUTY, R.PD_PH_DUTY_SHARE, R.PD_PH_STAT_STATE,
  R.PD_PH_STAT_RAIL, R.PD_PH_STAT_RANK, R.PD_PH_STAT_CAUSE, R.PD_PH_STAT_DERATED, R.PD_PH_STAT_SC_FRAME, H.PD_SC_CNT]⟩

theorem commitPhase (h : Frame ρ s t) {old : Machine.State} {rs : List Rec} {p : Nat}
    (hr : commitPhaseReach.within ρ = true := by decide +kernel) :
    Frame ρ s (old.commitPhase rs t p) :=
  h.lift hr fun h => by
    unfold State.commitPhase
    split
    · exact ite h.wr.wr.wr.wr h
    · exact ite h h.pwm.clearElems

def commitTopologyReach : Reach := dropRailReach.and <| commitPhaseReach

theorem commitTopology (h : Frame ρ s t) {l : List Rec} (hr : commitTopologyReach.within ρ = true := by decide +kernel) :
    Frame ρ s (t.commitTopology l) :=
  h.lift hr fun h => (((h.foldl (fun _ _ hu => hu.dropRail)).foldl (fun _ _ hu => hu.commitRailCfg)).foldl
    (fun _ _ hu => hu.commitPhase)).foldl (fun _ _ hu => (hu.when (fun _ hu1 => hu1.railOff)).rerank.refreshDuty)

def commitSetpointsReach : Reach := ⟨[], [R.PD_SETPOINT_CODE]⟩

theorem commitSetpoints (h : Frame ρ s t) {r : Rec} (hr : commitSetpointsReach.within ρ = true := by decide +kernel) :
    Frame ρ s (t.commitSetpoints r) :=
  h.lift hr fun h => h.wrAll

def commitSafeReach : Reach := ⟨[], [H.PD_RAMP_RATE, H.PD_SAFE_CONT, R.PD_SETPOINT_CODE]⟩

theorem commitSafe (h : Frame ρ s t) {r : Rec} (hr : commitSafeReach.within ρ = true := by decide +kernel) :
    Frame ρ s (t.commitSafe r) :=
  h.lift hr fun h => h.wr.wr.wr

def commitLimitsReach : Reach := ⟨[], [R.PD_RAIL_LIMITS_SC, R.PD_RAIL_OVERLOAD_OVERLOAD, R.PD_RAIL_CONT_CONT,
  R.PD_RAIL_LIMITS_TRUNC]⟩

theorem commitLimits (h : Frame ρ s t) {r : Rec} (hr : commitLimitsReach.within ρ = true := by decide +kernel) :
    Frame ρ s (t.commitLimits r) :=
  h.lift hr fun h => h.wr.wr.wr.wr

def commitPdReach : Reach := commitTopologyReach

theorem commitPd (h : Frame ρ s t) {kind : CommitKind} {l : List Rec}
    (hr : commitPdReach.within ρ = true := by decide +kernel) :
    Frame ρ s (t.commitPd kind l) :=
  h.lift hr fun h => (((h.when (fun _ hu => hu.commitTopology)).foldl (fun _ _ hu => hu.commitSetpoints)).when
    (fun _ hu => hu.foldl (fun _ _ hu1 => hu1.commitSafe))).foldl (fun _ _ hu => hu.commitLimits)

def putStageReach : Reach := ⟨[], [R.LE_STAGE_KEXP, R.LE_STAGE_KM, R.LE_STAGE_B, R.LE_STAGE_A, R.LE_STAGE_EXP, R.LE_STAGE_OP]⟩

theorem putStage (h : Frame ρ s t) {k : Nat} {g : Stage} (hr : putStageReach.within ρ = true := by decide +kernel) :
    Frame ρ s (t.putStage k g) :=
  h.lift hr fun h => h.wr.wr.wr.wr.wr.wr

def putProgramReach : Reach := putStageReach.and <| ⟨[], [R.LE_SLOT_PROG_STAGE_COUNT, R.LE_SLOT_PROG_STAGE_BASE]⟩

theorem putProgram (h : Frame ρ s t) {base : Nat} {r : Rec} (hr : putProgramReach.within ρ = true := by decide +kernel) :
    Frame ρ s (t.putProgram base r) :=
  h.lift hr fun h => (h.foldl (fun _ _ hu => hu.putStage)).wr.wr

def presetDueReach : Reach := ⟨[], [H.LE_PRESET_REG, H.LE_PRESET_DUE]⟩

theorem presetDue (h : Frame ρ s t) {l : Nat} (hr : presetDueReach.within ρ = true := by decide +kernel) :
    Frame ρ s (t.presetDue l) :=
  h.lift hr fun h => h.wr.wr

def commitSlotReach : Reach := presetDueReach.and <| ⟨[], [R.LE_SLOT_MODE_MODE, H.LE_HOLD_IN, R.LE_SLOT_MODE_MODE_REQ,
  H.LE_MODE_BEFORE, R.LE_SLOT_PLAUS_RUN_CNT, H.LE_PL_TRIP, H.LE_PL_FILL, H.LE_FRESH, R.LE_SLOT_INTEG_INTEG,
  R.LE_SLOT_MANUAL_MANUAL, R.LE_SLOT_SLEW_SLEW, R.LE_SLOT_OUTSEL_OUT_INDEX, R.LE_SLOT_OUTSEL_OUT_KIND, R.LE_SLOT_CFG_START,
  R.LE_SLOT_CFG_OFFSET, R.LE_SLOT_CFG_DIV, R.LE_SLOT_CFG_NEAR, H.LE_FWD, H.LE_NEXT_VALID, R.LE_SLOT_OUT_OUT, H.LE_HOLD_START,
  H.LE_MODE_COMMIT]⟩

theorem commitSlot (h : Frame ρ s t) {old : Machine.State} {kind : CommitKind} {r : Rec}
    (hr : commitSlotReach.within ρ = true := by decide +kernel) :
    Frame ρ s (old.commitSlot kind t r) :=
  h.lift hr fun h => ite ((ite (h.wr.wr.wr.wr.wr.wr.wr.when (fun _ hu => hu.wr)).wr.wr.wr.clearElems
    (h.wr.wr.wr.wr.wr.wr.wr.when (fun _ hu => hu.wr)).wr.wr.wr.clearElems.wr.wr.wr).wr.wr.when (fun _ hu => hu.wr.wr.when
    (fun _ hu1 => hu1.wr))).wr.wr (ite ((ite (h.wr.wr.wr.wr.wr.wr.wr.when (fun _ hu => hu.wr)).wr.wr.wr.clearElems
    (h.wr.wr.wr.wr.wr.wr.wr.when (fun _ hu => hu.wr)).wr.wr.wr.clearElems.wr.wr.wr).wr.wr.when (fun _ hu => hu.wr.wr.when
    (fun _ hu1 => hu1.wr))).wr ((((ite (h.wr.wr.wr.wr.wr.wr.wr.when (fun _ hu => hu.wr)).wr.wr.wr.clearElems
    (h.wr.wr.wr.wr.wr.wr.wr.when (fun _ hu => hu.wr)).wr.wr.wr.clearElems.wr.wr.wr).wr.wr.when (fun _ hu => hu.wr.wr.when
    (fun _ hu1 => hu1.wr))).wr.when (fun _ hu => hu.wr)).when (fun _ hu => hu.presetDue)))

def commitGoldenReach : Reach := ⟨[], [H.LE_GOLD_CAP, H.LE_GOLD_NEW, H.LE_GOLD_N]⟩

theorem commitGolden (h : Frame ρ s t) {old new : List Rec} {l : Nat}
    (hr : commitGoldenReach.within ρ = true := by decide +kernel) :
    Frame ρ s (State.commitGolden old new t l) :=
  h.lift hr fun h => ite h h.wr.wr.wrB

def endGoldenReach : Reach := applyVerdictReach.and <| ⟨[], [H.TWIN_PEER_GOLD, H.LE_GOLD_TWIN]⟩

theorem endGolden (h : Frame ρ s t) {l : Nat} (hr : endGoldenReach.within ρ = true := by decide +kernel) :
    Frame ρ s (t.endGolden l) :=
  h.lift hr fun h => ite h.applyVerdict.wr.wr h

def commitTableReach : Reach := ⟨[], [R.LE_LUT_EXP, R.LE_LUT_G, R.LE_LUT_X]⟩

theorem commitTable (h : Frame ρ s t) {r : Rec} (hr : commitTableReach.within ρ = true := by decide +kernel) :
    Frame ρ s (t.commitTable r) :=
  h.lift hr fun h => h.wr.foldl (fun _ _ hu => hu.wr.wr)

def commitPackageReach : Reach := ⟨[], [R.LE_PKG_HBM_EST_HBM_EST, R.LE_PKG_KEEP_EST_KEEP_EST, R.LE_PKG_LIMITS_GAP_FRAMES,
  R.LE_PKG_LIMITS_EXC_FRAMES, R.LE_PKG_EXCURSION_EXCURSION, R.LE_PKG_SUSTAINED_SUSTAINED]⟩

theorem commitPackage (h : Frame ρ s t) {r : Rec} (hr : commitPackageReach.within ρ = true := by decide +kernel) :
    Frame ρ s (t.commitPackage r) :=
  h.lift hr fun h => h.wr.wr.wr.wr.wr.wr

def commitFoldReach : Reach := ⟨[], [R.LE_FOLD_FLOOR_FLOOR, R.LE_FOLD_POWER_POWER]⟩

theorem commitFold (h : Frame ρ s t) {r : Rec} (hr : commitFoldReach.within ρ = true := by decide +kernel) :
    Frame ρ s (t.commitFold r) :=
  h.lift hr fun h => h.wr.wr

def commitLeReach : Reach := endGoldenReach.and <| putProgramReach.and <| commitSlotReach.and <| commitTableReach.and <|
  commitFoldReach.and <| commitPackageReach.and <| commitGoldenReach.and ⟨[], slotDests ++ [R.LE_STAGE_OP, R.LE_STAGE_EXP,
  R.LE_STAGE_A, R.LE_STAGE_B, R.LE_STAGE_KM, R.LE_STAGE_KEXP, R.LE_LUT_EXP, R.LE_LUT_X, R.LE_LUT_G, R.LE_FOLD_POWER_POWER,
  R.LE_FOLD_FLOOR_FLOOR]⟩

/-- A fold over a state and a count. -/
theorem foldlFst {α β : Type} (h : Frame ρ s t) {xs : List α} {b : β} {g : State × β → α → State × β}
    (hg : ∀ x a, Frame ρ s x.1 → Frame ρ s (g x a).1) : Frame ρ s (xs.foldl g (t, b)).1 := by
  induction xs generalizing t b with
  | nil => exact h
  | cons a xs ih => exact ih (t := (g (t, b) a).1) (b := (g (t, b) a).2) (hg (t, b) a h)

theorem commitLe (h : Frame ρ s t) {kind : CommitKind} {l : List Rec}
    (hr : commitLeReach.within ρ = true := by decide +kernel) :
    Frame ρ s (t.commitLe kind l) :=
  h.lift hr fun h => by
    unfold State.commitLe
    extract_lets recs now gone s0 s1 s2 s3 s4 s5 s6
    have h0 : Frame commitLeReach t s0 := h.foldl fun _ _ hu => hu.endGolden
    have h2 : Frame commitLeReach t s2 := (h0.foldl fun _ _ hu => hu.clearElems).clearFlds
    have h3 : Frame commitLeReach t s3 := h2.foldlFst fun _ _ hu => hu.putProgram
    have h4 : Frame commitLeReach t s4 := h3.foldl fun _ _ hu => hu.commitSlot
    have h5 : Frame commitLeReach t s5 := h4.foldl fun _ _ hu => hu.commitTable
    have h6 : Frame commitLeReach t s6 := (h5.foldl fun _ _ hu => hu.commitPackage).foldl fun _ _ hu => hu.commitFold
    exact h6.foldl fun _ _ hu => hu.commitGolden

def commitCrookReach : Reach := ⟨[], [R.CROOK_FOLD_CFG_THRESH, R.CROOK_FOLD_CFG_HYST, R.CROOK_FOLD_CFG_MAX_STRETCH,
  H.CROOK_CFG_DUE, H.CROOK_THR_DUE]⟩

theorem commitCrook (h : Frame ρ s t) {old : Machine.State} {kind : CommitKind} {l : List Rec}
    (hr : commitCrookReach.within ρ = true := by decide +kernel) :
    Frame ρ s (t.commitCrook old kind l) :=
  h.lift hr fun h => (h.clearFlds.foldl (fun _ _ hu => hu.wr.wr.wr)).foldl (fun _ _ hu => hu.when (fun _ hu1 => hu1.wr.when
    (fun _ hu2 => hu2.wr)))

def commitLayerReach : Reach := ⟨[], [R.BW_LAYER_IN, R.BW_LAYER_OUT, R.BW_LAYER_BBASE, R.BW_LAYER_EXP, R.BW_LAYER_WBASE,
  R.BW_WMEM_W, R.BW_BIAS_BIAS]⟩

theorem commitLayer (h : Frame ρ s t) {wb bb : Nat} {r : Rec} (hr : commitLayerReach.within ρ = true := by decide +kernel) :
    Frame ρ s (t.commitLayer wb bb r) :=
  h.lift hr fun h => (h.wr.wr.wr.wr.wr.foldl (fun _ _ hu => hu.wr)).foldl (fun _ _ hu => hu.wr)

def commitBwReach : Reach := commitLayerReach.and <| dropFoldsReach.and ⟨[], [R.BW_WMEM_W, R.BW_BIAS_BIAS, R.BW_NETMAP_NET,
  R.BW_LAYER_WBASE, R.BW_LAYER_EXP, R.BW_LAYER_BBASE, R.BW_LAYER_OUT, R.BW_LAYER_IN, R.BW_STATUS_NET_VALID,
  R.BW_STATUS_WEIGHT_ERR]⟩

theorem commitBw (h : Frame ρ s t) {l : List Rec} (hr : commitBwReach.within ρ = true := by decide +kernel) :
    Frame ρ s (t.commitBw l) :=
  h.lift hr fun h => by
    unfold State.commitBw
    extract_lets layers s1 s2 s3 valid
    have h1 : Frame commitBwReach t s1 := h.clearFlds
    have h2 : Frame commitBwReach t s2 := h1.foldlFst fun _ _ hu => hu.commitLayer
    have h3 : Frame commitBwReach t s3 := h2.foldl fun _ _ hu => hu.wrAll
    exact h3.wr.wr.dropFolds

def commitPaddockReach : Reach := ⟨[], [R.TH_PAD_CFG_HYST, R.TH_PAD_CFG_NEAR, R.TH_PAD_STAT_DIODE_FAIL, R.TH_PAD_CFG_SITES,
  R.TH_PAD_CFG_DIODE, R.TH_PAD_CFG_FOLD, R.TH_SITE_PADDOCK, R.TH_SITE_STATE]⟩

theorem commitPaddock (h : Frame ρ s t) {l : List Rec} {r : Rec}
    (hr : commitPaddockReach.within ρ = true := by decide +kernel) :
    Frame ρ s (State.commitPaddock l t r) :=
  h.lift hr fun h => by
    unfold State.commitPaddock
    exact (show Frame _ _ _ from by
      split
      · exact h.wr.wr.wr.wr.wr.wr
      · exact h.wr.wr.wr.wr).foldl (fun _ _ hu => hu.wr.when (fun _ hu1 => hu1.wr))

def commitThermalReach : Reach := sendOptAllowReach.and <| ⟨[], [R.TH_BAND_CFG_KIND, R.TH_PAD_CFG_FOLD, R.TH_PAD_CFG_DIODE,
  R.TH_PAD_CFG_NEAR, R.TH_PAD_CFG_HYST, R.TH_PAD_CFG_SITES, R.TH_PAD_HURDLE_LEVEL, R.TH_PAD_HURDLE_RATE, R.TH_BAND_CFG_SOURCE,
  R.TH_BAND_CFG_HYST, R.TH_OPT_HEATER_HEATER, R.TH_OPT_LASER_LASER, R.TH_PAD_STAT_NEAR, R.TH_PAD_STAT_BLIND,
  R.TH_PAD_STAT_CLAMP, R.TH_PAD_STAT_DIODE_FAIL, R.TH_PAD_STAT_SUSPECT, R.TH_PAD_STAT_FAILED, R.TH_PAD_STAT_EXCLUDED,
  H.TH_NEAR_WANT, H.TH_CLAMP_WANT, H.TH_NEW, H.TH_RESWEEP, H.TH_DIODEC, R.TH_SITE_STATE, R.TH_SITE_SUBST, H.TH_SUSC,
  H.TH_HIGHC, R.TH_SITE_PADDOCK]⟩

theorem commitThermal (h : Frame ρ s t) {l : List Rec} (hr : commitThermalReach.within ρ = true := by decide +kernel) :
    Frame ρ s (t.commitThermal l) :=
  h.lift hr fun h => (((((((h.clearFlds.foldl (fun _ _ hu => hu.clearElems)).foldl (fun _ _ hu => hu.when
    (fun _ hu1 => hu1.wr.clearElems))).foldl (fun _ _ hu => hu.commitPaddock)).foldl (fun _ _ hu => hu.wr.wr)).wrAll.foldl
    (fun _ _ hu => hu.wr.wr.wr)).foldl (fun _ _ hu => hu.wr.wr)).foldl (fun _ _ hu => hu.sendOptAllow)).foldl
    (fun _ _ hu => hu.recount)

def commitHeftReach : Reach := ⟨[.store], [H.STORE_ECC]⟩

theorem commitHeft (h : Frame ρ s t) {kind : CommitKind} {l ovr : List Rec} {q : Nat}
    (hr : commitHeftReach.within ρ = true := by decide +kernel) :
    Frame ρ s (State.commitHeft kind l ovr t q) :=
  h.lift hr fun h => by
    unfold State.commitHeft
    split
    · split
      · exact ite h h.st
      · exact h
    · exact h.st

def commitTablesReach : Reach := commitGrantsReach.and <| commitHeftReach.and <| ⟨[], [R.GL_RAIL_COST_COST]⟩

theorem commitTables (h : Frame ρ s t) {kind : CommitKind} {m : MapImg} {p : Nat}
    (hr : commitTablesReach.within ρ = true := by decide +kernel) :
    Frame ρ s (t.commitTables kind m p) :=
  h.lift hr fun h => ((h.foldl (fun _ _ hu => hu.commitHeft)).when (fun _ hu => hu.clearFld)).commitGrants

def stRegionsReach : Reach := ⟨[.store], [H.STORE_ECC]⟩

theorem stRegions (h : Frame ρ s t) {b : List Byte} {l : List (Nat × Nat)}
    (hr : stRegionsReach.within ρ = true := by decide +kernel) :
    Frame ρ s (t.stRegions b l) :=
  h.lift hr fun h => by
    suffices hall : ∀ u b, Frame stRegionsReach t u → Frame stRegionsReach t (u.stRegions b l) from hall t b h
    induction l with
    | nil => exact fun u b hu => hu
    | cons x l ih => exact fun u b hu => ih _ _ hu.stBytes

def putShadowsReach : Reach := stRegionsReach

theorem putShadows (h : Frame ρ s t) {m : MapImg} {p : Nat} (hr : putShadowsReach.within ρ = true := by decide +kernel) :
    Frame ρ s (t.putShadows m p) :=
  h.lift hr fun h => h.stRegions

def commitMarkReach : Reach := tallyReach.and <| ⟨[], [R.GL_STATUS_UNATTENDED, H.GL_START_HOLD, R.STATUS_RUNNING, R.RUN_STATE,
  H.TWIN_COPY_N, R.FRAME_STAT_LANE_LOAD, R.LE_STATUS_PROFILE, R.PROFILE_IN_FORCE, R.RUN_COMMIT, R.RUN_LIVE, H.TOP_COMMIT_AT,
  H.TOP_PEER_PASS, H.TOP_OWN_AGE, H.TOP_RUN_HOLD, H.TOP_PREP_ST]⟩

theorem commitMark (h : Frame ρ s t) {kind : CommitKind} {l : List Rec} {p : Nat}
    (hr : commitMarkReach.within ρ = true := by decide +kernel) :
    Frame ρ s (t.commitMark kind l p) :=
  h.lift hr fun h => by
    unfold State.commitMark
    exact (show Frame _ _ _ from by
      split
      · exact h.wr.wr.wr.wr.wr.wr.wr.wrB.wrB
      · exact h.wr.wr.wr.wr.wr.clearElems
      · exact h.wr.wr.wr.wr.wr.wr).tally

def commitEchoReach : Reach := ⟨[], [R.CROOK_STATUS_SYNCED, H.CROOK_DELAYED, H.CROOK_FOLD_MAXC, H.CROOK_ECHO_DUE]⟩

theorem commitEcho (h : Frame ρ s t) (hr : commitEchoReach.within ρ = true := by decide +kernel) :
    Frame ρ s (t.commitEcho) :=
  h.lift hr fun h => h.clearFlds.wr.foldl (fun _ _ hu => hu.when (fun _ hu1 => hu1.wr))

def commitMapReach : Reach := commitLeReach.and <| commitPdReach.and <| commitThermalReach.and <| commitBwReach.and <|
  commitMarkReach.and <| commitTablesReach.and <| commitCrookReach.and <| commitEchoReach.and <| showMaxReach.and <| ⟨[.sched,
  .map], [H.BW_SEEN]⟩

theorem commitMap (h : Frame ρ s t) {kind : CommitKind} {m : MapImg} {p : Nat}
    (hr : commitMapReach.within ρ = true := by decide +kernel) :
    Frame ρ s (t.commitMap kind m p) :=
  h.lift hr fun h => (ite (h.commitPd.commitLe.commitBw.commitThermal.setMap.commitMark.foldl
    (fun _ _ hu => hu.showMax)).commitCrook.commitTables.putShadows.setSched
    (h.commitPd.commitLe.commitBw.commitThermal.setMap.commitMark.foldl
    (fun _ _ hu => hu.showMax)).commitCrook.commitTables.putShadows).when (fun _ hu => hu.clearFld.commitEcho)

/-! ## Harts -/

def setStepReach : Reach := ⟨[], [R.BOOT_TIME_STEP_T, R.BOOT_STEP]⟩

theorem setStep (h : Frame ρ s t) {n : Nat} (hr : setStepReach.within ρ = true := by decide +kernel) :
    Frame ρ s (t.setStep n) :=
  h.lift hr fun h => h.wr.wr

def bootRecordReach : Reach := tallyReach

theorem bootRecord (h : Frame ρ s t) {sev : Nat} (hr : bootRecordReach.within ρ = true := by decide +kernel) :
    Frame ρ s (t.bootRecord sev) :=
  h.lift hr fun h => h.tally

def safeGovernorReach : Reach := bootRecordReach.and <| setStepReach.and <| ⟨[], [R.BOOT_ERR, R.FW_HART_STAT_STATE,
  H.TALLY_PEND, R.RING_CFG_EN, R.TWIN_STATUS_ROLE, R.STATUS_SAFE_GOV]⟩

theorem safeGovernor (h : Frame ρ s t) {err : Nat} (hr : safeGovernorReach.within ρ = true := by decide +kernel) :
    Frame ρ s (t.safeGovernor err) :=
  h.lift hr fun h => ite h.wr h.wr.setStep.wr.wr.wr.wr.wrAll.bootRecord

/-! ## Enabling and reconfiguration -/

def clearLoaderReach : Reach := ⟨[.map], []⟩

theorem clearLoader (h : Frame ρ s t) (hr : clearLoaderReach.within ρ = true := by decide +kernel) :
    Frame ρ s (t.clearLoader) :=
  h.lift hr fun h => h.setMap

def loadEndReach : Reach := finishCmdReach

theorem loadEnd (h : Frame ρ s t) {status r0 : Nat} (hr : loadEndReach.within ρ = true := by decide +kernel) :
    Frame ρ s (t.loadEnd status r0) :=
  h.lift hr fun h => ite h.finishCmd h

def recordRefusalReach : Reach := tallyReach.and <| ⟨[], [R.PROFILE_REFUSE_PROF, R.REFUSE_WHERE, R.REFUSE_CODE]⟩

theorem recordRefusal (h : Frame ρ s t) {r : Refuse} (hr : recordRefusalReach.within ρ = true := by decide +kernel) :
    Frame ρ s (t.recordRefusal r) :=
  h.lift hr fun h => by
    unfold State.recordRefusal
    exact (show Frame _ _ _ from by
      split
      · exact h.wr.wr.wr
      · exact h.wr.wr).tally

def startPrepReach : Reach := ⟨[], [H.TOP_PROF_AT, H.TOP_PREP_ST, R.PROFILE_PENDING]⟩

theorem startPrep (h : Frame ρ s t) (hr : startPrepReach.within ρ = true := by decide +kernel) :
    Frame ρ s (t.startPrep) :=
  h.lift hr fun h => h.wr.wr.wr

def heldProfileReach : Reach := profileEndReach.and <| startPrepReach.and <| ⟨[], [R.PROFILE_REQ_ERR, H.TOP_REQ_HELD]⟩

theorem heldProfile (h : Frame ρ s t) (hr : heldProfileReach.within ρ = true := by decide +kernel) :
    Frame ρ s (t.heldProfile) :=
  h.lift hr fun h => ite (ite h.wr.wr.profileEnd (ite h.wr.profileEnd h.wr.startPrep)) h

def sendMirrorReach : Reach := ⟨[.out], []⟩

theorem sendMirror (h : Frame ρ s t) {op : MirrorOp} (hr : sendMirrorReach.within ρ = true := by decide +kernel) :
    Frame ρ s (t.sendMirror op) :=
  h.lift hr fun h => h.send

def refuseMapReach : Reach := heldProfileReach.and <| safeGovernorReach.and <| recordRefusalReach.and <| clearLoaderReach.and
  <| ⟨[], [R.RUN_LIVE, H.TOP_COMMIT_AT, H.TOP_PEER_PASS, H.TOP_OWN_AGE, H.TOP_RUN_HOLD, H.TOP_REL_REFUSED, R.RUN_EN,
  R.RUN_STATE]⟩

theorem refuseMap (h : Frame ρ s t) {r : Refuse} (hr : refuseMapReach.within ρ = true := by decide +kernel) :
    Frame ρ s (t.refuseMap r) :=
  h.lift hr fun h => ite ((h.recordRefusal.clearLoader.loadEnd.clearElems.when (fun _ hu => hu.sendMirror)).when
    (fun _ hu => hu.wr)).heldProfile (ite h.recordRefusal.clearLoader.loadEnd.wr.wr.wr
    (ite h.recordRefusal.clearLoader.loadEnd.wr.wr.safeGovernor h.recordRefusal.clearLoader.loadEnd.wr.wr))

def startLoaderReach : Reach := refuseMapReach.and <| ⟨[], [H.TOP_LOAD_RING, H.TOP_LOAD_SRC]⟩

theorem startLoader (h : Frame ρ s t) (hr : startLoaderReach.within ρ = true := by decide +kernel) :
    Frame ρ s (t.startLoader) :=
  h.lift hr fun h => by
    unfold State.startLoader
    split
    · exact h.clearLoader.wr.wr.wr.wr.refuseMap
    · exact h.clearLoader.wr.wr.wr.wr

def runWordReach : Reach := ⟨[], [R.RUN_RING, R.RUN_SRC, R.RUN_KEEP_PROFILE]⟩

theorem runWord (h : Frame ρ s t) {keep src : Bool} {ring : Nat} (hr : runWordReach.within ρ = true := by decide +kernel) :
    Frame ρ s (t.runWord keep src ring) :=
  h.lift hr fun h => h.wrB.wrB.wr

def enableReach : Reach := startLoaderReach.and <| ⟨[], [R.FRAME_STAT_DEFER_CNT, R.LE_SLOT_MODE_PRESETS,
  R.CROOK_FOLD_TOTAL_TOTAL, R.BW_FOLD_CNT0_LATE, R.BW_FOLD_CNT0_STALE, R.BW_FOLD_CNT0_GAP, R.BW_FOLD_CNT0_BAD,
  R.BW_FOLD_CNT1_NOMAP, R.BW_FOLD_CNT1_DUP_TAG, R.BW_FOLD_CNT1_FAR, R.BW_FOLD_CNT1_DROP]⟩

theorem enable (h : Frame ρ s t) (hr : enableReach.within ρ = true := by decide +kernel) :
    Frame ρ s (t.enable) :=
  h.lift hr fun h => ite h.wr.wr.clearFlds.wr.startLoader h

def disableReach : Reach := refuseMapReach.and <| dropForecastsReach.and <| stageReach

theorem disable (h : Frame ρ s t) {w : WCtx} (hr : disableReach.within ρ = true := by decide +kernel) :
    Frame ρ s (t.disable w) :=
  h.lift hr fun h => ite h.refuseMap (ite h.wr.dropForecasts.stage h)

def beginReloadReach : Reach := startLoaderReach

theorem beginReload (h : Frame ρ s t) (hr : beginReloadReach.within ρ = true := by decide +kernel) :
    Frame ρ s (t.beginReload) :=
  h.lift hr fun h => ite h.recordRefusal h.clearElems.wr.wrB.startLoader

def askReloadReach : Reach := beginReloadReach

theorem askReload (h : Frame ρ s t) {w : WCtx} (hr : askReloadReach.within ρ = true := by decide +kernel) :
    Frame ρ s (t.askReload w) :=
  h.lift hr fun h => ite h.beginReload h.mirrorOut.beginReload

def nameCommitReach : Reach := sendMirrorReach.and <| ⟨[], [H.TOP_COMMIT_AT]⟩

theorem nameCommit (h : Frame ρ s t) {k : Nat} (hr : nameCommitReach.within ρ = true := by decide +kernel) :
    Frame ρ s (t.nameCommit k) :=
  h.lift hr fun h => h.wr.when (fun _ hu => hu.sendMirror)

def tryNameReach : Reach := nameCommitReach

theorem tryName (h : Frame ρ s t) {k : Nat} (hr : tryNameReach.within ρ = true := by decide +kernel) :
    Frame ρ s (t.tryName k) :=
  h.lift hr fun h => ite h (ite h (ite h h.nameCommit))

def admitMapReach : Reach := startHartReach.and <| tryNameReach.and <| setStepReach.and <| ⟨[.map], [H.TOP_OWN_AGE, R.RUN_LIVE,
  R.BOOT_FROM_RING, R.STATUS_SAFE_GOV, R.BOOT_ERR]⟩

theorem admitMap (h : Frame ρ s t) {m : MapImg} (hr : admitMapReach.within ρ = true := by decide +kernel) :
    Frame ρ s (t.admitMap m) :=
  h.lift hr fun h => ite (h.setMap.wr.wr.when (fun _ hu => hu.sendMirror)).tryName (ite (h.setMap.clearElems.wr.foldl
    (fun _ _ hu => hu.startHart)).setStep h.setMap)

def requestProfileReach : Reach := startPrepReach.and <| ⟨[], [H.TOP_REQ_HELD, R.PROFILE_REQ]⟩

theorem requestProfile (h : Frame ρ s t) {p : Nat} (hr : requestProfileReach.within ρ = true := by decide +kernel) :
    Frame ρ s (t.requestProfile p) :=
  h.lift hr fun h => ite h.wr.wr (ite h.wr h.wr.startPrep)

def writeProfileReach : Reach := requestProfileReach.and <| refuseReach.and <| mirrorOutReach.and <| ⟨[], [R.PROFILE_REQ_ERR]⟩

theorem writeProfile (h : Frame ρ s t) {w : WCtx} {p : Nat} (hr : writeProfileReach.within ρ = true := by decide +kernel) :
    Frame ρ s (t.writeProfile w p) :=
  h.lift hr fun h => (h.judged (fun _ hu => hu.requestProfile.mirrorOut)).when (fun _ hu => hu.wr)

def writeCapBmcReach : Reach := refuseReach.and <| stageReach.and <| mirrorOutReach

theorem writeCapBmc (h : Frame ρ s t) {w : WCtx} {v : Nat} (hr : writeCapBmcReach.within ρ = true := by decide +kernel) :
    Frame ρ s (t.writeCapBmc w v) :=
  h.lift hr fun h => h.judged (fun _ hu => hu.stage.mirrorOut)

def commitDueReach : Reach := commitMapReach.and <| heldProfileReach

theorem commitDue (h : Frame ρ s t) (hr : commitDueReach.within ρ = true := by decide +kernel) :
    Frame ρ s (t.commitDue) :=
  h.lift hr fun h => by
    unfold State.commitDue
    split
    · exact ite (h.when (fun _ hu => hu.clearElems)).commitMap.loadEnd (ite (h.when
        (fun _ hu => hu.clearElems)).commitMap.loadEnd.heldProfile (h.when (fun _ hu => hu.clearElems)))
    · split
      · exact ite (h.when (fun _ hu => hu.clearElems)).commitMap.profileEnd (h.when (fun _ hu => hu.clearElems))
      · exact h.when (fun _ hu => hu.clearElems)

def reloadStepReach : Reach := refuseMapReach

theorem reloadStep (h : Frame ρ s t) (hr : reloadStepReach.within ρ = true := by decide +kernel) :
    Frame ρ s (t.reloadStep) :=
  h.lift hr fun h => ite h (ite h.refuseMap (ite h.wr.tryName h))

/-! ## The Tally -/

def placeRecordReach : Reach := dmaReadReach.and <| ⟨[], [R.TALLY_SEQ_NEXT_SEQ, H.TALLY_PEND]⟩

theorem placeRecord (h : Frame ρ s t) {q : TallyReq} (hr : placeRecordReach.within ρ = true := by decide +kernel) :
    Frame ρ s (t.placeRecord q) :=
  h.lift hr fun h => by
    unfold State.placeRecord
    split
    · exact h.inc
    · exact ite h.dmaRead.inc (h.stBytes.st.wr.when (fun _ hu => hu.wr))

def flushStepReach : Reach := ⟨[.mirror, .flush], [H.TALLY_LAST_SLOT, H.TALLY_PEND, R.TALLY_STAT_FLUSHING]⟩

theorem flushStep (h : Frame ρ s t) (hr : flushStepReach.within ρ = true := by decide +kernel) :
    Frame ρ s (t.flushStep) :=
  h.lift hr fun h => by
    unfold State.flushStep
    split
    · extract_lets k g s1
      have h1 : Frame flushStepReach t s1 := (h.setMirror (x := s1.mirror)).setFlush
      exact h1.wr.wr.wr
    · exact h

def askFlushReach : Reach := flushStepReach

theorem askFlush (h : Frame ρ s t) (hr : askFlushReach.within ρ = true := by decide +kernel) :
    Frame ρ s (t.askFlush) :=
  h.lift hr fun h => h.wr.flushStep

def submitRecordReach : Reach := tallyReach

theorem submitRecord (h : Frame ρ s t) {v : Nat} (hr : submitRecordReach.within ρ = true := by decide +kernel) :
    Frame ρ s (t.submitRecord v) :=
  h.lift hr fun h => h.tally

/-! ## The start-up sequence -/

def retireRowReach : Reach := ⟨[], [R.STORE_STAT_RETIRED, H.STORE_RETIRED]⟩

theorem retireRow (h : Frame ρ s t) {row : Nat} (hr : retireRowReach.within ρ = true := by decide +kernel) :
    Frame ρ s (t.retireRow row) :=
  h.lift hr fun h => ite h h.wr.wr

def rampTripReach : Reach := bootRecordReach.and <| ⟨[], [H.TOP_BOOT_ON, R.BOOT_ERR]⟩

theorem rampTrip (h : Frame ρ s t) (hr : rampTripReach.within ρ = true := by decide +kernel) :
    Frame ρ s (t.rampTrip) :=
  h.lift hr fun h => h.wr.wr.bootRecord

def powerGoodAtReach : Reach := endStartTrackReach.and <| startEchoReach.and <| ⟨[], [H.PD_PG_NEW]⟩

theorem powerGoodAt (h : Frame ρ s t) {r : Nat} (hr : powerGoodAtReach.within ρ = true := by decide +kernel) :
    Frame ρ s (t.powerGoodAt r) :=
  h.lift hr fun h => (h.wr.foldl (fun _ _ hu => hu.endStartTrack)).foldl (fun _ _ hu => hu.when (fun _ hu1 => hu1.startEcho))

def powerGoodsReach : Reach := powerGoodAtReach

theorem powerGoods (h : Frame ρ s t) (hr : powerGoodsReach.within ρ = true := by decide +kernel) :
    Frame ρ s (t.powerGoods) :=
  h.lift hr fun h => h.foldl (fun _ _ hu => hu.powerGoodAt)

def readyStepReach : Reach := bootRecordReach.and <| ⟨[], [H.GL_START_HOLD, R.BOOT_TIME_READY_T, H.TH_HBM_AGE,
  R.STATUS_RAIL_DOWN, R.STATUS_READY]⟩

theorem readyStep (h : Frame ρ s t) (hr : readyStepReach.within ρ = true := by decide +kernel) :
    Frame ρ s (t.readyStep) :=
  h.lift hr fun h => ite h.wrB.wrB.wrAll.wr.wr.bootRecord h.wrB.wrB

def bootTimeReach : Reach := ⟨[], [H.TOP_BOOT_T, H.TOP_BOOT_SUB]⟩

theorem bootTime (h : Frame ρ s t) (hr : bootTimeReach.within ρ = true := by decide +kernel) :
    Frame ρ s (t.bootTime) :=
  h.lift hr fun h => ite h.wr.inc h.wr

def bootBoundaryReach : Reach := rampTripReach.and <| bootTimeReach

theorem bootBoundary (h : Frame ρ s t) (hr : bootBoundaryReach.within ρ = true := by decide +kernel) :
    Frame ρ s (t.bootBoundary) :=
  h.lift hr fun h => ite h.bootTime.rampTrip h.bootTime

/-! ## The Store -/

def storeBusyReach : Reach := ⟨[.out], [R.STORE_BUSY_HART, R.STORE_BUSY_HOST]⟩

theorem storeBusy (h : Frame ρ s t) {q : Requester} (hr : storeBusyReach.within ρ = true := by decide +kernel) :
    Frame ρ s (t.storeBusy q) :=
  h.lift hr fun h => by
    unfold State.storeBusy
    split
    · exact h.wr.send
    · exact h.wr

def reachBankReach : Reach := storeBusyReach.and <| ⟨[], [H.STORE_BUSYW]⟩

theorem reachBank (h : Frame ρ s t) {q : Requester} {a : Nat} (hr : reachBankReach.within ρ = true := by decide +kernel) :
    Frame ρ s (t.reachBank q a) :=
  h.lift hr fun h => ite h.wr.storeBusy h

def injectStoreReach : Reach := injectedReach.and <| ⟨[], [H.STORE_ECC]⟩

theorem injectStore (h : Frame ρ s t) {a n : Nat} (hr : injectStoreReach.within ρ = true := by decide +kernel) :
    Frame ρ s (t.injectStore a n) :=
  h.lift hr fun h => ite h.wr.injected (ite h.wr.injected h)

def portWriteReach : Reach := eccEventReach.and <| reachBankReach.and <| injectStoreReach

theorem portWrite (h : Frame ρ s t) {q : Requester} {a : Nat} {b : List Byte}
    (hr : portWriteReach.within ρ = true := by decide +kernel) :
    Frame ρ s (t.portWrite q a b) :=
  h.lift hr fun h => (h.reachBank.foldl (fun _ _ hu => hu.eccEvent)).stBytes.injectStore

def logRecordReach : Reach := portWriteReach.and <| hostIrqReach.and <| ⟨[], [R.FW_LOG_DROPPED, R.FW_LOG_WPTR]⟩

theorem logRecord (h : Frame ρ s t) {k off : Nat} {b : List Byte} (hr : logRecordReach.within ρ = true := by decide +kernel) :
    Frame ρ s (t.logRecord k off b) :=
  h.lift hr fun h => ite h (ite h.inc (h.portWrite.wr.when (fun _ hu => hu.hostIrq)))

def traceRecordReach : Reach := portWriteReach.and <| ⟨[], [R.FW_TRACE_TRACE_SHED, R.FW_TRACE_WPTR]⟩

theorem traceRecord (h : Frame ρ s t) {k off : Nat} {b : List Byte}
    (hr : traceRecordReach.within ρ = true := by decide +kernel) :
    Frame ρ s (t.traceRecord k off b) :=
  h.lift hr fun h => ite h (ite h.inc h.portWrite.wr)

def storeInReach : Reach := logRecordReach.and <| traceRecordReach

theorem storeIn (h : Frame ρ s t) {q : Requester} {off : Nat} {b : List Byte}
    (hr : storeInReach.within ρ = true := by decide +kernel) :
    Frame ρ s (t.storeIn q off b) :=
  h.lift hr fun h => by
    unfold State.storeIn
    split
    · exact ite h.logRecord (ite h.traceRecord h.portWrite)
    · exact h.portWrite

def meetReach : Reach := storeBusyReach

theorem meet (h : Frame ρ s t) {q : Requester} {reader : Option Requester}
    (hr : meetReach.within ρ = true := by decide +kernel) :
    Frame ρ s (t.meet q reader) :=
  h.lift hr fun h => by
    unfold State.meet
    split
    · exact h.storeBusy
    · exact h

def storeWriteReach : Reach := storeInReach.and <| refuseReach

theorem storeWrite (h : Frame ρ s t) {w : WCtx} {off : Nat} {b : List Byte}
    (hr : storeWriteReach.within ρ = true := by decide +kernel) :
    Frame ρ s (t.storeWrite w off b) :=
  h.lift hr fun h => ite h.answer (ite h.refuse (ite (ite h h.storeIn).refuse (ite h h.storeIn).answer))

def poisonToReach : Reach := faultReach.and <| ⟨[.resp], []⟩

theorem poisonTo (h : Frame ρ s t) {q : Requester} {inj : Bool} (hr : poisonToReach.within ρ = true := by decide +kernel) :
    Frame ρ s (t.poisonTo q inj) :=
  h.lift hr fun h => by
    unfold State.poisonTo
    split
    · exact h.fault.send.answer
    · exact h.answer

def storeReadReach : Reach := eccEventReach.and <| reachBankReach.and <| ⟨[.resp], []⟩

theorem storeRead (h : Frame ρ s t) {w : WCtx} {off size : Nat} {err : EccErr}
    (hr : storeReadReach.within ρ = true := by decide +kernel) :
    Frame ρ s (t.storeRead w off size err) :=
  h.lift hr fun h => ite h.answer (ite h.answer (ite (h.reachBank.foldl (fun _ _ hu => hu.eccEvent)).poisonTo
    (h.reachBank.foldl (fun _ _ hu => hu.eccEvent)).answer))

theorem mixBits (h : Frame ρ s t) {a b n : Nat} (hp : ρ.hasPart .free = true := by rfl) : Frame ρ s (t.mixBits a b n).2 := by
  induction n with
  | zero => exact h
  | succ n ih => exact ih.freeStep hp

def tornReadReach : Reach := storeReadReach.and <| ⟨[.free], []⟩

theorem tornRead (h : Frame ρ s t) {w : WCtx} {off size other : Nat} (hr : tornReadReach.within ρ = true := by decide +kernel) :
    Frame ρ s (t.tornRead w off size other) :=
  h.lift hr fun h => ite h.storeRead h.reachBank.mixBits.answer

def atomicReach : Reach := eccEventReach.and <| reachBankReach.and <| injectStoreReach.and <| ⟨[], [R.STORE_AMO_DATA_DATA,
  R.STORE_AMO_ADDR_UE]⟩

theorem atomic (h : Frame ρ s t) {q : Requester} {k v : Nat} (hr : atomicReach.within ρ = true := by decide +kernel) :
    Frame ρ s (t.atomic q k v) :=
  h.lift hr fun h => ite h.reachBank.eccEvent.wr.wr h.reachBank.eccEvent.st.injectStore.wr.wr

def restoreRowReach : Reach := ⟨[.store], [H.STORE_ECC]⟩

theorem restoreRow (h : Frame ρ s t) {row : Nat} (hr : restoreRowReach.within ρ = true := by decide +kernel) :
    Frame ρ s (t.restoreRow row) :=
  h.lift hr fun h => h.foldl (fun _ _ hu => ite (ite hu.st hu.wr) hu)

def popReadReach : Reach := fifoPop1Reach

theorem popRead (h : Frame ρ s t) (hr : popReadReach.within ρ = true := by decide +kernel) : Frame ρ s t.popRead.2 :=
  h.lift hr fun h => by
    unfold State.popRead
    split
    · exact h.fifoPop1
    · exact h

/-! ## Rings -/

def ringCheckReach : Reach := postCplReach.and <| ⟨[], [R.RING_CFG_ERR, H.FW_RING_WAIT]⟩

theorem ringCheck (h : Frame ρ s t) {r : Nat} (hr : ringCheckReach.within ρ = true := by decide +kernel) :
    Frame ρ s (t.ringCheck r) :=
  h.lift hr fun h => ite (ite h (ite h.wr.postCpl h.wr)) h

def beginCmdReach : Reach := ⟨[], [H.FW_RING_OP, H.FW_RING_TAG]⟩

theorem beginCmd (h : Frame ρ s t) {r : Nat} (hr : beginCmdReach.within ρ = true := by decide +kernel) :
    Frame ρ s (t.beginCmd r) :=
  h.lift hr fun h => h.wr.wr

def completeReach : Reach := finishCmdReach.and <| ringCheckReach.and <| beginCmdReach

theorem complete (h : Frame ρ s t) {r status r0 r1 : Nat} (hr : completeReach.within ρ = true := by decide +kernel) :
    Frame ρ s (t.complete r status r0 r1) :=
  h.lift hr fun h => h.beginCmd.finishCmd.ringCheck

theorem serve (h : Frame ρ s t) {r op : Nat} {c : CmdRule} {act : State → State} (hact : ∀ u, Frame ρ s u → Frame ρ s (act u))
    (hc : completeReach.within ρ = true := by decide +kernel) (hk : ringCheckReach.within ρ = true := by decide +kernel) :
    Frame ρ s (t.serve r op c act) := by
  unfold State.serve
  split
  · split
    · exact h.complete hc
    · exact hact _ h
  · exact h.ringCheck hk

def heartbeatReach : Reach := ⟨[], [R.HOST_STAT_HB_AGE]⟩

theorem heartbeat (h : Frame ρ s t) (hr : heartbeatReach.within ρ = true := by decide +kernel) :
    Frame ρ s (t.heartbeat) :=
  h.lift hr fun h => h.wr

def dropCapsReach : Reach := stageReach.and <| mirrorOutReach

theorem dropCaps (h : Frame ρ s t) (hr : dropCapsReach.within ρ = true := by decide +kernel) :
    Frame ρ s (t.dropCaps) :=
  h.lift hr fun h => h.foldl (fun _ _ hu => hu.stage.mirrorOut)

def unattendReach : Reach := writeProfileReach.and <| hostIrqReach.and <| sendRevertReach.and <| dropCapsReach.and <| ⟨[],
  [R.GL_STATUS_UNATTENDED, R.HOST_STAT_UNATTENDED, R.HOST_STAT_ATTACHED]⟩

theorem unattend (h : Frame ρ s t) (hr : unattendReach.within ρ = true := by decide +kernel) :
    Frame ρ s (t.unattend) :=
  h.lift hr fun h => by
    unfold State.unattend
    extract_lets s1 s2 s3 s4
    have h3 : Frame unattendReach t s3 := (h.wr.wr.hostIrq.send.send.wr).when fun _ hu => hu.dropCaps
    have h4 : Frame unattendReach t s4 := h3.when fun _ hu => hu.foldl fun _ _ hv => hv.sendRevert
    split
    · exact h4.when fun _ hu => hu.writeProfile.answer
    · exact h4

def ringBellReach : Reach := postDueReach.and <| ringCheckReach.and <| heartbeatReach.and <| wakeHartReach.and <| ⟨[],
  [R.RING_DB_CPL_HEAD, R.RING_DB_CMD_TAIL]⟩

theorem ringBell (h : Frame ρ s t) {q : Requester} {r tail head : Nat}
    (hr : ringBellReach.within ρ = true := by decide +kernel) :
    Frame ρ s (t.ringBell q r tail head) :=
  h.lift hr fun h => (h.wr.wr.wr.when (fun _ hu => hu.heartbeat)).wakeHart.postDue.ringCheck

def doAttachReach : Reach := completeReach.and <| ⟨[], [R.HOST_STAT_NOTIFY_RING, H.FW_FEATURES, R.GL_STATUS_UNATTENDED,
  R.HOST_STAT_UNATTENDED, R.HOST_STAT_ATTACHED]⟩

theorem doAttach (h : Frame ρ s t) {r : Nat} (hr : doAttachReach.within ρ = true := by decide +kernel) :
    Frame ρ s (t.doAttach r) :=
  h.lift hr fun h => ite h.complete (ite h.complete h.wr.wr.wr.wr.wr.complete)

def clearRingReach : Reach := ⟨[], [R.RING_CFG_EN, R.RING_CFG_ERR, R.RING_CFG_CMD_LOG2, R.RING_CFG_CPL_LOG2,
  R.RING_CMD_BASE_BASE, R.RING_CPL_BASE_BASE, R.RING_DATA_PAGES, R.RING_DATA_BASE, R.RING_DB_CMD_TAIL, R.RING_DB_CPL_HEAD,
  R.RING_POS_CPL_TAIL, R.RING_POS_CMD_HEAD, H.FW_RING_OP, H.FW_RING_TAG, H.FW_RING_WAIT, H.FW_CPL_DUE, H.FW_CPL_STATUS,
  H.FW_CPL_R0, H.FW_CPL_R1]⟩

theorem clearRing (h : Frame ρ s t) {r : Nat} (hr : clearRingReach.within ρ = true := by decide +kernel) :
    Frame ρ s (t.clearRing r) :=
  h.lift hr fun h => h.clearElems

def doCreateReach : Reach := completeReach.and <| clearRingReach

theorem doCreate (h : Frame ρ s t) {r : Nat} (hr : doCreateReach.within ρ = true := by decide +kernel) :
    Frame ρ s (t.doCreate r) :=
  h.lift hr fun h => by
    unfold State.doCreate
    dsimp only
    split
    · exact h.complete
    split
    · exact h.complete
    split
    · exact h.complete
    split
    · exact h.complete
    split
    · exact h.complete
    · exact h.clearRing.wr.wr.wr.wr.wr.wr.wr.complete

def resetRingReach : Reach := ⟨[], [R.RING_CFG_ERR, R.RING_DB_CMD_TAIL, R.RING_DB_CPL_HEAD, R.RING_POS_CPL_TAIL,
  R.RING_POS_CMD_HEAD, H.FW_RING_OP, H.FW_RING_TAG, H.FW_RING_WAIT, H.FW_CPL_DUE, H.FW_CPL_STATUS, H.FW_CPL_R0, H.FW_CPL_R1]⟩

theorem resetRing (h : Frame ρ s t) {r : Nat} (hr : resetRingReach.within ρ = true := by decide +kernel) :
    Frame ρ s (t.resetRing r) :=
  h.lift hr fun h => h.clearElems

def doResetReach : Reach := completeReach.and <| resetRingReach

theorem doReset (h : Frame ρ s t) {r : Nat} (hr : doResetReach.within ρ = true := by decide +kernel) :
    Frame ρ s (t.doReset r) :=
  h.lift hr fun h => ite h.complete (ite h.beginCmd.finishCmd.resetRing (ite h.complete h.resetRing.complete))

def doDestroyReach : Reach := completeReach.and <| clearRingReach

theorem doDestroy (h : Frame ρ s t) {r : Nat} (hr : doDestroyReach.within ρ = true := by decide +kernel) :
    Frame ρ s (t.doDestroy r) :=
  h.lift hr fun h => ite h.complete h.clearRing.complete

def doLoadMapReach : Reach := enableReach.and <| completeReach.and <| ⟨[], [R.RUN_RING, R.RUN_SRC]⟩

theorem doLoadMap (h : Frame ρ s t) {r : Nat} (hr : doLoadMapReach.within ρ = true := by decide +kernel) :
    Frame ρ s (t.doLoadMap r) :=
  h.lift hr fun h => ite h.complete (ite h.complete (ite (ite h.complete (ite h.wr.wr.recordRefusal.complete
    (ite h.wr.wr.askReload.complete h.wr.wr.askReload.complete))) (ite h.wr.wr.enable.complete h.wr.wr.enable.complete)))

def takeMapBytesReach : Reach := ⟨[.map], []⟩

theorem takeMapBytes (h : Frame ρ s t) {bs : List Byte} {last : Bool}
    (hr : takeMapBytesReach.within ρ = true := by decide +kernel) :
    Frame ρ s (t.takeMapBytes bs last) :=
  h.lift hr fun h => h.setMap

def doMapDataReach : Reach := completeReach.and <| takeMapBytesReach

theorem doMapData (h : Frame ρ s t) {r : Nat} (hr : doMapDataReach.within ρ = true := by decide +kernel) :
    Frame ρ s (t.doMapData r) :=
  h.lift hr fun h => ite h.complete (ite (ite h.takeMapBytes.beginCmd h.takeMapBytes.complete) (ite h.complete h.complete))

def openFlashReach : Reach := completeReach.and <| ⟨[.map], [H.FW_FLASH_RING, H.FW_FLASH_OP]⟩

theorem openFlash (h : Frame ρ s t) {r op : Nat} (hr : openFlashReach.within ρ = true := by decide +kernel) :
    Frame ρ s (t.openFlash r op) :=
  h.lift hr fun h => by
    unfold State.openFlash
    split
    · exact h.complete
    · exact (show Frame _ _ _ from by
        split
        · exact h.wr.wr.setMap
        · exact h.wr.wr.setMap
        · exact h.wr.wr.setMap).complete

def putFlashReach : Reach := ⟨[.out, .map], []⟩

theorem putFlash (h : Frame ρ s t) {bs : List Byte} (hr : putFlashReach.within ρ = true := by decide +kernel) :
    Frame ρ s (t.putFlash bs) :=
  h.lift hr fun h => by
    unfold State.putFlash
    split
    · exact h.setMap.send
    · exact h.setMap.send
    · exact h.setMap

def doFlashDataReach : Reach := completeReach.and <| putFlashReach.and <| ⟨[], [H.FW_FLASH_OP]⟩

theorem doFlashData (h : Frame ρ s t) {r : Nat} (hr : doFlashDataReach.within ρ = true := by decide +kernel) :
    Frame ρ s (t.doFlashData r) :=
  h.lift hr fun h => ite h.complete (ite h.complete (ite h.wr.complete (ite h.wr.complete
    (ite h.putFlash.beginCmd h.putFlash.complete))))

/-! ## Mailboxes -/

def tellEndpointReach : Reach := hostIrqReach.and <| wakeHartReach

theorem tellEndpoint (h : Frame ρ s t) {code irq : Nat} (hr : tellEndpointReach.within ρ = true := by decide +kernel) :
    Frame ρ s (t.tellEndpoint code irq) :=
  h.lift hr fun h => ite h.wakeHart.send (ite h.hostIrq (ite h.send h))

/-! ## The platform interfaces -/

def supplyFaultReach : Reach := faultReach

theorem supplyFault (h : Frame ρ s t) {k : Nat} (hr : supplyFaultReach.within ρ = true := by decide +kernel) :
    Frame ρ s (t.supplyFault k) :=
  h.lift hr fun h => h.fault

def takeStatusReach : Reach := supplyFaultReach.and <| ⟨[], [R.PLAT_SUP_STAT_STATUS_WORD]⟩

theorem takeStatus (h : Frame ρ s t) {k w : Nat} (hr : takeStatusReach.within ρ = true := by decide +kernel) :
    Frame ρ s (t.takeStatus k w) :=
  h.lift hr fun h => h.wr.when (fun _ hu => hu.supplyFault)

def takePoutReach : Reach := supplyFaultReach.and <| ⟨[], [H.PLAT_OVERP, R.PLAT_SUP_READ_POUT]⟩

theorem takePout (h : Frame ρ s t) {k x : Nat} (hr : takePoutReach.within ρ = true := by decide +kernel) :
    Frame ρ s (t.takePout k x) :=
  h.lift hr fun h => h.wr.wrB.when (fun _ hu => hu.supplyFault)

def goodPollReach : Reach := takePoutReach.and <| takeStatusReach.and <| ⟨[], [R.PLAT_PMB_CYCLE_US, R.PLAT_SUP_READ_VOUT,
  H.PLAT_FAILS, H.PLAT_GOT, R.PLAT_SUP_STAT_AGE, R.PLAT_SUP_STAT_STALE]⟩

theorem goodPoll (h : Frame ρ s t) {k : Nat} {p : PollData} (hr : goodPollReach.within ρ = true := by decide +kernel) :
    Frame ρ s (t.goodPoll k p) :=
  h.lift hr fun h => by
    unfold State.goodPoll
    extract_lets s1 s2 s3 s4
    have h1 : Frame goodPollReach t s1 := h.wr.wr.wr.wr
    have h2 : Frame goodPollReach t s2 := by
      unfold s2
      split
      · exact h1.wr
      · exact h1
    have h3 : Frame goodPollReach t s3 := by
      unfold s3
      split
      · exact h2.takePout
      · exact h2
    have h4 : Frame goodPollReach t s4 := by
      unfold s4
      split
      · exact h3.takeStatus
      · exact h3
    split
    · exact h4.wr
    · exact h4

def sendPageReach : Reach := ⟨[.out], []⟩

theorem sendPage (h : Frame ρ s t) {k : Nat} (hr : sendPageReach.within ρ = true := by decide +kernel) :
    Frame ρ s (t.sendPage k) :=
  h.lift hr fun h => h.when (fun _ hu => hu.send)

def failPollReach : Reach := supplyFaultReach.and <| ⟨[], [H.PLAT_FAILS, R.PLAT_SUP_STAT_STALE]⟩

theorem failPoll (h : Frame ρ s t) {k : Nat} (hr : failPollReach.within ρ = true := by decide +kernel) :
    Frame ρ s (t.failPoll k) :=
  h.lift hr fun h => h.wr.when (fun _ hu => hu.wr.supplyFault)

def setDynReach : Reach := ⟨[], [R.PLAT_MCTP_DYN]⟩

theorem setDyn (h : Frame ρ s t) {a : Nat} (hr : setDynReach.within ρ = true := by decide +kernel) :
    Frame ρ s (t.setDyn a) :=
  h.lift hr fun h => h.when (fun _ hu => hu.wr)

theorem control (h : Frame ρ s t) {g : State → State} (hg : ∀ u, Frame ρ s u → Frame ρ s (g u)) : Frame ρ s
    (t.control g) := h.when hg

theorem pldm (h : Frame ρ s t) {g : State → State} (hg : ∀ u, Frame ρ s u → Frame ρ s (g u)) : Frame ρ s (t.pldm g) := h.when hg

def platformEventReach : Reach := ⟨[.out], []⟩

theorem platformEvent (h : Frame ρ s t) {cls id v : Nat} (hr : platformEventReach.within ρ = true := by decide +kernel) :
    Frame ρ s (t.platformEvent cls id v) :=
  h.lift hr fun h => h.when (fun _ hu => hu.send.send)

def platformEventsReach : Reach := platformEventReach.and <| ⟨[], [H.PLAT_CAP_EV, H.PLAT_EV_STATE]⟩

theorem platformEvents (h : Frame ρ s t) (hr : platformEventsReach.within ρ = true := by decide +kernel) :
    Frame ρ s (t.platformEvents) :=
  h.lift hr fun h => h.pldm (fun _ hu => (hu.wr.wr.when (fun _ hu1 => hu1.platformEvent)).foldl (fun _ _ hu1 => hu1.when
    (fun _ hu2 => hu2.platformEvent)))

def supplyBoundaryReach : Reach := ⟨[], [H.LE_IN_PMB, R.PLAT_SUP_STAT_AGE]⟩

theorem supplyBoundary (h : Frame ρ s t) (hr : supplyBoundaryReach.within ρ = true := by decide +kernel) :
    Frame ρ s (t.supplyBoundary) :=
  h.lift hr fun h => h.foldl (fun _ _ hu => hu.wr.when (fun _ hu1 => hu1.inc))

/-! ## Accesses of the register space -/

theorem captureRead (h : Frame ρ s t) {off : Nat} (hp : ρ.hasPart .free = true := by rfl) : Frame ρ s
    (t.captureRead off).2 := by
  unfold State.captureRead
  extract_lets l v
  clear_value v
  split
  · exact h
  · exact h.freeStep hp

def readWordReach : Reach := popReadReach.and ⟨[.shadows, .free], []⟩

theorem readWord (h : Frame ρ s t) {q : Requester} {off : Nat} (hr : readWordReach.within ρ = true := by decide +kernel) :
    Frame ρ s (t.readWord q off).2 :=
  h.lift hr fun h => by
    unfold State.readWord
    split
    · exact h.captureRead
    split
    · exact h.popRead
    split
    · exact h.setShadows
    split
    · split
      · exact h.setShadows
      · exact h
    · exact h

def busReadReach : Reach := storeReadReach.and <| readWordReach

theorem busRead (h : Frame ρ s t) {w : WCtx} {off size : Nat} (hr : busReadReach.within ρ = true := by decide +kernel) :
    Frame ρ s (t.busRead w off size) :=
  h.lift hr fun h => ite h.storeRead (ite h.answer (ite h.readWord.readWord.answer h.readWord.answer))

/-! ## The frame boundary -/

def fencesStandReach : Reach := ⟨[], [R.TH_FENCE_REQ]⟩

theorem fencesStand (h : Frame ρ s t) {acts : List StagedAct} (hr : fencesStandReach.within ρ = true := by decide +kernel) :
    Frame ρ s (t.fencesStand acts) :=
  h.lift hr fun h => by
    unfold State.fencesStand
    exact h.foldl (fun _ _ hu => (show Frame _ _ _ from by
      split
      · exact hu.wr
      · exact hu))

def fitHystReach : Reach := ⟨[], [R.CROOK_FOLD_CFG_HYST]⟩

theorem fitHyst (h : Frame ρ s t) (hr : fitHystReach.within ρ = true := by decide +kernel) :
    Frame ρ s (t.fitHyst) :=
  h.lift hr fun h => h.foldl (fun _ _ hu => hu.wr)

def configStepReach : Reach := ⟨[], [H.CROOK_CFG_DUE]⟩

theorem configStep (h : Frame ρ s t) {old : Machine.State} (hr : configStepReach.within ρ = true := by decide +kernel) :
    Frame ρ s (t.configStep old) :=
  h.lift hr fun h => h.foldl (fun _ _ hu => hu.when (fun _ hu1 => hu1.wr))

def capStepReach : Reach := applyCapReach.and <| ⟨[], [H.PLAT_CAP_EV, R.CAP_BMC_CAP, R.LE_FOLD_HOSTCAP_HOSTCAP]⟩

theorem capStep (h : Frame ρ s t) {acts : List StagedAct} (hr : capStepReach.within ρ = true := by decide +kernel) :
    Frame ρ s (t.capStep acts) :=
  h.lift hr fun h => by
    unfold State.capStep
    exact (show Frame _ _ _ from by
      split
      · exact (h.foldl (fun _ _ hu => (show Frame _ _ _ from by
          split
          · exact hu.wr
          · exact hu))).wr.wr
      · exact h.foldl (fun _ _ hu => (show Frame _ _ _ from by
          split
          · exact hu.wr
          · exact hu))).applyCap

def enClearStepReach : Reach := stopMapReach.and <| loadEndReach

theorem enClearStep (h : Frame ρ s t) {acts : List StagedAct} (hr : enClearStepReach.within ρ = true := by decide +kernel) :
    Frame ρ s (t.enClearStep acts) :=
  h.lift hr fun h => ite h.loadEnd.profileEnd.stopMap h

def takeStagedReach : Reach := ⟨[.staged], []⟩

theorem takeStaged (h : Frame ρ s t) (hr : takeStagedReach.within ρ = true := by decide +kernel) :
    Frame ρ s (t.takeStaged).2 :=
  h.lift hr fun h => h.setStaged

def nextFrameReach : Reach := ⟨[], [R.FRAME_COUNT, H.TOP_FRAME_STARTED]⟩

theorem nextFrame (h : Frame ρ s t) (hr : nextFrameReach.within ρ = true := by decide +kernel) :
    Frame ρ s (t.nextFrame) :=
  h.lift hr fun h => ite h.wr h.wr

def timeStepReach : Reach := faultTicksReach.and <| ⟨[], [H.TOP_MS_DIV, R.HOST_STAT_HB_AGE, R.WARDEN_REMAIN]⟩

theorem timeStep (h : Frame ρ s t) (hr : timeStepReach.within ρ = true := by decide +kernel) :
    Frame ρ s (t.timeStep) :=
  h.lift hr fun h => ((h.wr.when (fun _ hu => hu.inc)).when (fun _ hu => hu.wr)).faultTicks

def twinStepReach : Reach := takeoverReach.and <| roleStepReach.and <| twinAgesReach.and <| idStepReach.and <| keeperCountReach

theorem twinStep (h : Frame ρ s t) (hr : twinStepReach.within ρ = true := by decide +kernel) :
    Frame ρ s (t.twinStep) :=
  h.lift hr fun h => h.keeperCount.when (fun _ hu => hu.idStep.takeover.twinAges.roleStep)

def showRunReach : Reach := ⟨[], [H.LE_RUN_END, H.LE_RUN_DUE, R.LE_STATUS_DUE, R.LE_STATUS_LAST_END, R.LE_STATUS_RUNNING]⟩

theorem showRun (h : Frame ρ s t) (hr : showRunReach.within ρ = true := by decide +kernel) :
    Frame ρ s (t.showRun) :=
  h.lift hr fun h => h.wrB.wr.wr.clearElems

def latchInputsReach : Reach := latchThermalReach.and <| latchSenseReach.and <| loadSnapReach.and <| latchCrookReach.and <|
  supplyBoundaryReach

theorem latchInputs (h : Frame ρ s t) (hr : latchInputsReach.within ρ = true := by decide +kernel) :
    Frame ρ s (t.latchInputs) :=
  h.lift hr fun h => (((h.when (fun _ hu => hu.latchSense.loadSnap)).when (fun _ hu => hu.latchThermal)).when
    (fun _ hu => hu.latchCrook)).supplyBoundary

def openFrameReach : Reach := formStepReach.and <| ⟨[], [H.TWIN_FORM_DUE]⟩

theorem openFrame (h : Frame ρ s t) (hr : openFrameReach.within ρ = true := by decide +kernel) :
    Frame ρ s (t.openFrame) :=
  h.lift hr fun h => ite h.wr h.formStep

def endStepReach : Reach := reloadStepReach.and <| readyStepReach.and <| refStepReach.and <| bootBoundaryReach.and <|
  twinSendReach.and <| flushStepReach.and <| platformEventsReach

theorem endStep (h : Frame ρ s t) (hr : endStepReach.within ρ = true := by decide +kernel) :
    Frame ρ s (t.endStep) :=
  h.lift hr fun h => h.bootBoundary.readyStep.flushStep.platformEvents.reloadStep.refStep.when (fun _ hu => hu.twinSend)

end Sys2Proof.Machine.Frame
end

section
/-! What Crook's central part does on the cells' messages (R278, R281, R302–R307, R309). -/

set_option Elab.async false

namespace Sys2Proof.Machine

theorem mem_rails_lt {s : State} {r : Nat} (h : r ∈ s.rails) : r < 14 := List.mem_range.1 (List.mem_filter.1 h).1

theorem mem_phasesOf_lt {s : State} {r p : Nat} (h : p ∈ s.phasesOf r) : p < 128 := List.mem_range.1 (List.mem_filter.1 h).1

theorem mem_inState_lt {s : State} {r st p : Nat} (h : p ∈ s.inState r st) : p < 128 := mem_phasesOf_lt (List.mem_filter.1 h).1

/-- Lists of a rail's phases follow from the fields of which they speak. -/
theorem inState_congr {s t : State} (hm : ∀ j, t.rd R.PD_RAIL_MASK_MASK j = s.rd R.PD_RAIL_MASK_MASK j)
    (hs : ∀ j, t.rd R.PD_PH_STAT_STATE j = s.rd R.PD_PH_STAT_STATE j) (r st : Nat) : t.inState r st = s.inState r st := by
  simp only [State.inState, State.phasesOf, State.ph, hm, hs]

theorem shedding_congr {s t : State} (hm : ∀ j, t.rd R.PD_RAIL_MASK_MASK j = s.rd R.PD_RAIL_MASK_MASK j)
    (hs : ∀ j, t.rd R.PD_PH_STAT_STATE j = s.rd R.PD_PH_STAT_STATE j) (hr : ∀ j, t.rd H.PD_RET_ACT j = s.rd H.PD_RET_ACT j)
    (r : Nat) : t.shedding r = s.shedding r := by
  simp only [State.shedding, State.bit, inState_congr hm hs, hr]

/-! ## Reserved-class messages -/

theorem rd_sendRes1_spent {e e' : Endpoint} (h : e'.num ≠ e.num) (s : State) (m : MeshMsg) :
    (s.sendRes1 m e').rd H.GL_SPENT e.num = s.rd H.GL_SPENT e.num := by
  unfold State.sendRes1
  split
  · exact s.rd_wr_idx h (by decide) _
  · rfl

/-- A message for which its target has a credit goes out, whatever goes to other targets with it. -/
theorem mem_out_sendRes {e : Endpoint} {es : List Endpoint} (he : e ∈ es) (hnum : ∀ x ∈ es, x.num = e.num → x = e) {s : State}
    (hfree : s.rd H.GL_SPENT e.num < 2) (m : MeshMsg) : .mesh [e] m ∈ (s.sendRes m es).out := by
  obtain ⟨before, after, rfl, hnot⟩ := List.eq_append_cons_of_mem he
  have hkeep : (before.foldl (fun t x => t.sendRes1 m x) s).rd H.GL_SPENT e.num = s.rd H.GL_SPENT e.num :=
    List.foldlRecOn before _ (motive := fun u => u.rd H.GL_SPENT e.num = s.rd H.GL_SPENT e.num) rfl fun u hu x hx =>
      (rd_sendRes1_spent (fun hn => hnot (hnum x (by simp [hx]) hn ▸ hx)) u m).trans hu
  rw [State.sendRes, List.foldl_append, List.foldl_cons]
  refine (Tame.sendRes (es := after) (Tame.refl false _)).out.mem ?_
  rw [State.sendRes1, if_pos (by rw [hkeep]; exact hfree)]
  exact List.mem_cons_self

theorem mem_out_guard {s : State} (hh : s.holder = true) {e : Endpoint} {es : List Endpoint} (he : e ∈ es)
    (hnum : ∀ x ∈ es, x.num = e.num → x = e) (hfree : s.rd H.GL_SPENT e.num < 2) (m : MeshMsg) :
    .mesh [e] m ∈ (s.guard m es).out := by
  rw [State.guard, if_pos hh]
  exact mem_out_sendRes he hnum hfree m

theorem holder_congr {s t : State} (h : t.rd R.TWIN_STATUS_ROLE 0 = s.rd R.TWIN_STATUS_ROLE 0) : t.holder = s.holder := by
  rw [State.holder, State.role, h, State.holder, State.role]

/-! ## Trips -/

theorem exec_trip {s : State} {cell r : Nat} (hin : s.cellIn cell = true) (hr : r = foldRail s.zk4 (cellFold s.zk4 cell))
    (hmem : r ∈ s.rails) : exec (.trip cell) s = ((s.wr H.BW_TRIPC r 16).stepAndSkip r).go := by
  subst hr
  change execTrip _ _ = _
  rw [execTrip, if_pos (by simp [hin, hmem])]

/-- A TRIP's first mark changes nothing of the phases. -/
theorem shedding_tripc (s : State) (r v i : Nat) : (s.wr H.BW_TRIPC i v).shedding r = s.shedding r :=
  shedding_congr (fun _ => State.rd_wr_apart _ (by decide) _ _ _) (fun _ => State.rd_wr_apart _ (by decide) _ _ _)
    (fun _ => State.rd_wr_apart _ (by decide) _ _ _) r

theorem stepAndSkip_endSkip {s : State} {r : Nat} (hr : r < 14) (h : s.bit R.PD_RAIL_STAT_SKIPPING r = true) :
    (s.stepAndSkip r).bit H.PD_SKIP_END r = true := by
  have hstep : Frame Frame.stepDetectedReach s (s.stepDetected r) := (Frame.refl s).stepDetected
  rw [State.stepAndSkip, State.endSkip, hstep.bit (by decide +kernel), h, State.when_true,
    State.bit_wr_below hr _ _ (by decide) le_rfl rfl, if_pos rfl]
  rfl

theorem endSkip_frame (s : State) (r : Nat) : Frame Frame.endSkipReach s (s.endSkip r) := (Frame.refl s).endSkip

theorem dropShed_frame (s : State) (r : Nat) : Frame Frame.dropShedReach s (s.dropShed r) := (Frame.refl s).dropShed

theorem addFallow_frame (s : State) (r k : Nat) : Frame Frame.addFallowReach s (s.addFallow r k) := (Frame.refl s).addFallow

/-- A shed that ends: its phases are to return, none is pending, and DWELL starts again (R242, R243). -/
theorem dropShed_of_shedding {s : State} {r : Nat} (hr : r < 14) (h : s.shedding r ≠ []) :
    (∀ p ∈ s.shedding r, (s.dropShed r).bit H.PD_RET_ACT p = true) ∧ (s.dropShed r).rd H.PD_DWELL_CNT r = 0 := by
  rw [State.dropShed, if_neg (by simp [h])]
  refine ⟨fun p hp => ?_, ?_⟩
  · have hlt : p < 128 := mem_inState_lt (List.mem_filter.1 hp).1
    simp (disch := decide) only [State.bit_wr_apart]
    have hset (u : State) : (u.wr H.PD_RET_ACT p 1).bit H.PD_RET_ACT p = true := by
      rw [State.bit_wr_below hlt _ _ (by decide) le_rfl rfl, if_pos rfl]
      rfl
    refine foldl_at (g := fun (t : State) (p : Nat) => t.wr H.PD_RET_ACT p 1) (I := fun _ => True)
      (Q := fun u => u.bit H.PD_RET_ACT p = true) hp (fun _ _ _ => trivial)
      (fun u _ => hset u) (fun u x _ hq => ?_) s trivial
    by_cases hx : x = p
    · exact hx ▸ hset u
    · rwa [State.bit, State.rd_wr_idx _ hx (by decide)]
  · rw [State.rd_wr_below hr _ _ (by decide) le_rfl, if_pos rfl]
    rfl

/-- The phases that an add picks are ADDING. -/
theorem addFallow_adds {s : State} {r k p : Nat} (hp : p ∈ (s.inState r 3).take k) : (s.addFallow r k).ph p = 4 := by
  have hlt := mem_inState_lt (List.mem_of_mem_take hp)
  have hne : ((s.inState r 3).take k).isEmpty = false := by
    rw [List.isEmpty_eq_false_iff]
    exact List.ne_nil_of_mem hp
  have hrest (u : State) : Frame (Frame.rerankReach.and (Frame.refreshDutyReach.and (Frame.endSkipReach.and (.regs [H.PD_DWELL_CNT]))))
      u ((((u.wr H.PD_DWELL_CNT r 0).endSkip r).rerank r).refreshDuty r) := (Frame.refl u).wr.endSkip.rerank.refreshDuty
  have hadd (u : State) : (u.toAdding p).rd R.PD_PH_STAT_STATE p = 4 := by
    simp (disch := decide) only [State.toAdding, State.clearElems, List.foldl_cons, List.foldl_nil, State.rd_wr_apart,
      State.rd_wr_below hlt, if_true]
    rfl
  rw [State.addFallow, if_neg (by simp [hne]), State.ph, (hrest _).rd (by decide +kernel)]
  refine foldl_at (I := fun _ => True) (Q := fun u => u.rd R.PD_PH_STAT_STATE p = 4) hp (fun _ _ _ => trivial) (fun u _ => hadd u)
    (fun u x _ hq => ?_) s trivial
  by_cases hx : x = p
  · exact hx ▸ hadd u
  · simp (disch := decide) only [State.toAdding, State.clearElems, List.foldl_cons, List.foldl_nil, State.rd_wr_apart,
      State.rd_wr_idx _ hx]
    exact hq

/-- Adding phases leaves DWELL where it has been started, or starts it. -/
theorem addFallow_dwell {s : State} {r k : Nat} (hr : r < 14) (h : s.rd H.PD_DWELL_CNT r = 0) :
    (s.addFallow r k).rd H.PD_DWELL_CNT r = 0 := by
  have hrest (u : State) : Frame (Frame.rerankReach.and (Frame.refreshDutyReach.and Frame.endSkipReach))
      u (((u.endSkip r).rerank r).refreshDuty r) := (Frame.refl u).endSkip.rerank.refreshDuty
  rw [State.addFallow]
  split
  · exact h
  · rw [(hrest _).rd (by decide +kernel), State.rd_wr_below hr _ _ (by decide) le_rfl, if_pos rfl]
    rfl

theorem stepDetected_of_shedding {s : State} {r : Nat} (h : s.shedding r ≠ []) :
    s.stepDetected r = (((s.dropShed r).addFallow r (s.rd R.CROOK_RAIL_CFG_STEP_ADD r)).inc R.CROOK_RAIL_STAT_ABORTS r 1).wr
      H.PD_ALARM_NOW r 1 := by
  rw [State.stepDetected, if_pos (by simp [h])]

theorem stepDetected_of_pending {s : State} {r : Nat} (h : s.shedding r = []) (hp : 0 < s.rd H.PD_SHED_PEND r) :
    s.stepDetected r = (s.wr H.PD_SHED_PEND r 0).wr H.PD_DWELL_CNT r 0 := by
  rw [State.stepDetected, if_neg (by simp [h]), if_pos (by omega), State.dropShed, if_neg (by simp [h]; omega), h]
  rfl

/-! ## Reports -/

/-- A report counted into its fold and its cell (R281, R307). -/
def State.countReport (s : State) (cell : Nat) (r : CellReport) : State :=
  ((((((((s.inc H.CROOK_PTRIPS (cellFold s.zk4 cell) r.trips).inc H.CROOK_PEDGES (cellFold s.zk4 cell) r.edges).inc
    R.CROOK_FOLD_TOTAL_TOTAL (cellFold s.zk4 cell) r.trips).inc R.CROOK_CELL_TRIPS cell r.trips).wrB R.CROOK_CELL_ORPHAN cell
    r.orphan).wrB R.CROOK_CELL_STRETCHING cell r.stretching).wrB H.CROOK_REP_STUCK cell r.stuck).when
    (decide (r.frame % 256 ≠ s.frame % 256)) fun t => t.inc R.CROOK_LATE_LATE 0 1).when (s.rd R.CROOK_TEST_CELL 0 == cell)
    fun t => t.wr R.CROOK_TEST_BUSY 0 0

theorem exec_report {s : State} {cell : Nat} (hin : s.cellIn cell = true) (r : CellReport) :
    exec (.report cell r) s = ((((s.countReport cell r).cellTest cell r)).noteStuck cell r.stuck).go := by
  change execReport _ _ _ = _
  rw [execReport, if_neg (by simp [hin])]
  rfl

theorem cellTest_frame (s : State) (cell : Nat) (r : CellReport) :
    Frame (.regs [H.FLT_PROBE_GOT, H.FLT_RESULT]) s (s.cellTest cell r) := (Frame.refl s).cellTest

theorem countReport_frame (s : State) (cell : Nat) (r : CellReport) :
    Frame (.regs [H.CROOK_PTRIPS, H.CROOK_PEDGES, R.CROOK_FOLD_TOTAL_TOTAL, R.CROOK_CELL_TRIPS, R.CROOK_CELL_ORPHAN,
      R.CROOK_CELL_STRETCHING, H.CROOK_REP_STUCK, R.CROOK_LATE_LATE, R.CROOK_TEST_BUSY]) s (s.countReport cell r) :=
  ((Frame.refl s).inc.inc.inc.inc.wrB.wrB.wrB.when fun _ hu => hu.inc).when fun _ hu => hu.wr

/-! ## Delays -/

theorem updateSynced_frame (s : State) : Frame (.regs [R.CROOK_STATUS_SYNCED]) s s.updateSynced := (Frame.refl s).updateSynced

/-- A DELAY goes to a cell that has a credit, and its ECHO is no longer pending (R278). -/
theorem sendDelay_spec {s : State} {c : Nat} (hc : c < 832) (hh : s.holder = true) (hfree : s.rd H.GL_SPENT (96 + c) < 2)
    (comp : Nat) :
    .mesh [.cell c] (.delay c comp) ∈ (s.sendDelay c comp).out ∧ (s.sendDelay c comp).bit H.CROOK_ECHO_PEND c = false
      ∧ (s.sendDelay c comp).bit H.CROOK_DELAYED c = true
      ∧ Frame (.regsMesh [H.GL_SPENT, H.CROOK_ECHO_PEND, H.CROOK_DELAYED, R.CROOK_STATUS_SYNCED]) s (s.sendDelay c comp) := by
  rw [State.sendDelay]
  refine ⟨?_, ?_, ?_, (Frame.refl s).guard.wr.wr.updateSynced⟩
  · rw [(updateSynced_frame _).out]
    exact mem_out_guard (e := .cell c) hh (List.mem_singleton.2 rfl) (fun x hx _ => List.mem_singleton.1 hx) hfree _
  · rw [(updateSynced_frame _).bit (by decide), State.bit_wr_apart _ (by decide), State.bit_wr_below hc _ _ (by decide) le_rfl rfl,
      if_pos rfl]
    rfl
  · rw [(updateSynced_frame _).bit (by decide), State.bit_wr_below hc _ _ (by decide) le_rfl rfl, if_pos rfl]
    rfl

/-- Settles O14. -/
theorem crookCentralCounts : Obligations.CrookCentralCounts := by
  unfold Obligations.CrookCentralCounts
  refine ⟨?_, ?_, ?_, ?_, ?_, ?_, ?_, ?_, ?_⟩
  · intro s cell hin hmem
    have hr := mem_rails_lt hmem
    generalize hrail : foldRail s.zk4 (cellFold s.zk4 cell) = r at *
    have hframe : Frame Frame.stepAndSkipReach (s.wr H.BW_TRIPC r 16) ((s.wr H.BW_TRIPC r 16).stepAndSkip r) :=
      (Frame.refl _).stepAndSkip
    refine .of_go (exec_trip hin hrail.symm hmem) ⟨?_, fun hskip => ?_, hframe.map, hframe.sameStore⟩
    · rw [hframe.rd (by decide +kernel), State.rd_wr_below hr _ _ (by decide) le_rfl, if_pos rfl]
      rfl
    · exact stepAndSkip_endSkip hr ((State.bit_wr_apart _ (by decide) _ _ _).trans hskip)
  · intro s cell r hin hknown
    have hc := State.cellIn_lt hin
    have hf := cellFold_lt s.zk4 hc
    have hquiet : ((s.countReport cell r).cellTest cell r).noteStuck cell r.stuck = (s.countReport cell r).cellTest cell r := by
      refine noteStuck_of_known fun h => ?_
      rw [(cellTest_frame _ _ _).bit (by decide), (countReport_frame _ _ _).bit (by decide), hknown h]
    refine .of_go ((exec_report hin r).trans (by rw [hquiet])) ?_
    have hframe := ((countReport_frame s cell r).mono (r := .regs [H.CROOK_PTRIPS, H.CROOK_PEDGES, R.CROOK_FOLD_TOTAL_TOTAL,
      R.CROOK_CELL_TRIPS, R.CROOK_CELL_ORPHAN, R.CROOK_CELL_STRETCHING, H.CROOK_REP_STUCK, R.CROOK_LATE_LATE, R.CROOK_TEST_BUSY,
      H.FLT_PROBE_GOT, H.FLT_RESULT]) (by decide)).andThen (cellTest_frame _ cell r)
    simp (disch := decide) only [(cellTest_frame _ cell r).rd, (cellTest_frame _ cell r).bit]
    simp (disch := decide) only [State.countReport, State.rd_when, State.bit_when, State.rd_wr_apart, State.bit_wr_apart,
      State.rd_wrB_apart, State.bit_wrB_apart, State.rd_inc_apart, State.bit_inc_apart, State.rd_inc_below hc, State.rd_inc_below hf,
      State.rd_inc_zero, State.rd_wr_zero, State.bit_wrB_below hc, if_true, ite_self, true_and]
    refine ⟨rfl, ?_, ?_, hframe.kinds, hframe.onlyRegs⟩
    · split <;> simp_all
    · simp
  · intro s cell rtt hin hpend hh hfree
    have hc := State.cellIn_lt hin
    have hf := cellFold_lt s.zk4 hc
    have hexec : exec (.echoReply cell rtt) s = ((s.wr H.CROOK_FOLD_MAXC (cellFold s.zk4 cell) (max (min 255 (openDiv rtt 4))
        (s.rd H.CROOK_FOLD_MAXC (cellFold s.zk4 cell)))).sendDelay cell (min 255 (openDiv rtt 4))).go := by
      change execEchoReply _ _ _ = _
      rw [execEchoReply, if_pos (by simp [hin, hpend])]
    obtain ⟨hout, hend, hdelayed, hframe⟩ := sendDelay_spec hc (s := s.wr H.CROOK_FOLD_MAXC (cellFold s.zk4 cell)
      (max (min 255 (openDiv rtt 4)) (s.rd H.CROOK_FOLD_MAXC (cellFold s.zk4 cell))))
      ((holder_congr (State.rd_wr_apart _ (by decide) _ _ _)).trans hh)
      (by rwa [State.rd_wr_apart _ (by decide)]) (min 255 (openDiv rtt 4))
    have hall : Frame (.regsMesh [H.CROOK_FOLD_MAXC, H.GL_SPENT, H.CROOK_ECHO_PEND, H.CROOK_DELAYED, R.CROOK_STATUS_SYNCED]) s _ :=
      (Frame.refl s).wr.andThen hframe
    refine .of_go hexec ⟨hout, hend, hdelayed, ?_, hall.kinds, hall.onlyRegsMesh⟩
    have hold : s.rd H.CROOK_FOLD_MAXC (cellFold s.zk4 cell) < 256 := s.rd_lt H.CROOK_FOLD_MAXC _
    rw [hframe.rd (by decide), State.rd_wr_below hf _ _ (by decide) le_rfl, if_pos rfl]
    exact Nat.mod_eq_of_lt (show _ < 256 by omega)
  · intro s cell hin hpend hh hage hfree
    obtain ⟨hout, hend, hdelayed, hframe⟩ := sendDelay_spec (State.cellIn_lt hin) hh hfree
      (s.rd H.CROOK_FOLD_MAXC (cellFold s.zk4 cell))
    refine .of_go ?_ ⟨hout, hend, hdelayed, hframe.kinds, hframe.onlyRegsMesh⟩
    change execEchoTimeout _ _ = _
    rw [execEchoTimeout, if_pos (by simp [hin, hpend, hage])]
  · intro s hrun hh hage
    have hframe : Frame (.regsMesh [H.GL_SPENT, H.CROOK_SYNC_AGE]) s s.sendFrameSync := (Frame.refl s).sendFrameSync
    refine .of_go (t := s.sendFrameSync) (show execFrameSyncPeriod s = _ by rw [execFrameSyncPeriod, if_pos (by simp [hrun, hh, hage])])
      ⟨?_, fun cell hen hc hfree => ?_, hframe.kinds, hframe.onlyRegsMesh⟩
    · rw [State.sendFrameSync, State.rd_wr_zero _ _ (by decide) (by decide), if_pos rfl, Nat.zero_mod]
    · refine mem_out_guard (e := .cell cell) hh (List.mem_map.2 ⟨cell, ?_, rfl⟩) (fun x hx hn => ?_) hfree _
      · simp [State.enabledCells, hc, hen]
      · obtain ⟨c, -, rfl⟩ := List.mem_map.1 hx
        exact congrArg Endpoint.cell (Nat.add_left_cancel hn)
  · intro s cell r hin hstuck hno
    have hc := State.cellIn_lt hin
    have hframe : Frame (.regs [H.CROOK_PTRIPS, H.CROOK_PEDGES, R.CROOK_FOLD_TOTAL_TOTAL, R.CROOK_CELL_TRIPS, R.CROOK_CELL_ORPHAN,
        R.CROOK_CELL_STRETCHING, H.CROOK_REP_STUCK, R.CROOK_LATE_LATE, R.CROOK_TEST_BUSY, H.FLT_PROBE_GOT, H.FLT_RESULT]) s
        ((s.countReport cell r).cellTest cell r) :=
      ((countReport_frame s cell r).mono (by decide)).andThen (cellTest_frame _ cell r)
    have hin' : ((s.countReport cell r).cellTest cell r).cellIn cell = true := by
      rw [State.cellIn, State.zk4, hframe.ident]
      exact hin
    obtain ⟨hset, hraised, hkinds, -⟩ := noteStuck_raised hin' ((hframe.bit (by decide) cell).trans hno)
    refine .of_go ((exec_report hin r).trans (by rw [hstuck])) ⟨hset, ?_, hraised.after hframe.kinds (by decide), ?_⟩
    · rw [hkinds.bit (by decide), (cellTest_frame _ cell r).bit (by decide)]
      simp (disch := decide) only [State.countReport, State.bit_when, State.bit_wr_apart, State.bit_inc_apart,
        State.bit_wrB_below hc, if_true, ite_self]
      exact hstuck
    · rw [hkinds.rd (by decide), (cellTest_frame _ cell r).rd (by decide)]
      simp (disch := decide) only [State.countReport, State.rd_when, State.rd_wr_apart, State.rd_wrB_apart, State.rd_inc_apart,
        State.rd_inc_below hc, if_true, ite_self]
  · intro s cell r hin hrail hmem hshed
    have hr := mem_rails_lt hmem
    have hshed' : (s.wr H.BW_TRIPC r 16).shedding r ≠ [] := by rwa [shedding_tripc]
    refine .of_go (exec_trip hin hrail hmem) ?_
    obtain ⟨hret, hdwell⟩ := dropShed_of_shedding hr hshed'
    rw [shedding_tripc] at hret
    rw [State.stepAndSkip, stepDetected_of_shedding hshed']
    simp (disch := decide) only [State.ph, (endSkip_frame _ r).rd, (endSkip_frame _ r).bit, State.rd_wr_apart, State.bit_wr_apart,
      State.rd_inc_apart, State.bit_inc_apart, State.rd_inc_below hr, if_true]
    refine ⟨?_, fun p hp => ?_, addFallow_dwell hr hdwell, fun p hp _ => ?_⟩
    · rw [(addFallow_frame _ _ _).rd (by decide +kernel), (dropShed_frame _ _).rd (by decide), State.rd_wr_apart _ (by decide)]
    · rw [(addFallow_frame _ _ _).bit (by decide +kernel)]
      exact hret p hp
    · refine addFallow_adds ?_
      rwa [inState_congr (t := (s.wr H.BW_TRIPC r 16).dropShed r) (s := s)
        (fun j => ((dropShed_frame _ _).rd (by decide) j).trans (State.rd_wr_apart _ (by decide) _ _ _))
        (fun j => ((dropShed_frame _ _).rd (by decide) j).trans (State.rd_wr_apart _ (by decide) _ _ _))]
  · intro s cell r hin hrail hmem hshed hpend
    have hr := mem_rails_lt hmem
    have hpend' : 0 < (s.wr H.BW_TRIPC r 16).rd H.PD_SHED_PEND r := by rwa [State.rd_wr_apart _ (by decide)]
    refine .of_go ((exec_trip hin hrail hmem).trans (by
      rw [State.stepAndSkip, stepDetected_of_pending ((shedding_tripc s r 16 r).trans hshed) hpend'])) ⟨?_, ?_, ?_, ?_⟩
    · simp (disch := decide) only [(endSkip_frame _ r).rd, State.rd_wr_apart, State.rd_wr_below hr, if_true, Nat.zero_mod]
    · simp (disch := decide) only [(endSkip_frame _ r).rd, State.rd_wr_below hr, if_true, Nat.zero_mod]
    · unfold State.endSkip State.when
      split <;> simp
    · unfold State.endSkip State.when
      split <;> simp
  · intro s cell r hin hrail hmem hshed hpend hskip
    have hpend' : (s.wr H.BW_TRIPC r 16).rd H.PD_SHED_PEND r = 0 := by rwa [State.rd_wr_apart _ (by decide)]
    have hskip' : (s.wr H.BW_TRIPC r 16).bit R.PD_RAIL_STAT_SKIPPING r = false := by rwa [State.bit_wr_apart _ (by decide)]
    rw [exec_trip hin hrail hmem, State.stepAndSkip, State.stepDetected, shedding_tripc, hshed, hpend', if_neg (by simp),
      if_neg (by simp), State.endSkip, hskip', State.when_false]
    rfl

end Sys2Proof.Machine
end

section
/-! Writes that their owner chapters judge, and who is told of an event. -/

set_option Elab.async false

namespace Sys2Proof.Machine

/-! ## Judged writes -/

section
variable {s : State} {w : WCtx} {f : Fld} {i : Nat}

theorem judgedAt_of_writable (h : Writable s w f i) (same : Bool) (act : State → State) :
    s.judgedAt w (f.word i) f i same true act = (act s).answer .ok := by
  obtain ⟨hg, hi, hr, hp⟩ := h
  simp [State.judgedAt, hg, hr, hp, Nat.not_le.2 hi]

theorem judgedAt_of_forbidden (h : Writable s w f i) (same : Bool) (act : State → State) :
    s.judgedAt w (f.word i) f i same false act = s.refuse w (f.word i) 3 := by
  obtain ⟨hg, hi, hr, hp⟩ := h
  simp [State.judgedAt, hg, hr, hp, Nat.not_le.2 hi]

/-- What the rule of its owner chapter forbids is refused with CAUSE 3. -/
theorem refuses_forbidden (s : State) (w : WCtx) {off : Nat} (h : off < 2 ^ 24) : Refuses w off 3 s (s.refuse w off 3) :=
  s.refuses_refuse w (by decide) h (s.reqCode_lt w.req)

end

/-! ## Who is told -/

theorem hostIrq_bit (s : State) (b : Nat) : (s.hostIrq b).bit (irqFld b) 0 = true := by
  have hset : (s.wr (irqFld b) 0 1).bit (irqFld b) 0 = true := by
    unfold irqFld
    split <;> (rw [State.bit_wr_below Nat.zero_lt_one _ _ (by decide) (by decide) rfl, if_pos rfl]; rfl)
  unfold State.hostIrq
  split
  · exact hset
  · exact hset

theorem hostIrq_frame (s : State) (b : Nat) : Frame (.regsOut [irqFld b]) s (s.hostIrq b) := by
  have hf : (Reach.regsOut [irqFld b]).has (irqFld b) = true := by simp [Reach.has, Reach.samePlace]
  unfold State.hostIrq
  exact Frame.ite ((Frame.refl s).wr hf).send ((Frame.refl s).wr hf)

theorem wakeHart_of_asleep {s : State} {k : Nat} (hk : k < 4) (h : s.rd R.FW_HART_STAT_STATE k = 1) :
    (s.wakeHart k).rd R.FW_HART_STAT_STATE k = 0 := by
  rw [State.wakeHart, if_pos h, State.rd_wr_below hk _ _ (by decide) le_rfl, if_pos rfl, Nat.zero_mod]

/-- A hart that is told has its event, and wakes. -/
theorem tellEndpoint_hart (s : State) {k : Nat} (hk : k < 4) (irq : Nat) :
    .hartEvent k (0x20 + irq) ∈ (s.tellEndpoint k irq).out
      ∧ (s.rd R.FW_HART_STAT_STATE k = 1 → (s.tellEndpoint k irq).rd R.FW_HART_STAT_STATE k = 0) := by
  rw [State.tellEndpoint, if_pos hk]
  exact ⟨List.mem_cons_self, wakeHart_of_asleep hk⟩

theorem tellEndpoint_host (s : State) (irq : Nat) : (s.tellEndpoint 4 irq).bit (irqFld irq) 0 = true := hostIrq_bit s irq

theorem tellEndpoint_psc (s : State) (irq : Nat) : .psc irq ∈ (s.tellEndpoint 5 irq).out := List.mem_cons_self

theorem tellEndpoint_frame (s : State) (code irq : Nat) :
    Frame (.regsOut [R.FW_HART_STAT_STATE, irqFld irq]) s (s.tellEndpoint code irq) := by
  have hirq := (hostIrq_frame s irq).mono (r := .regsOut [R.FW_HART_STAT_STATE, irqFld irq])
    (by simp [Reach.within, Reach.has, Reach.hasPart, Reach.samePlace])
  have hf : (Reach.regsOut [R.FW_HART_STAT_STATE, irqFld irq]).has R.FW_HART_STAT_STATE = true := by
    simp [Reach.has, Reach.samePlace]
  unfold State.tellEndpoint State.wakeHart
  split
  · exact (Frame.ite ((Frame.refl s).wr hf) (.refl s)).send
  · exact Frame.ite hirq (Frame.ite (Frame.refl s).send (.refl s))

end Sys2Proof.Machine
end

section
/-! Mailboxes (R605–R607). -/

set_option Elab.async false

namespace Sys2Proof.Machine

section
variable {s : State} {w : WCtx} {f : Fld} {m : Nat}

theorem mboxWrite_of_allowed (h : Writable s w f m) (same : Bool) (act : State → State) :
    s.mboxWrite w f m same true act = (act s).answer .ok := by
  rw [State.mboxWrite, judgedAt_of_writable h]
  rfl

theorem mboxWrite_of_forbidden (h : Writable s w f m) (hm : m < 16) (same : Bool) (act : State → State) :
    s.mboxWrite w f m same false act = (s.refuse w (f.word m) 3).inc R.MBOX_STAT_REJECTS m 1 := by
  simp only [State.mboxWrite, judgedAt_of_forbidden h, decide_eq_true hm]
  rfl

/-- A write that R607 does not allow is refused, and counted in its mailbox too. -/
theorem mboxRefuses (s : State) (w : WCtx) (hm : m < 16) {off : Nat} (ho : off < 2 ^ 24) :
    ((s.refuse w off 3).inc R.MBOX_STAT_REJECTS m 1).resp = .refused 3
      ∧ ((s.refuse w off 3).inc R.MBOX_STAT_REJECTS m 1).rd R.MBOX_STAT_REJECTS m
        = satAdd R.MBOX_STAT_REJECTS.wid (s.rd R.MBOX_STAT_REJECTS m) 1
      ∧ ((s.refuse w off 3).inc R.MBOX_STAT_REJECTS m 1).rd R.FLT_REJECT_COUNT 0
        = satAdd R.FLT_REJECT_COUNT.wid (s.rd R.FLT_REJECT_COUNT 0) 1
      ∧ ((s.refuse w off 3).inc R.MBOX_STAT_REJECTS m 1).rd R.FLT_REJECT_INFO_CAUSE 0 = 3
      ∧ ((s.refuse w off 3).inc R.MBOX_STAT_REJECTS m 1).rd R.FLT_REJECT_INFO_OFFSET 0 = off
      ∧ OnlyKinds [R.MBOX_STAT_REJECTS, R.FLT_REJECT_COUNT, R.FLT_REJECT_INFO_CAUSE, R.FLT_REJECT_INFO_REQ,
          R.FLT_REJECT_INFO_OFFSET] s ((s.refuse w off 3).inc R.MBOX_STAT_REJECTS m 1)
      ∧ OnlyRegsOut s ((s.refuse w off 3).inc R.MBOX_STAT_REJECTS m 1) := by
  obtain ⟨hresp, hcount, hcause, -, hoff, hkinds, hregs⟩ := refuses_forbidden s w ho
  simp (disch := decide) only [State.rd_inc_apart, State.rd_inc_below hm, if_true]
  refine ⟨hresp, ?_, hcount, hcause, hoff, ?_, by simpa using hregs⟩
  · rw [hkinds.rd (by decide)]
  · exact (OnlyKinds.chain_inc (by simp) s _ _ _).2 (hkinds.mono (by simp))

end

theorem exec_doorbell (s : State) (w : WCtx) (m cmd : Nat) : exec (.doorbell w m cmd) s = (s.ringMbox w m (cmd % 256)).go := rfl

theorem exec_cancelMailbox (s : State) (w : WCtx) (m : Nat) : exec (.cancelMailbox w m) s = (s.cancelMbox w m).go := rfl

theorem exec_mailboxAck (s : State) (w : WCtx) (m code result : Nat) :
    exec (.mailboxAck w m code result) s = (s.ackMbox w m (code % 256) (result % 2 ^ 24)).go := rfl

theorem exec_mailboxTimeout (s : State) (m : Nat) :
    exec (.mailboxTimeout m) s = (if decide (m < 16) && s.bit R.MBOX_STAT_PENDING m && s.bit H.FW_MB_TIMER m then
      ((s.wr R.MBOX_STAT_TIMED_OUT m 1).wr H.FW_MB_TIMER m 0).tellEndpoint (s.rd R.MBOX_CTRL_SENDER m) 3 else s).go := rfl

/-- The offset of a mailbox's register lies in the register space. -/
theorem mbox_word_lt {m : Nat} (hm : m < 16) : R.MBOX_DOORBELL_CMD.word m < 2 ^ 24 ∧ R.MBOX_DOORBELL_CANCEL.word m < 2 ^ 24
    ∧ R.MBOX_ACK_CODE.word m < 2 ^ 24 := by
  simp only [Fld.word, Fld.key, R.MBOX_DOORBELL_CMD, R.MBOX_DOORBELL_CANCEL, R.MBOX_ACK_CODE]
  omega

/-- The mailbox is marked pending with its command, and its timer runs. -/
def State.pend (s : State) (m cmd : Nat) : State :=
  ((s.wr R.MBOX_DOORBELL_CMD m cmd).wr R.MBOX_STAT_PENDING m 1).wr H.FW_MB_TIMER m 1

theorem ringMbox_of_allowed {s : State} {w : WCtx} {m : Nat} (h : Writable s w R.MBOX_DOORBELL_CMD m)
    (hq : s.isSender w.req m = true) (hp : s.bit R.MBOX_STAT_PENDING m = false) (cmd : Nat) :
    s.ringMbox w m cmd = ((s.pend m cmd).tellEndpoint (s.rd R.MBOX_CTRL_RECEIVER m) 2).answer .ok := by
  rw [State.ringMbox, hq, hp, Bool.not_false, Bool.and_self, mboxWrite_of_allowed h]
  rfl

/-- What an acknowledgement leaves in its mailbox. -/
def State.acked (s : State) (m code result : Nat) : State :=
  ((((s.wr R.MBOX_ACK_CODE m code).wr R.MBOX_ACK_RESULT m result).wr R.MBOX_STAT_PENDING m 0).wr R.MBOX_STAT_ACKED m 1).wr
    H.FW_MB_TIMER m 0

theorem ackMbox_of_allowed {s : State} {w : WCtx} {m : Nat} (h : Writable s w R.MBOX_ACK_CODE m)
    (hq : s.isReceiver w.req m = true) (hp : s.bit R.MBOX_STAT_PENDING m = true) (code result : Nat) :
    s.ackMbox w m code result = ((s.acked m code result).tellEndpoint (s.rd R.MBOX_CTRL_SENDER m) 3).answer .ok := by
  rw [State.ackMbox, hq, hp, Bool.and_self, mboxWrite_of_allowed h]
  rfl

/-- Settles O47. -/
theorem mailboxesRingAndAnswer : Obligations.MailboxesRingAndAnswer := by
  unfold Obligations.MailboxesRingAndAnswer
  refine ⟨?_, ?_, ?_, ?_, ?_, ?_, ?_, ?_⟩
  · intro s w m cmd hw hq hp
    have hm : m < 16 := hw.2.1
    have htell := tellEndpoint_frame (s.pend m (cmd % 256)) (s.rd R.MBOX_CTRL_RECEIVER m) 2
    have hpend : Frame (.regsOut [R.MBOX_DOORBELL_CMD, R.MBOX_STAT_PENDING, H.FW_MB_TIMER, R.FW_HART_STAT_STATE, R.HOST_IRQ_MBOX]) s
        (((s.pend m (cmd % 256)).tellEndpoint (s.rd R.MBOX_CTRL_RECEIVER m) 2).answer .ok) :=
      ((Frame.refl s).wr.wr.wr.andThen htell).answer
    refine .of_go ((exec_doorbell s w m cmd).trans (by rw [ringMbox_of_allowed hw hq hp]))
      ⟨?_, ?_, rfl, fun k hk he => ?_, fun he => ?_, fun he => ?_, hpend.kinds, hpend.onlyRegsOut⟩
    · rw [State.rd_answer, htell.rd (by decide), State.pend]
      simp (disch := decide) only [State.rd_wr_apart, State.rd_wr_below hm, if_true]
      exact Nat.mod_mod _ _
    · rw [State.bit_answer, htell.bit (by decide), State.pend]
      simp (disch := decide) only [State.bit_wr_apart, State.bit_wr_below hm, if_true]
      rfl
    · rw [he]
      obtain ⟨hout, hwake⟩ := tellEndpoint_hart (s.pend m (cmd % 256)) hk 2
      refine ⟨hout, fun h => hwake ?_⟩
      simpa (disch := decide) only [State.pend, State.rd_wr_apart] using h
    · rw [he]
      exact tellEndpoint_host _ 2
    · rw [he]
      exact tellEndpoint_psc _ 2
  · intro s w m cmd hw hno
    have hm : m < 16 := hw.2.1
    refine .of_go ((exec_doorbell s w m cmd).trans ?_) (mboxRefuses s w hm (mbox_word_lt hm).1)
    have hrule : (s.isSender w.req m && !s.bit R.MBOX_STAT_PENDING m) = false := by
      rcases hno with h | h <;> simp [h]
    rw [State.ringMbox, hrule, mboxWrite_of_forbidden hw hm]
  · intro s w m hw hq
    have hm : m < 16 := hw.2.1
    refine .of_go (t := ((s.wr R.MBOX_STAT_PENDING m 0).wr H.FW_MB_TIMER m 0).answer .ok)
      ((exec_cancelMailbox s w m).trans (by rw [State.cancelMbox, hq, mboxWrite_of_allowed hw])) ⟨?_, rfl, by simp, by simp⟩
    simp (disch := decide) only [State.bit_answer, State.bit_wr_apart, State.bit_wr_below hm, if_true]
    rfl
  · intro s w m code result hw hq hp
    have hm : m < 16 := hw.2.1
    have htell := tellEndpoint_frame (s.acked m (code % 256) (result % 2 ^ 24)) (s.rd R.MBOX_CTRL_SENDER m) 3
    have hack : Frame (.regsOut [R.MBOX_ACK_CODE, R.MBOX_ACK_RESULT, R.MBOX_STAT_PENDING, R.MBOX_STAT_ACKED, H.FW_MB_TIMER,
        R.FW_HART_STAT_STATE, R.HOST_IRQ_MBOX_ACK]) s
        (((s.acked m (code % 256) (result % 2 ^ 24)).tellEndpoint (s.rd R.MBOX_CTRL_SENDER m) 3).answer .ok) :=
      ((Frame.refl s).wr.wr.wr.wr.wr.andThen htell).answer
    refine .of_go ((exec_mailboxAck s w m code result).trans (by rw [ackMbox_of_allowed hw hq hp]))
      ⟨?_, ?_, ?_, ?_, rfl, fun k hk he => ?_, fun he => ?_, fun he => ?_, hack.kinds, hack.onlyRegsOut⟩
    · rw [State.rd_answer, htell.rd (by decide), State.acked]
      simp (disch := decide) only [State.rd_wr_apart, State.rd_wr_below hm, if_true]
      exact Nat.mod_mod _ _
    · rw [State.rd_answer, htell.rd (by decide), State.acked]
      simp (disch := decide) only [State.rd_wr_apart, State.rd_wr_below hm, if_true]
      exact Nat.mod_mod _ _
    · rw [State.bit_answer, htell.bit (by decide), State.acked]
      simp (disch := decide) only [State.bit_wr_apart, State.bit_wr_below hm, if_true]
      rfl
    · rw [State.bit_answer, htell.bit (by decide), State.acked]
      simp (disch := decide) only [State.bit_wr_apart, State.bit_wr_below hm, if_true]
      rfl
    · rw [he]
      exact (tellEndpoint_hart _ hk 3).1
    · rw [he]
      exact tellEndpoint_psc _ 3
    · rw [he]
      exact tellEndpoint_host _ 3
  · intro s m hm hp ht
    have htell := tellEndpoint_frame ((s.wr R.MBOX_STAT_TIMED_OUT m 1).wr H.FW_MB_TIMER m 0) (s.rd R.MBOX_CTRL_SENDER m) 3
    have hall : Frame (.regsOut [R.MBOX_STAT_TIMED_OUT, H.FW_MB_TIMER, R.FW_HART_STAT_STATE, R.HOST_IRQ_MBOX_ACK]) s _ :=
      (Frame.refl s).wr.wr.andThen htell
    refine .of_go ((exec_mailboxTimeout s m).trans (by rw [if_pos (by simp [hm, hp, ht])]))
      ⟨?_, ?_, ?_, fun k hk he => ?_, fun he => ?_, fun he => ?_, hall.kinds, hall.onlyRegsOut⟩
    · rw [htell.bit (by decide), State.bit_wr_apart _ (by decide), State.bit_wr_below hm _ _ (by decide) le_rfl rfl, if_pos rfl]
      rfl
    · rw [htell.bit (by decide), State.bit_wr_below hm _ _ (by decide) le_rfl rfl, if_pos rfl]
      rfl
    · rw [hall.bit (by decide), hp]
    · rw [he]
      obtain ⟨hout, hwake⟩ := tellEndpoint_hart ((s.wr R.MBOX_STAT_TIMED_OUT m 1).wr H.FW_MB_TIMER m 0) hk 3
      refine ⟨hout, fun h => hwake ?_⟩
      simpa (disch := decide) only [State.rd_wr_apart] using h
    · rw [he]
      exact tellEndpoint_host _ 3
    · rw [he]
      exact tellEndpoint_psc _ 3
  · intro s w m hw hq
    have hm : m < 16 := hw.2.1
    refine .of_go ((exec_cancelMailbox s w m).trans ?_) (mboxRefuses s w hm (mbox_word_lt hm).2.1)
    rw [State.cancelMbox, hq, mboxWrite_of_forbidden hw hm]
  · intro s w m code result hw hno
    have hm : m < 16 := hw.2.1
    refine .of_go ((exec_mailboxAck s w m code result).trans ?_) (mboxRefuses s w hm (mbox_word_lt hm).2.2)
    have hrule : (s.isReceiver w.req m && s.bit R.MBOX_STAT_PENDING m) = false := by
      rcases hno with h | h <;> simp [h]
    rw [State.ackMbox, hrule, mboxWrite_of_forbidden hw hm]
  · intro s m hno
    rw [exec_mailboxTimeout, if_neg ?_, State.go]
    rcases hno with h | h | h <;> simp [h]

end Sys2Proof.Machine
end

section
/-! Staged changes, and writes that the requester's rights do not cover. -/

set_option Elab.async false

namespace Sys2Proof.Machine

section
variable {s : State} {w : WCtx} {f : Fld} {i : Nat}

/-- A change stored in registers of its own and then staged. -/
theorem stage_after {l : List Fld} {u : State} (hu : Frame (.regs l) s u) (w : WCtx) (a : StagedAct) :
    ((u.stage w a).answer .ok).staged = s.staged ++ [(⟨if 192 ≤ w.cyc then 1 else 0, a⟩ : Staged)]
      ∧ OnlyKinds (l ++ [R.FRAME_STAT_DEFER_CNT]) s ((u.stage w a).answer .ok) ∧ OnlyStaged s ((u.stage w a).answer .ok) := by
  obtain ⟨hstaged, -, -, hkinds, hregs⟩ := u.stages_stage w a
  refine ⟨hstaged.trans (by rw [hu.staged]), ?_, ?_⟩
  · exact (hu.kinds.mono fun f hf => List.mem_append_left _ hf).trans (hkinds.mono (by simp))
  · have hsame := OnlyRegs.iff.1 hu.onlyRegs
    obtain ⟨h1, h2, h3, h4, h5, h6, h7, h8, h9, h10, h11, h12, h13, h14, h15, h16, h17, h18⟩ := hsame
    have hregs' : (u.stage w a).answer .ok = { u with
      regs := ((u.stage w a).answer .ok).regs, staged := ((u.stage w a).answer .ok).staged,
      resp := ((u.stage w a).answer .ok).resp } := hregs
    rw [OnlyStaged, hregs', h1, h2, h3, h5, h6, h7, h8, h9, h10, h11, h12, h13, h14, h15, h17, h18]

/-- A command bit that is accepted reads 1, and its change is staged. -/
theorem stagesCmd_stageCmd (s : State) (w : WCtx) (hi : i < f.cnt) (hw : f.wid = 1)
    (hf : R.FRAME_STAT_DEFER_CNT.apart f = true) (a : StagedAct) :
    StagesCmd w f i a s ((s.stageCmd w f i a).answer .ok) := by
  obtain ⟨hstaged, hkinds, hregs⟩ := stage_after (l := [f]) (u := s.wr f i 1)
    ((Frame.refl s).wr (by simp [Reach.has, Reach.samePlace])) w a
  have hset : (s.wr f i 1).rd f i = 1 := by
    rw [State.rd_wr_self _ _ hi, hw]
    rfl
  refine ⟨hstaged, rfl, ?_, ?_, hregs⟩
  · obtain ⟨-, -, -, hk, -⟩ := (s.wr f i 1).stages_stage w a
    exact (hk.rd (by simp [hf]) i).trans hset
  · have hwr : OnlyFields [(f, i), (R.FRAME_STAT_DEFER_CNT, 0)] s (s.wr f i 1) :=
      (OnlyFields.chain_wr (by simp) s s 1).2 (.refl _ _)
    refine hwr.trans ?_
    unfold State.stageCmd State.stage
    split
    · rw [OnlyFields.chain_answer]
      exact (OnlyFields.chain_inc (f := R.FRAME_STAT_DEFER_CNT) (i := 0) (by simp) _ _ _).2 (OnlyFields.of_regs _ rfl)
    · exact OnlyFields.of_regs _ rfl

/-- A write of a Warden's field by another requester that would change it is refused with CAUSE 0. -/
theorem judged_of_notWarden (hq : s.warden w.req = false) (hf : f.acc = .rww) {off : Nat} (ho : f.word i = off)
    (hg : s.gated off = false) (hi : i < f.cnt) (hr : s.reservedWord off = false) {v : Nat} (hv : v ≠ s.rd f i) (rule : Bool)
    (act : State → State) : s.judged w f i v rule act = s.refuse w off 0 := by
  subst ho
  have hp : s.protected? w.req f i = some 0 := by simp [State.protected?, hf, hq]
  simp [State.judged, State.judgedAt, hg, hr, hp, Nat.not_le.2 hi, wouldBe, State.readBack, hf, hv]

theorem refuses_protected (s : State) (w : WCtx) {off c : Nat} (h : off < 2 ^ 24) (hc : c < 8) :
    Refuses w off c s (s.refuse w off c) :=
  s.refuses_refuse w hc h (s.reqCode_lt w.req)

end

end Sys2Proof.Machine
end

section
/-! A Warden's commands are staged for the boundary, or refused (R263, R428, R465). -/

set_option Elab.async false

namespace Sys2Proof.Machine

section
variable (s : State) (w : WCtx)

theorem exec_restart (r : Nat) : exec (.restart w r) s = (s.judged w R.PD_RAIL_CMD_RESTART r 1 (s.mayRestart r)
    fun t => t.stageCmd w R.PD_RAIL_CMD_RESTART r (.restart r)).go := rfl

theorem exec_clearSafe (r : Nat) : exec (.clearSafe w r) s = (s.judged w R.PD_RAIL_CMD_CLEAR_SAFE r 1 true
    fun t => t.stageCmd w R.PD_RAIL_CMD_CLEAR_SAFE r (.clearSafe r)).go := rfl

theorem exec_phaseFenceWrite (p : Nat) (on : Bool) : exec (.phaseFenceWrite w p on) s
    = (s.judged w R.PD_PH_CTRL_FENCE p (b2n on) (!(on && s.ph p == 7)) fun t => t.stage w (.phaseFence p on)).go := rfl

theorem exec_crookTestWrite (c : Nat) : exec (.crookTestWrite w c) s
    = (s.judged w R.CROOK_TEST_CELL 0 c true fun t => t.stage w (.crookTest (c % 1024))).go := rfl

theorem exec_tileFenceWrite (k : Nat) (on : Bool) : exec (.tileFenceWrite w k on) s
    = (s.judged w R.TH_FENCE_REQ k (b2n on) true fun t => t.stage w (.tileFence k on)).go := rfl

theorem exec_swap : exec (.swap w) s
    = (s.judged w R.TWIN_CMD_SWAP 0 1 s.peerStandby fun t => t.stageCmd w R.TWIN_CMD_SWAP 0 .swap).go := rfl

theorem exec_twinAttach : exec (.twinAttach w) s
    = (s.judged w R.TWIN_CMD_ATTACH 0 1 (s.role == 0) fun t => t.stageCmd w R.TWIN_CMD_ATTACH 0 .attach).go := rfl

theorem exec_twinDetach : exec (.twinDetach w) s
    = (s.judged w R.TWIN_CMD_DETACH 0 1 s.mayDetach fun t => t.stageCmd w R.TWIN_CMD_DETACH 0 .detach).go := rfl

theorem exec_clearSource (n : Nat) : exec (.clearSource w n) s = (s.judgedAt w (R.FLT_CMD_ACTION.word 0) R.FLT_CMD_ACTION 0
    (s.rd R.FLT_CMD_ACTION 0 == 1 && s.rd R.FLT_CMD_SOURCE 0 == n) (s.mayCommand n)
    fun t => (t.putCommand 1 n).stage w (.clearSource n)).go := rfl

theorem exec_runSourceTest (n : Nat) : exec (.runSourceTest w n) s = (s.judgedAt w (R.FLT_CMD_ACTION.word 0) R.FLT_CMD_ACTION 0
    (s.rd R.FLT_CMD_ACTION 0 == 2 && s.rd R.FLT_CMD_SOURCE 0 == n) (s.mayCommand n)
    fun t => (t.putCommand 2 n).stage w (.runTest n)).go := rfl

end

/-- The commands' words lie in the register space; a rail's two command bits share one. -/
theorem command_words {r p k : Nat} (hr : r < 14 := by decide) (hp : p < 128 := by decide) (hk : k < 768 := by decide) :
    R.PD_RAIL_CMD_RESTART.word r < 2 ^ 24 ∧ R.PD_RAIL_CMD_CLEAR_SAFE.word r = R.PD_RAIL_CMD_RESTART.word r
      ∧ R.PD_PH_CTRL_FENCE.word p < 2 ^ 24 ∧ R.TH_FENCE_REQ.word k < 2 ^ 24 := by
  simp only [Fld.word, Fld.key, R.PD_RAIL_CMD_RESTART, R.PD_RAIL_CMD_CLEAR_SAFE, R.PD_PH_CTRL_FENCE, R.TH_FENCE_REQ]
  omega

theorem reservedWord_twinCmd (s : State) : s.reservedWord 0x1C0004 = false := by
  unfold State.reservedWord
  cases s.zk4 <;> rfl

theorem reservedWord_crookTest (s : State) : s.reservedWord 0x15000C = false := by
  unfold State.reservedWord
  cases s.zk4 <;> rfl

/-- A command for a source is stored and staged (R465). -/
theorem putCommand_staged (s : State) (w : WCtx) {n action : Nat} (hn : n < 4096) (ha : action < 4) (a : StagedAct) :
    (((s.putCommand action n).stage w a).answer .ok).rd R.FLT_CMD_ACTION 0 = action
      ∧ (((s.putCommand action n).stage w a).answer .ok).rd R.FLT_CMD_SOURCE 0 = n
      ∧ (((s.putCommand action n).stage w a).answer .ok).resp = .ok
      ∧ (((s.putCommand action n).stage w a).answer .ok).staged = s.staged ++ [(⟨if 192 ≤ w.cyc then 1 else 0, a⟩ : Staged)]
      ∧ OnlyKinds [R.FLT_CMD_ACTION, R.FLT_CMD_SOURCE, R.FRAME_STAT_DEFER_CNT] s (((s.putCommand action n).stage w a).answer .ok)
      ∧ OnlyStaged s (((s.putCommand action n).stage w a).answer .ok) := by
  obtain ⟨-, -, -, hkinds, -⟩ := (s.putCommand action n).stages_stage w a
  obtain ⟨hstaged, hall, hregs⟩ := stage_after (l := [R.FLT_CMD_ACTION, R.FLT_CMD_SOURCE]) (u := s.putCommand action n)
    (Frame.refl s).wr.wr w a
  refine ⟨?_, ?_, rfl, hstaged, hall, hregs⟩
  · rw [hkinds.rd (by decide), State.putCommand, State.rd_wr_apart _ (by decide), State.rd_wr_zero _ _ (by decide) (by decide), if_pos rfl]
    exact Nat.mod_eq_of_lt ha
  · rw [hkinds.rd (by decide), State.putCommand, State.rd_wr_zero _ _ (by decide) (by decide), if_pos rfl]
    exact Nat.mod_eq_of_lt hn

theorem b2n_ne_of_bit {s : State} {f : Fld} {i : Nat} {b : Bool} (h : s.bit f i = !b) : b2n b ≠ s.rd f i := by
  intro hb
  rw [State.bit, ← hb] at h
  cases b <;> cases h

/-- Settles O58. -/
theorem wardenCommandsAreStaged : Obligations.WardenCommandsAreStaged := by
  unfold Obligations.WardenCommandsAreStaged
  refine ⟨?_, ?_, ?_, ?_, ?_, ?_, ?_, ?_, ?_, ?_, ?_, ?_, ?_, ?_, ?_, ?_, ?_, ?_, ?_, ?_, ?_⟩
  · intro s w r hw hmay
    refine .of_go ((exec_restart s w r).trans (by rw [hmay, State.judged_of_writable hw])) ?_
    exact stagesCmd_stageCmd s w hw.2.1 rfl (by decide) _
  · intro s w r hw hmay
    refine .of_go ((exec_restart s w r).trans (by rw [hmay, State.judged_of_forbidden hw])) ?_
    exact refuses_forbidden s w (command_words (r := r) (p := 0) (k := 0) hw.2.1).1
  · intro s w r hw
    refine .of_go ((exec_clearSafe s w r).trans (by rw [State.judged_of_writable hw])) ?_
    exact stagesCmd_stageCmd s w hw.2.1 rfl (by decide) _
  · intro s w p on hw hon
    have hrule : (!(on && s.ph p == 7)) = true := by rcases hon with h | h <;> simp [h]
    exact .of_go ((exec_phaseFenceWrite s w p on).trans (by rw [hrule, State.judged_of_writable hw])) (s.stages_stage w _)
  · intro s w p hw hp
    have hrule : (!(true && s.ph p == 7)) = false := by simp [hp]
    refine .of_go ((exec_phaseFenceWrite s w p true).trans (by rw [hrule, State.judged_of_forbidden hw])) ?_
    exact refuses_forbidden s w (command_words (r := 0) (k := 0) (hp := hw.2.1)).2.2.1
  · intro s w c hw hc
    refine .of_go ((exec_crookTestWrite s w c).trans (by rw [State.judged_of_writable hw])) ?_
    rw [Nat.mod_eq_of_lt hc]
    exact s.stages_stage w _
  · intro s w k on hw
    exact .of_go ((exec_tileFenceWrite s w k on).trans (by rw [State.judged_of_writable hw])) (s.stages_stage w _)
  · intro s w hw hpeer
    refine .of_go ((exec_swap s w).trans (by rw [hpeer, State.judged_of_writable hw])) ?_
    exact stagesCmd_stageCmd s w hw.2.1 rfl (by decide) _
  · intro s w hw hpeer
    exact .of_go ((exec_swap s w).trans (by rw [hpeer, State.judged_of_forbidden hw]; rfl)) (refuses_forbidden s w (by decide))
  · intro s w hw hrole
    refine .of_go ((exec_twinAttach s w).trans (by rw [beq_iff_eq.2 hrole, State.judged_of_writable hw])) ?_
    exact stagesCmd_stageCmd s w hw.2.1 rfl (by decide) _
  · intro s w hw hrole
    exact .of_go ((exec_twinAttach s w).trans (by rw [beq_false_of_ne hrole, State.judged_of_forbidden hw]; rfl))
      (refuses_forbidden s w (by decide))
  · intro s w hw hmay
    have hrule : s.mayDetach = true := by rcases hmay with h | h | h | h <;> simp [State.mayDetach, h]
    refine .of_go ((exec_twinDetach s w).trans (by rw [hrule, State.judged_of_writable hw])) ?_
    exact stagesCmd_stageCmd s w hw.2.1 rfl (by decide) _
  · intro s w hw hrole hpeer
    have hrule : s.mayDetach = false := by rcases hrole with h | h <;> simp [State.mayDetach, h, hpeer]
    exact .of_go ((exec_twinDetach s w).trans (by rw [hrule, State.judged_of_forbidden hw]; rfl)) (refuses_forbidden s w (by decide))
  · intro s w n hw hsrc hst
    obtain ⟨x, y, hk⟩ := State.srcKind_of_present hsrc
    have hrule : s.mayCommand n = true := by simp [State.mayCommand, hsrc, hst]
    exact .of_go ((exec_clearSource s w n).trans (by rw [hrule, judgedAt_of_writable hw]))
      (putCommand_staged s w (State.srcKind_lt hk) (by decide) _)
  · intro s w n hw hsrc hst
    obtain ⟨x, y, hk⟩ := State.srcKind_of_present hsrc
    have hrule : s.mayCommand n = true := by simp [State.mayCommand, hsrc, hst]
    exact .of_go ((exec_runSourceTest s w n).trans (by rw [hrule, judgedAt_of_writable hw]))
      (putCommand_staged s w (State.srcKind_lt hk) (by decide) _)
  · intro s w n hw hno
    have hrule : s.mayCommand n = false := by rcases hno with h | h <;> simp [State.mayCommand, h]
    exact ⟨.of_go ((exec_clearSource s w n).trans (by rw [hrule, judgedAt_of_forbidden hw]; rfl)) (refuses_forbidden s w (by decide)),
      .of_go ((exec_runSourceTest s w n).trans (by rw [hrule, judgedAt_of_forbidden hw]; rfl)) (refuses_forbidden s w (by decide))⟩
  · intro s w hq hg hswap hattach hdetach
    have hr := reservedWord_twinCmd s
    refine ⟨?_, ?_, ?_⟩
    · exact .of_go ((exec_swap s w).trans (by
        rw [judged_of_notWarden (f := R.TWIN_CMD_SWAP) (i := 0) (off := 0x1C0004) hq rfl rfl hg (by decide) hr (by rw [hswap]; decide)])) (refuses_protected s w (by decide) (by decide))
    · exact .of_go ((exec_twinAttach s w).trans (by
        rw [judged_of_notWarden (f := R.TWIN_CMD_ATTACH) (i := 0) (off := 0x1C0004) hq rfl rfl hg (by decide) hr (by rw [hattach]; decide)])) (refuses_protected s w (by decide) (by decide))
    · exact .of_go ((exec_twinDetach s w).trans (by
        rw [judged_of_notWarden (f := R.TWIN_CMD_DETACH) (i := 0) (off := 0x1C0004) hq rfl rfl hg (by decide) hr (by rw [hdetach]; decide)])) (refuses_protected s w (by decide) (by decide))
  · intro s w r hq hg hi hr hrestart hsafe
    obtain ⟨hword, hsame, -, -⟩ := command_words (r := r) (p := 0) (k := 0) hi
    refine ⟨?_, ?_⟩
    · exact .of_go ((exec_restart s w r).trans (by rw [judged_of_notWarden hq rfl rfl hg hi hr (by rw [hrestart]; decide)]))
        (refuses_protected s w hword (by decide))
    · refine .of_go ((exec_clearSafe s w r).trans (by
        rw [judged_of_notWarden hq rfl hsame hg hi hr (by rw [hsafe]; decide)])) ?_
      exact refuses_protected s w hword (by decide)
  · intro s w p on hq hg hi hr hbit
    refine .of_go ((exec_phaseFenceWrite s w p on).trans (by rw [judged_of_notWarden hq rfl rfl hg hi hr (b2n_ne_of_bit hbit)]))
      (refuses_protected s w (command_words (r := 0) (k := 0) (hp := hi)).2.2.1 (by decide))
  · intro s w k on hq hg hi hr hbit
    refine .of_go ((exec_tileFenceWrite s w k on).trans (by rw [judged_of_notWarden hq rfl rfl hg hi hr (b2n_ne_of_bit hbit)]))
      (refuses_protected s w (command_words (r := 0) (p := 0) (hk := hi)).2.2.2 (by decide))
  · intro s w c hq hg hc hne
    exact .of_go ((exec_crookTestWrite s w c).trans (by
      rw [judged_of_notWarden (f := R.CROOK_TEST_CELL) (i := 0) (off := 0x15000C) hq rfl rfl hg (by decide) (reservedWord_crookTest s) hne.symm])) (refuses_protected s w (by decide) (by decide))

end Sys2Proof.Machine
end

section
/-! Held writes of the Loop Engine (R192–R195, R205). -/

set_option Elab.async false

namespace Sys2Proof.Machine

/-- The map runs, slot 0 is CLOSED, and an earlier held write of 5 to its SLEW waits for the boundary. -/
def State.slewWaits : State :=
  { ((State.reset.wr R.CLK_EN_EN 0 0x7FF).wr R.RUN_EN 0 1).wr R.LE_SLOT_MODE_MODE 0 1 with
    staged := [⟨0, .held 0x114024 5 0xFFFFFFFF⟩] }

/-- A write of the value that waits changes nothing of what a read returns, so it is accepted. -/
theorem exec_heldWrite_slewWaits : exec (.heldWrite ⟨.psc, 0⟩ 0x114024 5) State.slewWaits = .next (State.slewWaits.answer .ok) := by
  rfl

/-- Refutes O59: a slot that is not OPEN accepts a held write that carries the value which waits for the boundary already (R666). -/
theorem not_loopWritesAreStagedAndMirrored : ¬ Obligations.LoopWritesAreStagedAndMirrored := by
  unfold Obligations.LoopWritesAreStagedAndMirrored
  rintro ⟨-, -, -, hrefused, -, -⟩
  obtain ⟨t, ht, hresp, -⟩ := hrefused State.slewWaits ⟨.psc, 0⟩ 0 5 (by decide) (by decide) (by decide) (by decide) (by decide)
    (by decide) (by decide)
  obtain rfl : State.slewWaits.answer .ok = t := by simpa [exec_heldWrite_slewWaits] using ht
  cases hresp

end Sys2Proof.Machine
end

section
/-! Profile requests, the Warden's window and the BMC's cap (R427, R538, R539, R542, R545, R650). -/

set_option Elab.async false

namespace Sys2Proof.Machine

section
variable (s : State) (w : WCtx)

theorem exec_profileReq (p : Nat) : exec (.profileReq w p) s = (s.writeProfile w (p % 8)).go := rfl

theorem exec_profilePrepDone (frames : Nat) : exec (.profilePrepDone frames) s
    = (if s.running && s.rd H.TOP_PREP_ST 0 == 1 && decide (frames ≤ 1024) then
        ((s.wr R.PROFILE_PREP_FRAMES 0 frames).wr H.TOP_PREP_ST 0 2).when (s.holder && s.peerCompares) fun t =>
          t.sendMirror (.profileAt (s.frame + 1))
      else s).go := rfl

theorem exec_wardenWindowOpen (ok : Bool) (frames : Nat) : exec (.wardenWindowOpen ok frames) s
    = (if ok && s.hartUp 0 then (s.wr R.WARDEN_OPEN 0 1).wr R.WARDEN_REMAIN 0 frames else s).go := rfl

theorem exec_wardenWindowExpiry : exec .wardenWindowExpiry s
    = (if s.bit R.WARDEN_OPEN 0 && s.rd R.WARDEN_REMAIN 0 == 0 then s.closeWindow else s).go := rfl

theorem exec_capBmcWrite (v : Nat) : exec (.capBmcWrite w v) s = (s.judged w R.CAP_BMC_CAP 0 (v % 2 ^ 24) true
    fun t => (t.stage w (.capBmc (v % 2 ^ 24) false)).mirrorOut w (.write 0x100034 (v % 2 ^ 24))).go := rfl

end

theorem peerCompares_congr {s t : State} (h : t.rd R.TWIN_STATUS_PEER_ROLE 0 = s.rd R.TWIN_STATUS_PEER_ROLE 0)
    (h' : t.rd R.TWIN_STATUS_ROLE 0 = s.rd R.TWIN_STATUS_ROLE 0) : t.peerCompares = s.peerCompares := by
  simp only [State.peerCompares, State.holder, State.role, h, h']
  rfl

theorem frame_congr {s t : State} (h : t.rd R.FRAME_COUNT 0 = s.rd R.FRAME_COUNT 0) : t.frame = s.frame := h

/-- A write that goes to a peer that compares, with the frame it is meant for (R205, R427). -/
theorem mem_out_mirrorOut {s : State} (h : s.peerCompares = true) (w : WCtx) (op : MirrorOp) :
    .mirror ⟨true, s.frame + (if 192 ≤ w.cyc then 2 else 1), op⟩ ∈ (s.mirrorOut w op).out := by
  rw [State.mirrorOut, if_pos h]
  exact List.mem_cons_self

theorem mirrorOut_frame (s : State) (w : WCtx) (op : MirrorOp) : Frame ⟨[.out], []⟩ s (s.mirrorOut w op) :=
  (Frame.refl s).mirrorOut

/-- An accepted request is stored and acted on. -/
theorem writeProfile_of_accepted {s : State} {w : WCtx} {p : Nat} (hw : Writable s w R.PROFILE_REQ 0) (hr : s.running = true)
    (hb : s.badProfile p = false) :
    s.writeProfile w p = ((s.requestProfile p).mirrorOut w (.profile p)).answer .ok := by
  rw [State.writeProfile, hr, hb, Bool.not_false, Bool.and_self, State.judged_of_writable hw]
  rfl

theorem writeProfile_of_notRunning {s : State} {w : WCtx} {p : Nat} (hw : Writable s w R.PROFILE_REQ 0) (hr : s.running = false) :
    s.writeProfile w p = s.refuse w (R.PROFILE_REQ.word 0) 3 := by
  rw [State.writeProfile, State.badProfile, hr, Bool.false_and, State.judged_of_forbidden hw]
  rfl

theorem writeProfile_of_bad {s : State} {w : WCtx} {p : Nat} (hw : Writable s w R.PROFILE_REQ 0) (hb : s.badProfile p = true) :
    s.writeProfile w p = (s.refuse w (R.PROFILE_REQ.word 0) 3).wr R.PROFILE_REQ_ERR 0 1 := by
  rw [State.writeProfile, hb, Bool.not_true, Bool.and_false, State.judged_of_forbidden hw]
  rfl

theorem startPrep_frame (s : State) : Frame (.regs [R.PROFILE_PENDING, H.TOP_PREP_ST, H.TOP_PROF_AT]) s s.startPrep :=
  (Frame.refl s).startPrep

/-- H0 is the Warden while its window is open. -/
theorem warden_hart (s : State) : s.warden (.hart 0) = s.bit R.WARDEN_OPEN 0 := rfl

/-- Settles O49. -/
theorem profilesWindowAndCap : Obligations.ProfilesWindowAndCap := by
  unfold Obligations.ProfilesWindowAndCap
  refine ⟨?_, ?_, ?_, ?_, ?_, ?_, ?_, ?_, ?_, ?_, ?_, ?_, ?_⟩
  · intro s w p hw hr hb hlive hp
    have hreq : s.requestProfile (p % 8) = (s.wr R.PROFILE_REQ 0 (p % 8)).startPrep := by
      rw [State.requestProfile, if_neg (by simp [hlive]), if_neg fun h => hp h.1]
    have hall : Frame (.regsOut [R.PROFILE_REQ, R.PROFILE_PENDING, H.TOP_PREP_ST, H.TOP_PROF_AT]) s
        ((((s.wr R.PROFILE_REQ 0 (p % 8)).startPrep).mirrorOut w (.profile (p % 8))).answer .ok) :=
      (Frame.refl s).wr.startPrep.mirrorOut.answer
    have hprep := startPrep_frame (s.wr R.PROFILE_REQ 0 (p % 8))
    refine .of_go ((exec_profileReq s w p).trans (by rw [writeProfile_of_accepted hw hr hb, hreq]))
      ⟨?_, ?_, ?_, rfl, fun hpeer => ?_, hall.kinds, hall.onlyRegsOut⟩
    · rw [State.rd_answer, (mirrorOut_frame _ _ _).rd rfl, hprep.rd (by decide), State.rd_wr_zero _ _ (by decide) le_rfl, if_pos rfl]
      exact Nat.mod_mod _ _
    · rw [State.bit_answer, (mirrorOut_frame _ _ _).bit rfl, State.startPrep]
      simp (disch := decide) only [State.bit_wr_apart, State.bit_wr_below Nat.zero_lt_one, if_true]
      rfl
    · rw [State.rd_answer, (mirrorOut_frame _ _ _).rd rfl, State.startPrep]
      simp (disch := decide) only [State.rd_wr_apart, State.rd_wr_zero, if_true]
      rfl
    · have hregs : Frame (.regs [R.PROFILE_REQ, R.PROFILE_PENDING, H.TOP_PREP_ST, H.TOP_PROF_AT]) s
          (s.wr R.PROFILE_REQ 0 (p % 8)).startPrep := (Frame.refl s).wr.startPrep
      have hmem := mem_out_mirrorOut ((peerCompares_congr (hregs.rd (by decide) 0) (hregs.rd (by decide) 0)).trans hpeer) w
        (.profile (p % 8))
      rwa [frame_congr (hregs.rd (by decide) 0)] at hmem
  · intro s w p hw hb
    obtain ⟨hresp, hcount, -, -, -, hkinds, hregs⟩ := refuses_forbidden s w (off := R.PROFILE_REQ.word 0) (by decide)
    refine .of_go (t := (s.refuse w (R.PROFILE_REQ.word 0) 3).wr R.PROFILE_REQ_ERR 0 1)
      ((exec_profileReq s w p).trans (by rw [writeProfile_of_bad hw hb])) ⟨hresp, ?_, ?_, ?_, by simpa using hregs⟩
    · rw [State.bit_wr_below Nat.zero_lt_one _ _ (by decide) le_rfl rfl, if_pos rfl]
      rfl
    · rw [State.rd_wr_apart _ (by decide), hcount]
    · exact (OnlyKinds.chain_wr (by simp) s _ _ _).2 (hkinds.mono (by simp))
  · intro s frames hr hprep hmax
    have hall : Frame (.regsOut [R.PROFILE_PREP_FRAMES, H.TOP_PREP_ST]) s
        (((s.wr R.PROFILE_PREP_FRAMES 0 frames).wr H.TOP_PREP_ST 0 2).when (s.holder && s.peerCompares) fun t =>
          t.sendMirror (.profileAt (s.frame + 1))) := (Frame.refl s).wr.wr.when fun _ hu => hu.sendMirror
    refine .of_go ((exec_profilePrepDone s frames).trans (by rw [if_pos (by simp [hr, hprep, hmax])]))
      ⟨?_, ?_, fun hh hpeer => ?_, hall.kinds, hall.onlyRegsOut, ?_⟩
    · simp (disch := decide) only [State.rd_when, State.sendMirror, State.rd_send, State.rd_wr_apart, State.rd_wr_zero, if_true, ite_self]
      exact Nat.mod_eq_of_lt (show frames < 2048 by omega)
    · simp (disch := decide) only [State.rd_when, State.sendMirror, State.rd_send, State.rd_wr_zero, if_true, ite_self]
      rfl
    · rw [hh, hpeer, Bool.and_self, State.when_true, State.sendMirror,
        frame_congr (t := (s.wr R.PROFILE_PREP_FRAMES 0 frames).wr H.TOP_PREP_ST 0 2) (s := s)
          (by simp (disch := decide) only [State.rd_wr_apart])]
      exact List.mem_cons_self
    · unfold State.when State.sendMirror
      split <;> rfl
  · intro s frames hup
    have hopen : ((s.wr R.WARDEN_OPEN 0 1).wr R.WARDEN_REMAIN 0 frames).bit R.WARDEN_OPEN 0 = true := by
      simp (disch := decide) only [State.bit_wr_apart, State.bit_wr_below Nat.zero_lt_one, if_true]
      rfl
    refine .of_go ((exec_wardenWindowOpen s true frames).trans (by rw [hup]; rfl)) ⟨hopen, ?_, ?_, by simp, by simp⟩
    · rw [State.rd_wr_zero _ _ (by decide) le_rfl, if_pos rfl]
      rfl
    · rw [warden_hart, hopen]
  · intro s ok frames hno
    rw [exec_wardenWindowOpen, if_neg (by rcases hno with h | h <;> simp [h]), State.go]
  · intro s hopen hleft
    have hclosed : s.closeWindow.bit R.WARDEN_OPEN 0 = false := by
      simp (disch := decide) only [State.closeWindow, State.clearElems, List.foldl_cons, List.foldl_nil, State.bit_wr_apart,
        State.bit_wr_below Nat.zero_lt_one, if_true]
      rfl
    have hall : Frame (.regs [R.WARDEN_OPEN, R.WARDEN_REMAIN]) s s.closeWindow := (Frame.refl s).closeWindow
    refine .of_go ((exec_wardenWindowExpiry s).trans (by rw [if_pos (by simp [hopen, hleft])]))
      ⟨hclosed, ?_, hall.kinds, hall.onlyRegs⟩
    rw [warden_hart, hclosed]
  · intro s w v hw
    have hmirror (u : State) := mirrorOut_frame u w (.write 0x100034 (v % 2 ^ 24))
    obtain ⟨hstaged, -, -, hkinds, hregs⟩ := s.stages_stage w (.capBmc (v % 2 ^ 24) false)
    have hall : Frame ⟨[.staged, .out, .resp], [R.FRAME_STAT_DEFER_CNT]⟩ s
        (((s.stage w (.capBmc (v % 2 ^ 24) false)).mirrorOut w (.write 0x100034 (v % 2 ^ 24))).answer .ok) :=
      (Frame.refl s).stage.mirrorOut.answer
    refine .of_go ((exec_capBmcWrite s w v).trans (by rw [State.judged_of_writable hw])) ⟨?_, rfl, fun hpeer => ?_, hall.kinds, ?_⟩
    · exact ((hmirror _).staged).trans hstaged
    · have hst : Frame ⟨[.staged], [R.FRAME_STAT_DEFER_CNT]⟩ s (s.stage w (.capBmc (v % 2 ^ 24) false)) := (Frame.refl s).stage
      have hmem := mem_out_mirrorOut ((peerCompares_congr (hst.rd (by decide) 0) (hst.rd (by decide) 0)).trans hpeer) w
        (.write 0x100034 (v % 2 ^ 24))
      rwa [frame_congr (hst.rd (by decide) 0)] at hmem
    · exact hall.onlyStagedOut
  · intro s c k v hk hg hcap hv
    have hp : s.protected? (.hart k) R.CAP_BMC_CAP 0 = some 4 := by
      simp [State.protected?, State.right, State.warden, hk, show R.CAP_BMC_CAP.acc = .rw from rfl,
        show (R.CAP_BMC_CAP == R.FLT_CMD_REJECT_CLR) = false from rfl]
    have hword : R.CAP_BMC_CAP.word 0 = 0x100034 := rfl
    have hr : s.reservedWord 0x100034 = false := by
      unfold State.reservedWord
      cases s.zk4 <;> rfl
    refine .of_go ((exec_capBmcWrite s ⟨.hart k, c⟩ v).trans ?_) (refuses_protected s ⟨.hart k, c⟩ (by decide) (by decide))
    simp only [State.judged, State.judgedAt, hword, hg, hr, hp, wouldBe, State.readBack, hcap,
      show R.CAP_BMC_CAP.acc = .rw from rfl]
    rw [if_neg Bool.false_ne_true, if_neg (by decide), if_neg (by simpa using hv)]
  · intro s w p hw hr
    exact .of_go ((exec_profileReq s w p).trans (by rw [writeProfile_of_notRunning hw hr])) (refuses_forbidden s w (by decide))
  · intro s w p hw hr hlive
    have hbad : s.badProfile (p % 8) = false := by simp [State.badProfile, hlive]
    have hreq : s.requestProfile (p % 8) = (s.wr R.PROFILE_REQ 0 (p % 8)).wr H.TOP_REQ_HELD 0 1 := by
      rw [State.requestProfile, if_pos hlive]
    have hall : Frame (.regsOut [R.PROFILE_REQ, H.TOP_REQ_HELD]) s
        ((((s.wr R.PROFILE_REQ 0 (p % 8)).wr H.TOP_REQ_HELD 0 1).mirrorOut w (.profile (p % 8))).answer .ok) :=
      (Frame.refl s).wr.wr.mirrorOut.answer
    refine .of_go ((exec_profileReq s w p).trans (by rw [writeProfile_of_accepted hw hr hbad, hreq]))
      ⟨?_, ?_, rfl, hall.kinds, hall.onlyRegsOut⟩
    · rw [State.rd_answer, (mirrorOut_frame _ _ _).rd rfl, State.rd_wr_apart _ (by decide), State.rd_wr_zero _ _ (by decide) le_rfl,
        if_pos rfl]
      exact Nat.mod_mod _ _
    · rw [State.bit_answer, (mirrorOut_frame _ _ _).bit rfl, State.bit_wr_below Nat.zero_lt_one _ _ (by decide) le_rfl rfl, if_pos rfl]
      rfl
  · intro s w p hw hr hb hlive hp hpend
    have hreq : s.requestProfile (p % 8) = s.wr R.PROFILE_REQ 0 (p % 8) := by
      rw [State.requestProfile, if_neg (by simp [hlive]), if_pos ⟨hp, hpend⟩]
    have hall : Frame (.regsOut [R.PROFILE_REQ]) s
        (((s.wr R.PROFILE_REQ 0 (p % 8)).mirrorOut w (.profile (p % 8))).answer .ok) := (Frame.refl s).wr.mirrorOut.answer
    refine .of_go ((exec_profileReq s w p).trans (by rw [writeProfile_of_accepted hw hr hb, hreq])) ⟨?_, rfl, hall.kinds, hall.onlyRegsOut⟩
    rw [State.rd_answer, (mirrorOut_frame _ _ _).rd rfl, State.rd_wr_zero _ _ (by decide) le_rfl, if_pos rfl]
    exact Nat.mod_mod _ _
  · intro s frames hno
    rw [exec_profilePrepDone, if_neg ?_, State.go]
    rcases hno with h | h | h
    · simp [h]
    · simp [h]
    · simp [Nat.not_le.2 h]
  · intro s hno
    rw [exec_wardenWindowExpiry, if_neg (by rcases hno with h | h <;> simp [h]), State.go]

end Sys2Proof.Machine
end

section
/-! Writes of the clock registers (R482, R484, R485, R489, R490, R494). -/

set_option Elab.async false

namespace Sys2Proof.Machine

section
variable (s : State) (w : WCtx)

theorem exec_go (d : Nat) : exec (.go w d) s = (s.judged w R.CLK_SWITCH_GO 0 1 (s.mayReturn d)
    fun t => (t.wr R.CLK_SWITCH_DOMAIN 0 d).doReturn d).go := rfl

theorem exec_clkEnWrite (v : Nat) : exec (.clkEnWrite w v) s
    = (s.judged w R.CLK_EN_EN 0 (v % 2048) (s.mayGate v) fun t => t.wr R.CLK_EN_EN 0 v).go := rfl

theorem exec_clkDivWrite (v : Nat) : exec (.clkDivWrite w v) s = (s.judgedAt w (R.CLK_DIV_HART_DIV.word 0) R.CLK_DIV_HART_DIV 0
    (s.carries (R.CLK_DIV_HART_DIV.word 0) v) true fun t => t.putDiv (v % 16)).go := rfl

end

theorem mem_clockGroup_lt {d k : Nat} (hd : d < 6) (hk : k ∈ clockGroup d) : k < 6 := by
  unfold clockGroup at hk
  split at hk <;> simp at hk <;> omega

/-- A domain begins its switch. -/
def State.beginSwitch1 (s : State) (forced coarse : Bool) (d : Nat) : State :=
  ((s.wr H.CLK_SW d 1).wrB H.CLK_SW_FORCED d forced).wrB H.CLK_SW_COARSE d coarse

theorem beginSwitch_eq (s : State) (ds : List Nat) (forced coarse : Bool) :
    s.beginSwitch ds forced coarse = ds.foldl (fun t d => t.beginSwitch1 forced coarse d) s := rfl

theorem beginSwitch_frame (s : State) (ds : List Nat) (forced coarse : Bool) :
    Frame (.regs [H.CLK_SW, H.CLK_SW_FORCED, H.CLK_SW_COARSE]) s (s.beginSwitch ds forced coarse) := (Frame.refl s).beginSwitch

/-- The domains that begin a switch are under it, forced and coarse as asked. -/
theorem beginSwitch_sets {s : State} {ds : List Nat} {forced coarse : Bool} {k : Nat} (hk : k ∈ ds) (hlt : k < 6) :
    (s.beginSwitch ds forced coarse).bit H.CLK_SW k = true
      ∧ (s.beginSwitch ds forced coarse).bit H.CLK_SW_FORCED k = forced
      ∧ (s.beginSwitch ds forced coarse).bit H.CLK_SW_COARSE k = coarse := by
  have hset (u : State) : (u.beginSwitch1 forced coarse k).bit H.CLK_SW k = true
      ∧ (u.beginSwitch1 forced coarse k).bit H.CLK_SW_FORCED k = forced
      ∧ (u.beginSwitch1 forced coarse k).bit H.CLK_SW_COARSE k = coarse := by
    simp (disch := decide) only [State.beginSwitch1, State.bit_wrB_apart, State.bit_wrB_below hlt, State.bit_wr_below hlt, if_true]
    exact ⟨rfl, trivial, trivial⟩
  rw [beginSwitch_eq]
  refine foldl_at (I := fun _ => True) (Q := fun u => u.bit H.CLK_SW k = true ∧ u.bit H.CLK_SW_FORCED k = forced
    ∧ u.bit H.CLK_SW_COARSE k = coarse) hk (fun _ _ _ => trivial) (fun u _ => hset u) (fun u x _ hq => ?_) s trivial
  by_cases hx : x = k
  · exact hx ▸ hset u
  · simpa (disch := decide) only [State.beginSwitch1, State.bit, State.wrB, State.rd_wr_apart, State.rd_wr_idx _ hx] using hq

/-- Domains outside the switch stay out of it. -/
theorem beginSwitch_other (s : State) {ds : List Nat} (forced coarse : Bool) {k : Nat} (hk : k ∉ ds) :
    (s.beginSwitch ds forced coarse).rd H.CLK_SW k = s.rd H.CLK_SW k := by
  rw [beginSwitch_eq]
  refine rd_foldl_of_notMem (fun u x hx => ?_) hk s
  simp (disch := decide) only [State.beginSwitch1, State.rd_wrB_apart, State.rd_wr_idx _ hx]

theorem doReturn_sets {s : State} {d k : Nat} (hd : d < 6) (hk : k ∈ clockGroup d) :
    (s.doReturn d).bit R.CLK_STATUS_ON_FRC k = false ∧ (s.doReturn d).bit H.CLK_SW k = true := by
  have hlt := mem_clockGroup_lt hd hk
  refine ⟨?_, (beginSwitch_sets hk hlt).1⟩
  rw [State.doReturn, (beginSwitch_frame _ _ _ _).bit (by decide)]
  have hset (u : State) : (u.wr R.CLK_STATUS_ON_FRC k 0).bit R.CLK_STATUS_ON_FRC k = false := by
    rw [State.bit_wr_below hlt _ _ (by decide) (by decide) rfl, if_pos rfl]
    rfl
  refine foldl_at (g := fun (t : State) (k : Nat) => t.wr R.CLK_STATUS_ON_FRC k 0) (I := fun _ => True)
    (Q := fun u => u.bit R.CLK_STATUS_ON_FRC k = false) hk (fun _ _ _ => trivial) (fun u _ => hset u) (fun u x _ hq => ?_) s trivial
  by_cases hx : x = k
  · exact hx ▸ hset u
  · rwa [State.bit, State.rd_wr_idx _ hx (by decide)]

/-- A bit that a write clears is among those cleared. -/
theorem bitOf_cleared {a v : Nat} (ha : bitOf a 1 = true) (hv : bitOf v 1 = false) : bitOf (a - (a &&& v)) 1 = true := by
  have hand : (a &&& v) % 4 = (a % 4) &&& (v % 4) := Nat.and_mod_two_pow (n := 2)
  have hle := Nat.and_le_left (n := a) (m := v)
  have hlow (x : Nat) : bitOf x 1 = bitOf (x % 4) 1 := by
    simp only [bitOf, Nat.testBit, Nat.shiftRight_one]
    simp
    omega
  have hsmall : ∀ x < 4, ∀ y < 4, bitOf x 1 = true → bitOf y 1 = false → (x &&& y) ≤ x ∧ bitOf (x - (x &&& y)) 1 = true := by decide
  rw [hlow] at ha hv ⊢
  obtain ⟨hle', hbit⟩ := hsmall (a % 4) (Nat.mod_lt _ (by decide)) (v % 4) (Nat.mod_lt _ (by decide)) ha hv
  have hsub : (a - (a &&& v)) % 4 = a % 4 - ((a % 4) &&& (v % 4)) := by omega
  rwa [hsub]

/-- A bit that a write keeps is not among those cleared. -/
theorem bitOf_notCleared {a v : Nat} (hv : bitOf v 1 = true) : bitOf (a - (a &&& v)) 1 = false := by
  have hand : (a &&& v) % 4 = (a % 4) &&& (v % 4) := Nat.and_mod_two_pow (n := 2)
  have hle := Nat.and_le_left (n := a) (m := v)
  have hlow (x : Nat) : bitOf x 1 = bitOf (x % 4) 1 := by
    simp only [bitOf, Nat.testBit, Nat.shiftRight_one]
    simp
    omega
  have hsmall : ∀ x < 4, ∀ y < 4, bitOf y 1 = true → (x &&& y) ≤ x ∧ bitOf (x - (x &&& y)) 1 = false := by decide
  rw [hlow] at hv ⊢
  obtain ⟨hle', hbit⟩ := hsmall (a % 4) (Nat.mod_lt _ (by decide)) (v % 4) (Nat.mod_lt _ (by decide)) hv
  have hsub : (a - (a &&& v)) % 4 = a % 4 - ((a % 4) &&& (v % 4)) := by omega
  rwa [hsub]

/-- A divider that moves puts its domain under a switch, unless it runs on the fast RC. -/
def State.moveDiv (s : State) (f : Fld) (c d : Nat) (t : State) : State :=
  t.when (divCode (s.rd f 0) != divCode c && !s.bit R.CLK_STATUS_ON_FRC d) fun u => u.beginSwitch [d] false false

theorem putDiv_eq (s : State) (v : Nat) : s.putDiv v = ((s.moveDiv R.CLK_DIV_BUS_DIV (v / 4) 3 (s.moveDiv R.CLK_DIV_HART_DIV v 2 s)).wr
    R.CLK_DIV_BUS_DIV 0 (v / 4)).wr R.CLK_DIV_HART_DIV 0 v := rfl

theorem moveDiv_of_same {s t : State} {f : Fld} {c d : Nat} (h : divCode (s.rd f 0) = divCode c) : s.moveDiv f c d t = t := by
  rw [State.moveDiv, h, bne_self_eq_false, Bool.false_and, State.when_false]

/-- Settles O33. -/
theorem clockRegistersAreWritten : Obligations.ClockRegistersAreWritten := by
  unfold Obligations.ClockRegistersAreWritten
  refine ⟨?_, ?_, ?_, ?_, ?_, ?_⟩
  · intro s w d hw hmay hd
    have hall : Frame (.regsOut [R.CLK_SWITCH_DOMAIN, R.CLK_STATUS_ON_FRC, H.CLK_SW, H.CLK_SW_FORCED, H.CLK_SW_COARSE]) s
        (((s.wr R.CLK_SWITCH_DOMAIN 0 d).doReturn d).answer .ok) := (Frame.refl s).wr.doReturn.answer
    have hret : Frame (.regs [R.CLK_STATUS_ON_FRC, H.CLK_SW, H.CLK_SW_FORCED, H.CLK_SW_COARSE]) (s.wr R.CLK_SWITCH_DOMAIN 0 d)
        ((s.wr R.CLK_SWITCH_DOMAIN 0 d).doReturn d) := (Frame.refl _).doReturn
    refine .of_go (t := ((s.wr R.CLK_SWITCH_DOMAIN 0 d).doReturn d).answer .ok) ((exec_go s w d).trans (by rw [hmay, State.judged_of_writable hw]))
      ⟨?_, rfl, fun k hk => doReturn_sets hd hk, hall.kinds, hall.onlyRegsOut⟩
    rw [State.rd_answer, hret.rd (by decide), State.rd_wr_zero _ _ (by decide) le_rfl, if_pos rfl]
    exact Nat.mod_eq_of_lt (show d < 8 by omega)
  · intro s w d hw hmay
    exact .of_go ((exec_go s w d).trans (by rw [hmay, State.judged_of_forbidden hw])) (refuses_forbidden s w (by decide))
  · intro s w v hw hv hbit hkeep
    have hmay : s.mayGate v = true := by
      simp only [State.mayGate, bitOf_notCleared hbit, Bool.or_false, Bool.not_eq_true', Bool.and_eq_false_imp]
      intro hen
      rw [hkeep hen]
      simp
    refine .of_go (t := (s.wr R.CLK_EN_EN 0 v).answer .ok)
      ((exec_clkEnWrite s w v).trans (by rw [hmay, State.judged_of_writable hw])) ⟨?_, rfl, by simp, by simp⟩
    rw [State.rd_answer, State.rd_wr_zero _ _ (by decide) le_rfl, if_pos rfl]
    exact Nat.mod_eq_of_lt hv
  · intro s w v hw _ hbit hon
    have hmay : s.mayGate v = false := by simp [State.mayGate, bitOf_cleared hon hbit]
    exact .of_go ((exec_clkEnWrite s w v).trans (by rw [hmay, State.judged_of_forbidden hw])) (refuses_forbidden s w (by decide))
  · intro s w v hw hv
    have hall : Frame (.regsOut [R.CLK_DIV_HART_DIV, R.CLK_DIV_BUS_DIV, H.CLK_SW, H.CLK_SW_FORCED, H.CLK_SW_COARSE]) s
        ((s.putDiv v).answer .ok) := (Frame.refl s).putDiv.answer
    refine .of_go ((exec_clkDivWrite s w v).trans (by rw [judgedAt_of_writable hw, Nat.mod_eq_of_lt hv]))
      ⟨?_, ?_, rfl, fun hmoves honloop => ?_, fun hhart hbus d => ?_, hall.kinds, hall.onlyRegsOut⟩
    · rw [State.rd_answer, putDiv_eq, State.rd_wr_zero _ _ (by decide) le_rfl, if_pos rfl]
      rfl
    · rw [State.rd_answer, putDiv_eq, State.rd_wr_apart _ (by decide), State.rd_wr_zero _ _ (by decide) le_rfl, if_pos rfl]
      exact Nat.mod_eq_of_lt (show v / 4 < 4 by omega)
    · have hswitch : (s.moveDiv R.CLK_DIV_HART_DIV v 2 s).bit H.CLK_SW 2 = true := by
        rw [State.moveDiv, bne_iff_ne.2 hmoves, honloop, Bool.not_false, Bool.and_self, State.when_true]
        exact (beginSwitch_sets (List.mem_singleton.2 rfl) (by decide)).1
      rw [State.bit_answer, putDiv_eq, State.bit_wr_apart _ (by decide), State.bit_wr_apart _ (by decide), State.moveDiv, State.bit_when]
      split
      · rwa [State.bit, beginSwitch_other _ _ _ (by decide)]
      · exact hswitch
    · rw [State.rd_answer, putDiv_eq, State.rd_wr_apart _ (by decide), State.rd_wr_apart _ (by decide), moveDiv_of_same hbus,
        moveDiv_of_same hhart]
  · intro s w v hw _ hen hclears
    have hmay : s.mayGate v = false := by
      have hle := Nat.and_le_left (n := s.rd R.CLK_EN_EN 0) (m := v)
      have hne : s.rd R.CLK_EN_EN 0 - (s.rd R.CLK_EN_EN 0 &&& v) ≠ 0 := by omega
      simp [State.mayGate, hen, hne]
    exact .of_go ((exec_clkEnWrite s w v).trans (by rw [hmay, State.judged_of_forbidden hw])) (refuses_forbidden s w (by decide))

end Sys2Proof.Machine
end

section
/-! Reference sources and crystals (R469–R474, R494). -/

set_option Elab.async false

namespace Sys2Proof.Machine

/-- What tells whether a source is eligible. -/
def eligFields : List Fld := [R.CLK_CTRL_REC_EN, H.CLK_TRAINED, R.CLK_CTRL_XB_EN, R.CLK_STATUS_XB_AMP_OK, H.CLK_CNT_BAD, R.CLK_CTRL_XA_EN,
  R.CLK_STATUS_XA_AMP_OK, R.CLK_STATUS_FRC_BAD, R.TWIN_STATUS_LINK_UP]

theorem eligible_congr {s t : State} (h : ∀ g ∈ eligFields, ∀ i, t.bit g i = s.bit g i) (k : Nat) : t.eligible k = s.eligible k := by
  simp only [eligFields, List.forall_mem_cons] at h
  obtain ⟨h1, h2, h3, h4, h5, h6, h7, h8, h9, _⟩ := h
  unfold State.eligible
  split <;> simp only [h1, h2, h3, h4, h5, h6, h7, h8, h9]

theorem Frame.eligible {ρ : Reach} {s t : State} (h : Frame ρ s t) (hρ : (eligFields.all fun g => ρ.flds.all fun f => f.apart g) = true)
    (k : Nat) : t.eligible k = s.eligible k :=
  eligible_congr (fun g hg => h.bit (List.all_eq_true.1 hρ g hg)) k

theorem eligible_lt {s : State} {k : Nat} (h : s.eligible k = true) : k < 5 := by
  by_contra hk
  obtain ⟨n, rfl⟩ := Nat.exists_eq_add_of_le' (not_lt.1 hk)
  exact absurd h Bool.false_ne_true

/-! ## The mux -/

theorem switchRef_frame (s : State) (r : Nat) :
    Frame (.fault [R.CLK_STATUS_REF, R.CLK_STATUS_HOLDOVER, R.CLK_CNT_REF_SWITCHES, R.TALLY_DROPPED_DROPPED]) s (s.switchRef r) :=
  (Frame.refl s).switchRef

/-- The mux takes another source under holdover, and counts it. -/
theorem switchRef_sets {s : State} {r : Nat} (hr : s.rd R.CLK_STATUS_REF 0 ≠ r) (hlt : r < 8) :
    (s.switchRef r).rd R.CLK_STATUS_REF 0 = r ∧ (s.switchRef r).bit R.CLK_STATUS_HOLDOVER 0 = true
      ∧ (s.switchRef r).rd R.CLK_CNT_REF_SWITCHES 0 = satAdd R.CLK_CNT_REF_SWITCHES.wid (s.rd R.CLK_CNT_REF_SWITCHES 0) 1 := by
  have htally (u : State) : Frame (.fault [R.TALLY_DROPPED_DROPPED]) u (u.tally 5 1 2 r 0) := (Frame.refl u).tally
  rw [State.switchRef, if_neg hr, (htally _).rd (by decide), (htally _).rd (by decide), (htally _).bit (by decide),
    State.rd_inc_apart _ (by decide), State.bit_inc_apart _ (by decide), State.rd_inc_zero _ _ (by decide) le_rfl, if_pos rfl,
    State.rd_wr_apart _ (by decide), State.rd_wr_zero _ _ (by decide) le_rfl, if_pos rfl, State.rd_wr_apart _ (by decide),
    State.rd_wr_apart _ (by decide), State.bit_wr_below Nat.one_pos _ _ (by decide) le_rfl rfl, if_pos rfl]
  exact ⟨Nat.mod_eq_of_lt hlt, rfl, rfl⟩

/-- The highest eligible source is the first in the order. -/
theorem takeHighest_of_first {s : State} {k : Nat} (hk : k < 4) (he : s.eligible k = true) (hmin : ∀ j < k, s.eligible j = false) :
    s.takeHighest = s.switchRef k := by
  have hfind : [0, 1, 2, 3].find? (fun k => s.eligible k) = some k := by
    rw [List.find?_eq_some_iff_getElem]
    refine ⟨he, k, hk, ?_, fun j hj => ?_⟩
    · interval_cases k <;> rfl
    · have hget : [0, 1, 2, 3][j]'(by simpa using hj.trans hk) = j := by
        interval_cases k <;> interval_cases j <;> rfl
      rw [hget, hmin j hj, Bool.not_false]
  rw [State.takeHighest, hfind]

theorem takeHighest_of_none {s : State} (h : ∀ k < 4, s.eligible k = false) : s.takeHighest = s := by
  have hfind : [0, 1, 2, 3].find? (fun k => s.eligible k) = none := by
    simp only [List.find?_eq_none, List.mem_cons, List.not_mem_nil, or_false]
    rintro k (rfl | rfl | rfl | rfl) <;> simp [h]
  rw [State.takeHighest, hfind]

/-- Some source is the first that is eligible. -/
theorem exists_first_eligible {s : State} {n : Nat} (hn : n < 4) (h : s.eligible n = true) :
    ∃ k < 4, s.eligible k = true ∧ ∀ j < k, s.eligible j = false := by
  have hex : ∃ k, s.eligible k = true := ⟨n, h⟩
  exact ⟨Nat.find hex, (Nat.find_le h).trans_lt hn, Nat.find_spec hex, fun j hj => Bool.eq_false_iff.2 (Nat.find_min hex hj)⟩

/-! ## The loss of a source -/

/-- A source loses its eligibility. -/
def State.loseRef (s : State) (src : Nat) : State :=
  (if src = 0 then s.wr H.CLK_TRAINED 0 0 else s.wr H.CLK_CNT_BAD src 1).showRec

theorem loseRef_frame (s : State) (src : Nat) :
    Frame (.regs [H.CLK_TRAINED, H.CLK_CNT_BAD, R.CLK_STATUS_REC_OK]) s (s.loseRef src) := by
  unfold State.loseRef
  split
  · exact (Frame.refl s).wr.showRec
  · exact (Frame.refl s).wr.showRec

theorem showRec_recOk (s : State) : s.showRec.bit R.CLK_STATUS_REC_OK 0 = s.showRec.eligible 0 := by
  have hshow : Frame (.regs [R.CLK_STATUS_REC_OK]) s s.showRec := (Frame.refl s).showRec
  rw [hshow.eligible (by decide), State.showRec, State.bit_wrB_below Nat.one_pos _ _ (by decide) le_rfl rfl, if_pos rfl]

theorem loseRef_self {s : State} {src : Nat} (hsrc : src < 5) (h3 : src ≠ 3) : (s.loseRef src).eligible src = false := by
  have hshow (u : State) : Frame (.regs [R.CLK_STATUS_REC_OK]) u u.showRec := (Frame.refl u).showRec
  have hbad : (s.wr H.CLK_CNT_BAD src 1).bit H.CLK_CNT_BAD src = true := by
    rw [State.bit_wr_below hsrc _ _ (by decide) le_rfl rfl, if_pos rfl]
    rfl
  have htrained : (s.wr H.CLK_TRAINED 0 0).bit H.CLK_TRAINED 0 = false := by
    rw [State.bit_wr_below Nat.one_pos _ _ (by decide) le_rfl rfl, if_pos rfl]
    rfl
  rw [State.loseRef, (hshow _).eligible (by decide)]
  obtain rfl | rfl | rfl | rfl : src = 0 ∨ src = 1 ∨ src = 2 ∨ src = 4 := by omega
  · rw [if_pos rfl, State.eligible, htrained, Bool.and_false]
  all_goals rw [if_neg (by decide), State.eligible, hbad, Bool.not_true, Bool.and_false]

theorem loseRef_other (s : State) {src k : Nat} (hk : k ≠ src) : (s.loseRef src).eligible k = s.eligible k := by
  have hshow (u : State) : Frame (.regs [R.CLK_STATUS_REC_OK]) u u.showRec := (Frame.refl u).showRec
  have hidx : (s.wr H.CLK_CNT_BAD src 1).bit H.CLK_CNT_BAD k = s.bit H.CLK_CNT_BAD k := by
    rw [State.bit, State.rd_wr_idx _ (Ne.symm hk) (by decide)]
    rfl
  rw [State.loseRef, (hshow _).eligible (by decide)]
  split
  next h0 =>
    unfold State.eligible
    split
    · exact absurd h0.symm hk
    all_goals simp (disch := decide) only [State.bit_wr_apart]
  · unfold State.eligible
    split <;> simp (disch := decide) only [State.bit_wr_apart, hidx]

theorem exec_referenceLost (s : State) {src : Nat} (hsrc : src < 5) (h3 : src ≠ 3) : exec (.referenceLost src) s
    = (if s.rd R.CLK_STATUS_REF 0 = src then (s.loseRef src).takeHighest else s.loseRef src).go := by
  have hmay : ¬(4 < src ∨ src = 3) := by omega
  cases src with
  | zero => exact congrArg State.go (if_neg hmay)
  | succ n => exact congrArg State.go (if_neg hmay)

/-! ## Crystals -/

theorem crystal_cases {x : Nat} (hx : x < 2) : x = 0 ∨ x = 1 := by omega

section
variable (s : State) {x : Nat}

theorem exec_crystalAmplitudePass : exec (.crystalAmplitudePass x) s = (if x < 2 ∧ s.bit (xEn x) 0 = true ∧ s.bit H.CLK_XIDLE x = false then
    ((s.wr (xAmp x) 0 1).wr (xFail x) 0 0).wr H.CLK_CNT_BAD (xSrc x) 0 else s).go := rfl

theorem exec_crystalStartTimeout : exec (.crystalStartTimeout x) s = (if x < 2 ∧ s.bit (xEn x) 0 = true ∧ s.bit (xAmp x) 0 = false then
    (s.wr (xFail x) 0 1).wr H.CLK_XIDLE x 1 else s).go := rfl

theorem exec_crystalRestart : exec (.crystalRestart x) s
    = (if x < 2 ∧ s.bit (xEn x) 0 = true then s.wr H.CLK_XIDLE x 0 else s).go := rfl

theorem exec_crystalDetectorFail : exec (.crystalDetectorFail x) s = (if x < 2 then
    if s.rd R.CLK_STATUS_REF 0 = xSrc x then ((s.wr (xAmp x) 0 0).wr H.CLK_XIDLE x 0).takeHighest
    else (s.wr (xAmp x) 0 0).wr H.CLK_XIDLE x 0
  else s).go := rfl

theorem exec_autoReturn (src : Nat) : exec (.autoReturn src) s = (if s.bit R.CLK_CTRL_AUTO_RET 0 && !s.onTwinClock
    && (s.countedGood src).eligible src && decide (src < s.rd R.CLK_STATUS_REF 0) then (s.countedGood src).switchRef src
  else s).go := rfl

/-- A crystal that passes its check is eligible. -/
theorem crystalPass_sets (hx : x < 2) (hen : s.bit (xEn x) 0 = true) :
    (((s.wr (xAmp x) 0 1).wr (xFail x) 0 0).wr H.CLK_CNT_BAD (xSrc x) 0).bit (xAmp x) 0 = true
      ∧ (((s.wr (xAmp x) 0 1).wr (xFail x) 0 0).wr H.CLK_CNT_BAD (xSrc x) 0).bit (xFail x) 0 = false
      ∧ (((s.wr (xAmp x) 0 1).wr (xFail x) 0 0).wr H.CLK_CNT_BAD (xSrc x) 0).eligible (xSrc x) = true := by
  obtain rfl | rfl := crystal_cases hx
  all_goals
    simp only [xAmp, xFail, xSrc, xEn, if_true, one_ne_zero, if_false] at hen ⊢
    simp (disch := decide) only [State.eligible, State.bit_wr_apart, State.bit_wr_below Nat.one_pos, State.bit_wr_below (by decide : 1 < 5),
      State.bit_wr_below (by decide : 2 < 5), if_true, hen]
    decide

/-- A crystal that fails its detector is not eligible and starts anew. -/
theorem crystalFail_sets (hx : x < 2) : ((s.wr (xAmp x) 0 0).wr H.CLK_XIDLE x 0).bit (xAmp x) 0 = false
    ∧ ((s.wr (xAmp x) 0 0).wr H.CLK_XIDLE x 0).eligible (xSrc x) = false
    ∧ ((s.wr (xAmp x) 0 0).wr H.CLK_XIDLE x 0).bit H.CLK_XIDLE x = false := by
  rw [State.bit_wr_below hx _ _ (by decide) le_rfl rfl, if_pos rfl]
  obtain rfl | rfl := crystal_cases hx
  all_goals
    simp only [xAmp, xSrc, if_true, one_ne_zero, if_false]
    simp (disch := decide) only [State.eligible, State.bit_wr_apart, State.bit_wr_below Nat.one_pos, if_true]
    simp

end

theorem countedGood_frame (s : State) (src : Nat) : Frame (.regs [H.CLK_CNT_BAD]) s (s.countedGood src) :=
  (Frame.refl s).countedGood

theorem showRec_trained (s : State) : (s.wr H.CLK_TRAINED 0 1).showRec.bit H.CLK_TRAINED 0 = true
    ∧ (s.wr H.CLK_TRAINED 0 1).showRec.bit R.CLK_STATUS_REC_OK 0 = s.bit R.CLK_CTRL_REC_EN 0 := by
  have hset : (s.wr H.CLK_TRAINED 0 1).bit H.CLK_TRAINED 0 = true := by
    rw [State.bit_wr_below Nat.one_pos _ _ (by decide) le_rfl rfl, if_pos rfl]
    rfl
  rw [State.showRec, State.bit_wrB_apart _ (by decide), State.bit_wrB_below Nat.one_pos _ _ (by decide) le_rfl rfl, if_pos rfl,
    State.eligible, hset, State.bit_wr_apart _ (by decide), Bool.and_true]
  exact ⟨rfl, rfl⟩

/-- Settles O31. -/
theorem referencesAndCrystals : Obligations.ReferencesAndCrystals := by
  unfold Obligations.ReferencesAndCrystals
  refine ⟨?_, ?_, ?_, ?_, ?_, ?_, ?_, ?_, ?_, ?_, ?_, ?_, ?_, ?_, ?_, ?_, ?_⟩
  · intro s src k hsrc h3 href hk hne he hmin
    have hlose := loseRef_frame s src
    have htake : (s.loseRef src).takeHighest = (s.loseRef src).switchRef k := by
      refine takeHighest_of_first hk (by rwa [loseRef_other s hne]) fun j hj => ?_
      by_cases hjs : j = src
      · rw [hjs, loseRef_self hsrc h3]
      · rw [loseRef_other s hjs, hmin j hj hjs]
    have hall : Frame (.fault [H.CLK_TRAINED, H.CLK_CNT_BAD, R.CLK_STATUS_REC_OK, R.CLK_STATUS_REF, R.CLK_STATUS_HOLDOVER,
        R.CLK_CNT_REF_SWITCHES, R.TALLY_DROPPED_DROPPED]) s ((s.loseRef src).switchRef k) :=
      (hlose.mono (by decide)).switchRef
    obtain ⟨hr, hhold, hcnt⟩ := switchRef_sets (s := s.loseRef src) (r := k) (by rw [hlose.rd (by decide), href]; exact Ne.symm hne)
      (by omega)
    refine .of_go (t := (s.loseRef src).switchRef k) ((exec_referenceLost s hsrc h3).trans (by rw [if_pos href, htake]))
      ⟨hr, hhold, ?_, ?_, hall.kinds, hall.onlyFault⟩
    · rw [(switchRef_frame _ _).eligible (by decide), loseRef_self hsrc h3]
    · rw [hcnt, hlose.rd (by decide)]
  · intro s src hsrc h3 href
    exact .of_go (t := s.loseRef src) ((exec_referenceLost s hsrc h3).trans (by rw [if_neg href]))
      ⟨loseRef_self hsrc h3, showRec_recOk _, (loseRef_frame s src).kinds, (loseRef_frame s src).onlyRegs⟩
  · intro s
    refine .of_go (t := s.wr R.CLK_STATUS_HOLDOVER 0 0) rfl ⟨?_, by simp, by simp⟩
    rw [State.bit_wr_below Nat.one_pos _ _ (by decide) le_rfl rfl, if_pos rfl]
    rfl
  · intro s x hx hen hidle
    obtain ⟨hamp, hfail, hel⟩ := crystalPass_sets s hx hen
    exact .of_go (t := ((s.wr (xAmp x) 0 1).wr (xFail x) 0 0).wr H.CLK_CNT_BAD (xSrc x) 0)
      ((exec_crystalAmplitudePass s).trans (by rw [if_pos ⟨hx, hen, hidle⟩])) ⟨hamp, hfail, hel, by simp, by simp⟩
  · intro s x hx hen hamp
    refine .of_go (t := (s.wr (xFail x) 0 1).wr H.CLK_XIDLE x 1)
      ((exec_crystalStartTimeout s).trans (by rw [if_pos ⟨hx, hen, hamp⟩])) ⟨?_, ?_, by simp, by simp⟩
    · obtain rfl | rfl := crystal_cases hx
      all_goals
        rw [State.bit_wr_apart _ (by decide), State.bit_wr_below Nat.one_pos _ _ (by decide) le_rfl rfl, if_pos rfl]
        rfl
    · rw [State.bit_wr_below hx _ _ (by decide) le_rfl rfl, if_pos rfl]
      rfl
  · intro s x hx hen
    refine .of_go (t := s.wr H.CLK_XIDLE x 0) ((exec_crystalRestart s).trans (by rw [if_pos ⟨hx, hen⟩])) ⟨?_, by simp, by simp⟩
    rw [State.bit_wr_below hx _ _ (by decide) le_rfl rfl, if_pos rfl]
    rfl
  · intro s x hx href
    obtain ⟨hamp, hel, hidle⟩ := crystalFail_sets s hx
    exact .of_go (t := (s.wr (xAmp x) 0 0).wr H.CLK_XIDLE x 0)
      ((exec_crystalDetectorFail s).trans (by rw [if_pos hx, if_neg href])) ⟨hamp, hel, hidle, by simp, by simp⟩
  · intro s x hx href hfrc
    obtain ⟨_, hel, _⟩ := crystalFail_sets s hx
    have hkeep : ((s.wr (xAmp x) 0 0).wr H.CLK_XIDLE x 0).rd R.CLK_STATUS_REF 0 = xSrc x := by
      rw [← href]
      obtain rfl | rfl := crystal_cases hx
      all_goals rw [State.rd_wr_apart _ (by decide), State.rd_wr_apart _ (by decide)]
    have hfast : ((s.wr (xAmp x) 0 0).wr H.CLK_XIDLE x 0).eligible 3 = true := by
      rw [State.eligible, ← Bool.not_false, ← hfrc]
      obtain rfl | rfl := crystal_cases hx
      all_goals rw [State.bit_wr_apart _ (by decide), State.bit_wr_apart _ (by decide)]
    obtain ⟨k, hk, he, hmin⟩ := exists_first_eligible (by decide) hfast
    have hne : xSrc x ≠ k := by
      rintro rfl
      exact Bool.false_ne_true (hel.symm.trans he)
    obtain ⟨hr, hhold, _⟩ := switchRef_sets (r := k) (by rwa [hkeep]) (by omega)
    refine .of_go (t := ((s.wr (xAmp x) 0 0).wr H.CLK_XIDLE x 0).switchRef k)
      ((exec_crystalDetectorFail s).trans (by rw [if_pos hx, if_pos href, takeHighest_of_first hk he hmin])) ?_
    rw [hr, (switchRef_frame _ _).eligible (by decide)]
    exact ⟨hk, he, hne.symm, hhold⟩
  · intro s src hauto htwin hel hlt
    have hgood := countedGood_frame s src
    have hall : Frame (.fault [R.CLK_STATUS_REF, R.CLK_STATUS_HOLDOVER, R.CLK_CNT_REF_SWITCHES, R.TALLY_DROPPED_DROPPED, H.CLK_CNT_BAD])
        s ((s.countedGood src).switchRef src) := (hgood.mono (by decide)).switchRef
    have hsrc := eligible_lt hel
    obtain ⟨hr, hhold, hcnt⟩ := switchRef_sets (s := s.countedGood src) (r := src) (by rw [hgood.rd (by decide)]; omega) (by omega)
    refine .of_go (t := (s.countedGood src).switchRef src)
      ((exec_autoReturn s src).trans (by rw [hauto, htwin, hel, decide_eq_true hlt]; rfl))
      ⟨hr, hhold, ?_, hall.kinds, ?_, hall.onlyFault⟩
    · rw [hcnt, hgood.rd (by decide)]
    · rw [(switchRef_frame _ _).eligible (by decide), hel]
  · intro s
    have hall : Frame (.regs [H.CLK_TRAINED, R.CLK_STATUS_REC_OK]) s (s.wr H.CLK_TRAINED 0 1).showRec := (Frame.refl s).wr.showRec
    obtain ⟨htrained, hok⟩ := showRec_trained s
    exact .of_go (t := (s.wr H.CLK_TRAINED 0 1).showRec) rfl ⟨htrained, hok, hall.kinds, hall.onlyRegs⟩
  · intro s src h
    have hno : 4 < src ∨ src = 3 := h.symm
    exact congrArg State.go (if_pos hno)
  · intro s src hsrc href hnone
    have hlt : src < 5 := by omega
    have h3 : src ≠ 3 := by omega
    have htake : (s.loseRef src).takeHighest = s.loseRef src := by
      refine takeHighest_of_none fun k hk => ?_
      by_cases hks : k = src
      · rw [hks, loseRef_self hlt h3]
      · rw [loseRef_other s hks, hnone k hk hks]
    refine .of_go (t := s.loseRef src) ((exec_referenceLost s hlt h3).trans (by rw [if_pos href, htake]))
      ⟨?_, loseRef_self hlt h3, (loseRef_frame s src).kinds, (loseRef_frame s src).onlyRegs⟩
    rw [(loseRef_frame s src).rd (by decide), href]
  · intro s x h
    have hno : ¬(x < 2 ∧ s.bit (xEn x) 0 = true) := by
      rintro ⟨hx, hen⟩
      obtain h | h := h
      · omega
      · exact Bool.false_ne_true (h.symm.trans hen)
    refine ⟨?_, ?_, ?_⟩
    · rw [exec_crystalAmplitudePass, if_neg fun ⟨hx, hen, _⟩ => hno ⟨hx, hen⟩]
      rfl
    · rw [exec_crystalStartTimeout, if_neg fun ⟨hx, hen, _⟩ => hno ⟨hx, hen⟩]
      rfl
    · rw [exec_crystalRestart, if_neg hno]
      rfl
  · intro s x h
    rw [exec_crystalAmplitudePass, if_neg (by simp [h])]
    rfl
  · intro s x h
    rw [exec_crystalStartTimeout, if_neg (by simp [h])]
    rfl
  · intro s x h
    rw [exec_crystalDetectorFail, if_neg (by omega)]
    rfl
  · intro s src h
    rw [exec_autoReturn, if_neg ?_]
    · rfl
    · obtain h | h | h | h := h
      all_goals simp [h]

end Sys2Proof.Machine
end

section
/-! Fallback and return of the clock domains (R470, R475–R478, R482, R483, R485–R488). -/

set_option Elab.async false

namespace Sys2Proof.Machine

/-! ## A write to each element of a list -/

theorem rd_foldl_of_mem {f : Fld} {k v : Nat} {g : State → Nat → State} (hset : ∀ u, (g u k).rd f k = v)
    (hother : ∀ u x, x ≠ k → (g u x).rd f k = u.rd f k) {l : List Nat} (hk : k ∈ l) (s : State) : (l.foldl g s).rd f k = v := by
  refine foldl_at (g := g) (I := fun _ => True) (Q := fun u => u.rd f k = v) hk (fun _ _ _ => trivial) (fun u _ => hset u)
    (fun u x _ hq => ?_) s trivial
  by_cases hx : x = k
  · exact hx ▸ hset u
  · exact (hother u x hx).trans hq

theorem bit_foldl_of_mem {f : Fld} {k : Nat} {b : Bool} {g : State → Nat → State} (hset : ∀ u, (g u k).bit f k = b)
    (hother : ∀ u x, x ≠ k → (g u x).rd f k = u.rd f k) {l : List Nat} (hk : k ∈ l) (s : State) : (l.foldl g s).bit f k = b := by
  refine foldl_at (g := g) (I := fun _ => True) (Q := fun u => u.bit f k = b) hk (fun _ _ _ => trivial) (fun u _ => hset u)
    (fun u x _ hq => ?_) s trivial
  by_cases hx : x = k
  · exact hx ▸ hset u
  · rwa [State.bit, hother u x hx]

/-! ## One element of a field

The registers of the fault sources end where those of the clocks begin, so that the ranges of `Fld.apart` meet though the elements
do not. One element, told as a field of its own with the stride of the fault sources, lies apart. -/

/-- One element of a field. -/
def Fld.elem (f : Fld) (i : Nat) : Fld := { f with base := f.key i, stride := 64, cnt := 1, init := .all (f.resetAt i) }

theorem State.rd_elem (s : State) {f : Fld} {i : Nat} (hi : i < f.cnt) : s.rd (f.elem i) 0 = s.rd f i := by
  simp only [State.rd, regsRd, Fld.elem, Nat.one_pos, if_true, if_pos hi]
  rfl

section
variable {ρ : Reach} {l : List Fld} {s t : State} {f : Fld} {i n cls : Nat}

theorem OnlyKinds.rdElem (h : OnlyKinds l s t) (hi : i < f.cnt) (hl : (l.all fun g => g.apart (f.elem i)) = true) :
    t.rd f i = s.rd f i := by
  rw [← State.rd_elem t hi, ← State.rd_elem s hi]
  exact h.rd hl 0

theorem Frame.rdElem (h : Frame ρ s t) (hi : i < f.cnt) (hl : (ρ.flds.all fun g => g.apart (f.elem i)) = true) : t.rd f i = s.rd f i :=
  h.kinds.rdElem hi hl

theorem Frame.bitElem (h : Frame ρ s t) (hi : i < f.cnt) (hl : (ρ.flds.all fun g => g.apart (f.elem i)) = true) :
    t.bit f i = s.bit f i := by
  rw [State.bit, h.rdElem hi hl, State.bit]

/-- The elements that tell of a source lie apart from a list of fields. -/
def sourceApart (l : List Fld) (n : Nat) : Bool :=
  decide (n < 4096) && l.all fun f => f.apart (R.FLT_SRC_STATE_CLASS.elem n) && f.apart (R.FLT_SRC_STATE_STATE.elem n)

theorem OnlyKinds.source (h : OnlyKinds l s t) (hl : sourceApart l n = true) :
    t.rd R.FLT_SRC_STATE_CLASS n = s.rd R.FLT_SRC_STATE_CLASS n ∧ t.rd R.FLT_SRC_STATE_STATE n = s.rd R.FLT_SRC_STATE_STATE n := by
  simp only [sourceApart, Bool.and_eq_true, decide_eq_true_eq, List.all_eq_true] at hl
  obtain ⟨hn, hl⟩ := hl
  exact ⟨h.rdElem hn (List.all_eq_true.2 fun f hf => (hl f hf).1), h.rdElem hn (List.all_eq_true.2 fun f hf => (hl f hf).2)⟩

theorem Raised.afterAt {u : State} (h : OnlyKinds l s u) (hl : sourceApart l n = true) (r : Raised n cls u t) : Raised n cls s t := by
  obtain ⟨hclass, hstate⟩ := h.source hl
  simpa only [Raised, hclass, hstate] using r

theorem Raised.beforeAt {u : State} (r : Raised n cls s t) (h : OnlyKinds l t u) (hl : sourceApart l n = true) : Raised n cls s u := by
  obtain ⟨hclass, hstate⟩ := h.source hl
  simpa only [Raised, hclass, hstate] using r

end

/-! ## Fallback -/

theorem fault_frame (s : State) (k i cls : Nat) : Frame (.fault faultFields) s (s.fault k i cls) := (Frame.refl s).fault

theorem srcPresent_domain (z : Bool) {d : Nat} (hd : d < 6) : srcPresent z (0x36C + d) = true := by
  interval_cases d <;> cases z <;> rfl

section
variable (s : State)

theorem exec_clockEdgeLost (d : Nat) : exec (.clockEdgeLost d) s = (s.fallBack d true).go := rfl

theorem exec_frequencyFailure (d : Nat) : exec (.frequencyFailure d) s = (s.fallBack d false).go := rfl

theorem exec_frcBad : exec .frcBad s = (if s.rd R.CLK_STATUS_REF 0 = 3 then
    ((s.wr R.CLK_STATUS_FRC_BAD 0 1).fault 0x0F 0 1).takeHighest else (s.wr R.CLK_STATUS_FRC_BAD 0 1).fault 0x0F 0 1).go := rfl

theorem exec_domainReturn (d : Nat) : exec (.domainReturn d) s
    = (if s.bit R.CLK_CTRL_RETURN_AUTO 0 && s.mayReturn d then s.doReturn d else s).go := rfl

theorem exec_forcedStop (d : Nat) : exec (.forcedStop d) s = (if decide (d < 6) && s.bit H.CLK_SW d then
    ((clockGroup d).foldl (fun t d => t.wr H.CLK_SW_FORCED d 1) s).wr R.CLK_LOST_FORCED 0 1 else s).go := rfl

/-- The domains of a list run on the fast RC, with an event for each. -/
def State.markFrc (ds : List Nat) : State :=
  ds.foldl (fun t k => (t.wr R.CLK_STATUS_ON_FRC k 1).wr R.CLK_NMI_FALLBACK k 1) s

/-- A group goes to the fast RC under a switch, with the event to every hart and a count. -/
def State.goFrc (ds : List Nat) (forced : Bool) : State :=
  (((s.markFrc ds).beginSwitch ds forced false).nmiAll).inc R.CLK_CNT_FALLBACKS 0 1

end

section
variable {s : State} {d : Nat} {forced : Bool}

theorem fallBack_of_stays (h : 6 ≤ d ∨ s.bit R.CLK_STATUS_MON_BAD d = true ∨ (2 ≤ d ∧ s.bit R.CLK_STATUS_ON_FRC d = true)) :
    s.fallBack d forced = s := by
  unfold State.fallBack
  split
  · rfl
  next hno =>
    rw [not_or] at hno
    obtain ⟨hlt, hmon⟩ := hno
    obtain h | h | ⟨hd, hfrc⟩ := h
    · exact absurd h hlt
    · exact absurd h hmon
    · rw [if_pos hfrc, decide_eq_false (by omega)]
      rfl

theorem fallBack_of_frcBad (hd : d < 6) (hon : s.bit R.CLK_STATUS_ON_FRC d = false) (hmon : s.bit R.CLK_STATUS_MON_BAD d = false)
    (hbad : s.bit R.CLK_STATUS_FRC_BAD 0 = true) : s.fallBack d forced = s.fault 0x0F d 1 := by
  rw [State.fallBack, if_neg (by simp [hmon, hd]), hon, if_neg Bool.false_ne_true, if_pos hbad]

theorem fallBack_of_good (hd : d < 6) (hon : s.bit R.CLK_STATUS_ON_FRC d = false) (hmon : s.bit R.CLK_STATUS_MON_BAD d = false)
    (hbad : s.bit R.CLK_STATUS_FRC_BAD 0 = false) : s.fallBack d forced = (s.goFrc (clockGroup d) forced).fault 0x0F d 1 := by
  rw [State.fallBack, if_neg (by simp [hmon, hd]), hon, if_neg Bool.false_ne_true, hbad, if_neg Bool.false_ne_true]
  rfl

theorem markFrc_frame (s : State) (ds : List Nat) : Frame (.regs [R.CLK_STATUS_ON_FRC, R.CLK_NMI_FALLBACK]) s (s.markFrc ds) :=
  (Frame.refl s).foldl fun _ _ hu => hu.wr.wr

theorem goFrc_frame (s : State) (ds : List Nat) (forced : Bool) : Frame (.regsOut [R.CLK_STATUS_ON_FRC, R.CLK_NMI_FALLBACK, H.CLK_SW,
    H.CLK_SW_FORCED, H.CLK_SW_COARSE, R.CLK_CNT_FALLBACKS]) s (s.goFrc ds forced) :=
  ((markFrc_frame s ds).mono (by decide)).beginSwitch.nmiAll.inc

theorem nmiAll_frame (s : State) : Frame (.regsOut []) s s.nmiAll := (Frame.refl s).nmiAll

theorem fault_onFrc (s : State) (k i cls : Nat) {d : Nat} (hd : d < 6) :
    (s.fault k i cls).bit R.CLK_STATUS_ON_FRC d = s.bit R.CLK_STATUS_ON_FRC d := by
  interval_cases d <;> exact (fault_frame _ _ _ _).bitElem (by decide) (by decide)

/-- Each domain of the group runs on the fast RC, with its event. -/
theorem markFrc_sets {s : State} {ds : List Nat} {k : Nat} (hk : k ∈ ds) (hlt : k < 6) :
    (s.markFrc ds).bit R.CLK_STATUS_ON_FRC k = true ∧ (s.markFrc ds).bit R.CLK_NMI_FALLBACK k = true := by
  refine ⟨bit_foldl_of_mem (fun u => ?_) (fun u x hx => ?_) hk s, bit_foldl_of_mem (fun u => ?_) (fun u x hx => ?_) hk s⟩
  · rw [State.bit_wr_apart _ (by decide), State.bit_wr_below hlt _ _ (by decide) (by decide) rfl, if_pos rfl]
    rfl
  · rw [State.rd_wr_apart _ (by decide), State.rd_wr_idx _ hx (by decide)]
  · rw [State.bit_wr_below hlt _ _ (by decide) (by decide) rfl, if_pos rfl]
    rfl
  · rw [State.rd_wr_idx _ hx (by decide), State.rd_wr_apart _ (by decide)]

theorem goFrc_sets {s : State} {ds : List Nat} {forced : Bool} {k : Nat} (hk : k ∈ ds) (hlt : k < 6) :
    (s.goFrc ds forced).bit R.CLK_STATUS_ON_FRC k = true ∧ (s.goFrc ds forced).bit R.CLK_NMI_FALLBACK k = true
      ∧ (s.goFrc ds forced).bit H.CLK_SW k = true ∧ (s.goFrc ds forced).bit H.CLK_SW_FORCED k = forced := by
  obtain ⟨hfrc, hnmi⟩ := markFrc_sets (s := s) hk hlt
  obtain ⟨hsw, hforced, _⟩ := beginSwitch_sets (s := s.markFrc ds) (forced := forced) (coarse := false) hk hlt
  have hbegin := beginSwitch_frame (s.markFrc ds) ds forced false
  simp (disch := decide) only [State.goFrc, State.bit_inc_apart, (nmiAll_frame _).bit (List.all_nil), hsw, hforced]
  rw [hbegin.bit (by decide), hbegin.bit (by decide)]
  exact ⟨hfrc, hnmi, trivial, trivial⟩

theorem goFrc_count (s : State) (ds : List Nat) (forced : Bool) :
    (s.goFrc ds forced).rd R.CLK_CNT_FALLBACKS 0 = satAdd R.CLK_CNT_FALLBACKS.wid (s.rd R.CLK_CNT_FALLBACKS 0) 1 := by
  rw [State.goFrc, State.rd_inc_zero _ _ (by decide) le_rfl, if_pos rfl, (nmiAll_frame _).rd List.all_nil,
    (beginSwitch_frame _ _ _ _).rd (by decide), (markFrc_frame _ _).rd (by decide)]

end

theorem mem_out_nmiAll (s : State) {k : Nat} (hk : k < 4) : .nmi k ∈ s.nmiAll.out := by
  have hout : s.nmiAll.out = .nmi 3 :: .nmi 2 :: .nmi 1 :: .nmi 0 :: s.out := rfl
  rw [hout]
  interval_cases k <;> simp

theorem mem_out_goFrc (s : State) (ds : List Nat) (forced : Bool) {k : Nat} (hk : k < 4) : .nmi k ∈ (s.goFrc ds forced).out :=
  mem_out_nmiAll _ hk

/-- What a fallback raises and reaches. -/
theorem fallBack_raised {s : State} {d : Nat} {forced : Bool} (hd : d < 6) :
    Raised (0x36C + d) 1 s ((s.goFrc (clockGroup d) forced).fault 0x0F d 1) :=
  .afterAt (goFrc_frame s _ _).kinds (by interval_cases d <;> decide) (State.fault_raised _ rfl (srcPresent_domain _ hd) (by decide))

theorem fallBack_frame (s : State) (d : Nat) (forced : Bool) :
    Frame (.fault (faultFields ++ [R.CLK_STATUS_ON_FRC, R.CLK_NMI_FALLBACK, H.CLK_SW, H.CLK_SW_FORCED, H.CLK_SW_COARSE,
      R.CLK_CNT_FALLBACKS])) s ((s.goFrc (clockGroup d) forced).fault 0x0F d 1) :=
  ((((Frame.refl s).foldl fun _ _ hu => hu.wr.wr).beginSwitch.nmiAll).inc).fault

/-! ## The end of a switch -/

section
variable (s : State) (d ns : Nat)

/-- The domains of a group run again. -/
def State.endSwitch : State := (clockGroup d).foldl (fun t k => t.clearElems [H.CLK_SW, H.CLK_SW_FORCED, H.CLK_SW_COARSE] k) s

/-- The lost time of a switch is recorded. -/
def State.recordLost (forced coarse : Bool) : State :=
  (((s.wrB R.CLK_LOST_FORCED 0 forced).wr R.CLK_LOST_DOMAIN 0 d).wrB R.CLK_LOST_COARSE 0 coarse).wr R.CLK_LOST_NS 0 (min 0x7FFFFFF ns)

theorem exec_domainSwitchDone : exec (.domainSwitchDone d ns) s = (if decide (d < 6) && s.bit H.CLK_SW d then
    ((s.endSwitch d).recordLost d ns (s.bit H.CLK_SW_FORCED d) (s.bit H.CLK_SW_COARSE d)).tally 5 1 1
      (d + 8 * b2n (s.bit H.CLK_SW_FORCED d) + 16 * b2n (s.bit H.CLK_SW_COARSE d)) ns
  else s).go := rfl

theorem endSwitch_frame : Frame (.regs [H.CLK_SW, H.CLK_SW_FORCED, H.CLK_SW_COARSE]) s (s.endSwitch d) :=
  (Frame.refl s).foldl fun _ _ hu => hu.clearElems

theorem recordLost_frame (forced coarse : Bool) : Frame (.regs [R.CLK_LOST_FORCED, R.CLK_LOST_DOMAIN, R.CLK_LOST_COARSE, R.CLK_LOST_NS])
    s (s.recordLost d ns forced coarse) := (Frame.refl s).wrB.wr.wrB.wr

theorem endSwitch_sets {k : Nat} (hk : k ∈ clockGroup d) (hlt : k < 6) : (s.endSwitch d).bit H.CLK_SW k = false := by
  refine bit_foldl_of_mem (fun u => ?_) (fun u x hx => ?_) hk s
  · simp only [State.clearElems, List.foldl_cons, List.foldl_nil]
    rw [State.bit_wr_apart _ (by decide), State.bit_wr_apart _ (by decide), State.bit_wr_below hlt _ _ (by decide) (by decide) rfl,
      if_pos rfl]
    rfl
  · simp only [State.clearElems, List.foldl_cons, List.foldl_nil]
    rw [State.rd_wr_apart _ (by decide), State.rd_wr_apart _ (by decide), State.rd_wr_idx _ hx (by decide)]

theorem recordLost_sets (hd : d < 6) (forced coarse : Bool) : (s.recordLost d ns forced coarse).bit R.CLK_LOST_FORCED 0 = forced
    ∧ (s.recordLost d ns forced coarse).rd R.CLK_LOST_DOMAIN 0 = d ∧ (s.recordLost d ns forced coarse).bit R.CLK_LOST_COARSE 0 = coarse
    ∧ (s.recordLost d ns forced coarse).rd R.CLK_LOST_NS 0 = min 0x7FFFFFF ns := by
  simp (disch := decide) only [State.recordLost, State.rd_wr_apart, State.bit_wr_apart, State.rd_wrB_apart, State.bit_wrB_apart,
    State.rd_wr_below Nat.one_pos, State.bit_wrB_below Nat.one_pos, if_true]
  exact ⟨trivial, Nat.mod_eq_of_lt (show d < 8 by omega), trivial, Nat.mod_eq_of_lt (show min 0x7FFFFFF ns < 2 ^ 27 by omega)⟩

end

/-- Domains outside the group of a return stay as they were. -/
theorem doReturn_other (s : State) {d k : Nat} (hk : k ∉ clockGroup d) :
    (s.doReturn d).rd R.CLK_STATUS_ON_FRC k = s.rd R.CLK_STATUS_ON_FRC k := by
  rw [State.doReturn, (beginSwitch_frame _ _ _ _).rd (by decide)]
  exact rd_foldl_of_notMem (fun u x hx => State.rd_wr_idx u hx (by decide) _) hk s

theorem mayReturn_lt {s : State} {d : Nat} (h : s.mayReturn d = true) : d < 6 := by
  simp only [State.mayReturn, Bool.and_eq_true, decide_eq_true_eq] at h
  omega

theorem frcBad_raised (s : State) : Raised 0x36C 1 s ((s.wr R.CLK_STATUS_FRC_BAD 0 1).fault 0x0F 0 1) :=
  .afterAt (State.wr_kinds s R.CLK_STATUS_FRC_BAD 0 1) (by decide)
    (State.fault_raised _ rfl (srcPresent_domain _ (by decide : 0 < 6)) (by decide))

theorem frcBad_sets (s : State) : ((s.wr R.CLK_STATUS_FRC_BAD 0 1).fault 0x0F 0 1).bit R.CLK_STATUS_FRC_BAD 0 = true
    ∧ ((s.wr R.CLK_STATUS_FRC_BAD 0 1).fault 0x0F 0 1).eligible 3 = false := by
  have hbad : ((s.wr R.CLK_STATUS_FRC_BAD 0 1).fault 0x0F 0 1).bit R.CLK_STATUS_FRC_BAD 0 = true := by
    rw [(fault_frame _ _ _ _).bitElem (by decide) (by decide),
      State.bit_wr_below Nat.one_pos _ _ (by decide) le_rfl rfl, if_pos rfl]
    rfl
  exact ⟨hbad, by rw [State.eligible, hbad]; rfl⟩

/-- Settles O32. -/
theorem domainsFallBackAndReturn : Obligations.DomainsFallBackAndReturn := by
  unfold Obligations.DomainsFallBackAndReturn
  refine ⟨?_, ?_, ?_, ?_, ?_, ?_, ?_, ?_, ?_, ?_, ?_, ?_, ?_⟩
  · intro s d hd hon hmon hbad
    have hall := fallBack_frame s d true
    refine .of_go (t := (s.goFrc (clockGroup d) true).fault 0x0F d 1)
      ((exec_clockEdgeLost s d).trans (by rw [fallBack_of_good hd hon hmon hbad]))
      ⟨fun k hk => ?_, fun k hk => (Tame.refl false _).fault.out.mem (mem_out_goFrc s _ _ hk), ?_, fallBack_raised hd, hall.kinds,
        hall.onlyFault⟩
    · have hlt := mem_clockGroup_lt hd hk
      rw [fault_onFrc _ _ _ _ hlt, (fault_frame _ _ _ _).bit (by decide), (fault_frame _ _ _ _).bit (by decide),
        (fault_frame _ _ _ _).bit (by decide)]
      exact goFrc_sets hk hlt
    · rw [(fault_frame _ _ _ _).rd (by decide), goFrc_count]
  · intro s d hd hon hmon hbad
    have hall := fallBack_frame s d false
    refine .of_go (t := (s.goFrc (clockGroup d) false).fault 0x0F d 1)
      ((exec_frequencyFailure s d).trans (by rw [fallBack_of_good hd hon hmon hbad]))
      ⟨fun k hk => ?_, fallBack_raised hd, hall.kinds, hall.onlyFault⟩
    have hlt := mem_clockGroup_lt hd hk
    rw [fault_onFrc _ _ _ _ hlt, (fault_frame _ _ _ _).bit (by decide), (fault_frame _ _ _ _).bit (by decide)]
    obtain ⟨hfrc, _, hsw, hforced⟩ := goFrc_sets (s := s) (forced := false) hk hlt
    exact ⟨hfrc, hsw, hforced⟩
  · intro s d hd hon hmon hbad
    have hall : Frame (.fault faultFields) s (s.fault 0x0F d 1) := (Frame.refl s).fault
    exact .of_go (t := s.fault 0x0F d 1) ((exec_clockEdgeLost s d).trans (by rw [fallBack_of_frcBad hd hon hmon hbad]))
      ⟨State.fault_raised _ rfl (srcPresent_domain _ hd) (by decide), hall.kinds, hall.onlyFault⟩
  · intro s href
    have hall : Frame (.fault (faultFields ++ [R.CLK_STATUS_FRC_BAD])) s ((s.wr R.CLK_STATUS_FRC_BAD 0 1).fault 0x0F 0 1) :=
      (Frame.refl s).wr.fault
    obtain ⟨hbad, hel⟩ := frcBad_sets s
    exact .of_go (t := (s.wr R.CLK_STATUS_FRC_BAD 0 1).fault 0x0F 0 1) ((exec_frcBad s).trans (by rw [if_neg href]))
      ⟨hbad, hel, frcBad_raised s, hall.kinds, hall.onlyFault⟩
  · intro s
    refine .of_go (t := s.wr R.CLK_STATUS_SLOW_BAD 0 1) rfl ⟨?_, by simp, by simp⟩
    rw [State.bit_wr_below Nat.one_pos _ _ (by decide) le_rfl rfl, if_pos rfl]
    rfl
  · intro s d hauto hmay
    have hall : Frame (.regs [R.CLK_STATUS_ON_FRC, H.CLK_SW, H.CLK_SW_FORCED, H.CLK_SW_COARSE]) s (s.doReturn d) :=
      (Frame.refl s).doReturn
    have hd := mayReturn_lt hmay
    refine .of_go (t := s.doReturn d) ((exec_domainReturn s d).trans (by rw [hauto, hmay]; rfl))
      ⟨fun k hk => ?_, fun k hk => doReturn_other s hk, hall.kinds, hall.onlyRegs⟩
    obtain ⟨hfrc, hsw⟩ := doReturn_sets (s := s) hd hk
    obtain ⟨_, hforced, hcoarse⟩ := beginSwitch_sets (s := (clockGroup d).foldl (fun t k => t.wr R.CLK_STATUS_ON_FRC k 0) s)
      (forced := false) (coarse := !s.bit R.CLK_STATUS_SLOW_BAD 0) hk (mem_clockGroup_lt hd hk)
    exact ⟨hfrc, hsw, hforced, hcoarse⟩
  · intro s d ns hd hsw
    have hall : Frame (.fault [H.CLK_SW, H.CLK_SW_FORCED, H.CLK_SW_COARSE, R.CLK_LOST_FORCED, R.CLK_LOST_DOMAIN, R.CLK_LOST_COARSE,
        R.CLK_LOST_NS, R.TALLY_DROPPED_DROPPED]) s
        (((s.endSwitch d).recordLost d ns (s.bit H.CLK_SW_FORCED d) (s.bit H.CLK_SW_COARSE d)).tally 5 1 1
          (d + 8 * b2n (s.bit H.CLK_SW_FORCED d) + 16 * b2n (s.bit H.CLK_SW_COARSE d)) ns) :=
      (((endSwitch_frame s d).mono (by decide)).andThen (recordLost_frame _ _ _ _ _)).tally
    have htally (u : State) (a b : Nat) : Frame (.fault [R.TALLY_DROPPED_DROPPED]) u (u.tally 5 1 1 a b) := (Frame.refl u).tally
    refine .of_go (t := ((s.endSwitch d).recordLost d ns (s.bit H.CLK_SW_FORCED d) (s.bit H.CLK_SW_COARSE d)).tally 5 1 1
        (d + 8 * b2n (s.bit H.CLK_SW_FORCED d) + 16 * b2n (s.bit H.CLK_SW_COARSE d)) ns)
      ((exec_domainSwitchDone s d ns).trans (by rw [decide_eq_true hd, hsw]; rfl)) ⟨fun k hk => ?_, ?_⟩
    · rw [(htally _ _ _).bit (by decide), (recordLost_frame _ _ _ _ _).bit (by decide), endSwitch_sets s d hk (mem_clockGroup_lt hd hk)]
    · rw [(htally _ _ _).bit (by decide), (htally _ _ _).bit (by decide), (htally _ _ _).rd (by decide), (htally _ _ _).rd (by decide)]
      obtain ⟨hforced, hdom, hcoarse, hns⟩ := recordLost_sets (s.endSwitch d) d ns hd (s.bit H.CLK_SW_FORCED d) (s.bit H.CLK_SW_COARSE d)
      exact ⟨hforced, hdom, hcoarse, hns, hall.kinds, hall.onlyFault⟩
  · intro s d hd hsw
    have hall : Frame (.regs [H.CLK_SW_FORCED, R.CLK_LOST_FORCED]) s
        (((clockGroup d).foldl (fun t d => t.wr H.CLK_SW_FORCED d 1) s).wr R.CLK_LOST_FORCED 0 1) :=
      ((Frame.refl s).foldl fun _ _ hu => hu.wr).wr
    refine .of_go (t := ((clockGroup d).foldl (fun t d => t.wr H.CLK_SW_FORCED d 1) s).wr R.CLK_LOST_FORCED 0 1)
      ((exec_forcedStop s d).trans (by rw [decide_eq_true hd, hsw]; rfl)) ⟨fun k hk => ?_, ?_, hall.kinds, hall.onlyRegs⟩
    · have hlt := mem_clockGroup_lt hd hk
      rw [State.bit_wr_apart _ (by decide)]
      refine bit_foldl_of_mem (fun u => ?_) (fun u x hx => State.rd_wr_idx u hx (by decide) _) hk s
      rw [State.bit_wr_below hlt _ _ (by decide) (by decide) rfl, if_pos rfl]
      rfl
    · rw [State.bit_wr_below Nat.one_pos _ _ (by decide) le_rfl rfl, if_pos rfl]
      rfl
  · intro s d h
    exact ⟨congrArg State.go (fallBack_of_stays h), congrArg State.go (fallBack_of_stays h)⟩
  · intro s d hd hon hmon hbad
    have hall : Frame (.fault faultFields) s (s.fault 0x0F d 1) := (Frame.refl s).fault
    exact .of_go (t := s.fault 0x0F d 1) ((exec_frequencyFailure s d).trans (by rw [fallBack_of_frcBad hd hon hmon hbad]))
      ⟨State.fault_raised _ rfl (srcPresent_domain _ hd) (by decide), hall.kinds, hall.onlyFault⟩
  · intro s k href hk he hmin
    have hall : Frame (.fault (faultFields ++ [R.CLK_STATUS_FRC_BAD])) s ((s.wr R.CLK_STATUS_FRC_BAD 0 1).fault 0x0F 0 1) :=
      (Frame.refl s).wr.fault
    have hkeep {j : Nat} (hj : j < 3) : ((s.wr R.CLK_STATUS_FRC_BAD 0 1).fault 0x0F 0 1).eligible j = s.eligible j := by
      have hfault {f : Fld} {i : Nat} (hi : i < f.cnt) (hf : (faultFields.all fun g => g.apart (f.elem i)) = true) (u : State) :
          (u.fault 0x0F 0 1).bit f i = u.bit f i := (fault_frame u _ _ _).bitElem hi hf
      interval_cases j <;> simp (disch := decide) only [State.eligible, hfault, State.bit_wr_apart]
    have htake := takeHighest_of_first (s := (s.wr R.CLK_STATUS_FRC_BAD 0 1).fault 0x0F 0 1) (k := k) (by omega)
      ((hkeep hk).trans he) fun j hj => (hkeep (hj.trans hk)).trans (hmin j hj)
    have href' : ((s.wr R.CLK_STATUS_FRC_BAD 0 1).fault 0x0F 0 1).rd R.CLK_STATUS_REF 0 = 3 := by
      rw [(fault_frame _ _ _ _).rdElem (by decide) (by decide), State.rd_wr_apart _ (by decide), href]
    obtain ⟨hr, hhold, _⟩ := switchRef_sets (r := k) (by rw [href']; omega) (by omega)
    refine .of_go (t := ((s.wr R.CLK_STATUS_FRC_BAD 0 1).fault 0x0F 0 1).switchRef k)
      ((exec_frcBad s).trans (by rw [if_pos href, htake])) ⟨?_, hr, hhold, (frcBad_raised s).beforeAt (switchRef_frame _ _).kinds (by decide)⟩
    rw [(switchRef_frame _ _).bit (by decide), (frcBad_sets s).1]
  · intro s d h
    rw [exec_domainReturn, if_neg ?_]
    · rfl
    · obtain h | h := h <;> simp [h]
  · intro s d ns h
    have hno : ¬(decide (d < 6) && s.bit H.CLK_SW d) = true := by
      obtain h | h := h
      · simp [h]
      · simp [h]
    rw [exec_domainSwitchDone, exec_forcedStop, if_neg hno, if_neg hno]
    exact ⟨rfl, rfl⟩

end Sys2Proof.Machine
end

section
/-! The frame boundary: the counter, the counts of time, and staged settings (R58, R80, R81, R542, R597). -/

set_option Elab.async false

namespace Sys2Proof.Machine

/-! ## The boundary in its parts -/

section
variable (s : State) (n : Nat) (gf : Bool)

/-- Up to the counts of time: the frame still due is formed, and the counter moves. -/
def State.counted : State :=
  s.settleForm.nextFrame.when (s.bit H.TOP_FRAME_STARTED 0 && n != 500) fun t => t.fallBack 0 false

/-- After the counts of time, before the commits. -/
def State.twinBw : State := s.twinStep.when (s.twinStep.clocked 3) fun t => t.bwBoundary t.frame

/-- After the commits. -/
def State.latched : State := s.resetsDue.showRun.latchInputs.openFrame.endStep

theorem boundary_eq : s.boundary n gf = ((s.counted n).timeStep.twinBw.commits gf).latched := rfl

/-- The commits before step 2. -/
def State.beforeStep2 (acts : List StagedAct) : State := (s.enClearStep acts).commitDue

/-- The commits after step 2; `old` is the state before it. -/
def State.afterStep2 (old : State) (acts : List StagedAct) (ended : List Nat) : State :=
  ((((((s.fencesStand acts).fitHyst.configStep old).clampPackage).capStep acts).clampPackage.thermalDividers.modeStep acts
    ended).applyOutputs).handOver gf

theorem commits_eq : s.commits gf = ((s.takeStaged.1.foldl State.step2 (s.takeStaged.2.beforeStep2 s.takeStaged.1)).afterStep2 gf
    (s.takeStaged.2.beforeStep2 s.takeStaged.1) s.takeStaged.1 (s.touched H.LE_REL_FAULT)) := rfl

end

/-! ## What the parts reach -/

namespace Frame

def countedReach : Reach := settleFormReach.and <| nextFrameReach.and fallBackReach

def twinBwReach : Reach := twinStepReach.and bwBoundaryReach

def beforeStep2Reach : Reach := enClearStepReach.and commitDueReach

/-- Reached by the modes at a boundary that only stores settings. -/
def holdsReach : Reach := holdStepReach.and powerGoodsReach

def afterStep2Reach : Reach := fencesStandReach.and <| fitHystReach.and <| configStepReach.and <| clampPackageReach.and <|
  capStepReach.and <| thermalDividersReach.and <| holdsReach.and <| applyOutputsReach.and handOverReach

def latchedReach : Reach := showRunReach.and <| latchInputsReach.and <| openFrameReach.and <| endStepReach.and ⟨[], [H.RST_DUE]⟩

end Frame

section
variable (s : State) (n : Nat) (gf : Bool)

theorem counted_frame : Frame Frame.countedReach s (s.counted n) := ((Frame.refl s).settleForm.nextFrame).when fun _ hu => hu.fallBack

theorem twinBw_frame : Frame Frame.twinBwReach s s.twinBw := ((Frame.refl s).twinStep).when fun _ hu => hu.bwBoundary

theorem beforeStep2_frame (acts : List StagedAct) : Frame Frame.beforeStep2Reach s (s.beforeStep2 acts) :=
  (Frame.refl s).enClearStep.commitDue

/-- A change of a protection setting. -/
def isField (a : StagedAct) : Bool := match a with | .field _ _ _ => true | _ => false

theorem foldl_step6_of_fields {acts : List StagedAct} (h : acts.all isField = true) (modes : Bool) :
    acts.foldl (State.step6 modes) s = s := by
  induction acts with
  | nil => rfl
  | cons a acts ih =>
    simp only [List.all_cons, Bool.and_eq_true] at h
    obtain ⟨ha, hacts⟩ := h
    cases a with
    | field f i v => exact ih hacts
    | _ => exact absurd ha Bool.false_ne_true

theorem modeStep_frame {acts : List StagedAct} (h : acts.all isField = true) (ended : List Nat) :
    Frame Frame.holdsReach s (s.modeStep acts ended) := by
  rw [State.modeStep, foldl_step6_of_fields s h, foldl_step6_of_fields s h]
  exact ((Frame.refl s).foldl fun _ _ hu => hu.when fun _ hv => hv.holdStep).powerGoods

theorem afterStep2_frame (old : State) {acts : List StagedAct} (h : acts.all isField = true) (ended : List Nat) :
    Frame Frame.afterStep2Reach s (s.afterStep2 gf old acts ended) :=
  ((((Frame.refl s).fencesStand.fitHyst.configStep.clampPackage.capStep.clampPackage.thermalDividers).andThen
    (modeStep_frame _ h ended)).applyOutputs).handOver

theorem resetsDue_of_none {s : State} (h : s.rd H.RST_DUE 0 = 0) : s.resetsDue = s.wr H.RST_DUE 0 0 := by
  rw [State.resetsDue, h]
  rfl

theorem latched_frame {s : State} (h : s.rd H.RST_DUE 0 = 0) : Frame Frame.latchedReach s s.latched := by
  rw [State.latched, resetsDue_of_none h]
  exact (Frame.refl s).wr.showRun.latchInputs.openFrame.endStep

end

/-! ## The changes that a boundary takes -/

/-- The changes not due wait one boundary less. -/
def waitOn (l : List Staged) : List Staged := (l.filter fun x => x.skip != 0).map fun x => { x with skip := x.skip - 1 }

theorem takeStaged_acts (s : State) : s.takeStaged.1 = (s.staged.filter fun x => x.skip == 0).map fun x => x.act := rfl

theorem takeStaged_state (s : State) : s.takeStaged.2 = { s with staged := waitOn s.staged } := rfl

theorem takeStaged_none {s : State} (h : ∀ x ∈ s.staged, x.skip ≠ 0) : s.takeStaged.1 = [] := by
  rw [takeStaged_acts, List.filter_eq_nil_iff.2 fun x hx => by simpa using h x hx, List.map_nil]

/-! ## Before and after step 2 -/

/-- The state that step 2 of a boundary starts from. -/
def State.atStep2 (s : State) (n : Nat) (acts : List StagedAct) : State :=
  (s.counted n).timeStep.twinBw.takeStaged.2.beforeStep2 acts

namespace Frame

/-- From the counts of time to step 2. -/
def toStep2Reach : Reach := twinBwReach.and <| beforeStep2Reach.and ⟨[.staged], []⟩

/-- Up to step 2, the counts of time left out. -/
def reachesStep2 : Reach := countedReach.and <| timeStepReach.and toStep2Reach

/-- From step 2 to the end. -/
def fromStep2Reach : Reach := afterStep2Reach.and <| latchedReach.and recordsTogetherReach

end Frame

section
variable {s : State} {n : Nat} {gf : Bool} {acts : List StagedAct}

theorem counted_staged (s : State) (n : Nat) : (s.counted n).timeStep.twinBw.staged = s.staged := by
  have h : Frame (Frame.countedReach.and <| Frame.timeStepReach.and Frame.twinBwReach) s (s.counted n).timeStep.twinBw :=
    (((counted_frame s n).mono (by decide +kernel)).timeStep).andThen (twinBw_frame _)
  exact h.staged (by decide +kernel)

theorem toStep2_frame (u : State) (acts : List StagedAct) :
    Frame Frame.toStep2Reach u (u.twinBw.takeStaged.2.beforeStep2 acts) :=
  ((twinBw_frame u).mono (by decide +kernel)).setStaged.andThen (beforeStep2_frame _ acts)

theorem atStep2_frame (s : State) (n : Nat) (acts : List StagedAct) : Frame Frame.reachesStep2 s (s.atStep2 n acts) :=
  (((counted_frame s n).mono (by decide +kernel)).timeStep).andThen (toStep2_frame _ acts)

/-- At step 2 the changes not due wait one boundary less. -/
theorem atStep2_staged (s : State) (n : Nat) (acts : List StagedAct) : (s.atStep2 n acts).staged = waitOn s.staged := by
  rw [State.atStep2, (beforeStep2_frame _ acts).staged (by decide +kernel), takeStaged_state, counted_staged]

/-- A boundary that only stores settings, and asserts no reset: from step 2 on, what its reach tells. -/
theorem boundary_from_step2 (hdue : s.rd H.RST_DUE 0 = 0) (hacts : ((s.staged.filter fun x => x.skip == 0).map fun x => x.act) = acts)
    (hf : acts.all isField = true) (hkeep : (acts.foldl State.step2 (s.atStep2 n acts)).rd H.RST_DUE 0 = (s.atStep2 n acts).rd H.RST_DUE 0) :
    Frame Frame.fromStep2Reach (acts.foldl State.step2 (s.atStep2 n acts)) (s.recordsTogether (s.boundary n gf)) := by
  have htake : (s.counted n).timeStep.twinBw.takeStaged.1 = acts := by rw [takeStaged_acts, counted_staged, hacts]
  have hafter := afterStep2_frame (acts.foldl State.step2 (s.atStep2 n acts)) gf (s.atStep2 n acts) hf
    ((s.counted n).timeStep.twinBw.touched H.LE_REL_FAULT)
  rw [boundary_eq, commits_eq, htake]
  refine (((hafter.mono (by decide +kernel)).andThen (latched_frame ?_))).recordsTogether
  rw [hafter.rd (by decide +kernel), hkeep, (atStep2_frame s n acts).rd (by decide +kernel), hdue]

/-- A boundary at which no change is due. -/
theorem boundary_of_none (hdue : s.rd H.RST_DUE 0 = 0) (hnone : ∀ x ∈ s.staged, x.skip ≠ 0) :
    Frame Frame.fromStep2Reach (s.atStep2 n []) (s.recordsTogether (s.boundary n gf)) :=
  boundary_from_step2 hdue (takeStaged_none hnone) rfl rfl

end

/-! ## The counts -/

theorem nextFrame_frame (s : State) : Frame (.regs [R.FRAME_COUNT, H.TOP_FRAME_STARTED]) s s.nextFrame := (Frame.refl s).nextFrame

theorem settleForm_frame (s : State) : Frame Frame.settleFormReach s s.settleForm := (Frame.refl s).settleForm

theorem fallBackWhen_frame (s : State) (c : Bool) : Frame Frame.fallBackReach s (s.when c fun t => t.fallBack 0 false) :=
  (Frame.refl s).when fun _ hu => hu.fallBack

theorem counted_of_started {s : State} (h : s.bit H.TOP_FRAME_STARTED 0 = true) (n : Nat) :
    (s.counted n).frame = (s.frame + 1) % 2 ^ 64 ∧ (s.counted n).bit H.TOP_FRAME_STARTED 0 = true := by
  have hst : s.settleForm.bit H.TOP_FRAME_STARTED 0 = true := by rw [(settleForm_frame s).bit (by decide +kernel), h]
  rw [State.counted, State.frame, (fallBackWhen_frame _ _).rd (by decide +kernel), (fallBackWhen_frame _ _).bit (by decide +kernel),
    State.nextFrame, if_pos hst, State.rd_wr_zero _ _ (by decide) le_rfl, if_pos rfl, State.bit_wr_apart _ (by decide), hst,
    State.frame, (settleForm_frame s).rd (by decide +kernel)]
  exact ⟨rfl, rfl⟩

theorem counted_of_first {s : State} (h : s.bit H.TOP_FRAME_STARTED 0 = false) (n : Nat) :
    (s.counted n).frame = s.frame ∧ (s.counted n).bit H.TOP_FRAME_STARTED 0 = true := by
  have hst : s.settleForm.bit H.TOP_FRAME_STARTED 0 = false := by rw [(settleForm_frame s).bit (by decide +kernel), h]
  rw [State.counted, State.frame, (fallBackWhen_frame _ _).rd (by decide +kernel), (fallBackWhen_frame _ _).bit (by decide +kernel),
    State.nextFrame, hst, if_neg Bool.false_ne_true, State.rd_wr_apart _ (by decide),
    State.bit_wr_below Nat.one_pos _ _ (by decide) le_rfl rfl, if_pos rfl, (settleForm_frame s).rd (by decide +kernel)]
  exact ⟨rfl, rfl⟩

/-- The window's frames go down by one while it is open. -/
theorem timeStep_warden (s : State) : s.timeStep.rd R.WARDEN_REMAIN 0
    = if s.bit R.WARDEN_OPEN 0 = true then s.rd R.WARDEN_REMAIN 0 - 1 else s.rd R.WARDEN_REMAIN 0 := by
  have hlt : s.rd R.WARDEN_REMAIN 0 - 1 < 2 ^ R.WARDEN_REMAIN.wid := (Nat.sub_le _ _).trans_lt (State.rd_lt s R.WARDEN_REMAIN 0)
  have hticks (u : State) (b : Bool) : Frame Frame.faultTicksReach u (u.faultTicks b) := (Frame.refl u).faultTicks
  rw [State.timeStep, (hticks _ _).rd (by decide +kernel), State.rd_when, State.rd_wr_zero _ _ (by decide) le_rfl, if_pos rfl,
    Nat.mod_eq_of_lt hlt, State.rd_when, State.rd_inc_apart _ (by decide), State.rd_wr_apart _ (by decide), ite_self]

/-- The heartbeat ages by the millisecond. -/
theorem timeStep_heartbeat (s : State) : s.timeStep.rd R.HOST_STAT_HB_AGE 0
    = if s.msEnds = true then satAdd R.HOST_STAT_HB_AGE.wid (s.rd R.HOST_STAT_HB_AGE 0) 1 else s.rd R.HOST_STAT_HB_AGE 0 := by
  have hticks (u : State) (b : Bool) : Frame Frame.faultTicksReach u (u.faultTicks b) := (Frame.refl u).faultTicks
  rw [State.timeStep, (hticks _ _).rd (by decide +kernel), State.rd_when, State.rd_wr_apart _ (by decide), ite_self, State.rd_when,
    State.rd_inc_zero _ _ (by decide) le_rfl, if_pos rfl, State.rd_wr_apart _ (by decide)]

theorem timeStep_frame (s : State) : Frame Frame.timeStepReach s s.timeStep := (Frame.refl s).timeStep

/-- Settles O54. -/
theorem boundaryCountsFramesAndCommits : Obligations.BoundaryCountsFramesAndCommits := by
  unfold Obligations.BoundaryCountsFramesAndCommits
  refine ⟨?_, ?_, ?_, ?_, ?_, ?_, ?_⟩
  · intro s n gf hseq
    change execFrameBoundary _ s = _
    rw [execFrameBoundary, if_pos hseq]
    rfl
  · intro s n gf hseq hst hdue hnone
    obtain ⟨hframe, hstarted⟩ := counted_of_started hst n
    have hto := toStep2_frame (s.counted n).timeStep []
    have hend := boundary_of_none (n := n) (gf := gf) hdue hnone
    refine ⟨_, exec_frameBoundary _ hseq, ?_, ?_, ?_, ?_, ?_⟩
    · rw [State.frame, hend.rd (by decide +kernel), State.atStep2, hto.rd (by decide +kernel),
        (timeStep_frame _).rd (by decide +kernel)]
      exact hframe
    · rw [hend.bit (by decide +kernel), State.atStep2, hto.bit (by decide +kernel), (timeStep_frame _).bit (by decide +kernel), hstarted]
    · rw [hend.rd (by decide +kernel), State.atStep2, hto.rd (by decide +kernel), timeStep_warden,
        (counted_frame s n).rd (by decide +kernel), (counted_frame s n).bit (by decide +kernel)]
    · rw [hend.ident (by decide +kernel), (atStep2_frame s n []).ident (by decide +kernel)]
    · rw [show (s.recordsTogether (s.boundary n gf)).pending = (s.atStep2 n []).pending from hend.parts .pending (by decide +kernel)]
      exact (atStep2_frame s n []).parts .pending (by decide +kernel)
  · intro s n gf hseq hst hdue hnone
    obtain ⟨hframe, hstarted⟩ := counted_of_first hst n
    have hto := toStep2_frame (s.counted n).timeStep []
    have hend := boundary_of_none (n := n) (gf := gf) hdue hnone
    refine ⟨_, exec_frameBoundary _ hseq, ?_, ?_⟩
    · rw [State.frame, hend.rd (by decide +kernel), State.atStep2, hto.rd (by decide +kernel),
        (timeStep_frame _).rd (by decide +kernel)]
      exact hframe
    · rw [hend.bit (by decide +kernel), State.atStep2, hto.bit (by decide +kernel), (timeStep_frame _).bit (by decide +kernel), hstarted]
  · intro s gf hseq hst hdue hnone
    have hto := toStep2_frame (s.counted 500).timeStep []
    have hend := boundary_of_none (n := 500) (gf := gf) hdue hnone
    have hcount := counted_frame s 500
    have hms : (s.counted 500).msEnds = s.msEnds := by
      have hcnt : s.counted 500 = s.settleForm.nextFrame := by rw [State.counted, bne_self_eq_false, Bool.and_false, State.when_false]
      have hfrc : (s.counted 500).bit R.CLK_STATUS_ON_FRC 0 = s.bit R.CLK_STATUS_ON_FRC 0 := by
        rw [hcnt, (nextFrame_frame _).bit (by decide), (settleForm_frame s).bitElem (by decide) (by decide +kernel)]
      rw [State.msEnds, State.msFrames, State.slowFrames, hfrc, hcount.rd (by decide +kernel)]
      rfl
    refine ⟨_, exec_frameBoundary _ hseq, (hend.rd (by decide +kernel) 0).trans ?_⟩
    rw [State.atStep2, hto.rd (by decide +kernel), timeStep_heartbeat, hms, hcount.rd (by decide +kernel)]
  · intro s n v gf hseq hdue hst hv
    have hend := boundary_from_step2 (n := n) (gf := gf) (acts := [.field R.TWIN_CTRL_CLEAN_FRAMES 0 v]) hdue (by rw [hst]; rfl) rfl
      (State.rd_wr_apart _ (by decide) ..)
    refine ⟨_, exec_frameBoundary _ hseq, (hend.rd (by decide +kernel) 0).trans ?_⟩
    exact (State.rd_wr_zero _ _ (by decide) le_rfl ..).trans ((if_pos rfl).trans (Nat.mod_eq_of_lt (show max 64 v < 2 ^ 16 by omega)))
  · intro s n v gf hseq hdue hst hv
    have hend := boundary_from_step2 (n := n) (gf := gf) (acts := [.field R.TH_CTRL_XCHK_DEV 0 v]) hdue (by rw [hst]; rfl) rfl
      (State.rd_wr_apart _ (by decide) ..)
    refine ⟨_, exec_frameBoundary _ hseq, (hend.rd (by decide +kernel) 0).trans ?_⟩
    exact (State.rd_wr_zero _ _ (by decide) le_rfl ..).trans ((if_pos rfl).trans (Nat.mod_eq_of_lt (show min 30 v < 2 ^ 8 by omega)))
  · intro s n v gf hseq hdue hst
    have hend := boundary_of_none (n := n) (gf := gf) hdue (by simp [hst])
    refine ⟨_, exec_frameBoundary _ hseq, ?_, ?_⟩
    · rw [hend.rd (by decide +kernel), (atStep2_frame s n []).rd (by decide +kernel)]
    · rw [hend.staged (by decide +kernel), atStep2_staged, hst]
      exact List.mem_singleton.2 rfl

end Sys2Proof.Machine
end

section
/-! V_ref moves (R223, R249, R508). -/

set_option Elab.async false

namespace Sys2Proof.Machine

/-- A fold that visits an element once: `I` holds until it is visited, `Q` from then on. -/
theorem foldl_once {α β : Type} {l : List α} (hnd : l.Nodup) {c : α} (hc : c ∈ l) {g : β → α → β} {I Q : β → Prop}
    (hI : ∀ u x, x ≠ c → I u → I (g u x)) (hQ : ∀ u, I u → Q (g u c)) (hk : ∀ u x, x ≠ c → Q u → Q (g u x)) (s : β) (hs : I s) :
    Q (l.foldl g s) := by
  have keep (P : β → Prop) (hP : ∀ u x, x ≠ c → P u → P (g u x)) (m : List α) (hm : c ∉ m) (u : β) (hu : P u) : P (m.foldl g u) := by
    induction m generalizing u with
    | nil => exact hu
    | cons x m ih =>
      rw [List.mem_cons, not_or] at hm
      exact ih hm.2 _ (hP u x (Ne.symm hm.1) hu)
  obtain ⟨a, b, rfl⟩ := List.append_of_mem hc
  rw [List.nodup_append, List.nodup_cons] at hnd
  obtain ⟨-, ⟨hb, -⟩, hab⟩ := hnd
  rw [List.foldl_append, List.foldl_cons]
  exact keep Q hk b hb _ (hQ _ (keep I hI a (fun h => hab c h c List.mem_cons_self rfl) s hs))

theorem rails_nodup (s : State) : s.rails.Nodup := List.nodup_range.filter _

theorem railOn_congr {s t : State} (hm : ∀ j, t.rd R.PD_RAIL_MASK_MASK j = s.rd R.PD_RAIL_MASK_MASK j)
    (hs : ∀ j, t.rd R.PD_PH_STAT_STATE j = s.rd R.PD_PH_STAT_STATE j) (r : Nat) : t.railOn r = s.railOn r := by
  simp only [State.railOn, State.phasesOf, hm, hs]

/-! ## One rail's step -/

/-- What the V_ref of a rail moves. -/
def vrefFields : List Fld := [R.PD_RAIL_VREF_VREF, R.PD_RAIL_STAT_RAMPING, H.PD_RAMP_V, H.PD_SKIP_END]

section
variable {s : State} {r : Nat}

theorem stepVref_frame (s : State) (r : Nat) : Frame (.regs vrefFields) s (s.stepVref r) := (Frame.refl s).stepVref

theorem vrefStep_frame (s : State) (l : List Nat) : Frame (.regs vrefFields) s (l.foldl State.stepVref s) :=
  (Frame.refl s).foldl fun _ _ hu => hu.stepVref

theorem stepVref_of_off (h : s.railOn r = false) : s.stepVref r = s := by
  rw [State.stepVref, h]
  rfl

/-- Another rail's step leaves what belongs to a rail. -/
theorem stepVref_other {f : Fld} (hf : f ∈ vrefFields) {x : Nat} (h : x ≠ r) : (s.stepVref x).rd f r = s.rd f r := by
  have hdiff : ∀ g ∈ vrefFields, ∀ f ∈ vrefFields, 0 < f.stride ∧ (g = f ∨ g.apart f = true) := by decide
  have hwr (u : State) {g : Fld} (hg : g ∈ vrefFields) (v : Nat) : (u.wr g x v).rd f r = u.rd f r := by
    obtain ⟨hstride, rfl | hap⟩ := hdiff g hg f hf
    · exact u.rd_wr_idx h hstride v
    · exact u.rd_wr_apart hap x r v
  unfold State.stepVref State.endSkip
  dsimp only
  split
  · rfl
  split
  · split
    · rw [hwr _ (by simp [vrefFields]), hwr _ (by simp [vrefFields])]
    · rw [hwr _ (by simp [vrefFields]), hwr _ (by simp [vrefFields])]
  split
  · rw [hwr _ (by simp [vrefFields])]
  split
  · rw [State.rd_when, hwr _ (by simp [vrefFields]), hwr _ (by simp [vrefFields]), ite_self]
  · rfl

theorem stepVref_moves (hr : r < 14) (hon : s.railOn r = true) (hramp : s.bit R.PD_RAIL_STAT_RAMPING r = false) :
    (s.stepVref r).rd R.PD_RAIL_VREF_VREF r
      = if s.rd R.PD_RAIL_VREF_VREF r < s.rd R.PD_RAIL_VREF_TARGET r then s.rd R.PD_RAIL_VREF_VREF r + 1
        else if s.rd R.PD_RAIL_VREF_TARGET r < s.rd R.PD_RAIL_VREF_VREF r then s.rd R.PD_RAIL_VREF_VREF r - 1
        else s.rd R.PD_RAIL_VREF_VREF r := by
  have hgoal : s.rd R.PD_RAIL_VREF_TARGET r < 512 := s.rd_lt _ _
  have hcode : s.rd R.PD_RAIL_VREF_VREF r < 512 := s.rd_lt _ _
  rw [State.stepVref, hon, hramp]
  simp only [Bool.not_true, Bool.false_eq_true, if_false]
  split
  · rw [State.rd_wr_below hr _ _ (by decide) (by decide), if_pos rfl]
    exact Nat.mod_eq_of_lt (show _ < 512 by omega)
  split
  · rw [State.endSkip, State.rd_when, State.rd_wr_apart _ (by decide), ite_self, State.rd_wr_below hr _ _ (by decide) (by decide),
      if_pos rfl]
    exact Nat.mod_eq_of_lt (show _ < 512 by omega)
  · rfl

theorem stepVref_arrives (hr : r < 14) (hon : s.railOn r = true) (hramp : s.bit R.PD_RAIL_STAT_RAMPING r = true)
    (h : 1800000 + 10000 * s.rd R.PD_SETPOINT_CODE (32 * r) ≤ s.rd H.PD_RAMP_V r + s.rd H.PD_RAMP_RATE r) :
    (s.stepVref r).rd R.PD_RAIL_VREF_VREF r = s.rd R.PD_SETPOINT_CODE (32 * r) ∧ (s.stepVref r).rd R.PD_RAIL_STAT_RAMPING r = 0 := by
  have hgoal : s.rd R.PD_SETPOINT_CODE (32 * r) < 512 := s.rd_lt _ _
  rw [State.stepVref, hon, hramp]
  simp only [Bool.not_true, Bool.false_eq_true, if_false, if_true, if_pos h]
  rw [State.rd_wr_below hr _ _ (by decide) (by decide), if_pos rfl, State.rd_wr_apart _ (by decide),
    State.rd_wr_below hr _ _ (by decide) (by decide), if_pos rfl]
  exact ⟨Nat.mod_eq_of_lt hgoal, rfl⟩

theorem stepVref_ramps (hr : r < 14) (hon : s.railOn r = true) (hramp : s.bit R.PD_RAIL_STAT_RAMPING r = true)
    (h : s.rd H.PD_RAMP_V r + s.rd H.PD_RAMP_RATE r < 1800000 + 10000 * s.rd R.PD_SETPOINT_CODE (32 * r)) :
    (s.stepVref r).rd H.PD_RAMP_V r = s.rd H.PD_RAMP_V r + s.rd H.PD_RAMP_RATE r
      ∧ (s.stepVref r).rd R.PD_RAIL_STAT_RAMPING r = s.rd R.PD_RAIL_STAT_RAMPING r := by
  have hgoal : s.rd R.PD_SETPOINT_CODE (32 * r) < 512 := s.rd_lt _ _
  rw [State.stepVref, hon, hramp]
  simp only [Bool.not_true, Bool.false_eq_true, if_false, if_true, if_neg (not_le.2 h)]
  rw [State.rd_wr_apart _ (by decide), State.rd_wr_below hr _ _ (by decide) (by decide), if_pos rfl, State.rd_wr_apart _ (by decide),
    State.rd_wr_apart _ (by decide)]
  exact ⟨Nat.mod_eq_of_lt (show _ < 2 ^ 24 by omega), rfl⟩

/-! ## Every rail's step -/

/-- A rail's state before its own step. -/
def VrefBefore (s : State) (r : Nat) (u : State) : Prop := Frame (.regs vrefFields) s u ∧ ∀ f ∈ vrefFields, u.rd f r = s.rd f r

theorem vrefBefore_other {u : State} {x : Nat} (hx : x ≠ r) (h : VrefBefore s r u) : VrefBefore s r (u.stepVref x) :=
  ⟨h.1.trans (stepVref_frame u x), fun f hf => (stepVref_other hf hx).trans (h.2 f hf)⟩

/-- Before its own step a rail's V_ref and its ramp stand as they did. -/
theorem vrefBefore_eq {u : State} (h : VrefBefore s r u) : u.railOn r = s.railOn r ∧ u.bit R.PD_RAIL_STAT_RAMPING r = s.bit R.PD_RAIL_STAT_RAMPING r
    ∧ u.rd R.PD_RAIL_VREF_VREF r = s.rd R.PD_RAIL_VREF_VREF r ∧ u.rd H.PD_RAMP_V r = s.rd H.PD_RAMP_V r := by
  obtain ⟨hframe, hat⟩ := h
  refine ⟨railOn_congr (hframe.rd (by decide)) (hframe.rd (by decide)) r, ?_, hat _ (by simp [vrefFields]), hat _ (by simp [vrefFields])⟩
  rw [State.bit, hat _ (by simp [vrefFields]), State.bit]

/-- What a rail's own step sets stands after the others'. -/
theorem vrefStep_at {Q : State → Prop} (hr : r ∈ s.rails) (hset : ∀ u, VrefBefore s r u → Q (u.stepVref r))
    (hkeep : ∀ u x, x ≠ r → Q u → Q (u.stepVref x)) : Q (s.rails.foldl State.stepVref s) :=
  foldl_once (rails_nodup s) hr (fun _ _ hx h => vrefBefore_other hx h) hset hkeep s ⟨Frame.refl s, fun _ _ => rfl⟩

end

/-- Settles O21. -/
theorem vrefMovesOneCode : Obligations.VrefMovesOneCode := by
  unfold Obligations.VrefMovesOneCode
  refine ⟨?_, ?_, ?_, ?_⟩
  · intro s r hr hon hramp
    refine .of_go (t := s.rails.foldl State.stepVref s) rfl ⟨?_, (vrefStep_frame s _).kinds, (vrefStep_frame s _).onlyRegs⟩
    refine vrefStep_at (Q := fun u => u.rd R.PD_RAIL_VREF_VREF r = _) hr (fun u hu => ?_) fun u x hx hq =>
      (stepVref_other (by simp [vrefFields]) hx).trans hq
    obtain ⟨hon', hramp', hcode, -⟩ := vrefBefore_eq hu
    rw [stepVref_moves (mem_rails_lt hr) (hon'.trans hon) (hramp'.trans hramp), hcode, hu.1.rd (by decide)]
  · intro s r hr hon hramp hreach
    have hset : (s.rails.foldl State.stepVref s).rd R.PD_RAIL_VREF_VREF r = s.rd R.PD_SETPOINT_CODE (32 * r)
        ∧ (s.rails.foldl State.stepVref s).rd R.PD_RAIL_STAT_RAMPING r = 0 := by
      refine vrefStep_at (Q := fun u => u.rd R.PD_RAIL_VREF_VREF r = _ ∧ u.rd R.PD_RAIL_STAT_RAMPING r = 0) hr (fun u hu => ?_)
        fun u x hx hq => ⟨(stepVref_other (by simp [vrefFields]) hx).trans hq.1, (stepVref_other (by simp [vrefFields]) hx).trans hq.2⟩
      obtain ⟨hon', hramp', -, hv⟩ := vrefBefore_eq hu
      rw [← hu.1.rd (g := R.PD_SETPOINT_CODE) (by decide), ← hv, ← hu.1.rd (g := H.PD_RAMP_RATE) (by decide)] at hreach
      rw [← hu.1.rd (g := R.PD_SETPOINT_CODE) (by decide)]
      exact stepVref_arrives (mem_rails_lt hr) (hon'.trans hon) (hramp'.trans hramp) hreach
    exact .of_go (t := s.rails.foldl State.stepVref s) rfl
      ⟨hset.1, by rw [State.bit, hset.2]; rfl, (vrefStep_frame s _).kinds, (vrefStep_frame s _).onlyRegs⟩
  · intro s
    refine .of_go (t := s.rails.foldl State.stepVref s) rfl fun r hoff => ?_
    have hkeep (l : List Nat) (u : State) (hu : u.railOn r = false) :
        (l.foldl State.stepVref u).rd R.PD_RAIL_VREF_VREF r = u.rd R.PD_RAIL_VREF_VREF r := by
      induction l generalizing u with
      | nil => rfl
      | cons x l ih =>
        have hstep := stepVref_frame u x
        rw [List.foldl_cons, ih _ ((railOn_congr (hstep.rd (by decide)) (hstep.rd (by decide)) r).trans hu)]
        by_cases hx : x = r
        · rw [hx, stepVref_of_off hu]
        · exact stepVref_other (by simp [vrefFields]) hx
    exact hkeep s.rails s hoff
  · intro s r hr hon hramp hreach
    have hset : (s.rails.foldl State.stepVref s).rd H.PD_RAMP_V r = s.rd H.PD_RAMP_V r + s.rd H.PD_RAMP_RATE r
        ∧ (s.rails.foldl State.stepVref s).rd R.PD_RAIL_STAT_RAMPING r = s.rd R.PD_RAIL_STAT_RAMPING r := by
      refine vrefStep_at (Q := fun u => u.rd H.PD_RAMP_V r = _ ∧ u.rd R.PD_RAIL_STAT_RAMPING r = _) hr (fun u hu => ?_)
        fun u x hx hq => ⟨(stepVref_other (by simp [vrefFields]) hx).trans hq.1, (stepVref_other (by simp [vrefFields]) hx).trans hq.2⟩
      obtain ⟨hon', hramp', -, hv⟩ := vrefBefore_eq hu
      rw [← hu.1.rd (g := R.PD_SETPOINT_CODE) (by decide), ← hv, ← hu.1.rd (g := H.PD_RAMP_RATE) (by decide)] at hreach
      rw [← hu.1.rd (g := H.PD_RAMP_RATE) (by decide), ← hv, ← hu.2 R.PD_RAIL_STAT_RAMPING (by simp [vrefFields])]
      exact stepVref_ramps (mem_rails_lt hr) (hon'.trans hon) (hramp'.trans hramp) hreach
    refine .of_go (t := s.rails.foldl State.stepVref s) rfl ⟨hset.1, ?_, (vrefStep_frame s _).rd (by decide) r⟩
    rw [State.bit, hset.2]
    exact hramp

end Sys2Proof.Machine
end

section
/-! Reads of register words, pairs, capture samples and the Store's span (R10, R11, R18, R214, R658–R661, R665). -/

set_option Elab.async false

namespace Sys2Proof.Machine

/-! ## Words as a read shows them -/

theorem shown_of_stored (s : State) {f : Fld} (hf : ∀ g ∈ (viewsA ++ viewsB ++ viewsC).map Prod.fst, g ≠ f) (ha : f.acc ≠ .wo) (i : Nat) :
    s.shown f i = s.rd f i := by
  have hnone : (viewsA ++ viewsB ++ viewsC).find? (fun x => x.1 == f) = none :=
    List.find?_eq_none.2 fun x hx => by simpa using hf x.1 (List.mem_map_of_mem hx)
  rw [State.shown, hnone, State.readBack, if_neg ha]

theorem shown_frameCount (s : State) : s.shown R.FRAME_COUNT 0 = s.frame := shown_of_stored s (by decide +kernel) (by decide) 0

theorem shown_subData (s : State) : s.shown R.TALLY_SUB_DATA_DATA 0 = s.rd R.TALLY_SUB_DATA_DATA 0 :=
  shown_of_stored s (by decide +kernel) (by decide) 0

theorem wordFields_frameLow : wordFields 0x100020 = [(R.FRAME_COUNT, 0)] := by decide +kernel

theorem wordFields_frameHigh : wordFields 0x100024 = [(R.FRAME_COUNT, 0)] := by decide +kernel

theorem wordFields_subData : wordFields 0x200020 = [(R.TALLY_SUB_DATA_DATA, 0)] := by decide +kernel

theorem wordFields_blank : wordFields 0x1D04A8 = [] := by decide +kernel

theorem liveWord_frameLow (s : State) : s.liveWord 0x100020 = s.frame % 2 ^ 32 := by
  rw [State.liveWord, s.reservedWord_of_pairLow (off := 0x100020) (by decide) (.inl rfl), if_neg Bool.false_ne_true,
    if_neg (by decide), wordFrom, wordFields_frameLow, List.foldl_cons, List.foldl_nil, shown_frameCount]
  simp [Fld.key, R.FRAME_COUNT]

theorem liveWord_frameHigh (s : State) : s.liveWord 0x100024 = s.frame / 2 ^ 32 := by
  have hlt : s.frame < 2 ^ 64 := s.rd_lt R.FRAME_COUNT 0
  rw [State.liveWord, s.reservedWord_of_pairLow (off := 0x100020) (by decide) (.inr rfl), if_neg Bool.false_ne_true,
    if_neg (by decide), wordFrom, wordFields_frameHigh, List.foldl_cons, List.foldl_nil, shown_frameCount]
  simp [Fld.key, R.FRAME_COUNT]
  omega

theorem liveWord_subData (s : State) : s.liveWord 0x200020 = s.rd R.TALLY_SUB_DATA_DATA 0 := by
  have hlt : s.rd R.TALLY_SUB_DATA_DATA 0 < 2 ^ 32 := s.rd_lt _ _
  have hres : s.reservedWord 0x200020 = false := by
    rw [State.reservedWord, wordFields_subData]
    simp [zk2Reserved, sourceReserved]
  rw [State.liveWord, hres, if_neg Bool.false_ne_true, if_neg (by decide), wordFrom, wordFields_subData, List.foldl_cons,
    List.foldl_nil, shown_subData]
  simpa [Fld.key, R.TALLY_SUB_DATA_DATA] using hlt

theorem liveWord_blank (s : State) : s.liveWord 0x1D04A8 = 0 := by
  rw [State.liveWord, wordFrom, wordFields_blank, List.foldl_nil]
  split
  · rfl
  · rw [if_neg (by decide)]

/-! ## Reads of a word that no pair and no capture buffer holds -/

theorem readWord_plain (s : State) (q : Requester) {off : Nat} (hc : off < 0x300000) (hp : off ≠ 0x10018C) (hl : pairLow off = false)
    (hh : pairLow (off - 4) = false) : s.readWord q off = (s.liveWord off, s) := by
  simp [State.readWord, Nat.not_le.2 hc, hp, hl, hh]

theorem captureOff {l k : Nat} (hk : k < 4096) : (0x300000 + 0x4000 * l + 4 * k) % 0x4000 / 4 = k
    ∧ (0x300000 + 0x4000 * l + 4 * k - 0x300000) / 0x4000 = l := by omega

theorem gated_capture (s : State) {off : Nat} (hlo : 0x300000 ≤ off) (hhi : off < 0x400000) : s.gated off = s.gated 0x300000 := by
  have hen (o : Nat) (h1 : 0x30 ≤ o / 0x10000) (h2 : o / 0x10000 < 0x40) : enableBit o = some 10 := by
    unfold enableBit
    split
    case h_14 => simp [h1, h2]
    all_goals omega
  rw [State.gated, State.gated, hen off (by omega) (by omega), hen 0x300000 (by decide) (by decide)]

/-- A served read of a capture sample, on page 0. -/
theorem exec_readCapture (s : State) (w : WCtx) {l k : Nat} (hl : l < 64) (hk : k < 4096) (hg : s.gated 0x300000 = false)
    (hpage : s.rd R.LE_CAP_PAGE_PAGE 0 = 0) : exec (.readPairLow w (0x300000 + 0x4000 * l + 4 * k) 4) s
      = if (s.rd H.LE_CAP_SAMPLE (4096 * l + k)).testBit 32 then .next (s.answer (.data (s.rd H.LE_CAP_SAMPLE (4096 * l + k) % 2 ^ 32)))
        else .next (s.freeStep.answer (.data (s.freeVal 32))) := by
  have hoff : 0x300000 + 0x4000 * l + 4 * k < 0x400000 := by omega
  have hgate : s.gated (0x300000 + 0x4000 * l + 4 * k) = false := by rw [gated_capture s (by omega) hoff, hg]
  have h4 : (0x300000 + 0x4000 * l + 4 * k) % 4 = 0 := by omega
  have hserved : regServed false (0x300000 + 0x4000 * l + 4 * k) 4 = true := by
    rw [regServed, if_pos ⟨by omega, hoff, rfl⟩, h4]
    rfl
  obtain ⟨hk', hl'⟩ := captureOff (l := l) hk
  have hread : s.readWord w.req (0x300000 + 0x4000 * l + 4 * k) = if (s.rd H.LE_CAP_SAMPLE (4096 * l + k)).testBit 32
      then (s.rd H.LE_CAP_SAMPLE (4096 * l + k) % 2 ^ 32, s) else (s.freeVal 32, s.freeStep) := by
    rw [State.readWord, if_pos ⟨by omega, hoff⟩, State.captureRead, hpage, hk', hl', Nat.mul_zero, Nat.zero_add]
  rw [exec_readPairLow s w 4 (by omega), State.busRead_of_le_four w (by unfold storeSize; omega) hgate hserved le_rfl,
    show (0x300000 + 0x4000 * l + 4 * k) / 4 * 4 = 0x300000 + 0x4000 * l + 4 * k by omega, hread, h4, Nat.mul_zero, pow_zero, Nat.div_one]
  split
  · rw [Nat.mod_mod]
  · exact congrArg (fun v => Host.Outcome.next (s.freeStep.answer (.data v)))
      (Nat.mod_eq_of_lt (Nat.mod_lt _ (by decide) : s.freeVal 32 < 2 ^ 32))

/-! ## Reads of the Store's span -/

/-- Clean words are read without an event. -/
theorem foldl_eccEvent_clean {s : State} {l : List Nat} (h : ∀ k ∈ l, s.rd H.STORE_ECC k = 0) (u : State) :
    l.foldl (fun (t : State) (k : Nat) => t.eccEvent k (s.eccAt k .clean)) u = u := by
  induction l generalizing u with
  | nil => rfl
  | cons k l ih =>
    rw [List.foldl_cons, State.eccAt, h k List.mem_cons_self, State.eccEvent, if_neg (by decide), if_neg (by decide)]
    exact ih (fun j hj => h j (List.mem_cons_of_mem k hj)) u

theorem storeRead_of_clean {s : State} {w : WCtx} {off size : Nat} (hserved : storeServed off size = true)
    (hopen : s.storeShut = false ∨ Requester.isHart w.req = true) (hclean : ∀ k ∈ wordsAt off size, s.rd H.STORE_ECC k = 0) :
    s.storeRead w off size .clean = (s.reachBank w.req off).answer (.data (s.ld off size)) := by
  have hshut : (s.storeShut && !Requester.isHart w.req) = false := by
    obtain h | h := hopen <;> simp [h]
  have hany : ((wordsAt off size).any fun k => s.eccAt k .clean % 4 == 2) = false := by
    rw [List.any_eq_false]
    intro k hk
    rw [State.eccAt, hclean k hk]
    decide
  rw [State.storeRead, hserved, Bool.not_true, if_neg Bool.false_ne_true, hshut, if_neg Bool.false_ne_true,
    foldl_eccEvent_clean hclean, hany, if_neg Bool.false_ne_true]

theorem storeServed_lt {off size : Nat} (h : storeServed off size = true) : off < storeSize := by
  simp only [storeServed, Bool.and_eq_true, decide_eq_true_eq] at h
  exact h.2

/-! ## Shadows -/

theorem mem_latch (s : State) (q : Requester) (off : Nat) : (q, off, s.liveWord (off + 4)) ∈ s.latch q off :=
  List.mem_append_right _ (List.mem_singleton.2 rfl)

/-- A port's shadow is not another's, nor of another pair. -/
theorem isShadow_eq_false {q : Requester} {off : Nat} {x : Requester × Nat × Nat} (h : x.1 ≠ q ∨ x.2.1 ≠ off) :
    isShadow q off x = false := by
  obtain h | h := h <;> simp [isShadow, h]

theorem mem_drop_of_other {q : Requester} {off : Nat} {l : List (Requester × Nat × Nat)} {x : Requester × Nat × Nat} (hx : x ∈ l)
    (h : x.1 ≠ q ∨ x.2.1 ≠ off) : x ∈ l.filter fun y => !isShadow q off y :=
  List.mem_filter.2 ⟨hx, by rw [isShadow_eq_false h, Bool.not_false]⟩

theorem other_of_mem_drop {q : Requester} {off : Nat} {l : List (Requester × Nat × Nat)} {x : Requester × Nat × Nat}
    (hx : x ∈ l.filter fun y => !isShadow q off y) : x.1 ≠ q ∨ x.2.1 ≠ off := by
  have h := (List.mem_filter.1 hx).2
  by_contra hc
  rw [not_or, not_not, not_not] at hc
  simp [isShadow, hc.1, hc.2] at h

theorem mem_latch_of_other {s : State} {q : Requester} {off : Nat} {x : Requester × Nat × Nat} (hx : x ∈ s.shadows)
    (h : x.1 ≠ q ∨ x.2.1 ≠ off) : x ∈ s.latch q off := List.mem_append_left _ (mem_drop_of_other hx h)

theorem not_gated_top (s : State) : s.gated 0x100020 = false ∧ s.gated 0x100024 = false := ⟨rfl, rfl⟩

/-- Settles O53. -/
theorem readsReturnWordsAndPairs : Obligations.ReadsReturnWordsAndPairs := by
  unfold Obligations.ReadsReturnWordsAndPairs
  have hpair : pairLow 0x100020 = true := by decide
  refine ⟨?_, ?_, ?_, ?_, ?_, ?_, ?_, ?_, ?_, ?_⟩
  · intro s w
    refine ⟨_, exec_read_pairLow w hpair (not_gated_top s).1, ?_, ?_, fun x hx h => mem_latch_of_other hx h, rfl⟩
    · exact congrArg Resp.data (liveWord_frameLow s)
    · have hmem := mem_latch s w.req 0x100020
      rwa [liveWord_frameHigh] at hmem
  · intro s w h hfind hlt
    exact ⟨_, exec_read_pairHigh_of_shadow hpair (not_gated_top s).2 hfind hlt, rfl, fun x hx => other_of_mem_drop hx,
      fun x hx h => mem_drop_of_other hx h, rfl⟩
  · intro s w hno
    rw [← liveWord_frameHigh]
    refine exec_read_pairHigh_of_none hpair (not_gated_top s).2 (List.find?_eq_none.2 fun x hx => ?_)
    rw [isShadow_eq_false (hno x hx)]
    exact Bool.false_ne_true
  · intro s w b hb
    have hgate : s.gated (0x200020 + b) = s.gated 0x200020 := by
      have hblock : (0x200020 + b) / 0x10000 = 0x200020 / 0x10000 := by omega
      rw [State.gated, State.gated, enableBit, enableBit, hblock]
    have hserved : regServed false (0x200020 + b) 1 = true := by
      rw [regServed, if_neg (by omega), if_neg (by decide), decide_eq_true (by omega)]
      rfl
    rw [exec_readPairLow s w 1 (by omega)]
    cases hg : s.gated 0x200020
    · rw [State.busRead_of_le_four w (by unfold storeSize; omega) (hgate.trans hg) hserved (by decide),
        show (0x200020 + b) / 4 * 4 = 0x200020 by omega, readWord_plain s w.req (by decide) (by decide) (by decide) (by decide),
        liveWord_subData, show (0x200020 + b) % 4 = b by omega]
      rfl
    · rw [State.busRead, if_neg (by unfold storeSize; omega), hgate, hg]
      rfl
  · intro s w off size hs hlt hno
    rw [exec_readPairLow s w size hlt, State.busRead, if_neg (Nat.not_lt.2 hs), if_pos (by simpa using hno)]
  · intro s w
    rw [exec_readPairLow s w 4 (by decide), State.busRead_of_le_four w (by decide) rfl (by decide) le_rfl,
      readWord_plain s w.req (by decide) (by decide) (by decide) (by decide), liveWord_blank,
      Nat.zero_div, Nat.zero_mod]
  · intro s w l k hl hk hg hpage hwritten
    rw [exec_readCapture s w hl hk hg hpage, if_pos hwritten]
  · intro s w l k hl hk hg hpage hblank
    rw [exec_readCapture s w hl hk hg hpage, hblank, if_neg Bool.false_ne_true]
  · intro s w off size hserved hopen hclean
    have hlt := storeServed_lt hserved
    have hall : Frame (.regsOut [H.STORE_BUSYW, R.STORE_BUSY_HART, R.STORE_BUSY_HOST]) s
        ((s.reachBank w.req off).answer (.data (s.ld off size))) := (Frame.refl s).reachBank.answer
    refine ⟨_, exec_readPairLow s w size (hlt.trans (by decide)), ?_⟩
    rw [State.busRead, if_pos hlt, storeRead_of_clean hserved hopen hclean]
    exact ⟨rfl, hall.sameStore, hall.onlyRegsOut⟩
  · intro s w
    have hlow := s.readWord_pairLow w.req hpair
    have hhigh := ({ s with shadows := s.latch w.req 0x100020 } : State).readWord_pairHigh w.req hpair
    rw [show ({ s with shadows := s.latch w.req 0x100020 } : State).shadows = s.latch w.req 0x100020 from rfl, s.find_latch,
      Option.elim_some] at hhigh
    refine ⟨_, exec_readPairLow s w 8 (by decide), ?_⟩
    rw [State.busRead_eight w (by decide) (not_gated_top s).1 (by decide), hlow, hhigh]
    refine ⟨?_, fun x hx => other_of_mem_drop hx, fun x hx h => mem_drop_of_other (mem_latch_of_other hx h) h, rfl⟩
    have hsum : s.liveWord 0x100020 + 2 ^ 32 * s.liveWord 0x100024 = s.frame := by
      rw [liveWord_frameLow, liveWord_frameHigh]
      omega
    exact congrArg Resp.data hsum

end Sys2Proof.Machine
end

section
/-! The BMC's addresses, its terminus, its sensors and its effecter (R546, R636, R647–R651). -/

set_option Elab.async false

namespace Sys2Proof.Machine

/-! ## Who answers -/

/-- H3 answers PLDM messages. -/
def State.pldmUp (s : State) : Bool := s.i3cUp && s.hartUp 3 && !s.bit R.STATUS_SAFE_GOV 0

section
variable {s : State}

theorem control_of_up (h : s.i3cUp = true) (g : State → State) : s.control g = g s := by rw [State.control, h, State.when_true]

theorem control_of_down (h : s.i3cUp = false) (g : State → State) : s.control g = s := by rw [State.control, h, State.when_false]

theorem setDyn_of_up (h : s.i3cUp = true) (a : Nat) : s.setDyn a = s.wr R.PLAT_MCTP_DYN 0 a := by rw [State.setDyn, h, State.when_true]

theorem setDyn_of_down (h : s.i3cUp = false) (a : Nat) : s.setDyn a = s := by rw [State.setDyn, h, State.when_false]

theorem pldmUp_of (h : s.i3cUp = true) (h3 : s.hartUp 3 = true) (hg : s.bit R.STATUS_SAFE_GOV 0 = false) : s.pldmUp = true := by
  rw [State.pldmUp, h, h3, hg]
  rfl

theorem pldm_of_up (h : s.pldmUp = true) (g : State → State) : s.pldm g = g s := by
  change s.when s.pldmUp g = g s
  rw [h, State.when_true]

theorem pldm_of_down (h : s.pldmUp = false) (g : State → State) : s.pldm g = s := by
  change s.when s.pldmUp g = s
  rw [h, State.when_false]

theorem pldmUp_of_i3cDown (h : s.i3cUp = false) : s.pldmUp = false := by rw [State.pldmUp, h, Bool.false_and, Bool.false_and]

theorem pldmUp_of_h3Down (h : s.hartUp 3 = false) : s.pldmUp = false := by rw [State.pldmUp, h, Bool.and_false, Bool.false_and]

/-- Whether H3 answers does not rest on what PLDM keeps. -/
theorem pldmUp_settid (s : State) (n : Nat) (m : Msg) : ((s.wr H.PLAT_TID 0 n).send m).pldmUp = s.pldmUp := by
  change (s.wr H.PLAT_TID 0 n).pldmUp = s.pldmUp
  simp (disch := decide) only [State.pldmUp, State.i3cUp, State.calibOver, State.platOn, State.hartUp, State.rd_wr_apart,
    State.bit_wr_apart]

theorem reservedId_eq (n : Nat) : reservedId n = true ↔ n % 256 = 0 ∨ n % 256 = 255 := by simp [reservedId]

theorem pldmCommands_bits : ∀ l ∈ [[0x01, 0x02, 0x03, 0x04, 0x05], [0x04, 0x0A, 0x11, 0x21, 0x31, 0x32, 0x50, 0x51]], ∀ c < 256,
    (sumN (l.map fun c => 2 ^ c)).testBit c = l.contains c := by decide +kernel

theorem mem_of_pldmCommands {typ : Nat} {l : List Nat} (h : pldmCommands typ = some l) :
    l ∈ [[0x01, 0x02, 0x03, 0x04, 0x05], [0x04, 0x0A, 0x11, 0x21, 0x31, 0x32, 0x50, 0x51]] := by
  unfold pldmCommands at h
  split at h
  · simp_all
  split at h
  · simp_all
  · cases h

end

theorem length_memGetBytes (m : List Host.Cell) (a n : Nat) : (memGetBytes m a n).length = n := by
  induction n generalizing a with
  | zero => rfl
  | succ n ih => rw [memGetBytes, List.length_cons, ih]

/-- The bytes of the Tally's records in some slots. -/
def State.tallyBytesOf (s : State) (l : List Nat) : List Nat :=
  (l.flatMap fun i => memGetBytes s.store (tallyAt i) 32).map fun (b : Byte) => b.toNat

theorem length_tallyBytesOf (s : State) (l : List Nat) : (s.tallyBytesOf l).length = 32 * l.length := by
  rw [State.tallyBytesOf, List.length_map]
  induction l with
  | nil => rfl
  | cons i l ih => rw [List.flatMap_cons, List.length_append, ih, length_memGetBytes, List.length_cons, Nat.mul_add, Nat.add_comm]

section
variable (s : State)

/-- What the BMC's messages do is an answer of the hardware or of H3. -/
theorem exec_bmcMessages : exec .gettid s = (s.pldm fun t => t.send (.i3c [0, t.rd H.PLAT_TID 0])).go
    ∧ exec .faultOpen s = (s.pldm fun t => t.send (.i3c (0 :: (List.range 128).map t.openWord))).go
    ∧ exec .getpldmversion s = (s.pldm fun t => t.freeStep.send (.i3c [0, t.freeVal 32])).go
    ∧ exec .getpldmtypes s = (s.pldm fun t => t.send (.i3c [0, 2 ^ 0 + 2 ^ 2])).go := ⟨rfl, rfl, rfl, rfl⟩

theorem exec_settid (n : Nat) : exec (.settid n) s = (s.pldm fun t =>
    if reservedId n then t.send (.i3c [2]) else (t.wr H.PLAT_TID 0 n).send (.i3c [0])).go := rfl

theorem exec_setEndpointId (e : Nat) : exec (.setEndpointId e) s = (s.control fun t =>
    if reservedId e then t.send (.i3c [2]) else (t.wr R.PLAT_MCTP_EID 0 e).send (.i3c [0, e % 256])).go := rfl

theorem exec_mctpUnknownType (typ : Nat) : exec (.mctpUnknownType typ) s = (if typ = 0x00 ∨ typ = 0x01 ∨ typ = 0x7F then s
    else s.control fun t => t.inc R.PLAT_MCTP_MCTP_DROP 0 1).go := rfl

theorem exec_vendorTallyRead (first n : Nat) : exec (.vendorTallyRead first n) s = (s.pldm fun t =>
    if n = 0 ∨ 1024 < n then t.send (.i3c [3])
    else t.send (.i3c ([0, (t.tallyRange first n).length, t.seqAfter (t.tallyRange first n)]
      ++ t.tallyBytesOf (t.tallyRange first n)))).go := rfl

end

theorem exec_getpldmcommands_some (s : State) {typ : Nat} {l : List Nat} (h : pldmCommands typ = some l) :
    exec (.getpldmcommands typ) s = (s.pldm fun t => t.send (.i3c [0, sumN (l.map fun c => 2 ^ c)])).go := by
  change execGetpldmcommands typ s = _
  rw [execGetpldmcommands, h]

theorem exec_getpldmcommands_none (s : State) {typ : Nat} (h : pldmCommands typ = none) :
    exec (.getpldmcommands typ) s = (s.pldm fun t => t.send (.i3c [0x83])).go := by
  change execGetpldmcommands typ s = _
  rw [execGetpldmcommands, h]

theorem exec_pldmUnsupported (s : State) {typ cmd : Nat} (h : ∀ l, pldmCommands typ = some l → l.contains cmd = false) :
    exec (.pldmUnsupported typ cmd) s = (s.pldm fun t => t.send (.i3c [5])).go := by
  change execPldmUnsupported typ cmd s = _
  rw [execPldmUnsupported]
  cases hl : pldmCommands typ with
  | none => rfl
  | some l => simp only [h l hl, Bool.false_eq_true, if_false]

theorem exec_vendorUnknown (s : State) {cmd : Nat} (h1 : cmd ≠ 1) (h2 : cmd ≠ 2) :
    exec (.vendorUnknown cmd) s = (s.pldm fun t => t.send (.i3c [2])).go := by
  change execVendorUnknown cmd s = _
  rw [execVendorUnknown, if_neg (by omega)]

/-- Settles O56. -/
theorem bmcAddressesAndTerminus : Obligations.BmcAddressesAndTerminus := by
  unfold Obligations.BmcAddressesAndTerminus
  refine ⟨?_, ?_, ?_, ?_, ?_, ?_, ?_, ?_, ?_, ?_, ?_, ?_, ?_, ?_, ?_, ?_, ?_, ?_⟩
  · intro s a h
    exact ⟨congrArg State.go (setDyn_of_up h _), congrArg State.go (setDyn_of_up h _), congrArg State.go (setDyn_of_up h _)⟩
  · intro s e h h0 h255
    rw [exec_setEndpointId, control_of_up h, if_neg (by rw [reservedId_eq]; omega)]
    rfl
  · intro s h
    exact ⟨congrArg State.go (control_of_up h _), ⟨s.freeVal 32, Nat.mod_lt _ (by decide), congrArg State.go (control_of_up h _)⟩,
      congrArg State.go (control_of_up h _)⟩
  · intro s typ h h0 h1 h7f
    refine .of_go (t := s.inc R.PLAT_MCTP_MCTP_DROP 0 1) ((exec_mctpUnknownType s typ).trans (by
      rw [if_neg (by omega), control_of_up h])) ⟨?_, by simp, by simp⟩
    rw [State.rd_inc_zero _ _ (by decide) le_rfl, if_pos rfl]
  · intro s n h h3 hg h0 h255
    have hup := pldmUp_of h h3 hg
    have hall : Frame (.regsOut [H.PLAT_TID]) s ((s.wr H.PLAT_TID 0 n).send (.i3c [0])) := (Frame.refl s).wr.send
    have htid : ((s.wr H.PLAT_TID 0 n).send (.i3c [0])).rd H.PLAT_TID 0 = n % 256 := by
      change (s.wr H.PLAT_TID 0 n).rd H.PLAT_TID 0 = _
      rw [State.rd_wr_zero _ _ (by decide) le_rfl, if_pos rfl]
      rfl
    refine .of_go (t := (s.wr H.PLAT_TID 0 n).send (.i3c [0])) ((exec_settid s n).trans (by
      rw [pldm_of_up hup, if_neg (by rw [reservedId_eq]; omega)])) ⟨htid, ?_, hall.kinds, rfl⟩
    rw [(exec_bmcMessages _).1, pldm_of_up ((pldmUp_settid s n _).trans hup), htid]
    rfl
  · intro s h h3 hg
    have hup := pldmUp_of h h3 hg
    obtain ⟨htid, -, hver, htypes⟩ := exec_bmcMessages s
    refine ⟨htid.trans ?_, ⟨s.freeVal 32, Nat.mod_lt _ (by decide), hver.trans ?_⟩, htypes.trans ?_⟩
    all_goals
      rw [pldm_of_up hup]
      rfl
  · intro s typ l h h3 hg hl
    refine .of_go (t := s.send (.i3c [0, sumN (l.map fun c => 2 ^ c)])) ((exec_getpldmcommands_some s hl).trans (by
      rw [pldm_of_up (pldmUp_of h h3 hg)])) ⟨⟨_, rfl, pldmCommands_bits l (mem_of_pldmCommands hl)⟩, by simp⟩
  · intro s typ cmd h h3 hg hl
    rw [exec_pldmUnsupported s hl, pldm_of_up (pldmUp_of h h3 hg)]
    rfl
  · intro s e h h3 hg
    have hall : Frame (.regsOut [H.PLAT_RECEIVER]) s ((s.wr H.PLAT_RECEIVER 0 e).send (.i3c [0])) := (Frame.refl s).wr.send
    refine .of_go (t := (s.wr H.PLAT_RECEIVER 0 e).send (.i3c [0])) (congrArg State.go (pldm_of_up (pldmUp_of h h3 hg) _))
      ⟨?_, List.mem_cons_self, hall.kinds⟩
    change (s.wr H.PLAT_RECEIVER 0 e).rd H.PLAT_RECEIVER 0 = _
    rw [State.rd_wr_zero _ _ (by decide) le_rfl, if_pos rfl]
    rfl
  · intro s first n h h3 hg h0 hn
    refine .of_go (t := s.send (.i3c ([0, (s.tallyRange first n).length, s.seqAfter (s.tallyRange first n)]
      ++ s.tallyBytesOf (s.tallyRange first n)))) ((exec_vendorTallyRead s first n).trans (by rw [pldm_of_up (pldmUp_of h h3 hg), if_neg (by omega)]))
      ⟨⟨_, rfl, length_tallyBytesOf _ _⟩, by simp, .of_store rfl⟩
  · intro s h h3 hg
    refine .of_go (t := s.send (.i3c (0 :: (List.range 128).map s.openWord))) (congrArg State.go (pldm_of_up (pldmUp_of h h3 hg) _))
      ⟨⟨_, rfl, by simp, fun k hk => ?_⟩, by simp⟩
    rw [List.getElem?_map, List.getElem?_range hk]
    rfl
  · intro s cmd h h3 hg h1 h2
    rw [exec_vendorUnknown s h1 h2, pldm_of_up (pldmUp_of h h3 hg)]
    rfl
  · intro s h3
    exact ⟨congrArg State.go (pldm_of_down (pldmUp_of_h3Down h3) _), congrArg State.go (pldm_of_down (pldmUp_of_h3Down h3) _)⟩
  · intro s e h he
    rw [exec_setEndpointId, control_of_up h, if_pos ((reservedId_eq e).2 he)]
    rfl
  · intro s n h h3 hg hn
    rw [exec_settid, pldm_of_up (pldmUp_of h h3 hg), if_pos ((reservedId_eq n).2 hn)]
    rfl
  · intro s typ h h3 hg hnone
    rw [exec_getpldmcommands_none s hnone, pldm_of_up (pldmUp_of h h3 hg)]
    rfl
  · intro s first n h h3 hg hn
    rw [exec_vendorTallyRead, pldm_of_up (pldmUp_of h h3 hg), if_pos hn]
    rfl
  · intro s a h
    have hdown := pldmUp_of_i3cDown h
    refine ⟨congrArg State.go (setDyn_of_down h _), congrArg State.go (setDyn_of_down h _), congrArg State.go (setDyn_of_down h _),
      congrArg State.go (control_of_down h _), congrArg State.go (control_of_down h _), ?_, congrArg State.go (pldm_of_down hdown _),
      congrArg State.go (pldm_of_down hdown _)⟩
    rw [exec_mctpUnknownType, control_of_down h, ite_self]
    rfl

/-! ## The repository, the sensors and the effecter -/

section
variable (s : State)

theorem exec_getpdr (h : Nat) : exec (.getpdr h) s = (s.pldm fun t => match pdrTable[max 1 h - 1]? with
    | some (k, id) => t.send (.i3c [0, (if max 1 h < pdrTable.length then max 1 h + 1 else 0), k, id])
    | none => t.send (.i3c [0x82])).go := rfl

theorem exec_getsensorreading (id : Nat) : exec (.getsensorreading id) s = (s.pldm fun t => match t.sensor id with
    | some (some v) => t.send (.i3c [0, 0, v])
    | some none => t.send (.i3c [0, 2])
    | none => t.send (.i3c [0x80])).go := rfl

theorem exec_getstatesensorreadings {id v : Nat} (h : s.pldmUp = true) (hv : s.stateSensor id = some v) :
    exec (.getstatesensorreadings id) s = .next (s.send (.i3c [0, 1, 0, v])) := by
  change execGetstatesensorreadings id s = _
  rw [execGetstatesensorreadings, pldm_of_up h, hv]
  rfl

theorem exec_setnumericeffectervalue (id v : Nat) : exec (.setnumericeffectervalue id v) s = (s.pldm fun t =>
    if id ≠ 1 then t.send (.i3c [0x80])
    else if 16777 < v then t.send (.i3c [2])
    else (t.writeCapBmc ⟨.bmc, 0⟩ (1000 * v)).send (.i3c [0])).go := rfl

theorem exec_getnumericeffectervalue (id : Nat) : exec (.getnumericeffectervalue id) s = (s.pldm fun t =>
    if id = 1 then t.send (.i3c [0, 0, openDiv (t.rd R.CAP_BMC_CAP 0) 1000]) else t.send (.i3c [0x80])).go := rfl

end

/-- An open quotient is the floor, or one more where the division is inexact. -/
theorem openDiv_bounds (a : Nat) {b : Nat} (hb : 0 < b) : b * openDiv a b ≤ a + (b - 1) ∧ a < b * (openDiv a b + 1) := by
  have hdiv := Nat.div_add_mod a b
  have hmod := Nat.mod_lt a hb
  unfold openDiv
  rw [if_neg hb.ne']
  split
  · rw [Nat.mul_add]
    omega
  split
  · simp only [Nat.mul_add]
    omega
  · rw [Nat.mul_add]
    omega

/-- The BMC may write its cap. -/
theorem writable_capBmc (s : State) : Writable s ⟨.bmc, 0⟩ R.CAP_BMC_CAP 0 := by
  have hres : s.reservedWord (R.CAP_BMC_CAP.word 0) = false := by
    unfold State.reservedWord
    cases s.zk4 <;> rfl
  exact ⟨rfl, by decide, hres, by simp [State.protected?, State.right, show R.CAP_BMC_CAP.acc = .rw from rfl]⟩

/-- Settles O57. -/
theorem bmcSensorsAndEffecter : Obligations.BmcSensorsAndEffecter := by
  unfold Obligations.BmcSensorsAndEffecter
  refine ⟨?_, ?_, ?_, ?_, ?_, ?_, ?_, ?_, ?_, ?_, ?_, ?_, ?_, ?_⟩
  · intro s h h3 hg
    exact congrArg State.go (pldm_of_up (pldmUp_of h h3 hg) _)
  · intro s hd k id h h3 hg hge hrec
    rw [exec_getpdr, pldm_of_up (pldmUp_of h h3 hg), max_eq_right hge, hrec]
    rfl
  · intro s id v h h3 hg hv
    rw [exec_getsensorreading, pldm_of_up (pldmUp_of h h3 hg), hv]
    rfl
  · intro s id h h3 hg hv
    rw [exec_getsensorreading, pldm_of_up (pldmUp_of h h3 hg), hv]
    rfl
  · intro s h h3 hg
    exact ⟨exec_getstatesensorreadings s (pldmUp_of h h3 hg) rfl, exec_getstatesensorreadings s (pldmUp_of h h3 hg) rfl⟩
  · intro s v h h3 hg hv
    obtain ⟨hstaged, -, -, hkinds, -⟩ := s.stages_stage ⟨.bmc, 0⟩ (.capBmc (1000 * v) false)
    have hmirror (u : State) := mirrorOut_frame u ⟨.bmc, 0⟩ (.write 0x100034 (1000 * v))
    have hall : Frame ⟨[.staged, .out, .resp], []⟩ s ((((s.stage ⟨.bmc, 0⟩ (.capBmc (1000 * v) false)).mirrorOut ⟨.bmc, 0⟩
        (.write 0x100034 (1000 * v))).answer .ok).send (.i3c [0])) := by
      rw [State.stage, if_neg (by decide)]
      exact (Frame.refl s).setStaged.mirrorOut.answer.send
    refine .of_go (t := (((s.stage ⟨.bmc, 0⟩ (.capBmc (1000 * v) false)).mirrorOut ⟨.bmc, 0⟩ (.write 0x100034 (1000 * v))).answer
      .ok).send (.i3c [0])) ((exec_setnumericeffectervalue s 1 v).trans ?_) ⟨((hmirror _).staged).trans hstaged, List.mem_cons_self, hall.kinds⟩
    rw [pldm_of_up (pldmUp_of h h3 hg), if_neg (by decide), if_neg (by omega), State.writeCapBmc,
      State.judged_of_writable (writable_capBmc s)]
  · intro s h h3 hg
    obtain ⟨hle, hlt⟩ := openDiv_bounds (s.rd R.CAP_BMC_CAP 0) (b := 1000) (by decide)
    exact .of_go (t := s.send (.i3c [0, 0, openDiv (s.rd R.CAP_BMC_CAP 0) 1000])) ((exec_getnumericeffectervalue s 1).trans (by
      rw [pldm_of_up (pldmUp_of h h3 hg), if_pos rfl])) ⟨⟨_, rfl, hle, hlt⟩, by simp⟩
  · intro s h h3 hg
    exact exec_getstatesensorreadings s (pldmUp_of h h3 hg) rfl
  · intro s id v h h3 hg hid
    rw [exec_setnumericeffectervalue, exec_getnumericeffectervalue, pldm_of_up (pldmUp_of h h3 hg), pldm_of_up (pldmUp_of h h3 hg),
      if_pos hid, if_neg hid]
    exact ⟨rfl, rfl⟩
  · intro s v h h3 hg hv
    rw [exec_setnumericeffectervalue, pldm_of_up (pldmUp_of h h3 hg), if_neg (by decide), if_pos hv]
    rfl
  · intro s id h h3 hg hv
    rw [exec_getsensorreading, pldm_of_up (pldmUp_of h h3 hg), hv]
    rfl
  · intro s hd h h3 hg hgt
    have hnone : pdrTable[max 1 hd - 1]? = none := List.getElem?_eq_none (by omega)
    rw [exec_getpdr, pldm_of_up (pldmUp_of h h3 hg), hnone]
    rfl
  · intro s k hk hlt
    rw [State.sensor, if_neg (by omega), if_neg (by omega), if_neg (by omega), if_neg (by omega), if_pos ⟨by omega, by omega⟩,
      Nat.add_sub_cancel_left, if_pos hk]
  · intro s hd id v h3
    have hdown (g : State → State) : s.pldm g = s := pldm_of_down (pldmUp_of_h3Down h3) g
    exact ⟨congrArg State.go (hdown _), congrArg State.go (hdown _), congrArg State.go (hdown _), congrArg State.go (hdown _),
      congrArg State.go (hdown _), congrArg State.go (hdown _)⟩

end Sys2Proof.Machine
end

section
/-! HBM temperatures and the reports of optical engines (R317, R337, R347, R350). -/

set_option Elab.async false

namespace Sys2Proof.Machine

/-! ## Signed fields -/

theorem toS_ofS {w : Nat} (hw : 0 < w) {x : Int} (hlo : -(2 ^ (w - 1) : Nat) ≤ x) (hhi : x < (2 ^ (w - 1) : Nat)) :
    toS w (ofS w x) = x := by
  obtain ⟨k, rfl⟩ : ∃ k, w = k + 1 := ⟨w - 1, by omega⟩
  rw [Nat.add_sub_cancel] at hlo hhi
  have hpow : (2 ^ (k + 1) : Nat) = 2 * 2 ^ k := by ring
  rw [toS, ofS, Nat.add_sub_cancel]
  generalize (2 ^ k : Nat) = m at hlo hhi hpow
  rw [hpow]
  by_cases hx : 0 ≤ x
  · rw [Int.emod_eq_of_lt hx (by omega)]
    have hlt : x.toNat % (2 * m) = x.toNat := Nat.mod_eq_of_lt (by omega)
    rw [hlt, if_pos (by omega)]
    omega
  · have he : x % ((2 * m : Nat) : Int) = x + (2 * m : Nat) := by
      rw [← Int.add_emod_right, Int.emod_eq_of_lt (by omega) (by omega)]
    rw [he]
    have hlt : (x + (2 * m : Nat)).toNat % (2 * m) = (x + (2 * m : Nat)).toNat := Nat.mod_eq_of_lt (by omega)
    simp only [hlt]
    rw [if_neg (by omega)]
    omega

/-- A signed value of 16 bits as it is written and read back. -/
theorem toS_mod_ofS {x : Int} (hlo : -32768 ≤ x) (hhi : x < 32768) : toS 16 (ofS 16 x % 2 ^ 16) = x := by
  have hlt : ofS 16 x < 2 ^ 16 := by
    unfold ofS
    omega
  rw [Nat.mod_eq_of_lt hlt]
  exact toS_ofS (by decide) hlo hhi

/-! ## Sources that a package has -/

theorem hbmStacks_le (z : Bool) : hbmStacks z ≤ 8 := by cases z <;> decide

theorem srcPresent_hbm {z : Bool} {m : Nat} (h : m < hbmStacks z) : srcPresent z (0x35C + m) = true := by
  have hm := h.trans_le (hbmStacks_le z)
  revert h
  revert m z
  decide

theorem srcPresent_engine (z : Bool) {e : Nat} (h : e < 8) : srcPresent z (0x2DC + e) = true := by
  revert e z
  decide

/-! ## Memory controllers -/

section
variable {s : State} {m : Nat}

theorem exec_hbmTemp (h : m < hbmStacks s.zk4) (temp : Int) : exec (.hbmTemp m temp) s
    = ((((s.wrS H.TH_HBM_T m temp).wr H.TH_HBM_SEEN m 1).wr H.TH_HBM_AGE m 0).wr R.TH_BAND_STAT_STALE m 0).go := by
  change execHbmTemp _ _ _ = _
  rw [execHbmTemp, if_pos h]

theorem exec_hbmTemp_absent (h : hbmStacks s.zk4 ≤ m) (temp : Int) : exec (.hbmTemp m temp) s = .next s := by
  change execHbmTemp _ _ _ = _
  rw [execHbmTemp, if_neg (by omega), State.go]

theorem exec_memctrlStale : exec (.memctrlStale m) s
    = (if decide (m < hbmStacks s.zk4) && decide (256 ≤ s.rd H.TH_HBM_AGE m) && !s.bit R.TH_BAND_STAT_STALE m then
        (s.wr R.TH_BAND_STAT_STALE m 1).fault 0x0D m 1 else s).go := rfl

theorem exec_memctrlStale_quiet (h : hbmStacks s.zk4 ≤ m ∨ s.rd H.TH_HBM_AGE m < 256 ∨ s.bit R.TH_BAND_STAT_STALE m = true) :
    exec (.memctrlStale m) s = .next s := by
  rw [exec_memctrlStale, if_neg, State.go]
  simp only [Bool.and_eq_true, decide_eq_true_eq, Bool.not_eq_true']
  rintro ⟨⟨hm, hage⟩, hstale⟩
  obtain h | h | h := h
  · omega
  · omega
  · rw [h] at hstale
    cases hstale

end

/-! ## Optical engines -/

/-- The lock state and the draw of an engine's report. -/
def State.showReport (s : State) (e : Nat) (locked : Bool) (heater laser : Nat) : State :=
  ((s.wrB R.TH_OPT_STAT_LOCKED e locked).wr R.TH_OPT_DRAW_HEATER_RPT e (min 65535 heater)).wr R.TH_OPT_DRAW_LASER_RPT e
    (min 65535 laser)

/-- The count of reports above the allowance. -/
def State.countExcess (s : State) (e count : Nat) (excess : Prop) [Decidable excess] : State :=
  if excess then s.wr H.TH_OVERC e (min 4 (count + 1)) else (s.wr H.TH_OVERC e 0).wr R.TH_OPT_STAT_OVER e 0

section
variable {s : State} {e heater laser : Nat} {locked : Bool}

theorem exec_optReport (he : e < 8) : exec (.optReport e locked heater ⟨laser, 0⟩) s
    = ((s.showReport e locked heater laser).countExcess e (s.rd H.TH_OVERC e)
        (s.rd R.TH_OPT_HEATER_HEATER e + s.rd R.TH_OPT_LASER_LASER e < heater + laser)).go := by
  change execOptReport _ _ _ _ _ = _
  rw [execOptReport, if_neg (by simpa using he), State.countExcess, State.showReport]
  simp only [decide_eq_true_eq]

theorem exec_optReport_ignored {rsv : Nat} (h : rsv ≠ 0 ∨ 8 ≤ e) :
    exec (.optReport e locked heater ⟨laser, rsv⟩) s = .next s := by
  change execOptReport _ _ _ _ _ = _
  rw [execOptReport, if_pos h, State.go]

theorem exec_opticalOver (h : s.rd H.TH_OVERC e = 4) (hno : s.bit R.TH_OPT_STAT_OVER e = false) :
    exec (.opticalOver e) s = ((s.wr R.TH_OPT_STAT_OVER e 1).fault 0x07 e 1).go := by
  change execOpticalOver _ _ = _
  rw [execOpticalOver, if_pos (by simp [h, hno])]

theorem exec_opticalOver_quiet (h : s.rd H.TH_OVERC e ≠ 4 ∨ s.bit R.TH_OPT_STAT_OVER e = true) :
    exec (.opticalOver e) s = .next s := by
  change execOpticalOver _ _ = _
  rw [execOpticalOver, if_neg, State.go]
  simp only [Bool.and_eq_true, beq_iff_eq, Bool.not_eq_true']
  rintro ⟨hcount, hover⟩
  obtain h | h := h
  · exact h hcount
  · rw [h] at hover
    cases hover

/-- The count of excess reports is a field of its own. -/
theorem countExcess_frame (s : State) (e c : Nat) (p : Prop) [Decidable p] :
    Frame (.regs [H.TH_OVERC, R.TH_OPT_STAT_OVER]) s (s.countExcess e c p) :=
  Frame.ite (Frame.refl s).wr (Frame.refl s).wr.wr

theorem rd_countExcess (he : e < 8) (c : Nat) (p : Prop) [Decidable p] :
    (s.countExcess e c p).rd H.TH_OVERC e = if p then min 4 (c + 1) else 0 := by
  rw [State.countExcess]
  split
  · rw [State.rd_wr_below he _ _ (by decide) le_rfl, if_pos rfl]
    exact Nat.mod_eq_of_lt (show _ < 8 by omega)
  · rw [State.rd_wr_apart _ (by decide), State.rd_wr_below he _ _ (by decide) le_rfl, if_pos rfl]
    rfl

theorem bit_countExcess_over (he : e < 8) (c : Nat) {p : Prop} [Decidable p] (hp : ¬p) :
    (s.countExcess e c p).bit R.TH_OPT_STAT_OVER e = false := by
  rw [State.countExcess, if_neg hp, State.bit_wr_below he _ _ (by decide) le_rfl rfl, if_pos rfl]
  rfl

end

/-- Settles O18. -/
theorem hbmAndOpticalReports : Obligations.HbmAndOpticalReports := by
  unfold Obligations.HbmAndOpticalReports
  refine ⟨?_, ?_, ?_, ?_, ?_, ?_, ?_, ?_⟩
  · intro s m temp hm hlo hhi
    have hlt : m < 12 := (hm.trans_le (hbmStacks_le _)).trans (by decide)
    have hall : Frame (.regs [H.TH_HBM_T, H.TH_HBM_SEEN, H.TH_HBM_AGE, R.TH_BAND_STAT_STALE]) s
        ((((s.wrS H.TH_HBM_T m temp).wr H.TH_HBM_SEEN m 1).wr H.TH_HBM_AGE m 0).wr R.TH_BAND_STAT_STALE m 0) :=
      (Frame.refl s).wrS.wr.wr.wr
    refine .of_go (exec_hbmTemp hm temp) ⟨?_, ?_, ?_, ?_, hall.kinds, hall.onlyRegs⟩
    · simp (disch := decide) only [State.rdS, State.wrS, State.rd_wr_apart, State.rd_wr_below hlt, if_true]
      exact toS_mod_ofS hlo hhi
    · simp (disch := decide) only [State.bit_wr_apart, State.bit_wr_below hlt, if_true]
      rfl
    · simp (disch := decide) only [State.rd_wr_apart, State.rd_wr_below hlt, if_true, Nat.zero_mod]
    · simp (disch := decide) only [State.bit_wr_below hlt, if_true]
      rfl
  · intro s m hm hage hfresh
    have hlt : m < 12 := (hm.trans_le (hbmStacks_le _)).trans (by decide)
    have hall : Frame (.fault (faultFields ++ [R.TH_BAND_STAT_STALE])) s ((s.wr R.TH_BAND_STAT_STALE m 1).fault 0x0D m 1) :=
      (Frame.refl s).wr.fault
    refine .of_go (exec_memctrlStale.trans (by rw [if_pos (by simp [hm, hage, hfresh])])) ⟨?_, ?_, hall.kinds, hall.onlyFault⟩
    · rw [(fault_frame _ _ _ _).bit (by decide +kernel), State.bit_wr_below hlt _ _ (by decide) le_rfl rfl, if_pos rfl]
      rfl
    · exact Raised.after (State.wr_kinds _ _ _ _) (by decide) (State.fault_raised _ rfl (srcPresent_hbm hm) (by decide))
  · intro s e heater laser locked he
    have hshow : Frame (.regs [R.TH_OPT_STAT_LOCKED, R.TH_OPT_DRAW_HEATER_RPT, R.TH_OPT_DRAW_LASER_RPT]) s
        (s.showReport e locked heater laser) := (Frame.refl s).wrB.wr.wr
    have hcount := countExcess_frame (s.showReport e locked heater laser) e (s.rd H.TH_OVERC e)
      (s.rd R.TH_OPT_HEATER_HEATER e + s.rd R.TH_OPT_LASER_LASER e < heater + laser)
    have hall : Frame (.regs [R.TH_OPT_STAT_LOCKED, R.TH_OPT_DRAW_HEATER_RPT, R.TH_OPT_DRAW_LASER_RPT, H.TH_OVERC,
        R.TH_OPT_STAT_OVER]) s _ := (hshow.mono (by decide)).andThen hcount
    refine .of_go (exec_optReport he) ⟨?_, ?_, ?_, rd_countExcess he _ _, fun hle => bit_countExcess_over he _ (not_lt.2 hle),
      hall.kinds, hall.onlyRegs⟩
    · rw [hcount.bit (by decide)]
      simp (disch := decide) only [State.showReport, State.bit_wr_apart, State.bit_wrB_below he, if_true]
    · rw [hcount.rd (by decide)]
      simp (disch := decide) only [State.showReport, State.rd_wr_apart, State.rd_wr_below he, if_true]
      exact Nat.mod_eq_of_lt (show _ < 65536 by omega)
    · rw [hcount.rd (by decide)]
      simp (disch := decide) only [State.showReport, State.rd_wr_below he, if_true]
      exact Nat.mod_eq_of_lt (show _ < 65536 by omega)
  · intro s e he hcount hno
    have hall : Frame (.fault (faultFields ++ [R.TH_OPT_STAT_OVER])) s ((s.wr R.TH_OPT_STAT_OVER e 1).fault 0x07 e 1) :=
      (Frame.refl s).wr.fault
    refine .of_go (exec_opticalOver hcount hno) ⟨?_, ?_, hall.kinds, hall.onlyFault⟩
    · rw [(fault_frame _ _ _ _).bit (by decide +kernel), State.bit_wr_below he _ _ (by decide) le_rfl rfl, if_pos rfl]
      rfl
    · exact Raised.after (State.wr_kinds _ _ _ _) (by decide) (State.fault_raised _ rfl (srcPresent_engine _ he) (by decide))
  · exact fun s m temp hm => ⟨exec_hbmTemp_absent hm temp, exec_memctrlStale_quiet (.inl hm)⟩
  · exact fun s m h => exec_memctrlStale_quiet (.inr h)
  · exact fun s e heater laser rsv locked h => exec_optReport_ignored h
  · exact fun s e h => exec_opticalOver_quiet h

end Sys2Proof.Machine
end

section
/-! Sites, diodes and tiles fail, go high and are fenced (R326, R329, R338). -/

set_option Elab.async false

namespace Sys2Proof.Machine

/-! ## Which element a source of the package has -/

theorem site_lt {z : Bool} {k : Nat} (h : srcPresent z (0xA40 + k) = true) : k < 1536 := by
  by_contra hk
  have hnone : srcKind (0xA40 + k) = none := by
    simp (disch := omega) only [srcKind, if_neg]
  simp [srcPresent, hnone] at h

/-! ## Sites -/

section
variable {s : State} {k : Nat}

theorem recount_frame (s : State) (p : Nat) : Frame (.regs [R.TH_PAD_STAT_SUSPECT, R.TH_PAD_STAT_FAILED, R.TH_PAD_STAT_EXCLUDED])
    s (s.recount p) := (Frame.refl s).wr.wr.wr

/-- A site becomes FAILED. -/
def State.failSite (s : State) (k : Nat) : State :=
  (((s.wr R.TH_SITE_STATE k 3).wr H.TH_SFAIL k 1).wr H.TH_SUSC k 0).recount (s.rd R.TH_SITE_PADDOCK k)

theorem exec_siteFailed (hs : s.rd H.TH_SUSC k = 2) (hst : s.rd R.TH_SITE_STATE k = 2) :
    exec (.siteFailed k) s = ((s.failSite k).fault 0x14 k 1 (s.bit H.TH_INJ k)).go := by
  change execSiteFailed _ _ = _
  rw [execSiteFailed, if_pos (by simp [hs, hst])]
  rfl

theorem failSite_frame (s : State) (k : Nat) : Frame (.regs [R.TH_SITE_STATE, H.TH_SFAIL, H.TH_SUSC, R.TH_PAD_STAT_SUSPECT,
    R.TH_PAD_STAT_FAILED, R.TH_PAD_STAT_EXCLUDED]) s (s.failSite k) := (Frame.refl s).wr.wr.wr.recount

theorem failSite_fails (hk : k < 1536) (s : State) : (s.failSite k).rd R.TH_SITE_STATE k = 3
    ∧ (s.failSite k).bit H.TH_SFAIL k = true ∧ (s.failSite k).rd H.TH_SUSC k = 0 := by
  simp (disch := decide) only [State.failSite, (recount_frame _ _).rd, (recount_frame _ _).bit, State.rd_wr_apart,
    State.bit_wr_apart, State.rd_wr_below hk, State.bit_wr_below hk, if_true]
  decide

theorem exec_siteFailed_quiet (h : s.rd H.TH_SUSC k ≠ 2) : exec (.siteFailed k) s = .next s := by
  change execSiteFailed _ _ = _
  rw [execSiteFailed, if_neg (by simp [h]), State.go]

theorem exec_siteHighFault : exec (.siteHighFault k) s
    = (if s.rd H.TH_HIGHC k == 2 then (s.wr H.TH_HIGHC k 3).fault 0x14 k 1 else s).go := rfl

end

/-! ## Diodes -/

section
variable {s : State} {c : Nat}

/-- A diode channel becomes FAILED, and so it stands in the paddocks that name it. -/
def State.failDiode (s : State) (c : Nat) : State :=
  ((s.wr R.TH_DIODE_FAILED c 1).wrAll R.TH_PAD_STAT_DIODE_FAIL (s.diodePads c) (fun _ => 1)).wrAll H.TH_DIODEC (s.diodePads c)
    (fun _ => 0)

theorem exec_diodeFailed (c : Nat) (s : State) : exec (.diodeFailed c) s
    = (if !s.bit R.TH_DIODE_FAILED c && (s.diodePads c).any (fun p => s.rd H.TH_DIODEC p == 2) then
        (s.failDiode c).fault 0x05 c 1 else s).go := rfl

theorem failDiode_frame (s : State) (c : Nat) :
    Frame (.regs [R.TH_DIODE_FAILED, R.TH_PAD_STAT_DIODE_FAIL, H.TH_DIODEC]) s (s.failDiode c) := (Frame.refl s).wr.wrAll.wrAll

theorem wrAll_frame (s : State) (f : Fld) (l : List Nat) (v : Nat → Nat) : OnlyKinds [f] s (s.wrAll f l v) := by simp

/-- A mark of a paddock is no mark of a channel: the elements lie apart, though not the strides. -/
theorem rd_wrAll_padDiode (s : State) (l : List Nat) (v : Nat → Nat) (c : Nat) :
    (s.wrAll R.TH_PAD_STAT_DIODE_FAIL l v).rd R.TH_DIODE_FAILED c = s.rd R.TH_DIODE_FAILED c :=
  List.foldlRecOn l _ (motive := fun u => State.rd u R.TH_DIODE_FAILED c = s.rd R.TH_DIODE_FAILED c) rfl fun u hu p _ =>
    (regsRd_regsWr_key (fun hc hp => by
      simp only [Fld.key, R.TH_PAD_STAT_DIODE_FAIL, R.TH_DIODE_FAILED] at hc hp ⊢
      omega) u.regs _).trans hu

theorem failDiode_failed (hc : c < 64) (s : State) : (s.failDiode c).bit R.TH_DIODE_FAILED c = true := by
  rw [State.failDiode, (wrAll_frame _ _ _ _).bit (by decide), State.bit, rd_wrAll_padDiode, ← State.bit,
    State.bit_wr_below hc _ _ (by decide) le_rfl rfl, if_pos rfl]
  rfl

theorem failDiode_pads {p : Nat} (hp : p ∈ s.diodePads c) (hlt : p < 128) :
    (s.failDiode c).bit R.TH_PAD_STAT_DIODE_FAIL p = true := by
  rw [State.failDiode, (wrAll_frame _ H.TH_DIODEC _ _).bit (by decide)]
  refine bit_foldl_of_mem (f := R.TH_PAD_STAT_DIODE_FAIL) (fun u => ?_) (fun u x hx => u.rd_wr_idx hx (by decide) _) hp _
  rw [State.bit_wr_below hlt _ _ (by decide) le_rfl rfl, if_pos rfl]
  rfl

end

/-- Settles O16. -/
theorem thermalElementsFail : Obligations.ThermalElementsFail := by
  unfold Obligations.ThermalElementsFail
  refine ⟨?_, ?_, ?_, ?_, ?_, ?_, ?_, ?_⟩
  · intro s k hs hst hp
    have hfault : Frame (.fault faultFields) (s.failSite k) ((s.failSite k).fault 0x14 k 1 (s.bit H.TH_INJ k)) :=
      (Frame.refl _).fault
    have hall : Frame (.fault (faultFields ++ [R.TH_SITE_STATE, H.TH_SFAIL, H.TH_SUSC, R.TH_PAD_STAT_SUSPECT,
        R.TH_PAD_STAT_FAILED, R.TH_PAD_STAT_EXCLUDED])) s ((s.failSite k).fault 0x14 k 1 (s.bit H.TH_INJ k)) :=
      ((failSite_frame s k).mono (by decide +kernel)).fault
    obtain ⟨hstate, hfail, hcount⟩ := failSite_fails (site_lt hp) s
    refine .of_go (exec_siteFailed hs hst) ⟨?_, ?_, ?_, ?_, hall.kinds, hall.onlyFault⟩
    · rw [hfault.rd (by decide +kernel), hstate]
    · rw [hfault.bit (by decide +kernel), hfail]
    · rw [hfault.rd (by decide +kernel), hcount]
    · exact Raised.after (failSite_frame s k).kinds (by decide) (State.fault_raised _ rfl hp (by decide))
  · intro s k hs hp
    have hall : Frame (.fault (faultFields ++ [H.TH_HIGHC])) s ((s.wr H.TH_HIGHC k 3).fault 0x14 k 1) := (Frame.refl s).wr.fault
    refine .of_go (exec_siteHighFault.trans (by rw [if_pos (by simp [hs])])) ⟨?_, ?_, hall.kinds, hall.onlyFault⟩
    · rw [(fault_frame _ _ _ _).rd (by decide +kernel), State.rd_wr_below (site_lt hp) _ _ (by decide) le_rfl, if_pos rfl]
      rfl
    · exact Raised.after (State.wr_kinds _ _ _ _) (by decide) (State.fault_raised _ rfl hp (by decide))
  · intro s c hp hc hno ⟨p, hmem, htwo⟩
    have hall : Frame (.fault (faultFields ++ [R.TH_DIODE_FAILED, R.TH_PAD_STAT_DIODE_FAIL, H.TH_DIODEC])) s
        ((s.failDiode c).fault 0x05 c 1) := ((failDiode_frame s c).mono (by decide +kernel)).fault
    have hany : (s.diodePads c).any (fun p => s.rd H.TH_DIODEC p == 2) = true := List.any_eq_true.2 ⟨p, hmem, by simp [htwo]⟩
    refine .of_go ((exec_diodeFailed c s).trans (by rw [hno, hany]; rfl)) ⟨?_, fun q hq hlt => ?_, ?_, hall.kinds, hall.onlyFault⟩
    · rw [(fault_frame _ _ _ _).bit (by decide +kernel), failDiode_failed hc]
    · rw [(fault_frame _ _ _ _).bit (by decide +kernel), failDiode_pads hq hlt]
    · refine Raised.after (failDiode_frame s c).kinds (by decide) (State.fault_raised _ rfl ?_ (by decide))
      rwa [State.zk4, (failDiode_frame s c).ident]
  · intro s tile ht hp htwo hcold
    have hall : Frame (.fault (faultFields ++ [H.TH_HOT])) s ((s.wr H.TH_HOT tile 1).fault 0x12 tile 1) := (Frame.refl s).wr.fault
    have hhot : ((s.wr H.TH_HOT tile 1).fault 0x12 tile 1).bit H.TH_HOT tile = true := by
      rw [(fault_frame _ _ _ _).bit (by decide +kernel), State.bit_wr_below ht _ _ (by decide) le_rfl rfl, if_pos rfl]
      rfl
    refine .of_go (show execHotFence _ _ = _ by rw [execHotFence, if_pos (by simp [ht, htwo, hcold])])
      ⟨hhot, by rw [State.fenceWant, hhot, Bool.or_true], ?_, hall.kinds, hall.onlyFault⟩
    exact Raised.after (State.wr_kinds _ _ _ _) (by decide) (State.fault_raised _ rfl hp (by decide))
  · exact fun s k h => exec_siteFailed_quiet h
  · exact fun s k h => exec_siteHighFault.trans (by rw [if_neg (by simp [h]), State.go])
  · intro s c h
    rw [exec_diodeFailed, if_neg, State.go]
    simp only [Bool.and_eq_true, Bool.not_eq_true', List.any_eq_true, beq_iff_eq]
    rintro ⟨hno, p, hp, htwo⟩
    obtain h | h := h
    · rw [h] at hno
      cases hno
    · exact h p hp htwo
  · intro s tile h
    change execHotFence _ _ = _
    rw [execHotFence, if_neg, State.go]
    simp only [Bool.and_eq_true, beq_iff_eq, Bool.not_eq_true']
    rintro ⟨⟨-, htwo⟩, hcold⟩
    obtain h | h := h
    · exact h htwo
    · rw [h] at hcold
      cases hcold

end Sys2Proof.Machine
end

section
/-! Diode conversions and the thermal trip (R316, R343, R344, R352). -/

set_option Elab.async false

namespace Sys2Proof.Machine

/-! ## Rails that go OFF -/

/-- One phase of a rail that goes OFF (R249). -/
def State.phaseOff (s : State) (p : Nat) : State :=
  ((((s.wr H.PD_OFF_DUE p (s.fenceDue p)).wr R.PD_PH_STAT_STATE p 0).wr R.PD_PH_DUTY_DUTY p 0).pwm p .mid 0 0).clearElems
    [H.PD_RET_ACT, H.PD_SHED_STEP, H.PD_DEVC, H.PD_INVC, H.PD_CLAMPC, H.PD_SCRUN, H.PD_SC_THIS] p

/-- The phases that a rail which goes OFF takes with it. -/
def State.offPhases (s : State) (r : Nat) : List Nat := (s.phasesOf r).filter fun p => s.ph p != 5 && s.ph p != 7

section
variable {p : Nat}

theorem phaseOff_last (s : State) (x : Nat) : Frame (Frame.pwmReach.and (.regs [R.PD_PH_DUTY_DUTY, H.PD_RET_ACT, H.PD_SHED_STEP,
    H.PD_DEVC, H.PD_INVC, H.PD_CLAMPC, H.PD_SCRUN, H.PD_SC_THIS])) ((s.wr H.PD_OFF_DUE x (s.fenceDue x)).wr R.PD_PH_STAT_STATE x 0)
    (s.phaseOff x) := (Frame.refl _).wr.pwm.clearElems

theorem ph_phaseOff_same (hp : p < 128) (s : State) : (s.phaseOff p).rd R.PD_PH_STAT_STATE p = 0 := by
  rw [(phaseOff_last s p).rd (by decide +kernel), State.rd_wr_below hp _ _ (by decide) le_rfl, if_pos rfl]
  rfl

theorem ph_phaseOff_other {x : Nat} (hx : x ≠ p) (s : State) :
    (s.phaseOff x).rd R.PD_PH_STAT_STATE p = s.rd R.PD_PH_STAT_STATE p := by
  rw [(phaseOff_last s x).rd (by decide +kernel), State.rd_wr_idx _ hx (by decide), State.rd_wr_apart _ (by decide)]

theorem railOff_last (s : State) (r : Nat) : Frame (Frame.rerankReach.and (.regs [R.PD_RAIL_STAT_SKIPPING, R.PD_RAIL_STAT_RAMPING,
    H.PD_SHED_PEND, H.PD_DWELL_CNT, H.PD_SKIP_CNT, H.PD_SKIP_END, H.PD_PG_CNT, H.PD_PG])) ((s.offPhases r).foldl State.phaseOff s)
    (s.railOff r) := (Frame.refl _).clearElems.rerank

theorem railOff_frame (s : State) (r : Nat) : Frame Frame.railOffReach s (s.railOff r) := (Frame.refl s).railOff

/-- A phase that goes OFF with its rail, and one that does not. -/
theorem ph_railOff (hp : p < 128) (s : State) (r : Nat) : (s.railOff r).ph p = if p ∈ s.offPhases r then 0 else s.ph p := by
  rw [State.ph, (railOff_last s r).rd (by decide +kernel)]
  split
  · next h => exact rd_foldl_of_mem (fun u => ph_phaseOff_same hp u) (fun u x hx => ph_phaseOff_other hx u) h s
  · next h => exact rd_foldl_of_notMem (fun u x hx => ph_phaseOff_other hx u) h s

/-- The phase neither pulses nor waits to. -/
def State.still (s : State) (p : Nat) : Prop := s.ph p = 0 ∨ s.ph p = 5 ∨ s.ph p = 6 ∨ s.ph p = 7

theorem railOn_eq_false {s : State} {r : Nat} (h : ∀ p ∈ s.phasesOf r, s.still p) : s.railOn r = false := by
  rw [State.railOn, List.any_eq_false]
  intro p hp
  change ¬(s.ph p == 1 || s.ph p == 2 || s.ph p == 3 || s.ph p == 4) = true
  obtain h | h | h | h := h p hp <;> rw [h] <;> decide

theorem still_of_railOff (s : State) {r : Nat} (hp : p ∈ s.phasesOf r) : (s.railOff r).still p := by
  rw [State.still, ph_railOff (mem_phasesOf_lt hp)]
  split
  · exact .inl rfl
  · next h =>
    have hno : s.ph p = 5 ∨ s.ph p = 7 := by
      by_contra hc
      rw [not_or] at hc
      exact h (List.mem_filter.2 ⟨hp, by simp [hc]⟩)
    omega

theorem still_railOff_keep {s : State} (r : Nat) (hp : p < 128) (h : s.still p) : (s.railOff r).still p := by
  rw [State.still, ph_railOff hp]
  split
  · exact .inl rfl
  · exact h

theorem phasesOf_congr {s t : State} (hm : ∀ j, t.rd R.PD_RAIL_MASK_MASK j = s.rd R.PD_RAIL_MASK_MASK j) (r : Nat) :
    t.phasesOf r = s.phasesOf r := by rw [State.phasesOf, hm, State.phasesOf]

/-- Every rail that has been taken OFF is off. -/
theorem railsOff_off {l : List Nat} {r : Nat} (hr : r ∈ l) (s : State) : (l.foldl State.railOff s).railOn r = false := by
  have hframe : Frame Frame.railOffReach s (l.foldl State.railOff s) := (Frame.refl s).foldl fun _ _ hu => hu.railOff
  refine railOn_eq_false fun p hp => ?_
  rw [phasesOf_congr (hframe.rd (by decide +kernel))] at hp
  refine (foldl_at (g := State.railOff) (I := fun u => u.phasesOf r = s.phasesOf r)
    (Q := fun u => u.phasesOf r = s.phasesOf r ∧ u.still p) hr (fun u x hu => ?_) (fun u hu => ⟨?_, ?_⟩) (fun u x _ hq => ⟨?_, ?_⟩)
    s rfl).2
  · exact (phasesOf_congr ((railOff_frame u x).rd (by decide +kernel)) r).trans hu
  · exact (phasesOf_congr ((railOff_frame u r).rd (by decide +kernel)) r).trans hu
  · exact still_of_railOff u (hu ▸ hp)
  · exact (phasesOf_congr ((railOff_frame u x).rd (by decide +kernel)) r).trans hq.1
  · exact still_railOff_keep x (mem_phasesOf_lt hp) hq.2

end

/-! ## The queue to the Tally's writer -/

/-- Records have been queued behind those that wait. -/
def QueuesOn (s t : State) : Prop := ∃ l, t.tallyQueue = s.tallyQueue ++ l

section
variable {s t u : State}

theorem QueuesOn.of_eq (h : t.tallyQueue = s.tallyQueue) : QueuesOn s t := ⟨[], by simp [h]⟩

theorem QueuesOn.trans (h : QueuesOn s t) (h' : QueuesOn t u) : QueuesOn s u := by
  obtain ⟨l, hl⟩ := h
  obtain ⟨m, hm⟩ := h'
  exact ⟨l ++ m, by simp [hl, hm]⟩

theorem QueuesOn.get (h : QueuesOn s t) {i : Nat} {q : TallyReq} (hq : s.tallyQueue[i]? = some q) : t.tallyQueue[i]? = some q := by
  obtain ⟨l, hl⟩ := h
  rw [hl]
  exact List.getElem?_append_left (List.getElem?_eq_some_iff.1 hq).1 ▸ hq

theorem tally_queuesOn (s : State) (c v k a b : Nat) (inj : Bool) : QueuesOn s (s.tally c v k a b inj) := by
  unfold State.tally
  dsimp only
  split
  · split
    · exact ⟨_, rfl⟩
    · exact .of_eq rfl
  · split
    · exact .of_eq rfl
    · exact .of_eq rfl

theorem Frame.queuesOn {r : Reach} (h : Frame r s t) (hp : r.hasPart .tallyQueue = false := by rfl) : QueuesOn s t :=
  .of_eq (h.parts .tallyQueue hp)

/-- What a source's change reaches beside the record of it. -/
def noRecord : Reach := ⟨[.store, .mesh, .fltQueue, .out], faultFields ++ Frame.hostIrqReach.flds⟩

/-- What the start of a kind's test reaches beside the test's own registers. -/
def actionReach : Reach := ⟨[.mesh, .out], [H.LE_GOLD_J, H.LE_GOLD_OK, H.LE_GOLD_TWIN, H.PD_TEST_PULSE, H.PD_LOOP_PH, H.PD_LOOP_RAIL,
  H.TH_RESWEEP, H.TH_REF_DUE, H.GL_SPENT]⟩

theorem testAction_frame (s : State) (k i : Nat) : Frame actionReach s (s.testAction k i) := by
  unfold State.testAction
  split
  · exact (Frame.refl s).wr.wr.wr
  · exact Frame.ite ((Frame.refl s).when fun _ hu => hu.wr) (Frame.refl s).wr
  · exact (Frame.refl s).wr
  · split
    · exact (Frame.refl s).wr
    · exact .refl s
  · exact (Frame.refl s).wr
  · exact (Frame.refl s).when fun _ hu => hu.wr
  · exact (Frame.refl s).wr
  · exact (Frame.refl s).when fun _ hu => hu.sendRes1
  · exact (Frame.refl s).wr
  · exact .refl s

theorem startTest_noRecord (s : State) (n : Nat) : Frame noRecord s (s.startTest n) := by
  unfold State.startTest
  split
  · exact .refl s
  · exact Frame.ite (.refl s) ((Frame.refl s).wr.wr.wr.wr.wr.andThen (testAction_frame _ _ _))

/-- What telling the host of a change reaches. -/
def eventReach : Reach := ⟨[.store, .fltQueue, .out], [R.FLT_STATUS_QLOST, R.HOST_STAT_EV_LOST, R.RING_POS_CPL_TAIL, H.STORE_ECC]
  ++ Frame.hostIrqReach.flds⟩

theorem postEvent_event (s : State) (e : FltEvent) : Frame eventReach s (s.postEvent e) := by
  unfold State.postEvent State.postCpl
  exact Frame.ite (Frame.ite (Frame.refl s).inc (Frame.refl s).stBytes.wr.hostIrq.hostIrq) (.refl s)

theorem pushEvent_event (s : State) (e : FltEvent) : Frame eventReach s (s.pushEvent e) := by
  have hdrain (u : State) : Frame eventReach u u.drainEvents :=
    Frame.ite ((Frame.refl u).setFltQueue.foldl fun v x hv => hv.trans (postEvent_event v x)) (.refl u)
  exact (Frame.ite (Frame.refl s).setFltQueue.inc (Frame.refl s).setFltQueue).trans (hdrain _)

theorem pushEvent_noRecord (s : State) (e : FltEvent) : Frame noRecord s (s.pushEvent e) :=
  (pushEvent_event s e).mono (by decide +kernel)

theorem enterState_noRecord (s : State) (n st : Nat) : Frame noRecord s (s.enterState n st) :=
  ((Frame.refl s).wr.wr.wr.wr.wr.wr).trans (pushEvent_noRecord _ _)

theorem raise_queuesOn (s : State) (n cls : Nat) (inj : Bool) : QueuesOn s (s.raise n cls inj) := by
  have htest {u : State} (h : QueuesOn s u) : QueuesOn s (u.startTest n) := h.trans (startTest_noRecord u n).queuesOn
  have henter {u : State} (h : QueuesOn s u) (st : Nat) : QueuesOn s (u.enterState n st) :=
    h.trans (enterState_noRecord u n st).queuesOn
  have hcalm {u : State} (h : QueuesOn s u) : QueuesOn s (u.wr H.FLT_SEV_DUE n 0) := h.trans (.of_eq rfl)
  have hnmi {u : State} (h : QueuesOn s u) : QueuesOn s u.nmiAll := h.trans ((Frame.refl u).nmiAll (ρ := noRecord)).queuesOn
  have hrecord {u : State} (h : QueuesOn s u) (c : Bool) : QueuesOn s (u.when c fun t => t.srcRecord n) := by
    cases c
    · exact h
    · exact h.trans (tally_queuesOn u _ _ _ _ _ _)
  have hcount (k c : Nat) (b : Bool) : QueuesOn s ((((s.countEvent n k).wrB R.FLT_SRC_STATE_INJECTED n inj).wr
      R.FLT_SRC_STATE_CLASS n c).when b fun t => t.wr H.FLT_SEV_DUE n 1) := by
    have hevent : Frame noRecord s (s.countEvent n k) := Frame.ite (Frame.refl s).inc.wr.wr (Frame.refl s).inc.inc
    exact (hevent.wrB.wr.when fun _ hu => hu.wr).queuesOn
  unfold State.raise
  split
  · exact .of_eq rfl
  split
  · exact .of_eq rfl
  refine hrecord ?_ _
  split
  · split
    · exact htest (hcount _ _ _)
    · exact hnmi (henter (htest (hcalm (hcount _ _ _))) 5)
  split
  · exact hcount _ _ _
  split
  · exact htest (hcount _ _ _)
  · exact henter (htest (hcount _ _ _)) 1

theorem fault_queuesOn (s : State) (k i cls : Nat) (inj : Bool) : QueuesOn s (s.fault k i cls inj) := raise_queuesOn s _ cls inj

/-- A record for which there is a place stands behind those that wait. -/
theorem tally_queued (hr : s.bit R.TALLY_STAT_RESTORED 0 = true) (hlen : s.tallyQueue.length < 16) (c v k a b : Nat) (inj : Bool) :
    (s.tally c v k a b inj).tallyQueue = s.tallyQueue ++ [⟨c, v, k, [a, b], inj⟩] := by
  rw [State.tally, if_pos hr, if_pos hlen]

end

/-! ## Diodes -/

theorem diodeOwn_lt {s : State} {c : Nat} (h : s.diodeOwn c = true) : c < 56 := by
  have hp : diodePresent s.zk4 c = true := by
    rw [State.diodeOwn, Bool.and_eq_true] at h
    exact h.1
  cases hz : s.zk4 <;> simp [diodePresent, hz] at hp <;> omega

/-- A conversion stands in the registers of its channel. -/
def State.takeConversion (s : State) (c : Nat) (temp : Int) : State :=
  ((s.diodeReading c (ofS 16 temp)).wr H.TH_DIODE_NEW c 1).wrB R.TH_DIODE_ABOVE c (decide (1840 ≤ temp))

/-- The trip is latched with its channel and its last reading. -/
def State.latchTrip (s : State) (c : Nat) : State :=
  ((s.wr R.TH_TRIP_LATCHED 0 1).wr R.TH_TRIP_DIODE 0 c).wr R.TH_TRIP_TEMP 0 (s.rd H.TH_DIODE_LAST c)

/-- The net's low state is recorded, and the rails of a Zoskare that drives them go OFF. -/
def State.netLow (s : State) : State :=
  (s.wr R.TH_TRIP_NET_LOW 0 1).when (s.holder || s.bit R.TWIN_STATUS_GATE_OWN 0) fun t =>
    (railList t.zk4).foldl State.railOff t

section
variable {s : State} {c : Nat} {temp : Int}

theorem takeConversion_frame (s : State) (c : Nat) (temp : Int) : Frame (.regs [R.TH_DIODE_READING, H.TH_DIODE_LAST,
    H.TH_DIODE_AGE, H.TH_DIODE_NEW, R.TH_DIODE_ABOVE]) s (s.takeConversion c temp) := (Frame.refl s).diodeReading.wr.wrB

theorem takeConversion_of_own (h : s.diodeOwn c = true) : s.takeConversion c temp
    = ((((s.wr R.TH_DIODE_READING c (ofS 16 temp)).wr H.TH_DIODE_LAST c (ofS 16 temp)).wr H.TH_DIODE_AGE c 0).wr H.TH_DIODE_NEW c
        1).wrB R.TH_DIODE_ABOVE c (decide (1840 ≤ temp)) := by
  rw [State.diodeOwn, Bool.and_eq_true] at h
  rw [State.takeConversion, State.diodeReading, if_pos h.1]

theorem exec_diodeConversion (h : s.diodeOwn c = true) : exec (.diodeConversion c temp) s
    = (if s.holder then s.takeConversion c temp else (s.takeConversion c temp).send (.bulk ⟨true, .diode c temp⟩)).go := by
  change execDiodeConversion _ _ _ = _
  rw [execDiodeConversion, if_pos h]
  rfl

theorem exec_diodeConversion_foreign (h : s.diodeOwn c = false) : exec (.diodeConversion c temp) s = .next s := by
  change execDiodeConversion _ _ _ = _
  rw [execDiodeConversion, if_neg (by simp [h]), State.go]

theorem exec_diodeTrip (h : s.diodeOwn c = true) (ht : 1840 ≤ temp) : exec (.diodeTrip c temp) s
    = (if s.bit R.TH_TRIP_LATCHED 0 then s.wr R.TH_DIODE_ABOVE c 1 else (s.wr R.TH_DIODE_ABOVE c 1).latchTrip c).go := by
  change execDiodeTrip _ _ _ = _
  rw [execDiodeTrip, if_pos (by simp [h, ht])]
  simp (disch := decide) only [State.latchTrip, State.rd_wr_apart]

theorem exec_diodeTrip_quiet (h : s.diodeOwn c = false ∨ temp < 1840) : exec (.diodeTrip c temp) s = .next s := by
  change execDiodeTrip _ _ _ = _
  rw [execDiodeTrip, if_neg, State.go]
  simp only [Bool.and_eq_true, decide_eq_true_eq]
  rintro ⟨hown, ht⟩
  obtain h | h := h
  · rw [h] at hown
    cases hown
  · omega

theorem exec_thermtripNetLow (h : s.bit R.TH_TRIP_NET_LOW 0 = false) : exec .thermtripNetLow s
    = ((s.netLow.tally 1 3 1 (s.rd R.TH_TRIP_DIODE 0) (s.rd R.TH_TRIP_TEMP 0)).fault 0x11 0 2).go := by
  change execThermtripNetLow _ = _
  rw [execThermtripNetLow, h]
  rfl

theorem netLow_frame (s : State) : Frame (Frame.railOffReach.and (.regs [R.TH_TRIP_NET_LOW])) s s.netLow :=
  (Frame.refl s).wr.when fun _ hu => hu.foldl fun _ _ hv => hv.railOff

/-- What follows the rails' going OFF, as far as it leaves registers alone. -/
theorem netLow_told (s u : State) : Frame (.fault faultFields) u
    ((u.tally 1 3 1 (s.rd R.TH_TRIP_DIODE 0) (s.rd R.TH_TRIP_TEMP 0)).fault 0x11 0 2) := (Frame.refl u).tally.fault

theorem netLow_set (s : State) : s.netLow.bit R.TH_TRIP_NET_LOW 0 = true := by
  have hrails (u : State) (l : List Nat) : Frame Frame.railOffReach u (l.foldl State.railOff u) :=
    (Frame.refl u).foldl fun _ _ hv => hv.railOff
  rw [State.netLow, State.bit_when, (hrails _ _).bit (by decide +kernel), ite_self, State.bit_wr_below Nat.zero_lt_one _ _ (by decide)
    (by decide) rfl, if_pos rfl]
  rfl

/-- The fault of the net that goes low. -/
theorem netLow_raised (s : State) :
    Raised 0x382 2 s ((s.netLow.tally 1 3 1 (s.rd R.TH_TRIP_DIODE 0) (s.rd R.TH_TRIP_TEMP 0)).fault 0x11 0 2) := by
  have hbefore : Frame ((Frame.railOffReach.and (.regs [R.TH_TRIP_NET_LOW])).and Frame.tallyReach) s
      (s.netLow.tally 1 3 1 (s.rd R.TH_TRIP_DIODE 0) (s.rd R.TH_TRIP_TEMP 0)) := ((netLow_frame s).mono (by decide +kernel)).tally
  refine Raised.after hbefore.kinds (by decide +kernel) (State.fault_raised _ rfl ?_ le_rfl)
  cases State.zk4 _ <;> rfl

end

/-- Settles O17. -/
theorem diodesAndThermalTrip : Obligations.DiodesAndThermalTrip := by
  unfold Obligations.DiodesAndThermalTrip
  refine ⟨?_, ?_, ?_, ?_, ?_, ?_, ?_, ?_, ?_⟩
  · intro s c temp hown hlo hhi
    have hc : c < 64 := (diodeOwn_lt hown).trans (by decide)
    have hall : Frame (.regsOut [R.TH_DIODE_READING, H.TH_DIODE_LAST, H.TH_DIODE_AGE, H.TH_DIODE_NEW, R.TH_DIODE_ABOVE]) s
        (if s.holder then s.takeConversion c temp else (s.takeConversion c temp).send (.bulk ⟨true, .diode c temp⟩)) :=
      Frame.ite ((takeConversion_frame s c temp).mono (by decide)) ((takeConversion_frame s c temp).mono (by decide)).send
    have hset : (s.takeConversion c temp).rdS R.TH_DIODE_READING c = temp ∧ (s.takeConversion c temp).rd H.TH_DIODE_AGE c = 0
        ∧ (s.takeConversion c temp).bit R.TH_DIODE_ABOVE c = decide (1840 ≤ temp) := by
      rw [takeConversion_of_own hown]
      simp (disch := decide) only [State.rdS, State.rd_wr_apart, State.rd_wrB_apart, State.rd_wr_below hc, State.bit_wrB_below hc,
        if_true]
      exact ⟨toS_mod_ofS hlo hhi, rfl, trivial⟩
    have hread (f : Fld) : (if s.holder then s.takeConversion c temp
        else (s.takeConversion c temp).send (.bulk ⟨true, .diode c temp⟩)).rd f c = (s.takeConversion c temp).rd f c := by
      split <;> rfl
    obtain ⟨hreading, hage, habove⟩ := hset
    refine .of_go (exec_diodeConversion hown) ⟨?_, (hread _).trans hage, ?_, ?_, hall.kinds, hall.onlyRegsOut⟩
    · rw [State.rdS, hread, ← State.rdS, hreading]
    · rw [State.bit, hread, ← State.bit, habove]
    · rw [← (takeConversion_frame s c temp).out]
      split <;> rfl
  · intro s c temp hown ht hno
    have hc : c < 64 := (diodeOwn_lt hown).trans (by decide)
    have hlast : s.rd H.TH_DIODE_LAST c < 65536 := s.rd_lt H.TH_DIODE_LAST c
    have hall : Frame (.regs [R.TH_DIODE_ABOVE, R.TH_TRIP_LATCHED, R.TH_TRIP_DIODE, R.TH_TRIP_TEMP]) s
        ((s.wr R.TH_DIODE_ABOVE c 1).latchTrip c) := (Frame.refl s).wr.wr.wr.wr
    refine .of_go ((exec_diodeTrip hown ht).trans (by rw [hno]; rfl)) ⟨?_, ?_, ?_, ?_, hall.kinds, hall.onlyRegs⟩
    · simp (disch := decide) only [State.latchTrip, State.bit_wr_apart, State.bit_wr_below Nat.zero_lt_one, if_true]
      rfl
    · simp (disch := decide) only [State.latchTrip, State.rd_wr_apart, State.rd_wr_zero, if_true]
      exact Nat.mod_eq_of_lt hc
    · simp (disch := decide) only [State.latchTrip, State.rd_wr_apart, State.rd_wr_zero, if_true]
      exact Nat.mod_eq_of_lt hlast
    · simp (disch := decide) only [State.latchTrip, State.bit_wr_apart, State.bit_wr_below hc, if_true]
      rfl
  · intro s c temp hlatched
    by_cases h : s.diodeOwn c = true ∧ 1840 ≤ temp
    · have hall : Frame (.regs [R.TH_DIODE_ABOVE]) s (s.wr R.TH_DIODE_ABOVE c 1) := (Frame.refl s).wr
      exact .of_go ((exec_diodeTrip h.1 h.2).trans (by rw [hlatched]; rfl))
        ⟨hall.rd (by decide) 0, hall.rd (by decide) 0, hall.kinds, hall.onlyRegs⟩
    · refine ⟨s, exec_diodeTrip_quiet ?_, rfl, rfl, OnlyKinds.refl _ _, rfl⟩
      rw [not_and_or, Bool.not_eq_true, not_le] at h
      exact h
  · intro s hno hh hgate
    have hquiet : s.netLow = s.wr R.TH_TRIP_NET_LOW 0 1 := by
      rw [State.netLow, hh, hgate]
      rfl
    have hall : Frame (.fault (faultFields ++ [R.TH_TRIP_NET_LOW])) s
        ((s.netLow.tally 1 3 1 (s.rd R.TH_TRIP_DIODE 0) (s.rd R.TH_TRIP_TEMP 0)).fault 0x11 0 2) := by
      rw [hquiet]
      exact (Frame.refl s).wr.tally.fault
    refine .of_go (exec_thermtripNetLow hno) ⟨?_, netLow_raised s, hall.kinds, hall.onlyFault⟩
    rw [(netLow_told s _).bit (by decide +kernel), netLow_set]
  · intro s hno hdrives
    refine .of_go (exec_thermtripNetLow hno) ⟨?_, netLow_raised s, fun r hr => ?_⟩
    · rw [(netLow_told s _).bit (by decide +kernel), netLow_set]
    · rw [railOn_congr ((netLow_told s _).rd (by decide +kernel)) ((netLow_told s _).rd (by decide +kernel)), State.netLow,
        (by simpa using hdrives : (s.holder || s.bit R.TWIN_STATUS_GATE_OWN 0) = true), State.when_true]
      exact railsOff_off hr _
  · intro s hno hrestored hlen
    refine .of_go (exec_thermtripNetLow hno) ((fault_queuesOn _ _ _ _ _).get ?_)
    have hqueue : s.netLow.tallyQueue = s.tallyQueue := (netLow_frame s).parts .tallyQueue rfl
    rw [tally_queued (((netLow_frame s).bit (g := R.TALLY_STAT_RESTORED) (by decide +kernel) 0).trans hrestored) (by rw [hqueue]; omega), hqueue]
    simp
  · intro s hlow
    change execThermtripNetLow _ = _
    rw [execThermtripNetLow, if_pos hlow, State.go]
  · exact fun s c temp h => ⟨exec_diodeConversion_foreign h, exec_diodeTrip_quiet (.inl h)⟩
  · exact fun s c temp h => exec_diodeTrip_quiet (.inr h)

end Sys2Proof.Machine
end

section
/-! Fence acknowledgements, route states, and the parking of stiles (R339–R342, R347, R430). -/

set_option Elab.async false

namespace Sys2Proof.Machine

theorem flockCount_le (z : Bool) : flockCount z ≤ 64 := by cases z <;> decide

theorem srcPresent_flock {z : Bool} {f : Nat} (h : f < flockCount z) : srcPresent z (0x31C + f) = true := by
  have hf := h.trans_le (flockCount_le z)
  have hk : srcKind (0x31C + f) = some (0x0C, f) := by
    simp (disch := omega) only [srcKind, if_neg, if_pos, Nat.add_sub_cancel_left]
  simp [srcPresent, hk, h]

/-- A reserved-class message to one target that has a credit. -/
theorem sendRes_one {s : State} {e : Endpoint} (h : s.rd H.GL_SPENT e.num < 2) (m : MeshMsg) :
    s.sendRes m [e] = (s.wr H.GL_SPENT e.num (s.rd H.GL_SPENT e.num + 1)).send (.mesh [e] m) := by
  rw [State.sendRes, List.foldl_cons, List.foldl_nil, State.sendRes1, if_pos h]

/-! ## Fences -/

/-- The tile of which an acknowledgement tells. -/
def ackTile (flock : Nat) (m : FenceAckMsg) : Nat := 192 * (flock / 16) + 12 * (flock % 16) + m.tile

/-- What an acknowledgement tells of fences. -/
def State.ackFence (s : State) (flock : Nat) (m : FenceAckMsg) : State :=
  (s.when (m.fenced && m.forced) fun u => u.fault 0x0C flock 1).when
    (!m.fenced && m.stileOn && s.bit H.TH_UNF_SENT (ackTile flock m)) fun u => u.wr H.TH_UNF_ACK (ackTile flock m) 1

section
variable {s : State} {flock : Nat} {m : FenceAckMsg}

theorem exec_fenceAck (hf : flock < flockCount s.zk4) (ht : m.tile < 12) (hr : m.rsv = 0) : exec (.fenceAck flock m) s
    = (if !m.stileOn && s.bit H.TH_OFF_SENT flock && !s.bit R.TH_ROUTE_IN_USE flock then
        (((s.ackFence flock m).wr H.TH_OFF_SENT flock 0).wr R.TH_STILE_PARKED flock 1).stileSites flock
      else s.ackFence flock m).go := by
  change execFenceAck _ _ _ = _
  rw [execFenceAck, if_neg (by omega)]
  rfl

theorem exec_fenceAck_ignored (h : m.rsv ≠ 0 ∨ flockCount s.zk4 ≤ flock ∨ 12 ≤ m.tile) : exec (.fenceAck flock m) s = .next s := by
  change execFenceAck _ _ _ = _
  rw [execFenceAck, if_pos h, State.go]

theorem ackFence_quiet (h : (m.fenced && m.forced) = false) (h' : (!m.fenced && m.stileOn
    && s.bit H.TH_UNF_SENT (ackTile flock m)) = false) : s.ackFence flock m = s := by
  rw [State.ackFence, h, h']
  rfl

end

/-! ## Stiles -/

/-- The sites of a stile (R342). -/
def stileSite (flock j : Nat) : Nat := 240 * (flock / 16) + 15 * (flock % 16) + j

section
variable {s : State} {flock j k : Nat}

theorem siteFlock_stileSite (hj : j < 15) : siteFlock (stileSite flock j) = flock := by
  unfold siteFlock stileSite
  omega

theorem siteTile_stileSite (hj : j ∈ [12, 13, 14]) : siteTile (stileSite flock j) = none := by
  have hlt : 12 ≤ j ∧ j < 15 := by simp at hj; omega
  rw [siteTile, if_neg]
  unfold stileSite
  omega

theorem siteHeld_of_parked (hf : flock < 64) (hj : j ∈ [12, 13, 14]) (hp : s.bit R.TH_STILE_PARKED flock = true) :
    s.siteHeld (stileSite flock j) = 4 := by
  have hlt : j < 15 := by simp at hj; omega
  have hsite : stileSite flock j < 960 := by unfold stileSite; omega
  rw [State.siteHeld, State.excluded, siteTile_stileSite hj, siteFlock_stileSite hlt]
  simp [hsite, hp]

theorem siteExclude_frame (s : State) (k : Nat) : Frame (.regs [R.TH_SITE_STATE, R.TH_PAD_STAT_SUSPECT, R.TH_PAD_STAT_FAILED,
    R.TH_PAD_STAT_EXCLUDED]) s (s.siteExclude k) := (Frame.refl s).siteExclude

theorem siteExclude_other {x : Nat} (h : x ≠ k) (s : State) : (s.siteExclude x).rd R.TH_SITE_STATE k = s.rd R.TH_SITE_STATE k := by
  unfold State.siteExclude
  dsimp only
  split
  · rfl
  · rw [(recount_frame _ _).rd (by decide), State.rd_wr_idx _ h (by decide)]

theorem siteExclude_same (hk : k < 1536) (hp : s.rd R.TH_SITE_PADDOCK k ≠ 0xFF) (hheld : s.siteHeld k = 4) :
    (s.siteExclude k).rd R.TH_SITE_STATE k = 4 := by
  rw [State.siteExclude, if_neg hp, (recount_frame _ _).rd (by decide), State.rd_wr_below hk _ _ (by decide) le_rfl, if_pos rfl, hheld]
  rfl

/-- The sites of a parked stile are EXCLUDED. -/
theorem stileSites_excludes (hf : flock < 64) (hp : s.bit R.TH_STILE_PARKED flock = true) (hj : j ∈ [12, 13, 14])
    (hpad : s.rd R.TH_SITE_PADDOCK (stileSite flock j) ≠ 0xFF) :
    (s.stileSites flock).rd R.TH_SITE_STATE (stileSite flock j) = 4 := by
  have hlt : j < 15 := by simp at hj; omega
  have hsite : stileSite flock j < 1536 := by unfold stileSite; omega
  refine foldl_at (g := fun (t : State) j => t.siteExclude (stileSite flock j)) (I := fun u => u.bit R.TH_STILE_PARKED flock = true
    ∧ u.rd R.TH_SITE_PADDOCK (stileSite flock j) ≠ 0xFF) (Q := fun u => u.rd R.TH_SITE_STATE (stileSite flock j) = 4) hj
    (fun u x hu => ⟨?_, ?_⟩) (fun u hu => siteExclude_same hsite hu.2 (siteHeld_of_parked hf hj hu.1)) (fun u x hu hq => ?_) s
    ⟨hp, hpad⟩
  · rw [(siteExclude_frame u _).bit (by decide), hu.1]
  · rw [(siteExclude_frame u _).rd (by decide)]
    exact hu.2
  · by_cases hx : stileSite flock x = stileSite flock j
    · exact hx.symm ▸ siteExclude_same hsite hu.2 (siteHeld_of_parked hf hj hu.1)
    · rwa [siteExclude_other hx]

/-- The conditions on which STILE_OFF goes to a stile. -/
theorem exec_stilePark (hf : flock < flockCount s.zk4)
    (hfenced : ∀ j < 12, s.bit R.TH_FENCED_FENCED (192 * (flock / 16) + 12 * (flock % 16) + j) = true)
    (hroute : s.bit R.TH_ROUTE_IN_USE flock = false) (hage : 64 ≤ s.frame - s.rd H.TH_USE_END flock)
    (hparked : s.bit R.TH_STILE_PARKED flock = false) (hoff : s.bit H.TH_OFF_SENT flock = false)
    (hdemand : s.bit H.TH_DEMAND flock = false) :
    exec (.stilePark flock) s = ((s.wr H.TH_OFF_SENT flock 1).guard (.stileOff flock) [.router flock]).go := by
  change execStilePark _ _ = _
  have hall : ((List.range 12).all fun j => s.bit R.TH_FENCED_FENCED (192 * (flock / 16) + 12 * (flock % 16) + j)) = true :=
    List.all_eq_true.2 fun j hj => hfenced j (List.mem_range.1 hj)
  rw [execStilePark, if_pos (by simp only [hf, hall, hroute, hage, hparked, hoff, hdemand]; rfl)]

theorem exec_stilePark_quiet (h : s.bit R.TH_ROUTE_IN_USE flock = true ∨ s.frame - s.rd H.TH_USE_END flock < 64
    ∨ s.bit R.TH_STILE_PARKED flock = true) : exec (.stilePark flock) s = .next s := by
  change execStilePark _ _ = _
  rw [execStilePark, if_neg, State.go]
  obtain h | h | h := h
  · simp [h]
  · simp [h]
  · simp [h]

end

/-! ## Routes -/

/-- What a route's state tells of its use (R342). -/
def State.noteUse (s : State) (flock : Nat) (inUse : Bool) : State :=
  ((s.when (s.bit R.TH_ROUTE_IN_USE flock && !inUse) fun t => t.wr H.TH_USE_END flock s.frame).wrB R.TH_ROUTE_IN_USE flock
    inUse).when inUse fun t => t.wr H.TH_DEMAND flock 1

section
variable {s : State} {flock : Nat} {m : RouteMsg}

theorem exec_routeState (hf : flock < flockCount s.zk4) (hr : m.rsv = 0) : exec (.routeState flock m) s
    = ((s.noteUse flock m.inUse).when (m.demand && decide (m.demanded < flockCount s.zk4)) fun t =>
        t.wr H.TH_DEMAND m.demanded 1).go := by
  change execRouteState _ _ _ = _
  rw [execRouteState, if_neg (by omega)]
  rfl

theorem exec_routeState_ignored (h : m.rsv ≠ 0 ∨ flockCount s.zk4 ≤ flock) : exec (.routeState flock m) s = .next s := by
  change execRouteState _ _ _ = _
  rw [execRouteState, if_pos h, State.go]

theorem noteUse_frame (s : State) (flock : Nat) (inUse : Bool) :
    Frame (.regs [H.TH_USE_END, R.TH_ROUTE_IN_USE, H.TH_DEMAND]) s (s.noteUse flock inUse) :=
  ((Frame.refl s).when fun _ hu => hu.wr).wrB.when fun _ hu => hu.wr

/-- A demand that has been noted stands. -/
theorem bit_demand_wr {i j : Nat} (hi : i < 64) (s : State) (h : i = j ∨ s.bit H.TH_DEMAND j = true) :
    (s.wr H.TH_DEMAND i 1).bit H.TH_DEMAND j = true := by
  rw [State.bit_wr_below hi _ _ (by decide) le_rfl rfl]
  split
  · rfl
  · next hne =>
    obtain h | h := h
    · exact absurd h.symm hne
    · exact h

end

/-- Settles O19. -/
theorem fencesAndStiles : Obligations.FencesAndStiles := by
  unfold Obligations.FencesAndStiles
  refine ⟨?_, ?_, ?_, ?_, ?_, ?_, ?_, ?_, ?_⟩
  · intro s flock m hf ht hr hfenced hforced hon
    have hack : s.ackFence flock m = s.fault 0x0C flock 1 := by
      rw [State.ackFence, hfenced, hforced, hon]
      rfl
    have hall := fault_frame s 0x0C flock 1
    refine .of_go ((exec_fenceAck hf ht hr).trans (by rw [hon, hack]; rfl)) ⟨?_, hall.kinds, hall.onlyFault⟩
    exact State.fault_raised _ rfl (srcPresent_flock hf) (by decide)
  · intro s flock m hf ht hr hfenced hon hsent
    rw [exec_fenceAck hf ht hr, hon, State.ackFence, hfenced, hon, show s.bit H.TH_UNF_SENT (ackTile flock m) = true from hsent]
    rfl
  · intro s flock m hf ht hr hforced hon hoff hroute
    have hlt := hf.trans_le (flockCount_le _)
    have hall : Frame (.regs [H.TH_OFF_SENT, R.TH_STILE_PARKED, R.TH_SITE_STATE, R.TH_PAD_STAT_SUSPECT, R.TH_PAD_STAT_FAILED,
        R.TH_PAD_STAT_EXCLUDED]) s (((s.wr H.TH_OFF_SENT flock 0).wr R.TH_STILE_PARKED flock 1).stileSites flock) :=
      (Frame.refl s).wr.wr.stileSites
    have hsites (u : State) : Frame (.regs [R.TH_SITE_STATE, R.TH_PAD_STAT_SUSPECT, R.TH_PAD_STAT_FAILED, R.TH_PAD_STAT_EXCLUDED])
        u (u.stileSites flock) := (Frame.refl u).stileSites
    have hparked : ((s.wr H.TH_OFF_SENT flock 0).wr R.TH_STILE_PARKED flock 1).bit R.TH_STILE_PARKED flock = true := by
      rw [State.bit_wr_below hlt _ _ (by decide) le_rfl rfl, if_pos rfl]
      rfl
    refine .of_go ((exec_fenceAck hf ht hr).trans (by rw [hon, hoff, hroute, ackFence_quiet hforced (by simp [hon])]; rfl))
      ⟨?_, ?_, fun j hj hpad => stileSites_excludes hlt hparked hj ?_, hall.kinds, hall.onlyRegs⟩
    · rw [(hsites _).bit (by decide), hparked]
    · rw [(hsites _).bit (by decide), State.bit_wr_apart _ (by decide), State.bit_wr_below hlt _ _ (by decide) le_rfl rfl, if_pos rfl]
      rfl
    · rw [State.rd_wr_apart _ (by decide), State.rd_wr_apart _ (by decide)]
      exact hpad
  · intro s flock m hf hr
    have hlt := hf.trans_le (flockCount_le _)
    have hlast (u : State) : Frame (.regs [H.TH_DEMAND]) u (u.when (m.demand && decide (m.demanded < flockCount s.zk4)) fun t =>
        t.wr H.TH_DEMAND m.demanded 1) := (Frame.refl u).when fun _ hv => hv.wr
    have hall := (noteUse_frame s flock m.inUse).andThen (hlast _)
    refine .of_go (exec_routeState hf hr) ⟨?_, fun huse => ?_, fun hd hdl => ?_, fun hwas hends => ?_, hall.kinds, hall.onlyRegs⟩
    · rw [(hlast _).bit (by decide), State.noteUse, State.bit_when, State.bit_wr_apart _ (by decide), ite_self,
        State.bit_wrB_below hlt _ _ (by decide) le_rfl rfl, if_pos rfl]
    · have hset : (s.noteUse flock m.inUse).bit H.TH_DEMAND flock = true := by
        rw [State.noteUse, huse, State.when_true]
        exact bit_demand_wr hlt _ (.inl rfl)
      rw [State.bit_when]
      split
      · next h =>
        simp only [Bool.and_eq_true, decide_eq_true_eq] at h
        exact bit_demand_wr (h.2.trans_le (flockCount_le _)) _ (.inr hset)
      · exact hset
    · rw [hd, decide_eq_true hdl, Bool.and_self, State.when_true]
      exact bit_demand_wr (hdl.trans_le (flockCount_le _)) _ (.inl rfl)
    · have hframe : s.frame < 2 ^ 64 := s.rd_lt R.FRAME_COUNT 0
      rw [(hlast _).rd (by decide), State.noteUse, hwas, hends, State.when_false, State.rd_wrB_apart _ (by decide), Bool.not_false,
        Bool.and_self, State.when_true, State.rd_wr_below hlt _ _ (by decide) le_rfl, if_pos rfl]
      exact Nat.mod_eq_of_lt hframe
  · intro s flock hf hfenced hroute hage hparked hoff hdemand hh hfree
    have hlt := hf.trans_le (flockCount_le _)
    have hsend : (s.wr H.TH_OFF_SENT flock 1).guard (.stileOff flock) [.router flock]
        = ((s.wr H.TH_OFF_SENT flock 1).wr H.GL_SPENT (32 + flock) (s.rd H.GL_SPENT (32 + flock) + 1)).send
            (.mesh [.router flock] (.stileOff flock)) := by
      rw [State.guard, if_pos ((holder_congr (State.rd_wr_apart _ (by decide) _ _ _)).trans hh), sendRes_one]
      · change ((s.wr H.TH_OFF_SENT flock 1).wr H.GL_SPENT (32 + flock) ((s.wr H.TH_OFF_SENT flock 1).rd H.GL_SPENT (32 + flock)
          + 1)).send _ = _
        rw [State.rd_wr_apart _ (by decide)]
      · change (s.wr H.TH_OFF_SENT flock 1).rd H.GL_SPENT (32 + flock) < 2
        rwa [State.rd_wr_apart _ (by decide)]
    have hall : Frame (.regsMesh [H.TH_OFF_SENT, H.GL_SPENT]) s (((s.wr H.TH_OFF_SENT flock 1).wr H.GL_SPENT (32 + flock)
        (s.rd H.GL_SPENT (32 + flock) + 1)).send (.mesh [.router flock] (.stileOff flock))) := (Frame.refl s).wr.wr.send
    refine .of_go ((exec_stilePark hf hfenced hroute hage hparked hoff hdemand).trans (congrArg State.go hsend))
      ⟨?_, rfl, hall.kinds, hall.onlyRegsMesh⟩
    rw [State.bit_send, State.bit_wr_apart _ (by decide), State.bit_wr_below hlt _ _ (by decide) le_rfl rfl, if_pos rfl]
    rfl
  · exact fun s flock m h => exec_fenceAck_ignored h
  · intro s flock m hforced hsent hquiet
    by_cases hvalid : m.rsv ≠ 0 ∨ flockCount s.zk4 ≤ flock ∨ 12 ≤ m.tile
    · exact exec_fenceAck_ignored hvalid
    · have hnone : (!m.fenced && m.stileOn && s.bit H.TH_UNF_SENT (ackTile flock m)) = false := by
        obtain h | h := hsent
        · simp [h]
        · simp [show s.bit H.TH_UNF_SENT (ackTile flock m) = false from h]
      rw [exec_fenceAck (by omega) (by omega) (by omega), ackFence_quiet hforced hnone, if_neg, State.go]
      obtain h | h := hquiet
      · simp [h]
      · simp [h]
  · exact fun s flock m h => exec_routeState_ignored h
  · exact fun s flock h => exec_stilePark_quiet h

end Sys2Proof.Machine
end

section
/-! Readings of a sweep, its close, and the sample FIFO (R319–R321, R347, R459, R464, R570–R573). -/

set_option Elab.async false

namespace Sys2Proof.Machine

/-- A flag that reads 1 and resets to 0 is one that its field has. -/
theorem State.lt_of_bit {s : State} {f : Fld} {i : Nat} (h : s.bit f i = true) (h0 : f.init = .all 0) : i < f.cnt := by
  by_contra hi
  simp only [bit, rd, regsRd, if_neg hi, Fld.resetAt, h0, Nat.zero_mod] at h
  cases h

theorem Frame.sweeps {r : Reach} {s t : State} (h : Frame r s t) (hp : r.hasPart .sweeps = false := by rfl) : t.sweeps = s.sweeps :=
  h.parts .sweeps hp

theorem Frame.fifo {r : Reach} {s t : State} (h : Frame r s t) (hp : r.hasPart .fifo = false := by rfl) : t.fifo = s.fifo :=
  h.parts .fifo hp

/-! ## Readings -/

section
variable {s : State} {site tag temp : Nat} {valid : Bool}

/-- An open sweep that a reading is of. -/
def Sweep.takes (p tag : Nat) (w : Sweep) : Bool := w.paddock == p && w.tag == tag && !w.closed

/-- A reading entered in its sweep, in place of one of the same site. -/
def Sweep.enter (site : Nat) (valid : Bool) (v : Nat) (w : Sweep) : Sweep :=
  { w with readings := w.readings.filter (fun r => r.1 != site) ++ [(site, valid, v)] }

/-- A reading entered in the open sweeps of its paddock and tag. -/
def State.takeReading (s : State) (p tag site : Nat) (valid : Bool) (v : Nat) : State :=
  { s with sweeps := s.sweeps.map fun w => if w.takes p tag then w.enter site valid v else w }

theorem exec_reading (hs : site < 1536) (hp : s.rd R.TH_SITE_PADDOCK site ≠ 0xFF) : exec (.reading site tag valid ⟨temp, 0⟩) s
    = (if s.sweeps.any (Sweep.takes (s.rd R.TH_SITE_PADDOCK site) tag) then
        s.takeReading (s.rd R.TH_SITE_PADDOCK site) tag site valid (ofS 16 (toS 16 temp - s.siteOffset site))
      else s.inc R.TH_PAD_CNT_LATE_READ (s.rd R.TH_SITE_PADDOCK site) 1).go := by
  change execReading _ _ _ _ _ = _
  rw [execReading, if_neg (by simp; omega)]
  rfl

theorem exec_reading_ignored {rsv : Nat} (h : rsv ≠ 0 ∨ 1536 ≤ site ∨ s.rd R.TH_SITE_PADDOCK site = 0xFF) :
    exec (.reading site tag valid ⟨temp, rsv⟩) s = .next s := by
  change execReading _ _ _ _ _ = _
  rw [execReading, if_pos h, State.go]

end

/-! ## The sample FIFO -/

/-- What the scanner's words write where the FIFO has room for them. -/
def pushReach : Reach := ⟨[.fifo, .out], [R.FIFO_WM_PEAK, R.FIFO_WM_HIT, R.FIFO_WM_CROSSINGS]⟩

section
variable {s : State}

theorem scanWord_of_unarmed (h : s.bit R.FLT_INJ_ARM 0 = false) (x : FifoWord) : s.scanWord x = s.fifoPush x := by
  rw [State.scanWord, State.injecting, h]
  rfl

/-- A word that the FIFO has room for. -/
theorem fifoPush_room (h : s.fifo.length < 64) (x : FifoWord) :
    (s.fifoPush x).fifo = s.fifo ++ [x] ∧ Frame pushReach s (s.fifoPush x) := by
  rw [State.fifoPush, if_neg (not_le.2 h)]
  refine ⟨?_, (Frame.refl s).setFifo.wr.when fun _ hu => hu.wr.inc.send⟩
  unfold State.when
  split <;> rfl

/-- The words of a sweep for which the FIFO has room stand behind those that it holds. -/
theorem scanWords_room (l : List FifoWord) (s : State) (hinj : s.bit R.FLT_INJ_ARM 0 = false) (hlen : s.fifo.length + l.length ≤ 64) :
    (l.foldl State.scanWord s).fifo = s.fifo ++ l ∧ Frame pushReach s (l.foldl State.scanWord s) := by
  induction l generalizing s with
  | nil => exact ⟨(List.append_nil _).symm, .refl s⟩
  | cons x l ih =>
    rw [List.length_cons] at hlen
    obtain ⟨hfifo, hframe⟩ := fifoPush_room (s := s) (by omega) x
    rw [List.foldl_cons, scanWord_of_unarmed hinj]
    obtain ⟨hrest, hframe'⟩ := ih (s.fifoPush x) ((hframe.bit (by decide) 0).trans hinj)
      (by rw [hfifo, List.length_append, List.length_singleton]; omega)
    exact ⟨by rw [hrest, hfifo, List.append_assoc, List.singleton_append], hframe.trans hframe'⟩

/-- Popping takes words off the head. -/
theorem fifo_pops {α : Type} (l : List α) (s : State) : (l.foldl (fun (t : State) _ => t.fifoPop1.2) s).fifo = s.fifo.drop l.length := by
  have hpop (t : State) : t.fifoPop1.2.fifo = t.fifo.drop 1 := by
    unfold State.fifoPop1
    split
    · next h =>
      rw [h]
      exact h
    · next x l h =>
      rw [h]
      unfold State.when
      dsimp only
      split <;> rfl
  induction l generalizing s with
  | nil => rfl
  | cons x l ih => rw [List.foldl_cons, ih, hpop, List.drop_drop, List.length_cons, Nat.add_comm]

end

/-! ## The words of a sweep -/

/-- Words of one paddock's sweep, END on the last, are one whole sweep. -/
theorem sweepsIn_whole {p : Nat} {z : FifoWord} (hz : z.id = p ∧ z.fin = true) (l cur : List FifoWord)
    (hl : ∀ x ∈ l, x.id = p ∧ x.fin = false) (hcur : ∀ x ∈ cur, x.id = p) : sweepsIn (l ++ [z]) cur = [(cur ++ l ++ [z], true)] := by
  have hsame (x : FifoWord) (hx : x.id = p) (cur : List FifoWord) (hcur : ∀ y ∈ cur, y.id = p) :
      cur.any (fun y => y.id != x.id) = false := by
    rw [List.any_eq_false]
    intro y hy
    simp [hcur y hy, hx]
  induction l generalizing cur with
  | nil => simp [sweepsIn, hsame z hz.1 cur hcur, hz.2]
  | cons x l ih =>
    obtain ⟨hid, hfin⟩ := hl x List.mem_cons_self
    rw [List.cons_append, sweepsIn, hsame x hid cur hcur, hfin]
    simp only [Bool.false_eq_true, if_false]
    rw [ih _ (fun y hy => hl y (List.mem_cons_of_mem x hy)) (by simpa [or_imp, forall_and, hid] using hcur)]
    simp

/-- The words of a sweep are of its paddock, and END is on the last alone. -/
theorem sweepWords_split {s : State} {w : Sweep} (h : 0 < (s.sweepWords w).length) :
    ∃ l z, s.sweepWords w = l ++ [z] ∧ (z.id = w.paddock ∧ z.fin = true) ∧ ∀ x ∈ l, x.id = w.paddock ∧ x.fin = false := by
  unfold State.sweepWords at h ⊢
  dsimp only at h ⊢
  generalize _ ++ List.map (fun k => sitePayload k none) _ = pl at h ⊢
  obtain rfl | ⟨pl, y, rfl⟩ := pl.eq_nil_or_concat
  · simp at h
  · rw [List.concat_eq_append, List.zipIdx_append, List.map_append, List.zipIdx_singleton, List.map_singleton]
    refine ⟨_, _, rfl, ⟨rfl, by simp⟩, fun x hx => ?_⟩
    obtain ⟨⟨v, i⟩, hi, rfl⟩ := List.mem_map.1 hx
    refine ⟨rfl, ?_⟩
    have := (List.mem_zipIdx hi).2.1
    simp
    omega

/-! ## The close of a sweep -/

/-- A sweep closed, with no injection noted at its sites. -/
def State.closeSweep (s : State) (w : Sweep) : State :=
  (s.sweepWords w).foldl (fun (t : State) (x : FifoWord) => t.wr H.TH_INJ x.site 0)
    { s with sweeps := s.sweeps.map fun x => if x = w then { x with closed := true } else x }

section
variable {s : State} {p : Nat} {w : Sweep}

theorem exec_sweepClose (h : s.sweeps.find? (fun x => x.paddock == p && !x.closed) = some w) :
    exec (.sweepClose p) s = (((s.sweepWords w).foldl State.scanWord (s.closeSweep w)).fifoDrain).go := by
  change execSweepClose _ _ = _
  rw [execSweepClose, h]
  rfl

theorem exec_sweepClose_none (h : s.sweeps.find? (fun x => x.paddock == p && !x.closed) = none) :
    exec (.sweepClose p) s = .next s := by
  change execSweepClose _ _ = _
  rw [execSweepClose, h]
  rfl

theorem closeSweep_frame (s : State) (w : Sweep) : Frame ⟨[.sweeps], [H.TH_INJ]⟩ s (s.closeSweep w) :=
  (Frame.refl s).setSweeps.foldl fun _ _ hu => hu.wr

theorem closeSweep_sweeps (s : State) (w : Sweep) :
    (s.closeSweep w).sweeps = s.sweeps.map fun x => if x = w then { x with closed := true } else x := by
  have hmarks (u : State) : Frame (.regs [H.TH_INJ]) u ((s.sweepWords w).foldl (fun (t : State) (x : FifoWord) =>
      t.wr H.TH_INJ x.site 0) u) := (Frame.refl u).foldl fun _ _ hv => hv.wr
  exact (hmarks _).sweeps

/-- The words of a closed sweep in the FIFO, where it has room for them. -/
theorem closeSweep_words (hinj : s.bit R.FLT_INJ_ARM 0 = false) (hlen : s.fifo.length + (s.sweepWords w).length ≤ 64) :
    ((s.sweepWords w).foldl State.scanWord (s.closeSweep w)).fifo = s.fifo ++ s.sweepWords w
      ∧ Frame pushReach (s.closeSweep w) ((s.sweepWords w).foldl State.scanWord (s.closeSweep w)) := by
  have hfifo : (s.closeSweep w).fifo = s.fifo := (closeSweep_frame s w).fifo
  have := scanWords_room (s.sweepWords w) (s.closeSweep w) (((closeSweep_frame s w).bit (by decide) 0).trans hinj)
    (by rw [hfifo]; exact hlen)
  rwa [hfifo] at this

theorem judgeSweep_new (hp : p < 128) (l : List FifoWord) (s : State) : (s.judgeSweep p l).bit H.TH_NEW p = true := by
  unfold State.judgeSweep
  dsimp only
  rw [State.bit_when, State.bit_wr_apart _ (by decide), ite_self, (recount_frame _ _).bit (by decide)]
  simp (disch := decide) only [State.wrS, State.bit_wr_apart, State.bit_wrB_apart, State.bit_wr_below hp, if_true]
  rfl

/-- One whole sweep in the FIFO is latched from it. -/
theorem fifoDrain_whole {z : FifoWord} {l : List FifoWord} (hfifo : s.fifo = l ++ [z]) (hconsume : s.bit R.FIFO_CTRL_SW_CONSUME 0 = false)
    (hz : z.id = p ∧ z.fin = true) (hl : ∀ x ∈ l, x.id = p ∧ x.fin = false) (hlen : (l ++ [z]).length = (s.padSites p).length) :
    s.fifoDrain = (s.fifo.foldl (fun (t : State) _ => t.fifoPop1.2) s).judgeSweep p (l ++ [z]) := by
  have hpops : Frame Frame.fifoPop1Reach s (s.fifo.foldl (fun (t : State) _ => t.fifoPop1.2) s) :=
    (Frame.refl s).foldl fun _ _ hu => hu.fifoPop1
  have hsites : (s.fifo.foldl (fun (t : State) _ => t.fifoPop1.2) s).padSites p = s.padSites p := by
    rw [State.padSites, State.rec?, hpops.map, ← State.rec?, ← State.padSites]
  have hhead : ∃ y m, l ++ [z] = y :: m ∧ y.id = p := by
    cases l with
    | nil => exact ⟨z, [], rfl, hz.1⟩
    | cons y m => exact ⟨y, m ++ [z], rfl, (hl y List.mem_cons_self).1⟩
  obtain ⟨y, m, hy, hid⟩ := hhead
  rw [State.fifoDrain, hconsume, if_neg Bool.false_ne_true]
  simp only
  rw [show sweepsIn s.fifo [] = [(l ++ [z], true)] from hfifo ▸ sweepsIn_whole hz l [] hl (by simp), List.foldl_cons, List.foldl_nil]
  rw [hy] at hlen ⊢
  simp only [hid, hsites, hlen, beq_self_eq_true, Bool.and_self, if_true]

end

/-! ## Reference readings -/

/-- The value that the self-calibration of a site left, which the spec leaves open. -/
def State.calOf (s : State) (site : Nat) : Int := toS 16 (Config.freeWord (s.rd H.TH_CAL_BASE 0 + site)).toNat

/-- Sources of which a reference reading may tell. -/
def refSources (site : Nat) : List Nat := (0xA40 + site) :: (match siteTile site with | some t => [0x400 + t] | none => [])

/-- A site that fails its proof test. -/
def State.failProof (s : State) (site : Nat) : State :=
  (((s.wr H.TH_PROOF site 0).wr R.TH_SITE_STATE site 3).wr H.TH_SFAIL site 1).recount (s.rd R.TH_SITE_PADDOCK site)

section
variable {s : State} {site tag temp : Nat}

theorem exec_siteRefReading (hs : site < 1536) (hno : s.bit H.TH_PROOF site = false) : exec (.siteRefReading site tag ⟨temp, 0⟩) s
    = (((refSources site).filter fun n => s.holder && s.bit H.FLT_TEST_PEND n).foldl (fun t n => t.wr H.FLT_RESULT n
        (if (toS 16 temp - s.calOf site).natAbs ≤ 16 then 1 else 2)) s).go := by
  change execSiteRefReading _ tag _ _ = _
  rw [execSiteRefReading, if_neg (by simpa using hs), hno]
  simp only [Bool.false_eq_true, if_false, decide_eq_true_eq]
  rfl

theorem exec_siteRefReading_proof (hs : site < 1536) (hp : s.bit H.TH_PROOF site = true) :
    exec (.siteRefReading site tag ⟨temp, 0⟩) s = (if (toS 16 temp - s.calOf site).natAbs ≤ 16 then s.wr H.TH_PROOF site 0
      else (s.failProof site).fault 0x14 site 1).go := by
  change execSiteRefReading _ tag _ _ = _
  rw [execSiteRefReading, if_neg (by simpa using hs), if_pos hp]
  simp only [decide_eq_true_eq]
  rfl

theorem exec_siteRefReading_ignored {rsv : Nat} (h : rsv ≠ 0 ∨ 1536 ≤ site) :
    exec (.siteRefReading site tag ⟨temp, rsv⟩) s = .next s := by
  change execSiteRefReading _ tag _ _ = _
  rw [execSiteRefReading, if_pos h, State.go]

/-- The result of a site's check. -/
theorem refResult (hh : s.holder = true) (hpend : s.bit H.FLT_TEST_PEND (0xA40 + site) = true) {v : Nat} (hv : v < 4) :
    (((refSources site).filter fun n => s.holder && s.bit H.FLT_TEST_PEND n).foldl (fun t n => t.wr H.FLT_RESULT n v) s).rd
      H.FLT_RESULT (0xA40 + site) = v := by
  have hn : 0xA40 + site < 4096 := State.lt_of_bit hpend rfl
  refine rd_foldl_of_mem (fun u => ?_) (fun u x hx => u.rd_wr_idx hx (by decide) _)
    (List.mem_filter.2 ⟨List.mem_cons_self, by rw [hh, hpend]; rfl⟩) s
  rw [State.rd_wr_below hn _ _ (by decide) le_rfl, if_pos rfl]
  exact Nat.mod_eq_of_lt hv

theorem failProof_frame (s : State) (site : Nat) : Frame (.regs [H.TH_PROOF, R.TH_SITE_STATE, H.TH_SFAIL, R.TH_PAD_STAT_SUSPECT,
    R.TH_PAD_STAT_FAILED, R.TH_PAD_STAT_EXCLUDED]) s (s.failProof site) := (Frame.refl s).wr.wr.wr.recount

theorem failProof_fails (hs : site < 1536) (s : State) : (s.failProof site).bit H.TH_PROOF site = false
    ∧ (s.failProof site).rd R.TH_SITE_STATE site = 3 ∧ (s.failProof site).bit H.TH_SFAIL site = true := by
  simp (disch := decide) only [State.failProof, (recount_frame _ _).rd, (recount_frame _ _).bit, State.rd_wr_apart,
    State.bit_wr_apart, State.rd_wr_below hs, State.bit_wr_below hs, if_true]
  decide

end

/-- Settles O15. -/
theorem sweepReadingsAreCollected : Obligations.SweepReadingsAreCollected := by
  unfold Obligations.SweepReadingsAreCollected
  refine ⟨?_, ?_, ?_, ?_, ?_, ?_, ?_, ?_, ?_, ?_⟩
  · intro s site tag temp valid hs hp hopen
    obtain ⟨w, hw, htakes⟩ := List.any_eq_true.1 hopen
    have hany : s.sweeps.any (Sweep.takes (s.rd R.TH_SITE_PADDOCK site) tag) = true := hopen
    refine .of_go (t := s.takeReading (s.rd R.TH_SITE_PADDOCK site) tag site valid (ofS 16 (toS 16 temp - s.siteOffset site)))
      ((exec_reading hs hp).trans (by rw [if_pos hany])) ⟨?_, List.length_map _, rfl⟩
    have htakes' : w.takes (s.rd R.TH_SITE_PADDOCK site) tag = true := htakes
    refine ⟨w.enter site valid (ofS 16 (toS 16 temp - s.siteOffset site)), List.mem_map.2 ⟨w, hw, by rw [if_pos htakes']⟩, ?_, ?_, ?_, ?_⟩
    · simp only [Sweep.takes, Bool.and_eq_true, beq_iff_eq, Bool.not_eq_true'] at htakes'
      exact htakes'.1.1
    · simp only [Sweep.takes, Bool.and_eq_true, beq_iff_eq, Bool.not_eq_true'] at htakes'
      exact htakes'.1.2
    · simp only [Sweep.takes, Bool.and_eq_true, beq_iff_eq, Bool.not_eq_true'] at htakes'
      exact htakes'.2
    · exact List.mem_append_right _ (List.mem_singleton.2 rfl)
  · intro s site tag temp valid hs hp hnone
    rw [exec_reading hs hp, if_neg (by rw [show s.sweeps.any (Sweep.takes _ tag) = false from hnone]; decide), State.go]
  · intro s p w hw hconsume hinj hlen
    obtain ⟨hfifo, hpush⟩ := closeSweep_words hinj hlen
    have hall : Frame ⟨[.sweeps, .fifo, .out], [H.TH_INJ, R.FIFO_WM_PEAK, R.FIFO_WM_HIT, R.FIFO_WM_CROSSINGS]⟩ s
        ((s.sweepWords w).foldl State.scanWord (s.closeSweep w)) := ((closeSweep_frame s w).mono (by decide)).andThen hpush
    have hdrain : ((s.sweepWords w).foldl State.scanWord (s.closeSweep w)).fifoDrain
        = (s.sweepWords w).foldl State.scanWord (s.closeSweep w) := by
      rw [State.fifoDrain, hall.bit (by decide), hconsume, if_pos rfl]
    exact .of_go ((exec_sweepClose hw).trans (by rw [hdrain]))
      ⟨hfifo, hpush.sweeps.trans (closeSweep_sweeps s w), hall.kinds, hall.sameStore⟩
  · intro s site tag temp hs hno hh hpend
    have hall : Frame (.regs [H.FLT_RESULT]) s (((refSources site).filter fun n => s.holder && s.bit H.FLT_TEST_PEND n).foldl
        (fun t n => t.wr H.FLT_RESULT n (if (toS 16 temp - s.calOf site).natAbs ≤ 16 then 1 else 2)) s) :=
      (Frame.refl s).foldl fun _ _ hu => hu.wr
    refine .of_go (exec_siteRefReading hs hno) ⟨?_, hall.kinds, hall.onlyRegs⟩
    rw [refResult hh hpend (by split <;> decide)]
    split
    · exact .inl rfl
    · exact .inr rfl
  · intro s p w hw hconsume hinj hempty hp hpos hlen hsites
    have hlen0 : s.fifo.length + (s.sweepWords w).length ≤ 64 := by rw [hempty]; simpa using hlen
    obtain ⟨hfifo, hpush⟩ := closeSweep_words hinj hlen0
    obtain ⟨l, z, hwords, hz, hl⟩ := sweepWords_split hpos
    have hall : Frame ⟨[.sweeps, .fifo, .out], [H.TH_INJ, R.FIFO_WM_PEAK, R.FIFO_WM_HIT, R.FIFO_WM_CROSSINGS]⟩ s
        ((s.sweepWords w).foldl State.scanWord (s.closeSweep w)) := ((closeSweep_frame s w).mono (by decide)).andThen hpush
    have hsweeps : ((s.sweepWords w).foldl State.scanWord (s.closeSweep w)).sweeps
        = s.sweeps.map fun x => if x = w then { x with closed := true } else x :=
      hpush.sweeps.trans (closeSweep_sweeps s w)
    rw [hempty, List.nil_append] at hfifo
    refine .of_go (exec_sweepClose hw) ?_
    generalize (s.sweepWords w).foldl State.scanWord (s.closeSweep w) = u at *
    have hpads : u.padSites w.paddock = s.padSites w.paddock := by
      rw [State.padSites, State.rec?, hall.map, ← State.rec?, ← State.padSites]
    rw [fifoDrain_whole (hfifo.trans hwords) ((hall.bit (by decide) 0).trans hconsume) hz hl (by rw [hpads, ← hwords, hsites])]
    have hdrain : Frame (Frame.fifoPop1Reach.and Frame.judgeSweepReach) u
        ((u.fifo.foldl (fun (t : State) _ => t.fifoPop1.2) u).judgeSweep w.paddock (l ++ [z])) :=
      ((Frame.refl u).foldl fun _ _ hv => hv.fifoPop1).judgeSweep
    have hjudge (v : State) : Frame Frame.judgeSweepReach v (v.judgeSweep w.paddock (l ++ [z])) := (Frame.refl v).judgeSweep
    refine ⟨?_, judgeSweep_new hp _ _, hdrain.sweeps.trans hsweeps, .of_store (hdrain.store.trans hall.store)⟩
    rw [show ∀ v : State, (v.judgeSweep w.paddock (l ++ [z])).fifo = v.fifo from fun v => (hjudge v).fifo, fifo_pops,
      List.drop_length]
  · exact fun s p h => exec_sweepClose_none h
  · exact fun s site tag temp rsv valid h => exec_reading_ignored h
  · intro s site tag hs hno hh hpend
    exact ⟨s.calOf site, fun temp => .of_go (exec_siteRefReading hs hno) (refResult hh hpend (by split <;> decide))⟩
  · intro s site tag temp hs hp hsrc
    by_cases hok : (toS 16 temp - s.calOf site).natAbs ≤ 16
    · have hall : Frame (.fault (faultFields ++ [H.TH_PROOF, R.TH_SITE_STATE, H.TH_SFAIL, R.TH_PAD_STAT_SUSPECT,
          R.TH_PAD_STAT_FAILED, R.TH_PAD_STAT_EXCLUDED])) s (s.wr H.TH_PROOF site 0) := (Frame.refl s).wr
      refine .of_go ((exec_siteRefReading_proof hs hp).trans (by rw [if_pos hok])) ⟨?_, .inl ?_, hall.kinds, hall.onlyFault⟩
      · rw [State.bit_wr_below hs _ _ (by decide) le_rfl rfl, if_pos rfl]
        rfl
      · simp
    · have hall : Frame (.fault (faultFields ++ [H.TH_PROOF, R.TH_SITE_STATE, H.TH_SFAIL, R.TH_PAD_STAT_SUSPECT,
          R.TH_PAD_STAT_FAILED, R.TH_PAD_STAT_EXCLUDED])) s ((s.failProof site).fault 0x14 site 1) :=
        ((failProof_frame s site).mono (by decide +kernel)).fault
      obtain ⟨hproof, hstate, hfail⟩ := failProof_fails hs s
      have hlast := fault_frame (s.failProof site) 0x14 site 1
      refine .of_go ((exec_siteRefReading_proof hs hp).trans (by rw [if_neg hok])) ⟨?_, .inr ⟨?_, ?_, ?_⟩, hall.kinds, hall.onlyFault⟩
      · rw [hlast.bit (by decide +kernel), hproof]
      · rw [hlast.rd (by decide +kernel), hstate]
      · rw [hlast.bit (by decide +kernel), hfail]
      · refine Raised.after (failProof_frame s site).kinds (by decide) (State.fault_raised _ rfl ?_ (by decide))
        rwa [State.zk4, (failProof_frame s site).ident]
  · exact fun s site tag temp rsv h => exec_siteRefReading_ignored h

end Sys2Proof.Machine
end

section
/-! Phases that are fenced; probe replies, injections and proof tests (R251, R329, R444, R458, R459, R464, R465). -/

set_option Elab.async false

namespace Sys2Proof.Machine

/-! ## A phase that is fenced -/

/-- A phase fenced with its cause, and its rail's bookkeeping (R251, R257). -/
def State.fenceMarks (s : State) (p cause : Nat) : State :=
  let r := s.rd R.PD_PH_STAT_RAIL p
  let s1 := (((s.wr R.PD_PH_STAT_STATE p 5).wr R.PD_PH_STAT_CAUSE p cause).wr R.PD_PH_DUTY_DUTY p 0).pwm p .mid 0 0
  (((s1.clearElems [H.PD_RET_ACT, H.PD_SHED_STEP, H.PD_DEVC, H.PD_INVC, H.PD_CLAMPC, H.PD_SCRUN, H.PD_SC_THIS, H.PD_OFF_DUE]
    p).wr H.PD_NEWFAIL r (if s.bit R.PD_PH_STAT_DERATED p then s.rd H.PD_NEWFAIL r else 1)).when (s1.rd H.PD_SHED_PEND r == p + 1)
    fun t => t.wr H.PD_SHED_PEND r 0).rerank r

/-- The rail of a fenced phase keeps its least number of phases. -/
def State.fenceBody (s : State) (p cause : Nat) : State :=
  let r := s.rd R.PD_PH_STAT_RAIL p
  let u := s.fenceMarks p cause
  let m := u.rd R.PD_RAIL_CFG_MIN_ACTIVE r
  if s.railOn r = true ∧ u.nPulse r < m then u.addPhases r (m - u.nPulse r) else u.refreshDuty r

section
variable {s : State} {p cause : Nat}

theorem fencePhase_eq (s : State) (p cause : Nat) : s.fencePhase p cause = (s.fenceBody p cause).fault 0x01 p 1 := rfl

theorem fenceMarks_last (s : State) (p cause : Nat) : Frame (Frame.pwmReach.and (Frame.rerankReach.and (.regs [R.PD_PH_DUTY_DUTY,
    H.PD_RET_ACT, H.PD_SHED_STEP, H.PD_DEVC, H.PD_INVC, H.PD_CLAMPC, H.PD_SCRUN, H.PD_SC_THIS, H.PD_OFF_DUE, H.PD_NEWFAIL,
    H.PD_SHED_PEND]))) ((s.wr R.PD_PH_STAT_STATE p 5).wr R.PD_PH_STAT_CAUSE p cause) (s.fenceMarks p cause) :=
  ((Frame.refl _).wr.pwm.clearElems.wr.when fun _ hu => hu.wr).rerank

theorem fenceMarks_ph (hp : p < 128) : (s.fenceMarks p cause).ph p = 5 := by
  rw [State.ph, (fenceMarks_last s p cause).rd (by decide +kernel), State.rd_wr_apart _ (by decide),
    State.rd_wr_below hp _ _ (by decide) le_rfl, if_pos rfl]
  rfl

theorem fenceMarks_cause (hp : p < 128) (hc : cause < 8) : (s.fenceMarks p cause).rd R.PD_PH_STAT_CAUSE p = cause := by
  rw [(fenceMarks_last s p cause).rd (by decide +kernel), State.rd_wr_below hp _ _ (by decide) le_rfl, if_pos rfl]
  exact Nat.mod_eq_of_lt hc

theorem toAdding_other {x : Nat} (h : x ≠ p) (s : State) : (s.toAdding x).ph p = s.ph p := by
  simp (disch := decide) only [State.ph, State.toAdding, State.clearElems, List.foldl_cons, List.foldl_nil, State.rd_wr_apart,
    State.rd_wr_idx _ h]

/-- An add leaves a phase that is not in FALLOW as it is. -/
theorem addFallow_ph (h : s.ph p ≠ 3) (r k : Nat) : (s.addFallow r k).ph p = s.ph p := by
  have hrest (u : State) : Frame (Frame.rerankReach.and (Frame.refreshDutyReach.and (Frame.endSkipReach.and (.regs [H.PD_DWELL_CNT]))))
      u ((((u.wr H.PD_DWELL_CNT r 0).endSkip r).rerank r).refreshDuty r) := (Frame.refl u).wr.endSkip.rerank.refreshDuty
  have hno : p ∉ (s.inState r 3).take k := fun hm =>
    h (beq_iff_eq.1 (List.mem_filter.1 (List.mem_of_mem_take hm)).2)
  rw [State.addFallow]
  split
  · rfl
  · rw [State.ph, (hrest _).rd (by decide +kernel)]
    exact rd_foldl_of_notMem (fun u x hx => toAdding_other hx u) hno s

theorem addPhases_ph (h : s.ph p ≠ 3) (r k : Nat) : (s.addPhases r k).ph p = s.ph p := by
  have hdrop : (s.dropShed r).ph p = s.ph p := (dropShed_frame s r).rd (by decide) p
  rw [State.addPhases, addFallow_ph (by rwa [hdrop]), hdrop]

theorem fenceBody_ph (hp : p < 128) : (s.fenceBody p cause).ph p = 5 := by
  have hduty (u : State) (r : Nat) : Frame Frame.refreshDutyReach u (u.refreshDuty r) := (Frame.refl u).refreshDuty
  rw [State.fenceBody]
  split
  · rw [addPhases_ph (by rw [fenceMarks_ph hp]; decide), fenceMarks_ph hp]
  · rw [State.ph, (hduty _ _).rd (by decide), ← State.ph, fenceMarks_ph hp]

theorem fenceBody_cause (hp : p < 128) (hc : cause < 8) : (s.fenceBody p cause).rd R.PD_PH_STAT_CAUSE p = cause := by
  have hlast : Frame (Frame.addPhasesReach.and Frame.refreshDutyReach) (s.fenceMarks p cause) (s.fenceBody p cause) :=
    Frame.ite (Frame.refl _).addPhases (Frame.refl _).refreshDuty
  rw [hlast.rd (by decide +kernel), fenceMarks_cause hp hc]

theorem fenceMarks_frame (s : State) (p cause : Nat) : Frame (Frame.pwmReach.and (Frame.rerankReach.and (.regs [R.PD_PH_STAT_STATE,
    R.PD_PH_STAT_CAUSE, R.PD_PH_DUTY_DUTY, H.PD_RET_ACT, H.PD_SHED_STEP, H.PD_DEVC, H.PD_INVC, H.PD_CLAMPC, H.PD_SCRUN, H.PD_SC_THIS,
    H.PD_OFF_DUE, H.PD_NEWFAIL, H.PD_SHED_PEND]))) s (s.fenceMarks p cause) :=
  ((Frame.refl _).wr.wr.wr.pwm.clearElems.wr.when fun _ hu => hu.wr).rerank

theorem fenceBody_frame (s : State) (p cause : Nat) : Frame (Frame.addPhasesReach.and (Frame.pwmReach.and (.regs [R.PD_PH_STAT_CAUSE,
    H.PD_SHED_STEP, H.PD_DEVC, H.PD_INVC, H.PD_CLAMPC, H.PD_SCRUN, H.PD_SC_THIS, H.PD_OFF_DUE, H.PD_NEWFAIL]))) s
    (s.fenceBody p cause) :=
  Frame.ite ((fenceMarks_frame s p cause).mono (by decide +kernel)).addPhases
    ((fenceMarks_frame s p cause).mono (by decide +kernel)).refreshDuty

theorem fencePhase_ph (hp : p < 128) (s : State) (cause : Nat) : (s.fencePhase p cause).ph p = 5 := by
  rw [fencePhase_eq, State.ph, (fault_frame _ _ _ _).rd (by decide +kernel), ← State.ph, fenceBody_ph hp]

theorem fencePhase_cause (hp : p < 128) (hc : cause < 8) (s : State) : (s.fencePhase p cause).rd R.PD_PH_STAT_CAUSE p = cause := by
  rw [fencePhase_eq, (fault_frame _ _ _ _).rd (by decide +kernel), fenceBody_cause hp hc]

theorem fencePhase_raised (hp : srcPresent s.zk4 (0x100 + p) = true) (cause : Nat) :
    Raised (0x100 + p) 1 s (s.fencePhase p cause) := by
  rw [fencePhase_eq]
  refine Raised.after (fenceBody_frame s p cause).kinds (by decide +kernel) (State.fault_raised _ rfl ?_ (by decide))
  rwa [State.zk4, (fenceBody_frame s p cause).ident]

theorem phaseCount_le (z : Bool) : phaseCount z ≤ 128 := by cases z <;> decide

theorem srcPresent_phase {z : Bool} (h : p < phaseCount z) : srcPresent z (0x100 + p) = true := by
  have hp := h.trans_le (phaseCount_le z)
  have hk : srcKind (0x100 + p) = some (0x01, p) := by
    simp (disch := omega) only [srcKind, if_neg, if_pos, Nat.add_sub_cancel_left]
  simp [srcPresent, hk, h]

end

/-! ## Probes -/

/-- A reply noted among those of its test. -/
def State.noteReply (s : State) (n token : Nat) : State := s.wr H.FLT_PROBE_GOT n (setBit (s.rd H.FLT_PROBE_GOT n) token true)

section
variable {s : State} {token n : Nat}

theorem exec_probeReply (hpend : s.bit H.FLT_TEST_PEND n = true) (htarget : (probeTarget n).isSome = true)
    (hsent : token < s.rd H.FLT_PROBES n) (hage : s.probeAge n ≤ token + 2) : exec (.probeReply token n) s
    = ((s.noteReply n token).when (setBit (s.rd H.FLT_PROBE_GOT n) token true == 15 && s.rd H.FLT_RESULT n == 0) fun t =>
        t.wr H.FLT_RESULT n 1).go := by
  change execProbeReply _ _ _ = _
  rw [execProbeReply, if_pos (by simp [hpend, htarget, hsent, hage])]
  rfl

theorem exec_probeReply_quiet (h : token + 2 < s.probeAge n ∨ s.bit H.FLT_TEST_PEND n = false ∨ probeTarget n = none
    ∨ s.rd H.FLT_PROBES n ≤ token) : exec (.probeReply token n) s = .next s := by
  change execProbeReply _ _ _ = _
  rw [execProbeReply, if_neg, State.go]
  obtain h | h | h | h := h
  · rw [decide_eq_false (p := s.probeAge n ≤ token + 2) (by omega)]
    simp
  · simp [h]
  · simp [h]
  · rw [decide_eq_false (p := token < s.rd H.FLT_PROBES n) (by omega)]
    simp

theorem setBit_got : ∀ v < 16, ∀ k < 4, bitOf (setBit v k true) k = true ∧ setBit v k true < 16 := by decide

end

/-! ## Injections -/

theorem stageAll_staged (s : State) (w : WCtx) (l : List StagedAct) :
    (s.stageAll w l).staged = s.staged ++ l.map fun a => (⟨if 192 ≤ w.cyc then 1 else 0, a⟩ : Staged) := by
  unfold State.stageAll State.when
  generalize (if 192 ≤ w.cyc then 1 else 0) = d
  dsimp only
  split <;> rfl

theorem stageAll_frame (s : State) (w : WCtx) (l : List StagedAct) :
    Frame (.staging [R.FRAME_STAT_DEFER_CNT]) s ((s.stageAll w l).answer .ok) :=
  ((Frame.refl s).setStaged.when fun _ hu => hu.inc).answer

theorem stageAll_early {w : WCtx} (hw : w.cyc < 192) (s : State) (l : List StagedAct) :
    s.stageAll w l = { s with staged := s.staged ++ l.map fun a => (⟨0, a⟩ : Staged) } := by
  rw [State.stageAll, if_neg (by omega)]
  rfl

theorem Frame.onlyStaged {l : List Fld} {s t : State} (h : Frame (.staging l) s t) : OnlyStaged s t := by
  have h1 := h.parts .ident rfl
  have h2 := h.parts .store rfl
  have h3 := h.parts .map rfl
  have h4 := h.parts .mesh rfl
  have h5 := h.parts .sched rfl
  have h6 := h.parts .sweeps rfl
  have h7 := h.parts .fifo rfl
  have h8 := h.parts .fltQueue rfl
  have h9 := h.parts .tallyQueue rfl
  have h10 := h.parts .tallyStage rfl
  have h11 := h.parts .mirror rfl
  have h12 := h.parts .flush rfl
  have h13 := h.parts .shadows rfl
  have h14 := h.parts .out rfl
  have h15 := h.parts .free rfl
  have h16 := h.parts .pending rfl
  cases s
  cases t
  simp_all [Part.Same, OnlyStaged]

/-! ## Proof tests -/

section
variable {s : State} {p d : Nat}

theorem exec_proofTestScPeriodic (hp : p < 128) (h : s.ph p = 3 ∨ s.ph p = 5) : exec (.proofTestScPeriodic p false) s
    = (if s.ph p = 3 then s.fencePhase p 1 else (s.wr R.PD_PH_STAT_CAUSE p 1).fault 0x01 p 1).go := by
  change execProofTestScPeriodic _ _ _ = _
  rw [execProofTestScPeriodic, if_pos (by simp [hp, h])]

theorem exec_proofTestScPeriodic_quiet (h : 128 ≤ p ∨ (s.ph p ≠ 3 ∧ s.ph p ≠ 5)) :
    exec (.proofTestScPeriodic p false) s = .next s := by
  change execProofTestScPeriodic _ _ _ = _
  rw [execProofTestScPeriodic, if_neg, State.go]
  obtain h | h := h
  · simp [Nat.not_lt.2 h]
  · simp [h]

theorem exec_proofTestDiodePeriodic (ok : Bool) : exec (.proofTestDiodePeriodic d ok) s
    = (if !ok && s.diodeOwn d then s.diodeProofFail d else s).go := rfl

/-- A diode that fails its proof test, as its paddocks show it. -/
def State.markDiode (s : State) (d : Nat) : State := (s.wr R.TH_DIODE_FAILED d 1).wrAll R.TH_PAD_STAT_DIODE_FAIL (s.diodePads d)
  fun _ => 1

theorem markDiode_frame (s : State) (d : Nat) : Frame (.regs [R.TH_DIODE_FAILED, R.TH_PAD_STAT_DIODE_FAIL]) s (s.markDiode d) :=
  (Frame.refl s).wr.wrAll

theorem markDiode_failed (hd : d < 64) (s : State) : (s.markDiode d).bit R.TH_DIODE_FAILED d = true := by
  rw [State.markDiode, State.bit, rd_wrAll_padDiode, ← State.bit, State.bit_wr_below hd _ _ (by decide) le_rfl rfl, if_pos rfl]
  rfl

theorem markDiode_pads (hp : p ∈ s.diodePads d) (hlt : p < 128) : (s.markDiode d).bit R.TH_PAD_STAT_DIODE_FAIL p = true := by
  refine bit_foldl_of_mem (f := R.TH_PAD_STAT_DIODE_FAIL) (fun u => ?_) (fun u x hx => u.rd_wr_idx hx (by decide) _) hp _
  rw [State.bit_wr_below hlt _ _ (by decide) le_rfl rfl, if_pos rfl]
  rfl

theorem srcPresent_diode {z : Bool} (h : diodePresent z d = true) : srcPresent z (0x21C + d) = true := by
  have hd : d < 56 := by cases z <;> simp [diodePresent] at h <;> omega
  have hk : srcKind (0x21C + d) = some (0x05, d) := by
    simp (disch := omega) only [srcKind, if_neg, if_pos, Nat.add_sub_cancel_left]
  simp [srcPresent, hk, h]

/-- A site due for the reference check in its proof test. -/
def State.proofSite (s : State) (k : Nat) : State := (s.wr H.TH_REF_DUE k 1).wr H.TH_PROOF k 1

theorem exec_proofTestSitePeriodic : exec (.proofTestSitePeriodic p) s
    = (((s.padSites p).filter fun k => s.rd R.TH_SITE_STATE k == 1).foldl State.proofSite s).go := rfl

theorem proofSite_due {k : Nat} (hk : k < 1536) (s : State) : (s.proofSite k).bit H.TH_REF_DUE k = true := by
  rw [State.proofSite, State.bit_wr_apart _ (by decide), State.bit_wr_below hk _ _ (by decide) le_rfl rfl, if_pos rfl]
  rfl

theorem proofSite_proof {k : Nat} (hk : k < 1536) (s : State) : (s.proofSite k).bit H.TH_PROOF k = true := by
  rw [State.proofSite, State.bit_wr_below hk _ _ (by decide) le_rfl rfl, if_pos rfl]
  rfl

theorem proofSite_other {k x : Nat} (h : x ≠ k) (s : State) : (s.proofSite x).rd H.TH_REF_DUE k = s.rd H.TH_REF_DUE k
    ∧ (s.proofSite x).rd H.TH_PROOF k = s.rd H.TH_PROOF k := by
  rw [State.proofSite]
  exact ⟨by rw [State.rd_wr_apart _ (by decide), State.rd_wr_idx _ h (by decide)],
    by rw [State.rd_wr_idx _ h (by decide), State.rd_wr_apart _ (by decide)]⟩

end

/-- Settles O37. -/
theorem probesInjectionsAndProofTests : Obligations.ProbesInjectionsAndProofTests := by
  unfold Obligations.ProbesInjectionsAndProofTests
  refine ⟨?_, ?_, ?_, ?_, ?_, ?_, ?_, ?_, ?_, ?_, ?_, ?_, ?_⟩
  · intro s token n hpend htarget hsent hage htoken
    have hn : n < 4096 := State.lt_of_bit hpend rfl
    obtain ⟨hset, hlt⟩ := setBit_got _ (s.rd_lt H.FLT_PROBE_GOT n) token htoken
    have hgot : ((s.noteReply n token).when (setBit (s.rd H.FLT_PROBE_GOT n) token true == 15 && s.rd H.FLT_RESULT n == 0)
        fun t => t.wr H.FLT_RESULT n 1).rd H.FLT_PROBE_GOT n = setBit (s.rd H.FLT_PROBE_GOT n) token true := by
      rw [State.rd_when, State.rd_wr_apart _ (by decide), ite_self, State.noteReply, State.rd_wr_below hn _ _ (by decide) le_rfl,
        if_pos rfl]
      exact Nat.mod_eq_of_lt hlt
    have hall : Frame (.regs [H.FLT_PROBE_GOT, H.FLT_RESULT]) s ((s.noteReply n token).when (setBit (s.rd H.FLT_PROBE_GOT n) token
        true == 15 && s.rd H.FLT_RESULT n == 0) fun t => t.wr H.FLT_RESULT n 1) := (Frame.refl s).wr.when fun _ hu => hu.wr
    refine .of_go (exec_probeReply hpend htarget hsent hage) ?_
    rw [hgot]
    refine ⟨hset, fun hfull hres => ?_, fun hfew => ?_, ?_, hall.onlyRegs⟩
    · rw [hfull, hres, show (15 == 15 && 0 == 0) = true from rfl, State.when_true, State.rd_wr_below hn _ _ (by decide) le_rfl,
        if_pos rfl]
      rfl
    · rw [beq_eq_false_iff_ne.2 hfew, Bool.false_and, State.when_false, State.noteReply, State.rd_wr_apart _ (by decide)]
    · unfold State.when State.noteReply
      simp
  · exact fun s token n h => exec_probeReply_quiet h
  · intro s w hw
    have hall : Frame (.regsOut [R.FLT_REJECT_COUNT]) s ((s.wr R.FLT_REJECT_COUNT 0 0).answer .ok) := (Frame.refl s).wr.answer
    refine .of_go (congrArg State.go (judgedAt_of_writable hw _ _)) ⟨?_, rfl, hall.kinds, hall.onlyRegsOut⟩
    rw [State.rd_answer, State.rd_wr_zero _ _ (by decide) (by decide), if_pos rfl]
    rfl
  · intro s w arm target index count hw hmay
    have hall := stageAll_frame s w ([(R.FLT_INJ_COUNT, count), (R.FLT_INJ_INDEX, index), (R.FLT_INJ_TARGET, target),
      (R.FLT_INJ_ARM, b2n arm)].map fun x => .field x.1 0 x.2)
    refine .of_go (congrArg State.go ((congrArg (fun r => s.judgedAt w _ R.FLT_INJ_ARM 0 _ r _) hmay).trans
      (judgedAt_of_writable hw _ _))) ⟨?_, rfl, fun hearly => ?_, hall.kinds, hall.onlyStaged⟩
    · exact (stageAll_staged s w _).trans (by rw [List.map_map]; rfl)
    · rw [stageAll_early hearly]
      exact OnlyKinds.of_regs _ rfl
  · intro s w arm target index count hw hbad
    have hmay : s.mayInject w.req target = false := by
      rw [State.mayInject]
      obtain h | h | ⟨h4, hlock⟩ := hbad
      · simp [h]
      · rw [decide_eq_false (p := target ≤ 7) (by omega)]
        simp
      · simp [h4, State.factory, hlock]
    exact .of_go (congrArg State.go ((congrArg (fun r => s.judgedAt w _ R.FLT_INJ_ARM 0 _ r _) hmay).trans
      (judgedAt_of_forbidden hw _ _))) (refuses_forbidden s w (by decide))
  · intro s p hp hph
    have hlt := hp.trans_le (phaseCount_le _)
    exact .of_go ((exec_proofTestScPeriodic hlt (.inl hph)).trans (by rw [if_pos hph]))
      ⟨fencePhase_ph hlt s 1, fencePhase_cause hlt (by decide) s, fencePhase_raised (srcPresent_phase hp) 1⟩
  · intro s p
    rfl
  · intro s d hown
    have hlt : d < 64 := (diodeOwn_lt hown).trans (by decide)
    have hlast := fault_frame (s.markDiode d) 0x05 d 1
    have hall : Frame (.fault (faultFields ++ [R.TH_DIODE_FAILED, R.TH_PAD_STAT_DIODE_FAIL])) s ((s.markDiode d).fault 0x05 d 1) :=
      ((markDiode_frame s d).mono (by decide +kernel)).fault
    have hpresent : diodePresent s.zk4 d = true := (Bool.and_eq_true _ _ ▸ hown : _ ∧ _).1
    refine .of_go (t := (s.markDiode d).fault 0x05 d 1) ((exec_proofTestDiodePeriodic false).trans (by rw [hown]; rfl))
      ⟨?_, fun p hp hlt => ?_, ?_, hall.kinds, hall.onlyFault⟩
    · rw [hlast.bit (by decide +kernel), markDiode_failed hlt]
    · rw [hlast.bit (by decide +kernel), markDiode_pads hp hlt]
    · refine Raised.after (markDiode_frame s d).kinds (by decide) (State.fault_raised _ rfl ?_ (by decide))
      rw [State.zk4, (markDiode_frame s d).ident]
      exact srcPresent_diode hpresent
  · intro s p
    have hall : Frame (.regs [H.TH_REF_DUE, H.TH_PROOF]) s
        (((s.padSites p).filter fun k => s.rd R.TH_SITE_STATE k == 1).foldl State.proofSite s) :=
      (Frame.refl s).foldl fun _ _ hu => hu.wr.wr
    refine .of_go exec_proofTestSitePeriodic ⟨fun k hk hlt hst => ?_, fun k hst => ?_, hall.kinds, hall.onlyRegs⟩
    · have hmem : k ∈ (s.padSites p).filter fun k => s.rd R.TH_SITE_STATE k == 1 := List.mem_filter.2 ⟨hk, by simp [hst]⟩
      exact ⟨bit_foldl_of_mem (fun u => proofSite_due hlt u) (fun u x hx => (proofSite_other hx u).1) hmem s,
        bit_foldl_of_mem (fun u => proofSite_proof hlt u) (fun u x hx => (proofSite_other hx u).2) hmem s⟩
    · exact rd_foldl_of_notMem (fun u x hx => (proofSite_other hx u).1) (by simp [hst]) s
  · intro s p hp hph hsrc
    have hall : Frame (.fault (faultFields ++ [R.PD_PH_STAT_CAUSE])) s ((s.wr R.PD_PH_STAT_CAUSE p 1).fault 0x01 p 1) :=
      (Frame.refl s).wr.fault
    have hlast := fault_frame (s.wr R.PD_PH_STAT_CAUSE p 1) 0x01 p 1
    refine .of_go ((exec_proofTestScPeriodic hp (.inr hph)).trans (by rw [if_neg (by rw [hph]; decide)]))
      ⟨?_, ?_, ?_, hall.kinds, hall.onlyFault⟩
    · exact (hall.rd (by decide +kernel) p).trans hph
    · rw [hlast.rd (by decide +kernel), State.rd_wr_below hp _ _ (by decide) le_rfl, if_pos rfl]
      rfl
    · exact Raised.after (State.wr_kinds _ _ _ _) (by decide) (State.fault_raised _ rfl hsrc (by decide))
  · exact fun s p h => exec_proofTestScPeriodic_quiet h
  · exact fun s d => exec_proofTestDiodePeriodic true
  · exact fun s d h => (exec_proofTestDiodePeriodic false).trans (by rw [h]; rfl)

end Sys2Proof.Machine
end

section
/-! Fault sources judged, quieted, cleared and made severe (R435, R436, R441, R442, R450–R453). -/

set_option Elab.async false

namespace Sys2Proof.Machine

theorem srcKind_lt_4096 {n : Nat} (h : (srcKind n).isSome = true) : n < 4096 := by
  obtain ⟨x, hx⟩ := Option.isSome_iff_exists.1 h
  exact State.srcKind_lt hx

theorem ite_ne_of_ne {α : Type} {c : Prop} [Decidable c] {a b x : α} (ha : a ≠ x) (hb : b ≠ x) : (if c then a else b) ≠ x := by
  split
  · exact ha
  · exact hb

/-- The number of a phase's source (R430). -/
theorem eq_of_srcKind_phase {n i : Nat} (h : srcKind n = some (0x01, i)) : n = 0x100 + i := by
  have hother {k j : Nat} (hk : k ≠ 0x01) : some (k, j) ≠ some (0x01, i) := fun e => hk (congrArg Prod.fst (Option.some.inj e))
  by_cases hslot : n < 0x100
  · rw [srcKind, if_pos hslot] at h
    exact absurd h (hother (by decide))
  by_cases hphase : n < 0x180
  · rw [srcKind, if_neg hslot, if_pos hphase] at h
    have hi := (Prod.mk.inj (Option.some.inj h)).2
    omega
  · rw [srcKind, if_neg hslot, if_neg hphase] at h
    refine absurd h ?_
    repeat' apply ite_ne_of_ne
    any_goals exact (Option.some_ne_none _).symm
    all_goals exact hother (by decide)

/-! ## What is told of a change -/

section
variable {s : State} {n : Nat}

theorem srcRecord_frame (s : State) (n : Nat) : Frame Frame.tallyReach s (s.srcRecord n) := (Frame.refl s).tally

theorem noteChange_frame (s : State) (n : Nat) : Frame (eventReach.and (.regs [R.FLT_LAST_STATE, R.FLT_LAST_CLASS, R.FLT_LAST_KIND,
    R.FLT_LAST_SOURCE, R.FLT_LAST_FRAME_FRAME])) s (s.noteChange n) :=
  (Frame.refl s).wr.wr.wr.wr.wr.andThen (pushEvent_event _ _)

/-- The registers of the last change. -/
theorem noteChange_last (hn : n < 4096) (s : State) : (s.noteChange n).rd R.FLT_LAST_SOURCE 0 = n
    ∧ (s.noteChange n).rd R.FLT_LAST_STATE 0 = s.rd R.FLT_SRC_STATE_STATE n
    ∧ (s.noteChange n).rd R.FLT_LAST_FRAME_FRAME 0 = s.frame % 2 ^ 32 := by
  have hst : s.rd R.FLT_SRC_STATE_STATE n < 8 := s.rd_lt _ _
  have hpush (u : State) (e : FltEvent) := pushEvent_event u e
  unfold State.noteChange
  dsimp only
  simp (disch := decide +kernel) only [(hpush _ _).rd, State.rd_wr_apart, State.rd_wr_zero, if_true]
  exact ⟨Nat.mod_eq_of_lt hn, Nat.mod_eq_of_lt hst, rfl⟩

/-- What two notices of a change leave: a source's state and its like. -/
theorem told_frame (s : State) (n : Nat) : Frame ((eventReach.and (.regs [R.FLT_LAST_STATE, R.FLT_LAST_CLASS, R.FLT_LAST_KIND,
    R.FLT_LAST_SOURCE, R.FLT_LAST_FRAME_FRAME])).and Frame.tallyReach) s ((s.srcRecord n).noteChange n) :=
  ((srcRecord_frame s n).mono (by decide +kernel)).andThen (noteChange_frame _ n)

end

/-! ## Verdicts -/

section
variable {s : State} {n : Nat} {v : TestVerdict}

theorem endTest_last (s : State) (n : Nat) : Frame (.regs [H.PD_TEST_PULSE, H.PD_LOOP_PH, H.PD_LOOP_RAIL, H.TH_RESWEEP, H.TH_REF_DUE])
    ((s.wr H.FLT_TEST_PEND n 0).wr H.FLT_TEST_LEFT n 0) (s.endTest n) := by
  unfold State.endTest
  split
  · exact (Frame.refl _).wr.wr
  · exact (Frame.refl _).wr
  · split
    · exact (Frame.refl _).wr
    · exact .refl _
  · exact (Frame.refl _).wr
  · exact (Frame.refl _).wr
  · exact (Frame.refl _).wr
  · exact (Frame.refl _).wr
  · exact .refl _

theorem endTest_frame (s : State) (n : Nat) : Frame Frame.endTestReach s (s.endTest n) := (Frame.refl s).endTest

theorem endTest_ended (hn : n < 4096) (s : State) : (s.endTest n).bit H.FLT_TEST_PEND n = false := by
  rw [(endTest_last s n).bit (by decide), State.bit_wr_apart _ (by decide), State.bit_wr_below hn _ _ (by decide) le_rfl rfl, if_pos rfl]
  rfl

theorem quietOf_lt (s : State) (n : Nat) : s.quietOf n < 2 ^ 16 := by
  unfold State.quietOf
  split
  · next k _ _ => exact max_lt (by decide) (s.rd_lt R.FLT_KIND_QUIET_QUIET k)
  · decide

/-- A source that is TESTING takes its verdict. -/
structure Judged (s : State) (n : Nat) (v : TestVerdict) (t : State) : Prop where
  state : t.rd R.FLT_SRC_STATE_STATE n = if v = .pass then 3 else 2
  verdict : t.rd R.FLT_SRC_STATE_VERDICT n = verdictCode v
  quiet : t.rd R.FLT_SRC_STATE_QUIET_LEFT n = s.quietOf n
  ended : t.bit H.FLT_TEST_PEND n = false
  cls : t.rd R.FLT_SRC_STATE_CLASS n = if v = .fail then max 1 (s.rd R.FLT_SRC_STATE_CLASS n) else s.rd R.FLT_SRC_STATE_CLASS n
  others : ∀ m, m ≠ n → t.rd R.FLT_SRC_STATE_STATE m = s.rd R.FLT_SRC_STATE_STATE m

/-- The registers of a source that leaves TESTING. -/
def State.leaveTesting (s : State) (n : Nat) (v : TestVerdict) : State :=
  ((((s.endTest n).wr R.FLT_SRC_STATE_VERDICT n (verdictCode v)).when (v == .fail) fun t =>
    t.wr R.FLT_SRC_STATE_CLASS n (max 1 (s.rd R.FLT_SRC_STATE_CLASS n))).wr R.FLT_SRC_STATE_STATE n
    (if v = .pass then 3 else 2)).wr R.FLT_SRC_STATE_QUIET_LEFT n (s.quietOf n)

theorem leaveTesting_judged (hn : n < 4096) (s : State) (v : TestVerdict) : Judged s n v (s.leaveTesting n v) := by
  have hend := endTest_frame s n
  have hcls : s.rd R.FLT_SRC_STATE_CLASS n < 4 := s.rd_lt _ _
  constructor
  · rw [State.leaveTesting, State.rd_wr_apart _ (by decide), State.rd_wr_below hn _ _ (by decide) le_rfl, if_pos rfl]
    split <;> rfl
  · rw [State.leaveTesting, State.rd_wr_apart _ (by decide), State.rd_wr_apart _ (by decide), State.rd_when,
      State.rd_wr_apart _ (by decide), ite_self, State.rd_wr_below hn _ _ (by decide) le_rfl, if_pos rfl]
    cases v <;> rfl
  · rw [State.leaveTesting, State.rd_wr_below hn _ _ (by decide) le_rfl, if_pos rfl]
    exact Nat.mod_eq_of_lt (quietOf_lt s n)
  · rw [State.leaveTesting, State.bit_wr_apart _ (by decide), State.bit_wr_apart _ (by decide), State.bit_when,
      State.bit_wr_apart _ (by decide), ite_self, State.bit_wr_apart _ (by decide), endTest_ended hn]
  · rw [State.leaveTesting, State.rd_wr_apart _ (by decide), State.rd_wr_apart _ (by decide), State.rd_when,
      State.rd_wr_below hn _ _ (by decide) le_rfl, if_pos rfl, State.rd_wr_apart _ (by decide), hend.rd (by decide)]
    have hmax : max 1 (s.rd R.FLT_SRC_STATE_CLASS n) % 2 ^ R.FLT_SRC_STATE_CLASS.wid = max 1 (s.rd R.FLT_SRC_STATE_CLASS n) :=
      Nat.mod_eq_of_lt (max_lt (by decide) hcls)
    rw [hmax]
    cases v <;> rfl
  · intro m hm
    rw [State.leaveTesting, State.rd_wr_apart _ (by decide), State.rd_wr_idx _ hm.symm (by decide), State.rd_when,
      State.rd_wr_apart _ (by decide), ite_self, State.rd_wr_apart _ (by decide), hend.rd (by decide)]

/-- What is told afterwards leaves a verdict as it stands. -/
theorem Judged.before {t u : State} {r : Reach} (h : Judged s n v t) (hf : Frame r t u) (hr : (r.flds.all fun f =>
    f.apart R.FLT_SRC_STATE_STATE && f.apart R.FLT_SRC_STATE_VERDICT && f.apart R.FLT_SRC_STATE_QUIET_LEFT
      && f.apart H.FLT_TEST_PEND && f.apart R.FLT_SRC_STATE_CLASS) = true) : Judged s n v u := by
  simp only [List.all_eq_true, Bool.and_eq_true] at hr
  have hst := hf.rd (g := R.FLT_SRC_STATE_STATE) (List.all_eq_true.2 fun f hm => (hr f hm).1.1.1.1)
  exact ⟨(hst n).trans h.state, (hf.rd (List.all_eq_true.2 fun f hm => (hr f hm).1.1.1.2) n).trans h.verdict,
    (hf.rd (List.all_eq_true.2 fun f hm => (hr f hm).1.1.2) n).trans h.quiet,
    (hf.bit (List.all_eq_true.2 fun f hm => (hr f hm).1.2) n).trans h.ended,
    (hf.rd (List.all_eq_true.2 fun f hm => (hr f hm).2) n).trans h.cls, fun m hm => (hst m).trans (h.others m hm)⟩

theorem applyVerdict_testing (hst : s.rd R.FLT_SRC_STATE_STATE n = 1) (hdue : s.bit H.FLT_SEV_DUE n = false) :
    s.applyVerdict n v = (((s.leaveTesting n v).srcRecord n).noteChange n) := by
  rw [State.applyVerdict, if_pos hst, hdue]
  rfl

theorem giveVerdict_last (s : State) (n : Nat) (v : TestVerdict) :
    Frame (Frame.channelVerdictsReach.and ⟨[.out], []⟩) (s.applyVerdict n v) (s.giveVerdict n v) := by
  unfold State.giveVerdict
  dsimp only
  split
  · exact (Frame.ite (Frame.refl _).send (.refl _)).channelVerdicts
  · exact Frame.ite (Frame.refl _).send (.refl _)

theorem giveVerdict_judged (hn : n < 4096) (hst : s.rd R.FLT_SRC_STATE_STATE n = 1) (hdue : s.bit H.FLT_SEV_DUE n = false) :
    Judged s n v (s.giveVerdict n v) := by
  have happly : Judged s n v (s.applyVerdict n v) := by
    rw [applyVerdict_testing hst hdue]
    exact (leaveTesting_judged hn s v).before (told_frame _ n) (by decide +kernel)
  exact happly.before (giveVerdict_last s n v) (by decide +kernel)

theorem exec_testVerdict {u : TestVerdict} (hp : s.bit H.FLT_TEST_PEND n = true) (hu : s.heldVerdict n v = some u) :
    exec (.testVerdict n v) s = (s.giveVerdict n u).go := by
  change execTestVerdict _ _ _ = _
  rw [execTestVerdict, if_pos hp, hu]

theorem exec_testVerdict_quiet (h : s.bit H.FLT_TEST_PEND n = false ∨ s.heldVerdict n v = none) :
    exec (.testVerdict n v) s = .next s := by
  change execTestVerdict _ _ _ = _
  unfold execTestVerdict
  obtain h | h := h
  · rw [h, if_neg Bool.false_ne_true, State.go]
  · rw [h]
    dsimp only
    rw [ite_self, State.go]

/-- A test at its time limit, before its verdict. -/
def State.limitTest (s : State) (n : Nat) : State := s.when (decide (n < 256)) fun t => t.wr H.LE_GOLD_TWIN n 0

theorem limitTest_frame (s : State) (n : Nat) : Frame (.regs [H.LE_GOLD_TWIN]) s (s.limitTest n) := (Frame.refl s).when fun _ hu => hu.wr

theorem exec_testTimeLimit (hp : s.bit H.FLT_TEST_PEND n = true) (hleft : s.rd H.FLT_TEST_LEFT n = 0) : exec (.testTimeLimit n) s
    = ((s.limitTest n).giveVerdict n (if n = 0x36A ∧ s.bit H.TWIN_REJOIN 0 = true then .fail else .notRun)).go := by
  change execTestTimeLimit _ _ = _
  rw [execTestTimeLimit, if_pos (by simp [hp, hleft])]
  rfl

theorem exec_testTimeLimit_quiet (h : s.bit H.FLT_TEST_PEND n = false ∨ s.rd H.FLT_TEST_LEFT n ≠ 0) :
    exec (.testTimeLimit n) s = .next s := by
  change execTestTimeLimit _ _ = _
  rw [execTestTimeLimit, if_neg, State.go]
  obtain h | h := h
  · simp [h]
  · simp [h]

theorem limitTest_judged (hn : n < 4096) (hst : s.rd R.FLT_SRC_STATE_STATE n = 1) (hdue : s.bit H.FLT_SEV_DUE n = false)
    (v : TestVerdict) : Judged (s.limitTest n) n v ((s.limitTest n).giveVerdict n v) :=
  giveVerdict_judged hn (((limitTest_frame s n).rd (by decide) n).trans hst) (((limitTest_frame s n).bit (by decide) n).trans hdue)

end

/-! ## Quiet and clear sources -/

section
variable {s : State} {n : Nat}

theorem exec_quietExpiry : exec (.quietExpiry n) s
    = (if s.rd R.FLT_SRC_STATE_QUIET_LEFT n ≠ 0 then s
      else if s.rd R.FLT_SRC_STATE_STATE n = 3 ∧ !s.holding n then s.toClear n
      else if s.rd R.FLT_SRC_STATE_STATE n = 2 then (s.startTest n).enterState n 1 else s).go := rfl

/-- The registers of a source that becomes CLEAR, before what it releases. -/
def State.clearSource (s : State) (n : Nat) : State :=
  ((((s.wr R.FLT_SRC_STATE_STATE n 0).wr R.FLT_SRC_STATE_CLASS n 0).wr R.FLT_SRC_STATE_QUIET_LEFT n 0).inc
    R.FLT_SRC_COUNT_RECOVERIES n 1).wr H.FLT_SEV_DUE n 0

theorem clearSource_cleared (hn : n < 4096) (s : State) : (s.clearSource n).rd R.FLT_SRC_STATE_STATE n = 0
    ∧ (s.clearSource n).rd R.FLT_SRC_STATE_CLASS n = 0
    ∧ (s.clearSource n).rd R.FLT_SRC_COUNT_RECOVERIES n
      = satAdd R.FLT_SRC_COUNT_RECOVERIES.wid (s.rd R.FLT_SRC_COUNT_RECOVERIES n) 1 := by
  simp (disch := decide) only [State.clearSource, State.rd_wr_apart, State.rd_inc_apart, State.rd_wr_below hn, State.rd_inc_below hn,
    if_true, Nat.zero_mod, and_self]

theorem clearSource_frame (s : State) (n : Nat) : Frame (.regs [R.FLT_SRC_STATE_STATE, R.FLT_SRC_STATE_CLASS, R.FLT_SRC_STATE_QUIET_LEFT,
    R.FLT_SRC_COUNT_RECOVERIES, H.FLT_SEV_DUE]) s (s.clearSource n) := (Frame.refl s).wr.wr.wr.inc.wr

theorem release_frame (s : State) (n : Nat) : Frame Frame.releaseReach s (s.release n) := (Frame.refl s).release

theorem toClear_eq (s : State) (n : Nat) : s.toClear n = ((((s.clearSource n).release n).srcRecord n).noteChange n) := rfl

theorem toClear_cleared (hn : n < 4096) (s : State) : (s.toClear n).rd R.FLT_SRC_STATE_STATE n = 0
    ∧ (s.toClear n).rd R.FLT_SRC_STATE_CLASS n = 0
    ∧ (s.toClear n).rd R.FLT_SRC_COUNT_RECOVERIES n
      = satAdd R.FLT_SRC_COUNT_RECOVERIES.wid (s.rd R.FLT_SRC_COUNT_RECOVERIES n) 1
    ∧ (s.toClear n).rd R.FLT_LAST_SOURCE 0 = n ∧ (s.toClear n).rd R.FLT_LAST_STATE 0 = 0
    ∧ (s.toClear n).rd R.FLT_LAST_FRAME_FRAME 0 = s.frame % 2 ^ 32 := by
  obtain ⟨hstate, hcls, hcount⟩ := clearSource_cleared hn s
  have hrel := release_frame (s.clearSource n) n
  have hrec := srcRecord_frame ((s.clearSource n).release n) n
  have hnote := noteChange_frame (((s.clearSource n).release n).srcRecord n) n
  obtain ⟨hsrc, hlast, hframe⟩ := noteChange_last hn (((s.clearSource n).release n).srcRecord n)
  rw [toClear_eq]
  refine ⟨?_, ?_, ?_, hsrc, ?_, ?_⟩
  · rw [hnote.rd (by decide +kernel), hrec.rd (by decide), hrel.rd (by decide +kernel), hstate]
  · rw [hnote.rd (by decide +kernel), hrec.rd (by decide), hrel.rd (by decide +kernel), hcls]
  · rw [hnote.rd (by decide +kernel), hrec.rd (by decide), hrel.rd (by decide +kernel), hcount]
  · rw [hlast, hrec.rd (by decide), hrel.rd (by decide +kernel), hstate]
  · rw [hframe, State.frame, hrec.rd (by decide), hrel.rd (by decide +kernel), (clearSource_frame s n).rd (by decide), ← State.frame]

theorem startTest_frame (s : State) (n : Nat) : Frame (.fault testFields) s (s.startTest n) := (Frame.refl s).startTest

theorem startTest_pending (hk : (srcKind n).isSome = true) (s : State) : (s.startTest n).bit H.FLT_TEST_PEND n = true := by
  have hn := srcKind_lt_4096 hk
  obtain ⟨⟨k, i⟩, hki⟩ := Option.isSome_iff_exists.1 hk
  rw [State.startTest, hki]
  dsimp only
  split
  · assumption
  · rw [(testAction_frame _ k i).bit (by decide)]
    simp (disch := decide) only [State.bit_wr_apart, State.bit_wr_below hn, if_true]
    rfl

theorem enterState_state (hn : n < 4096) {st : Nat} (hst : st < 8) (s : State) :
    (s.enterState n st).rd R.FLT_SRC_STATE_STATE n = st := by
  rw [State.enterState, (noteChange_frame _ n).rd (by decide +kernel), State.rd_wr_below hn _ _ (by decide) le_rfl, if_pos rfl]
  exact Nat.mod_eq_of_lt hst

/-- What the entry of a state reaches. -/
theorem enterState_frame (s : State) (n st : Nat) : Frame (eventReach.and (.regs [R.FLT_SRC_STATE_STATE, R.FLT_LAST_STATE,
    R.FLT_LAST_CLASS, R.FLT_LAST_KIND, R.FLT_LAST_SOURCE, R.FLT_LAST_FRAME_FRAME])) s (s.enterState n st) :=
  ((Frame.refl s).wr).andThen (noteChange_frame _ n)

end

/-! ## Sources that become severe -/

section
variable {s : State} {n : Nat}

/-- A source that is due for it enters SEVERE. -/
def State.enterSevere (s : State) (n : Nat) : State :=
  (((s.wr H.FLT_SEV_DUE n 0).wr R.FLT_SRC_STATE_QUIET_LEFT n 0).enterState n 4).srcRecord n

theorem exec_escalationSevere (hdue : s.bit H.FLT_SEV_DUE n = true) (hst : s.rd R.FLT_SRC_STATE_STATE n < 4) :
    exec (.escalationSevere n) s = ((s.enterSevere n).severeAct n).go := by
  change execEscalationSevere _ _ = _
  rw [execEscalationSevere, if_pos (by simp [hdue, hst])]
  rfl

theorem exec_escalationSevere_quiet (h : s.bit H.FLT_SEV_DUE n = false ∨ 4 ≤ s.rd R.FLT_SRC_STATE_STATE n) :
    exec (.escalationSevere n) s = .next s := by
  change execEscalationSevere _ _ = _
  rw [execEscalationSevere, if_neg, State.go]
  obtain h | h := h
  · simp [h]
  · simp [Nat.not_lt.2 h]

theorem enterSevere_severe (hn : n < 4096) (s : State) :
    (s.enterSevere n).rd R.FLT_SRC_STATE_STATE n = 4 ∧ (s.enterSevere n).bit H.FLT_SEV_DUE n = false := by
  rw [State.enterSevere, (srcRecord_frame _ n).rd (by decide), (srcRecord_frame _ n).bit (by decide),
    enterState_state hn (by decide), (enterState_frame _ n 4).bit (by decide +kernel), State.bit_wr_apart _ (by decide),
    State.bit_wr_below hn _ _ (by decide) le_rfl rfl, if_pos rfl]
  exact ⟨rfl, rfl⟩

theorem enterSevere_frame (s : State) (n : Nat) : Frame ((eventReach.and (.regs [R.FLT_SRC_STATE_STATE, R.FLT_LAST_STATE,
    R.FLT_LAST_CLASS, R.FLT_LAST_KIND, R.FLT_LAST_SOURCE, R.FLT_LAST_FRAME_FRAME])).and ((.regs [H.FLT_SEV_DUE,
    R.FLT_SRC_STATE_QUIET_LEFT] : Reach).and Frame.tallyReach)) s (s.enterSevere n) :=
  (((Frame.refl s).wr.wr).andThen (enterState_frame _ n 4)).andThen (srcRecord_frame _ n)

/-- A further contained event of a SEVERE source leaves it SEVERE and not due. -/
theorem raise_severe (hst : s.rd R.FLT_SRC_STATE_STATE n = 4) (hdue : s.bit H.FLT_SEV_DUE n = false) (inj : Bool) :
    (s.raise n 1 inj).rd R.FLT_SRC_STATE_STATE n = 4 ∧ (s.raise n 1 inj).bit H.FLT_SEV_DUE n = false := by
  have hcount (k : Nat) : Frame (.regs [R.FLT_KIND_QUIET_RAISED, R.FLT_SRC_COUNT_WIN_LEFT, R.FLT_SRC_STATE_EVENTS]) s
      (s.countEvent n k) := Frame.ite (Frame.refl s).inc.wr.wr (Frame.refl s).inc.inc
  have hrecord (u : State) (c : Bool) : Frame Frame.tallyReach u (u.when c fun t => t.srcRecord n) :=
    (Frame.refl u).when fun v hv => hv.trans (srcRecord_frame v n)
  unfold State.raise
  split
  · exact ⟨hst, hdue⟩
  split
  · exact ⟨hst, hdue⟩
  next k i _ _ =>
  have htest (u : State) : Frame (.fault testFields) u (u.startTest n) := startTest_frame u n
  rw [(hrecord _ _).rd (by decide), (hrecord _ _).bit (by decide)]
  simp (disch := decide) [hst, hdue, (htest _).rd, (htest _).bit, State.when_false, State.rd_wr_apart, State.bit_wr_apart,
    State.rd_wrB_apart, State.bit_wrB_apart, (hcount k).rd, (hcount k).bit]

/-- What reaching SEVERE adds leaves the source SEVERE and not due. -/
theorem severeAct_severe (hst : s.rd R.FLT_SRC_STATE_STATE n = 4) (hdue : s.bit H.FLT_SEV_DUE n = false) :
    (s.severeAct n).rd R.FLT_SRC_STATE_STATE n = 4 ∧ (s.severeAct n).bit H.FLT_SEV_DUE n = false := by
  have hkeep {u : State} {l : List Fld} (h : Frame (.regs l) s u) (hl : (l.all fun f => f.apart R.FLT_SRC_STATE_STATE
      && f.apart H.FLT_SEV_DUE) = true) : u.rd R.FLT_SRC_STATE_STATE n = 4 ∧ u.bit H.FLT_SEV_DUE n = false := by
    simp only [List.all_eq_true, Bool.and_eq_true] at hl
    rw [h.rd (List.all_eq_true.2 fun f hf => (hl f hf).1), h.bit (List.all_eq_true.2 fun f hf => (hl f hf).2)]
    exact ⟨hst, hdue⟩
  unfold State.severeAct
  split
  · next i _ => exact hkeep (l := [H.LE_HOLD_SEV, H.LE_REL_FAULT]) (Frame.refl s).wr.wr (by decide)
  · next i hk =>
    split
    · have hbody := fenceBody_frame s i 1
      rw [fencePhase_eq, State.fault, show srcBase 0x01 + i = n from (eq_of_srcKind_phase hk).symm]
      exact raise_severe ((hbody.rd (by decide +kernel) n).trans hst) ((hbody.bit (by decide +kernel) n).trans hdue) false
    · exact ⟨hst, hdue⟩
  · next i _ => exact hkeep (l := [R.TH_SITE_STATE]) (Frame.ite (Frame.refl s).wr (.refl s)) (by decide)
  · exact ⟨hst, hdue⟩

theorem srcKind_slot (h : n < 256) : srcKind n = some (0x00, n) := by
  simp (disch := omega) only [srcKind, if_pos]

/-- A slot's source that becomes SEVERE holds the slot. -/
theorem severeAct_slot (h : n < 256) (s : State) : (s.severeAct n).bit H.LE_HOLD_SEV n = true := by
  rw [State.severeAct, srcKind_slot h]
  change ((s.wr H.LE_HOLD_SEV n 1).wr H.LE_REL_FAULT n 0).bit H.LE_HOLD_SEV n = true
  rw [State.bit_wr_apart _ (by decide), State.bit_wr_below h _ _ (by decide) le_rfl rfl, if_pos rfl]
  rfl

theorem srcKind_phase {p : Nat} (h : p < 128) : srcKind (0x100 + p) = some (0x01, p) := by
  simp (disch := omega) only [srcKind, if_neg, if_pos, Nat.add_sub_cancel_left]

/-- A derated phase whose source becomes SEVERE is fenced. -/
theorem severeAct_phase {p : Nat} (h : p < 128) (hd : s.bit R.PD_PH_STAT_DERATED p = true) : (s.severeAct (0x100 + p)).ph p = 5 := by
  rw [State.severeAct, srcKind_phase h]
  change (if s.bit R.PD_PH_STAT_DERATED p = true then s.fencePhase p 1 else s).ph p = 5
  rw [if_pos hd, fencePhase_ph h]

end

/-- Settles O36. -/
theorem sourcesAreJudgedAndCleared : Obligations.SourcesAreJudgedAndCleared := by
  unfold Obligations.SourcesAreJudgedAndCleared
  refine ⟨?_, ?_, ?_, ?_, ?_, ?_, ?_, ?_, ?_, ?_, ?_, ?_, ?_, ?_, ?_⟩
  · intro s n v u hk hp hst hdue hu
    obtain ⟨hstate, hverdict, hquiet, hended, hcls, hothers⟩ := giveVerdict_judged (v := u) (srcKind_lt_4096 hk) hst hdue
    exact .of_go (exec_testVerdict hp hu) ⟨hstate, hverdict, hquiet, hended, hcls, hothers⟩
  · exact fun s n v h => exec_testVerdict_quiet (.inl h)
  · intro s n hk hne hp hleft hst hdue
    obtain ⟨hstate, hverdict, -, hended, hcls, -⟩ := limitTest_judged (srcKind_lt_4096 hk) hst hdue .notRun
    refine .of_go ((exec_testTimeLimit hp hleft).trans (by rw [if_neg (by simp [hne])])) ⟨hstate, hverdict, hended, hcls.trans ?_⟩
    exact (limitTest_frame s n).rd (by decide) n
  · intro s n hn hleft hst hhold
    refine .of_go (exec_quietExpiry.trans ?_) (toClear_cleared hn s)
    rw [if_neg (by simp [hleft]), if_pos (by simp [hst, hhold])]
  · intro s n hk hleft hst
    have hn := srcKind_lt_4096 hk
    have hfinal := enterState_frame (s.startTest n) n 1
    refine .of_go (t := (s.startTest n).enterState n 1) (exec_quietExpiry.trans ?_) ⟨enterState_state hn (by decide) _, ?_, ?_⟩
    · rw [if_neg (by simp [hleft]), if_neg (by simp [hst]), if_pos hst]
    · rw [hfinal.bit (by decide +kernel), startTest_pending hk]
    · rw [hfinal.rd (by decide +kernel), (startTest_frame s n).rd (by decide)]
  · exact fun s n h => exec_quietExpiry.trans (by rw [if_pos h, State.go])
  · intro s n hk hdue hst
    have hn := srcKind_lt_4096 hk
    obtain ⟨hsevere, hnotdue⟩ := enterSevere_severe hn s
    obtain ⟨hstate, hdue'⟩ := severeAct_severe hsevere hnotdue
    refine .of_go (exec_escalationSevere hdue hst) ⟨hstate, hdue', fun hslot => severeAct_slot hslot _⟩
  · intro s n hn hleft
    have hall : Frame (.regs [R.FLT_SRC_STATE_EVENTS]) s (s.wr R.FLT_SRC_STATE_EVENTS n 0) := (Frame.refl s).wr
    refine .of_go (t := s.wr R.FLT_SRC_STATE_EVENTS n 0)
      (show execWindowExpiry n s = _ by rw [execWindowExpiry, if_pos hleft]) ⟨?_, by simp, hall.onlyRegs⟩
    rw [State.rd_wr_below hn _ _ (by decide) le_rfl, if_pos rfl]
    rfl
  · exact fun s n v _ h => exec_testVerdict_quiet (.inr h)
  · exact fun s n h => exec_testTimeLimit_quiet h
  · intro s hp hleft hrejoin hst hdue
    obtain ⟨hstate, hverdict, -, hended, -, -⟩ := limitTest_judged (n := 0x36A) (by decide) hst hdue .fail
    exact .of_go ((exec_testTimeLimit hp hleft).trans (by rw [if_pos ⟨rfl, hrejoin⟩])) ⟨hstate, hverdict, hended⟩
  · intro s n hne h
    rw [exec_quietExpiry, if_neg (c := s.rd R.FLT_SRC_STATE_STATE n = 3 ∧ (!s.holding n) = true), if_neg hne, ite_self, State.go]
    rintro ⟨hst, hhold⟩
    obtain h | h := h
    · exact h hst
    · simp [h] at hhold
  · exact fun s n h => exec_escalationSevere_quiet h
  · intro s p hp hdue hst hderated hsrc
    have hn : 0x100 + p < 4096 := by omega
    obtain ⟨hsevere, hnotdue⟩ := enterSevere_severe hn s
    refine .of_go (exec_escalationSevere hdue hst) ⟨(severeAct_severe hsevere hnotdue).1,
      severeAct_phase hp (((enterSevere_frame s _).bit (by decide +kernel) p).trans hderated)⟩
  · exact fun s n h => by
      change execWindowExpiry n s = _
      rw [execWindowExpiry, if_neg h, State.go]

end Sys2Proof.Machine
end

section
/-! Twin roles and silence (R401, R403, R404, R408, R422). -/

set_option Elab.async false

namespace Sys2Proof.Machine

section
variable {s : State}

theorem nextRole_of_free (h : s.rd H.TWIN_NEXT_ROLE 0 ≠ 1) (r : Nat) : s.nextRole r = s.wr H.TWIN_NEXT_ROLE 0 (r + 1) := by
  rw [State.nextRole, if_neg h]

theorem nextRole_of_detaching (h : s.rd H.TWIN_NEXT_ROLE 0 = 1) (r : Nat) : s.nextRole r = s := by
  rw [State.nextRole, if_pos h]

theorem exec_catchUpComplete : exec .catchUpComplete s
    = (if s.role == 1 && s.rd R.TWIN_SYNC_COPY_PCT 0 == 100 && s.bit H.TWIN_FR_EQ 0 then s.nextRole 2 else s).go := rfl

theorem exec_cleanFramesReached : exec .cleanFramesReached s
    = (if s.role == 2 && decide (max 64 (s.rd R.TWIN_CTRL_CLEAN_FRAMES 0) ≤ s.rd R.TWIN_SYNC_CLEAN 0) then s.nextRole 3
      else s).go := rfl

theorem exec_peerReadyLapse : exec .peerReadyLapse s
    = (if s.rd H.TWIN_RDY_AGE 0 = 3 then s.wr R.TWIN_STATUS_PEER_READY 0 0 else s).go := rfl

theorem exec_linkDown : exec .linkDown s
    = (if s.role == 3 && s.rd H.TWIN_ST_AGE 0 == 3 && s.rd H.TWIN_MESH_AGE 0 != 3 && !s.bit H.TWIN_LD_RAISED 0 then
        (s.wr H.TWIN_LD_RAISED 0 1).fault 0x0E 0 1 else s).go := rfl

theorem exec_peerSilent : exec .peerSilent s
    = (if s.role == 3 && s.rd H.TWIN_ST_AGE 0 == 3 && s.rd H.TWIN_MESH_AGE 0 == 3 && s.bit R.TWIN_STATUS_GATE_PEER 0
        && !s.bit H.TWIN_PS_RAISED 0 then (s.wr H.TWIN_PS_RAISED 0 1).fault 0x0E 1 1 else s).go := rfl

theorem ite_self_of {c : Bool} {t : State} (h : c = true → t = s) : (if c = true then t else s).go = .next s := by
  split
  · next hc => rw [h hc, State.go]
  · rfl

theorem srcPresent_twin (z : Bool) {i : Nat} (h : i < 4) : srcPresent z (0x368 + i) = true := by
  interval_cases i <;> cases z <;> rfl

end

/-- Settles O29. -/
theorem twinRolesAndSilence : Obligations.TwinRolesAndSilence := by
  unfold Obligations.TwinRolesAndSilence
  refine ⟨?_, ?_, ?_, ?_, ?_, ?_, ?_, ?_, ?_, ?_⟩
  · intro s hrole hcopy hframe hfree
    rw [exec_catchUpComplete, if_pos (by simp [hrole, hcopy, hframe]), nextRole_of_free hfree, State.go]
  · intro s hrole hclean hfree
    rw [exec_cleanFramesReached, if_pos (by simp [hrole, hclean]), nextRole_of_free hfree, State.go]
  · intro s hage
    have hall : Frame (.regs [R.TWIN_STATUS_PEER_READY]) s (s.wr R.TWIN_STATUS_PEER_READY 0 0) := (Frame.refl s).wr
    refine .of_go (exec_peerReadyLapse.trans (by rw [if_pos hage])) ⟨?_, hall.kinds, hall.onlyRegs⟩
    rw [State.bit_wr_below Nat.zero_lt_one _ _ (by decide) (by decide) rfl, if_pos rfl]
    rfl
  · intro s hrole hst hmesh hno
    have hall : Frame (.fault (faultFields ++ [H.TWIN_LD_RAISED])) s ((s.wr H.TWIN_LD_RAISED 0 1).fault 0x0E 0 1) :=
      (Frame.refl s).wr.fault
    refine .of_go (exec_linkDown.trans (by rw [if_pos (by simp [hrole, hst, hmesh, hno])])) ⟨?_, ?_, hall.kinds, hall.onlyFault⟩
    · rw [(fault_frame _ _ _ _).bit (by decide +kernel), State.bit_wr_below Nat.zero_lt_one _ _ (by decide) (by decide) rfl, if_pos rfl]
      rfl
    · exact Raised.after (State.wr_kinds _ _ _ _) (by decide) (State.fault_raised _ rfl (srcPresent_twin _ (i := 0) (by decide)) (by decide))
  · intro s hrole hst hmesh hpeer hno
    have hall : Frame (.fault (faultFields ++ [H.TWIN_PS_RAISED])) s ((s.wr H.TWIN_PS_RAISED 0 1).fault 0x0E 1 1) :=
      (Frame.refl s).wr.fault
    refine .of_go (exec_peerSilent.trans (by rw [if_pos (by simp [hrole, hst, hmesh, hpeer, hno])]))
      ⟨?_, ?_, hall.kinds, hall.onlyFault⟩
    · rw [(fault_frame _ _ _ _).bit (by decide +kernel), State.bit_wr_below Nat.zero_lt_one _ _ (by decide) (by decide) rfl, if_pos rfl]
      rfl
    · exact Raised.after (State.wr_kinds _ _ _ _) (by decide) (State.fault_raised _ rfl (srcPresent_twin _ (i := 1) (by decide)) (by decide))
  · intro s h
    rw [exec_catchUpComplete]
    refine ite_self_of fun hc => ?_
    simp only [Bool.and_eq_true, beq_iff_eq] at hc
    obtain ⟨⟨hrole, hcopy⟩, hframe⟩ := hc
    obtain h | h | h | h := h
    · exact absurd hrole h
    · exact absurd hcopy h
    · exact absurd hframe (by rw [h]; decide)
    · exact nextRole_of_detaching h 2
  · intro s h
    rw [exec_cleanFramesReached]
    refine ite_self_of fun hc => ?_
    simp only [Bool.and_eq_true, beq_iff_eq, decide_eq_true_eq] at hc
    obtain ⟨hrole, hclean⟩ := hc
    obtain h | h | h := h
    · exact absurd hrole h
    · omega
    · exact nextRole_of_detaching h 3
  · exact fun s h => exec_peerReadyLapse.trans (by rw [if_neg h, State.go])
  · intro s h
    rw [exec_linkDown, if_neg, State.go]
    obtain h | h | h | h := h <;> simp [h]
  · intro s h
    rw [exec_peerSilent, if_neg, State.go]
    obtain h | h | h | h | h := h <;> simp [h]

end Sys2Proof.Machine
end

section
/-! The Gate and the golden verdicts (R33, R403, R406–R410, R416, R420). -/

set_option Elab.async false

namespace Sys2Proof.Machine

theorem Frame.eq_regsOutMesh {l : List Fld} {s t : State} (h : Frame ⟨[.out, .mesh], l⟩ s t) {m : MeshPort} (hm : t.mesh = m) :
    t = { s with regs := t.regs, out := t.out, mesh := m } := by
  have h1 := h.parts .ident rfl
  have h2 := h.parts .store rfl
  have h3 := h.parts .map rfl
  have h4 := h.parts .staged rfl
  have h5 := h.parts .sched rfl
  have h6 := h.parts .sweeps rfl
  have h7 := h.parts .fifo rfl
  have h8 := h.parts .fltQueue rfl
  have h9 := h.parts .tallyQueue rfl
  have h10 := h.parts .tallyStage rfl
  have h11 := h.parts .mirror rfl
  have h12 := h.parts .flush rfl
  have h13 := h.parts .shadows rfl
  have h14 := h.parts .resp rfl
  have h15 := h.parts .free rfl
  have h16 := h.parts .pending rfl
  cases s
  cases t
  simp_all [Part.Same]

/-! ## Drivers -/

section
variable {s : State} {p : Nat} {lvl : PwmLevel}

theorem pwm_sent (hd : s.bit R.PD_STATUS_DRIVING 0 = true) (lvl : PwmLevel) (a b : Nat) :
    .pwm p lvl a b ∈ (s.pwm p lvl a b).out := by
  rw [State.pwm, if_pos hd]
  exact List.mem_cons_self

theorem pwm_frame (s : State) (p : Nat) (lvl : PwmLevel) (a b : Nat) : Frame ⟨[.out], []⟩ s (s.pwm p lvl a b) := (Frame.refl s).pwm

theorem pwms_frame (s : State) (l : List Nat) (lvl : PwmLevel) :
    Frame ⟨[.out], []⟩ s (l.foldl (fun (t : State) p => t.pwm p lvl 0 0) s) := (Frame.refl s).foldl fun _ _ hu => hu.pwm

/-- While the drivers are enabled each output of a list is told its level. -/
theorem pwms_sent {l : List Nat} (hp : p ∈ l) (hd : s.bit R.PD_STATUS_DRIVING 0 = true) :
    .pwm p lvl 0 0 ∈ (l.foldl (fun (t : State) p => t.pwm p lvl 0 0) s).out := by
  refine foldl_at (g := fun (t : State) p => t.pwm p lvl 0 0) (I := fun u => u.bit R.PD_STATUS_DRIVING 0 = true)
    (Q := fun u => .pwm p lvl 0 0 ∈ u.out) hp (fun u x hu => ?_) (fun u hu => pwm_sent hu lvl 0 0) (fun u x _ hq => ?_) s hd
  · rw [(pwm_frame u x lvl 0 0).bit (by decide), hu]
  · by_cases hx : u.bit R.PD_STATUS_DRIVING 0 = true
    · rw [State.pwm, if_pos hx]
      exact List.mem_cons_of_mem _ hq
    · rw [State.pwm, if_neg hx]
      exact hq

end

/-! ## The keeper -/

section
variable {s : State}

theorem dropGate_last (s : State) : Frame (.regs [R.TWIN_STATUS_GATE_OWN, R.TWIN_STATUS_ROLE, R.STATUS_READY, H.TWIN_LOSS,
    H.TWIN_NEXT_ROLE, H.TWIN_SWAP_DUE, H.TWIN_VSWAP, H.TWIN_DET_AFTER, H.TWIN_LOST, R.TWIN_SYNC_CLEAN, R.TWIN_CMD_SWAP,
    R.TWIN_CMD_DETACH]) s.driversOff.stopSending s.dropGate := (Frame.refl _).wr.wr.wr.wr.clearElems

theorem driversOff_frame (s : State) : Frame ⟨[.out], [R.PD_STATUS_DRIVING]⟩ s s.driversOff :=
  ((pwms_frame s _ _).mono (by decide)).wr

theorem driversOff_off (s : State) : s.driversOff.bit R.PD_STATUS_DRIVING 0 = false := by
  rw [State.driversOff, State.bit_wr_below Nat.zero_lt_one _ _ (by decide) (by decide) rfl, if_pos rfl]
  rfl

theorem dropGate_frame (s : State) : Frame ⟨[.out, .mesh], [R.PD_STATUS_DRIVING, R.TWIN_STATUS_GATE_OWN, R.TWIN_STATUS_ROLE,
    R.STATUS_READY, H.TWIN_LOSS, H.TWIN_NEXT_ROLE, H.TWIN_SWAP_DUE, H.TWIN_VSWAP, H.TWIN_DET_AFTER, H.TWIN_LOST, R.TWIN_SYNC_CLEAN,
    R.TWIN_CMD_SWAP, R.TWIN_CMD_DETACH]⟩ s s.dropGate :=
  (((driversOff_frame s).mono (by decide)).setMesh).wr.wr.wr.wr.clearElems

theorem dropGate_dropped (s : State) : s.dropGate.bit R.TWIN_STATUS_GATE_OWN 0 = false ∧ s.dropGate.role = 0
    ∧ s.dropGate.bit R.PD_STATUS_DRIVING 0 = false ∧ s.dropGate.bit R.STATUS_READY 0 = false := by
  have hlast (u : State) : Frame (.regs [H.TWIN_LOSS, H.TWIN_NEXT_ROLE, H.TWIN_SWAP_DUE, H.TWIN_VSWAP, H.TWIN_DET_AFTER, H.TWIN_LOST,
      R.TWIN_SYNC_CLEAN, R.TWIN_CMD_SWAP, R.TWIN_CMD_DETACH]) u ((u.wr H.TWIN_LOSS 0 1).clearElems [H.TWIN_NEXT_ROLE,
      H.TWIN_SWAP_DUE, H.TWIN_VSWAP, H.TWIN_DET_AFTER, H.TWIN_LOST, R.TWIN_SYNC_CLEAN, R.TWIN_CMD_SWAP, R.TWIN_CMD_DETACH] 0) :=
    (Frame.refl u).wr.clearElems
  refine ⟨?_, ?_, ?_, ?_⟩
  · rw [State.dropGate, (hlast _).bit (by decide), State.bit_wr_apart _ (by decide), State.bit_wr_apart _ (by decide),
      State.bit_wr_below Nat.zero_lt_one _ _ (by decide) (by decide) rfl, if_pos rfl]
    rfl
  · rw [State.dropGate, State.role, (hlast _).rd (by decide), State.rd_wr_apart _ (by decide),
      State.rd_wr_zero _ _ (by decide) (by decide), if_pos rfl]
    rfl
  · rw [(dropGate_last s).bit (by decide)]
    exact driversOff_off s
  · rw [State.dropGate, (hlast _).bit (by decide), State.bit_wr_below Nat.zero_lt_one _ _ (by decide) (by decide) rfl, if_pos rfl]
    rfl

theorem dropGate_eq (s : State) :
    s.dropGate = { s with regs := s.dropGate.regs, out := s.dropGate.out, mesh := { s.mesh with waiting := [] } } := by
  refine (dropGate_frame s).eq_regsOutMesh ((dropGate_last s).mesh.trans ?_)
  change { s.driversOff.mesh with waiting := [] } = _
  rw [(driversOff_frame s).mesh]

theorem dropGate_floats (hd : s.bit R.PD_STATUS_DRIVING 0 = true) {p : Nat} (hp : p < phaseCount s.zk4) :
    .pwm p .mid 0 0 ∈ s.dropGate.out := by
  rw [(dropGate_last s).out]
  exact pwms_sent (List.mem_range.2 hp) hd

/-- The keeper's cause holds now. -/
def causeHolds (s : State) : KeeperCause → Prop
  | .lostFrames => 2 ≤ s.rd H.TWIN_LOST 0
  | .reset => s.upperReset = true
  | .noBoundary => True
  | .timeBase => True

theorem exec_keeperGateDrop {c : KeeperCause} (hh : s.holder = true) (hr : s.bit R.TWIN_STATUS_PEER_READY 0 = true) (hc : causeHolds s c) :
    exec (.keeperGateDrop c) s = s.dropGate.go := by
  change execKeeperGateDrop _ _ = _
  unfold execKeeperGateDrop
  rw [hh, hr]
  cases c with
  | lostFrames => exact congrArg State.go (if_pos hc)
  | reset => exact congrArg State.go (if_pos hc)
  | noBoundary => rfl
  | timeBase => rfl

theorem exec_keeperGateDrop_keeps {c : KeeperCause} (h : s.holder = false ∨ s.bit R.TWIN_STATUS_PEER_READY 0 = false ∨ ¬causeHolds s c) :
    exec (.keeperGateDrop c) s = .next s := by
  change execKeeperGateDrop _ _ = _
  unfold execKeeperGateDrop
  refine ite_self_of fun hboth => ?_
  rw [Bool.and_eq_true] at hboth
  obtain ⟨hh, hr⟩ := hboth
  obtain h | h | h := h
  · rw [h] at hh
    cases hh
  · rw [h] at hr
    cases hr
  · cases c with
    | lostFrames => exact if_neg h
    | reset => exact if_neg h
    | noBoundary => exact absurd trivial h
    | timeBase => exact absurd trivial h

end

/-! ## The gate rises -/

section
variable {s : State}

theorem twinReady_iff : s.twinReady = true ↔ s.role = 3 ∨ s.role = 4 := by simp [State.twinReady]

theorem exec_gateRaise : exec .gateRaise s = (if s.twinReady && !s.bit R.TWIN_STATUS_GATE_PEER 0 && !s.bit R.TH_TRIP_NET_LOW 0 then
    s.wr R.TWIN_STATUS_GATE_OWN 0 1 else s).go := rfl

/-- The phases that a takeover starts from (R407, R420). -/
def State.resumed (s : State) : State :=
  if s.role == 3 && s.bit H.TWIN_LD_HAVE 0 then s.setPhases (fun p => s.rd H.TWIN_LD_ST p) (fun p => s.rd H.TWIN_LD_CP p) else s

theorem exec_gateResample : exec .gateResample s
    = (if !s.bit R.TWIN_STATUS_GATE_OWN 0 || s.bit R.PD_STATUS_DRIVING 0 || !s.twinReady then s
      else if s.ident.instB && s.bit R.TWIN_STATUS_GATE_PEER 0 then s.wr R.TWIN_STATUS_GATE_OWN 0 0
      else s.resumed.driversOn).go := rfl

theorem setPhases_last (s : State) (st cp : Nat → Nat) : Frame (.regs [R.PD_PH_STAT_RANK, R.PD_PH_DUTY_DUTY])
    (((List.range 128).filter s.allocated).foldl (fun (t : State) p => ((t.wr R.PD_PH_STAT_STATE p (st p)).wr R.PD_PH_STAT_CAUSE p
      (s.causeFor p (st p))).wr R.PD_PH_DUTY_SHARE p (cp p)) s) (s.setPhases st cp) :=
  (Frame.refl _).foldl fun _ _ hu => hu.rerank.refreshDuty

theorem setPhases_frame (s : State) (st cp : Nat → Nat) : Frame (.regs [R.PD_PH_STAT_STATE, R.PD_PH_STAT_CAUSE, R.PD_PH_DUTY_SHARE,
    R.PD_PH_STAT_RANK, R.PD_PH_DUTY_DUTY]) s (s.setPhases st cp) :=
  ((Frame.refl _).foldl fun _ _ hu => hu.wr.wr.wr).foldl fun _ _ hu => hu.rerank.refreshDuty

theorem setPhases_allocated (st cp : Nat → Nat) {p : Nat} (h : s.allocated p = true) :
    (s.setPhases st cp).ph p = st p % 8 ∧ (s.setPhases st cp).rd R.PD_PH_DUTY_SHARE p = cp p % 2 ^ 16 := by
  have hp : p < 128 := by
    rw [State.allocated, Bool.and_eq_true, decide_eq_true_eq] at h
    exact h.1
  have hmem : p ∈ (List.range 128).filter s.allocated := List.mem_filter.2 ⟨List.mem_range.2 hp, h⟩
  rw [State.ph, (setPhases_last s st cp).rd (by decide), (setPhases_last s st cp).rd (by decide)]
  constructor
  · refine rd_foldl_of_mem (f := R.PD_PH_STAT_STATE) (fun u => ?_) (fun u x hx => ?_) hmem s
    · rw [State.rd_wr_apart _ (by decide), State.rd_wr_apart _ (by decide), State.rd_wr_below hp _ _ (by decide) le_rfl, if_pos rfl]
      rfl
    · rw [State.rd_wr_apart _ (by decide), State.rd_wr_apart _ (by decide), State.rd_wr_idx _ hx (by decide)]
  · refine rd_foldl_of_mem (f := R.PD_PH_DUTY_SHARE) (fun u => ?_) (fun u x hx => ?_) hmem s
    · rw [State.rd_wr_below hp _ _ (by decide) le_rfl, if_pos rfl]
      rfl
    · rw [State.rd_wr_idx _ hx (by decide), State.rd_wr_apart _ (by decide), State.rd_wr_apart _ (by decide)]

theorem setPhases_unallocated (st cp : Nat → Nat) {p : Nat} (h : s.ph p = 7) : (s.setPhases st cp).ph p = 7 := by
  have hno : p ∉ (List.range 128).filter s.allocated := fun hm => by
    have := (List.mem_filter.1 hm).2
    simp [State.allocated, h] at this
  rw [State.ph, (setPhases_last s st cp).rd (by decide)]
  refine (rd_foldl_of_notMem (fun u x hx => ?_) hno s).trans h
  rw [State.rd_wr_apart _ (by decide), State.rd_wr_apart _ (by decide), State.rd_wr_idx _ hx (by decide)]

theorem resumed_frame (s : State) : Frame (.regs [R.PD_PH_STAT_STATE, R.PD_PH_STAT_CAUSE, R.PD_PH_DUTY_SHARE,
    R.PD_PH_STAT_RANK, R.PD_PH_DUTY_DUTY]) s s.resumed := Frame.ite (setPhases_frame s _ _) (.refl s)

theorem resumed_unallocated {p : Nat} (h : s.ph p = 7) : s.resumed.ph p = 7 := by
  unfold State.resumed
  split
  · exact setPhases_unallocated _ _ h
  · exact h

theorem driversOn_frame (s : State) : Frame (.regsOut [R.PD_STATUS_DRIVING]) s s.driversOn :=
  (Frame.refl s).wr.foldl fun _ _ hu => hu.pwm

theorem driversOn_last (s : State) : Frame (.regsOut []) (s.wr R.PD_STATUS_DRIVING 0 1) s.driversOn :=
  (Frame.refl _).foldl fun _ _ hu => hu.pwm

theorem drive_set (s : State) : (s.wr R.PD_STATUS_DRIVING 0 1).bit R.PD_STATUS_DRIVING 0 = true := by
  rw [State.bit_wr_below Nat.zero_lt_one _ _ (by decide) (by decide) rfl, if_pos rfl]
  rfl

theorem driversOn_low {p : Nat} (hp : p < phaseCount s.zk4) (h : s.ph p = 7) : .pwm p .low 0 0 ∈ s.driversOn.out :=
  pwms_sent (List.mem_filter.2 ⟨List.mem_range.2 hp, by simp [h]⟩) (drive_set s)

end

/-! ## Golden verdicts -/

section
variable {s : State} {l : Nat} {hp sp : Bool}

/-- The results of both instances are the ones that a verdict tells of. -/
def State.resultsKnown (s : State) (l : Nat) (hp sp : Bool) : Bool :=
  s.bit H.LE_GOLD_TWIN l && s.bit H.FLT_TEST_PEND l && s.rd H.LE_GOLD_J l == 5
    && s.bit H.LE_GOLD_OK l == (if s.holder then hp else sp)
    && s.rd H.TWIN_PEER_GOLD l == (if (if s.holder then sp else hp) then 1 else 2)

theorem exec_goldenVerdict : exec (.goldenVerdict l hp sp) s = (if s.resultsKnown l hp sp then s.goldAct l hp sp else s).go := rfl

/-- The test of a slot whose verdict has come is over. -/
def State.goldEnd (s : State) (l : Nat) (hp sp : Bool) : State :=
  (s.wr H.LE_GOLD_TWIN l 0).wr H.FLT_RESULT l (if hp && sp then 1 else 2)

/-- A slot held by its golden verdict. -/
def State.goldHold (s : State) (l : Nat) : State := (s.wr H.LE_HOLD_GOLD l 1).wr H.LE_REL_FAULT l 0

theorem goldAct_of_fails (s : State) (l : Nat) : s.goldAct l false false = (s.goldEnd l false false).goldHold l := rfl

theorem goldAct_of_passes (s : State) (l : Nat) : s.goldAct l true true = s.goldEnd l true true := rfl

theorem goldAct_of_standby (s : State) (l : Nat) : s.goldAct l true false
    = if s.holder then s.goldEnd l true false else (s.goldEnd l true false).nextRole 0 := rfl

theorem goldAct_of_holder (s : State) (l : Nat) : s.goldAct l false true
    = if (if s.holder then s.rd R.TWIN_STATUS_PEER_ROLE 0 else s.role) = 3 then
        (if s.holder then ((s.goldEnd l false true).wr H.TWIN_VSWAP 0 1).wr H.TWIN_DET_AFTER 0 1 else s.goldEnd l false true)
      else (s.goldEnd l false true).goldHold l := rfl

theorem goldHold_holds (hl : l < 256) (s : State) : (s.goldHold l).bit H.LE_HOLD_GOLD l = true := by
  rw [State.goldHold, State.bit_wr_apart _ (by decide), State.bit_wr_below hl _ _ (by decide) le_rfl rfl, if_pos rfl]
  rfl

theorem goldEnd_ended (hl : l < 256) (s : State) (hp sp : Bool) :
    (s.goldEnd l hp sp).rd H.FLT_RESULT l = (if hp && sp then 1 else 2) ∧ (s.goldEnd l hp sp).bit H.LE_GOLD_TWIN l = false := by
  have hl' : l < 4096 := hl.trans (by decide)
  simp (disch := decide) only [State.goldEnd, State.rd_wr_below hl', State.bit_wr_apart, State.bit_wr_below hl, if_true]
  exact ⟨by cases hp <;> cases sp <;> rfl, rfl⟩

theorem goldAct_last (s : State) (l : Nat) (hp sp : Bool) : Frame (.regs [H.LE_HOLD_GOLD, H.LE_REL_FAULT, H.TWIN_NEXT_ROLE, H.TWIN_VSWAP,
    H.TWIN_DET_AFTER]) (s.goldEnd l hp sp) (s.goldAct l hp sp) := by
  cases hp with
  | true => cases sp with
    | true => exact .refl _
    | false => exact Frame.ite (.refl _) (Frame.ite (.refl _) (Frame.refl _).wr)
  | false => cases sp with
    | true => exact Frame.ite (Frame.ite (Frame.refl _).wr.wr (.refl _)) (Frame.refl _).wr.wr
    | false => exact (Frame.refl _).wr.wr

theorem goldEnd_frame (s : State) (l : Nat) (hp sp : Bool) : Frame (.regs [H.LE_GOLD_TWIN, H.FLT_RESULT]) s (s.goldEnd l hp sp) :=
  (Frame.refl s).wr.wr

end

/-- Settles O30. -/
theorem gateAndGoldenVerdicts : Obligations.GateAndGoldenVerdicts := by
  unfold Obligations.GateAndGoldenVerdicts
  refine ⟨?_, ?_, ?_, ?_, ?_, ?_, ?_, ?_, ?_, ?_, ?_, ?_, ?_⟩
  · intro s hh hr
    obtain ⟨hgate, hrole, hdriving, hready⟩ := dropGate_dropped s
    exact .of_go (exec_keeperGateDrop hh hr trivial)
      ⟨hgate, hrole, hdriving, hready, fun hd p hp => dropGate_floats hd hp, (dropGate_frame s).kinds, dropGate_eq s⟩
  · exact fun s c h => exec_keeperGateDrop_keeps (.inr (.inl h))
  · intro s
    rfl
  · intro s hrole hpeer hnet
    have hall : Frame (.regs [R.TWIN_STATUS_GATE_OWN]) s (s.wr R.TWIN_STATUS_GATE_OWN 0 1) := (Frame.refl s).wr
    refine .of_go (exec_gateRaise.trans (by rw [twinReady_iff.2 hrole, hpeer, hnet]; rfl)) ⟨?_, hall.kinds, hall.onlyRegs⟩
    rw [State.bit_wr_below Nat.zero_lt_one _ _ (by decide) (by decide) rfl, if_pos rfl]
    rfl
  · intro s h
    rw [exec_gateRaise, if_neg, State.go]
    obtain h | h := h
    · simp [h]
    · simp [h]
  · intro s hown hoff hrole hboth
    have hall : Frame (.regsOut [R.PD_STATUS_DRIVING, R.PD_PH_STAT_STATE, R.PD_PH_STAT_CAUSE, R.PD_PH_DUTY_SHARE, R.PD_PH_STAT_RANK,
        R.PD_PH_DUTY_DUTY]) s s.resumed.driversOn := ((resumed_frame s).mono (by decide)).andThen (driversOn_frame _)
    have hlast := driversOn_frame s.resumed
    have hback : (s.ident.instB && s.bit R.TWIN_STATUS_GATE_PEER 0) = false := by simpa using hboth
    refine .of_go (exec_gateResample.trans (by rw [hown, hoff, twinReady_iff.2 hrole, hback]; rfl))
      ⟨?_, ?_, fun h3 hhave p hp => ?_, fun p hp h7 => ?_, hall.kinds, hall.onlyRegsOut⟩
    · rw [(driversOn_last _).bit (by decide), drive_set]
    · rw [hall.bit (by decide), hown]
    · have hload : s.resumed = s.setPhases (fun p => s.rd H.TWIN_LD_ST p) (fun p => s.rd H.TWIN_LD_CP p) := by
        rw [State.resumed, h3, hhave]
        rfl
      obtain ⟨hst, hcp⟩ := setPhases_allocated (fun p => s.rd H.TWIN_LD_ST p) (fun p => s.rd H.TWIN_LD_CP p) hp
      rw [State.ph, hlast.rd (by decide), hlast.rd (by decide), hload]
      exact ⟨hst.trans (Nat.mod_eq_of_lt (s.rd_lt H.TWIN_LD_ST p)), hcp.trans (Nat.mod_eq_of_lt (s.rd_lt H.TWIN_LD_CP p))⟩
    · refine driversOn_low ?_ (resumed_unallocated h7)
      rwa [State.zk4, (resumed_frame s).ident]
  · intro s hown hoff hB hrole hpeer
    rw [exec_gateResample, hown, hoff, twinReady_iff.2 hrole, hB, hpeer]
    rfl
  · intro s l hp sp hl htwin hpend hj hok hpeer
    have hknown : s.resultsKnown l hp sp = true := by simp only [State.resultsKnown, htwin, hpend, hj, hok, hpeer, beq_self_eq_true,
      Bool.and_self]
    have hall : Frame (.regs [H.LE_GOLD_TWIN, H.FLT_RESULT, H.LE_HOLD_GOLD, H.LE_REL_FAULT, H.TWIN_NEXT_ROLE, H.TWIN_VSWAP,
        H.TWIN_DET_AFTER]) s (s.goldAct l hp sp) := ((goldEnd_frame s l hp sp).mono (by decide)).andThen (goldAct_last s l hp sp)
    obtain ⟨hresult, hended⟩ := goldEnd_ended hl s hp sp
    refine .of_go (exec_goldenVerdict.trans (by rw [hknown]; rfl)) ⟨?_, ?_, ?_, ?_, ?_, ?_, hall.kinds, hall.onlyRegs⟩
    · rw [(goldAct_last s l hp sp).rd (by decide), hresult]
    · rw [(goldAct_last s l hp sp).bit (by decide), hended]
    · rintro rfl rfl
      exact goldHold_holds hl _
    · rintro rfl rfl hno
      rw [goldAct_of_standby, hno, if_neg Bool.false_ne_true]
      by_cases hdet : (s.goldEnd l true false).rd H.TWIN_NEXT_ROLE 0 = 1
      · rw [nextRole_of_detaching hdet, hdet]
      · rw [nextRole_of_free hdet, State.rd_wr_zero _ _ (by decide) (by decide), if_pos rfl]
        rfl
    · rintro rfl rfl hh h3
      rw [goldAct_of_holder, hh, if_pos (by simpa using h3), if_pos rfl]
      simp (disch := decide) only [State.bit_wr_apart, State.bit_wr_below Nat.zero_lt_one, if_true]
      exact ⟨rfl, rfl⟩
    · rintro rfl rfl hh h3
      rw [goldAct_of_holder, hh, if_neg (by simpa using h3)]
      exact goldHold_holds hl _
  · intro s c hh hr hc
    obtain ⟨hgate, hrole, hdriving, hready⟩ := dropGate_dropped s
    refine .of_go (exec_keeperGateDrop hh hr ?_) ⟨hgate, hrole, hdriving, hready, dropGate_eq s⟩
    obtain rfl | ⟨rfl, h⟩ | ⟨rfl, h⟩ := hc
    · trivial
    · exact h
    · exact h
  · intro s c h
    refine exec_keeperGateDrop_keeps ?_
    obtain h | ⟨rfl, h⟩ | ⟨rfl, h⟩ := h
    · exact .inl h
    · exact .inr (.inr (Nat.not_le.2 h))
    · exact .inr (.inr (by simp [causeHolds, h]))
  · intro s h3 h4
    have hno : s.twinReady = false := by simp [State.twinReady, h3, h4]
    rw [exec_gateRaise, hno]
    rfl
  · intro s h
    rw [exec_gateResample, if_pos, State.go]
    obtain h | h | ⟨h3, h4⟩ := h
    · simp [h]
    · simp [h]
    · simp [State.twinReady, h3, h4]
  · intro s l hp sp h
    rw [exec_goldenVerdict, if_neg, State.go]
    unfold State.resultsKnown
    obtain h | h | h | h | h := h
    · simp [h]
    · simp [h]
    · simp [h]
    · simp only [beq_eq_false_iff_ne.2 h, Bool.and_false, Bool.false_and]
      decide
    · simp only [beq_eq_false_iff_ne.2 h, Bool.and_false]
      decide

end Sys2Proof.Machine
end

section
/-! Packets of the twin link (R287, R404). -/

set_option Elab.async false

namespace Sys2Proof.Machine

/-- A copied schedule that says that its dispatcher, one of those from 32 on, has sent an intent. -/
def copiedSchedule : BulkPkt := ⟨true, .schedule 32 0 true []⟩

/-- A Zoskare in JOINING. -/
def State.joins : State := State.reset.wr R.TWIN_STATUS_ROLE 0 1

/-- Refutes O27: of a copied schedule with index 32 or above the mark of an accepted intent is not kept, as there is none for these
dispatchers (R287). -/
theorem not_twinLinkPacketsAreTaken : ¬ Obligations.TwinLinkPacketsAreTaken := by
  unfold Obligations.TwinLinkPacketsAreTaken
  rintro ⟨-, -, -, -, -, -, -, -, -, -, -, -, -, -, hschedule, -⟩
  obtain ⟨t, -, -, -, -, hseen, -⟩ := hschedule State.joins 32 0 true [] (by decide) (by decide)
  exact absurd (State.lt_of_bit hseen rfl) (by decide)

end Sys2Proof.Machine
end

section
/-! A mirrored commit boundary (R427, R536). -/

set_option Elab.async false

namespace Sys2Proof.Machine

/-- A standby that has a checked map staged, and has refused the reload that the Gate holder names the boundary of. -/
def State.refusedReload : State :=
  ((State.reset.wr R.TWIN_STATUS_ROLE 0 3).wr R.RUN_LIVE 0 2).wr H.TOP_REL_REFUSED 0 1

/-- The standby drops its staged map and leaves for DETACHED. -/
theorem exec_commitAt_refusedReload : exec (.twinMirrorPacket ⟨true, 1, .commitAt 1⟩) State.refusedReload
    = .next ((State.refusedReload.clearLoader.clearElems [R.RUN_LIVE, H.TOP_REL_REFUSED] 0).nextRole 0) := by
  rfl

/-- Refutes O28: a standby whose refusal is on record does not keep the boundary that the Gate holder names, but leaves for DETACHED
(R536). -/
theorem not_twinFramesAreCompared : ¬ Obligations.TwinFramesAreCompared := by
  unfold Obligations.TwinFramesAreCompared
  rintro ⟨-, -, -, -, -, hcommit, -⟩
  have h := hcommit State.refusedReload 1 (by decide) (by decide) (by decide)
  rw [exec_commitAt_refusedReload] at h
  injection h with hstate
  have hlive := congrArg (fun s : State => s.rd R.RUN_LIVE 0) hstate
  revert hlive
  decide

end Sys2Proof.Machine
end

section
/-! Harts: resets, restarts, sleep and shed levels (R491, R495, R586–R590, R613, R614). -/

set_option Elab.async false

namespace Sys2Proof.Machine

theorem srcPresent_hart (z : Bool) {k : Nat} (h : k < 4) : srcPresent z (0x2E8 + k) = true := by
  interval_cases k <;> cases z <;> rfl

/-! ## A pending test outlasts an event -/

section
variable {s : State} {n : Nat}

/-- An event of a source whose test is pending leaves the test's result. -/
theorem raise_pending_result (hk : (srcKind n).isSome = true) (hp : s.bit H.FLT_TEST_PEND n = true) (cls : Nat) (inj : Bool) :
    (s.raise n cls inj).rd H.FLT_RESULT n = s.rd H.FLT_RESULT n := by
  obtain ⟨⟨k, i⟩, hki⟩ := Option.isSome_iff_exists.1 hk
  let ρ : Reach := .fault ([R.FLT_KIND_QUIET_RAISED, R.FLT_SRC_COUNT_WIN_LEFT, R.FLT_SRC_STATE_EVENTS, R.FLT_SRC_STATE_INJECTED,
    R.FLT_SRC_STATE_CLASS, R.FLT_SRC_STATE_STATE, H.FLT_SEV_DUE] ++ tellFields)
  have hstart {u : State} (hu : Frame ρ s u) : u.startTest n = u := by
    rw [State.startTest, hki]
    exact if_pos ((hu.bit (by decide) n).trans hp)
  have hframe : Frame ρ s (s.raise n cls inj) := by
    rw [State.raise, hki]
    dsimp only
    refine Frame.ite (.refl s) (Frame.when ?_ fun _ hu => hu.srcRecord)
    have h2 : Frame ρ s ((((s.countEvent n k).wrB R.FLT_SRC_STATE_INJECTED n inj).wr R.FLT_SRC_STATE_CLASS n
        (if s.rd R.FLT_SRC_STATE_STATE n = 0 then cls else max (s.rd R.FLT_SRC_STATE_CLASS n) cls))) :=
      (show Frame ρ s (s.countEvent n k) from Frame.ite (Frame.refl s).inc.wr.wr (Frame.refl s).inc.inc).wrB.wr
    have h3 := h2.when (c := s.rd R.FLT_KIND_ESC_N k != 0 && decide (s.rd R.FLT_KIND_ESC_N k ≤ (((s.countEvent n k).wrB
      R.FLT_SRC_STATE_INJECTED n inj).wr R.FLT_SRC_STATE_CLASS n (if s.rd R.FLT_SRC_STATE_STATE n = 0 then cls else
        max (s.rd R.FLT_SRC_STATE_CLASS n) cls)).rd R.FLT_SRC_STATE_EVENTS n) && decide (s.rd R.FLT_SRC_STATE_STATE n < 4) && cls != 2)
      (g := fun t => t.wr H.FLT_SEV_DUE n 1) fun _ hu => hu.wr
    have hfatal := h3.wr (f := H.FLT_SEV_DUE) (i := n) (v := 0)
    rw [hstart h3, hstart hfatal]
    exact Frame.ite (Frame.ite h3 (show Frame ρ s (State.enterState _ n 5) from hfatal.wr.noteChange).nmiAll) (Frame.ite h3 (Frame.ite h3 (show Frame ρ s (State.enterState _ n 1) from h3.wr.noteChange)))
  exact hframe.rd (by decide) n

end

/-! ## Resets of a hart -/

section
variable {s : State} {k : Nat}

theorem closeWindow_closed (s : State) : s.closeWindow.bit R.WARDEN_OPEN 0 = false := by
  change ((s.wr R.WARDEN_OPEN 0 0).wr R.WARDEN_REMAIN 0 0).bit R.WARDEN_OPEN 0 = false
  rw [State.bit_wr_apart _ (by decide), State.bit_wr_below Nat.zero_lt_one _ _ (by decide) le_rfl rfl, if_pos rfl]
  rfl

theorem resetHart_last (s : State) (k : Nat) : Frame (.regs [R.FW_HART_STAT_LEVEL, R.FW_HART_STAT_LOAD, R.FW_HART_CTRL_SLEEP_OK,
    H.FW_LOW_WIN, R.WARDEN_OPEN, R.WARDEN_REMAIN]) (((s.wr R.FW_HART_STAT_STATE k 3).wr R.RST_STAT_HART k 1).inc
      R.FW_HART_STAT_RESTARTS k 1) (s.resetHart k) := (Frame.refl _).clearElems.when fun _ hu => hu.closeWindow

/-- A hart that is reset is held, and its restarts count; the other harts stay. -/
theorem resetHart_held (hk : k < 4) (s : State) : (s.resetHart k).rd R.FW_HART_STAT_STATE k = 3 ∧ (s.resetHart k).bit R.RST_STAT_HART k = true
    ∧ (s.resetHart k).rd R.FW_HART_STAT_RESTARTS k = satAdd R.FW_HART_STAT_RESTARTS.wid (s.rd R.FW_HART_STAT_RESTARTS k) 1
    ∧ ∀ j, j ≠ k → (s.resetHart k).rd R.FW_HART_STAT_STATE j = s.rd R.FW_HART_STAT_STATE j := by
  have hl := resetHart_last s k
  refine ⟨?_, ?_, ?_, fun j hj => ?_⟩
  · rw [hl.rd (by decide), State.rd_inc_apart _ (by decide), State.rd_wr_apart _ (by decide),
      State.rd_wr_below hk _ _ (by decide) le_rfl, if_pos rfl]
    rfl
  · rw [hl.bit (by decide), State.bit_inc_apart _ (by decide), State.bit_wr_below hk _ _ (by decide) le_rfl rfl, if_pos rfl]
    rfl
  · rw [hl.rd (by decide), State.rd_inc_below hk _ _ (by decide) le_rfl, if_pos rfl, State.rd_wr_apart _ (by decide),
      State.rd_wr_apart _ (by decide)]
  · rw [hl.rd (by decide), State.rd_inc_apart _ (by decide), State.rd_wr_apart _ (by decide), State.rd_wr_idx _ hj.symm (by decide)]

theorem resetHart_closes (s : State) : (s.resetHart 0).bit R.WARDEN_OPEN 0 = false := closeWindow_closed _

theorem cause_set (hk : k < 4) (s : State) {f : Fld} (hs : 0 < f.stride) (hc : 4 ≤ f.cnt) (hw : f.wid = 1) :
    (s.wr f k 1).bit f k = true := by
  rw [State.bit_wr_below hk _ _ hs hc hw, if_pos rfl]
  rfl

/-! ## The watchdog -/

/-- The watchdog's reset, before its event. -/
def State.barked (s : State) (k : Nat) : State := ((s.noKick k).resetHart k).wr R.RST_CAUSE_HART_WDT k 1

theorem exec_watchdogExpiry (s : State) (k : Nat) : exec (.watchdogExpiry k) s
    = (if decide (k < 4) && s.rd R.FW_HART_STAT_STATE k == 0 then (s.barked k).fault 0x09 k 1 else s).go := rfl

theorem exec_watchdogExpiry_runs (hk : k < 4) (h : s.rd R.FW_HART_STAT_STATE k = 0) :
    exec (.watchdogExpiry k) s = ((s.barked k).fault 0x09 k 1).go := by
  rw [exec_watchdogExpiry, if_pos (by simp [hk, h])]

theorem noKick_frame (s : State) (k : Nat) : Frame (.regs [H.FW_REREAD, R.FW_IMAGE_VERIFIED, R.FW_IMAGE_REASON, H.FLT_RESULT,
    H.FW_CRC_OK]) s (s.noKick k) := (Frame.refl s).noKick

theorem barked_frame (s : State) (k : Nat) : Frame (.regs [R.FW_HART_STAT_STATE, R.RST_STAT_HART, R.FW_HART_STAT_RESTARTS,
    R.FW_HART_STAT_LEVEL, R.FW_HART_STAT_LOAD, R.FW_HART_CTRL_SLEEP_OK, H.FW_LOW_WIN, R.WARDEN_OPEN, R.WARDEN_REMAIN,
    R.RST_CAUSE_HART_WDT]) (s.noKick k) (s.barked k) := (Frame.refl _).resetHart.wr

theorem barked_all (s : State) (k : Nat) : Frame (.fault (faultFields ++ [R.FW_HART_STAT_STATE, R.RST_STAT_HART, R.FW_HART_STAT_RESTARTS,
    R.FW_HART_STAT_LEVEL, R.FW_HART_STAT_LOAD, R.FW_HART_CTRL_SLEEP_OK, H.FW_LOW_WIN, R.WARDEN_OPEN, R.WARDEN_REMAIN,
    R.RST_CAUSE_HART_WDT, H.FW_REREAD, R.FW_IMAGE_VERIFIED, R.FW_IMAGE_REASON, H.FLT_RESULT, H.FW_CRC_OK])) s
    ((s.barked k).fault 0x09 k 1) :=
  (((noKick_frame s k).mono (by decide +kernel)).trans ((barked_frame s k).mono (by decide +kernel))).fault

/-- A failed restart check leaves the hart's image to be read again. -/
theorem checkFails_failed (hk : k < 4) (s : State) : (s.checkFails k).bit H.FW_REREAD k = true
    ∧ (s.checkFails k).bit R.FW_IMAGE_VERIFIED 0 = false ∧ (s.checkFails k).rd R.FW_IMAGE_REASON 0 = 0
    ∧ (s.bit H.FLT_TEST_PEND (0x2E8 + k) = true → (s.checkFails k).rd H.FLT_RESULT (0x2E8 + k) = 2) := by
  have hl : Frame (.regs [H.FLT_RESULT]) (((s.wr H.FW_REREAD k 1).wr R.FW_IMAGE_VERIFIED 0 0).wr R.FW_IMAGE_REASON 0 0) (s.checkFails k) :=
    (Frame.refl _).when fun _ hu => hu.wr
  refine ⟨?_, ?_, ?_, fun hp => ?_⟩
  · rw [hl.bit (by decide), State.bit_wr_apart _ (by decide), State.bit_wr_apart _ (by decide),
      State.bit_wr_below hk _ _ (by decide) le_rfl rfl, if_pos rfl]
    rfl
  · rw [hl.bit (by decide), State.bit_wr_apart _ (by decide), State.bit_wr_below Nat.zero_lt_one _ _ (by decide) le_rfl rfl, if_pos rfl]
    rfl
  · rw [hl.rd (by decide), State.rd_wr_zero _ _ (by decide) le_rfl, if_pos rfl, Nat.zero_mod]
  · rw [State.checkFails, hp, State.when_true, State.rd_wr_below (n := 4096) (by omega) _ _ (by decide) le_rfl, if_pos rfl]
    rfl

end

/-! ## Restart, sleep and shed levels -/

section
variable {s : State} {k load : Nat}

theorem exec_restartCheckDone (s : State) (k : Nat) (ok : Bool) : exec (.restartCheckDone k ok) s
    = (if k < 4 ∧ s.rd R.FW_HART_STAT_STATE k = 2 then
        if ok then (s.wr H.FW_CRC_OK k 1).restartHart k else (s.wr R.FW_HART_STAT_STATE k 3).checkFails k
      else s).go := rfl

theorem exec_restartCheckDone_matches (hk : k < 4) (h : s.rd R.FW_HART_STAT_STATE k = 2) :
    exec (.restartCheckDone k true) s = ((s.wr H.FW_CRC_OK k 1).restartHart k).go := by
  rw [exec_restartCheckDone, if_pos ⟨hk, h⟩, if_pos rfl]

theorem exec_restartCheckDone_fails (hk : k < 4) (h : s.rd R.FW_HART_STAT_STATE k = 2) :
    exec (.restartCheckDone k false) s = ((s.wr R.FW_HART_STAT_STATE k 3).checkFails k).go := by
  rw [exec_restartCheckDone, if_pos ⟨hk, h⟩, if_neg Bool.false_ne_true]

/-- What a restart does beyond the hart's state. -/
theorem restartHart_last (s : State) (k : Nat) : Frame (.fault (tellFields ++ [H.GL_RESTARTED, H.FW_CPL_DUE, H.FW_RING_OP,
    R.RING_POS_CMD_HEAD, H.FW_CPL_STATUS, H.FW_CPL_R0, H.FW_CPL_R1])) (s.wr R.FW_HART_STAT_STATE k 0) (s.restartHart k) :=
  (((Frame.refl _).when fun _ hu => hu.drainEvents).when fun _ hu => hu.wr).when fun _ hu => hu.abortRings

theorem restarted_runs (hk : k < 4) (s : State) : ((s.wr H.FW_CRC_OK k 1).restartHart k).rd R.FW_HART_STAT_STATE k = 0
    ∧ ((s.wr H.FW_CRC_OK k 1).restartHart k).bit H.FW_CRC_OK k = true := by
  rw [(restartHart_last _ k).rd (by decide +kernel), (restartHart_last _ k).bit (by decide +kernel),
    State.rd_wr_below hk _ _ (by decide) le_rfl, if_pos rfl, State.bit_wr_apart _ (by decide)]
  exact ⟨Nat.zero_mod _, cause_set hk _ (by decide) le_rfl rfl⟩

theorem exec_hartSleep (s : State) (k : Nat) : exec (.hartSleep k) s
    = (if k < 4 ∧ s.rd R.FW_HART_STAT_STATE k = 0 ∧ s.bit R.FW_HART_CTRL_SLEEP_OK k = true then s.wr R.FW_HART_STAT_STATE k 1 else s).go :=
  rfl

theorem exec_hartWake (s : State) (k : Nat) : exec (.hartWake k) s = (if k < 4 then s.wakeHart k else s).go := rfl

/-- The level and the count of low windows that an ended window leaves (R614). -/
def State.shedLevel (s : State) (k level low : Nat) : State := (s.wr R.FW_HART_STAT_LEVEL k level).wr H.FW_LOW_WIN k low

theorem exec_shedWindowEnd (hk : k < 4) : exec (.shedWindowEnd k load) s
    = (if s.rd R.FW_SHED_SHED_HI 0 ≤ load then (s.wr R.FW_HART_STAT_LOAD k (min 100 load)).shedLevel k
        (min 4 (s.rd R.FW_HART_STAT_LEVEL k + 1)) 0
      else if load < s.rd R.FW_SHED_SHED_LO 0 then
        if s.rd H.FW_LOW_WIN k + 1 = 4 then (s.wr R.FW_HART_STAT_LOAD k (min 100 load)).shedLevel k (s.rd R.FW_HART_STAT_LEVEL k - 1) 0
        else (s.wr R.FW_HART_STAT_LOAD k (min 100 load)).wr H.FW_LOW_WIN k (s.rd H.FW_LOW_WIN k + 1)
      else (s.wr R.FW_HART_STAT_LOAD k (min 100 load)).wr H.FW_LOW_WIN k 0).go := by
  change execShedWindowEnd _ _ _ = _
  exact congrArg State.go (if_neg (by omega))

theorem shedLevel_set (hk : k < 4) (s : State) {level : Nat} (hl : level < 8) : (s.shedLevel k level 0).rd R.FW_HART_STAT_LEVEL k = level
    ∧ (s.shedLevel k level 0).rd H.FW_LOW_WIN k = 0 := by
  rw [State.shedLevel, State.rd_wr_apart _ (by decide), State.rd_wr_below hk _ _ (by decide) le_rfl, if_pos rfl,
    State.rd_wr_below hk _ _ (by decide) le_rfl, if_pos rfl]
  exact ⟨Nat.mod_eq_of_lt hl, Nat.zero_mod _⟩

theorem lowWin_set (hk : k < 4) (s : State) (n : Nat) : (s.wr H.FW_LOW_WIN k n).rd H.FW_LOW_WIN k = n % 2 ^ H.FW_LOW_WIN.wid := by
  rw [State.rd_wr_below hk _ _ (by decide) le_rfl, if_pos rfl]

theorem level_keeps (s : State) (k load n : Nat) : ((s.wr R.FW_HART_STAT_LOAD k load).wr H.FW_LOW_WIN k n).rd R.FW_HART_STAT_LEVEL k
    = s.rd R.FW_HART_STAT_LEVEL k := by
  rw [State.rd_wr_apart _ (by decide), State.rd_wr_apart _ (by decide)]

end

/-! ## Writes of a hart's own control word -/

section
variable {s : State} {w : WCtx} {k : Nat}

theorem exec_kick : exec (.kick w k) s = (s.judged w R.FW_HART_CTRL_KICK k 1 (isHartK w.req k) fun t => t.kick k).go := rfl

theorem exec_selfReset : exec (.selfReset w k) s
    = (s.judged w R.FW_HART_CTRL_SELF_RESET k 1 (isHartK w.req k) fun t => t.commandHart k).go := rfl

theorem exec_rstHart : exec (.rstHart w k) s
    = (s.judged w R.RST_CMD_HART k 1 true fun t => t.stageCmd w R.RST_CMD_HART k (.reset (4 + k))).go := rfl

theorem isHartK_self (k c : Nat) : isHartK (⟨.hart k, c⟩ : WCtx).req k = true := beq_self_eq_true k

theorem isHartK_other {j : Nat} (h : j ≠ k) (c : Nat) : isHartK (⟨.hart j, c⟩ : WCtx).req k = false := beq_false_of_ne h

theorem hartControl_word (hk : k < 4) : R.FW_HART_CTRL_KICK.word k < 2 ^ 24 ∧ R.FW_HART_CTRL_SELF_RESET.word k < 2 ^ 24 := by
  interval_cases k <;> decide

end

/-- Settles O35. -/
theorem hartsAreResetRestartedAndShed : Obligations.HartsAreResetRestartedAndShed := by
  unfold Obligations.HartsAreResetRestartedAndShed
  refine ⟨?_, ?_, ?_, ?_, ?_, ?_, ?_, ?_, ?_, ?_, ?_, ?_, ?_, ?_, ?_, ?_, ?_, ?_, ?_, ?_, ?_⟩
  · intro s k hk h0
    obtain ⟨hstate, hheld, hcount, hother⟩ := resetHart_held hk (s.noKick k)
    have hf := fault_frame (s.barked k) 0x09 k 1
    refine .of_go (exec_watchdogExpiry_runs hk h0) ⟨?_, ?_, ?_, ?_, ?_, ?_, fun j hj => ?_, (barked_all s k).onlyFault⟩
    · rw [hf.rd (by decide +kernel), State.barked, State.rd_wr_apart _ (by decide), hstate]
    · rw [hf.bit (by decide +kernel), State.barked, State.bit_wr_apart _ (by decide), hheld]
    · rw [hf.bit (by decide +kernel)]
      exact cause_set hk _ (by decide) le_rfl rfl
    · rw [hf.rd (by decide +kernel), State.barked, State.rd_wr_apart _ (by decide), hcount, (noKick_frame s k).rd (by decide)]
    · refine Raised.after (noKick_frame s k).kinds (by decide) (Raised.after (barked_frame s k).kinds (by decide) ?_)
      refine State.fault_raised _ rfl ?_ (by decide)
      rw [State.zk4, (barked_frame s k).ident, (noKick_frame s k).ident]
      exact srcPresent_hart _ hk
    · rintro rfl
      rw [hf.bit (by decide +kernel), State.barked, State.bit_wr_apart _ (by decide), resetHart_closes]
    · rw [hf.rd (by decide +kernel), State.barked, State.rd_wr_apart _ (by decide), hother j hj, (noKick_frame s k).rd (by decide)]
  · intro s w k hw _
    refine .of_go (exec_rstHart.trans (by rw [State.judged_of_writable hw])) ?_
    exact stagesCmd_stageCmd s w hw.2.1 rfl (by decide) _
  · intro s c k hk hw
    obtain ⟨hstate, hheld, hcount, hother⟩ := resetHart_held hk s
    have hall : Frame (.regsOut [R.FW_HART_STAT_STATE, R.RST_STAT_HART, R.FW_HART_STAT_RESTARTS, R.FW_HART_STAT_LEVEL,
        R.FW_HART_STAT_LOAD, R.FW_HART_CTRL_SLEEP_OK, H.FW_LOW_WIN, R.WARDEN_OPEN, R.WARDEN_REMAIN, R.RST_CAUSE_HART_CMD]) s
        ((s.commandHart k).answer .ok) := (Frame.refl s).commandHart.answer
    refine .of_go (exec_selfReset.trans (by rw [isHartK_self, State.judged_of_writable hw])) ⟨?_, ?_, ?_, rfl, ?_, fun j hj => ?_, hall.onlyRegsOut⟩
    · rw [State.rd_answer, State.commandHart, State.rd_wr_apart _ (by decide), hstate]
    · rw [State.bit_answer, State.commandHart, State.bit_wr_apart _ (by decide), hheld]
    · rw [State.bit_answer]
      exact cause_set hk _ (by decide) le_rfl rfl
    · rw [State.rd_answer, State.commandHart, State.rd_wr_apart _ (by decide), hcount]
    · rw [State.rd_answer, State.commandHart, State.rd_wr_apart _ (by decide), hother j hj]
  · intro s c k hk hw
    have hall : Frame (.regsOut [H.FW_CRC_OK, H.FLT_RESULT]) s ((s.kick k).answer .ok) := (Frame.refl s).kick.answer
    refine .of_go (exec_kick.trans (by rw [isHartK_self, State.judged_of_writable hw])) ⟨?_, rfl, fun hc hp => ?_, hall.kinds, hall.onlyRegsOut⟩
    · rw [State.bit_answer, State.kick, State.bit_wr_below hk _ _ (by decide) le_rfl rfl, if_pos rfl]
      rfl
    · rw [State.rd_answer, State.kick, State.rd_wr_apart _ (by decide), hc, hp, Bool.and_self, State.when_true,
        State.rd_wr_below (n := 4096) (by omega) _ _ (by decide) le_rfl, if_pos rfl]
      rfl
  · intro s c j k hj hw
    refine .of_go (exec_kick.trans (by rw [isHartK_other hj, State.judged_of_forbidden hw])) ?_
    exact refuses_forbidden s _ (hartControl_word hw.2.1).1
  · intro s k hk h2
    obtain ⟨hruns, hok⟩ := restarted_runs (s := s) (k := k) (by omega)
    refine .of_go (exec_restartCheckDone_matches (by omega) h2) ⟨hruns, hok, ?_, ?_⟩
    · rintro rfl
      change (((s.wr H.FW_CRC_OK 1 1).wr R.FW_HART_STAT_STATE 1 0).wr H.GL_RESTARTED 0 1).bit H.GL_RESTARTED 0 = true
      rw [State.bit_wr_below Nat.zero_lt_one _ _ (by decide) le_rfl rfl, if_pos rfl]
      rfl
    · have hall : Frame (.regs [H.FW_CRC_OK, R.FW_HART_STAT_STATE, H.GL_RESTARTED]) s ((s.wr H.FW_CRC_OK k 1).restartHart k) := by
        obtain rfl | rfl : k = 0 ∨ k = 1 := by omega
        · exact (Frame.refl s).wr.wr
        · exact (Frame.refl s).wr.wr.wr
      exact ⟨hall.kinds, hall.onlyRegs⟩
  · intro s k hk h2
    have hall : Frame (.regs [R.FW_HART_STAT_STATE, H.FW_REREAD, R.FW_IMAGE_VERIFIED, R.FW_IMAGE_REASON, H.FLT_RESULT]) s
        ((s.wr R.FW_HART_STAT_STATE k 3).checkFails k) := (Frame.refl s).wr.checkFails
    obtain ⟨hreread, hno, -, hresult⟩ := checkFails_failed hk (s.wr R.FW_HART_STAT_STATE k 3)
    refine .of_go (exec_restartCheckDone_fails hk h2) ⟨?_, hreread, hno, fun hp => hresult ?_, hall.kinds, hall.onlyRegs⟩
    · have hl : Frame (.regs [H.FW_REREAD, R.FW_IMAGE_VERIFIED, R.FW_IMAGE_REASON, H.FLT_RESULT]) (s.wr R.FW_HART_STAT_STATE k 3)
          ((s.wr R.FW_HART_STAT_STATE k 3).checkFails k) := (Frame.refl _).checkFails
      rw [hl.rd (by decide), State.rd_wr_below hk _ _ (by decide) le_rfl, if_pos rfl]
      rfl
    · rwa [State.bit_wr_apart _ (by decide)]
  · intro s k hk h0 hsleep
    refine .of_go (t := s.wr R.FW_HART_STAT_STATE k 1) ((exec_hartSleep s k).trans (by rw [if_pos ⟨hk, h0, hsleep⟩]))
      ⟨?_, (OnlyFields.chain_wr (by simp) s s 1).2 (.refl _ _), (Frame.refl s (r := .regs [R.FW_HART_STAT_STATE])).wr.onlyRegs⟩
    rw [State.rd_wr_below hk _ _ (by decide) le_rfl, if_pos rfl]
    rfl
  · intro s k hk h1
    refine .of_go (t := s.wr R.FW_HART_STAT_STATE k 0) ((exec_hartWake s k).trans (by rw [if_pos hk, State.wakeHart, if_pos h1]))
      ⟨?_, (OnlyFields.chain_wr (by simp) s s 0).2 (.refl _ _), (Frame.refl s (r := .regs [R.FW_HART_STAT_STATE])).wr.onlyRegs⟩
    rw [State.rd_wr_below hk _ _ (by decide) le_rfl, if_pos rfl, Nat.zero_mod]
  · intro s k load hk hhi
    have hall : Frame (.regs [R.FW_HART_STAT_LOAD, R.FW_HART_STAT_LEVEL, H.FW_LOW_WIN]) s ((s.wr R.FW_HART_STAT_LOAD k
        (min 100 load)).shedLevel k (min 4 (s.rd R.FW_HART_STAT_LEVEL k + 1)) 0) := (Frame.refl s).wr.wr.wr
    obtain ⟨hlevel, hlow⟩ := shedLevel_set hk (s.wr R.FW_HART_STAT_LOAD k (min 100 load))
      (level := min 4 (s.rd R.FW_HART_STAT_LEVEL k + 1)) (by omega)
    refine .of_go ((exec_shedWindowEnd hk).trans (by rw [if_pos hhi])) ⟨?_, hlevel, hlow, hall.kinds, hall.onlyRegs⟩
    rw [State.shedLevel, State.rd_wr_apart _ (by decide), State.rd_wr_apart _ (by decide), State.rd_wr_below hk _ _ (by decide) le_rfl,
      if_pos rfl]
    exact Nat.mod_eq_of_lt (by change _ < 256; omega)
  · intro s k load hk hhi hlo h3
    have hlt : s.rd R.FW_HART_STAT_LEVEL k < 8 := s.rd_lt _ _
    exact .of_go ((exec_shedWindowEnd hk).trans (by rw [if_neg (by omega), if_pos hlo, if_pos (by omega)]))
      (shedLevel_set hk _ (by omega))
  · intro s k load hk hhi hlo
    exact .of_go ((exec_shedWindowEnd hk).trans (by rw [if_neg (by omega), if_neg (by omega)]))
      ⟨level_keeps s k _ 0, (lowWin_set hk _ 0).trans (Nat.zero_mod _)⟩
  · intro s k h
    refine ⟨?_, ?_⟩
    · rw [exec_watchdogExpiry, if_neg, State.go]
      obtain h | h := h
      · simp [Nat.not_lt.2 h]
      · simp [h]
    · rw [exec_hartSleep, if_neg, State.go]
      rintro ⟨hk, h0, -⟩
      obtain h | h := h
      · omega
      · exact h h0
  · intro s k h
    rw [exec_hartSleep, if_neg (by simp [h]), State.go]
  · intro s k h
    rw [exec_hartWake]
    obtain h | h := h
    · rw [if_neg (by omega), State.go]
    · rw [State.wakeHart, if_neg h, ite_self, State.go]
  · intro s k ok h
    rw [exec_restartCheckDone, if_neg, State.go]
    rintro ⟨hk, h2⟩
    obtain h | h := h
    · omega
    · exact h h2
  · exact fun s k _ hk h2 => .of_go (exec_restartCheckDone_matches hk h2) (restarted_runs hk s)
  · intro s k load hk
    change execShedWindowEnd _ _ _ = _
    exact congrArg State.go (if_pos hk)
  · intro s k load hk hhi hlo h3
    exact .of_go ((exec_shedWindowEnd hk).trans (by rw [if_neg (by omega), if_pos hlo, if_neg (by omega)]))
      ⟨level_keeps s k _ _, lowWin_set hk _ _⟩
  · intro s c j k hj hw
    refine .of_go (exec_selfReset.trans (by rw [isHartK_other hj, State.judged_of_forbidden hw])) ?_
    exact refuses_forbidden s _ (hartControl_word hw.2.1).2
  · intro s k hk h0 hc
    have hfails : s.noKick k = (s.checkFails k).wr H.FW_CRC_OK k 0 := by rw [State.noKick, hc, State.when_true]
    have hb := barked_frame s k
    have hf := fault_frame (s.barked k) 0x09 k 1
    obtain ⟨hreread, hno, hreason, hresult⟩ := checkFails_failed hk s
    obtain ⟨hstate, -, -, -⟩ := resetHart_held hk (s.noKick k)
    refine .of_go (exec_watchdogExpiry_runs hk h0) ⟨?_, ?_, ?_, ?_, ?_, fun hp => ?_⟩
    · rw [hf.rd (by decide +kernel), State.barked, State.rd_wr_apart _ (by decide), hstate]
    · rw [hf.bit (by decide +kernel), hb.bit (by decide), hfails, State.bit_wr_below hk _ _ (by decide) le_rfl rfl, if_pos rfl]
      rfl
    · rw [hf.bit (by decide +kernel), hb.bit (by decide), hfails, State.bit_wr_apart _ (by decide), hreread]
    · rw [hf.bit (by decide +kernel), hb.bit (by decide), hfails, State.bit_wr_apart _ (by decide), hno]
    · rw [hf.rd (by decide +kernel), hb.rd (by decide), hfails, State.rd_wr_apart _ (by decide), hreason]
    · have hsome : (srcKind (0x2E8 + k)).isSome = true := by interval_cases k <;> rfl
      rw [State.fault, show srcBase 0x09 + k = 0x2E8 + k from rfl, raise_pending_result hsome ?_, hb.rd (by decide), hfails,
        State.rd_wr_apart _ (by decide), hresult hp]
      rw [hb.bit (by decide), (noKick_frame s k).bit (by decide), hp]

end Sys2Proof.Machine
end

section
/-! An atomic on an uncorrectable word (R559, R563, R604). -/

set_option Elab.async false

namespace Sys2Proof.Machine

/-- H3 runs and the host takes its events on ring 0; the word that the atomic of hart 0 names is uncorrectable, and is the first word of
the completion that comes next. -/
def State.eventsOverWord : State :=
  (((((State.reset.wr R.FW_HART_STAT_STATE 3 0).wr R.HOST_STAT_ATTACHED 0 1).wr H.FW_FEATURES 0 1).wr R.RING_CFG_EN 0 1).wr
    R.STORE_AMO_ADDR_ADDR 0 130304).wr H.STORE_ECC 130304 2

theorem eventsOverWord_writable : Writable State.eventsOverWord ⟨.hart 0, 0⟩ R.STORE_AMO_DATA_DATA 0 := by
  refine ⟨?_, ?_, ?_, ?_⟩ <;> decide +kernel

/-- The atomic stores nothing, but the event of its error is posted over the word. -/
theorem eventsOverWord_posts :
    ((State.eventsOverWord.atomic (.hart 0) 0 0).answer .ok).ld (4 * State.eventsOverWord.rd R.STORE_AMO_ADDR_ADDR 0) 4 = 0xFFFF0000 := by
  decide +kernel

theorem eventsOverWord_before :
    State.eventsOverWord.ld (4 * State.eventsOverWord.rd R.STORE_AMO_ADDR_ADDR 0) 4 = 0 := by
  decide +kernel

theorem exec_amoStart_eventsOverWord : exec (.amoStart ⟨.hart 0, 0⟩ 0 0) State.eventsOverWord
    = .next ((State.eventsOverWord.atomic (.hart 0) 0 0).answer .ok) := by
  have hrule : (amoSet (.hart 0) == some 0 && State.eventsOverWord.rd R.STORE_AMO_ADDR_OP 0 != 3
      && !(State.eventsOverWord.storeShut && !Requester.isHart (.hart 0))) = true := by decide +kernel
  change State.go (State.judged _ _ _ _ _ _ _) = _
  rw [hrule, State.judged_of_writable eventsOverWord_writable, State.go]
  rfl

/-- Refutes O39: an atomic that meets an uncorrectable word raises the bank's source, and H3 may post the event of that to the host over
the word itself (R559, R604). -/
theorem not_atomicsRetentionAndFifo : ¬ Obligations.AtomicsRetentionAndFifo := by
  unfold Obligations.AtomicsRetentionAndFifo
  rintro ⟨-, -, -, -, -, -, -, -, huncorrectable, -⟩
  obtain ⟨t, ht, -, -, -, hword, -⟩ := huncorrectable State.eventsOverWord ⟨.hart 0, 0⟩ 0 0 rfl eventsOverWord_writable
    (by decide +kernel) (.inr rfl) (by decide +kernel)
  obtain rfl : (State.eventsOverWord.atomic (.hart 0) 0 0).answer .ok = t := by simpa [exec_amoStart_eventsOverWord] using ht
  rw [eventsOverWord_before] at hword
  exact absurd eventsOverWord_posts (by rw [hword]; decide)

end Sys2Proof.Machine
end

section
/-! A credit that returns while a message waits for it (R375, R376). -/

set_option Elab.async false

namespace Sys2Proof.Machine

/-- GL_SPENT with one bit more than it has. -/
def spentWider : Fld := { H.GL_SPENT with wid := 3 }

/-- The Gate holder has one credit of dispatcher 0 spent, which the register file holds as 5, a value beyond the field's two bits; a
message waits for the credit. -/
def State.creditWaits : State :=
  { State.reset with
    regs := amPut (R.TWIN_STATUS_ROLE.key 0) 4 (amPut (H.GL_SPENT.key 0) 5 State.reset.regs)
    mesh := { State.reset.mesh with waiting := [(.dispatcher 0, .echo 0)] } }

theorem exec_creditReturn_creditWaits : exec (.creditReturn 0) State.creditWaits
    = .next ({ State.creditWaits.wr H.GL_SPENT 0 0 with mesh := State.reset.mesh }.sendRes1 (.echo 0) (.dispatcher 0)) := by
  rfl

/-- Refutes O43: the credit that returns and is spent again leaves the count's two bits, but not what the register file holds beyond
them, so a field at the same place reads another value. -/
theorem not_meshDeliversAndRetries : ¬ Obligations.MeshDeliversAndRetries := by
  unfold Obligations.MeshDeliversAndRetries
  rintro ⟨-, -, -, -, -, hcredit, -⟩
  obtain ⟨t, ht, -, -, hkinds, -⟩ := hcredit State.creditWaits 0 (.dispatcher 0, .echo 0) (by decide) (by decide) (by decide)
    (by decide) (by decide) (by decide)
  obtain rfl : { State.creditWaits.wr H.GL_SPENT 0 0 with mesh := State.reset.mesh }.sendRes1 (.echo 0) (.dispatcher 0) = t := by
    simpa [exec_creditReturn_creditWaits] using ht
  exact absurd (hkinds spentWider 0 (by simp)) (by decide)

end Sys2Proof.Machine
end

section
/-! A profile switch that a ring asks for (R427, R538, R600). -/

set_option Elab.async false

namespace Sys2Proof.Machine

/-- The state that an outcome goes on with; the reset state where it does not. -/
def nextOf : Host.Outcome State Fault Refusal → State
  | .next t => t
  | _ => .reset

theorem nextOf_next (t : State) : nextOf (.next t) = t := rfl

/-- A map with four profiles. -/
def fourProfiles : MapImg := ⟨List.replicate 0x40 4, [], []⟩

/-- PROFILE with payload 3, as ring 0's first command. -/
def profileCmd : List Byte := [0, 0, 0x20, 0, 9, 0, 1, 0, 3]

/-- A map runs, and the host asks for profile 3 on ring 0; the Gate holder has named a boundary of an earlier switch. -/
def State.profileAsked : State :=
  let s := [(R.CLK_EN_EN, 0x7FF), (R.RING_CFG_EN, 1), (R.RING_DB_CMD_TAIL, 1), (R.HOST_STAT_ATTACHED, 1), (H.FW_FEATURES, 0x7FF),
    (R.RUN_STATE, 2), (H.TOP_PROF_AT, 5)].foldl (fun (t : State) (x : Fld × Nat) => t.wr x.1 0 x.2)
      (State.reset.wr R.FW_HART_STAT_STATE 2 0)
  { s with store := memPutBytes s.store (s.cmdAt 0) profileCmd, map := { s.map with live := some fourProfiles } }

theorem profileAsked_asks : Asks State.profileAsked 0 0x20 { feature := some 5 } := by decide +kernel

theorem profileAsked_clears : (nextOf (exec (.profile 0) State.profileAsked)).rd H.TOP_PROF_AT 0 = 0 := by decide +kernel

theorem profileAsked_names : State.profileAsked.rd H.TOP_PROF_AT 0 = 5 := by decide +kernel

/-- Refutes O46: the preparation that PROFILE starts also clears the boundary that the Gate holder named for an earlier switch (R427). -/
theorem not_ringsServeFirmwareCommands : ¬ Obligations.RingsServeFirmwareCommands := by
  unfold Obligations.RingsServeFirmwareCommands
  rintro ⟨hprofile, -⟩
  obtain ⟨t, ht, -, -, -, -, -, -, hkinds⟩ := hprofile State.profileAsked 0 3 profileAsked_asks (by decide +kernel) (by decide +kernel)
    (by decide) (by decide +kernel) (by decide +kernel) (by decide +kernel) (by decide +kernel)
    (by refine ⟨?_, ?_, ?_, ?_⟩ <;> decide +kernel) (by decide +kernel)
  have hnames : t.rd H.TOP_PROF_AT 0 = 5 := (hkinds H.TOP_PROF_AT 0 (by decide)).trans profileAsked_names
  have hclears := profileAsked_clears
  rw [ht, nextOf_next, hnames] at hclears
  cases hclears

end Sys2Proof.Machine
end

section
/-! The supplies of the PMBus (R642–R646). -/

set_option Elab.async false

namespace Sys2Proof.Machine

theorem srcPresent_supply (z : Bool) {k : Nat} (h : k < 16) : srcPresent z (0x372 + k) = true := by
  interval_cases k <;> cases z <;> rfl

section
variable {s : State} {k : Nat} {p : PollData}

theorem polled_lt (h : s.polled k = true) : k < 16 := by
  simp only [State.polled, Bool.and_eq_true, decide_eq_true_eq] at h
  exact h.1.1.1

/-! ## PAGE -/

theorem sendPage_frame (s : State) (k : Nat) : Frame (.regsOut []) s (s.sendPage k) := (Frame.refl s).sendPage

theorem sendPage_eq (s : State) (k : Nat) : s.sendPage k = { s with out := (s.sendPage k).out } := by
  unfold State.sendPage State.when
  split <;> rfl

theorem sendPage_out (h : s.rd R.PLAT_SUP_CFG_PAGE k ≠ 0xFF) :
    (s.sendPage k).out = .pmbus (s.supPort k) (s.rd R.PLAT_SUP_CFG_ADDR k) 0 :: s.out := by
  rw [State.sendPage, show (s.rd R.PLAT_SUP_CFG_PAGE k != 0xFF) = true by simpa using h]
  rfl

theorem sendPages_eq (l : List Nat) (s : State) : l.foldl State.sendPage s = { s with out := (l.foldl State.sendPage s).out } := by
  induction l generalizing s with
  | nil => rfl
  | cons k l ih => rw [List.foldl_cons, ih, sendPage_eq]

/-- PAGE goes to every supply of the list that has one. -/
theorem sendPages_sent (s : State) : ∀ l : List Nat, (∀ m ∈ s.out, m ∈ (l.foldl State.sendPage s).out)
    ∧ ∀ k ∈ l, s.rd R.PLAT_SUP_CFG_PAGE k ≠ 0xFF →
        .pmbus (s.supPort k) (s.rd R.PLAT_SUP_CFG_ADDR k) 0 ∈ (l.foldl State.sendPage s).out := by
  suffices h : ∀ (l : List Nat) (t : State), t.regs = s.regs → (∀ m ∈ t.out, m ∈ (l.foldl State.sendPage t).out)
      ∧ ∀ k ∈ l, s.rd R.PLAT_SUP_CFG_PAGE k ≠ 0xFF →
        .pmbus (s.supPort k) (s.rd R.PLAT_SUP_CFG_ADDR k) 0 ∈ (l.foldl State.sendPage t).out from fun l => h l s rfl
  intro l
  induction l with
  | nil => exact fun t _ => ⟨fun m hm => hm, fun k hk => absurd hk (List.not_mem_nil)⟩
  | cons j l ih =>
    intro t ht
    obtain ⟨hkeep, hsent⟩ := ih (t.sendPage j) (by rw [sendPage_eq]; exact ht)
    refine ⟨fun m hm => hkeep m ?_, fun k hk hpage => ?_⟩
    · unfold State.sendPage State.when
      split
      · exact List.mem_cons_of_mem _ hm
      · exact hm
    · rcases List.mem_cons.1 hk with rfl | hl
      · refine hkeep _ ?_
        rw [sendPage_out (by rwa [State.rd_congr ht]), State.supPort, State.supPort, State.rd_congr ht, State.rd_congr ht]
        exact List.mem_cons_self
      · exact hsent k hl hpage

/-! ## A supply's fault -/

theorem supplyFault_raised (hk : k < 16) (s : State) : Raised (0x372 + k) 1 s (s.supplyFault k) :=
  s.fault_raised rfl (srcPresent_supply _ hk) (by decide)

/-- A raised source is not CLEAR. -/
theorem Raised.not_clear {n cls : Nat} {s t : State} (h : Raised n cls s t) : t.rd R.FLT_SRC_STATE_STATE n ≠ 0 := by
  rw [h.2]
  split
  · decide
  · split
    case isTrue h => omega
    · decide

theorem takeStatus_frame (s : State) (k w : Nat) :
    Frame (.fault (faultFields ++ [R.PLAT_SUP_STAT_STATUS_WORD])) s (s.takeStatus k w) := (Frame.refl s).takeStatus

theorem takeStatus_word (hk : k < 16) (s : State) (w : Nat) :
    (s.takeStatus k w).rd R.PLAT_SUP_STAT_STATUS_WORD k = w % 65536 := by
  have hlast : Frame (.fault faultFields) (s.wr R.PLAT_SUP_STAT_STATUS_WORD k w) (s.takeStatus k w) :=
    (Frame.refl _).when fun _ hu => hu.supplyFault
  rw [hlast.rd (by decide), State.rd_wr_below hk _ _ (by decide) le_rfl, if_pos rfl]
  rfl

theorem takeStatus_selected (s : State) {w : Nat} (h : w &&& s.rd R.PLAT_SUP_LIMIT_SW_MASK k ≠ 0) :
    s.takeStatus k w = (s.wr R.PLAT_SUP_STAT_STATUS_WORD k w).supplyFault k := by
  rw [State.takeStatus, show (w &&& s.rd R.PLAT_SUP_LIMIT_SW_MASK k != 0) = true by simpa using h]
  rfl

theorem takeStatus_passed (s : State) {w : Nat} (h : w &&& s.rd R.PLAT_SUP_LIMIT_SW_MASK k = 0) :
    s.takeStatus k w = s.wr R.PLAT_SUP_STAT_STATUS_WORD k w := by
  rw [State.takeStatus, show (w &&& s.rd R.PLAT_SUP_LIMIT_SW_MASK k != 0) = false by simpa using h]
  rfl

theorem takeStatus_raised (hk : k < 16) (s : State) (w : Nat) (h : s.rd R.FLT_SRC_STATE_STATE (0x372 + k) ≠ 0) :
    (s.takeStatus k w).rd R.FLT_SRC_STATE_STATE (0x372 + k) ≠ 0 := by
  by_cases hm : w &&& s.rd R.PLAT_SUP_LIMIT_SW_MASK k = 0
  · rw [takeStatus_passed s hm, State.rd_wr_apart _ (by decide)]
    exact h
  · rw [takeStatus_selected s hm]
    exact (supplyFault_raised hk _).not_clear

theorem takePout_read (hk : k < 16) (s : State) (x : Nat) : (s.takePout k x).rd R.PLAT_SUP_READ_POUT k = x % 2 ^ 16 := by
  have hlast : Frame (.fault (faultFields ++ [H.PLAT_OVERP])) (s.wr R.PLAT_SUP_READ_POUT k x) (s.takePout k x) :=
    (show Frame (.fault (faultFields ++ [H.PLAT_OVERP])) _ (State.wrB _ _ _ _) from (Frame.refl _).wrB).when fun _ hu => hu.supplyFault
  rw [hlast.rd (by decide), State.rd_wr_below hk _ _ (by decide) le_rfl, if_pos rfl]
  rfl

theorem takePout_frame (s : State) (k x : Nat) :
    Frame (.fault (faultFields ++ [R.PLAT_SUP_READ_POUT, H.PLAT_OVERP])) s (s.takePout k x) := (Frame.refl s).takePout

theorem takePout_raised (hk : k < 16) (s : State) {x : Nat} (hover : s.rd R.PLAT_SUP_LIMIT_POUT_MAX k < x)
    (hagain : s.bit H.PLAT_OVERP k = true) : (s.takePout k x).rd R.FLT_SRC_STATE_STATE (0x372 + k) ≠ 0 := by
  rw [State.takePout, decide_eq_true hover, hagain]
  exact (supplyFault_raised hk _).not_clear

/-! ## A good poll -/

/-- What a good poll makes fresh. -/
def State.freshened (s : State) (k : Nat) : State :=
  (((s.wr R.PLAT_SUP_STAT_STALE k 0).wr R.PLAT_SUP_STAT_AGE k 0).wr H.PLAT_GOT k 1).wr H.PLAT_FAILS k 0

/-- The output voltage read, and what it made fresh. -/
def State.voutRead (s : State) (k : Nat) (p : PollData) : State :=
  match p.vout with
  | some v => (s.freshened k).wr R.PLAT_SUP_READ_VOUT k (satScaled 1000 ((v % 65536 : Nat) : Int) (toS 5 (s.rd H.PLAT_VMODE k)))
  | none => s.freshened k

/-- A good poll up to its output power. -/
def State.poutRead (s : State) (k : Nat) (p : PollData) : State :=
  match s.poutOf k p with
  | some x => (s.voutRead k p).takePout k x
  | none => s.voutRead k p

/-- A good poll up to its status word. -/
def State.statusRead (s : State) (k : Nat) (p : PollData) : State :=
  match p.status with
  | some w => (s.poutRead k p).takeStatus k (w % 65536)
  | none => s.poutRead k p

theorem goodPoll_eq (s : State) (k : Nat) (p : PollData) : s.goodPoll k p = match p.cycleUs with
    | some c => (s.statusRead k p).wr R.PLAT_PMB_CYCLE_US (s.supPort k) (min 65535 c)
    | none => s.statusRead k p := rfl

theorem goodPoll_last (s : State) (k : Nat) (p : PollData) :
    Frame (.regs [R.PLAT_PMB_CYCLE_US]) (s.statusRead k p) (s.goodPoll k p) := by
  rw [goodPoll_eq]
  cases p.cycleUs with
  | none => exact .refl _
  | some c => exact (Frame.refl _).wr

theorem statusRead_last (s : State) (k : Nat) (p : PollData) :
    Frame (.fault (faultFields ++ [R.PLAT_SUP_STAT_STATUS_WORD])) (s.poutRead k p) (s.statusRead k p) := by
  unfold State.statusRead
  cases p.status with
  | none => exact .refl _
  | some w => exact takeStatus_frame _ _ _

theorem poutRead_last (s : State) (k : Nat) (p : PollData) :
    Frame (.fault (faultFields ++ [R.PLAT_SUP_READ_POUT, H.PLAT_OVERP])) (s.voutRead k p) (s.poutRead k p) := by
  unfold State.poutRead
  cases s.poutOf k p with
  | none => exact .refl _
  | some x => exact takePout_frame _ _ _

theorem voutRead_last (s : State) (k : Nat) (p : PollData) :
    Frame (.regs [R.PLAT_SUP_READ_VOUT]) (s.freshened k) (s.voutRead k p) := by
  unfold State.voutRead
  cases p.vout with
  | none => exact .refl _
  | some v => exact (Frame.refl _).wr

/-- After the output power was read, what a good poll still does. -/
theorem goodPoll_afterPout (s : State) (k : Nat) (p : PollData) :
    Frame (.fault (faultFields ++ [R.PLAT_SUP_STAT_STATUS_WORD, R.PLAT_PMB_CYCLE_US])) (s.poutRead k p) (s.goodPoll k p) :=
  ((statusRead_last s k p).mono (by decide +kernel)).trans ((goodPoll_last s k p).mono (by decide +kernel))

/-- After the output voltage was read, what a good poll still does. -/
theorem goodPoll_afterVout (s : State) (k : Nat) (p : PollData) :
    Frame (.fault (faultFields ++ [R.PLAT_SUP_READ_POUT, H.PLAT_OVERP, R.PLAT_SUP_STAT_STATUS_WORD, R.PLAT_PMB_CYCLE_US]))
      (s.voutRead k p) (s.goodPoll k p) :=
  ((poutRead_last s k p).mono (by decide +kernel)).trans ((goodPoll_afterPout s k p).mono (by decide +kernel))

/-- After what was made fresh, what a good poll still does. -/
theorem goodPoll_afterFresh (s : State) (k : Nat) (p : PollData) :
    Frame (.fault (faultFields ++ [R.PLAT_SUP_READ_VOUT, R.PLAT_SUP_READ_POUT, H.PLAT_OVERP, R.PLAT_SUP_STAT_STATUS_WORD,
      R.PLAT_PMB_CYCLE_US])) (s.freshened k) (s.goodPoll k p) :=
  ((voutRead_last s k p).mono (by decide +kernel)).trans ((goodPoll_afterVout s k p).mono (by decide +kernel))

theorem goodPoll_fresh (hk : k < 16) (s : State) (p : PollData) : (s.goodPoll k p).bit R.PLAT_SUP_STAT_STALE k = false
    ∧ (s.goodPoll k p).rd R.PLAT_SUP_STAT_AGE k = 0 ∧ (s.goodPoll k p).bit H.PLAT_GOT k = true
    ∧ (s.goodPoll k p).rd H.PLAT_FAILS k = 0 := by
  have h := goodPoll_afterFresh s k p
  rw [h.bit (by decide +kernel), h.rd (by decide +kernel), h.bit (by decide +kernel), h.rd (by decide +kernel), State.freshened]
  simp (disch := decide) [State.rd_wr_apart, State.rd_wr_below hk, State.bit_wr_apart, State.bit_wr_below hk]

theorem goodPoll_pout (hk : k < 16) {x : Nat} (hx : s.poutOf k p = some x) :
    (s.goodPoll k p).rd R.PLAT_SUP_READ_POUT k = x % 2 ^ 16 := by
  rw [(goodPoll_afterPout s k p).rd (by decide +kernel), State.poutRead, hx]
  exact takePout_read hk _ _

theorem goodPoll_status (hk : k < 16) (s : State) {w : Nat} (hw : p.status = some w) :
    (s.goodPoll k p).rd R.PLAT_SUP_STAT_STATUS_WORD k = w % 65536 := by
  rw [(goodPoll_last s k p).rd (by decide), State.statusRead, hw]
  exact (takeStatus_word hk _ _).trans (Nat.mod_mod _ _)

theorem goodPoll_raised (hk : k < 16) {x : Nat} (hx : s.poutOf k p = some x) (hover : s.rd R.PLAT_SUP_LIMIT_POUT_MAX k < x)
    (hagain : s.bit H.PLAT_OVERP k = true) : (s.goodPoll k p).rd R.FLT_SRC_STATE_STATE (0x372 + k) ≠ 0 := by
  have hv : Frame (.regs [R.PLAT_SUP_STAT_STALE, R.PLAT_SUP_STAT_AGE, H.PLAT_GOT, H.PLAT_FAILS, R.PLAT_SUP_READ_VOUT]) s
      (s.voutRead k p) :=
    (show Frame _ s (s.freshened k) from (Frame.refl s).wr.wr.wr.wr).trans ((voutRead_last s k p).mono (by decide))
  have hpout : (s.poutRead k p).rd R.FLT_SRC_STATE_STATE (0x372 + k) ≠ 0 := by
    rw [State.poutRead, hx]
    exact takePout_raised hk _ (by rwa [hv.rd (by decide)]) (by rwa [hv.bit (by decide)])
  rw [(goodPoll_last s k p).rd (by decide), State.statusRead]
  cases p.status with
  | none => exact hpout
  | some w => exact takeStatus_raised hk _ _ hpout

/-- In the mode that counts single volts, the output voltage reads in mV. -/
theorem goodPoll_vout (hk : k < 16) {v : Nat} (hv : p.vout = some v) (hmode : s.rd H.PLAT_VMODE k = 0) (hlt : v < 65) :
    (s.goodPoll k p).rd R.PLAT_SUP_READ_VOUT k = 1000 * v := by
  rw [(goodPoll_afterVout s k p).rd (by decide +kernel), State.voutRead, hv, hmode]
  change ((s.freshened k).wr _ k _).rd _ k = _
  rw [State.rd_wr_below hk _ _ (by decide) le_rfl, if_pos rfl]
  interval_cases v <;> rfl

/-! ## The commands -/

theorem exec_pmbusPollDone (h : s.polled k = true) (hp : p.mode = none) :
    exec (.pmbusPollDone k p) s = ((s.sendPage k).goodPoll k p).go := by
  change execPmbusPollDone _ _ _ = _
  rw [execPmbusPollDone, if_pos h, hp]

theorem exec_pmbusPollDone_mode (h : s.polled k = true) {m : Nat} (hp : p.mode = some m) (hm : m / 32 % 8 ≠ 0) :
    exec (.pmbusPollDone k p) s = ((s.sendPage k).wr R.PLAT_SUP_CFG_FMT_ERR k 1).go := by
  change execPmbusPollDone _ _ _ = _
  rw [execPmbusPollDone, if_pos h, hp]
  exact congrArg State.go (if_neg hm)

theorem exec_pmbusPollFail (h : s.polled k = true) : exec (.pmbusPollFail k) s = ((s.sendPage k).failPoll k).go := by
  change execPmbusPollFail _ _ = _
  rw [execPmbusPollFail, if_pos h]

theorem exec_poll_unpolled (h : s.polled k = false) (p : PollData) :
    exec (.pmbusPollDone k p) s = .next s ∧ exec (.pmbusPollFail k) s = .next s := by
  change execPmbusPollDone _ _ _ = _ ∧ execPmbusPollFail _ _ = _
  rw [execPmbusPollDone, execPmbusPollFail, h]
  exact ⟨rfl, rfl⟩

/-- The supply at this port that has an address. -/
def State.supplyAt (s : State) (port addr : Nat) : Option Nat :=
  (List.range 16).find? (fun j => s.bit R.PLAT_SUP_CFG_EN j && s.supPort j == port && s.rd R.PLAT_SUP_CFG_ADDR j == addr)

theorem exec_pmbusAlert_known {port addr : Nat} (h : s.polls port = true) (hfind : s.supplyAt port addr = some k) (st : Nat) :
    exec (.pmbusAlert port addr st) s = ((s.wr R.PLAT_SUP_STAT_ALERT k 1).takeStatus k (st % 65536)).go := by
  unfold State.supplyAt at hfind
  change execPmbusAlert _ _ _ _ = _
  rw [execPmbusAlert, if_pos h, hfind]

theorem exec_pmbusAlert_unknown {port addr : Nat} (h : s.polls port = true) (hfind : s.supplyAt port addr = none) (st : Nat) :
    exec (.pmbusAlert port addr st) s = (s.inc R.PLAT_PMB_ALERT_UNK port 1).go := by
  unfold State.supplyAt at hfind
  change execPmbusAlert _ _ _ _ = _
  rw [execPmbusAlert, if_pos h, hfind]

/-- The supplies of a port that an alert line marks. -/
def State.portSupplies (s : State) (port : Nat) : List Nat :=
  (List.range 16).filter (fun k => s.bit R.PLAT_SUP_CFG_EN k && s.supPort k == port)

theorem exec_alertStuck (h : s.polls port = true) :
    exec (.alertStuck port) s = (s.wrAll R.PLAT_SUP_STAT_STALE (s.portSupplies port) (fun _ => 1)).go := by
  change execAlertStuck _ _ = _
  rw [execAlertStuck, if_pos h]
  rfl

theorem exec_alert_unpolled (h : s.polls port = false) (addr st : Nat) :
    exec (.pmbusAlert port addr st) s = .next s ∧ exec (.alertStuck port) s = .next s := by
  change execPmbusAlert _ _ _ _ = _ ∧ execAlertStuck _ _ = _
  rw [execPmbusAlert, execAlertStuck, h]
  exact ⟨rfl, rfl⟩

theorem exec_masterChange (hon : s.platOn = true) (hm : s.pmbMaster = true) : exec (.pmbusMasterChange none) s
    = (((List.range 16).filter s.polled).foldl State.sendPage s).go := by
  change State.go (if s.platOn && s.pmbMaster then _ else s) = _
  rw [hon, hm]
  rfl

theorem exec_masterChange_some (hm : s.pmbMaster = true) (hk : s.polled k = true) : exec (.pmbusMasterChange (some k)) s
    = (((List.range 16).filter s.polled).foldl State.sendPage (s.failPoll k)).go := by
  have hon : s.platOn = true := by
    simp only [State.polled, State.polls, Bool.and_eq_true] at hk
    exact hk.2.1.1.1
  change State.go (if s.platOn && s.pmbMaster then List.foldl _ (s.when (s.polled k) _) _ else s) = _
  rw [hon, hm]
  rw [hk]
  rfl

theorem exec_masterChange_idle (h : s.platOn = false ∨ s.pmbMaster = false) (u : Option Nat) :
    exec (.pmbusMasterChange u) s = .next s := by
  change State.go (if s.platOn && s.pmbMaster then _ else s) = _
  rw [show (s.platOn && s.pmbMaster) = false by rcases h with h | h <;> simp [h]]
  rfl

/-! ## Failed polls -/

theorem failPoll_early (h : s.rd H.PLAT_FAILS k < 2) : s.failPoll k = s.wr H.PLAT_FAILS k (s.rd H.PLAT_FAILS k + 1) := by
  unfold State.failPoll
  dsimp only
  rw [show (s.rd H.PLAT_FAILS k == 2 || (decide (2 < s.rd H.PLAT_FAILS k) && s.rd R.FLT_SRC_STATE_STATE (srcBase 0x10 + k) == 0)) = false
    by simp; omega, Nat.min_eq_right (by omega)]
  rfl

theorem failPoll_third (h : s.rd H.PLAT_FAILS k = 2) :
    s.failPoll k = ((s.wr H.PLAT_FAILS k 3).wr R.PLAT_SUP_STAT_STALE k 1).supplyFault k := by
  unfold State.failPoll
  dsimp only
  rw [h]
  rfl

theorem failPoll_early_count (hk : k < 16) (h : s.rd H.PLAT_FAILS k < 2) (s' : State) (hs : s'.regs = s.regs) :
    (s'.wr H.PLAT_FAILS k (s.rd H.PLAT_FAILS k + 1)).rd H.PLAT_FAILS k = s.rd H.PLAT_FAILS k + 1
      ∧ OnlyFields [(H.PLAT_FAILS, k)] s (s'.wr H.PLAT_FAILS k (s.rd H.PLAT_FAILS k + 1)) := by
  refine ⟨?_, (OnlyFields.of_regs _ hs).trans ?_⟩
  · rw [State.rd_wr_below hk _ _ (by decide) le_rfl, if_pos rfl]
    exact Nat.mod_eq_of_lt (show _ < 2 ^ 2 by omega)
  · simp

end

/-- Settles O55: the supplies of the PMBus are polled. -/
theorem suppliesArePolled : Obligations.SuppliesArePolled := by
  unfold Obligations.SuppliesArePolled
  refine ⟨?_, ?_, ?_, ?_, ?_, ?_, ?_, ?_, ?_, ?_, ?_, ?_, ?_, ?_⟩
  · intro s k p h hp
    have hk := polled_lt h
    have hpage := sendPage_frame s k
    have hpout : (s.sendPage k).poutOf k p = s.poutOf k p := by
      rw [sendPage_eq]
      rfl
    obtain ⟨hstale, hage, hgot, hfails⟩ := goodPoll_fresh hk (s.sendPage k) p
    exact .of_go (exec_pmbusPollDone h hp) ⟨hstale, hage, hgot, hfails, fun x hx => goodPoll_pout hk (hpout.trans hx),
      fun w hw => goodPoll_status hk _ hw, fun x hx hover hagain => goodPoll_raised hk (hpout.trans hx)
        (by rwa [hpage.rd (by decide)]) (by rwa [hpage.bit (by decide)])⟩
  · intro s k m p h hp hm
    have hk := polled_lt h
    refine .of_go (exec_pmbusPollDone_mode h hp hm) ⟨?_, ?_, rfl, ?_⟩
    · rw [State.bit_wr_below hk _ _ (by decide) le_rfl rfl, if_pos rfl]
      rfl
    · exact (OnlyFields.of_regs (t := s.sendPage k) _ (by rw [sendPage_eq])).trans (by simp)
    · rw [sendPage_eq]
      rfl
  · intro s k h hn
    have hk := polled_lt h
    have hfail : (s.sendPage k).failPoll k = (s.sendPage k).wr H.PLAT_FAILS k (s.rd H.PLAT_FAILS k + 1) := by
      have hrd : (s.sendPage k).rd H.PLAT_FAILS k = s.rd H.PLAT_FAILS k := (sendPage_frame s k).rd (by decide) k
      rw [failPoll_early (by rwa [hrd]), hrd]
    obtain ⟨hcount, honly⟩ := failPoll_early_count hk hn (s.sendPage k) (by rw [sendPage_eq])
    refine .of_go (t := (s.sendPage k).wr H.PLAT_FAILS k (s.rd H.PLAT_FAILS k + 1)) (by rw [exec_pmbusPollFail h, hfail])
      ⟨hcount, honly, rfl, ?_⟩
    rw [sendPage_eq]
    rfl
  · intro s k h hn
    have hk := polled_lt h
    have hpage := sendPage_frame s k
    have hfail := failPoll_third (s := s.sendPage k) (k := k) (by rw [hpage.rd (by decide), hn])
    have hlast : Frame (.fault faultFields) (((s.sendPage k).wr H.PLAT_FAILS k 3).wr R.PLAT_SUP_STAT_STALE k 1) ((s.sendPage k).failPoll k) := by
      rw [hfail]
      exact (Frame.refl _).supplyFault
    have hall : Frame (.fault (faultFields ++ [H.PLAT_FAILS, R.PLAT_SUP_STAT_STALE])) s ((s.sendPage k).failPoll k) := by
      rw [hfail]
      exact (Frame.refl s).sendPage.wr.wr.supplyFault
    refine .of_go (exec_pmbusPollFail h) ⟨?_, ?_, ?_, hall.kinds, hall.onlyFault⟩
    · rw [hlast.bit (by decide), State.bit_wr_below hk _ _ (by decide) le_rfl rfl, if_pos rfl]
      rfl
    · rw [hlast.rd (by decide), State.rd_wr_apart _ (by decide), State.rd_wr_below hk _ _ (by decide) le_rfl, if_pos rfl]
      rfl
    · rw [hfail]
      exact Raised.after (show Frame (.regsOut [H.PLAT_FAILS, R.PLAT_SUP_STAT_STALE]) s _ from
        (hpage.mono (by decide)).wr.wr).kinds (by decide) (supplyFault_raised hk _)
  · intro s port addr k st h hst hfind
    have hk : k < 16 := List.mem_range.1 (List.mem_of_find?_eq_some hfind)
    have hmod : st % 65536 = st := Nat.mod_eq_of_lt hst
    have hmask : (s.wr R.PLAT_SUP_STAT_ALERT k 1).rd R.PLAT_SUP_LIMIT_SW_MASK k = s.rd R.PLAT_SUP_LIMIT_SW_MASK k :=
      State.rd_wr_apart _ (by decide) _ _ _
    refine .of_go (t := (s.wr R.PLAT_SUP_STAT_ALERT k 1).takeStatus k st) (by rw [exec_pmbusAlert_known h hfind, hmod]) ⟨?_, ?_, ?_, ?_⟩
    · rw [(takeStatus_frame _ k st).bit (by decide), State.bit_wr_below hk _ _ (by decide) le_rfl rfl, if_pos rfl]
      rfl
    · rw [takeStatus_word hk, hmod]
    · intro hsel
      rw [takeStatus_selected _ (by rwa [hmask])]
      exact Raised.after (show Frame (.regs [R.PLAT_SUP_STAT_ALERT, R.PLAT_SUP_STAT_STATUS_WORD]) s _ from
        (Frame.refl s).wr.wr).kinds (by decide) (supplyFault_raised hk _)
    · intro hpass
      rw [takeStatus_passed _ (by rwa [hmask])]
      exact (show Frame (.regs [R.PLAT_SUP_STAT_ALERT, R.PLAT_SUP_STAT_STATUS_WORD]) s _ from (Frame.refl s).wr.wr).kinds
  · intro s port addr st h hnone
    have hport : port < 2 := by
      simp only [State.polls, Bool.and_eq_true, decide_eq_true_eq] at h
      exact h.1.2
    have hfind : s.supplyAt port addr = none := List.find?_eq_none.2 fun j hj => by
      simpa [Bool.and_eq_true, and_imp] using hnone j (List.mem_range.1 hj)
    refine .of_go (t := s.inc R.PLAT_PMB_ALERT_UNK port 1) (exec_pmbusAlert_unknown h hfind st) ⟨?_, ?_, ?_⟩
    · rw [State.rd_inc_below hport _ _ (by decide) le_rfl, if_pos rfl]
    · simp
    · exact (show Frame (.regs [R.PLAT_PMB_ALERT_UNK]) s _ from (Frame.refl s).inc).onlyRegs
  · intro s port h
    have hall : Frame (.regs [R.PLAT_SUP_STAT_STALE]) s (s.wrAll R.PLAT_SUP_STAT_STALE (s.portSupplies port) (fun _ => 1)) :=
      (Frame.refl s).wrAll
    refine .of_go (exec_alertStuck h) ⟨fun k hk hen hp => ?_, fun k hp => ?_, hall.kinds, hall.onlyRegs⟩
    · refine bit_foldl_of_mem (g := fun u i => u.wr R.PLAT_SUP_STAT_STALE i 1) (fun u => ?_) (fun u x hx => State.rd_wr_idx u hx (by decide) 1) (List.mem_filter.2 ⟨List.mem_range.2 hk, by simp [hen, hp]⟩) s
      rw [State.bit_wr_below hk _ _ (by decide) le_rfl rfl, if_pos rfl]
      rfl
    · refine rd_foldl_of_notMem (g := fun u i => u.wr R.PLAT_SUP_STAT_STALE i 1) (fun u x hx => State.rd_wr_idx u hx (by decide) 1) (fun hk => hp ?_) s
      have hin := (List.mem_filter.1 hk).2
      simp only [Bool.and_eq_true, beq_iff_eq] at hin
      exact hin.2
  · intro s hon hm
    refine .of_go (exec_masterChange hon hm) ⟨fun k hk hp hpage => ?_, ?_, sendPages_eq _ s⟩
    · exact (sendPages_sent s _).2 k (List.mem_filter.2 ⟨List.mem_range.2 hk, hp⟩) hpage
    · rw [sendPages_eq]
      exact fun g j _ => rfl
  · exact fun s k p h => exec_poll_unpolled h p
  · exact fun s port addr st h => exec_alert_unpolled h addr st
  · exact fun s u h => exec_masterChange_idle h u
  · intro s k hm hp hn
    obtain ⟨hcount, honly⟩ := failPoll_early_count (polled_lt hp) hn s rfl
    refine .of_go (exec_masterChange_some hm hp) ?_
    rw [failPoll_early hn, sendPages_eq]
    exact ⟨hcount, honly, rfl⟩
  · exact fun s k _ hpage => sendPage_out hpage
  · exact fun s k v p h hp hv hmode hlt => .of_go (exec_pmbusPollDone h hp) (goodPoll_vout (polled_lt h) hv (by
      rw [(sendPage_frame s k).rd (by decide), hmode]) hlt)

end Sys2Proof.Machine
end

section
/-! Fold maps are enabled, checked, refused and reloaded (R297, R427, R518, R526–R531, R534, R536). -/

set_option Elab.async false

namespace Sys2Proof.Machine

/-! ## Fields put back at reset -/

theorem amGet_filter_dropped {α : Type} (p : Nat → Bool) {k : Nat} (hk : p k = false) :
    ∀ l : List (Nat × α), amGet k (l.filter fun e => p e.1) = none
  | [] => rfl
  | (k', v) :: l => by
    by_cases hp : p k' = true
    · have hne : k ≠ k' := fun h => by simp [← h, hk] at hp
      rw [List.filter_cons_of_pos (p := fun e : Nat × α => p e.1) hp, amGet, if_neg hne]
      exact amGet_filter_dropped p hk l
    · rw [List.filter_cons_of_neg (p := fun e : Nat × α => p e.1) hp]
      exact amGet_filter_dropped p hk l

/-- An element of a field that is put back at its reset value reads as after reset. -/
theorem rd_clearFld (s : State) {f : Fld} (hs : 0 < f.stride) {i : Nat} (hi : i < f.cnt) :
    (s.clearFld f).rd f i = f.resetAt i % 2 ^ f.wid := by
  have hin : f.stride * i < f.stride * f.cnt := Nat.mul_lt_mul_of_pos_left hi hs
  have hkey : (!(decide (f.base ≤ f.key i) && decide (f.key i < f.base + f.stride * f.cnt)
      && (f.key i - f.base) % f.stride == 0)) = false := by
    simp only [Fld.key]
    simp
    omega
  rw [State.rd, regsRd, if_pos hi, State.clearFld,
    amGet_filter_dropped (fun k => !(decide (f.base ≤ k) && decide (k < f.base + f.stride * f.cnt) && (k - f.base) % f.stride == 0))
      hkey]
  rfl

section
variable {s t : State} {w : WCtx} {keep src : Bool} {ring : Nat} {r : Refuse}

/-! ## What a refusal of a map leaves -/

/-- The refusal recorded, the loader emptied, and the load's command ended. -/
def State.mapDropped (s : State) (r : Refuse) : State :=
  (s.recordRefusal r).clearLoader.loadEnd 6 ((s.recordRefusal r).rawWord 0x10000C)

theorem loadEnd_frame (s : State) (status r0 : Nat) : Frame Frame.loadEndReach s (s.loadEnd status r0) := (Frame.refl s).loadEnd

theorem recordRefusal_says (s : State) (r : Refuse) : (s.recordRefusal r).rd R.REFUSE_CODE 0 = r.code % 256
    ∧ (s.recordRefusal r).rd R.REFUSE_WHERE 0 = r.loc % 2 ^ 24 := by
  have hlast : Frame (.fault [R.PROFILE_REFUSE_PROF, R.TALLY_DROPPED_DROPPED]) ((s.wr R.REFUSE_CODE 0 r.code).wr R.REFUSE_WHERE 0 r.loc)
      (s.recordRefusal r) := by
    unfold State.recordRefusal
    cases r.prof with
    | none => exact (Frame.refl _).tally
    | some p => exact (Frame.refl _).wr.tally
  rw [hlast.rd (by decide), hlast.rd (by decide), State.rd_wr_apart _ (by decide), State.rd_wr_zero _ _ (by decide) le_rfl, if_pos rfl,
    State.rd_wr_zero _ _ (by decide) le_rfl, if_pos rfl]
  exact ⟨rfl, rfl⟩

theorem recordRefusal_frame (s : State) (r : Refuse) : Frame Frame.recordRefusalReach s (s.recordRefusal r) := (Frame.refl s).recordRefusal

theorem mapDropped_last (s : State) (r : Refuse) : Frame Frame.loadEndReach (s.recordRefusal r).clearLoader (s.mapDropped r) :=
  loadEnd_frame _ _ _

/-- A map that is dropped leaves the loader empty, the map in force as it was, and the refusal's code and place. -/
theorem mapDropped_says (s : State) (r : Refuse) : (s.mapDropped r).rd R.REFUSE_CODE 0 = r.code % 256
    ∧ (s.mapDropped r).rd R.REFUSE_WHERE 0 = r.loc % 2 ^ 24
    ∧ (s.mapDropped r).map = { s.map with stream := [], last := false, ringFault := false, shadow := none } := by
  have hl := mapDropped_last s r
  rw [hl.rd (by decide +kernel), hl.rd (by decide +kernel), hl.map]
  obtain ⟨hcode, hloc⟩ := recordRefusal_says s r
  refine ⟨hcode, hloc, ?_⟩
  change ({ (s.recordRefusal r).map with stream := [], last := false, ringFault := false, shadow := none } : MapState) = _
  rw [(recordRefusal_frame s r).map]

/-- The refusal of a first enable, outside the safe governor and the map step. -/
theorem refuseMap_first (hlive : s.rd R.RUN_LIVE 0 = 0) (hgov : s.bit R.STATUS_SAFE_GOV 0 = false) (hstep : s.atMapStep = false)
    (r : Refuse) : s.refuseMap r = ((s.mapDropped r).wr R.RUN_STATE 0 3).wr R.RUN_EN 0 0 := by
  unfold State.refuseMap
  dsimp only
  rw [if_neg (by simp [hlive]), hgov, hstep]
  rfl

/-- A first enable that is refused ends in REFUSED, with EN = 0 and the loader empty. -/
theorem refuseMap_first_says (hlive : s.rd R.RUN_LIVE 0 = 0) (hgov : s.bit R.STATUS_SAFE_GOV 0 = false) (hstep : s.atMapStep = false)
    (r : Refuse) : (s.refuseMap r).rd R.RUN_STATE 0 = 3 ∧ (s.refuseMap r).runEn = false
      ∧ (s.refuseMap r).rd R.REFUSE_CODE 0 = r.code % 256 ∧ (s.refuseMap r).rd R.REFUSE_WHERE 0 = r.loc % 2 ^ 24
      ∧ (s.refuseMap r).map.shadow = none ∧ (s.refuseMap r).map.stream = [] := by
  obtain ⟨hcode, hloc, hmap⟩ := mapDropped_says s r
  rw [refuseMap_first hlive hgov hstep]
  refine ⟨?_, ?_, ?_, ?_, ?_, ?_⟩
  · rw [State.rd_wr_apart _ (by decide), State.rd_wr_zero _ _ (by decide) le_rfl, if_pos rfl]
    rfl
  · rw [State.runEn, State.bit_wr_below Nat.zero_lt_one _ _ (by decide) le_rfl rfl, if_pos rfl]
    rfl
  · rw [State.rd_wr_apart _ (by decide), State.rd_wr_apart _ (by decide), hcode]
  · rw [State.rd_wr_apart _ (by decide), State.rd_wr_apart _ (by decide), hloc]
  · exact congrArg MapState.shadow hmap
  · exact congrArg MapState.stream hmap

/-- A live reload that is refused. -/
def State.reloadDropped (s : State) (r : Refuse) : State :=
  let own := r.code != refPeer && r.code != refAborted
  let s3 := (s.mapDropped r).clearElems [R.RUN_LIVE, H.TOP_COMMIT_AT, H.TOP_PEER_PASS, H.TOP_OWN_AGE, H.TOP_RUN_HOLD] 0
  let s4 := s3.when (own && s.peerCompares) (fun t => t.sendMirror .reloadRefuse)
  s4.when (own && (s.role == 2 || s.role == 3)) (fun t => t.wr H.TOP_REL_REFUSED 0 1)

theorem refuseMap_live (hlive : s.rd R.RUN_LIVE 0 ≠ 0) (r : Refuse) : s.refuseMap r = (s.reloadDropped r).heldProfile := if_pos hlive

/-- A live reload that is refused leaves the map that runs. -/
theorem refuseMap_live_says (hlive : s.rd R.RUN_LIVE 0 ≠ 0) (r : Refuse) : (s.refuseMap r).rd R.RUN_LIVE 0 = 0
    ∧ (s.refuseMap r).rd R.RUN_STATE 0 = s.rd R.RUN_STATE 0 ∧ (s.refuseMap r).rd R.REFUSE_CODE 0 = r.code % 256
    ∧ (s.refuseMap r).map.live = s.map.live ∧ (s.refuseMap r).map.recs = s.map.recs ∧ (s.refuseMap r).map.shadow = none := by
  obtain ⟨hcode, -, hmap⟩ := mapDropped_says s r
  have hheld : Frame Frame.heldProfileReach (s.reloadDropped r) (s.refuseMap r) := by
    rw [refuseMap_live hlive]
    exact (Frame.refl _).heldProfile
  have hcleared : Frame (.regsOut [H.TOP_REL_REFUSED]) ((s.mapDropped r).clearElems [R.RUN_LIVE, H.TOP_COMMIT_AT, H.TOP_PEER_PASS,
      H.TOP_OWN_AGE, H.TOP_RUN_HOLD] 0) (s.reloadDropped r) :=
    ((Frame.refl _).when fun _ hu => hu.sendMirror).when fun _ hu => hu.wr
  have hclear : Frame (.regs [R.RUN_LIVE, H.TOP_COMMIT_AT, H.TOP_PEER_PASS, H.TOP_OWN_AGE, H.TOP_RUN_HOLD]) (s.mapDropped r)
      ((s.mapDropped r).clearElems [R.RUN_LIVE, H.TOP_COMMIT_AT, H.TOP_PEER_PASS, H.TOP_OWN_AGE, H.TOP_RUN_HOLD] 0) :=
    (Frame.refl _).clearElems
  have hmap' : (s.refuseMap r).map = { s.map with stream := [], last := false, ringFault := false, shadow := none } := by
    rw [hheld.map, hcleared.map, hclear.map, hmap]
  refine ⟨?_, ?_, ?_, ?_, ?_, ?_⟩
  · rw [hheld.rd (by decide +kernel), hcleared.rd (by decide)]
    simp (disch := decide) only [State.clearElems, List.foldl_cons, List.foldl_nil, State.rd_wr_apart, State.rd_wr_zero, if_true]
    rfl
  · rw [hheld.rd (by decide +kernel), hcleared.rd (by decide), hclear.rd (by decide), (mapDropped_last s r).rd (by decide +kernel)]
    exact (recordRefusal_frame s r).rd (by decide +kernel) 0
  · rw [hheld.rd (by decide +kernel), hcleared.rd (by decide), hclear.rd (by decide), hcode]
  · exact (congrArg MapState.live hmap').trans rfl
  · exact (congrArg MapState.recs hmap').trans rfl
  · exact congrArg MapState.shadow hmap'

/-! ## The loader -/

theorem stageA_congr (h : t.ident = s.ident) (hclk : t.rd R.CLK_EN_EN 0 = s.rd R.CLK_EN_EN 0)
    (hmax : ∀ r, t.rd R.PD_RAIL_COMP2_DMAX r = s.rd R.PD_RAIL_COMP2_DMAX r) : t.stageA = s.stageA := by
  simp only [State.stageA, State.zk4, h, hclk, hmax]

/-- The loader on the source that ZK_RUN names, before stage A of the check. -/
def State.loaderSet (s : State) : State :=
  (((s.clearLoader.wr R.REFUSE_CODE 0 0).wr R.REFUSE_WHERE 0 0).wr H.TOP_LOAD_SRC 0 (s.rd R.RUN_SRC 0)).wr
    H.TOP_LOAD_RING 0 (s.rd R.RUN_RING 0)

theorem startLoader_passed (h : s.stageA = none) : s.startLoader = s.loaderSet := by
  unfold State.startLoader
  rw [h]
  rfl

theorem startLoader_refused (h : s.stageA = some r) : s.startLoader = s.loaderSet.refuseMap r := by
  unfold State.startLoader
  rw [h]
  rfl

theorem loaderSet_frame (s : State) : Frame ⟨[.map], [R.REFUSE_CODE, R.REFUSE_WHERE, H.TOP_LOAD_SRC, H.TOP_LOAD_RING]⟩ s s.loaderSet :=
  (Frame.refl s).clearLoader.wr.wr.wr.wr

theorem loaderSet_says (s : State) : s.loaderSet.bit H.TOP_LOAD_SRC 0 = s.bit R.RUN_SRC 0
    ∧ s.loaderSet.rd H.TOP_LOAD_RING 0 = s.rd R.RUN_RING 0 ∧ s.loaderSet.rd R.REFUSE_CODE 0 = 0
    ∧ s.loaderSet.map.stream = [] ∧ s.loaderSet.map.shadow = none ∧ s.loaderSet.map.live = s.map.live
    ∧ s.loaderSet.map.recs = s.map.recs := by
  refine ⟨?_, ?_, ?_, rfl, rfl, rfl, rfl⟩
  · rw [State.loaderSet, State.bit_wr_apart _ (by decide), State.bit, State.rd_wr_zero _ _ (by decide) le_rfl, if_pos rfl]
    exact congrArg (· == 1) (Nat.mod_eq_of_lt (State.rd_lt s R.RUN_SRC 0))
  · rw [State.loaderSet, State.rd_wr_zero _ _ (by decide) le_rfl, if_pos rfl]
    exact Nat.mod_eq_of_lt (State.rd_lt s R.RUN_RING 0)
  · rw [State.loaderSet]
    simp (disch := decide) only [State.rd_wr_apart, State.rd_wr_zero, if_true]
    rfl

/-! ## ZK_RUN -/

theorem runWord_frame (s : State) (keep src : Bool) (ring : Nat) :
    Frame (.regs [R.RUN_KEEP_PROFILE, R.RUN_SRC, R.RUN_RING]) s (s.runWord keep src ring) := (Frame.refl s).wrB.wrB.wr

theorem runWord_says (s : State) (keep src : Bool) (ring : Nat) : (s.runWord keep src ring).bit R.RUN_KEEP_PROFILE 0 = keep
    ∧ (s.runWord keep src ring).bit R.RUN_SRC 0 = src ∧ (s.runWord keep src ring).rd R.RUN_RING 0 = ring % 64 := by
  simp (disch := decide) only [State.runWord, State.bit_wr_apart, State.bit_wrB_apart, State.bit_wrB_below Nat.zero_lt_one,
    State.rd_wr_zero, if_true]
  exact ⟨trivial, trivial, rfl⟩

/-- Its check about to start, EN = 1. -/
def State.checking (s : State) : State :=
  (((s.wr R.RUN_EN 0 1).wr R.RUN_STATE 0 1).clearFlds ([R.LE_SLOT_MODE_PRESETS, R.CROOK_FOLD_TOTAL_TOTAL] ++ bwFoldCounters)).wr
    R.FRAME_STAT_DEFER_CNT 0 0

theorem enable_stopped (h : s.rd R.RUN_STATE 0 = 0 ∨ s.rd R.RUN_STATE 0 = 3) : s.enable = s.checking.startLoader := if_pos h

theorem enable_running (h : s.rd R.RUN_STATE 0 = 1 ∨ s.rd R.RUN_STATE 0 = 2) : s.enable = s := if_neg (by omega)

theorem checking_frame (s : State) : Frame (.regs ([R.RUN_EN, R.RUN_STATE, R.FRAME_STAT_DEFER_CNT, R.LE_SLOT_MODE_PRESETS,
    R.CROOK_FOLD_TOTAL_TOTAL] ++ bwFoldCounters)) s s.checking := (Frame.refl s).wr.wr.clearFlds.wr

theorem checking_says (s : State) : s.checking.rd R.RUN_STATE 0 = 1 ∧ s.checking.runEn = true
    ∧ s.checking.rd R.FRAME_STAT_DEFER_CNT 0 = 0 := by
  have hlast : Frame (.regs ([R.FRAME_STAT_DEFER_CNT, R.LE_SLOT_MODE_PRESETS, R.CROOK_FOLD_TOTAL_TOTAL] ++ bwFoldCounters))
      ((s.wr R.RUN_EN 0 1).wr R.RUN_STATE 0 1) s.checking := (Frame.refl _).clearFlds.wr
  rw [hlast.rd (by decide), State.runEn, hlast.bit (by decide), State.checking]
  simp (disch := decide) only [State.rd_wr_zero, State.bit_wr_apart, State.bit_wr_below Nat.zero_lt_one, if_true]
  exact ⟨rfl, rfl, rfl⟩

theorem exec_enSet (s : State) (w : WCtx) (keep src : Bool) (ring : Nat) :
    exec (.enSet w keep src ring) s = (s.judged w R.RUN_EN 0 1 true (fun t => (t.runWord keep src ring).enable)).go := rfl

theorem exec_enSet_stopped (hw : Writable s w R.RUN_EN 0) (h : s.rd R.RUN_STATE 0 = 0 ∨ s.rd R.RUN_STATE 0 = 3) :
    exec (.enSet w keep src ring) s = ((s.runWord keep src ring).checking.startLoader.answer .ok).go := by
  rw [exec_enSet, State.judged_of_writable hw, enable_stopped (by rwa [(runWord_frame s keep src ring).rd (by decide)])]

theorem exec_enSet_running (hw : Writable s w R.RUN_EN 0) (h : s.rd R.RUN_STATE 0 = 1 ∨ s.rd R.RUN_STATE 0 = 2) :
    exec (.enSet w keep src ring) s = ((s.runWord keep src ring).answer .ok).go := by
  rw [exec_enSet, State.judged_of_writable hw, enable_running (by rwa [(runWord_frame s keep src ring).rd (by decide)])]

theorem exec_enClear (hw : Writable s w R.RUN_EN 0) : exec (.enClear w) s = ((s.disable w).answer .ok).go :=
  congrArg State.go (State.judged_of_writable hw 0 fun t => t.disable w)

/-- What enabling does before the loader starts. -/
theorem checked_frame (s : State) (keep src : Bool) (ring : Nat) : Frame (.regs ([R.RUN_KEEP_PROFILE, R.RUN_SRC, R.RUN_RING,
    R.RUN_EN, R.RUN_STATE, R.FRAME_STAT_DEFER_CNT, R.LE_SLOT_MODE_PRESETS, R.CROOK_FOLD_TOTAL_TOTAL] ++ bwFoldCounters)) s
    (s.runWord keep src ring).checking :=
  ((runWord_frame s keep src ring).mono (by decide +kernel)).trans ((checking_frame _).mono (by decide +kernel))

/-! ## RELOAD -/

/-- The command, after the other fields of its word. -/
theorem exec_reload (s : State) (w : WCtx) (keep src : Bool) (ring : Nat) : exec (.reload w keep src ring) s
    = ((s.when (s.right w.req R.RUN_RELOAD 0) (fun t => t.runWord keep src ring)).judged w R.RUN_RELOAD 0 1 s.running
        (fun t => t.askReload w)).go := rfl

theorem right_of_writable {f : Fld} {i : Nat} (hw : Writable s w f i) (hf : f.acc ≠ .ro) : s.right w.req f i = true := by
  obtain ⟨-, -, -, hp⟩ := hw
  unfold State.protected? at hp
  split at hp
  · exact absurd ‹_› hf
  · split at hp
    · cases hp
    · split at hp
      · cases hp
      · split at hp
        · cases hp
        next h => simpa using h

theorem runReload_right (h : t.bit R.WARDEN_OPEN 0 = s.bit R.WARDEN_OPEN 0) (q : Requester) :
    t.right q R.RUN_RELOAD 0 = s.right q R.RUN_RELOAD 0 := by
  cases q with
  | hart k => simp only [State.right, State.warden, h]
  | psc => rfl
  | host =>
    have hmay (u : State) : u.hostMay R.RUN_RELOAD 0 = false := by
      simp [State.hostMay, show R.RUN_RELOAD.key 0 / 8 = 0x100007 from rfl]
      decide
    simp only [State.right, State.warden, hmay]
  | bmc => rfl

/-- The word's other fields leave the right to write RELOAD. -/
theorem runWord_writable (hw : Writable s w R.RUN_RELOAD 0) (keep src : Bool) (ring : Nat) :
    Writable (s.runWord keep src ring) w R.RUN_RELOAD 0 := by
  have hright := right_of_writable hw (by decide)
  obtain ⟨hg, hi, hr, -⟩ := hw
  have hf := runWord_frame s keep src ring
  refine ⟨?_, hi, (State.reservedWord_congr hf.ident _).trans hr, ?_⟩
  · rw [State.gated] at hg ⊢
    rwa [hf.rd (by decide)]
  · have hright' := (runReload_right (hf.bit (by decide) 0) w.req).trans hright
    simp [State.protected?, hright', show R.RUN_RELOAD.acc = .wo from rfl]

theorem exec_reload_running (hw : Writable s w R.RUN_RELOAD 0) (hr : s.running = true) :
    exec (.reload w keep src ring) s = (((s.runWord keep src ring).askReload w).answer .ok).go := by
  rw [exec_reload, right_of_writable hw (by decide), State.when_true, hr, State.judged_of_writable (runWord_writable hw keep src ring)]

theorem exec_reload_stopped (hw : Writable s w R.RUN_RELOAD 0) (hr : s.running = false) :
    exec (.reload w keep src ring) s = ((s.runWord keep src ring).refuse w (R.RUN_RELOAD.word 0) 3).go := by
  rw [exec_reload, right_of_writable hw (by decide), State.when_true, hr, State.judged_of_forbidden (runWord_writable hw keep src ring)]

theorem reloadBusy_congr (hlive : t.rd R.RUN_LIVE 0 = s.rd R.RUN_LIVE 0) (hpend : t.bit R.PROFILE_PENDING 0 = s.bit R.PROFILE_PENDING 0) :
    t.reloadBusy = s.reloadBusy := by rw [State.reloadBusy, State.reloadBusy, hlive, hpend]

theorem runWord_busy (s : State) (keep src : Bool) (ring : Nat) : (s.runWord keep src ring).reloadBusy = s.reloadBusy :=
  reloadBusy_congr ((runWord_frame s keep src ring).rd (by decide) 0) ((runWord_frame s keep src ring).bit (by decide) 0)

theorem askReload_busy (hb : s.reloadBusy = true) : s.askReload w = s.recordRefusal ⟨refBusy, 0xFFFFFE, none⟩ := by
  rw [State.askReload, if_pos hb, State.beginReload, if_pos hb]

/-- A live reload about to start its loader. -/
def State.reloading (s : State) : State :=
  ((s.clearElems [H.TOP_COMMIT_AT, H.TOP_PEER_PASS, H.TOP_OWN_AGE, H.TOP_REL_REFUSED] 0).wr R.RUN_LIVE 0 1).wrB H.TOP_RUN_HOLD 0 s.holder

theorem reloading_frame (s : State) : Frame (.regs [H.TOP_COMMIT_AT, H.TOP_PEER_PASS, H.TOP_OWN_AGE, H.TOP_REL_REFUSED, R.RUN_LIVE,
    H.TOP_RUN_HOLD]) s s.reloading := (Frame.refl s).clearElems.wr.wrB

theorem askReload_free (hb : s.reloadBusy = false) : s.askReload w = (s.mirrorOut w (.write 0x100004 s.runMirror)).reloading.startLoader := by
  have hf : Frame ⟨[.out], []⟩ s (s.mirrorOut w (.write 0x100004 s.runMirror)) := (Frame.refl s).mirrorOut
  have hb' : (s.mirrorOut w (.write 0x100004 s.runMirror)).reloadBusy = false :=
    (reloadBusy_congr (hf.rd rfl 0) (hf.bit rfl 0)).trans hb
  rw [State.askReload, if_neg (by simp [hb]), State.beginReload, if_neg (by simp [hb'])]
  rfl

/-! ## The end of the check -/

theorem exec_mapCheckDone_refused {psc : PscAnswer} (hl : s.loading = true) (hj : s.judgeMap psc = some (.error r)) :
    exec (.mapCheckDone psc) s = (s.refuseMap r).go := by
  change execMapCheckDone _ _ = _
  rw [execMapCheckDone, if_pos hl, hj]

theorem exec_mapCheckDone_passed {psc : PscAnswer} {m : MapImg} (hl : s.loading = true) (hj : s.judgeMap psc = some (.ok m)) :
    exec (.mapCheckDone psc) s = (s.admitMap m).go := by
  change execMapCheckDone _ _ = _
  rw [execMapCheckDone, if_pos hl, hj]

theorem exec_mapCheckDone_idle {psc : PscAnswer} (h : s.loading = false ∨ s.judgeMap psc = none) : exec (.mapCheckDone psc) s = .next s := by
  change execMapCheckDone _ _ = _
  rw [execMapCheckDone]
  rcases h with h | h
  · rw [h]
    rfl
  · rw [h]
    exact congrArg State.go (ite_self s)

/-- The map that passed, staged. -/
def State.shadowed (s : State) (m : MapImg) : State := { s with map := { s.map with shadow := some m, stream := [], last := false } }

theorem admitMap_first (m : MapImg) (hlive : s.rd R.RUN_LIVE 0 ≠ 1) (hgov : s.bit R.STATUS_SAFE_GOV 0 = false) :
    s.admitMap m = s.shadowed m := by
  rw [State.admitMap, if_neg hlive, hgov]
  rfl

/-- A live map that passed, before its boundary is named. -/
def State.passed (s : State) (m : MapImg) : State :=
  (((s.shadowed m).wr R.RUN_LIVE 0 2).wr H.TOP_OWN_AGE 0 0).when (s.role == 2 || s.role == 3) (fun t => t.sendMirror .reloadPass)

theorem admitMap_live (m : MapImg) (hlive : s.rd R.RUN_LIVE 0 = 1) : s.admitMap m = (s.passed m).tryName (s.frame + 5) := if_pos hlive

/-- The safe governor left. -/
def State.ungoverned (s : State) (m : MapImg) : State :=
  ((s.shadowed m).clearElems [R.STATUS_SAFE_GOV, R.BOOT_ERR] 0).wr R.BOOT_FROM_RING 0 1

theorem admitMap_governed (m : MapImg) (hlive : s.rd R.RUN_LIVE 0 ≠ 1) (hgov : s.bit R.STATUS_SAFE_GOV 0 = true) :
    s.admitMap m = ((List.range 4).foldl State.startHart (s.ungoverned m)).setStep 4 := by
  rw [State.admitMap, if_neg hlive, hgov]
  rfl

theorem shadowed_passed (s : State) (m : MapImg) : Frame (.regsOut [R.RUN_LIVE, H.TOP_OWN_AGE]) (s.shadowed m) (s.passed m) :=
  (Frame.refl _).wr.wr.when fun _ hu => hu.sendMirror

theorem rd_shadowed (s : State) (m : MapImg) (f : Fld) (i : Nat) : (s.shadowed m).rd f i = s.rd f i := rfl

theorem passed_rd (s : State) (m : MapImg) {f : Fld} (hf : R.RUN_LIVE.apart f = true) (hf' : H.TOP_OWN_AGE.apart f = true) (i : Nat) :
    (s.passed m).rd f i = s.rd f i :=
  (shadowed_passed s m).kinds f i (by simp [hf, hf'])

theorem nameCommit_frame (s : State) (k : Nat) : Frame (.regsOut [H.TOP_COMMIT_AT]) s (s.nameCommit k) := (Frame.refl s).nameCommit

/-- The boundary of a commit is named, and the peer told. -/
theorem nameCommit_says (s : State) (k : Nat) : (s.nameCommit k).rd H.TOP_COMMIT_AT 0 = (k + 1) % 2 ^ 64
    ∧ (s.peerCompares = true → .mirror ⟨true, s.frame + 1, .commitAt k⟩ ∈ (s.nameCommit k).out) := by
  constructor
  · simp (disch := decide) only [State.nameCommit, State.rd_when, State.sendMirror, State.rd_send, State.rd_wr_zero, if_true, ite_self]
    rfl
  · intro h
    rw [State.nameCommit, h, State.when_true, State.sendMirror, frame_congr (State.rd_wr_apart s (by decide) 0 0 _)]
    exact List.mem_cons_self

theorem tryName_follower (k : Nat) (h : s.role = 2 ∨ s.role = 3) : s.tryName k = s := by
  have h' : (s.role == 2 || s.role == 3) = true := by simpa using h
  rw [State.tryName, h', if_pos rfl, ite_self]

theorem tryName_names (k : Nat) (hlive : s.rd R.RUN_LIVE 0 = 2) (hat : s.rd H.TOP_COMMIT_AT 0 = 0) (h2 : s.role ≠ 2) (h3 : s.role ≠ 3)
    (hpeer : s.rd R.TWIN_STATUS_PEER_ROLE 0 ≠ 3) : s.tryName k = s.nameCommit k := by
  rw [State.tryName, if_neg (by simp [hlive, hat]), if_neg (by simp [h2, h3]), if_neg (by simp [hpeer])]

theorem exec_loaderStall (hl : s.loading = true) (hs : s.bit H.TOP_LOAD_SRC 0 = true) (hw : s.streamWhole = false) :
    exec .loaderStall s = (s.refuseMap ⟨refStalled, 0xFFFFFE, none⟩).go := by
  change execLoaderStall _ = _
  rw [execLoaderStall, hl, hs, hw]
  rfl

theorem exec_loaderStall_idle (h : s.loading = false ∨ s.bit H.TOP_LOAD_SRC 0 = false ∨ s.streamWhole = true) :
    exec .loaderStall s = .next s := by
  change execLoaderStall _ = _
  rw [execLoaderStall, if_neg (by rcases h with h | h | h <;> simp [h])]
  rfl

theorem exec_standbyReloadTimeout (hh : s.holder = true) (hl : s.rd R.RUN_LIVE 0 = 2) (ha : s.rd H.TOP_COMMIT_AT 0 = 0)
    (hage : 4096 ≤ s.rd H.TOP_OWN_AGE 0) : exec .standbyReloadTimeout s = (s.nameCommit (s.frame + 5)).go := by
  change execStandbyReloadTimeout _ = _
  rw [execStandbyReloadTimeout, if_pos (by simp [hh, hl, ha, hage])]

theorem exec_standbyReloadTimeout_idle (h : s.holder = false ∨ s.rd R.RUN_LIVE 0 ≠ 2 ∨ s.rd H.TOP_COMMIT_AT 0 ≠ 0
    ∨ s.rd H.TOP_OWN_AGE 0 < 4096) : exec .standbyReloadTimeout s = .next s := by
  change execStandbyReloadTimeout _ = _
  rw [execStandbyReloadTimeout, if_neg ?_]
  · rfl
  · rcases h with h | h | h | h
    · simp [h]
    · simp [h]
    · simp [h]
    · simp [Nat.not_le.2 h]

/-! ## EN = 0 -/

theorem disable_checking (h : s.rd R.RUN_STATE 0 = 1) : s.disable w = s.refuseMap ⟨refAborted, 0xFFFFFE, none⟩ := if_pos h

theorem disable_runs (h : s.rd R.RUN_STATE 0 = 2) (hen : s.runEn = true) :
    s.disable w = (s.wr R.RUN_EN 0 0).dropForecasts.stage w .enClear := by
  rw [State.disable, if_neg (by omega), if_pos ⟨h, hen⟩]

theorem disable_idle (h : s.rd R.RUN_STATE 0 = 0 ∨ s.rd R.RUN_STATE 0 = 3 ∨ (s.rd R.RUN_STATE 0 = 2 ∧ s.runEn = false)) :
    s.disable w = s := by
  rw [State.disable, if_neg (by omega), if_neg ?_]
  rintro ⟨h2, hen⟩
  rcases h with h | h | ⟨-, h⟩
  · omega
  · omega
  · simp [h] at hen

/-- No fold keeps a valid forecast, and no rail an upper one. -/
theorem dropForecasts_drops (s : State) : (∀ f < 64, s.dropForecasts.bit R.BW_FOLD_STAT_VALID f = false)
    ∧ ∀ r < 14, s.dropForecasts.rd R.BW_RAIL_FCAST_MAX r = 0 := by
  constructor
  · intro f hf
    have hlast : Frame (.regs [R.BW_FOLD_FCAST0_H1, R.BW_FOLD_FCAST0_H2, R.BW_FOLD_FCAST1_H3, R.BW_FOLD_FCAST1_H4,
        R.BW_FOLD_FCAST2_H5, R.BW_FOLD_FCAST2_H6, R.BW_FOLD_FCAST3_H7, R.BW_FOLD_FCAST3_H8, R.BW_RAIL_FCAST_MAX, H.BW_FRAIL,
        H.BW_RISE]) (s.clearFld R.BW_FOLD_STAT_VALID) s.dropForecasts := (Frame.refl _).clearFlds
    rw [hlast.bit (by decide), State.bit, rd_clearFld s (by decide) hf]
    rfl
  · intro r hr
    have hlast : Frame (.regs [H.BW_FRAIL, H.BW_RISE]) ((s.clearFlds [R.BW_FOLD_STAT_VALID, R.BW_FOLD_FCAST0_H1, R.BW_FOLD_FCAST0_H2,
        R.BW_FOLD_FCAST1_H3, R.BW_FOLD_FCAST1_H4, R.BW_FOLD_FCAST2_H5, R.BW_FOLD_FCAST2_H6, R.BW_FOLD_FCAST3_H7,
        R.BW_FOLD_FCAST3_H8]).clearFld R.BW_RAIL_FCAST_MAX) s.dropForecasts :=
      (Frame.refl _).clearFlds (fs := [H.BW_FRAIL, H.BW_RISE])
    rw [hlast.rd (by decide), rd_clearFld _ (by decide) hr]
    rfl

end

/-! ## The clauses -/

theorem enSet_starts : ∀ (s : State) (w : WCtx) (keep src : Bool) (ring : Nat), Writable s w R.RUN_EN 0 →
    (s.rd R.RUN_STATE 0 = 0 ∨ s.rd R.RUN_STATE 0 = 3) → s.stageA = none →
    Completes (.enSet w keep src ring) s fun t =>
      t.rd R.RUN_STATE 0 = 1 ∧ t.runEn = true ∧ t.bit R.RUN_KEEP_PROFILE 0 = keep ∧ t.bit R.RUN_SRC 0 = src
        ∧ t.rd R.RUN_RING 0 = ring % 64 ∧ t.bit H.TOP_LOAD_SRC 0 = src ∧ t.rd H.TOP_LOAD_RING 0 = ring % 64
        ∧ t.rd R.REFUSE_CODE 0 = 0 ∧ t.rd R.FRAME_STAT_DEFER_CNT 0 = 0 ∧ t.map.stream = [] ∧ t.map.shadow = none
        ∧ t.resp = .ok ∧ SameStore s t := by
  intro s w keep src ring hw hst ha
  have hc := checked_frame s keep src ring
  have ha' : (s.runWord keep src ring).checking.stageA = none :=
    (stageA_congr hc.ident (hc.rd (by decide +kernel) 0) (hc.rd (by decide +kernel))).trans ha
  obtain ⟨hkeep, hsrc, hring⟩ := runWord_says s keep src ring
  obtain ⟨hstate, hen, hdefer⟩ := checking_says (s.runWord keep src ring)
  have hch := checking_frame (s.runWord keep src ring)
  have hl := loaderSet_frame (s.runWord keep src ring).checking
  obtain ⟨hlsrc, hlring, hcode, hstream, hshadow, -, -⟩ := loaderSet_says (s.runWord keep src ring).checking
  rw [hch.bit (by decide +kernel), hsrc] at hlsrc
  rw [hch.rd (by decide +kernel), hring] at hlring
  rw [← hch.bit (by decide +kernel)] at hkeep hsrc
  rw [← hch.rd (by decide +kernel)] at hring
  have hexec : exec (.enSet w keep src ring) s = ((s.runWord keep src ring).checking.loaderSet.answer .ok).go := by
    rw [exec_enSet_stopped hw hst, startLoader_passed ha']
  generalize (s.runWord keep src ring).checking = u at *
  generalize u.loaderSet = v at *
  refine .of_go (t := v.answer .ok) hexec ⟨?_, ?_, ?_, ?_, ?_, hlsrc, hlring, hcode, ?_, hstream, hshadow, rfl,
    .of_store (hl.store.trans hc.store)⟩
  · rw [State.rd_answer, hl.rd (by decide), hstate]
  · rw [State.runEn, State.bit_answer, hl.bit (by decide)]
    exact hen
  · rw [State.bit_answer, hl.bit (by decide), hkeep]
  · rw [State.bit_answer, hl.bit (by decide), hsrc]
  · rw [State.rd_answer, hl.rd (by decide), hring]
  · rw [State.rd_answer, hl.rd (by decide), hdefer]

theorem enSet_refused : ∀ (s : State) (w : WCtx) (keep src : Bool) (ring : Nat) (r : Refuse), Writable s w R.RUN_EN 0 →
    s.rd R.RUN_STATE 0 = 0 → s.rd R.RUN_LIVE 0 = 0 → s.stageA = some r → s.bit R.STATUS_SAFE_GOV 0 = false →
    s.atMapStep = false →
    Completes (.enSet w keep src ring) s fun t =>
      t.rd R.RUN_STATE 0 = 3 ∧ t.runEn = false ∧ t.rd R.REFUSE_CODE 0 = r.code % 256 ∧ t.rd R.REFUSE_WHERE 0 = r.loc % 2 ^ 24 := by
  intro s w keep src ring r hw hst hlive ha hgov hstep
  have hc := checked_frame s keep src ring
  have ha' : (s.runWord keep src ring).checking.stageA = some r :=
    (stageA_congr hc.ident (hc.rd (by decide +kernel) 0) (hc.rd (by decide +kernel))).trans ha
  have hexec : exec (.enSet w keep src ring) s = (((s.runWord keep src ring).checking.loaderSet.refuseMap r).answer .ok).go := by
    rw [exec_enSet_stopped hw (.inl hst), startLoader_refused ha']
  have hl := loaderSet_frame (s.runWord keep src ring).checking
  generalize (s.runWord keep src ring).checking = u at *
  generalize u.loaderSet = v at *
  have hstep' : v.atMapStep = false := by
    rw [State.atMapStep, hl.bit (by decide), hl.rd (by decide), hc.bit (by decide +kernel), hc.rd (by decide +kernel)]
    exact hstep
  obtain ⟨hstate, hen, hcode, hloc, -, -⟩ := refuseMap_first_says
    (((hl.rd (by decide) 0).trans (hc.rd (by decide +kernel) 0)).trans hlive)
    (((hl.bit (by decide) 0).trans (hc.bit (by decide +kernel) 0)).trans hgov) hstep' r
  generalize v.refuseMap r = x at *
  exact .of_go (t := x.answer .ok) hexec ⟨hstate, hen, hcode, hloc⟩

theorem enClear_stops : ∀ (s : State) (w : WCtx), Writable s w R.RUN_EN 0 → s.rd R.RUN_STATE 0 = 2 → s.runEn = true →
    Completes (.enClear w) s fun t =>
      t.runEn = false ∧ t.rd R.RUN_STATE 0 = 2 ∧ t.resp = .ok
        ∧ t.staged = s.staged ++ [(⟨if 192 ≤ w.cyc then 1 else 0, .enClear⟩ : Staged)]
        ∧ (∀ f < 64, t.bit R.BW_FOLD_STAT_VALID f = false) ∧ (∀ r < 14, t.rd R.BW_RAIL_FCAST_MAX r = 0)
        ∧ OnlyKinds [R.RUN_EN, R.FRAME_STAT_DEFER_CNT, R.BW_FOLD_STAT_VALID, R.BW_FOLD_FCAST0_H1, R.BW_FOLD_FCAST0_H2,
            R.BW_FOLD_FCAST1_H3, R.BW_FOLD_FCAST1_H4, R.BW_FOLD_FCAST2_H5, R.BW_FOLD_FCAST2_H6, R.BW_FOLD_FCAST3_H7,
            R.BW_FOLD_FCAST3_H8, R.BW_RAIL_FCAST_MAX, H.BW_FRAIL, H.BW_RISE] s t
        ∧ OnlyStaged s t := by
  intro s w hw hst hen
  have hdrop : Frame (.regs [R.RUN_EN, R.BW_FOLD_STAT_VALID, R.BW_FOLD_FCAST0_H1, R.BW_FOLD_FCAST0_H2, R.BW_FOLD_FCAST1_H3,
      R.BW_FOLD_FCAST1_H4, R.BW_FOLD_FCAST2_H5, R.BW_FOLD_FCAST2_H6, R.BW_FOLD_FCAST3_H7, R.BW_FOLD_FCAST3_H8,
      R.BW_RAIL_FCAST_MAX, H.BW_FRAIL, H.BW_RISE]) s (s.wr R.RUN_EN 0 0).dropForecasts := (Frame.refl s).wr.dropForecasts
  have hdrop' : Frame Frame.dropForecastsReach (s.wr R.RUN_EN 0 0) (s.wr R.RUN_EN 0 0).dropForecasts := (Frame.refl _).dropForecasts
  obtain ⟨hstaged, hkinds, honly⟩ := stage_after hdrop w .enClear
  obtain ⟨-, -, -, hlast, -⟩ := (s.wr R.RUN_EN 0 0).dropForecasts.stages_stage w .enClear
  obtain ⟨hvalid, hmax⟩ := dropForecasts_drops (s.wr R.RUN_EN 0 0)
  refine .of_go (t := ((s.wr R.RUN_EN 0 0).dropForecasts.stage w .enClear).answer .ok) (by rw [exec_enClear hw, disable_runs hst hen])
    ⟨?_, ?_, rfl, hstaged, fun f hf => ?_, fun r hr => ?_, hkinds.mono (by simp), honly⟩
  · rw [State.runEn, hlast.bit (by decide), hdrop'.bit (by decide), State.bit_wr_below Nat.zero_lt_one _ _ (by decide) le_rfl rfl,
      if_pos rfl]
    rfl
  · exact (hkinds R.RUN_STATE 0 (by decide)).trans hst
  · exact (hlast.bit (by decide) f).trans (hvalid f hf)
  · exact (hlast R.BW_RAIL_FCAST_MAX r (by decide)).trans (hmax r hr)

/-- A live reload that is accepted, before its loader starts. -/
def State.reloadAccepted (s : State) (w : WCtx) : State := (s.mirrorOut w (.write 0x100004 s.runMirror)).reloading

theorem reloadAccepted_frame (s : State) (w : WCtx) : Frame (.regsOut [H.TOP_COMMIT_AT, H.TOP_PEER_PASS, H.TOP_OWN_AGE,
    H.TOP_REL_REFUSED, R.RUN_LIVE, H.TOP_RUN_HOLD]) s (s.reloadAccepted w) :=
  ((mirrorOut_frame s w _).mono (by decide)).trans ((reloading_frame _).mono (by decide))

theorem reloadAccepted_live (s : State) (w : WCtx) : (s.reloadAccepted w).rd R.RUN_LIVE 0 = 1 := by
  rw [State.reloadAccepted, State.reloading]
  simp (disch := decide) only [State.rd_wrB_apart, State.rd_wr_zero, if_true]
  rfl

theorem exec_reload_begins {s : State} {w : WCtx} {keep src : Bool} {ring : Nat} (hw : Writable s w R.RUN_RELOAD 0)
    (hr : s.running = true) (hlive : s.rd R.RUN_LIVE 0 = 0) (hpend : s.bit R.PROFILE_PENDING 0 = false) (ha : s.stageA = none) :
    exec (.reload w keep src ring) s = (((s.runWord keep src ring).reloadAccepted w).loaderSet.answer .ok).go := by
  have hb : (s.runWord keep src ring).reloadBusy = false := by
    rw [runWord_busy, State.reloadBusy, hlive, hpend]
    rfl
  have hword := runWord_frame s keep src ring
  have hacc := reloadAccepted_frame (s.runWord keep src ring) w
  have ha' : ((s.runWord keep src ring).reloadAccepted w).stageA = none :=
    (stageA_congr (hacc.ident.trans hword.ident) ((hacc.rd (by decide) 0).trans (hword.rd (by decide) 0))
      fun r => (hacc.rd (by decide) r).trans (hword.rd (by decide) r)).trans ha
  rw [exec_reload_running hw hr, askReload_free hb]
  exact congrArg (fun v => (State.answer v .ok).go) (startLoader_passed ha')

theorem reload_begins : ∀ (s : State) (w : WCtx) (keep src : Bool) (ring : Nat), Writable s w R.RUN_RELOAD 0 → s.running = true →
    s.rd R.RUN_LIVE 0 = 0 → s.bit R.PROFILE_PENDING 0 = false → s.stageA = none →
    Completes (.reload w keep src ring) s fun t =>
      t.rd R.RUN_LIVE 0 = 1 ∧ t.rd R.RUN_STATE 0 = 2 ∧ t.bit H.TOP_LOAD_SRC 0 = src ∧ t.rd H.TOP_LOAD_RING 0 = ring % 64
        ∧ t.map.live = s.map.live ∧ t.map.recs = s.map.recs ∧ t.map.shadow = none ∧ t.resp = .ok ∧ SameStore s t := by
  intro s w keep src ring hw hr hlive hpend ha
  have hexec := exec_reload_begins (keep := keep) (src := src) (ring := ring) hw hr hlive hpend ha
  have hword := runWord_frame s keep src ring
  obtain ⟨-, hsrc, hring⟩ := runWord_says s keep src ring
  generalize s.runWord keep src ring = x at *
  have hacc := reloadAccepted_frame x w
  have hulive := reloadAccepted_live x w
  generalize x.reloadAccepted w = u at *
  have hl := loaderSet_frame u
  obtain ⟨hlsrc, hlring, -, -, hshadow, hlive', hrecs⟩ := loaderSet_says u
  generalize u.loaderSet = v at *
  refine .of_go (t := v.answer .ok) hexec ⟨?_, ?_, ?_, ?_, ?_, ?_, hshadow, rfl, .of_store (by rw [State.answer_store, hl.store, hacc.store, hword.store])⟩
  · rw [State.rd_answer, hl.rd (by decide), hulive]
  · rw [State.rd_answer, hl.rd (by decide), hacc.rd (by decide), hword.rd (by decide)]
    simpa only [State.running, beq_iff_eq] using hr
  · rw [State.bit_answer, hlsrc, hacc.bit (by decide), hsrc]
  · rw [State.rd_answer, hlring, hacc.rd (by decide), hring]
  · rw [State.answer_map, hlive', hacc.map, hword.map]
  · rw [State.answer_map, hrecs, hacc.map, hword.map]

theorem reload_whileBusy : ∀ (s : State) (w : WCtx) (keep src : Bool) (ring : Nat), Writable s w R.RUN_RELOAD 0 → s.running = true →
    s.reloadBusy = true →
    Completes (.reload w keep src ring) s fun t =>
      t.rd R.REFUSE_CODE 0 = refBusy ∧ t.rd R.RUN_LIVE 0 = s.rd R.RUN_LIVE 0 ∧ t.map = s.map := by
  intro s w keep src ring hw hr hb
  have hword := runWord_frame s keep src ring
  have hrec := recordRefusal_frame (s.runWord keep src ring) ⟨refBusy, 0xFFFFFE, none⟩
  exact .of_go (t := ((s.runWord keep src ring).recordRefusal ⟨refBusy, 0xFFFFFE, none⟩).answer .ok)
    (by rw [exec_reload_running hw hr, askReload_busy ((runWord_busy s keep src ring).trans hb)])
    ⟨(recordRefusal_says _ _).1, (hrec.rd (by decide +kernel) 0).trans (hword.rd (by decide) 0), hrec.map.trans hword.map⟩

theorem reload_whileStopped : ∀ (s : State) (w : WCtx) (keep src : Bool) (ring : Nat), Writable s w R.RUN_RELOAD 0 → s.running = false →
    s.right w.req R.RUN_RELOAD 0 = true →
    Completes (.reload w keep src ring) s fun t =>
      t.resp = .refused 3 ∧ t.rd R.FLT_REJECT_COUNT 0 = satAdd R.FLT_REJECT_COUNT.wid (s.rd R.FLT_REJECT_COUNT 0) 1
        ∧ t.rd R.RUN_LIVE 0 = s.rd R.RUN_LIVE 0 ∧ t.rd R.RUN_STATE 0 = s.rd R.RUN_STATE 0 ∧ t.map = s.map ∧ SameStore s t := by
  intro s w keep src ring hw hr _
  have hword := runWord_frame s keep src ring
  obtain ⟨hresp, hcount, -, -, -, hkinds, hregs⟩ := refuses_forbidden (s.runWord keep src ring) w (off := R.RUN_RELOAD.word 0) (by decide)
  refine .of_go (exec_reload_stopped hw hr) ⟨hresp, ?_, ?_, ?_, ?_, .of_store ?_⟩
  · rw [hcount, hword.rd (by decide)]
  · rw [hkinds R.RUN_LIVE 0 (by decide), hword.rd (by decide)]
  · rw [hkinds R.RUN_STATE 0 (by decide), hword.rd (by decide)]
  · rw [hregs]
    exact hword.map
  · rw [hregs]
    exact hword.store

theorem mapCheckDone_livePass : ∀ (s : State) (psc : PscAnswer) (m : MapImg), s.loading = true → s.judgeMap psc = some (.ok m) → s.rd R.RUN_LIVE 0 = 1 →
    Completes (.mapCheckDone psc) s fun t =>
      t.rd R.RUN_LIVE 0 = 2 ∧ t.map = { s.map with shadow := some m, stream := [], last := false }
        ∧ t.rd R.RUN_STATE 0 = s.rd R.RUN_STATE 0
        ∧ ((s.role = 2 ∨ s.role = 3) → .mirror ⟨true, s.frame + 1, .reloadPass⟩ ∈ t.out ∧ t.rd H.TOP_COMMIT_AT 0 = s.rd H.TOP_COMMIT_AT 0)
        ∧ (s.role ≠ 2 → s.role ≠ 3 → s.rd H.TOP_COMMIT_AT 0 = 0 → s.rd R.TWIN_STATUS_PEER_ROLE 0 ≠ 3 →
            t.rd H.TOP_COMMIT_AT 0 = (s.frame + 6) % 2 ^ 64) := by
  intro s psc m hl hj hlive
  have hp := shadowed_passed s m
  have hplive : (s.passed m).rd R.RUN_LIVE 0 = 2 := by
    have hlast : Frame (.regsOut [H.TOP_OWN_AGE]) ((s.shadowed m).wr R.RUN_LIVE 0 2) (s.passed m) :=
      (Frame.refl _).wr.when fun _ hu => hu.sendMirror
    rw [hlast.rd (by decide), State.rd_wr_zero _ _ (by decide) le_rfl, if_pos rfl]
    rfl
  have hrole : (s.passed m).role = s.role := passed_rd s m (by decide) (by decide) 0
  have ht : Frame (.regsOut [H.TOP_COMMIT_AT]) (s.passed m) ((s.passed m).tryName (s.frame + 5)) := (Frame.refl _).tryName
  refine .of_go (t := (s.passed m).tryName (s.frame + 5)) (by rw [exec_mapCheckDone_passed hl hj, admitMap_live m hlive])
    ⟨(ht.rd (by decide) 0).trans hplive, ht.map.trans hp.map,
      (ht.rd (by decide) 0).trans (passed_rd s m (by decide) (by decide) 0), fun hfollow => ?_, fun h2 h3 hat hpeer => ?_⟩
  · rw [tryName_follower _ (by rwa [hrole])]
    refine ⟨?_, passed_rd s m (by decide) (by decide) 0⟩
    rw [State.passed, show (s.role == 2 || s.role == 3) = true by simpa using hfollow, State.when_true, State.sendMirror,
      frame_congr (s := s) (by rw [State.rd_wr_apart _ (by decide), State.rd_wr_apart _ (by decide), rd_shadowed])]
    exact List.mem_cons_self
  · rw [tryName_names _ hplive ((passed_rd s m (by decide) (by decide) 0).trans hat) (by rwa [hrole]) (by rwa [hrole])
      (by rwa [passed_rd s m (by decide) (by decide)])]
    exact (nameCommit_says _ _).1

theorem mapCheckDone_leavesGovernor : ∀ (s : State) (psc : PscAnswer) (m : MapImg), s.loading = true → s.judgeMap psc = some (.ok m) → s.rd R.RUN_LIVE 0 ≠ 1 →
    s.bit R.STATUS_SAFE_GOV 0 = true →
    Completes (.mapCheckDone psc) s fun t =>
      t.bit R.STATUS_SAFE_GOV 0 = false ∧ t.rd R.BOOT_STEP 0 = 4 ∧ t.bit R.BOOT_FROM_RING 0 = true ∧ t.map.shadow = some m := by
  intro s psc m hl hj hlive hgov
  have hlast : Frame Frame.startHartReach (s.ungoverned m) ((List.range 4).foldl State.startHart (s.ungoverned m)) :=
    (Frame.refl _).foldl fun _ _ hu => hu.startHart
  have hstep : Frame (.regs [R.BOOT_STEP, R.BOOT_TIME_STEP_T]) ((List.range 4).foldl State.startHart (s.ungoverned m))
      (((List.range 4).foldl State.startHart (s.ungoverned m)).setStep 4) := (Frame.refl _).setStep
  refine .of_go (t := ((List.range 4).foldl State.startHart (s.ungoverned m)).setStep 4)
    (by rw [exec_mapCheckDone_passed hl hj, admitMap_governed m hlive hgov]) ⟨?_, ?_, ?_, ?_⟩
  · rw [hstep.bit (by decide), hlast.bit (by decide +kernel), State.ungoverned]
    simp (disch := decide) only [State.clearElems, List.foldl_cons, List.foldl_nil, State.bit_wr_apart,
      State.bit_wr_below Nat.zero_lt_one, if_true]
    rfl
  · rw [State.setStep, State.rd_wr_apart _ (by decide), State.rd_wr_zero _ _ (by decide) le_rfl, if_pos rfl]
    rfl
  · rw [hstep.bit (by decide), hlast.bit (by decide +kernel), State.ungoverned, State.bit_wr_below Nat.zero_lt_one _ _ (by decide) le_rfl rfl,
      if_pos rfl]
    rfl
  · rw [hstep.map, hlast.map]
    rfl


/-- Settles O48: enabling, the check of a map, its refusal, and live reloads. -/
theorem mapsAreEnabledCheckedAndReloaded : Obligations.MapsAreEnabledCheckedAndReloaded := by
  unfold Obligations.MapsAreEnabledCheckedAndReloaded
  refine ⟨?_, ?_, ?_, ?_, ?_, ?_, ?_, ?_, ?_, ?_, ?_, ?_, ?_, ?_, ?_, ?_, ?_, ?_, ?_⟩
  · exact enSet_starts
  · exact enSet_refused
  · exact enClear_stops
  · intro s w hw hst hlive hgov hstep
    obtain ⟨hstate, hen, hcode, -, hshadow, hstream⟩ := refuseMap_first_says hlive hgov hstep ⟨refAborted, 0xFFFFFE, none⟩
    exact .of_go (t := (s.refuseMap ⟨refAborted, 0xFFFFFE, none⟩).answer .ok) (by rw [exec_enClear hw, disable_checking hst])
      ⟨hstate, hen, hcode, hshadow, hstream⟩
  · exact reload_begins
  · exact reload_whileBusy
  · intro s psc m hl hj hlive hgov
    rw [exec_mapCheckDone_passed hl hj, admitMap_first m hlive hgov]
    rfl
  · intro s psc r hl hj hlive hgov hstep
    obtain ⟨hstate, hen, hcode, hloc, hshadow, -⟩ := refuseMap_first_says hlive hgov hstep r
    exact .of_go (exec_mapCheckDone_refused hl hj) ⟨hstate, hen, hcode, hloc, hshadow⟩
  · intro s hl hs hw hlive hgov hstep
    obtain ⟨hstate, -, hcode, -, -, hstream⟩ := refuseMap_first_says hlive hgov hstep ⟨refStalled, 0xFFFFFE, none⟩
    exact .of_go (exec_loaderStall hl hs hw) ⟨hstate, hcode, hstream⟩
  · intro s hh hl ha hage
    obtain ⟨hat, hmirror⟩ := nameCommit_says s (s.frame + 5)
    exact .of_go (exec_standbyReloadTimeout hh hl ha hage) ⟨hat, hmirror, (nameCommit_frame _ _).kinds, (nameCommit_frame _ _).onlyRegsOut⟩
  · intro s w keep src ring hw hst
    obtain ⟨hkeep, hsrc, hring⟩ := runWord_says s keep src ring
    have hall : Frame (.regsOut [R.RUN_KEEP_PROFILE, R.RUN_SRC, R.RUN_RING]) s ((s.runWord keep src ring).answer .ok) :=
      ((runWord_frame s keep src ring).mono (by decide)).answer
    exact .of_go (exec_enSet_running hw hst) ⟨hkeep, hsrc, hring, rfl, hall.kinds, hall.onlyRegsOut⟩
  · intro s w hw hst
    rw [exec_enClear hw, disable_idle hst]
    rfl
  · exact reload_whileStopped
  · exact fun s psc h => exec_mapCheckDone_idle h
  · exact mapCheckDone_livePass
  · intro s psc r hl hj hlive
    exact .of_go (exec_mapCheckDone_refused hl hj) (refuseMap_live_says (by omega) r)
  · exact mapCheckDone_leavesGovernor
  · exact fun s h => exec_loaderStall_idle h
  · exact fun s h => exec_standbyReloadTimeout_idle h

end Sys2Proof.Machine
end

section
/-! Phases fenced, derated and tripped; a rail shut down at SG-2 (R239, R240, R244, R246, R249, R253–R255, R621). -/

set_option Elab.async false

namespace Sys2Proof.Machine

section
variable {s : State} {p r : Nat}

theorem lt_of_allocated (h : s.allocated p = true) : p < 128 := by
  simp only [State.allocated, Bool.and_eq_true, decide_eq_true_eq] at h
  exact h.1

/-! ## Duties -/

/-- Only pulsing phases take a new duty. -/
theorem refreshDuty_other (h : s.pulsing p = false) (r : Nat) : (s.refreshDuty r).rd R.PD_PH_DUTY_DUTY p = s.rd R.PD_PH_DUTY_DUTY p := by
  refine rd_foldl_of_notMem (fun u x hx => State.rd_wr_idx u hx (by decide) _) (fun hm => ?_) s
  rw [(List.mem_filter.1 hm).2] at h
  cases h

theorem pulsing_of_ph (h : s.ph p = 5) : s.pulsing p = false := by rw [State.pulsing, h]; rfl

theorem toAdding_duty (s : State) (x : Nat) : (s.toAdding x).rd R.PD_PH_DUTY_DUTY p = s.rd R.PD_PH_DUTY_DUTY p :=
  (show Frame Frame.toAddingReach s (s.toAdding x) from (Frame.refl s).toAdding).rd (by decide) p

/-- An add leaves the duty of a FENCED phase. -/
theorem addFallow_duty (h : s.ph p = 5) (r k : Nat) : (s.addFallow r k).rd R.PD_PH_DUTY_DUTY p = s.rd R.PD_PH_DUTY_DUTY p := by
  have hrest (u : State) : Frame (Frame.rerankReach.and (Frame.endSkipReach.and (.regs [H.PD_DWELL_CNT])))
      u (((u.wr H.PD_DWELL_CNT r 0).endSkip r).rerank r) := (Frame.refl u).wr.endSkip.rerank
  have hno : p ∉ (s.inState r 3).take k := fun hm => by
    have h3 := beq_iff_eq.1 (List.mem_filter.1 (List.mem_of_mem_take hm)).2
    rw [h] at h3
    cases h3
  have hadds : Frame Frame.toAddingReach s (((s.inState r 3).take k).foldl State.toAdding s) := (Frame.refl s).foldl fun _ _ hu => hu.toAdding
  have hph : (((s.inState r 3).take k).foldl State.toAdding s).rd R.PD_PH_STAT_STATE p = s.rd R.PD_PH_STAT_STATE p :=
    rd_foldl_of_notMem (fun u x hx => toAdding_other hx u) hno s
  rw [State.addFallow]
  split
  · rfl
  · rw [refreshDuty_other (pulsing_of_ph (by rw [State.ph, (hrest _).rd (by decide), hph]; exact h)), (hrest _).rd (by decide),
      hadds.rd (by decide)]

theorem addPhases_duty (h : s.ph p = 5) (r k : Nat) : (s.addPhases r k).rd R.PD_PH_DUTY_DUTY p = s.rd R.PD_PH_DUTY_DUTY p := by
  have hd := dropShed_frame s r
  rw [State.addPhases, addFallow_duty (by rw [State.ph, hd.rd (by decide)]; exact h), hd.rd (by decide)]

theorem fenceMarks_duty (hp : p < 128) (cause : Nat) : (s.fenceMarks p cause).rd R.PD_PH_DUTY_DUTY p = 0 := by
  have hlast : Frame (Frame.pwmReach.and (Frame.rerankReach.and (.regs [H.PD_RET_ACT, H.PD_SHED_STEP, H.PD_DEVC, H.PD_INVC,
      H.PD_CLAMPC, H.PD_SCRUN, H.PD_SC_THIS, H.PD_OFF_DUE, H.PD_NEWFAIL, H.PD_SHED_PEND])))
      (((s.wr R.PD_PH_STAT_STATE p 5).wr R.PD_PH_STAT_CAUSE p cause).wr R.PD_PH_DUTY_DUTY p 0) (s.fenceMarks p cause) :=
    ((Frame.refl _).pwm.clearElems.wr.when fun _ hu => hu.wr).rerank
  rw [hlast.rd (by decide +kernel), State.rd_wr_below hp _ _ (by decide) le_rfl, if_pos rfl, Nat.zero_mod]

/-- A fenced phase has no duty. -/
theorem fencePhase_duty (hp : p < 128) (s : State) (cause : Nat) : (s.fencePhase p cause).rd R.PD_PH_DUTY_DUTY p = 0 := by
  rw [fencePhase_eq, (fault_frame _ _ _ _).rd (by decide +kernel), State.fenceBody]
  split
  · rw [addPhases_duty (fenceMarks_ph hp), fenceMarks_duty hp]
  · rw [refreshDuty_other (pulsing_of_ph (fenceMarks_ph hp)), fenceMarks_duty hp]

theorem fencePhase_onlyFault (s : State) (p cause : Nat) : OnlyFault s (s.fencePhase p cause) :=
  (show Frame (.fault Frame.fencePhaseReach.flds) s (s.fencePhase p cause) from (Frame.refl s).fencePhase).onlyFault

theorem fencePhase_queuesOn (s : State) (p cause : Nat) : QueuesOn s (s.fencePhase p cause) :=
  (fenceBody_frame s p cause).queuesOn.trans (fault_queuesOn _ _ _ _ _)

/-! ## The verdicts that are due -/

/-- A failure to conduct is due: by a judgement, or still from a rail that went off. -/
theorem fenceDue_conduct (s : State) (p : Nat) : bitOf (s.rd H.PD_OFF_DUE p ||| s.fenceDue p) 0
    = (decide (s.rd H.PD_OFF_DUE p % 2 = 1) || (s.pulsing p && decide (s.judgeN (s.rd R.PD_PH_STAT_RAIL p) ≤ s.rd H.PD_DEVC p))) := by
  rw [bitOf, Nat.testBit_or, Nat.testBit_zero, Nat.testBit_zero, State.fenceDue]
  congr 1
  cases s.pulsing p with
  | false => rfl
  | true =>
    rw [if_pos rfl, Bool.true_and]
    cases decide (s.judgeN (s.rd R.PD_PH_STAT_RAIL p) ≤ s.rd H.PD_DEVC p) <;> cases decide (16 ≤ s.rd H.PD_SCRUN p) <;> rfl

/-- A repeated short circuit is due. -/
theorem fenceDue_repeat (s : State) (p : Nat) : bitOf (s.rd H.PD_OFF_DUE p ||| s.fenceDue p) 1
    = (decide (2 ≤ s.rd H.PD_OFF_DUE p) || (s.pulsing p && decide (16 ≤ s.rd H.PD_SCRUN p))) := by
  have hlt : s.rd H.PD_OFF_DUE p < 4 := State.rd_lt s H.PD_OFF_DUE p
  have hbit : ∀ v < 4, v.testBit 1 = decide (2 ≤ v) := by decide
  rw [bitOf, Nat.testBit_or, hbit _ hlt, State.fenceDue]
  congr 1
  cases s.pulsing p with
  | false => exact Nat.zero_testBit 1
  | true =>
    rw [if_pos rfl, Bool.true_and]
    cases decide (s.judgeN (s.rd R.PD_PH_STAT_RAIL p) ≤ s.rd H.PD_DEVC p) <;> cases decide (16 ≤ s.rd H.PD_SCRUN p) <;> rfl

theorem exec_phaseFenceVerdict (ha : s.allocated p = true) (h : s.rd H.PD_OFF_DUE p % 2 = 1
    ∨ (s.pulsing p = true ∧ s.judgeN (s.rd R.PD_PH_STAT_RAIL p) ≤ s.rd H.PD_DEVC p)) :
    exec (.phaseFenceVerdict p) s = (s.fencePhase p 1).go := by
  change execPhaseFenceVerdict _ _ = _
  rw [execPhaseFenceVerdict, fenceDue_conduct, ha, if_pos (by rcases h with h | ⟨h, h'⟩ <;> simp [*])]

theorem exec_phaseFenceVerdict_none (hoff : s.rd H.PD_OFF_DUE p % 2 = 0)
    (h : s.pulsing p = false ∨ s.rd H.PD_DEVC p < s.judgeN (s.rd R.PD_PH_STAT_RAIL p)) : exec (.phaseFenceVerdict p) s = .next s := by
  change execPhaseFenceVerdict _ _ = _
  rw [execPhaseFenceVerdict, fenceDue_conduct, if_neg ?_]
  · rfl
  · rcases h with h | h
    · simp [hoff, h]
    · simp [hoff, Nat.not_le.2 h]

theorem exec_scRepeatFence (ha : s.allocated p = true) (hp : s.pulsing p = true) (h : 16 ≤ s.rd H.PD_SCRUN p) :
    exec (.scRepeatFence p) s = ((s.tally 2 3 1 p (s.rd R.PD_PH_CTRL_SC_TOTAL p)).fencePhase p 2).go := by
  change execScRepeatFence _ _ = _
  rw [execScRepeatFence, fenceDue_repeat, ha, hp, decide_eq_true h]
  simp

theorem exec_scRepeatFence_none (hoff : s.rd H.PD_OFF_DUE p < 2) (h : s.pulsing p = false ∨ s.rd H.PD_SCRUN p < 16) :
    exec (.scRepeatFence p) s = .next s := by
  change execScRepeatFence _ _ = _
  rw [execScRepeatFence, fenceDue_repeat, if_neg ?_]
  · rfl
  · rcases h with h | h
    · simp [Nat.not_le.2 hoff, h]
    · simp [Nat.not_le.2 hoff, Nat.not_le.2 h]

/-! ## A derate -/

/-- A derated phase, before its fault. -/
def State.derated (s : State) (p : Nat) : State :=
  (((((s.wr R.PD_PH_STAT_DERATED p 1).wr R.PD_PH_DUTY_SHARE p 0).wrS R.PD_PH_CURRENT_USED p
    (match s.ibar p with
      | some (a, n) => openDivI a n
      | none => s.used p)).wr H.PD_NEWFAIL (s.rd R.PD_PH_STAT_RAIL p) 1).clearElems
    [H.PD_DEVC, H.PD_INVC, H.PD_CLAMPC] p).refreshDuty (s.rd R.PD_PH_STAT_RAIL p)

theorem deratePhase_eq (s : State) (p : Nat) : s.deratePhase p = (s.derated p).fault 0x01 p 1 := rfl

theorem derated_last (s : State) (p : Nat) : Frame (.regs [R.PD_PH_CURRENT_USED, H.PD_NEWFAIL, H.PD_DEVC, H.PD_INVC, H.PD_CLAMPC,
    R.PD_PH_DUTY_DUTY]) ((s.wr R.PD_PH_STAT_DERATED p 1).wr R.PD_PH_DUTY_SHARE p 0) (s.derated p) :=
  (Frame.refl _).wrS.wr.clearElems.refreshDuty

theorem derated_frame (s : State) (p : Nat) : Frame (.regs [R.PD_PH_STAT_DERATED, R.PD_PH_DUTY_SHARE, R.PD_PH_CURRENT_USED,
    H.PD_NEWFAIL, H.PD_DEVC, H.PD_INVC, H.PD_CLAMPC, R.PD_PH_DUTY_DUTY]) s (s.derated p) :=
  (Frame.refl s).wr.wr.wrS.wr.clearElems.refreshDuty

theorem deratePhase_says (hp : p < 128) (s : State) : (s.deratePhase p).bit R.PD_PH_STAT_DERATED p = true
    ∧ (s.deratePhase p).rd R.PD_PH_DUTY_SHARE p = 0 ∧ (s.deratePhase p).ph p = s.ph p := by
  have hf := fault_frame (s.derated p) 0x01 p 1
  rw [deratePhase_eq, State.ph, hf.bit (by decide +kernel), hf.rd (by decide +kernel), hf.rd (by decide +kernel),
    (derated_last s p).bit (by decide), (derated_last s p).rd (by decide), (derated_frame s p).rd (by decide)]
  simp (disch := decide) only [State.bit_wr_apart, State.bit_wr_below hp, State.rd_wr_below hp, if_true]
  exact ⟨rfl, Nat.zero_mod _, rfl⟩

theorem deratePhase_raised (hsrc : srcPresent s.zk4 (0x100 + p) = true) : Raised (0x100 + p) 1 s (s.deratePhase p) :=
  Raised.after (derated_frame s p).kinds (by decide) (State.fault_raised _ rfl (by rwa [State.zk4, (derated_frame s p).ident]) (by decide))

theorem exec_phaseDerate (hpulse : s.pulsing p = true) (ha : s.allocated p = true) (hd : s.bit R.PD_PH_STAT_DERATED p = false)
    (hdev : s.rd H.PD_DEVC p < s.judgeN (s.rd R.PD_PH_STAT_RAIL p)) (h : s.judgeN (s.rd R.PD_PH_STAT_RAIL p) ≤ s.rd H.PD_INVC p
      ∨ s.judgeN (s.rd R.PD_PH_STAT_RAIL p) ≤ s.rd H.PD_CLAMPC p) : exec (.phaseDerate p) s = (s.deratePhase p).go := by
  change execPhaseDerate _ _ = _
  rw [execPhaseDerate]
  dsimp only
  rw [if_pos (by simp [ha, hpulse, hd, hdev, h])]

theorem exec_phaseDerate_none (h : s.pulsing p = false ∨ s.bit R.PD_PH_STAT_DERATED p = true
      ∨ s.judgeN (s.rd R.PD_PH_STAT_RAIL p) ≤ s.rd H.PD_DEVC p
      ∨ (s.rd H.PD_INVC p < s.judgeN (s.rd R.PD_PH_STAT_RAIL p) ∧ s.rd H.PD_CLAMPC p < s.judgeN (s.rd R.PD_PH_STAT_RAIL p))) :
    exec (.phaseDerate p) s = .next s := by
  change execPhaseDerate _ _ = _
  rw [execPhaseDerate]
  dsimp only
  rw [if_neg ?_]
  · rfl
  · rcases h with h | h | h | ⟨h, h'⟩
    · simp [h]
    · simp [h]
    · simp [Nat.not_lt.2 h]
    · simp [Nat.not_le.2 h, Nat.not_le.2 h']

/-! ## SG-2 -/

/-- A rail shut down, before its fault. -/
def State.shutDown (s : State) (r : Nat) : State :=
  ((s.railOff r).wr R.PD_RAIL_STAT_OFF_LATCH r 1).tally 0 3 1 r
    (65536 * s.rd R.PD_RAIL_VREF_VREF r + min 65535 (openDiv (s.rd H.PD_VSENSE r * 125) 512))

theorem exec_sg2Shutdown (h : 32 ≤ s.rd H.PD_SG2 r) (hon : s.railOn r = true) :
    exec (.sg2Shutdown r) s = ((s.shutDown r).fault 0x02 r 2).go := by
  change execSg2Shutdown _ _ = _
  rw [execSg2Shutdown, if_pos ⟨h, hon⟩]
  rfl

theorem exec_sg2Shutdown_none (h : s.rd H.PD_SG2 r < 32 ∨ s.railOn r = false) : exec (.sg2Shutdown r) s = .next s := by
  change execSg2Shutdown _ _ = _
  rw [execSg2Shutdown, if_neg (by rcases h with h | h <;> simp [*])]
  rfl

/-- After its rail went off, what a shutdown still does. -/
theorem shutDown_last (s : State) (r : Nat) : Frame (.fault (R.PD_RAIL_STAT_OFF_LATCH :: faultFields)) (s.railOff r)
    ((s.shutDown r).fault 0x02 r 2) := (Frame.refl _).wr.tally.fault

theorem shutDown_frame (s : State) (r : Nat) : Frame (Frame.railOffReach.and (Frame.tallyReach.and (.regs [R.PD_RAIL_STAT_OFF_LATCH]))) s
    (s.shutDown r) := (Frame.refl s).railOff.wr.tally

/-- The rail of a phase that could be on is one of the fourteen. -/
theorem railOff_stands {s : State} {p : Nat} (hp : p ∈ s.phasesOf r) : (s.railOff r).ph p = 0 ∨ (s.railOff r).ph p = 5
    ∨ (s.railOff r).ph p = 7 := by
  rw [ph_railOff (mem_phasesOf_lt hp)]
  split
  · exact .inl rfl
  · next h =>
    refine .inr ?_
    by_contra hc
    rw [not_or] at hc
    exact h (List.mem_filter.2 ⟨hp, by simp [hc]⟩)

/-! ## The short-circuit comparator -/

/-- A trip that drives the phase low, counted. -/
def State.tripped (s : State) (p : Nat) : State := ((s.inc H.PD_SC_CNT p 1).inc R.PD_PH_CTRL_SC_TOTAL p 1).pwm p .low 0 0

theorem exec_shortCircuitTrip (h : s.scArmed p = true) (hthis : s.bit H.PD_SC_THIS p = false) : exec (.shortCircuitTrip p) s
    = (((s.tripped p).wr H.PD_SC_THIS p 1).wr H.PD_SCRUN p (min 31 (s.rd H.PD_SCRUN p + 1))).go := by
  change execShortCircuitTrip _ _ = _
  rw [execShortCircuitTrip, if_pos h]
  dsimp only
  rw [hthis]
  rfl

theorem exec_shortCircuitTrip_again (h : s.scArmed p = true) (hthis : s.bit H.PD_SC_THIS p = true) :
    exec (.shortCircuitTrip p) s = (s.tripped p).go := by
  change execShortCircuitTrip _ _ = _
  rw [execShortCircuitTrip, if_pos h]
  dsimp only
  rw [hthis]
  rfl

theorem exec_shortCircuitTrip_unarmed (h : s.scArmed p = false) : exec (.shortCircuitTrip p) s = .next s := by
  change execShortCircuitTrip _ _ = _
  rw [execShortCircuitTrip, h]
  rfl

theorem tripped_counts (hp : p < 128) (s : State) : (s.tripped p).rd H.PD_SC_CNT p = min 255 (s.rd H.PD_SC_CNT p + 1)
    ∧ (s.tripped p).rd R.PD_PH_CTRL_SC_TOTAL p = satAdd R.PD_PH_CTRL_SC_TOTAL.wid (s.rd R.PD_PH_CTRL_SC_TOTAL p) 1 := by
  have hpwm := pwm_frame ((s.inc H.PD_SC_CNT p 1).inc R.PD_PH_CTRL_SC_TOTAL p 1) p .low 0 0
  rw [State.tripped, hpwm.rd rfl, hpwm.rd rfl, State.rd_inc_apart _ (by decide), State.rd_inc_below hp _ _ (by decide) le_rfl, if_pos rfl,
    State.rd_inc_below hp _ _ (by decide) le_rfl, if_pos rfl, State.rd_inc_apart _ (by decide)]
  exact ⟨rfl, rfl⟩

theorem tripped_out (s : State) (p : Nat) : (s.tripped p).out
    = if s.bit R.PD_STATUS_DRIVING 0 then .pwm p .low 0 0 :: s.out else s.out := by
  have hd : ((s.inc H.PD_SC_CNT p 1).inc R.PD_PH_CTRL_SC_TOTAL p 1).bit R.PD_STATUS_DRIVING 0 = s.bit R.PD_STATUS_DRIVING 0 := by
    rw [State.bit_inc_apart _ (by decide), State.bit_inc_apart _ (by decide)]
  rw [State.tripped, State.pwm, hd]
  split <;> rfl

theorem tripped_frame (s : State) (p : Nat) : Frame (.regsOut [H.PD_SC_CNT, R.PD_PH_CTRL_SC_TOTAL]) s (s.tripped p) :=
  (Frame.refl s).inc.inc.pwm

end

/-- Settles O22: fences, derates, trips and the SG-2 shutdown. -/
theorem phasesAreFencedDeratedAndShutDown : Obligations.PhasesAreFencedDeratedAndShutDown := by
  unfold Obligations.PhasesAreFencedDeratedAndShutDown
  refine ⟨?_, ?_, ?_, ?_, ?_, ?_, ?_, ?_, ?_, ?_, ?_, ?_, ?_, ?_⟩
  · intro s p ha hpulse hsrc hdev
    have hp := lt_of_allocated ha
    exact .of_go (exec_phaseFenceVerdict ha (.inr ⟨hpulse, hdev⟩)) ⟨fencePhase_ph hp s 1, fencePhase_cause hp (by decide) s,
      fencePhase_duty hp s 1, fencePhase_raised hsrc 1, fencePhase_onlyFault s p 1⟩
  · intro s p ha hpulse hsrc hrun
    have hp := lt_of_allocated ha
    have ht : Frame Frame.tallyReach s (s.tally 2 3 1 p (s.rd R.PD_PH_CTRL_SC_TOTAL p)) := (Frame.refl s).tally
    have hall : Frame (.fault (Frame.fencePhaseReach.flds ++ Frame.tallyReach.flds)) s
        ((s.tally 2 3 1 p (s.rd R.PD_PH_CTRL_SC_TOTAL p)).fencePhase p 2) := (Frame.refl s).tally.fencePhase
    exact .of_go (exec_scRepeatFence ha hpulse hrun) ⟨fencePhase_ph hp _ 2, fencePhase_cause hp (by decide) _,
      Raised.after ht.kinds (by decide) (fencePhase_raised (by rwa [State.zk4, ht.ident]) 2), hall.onlyFault⟩
  · intro s p ha hph hd hsrc hdev h
    have hp := lt_of_allocated ha
    have hpulse : s.pulsing p = true := by
      rw [State.pulsing, hph]
      rfl
    obtain ⟨hder, hshare, hstate⟩ := deratePhase_says hp s
    exact .of_go (exec_phaseDerate hpulse ha hd hdev h) ⟨hder, hshare, hstate.trans hph, deratePhase_raised hsrc,
      (show Frame (.fault Frame.deratePhaseReach.flds) s (s.deratePhase p) from (Frame.refl s).deratePhase).onlyFault⟩
  · intro s r hsrc hr h32 hon
    have hl := shutDown_last s r
    have hf := shutDown_frame s r
    have hoff := fault_frame (s.shutDown r) 0x02 r 2
    have hlatch : Frame Frame.tallyReach ((s.railOff r).wr R.PD_RAIL_STAT_OFF_LATCH r 1) (s.shutDown r) := (Frame.refl _).tally
    have hph (p : Nat) : ((s.shutDown r).fault 0x02 r 2).ph p = (s.railOff r).ph p := hl.rd (by decide +kernel) p
    have hphases : ((s.shutDown r).fault 0x02 r 2).phasesOf r = s.phasesOf r :=
      (phasesOf_congr (hl.rd (by decide +kernel)) r).trans (phasesOf_congr ((railOff_frame s r).rd (by decide +kernel)) r)
    have hstands (p : Nat) (hp : p ∈ s.phasesOf r) : ((s.shutDown r).fault 0x02 r 2).ph p = 0
        ∨ ((s.shutDown r).fault 0x02 r 2).ph p = 5 ∨ ((s.shutDown r).fault 0x02 r 2).ph p = 7 := by
      rw [hph]
      exact railOff_stands hp
    have hall : Frame (.fault (R.PD_RAIL_STAT_OFF_LATCH :: faultFields ++ Frame.railOffReach.flds)) s ((s.shutDown r).fault 0x02 r 2) :=
      (Frame.refl s).railOff.wr.tally.fault
    refine .of_go (exec_sg2Shutdown h32 hon) ⟨?_, hstands, railOn_eq_false fun p hp => ?_, ?_, hall.onlyFault⟩
    · rw [hoff.bit (by decide +kernel), hlatch.bit (by decide), State.bit_wr_below hr _ _ (by decide) le_rfl rfl, if_pos rfl]
      rfl
    · rcases hstands p (hphases ▸ hp) with h | h | h
      · exact .inl h
      · exact .inr (.inl h)
      · exact .inr (.inr (.inr h))
    · exact Raised.after hf.kinds (by decide +kernel) (State.fault_raised _ rfl (by rwa [State.zk4, hf.ident]) le_rfl)
  · intro s p harm hthis
    have hp : p < 128 := by
      simp only [State.scArmed, Bool.and_eq_true] at harm
      exact lt_of_allocated harm.1
    obtain ⟨hcnt, htotal⟩ := tripped_counts hp s
    have hall : Frame (.regsOut [H.PD_SC_CNT, R.PD_PH_CTRL_SC_TOTAL, H.PD_SC_THIS, H.PD_SCRUN]) s
        (((s.tripped p).wr H.PD_SC_THIS p 1).wr H.PD_SCRUN p (min 31 (s.rd H.PD_SCRUN p + 1))) :=
      ((tripped_frame s p).mono (by decide)).wr.wr
    refine .of_go (exec_shortCircuitTrip harm hthis) ⟨?_, ?_, ?_, ?_, tripped_out s p, hall.kinds, hall.onlyRegsOut⟩
    · rw [State.rd_wr_apart _ (by decide), State.rd_wr_apart _ (by decide), hcnt]
    · rw [State.rd_wr_apart _ (by decide), State.rd_wr_apart _ (by decide), htotal]
    · rw [State.bit_wr_apart _ (by decide), State.bit_wr_below hp _ _ (by decide) le_rfl rfl, if_pos rfl]
      rfl
    · rw [State.rd_wr_below hp _ _ (by decide) le_rfl, if_pos rfl]
      exact Nat.mod_eq_of_lt (show _ < 2 ^ 5 by omega)
  · intro s p harm hthis
    have hp : p < 128 := by
      simp only [State.scArmed, Bool.and_eq_true] at harm
      exact lt_of_allocated harm.1
    obtain ⟨hcnt, htotal⟩ := tripped_counts hp s
    exact .of_go (exec_shortCircuitTrip_again harm hthis) ⟨hcnt, htotal, tripped_out s p, (tripped_frame s p).kinds,
      (tripped_frame s p).onlyRegsOut⟩
  · exact fun s p h => exec_shortCircuitTrip_unarmed h
  · intro s p ha _ hoff hsrc
    have hp := lt_of_allocated ha
    exact .of_go (exec_phaseFenceVerdict ha (.inl hoff)) ⟨fencePhase_ph hp s 1, fencePhase_cause hp (by decide) s,
      fencePhase_raised hsrc 1, fencePhase_onlyFault s p 1⟩
  · exact fun s p hoff h => exec_phaseFenceVerdict_none hoff h
  · exact fun s p hoff h => exec_scRepeatFence_none hoff h
  · exact fun s p h => exec_phaseDerate_none h
  · exact fun s r h => exec_sg2Shutdown_none h
  · intro s p ha hpulse hrun hrestored hlen
    refine .of_go (exec_scRepeatFence ha hpulse hrun) ((fencePhase_queuesOn _ p 2).get ?_)
    rw [tally_queued hrestored (by omega)]
    simp
  · intro s r h32 hon hrestored hlen
    have hbefore : Frame (Frame.railOffReach.and (.regs [R.PD_RAIL_STAT_OFF_LATCH])) s ((s.railOff r).wr R.PD_RAIL_STAT_OFF_LATCH r 1) :=
      (Frame.refl s).railOff.wr
    have hqueue := hbefore.parts .tallyQueue rfl
    refine .of_go (exec_sg2Shutdown h32 hon) ((fault_queuesOn _ _ _ _ _).get ?_)
    rw [State.shutDown, tally_queued (by rwa [hbefore.bit (by decide +kernel)]) (by rw [hqueue]; omega), hqueue]
    simp

end Sys2Proof.Machine
end

section
/-! Switching periods, sheds and pulse skipping (R228–R230, R239–R242, R245, R246, R248, R305, R442). -/

set_option Elab.async false

namespace Sys2Proof.Machine

/-- The run of trips, and the end of pulse skipping, at a period's start (R245, R246). -/
def State.periodBegun (s : State) (p : Nat) : State :=
  ((s.when (!s.bit H.PD_SC_THIS p) (fun t => t.wr H.PD_SCRUN p 0)).wr H.PD_SC_THIS p 0).when
    (((s.when (!s.bit H.PD_SC_THIS p) (fun t => t.wr H.PD_SCRUN p 0)).wr H.PD_SC_THIS p 0).bit H.PD_SKIP_END (s.rd R.PD_PH_STAT_RAIL p))
    (fun t => ((t.wr R.PD_RAIL_STAT_SKIPPING (s.rd R.PD_PH_STAT_RAIL p) 0).wr H.PD_SKIP_END (s.rd R.PD_PH_STAT_RAIL p) 0).wr
      H.PD_SKIP_CNT (s.rd R.PD_PH_STAT_RAIL p) 0)

/-- The phase after the changes that its period's start brings. -/
def State.periodReady (s : State) (p : Nat) : State := ((s.periodBegun p).periodChanges p).clearElems [H.PD_OFF_DUE, H.PD_TEST_ON] p

/-- What the phase's state makes of the period (R228–R230, R442). -/
def State.periodDrive (s : State) (p : Nat) : State :=
  match s.ph p with
  | 0 => s.pwm p .mid 0 0
  | 3 =>
    if s.rd H.PD_FALLOW_PER p = 15 then (s.wr H.PD_FALLOW_PER p 0).pwm p .low 0 256
    else (s.wr H.PD_FALLOW_PER p (s.rd H.PD_FALLOW_PER p + 1)).pwm p .mid 0 0
  | 5 =>
    if 0 < s.rd H.PD_TEST_PULSE p && !s.bit R.PD_RAIL_STAT_TRUNCATING (s.rd R.PD_PH_STAT_RAIL p) then
      ((s.wr H.PD_TEST_PULSE p (s.rd H.PD_TEST_PULSE p - 1)).wr H.PD_TEST_ON p 1).pwm p .high 0 128
    else s.pwm p .mid 0 0
  | _ => s.pulse p

theorem ofS_lt (w : Nat) (x : Int) : ofS w x < 2 ^ w := by
  have hpos : (0 : Int) < ((2 ^ w : Nat) : Int) := Int.natCast_pos.2 (Nat.two_pow_pos w)
  rw [ofS, Int.toNat_lt (Int.emod_nonneg _ hpos.ne')]
  exact Int.emod_lt_of_pos _ hpos

section
variable {s : State} {p r : Nat}

theorem pwm_out (s : State) (p : Nat) (l : PwmLevel) (a b : Nat) :
    (s.pwm p l a b).out = if s.bit R.PD_STATUS_DRIVING 0 then .pwm p l a b :: s.out else s.out := by
  unfold State.pwm
  split <;> rfl

theorem pwm_driven (h : s.bit R.PD_STATUS_DRIVING 0 = true) (p : Nat) (l : PwmLevel) (a b : Nat) :
    (s.pwm p l a b).out = .pwm p l a b :: s.out := by rw [pwm_out, if_pos h]

/-! ## The start of a period -/

theorem periodBegun_frame (s : State) (p : Nat) : Frame (.regs [H.PD_SCRUN, H.PD_SC_THIS, R.PD_RAIL_STAT_SKIPPING, H.PD_SKIP_END,
    H.PD_SKIP_CNT]) s (s.periodBegun p) := ((Frame.refl s).when fun _ hu => hu.wr).wr.when fun _ hu => hu.wr.wr.wr

theorem periodReady_last (s : State) (p : Nat) : Frame (Frame.periodChangesReach.and (.regs [H.PD_OFF_DUE, H.PD_TEST_ON]))
    (s.periodBegun p) (s.periodReady p) := (Frame.refl _).periodChanges.clearElems

/-- What the period's start reaches before the phase is driven. -/
def readyReach : Reach := Frame.periodChangesReach.and (.regs [H.PD_OFF_DUE, H.PD_TEST_ON, H.PD_SCRUN, H.PD_SC_THIS,
  R.PD_RAIL_STAT_SKIPPING, H.PD_SKIP_END, H.PD_SKIP_CNT])

theorem periodReady_frame (s : State) (p : Nat) : Frame readyReach s (s.periodReady p) :=
  ((periodBegun_frame s p).mono (by decide +kernel)).trans ((periodReady_last s p).mono (by decide +kernel))

theorem periodDrive_frame (s : State) (p : Nat) : Frame ⟨[.out], [H.PD_WID, H.PD_DISPL, H.PD_POS, H.PD_FALLOW_PER, H.PD_TEST_PULSE,
    H.PD_TEST_ON]⟩ s (s.periodDrive p) := by
  unfold State.periodDrive
  split
  · exact (Frame.refl s).pwm
  · exact Frame.ite (Frame.refl s).wr.pwm (Frame.refl s).wr.pwm
  · exact Frame.ite (Frame.refl s).wr.wr.pwm (Frame.refl s).pwm
  · exact (Frame.refl s).pulse

theorem exec_switchingPeriodStart (h : s.allocated p = true) :
    exec (.switchingPeriodStart p) s = ((s.periodReady p).periodDrive p).go := by
  have hrail : (s.periodReady p).rd R.PD_PH_STAT_RAIL p = s.rd R.PD_PH_STAT_RAIL p :=
    (periodReady_frame s p).rd (by decide +kernel) p
  change execSwitchingPeriodStart _ _ = _
  rw [execSwitchingPeriodStart, if_pos h, State.periodDrive, hrail]
  rfl

theorem exec_switchingPeriodStart_none (h : s.allocated p = false) : exec (.switchingPeriodStart p) s = .next s := by
  change execSwitchingPeriodStart _ _ = _
  rw [execSwitchingPeriodStart, h]
  rfl

theorem periodBegun_trips (hp : p < 128) (s : State) : (s.periodBegun p).bit H.PD_SC_THIS p = false
    ∧ (s.bit H.PD_SC_THIS p = false → (s.periodBegun p).rd H.PD_SCRUN p = 0) := by
  have hlast : Frame (.regs [R.PD_RAIL_STAT_SKIPPING, H.PD_SKIP_END, H.PD_SKIP_CNT])
      ((s.when (!s.bit H.PD_SC_THIS p) (fun t => t.wr H.PD_SCRUN p 0)).wr H.PD_SC_THIS p 0) (s.periodBegun p) :=
    (Frame.refl _).when fun _ hu => hu.wr.wr.wr
  constructor
  · rw [hlast.bit (by decide), State.bit_wr_below hp _ _ (by decide) le_rfl rfl, if_pos rfl]
    rfl
  · intro h
    rw [hlast.rd (by decide), State.rd_wr_apart _ (by decide), h, Bool.not_false, State.when_true,
      State.rd_wr_below hp _ _ (by decide) le_rfl, if_pos rfl, Nat.zero_mod]

/-- Pulse skipping that is to end has ended. -/
theorem periodBegun_skip (hr : s.rd R.PD_PH_STAT_RAIL p = r) (hlt : r < 14) (h : s.bit H.PD_SKIP_END r = true) :
    (s.periodBegun p).bit R.PD_RAIL_STAT_SKIPPING r = false ∧ (s.periodBegun p).bit H.PD_SKIP_END r = false := by
  have hend : ((s.when (!s.bit H.PD_SC_THIS p) (fun t => t.wr H.PD_SCRUN p 0)).wr H.PD_SC_THIS p 0).bit H.PD_SKIP_END r = true := by
    rw [State.bit_wr_apart _ (by decide), State.bit_when]
    split
    · rwa [State.bit_wr_apart _ (by decide)]
    · exact h
  rw [State.periodBegun, hr, hend, State.when_true]
  simp (disch := decide) only [State.bit_wr_apart, State.bit_wr_below hlt, if_true]
  exact ⟨rfl, rfl⟩

/-! ## The pending changes of a phase's state -/

theorem periodReady_ph (s : State) (p : Nat) : (s.periodReady p).ph p = ((s.periodBegun p).periodChanges p).ph p :=
  (show Frame (.regs [H.PD_OFF_DUE, H.PD_TEST_ON]) ((s.periodBegun p).periodChanges p) (s.periodReady p) from
    (Frame.refl _).clearElems).rd (by decide) p

theorem periodBegun_ph (s : State) (p : Nat) : (s.periodBegun p).ph p = s.ph p := (periodBegun_frame s p).rd (by decide) p

/-- A phase that is OFF, in FALLOW, FENCED or reserved has no pending change. -/
theorem periodChanges_still (h1 : s.ph p ≠ 1) (h2 : s.ph p ≠ 2) (h4 : s.ph p ≠ 4) : s.periodChanges p = s := by
  unfold State.periodChanges
  dsimp only
  split <;> first | contradiction | rfl

/-- A phase picked to shed begins to. -/
theorem periodChanges_sheds (h : s.ph p = 1) (hp : s.rd H.PD_SHED_PEND (s.rd R.PD_PH_STAT_RAIL p) = p + 1) : s.periodChanges p
    = ((((s.wr R.PD_PH_STAT_STATE p 2).wr H.PD_SHED_PEND (s.rd R.PD_PH_STAT_RAIL p) 0).wr H.PD_SHED_STEP p 0).wrS H.PD_SHED_DELTA p
        (openDivI ((s.rd H.PD_DRAIL (s.rd R.PD_PH_STAT_RAIL p) : Int) + s.rdS R.PD_PH_DUTY_SHARE p) 4)).rerank
          (s.rd R.PD_PH_STAT_RAIL p) := by
  unfold State.periodChanges
  rw [h]
  exact if_pos hp

theorem periodChanges_active (h : s.ph p = 1) (hp : s.rd H.PD_SHED_PEND (s.rd R.PD_PH_STAT_RAIL p) ≠ p + 1) :
    s.periodChanges p = s := by
  unfold State.periodChanges
  rw [h]
  exact if_neg hp

/-- A shed that is ended returns the phase to ACTIVE. -/
theorem periodChanges_returns (h : s.ph p = 2) (hret : s.bit H.PD_RET_ACT p = true) : s.periodChanges p
    = ((((s.wr R.PD_PH_STAT_STATE p 1).wr R.PD_PH_DUTY_SHARE p 0).wr H.PD_RET_ACT p 0).wr H.PD_SHED_STEP p 0).refreshDuty
        (s.rd R.PD_PH_STAT_RAIL p) := by
  unfold State.periodChanges
  rw [h]
  exact if_pos hret

/-- A shed that goes on takes a step. -/
theorem periodChanges_steps (h : s.ph p = 2) (hret : s.bit H.PD_RET_ACT p = false) (hstep : s.rd H.PD_SHED_STEP p < 4) :
    s.periodChanges p = ((s.wr H.PD_SHED_STEP p (s.rd H.PD_SHED_STEP p + 1)).wrS R.PD_PH_DUTY_SHARE p
        (s.rdS R.PD_PH_DUTY_SHARE p - s.rdS H.PD_SHED_DELTA p)).refreshDuty (s.rd R.PD_PH_STAT_RAIL p) := by
  unfold State.periodChanges
  rw [h]
  exact (if_neg (by simp [hret])).trans (if_pos hstep)

/-- A phase that has stepped down leaves for FALLOW. -/
theorem periodChanges_leaves (h : s.ph p = 2) (hret : s.bit H.PD_RET_ACT p = false) (hstep : 4 ≤ s.rd H.PD_SHED_STEP p) :
    s.periodChanges p = (((((s.wr R.PD_PH_STAT_STATE p 3).wr H.PD_SHED_STEP p 0).wr R.PD_PH_DUTY_DUTY p 0).wr H.PD_FALLOW_PER p 0).rerank
        (s.rd R.PD_PH_STAT_RAIL p)).refreshDuty (s.rd R.PD_PH_STAT_RAIL p) := by
  unfold State.periodChanges
  rw [h]
  exact (if_neg (by simp [hret])).trans (if_neg (Nat.not_lt.2 hstep))

/-- A phase that has been ADDING for eight periods is ACTIVE. -/
theorem periodChanges_added (h : s.ph p = 4) (hper : 8 ≤ s.rd H.PD_ADD_PER p) :
    s.periodChanges p = (s.wr R.PD_PH_STAT_STATE p 1).wr H.PD_ADD_PER p 0 := by
  unfold State.periodChanges
  rw [h]
  exact if_pos (.inl hper)

theorem set_ph (hp : p < 128) (s : State) {v : Nat} (hv : v < 8) : (s.wr R.PD_PH_STAT_STATE p v).ph p = v := by
  rw [State.ph, State.rd_wr_below hp _ _ (by decide) le_rfl, if_pos rfl]
  exact Nat.mod_eq_of_lt hv

/-- What a pending change reaches beside the phase's state. -/
def changeReach : Reach := .regs [H.PD_SHED_DELTA, H.PD_SHED_STEP, H.PD_SHED_PEND, H.PD_RET_ACT, R.PD_PH_DUTY_SHARE, H.PD_FALLOW_PER,
  R.PD_PH_DUTY_DUTY, H.PD_ADD_PER, R.PD_PH_STAT_RANK]

theorem ph_of_change {u : State} {v : Nat} (hp : p < 128) (h : Frame changeReach (s.wr R.PD_PH_STAT_STATE p v) u) (hv : v < 8) :
    u.ph p = v := (h.rd (by decide) p).trans (set_ph hp s hv)

/-- A pulsing phase goes on pulsing but where it leaves for FALLOW. -/
theorem periodChanges_ph_active (hp : p < 128) (h : s.ph p = 1) : (s.periodChanges p).ph p = 1 ∨ (s.periodChanges p).ph p = 2 := by
  by_cases hpend : s.rd H.PD_SHED_PEND (s.rd R.PD_PH_STAT_RAIL p) = p + 1
  · rw [periodChanges_sheds h hpend]
    exact .inr (ph_of_change hp (Frame.refl _).wr.wr.wrS.rerank (by decide))
  · rw [periodChanges_active h hpend]
    exact .inl h

/-! ## What the phase is driven with -/

theorem periodDrive_off (h : s.ph p = 0) : s.periodDrive p = s.pwm p .mid 0 0 := by
  simp only [State.periodDrive, h]

theorem periodDrive_fallow (h : s.ph p = 3) : s.periodDrive p = if s.rd H.PD_FALLOW_PER p = 15 then
      (s.wr H.PD_FALLOW_PER p 0).pwm p .low 0 256
    else (s.wr H.PD_FALLOW_PER p (s.rd H.PD_FALLOW_PER p + 1)).pwm p .mid 0 0 := by
  simp only [State.periodDrive, h]

theorem periodDrive_fenced (h : s.ph p = 5) : s.periodDrive p
    = if 0 < s.rd H.PD_TEST_PULSE p && !s.bit R.PD_RAIL_STAT_TRUNCATING (s.rd R.PD_PH_STAT_RAIL p) then
      ((s.wr H.PD_TEST_PULSE p (s.rd H.PD_TEST_PULSE p - 1)).wr H.PD_TEST_ON p 1).pwm p .high 0 128
    else s.pwm p .mid 0 0 := by
  simp only [State.periodDrive, h]

theorem periodDrive_pulses (h0 : s.ph p ≠ 0) (h3 : s.ph p ≠ 3) (h5 : s.ph p ≠ 5) : s.periodDrive p = s.pulse p := by
  unfold State.periodDrive
  split <;> first | contradiction | rfl

/-- The one command of a pulsing phase: a high one is at least 128 counts wide and leaves 256 of the period, and truncation holds
the phase low. -/
theorem pulse_sends (hd : s.bit R.PD_STATUS_DRIVING 0 = true) (p : Nat) : ∃ l a b, (s.pulse p).out = .pwm p l a b :: s.out
    ∧ (l = .high → 128 ≤ b ∧ b + 256 ≤ s.periodP (s.rd R.PD_PH_STAT_RAIL p))
    ∧ (s.bit R.PD_RAIL_STAT_TRUNCATING (s.rd R.PD_PH_STAT_RAIL p) = true → l = .low) := by
  unfold State.pulse
  extract_lets r per want lastEnd displ pos w0 room w stop skip s1
  have hs : Frame (.regs [H.PD_POS, H.PD_DISPL]) s s1 := (Frame.refl s).wr.wrB
  have hsent (v : Nat) (l : PwmLevel) (a b : Nat) : ((s1.wr H.PD_WID p v).pwm p l a b).out = .pwm p l a b :: s.out := by
    rw [pwm_driven (by rwa [State.bit_wr_apart _ (by decide), hs.bit (by decide)])]
    exact congrArg _ hs.out
  split
  · exact ⟨_, _, _, hsent _ _ _ _, (nomatch ·), fun _ => rfl⟩
  · next hstop =>
    split
    · exact ⟨_, _, _, hsent _ _ _ _, (nomatch ·), fun h => absurd h hstop⟩
    · split
      · exact ⟨_, _, _, hsent _ _ _ _, (nomatch ·), fun _ => rfl⟩
      · next hw =>
        refine ⟨_, _, _, hsent _ _ _ _, fun _ => ?_, fun h => absurd h hstop⟩
        have hroom : room ≤ per - 256 := by
          by_cases hdispl : per + want < lastEnd + 256
          · have hpos : pos = lastEnd + 256 - per := if_pos (decide_eq_true hdispl)
            have heq : room = per + want - pos - 256 := congrArg (· - 256) (if_pos (decide_eq_true hdispl))
            omega
          · have heq : room = per - 256 := congrArg (· - 256) (if_neg (by simp [displ, hdispl]))
            omega
        have hw' : w = min w0 room := rfl
        have hper : s.periodP (s.rd R.PD_PH_STAT_RAIL p) = per := rfl
        clear_value w room per
        omega

/-- A driven phase is sent one command. -/
theorem periodDrive_sends (hd : s.bit R.PD_STATUS_DRIVING 0 = true) (p : Nat) : ∃ l a b, (s.periodDrive p).out = .pwm p l a b :: s.out := by
  have hw (f : Fld) (hf : f.apart R.PD_STATUS_DRIVING = true) (v : Nat) (u : State) (hu : u.bit R.PD_STATUS_DRIVING 0 = true) :
      (u.wr f p v).bit R.PD_STATUS_DRIVING 0 = true := by rwa [State.bit_wr_apart _ hf]
  unfold State.periodDrive
  split
  · exact ⟨_, _, _, pwm_driven hd _ _ _ _⟩
  · split
    · exact ⟨_, _, _, pwm_driven (hw _ (by decide) _ _ hd) _ _ _ _⟩
    · exact ⟨_, _, _, pwm_driven (hw _ (by decide) _ _ hd) _ _ _ _⟩
  · split
    · exact ⟨_, _, _, pwm_driven (hw _ (by decide) _ _ (hw _ (by decide) _ _ hd)) _ _ _ _⟩
    · exact ⟨_, _, _, pwm_driven hd _ _ _ _⟩
  · obtain ⟨l, a, b, hout, -⟩ := pulse_sends hd p
    exact ⟨l, a, b, hout⟩

theorem periodDrive_ph (s : State) (p : Nat) : (s.periodDrive p).ph p = s.ph p := (periodDrive_frame s p).rd (by decide) p

/-! ## Sheds and pulse skipping -/

theorem exec_shedDecision (h : (s.inState r 1).getLast? = some p) (hm : s.mayShed r = true) :
    exec (.shedDecision r) s = ((s.wr H.PD_SHED_PEND r (p + 1)).wr H.PD_DWELL_CNT r 0).go := by
  change execShedDecision _ _ = _
  rw [execShedDecision, h, hm]
  rfl

theorem exec_shedDecision_none (h : s.mayShed r = false ∨ s.inState r 1 = []) : exec (.shedDecision r) s = .next s := by
  change execShedDecision _ _ = _
  rw [execShedDecision]
  rcases h with h | h
  · rw [h]
    cases (s.inState r 1).getLast? <;> rfl
  · rw [h]
    rfl

theorem exec_pulseSkipEngage (h : s.rd R.PD_RAIL_SKIP_SKIP_FRAMES r ≠ 0 ∧ s.rd R.PD_RAIL_SKIP_SKIP_FRAMES r ≤ s.rd H.PD_SKIP_CNT r
      ∧ s.nPulse r = s.rd R.PD_RAIL_CFG_MIN_ACTIVE r ∧ 0 < s.nPulse r
      ∧ s.rd R.PD_RAIL_VREF_VREF r ≤ s.rd R.PD_RAIL_VREF_TARGET r) :
    exec (.pulseSkipEngage r) s = ((s.wr R.PD_RAIL_STAT_SKIPPING r 1).wr H.PD_SKIP_END r 0).go := congrArg State.go (if_pos h)

theorem exec_pulseSkipEngage_none (h : s.rd R.PD_RAIL_SKIP_SKIP_FRAMES r = 0 ∨ s.rd H.PD_SKIP_CNT r < s.rd R.PD_RAIL_SKIP_SKIP_FRAMES r
      ∨ s.nPulse r ≠ s.rd R.PD_RAIL_CFG_MIN_ACTIVE r ∨ s.nPulse r = 0 ∨ s.rd R.PD_RAIL_VREF_TARGET r < s.rd R.PD_RAIL_VREF_VREF r) :
    exec (.pulseSkipEngage r) s = .next s := congrArg State.go (if_neg (by omega))

end

/-- Settles O23: periods, sheds and pulse skipping. -/
theorem periodsShedsAndSkips : Obligations.PeriodsShedsAndSkips := by
  unfold Obligations.PeriodsShedsAndSkips
  refine ⟨?_, ?_, ?_, ?_, ?_, ?_, ?_, ?_, ?_, ?_, ?_, ?_, ?_, ?_, ?_, ?_⟩
  · intro s p ha hd
    have hp := lt_of_allocated ha
    have hready := periodReady_frame s p
    have hlast := periodReady_last s p
    have hdrive := periodDrive_frame (s.periodReady p) p
    have hall : Frame (.regsOut (Frame.periodStartReach.flds)) s ((s.periodReady p).periodDrive p) :=
      (hready.mono (by decide +kernel)).trans (hdrive.mono (by decide +kernel))
    obtain ⟨l, a, b, hout⟩ := periodDrive_sends ((hready.bit (by decide +kernel) 0).trans hd) p
    obtain ⟨hthis, hrun⟩ := periodBegun_trips hp s
    refine .of_go (exec_switchingPeriodStart ha) ⟨⟨l, a, b, by rw [hout, hready.out]⟩, ?_, fun h => ?_, hall.onlyRegsOut⟩
    · rw [hdrive.bit (by decide), hlast.bit (by decide +kernel), hthis]
    · rw [hdrive.rd (by decide), hlast.rd (by decide +kernel), hrun h]
  · intro s p ha hph hpend hr
    have hp := lt_of_allocated ha
    have hb := periodBegun_frame s p
    have hch := periodChanges_sheds (s := s.periodBegun p) (p := p) ((periodBegun_ph s p).trans hph)
      (by rw [hb.rd (by decide), hb.rd (by decide), hpend])
    rw [hb.rd (g := R.PD_PH_STAT_RAIL) (by decide) p] at hch
    refine .of_go (exec_switchingPeriodStart ha) ⟨?_, ?_⟩
    · rw [periodDrive_ph, periodReady_ph, hch]
      exact ph_of_change hp (Frame.refl _).wr.wr.wrS.rerank (by decide)
    · have hlast : Frame (.regs [H.PD_SHED_STEP, H.PD_SHED_DELTA, R.PD_PH_STAT_RANK, H.PD_OFF_DUE, H.PD_TEST_ON])
          (((s.periodBegun p).wr R.PD_PH_STAT_STATE p 2).wr H.PD_SHED_PEND (s.rd R.PD_PH_STAT_RAIL p) 0) (s.periodReady p) := by
        rw [State.periodReady, hch]
        exact (Frame.refl _).wr.wrS.rerank.clearElems
      rw [(periodDrive_frame _ p).rd (by decide), hlast.rd (by decide), State.rd_wr_below hr _ _ (by decide) le_rfl, if_pos rfl, Nat.zero_mod]
  · intro s p ha hph hret hstep
    have hp := lt_of_allocated ha
    have hb := periodBegun_frame s p
    refine .of_go (exec_switchingPeriodStart ha) ?_
    rw [periodDrive_ph, periodReady_ph, periodChanges_leaves ((periodBegun_ph s p).trans hph) (by rwa [hb.bit (by decide)])
      (by rwa [hb.rd (by decide)])]
    exact ph_of_change hp (Frame.refl _).wr.wr.wr.rerank.refreshDuty (by decide)
  · intro s p ha hph hret
    have hp := lt_of_allocated ha
    have hb := periodBegun_frame s p
    refine .of_go (exec_switchingPeriodStart ha) ?_
    rw [periodDrive_ph, periodReady_ph, periodChanges_returns ((periodBegun_ph s p).trans hph) (by rwa [hb.bit (by decide)])]
    exact ph_of_change hp (Frame.refl _).wr.wr.wr.refreshDuty (by decide)
  · intro s p ha hph hper
    have hp := lt_of_allocated ha
    have hb := periodBegun_frame s p
    refine .of_go (exec_switchingPeriodStart ha) ?_
    rw [periodDrive_ph, periodReady_ph, periodChanges_added ((periodBegun_ph s p).trans hph) (by rwa [hb.rd (by decide)])]
    exact ph_of_change hp (Frame.refl _).wr (by decide)
  · intro s r p hr hlast hm
    have hp := mem_inState_lt (List.mem_of_getLast? hlast)
    have hall : Frame (.regs [H.PD_SHED_PEND, H.PD_DWELL_CNT]) s ((s.wr H.PD_SHED_PEND r (p + 1)).wr H.PD_DWELL_CNT r 0) :=
      (Frame.refl s).wr.wr
    refine .of_go (exec_shedDecision hlast hm) ⟨?_, ?_, hall.kinds, hall.onlyRegs⟩
    · rw [State.rd_wr_apart _ (by decide), State.rd_wr_below hr _ _ (by decide) le_rfl, if_pos rfl]
      exact Nat.mod_eq_of_lt (show _ < 2 ^ 8 by omega)
    · rw [State.rd_wr_below hr _ _ (by decide) le_rfl, if_pos rfl, Nat.zero_mod]
  · intro s r hr h0 hcnt hmin hpos hv
    have hall : Frame (.regs [R.PD_RAIL_STAT_SKIPPING, H.PD_SKIP_END]) s ((s.wr R.PD_RAIL_STAT_SKIPPING r 1).wr H.PD_SKIP_END r 0) :=
      (Frame.refl s).wr.wr
    refine .of_go (exec_pulseSkipEngage ⟨h0, hcnt, hmin, hpos, hv⟩) ⟨?_, ?_, hall.kinds, hall.onlyRegs⟩
    · rw [State.bit_wr_apart _ (by decide), State.bit_wr_below hr _ _ (by decide) le_rfl rfl, if_pos rfl]
      rfl
    · rw [State.bit_wr_below hr _ _ (by decide) le_rfl rfl, if_pos rfl]
      rfl
  · exact fun s p h => exec_switchingPeriodStart_none h
  · intro s p ha hph
    have hready := periodReady_frame s p
    have hsame : (s.periodReady p).ph p = s.ph p := by
      rw [periodReady_ph, periodChanges_still (by rw [periodBegun_ph]; omega) (by rw [periodBegun_ph]; omega) (by rw [periodBegun_ph]; omega),
        periodBegun_ph]
    have htest : (s.periodReady p).rd H.PD_TEST_PULSE p = s.rd H.PD_TEST_PULSE p := hready.rd (by decide +kernel) p
    have hdrive : (s.periodReady p).periodDrive p = (s.periodReady p).pwm p .mid 0 0 := by
      rcases hph with h | ⟨h, h0⟩
      · exact periodDrive_off (hsame.trans h)
      · rw [periodDrive_fenced (hsame.trans h), htest, h0]
        rfl
    refine .of_go (exec_switchingPeriodStart ha) ⟨(periodDrive_ph _ p).trans hsame, ?_⟩
    rw [hdrive, pwm_out, hready.out, hready.bit (by decide +kernel)]
  · intro s p ha hph
    have hp := lt_of_allocated ha
    have hready := periodReady_frame s p
    have hstill : s.periodReady p = (s.periodBegun p).clearElems [H.PD_OFF_DUE, H.PD_TEST_ON] p := by
      rw [State.periodReady, periodChanges_still (by rw [periodBegun_ph]; omega) (by rw [periodBegun_ph]; omega) (by rw [periodBegun_ph]; omega)]
    have hkeep : Frame (.regs [H.PD_SCRUN, H.PD_SC_THIS, R.PD_RAIL_STAT_SKIPPING, H.PD_SKIP_END, H.PD_SKIP_CNT, H.PD_OFF_DUE, H.PD_TEST_ON])
        s (s.periodReady p) := by
      rw [hstill]
      exact ((periodBegun_frame s p).mono (by decide)).clearElems
    have hper := hkeep.rd (g := H.PD_FALLOW_PER) (by decide) p
    have hlt : s.rd H.PD_FALLOW_PER p < 16 := State.rd_lt s H.PD_FALLOW_PER p
    have hdrive := periodDrive_fallow (s := s.periodReady p) (p := p) ((hkeep.rd (by decide) p).trans hph)
    rw [hper] at hdrive
    refine .of_go (exec_switchingPeriodStart ha) ⟨(periodDrive_ph _ p).trans ((hkeep.rd (by decide) p).trans hph), ?_, fun hd => ?_⟩
    · rw [hdrive]
      split
      · next h15 =>
        rw [(pwm_frame _ _ _ _ _).rd rfl, State.rd_wr_below hp _ _ (by decide) le_rfl, if_pos rfl, h15]
        rfl
      · rw [(pwm_frame _ _ _ _ _).rd rfl, State.rd_wr_below hp _ _ (by decide) le_rfl, if_pos rfl]
        rfl
    · have hdr (v : Nat) : ((s.periodReady p).wr H.PD_FALLOW_PER p v).bit R.PD_STATUS_DRIVING 0 = true := by
        rwa [State.bit_wr_apart _ (by decide), hkeep.bit (by decide)]
      rw [hdrive]
      split
      · rw [pwm_driven (hdr _)]
        exact congrArg _ hready.out
      · rw [pwm_driven (hdr _)]
        exact congrArg _ hready.out
  · intro s p ha hph htest htrunc
    have hp := lt_of_allocated ha
    have hready := periodReady_frame s p
    have hsame : (s.periodReady p).ph p = 5 := by
      rw [periodReady_ph, periodChanges_still (by rw [periodBegun_ph]; omega) (by rw [periodBegun_ph]; omega) (by rw [periodBegun_ph]; omega),
        periodBegun_ph, hph]
    have hpulse : (s.periodReady p).rd H.PD_TEST_PULSE p = s.rd H.PD_TEST_PULSE p := hready.rd (by decide +kernel) p
    have hdrive := periodDrive_fenced hsame
    rw [hpulse, hready.rd (by decide +kernel), hready.bit (by decide +kernel), htrunc, decide_eq_true htest] at hdrive
    refine .of_go (exec_switchingPeriodStart ha) ⟨(periodDrive_ph _ p).trans hsame, ?_, ?_⟩
    · rw [hdrive]
      simp only [Bool.not_false, Bool.and_self, if_true]
      rw [(pwm_frame _ _ _ _ _).rd rfl, State.rd_wr_apart _ (by decide), State.rd_wr_below hp _ _ (by decide) le_rfl, if_pos rfl]
      have hlt : s.rd H.PD_TEST_PULSE p < 8 := State.rd_lt s H.PD_TEST_PULSE p
      exact Nat.mod_eq_of_lt (show _ < 2 ^ 3 by omega)
    · rw [hdrive]
      simp only [Bool.not_false, Bool.and_self, if_true]
      rw [pwm_out, State.bit_wr_apart _ (by decide), State.bit_wr_apart _ (by decide), hready.bit (by decide +kernel), ← hready.out]
      rfl
  · intro s p ha hph hd
    have hp := lt_of_allocated ha
    have hready := periodReady_frame s p
    have hact : (s.periodReady p).ph p = 1 ∨ (s.periodReady p).ph p = 2 := by
      rw [periodReady_ph]
      exact periodChanges_ph_active hp ((periodBegun_ph s p).trans hph)
    obtain ⟨l, a, b, hout, hhigh, hlow⟩ := pulse_sends ((hready.bit (by decide +kernel) 0).trans hd) p
    rw [State.periodP, hready.rd (g := R.PD_PH_STAT_RAIL) (by decide +kernel), hready.rd (by decide +kernel), ← State.periodP] at hhigh
    rw [hready.rd (g := R.PD_PH_STAT_RAIL) (by decide +kernel), hready.bit (by decide +kernel)] at hlow
    refine .of_go (exec_switchingPeriodStart ha) ⟨l, a, b, ?_, hhigh, hlow⟩
    rw [periodDrive_pulses (by omega) (by omega) (by omega), hout, hready.out]
  · intro s p ha hph hret hstep
    have hp := lt_of_allocated ha
    have hb := periodBegun_frame s p
    have hch := periodChanges_steps (s := s.periodBegun p) (p := p) ((periodBegun_ph s p).trans hph) (by rwa [hb.bit (by decide)])
      (by rwa [hb.rd (by decide)])
    have hshare : (s.periodBegun p).rdS R.PD_PH_DUTY_SHARE p = s.rdS R.PD_PH_DUTY_SHARE p :=
      congrArg (toS _) (hb.rd (by decide) p)
    have hdelta : (s.periodBegun p).rdS H.PD_SHED_DELTA p = s.rdS H.PD_SHED_DELTA p := congrArg (toS _) (hb.rd (by decide) p)
    rw [hb.rd (g := H.PD_SHED_STEP) (by decide) p, hshare, hdelta] at hch
    have hlast : Frame (.regs [R.PD_PH_DUTY_DUTY, H.PD_OFF_DUE, H.PD_TEST_ON]) (((s.periodBegun p).wr H.PD_SHED_STEP p
        (s.rd H.PD_SHED_STEP p + 1)).wrS R.PD_PH_DUTY_SHARE p (s.rdS R.PD_PH_DUTY_SHARE p - s.rdS H.PD_SHED_DELTA p))
        (s.periodReady p) := by
      rw [State.periodReady, hch]
      exact (Frame.refl _).refreshDuty.clearElems
    have hdrive := periodDrive_frame (s.periodReady p) p
    refine .of_go (exec_switchingPeriodStart ha) ⟨?_, ?_, ?_⟩
    · rw [periodDrive_ph, State.ph, hlast.rd (by decide), State.wrS, State.rd_wr_apart _ (by decide), State.rd_wr_apart _ (by decide)]
      exact (periodBegun_ph s p).trans hph
    · rw [hdrive.rd (by decide), hlast.rd (by decide), State.wrS, State.rd_wr_apart _ (by decide),
        State.rd_wr_below hp _ _ (by decide) le_rfl, if_pos rfl]
      exact Nat.mod_eq_of_lt (show _ < 2 ^ 3 by omega)
    · rw [hdrive.rd (by decide), hlast.rd (by decide), State.wrS, State.rd_wr_below hp _ _ (by decide) le_rfl, if_pos rfl]
      exact Nat.mod_eq_of_lt (ofS_lt _ _)
  · intro s p ha hr hend
    obtain ⟨hskip, hend'⟩ := periodBegun_skip rfl hr hend
    have hdrive := periodDrive_frame (s.periodReady p) p
    have hlast := periodReady_last s p
    refine .of_go (exec_switchingPeriodStart ha) ⟨?_, ?_⟩
    · rw [hdrive.bit (by decide), hlast.bit (by decide +kernel), hskip]
    · rw [hdrive.bit (by decide), hlast.bit (by decide +kernel), hend']
  · exact fun s r h => exec_shedDecision_none h
  · exact fun s r h => exec_pulseSkipEngage_none h

end Sys2Proof.Machine
end

section
/-! Rail conversions and phase-current samples (R224, R225, R231–R233, R248, R249, R252, R253, R261, R443). -/

set_option Elab.async false

namespace Sys2Proof.Machine

theorem ofS_mod (w : Nat) (x : Int) : ofS w x % 2 ^ w = ofS w x := Nat.mod_eq_of_lt (ofS_lt w x)

section
variable {s t : State} {p r code : Nat} {refOff : Bool}

/-! ## What the comparisons depend on -/

theorem follows_congr (hrole : t.rd R.TWIN_STATUS_ROLE 0 = s.rd R.TWIN_STATUS_ROLE 0)
    (hd : t.bit R.PD_STATUS_DRIVING 0 = s.bit R.PD_STATUS_DRIVING 0) : t.follows = s.follows := by
  simp only [State.follows, State.forwarded, State.role, hrole, hd]

theorem vref_congr (hramp : t.bit R.PD_RAIL_STAT_RAMPING r = s.bit R.PD_RAIL_STAT_RAMPING r)
    (hv : t.rd H.PD_RAMP_V r = s.rd H.PD_RAMP_V r) (hcode : t.rd R.PD_RAIL_VREF_VREF r = s.rd R.PD_RAIL_VREF_VREF r) :
    t.vref r = s.vref r := by simp only [State.vref, hramp, hv, hcode]

/-- A change that leaves V_ref and the conversion leaves the comparison. -/
theorem above_congr (hv : t.vref r = s.vref r) (hs : t.rd H.PD_VSENSE r = s.rd H.PD_VSENSE r) (mv : Int) :
    t.above r mv = s.above r mv := by simp only [State.above, hv, hs]

theorem vtgtM_congr (hv : t.vref r = s.vref r) (hr : t.rd R.PD_RAIL_COMP1_RLL r = s.rd R.PD_RAIL_COMP1_RLL r)
    (hm : t.phasesOf r = s.phasesOf r) (hu : ∀ q, t.rd R.PD_PH_CURRENT_USED q = s.rd R.PD_PH_CURRENT_USED q) :
    t.vtgtM r = s.vtgtM r := by
  have hused : t.used = s.used := funext fun q => congrArg (toS _) (hu q)
  simp only [State.vtgtM, State.iRail, hv, hr, hm, hused]

theorem nPulse_congr (hm : t.phasesOf r = s.phasesOf r) (hp : ∀ q, t.ph q = s.ph q) : t.nPulse r = s.nPulse r := by
  have hpulse : t.pulsing = s.pulsing := funext fun q => by rw [State.pulsing, hp, ← State.pulsing]
  rw [State.nPulse, hm, hpulse, ← State.nPulse]

/-! ## The compensator -/

/-- The compensator keeps its error; its integrator stays while no phase pulses. -/
theorem compensate_says (hr : r < 14) (s : State) : (s.compensate r).rd H.PD_EPREV r
      = ofS H.PD_EPREV.wid (openDivI (s.vtgtM r) 1000000 - (s.rd H.PD_VSENSE r : Int))
    ∧ (s.nPulse r = 0 → (s.compensate r).rd H.PD_INTEG r = s.rd H.PD_INTEG r) := by
  unfold State.compensate
  extract_lets e top k pt dt i0 d0 frozen i1 d
  have hlast : Frame (.regs [H.PD_DRAIL, R.PD_PH_DUTY_DUTY]) ((s.wr H.PD_INTEG r i1.toNat).wrS H.PD_EPREV r e)
      ((((s.wr H.PD_INTEG r i1.toNat).wrS H.PD_EPREV r e).wr H.PD_DRAIL r (d / 65536).toNat).refreshDuty r) :=
    (Frame.refl _).wr.refreshDuty
  constructor
  · rw [hlast.rd (by decide), State.wrS, State.rd_wr_below hr _ _ (by decide) le_rfl, if_pos rfl, ofS_mod]
  · intro h
    have hf : frozen = true := by simp [frozen, h]
    have hi : i1 = i0 := if_pos hf
    rw [hlast.rd (by decide), State.wrS, State.rd_wr_apart _ (by decide), State.rd_wr_below hr _ _ (by decide) le_rfl, if_pos rfl, hi,
      Int.toNat_natCast]
    exact Nat.mod_eq_of_lt (State.rd_lt s H.PD_INTEG r)

/-! ## Conversions -/

/-- The conversion taken, and overshoot judged on it. -/
def State.sensed (s : State) (r c : Nat) : State := (s.wr H.PD_VSENSE r c).overshoot r

/-- Power-good counted on the conversion. -/
def State.goodCounted (s : State) (r c : Nat) : State :=
  (s.sensed r c).wr H.PD_PG_CNT r (if decide (((s.sensed r c).rd H.PD_VSENSE r : Int) * 15625 < (((s.sensed r c).vref r : Int) - 80000) * 256)
      || (s.sensed r c).bit R.PD_RAIL_STAT_RAMPING r || !(s.sensed r c).railOn r then 0
    else min 511 ((s.sensed r c).rd H.PD_PG_CNT r + 1))

theorem runRail_eq (s : State) (r c : Nat) : s.runRail r c
    = ((s.goodCounted r c).compensate r).when (((s.goodCounted r c).compensate r).lowStep r) fun t => t.stepAndSkip r := rfl

theorem overshoot_frame (s : State) (r : Nat) : Frame Frame.overshootReach s (s.overshoot r) := (Frame.refl s).overshoot

theorem goodCounted_frame (s : State) (r c : Nat) : Frame (Frame.overshootReach.and (.regs [H.PD_VSENSE, H.PD_PG_CNT])) s (s.goodCounted r c) :=
  (Frame.refl s).wr.overshoot.wr

theorem goodCounted_last (s : State) (r c : Nat) : Frame (Frame.overshootReach.and (.regs [H.PD_PG_CNT])) (s.wr H.PD_VSENSE r c)
    (s.goodCounted r c) := (Frame.refl _).overshoot.wr

theorem overshoot_count (hr : r < 14) (s : State) : (s.overshoot r).rd H.PD_SG2 r
    = (if s.above r 60 then min 63 (s.rd H.PD_SG2 r + 1) else 0) := by
  have hlast : Frame Frame.truncateReach (s.wr H.PD_SG2 r (if s.above r 60 then min 63 (s.rd H.PD_SG2 r + 1) else 0)) (s.overshoot r) :=
    (Frame.refl _).truncate
  rw [hlast.rd (by decide), State.rd_wr_below hr _ _ (by decide) le_rfl, if_pos rfl]
  refine Nat.mod_eq_of_lt (show _ < 2 ^ 6 from ?_)
  split <;> omega

theorem runRail_last (s : State) (r c : Nat) : Frame (Frame.compensateReach.and Frame.stepAndSkipReach) (s.goodCounted r c) (s.runRail r c) := by
  rw [runRail_eq]
  exact (Frame.refl _).compensate.when fun _ hu => hu.stepAndSkip

/-- A run of a rail's control takes the conversion, counts towards SG-2, and runs the compensator. -/
theorem runRail_says (hr : r < 14) (s : State) (c : Nat) : (s.runRail r c).rd H.PD_VSENSE r = c % 2 ^ 18
    ∧ (s.runRail r c).rd H.PD_SG2 r = (if (s.wr H.PD_VSENSE r c).above r 60 then min 63 (s.rd H.PD_SG2 r + 1) else 0)
    ∧ (s.runRail r c).rd H.PD_EPREV r
      = ofS H.PD_EPREV.wid (openDivI (s.vtgtM r) 1000000 - ((c % 2 ^ 18 : Nat) : Int))
    ∧ (s.nPulse r = 0 → (s.runRail r c).rd H.PD_INTEG r = s.rd H.PD_INTEG r) := by
  have hg := goodCounted_frame s r c
  have hl := goodCounted_last s r c
  have hrun := runRail_last s r c
  have hstep : Frame Frame.stepAndSkipReach ((s.goodCounted r c).compensate r) (s.runRail r c) := by
    rw [runRail_eq]
    exact (Frame.refl _).when fun _ hu => hu.stepAndSkip
  have hsense : (s.goodCounted r c).rd H.PD_VSENSE r = c % 2 ^ 18 := by
    rw [hl.rd (by decide), State.rd_wr_below hr _ _ (by decide) le_rfl, if_pos rfl]
    rfl
  have hsg : Frame (.regs [H.PD_PG_CNT]) (s.sensed r c) (s.goodCounted r c) := (Frame.refl _).wr
  obtain ⟨herr, hint⟩ := compensate_says hr (s.goodCounted r c)
  have hvref : (s.goodCounted r c).vref r = s.vref r := vref_congr (hg.bit (by decide) r) (hg.rd (by decide) r) (hg.rd (by decide) r)
  have hphases : (s.goodCounted r c).phasesOf r = s.phasesOf r := phasesOf_congr (hg.rd (by decide)) r
  refine ⟨(hrun.rd (by decide) r).trans hsense, ?_, ?_, fun h => ?_⟩
  · rw [hrun.rd (by decide), hsg.rd (by decide), State.sensed, overshoot_count hr, State.rd_wr_apart _ (by decide)]
  · rw [hstep.rd (by decide), herr, vtgtM_congr hvref (hg.rd (by decide) r) hphases (hg.rd (by decide)), hsense]
  · rw [hstep.rd (by decide), hint ((nPulse_congr hphases (hg.rd (by decide))).trans h), hg.rd (by decide)]

/-- A conversion of the own channel, stored. -/
def State.converted (s : State) (r code : Nat) : State := (s.wr H.PD_VS_PREV r (s.rd H.PD_VOWN r)).wr H.PD_VOWN r code

theorem converted_frame (s : State) (r code : Nat) : Frame (.regs [H.PD_VS_PREV, H.PD_VOWN]) s (s.converted r code) := (Frame.refl s).wr.wr

theorem converted_own (hr : r < 14) (s : State) (code : Nat) : (s.converted r code).rd H.PD_VOWN r = code % 2 ^ 18
    ∧ (s.converted r code).rd H.PD_VS_PREV r = s.rd H.PD_VOWN r := by
  rw [State.converted, State.rd_wr_below hr _ _ (by decide) le_rfl, if_pos rfl, State.rd_wr_apart _ (by decide),
    State.rd_wr_below hr _ _ (by decide) le_rfl, if_pos rfl]
  exact ⟨rfl, Nat.mod_eq_of_lt (State.rd_lt s H.PD_VOWN r)⟩

theorem converted_follows (s : State) (r code : Nat) : (s.converted r code).follows = s.follows :=
  follows_congr ((converted_frame s r code).rd (by decide) 0) ((converted_frame s r code).bit (by decide) 0)

theorem exec_railSenseConversion (h : r ∈ s.rails) : exec (.railSenseConversion r code) s = (s.convert r code).go := by
  change execRailSenseConversion _ _ _ = _
  rw [execRailSenseConversion, if_pos (List.contains_iff_mem.2 h)]

theorem exec_railSenseConversion_none (h : r ∉ s.rails) : exec (.railSenseConversion r code) s = .next s := by
  change execRailSenseConversion _ _ _ = _
  rw [execRailSenseConversion, if_neg (by simpa using h)]
  rfl

theorem convert_runs (hl : s.bit H.PD_LOOP_RAIL r = false) (hf : s.follows = false) :
    s.convert r code = (s.converted r code).runRail r ((s.converted r code).rd H.PD_VOWN r) := by
  rw [State.convert, hl]
  exact if_neg (by rw [← Bool.not_eq_true, ← converted_follows s r code] at hf; exact hf)

theorem convert_follows (hl : s.bit H.PD_LOOP_RAIL r = false) (hf : s.follows = true) : s.convert r code = s.converted r code := by
  rw [State.convert, hl]
  exact if_pos ((converted_follows s r code).trans hf)

theorem convert_loops (hl : s.bit H.PD_LOOP_RAIL r = true) : s.convert r code = s.overshoot r := by
  rw [State.convert, if_pos hl]

/-! ## Samples -/

/-- A phase-current sample, stored. -/
def State.measured (s : State) (p code : Nat) (refOff : Bool) : State :=
  ((s.wrS R.PD_PH_CURRENT_MEAS p (((code % 4096 : Nat) : Int) - 1024)).wrB R.PD_PH_STAT_SENSE_OK p
    (code % 4096 != 0 && code % 4096 != 4095 && !refOff)).wr H.PD_SAMP p 1

theorem measured_frame (s : State) (p code : Nat) (refOff : Bool) :
    Frame (.regs [R.PD_PH_CURRENT_MEAS, R.PD_PH_STAT_SENSE_OK, H.PD_SAMP]) s (s.measured p code refOff) := (Frame.refl s).wrS.wrB.wr

theorem measured_follows (s : State) (p code : Nat) (refOff : Bool) : (s.measured p code refOff).follows = s.follows :=
  follows_congr ((measured_frame s p code refOff).rd (by decide) 0) ((measured_frame s p code refOff).bit (by decide) 0)

theorem measured_says (hp : p < 128) (s : State) (code : Nat) (refOff : Bool) : (s.measured p code refOff).rd R.PD_PH_CURRENT_MEAS p
      = ofS R.PD_PH_CURRENT_MEAS.wid (((code % 4096 : Nat) : Int) - 1024)
    ∧ (s.measured p code refOff).bit R.PD_PH_STAT_SENSE_OK p = (code % 4096 != 0 && code % 4096 != 4095 && !refOff) := by
  constructor
  · rw [State.measured, State.wrS, State.rd_wr_apart _ (by decide), State.rd_wrB_apart _ (by decide),
      State.rd_wr_below hp _ _ (by decide) le_rfl, if_pos rfl, ofS_mod]
  · rw [State.measured, State.bit_wr_apart _ (by decide), State.bit_wrB_below hp _ _ (by decide) le_rfl rfl, if_pos rfl]

/-- The sample of another phase is its own. -/
theorem measured_other {q : Nat} (hq : p ≠ q) (s : State) (code : Nat) (refOff : Bool) {f : Fld}
    (hf : f ∈ [R.PD_PH_CURRENT_MEAS, R.PD_PH_STAT_SENSE_OK, H.PD_SAMP]) : (s.measured p code refOff).rd f q = s.rd f q := by
  simp only [List.mem_cons, List.not_mem_nil, or_false] at hf
  rcases hf with rfl | rfl | rfl <;>
    simp (disch := decide) only [State.measured, State.wrS, State.wrB, State.rd_wr_apart, State.rd_wr_idx _ hq]

theorem exec_phaseCurrentSample (h : s.allocated p = true) : exec (.phaseCurrentSample p code refOff) s = (s.sample p code refOff).go := by
  change execPhaseCurrentSample _ _ _ _ = _
  rw [execPhaseCurrentSample, if_pos h]

theorem exec_phaseCurrentSample_none (h : s.allocated p = false) : exec (.phaseCurrentSample p code refOff) s = .next s := by
  change execPhaseCurrentSample _ _ _ _ = _
  rw [execPhaseCurrentSample, h]
  rfl

theorem sample_follows (hl : s.bit H.PD_LOOP_PH p = false) (hf : s.follows = true) :
    s.sample p code refOff = s.measured p code refOff := by
  rw [State.sample, hl]
  exact if_pos ((measured_follows s p code refOff).trans hf)

theorem sample_runs (hl : s.bit H.PD_LOOP_PH p = false) (hf : s.follows = false) :
    s.sample p code refOff = (s.measured p code refOff).runPhase p := by
  rw [State.sample, hl]
  exact if_neg (by rw [← Bool.not_eq_true, ← measured_follows s p code refOff] at hf; exact hf)

/-- The siblings' mean does not look at the phase's own sample. -/
theorem measured_ibar (hf : s.follows = false) (code : Nat) (refOff : Bool) : (s.measured p code refOff).ibar p = s.ibar p := by
  have hm := measured_frame s p code refOff
  have hcur {q : Nat} (hq : p ≠ q) : (s.measured p code refOff).cur q = s.cur q := by
    rw [State.cur, State.cur, measured_follows, hf]
    exact congrArg (toS _) (measured_other hq s code refOff (by decide))
  have hok {q : Nat} (hq : p ≠ q) : (s.measured p code refOff).curOk q = s.curOk q := by
    rw [State.curOk, State.curOk, measured_follows, hf]
    exact congrArg (· == 1) (measured_other hq s code refOff (by decide))
  have hsib : (s.measured p code refOff).siblings p = s.siblings p := by
    rw [State.siblings, State.siblings, hm.rd (by decide), phasesOf_congr (hm.rd (by decide))]
    refine List.filter_congr fun q _ => ?_
    by_cases hq : p = q
    · simp [hq]
    · rw [State.ph, hm.rd (by decide), hm.bit (by decide), hm.bit (by decide), hok hq, State.ph]
  have hcurs : (s.siblings p).map (s.measured p code refOff).cur = (s.siblings p).map s.cur := by
    refine List.map_congr_left fun q hq => hcur ?_
    have hne := (List.mem_filter.1 hq).2
    simp only [Bool.and_eq_true, bne_iff_ne] at hne
    exact fun h => hne.1.1.1.1 h.symm
  simp only [State.ibar, hsib, hcurs]

/-! ## A run of a phase -/

/-- The current that a run of the phase uses. -/
def State.usedNext (s : State) (p : Nat) : Int :=
  if s.bit R.PD_PH_STAT_DERATED p then (match s.ibar p with | some (a, n) => openDivI a n | none => s.used p) else s.cur p

/-- The judgement counts start anew. -/
def State.countsReset (s : State) (p : Nat) : State :=
  ((s.judgeCount H.PD_DEVC p false).judgeCount H.PD_INVC p false).judgeCount H.PD_CLAMPC p false

/-- The duties that follow, and the rail's current limits (R245, R303). -/
def State.currentLimits (s : State) (r : Nat) : State :=
  let s4 := s.refreshDuty r
  let big := decide (((s4.rd R.PD_RAIL_SHED_ADD_CUR r * s4.nPulse r * 32 : Nat) : Int) < s4.iRail r * 10)
  let high := decide (((2 * s4.rd R.PD_RAIL_SKIP_SKIP_CUR r * s4.nPulse r * 32 : Nat) : Int) < s4.iRail r * 10)
  (s4.when big (fun t => t.stepDetected r)).when high (fun t => t.endSkip r)

theorem currentLimits_frame (s : State) (r : Nat) : Frame Frame.stepDetectedReach s (s.currentLimits r) := by
  unfold State.currentLimits
  extract_lets s4 big high
  have h4 : Frame Frame.stepDetectedReach s s4 := (Frame.refl s).refreshDuty
  exact (h4.when fun _ hu => hu.stepDetected).when fun _ hu => hu.endSkip

/-- After the used current, what a run of the phase still does. -/
theorem runPhase_last (s : State) (p : Nat) : Frame (Frame.stepDetectedReach.and (.regs [H.PD_CLAMPC, H.PD_INVC, H.PD_DEVC]))
    (s.wrS R.PD_PH_CURRENT_USED p (s.usedNext p)) (s.runPhase p) := by
  unfold State.runPhase
  extract_lets r i ok der bar s2 c m s3 s4 big high
  have h2 : s2 = s.wrS R.PD_PH_CURRENT_USED p (s.usedNext p) := rfl
  have h3 : Frame (.regs [R.PD_PH_DUTY_SHARE, H.PD_CLAMPC, H.PD_INVC, H.PD_DEVC]) s2 s3 := by
    unfold s3
    clear_value s2 bar
    cases bar with
    | none => exact (Frame.refl _).judgeCount.judgeCount.judgeCount
    | some x => exact Frame.ite (Frame.refl _).judgeCount.judgeCount.judgeCount.wrS (Frame.refl _).judgeCount.judgeCount.judgeCount
  rw [← h2]
  exact (h3.mono (by decide +kernel)).trans ((currentLimits_frame s3 r).mono (by decide +kernel))

theorem runPhase_used (hp : p < 128) (hd : s.bit R.PD_PH_STAT_DERATED p = false) :
    (s.runPhase p).rd R.PD_PH_CURRENT_USED p = ofS R.PD_PH_CURRENT_USED.wid (s.cur p) := by
  rw [(runPhase_last s p).rd (by decide +kernel), State.wrS, State.rd_wr_below hp _ _ (by decide) le_rfl, if_pos rfl, ofS_mod,
    State.usedNext, hd]
  rfl

/-- Where no sibling qualifies the phase is not judged. -/
theorem runPhase_alone (h : s.ibar p = none) : s.runPhase p
    = ((s.wrS R.PD_PH_CURRENT_USED p (s.usedNext p)).countsReset p).currentLimits (s.rd R.PD_PH_STAT_RAIL p) := by
  unfold State.runPhase State.usedNext
  rw [h]
  rfl

/-- An add leaves the share of a phase that is not in FALLOW. -/
theorem addFallow_share (h : s.ph p ≠ 3) (r k : Nat) : (s.addFallow r k).rd R.PD_PH_DUTY_SHARE p = s.rd R.PD_PH_DUTY_SHARE p := by
  have hrest (u : State) : Frame (Frame.rerankReach.and (Frame.refreshDutyReach.and (Frame.endSkipReach.and (.regs [H.PD_DWELL_CNT]))))
      u ((((u.wr H.PD_DWELL_CNT r 0).endSkip r).rerank r).refreshDuty r) := (Frame.refl u).wr.endSkip.rerank.refreshDuty
  have hno : p ∉ (s.inState r 3).take k := fun hm =>
    h (beq_iff_eq.1 (List.mem_filter.1 (List.mem_of_mem_take hm)).2)
  rw [State.addFallow]
  split
  · rfl
  · rw [(hrest _).rd (by decide)]
    refine rd_foldl_of_notMem (fun u x hx => ?_) hno s
    simp (disch := decide) only [State.toAdding, State.clearElems, List.foldl_cons, List.foldl_nil, State.rd_wr_apart,
      State.rd_wr_idx _ hx]

theorem stepDetected_share (h : s.ph p ≠ 3) (r : Nat) : (s.stepDetected r).rd R.PD_PH_DUTY_SHARE p = s.rd R.PD_PH_DUTY_SHARE p := by
  have hd := dropShed_frame s r
  rw [State.stepDetected]
  split
  · rw [State.rd_wr_apart _ (by decide), State.rd_inc_apart _ (by decide),
      addFallow_share (by rw [State.ph, hd.rd (by decide)]; exact h), hd.rd (by decide)]
  · split
    · exact hd.rd (by decide) p
    · rfl

theorem currentLimits_share (h : s.ph p ≠ 3) (r : Nat) :
    (s.currentLimits r).rd R.PD_PH_DUTY_SHARE p = s.rd R.PD_PH_DUTY_SHARE p := by
  have hduty : Frame Frame.refreshDutyReach s (s.refreshDuty r) := (Frame.refl s).refreshDuty
  unfold State.currentLimits
  extract_lets s4 big high
  have hskip : Frame Frame.endSkipReach (s4.when big fun t => t.stepDetected r)
      ((s4.when big fun t => t.stepDetected r).when high fun t => t.endSkip r) := (Frame.refl _).when fun _ hu => hu.endSkip
  have h4 : s4.rd R.PD_PH_DUTY_SHARE p = s.rd R.PD_PH_DUTY_SHARE p := hduty.rd (by decide) p
  rw [hskip.rd (by decide), State.rd_when]
  split
  · rw [stepDetected_share (fun h3 => h ((hduty.rd (by decide) p).symm.trans h3)), h4]
  · exact h4

theorem countsReset_zero (hp : p < 128) (s : State) : (s.countsReset p).rd H.PD_DEVC p = 0 ∧ (s.countsReset p).rd H.PD_INVC p = 0
    ∧ (s.countsReset p).rd H.PD_CLAMPC p = 0 := by
  simp (disch := decide) only [State.countsReset, State.judgeCount, State.rd_wr_apart, State.rd_wr_below hp, if_true]
  exact ⟨rfl, rfl, rfl⟩

end

/-- Settles O20: conversions and samples. -/
theorem conversionsAndSamples : Obligations.ConversionsAndSamples := by
  unfold Obligations.ConversionsAndSamples
  refine ⟨?_, ?_, ?_, ?_, ?_, ?_, ?_, ?_, ?_, ?_⟩
  · intro s r code hr hl hf
    have hlt := mem_rails_lt hr
    have hc := converted_frame s r code
    obtain ⟨hown, hprev⟩ := converted_own hlt s code
    have hrun : Frame Frame.runRailReach (s.converted r code) ((s.converted r code).runRail r (code % 2 ^ 18)) := (Frame.refl _).runRail
    obtain ⟨hsense, hsg, herr, hint⟩ := runRail_says hlt (s.converted r code) (code % 2 ^ 18)
    have hvref : (s.converted r code).vref r = s.vref r := vref_congr (hc.bit (by decide) r) (hc.rd (by decide) r) (hc.rd (by decide) r)
    have hphases : (s.converted r code).phasesOf r = s.phasesOf r := phasesOf_congr (hc.rd (by decide)) r
    have hall : Frame (.regsOut [H.PD_VSENSE, H.PD_VOWN, H.PD_VS_PREV, H.PD_SG2, H.PD_EPREV, H.PD_INTEG, H.PD_DRAIL, H.PD_PG_CNT,
        H.PD_TRUNC_NOW, R.PD_RAIL_STAT_TRUNCATING, R.PD_PH_DUTY_DUTY, H.PD_RET_ACT, H.PD_SHED_PEND, H.PD_DWELL_CNT,
        H.PD_SKIP_END, R.PD_PH_STAT_STATE, R.PD_PH_DUTY_SHARE, H.PD_ADD_PER, H.PD_POS, H.PD_WID, R.PD_PH_STAT_RANK,
        R.CROOK_RAIL_STAT_ABORTS, H.PD_ALARM_NOW]) s ((s.converted r code).runRail r (code % 2 ^ 18)) :=
      (hc.mono (by decide +kernel)).trans (hrun.mono (by decide +kernel))
    have habove : ((s.converted r code).wr H.PD_VSENSE r (code % 2 ^ 18)).above r 60 = (s.wr H.PD_VSENSE r code).above r 60 := by
      have hw (u : State) (v : Nat) : Frame (.regs [H.PD_VSENSE]) u (u.wr H.PD_VSENSE r v) := (Frame.refl u).wr
      refine above_congr ?_ ?_ 60
      · rw [vref_congr ((hw _ _).bit (by decide) r) ((hw _ _).rd (by decide) r) ((hw _ _).rd (by decide) r), hvref,
          vref_congr ((hw _ _).bit (by decide) r) ((hw _ _).rd (by decide) r) ((hw _ _).rd (by decide) r)]
      · rw [State.rd_wr_below hlt _ _ (by decide) le_rfl, if_pos rfl, State.rd_wr_below hlt _ _ (by decide) le_rfl, if_pos rfl]
        exact Nat.mod_mod _ _
    refine .of_go (t := (s.converted r code).runRail r (code % 2 ^ 18)) (by rw [exec_railSenseConversion hr, convert_runs hl hf, hown])
      ⟨hsense.trans (Nat.mod_mod _ _), (hrun.rd (by decide +kernel) r).trans hown, (hrun.rd (by decide +kernel) r).trans hprev, ?_, ?_,
        fun h => ?_, hall.kinds, hall.onlyRegsOut⟩
    · rw [hsg, habove, hc.rd (by decide)]
    · rw [herr, vtgtM_congr hvref (hc.rd (by decide) r) hphases (hc.rd (by decide)), Nat.mod_mod]
      rfl
    · rw [hint ((nPulse_congr hphases (hc.rd (by decide))).trans h), hc.rd (by decide)]
  · intro s r code hr hl hf
    rw [exec_railSenseConversion hr, convert_follows hl hf]
    rfl
  · intro s p code refOff ha hl
    have hp := lt_of_allocated ha
    have hm := measured_frame s p code refOff
    obtain ⟨hmeas, hok⟩ := measured_says hp s code refOff
    have hlast : Frame Frame.runPhaseReach (s.measured p code refOff) (s.sample p code refOff) := by
      cases hf : s.follows with
      | true =>
        rw [sample_follows hl hf]
        exact .refl _
      | false =>
        rw [sample_runs hl hf]
        exact (Frame.refl _).runPhase
    have hall : Frame (.regs [R.PD_PH_CURRENT_MEAS, R.PD_PH_STAT_SENSE_OK, R.PD_PH_CURRENT_USED, H.PD_SAMP, H.PD_DEVC, H.PD_INVC,
        H.PD_CLAMPC, R.PD_PH_DUTY_DUTY, H.PD_RET_ACT, H.PD_SHED_PEND, H.PD_DWELL_CNT, H.PD_SKIP_END, R.PD_PH_STAT_STATE,
        R.PD_PH_DUTY_SHARE, H.PD_ADD_PER, H.PD_POS, H.PD_WID, R.PD_PH_STAT_RANK, R.CROOK_RAIL_STAT_ABORTS,
        H.PD_ALARM_NOW]) s (s.sample p code refOff) := (hm.mono (by decide +kernel)).trans (hlast.mono (by decide +kernel))
    exact .of_go (exec_phaseCurrentSample ha) ⟨(hlast.rd (by decide +kernel) p).trans hmeas, (hlast.bit (by decide +kernel) p).trans hok,
      hall.kinds, hall.onlyRegs⟩
  · exact fun s r code h => exec_railSenseConversion_none h
  · intro s r code hr hl
    have hall : Frame (.regsOut [H.PD_SG2, R.PD_RAIL_STAT_TRUNCATING, H.PD_TRUNC_NOW]) s (s.overshoot r) := (Frame.refl s).overshoot
    exact .of_go (t := s.overshoot r) (by rw [exec_railSenseConversion hr, convert_loops hl])
      ⟨overshoot_count (mem_rails_lt hr) s, hall.kinds, hall.onlyRegsOut⟩
  · exact fun s p code refOff h => exec_phaseCurrentSample_none h
  · intro s p code refOff ha hl hf
    have hp := lt_of_allocated ha
    refine .of_go (t := s.measured p code refOff) (by rw [exec_phaseCurrentSample ha, sample_follows hl hf])
      ⟨?_, (measured_frame s p code refOff).onlyRegs⟩
    simp [State.measured, State.wrS, State.wrB]
  · intro s p code refOff ha hl hf hd
    have hp := lt_of_allocated ha
    have hm := measured_frame s p code refOff
    obtain ⟨hmeas, -⟩ := measured_says hp s code refOff
    refine .of_go (t := (s.measured p code refOff).runPhase p) (by rw [exec_phaseCurrentSample ha, sample_runs hl hf]) ?_
    rw [runPhase_used hp (by rwa [hm.bit (by decide)]), State.cur, measured_follows, hf]
    simp only [Bool.false_eq_true, if_false, State.rdS, hmeas]
    exact congrArg (ofS 16) ((congrArg (toS 16) (ofS_mod 16 _).symm).trans (toS_mod_ofS (by omega) (by omega)))
  · intro s p code refOff ha hl hf hbar hph
    have hp := lt_of_allocated ha
    have hm := measured_frame s p code refOff
    have hrun := runPhase_alone ((measured_ibar (p := p) hf code refOff).trans hbar)
    have hexec : exec (.phaseCurrentSample p code refOff) s = ((s.measured p code refOff).runPhase p).go := by
      rw [exec_phaseCurrentSample ha, sample_runs hl hf]
    generalize s.measured p code refOff = u at *
    have hcounts : Frame (.regs [R.PD_PH_CURRENT_USED, H.PD_DEVC, H.PD_INVC, H.PD_CLAMPC]) u
        ((u.wrS R.PD_PH_CURRENT_USED p (u.usedNext p)).countsReset p) := (Frame.refl u).wrS.judgeCount.judgeCount.judgeCount
    have hlim := currentLimits_frame ((u.wrS R.PD_PH_CURRENT_USED p (u.usedNext p)).countsReset p) (u.rd R.PD_PH_STAT_RAIL p)
    obtain ⟨hdev, hinv, hclamp⟩ := countsReset_zero hp (u.wrS R.PD_PH_CURRENT_USED p (u.usedNext p))
    have hph' : ((u.wrS R.PD_PH_CURRENT_USED p (u.usedNext p)).countsReset p).ph p = 1 :=
      (hcounts.rd (by decide) p).trans ((hm.rd (by decide) p).trans hph)
    refine .of_go (t := u.runPhase p) hexec ⟨?_, ?_, ?_, ?_⟩
    · rw [hrun, currentLimits_share (by rw [hph']; decide), hcounts.rd (by decide), hm.rd (by decide)]
    · rw [hrun, hlim.rd (by decide), hdev]
    · rw [hrun, hlim.rd (by decide), hinv]
    · rw [hrun, hlim.rd (by decide), hclamp]
  · intro s p code refOff ha hl
    rw [exec_phaseCurrentSample ha, State.sample, if_pos hl]
    rfl

end Sys2Proof.Machine
end

section
/-! Intents and cancels (R41, R143, R285–R290). -/

set_option Elab.async false

namespace Sys2Proof.Machine

/-- A message that has arrived, before it is judged. -/
def State.arrived (s : State) (bs : List Nat) : State := (s.digest bs).wr H.BW_ARRIVED 0 (s.rd H.BW_ARRIVED 0 + 1)

section
variable {s u : State} {d o b fold tag seq rsv : Nat} {m : IntentMsg}

theorem arrived_frame (s : State) (bs : List Nat) : Frame (.regs [H.BW_CRC, H.BW_ARRIVED]) s (s.arrived bs) := (Frame.refl s).wr.wr

theorem arrive_takes (hd : d < 32) (hen : s.runEn = true) (hfull : s.latchFull = false) (bs : List Nat) (take : State → State) :
    s.arrive d bs take = take (s.arrived bs) := by
  rw [State.arrive, hen, hfull, decide_eq_false (Nat.not_le.2 hd)]
  rfl

theorem arrive_dropped (hd : d < 32) (hen : s.runEn = true) (hfull : s.latchFull = true) (bs : List Nat) (take : State → State) :
    s.arrive d bs take = s.inc R.BW_FOLD_CNT1_DROP d 1 := by
  rw [State.arrive, hen, hfull, decide_eq_false (Nat.not_le.2 hd)]
  rfl

theorem arrive_ignored (h : s.runEn = false ∨ 32 ≤ d) (bs : List Nat) (take : State → State) : s.arrive d bs take = s :=
  if_pos (by rcases h with h | h <;> simp [h])

theorem exec_intent (s : State) (d : Nat) (m : IntentMsg) :
    exec (.intent d m) s = (s.arrive d (intentBytes m) fun t => t.takeIntent d m).go := rfl

theorem exec_cancel (s : State) (d fold tag seq rsv : Nat) : exec (.cancel d fold tag ⟨seq, rsv⟩) s
    = (s.arrive d (cancelBytes fold tag seq rsv) fun t => t.takeCancel d fold tag seq rsv).go := rfl

/-! ## Judgement -/

/-- The sequence number is not newer than the last one accepted. -/
def State.staleSeq (s : State) (d seq : Nat) : Bool := s.bit H.BW_SEEN d && !newer 8 (s.rd R.BW_FOLD_STAT_LAST_SEQ d) seq

theorem staleSeq_false (h : s.bit H.BW_SEEN d = true → newer 8 (s.rd R.BW_FOLD_STAT_LAST_SEQ d) seq = true) :
    s.staleSeq d seq = false := by
  cases hs : s.bit H.BW_SEEN d with
  | false => simp [State.staleSeq, hs]
  | true => simp [State.staleSeq, h hs]

theorem staleSeq_true (hs : s.bit H.BW_SEEN d = true) (h : newer 8 (s.rd R.BW_FOLD_STAT_LAST_SEQ d) seq = false) :
    s.staleSeq d seq = true := by simp [State.staleSeq, hs, h]

/-- What the judgement of a message looks at, it finds as it was when the message came. -/
theorem arrived_judged (s : State) (bs : List Nat) : (s.arrived bs).zk4 = s.zk4 ∧ (s.arrived bs).frame = s.frame
    ∧ (s.arrived bs).rd R.BW_NETMAP_NET d = s.rd R.BW_NETMAP_NET d ∧ (s.arrived bs).staleSeq d seq = s.staleSeq d seq := by
  have h := arrived_frame s bs
  refine ⟨congrArg Ident.zk4 h.ident, h.rd (by decide) 0, h.rd (by decide) d, ?_⟩
  rw [State.staleSeq, h.bit (by decide), h.rd (by decide), ← State.staleSeq]

/-- The start of an intent, in frames from the coming boundary on. -/
def State.startsIn (s : State) (m : IntentMsg) : Nat := (m.start + 256 - (s.frame + 1) % 256) % 256

/-- An accepted intent's entry, by its start (R143, R289). -/
def State.enterAt (s u : State) (d : Nat) (m : IntentMsg) : State :=
  let o := s.startsIn m
  if 1 ≤ o ∧ o ≤ 64 then u.enterIntent d (s.frame + 1) ((s.frame + 1 + o : Nat) : Int) m
  else if 65 ≤ o ∧ o ≤ 127 then u.inc R.BW_FOLD_CNT1_FAR d 1
  else if m.duration ≠ 255 ∧ ((s.frame + 1 : Nat) : Int) - (((256 - o) % 256 : Nat) : Int) + (m.duration : Int) ≤ ((s.frame + 1 : Nat) : Int) then u
  else (u.inc R.BW_FOLD_CNT0_LATE d 1).enterIntent d (s.frame + 1) (((s.frame + 1 : Nat) : Int) - (((256 - o) % 256 : Nat) : Int)) m

theorem takeIntent_eq (s : State) (d : Nat) (m : IntentMsg) : s.takeIntent d m
    = if intentBad s.zk4 d m then s.inc R.BW_FOLD_CNT0_BAD d 1
      else if s.rd R.BW_NETMAP_NET d = 0xFF then s.inc R.BW_FOLD_CNT1_NOMAP d 1
      else if s.staleSeq d m.seq then s.inc R.BW_FOLD_CNT0_STALE d 1
      else s.enterAt (s.acceptSeq d m.seq) d m := rfl

theorem takeIntent_accepted (hbad : intentBad s.zk4 d m = false) (hnet : s.rd R.BW_NETMAP_NET d ≠ 0xFF)
    (hnew : s.staleSeq d m.seq = false) : s.takeIntent d m = s.enterAt (s.acceptSeq d m.seq) d m := by
  rw [takeIntent_eq, hbad, if_neg Bool.false_ne_true, if_neg hnet, hnew, if_neg Bool.false_ne_true]

/-- An intent that is accepted: sequenced, and entered by its start. -/
theorem exec_intent_accepted (hd : d < 32) (hen : s.runEn = true) (hfull : s.latchFull = false) (hbad : intentBad s.zk4 d m = false)
    (hnet : s.rd R.BW_NETMAP_NET d ≠ 0xFF)
    (hnew : s.bit H.BW_SEEN d = true → newer 8 (s.rd R.BW_FOLD_STAT_LAST_SEQ d) m.seq = true) :
    exec (.intent d m) s = (s.enterAt ((s.arrived (intentBytes m)).acceptSeq d m.seq) d m).go := by
  obtain ⟨hzk, hframe, hmap, hseq⟩ := arrived_judged (d := d) (seq := m.seq) s (intentBytes m)
  rw [exec_intent, arrive_takes hd hen hfull, takeIntent_accepted (by rwa [hzk]) (by rwa [hmap]) (hseq.trans (staleSeq_false hnew)),
    State.enterAt, State.startsIn, hframe]
  rfl

/-! ## What is accepted -/

theorem acceptSeq_frame (s : State) (d seq : Nat) : Frame (.regs [R.BW_FOLD_CNT0_GAP, R.BW_FOLD_STAT_LAST_SEQ, H.BW_SEEN]) s
    (s.acceptSeq d seq) := (show Frame _ s (if s.bit H.BW_SEEN d then s.inc R.BW_FOLD_CNT0_GAP d _ else s) from
      Frame.ite (Frame.refl s).inc (Frame.refl s)).wr.wr

theorem acceptSeq_says (hd : d < 32) (s : State) (seq : Nat) : (s.acceptSeq d seq).rd R.BW_FOLD_STAT_LAST_SEQ d = seq % 256
    ∧ (s.acceptSeq d seq).bit H.BW_SEEN d = true := by
  rw [State.acceptSeq, State.rd_wr_apart _ (by decide), State.rd_wr_below (show d < 64 by omega) _ _ (by decide) le_rfl, if_pos rfl,
    State.bit_wr_below hd _ _ (by decide) le_rfl rfl, if_pos rfl]
  exact ⟨Nat.mod_mod _ _, rfl⟩

/-- A message accepted, before what it does to the schedule. -/
theorem accepted_frame (s : State) (bs : List Nat) (d seq : Nat) : Frame (.regs [R.BW_FOLD_STAT_LAST_SEQ, H.BW_SEEN, H.BW_ARRIVED,
    H.BW_CRC, R.BW_FOLD_CNT0_GAP]) s ((s.arrived bs).acceptSeq d seq) :=
  ((arrived_frame s bs).mono (by decide)).trans ((acceptSeq_frame _ d seq).mono (by decide))

theorem startsIn_eq (ho : o < 256) (h : m.start = (s.frame + 1 + o) % 256) : s.startsIn m = o := by
  rw [State.startsIn]
  omega

theorem startsIn_back (hb : b ≤ 128) (h : m.start = (s.frame + 1 + 256 - b) % 256) : s.startsIn m = (256 - b) % 256 := by
  rw [State.startsIn]
  omega

theorem enterAt_ahead (h1 : 1 ≤ o) (h64 : o ≤ 64) (h : m.start = (s.frame + 1 + o) % 256) (u : State) :
    s.enterAt u d m = u.enterIntent d (s.frame + 1) ((s.frame + 1 + o : Nat) : Int) m := by
  rw [State.enterAt, startsIn_eq (by omega) h, if_pos ⟨h1, h64⟩]

theorem enterAt_far (h65 : 65 ≤ o) (h127 : o ≤ 127) (h : m.start = (s.frame + 1 + o) % 256) (u : State) :
    s.enterAt u d m = u.inc R.BW_FOLD_CNT1_FAR d 1 := by
  rw [State.enterAt, startsIn_eq (by omega) h, if_neg (by omega), if_pos ⟨h65, h127⟩]

theorem enterAt_late (hb : b ≤ 128) (h : m.start = (s.frame + 1 + 256 - b) % 256) (hdur : m.duration = 255 ∨ b < m.duration) (u : State) :
    s.enterAt u d m = (u.inc R.BW_FOLD_CNT0_LATE d 1).enterIntent d (s.frame + 1) (((s.frame + 1 : Nat) : Int) - (b : Int)) m := by
  have hback : (256 - (256 - b) % 256) % 256 = b := by omega
  rw [State.enterAt, startsIn_back hb h, hback, if_neg (by omega), if_neg (by omega), if_neg (by omega)]

theorem enterAt_ended (hb : b ≤ 128) (h : m.start = (s.frame + 1 + 256 - b) % 256) (h255 : m.duration ≠ 255) (hdur : m.duration ≤ b)
    (u : State) : s.enterAt u d m = u := by
  have hback : (256 - (256 - b) % 256) % 256 = b := by omega
  rw [State.enterAt, startsIn_back hb h, hback, if_neg (by omega), if_neg (by omega), if_pos ⟨h255, by omega⟩]

/-- The entry that an intent makes. -/
def entryOf (d k : Nat) (start : Int) (m : IntentMsg) : SchedEntry :=
  ⟨d, start, m.tileKind, m.format, m.opclass, m.tiles, m.duration, m.tag, k, false⟩

/-- What writes no schedule leaves it. -/
theorem Frame.sched {r : Reach} (h : Frame r s t) (hp : r.hasPart .sched = false := by rfl) : t.sched = s.sched := h.parts .sched hp

theorem schedAt_congr (h : u.sched = s.sched) (f k : Nat) : u.schedAt f k = s.schedAt f k := by rw [State.schedAt, h, ← State.schedAt]

/-- A schedule with a place takes the entry. -/
theorem enterIntent_enters {k : Nat} (h : (u.schedAt d k).length < 32) (start : Int) (m : IntentMsg) :
    ∃ v, Frame (.regs [R.BW_FOLD_CNT1_DUP_TAG]) u v ∧ u.enterIntent d k start m = { v with sched := v.sched ++ [entryOf d k start m] } :=
  ⟨u.when ((u.schedAt d k).any (fun e => e.tag == m.tag)) (fun t => t.inc R.BW_FOLD_CNT1_DUP_TAG d 1),
    (Frame.refl u).when fun _ hu => hu.inc, if_neg (Nat.not_le.2 h)⟩

theorem enterIntent_full {k : Nat} (h : 32 ≤ (u.schedAt d k).length) (start : Int) (m : IntentMsg) :
    u.enterIntent d k start m = u.inc R.BW_FOLD_CNT1_DROP d 1 := if_pos h

/-! ## Cancels -/

theorem takeCancel_eq (s : State) (d fold tag seq rsv : Nat) : s.takeCancel d fold tag seq rsv
    = if fold ≠ d ∨ computeFolds s.zk4 ≤ d ∨ rsv ≠ 0 then s.inc R.BW_FOLD_CNT0_BAD d 1
      else if s.rd R.BW_NETMAP_NET d = 0xFF then s.inc R.BW_FOLD_CNT1_NOMAP d 1
      else if s.staleSeq d seq then s.inc R.BW_FOLD_CNT0_STALE d 1
      else { s.acceptSeq d seq with sched := (s.acceptSeq d seq).sched.map (fun e =>
        if e.fold == d && e.tag == tag then { e with cancelled := true } else e) } := rfl

/-- An entry that a CANCEL names is marked. -/
def SchedEntry.cancel (d tag : Nat) (e : SchedEntry) : SchedEntry := if e.fold == d && e.tag == tag then { e with cancelled := true } else e

theorem SchedEntry.cancel_fold (d tag : Nat) (e : SchedEntry) : (e.cancel d tag).fold = e.fold := by
  unfold SchedEntry.cancel
  split <;> rfl

theorem SchedEntry.cancel_tag (d tag : Nat) (e : SchedEntry) : (e.cancel d tag).tag = e.tag := by
  unfold SchedEntry.cancel
  split <;> rfl

theorem cancels_named {l : List SchedEntry} {e : SchedEntry} (he : e ∈ l.map (SchedEntry.cancel d tag)) (hf : e.fold = d) (ht : e.tag = tag) :
    e.cancelled = true := by
  obtain ⟨x, -, rfl⟩ := List.mem_map.1 he
  rw [SchedEntry.cancel_fold] at hf
  rw [SchedEntry.cancel_tag] at ht
  rw [SchedEntry.cancel, if_pos (by simp [hf, ht])]

/-- The entries that a CANCEL does not name stay as they are. -/
theorem cancels_others (l : List SchedEntry) : (l.map (SchedEntry.cancel d tag)).filter (fun e => !(e.fold == d && e.tag == tag))
    = l.filter (fun e => !(e.fold == d && e.tag == tag)) := by
  induction l with
  | nil => rfl
  | cons e l ih =>
    rw [List.map_cons, List.filter_cons, List.filter_cons, ih, SchedEntry.cancel_fold, SchedEntry.cancel_tag]
    split
    · next h =>
      rw [SchedEntry.cancel, if_neg]
      intro hnamed
      rw [hnamed] at h
      exact absurd h (by decide)
    · rfl

theorem computeFolds_le (z : Bool) : computeFolds z ≤ 32 := by cases z <;> decide

end

/-- Settles O25: intents and cancels. -/
theorem intentsEnterTheSchedule : Obligations.IntentsEnterTheSchedule := by
  unfold Obligations.IntentsEnterTheSchedule
  refine ⟨?_, ?_, ?_, ?_, ?_, ?_, ?_, ?_, ?_, ?_, ?_, ?_, ?_, ?_, ?_, ?_⟩
  · intro s d o m hd hen hfull hbad hnet hnew h1 h64 _ hstart hroom
    have hacc := accepted_frame s (intentBytes m) d m.seq
    obtain ⟨hseq, hseen⟩ := acceptSeq_says hd (s.arrived (intentBytes m)) m.seq
    have hexec := exec_intent_accepted hd hen hfull hbad hnet hnew
    rw [enterAt_ahead h1 h64 hstart] at hexec
    generalize (s.arrived (intentBytes m)).acceptSeq d m.seq = u at *
    obtain ⟨v, hv, henter⟩ := enterIntent_enters (u := u) (by rwa [schedAt_congr hacc.sched]) ((s.frame + 1 + o : Nat) : Int) m
    have hall : Frame (.regs [R.BW_FOLD_STAT_LAST_SEQ, H.BW_SEEN, H.BW_ARRIVED, H.BW_CRC, R.BW_FOLD_CNT0_GAP, R.BW_FOLD_CNT1_DUP_TAG]) s v :=
      (hacc.mono (by decide)).trans (hv.mono (by decide))
    rw [henter] at hexec
    refine .of_go hexec ⟨?_, (hv.rd (by decide) d).trans hseq, (hv.bit (by decide) d).trans hseen, hall.kinds, ?_⟩
    · exact congrArg (· ++ [_]) hall.sched
    · have h := hall.onlyRegs
      rw [h]
  · intro s d m hd hen hfull hbad
    obtain ⟨hzk, -, -, -⟩ := arrived_judged (d := d) (seq := m.seq) s (intentBytes m)
    rw [exec_intent, arrive_takes hd hen hfull, takeIntent_eq, hzk, hbad]
    rfl
  · intro s d m hd hen hfull hbad hnet hseen hold
    obtain ⟨hzk, -, hmap, hseq⟩ := arrived_judged (d := d) (seq := m.seq) s (intentBytes m)
    rw [exec_intent, arrive_takes hd hen hfull, takeIntent_eq, hzk, hbad, if_neg Bool.false_ne_true, if_neg (by rwa [hmap]), hseq,
      staleSeq_true hseen hold]
    rfl
  · intro s d tag seq hd hen hfull hnet hnew
    have hd32 : d < 32 := hd.trans_le (computeFolds_le _)
    obtain ⟨hzk, -, hmap, hstale⟩ := arrived_judged (d := d) (seq := seq) s (cancelBytes d tag seq 0)
    have hacc := accepted_frame s (cancelBytes d tag seq 0) d seq
    obtain ⟨hseq, -⟩ := acceptSeq_says hd32 (s.arrived (cancelBytes d tag seq 0)) seq
    have hexec : exec (.cancel d d tag ⟨seq, 0⟩) s = (State.go { (s.arrived (cancelBytes d tag seq 0)).acceptSeq d seq with
        sched := ((s.arrived (cancelBytes d tag seq 0)).acceptSeq d seq).sched.map (SchedEntry.cancel d tag) }) := by
      rw [exec_cancel, arrive_takes hd32 hen hfull, takeCancel_eq, hzk, if_neg (by omega), if_neg (by rwa [hmap]), hstale,
        staleSeq_false hnew, if_neg Bool.false_ne_true]
      rfl
    generalize (s.arrived (cancelBytes d tag seq 0)).acceptSeq d seq = u at *
    refine .of_go hexec ⟨fun e he hf ht => cancels_named he hf ht, ?_, ?_, hseq, hacc.kinds, ?_⟩
    · exact (List.length_map _).trans (congrArg List.length hacc.sched)
    · exact (cancels_others _).trans (congrArg _ hacc.sched)
    · have h := hacc.onlyRegs
      rw [h]
  · intro s d m h
    rw [exec_intent, arrive_ignored h]
    rfl
  · intro s d m hd hen hfull
    rw [exec_intent, arrive_dropped hd hen hfull]
    rfl
  · intro s d m hd hen hfull hbad hnet
    obtain ⟨hzk, -, hmap, -⟩ := arrived_judged (d := d) (seq := m.seq) s (intentBytes m)
    rw [exec_intent, arrive_takes hd hen hfull, takeIntent_eq, hzk, hbad, if_neg Bool.false_ne_true, if_pos (hmap.trans hnet)]
    rfl
  · intro s d o m hd hen hfull hbad hnet hnew h65 h127 _ hstart
    have hacc := accepted_frame s (intentBytes m) d m.seq
    obtain ⟨hseq, -⟩ := acceptSeq_says hd (s.arrived (intentBytes m)) m.seq
    have hexec := exec_intent_accepted hd hen hfull hbad hnet hnew
    rw [enterAt_far h65 h127 hstart] at hexec
    generalize (s.arrived (intentBytes m)).acceptSeq d m.seq = u at *
    have hall : Frame (.regs [R.BW_FOLD_STAT_LAST_SEQ, H.BW_SEEN, H.BW_ARRIVED, H.BW_CRC, R.BW_FOLD_CNT0_GAP, R.BW_FOLD_CNT1_FAR]) s
        (u.inc R.BW_FOLD_CNT1_FAR d 1) := (hacc.mono (by decide)).inc
    refine .of_go hexec ⟨?_, ?_, hall.kinds, hall.onlyRegs⟩
    · rw [State.rd_inc_below (show d < 64 by omega) _ _ (by decide) le_rfl, if_pos rfl, hacc.rd (by decide)]
    · rw [State.rd_inc_apart _ (by decide), hseq]
  · intro s d b m hd hen hfull hbad hnet hnew hb _ hstart hdur hroom
    have hacc := accepted_frame s (intentBytes m) d m.seq
    obtain ⟨hseq, -⟩ := acceptSeq_says hd (s.arrived (intentBytes m)) m.seq
    have hexec := exec_intent_accepted hd hen hfull hbad hnet hnew
    rw [enterAt_late hb hstart hdur] at hexec
    generalize (s.arrived (intentBytes m)).acceptSeq d m.seq = u at *
    have hlate : Frame (.regs [R.BW_FOLD_CNT0_LATE]) u (u.inc R.BW_FOLD_CNT0_LATE d 1) := (Frame.refl u).inc
    obtain ⟨v, hv, henter⟩ := enterIntent_enters (u := u.inc R.BW_FOLD_CNT0_LATE d 1)
      (by rwa [schedAt_congr (hlate.sched.trans hacc.sched)]) (((s.frame + 1 : Nat) : Int) - (b : Int)) m
    rw [henter] at hexec
    refine .of_go hexec ⟨?_, ?_, ?_⟩
    · exact congrArg (· ++ [_]) (hv.sched.trans (hlate.sched.trans hacc.sched))
    · refine (hv.rd (by decide) d).trans ?_
      rw [State.rd_inc_below (show d < 64 by omega) _ _ (by decide) le_rfl, if_pos rfl, hacc.rd (by decide)]
    · refine (hv.rd (by decide) d).trans ?_
      rw [State.rd_inc_apart _ (by decide), hseq]
  · intro s d b m hd hen hfull hbad hnet hnew hb _ hstart h255 hdur
    have hacc := accepted_frame s (intentBytes m) d m.seq
    obtain ⟨hseq, -⟩ := acceptSeq_says hd (s.arrived (intentBytes m)) m.seq
    have hexec := exec_intent_accepted hd hen hfull hbad hnet hnew
    rw [enterAt_ended hb hstart h255 hdur] at hexec
    exact .of_go hexec ⟨hseq, hacc.kinds, hacc.onlyRegs⟩
  · intro s d o m hd hen hfull hbad hnet hnew h1 h64 _ hstart hno
    have hacc := accepted_frame s (intentBytes m) d m.seq
    obtain ⟨hseq, -⟩ := acceptSeq_says hd (s.arrived (intentBytes m)) m.seq
    have hexec := exec_intent_accepted hd hen hfull hbad hnet hnew
    rw [enterAt_ahead h1 h64 hstart, enterIntent_full (by rwa [schedAt_congr hacc.sched])] at hexec
    generalize (s.arrived (intentBytes m)).acceptSeq d m.seq = u at *
    have hall : Frame (.regs [R.BW_FOLD_STAT_LAST_SEQ, H.BW_SEEN, H.BW_ARRIVED, H.BW_CRC, R.BW_FOLD_CNT0_GAP, R.BW_FOLD_CNT1_DROP]) s
        (u.inc R.BW_FOLD_CNT1_DROP d 1) := (hacc.mono (by decide)).inc
    refine .of_go hexec ⟨?_, ?_, hall.onlyRegs⟩
    · rw [State.rd_inc_below (show d < 64 by omega) _ _ (by decide) le_rfl, if_pos rfl, hacc.rd (by decide)]
    · rw [State.rd_inc_apart _ (by decide), hseq]
  · intro s d fold tag seq rsv h
    rw [exec_cancel, arrive_ignored h]
    rfl
  · intro s d fold tag seq rsv hd hen hfull
    rw [exec_cancel, arrive_dropped hd hen hfull]
    rfl
  · intro s d fold tag seq rsv hd hen hfull hbad
    obtain ⟨hzk, -, -, -⟩ := arrived_judged (d := d) (seq := seq) s (cancelBytes fold tag seq rsv)
    rw [exec_cancel, arrive_takes hd hen hfull, takeCancel_eq, hzk, if_pos hbad]
    rfl
  · intro s d tag seq hd hen hfull hnet
    have hd32 : d < 32 := hd.trans_le (computeFolds_le _)
    obtain ⟨hzk, -, hmap, -⟩ := arrived_judged (d := d) (seq := seq) s (cancelBytes d tag seq 0)
    rw [exec_cancel, arrive_takes hd32 hen hfull, takeCancel_eq, hzk, if_neg (by omega), if_pos (hmap.trans hnet)]
    rfl
  · intro s d tag seq hd hen hfull hnet hseen hold
    have hd32 : d < 32 := hd.trans_le (computeFolds_le _)
    obtain ⟨hzk, -, hmap, hstale⟩ := arrived_judged (d := d) (seq := seq) s (cancelBytes d tag seq 0)
    rw [exec_cancel, arrive_takes hd32 hen hfull, takeCancel_eq, hzk, if_neg (by omega), if_neg (by rwa [hmap]), hstale,
      staleSeq_true hseen hold]
    rfl

end Sys2Proof.Machine
end

section
/-! Bellwether: its evaluation, its weight errors and its early adds (R243, R291–R299, R305, R310–R314). -/

set_option Elab.async false

namespace Sys2Proof.Machine

/-! ## What the evaluation reads -/

section
variable {s t u : State} {r : Reach}

/-- The fields that say whether a fold's network is valid. -/
def validNetFields : List Fld := [R.BW_NETMAP_NET, R.RUN_EN, R.BW_STATUS_NET_VALID]

theorem Frame.validNet (h : Frame r s t) (hr : (validNetFields.all fun g => r.flds.all fun f => f.apart g) = true) (f : Nat) :
    t.validNet f = s.validNet f := by
  simp only [validNetFields, List.all_cons, List.all_nil, Bool.and_eq_true, and_true] at hr
  obtain ⟨hnet, hen, hvalid⟩ := hr
  rw [State.validNet, State.validNet, State.runEn, State.runEn, h.rd hnet, h.bit hen, h.rd hvalid]

/-- The fields that place the networks in the weight memory. -/
def layerFields : List Fld := [R.BW_LAYER_WBASE, R.BW_LAYER_IN, R.BW_LAYER_OUT]

theorem Frame.netOfWord (h : Frame r s t) (hr : (layerFields.all fun g => r.flds.all fun f => f.apart g) = true) (w : Nat) :
    t.netOfWord w = s.netOfWord w := by
  simp only [layerFields, List.all_cons, List.all_nil, Bool.and_eq_true, and_true] at hr
  obtain ⟨hbase, hin, hout⟩ := hr
  simp only [State.netOfWord, h.rd hbase, h.rd hin, h.rd hout]

theorem folds_congr (h : t.map = s.map) : t.folds = s.folds := by rw [State.folds, State.recsOf, h, ← State.recsOf, ← State.folds]

theorem running_congr (h : t.rd R.RUN_STATE 0 = s.rd R.RUN_STATE 0) : t.running = s.running := by
  rw [State.running, h, ← State.running]

theorem netOfWord_lt {w k : Nat} (h : s.netOfWord w = some k) : k < 4 := by
  obtain ⟨d, hd, rfl⟩ := Option.map_eq_some_iff.1 h
  have := List.mem_range.1 (List.mem_of_find?_eq_some hd)
  omega

theorem validNet_net {f k : Nat} (h : s.validNet f = some k) :
    s.rd R.BW_NETMAP_NET f = k ∧ bitOf (s.rd R.BW_STATUS_NET_VALID 0) k = true := by
  unfold State.validNet at h
  dsimp only at h
  split at h
  · next hc =>
    obtain rfl := Option.some.inj h
    simp only [Bool.and_eq_true] at hc
    exact ⟨rfl, hc.2⟩
  · cases h

theorem validNet_lt {f k : Nat} (h : s.validNet f = some k) : k < 4 := by
  unfold State.validNet at h
  dsimp only at h
  split at h
  · next hc =>
    obtain rfl := Option.some.inj h
    simp only [Bool.and_eq_true, decide_eq_true_eq] at hc
    exact hc.1.2
  · cases h

theorem validNet_none {f k : Nat} (h : s.rd R.BW_NETMAP_NET f = k) (hk : bitOf (s.rd R.BW_STATUS_NET_VALID 0) k = false) :
    s.validNet f = none := by
  simp [State.validNet, h, hk]

end

/-! ## Folds evaluated -/

section
variable {s t u : State} {f k : Nat}

theorem evalFold_frame (s : State) (f : Nat) : Frame Frame.evalFoldReach s (s.evalFold f) := (Frame.refl s).evalFold

theorem evalFold_valid (hf : f < 64) (s : State) : (s.evalFold f).bit R.BW_FOLD_STAT_VALID f = (s.validNet f).isSome := by
  unfold State.evalFold
  split
  · next h =>
    rw [State.bit_wr_below hf _ _ (by decide) (by decide) rfl, if_pos rfl, h]
    rfl
  · next h =>
    rw [State.bit_wr_below hf _ _ (by decide) (by decide) rfl, if_pos rfl, h]
    rfl

theorem setFcast_frame (s : State) (f : Nat) (v : List Nat) : Frame Frame.setFcastReach s (s.setFcast f v) := (Frame.refl s).setFcast

theorem evalFold_valid_other {x : Nat} (h : x ≠ f) (s : State) :
    (s.evalFold x).bit R.BW_FOLD_STAT_VALID f = s.bit R.BW_FOLD_STAT_VALID f := by
  unfold State.evalFold
  split
  · rw [State.bit, State.rd_wr_idx _ h (by decide), (setFcast_frame s x _).rd (by decide), ← State.bit]
  · rw [State.bit, State.rd_wr_idx _ h (by decide), (setFcast_frame s x _).rd (by decide), ← State.bit]

/-- Each fold that is evaluated shows whether its network is valid. -/
theorem evalFolds_valid {l : List Nat} (hf : f < 64) (hin : f ∈ l) (s : State) :
    (l.foldl State.evalFold s).bit R.BW_FOLD_STAT_VALID f = (s.validNet f).isSome := by
  refine foldl_at (I := fun u => u.validNet f = s.validNet f)
    (Q := fun u => u.bit R.BW_FOLD_STAT_VALID f = (s.validNet f).isSome) hin
    (fun u x hu => ((evalFold_frame u x).validNet (by decide) f).trans hu) (fun u hu => (evalFold_valid hf u).trans (by rw [hu]))
    (fun u x hu hq => ?_) s rfl
  by_cases hx : x = f
  · rw [hx, evalFold_valid hf, hu]
  · rw [evalFold_valid_other hx, hq]

/-- Folds evaluated anew leave one that already shows whether its network is valid. -/
theorem evalFolds_keeps {l : List Nat} (hf : f < 64) (h : s.bit R.BW_FOLD_STAT_VALID f = (s.validNet f).isSome) :
    (l.foldl State.evalFold s).bit R.BW_FOLD_STAT_VALID f = (s.validNet f).isSome := by
  by_cases hin : f ∈ l
  · exact evalFolds_valid hf hin s
  · refine List.foldlRecOn l State.evalFold (motive := fun u => u.bit R.BW_FOLD_STAT_VALID f = (s.validNet f).isSome) h
      fun u hu x hx => ?_
    rw [evalFold_valid_other (fun e : x = f => hin (e ▸ hx)), hu]

theorem evalRails_frame (s : State) (l : List Nat) : Frame Frame.evalRailReach s (l.foldl State.evalRail s) :=
  (Frame.refl s).foldl fun _ _ hu => hu.evalRail

theorem dropInvalid_keeps (hf : f < 64) (h : s.bit R.BW_FOLD_STAT_VALID f = (s.validNet f).isSome) :
    s.dropInvalid.bit R.BW_FOLD_STAT_VALID f = (s.validNet f).isSome :=
  ((evalRails_frame s.dropFolds _).bit (by decide) f).trans (evalFolds_keeps hf h)

theorem missTests_frame (s : State) (l : List Nat) : Frame Frame.missTestReach s (l.foldl State.missTest s) :=
  (Frame.refl s).foldl fun _ _ hu => hu.missTest

/-- The frame's evaluation up to its rails: the folds, after the miss tests. -/
def State.foldsFormed (s : State) : State := (s.rails.foldl State.missTest s).folds.foldl State.evalFold (s.rails.foldl State.missTest s)

theorem bwOnce_eq (hrun : s.running = true) (hdone : s.bit H.BW_DONE 0 = false) :
    ∃ v, Frame Frame.evalRailReach s.foldsFormed v ∧ s.bwOnce = (v.wr H.BW_DONE 0 1).wr H.BW_CYC_NOW 0 v.macCycles := by
  refine ⟨_, evalRails_frame s.foldsFormed s.foldsFormed.rails, ?_⟩
  rw [State.bwOnce, if_neg (by simp [hrun, hdone])]
  rfl

theorem bwOnce_done (h : s.bit H.BW_DONE 0 = true) : s.bwOnce = s := by
  rw [State.bwOnce, h]
  rfl

theorem bwOnce_valid (hrun : s.running = true) (hdone : s.bit H.BW_DONE 0 = false) (hin : f ∈ s.folds) (hf : f < 64) :
    s.bwOnce.bit R.BW_FOLD_STAT_VALID f = (s.validNet f).isSome ∧ s.bwOnce.bit H.BW_DONE 0 = true := by
  have hmiss := missTests_frame s s.rails
  obtain ⟨v, hv, heq⟩ := bwOnce_eq hrun hdone
  rw [heq]
  refine ⟨?_, ?_⟩
  · rw [State.bit_wr_apart _ (by decide), State.bit_wr_apart _ (by decide), hv.bit (by decide), State.foldsFormed,
      evalFolds_valid hf (by rwa [folds_congr hmiss.map]), hmiss.validNet (by decide)]
  · rw [State.bit_wr_apart _ (by decide), State.bit_wr_below Nat.one_pos _ _ (by decide) (by decide) rfl, if_pos rfl]
    rfl

end

/-! ## The forecast of a network -/

section
variable {s t u : State} {f k : Nat}

/-- Eight values that fit, set as a fold's forecast, are its forecast. -/
theorem setFcast_reads {g : Nat → Nat} (hg : ∀ h, g h < 65536) (hf : f < 64) {h : Nat} (hh : h < 8) (s : State) :
    (s.setFcast f ((List.range 8).map g)).fcast f (h + 1) = g h := by
  have hval (j : Nat) : g j % 2 ^ 16 = g j := Nat.mod_eq_of_lt (hg j)
  rw [show List.range 8 = [0, 1, 2, 3, 4, 5, 6, 7] from rfl, State.setFcast, fcastFlds]
  interval_cases h <;>
    simp (disch := decide) only [State.fcast, fcastFlds, List.map_cons, List.map_nil, List.zip_cons_cons, List.zip_nil_left,
      List.foldl_cons, List.foldl_nil, State.rd_wr_apart, Nat.add_sub_cancel, List.getElem?_cons_zero, List.getElem?_cons_succ] <;>
    · rw [State.rd_wr_below hf _ _ (by decide) (by decide), if_pos rfl]
      exact hval _

theorem fcastFlds_apart : ∀ a ∈ fcastFlds, ∀ b ∈ fcastFlds, a = b ∨ a.apart b = true := by decide

theorem fcastFlds_stride : ∀ a ∈ fcastFlds, 0 < a.stride := by decide

theorem setFcast_other {x : Nat} (hx : x ≠ f) (v : List Nat) {b : Fld} (hb : b ∈ fcastFlds) (s : State) :
    (s.setFcast x v).rd b f = s.rd b f := by
  refine List.foldlRecOn (fcastFlds.zip v) _ (motive := fun u : State => u.rd b f = s.rd b f) rfl fun u hu p hp => ?_
  have hp1 := (List.of_mem_zip hp).1
  obtain heq | hap := fcastFlds_apart p.1 hp1 b hb
  · rw [heq, State.rd_wr_idx _ hx (fcastFlds_stride b hb), hu]
  · rw [State.rd_wr_apart _ hap, hu]

/-- The evaluation of a fold leaves the forecasts of the others. -/
theorem evalFold_fcast_other {x : Nat} (hx : x ≠ f) (h : Nat) (s : State) : (s.evalFold x).fcast f h = s.fcast f h := by
  have hrd {b : Fld} (hb : b ∈ fcastFlds) : (s.evalFold x).rd b f = s.rd b f := by
    have hvalid : R.BW_FOLD_STAT_VALID.apart b = true := by
      revert b
      decide
    unfold State.evalFold
    split
    · rw [State.rd_wr_apart _ hvalid, setFcast_other hx _ hb]
    · rw [State.rd_wr_apart _ hvalid, setFcast_other hx _ hb]
  unfold State.fcast
  split
  · next b hb => exact hrd (List.mem_of_getElem? hb)
  · rfl

/-- What is apart from the forecasts' fields leaves a forecast. -/
theorem Frame.fcast {r : Reach} (h : Frame r s t) (hr : (fcastFlds.all fun g => r.flds.all fun f => f.apart g) = true) (f k : Nat) :
    t.fcast f k = s.fcast f k := by
  unfold State.fcast
  split
  · next b hb => exact h.rd (List.all_eq_true.1 hr b (List.mem_of_getElem? hb)) f
  · rfl

theorem clampI_lt (x : Int) : (clampI 0 65535 x).toNat < 65536 := by
  rw [clampI]
  omega

/-- A network has eight horizons, which fit their fields. -/
theorem network_range (s : State) (k f : Nat) : ∃ g : Nat → Nat, (∀ t, g t < 65536) ∧ s.network k f = (List.range 8).map g := by
  rw [State.network]
  exact ⟨_, fun t => clampI_lt _, rfl⟩

theorem evalFold_fcast (hk : s.validNet f = some k) (hf : f < 64) {h : Nat} (hh : h < 8) :
    (s.evalFold f).fcast f (h + 1) = (s.network k f).getD h 0 := by
  obtain ⟨g, hg, hnet⟩ := network_range s k f
  have hlast : Frame (.regs [R.BW_FOLD_STAT_VALID]) (s.setFcast f (s.network k f)) (s.evalFold f) := by
    simp only [State.evalFold, hk]
    exact (Frame.refl _).wr
  rw [hlast.fcast (by decide), hnet, setFcast_reads hg hf hh]
  simp [hh]

/-- A network's value rests on its weights, the schedule and the frame alone. -/
theorem network_congr (h : Frame Frame.evalFoldReach s t) (k f : Nat) : t.network k f = s.network k f := by
  have hrd {g : Fld} (hg : (Frame.evalFoldReach.flds.all fun f => f.apart g) = true) (j : Nat) : t.rd g j = s.rd g j := h.rd hg j
  have hframe : t.frame = s.frame := hrd (by decide) 0
  have hlive : t.liveSched = s.liveSched := by rw [State.liveSched, h.sched, hframe, ← State.liveSched]
  simp (disch := decide) only [State.network, State.dotOut, State.features, State.feature, hlive, hframe, State.rdS, hrd]

theorem evalFolds_fcast {l : List Nat} (hk : s.validNet f = some k) (hf : f < 64) (hin : f ∈ l) {h : Nat} (hh : h < 8) :
    (l.foldl State.evalFold s).fcast f (h + 1) = (s.network k f).getD h 0 := by
  refine foldl_at (I := fun u => Frame Frame.evalFoldReach s u) (Q := fun u => u.fcast f (h + 1) = (s.network k f).getD h 0) hin
    (fun u x hu => hu.evalFold) (fun u hu => ?_) (fun u x hu hq => ?_) s (.refl s)
  · rw [evalFold_fcast ((hu.validNet (by decide) f).trans hk) hf hh, network_congr hu]
  · by_cases hx : x = f
    · rw [hx, evalFold_fcast ((hu.validNet (by decide) f).trans hk) hf hh, network_congr hu]
    · rw [evalFold_fcast_other hx, hq]

end

/-! ## Errors of the weights -/

section
variable {s t u : State} {e : WeightErr} {f k j : Nat}

theorem weightErr_none (inj : Bool) (h : s.netOfWord e.word = none) : State.weightErr inj s e = s := by
  simp only [State.weightErr, h]

theorem weightErr_double (inj : Bool) (h : s.netOfWord e.word = some k) (hd : e.double = true) : State.weightErr inj s e
    = ((s.wr R.BW_STATUS_NET_VALID 0 (setBit (s.rd R.BW_STATUS_NET_VALID 0) k false)).wr R.BW_STATUS_WEIGHT_ERR 0 1).fault
        0x08 k 1 inj := by
  simp only [State.weightErr, h, hd, if_true]

theorem weightErr_single (inj : Bool) (h : s.netOfWord e.word = some k) (hd : e.double = false) :
    State.weightErr inj s e = s.fault 0x08 k 0 inj := by
  simp only [State.weightErr, h, hd, Bool.false_eq_true, if_false]

theorem setBit_clears : ∀ v < 16, ∀ k < 4, ∀ j < 4, setBit v k false % 16 = setBit v k false
    ∧ bitOf (setBit v k false) j = (j != k && bitOf v j) := by decide

/-- An uncorrectable error makes the network of its word invalid, and no other. -/
theorem weightErr_valid (inj : Bool) (h : s.netOfWord e.word = some k) (hd : e.double = true) (hj : j < 4) :
    bitOf ((State.weightErr inj s e).rd R.BW_STATUS_NET_VALID 0) j = (j != k && bitOf (s.rd R.BW_STATUS_NET_VALID 0) j) := by
  obtain ⟨hmod, hbit⟩ := setBit_clears _ (State.rd_lt s R.BW_STATUS_NET_VALID 0) k (netOfWord_lt h) j hj
  have hlast (u : State) : Frame (Frame.faultReach.and (.regs [R.BW_STATUS_WEIGHT_ERR])) u
      ((u.wr R.BW_STATUS_WEIGHT_ERR 0 1).fault 0x08 k 1 inj) := (Frame.refl u).wr.fault
  rw [weightErr_double inj h hd, (hlast _).rd (by decide +kernel), State.rd_wr_zero _ _ (by decide) (by decide), if_pos rfl, ← hbit]
  exact congrArg (bitOf · j) hmod

theorem weightErr_frame (inj : Bool) (s : State) (e : WeightErr) : Frame Frame.weightErrReach s (State.weightErr inj s e) :=
  (Frame.refl s).weightErr

/-- An error leaves the validity of every network but that of its word. -/
theorem weightErr_valid_other (inj : Bool) (hj : j < 4) (h : e.double = true → s.netOfWord e.word ≠ some j) :
    bitOf ((State.weightErr inj s e).rd R.BW_STATUS_NET_VALID 0) j = bitOf (s.rd R.BW_STATUS_NET_VALID 0) j := by
  cases hnet : s.netOfWord e.word with
  | none => rw [weightErr_none inj hnet]
  | some k =>
    cases hd : e.double with
    | false =>
      have hf : Frame Frame.faultReach s (s.fault 0x08 k 0 inj) := (Frame.refl s).fault
      rw [weightErr_single inj hnet hd, hf.rd (by decide +kernel)]
    | true =>
      have hne : j ≠ k := fun hjk => h hd (hjk ▸ hnet)
      rw [weightErr_valid inj hnet hd hj, bne_iff_ne.2 hne, Bool.true_and]

/-- An invalid network stays so. -/
theorem weightErr_invalid (inj : Bool) (hj : j < 4) (h : bitOf (s.rd R.BW_STATUS_NET_VALID 0) j = false) :
    bitOf ((State.weightErr inj s e).rd R.BW_STATUS_NET_VALID 0) j = false := by
  by_cases hc : e.double = true → s.netOfWord e.word ≠ some j
  · rw [weightErr_valid_other inj hj hc, h]
  · obtain ⟨hd, hnet⟩ := Classical.not_imp.1 hc
    rw [weightErr_valid inj (not_not.1 hnet) hd hj, bne_self_eq_false, Bool.false_and]

theorem weightErrs_frame (s : State) (errs : List WeightErr) : Frame Frame.weightErrReach s (errs.foldl (State.weightErr false) s) :=
  (Frame.refl s).foldl fun _ _ hu => hu.weightErr

theorem weightErrs_keep {errs : List WeightErr} (hj : j < 4) (h : ∀ e ∈ errs, e.double = true → s.netOfWord e.word ≠ some j) :
    bitOf ((errs.foldl (State.weightErr false) s).rd R.BW_STATUS_NET_VALID 0) j = bitOf (s.rd R.BW_STATUS_NET_VALID 0) j := by
  refine (List.foldlRecOn errs (State.weightErr false) (motive := fun u => Frame Frame.weightErrReach s u
    ∧ bitOf (u.rd R.BW_STATUS_NET_VALID 0) j = bitOf (s.rd R.BW_STATUS_NET_VALID 0) j) ⟨.refl s, rfl⟩ fun u hu e he => ?_).2
  obtain ⟨hframe, hvalid⟩ := hu
  exact ⟨hframe.weightErr, (weightErr_valid_other false hj fun hd => by
    rw [hframe.netOfWord (by decide +kernel)]
    exact h e he hd).trans hvalid⟩

theorem weightErrs_clear {errs : List WeightErr} (hj : j < 4) (he : e ∈ errs) (hd : e.double = true) (h : s.netOfWord e.word = some j) :
    bitOf ((errs.foldl (State.weightErr false) s).rd R.BW_STATUS_NET_VALID 0) j = false := by
  refine foldl_at (I := fun u => Frame Frame.weightErrReach s u) (Q := fun u => bitOf (u.rd R.BW_STATUS_NET_VALID 0) j = false) he
    (fun u x hu => hu.weightErr) (fun u hu => ?_) (fun u x _ hq => weightErr_invalid false hj hq) s (.refl s)
  rw [weightErr_valid false ((hu.netOfWord (by decide +kernel) _).trans h) hd hj, bne_self_eq_false, Bool.false_and]

end

/-! ## The evaluation of a frame -/

section
variable {s t u : State} {errs : List WeightErr} {f k : Nat}

theorem exec_bellwetherEval (hform : s.bit H.TWIN_FORM_DUE 0 = false) : exec (.bellwetherEval errs) s = (s.evalNets errs).go := by
  change (s.settleForm.evalNets errs).go = _
  rw [State.settleForm, hform]
  rfl

theorem evalNets_idle (h : s.running = false) : s.evalNets errs = s := by
  rw [State.evalNets, h]
  rfl

/-- The evaluation with the errors that the weights' reading meets, while none is injected. -/
theorem evalNets_runs (hrun : s.running = true) (harm : s.bit R.FLT_INJ_ARM 0 = false) : s.evalNets errs
    = if errs.any (fun e => e.double) = true then (errs.foldl (State.weightErr false) s).bwOnce.dropInvalid
      else (errs.foldl (State.weightErr false) s).bwOnce := by
  have hno (n : Nat) : s.injecting n = false := by rw [State.injecting, harm, Bool.false_and]
  simp only [State.evalNets, hrun, hno, Bool.or_false, Bool.false_and, Bool.and_false, State.when_false, if_true]

theorem evalNets_done (hrun : s.running = true) (harm : s.bit R.FLT_INJ_ARM 0 = false) (hdone : s.bit H.BW_DONE 0 = true) :
    s.evalNets errs = if errs.any (fun e => e.double) = true then (errs.foldl (State.weightErr false) s).dropInvalid
      else errs.foldl (State.weightErr false) s := by
  have hkept : (errs.foldl (State.weightErr false) s).bit H.BW_DONE 0 = true :=
    ((weightErrs_frame s errs).bit (by decide +kernel) 0).trans hdone
  rw [evalNets_runs hrun harm, bwOnce_done hkept]

/-- A fold that the map declares shows, after the evaluation, whether the errors have left its network valid. -/
theorem evalNets_valid (hrun : s.running = true) (harm : s.bit R.FLT_INJ_ARM 0 = false) (hdone : s.bit H.BW_DONE 0 = false)
    (hin : f ∈ s.folds) (hf : f < 64) :
    (s.evalNets errs).bit R.BW_FOLD_STAT_VALID f = ((errs.foldl (State.weightErr false) s).validNet f).isSome
      ∧ (s.evalNets errs).bit H.BW_DONE 0 = true := by
  have herr := weightErrs_frame s errs
  rw [evalNets_runs hrun harm]
  generalize errs.foldl (State.weightErr false) s = u at *
  obtain ⟨hvalid, hd⟩ := bwOnce_valid (s := u) ((running_congr (herr.rd (by decide +kernel) 0)).trans hrun)
    ((herr.bit (by decide +kernel) 0).trans hdone) (by rwa [folds_congr herr.map]) hf
  have honce : Frame Frame.bwOnceReach u u.bwOnce := (Frame.refl u).bwOnce
  have hdrop : Frame Frame.dropInvalidReach u.bwOnce u.bwOnce.dropInvalid := (Frame.refl _).dropInvalid
  have hnet := honce.validNet (by decide) f
  split
  · exact ⟨(dropInvalid_keeps hf (by rw [hvalid, hnet])).trans (by rw [hnet]), (hdrop.bit (by decide) 0).trans hd⟩
  · exact ⟨hvalid, hd⟩

theorem weightErrs_validNet (hk : s.validNet f = some k) (h : ∀ e ∈ errs, e.double = true → s.netOfWord e.word ≠ some k) :
    (errs.foldl (State.weightErr false) s).validNet f = some k := by
  have herr := weightErrs_frame s errs
  have hk4 := validNet_lt hk
  obtain ⟨hnet, -⟩ := validNet_net hk
  have hkeep := weightErrs_keep hk4 h
  rw [← hk, State.validNet, State.validNet, State.runEn, State.runEn, herr.bit (by decide +kernel), herr.rd (g := R.BW_NETMAP_NET)
    (by decide +kernel), hnet, hkeep]

theorem missTests_none (h : ∀ r ∈ s.rails, s.missed r = false) : s.rails.foldl State.missTest s = s :=
  List.foldlRecOn s.rails State.missTest (motive := fun u => u = s) rfl fun u hu r hr => by
    rw [hu, State.missTest, h r hr]
    rfl

theorem bwOnce_fcast (hrun : s.running = true) (hdone : s.bit H.BW_DONE 0 = false) (hin : f ∈ s.folds) (hf : f < 64)
    (hk : s.validNet f = some k) (hmiss : ∀ r ∈ s.rails, s.missed r = false) {h : Nat} (hh : h < 8) :
    s.bwOnce.fcast f (h + 1) = (s.network k f).getD h 0 := by
  obtain ⟨v, hv, heq⟩ := bwOnce_eq hrun hdone
  have hall : Frame (Frame.evalRailReach.and (.regs [H.BW_DONE, H.BW_CYC_NOW])) s.foldsFormed s.bwOnce := by
    rw [heq]
    exact (hv.mono (by decide)).wr.wr
  rw [hall.fcast (by decide), State.foldsFormed, missTests_none hmiss, evalFolds_fcast hk hf hin hh]

theorem srcPresent_network {z : Bool} (hk : k < 4) : srcPresent z (0x2E4 + k) = true := by
  interval_cases k <;> cases z <;> rfl

end

/-! ## Early adds -/

/-- An action once for each of distinct elements: what holds of the others' effect before and after the one at hand. -/
theorem foldl_oneOf {α β : Type} {l : List α} (hnd : l.Nodup) {c : α} (hc : c ∈ l) {g : β → α → β} {I Q : β → Prop}
    (hI : ∀ u, ∀ x ∈ l, x ≠ c → I u → I (g u x)) (hQ : ∀ u, I u → Q (g u c)) (hk : ∀ u, ∀ x ∈ l, x ≠ c → Q u → Q (g u x))
    (s : β) (hs : I s) : Q (l.foldl g s) := by
  obtain ⟨a, b, rfl⟩ := List.append_of_mem hc
  obtain ⟨-, hb, hab⟩ := List.nodup_append.1 hnd
  rw [List.foldl_append, List.foldl_cons]
  refine List.foldlRecOn b g (motive := Q) (hQ _ ?_) fun u hu x hx => hk u x (by simp [hx]) ?_ hu
  · exact List.foldlRecOn a g (motive := I) hs fun u hu x hx => hI u x (by simp [hx]) (hab x hx c (by simp)) hu
  · rintro rfl
    exact (List.nodup_cons.1 hb).1 hx

section
variable {s t u : State} {r k p : Nat}

theorem exec_earlyAddCheck (s : State) : exec .earlyAddCheck s = (if s.running then s.rails.foldl State.earlyAdd s else s).go := rfl

/-- The forecast that an early add of a rail looks at (R299). -/
def State.eaPeak (s : State) (r : Nat) : Nat :=
  ((List.range (min 8 (s.rd R.BW_RAIL_CTRL_EA_H r))).map (fun k => s.rd H.BW_FRAIL (8 * r + k))).foldl max 0

/-- The phases that an early add wants to pulse (R299). -/
def State.eaNeed (s : State) (r : Nat) : Nat :=
  (s.eaPeak r * 10 + 8 * s.rd R.PD_RAIL_SHED_ADD_CUR r - 1) / (8 * s.rd R.PD_RAIL_SHED_ADD_CUR r)

theorem earlyAdd_off (h : s.rd R.BW_RAIL_CTRL_EA_H r = 0) : s.earlyAdd r = s := by
  rw [State.earlyAdd, h]
  rfl

theorem earlyAdd_enough (ha : s.rd R.PD_RAIL_SHED_ADD_CUR r ≠ 0) (h : s.eaNeed r ≤ s.nPulse r) : s.earlyAdd r = s := by
  by_cases h0 : min 8 (s.rd R.BW_RAIL_CTRL_EA_H r) = 0
  · exact if_pos h0
  · exact (if_neg h0).trans ((if_neg ha).trans (if_neg (Nat.not_lt.2 h)))

theorem earlyAdd_adds (hh : 0 < s.rd R.BW_RAIL_CTRL_EA_H r) (ha : s.rd R.PD_RAIL_SHED_ADD_CUR r ≠ 0) (hneed : s.nPulse r < s.eaNeed r)
    (hk : s.eaNeed r - s.nPulse r < 32) : s.earlyAdd r
      = ((s.wr R.BW_RAIL_STAT_EA_LAST r (s.eaNeed r - s.nPulse r)).addPhases r (s.eaNeed r - s.nPulse r)).endSkip r := by
  unfold State.earlyAdd
  dsimp only
  rw [if_neg (by omega), if_neg ha]
  refine (if_pos hneed).trans ?_
  exact congrArg (fun u => (State.addPhases u r (s.eaNeed r - s.nPulse r)).endSkip r) (if_pos hk)

theorem foldl_max_le {l : List Nat} {b m : Nat} (hb : b ≤ m) (h : ∀ x ∈ l, x ≤ m) : l.foldl max b ≤ m :=
  List.foldlRecOn l max (motive := fun x => x ≤ m) hb fun _ hx y hy => max_le hx (h y hy)

theorem eaNeed_le {n : Nat} (ha : s.rd R.PD_RAIL_SHED_ADD_CUR r ≠ 0)
    (h : ∀ k < 8, s.rd H.BW_FRAIL (8 * r + k) * 10 ≤ 8 * s.rd R.PD_RAIL_SHED_ADD_CUR r * n) : s.eaNeed r ≤ n := by
  have hpeak : s.eaPeak r ≤ 8 * s.rd R.PD_RAIL_SHED_ADD_CUR r * n / 10 := by
    refine foldl_max_le (Nat.zero_le _) fun x hx => ?_
    obtain ⟨k, hk, rfl⟩ := List.mem_map.1 hx
    exact (Nat.le_div_iff_mul_le (by decide)).2 (h k ((List.mem_range.1 hk).trans_le (min_le_left _ _)))
  have hten := (Nat.le_div_iff_mul_le (by decide)).1 hpeak
  rw [State.eaNeed, ← Nat.lt_succ_iff, Nat.div_lt_iff_lt_mul (by omega), Nat.succ_mul n, mul_comm n]
  omega

theorem earlyAdd_frame (s : State) (r : Nat) : Frame Frame.earlyAddReach s (s.earlyAdd r) := (Frame.refl s).earlyAdd

/-- An add on a rail leaves the phases that are not its own. -/
theorem addFallow_apart (h : p ∉ s.phasesOf r) (k : Nat) : (s.addFallow r k).ph p = s.ph p := by
  have hrest (u : State) : Frame (Frame.rerankReach.and (Frame.refreshDutyReach.and (Frame.endSkipReach.and (.regs [H.PD_DWELL_CNT]))))
      u ((((u.wr H.PD_DWELL_CNT r 0).endSkip r).rerank r).refreshDuty r) := (Frame.refl u).wr.endSkip.rerank.refreshDuty
  have hno : p ∉ (s.inState r 3).take k := fun hm => h (List.mem_filter.1 (List.mem_of_mem_take hm)).1
  rw [State.addFallow]
  split
  · rfl
  · rw [State.ph, (hrest _).rd (by decide +kernel)]
    exact rd_foldl_of_notMem (fun u x hx => toAdding_other hx u) hno s

theorem dropShed_apart (h : p ∉ s.phasesOf r) : (s.dropShed r).bit H.PD_RET_ACT p = s.bit H.PD_RET_ACT p := by
  have hno : p ∉ s.shedding r := fun hm => h (List.mem_filter.1 (List.mem_filter.1 hm).1).1
  rw [State.dropShed]
  split
  · rfl
  · rw [State.bit_wr_apart _ (by decide), State.bit_wr_apart _ (by decide), State.bit,
      rd_foldl_of_notMem (fun u x hx => State.rd_wr_idx u hx (by decide) 1) hno s, ← State.bit]

theorem dropShed_pend_other {x : Nat} (h : x ≠ r) (s : State) : (s.dropShed x).rd H.PD_SHED_PEND r = s.rd H.PD_SHED_PEND r := by
  have hret : Frame (.regs [H.PD_RET_ACT]) s ((s.shedding x).foldl (fun t p => t.wr H.PD_RET_ACT p 1) s) :=
    (Frame.refl s).foldl fun _ _ hu => hu.wr
  rw [State.dropShed]
  split
  · rfl
  · rw [State.rd_wr_apart _ (by decide), State.rd_wr_idx _ h (by decide), hret.rd (by decide)]

/-- A dropped shed is gone: its phases are to return, and none is pending. -/
theorem dropShed_ends (hr : r < 14) : (∀ p ∈ s.inState r 2, (s.dropShed r).bit H.PD_RET_ACT p = true)
    ∧ (s.dropShed r).rd H.PD_SHED_PEND r = 0 := by
  by_cases hc : (s.shedding r).isEmpty && s.rd H.PD_SHED_PEND r == 0
  · rw [State.dropShed, if_pos hc]
    rw [Bool.and_eq_true, beq_iff_eq] at hc
    obtain ⟨hempty, hpend⟩ := hc
    refine ⟨fun p hp => ?_, hpend⟩
    have hno := List.filter_eq_nil_iff.1 (List.isEmpty_iff.1 hempty) p hp
    simpa using hno
  · rw [State.dropShed, if_neg hc]
    refine ⟨fun p hp => ?_, ?_⟩
    · rw [State.bit_wr_apart _ (by decide), State.bit_wr_apart _ (by decide)]
      have hlt := mem_inState_lt hp
      have hset (u : State) : (u.wr H.PD_RET_ACT p 1).bit H.PD_RET_ACT p = true := by
        rw [State.bit_wr_below hlt _ _ (by decide) (by decide) rfl, if_pos rfl]
        rfl
      by_cases hret : s.bit H.PD_RET_ACT p = true
      · refine List.foldlRecOn (s.shedding r) _ (motive := fun u : State => u.bit H.PD_RET_ACT p = true) hret fun u hu x _ => ?_
        by_cases hx : x = p
        · exact hx ▸ hset u
        · rwa [State.bit, State.rd_wr_idx _ hx (by decide), ← State.bit]
      · exact bit_foldl_of_mem (g := fun (u : State) x => u.wr H.PD_RET_ACT x 1) hset
          (fun u x hx => State.rd_wr_idx u hx (by decide) 1) (List.mem_filter.2 ⟨hp, by simpa using hret⟩) s
    · rw [State.rd_wr_apart _ (by decide), State.rd_wr_below hr _ _ (by decide) le_rfl, if_pos rfl]
      rfl

/-- An early add either does nothing or shows a count and adds that many phases, or 16. -/
theorem earlyAdd_cases (s : State) (r : Nat) : s.earlyAdd r = s ∨ ∃ v k, Frame ⟨[.free], [R.BW_RAIL_STAT_EA_LAST]⟩ s v
    ∧ (∀ j, r ≠ j → v.rd R.BW_RAIL_STAT_EA_LAST j = s.rd R.BW_RAIL_STAT_EA_LAST j) ∧ s.earlyAdd r = (v.addPhases r k).endSkip r := by
  have hwr (c : Nat) : Frame ⟨[.free], [R.BW_RAIL_STAT_EA_LAST]⟩ s (s.wr R.BW_RAIL_STAT_EA_LAST r c)
      ∧ ∀ j, r ≠ j → (s.wr R.BW_RAIL_STAT_EA_LAST r c).rd R.BW_RAIL_STAT_EA_LAST j = s.rd R.BW_RAIL_STAT_EA_LAST j :=
    ⟨(Frame.refl s).wr, fun j hj => State.rd_wr_idx s hj (by decide) c⟩
  have hfree (c : Nat) : Frame ⟨[.free], [R.BW_RAIL_STAT_EA_LAST]⟩ s (s.wr R.BW_RAIL_STAT_EA_LAST r c).freeStep
      ∧ ∀ j, r ≠ j → (s.wr R.BW_RAIL_STAT_EA_LAST r c).freeStep.rd R.BW_RAIL_STAT_EA_LAST j = s.rd R.BW_RAIL_STAT_EA_LAST j :=
    ⟨(hwr c).1.freeStep, (hwr c).2⟩
  unfold State.earlyAdd
  extract_lets h f a n need k v
  split
  · exact .inl rfl
  · split
    · split
      · exact .inl rfl
      · exact .inr ⟨_, 16, (hfree _).1, (hfree _).2, rfl⟩
    · split
      · refine .inr ⟨v, k, ?_, ?_, rfl⟩
        · exact .ite (hwr k).1 (hfree _).1
        · intro j hj
          rw [show v = if k < 32 then s.wr R.BW_RAIL_STAT_EA_LAST r k else (s.wr R.BW_RAIL_STAT_EA_LAST r (s.freeVal 5)).freeStep
            from rfl]
          split
          · exact (hwr k).2 j hj
          · exact (hfree _).2 j hj
      · exact .inl rfl

theorem addPhases_rest (s : State) (r k : Nat) : Frame Frame.addFallowReach (s.dropShed r) (s.addPhases r k) :=
  (Frame.refl _).addFallow

theorem Frame.onlyRegsFree {l : List Fld} (h : Frame ⟨[.free], l⟩ s t) : t = { s with regs := t.regs, free := t.free } := by
  have h1 := h.parts .ident rfl
  have h2 := h.parts .store rfl
  have h3 := h.parts .map rfl
  have h4 := h.parts .staged rfl
  have h5 := h.parts .mesh rfl
  have h6 := h.parts .sched rfl
  have h7 := h.parts .sweeps rfl
  have h8 := h.parts .fifo rfl
  have h9 := h.parts .fltQueue rfl
  have h10 := h.parts .tallyQueue rfl
  have h11 := h.parts .tallyStage rfl
  have h12 := h.parts .mirror rfl
  have h13 := h.parts .flush rfl
  have h14 := h.parts .shadows rfl
  have h15 := h.parts .out rfl
  have h16 := h.parts .resp rfl
  have h17 := h.parts .pending rfl
  cases s
  cases t
  simp_all [Part.Same]

/-- The early add of one rail leaves another whose phases are others. -/
theorem earlyAdd_other {x : Nat} (hx : x ≠ r) (hapart : ∀ p ∈ s.phasesOf x, p ∉ s.phasesOf r) :
    (∀ p ∈ s.phasesOf r, (s.earlyAdd x).ph p = s.ph p ∧ (s.earlyAdd x).bit H.PD_RET_ACT p = s.bit H.PD_RET_ACT p)
      ∧ (s.earlyAdd x).rd H.PD_SHED_PEND r = s.rd H.PD_SHED_PEND r
      ∧ (s.earlyAdd x).rd R.BW_RAIL_STAT_EA_LAST r = s.rd R.BW_RAIL_STAT_EA_LAST r := by
  obtain h | ⟨v, k, hv, hlast, h⟩ := earlyAdd_cases s x
  · rw [h]
    exact ⟨fun _ _ => ⟨rfl, rfl⟩, rfl, rfl⟩
  · have hskip : Frame Frame.endSkipReach (v.addPhases x k) (s.earlyAdd x) := by
      rw [h]
      exact (Frame.refl _).endSkip
    have hadd := addPhases_rest v x k
    have hphases : v.phasesOf x = s.phasesOf x := phasesOf_congr (hv.rd (by decide)) x
    have hdropped : (v.dropShed x).phasesOf x = s.phasesOf x :=
      (phasesOf_congr ((dropShed_frame v x).rd (by decide)) x).trans hphases
    refine ⟨fun p hp => ?_, ?_, ?_⟩
    · have hno : p ∉ s.phasesOf x := fun hm => hapart p hm hp
      refine ⟨?_, ?_⟩
      · rw [State.ph, hskip.rd (by decide), ← State.ph, State.addPhases, addFallow_apart (by rwa [hdropped]), State.ph,
          (dropShed_frame v x).rd (by decide), hv.rd (by decide), ← State.ph]
      · rw [hskip.bit (by decide), hadd.bit (by decide +kernel), dropShed_apart (by rwa [hphases]), hv.bit (by decide)]
    · rw [hskip.rd (by decide), hadd.rd (by decide +kernel), dropShed_pend_other hx, hv.rd (by decide)]
    · rw [hskip.rd (by decide), hadd.rd (by decide +kernel), (dropShed_frame v x).rd (by decide), hlast r hx]

/-- What the early-add check has asked of a rail: the count that it shows, the phases that enter ADDING, and the shed ended. -/
structure EaDone (s : State) (r k : Nat) (u : State) : Prop where
  last : u.rd R.BW_RAIL_STAT_EA_LAST r = k
  adds : ∀ p ∈ (s.inState r 3).take k, u.ph p = 4
  ends : ∀ p ∈ s.inState r 2, u.bit H.PD_RET_ACT p = true
  pend : u.rd H.PD_SHED_PEND r = 0

theorem earlyAdd_done (hr : r < 14) (hh : 0 < s.rd R.BW_RAIL_CTRL_EA_H r) (ha : s.rd R.PD_RAIL_SHED_ADD_CUR r ≠ 0)
    (hneed : s.nPulse r < s.eaNeed r) (hk : s.eaNeed r - s.nPulse r < 32) : EaDone s r (s.eaNeed r - s.nPulse r) (s.earlyAdd r) := by
  rw [earlyAdd_adds hh ha hneed hk]
  generalize s.eaNeed r - s.nPulse r = k at *
  have hv : Frame (.regs [R.BW_RAIL_STAT_EA_LAST]) s (s.wr R.BW_RAIL_STAT_EA_LAST r k) := (Frame.refl s).wr
  have hlast : (s.wr R.BW_RAIL_STAT_EA_LAST r k).rd R.BW_RAIL_STAT_EA_LAST r = k := by
    rw [State.rd_wr_below hr _ _ (by decide) le_rfl, if_pos rfl]
    exact Nat.mod_eq_of_lt hk
  generalize s.wr R.BW_RAIL_STAT_EA_LAST r k = v at *
  have hskip := endSkip_frame (v.addPhases r k) r
  have hadd := addPhases_rest v r k
  have hdrop := dropShed_frame v r
  have hst (n : Nat) : v.inState r n = s.inState r n := inState_congr (hv.rd (by decide)) (hv.rd (by decide)) r n
  have hst' (n : Nat) : (v.dropShed r).inState r n = s.inState r n :=
    (inState_congr (hdrop.rd (by decide)) (hdrop.rd (by decide)) r n).trans (hst n)
  obtain ⟨hret, hpend⟩ := dropShed_ends (s := v) hr
  refine ⟨?_, fun p hp => ?_, fun p hp => ?_, ?_⟩
  · rw [hskip.rd (by decide), hadd.rd (by decide +kernel), hdrop.rd (by decide), hlast]
  · rw [State.ph, hskip.rd (by decide), ← State.ph, State.addPhases]
    exact addFallow_adds (by rwa [hst'])
  · rw [hskip.bit (by decide), hadd.bit (by decide +kernel)]
    exact hret p (by rwa [hst])
  · rw [hskip.rd (by decide), hadd.rd (by decide +kernel), hpend]

/-- What the other rails' early adds leave of a rail. -/
structure EaBefore (s : State) (r : Nat) (u : State) : Prop where
  frame : Frame Frame.earlyAddReach s u
  phases : ∀ p ∈ s.phasesOf r, u.ph p = s.ph p

theorem EaBefore.phasesOf (h : EaBefore s r u) (x : Nat) : u.phasesOf x = s.phasesOf x := phasesOf_congr (h.frame.rd (by decide +kernel)) x

theorem EaBefore.inState (h : EaBefore s r u) (n : Nat) : u.inState r n = s.inState r n := by
  rw [State.inState, h.phasesOf, State.inState]
  exact List.filter_congr fun p hp => by rw [h.phases p hp]

theorem EaBefore.nPulse (h : EaBefore s r u) : u.nPulse r = s.nPulse r := by
  rw [State.nPulse, h.phasesOf, State.nPulse]
  exact congrArg List.length (List.filter_congr fun p hp => by rw [State.pulsing, h.phases p hp, ← State.pulsing])

theorem EaBefore.eaNeed (h : EaBefore s r u) : u.eaNeed r = s.eaNeed r := by
  simp (disch := decide +kernel) only [State.eaNeed, State.eaPeak, h.frame.rd]

theorem EaBefore.step {x : Nat} (h : EaBefore s r u) (hx : x ≠ r) (hapart : ∀ p ∈ s.phasesOf x, p ∉ s.phasesOf r) :
    EaBefore s r (u.earlyAdd x) := by
  obtain ⟨hphases, -, -⟩ := earlyAdd_other (s := u) hx (by rwa [h.phasesOf, h.phasesOf])
  exact ⟨h.frame.earlyAdd, fun p hp => (hphases p (by rwa [h.phasesOf])).1.trans (h.phases p hp)⟩

theorem EaDone.step {x : Nat} (h : EaDone s r k u) (hm : ∀ x, u.phasesOf x = s.phasesOf x) (hx : x ≠ r)
    (hapart : ∀ p ∈ s.phasesOf x, p ∉ s.phasesOf r) : EaDone s r k (u.earlyAdd x) := by
  obtain ⟨hphases, hpend, hlast⟩ := earlyAdd_other (s := u) hx (by rwa [hm, hm])
  refine ⟨hlast.trans h.last, fun p hp => ?_, fun p hp => ?_, hpend.trans h.pend⟩
  · rw [(hphases p (by rw [hm]; exact (List.mem_filter.1 (List.mem_of_mem_take hp)).1)).1, h.adds p hp]
  · rw [(hphases p (by rw [hm]; exact (List.mem_filter.1 hp).1)).2, h.ends p hp]

/-- The early-add check asks of a rail what its own early add asks, whatever the other rails' ask of theirs. -/
theorem earlyAdds_done (hin : r ∈ s.rails) (hapart : ∀ x ∈ s.rails, x ≠ r → ∀ p ∈ s.phasesOf x, p ∉ s.phasesOf r)
    (hh : 0 < s.rd R.BW_RAIL_CTRL_EA_H r) (ha : s.rd R.PD_RAIL_SHED_ADD_CUR r ≠ 0) (hneed : s.nPulse r < s.eaNeed r)
    (hk : s.eaNeed r - s.nPulse r < 32) : EaDone s r (s.eaNeed r - s.nPulse r) (s.rails.foldl State.earlyAdd s) := by
  refine (foldl_oneOf (rails_nodup s) hin (I := EaBefore s r)
    (Q := fun u => Frame Frame.earlyAddReach s u ∧ EaDone s r (s.eaNeed r - s.nPulse r) u)
    (fun u x hx hne hu => hu.step hne (hapart x hx hne)) (fun u hu => ⟨hu.frame.earlyAdd, ?_⟩)
    (fun u x hx hne ⟨hframe, hdone⟩ => ⟨hframe.earlyAdd, hdone.step (phasesOf_congr (hframe.rd (by decide +kernel))) hne (hapart x hx hne)⟩)
    s ⟨.refl s, fun _ _ => rfl⟩).2
  have hd := earlyAdd_done (s := u) (mem_rails_lt hin) (by rwa [hu.frame.rd (by decide +kernel)])
    (by rwa [hu.frame.rd (by decide +kernel)]) (by rwa [hu.nPulse, hu.eaNeed]) (by rwa [hu.nPulse, hu.eaNeed])
  rw [hu.nPulse, hu.eaNeed] at hd
  exact ⟨hd.last, fun p hp => hd.adds p (by rwa [hu.inState]), fun p hp => hd.ends p (by rwa [hu.inState]), hd.pend⟩

end

/-- Counters of a fold that are cleared read 0. -/
theorem clearFlds_zero {c : Fld} (hc : c ∈ bwFoldCounters) {f : Nat} (hf : f < 32) (s : State) :
    (s.clearFlds bwFoldCounters).rd c f = 0 := by
  have hfld : ∀ c ∈ bwFoldCounters, 0 < c.stride ∧ 32 ≤ c.cnt ∧ c.init = .all 0 := by decide
  have happart : ∀ a ∈ bwFoldCounters, ∀ b ∈ bwFoldCounters, a = b ∨ a.apart b = true := by decide
  obtain ⟨hs, hcnt, hinit⟩ := hfld c hc
  have hset (u : State) : (u.clearFld c).rd c f = 0 := by
    rw [rd_clearFld u hs (hf.trans_le hcnt), Fld.resetAt, hinit, Nat.zero_mod]
  refine foldl_oneOf (I := fun _ => True) (Q := fun u : State => u.rd c f = 0) (by decide) hc (fun _ _ _ _ _ => trivial)
    (fun u _ => hset u) (fun u x hx hne hu => ?_) s trivial
  have happ : x.apart c = true := (happart x hx c hc).resolve_left hne
  have hclear : Frame (.regs [x]) u (u.clearFld x) := (Frame.refl u).clearFld (by simp [Reach.has, Reach.samePlace])
  exact (hclear.rd (by simpa using happ) f).trans hu

/-- Settles O26: the Bellwether's evaluation, its weight errors and its early adds. -/
theorem bellwetherForecastsAndAdds : Obligations.BellwetherForecastsAndAdds := by
  unfold Obligations.BellwetherForecastsAndAdds
  refine ⟨?_, ?_, ?_, ?_, ?_, ?_, ?_, ?_, ?_, ?_, ?_, ?_, ?_⟩
  · intro s fold hrun harm hdone hform hin hf hnet
    obtain ⟨hvalid, hd⟩ := evalNets_valid (errs := []) hrun harm hdone hin hf
    have honce : Frame Frame.bwOnceReach s (s.evalNets []) := by
      rw [evalNets_runs hrun harm]
      exact (Frame.refl s).bwOnce
    exact .of_go (exec_bellwetherEval hform) ⟨hvalid.trans hnet, hd, honce.map, honce.sameStore⟩
  · intro s word k hrun harm hnet hk hdone hform
    have hexec : exec (.bellwetherEval [⟨word, true⟩]) s = (State.weightErr false s ⟨word, true⟩).dropInvalid.go := by
      rw [exec_bellwetherEval hform, evalNets_done hrun harm hdone]
      rfl
    have hdrop : Frame Frame.dropInvalidReach (State.weightErr false s ⟨word, true⟩) (State.weightErr false s ⟨word, true⟩).dropInvalid :=
      (Frame.refl _).dropInvalid
    refine .of_go hexec ⟨?_, ?_, ?_⟩
    · rw [hdrop.rd (by decide), weightErr_valid (e := ⟨word, true⟩) false hnet rfl hk, bne_self_eq_false, Bool.false_and]
    · have hf (u : State) : Frame Frame.faultReach u (u.fault 0x08 k 1) := (Frame.refl u).fault
      rw [hdrop.bit (by decide), weightErr_double (e := ⟨word, true⟩) false hnet rfl, (hf _).bit (by decide +kernel),
        State.bit_wr_below Nat.one_pos _ _ (by decide) (by decide) rfl, if_pos rfl]
      rfl
    · rw [weightErr_double (e := ⟨word, true⟩) false hnet rfl] at hdrop ⊢
      have hmark : Frame (.regs [R.BW_STATUS_NET_VALID, R.BW_STATUS_WEIGHT_ERR]) s
          ((s.wr R.BW_STATUS_NET_VALID 0 (setBit (s.rd R.BW_STATUS_NET_VALID 0) k false)).wr R.BW_STATUS_WEIGHT_ERR 0 1) :=
        (Frame.refl s).wr.wr
      exact .after hmark.kinds (by decide) (.before (State.fault_raised _ (k := 0x08) (i := k) rfl (srcPresent_network hk) (by decide))
        hdrop.kinds (by decide))
  · rintro s r h need hrun hin hapart rfl hh ha rfl hneed hk
    have hexec : exec .earlyAddCheck s = (s.rails.foldl State.earlyAdd s).go := by rw [exec_earlyAddCheck, if_pos hrun]
    have hall : Frame Frame.earlyAddReach s (s.rails.foldl State.earlyAdd s) := (Frame.refl s).foldl fun _ _ hu => hu.earlyAdd
    have hd := earlyAdds_done hin hapart (by omega) ha hneed hk
    have hlist : Frame ⟨[.free], [R.BW_RAIL_STAT_EA_LAST, H.PD_RET_ACT, H.PD_SHED_PEND, H.PD_DWELL_CNT, H.PD_SKIP_END,
        R.PD_PH_STAT_STATE, R.PD_PH_DUTY_SHARE, R.PD_PH_DUTY_DUTY, H.PD_ADD_PER, H.PD_POS, H.PD_WID, R.PD_PH_STAT_RANK]⟩ s
        (s.rails.foldl State.earlyAdd s) := hall.mono (by decide +kernel)
    exact .of_go hexec ⟨hd.last, hd.adds, hd.ends, hd.pend, hlist.kinds, hlist.onlyRegsFree⟩
  · intro s w hw
    have hall : Frame (.regsOut [R.BW_RAIL_STAT_MISSES]) s ((s.clearFld R.BW_RAIL_STAT_MISSES).answer .ok) :=
      (Frame.refl s).clearFld.answer
    exact .of_go (congrArg State.go (State.judged_of_writable hw _ _)) ⟨fun r hr => rd_clearFld s (by decide) hr, rfl, hall.kinds, hall.onlyRegsOut⟩
  · intro s w hw
    have hall : Frame (.regsOut bwFoldCounters) s ((s.clearFlds bwFoldCounters).answer .ok) := (Frame.refl s).clearFlds.answer
    refine .of_go (congrArg State.go (State.judged_of_writable hw _ _)) ⟨fun c hc f hf => ?_, rfl, hall.kinds, hall.onlyRegsOut⟩
    exact clearFlds_zero hc hf s
  · intro s fold k hrun harm hdone hform hin hf hk hmiss
    have hexec : exec (.bellwetherEval []) s = s.bwOnce.go := by
      rw [exec_bellwetherEval hform, evalNets_runs hrun harm]
      rfl
    exact .of_go hexec fun h hh => bwOnce_fcast hrun hdone hin hf hk hmiss hh
  · intro s hrun harm hdone hform
    rw [exec_bellwetherEval hform, evalNets_done hrun harm hdone]
    rfl
  · intro s errs hrun hform
    rw [exec_bellwetherEval hform, evalNets_idle hrun]
    rfl
  · intro s word k hrun harm hnet hk hdone hform
    have hexec : exec (.bellwetherEval [⟨word, false⟩]) s = (s.fault 0x08 k 0).go := by
      rw [exec_bellwetherEval hform, evalNets_done hrun harm hdone]
      exact congrArg State.go (weightErr_single (e := ⟨word, false⟩) false hnet rfl)
    have hf := fault_frame s 0x08 k 0
    exact .of_go hexec ⟨State.fault_raised s (k := 0x08) (i := k) rfl (srcPresent_network hk) (by decide), hf.kinds, hf.onlyFault⟩
  · intro s hrun
    rw [exec_earlyAddCheck, hrun]
    rfl
  · intro s h
    have hkeep : s.rails.foldl State.earlyAdd s = s := List.foldlRecOn s.rails State.earlyAdd (motive := fun u => u = s) rfl
      fun u hu r hr => by
        rw [hu]
        obtain hoff | ⟨ha, hle⟩ := h r hr
        · exact earlyAdd_off hoff
        · exact earlyAdd_enough ha (eaNeed_le ha hle)
    rw [exec_earlyAddCheck, hkeep, ite_self]
    rfl
  · intro s errs fold k hrun harm hdone hform hin hf hk herrs
    obtain ⟨hvalid, hd⟩ := evalNets_valid (errs := errs) hrun harm hdone hin hf
    rw [weightErrs_validNet hk herrs] at hvalid
    exact .of_go (exec_bellwetherEval hform) ⟨hvalid, hd⟩
  · intro s errs e fold k hrun harm hdone hform hin hf hk hk4 he hdouble hnet
    obtain ⟨hvalid, hd⟩ := evalNets_valid (errs := errs) hrun harm hdone hin hf
    have hmap : (errs.foldl (State.weightErr false) s).rd R.BW_NETMAP_NET fold = k :=
      ((weightErrs_frame s errs).rd (by decide +kernel) fold).trans (validNet_net hk).1
    rw [validNet_none hmap (weightErrs_clear hk4 he hdouble hnet)] at hvalid
    exact .of_go (exec_bellwetherEval hform) ⟨hvalid, hd⟩

end Sys2Proof.Machine
end

section
/-! The output of a slot in HOLD (R187, R191). -/

set_option Elab.async false

namespace Sys2Proof.Machine

/-- The record of loop slot 0. -/
def oneSlot : Rec := ⟨0, [0x01, 0x03, 0, 0, 0, 3]⟩

/-- A map runs with one slot, in HOLD: it drives an output of kind 0x01, whose greatest value is 31, and its output in force is 100. -/
def State.heldHigh : State :=
  let s := [(R.RUN_STATE, 2), (R.LE_SLOT_MODE_MODE, 3), (R.LE_SLOT_OUTSEL_OUT_KIND, 1), (R.LE_SLOT_OUT_OUT, 100),
    (R.LE_SLOT_SLEW_SLEW, 1000)].foldl (fun (t : State) (x : Fld × Nat) => t.wr x.1 0 x.2) State.reset
  { s with map := { s.map with recs := [oneSlot] } }

theorem heldHigh_places : (placeAll State.heldHigh.dueSlots).1 = [(0, 0, 32)] := by decide +kernel

theorem heldHigh_stands : State.heldHigh.rd R.LE_SLOT_OUT_OUT 0 = 100 := by decide +kernel

theorem heldHigh_clamped : (nextOf (exec .loopWindow State.heldHigh)).rd H.LE_NEXT_OUT 0 = 31 := by decide +kernel

/-- Refutes O24: the output that a slot in HOLD keeps is held to the range of its kind, so one above that range moves (R187). -/
theorem not_loopWindowStagesOutputs : ¬ Obligations.LoopWindowStagesOutputs := by
  unfold Obligations.LoopWindowStagesOutputs
  rintro ⟨hwindow, -⟩
  obtain ⟨t, ht, -, -, hkeeps, -, -⟩ := hwindow State.heldHigh (by decide +kernel) (by decide +kernel)
  have hkept : t.rd H.LE_NEXT_OUT 0 = 100 :=
    (hkeeps (0, 0, 32) (by simp [heldHigh_places]) (by decide) (by decide +kernel)).trans heldHigh_stands
  have hclamped := heldHigh_clamped
  rw [ht, nextOf_next, hkept] at hclamped
  cases hclamped

end Sys2Proof.Machine
end

section
/-! The image that harts read again (R588). -/

set_option Elab.async false

namespace Sys2Proof.Machine

/-- After reset, with an entry of the register file that holds FW_REREAD of hart 0 at its reset value. -/
def State.rereadHeld : State := { State.reset with regs := [(H.FW_REREAD.key 0, 0)] }

theorem rereadHeld_zero : ∀ k < 4, State.rereadHeld.rd H.FW_REREAD k = 0 := by decide +kernel

theorem rereadHeld_reason : State.rereadHeld.rd R.FW_IMAGE_REASON 0 = 0 := by decide +kernel

theorem rereadHeld_refused : (nextOf (exec (.imageVerified false ⟨false, 0⟩) State.rereadHeld)).rd R.FW_IMAGE_REASON 0 = 7 := by
  decide +kernel

/-- Refutes O50: the harts that wait for the image are found by the entries of the register file, so that an entry that stands at
its reset value, which reads 0, is taken for a hart that waits, and an image that is not read is refused for it. -/
theorem not_sequenceReachesTheImage : ¬ Obligations.SequenceReachesTheImage := by
  unfold Obligations.SequenceReachesTheImage
  rintro ⟨-, -, -, -, -, -, -, -, -, -, -, -, -, -, -, -, -, -, -, -, -, hidle⟩
  have hstays := hidle State.rereadHeld false ⟨false, 0⟩ (by decide +kernel) (by decide +kernel) rereadHeld_zero
  have hrefused := rereadHeld_refused
  rw [hstays, nextOf_next, rereadHeld_reason] at hrefused
  cases hrefused

end Sys2Proof.Machine
end

section
/-! The ramp of a group whose rails share a phase (R508). -/

set_option Elab.async false

namespace Sys2Proof.Machine

/-- The SAFE records of rails 0 and 1, both of ramp group 0. -/
def groupZero : List Rec := [⟨0, [0x01, 0x09, 0, 0, 0, 0]⟩, ⟨1, [0x01, 0x09, 0, 0, 1, 0]⟩]

/-- A governing holder stands before the ramp of group 0; RAIL_MASK gives phase 0, which is OFF, to rail 0 and to rail 1. -/
def State.sharedPhase : State :=
  let s := [(R.RUN_STATE, 0, 2), (H.TOP_BOOT_ON, 0, 1), (R.BOOT_STEP, 0, 5), (R.BOOT_GROUP, 0, 15), (R.TWIN_STATUS_ROLE, 0, 4),
    (R.PD_RAIL_CFG_COUNT, 0, 1), (R.PD_RAIL_CFG_COUNT, 1, 1), (R.PD_RAIL_CFG_ENABLE, 0, 1), (R.PD_RAIL_CFG_ENABLE, 1, 1),
    (R.PD_RAIL_MASK_MASK, 0, 1), (R.PD_RAIL_MASK_MASK, 1, 1), (R.PD_PH_STAT_STATE, 0, 0)].foldl
      (fun (t : State) (x : Fld × Nat × Nat) => t.wr x.1 x.2.1 x.2.2) State.reset
  { s with map := { s.map with recs := groupZero } }

theorem sharedPhase_group : State.sharedPhase.nextGroup = some 0 ∧ 1 ∈ State.sharedPhase.groupRails 0 := by decide +kernel

theorem sharedPhase_off : State.sharedPhase.railOn 1 = false ∧ State.sharedPhase.inState 1 0 ≠ []
    ∧ ∀ p ∈ State.sharedPhase.phasesOf 1, State.sharedPhase.bit H.PD_CAL_BAD p = false := by decide +kernel

theorem sharedPhase_adopted : (nextOf (exec (.rampGroupStart [] []) State.sharedPhase)).bit R.PD_RAIL_STAT_RAMPING 1 = false := by
  decide +kernel

/-- Refutes O51: of two rails of a group that share a phase the first one's ramp turns the phase on, so that the second is found on
and adopted, and does not ramp. -/
theorem not_sequenceTakesItsRoleAndRamps : ¬ Obligations.SequenceTakesItsRoleAndRamps := by
  unfold Obligations.SequenceTakesItsRoleAndRamps
  rintro ⟨-, -, -, -, -, hramp, -⟩
  obtain ⟨hgroup, hin⟩ := sharedPhase_group
  obtain ⟨hoff, hphases, hgood⟩ := sharedPhase_off
  obtain ⟨t, ht, -, hramps, -⟩ := hramp State.sharedPhase 1 0 (by decide +kernel) (by decide +kernel) (by decide +kernel)
    (by decide +kernel) (by decide +kernel) hgroup hin hoff (by decide +kernel) (by decide +kernel) hphases hgood
  have hadopted := sharedPhase_adopted
  rw [ht, nextOf_next, hramps] at hadopted
  cases hadopted

end Sys2Proof.Machine
end

section
/-! A write of one byte of a register of immediate effect (R10). -/

set_option Elab.async false

namespace Sys2Proof.Machine

/-- After reset, with every clock enabled and a change staged of the first data word of a submit, whose own writes take effect at once. -/
def State.submitStaged : State :=
  { State.reset.wr R.CLK_EN_EN 0 0x7FF with staged := [⟨1, .field R.TALLY_SUB_DATA_DATA 0 0x100⟩] }

/-- Byte 0 of that word written with 0 by the PSC. -/
def byteWrite : Instr := .registerWrite ⟨.psc, 0⟩ 0x200020 1 0

theorem submitStaged_writable : Writable State.submitStaged ⟨.psc, 0⟩ R.TALLY_SUB_DATA_DATA 0 := by
  refine ⟨?_, ?_, ?_, ?_⟩ <;> decide +kernel

theorem submitStaged_zero : State.submitStaged.rd R.TALLY_SUB_DATA_DATA 0 = 0 := by decide +kernel

theorem submitStaged_takes : (nextOf (exec byteWrite State.submitStaged)).rd R.TALLY_SUB_DATA_DATA 0 = 0x100 := by decide +kernel

/-- Refutes O52: the bytes that a write does not address take the value that is staged for the field, where one is, and not the one
that stands. -/
theorem not_registerWritesFollowTheirAccessCodes : ¬ Obligations.RegisterWritesFollowTheirAccessCodes := by
  unfold Obligations.RegisterWritesFollowTheirAccessCodes
  rintro ⟨-, -, -, -, hbyte, -⟩
  obtain ⟨t, ht, -, hothers, -⟩ := hbyte State.submitStaged ⟨.psc, 0⟩ 0 0 0 submitStaged_writable (by decide)
  have htakes := submitStaged_takes
  have hkept := hothers 1 (by decide) (by decide)
  rw [byteWrite, ht, nextOf_next] at htakes
  rw [htakes, submitStaged_zero] at hkept
  exact absurd hkept (by decide)

end Sys2Proof.Machine
end

section
/-! The Store's words: what a store of bytes leaves in the words of the Store. -/

set_option Elab.async false

namespace Sys2Proof.Machine

/-! ## Little-endian bytes -/

theorem length_toLeBytes (n v : Nat) : (toLeBytes n v).length = n := by
  induction n generalizing v with
  | zero => rfl
  | succ n ih => exact congrArg (· + 1) (ih _)

theorem leBytes_toLeBytes (n v : Nat) : leBytes (toLeBytes n v) = v % 256 ^ n := by
  induction n generalizing v with
  | zero => simp [toLeBytes, leBytes, Nat.mod_one]
  | succ n ih =>
    have hbyte : (BitVec.ofNat 8 v).toNat = v % 256 := BitVec.toNat_ofNat v 8
    simp only [toLeBytes, leBytes, ih, hbyte]
    rw [Nat.pow_succ', Nat.mod_mul]

/-! ## Words -/

/-- A word reads the same from two Stores with the same bytes there. -/
theorem memGetBytes_congr {m m' : List Host.Cell} {a n : Nat} (h : ∀ b, a ≤ b → b < a + n → memGet m b = memGet m' b) :
    memGetBytes m a n = memGetBytes m' a n := by
  induction n generalizing a with
  | zero => rfl
  | succ n ih =>
    rw [memGetBytes, memGetBytes, h a (le_refl a) (by omega), ih fun b hb hb' => h b (by omega) (by omega)]

theorem State.ld_congr {s t : State} {a n : Nat} (h : ∀ b, a ≤ b → b < a + n → memGet t.store b = memGet s.store b) :
    t.ld a n = s.ld a n := congrArg leBytes (memGetBytes_congr h)

/-- A word apart from what has changed reads as before. -/
theorem SameStoreBut.ld {a n : Nat} {s t : State} (h : SameStoreBut a n s t) {b k : Nat} (hb : b + k ≤ a ∨ a + n ≤ b) :
    t.ld b k = s.ld b k := State.ld_congr fun c _ _ => h c (by omega)

theorem SameStoreBut.trans {a n : Nat} {s t u : State} (h : SameStoreBut a n s t) (h' : SameStoreBut a n t u) :
    SameStoreBut a n s u := fun b hb => (h' b hb).trans (h b hb)

theorem SameStoreBut.of_store {a n : Nat} {s t : State} (h : t.store = s.store) : SameStoreBut a n s t :=
  fun _ _ => by rw [h]

/-- The bytes change in a smaller range. -/
theorem SameStoreBut.widen {a n a' n' : Nat} {s t : State} (h : SameStoreBut a n s t) (ha : a' ≤ a) (hn : a + n ≤ a' + n') :
    SameStoreBut a' n' s t := fun b hb => h b (by omega)

theorem State.sameStoreBut_st (s : State) (a n v : Nat) : SameStoreBut a n s (s.st a n v) := fun c hc =>
  memGet_memPutBytes_outside _ _ (by rwa [length_toLeBytes])

/-- A word stored reads back, cut to its bytes. -/
theorem State.ld_st_same (s : State) {a n : Nat} (h : a + n ≤ storeSize) (v : Nat) : (s.st a n v).ld a n = v % 256 ^ n := by
  have hbytes : memGetBytes (s.st a n v).store a n = toLeBytes n v := by
    have := memGetBytes_memPutBytes a (toLeBytes n v) s.store (by rwa [length_toLeBytes])
    rwa [length_toLeBytes] at this
  unfold State.ld
  rw [hbytes, leBytes_toLeBytes]

/-- A word stored leaves every other word. -/
theorem State.ld_st_apart (s : State) {a n b k : Nat} (h : b + k ≤ a ∨ a + n ≤ b) (v : Nat) : (s.st a n v).ld b k = s.ld b k :=
  (s.sameStoreBut_st a n v).ld h

theorem State.ld_stBytes_apart (s : State) {a : Nat} {b : List Byte} {c k : Nat} (h : c + k ≤ a ∨ a + b.length ≤ c) :
    (s.stBytes a b).ld c k = s.ld c k := (s.sameStoreBut_stBytes a b).ld h

theorem memPutBytes_append (a : Nat) (b c : List Byte) (m : List Host.Cell) :
    memPutBytes m a (b ++ c) = memPutBytes (memPutBytes m a b) (a + b.length) c := by
  induction b generalizing m a with
  | nil => rfl
  | cons x t ih =>
    rw [List.cons_append, memPutBytes, ih, List.length_cons, memPutBytes, Nat.add_right_comm, Nat.add_assoc]

/-- A part of the bytes stored reads back. -/
theorem State.ld_stBytes_part (s : State) {a n v : Nat} (p q : List Byte) (h : a + p.length + n ≤ storeSize) :
    (s.stBytes a (p ++ (toLeBytes n v ++ q))).ld (a + p.length) n = v % 256 ^ n := by
  have hstore : memGetBytes (s.stBytes a (p ++ (toLeBytes n v ++ q))).store (a + p.length) n = toLeBytes n v := by
    show memGetBytes (memPutBytes s.store a (p ++ (toLeBytes n v ++ q))) (a + p.length) n = toLeBytes n v
    rw [memPutBytes_append, memPutBytes_append, length_toLeBytes]
    rw [memGetBytes_congr fun b _ hb => memGet_memPutBytes_outside q _ (.inl hb)]
    have := memGetBytes_memPutBytes (a + p.length) (toLeBytes n v) (memPutBytes s.store a p) (by rwa [length_toLeBytes])
    rwa [length_toLeBytes] at this
  unfold State.ld
  rw [hstore, leBytes_toLeBytes]

theorem leBytes_lt (b : List Byte) : leBytes b < 256 ^ b.length := by
  induction b with
  | nil => simp [leBytes]
  | cons x t ih =>
    have hx : x.toNat < 256 := x.isLt
    simp only [leBytes, List.length_cons, Nat.pow_succ']
    omega

/-- A word of `n` bytes is below its range's end. -/
theorem State.ld_lt (s : State) (a n : Nat) : s.ld a n < 256 ^ n := by
  have h := leBytes_lt (memGetBytes s.store a n)
  rwa [length_memGetBytes] at h

end Sys2Proof.Machine
end

section
/-! A ring's command is taken, turned away and answered. -/

set_option Elab.async false

namespace Sys2Proof.Machine

variable {s t u : State} {r : Nat}

theorem State.bit_set (s : State) {f : Fld} {i : Nat} (hi : i < f.cnt) (hw : f.wid = 1) : (s.wr f i 1).bit f i = true := by
  rw [State.bit, State.rd_wr_self s f hi, hw]
  rfl

theorem State.bit_unset (s : State) {f : Fld} {i : Nat} (hi : i < f.cnt) : (s.wr f i 0).bit f i = false := by
  rw [State.bit, State.rd_wr_self s f hi, Nat.zero_mod]
  rfl

/-! ## The entry of a completion -/

/-- The bytes of a completion entry (R594). -/
def cplEntry (i tag status op r0 r1 : Nat) : List Byte :=
  toLeBytes 2 i ++ toLeBytes 2 tag ++ toLeBytes 1 status ++ toLeBytes 1 op ++ toLeBytes 2 0 ++ toLeBytes 4 r0 ++ toLeBytes 4 r1

theorem length_cplEntry (i tag status op r0 r1 : Nat) : (cplEntry i tag status op r0 r1).length = 16 := by
  simp [cplEntry, length_toLeBytes]

theorem postCpl_eq (s : State) (r tag status op r0 r1 : Nat) :
    s.postCpl r tag status op r0 r1
      = ((s.stBytes (s.cplAt r) (cplEntry (s.rd R.RING_POS_CPL_TAIL r) tag status op r0 r1)).wr R.RING_POS_CPL_TAIL r
          ((s.rd R.RING_POS_CPL_TAIL r + 1) % 65536)).hostIrq 0 := rfl

/-- What the posting of a completion may write. -/
theorem postCpl_frame (s : State) (r tag status op r0 r1 : Nat) :
    Frame ⟨[.store, .out], [R.RING_POS_CPL_TAIL, R.HOST_IRQ_CPL, H.STORE_ECC]⟩ s (s.postCpl r tag status op r0 r1) :=
  by
  have hpost : Frame ⟨[.store], [R.RING_POS_CPL_TAIL, H.STORE_ECC]⟩ s
      ((s.stBytes (s.cplAt r) (cplEntry (s.rd R.RING_POS_CPL_TAIL r) tag status op r0 r1)).wr R.RING_POS_CPL_TAIL r
        ((s.rd R.RING_POS_CPL_TAIL r + 1) % 65536)) := (Frame.refl s).stBytes.wr
  rw [postCpl_eq]
  unfold State.hostIrq
  have hwide : Frame ⟨[.store, .out], [R.RING_POS_CPL_TAIL, R.HOST_IRQ_CPL, H.STORE_ECC]⟩ s _ := hpost.mono (by decide +kernel)
  have hirq := hwide.wr (f := R.HOST_IRQ_CPL) (i := 0) (v := 1)
  exact .ite (c := _ = true) hirq.send hirq

theorem postCpl_store (s : State) (r tag status op r0 r1 : Nat) :
    (s.postCpl r tag status op r0 r1).store
      = memPutBytes s.store (s.cplAt r) (cplEntry (s.rd R.RING_POS_CPL_TAIL r) tag status op r0 r1) :=
  (hostIrq_frame _ 0).store

theorem postCpl_sameStoreBut (s : State) (r tag status op r0 r1 : Nat) :
    SameStoreBut (s.cplAt r) 16 s (s.postCpl r tag status op r0 r1) := fun b hb => by
  rw [postCpl_store]
  exact memGet_memPutBytes_outside _ _ (by rwa [length_cplEntry])

/-- A completion has been written where ring `r`'s next one goes. -/
def Written (s : State) (r tag op st r0 r1 : Nat) (t : State) : Prop :=
  t.ld (s.cplAt r) 2 = s.rd R.RING_POS_CPL_TAIL r ∧ t.ld (s.cplAt r + 2) 2 = tag ∧ t.ld (s.cplAt r + 4) 1 = st
    ∧ t.ld (s.cplAt r + 5) 1 = op ∧ t.ld (s.cplAt r + 8) 4 = r0 % 2 ^ 32 ∧ t.ld (s.cplAt r + 12) 4 = r1 % 2 ^ 32

/-- What has been written depends on the Store alone. -/
theorem Written.of_store {tag op st r0 r1 : Nat} (h : Written s r tag op st r0 r1 t) (hu : u.store = t.store) :
    Written s r tag op st r0 r1 u := by
  have hld (a n : Nat) : u.ld a n = t.ld a n := by unfold State.ld; rw [hu]
  simpa only [Written, hld] using h

/-- A word of the entry posted reads back. -/
theorem ld_postCpl_part {tag st op r0 r1 n v : Nat} (p q : List Byte)
    (he : cplEntry (s.rd R.RING_POS_CPL_TAIL r) tag st op r0 r1 = p ++ (toLeBytes n v ++ q)) (hin : s.cplAt r + 16 ≤ storeSize) :
    (s.postCpl r tag st op r0 r1).ld (s.cplAt r + p.length) n = v % 256 ^ n := by
  have hlen : p.length + n ≤ 16 := by
    have := congrArg List.length he
    simp only [length_cplEntry, List.length_append, length_toLeBytes] at this
    omega
  have hst : (s.postCpl r tag st op r0 r1).ld (s.cplAt r + p.length) n
      = (s.stBytes (s.cplAt r) (p ++ (toLeBytes n v ++ q))).ld (s.cplAt r + p.length) n := by
    unfold State.ld
    rw [postCpl_store, he]
    rfl
  rw [hst, State.ld_stBytes_part s p q (by omega)]

theorem postCpl_written {tag op st : Nat} (hin : s.cplAt r + 16 ≤ storeSize) (htag : tag < 65536) (hop : op < 256) (hst : st < 256)
    (r0 r1 : Nat) : Written s r tag op st r0 r1 (s.postCpl r tag st op r0 r1) := by
  have hi : s.rd R.RING_POS_CPL_TAIL r < 65536 := s.rd_lt _ _
  generalize hT : s.rd R.RING_POS_CPL_TAIL r = i at hi ⊢
  have part {n v : Nat} (p q : List Byte) (he : cplEntry i tag st op r0 r1 = p ++ (toLeBytes n v ++ q)) :=
    ld_postCpl_part (s := s) (r := r) p q (hT ▸ he) hin
  have h0 := part (n := 2) (v := i) []
    (toLeBytes 2 tag ++ (toLeBytes 1 st ++ (toLeBytes 1 op ++ (toLeBytes 2 0 ++ (toLeBytes 4 r0 ++ toLeBytes 4 r1))))) rfl
  have h2 := part (n := 2) (v := tag) (toLeBytes 2 i)
    (toLeBytes 1 st ++ (toLeBytes 1 op ++ (toLeBytes 2 0 ++ (toLeBytes 4 r0 ++ toLeBytes 4 r1)))) rfl
  have h4 := part (n := 1) (v := st) (toLeBytes 2 i ++ toLeBytes 2 tag)
    (toLeBytes 1 op ++ (toLeBytes 2 0 ++ (toLeBytes 4 r0 ++ toLeBytes 4 r1))) rfl
  have h5 := part (n := 1) (v := op) (toLeBytes 2 i ++ toLeBytes 2 tag ++ toLeBytes 1 st)
    (toLeBytes 2 0 ++ (toLeBytes 4 r0 ++ toLeBytes 4 r1)) rfl
  have h8 := part (n := 4) (v := r0) (toLeBytes 2 i ++ toLeBytes 2 tag ++ toLeBytes 1 st ++ toLeBytes 1 op ++ toLeBytes 2 0)
    (toLeBytes 4 r1) rfl
  have h12 := part (n := 4) (v := r1)
    (toLeBytes 2 i ++ toLeBytes 2 tag ++ toLeBytes 1 st ++ toLeBytes 1 op ++ toLeBytes 2 0 ++ toLeBytes 4 r0) [] rfl
  exact ⟨h0.trans ((Nat.mod_eq_of_lt hi).trans hT.symm), h2.trans (Nat.mod_eq_of_lt htag), h4.trans (Nat.mod_eq_of_lt hst),
    h5.trans (Nat.mod_eq_of_lt hop), h8, h12⟩

/-! ## The consumer -/

/-- The ring's registers that its commands and completions are found by, and who serves it. -/
def ringFields : List Fld :=
  [R.RING_CMD_BASE_BASE, R.RING_CFG_CMD_LOG2, R.RING_CPL_BASE_BASE, R.RING_CFG_CPL_LOG2, R.RING_POS_CPL_TAIL, R.RING_POS_CMD_HEAD,
    R.RING_DB_CPL_HEAD, R.RING_DB_CMD_TAIL]

theorem cplAt_congr (h : ∀ f ∈ ringFields, u.rd f r = s.rd f r) : u.cplAt r = s.cplAt r := by
  unfold State.cplAt
  rw [h R.RING_CPL_BASE_BASE (by decide), h R.RING_POS_CPL_TAIL (by decide), h R.RING_CFG_CPL_LOG2 (by decide)]

theorem cmdAt_congr (h : ∀ f ∈ ringFields, u.rd f r = s.rd f r) : u.cmdAt r = s.cmdAt r := by
  unfold State.cmdAt State.cmdSize
  rw [h R.RING_CMD_BASE_BASE (by decide), h R.RING_POS_CMD_HEAD (by decide), h R.RING_CFG_CMD_LOG2 (by decide)]

theorem ringHart_congr (hg : u.bit R.STATUS_SAFE_GOV 0 = s.bit R.STATUS_SAFE_GOV 0)
    (hh : ∀ k, u.rd R.FW_HART_STAT_STATE k = s.rd R.FW_HART_STAT_STATE k) : u.ringHart r = s.ringHart r := by
  unfold State.ringHart State.hartUp
  rw [hg, hh, hh]

theorem mayPost_congr (h : ∀ f ∈ ringFields, u.rd f r = s.rd f r) (hr : u.ringHart r = s.ringHart r) :
    u.mayPost r = s.mayPost r := by
  unfold State.mayPost State.cplFull State.cplHeld
  rw [hr, h R.RING_CFG_CPL_LOG2 (by decide), h R.RING_POS_CPL_TAIL (by decide), h R.RING_DB_CPL_HEAD (by decide)]

/-- Ring `r` stands in `u` as in `s`: its places, its indices, its command, and whether it may be answered. -/
structure RingKept (r : Nat) (s u : State) : Prop where
  flds : ∀ f ∈ ringFields, u.rd f r = s.rd f r
  hart : u.ringHart r = s.ringHart r
  tag : u.cmdTag r = s.cmdTag r
  op : u.cmdOp r = s.cmdOp r

namespace RingKept

theorem cplAt (h : RingKept r s u) : u.cplAt r = s.cplAt r := cplAt_congr h.flds

theorem mayPost (h : RingKept r s u) : u.mayPost r = s.mayPost r := mayPost_congr h.flds h.hart

theorem refl (s : State) : RingKept r s s := ⟨fun _ _ => rfl, rfl, rfl, rfl⟩

/-- A state whose command lies in the Store as before. -/
theorem of_cmd (hf : ∀ f ∈ ringFields, u.rd f r = s.rd f r) (hr : u.ringHart r = s.ringHart r)
    (hc : ∀ b, s.cmdAt r ≤ b → b < s.cmdAt r + 64 → memGet u.store b = memGet s.store b) : RingKept r s u := by
  have hat := cmdAt_congr hf
  refine ⟨hf, hr, ?_, ?_⟩
  · unfold State.cmdTag
    rw [hat]
    exact State.ld_congr fun b hb hb' => hc b (by omega) (by omega)
  · unfold State.cmdOp
    rw [hat]
    exact State.ld_congr fun b hb hb' => hc b (by omega) (by omega)

/-- What keeps the rings' fields and the Store keeps every ring. -/
theorem of_frame {ρ : Reach} (h : Frame ρ s u) (hs : ρ.hasPart .store = false := by rfl)
    (hf : (ringFields.all fun f => ρ.flds.all (·.apart f)) = true := by decide +kernel)
    (hg : (ρ.flds.all fun f => f.apart R.STATUS_SAFE_GOV) = true := by decide +kernel)
    (hh : (ρ.flds.all fun f => f.apart R.FW_HART_STAT_STATE) = true := by decide +kernel) : RingKept r s u :=
  .of_cmd (fun f hm => h.rd (List.all_eq_true.1 hf f hm) r) (ringHart_congr (h.bit hg 0) fun k => h.rd hh k)
    fun _ _ _ => by rw [h.store hs]

end RingKept

/-! ## The command completes -/

theorem answerCmd_frame (s : State) (r st r0 r1 : Nat) :
    Frame ⟨[.store, .out], [R.RING_POS_CPL_TAIL, R.HOST_IRQ_CPL, H.STORE_ECC, R.RING_POS_CMD_HEAD, H.FW_RING_OP]⟩ s
      (s.answerCmd r st r0 r1) :=
  Frame.wr (Frame.wr ((postCpl_frame s r _ st _ r0 r1).mono (by decide +kernel)))

/-- The command that has begun is answered. -/
theorem answerCmd_posts (hr : r < 64) (hin : s.cplAt r + 16 ≤ storeSize) {st : Nat} (hst : st < 256) (r0 r1 : Nat) :
    Posts s r (s.rd H.FW_RING_TAG r) (s.rd H.FW_RING_OP r) st r0 r1 (s.answerCmd r st r0 r1)
      ∧ SameStoreBut (s.cplAt r) 16 s (s.answerCmd r st r0 r1) := by
  obtain ⟨h0, h2, h4, h5, h8, h12⟩ :=
    (postCpl_written hin (s.rd_lt H.FW_RING_TAG r) (s.rd_lt H.FW_RING_OP r) hst r0 r1).of_store
      (u := s.answerCmd r st r0 r1) rfl
  generalize hp : s.postCpl r (s.rd H.FW_RING_TAG r) st (s.rd H.FW_RING_OP r) r0 r1 = p
  have hans : s.answerCmd r st r0 r1 = (p.wr R.RING_POS_CMD_HEAD r ((s.rd R.RING_POS_CMD_HEAD r + 1) % 65536)).wr H.FW_RING_OP r 0 := by
    rw [← hp]
    rfl
  have htail : p.rd R.RING_POS_CPL_TAIL r = (s.rd R.RING_POS_CPL_TAIL r + 1) % 65536 := by
    rw [← hp, postCpl_eq, (hostIrq_frame _ 0).rd (by decide) r, State.rd_wr_self _ _ hr]
    exact Nat.mod_mod _ _
  have hirq : p.bit R.HOST_IRQ_CPL 0 = true := by
    rw [← hp, postCpl_eq]
    exact hostIrq_bit _ 0
  have htail' : (s.answerCmd r st r0 r1).rd R.RING_POS_CPL_TAIL r = (s.rd R.RING_POS_CPL_TAIL r + 1) % 65536 := by
    rw [hans, State.rd_wr_apart _ (by decide), State.rd_wr_apart _ (by decide), htail]
  have hhead : (s.answerCmd r st r0 r1).rd R.RING_POS_CMD_HEAD r = (s.rd R.RING_POS_CMD_HEAD r + 1) % 65536 := by
    rw [hans, State.rd_wr_apart _ (by decide), State.rd_wr_self _ _ hr]
    exact Nat.mod_mod _ _
  have hirq' : (s.answerCmd r st r0 r1).bit R.HOST_IRQ_CPL 0 = true := by
    rw [hans, State.bit_wr_apart _ (by decide), State.bit_wr_apart _ (by decide), hirq]
  exact ⟨⟨h0, h2, h4, h5, h8, h12, htail', hhead, hirq'⟩, postCpl_sameStoreBut s r _ st _ r0 r1⟩

theorem finishCmd_eq (h : s.mayPost r = true) (st r0 r1 : Nat) : s.finishCmd r st r0 r1 = s.answerCmd r st r0 r1 := if_pos h

/-- With nothing more posted the consumer stays. -/
theorem ringCheck_idle (h : s.rd R.RING_DB_CMD_TAIL r = s.rd R.RING_POS_CMD_HEAD r) : s.ringCheck r = s := by
  have hp : s.posted r = false := by
    unfold State.posted
    rw [h]
    exact bne_self_eq_false _
  unfold State.ringCheck
  rw [hp]
  simp

/-- Ring `r` may be answered, and nothing is posted behind its command. -/
structure LastAsked (r : Nat) (s : State) : Prop where
  ring : r < 64
  may : s.mayPost r = true
  one : s.rd R.RING_DB_CMD_TAIL r = (s.rd R.RING_POS_CMD_HEAD r + 1) % 65536
  inside : s.cplAt r + 16 ≤ storeSize

theorem LastAsked.kept (h : LastAsked r s) (hk : RingKept r s u) : LastAsked r u :=
  ⟨h.ring, hk.mayPost.trans h.may, by
    rw [hk.flds R.RING_DB_CMD_TAIL (by decide), hk.flds R.RING_POS_CMD_HEAD (by decide), h.one], by rw [hk.cplAt]; exact h.inside⟩

theorem served_iff : s.served r = true ↔ r < 64 ∧ s.bit R.RING_CFG_EN r = true ∧ s.mayPost r = true ∧ s.rd H.FW_RING_OP r = 0 := by
  simp only [State.served, Bool.and_eq_true, decide_eq_true_eq, beq_iff_eq, and_assoc]

theorem served_of_takes (h : s.takes r = true) : s.served r = true := by
  simp only [State.takes, Bool.and_eq_true] at h
  exact h.1.1.1.1.1

theorem LastAsked.of_takes (h : s.takes r = true)
    (hone : s.rd R.RING_DB_CMD_TAIL r = (s.rd R.RING_POS_CMD_HEAD r + 1) % 65536) (hin : s.cplAt r + 16 ≤ storeSize) :
    LastAsked r s := by
  obtain ⟨hr, -, hmay, -⟩ := served_iff.1 (served_of_takes h)
  exact ⟨hr, hmay, hone, hin⟩

/-- Nothing is posted behind the command that is answered. -/
theorem answer_ringCheck (h : LastAsked r s) (st r0 r1 : Nat) :
    (s.answerCmd r st r0 r1).ringCheck r = s.answerCmd r st r0 r1 := by
  refine ringCheck_idle ?_
  have hhead : (s.answerCmd r st r0 r1).rd R.RING_POS_CMD_HEAD r = (s.rd R.RING_POS_CMD_HEAD r + 1) % 65536 := by
    show ((State.wr _ R.RING_POS_CMD_HEAD r _).wr H.FW_RING_OP r 0).rd R.RING_POS_CMD_HEAD r = _
    rw [State.rd_wr_apart _ (by decide), State.rd_wr_self _ _ h.ring]
    exact Nat.mod_mod _ _
  rw [hhead, (answerCmd_frame s r st r0 r1).rd (by decide), h.one]

/-- A command that has begun ends with its answer. -/
theorem finish_ringCheck (h : LastAsked r s) (st r0 r1 : Nat) :
    (s.finishCmd r st r0 r1).ringCheck r = s.answerCmd r st r0 r1 := by
  rw [finishCmd_eq h.may, answer_ringCheck h]

theorem beginCmd_frame (s : State) (r : Nat) : Frame (.regs [H.FW_RING_TAG, H.FW_RING_OP]) s (s.beginCmd r) := (Frame.refl s).wr.wr

theorem beginCmd_kept (s : State) (r : Nat) : RingKept r s (s.beginCmd r) := .of_frame (beginCmd_frame s r)

theorem beginCmd_tag (hr : r < 64) (s : State) : (s.beginCmd r).rd H.FW_RING_TAG r = s.cmdTag r := by
  have hlt : s.cmdTag r < 65536 := s.ld_lt _ 2
  show ((s.wr H.FW_RING_TAG r (s.cmdTag r)).wr H.FW_RING_OP r _).rd H.FW_RING_TAG r = _
  rw [State.rd_wr_apart _ (by decide), State.rd_wr_self _ _ hr]
  exact Nat.mod_eq_of_lt hlt

theorem beginCmd_op (hr : r < 64) (s : State) : (s.beginCmd r).rd H.FW_RING_OP r = s.cmdOp r := by
  have hlt : s.cmdOp r < 256 := s.ld_lt _ 1
  exact (State.rd_wr_self _ _ hr _).trans (Nat.mod_eq_of_lt hlt)

theorem complete_eq (h : LastAsked r s) (st r0 r1 : Nat) : s.complete r st r0 r1 = (s.beginCmd r).answerCmd r st r0 r1 :=
  finish_ringCheck (h.kept (beginCmd_kept s r)) st r0 r1

/-- The answer to a ring leaves the other rings' consumer indices. -/
theorem complete_head_other (h : LastAsked r s) {k : Nat} (hk : k ≠ r) (st r0 r1 : Nat) :
    (s.complete r st r0 r1).rd R.RING_POS_CMD_HEAD k = s.rd R.RING_POS_CMD_HEAD k := by
  rw [complete_eq h]
  show ((State.wr _ R.RING_POS_CMD_HEAD r _).wr H.FW_RING_OP r 0).rd R.RING_POS_CMD_HEAD k = _
  rw [State.rd_wr_apart _ (by decide), State.rd_wr_idx _ hk.symm (by decide), (postCpl_frame _ r _ _ _ _ _).rd (by decide),
    (beginCmd_frame s r).rd (by decide)]

/-- The answer to a ring leaves the other rings' completion queues. -/
theorem complete_tail_other (h : LastAsked r s) {k : Nat} (hk : k ≠ r) (st r0 r1 : Nat) :
    (s.complete r st r0 r1).rd R.RING_POS_CPL_TAIL k = s.rd R.RING_POS_CPL_TAIL k := by
  rw [complete_eq h]
  show ((State.wr _ R.RING_POS_CMD_HEAD r _).wr H.FW_RING_OP r 0).rd R.RING_POS_CPL_TAIL k = _
  rw [State.rd_wr_apart _ (by decide), State.rd_wr_apart _ (by decide), postCpl_eq, (hostIrq_frame _ 0).rd (by decide),
    State.rd_wr_idx _ hk.symm (by decide)]
  have hst (u : State) (a : Nat) (b : List Byte) : (u.stBytes a b).rd R.RING_POS_CPL_TAIL k = u.rd R.RING_POS_CPL_TAIL k :=
    (Frame.stBytes (r := ⟨[.store], [H.STORE_ECC]⟩) (.refl u)).rd (by decide) k
  exact (hst _ _ _).trans ((beginCmd_frame s r).rd (by decide) k)

/-- What the answer of a command may write. -/
theorem complete_frame (h : LastAsked r s) (st r0 r1 : Nat) :
    Frame ⟨[.store, .out], answerFields⟩ s (s.complete r st r0 r1) := by
  rw [complete_eq h]
  exact ((beginCmd_frame s r).mono (by decide +kernel)).andThen (answerCmd_frame _ r st r0 r1)

theorem complete_answers (h : LastAsked r s) {st : Nat} (hst : st < 256) (r0 r1 : Nat) :
    Answers s r st r0 r1 (s.complete r st r0 r1) ∧ SameStoreBut (s.cplAt r) 16 s (s.complete r st r0 r1) := by
  have hk := beginCmd_kept s r
  obtain ⟨hposts, hsame⟩ := answerCmd_posts h.ring (h.kept hk).inside hst r0 r1
  rw [complete_eq h]
  rw [hk.cplAt] at hsame
  refine ⟨?_, (SameStoreBut.of_store rfl).trans hsame⟩
  simpa only [Answers, Posts, hk.cplAt, hk.flds R.RING_POS_CPL_TAIL (by decide), hk.flds R.RING_POS_CMD_HEAD (by decide),
    beginCmd_tag h.ring, beginCmd_op h.ring] using hposts

/-- An answer to what the ring held before it was touched. -/
theorem RingKept.answers {st r0 r1 : Nat} (hk : RingKept r s u) (h : Answers u r st r0 r1 t) : Answers s r st r0 r1 t := by
  simpa only [Answers, Posts, hk.cplAt, hk.flds R.RING_POS_CPL_TAIL (by decide), hk.flds R.RING_POS_CMD_HEAD (by decide), hk.tag,
    hk.op] using h

/-- The command of ring `r` is answered after `s` has become `u`. -/
theorem RingKept.complete (hk : RingKept r s u) (h : LastAsked r s) {st : Nat} (hst : st < 256) (r0 r1 : Nat) :
    Answers s r st r0 r1 (u.complete r st r0 r1) ∧ SameStoreBut (s.cplAt r) 16 u (u.complete r st r0 r1)
      ∧ Frame ⟨[.store, .out], answerFields⟩ u (u.complete r st r0 r1) := by
  obtain ⟨hans, hsame⟩ := complete_answers (h.kept hk) hst r0 r1
  rw [hk.cplAt] at hsame
  exact ⟨hk.answers hans, hsame, complete_frame (h.kept hk) st r0 r1⟩

/-! ## Service -/

theorem serve_asks {op : Nat} {c : CmdRule} (h : Asks s r op c) (act : State → State) : s.serve r op c act = act s := by
  obtain ⟨htakes, hop, haway, -⟩ := h
  unfold State.serve
  rw [htakes, hop, haway]
  simp

theorem serve_away {op st : Nat} {c : CmdRule} (htakes : s.takes r = true) (hop : s.cmdOp r = op) (haway : s.turnAway r c = some st)
    (act : State → State) : s.serve r op c act = s.complete r st 0 0 := by
  unfold State.serve
  rw [htakes, hop, haway]
  simp

/-- A command that is not taken, on a ring that is not served, breaks nothing. -/
theorem serve_idle {op : Nat} {c : CmdRule} (hs : s.served r = false ∨ s.posted r = false ∨ s.bit R.RING_CFG_ERR r = true)
    (ht : s.takes r = false ∨ s.cmdOp r ≠ op) (act : State → State) : s.serve r op c act = s := by
  have hc : (s.takes r && s.cmdOp r == op) = false := by
    obtain ht | ht := ht
    · rw [ht]
      rfl
    · rw [beq_false_of_ne ht, Bool.and_false]
  have hq : (s.served r && s.posted r && !s.bit R.RING_CFG_ERR r) = false := by
    obtain h | h | h := hs <;> rw [h] <;> simp
  unfold State.serve State.ringCheck
  rw [hc, hq]
  rfl

theorem LastAsked.of_asks {op : Nat} {c : CmdRule} (h : Asks s r op c) : LastAsked r s := by
  obtain ⟨htakes, -, -, hone, hin⟩ := h
  exact .of_takes htakes hone hin

theorem turnAway_lt {c : CmdRule} {st : Nat} (h : s.turnAway r c = some st) : st < 256 := by
  unfold State.turnAway at h
  repeat' split at h
  all_goals (cases h <;> decide)

end Sys2Proof.Machine
end

section
/-! The host attaches, goes silent, and manages its rings (R592–R600). -/

set_option Elab.async false

namespace Sys2Proof.Machine

variable {s t u : State} {r : Nat}

/-! ## The commands as they are served -/

theorem exec_attach (s : State) (r : Nat) :
    exec (.attach r) s = (s.serve r 0x01 { ring0 := true, free := true } (fun t => t.doAttach r)).go := rfl

theorem exec_detach (s : State) (r : Nat) :
    exec (.detach r) s = (s.serve r 0x02 { ring0 := true, free := true } (fun t =>
      (t.when (t.bit R.HOST_STAT_ATTACHED 0) State.unattend).complete r 0 0 0)).go := rfl

theorem exec_getStatus (s : State) (r : Nat) :
    exec (.getStatus r) s = (s.serve r 0x03 { governor := true, free := true } (fun t =>
      (t.when (t.bit R.STATUS_SAFE_GOV 0) (fun u => u.st (u.bufAt r) 4 (u.rawWord 0x100010))).complete r 0
        (t.rawWord 0x100008) (t.rawWord 0x10000C))).go := rfl

theorem exec_ringCreate (s : State) (r : Nat) :
    exec (.ringCreate r) s = (s.serve r 0x04 { ring0 := true, feature := some 10 } (fun t => t.doCreate r)).go := rfl

theorem exec_ringReset (s : State) (r : Nat) :
    exec (.ringReset r) s = (s.serve r 0x05 { ring0 := true } (fun t => t.doReset r)).go := rfl

theorem exec_ringDestroy (s : State) (r : Nat) :
    exec (.ringDestroy r) s = (s.serve r 0x06 { ring0 := true, feature := some 10 } (fun t => t.doDestroy r)).go := rfl

theorem exec_unknownOpcode (s : State) (r : Nat) :
    exec (.unknownOpcode r) s
      = (if s.takes r && !knownOps.contains (s.cmdOp r) then s.complete r 2 0 0 else s.ringCheck r).go := rfl

/-- A command that is answered and does nothing else. -/
theorem answered_only (h : LastAsked r s) {st : Nat} (hst : st < 256) (r0 r1 : Nat) :
    Answers s r st r0 r1 (s.complete r st r0 r1) ∧ SameStoreBut (s.cplAt r) 16 s (s.complete r st r0 r1)
      ∧ OnlyKinds answerFields s (s.complete r st r0 r1) :=
  ⟨(complete_answers h hst r0 r1).1, (complete_answers h hst r0 r1).2, (complete_frame h st r0 r1).kinds⟩

/-! ## ATTACH -/

/-- A payload of ATTACH that its format allows (R600). -/
def attachWell (p : List Byte) : Prop :=
  p.length = 16 ∧ u16At p 2 = 0 ∧ byteAt p 12 < 64 ∧ u16At p 13 = 0 ∧ byteAt p 15 = 0

/-- The host's attachment as it is kept (R598, R603). -/
def State.attachTo (s : State) (p : List Byte) : State :=
  ((((s.wr R.HOST_STAT_ATTACHED 0 1).wr R.HOST_STAT_UNATTENDED 0 0).wr R.GL_STATUS_UNATTENDED 0 0).wr
    H.FW_FEATURES 0 ((u32At p 4 &&& Config.features) % 2048)).wr R.HOST_STAT_NOTIFY_RING 0 (byteAt p 12)

theorem doAttach_malformed (h : ¬ attachWell (s.payload r)) : s.doAttach r = s.complete r 3 0 0 := by
  refine if_pos ?_
  unfold attachWell at h
  omega

theorem doAttach_version (h : attachWell (s.payload r)) (hv : u16At (s.payload r) 0 / 256 ≠ s.rd H.FW_IF_VER 0 / 256) :
    s.doAttach r = s.complete r 10 (s.rd H.FW_IF_VER 0 * 65536 + s.rd R.FW_VERSION_VERSION 0 % 65536) 0 := by
  obtain ⟨hlen, hz, hring, hz', hz''⟩ := h
  exact (if_neg (by omega)).trans (if_pos hv)

theorem doAttach_attaches (h : attachWell (s.payload r)) (hv : u16At (s.payload r) 0 / 256 = s.rd H.FW_IF_VER 0 / 256) :
    s.doAttach r = (s.attachTo (s.payload r)).complete r 0 (s.rd H.FW_IF_VER 0 * 65536 + s.rd R.FW_VERSION_VERSION 0 % 65536)
      ((u32At (s.payload r) 4 &&& Config.features) % 2048) := by
  obtain ⟨hlen, hz, hring, hz', hz''⟩ := h
  exact (if_neg (by omega)).trans (if_neg (not_not.2 hv))

theorem attachTo_frame (s : State) (p : List Byte) :
    Frame (.regs [R.HOST_STAT_ATTACHED, R.HOST_STAT_UNATTENDED, R.GL_STATUS_UNATTENDED, H.FW_FEATURES, R.HOST_STAT_NOTIFY_RING]) s
      (s.attachTo p) := (Frame.refl s).wr.wr.wr.wr.wr

theorem attachTo_attaches {p : List Byte} (h : byteAt p 12 < 64) (s : State) :
    (s.attachTo p).bit R.HOST_STAT_ATTACHED 0 = true ∧ (s.attachTo p).bit R.HOST_STAT_UNATTENDED 0 = false
      ∧ (s.attachTo p).bit R.GL_STATUS_UNATTENDED 0 = false ∧ (s.attachTo p).rd R.HOST_STAT_NOTIFY_RING 0 = byteAt p 12
      ∧ (s.attachTo p).rd H.FW_FEATURES 0 = (u32At p 4 &&& Config.features) % 2048 := by
  unfold State.attachTo
  refine ⟨?_, ?_, ?_, ?_, ?_⟩
  · rw [State.bit_wr_apart _ (by decide), State.bit_wr_apart _ (by decide), State.bit_wr_apart _ (by decide),
      State.bit_wr_apart _ (by decide)]
    exact State.bit_set _ (by decide) rfl
  · rw [State.bit_wr_apart _ (by decide), State.bit_wr_apart _ (by decide), State.bit_wr_apart _ (by decide)]
    exact State.bit_unset _ (by decide)
  · rw [State.bit_wr_apart _ (by decide), State.bit_wr_apart _ (by decide)]
    exact State.bit_unset _ (by decide)
  · rw [State.rd_wr_self _ _ (by decide)]
    exact Nat.mod_eq_of_lt h
  · rw [State.rd_wr_apart _ (by decide), State.rd_wr_self _ _ (by decide)]
    exact Nat.mod_mod _ _

theorem attach_attaches {p : List Byte} (h : Asks s 0 0x01 { ring0 := true, free := true }) (hp : p = s.payload 0)
    (hw : attachWell p) (hv : u16At p 0 / 256 = s.rd H.FW_IF_VER 0 / 256) :
    Completes (.attach 0) s fun t =>
      t.bit R.HOST_STAT_ATTACHED 0 = true ∧ t.bit R.HOST_STAT_UNATTENDED 0 = false ∧ t.bit R.GL_STATUS_UNATTENDED 0 = false
        ∧ t.rd R.HOST_STAT_NOTIFY_RING 0 = byteAt p 12 ∧ t.rd H.FW_FEATURES 0 = (u32At p 4 &&& Config.features) % 2048
        ∧ Answers s 0 0 (s.rd H.FW_IF_VER 0 * 65536 + s.rd R.FW_VERSION_VERSION 0 % 65536)
            ((u32At p 4 &&& Config.features) % 2048) t
        ∧ SameStoreBut (s.cplAt 0) 16 s t := by
  subst hp
  have hall := attachTo_frame s (s.payload 0)
  obtain ⟨hatt, hun, hgl, hring, hfeat⟩ := attachTo_attaches hw.2.2.1 s
  obtain ⟨hans, hsame, hf⟩ := (RingKept.of_frame hall).complete (.of_asks h) (st := 0) (by decide)
    (s.rd H.FW_IF_VER 0 * 65536 + s.rd R.FW_VERSION_VERSION 0 % 65536) ((u32At (s.payload 0) 4 &&& Config.features) % 2048)
  refine .of_go ((exec_attach s 0).trans (congrArg State.go ((serve_asks h _).trans (doAttach_attaches hw hv))))
    ⟨(hf.bit (by decide) 0).trans hatt, (hf.bit (by decide) 0).trans hun, (hf.bit (by decide) 0).trans hgl,
      (hf.rd (by decide) 0).trans hring, (hf.rd (by decide) 0).trans hfeat, hans, ?_⟩
  exact (SameStoreBut.of_store hall.store).trans hsame

/-! ## DETACH and the unattended state -/

/-- What the unattended state tells and keeps before the map's record acts (R598). -/
def State.unattendTold (s : State) : State :=
  ((((((s.wr R.HOST_STAT_ATTACHED 0 0).wr R.HOST_STAT_UNATTENDED 0 1).hostIrq 5).send (.hartEvent 2 0x13)).send
    (.hartEvent 1 0x13))).wr R.GL_STATUS_UNATTENDED 0 1

/-- What the map's record may do (R598). -/
def recordReach : Reach := Frame.writeProfileReach.and <| Frame.sendRevertReach.and <| Frame.dropCapsReach

theorem unattend_frame (s : State) : Frame recordReach s.unattendTold s.unattend := by
  unfold State.unattend
  extract_lets s1 s2 s3 s4
  have h4 : Frame recordReach s.unattendTold s4 :=
    ((Frame.refl s2).when fun _ hu => hu.dropCaps).when fun _ hu => hu.foldl fun _ _ hv => hv.sendRevert
  split
  · exact h4.when fun _ hu => hu.writeProfile.answer
  · exact h4

theorem unattend_tame (s : State) : Tame false s.unattendTold s.unattend := by
  unfold State.unattend
  extract_lets s1 s2 s3 s4
  have h4 : Tame false s.unattendTold s4 :=
    ((Tame.refl false s2).when fun _ hu => hu.dropCaps).when fun _ hu => hu.foldl fun _ _ hv => hv.sendRevert
  split
  · exact h4.when fun _ hu => hu.writeProfile.answer
  · exact h4

/-- The host is told to be gone, and H1 and H2 know. -/
structure Unattended (t : State) : Prop where
  detached : t.bit R.HOST_STAT_ATTACHED 0 = false
  unattended : t.bit R.HOST_STAT_UNATTENDED 0 = true
  grants : t.bit R.GL_STATUS_UNATTENDED 0 = true
  irq : t.bit R.HOST_IRQ_UNATT 0 = true
  h1 : .hartEvent 1 0x13 ∈ t.out
  h2 : .hartEvent 2 0x13 ∈ t.out

theorem unattendTold_says (s : State) : Unattended s.unattendTold := by
  have hirq := hostIrq_frame ((s.wr R.HOST_STAT_ATTACHED 0 0).wr R.HOST_STAT_UNATTENDED 0 1) 5
  have hbit := hostIrq_bit ((s.wr R.HOST_STAT_ATTACHED 0 0).wr R.HOST_STAT_UNATTENDED 0 1) 5
  refine ⟨?_, ?_, ?_, ?_, List.mem_cons_self, List.mem_cons_of_mem _ List.mem_cons_self⟩
  · refine (State.bit_wr_apart _ (by decide) 0 0 1).trans ((hirq.bit (by decide) 0).trans ?_)
    rw [State.bit_wr_apart _ (by decide)]
    exact State.bit_unset _ (by decide)
  · exact (State.bit_wr_apart _ (by decide) 0 0 1).trans ((hirq.bit (by decide) 0).trans (State.bit_set _ (by decide) rfl))
  · exact State.bit_set _ (by decide) rfl
  · exact (State.bit_wr_apart _ (by decide) 0 0 1).trans hbit

theorem unattend_says (s : State) : Unattended s.unattend := by
  have hf := unattend_frame s
  have hout := (unattend_tame s).out
  have h := unattendTold_says s
  exact ⟨(hf.bit (by decide +kernel) 0).trans h.detached, (hf.bit (by decide +kernel) 0).trans h.unattended,
    (hf.bit (by decide +kernel) 0).trans h.grants, (hf.bit (by decide +kernel) 0).trans h.irq, hout.subset h.h1, hout.subset h.h2⟩

theorem detach_answers (h : Asks s 0 0x02 { ring0 := true, free := true }) :
    Completes (.detach 0) s fun t =>
      t.bit R.HOST_STAT_ATTACHED 0 = false ∧ Answers s 0 0 0 0 t
        ∧ (s.bit R.HOST_STAT_ATTACHED 0 = true → t.bit R.HOST_STAT_UNATTENDED 0 = true ∧ t.bit R.GL_STATUS_UNATTENDED 0 = true
            ∧ .hartEvent 1 0x13 ∈ t.out ∧ .hartEvent 2 0x13 ∈ t.out) := by
  have hexec := (exec_detach s 0).trans (congrArg State.go (serve_asks h _))
  by_cases hatt : s.bit R.HOST_STAT_ATTACHED 0 = true
  · have hfr : Frame Frame.unattendReach s s.unattend := (Frame.refl s).unattend
    have hu := unattend_says s
    have hkept : RingKept 0 s s.unattend := .of_frame hfr
    obtain ⟨hans, -, hf⟩ := hkept.complete (.of_asks h) (st := 0) (by decide) 0 0
    have hout := (Tame.refl false s.unattend).complete (r := 0) (status := 0) (r0 := 0) (r1 := 0) |>.out
    refine .of_go (hexec.trans (congrArg (fun u : State => (u.complete 0 0 0 0).go) (if_pos hatt))) ⟨?_, hans, fun _ => ?_⟩
    · exact (hf.bit (by decide) 0).trans hu.detached
    · exact ⟨(hf.bit (by decide) 0).trans hu.unattended, (hf.bit (by decide) 0).trans hu.grants, hout.subset hu.h1, hout.subset hu.h2⟩
  · rw [Bool.not_eq_true] at hatt
    obtain ⟨hans, -, hf⟩ := (RingKept.refl s).complete (.of_asks h) (st := 0) (by decide) 0 0
    refine .of_go (hexec.trans (congrArg (fun u : State => (u.complete 0 0 0 0).go) (if_neg (Bool.not_eq_true _ ▸ hatt))))
      ⟨(hf.bit (by decide) 0).trans hatt, hans, fun hc => absurd hc (by rw [hatt]; decide)⟩

theorem exec_heartbeatLapse (s : State) :
    exec .heartbeatLapse s
      = (if s.bit R.HOST_STAT_ATTACHED 0 && decide (2000 ≤ s.rd R.HOST_STAT_HB_AGE 0) then s.unattend else s).go := rfl

theorem heartbeatLapse_unattends (ha : s.bit R.HOST_STAT_ATTACHED 0 = true) (hage : 2000 ≤ s.rd R.HOST_STAT_HB_AGE 0) :
    Completes .heartbeatLapse s fun t =>
      t.bit R.HOST_STAT_ATTACHED 0 = false ∧ t.bit R.HOST_STAT_UNATTENDED 0 = true ∧ t.bit R.GL_STATUS_UNATTENDED 0 = true
        ∧ t.bit R.HOST_IRQ_UNATT 0 = true ∧ .hartEvent 1 0x13 ∈ t.out ∧ .hartEvent 2 0x13 ∈ t.out ∧ SameStore s t := by
  have hu := unattend_says s
  have hf : Frame Frame.unattendReach s s.unattend := (Frame.refl s).unattend
  refine .of_go (t := s.unattend) ?_ ⟨hu.detached, hu.unattended, hu.grants, hu.irq, hu.h1, hu.h2, hf.sameStore⟩
  rw [exec_heartbeatLapse, ha, decide_eq_true hage]
  rfl

theorem heartbeatLapse_idle (h : s.bit R.HOST_STAT_ATTACHED 0 = false ∨ s.rd R.HOST_STAT_HB_AGE 0 < 2000) :
    exec .heartbeatLapse s = .next s := by
  have hc : (s.bit R.HOST_STAT_ATTACHED 0 && decide (2000 ≤ s.rd R.HOST_STAT_HB_AGE 0)) = false := by
    obtain h | h := h
    · rw [h]
      rfl
    · rw [decide_eq_false (Nat.not_le.2 h), Bool.and_false]
  rw [exec_heartbeatLapse, hc]
  rfl

/-! ## GET_STATUS -/

theorem getStatus_answers (h : Asks s r 0x03 { governor := true, free := true }) (hg : s.bit R.STATUS_SAFE_GOV 0 = false) :
    Completes (.getStatus r) s fun t =>
      Answers s r 0 (s.rawWord 0x100008) (s.rawWord 0x10000C) t ∧ SameStoreBut (s.cplAt r) 16 s t
        ∧ OnlyKinds answerFields s t := by
  refine .of_go ?_ (answered_only (.of_asks h) (st := 0) (by decide) (s.rawWord 0x100008) (s.rawWord 0x10000C))
  exact (exec_getStatus s r).trans (congrArg State.go ((serve_asks h _).trans
    (congrArg (fun u : State => u.complete r 0 (s.rawWord 0x100008) (s.rawWord 0x10000C)) (if_neg (by rw [hg]; decide)))))

theorem getStatus_boot (h : Asks s 0 0x03 { governor := true, free := true }) (hg : s.bit R.STATUS_SAFE_GOV 0 = true)
    (hbuf : s.bufAt 0 + 4 ≤ storeSize) (hcpl : s.cplAt 0 + 16 ≤ s.bufAt 0 ∨ s.bufAt 0 + 4 ≤ s.cplAt 0)
    (hcmd : s.cmdAt 0 + 64 ≤ s.bufAt 0 ∨ s.bufAt 0 + 4 ≤ s.cmdAt 0) :
    Completes (.getStatus 0) s fun t =>
      t.ld (s.bufAt 0) 4 = s.rawWord 0x100010 % 2 ^ 32 ∧ Answers s 0 0 (s.rawWord 0x100008) (s.rawWord 0x10000C) t := by
  have hst : Frame ⟨[.store], [H.STORE_ECC]⟩ s (s.st (s.bufAt 0) 4 (s.rawWord 0x100010)) := (Frame.refl s).st
  have hkept : RingKept 0 s (s.st (s.bufAt 0) 4 (s.rawWord 0x100010)) := by
    refine .of_cmd (fun f hf => hst.rd ?_ 0) (ringHart_congr (hst.bit (by decide) 0) (hst.rd (by decide))) fun b hb hb' =>
      s.sameStoreBut_st (s.bufAt 0) 4 (s.rawWord 0x100010) b (by omega)
    exact List.all_eq_true.1 (by decide +kernel : (ringFields.all fun f => [H.STORE_ECC].all (·.apart f)) = true) f hf
  obtain ⟨hans, hsame, -⟩ := hkept.complete (.of_asks h) (st := 0) (by decide) (s.rawWord 0x100008) (s.rawWord 0x10000C)
  refine .of_go (t := (s.st (s.bufAt 0) 4 (s.rawWord 0x100010)).complete 0 0 (s.rawWord 0x100008) (s.rawWord 0x10000C)) ?_ ⟨?_, hans⟩
  · exact (exec_getStatus s 0).trans (congrArg State.go ((serve_asks h _).trans
      (congrArg (fun u : State => u.complete 0 0 (s.rawWord 0x100008) (s.rawWord 0x10000C)) (if_pos hg))))
  · exact (hsame.ld (by omega)).trans (State.ld_st_same s hbuf _)

/-! ## The rings' registers -/

/-- Elements put back at reset leave every other element. -/
theorem rd_clearElems_other {fs : List Fld} {g : Fld} (hfs : (fs.all fun f => f == g || f.apart g) = true) (hg : 0 < g.stride)
    {k j : Nat} (hk : k ≠ j) (s : State) : (s.clearElems fs k).rd g j = s.rd g j := by
  refine List.foldlRecOn fs _ (motive := fun u : State => u.rd g j = s.rd g j) rfl fun u hu f hf => ?_
  obtain hfg | hfg := Bool.or_eq_true _ _ ▸ List.all_eq_true.1 hfs f hf
  · obtain rfl := beq_iff_eq.1 hfg
    rw [State.rd_wr_idx _ hk hg, hu]
  · rw [State.rd_wr_apart _ hfg, hu]

/-- An element put back at reset reads so. -/
theorem rd_clearElems_self {fs : List Fld} {g : Fld} (hm : g ∈ fs) (hfs : (fs.all fun f => f == g || f.apart g) = true) {k : Nat}
    (hk : k < g.cnt) (s : State) : (s.clearElems fs k).rd g k = g.resetAt k % 2 ^ g.wid := by
  induction fs generalizing s with
  | nil => cases hm
  | cons f fs ih =>
    simp only [List.all_cons, Bool.and_eq_true] at hfs
    obtain ⟨hf, hrest⟩ := hfs
    by_cases hin : g ∈ fs
    · exact ih hin hrest _
    · obtain rfl : g = f := (List.mem_cons.1 hm).resolve_right hin
      have hapart : ∀ u : State, (u.clearElems fs k).rd g k = u.rd g k := fun u =>
        List.foldlRecOn fs _ (motive := fun v : State => v.rd g k = u.rd g k) rfl fun v hv x hx => by
          obtain hxg | hxg := Bool.or_eq_true _ _ ▸ List.all_eq_true.1 hrest x hx
          · exact absurd (beq_iff_eq.1 hxg ▸ hx) hin
          · rw [State.rd_wr_apart _ hxg, hv]
      show ((s.wr g k (g.resetAt k)).clearElems fs k).rd g k = _
      rw [hapart, State.rd_wr_self _ _ hk]

/-- A ring's fields that a clearing or a reset of it may move. -/
theorem ring_apart_clear {k : Nat} {fs : List Fld} (hfs : (ringFields.all fun g => fs.all fun f => f == g || f.apart g) = true)
    (hk : k ≠ r) (s : State) : ∀ g ∈ ringFields, (s.clearElems fs k).rd g r = s.rd g r := fun g hg =>
  rd_clearElems_other (List.all_eq_true.1 hfs g hg)
    (of_decide_eq_true (List.all_eq_true.1 (by decide : (ringFields.all fun g => decide (0 < g.stride)) = true) g hg)) hk s

theorem clearRing_frame (s : State) (k : Nat) : Frame Frame.clearRingReach s (s.clearRing k) := (Frame.refl s).clearRing

theorem resetRing_frame (s : State) (k : Nat) : Frame Frame.resetRingReach s (s.resetRing k) := (Frame.refl s).resetRing

theorem clearRing_kept {k : Nat} (hk : k ≠ r) (s : State) : RingKept r s (s.clearRing k) :=
  .of_cmd (ring_apart_clear (by decide +kernel) hk s)
    (ringHart_congr ((clearRing_frame s k).bit (by decide +kernel) 0) ((clearRing_frame s k).rd (by decide +kernel)))
    fun _ _ _ => by rw [(clearRing_frame s k).store]

theorem resetRing_kept {k : Nat} (hk : k ≠ r) (s : State) : RingKept r s (s.resetRing k) :=
  .of_cmd (ring_apart_clear (by decide +kernel) hk s)
    (ringHart_congr ((resetRing_frame s k).bit (by decide +kernel) 0) ((resetRing_frame s k).rd (by decide +kernel)))
    fun _ _ _ => by rw [(resetRing_frame s k).store]

/-! ## RING_CREATE -/

theorem mem_sortBy {α : Type} {key : α → Nat} {l : List α} {x : α} : x ∈ sortBy key l ↔ x ∈ l := by
  have go (l acc : List α) : x ∈ l.foldl (fun acc y => insertBy key y acc) acc ↔ x ∈ acc ∨ x ∈ l := by
    induction l generalizing acc with
    | nil => simp
    | cons y l ih => rw [List.foldl_cons, ih, insertBy_mem, List.mem_cons]; tauto
  simpa [sortBy] using go l []

/-- A place found in the ring pool is aligned and within it. -/
theorem fitPool_some {used : List (Nat × Nat)} {al n a : Nat} (h : fitPool used al n = some a) : al ∣ a ∧ a + n ≤ 0x5C000 := by
  have hmem := List.mem_filter.1 (mem_sortBy.1 (List.mem_of_head? h))
  obtain ⟨hcand, hok⟩ := hmem
  obtain ⟨x, -, rfl⟩ := List.mem_map.1 hcand
  exact ⟨Nat.dvd_mul_left _ _, of_decide_eq_true (Bool.and_eq_true _ _ ▸ hok).1⟩

/-- A payload of RING_CREATE that its format allows (R600). -/
def createWell (p : List Byte) : Prop :=
  p.length = 4 ∧ 0 < byteAt p 0 ∧ byteAt p 0 < 64 ∧ 4 ≤ byteAt p 1 ∧ byteAt p 1 ≤ 12 ∧ 4 ≤ byteAt p 2 ∧ byteAt p 2 ≤ 12
    ∧ byteAt p 3 ≤ 8

theorem doCreate_malformed (h : ¬ createWell (s.payload r)) : s.doCreate r = s.complete r 3 0 0 := by
  refine if_pos ?_
  unfold createWell at h
  omega

theorem doCreate_busy (h : createWell (s.payload r)) (hen : s.bit R.RING_CFG_EN (byteAt (s.payload r) 0) = true) :
    s.doCreate r = s.complete r 1 0 0 := by
  unfold createWell at h
  exact (if_neg (by omega)).trans (if_pos hen)

theorem doCreate_full (h : createWell (s.payload r)) (hen : s.bit R.RING_CFG_EN (byteAt (s.payload r) 0) = false)
    (hfit : fitPool s.poolUsed 256 (64 * 2 ^ byteAt (s.payload r) 1) = none) : s.doCreate r = s.complete r 7 0 0 := by
  unfold createWell at h
  refine (if_neg (by omega)).trans ((if_neg (by rw [hen]; decide)).trans ?_)
  simp only [hfit]

/-- Ring `k` opened at its places (R591, R600). -/
def State.openedRing (s : State) (k cl pl pages a b d : Nat) : State :=
  (((((((s.clearRing k).wr R.RING_CFG_EN k 1).wr R.RING_CFG_CMD_LOG2 k cl).wr R.RING_CFG_CPL_LOG2 k pl).wr
    R.RING_CMD_BASE_BASE k (a / 256)).wr R.RING_CPL_BASE_BASE k (b / 16)).wr R.RING_DATA_PAGES k pages).wr
    R.RING_DATA_BASE k (d / 4096)

theorem doCreate_opens {k cl pl pages a b d : Nat} (h : createWell (s.payload r)) (hk : k = byteAt (s.payload r) 0)
    (hcl : cl = byteAt (s.payload r) 1) (hpl : pl = byteAt (s.payload r) 2) (hpages : pages = byteAt (s.payload r) 3)
    (hen : s.bit R.RING_CFG_EN k = false) (ha : fitPool s.poolUsed 256 (64 * 2 ^ cl) = some a)
    (hb : fitPool (s.poolUsed ++ [(a, 64 * 2 ^ cl)]) 16 (16 * 2 ^ pl) = some b)
    (hd : fitPool (s.poolUsed ++ [(a, 64 * 2 ^ cl)] ++ [(b, 16 * 2 ^ pl)]) 4096 (4096 * pages) = some d) :
    s.doCreate r = (s.openedRing k cl pl pages a b d).complete r 0 a (b + d / 4096 % 256 * 2 ^ 20) := by
  subst hk hcl hpl hpages
  unfold createWell at h
  refine (if_neg (by omega)).trans ((if_neg (by rw [hen]; decide)).trans ?_)
  simp only [ha, hb, hd]
  rfl

section

variable {k cl pl pages a b d : Nat}

theorem openedRing_frame (s : State) (k cl pl pages a b d : Nat) :
    Frame Frame.clearRingReach s (s.openedRing k cl pl pages a b d) := (Frame.refl s).clearRing.wr.wr.wr.wr.wr.wr.wr

theorem openedRing_kept (hk : k ≠ r) (s : State) : RingKept r s (s.openedRing k cl pl pages a b d) := by
  have hf := openedRing_frame s k cl pl pages a b d
  refine .of_cmd (fun f hm => ?_) (ringHart_congr (hf.bit (by decide +kernel) 0) (hf.rd (by decide +kernel)))
    fun _ _ _ => by rw [hf.store]
  have hclear := (clearRing_kept hk s).flds f hm
  simp only [ringFields, List.mem_cons, List.not_mem_nil, or_false] at hm
  unfold State.openedRing
  rcases hm with rfl | rfl | rfl | rfl | rfl | rfl | rfl | rfl <;>
    simpa (disch := first | decide | exact hk) only [State.rd_wr_apart, State.rd_wr_idx] using hclear

/-- The registers of the ring that has been opened. -/
theorem openedRing_says (hk : k < 64) (hcl : cl ≤ 12) (hpl : pl ≤ 12) (hpages : pages ≤ 8) (ha : 256 ∣ a) (ha' : a ≤ 0x5C000)
    (hb : 16 ∣ b) (hb' : b ≤ 0x5C000) (hd : 4096 ∣ d) (hd' : d ≤ 0x5C000) (s : State) :
    (s.openedRing k cl pl pages a b d).bit R.RING_CFG_EN k = true
      ∧ (s.openedRing k cl pl pages a b d).rd R.RING_CFG_CMD_LOG2 k = cl
      ∧ (s.openedRing k cl pl pages a b d).rd R.RING_CFG_CPL_LOG2 k = pl
      ∧ 256 * (s.openedRing k cl pl pages a b d).rd R.RING_CMD_BASE_BASE k = a
      ∧ 16 * (s.openedRing k cl pl pages a b d).rd R.RING_CPL_BASE_BASE k = b
      ∧ (s.openedRing k cl pl pages a b d).rd R.RING_DATA_PAGES k = pages
      ∧ 4096 * (s.openedRing k cl pl pages a b d).rd R.RING_DATA_BASE k = d := by
  unfold State.openedRing
  simp (disch := first | decide | exact hk) only [State.bit_wr_apart, State.rd_wr_apart]
  refine ⟨State.bit_set _ hk rfl, ?_, ?_, ?_, ?_, ?_, ?_⟩
  · rw [State.rd_wr_self _ _ hk]
    exact Nat.mod_eq_of_lt (by omega : cl < 16)
  · rw [State.rd_wr_self _ _ hk]
    exact Nat.mod_eq_of_lt (by omega : pl < 16)
  · rw [State.rd_wr_self _ _ hk]
    exact (congrArg (256 * ·) (Nat.mod_eq_of_lt (by omega : a / 256 < 4096))).trans (Nat.mul_div_cancel' ha)
  · rw [State.rd_wr_self _ _ hk]
    exact (congrArg (16 * ·) (Nat.mod_eq_of_lt (by omega : b / 16 < 65536))).trans (Nat.mul_div_cancel' hb)
  · rw [State.rd_wr_self _ _ hk]
    exact Nat.mod_eq_of_lt (by omega : pages < 256)
  · rw [State.rd_wr_self _ _ hk]
    exact (congrArg (4096 * ·) (Nat.mod_eq_of_lt (by omega : d / 4096 < 256))).trans (Nat.mul_div_cancel' hd)

/-- The ring that has been opened is empty. -/
theorem openedRing_empty (hk : k < 64) (s : State) :
    (s.openedRing k cl pl pages a b d).rd R.RING_POS_CMD_HEAD k = 0 ∧ (s.openedRing k cl pl pages a b d).rd R.RING_POS_CPL_TAIL k = 0
      ∧ (s.openedRing k cl pl pages a b d).bit R.RING_CFG_ERR k = false := by
  unfold State.openedRing State.clearRing
  simp (disch := decide) only [State.bit_wr_apart, State.rd_wr_apart]
  refine ⟨?_, ?_, ?_⟩
  · exact rd_clearElems_self (by decide) (by decide +kernel) hk s
  · exact rd_clearElems_self (by decide) (by decide +kernel) hk s
  · exact beq_eq_false_iff_ne.2 (by rw [rd_clearElems_self (by decide) (by decide +kernel) hk s]; exact Nat.zero_ne_one)

end

theorem ringCreate_opens {p : List Byte} {k a b d : Nat} (h : Asks s 0 0x04 { ring0 := true, feature := some 10 })
    (hp : p = s.payload 0) (hk : k = byteAt p 0) (hw : createWell p) (hen : s.bit R.RING_CFG_EN k = false)
    (ha : fitPool s.poolUsed 256 (64 * 2 ^ byteAt p 1) = some a)
    (hb : fitPool (s.poolUsed ++ [(a, 64 * 2 ^ byteAt p 1)]) 16 (16 * 2 ^ byteAt p 2) = some b)
    (hd : fitPool (s.poolUsed ++ [(a, 64 * 2 ^ byteAt p 1)] ++ [(b, 16 * 2 ^ byteAt p 2)]) 4096 (4096 * byteAt p 3) = some d) :
    Completes (.ringCreate 0) s fun t =>
      t.bit R.RING_CFG_EN k = true ∧ t.rd R.RING_CFG_CMD_LOG2 k = byteAt p 1 ∧ t.rd R.RING_CFG_CPL_LOG2 k = byteAt p 2
        ∧ 256 * t.rd R.RING_CMD_BASE_BASE k = a ∧ 16 * t.rd R.RING_CPL_BASE_BASE k = b ∧ t.rd R.RING_DATA_PAGES k = byteAt p 3
        ∧ 4096 * t.rd R.RING_DATA_BASE k = d ∧ t.rd R.RING_POS_CMD_HEAD k = 0 ∧ t.rd R.RING_POS_CPL_TAIL k = 0
        ∧ t.bit R.RING_CFG_ERR k = false ∧ Answers s 0 0 a (b + d / 4096 % 256 * 2 ^ 20) t := by
  subst hp
  have hexec := (exec_ringCreate s 0).trans (congrArg State.go ((serve_asks h _).trans
    (doCreate_opens hw hk rfl rfl rfl hen ha hb hd)))
  obtain ⟨-, hk0, hk64, -, hcl, -, hpl, hpages⟩ := hw
  rw [← hk] at hk0 hk64
  obtain ⟨hal, hale⟩ := fitPool_some ha
  obtain ⟨hbl, hble⟩ := fitPool_some hb
  obtain ⟨hdl, hdle⟩ := fitPool_some hd
  have hkept : RingKept 0 s (s.openedRing k (byteAt (s.payload 0) 1) (byteAt (s.payload 0) 2) (byteAt (s.payload 0) 3) a b d) :=
    openedRing_kept (Nat.pos_iff_ne_zero.1 hk0) s
  obtain ⟨hen', hcl', hpl', ha', hb', hpg', hd'⟩ :=
    openedRing_says hk64 hcl hpl hpages hal (by omega) hbl (by omega) hdl (by omega) s
  obtain ⟨hhead, htail, herr⟩ := openedRing_empty (cl := byteAt (s.payload 0) 1) (pl := byteAt (s.payload 0) 2)
    (pages := byteAt (s.payload 0) 3) (a := a) (b := b) (d := d) hk64 s
  obtain ⟨hans, -, hf⟩ := hkept.complete (.of_asks h) (st := 0) (by decide) a (b + d / 4096 % 256 * 2 ^ 20)
  have hla := (LastAsked.of_asks h).kept hkept
  refine .of_go hexec ⟨(hf.bit (by decide) k).trans hen', (hf.rd (by decide) k).trans hcl', (hf.rd (by decide) k).trans hpl', ?_, ?_,
    (hf.rd (by decide) k).trans hpg', ?_, ?_, ?_, (hf.bit (by decide) k).trans herr, hans⟩
  · rw [hf.rd (by decide) k, ha']
  · rw [hf.rd (by decide) k, hb']
  · rw [hf.rd (by decide) k, hd']
  · rw [complete_head_other hla (Nat.pos_iff_ne_zero.1 hk0), hhead]
  · rw [complete_tail_other hla (Nat.pos_iff_ne_zero.1 hk0), htail]

theorem ringCreate_refuses {p : List Byte} {k st : Nat} (h : Asks s 0 0x04 { ring0 := true, feature := some 10 })
    (hp : p = s.payload 0) (hk : k = byteAt p 0)
    (hst : (¬ createWell p ∧ st = 3) ∨ (createWell p ∧ ((s.bit R.RING_CFG_EN k = true ∧ st = 1)
      ∨ (s.bit R.RING_CFG_EN k = false ∧ fitPool s.poolUsed 256 (64 * 2 ^ byteAt p 1) = none ∧ st = 7)))) :
    Completes (.ringCreate 0) s fun t =>
      Answers s 0 st 0 0 t ∧ SameStoreBut (s.cplAt 0) 16 s t ∧ OnlyKinds answerFields s t := by
  subst hp hk
  have hexec := (exec_ringCreate s 0).trans (congrArg State.go (serve_asks h _))
  obtain ⟨hw, rfl⟩ | ⟨hw, ⟨hen, rfl⟩ | ⟨hen, hfit, rfl⟩⟩ := hst
  · exact .of_go (hexec.trans (congrArg State.go (doCreate_malformed hw))) (answered_only (.of_asks h) (by decide) 0 0)
  · exact .of_go (hexec.trans (congrArg State.go (doCreate_busy hw hen))) (answered_only (.of_asks h) (by decide) 0 0)
  · exact .of_go (hexec.trans (congrArg State.go (doCreate_full hw hen hfit))) (answered_only (.of_asks h) (by decide) 0 0)

/-! ## RING_RESET and RING_DESTROY -/

theorem doReset_refused {st : Nat} (hst : (((s.payload r).length ≠ 1 ∨ 64 ≤ byteAt (s.payload r) 0
        ∨ s.bit R.RING_CFG_EN (byteAt (s.payload r) 0) = false) ∧ st = 3)
      ∨ ((s.payload r).length = 1 ∧ 0 < byteAt (s.payload r) 0 ∧ byteAt (s.payload r) 0 < 64
        ∧ s.bit R.RING_CFG_EN (byteAt (s.payload r) 0) = true ∧ bitOf (s.rd H.FW_FEATURES 0) 10 = false ∧ st = 4)) :
    s.doReset r = s.complete r st 0 0 := by
  obtain ⟨h, rfl⟩ | ⟨hlen, h0, h64, hen, hfeat, rfl⟩ := hst
  · exact if_pos h
  · refine (if_neg ?_).trans ((if_neg (Nat.pos_iff_ne_zero.1 h0)).trans (if_pos (by rw [hfeat]; rfl)))
    rw [hen]
    simp only [Bool.true_eq_false, or_false]
    omega

theorem doReset_other (hlen : (s.payload r).length = 1) (h0 : 0 < byteAt (s.payload r) 0) (h64 : byteAt (s.payload r) 0 < 64)
    (hen : s.bit R.RING_CFG_EN (byteAt (s.payload r) 0) = true) (hfeat : bitOf (s.rd H.FW_FEATURES 0) 10 = true) :
    s.doReset r = (s.resetRing (byteAt (s.payload r) 0)).complete r 0 0 0 := by
  refine (if_neg ?_).trans ((if_neg (Nat.pos_iff_ne_zero.1 h0)).trans (if_neg (by rw [hfeat]; decide)))
  rw [hen]
  simp only [Bool.true_eq_false, or_false]
  omega

/-- A ring that has been reset starts afresh. -/
theorem resetRing_empty {k : Nat} (hk : k < 64) (s : State) :
    (s.resetRing k).bit R.RING_CFG_ERR k = false ∧ (s.resetRing k).rd R.RING_DB_CMD_TAIL k = 0
      ∧ (s.resetRing k).rd R.RING_DB_CPL_HEAD k = 0 ∧ (s.resetRing k).rd R.RING_POS_CPL_TAIL k = 0
      ∧ (s.resetRing k).rd R.RING_POS_CMD_HEAD k = 0 := by
  refine ⟨?_, ?_, ?_, ?_, ?_⟩
  · exact beq_eq_false_iff_ne.2 (by
      rw [State.resetRing, rd_clearElems_self (by decide) (by decide +kernel) hk s]; exact Nat.zero_ne_one)
  all_goals exact rd_clearElems_self (by decide) (by decide +kernel) hk s

theorem ringReset_resets {k : Nat} (h : Asks s 0 0x05 { ring0 := true }) (hlen : (s.payload 0).length = 1)
    (hk : k = byteAt (s.payload 0) 0) (h0 : 0 < k) (h64 : k < 64) (hen : s.bit R.RING_CFG_EN k = true)
    (hfeat : bitOf (s.rd H.FW_FEATURES 0) 10 = true) :
    Completes (.ringReset 0) s fun t =>
      t.bit R.RING_CFG_ERR k = false ∧ t.rd R.RING_DB_CMD_TAIL k = 0 ∧ t.rd R.RING_DB_CPL_HEAD k = 0
        ∧ t.rd R.RING_POS_CPL_TAIL k = 0 ∧ t.rd R.RING_POS_CMD_HEAD k = 0 ∧ t.bit R.RING_CFG_EN k = true ∧ Answers s 0 0 0 0 t := by
  subst hk
  have hkept := resetRing_kept (Nat.pos_iff_ne_zero.1 h0) s
  obtain ⟨herr, htail, hhead, hcpl, hcmd⟩ := resetRing_empty h64 s
  obtain ⟨hans, -, hf⟩ := hkept.complete (.of_asks h) (st := 0) (by decide) 0 0
  have hla := (LastAsked.of_asks h).kept hkept
  refine .of_go ((exec_ringReset s 0).trans (congrArg State.go ((serve_asks h _).trans (doReset_other hlen h0 h64 hen hfeat))))
    ⟨(hf.bit (by decide) _).trans herr, (hf.rd (by decide) _).trans htail, (hf.rd (by decide) _).trans hhead, ?_, ?_, ?_, hans⟩
  · rw [complete_tail_other hla (Nat.pos_iff_ne_zero.1 h0), hcpl]
  · rw [complete_head_other hla (Nat.pos_iff_ne_zero.1 h0), hcmd]
  · exact (hf.bit (by decide) _).trans (((resetRing_frame s _).bit (by decide +kernel) _).trans hen)

theorem ringReset_refuses {p : List Byte} {k st : Nat} (h : Asks s 0 0x05 { ring0 := true }) (hp : p = s.payload 0)
    (hk : k = byteAt p 0)
    (hst : ((p.length ≠ 1 ∨ 64 ≤ k ∨ s.bit R.RING_CFG_EN k = false) ∧ st = 3)
      ∨ (p.length = 1 ∧ 0 < k ∧ k < 64 ∧ s.bit R.RING_CFG_EN k = true ∧ bitOf (s.rd H.FW_FEATURES 0) 10 = false ∧ st = 4)) :
    Completes (.ringReset 0) s fun t => Answers s 0 st 0 0 t ∧ OnlyKinds answerFields s t := by
  subst hp hk
  have hlt : st < 256 := by omega
  obtain ⟨hans, -, hk⟩ := answered_only (.of_asks h) hlt 0 0
  exact .of_go ((exec_ringReset s 0).trans (congrArg State.go ((serve_asks h _).trans (doReset_refused hst)))) ⟨hans, hk⟩

/-- Ring 0 answers the command that resets it. -/
theorem ringReset_own (h : Asks s 0 0x05 { ring0 := true }) (hlen : (s.payload 0).length = 1) (h0 : byteAt (s.payload 0) 0 = 0) :
    Completes (.ringReset 0) s fun t =>
      t.rd R.RING_POS_CMD_HEAD 0 = 0 ∧ t.rd R.RING_POS_CPL_TAIL 0 = 0 ∧ t.rd R.RING_DB_CMD_TAIL 0 = 0
        ∧ t.rd R.RING_DB_CPL_HEAD 0 = 0 ∧ t.bit R.RING_CFG_ERR 0 = false ∧ t.ld (s.cplAt 0 + 2) 2 = s.cmdTag 0
        ∧ t.ld (s.cplAt 0 + 4) 1 = 0 ∧ SameStoreBut (s.cplAt 0) 16 s t := by
  have hla := LastAsked.of_asks h
  have hen := (served_iff.1 (served_of_takes h.1)).2.1
  have hdo : s.doReset 0 = (s.complete 0 0 0 0).resetRing 0 := by
    rw [complete_eq hla, ← finishCmd_eq (hla.kept (beginCmd_kept s 0)).may]
    refine (if_neg ?_).trans (if_pos h0)
    rw [h0, hen]
    simp [hlen]
  obtain ⟨⟨-, htag, hst, -⟩, hsame⟩ := complete_answers hla (st := 0) (by decide) 0 0
  obtain ⟨herr, htail, hhead, hcpl, hcmd⟩ := resetRing_empty (k := 0) (by decide) (s.complete 0 0 0 0)
  have hstore := (resetRing_frame (s.complete 0 0 0 0) 0).store
  have hld (a n : Nat) : ((s.complete 0 0 0 0).resetRing 0).ld a n = (s.complete 0 0 0 0).ld a n := by
    unfold State.ld
    rw [hstore]
  exact .of_go ((exec_ringReset s 0).trans (congrArg State.go ((serve_asks h _).trans hdo)))
    ⟨hcmd, hcpl, htail, hhead, herr, (hld _ _).trans htag, (hld _ _).trans hst, hsame.trans (.of_store hstore)⟩

theorem doDestroy_refused (h : (s.payload r).length ≠ 1 ∨ byteAt (s.payload r) 0 = 0 ∨ 64 ≤ byteAt (s.payload r) 0
      ∨ s.bit R.RING_CFG_EN (byteAt (s.payload r) 0) = false) : s.doDestroy r = s.complete r 3 0 0 := if_pos h

theorem doDestroy_closes (hlen : (s.payload r).length = 1) (h0 : 0 < byteAt (s.payload r) 0) (h64 : byteAt (s.payload r) 0 < 64)
    (hen : s.bit R.RING_CFG_EN (byteAt (s.payload r) 0) = true) :
    s.doDestroy r = (s.clearRing (byteAt (s.payload r) 0)).complete r 0 0 0 := by
  refine if_neg ?_
  rw [hen]
  simp only [Bool.true_eq_false, or_false]
  omega

theorem ringDestroy_closes {k : Nat} (h : Asks s 0 0x06 { ring0 := true, feature := some 10 }) (hlen : (s.payload 0).length = 1)
    (hk : k = byteAt (s.payload 0) 0) (h0 : 0 < k) (h64 : k < 64) (hen : s.bit R.RING_CFG_EN k = true) :
    Completes (.ringDestroy 0) s fun t => t.bit R.RING_CFG_EN k = false ∧ Answers s 0 0 0 0 t := by
  subst hk
  have hcleared : (s.clearRing (byteAt (s.payload 0) 0)).bit R.RING_CFG_EN (byteAt (s.payload 0) 0) = false := by
    refine beq_eq_false_iff_ne.2 ?_
    rw [State.clearRing, rd_clearElems_self (by decide) (by decide +kernel) h64 s]
    exact Nat.zero_ne_one
  obtain ⟨hans, -, hf⟩ := (clearRing_kept (Nat.pos_iff_ne_zero.1 h0) s).complete (.of_asks h) (st := 0) (by decide) 0 0
  exact .of_go ((exec_ringDestroy s 0).trans (congrArg State.go ((serve_asks h _).trans (doDestroy_closes hlen h0 h64 hen))))
    ⟨(hf.bit (by decide) _).trans hcleared, hans⟩

theorem ringDestroy_refuses {p : List Byte} {k : Nat} (h : Asks s 0 0x06 { ring0 := true, feature := some 10 })
    (hp : p = s.payload 0) (hk : k = byteAt p 0) (hbad : p.length ≠ 1 ∨ k = 0 ∨ 64 ≤ k ∨ s.bit R.RING_CFG_EN k = false) :
    Completes (.ringDestroy 0) s fun t => Answers s 0 3 0 0 t ∧ OnlyKinds answerFields s t := by
  subst hp hk
  obtain ⟨hans, -, hk⟩ := answered_only (.of_asks h) (st := 3) (by decide) 0 0
  exact .of_go ((exec_ringDestroy s 0).trans (congrArg State.go ((serve_asks h _).trans (doDestroy_refused hbad)))) ⟨hans, hk⟩

end Sys2Proof.Machine
end

section
/-! Doorbells and completions that wait; the host's rings served as a whole (R590–R600). -/

set_option Elab.async false

namespace Sys2Proof.Machine

variable {s t u : State} {r : Nat}

/-! ## Entries that are not taken -/

theorem takes_gen (h : s.takes r = true) : s.cmdGen r = s.rd R.RING_POS_CMD_HEAD r := by
  simp only [State.takes, Bool.and_eq_true, beq_iff_eq] at h
  exact h.1.1.2

theorem exec_unknownOpcode_untaken (h : s.cmdGen r ≠ s.rd R.RING_POS_CMD_HEAD r) :
    exec (.unknownOpcode r) s = (s.ringCheck r).go := by
  refine (exec_unknownOpcode s r).trans (congrArg State.go (if_neg fun hc => h (takes_gen ?_)))
  exact (Bool.and_eq_true _ _ ▸ hc).1

theorem unknownOpcode_answers (ht : s.takes r = true) (hop : knownOps.contains (s.cmdOp r) = false)
    (hone : s.rd R.RING_DB_CMD_TAIL r = (s.rd R.RING_POS_CMD_HEAD r + 1) % 65536) (hin : s.cplAt r + 16 ≤ storeSize) :
    Completes (.unknownOpcode r) s fun t =>
      Answers s r 2 0 0 t ∧ SameStoreBut (s.cplAt r) 16 s t ∧ OnlyKinds answerFields s t := by
  refine .of_go ((exec_unknownOpcode s r).trans (congrArg State.go (if_pos ?_))) (answered_only (.of_takes ht hone hin) (by decide) 0 0)
  rw [ht, hop]
  rfl

/-- An entry of a newer generation breaks the ring. -/
theorem ringCheck_breaks (hs : s.served r = true) (hp : s.posted r = true) (he : s.bit R.RING_CFG_ERR r = false)
    (hn : newer 16 (s.rd R.RING_POS_CMD_HEAD r) (s.cmdGen r) = true) (hne : s.cmdGen r ≠ s.rd R.RING_POS_CMD_HEAD r) :
    s.ringCheck r = (s.wr R.RING_CFG_ERR r 1).postCpl r (s.cmdTag r) 9 (s.cmdOp r) 0 0 := by
  refine (if_pos (by rw [hs, hp, he]; rfl)).trans ((if_neg hne).trans (if_pos hn))

/-- An entry of an older generation waits for the doorbell. -/
theorem ringCheck_waits (hs : s.served r = true) (hp : s.posted r = true) (he : s.bit R.RING_CFG_ERR r = false)
    (hn : newer 16 (s.rd R.RING_POS_CMD_HEAD r) (s.cmdGen r) = false) (hne : s.cmdGen r ≠ s.rd R.RING_POS_CMD_HEAD r) :
    s.ringCheck r = s.wr H.FW_RING_WAIT r 1 := by
  refine (if_pos (by rw [hs, hp, he]; rfl)).trans ((if_neg hne).trans (if_neg (by rw [hn]; decide)))

theorem newer_irrefl (a : Nat) : newer 16 a a = false := by
  have hd : (a + 2 ^ 16 - a % 2 ^ 16) % 2 ^ 16 = 0 := by omega
  simp only [newer, hd]
  rfl

theorem unknownOpcode_breaks (hs : s.served r = true) (hp : s.posted r = true) (he : s.bit R.RING_CFG_ERR r = false)
    (hn : newer 16 (s.rd R.RING_POS_CMD_HEAD r) (s.cmdGen r) = true) (hin : s.cplAt r + 16 ≤ storeSize) :
    Completes (.unknownOpcode r) s fun t =>
      t.bit R.RING_CFG_ERR r = true ∧ t.ld (s.cplAt r + 4) 1 = 9 ∧ t.ld (s.cplAt r + 2) 2 = s.cmdTag r
        ∧ t.rd R.RING_POS_CMD_HEAD r = s.rd R.RING_POS_CMD_HEAD r ∧ SameStoreBut (s.cplAt r) 16 s t := by
  have hne : s.cmdGen r ≠ s.rd R.RING_POS_CMD_HEAD r := fun e => by
    rw [e, newer_irrefl] at hn
    cases hn
  obtain ⟨hr, -⟩ := served_iff.1 hs
  have herr : Frame (.regs [R.RING_CFG_ERR]) s (s.wr R.RING_CFG_ERR r 1) := (Frame.refl s).wr
  have hkept : RingKept r s (s.wr R.RING_CFG_ERR r 1) := .of_frame herr
  have hf := postCpl_frame (s.wr R.RING_CFG_ERR r 1) r (s.cmdTag r) 9 (s.cmdOp r) 0 0
  obtain ⟨-, htag, hst, -⟩ := postCpl_written (s := s.wr R.RING_CFG_ERR r 1) (r := r) (by rw [hkept.cplAt]; exact hin)
    (s.ld_lt _ 2 : s.cmdTag r < 65536) (s.ld_lt _ 1 : s.cmdOp r < 256) (by decide : 9 < 256) 0 0
  have hsame := postCpl_sameStoreBut (s.wr R.RING_CFG_ERR r 1) r (s.cmdTag r) 9 (s.cmdOp r) 0 0
  rw [hkept.cplAt] at htag hst hsame
  refine .of_go ((exec_unknownOpcode_untaken hne).trans (congrArg State.go (ringCheck_breaks hs hp he hn hne)))
    ⟨(hf.bit (by decide) r).trans (State.bit_set s hr rfl), hst, htag, ?_, (SameStoreBut.of_store rfl).trans hsame⟩
  exact (hf.rd (by decide) r).trans (herr.rd (by decide) r)

theorem unknownOpcode_waits (hs : s.served r = true) (hp : s.posted r = true) (he : s.bit R.RING_CFG_ERR r = false)
    (hne : s.cmdGen r ≠ s.rd R.RING_POS_CMD_HEAD r) (hn : newer 16 (s.rd R.RING_POS_CMD_HEAD r) (s.cmdGen r) = false) :
    Completes (.unknownOpcode r) s fun t =>
      t.bit H.FW_RING_WAIT r = true ∧ OnlyFields [(H.FW_RING_WAIT, r)] s t ∧ OnlyRegs s t := by
  obtain ⟨hr, -⟩ := served_iff.1 hs
  exact .of_go ((exec_unknownOpcode_untaken hne).trans (congrArg State.go (ringCheck_waits hs hp he hn hne)))
    ⟨State.bit_set s hr rfl, (OnlyFields.chain_wr List.mem_cons_self s s 1).2 (.refl _ s), rfl⟩

/-! ## Doorbells -/

theorem exec_ringDoorbell {w : WCtx} (h : Writable s w R.RING_DB_CMD_TAIL r) (v : Nat) :
    exec (.ringDoorbell w r v) s = ((s.ringBell w.req r (v / 65536 % 65536) (v % 65536)).answer .ok).go := by
  have hbits : bitsOf v 31 16 = v / 65536 % 65536 := by
    unfold bitsOf
    rw [Nat.shiftRight_eq_div_pow]
    rfl
  rw [← hbits]
  exact congrArg State.go (judgedAt_of_writable h _ _)

/-- The doorbell's values are stored, and the ring's hart is awake (R590, R592, R597). -/
def State.bellStored (s : State) (q : Requester) (r tail head : Nat) : State :=
  ((((s.wr R.RING_DB_CMD_TAIL r tail).wr R.RING_DB_CPL_HEAD r head).wr H.FW_RING_WAIT r 0).when (q == .host) State.heartbeat).wakeHart 2

theorem ringBell_eq (s : State) (q : Requester) (r tail head : Nat) :
    s.ringBell q r tail head = ((s.bellStored q r tail head).postDue r).ringCheck r := rfl

theorem bellStored_frame (s : State) (q : Requester) (r tail head : Nat) :
    Frame (.regs [R.RING_DB_CMD_TAIL, R.RING_DB_CPL_HEAD, H.FW_RING_WAIT, R.HOST_STAT_HB_AGE, R.FW_HART_STAT_STATE]) s
      (s.bellStored q r tail head) := ((Frame.refl s).wr.wr.wr.when fun _ hu => hu.heartbeat).wakeHart

theorem bellStored_says (hr : r < 64) (s : State) (q : Requester) (tail head : Nat) :
    (s.bellStored q r tail head).rd R.RING_DB_CMD_TAIL r = tail % 65536
      ∧ (s.bellStored q r tail head).rd R.RING_DB_CPL_HEAD r = head % 65536
      ∧ (q = .host → (s.bellStored q r tail head).rd R.HOST_STAT_HB_AGE 0 = 0)
      ∧ (s.rd R.FW_HART_STAT_STATE 2 = 1 → (s.bellStored q r tail head).rd R.FW_HART_STAT_STATE 2 = 0) := by
  have hwake (u : State) : Frame (.regs [R.FW_HART_STAT_STATE]) u (u.wakeHart 2) := (Frame.refl u).wakeHart
  have hbeat (u : State) : Frame (.regs [R.HOST_STAT_HB_AGE]) u (u.when (q == .host) State.heartbeat) :=
    (Frame.refl u).when fun _ hu => hu.heartbeat
  have hwait : Frame (.regs [H.FW_RING_WAIT]) ((s.wr R.RING_DB_CMD_TAIL r tail).wr R.RING_DB_CPL_HEAD r head)
      (((s.wr R.RING_DB_CMD_TAIL r tail).wr R.RING_DB_CPL_HEAD r head).wr H.FW_RING_WAIT r 0) := (Frame.refl _).wr
  unfold State.bellStored
  refine ⟨?_, ?_, ?_, ?_⟩
  · rw [(hwake _).rd (by decide), (hbeat _).rd (by decide), hwait.rd (by decide), State.rd_wr_apart _ (by decide)]
    exact State.rd_wr_self _ _ hr _
  · rw [(hwake _).rd (by decide), (hbeat _).rd (by decide), hwait.rd (by decide)]
    exact State.rd_wr_self _ _ hr _
  · rintro rfl
    exact ((hwake _).rd (by decide) 0).trans (State.rd_wr_self _ _ (by decide) 0)
  · intro hsleep
    have hold : ((((s.wr R.RING_DB_CMD_TAIL r tail).wr R.RING_DB_CPL_HEAD r head).wr H.FW_RING_WAIT r 0).when (q == .host)
        State.heartbeat).rd R.FW_HART_STAT_STATE 2 = 1 := by
      rw [(hbeat _).rd (by decide), hwait.rd (by decide), State.rd_wr_apart _ (by decide), State.rd_wr_apart _ (by decide), hsleep]
    rw [wakeHart_of_asleep (by decide) hold]

/-- A hart that is up is up when it has been woken. -/
theorem wakeHart_up {k : Nat} (hk : k < 4) (h : s.hartUp k = true) : (s.wakeHart k).hartUp k = true := by
  unfold State.wakeHart
  split
  · exact decide_eq_true (by rw [State.rd_wr_self _ _ hk]; decide)
  · exact h

theorem ringDoorbell_rings {w : WCtx} (h : Writable s w R.RING_DB_CMD_TAIL r) (v : Nat) :
    Completes (.ringDoorbell w r v) s fun t =>
      t.rd R.RING_DB_CMD_TAIL r = v / 65536 % 65536 ∧ t.rd R.RING_DB_CPL_HEAD r = v % 65536 ∧ t.resp = .ok
        ∧ (w.req = .host → t.rd R.HOST_STAT_HB_AGE 0 = 0)
        ∧ (s.rd R.FW_HART_STAT_STATE 2 = 1 → t.rd R.FW_HART_STAT_STATE 2 = 0) := by
  obtain ⟨htail, hhead, hbeat, hwake⟩ := bellStored_says h.2.1 s w.req (v / 65536 % 65536) (v % 65536)
  have hf : Frame (Frame.postDueReach.and Frame.ringCheckReach) (s.bellStored w.req r (v / 65536 % 65536) (v % 65536))
      (s.ringBell w.req r (v / 65536 % 65536) (v % 65536)) := (Frame.refl _).postDue.ringCheck
  refine .of_go (exec_ringDoorbell h v) ⟨?_, ?_, rfl, fun hq => ?_, fun hs => ?_⟩
  · exact (hf.rd (by decide +kernel) r).trans (htail.trans (Nat.mod_mod _ _))
  · exact (hf.rd (by decide +kernel) r).trans (hhead.trans (Nat.mod_mod _ _))
  · exact (hf.rd (by decide +kernel) 0).trans (hbeat hq)
  · exact (hf.rd (by decide +kernel) 2).trans (hwake hs)

/-- A completion that has waited for a place is written once the host returns one. -/
theorem ringDoorbell_posts {w : WCtx} {v : Nat} (hr : r < 64) (h : Writable s w R.RING_DB_CMD_TAIL r) (hdue : s.bit H.FW_CPL_DUE r = true)
    (hg : s.bit R.STATUS_SAFE_GOV 0 = false) (h2 : s.hartUp 2 = true)
    (hroom : (s.rd R.RING_POS_CPL_TAIL r + 65536 - v % 65536) % 65536 < 2 ^ s.rd R.RING_CFG_CPL_LOG2 r)
    (hone : v / 65536 % 65536 = (s.rd R.RING_POS_CMD_HEAD r + 1) % 65536) (hin : s.cplAt r + 16 ≤ storeSize) :
    Completes (.ringDoorbell w r v) s fun t =>
      Posts s r (s.rd H.FW_RING_TAG r) (s.rd H.FW_RING_OP r) (s.rd H.FW_CPL_STATUS r) (s.rd H.FW_CPL_R0 r) (s.rd H.FW_CPL_R1 r) t
        ∧ t.bit H.FW_CPL_DUE r = false ∧ t.rd H.FW_RING_OP r = 0 ∧ SameStoreBut (s.cplAt r) 16 s t := by
  have hbell := exec_ringDoorbell h v
  rw [ringBell_eq] at hbell
  obtain ⟨htail, hhead, -, hwake⟩ := bellStored_says hr s w.req (v / 65536 % 65536) (v % 65536)
  have hb := bellStored_frame s w.req r (v / 65536 % 65536) (v % 65536)
  have hup : (s.bellStored w.req r (v / 65536 % 65536) (v % 65536)).hartUp 2 = true := by
    refine wakeHart_up (by decide) (decide_eq_true ?_)
    have hrest : Frame (.regs [R.RING_DB_CMD_TAIL, R.RING_DB_CPL_HEAD, H.FW_RING_WAIT, R.HOST_STAT_HB_AGE]) s
      ((((s.wr R.RING_DB_CMD_TAIL r (v / 65536 % 65536)).wr R.RING_DB_CPL_HEAD r (v % 65536)).wr H.FW_RING_WAIT r 0).when
        (w.req == .host) State.heartbeat) := (Frame.refl s).wr.wr.wr.when fun _ hu => hu.heartbeat
    rw [hrest.rd (by decide)]
    exact of_decide_eq_true h2
  generalize s.bellStored w.req r (v / 65536 % 65536) (v % 65536) = u at *
  have hat : u.cplAt r = s.cplAt r := by
    unfold State.cplAt
    rw [hb.rd (by decide), hb.rd (by decide), hb.rd (by decide)]
  have hmay : u.mayPost r = true := by
    have hgov : u.bit R.STATUS_SAFE_GOV 0 = false := (hb.bit (by decide) 0).trans hg
    have hheld : u.cplHeld r = (s.rd R.RING_POS_CPL_TAIL r + 65536 - v % 65536) % 65536 := by
      unfold State.cplHeld
      rw [hb.rd (by decide), hhead, Nat.mod_mod]
    have hfull : u.cplFull r = false := by
      unfold State.cplFull
      rw [hheld, hb.rd (by decide)]
      exact decide_eq_false (Nat.not_le.2 hroom)
    simp only [State.mayPost, State.ringHart, hfull, hgov, hup]
    rfl
  have hclear : Frame (.regs [H.FW_CPL_DUE]) u (u.wr H.FW_CPL_DUE r 0) := (Frame.refl u).wr
  have hkept : RingKept r u (u.wr H.FW_CPL_DUE r 0) := .of_frame hclear
  have hla : LastAsked r (u.wr H.FW_CPL_DUE r 0) := LastAsked.kept ⟨hr, hmay, by
    rw [htail, hb.rd (by decide), Nat.mod_mod, hone], by rw [hat]; exact hin⟩ hkept
  have hdue' : u.bit H.FW_CPL_DUE r = true := (hb.bit (by decide) r).trans hdue
  have hpost : (u.postDue r).ringCheck r
      = (u.wr H.FW_CPL_DUE r 0).answerCmd r (u.rd H.FW_CPL_STATUS r) (u.rd H.FW_CPL_R0 r) (u.rd H.FW_CPL_R1 r) := by
    have hd : u.postDue r = (u.wr H.FW_CPL_DUE r 0).answerCmd r (u.rd H.FW_CPL_STATUS r) (u.rd H.FW_CPL_R0 r) (u.rd H.FW_CPL_R1 r) :=
      if_pos (by rw [hdue', hmay]; rfl)
    rw [hd, answer_ringCheck hla]
  obtain ⟨hposts, hsame⟩ := answerCmd_posts hr hla.inside (u.rd_lt H.FW_CPL_STATUS r) (u.rd H.FW_CPL_R0 r) (u.rd H.FW_CPL_R1 r)
  rw [hpost] at hbell
  rw [hkept.cplAt, hat] at hsame
  refine .of_go hbell ⟨?_, ?_, State.rd_wr_self _ _ hr 0, (SameStoreBut.of_store hb.store).trans hsame⟩
  · have hrd {g : Fld} (hg : ([R.RING_DB_CMD_TAIL, R.RING_DB_CPL_HEAD, H.FW_RING_WAIT, R.HOST_STAT_HB_AGE,
        R.FW_HART_STAT_STATE].all fun f => f.apart g) = true) : u.rd g r = s.rd g r := hb.rd hg r
    rw [← hrd (g := H.FW_RING_TAG) (by decide), ← hrd (g := H.FW_RING_OP) (by decide), ← hrd (g := H.FW_CPL_STATUS) (by decide),
      ← hrd (g := H.FW_CPL_R0) (by decide), ← hrd (g := H.FW_CPL_R1) (by decide)]
    rw [Posts, ← hat, ← hrd (g := R.RING_POS_CPL_TAIL) (by decide), ← hrd (g := R.RING_POS_CMD_HEAD) (by decide)]
    rw [Posts, hkept.cplAt, hclear.rd (by decide), hclear.rd (by decide), hclear.rd (by decide), hclear.rd (by decide)] at hposts
    exact hposts
  · exact ((answerCmd_frame _ r _ _ _).bit (by decide) r).trans (State.bit_unset u hr)

theorem hb_beats {c : Nat} (h : Writable s ⟨.host, c⟩ R.HOST_HB_HB 0) :
    Completes (.hb ⟨.host, c⟩) s fun t =>
      t.rd R.HOST_STAT_HB_AGE 0 = 0 ∧ t.resp = .ok ∧ OnlyKinds [R.HOST_STAT_HB_AGE] s t ∧ OnlyRegsOut s t := by
  have hall : Frame (.regsOut [R.HOST_STAT_HB_AGE]) s (s.heartbeat.answer .ok) := (Frame.refl s).heartbeat.answer
  refine .of_go (t := s.heartbeat.answer .ok) (congrArg State.go (State.judged_of_writable h _ _))
    ⟨State.rd_wr_self s _ (by decide) 0, rfl, hall.kinds, hall.onlyRegsOut⟩

/-! ## The host's commands -/

/-- The commands by which the host attaches and manages rings (R600). -/
def manageCmds (r : Nat) : List (Instr × Nat × CmdRule) :=
  [(.attach r, 0x01, { ring0 := true, free := true }), (.detach r, 0x02, { ring0 := true, free := true }),
    (.getStatus r, 0x03, { governor := true, free := true }), (.ringCreate r, 0x04, { ring0 := true, feature := some 10 }),
    (.ringReset r, 0x05, { ring0 := true }), (.ringDestroy r, 0x06, { ring0 := true, feature := some 10 })]

/-- Each of a list of commands is served in its own way, by the rule of its row. -/
def ServedBy (l : List (Instr × Nat × CmdRule)) (s : State) (r : Nat) : Prop :=
  ∀ x ∈ l, ∃ act : State → State, exec x.1 s = (s.serve r x.2.1 x.2.2 act).go

theorem manageCmds_served (s : State) (r : Nat) : ServedBy (manageCmds r) s r := by
  intro x hx
  simp only [manageCmds, List.mem_cons, List.not_mem_nil, or_false] at hx
  obtain rfl | rfl | rfl | rfl | rfl | rfl := hx
  · exact ⟨_, exec_attach s r⟩
  · exact ⟨_, exec_detach s r⟩
  · exact ⟨_, exec_getStatus s r⟩
  · exact ⟨_, exec_ringCreate s r⟩
  · exact ⟨_, exec_ringReset s r⟩
  · exact ⟨_, exec_ringDestroy s r⟩

/-- A command that R600 turns away is answered and does nothing else. -/
theorem ServedBy.away {l : List (Instr × Nat × CmdRule)} (hl : ServedBy l s r) {x : Instr × Nat × CmdRule} (hx : x ∈ l) {st : Nat}
    (ht : s.takes r = true) (hop : s.cmdOp r = x.2.1) (haway : s.turnAway r x.2.2 = some st)
    (hone : s.rd R.RING_DB_CMD_TAIL r = (s.rd R.RING_POS_CMD_HEAD r + 1) % 65536) (hin : s.cplAt r + 16 ≤ storeSize) :
    Completes x.1 s fun t => Answers s r st 0 0 t ∧ SameStoreBut (s.cplAt r) 16 s t ∧ OnlyKinds answerFields s t := by
  obtain ⟨act, hexec⟩ := hl x hx
  exact .of_go (hexec.trans (congrArg State.go (serve_away ht hop haway act)))
    (answered_only (.of_takes ht hone hin) (turnAway_lt haway) 0 0)

/-- A command that is not taken, on a ring that is not served, does nothing. -/
theorem ServedBy.idle {l : List (Instr × Nat × CmdRule)} (hl : ServedBy l s r) {x : Instr × Nat × CmdRule} (hx : x ∈ l)
    (hs : s.served r = false ∨ s.posted r = false ∨ s.bit R.RING_CFG_ERR r = true) (ht : s.takes r = false ∨ s.cmdOp r ≠ x.2.1) :
    exec x.1 s = .next s := by
  obtain ⟨act, hexec⟩ := hl x hx
  rw [hexec, serve_idle hs ht]
  rfl

/-- Settles O44: a command is served by its rule, acts on the registers of its ring or of the host, and is answered in the place of
the ring's next completion. -/
theorem hostAttachesAndManagesRings : Obligations.HostAttachesAndManagesRings := by
  unfold Obligations.HostAttachesAndManagesRings
  refine ⟨?_, fun s h => detach_answers h, fun s r h hg => getStatus_answers h hg, ?_,
    fun s k h hlen hk h0 h64 hen hfeat => ringReset_resets h hlen hk h0 h64 hen hfeat,
    fun s k h hlen hk h0 h64 hen => ringDestroy_closes h hlen hk h0 h64 hen,
    fun s r ht hop hone hin => unknownOpcode_answers ht hop hone hin,
    fun s w r v hw => ringDoorbell_rings hw v, fun s c hw => hb_beats hw, fun s ha hage => heartbeatLapse_unattends ha hage,
    fun s r st x hx ht hop haway hone hin => (manageCmds_served s r).away hx ht hop haway hone hin,
    fun s r x hx hs ht => (manageCmds_served s r).idle hx hs ht, ?_, ?_,
    fun s h hg hbuf hcpl hcmd => getStatus_boot h hg hbuf hcpl hcmd, ?_,
    fun s p k st h hp hk hst => ringReset_refuses h hp hk hst, fun s h hlen h0 => ringReset_own h hlen h0,
    fun s p k h hp hk hbad => ringDestroy_refuses h hp hk hbad,
    fun s r hs hp he hn hin => unknownOpcode_breaks hs hp he hn hin,
    fun s r hs hp he hne hn => unknownOpcode_waits hs hp he hne hn, fun s h => heartbeatLapse_idle h,
    fun s w r v hr hw hdue hg h2 hroom hone hin => ringDoorbell_posts hr hw hdue hg h2 hroom hone hin⟩
  · intro s p h hp hlen hz hring hz' hz'' hv
    exact attach_attaches h hp ⟨hlen, hz, hring, hz', hz''⟩ hv
  · intro s p k a b d h hp hlen hk h0 h64 hcl hcl' hpl hpl' hpages hen ha hb hd
    subst hk
    exact ringCreate_opens h hp rfl ⟨hlen, h0, h64, hcl, hcl', hpl, hpl', hpages⟩ hen ha hb hd
  · intro s p h hp hbad
    subst hp
    obtain ⟨hans, -, hk⟩ := answered_only (.of_asks h) (st := 3) (by decide) 0 0
    refine .of_go ((exec_attach s 0).trans (congrArg State.go ((serve_asks h _).trans (doAttach_malformed ?_)))) ⟨hans, hk⟩
    unfold attachWell
    omega
  · intro s p h hp hlen hz hring hz' hz'' hv
    subst hp
    obtain ⟨hans, -, hk⟩ := answered_only (.of_asks h) (st := 10) (by decide)
      (s.rd H.FW_IF_VER 0 * 65536 + s.rd R.FW_VERSION_VERSION 0 % 65536) 0
    exact .of_go ((exec_attach s 0).trans (congrArg State.go ((serve_asks h _).trans
      (doAttach_version ⟨hlen, hz, hring, hz', hz''⟩ hv)))) ⟨hans, hk⟩
  · intro s p k st h hp hk hst
    refine ringCreate_refuses h hp hk (hst.imp ?_ ?_)
    · rintro ⟨hbad, rfl⟩
      subst hk
      exact ⟨by unfold createWell; omega, rfl⟩
    · rintro ⟨hlen, h0, h64, hcl, hcl', hpl, hpl', hpages, hrest⟩
      subst hk
      exact ⟨⟨hlen, h0, h64, hcl, hcl', hpl, hpl', hpages⟩, hrest⟩

end Sys2Proof.Machine
end

section
/-! Rings carry maps and images (R504, R518, R534, R542, R600–R602). -/

set_option Elab.async false

namespace Sys2Proof.Machine

variable {s t u : State} {r : Nat}

theorem exec_mapData (s : State) (r : Nat) :
    exec (.mapData r) s = (s.serve r 0x11 { governor := true, feature := some 3 } (fun t => t.doMapData r)).go := rfl

theorem exec_flashMap (s : State) (r : Nat) :
    exec (.flashMap r) s = (s.serve r 0x12 { governor := true, feature := some 4 } (fun t =>
      if t.bit R.WARDEN_OPEN 0 then t.openFlash r 1 else t.complete r 4 0 0)).go := rfl

theorem exec_flashImage (s : State) (r : Nat) :
    exec (.flashImage r) s = (s.serve r 0x13 { governor := true, feature := some 4 } (fun t =>
      if !t.bit R.WARDEN_OPEN 0 then t.complete r 4 0 0
      else if t.role == 0 || t.bit R.STATUS_SAFE_GOV 0 then t.openFlash r 2
      else t.complete r 5 0 0)).go := rfl

theorem exec_flashData (s : State) (r : Nat) :
    exec (.flashData r) s = (s.serve r 0x14 { governor := true, feature := some 4 } (fun t => t.doFlashData r)).go := rfl

theorem exec_loadImage (s : State) (r : Nat) :
    exec (.loadImage r) s = (s.serve r 0x15 { governor := true, free := true } (fun t =>
      if t.bit R.STATUS_SAFE_GOV 0 then t.openFlash r 3 else t.complete r 2 0 0)).go := rfl

theorem exec_loadMap (h : s.hartUp 0 = true) (r : Nat) :
    exec (.loadMap r) s = (s.serve r 0x10 { governor := true, feature := some 3 } (fun t => t.doLoadMap r)).go :=
  congrArg State.go (if_pos h)

/-- The commands by which a ring carries maps and images, but LOAD_MAP (R600). -/
def carryCmds (r : Nat) : List (Instr × Nat × CmdRule) :=
  [(.mapData r, 0x11, { governor := true, feature := some 3 }), (.flashMap r, 0x12, { governor := true, feature := some 4 }),
    (.flashImage r, 0x13, { governor := true, feature := some 4 }), (.flashData r, 0x14, { governor := true, feature := some 4 }),
    (.loadImage r, 0x15, { governor := true, free := true })]

theorem carryCmds_served (s : State) (r : Nat) : ServedBy (carryCmds r) s r := by
  intro x hx
  simp only [carryCmds, List.mem_cons, List.not_mem_nil, or_false] at hx
  obtain rfl | rfl | rfl | rfl | rfl := hx
  · exact ⟨_, exec_mapData s r⟩
  · exact ⟨_, exec_flashMap s r⟩
  · exact ⟨_, exec_flashImage s r⟩
  · exact ⟨_, exec_flashData s r⟩
  · exact ⟨_, exec_loadImage s r⟩

/-! ## LOAD_MAP -/

/-- ZK_RUN names the ring (R601). -/
def State.ringSource (s : State) (r : Nat) : State := (s.wr R.RUN_SRC 0 1).wr R.RUN_RING 0 r

theorem ringSource_frame (s : State) (r : Nat) : Frame (.regs [R.RUN_SRC, R.RUN_RING]) s (s.ringSource r) := (Frame.refl s).wr.wr

theorem ringSource_says (hr : r < 64) (s : State) : (s.ringSource r).bit R.RUN_SRC 0 = true ∧ (s.ringSource r).rd R.RUN_RING 0 = r := by
  refine ⟨?_, ?_⟩
  · exact (State.bit_wr_apart _ (by decide) 0 0 r).trans (State.bit_set s (by decide) rfl)
  · exact (State.rd_wr_self _ _ (by decide) r).trans (Nat.mod_eq_of_lt hr)

theorem notGoverned (hg : s.bit R.STATUS_SAFE_GOV 0 = false) :
    ¬ (s.bit R.STATUS_SAFE_GOV 0 ∧ s.bit R.FW_IMAGE_VERIFIED 0 = false) := by
  rw [hg]
  simp

theorem doLoadMap_checking (hg : s.bit R.STATUS_SAFE_GOV 0 = false) (hst : s.rd R.RUN_STATE 0 = 1) :
    s.doLoadMap r = s.complete r 1 0 0 := (if_neg (notGoverned hg)).trans (if_pos hst)

theorem running_iff : s.running = true ↔ s.rd R.RUN_STATE 0 = 2 := beq_iff_eq

theorem doLoadMap_running (hg : s.bit R.STATUS_SAFE_GOV 0 = false) (hst : s.rd R.RUN_STATE 0 = 2) :
    s.doLoadMap r = (if s.runEn = false then s.complete r 5 0 0
      else if s.rd R.RUN_LIVE 0 ≠ 0 ∨ s.bit R.PROFILE_PENDING 0 = true then
        ((s.ringSource r).recordRefusal ⟨refBusy, 0xFFFFFE, none⟩).complete r 1 0 0
      else if ((s.ringSource r).askReload ⟨.hart 0, 0⟩).rd R.RUN_LIVE 0 = 0 then
        ((s.ringSource r).askReload ⟨.hart 0, 0⟩).complete r 6 (((s.ringSource r).askReload ⟨.hart 0, 0⟩).rawWord 0x10000C) 0
      else ((s.ringSource r).askReload ⟨.hart 0, 0⟩).complete r 0 0 0) :=
  (if_neg (notGoverned hg)).trans ((if_neg (by omega)).trans (if_pos (running_iff.2 hst)))

theorem doLoadMap_stopped (hg : s.bit R.STATUS_SAFE_GOV 0 = false) (hst : s.rd R.RUN_STATE 0 = 0)
    (hpass : (s.ringSource r).enable.rd R.RUN_STATE 0 ≠ 3) : s.doLoadMap r = (s.ringSource r).enable.complete r 0 0 0 :=
  (if_neg (notGoverned hg)).trans ((if_neg (by omega)).trans ((if_neg (fun h => by rw [running_iff.1 h] at hst; cases hst)).trans
    (if_neg hpass)))

theorem loadMap_starts (h : Asks s r 0x10 { governor := true, feature := some 3 }) (h0 : s.hartUp 0 = true)
    (hg : s.bit R.STATUS_SAFE_GOV 0 = false) (hst : s.rd R.RUN_STATE 0 = 0) (ha : s.stageA = none) :
    Completes (.loadMap r) s fun t =>
      t.rd R.RUN_STATE 0 = 1 ∧ t.runEn = true ∧ t.bit H.TOP_LOAD_SRC 0 = true ∧ t.rd H.TOP_LOAD_RING 0 = r
        ∧ t.map.stream = [] ∧ t.map.shadow = none ∧ t.rd R.REFUSE_CODE 0 = 0 ∧ Answers s r 0 0 0 t
        ∧ SameStoreBut (s.cplAt r) 16 s t := by
  have hla := LastAsked.of_asks h
  have hsrc := ringSource_frame s r
  obtain ⟨hbit, hring⟩ := ringSource_says hla.ring s
  have hch := checking_frame (s.ringSource r)
  obtain ⟨hstate, hen, -⟩ := checking_says (s.ringSource r)
  have ha' : (s.ringSource r).checking.stageA = none :=
    (stageA_congr (hch.ident.trans hsrc.ident) ((hch.rd (by decide +kernel) 0).trans (hsrc.rd (by decide) 0))
      fun k => (hch.rd (by decide +kernel) k).trans (hsrc.rd (by decide) k)).trans ha
  have henable : (s.ringSource r).enable = (s.ringSource r).checking.loaderSet :=
    (enable_stopped (.inl ((hsrc.rd (by decide) 0).trans hst))).trans (startLoader_passed ha')
  have hl := loaderSet_frame (s.ringSource r).checking
  obtain ⟨hlsrc, hlring, hcode, hstream, hshadow, -, -⟩ := loaderSet_says (s.ringSource r).checking
  have hstate' : (s.ringSource r).enable.rd R.RUN_STATE 0 = 1 := by rw [henable, hl.rd (by decide), hstate]
  have hexec := (exec_loadMap h0 r).trans (congrArg State.go ((serve_asks h _).trans
    (doLoadMap_stopped hg hst (by rw [hstate']; decide))))
  rw [henable] at hexec hstate'
  have hall : Frame ⟨[.map], [R.RUN_SRC, R.RUN_RING, R.RUN_EN, R.RUN_STATE, R.FRAME_STAT_DEFER_CNT, R.LE_SLOT_MODE_PRESETS,
      R.CROOK_FOLD_TOTAL_TOTAL, R.REFUSE_CODE, R.REFUSE_WHERE, H.TOP_LOAD_SRC, H.TOP_LOAD_RING] ++ bwFoldCounters⟩ s
      (s.ringSource r).checking.loaderSet :=
    ((hsrc.mono (by decide +kernel)).andThen hch).andThen hl
  have hkept : RingKept r s (s.ringSource r).checking.loaderSet := .of_frame hall
  rw [hch.bit (by decide +kernel), hbit] at hlsrc
  rw [hch.rd (by decide +kernel), hring] at hlring
  have hen' : (s.ringSource r).checking.loaderSet.runEn = true := (hl.bit (by decide) 0).trans hen
  generalize (s.ringSource r).checking.loaderSet = u at *
  obtain ⟨hans, hsame, hf⟩ := hkept.complete hla (st := 0) (by decide) 0 0
  refine .of_go hexec ⟨(hf.rd (by decide) 0).trans hstate', (hf.bit (by decide) 0).trans hen', (hf.bit (by decide) 0).trans hlsrc,
    (hf.rd (by decide) 0).trans hlring, ?_, ?_, (hf.rd (by decide) 0).trans hcode, hans, (SameStoreBut.of_store hall.store).trans hsame⟩
  · rw [hf.map, hstream]
  · rw [hf.map, hshadow]

theorem loadMap_refused {st : Nat} (h : Asks s r 0x10 { governor := true, feature := some 3 }) (h0 : s.hartUp 0 = true)
    (hg : s.bit R.STATUS_SAFE_GOV 0 = false)
    (hst : (s.rd R.RUN_STATE 0 = 1 ∧ st = 1) ∨ (s.rd R.RUN_STATE 0 = 2 ∧ s.runEn = false ∧ st = 5)) :
    Completes (.loadMap r) s fun t =>
      Answers s r st 0 0 t ∧ t.rd R.RUN_STATE 0 = s.rd R.RUN_STATE 0 ∧ t.map = s.map ∧ SameStoreBut (s.cplAt r) 16 s t := by
  have hdo : s.doLoadMap r = s.complete r st 0 0 := by
    obtain ⟨h1, rfl⟩ | ⟨h2, hen, rfl⟩ := hst
    · exact doLoadMap_checking hg h1
    · exact (doLoadMap_running hg h2).trans (if_pos hen)
  have hla := LastAsked.of_asks h
  obtain ⟨hans, hsame⟩ := complete_answers hla (by omega : st < 256) 0 0
  have hf := complete_frame hla st 0 0
  exact .of_go ((exec_loadMap h0 r).trans (congrArg State.go ((serve_asks h _).trans hdo))) ⟨hans, hf.rd (by decide) 0, hf.map, hsame⟩

theorem loadMap_busy (h : Asks s r 0x10 { governor := true, feature := some 3 }) (h0 : s.hartUp 0 = true)
    (hg : s.bit R.STATUS_SAFE_GOV 0 = false) (hst : s.rd R.RUN_STATE 0 = 2) (hen : s.runEn = true) (hb : s.reloadBusy = true) :
    Completes (.loadMap r) s fun t =>
      Answers s r 1 0 0 t ∧ t.rd R.REFUSE_CODE 0 = refBusy ∧ t.rd R.RUN_LIVE 0 = s.rd R.RUN_LIVE 0 ∧ t.map = s.map := by
  have hbusy : s.rd R.RUN_LIVE 0 ≠ 0 ∨ s.bit R.PROFILE_PENDING 0 = true := by
    simpa only [State.reloadBusy, Bool.or_eq_true, bne_iff_ne] using hb
  have hexec := (exec_loadMap h0 r).trans (congrArg State.go ((serve_asks h _).trans
    ((doLoadMap_running hg hst).trans ((if_neg (by rw [hen]; decide)).trans (if_pos hbusy)))))
  have hsrc := ringSource_frame s r
  have hrec := recordRefusal_frame (s.ringSource r) ⟨refBusy, 0xFFFFFE, none⟩
  have hcode := (recordRefusal_says (s.ringSource r) ⟨refBusy, 0xFFFFFE, none⟩).1
  have hall : Frame (Frame.recordRefusalReach.and (.regs [R.RUN_SRC, R.RUN_RING])) s
      ((s.ringSource r).recordRefusal ⟨refBusy, 0xFFFFFE, none⟩) :=
    (hsrc.mono (by decide +kernel)).andThen hrec
  have hkept : RingKept r s ((s.ringSource r).recordRefusal ⟨refBusy, 0xFFFFFE, none⟩) := .of_frame hall
  obtain ⟨hans, -, hf⟩ := hkept.complete (.of_asks h) (st := 1) (by decide) 0 0
  exact .of_go hexec ⟨hans, (hf.rd (by decide) 0).trans hcode, (hf.rd (by decide) 0).trans (hall.rd (by decide +kernel) 0), hf.map.trans hall.map⟩

theorem loadMap_reloads (h : Asks s r 0x10 { governor := true, feature := some 3 }) (h0 : s.hartUp 0 = true)
    (hg : s.bit R.STATUS_SAFE_GOV 0 = false) (hst : s.rd R.RUN_STATE 0 = 2) (hen : s.runEn = true) (hb : s.reloadBusy = false)
    (ha : s.stageA = none) :
    Completes (.loadMap r) s fun t =>
      Answers s r 0 0 0 t ∧ t.rd R.RUN_LIVE 0 = 1 ∧ t.rd R.RUN_STATE 0 = 2 ∧ t.bit H.TOP_LOAD_SRC 0 = true
        ∧ t.rd H.TOP_LOAD_RING 0 = r ∧ t.map.live = s.map.live := by
  have hla := LastAsked.of_asks h
  have hsrc := ringSource_frame s r
  obtain ⟨hbit, hring⟩ := ringSource_says hla.ring s
  have hacc := reloadAccepted_frame (s.ringSource r) ⟨.hart 0, 0⟩
  have hlive := reloadAccepted_live (s.ringSource r) ⟨.hart 0, 0⟩
  have ha' : ((s.ringSource r).reloadAccepted ⟨.hart 0, 0⟩).stageA = none :=
    (stageA_congr (hacc.ident.trans hsrc.ident) ((hacc.rd (by decide) 0).trans (hsrc.rd (by decide) 0))
      fun k => (hacc.rd (by decide) k).trans (hsrc.rd (by decide) k)).trans ha
  have hb' : (s.ringSource r).reloadBusy = false :=
    (reloadBusy_congr (hsrc.rd (by decide) 0) (hsrc.bit (by decide) 0)).trans hb
  have hask : (s.ringSource r).askReload ⟨.hart 0, 0⟩ = ((s.ringSource r).reloadAccepted ⟨.hart 0, 0⟩).loaderSet :=
    (askReload_free hb').trans (startLoader_passed ha')
  have hl := loaderSet_frame ((s.ringSource r).reloadAccepted ⟨.hart 0, 0⟩)
  obtain ⟨hlsrc, hlring, -, -, -, hmap, -⟩ := loaderSet_says ((s.ringSource r).reloadAccepted ⟨.hart 0, 0⟩)
  have hlive' : ((s.ringSource r).askReload ⟨.hart 0, 0⟩).rd R.RUN_LIVE 0 = 1 := by rw [hask, hl.rd (by decide), hlive]
  have hfree : ¬ (s.rd R.RUN_LIVE 0 ≠ 0 ∨ s.bit R.PROFILE_PENDING 0 = true) := by
    simpa only [State.reloadBusy, Bool.or_eq_false_iff, bne_eq_false_iff_eq, not_or, Classical.not_not, Bool.not_eq_true] using hb
  have hexec := (exec_loadMap h0 r).trans (congrArg State.go ((serve_asks h _).trans ((doLoadMap_running hg hst).trans
    ((if_neg (by rw [hen]; decide)).trans ((if_neg hfree).trans (if_neg (by rw [hlive']; decide)))))))
  rw [hask] at hexec hlive'
  have hall : Frame ⟨[.map, .out, .resp], [R.RUN_SRC, R.RUN_RING, H.TOP_COMMIT_AT, H.TOP_PEER_PASS, H.TOP_OWN_AGE,
      H.TOP_REL_REFUSED, R.RUN_LIVE, H.TOP_RUN_HOLD, R.REFUSE_CODE, R.REFUSE_WHERE, H.TOP_LOAD_SRC, H.TOP_LOAD_RING]⟩ s
      ((s.ringSource r).reloadAccepted ⟨.hart 0, 0⟩).loaderSet :=
    ((hsrc.mono (by decide)).andThen hacc).andThen hl
  have hkept : RingKept r s ((s.ringSource r).reloadAccepted ⟨.hart 0, 0⟩).loaderSet := .of_frame hall
  rw [hacc.bit (by decide), hbit] at hlsrc
  rw [hacc.rd (by decide), hring] at hlring
  rw [hacc.map, hsrc.map] at hmap
  generalize ((s.ringSource r).reloadAccepted ⟨.hart 0, 0⟩).loaderSet = u at *
  obtain ⟨hans, -, hf⟩ := hkept.complete hla (st := 0) (by decide) 0 0
  refine .of_go hexec ⟨hans, (hf.rd (by decide) 0).trans hlive', ?_, (hf.bit (by decide) 0).trans hlsrc,
    (hf.rd (by decide) 0).trans hlring, ?_⟩
  · exact (hf.rd (by decide) 0).trans ((hall.rd (by decide) 0).trans hst)
  · rw [hf.map, hmap]

/-! ## MAP_DATA -/

theorem takeMapBytes_frame (s : State) (b : List Byte) (l : Bool) : Frame ⟨[.map], []⟩ s (s.takeMapBytes b l) :=
  (Frame.refl s).takeMapBytes

theorem doMapData_more (hd : s.cmdData r = true) (hl : s.ringLoading r = true) (hlast : s.cmdLast r = false) :
    s.doMapData r = (s.takeMapBytes (s.payload r) false).complete r 0 0 0 := by
  refine (if_neg (by rw [hd]; decide)).trans ((if_pos hl).trans ((if_neg (by rw [hlast]; decide)).trans ?_))
  rw [hlast]

theorem doMapData_last (hd : s.cmdData r = true) (hl : s.ringLoading r = true) (hlast : s.cmdLast r = true) :
    s.doMapData r = (s.takeMapBytes (s.payload r) true).beginCmd r := by
  refine (if_neg (by rw [hd]; decide)).trans ((if_pos hl).trans ((if_pos hlast).trans ?_))
  rw [hlast]

theorem mapData_more (h : Asks s r 0x11 { governor := true, feature := some 3 }) (hd : s.cmdData r = true)
    (hl : s.ringLoading r = true) (hlast : s.cmdLast r = false) :
    Completes (.mapData r) s fun t =>
      t.map.stream = s.map.stream ++ s.payload r ∧ t.map.last = false ∧ Answers s r 0 0 0 t
        ∧ SameStoreBut (s.cplAt r) 16 s t ∧ OnlyKinds answerFields s t := by
  have ht := takeMapBytes_frame s (s.payload r) false
  have hkept : RingKept r s (s.takeMapBytes (s.payload r) false) := .of_frame ht
  obtain ⟨hans, hsame, hf⟩ := hkept.complete (.of_asks h) (st := 0) (by decide) 0 0
  refine .of_go ((exec_mapData s r).trans (congrArg State.go ((serve_asks h _).trans (doMapData_more hd hl hlast))))
    ⟨by rw [hf.map]; rfl, by rw [hf.map]; rfl, hans, (SameStoreBut.of_store ht.store).trans hsame, ?_⟩
  exact (OnlyKinds.of_regs _ rfl).trans hf.kinds

theorem mapData_last (h : Asks s r 0x11 { governor := true, feature := some 3 }) (hd : s.cmdData r = true)
    (hl : s.ringLoading r = true) (hlast : s.cmdLast r = true) :
    Completes (.mapData r) s fun t =>
      t.map.stream = s.map.stream ++ s.payload r ∧ t.map.last = true ∧ t.rd H.FW_RING_OP r = 0x11
        ∧ t.rd R.RING_POS_CMD_HEAD r = s.rd R.RING_POS_CMD_HEAD r ∧ SameStore s t
        ∧ OnlyKinds [H.FW_RING_TAG, H.FW_RING_OP] s t := by
  have hall : Frame ⟨[.map], [H.FW_RING_TAG, H.FW_RING_OP]⟩ s ((s.takeMapBytes (s.payload r) true).beginCmd r) :=
    ((takeMapBytes_frame s (s.payload r) true).mono (by decide)).andThen (beginCmd_frame _ r)
  have hop : (s.takeMapBytes (s.payload r) true).cmdOp r = 0x11 := h.2.1
  exact .of_go ((exec_mapData s r).trans (congrArg State.go ((serve_asks h _).trans (doMapData_last hd hl hlast))))
    ⟨rfl, rfl, (beginCmd_op (LastAsked.of_asks h).ring _).trans hop, hall.rd (by decide) r, hall.sameStore, hall.kinds⟩

/-- A command that leaves the map's bytes and is answered. -/
theorem answered_map {c : Instr} {op st r0 r1 : Nat} {rule : CmdRule} (h : Asks s r op rule) (hst : st < 256)
    (hexec : exec c s = (s.complete r st r0 r1).go) :
    Completes c s fun t => t.map = s.map ∧ Answers s r st r0 r1 t ∧ OnlyKinds answerFields s t := by
  obtain ⟨hans, -, hk⟩ := answered_only (.of_asks h) hst r0 r1
  exact .of_go hexec ⟨(complete_frame (.of_asks h) st r0 r1).map, hans, hk⟩

theorem mapData_refused {st r0 r1 : Nat} (h : Asks s r 0x11 { governor := true, feature := some 3 })
    (hst : (s.cmdData r = false ∧ st = 3 ∧ r0 = 0 ∧ r1 = 0)
      ∨ (s.cmdData r = true ∧ s.ringLoading r = false ∧ s.bit H.TOP_LOAD_SRC 0 = true ∧ s.rd H.TOP_LOAD_RING 0 = r
        ∧ s.rd R.REFUSE_CODE 0 ≠ 0 ∧ st = 6 ∧ r0 = s.rawWord 0x10000C ∧ r1 = s.rd R.RUN_COMMIT 0)
      ∨ (s.cmdData r = true ∧ s.ringLoading r = false ∧ s.rd R.REFUSE_CODE 0 = 0 ∧ st = 5 ∧ r0 = 0 ∧ r1 = 0)) :
    Completes (.mapData r) s fun t => t.map = s.map ∧ Answers s r st r0 r1 t ∧ OnlyKinds answerFields s t := by
  have hdo : s.doMapData r = s.complete r st r0 r1 := by
    obtain ⟨hd, rfl, rfl, rfl⟩ | ⟨hd, hl, hsrc, hring, hcode, rfl, rfl, rfl⟩ | ⟨hd, hl, hcode, rfl, rfl, rfl⟩ := hst
    · exact if_pos hd
    · exact (if_neg (by rw [hd]; decide)).trans ((if_neg (by rw [hl]; decide)).trans (if_pos ⟨hsrc, hring, hcode⟩))
    · exact (if_neg (by rw [hd]; decide)).trans ((if_neg (by rw [hl]; decide)).trans (if_neg fun hc => hc.2.2 hcode))
  exact answered_map h (by omega) ((exec_mapData s r).trans (congrArg State.go ((serve_asks h _).trans hdo)))

/-! ## The opening of a flash stream -/

/-- A stream of `op` opened from ring `r`, with its region erased (R602). -/
def State.flashOpened (s : State) (r op : Nat) (m : MapState) : State :=
  { (s.wr H.FW_FLASH_OP 0 op).wr H.FW_FLASH_RING 0 r with map := m }

theorem flashOpened_frame (s : State) (r op : Nat) (m : MapState) :
    Frame ⟨[.map], [H.FW_FLASH_OP, H.FW_FLASH_RING]⟩ s (s.flashOpened r op m) :=
  Frame.setMap (Frame.wr (Frame.wr (Frame.refl s)))

theorem flashFree (h : s.rd H.FW_FLASH_OP 0 = 0) : ¬ (s.rd H.FW_FLASH_OP 0 ≠ 0 ∧ s.rd H.FW_FLASH_RING 0 ≠ r) := fun hc => hc.1 h

theorem openFlash_map (h : s.rd H.FW_FLASH_OP 0 = 0) :
    s.openFlash r 1 = (s.flashOpened r 1 { s.map with flash := [] }).complete r 0 0 0 := if_neg (flashFree h)

theorem openFlash_image (h : s.rd H.FW_FLASH_OP 0 = 0) :
    s.openFlash r 2 = (s.flashOpened r 2 { s.map with image := [] }).complete r 0 0 0 := if_neg (flashFree h)

theorem openFlash_upload (h : s.rd H.FW_FLASH_OP 0 = 0) :
    s.openFlash r 3 = (s.flashOpened r 3 { s.map with upload := [] }).complete r 0 0 0 := if_neg (flashFree h)

/-- A stream that is opened is answered. -/
theorem flashOpened_answers {c : Instr} {op k : Nat} {rule : CmdRule} {m : MapState} (h : Asks s r op rule) (hk : k < 4)
    (hexec : exec c s = ((s.flashOpened r k m).complete r 0 0 0).go) :
    Completes c s fun t => t.rd H.FW_FLASH_OP 0 = k ∧ t.rd H.FW_FLASH_RING 0 = r ∧ t.map = m ∧ Answers s r 0 0 0 t := by
  have hla := LastAsked.of_asks h
  have hkept : RingKept r s (s.flashOpened r k m) := .of_frame (flashOpened_frame s r k m)
  obtain ⟨hans, -, hf⟩ := hkept.complete hla (st := 0) (by decide) 0 0
  refine .of_go hexec ⟨(hf.rd (by decide) 0).trans ?_, (hf.rd (by decide) 0).trans ?_, hf.map, hans⟩
  · refine (State.rd_wr_apart (s.wr H.FW_FLASH_OP 0 k) (f := H.FW_FLASH_RING) (g := H.FW_FLASH_OP) (by decide) 0 0 r).trans ?_
    rw [State.rd_wr_self _ _ (by decide)]
    exact Nat.mod_eq_of_lt hk
  · exact (State.rd_wr_self (s.wr H.FW_FLASH_OP 0 k) H.FW_FLASH_RING (by decide) r).trans (Nat.mod_eq_of_lt hla.ring)

theorem flashMap_opens (h : Asks s r 0x12 { governor := true, feature := some 4 }) (hw : s.bit R.WARDEN_OPEN 0 = true)
    (hop : s.rd H.FW_FLASH_OP 0 = 0) :
    Completes (.flashMap r) s fun t =>
      t.rd H.FW_FLASH_OP 0 = 1 ∧ t.rd H.FW_FLASH_RING 0 = r ∧ t.map = { s.map with flash := [] } ∧ Answers s r 0 0 0 t :=
  flashOpened_answers h (by decide) ((exec_flashMap s r).trans (congrArg State.go ((serve_asks h _).trans
    ((if_pos hw).trans (openFlash_map hop)))))

theorem flashMap_closed (h : Asks s r 0x12 { governor := true, feature := some 4 }) (hw : s.bit R.WARDEN_OPEN 0 = false) :
    Completes (.flashMap r) s fun t => t.map = s.map ∧ Answers s r 4 0 0 t ∧ OnlyKinds answerFields s t :=
  answered_map h (by decide) ((exec_flashMap s r).trans (congrArg State.go ((serve_asks h _).trans (if_neg (by rw [hw]; decide)))))

theorem flashMap_busy (h : Asks s r 0x12 { governor := true, feature := some 4 }) (hw : s.bit R.WARDEN_OPEN 0 = true)
    (hop : s.rd H.FW_FLASH_OP 0 ≠ 0) (hring : s.rd H.FW_FLASH_RING 0 ≠ r) :
    Completes (.flashMap r) s fun t => t.map = s.map ∧ Answers s r 1 0 0 t ∧ OnlyKinds answerFields s t :=
  answered_map h (by decide) ((exec_flashMap s r).trans (congrArg State.go ((serve_asks h _).trans
    ((if_pos hw).trans (if_pos ⟨hop, hring⟩)))))

theorem flashImage_opens (h : Asks s r 0x13 { governor := true, feature := some 4 }) (hw : s.bit R.WARDEN_OPEN 0 = true)
    (hrole : s.role = 0) (hop : s.rd H.FW_FLASH_OP 0 = 0) :
    Completes (.flashImage r) s fun t =>
      t.rd H.FW_FLASH_OP 0 = 2 ∧ t.rd H.FW_FLASH_RING 0 = r ∧ t.map = { s.map with image := [] } ∧ Answers s r 0 0 0 t :=
  flashOpened_answers h (by decide) ((exec_flashImage s r).trans (congrArg State.go ((serve_asks h _).trans
    ((if_neg (by rw [hw]; decide)).trans ((if_pos (by rw [hrole]; rfl)).trans (openFlash_image hop))))))

theorem flashImage_refused {st : Nat} (h : Asks s r 0x13 { governor := true, feature := some 4 })
    (hst : (s.bit R.WARDEN_OPEN 0 = false ∧ st = 4)
      ∨ (s.bit R.WARDEN_OPEN 0 = true ∧ s.role ≠ 0 ∧ s.bit R.STATUS_SAFE_GOV 0 = false ∧ st = 5)) :
    Completes (.flashImage r) s fun t => t.map = s.map ∧ Answers s r st 0 0 t ∧ OnlyKinds answerFields s t := by
  have hserve := (exec_flashImage s r).trans (congrArg State.go (serve_asks h _))
  obtain ⟨hw, rfl⟩ | ⟨hw, hrole, hg, rfl⟩ := hst
  · exact answered_map h (by decide) (hserve.trans (congrArg State.go (if_pos (by rw [hw]; rfl))))
  · refine answered_map h (by decide) (hserve.trans (congrArg State.go ((if_neg (by rw [hw]; decide)).trans (if_neg ?_))))
    rw [hg, Bool.or_false, beq_false_of_ne hrole]
    decide

theorem loadImage_opens (h : Asks s r 0x15 { governor := true, free := true }) (hg : s.bit R.STATUS_SAFE_GOV 0 = true)
    (hop : s.rd H.FW_FLASH_OP 0 = 0) :
    Completes (.loadImage r) s fun t => t.rd H.FW_FLASH_OP 0 = 3 ∧ t.map = { s.map with upload := [] } ∧ Answers s r 0 0 0 t := by
  obtain ⟨t, hexec, hk, -, hmap, hans⟩ := flashOpened_answers h (k := 3) (by decide) ((exec_loadImage s r).trans
    (congrArg State.go ((serve_asks h _).trans ((if_pos hg).trans (openFlash_upload hop)))))
  exact ⟨t, hexec, hk, hmap, hans⟩

theorem loadImage_refused (h : Asks s r 0x15 { governor := true, free := true }) (hg : s.bit R.STATUS_SAFE_GOV 0 = false) :
    Completes (.loadImage r) s fun t => t.map = s.map ∧ Answers s r 2 0 0 t ∧ OnlyKinds answerFields s t :=
  answered_map h (by decide) ((exec_loadImage s r).trans (congrArg State.go ((serve_asks h _).trans (if_neg (by rw [hg]; decide)))))

/-! ## Its data -/

/-- FLASH_DATA that finds its stream open, its window open and room (R602). -/
theorem doFlashData_stored (hd : s.cmdData r = true) (hop : s.rd H.FW_FLASH_OP 0 ≠ 0) (hring : s.rd H.FW_FLASH_RING 0 = r)
    (hw : s.rd H.FW_FLASH_OP 0 = 3 ∨ s.bit R.WARDEN_OPEN 0 = true) (hroom : s.flashRoom.1 + s.cmdLen r ≤ s.flashRoom.2) :
    s.doFlashData r = if s.cmdLast r then (s.putFlash (s.payload r)).beginCmd r else (s.putFlash (s.payload r)).complete r 0 0 0 := by
  refine (if_neg (by rw [hd]; decide)).trans ((if_neg ?_).trans ((if_neg ?_).trans (if_neg (Nat.not_lt.2 hroom))))
  · exact not_or.2 ⟨hop, not_not.2 hring⟩
  · rintro ⟨h3, hclosed⟩
    obtain h | h := hw
    · exact h3 h
    · rw [hclosed] at h
      cases h

theorem flashRoom_map (h : s.rd H.FW_FLASH_OP 0 = 1) : s.flashRoom = (s.map.flash.length, 0x200000) := by
  simp only [State.flashRoom, h]

theorem flashRoom_image (h : s.rd H.FW_FLASH_OP 0 = 2) : s.flashRoom = (s.map.image.length, 0x2000000) := by
  simp only [State.flashRoom, h]

theorem flashRoom_upload (h : s.rd H.FW_FLASH_OP 0 = 3) : s.flashRoom = (s.map.upload.length, 0x2000000) := by
  simp only [State.flashRoom, h]

theorem putFlash_map (h : s.rd H.FW_FLASH_OP 0 = 1) (b : List Byte) :
    s.putFlash b = ({ s with map := { s.map with flash := s.map.flash ++ b } } : State).send
      (.flashOp 2 (0x2000000 + s.map.flash.length) b) := by simp only [State.putFlash, h]

theorem putFlash_image (h : s.rd H.FW_FLASH_OP 0 = 2) (b : List Byte) :
    s.putFlash b = ({ s with map := { s.map with image := s.map.image ++ b } } : State).send
      (.flashOp 2 s.map.image.length b) := by simp only [State.putFlash, h]

theorem putFlash_upload (h : s.rd H.FW_FLASH_OP 0 = 3) (b : List Byte) :
    s.putFlash b = { s with map := { s.map with upload := s.map.upload ++ b } } := by simp only [State.putFlash, h]

theorem putFlash_frame (s : State) (b : List Byte) : Frame ⟨[.map, .out], []⟩ s (s.putFlash b) := (Frame.refl s).putFlash

theorem complete_out (s : State) (r st r0 r1 : Nat) : s.out <:+ (s.complete r st r0 r1).out :=
  (Tame.refl false s).complete.out

theorem flashData_map (h : Asks s r 0x14 { governor := true, feature := some 4 }) (hd : s.cmdData r = true)
    (hop : s.rd H.FW_FLASH_OP 0 = 1) (hring : s.rd H.FW_FLASH_RING 0 = r) (hw : s.bit R.WARDEN_OPEN 0 = true)
    (hroom : s.map.flash.length + s.cmdLen r ≤ 0x200000) (hlast : s.cmdLast r = false) :
    Completes (.flashData r) s fun t =>
      t.map = { s.map with flash := s.map.flash ++ s.payload r } ∧ Answers s r 0 0 0 t
        ∧ .flashOp 2 (0x2000000 + s.map.flash.length) (s.payload r) ∈ t.out ∧ t.rd H.FW_FLASH_OP 0 = 1 := by
  have hdo := (doFlashData_stored hd (by omega) hring (.inr hw) (by rw [flashRoom_map hop]; exact hroom)).trans
    (if_neg (by rw [hlast]; decide))
  have hput := putFlash_map hop (s.payload r)
  have hpf := putFlash_frame s (s.payload r)
  have hkept : RingKept r s (s.putFlash (s.payload r)) := .of_frame hpf
  obtain ⟨hans, -, hf⟩ := hkept.complete (.of_asks h) (st := 0) (by decide) 0 0
  refine .of_go ((exec_flashData s r).trans (congrArg State.go ((serve_asks h _).trans hdo))) ⟨?_, hans, ?_, ?_⟩
  · rw [hf.map, hput]
    rfl
  · refine (complete_out _ r 0 0 0).subset ?_
    rw [hput]
    exact List.mem_cons_self
  · exact (hf.rd (by decide) 0).trans ((hpf.rd (by decide) 0).trans hop)

theorem flashData_last (h : Asks s r 0x14 { governor := true, feature := some 4 }) (hd : s.cmdData r = true)
    (hop : s.rd H.FW_FLASH_OP 0 = 2) (hring : s.rd H.FW_FLASH_RING 0 = r) (hw : s.bit R.WARDEN_OPEN 0 = true)
    (hroom : s.map.image.length + s.cmdLen r ≤ 0x2000000) (hlast : s.cmdLast r = true) :
    Completes (.flashData r) s fun t =>
      t.map = { s.map with image := s.map.image ++ s.payload r } ∧ t.rd H.FW_RING_OP r = 0x14
        ∧ t.rd R.RING_POS_CMD_HEAD r = s.rd R.RING_POS_CMD_HEAD r ∧ SameStore s t ∧ OnlyKinds [H.FW_RING_TAG, H.FW_RING_OP] s t := by
  have hdo := (doFlashData_stored hd (by omega) hring (.inr hw) (by rw [flashRoom_image hop]; exact hroom)).trans (if_pos hlast)
  have hput := putFlash_image hop (s.payload r)
  have hpf := putFlash_frame s (s.payload r)
  have hall : Frame ⟨[.map, .out], [H.FW_RING_TAG, H.FW_RING_OP]⟩ s ((s.putFlash (s.payload r)).beginCmd r) :=
    (hpf.mono (by decide)).andThen (beginCmd_frame _ r)
  have hkept : RingKept r s (s.putFlash (s.payload r)) := .of_frame hpf
  refine .of_go ((exec_flashData s r).trans (congrArg State.go ((serve_asks h _).trans hdo)))
    ⟨?_, (beginCmd_op (LastAsked.of_asks h).ring _).trans (hkept.op.trans h.2.1), hall.rd (by decide) r, hall.sameStore, hall.kinds⟩
  rw [(beginCmd_frame _ r).map, hput]
  rfl

theorem flashData_upload (h : Asks s r 0x14 { governor := true, feature := some 4 }) (hd : s.cmdData r = true)
    (hop : s.rd H.FW_FLASH_OP 0 = 3) (hring : s.rd H.FW_FLASH_RING 0 = r)
    (hroom : s.map.upload.length + s.cmdLen r ≤ 0x2000000) (hlast : s.cmdLast r = false) :
    Completes (.flashData r) s fun t =>
      t.map = { s.map with upload := s.map.upload ++ s.payload r } ∧ Answers s r 0 0 0 t ∧ t.rd H.FW_FLASH_OP 0 = 3 := by
  have hdo := (doFlashData_stored hd (by omega) hring (.inl hop) (by rw [flashRoom_upload hop]; exact hroom)).trans
    (if_neg (by rw [hlast]; decide))
  have hput := putFlash_upload hop (s.payload r)
  have hpf := putFlash_frame s (s.payload r)
  have hkept : RingKept r s (s.putFlash (s.payload r)) := .of_frame hpf
  obtain ⟨hans, -, hf⟩ := hkept.complete (.of_asks h) (st := 0) (by decide) 0 0
  refine .of_go ((exec_flashData s r).trans (congrArg State.go ((serve_asks h _).trans hdo))) ⟨?_, hans, ?_⟩
  · rw [hf.map, hput]
  · exact (hf.rd (by decide) 0).trans ((hpf.rd (by decide) 0).trans hop)

theorem flashData_refused {st : Nat} (h : Asks s r 0x14 { governor := true, feature := some 4 })
    (hst : (s.cmdData r = false ∧ st = 3)
      ∨ (s.cmdData r = true ∧ (s.rd H.FW_FLASH_OP 0 = 0 ∨ s.rd H.FW_FLASH_RING 0 ≠ r) ∧ st = 5)) :
    Completes (.flashData r) s fun t => t.map = s.map ∧ Answers s r st 0 0 t ∧ OnlyKinds answerFields s t := by
  have hserve := (exec_flashData s r).trans (congrArg State.go (serve_asks h _))
  obtain ⟨hd, rfl⟩ | ⟨hd, hno, rfl⟩ := hst
  · exact answered_map h (by decide) (hserve.trans (congrArg State.go (if_pos hd)))
  · exact answered_map h (by decide) (hserve.trans (congrArg State.go ((if_neg (by rw [hd]; decide)).trans (if_pos hno))))

theorem flashData_ends {st : Nat} (h : Asks s r 0x14 { governor := true, feature := some 4 }) (hd : s.cmdData r = true)
    (hop : s.rd H.FW_FLASH_OP 0 = 1) (hring : s.rd H.FW_FLASH_RING 0 = r)
    (hst : (s.bit R.WARDEN_OPEN 0 = false ∧ st = 4)
      ∨ (s.bit R.WARDEN_OPEN 0 = true ∧ 0x200000 < s.map.flash.length + s.cmdLen r ∧ st = 3)) :
    Completes (.flashData r) s fun t => t.map = s.map ∧ Answers s r st 0 0 t ∧ t.rd H.FW_FLASH_OP 0 = 0 := by
  have hdo : s.doFlashData r = (s.wr H.FW_FLASH_OP 0 0).complete r st 0 0 := by
    refine (if_neg (by rw [hd]; decide)).trans ((if_neg (not_or.2 ⟨by omega, not_not.2 hring⟩)).trans ?_)
    obtain ⟨hw, rfl⟩ | ⟨hw, hfull, rfl⟩ := hst
    · exact if_pos ⟨by omega, hw⟩
    · exact (if_neg (by rw [hw]; simp)).trans (if_pos (by rw [flashRoom_map hop]; exact hfull))
  have hend : Frame (.regs [H.FW_FLASH_OP]) s (s.wr H.FW_FLASH_OP 0 0) := (Frame.refl s).wr
  have hkept : RingKept r s (s.wr H.FW_FLASH_OP 0 0) := .of_frame hend
  obtain ⟨hans, -, hf⟩ := hkept.complete (.of_asks h) (by omega : st < 256) 0 0
  exact .of_go ((exec_flashData s r).trans (congrArg State.go ((serve_asks h _).trans hdo)))
    ⟨hf.map, hans, (hf.rd (by decide) 0).trans (State.rd_wr_self s _ (by decide) 0)⟩

/-! ## Its end -/

/-- The stream's end, once it is this ring's and has a check (R602). -/
theorem exec_flashWriteDone {v op : Nat} {psc : PscAnswer} (hr : r < 64) (hcmd : s.rd H.FW_RING_OP r = 0x14)
    (hring : s.rd H.FW_FLASH_RING 0 = r) (hop : s.rd H.FW_FLASH_OP 0 = op) (h12 : op = 1 ∨ op = 2)
    (hv : v = s.flashResult true psc) (hdue : s.bit H.FW_CPL_DUE r = false) :
    exec (.flashWriteDone r true psc) s
      = (((s.wr H.FW_FLASH_OP 0 0).finishCmd r (if v = 0 then 0 else 6) v 0).ringCheck r).go := by
  subst hv hop
  have hc : (decide (r < 64) && s.ringUnderWay r 0x14 && s.rd H.FW_FLASH_RING 0 == r
      && (s.rd H.FW_FLASH_OP 0 == 1 || s.rd H.FW_FLASH_OP 0 == 2)) = true := by
    simp only [State.ringUnderWay, hcmd, hdue, hring, decide_eq_true hr, beq_self_eq_true, Bool.not_false, Bool.and_true,
      Bool.true_and, Bool.or_eq_true, beq_iff_eq]
    exact h12
  have hfree : (if s.rd H.FW_FLASH_OP 0 = 1 ∧ true = false then s.freeStep else s) = s := if_neg (by simp)
  refine congrArg State.go ((if_pos hc).trans ?_)
  dsimp only
  rw [hfree]
  simp only [and_true]

theorem flashWriteDone_posts {v op : Nat} {psc : PscAnswer} (hr : r < 64) (hcmd : s.rd H.FW_RING_OP r = 0x14)
    (hring : s.rd H.FW_FLASH_RING 0 = r) (hop : s.rd H.FW_FLASH_OP 0 = op) (h12 : op = 1 ∨ op = 2)
    (hv : v = s.flashResult true psc) (hdue : s.bit H.FW_CPL_DUE r = false) (hmay : s.mayPost r = true)
    (hone : s.rd R.RING_DB_CMD_TAIL r = (s.rd R.RING_POS_CMD_HEAD r + 1) % 65536) (hin : s.cplAt r + 16 ≤ storeSize) :
    Completes (.flashWriteDone r true psc) s fun t =>
      t.rd H.FW_FLASH_OP 0 = 0 ∧ Posts s r (s.rd H.FW_RING_TAG r) 0x14 (if v = 0 then 0 else 6) v 0 t
        ∧ SameStoreBut (s.cplAt r) 16 s t := by
  have hexec := exec_flashWriteDone hr hcmd hring hop h12 hv hdue
  have hend : Frame (.regs [H.FW_FLASH_OP]) s (s.wr H.FW_FLASH_OP 0 0) := (Frame.refl s).wr
  have hkept : RingKept r s (s.wr H.FW_FLASH_OP 0 0) := .of_frame hend
  have hla : LastAsked r (s.wr H.FW_FLASH_OP 0 0) := LastAsked.kept ⟨hr, hmay, hone, hin⟩ hkept
  have hst : (if v = 0 then 0 else 6) < 256 := by split <;> decide
  obtain ⟨hposts, hsame⟩ := answerCmd_posts hr hla.inside hst v 0
  rw [finish_ringCheck hla] at hexec
  rw [hkept.cplAt] at hsame
  rw [Posts, hkept.cplAt, hend.rd (by decide), hend.rd (by decide), hend.rd (by decide), hend.rd (by decide), hcmd] at hposts
  refine .of_go hexec ⟨?_, hposts, (SameStoreBut.of_store rfl).trans hsame⟩
  exact ((answerCmd_frame _ r _ v 0).rd (by decide) 0).trans (State.rd_wr_self s _ (by decide) 0)

/-- A completion that waits (R595). -/
def State.cplWaits (s : State) (r st r0 r1 : Nat) : State :=
  (((s.wr H.FW_CPL_DUE r 1).wr H.FW_CPL_STATUS r st).wr H.FW_CPL_R0 r r0).wr H.FW_CPL_R1 r r1

theorem cplWaits_frame (s : State) (r st r0 r1 : Nat) :
    Frame (.regs [H.FW_CPL_DUE, H.FW_CPL_STATUS, H.FW_CPL_R0, H.FW_CPL_R1]) s (s.cplWaits r st r0 r1) :=
  (Frame.refl s).wr.wr.wr.wr

theorem ringCheck_unserved (h : s.mayPost r = false) : s.ringCheck r = s := by
  refine if_neg ?_
  rw [State.served, h]
  simp

theorem finish_waits (h : s.mayPost r = false) (st r0 r1 : Nat) :
    (s.finishCmd r st r0 r1).ringCheck r = s.cplWaits r st r0 r1 := by
  have hfin : s.finishCmd r st r0 r1 = s.cplWaits r st r0 r1 := if_neg (by rw [h]; decide)
  have hkept : RingKept r s (s.cplWaits r st r0 r1) := .of_frame (cplWaits_frame s r st r0 r1)
  rw [hfin, ringCheck_unserved (hkept.mayPost.trans h)]

theorem cplWaits_says (hr : r < 64) {st : Nat} (hst : st < 256) (s : State) (r0 r1 : Nat) :
    (s.cplWaits r st r0 r1).bit H.FW_CPL_DUE r = true ∧ (s.cplWaits r st r0 r1).rd H.FW_CPL_STATUS r = st
      ∧ (s.cplWaits r st r0 r1).rd H.FW_CPL_R0 r = r0 % 2 ^ 32 ∧ (s.cplWaits r st r0 r1).rd H.FW_CPL_R1 r = r1 % 2 ^ 32 := by
  unfold State.cplWaits
  refine ⟨?_, ?_, ?_, State.rd_wr_self _ _ hr r1⟩
  · rw [State.bit_wr_apart _ (by decide), State.bit_wr_apart _ (by decide), State.bit_wr_apart _ (by decide)]
    exact State.bit_set _ hr rfl
  · rw [State.rd_wr_apart _ (by decide), State.rd_wr_apart _ (by decide), State.rd_wr_self _ _ hr]
    exact Nat.mod_eq_of_lt hst
  · rw [State.rd_wr_apart _ (by decide)]
    exact State.rd_wr_self _ _ hr r0

theorem flashWriteDone_waits {v : Nat} {psc : PscAnswer} (hr : r < 64) (hcmd : s.rd H.FW_RING_OP r = 0x14)
    (hring : s.rd H.FW_FLASH_RING 0 = r) (hop : s.rd H.FW_FLASH_OP 0 = 2)
    (hv : v = s.flashResult true psc) (hdue : s.bit H.FW_CPL_DUE r = false) (hmay : s.mayPost r = false) :
    Completes (.flashWriteDone r true psc) s fun t =>
      t.rd H.FW_FLASH_OP 0 = 0 ∧ t.bit H.FW_CPL_DUE r = true ∧ t.rd H.FW_CPL_STATUS r = (if v = 0 then 0 else 6)
        ∧ t.rd H.FW_CPL_R0 r = v % 2 ^ 32 ∧ t.rd H.FW_CPL_R1 r = 0
        ∧ t.rd R.RING_POS_CPL_TAIL r = s.rd R.RING_POS_CPL_TAIL r ∧ t.rd R.RING_POS_CMD_HEAD r = s.rd R.RING_POS_CMD_HEAD r
        ∧ SameStore s t := by
  have hexec := exec_flashWriteDone hr hcmd hring hop (.inr rfl) hv hdue
  have hend : Frame (.regs [H.FW_FLASH_OP]) s (s.wr H.FW_FLASH_OP 0 0) := (Frame.refl s).wr
  have hkept : RingKept r s (s.wr H.FW_FLASH_OP 0 0) := .of_frame hend
  have hst : (if v = 0 then 0 else 6) < 256 := by split <;> decide
  obtain ⟨hdue', hstatus, hr0, hr1⟩ := cplWaits_says hr hst (s.wr H.FW_FLASH_OP 0 0) v 0
  have hf := cplWaits_frame (s.wr H.FW_FLASH_OP 0 0) r (if v = 0 then 0 else 6) v 0
  rw [finish_waits (hkept.mayPost.trans hmay)] at hexec
  exact .of_go hexec ⟨(hf.rd (by decide) 0).trans (State.rd_wr_self s _ (by decide) 0), hdue', hstatus, hr0, hr1,
    (hf.rd (by decide) r).trans (hend.rd (by decide) r), (hf.rd (by decide) r).trans (hend.rd (by decide) r),
    .of_store (hf.store.trans hend.store)⟩

theorem flashWriteDone_idle {a : Bool} {psc : PscAnswer} (h : 64 ≤ r ∨ s.rd H.FW_RING_OP r ≠ 0x14 ∨ s.rd H.FW_FLASH_RING 0 ≠ r
      ∨ s.rd H.FW_FLASH_OP 0 = 0 ∨ s.rd H.FW_FLASH_OP 0 = 3 ∨ s.bit H.FW_CPL_DUE r = true) :
    exec (.flashWriteDone r a psc) s = .next s := by
  refine congrArg State.go (if_neg ?_)
  simp only [State.ringUnderWay, Bool.and_eq_true, Bool.or_eq_true, decide_eq_true_eq, beq_iff_eq, Bool.not_eq_true']
  rintro ⟨⟨⟨hr, hop, hdue⟩, hring⟩, h12⟩
  obtain h | h | h | h | h | h := h
  · omega
  · exact h hop
  · exact h hring
  · omega
  · omega
  · rw [hdue] at h
    cases h

theorem flashResult_image (hop : s.rd H.FW_FLASH_OP 0 = 2) (psc : PscAnswer) :
    s.flashResult true psc = imageReason s.zk4 true psc s.flashImage := if_neg (by omega)

/-- Settles O45: a ring's bytes go to the map's stream or the flash region that its commands have opened, and each command is answered. -/
theorem ringsCarryMapsAndImages : Obligations.RingsCarryMapsAndImages := by
  unfold Obligations.RingsCarryMapsAndImages
  refine ⟨fun s r h h0 hg hst ha => loadMap_starts h h0 hg hst ha, fun s r h hd hl hlast => mapData_more h hd hl hlast,
    fun s r h hd hl hlast => mapData_last h hd hl hlast, fun s r h hw hop => flashMap_opens h hw hop,
    fun s r h hw => flashMap_closed h hw, fun s r h hw hrole hop => flashImage_opens h hw hrole hop,
    fun s r h hg hop => loadImage_opens h hg hop,
    fun s r h hd hop hring hw hroom hlast => flashData_map h hd hop hring hw hroom hlast, ?_,
    fun s r st x hx ht hop haway hone hin => (carryCmds_served s r).away hx ht hop haway hone hin,
    fun s r x hx hs ht => (carryCmds_served s r).idle hx hs ht, ?_, ?_,
    fun s r st h h0 hg hst => loadMap_refused h h0 hg hst, fun s r h h0 hg hst hen hb => loadMap_busy h h0 hg hst hen hb,
    fun s r h h0 hg hst hen hb ha => loadMap_reloads h h0 hg hst hen hb ha, fun s r st r0 r1 h hst => mapData_refused h hst,
    fun s r h hw hop hring => flashMap_busy h hw hop hring, fun s r st h hst => flashImage_refused h hst,
    fun s r h hg => loadImage_refused h hg,
    fun s r h hd hop hring hw hroom hlast => flashData_last h hd hop hring hw hroom hlast,
    fun s r h hd hop hring hroom hlast => flashData_upload h hd hop hring hroom hlast,
    fun s r st h hst => flashData_refused h hst, fun s r st h hd hop hring hst => flashData_ends h hd hop hring hst,
    fun s r a psc h => flashWriteDone_idle h, ?_, ?_⟩
  · intro s r v psc hr hcmd hring hop hv hdue hmay hone hin
    exact flashWriteDone_posts hr hcmd hring hop (.inr rfl) (hv.trans (flashResult_image hop psc).symm) hdue hmay hone hin
  · intro s r st ht hop h0 haway hone hin
    exact .of_go ((exec_loadMap h0 r).trans (congrArg State.go (serve_away ht hop haway _)))
      (answered_only (.of_takes ht hone hin) (turnAway_lt haway) 0 0)
  · intro s r h0
    exact congrArg State.go (if_neg (by rw [h0]; decide))
  · intro s r v psc hr hcmd hring hop hv hdue hmay hone hin
    exact flashWriteDone_posts hr hcmd hring hop (.inl rfl) hv hdue hmay hone hin
  · intro s r v psc hr hcmd hring hop hv hdue hmay
    exact flashWriteDone_waits hr hcmd hring hop (hv.trans (flashResult_image hop psc).symm) hdue hmay

end Sys2Proof.Machine
end

section
/-! The grant table: the words of a round in the Store (R355–R360, R372, R392). -/

set_option Elab.async false

namespace Sys2Proof.Machine

variable {s t u : State}

/-! ## Words stored one after another -/

section
variable {α : Type} {addr val : α → Nat}

/-- What a run of stores leaves: every byte outside its words. -/
theorem memGet_foldl_st (l : List α) (s : State) {a : Nat} (h : ∀ x ∈ l, a < addr x ∨ addr x + 4 ≤ a) :
    memGet (l.foldl (fun t x => t.st (addr x) 4 (val x)) s).store a = memGet s.store a :=
  List.foldlRecOn l _ (motive := fun u : State => memGet u.store a = memGet s.store a) rfl fun u hu x hx =>
    (u.sameStoreBut_st (addr x) 4 (val x) a (h x hx)).trans hu

/-- Words stored at places apart read back. -/
theorem ld_foldl_st {l : List α} (hnd : l.Nodup) (hin : ∀ x ∈ l, addr x + 4 ≤ storeSize)
    (hap : ∀ x ∈ l, ∀ y ∈ l, x ≠ y → addr x + 4 ≤ addr y ∨ addr y + 4 ≤ addr x) (s : State) {x : α} (hx : x ∈ l) :
    (l.foldl (fun t x => t.st (addr x) 4 (val x)) s).ld (addr x) 4 = val x % 2 ^ 32 :=
  foldl_oneOf hnd hx (I := fun _ => True) (Q := fun u : State => u.ld (addr x) 4 = val x % 2 ^ 32) (fun _ _ _ _ _ => trivial)
    (fun u _ => State.ld_st_same u (hin x hx) (val x))
    (fun u y hy hne hu => (State.ld_st_apart u ((hap x hx y hy (Ne.symm hne))) (val y)).trans hu) s trivial

end

/-! ## Places of the region -/

theorem queuesPer_mul (z : Bool) : queuesPerDispatcher z * computeFolds z = 4096 := by cases z <;> rfl

theorem mem_queuesOf {f q : Nat} : q ∈ s.queuesOf f ↔ ∃ k < queuesPerDispatcher s.zk4, q = queuesPerDispatcher s.zk4 * f + k := by
  simp only [State.queuesOf, List.mem_map, List.mem_range]
  exact exists_congr fun k => and_congr_right fun _ => eq_comm

theorem queuesOf_lt {f q : Nat} (hf : f < computeFolds s.zk4) (hq : q ∈ s.queuesOf f) : q < 4096 := by
  obtain ⟨k, hk, rfl⟩ := mem_queuesOf.1 hq
  have hm := queuesPer_mul s.zk4
  have : queuesPerDispatcher s.zk4 * (f + 1) ≤ 4096 := hm ▸ Nat.mul_le_mul_left _ hf
  rw [Nat.mul_succ] at this
  omega

theorem queuesOf_nodup (f : Nat) : (s.queuesOf f).Nodup := by
  unfold State.queuesOf
  exact List.nodup_range.map fun a b h => by omega

theorem queuesOf_congr (h : t.zk4 = s.zk4) (f : Nat) : t.queuesOf f = s.queuesOf f := by
  unfold State.queuesOf
  rw [h]

/-- A fold that the map declares as a compute fold is one of the package's. -/
theorem cfolds_lt {f : Nat} (hf : f ∈ s.cfolds) : f < computeFolds s.zk4 := by
  have hk := (List.mem_filter.1 (mem_sortBy.1 hf)).2
  have hk := beq_iff_eq.1 hk
  unfold foldKind at hk
  by_contra hc
  rw [if_neg hc] at hk
  split_ifs at hk <;> omega

theorem glBase_congr (h : t.rd R.GL_BASE_BASE 0 = s.rd R.GL_BASE_BASE 0) : t.glBase = s.glBase := by
  unfold State.glBase
  rw [h]

/-- The word of the grant table that a rate makes (R358). -/
def rateWord (x : Nat × Nat × Bool) : Nat := min x.2.1 (2 ^ 31 - 1) + 2 ^ 31 * b2n x.2.2

theorem rateWord_lt (x : Nat × Nat × Bool) : rateWord x < 2 ^ 32 := by
  unfold rateWord b2n
  split <;> omega

theorem rateWord_rate (x : Nat × Nat × Bool) : rateWord x % 2 ^ 31 = min x.2.1 (2 ^ 31 - 1) := by
  unfold rateWord b2n
  split <;> omega

theorem rateWord_active (x : Nat × Nat × Bool) : decide (2 ^ 31 ≤ rateWord x) = x.2.2 := by
  unfold rateWord b2n
  cases x.2.2
  · exact decide_eq_false (by simp)
  · exact decide_eq_true (by simp)

/-! ## The rates of a fold -/

theorem foldRates_queues (s : State) (f : Nat) : (s.foldRates f).map (·.1) = s.queuesOf f := by
  simp only [State.foldRates, List.map_map]
  exact List.map_id _

theorem foldRates_active {x : Nat × Nat × Bool} {f : Nat} (hx : x ∈ s.foldRates f) : x.2.2 = s.queueActive x.1 := by
  simp only [State.foldRates, List.map_map, List.mem_map] at hx
  obtain ⟨q, -, rfl⟩ := hx
  rfl

theorem mem_foldRates_queue {x : Nat × Nat × Bool} {f : Nat} (hx : x ∈ s.foldRates f) : x.1 ∈ s.queuesOf f := by
  rw [← foldRates_queues s f]
  exact List.mem_map_of_mem hx

theorem foldRates_nodup (s : State) (f : Nat) : (s.foldRates f).Nodup :=
  List.Nodup.of_map (·.1) (by rw [foldRates_queues]; exact queuesOf_nodup f)

/-- The rates of a fold follow from what its queues read. -/
theorem foldRates_congr {f : Nat} (hid : t.ident = s.ident) (hmap : t.map = s.map)
    (he : t.rd R.LE_FOLD_EFFECTIVE_EFFECTIVE f = s.rd R.LE_FOLD_EFFECTIVE_EFFECTIVE f)
    (hr : t.rd R.GL_CTRL_RESERVE_PCT 0 = s.rd R.GL_CTRL_RESERVE_PCT 0)
    (hq : ∀ q ∈ s.queuesOf f, t.queueActive q = s.queueActive q ∧ t.heftOf q = s.heftOf q ∧ t.qcapOf q = s.qcapOf q) :
    t.foldRates f = s.foldRates f := by
  have hz : t.zk4 = s.zk4 := by simp only [State.zk4, hid]
  have hw (c : Nat) : t.heftWeight c = s.heftWeight c := by simp only [State.heftWeight, State.recsOf, hmap]
  have hqs : (t.queuesOf f).map (fun q => (q, t.queueActive q)) = (s.queuesOf f).map (fun q => (q, s.queueActive q)) := by
    rw [queuesOf_congr hz]
    exact List.map_congr_left fun q hm => by rw [(hq q hm).1]
  have hmem {x : Nat × Bool} (hx : x ∈ (s.queuesOf f).map (fun q => (q, s.queueActive q))) : x.1 ∈ s.queuesOf f := by
    obtain ⟨q, hm, rfl⟩ := List.mem_map.1 hx
    exact hm
  have hsum : (((s.queuesOf f).map (fun q => (q, s.queueActive q))).filter (fun x => x.2)).map (fun x => t.heftWeight (t.heftOf x.1))
      = (((s.queuesOf f).map (fun q => (q, s.queueActive q))).filter (fun x => x.2)).map (fun x => s.heftWeight (s.heftOf x.1)) :=
    List.map_congr_left fun x hx => by rw [hw, (hq x.1 (hmem (List.mem_filter.1 hx).1)).2.1]
  unfold State.foldRates
  rw [hqs, he, hr]
  simp only [hsum]
  refine List.map_congr_left fun x hx => ?_
  obtain ⟨-, hheft, hcap⟩ := hq x.1 (hmem hx)
  rw [hw, hheft, hcap]

theorem queueActive_eq (s : State) (q : Nat) :
    s.queueActive q = (s.rd H.GL_ACT q != 0 || (!s.bit H.GL_BANK_SINCE 0 && decide (2 ^ 31 ≤ s.ld (s.grantAt q) 4))) := rfl

/-! ## A fold's rates written -/

/-- Words stored at the grant table's places, which stores do not move. -/
theorem foldl_st_grantAt (val : Nat × Nat × Bool → Nat) (l : List (Nat × Nat × Bool)) (u : State) (hu : u.glBase = s.glBase) :
    l.foldl (fun t x => t.st (t.grantAt x.1) 4 (val x)) u = l.foldl (fun t x => t.st (s.grantAt x.1) 4 (val x)) u := by
  induction l generalizing u with
  | nil => rw [List.foldl_nil, List.foldl_nil]
  | cons x l ih =>
    have hx : u.grantAt x.1 = s.grantAt x.1 := by rw [State.grantAt, hu, State.grantAt]
    have hst : Frame ⟨[.store], [H.STORE_ECC]⟩ u (u.st (s.grantAt x.1) 4 (val x)) := (Frame.refl u).st
    have hbase : (u.st (s.grantAt x.1) 4 (val x)).glBase = s.glBase := (glBase_congr (hst.rd (by decide) 0)).trans hu
    simp only [List.foldl_cons, hx]
    exact ih _ hbase

theorem computeFold_eq (s : State) (f : Nat) :
    s.computeFold f = ((s.foldRates f).foldl (fun t x => t.st (s.grantAt x.1) 4 (rateWord x)) s).wr H.GL_ROUND_E f
      (s.rd R.LE_FOLD_EFFECTIVE_EFFECTIVE f) :=
  congrArg (fun u : State => u.wr H.GL_ROUND_E f (s.rd R.LE_FOLD_EFFECTIVE_EFFECTIVE f))
    (foldl_st_grantAt rateWord (s.foldRates f) s rfl)

theorem computeFold_frame (s : State) (f : Nat) : Frame Frame.computeFoldReach s (s.computeFold f) := (Frame.refl s).computeFold

theorem grantAt_apart {p q : Nat} (h : p ≠ q) : s.grantAt p + 4 ≤ s.grantAt q ∨ s.grantAt q + 4 ≤ s.grantAt p := by
  unfold State.grantAt
  omega

theorem foldRates_apart {f : Nat} : ∀ x ∈ s.foldRates f, ∀ y ∈ s.foldRates f, x ≠ y →
    s.grantAt x.1 + 4 ≤ s.grantAt y.1 ∨ s.grantAt y.1 + 4 ≤ s.grantAt x.1 := fun x hx y hy hne => by
  refine grantAt_apart fun h => hne ?_
  have hnd : ((s.foldRates f).map (·.1)).Nodup := by
    rw [foldRates_queues]
    exact queuesOf_nodup f
  exact List.inj_on_of_nodup_map hnd hx hy h

/-- The words of a fold's rates. -/
theorem computeFold_ld {f : Nat} (hf : f < computeFolds s.zk4) (hin : s.glBase + 0x28A00 ≤ storeSize) {x : Nat × Nat × Bool}
    (hx : x ∈ s.foldRates f) : (s.computeFold f).ld (s.grantAt x.1) 4 = rateWord x := by
  rw [computeFold_eq]
  refine (ld_foldl_st (foldRates_nodup s f) (fun y hy => ?_) foldRates_apart s hx).trans (Nat.mod_eq_of_lt (rateWord_lt x))
  have := queuesOf_lt hf (mem_foldRates_queue hy)
  unfold State.grantAt
  omega

/-- A byte outside the fold's words is left. -/
theorem computeFold_outside {f a : Nat} (h : ∀ q ∈ s.queuesOf f, a < s.grantAt q ∨ s.grantAt q + 4 ≤ a) :
    memGet (s.computeFold f).store a = memGet s.store a := by
  rw [computeFold_eq]
  exact memGet_foldl_st (s.foldRates f) s fun x hx => h x.1 (mem_foldRates_queue hx)

/-- A word of the region outside the grant table is left. -/
theorem computeFold_ld_other {f a n : Nat} (hf : f < computeFolds s.zk4) (h : a + n ≤ s.glBase + 0x10000 ∨ s.glBase + 0x14000 ≤ a) :
    (s.computeFold f).ld a n = s.ld a n := State.ld_congr fun b hb hb' => computeFold_outside fun q hq => by
  have := queuesOf_lt hf hq
  unfold State.grantAt
  omega

/-- Another queue's word is left. -/
theorem computeFold_ld_queue {f q : Nat} (hq : q ∉ s.queuesOf f) : (s.computeFold f).ld (s.grantAt q) 4 = s.ld (s.grantAt q) 4 :=
  State.ld_congr fun b hb hb' => computeFold_outside fun p hp => by
    have := grantAt_apart (s := s) (p := p) (q := q) (fun h => hq (h ▸ hp))
    omega

/-- A fold's rates written leave every fold's rates as they were, its own among them (R357). -/
theorem computeFold_rates {f g : Nat} (hf : f < computeFolds s.zk4) (hg : g < computeFolds s.zk4) (hin : s.glBase + 0x28A00 ≤ storeSize) :
    (s.computeFold f).foldRates g = s.foldRates g := by
  have hfr := computeFold_frame s f
  have hbase := glBase_congr (hfr.rd (by decide) 0)
  refine foldRates_congr hfr.ident hfr.map (hfr.rd (by decide) g) (hfr.rd (by decide) 0) fun q hq => ?_
  have hq' := queuesOf_lt hg hq
  refine ⟨?_, ?_, ?_⟩
  · rw [queueActive_eq, queueActive_eq, hfr.rd (by decide), hfr.bit (by decide)]
    have hat : (s.computeFold f).grantAt q = s.grantAt q := by rw [State.grantAt, hbase, State.grantAt]
    rw [hat]
    by_cases hqf : q ∈ s.queuesOf f
    · rw [← foldRates_queues s f] at hqf
      obtain ⟨x, hx, rfl⟩ := List.mem_map.1 hqf
      rw [computeFold_ld hf hin hx, rateWord_active, foldRates_active hx, queueActive_eq]
      cases s.rd H.GL_ACT x.1 != 0 <;> cases s.bit H.GL_BANK_SINCE 0 <;> simp
    · rw [computeFold_ld_queue hqf]
  · rw [State.heftOf, State.heftOf]
    have hat : (s.computeFold f).heftAt q = s.heftAt q := by rw [State.heftAt, hbase, State.heftAt]
    rw [hat, computeFold_ld_other hf (by unfold State.heftAt; omega)]
  · rw [State.qcapOf, State.qcapOf, hfr.bit (by decide)]
    have hat : (s.computeFold f).qcapAt q = s.qcapAt q := by rw [State.qcapAt, hbase, State.qcapAt]
    have hcaps : (s.computeFold f).unattCaps = s.unattCaps := by simp only [State.unattCaps, State.rec?, hfr.map]
    rw [hat, hcaps, computeFold_ld_other hf (by unfold State.qcapAt; omega)]

/-! ## Every fold's rates written -/

/-- The folds of `l` have their rates in the grant table. -/
structure Rated (s : State) (l : List Nat) (t : State) : Prop where
  frame : Frame Frame.computeFoldReach s t
  rates : ∀ f < computeFolds s.zk4, t.foldRates f = s.foldRates f
  words : ∀ f ∈ l, ∀ x ∈ s.foldRates f, t.ld (s.grantAt x.1) 4 = rateWord x
  rest : ∀ a, (∀ f ∈ l, ∀ q ∈ s.queuesOf f, a < s.grantAt q ∨ s.grantAt q + 4 ≤ a) → memGet t.store a = memGet s.store a
  eff : ∀ f ∈ l, t.rd H.GL_ROUND_E f = s.rd R.LE_FOLD_EFFECTIVE_EFFECTIVE f

theorem Rated.refl (s : State) : Rated s [] s :=
  ⟨.refl s, fun _ _ => rfl, fun _ h => absurd h List.not_mem_nil, fun _ _ => rfl, fun _ h => absurd h List.not_mem_nil⟩

theorem Rated.step {l : List Nat} {f : Nat} (h : Rated s l t) (hf : f < computeFolds s.zk4) (hin : s.glBase + 0x28A00 ≤ storeSize) :
    Rated s (l ++ [f]) (t.computeFold f) := by
  have hz : t.zk4 = s.zk4 := by simp only [State.zk4, h.frame.ident]
  have hbase := glBase_congr (h.frame.rd (by decide) 0)
  have hat (q : Nat) : t.grantAt q = s.grantAt q := by rw [State.grantAt, hbase, State.grantAt]
  have hf' : f < computeFolds t.zk4 := hz ▸ hf
  have hin' : t.glBase + 0x28A00 ≤ storeSize := hbase ▸ hin
  have hqs (g : Nat) : t.queuesOf g = s.queuesOf g := queuesOf_congr hz g
  have hnew {x : Nat × Nat × Bool} (hx : x ∈ s.foldRates f) : (t.computeFold f).ld (s.grantAt x.1) 4 = rateWord x := by
    rw [← hat]
    exact computeFold_ld hf' hin' (by rw [h.rates f hf]; exact hx)
  refine ⟨h.frame.computeFold, fun g hg => ?_, fun g hg x hx => ?_, fun a ha => ?_, fun g hg => ?_⟩
  · rw [computeFold_rates hf' (hz ▸ hg) hin', h.rates g hg]
  · by_cases hq : x.1 ∈ s.queuesOf f
    · obtain hg | hg := List.mem_append.1 hg
      · -- the word is written again, by a fold that the map declares twice: its rate is the same
        rw [← foldRates_queues s f] at hq
        obtain ⟨y, hy, hyx⟩ := List.mem_map.1 hq
        have hfg : f = g := by
          obtain ⟨j, hj, hqj⟩ := mem_queuesOf.1 (mem_foldRates_queue hx)
          obtain ⟨i, hi, hqi⟩ := mem_queuesOf.1 (mem_foldRates_queue hy)
          have hpos : 0 < queuesPerDispatcher s.zk4 := by cases s.zk4 <;> decide
          have hdiv (m n : Nat) (hn : n < queuesPerDispatcher s.zk4) :
              (queuesPerDispatcher s.zk4 * m + n) / queuesPerDispatcher s.zk4 = m := by
            rw [Nat.mul_add_div hpos, Nat.div_eq_of_lt hn, Nat.add_zero]
          have := congrArg (· / queuesPerDispatcher s.zk4) (hqi.symm.trans (hyx.trans hqj))
          simpa only [hdiv _ _ hi, hdiv _ _ hj] using this
        subst hfg
        exact hnew hx
      · rw [List.mem_singleton.1 hg] at hx
        exact hnew hx
    · have hg' : g ∈ l := by
        refine (List.mem_append.1 hg).resolve_right fun hc => hq ?_
        rw [← List.mem_singleton.1 hc]
        exact mem_foldRates_queue hx
      rw [← hat, computeFold_ld_queue (by rw [hqs]; exact hq), hat, h.words g hg' x hx]
  · have hleft : memGet (t.computeFold f).store a = memGet t.store a := computeFold_outside fun q hq => by
      rw [hat]
      exact ha f (by simp) q (by rwa [hqs] at hq)
    rw [hleft, h.rest a fun g hg => ha g (by simp [hg])]
  · have hE : (t.computeFold f).rd H.GL_ROUND_E g
        = if g = f then t.rd R.LE_FOLD_EFFECTIVE_EFFECTIVE f else t.rd H.GL_ROUND_E g := by
      rw [computeFold_eq, State.rd_wr_below (lt_of_lt_of_le hf (computeFolds_le _)) _ _ (by decide) le_rfl]
      split
      · exact Nat.mod_eq_of_lt (t.rd_lt R.LE_FOLD_EFFECTIVE_EFFECTIVE f)
      · have hst : Frame ⟨[.store], [H.STORE_ECC]⟩ t ((t.foldRates f).foldl (fun u x => u.st (t.grantAt x.1) 4 (rateWord x)) t) :=
          (Frame.refl t).foldl fun _ _ hu => hu.st
        exact hst.rd (by decide) g
    rw [hE]
    split
    · next hgf =>
      subst hgf
      exact h.frame.rd (by decide) g
    · next hgf => exact h.eff g ((List.mem_append.1 hg).resolve_right fun hc => hgf (List.mem_singleton.1 hc))

theorem Rated.foldl {l xs : List Nat} (h : Rated s l t) (hxs : ∀ f ∈ xs, f < computeFolds s.zk4)
    (hin : s.glBase + 0x28A00 ≤ storeSize) : Rated s (l ++ xs) (xs.foldl State.computeFold t) := by
  induction xs generalizing l t with
  | nil => rwa [List.append_nil]
  | cons f xs ih =>
    have := ih (h.step (hxs f List.mem_cons_self) hin) fun g hg => hxs g (List.mem_cons_of_mem f hg)
    rwa [List.append_assoc] at this

end Sys2Proof.Machine
end

section
/-! Rate rounds go out (R355, R362–R372, R612, R613). -/

set_option Elab.async false

namespace Sys2Proof.Machine

variable {s t u : State}

/-! ## A round begins, is published and goes out -/

/-- The next epoch begins (R355, R362). -/
def State.roundBegun (s : State) : State :=
  ((((s.wr R.GL_EPOCH_EPOCH 0 ((s.rd R.GL_EPOCH_EPOCH 0 + 1) % 2 ^ 32)).wr H.GL_ROUND_AGE 0 0).wr H.GL_ROUND_SOON 0 0).wr
    H.GL_RESTARTED 0 0).clearFlds [H.GL_MISM, H.GL_REV_SINCE]

/-- Its rates are in the grant table (R358, R372). -/
def State.roundPublished (s : State) : State :=
  ((s.cfolds.foldl State.computeFold s.roundBegun).wr H.GL_BANK_SINCE 0 0).nextGen s.grantGenAt

/-- One fold's part of a round goes out (R362, R367). -/
def State.roundTo (s : State) (f : Nat) : State :=
  (s.when (s.rd H.GL_FLAT_SENT f != s.rd H.GL_FLAT_EFF f || s.rd H.GL_COST_SENT f != s.costOfFold f)
    (fun u => u.foldParamNow f)).sendRound f

/-- The round has gone out, and the peer knows its epoch (R362, R393). -/
def State.roundOut (s : State) : State :=
  (((s.cfolds.foldl State.roundTo s.roundPublished).when s.holder (fun t => t.wr R.GL_STATUS_ROUNDS 0 1)).wr R.GL_STATUS_FLAT_ALL 0 0).when
    s.holder (fun t => t.send (.bulk ⟨true, .epoch ((s.rd R.GL_EPOCH_EPOCH 0 + 1) % 2 ^ 32)⟩))

/-- And its digest with it (R414). -/
def State.roundDone (s : State) : State :=
  s.roundOut.ownDigest H.GL_RDIG H.GL_PRDIG 0 2 s.roundOut.roundCrc (.roundDigest s.roundOut.roundCrc) State.roundValues

/-- The conditions of a round (R355, R370, R613). -/
def State.roundRuns (s : State) : Bool := s.running && s.hartUp 1 && !s.shedAt 4 && !s.roundsOff && s.roundDue

theorem exec_grantRound (s : State) : exec .grantRound s = (if s.roundRuns then s.roundDone else s).go := rfl

theorem exec_grantRound_runs (hr : s.running = true) (h1 : s.hartUp 1 = true) (hshed : s.shedAt 4 = false) (hoff : s.roundsOff = false)
    (hdue : s.roundDue = true) : exec .grantRound s = s.roundDone.go := by
  refine (exec_grantRound s).trans (congrArg State.go (if_pos ?_))
  rw [State.roundRuns, hr, h1, hshed, hoff, hdue]
  rfl

theorem exec_grantRound_idle (h : s.running = false ∨ s.hartUp 1 = false ∨ s.shedAt 4 = true ∨ s.roundsOff = true ∨ s.roundDue = false) :
    exec .grantRound s = .next s := by
  have hc : s.roundRuns = false := by
    unfold State.roundRuns
    obtain h | h | h | h | h := h <;> rw [h] <;> simp
  rw [exec_grantRound, hc]
  rfl

/-! ## What each part may write -/

theorem roundBegun_frame (s : State) : Frame (.regs [R.GL_EPOCH_EPOCH, H.GL_ROUND_AGE, H.GL_ROUND_SOON, H.GL_RESTARTED, H.GL_MISM,
    H.GL_REV_SINCE]) s s.roundBegun := (Frame.refl s).wr.wr.wr.wr.clearFlds

theorem roundBegun_says (s : State) : s.roundBegun.rd R.GL_EPOCH_EPOCH 0 = (s.rd R.GL_EPOCH_EPOCH 0 + 1) % 2 ^ 32
    ∧ s.roundBegun.rd H.GL_ROUND_AGE 0 = 0 ∧ s.roundBegun.bit H.GL_ROUND_SOON 0 = false ∧ s.roundBegun.bit H.GL_RESTARTED 0 = false := by
  have hclear : Frame (.regs [H.GL_MISM, H.GL_REV_SINCE])
      ((((s.wr R.GL_EPOCH_EPOCH 0 ((s.rd R.GL_EPOCH_EPOCH 0 + 1) % 2 ^ 32)).wr H.GL_ROUND_AGE 0 0).wr H.GL_ROUND_SOON 0 0).wr
        H.GL_RESTARTED 0 0) s.roundBegun := (Frame.refl _).clearFlds
  refine ⟨?_, ?_, ?_, ?_⟩
  · rw [hclear.rd (by decide), State.rd_wr_apart _ (by decide), State.rd_wr_apart _ (by decide), State.rd_wr_apart _ (by decide),
      State.rd_wr_self _ _ (by decide)]
    exact Nat.mod_mod _ _
  · rw [hclear.rd (by decide), State.rd_wr_apart _ (by decide), State.rd_wr_apart _ (by decide), State.rd_wr_self _ _ (by decide)]
    rfl
  · rw [hclear.bit (by decide), State.bit_wr_apart _ (by decide)]
    exact State.bit_unset _ (by decide)
  · rw [hclear.bit (by decide)]
    exact State.bit_unset _ (by decide)

theorem roundPublished_frame (s : State) : Frame ⟨[.store], [H.GL_ROUND_E, H.STORE_ECC, H.GL_BANK_SINCE]⟩ s.roundBegun s.roundPublished :=
  (((Frame.refl s.roundBegun).foldl fun _ _ hu => hu.computeFold).wr).nextGen

/-- What the round's messages may write. -/
def roundToReach : Reach := ⟨[.out, .mesh], [H.GL_FLAT_SENT, H.GL_COST_SENT]⟩

theorem roundTo_frame (s : State) (f : Nat) : Frame roundToReach s (s.roundTo f) :=
  ((Frame.refl s).when fun _ hu => hu.foldParamNow).sendRound

theorem roundOut_frame (s : State) : Frame ⟨[.out, .mesh], [H.GL_FLAT_SENT, H.GL_COST_SENT, R.GL_STATUS_ROUNDS, R.GL_STATUS_FLAT_ALL]⟩
    s.roundPublished s.roundOut :=
  ((((Frame.refl s.roundPublished).foldl fun u f hu => hu.andThen (roundTo_frame u f)).when fun _ hu => hu.wr).wr).when fun _ hu => hu.send

theorem roundOut_says (s : State) : (s.holder = true → s.roundOut.bit R.GL_STATUS_ROUNDS 0 = true)
    ∧ s.roundOut.bit R.GL_STATUS_FLAT_ALL 0 = false := by
  have hlast : Frame ⟨[.out], []⟩ (((s.cfolds.foldl State.roundTo s.roundPublished).when s.holder
      (fun t => t.wr R.GL_STATUS_ROUNDS 0 1)).wr R.GL_STATUS_FLAT_ALL 0 0) s.roundOut := (Frame.refl _).when fun _ hu => hu.send
  refine ⟨fun hh => ?_, ?_⟩
  · rw [hlast.bit (by decide), State.bit_wr_apart _ (by decide), hh]
    exact State.bit_set _ (by decide) rfl
  · rw [hlast.bit (by decide)]
    exact State.bit_unset _ (by decide)

theorem roundDone_frame (s : State) : Frame (Frame.ownDigestReach.and (.regs [H.GL_RDIG, H.GL_PRDIG])) s.roundOut s.roundDone :=
  (Frame.refl _).ownDigest

theorem round_steps (hr : s.running = true) (h1 : s.hartUp 1 = true) (hshed : s.shedAt 4 = false) (hoff : s.roundsOff = false)
    (hdue : s.roundDue = true) :
    Completes .grantRound s fun t =>
      t.rd R.GL_EPOCH_EPOCH 0 = (s.rd R.GL_EPOCH_EPOCH 0 + 1) % 2 ^ 32 ∧ t.rd H.GL_ROUND_AGE 0 = 0
        ∧ (s.holder = true → t.bit R.GL_STATUS_ROUNDS 0 = true) ∧ t.bit H.GL_ROUND_SOON 0 = false
        ∧ t.bit H.GL_RESTARTED 0 = false ∧ t.bit R.GL_STATUS_FLAT_ALL 0 = false ∧ t.map = s.map := by
  obtain ⟨hep, hage, hsoon, hrest⟩ := roundBegun_says s
  obtain ⟨hrounds, hflat⟩ := roundOut_says s
  have hp := roundPublished_frame s
  have ho := roundOut_frame s
  have hd := roundDone_frame s
  refine .of_go (exec_grantRound_runs hr h1 hshed hoff hdue) ⟨?_, ?_, fun hh => (hd.bit (by decide +kernel) 0).trans (hrounds hh), ?_, ?_,
    (hd.bit (by decide +kernel) 0).trans hflat, hd.map.trans (ho.map.trans (hp.map.trans (roundBegun_frame s).map))⟩
  · rw [hd.rd (by decide +kernel), ho.rd (by decide), hp.rd (by decide), hep]
  · rw [hd.rd (by decide +kernel), ho.rd (by decide), hp.rd (by decide), hage]
  · rw [hd.bit (by decide +kernel), ho.bit (by decide), hp.bit (by decide), hsoon]
  · rw [hd.bit (by decide +kernel), ho.bit (by decide), hp.bit (by decide), hrest]

/-! ## What is published and sent -/

theorem mem_sendOrd (s : State) (m : MeshMsg) {es : List Endpoint} (h : es ≠ []) : .mesh es m ∈ (s.sendOrd m es).out := by
  have hf : es.isEmpty = false := by cases es <;> simp_all
  unfold State.sendOrd
  rw [hf]
  exact List.mem_cons_self

theorem sendOrd_out (s : State) (m : MeshMsg) (es : List Endpoint) : s.out <:+ (s.sendOrd m es).out := (Tame.refl false s).sendOrd.out

theorem roundTo_out (s : State) (f : Nat) : s.out <:+ (s.roundTo f).out :=
  ((Tame.refl false s).when fun _ hu => hu.foldParamNow).sendRound.out

theorem sendRound_frame (s : State) (f : Nat) : Frame ⟨[.out, .mesh], []⟩ s (s.sendRound f) := (Frame.refl s).sendRound

/-- A queue's word of the grant table as the holder sends it (R362). -/
def grantMsg (q ep w : Nat) : MeshMsg := .grant q ep (w % 2 ^ 31) (decide (2 ^ 31 ≤ w))

/-- Every queue's word goes out with its fold's round. -/
theorem sendRound_grants {f q : Nat} (hh : s.holder = true) (hq : q ∈ s.queuesOf f) :
    .mesh [.dispatcher f] (grantMsg q (s.rd R.GL_EPOCH_EPOCH 0) (s.ld (s.grantAt q) 4)) ∈ (s.sendRound f).out := by
  refine (congrArg (fun u : State => _ ∈ u.out) (if_pos hh : s.sendRound f = _)).mpr ((sendOrd_out _ _ _).subset ?_)
  refine foldl_at hq (I := fun u : State => Frame ⟨[.out, .mesh], []⟩ s u)
    (Q := fun u : State => .mesh [.dispatcher f] (grantMsg q (s.rd R.GL_EPOCH_EPOCH 0) (s.ld (s.grantAt q) 4)) ∈ u.out)
    (fun u x hu => hu.sendOrd) (fun u hu => ?_) (fun u x _ hm => (sendOrd_out u _ _).subset hm) s (.refl s)
  have hat : u.grantAt q = s.grantAt q := by rw [State.grantAt, glBase_congr (hu.rd (by decide) 0), State.grantAt]
  have hld : u.ld (u.grantAt q) 4 = s.ld (s.grantAt q) 4 := by
    rw [hat]
    exact State.ld_congr fun _ _ _ => by rw [hu.store]
  rw [← hld]
  exact mem_sendOrd _ _ (List.cons_ne_nil _ _)

theorem roundTo_grants {f q : Nat} (hh : s.holder = true) (hq : q ∈ s.queuesOf f) :
    .mesh [.dispatcher f] (grantMsg q (s.rd R.GL_EPOCH_EPOCH 0) (s.ld (s.grantAt q) 4)) ∈ (s.roundTo f).out := by
  have hp : Frame roundToReach s (s.when (s.rd H.GL_FLAT_SENT f != s.rd H.GL_FLAT_EFF f || s.rd H.GL_COST_SENT f != s.costOfFold f)
      (fun u => u.foldParamNow f)) := (Frame.refl s).when fun _ hu => hu.foldParamNow
  unfold State.roundTo
  generalize s.when (s.rd H.GL_FLAT_SENT f != s.rd H.GL_FLAT_EFF f || s.rd H.GL_COST_SENT f != s.costOfFold f)
    (fun u => u.foldParamNow f) = u at hp
  have hat : u.grantAt q = s.grantAt q := by rw [State.grantAt, glBase_congr (hp.rd (by decide) 0), State.grantAt]
  have hld : u.ld (u.grantAt q) 4 = s.ld (s.grantAt q) 4 := by
    rw [hat]
    exact State.ld_congr fun _ _ _ => by rw [hp.store]
  rw [← hld, ← hp.rd (g := R.GL_EPOCH_EPOCH) (by decide) 0]
  refine sendRound_grants ((holder_congr (hp.rd (by decide) 0)).trans hh) ?_
  rwa [queuesOf_congr (t := u) (s := s) (by simp only [State.zk4, hp.ident])]

theorem foldl_roundTo_grants {l : List Nat} {f q : Nat} (hh : s.holder = true) (hf : f ∈ l) (hq : q ∈ s.queuesOf f) :
    .mesh [.dispatcher f] (grantMsg q (s.rd R.GL_EPOCH_EPOCH 0) (s.ld (s.grantAt q) 4)) ∈ (l.foldl State.roundTo s).out := by
  refine foldl_at hf (I := fun u : State => Frame roundToReach s u)
    (Q := fun u : State => .mesh [.dispatcher f] (grantMsg q (s.rd R.GL_EPOCH_EPOCH 0) (s.ld (s.grantAt q) 4)) ∈ u.out)
    (fun u x hu => hu.andThen (roundTo_frame u x)) (fun u hu => ?_) (fun u x _ hm => (roundTo_out u x).subset hm) s (.refl s)
  have hat : u.grantAt q = s.grantAt q := by rw [State.grantAt, glBase_congr (hu.rd (by decide) 0), State.grantAt]
  have hld : u.ld (u.grantAt q) 4 = s.ld (s.grantAt q) 4 := by
    rw [hat]
    exact State.ld_congr fun _ _ _ => by rw [hu.store]
  rw [← hld, ← hu.rd (g := R.GL_EPOCH_EPOCH) (by decide) 0]
  refine roundTo_grants ((holder_congr (hu.rd (by decide) 0)).trans hh) ?_
  rwa [queuesOf_congr (t := u) (s := s) (by simp only [State.zk4, hu.ident])]

theorem roundDone_alone (hp : s.peerCompares = false) : s.roundDone = s.roundOut := by
  have hb := roundBegun_frame s
  have hpub := roundPublished_frame s
  have ho := roundOut_frame s
  have hrole : s.roundOut.peerCompares = s.peerCompares :=
    peerCompares_congr ((ho.rd (by decide) 0).trans ((hpub.rd (by decide) 0).trans (hb.rd (by decide) 0)))
      ((ho.rd (by decide) 0).trans ((hpub.rd (by decide) 0).trans (hb.rd (by decide) 0)))
  unfold State.roundDone State.ownDigest
  rw [hrole, hp]
  rfl

theorem roundBegun_foldRates (f : Nat) : s.roundBegun.foldRates f = s.foldRates f := by
  have hb := roundBegun_frame s
  have hbase := glBase_congr (hb.rd (by decide) 0)
  have hld (a n : Nat) : s.roundBegun.ld a n = s.ld a n := State.ld_congr fun _ _ _ => by rw [hb.store]
  refine foldRates_congr hb.ident hb.map (hb.rd (by decide) f) (hb.rd (by decide) 0) fun q _ => ⟨?_, ?_, ?_⟩
  · rw [queueActive_eq, queueActive_eq, hb.rd (by decide), hb.bit (by decide), hld, State.grantAt, hbase, State.grantAt]
  · rw [State.heftOf, State.heftOf, hld, State.heftAt, hbase, State.heftAt]
  · have hcaps : s.roundBegun.unattCaps = s.unattCaps := by simp only [State.unattCaps, State.rec?, hb.map]
    rw [State.qcapOf, State.qcapOf, hb.bit (by decide), hcaps, hld, State.qcapAt, hbase, State.qcapAt]

/-- The grant table of the round that is published. -/
theorem roundPublished_says (hin : s.glBase + 0x28A00 ≤ storeSize) :
    (∀ f ∈ s.cfolds, ∀ x ∈ s.foldRates f, s.roundPublished.ld (s.grantAt x.1) 4 = rateWord x)
      ∧ (∀ a, (∀ f ∈ s.cfolds, ∀ x ∈ s.foldRates f, a < s.grantAt x.1 ∨ s.grantAt x.1 + 4 ≤ a) →
          a < s.grantGenAt ∨ s.grantGenAt + 4 ≤ a → memGet s.roundPublished.store a = memGet s.store a)
      ∧ s.roundPublished.ld s.grantGenAt 4 = (s.ld s.grantGenAt 4 / 2 * 2 + 2) % 2 ^ 32
      ∧ (∀ f ∈ s.cfolds, s.roundPublished.rd H.GL_ROUND_E f = s.rd R.LE_FOLD_EFFECTIVE_EFFECTIVE f) := by
  have hb := roundBegun_frame s
  have hbase : s.roundBegun.glBase = s.glBase := glBase_congr (hb.rd (by decide) 0)
  have hz : s.roundBegun.zk4 = s.zk4 := by simp only [State.zk4, hb.ident]
  have hat (q : Nat) : s.roundBegun.grantAt q = s.grantAt q := by rw [State.grantAt, hbase, State.grantAt]
  have hqs (f : Nat) : s.roundBegun.queuesOf f = s.queuesOf f := queuesOf_congr hz f
  have hrated := (Rated.refl s.roundBegun).foldl (xs := s.cfolds) (fun f hf => hz ▸ cfolds_lt hf) (hbase ▸ hin)
  rw [List.nil_append] at hrated
  obtain ⟨hframe, -, hwords, hrest, heff⟩ := hrated
  have hpub : s.roundPublished = ((s.cfolds.foldl State.computeFold s.roundBegun).wr H.GL_BANK_SINCE 0 0).nextGen s.grantGenAt := rfl
  generalize s.cfolds.foldl State.computeFold s.roundBegun = u at *
  have hgen : SameStoreBut s.grantGenAt 4 u s.roundPublished := by
    rw [hpub]
    exact State.sameStoreBut_st (u.wr H.GL_BANK_SINCE 0 0) _ _ _
  have hrates (f : Nat) : s.roundBegun.foldRates f = s.foldRates f := roundBegun_foldRates f
  refine ⟨fun f hf x hx => ?_, fun a ha ha' => ?_, ?_, fun f hf => ?_⟩
  · have hq := queuesOf_lt (cfolds_lt hf) (mem_foldRates_queue hx)
    rw [hgen.ld (by unfold State.grantAt State.grantGenAt; omega), ← hat]
    exact hwords f hf x (by rw [hrates]; exact hx)
  · rw [hgen a ha', hrest a fun f hf q hq => ?_, hb.store]
    rw [hqs, ← foldRates_queues s f] at hq
    obtain ⟨x, hx, rfl⟩ := List.mem_map.1 hq
    rw [hat]
    exact ha f hf x hx
  · have hold : (u.wr H.GL_BANK_SINCE 0 0).ld s.grantGenAt 4 = s.ld s.grantGenAt 4 := State.ld_congr fun b hb' hb'' => by
      refine (hrest b fun f hf q hq => ?_).trans (by rw [hb.store])
      have := queuesOf_lt (hz ▸ cfolds_lt hf) hq
      rw [hat]
      unfold State.grantAt
      unfold State.grantGenAt at hb'
      omega
    rw [hpub]
    refine (State.ld_st_same _ (by unfold State.grantGenAt; omega) _).trans ?_
    rw [hold]
    exact Nat.mod_mod _ _
  · have hE : s.roundPublished.rd H.GL_ROUND_E f = u.rd H.GL_ROUND_E f := by
      have hlast : Frame ⟨[.store], [H.GL_BANK_SINCE, H.STORE_ECC]⟩ u s.roundPublished := by
        rw [hpub]
        exact (Frame.refl u).wr.nextGen
      exact hlast.rd (by decide) f
    rw [hE, heff f hf, hb.rd (by decide)]

theorem round_publishes (hr : s.running = true) (h1 : s.hartUp 1 = true) (hshed : s.shedAt 4 = false) (hoff : s.roundsOff = false)
    (hdue : s.roundDue = true) (hin : s.glBase + 0x28A00 ≤ storeSize) (hp : s.peerCompares = false) :
    Completes .grantRound s fun t =>
      (∀ f ∈ s.cfolds, ∀ x ∈ s.foldRates f, t.ld (s.grantAt x.1) 4 = min x.2.1 (2 ^ 31 - 1) + 2 ^ 31 * b2n x.2.2)
        ∧ (∀ a, (∀ f ∈ s.cfolds, ∀ x ∈ s.foldRates f, a < s.grantAt x.1 ∨ s.grantAt x.1 + 4 ≤ a) →
            a < s.grantGenAt ∨ s.grantGenAt + 4 ≤ a → memGet t.store a = memGet s.store a)
        ∧ t.ld s.grantGenAt 4 = (s.ld s.grantGenAt 4 / 2 * 2 + 2) % 2 ^ 32
        ∧ (∀ f ∈ s.cfolds, t.rd H.GL_ROUND_E f = s.rd R.LE_FOLD_EFFECTIVE_EFFECTIVE f)
        ∧ (s.holder = true → ∀ f ∈ s.cfolds, ∀ x ∈ s.foldRates f,
            .mesh [.dispatcher f] (.grant x.1 ((s.rd R.GL_EPOCH_EPOCH 0 + 1) % 2 ^ 32) (min x.2.1 (2 ^ 31 - 1)) x.2.2) ∈ t.out) := by
  obtain ⟨hwords, hrest, hgen, heff⟩ := roundPublished_says hin
  have ho := roundOut_frame s
  have hexec := exec_grantRound_runs hr h1 hshed hoff hdue
  rw [roundDone_alone hp] at hexec
  have hld (a n : Nat) : s.roundOut.ld a n = s.roundPublished.ld a n := State.ld_congr fun _ _ _ => by rw [ho.store]
  refine .of_go hexec ⟨fun f hf x hx => (hld _ _).trans (hwords f hf x hx), fun a ha ha' => by rw [ho.store, hrest a ha ha'],
    (hld _ _).trans hgen, fun f hf => (ho.rd (by decide) f).trans (heff f hf), fun hh f hf x hx => ?_⟩
  have hb := roundBegun_frame s
  have hpub := roundPublished_frame s
  have hep : s.roundPublished.rd R.GL_EPOCH_EPOCH 0 = (s.rd R.GL_EPOCH_EPOCH 0 + 1) % 2 ^ 32 :=
    (hpub.rd (by decide) 0).trans (roundBegun_says s).1
  have hat : s.roundPublished.grantAt x.1 = s.grantAt x.1 := by
    rw [State.grantAt, glBase_congr ((hpub.rd (by decide) 0).trans (hb.rd (by decide) 0)), State.grantAt]
  have hsent := foldl_roundTo_grants (s := s.roundPublished) (q := x.1)
    ((holder_congr ((hpub.rd (by decide) 0).trans (hb.rd (by decide) 0))).trans hh) hf (by
      rw [queuesOf_congr (t := s.roundPublished) (s := s) (by simp only [State.zk4, hpub.ident, hb.ident])]
      exact mem_foldRates_queue hx)
  rw [grantMsg, hep, hat, hwords f hf x hx, rateWord_rate, rateWord_active] at hsent
  have htame : Tame false (s.cfolds.foldl State.roundTo s.roundPublished) s.roundOut :=
    (((Tame.refl false _).when fun _ hu => hu.wr).wr).when fun _ hu => hu.send
  exact htame.out.subset hsent

end Sys2Proof.Machine
end

section
/-! Acknowledgements of rounds, and billing periods (R362, R365, R369, R381, R384, R385). -/

set_option Elab.async false

namespace Sys2Proof.Machine

variable {s t u : State}

/-! ## Acknowledgements -/

theorem OnlyKinds.onlyFields (h : OnlyKinds [] s t) (l : List (Fld × Nat)) : OnlyFields l s t := fun g j _ => h g j nofun

theorem noteApplied_applied {f : Nat} {m : RoundAckMsg} (hst : m.status = 0) (hep : m.epoch = s.rd R.GL_EPOCH_EPOCH 0) :
    s.noteApplied f m = (s.wr H.GL_APPLIED_E f (s.rd H.GL_ROUND_E f)).wr H.GL_REVERTED f 0 := by
  unfold State.noteApplied
  rw [hst, hep, beq_self_eq_true, beq_self_eq_true, Bool.and_self, State.when_true]

theorem noteApplied_not {f : Nat} {m : RoundAckMsg} (h : m.status ≠ 0 ∨ m.epoch ≠ s.rd R.GL_EPOCH_EPOCH 0) : s.noteApplied f m = s := by
  have hc : (m.status == 0 && m.epoch == s.rd R.GL_EPOCH_EPOCH 0) = false := by
    obtain h | h := h
    · rw [beq_eq_false_iff_ne.2 h, Bool.false_and]
    · rw [beq_eq_false_iff_ne.2 h, Bool.and_false]
  unfold State.noteApplied
  rw [hc, State.when_false]

/-- An acknowledgement stands in the dispatcher's registers (R362). -/
def State.ackKept (s : State) (f : Nat) (m : RoundAckMsg) : State :=
  (((s.noteApplied f m).wr R.GL_DISP_ACK_ACK_SEQ f m.grantSeq).wr R.GL_DISP_EPOCH_ACK_EPOCH f m.epoch).wr R.GL_DISP_STAT_STATUS f m.status

section
variable {f : Nat} {m : RoundAckMsg}

theorem exec_roundAck_none (h : computeFolds s.zk4 ≤ f ∨ 2 < m.status) : exec (.roundAck f m) s = .next s :=
  congrArg State.go (if_pos h)

theorem exec_roundAck_other (hf : f < computeFolds s.zk4) (hst : m.status ≤ 2) (hsrc : m.source ≠ b2n s.ident.instB) :
    exec (.roundAck f m) s = (s.noteApplied f m).go := congrArg State.go ((if_neg (by omega)).trans (if_pos hsrc))

theorem exec_roundAck_kept (hf : f < computeFolds s.zk4) (hst : m.status ≤ 2) (hne : m.status ≠ 1) (hsrc : m.source = b2n s.ident.instB) :
    exec (.roundAck f m) s = (s.ackKept f m).go :=
  congrArg State.go ((if_neg (by omega)).trans ((if_neg (not_not_intro hsrc)).trans (if_neg hne)))

/-- What a mismatch asks for: the fold's parameters, with a fault on the second in a row and the round anew on the first (R365). -/
def State.mismatched (s : State) (f : Nat) (m : RoundAckMsg) (second : Bool) : State :=
  let u := (s.ackKept f m).wr R.GL_DISP_SENT_SENT f m.grantSeq
  if second then ((u.inc R.GL_DISP_STAT_ROUND_FAIL f 1).foldParamNow f).fault 0x0B f 1
  else ((u.wr H.GL_MISM f 1).foldParamNow f).sendRound f

theorem exec_roundAck_mismatch (hf : f < computeFolds s.zk4) (hst : m.status = 1) (hsrc : m.source = b2n s.ident.instB)
    (hep : m.epoch = s.rd R.GL_EPOCH_EPOCH 0) : exec (.roundAck f m) s = (s.mismatched f m (s.bit H.GL_MISM f)).go :=
  congrArg State.go ((if_neg (by omega)).trans ((if_neg (not_not_intro hsrc)).trans ((if_pos hst).trans
    (if_neg (by rw [hep, beq_self_eq_true]; decide)))))

theorem ackKept_says (hf : f < computeFolds s.zk4) : (s.ackKept f m).rd R.GL_DISP_ACK_ACK_SEQ f = m.grantSeq % 2 ^ 32
    ∧ (s.ackKept f m).rd R.GL_DISP_EPOCH_ACK_EPOCH f = m.epoch % 2 ^ 32 ∧ (s.ackKept f m).rd R.GL_DISP_STAT_STATUS f = m.status % 4 := by
  have hlt : f < 32 := hf.trans_le (computeFolds_le _)
  refine ⟨?_, ?_, State.rd_wr_self _ _ hlt _⟩ <;> unfold State.ackKept
  · rw [State.rd_wr_apart _ (by decide), State.rd_wr_apart _ (by decide)]
    exact State.rd_wr_self _ _ hlt _
  · rw [State.rd_wr_apart _ (by decide)]
    exact State.rd_wr_self _ _ hlt _

theorem noteApplied_frame (s : State) (f : Nat) (m : RoundAckMsg) : Frame (.regs [H.GL_APPLIED_E, H.GL_REVERTED]) s (s.noteApplied f m) :=
  (Frame.refl s).when fun _ hu => hu.wr.wr

/-- What an acknowledgement may write. -/
def ackFields : List Fld :=
  [R.GL_DISP_ACK_ACK_SEQ, R.GL_DISP_EPOCH_ACK_EPOCH, R.GL_DISP_STAT_STATUS, H.GL_APPLIED_E, H.GL_REVERTED]

theorem ackKept_frame (s : State) (f : Nat) (m : RoundAckMsg) : Frame (.regs ackFields) s (s.ackKept f m) :=
  ((Frame.refl s).andThen (noteApplied_frame s f m)).wr.wr.wr

theorem ack_applied_other (hf : f < computeFolds s.zk4) (hst : m.status = 0) (hsrc : m.source ≠ b2n s.ident.instB)
    (hep : m.epoch = s.rd R.GL_EPOCH_EPOCH 0) :
    Completes (.roundAck f m) s fun t =>
      t.rd H.GL_APPLIED_E f = s.rd H.GL_ROUND_E f ∧ t.bit H.GL_REVERTED f = false
        ∧ OnlyFields [(H.GL_APPLIED_E, f), (H.GL_REVERTED, f)] s t ∧ OnlyRegs s t := by
  have hlt : f < 32 := hf.trans_le (computeFolds_le _)
  refine .of_go (exec_roundAck_other hf (by omega) hsrc) ⟨?_, ?_, ?_, (noteApplied_frame s f m).onlyRegs⟩ <;>
    rw [noteApplied_applied hst hep]
  · rw [State.rd_wr_apart _ (by decide), State.rd_wr_self _ _ hlt]
    exact Nat.mod_eq_of_lt (State.rd_lt _ _ _)
  · exact State.bit_unset _ hlt
  · simp

theorem ack_applied_own (hf : f < computeFolds s.zk4) (hst : m.status = 0) (hsrc : m.source = b2n s.ident.instB)
    (hep : m.epoch = s.rd R.GL_EPOCH_EPOCH 0) :
    Completes (.roundAck f m) s fun t =>
      t.rd R.GL_DISP_ACK_ACK_SEQ f = m.grantSeq % 2 ^ 32 ∧ t.rd R.GL_DISP_EPOCH_ACK_EPOCH f = m.epoch
        ∧ t.rd R.GL_DISP_STAT_STATUS f = 0 ∧ t.rd H.GL_APPLIED_E f = s.rd H.GL_ROUND_E f ∧ t.bit H.GL_REVERTED f = false
        ∧ OnlyFields [(R.GL_DISP_ACK_ACK_SEQ, f), (R.GL_DISP_EPOCH_ACK_EPOCH, f), (R.GL_DISP_STAT_STATUS, f),
            (H.GL_APPLIED_E, f), (H.GL_REVERTED, f)] s t ∧ OnlyRegs s t := by
  have hlt : f < 32 := hf.trans_le (computeFolds_le _)
  obtain ⟨hseq, hepoch, hstat⟩ := ackKept_says (m := m) hf
  have hk : s.ackKept f m = (((((s.wr H.GL_APPLIED_E f (s.rd H.GL_ROUND_E f)).wr H.GL_REVERTED f 0).wr R.GL_DISP_ACK_ACK_SEQ f
      m.grantSeq).wr R.GL_DISP_EPOCH_ACK_EPOCH f m.epoch).wr R.GL_DISP_STAT_STATUS f m.status) := by
    unfold State.ackKept
    rw [noteApplied_applied hst hep]
  refine .of_go (exec_roundAck_kept hf (by omega) (by omega) hsrc) ⟨hseq, ?_, by rw [hstat, hst], ?_, ?_, ?_, (ackKept_frame s f m).onlyRegs⟩
  · rw [hepoch, hep]
    exact Nat.mod_eq_of_lt (State.rd_lt _ _ _)
  · rw [hk, State.rd_wr_apart _ (by decide), State.rd_wr_apart _ (by decide), State.rd_wr_apart _ (by decide),
      State.rd_wr_apart _ (by decide), State.rd_wr_self _ _ hlt]
    exact Nat.mod_eq_of_lt (State.rd_lt _ _ _)
  · rw [hk, State.bit_wr_apart _ (by decide), State.bit_wr_apart _ (by decide), State.bit_wr_apart _ (by decide)]
    exact State.bit_unset _ hlt
  · rw [hk]
    simp

/-- One that nothing was applied by is kept, and no more. -/
theorem ackKept_fields (h : m.status ≠ 0) :
    OnlyFields [(R.GL_DISP_ACK_ACK_SEQ, f), (R.GL_DISP_EPOCH_ACK_EPOCH, f), (R.GL_DISP_STAT_STATUS, f)] s (s.ackKept f m) := by
  unfold State.ackKept
  rw [noteApplied_not (.inl h)]
  simp

theorem ack_status2 (hf : f < computeFolds s.zk4) (hst : m.status = 2) (hsrc : m.source = b2n s.ident.instB) :
    Completes (.roundAck f m) s fun t =>
      t.rd R.GL_DISP_ACK_ACK_SEQ f = m.grantSeq % 2 ^ 32 ∧ t.rd R.GL_DISP_EPOCH_ACK_EPOCH f = m.epoch % 2 ^ 32
        ∧ t.rd R.GL_DISP_STAT_STATUS f = 2
        ∧ OnlyFields [(R.GL_DISP_ACK_ACK_SEQ, f), (R.GL_DISP_EPOCH_ACK_EPOCH, f), (R.GL_DISP_STAT_STATUS, f)] s t ∧ OnlyRegs s t := by
  obtain ⟨hseq, hepoch, hstat⟩ := ackKept_says (m := m) hf
  exact .of_go (exec_roundAck_kept hf (by omega) (by omega) hsrc)
    ⟨hseq, hepoch, by rw [hstat, hst], ackKept_fields (by omega), (ackKept_frame s f m).onlyRegs⟩

theorem ack_idle (h : computeFolds s.zk4 ≤ f ∨ 2 < m.status ∨ (m.source ≠ b2n s.ident.instB
    ∧ (m.status ≠ 0 ∨ m.epoch ≠ s.rd R.GL_EPOCH_EPOCH 0))) : exec (.roundAck f m) s = .next s := by
  by_cases hno : computeFolds s.zk4 ≤ f ∨ 2 < m.status
  · exact exec_roundAck_none hno
  · obtain ⟨hsrc, happ⟩ := (h.resolve_left fun hf => hno (.inl hf)).resolve_left fun hst => hno (.inr hst)
    rw [exec_roundAck_other (by omega) (by omega) hsrc, noteApplied_not happ]
    rfl

/-! ### A mismatch -/

theorem srcPresent_fold {z : Bool} (hf : f < computeFolds z) : srcPresent z (0x2FC + f) = true := by
  have hlt : f < 32 := hf.trans_le (computeFolds_le _)
  have hk : srcKind (0x2FC + f) = some (0x0B, f) := by
    simp (disch := omega) only [srcKind, if_neg, if_pos, Nat.add_sub_cancel_left]
  simp [srcPresent, hk, hf]

theorem foldParamNow_frame (u : State) (f : Nat) : Frame roundToReach u (u.foldParamNow f) := (Frame.refl u).foldParamNow

theorem ack_second_mismatch (hf : f < computeFolds s.zk4) (hst : m.status = 1) (hsrc : m.source = b2n s.ident.instB)
    (hep : m.epoch = s.rd R.GL_EPOCH_EPOCH 0) (hmism : s.bit H.GL_MISM f = true) :
    Completes (.roundAck f m) s fun t =>
      t.rd R.GL_DISP_STAT_ROUND_FAIL f = satAdd R.GL_DISP_STAT_ROUND_FAIL.wid (s.rd R.GL_DISP_STAT_ROUND_FAIL f) 1
        ∧ t.rd R.GL_DISP_SENT_SENT f = m.grantSeq % 2 ^ 32 ∧ t.rd R.GL_DISP_STAT_STATUS f = 1 ∧ Raised (0x2FC + f) 1 s t := by
  have hlt : f < 32 := hf.trans_le (computeFolds_le _)
  have hk := ackKept_frame s f m
  have hsays := (ackKept_says (m := m) hf).2.2
  have hdone : s.mismatched f m true
      = (((((s.ackKept f m).wr R.GL_DISP_SENT_SENT f m.grantSeq).inc R.GL_DISP_STAT_ROUND_FAIL f 1).foldParamNow f).fault 0x0B f 1) := rfl
  have hexec := exec_roundAck_mismatch hf hst hsrc hep
  rw [hmism, hdone] at hexec
  generalize s.ackKept f m = u at *
  have hw : Frame (.regs [R.GL_DISP_SENT_SENT, R.GL_DISP_STAT_ROUND_FAIL]) u
      ((u.wr R.GL_DISP_SENT_SENT f m.grantSeq).inc R.GL_DISP_STAT_ROUND_FAIL f 1) := (Frame.refl u).wr.inc
  have hsent : ((u.wr R.GL_DISP_SENT_SENT f m.grantSeq).inc R.GL_DISP_STAT_ROUND_FAIL f 1).rd R.GL_DISP_SENT_SENT f
      = m.grantSeq % 2 ^ 32 := (State.rd_inc_apart _ (by decide) f f 1).trans (State.rd_wr_self _ _ hlt _)
  have hfail : ((u.wr R.GL_DISP_SENT_SENT f m.grantSeq).inc R.GL_DISP_STAT_ROUND_FAIL f 1).rd R.GL_DISP_STAT_ROUND_FAIL f
      = satAdd R.GL_DISP_STAT_ROUND_FAIL.wid (s.rd R.GL_DISP_STAT_ROUND_FAIL f) 1 := by
    rw [State.inc, State.rd_wr_self _ _ hlt, satAdd_mod, State.rd_wr_apart _ (by decide), hk.rd (by decide)]
  generalize (u.wr R.GL_DISP_SENT_SENT f m.grantSeq).inc R.GL_DISP_STAT_ROUND_FAIL f 1 = v at *
  have hp := foldParamNow_frame v f
  have hfault : Frame (.fault Frame.faultReach.flds) (v.foldParamNow f) ((v.foldParamNow f).fault 0x0B f 1) := (Frame.refl _).fault
  refine .of_go hexec ⟨?_, ?_, ?_, ?_⟩
  · rw [hfault.rd (by decide +kernel), hp.rd (by decide), hfail]
  · rw [hfault.rd (by decide +kernel), hp.rd (by decide), hsent]
  · rw [hfault.rd (by decide +kernel), hp.rd (by decide), hw.rd (by decide), hsays, hst]
  · have hz : (v.foldParamNow f).zk4 = s.zk4 := by simp only [State.zk4, hp.ident, hw.ident, hk.ident]
    have hall : Frame ⟨[.out, .mesh], [H.GL_FLAT_SENT, H.GL_COST_SENT, R.GL_DISP_SENT_SENT, R.GL_DISP_STAT_ROUND_FAIL] ++ ackFields⟩ s
        (v.foldParamNow f) := (((Frame.refl s).andThen hk).andThen hw).andThen hp
    exact .after hall.kinds (by decide) (State.fault_raised _ rfl (hz ▸ srcPresent_fold hf) (by decide))

theorem ack_first_mismatch (hf : f < computeFolds s.zk4) (hst : m.status = 1) (hsrc : m.source = b2n s.ident.instB)
    (hep : m.epoch = s.rd R.GL_EPOCH_EPOCH 0) (hmism : s.bit H.GL_MISM f = false) (hh : s.holder = true) :
    Completes (.roundAck f m) s fun t =>
      t.rd R.GL_DISP_SENT_SENT f = m.grantSeq % 2 ^ 32 ∧ t.bit H.GL_MISM f = true
        ∧ t.rd R.GL_DISP_STAT_ROUND_FAIL f = s.rd R.GL_DISP_STAT_ROUND_FAIL f
        ∧ .mesh [.dispatcher f] (.foldParam f (s.rd H.GL_FLAT_EFF f) (s.costOfFold f)) ∈ t.out
        ∧ (∀ q ∈ s.queuesOf f, .mesh [.dispatcher f] (.grant q (s.rd R.GL_EPOCH_EPOCH 0) (s.ld (s.grantAt q) 4 % 2 ^ 31)
            (decide (2 ^ 31 ≤ s.ld (s.grantAt q) 4))) ∈ t.out)
        ∧ OnlyFields [(R.GL_DISP_ACK_ACK_SEQ, f), (R.GL_DISP_EPOCH_ACK_EPOCH, f), (R.GL_DISP_STAT_STATUS, f),
            (R.GL_DISP_SENT_SENT, f), (H.GL_MISM, f), (H.GL_FLAT_SENT, f), (H.GL_COST_SENT, f)] s t ∧ OnlyRegsMesh s t := by
  have hlt : f < 32 := hf.trans_le (computeFolds_le _)
  have hk := ackKept_frame s f m
  have hkf := ackKept_fields (s := s) (f := f) (m := m) (by omega)
  have hdone : s.mismatched f m false
      = ((((s.ackKept f m).wr R.GL_DISP_SENT_SENT f m.grantSeq).wr H.GL_MISM f 1).foldParamNow f).sendRound f := rfl
  have hexec := exec_roundAck_mismatch hf hst hsrc hep
  rw [hmism, hdone] at hexec
  generalize s.ackKept f m = u at *
  have hw : Frame (.regs [R.GL_DISP_SENT_SENT, H.GL_MISM]) u ((u.wr R.GL_DISP_SENT_SENT f m.grantSeq).wr H.GL_MISM f 1) :=
    (Frame.refl u).wr.wr
  have hwf : OnlyFields [(R.GL_DISP_ACK_ACK_SEQ, f), (R.GL_DISP_EPOCH_ACK_EPOCH, f), (R.GL_DISP_STAT_STATUS, f),
      (R.GL_DISP_SENT_SENT, f), (H.GL_MISM, f), (H.GL_FLAT_SENT, f), (H.GL_COST_SENT, f)] s
      ((u.wr R.GL_DISP_SENT_SENT f m.grantSeq).wr H.GL_MISM f 1) := by
    simpa using hkf.mono (by simp)
  have hsent : ((u.wr R.GL_DISP_SENT_SENT f m.grantSeq).wr H.GL_MISM f 1).rd R.GL_DISP_SENT_SENT f = m.grantSeq % 2 ^ 32 :=
    (State.rd_wr_apart _ (by decide) f f 1).trans (State.rd_wr_self _ _ hlt _)
  have hset : ((u.wr R.GL_DISP_SENT_SENT f m.grantSeq).wr H.GL_MISM f 1).bit H.GL_MISM f = true := State.bit_set _ hlt rfl
  generalize (u.wr R.GL_DISP_SENT_SENT f m.grantSeq).wr H.GL_MISM f 1 = v at *
  have hv : Frame (.regs ([R.GL_DISP_SENT_SENT, H.GL_MISM] ++ ackFields)) s v := ((Frame.refl s).andThen hk).andThen hw
  have hp := foldParamNow_frame v f
  have hr := sendRound_frame (v.foldParamNow f) f
  have hnow : v.foldParamNow f = ((v.wr H.GL_FLAT_SENT f (s.rd H.GL_FLAT_EFF f)).wr H.GL_COST_SENT f (s.costOfFold f)).sendOrd
      (.foldParam f (s.rd H.GL_FLAT_EFF f) (s.costOfFold f)) [.dispatcher f] := by
    have hcost : v.costOfFold f = s.costOfFold f := by
      rw [State.costOfFold, State.zk4, hv.ident, hv.rd (by decide), State.costOfFold, State.zk4]
    unfold State.foldParamNow
    rw [hv.rd (g := H.GL_FLAT_EFF) (by decide), hcost]
    exact if_pos ((holder_congr (hv.rd (by decide) 0)).trans hh)
  have hnf : OnlyFields [(R.GL_DISP_ACK_ACK_SEQ, f), (R.GL_DISP_EPOCH_ACK_EPOCH, f), (R.GL_DISP_STAT_STATUS, f),
      (R.GL_DISP_SENT_SENT, f), (H.GL_MISM, f), (H.GL_FLAT_SENT, f), (H.GL_COST_SENT, f)] s (v.foldParamNow f) := by
    rw [hnow]
    refine .trans ?_ (((Frame.refl _).sendOrd : Frame ⟨[.out, .mesh], []⟩ _ _).kinds.onlyFields _)
    simpa using hwf
  have hparam : .mesh [.dispatcher f] (.foldParam f (s.rd H.GL_FLAT_EFF f) (s.costOfFold f)) ∈ (v.foldParamNow f).out := by
    rw [hnow]
    exact mem_sendOrd _ _ (List.cons_ne_nil _ _)
  have hhold : (v.foldParamNow f).holder = true := (holder_congr ((hp.rd (by decide) 0).trans (hv.rd (by decide) 0))).trans hh
  have hepoch : (v.foldParamNow f).rd R.GL_EPOCH_EPOCH 0 = s.rd R.GL_EPOCH_EPOCH 0 := (hp.rd (by decide) 0).trans (hv.rd (by decide) 0)
  have hbase : (v.foldParamNow f).glBase = s.glBase := glBase_congr ((hp.rd (by decide) 0).trans (hv.rd (by decide) 0))
  have hqs : (v.foldParamNow f).queuesOf f = s.queuesOf f :=
    queuesOf_congr (t := v.foldParamNow f) (s := s) (by simp only [State.zk4, hp.ident, hv.ident]) f
  have hld (a n : Nat) : (v.foldParamNow f).ld a n = s.ld a n := State.ld_congr fun _ _ _ => by rw [hp.store, hv.store]
  refine .of_go hexec ⟨?_, ?_, ?_, ?_, fun q hq => ?_, hnf.trans (hr.kinds.onlyFields _), ?_⟩
  · rw [hr.rd (by decide), hp.rd (by decide), hsent]
  · rw [hr.bit (by decide), hp.bit (by decide), hset]
  · rw [hr.rd (by decide), hp.rd (by decide), hv.rd (by decide)]
  · exact ((Tame.refl false (v.foldParamNow f)).sendRound.out).subset hparam
  · have hg := sendRound_grants hhold (hqs ▸ hq)
    rwa [hepoch, State.grantAt, hbase, hld] at hg
  · have hall : Frame (.regsMesh ([H.GL_FLAT_SENT, H.GL_COST_SENT, R.GL_DISP_SENT_SENT, H.GL_MISM] ++ ackFields)) s
        ((v.foldParamNow f).sendRound f) := (((Frame.refl s).andThen hv).andThen hp).andThen hr
    exact hall.onlyRegsMesh

end

/-! ## A period -/

theorem bit_clearElems_self {fs : List Fld} {g : Fld} (hm : g ∈ fs) (hfs : (fs.all fun f => f == g || f.apart g) = true) {k : Nat}
    (hk : k < g.cnt) (hz : g.resetAt k % 2 ^ g.wid = 0) (s : State) : (s.clearElems fs k).bit g k = false := by
  rw [State.bit, rd_clearElems_self hm hfs hk, hz]
  rfl

/-- The header of a bank that opens (R385). -/
def headerBytes (frame : Nat) : List Byte := toLeBytes 8 frame ++ List.replicate 0x178 0

/-- A bank that opens, but for its header in the Store (R384). -/
def State.bankOpened (s : State) (k p : Nat) : State :=
  ((((s.wr R.GL_BANK_STAT_STATE k 1).wr H.GL_PER0 k p).wr R.GL_BANK_FIRST_FIRST k s.frame).clearElems
    [R.GL_BANK_STAT_INEXACT, R.GL_BANK_STAT_LATE, R.GL_BANK_STAT_MERGED, R.GL_BANK_FRAMES_FRAMES, H.GL_INEX_R, H.GL_THR_SEEN] k)

/-- Its counts, and the queues that wait for it, start anew. -/
def State.bankCounted (s : State) (k : Nat) (waits : List Nat) : State :=
  waits.foldl (fun t q => t.wr H.GL_WAIT q (setBit (t.rd H.GL_WAIT q) k false))
    ((List.range 32).foldl (fun t d => t.clearElems [H.GL_UCNT, H.GL_UEND] (32 * k + d)) s)

theorem openBank_eq (s : State) (k p : Nat) :
    s.openBank k p = ((s.bankOpened k p).bankCounted k (s.touched H.GL_WAIT)).stBytes (s.headerAt k) (headerBytes s.frame) := rfl

theorem bankCounted_frame (s : State) (k : Nat) (w : List Nat) : Frame (.regs [H.GL_UCNT, H.GL_UEND, H.GL_WAIT]) s (s.bankCounted k w) :=
  ((Frame.refl s).foldl fun _ _ hu => hu.clearElems).foldl fun _ _ hu => hu.wr

theorem bankOpened_frame (s : State) (k p : Nat) : Frame (.regs [R.GL_BANK_STAT_STATE, H.GL_PER0, R.GL_BANK_FIRST_FIRST,
    R.GL_BANK_STAT_INEXACT, R.GL_BANK_STAT_LATE, R.GL_BANK_STAT_MERGED, R.GL_BANK_FRAMES_FRAMES, H.GL_INEX_R, H.GL_THR_SEEN]) s
    (s.bankOpened k p) := (Frame.refl s).wr.wr.wr.clearElems

/-- What is left of a bank that opens after its registers. -/
theorem openBank_rest (s : State) (k p : Nat) :
    Frame ⟨[.store], [H.GL_UCNT, H.GL_UEND, H.GL_WAIT, H.STORE_ECC]⟩ (s.bankOpened k p) (s.openBank k p) :=
  ((Frame.refl _).andThen (bankCounted_frame _ k (s.touched H.GL_WAIT))).stBytes

theorem length_headerBytes (x : Nat) : (headerBytes x).length = 0x180 := by
  rw [headerBytes, List.length_append, length_toLeBytes, List.length_replicate]

theorem headerBytes_split (x : Nat) :
    headerBytes x = (toLeBytes 8 x ++ List.replicate 8 0) ++ (toLeBytes 8 0 ++ List.replicate 0x168 0) := by
  have hz : (toLeBytes 8 0 : List Byte) = List.replicate 8 0 := by decide
  rw [headerBytes, hz, List.append_assoc, ← List.append_assoc (List.replicate 8 0), List.replicate_append_replicate,
    List.replicate_append_replicate]

theorem openBank_says {k : Nat} (hk : k < 4) (p : Nat) (s : State) :
    (s.openBank k p).bank k = 1 ∧ (∀ j, k ≠ j → (s.openBank k p).bank j = s.bank j)
      ∧ (s.openBank k p).rd R.GL_BANK_FIRST_FIRST k = s.frame ∧ (s.openBank k p).rd R.GL_BANK_FRAMES_FRAMES k = 0
      ∧ (s.openBank k p).bit R.GL_BANK_STAT_INEXACT k = false ∧ (s.openBank k p).bit R.GL_BANK_STAT_LATE k = false := by
  have hr := openBank_rest s k p
  have hclear {g : Fld} (hg : ([R.GL_BANK_STAT_INEXACT, R.GL_BANK_STAT_LATE, R.GL_BANK_STAT_MERGED, R.GL_BANK_FRAMES_FRAMES, H.GL_INEX_R,
      H.GL_THR_SEEN].all fun f => f.apart g) = true) (j : Nat) :
      (s.bankOpened k p).rd g j = (((s.wr R.GL_BANK_STAT_STATE k 1).wr H.GL_PER0 k p).wr R.GL_BANK_FIRST_FIRST k s.frame).rd g j :=
    (Frame.refl _ |>.clearElems : Frame (.regs [R.GL_BANK_STAT_INEXACT, R.GL_BANK_STAT_LATE, R.GL_BANK_STAT_MERGED,
      R.GL_BANK_FRAMES_FRAMES, H.GL_INEX_R, H.GL_THR_SEEN]) _ (s.bankOpened k p)).rd hg j
  refine ⟨?_, fun j hj => ?_, ?_, ?_, ?_, ?_⟩
  · rw [State.bank, hr.rd (by decide), hclear (by decide), State.rd_wr_apart _ (by decide), State.rd_wr_apart _ (by decide),
      State.rd_wr_self _ _ hk]
    rfl
  · rw [State.bank, hr.rd (by decide), hclear (by decide), State.rd_wr_apart _ (by decide), State.rd_wr_apart _ (by decide),
      State.rd_wr_idx _ hj (by decide), State.bank]
  · rw [hr.rd (by decide), hclear (by decide), State.rd_wr_self _ _ hk]
    exact Nat.mod_eq_of_lt (State.rd_lt _ _ _)
  · rw [hr.rd (by decide)]
    exact rd_clearElems_self (by decide) (by decide) hk _
  · rw [hr.bit (by decide)]
    exact bit_clearElems_self (by decide) (by decide) hk rfl _
  · rw [hr.bit (by decide)]
    exact bit_clearElems_self (by decide) (by decide) hk rfl _

theorem openBank_store (s : State) (k p : Nat) : SameStoreBut (s.headerAt k) 0x180 s (s.openBank k p) := by
  have hregs := ((Frame.refl s).andThen (bankOpened_frame s k p) |>.andThen (bankCounted_frame _ k (s.touched H.GL_WAIT)) :
    Frame (.regs [R.GL_BANK_STAT_STATE, H.GL_PER0, R.GL_BANK_FIRST_FIRST, R.GL_BANK_STAT_INEXACT, R.GL_BANK_STAT_LATE,
      R.GL_BANK_STAT_MERGED, R.GL_BANK_FRAMES_FRAMES, H.GL_INEX_R, H.GL_THR_SEEN, H.GL_UCNT, H.GL_UEND, H.GL_WAIT]) s _).store
  intro a ha
  rw [openBank_eq, State.sameStoreBut_stBytes _ _ _ a (by rwa [length_headerBytes]), hregs]

theorem openBank_header {k : Nat} (p : Nat) (hin : s.headerAt k + 0x180 ≤ storeSize) :
    (s.openBank k p).ld (s.headerAt k) 8 = s.frame ∧ (s.openBank k p).ld (s.headerAt k + 0x10) 8 = 0 := by
  rw [openBank_eq]
  generalize (s.bankOpened k p).bankCounted k (s.touched H.GL_WAIT) = u
  refine ⟨?_, ?_⟩
  · have := u.ld_stBytes_part (a := s.headerAt k) (n := 8) (v := s.frame) [] (List.replicate 0x178 0) (by simp; omega)
    exact this.trans (Nat.mod_eq_of_lt (State.rd_lt s R.FRAME_COUNT 0))
  · have := u.ld_stBytes_part (a := s.headerAt k) (n := 8) (v := 0) (toLeBytes 8 s.frame ++ List.replicate 8 0)
      (List.replicate 0x168 0) (by simp [length_toLeBytes]; omega)
    rw [← headerBytes_split, List.length_append, length_toLeBytes, List.length_replicate] at this
    exact this

/-- PERIOD goes to every dispatcher from the Gate holder (R381). -/
def State.sentPeriod (s u : State) : State :=
  if s.holder then u.sendOrd (.period (s.frame / 2048 % 256)) ((List.range (computeFolds s.zk4)).map Endpoint.dispatcher) else u

theorem sentPeriod_frame (s u : State) : Frame ⟨[.out, .mesh], []⟩ u (s.sentPeriod u) := .ite (Frame.refl u).sendOrd (.refl u)

theorem sentPeriod_says (u : State) (hh : s.holder = true) :
    .mesh ((List.range (computeFolds s.zk4)).map Endpoint.dispatcher) (.period (s.frame / 2048 % 256)) ∈ (s.sentPeriod u).out := by
  unfold State.sentPeriod
  rw [if_pos hh]
  refine mem_sendOrd _ _ ?_
  cases s.zk4 <;> decide

/-- The period that begins is noted (R384). -/
def State.periodNoted (s : State) : State := s.wr H.GL_PERIOD_DONE 0 (s.frame / 2048 + 1)

/-- The bank of the period that ends closes (R384). -/
def State.bankClosed (s : State) (o : Nat) : State := (s.wr R.GL_BANK_STAT_STATE o 2).wr H.GL_CLOSE_AGE o 0

/-- The banks rotate: a free one, where there is one, opens, and the open one closes or is merged (R384). -/
def State.rotated (s : State) (p : Nat) : Option Nat → Option Nat → State
  | some k, some o => (s.bankClosed o).openBank k p
  | some k, none => s.openBank k p
  | none, some o => s.inc R.GL_BANK_STAT_MERGED o 1
  | none, none => s

theorem exec_period (h0 : s.frame % 2048 = 0) (h1 : s.rd H.GL_PERIOD_DONE 0 ≠ s.frame / 2048 + 1) :
    exec .ledgerPeriodStart s = (s.sentPeriod (s.periodNoted.rotated (s.frame / 2048) (s.bankIn 0) (s.bankIn 1))).go := by
  have hexec : exec .ledgerPeriodStart s = (if s.frame % 2048 == 0 && s.rd H.GL_PERIOD_DONE 0 != s.frame / 2048 + 1 then
    s.sentPeriod (s.periodNoted.rotated (s.frame / 2048) (s.bankIn 0) (s.bankIn 1)) else s).go := rfl
  rw [hexec, if_pos (by rw [h0, bne_iff_ne.2 h1]; rfl)]

theorem exec_period_idle (h : s.frame % 2048 ≠ 0 ∨ s.rd H.GL_PERIOD_DONE 0 = s.frame / 2048 + 1) :
    exec .ledgerPeriodStart s = .next s := by
  refine congrArg State.go (if_neg ?_)
  simp only [Bool.and_eq_true, beq_iff_eq, bne_iff_ne, ne_eq]
  omega

theorem bankIn_says {st k : Nat} (h : s.bankIn st = some k) : k < 4 ∧ s.bank k = st := by
  have := List.find?_some h
  exact ⟨List.mem_range.1 (List.mem_of_find?_eq_some h), by simpa using this⟩

theorem headerAt_congr (h : t.glBase = s.glBase) (k : Nat) : t.headerAt k = s.headerAt k := by rw [State.headerAt, h, State.headerAt]

theorem period_opens {k : Nat} (h0 : s.frame % 2048 = 0) (h1 : s.rd H.GL_PERIOD_DONE 0 ≠ s.frame / 2048 + 1) (hk : s.bankIn 0 = some k)
    (ho : s.bankIn 1 = none) :
    Completes .ledgerPeriodStart s fun t =>
      t.bank k = 1 ∧ t.rd R.GL_BANK_FIRST_FIRST k = s.frame ∧ t.rd R.GL_BANK_FRAMES_FRAMES k = 0
        ∧ SameStoreBut (s.headerAt k) 0x180 s t := by
  obtain ⟨hk4, -⟩ := bankIn_says hk
  have hn : Frame (.regs [H.GL_PERIOD_DONE]) s s.periodNoted := (Frame.refl s).wr
  have hexec := exec_period h0 h1
  rw [hk, ho] at hexec
  change _ = (s.sentPeriod (s.periodNoted.openBank k (s.frame / 2048))).go at hexec
  generalize s.periodNoted = u at *
  obtain ⟨hopen, -, hfirst, hframes, -⟩ := openBank_says hk4 (s.frame / 2048) u
  have hstore := openBank_store u k (s.frame / 2048)
  generalize u.openBank k (s.frame / 2048) = v at *
  have hs := sentPeriod_frame s v
  refine .of_go hexec ⟨(hs.rd (by decide) k).trans hopen, ?_, (hs.rd (by decide) k).trans hframes, fun a ha => ?_⟩
  · rw [hs.rd (by decide), hfirst]
    exact hn.rd (by decide) 0
  · rw [hs.store, hstore a (by rwa [headerAt_congr (glBase_congr (hn.rd (by decide) 0))]), hn.store]

theorem period_opens_and_closes {k o : Nat} (h0 : s.frame % 2048 = 0) (h1 : s.rd H.GL_PERIOD_DONE 0 ≠ s.frame / 2048 + 1)
    (hk : s.bankIn 0 = some k) (ho : s.bankIn 1 = some o) (hin : s.glBase + 0x28A00 ≤ storeSize) :
    Completes .ledgerPeriodStart s fun t =>
      t.bank k = 1 ∧ t.bank o = 2 ∧ t.rd H.GL_CLOSE_AGE o = 0 ∧ t.rd R.GL_BANK_FIRST_FIRST k = s.frame
        ∧ t.rd R.GL_BANK_FRAMES_FRAMES k = 0 ∧ t.bit R.GL_BANK_STAT_INEXACT k = false ∧ t.bit R.GL_BANK_STAT_LATE k = false
        ∧ t.ld (s.headerAt k) 8 = s.frame ∧ t.ld (s.headerAt k + 0x10) 8 = 0 ∧ SameStoreBut (s.headerAt k) 0x180 s t
        ∧ (s.holder = true → .mesh ((List.range (computeFolds s.zk4)).map Endpoint.dispatcher) (.period (s.frame / 2048 % 256)) ∈ t.out) := by
  obtain ⟨hk4, hfree⟩ := bankIn_says hk
  obtain ⟨ho4, hopened⟩ := bankIn_says ho
  have hko : k ≠ o := by
    rintro rfl
    omega
  have hn : Frame (.regs [H.GL_PERIOD_DONE, R.GL_BANK_STAT_STATE, H.GL_CLOSE_AGE]) s (s.periodNoted.bankClosed o) := (Frame.refl s).wr.wr.wr
  have hexec := exec_period h0 h1
  rw [hk, ho] at hexec
  change _ = (s.sentPeriod ((s.periodNoted.bankClosed o).openBank k (s.frame / 2048))).go at hexec
  have hclose : (s.periodNoted.bankClosed o).bank o = 2 ∧ (s.periodNoted.bankClosed o).rd H.GL_CLOSE_AGE o = 0 :=
    ⟨(State.rd_wr_apart _ (by decide) _ _ _).trans (State.rd_wr_self _ _ ho4 _), State.rd_wr_self _ _ ho4 _⟩
  generalize s.periodNoted.bankClosed o = u at *
  have hbase : u.glBase = s.glBase := glBase_congr (hn.rd (by decide) 0)
  have hframe : u.frame = s.frame := hn.rd (by decide) 0
  obtain ⟨hopen, hother, hfirst, hframes, hinex, hlate⟩ := openBank_says hk4 (s.frame / 2048) u
  have hstore := openBank_store u k (s.frame / 2048)
  obtain ⟨hhead, hzero⟩ := openBank_header (s := u) (k := k) (s.frame / 2048) (by unfold State.headerAt; omega)
  have hage : (u.openBank k (s.frame / 2048)).rd H.GL_CLOSE_AGE o = u.rd H.GL_CLOSE_AGE o :=
    ((Frame.refl u).openBank : Frame Frame.openBankReach u _).rd (by decide) o
  rw [headerAt_congr hbase] at hhead hzero hstore
  generalize u.openBank k (s.frame / 2048) = v at *
  have hs := sentPeriod_frame s v
  have hld (a n : Nat) : (s.sentPeriod v).ld a n = v.ld a n := State.ld_congr fun _ _ _ => by rw [hs.store]
  refine .of_go hexec ⟨(hs.rd (by decide) k).trans hopen, ?_, ?_, ?_, (hs.rd (by decide) k).trans hframes, (hs.bit (by decide) k).trans hinex,
    (hs.bit (by decide) k).trans hlate, ?_, (hld _ _).trans hzero, fun a ha => ?_, sentPeriod_says v⟩
  · exact (hs.rd (by decide) o).trans ((hother o hko).trans hclose.1)
  · rw [hs.rd (by decide), hage, hclose.2]
  · rw [hs.rd (by decide), hfirst, hframe]
  · rw [hld, hhead, hframe]
  · rw [hs.store, hstore a ha, hn.store]

theorem period_merges {o : Nat} (h0 : s.frame % 2048 = 0) (h1 : s.rd H.GL_PERIOD_DONE 0 ≠ s.frame / 2048 + 1)
    (hk : s.bankIn 0 = none) (ho : s.bankIn 1 = some o) :
    Completes .ledgerPeriodStart s fun t =>
      t.rd R.GL_BANK_STAT_MERGED o = satAdd R.GL_BANK_STAT_MERGED.wid (s.rd R.GL_BANK_STAT_MERGED o) 1 ∧ t.bank o = 1
        ∧ SameStore s t := by
  obtain ⟨ho4, hopened⟩ := bankIn_says ho
  have hexec := exec_period h0 h1
  rw [hk, ho] at hexec
  change _ = (s.sentPeriod (s.periodNoted.inc R.GL_BANK_STAT_MERGED o 1)).go at hexec
  have hn : Frame (.regs [H.GL_PERIOD_DONE, R.GL_BANK_STAT_MERGED]) s (s.periodNoted.inc R.GL_BANK_STAT_MERGED o 1) := (Frame.refl s).wr.inc
  have hm : (s.periodNoted.inc R.GL_BANK_STAT_MERGED o 1).rd R.GL_BANK_STAT_MERGED o
      = satAdd R.GL_BANK_STAT_MERGED.wid (s.rd R.GL_BANK_STAT_MERGED o) 1 := by
    rw [State.inc, State.rd_wr_self _ _ ho4, satAdd_mod, State.periodNoted, State.rd_wr_apart _ (by decide)]
  generalize s.periodNoted.inc R.GL_BANK_STAT_MERGED o 1 = v at *
  have hs := sentPeriod_frame s v
  exact .of_go hexec ⟨(hs.rd (by decide) o).trans hm, (hs.rd (by decide) o).trans ((hn.rd (by decide) o).trans hopened),
    .of_store (hs.store.trans hn.store)⟩

theorem round_after_restart (hr : s.running = true) (h1 : s.hartUp 1 = true) (hshed : s.shedAt 4 = false) (hoff : s.roundsOff = false)
    (hrestart : s.bit H.GL_RESTARTED 0 = true) :
    Completes .grantRound s fun t =>
      t.rd R.GL_EPOCH_EPOCH 0 = (s.rd R.GL_EPOCH_EPOCH 0 + 1) % 2 ^ 32 ∧ t.bit H.GL_RESTARTED 0 = false := by
  have hdue : s.roundDue = true := by rw [State.roundDue, hrestart, Bool.or_true]
  obtain ⟨t, hexec, hep, -, -, -, hdone, -⟩ := round_steps hr h1 hshed hoff hdue
  exact ⟨t, hexec, hep, hdone⟩

/-- Settles O41, clause by clause: a round is published and sent fold by fold, an acknowledgement is kept, and the banks rotate. -/
theorem roundsAcksAndPeriods : Obligations.RoundsAcksAndPeriods := by
  unfold Obligations.RoundsAcksAndPeriods
  exact ⟨fun _ => round_steps, fun _ => round_publishes, fun _ _ _ => ack_applied_own, fun _ _ _ => ack_second_mismatch,
    fun _ _ _ => ack_idle, fun _ _ _ => period_opens_and_closes, fun _ _ => period_merges,
    fun _ => round_after_restart,
    fun _ => exec_grantRound_idle, fun _ _ _ => ack_applied_other, fun _ _ _ => ack_status2, fun _ _ _ => ack_first_mismatch,
    fun _ => exec_period_idle, fun _ _ h0 h1 hk ho _ => period_opens h0 h1 hk ho⟩

end Sys2Proof.Machine
end

section
/-! Usage enters the ledger's banks (R382–R384, R388, R554, R559). -/

set_option Elab.async false

namespace Sys2Proof.Machine

variable {s t u : State}

/-! ## Bits, and the registers that are not at reset -/

theorem setBit_eq_or (v i : Nat) : setBit v i true = v ||| 2 ^ i := by
  by_cases hv : v.testBit i = true
  · rw [setBit, if_pos hv, if_pos rfl]
    refine Nat.eq_of_testBit_eq fun j => ?_
    rw [Nat.testBit_or, Nat.testBit_two_pow]
    by_cases hj : i = j
    · rw [← hj, hv, Bool.true_or]
    · rw [decide_eq_false hj, Bool.or_false]
  · rw [setBit, if_neg hv, if_pos rfl]
    have hlow : v % 2 ^ (i + 1) = v % 2 ^ i := by
      have hbit : v / 2 ^ i % 2 = 0 := by
        rw [Nat.testBit_eq_decide_div_mod_eq, decide_eq_true_eq] at hv
        omega
      rw [Nat.mod_pow_succ, hbit, Nat.mul_zero, Nat.add_zero]
    have hsplit : 2 ^ (i + 1) * (v / 2 ^ (i + 1)) + v % 2 ^ i = v := by rw [← hlow, Nat.div_add_mod]
    have hlt : v % 2 ^ i < 2 ^ i := Nat.mod_lt _ (Nat.two_pow_pos i)
    generalize v % 2 ^ i = b at *
    generalize v / 2 ^ (i + 1) = a at *
    have h2 : 2 ^ i * 1 + b < 2 ^ (i + 1) := by
      rw [Nat.pow_succ]
      omega
    calc v + 2 ^ i = 2 ^ (i + 1) * a + (2 ^ i * 1 + b) := by omega
      _ = 2 ^ (i + 1) * a ||| (2 ^ i ||| b) := by
          rw [Nat.two_pow_add_eq_or_of_lt h2, Nat.two_pow_add_eq_or_of_lt hlt, Nat.mul_one]
      _ = (2 ^ (i + 1) * a ||| b) ||| 2 ^ i := by rw [Nat.or_comm (2 ^ i) b, Nat.or_assoc]
      _ = v ||| 2 ^ i := by
          rw [← Nat.two_pow_add_eq_or_of_lt (by rw [Nat.pow_succ]; omega), hsplit]

theorem bitOf_setBit {i w : Nat} (h : i < w) (v : Nat) : bitOf (setBit v i true % 2 ^ w) i = true := by
  rw [setBit_eq_or, bitOf, Nat.testBit_mod_two_pow, decide_eq_true h, Nat.testBit_or, Nat.testBit_two_pow_self, Bool.or_true]
  rfl

/-- A bit that is set stays set where another is set. -/
theorem bitOf_setBit_keeps {v i j w : Nat} (h : bitOf v j = true) (hj : j < w) : bitOf (setBit v i true % 2 ^ w) j = true := by
  rw [bitOf] at h
  rw [setBit_eq_or, bitOf, Nat.testBit_mod_two_pow, decide_eq_true hj, Nat.testBit_or, h, Bool.true_or]
  rfl

theorem mem_of_amGet {α : Type} {l : List (Nat × α)} {k : Nat} {v : α} (h : amGet k l = some v) : (k, v) ∈ l := by
  induction l with
  | nil => cases h
  | cons e l ih =>
    obtain ⟨k', v'⟩ := e
    rw [amGet] at h
    split_ifs at h with h1
    · cases h
      rw [h1]
      exact List.mem_cons_self
    · exact List.mem_cons_of_mem _ (ih h)

/-- An element that does not read as reset is listed. -/
theorem mem_touched {f : Fld} {i : Nat} (hs : 0 < f.stride) (h : s.rd f i ≠ f.resetAt i % 2 ^ f.wid) : i ∈ s.touched f := by
  unfold State.rd regsRd at h
  split at h
  case isFalse => exact absurd rfl h
  case isTrue hi =>
    obtain hn | ⟨v, hv⟩ := Option.eq_none_or_eq_some (amGet (f.key i) s.regs)
    · rw [hn] at h
      exact absurd rfl h
    · have hlt : f.stride * i < f.stride * f.cnt := Nat.mul_lt_mul_of_pos_left hi hs
      refine List.mem_filterMap.2 ⟨_, mem_of_amGet hv, ?_⟩
      have hkey : f.key i = f.base + f.stride * i := rfl
      have hk : f.key i - f.base = f.stride * i := Nat.add_sub_cancel_left _ _
      have hin : (decide (f.base ≤ f.key i) && decide (f.key i < f.base + f.stride * f.cnt)
          && decide ((f.key i - f.base) % f.stride = 0)) = true := by
        rw [hk, Nat.mul_mod_right, decide_eq_true (by omega), decide_eq_true (by omega)]
        rfl
      refine (if_pos hin).trans ?_
      rw [hk, Nat.mul_div_cancel_left i hs]

/-! ## The DMA port reads -/

theorem eccEvent_none (u : State) (k : Nat) {e : Nat} (h : e = 0) : u.eccEvent k e = u := by
  subst h
  rfl

/-- A clean word is read without an event. -/
theorem dmaRead_clean {a : Nat} (ha : 4 ∣ a) (h : s.rd H.STORE_ECC (a / 4) = 0) : s.dmaRead a 4 = s := by
  refine List.foldlRecOn (s.touched H.STORE_ECC) _ (motive := fun u : State => u = s) rfl fun u hu k _ => ?_
  rw [hu]
  by_cases hk : k = a / 4
  · subst hk
    unfold State.when
    split
    · exact eccEvent_none _ _ h
    · rfl
  · have hout : (decide (a / 4 ≤ k) && decide (4 * k < a + 4)) = false := by
      simp only [Bool.and_eq_false_iff, decide_eq_false_iff_not]
      omega
    rw [hout, State.when_false]

theorem eccEvent_records (u : State) (k : Nat) {e : Nat} (he : e % 4 = 2) : (u.eccEvent k e).bit R.STORE_UE_VALID 0 = true := by
  have hshape : u.eccEvent k e = ((((((u.wr H.STORE_ECC k e).inc R.STORE_STAT_UE 0 1).wr R.STORE_UE_VALID 0 1).wr R.STORE_UE_ADDR 0 k).wr
      H.STORE_FROW (k / 16384 % 16) (k / 64 + 1)).fault 0x0A (k / 16384 % 16) 1 (decide (4 ≤ e))) :=
    (if_neg (by omega)).trans (if_pos he)
  have hrest : Frame (.fault (R.STORE_UE_ADDR :: H.STORE_FROW :: Frame.faultReach.flds))
      (((u.wr H.STORE_ECC k e).inc R.STORE_STAT_UE 0 1).wr R.STORE_UE_VALID 0 1) (u.eccEvent k e) := by
    rw [hshape]
    exact (Frame.refl _).wr.wr.fault
  rw [hrest.bit (by decide +kernel)]
  exact State.bit_set _ (by decide) rfl

/-- What is recorded stays recorded. -/
theorem eccEvent_recorded {u : State} (hu : u.bit R.STORE_UE_VALID 0 = true) (k e : Nat) : (u.eccEvent k e).bit R.STORE_UE_VALID 0 = true := by
  by_cases h2 : e % 4 = 2
  · exact eccEvent_records u k h2
  · unfold State.eccEvent
    simp only [h2, if_false]
    split
    · have hc : Frame (.fault (H.STORE_ECC :: R.STORE_STAT_CE :: H.STORE_FROW :: Frame.faultReach.flds)) u
        ((((u.wr H.STORE_ECC k 0).inc R.STORE_STAT_CE 0 1).wr H.STORE_FROW (k / 16384 % 16) (k / 64 + 1)).fault 0x0A
          (k / 16384 % 16) 0 (decide (4 ≤ e))) := (Frame.refl u).wr.inc.wr.fault
      exact (hc.bit (by decide +kernel) 0).trans hu
    · exact hu

theorem when_recorded {u : State} (hu : u.bit R.STORE_UE_VALID 0 = true) (c : Bool) (k e : Nat) :
    (u.when c (fun v => v.eccEvent k e)).bit R.STORE_UE_VALID 0 = true := by
  cases c
  · exact hu
  · exact eccEvent_recorded hu k e

theorem dmaRead_recorded {a n : Nat} (h : s.bit R.STORE_UE_VALID 0 = true) : (s.dmaRead a n).bit R.STORE_UE_VALID 0 = true :=
  List.foldlRecOn (s.touched H.STORE_ECC) _ (motive := fun u : State => u.bit R.STORE_UE_VALID 0 = true) h fun _ hu _ _ =>
    when_recorded hu _ _ _

/-- An uncorrectable word that is read is recorded (R558). -/
theorem dmaRead_uncorrectable {a : Nat} (h : s.rd H.STORE_ECC (a / 4) % 4 = 2) : (s.dmaRead a 4).bit R.STORE_UE_VALID 0 = true := by
  refine foldl_at (c := a / 4) (mem_touched (by decide) fun h0 => ?_) (I := fun _ => True)
    (Q := fun u : State => u.bit R.STORE_UE_VALID 0 = true) (fun _ _ _ => trivial) (fun u _ => ?_)
    (fun u k _ hu => when_recorded hu _ _ _) s trivial
  · rw [h0] at h
    change 0 % 2 ^ 3 % 4 = 2 at h
    omega
  · have hin : (decide (a / 4 ≤ a / 4) && decide (4 * (a / 4) < a + 4)) = true := by
      simp only [Bool.and_eq_true, decide_eq_true_eq]
      omega
    rw [hin, State.when_true]
    exact eccEvent_records u _ h

/-! ## Places of a bank -/

theorem glBase_dvd (s : State) : 4 ∣ s.glBase := ⟨1024 * s.rd R.GL_BASE_BASE 0, by unfold State.glBase; omega⟩

theorem queueFold_lt {q : Nat} (hq : q < 4096) : s.queueFold q < computeFolds s.zk4 := by
  refine Nat.div_lt_of_lt_mul ?_
  rwa [queuesPer_mul]

theorem foldRail_lt {z : Bool} {f : Nat} (h : f < computeFolds z) : foldRail z f < 14 := by
  have hle := computeFolds_le z
  unfold foldRail
  rw [if_pos h]
  omega

theorem usageBank_lt {p k : Nat} {late : Bool} (h : s.usageBank p = some (k, late)) : k < 4 := by
  unfold State.usageBank at h
  split at h
  case h_1 j hj =>
    cases h
    exact List.mem_range.1 (List.mem_of_find?_eq_some hj)
  case h_2 =>
    split at h
    case h_1 j hj =>
      cases h
      exact (bankIn_says hj).1
    case h_2 => cases h

/-! ## A message's units -/

/-- The total of a queue's fold in a bank (R384). -/
def State.foldTotalAt (s : State) (k q : Nat) : Nat := s.headerAt k + 0x80 + 4 * s.queueFold q

/-- The units enter the queue's word and the fold's total, up to their ends (R382, R384). -/
def State.unitsAdded (s u : State) (k q n : Nat) : State :=
  (u.st (s.unitsAt k q) 4 (min (s.ld (s.unitsAt k q) 4 + n) (2 ^ 32 - 1))).st (s.foldTotalAt k q) 4
    (min (s.ld (s.foldTotalAt k q) 4 + n) (2 ^ 32 - 1))

/-- A message's words in a bank: added, or the bank INEXACT where one is lost (R382, R388, R559). -/
def State.usageTaken (s : State) (m : UsageMsg) (k : Nat) : State :=
  let a := s.unitsAt k m.queue
  let ft := s.foldTotalAt k m.queue
  let r := foldRail s.zk4 (s.queueFold m.queue)
  let bad := s.poisoned a || s.poisoned ft
  let s0 := ((s.dmaAdd a).dmaRead a 4).dmaRead ft 4
  (if bad then s0.inexact k r else s.unitsAdded s0 k m.queue m.units).when (!bad && decide (2 ^ 32 ≤ s.ld a 4 + m.units))
    (fun t => t.inexact k r)

/-- WAITING is kept for the bank (R357). -/
def State.usageWaits (s : State) (m : UsageMsg) (k : Nat) : State :=
  (s.usageTaken m k).when m.waiting (fun t => t.wr H.GL_WAIT m.queue (setBit (s.rd H.GL_WAIT m.queue) k true))

/-- The message is counted, or marks its bank late (R384, R388). -/
def State.usageEntered (s : State) (m : UsageMsg) (k : Nat) (late : Bool) : State :=
  let t := s.usageWaits m k
  if late then (t.wr R.GL_BANK_STAT_LATE k 1).st (s.headerAt k + 12) 4 (t.ld (s.headerAt k + 12) 4 ||| 2)
  else t.inc H.GL_UCNT (32 * k + s.queueFold m.queue) 1

/-- The message enters its bank, where it has one. -/
def State.usageTo (s : State) (m : UsageMsg) : Option (Nat × Bool) → State
  | none => s
  | some (k, late) => s.usageEntered m k late

section
variable {m : UsageMsg} {k : Nat}

theorem exec_usage (s : State) (m : UsageMsg) :
    exec (.usage m) s = (if 4096 ≤ m.queue ∨ 64 ≤ s.dmaQueued m.held then s else s.usageTo m (s.usageBank m.period)).go := rfl

theorem exec_usage_enters {late : Bool} (hq : m.queue < 4096) (hd : s.dmaQueued m.held < 64) (hb : s.usageBank m.period = some (k, late)) :
    exec (.usage m) s = (s.usageEntered m k late).go := by
  rw [exec_usage, if_neg (by omega), hb]
  rfl

theorem usage_idle (h : 4096 ≤ m.queue ∨ 64 ≤ s.dmaQueued m.held ∨ s.usageBank m.period = none) : exec (.usage m) s = .next s := by
  rw [exec_usage]
  by_cases hc : 4096 ≤ m.queue ∨ 64 ≤ s.dmaQueued m.held
  · rw [if_pos hc]
    rfl
  · have hnone : s.usageBank m.period = none := (h.resolve_left fun h1 => hc (.inl h1)).resolve_left fun h2 => hc (.inr h2)
    rw [if_neg hc, hnone]
    rfl

theorem dmaAdd_frame (s : State) (a : Nat) : Frame (.regs [H.STORE_DMAQ, H.STORE_BUSYW]) s (s.dmaAdd a) := (Frame.refl s).dmaAdd

theorem inexact_says {r : Nat} (hk : k < 4) (hr : r < 14) (u : State) : (u.inexact k r).bit R.GL_BANK_STAT_INEXACT k = true
    ∧ bitOf ((u.inexact k r).rd H.GL_INEX_R k) r = true := by
  have hst : Frame ⟨[.store], [H.STORE_ECC]⟩ ((u.wr R.GL_BANK_STAT_INEXACT k 1).wr H.GL_INEX_R k (setBit (u.rd H.GL_INEX_R k) r true))
    (u.inexact k r) := (Frame.refl _).st
  refine ⟨?_, ?_⟩
  · rw [hst.bit (by decide), State.bit_wr_apart _ (by decide)]
    exact State.bit_set _ hk rfl
  · rw [hst.rd (by decide), State.rd_wr_self _ _ hk]
    exact bitOf_setBit hr _

theorem inexact_keeps {r j : Nat} (hk : k < 4) (hj : j < 14) {u : State} (h : bitOf (u.rd H.GL_INEX_R k) j = true) :
    (u.inexact k r).bit R.GL_BANK_STAT_INEXACT k = true ∧ bitOf ((u.inexact k r).rd H.GL_INEX_R k) j = true := by
  have hst : Frame ⟨[.store], [H.STORE_ECC]⟩ ((u.wr R.GL_BANK_STAT_INEXACT k 1).wr H.GL_INEX_R k (setBit (u.rd H.GL_INEX_R k) r true))
    (u.inexact k r) := (Frame.refl _).st
  refine ⟨?_, ?_⟩
  · rw [hst.bit (by decide), State.bit_wr_apart _ (by decide)]
    exact State.bit_set _ hk rfl
  · rw [hst.rd (by decide), State.rd_wr_self _ _ hk]
    exact bitOf_setBit_keeps h hj

theorem inexact_flag {r : Nat} (u : State) (hin : u.headerAt k + 16 ≤ storeSize) : bitOf ((u.inexact k r).ld (u.headerAt k + 12) 4) 0 = true := by
  have hld : (u.inexact k r).ld (u.headerAt k + 12) 4 = (u.ld (u.headerAt k + 12) 4 ||| 1) % 256 ^ 4 := State.ld_st_same _ (by omega) _
  rw [hld, bitOf, show 256 ^ 4 = 2 ^ 32 by rfl, Nat.testBit_mod_two_pow, Nat.testBit_or]
  simp

/-- A clean word's message is read without an event. -/
theorem usageTaken_clean (h1 : s.rd H.STORE_ECC (s.unitsAt k m.queue / 4) = 0) (h2 : s.rd H.STORE_ECC (s.foldTotalAt k m.queue / 4) = 0) :
    s.usageTaken m k = (s.unitsAdded (s.dmaAdd (s.unitsAt k m.queue)) k m.queue m.units).when
      (decide (2 ^ 32 ≤ s.ld (s.unitsAt k m.queue) 4 + m.units)) (fun t => t.inexact k (foldRail s.zk4 (s.queueFold m.queue))) := by
  have hf := dmaAdd_frame s (s.unitsAt k m.queue)
  have hbase := glBase_dvd s
  have hr1 : (s.dmaAdd (s.unitsAt k m.queue)).dmaRead (s.unitsAt k m.queue) 4 = s.dmaAdd (s.unitsAt k m.queue) :=
    dmaRead_clean (by unfold State.unitsAt; omega) ((hf.rd (by decide) _).trans h1)
  have hr2 : (s.dmaAdd (s.unitsAt k m.queue)).dmaRead (s.foldTotalAt k m.queue) 4 = s.dmaAdd (s.unitsAt k m.queue) :=
    dmaRead_clean (by unfold State.foldTotalAt State.headerAt; omega) ((hf.rd (by decide) _).trans h2)
  have hp1 : s.poisoned (s.unitsAt k m.queue) = false := by rw [State.poisoned, h1]; rfl
  have hp2 : s.poisoned (s.foldTotalAt k m.queue) = false := by rw [State.poisoned, h2]; rfl
  unfold State.usageTaken
  simp only [hp1, hp2, hr1, hr2, Bool.or_self, Bool.not_false, Bool.true_and, Bool.false_eq_true, if_false]

/-- What the units leave in the Store. -/
theorem unitsAdded_says (hq : m.queue < 4096) (hk : k < 4) (hin : s.glBase + 0x28A00 ≤ storeSize) (hu : u.store = s.store) :
    (s.unitsAdded u k m.queue m.units).ld (s.unitsAt k m.queue) 4 = min (s.ld (s.unitsAt k m.queue) 4 + m.units) (2 ^ 32 - 1)
      ∧ (s.unitsAdded u k m.queue m.units).ld (s.foldTotalAt k m.queue) 4 = min (s.ld (s.foldTotalAt k m.queue) 4 + m.units) (2 ^ 32 - 1)
      ∧ (∀ b, b < s.unitsAt k m.queue ∨ s.unitsAt k m.queue + 4 ≤ b → b < s.foldTotalAt k m.queue ∨ s.foldTotalAt k m.queue + 4 ≤ b →
          memGet (s.unitsAdded u k m.queue m.units).store b = memGet s.store b) := by
  have hf : s.queueFold m.queue < 32 := (queueFold_lt hq).trans_le (computeFolds_le _)
  have hapart : s.unitsAt k m.queue + 4 ≤ s.foldTotalAt k m.queue := by unfold State.unitsAt State.foldTotalAt State.headerAt; omega
  have hend : s.foldTotalAt k m.queue + 4 ≤ storeSize := by unfold State.foldTotalAt State.headerAt; omega
  have hcut (x : Nat) : min x (2 ^ 32 - 1) % 256 ^ 4 = min x (2 ^ 32 - 1) := Nat.mod_eq_of_lt (by norm_num)
  unfold State.unitsAdded
  refine ⟨?_, ?_, fun b h1 h2 => ?_⟩
  · rw [State.ld_st_apart _ (.inl hapart), State.ld_st_same _ (by omega), hcut]
  · rw [State.ld_st_same _ hend, hcut]
  · rw [State.sameStoreBut_st _ _ _ _ b h2, State.sameStoreBut_st _ _ _ _ b h1, hu]

theorem unitsAdded_frame (s u : State) (k q n : Nat) : Frame ⟨[.store], [H.STORE_ECC]⟩ u (s.unitsAdded u k q n) := (Frame.refl u).st.st

theorem usageWaits_frame (s : State) (m : UsageMsg) (k : Nat) : Frame (.regs [H.GL_WAIT]) (s.usageTaken m k) (s.usageWaits m k) :=
  (Frame.refl _).when fun _ hu => hu.wr

theorem usageWaits_bit (hq : m.queue < 4096) (hk : k < 4) (hw : m.waiting = true) : bitOf ((s.usageWaits m k).rd H.GL_WAIT m.queue) k = true := by
  unfold State.usageWaits
  rw [hw, State.when_true, State.rd_wr_self _ _ hq]
  exact bitOf_setBit hk _

/-- What is left of a message in the bank that its period names. -/
theorem usageEntered_inTime (s : State) (m : UsageMsg) (k : Nat) :
    s.usageEntered m k false = (s.usageWaits m k).inc H.GL_UCNT (32 * k + s.queueFold m.queue) 1 := rfl

theorem usageEntered_late (s : State) (m : UsageMsg) (k : Nat) : s.usageEntered m k true
    = ((s.usageWaits m k).wr R.GL_BANK_STAT_LATE k 1).st (s.headerAt k + 12) 4 ((s.usageWaits m k).ld (s.headerAt k + 12) 4 ||| 2) := rfl

theorem Frame.onlyStore {l : List Fld} (h : Frame ⟨[.store], l⟩ s t) : t = { s with regs := t.regs, store := t.store } := by
  have hp (p : Part) (hp : (⟨[.store], l⟩ : Reach).hasPart p = false) : p.Same s t := h.parts p hp
  have h1 := hp .ident rfl
  have h3 := hp .map rfl
  have h4 := hp .staged rfl
  have h5 := hp .mesh rfl
  have h6 := hp .sched rfl
  have h7 := hp .sweeps rfl
  have h8 := hp .fifo rfl
  have h9 := hp .fltQueue rfl
  have h10 := hp .tallyQueue rfl
  have h11 := hp .tallyStage rfl
  have h12 := hp .mirror rfl
  have h13 := hp .flush rfl
  have h14 := hp .shadows rfl
  have h15 := hp .out rfl
  have h16 := hp .resp rfl
  have h17 := hp .free rfl
  have h18 := hp .pending rfl
  cases s
  cases t
  simp_all [Part.Same]

theorem usage_enters (a f : Nat) (hq : m.queue < 4096) (hd : s.dmaQueued m.held < 64) (hb : s.usageBank m.period = some (k, false))
    (ha : a = s.unitsAt k m.queue) (hf : f = s.headerAt k + 0x80 + 4 * s.queueFold m.queue) (hin : s.glBase + 0x28A00 ≤ storeSize)
    (he1 : s.rd H.STORE_ECC (a / 4) = 0) (he2 : s.rd H.STORE_ECC (f / 4) = 0) (hv : s.ld a 4 + m.units < 2 ^ 32) :
    Completes (.usage m) s fun t =>
      t.ld a 4 = s.ld a 4 + m.units ∧ t.ld f 4 = min (s.ld f 4 + m.units) (2 ^ 32 - 1)
        ∧ (∀ b, b < a ∨ a + 4 ≤ b → b < f ∨ f + 4 ≤ b → memGet t.store b = memGet s.store b)
        ∧ t.rd H.GL_UCNT (32 * k + s.queueFold m.queue) = satAdd H.GL_UCNT.wid (s.rd H.GL_UCNT (32 * k + s.queueFold m.queue)) 1
        ∧ (m.waiting = true → bitOf (t.rd H.GL_WAIT m.queue) k = true)
        ∧ OnlyKinds [H.GL_UCNT, H.GL_WAIT, H.STORE_ECC, H.STORE_BUSYW, H.STORE_DMAQ] s t ∧ t = { s with regs := t.regs, store := t.store } := by
  subst ha
  obtain rfl : f = s.foldTotalAt k m.queue := hf
  have hk := usageBank_lt hb
  have hdma := dmaAdd_frame s (s.unitsAt k m.queue)
  obtain ⟨hunits, htotal, hrest⟩ := unitsAdded_says hq hk hin hdma.store
  have hadd := unitsAdded_frame s (s.dmaAdd (s.unitsAt k m.queue)) k m.queue m.units
  have hw := usageWaits_frame s m k
  have hwait := usageWaits_bit (s := s) hq hk
  rw [usageTaken_clean he1 he2, decide_eq_false (by omega), State.when_false] at hw
  have hexec := exec_usage_enters hq hd hb
  rw [usageEntered_inTime] at hexec
  generalize s.unitsAdded (s.dmaAdd (s.unitsAt k m.queue)) k m.queue m.units = v at *
  generalize s.usageWaits m k = w at *
  have hstore : (w.inc H.GL_UCNT (32 * k + s.queueFold m.queue) 1).store = v.store := hw.store
  have hld (a n : Nat) : (w.inc H.GL_UCNT (32 * k + s.queueFold m.queue) 1).ld a n = v.ld a n := State.ld_congr fun _ _ _ => by rw [hstore]
  have hall : Frame ⟨[.store], [H.GL_UCNT, H.GL_WAIT, H.STORE_ECC, H.STORE_BUSYW, H.STORE_DMAQ]⟩ s
      (w.inc H.GL_UCNT (32 * k + s.queueFold m.queue) 1) := ((((Frame.refl s).andThen hdma).andThen hadd).andThen hw).inc
  refine .of_go hexec ⟨?_, (hld _ _).trans htotal, fun b h1 h2 => by rw [hstore, hrest b h1 h2], ?_, fun h => ?_, hall.kinds, hall.onlyStore⟩
  · rw [hld, hunits]
    omega
  · have hfold : s.queueFold m.queue < 32 := (queueFold_lt hq).trans_le (computeFolds_le _)
    have hcount : 32 * k + s.queueFold m.queue < H.GL_UCNT.cnt := by
      change _ < 128
      omega
    rw [State.inc, State.rd_wr_self _ _ hcount, satAdd_mod, hw.rd (by decide), hadd.rd (by decide), hdma.rd (by decide)]
  · rw [State.rd_inc_apart _ (by decide)]
    exact hwait h

theorem usage_late (a : Nat) (hq : m.queue < 4096) (hd : s.dmaQueued m.held < 64) (hb : s.usageBank m.period = some (k, true))
    (ha : a = s.unitsAt k m.queue) (hin : s.glBase + 0x28A00 ≤ storeSize) (he1 : s.rd H.STORE_ECC (a / 4) = 0)
    (he2 : s.rd H.STORE_ECC ((s.headerAt k + 0x80 + 4 * s.queueFold m.queue) / 4) = 0) (hv : s.ld a 4 + m.units < 2 ^ 32) :
    Completes (.usage m) s fun t =>
      t.ld a 4 = s.ld a 4 + m.units ∧ t.bit R.GL_BANK_STAT_LATE k = true ∧ bitOf (t.ld (s.headerAt k + 12) 4) 1 = true
        ∧ (m.waiting = true → bitOf (t.rd H.GL_WAIT m.queue) k = true) := by
  subst ha
  have hk := usageBank_lt hb
  have hdma := dmaAdd_frame s (s.unitsAt k m.queue)
  obtain ⟨hunits, -, -⟩ := unitsAdded_says hq hk hin hdma.store
  have hw := usageWaits_frame s m k
  have hwait := usageWaits_bit (s := s) hq hk
  rw [usageTaken_clean he1 he2, decide_eq_false (by omega), State.when_false] at hw
  have hexec := exec_usage_enters hq hd hb
  rw [usageEntered_late] at hexec
  generalize s.unitsAdded (s.dmaAdd (s.unitsAt k m.queue)) k m.queue m.units = v at *
  generalize s.usageWaits m k = w at *
  have hst : Frame ⟨[.store], [H.STORE_ECC]⟩ (w.wr R.GL_BANK_STAT_LATE k 1) ((w.wr R.GL_BANK_STAT_LATE k 1).st (s.headerAt k + 12) 4
      (w.ld (s.headerAt k + 12) 4 ||| 2)) := (Frame.refl _).st
  refine .of_go hexec ⟨?_, ?_, ?_, fun h => ?_⟩
  · rw [State.ld_st_apart _ (by unfold State.unitsAt State.headerAt; omega)]
    have hld : (w.wr R.GL_BANK_STAT_LATE k 1).ld (s.unitsAt k m.queue) 4 = v.ld (s.unitsAt k m.queue) 4 :=
      State.ld_congr fun b _ _ => congrArg (fun x => memGet x b) hw.store
    rw [hld, hunits]
    omega
  · rw [hst.bit (by decide)]
    exact State.bit_set _ hk rfl
  · rw [State.ld_st_same _ (by unfold State.headerAt; omega), bitOf, show 256 ^ 4 = 2 ^ 32 by rfl, Nat.testBit_mod_two_pow, Nat.testBit_or,
      show Nat.testBit 2 1 = true by decide, Bool.or_true]
    rfl
  · rw [hst.rd (by decide), State.rd_wr_apart _ (by decide)]
    exact hwait h

theorem usage_overflows (a : Nat) (hq : m.queue < 4096) (hd : s.dmaQueued m.held < 64) (hb : s.usageBank m.period = some (k, false))
    (ha : a = s.unitsAt k m.queue) (hin : s.glBase + 0x28A00 ≤ storeSize) (he1 : s.rd H.STORE_ECC (a / 4) = 0)
    (he2 : s.rd H.STORE_ECC ((s.headerAt k + 0x80 + 4 * s.queueFold m.queue) / 4) = 0) (hv : 2 ^ 32 ≤ s.ld a 4 + m.units) :
    Completes (.usage m) s fun t =>
      t.ld a 4 = 2 ^ 32 - 1 ∧ t.bit R.GL_BANK_STAT_INEXACT k = true
        ∧ bitOf (t.rd H.GL_INEX_R k) (foldRail s.zk4 (s.queueFold m.queue)) = true ∧ bitOf (t.ld (s.headerAt k + 12) 4) 0 = true := by
  subst ha
  have hk := usageBank_lt hb
  have hdma := dmaAdd_frame s (s.unitsAt k m.queue)
  have hadd := unitsAdded_frame s (s.dmaAdd (s.unitsAt k m.queue)) k m.queue m.units
  obtain ⟨hunits, -, -⟩ := unitsAdded_says hq hk hin hdma.store
  have hw := usageWaits_frame s m k
  rw [usageTaken_clean he1 he2, decide_eq_true hv, State.when_true] at hw
  have hexec := exec_usage_enters hq hd hb
  rw [usageEntered_inTime] at hexec
  generalize s.unitsAdded (s.dmaAdd (s.unitsAt k m.queue)) k m.queue m.units = v at *
  generalize s.usageWaits m k = w at *
  obtain ⟨hinex, hrail⟩ := inexact_says hk (foldRail_lt (queueFold_lt hq)) v
  have hhead : v.headerAt k = s.headerAt k := headerAt_congr (glBase_congr ((hadd.rd (by decide) 0).trans (hdma.rd (by decide) 0))) k
  have hflag := inexact_flag (k := k) (r := foldRail s.zk4 (s.queueFold m.queue)) v (by rw [hhead]; unfold State.headerAt; omega)
  have hunits' : (v.inexact k (foldRail s.zk4 (s.queueFold m.queue))).ld (s.unitsAt k m.queue) 4 = v.ld (s.unitsAt k m.queue) 4 :=
    State.ld_st_apart _ (by rw [hhead]; unfold State.unitsAt State.headerAt; omega) _
  rw [hhead] at hflag
  generalize v.inexact k (foldRail s.zk4 (s.queueFold m.queue)) = x at *
  have hld (a n : Nat) : (w.inc H.GL_UCNT (32 * k + s.queueFold m.queue) 1).ld a n = x.ld a n :=
    State.ld_congr fun b _ _ => congrArg (fun y => memGet y b) hw.store
  refine .of_go hexec ⟨?_, ?_, ?_, by rw [hld, hflag]⟩
  · rw [hld, hunits', hunits]
    omega
  · rw [State.bit_inc_apart _ (by decide), hw.bit (by decide), hinex]
  · rw [State.rd_inc_apart _ (by decide), hw.rd (by decide), hrail]

theorem usage_uncorrectable (a : Nat) (hq : m.queue < 4096) (hd : s.dmaQueued m.held < 64) (hb : s.usageBank m.period = some (k, false))
    (ha : a = s.unitsAt k m.queue) (he : s.rd H.STORE_ECC (a / 4) % 4 = 2) :
    Completes (.usage m) s fun t =>
      t.bit R.GL_BANK_STAT_INEXACT k = true ∧ bitOf (t.rd H.GL_INEX_R k) (foldRail s.zk4 (s.queueFold m.queue)) = true
        ∧ t.bit R.STORE_UE_VALID 0 = true := by
  subst ha
  have hk := usageBank_lt hb
  have hdma := dmaAdd_frame s (s.unitsAt k m.queue)
  have hw := usageWaits_frame s m k
  have htaken : s.usageTaken m k = (((s.dmaAdd (s.unitsAt k m.queue)).dmaRead (s.unitsAt k m.queue) 4).dmaRead
      (s.foldTotalAt k m.queue) 4).inexact k (foldRail s.zk4 (s.queueFold m.queue)) := by
    have hp : s.poisoned (s.unitsAt k m.queue) = true := beq_iff_eq.2 he
    unfold State.usageTaken
    simp only [hp, Bool.true_or, Bool.not_true, Bool.false_and, if_true, State.when_false]
  rw [htaken] at hw
  have hread := dmaRead_uncorrectable (s := s.dmaAdd (s.unitsAt k m.queue)) (a := s.unitsAt k m.queue) (by rwa [hdma.rd (by decide)])
  have hexec := exec_usage_enters hq hd hb
  rw [usageEntered_inTime] at hexec
  generalize s.usageWaits m k = w at *
  generalize (s.dmaAdd (s.unitsAt k m.queue)).dmaRead (s.unitsAt k m.queue) 4 = u at *
  have hsecond : (u.dmaRead (s.foldTotalAt k m.queue) 4).bit R.STORE_UE_VALID 0 = true := dmaRead_recorded hread
  generalize u.dmaRead (s.foldTotalAt k m.queue) 4 = v at *
  obtain ⟨hinex, hrail⟩ := inexact_says hk (foldRail_lt (queueFold_lt hq)) v
  have hi : Frame Frame.inexactReach v (v.inexact k (foldRail s.zk4 (s.queueFold m.queue))) := (Frame.refl v).inexact
  refine .of_go hexec ⟨?_, ?_, ?_⟩
  · rw [State.bit_inc_apart _ (by decide), hw.bit (by decide), hinex]
  · rw [State.rd_inc_apart _ (by decide), hw.rd (by decide), hrail]
  · rw [State.bit_inc_apart _ (by decide), hw.bit (by decide), hi.bit (by decide), hsecond]

end

/-! ## USAGE_END, the wait of a closed bank, and RELEASE -/

/-- USAGE_END counts in the bank that its period names (R382). -/
def State.endedTo (s : State) (f n : Nat) : Option (Nat × Bool) → State
  | some (k, false) => s.inc H.GL_UEND (32 * k + f) n
  | _ => s

theorem exec_usageEnd (s : State) (f p n : Nat) :
    exec (.usageEnd f p n) s = (if computeFolds s.zk4 ≤ f then s else s.endedTo f n (s.usageBank p)).go := rfl

section
variable {f p k n : Nat}

theorem usageEnd_counts (hf : f < computeFolds s.zk4) (hb : s.usageBank p = some (k, false)) :
    Completes (.usageEnd f p n) s fun t =>
      t.rd H.GL_UEND (32 * k + f) = satAdd H.GL_UEND.wid (s.rd H.GL_UEND (32 * k + f)) n
        ∧ OnlyFields [(H.GL_UEND, 32 * k + f)] s t ∧ OnlyRegs s t := by
  have hk := usageBank_lt hb
  have h32 := hf.trans_le (computeFolds_le _)
  have hexec := exec_usageEnd s f p n
  rw [if_neg (by omega), hb] at hexec
  have hcount : 32 * k + f < H.GL_UEND.cnt := by
    change _ < 128
    omega
  refine .of_go (t := s.inc H.GL_UEND (32 * k + f) n) hexec ⟨?_, by simp, ((Frame.refl s).inc : Frame (.regs [H.GL_UEND]) s _).onlyRegs⟩
  rw [State.inc, State.rd_wr_self _ _ hcount, satAdd_mod]

theorem usageEnd_idle (h : computeFolds s.zk4 ≤ f ∨ s.usageBank p = none ∨ (∃ k < 4, s.usageBank p = some (k, true))) :
    exec (.usageEnd f p n) s = .next s := by
  rw [exec_usageEnd]
  by_cases hf : computeFolds s.zk4 ≤ f
  · rw [if_pos hf]
    rfl
  · rw [if_neg hf]
    obtain hb | ⟨k, -, hb⟩ := h.resolve_left hf
    · rw [hb]
      rfl
    · rw [hb]
      rfl

/-- The folds whose counts differ. -/
def State.countsDiffer (s : State) (k : Nat) : List Nat :=
  (List.range (computeFolds s.zk4)).filter (fun d => s.rd H.GL_UCNT (32 * k + d) != s.rd H.GL_UEND (32 * k + d))

theorem exec_bankReady (s : State) (k : Nat) :
    exec (.bankReady k) s = (if decide (k < 4) && s.bank k == 2 && decide (64 ≤ s.rd H.GL_CLOSE_AGE k) then
      (s.countsDiffer k).foldl (fun t d => t.inexact k (foldRail s.zk4 d)) (s.wr R.GL_BANK_STAT_STATE k 3) else s).go := rfl

theorem exec_bankReady_due (hk : k < 4) (hb : s.bank k = 2) (hage : 64 ≤ s.rd H.GL_CLOSE_AGE k) : exec (.bankReady k) s
    = ((s.countsDiffer k).foldl (fun t d => t.inexact k (foldRail s.zk4 d)) (s.wr R.GL_BANK_STAT_STATE k 3)).go := by
  rw [exec_bankReady, if_pos (by rw [decide_eq_true hk, decide_eq_true hage, hb]; rfl)]

theorem bankReady_exact (hk : k < 4) (hb : s.bank k = 2) (hage : 64 ≤ s.rd H.GL_CLOSE_AGE k)
    (heq : ∀ d < computeFolds s.zk4, s.rd H.GL_UCNT (32 * k + d) = s.rd H.GL_UEND (32 * k + d)) :
    Completes (.bankReady k) s fun t => t.bank k = 3 ∧ OnlyFields [(R.GL_BANK_STAT_STATE, k)] s t ∧ OnlyRegs s t := by
  have hnil : s.countsDiffer k = [] := List.filter_eq_nil_iff.2 fun d hd => by simp [heq d (List.mem_range.1 hd)]
  have hexec := exec_bankReady_due hk hb hage
  rw [hnil] at hexec
  exact .of_go (t := s.wr R.GL_BANK_STAT_STATE k 3) hexec
    ⟨State.rd_wr_self _ _ hk _, by simp, ((Frame.refl s).wr : Frame (.regs [R.GL_BANK_STAT_STATE]) s _).onlyRegs⟩

theorem bankReady_inexact (d : Nat) (hk : k < 4) (hb : s.bank k = 2) (hage : 64 ≤ s.rd H.GL_CLOSE_AGE k) (hd : d < computeFolds s.zk4)
    (hne : s.rd H.GL_UCNT (32 * k + d) ≠ s.rd H.GL_UEND (32 * k + d)) :
    Completes (.bankReady k) s fun t =>
      t.bank k = 3 ∧ t.bit R.GL_BANK_STAT_INEXACT k = true ∧ bitOf (t.rd H.GL_INEX_R k) (foldRail s.zk4 d) = true
        ∧ SameStoreBut (s.headerAt k + 12) 4 s t := by
  have hmem : d ∈ s.countsDiffer k := List.mem_filter.2 ⟨List.mem_range.2 hd, bne_iff_ne.2 hne⟩
  have hframe : Frame Frame.inexactReach (s.wr R.GL_BANK_STAT_STATE k 3)
      ((s.countsDiffer k).foldl (fun t d => t.inexact k (foldRail s.zk4 d)) (s.wr R.GL_BANK_STAT_STATE k 3)) :=
    (Frame.refl _).foldl fun _ _ hu => hu.inexact
  have hw : Frame (.regs [R.GL_BANK_STAT_STATE]) s (s.wr R.GL_BANK_STAT_STATE k 3) := (Frame.refl s).wr
  have hmark := foldl_at (g := fun (t : State) d => t.inexact k (foldRail s.zk4 d)) hmem (I := fun _ => True)
    (Q := fun u : State => u.bit R.GL_BANK_STAT_INEXACT k = true ∧ bitOf (u.rd H.GL_INEX_R k) (foldRail s.zk4 d) = true)
    (fun _ _ _ => trivial) (fun u _ => inexact_says hk (foldRail_lt hd) u) (fun u x _ hu => inexact_keeps hk (foldRail_lt hd) hu.2)
    (s.wr R.GL_BANK_STAT_STATE k 3) trivial
  have hstore : SameStoreBut (s.headerAt k + 12) 4 (s.wr R.GL_BANK_STAT_STATE k 3)
      ((s.countsDiffer k).foldl (fun t d => t.inexact k (foldRail s.zk4 d)) (s.wr R.GL_BANK_STAT_STATE k 3)) :=
    (List.foldlRecOn (s.countsDiffer k) _ (motive := fun u : State => Frame Frame.inexactReach (s.wr R.GL_BANK_STAT_STATE k 3) u
      ∧ SameStoreBut (s.headerAt k + 12) 4 (s.wr R.GL_BANK_STAT_STATE k 3) u) ⟨.refl _, .of_store rfl⟩ fun u hu x _ => by
      have hhead : u.headerAt k = s.headerAt k := headerAt_congr (glBase_congr ((hu.1.rd (by decide) 0).trans (hw.rd (by decide) 0))) k
      exact ⟨hu.1.inexact, hu.2.trans (hhead ▸ State.sameStoreBut_st
        ((u.wr R.GL_BANK_STAT_INEXACT k 1).wr H.GL_INEX_R k (setBit (u.rd H.GL_INEX_R k) (foldRail s.zk4 x) true)) _ _ _)⟩).2
  refine .of_go (exec_bankReady_due hk hb hage) ⟨?_, hmark.1, hmark.2, hstore⟩
  rw [State.bank, hframe.rd (by decide)]
  exact State.rd_wr_self _ _ hk _

theorem bankReady_idle (h : 4 ≤ k ∨ s.bank k ≠ 2 ∨ s.rd H.GL_CLOSE_AGE k < 64) : exec (.bankReady k) s = .next s := by
  rw [exec_bankReady, if_neg]
  · rfl
  · simp only [Bool.and_eq_true, decide_eq_true_eq, beq_iff_eq]
    omega

end

end Sys2Proof.Machine
end

section
/-! The booking of a bank (R360, R361, R384, R386, R388, R393, R394). -/

set_option Elab.async false

namespace Sys2Proof.Machine

variable {s t u : State}

/-! ## A bank is released -/

theorem releaseBank_at {k : Nat} (hb : s.bank k = 3) :
    s.releaseBank k = (s.wr R.GL_BANK_STAT_STATE k 0).stBytes (s.unitsAt k 0) (List.replicate 0x4000 0) := if_pos hb

theorem releaseBank_store (s : State) (k : Nat) : SameStoreBut (s.unitsAt k 0) 0x4000 s (s.releaseBank k) := by
  unfold State.releaseBank
  split
  · have := (s.wr R.GL_BANK_STAT_STATE k 0).sameStoreBut_stBytes (s.unitsAt k 0) (List.replicate 0x4000 0)
    rwa [List.length_replicate] at this
  · exact .of_store rfl

theorem releaseBank_says {k : Nat} (hk : k < 4) (hb : s.bank k = 3) (hin : s.glBase + 0x28A00 ≤ storeSize) :
    (s.releaseBank k).bank k = 0 ∧ (∀ q < 4096, (s.releaseBank k).ld (s.unitsAt k q) 4 = 0) := by
  rw [releaseBank_at hb]
  refine ⟨?_, fun q hq => ?_⟩
  · have hst : Frame ⟨[.store], [H.STORE_ECC]⟩ (s.wr R.GL_BANK_STAT_STATE k 0)
      ((s.wr R.GL_BANK_STAT_STATE k 0).stBytes (s.unitsAt k 0) (List.replicate 0x4000 0)) := (Frame.refl _).stBytes
    rw [State.bank, hst.rd (by decide), State.rd_wr_self _ _ hk]
    rfl
  · have hz : (toLeBytes 4 0 : List Byte) = List.replicate 4 0 := by decide
    have hsplit : (List.replicate 0x4000 0 : List Byte)
        = List.replicate (4 * q) 0 ++ (toLeBytes 4 0 ++ List.replicate (0x4000 - 4 * q - 4) 0) := by
      rw [hz, List.replicate_append_replicate, List.replicate_append_replicate]
      congr 1
      omega
    have hpart := (s.wr R.GL_BANK_STAT_STATE k 0).ld_stBytes_part (a := s.unitsAt k 0) (n := 4) (v := 0) (List.replicate (4 * q) 0)
      (List.replicate (0x4000 - 4 * q - 4) 0) (by rw [List.length_replicate]; unfold State.unitsAt; omega)
    rw [List.length_replicate, ← hsplit] at hpart
    have hat : s.unitsAt k q = s.unitsAt k 0 + 4 * q := by unfold State.unitsAt; omega
    rw [hat, hpart]
    rfl

theorem release_frees {w : WCtx} {k : Nat} (hw : Writable s w R.GL_BANK_STAT_RELEASE k) (hb : s.bank k = 3)
    (hin : s.glBase + 0x28A00 ≤ storeSize) :
    Completes (.release w k) s fun t =>
      t.bank k = 0 ∧ (∀ q < 4096, t.ld (s.unitsAt k q) 4 = 0) ∧ SameStoreBut (s.unitsAt k 0) 0x4000 s t ∧ t.resp = .ok
        ∧ OnlyKinds [R.GL_BANK_STAT_STATE, H.STORE_ECC] s t := by
  have hk : k < 4 := hw.2.1
  obtain ⟨hfree, hunits⟩ := releaseBank_says hk hb hin
  have hf : Frame ⟨[.store], [R.GL_BANK_STAT_STATE, H.STORE_ECC]⟩ s (s.releaseBank k) := (Frame.refl s).releaseBank
  exact .of_go (t := (s.releaseBank k).answer .ok)
    (congrArg State.go (State.judged_of_writable hw 1 fun t => t.releaseBank k))
    ⟨hfree, hunits, releaseBank_store s k, rfl, hf.kinds⟩

theorem release_idle {w : WCtx} {k : Nat} (hw : Writable s w R.GL_BANK_STAT_RELEASE k) (hb : s.bank k ≠ 3) :
    exec (.release w k) s = .next (s.answer .ok) := by
  refine (congrArg State.go (State.judged_of_writable hw 1 fun t => t.releaseBank k)).trans ?_
  have : s.releaseBank k = s := if_neg hb
  rw [this]
  rfl

/-! ## The oldest bank -/

theorem oldestReady_says {k : Nat} (h : s.oldestReady = some k) : k < 4 ∧ s.bank k = 3 := by
  have hm := List.mem_filter.1 (mem_sortBy.1 (List.mem_of_head? h))
  exact ⟨List.mem_range.1 hm.1, beq_iff_eq.1 hm.2⟩

/-- The bank booked for every rail (R386). -/
def State.railsBooked (s : State) (k : Nat) : State := (railList s.zk4).foldl (fun t r => t.bookRail k r) s

/-- The ledger's generation moves on (R372). -/
def State.bookingShown (s : State) (k : Nat) : State := ((s.railsBooked k).wr H.GL_BANK_SINCE 0 1).nextGen s.ledgerGenAt

/-- And the bank's digest goes to the peer (R414). -/
def State.bookingSent (s : State) (k : Nat) : State :=
  (s.bookingShown k).ownDigest H.GL_BDIG H.GL_PBDIG k 3 (bankCrc s (s.railsBooked k)) (.bankDigest k (bankCrc s (s.railsBooked k)))
    State.bankValues

theorem exec_bankBooking (s : State) (k : Nat) :
    exec (.bankBooking k) s = (if s.oldestReady == some k && s.hartUp 1 && !s.shedAt 3 && !s.bookingWaits then
      (s.bookingSent k).releaseBank k else s).go := rfl

theorem exec_bankBooking_books {k : Nat} (hold : s.oldestReady = some k) (h1 : s.hartUp 1 = true) (hs : s.shedAt 3 = false)
    (hw : s.bookingWaits = false) : exec (.bankBooking k) s = ((s.bookingSent k).releaseBank k).go := by
  rw [exec_bankBooking, if_pos (by rw [hold, h1, hs, hw, beq_self_eq_true]; rfl)]

theorem bankBooking_idle {k : Nat} (h : s.oldestReady ≠ some k ∨ s.hartUp 1 = false ∨ s.shedAt 3 = true ∨ s.bookingWaits = true) :
    exec (.bankBooking k) s = .next s := by
  have hc : (s.oldestReady == some k && s.hartUp 1 && !s.shedAt 3 && !s.bookingWaits) = false := by
    obtain h | h | h | h := h
    · rw [beq_eq_false_iff_ne.2 h]
      rfl
    all_goals rw [h]; simp
  rw [exec_bankBooking, hc]
  rfl

theorem railsBooked_frame (s : State) (k : Nat) : Frame Frame.bookRailReach s (s.railsBooked k) :=
  (Frame.refl s).foldl fun _ _ hu => hu.bookRail

theorem bookingShown_frame (s : State) (k : Nat) : Frame ⟨[.store], [H.GL_BANK_SINCE, H.STORE_ECC]⟩ (s.railsBooked k) (s.bookingShown k) :=
  (Frame.refl _).wr.nextGen

theorem bookingSent_frame (s : State) (k : Nat) :
    Frame (Frame.ownDigestReach.and (.regs [H.GL_BDIG, H.GL_PBDIG])) (s.bookingShown k) (s.bookingSent k) := (Frame.refl _).ownDigest

theorem bookingSent_base (s : State) (k : Nat) : (s.bookingSent k).glBase = s.glBase :=
  glBase_congr (((bookingSent_frame s k).rd (by decide +kernel) 0).trans (((bookingShown_frame s k).rd (by decide) 0).trans
    ((railsBooked_frame s k).rd (by decide) 0)))

theorem bookingSent_bank (s : State) (k : Nat) : (s.bookingSent k).bank k = s.bank k :=
  ((bookingSent_frame s k).rd (by decide +kernel) k).trans (((bookingShown_frame s k).rd (by decide) k).trans
    ((railsBooked_frame s k).rd (by decide) k))

theorem unitsAt_congr (h : t.glBase = s.glBase) (k q : Nat) : t.unitsAt k q = s.unitsAt k q := by rw [State.unitsAt, h, State.unitsAt]

theorem booking_frees {k : Nat} (hold : s.oldestReady = some k) (h1 : s.hartUp 1 = true) (hs : s.shedAt 3 = false)
    (hw : s.bookingWaits = false) (hin : s.glBase + 0x28A00 ≤ storeSize) :
    Completes (.bankBooking k) s fun t =>
      t.bank k = 0 ∧ t.bit H.GL_BANK_SINCE 0 = true ∧ (∀ q < 4096, t.ld (s.unitsAt k q) 4 = 0) := by
  obtain ⟨hk, hready⟩ := oldestReady_says hold
  have hbase := bookingSent_base s k
  have hsince : (s.bookingSent k).bit H.GL_BANK_SINCE 0 = true := by
    have hgen : Frame ⟨[.store], [H.STORE_ECC]⟩ ((s.railsBooked k).wr H.GL_BANK_SINCE 0 1) (s.bookingShown k) := (Frame.refl _).nextGen
    rw [(bookingSent_frame s k).bit (by decide +kernel), hgen.bit (by decide)]
    exact State.bit_set _ (by decide) rfl
  obtain ⟨hfree, hunits⟩ := releaseBank_says hk ((bookingSent_bank s k).trans hready) (hbase ▸ hin)
  have hrel : Frame Frame.releaseBankReach (s.bookingSent k) ((s.bookingSent k).releaseBank k) := (Frame.refl _).releaseBank
  refine .of_go (exec_bankBooking_books hold h1 hs hw) ⟨hfree, (hrel.bit (by decide) 0).trans hsince, fun q hq => ?_⟩
  rw [← unitsAt_congr hbase]
  exact hunits q hq

/-! ## Places of a rail's words -/

/-- The bytes that the booking of a queue writes. -/
def State.queuePlace (s : State) (q a : Nat) : Prop :=
  (s.ledgerAt q ≤ a ∧ a < s.ledgerAt q + 8) ∨ (s.heftAt q ≤ a ∧ a < s.heftAt q + 4) ∨ (s.ewmaAt q ≤ a ∧ a < s.ewmaAt q + 4)

/-- The bytes that the booking of a rail writes. -/
def State.railPlace (s : State) (r a : Nat) : Prop :=
  (∃ q ∈ s.railQueues r, s.queuePlace q a) ∨ (s.sharedAt r ≤ a ∧ a < s.sharedAt r + 8)

theorem queuePlace_congr (h : t.glBase = s.glBase) (q a : Nat) : t.queuePlace q a = s.queuePlace q a := by
  simp only [State.queuePlace, State.ledgerAt, State.heftAt, State.ewmaAt, h]

theorem sharedAt_congr (h : t.glBase = s.glBase) (r : Nat) : t.sharedAt r = s.sharedAt r := by rw [State.sharedAt, h, State.sharedAt]

theorem railQueues_congr (h : t.zk4 = s.zk4) (r : Nat) : t.railQueues r = s.railQueues r := by
  unfold State.railQueues
  rw [h]
  exact List.flatMap_congr fun f _ => queuesOf_congr h f

theorem railPlace_congr (hz : t.zk4 = s.zk4) (h : t.glBase = s.glBase) (r a : Nat) : t.railPlace r a = s.railPlace r a := by
  simp only [State.railPlace, railQueues_congr hz, queuePlace_congr h, sharedAt_congr h]

theorem queueFold_of_mem {f q : Nat} (h : q ∈ s.queuesOf f) : s.queueFold q = f := by
  obtain ⟨k, hk, rfl⟩ := mem_queuesOf.1 h
  have hpos : 0 < queuesPerDispatcher s.zk4 := by omega
  rw [State.queueFold, Nat.mul_add_div hpos, Nat.div_eq_of_lt hk, Nat.add_zero]

theorem mem_railQueues {r q : Nat} (h : q ∈ s.railQueues r) : q < 4096 ∧ foldRail s.zk4 (s.queueFold q) = r := by
  obtain ⟨f, hf, hq⟩ := List.mem_flatMap.1 h
  obtain ⟨hr, hk⟩ := List.mem_filter.1 hf
  rw [queueFold_of_mem hq]
  exact ⟨queuesOf_lt (List.mem_range.1 hr) hq, beq_iff_eq.1 hk⟩

theorem railQueues_nodup (s : State) (r : Nat) : (s.railQueues r).Nodup := by
  refine List.nodup_flatMap.2 ⟨fun f _ => queuesOf_nodup f, ?_⟩
  refine (List.nodup_range.filter _).imp fun {f g} hfg => ?_
  intro q hf hg
  exact hfg ((queueFold_of_mem hf).symm.trans (queueFold_of_mem hg))

/-- A queue's words are not another queue's. -/
theorem queuePlace_apart {p q a : Nat} (hp : p < 4096) (hq : q < 4096) (hne : p ≠ q) (h : s.queuePlace p a) : ¬ s.queuePlace q a := by
  unfold State.queuePlace State.ledgerAt State.heftAt State.ewmaAt at *
  omega

/-- What lies beyond the queues' words and before the shared accounts is no rail's. -/
theorem railPlace_not_bank {r a : Nat} (h1 : s.glBase + 0x10000 ≤ a) (h2 : a < s.glBase + 0x28800) : ¬ s.railPlace r a := by
  rintro (⟨q, hq, hp⟩ | hsh)
  · have := (mem_railQueues hq).1
    unfold State.queuePlace State.ledgerAt State.heftAt State.ewmaAt at hp
    omega
  · unfold State.sharedAt at hsh
    omega

theorem railPlace_not_queue {r r' q a : Nat} (hq : q ∈ s.railQueues r) (hne : r' ≠ r) (h : s.queuePlace q a) : ¬ s.railPlace r' a := by
  obtain ⟨hlt, hrail⟩ := mem_railQueues hq
  rintro (⟨p, hp, hpl⟩ | hsh)
  · obtain ⟨hplt, hprail⟩ := mem_railQueues hp
    refine queuePlace_apart hlt hplt (fun heq => hne ?_) h hpl
    rw [← hprail, ← heq, hrail]
  · unfold State.queuePlace State.ledgerAt State.heftAt State.ewmaAt at h
    unfold State.sharedAt at hsh
    omega

theorem railPlace_not_shared {r r' a : Nat} (hne : r' ≠ r) (h1 : s.sharedAt r ≤ a) (h2 : a < s.sharedAt r + 8) : ¬ s.railPlace r' a := by
  unfold State.sharedAt at h1 h2
  rintro (⟨p, hp, hpl⟩ | hsh)
  · have := (mem_railQueues hp).1
    unfold State.queuePlace State.ledgerAt State.heftAt State.ewmaAt at hpl
    omega
  · unfold State.sharedAt at hsh
    omega

/-! ## A queue is booked -/

theorem learnHeft_store {q a : Nat} (charge : Nat) (h : ¬ s.queuePlace q a) : memGet (s.learnHeft q charge).store a = memGet s.store a := by
  unfold State.queuePlace at h
  unfold State.learnHeft
  dsimp only
  split
  · rw [State.sameStoreBut_st _ _ _ _ a (by omega), State.sameStoreBut_st _ _ _ _ a (by omega)]
  · rfl

theorem learnHeft_ledger {q charge : Nat} (hq : q < 4096) (u : State) : (u.learnHeft q charge).ld (u.ledgerAt q) 8 = u.ld (u.ledgerAt q) 8 := by
  unfold State.learnHeft
  dsimp only
  split
  · rw [State.ld_st_apart _ (by unfold State.ledgerAt State.heftAt; omega), State.ld_st_apart _ (by unfold State.ledgerAt State.ewmaAt; omega)]
  · rfl

theorem learnHeft_heft {q charge : Nat} (hq : q < 4096) (u : State) (hin : u.glBase + 0x28A00 ≤ storeSize) :
    (u.learnHeft q charge).ld (u.heftAt q) 4 / 16 = u.ld (u.heftAt q) 4 / 16 := by
  have hlt : u.ld (u.heftAt q) 4 < 256 ^ 4 := State.ld_lt _ _ _
  unfold State.learnHeft
  dsimp only
  split
  · rw [State.ld_st_same _ (by unfold State.heftAt; omega)]
    omega
  · rfl

/-- The ledger word and the heft word of a queue that is charged (R386, R393). -/
def State.queueCharged (s : State) (q c : Nat) (inexact : Bool) : State :=
  (s.st (s.ledgerAt q) 8 ((s.ld (s.ledgerAt q) 8 + (c / 1024 + (s.ld (s.heftAt q) 4 / 65536 + c % 1024) / 1024)) % 2 ^ 64)).st (s.heftAt q) 4
    ((s.ld (s.heftAt q) 4 / 65536 + c % 1024) % 1024 * 65536
      + (if inexact then s.ld (s.heftAt q) 4 % 65536 ||| 32 else s.ld (s.heftAt q) 4 % 65536))

theorem bookQueue_eq (s : State) (k q c : Nat) (inexact : Bool) : s.bookQueue k q c inexact
    = ((s.queueCharged q c inexact).learnHeft q (c / 1024 + (s.ld (s.heftAt q) 4 / 65536 + c % 1024) / 1024)).wr H.GL_ACT q
        (s.rd H.GL_ACT q * 2 + b2n (s.ld (s.unitsAt k q) 4 != 0 || bitOf (s.rd H.GL_WAIT q) k)) := rfl

theorem queueCharged_frame (s : State) (q c : Nat) (b : Bool) : Frame ⟨[.store], [H.STORE_ECC]⟩ s (s.queueCharged q c b) :=
  (Frame.refl s).st.st

theorem bookQueue_store {k q c a : Nat} {b : Bool} (h : ¬ s.queuePlace q a) : memGet (s.bookQueue k q c b).store a = memGet s.store a := by
  have hbase := glBase_congr ((queueCharged_frame s q c b).rd (by decide) 0)
  rw [bookQueue_eq]
  refine (learnHeft_store _ (by rwa [queuePlace_congr hbase])).trans ?_
  unfold State.queuePlace at h
  unfold State.queueCharged
  rw [State.sameStoreBut_st _ _ _ _ a (by omega), State.sameStoreBut_st _ _ _ _ a (by omega)]

theorem heftWord_high {x y : Nat} (b : Bool) (hy : y < 65536) : (x * 65536 + (if b then y ||| 32 else y)) / 65536 = x := by
  have hor : y ||| 32 < 2 ^ 16 := Nat.or_lt_two_pow hy (by decide)
  split <;> omega

theorem heftWord_inexact {x y : Nat} (hy : y < 65536) : bitOf (x * 65536 + (y ||| 32)) 5 = true := by
  have hor : y ||| 32 < 2 ^ 16 := Nat.or_lt_two_pow hy (by decide)
  rw [bitOf, Nat.mul_comm, show (65536 : Nat) = 2 ^ 16 by rfl, Nat.testBit_two_pow_mul_add _ hor, if_pos (by decide), Nat.testBit_or,
    show Nat.testBit 32 5 = true by decide, Bool.or_true]

/-- Two words that differ in their low four bits alone have the same bit 5. -/
theorem bitOf5_congr {x y : Nat} (h : x / 16 = y / 16) : bitOf x 5 = bitOf y 5 := by
  rw [bitOf, bitOf, show (5 : Nat) = 1 + 4 by rfl, Nat.testBit_add, Nat.testBit_add]
  exact congrArg (fun z : Nat => z.testBit 1) h

theorem bookQueue_says {k q c : Nat} {b : Bool} (hq : q < 4096) (hin : s.glBase + 0x28A00 ≤ storeSize) :
    (s.bookQueue k q c b).ld (s.ledgerAt q) 8
        = (s.ld (s.ledgerAt q) 8 + c / 1024 + (s.ld (s.heftAt q) 4 / 65536 + c % 1024) / 1024) % 2 ^ 64
      ∧ (s.bookQueue k q c b).ld (s.heftAt q) 4 / 65536 = (s.ld (s.heftAt q) 4 / 65536 + c % 1024) % 1024
      ∧ (b = true → bitOf ((s.bookQueue k q c b).ld (s.heftAt q) 4) 5 = true) := by
  have hbase := glBase_congr ((queueCharged_frame s q c b).rd (by decide) 0)
  have hheft : (s.queueCharged q c b).heftAt q = s.heftAt q := by rw [State.heftAt, hbase, State.heftAt]
  have hledger : (s.queueCharged q c b).ledgerAt q = s.ledgerAt q := by rw [State.ledgerAt, hbase, State.ledgerAt]
  have hl := learnHeft_ledger (charge := c / 1024 + (s.ld (s.heftAt q) 4 / 65536 + c % 1024) / 1024) hq (s.queueCharged q c b)
  have hh := learnHeft_heft (charge := c / 1024 + (s.ld (s.heftAt q) 4 / 65536 + c % 1024) / 1024) hq (s.queueCharged q c b) (hbase ▸ hin)
  rw [hledger] at hl
  rw [hheft] at hh
  have hapart : s.ledgerAt q + 8 ≤ s.heftAt q := by unfold State.ledgerAt State.heftAt; omega
  have hend : s.heftAt q + 4 ≤ storeSize := by unfold State.heftAt; omega
  have hcl : (s.queueCharged q c b).ld (s.ledgerAt q) 8
      = (s.ld (s.ledgerAt q) 8 + (c / 1024 + (s.ld (s.heftAt q) 4 / 65536 + c % 1024) / 1024)) % 2 ^ 64 := by
    unfold State.queueCharged
    rw [State.ld_st_apart _ (.inl hapart), State.ld_st_same _ (by omega)]
    exact Nat.mod_mod _ _
  have hch : (s.queueCharged q c b).ld (s.heftAt q) 4 = (s.ld (s.heftAt q) 4 / 65536 + c % 1024) % 1024 * 65536
      + (if b then s.ld (s.heftAt q) 4 % 65536 ||| 32 else s.ld (s.heftAt q) 4 % 65536) := by
    have hor : s.ld (s.heftAt q) 4 % 65536 ||| 32 < 2 ^ 16 := Nat.or_lt_two_pow (Nat.mod_lt _ (by decide)) (by decide)
    unfold State.queueCharged
    rw [State.ld_st_same _ hend]
    refine Nat.mod_eq_of_lt ?_
    split <;> omega
  rw [bookQueue_eq]
  generalize (s.queueCharged q c b).learnHeft q (c / 1024 + (s.ld (s.heftAt q) 4 / 65536 + c % 1024) / 1024) = v at *
  change v.ld (s.ledgerAt q) 8 = _ ∧ v.ld (s.heftAt q) 4 / 65536 = _ ∧ (b = true → bitOf (v.ld (s.heftAt q) 4) 5 = true)
  refine ⟨?_, ?_, fun hb => ?_⟩
  · rw [hl, hcl, Nat.add_assoc]
  · have h16 : v.ld (s.heftAt q) 4 / 65536 = (s.queueCharged q c b).ld (s.heftAt q) 4 / 65536 := by omega
    rw [h16, hch, heftWord_high _ (Nat.mod_lt _ (by decide))]
  · rw [bitOf5_congr hh, hch, hb, if_pos rfl]
    exact heftWord_inexact (Nat.mod_lt _ (by decide))

/-! ## A rail is booked -/

/-- The units of a rail's queues in a bank (R386). -/
def State.unitsSum (s : State) (k r : Nat) : Nat := sumN ((s.railQueues r).map (fun q => s.ld (s.unitsAt k q) 4))

/-- What a rail's queues spend beyond its idle power (R386). -/
def State.dynamicEnergy (s : State) (k r : Nat) : Nat := s.bankEnergy k r
  - min (s.bankEnergy k r) (s.rd R.GL_RAIL_IDLE_IDLE r * s.rd R.GL_BANK_FRAMES_FRAMES k * 1024 / 2000)

/-- A queue's part of it, by its units (R386). -/
def State.charge (s : State) (k r q : Nat) : Nat := s.dynamicEnergy k r * s.ld (s.unitsAt k q) 4 / s.unitsSum k r

/-- The rail's queues booked. -/
def State.queuesBooked (u : State) (k : Nat) (l : List Nat) (c : Nat → Nat) (b : Bool) : State :=
  l.foldl (fun t q => t.bookQueue k q (c q) b) u

theorem bookRail_idle {k r : Nat} (h : s.unitsSum k r = 0) : s.bookRail k r
    = ((s.shareEnergy r (s.bankEnergy k r)).learnIdle k r (s.bankEnergy k r) (s.rd R.GL_BANK_FRAMES_FRAMES k)).queuesBooked k
        (s.railQueues r) (fun _ => 0) (bitOf (s.rd H.GL_INEX_R k) r) := if_pos h

theorem bookRail_used {k r : Nat} (h : s.unitsSum k r ≠ 0) : s.bookRail k r
    = ((s.queuesBooked k (s.railQueues r) (s.charge k r) (bitOf (s.rd H.GL_INEX_R k) r)).shareEnergy r
        (min (s.bankEnergy k r) (s.rd R.GL_RAIL_IDLE_IDLE r * s.rd R.GL_BANK_FRAMES_FRAMES k * 1024 / 2000)
          + (s.dynamicEnergy k r - sumN ((s.railQueues r).map (s.charge k r))))).wr R.GL_RAIL_COST_COST r
        (min (2 ^ 32 - 1) (s.dynamicEnergy k r * 1000000 / (s.unitsSum k r * 1024))) := if_neg h

theorem queuesBooked_frame (u : State) (k : Nat) (l : List Nat) (c : Nat → Nat) (b : Bool) :
    Frame Frame.bookQueueReach u (u.queuesBooked k l c b) := (Frame.refl u).foldl fun _ _ hu => hu.bookQueue

theorem queuesBooked_store {k a : Nat} {l : List Nat} {c : Nat → Nat} {b : Bool} (h : ∀ q ∈ l, ¬ u.queuePlace q a) :
    memGet (u.queuesBooked k l c b).store a = memGet u.store a :=
  (List.foldlRecOn l _ (motive := fun v : State => Frame Frame.bookQueueReach u v ∧ memGet v.store a = memGet u.store a)
    ⟨.refl u, rfl⟩ fun v hv q hq => ⟨hv.1.bookQueue,
      (bookQueue_store (by rw [queuePlace_congr (glBase_congr (hv.1.rd (by decide) 0))]; exact h q hq)).trans hv.2⟩).2

theorem shareEnergy_store {r e a : Nat} (h : a < s.sharedAt r ∨ s.sharedAt r + 8 ≤ a) :
    memGet (s.shareEnergy r e).store a = memGet s.store a := by
  rw [State.shareEnergy, State.wr_store, State.addShared, State.sameStoreBut_st _ _ _ _ a h]

theorem shareEnergy_says {r : Nat} (hr : r < 14) (hin : s.glBase + 0x28A00 ≤ storeSize) (e : Nat) :
    (s.shareEnergy r e).ld (s.sharedAt r) 8 = (s.ld (s.sharedAt r) 8 + (s.rd H.GL_SHARED_RES r + e) / 1024) % 2 ^ 64
      ∧ (s.shareEnergy r e).rd H.GL_SHARED_RES r = (s.rd H.GL_SHARED_RES r + e) % 1024 := by
  refine ⟨?_, ?_⟩
  · have hld : (s.shareEnergy r e).ld (s.sharedAt r) 8 = (s.addShared r ((s.rd H.GL_SHARED_RES r + e) / 1024)).ld (s.sharedAt r) 8 := rfl
    rw [hld, State.addShared, State.ld_st_same _ (by unfold State.sharedAt; omega)]
    exact Nat.mod_mod _ _
  · rw [State.shareEnergy, State.rd_wr_self _ _ hr]
    exact Nat.mod_mod _ _

theorem learnIdle_frame (s : State) (k r e n : Nat) : Frame (.regs [R.GL_RAIL_IDLE_IDLE]) s (s.learnIdle k r e n) := (Frame.refl s).learnIdle

theorem shareEnergy_frame (s : State) (r e : Nat) : Frame ⟨[.store], [H.GL_SHARED_RES, H.STORE_ECC]⟩ s (s.shareEnergy r e) :=
  (Frame.refl s).shareEnergy

theorem bookRail_store {k r a : Nat} (h : ¬ s.railPlace r a) : memGet (s.bookRail k r).store a = memGet s.store a := by
  have hshared : a < s.sharedAt r ∨ s.sharedAt r + 8 ≤ a := by
    by_contra hc
    exact h (.inr (by omega))
  have hqueues : ∀ q ∈ s.railQueues r, ¬ s.queuePlace q a := fun q hq hp => h (.inl ⟨q, hq, hp⟩)
  by_cases hu : s.unitsSum k r = 0
  · have hf := ((Frame.refl s).andThen (shareEnergy_frame s r (s.bankEnergy k r)) |>.andThen (learnIdle_frame _ k r (s.bankEnergy k r)
      (s.rd R.GL_BANK_FRAMES_FRAMES k)) : Frame ⟨[.store], [R.GL_RAIL_IDLE_IDLE, H.GL_SHARED_RES, H.STORE_ECC]⟩ s _)
    rw [bookRail_idle hu, queuesBooked_store fun q hq => by rw [queuePlace_congr (glBase_congr (hf.rd (by decide) 0))]; exact hqueues q hq,
      (learnIdle_frame _ _ _ _ _).store, shareEnergy_store hshared]
  · have hf := queuesBooked_frame s k (s.railQueues r) (s.charge k r) (bitOf (s.rd H.GL_INEX_R k) r)
    rw [bookRail_used hu, State.wr_store, shareEnergy_store (by rwa [sharedAt_congr (glBase_congr (hf.rd (by decide) 0))]),
      queuesBooked_store hqueues]

/-- A write leaves the other elements of its own field and what lies elsewhere. -/
theorem rd_wr_other {f g : Fld} (h : (f == g || f.apart g) = true) (hs : 0 < g.stride) {i j : Nat} (hij : i ≠ j) (v : Nat) :
    (s.wr f i v).rd g j = s.rd g j := by
  obtain h | h := Bool.or_eq_true _ _ ▸ h
  · obtain rfl := beq_iff_eq.1 h
    exact State.rd_wr_idx _ hij hs v
  · exact State.rd_wr_apart _ h i j v

/-- The booking of a rail leaves another rail's registers. -/
theorem rd_bookRail_other {g : Fld} (hs : 0 < g.stride)
    (hg : ([H.GL_SHARED_RES, R.GL_RAIL_IDLE_IDLE, R.GL_RAIL_COST_COST].all fun f => f == g || f.apart g) = true)
    (hq : ([H.GL_ACT, H.STORE_ECC].all fun f => f.apart g) = true) {k i j : Nat} (hij : i ≠ j) : (s.bookRail k i).rd g j = s.rd g j := by
  simp only [List.all_cons, List.all_nil, Bool.and_true, Bool.and_eq_true] at hg
  obtain ⟨hres, hidle, hcost⟩ := hg
  have hshare (u : State) (e : Nat) : (u.shareEnergy i e).rd g j = u.rd g j := by
    have hst : Frame ⟨[.store], [H.STORE_ECC]⟩ u (u.addShared i ((u.rd H.GL_SHARED_RES i + e) / 1024)) := (Frame.refl u).st
    rw [State.shareEnergy, rd_wr_other hres hs hij, hst.rd (by simp only [List.all_cons, List.all_nil, Bool.and_true, Bool.and_eq_true] at hq ⊢; exact hq.2)]
  have hqueues (u : State) (l : List Nat) (c : Nat → Nat) (b : Bool) : (u.queuesBooked k l c b).rd g j = u.rd g j :=
    (queuesBooked_frame u k l c b).rd hq j
  by_cases hu : s.unitsSum k i = 0
  · rw [bookRail_idle hu, hqueues]
    unfold State.learnIdle
    split
    · exact hshare _ _
    · rw [rd_wr_other hidle hs hij, hshare]
  · rw [bookRail_used hu, rd_wr_other hcost hs hij, hshare, hqueues]

/-! ## One rail among the package's -/

/-- What the booking of the other rails leaves for a rail. -/
structure Awaits (s : State) (r : Nat) (u : State) : Prop where
  frame : Frame Frame.bookRailReach s u
  bytes : ∀ a, (∀ r' ≠ r, ¬ s.railPlace r' a) → memGet u.store a = memGet s.store a
  rest : u.rd H.GL_SHARED_RES r = s.rd H.GL_SHARED_RES r
  idle : u.rd R.GL_RAIL_IDLE_IDLE r = s.rd R.GL_RAIL_IDLE_IDLE r

namespace Awaits

variable {k r : Nat}

theorem refl (s : State) (r : Nat) : Awaits s r s := ⟨.refl s, fun _ _ => rfl, rfl, rfl⟩

theorem base (h : Awaits s r u) : u.glBase = s.glBase := glBase_congr (h.frame.rd (by decide) 0)

theorem zk4 (h : Awaits s r u) : u.zk4 = s.zk4 := by simp only [State.zk4, h.frame.ident]

theorem bookRail (h : Awaits s r u) {r' : Nat} (hne : r' ≠ r) : Awaits s r (u.bookRail k r') where
  frame := h.frame.bookRail
  bytes a ha := (bookRail_store (by rw [railPlace_congr h.zk4 h.base]; exact ha r' hne)).trans (h.bytes a ha)
  rest := (rd_bookRail_other (by decide) (by decide) (by decide) hne).trans h.rest
  idle := (rd_bookRail_other (by decide) (by decide) (by decide) hne).trans h.idle

theorem units (h : Awaits s r u) (hk : k < 4) {q : Nat} (hq : q < 4096) : u.ld (u.unitsAt k q) 4 = s.ld (s.unitsAt k q) 4 := by
  rw [unitsAt_congr h.base]
  exact State.ld_congr fun b h1 h2 => h.bytes b fun r' _ => by
    unfold State.unitsAt at h1 h2
    exact railPlace_not_bank (by omega) (by omega)

theorem energy (h : Awaits s r u) (hk : k < 4) (hr : r < 14) : u.bankEnergy k r = s.bankEnergy k r := by
  rw [State.bankEnergy, headerAt_congr h.base, State.bankEnergy]
  exact State.ld_congr fun b h1 h2 => h.bytes b fun r' _ => by
    unfold State.headerAt at h1 h2
    exact railPlace_not_bank (by omega) (by omega)

theorem shared (h : Awaits s r u) : u.ld (u.sharedAt r) 8 = s.ld (s.sharedAt r) 8 := by
  rw [sharedAt_congr h.base]
  exact State.ld_congr fun b h1 h2 => h.bytes b fun r' hne => railPlace_not_shared hne h1 h2

theorem ledger (h : Awaits s r u) {q : Nat} (hq : q ∈ s.railQueues r) : u.ld (u.ledgerAt q) 8 = s.ld (s.ledgerAt q) 8 := by
  rw [State.ledgerAt, h.base]
  exact State.ld_congr fun b h1 h2 => h.bytes b fun r' hne => railPlace_not_queue hq hne (.inl ⟨h1, h2⟩)

theorem heft (h : Awaits s r u) {q : Nat} (hq : q ∈ s.railQueues r) : u.ld (u.heftAt q) 4 = s.ld (s.heftAt q) 4 := by
  rw [State.heftAt, h.base]
  exact State.ld_congr fun b h1 h2 => h.bytes b fun r' hne => railPlace_not_queue hq hne (.inr (.inl ⟨h1, h2⟩))

theorem unitsSum (h : Awaits s r u) (hk : k < 4) : u.unitsSum k r = s.unitsSum k r := by
  unfold State.unitsSum
  rw [railQueues_congr h.zk4]
  exact congrArg sumN (List.map_congr_left fun q hq => h.units hk (mem_railQueues hq).1)

theorem dynamicEnergy (h : Awaits s r u) (hk : k < 4) (hr : r < 14) : u.dynamicEnergy k r = s.dynamicEnergy k r := by
  rw [State.dynamicEnergy, h.energy hk hr, h.idle, h.frame.rd (by decide) k, State.dynamicEnergy]

theorem charge (h : Awaits s r u) (hk : k < 4) (hr : r < 14) {q : Nat} (hq : q ∈ s.railQueues r) : u.charge k r q = s.charge k r q := by
  rw [State.charge, h.dynamicEnergy hk hr, h.units hk (mem_railQueues hq).1, h.unitsSum hk, State.charge]

end Awaits

theorem railList_nodup (z : Bool) : (railList z).Nodup := List.nodup_range.filter _

theorem railList_lt {z : Bool} {r : Nat} (h : r ∈ railList z) : r < 14 := List.mem_range.1 (List.mem_filter.1 h).1

/-- What one rail's booking makes, and the others' leave, holds once every rail is booked. -/
theorem railsBooked_once {k r : Nat} {Q : State → Prop} (hr : r ∈ railList s.zk4) (hQ : ∀ u, Awaits s r u → Q (u.bookRail k r))
    (hkeep : ∀ u r', r' ≠ r → Q u → Q (u.bookRail k r')) : Q (s.railsBooked k) :=
  foldl_once (railList_nodup s.zk4) hr (I := Awaits s r) (Q := Q) (fun _ _ hne hu => hu.bookRail hne) hQ hkeep s (.refl s r)

/-- What a booked bank leaves in the ledger and the shared accounts. -/
theorem booking_completes {k : Nat} {P : State → Prop} (hold : s.oldestReady = some k) (h1 : s.hartUp 1 = true) (hs : s.shedAt 3 = false)
    (hw : s.bookingWaits = false) (hp : s.peerCompares = false)
    (hP : ∀ t, (∀ a, (a < s.unitsAt k 0 ∨ s.unitsAt k 0 + 0x4000 ≤ a) → (a < s.ledgerGenAt ∨ s.ledgerGenAt + 4 ≤ a) →
        memGet t.store a = memGet (s.railsBooked k).store a) →
      Frame ⟨[.store], [H.GL_BANK_SINCE, H.STORE_ECC, R.GL_BANK_STAT_STATE]⟩ (s.railsBooked k) t → P t) :
    Completes (.bankBooking k) s P := by
  have hf := railsBooked_frame s k
  have hshown := bookingShown_frame s k
  have hsent : s.bookingSent k = s.bookingShown k := by
    have hrole : (s.bookingShown k).peerCompares = s.peerCompares :=
      peerCompares_congr ((hshown.rd (by decide) 0).trans (hf.rd (by decide) 0)) ((hshown.rd (by decide) 0).trans (hf.rd (by decide) 0))
    unfold State.bookingSent State.ownDigest
    rw [hrole, hp]
    rfl
  have hexec := exec_bankBooking_books hold h1 hs hw
  rw [hsent] at hexec
  have hbase : (s.bookingShown k).glBase = s.glBase := glBase_congr ((hshown.rd (by decide) 0).trans (hf.rd (by decide) 0))
  have hrel := releaseBank_store (s.bookingShown k) k
  rw [unitsAt_congr hbase] at hrel
  refine .of_go hexec (hP _ (fun a ha hg => ?_) (((Frame.refl _).andThen hshown).releaseBank))
  rw [hrel a ha]
  exact State.sameStoreBut_st ((s.railsBooked k).wr H.GL_BANK_SINCE 0 1) s.ledgerGenAt 4 _ a hg

end Sys2Proof.Machine
end

section
/-! The ledger's banks take usage and are booked: O42. -/

set_option Elab.async false

namespace Sys2Proof.Machine

variable {s t u : State} {k r : Nat}

theorem sumN_zero {l : List Nat} (h : ∀ x ∈ l, x = 0) : sumN l = 0 :=
  List.foldlRecOn l (· + ·) (motive := fun v => v = 0) rfl fun v hv x hx => by rw [hv, h x hx]

/-- A word beyond what the end of a booking writes reads as the rails' booking left it. -/
theorem booked_ld {a n : Nat} (h : ∀ b, (b < s.unitsAt k 0 ∨ s.unitsAt k 0 + 0x4000 ≤ b) → (b < s.ledgerGenAt ∨ s.ledgerGenAt + 4 ≤ b) →
    memGet t.store b = memGet u.store b) (h1 : a + n ≤ s.unitsAt k 0 ∨ s.unitsAt k 0 + 0x4000 ≤ a)
    (h2 : a + n ≤ s.ledgerGenAt ∨ s.ledgerGenAt + 4 ≤ a) : t.ld a n = u.ld a n :=
  State.ld_congr fun b _ _ => h b (by omega) (by omega)

theorem booking_idleRail (hold : s.oldestReady = some k) (h1 : s.hartUp 1 = true) (hs : s.shedAt 3 = false)
    (hw : s.bookingWaits = false) (hin : s.glBase + 0x28A00 ≤ storeSize) (hp : s.peerCompares = false) (hr : r ∈ railList s.zk4)
    (hz : ∀ q ∈ s.railQueues r, s.ld (s.unitsAt k q) 4 = 0) :
    Completes (.bankBooking k) s fun t =>
      t.ld (s.sharedAt r) 8 = (s.ld (s.sharedAt r) 8 + (s.rd H.GL_SHARED_RES r + s.bankEnergy k r) / 1024) % 2 ^ 64
        ∧ t.rd H.GL_SHARED_RES r = (s.rd H.GL_SHARED_RES r + s.bankEnergy k r) % 1024 := by
  have hk := (oldestReady_says hold).1
  have hr14 := railList_lt hr
  have hsum : s.unitsSum k r = 0 := sumN_zero fun x hx => by
    obtain ⟨q, hq, rfl⟩ := List.mem_map.1 hx
    exact hz q hq
  have hbooked : (s.railsBooked k).glBase = s.glBase ∧ (s.railsBooked k).ld (s.sharedAt r) 8
        = (s.ld (s.sharedAt r) 8 + (s.rd H.GL_SHARED_RES r + s.bankEnergy k r) / 1024) % 2 ^ 64
      ∧ (s.railsBooked k).rd H.GL_SHARED_RES r = (s.rd H.GL_SHARED_RES r + s.bankEnergy k r) % 1024 := by
    refine railsBooked_once (Q := fun u : State => u.glBase = s.glBase ∧ u.ld (s.sharedAt r) 8
        = (s.ld (s.sharedAt r) 8 + (s.rd H.GL_SHARED_RES r + s.bankEnergy k r) / 1024) % 2 ^ 64
      ∧ u.rd H.GL_SHARED_RES r = (s.rd H.GL_SHARED_RES r + s.bankEnergy k r) % 1024) hr (fun u hu => ?_) fun u r' hne hu => ?_
    · obtain ⟨hshared, hres⟩ := shareEnergy_says (s := u) hr14 (hu.base ▸ hin) (u.bankEnergy k r)
      have hi := learnIdle_frame (u.shareEnergy r (u.bankEnergy k r)) k r (u.bankEnergy k r) (u.rd R.GL_BANK_FRAMES_FRAMES k)
      have hsh := shareEnergy_frame u r (u.bankEnergy k r)
      have hbook := bookRail_idle ((hu.unitsSum hk).trans hsum)
      rw [hu.shared, hu.rest, hu.energy hk hr14, sharedAt_congr hu.base] at hshared
      rw [hu.rest, hu.energy hk hr14] at hres
      rw [hu.energy hk hr14] at hbook hi hsh
      have hbase : ((u.shareEnergy r (s.bankEnergy k r)).learnIdle k r (s.bankEnergy k r) (u.rd R.GL_BANK_FRAMES_FRAMES k)).glBase = s.glBase :=
        glBase_congr ((hi.rd (by decide) 0).trans ((hsh.rd (by decide) 0).trans (hu.frame.rd (by decide) 0)))
      have hwords : ((u.shareEnergy r (s.bankEnergy k r)).learnIdle k r (s.bankEnergy k r) (u.rd R.GL_BANK_FRAMES_FRAMES k)).ld (s.sharedAt r) 8
          = (u.shareEnergy r (s.bankEnergy k r)).ld (s.sharedAt r) 8 := State.ld_congr fun _ _ _ => by rw [hi.store]
      have hrest := hi.rd (g := H.GL_SHARED_RES) (by decide) r
      have hq := queuesBooked_frame ((u.shareEnergy r (s.bankEnergy k r)).learnIdle k r (s.bankEnergy k r) (u.rd R.GL_BANK_FRAMES_FRAMES k)) k
        (u.railQueues r) (fun _ => 0) (bitOf (u.rd H.GL_INEX_R k) r)
      rw [hbook]
      generalize (u.shareEnergy r (s.bankEnergy k r)).learnIdle k r (s.bankEnergy k r) (u.rd R.GL_BANK_FRAMES_FRAMES k) = v at *
      refine ⟨(glBase_congr (hq.rd (by decide) 0)).trans hbase, ?_, (hq.rd (by decide) r).trans (hrest.trans hres)⟩
      rw [← hshared, ← hwords]
      refine State.ld_congr fun b hb1 hb2 => queuesBooked_store fun q hm hpl => ?_
      have := (mem_railQueues hm).1
      rw [queuePlace_congr hbase] at hpl
      unfold State.queuePlace State.ledgerAt State.heftAt State.ewmaAt at hpl
      unfold State.sharedAt at hb1 hb2
      omega
    · obtain ⟨hbase, hshared, hres⟩ := hu
      have hf : Frame Frame.bookRailReach u (u.bookRail k r') := (Frame.refl u).bookRail
      refine ⟨(glBase_congr (hf.rd (by decide) 0)).trans hbase, ?_, (rd_bookRail_other (by decide) (by decide) (by decide) hne).trans hres⟩
      rw [← hshared]
      refine State.ld_congr fun b hb1 hb2 => bookRail_store ?_
      rw [← sharedAt_congr hbase] at hb1 hb2
      exact railPlace_not_shared hne hb1 hb2
  obtain ⟨-, hshared, hres⟩ := hbooked
  refine booking_completes hold h1 hs hw hp fun t hbytes hf => ⟨?_, (hf.rd (by decide) r).trans hres⟩
  rw [booked_ld hbytes (by unfold State.unitsAt State.sharedAt; omega) (by unfold State.ledgerGenAt State.sharedAt; omega), hshared]

/-! ## A rail whose queues have units -/

/-- What a queue's words hold once it is charged `c` (R386, R393). -/
def State.Charged (s : State) (q c : Nat) (inexact : Bool) (t : State) : Prop :=
  t.ld (s.ledgerAt q) 8 = (s.ld (s.ledgerAt q) 8 + c / 1024 + (s.ld (s.heftAt q) 4 / 65536 + c % 1024) / 1024) % 2 ^ 64
    ∧ t.ld (s.heftAt q) 4 / 65536 = (s.ld (s.heftAt q) 4 / 65536 + c % 1024) % 1024
    ∧ (inexact = true → bitOf (t.ld (s.heftAt q) 4) 5 = true)

/-- A queue's words keep what they hold where its bytes stay. -/
theorem State.Charged.keep {q c : Nat} {b : Bool} (h : s.Charged q c b u) (hb : ∀ a, s.queuePlace q a → memGet t.store a = memGet u.store a) :
    s.Charged q c b t := by
  have hledger : t.ld (s.ledgerAt q) 8 = u.ld (s.ledgerAt q) 8 := State.ld_congr fun a h1 h2 => hb a (.inl ⟨h1, h2⟩)
  have hheft : t.ld (s.heftAt q) 4 = u.ld (s.heftAt q) 4 := State.ld_congr fun a h1 h2 => hb a (.inr (.inl ⟨h1, h2⟩))
  unfold State.Charged
  rw [hledger, hheft]
  exact h

theorem queuesBooked_charges {q : Nat} {l : List Nat} {c : Nat → Nat} {b : Bool} (hnd : l.Nodup) (hl : ∀ p ∈ l, p < 4096) (hq : q ∈ l)
    (hin : u.glBase + 0x28A00 ≤ storeSize) : u.Charged q (c q) b (u.queuesBooked k l c b) := by
  refine foldl_oneOf hnd hq (I := fun v : State => v.glBase = u.glBase ∧ v.ld (u.ledgerAt q) 8 = u.ld (u.ledgerAt q) 8
      ∧ v.ld (u.heftAt q) 4 = u.ld (u.heftAt q) 4) (Q := fun v => v.glBase = u.glBase ∧ u.Charged q (c q) b v)
    (fun v p hp hne ⟨hbase, hledger, hheft⟩ => ?_) (fun v ⟨hbase, hledger, hheft⟩ => ?_) (fun v p hp hne ⟨hbase, hch⟩ => ?_) u
    ⟨rfl, rfl, rfl⟩ |>.2
  · have hkeep : ∀ a, u.queuePlace q a → memGet (v.bookQueue k p (c p) b).store a = memGet v.store a := fun a ha =>
      bookQueue_store (by rw [queuePlace_congr hbase]; exact queuePlace_apart (hl q hq) (hl p hp) (Ne.symm hne) ha)
    refine ⟨(glBase_congr (((Frame.refl v).bookQueue : Frame Frame.bookQueueReach v _).rd (by decide) 0)).trans hbase, ?_, ?_⟩
    · rw [← hledger]
      exact State.ld_congr fun a h1 h2 => hkeep a (.inl ⟨h1, h2⟩)
    · rw [← hheft]
      exact State.ld_congr fun a h1 h2 => hkeep a (.inr (.inl ⟨h1, h2⟩))
  · have hlat : v.ledgerAt q = u.ledgerAt q := by rw [State.ledgerAt, hbase, State.ledgerAt]
    have hhat : v.heftAt q = u.heftAt q := by rw [State.heftAt, hbase, State.heftAt]
    have hsays := bookQueue_says (s := v) (k := k) (q := q) (c := c q) (b := b) (hl q hq) (hbase ▸ hin)
    rw [hlat, hhat, hledger, hheft] at hsays
    exact ⟨(glBase_congr (((Frame.refl v).bookQueue : Frame Frame.bookQueueReach v _).rd (by decide) 0)).trans hbase, hsays⟩
  · refine ⟨(glBase_congr (((Frame.refl v).bookQueue : Frame Frame.bookQueueReach v _).rd (by decide) 0)).trans hbase, hch.keep fun a ha => ?_⟩
    exact bookQueue_store (by rw [queuePlace_congr hbase]; exact queuePlace_apart (hl q hq) (hl p hp) (Ne.symm hne) ha)

/-- A rail with units charges its queues, and its COST is set (R386, R389). -/
theorem bookRail_charges {q : Nat} (hr : r < 14) (hsum : s.unitsSum k r ≠ 0) (hq : q ∈ s.railQueues r) (hin : s.glBase + 0x28A00 ≤ storeSize) :
    s.Charged q (s.charge k r q) (bitOf (s.rd H.GL_INEX_R k) r) (s.bookRail k r)
      ∧ (s.bookRail k r).rd R.GL_RAIL_COST_COST r = min (2 ^ 32 - 1) (s.dynamicEnergy k r * 1000000 / (s.unitsSum k r * 1024)) := by
  have hc := queuesBooked_charges (u := s) (k := k) (c := s.charge k r) (b := bitOf (s.rd H.GL_INEX_R k) r) (railQueues_nodup s r)
    (fun p hp => (mem_railQueues hp).1) hq hin
  have hf := queuesBooked_frame s k (s.railQueues r) (s.charge k r) (bitOf (s.rd H.GL_INEX_R k) r)
  rw [bookRail_used hsum]
  generalize s.queuesBooked k (s.railQueues r) (s.charge k r) (bitOf (s.rd H.GL_INEX_R k) r) = v at *
  refine ⟨hc.keep fun a ha => ?_, ?_⟩
  · rw [State.wr_store]
    refine shareEnergy_store ?_
    have := (mem_railQueues hq).1
    rw [sharedAt_congr (glBase_congr (hf.rd (by decide) 0))]
    unfold State.queuePlace State.ledgerAt State.heftAt State.ewmaAt at ha
    unfold State.sharedAt
    omega
  · rw [State.rd_wr_self _ _ hr]
    exact Nat.mod_eq_of_lt (lt_of_le_of_lt (Nat.min_le_left _ _) (by decide))

theorem booking_usedRail {q : Nat} (hold : s.oldestReady = some k) (h1 : s.hartUp 1 = true) (hs : s.shedAt 3 = false)
    (hw : s.bookingWaits = false) (hin : s.glBase + 0x28A00 ≤ storeSize) (hp : s.peerCompares = false) (hr : r ∈ railList s.zk4)
    (hsum : s.unitsSum k r ≠ 0) (hq : q ∈ s.railQueues r) :
    Completes (.bankBooking k) s fun t => s.Charged q (s.charge k r q) (bitOf (s.rd H.GL_INEX_R k) r) t
      ∧ t.rd R.GL_RAIL_COST_COST r = min (2 ^ 32 - 1) (s.dynamicEnergy k r * 1000000 / (s.unitsSum k r * 1024)) := by
  have hk := (oldestReady_says hold).1
  have hr14 := railList_lt hr
  have hbooked : (s.railsBooked k).glBase = s.glBase ∧ (s.railsBooked k).zk4 = s.zk4
      ∧ s.Charged q (s.charge k r q) (bitOf (s.rd H.GL_INEX_R k) r) (s.railsBooked k)
      ∧ (s.railsBooked k).rd R.GL_RAIL_COST_COST r = min (2 ^ 32 - 1) (s.dynamicEnergy k r * 1000000 / (s.unitsSum k r * 1024)) := by
    refine railsBooked_once (Q := fun u : State => u.glBase = s.glBase ∧ u.zk4 = s.zk4
      ∧ s.Charged q (s.charge k r q) (bitOf (s.rd H.GL_INEX_R k) r) u
      ∧ u.rd R.GL_RAIL_COST_COST r = min (2 ^ 32 - 1) (s.dynamicEnergy k r * 1000000 / (s.unitsSum k r * 1024))) hr (fun u hu => ?_)
      fun u r' hne hu => ?_
    · have hf : Frame Frame.bookRailReach u (u.bookRail k r) := (Frame.refl u).bookRail
      obtain ⟨hch, hcost⟩ := bookRail_charges (s := u) (q := q) hr14 (by rwa [hu.unitsSum hk]) (by rwa [railQueues_congr hu.zk4]) (hu.base ▸ hin)
      have hlat : u.ledgerAt q = s.ledgerAt q := by rw [State.ledgerAt, hu.base, State.ledgerAt]
      have hhat : u.heftAt q = s.heftAt q := by rw [State.heftAt, hu.base, State.heftAt]
      rw [hu.dynamicEnergy hk hr14, hu.unitsSum hk] at hcost
      rw [hu.charge hk hr14 hq, hu.frame.rd (g := H.GL_INEX_R) (by decide) k] at hch
      unfold State.Charged at hch
      rw [hu.ledger hq, hu.heft hq, hlat, hhat] at hch
      exact ⟨(glBase_congr (hf.rd (by decide) 0)).trans hu.base, by rw [State.zk4, hf.ident]; exact hu.zk4, hch, hcost⟩
    · obtain ⟨hbase, hz, hch, hcost⟩ := hu
      have hf : Frame Frame.bookRailReach u (u.bookRail k r') := (Frame.refl u).bookRail
      refine ⟨(glBase_congr (hf.rd (by decide) 0)).trans hbase, by rw [State.zk4, hf.ident]; exact hz, hch.keep fun a ha => ?_,
        (rd_bookRail_other (by decide) (by decide) (by decide) hne).trans hcost⟩
      exact bookRail_store (by rw [railPlace_congr hz hbase]; exact railPlace_not_queue hq hne ha)
  obtain ⟨-, -, hch, hcost⟩ := hbooked
  refine booking_completes hold h1 hs hw hp fun t hbytes hf => ⟨hch.keep fun a ha => hbytes a ?_ ?_, (hf.rd (by decide) r).trans hcost⟩
  all_goals
    have := (mem_railQueues hq).1
    unfold State.queuePlace State.ledgerAt State.heftAt State.ewmaAt at ha
  · unfold State.unitsAt
    omega
  · unfold State.ledgerGenAt
    omega

/-- Settles O42, clause by clause: usage enters its bank, a closed bank is READY, and the oldest is booked rail by rail. -/
theorem banksTakeUsageAndAreBooked : Obligations.BanksTakeUsageAndAreBooked := by
  unfold Obligations.BanksTakeUsageAndAreBooked
  refine ⟨fun _ _ _ => usage_enters, fun _ _ _ _ _ => usageEnd_counts, fun _ _ => bankReady_exact, fun _ _ => bankReady_inexact,
    fun _ _ => booking_frees, fun _ _ _ => booking_idleRail, fun _ _ _ => release_frees, fun _ _ => usage_idle,
    fun _ _ _ => usage_late, fun _ _ _ => usage_overflows, fun _ _ _ => usage_uncorrectable, fun _ _ _ _ => usageEnd_idle,
    fun _ _ => bankReady_idle, fun _ _ => bankBooking_idle, fun _ _ _ => release_idle, ?_⟩
  intro s k r q u e idle c hold h1 hs hw hin hp hr hu hne he hidle hq hc
  have hsum : u = s.unitsSum k r := hu
  have hdyn : e - idle = s.dynamicEnergy k r := by rw [hidle, he, State.dynamicEnergy]
  have hcharge : c = s.charge k r q := by rw [hc, hdyn, hsum, State.charge]
  obtain ⟨t, hexec, ⟨hledger, hheft, hinexact⟩, hcost⟩ := booking_usedRail hold h1 hs hw hin hp hr (hsum ▸ hne) hq
  rw [← hcharge] at hledger hheft
  rw [← hdyn, ← hsum] at hcost
  exact ⟨t, hexec, hledger, hheft, hcost, hinexact⟩

end Sys2Proof.Machine
end

section
/-! The Tally's writer: where a record goes, and what it leaves (R559, R618–R624). -/

set_option Elab.async false

namespace Sys2Proof.Machine

variable {s t u : State}

/-! ## A fault source's event drops no count of dropped records -/

/-- What an event of a fault source may write but for the records that it drops. -/
def raisedFields : List Fld :=
  [R.FLT_KIND_QUIET_RAISED, R.FLT_SRC_COUNT_WIN_LEFT, R.FLT_SRC_STATE_EVENTS, R.FLT_SRC_STATE_INJECTED, R.FLT_SRC_STATE_CLASS,
   R.FLT_SRC_STATE_STATE, H.FLT_SEV_DUE, R.FLT_LAST_STATE, R.FLT_LAST_CLASS, R.FLT_LAST_KIND, R.FLT_LAST_SOURCE,
   R.FLT_LAST_FRAME_FRAME, R.FLT_STATUS_QLOST, R.HOST_STAT_EV_LOST, R.RING_POS_CPL_TAIL, R.HOST_IRQ_CPL, R.HOST_IRQ_EVENT,
   R.HOST_IRQ_MBOX, R.HOST_IRQ_MBOX_ACK, R.HOST_IRQ_LOG, R.HOST_IRQ_UNATT, H.STORE_ECC] ++ testFields

/-- The reach of an event before its record. -/
abbrev raisedReach : Reach := .fault raisedFields

namespace Raising

theorem noteChange (h : Frame raisedReach s t) (n : Nat) : Frame raisedReach s (t.noteChange n) := by
  have post (u : State) (hu : Frame raisedReach s u) (e : FltEvent) : Frame raisedReach s (u.postEvent e) :=
    .ite (.ite hu.inc (((hu.stBytes).wr).hostIrq.hostIrq)) hu
  have drain (u : State) (hu : Frame raisedReach s u) : Frame raisedReach s u.drainEvents :=
    .ite ((hu.setFltQueue (x := [])).foldl fun v e hv => post v hv e) hu
  have hw := h.wr (f := R.FLT_LAST_STATE) (i := 0) (v := t.rd R.FLT_SRC_STATE_STATE n) |>.wr (f := R.FLT_LAST_CLASS) (i := 0)
    (v := t.rd R.FLT_SRC_STATE_CLASS n)
  unfold State.noteChange State.pushEvent
  dsimp only
  refine drain _ (.ite (Frame.inc (.setFltQueue ?_)) (.setFltQueue ?_)) <;> exact hw.wr.wr.wr

theorem countEvent (h : Frame raisedReach s t) (n k : Nat) : Frame raisedReach s (t.countEvent n k) := .ite h.inc.wr.wr h.inc.inc

theorem enterState (h : Frame raisedReach s t) (n st : Nat) : Frame raisedReach s (t.enterState n st) := noteChange h.wr n

end Raising

/-- A count that saturates does not fall. -/
theorem inc_dropped (s : State) (n : Nat) : s.rd R.TALLY_DROPPED_DROPPED 0 ≤ (s.inc R.TALLY_DROPPED_DROPPED 0 n).rd R.TALLY_DROPPED_DROPPED 0 := by
  have hlt := State.rd_lt s R.TALLY_DROPPED_DROPPED 0
  rw [State.inc, State.rd_wr_self _ _ (by decide), satAdd_mod, satAdd]
  omega

theorem tally_dropped (s : State) (ch sev code d0 d1 : Nat) (inj : Bool) :
    s.rd R.TALLY_DROPPED_DROPPED 0 ≤ (s.tally ch sev code d0 d1 inj).rd R.TALLY_DROPPED_DROPPED 0 := by
  unfold State.tally
  dsimp only
  split <;> split
  · exact le_rfl
  · exact inc_dropped s 1
  · exact le_rfl
  · exact inc_dropped s 1

theorem raise_dropped (s : State) (n cls : Nat) (inj : Bool) :
    s.rd R.TALLY_DROPPED_DROPPED 0 ≤ (s.raise n cls inj).rd R.TALLY_DROPPED_DROPPED 0 := by
  have record (u : State) (hu : Frame raisedReach s u) (c : Bool) :
      s.rd R.TALLY_DROPPED_DROPPED 0 ≤ (u.when c (fun t => t.srcRecord n)).rd R.TALLY_DROPPED_DROPPED 0 := by
    rw [← hu.rd (g := R.TALLY_DROPPED_DROPPED) (by decide +kernel) 0]
    cases c
    · exact le_rfl
    · exact tally_dropped u _ _ _ _ _ _
  unfold State.raise
  split
  · exact le_rfl
  · dsimp only
    split
    · exact le_rfl
    · refine record _ ?_ _
      have h2 {k c : Nat} {d : Bool} : Frame raisedReach s ((((s.countEvent n k).wrB R.FLT_SRC_STATE_INJECTED n inj).wr R.FLT_SRC_STATE_CLASS n
          c).when d (fun t => t.wr H.FLT_SEV_DUE n 1)) := (Raising.countEvent (.refl s) n k).wrB.wr.when fun _ hu => hu.wr
      exact .ite (.ite h2.startTest (Raising.enterState h2.wr.startTest n 5).nmiAll)
        (.ite h2 (.ite h2.startTest (Raising.enterState h2.startTest n 1)))

theorem eccEvent_dropped (u : State) (k e : Nat) :
    u.rd R.TALLY_DROPPED_DROPPED 0 ≤ (u.eccEvent k e).rd R.TALLY_DROPPED_DROPPED 0 := by
  unfold State.eccEvent
  dsimp only
  split
  · have hw : Frame (.regs [H.STORE_ECC, R.STORE_STAT_CE, H.STORE_FROW]) u
      (((u.wr H.STORE_ECC k 0).inc R.STORE_STAT_CE 0 1).wr H.STORE_FROW (k / 16384 % 16) (k / 64 + 1)) := (Frame.refl u).wr.inc.wr
    exact (hw.rd (g := R.TALLY_DROPPED_DROPPED) (by decide) 0).ge.trans (raise_dropped _ _ _ _)
  · split
    · have hw : Frame (.regs [H.STORE_ECC, R.STORE_STAT_UE, R.STORE_UE_VALID, R.STORE_UE_ADDR, H.STORE_FROW]) u
        (((((u.wr H.STORE_ECC k e).inc R.STORE_STAT_UE 0 1).wr R.STORE_UE_VALID 0 1).wr R.STORE_UE_ADDR 0 k).wr H.STORE_FROW
          (k / 16384 % 16) (k / 64 + 1)) := (Frame.refl u).wr.inc.wr.wr.wr
      exact (hw.rd (g := R.TALLY_DROPPED_DROPPED) (by decide) 0).ge.trans (raise_dropped _ _ _ _)
    · exact le_rfl

theorem dmaRead_dropped (s : State) (a n : Nat) : s.rd R.TALLY_DROPPED_DROPPED 0 ≤ (s.dmaRead a n).rd R.TALLY_DROPPED_DROPPED 0 :=
  List.foldlRecOn (s.touched H.STORE_ECC) _ (motive := fun u : State => s.rd R.TALLY_DROPPED_DROPPED 0 ≤ u.rd R.TALLY_DROPPED_DROPPED 0) le_rfl
    fun u hu k _ => hu.trans (by
      unfold State.when
      split
      · exact eccEvent_dropped u k _
      · exact le_rfl)

/-- A range with an uncorrectable word that is read is recorded (R558). -/
theorem dmaRead_poisoned {a n : Nat} (h : s.poisonedIn a n = true) : (s.dmaRead a n).bit R.STORE_UE_VALID 0 = true := by
  obtain ⟨k, hk, hp⟩ := List.any_eq_true.1 h
  rw [Bool.and_eq_true, beq_iff_eq] at hp
  obtain ⟨hin, he⟩ := hp
  refine foldl_at hk (I := fun _ => True) (Q := fun u : State => u.bit R.STORE_UE_VALID 0 = true) (fun _ _ _ => trivial) (fun u _ => ?_)
    (fun u k _ hu => when_recorded hu _ _ _) s trivial
  rw [hin, State.when_true]
  exact eccEvent_records u _ he

/-! ## Where a record goes -/

theorem firstEmpty_lt {n i j : Nat} (h : s.firstEmpty i n = some j) : j < i + n := by
  induction n generalizing i with
  | zero => cases h
  | succ n ih =>
    rw [State.firstEmpty] at h
    split at h
    · have := ih h
      omega
    · cases h
      omega

theorem oldestUpTo_held {sev i : Nat} (h : s.oldestUpTo sev = some i) : i ∈ s.heldSlots := by
  have hall : ∀ j, s.oldestUpTo sev = some j → j ∈ s.heldSlots := by
    unfold State.oldestUpTo
    refine List.foldlRecOn (s.heldSlots.filter fun i => decide (s.recSev i ≤ sev)) _
      (motive := fun b : Option Nat => ∀ j, b = some j → j ∈ s.heldSlots) nofun fun b hb x hx j hj => ?_
    have hx' := (List.mem_filter.1 hx).1
    split at hj
    · cases hj
      exact hx'
    · next y =>
      split at hj
      · cases hj
        exact hx'
      · exact hb j hj
  exact hall i h

theorem slotFor_lt {sev i : Nat} (h : s.slotFor sev = some i) : i < 4096 := by
  unfold State.slotFor at h
  split at h
  · next hj =>
    cases h
    simpa using firstEmpty_lt hj
  · exact List.mem_range.1 (List.mem_filter.1 (oldestUpTo_held h)).1

theorem length_formRecord (s : State) (q : TallyReq) : (s.formRecord q).length = 28 := by
  simp only [State.formRecord, List.length_append, length_toLeBytes]

theorem recHeld_congr (h : t.store = s.store) (i : Nat) : t.recHeld i = s.recHeld i := by
  simp only [State.recHeld, State.recCh, State.recordBytes, State.ld, h]

theorem firstEmpty_congr (h : t.store = s.store) (i n : Nat) : t.firstEmpty i n = s.firstEmpty i n := by
  induction n generalizing i with
  | zero => rfl
  | succ n ih => rw [State.firstEmpty, recHeld_congr h, ih, State.firstEmpty]

theorem slotFor_congr (h : t.store = s.store) (sev : Nat) : t.slotFor sev = s.slotFor sev := by
  have hheld : t.heldSlots = s.heldSlots := List.filter_congr fun i _ => recHeld_congr h i
  have hold : t.oldestUpTo sev = s.oldestUpTo sev := by
    simp only [State.oldestUpTo, hheld, State.recSev, State.recOlder, State.recSec, State.recSeq, State.ld, h]
    rfl
  unfold State.slotFor
  rw [firstEmpty_congr h, hold]

/-! ## A record is placed -/

/-- A record with its check word, under the next sequence number (R618, R624). -/
def State.recordPlaced (s : State) (q : TallyReq) (i : Nat) : State :=
  (((s.stBytes (tallyAt i) (s.formRecord q)).st (tallyAt i + 28) 4 (recordCheck (q.channel % 32) (s.formRecord q))).wr
    R.TALLY_SEQ_NEXT_SEQ 0 ((s.rd R.TALLY_SEQ_NEXT_SEQ 0 + 1) % 2 ^ 32)).when (decide (q.channel < 4)) (fun t => t.wr H.TALLY_PEND 0 1)

section
variable {q : TallyReq} {i : Nat}

theorem placeRecord_none (h : s.slotFor q.severity = none) : s.placeRecord q = s.inc R.TALLY_DROPPED_DROPPED 0 1 := by
  unfold State.placeRecord
  simp only [h]

theorem placeRecord_poisoned (h : s.slotFor q.severity = some i) (hp : s.poisonedIn (tallyAt i) 32 = true) :
    s.placeRecord q = (s.dmaRead (tallyAt i) 32).inc R.TALLY_DROPPED_DROPPED 0 1 := by
  unfold State.placeRecord
  simp only [h, hp, if_true]

theorem placeRecord_placed (h : s.slotFor q.severity = some i) (hp : s.poisonedIn (tallyAt i) 32 = false) :
    s.placeRecord q = s.recordPlaced q i := by
  unfold State.placeRecord
  simp only [h, hp, Bool.false_eq_true, if_false]
  rfl

theorem recordPlaced_frame (s : State) (q : TallyReq) (i : Nat) :
    Frame ⟨[.store], [R.TALLY_SEQ_NEXT_SEQ, H.STORE_ECC, H.TALLY_PEND]⟩ s (s.recordPlaced q i) :=
  (Frame.refl s).stBytes.st.wr.when fun _ hu => hu.wr

/-- The writer takes the oldest record of its queue (R623). -/
def State.recordTaken (s : State) (l : List TallyReq) : State := { s with tallyQueue := l }

theorem recordTaken_frame (s : State) (l : List TallyReq) : Frame ⟨[.tallyQueue], []⟩ s (s.recordTaken l) := (Frame.refl s).setTallyQueue

theorem exec_tallyRecordPlace {l : List TallyReq} (h : s.tallyQueue = q :: l) :
    exec .tallyRecordPlace s = (((s.recordTaken l).placeRecord q).flushStep).go := by
  change execTallyRecordPlace s = _
  unfold execTallyRecordPlace
  simp only [h]
  rfl

theorem tallyRecordPlace_idle (h : s.tallyQueue = []) : exec .tallyRecordPlace s = .next s := by
  change execTallyRecordPlace s = _
  unfold execTallyRecordPlace
  simp only [h]
  rfl

theorem flushStep_frame (s : State) : Frame Frame.flushStepReach s s.flushStep := (Frame.refl s).flushStep

/-- No flush starts that has not been asked for. -/
theorem flushStep_unasked (h : s.bit H.TALLY_PEND 0 = false) : s.flushStep = s := by
  unfold State.flushStep
  simp only [h, Bool.false_and, Bool.false_eq_true, if_false]

theorem recordPlaced_says (hi : i < 4096) :
    memGetBytes (s.recordPlaced q i).store (tallyAt i) 28 = s.formRecord q
      ∧ (s.recordPlaced q i).ld (tallyAt i + 28) 4 = recordCheck (q.channel % 32) (s.formRecord q) % 2 ^ 32
      ∧ (s.recordPlaced q i).rd R.TALLY_SEQ_NEXT_SEQ 0 = (s.rd R.TALLY_SEQ_NEXT_SEQ 0 + 1) % 2 ^ 32
      ∧ SameStoreBut (tallyAt i) 32 s (s.recordPlaced q i) := by
  have hin : tallyAt i + 32 ≤ storeSize := by unfold tallyAt storeSize; omega
  have hlast : Frame (.regs [R.TALLY_SEQ_NEXT_SEQ, H.TALLY_PEND]) ((s.stBytes (tallyAt i) (s.formRecord q)).st (tallyAt i + 28) 4
      (recordCheck (q.channel % 32) (s.formRecord q))) (s.recordPlaced q i) := (Frame.refl _).wr.when fun _ hu => hu.wr
  have hpend : Frame (.regs [H.TALLY_PEND]) (((s.stBytes (tallyAt i) (s.formRecord q)).st (tallyAt i + 28) 4
      (recordCheck (q.channel % 32) (s.formRecord q))).wr R.TALLY_SEQ_NEXT_SEQ 0 ((s.rd R.TALLY_SEQ_NEXT_SEQ 0 + 1) % 2 ^ 32))
      (s.recordPlaced q i) := (Frame.refl _).when fun _ hu => hu.wr
  have hb := s.sameStoreBut_stBytes (tallyAt i) (s.formRecord q)
  have hbytes := memGetBytes_memPutBytes (tallyAt i) (s.formRecord q) s.store (by rw [length_formRecord]; omega)
  rw [length_formRecord] at hb hbytes
  have hs := State.sameStoreBut_st (s.stBytes (tallyAt i) (s.formRecord q)) (tallyAt i + 28) 4 (recordCheck (q.channel % 32) (s.formRecord q))
  refine ⟨?_, ?_, ?_, fun a ha => ?_⟩
  · rw [hlast.store, memGetBytes_congr fun b _ hb' => hs b (.inl hb')]
    exact hbytes
  · have hld : (s.recordPlaced q i).ld (tallyAt i + 28) 4 = ((s.stBytes (tallyAt i) (s.formRecord q)).st (tallyAt i + 28) 4
        (recordCheck (q.channel % 32) (s.formRecord q))).ld (tallyAt i + 28) 4 := State.ld_congr fun _ _ _ => by rw [hlast.store]
    exact hld.trans (State.ld_st_same _ (by omega) _)
  · rw [hpend.rd (by decide), State.rd_wr_self _ _ (by decide)]
    exact Nat.mod_mod _ _
  · rw [hlast.store, hs a (by omega), hb a (by omega)]

theorem recordPlaced_queue (s : State) (l : List TallyReq) (q : TallyReq) (i : Nat) :
    ((s.recordTaken l).recordPlaced q i).flushStep.tallyQueue = l := by
  have hflush : ((s.recordTaken l).recordPlaced q i).flushStep.tallyQueue = ((s.recordTaken l).recordPlaced q i).tallyQueue :=
    (flushStep_frame _).parts .tallyQueue rfl
  have hplace : ((s.recordTaken l).recordPlaced q i).tallyQueue = (s.recordTaken l).tallyQueue := (recordPlaced_frame _ q i).parts .tallyQueue rfl
  rw [hflush, hplace]
  rfl

theorem onlyPlaced {l : List TallyReq} {fs : List Fld} (h : Frame ⟨[.store, .tallyQueue, .mirror, .flush], fs⟩ s t) (hq : t.tallyQueue = l) :
    t = { s with regs := t.regs, store := t.store, tallyQueue := l, mirror := t.mirror, flush := t.flush } := by
  have hp (p : Part) (hp : (⟨[.store, .tallyQueue, .mirror, .flush], fs⟩ : Reach).hasPart p = false) : p.Same s t := h.parts p hp
  have h1 := hp .ident rfl
  have h3 := hp .map rfl
  have h4 := hp .staged rfl
  have h5 := hp .mesh rfl
  have h6 := hp .sched rfl
  have h7 := hp .sweeps rfl
  have h8 := hp .fifo rfl
  have h9 := hp .fltQueue rfl
  have h11 := hp .tallyStage rfl
  have h14 := hp .shadows rfl
  have h15 := hp .out rfl
  have h16 := hp .resp rfl
  have h17 := hp .free rfl
  have h18 := hp .pending rfl
  cases s
  cases t
  simp_all [Part.Same]

theorem record_placed {l : List TallyReq} (hq : s.tallyQueue = q :: l) (hi : s.slotFor q.severity = some i)
    (hp : s.poisonedIn (tallyAt i) 32 = false) :
    Completes .tallyRecordPlace s fun t =>
      t.tallyQueue = l ∧ memGetBytes t.store (tallyAt i) 28 = s.formRecord q
        ∧ t.ld (tallyAt i + 28) 4 = recordCheck (q.channel % 32) (s.formRecord q) % 2 ^ 32
        ∧ t.rd R.TALLY_SEQ_NEXT_SEQ 0 = (s.rd R.TALLY_SEQ_NEXT_SEQ 0 + 1) % 2 ^ 32 ∧ SameStoreBut (tallyAt i) 32 s t
        ∧ OnlyKinds [R.TALLY_SEQ_NEXT_SEQ, H.STORE_ECC, H.TALLY_PEND, R.TALLY_STAT_FLUSHING, H.TALLY_LAST_SLOT] s t
        ∧ t = { s with regs := t.regs, store := t.store, tallyQueue := l, mirror := t.mirror, flush := t.flush } := by
  have ht := recordTaken_frame s l
  have hplace : (s.recordTaken l).placeRecord q = (s.recordTaken l).recordPlaced q i :=
    placeRecord_placed ((slotFor_congr ht.store _).trans hi) hp
  obtain ⟨hbytes, hcheck, hseq, hstore⟩ := recordPlaced_says (s := s.recordTaken l) (q := q) (slotFor_lt hi)
  have hr := recordPlaced_frame (s.recordTaken l) q i
  have hf := flushStep_frame ((s.recordTaken l).recordPlaced q i)
  have hexec := exec_tallyRecordPlace hq
  rw [hplace] at hexec
  have hform : (s.recordTaken l).formRecord q = s.formRecord q := rfl
  rw [hform] at hbytes hcheck
  have hall : Frame ⟨[.store, .tallyQueue, .mirror, .flush], [R.TALLY_SEQ_NEXT_SEQ, H.STORE_ECC, H.TALLY_PEND, R.TALLY_STAT_FLUSHING,
      H.TALLY_LAST_SLOT]⟩ s ((s.recordTaken l).recordPlaced q i).flushStep := (((Frame.refl s).andThen ht).andThen hr).andThen hf
  have hqueue : ((s.recordTaken l).recordPlaced q i).flushStep.tallyQueue = l := recordPlaced_queue s l q i
  refine .of_go hexec ⟨hqueue, by rw [hf.store, hbytes], ?_, ?_, fun a ha => ?_, hall.kinds, ?_⟩
  · exact (State.ld_congr fun _ _ _ => by rw [hf.store]).trans hcheck
  · rw [hf.rd (by decide), hseq]
    rfl
  · rw [hf.store, hstore a ha, ht.store]
  · generalize ((s.recordTaken l).recordPlaced q i).flushStep = v at *
    exact onlyPlaced hall hqueue

theorem record_placed_or_dropped {l : List TallyReq} (hq : s.tallyQueue = q :: l) (hp : ∀ i < 4096, s.poisonedIn (tallyAt i) 32 = false)
    (hpend : s.bit H.TALLY_PEND 0 = false) :
    Completes .tallyRecordPlace s fun t =>
      t.tallyQueue = l
        ∧ t.rd R.TALLY_DROPPED_DROPPED 0
          = (if s.slotFor q.severity = none then satAdd R.TALLY_DROPPED_DROPPED.wid (s.rd R.TALLY_DROPPED_DROPPED 0) 1
             else s.rd R.TALLY_DROPPED_DROPPED 0)
        ∧ (s.slotFor q.severity = none → OnlyKinds [R.TALLY_DROPPED_DROPPED] s t ∧ t = { s with regs := t.regs, tallyQueue := l }) := by
  have ht := recordTaken_frame s l
  have hexec := exec_tallyRecordPlace hq
  obtain hnone | ⟨i, hi⟩ := Option.eq_none_or_eq_some (s.slotFor q.severity)
  · have hno : ((s.recordTaken l).inc R.TALLY_DROPPED_DROPPED 0 1).bit H.TALLY_PEND 0 = false := (State.bit_inc_apart _ (by decide) 0 0 1).trans hpend
    rw [placeRecord_none ((slotFor_congr ht.store _).trans hnone), flushStep_unasked hno] at hexec
    refine .of_go hexec ⟨rfl, ?_, fun _ => ⟨?_, rfl⟩⟩
    · rw [if_pos hnone, State.inc, State.rd_wr_self _ _ (by decide), satAdd_mod]
      rfl
    · exact ((Frame.refl s).andThen ht |>.inc : Frame ⟨[.tallyQueue], [R.TALLY_DROPPED_DROPPED]⟩ s _).kinds
  · have hr := recordPlaced_frame (s.recordTaken l) q i
    have hf := flushStep_frame ((s.recordTaken l).recordPlaced q i)
    have hsome : s.slotFor q.severity ≠ none := by rw [hi]; exact Option.some_ne_none i
    rw [placeRecord_placed ((slotFor_congr ht.store _).trans hi) (hp i (slotFor_lt hi))] at hexec
    refine .of_go hexec ⟨recordPlaced_queue s l q i, ?_, fun h => absurd h hsome⟩
    rw [if_neg hsome, hf.rd (by decide), hr.rd (by decide), ht.rd (by decide)]

theorem record_meets_uncorrectable {l : List TallyReq} (hq : s.tallyQueue = q :: l) (hi : s.slotFor q.severity = some i)
    (hp : s.poisonedIn (tallyAt i) 32 = true) (hd : s.rd R.TALLY_DROPPED_DROPPED 0 < 2 ^ 31) :
    Completes .tallyRecordPlace s fun t =>
      s.rd R.TALLY_DROPPED_DROPPED 0 < t.rd R.TALLY_DROPPED_DROPPED 0 ∧ t.rd R.TALLY_SEQ_NEXT_SEQ 0 = s.rd R.TALLY_SEQ_NEXT_SEQ 0
        ∧ t.bit R.STORE_UE_VALID 0 = true := by
  have ht := recordTaken_frame s l
  have hexec := exec_tallyRecordPlace hq
  have hue := dmaRead_poisoned (s := s.recordTaken l) hp
  have hmono := dmaRead_dropped (s.recordTaken l) (tallyAt i) 32
  rw [placeRecord_poisoned ((slotFor_congr ht.store _).trans hi) hp] at hexec
  have hr : Frame Frame.dmaReadReach (s.recordTaken l) ((s.recordTaken l).dmaRead (tallyAt i) 32) := (Frame.refl _).dmaRead
  generalize (s.recordTaken l).dmaRead (tallyAt i) 32 = u at *
  have hf := flushStep_frame (u.inc R.TALLY_DROPPED_DROPPED 0 1)
  have hlt := State.rd_lt u R.TALLY_DROPPED_DROPPED 0
  refine .of_go hexec ⟨?_, ?_, ?_⟩
  · rw [hf.rd (by decide), State.inc, State.rd_wr_self _ _ (by decide), satAdd_mod, satAdd, ← ht.rd (g := R.TALLY_DROPPED_DROPPED) (by decide)]
    rw [← ht.rd (g := R.TALLY_DROPPED_DROPPED) (by decide)] at hd
    change u.rd R.TALLY_DROPPED_DROPPED 0 < 2 ^ 32 at hlt
    change _ < min (2 ^ 32 - 1) _
    omega
  · rw [hf.rd (by decide), State.rd_inc_apart _ (by decide), hr.rd (by decide +kernel), ht.rd (by decide)]
  · rw [hf.bit (by decide), State.bit_inc_apart _ (by decide), hue]

end

end Sys2Proof.Machine
end

section
/-! The Tally's flushes, submits and counts: O40. -/

set_option Elab.async false

namespace Sys2Proof.Machine

variable {s t u : State}

/-! ## A flush starts -/

/-- What a flush writes as it starts: the region as it stands, in the chosen slot, under the next GEN (R629). -/
def State.flushImage (s : State) : MirrorSlot :=
  ⟨s.chosenSlot, (match newestMirror s.mirror with | some m => m.gen + 1 | none => 1), s.rd R.TALLY_SECONDS_SECONDS 0,
    s.rd R.TALLY_CYCLES_CYCLES 0, s.rd R.TALLY_DROPPED_DROPPED 0, s.rd R.TALLY_SEQ_NEXT_SEQ 0, s.tallyImage⟩

/-- The chosen slot is erased, and what the flush writes is taken (R629). -/
def State.flushBegun (s : State) : State :=
  { s with mirror := s.mirror.filter (fun (m : MirrorSlot) => m.slot != s.chosenSlot), flush := some s.flushImage }

/-- The flush runs. -/
def State.flushStarted (s : State) : State :=
  ((s.flushBegun.wr R.TALLY_STAT_FLUSHING 0 1).wr H.TALLY_PEND 0 0).wr H.TALLY_LAST_SLOT 0 s.chosenSlot

theorem flushStep_starts (hp : s.bit H.TALLY_PEND 0 = true) (hf : s.bit R.TALLY_STAT_FLUSHING 0 = false)
    (hh : s.hartUp s.flushHart = true) (hr : s.bit R.TALLY_STAT_RESTORED 0 = true) : s.flushStep = s.flushStarted := by
  unfold State.flushStep
  simp only [hp, hf, hh, hr, Bool.not_false, Bool.and_self, if_true]
  rfl

theorem flushStep_waits (h : s.bit R.TALLY_STAT_FLUSHING 0 = true ∨ s.hartUp s.flushHart = false ∨ s.bit R.TALLY_STAT_RESTORED 0 = false) :
    s.flushStep = s := by
  unfold State.flushStep
  rw [if_neg]
  obtain h | h | h := h <;> simp [h]

theorem flushStarted_says (s : State) : s.flushStarted.flush = some s.flushImage
    ∧ s.flushStarted.mirror = s.mirror.filter (fun m => m.slot != s.chosenSlot)
    ∧ s.flushStarted.bit R.TALLY_STAT_FLUSHING 0 = true ∧ s.flushStarted.bit H.TALLY_PEND 0 = false := by
  refine ⟨rfl, rfl, ?_, ?_⟩
  · unfold State.flushStarted
    rw [State.bit_wr_apart _ (by decide), State.bit_wr_apart _ (by decide)]
    exact State.bit_set _ (by decide) rfl
  · unfold State.flushStarted
    rw [State.bit_wr_apart _ (by decide)]
    exact State.bit_unset _ (by decide)

/-- A flush is asked for. -/
def State.flushAsked (s : State) : State := s.wr H.TALLY_PEND 0 1

theorem askFlush_eq (s : State) : s.askFlush = s.flushAsked.flushStep := rfl

theorem flushAsked_frame (s : State) : Frame (.regs [H.TALLY_PEND]) s s.flushAsked := (Frame.refl s).wr

theorem flushAsked_pend (s : State) : s.flushAsked.bit H.TALLY_PEND 0 = true := State.bit_set _ (by decide) rfl

theorem chosenSlot_congr (h1 : t.rd R.TALLY_MIRROR_SLOT 0 = s.rd R.TALLY_MIRROR_SLOT 0) (h2 : t.rd H.TALLY_LAST_SLOT 0 = s.rd H.TALLY_LAST_SLOT 0) :
    t.chosenSlot = s.chosenSlot := by
  unfold State.chosenSlot
  rw [h1, h2]

theorem hartUp_congr (k : Nat) (h : t.rd R.FW_HART_STAT_STATE k = s.rd R.FW_HART_STAT_STATE k) : t.hartUp k = s.hartUp k := by
  rw [State.hartUp, h, State.hartUp]

theorem flushHart_congr (h : t.bit R.STATUS_SAFE_GOV 0 = s.bit R.STATUS_SAFE_GOV 0) : t.flushHart = s.flushHart := by
  rw [State.flushHart, h, State.flushHart]

theorem flushAsked_hart (s : State) : s.flushAsked.hartUp s.flushAsked.flushHart = s.hartUp s.flushHart := by
  rw [flushHart_congr ((flushAsked_frame s).bit (by decide) 0), hartUp_congr _ ((flushAsked_frame s).rd (by decide) _)]

theorem flushAsked_chosen (s : State) : s.flushAsked.chosenSlot = s.chosenSlot :=
  chosenSlot_congr ((flushAsked_frame s).rd (by decide) 0) ((flushAsked_frame s).rd (by decide) 0)

theorem flushAsked_image (s : State) : s.flushAsked.flushImage = s.flushImage := by
  have hf := flushAsked_frame s
  have hm : s.flushAsked.mirror = s.mirror := hf.parts .mirror rfl
  have hi : s.flushAsked.tallyImage = s.tallyImage := by rw [State.tallyImage, hf.store, State.tallyImage]
  unfold State.flushImage
  rw [flushAsked_chosen, hm, hi, hf.rd (by decide), hf.rd (by decide), hf.rd (by decide), hf.rd (by decide)]

/-- Where none runs, its hart is up and the restore has ended, it starts with the region as it stands (R630). -/
theorem askFlush_starts (hf : s.bit R.TALLY_STAT_FLUSHING 0 = false) (hh : s.hartUp s.flushHart = true)
    (hr : s.bit R.TALLY_STAT_RESTORED 0 = true) : s.askFlush.flush = some s.flushImage
      ∧ s.askFlush.mirror = s.mirror.filter (fun m => m.slot != s.chosenSlot)
      ∧ s.askFlush.bit R.TALLY_STAT_FLUSHING 0 = true ∧ s.askFlush.bit H.TALLY_PEND 0 = false := by
  have ha := flushAsked_frame s
  rw [askFlush_eq, flushStep_starts (flushAsked_pend s) ((ha.bit (by decide) 0).trans hf) ((flushAsked_hart s).trans hh)
    ((ha.bit (by decide) 0).trans hr), ← flushAsked_image s, ← flushAsked_chosen s]
  exact flushStarted_says s.flushAsked

theorem askFlush_waits (h : s.bit R.TALLY_STAT_FLUSHING 0 = true ∨ s.hartUp s.flushHart = false ∨ s.bit R.TALLY_STAT_RESTORED 0 = false) :
    s.askFlush = s.flushAsked := by
  have ha := flushAsked_frame s
  rw [askFlush_eq, flushStep_waits]
  rwa [flushAsked_hart, ha.bit (by decide), ha.bit (by decide)]

theorem askFlush_frame (s : State) : Frame Frame.flushStepReach s s.askFlush := (Frame.refl s).askFlush

theorem exec_flush {w : WCtx} (hw : Writable s w R.TALLY_CTRL_FLUSH 0) : exec (.flush w) s = (s.askFlush.answer .ok).go :=
  congrArg State.go (State.judged_of_writable hw 1 State.askFlush)

theorem exec_periodic (s : State) : exec .tallyFlushPeriodic s = s.askFlush.go := rfl

theorem flush_starts {w : WCtx} (hw : Writable s w R.TALLY_CTRL_FLUSH 0) (hf : s.bit R.TALLY_STAT_FLUSHING 0 = false)
    (hh : s.hartUp s.flushHart = true) (hr : s.bit R.TALLY_STAT_RESTORED 0 = true) :
    Completes (.flush w) s fun t =>
      t.flush = some s.flushImage ∧ t.bit R.TALLY_STAT_FLUSHING 0 = true ∧ t.bit H.TALLY_PEND 0 = false
        ∧ t.mirror = s.mirror.filter (fun m => m.slot != s.chosenSlot) ∧ t.resp = .ok
        ∧ OnlyKinds [R.TALLY_STAT_FLUSHING, H.TALLY_PEND, H.TALLY_LAST_SLOT] s t ∧ SameStore s t := by
  obtain ⟨hflush, hmirror, hrun, hpend⟩ := askFlush_starts hf hh hr
  have ha : Frame ⟨[.mirror, .flush, .resp], [R.TALLY_STAT_FLUSHING, H.TALLY_PEND, H.TALLY_LAST_SLOT]⟩ s (s.askFlush.answer .ok) :=
    ((Frame.refl s).andThen (askFlush_frame s)).answer
  exact .of_go (exec_flush hw) ⟨hflush, hrun, hpend, hmirror, rfl, ha.kinds, ha.sameStore⟩

theorem flush_waits {w : WCtx} (hw : Writable s w R.TALLY_CTRL_FLUSH 0)
    (h : s.bit R.TALLY_STAT_FLUSHING 0 = true ∨ s.hartUp s.flushHart = false ∨ s.bit R.TALLY_STAT_RESTORED 0 = false) :
    Completes (.flush w) s fun t =>
      t.bit H.TALLY_PEND 0 = true ∧ t.resp = .ok ∧ OnlyKinds [H.TALLY_PEND] s t ∧ OnlyRegsOut s t := by
  have hexec := exec_flush hw
  rw [askFlush_waits h] at hexec
  have ha : Frame (.regsOut [H.TALLY_PEND]) s (s.flushAsked.answer .ok) := ((Frame.refl s).andThen (flushAsked_frame s)).answer
  exact .of_go hexec ⟨flushAsked_pend s, rfl, ha.kinds, ha.onlyRegsOut⟩

theorem periodic_starts (hf : s.bit R.TALLY_STAT_FLUSHING 0 = false) (hh : s.hartUp s.flushHart = true)
    (hr : s.bit R.TALLY_STAT_RESTORED 0 = true) :
    Completes .tallyFlushPeriodic s fun t =>
      t.bit R.TALLY_STAT_FLUSHING 0 = true ∧ (∃ m, t.flush = some m ∧ m.slot = s.chosenSlot ∧ m.image = s.tallyImage)
        ∧ SameStore s t := by
  obtain ⟨hflush, -, hrun, -⟩ := askFlush_starts hf hh hr
  exact .of_go (exec_periodic s) ⟨hrun, ⟨s.flushImage, hflush, rfl, rfl⟩, (askFlush_frame s).sameStore⟩

theorem periodic_waits (h : s.bit R.TALLY_STAT_FLUSHING 0 = true ∨ s.hartUp s.flushHart = false ∨ s.bit R.TALLY_STAT_RESTORED 0 = false) :
    Completes .tallyFlushPeriodic s fun t => t.bit H.TALLY_PEND 0 = true ∧ OnlyKinds [H.TALLY_PEND] s t ∧ OnlyRegs s t := by
  have hexec := exec_periodic s
  rw [askFlush_waits h] at hexec
  exact .of_go hexec ⟨flushAsked_pend s, (flushAsked_frame s).kinds, (flushAsked_frame s).onlyRegs⟩

/-! ## A flush ends -/

/-- A flush runs no more. -/
def State.flushEnded (s : State) : State := ({ s with flush := none } : State).wr R.TALLY_STAT_FLUSHING 0 0

/-- COMMIT is written (R629). -/
def State.flushCommitted (s : State) (m : MirrorSlot) : State :=
  (({ s.flushEnded with
      mirror := s.flushEnded.mirror ++ [{ m with image := s.flushedImage m.image }]
      free := s.free + (changedSlots m.image s.tallyImage).length } : State).wr R.TALLY_MIRROR_SLOT 0 m.slot).wr R.TALLY_MIRROR_GEN 0 m.gen

/-- Flash has failed (R631). -/
def State.flushFailed (s : State) : State := (s.flushEnded.wr R.TALLY_STAT_MIRROR_ERR 0 1).fault 0x09 s.flushHart 1

section
variable {m : MirrorSlot}

theorem exec_flushDone (hm : s.flush = some m) (hh : s.hartUp s.flushHart = true) (ok : Bool) :
    exec (.tallyFlushDone ok) s = ((if ok then s.flushCommitted m else s.flushFailed).flushStep).go := by
  change execTallyFlushDone ok s = _
  unfold execTallyFlushDone
  simp only [hm, hh, Bool.not_true, Bool.false_eq_true, if_false]
  rfl

theorem flushDone_idle {ok : Bool} (h : s.flush = none ∨ s.hartUp s.flushHart = false) : exec (.tallyFlushDone ok) s = .next s := by
  change execTallyFlushDone ok s = _
  unfold execTallyFlushDone
  split
  · rfl
  · next m hm =>
    have hh : s.hartUp s.flushHart = false := h.resolve_left (by rw [hm]; exact Option.some_ne_none m)
    simp only [hh, Bool.not_false, if_true]
    rfl

theorem flushCommitted_frame (s : State) (m : MirrorSlot) :
    Frame ⟨[.flush, .mirror, .free], [R.TALLY_STAT_FLUSHING, R.TALLY_MIRROR_SLOT, R.TALLY_MIRROR_GEN]⟩ s (s.flushCommitted m) := by
  have h : Frame ⟨[.flush, .mirror, .free], [R.TALLY_STAT_FLUSHING, R.TALLY_MIRROR_SLOT, R.TALLY_MIRROR_GEN]⟩ s s.flushEnded :=
    ((Frame.refl s).setFlush).wr
  exact ((h.setMirror (x := s.flushEnded.mirror ++ [{ m with image := s.flushedImage m.image }])).setFree
    (x := s.free + (changedSlots m.image s.tallyImage).length)).wr (f := R.TALLY_MIRROR_SLOT) (i := 0) (v := m.slot)
    |>.wr (f := R.TALLY_MIRROR_GEN) (i := 0) (v := m.gen)

theorem flushCommitted_says (s : State) (m : MirrorSlot) :
    (s.flushCommitted m).flush = none ∧ (s.flushCommitted m).mirror = s.mirror ++ [{ m with image := s.flushedImage m.image }]
      ∧ (s.flushCommitted m).bit R.TALLY_STAT_FLUSHING 0 = false
      ∧ (s.flushCommitted m).rd R.TALLY_MIRROR_SLOT 0 = m.slot % 2 ^ R.TALLY_MIRROR_SLOT.wid
      ∧ (s.flushCommitted m).rd R.TALLY_MIRROR_GEN 0 = m.gen % 2 ^ R.TALLY_MIRROR_GEN.wid := by
  refine ⟨rfl, rfl, ?_, ?_, State.rd_wr_self _ _ (by decide) _⟩
  · unfold State.flushCommitted
    rw [State.bit_wr_apart _ (by decide), State.bit_wr_apart _ (by decide)]
    exact State.bit_unset ({ s with flush := none } : State) (by decide)
  · unfold State.flushCommitted
    rw [State.rd_wr_apart _ (by decide)]
    exact State.rd_wr_self _ _ (by decide) _

/-- What a flush writes of a slot is the region at its start or at its end (R629). -/
theorem mem_flushedImage {start : List Host.Cell} {x : Host.Cell} (h : x ∈ s.flushedImage start) : x ∈ start ∨ x ∈ s.tallyImage := by
  obtain h | h := List.mem_append.1 (mem_sortBy.1 h)
  · exact .inr (List.mem_filter.1 h).1
  · obtain ⟨i, -, hi⟩ := List.mem_flatMap.1 h
    exact .inl (List.mem_filter.1 hi).1

theorem flush_commits (hm : s.flush = some m) (hh : s.hartUp s.flushHart = true) (hp : s.bit H.TALLY_PEND 0 = false) :
    Completes (.tallyFlushDone true) s fun t =>
      t.flush = none ∧ t.bit R.TALLY_STAT_FLUSHING 0 = false ∧ t.rd R.TALLY_MIRROR_SLOT 0 = m.slot % 2 ^ R.TALLY_MIRROR_SLOT.wid
        ∧ t.rd R.TALLY_MIRROR_GEN 0 = m.gen % 2 ^ R.TALLY_MIRROR_GEN.wid
        ∧ t.mirror = s.mirror ++ [{ m with image := s.flushedImage m.image }]
        ∧ (∀ x ∈ s.flushedImage m.image, x ∈ m.image ∨ x ∈ s.tallyImage)
        ∧ OnlyKinds [R.TALLY_STAT_FLUSHING, R.TALLY_MIRROR_SLOT, R.TALLY_MIRROR_GEN] s t ∧ SameStore s t := by
  have hf := flushCommitted_frame s m
  obtain ⟨hflush, hmirror, hrun, hslot, hgen⟩ := flushCommitted_says s m
  have hexec := exec_flushDone hm hh true
  rw [if_pos rfl, flushStep_unasked ((hf.bit (by decide) 0).trans hp)] at hexec
  exact .of_go hexec ⟨hflush, hrun, hslot, hgen, hmirror, fun _ => mem_flushedImage, hf.kinds, hf.sameStore⟩

theorem flush_commits_and_starts (hm : s.flush = some m) (hh : s.hartUp s.flushHart = true) (hp : s.bit H.TALLY_PEND 0 = true)
    (hr : s.bit R.TALLY_STAT_RESTORED 0 = true) :
    Completes (.tallyFlushDone true) s fun t =>
      t.bit R.TALLY_STAT_FLUSHING 0 = true ∧ t.bit H.TALLY_PEND 0 = false
        ∧ t.rd R.TALLY_MIRROR_SLOT 0 = m.slot % 2 ^ R.TALLY_MIRROR_SLOT.wid
        ∧ (∃ n, t.flush = some n ∧ n.image = s.tallyImage ∧ n.seconds = s.rd R.TALLY_SECONDS_SECONDS 0) := by
  have hf := flushCommitted_frame s m
  obtain ⟨-, -, hrun, hslot, -⟩ := flushCommitted_says s m
  have hexec := exec_flushDone hm hh true
  rw [if_pos rfl] at hexec
  have hseconds : (s.flushCommitted m).rd R.TALLY_SECONDS_SECONDS 0 = s.rd R.TALLY_SECONDS_SECONDS 0 := hf.rd (by decide) 0
  have himage : (s.flushCommitted m).tallyImage = s.tallyImage := by rw [State.tallyImage, hf.store, State.tallyImage]
  have hhart : (s.flushCommitted m).hartUp (s.flushCommitted m).flushHart = true := by
    rw [flushHart_congr (hf.bit (by decide) 0), hartUp_congr _ (hf.rd (by decide) _), hh]
  have hstart := flushStep_starts ((hf.bit (by decide) 0).trans hp) hrun hhart ((hf.bit (by decide) 0).trans hr)
  have hstep := flushStep_frame (s.flushCommitted m)
  rw [hstart] at hexec hstep
  obtain ⟨hflush, -, hrun', hpend⟩ := flushStarted_says (s.flushCommitted m)
  exact .of_go hexec ⟨hrun', hpend, (hstep.rd (by decide) 0).trans hslot, (s.flushCommitted m).flushImage, hflush, himage, hseconds⟩

theorem flush_fails (hm : s.flush = some m) (hh : s.hartUp s.flushHart = true) (hp : s.bit H.TALLY_PEND 0 = false) :
    Completes (.tallyFlushDone false) s fun t =>
      t.flush = none ∧ t.bit R.TALLY_STAT_MIRROR_ERR 0 = true ∧ t.mirror = s.mirror ∧ Raised (0x2E8 + s.flushHart) 1 s t := by
  have he : Frame ⟨[.flush], [R.TALLY_STAT_FLUSHING, R.TALLY_STAT_MIRROR_ERR]⟩ s (s.flushEnded.wr R.TALLY_STAT_MIRROR_ERR 0 1) :=
    ((Frame.refl s).setFlush).wr.wr
  have herr : (s.flushEnded.wr R.TALLY_STAT_MIRROR_ERR 0 1).bit R.TALLY_STAT_MIRROR_ERR 0 = true := State.bit_set _ (by decide) rfl
  have hnone : (s.flushEnded.wr R.TALLY_STAT_MIRROR_ERR 0 1).flush = none := rfl
  have hmirror : (s.flushEnded.wr R.TALLY_STAT_MIRROR_ERR 0 1).mirror = s.mirror := he.parts .mirror rfl
  have hexec := exec_flushDone hm hh false
  rw [if_neg (by decide)] at hexec
  have hdone : s.flushFailed = (s.flushEnded.wr R.TALLY_STAT_MIRROR_ERR 0 1).fault 0x09 s.flushHart 1 := rfl
  rw [hdone] at hexec
  generalize s.flushEnded.wr R.TALLY_STAT_MIRROR_ERR 0 1 = u at *
  have hf : Frame Frame.faultReach u (u.fault 0x09 s.flushHart 1) := (Frame.refl u).fault
  rw [flushStep_unasked ((hf.bit (by decide +kernel) 0).trans ((he.bit (by decide) 0).trans hp))] at hexec
  have hhart : s.flushHart < 4 := by
    unfold State.flushHart
    split <;> decide
  have hraise : Raised (0x2E8 + s.flushHart) 1 u (u.fault 0x09 s.flushHart 1) := State.fault_raised _ rfl (srcPresent_hart _ hhart) (by decide)
  have hflush : (u.fault 0x09 s.flushHart 1).flush = u.flush := hf.parts .flush rfl
  have hmir : (u.fault 0x09 s.flushHart 1).mirror = u.mirror := hf.parts .mirror rfl
  exact .of_go hexec ⟨hflush.trans hnone, (hf.bit (by decide +kernel) 0).trans herr, hmir.trans hmirror, .after he.kinds (by decide) hraise⟩

end

/-! ## Submits, the seconds and the order of a boundary's records -/

/-- The record of a submit (R622). -/
def State.submitted (s : State) (v : Nat) : TallyReq :=
  ⟨v % 32, v / 64 % 4, v / 65536 % 65536, [s.rd R.TALLY_SUB_DATA_DATA 0, s.rd R.TALLY_SUB_DATA_DATA 1], false⟩

theorem submitRecord_eq (s : State) (v : Nat) : s.submitRecord v
    = if s.bit R.TALLY_STAT_RESTORED 0 then
        if s.tallyQueue.length < 16 then { s with tallyQueue := s.tallyQueue ++ [s.submitted v] } else s.inc R.TALLY_DROPPED_DROPPED 0 1
      else if s.tallyStage.length < 64 then { s with tallyStage := s.tallyStage ++ [s.submitted v] } else s.inc R.TALLY_DROPPED_DROPPED 0 1 := by
  have h1 : bitsOf v 7 6 = v / 64 % 4 := by rw [bitsOf, Nat.shiftRight_eq_div_pow]; rfl
  have h2 : bitsOf v 31 16 = v / 65536 % 65536 := by rw [bitsOf, Nat.shiftRight_eq_div_pow]; rfl
  unfold State.submitRecord State.tally
  rw [h1, h2]
  rfl

section
variable {w : WCtx} {v : Nat}

theorem exec_submit (hw : Writable s w R.TALLY_SUBMIT_CHANNEL 0) (hv : 8 ≤ v % 32) :
    exec (.submit w v) s = ((s.submitRecord v).answer .ok).go := by
  change execSubmit w v s = _
  unfold execSubmit
  rw [decide_eq_true hv, judgedAt_of_writable hw]

theorem submit_refused (hw : Writable s w R.TALLY_SUBMIT_CHANNEL 0) (hv : v % 32 < 8) :
    Completes (.submit w v) s fun t => Refuses w (R.TALLY_SUBMIT_CHANNEL.word 0) 3 s t := by
  have hexec : exec (.submit w v) s = (s.refuse w (R.TALLY_SUBMIT_CHANNEL.word 0) 3).go := by
    change execSubmit w v s = _
    unfold execSubmit
    rw [decide_eq_false (by omega), judgedAt_of_forbidden hw]
  exact .of_go hexec (refuses_forbidden s w (by decide))

theorem submit_queues (hw : Writable s w R.TALLY_SUBMIT_CHANNEL 0) (hv : 8 ≤ v % 32) (hr : s.bit R.TALLY_STAT_RESTORED 0 = true)
    (hl : s.tallyQueue.length < 16) :
    Completes (.submit w v) s fun t =>
      t.tallyQueue = s.tallyQueue ++ [⟨v % 32, v / 64 % 4, v / 65536 % 65536,
          [s.rd R.TALLY_SUB_DATA_DATA 0, s.rd R.TALLY_SUB_DATA_DATA 1], false⟩]
        ∧ t.resp = .ok ∧ OnlyKinds [] s t ∧ SameStore s t := by
  have hexec := exec_submit hw hv
  rw [submitRecord_eq, if_pos hr, if_pos hl] at hexec
  exact .of_go hexec ⟨rfl, rfl, OnlyKinds.of_regs _ rfl, .of_store rfl⟩

theorem submit_stages (hw : Writable s w R.TALLY_SUBMIT_CHANNEL 0) (hv : 8 ≤ v % 32) (hr : s.bit R.TALLY_STAT_RESTORED 0 = false)
    (hl : s.tallyStage.length < 64) :
    Completes (.submit w v) s fun t =>
      t.tallyStage = s.tallyStage ++ [⟨v % 32, v / 64 % 4, v / 65536 % 65536,
          [s.rd R.TALLY_SUB_DATA_DATA 0, s.rd R.TALLY_SUB_DATA_DATA 1], false⟩]
        ∧ t.tallyQueue = s.tallyQueue ∧ t.resp = .ok ∧ OnlyKinds [] s t ∧ SameStore s t := by
  have hexec := exec_submit hw hv
  rw [submitRecord_eq, if_neg (by rw [hr]; decide), if_pos hl] at hexec
  exact .of_go hexec ⟨rfl, rfl, rfl, OnlyKinds.of_regs _ rfl, .of_store rfl⟩

theorem submit_drops (hw : Writable s w R.TALLY_SUBMIT_CHANNEL 0) (hv : 8 ≤ v % 32)
    (hl : if s.bit R.TALLY_STAT_RESTORED 0 = true then 16 ≤ s.tallyQueue.length else 64 ≤ s.tallyStage.length) :
    Completes (.submit w v) s fun t =>
      t.rd R.TALLY_DROPPED_DROPPED 0 = satAdd R.TALLY_DROPPED_DROPPED.wid (s.rd R.TALLY_DROPPED_DROPPED 0) 1 ∧ t.resp = .ok
        ∧ OnlyKinds [R.TALLY_DROPPED_DROPPED] s t ∧ OnlyRegsOut s t := by
  have hdrop : s.submitRecord v = s.inc R.TALLY_DROPPED_DROPPED 0 1 := by
    rw [submitRecord_eq]
    split
    · next h => exact if_neg (by rw [if_pos h] at hl; omega)
    · next h => exact if_neg (by rw [if_neg h] at hl; omega)
  have hexec := exec_submit hw hv
  rw [hdrop] at hexec
  have hf : Frame (.regsOut [R.TALLY_DROPPED_DROPPED]) s ((s.inc R.TALLY_DROPPED_DROPPED 0 1).answer .ok) := (Frame.refl s).inc.answer
  refine .of_go hexec ⟨?_, rfl, hf.kinds, hf.onlyRegsOut⟩
  have hc : (s.inc R.TALLY_DROPPED_DROPPED 0 1).rd R.TALLY_DROPPED_DROPPED 0
      = satAdd R.TALLY_DROPPED_DROPPED.wid (s.rd R.TALLY_DROPPED_DROPPED 0) 1 := by
    rw [State.inc, State.rd_wr_self _ _ (by decide), satAdd_mod]
  exact hc

end

theorem second_counts (s : State) : Completes .operatingSecondTick s fun t =>
    t.rd R.TALLY_SECONDS_SECONDS 0 = min (2 ^ 40 - 1) (s.rd R.TALLY_SECONDS_SECONDS 0 + 1)
      ∧ OnlyKinds [R.TALLY_SECONDS_SECONDS] s t ∧ OnlyRegs s t := by
  have hf : Frame (.regs [R.TALLY_SECONDS_SECONDS]) s (s.inc R.TALLY_SECONDS_SECONDS 0 1) := (Frame.refl s).inc
  refine .of_go (t := s.inc R.TALLY_SECONDS_SECONDS 0 1) rfl ⟨?_, hf.kinds, hf.onlyRegs⟩
  rw [State.inc, State.rd_wr_self _ _ (by decide), satAdd_mod]
  rfl

theorem boundary_records_in_order (n : Nat) (gf : Bool) (h : s.rd H.RST_SEQ 0 ≠ 1) : Completes (.frameBoundary ⟨n, gf⟩) s fun t =>
    (t.tallyQueue.drop s.tallyQueue.length).Pairwise (fun x y => x.channel ≤ y.channel)
      ∧ (t.tallyStage.drop s.tallyStage.length).Pairwise (fun x y => x.channel ≤ y.channel) := by
  have hexec : exec (.frameBoundary ⟨n, gf⟩) s = (s.recordsTogether (s.boundary n gf)).go := congrArg State.go (if_neg h)
  exact .of_go hexec ⟨inChannelOrder_sorted _ _, inChannelOrder_sorted _ _⟩

/-- Settles O40, clause by clause: the writer places or drops, a flush starts, waits, ends or fails, and a submit is queued. -/
theorem tallyPlacesAndFlushes : Obligations.TallyPlacesAndFlushes := by
  unfold Obligations.TallyPlacesAndFlushes
  exact ⟨fun _ _ _ _ => record_placed, fun _ h _ => tallyRecordPlace_idle h, fun _ _ _ => submit_queues, fun _ _ _ => submit_refused,
    fun _ _ => flush_starts, fun _ h => periodic_waits (.inl h), fun _ => periodic_starts, fun _ _ => flush_commits,
    fun _ _ => flush_fails, second_counts, fun _ _ _ => record_placed_or_dropped,
    fun _ _ _ _ hq hi hp _ hd => record_meets_uncorrectable hq hi hp hd, fun _ _ _ => submit_stages, fun _ _ _ => submit_drops,
    fun _ _ => flush_waits, fun _ h => periodic_waits (.inr h), fun _ _ => flushDone_idle, fun _ _ => flush_commits_and_starts,
    fun _ => boundary_records_in_order⟩

end Sys2Proof.Machine
end

section
/-! The marks of the Store's words, and what a fault source's event leaves (R435, R558, R559). -/

set_option Elab.async false

namespace Sys2Proof.Machine

variable {s t u : State}

/-! ## What every part of an event keeps, the event keeps -/

/-- What an event writes apart from its source's class and state, before it is told of. -/
def eventFields : List Fld :=
  [R.FLT_KIND_QUIET_RAISED, R.FLT_SRC_COUNT_WIN_LEFT, R.FLT_SRC_STATE_EVENTS, R.FLT_SRC_STATE_INJECTED, H.FLT_SEV_DUE] ++ testFields

theorem raise_keeps {P : State → Prop} {n cls : Nat} {inj : Bool} (hframe : ∀ u v, Frame (.fault eventFields) u v → P u → P v)
    (hclass : ∀ u c, P u → P (u.wr R.FLT_SRC_STATE_CLASS n c)) (hstate : ∀ u c, P u → P (u.wr R.FLT_SRC_STATE_STATE n c))
    (hnote : ∀ u, P u → P (u.noteChange n)) (hrec : ∀ u, P u → P (u.srcRecord n)) (hs : P s) : P (s.raise n cls inj) := by
  have hcount (u : State) (k : Nat) (hu : P u) : P (u.countEvent n k) :=
    hframe u _ (.ite (Frame.refl u).inc.wr.wr (Frame.refl u).inc.inc) hu
  have hinj (u : State) (b : Bool) (hu : P u) : P (u.wrB R.FLT_SRC_STATE_INJECTED n b) := hframe u _ (Frame.refl u).wrB hu
  have hsev (u : State) (c : Bool) (hu : P u) : P (u.when c fun t => t.wr H.FLT_SEV_DUE n 1) :=
    hframe u _ ((Frame.refl u).when fun _ hv => hv.wr) hu
  have hcalm (u : State) (hu : P u) : P (u.wr H.FLT_SEV_DUE n 0) := hframe u _ (Frame.refl u).wr hu
  have htest (u : State) (hu : P u) : P (u.startTest n) := hframe u _ (Frame.refl u).startTest hu
  have hnmi (u : State) (hu : P u) : P u.nmiAll := hframe u _ (Frame.refl u).nmiAll hu
  have henter (u : State) (st : Nat) (hu : P u) : P (u.enterState n st) := hnote _ (hstate u st hu)
  have hrecord (u : State) (c : Bool) (hu : P u) : P (u.when c fun t => t.srcRecord n) := by
    cases c
    · exact hu
    · exact hrec u hu
  unfold State.raise
  split
  · exact hs
  · dsimp only
    split
    · exact hs
    · refine hrecord _ _ ?_
      have h2 {k c : Nat} {d : Bool} : P ((((s.countEvent n k).wrB R.FLT_SRC_STATE_INJECTED n inj).wr R.FLT_SRC_STATE_CLASS n c).when d
          (fun t => t.wr H.FLT_SEV_DUE n 1)) := hsev _ _ (hclass _ _ (hinj _ _ (hcount s _ hs)))
      split
      · split
        · exact htest _ h2
        · exact hnmi _ (henter _ _ (htest _ (hcalm _ h2)))
      · split
        · exact h2
        · split
          · exact htest _ h2
          · exact henter _ _ (htest _ h2)

/-- An event of one source leaves the class and the state of every other (R435). -/
theorem raise_other {n m cls : Nat} {inj : Bool} (hne : m ≠ n) (s : State) :
    (s.raise m cls inj).rd R.FLT_SRC_STATE_CLASS n = s.rd R.FLT_SRC_STATE_CLASS n
      ∧ (s.raise m cls inj).rd R.FLT_SRC_STATE_STATE n = s.rd R.FLT_SRC_STATE_STATE n := by
  refine raise_keeps (P := fun u => u.rd R.FLT_SRC_STATE_CLASS n = s.rd R.FLT_SRC_STATE_CLASS n
    ∧ u.rd R.FLT_SRC_STATE_STATE n = s.rd R.FLT_SRC_STATE_STATE n) (fun u v h hu => ?_) (fun u c hu => ?_) (fun u c hu => ?_) (fun u hu => ?_)
    (fun u hu => ?_) ⟨rfl, rfl⟩
  · rwa [h.rd (by decide), h.rd (by decide)]
  · rwa [State.rd_wr_idx _ hne (by decide), State.rd_wr_apart _ (by decide)]
  · rwa [State.rd_wr_idx _ hne (by decide), State.rd_wr_apart _ (by decide)]
  · have h : Frame Frame.noteChangeReach u (u.noteChange m) := (Frame.refl u).noteChange
    rwa [h.rd (by decide), h.rd (by decide)]
  · have h : Frame Frame.srcRecordReach u (u.srcRecord m) := (Frame.refl u).srcRecord
    rwa [h.rd (by decide), h.rd (by decide)]

/-- A source that was raised stays so under another's event before it. -/
theorem Raised.after_other {n m cls cls' : Nat} {inj : Bool} (hne : m ≠ n) (h : Raised n cls (s.raise m cls' inj) t) : Raised n cls s t := by
  obtain ⟨hclass, hstate⟩ := raise_other (cls := cls') (inj := inj) hne s
  simpa only [Raised, hclass, hstate] using h

/-! ## Marks that are gone -/

theorem ecc_cnt {k : Nat} (h : ¬ k < H.STORE_ECC.cnt) (s : State) : s.rd H.STORE_ECC k = 0 := by
  unfold State.rd regsRd
  rw [if_neg h]
  rfl

theorem clearEcc_rd (s : State) (a n k : Nat) : (s.clearEcc a n).rd H.STORE_ECC k = s.rd H.STORE_ECC k ∨ (s.clearEcc a n).rd H.STORE_ECC k = 0 := by
  by_cases hk : k < H.STORE_ECC.cnt
  · unfold State.rd regsRd State.clearEcc
    rw [if_pos hk, if_pos hk]
    by_cases hp : (!(decide (H.STORE_ECC.key ((a + 3) / 4) ≤ H.STORE_ECC.key k)
        && decide (H.STORE_ECC.key k < H.STORE_ECC.key (min ((a + n) / 4) (storeSize / 4)))
        && (H.STORE_ECC.key k - H.STORE_ECC.base) % H.STORE_ECC.stride == 0)) = true
    · exact .inl (by rw [amGet_filter (fun x => !(decide (H.STORE_ECC.key ((a + 3) / 4) ≤ x)
        && decide (x < H.STORE_ECC.key (min ((a + n) / 4) (storeSize / 4))) && (x - H.STORE_ECC.base) % H.STORE_ECC.stride == 0)) _ hp])
    · exact .inr (by rw [amGet_filter_dropped (fun x => !(decide (H.STORE_ECC.key ((a + 3) / 4) ≤ x)
        && decide (x < H.STORE_ECC.key (min ((a + n) / 4) (storeSize / 4))) && (x - H.STORE_ECC.base) % H.STORE_ECC.stride == 0))
        (Bool.eq_false_iff.2 hp)]; rfl)
  · exact .inr (ecc_cnt hk _)

theorem clearEcc_zero {k : Nat} (h : s.rd H.STORE_ECC k = 0) (a n : Nat) : (s.clearEcc a n).rd H.STORE_ECC k = 0 := by
  obtain hc | hc := clearEcc_rd s a n k
  · rw [hc, h]
  · exact hc

/-- A word that a store covers whole has no mark (R558). -/
theorem clearEcc_covered {a n k : Nat} (h1 : a ≤ 4 * k) (h2 : 4 * k + 4 ≤ a + n) (s : State) : (s.clearEcc a n).rd H.STORE_ECC k = 0 := by
  by_cases hk : k < H.STORE_ECC.cnt
  · unfold State.rd regsRd State.clearEcc
    rw [if_pos hk, amGet_filter_dropped (fun x => !(decide (H.STORE_ECC.key ((a + 3) / 4) ≤ x)
        && decide (x < H.STORE_ECC.key (min ((a + n) / 4) (storeSize / 4))) && (x - H.STORE_ECC.base) % H.STORE_ECC.stride == 0))]
    · rfl
    · have hk' : k < 262144 := hk
      have hkey (i : Nat) : H.STORE_ECC.key i = 0x440000000 + 3 * i := rfl
      have hsize : storeSize / 4 = 262144 := rfl
      rw [Bool.not_eq_false', Bool.and_eq_true, Bool.and_eq_true, decide_eq_true_eq, decide_eq_true_eq, beq_iff_eq]
      simp only [hkey, hsize]
      change (_ ∧ _) ∧ (0x440000000 + 3 * k - 0x440000000) % 3 = 0
      omega
  · exact ecc_cnt hk _

theorem stBytes_zero {k : Nat} (h : s.rd H.STORE_ECC k = 0) (a : Nat) (b : List Byte) : (s.stBytes a b).rd H.STORE_ECC k = 0 :=
  clearEcc_zero (s := { s with store := memPutBytes s.store a b }) h _ _

theorem st_zero {k : Nat} (h : s.rd H.STORE_ECC k = 0) (a n v : Nat) : (s.st a n v).rd H.STORE_ECC k = 0 :=
  clearEcc_zero (s := { s with store := memPutBytes s.store a (toLeBytes n v) }) h _ _

theorem stBytes_covered {a k : Nat} {b : List Byte} (h1 : a ≤ 4 * k) (h2 : 4 * k + 4 ≤ a + b.length) (s : State) :
    (s.stBytes a b).rd H.STORE_ECC k = 0 := clearEcc_covered h1 h2 _

theorem st_covered {a n k : Nat} (h1 : a ≤ 4 * k) (h2 : 4 * k + 4 ≤ a + n) (s : State) (v : Nat) : (s.st a n v).rd H.STORE_ECC k = 0 :=
  clearEcc_covered h1 h2 _

theorem noteChange_zero {k : Nat} (h : s.rd H.STORE_ECC k = 0) (n : Nat) : (s.noteChange n).rd H.STORE_ECC k = 0 := by
  have hirq (u : State) (b : Nat) (hu : u.rd H.STORE_ECC k = 0) : (u.hostIrq b).rd H.STORE_ECC k = 0 := by
    have hf : Frame Frame.hostIrqReach u (u.hostIrq b) := (Frame.refl u).hostIrq
    rw [hf.rd (by decide), hu]
  have hpost (u : State) (e : FltEvent) (hu : u.rd H.STORE_ECC k = 0) : (u.postEvent e).rd H.STORE_ECC k = 0 := by
    unfold State.postEvent
    dsimp only
    split
    · split
      · exact (State.rd_inc_apart _ (by decide) _ _ _).trans hu
      · refine hirq _ _ (hirq _ _ ?_)
        rw [State.rd_wr_apart _ (by decide)]
        exact stBytes_zero hu _ _
    · exact hu
  have hdrain (u : State) (hu : u.rd H.STORE_ECC k = 0) : u.drainEvents.rd H.STORE_ECC k = 0 := by
    unfold State.drainEvents
    split
    · exact List.foldlRecOn u.fltQueue _ (motive := fun v : State => v.rd H.STORE_ECC k = 0) hu fun v hv e _ => hpost v e hv
    · exact hu
  have hpush (u : State) (e : FltEvent) (hu : u.rd H.STORE_ECC k = 0) : (u.pushEvent e).rd H.STORE_ECC k = 0 := by
    unfold State.pushEvent
    dsimp only
    refine hdrain _ ?_
    split
    · exact (State.rd_inc_apart _ (by decide) _ _ _).trans hu
    · exact hu
  unfold State.noteChange
  refine hpush _ _ ?_
  rw [State.rd_wr_apart _ (by decide), State.rd_wr_apart _ (by decide), State.rd_wr_apart _ (by decide), State.rd_wr_apart _ (by decide),
    State.rd_wr_apart _ (by decide), h]

/-- An event puts no mark on a word. -/
theorem raise_zero {k n cls : Nat} {inj : Bool} (h : s.rd H.STORE_ECC k = 0) : (s.raise n cls inj).rd H.STORE_ECC k = 0 := by
  refine raise_keeps (P := fun u => u.rd H.STORE_ECC k = 0) (fun u v hf hu => (hf.rd (by decide) k).trans hu)
    (fun u c hu => (State.rd_wr_apart _ (by decide) _ _ _).trans hu) (fun u c hu => (State.rd_wr_apart _ (by decide) _ _ _).trans hu)
    (fun u hu => noteChange_zero hu n) (fun u hu => ?_) h
  have hf : Frame Frame.tallyReach u (u.srcRecord n) := (Frame.refl u).tally
  exact (hf.rd (by decide) k).trans hu

/-! ## An event of a word -/

theorem eccEvent_single (s : State) (k : Nat) : s.eccEvent k 1 = (((s.wr H.STORE_ECC k 0).inc R.STORE_STAT_CE 0 1).wr H.STORE_FROW
    (k / 16384 % 16) (k / 64 + 1)).fault 0x0A (k / 16384 % 16) 0 := rfl

theorem eccEvent_double (s : State) (k : Nat) : s.eccEvent k 2 = (((((s.wr H.STORE_ECC k 2).inc R.STORE_STAT_UE 0 1).wr R.STORE_UE_VALID 0
    1).wr R.STORE_UE_ADDR 0 k).wr H.STORE_FROW (k / 16384 % 16) (k / 64 + 1)).fault 0x0A (k / 16384 % 16) 1 := rfl

theorem srcPresent_storeBank (z : Bool) {b : Nat} (h : b < 16) : srcPresent z (0x2EC + b) = true := by
  interval_cases b <;> cases z <;> rfl

/-- A single-bit error is corrected and counted (R558). -/
theorem eccEvent_corrects {k : Nat} (hk : k < 262144) (s : State) :
    (s.eccEvent k 1).rd R.STORE_STAT_CE 0 = satAdd R.STORE_STAT_CE.wid (s.rd R.STORE_STAT_CE 0) 1 ∧ (s.eccEvent k 1).rd H.STORE_ECC k = 0
      ∧ Raised (0x2EC + k / 16384 % 16) 0 s (s.eccEvent k 1) := by
  have hw : Frame (.regs [H.STORE_ECC, R.STORE_STAT_CE, H.STORE_FROW]) s (((s.wr H.STORE_ECC k 0).inc R.STORE_STAT_CE 0 1).wr H.STORE_FROW
    (k / 16384 % 16) (k / 64 + 1)) := (Frame.refl s).wr.inc.wr
  have hce : (((s.wr H.STORE_ECC k 0).inc R.STORE_STAT_CE 0 1).wr H.STORE_FROW (k / 16384 % 16) (k / 64 + 1)).rd R.STORE_STAT_CE 0
      = satAdd R.STORE_STAT_CE.wid (s.rd R.STORE_STAT_CE 0) 1 := by
    rw [State.rd_wr_apart _ (by decide), State.inc, State.rd_wr_self _ _ (by decide), satAdd_mod, State.rd_wr_apart _ (by decide)]
  have hecc : (((s.wr H.STORE_ECC k 0).inc R.STORE_STAT_CE 0 1).wr H.STORE_FROW (k / 16384 % 16) (k / 64 + 1)).rd H.STORE_ECC k = 0 := by
    rw [State.rd_wr_apart _ (by decide), State.rd_inc_apart _ (by decide), State.rd_wr_self _ _ hk]
    rfl
  rw [eccEvent_single]
  generalize ((s.wr H.STORE_ECC k 0).inc R.STORE_STAT_CE 0 1).wr H.STORE_FROW (k / 16384 % 16) (k / 64 + 1) = u at *
  have hf : Frame Frame.faultReach u (u.fault 0x0A (k / 16384 % 16) 0) := (Frame.refl u).fault
  exact ⟨(hf.rd (by decide +kernel) 0).trans hce, raise_zero hecc,
    .after hw.kinds (by decide) (State.fault_raised _ rfl (srcPresent_storeBank _ (Nat.mod_lt _ (by decide))) (by decide))⟩

/-- An uncorrectable word is recorded and counted (R558, R559). -/
theorem eccEvent_tells {k : Nat} (hk : k < 262144) (s : State) :
    (s.eccEvent k 2).rd R.STORE_STAT_UE 0 = satAdd R.STORE_STAT_UE.wid (s.rd R.STORE_STAT_UE 0) 1 ∧ (s.eccEvent k 2).rd R.STORE_UE_ADDR 0 = k
      ∧ (s.eccEvent k 2).bit R.STORE_UE_VALID 0 = true ∧ Raised (0x2EC + k / 16384 % 16) 1 s (s.eccEvent k 2) := by
  have hvalid := eccEvent_records s k (e := 2) rfl
  have hw : Frame (.regs [H.STORE_ECC, R.STORE_STAT_UE, R.STORE_UE_VALID, R.STORE_UE_ADDR, H.STORE_FROW]) s
    (((((s.wr H.STORE_ECC k 2).inc R.STORE_STAT_UE 0 1).wr R.STORE_UE_VALID 0 1).wr R.STORE_UE_ADDR 0 k).wr H.STORE_FROW
      (k / 16384 % 16) (k / 64 + 1)) := (Frame.refl s).wr.inc.wr.wr.wr
  have hue : (((((s.wr H.STORE_ECC k 2).inc R.STORE_STAT_UE 0 1).wr R.STORE_UE_VALID 0 1).wr R.STORE_UE_ADDR 0 k).wr H.STORE_FROW
      (k / 16384 % 16) (k / 64 + 1)).rd R.STORE_STAT_UE 0 = satAdd R.STORE_STAT_UE.wid (s.rd R.STORE_STAT_UE 0) 1 := by
    rw [State.rd_wr_apart _ (by decide), State.rd_wr_apart _ (by decide), State.rd_wr_apart _ (by decide), State.inc,
      State.rd_wr_self _ _ (by decide), satAdd_mod, State.rd_wr_apart _ (by decide)]
  have haddr : (((((s.wr H.STORE_ECC k 2).inc R.STORE_STAT_UE 0 1).wr R.STORE_UE_VALID 0 1).wr R.STORE_UE_ADDR 0 k).wr H.STORE_FROW
      (k / 16384 % 16) (k / 64 + 1)).rd R.STORE_UE_ADDR 0 = k := by
    rw [State.rd_wr_apart _ (by decide), State.rd_wr_self _ _ (by decide)]
    exact Nat.mod_eq_of_lt hk
  rw [eccEvent_double] at *
  generalize ((((s.wr H.STORE_ECC k 2).inc R.STORE_STAT_UE 0 1).wr R.STORE_UE_VALID 0 1).wr R.STORE_UE_ADDR 0 k).wr H.STORE_FROW
    (k / 16384 % 16) (k / 64 + 1) = u at *
  have hf : Frame Frame.faultReach u (u.fault 0x0A (k / 16384 % 16) 1) := (Frame.refl u).fault
  exact ⟨(hf.rd (by decide +kernel) 0).trans hue, (hf.rd (by decide +kernel) 0).trans haddr, hvalid,
    .after hw.kinds (by decide) (State.fault_raised _ rfl (srcPresent_storeBank _ (Nat.mod_lt _ (by decide))) (by decide))⟩

/-- The bank of a word is that of its bytes. -/
theorem bankOf_word (a : Nat) : a / 4 / 16384 % 16 = bankOf a := by
  unfold bankOf
  omega

end Sys2Proof.Machine
end

section
/-! The Store is written through its ports (R503, R545, R550, R555, R558, R609, R610, R613, R658). -/

set_option Elab.async false

namespace Sys2Proof.Machine

variable {s t u : State}

/-! ## Bytes through a port -/

theorem foldl_eccEvent_none {l : List Nat} (h : ∀ k ∈ l, s.rd H.STORE_ECC k = 0) (u : State) :
    l.foldl (fun (t : State) (k : Nat) => t.eccEvent k (s.rd H.STORE_ECC k)) u = u := by
  induction l generalizing u with
  | nil => rfl
  | cons k l ih =>
    rw [List.foldl_cons, eccEvent_none _ _ (h k List.mem_cons_self)]
    exact ih (fun j hj => h j (List.mem_cons_of_mem k hj)) u

theorem portWrite_clean {a : Nat} {b : List Byte} (q : Requester) (h : ∀ k ∈ wordsInPart a b.length, s.rd H.STORE_ECC k = 0) :
    s.portWrite q a b = ((s.reachBank q a).stBytes a b).injectStore a b.length := by
  unfold State.portWrite
  rw [foldl_eccEvent_none h]

theorem injectStore_unarmed {a n : Nat} (h : s.bit R.FLT_INJ_ARM 0 = false) : s.injectStore a n = s := by
  unfold State.injectStore State.injecting
  simp only [h, Bool.false_and, Bool.and_false, Bool.false_eq_true, if_false]

theorem reachBank_frame (s : State) (q : Requester) (a : Nat) :
    Frame ⟨[.out], [H.STORE_BUSYW, R.STORE_BUSY_HART, R.STORE_BUSY_HOST]⟩ s (s.reachBank q a) := (Frame.refl s).reachBank

theorem injectStore_frame (s : State) (a n : Nat) : Frame (.regs [H.STORE_ECC, R.FLT_INJ_STAT_DONE, R.FLT_INJ_ARM]) s (s.injectStore a n) :=
  (Frame.refl s).injectStore

/-- What a port's write may change where it meets no error. -/
def portFields : List Fld :=
  [H.STORE_ECC, H.STORE_BUSYW, R.STORE_BUSY_HART, R.STORE_BUSY_HOST, R.FLT_INJ_STAT_DONE, R.FLT_INJ_ARM]

theorem served_end {a n : Nat} (h : storeServed a n = true) : a + n ≤ storeSize := by
  simp only [storeServed, Bool.and_eq_true, decide_eq_true_eq] at h
  unfold storeSize at *
  omega

section
variable {a : Nat} {b : List Byte} {q : Requester}

theorem stBytes_injected (u : State) (hin : a + b.length ≤ storeSize) :
    memGetBytes ((u.stBytes a b).injectStore a b.length).store a b.length = b
      ∧ SameStoreBut a b.length u ((u.stBytes a b).injectStore a b.length) := by
  have hi := injectStore_frame (u.stBytes a b) a b.length
  rw [hi.store]
  refine ⟨memGetBytes_memPutBytes a b u.store hin, fun c hc => ?_⟩
  rw [hi.store]
  exact u.sameStoreBut_stBytes a b c hc

theorem portWrite_frame (h : ∀ k ∈ wordsInPart a b.length, s.rd H.STORE_ECC k = 0) :
    Frame ⟨[.store, .out], portFields⟩ s (s.portWrite q a b) := by
  rw [portWrite_clean q h]
  exact (((Frame.refl s).andThen (reachBank_frame s q a)).stBytes).andThen (injectStore_frame _ a b.length)

theorem portWrite_says (h : ∀ k ∈ wordsInPart a b.length, s.rd H.STORE_ECC k = 0) (hin : a + b.length ≤ storeSize) :
    memGetBytes (s.portWrite q a b).store a b.length = b ∧ SameStoreBut a b.length s (s.portWrite q a b)
      ∧ (s.bit R.FLT_INJ_ARM 0 = false → ∀ k, a ≤ 4 * k → 4 * k + 4 ≤ a + b.length → (s.portWrite q a b).rd H.STORE_ECC k = 0) := by
  have hr := reachBank_frame s q a
  obtain ⟨hbytes, hrest⟩ := stBytes_injected (s.reachBank q a) hin
  rw [portWrite_clean q h]
  refine ⟨hbytes, (SameStoreBut.of_store hr.store).trans hrest, fun harm k h1 h2 => ?_⟩
  have hst : Frame ⟨[.store], [H.STORE_ECC]⟩ (s.reachBank q a) ((s.reachBank q a).stBytes a b) := (Frame.refl _).stBytes
  rw [injectStore_unarmed (by rw [hst.bit (by decide), hr.bit (by decide), harm])]
  exact stBytes_covered h1 h2 _

/-! ## Who writes -/

theorem allowedBytes_full (hq : Requester.isHart q = true ∨ q = .psc) (a : Nat) (b : List Byte) : s.allowedBytes q a b = (b, false) := by
  induction b generalizing a with
  | nil => rfl
  | cons x l ih =>
    cases q with
    | hart k => simp [State.allowedBytes, ih]
    | psc => simp [State.allowedBytes, ih]
    | host => simp [Requester.isHart] at hq
    | bmc => simp [Requester.isHart] at hq

theorem length_allowedBytes (q : Requester) (a : Nat) (b : List Byte) : (s.allowedBytes q a b).1.length = b.length := by
  induction b generalizing a with
  | nil => rfl
  | cons x l ih => simp only [State.allowedBytes, List.length_cons, ih]

theorem storeIn_outside (hq : Requester.isHart q = false) (a : Nat) (b : List Byte) : s.storeIn q a b = s.portWrite q a b := by
  cases q with
  | hart k => cases hq
  | psc => rfl
  | host => rfl
  | bmc => rfl

theorem storeIn_noRecord (h : Requester.isHart q = true → (a ≠ s.logAt ∨ b.length ≠ 32) ∧ (a ≠ s.traceAt ∨ b.length ≠ 16)) :
    s.storeIn q a b = s.portWrite q a b := by
  cases q with
  | hart k =>
    obtain ⟨h1, h2⟩ := h rfl
    exact (if_neg (by rintro ⟨ha, hb⟩; simp_all)).trans (if_neg (by rintro ⟨ha, hb⟩; simp_all))
  | psc => rfl
  | host => rfl
  | bmc => rfl

end

section
variable {w : WCtx} {a : Nat} {b : List Byte} {q : Option Requester}

theorem storeWrite_served (hserved : storeServed a b.length = true) (hopen : s.storeShut = false ∨ Requester.isHart w.req = true) :
    s.storeWrite w a b = (if (s.allowedBytes w.req a b).2 then
      (if (s.allowedBytes w.req a b).2 && (s.allowedBytes w.req a b).1 == memGetBytes s.store a b.length then s
        else s.storeIn w.req a (s.allowedBytes w.req a b).1).refuse w a 4
      else (if (s.allowedBytes w.req a b).2 && (s.allowedBytes w.req a b).1 == memGetBytes s.store a b.length then s
        else s.storeIn w.req a (s.allowedBytes w.req a b).1).answer .ok) := by
  have hshut : (s.storeShut && !Requester.isHart w.req) = false := by
    obtain h | h := hopen <;> simp [h]
  unfold State.storeWrite
  rw [hserved, hshut]
  rfl

/-- A write whose every byte may be written is stored (R545). -/
theorem storeWrite_full (hserved : storeServed a b.length = true) (hopen : s.storeShut = false ∨ Requester.isHart w.req = true)
    (hall : s.allowedBytes w.req a b = (b, false)) : s.storeWrite w a b = (s.storeIn w.req a b).answer .ok := by
  rw [storeWrite_served hserved hopen, hall]
  rfl

theorem exec_storeWrite (s : State) (w : WCtx) (a : Nat) (b : List Byte) (q : Option Requester) :
    exec (.storeWrite w a ⟨b, q⟩) s
      = (if (s.storeWrite w a b).resp == .ok then (s.storeWrite w a b).meet w.req q else s.storeWrite w a b).go := rfl

theorem exec_storeWrite_full (hserved : storeServed a b.length = true) (hopen : s.storeShut = false ∨ Requester.isHart w.req = true)
    (hall : s.allowedBytes w.req a b = (b, false)) :
    exec (.storeWrite w a ⟨b, q⟩) s = (((s.storeIn w.req a b).answer .ok).meet w.req q).go := by
  rw [exec_storeWrite, storeWrite_full hserved hopen hall]
  exact congrArg State.go (if_pos rfl)

theorem exec_storeWrite_not (h : (s.storeWrite w a b).resp ≠ .ok) : exec (.storeWrite w a ⟨b, q⟩) s = (s.storeWrite w a b).go := by
  rw [exec_storeWrite, if_neg (by simpa using h)]

theorem meet_frame (s : State) (p : Requester) (q : Option Requester) :
    Frame ⟨[.out], [R.STORE_BUSY_HART, R.STORE_BUSY_HOST]⟩ s (s.meet p q) := (Frame.refl s).meet

theorem meet_none (s : State) (p : Requester) : s.meet p none = s := rfl

theorem onlyStoreOut {l : List Fld} (h : Frame ⟨[.store, .out, .resp], l⟩ s t) :
    t = { s with regs := t.regs, store := t.store, out := t.out, resp := t.resp } := by
  have hp (p : Part) (hp : (⟨[.store, .out, .resp], l⟩ : Reach).hasPart p = false) : p.Same s t := h.parts p hp
  have h1 := hp .ident rfl
  have h3 := hp .map rfl
  have h4 := hp .staged rfl
  have h5 := hp .mesh rfl
  have h6 := hp .sched rfl
  have h7 := hp .sweeps rfl
  have h8 := hp .fifo rfl
  have h9 := hp .fltQueue rfl
  have h10 := hp .tallyQueue rfl
  have h11 := hp .tallyStage rfl
  have h12 := hp .mirror rfl
  have h13 := hp .flush rfl
  have h14 := hp .shadows rfl
  have h17 := hp .free rfl
  have h18 := hp .pending rfl
  cases s
  cases t
  simp_all [Part.Same]

theorem write_stores (hserved : storeServed a b.length = true) (hopen : s.storeShut = false ∨ Requester.isHart w.req = true)
    (hall : Requester.isHart w.req = true ∨ w.req = .psc ∨ s.allowedBytes w.req a b = (b, false))
    (hrec : Requester.isHart w.req = true → (a ≠ s.logAt ∨ b.length ≠ 32) ∧ (a ≠ s.traceAt ∨ b.length ≠ 16))
    (hclean : ∀ k ∈ wordsInPart a b.length, s.rd H.STORE_ECC k = 0) :
    Completes (.storeWrite w a ⟨b, q⟩) s fun t =>
      memGetBytes t.store a b.length = b ∧ SameStoreBut a b.length s t ∧ t.resp = .ok
        ∧ (s.bit R.FLT_INJ_ARM 0 = false → ∀ k, a ≤ 4 * k → 4 * k + 4 ≤ a + b.length → t.rd H.STORE_ECC k = 0)
        ∧ OnlyKinds [H.STORE_ECC, H.STORE_BUSYW, R.STORE_BUSY_HART, R.STORE_BUSY_HOST, R.FLT_INJ_STAT_DONE, R.FLT_INJ_ARM] s t
        ∧ t = { s with regs := t.regs, store := t.store, out := t.out, resp := t.resp } := by
  have hbytes : s.allowedBytes w.req a b = (b, false) := by
    obtain h | h | h := hall
    · exact allowedBytes_full (.inl h) a b
    · exact allowedBytes_full (.inr h) a b
    · exact h
  have hexec := exec_storeWrite_full (q := q) hserved hopen hbytes
  rw [storeIn_noRecord hrec] at hexec
  obtain ⟨hb, hrest, hecc⟩ := portWrite_says (q := w.req) hclean (served_end hserved)
  have hp := portWrite_frame (q := w.req) hclean
  generalize s.portWrite w.req a b = u at *
  have hm := meet_frame (u.answer .ok) w.req q
  have hresp : ((u.answer .ok).meet w.req q).resp = .ok := hm.resp
  have hall' : Frame ⟨[.store, .out, .resp], portFields⟩ s ((u.answer .ok).meet w.req q) := (((Frame.refl s).andThen hp).answer).andThen hm
  refine .of_go hexec ⟨by rw [hm.store]; exact hb, fun c hc => by rw [hm.store]; exact hrest c hc, hresp, fun harm k h1 h2 => ?_,
    hall'.kinds, onlyStoreOut hall'⟩
  rw [hm.rd (by decide)]
  exact hecc harm k h1 h2

theorem write_notServed (h : storeServed a b.length = false) : exec (.storeWrite w a ⟨b, q⟩) s = .next (s.answer .busError) := by
  have hw : s.storeWrite w a b = s.answer .busError := by
    unfold State.storeWrite
    rw [h]
    rfl
  rw [exec_storeWrite_not (by rw [hw]; exact Resp.noConfusion), hw]
  rfl

theorem served_offset {n : Nat} (h : storeServed a n = true) : a < 2 ^ 24 := by
  have := storeServed_lt h
  unfold storeSize at this
  omega

theorem write_shut (hserved : storeServed a b.length = true) (hshut : s.storeShut = true) (hq : Requester.isHart w.req = false) :
    Completes (.storeWrite w a ⟨b, q⟩) s fun t => Refuses w a 3 s t := by
  have hw : s.storeWrite w a b = s.refuse w a 3 := by
    unfold State.storeWrite
    rw [hserved, hshut, hq]
    rfl
  have hexec : exec (.storeWrite w a ⟨b, q⟩) s = (s.storeWrite w a b).go := exec_storeWrite_not (by rw [hw]; exact Resp.noConfusion)
  rw [hw] at hexec
  exact .of_go hexec (refuses_forbidden s w (served_offset hserved))

theorem refuses_part (s : State) (w : WCtx) {off : Nat} (h : off < 2 ^ 24) : Refuses w off 4 s (s.refuse w off 4) :=
  s.refuses_refuse w (by decide) h (s.reqCode_lt w.req)

theorem write_partRefused (hserved : storeServed a b.length = true) (hopen : s.storeShut = false) (hq : Requester.isHart w.req = false)
    (hbad : (s.allowedBytes w.req a b).2 = true) (hclean : ∀ k ∈ wordsInPart a b.length, s.rd H.STORE_ECC k = 0) :
    Completes (.storeWrite w a ⟨b, q⟩) s fun t =>
      t.resp = .refused 4 ∧ t.rd R.FLT_REJECT_COUNT 0 = satAdd R.FLT_REJECT_COUNT.wid (s.rd R.FLT_REJECT_COUNT 0) 1
        ∧ t.rd R.FLT_REJECT_INFO_CAUSE 0 = 4 ∧ t.rd R.FLT_REJECT_INFO_OFFSET 0 = a
        ∧ memGetBytes t.store a b.length = (s.allowedBytes w.req a b).1 ∧ SameStoreBut a b.length s t := by
  have hlen := length_allowedBytes (s := s) w.req a b
  have hw := storeWrite_served (w := w) hserved (.inl hopen)
  rw [if_pos hbad, hbad, Bool.true_and, storeIn_outside hq] at hw
  have hstored : memGetBytes (if ((s.allowedBytes w.req a b).1 == memGetBytes s.store a b.length) = true then s
        else s.portWrite w.req a (s.allowedBytes w.req a b).1).store a b.length = (s.allowedBytes w.req a b).1
      ∧ SameStoreBut a b.length s (if ((s.allowedBytes w.req a b).1 == memGetBytes s.store a b.length) = true then s
        else s.portWrite w.req a (s.allowedBytes w.req a b).1)
      ∧ (if ((s.allowedBytes w.req a b).1 == memGetBytes s.store a b.length) = true then s
        else s.portWrite w.req a (s.allowedBytes w.req a b).1).rd R.FLT_REJECT_COUNT 0 = s.rd R.FLT_REJECT_COUNT 0 := by
    split
    · next h => exact ⟨(beq_iff_eq.1 h).symm, .of_store rfl, rfl⟩
    · have hclean' : ∀ k ∈ wordsInPart a (s.allowedBytes w.req a b).1.length, s.rd H.STORE_ECC k = 0 := by rwa [hlen]
      obtain ⟨hb, hrest, -⟩ := portWrite_says (q := w.req) hclean' (by rw [hlen]; exact served_end hserved)
      rw [hlen] at hb hrest
      exact ⟨hb, hrest, (portWrite_frame (q := w.req) hclean').rd (by decide) 0⟩
  have hexec : exec (.storeWrite w a ⟨b, q⟩) s = (s.storeWrite w a b).go := exec_storeWrite_not (by rw [hw]; exact Resp.noConfusion)
  rw [hw] at hexec
  generalize (if ((s.allowedBytes w.req a b).1 == memGetBytes s.store a b.length) = true then s
        else s.portWrite w.req a (s.allowedBytes w.req a b).1) = u at *
  obtain ⟨hb, hrest, hcount⟩ := hstored
  obtain ⟨hresp, hrej, hcause, -, hoff, -⟩ := refuses_part u w (served_offset hserved)
  exact .of_go hexec ⟨hresp, by rw [hrej, hcount], hcause, hoff, hb, hrest⟩

/-- What the management controller may change is nothing (R545). -/
theorem allowedBytes_bmc (a : Nat) (b : List Byte) : (s.allowedBytes .bmc a b).1 = memGetBytes s.store a b.length := by
  induction b generalizing a with
  | nil => rfl
  | cons x l ih =>
    simp only [State.allowedBytes, List.length_cons, memGetBytes, ih]

theorem allowedBytes_bmc_bad {a : Nat} {b : List Byte} (hne : b ≠ memGetBytes s.store a b.length) (hres : ∀ k < b.length, s.heftReserved (a + k) = 0) :
    (s.allowedBytes .bmc a b).2 = true := by
  induction b generalizing a with
  | nil => exact absurd rfl hne
  | cons x l ih =>
    simp only [State.allowedBytes, Bool.or_eq_true, bne_iff_ne, ne_eq]
    by_cases hx : x = memGet s.store a
    · refine .inl (ih (fun hl => hne ?_) fun k hk => ?_)
      · rw [List.length_cons, memGetBytes, ← hx, ← hl]
      · have := hres (k + 1) (by simpa using hk)
        rwa [show a + (k + 1) = a + 1 + k by omega] at this
    · refine .inr fun h => hx ?_
      have h0 := hres 0 (by simp)
      rw [Nat.add_zero] at h0
      rw [h0, show (~~~(0 : Byte)) = BitVec.allOnes 8 by decide, BitVec.and_allOnes] at h
      exact (BitVec.xor_eq_zero_iff.1 h).symm

theorem write_bmc (hserved : storeServed a b.length = true) (hopen : s.storeShut = false) (hq : w.req = .bmc)
    (hne : b ≠ memGetBytes s.store a b.length) (hres : ∀ k < b.length, s.heftReserved (a + k) = 0) :
    Completes (.storeWrite w a ⟨b, q⟩) s fun t => Refuses w a 4 s t := by
  have hw := storeWrite_served (w := w) hserved (.inl hopen)
  rw [hq, allowedBytes_bmc_bad hne hres, allowedBytes_bmc, if_pos rfl, Bool.true_and, if_pos (beq_self_eq_true _)] at hw
  have hexec : exec (.storeWrite w a ⟨b, q⟩) s = (s.storeWrite w a b).go := exec_storeWrite_not (by rw [hw]; exact Resp.noConfusion)
  rw [hw] at hexec
  exact .of_go hexec (refuses_part s w (served_offset hserved))

/-- A write of one byte into a word with a single-bit error reads the word first (R550, R558). -/
theorem write_corrects {c : Nat} {v : Byte} (hserved : storeServed a 1 = true) (hopen : s.storeShut = false)
    (hecc : s.rd H.STORE_ECC (a / 4) = 1) (harm : s.bit R.FLT_INJ_ARM 0 = false) :
    Completes (.storeWrite ⟨.psc, c⟩ a ⟨[v], none⟩) s fun t =>
      memGetBytes t.store a 1 = [v] ∧ t.resp = .ok ∧ t.rd H.STORE_ECC (a / 4) = 0
        ∧ t.rd R.STORE_STAT_CE 0 = satAdd R.STORE_STAT_CE.wid (s.rd R.STORE_STAT_CE 0) 1 ∧ Raised (0x2EC + bankOf a) 0 s t := by
  have hlt := storeServed_lt hserved
  have hword : a / 4 < 262144 := by
    unfold storeSize at hlt
    omega
  have hpart : wordsInPart a ([v] : List Byte).length = [a / 4] := by
    have hw : wordsAt a 1 = [a / 4] := by
      have : (a + 1 + 3) / 4 - a / 4 = 1 := by omega
      rw [wordsAt, this]
      rfl
    show (wordsAt a 1).filter _ = _
    rw [hw, List.filter_cons_of_pos, List.filter_nil]
    simp only [Bool.or_eq_true, decide_eq_true_eq]
    show 4 * (a / 4) < a ∨ a + 1 < 4 * (a / 4) + 4
    omega
  have hr := reachBank_frame s .psc a
  obtain ⟨hce, hzero, hraised⟩ := eccEvent_corrects hword (s.reachBank .psc a)
  have hf : Frame Frame.eccEventReach (s.reachBank .psc a) ((s.reachBank .psc a).eccEvent (a / 4) 1) := (Frame.refl _).eccEvent
  have hexec := exec_storeWrite_full (s := s) (w := ⟨.psc, c⟩) (q := none) (b := [v]) hserved (.inl hopen) (allowedBytes_full (.inr rfl) a [v])
  have hport : s.portWrite .psc a [v] = ((((s.reachBank .psc a).eccEvent (a / 4) 1).stBytes a [v]).injectStore a 1) := by
    unfold State.portWrite
    rw [hpart, List.foldl_cons, List.foldl_nil, hecc]
    rfl
  rw [meet_none, storeIn_outside rfl, hport] at hexec
  generalize (s.reachBank .psc a).eccEvent (a / 4) 1 = u at *
  have hst : Frame ⟨[.store], [H.STORE_ECC]⟩ u (u.stBytes a [v]) := (Frame.refl u).stBytes
  have hkeep : (u.stBytes a [v]).bit R.FLT_INJ_ARM 0 = false := by
    rw [hst.bit (by decide), hf.bit (by decide +kernel), hr.bit (by decide), harm]
  rw [injectStore_unarmed hkeep] at hexec
  rw [hr.rd (by decide)] at hce
  rw [bankOf_word] at hraised
  refine .of_go hexec ⟨memGetBytes_memPutBytes a [v] u.store (served_end hserved), rfl, stBytes_zero hzero a [v], (hst.rd (by decide) 0).trans hce, ?_⟩
  exact .before (.after hr.kinds (by decide) hraised) hst.kinds (by decide)

end

/-! ## Records of the log and the trace -/

section
variable {k c : Nat} {b : List Byte} {q : Option Requester}

theorem logAt_served (s : State) (hb : b.length = 32) : storeServed s.logAt b.length = true := by
  rw [hb]
  simp only [storeServed, Bool.and_eq_true, decide_eq_true_eq]
  unfold State.logAt storeSize
  omega

theorem traceAt_served (s : State) (hb : b.length = 16) : storeServed s.traceAt b.length = true := by
  rw [hb]
  simp only [storeServed, Bool.and_eq_true, decide_eq_true_eq]
  unfold State.traceAt storeSize
  omega

/-- An access of whole words covers none in part. -/
theorem wordsInPart_whole {a n : Nat} (ha : 4 ∣ a) (hn : 4 ∣ n) : wordsInPart a n = [] := by
  refine List.filter_eq_nil_iff.2 fun k hk => ?_
  obtain ⟨j, hj, rfl⟩ := List.mem_map.1 hk
  have := List.mem_range.1 hj
  simp only [Bool.or_eq_true, decide_eq_true_eq]
  omega

theorem exec_logWrite (hb : b.length = 32) :
    exec (.storeWrite ⟨.hart k, c⟩ s.logAt ⟨b, q⟩) s = (((s.logRecord k s.logAt b).answer .ok).meet (.hart k) q).go := by
  have hexec := exec_storeWrite_full (s := s) (w := ⟨.hart k, c⟩) (q := q) (logAt_served s hb) (.inr rfl) (allowedBytes_full (.inl rfl) s.logAt b)
  have hin : s.storeIn (.hart k) s.logAt b = s.logRecord k s.logAt b := if_pos ⟨rfl, hb⟩
  rwa [hin] at hexec

theorem exec_traceWrite (hb : b.length = 16) :
    exec (.storeWrite ⟨.hart k, c⟩ s.traceAt ⟨b, q⟩) s = (((s.traceRecord k s.traceAt b).answer .ok).meet (.hart k) q).go := by
  have hexec := exec_storeWrite_full (s := s) (w := ⟨.hart k, c⟩) (q := q) (traceAt_served s hb) (.inr rfl) (allowedBytes_full (.inl rfl) s.traceAt b)
  have hin : s.storeIn (.hart k) s.traceAt b = s.traceRecord k s.traceAt b :=
    (if_neg fun h => by rw [hb] at h; exact absurd h.2 (by decide)).trans (if_pos ⟨rfl, hb⟩)
  rwa [hin] at hexec

/-- A log record that enters (R609). -/
def State.logEntered (s : State) (k : Nat) (b : List Byte) : State :=
  ((s.portWrite (.hart k) s.logAt b).wr R.FW_LOG_WPTR 0 ((s.rd R.FW_LOG_WPTR 0 + 1) % 65536)).when (byteAt b 5 == 3) (fun t => t.hostIrq 4)

theorem log_enters (hb : b.length = 32) (hmin : s.rd R.FW_LOG_LEVEL_MIN 0 ≤ byteAt b 5)
    (hlev : s.rd R.FW_HART_STAT_LEVEL k < 2 ∨ 3 ≤ byteAt b 5) :
    Completes (.storeWrite ⟨.hart k, c⟩ s.logAt ⟨b, q⟩) s fun t =>
      memGetBytes t.store s.logAt 32 = b ∧ SameStoreBut s.logAt 32 s t
        ∧ t.rd R.FW_LOG_WPTR 0 = (s.rd R.FW_LOG_WPTR 0 + 1) % 65536 ∧ t.resp = .ok
        ∧ (byteAt b 5 = 3 → t.bit R.HOST_IRQ_LOG 0 = true) := by
  have hrecord : s.logRecord k s.logAt b = s.logEntered k b := (if_neg (by omega)).trans (if_neg (by omega))
  have hclean : ∀ k ∈ wordsInPart s.logAt b.length, s.rd H.STORE_ECC k = 0 := by
    rw [wordsInPart_whole (by unfold State.logAt; omega) (by omega)]
    exact nofun
  obtain ⟨hbytes, hrest, -⟩ := portWrite_says (q := .hart k) hclean (served_end (logAt_served s hb))
  have hexec := exec_logWrite (s := s) (k := k) (c := c) (q := q) hb
  rw [hrecord] at hexec
  rw [hb] at hbytes hrest
  have hptr : ((s.portWrite (.hart k) s.logAt b).wr R.FW_LOG_WPTR 0 ((s.rd R.FW_LOG_WPTR 0 + 1) % 65536)).rd R.FW_LOG_WPTR 0
      = (s.rd R.FW_LOG_WPTR 0 + 1) % 65536 := (State.rd_wr_self _ _ (by decide) _).trans (Nat.mod_mod _ _)
  have hirq : byteAt b 5 = 3 → (s.logEntered k b).bit R.HOST_IRQ_LOG 0 = true := fun h3 => by
    unfold State.logEntered
    rw [h3, beq_self_eq_true, State.when_true]
    exact hostIrq_bit _ 4
  have hlast : Frame Frame.hostIrqReach ((s.portWrite (.hart k) s.logAt b).wr R.FW_LOG_WPTR 0 ((s.rd R.FW_LOG_WPTR 0 + 1) % 65536))
      (s.logEntered k b) := (Frame.refl _).when fun _ hu => hu.hostIrq
  generalize s.logEntered k b = v at *
  have hstore : v.store = (s.portWrite (.hart k) s.logAt b).store := hlast.store
  have hm := meet_frame (v.answer .ok) (.hart k) q
  have hresp : ((v.answer .ok).meet (.hart k) q).resp = .ok := hm.resp
  have hms : ((v.answer .ok).meet (.hart k) q).store = v.store := hm.store
  refine .of_go hexec ⟨by rw [hms, hstore, hbytes], fun a ha => by rw [hms, hstore, hrest a ha], ?_, hresp, fun h3 => ?_⟩
  · exact (hm.rd (by decide) 0).trans ((hlast.rd (by decide) 0).trans hptr)
  · exact (hm.bit (by decide) 0).trans (hirq h3)

theorem log_ignored (hb : b.length = 32) (hmin : byteAt b 5 < s.rd R.FW_LOG_LEVEL_MIN 0) :
    exec (.storeWrite ⟨.hart k, c⟩ s.logAt ⟨b, none⟩) s = .next (s.answer .ok) := by
  have hrecord : s.logRecord k s.logAt b = s := if_pos hmin
  rw [exec_logWrite hb, hrecord]
  rfl

theorem log_shed (hb : b.length = 32) (hmin : s.rd R.FW_LOG_LEVEL_MIN 0 ≤ byteAt b 5) (hlow : byteAt b 5 < 3)
    (hlev : 2 ≤ s.rd R.FW_HART_STAT_LEVEL k) :
    Completes (.storeWrite ⟨.hart k, c⟩ s.logAt ⟨b, none⟩) s fun t =>
      t.rd R.FW_LOG_DROPPED 0 = satAdd R.FW_LOG_DROPPED.wid (s.rd R.FW_LOG_DROPPED 0) 1 ∧ t.resp = .ok ∧ SameStore s t
        ∧ OnlyKinds [R.FW_LOG_DROPPED] s t ∧ OnlyRegsOut s t := by
  have hrecord : s.logRecord k s.logAt b = s.inc R.FW_LOG_DROPPED 0 1 := (if_neg (by omega)).trans (if_pos ⟨hlev, hlow⟩)
  have hexec := exec_logWrite (s := s) (k := k) (c := c) (q := none) hb
  rw [hrecord, meet_none] at hexec
  have hf : Frame (.regsOut [R.FW_LOG_DROPPED]) s ((s.inc R.FW_LOG_DROPPED 0 1).answer .ok) := (Frame.refl s).inc.answer
  have hc : (s.inc R.FW_LOG_DROPPED 0 1).rd R.FW_LOG_DROPPED 0 = satAdd R.FW_LOG_DROPPED.wid (s.rd R.FW_LOG_DROPPED 0) 1 := by
    rw [State.inc, State.rd_wr_self _ _ (by decide), satAdd_mod]
  exact .of_go hexec ⟨hc, rfl, hf.sameStore, hf.kinds, hf.onlyRegsOut⟩

theorem trace_ignored (hb : b.length = 16) (hoff : bitOf (s.rd R.FW_TRACE_EN_EN (byteAt b 6 / 32)) (byteAt b 6 % 32) = false) :
    exec (.storeWrite ⟨.hart k, c⟩ s.traceAt ⟨b, none⟩) s = .next (s.answer .ok) := by
  have hrecord : s.traceRecord k s.traceAt b = s := if_pos (by rw [hoff]; rfl)
  rw [exec_traceWrite hb, hrecord]
  rfl

theorem trace_shed (hb : b.length = 16) (hon : bitOf (s.rd R.FW_TRACE_EN_EN (byteAt b 6 / 32)) (byteAt b 6 % 32) = true)
    (hlev : 1 ≤ s.rd R.FW_HART_STAT_LEVEL k) :
    Completes (.storeWrite ⟨.hart k, c⟩ s.traceAt ⟨b, none⟩) s fun t =>
      t.rd R.FW_TRACE_TRACE_SHED 0 = satAdd R.FW_TRACE_TRACE_SHED.wid (s.rd R.FW_TRACE_TRACE_SHED 0) 1 ∧ t.resp = .ok
        ∧ SameStore s t ∧ OnlyKinds [R.FW_TRACE_TRACE_SHED] s t ∧ OnlyRegsOut s t := by
  have hrecord : s.traceRecord k s.traceAt b = s.inc R.FW_TRACE_TRACE_SHED 0 1 := (if_neg (by rw [hon]; decide)).trans (if_pos hlev)
  have hexec := exec_traceWrite (s := s) (k := k) (c := c) (q := none) hb
  rw [hrecord, meet_none] at hexec
  have hf : Frame (.regsOut [R.FW_TRACE_TRACE_SHED]) s ((s.inc R.FW_TRACE_TRACE_SHED 0 1).answer .ok) := (Frame.refl s).inc.answer
  have hc : (s.inc R.FW_TRACE_TRACE_SHED 0 1).rd R.FW_TRACE_TRACE_SHED 0
      = satAdd R.FW_TRACE_TRACE_SHED.wid (s.rd R.FW_TRACE_TRACE_SHED 0) 1 := by
    rw [State.inc, State.rd_wr_self _ _ (by decide), satAdd_mod]
  exact .of_go hexec ⟨hc, rfl, hf.sameStore, hf.kinds, hf.onlyRegsOut⟩

theorem trace_enters (hb : b.length = 16) (hon : bitOf (s.rd R.FW_TRACE_EN_EN (byteAt b 6 / 32)) (byteAt b 6 % 32) = true)
    (hlev : s.rd R.FW_HART_STAT_LEVEL k = 0) :
    Completes (.storeWrite ⟨.hart k, c⟩ s.traceAt ⟨b, q⟩) s fun t =>
      memGetBytes t.store s.traceAt 16 = b ∧ SameStoreBut s.traceAt 16 s t ∧ t.resp = .ok
        ∧ t.rd R.FW_TRACE_WPTR 0 = (s.rd R.FW_TRACE_WPTR 0 + 1) % 65536 := by
  have hrecord : s.traceRecord k s.traceAt b
      = (s.portWrite (.hart k) s.traceAt b).wr R.FW_TRACE_WPTR 0 ((s.rd R.FW_TRACE_WPTR 0 + 1) % 65536) :=
    (if_neg (by rw [hon]; decide)).trans (if_neg (by omega))
  have hclean : ∀ k ∈ wordsInPart s.traceAt b.length, s.rd H.STORE_ECC k = 0 := by
    rw [wordsInPart_whole (by unfold State.traceAt; omega) (by omega)]
    exact nofun
  obtain ⟨hbytes, hrest, -⟩ := portWrite_says (q := .hart k) hclean (served_end (traceAt_served s hb))
  have hexec := exec_traceWrite (s := s) (k := k) (c := c) (q := q) hb
  rw [hrecord] at hexec
  rw [hb] at hbytes hrest
  generalize s.portWrite (.hart k) s.traceAt b = v at *
  have hptr : (v.wr R.FW_TRACE_WPTR 0 ((s.rd R.FW_TRACE_WPTR 0 + 1) % 65536)).rd R.FW_TRACE_WPTR 0 = (s.rd R.FW_TRACE_WPTR 0 + 1) % 65536 :=
    (State.rd_wr_self _ _ (by decide) _).trans (Nat.mod_mod _ _)
  have hm := meet_frame ((v.wr R.FW_TRACE_WPTR 0 ((s.rd R.FW_TRACE_WPTR 0 + 1) % 65536)).answer .ok) (.hart k) q
  have hms : (((v.wr R.FW_TRACE_WPTR 0 ((s.rd R.FW_TRACE_WPTR 0 + 1) % 65536)).answer .ok).meet (.hart k) q).store = v.store := hm.store
  exact .of_go hexec ⟨by rw [hms, hbytes], fun a ha => by rw [hms, hrest a ha], hm.resp, (hm.rd (by decide) 0).trans hptr⟩

end

end Sys2Proof.Machine
end

section
/-! The Store is read through its ports and scrubbed (R503, R555, R558–R560, R658). -/

set_option Elab.async false

namespace Sys2Proof.Machine

variable {s t u : State} {w : WCtx} {a n : Nat}

/-! ## Reads -/

theorem notShut (h : s.storeShut = false ∨ Requester.isHart w.req = true) : (s.storeShut && !Requester.isHart w.req) = false := by
  obtain h | h := h <;> simp [h]

theorem read_clean (hserved : storeServed a n = true) (hopen : s.storeShut = false ∨ Requester.isHart w.req = true)
    (hclean : ∀ k ∈ wordsAt a n, s.rd H.STORE_ECC k = 0) :
    Completes (.storeRead w a n (.ecc .clean)) s fun t =>
      t.resp = .data (s.ld a n) ∧ SameStore s t
        ∧ OnlyKinds [H.STORE_BUSYW, R.STORE_BUSY_HART, R.STORE_BUSY_HOST] s t ∧ OnlyRegsOut s t := by
  have hall : Frame (.regsOut [H.STORE_BUSYW, R.STORE_BUSY_HART, R.STORE_BUSY_HOST]) s ((s.reachBank w.req a).answer (.data (s.ld a n))) :=
    (Frame.refl s).reachBank.answer
  exact .of_go (congrArg State.go (storeRead_of_clean hserved hopen hclean)) ⟨rfl, hall.sameStore, hall.kinds, hall.onlyRegsOut⟩

theorem read_notServed (x : ReadMeets) (h : storeServed a n = false) : exec (.storeRead w a n x) s = .next (s.answer .busError) := by
  have hread (e : EccErr) : s.storeRead w a n e = s.answer .busError := if_pos (by rw [h]; rfl)
  cases x with
  | ecc e => exact congrArg State.go (hread e)
  | write v => exact congrArg State.go ((if_pos (by rw [h]; rfl)).trans (hread .clean))

theorem read_shut (x : ReadMeets) (hserved : storeServed a n = true) (hshut : s.storeShut = true) (hq : Requester.isHart w.req = false) :
    exec (.storeRead w a n x) s = .next (s.answer (.data 0)) := by
  have hno : (s.storeShut && !Requester.isHart w.req) = true := by rw [hshut, hq]; rfl
  have hread (e : EccErr) : s.storeRead w a n e = s.answer (.data 0) := (if_neg (by rw [hserved]; decide)).trans (if_pos hno)
  cases x with
  | ecc e => exact congrArg State.go (hread e)
  | write v => exact congrArg State.go ((if_pos (by rw [hno, Bool.or_true])).trans (hread .clean))

/-! ## Reads that meet a write -/

/-- One part of 32 bits of a mix. -/
def mixPart (a b f k : Nat) : Nat := (a &&& (f * 2 ^ k ^^^ 0xFFFFFFFF * 2 ^ k)) ||| (b &&& f * 2 ^ k)

theorem testBit_part (f k i : Nat) : (f * 2 ^ k).testBit i = (decide (k ≤ i) && f.testBit (i - k)) := by
  rw [Nat.testBit_mul_two_pow]

theorem testBit_mixPart {f : Nat} (hf : f < 2 ^ 32) (a b k i : Nat) :
    (mixPart a b f k).testBit i = if k ≤ i ∧ i < k + 32 then (if f.testBit (i - k) then b.testBit i else a.testBit i) else false := by
  have hones : (0xFFFFFFFF : Nat).testBit (i - k) = decide (i - k < 32) := by
    rw [show (0xFFFFFFFF : Nat) = 2 ^ 32 - 1 by rfl, Nat.testBit_two_pow_sub_one]
  simp only [mixPart, Nat.testBit_or, Nat.testBit_and, Nat.testBit_xor, testBit_part, hones]
  by_cases hk : k ≤ i
  · by_cases hi : i < k + 32
    · have h32 : i - k < 32 := by omega
      cases f.testBit (i - k) <;> simp [hk, hi, h32]
    · have h32 : ¬ i - k < 32 := by omega
      have hz : f.testBit (i - k) = false := Nat.testBit_lt_two_pow (lt_of_lt_of_le hf (Nat.pow_le_pow_right (by decide) (by omega)))
      simp [hi, h32, hz]
  · simp [hk]

/-- A part above a number is added to it bit by bit. -/
theorem testBit_add_mixPart {x f : Nat} (hf : f < 2 ^ 32) (a b : Nat) {k : Nat} (hx : x < 2 ^ k) (i : Nat) :
    (x + mixPart a b f k).testBit i = (x.testBit i || (mixPart a b f k).testBit i) := by
  have hmod : mixPart a b f k % 2 ^ k = 0 := by
    refine Nat.eq_of_testBit_eq fun j => ?_
    rw [Nat.testBit_mod_two_pow, testBit_mixPart hf, Nat.zero_testBit]
    by_cases hj : j < k
    · rw [if_neg (by omega), Bool.and_false]
    · rw [decide_eq_false hj, Bool.false_and]
  obtain ⟨c, hc⟩ := Nat.dvd_of_mod_eq_zero hmod
  rw [hc, Nat.add_comm, Nat.two_pow_add_eq_or_of_lt hx, Nat.testBit_or, Bool.or_comm]

theorem mixBits_succ (s : State) (a b n : Nat) : (s.mixBits a b (n + 1)).1
    = (s.mixBits a b n).1 + mixPart a b ((s.mixBits a b n).2.freeVal 32) (32 * n) := rfl

theorem testBit_mixBits (s : State) (a b n i : Nat) :
    (i < 32 * n → (s.mixBits a b n).1.testBit i = a.testBit i ∨ (s.mixBits a b n).1.testBit i = b.testBit i)
      ∧ (32 * n ≤ i → (s.mixBits a b n).1.testBit i = false) := by
  induction n generalizing i with
  | zero => exact ⟨fun h => absurd h (by omega), fun _ => Nat.zero_testBit i⟩
  | succ n ih =>
    have hf : (s.mixBits a b n).2.freeVal 32 < 2 ^ 32 := Nat.mod_lt _ (by decide)
    have hx : (s.mixBits a b n).1 < 2 ^ (32 * n) := Nat.lt_pow_two_of_testBit _ fun j hj => (ih j).2 hj
    rw [mixBits_succ, testBit_add_mixPart hf a b hx, testBit_mixPart hf]
    obtain ⟨hlow, hhigh⟩ := ih i
    by_cases h : i < 32 * n
    · rw [if_neg (by omega), Bool.or_false]
      exact ⟨fun _ => hlow h, fun h' => absurd h' (by omega)⟩
    · rw [hhigh (by omega), Bool.false_or]
      refine ⟨fun h' => ?_, fun h' => if_neg (by omega)⟩
      rw [if_pos (by omega)]
      split
      · exact .inr rfl
      · exact .inl rfl

/-- A mix of the bits of two values, cut to them. -/
theorem isMix_mixBits (s : State) {x : Nat} (hx : x < 2 ^ (8 * n)) (v : Nat) :
    IsMix (8 * n) x v (.data (s.mixBits x (v % 2 ^ (8 * n)) ((n + 3) / 4)).1) := by
  have hbits (i : Nat) := testBit_mixBits s x (v % 2 ^ (8 * n)) ((n + 3) / 4) i
  refine ⟨_, rfl, Nat.lt_pow_two_of_testBit _ fun i hi => ?_, fun i hi => ?_⟩
  · have hzero (y : Nat) (hy : y < 2 ^ (8 * n)) : y.testBit i = false :=
      Nat.testBit_lt_two_pow (lt_of_lt_of_le hy (Nat.pow_le_pow_right (by decide) hi))
    by_cases h : i < 32 * ((n + 3) / 4)
    · obtain hb | hb := (hbits i).1 h
      · rw [hb, hzero x hx]
      · rw [hb, hzero _ (Nat.mod_lt _ (Nat.two_pow_pos _))]
    · exact (hbits i).2 (by omega)
  · have hb := (hbits i).1 (by omega)
    rwa [Nat.testBit_mod_two_pow, decide_eq_true hi, Bool.true_and] at hb

theorem onlyFreeOut {l : List Fld} (h : Frame ⟨[.free, .out, .resp], l⟩ s t) :
    t = { s with regs := t.regs, out := t.out, free := t.free, resp := t.resp } := by
  have hp (p : Part) (hp : (⟨[.free, .out, .resp], l⟩ : Reach).hasPart p = false) : p.Same s t := h.parts p hp
  have h1 := hp .ident rfl
  have h2 := hp .store rfl
  have h3 := hp .map rfl
  have h4 := hp .staged rfl
  have h5 := hp .mesh rfl
  have h6 := hp .sched rfl
  have h7 := hp .sweeps rfl
  have h8 := hp .fifo rfl
  have h9 := hp .fltQueue rfl
  have h10 := hp .tallyQueue rfl
  have h11 := hp .tallyStage rfl
  have h12 := hp .mirror rfl
  have h13 := hp .flush rfl
  have h14 := hp .shadows rfl
  have h18 := hp .pending rfl
  cases s
  cases t
  simp_all [Part.Same]

theorem read_torn {v : Nat} (hserved : storeServed a n = true) (hopen : s.storeShut = false ∨ Requester.isHart w.req = true) :
    Completes (.storeRead w a n (.write v)) s fun t =>
      IsMix (8 * n) (s.ld a n) v t.resp ∧ SameStore s t ∧ OnlyKinds [H.STORE_BUSYW, R.STORE_BUSY_HART, R.STORE_BUSY_HOST] s t
        ∧ t = { s with regs := t.regs, out := t.out, free := t.free, resp := t.resp } := by
  have htorn : s.tornRead w a n v = ((s.reachBank w.req a).mixBits (s.ld a n) (v % 2 ^ (8 * n)) ((n + 3) / 4)).2.answer
      (.data ((s.reachBank w.req a).mixBits (s.ld a n) (v % 2 ^ (8 * n)) ((n + 3) / 4)).1) :=
    if_neg (by rw [hserved, notShut hopen]; decide)
  have hall : Frame ⟨[.free, .out, .resp], [H.STORE_BUSYW, R.STORE_BUSY_HART, R.STORE_BUSY_HOST]⟩ s (s.tornRead w a n v) := by
    rw [htorn]
    exact (Frame.refl s).reachBank.mixBits.answer
  refine .of_go (t := s.tornRead w a n v) rfl ⟨?_, .of_store hall.store, hall.kinds, onlyFreeOut hall⟩
  rw [htorn]
  refine isMix_mixBits _ ?_ v
  rw [Nat.pow_mul]
  exact s.ld_lt a n

/-! ## Uncorrectable words -/

theorem wordsAt_word (ha : a % 4 = 0) : wordsAt a 4 = [a / 4] := by
  have : (a + 4 + 3) / 4 - a / 4 = 1 := by omega
  rw [wordsAt, this]
  rfl

theorem eccAt_double {k : Nat} (h : s.rd H.STORE_ECC k = 0) : s.eccAt k .double = 2 := by
  unfold State.eccAt
  simp only [h]
  rfl

theorem eccAt_single {k : Nat} (h : s.rd H.STORE_ECC k = 0) : s.eccAt k .single = 1 := if_pos h

theorem storeRead_double (hserved : storeServed a 4 = true) (hopen : s.storeShut = false ∨ Requester.isHart w.req = true)
    (ha : a % 4 = 0) (hecc : s.rd H.STORE_ECC (a / 4) = 0) :
    s.storeRead w a 4 .double = ((s.reachBank w.req a).eccEvent (a / 4) 2).poisonTo w.req false := by
  unfold State.storeRead
  rw [hserved, notShut hopen, wordsAt_word ha]
  simp only [List.foldl_cons, List.foldl_nil, List.any_cons, List.any_nil, eccAt_double hecc]
  rfl

/-- What a read tells of the uncorrectable word that it meets. -/
theorem read_tells (q : Requester) (hlt : a < storeSize) :
    ((s.reachBank q a).eccEvent (a / 4) 2).rd R.STORE_STAT_UE 0 = satAdd R.STORE_STAT_UE.wid (s.rd R.STORE_STAT_UE 0) 1
      ∧ ((s.reachBank q a).eccEvent (a / 4) 2).rd R.STORE_UE_ADDR 0 = a / 4
      ∧ ((s.reachBank q a).eccEvent (a / 4) 2).bit R.STORE_UE_VALID 0 = true
      ∧ Raised (0x2EC + bankOf a) 1 s ((s.reachBank q a).eccEvent (a / 4) 2) := by
  have hword : a / 4 < 262144 := by
    unfold storeSize at hlt
    omega
  have hr := reachBank_frame s q a
  obtain ⟨hue, haddr, hvalid, hraised⟩ := eccEvent_tells hword (s.reachBank q a)
  rw [hr.rd (by decide)] at hue
  rw [bankOf_word] at hraised
  exact ⟨hue, haddr, hvalid, .after hr.kinds (by decide) hraised⟩

theorem read_poison (hserved : storeServed a 4 = true) (hopen : s.storeShut = false) (hq : Requester.isHart w.req = false) (ha : a % 4 = 0)
    (hecc : s.rd H.STORE_ECC (a / 4) = 0) :
    Completes (.storeRead w a 4 (.ecc .double)) s fun t =>
      t.resp = .poison ∧ t.bit R.STORE_UE_VALID 0 = true ∧ t.rd R.STORE_UE_ADDR 0 = a / 4
        ∧ t.rd R.STORE_STAT_UE 0 = satAdd R.STORE_STAT_UE.wid (s.rd R.STORE_STAT_UE 0) 1 ∧ Raised (0x2EC + bankOf a) 1 s t := by
  obtain ⟨hue, haddr, hvalid, hraised⟩ := read_tells (s := s) w.req (storeServed_lt hserved)
  have hexec := storeRead_double (w := w) hserved (.inl hopen) ha hecc
  have hpoison (u : State) : u.poisonTo w.req false = u.answer .poison := by
    unfold State.poisonTo
    split
    · next h => rw [h] at hq; cases hq
    · rfl
  rw [hpoison] at hexec
  exact .of_go (congrArg State.go hexec) ⟨rfl, hvalid, haddr, hue, hraised⟩

/-- The source that a word's event raises is its bank's. -/
theorem eccEvent_raises (s : State) (k : Nat) : s.eccEvent k 2 = (((((s.wr H.STORE_ECC k 2).inc R.STORE_STAT_UE 0 1).wr R.STORE_UE_VALID 0
    1).wr R.STORE_UE_ADDR 0 k).wr H.STORE_FROW (k / 16384 % 16) (k / 64 + 1)).raise (0x2EC + k / 16384 % 16) 1 false := rfl

theorem read_fault {k c : Nat} (hk : k < 4) (hserved : storeServed a 4 = true) (ha : a % 4 = 0) (hecc : s.rd H.STORE_ECC (a / 4) = 0) :
    Completes (.storeRead ⟨.hart k, c⟩ a 4 (.ecc .double)) s fun t =>
      t.resp = .poison ∧ t.bit R.STORE_UE_VALID 0 = true ∧ t.rd R.STORE_UE_ADDR 0 = a / 4
        ∧ t.rd R.STORE_STAT_UE 0 = satAdd R.STORE_STAT_UE.wid (s.rd R.STORE_STAT_UE 0) 1 ∧ .hartEvent k 0x11 ∈ t.out
        ∧ Raised (0x2E8 + k) 1 s t := by
  obtain ⟨hue, haddr, hvalid, -⟩ := read_tells (s := s) (.hart k) (storeServed_lt hserved)
  have hexec := storeRead_double (w := ⟨.hart k, c⟩) hserved (.inr rfl) ha hecc
  have hr := reachBank_frame s (.hart k) a
  have hsource : Raised (0x2E8 + k) 1 s ((((s.reachBank (.hart k) a).eccEvent (a / 4) 2)).fault 0x09 k 1) := by
    have hraised := State.fault_raised ((s.reachBank (.hart k) a).eccEvent (a / 4) 2) (inj := false) (cls := 1)
      (show srcBase 0x09 + k = 0x2E8 + k from rfl) (srcPresent_hart _ hk) (by decide)
    rw [eccEvent_raises] at hraised ⊢
    have hw : Frame (.regs [H.STORE_ECC, R.STORE_STAT_UE, R.STORE_UE_VALID, R.STORE_UE_ADDR, H.STORE_FROW]) (s.reachBank (.hart k) a)
      ((((((s.reachBank (.hart k) a).wr H.STORE_ECC (a / 4) 2).inc R.STORE_STAT_UE 0 1).wr R.STORE_UE_VALID 0 1).wr R.STORE_UE_ADDR 0
        (a / 4)).wr H.STORE_FROW (a / 4 / 16384 % 16) (a / 4 / 64 + 1)) := (Frame.refl _).wr.inc.wr.wr.wr
    exact .after hr.kinds (by decide) (.after hw.kinds (by decide) (.after_other (by omega) hraised))
  generalize (s.reachBank (.hart k) a).eccEvent (a / 4) 2 = u at *
  have hf : Frame Frame.faultReach u (u.fault 0x09 k 1) := (Frame.refl u).fault
  refine .of_go (t := ((u.fault 0x09 k 1).send (.hartEvent k 0x11)).answer .poison) (congrArg State.go hexec)
    ⟨rfl, ?_, (hf.rd (by decide +kernel) 0).trans haddr, (hf.rd (by decide +kernel) 0).trans hue, List.mem_cons_self, hsource⟩
  exact (hf.bit (by decide +kernel) 0).trans hvalid

/-! ## Scrubs -/

theorem scrub_some {e : EccErr} (hlt : a < storeSize) (hawake : s.bit H.STORE_ASLEEP (bankOf a) = false) :
    exec (.scrubRead a e) s = (s.eccEvent (a / 4) (s.eccAt (a / 4) e)).go := congrArg State.go (if_pos ⟨hlt, hawake⟩)

theorem word_lt (hlt : a < storeSize) : a / 4 < 262144 := by
  unfold storeSize at hlt
  omega

theorem scrub_corrects (hlt : a < storeSize) (hawake : s.bit H.STORE_ASLEEP (bankOf a) = false) (hecc : s.rd H.STORE_ECC (a / 4) = 0) :
    Completes (.scrubRead a .single) s fun t =>
      t.rd R.STORE_STAT_CE 0 = satAdd R.STORE_STAT_CE.wid (s.rd R.STORE_STAT_CE 0) 1 ∧ t.rd H.STORE_ECC (a / 4) = 0
        ∧ Raised (0x2EC + bankOf a) 0 s t := by
  have hexec := scrub_some (e := .single) hlt hawake
  rw [eccAt_single hecc] at hexec
  have hsays := eccEvent_corrects (word_lt hlt) s
  rw [bankOf_word] at hsays
  exact .of_go hexec hsays

theorem scrub_records (hlt : a < storeSize) (hawake : s.bit H.STORE_ASLEEP (bankOf a) = false) (hecc : s.rd H.STORE_ECC (a / 4) = 0) :
    Completes (.scrubRead a .double) s fun t =>
      t.rd R.STORE_STAT_UE 0 = satAdd R.STORE_STAT_UE.wid (s.rd R.STORE_STAT_UE 0) 1 ∧ t.rd R.STORE_UE_ADDR 0 = a / 4
        ∧ t.bit R.STORE_UE_VALID 0 = true ∧ Raised (0x2EC + bankOf a) 1 s t := by
  have hexec := scrub_some (e := .double) hlt hawake
  rw [eccAt_double hecc] at hexec
  have hsays := eccEvent_tells (word_lt hlt) s
  rw [bankOf_word] at hsays
  exact .of_go hexec hsays

theorem scrub_idles {e : EccErr} (h : storeSize ≤ a ∨ s.bit H.STORE_ASLEEP (bankOf a) = true
    ∨ (e = .clean ∧ s.rd H.STORE_ECC (a / 4) = 0)) : exec (.scrubRead a e) s = .next s := by
  by_cases hgo : a < storeSize ∧ s.bit H.STORE_ASLEEP (bankOf a) = false
  · obtain ⟨hlt, hawake⟩ := hgo
    obtain h | h | ⟨rfl, hecc⟩ := h
    · omega
    · exact absurd (h.symm.trans hawake) (by decide)
    · rw [scrub_some hlt hawake, eccEvent_none _ _ (show s.eccAt (a / 4) .clean = 0 from hecc)]
      rfl
  · exact congrArg State.go (if_neg hgo)

end Sys2Proof.Machine
end

section
/-! H3 tests a row of the Store (R449, R556, R561, R562). -/

set_option Elab.async false

namespace Sys2Proof.Machine

variable {s t u : State}

/-! ## A row is restored -/

/-- A word of the tested row is written back, an uncorrectable one as 0 (R449). -/
def State.restoreWord (s : State) (row : Nat) (t : State) (k : Nat) : State :=
  if k / 64 = row then (if s.rd H.STORE_ECC k % 4 = 2 then t.st (4 * k) 4 0 else t.wr H.STORE_ECC k 0) else t

theorem restoreRow_eq (s : State) (row : Nat) : s.restoreRow row = (s.touched H.STORE_ECC).foldl (s.restoreWord row) s := rfl

theorem wr_zero {j k : Nat} (h : t.rd H.STORE_ECC k = 0) : (t.wr H.STORE_ECC j 0).rd H.STORE_ECC k = 0 := by
  by_cases hk : k < 262144
  · by_cases hj : j = k
    · rw [hj, State.rd_wr_self _ _ hk]
      rfl
    · rw [State.rd_wr_idx _ hj (by decide), h]
  · exact ecc_cnt hk _

/-- The marks of a tested row are gone. -/
theorem restoreRow_zero {k row : Nat} (hk : k / 64 = row) (hlt : k < 262144) : (s.restoreRow row).rd H.STORE_ECC k = 0 := by
  have hkeep (u : State) (j : Nat) (hu : u.rd H.STORE_ECC k = 0) : (s.restoreWord row u j).rd H.STORE_ECC k = 0 := by
    unfold State.restoreWord
    split
    · split
      · exact st_zero hu _ _ _
      · exact wr_zero hu
    · exact hu
  have hset (u : State) : (s.restoreWord row u k).rd H.STORE_ECC k = 0 := by
    unfold State.restoreWord
    rw [if_pos hk]
    split
    · exact st_covered le_rfl le_rfl _ _
    · rw [State.rd_wr_self _ _ hlt]
      rfl
  rw [restoreRow_eq]
  by_cases hzero : s.rd H.STORE_ECC k = 0
  · exact List.foldlRecOn (s.touched H.STORE_ECC) _ (motive := fun u : State => u.rd H.STORE_ECC k = 0) hzero fun u hu j _ => hkeep u j hu
  · exact foldl_at (I := fun _ => True) (Q := fun u : State => u.rd H.STORE_ECC k = 0) (mem_touched (by decide) hzero)
      (fun _ _ _ => trivial) (fun u _ => hset u) (fun u j _ => hkeep u j) s trivial

/-- Nothing outside the row is stored. -/
theorem restoreRow_store (s : State) (row : Nat) : SameStoreBut (256 * row) 256 s (s.restoreRow row) := by
  rw [restoreRow_eq]
  refine List.foldlRecOn (s.touched H.STORE_ECC) _ (motive := fun u : State => SameStoreBut (256 * row) 256 s u) (fun _ _ => rfl)
    fun u hu j _ => ?_
  unfold State.restoreWord
  split
  · next hj =>
    split
    · exact hu.trans ((u.sameStoreBut_st (4 * j) 4 0).widen (by omega) (by omega))
    · exact hu.trans (.of_store rfl)
  · exact hu

/-- A word that can be corrected keeps its value. -/
theorem restoreRow_ld {k row : Nat} (h : s.rd H.STORE_ECC k % 4 ≠ 2) : (s.restoreRow row).ld (4 * k) 4 = s.ld (4 * k) 4 := by
  rw [restoreRow_eq]
  refine List.foldlRecOn (s.touched H.STORE_ECC) _ (motive := fun u : State => u.ld (4 * k) 4 = s.ld (4 * k) 4) rfl fun u hu j _ => ?_
  unfold State.restoreWord
  split
  · split
    · next hbad =>
      have hjk : j ≠ k := fun e => h (e ▸ hbad)
      rw [(u.sameStoreBut_st (4 * j) 4 0).ld (by omega), hu]
    · exact hu
  · exact hu

/-! ## Ports that wait -/

theorem storeBusy_hart (s : State) {k : Nat} (hk : k < 4) : (s.storeBusy (.hart k)).bit R.STORE_BUSY_HART k = true := by
  have h : (s.wr R.STORE_BUSY_HART k 1).bit R.STORE_BUSY_HART k = true := by
    rw [State.bit, State.rd_wr_self _ _ hk]
    rfl
  exact h

theorem hostPort_hart (s : State) (v k : Nat) : (s.wr R.STORE_BUSY_HOST 0 v).rd R.STORE_BUSY_HART k = s.rd R.STORE_BUSY_HART k :=
  regsRd_regsWr_key (f := R.STORE_BUSY_HOST) (g := R.STORE_BUSY_HART) (i := 0) (j := k) (fun _ _ h => by
    change 0x100104 * 8 + 0 + 32 * 0 = 0x100104 * 8 + 28 + 1 * k at h
    omega) s.regs v

/-- A port that has been told stays so while others are told. -/
theorem storeBusy_keeps {k : Nat} (h : s.bit R.STORE_BUSY_HART k = true) (q : Requester) : (s.storeBusy q).bit R.STORE_BUSY_HART k = true := by
  have hhost (v : Nat) : (s.wr R.STORE_BUSY_HOST 0 v).bit R.STORE_BUSY_HART k = true := by rwa [State.bit, hostPort_hart]
  cases q with
  | hart j =>
    by_cases hk : k < 4
    · by_cases hj : j = k
      · rw [hj]
        exact storeBusy_hart s hk
      · have hw : (s.wr R.STORE_BUSY_HART j 1).bit R.STORE_BUSY_HART k = true := by rwa [State.bit, State.rd_wr_idx _ hj (by decide)]
        exact hw
    · refine absurd h ?_
      unfold State.bit State.rd regsRd
      rw [if_neg (show ¬ k < R.STORE_BUSY_HART.cnt from hk)]
      exact Bool.false_ne_true
  | psc => exact hhost _
  | host => exact hhost _
  | bmc => exact hhost _

theorem waits_told {l : List Requester} {k : Nat} (hk : k < 4) (hl : .hart k ∈ l) (s : State) :
    (l.foldl State.storeBusy s).bit R.STORE_BUSY_HART k = true :=
  foldl_at (I := fun _ => True) (Q := fun u : State => u.bit R.STORE_BUSY_HART k = true) hl (fun _ _ _ => trivial)
    (fun u _ => storeBusy_hart u hk) (fun _ q _ hu => storeBusy_keeps hu q) s trivial

theorem waits_frame (s : State) (l : List Requester) :
    Frame ⟨[.out], [R.STORE_BUSY_HART, R.STORE_BUSY_HOST]⟩ s (l.foldl State.storeBusy s) := (Frame.refl s).foldl fun _ _ hu => hu.storeBusy

/-! ## The test -/

/-- A row after its test, before it may be retired. -/
def State.rowTested (s : State) (row : Nat) (v : RowVerdict) : State :=
  (v.waits.foldl State.storeBusy (s.restoreRow row)).wr H.FLT_RESULT (0x2EC + row / 256) (if v.ok then 1 else 2)

section
variable {row : Nat} {v : RowVerdict} {l : List Requester}

theorem exec_rowTest (htests : s.testsRow row = true) (hpend : s.bit H.FLT_TEST_PEND (0x2EC + row / 256) = true) (hup : s.hartUp 3 = true) :
    exec (.rowPatternTest row v) s = (if !v.ok && decide (s.rd R.STORE_STAT_RETIRED 0 < 16) then (s.rowTested row v).retireRow row
      else s.rowTested row v).go := congrArg State.go (if_pos (by rw [htests, hpend, hup]; rfl))

theorem testsRow_of (hrow : row < 4096) (hf : s.rd H.STORE_FROW (row / 256) = row + 1 ∨ s.rd H.STORE_FROW (row / 256) = 0) :
    s.testsRow row = true := by
  unfold State.testsRow
  rw [decide_eq_true hrow]
  obtain h | h := hf <;> simp [h]

theorem testsRow_lt (h : s.testsRow row = true) : row < 4096 := by
  simp only [State.testsRow, Bool.and_eq_true, decide_eq_true_eq] at h
  exact h.1

theorem rowTested_frame (s : State) (row : Nat) (v : RowVerdict) :
    Frame ⟨[.store, .out], [H.STORE_ECC, H.FLT_RESULT, R.STORE_BUSY_HART, R.STORE_BUSY_HOST]⟩ s (s.rowTested row v) :=
  (((Frame.refl s).restoreRow).andThen (waits_frame (s.restoreRow row) v.waits)).wr

theorem rowTested_verdict (hrow : row < 4096) : (s.rowTested row v).rd H.FLT_RESULT (0x2EC + row / 256) = if v.ok then 1 else 2 := by
  rw [State.rowTested, State.rd_wr_self _ _ (by change _ < 4096; omega)]
  split <;> rfl

theorem row_idles {ok : Bool} (h : s.testsRow row = false ∨ s.hartUp 3 = false ∨ s.bit H.FLT_TEST_PEND (0x2EC + row / 256) = false) :
    exec (.rowPatternTest row ⟨ok, l⟩) s = .next s := by
  refine congrArg State.go (if_neg ?_)
  obtain h | h | h := h <;> simp [h]

theorem rowTested_only (h : Frame ⟨[.store, .out], [H.STORE_ECC, H.FLT_RESULT, R.STORE_BUSY_HART, R.STORE_BUSY_HOST]⟩ s t) :
    t = { s with regs := t.regs, store := t.store, out := t.out } := by
  have hall : Frame ⟨[.store, .out, .resp], [H.STORE_ECC, H.FLT_RESULT, R.STORE_BUSY_HART, R.STORE_BUSY_HOST]⟩ s t := h.mono (by decide)
  have hshape := onlyStoreOut hall
  rwa [h.resp] at hshape

theorem row_passes (hrow : row < 4096) (hpend : s.bit H.FLT_TEST_PEND (0x2EC + row / 256) = true) (hup : s.hartUp 3 = true)
    (hf : s.rd H.STORE_FROW (row / 256) = row + 1 ∨ s.rd H.STORE_FROW (row / 256) = 0) :
    Completes (.rowPatternTest row ⟨true, l⟩) s fun t =>
      t.rd H.FLT_RESULT (0x2EC + row / 256) = 1 ∧ t.rd R.STORE_STAT_RETIRED 0 = s.rd R.STORE_STAT_RETIRED 0
        ∧ (∀ k, k / 64 = row → t.rd H.STORE_ECC k = 0) ∧ SameStoreBut (256 * row) 256 s t
        ∧ (∀ k, k / 64 = row → s.rd H.STORE_ECC k % 4 ≠ 2 → t.ld (4 * k) 4 = s.ld (4 * k) 4)
        ∧ (∀ k, .hart k ∈ l → k < 4 → t.bit R.STORE_BUSY_HART k = true)
        ∧ OnlyKinds [H.STORE_ECC, H.FLT_RESULT, R.STORE_BUSY_HART, R.STORE_BUSY_HOST] s t
        ∧ t = { s with regs := t.regs, store := t.store, out := t.out } := by
  have hexec := exec_rowTest (v := ⟨true, l⟩) (testsRow_of hrow hf) hpend hup
  have hall := rowTested_frame s row ⟨true, l⟩
  have hw : Frame ⟨[.out], [R.STORE_BUSY_HART, R.STORE_BUSY_HOST, H.FLT_RESULT]⟩ (s.restoreRow row) (s.rowTested row ⟨true, l⟩) :=
    ((waits_frame (s.restoreRow row) l).mono (by decide)).wr
  have hstore : (s.rowTested row ⟨true, l⟩).store = (s.restoreRow row).store := hw.store
  refine .of_go (t := s.rowTested row ⟨true, l⟩) hexec ⟨rowTested_verdict hrow, hall.rd (by decide) 0, fun k hk => ?_, fun b hb => ?_,
    fun k _ hk => ?_, fun k hk h4 => ?_, hall.kinds, rowTested_only hall⟩
  · rw [hw.rd (by decide)]
    exact restoreRow_zero hk (by omega)
  · rw [hstore]
    exact restoreRow_store s row b hb
  · rw [State.ld_congr (s := s.restoreRow row) fun b _ _ => by rw [hstore]]
    exact restoreRow_ld hk
  · exact (State.bit_wr_apart _ (by decide) _ _ _).trans (waits_told h4 hk _)

theorem row_retired (hrow : row < 4096) (hpend : s.bit H.FLT_TEST_PEND (0x2EC + row / 256) = true) (hup : s.hartUp 3 = true)
    (hf : s.rd H.STORE_FROW (row / 256) = row + 1 ∨ s.rd H.STORE_FROW (row / 256) = 0) (hspare : s.rd R.STORE_STAT_RETIRED 0 < 16)
    (hin : s.bit H.STORE_RETIRED row = false) :
    Completes (.rowPatternTest row ⟨false, l⟩) s fun t =>
      t.rd H.FLT_RESULT (0x2EC + row / 256) = 2 ∧ t.rd R.STORE_STAT_RETIRED 0 = s.rd R.STORE_STAT_RETIRED 0 + 1
        ∧ t.bit H.STORE_RETIRED row = true := by
  have hexec := exec_rowTest (v := ⟨false, l⟩) (testsRow_of hrow hf) hpend hup
  have hall := rowTested_frame s row ⟨false, l⟩
  have hverdict : (s.rowTested row ⟨false, l⟩).rd H.FLT_RESULT (0x2EC + row / 256) = 2 := rowTested_verdict hrow
  rw [decide_eq_true hspare] at hexec
  generalize s.rowTested row ⟨false, l⟩ = u at *
  have hretire : u.retireRow row = (u.wr H.STORE_RETIRED row 1).wr R.STORE_STAT_RETIRED 0 (u.rd R.STORE_STAT_RETIRED 0 + 1) :=
    if_neg (by rw [hall.bit (by decide), hin]; decide)
  refine .of_go (t := u.retireRow row) hexec ?_
  rw [hretire]
  refine ⟨?_, ?_, ?_⟩
  · rw [State.rd_wr_apart _ (by decide), State.rd_wr_apart _ (by decide), hverdict]
  · rw [State.rd_wr_self _ _ (by decide), hall.rd (by decide)]
    exact Nat.mod_eq_of_lt (show _ < 32 by omega)
  · rw [State.bit_wr_apart _ (by decide), State.bit, State.rd_wr_self _ _ hrow]
    rfl

theorem row_noSpare (htests : s.testsRow row = true) (hpend : s.bit H.FLT_TEST_PEND (0x2EC + row / 256) = true) (hup : s.hartUp 3 = true)
    (hfull : 16 ≤ s.rd R.STORE_STAT_RETIRED 0) :
    Completes (.rowPatternTest row ⟨false, []⟩) s fun t =>
      t.rd H.FLT_RESULT (0x2EC + row / 256) = 2 ∧ t.rd R.STORE_STAT_RETIRED 0 = s.rd R.STORE_STAT_RETIRED 0
        ∧ t.bit H.STORE_RETIRED row = s.bit H.STORE_RETIRED row := by
  have hexec := exec_rowTest (v := ⟨false, []⟩) htests hpend hup
  rw [decide_eq_false (Nat.not_lt.2 hfull)] at hexec
  have hall := rowTested_frame s row ⟨false, []⟩
  exact .of_go (t := s.rowTested row ⟨false, []⟩) hexec ⟨rowTested_verdict (testsRow_lt htests), hall.rd (by decide) 0, hall.bit (by decide) row⟩

end

/-- Settles O38, access by access. -/
theorem storeReadsWritesAndScrubs : Obligations.StoreReadsWritesAndScrubs := by
  unfold Obligations.StoreReadsWritesAndScrubs
  exact ⟨fun _ _ _ _ _ hserved hopen hall hrec hclean => write_stores hserved hopen hall hrec hclean,
    fun _ _ _ _ _ hb hmin hlev => log_enters hb hmin hlev,
    fun _ _ _ _ _ h => write_notServed h,
    fun _ _ _ _ _ hserved hshut hq => write_shut hserved hshut hq,
    fun _ _ _ _ hserved hopen hclean => read_clean hserved hopen hclean,
    fun _ _ _ _ hk hserved ha hecc => read_fault hk hserved ha hecc,
    fun _ _ hlt hawake hecc => scrub_corrects hlt hawake hecc,
    fun _ _ _ hrow hpend hup hf => row_passes hrow hpend hup hf,
    fun _ _ _ hrow hpend hup hf hspare hin => row_retired hrow hpend hup hf hspare hin,
    fun _ _ _ _ _ hserved hopen hq hbad hclean => write_partRefused hserved hopen hq hbad hclean,
    fun _ _ _ _ _ hserved hopen hq hne hres => write_bmc hserved hopen hq hne hres,
    fun _ _ _ _ hb hmin => log_ignored hb hmin,
    fun _ _ _ _ hb hmin hlow hlev => log_shed hb hmin hlow hlev,
    fun _ _ _ _ hb hoff => trace_ignored hb hoff,
    fun _ _ _ _ hb hon hlev => trace_shed hb hon hlev,
    fun _ _ _ _ _ hb hon hlev => trace_enters hb hon hlev,
    fun _ _ _ _ x h => read_notServed x h,
    fun _ _ _ _ x hserved hshut hq => read_shut x hserved hshut hq,
    fun _ _ _ _ _ hserved hopen => read_torn hserved hopen,
    fun _ _ _ hq hopen hserved ha hecc => read_poison hserved hopen hq ha hecc,
    fun _ _ hlt hawake hecc => scrub_records hlt hawake hecc,
    fun _ _ _ h => scrub_idles h,
    fun _ _ _ _ h => row_idles h,
    fun _ _ htests hpend hup hfull => row_noSpare htests hpend hup hfull,
    fun _ _ _ _ hserved hopen hecc harm => write_corrects hserved hopen hecc harm⟩

end Sys2Proof.Machine
end

section
/-! What the reset scopes reach (R491, R519, R542, R575). -/

set_option Elab.async false

namespace Sys2Proof.Machine

variable {s t u : State}

/-! ## Ranges of addresses -/

/-- The addresses from `lo` to `hi - 1`, as the places of one field. -/
def span (lo hi : Nat) : Fld := ⟨lo, 1, hi - lo, 1, .ro, .all 0, false⟩

/-- The registers at byte offsets `lo` to `hi - 1`. -/
def regsSpan (lo hi : Nat) : Fld := span (8 * lo) (8 * hi)

/-- What no register of block `k` shows. -/
def hiddenSpan (k : Nat) : Fld := span (2 ^ 32 + k * 2 ^ 30) (2 ^ 32 + (k + 1) * 2 ^ 30)

theorem State.rd_clearRange_apart (s : State) {lo hi : Nat} {g : Fld} (h : (span lo hi).apart g = true) (j : Nat) :
    (s.clearRange lo hi).rd g j = s.rd g j := by
  by_cases hj : j < g.cnt
  · refine s.rd_clearRange ?_
    by_contra hc
    push Not at hc
    exact Fld.not_place h hj (by exact hc.1) (by simp only [span]; omega) (Nat.mod_one _)
  · simp only [State.rd, regsRd, if_neg hj]

theorem State.rd_clearRange_inside (s : State) {lo hi : Nat} {g : Fld} {j : Nat} (h1 : lo ≤ g.key j) (h2 : g.key j < hi) :
    (s.clearRange lo hi).rd g j = g.resetAt j % 2 ^ g.wid := by
  unfold State.rd regsRd State.clearRange
  split
  · rw [amGet_filter_dropped (fun k => !(decide (lo ≤ k) && decide (k < hi))) (by simp [h1, h2])]
    rfl
  · rfl

/-- Fields kept read as they stood. -/
theorem State.keep_frame (s old : State) (fs : List (Fld × Nat)) : Frame (.regs (fs.map Prod.fst)) s (s.keep old fs) := by
  refine (Frame.refl s).foldlMem fun u x hx hu => hu.wr ?_
  exact List.any_eq_true.2 ⟨x.1, List.mem_map_of_mem hx, by simp [Reach.samePlace]⟩

namespace Frame

variable {ρ : Reach}

theorem clearRange (h : Frame ρ s t) {lo hi : Nat} (hf : ρ.has (span lo hi) = true) : Frame ρ s (t.clearRange lo hi) := by
  obtain ⟨k, hk, hfk⟩ := List.any_eq_true.1 hf
  exact h.of_regs fun g j hg => t.rd_clearRange_apart (apart_of_samePlace hfk (hg k hk)) j

theorem clearRegs (h : Frame ρ s t) {lo hi : Nat} (hf : ρ.has (regsSpan lo hi) = true := by decide +kernel) : Frame ρ s (t.clearRegs lo hi) :=
  h.clearRange hf

theorem clearHidden (h : Frame ρ s t) {k : Nat} (hf : ρ.has (hiddenSpan k) = true := by decide +kernel) : Frame ρ s (t.clearHidden k) :=
  h.clearRange hf

theorem keep (h : Frame ρ s t) {old : State} {fs : List (Fld × Nat)} (hf : (fs.all fun x => ρ.has x.1) = true) :
    Frame ρ s (t.keep old fs) := h.foldlMem fun _ x hx hu => hu.wr (List.all_eq_true.1 hf x hx)

/-! ## The scopes -/

/-- The twin block's registers and state. -/
def resetTwinReach : Reach := ⟨[.mesh], [regsSpan 0x1C0000 0x1D0000, hiddenSpan 7, R.TWIN_STATUS_GATE_OWN, R.TWIN_STATUS_GATE_PEER,
  H.TWIN_LOSS, R.STATUS_READY]⟩

end Frame

/-- The twin block's reset once the keeper has let go of the gate; `s` is the state before. -/
def State.twinCleared (u s : State) : State :=
  ((((u.stopSending.clearRegs 0x1C0000 0x1D0000).clearHidden 7).keep u [(R.TWIN_STATUS_GATE_OWN, 0), (R.TWIN_STATUS_GATE_PEER, 0)]).wrB
    H.TWIN_LOSS 0 (s.holder || s.bit H.TWIN_LOSS 0)).wr R.STATUS_READY 0 0

/-- The keeper lets go of the gate before a reset of what drives, where a peer is ready. -/
def State.gateFreed (s : State) : State := if s.holder && s.bit R.TWIN_STATUS_PEER_READY 0 then s.dropGate else s

theorem resetTwin_eq (s : State) : s.resetTwin = s.gateFreed.twinCleared s := rfl

theorem gateFreed_frame (s : State) : Frame Frame.dropGateReach s s.gateFreed := Frame.ite (Frame.refl s).dropGate (Frame.refl s)

theorem gateFreed_idle (h : s.holder = false) : s.gateFreed = s := if_neg (by rw [h, Bool.false_and]; exact Bool.false_ne_true)

theorem twinCleared_frame (u s : State) : Frame Frame.resetTwinReach u (u.twinCleared s) :=
  ((((Frame.refl u).stopSending.clearRegs).clearHidden).keep (by decide +kernel)).wrB.wr

theorem twinCleared_role (u s : State) : (u.twinCleared s).role = 0 := by
  have hrest : Frame (.regs [hiddenSpan 7, R.TWIN_STATUS_GATE_OWN, R.TWIN_STATUS_GATE_PEER, H.TWIN_LOSS, R.STATUS_READY])
      (u.stopSending.clearRegs 0x1C0000 0x1D0000) (u.twinCleared s) :=
    ((((Frame.refl _).clearHidden).keep (by decide +kernel)).wrB).wr
  rw [State.role, hrest.rd (by decide +kernel)]
  exact State.rd_clearRange_inside _ (by decide) (by decide)

/-! ## The BLOCK scope -/

/-- The Loop Engine's and the Phase Driver's neighbours: what the BLOCK scope clears after the twin block. -/
def State.blockEngines (u : State) : State := (u.clearRegs 0x110000 0x140000).clearHidden 1

/-- Crook, Bellwether and the grants. -/
def State.blockMiddle (u : State) : State := (u.resetCrook.clearRegs 0x160000 0x1A0000).clearHidden 4

/-- The thermal section and what lies above the twin block. -/
def State.blockThermal (u : State) : State :=
  (((((u.resetThermal.clearRegs 0x1B0000 0x1C0000).clearHidden 6).clearRegs 0x1F0000 0x200000).clearHidden 10).clearRegs 0x210000
    0x220000).clearHidden 12

/-- The map stops, and H0's window closes. -/
def State.blockStopped (u : State) : State :=
  u.stopMap.closeWindow.clearElems [H.TOP_BOOT_ON, R.STATUS_SAFE_GOV, R.TALLY_STAT_FLUSHING] 0

/-- The counts that a BLOCK reset leaves, with their values. -/
def State.blockKept (u old : State) : State := u.keep old (keptByBlock.flatMap fun f => (old.touched f).map fun i => (f, i))

/-- The lists that a BLOCK reset empties. -/
def State.blockLists (u v : State) : State :=
  { u with
    staged := v.staged.filter (fun x => keptAct x.act)
    mesh := { v.mesh with outstanding := [], waiting := [] }
    fifo := [], shadows := [], flush := none }

/-- Everything of the BLOCK scope after the twin block. -/
def State.blockRest (u old : State) : State :=
  (u.blockEngines.blockMiddle.blockThermal.blockStopped.blockKept old).blockLists u.blockEngines.blockMiddle.blockThermal.blockStopped

theorem resetBlock_eq (s : State) : s.resetBlock = s.resetTwin.blockRest s := rfl

namespace Frame

variable {ρ : Reach}

def blockMiddleReach : Reach := .regs [regsSpan 0x150000 0x160000, H.CROOK_REP_STUCK, H.CROOK_EN_SENT, H.CROOK_ECHO_PEND, H.CROOK_ECHO_AGE,
  H.CROOK_DELAYED, H.CROOK_FOLD_MAXC, H.CROOK_PTRIPS, H.CROOK_PEDGES, H.CROOK_CFG_DUE, H.CROOK_THR_DUE, H.CROOK_ECHO_DUE, H.CROOK_SYNC_AGE,
  regsSpan 0x160000 0x1A0000, hiddenSpan 4]

def blockLowReach : Reach := (Reach.regs [regsSpan 0x110000 0x140000, hiddenSpan 1]).and blockMiddleReach

def thermalReach : Reach := .regs [regsSpan 0x1A0000 0x1B0000, hiddenSpan 5, R.TH_TRIP_LATCHED, R.TH_TRIP_NET_LOW, R.TH_TRIP_DIODE,
  R.TH_TRIP_TEMP, H.TH_CAL_BASE, H.TH_CAL_ON]

def aboveReach : Reach := .regs [regsSpan 0x1B0000 0x1C0000, hiddenSpan 6, regsSpan 0x1F0000 0x200000, hiddenSpan 10, regsSpan 0x210000 0x220000,
  hiddenSpan 12]

def stoppedReach : Reach := stopMapReach.and <| closeWindowReach.and <| .regs [H.TOP_BOOT_ON, R.STATUS_SAFE_GOV, R.TALLY_STAT_FLUSHING]

def keptReach : Reach := ⟨[.staged, .mesh, .fifo, .shadows, .flush], keptByBlock⟩

/-- From the thermal section on. -/
def blockHighReach : Reach := aboveReach.and <| stoppedReach.and keptReach

/-- All of the BLOCK scope after the twin block. -/
def blockRestReach : Reach := blockLowReach.and <| thermalReach.and blockHighReach

end Frame

theorem blockMiddle_frame (u : State) : Frame Frame.blockMiddleReach u u.blockMiddle :=
  ((((Frame.refl u).clearRegs).clearFlds).clearRegs).clearHidden

theorem blockLow_frame (u : State) : Frame Frame.blockLowReach u u.blockEngines.blockMiddle :=
  (((Frame.refl u).clearRegs).clearHidden).andThen (blockMiddle_frame _)

theorem resetThermal_frame (u : State) : Frame Frame.thermalReach u u.resetThermal :=
  (((Frame.refl u).clearRegs).clearHidden).keep (by decide +kernel)

theorem blockAbove_frame (u : State) : Frame Frame.aboveReach u.resetThermal u.blockThermal :=
  ((((((Frame.refl _).clearRegs).clearHidden).clearRegs).clearHidden).clearRegs).clearHidden

theorem blockStopped_frame (u : State) : Frame Frame.stoppedReach u u.blockStopped := (Frame.refl u).stopMap.closeWindow.clearElems

theorem blockKept_frame (u old v : State) : Frame Frame.keptReach u ((u.blockKept old).blockLists v) := by
  have hkeep : Frame Frame.keptReach u (u.blockKept old) := by
    refine (Frame.refl u).keep (List.all_eq_true.2 fun x hx => ?_)
    obtain ⟨f, hf, hx⟩ := List.mem_flatMap.1 hx
    obtain ⟨i, -, rfl⟩ := List.mem_map.1 hx
    exact List.any_eq_true.2 ⟨f, hf, by simp [Reach.samePlace]⟩
  exact ((((hkeep.setStaged (x := v.staged.filter fun x => keptAct x.act)).setMesh
    (x := { v.mesh with outstanding := [], waiting := [] })).setFifo (x := [])).setShadows (x := [])).setFlush (x := none)

theorem blockHigh_frame (u old : State) : Frame Frame.blockHighReach u.resetThermal
    ((u.blockThermal.blockStopped.blockKept old).blockLists u.blockThermal.blockStopped) :=
  (((blockAbove_frame u).mono (by decide +kernel)).andThen (blockStopped_frame _)).andThen (blockKept_frame _ _ _)

theorem blockRest_frame (u old : State) : Frame Frame.blockRestReach u (u.blockRest old) :=
  (((blockLow_frame u).mono (by decide +kernel)).andThen (resetThermal_frame _)).andThen (blockHigh_frame _ _)

/-- What the BLOCK scope reaches. -/
def Frame.resetBlockReach : Reach := dropGateReach.and <| resetTwinReach.and blockRestReach

theorem resetBlock_frame (s : State) : Frame Frame.resetBlockReach s s.resetBlock :=
  (((gateFreed_frame s).mono (by decide +kernel)).andThen (twinCleared_frame _ s)).andThen (blockRest_frame _ s)

/-- Where Zoskare does not drive, a BLOCK reset leaves the gate alone. -/
theorem resetBlock_frame_idle (h : s.holder = false) : Frame (Frame.resetTwinReach.and Frame.blockRestReach) s s.resetBlock := by
  rw [resetBlock_eq, resetTwin_eq, gateFreed_idle h]
  exact ((twinCleared_frame s s).mono (by decide +kernel)).andThen (blockRest_frame _ s)

end Sys2Proof.Machine
end

section
/-! Resets at once: power-up, por_n, hold_n, and their release (R435, R468, R488, R491, R492, R495, R496, R587). -/

set_option Elab.async false

namespace Sys2Proof.Machine

variable {s t u : State}

/-! ## Elements, whatever their field's stride -/

/-- One element of a field, as a field of its own with a stride of choice. -/
def Fld.elemOf (f : Fld) (i σ : Nat) : Fld := { f with base := f.key i, stride := σ, cnt := 1, init := .all (f.resetAt i) }

theorem State.rd_elemOf (s : State) {f : Fld} {i : Nat} (σ : Nat) (hi : i < f.cnt) : s.rd (f.elemOf i σ) 0 = s.rd f i := by
  simp only [State.rd, regsRd, Fld.elemOf, Nat.one_pos, if_true, if_pos hi]
  rfl

theorem OnlyKinds.rdElemOf {l : List Fld} {f : Fld} {i : Nat} (σ : Nat) (h : OnlyKinds l s t) (hi : i < f.cnt)
    (hl : (l.all fun g => g.apart (f.elemOf i σ)) = true) : t.rd f i = s.rd f i := by
  rw [← t.rd_elemOf σ hi, ← s.rd_elemOf σ hi]
  exact h.rd hl 0

/-- A field has no place from `lo` to `hi - 1`. -/
def Fld.outside (f : Fld) (lo hi : Nat) : Bool :=
  decide (0 < f.stride) && (decide (f.base + f.stride * f.cnt ≤ lo) || decide (hi ≤ f.base))

/-- What leaves a range of addresses leaves every element in it. -/
theorem OnlyKinds.rdRange {l : List Fld} {lo hi : Nat} (h : OnlyKinds l s t) (hl : (l.all fun f => f.outside lo hi) = true) {g : Fld} {j : Nat}
    (h1 : lo ≤ g.key j) (h2 : g.key j < hi) : t.rd g j = s.rd g j := by
  by_cases hj : j < g.cnt
  · refine h.rdElemOf 1 hj (List.all_eq_true.2 fun f hf => ?_)
    have hout := List.all_eq_true.1 hl f hf
    simp only [Fld.outside, Bool.and_eq_true, Bool.or_eq_true, decide_eq_true_eq] at hout
    obtain ⟨hpos, hplace⟩ := hout
    have hplaces : f.base + f.stride * f.cnt ≤ g.key j ∨ g.key j + 1 * 1 ≤ f.base := by omega
    have hcut : f.apart (g.elemOf j 1) = (decide (0 < f.stride) && decide (0 < 1) && (decide (f.base + f.stride * f.cnt ≤ g.key j)
      || decide (g.key j + 1 * 1 ≤ f.base) || (decide (f.stride = 1) && decide (f.base % f.stride ≠ g.key j % f.stride)))) := rfl
    rw [hcut]
    simp only [Bool.and_eq_true, Bool.or_eq_true, decide_eq_true_eq]
    exact ⟨⟨hpos, Nat.one_pos⟩, .inl hplaces⟩
  · simp only [State.rd, regsRd, if_neg hj]

/-! ## Power-up and por_n -/

theorem reset_rd (g : Fld) (j : Nat) : State.reset.rd g j = g.resetAt j % 2 ^ g.wid := by
  unfold State.rd regsRd
  split <;> rfl

theorem bare_rd (s : State) (g : Fld) (j : Nat) : s.bare.rd g j = State.reset.rd g j := rfl

theorem keepPowerUp_bares (h : s.rd R.FLT_SRC_STATE_STATE 0x382 ≠ 5) : exec .keepPowerUp s = .next s.bare := by
  change (s.bare.when (s.rd R.FLT_SRC_STATE_STATE 0x382 == 5) fun t => t.inc R.FLT_SRC_COUNT_RECOVERIES 0x382 1).go = _
  rw [beq_eq_false_iff_ne.2 h]
  rfl

theorem keepPowerUp_recovers (h : s.rd R.FLT_SRC_STATE_STATE 0x382 = 5) :
    Completes .keepPowerUp s fun t =>
      t.rd R.FLT_SRC_COUNT_RECOVERIES 0x382 = 1 ∧ t.rd R.FLT_SRC_STATE_STATE 0x382 = 0
        ∧ OnlyFields [(R.FLT_SRC_COUNT_RECOVERIES, 0x382)] State.reset t ∧ t.ident = s.ident ∧ t.map.flash = s.map.flash
        ∧ t.mirror = s.mirror ∧ t.out = s.out ∧ t.store = [] := by
  have hexec : exec .keepPowerUp s = (s.bare.inc R.FLT_SRC_COUNT_RECOVERIES 0x382 1).go := by
    change (s.bare.when (s.rd R.FLT_SRC_STATE_STATE 0x382 == 5) fun t => t.inc R.FLT_SRC_COUNT_RECOVERIES 0x382 1).go = _
    rw [h]
    rfl
  have honly : OnlyFields [(R.FLT_SRC_COUNT_RECOVERIES, 0x382)] State.reset (s.bare.inc R.FLT_SRC_COUNT_RECOVERIES 0x382 1) :=
    OnlyFields.trans (t := s.bare) (fun _ _ _ => rfl) ((OnlyFields.chain_inc (f := R.FLT_SRC_COUNT_RECOVERIES) (i := 0x382) (by simp) _ _ _).2
      (.refl _ _))
  refine .of_go hexec ⟨?_, ?_, honly, rfl, rfl, rfl, rfl, rfl⟩
  · rw [State.rd_inc_below (n := 4096) (by decide) _ _ (by decide) le_rfl, if_pos rfl, bare_rd]
    rfl
  · rw [State.rd_inc_apart _ (by decide), bare_rd]
    rfl

/-- The fields that por_n keeps. -/
def porKept : List (Fld × Nat) :=
  [(R.TH_TRIP_LATCHED, 0), (R.TH_TRIP_NET_LOW, 0), (R.TH_TRIP_DIODE, 0), (R.TH_TRIP_TEMP, 0), (R.RST_CAUSE_KEEP_PWR, 0)]

theorem resetPor_eq (s : State) : s.resetPor
    = ((s.bare.keep s porKept).keep s (sourceFields.map fun f => (f, 0x382))).wr R.RST_CAUSE_POR_PIN 0 1 := rfl

theorem keep_cons (u s : State) (f : Fld) (i : Nat) (fs : List (Fld × Nat)) : u.keep s ((f, i) :: fs) = (u.wr f i (s.rd f i)).keep s fs := rfl

theorem sourceFields_map : (sourceFields.map fun f => (f, 0x382)) = (R.FLT_SRC_STATE_STATE, 0x382) :: sourceFields.tail.map fun f => (f, 0x382) :=
  rfl

theorem keep_source (u s : State) : (u.keep s (sourceFields.map fun f => (f, 0x382))).rd R.FLT_SRC_STATE_STATE 0x382
    = s.rd R.FLT_SRC_STATE_STATE 0x382 ∧ ∀ n, n ≠ 0x382 → (u.keep s (sourceFields.map fun f => (f, 0x382))).rd R.FLT_SRC_STATE_STATE n
      = u.rd R.FLT_SRC_STATE_STATE n := by
  have hrest (v : State) : Frame (.regs sourceFields.tail) v (v.keep s (sourceFields.tail.map fun f => (f, 0x382))) :=
    (Frame.refl v).keep (by decide +kernel)
  rw [sourceFields_map, keep_cons]
  refine ⟨?_, fun n hn => ?_⟩
  · rw [(hrest _).rd (by decide), State.rd_wr_self _ _ (by decide), Nat.mod_eq_of_lt (State.rd_lt _ _ _)]
  · rw [(hrest _).rd (by decide), State.rd_wr_idx _ hn.symm (by decide)]

theorem porAssert_keeps (s : State) : Completes .porAssert s fun t =>
    t.bit R.RST_CAUSE_POR_PIN 0 = true ∧ t.rd R.TH_TRIP_LATCHED 0 = s.rd R.TH_TRIP_LATCHED 0
      ∧ t.rd R.FLT_SRC_STATE_STATE 0x382 = s.rd R.FLT_SRC_STATE_STATE 0x382
      ∧ (∀ n, n ≠ 0x382 → t.rd R.FLT_SRC_STATE_STATE n = 0) ∧ t.frame = 0
      ∧ OnlyKinds ([R.RST_CAUSE_POR_PIN, R.RST_CAUSE_KEEP_PWR, R.TH_TRIP_LATCHED, R.TH_TRIP_NET_LOW, R.TH_TRIP_DIODE,
          R.TH_TRIP_TEMP] ++ sourceFields) State.reset t
      ∧ t.store = [] ∧ t.staged = [] ∧ t.ident = s.ident ∧ t.map.flash = s.map.flash ∧ t.mirror = s.mirror := by
  have hfirst : Frame (.regs (porKept.map Prod.fst)) s.bare (s.bare.keep s porKept) := s.bare.keep_frame s porKept
  have htrip : Frame (.regs (porKept.tail.map Prod.fst)) (s.bare.wr R.TH_TRIP_LATCHED 0 (s.rd R.TH_TRIP_LATCHED 0)) (s.bare.keep s porKept) :=
    State.keep_frame _ s porKept.tail
  have hlatched : (s.bare.keep s porKept).rd R.TH_TRIP_LATCHED 0 = s.rd R.TH_TRIP_LATCHED 0 := by
    rw [htrip.rd (by decide), State.rd_wr_self _ _ (by decide), Nat.mod_eq_of_lt (State.rd_lt _ _ _)]
  have hsecond (v : State) : Frame (.regs sourceFields) v (v.keep s (sourceFields.map fun f => (f, 0x382))) :=
    (Frame.refl v).keep (by decide +kernel)
  obtain ⟨hsource, hothers⟩ := keep_source (s.bare.keep s porKept) s
  have hlast (v : State) : Frame (.regs [R.RST_CAUSE_POR_PIN]) v (v.wr R.RST_CAUSE_POR_PIN 0 1) := (Frame.refl v).wr
  have hall : Frame (.regs ([R.RST_CAUSE_POR_PIN, R.RST_CAUSE_KEEP_PWR, R.TH_TRIP_LATCHED, R.TH_TRIP_NET_LOW, R.TH_TRIP_DIODE,
      R.TH_TRIP_TEMP] ++ sourceFields)) s.bare s.resetPor :=
    (((Frame.refl s.bare).andThen hfirst).andThen (hsecond _)).andThen (hlast _)
  have hkinds := OnlyKinds.trans (s := State.reset) (t := s.bare) (fun _ _ _ => rfl) hall.kinds
  refine .of_go (t := s.resetPor) rfl ⟨?_, ?_, ?_, fun n hn => ?_, ?_, hkinds, hall.store, hall.staged, hall.ident, ?_, ?_⟩
  · exact State.bit_set _ (by decide) rfl
  · rw [resetPor_eq, (hlast _).rd (by decide), (hsecond _).rd (by decide), hlatched]
  · rw [resetPor_eq, (hlast _).rd (by decide), hsource]
  · rw [resetPor_eq, (hlast _).rd (by decide), hothers n hn, hfirst.rd (by decide), bare_rd, reset_rd]
    rfl
  · exact hall.rd (by decide) 0
  · exact (congrArg MapState.flash hall.map).trans rfl
  · exact hall.parts .mirror rfl

/-! ## hold_n -/

theorem holdN_filtered {ns : Nat} (h : ns < 20) : exec (.holdNLow ns) s = .next s := congrArg State.go (if_pos h)

theorem holdN_asserts {ns : Nat} (h : 100 ≤ ns) : exec (.holdNLow ns) s = (s.assertBlock R.RST_CAUSE_HOLD).go :=
  congrArg State.go ((if_neg (by omega)).trans (if_neg (by omega)))

theorem resetThermal_trip (u : State) : u.resetThermal.rd R.TH_TRIP_LATCHED 0 = u.rd R.TH_TRIP_LATCHED 0 := by
  have hrest : Frame (.regs [R.TH_TRIP_NET_LOW, R.TH_TRIP_DIODE, R.TH_TRIP_TEMP, H.TH_CAL_BASE, H.TH_CAL_ON])
      (((u.clearRegs 0x1A0000 0x1B0000).clearHidden 5).wr R.TH_TRIP_LATCHED 0 (u.rd R.TH_TRIP_LATCHED 0)) u.resetThermal :=
    State.keep_frame _ u [(R.TH_TRIP_NET_LOW, 0), (R.TH_TRIP_DIODE, 0), (R.TH_TRIP_TEMP, 0), (H.TH_CAL_BASE, 0), (H.TH_CAL_ON, 0)]
  rw [hrest.rd (by decide), State.rd_wr_self _ _ (by decide), Nat.mod_eq_of_lt (State.rd_lt _ _ _)]


/-- What a BLOCK scope that asserts for a cause leaves (R491, R542, R575). -/
def AssertsBlock (cause : Fld) (s t : State) : Prop :=
  t.bit R.RST_STAT_BLOCK 0 = true ∧ t.bit cause 0 = true ∧ t.runEn = false ∧ t.rd R.RUN_STATE 0 = 0
    ∧ t.role = 0 ∧ t.frame = s.frame ∧ (∀ n, t.rd R.FLT_SRC_STATE_STATE n = s.rd R.FLT_SRC_STATE_STATE n)
    ∧ (∀ n, t.rd R.FLT_SRC_STATE_CLASS n = s.rd R.FLT_SRC_STATE_CLASS n) ∧ t.store = s.store
    ∧ (∀ m, t.mode m = 0) ∧ t.rd R.TH_TRIP_LATCHED 0 = s.rd R.TH_TRIP_LATCHED 0 ∧ t.map.live = none ∧ t.fifo = []

/-- The registers that stop a map. -/
def stopFields : List Fld :=
  [R.RUN_EN, R.RUN_STATE, R.RUN_LIVE, R.STATUS_RUNNING, R.STATUS_READY, R.PROFILE_PENDING, R.LE_STATUS_RUNNING, R.FRAME_STAT_LANE_LOAD,
   H.GL_START_HOLD, H.TOP_COMMIT_AT, H.TOP_PEER_PASS, H.TOP_OWN_AGE, H.TOP_RUN_HOLD, H.TOP_REL_REFUSED, H.TOP_REQ_HELD, H.TOP_PREP_ST]

/-- The map in force is gone, with what came from it. -/
def State.forgetMap (u : State) : State :=
  { u with
    map := { u.map with stream := [], last := false, ringFault := false, shadow := none, live := none, recs := [] }
    sched := [], sweeps := [] }

theorem stopMap_eq (u : State) : u.stopMap = (((u.clearElems stopFields 0).clearFld R.LE_SLOT_PROG_STAGE_COUNT).dropForecasts).forgetMap := rfl

theorem forgetMap_frame (u : State) : Frame ⟨[.map, .sched, .sweeps], []⟩ u u.forgetMap :=
  (((Frame.refl u).setMap (x := { u.map with stream := [], last := false, ringFault := false, shadow := none, live := none, recs := [] })).setSched
    (x := [])).setSweeps (x := [])

theorem stopMap_stops (u : State) : u.stopMap.runEn = false ∧ u.stopMap.rd R.RUN_STATE 0 = 0 ∧ u.stopMap.rd R.RUN_LIVE 0 = 0
    ∧ u.stopMap.map.live = none ∧ u.stopMap.map.recs = [] := by
  have hrest : Frame (Frame.dropForecastsReach.and ⟨[.map, .sched, .sweeps], [R.LE_SLOT_PROG_STAGE_COUNT]⟩) (u.clearElems stopFields 0)
      u.stopMap := by
    rw [stopMap_eq]
    exact (((Frame.refl _).clearFld).dropForecasts).andThen (forgetMap_frame _)
  refine ⟨beq_eq_false_iff_ne.2 ?_, ?_, ?_, rfl, rfl⟩
  · rw [hrest.rd (by decide), rd_clearElems_self (by decide) (by decide) (by decide)]
    exact Nat.zero_ne_one
  · rw [hrest.rd (by decide), rd_clearElems_self (by decide) (by decide) (by decide)]
    rfl
  · rw [hrest.rd (by decide), rd_clearElems_self (by decide) (by decide) (by decide)]
    rfl

theorem blockStopped_stops (u old v : State) : ((u.blockStopped.blockKept old).blockLists v).runEn = false
    ∧ ((u.blockStopped.blockKept old).blockLists v).rd R.RUN_STATE 0 = 0 ∧ ((u.blockStopped.blockKept old).blockLists v).rd R.RUN_LIVE 0 = 0
    ∧ ((u.blockStopped.blockKept old).blockLists v).map.live = none := by
  obtain ⟨hen, hstate, hlive, hmap, -⟩ := stopMap_stops u
  have hclose : Frame (Frame.closeWindowReach.and (.regs [H.TOP_BOOT_ON, R.STATUS_SAFE_GOV, R.TALLY_STAT_FLUSHING])) u.stopMap u.blockStopped :=
    (Frame.refl _).closeWindow.clearElems
  have hkept := blockKept_frame u.blockStopped old v
  refine ⟨?_, ?_, ?_, ?_⟩
  · exact (hkept.bit (by decide) 0).trans ((hclose.bit (by decide) 0).trans hen)
  · rw [hkept.rd (by decide), hclose.rd (by decide), hstate]
  · rw [hkept.rd (by decide), hclose.rd (by decide), hlive]
  · rw [hkept.map, hclose.map, hmap]

theorem blockRest_modes (u old : State) (l : Nat) : (u.blockRest old).mode l = 0 := by
  have hmiddle : Frame Frame.blockMiddleReach u.blockEngines u.blockEngines.blockMiddle := blockMiddle_frame _
  have hhidden : Frame (.regs [hiddenSpan 1]) (u.clearRegs 0x110000 0x140000) u.blockEngines := (Frame.refl _).clearHidden
  have hcleared : (u.clearRegs 0x110000 0x140000).rd R.LE_SLOT_MODE_MODE l = 0 := by
    by_cases hl : l < 256
    · rw [State.clearRegs, State.rd_clearRange_inside]
      · rfl
      · simp only [Fld.key, R.LE_SLOT_MODE_MODE]
        omega
      · simp only [Fld.key, R.LE_SLOT_MODE_MODE]
        omega
    · unfold State.rd regsRd
      rw [if_neg (show ¬ l < R.LE_SLOT_MODE_MODE.cnt from hl)]
      rfl
  rw [State.mode, State.blockRest, (blockHigh_frame _ old).rd (by decide), (resetThermal_frame _).rd (by decide), hmiddle.rd (by decide),
    hhidden.rd (by decide), hcleared]

theorem resetBlock_says (s : State) : s.resetBlock.runEn = false ∧ s.resetBlock.rd R.RUN_STATE 0 = 0 ∧ s.resetBlock.rd R.RUN_LIVE 0 = 0
    ∧ s.resetBlock.role = 0 ∧ s.resetBlock.rd R.TH_TRIP_LATCHED 0 = s.rd R.TH_TRIP_LATCHED 0 ∧ s.resetBlock.map.live = none := by
  rw [resetBlock_eq]
  obtain ⟨hen, hstate, hlive, hmap⟩ := blockStopped_stops s.resetTwin.blockEngines.blockMiddle.blockThermal s
    s.resetTwin.blockEngines.blockMiddle.blockThermal.blockStopped
  refine ⟨hen, hstate, hlive, ?_, ?_, hmap⟩
  · rw [State.role, (blockRest_frame _ s).rd (by decide)]
    exact twinCleared_role _ s
  · rw [State.blockRest, (blockHigh_frame _ s).rd (by decide), resetThermal_trip, (blockLow_frame _).rd (by decide), resetTwin_eq,
      (twinCleared_frame _ s).rd (by decide), (gateFreed_frame s).rd (by decide)]

theorem assertBlock_says {cause : Fld} (s : State) (hcnt : 0 < cause.cnt) (hwid : cause.wid = 1)
    (hapart : ([R.RST_STAT_BLOCK, R.RUN_EN, R.RUN_STATE, R.TWIN_STATUS_ROLE, R.FRAME_COUNT, R.FLT_SRC_STATE_STATE, R.FLT_SRC_STATE_CLASS,
      R.LE_SLOT_MODE_MODE, R.TH_TRIP_LATCHED].all fun f => cause.apart f) = true) : AssertsBlock cause s (s.assertBlock cause) := by
  obtain ⟨hen, hstate, -, hrole, htrip, hlive⟩ := resetBlock_says s
  have hblock := resetBlock_frame s
  have hmode (l : Nat) : s.resetBlock.mode l = 0 := blockRest_modes s.resetTwin s l
  simp only [List.all_cons, List.all_nil, Bool.and_eq_true] at hapart
  obtain ⟨c1, c2, c3, c4, c5, c6, c7, c8, c9, -⟩ := hapart
  have hkeep {f : Fld} (h1 : R.RST_STAT_BLOCK.apart f = true) (h2 : cause.apart f = true) (j : Nat) :
      (s.assertBlock cause).rd f j = s.resetBlock.rd f j := (State.rd_wr_apart _ h2 ..).trans (State.rd_wr_apart _ h1 ..)
  refine ⟨?_, State.bit_set _ hcnt hwid, ?_, ?_, ?_, ?_, fun n => ?_, fun n => ?_, ?_, fun l => ?_, ?_, hlive, rfl⟩
  · exact (State.bit_wr_apart _ c1 ..).trans (State.bit_set _ (by decide) rfl)
  · rw [State.runEn, State.bit, hkeep (by decide) c2]
    exact hen
  · rw [hkeep (by decide) c3, hstate]
  · rw [State.role, hkeep (by decide) c4]
    exact hrole
  · rw [State.frame, hkeep (by decide) c5, hblock.rd (by decide +kernel)]
    rfl
  · rw [hkeep (by decide) c6, hblock.rd (by decide +kernel)]
  · rw [hkeep (by decide) c7, hblock.rd (by decide +kernel)]
  · exact hblock.store (by decide +kernel)
  · rw [State.mode, hkeep (by decide) c8]
    exact hmode l
  · rw [hkeep (by decide) c9, htrip]

theorem holdN_sure {ns : Nat} (h : 100 ≤ ns) : Completes (.holdNLow ns) s (AssertsBlock R.RST_CAUSE_HOLD s) :=
  .of_go (holdN_asserts h) (assertBlock_says s (by decide) rfl (by decide))

theorem holdN_open {ns : Nat} (h1 : 20 ≤ ns) (h2 : ns < 100) :
    Completes (.holdNLow ns) s fun t =>
      t = { s with free := s.free + 1 }
        ∨ (t.bit R.RST_STAT_BLOCK 0 = true ∧ t.bit R.RST_CAUSE_HOLD 0 = true ∧ t.runEn = false ∧ t.role = 0
          ∧ t.frame = s.frame ∧ t.store = s.store) := by
  have hexec : exec (.holdNLow ns) s = (if s.freeVal 1 = 1 then s.freeStep.assertBlock R.RST_CAUSE_HOLD else s.freeStep).go :=
    congrArg State.go ((if_neg (by omega)).trans (if_pos h2))
  by_cases hfree : s.freeVal 1 = 1
  · rw [if_pos hfree] at hexec
    obtain ⟨hb, hc, hen, -, hrole, hframe, -, -, hstore, -⟩ := assertBlock_says (cause := R.RST_CAUSE_HOLD) s.freeStep (by decide) rfl
      (by decide)
    exact .of_go hexec (.inr ⟨hb, hc, hen, hrole, hframe, hstore⟩)
  · rw [if_neg hfree] at hexec
    exact .of_go hexec (.inl rfl)

/-- Where Zoskare does not drive, hold_n leaves the Phase Driver's registers. -/
theorem holdN_phases {ns : Nat} (h : 100 ≤ ns) (hidle : s.holder = false) :
    Completes (.holdNLow ns) s fun t => ∀ g j, 8 * 0x140000 ≤ g.key j → g.key j < 8 * 0x150000 → t.rd g j = s.rd g j := by
  have hall : Frame ((Frame.resetTwinReach.and Frame.blockRestReach).and (.regs [R.RST_STAT_BLOCK, R.RST_CAUSE_HOLD])) s
      (s.assertBlock R.RST_CAUSE_HOLD) := ((resetBlock_frame_idle hidle).mono (by decide +kernel)).wr.wr
  exact .of_go (holdN_asserts h) fun g j h1 h2 => hall.kinds.rdRange (by decide +kernel) h1 h2

end Sys2Proof.Machine
end

section
/-! Resets by command are staged; a reset releases (R488, R491, R492, R495, R496, R587). -/

set_option Elab.async false

namespace Sys2Proof.Machine

variable {s t u : State} {w : WCtx}

/-! ## Commands -/

theorem exec_rstBlock (s : State) (w : WCtx) :
    exec (.rstBlock w) s = (s.judged w R.RST_CMD_BLOCK 0 1 true fun t => t.stageCmd w R.RST_CMD_BLOCK 0 (.reset 2)).go := rfl

theorem exec_rstLe (s : State) (w : WCtx) :
    exec (.rstLe w) s = (s.judged w R.RST_CMD_LE 0 1 true fun t => t.stageCmd w R.RST_CMD_LE 0 (.reset 0)).go := rfl

theorem exec_rstTwin (s : State) (w : WCtx) :
    exec (.rstTwin w) s = (s.judged w R.RST_CMD_TWIN 0 1 true fun t => t.stageCmd w R.RST_CMD_TWIN 0 (.reset 1)).go := rfl

theorem rstBlock_stages (hw : Writable s w R.RST_CMD_BLOCK 0) :
    Completes (.rstBlock w) s fun t => StagesCmd w R.RST_CMD_BLOCK 0 (.reset 2) s t :=
  .of_go ((exec_rstBlock s w).trans (by rw [State.judged_of_writable hw])) (stagesCmd_stageCmd s w (by decide) rfl (by decide) _)

theorem rstLe_stages (hw : Writable s w R.RST_CMD_LE 0) : Completes (.rstLe w) s fun t => StagesCmd w R.RST_CMD_LE 0 (.reset 0) s t :=
  .of_go ((exec_rstLe s w).trans (by rw [State.judged_of_writable hw])) (stagesCmd_stageCmd s w (by decide) rfl (by decide) _)

theorem rstTwin_stages (hw : Writable s w R.RST_CMD_TWIN 0) :
    Completes (.rstTwin w) s fun t => StagesCmd w R.RST_CMD_TWIN 0 (.reset 1) s t :=
  .of_go ((exec_rstTwin s w).trans (by rw [State.judged_of_writable hw])) (stagesCmd_stageCmd s w (by decide) rfl (by decide) _)

/-! ## Release -/

/-- A BLOCK scope that is asserted ends, and the block sequence is due (R492, R496). -/
def State.blockReleased (s : State) : State := s.when (s.bit R.RST_STAT_BLOCK 0) fun t => (t.wr R.RST_STAT_BLOCK 0 0).wr H.RST_SEQ 0 2

/-- A hart held in state `s` is free; with a verified image it goes to its restart check (R587, R588). -/
def State.hartReleased (s t : State) (k : Nat) : State :=
  (t.wr R.RST_STAT_HART k 0).when ((s.bit R.FW_IMAGE_VERIFIED 0
    || (!(s.touched H.FW_REREAD).isEmpty && !s.bit H.FW_REREAD k)) && !s.bit R.RST_STAT_BLOCK 0) fun u => u.wr R.FW_HART_STAT_STATE k 2

/-- The BLOCK scope and the harts are released. -/
def State.hartsReleased (s : State) : State :=
  ((List.range 4).filter fun k => s.bit R.RST_STAT_HART k).foldl s.hartReleased s.blockReleased

theorem exec_resetRelease (hrun : ∀ d < 6, s.bit H.CLK_SW d = false) :
    exec .resetRelease s = (s.hartsReleased.clearElems [R.RST_STAT_LE, R.RST_STAT_TWIN] 0).go := by
  have hstop (d : Nat) (hd : d < 6) : s.stopped d = false := hrun d hd
  have hall : (List.range 6).any s.stopped = false := List.any_eq_false.2 fun d hd => by rw [hstop d (List.mem_range.1 hd)]; exact Bool.false_ne_true
  have hblock : (s.bit R.RST_STAT_BLOCK 0 && !(List.range 6).any s.stopped) = s.bit R.RST_STAT_BLOCK 0 := by
    rw [hall, Bool.not_false, Bool.and_true]
  have hharts : (List.range 4).filter (fun k => s.bit R.RST_STAT_HART k && !s.stopped 2)
      = (List.range 4).filter fun k => s.bit R.RST_STAT_HART k := by
    rw [hstop 2 (by decide)]
    simp only [Bool.not_false, Bool.and_true]
  change execResetRelease s = _
  unfold execResetRelease
  rw [hblock, hharts, hstop 1 (by decide)]
  rfl

theorem release_idles (hstop : ∀ d < 6, s.bit H.CLK_SW d = true) : exec .resetRelease s = .next s := by
  have hall (d : Nat) (hd : d < 6) : s.stopped d = true := hstop d hd
  have hblock : (s.bit R.RST_STAT_BLOCK 0 && !(List.range 6).any s.stopped) = false := by
    rw [List.any_eq_true.2 ⟨0, by decide, hall 0 (by decide)⟩, Bool.not_true, Bool.and_false]
  have hharts : (List.range 4).filter (fun k => s.bit R.RST_STAT_HART k && !s.stopped 2) = [] := by
    rw [hall 2 (by decide)]
    simp
  change execResetRelease s = _
  unfold execResetRelease
  rw [hblock, hharts, hall 1 (by decide)]
  rfl

theorem rd_wr_key {f g : Fld} {i j : Nat} (h : f.key i ≠ g.key j) (s : State) (v : Nat) : (s.wr f i v).rd g j = s.rd g j :=
  regsRd_regsWr_key (fun _ _ => h) s.regs v

theorem statBlock_hart (s : State) (v k : Nat) (hk : k < 4) : (s.wr R.RST_STAT_BLOCK 0 v).rd R.RST_STAT_HART k = s.rd R.RST_STAT_HART k :=
  rd_wr_key (by simp only [Fld.key, R.RST_STAT_BLOCK, R.RST_STAT_HART]; omega) s v

theorem statHart_block (s : State) (v k : Nat) : (s.wr R.RST_STAT_HART k v).rd R.RST_STAT_BLOCK 0 = s.rd R.RST_STAT_BLOCK 0 :=
  rd_wr_key (by simp only [Fld.key, R.RST_STAT_BLOCK, R.RST_STAT_HART]; omega) s v

/-- The scopes of the Loop Engine and the twins stand below the harts' bits. -/
theorem lowScopes_hart (s : State) (k : Nat) : (s.clearElems [R.RST_STAT_LE, R.RST_STAT_TWIN] 0).rd R.RST_STAT_HART k = s.rd R.RST_STAT_HART k := by
  simp only [State.clearElems, List.foldl_cons, List.foldl_nil]
  rw [rd_wr_key (by simp only [Fld.key, R.RST_STAT_TWIN, R.RST_STAT_HART]; omega),
    rd_wr_key (by simp only [Fld.key, R.RST_STAT_LE, R.RST_STAT_HART]; omega)]

theorem hartReleased_frame (s u : State) (k : Nat) : Frame (.regs [R.RST_STAT_HART, R.FW_HART_STAT_STATE]) u (s.hartReleased u k) :=
  ((Frame.refl u).wr).when fun _ hu => hu.wr

theorem hartsReleased_frame (s : State) : Frame (.regs [R.RST_STAT_HART, R.FW_HART_STAT_STATE]) s.blockReleased s.hartsReleased :=
  (Frame.refl _).foldl fun u k hu => hu.andThen (hartReleased_frame s u k)

theorem blockReleased_frame (s : State) : Frame (.regs [R.RST_STAT_BLOCK, H.RST_SEQ]) s s.blockReleased :=
  (Frame.refl s).when fun _ hu => hu.wr.wr

theorem hartsReleased_block (s : State) : s.hartsReleased.bit R.RST_STAT_BLOCK 0 = false := by
  have hfirst : s.blockReleased.bit R.RST_STAT_BLOCK 0 = false := by
    unfold State.blockReleased
    cases hb : s.bit R.RST_STAT_BLOCK 0
    · exact hb
    · exact (State.bit_wr_apart _ (by decide) ..).trans (State.bit_unset _ (by decide))
  refine List.foldlRecOn _ _ (motive := fun u : State => u.bit R.RST_STAT_BLOCK 0 = false) hfirst fun u hu k _ => ?_
  have hwr : (u.wr R.RST_STAT_HART k 0).bit R.RST_STAT_BLOCK 0 = false := by rwa [State.bit, statHart_block]
  unfold State.hartReleased
  rwa [State.bit_when, State.bit_wr_apart _ (by decide), ite_self]

theorem hartReleased_stat (s u : State) (k j : Nat) (hj : j < 4) :
    (s.hartReleased u k).rd R.RST_STAT_HART j = if k = j then 0 else u.rd R.RST_STAT_HART j := by
  unfold State.hartReleased
  rw [State.rd_when, State.rd_wr_apart _ (by decide), ite_self]
  by_cases h : k = j
  · rw [if_pos h, h, State.rd_wr_self _ _ hj]
    rfl
  · rw [if_neg h, State.rd_wr_idx _ h (by decide)]

theorem hartsReleased_free (s : State) {k : Nat} (hk : k < 4) : s.hartsReleased.bit R.RST_STAT_HART k = false := by
  by_cases hheld : s.bit R.RST_STAT_HART k = true
  · have hmem : k ∈ (List.range 4).filter fun k => s.bit R.RST_STAT_HART k := List.mem_filter.2 ⟨List.mem_range.2 hk, hheld⟩
    have hzero : s.hartsReleased.rd R.RST_STAT_HART k = 0 :=
      rd_foldl_of_mem (fun u => by rw [hartReleased_stat _ _ _ _ hk, if_pos rfl]) (fun u x hx => by rw [hartReleased_stat _ _ _ _ hk, if_neg hx])
        hmem _
    rw [State.bit, hzero]
    rfl
  · have hout : k ∉ (List.range 4).filter fun k => s.bit R.RST_STAT_HART k := fun h => hheld (List.mem_filter.1 h).2
    have hsame : s.hartsReleased.rd R.RST_STAT_HART k = s.blockReleased.rd R.RST_STAT_HART k :=
      rd_foldl_of_notMem (fun u x hx => by rw [hartReleased_stat _ _ _ _ hk, if_neg hx]) hout _
    have hblock : s.blockReleased.rd R.RST_STAT_HART k = s.rd R.RST_STAT_HART k := by
      unfold State.blockReleased
      rw [State.rd_when, State.rd_wr_apart _ (by decide), statBlock_hart _ _ _ hk, ite_self]
    rw [State.bit, hsame, hblock]
    exact Bool.eq_false_iff.2 hheld

theorem hartsReleased_checks {k : Nat} (hk : k < 4) (hheld : s.bit R.RST_STAT_HART k = true) (hver : s.bit R.FW_IMAGE_VERIFIED 0 = true)
    (hblock : s.bit R.RST_STAT_BLOCK 0 = false) : s.hartsReleased.rd R.FW_HART_STAT_STATE k = 2 := by
  have hmem : k ∈ (List.range 4).filter fun k => s.bit R.RST_STAT_HART k := List.mem_filter.2 ⟨List.mem_range.2 hk, hheld⟩
  have hstep (u : State) (x : Nat) : s.hartReleased u x = (u.wr R.RST_STAT_HART x 0).wr R.FW_HART_STAT_STATE x 2 := by
    unfold State.hartReleased
    rw [hver, hblock]
    rfl
  refine rd_foldl_of_mem (fun u => ?_) (fun u x hx => ?_) hmem _
  · rw [hstep, State.rd_wr_self _ _ hk]
    rfl
  · rw [hstep, State.rd_wr_idx _ hx (by decide), State.rd_wr_apart _ (by decide)]

theorem resetRelease_frees (hrun : ∀ d < 6, s.bit H.CLK_SW d = false) :
    Completes .resetRelease s fun t =>
      t.bit R.RST_STAT_BLOCK 0 = false ∧ t.bit R.RST_STAT_LE 0 = false ∧ t.bit R.RST_STAT_TWIN 0 = false
        ∧ (∀ k < 4, t.bit R.RST_STAT_HART k = false) ∧ (s.bit R.RST_STAT_BLOCK 0 = true → t.rd H.RST_SEQ 0 = 2)
        ∧ (∀ k < 4, s.bit R.RST_STAT_HART k = true → s.bit R.FW_IMAGE_VERIFIED 0 = true → s.bit R.RST_STAT_BLOCK 0 = false →
            t.rd R.FW_HART_STAT_STATE k = 2)
        ∧ OnlyKinds [R.RST_STAT_BLOCK, R.RST_STAT_LE, R.RST_STAT_TWIN, R.RST_STAT_HART, H.RST_SEQ, R.FW_HART_STAT_STATE] s t
        ∧ OnlyRegs s t := by
  have hlow : Frame (.regs [R.RST_STAT_LE, R.RST_STAT_TWIN]) s.hartsReleased (s.hartsReleased.clearElems [R.RST_STAT_LE, R.RST_STAT_TWIN] 0) :=
    (Frame.refl _).clearElems
  have hall : Frame (.regs [R.RST_STAT_BLOCK, R.RST_STAT_LE, R.RST_STAT_TWIN, R.RST_STAT_HART, H.RST_SEQ, R.FW_HART_STAT_STATE]) s
      (s.hartsReleased.clearElems [R.RST_STAT_LE, R.RST_STAT_TWIN] 0) :=
    (((blockReleased_frame s).mono (by decide)).andThen (hartsReleased_frame s)).andThen hlow
  refine .of_go (exec_resetRelease hrun) ⟨?_, ?_, ?_, fun k hk => ?_, fun hb => ?_, fun k hk hheld hver hb => ?_, hall.kinds, hall.onlyRegs⟩
  · rw [hlow.bit (by decide), hartsReleased_block]
  · rw [State.bit, rd_clearElems_self (by decide) (by decide) (by decide)]
    rfl
  · rw [State.bit, rd_clearElems_self (by decide) (by decide) (by decide)]
    rfl
  · rw [State.bit, lowScopes_hart]
    exact hartsReleased_free s hk
  · rw [hlow.rd (by decide), (hartsReleased_frame s).rd (by decide), State.blockReleased, hb]
    exact State.rd_wr_self (s.wr R.RST_STAT_BLOCK 0 0) H.RST_SEQ (i := 0) (by decide) 2
  · rw [hlow.rd (by decide), hartsReleased_checks hk hheld hver hb]

end Sys2Proof.Machine
end

section
/-! A frame boundary at which a commanded reset is due (R15, R81, R491, R495). -/

set_option Elab.async false

namespace Sys2Proof.Machine

variable {s t u v : State}

/-! ## Up to the resets -/

/-- With nothing staged to commit, the commits before step 2 end at most a preparation. -/
theorem commitDue_idle (hshadow : s.map.shadow = none) (hprep : s.rd H.TOP_PREP_ST 0 ≠ 2) :
    Frame (.regs [H.TOP_PREP_ST, R.PROFILE_PENDING]) s s.commitDue := by
  have hdue : s.profileDue = false := by
    unfold State.profileDue
    rw [beq_eq_false_iff_ne.2 hprep, Bool.false_and]
  have hfirst : Frame (.regs [H.TOP_PREP_ST, R.PROFILE_PENDING]) s
      (s.when (s.rd H.TOP_PREP_ST 0 == 3) fun t => t.clearElems [H.TOP_PREP_ST, R.PROFILE_PENDING] 0) :=
    (Frame.refl s).when fun _ hu => hu.clearElems
  have hsame : s.commitDue = s.when (s.rd H.TOP_PREP_ST 0 == 3) fun t => t.clearElems [H.TOP_PREP_ST, R.PROFILE_PENDING] 0 := by
    unfold State.commitDue
    rw [hshadow]
    cases hlive : s.map.live with
    | none => rfl
    | some m => exact if_neg (by rw [hdue]; exact Bool.false_ne_true)
  rwa [hsame]

theorem enClearStep_reset (s : State) (k : Nat) : s.enClearStep [.reset k] = s := if_neg (by simp)

/-- A reset among the changes of a boundary leaves the modes to what holds them. -/
theorem modeStep_reset (s : State) (k : Nat) (ended : List Nat) : Frame Frame.holdsReach s (s.modeStep [.reset k] ended) :=
  ((Frame.refl s).foldl fun _ _ hu => hu.when fun _ hv => hv.holdStep).powerGoods

theorem afterStep2_reset (s old : State) (gf : Bool) (k : Nat) (ended : List Nat) :
    Frame Frame.afterStep2Reach s (s.afterStep2 gf old [.reset k] ended) :=
  ((((Frame.refl s).fencesStand.fitHyst.configStep.clampPackage.capStep.clampPackage.thermalDividers).andThen
    (modeStep_reset _ k ended)).applyOutputs).handOver

/-- The commits of a boundary that a reset waits for. -/
def State.committed (s : State) (n : Nat) (gf : Bool) : State := (s.counted n).timeStep.twinBw.commits gf

theorem boundary_committed (s : State) (n : Nat) (gf : Bool) : s.boundary n gf = (s.committed n gf).latched := rfl

/-- What a boundary reaches before the resets assert. -/
def Frame.committedReach : Reach := reachesStep2.and <| afterStep2Reach.and (.regs [H.RST_DUE])

section
variable {n k : Nat} {gf : Bool}

theorem committed_reset (hst : s.staged = [⟨0, .reset k⟩]) : s.committed n gf
    = ((s.atStep2 n [.reset k]).step2 (.reset k)).afterStep2 gf (s.atStep2 n [.reset k]) [.reset k]
      ((s.counted n).timeStep.twinBw.touched H.LE_REL_FAULT) := by
  have htake : (s.counted n).timeStep.twinBw.takeStaged.1 = [.reset k] := by
    rw [takeStaged_acts, counted_staged, hst]
    rfl
  rw [State.committed, commits_eq, htake]
  rfl

theorem committed_frame (hst : s.staged = [⟨0, .reset k⟩]) : Frame Frame.committedReach s (s.committed n gf) := by
  have hstep : Frame (.regs [H.RST_DUE]) (s.atStep2 n [.reset k]) ((s.atStep2 n [.reset k]).step2 (.reset k)) := (Frame.refl _).wr
  rw [committed_reset hst]
  exact (((atStep2_frame s n [.reset k]).mono (by decide +kernel)).andThen hstep).andThen (afterStep2_reset _ _ gf k _)

theorem committed_due (hst : s.staged = [⟨0, .reset k⟩]) (hdue : s.rd H.RST_DUE 0 = 0) :
    (s.committed n gf).rd H.RST_DUE 0 = setBit 0 k true % 256 := by
  rw [committed_reset hst, (afterStep2_reset _ _ gf k _).rd (by decide +kernel)]
  have hzero : (s.atStep2 n [.reset k]).rd H.RST_DUE 0 = 0 := by rw [(atStep2_frame s n _).rd (by decide +kernel), hdue]
  change ((s.atStep2 n [.reset k]).wr H.RST_DUE 0 (setBit ((s.atStep2 n [.reset k]).rd H.RST_DUE 0) k true)).rd H.RST_DUE 0 = _
  rw [State.rd_wr_self _ _ (by decide), hzero]
  rfl

theorem committed_staged (hst : s.staged = [⟨0, .reset k⟩]) : (s.committed n gf).staged = [] := by
  have hstep : Frame (.regs [H.RST_DUE]) (s.atStep2 n [.reset k]) ((s.atStep2 n [.reset k]).step2 (.reset k)) := (Frame.refl _).wr
  rw [committed_reset hst, (afterStep2_reset _ _ gf k _).staged (by decide +kernel), hstep.staged, atStep2_staged, hst]
  rfl

/-- With nothing staged to commit, the slots' configuration and the stage pool stand as before. -/
def Frame.quietReach : Reach := countedReach.and <| timeStepReach.and <| twinBwReach.and <| afterStep2Reach.and
  ⟨[.staged], [H.TOP_PREP_ST, R.PROFILE_PENDING, H.RST_DUE]⟩

theorem committed_quiet (hst : s.staged = [⟨0, .reset k⟩]) (hshadow : s.map.shadow = none) (hprep : s.rd H.TOP_PREP_ST 0 ≠ 2) :
    Frame Frame.quietReach s (s.committed n gf) := by
  have hcount : Frame (Frame.countedReach.and <| Frame.timeStepReach.and Frame.twinBwReach) s (s.counted n).timeStep.twinBw :=
    (((counted_frame s n).mono (by decide +kernel)).timeStep).andThen (twinBw_frame _)
  have htake : Frame ⟨[.staged], []⟩ (s.counted n).timeStep.twinBw (s.counted n).timeStep.twinBw.takeStaged.2 := (Frame.refl _).setStaged
  have hbefore : (s.atStep2 n [.reset k]) = (s.counted n).timeStep.twinBw.takeStaged.2.commitDue := by
    rw [State.atStep2, State.beforeStep2, enClearStep_reset]
  have hidle := commitDue_idle (s := (s.counted n).timeStep.twinBw.takeStaged.2) (by rw [htake.map, hcount.map (by decide +kernel), hshadow])
    (by rwa [htake.rd (by decide), hcount.rd (by decide +kernel)])
  have hstep : Frame (.regs [H.RST_DUE]) (s.atStep2 n [.reset k]) ((s.atStep2 n [.reset k]).step2 (.reset k)) := (Frame.refl _).wr
  rw [committed_reset hst]
  rw [← hbefore] at hidle
  exact ((((hcount.mono (by decide +kernel)).andThen htake).andThen hidle).andThen hstep).andThen (afterStep2_reset _ _ gf k _)

end

/-! ## After the resets -/

/-- The end of a boundary once the resets have asserted. -/
def State.closed (u : State) : State := u.showRun.latchInputs.openFrame.endStep

theorem latched_closed (u : State) : u.latched = u.resetsDue.closed := rfl

/-- Up to READY. -/
def State.opened (u : State) : State := u.showRun.latchInputs.openFrame.bootBoundary

/-- From READY to a live reload. -/
def State.flushed (u : State) : State := u.flushStep.platformEvents

/-- The reference follows, and what goes to the peer is sent. -/
def State.sent (u : State) (clocked : Bool) : State := u.refStep.when clocked State.twinSend

theorem endStep_eq (u : State) : u.endStep = u.bootBoundary.readyStep.flushed.reloadStep.sent (u.clocked 6) := rfl

theorem closed_eq (u : State) : u.closed
    = u.opened.readyStep.flushed.reloadStep.sent (u.showRun.latchInputs.openFrame.clocked 6) := endStep_eq _

namespace Frame

def openedReach : Reach := showRunReach.and <| latchInputsReach.and <| openFrameReach.and bootBoundaryReach

def flushedReach : Reach := flushStepReach.and platformEventsReach

def sentReach : Reach := refStepReach.and twinSendReach

/-- What a live reload may reach that does not end the map in force. -/
def liveReach : Reach := recordRefusalReach.and <| loadEndReach.and <| heldProfileReach.and <| tryNameReach.and
  ⟨[.map], [R.RUN_LIVE, H.TOP_COMMIT_AT, H.TOP_PEER_PASS, H.TOP_OWN_AGE, H.TOP_RUN_HOLD, H.TOP_REL_REFUSED]⟩

def closedReach : Reach := openedReach.and <| readyStepReach.and <| flushedReach.and sentReach

end Frame

theorem opened_frame (u : State) : Frame Frame.openedReach u u.opened := (Frame.refl u).showRun.latchInputs.openFrame.bootBoundary

theorem flushed_frame (u : State) : Frame Frame.flushedReach u u.flushed := (Frame.refl u).flushStep.platformEvents

theorem readyStep_frame (u : State) : Frame Frame.readyStepReach u u.readyStep := (Frame.refl u).readyStep

theorem sent_frame (u : State) (c : Bool) : Frame Frame.sentReach u (u.sent c) :=
  (Frame.refl u).refStep.when fun _ hu => hu.twinSend

/-- A live reload that ends or waits leaves the map in force, the role and the harts. -/
theorem reloadStep_live (u : State) : Frame Frame.liveReach u u.reloadStep := by
  unfold State.reloadStep
  by_cases hlive : u.rd R.RUN_LIVE 0 = 0
  · rw [if_pos hlive]
    exact .refl u
  · rw [if_neg hlive, refuseMap_live hlive]
    have hdrop : Frame Frame.liveReach u (u.reloadDropped ⟨refAborted, 0xFFFFFE, none⟩) :=
      ((((Frame.refl u).recordRefusal.clearLoader.loadEnd).clearElems).when fun _ hu => hu.sendMirror).when fun _ hu => hu.wr
    exact .ite hdrop.heldProfile (.ite (Frame.refl u).wr.tryName (.refl u))

theorem reloadStep_idle (h : u.rd R.RUN_LIVE 0 = 0) : u.reloadStep = u := if_pos h

theorem closed_frame (u : State) : Frame (Frame.closedReach.and Frame.liveReach) u u.closed := by
  rw [closed_eq]
  exact (((((opened_frame u).mono (by decide +kernel)).andThen (readyStep_frame _)).andThen (flushed_frame _)).andThen
    (reloadStep_live _)).andThen (sent_frame _ _)

/-- Where no live reload runs, the end of a boundary leaves the map in force. -/
theorem closed_frame_idle (h : u.rd R.RUN_LIVE 0 = 0) : Frame Frame.closedReach u u.closed := by
  have hto : Frame Frame.closedReach u u.opened.readyStep.flushed :=
    (((opened_frame u).mono (by decide +kernel)).andThen (readyStep_frame _)).andThen (flushed_frame _)
  rw [closed_eq, reloadStep_idle (by rw [hto.rd (by decide +kernel), h])]
  exact hto.andThen (sent_frame _ _)

/-- A detached Zoskare is not READY. -/
theorem closed_notReady (h : u.role = 0) : u.closed.bit R.STATUS_READY 0 = false := by
  have hrole : u.opened.role = 0 := by rw [State.role, (opened_frame u).rd (by decide +kernel)]; exact h
  have hready : u.opened.readyStep.bit R.STATUS_READY 0 = false := by
    have hwant : (if u.opened.holder then u.opened.mayReady else u.opened.role == 3 && u.opened.holderReady) = false := by
      rw [State.holder, hrole]
      rfl
    unfold State.readyStep
    rw [hwant]
    dsimp only
    rw [Bool.false_and, if_neg Bool.false_ne_true, State.wrB, State.bit_wr_apart _ (by decide)]
    exact State.bit_unset _ (by decide)
  rw [closed_eq, (sent_frame _ _).bit (by decide +kernel), (reloadStep_live _).bit (by decide +kernel), (flushed_frame _).bit (by decide +kernel),
    hready]

end Sys2Proof.Machine
end

section
/-! Resets that assert at a boundary (R15, R491, R495). -/

set_option Elab.async false

namespace Sys2Proof.Machine

variable {s t u v : State}

/-! ## The resets that are due -/

theorem resetsDue_le (h : v.rd H.RST_DUE 0 = 1) : v.resetsDue = (v.wr R.RST_CMD_LE 0 0).commandLe.wr H.RST_DUE 0 0 := by
  rw [State.resetsDue, h]
  rfl

theorem resetsDue_twin (h : v.rd H.RST_DUE 0 = 2) : v.resetsDue = (v.wr R.RST_CMD_TWIN 0 0).commandTwin.wr H.RST_DUE 0 0 := by
  rw [State.resetsDue, h]
  rfl

theorem resetsDue_block (h : v.rd H.RST_DUE 0 = 4) :
    v.resetsDue = ((v.wr R.RST_CMD_BLOCK 0 0).assertBlock R.RST_CAUSE_BLOCK_CMD).wr H.RST_DUE 0 0 := by
  rw [State.resetsDue, h]
  rfl

theorem resetsDue_hart {k : Nat} (hk : k < 4) (h : v.rd H.RST_DUE 0 = setBit 0 (4 + k) true % 256) :
    v.resetsDue = ((v.wr R.RST_CMD_HART k 0).commandHart k).wr H.RST_DUE 0 0 := by
  rw [State.resetsDue, h]
  interval_cases k <;> rfl

/-! ## Fields back at reset -/

theorem rd_clearFlds_self {fs : List Fld} {g : Fld} (hm : g ∈ fs) (hfs : (fs.all fun f => f == g || f.apart g) = true) (hs : 0 < g.stride)
    (hreset : ∀ k, g.resetAt k % 2 ^ g.wid = 0) (s : State) (k : Nat) : (s.clearFlds fs).rd g k = 0 := by
  by_cases hk : k < g.cnt
  · have hset (u : State) : (u.clearFld g).rd g k = 0 := by rw [rd_clearFld u hs hk, hreset]
    have hkeep (u : State) (f : Fld) (hf : (f == g || f.apart g) = true) (hu : u.rd g k = 0) : (u.clearFld f).rd g k = 0 := by
      obtain hf | hf := Bool.or_eq_true _ _ ▸ hf
      · rw [beq_iff_eq.1 hf]
        exact hset u
      · have hclear : Frame (.regs [f]) u (u.clearFld f) := (Frame.refl u).clearFld (by simp [Reach.has, Reach.samePlace])
        exact (hclear.rd (by simpa using hf) k).trans hu
    obtain ⟨a, b, rfl⟩ := List.append_of_mem hm
    rw [State.clearFlds, List.foldl_append, List.foldl_cons]
    refine List.foldlRecOn b _ (motive := fun u : State => u.rd g k = 0) (hset _) fun u hu f hf => hkeep u f ?_ hu
    exact List.all_eq_true.1 hfs f (by simp [hf])
  · unfold State.rd regsRd
    rw [if_neg hk, hreset]

/-! ## What a boundary with a reset leads to -/

section
variable {n k : Nat} {gf : Bool}

/-- The state after a boundary. -/
def State.bounded (s : State) (n : Nat) (gf : Bool) : State := s.recordsTogether (s.boundary n gf)

theorem exec_bounded (hseq : s.rd H.RST_SEQ 0 ≠ 1) : exec (.frameBoundary ⟨n, gf⟩) s = (s.bounded n gf).go := exec_frameBoundary _ hseq

theorem bounded_frame (s : State) (n : Nat) (gf : Bool) :
    Frame Frame.recordsTogetherReach (s.committed n gf).resetsDue.closed (s.bounded n gf) := by
  rw [State.bounded, boundary_committed, latched_closed]
  exact (Frame.refl _).recordsTogether

/-- After the resets, whether a live reload runs or not. -/
def Frame.boundedReach : Reach := closedReach.and <| liveReach.and recordsTogetherReach

theorem bounded_after (s : State) (n : Nat) (gf : Bool) : Frame Frame.boundedReach (s.committed n gf).resetsDue (s.bounded n gf) :=
  ((closed_frame _).mono (by decide +kernel)).andThen (bounded_frame s n gf)

/-- After the resets, where none runs. -/
theorem bounded_after_idle (h : (s.committed n gf).resetsDue.rd R.RUN_LIVE 0 = 0) :
    Frame (Frame.closedReach.and Frame.recordsTogetherReach) (s.committed n gf).resetsDue (s.bounded n gf) :=
  ((closed_frame_idle h).mono (by decide +kernel)).andThen (bounded_frame s n gf)

end

/-! ## The LE scope -/

/-- The slots' state. -/
def leSlotFields : List Fld :=
  [R.LE_SLOT_MODE_MODE, R.LE_SLOT_MODE_MODE_REQ, R.LE_SLOT_MODE_PLAUS_HOLD, R.LE_SLOT_MODE_PRESETS, R.LE_SLOT_OUT_CALC, R.LE_SLOT_OUT_OUT,
   R.LE_SLOT_INTEG_INTEG, R.LE_SLOT_PLAUS_RUN_CNT, R.LE_SLOT_PLAUS_RESID, R.LE_SLOT_CAP_ARM]

/-- The slots' flags and what their captures show. -/
def leFlagFields : List Fld :=
  [R.LE_SLOT_FLAGS_CLIP_LO, R.LE_SLOT_FLAGS_CLIP_HI, R.LE_SLOT_FLAGS_SLEWING, R.LE_SLOT_FLAGS_PLAUS, R.LE_SLOT_FLAGS_LUT_CLAMP,
   R.LE_SLOT_FLAGS_EXP_OVF, R.LE_SLOT_FLAGS_SAT_N, R.LE_SLOT_FLAGS_SAT_P, R.LE_SLOT_CAP_STAT_TRIGGERED, R.LE_SLOT_CAP_STAT_DONE,
   R.LE_SLOT_CAP_STAT_TRIG_IDX, R.LE_SLOT_CAP_STAT_FULL, R.LE_SLOT_CAP_STAT_WPTR]

theorem resetLe_eq (u : State) : u.resetLe = (((u.gateFreed.clearFlds leSlotFields).clearFlds leFlagFields).clearHidden 1).stopMap := rfl

def Frame.leRestReach : Reach := stopMapReach.and (.regs [hiddenSpan 1])

def Frame.resetLeReach : Reach := dropGateReach.and <| leRestReach.and (.regs (leSlotFields ++ leFlagFields))

theorem resetLe_frame (u : State) : Frame Frame.resetLeReach u u.resetLe := by
  rw [resetLe_eq]
  exact (((((gateFreed_frame u).mono (by decide +kernel)).clearFlds).clearFlds).clearHidden).stopMap

theorem resetLe_says (u : State) (l : Nat) : u.resetLe.mode l = 0 ∧ u.resetLe.rd R.LE_SLOT_INTEG_INTEG l = 0
    ∧ u.resetLe.bit R.LE_SLOT_FLAGS_PLAUS l = false := by
  have hrest (v : State) : Frame Frame.leRestReach v (v.clearHidden 1).stopMap := ((Frame.refl v).clearHidden).stopMap
  have hflags (v : State) : Frame (.regs leFlagFields) v (v.clearFlds leFlagFields) := (Frame.refl v).clearFlds
  rw [resetLe_eq]
  refine ⟨?_, ?_, ?_⟩
  · rw [State.mode, (hrest _).rd (by decide +kernel), (hflags _).rd (by decide +kernel)]
    exact rd_clearFlds_self (by decide) (by decide +kernel) (by decide) (fun _ => rfl) _ l
  · rw [(hrest _).rd (by decide +kernel), (hflags _).rd (by decide +kernel)]
    exact rd_clearFlds_self (by decide) (by decide +kernel) (by decide) (fun _ => rfl) _ l
  · rw [(hrest _).bit (by decide +kernel), State.bit, rd_clearFlds_self (by decide) (by decide +kernel) (by decide) (fun _ => rfl) _ l]
    rfl

/-- The stage pool lies above the slots, whose last row it meets. -/
theorem stageOp_same {l : List Fld} (h : OnlyKinds l s t) (habove : (l.all fun f => f.outside 0x8C0200 0x900000) = true)
    (hfirst : ((List.range 8).all fun k => l.all fun f => f.apart (R.LE_STAGE_OP.elemOf k 512)) = true) (k : Nat) :
    t.rd R.LE_STAGE_OP k = s.rd R.LE_STAGE_OP k := by
  by_cases hk : k < 8
  · exact h.rdElemOf 512 (show k < 4096 by omega) (List.all_eq_true.1 hfirst k (List.mem_range.2 hk))
  · by_cases hcnt : k < 4096
    · have hkey : R.LE_STAGE_OP.key k = 0x8C0000 + 64 * k := rfl
      exact h.rdRange habove (by omega) (by omega)
    · unfold State.rd regsRd
      rw [if_neg (show ¬ k < R.LE_STAGE_OP.cnt from hcnt), if_neg (show ¬ k < R.LE_STAGE_OP.cnt from hcnt)]

section
variable {n k : Nat} {gf : Bool}

theorem boundary_resetLe (hseq : s.rd H.RST_SEQ 0 ≠ 1) (hdue : s.rd H.RST_DUE 0 = 0) (hst : s.staged = [⟨0, .reset 0⟩]) :
    Completes (.frameBoundary ⟨n, gf⟩) s fun t =>
      t.bit R.RST_STAT_LE 0 = true ∧ t.bit R.RST_CAUSE_LE_CMD 0 = true ∧ t.bit R.RST_CMD_LE 0 = false ∧ t.runEn = false
        ∧ t.rd R.RUN_STATE 0 = 0
        ∧ (∀ l, t.mode l = 0 ∧ t.rd R.LE_SLOT_INTEG_INTEG l = 0 ∧ t.bit R.LE_SLOT_FLAGS_PLAUS l = false)
        ∧ (s.map.shadow = none → s.rd H.TOP_PREP_ST 0 ≠ 2 → (∀ k, t.rd R.LE_STAGE_OP k = s.rd R.LE_STAGE_OP k)
            ∧ (∀ l, t.rd R.LE_SLOT_CFG_DIV l = s.rd R.LE_SLOT_CFG_DIV l))
        ∧ t.staged = [] := by
  have hresets := resetsDue_le (committed_due (n := n) (gf := gf) hst hdue)
  have hstaged := committed_staged (n := n) (gf := gf) hst
  have hquiet := committed_quiet (n := n) (gf := gf) hst
  have hend := bounded_after_idle (s := s) (n := n) (gf := gf)
  rw [hresets] at hend
  generalize s.committed n gf = v at *
  obtain ⟨hen, hstate, hlive, -⟩ := stopMap_stops ((((v.wr R.RST_CMD_LE 0 0).gateFreed.clearFlds leSlotFields).clearFlds leFlagFields).clearHidden 1)
  rw [← resetLe_eq] at hen hstate hlive
  have hsays := resetLe_says (v.wr R.RST_CMD_LE 0 0)
  have hle := resetLe_frame (v.wr R.RST_CMD_LE 0 0)
  have hcmd : (v.wr R.RST_CMD_LE 0 0).resetLe.bit R.RST_CMD_LE 0 = false := (hle.bit (by decide +kernel) 0).trans (State.bit_unset _ (by decide))
  have hfirst : Frame (.regs [R.RST_CMD_LE]) v (v.wr R.RST_CMD_LE 0 0) := (Frame.refl v).wr
  generalize hw : v.wr R.RST_CMD_LE 0 0 = w at *
  have hpost : Frame (.regs [R.RST_STAT_LE, R.RST_CAUSE_LE_CMD, H.RST_DUE]) w.resetLe (w.commandLe.wr H.RST_DUE 0 0) :=
    (((Frame.refl _).wr).wr).wr
  have hstat : (w.commandLe.wr H.RST_DUE 0 0).bit R.RST_STAT_LE 0 = true :=
    (State.bit_wr_apart _ (by decide) ..).trans ((State.bit_wr_apart _ (by decide) ..).trans (State.bit_set _ (by decide) rfl))
  have hcause : (w.commandLe.wr H.RST_DUE 0 0).bit R.RST_CAUSE_LE_CMD 0 = true :=
    (State.bit_wr_apart _ (by decide) ..).trans (State.bit_set _ (by decide) rfl)
  have hend := hend (by rw [hpost.rd (by decide), hlive])
  refine .of_go (exec_bounded hseq) ⟨?_, ?_, ?_, ?_, ?_, fun l => ?_, fun hshadow hprep => ?_, ?_⟩
  · rw [hend.bit (by decide +kernel), hstat]
  · rw [hend.bit (by decide +kernel), hcause]
  · rw [hend.bit (by decide +kernel), hpost.bit (by decide), hcmd]
  · rw [State.runEn, hend.bit (by decide +kernel), hpost.bit (by decide)]
    exact hen
  · rw [hend.rd (by decide +kernel), hpost.rd (by decide), hstate]
  · obtain ⟨hmode, hinteg, hplaus⟩ := hsays l
    refine ⟨?_, ?_, ?_⟩
    · rw [State.mode, hend.rd (by decide +kernel), hpost.rd (by decide)]
      exact hmode
    · rw [hend.rd (by decide +kernel), hpost.rd (by decide), hinteg]
    · rw [hend.bit (by decide +kernel), hpost.bit (by decide), hplaus]
  · have hbefore := hquiet hshadow hprep
    refine ⟨fun k => ?_, fun l => ?_⟩
    · rw [stageOp_same hend.kinds (by decide +kernel) (by decide +kernel), stageOp_same hpost.kinds (by decide +kernel) (by decide +kernel),
        stageOp_same hle.kinds (by decide +kernel) (by decide +kernel), stageOp_same hfirst.kinds (by decide +kernel) (by decide +kernel),
        stageOp_same hbefore.kinds (by decide +kernel) (by decide +kernel)]
    · rw [hend.rd (by decide +kernel), hpost.rd (by decide), hle.rd (by decide +kernel), hfirst.rd (by decide), hbefore.rd (by decide +kernel)]
  · rw [hend.staged (by decide +kernel), hpost.staged, hle.staged (by decide +kernel), hfirst.staged, hstaged]

end

end Sys2Proof.Machine
end

section
/-! The TWIN, BLOCK and HART scopes assert at a boundary, and what every reset scope leaves (R15, R491, R495). -/

set_option Elab.async false

namespace Sys2Proof.Machine

variable {s : State}

section
variable {n k : Nat} {gf : Bool}

theorem boundary_resetTwin (hseq : s.rd H.RST_SEQ 0 ≠ 1) (hdue : s.rd H.RST_DUE 0 = 0) (hst : s.staged = [⟨0, .reset 1⟩]) :
    Completes (.frameBoundary ⟨n, gf⟩) s fun t =>
      t.bit R.RST_STAT_TWIN 0 = true ∧ t.bit R.RST_CAUSE_TWIN_CMD 0 = true ∧ t.bit R.RST_CMD_TWIN 0 = false ∧ t.role = 0
        ∧ t.bit R.STATUS_READY 0 = false ∧ t.staged = [] := by
  have hresets := resetsDue_twin (committed_due (n := n) (gf := gf) hst hdue)
  have hstaged := committed_staged (n := n) (gf := gf) hst
  have hend := bounded_after s n gf
  have hrecords := bounded_frame s n gf
  rw [hresets] at hend hrecords
  generalize s.committed n gf = v at *
  have hfirst : Frame (.regs [R.RST_CMD_TWIN]) v (v.wr R.RST_CMD_TWIN 0 0) := (Frame.refl v).wr
  have hunset : (v.wr R.RST_CMD_TWIN 0 0).bit R.RST_CMD_TWIN 0 = false := State.bit_unset _ (by decide)
  generalize v.wr R.RST_CMD_TWIN 0 0 = w at *
  have htwin : Frame (Frame.dropGateReach.and Frame.resetTwinReach) w w.resetTwin :=
    ((gateFreed_frame w).mono (by decide +kernel)).andThen (twinCleared_frame _ w)
  have hrole : w.resetTwin.role = 0 := twinCleared_role _ w
  have hpost : Frame (.regs [R.RST_STAT_TWIN, R.RST_CAUSE_TWIN_CMD, H.RST_DUE]) w.resetTwin (w.commandTwin.wr H.RST_DUE 0 0) :=
    (((Frame.refl _).wr).wr).wr
  have hdetached : (w.commandTwin.wr H.RST_DUE 0 0).role = 0 := (hpost.rd (by decide) 0).trans hrole
  have hstat : (w.commandTwin.wr H.RST_DUE 0 0).bit R.RST_STAT_TWIN 0 = true :=
    (State.bit_wr_apart _ (by decide) ..).trans ((State.bit_wr_apart _ (by decide) ..).trans (State.bit_set _ (by decide) rfl))
  have hcause : (w.commandTwin.wr H.RST_DUE 0 0).bit R.RST_CAUSE_TWIN_CMD 0 = true :=
    (State.bit_wr_apart _ (by decide) ..).trans (State.bit_set _ (by decide) rfl)
  refine .of_go (exec_bounded hseq) ⟨?_, ?_, ?_, ?_, ?_, ?_⟩
  · rw [hend.bit (by decide +kernel), hstat]
  · rw [hend.bit (by decide +kernel), hcause]
  · rw [hend.bit (by decide +kernel), hpost.bit (by decide), htwin.bit (by decide +kernel), hunset]
  · rw [State.role, hend.rd (by decide +kernel)]
    exact hdetached
  · rw [hrecords.bit (by decide), closed_notReady hdetached]
  · rw [hend.staged (by decide +kernel), hpost.staged, htwin.staged (by decide +kernel), hfirst.staged, hstaged]

theorem boundary_resetBlock (hseq : s.rd H.RST_SEQ 0 ≠ 1) (hdue : s.rd H.RST_DUE 0 = 0) (hst : s.staged = [⟨0, .reset 2⟩]) :
    Completes (.frameBoundary ⟨n, gf⟩) s fun t =>
      t.bit R.RST_STAT_BLOCK 0 = true ∧ t.bit R.RST_CAUSE_BLOCK_CMD 0 = true ∧ t.bit R.RST_CMD_BLOCK 0 = false
        ∧ t.runEn = false ∧ t.role = 0 ∧ t.map.live = none ∧ (∀ m, t.mode m = 0) ∧ t.staged = [] := by
  have hresets := resetsDue_block (committed_due (n := n) (gf := gf) hst hdue)
  have hstaged := committed_staged (n := n) (gf := gf) hst
  have hend := bounded_after_idle (s := s) (n := n) (gf := gf)
  rw [hresets] at hend
  generalize s.committed n gf = v at *
  have hfirst : Frame (.regs [R.RST_CMD_BLOCK]) v (v.wr R.RST_CMD_BLOCK 0 0) := (Frame.refl v).wr
  have hunset : (v.wr R.RST_CMD_BLOCK 0 0).bit R.RST_CMD_BLOCK 0 = false := State.bit_unset _ (by decide)
  generalize v.wr R.RST_CMD_BLOCK 0 0 = w at *
  obtain ⟨hstat, hcause, hen, -, hrole, -, -, -, -, hmode, -, hmap, -⟩ :=
    assertBlock_says (cause := R.RST_CAUSE_BLOCK_CMD) w (by decide) rfl (by decide)
  obtain ⟨-, -, hlive, -⟩ := resetBlock_says w
  have hblock := resetBlock_frame w
  have hassert : Frame (.regs [R.RST_STAT_BLOCK, R.RST_CAUSE_BLOCK_CMD]) w.resetBlock (w.assertBlock R.RST_CAUSE_BLOCK_CMD) :=
    ((Frame.refl _).wr).wr
  have hempty : (w.assertBlock R.RST_CAUSE_BLOCK_CMD).staged = [] := by
    have hpart : w.resetBlock.staged = (w.resetTwin.blockEngines.blockMiddle.blockThermal.blockStopped).staged.filter fun x => keptAct x.act := rfl
    have hto : Frame (Frame.dropGateReach.and <| Frame.resetTwinReach.and <| Frame.blockLowReach.and <| Frame.thermalReach.and <|
        Frame.aboveReach.and Frame.stoppedReach) w w.resetTwin.blockEngines.blockMiddle.blockThermal.blockStopped :=
      ((((((gateFreed_frame w).mono (by decide +kernel)).andThen (twinCleared_frame _ w)).andThen (blockLow_frame _)).andThen
        (resetThermal_frame _)).andThen (blockAbove_frame _)).andThen (blockStopped_frame _)
    rw [hassert.staged, hpart, hto.staged (by decide +kernel), hfirst.staged, hstaged]
    rfl
  have hcmd : (w.assertBlock R.RST_CAUSE_BLOCK_CMD).bit R.RST_CMD_BLOCK 0 = false := by
    rw [hassert.bit (by decide), hblock.bit (by decide +kernel), hunset]
  have hnolive : (w.assertBlock R.RST_CAUSE_BLOCK_CMD).rd R.RUN_LIVE 0 = 0 := by rw [hassert.rd (by decide), hlive]
  generalize w.assertBlock R.RST_CAUSE_BLOCK_CMD = x at *
  have hpost : Frame (.regs [H.RST_DUE]) x (x.wr H.RST_DUE 0 0) := (Frame.refl x).wr
  have hend := hend (by rw [hpost.rd (by decide), hnolive])
  refine .of_go (exec_bounded hseq) ⟨?_, ?_, ?_, ?_, ?_, ?_, fun l => ?_, ?_⟩
  · rw [hend.bit (by decide +kernel), hpost.bit (by decide), hstat]
  · rw [hend.bit (by decide +kernel), hpost.bit (by decide), hcause]
  · rw [hend.bit (by decide +kernel), hpost.bit (by decide), hcmd]
  · rw [State.runEn, hend.bit (by decide +kernel), hpost.bit (by decide)]
    exact hen
  · rw [State.role, hend.rd (by decide +kernel), hpost.rd (by decide)]
    exact hrole
  · rw [hend.map (by decide +kernel), hpost.map, hmap]
  · rw [State.mode, hend.rd (by decide +kernel), hpost.rd (by decide)]
    exact hmode l
  · rw [hend.staged (by decide +kernel), hpost.staged, hempty]

theorem boundary_resetHart (hseq : s.rd H.RST_SEQ 0 ≠ 1) (hdue : s.rd H.RST_DUE 0 = 0) (hk : k < 4) (hst : s.staged = [⟨0, .reset (4 + k)⟩]) :
    Completes (.frameBoundary ⟨n, gf⟩) s fun t =>
      t.bit R.RST_STAT_HART k = true ∧ t.bit R.RST_CAUSE_HART_CMD k = true ∧ t.bit R.RST_CMD_HART k = false
        ∧ t.rd R.FW_HART_STAT_STATE k = 3
        ∧ t.rd R.FW_HART_STAT_RESTARTS k = satAdd R.FW_HART_STAT_RESTARTS.wid (s.rd R.FW_HART_STAT_RESTARTS k) 1
        ∧ (∀ j < 4, j ≠ k → t.rd R.FW_HART_STAT_STATE j = s.rd R.FW_HART_STAT_STATE j) ∧ t.staged = [] := by
  have hresets := resetsDue_hart hk (committed_due (n := n) (gf := gf) hst hdue)
  have hstaged := committed_staged (n := n) (gf := gf) hst
  have hbefore := committed_frame (n := n) (gf := gf) hst
  have hend := bounded_after s n gf
  rw [hresets] at hend
  generalize s.committed n gf = v at *
  have hfirst : Frame (.regs [R.RST_CMD_HART]) v (v.wr R.RST_CMD_HART k 0) := (Frame.refl v).wr
  have hunset : (v.wr R.RST_CMD_HART k 0).bit R.RST_CMD_HART k = false := State.bit_unset _ hk
  generalize v.wr R.RST_CMD_HART k 0 = w at *
  obtain ⟨hstate, hheld, hcount, hother⟩ := resetHart_held hk w
  have hpost : Frame (.regs [R.RST_CAUSE_HART_CMD, H.RST_DUE]) (w.resetHart k) ((w.commandHart k).wr H.RST_DUE 0 0) := ((Frame.refl _).wr).wr
  have hall : Frame Frame.resetHartReach w (w.resetHart k) := (Frame.refl w).resetHart
  have hcause : ((w.commandHart k).wr H.RST_DUE 0 0).bit R.RST_CAUSE_HART_CMD k = true :=
    (State.bit_wr_apart _ (by decide) ..).trans (State.bit_set _ hk rfl)
  refine .of_go (exec_bounded hseq) ⟨?_, ?_, ?_, ?_, ?_, fun j _ hj => ?_, ?_⟩
  · rw [hend.bit (by decide +kernel), hpost.bit (by decide), hheld]
  · rw [hend.bit (by decide +kernel), hcause]
  · rw [hend.bit (by decide +kernel), hpost.bit (by decide), hall.bit (by decide +kernel), hunset]
  · rw [hend.rd (by decide +kernel), hpost.rd (by decide), hstate]
  · rw [hend.rd (by decide +kernel), hpost.rd (by decide), hcount, hfirst.rd (by decide), hbefore.rd (by decide +kernel)]
  · rw [hend.rd (by decide +kernel), hpost.rd (by decide), hother j hj, hfirst.rd (by decide), hbefore.rd (by decide +kernel)]
  · rw [hend.staged (by decide +kernel), hpost.staged, hall.staged (by decide +kernel), hfirst.staged, hstaged]

end

/-- Settles O34, scope by scope. -/
theorem resetScopesLeaveWhatTheyName : Obligations.ResetScopesLeaveWhatTheyName := by
  unfold Obligations.ResetScopesLeaveWhatTheyName
  exact ⟨fun _ h => keepPowerUp_bares h,
    fun s => porAssert_keeps s,
    fun _ _ h => holdN_filtered h,
    fun _ _ h => holdN_sure h,
    fun _ _ h hidle => holdN_phases h hidle,
    fun _ _ hw => rstBlock_stages hw,
    fun _ _ hw => rstLe_stages hw,
    fun _ _ hw => rstTwin_stages hw,
    fun _ hrun => resetRelease_frees hrun,
    fun _ h => keepPowerUp_recovers h,
    fun _ _ h1 h2 => holdN_open h1 h2,
    fun _ hstop => release_idles hstop,
    fun _ _ _ hseq hdue hst => boundary_resetLe hseq hdue hst,
    fun _ _ _ hseq hdue hst => boundary_resetTwin hseq hdue hst,
    fun _ _ _ hseq hdue hst => boundary_resetBlock hseq hdue hst,
    fun _ _ _ _ hseq hdue hk hst => boundary_resetHart hseq hdue hk hst⟩

end Sys2Proof.Machine
end
